-- ==== Sys2Proof/Word.lean ====
section
/-! DEFINITION. The word types of the NRW-8840 block: bytes, 32-bit register words and 40-bit physical
addresses (R44, R50), and the two plainest conversions between them and natural numbers. -/

namespace Sys2Proof

/-- A byte of memory. -/
abbrev Byte := BitVec 8
/-- A 32-bit register word; R50 makes every register access 32 bits wide. -/
abbrev Word := BitVec 32
/-- A physical address of the 40-bit space of R44. -/
abbrev Addr := BitVec 40

end Sys2Proof
end

