-- ==== Sys2Proof/Machine/Types.lean ====
section
/-! DEFINITION. The types of the commands' operands. -/

namespace Sys2Proof.Machine

/-- Who sends a register access: the manager, the safety island, the boot ROM, an instance through a view slot, or the host in the recovery state
(R47, R49, R76, R78). -/
inductive Who where
  | mgr | saf | boot
  | inst (k : Fin 64) (slot : Fin 224)
  | host
deriving DecidableEq, Repr

/-- What error checking finds in a word that is read: no error, a corrected one, or one it cannot correct. -/
inductive Ecc where
  | clean | ce | ue
deriving DecidableEq, Repr

/-- Privilege mode of an application hart: HS, U under HS, VS, VU (R107). -/
inductive Mode where
  | hs | u | vs | vu
deriving DecidableEq, Repr

/-- What address translation answers: a physical address, or a page fault, which may be a guest-page fault. -/
inductive Xlat where
  | pa (a : Addr)
  | fault (guest : Bool)
deriving DecidableEq, Repr

/-- The registers a hart holds when a PASS command or an exit happens: pc, then integer, floating-point and vector registers and
vector CSRs as (number, value) pairs, numbers rising, zeros left out. -/
structure HartCtx where
  pc   : BitVec 64
  x    : List (Fin 32 × BitVec 64)
  f    : List (Fin 32 × BitVec 64)
  v    : List (Fin 32 × BitVec 256)
  vcsr : List (BitVec 12 × BitVec 64)
deriving DecidableEq, Repr

/-- What is observed of the frame a head has just sent, beyond what its state decides: whether the output tap and the pre-Lantern
tap saw every line with every pixel, whether Mirror's checkers agree, faults of the output stream as a difference in a region's
CRC, bytes Glint read, and whether the sink's lane status shows a lane without lock (R323 to R325, R346). -/
structure FrameObs where
  outOk   : Bool
  preOk   : Bool
  agree   : Bool
  crcDiff : List (Fin 48 × Word)
  glintBytes : Nat
  unlocked : Bool
deriving DecidableEq, Repr

/-- A conversion slot of a touch scan: the ports whose published high-slew intervals it overlaps, those its repeat overlaps if a slot was found
for one, and the reference balancing pulses counted on each channel measured (R367, R371). -/
structure SlotObs where
  hs    : BitVec 8
  again : Option (BitVec 8)
  bal   : List Nat
deriving DecidableEq, Repr

/-- A registered fence wait: of a ring's next job, or another, by its key (a graphics context, or a layer record of a commit packet) (R195). -/
inductive WaitRef where
  | ring (r : Fin 262144)
  | other (key : Nat)
deriving DecidableEq, Repr

/-- A bus operation: a read of a number of bytes, an instruction fetch, or a write of bytes. -/
inductive MemOp where
  | read (n : Nat)
  | fetch (n : Nat)
  | write (d : List Byte)
deriving DecidableEq, Repr

/-- A request at a DRAM port: the port, requester ID, address, whether it writes and what, whether it writes a critical capture ring, and its
page-policy hint (R159 to R165). -/
structure DramReq where
  port     : Fin 17
  rid      : Byte
  pa       : Addr
  write    : Bool
  data     : List Byte
  critical : Bool
  hint     : Bool
deriving DecidableEq, Repr

/-- Who makes a memory access: an application hart in a mode, an engine for the owner of the ring, context or layer it serves, through its port and with a page-policy hint, a device function
of its own, or the safety island (R107). -/
inductive Initiator where
  | hart (h : Fin 16) (m : Mode)
  | engine (owner : Byte) (port : Fin 17) (hint : Bool)
  | device
  | safety
deriving DecidableEq, Repr

/-- What the work of a graphics packet does outside the front-end, as native shader code and the geometry decide it:
whether the bound pipeline's targets match the open pass, the batches binned as (bytes, tiles touched), the reads made, the stores to memory, and the
stores that the end of the open pass makes into its targets. -/
structure GfxFx where
  match_  : Bool
  batches : List (Nat × List Nat)
  reads   : List (Addr × Nat)
  writes  : List (Addr × List Byte)
  ends    : List (Addr × List Byte)
deriving DecidableEq, Repr

end Sys2Proof.Machine
end

