-- ==== Sys2Proof/Syntax.lean ====
section
/-! DEFINITION. The commands of the block: one constructor for each row of the opcode table. -/

namespace Sys2Proof

open Machine in
/-- The commands, in the order of the opcode table; each names the row and the rule it belongs to, and the meaning's own comment says what its
operands are. -/
inductive Instr where
  /-- REGISTER_WRITE (R450). -/
  | registerWrite (w : Who) (page : Fin 256) (off : BitVec 12) (v : Word)
  /-- REG_READ_LO_LATCH (R53). -/
  | regReadLoLatch (w : Who) (page : Fin 256) (off : BitVec 12)
  /-- REG_WRITE_HI (R53). -/
  | regWriteHi (w : Who) (page : Fin 256) (off : BitVec 12) (v : Word)
  /-- COMMIT (R61). -/
  | commit (w : Who) (page : Fin 256)
  /-- COMMIT_APPLY (R61). -/
  | commitApply (page : Fin 256)
  /-- COMMIT_REVERT (R61). -/
  | commitRevert (w : Who) (page : Fin 256)
  /-- SOFT_RESET (R55). -/
  | softReset (w : Who) (page : Fin 256) (enable : Bool)
  /-- PG_OWNER_WRITE (R56). -/
  | pgOwnerWrite (w : Who) (page : Fin 256) (v : Word)
  /-- EV_RAW_CLEAR (R57). -/
  | evRawClear (w : Who) (page : Fin 256) (v : Word)
  /-- EV_FORCE (R57). -/
  | evForce (w : Who) (page : Fin 256) (v : Word)
  /-- ERR_CODE_CLEAR (R59). -/
  | errCodeClear (w : Who) (page : Fin 256)
  /-- LOCK_SET (R63). -/
  | lockSet (w : Who) (page : Fin 256)
  /-- MEMORY_ACCESS (R111). -/
  | memoryAccess (who : Initiator) (a : Addr) (op : MemOp)
  /-- BASIN_WINDOW_ACCESS (R278). -/
  | basinWindowAccess (off : BitVec 28) (op : MemOp) (find : Ecc)
  /-- VIN_POWER_ON (R39). -/
  | vinPowerOn
  /-- RAIL_GOOD (R39). -/
  | railGood
  /-- RAIL_START_TIMEOUT (R39). -/
  | railStartTimeout
  /-- RESET_N_ASSERT (R38). -/
  | resetNAssert
  /-- RESET_N_RELEASE (R38). -/
  | resetNRelease
  /-- VIN_UNDERVOLTAGE (R33). -/
  | vinUndervoltage
  /-- VIN_OVERVOLTAGE (R33). -/
  | vinOvervoltage
  /-- VIN_RECOVER (R33). -/
  | vinRecover
  /-- AON_BROWNOUT (R93). -/
  | aonBrownout
  /-- SAFETY_DOMAIN_BOOT (R79). -/
  | safetyDomainBoot (readErr : Bool)
  /-- DISPLAY_DOMAIN_RESET (R67). -/
  | displayDomainReset
  /-- MAIN_BOOT (R79). -/
  | mainBoot (errA : Bool) (errB : Bool) (pass : Vector (BitVec 4) 8) (delay : Vector (BitVec 6) 8)
  /-- MANAGER_RELEASE (R79). -/
  | managerRelease
  /-- MAIN_RESET_CMD (R80). -/
  | mainResetCmd (w : Who) (key : BitVec 16)
  /-- DISPLAY_RESET_CMD (R80). -/
  | displayResetCmd (w : Who) (key : BitVec 16)
  /-- FL_READ (R80). -/
  | flRead (w : Who)
  /-- FL_PROGRAM (R80). -/
  | flProgram (w : Who)
  /-- FL_ERASE (R80). -/
  | flErase (w : Who)
  /-- FL_DONE (R80). -/
  | flDone (ok : Bool)
  /-- KEY_REVOKE (R80). -/
  | keyRevoke (w : Who) (v : Word)
  /-- STATE_REQ_SLEEP (R84). -/
  | stateReqSleep (w : Who)
  /-- STATE_REQ_DEEP_SLEEP (R84). -/
  | stateReqDeepSleep (w : Who)
  /-- STATE_REQ_OFF (R84). -/
  | stateReqOff (w : Who)
  /-- SAFETY_GRANT (R85). -/
  | safetyGrant (grant : Bool)
  /-- SAFETY_GRANT_TIMEOUT (R84). -/
  | safetyGrantTimeout
  /-- ENTRY_DRAIN_DONE (R86). -/
  | entryDrainDone
  /-- DRAIN_LIMIT_EXPIRY (R86). -/
  | drainLimitExpiry
  /-- ENTRY_HEADS_BLANKED (R86). -/
  | entryHeadsBlanked
  /-- ENTRY_CACHES_WRITTEN (R86). -/
  | entryCachesWritten
  /-- SELF_REFRESH_ENTERED (R86). -/
  | selfRefreshEntered
  /-- TARGET_STATE_REACHED (R86). -/
  | targetStateReached
  /-- WAKE_EVENT (R87). -/
  | wakeEvent (n : Fin 5)
  /-- WAKE_PIN (R89). -/
  | wakePin
  /-- DEVTIME_ALARM (R89). -/
  | devtimeAlarm
  /-- SAFETY_WAKE_REQUEST (R89). -/
  | safetyWakeRequest
  /-- SLEEP_DEEP_AFTER_EXPIRY (R88). -/
  | sleepDeepAfterExpiry
  /-- EXIT_REGULATORS_READY (R90). -/
  | exitRegulatorsReady
  /-- EXIT_OSCILLATOR_READY (R90). -/
  | exitOscillatorReady
  /-- EXIT_MEMORY_READY (R90). -/
  | exitMemoryReady
  /-- EXIT_LOGIC_READY (R90). -/
  | exitLogicReady (readErr : Bool)
  /-- EXIT_STEP_TIMEOUT (R90). -/
  | exitStepTimeout (rail : Fin 5)
  /-- RAIL_OPP_REQUEST (R97). -/
  | railOppRequest (w : Who) (n : Fin 2) (v : Word)
  /-- RAIL_ACK (R96). -/
  | railAck (n : Fin 4)
  /-- RAIL_ACK_TIMEOUT (R98). -/
  | railAckTimeout (n : Fin 4)
  /-- FIXED_RAIL_FAULT (R98). -/
  | fixedRailFault (n : Fin 5)
  /-- TEMP_SAMPLE (R99). -/
  | tempSample (temps : Vector (BitVec 11) 16)
  /-- THERMAL_RESTART (R99). -/
  | thermalRestart
  /-- REF_LOST (R103). -/
  | refLost
  /-- PLL_UNLOCK (R103). -/
  | pllUnlock (k : Fin 24)
  /-- PLL_RELOCK (R103). -/
  | pllRelock (k : Fin 24)
  /-- XTAL32_STOP (R438). -/
  | xtal32Stop
  /-- INSTANCE_TAG_WRITE (R108). -/
  | instanceTagWrite (h : Fin 16) (m : Mode) (pc : BitVec 64) (v : BitVec 64)
  /-- POT_SET (R114). -/
  | potSet (w : Who) (keep : Bool)
  /-- POT_SET_ATTR (R114). -/
  | potSetAttr (w : Who) (keep : Bool)
  /-- POT_SHARE (R114). -/
  | potShare (w : Who) (keep : Bool)
  /-- POT_EPOCH_DRAINED (R116). -/
  | potEpochDrained
  /-- POT_CMD_DONE (R116). -/
  | potCmdDone
  /-- INST_CREATE (R120). -/
  | instCreate (w : Who)
  /-- INST_START (R118). -/
  | instStart (w : Who)
  /-- INST_QUIESCE (R122). -/
  | instQuiesce (w : Who) (scrub : Bool)
  /-- QUIESCE_DRAIN_DONE (R122). -/
  | quiesceDrainDone (k : Fin 64)
  /-- QUIESCE_LIMIT_EXPIRY (R122). -/
  | quiesceLimitExpiry (k : Fin 64)
  /-- OWNER_SWEEP (R121). -/
  | ownerSweep (o : Fin 128)
  /-- QUIESCE_DONE (R122). -/
  | quiesceDone (k : Fin 64)
  /-- INST_RESET (R118). -/
  | instReset (w : Who)
  /-- INST_REMOVE (R118). -/
  | instRemove (w : Who)
  /-- FUNCTION_LEVEL_RESET (R122). -/
  | functionLevelReset (f : Fin 64)
  /-- VF_MAP_WRITE (R123). -/
  | vfMapWrite (w : Who) (v : Word)
  /-- PCIE_REQUEST (R123). -/
  | pcieRequest (f : Fin 64) (bar2 : Bool) (off : BitVec 37) (op : MemOp)
  /-- VIEW_ENTRY_WRITE (R125). -/
  | viewEntryWrite (w : Who) (v : Word)
  /-- MBX_DATA_WRITE (R126). -/
  | mbxDataWrite (w : Who) (word : Fin 64) (v : Word)
  /-- MB_SEND (R126). -/
  | mbSend (w : Who) (v : Word)
  /-- MB_ACK (R126). -/
  | mbAck (w : Who) (v : Word)
  /-- MB_REARM (R124). -/
  | mbRearm (w : Who) (v : Word)
  /-- MGR_REARM (R124). -/
  | mgrRearm (w : Who) (v : Word)
  /-- VALE_OPEN (R132). -/
  | valeOpen (w : Who)
  /-- VALE_LOAD (R133). -/
  | valeLoad (w : Who) (gate : Bool)
  /-- VALE_SEAL (R133). -/
  | valeSeal (w : Who)
  /-- VALE_CLOSE (R135). -/
  | valeClose (w : Who)
  /-- VALE_CMD_DONE (R150). -/
  | valeCmdDone (v : Fin 64)
  /-- PASS_ENTER (R139). -/
  | passEnter (h : Fin 16) (m : Mode) (r1 : Fin 32) (r2 : Fin 32) (ctx : HartCtx) (desc : Xlat) (frame : Xlat) (entry : Xlat)
  /-- PASS_RET (R141). -/
  | passRet (h : Fin 16) (m : Mode) (ctx : HartCtx)
  /-- PASS_MARK (R138). -/
  | passMark (h : Fin 16)
  /-- SUSPENDING_EXIT (R142). -/
  | suspendingExit (h : Fin 16) (m : Mode) (interrupt : Bool) (cause : BitVec 64) (addr : BitVec 64) (ctx : HartCtx)
  /-- VALE_FAULT_EXIT (R143). -/
  | valeFaultExit (h : Fin 16)
  /-- DMA_OWNER_WRITE (R145). -/
  | dmaOwnerWrite (w : Who) (k : Fin 8) (v : Word)
  /-- SWDT_KICK (R148). -/
  | swdtKick (w : Who) (v : Word)
  /-- SWDT_TICK (R147). -/
  | swdtTick
  /-- SECURE_WDT_EXPIRY (R149). -/
  | secureWdtExpiry
  /-- DRAM_REQUEST (R164). -/
  | dramRequest (n : Fin 8) (arrive : List DramReq) (blocked : Nat) (find : Ecc)
  /-- DRAM_REFRESH (R157). -/
  | dramRefresh (n : Fin 8)
  /-- MR4_POLL (R156). -/
  | mr4Poll (temps : List Byte)
  /-- CA_REPLAY (R171). -/
  | caReplay (n : Fin 8) (late : Fin 64)
  /-- CA_RETRAIN_DONE (R172). -/
  | caRetrainDone (n : Fin 8)
  /-- SPARE_START (R174). -/
  | spareStart (w : Who) (n : Fin 8) (rank : Fin 4)
  /-- SPARE_CANCEL (R177). -/
  | spareCancel (w : Who) (n : Fin 8)
  /-- SPARE_COPY_DONE (R175). -/
  | spareCopyDone (n : Fin 8) (bad : List Addr)
  /-- QOS_WINDOW (R168). -/
  | qosWindow (slots : Nat)
  /-- PORT_RESERVATION_WRITE (R167). -/
  | portReservationWrite (w : Who) (rate : Bool) (v : Word)
  /-- ADMIT_EFF_WRITE (R167). -/
  | admitEffWrite (w : Who) (v : Word)
  /-- LIVENESS_TEST (R178). -/
  | livenessTest (mismatch : Bool) (latencyNs : Nat)
  /-- CTX_READ (R184). -/
  | ctxRead (w : Who)
  /-- CTX_WRITE (R187). -/
  | ctxWrite (w : Who)
  /-- CTX_ENABLE (R186). -/
  | ctxEnable (w : Who)
  /-- CTX_DISABLE (R187). -/
  | ctxDisable (w : Who)
  /-- RING_DISABLED (R187). -/
  | ringDisabled (r : Fin 262144)
  /-- CTX_MIGRATE (R208). -/
  | ctxMigrate (w : Who) (target : Fin 16)
  /-- MIGRATE_DONE (R208). -/
  | migrateDone (r : Fin 262144)
  /-- DOORBELL_PRODUCER_UPDATE (R190). -/
  | doorbellProducerUpdate (k : Fin 64) (r : Fin 4096) (tail : BitVec 24)
  /-- DOORBELL_CONSUMER_UPDATE (R189). -/
  | doorbellConsumerUpdate (k : Fin 64) (r : Fin 4096) (index : BitVec 24)
  /-- DOORBELL_FENCE_NOTIFY (R194). -/
  | doorbellFenceNotify (k : Fin 64) (slot : Fin 4096)
  /-- DOORBELL_RESUME (R206). -/
  | doorbellResume (k : Fin 64) (r : Fin 4096)
  /-- DOORBELL_ABORT (R206). -/
  | doorbellAbort (k : Fin 64) (r : Fin 4096)
  /-- RING_DOORBELL_INVALID (R189). -/
  | ringDoorbellInvalid (k : Fin 64) (r : Fin 4096) (v : Word)
  /-- DESCRIPTOR_FETCH (R191). -/
  | descriptorFetch (r : Fin 262144)
  /-- JOB_START (R193). -/
  | jobStart (cls : Fin 5) (n : Fin 16)
  /-- FENCE_WAIT_MET (R195). -/
  | fenceWaitMet (f : WaitRef)
  /-- FENCE_TIMEOUT (R196). -/
  | fenceTimeout (f : WaitRef)
  /-- COMPLETION_RECORD_WRITE (R199). -/
  | completionRecordWrite (q : Fin 262144)
  /-- CQ_IRQ_TIMER (R201). -/
  | cqIrqTimer (q : Fin 262144)
  /-- EVENT_RECORD_DELIVER (R202). -/
  | eventRecordDeliver (k : Fin 64)
  /-- DMA_GATHER (R203). -/
  | dmaGather (n : Fin 8)
  /-- DMA_SCATTER (R203). -/
  | dmaScatter (n : Fin 8)
  /-- DMA_FILL (R203). -/
  | dmaFill (n : Fin 8)
  /-- DMA_FENCE (R203). -/
  | dmaFence (n : Fin 8)
  /-- DMA_BUS_ERROR (R205). -/
  | dmaBusError (n : Fin 8)
  /-- DMA_JOB_DONE (R204). -/
  | dmaJobDone (n : Fin 8)
  /-- DMA_CTRL_RESUME (R206). -/
  | dmaCtrlResume (w : Who) (n : Fin 8)
  /-- DMA_CTRL_ABORT (R206). -/
  | dmaCtrlAbort (w : Who) (n : Fin 8)
  /-- DMA_HALT_TIMEOUT (R207). -/
  | dmaHaltTimeout (n : Fin 8)
  /-- SAFETY_FAULT_LINE (R221). -/
  | safetyFaultLine
  /-- EARLY_BACKLIGHT_OFF (R221). -/
  | earlyBacklightOff (h : Fin 8)
  /-- FAULT_READBACK (R222). -/
  | faultReadback (a : Bool) (b : Bool) (bad : BitVec 17)
  /-- FAULT_RELEASE (R222). -/
  | faultRelease
  /-- GFX_SUBMISSION (R235). -/
  | gfxSubmission (e : Fin 2)
  /-- GFX_STATE_TARGETS (R238). -/
  | gfxStateTargets (e : Fin 2) (fx : GfxFx)
  /-- GFX_STATE_VIEWPORT (R238). -/
  | gfxStateViewport (e : Fin 2)
  /-- GFX_STATE_SCISSOR (R238). -/
  | gfxStateScissor (e : Fin 2)
  /-- GFX_STATE_BLEND_CONST (R238). -/
  | gfxStateBlendConst (e : Fin 2)
  /-- GFX_STATE_DEPTH_BIAS (R238). -/
  | gfxStateDepthBias (e : Fin 2)
  /-- GFX_STATE_STENCIL_REF (R238). -/
  | gfxStateStencilRef (e : Fin 2)
  /-- GFX_BIND_PIPELINE (R242). -/
  | gfxBindPipeline (e : Fin 2)
  /-- GFX_BIND_SET (R239). -/
  | gfxBindSet (e : Fin 2)
  /-- GFX_BIND_VERTEX (R239). -/
  | gfxBindVertex (e : Fin 2)
  /-- GFX_BIND_INDEX (R239). -/
  | gfxBindIndex (e : Fin 2)
  /-- GFX_BIND_PUSH (R239). -/
  | gfxBindPush (e : Fin 2)
  /-- GFX_DRAW_DIRECT (R239). -/
  | gfxDrawDirect (e : Fin 2) (fx : GfxFx)
  /-- GFX_DRAW_INDEXED (R239). -/
  | gfxDrawIndexed (e : Fin 2) (fx : GfxFx)
  /-- GFX_DRAW_INDIRECT (R239). -/
  | gfxDrawIndirect (e : Fin 2) (fx : GfxFx)
  /-- GFX_DISPATCH_DIRECT (R239). -/
  | gfxDispatchDirect (e : Fin 2) (fx : GfxFx)
  /-- GFX_DISPATCH_INDIRECT (R239). -/
  | gfxDispatchIndirect (e : Fin 2) (fx : GfxFx)
  /-- GFX_BARRIER (R240). -/
  | gfxBarrier (e : Fin 2)
  /-- GFX_SIGNAL (R240). -/
  | gfxSignal (e : Fin 2)
  /-- GFX_WAIT (R240). -/
  | gfxWait (e : Fin 2)
  /-- GFX_TIMESTAMP_TOP (R240). -/
  | gfxTimestampTop (e : Fin 2)
  /-- GFX_TIMESTAMP_BOTTOM (R240). -/
  | gfxTimestampBottom (e : Fin 2)
  /-- GFX_JOB_END (R235). -/
  | gfxJobEnd (e : Fin 2) (fx : GfxFx)
  /-- COMPOSITOR_PREEMPT (R233). -/
  | compositorPreempt (e : Fin 2) (us : Nat) (stuck : BitVec 2)
  /-- PREEMPT_KILL_EXPIRY (R234). -/
  | preemptKillExpiry (e : Fin 2) (us : Nat)
  /-- JOB_LIMIT_EXPIRY (R248). -/
  | jobLimitExpiry (e : Fin 2)
  /-- GFX_CTX_FAULT (R249). -/
  | gfxCtxFault (e : Fin 2) (cause : Fin 7) (code : BitVec 16) (addr : Addr)
  /-- COMMIT_PACKET (R258). -/
  | commitPacket (n : Fin 4)
  /-- COMPOSE_FRAME_DONE (R268). -/
  | composeFrameDone (h : Fin 8)
  /-- LAYER_FETCH_ERROR (R269). -/
  | layerFetchError (h : Fin 8) (l : Fin 16) (code : BitVec 16) (addr : Addr)
  /-- LAYER_SUBST_FORCE (R261). -/
  | layerSubstForce (w : Who) (n : Fin 4) (v : Word)
  /-- COEF_DATA_WRITE (R263). -/
  | coefDataWrite (w : Who) (n : Fin 4) (v : Word)
  /-- WB_FRAME_DONE (R271). -/
  | wbFrameDone (h : Fin 8)
  /-- DISABLED_HEAD_LATCH (R260). -/
  | disabledHeadLatch (h : Fin 8)
  /-- BASIN_GRAN_WRITE (R275). -/
  | basinGranWrite (w : Who) (h : Fin 8) (v : Word)
  /-- BASIN_ECC_ERROR (R278). -/
  | basinEccError (h : Fin 8) (word : BitVec 25) (ue : Bool)
  /-- HEAD_ENABLE (R276). -/
  | headEnable (w : Who) (h : Fin 8)
  /-- HEAD_PLL_LOCK (R284). -/
  | headPllLock (h : Fin 8)
  /-- HEAD_PLL_RETRY (R284). -/
  | headPllRetry (h : Fin 8)
  /-- HEAD_DISABLE (R285). -/
  | headDisable (w : Who) (h : Fin 8)
  /-- VBLANK_START (R286). -/
  | vblankStart (h : Fin 8) (obs : FrameObs)
  /-- GRP_ARM (R288). -/
  | grpArm (w : Who) (v : Word)
  /-- GENLOCK_PULSE (R293). -/
  | genlockPulse (input : Fin 2) (falling : Bool)
  /-- GENLOCK_WINDOW_CLOSE (R293). -/
  | genlockWindowClose (h : Fin 8)
  /-- POSE_POST (R304). -/
  | posePost (w : Who) (g : Fin 2)
  /-- POSE_CHECK_DONE (R303). -/
  | poseCheckDone (g : Fin 2)
  /-- POSE_LATCH (R305). -/
  | poseLatch (g : Fin 2) (line : BitVec 13)
  /-- HEAD_SRC_WRITE (R317). -/
  | headSrcWrite (w : Who) (v : Word)
  /-- FRAME_START (R317). -/
  | frameStart (h : Fin 8)
  /-- MIRROR_STREAM_STOP (R324). -/
  | mirrorStreamStop (h : Fin 8)
  /-- LSRAM_DATA_ACCESS (R319). -/
  | lsramDataAccess (w : Who) (v : Option Word) (find : Ecc)
  /-- SAFE_SRAM_UE (R322). -/
  | safeSramUe
  /-- SL_TRANSACTION (R331). -/
  | slTransaction (d : List Byte)
  /-- SL_STATE (R333). -/
  | slState (seq : BitVec 16) (machine : Word) (needed : Byte) (vis : BitVec 48)
  /-- SL_CLEAR (R333). -/
  | slClear (seq : BitVec 16)
  /-- SL_LOG_REQ (R333). -/
  | slLogReq (seq : BitVec 16) (first : BitVec 16)
  /-- SL_WAKE (R333). -/
  | slWake (seq : BitVec 16)
  /-- SL_TIMEOUT (R334). -/
  | slTimeout
  /-- SWD_KICK (R312). -/
  | swdKick (w : Who) (v : Word)
  /-- SAFETY_WDT_EXPIRY (R313). -/
  | safetyWdtExpiry
  /-- LOCKSTEP_MISMATCH (R313). -/
  | lockstepMismatch
  /-- LOG_DATA_READ (R335). -/
  | logDataRead (w : Who)
  /-- LINK_ENABLE (R342). -/
  | linkEnable (w : Who) (n : Fin 8) (v : Word)
  /-- LINK_DISABLE (R344). -/
  | linkDisable (w : Who) (n : Fin 8) (v : Word)
  /-- LINK_POWER_UP (R342). -/
  | linkPowerUp (n : Fin 8)
  /-- LINK_TRAIN (R345). -/
  | linkTrain (n : Fin 8)
  /-- LINK_TRAIN_END (R345). -/
  | linkTrainEnd (n : Fin 8) (ok : Bool) (lanes : BitVec 4) (rate : BitVec 4)
  /-- LINK_RETRY (R345). -/
  | linkRetry (n : Fin 8)
  /-- LINK_HPD_TIMEOUT (R343). -/
  | linkHpdTimeout (n : Fin 8)
  /-- LINK_POWEROFF_TIMER (R344). -/
  | linkPoweroffTimer (n : Fin 8)
  /-- LINK_LOAD_FAULT (R346). -/
  | linkLoadFault (n : Fin 8) (wasInRange : Bool)
  /-- HPD_IRQ (R348). -/
  | hpdIrq (n : Fin 8) (unlocked : Bool)
  /-- HPD_UNPLUG (R348). -/
  | hpdUnplug (n : Fin 8)
  /-- HPD_PLUG (R348). -/
  | hpdPlug (n : Fin 8)
  /-- AUX_GO (R349). -/
  | auxGo (w : Who) (n : Fin 8) (v : Word)
  /-- AUX_DONE (R349). -/
  | auxDone (n : Fin 8) (reply : Fin 4) (count : Fin 17) (data : List Byte)
  /-- DSI_CMD_GO (R350). -/
  | dsiCmdGo (w : Who) (n : Fin 8) (v : Word)
  /-- DSI_SENT (R350). -/
  | dsiSent (n : Fin 8)
  /-- CSI_FRAME_START (R357). -/
  | csiFrameStart (n : Fin 16)
  /-- CSI_LONG_PACKET (R357). -/
  | csiLongPacket (n : Fin 16) (vc : BitVec 4) (dt : BitVec 6) (d : List Byte) (hdr : Ecc) (crcBad : Bool) (overflow : Bool)
  /-- CSI_FRAME_END (R357). -/
  | csiFrameEnd (n : Fin 16)
  /-- CAP_FRAME_WRITTEN (R357). -/
  | capFrameWritten (n : Fin 16)
  /-- CAP_WRITE_ERROR (R357). -/
  | capWriteError (n : Fin 16) (code : BitVec 16) (addr : Addr)
  /-- CAP_LOST (R357). -/
  | capLost (n : Fin 16)
  /-- TRIG_FIRE (R364). -/
  | trigFire (w : Who) (n : Fin 16)
  /-- TRIG_PULSE_DUE (R364). -/
  | trigPulseDue (n : Fin 16)
  /-- SURFACE_START (R373). -/
  | surfaceStart (p : Fin 8) (listen : List (List Nat)) (a : List Nat) (b : List Nat) (c : List Nat)
  /-- SCAN_START (R368). -/
  | scanStart (p : Fin 8)
  /-- SCAN_END (R372). -/
  | scanEnd (p : Fin 8) (slots : List SlotObs)
  /-- REPORT_WRITE (R381). -/
  | reportWrite (p : Fin 8)
  /-- SURF_REBASE (R372). -/
  | surfRebase (w : Who) (p : Fin 8) (v : Word)
  /-- SURF_SELFTEST (R376). -/
  | surfSelftest (w : Who) (p : Fin 8) (v : Word)
  /-- RPT_ENABLE (R381). -/
  | rptEnable (w : Who) (p : Fin 8)
  /-- RPT_CONS_WRITE (R381). -/
  | rptConsWrite (w : Who) (p : Fin 8) (v : Word)
  /-- WAKE_SCAN (R383). -/
  | wakeScan (p : Fin 8) (bal : List Nat)
  /-- PORT_POWER_ON (R389). -/
  | portPowerOn (w : Who) (p : Fin 8)
  /-- PORT_POWER_OFF (R389). -/
  | portPowerOff (w : Who) (p : Fin 8)
  /-- SURF_DETACH (R30). -/
  | surfDetach (p : Fin 8)
  /-- SURF_INSERT (R30). -/
  | surfInsert (p : Fin 8)
  /-- SURF_ID_READ_DONE (R390). -/
  | surfIdReadDone (p : Fin 8) (got : Option (List Byte × List Byte)) (a : List Byte) (b : List Byte)
  /-- AUTH_SIGN_DONE (R392). -/
  | authSignDone (p : Fin 8) (sig : Option (BitVec 256 × BitVec 256))
  /-- WEAR_BLOCK (R393). -/
  | wearBlock
  /-- WEAR_RECORD_WRITE (R394). -/
  | wearRecordWrite (p : Fin 8) (ok : Bool)
  /-- HV_ENABLE_WRITE (R396). -/
  | hvEnableWrite (w : Who) (p : Fin 8) (v : Word)
  /-- HV_CLEAR_OC (R397). -/
  | hvClearOc (w : Who) (p : Fin 8) (v : Word)
  /-- HAPT_OVERCURRENT (R397). -/
  | haptOvercurrent (p : Fin 8) (n : Fin 4)
  /-- HAPT_HV_FAULT (R398). -/
  | haptHvFault
  /-- BOOST_CLEAR (R398). -/
  | boostClear (w : Who) (v : Word)
  /-- HAPT_STREAM_ENABLE (R399). -/
  | haptStreamEnable (w : Who) (p : Fin 8) (v : Word)
  /-- HAPT_TICK (R401). -/
  | haptTick
  /-- RESONANCE_CAL (R403). -/
  | resonanceCal (p : Fin 8)
  /-- HAPT_CAL_STEP_DONE (R404). -/
  | haptCalStepDone (p : Fin 8) (got : Option (BitVec 16 × BitVec 16 × BitVec 16 × BitVec 16))
  /-- HAPT_THROTTLE_STEP (R405). -/
  | haptThrottleStep (mw : BitVec 14) (vout : BitVec 12) (temp : BitVec 11) (pw : Option (List Nat))
  /-- AUDIO_TICK (R415). -/
  | audioTick (inp : List Int)
  /-- GAIN_TIMEOUT (R418). -/
  | gainTimeout (c : Fin 208)
  /-- SAFELOAD_GO (R417). -/
  | safeloadGo (w : Who)
  /-- PSET_DATA_ACCESS (R414). -/
  | psetDataAccess (w : Who) (v : Option Word)
  /-- AUDIO_STREAM_ENABLE (R411). -/
  | audioStreamEnable (w : Who) (v : Word)
  /-- AUD_MCLK_LOST (R420). -/
  | audMclkLost (t : Fin 4)
  /-- AUD_MCLK_GLITCH (R421). -/
  | audMclkGlitch (t : Fin 4)
  /-- CLK_LOST_CLEAR (R420). -/
  | clkLostClear (w : Who) (t : Fin 4)
  /-- MCLK_RETURN (R420). -/
  | mclkReturn (t : Fin 4)
  /-- ASRC_RELOCK (R422). -/
  | asrcRelock (t : Fin 4)
  /-- ASRC_LOCK (R410). -/
  | asrcLock (t : Fin 4) (hz : BitVec 20)
  /-- SILENCE_HOLD_EXPIRY (R419). -/
  | silenceHoldExpiry (t : Fin 4)
  /-- ALARM_RUN (R424). -/
  | alarmRun (w : Who) (pattern : Fin 8) (run : Bool)
  /-- ALARM_PATTERN_WRITE (R424). -/
  | alarmPatternWrite (w : Who) (pattern : Fin 8)
  /-- ALARM_END (R424). -/
  | alarmEnd
  /-- ALARM_AMP_RELEASE (R424). -/
  | alarmAmpRelease
  /-- FRAMER_CLOCK_SWITCH (R423). -/
  | framerClockSwitch
  /-- ENC_TRANSITION (R427). -/
  | encTransition (e : Fin 16) (a : Bool) (b : Bool)
  /-- ENC_BURST_END (R428). -/
  | encBurstEnd (e : Fin 16)
  /-- ENC_SET (R429). -/
  | encSet (w : Who) (e : Fin 16) (v : Word)
  /-- DIN_CHANGE (R431). -/
  | dinChange (k : Fin 32) (level : Bool)
  /-- GPIO_EDGE (R431). -/
  | gpioEdge (i0 : Fin 48) (level : Bool)
  /-- GPIO_CFG_WRITE (R432). -/
  | gpioCfgWrite (w : Who) (i0 : Fin 48) (v : Word)
  /-- PIN_OWNER_WRITE (R434). -/
  | pinOwnerWrite (w : Who) (i0 : Fin 96) (v : Word)
  /-- I2C_GO (R433). -/
  | i2cGo (w : Who) (c : Fin 4) (v : Word)
  /-- I2C_DONE (R433). -/
  | i2cDone (c : Fin 4) (result : Fin 3) (count : Fin 17) (d : List Byte)
  /-- UART_TX_WRITE (R436). -/
  | uartTxWrite (w : Who) (u : Fin 2) (v : Word)
  /-- UART_RX_BYTE (R433). -/
  | uartRxByte (u : Fin 2) (d : Byte) (frameErr : Bool) (parityErr : Bool)
  /-- UART_RX_READ (R436). -/
  | uartRxRead (w : Who) (u : Fin 2)
  /-- PTM_DIALOGUE (R440). -/
  | ptmDialogue (m : Option (BitVec 64))
  /-- PPS_EDGE (R440). -/
  | ppsEdge (falling : Bool)
  /-- TIME_MASTER_LOST (R442). -/
  | timeMasterLost
  /-- SNAP_ARM (R443). -/
  | snapArm (w : Who) (hi : Word)
  /-- SNAP_CANCEL (R443). -/
  | snapCancel (w : Who) (v : Word)
  /-- SNAP_STROBE (R444). -/
  | snapStrobe
  /-- HART_WFI (R83). -/
  | hartWfi (h : Fin 16)
  /-- BACKLIGHT_ON_DELAY_EXPIRY (R343). -/
  | backlightOnDelayExpiry (n : Fin 8)
  /-- TIME_SLEW_END (R441). -/
  | timeSlewEnd
  /-- JTAG_HALT (R147). -/
  | jtagHalt (h : Fin 16) (halted : Bool)
  /-- WORLD_CSR_ACCESS (R131). -/
  | worldCsrAccess (h : Fin 16) (m : Mode) (pc : BitVec 64) (passcause : Bool) (write : Bool)
  /-- CUSTOM0_ILLEGAL (R138). -/
  | custom0Illegal (h : Fin 16) (m : Mode) (pc : BitVec 64) (w : Word)
deriving DecidableEq, Repr

end Sys2Proof
end

