-- ==== Sys2Proof/Decode.lean ====
section
/-! DEFINITION. The command a word spells. No row of the opcode table gives bits: commands reach the block as register writes, bus operations and
events, not as words of an instruction stream. -/

namespace Sys2Proof

/-- The command whose table bits a word has: no row has any. -/
def decodeTableWord (_nbits _w : Nat) : Option Instr := none

end Sys2Proof
end

