-- ==== Sys2Proof/Machine/Crypto.lean ====
section
/-! DEFINITION. The named standards the block computes with (R4): SHA-256 (FIPS 180-4), ECDSA over P-256 (FIPS 186-4)
and the reflected CRCs, CRC-32C and CRC-32. -/

namespace Sys2Proof.Machine

/-! ### SHA-256 -/

/-- The first 64 primes. -/
def shaPrimes : List Nat := (List.range 312).filter (fun n => decide (1 < n) && (List.range 18).all (fun d => decide (d < 2) || d == n || n % d != 0))

/-- The largest r below 2^n whose k-th power is at most x. -/
def rootBelow (k x : Nat) : Nat → Nat → Nat
  | 0, r => r
  | n + 1, r => rootBelow k x n (if (r + 2 ^ n) ^ k ≤ x then r + 2 ^ n else r)

/-- The first 32 bits of the fraction of a k-th root: what FIPS 180-4 takes its constants from. -/
def rootFraction (k p : Nat) : Nat := rootBelow k (p * 2 ^ (32 * k)) 38 0 % 2 ^ 32

/-- Round constants of SHA-256, from the cube roots of the first 64 primes. -/
def shaConstants : List Nat := shaPrimes.map (rootFraction 3)

/-- Initial hash value of SHA-256, from the square roots of the first eight primes. -/
def shaInit : List Nat := (shaPrimes.take 8).map (rootFraction 2)

/-- The 32-bit words rotated right by each of some counts, combined by exclusive or. -/
def spins (x : Nat) (counts : List Nat) : Nat := (counts.map (fun n => (x * 2 ^ 32 + x) / 2 ^ n % 2 ^ 32)).foldl (· ^^^ ·) 0

/-- The word that follows sixteen of the message schedule. -/
def shaFollow (w : List Nat) : Nat :=
  let near := w.getD 1 0
  let far := w.getD 14 0
  ((spins near [7, 18] ^^^ near / 8) + (spins far [17, 19] ^^^ far / 1024) + w.getD 0 0 + w.getD 9 0) % 2 ^ 32

/-- What a round works on: the sixteen words of the schedule from its own on, and the eight working variables. -/
abbrev ShaSt := List Nat × List Nat

/-- One round with its constant: the window moves on by a word, and the variables by one place. -/
def shaRound (s : ShaSt) (k : Nat) : ShaSt :=
  let v := fun (n : Nat) => s.2.getD n 0
  let chosen := v 6 ^^^ (v 4 &&& (v 5 ^^^ v 6))
  let most := (v 0 &&& v 1) ||| (v 2 &&& (v 0 ||| v 1))
  let sum := v 7 + spins (v 4) [6, 11, 25] + chosen + k + s.1.headD 0
  let top := (sum + spins (v 0) [2, 13, 22] + most) % 2 ^ 32
  (s.1.drop 1 ++ [shaFollow s.1], top :: (s.2.take 3 ++ (v 3 + sum) % 2 ^ 32 :: (s.2.drop 4).take 3))

/-- A big-endian 32-bit word of bytes. -/
def beWord (l : List Byte) : Nat := l.foldl (fun a b => a * 256 + b.toNat) 0

/-- Cut a list into pieces of n, at most fuel of them. -/
def pieces {α : Type} (n : Nat) : Nat → List α → List (List α)
  | 0, _ => []
  | f + 1, l => match l with
    | [] => []
    | _ => l.take n :: pieces n f (l.drop n)

/-- Compress one 64-byte block into a hash value. -/
def shaBlock (h : List Nat) (blk : List Byte) : List Nat :=
  (h.zip (shaConstants.foldl shaRound ((pieces 4 16 blk).map beWord, h)).2).map (fun p => (p.1 + p.2) % 2 ^ 32)

/-- Absorb bytes: whole blocks are compressed, the rest is kept. -/
def shaAbsorb (h : List Nat) (buf d : List Byte) : List Nat × List Byte :=
  let all := buf ++ d
  let n := all.length / 64
  ((pieces 64 n all).foldl shaBlock h, all.drop (64 * n))

/-- The bytes that close a message of n bytes: a one bit, zeros up to 8 bytes before the end of a block, and its length in bits. -/
def shaClosing (n : Nat) : List Byte :=
  (0x80 : Byte) :: List.replicate ((119 - n % 64) % 64) 0 ++ ((List.range 8).reverse.map (fun k => BitVec.ofNat 8 (8 * n / 256 ^ k)))

/-- Finish the hash of a message of total bytes, whose last partial block is buf. -/
def shaFinish (h : List Nat) (buf : List Byte) (total : Nat) : List Nat := (shaAbsorb h buf (shaClosing total)).1

/-- SHA-256 of a message, as eight big-endian words. -/
def sha256 (d : List Byte) : List Nat :=
  let a := shaAbsorb shaInit [] d
  shaFinish a.1 a.2 d.length

/-- The 256-bit number of eight big-endian words. -/
def digestNat (h : List Nat) : Nat := h.foldl (fun a w => a * 2 ^ 32 + w) 0

/-! ### Reflected CRCs (R4) -/

/-- One bit step of a reflected CRC with reflected polynomial p. -/
def crcBit (p c : Nat) : Nat := if c % 2 = 1 then (c / 2) ^^^ p else c / 2

/-- Take one byte into a reflected CRC register. -/
def crcByte (p c : Nat) (b : Byte) : Nat :=
  crcBit p (crcBit p (crcBit p (crcBit p (crcBit p (crcBit p (crcBit p (crcBit p (c ^^^ b.toNat))))))))

/-- Reflected polynomial of CRC-32C, 0x1EDC_6F41. -/
def polyC : Nat := 0x82F63B78
/-- Reflected polynomial of CRC-32, 0x04C1_1DB7. -/
def polyE : Nat := 0xEDB88320

/-- CRC register after a message. -/
def crcRun (p c : Nat) (d : List Byte) : Nat := d.foldl (crcByte p) c

/-- CRC-32C with initial value and final XOR 0xFFFF_FFFF. -/
def crc32c (d : List Byte) : Nat := crcRun polyC 0xFFFFFFFF d ^^^ 0xFFFFFFFF

/-- CRC-32 with initial value and final XOR 0xFFFF_FFFF. -/
def crc32 (d : List Byte) : Nat := crcRun polyE 0xFFFFFFFF d ^^^ 0xFFFFFFFF

/-! ### ECDSA over P-256 -/

/-- Field prime of P-256. -/
def p256P : Nat := 0xffffffff00000001000000000000000000000000ffffffffffffffffffffffff
/-- Order of P-256's base point. -/
def p256N : Nat := 0xffffffff00000000ffffffffffffffffbce6faada7179e84f3b9cac2fc632551
/-- Coefficient b of P-256. -/
def p256B : Nat := 0x5ac635d8aa3a93e7b3ebbd55769886bc651d06b0cc53b0f63bce3c3e27d2604b
/-- Base point of P-256. -/
def p256G : Nat × Nat :=
  (0x6b17d1f2e12c4247f8bce6e563a440f277037d812deb33a0f4a13945d898c296,
   0x4fe342e2fe1a7f9b8ee7eb4a7c0f9e162bce33576b315ececbb6406837bf51f5)

/-- x to the e modulo m, over the low n bits of e. -/
def powMod (m : Nat) : Nat → Nat → Nat → Nat
  | 0, _, _ => 1 % m
  | n + 1, x, e =>
    let r := powMod m n (x * x % m) (e / 2)
    if e % 2 = 1 then r * x % m else r

/-- Inverse modulo a prime, by Fermat's little theorem. -/
def invMod (m x : Nat) : Nat := powMod m 256 (x % m) (m - 2)

/-- Sum of two points of P-256; none is the point at infinity. -/
def ecAdd (a b : Option (Nat × Nat)) : Option (Nat × Nat) :=
  match a, b with
  | none, q => q
  | p, none => p
  | some (x1, y1), some (x2, y2) =>
    if x1 = x2 ∧ (y1 + y2) % p256P = 0 then none
    else
      let l := if x1 = x2 then (3 * x1 * x1 + (p256P - 3)) * invMod p256P (2 * y1) % p256P
        else (y2 + p256P - y1) * invMod p256P (x2 + p256P - x1) % p256P
      let x3 := (l * l + 2 * p256P - x1 - x2) % p256P
      some (x3, (l * (x1 + p256P - x3) + p256P - y1) % p256P)

/-- Multiple of a point, over the low n bits of k. -/
def ecMul : Nat → Nat → Option (Nat × Nat) → Option (Nat × Nat)
  | 0, _, _ => none
  | n + 1, k, q =>
    let r := ecMul n (k / 2) (ecAdd q q)
    if k % 2 = 1 then ecAdd r q else r

/-- Whether coordinates lie on P-256. -/
def onCurve (x y : Nat) : Bool :=
  decide (x < p256P) && decide (y < p256P) &&
    decide (y * y % p256P = (x * x * x + (p256P - 3) * x + p256B) % p256P)

/-- ECDSA verification of a signature (r, s) over a 256-bit digest with public key (x, y). -/
def ecdsaVerify (x y digest r s : Nat) : Bool :=
  if onCurve x y && decide (0 < r) && decide (r < p256N) && decide (0 < s) && decide (s < p256N) then
    let w := invMod p256N s
    match ecAdd (ecMul 256 (digest * w % p256N) (some p256G)) (ecMul 256 (r * w % p256N) (some (x, y))) with
    | some (px, _) => decide (px % p256N = r)
    | none => false
  else false

end Sys2Proof.Machine
end

