-- ==== Sys2Proof/Config.lean ====
section
/-! DEFINITION. What the specification leaves open, as constants without a body: no proof can see a value. A result
the spec calls undefined or does not state is one of these applied to a counter of State or to the operands. -/

namespace Sys2Proof.Config

/-- A fresh value for each use: the argument is State's own counter of free values. Each use narrows it. -/
opaque freeValue : Nat → BitVec 64

/-- Widening of a 2-, 5- or 6-bit colour component to 12 bits, which R264 does not give: by width and value. -/
opaque widen : Nat → Nat → BitVec 12

/-- The 12-bit value of a float16 component that is not a number, which R264 does not give. -/
opaque halfNaN : Nat → BitVec 12

/-- Whether the safety configuration, carried with the firmware, marks a Lantern region as link-controlled (R311, R333). -/
opaque linkControlled : Nat → Bool

/-- The no-sensor count of a sense channel, 128 times the surface port plus the channel: a factory trim (R71, R376). -/
opaque noSensor : Nat → BitVec 16

/-- The factory-trimmed Run voltage of AVSBus rails 2 and 3 in mV (R94). -/
opaque railMv : Nat → BitVec 10

/-- The output frequency in MHz of the PLLs whose settings are fixed, and of PLL 20 outside its VCO range (R100, R101). -/
opaque pllMhz : Nat → BitVec 16

/-- The output frequency in MHz of PLL 17 by what the LINK_CFG registers of the eight links hold: no rule gives its settings from them (R100). -/
opaque linkPllMhz : List Nat → BitVec 16

/-- How long after step 1 of an epoch a port acknowledges the invalidation, in ns, by epoch and port: 1 µs at most (R116). -/
opaque ackDelay : Nat → Nat → BitVec 10

/-- How long a faulted graphics context is being reset, in ns: below 20 µs (R249). -/
opaque resetNs : Nat → BitVec 14

/-- The texel of a clear colour in a target format whose conversion the spec leaves to Vulkan (R238): by format and the four words. -/
opaque clearTexel : Nat → List Nat → BitVec 64

/-- The bank of a subchannel-local address within its rank, and the row: R152 does not place them. -/
opaque dramBank : Nat → BitVec 6

/-- See dramBank. -/
opaque dramRow : Nat → BitVec 18

/-- The level of a GPIO pin that nothing drives and no pull holds (R432). -/
opaque floatingPin : Nat → Bool

/-- Whether the integrator's safety configuration marks a machine state word as needing the displays (R85). -/
opaque needsDisplays : Nat → Bool

/-- Source of a clock domain as DOM_STAT shows it, its frequency in MHz and whether a requester holds it, by domain and by the block's
own use of clocks, which R102 and R105 do not list. -/
opaque domain : Nat → Nat → BitVec 22

end Sys2Proof.Config
end

