-- ==== Sys2Proof/Machine/Codes.lean ====
section
/-! DEFINITION. The 16-bit codes of R214 and R215, each under the spec's name. -/

namespace Sys2Proof.Machine.Code

def REG_SIZE : Nat := 0x0001
def REG_UNMAPPED : Nat := 0x0002
def REG_RESERVED : Nat := 0x0003
def REG_PERM : Nat := 0x0004
def REG_LOCKED : Nat := 0x0005
def COMMIT_BUSY : Nat := 0x0006
def BOOT_FL_ACTIVE : Nat := 0x0101
def BOOT_FL_ALIGN : Nat := 0x0102
def BOOT_FL_BUSY : Nat := 0x0103
def BOOT_FL_DEVICE : Nat := 0x0104
def BOOT_KEY_IN_USE : Nat := 0x0105
def BOOT_RST_KEY : Nat := 0x0106
def PWR_BAD_REQ : Nat := 0x0201
def PWR_BUSY : Nat := 0x0202
def PWR_NOT_QUIESCED : Nat := 0x0203
def PWR_AON_BUDGET : Nat := 0x0204
def PWR_SAFE_VETO : Nat := 0x0205
def PWR_DRAIN_FORCED : Nat := 0x0206
def PWR_RAIL_ACK : Nat := 0x0207
def PWR_OPP_RANGE : Nat := 0x0208
def PWR_EXIT_STEP : Nat := 0x0209
def CLK_PLL_UNLOCK : Nat := 0x0221
def CLK_REF_LOST : Nat := 0x0222
def CLK_DOMAIN_INDEX : Nat := 0x0223
def INST_STATE : Nat := 0x0301
def INST_POOL : Nat := 0x0302
def INST_BW_ADMIT : Nat := 0x0303
def INST_QUIESCE_FORCED : Nat := 0x0304
def INST_NOT_RUNNING : Nat := 0x0305
def INST_INDEX : Nat := 0x0306
def INST_VIEW_PAGE : Nat := 0x0307
def POT_DENIED : Nat := 0x0311
def POT_SCRUB_PENDING : Nat := 0x0312
def POT_BUSY : Nat := 0x0313
def POT_RANGE : Nat := 0x0314
def POT_BAD_OWNER : Nat := 0x0315
def POT_KEEP_DENIED : Nat := 0x0316
def POT_UNBACKED : Nat := 0x0317
def POT_BAD_CMD : Nat := 0x0318
def MBX_FULL : Nat := 0x0321
def MBX_EMPTY : Nat := 0x0322
def VALE_STATE : Nat := 0x0331
def VALE_LOAD : Nat := 0x0332
def VALE_GATE : Nat := 0x0333
def VALE_BUSY : Nat := 0x0334
def WORLD_OWNER : Nat := 0x0335
def SWDT_RANGE : Nat := 0x0341
def SWDT_KEY : Nat := 0x0342
def DRAM_CE : Nat := 0x0401
def DRAM_UE : Nat := 0x0402
def DRAM_POISON : Nat := 0x0403
def DRAM_CA_REPLAY : Nat := 0x0404
def DRAM_CA_RETRAIN : Nat := 0x0405
def DRAM_OFFLINE : Nat := 0x0406
def DRAM_TRAIN_FAIL : Nat := 0x0407
def DRAM_HOT_LIMIT : Nat := 0x0408
def DRAM_SPARE_NONE : Nat := 0x0411
def DRAM_SPARE_BUSY : Nat := 0x0412
def DRAM_SPARE_FAIL : Nat := 0x0413
def DRAM_SPARE_DEFERRED : Nat := 0x0414
def DRAM_ADMIT : Nat := 0x0421
def GUARANTEE_BROKEN : Nat := 0x0422
def GUARANTEE_RESTORED : Nat := 0x0423
def DRAMQ_RANGE : Nat := 0x0424
def RING_DOORBELL_INVALID : Nat := 0x0501
def RING_OVERRUN : Nat := 0x0502
def RING_BAD_DESC : Nat := 0x0503
def RING_CTX_STATE : Nat := 0x0504
def RING_BAD_CTX : Nat := 0x0505
def RING_MIGRATE : Nat := 0x0506
def RING_PIN_LIMIT : Nat := 0x0507
def RING_QUOTA : Nat := 0x0508
def EVQ_OVERFLOW : Nat := 0x0509
def FENCE_DENIED : Nat := 0x0511
def FENCE_ABANDONED : Nat := 0x0512
def FENCE_TIMEOUT : Nat := 0x0513
def FENCE_RANGE : Nat := 0x0514
def DMA_BUS_ERROR : Nat := 0x0521
def DMA_ABORTED : Nat := 0x0522
def DMA_HALT_TIMEOUT : Nat := 0x0523
def DMA_NOT_HALTED : Nat := 0x0524
def GFX_BAD_PACKET : Nat := 0x0601
def GFX_SHADER_REJECT : Nat := 0x0602
def GFX_CTX_FAULT : Nat := 0x0603
def GFX_PREEMPT_LATE : Nat := 0x0604
def COMP_BAD_PACKET : Nat := 0x0701
def COMP_LAYER_OWNER : Nat := 0x0702
def COMP_LATE : Nat := 0x0703
def COMP_FLIP_DISCARDED : Nat := 0x0704
def COMP_COEF_BUSY : Nat := 0x0705
def COMP_FETCH_ERROR : Nat := 0x0706
def COMP_WB_SKIP : Nat := 0x0707
def BASIN_GRANULE : Nat := 0x0801
def BASIN_ECC_CE : Nat := 0x0802
def BASIN_ECC_UE : Nat := 0x0803
def HEAD_TIMING : Nat := 0x0804
def GRP_BUSY : Nat := 0x0805
def GENLOCK_LOST : Nat := 0x0806
def GENLOCK_ACQUIRED : Nat := 0x0807
def GLINT_MARGIN : Nat := 0x0901
def GLINT_MATRIX : Nat := 0x0902
def GLINT_OUT_OF_MARGIN : Nat := 0x0903
def MIRROR_CRC : Nat := 0x0A01
def MIRROR_DISAGREE : Nat := 0x0A02
def MIRROR_TIMING : Nat := 0x0A03
def TAG_STALE : Nat := 0x0A04
def TAG_MISSING : Nat := 0x0A05
def TAG_PORT : Nat := 0x0A06
def SAFE_ENTER : Nat := 0x0A07
def SAFE_EXIT : Nat := 0x0A08
def SAFE_READBACK : Nat := 0x0A09
def SL_CRC : Nat := 0x0A0A
def SL_SEQ : Nat := 0x0A0B
def SL_TIMEOUT : Nat := 0x0A0C
def SAFE_SRAM_UE : Nat := 0x0A0D
def SAFE_DRAM_TEST : Nat := 0x0A0E
def SAFE_LOCKSTEP : Nat := 0x0A0F
def LINK_TRAIN_FAIL : Nat := 0x0B01
def LINK_LOST : Nat := 0x0B02
def LINK_HPD : Nat := 0x0B03
def LINK_MODE : Nat := 0x0B04
def CAP_PACKET : Nat := 0x0C01
def CAP_FRAME_SHORT : Nat := 0x0C02
def CAP_NO_BUFFER : Nat := 0x0C03
def CAP_LOST : Nat := 0x0C04
def CAP_FORMAT : Nat := 0x0C05
def CAP_WRITE_ERROR : Nat := 0x0C06
def TOUCH_SUSPECT : Nat := 0x0D01
def TOUCH_OPEN : Nat := 0x0D02
def TOUCH_SHORT_GND : Nat := 0x0D03
def TOUCH_SHORT_ADJ : Nat := 0x0D04
def TOUCH_NOISE : Nat := 0x0D05
def SURF_AUTH_FAIL : Nat := 0x0E01
def SURF_DETACH : Nat := 0x0E02
def SURF_INSERT : Nat := 0x0E03
def SURF_ID_ERROR : Nat := 0x0E04
def HAPT_WEAR_WARN : Nat := 0x0E05
def HAPT_SERVICE_DUE : Nat := 0x0E06
def HAPT_UNDERRUN : Nat := 0x0E07
def HAPT_OVERCURRENT : Nat := 0x0E08
def HAPT_THROTTLE : Nat := 0x0E09
def HAPT_CAL_FAIL : Nat := 0x0E0A
def HAPT_HV_FAULT : Nat := 0x0E0B
def AUD_MCLK_LOST : Nat := 0x0F01
def AUD_MCLK_GLITCH : Nat := 0x0F02
def AUD_UNDERRUN : Nat := 0x0F03
def AUD_SAFELOAD_BUSY : Nat := 0x0F04
def ENC_ILLEGAL : Nat := 0x1001
def PIN_CONFLICT : Nat := 0x1002
def I2C_NACK : Nat := 0x1003
def I2C_TIMEOUT : Nat := 0x1004
def UART_ERROR : Nat := 0x1005
def TIME_STEP : Nat := 0x1101
def TIME_EPOCH : Nat := 0x1102
def TIME_MASTER_LOST : Nat := 0x1103
def SNAP_PAST : Nat := 0x1104

end Sys2Proof.Machine.Code
end

