-- ==== Sys2Proof/Machine/RegDefs.lean ====
section
/-! DEFINITION. The shape of the register pages: the block types and their pages (R48), the access types
(R51), who may write a field (R47, R49, R450), and the row that describes one register field. -/

namespace Sys2Proof.Machine

/-- The ordering-code variant (R1). -/
inductive Variant where
  | a96 | a32 | e96
deriving DecidableEq, Repr

/-- The block types that have register pages (R48). -/
inductive Blk where
  | mgr | pot | world | swdt | boot | pwr | clk | time | dram | dramq | rsched | dma | gfx | comp | basin
  | head | glint | link | cap | touch | surf | hapt | audio | enc | gpio | safe | lantern | mirror
deriving DecidableEq, Repr

/-- The four reset domains of R66. -/
inductive Domain where
  | aon | safety | display | main
deriving DecidableEq, Repr

/-- Access types of R51. -/
inductive Acc where
  | rw | ro | w1c | w1s | sc | wo | rws | rol
deriving DecidableEq, Repr

/-- Who may write a field: the owner and the manager, the manager alone, the safety island alone, or the
manager and the safety island (R47, R49, R450). -/
inductive Perm where
  | own | mgr | saf | mgrSaf
deriving DecidableEq, Repr

/-- How the reset value of a field is found: a constant, by variant, by element of a repeated register, by the
bank an index register selects, or by the page's block index. -/
inductive Rst where
  | c (n : Nat)
  | byVar (a96 a32 e96 : Nat)
  | byElem (l : List Nat)
  | byBank (l : List Nat)
  | bankIs (b : Nat)
  | elemIs (j : Nat)
  | half
  | bitHalf
deriving DecidableEq, Repr

/-- One field of a register: its page type, the offset of element 0, the distance between elements and their
number, its lowest bit and width, whether the register is a LO/HI pair of R53, its access type, who may write it,
whether LOCK binds it (R63) and its reset value. -/
structure Fld where
  blk    : Blk
  off    : Nat
  stride : Nat
  count  : Nat
  lo     : Nat
  len    : Nat
  wide   : Bool
  acc    : Acc
  perm   : Perm
  lockd  : Bool
  rst    : Rst
deriving DecidableEq, Repr

/-- Number of pages of a block type (R48). -/
def Blk.count : Blk → Nat
  | .dram => 8 | .dma => 8 | .comp => 4 | .head => 8 | .glint => 2 | .link => 8 | .cap => 16 | .touch => 16
  | .surf => 8 | _ => 1

/-- Block index of the first page of a type: Glint's pages are 6 and 7 (R48). -/
def Blk.first : Blk → Nat
  | .glint => 6 | _ => 0

/-- Page index (R74) of block index 0 of a type, from the bases of R48. -/
def Blk.base : Blk → Nat
  | .mgr => 0x00 | .pot => 0x01 | .world => 0x02 | .swdt => 0x03 | .boot => 0x04 | .pwr => 0x05 | .clk => 0x06
  | .time => 0x07 | .dram => 0x10 | .dramq => 0x18 | .rsched => 0x20 | .dma => 0x21 | .gfx => 0x30
  | .comp => 0x31 | .basin => 0x38 | .head => 0x40 | .glint => 0x42 | .link => 0x50 | .cap => 0x60
  | .touch => 0x70 | .surf => 0x80 | .hapt => 0x88 | .audio => 0x90 | .enc => 0xA0 | .gpio => 0xA1
  | .safe => 0xF0 | .lantern => 0xF1 | .mirror => 0xF2

/-- Block type code of PG_ID (R48). -/
def Blk.typeCode : Blk → Nat
  | .mgr => 0x01 | .pot => 0x02 | .world => 0x03 | .swdt => 0x04 | .boot => 0x05 | .pwr => 0x06 | .clk => 0x07
  | .time => 0x08 | .dram => 0x10 | .dramq => 0x11 | .rsched => 0x18 | .dma => 0x19 | .gfx => 0x20
  | .comp => 0x21 | .basin => 0x22 | .head => 0x23 | .glint => 0x24 | .link => 0x25 | .cap => 0x28
  | .touch => 0x30 | .surf => 0x31 | .hapt => 0x32 | .audio => 0x38 | .enc => 0x40 | .gpio => 0x41
  | .safe => 0x50 | .lantern => 0x51 | .mirror => 0x52

/-- All block types, in the order of R48. -/
def Blk.all : List Blk :=
  [.mgr, .pot, .world, .swdt, .boot, .pwr, .clk, .time, .dram, .dramq, .rsched, .dma, .gfx, .comp, .basin,
   .head, .glint, .link, .cap, .touch, .surf, .hapt, .audio, .enc, .gpio, .safe, .lantern, .mirror]

/-- Reset domain of a block type's pages (R66). -/
def Blk.domain : Blk → Domain
  | .boot => .aon | .pwr => .aon | .time => .aon | .enc => .aon
  | .safe => .safety | .lantern => .safety | .mirror => .safety
  | .head => .display | .link => .display
  | _ => .main

/-- PG_CAP.shadowed of each page type (R62 and the block chapters). DRAMn names a boundary of 0 and holds no RWS
register (R179): it reads 0. -/
def Blk.shadowed : Blk → Bool
  | .gfx | .comp | .head | .glint | .lantern | .mirror => true
  | _ => false

/-- PG_CAP.lockable of each page type (R452). -/
def Blk.lockable : Blk → Bool
  | .mgr | .pot | .rsched | .boot | .clk => false
  | _ => true

/-- SHADOW_STAT.boundary of each page type (R245, R272, R297, R309, R336, R337). -/
def Blk.boundary : Blk → Nat
  | .gfx | .comp | .lantern | .mirror => 2
  | .head | .glint => 1
  | _ => 0

/-- PG_CAP.counters of page i of each type, from the block chapters. -/
def Blk.counters : Blk → Nat → Nat
  | .pwr, _ => 14 | .clk, _ => 25 | .pot, _ => 68 | .mgr, _ => 6 | .world, _ => 6 | .swdt, _ => 2
  | .dram, _ => 19 | .dramq, _ => 35 | .rsched, _ => 12 | .dma, _ => 7 | .gfx, _ => 15 | .comp, _ => 16
  | .basin, _ => 9 | .head, _ => 10 | .glint, _ => 7 | .safe, _ => 10 | .lantern, _ => 4 | .mirror, _ => 8
  | .link, _ => 9 | .cap, _ => 12 | .touch, i => if i % 2 = 0 then 11 else 3 | .surf, _ => 9 | .hapt, _ => 5
  | .audio, _ => 16 | .enc, _ => 16 | .gpio, _ => 4 | .time, _ => 8 | .boot, _ => 0

/-- Number of event bits the block chapter gives page i from bit 8 of EV_RAW up (R57); TOUCH2p+1 has none (R386). -/
def Blk.events : Blk → Nat → Nat
  | .boot, _ => 1 | .pwr, _ => 8 | .clk, _ => 3 | .pot, _ => 2 | .mgr, _ => 3 | .world, _ => 1 | .swdt, _ => 1
  | .dram, _ => 10 | .dramq, _ => 3 | .rsched, _ => 5 | .dma, _ => 2 | .gfx, _ => 3 | .comp, _ => 4 | .basin, _ => 3
  | .head, _ => 6 | .glint, _ => 3 | .safe, _ => 5 | .lantern, _ => 2 | .mirror, _ => 5 | .link, _ => 7 | .cap, _ => 6
  | .touch, i => if i % 2 = 0 then 7 else 0 | .surf, _ => 10 | .hapt, _ => 3 | .audio, _ => 7 | .enc, _ => 2
  | .gpio, _ => 4 | .time, _ => 5

/-- Defined bits of EV_RAW, EV_MASK, EV_PEND and EV_FORCE of a page (R57): bits 7:4 are reserved. -/
def Blk.evMask (b : Blk) (i : Nat) : Nat := 0xF + (2 ^ b.events i - 1) * 256

/-- Page index of block index i of a type (R48, R74). No block index reaches a page of another type. -/
def Blk.page (b : Blk) (i : Nat) : Nat := b.base + b.first + (i - b.first) % b.count

/-- The block type and block index of a page index, if R48 lists it. -/
def blkOfPage (p : Nat) : Option (Blk × Nat) :=
  (Blk.all.find? (fun b => b.base + b.first ≤ p && p < b.base + b.first + b.count)).map (fun b => (b, p - b.base))

/-- Every page of R48, as block type and block index. -/
def allPages : List (Blk × Nat) :=
  Blk.all.flatMap (fun b => (List.range b.count).map (fun k => (b, b.first + k)))

end Sys2Proof.Machine
end

