-- ==== Sys2Proof/Machine/RegTable.lean ====
section
/-! DEFINITION. The register fields of every page, one definition a field, named PAGE.REGISTER.field as the spec
names them, and the list of them for each page type. Reset values are the bracketed factory defaults (R76); a reset
the spec leaves open or gives by another rule stands as 0 here and is named in the assumption log. -/

namespace Sys2Proof.Machine

/-- Factory class of each fabric port (R161). -/
def portClass : List Nat := [3, 3, 3, 3, 3, 3, 1, 1, 1, 1, 1, 3, 3, 0, 3, 3, 3]
/-- Factory latency target of each fabric port (R161). -/
def portLat : List Nat := 
  [2000, 2000, 2000, 2000, 0, 0, 4000, 4000, 4000, 4000, 10000, 0, 20000, 2000, 0, 0, 0]
/-- The identity matrix in the packing of CSC_M0 to CSC_M4, coefficients s3.12 (R272). -/
def cscIdentity : List Nat := [0x00001000, 0, 0x00001000, 0, 0x00001000]

/-- Whether a page belongs to the safety island (R49, R63). -/
def Blk.safetyPage : Blk → Bool
  | .safe | .lantern | .mirror => true
  | _ => false

/-- Who may write PG_CTRL (R49; R408 makes every writable field of HAPT manager only). -/
def hdrPerm (b : Blk) : Perm := if b.safetyPage then .saf else if b = .hapt then .mgr else .own
/-- Who may write the event and error registers (R49, R408). -/
def evPerm (b : Blk) : Perm := if b.safetyPage then .saf else if b = .hapt then .mgr else .own
/-- Who may write COMMIT: manager only on HEADn and GLINTn (R297, R309). -/
def commitPerm (b : Blk) : Perm := if b.safetyPage then .saf else if b = .head || b = .glint then .mgr else .own
/-- Who may set LOCK (R63). -/
def lockPerm (b : Blk) : Perm := if b.safetyPage then .saf else .mgr
/-- PG_OWNER is read only on the safety pages (R55). -/
def ownerAcc (b : Blk) : Acc := if b.safetyPage then .ro else .rw
/-- Reset value of PG_OWNER (R55). -/
def ownerRst (b : Blk) : Nat := if b.safetyPage then 0xFD else 0xFE

/-! The common page header (R55 to R63). -/
def HDR.soft_reset (b : Blk) : Fld := ⟨b, 0x008, 0, 1, 1, 1, false, .sc, hdrPerm b, true, .c 0⟩
def HDR.enable (b : Blk) : Fld := ⟨b, 0x008, 0, 1, 0, 1, false, .rw, hdrPerm b, true, .c 0⟩
def HDR.owner (b : Blk) : Fld := ⟨b, 0x00C, 0, 1, 0, 8, false, ownerAcc b, .mgr, true, .c (ownerRst b)⟩
def HDR.ev_raw (b : Blk) : Fld := ⟨b, 0x010, 0, 1, 0, 32, false, .w1c, evPerm b, false, .c 0⟩
def HDR.ev_mask (b : Blk) : Fld := ⟨b, 0x014, 0, 1, 0, 32, false, .rw, evPerm b, false, .c 0⟩
def HDR.ev_force (b : Blk) : Fld := ⟨b, 0x01C, 0, 1, 0, 32, false, .w1s, evPerm b, true, .c 0⟩
def HDR.commit_seq (b : Blk) : Fld := ⟨b, 0x020, 0, 1, 16, 16, false, .ro, .own, false, .c 0⟩
def HDR.revert (b : Blk) : Fld := ⟨b, 0x020, 0, 1, 2, 1, false, .sc, commitPerm b, false, .c 0⟩
def HDR.pending (b : Blk) : Fld := ⟨b, 0x020, 0, 1, 1, 1, false, .ro, .own, false, .c 0⟩
def HDR.commit (b : Blk) : Fld := ⟨b, 0x020, 0, 1, 0, 1, false, .wo, commitPerm b, false, .c 0⟩
def HDR.group (b : Blk) : Fld := ⟨b, 0x024, 0, 1, 2, 1, false, .ro, .own, false, .c 0⟩
def HDR.dirty (b : Blk) : Fld := ⟨b, 0x024, 0, 1, 0, 1, false, .ro, .own, false, .c 0⟩
def HDR.err_valid (b : Blk) : Fld := ⟨b, 0x028, 0, 1, 31, 1, false, .w1c, evPerm b, false, .c 0⟩
def HDR.err_internal (b : Blk) : Fld := ⟨b, 0x028, 0, 1, 30, 1, false, .rol, .own, false, .c 0⟩
def HDR.err_requester (b : Blk) : Fld := ⟨b, 0x028, 0, 1, 24, 6, false, .rol, .own, false, .c 0⟩
def HDR.err_count (b : Blk) : Fld := ⟨b, 0x028, 0, 1, 16, 8, false, .ro, .own, false, .c 0⟩
def HDR.err_code (b : Blk) : Fld := ⟨b, 0x028, 0, 1, 0, 16, false, .rol, .own, false, .c 0⟩
def HDR.err_addr (b : Blk) : Fld := ⟨b, 0x02C, 0, 1, 0, 40, true, .rol, .own, false, .c 0⟩
def HDR.err_req_id (b : Blk) : Fld := ⟨b, 0x02C, 0, 1, 40, 8, true, .rol, .own, false, .c 0⟩
def HDR.lock (b : Blk) : Fld := ⟨b, 0x034, 0, 1, 0, 1, false, .w1s, lockPerm b, false, .c 0⟩

/-- The header fields of a page type. The fields of PG_ID, PG_CAP and EV_PEND, and the fixed ones of SHADOW_STAT,
are computed on reading. -/
def hdrRows (b : Blk) : List Fld :=
  [HDR.soft_reset b, HDR.enable b, HDR.owner b, HDR.ev_raw b, HDR.ev_mask b, HDR.ev_force b, HDR.commit_seq b,
   HDR.revert b, HDR.pending b, HDR.commit b, HDR.group b, HDR.dirty b, HDR.err_valid b, HDR.err_internal b,
   HDR.err_requester b, HDR.err_count b, HDR.err_code b, HDR.err_addr b, HDR.err_req_id b, HDR.lock b]

/-! BOOT (R80). -/
def BOOT.FL_BUF.word : Fld := ⟨.boot, 0x400, 0x4, 64, 0, 32, false, .rw, .mgr, false, .c 0⟩
def BOOT.BOOT_STAT.a_reason : Fld := ⟨.boot, 0x100, 0, 1, 0, 4, false, .rol, .mgr, false, .c 0⟩
def BOOT.BOOT_STAT.b_reason : Fld := ⟨.boot, 0x100, 0, 1, 4, 4, false, .rol, .mgr, false, .c 0⟩
def BOOT.BOOT_STAT.sel : Fld := ⟨.boot, 0x100, 0, 1, 8, 1, false, .rol, .mgr, false, .c 0⟩
def BOOT.BOOT_STAT.identical : Fld := ⟨.boot, 0x100, 0, 1, 9, 1, false, .rol, .mgr, false, .c 0⟩
def BOOT.BOOT_STAT.nv_conflict : Fld := ⟨.boot, 0x100, 0, 1, 10, 1, false, .rol, .mgr, false, .c 0⟩
def BOOT.BOOT_STAT.factory_only : Fld := ⟨.boot, 0x100, 0, 1, 11, 1, false, .rol, .mgr, false, .c 0⟩
def BOOT.BOOT_STAT.recovery : Fld := ⟨.boot, 0x100, 0, 1, 12, 1, false, .rol, .mgr, false, .c 0⟩
def BOOT.BOOT_STAT.mgr_bad : Fld := ⟨.boot, 0x100, 0, 1, 13, 1, false, .rol, .mgr, false, .c 0⟩
def BOOT.BOOT_STAT.key_slot : Fld := ⟨.boot, 0x100, 0, 1, 14, 2, false, .rol, .mgr, false, .c 0⟩
def BOOT.GEN_A.generation : Fld := ⟨.boot, 0x104, 0, 1, 0, 32, false, .rol, .mgr, false, .c 0⟩
def BOOT.GEN_B.generation : Fld := ⟨.boot, 0x108, 0, 1, 0, 32, false, .rol, .mgr, false, .c 0⟩
def BOOT.RST_CAUSE.main_cause : Fld := ⟨.boot, 0x10c, 0, 1, 0, 4, false, .rol, .mgr, false, .c 1⟩
def BOOT.RST_CAUSE.safety_cause : Fld := ⟨.boot, 0x10c, 0, 1, 4, 4, false, .rol, .mgr, false, .c 1⟩
def BOOT.RST_CAUSE.display_cause : Fld := ⟨.boot, 0x10c, 0, 1, 8, 4, false, .rol, .mgr, false, .c 1⟩
def BOOT.RST_CAUSE.brownout : Fld := ⟨.boot, 0x10c, 0, 1, 12, 1, false, .w1c, .mgr, false, .c 0⟩
def BOOT.BOOT_COUNT.count : Fld := ⟨.boot, 0x110, 0, 1, 0, 32, false, .ro, .mgr, false, .c 0⟩
def BOOT.RST_CTRL.key : Fld := ⟨.boot, 0x114, 0, 1, 16, 16, false, .wo, .mgrSaf, false, .c 0⟩
def BOOT.RST_CTRL.display_reset : Fld := ⟨.boot, 0x114, 0, 1, 1, 1, false, .wo, .saf, false, .c 0⟩
def BOOT.RST_CTRL.main_reset : Fld := ⟨.boot, 0x114, 0, 1, 0, 1, false, .wo, .mgrSaf, false, .c 0⟩
def BOOT.FB_INDEX.word : Fld := ⟨.boot, 0x118, 0, 1, 0, 12, false, .rw, .mgr, true, .c 0⟩
def BOOT.FB_DATA.data : Fld := ⟨.boot, 0x11c, 0, 1, 0, 32, false, .ro, .mgr, false, .c 0⟩
def BOOT.KEY_REVOKE.revoke : Fld := ⟨.boot, 0x120, 0, 1, 0, 4, false, .w1s, .mgr, false, .c 0⟩
def BOOT.FL_ADDR.addr : Fld := ⟨.boot, 0x124, 0, 1, 0, 26, false, .rw, .mgr, true, .c 0⟩
def BOOT.FL_OP.busy : Fld := ⟨.boot, 0x128, 0, 1, 31, 1, false, .ro, .mgr, false, .c 0⟩
def BOOT.FL_OP.op : Fld := ⟨.boot, 0x128, 0, 1, 0, 2, false, .wo, .mgr, false, .c 0⟩
/-- The fields of BOOT from offset 0x100. -/
def BOOT.rows : List Fld :=
  [BOOT.FL_BUF.word, BOOT.BOOT_STAT.a_reason, BOOT.BOOT_STAT.b_reason, BOOT.BOOT_STAT.sel,
   BOOT.BOOT_STAT.identical, BOOT.BOOT_STAT.nv_conflict, BOOT.BOOT_STAT.factory_only, BOOT.BOOT_STAT.recovery,
   BOOT.BOOT_STAT.mgr_bad, BOOT.BOOT_STAT.key_slot, BOOT.GEN_A.generation, BOOT.GEN_B.generation,
   BOOT.RST_CAUSE.main_cause, BOOT.RST_CAUSE.safety_cause, BOOT.RST_CAUSE.display_cause, BOOT.RST_CAUSE.brownout,
   BOOT.BOOT_COUNT.count, BOOT.RST_CTRL.key, BOOT.RST_CTRL.display_reset, BOOT.RST_CTRL.main_reset,
   BOOT.FB_INDEX.word, BOOT.FB_DATA.data, BOOT.KEY_REVOKE.revoke, BOOT.FL_ADDR.addr, BOOT.FL_OP.busy, BOOT.FL_OP.op]

/-! PWR (R104). -/
def PWR.STATE_REQ.req : Fld := ⟨.pwr, 0x100, 0, 1, 0, 3, false, .wo, .mgr, false, .c 0⟩
def PWR.STATE.state : Fld := ⟨.pwr, 0x104, 0, 1, 0, 3, false, .ro, .own, false, .c 0⟩
def PWR.STATE.target : Fld := ⟨.pwr, 0x104, 0, 1, 4, 3, false, .ro, .own, false, .c 0⟩
def PWR.STATE.step : Fld := ⟨.pwr, 0x104, 0, 1, 8, 4, false, .ro, .own, false, .c 0⟩
def PWR.WAKE_EN.enable : Fld := ⟨.pwr, 0x108, 0, 1, 0, 5, false, .rw, .own, true, .c 17⟩
def PWR.WAKE_CAUSE.source : Fld := ⟨.pwr, 0x10c, 0, 1, 0, 5, false, .w1c, .own, false, .c 0⟩
def PWR.WAKE_CAUSE.first : Fld := ⟨.pwr, 0x10c, 0, 1, 8, 3, false, .ro, .own, false, .c 0⟩
def PWR.WAKE_CAUSE.replayed : Fld := ⟨.pwr, 0x10c, 0, 1, 16, 1, false, .w1c, .own, false, .c 0⟩
def PWR.WAKE_CAUSE.aborted : Fld := ⟨.pwr, 0x10c, 0, 1, 17, 1, false, .w1c, .own, false, .c 0⟩
def PWR.SLEEP_DEEP_AFTER.seconds : Fld := ⟨.pwr, 0x110, 0, 1, 0, 16, false, .rw, .own, true, .c 0⟩
def PWR.DRAIN_LIMIT.limit_us : Fld := ⟨.pwr, 0x114, 0, 1, 0, 16, false, .rw, .own, true, .c 1000⟩
def PWR.ALARM.alarm : Fld := ⟨.pwr, 0x118, 0, 1, 0, 64, true, .rw, .own, false, .c 0⟩
def PWR.RESUME_VEC.addr_lo : Fld := ⟨.pwr, 0x120, 0, 1, 2, 30, true, .rw, .mgr, false, .c 0⟩
def PWR.RESUME_VEC.addr_hi : Fld := ⟨.pwr, 0x120, 0, 1, 32, 8, true, .rw, .mgr, true, .c 0⟩
def PWR.AON_BUDGET.estimate_ua : Fld := ⟨.pwr, 0x128, 0, 1, 0, 16, false, .ro, .own, false, .c 0⟩
def PWR.AON_BUDGET.limit_ua : Fld := ⟨.pwr, 0x128, 0, 1, 16, 16, false, .ro, .own, false, .c 4600⟩
def PWR.EXIT_STAT.failed_step : Fld := ⟨.pwr, 0x12c, 0, 1, 0, 4, false, .rol, .own, false, .c 0⟩
def PWR.EXIT_STAT.osc_attempts : Fld := ⟨.pwr, 0x12c, 0, 1, 4, 4, false, .rol, .own, false, .c 0⟩
def PWR.EXIT_STAT.from_state : Fld := ⟨.pwr, 0x12c, 0, 1, 8, 3, false, .rol, .own, false, .c 0⟩
def PWR.EXIT_STAT.cold_start : Fld := ⟨.pwr, 0x12c, 0, 1, 16, 1, false, .w1c, .own, false, .c 0⟩
def PWR.TEMP_MAX.temp : Fld := ⟨.pwr, 0x130, 0, 1, 0, 11, false, .ro, .own, false, .c 0⟩
def PWR.TEMP_MAX.sensor : Fld := ⟨.pwr, 0x130, 0, 1, 16, 4, false, .ro, .own, false, .c 0⟩
def PWR.TEMP_WARN.threshold : Fld := ⟨.pwr, 0x134, 0, 1, 0, 11, false, .rw, .own, true, .byVar 0x1A4 0x1A4 0x1CC⟩
def PWR.RAIL_REQ.opp : Fld := ⟨.pwr, 0x140, 0x4, 2, 0, 3, false, .rw, .own, false, .c 6⟩
def PWR.RAIL_STAT.target_mv : Fld := ⟨.pwr, 0x150, 0x4, 4, 0, 10, false, .ro, .own, false, .c 0⟩
def PWR.RAIL_STAT.now_mv : Fld := ⟨.pwr, 0x150, 0x4, 4, 10, 10, false, .ro, .own, false, .c 0⟩
def PWR.RAIL_STAT.cmd_seq : Fld := ⟨.pwr, 0x150, 0x4, 4, 20, 4, false, .ro, .own, false, .c 0⟩
def PWR.RAIL_STAT.ack_seq : Fld := ⟨.pwr, 0x150, 0x4, 4, 24, 4, false, .ro, .own, false, .c 0⟩
def PWR.RAIL_STAT.slewing : Fld := ⟨.pwr, 0x150, 0x4, 4, 28, 1, false, .ro, .own, false, .c 0⟩
def PWR.RAIL_STAT.fault : Fld := ⟨.pwr, 0x150, 0x4, 4, 29, 1, false, .w1c, .own, false, .c 0⟩
def PWR.RAIL_STAT.freq_held : Fld := ⟨.pwr, 0x150, 0x4, 4, 30, 1, false, .ro, .own, false, .c 0⟩
def PWR.OPP_CPU.mv : Fld := ⟨.pwr, 0x180, 0x4, 8, 0, 10, false, .rw, .own, true, .byElem [600,650,700,750,800,850,900,950]⟩
def PWR.OPP_GPU.mv : Fld := ⟨.pwr, 0x1a0, 0x4, 8, 0, 10, false, .rw, .own, true, .byElem [600,650,700,750,800,850,900,900]⟩
def PWR.OPP_CPU.mhz : Fld := ⟨.pwr, 0x180, 0x4, 8, 16, 12, false, .rw, .own, true, .byElem [600,1000,1400,1600,1800,2000,2200,2200]⟩
def PWR.OPP_GPU.mhz : Fld := ⟨.pwr, 0x1a0, 0x4, 8, 16, 12, false, .rw, .own, true, .byElem [500,750,900,1100,1300,1400,1500,1500]⟩
/-- The fields of PWR from offset 0x100. -/
def PWR.rows : List Fld :=
  [PWR.STATE_REQ.req, PWR.STATE.state, PWR.STATE.target, PWR.STATE.step, PWR.WAKE_EN.enable, PWR.WAKE_CAUSE.source,
   PWR.WAKE_CAUSE.first, PWR.WAKE_CAUSE.replayed, PWR.WAKE_CAUSE.aborted, PWR.SLEEP_DEEP_AFTER.seconds,
   PWR.DRAIN_LIMIT.limit_us, PWR.ALARM.alarm, PWR.RESUME_VEC.addr_lo, PWR.RESUME_VEC.addr_hi,
   PWR.AON_BUDGET.estimate_ua, PWR.AON_BUDGET.limit_ua, PWR.EXIT_STAT.failed_step, PWR.EXIT_STAT.osc_attempts,
   PWR.EXIT_STAT.from_state, PWR.EXIT_STAT.cold_start, PWR.TEMP_MAX.temp, PWR.TEMP_MAX.sensor,
   PWR.TEMP_WARN.threshold, PWR.RAIL_REQ.opp, PWR.RAIL_STAT.target_mv, PWR.RAIL_STAT.now_mv, PWR.RAIL_STAT.cmd_seq,
   PWR.RAIL_STAT.ack_seq, PWR.RAIL_STAT.slewing, PWR.RAIL_STAT.fault, PWR.RAIL_STAT.freq_held, PWR.OPP_CPU.mv,
   PWR.OPP_GPU.mv, PWR.OPP_CPU.mhz, PWR.OPP_GPU.mhz]

/-! CLK (R105). -/
def CLK.REF_STAT.ref38_ok : Fld := ⟨.clk, 0x100, 0, 1, 0, 1, false, .ro, .own, false, .c 0⟩
def CLK.REF_STAT.ref32_ok : Fld := ⟨.clk, 0x100, 0, 1, 1, 1, false, .ro, .own, false, .c 0⟩
def CLK.REF_STAT.ref32_backup : Fld := ⟨.clk, 0x100, 0, 1, 2, 1, false, .ro, .own, false, .c 0⟩
def CLK.PLL_STAT.lock : Fld := ⟨.clk, 0x140, 0x4, 24, 0, 1, false, .ro, .own, false, .c 0⟩
def CLK.PLL_STAT.enabled : Fld := ⟨.clk, 0x140, 0x4, 24, 1, 1, false, .ro, .own, false, .c 0⟩
def CLK.PLL_STAT.mhz : Fld := ⟨.clk, 0x140, 0x4, 24, 16, 16, false, .ro, .own, false, .c 0⟩
def CLK.DOM_INDEX.domain : Fld := ⟨.clk, 0x1a0, 0, 1, 0, 8, false, .rw, .own, true, .c 0⟩
def CLK.DOM_STAT.running : Fld := ⟨.clk, 0x1a4, 0, 1, 0, 1, false, .ro, .own, false, .c 0⟩
def CLK.DOM_STAT.source : Fld := ⟨.clk, 0x1a4, 0, 1, 1, 5, false, .ro, .own, false, .c 0⟩
def CLK.DOM_STAT.mhz : Fld := ⟨.clk, 0x1a4, 0, 1, 16, 16, false, .ro, .own, false, .c 0⟩
def CLK.DOM_CTRL.force_on : Fld := ⟨.clk, 0x1a8, 0, 1, 0, 1, false, .rw, .mgr, true, .c 0⟩
/-- The fields of CLK from offset 0x100. -/
def CLK.rows : List Fld :=
  [CLK.REF_STAT.ref38_ok, CLK.REF_STAT.ref32_ok, CLK.REF_STAT.ref32_backup, CLK.PLL_STAT.lock,
   CLK.PLL_STAT.enabled, CLK.PLL_STAT.mhz, CLK.DOM_INDEX.domain, CLK.DOM_STAT.running, CLK.DOM_STAT.source,
   CLK.DOM_STAT.mhz, CLK.DOM_CTRL.force_on]

/-! POT (R117). -/
def POT.TABLE_BASE.base_lo : Fld := ⟨.pot, 0x100, 0, 1, 0, 32, true, .ro, .own, false, .c 0⟩
def POT.TABLE_BASE.base_hi : Fld := ⟨.pot, 0x100, 0, 1, 32, 8, true, .ro, .own, false, .c 0⟩
def POT.CMD_PFN.pfn : Fld := ⟨.pot, 0x108, 0, 1, 0, 28, false, .rw, .own, true, .c 0⟩
def POT.CMD_COUNT.count : Fld := ⟨.pot, 0x10c, 0, 1, 0, 25, false, .rw, .own, true, .c 0⟩
def POT.CMD_ENTRY.entry : Fld := ⟨.pot, 0x110, 0, 1, 0, 16, false, .rw, .own, true, .c 0⟩
def POT.CMD_OP.op : Fld := ⟨.pot, 0x114, 0, 1, 0, 2, false, .wo, .own, false, .c 0⟩
def POT.CMD_OP.keep : Fld := ⟨.pot, 0x114, 0, 1, 8, 1, false, .wo, .own, false, .c 0⟩
def POT.CMD_OP.busy : Fld := ⟨.pot, 0x114, 0, 1, 31, 1, false, .ro, .own, false, .c 0⟩
def POT.CMD_STAT.epoch : Fld := ⟨.pot, 0x118, 0, 1, 0, 16, false, .ro, .own, false, .c 0⟩
def POT.CMD_STAT.scrub_left : Fld := ⟨.pot, 0x118, 0, 1, 16, 16, false, .ro, .own, false, .c 0⟩
def POT.SHARE_MASK.mask : Fld := ⟨.pot, 0x120, 0, 1, 0, 64, true, .rw, .own, true, .c 0⟩
def POT.SHARE_READ.group : Fld := ⟨.pot, 0x128, 0, 1, 0, 4, false, .rw, .own, true, .c 0⟩
def POT.SHARE_CUR.mask : Fld := ⟨.pot, 0x130, 0, 1, 0, 64, true, .ro, .own, false, .c 0⟩
/-- The fields of POT from offset 0x100. -/
def POT.rows : List Fld :=
  [POT.TABLE_BASE.base_lo, POT.TABLE_BASE.base_hi, POT.CMD_PFN.pfn, POT.CMD_COUNT.count, POT.CMD_ENTRY.entry,
   POT.CMD_OP.op, POT.CMD_OP.keep, POT.CMD_OP.busy, POT.CMD_STAT.epoch, POT.CMD_STAT.scrub_left,
   POT.SHARE_MASK.mask, POT.SHARE_READ.group, POT.SHARE_CUR.mask]

/-! MGR (R127). -/
def MGR.INST_SEL.inst : Fld := ⟨.mgr, 0x100, 0, 1, 0, 6, false, .rw, .own, true, .c 1⟩
def MGR.INST_CMD.op : Fld := ⟨.mgr, 0x104, 0, 1, 0, 3, false, .wo, .own, false, .c 0⟩
def MGR.INST_CMD.scrub : Fld := ⟨.mgr, 0x104, 0, 1, 8, 1, false, .wo, .own, false, .c 0⟩
def MGR.INST_STAT.state : Fld := ⟨.mgr, 0x108, 0, 1, 0, 3, false, .ro, .own, false, .c 0⟩
def MGR.INST_STAT.busy : Fld := ⟨.mgr, 0x108, 0, 1, 3, 1, false, .ro, .own, false, .c 0⟩
def MGR.INST_STAT.forced : Fld := ⟨.mgr, 0x108, 0, 1, 4, 1, false, .ro, .own, false, .c 0⟩
def MGR.INST_STAT.external : Fld := ⟨.mgr, 0x108, 0, 1, 5, 1, false, .ro, .own, false, .c 0⟩
def MGR.QUIESCE_LIMIT.limit_us : Fld := ⟨.mgr, 0x10c, 0, 1, 0, 24, false, .rw, .own, true, .c 10000⟩
def MGR.ALLOC_RINGS.count : Fld := ⟨.mgr, 0x110, 0, 1, 0, 13, false, .rw, .own, true, .c 0⟩
def MGR.ALLOC_HEADS.heads : Fld := ⟨.mgr, 0x114, 0, 1, 0, 8, false, .rw, .own, true, .c 0⟩
def MGR.ALLOC_LAYER.layers : Fld := ⟨.mgr, 0x118, 0x4, 8, 0, 16, false, .rw, .own, true, .c 0⟩
def MGR.ALLOC_GPU.contexts : Fld := ⟨.mgr, 0x138, 0, 1, 0, 7, false, .rw, .own, true, .c 0⟩
def MGR.ALLOC_GPU.share : Fld := ⟨.mgr, 0x138, 0, 1, 8, 9, false, .rw, .own, true, .c 0⟩
def MGR.ALLOC_DMA.engines : Fld := ⟨.mgr, 0x13c, 0, 1, 0, 8, false, .rw, .own, true, .c 0⟩
def MGR.ALLOC_AUDIO.streams : Fld := ⟨.mgr, 0x140, 0, 1, 0, 7, false, .rw, .own, true, .c 0⟩
def MGR.ALLOC_SURF.surfaces : Fld := ⟨.mgr, 0x144, 0, 1, 0, 8, false, .rw, .own, true, .c 0⟩
def MGR.ALLOC_HAPT.channels : Fld := ⟨.mgr, 0x148, 0, 1, 0, 32, false, .rw, .own, true, .c 0⟩
def MGR.ALLOC_CAM.ports : Fld := ⟨.mgr, 0x14c, 0, 1, 0, 16, false, .rw, .own, true, .c 0⟩
def MGR.ALLOC_PIN0.gpio_lo : Fld := ⟨.mgr, 0x150, 0, 1, 0, 32, false, .rw, .own, true, .c 0⟩
def MGR.ALLOC_PIN1.gpio_enc : Fld := ⟨.mgr, 0x154, 0, 1, 0, 32, false, .rw, .own, true, .c 0⟩
def MGR.ALLOC_PIN2.din : Fld := ⟨.mgr, 0x158, 0, 1, 0, 32, false, .rw, .own, true, .c 0⟩
def MGR.ALLOC_BW.rate : Fld := ⟨.mgr, 0x15c, 0, 1, 0, 16, false, .rw, .own, true, .c 0⟩
def MGR.VIEW_INDEX.slot : Fld := ⟨.mgr, 0x160, 0, 1, 0, 8, false, .rw, .own, true, .c 0⟩
def MGR.VIEW_ENTRY.page : Fld := ⟨.mgr, 0x164, 0, 1, 0, 8, false, .rw, .own, true, .c 0⟩
def MGR.VIEW_ENTRY.valid : Fld := ⟨.mgr, 0x164, 0, 1, 8, 1, false, .rw, .own, true, .c 0⟩
def MGR.VIEW_ENTRY.write : Fld := ⟨.mgr, 0x164, 0, 1, 9, 1, false, .rw, .own, true, .c 0⟩
def MGR.IRQ_TARGET.addr : Fld := ⟨.mgr, 0x168, 0, 1, 0, 40, true, .rw, .own, true, .c 0⟩
def MGR.IRQ_DATA.data : Fld := ⟨.mgr, 0x170, 0, 1, 0, 32, false, .rw, .own, true, .c 0⟩
def MGR.FORCED_SEL.word : Fld := ⟨.mgr, 0x174, 0, 1, 0, 7, false, .rw, .own, true, .c 0⟩
def MGR.FORCED_BITS.rings : Fld := ⟨.mgr, 0x178, 0, 1, 0, 32, false, .ro, .own, false, .c 0⟩
def MGR.VF_INDEX.function : Fld := ⟨.mgr, 0x180, 0, 1, 0, 6, false, .rw, .own, true, .c 0⟩
def MGR.VF_MAP.inst : Fld := ⟨.mgr, 0x184, 0, 1, 0, 6, false, .rw, .own, true, .c 0⟩
def MGR.VF_MAP.valid : Fld := ⟨.mgr, 0x184, 0, 1, 8, 1, false, .rw, .own, true, .c 0⟩
def MGR.MBX_SEL.inst : Fld := ⟨.mgr, 0x188, 0, 1, 0, 6, false, .rw, .own, true, .c 0⟩
def MGR.FLR_INST.inst : Fld := ⟨.mgr, 0x18c, 0, 1, 0, 6, false, .rol, .own, false, .c 0⟩
def MGR.MGR_IRQ_TARGET.addr : Fld := ⟨.mgr, 0x190, 0, 1, 0, 40, true, .rw, .own, true, .c 0⟩
def MGR.MGR_IRQ_DATA.data : Fld := ⟨.mgr, 0x198, 0, 1, 0, 32, false, .rw, .own, true, .c 0⟩
def MGR.MGR_REARM.rearm : Fld := ⟨.mgr, 0x19c, 0, 1, 0, 1, false, .wo, .own, false, .c 0⟩
/-- The fields of MGR from offset 0x100. -/
def MGR.rows : List Fld :=
  [MGR.INST_SEL.inst, MGR.INST_CMD.op, MGR.INST_CMD.scrub, MGR.INST_STAT.state, MGR.INST_STAT.busy,
   MGR.INST_STAT.forced, MGR.INST_STAT.external, MGR.QUIESCE_LIMIT.limit_us, MGR.ALLOC_RINGS.count,
   MGR.ALLOC_HEADS.heads, MGR.ALLOC_LAYER.layers, MGR.ALLOC_GPU.contexts, MGR.ALLOC_GPU.share,
   MGR.ALLOC_DMA.engines, MGR.ALLOC_AUDIO.streams, MGR.ALLOC_SURF.surfaces, MGR.ALLOC_HAPT.channels,
   MGR.ALLOC_CAM.ports, MGR.ALLOC_PIN0.gpio_lo, MGR.ALLOC_PIN1.gpio_enc, MGR.ALLOC_PIN2.din, MGR.ALLOC_BW.rate,
   MGR.VIEW_INDEX.slot, MGR.VIEW_ENTRY.page, MGR.VIEW_ENTRY.valid, MGR.VIEW_ENTRY.write, MGR.IRQ_TARGET.addr,
   MGR.IRQ_DATA.data, MGR.FORCED_SEL.word, MGR.FORCED_BITS.rings, MGR.VF_INDEX.function, MGR.VF_MAP.inst,
   MGR.VF_MAP.valid, MGR.MBX_SEL.inst, MGR.FLR_INST.inst, MGR.MGR_IRQ_TARGET.addr, MGR.MGR_IRQ_DATA.data,
   MGR.MGR_REARM.rearm]

/-! WORLD (R150). -/
def WORLD.VALE_SEL.vale : Fld := ⟨.world, 0x100, 0, 1, 0, 6, false, .rw, .own, false, .c 0⟩
def WORLD.VALE_CMD.op : Fld := ⟨.world, 0x104, 0, 1, 0, 3, false, .wo, .own, false, .c 0⟩
def WORLD.VALE_CMD.gate : Fld := ⟨.world, 0x104, 0, 1, 8, 1, false, .wo, .own, false, .c 0⟩
def WORLD.VALE_STAT.state : Fld := ⟨.world, 0x108, 0, 1, 0, 2, false, .ro, .own, false, .c 0⟩
def WORLD.VALE_STAT.busy : Fld := ⟨.world, 0x108, 0, 1, 2, 1, false, .ro, .own, false, .c 0⟩
def WORLD.VALE_STAT.parent : Fld := ⟨.world, 0x108, 0, 1, 8, 6, false, .ro, .own, false, .c 0⟩
def WORLD.VALE_STAT.inside : Fld := ⟨.world, 0x108, 0, 1, 16, 5, false, .ro, .own, false, .c 0⟩
def WORLD.VALE_PARENT.parent : Fld := ⟨.world, 0x10c, 0, 1, 0, 6, false, .rw, .own, false, .c 0⟩
def WORLD.LOAD_SRC.pfn : Fld := ⟨.world, 0x110, 0, 1, 0, 28, false, .rw, .own, false, .c 0⟩
def WORLD.LOAD_DST.pfn : Fld := ⟨.world, 0x114, 0, 1, 0, 28, false, .rw, .own, false, .c 0⟩
def WORLD.LOAD_COUNT.count : Fld := ⟨.world, 0x118, 0, 1, 0, 16, false, .rw, .own, false, .c 0⟩
def WORLD.LOAD_SEQ.seq : Fld := ⟨.world, 0x11c, 0, 1, 0, 32, false, .ro, .own, false, .c 0⟩
def WORLD.MEAS.digest : Fld := ⟨.world, 0x120, 0x4, 8, 0, 32, false, .ro, .own, false, .c 0⟩
def WORLD.DMA_OWNER.owner : Fld := ⟨.world, 0x140, 0x4, 8, 0, 8, false, .rw, .own, true, .c 255⟩
/-- The fields of WORLD from offset 0x100. -/
def WORLD.rows : List Fld :=
  [WORLD.VALE_SEL.vale, WORLD.VALE_CMD.op, WORLD.VALE_CMD.gate, WORLD.VALE_STAT.state, WORLD.VALE_STAT.busy,
   WORLD.VALE_STAT.parent, WORLD.VALE_STAT.inside, WORLD.VALE_PARENT.parent, WORLD.LOAD_SRC.pfn,
   WORLD.LOAD_DST.pfn, WORLD.LOAD_COUNT.count, WORLD.LOAD_SEQ.seq, WORLD.MEAS.digest, WORLD.DMA_OWNER.owner]

/-! SWDT (R150). -/
def SWDT.SWDT_CTRL.enable : Fld := ⟨.swdt, 0x100, 0, 1, 0, 1, false, .w1s, .own, false, .c 0⟩
def SWDT.SWDT_CTRL.debug_pause : Fld := ⟨.swdt, 0x100, 0, 1, 1, 1, false, .rw, .own, true, .c 0⟩
def SWDT.TIMEOUT.ms : Fld := ⟨.swdt, 0x104, 0, 1, 0, 16, false, .rw, .own, true, .c 10000⟩
def SWDT.WARN.ms : Fld := ⟨.swdt, 0x108, 0, 1, 0, 16, false, .rw, .own, true, .c 0⟩
def SWDT.SWDT_KICK.key : Fld := ⟨.swdt, 0x10c, 0, 1, 0, 16, false, .wo, .own, false, .c 0⟩
def SWDT.REMAIN.ms : Fld := ⟨.swdt, 0x110, 0, 1, 0, 16, false, .ro, .own, false, .c 0⟩
def SWDT.SWDT_STAT.running : Fld := ⟨.swdt, 0x114, 0, 1, 0, 1, false, .ro, .own, false, .c 0⟩
def SWDT.SWDT_STAT.paused : Fld := ⟨.swdt, 0x114, 0, 1, 1, 1, false, .ro, .own, false, .c 0⟩
/-- The fields of SWDT from offset 0x100. -/
def SWDT.rows : List Fld :=
  [SWDT.SWDT_CTRL.enable, SWDT.SWDT_CTRL.debug_pause, SWDT.TIMEOUT.ms, SWDT.WARN.ms, SWDT.SWDT_KICK.key,
   SWDT.REMAIN.ms, SWDT.SWDT_STAT.running, SWDT.SWDT_STAT.paused]

/-! DRAM (R179). -/
def DRAM.SUB_STAT.trained : Fld := ⟨.dram, 0x100, 0, 1, 0, 1, false, .ro, .own, false, .c 0⟩
def DRAM.SUB_STAT.offline : Fld := ⟨.dram, 0x100, 0, 1, 1, 1, false, .ro, .own, false, .c 0⟩
def DRAM.SUB_STAT.hot : Fld := ⟨.dram, 0x100, 0, 1, 2, 1, false, .ro, .own, false, .c 0⟩
def DRAM.SUB_STAT.spare_avail : Fld := ⟨.dram, 0x100, 0, 1, 3, 1, false, .ro, .own, false, .c 0⟩
def DRAM.RANK_MAP.map : Fld := ⟨.dram, 0x104, 0, 1, 0, 8, false, .rw, .own, true, .byVar 0xE4 0x40 0xE4⟩
def DRAM.TRAIN_STAT.pass : Fld := ⟨.dram, 0x108, 0, 1, 0, 4, false, .ro, .own, false, .c 0⟩
def DRAM.REF_STAT.temp : Fld := ⟨.dram, 0x10c, 0, 1, 0, 8, false, .ro, .own, false, .c 0⟩
def DRAM.SPARE_CTRL.auto : Fld := ⟨.dram, 0x110, 0, 1, 0, 1, false, .rw, .own, true, .c 1⟩
def DRAM.SPARE_CTRL.ce_window_s : Fld := ⟨.dram, 0x110, 0, 1, 8, 8, false, .rw, .own, true, .c 60⟩
def DRAM.SPARE_CTRL.ce_limit : Fld := ⟨.dram, 0x110, 0, 1, 16, 16, false, .rw, .own, true, .c 1000⟩
def DRAM.SPARE_CMD.rank : Fld := ⟨.dram, 0x114, 0, 1, 0, 2, false, .wo, .own, false, .c 0⟩
def DRAM.SPARE_CMD.start : Fld := ⟨.dram, 0x114, 0, 1, 8, 1, false, .wo, .own, false, .c 0⟩
def DRAM.SPARE_CMD.cancel : Fld := ⟨.dram, 0x114, 0, 1, 9, 1, false, .wo, .own, false, .c 0⟩
def DRAM.SPARE_STAT.state : Fld := ⟨.dram, 0x118, 0, 1, 0, 2, false, .ro, .own, false, .c 0⟩
def DRAM.SPARE_STAT.rank : Fld := ⟨.dram, 0x118, 0, 1, 2, 2, false, .ro, .own, false, .c 0⟩
def DRAM.SPARE_STAT.deferred : Fld := ⟨.dram, 0x118, 0, 1, 4, 1, false, .w1c, .own, false, .c 0⟩
def DRAM.SPARE_STAT.cause : Fld := ⟨.dram, 0x118, 0, 1, 5, 2, false, .ro, .own, false, .c 0⟩
def DRAM.SPARE_STAT.done_64k : Fld := ⟨.dram, 0x118, 0, 1, 16, 16, false, .ro, .own, false, .c 0⟩
def DRAM.CE_RANK.count : Fld := ⟨.dram, 0x120, 0x4, 4, 0, 16, false, .ro, .own, false, .c 0⟩
def DRAM.REPLAY_CFG.alert_delay : Fld := ⟨.dram, 0x130, 0, 1, 0, 8, false, .ro, .own, false, .c 0⟩
def DRAM.TIMING0.cl : Fld := ⟨.dram, 0x140, 0, 1, 0, 8, false, .ro, .own, false, .c 0⟩
def DRAM.TIMING0.cwl : Fld := ⟨.dram, 0x140, 0, 1, 8, 8, false, .ro, .own, false, .c 0⟩
def DRAM.TIMING0.trcd : Fld := ⟨.dram, 0x140, 0, 1, 16, 8, false, .ro, .own, false, .c 0⟩
def DRAM.TIMING0.trp : Fld := ⟨.dram, 0x140, 0, 1, 24, 8, false, .ro, .own, false, .c 0⟩
def DRAM.TIMING1.tras : Fld := ⟨.dram, 0x144, 0, 1, 0, 8, false, .ro, .own, false, .c 0⟩
def DRAM.TIMING1.trc : Fld := ⟨.dram, 0x144, 0, 1, 8, 8, false, .ro, .own, false, .c 0⟩
def DRAM.TIMING1.twr : Fld := ⟨.dram, 0x144, 0, 1, 16, 8, false, .ro, .own, false, .c 0⟩
def DRAM.TIMING1.trtp : Fld := ⟨.dram, 0x144, 0, 1, 24, 8, false, .ro, .own, false, .c 0⟩
def DRAM.TIMING2.twtr : Fld := ⟨.dram, 0x148, 0, 1, 0, 8, false, .ro, .own, false, .c 0⟩
def DRAM.TIMING2.tccd_s : Fld := ⟨.dram, 0x148, 0, 1, 8, 8, false, .ro, .own, false, .c 0⟩
def DRAM.TIMING2.tccd_l : Fld := ⟨.dram, 0x148, 0, 1, 16, 8, false, .ro, .own, false, .c 0⟩
def DRAM.TIMING2.trrd_s : Fld := ⟨.dram, 0x148, 0, 1, 24, 8, false, .ro, .own, false, .c 0⟩
def DRAM.TIMING3.trrd_l : Fld := ⟨.dram, 0x14c, 0, 1, 0, 8, false, .ro, .own, false, .c 0⟩
def DRAM.TIMING3.tfaw : Fld := ⟨.dram, 0x14c, 0, 1, 8, 8, false, .ro, .own, false, .c 0⟩
def DRAM.TIMING3.trefi : Fld := ⟨.dram, 0x14c, 0, 1, 16, 16, false, .ro, .own, false, .c 0⟩
def DRAM.TIMING4.trfc : Fld := ⟨.dram, 0x150, 0, 1, 0, 16, false, .ro, .own, false, .c 0⟩
/-- The fields of DRAM from offset 0x100. -/
def DRAM.rows : List Fld :=
  [DRAM.SUB_STAT.trained, DRAM.SUB_STAT.offline, DRAM.SUB_STAT.hot, DRAM.SUB_STAT.spare_avail, DRAM.RANK_MAP.map,
   DRAM.TRAIN_STAT.pass, DRAM.REF_STAT.temp, DRAM.SPARE_CTRL.auto, DRAM.SPARE_CTRL.ce_window_s,
   DRAM.SPARE_CTRL.ce_limit, DRAM.SPARE_CMD.rank, DRAM.SPARE_CMD.start, DRAM.SPARE_CMD.cancel,
   DRAM.SPARE_STAT.state, DRAM.SPARE_STAT.rank, DRAM.SPARE_STAT.deferred, DRAM.SPARE_STAT.cause,
   DRAM.SPARE_STAT.done_64k, DRAM.CE_RANK.count, DRAM.REPLAY_CFG.alert_delay, DRAM.TIMING0.cl, DRAM.TIMING0.cwl,
   DRAM.TIMING0.trcd, DRAM.TIMING0.trp, DRAM.TIMING1.tras, DRAM.TIMING1.trc, DRAM.TIMING1.twr, DRAM.TIMING1.trtp,
   DRAM.TIMING2.twtr, DRAM.TIMING2.tccd_s, DRAM.TIMING2.tccd_l, DRAM.TIMING2.trrd_s, DRAM.TIMING3.trrd_l,
   DRAM.TIMING3.tfaw, DRAM.TIMING3.trefi, DRAM.TIMING4.trfc]

/-! DRAMQ (R180). -/
def DRAMQ.PORT_SEL.port : Fld := ⟨.dramq, 0x100, 0, 1, 0, 5, false, .rw, .own, true, .c 0⟩
def DRAMQ.PORT_CFG.cls : Fld := ⟨.dramq, 0x104, 0, 1, 0, 2, false, .rw, .own, true, .byBank portClass⟩
def DRAMQ.PORT_CFG.hint_mode : Fld := ⟨.dramq, 0x104, 0, 1, 4, 2, false, .rw, .own, true, .c 0⟩
def DRAMQ.PORT_CFG.critical_only : Fld := ⟨.dramq, 0x104, 0, 1, 8, 1, false, .rw, .own, true, .bankIs 10⟩
def DRAMQ.PORT_RATE.rate : Fld := ⟨.dramq, 0x108, 0, 1, 0, 16, false, .rw, .own, true, .bankIs 13⟩
def DRAMQ.PORT_BURST.kib : Fld := ⟨.dramq, 0x10c, 0, 1, 0, 12, false, .rw, .own, true, .c 64⟩
def DRAMQ.PORT_LAT.target_ns : Fld := ⟨.dramq, 0x110, 0, 1, 0, 16, false, .rw, .own, true, .byBank portLat⟩
def DRAMQ.PORT_STAT.admit_seq : Fld := ⟨.dramq, 0x114, 0, 1, 0, 16, false, .ro, .own, false, .c 0⟩
def DRAMQ.PORT_STAT.broken : Fld := ⟨.dramq, 0x114, 0, 1, 16, 1, false, .ro, .own, false, .c 0⟩
def DRAMQ.ADMIT_EFF.eff : Fld := ⟨.dramq, 0x120, 0, 1, 0, 8, false, .rw, .own, true, .c 205⟩
def DRAMQ.ADMIT_CAP.cap : Fld := ⟨.dramq, 0x124, 0, 1, 0, 16, false, .ro, .own, false, .c 1192⟩
def DRAMQ.ADMIT_USED.used : Fld := ⟨.dramq, 0x128, 0, 1, 0, 16, false, .ro, .own, false, .c 0⟩
def DRAMQ.BROKEN.ports : Fld := ⟨.dramq, 0x12c, 0, 1, 0, 17, false, .ro, .own, false, .c 0⟩
def DRAMQ.BROKEN_INST.inst : Fld := ⟨.dramq, 0x130, 0, 1, 0, 64, true, .ro, .own, false, .c 0⟩
def DRAMQ.SHORTFALL.units : Fld := ⟨.dramq, 0x138, 0, 1, 0, 16, false, .ro, .own, false, .c 0⟩
def DRAMQ.RES_INST.inst : Fld := ⟨.dramq, 0x13c, 0, 1, 0, 6, false, .rw, .own, true, .c 1⟩
def DRAMQ.RES_STAT.admit_seq : Fld := ⟨.dramq, 0x140, 0, 1, 0, 16, false, .ro, .own, false, .c 0⟩
def DRAMQ.RES_STAT.broken : Fld := ⟨.dramq, 0x140, 0, 1, 16, 1, false, .ro, .own, false, .c 0⟩
/-- The fields of DRAMQ from offset 0x100. -/
def DRAMQ.rows : List Fld :=
  [DRAMQ.PORT_SEL.port, DRAMQ.PORT_CFG.cls, DRAMQ.PORT_CFG.hint_mode, DRAMQ.PORT_CFG.critical_only,
   DRAMQ.PORT_RATE.rate, DRAMQ.PORT_BURST.kib, DRAMQ.PORT_LAT.target_ns, DRAMQ.PORT_STAT.admit_seq,
   DRAMQ.PORT_STAT.broken, DRAMQ.ADMIT_EFF.eff, DRAMQ.ADMIT_CAP.cap, DRAMQ.ADMIT_USED.used, DRAMQ.BROKEN.ports,
   DRAMQ.BROKEN_INST.inst, DRAMQ.SHORTFALL.units, DRAMQ.RES_INST.inst, DRAMQ.RES_STAT.admit_seq,
   DRAMQ.RES_STAT.broken]

/-! RSCHED (R209). -/
def RSCHED.CTX_SEL.ring : Fld := ⟨.rsched, 0x100, 0, 1, 0, 18, false, .rw, .own, true, .c 0⟩
def RSCHED.CTX_OP.op : Fld := ⟨.rsched, 0x104, 0, 1, 0, 3, false, .wo, .own, false, .c 0⟩
def RSCHED.CTX_OP.target : Fld := ⟨.rsched, 0x104, 0, 1, 8, 4, false, .wo, .own, false, .c 0⟩
def RSCHED.CTX_OP.busy : Fld := ⟨.rsched, 0x104, 0, 1, 31, 1, false, .ro, .own, false, .c 0⟩
def RSCHED.CTX_DATA.word : Fld := ⟨.rsched, 0x110, 0x4, 16, 0, 32, false, .rw, .own, true, .c 0⟩
def RSCHED.INST_SEL.inst : Fld := ⟨.rsched, 0x150, 0, 1, 0, 6, false, .rw, .own, true, .c 0⟩
def RSCHED.FENCE_BASE.addr : Fld := ⟨.rsched, 0x154, 0, 1, 12, 20, true, .rw, .own, true, .c 0⟩
def RSCHED.FENCE_BASE.addr_hi : Fld := ⟨.rsched, 0x154, 0, 1, 32, 8, true, .rw, .own, true, .c 0⟩
def RSCHED.FENCE_SLOTS.slots : Fld := ⟨.rsched, 0x15c, 0, 1, 0, 11, false, .rw, .own, true, .c 0⟩
def RSCHED.EVQ.ring : Fld := ⟨.rsched, 0x160, 0, 1, 0, 12, false, .rw, .own, true, .c 0⟩
def RSCHED.EVQ.valid : Fld := ⟨.rsched, 0x160, 0, 1, 16, 1, false, .rw, .own, true, .c 0⟩
def RSCHED.PIN_COUNT.pinned : Fld := ⟨.rsched, 0x164, 0, 1, 0, 11, false, .ro, .own, false, .c 0⟩
/-- The fields of RSCHED from offset 0x100. -/
def RSCHED.rows : List Fld :=
  [RSCHED.CTX_SEL.ring, RSCHED.CTX_OP.op, RSCHED.CTX_OP.target, RSCHED.CTX_OP.busy, RSCHED.CTX_DATA.word,
   RSCHED.INST_SEL.inst, RSCHED.FENCE_BASE.addr, RSCHED.FENCE_BASE.addr_hi, RSCHED.FENCE_SLOTS.slots,
   RSCHED.EVQ.ring, RSCHED.EVQ.valid, RSCHED.PIN_COUNT.pinned]

/-! DMA (R210). -/
def DMA.STAT.state : Fld := ⟨.dma, 0x100, 0, 1, 0, 2, false, .ro, .own, false, .c 0⟩
def DMA.RING.ring : Fld := ⟨.dma, 0x104, 0, 1, 0, 18, false, .ro, .own, false, .c 0⟩
def DMA.ELEM.index : Fld := ⟨.dma, 0x108, 0, 1, 0, 4, false, .rol, .own, false, .c 0⟩
def DMA.ELEM.dir : Fld := ⟨.dma, 0x108, 0, 1, 8, 1, false, .rol, .own, false, .c 0⟩
def DMA.ELEM.partial : Fld := ⟨.dma, 0x108, 0, 1, 9, 1, false, .rol, .own, false, .c 0⟩
def DMA.ELEM.crc : Fld := ⟨.dma, 0x108, 0, 1, 10, 1, false, .rol, .own, false, .c 0⟩
def DMA.BYTES.done : Fld := ⟨.dma, 0x10c, 0, 1, 0, 21, false, .rol, .own, false, .c 0⟩
def DMA.FAIL_ADDR.addr_lo : Fld := ⟨.dma, 0x110, 0, 1, 0, 32, true, .rol, .own, false, .c 0⟩
def DMA.FAIL_ADDR.addr_hi : Fld := ⟨.dma, 0x110, 0, 1, 32, 8, true, .rol, .own, false, .c 0⟩
def DMA.CRC_STATE.crc : Fld := ⟨.dma, 0x118, 0, 1, 0, 32, false, .ro, .own, false, .c 0⟩
def DMA.HALT_LIMIT.ms : Fld := ⟨.dma, 0x11c, 0, 1, 0, 16, false, .rw, .own, true, .c 100⟩
def DMA.CTRL.resume : Fld := ⟨.dma, 0x120, 0, 1, 0, 1, false, .wo, .mgr, false, .c 0⟩
def DMA.CTRL.abort : Fld := ⟨.dma, 0x120, 0, 1, 1, 1, false, .wo, .mgr, false, .c 0⟩
def DMA.CAUSE.code : Fld := ⟨.dma, 0x124, 0, 1, 0, 16, false, .rol, .own, false, .c 0⟩
/-- The fields of DMA from offset 0x100. -/
def DMA.rows : List Fld :=
  [DMA.STAT.state, DMA.RING.ring, DMA.ELEM.index, DMA.ELEM.dir, DMA.ELEM.partial, DMA.ELEM.crc, DMA.BYTES.done,
   DMA.FAIL_ADDR.addr_lo, DMA.FAIL_ADDR.addr_hi, DMA.CRC_STATE.crc, DMA.HALT_LIMIT.ms, DMA.CTRL.resume,
   DMA.CTRL.abort, DMA.CAUSE.code]

/-! GFX (R252). -/
def GFX.ENG_STAT.fe0 : Fld := ⟨.gfx, 0x100, 0, 1, 0, 2, false, .ro, .own, false, .c 0⟩
def GFX.ENG_STAT.fe1 : Fld := ⟨.gfx, 0x100, 0, 1, 2, 2, false, .ro, .own, false, .c 0⟩
def GFX.ENG_STAT.clusters0 : Fld := ⟨.gfx, 0x100, 0, 1, 4, 5, false, .ro, .own, false, .c 0⟩
def GFX.ENG_STAT.clusters1 : Fld := ⟨.gfx, 0x100, 0, 1, 9, 5, false, .ro, .own, false, .c 0⟩
def GFX.ENG_STAT.comp_active : Fld := ⟨.gfx, 0x100, 0, 1, 16, 1, false, .ro, .own, false, .c 0⟩
def GFX.BIN_CFG.comp_blocks : Fld := ⟨.gfx, 0x104, 0, 1, 0, 7, false, .rws, .own, true, .c 16⟩
def GFX.BIN_CFG.fe0_blocks : Fld := ⟨.gfx, 0x104, 0, 1, 8, 7, false, .rws, .own, true, .c 56⟩
def GFX.BIN_CFG.fe1_blocks : Fld := ⟨.gfx, 0x104, 0, 1, 16, 7, false, .ro, .own, false, .c 56⟩
def GFX.COMP_CTX.ctx : Fld := ⟨.gfx, 0x108, 0, 1, 0, 6, false, .rw, .own, true, .c 0⟩
def GFX.COMP_CTX.valid : Fld := ⟨.gfx, 0x108, 0, 1, 8, 1, false, .rw, .own, true, .c 0⟩
def GFX.JOB_LIMIT.ms : Fld := ⟨.gfx, 0x10c, 0, 1, 0, 16, false, .rw, .own, true, .c 1000⟩
def GFX.PREEMPT_KILL.us : Fld := ⟨.gfx, 0x110, 0, 1, 0, 16, false, .rw, .own, true, .c 2000⟩
def GFX.MGR_ALLOC.contexts : Fld := ⟨.gfx, 0x114, 0, 1, 0, 7, false, .rw, .own, true, .c 2⟩
def GFX.MGR_ALLOC.share : Fld := ⟨.gfx, 0x114, 0, 1, 8, 9, false, .rw, .own, true, .c 32⟩
def GFX.CTX_SEL.ctx : Fld := ⟨.gfx, 0x118, 0, 1, 0, 6, false, .rw, .own, true, .c 0⟩
def GFX.CTX_STAT.owner : Fld := ⟨.gfx, 0x11c, 0, 1, 0, 8, false, .ro, .own, false, .c 255⟩
def GFX.CTX_STAT.local : Fld := ⟨.gfx, 0x11c, 0, 1, 8, 6, false, .ro, .own, false, .c 0⟩
def GFX.CTX_STAT.state : Fld := ⟨.gfx, 0x11c, 0, 1, 16, 3, false, .ro, .own, false, .c 0⟩
def GFX.CTX_STAT.fe : Fld := ⟨.gfx, 0x11c, 0, 1, 20, 1, false, .ro, .own, false, .c 0⟩
def GFX.CTX_STAT.comp : Fld := ⟨.gfx, 0x11c, 0, 1, 24, 1, false, .ro, .own, false, .c 0⟩
def GFX.CTX_FAULT.cause : Fld := ⟨.gfx, 0x120, 0, 1, 0, 8, false, .rol, .own, false, .c 0⟩
def GFX.CTX_FAULT.code : Fld := ⟨.gfx, 0x120, 0, 1, 16, 16, false, .rol, .own, false, .c 0⟩
def GFX.CTX_FAULT_ADDR.addr : Fld := ⟨.gfx, 0x124, 0, 1, 0, 40, true, .rol, .own, false, .c 0⟩
def GFX.CREDIT_SEL.inst : Fld := ⟨.gfx, 0x12c, 0, 1, 0, 6, false, .rw, .own, true, .c 0⟩
def GFX.CREDIT.credit : Fld := ⟨.gfx, 0x130, 0, 1, 0, 32, false, .ro, .own, false, .c 0⟩
def GFX.PREEMPT_LAST.us : Fld := ⟨.gfx, 0x134, 0, 1, 0, 16, false, .ro, .own, false, .c 0⟩
/-- The fields of GFX from offset 0x100. -/
def GFX.rows : List Fld :=
  [GFX.ENG_STAT.fe0, GFX.ENG_STAT.fe1, GFX.ENG_STAT.clusters0, GFX.ENG_STAT.clusters1, GFX.ENG_STAT.comp_active,
   GFX.BIN_CFG.comp_blocks, GFX.BIN_CFG.fe0_blocks, GFX.BIN_CFG.fe1_blocks, GFX.COMP_CTX.ctx, GFX.COMP_CTX.valid,
   GFX.JOB_LIMIT.ms, GFX.PREEMPT_KILL.us, GFX.MGR_ALLOC.contexts, GFX.MGR_ALLOC.share, GFX.CTX_SEL.ctx,
   GFX.CTX_STAT.owner, GFX.CTX_STAT.local, GFX.CTX_STAT.state, GFX.CTX_STAT.fe, GFX.CTX_STAT.comp,
   GFX.CTX_FAULT.cause, GFX.CTX_FAULT.code, GFX.CTX_FAULT_ADDR.addr, GFX.CREDIT_SEL.inst, GFX.CREDIT.credit,
   GFX.PREEMPT_LAST.us]

/-! COMP (R272). -/
def COMP.ENG_STAT.busy0 : Fld := ⟨.comp, 0x100, 0, 1, 0, 1, false, .ro, .own, false, .c 0⟩
def COMP.ENG_STAT.busy1 : Fld := ⟨.comp, 0x100, 0, 1, 1, 1, false, .ro, .own, false, .c 0⟩
def COMP.ENG_STAT.late0 : Fld := ⟨.comp, 0x100, 0, 1, 2, 1, false, .ro, .own, false, .c 0⟩
def COMP.ENG_STAT.late1 : Fld := ⟨.comp, 0x100, 0, 1, 3, 1, false, .ro, .own, false, .c 0⟩
def COMP.ENG_STAT.pending0 : Fld := ⟨.comp, 0x100, 0, 1, 16, 6, false, .ro, .own, false, .c 0⟩
def COMP.ENG_STAT.pending1 : Fld := ⟨.comp, 0x100, 0, 1, 24, 6, false, .ro, .own, false, .c 0⟩
def COMP.MGR_LAYERS.reserved : Fld := ⟨.comp, 0x104, 0, 1, 0, 32, false, .rw, .own, true, .c 0⟩
def COMP.BG.colour : Fld := ⟨.comp, 0x108, 0x4, 2, 0, 30, false, .rws, .own, true, .c 0⟩
def COMP.CSC_M.m : Fld := ⟨.comp, 0x110, 0x4, 5, 0, 32, false, .rws, .own, true, .byElem cscIdentity⟩
def COMP.CSC_OFF0.off_rg : Fld := ⟨.comp, 0x124, 0, 1, 0, 28, false, .rws, .own, true, .c 0⟩
def COMP.CSC_OFF1.off_b : Fld := ⟨.comp, 0x128, 0, 1, 0, 12, false, .rws, .own, true, .c 0⟩
def COMP.COEF_SEL.bank : Fld := ⟨.comp, 0x130, 0, 1, 0, 2, false, .rw, .own, true, .c 0⟩
def COMP.COEF_SEL.table : Fld := ⟨.comp, 0x130, 0, 1, 2, 1, false, .rw, .own, true, .c 0⟩
def COMP.COEF_SEL.phase : Fld := ⟨.comp, 0x130, 0, 1, 3, 6, false, .rw, .own, true, .c 0⟩
def COMP.COEF_SEL.word : Fld := ⟨.comp, 0x130, 0, 1, 9, 2, false, .rw, .own, true, .c 0⟩
def COMP.COEF_DATA.taps : Fld := ⟨.comp, 0x134, 0, 1, 0, 28, false, .rw, .own, false, .c 0⟩
def COMP.COEF_USE.banks : Fld := ⟨.comp, 0x138, 0, 1, 0, 4, false, .ro, .own, false, .c 0⟩
def COMP.LAYER_SEL.layer : Fld := ⟨.comp, 0x140, 0, 1, 0, 5, false, .rw, .own, true, .c 0⟩
def COMP.LAYER_STAT.owner : Fld := ⟨.comp, 0x144, 0, 1, 0, 8, false, .ro, .own, false, .c 254⟩
def COMP.LAYER_STAT.enabled : Fld := ⟨.comp, 0x144, 0, 1, 8, 1, false, .ro, .own, false, .c 0⟩
def COMP.LAYER_STAT.substituted : Fld := ⟨.comp, 0x144, 0, 1, 9, 1, false, .ro, .own, false, .c 0⟩
def COMP.LAYER_STAT.reserved : Fld := ⟨.comp, 0x144, 0, 1, 10, 1, false, .ro, .own, false, .c 0⟩
def COMP.LAYER_STAT.bank : Fld := ⟨.comp, 0x144, 0, 1, 12, 2, false, .ro, .own, false, .c 0⟩
def COMP.LAYER_STAT.format : Fld := ⟨.comp, 0x144, 0, 1, 16, 4, false, .ro, .own, false, .c 0⟩
def COMP.LAYER_SUBST.colour : Fld := ⟨.comp, 0x148, 0, 1, 0, 30, false, .rw, .mgr, false, .c 0⟩
def COMP.LAYER_SUBST.force : Fld := ⟨.comp, 0x148, 0, 1, 31, 1, false, .rw, .mgr, false, .c 0⟩
def COMP.LAYER_ADDR.addr : Fld := ⟨.comp, 0x14c, 0, 1, 0, 40, true, .ro, .own, false, .c 0⟩
def COMP.WB_CTRL.enable : Fld := ⟨.comp, 0x160, 0x20, 2, 0, 1, false, .rws, .own, true, .c 0⟩
def COMP.WB_CTRL.divisor : Fld := ⟨.comp, 0x160, 0x20, 2, 8, 8, false, .rws, .own, true, .c 1⟩
def COMP.WB_CTRL.buffers : Fld := ⟨.comp, 0x160, 0x20, 2, 16, 3, false, .rws, .own, true, .c 2⟩
def COMP.WB_CTRL.owner : Fld := ⟨.comp, 0x160, 0x20, 2, 24, 8, false, .rws, .own, true, .c 254⟩
def COMP.WB_BASE.base : Fld := ⟨.comp, 0x164, 0x20, 2, 0, 40, true, .rws, .own, true, .c 0⟩
def COMP.WB_PITCH.bytes : Fld := ⟨.comp, 0x16c, 0x20, 2, 0, 16, false, .rws, .own, true, .c 0⟩
def COMP.WB_STRIDE.bytes : Fld := ⟨.comp, 0x170, 0x20, 2, 0, 32, false, .rws, .own, true, .c 0⟩
def COMP.WB_FENCE.signal_slot : Fld := ⟨.comp, 0x174, 0x20, 2, 0, 10, false, .rws, .own, true, .c 0⟩
def COMP.WB_FENCE.ack_slot : Fld := ⟨.comp, 0x174, 0x20, 2, 16, 10, false, .rws, .own, true, .c 1⟩
def COMP.WB_SEQ.w : Fld := ⟨.comp, 0x178, 0x20, 2, 0, 32, false, .ro, .own, false, .c 0⟩
/-- The fields of COMP from offset 0x100. -/
def COMP.rows : List Fld :=
  [COMP.ENG_STAT.busy0, COMP.ENG_STAT.busy1, COMP.ENG_STAT.late0, COMP.ENG_STAT.late1, COMP.ENG_STAT.pending0,
   COMP.ENG_STAT.pending1, COMP.MGR_LAYERS.reserved, COMP.BG.colour, COMP.CSC_M.m, COMP.CSC_OFF0.off_rg,
   COMP.CSC_OFF1.off_b, COMP.COEF_SEL.bank, COMP.COEF_SEL.table, COMP.COEF_SEL.phase, COMP.COEF_SEL.word,
   COMP.COEF_DATA.taps, COMP.COEF_USE.banks, COMP.LAYER_SEL.layer, COMP.LAYER_STAT.owner, COMP.LAYER_STAT.enabled,
   COMP.LAYER_STAT.substituted, COMP.LAYER_STAT.reserved, COMP.LAYER_STAT.bank, COMP.LAYER_STAT.format,
   COMP.LAYER_SUBST.colour, COMP.LAYER_SUBST.force, COMP.LAYER_ADDR.addr, COMP.WB_CTRL.enable,
   COMP.WB_CTRL.divisor, COMP.WB_CTRL.buffers, COMP.WB_CTRL.owner, COMP.WB_BASE.base, COMP.WB_PITCH.bytes,
   COMP.WB_STRIDE.bytes, COMP.WB_FENCE.signal_slot, COMP.WB_FENCE.ack_slot, COMP.WB_SEQ.w]

/-! BASIN (R296). -/
def BASIN.GRAN.base : Fld := ⟨.basin, 0x100, 0x4, 8, 0, 8, false, .rw, .mgr, true, .c 0⟩
def BASIN.GRAN.count : Fld := ⟨.basin, 0x100, 0x4, 8, 8, 9, false, .rw, .mgr, true, .c 0⟩
def BASIN.NEED.need : Fld := ⟨.basin, 0x120, 0x4, 8, 0, 9, false, .ro, .own, false, .c 0⟩
def BASIN.GRAN_FREE.free : Fld := ⟨.basin, 0x140, 0, 1, 0, 9, false, .ro, .own, false, .c 256⟩
def BASIN.GRP_ARM.heads : Fld := ⟨.basin, 0x144, 0, 1, 0, 8, false, .wo, .mgr, false, .c 0⟩
def BASIN.GRP_ARM.comp : Fld := ⟨.basin, 0x144, 0, 1, 8, 1, false, .wo, .mgr, false, .c 0⟩
def BASIN.GRP_ARM.glint : Fld := ⟨.basin, 0x144, 0, 1, 9, 1, false, .wo, .mgr, false, .c 0⟩
def BASIN.GRP_STAT.members : Fld := ⟨.basin, 0x148, 0, 1, 0, 8, false, .ro, .own, false, .c 0⟩
def BASIN.GRP_STAT.applied : Fld := ⟨.basin, 0x148, 0, 1, 8, 8, false, .ro, .own, false, .c 0⟩
def BASIN.GRP_STAT.busy : Fld := ⟨.basin, 0x148, 0, 1, 16, 1, false, .ro, .own, false, .c 0⟩
def BASIN.GRP_STAT.aborted : Fld := ⟨.basin, 0x148, 0, 1, 17, 1, false, .ro, .own, false, .c 0⟩
def BASIN.GRP_STAT.seq : Fld := ⟨.basin, 0x148, 0, 1, 24, 8, false, .ro, .own, false, .c 0⟩
/-- The fields of BASIN from offset 0x100. -/
def BASIN.rows : List Fld :=
  [BASIN.GRAN.base, BASIN.GRAN.count, BASIN.NEED.need, BASIN.GRAN_FREE.free, BASIN.GRP_ARM.heads,
   BASIN.GRP_ARM.comp, BASIN.GRP_ARM.glint, BASIN.GRP_STAT.members, BASIN.GRP_STAT.applied, BASIN.GRP_STAT.busy,
   BASIN.GRP_STAT.aborted, BASIN.GRP_STAT.seq]

/-! HEAD (R297). -/
def HEAD.HEAD_STAT.state : Fld := ⟨.head, 0x100, 0, 1, 0, 2, false, .ro, .own, false, .c 0⟩
def HEAD.HEAD_STAT.front : Fld := ⟨.head, 0x100, 0, 1, 2, 1, false, .ro, .own, false, .c 0⟩
def HEAD.HEAD_STAT.vblank : Fld := ⟨.head, 0x100, 0, 1, 3, 1, false, .ro, .own, false, .c 0⟩
def HEAD.HEAD_STAT.pll_lock : Fld := ⟨.head, 0x100, 0, 1, 4, 1, false, .ro, .own, false, .c 0⟩
def HEAD.HEAD_STAT.line : Fld := ⟨.head, 0x100, 0, 1, 16, 13, false, .ro, .own, false, .c 0⟩
def HEAD.TIM_H.hact : Fld := ⟨.head, 0x104, 0, 1, 0, 14, false, .rws, .mgr, true, .c 0⟩
def HEAD.TIM_H.hfp : Fld := ⟨.head, 0x104, 0, 1, 16, 12, false, .rws, .mgr, true, .c 0⟩
def HEAD.TIM_HS.hsync : Fld := ⟨.head, 0x108, 0, 1, 0, 12, false, .rws, .mgr, true, .c 0⟩
def HEAD.TIM_HS.hbp : Fld := ⟨.head, 0x108, 0, 1, 16, 12, false, .rws, .mgr, true, .c 0⟩
def HEAD.TIM_HS.hpol : Fld := ⟨.head, 0x108, 0, 1, 31, 1, false, .rws, .mgr, true, .c 0⟩
def HEAD.TIM_V.vact : Fld := ⟨.head, 0x10c, 0, 1, 0, 14, false, .rws, .mgr, true, .c 0⟩
def HEAD.TIM_V.vfp : Fld := ⟨.head, 0x10c, 0, 1, 16, 12, false, .rws, .mgr, true, .c 0⟩
def HEAD.TIM_VS.vsync : Fld := ⟨.head, 0x110, 0, 1, 0, 12, false, .rws, .mgr, true, .c 0⟩
def HEAD.TIM_VS.vbp : Fld := ⟨.head, 0x110, 0, 1, 16, 12, false, .rws, .mgr, true, .c 0⟩
def HEAD.TIM_VS.vpol : Fld := ⟨.head, 0x110, 0, 1, 31, 1, false, .rws, .mgr, true, .c 0⟩
def HEAD.FMT.bpc10 : Fld := ⟨.head, 0x114, 0, 1, 0, 1, false, .rws, .mgr, true, .c 0⟩
def HEAD.PLL_INT.n : Fld := ⟨.head, 0x118, 0, 1, 0, 10, false, .rws, .mgr, true, .c 0⟩
def HEAD.PLL_INT.m : Fld := ⟨.head, 0x118, 0, 1, 12, 2, false, .rws, .mgr, true, .c 0⟩
def HEAD.PLL_INT.p : Fld := ⟨.head, 0x118, 0, 1, 16, 8, false, .rws, .mgr, true, .c 0⟩
def HEAD.PLL_FRAC.f : Fld := ⟨.head, 0x11c, 0, 1, 0, 24, false, .rws, .mgr, true, .c 0⟩
def HEAD.GL_CFG.src : Fld := ⟨.head, 0x120, 0, 1, 0, 2, false, .rws, .mgr, true, .c 0⟩
def HEAD.GL_CFG.edge : Fld := ⟨.head, 0x120, 0, 1, 2, 1, false, .rws, .mgr, true, .c 0⟩
def HEAD.GL_CFG.ratio : Fld := ⟨.head, 0x120, 0, 1, 4, 4, false, .rws, .mgr, true, .c 1⟩
def HEAD.GL_CFG.offset : Fld := ⟨.head, 0x120, 0, 1, 16, 13, false, .rws, .mgr, true, .c 0⟩
def HEAD.PERIOD_NS.ns : Fld := ⟨.head, 0x124, 0, 1, 0, 32, false, .ro, .own, false, .c 0⟩
def HEAD.FRAME_CNT.count : Fld := ⟨.head, 0x128, 0, 1, 0, 32, false, .ro, .own, false, .c 0⟩
def HEAD.FLIP_CNT.count : Fld := ⟨.head, 0x12c, 0, 1, 0, 32, false, .ro, .own, false, .c 0⟩
def HEAD.VBL_TIME.time : Fld := ⟨.head, 0x130, 0, 1, 0, 64, true, .ro, .own, false, .c 0⟩
def HEAD.FLIP_TIME.time : Fld := ⟨.head, 0x138, 0, 1, 0, 64, true, .ro, .own, false, .c 0⟩
def HEAD.GL_STAT.state : Fld := ⟨.head, 0x140, 0, 1, 0, 3, false, .ro, .own, false, .c 0⟩
def HEAD.GL_STAT.missing : Fld := ⟨.head, 0x140, 0, 1, 4, 4, false, .ro, .own, false, .c 0⟩
def HEAD.GL_PHASE.ns : Fld := ⟨.head, 0x144, 0, 1, 0, 32, false, .ro, .own, false, .c 0⟩
def HEAD.GL_OFFSET_PPM.ppm : Fld := ⟨.head, 0x148, 0, 1, 0, 16, false, .ro, .own, false, .c 0⟩
def HEAD.GL_PERIOD_NS.ns : Fld := ⟨.head, 0x14c, 0, 1, 0, 32, false, .ro, .own, false, .c 0⟩
/-- The fields of HEAD from offset 0x100. -/
def HEAD.rows : List Fld :=
  [HEAD.HEAD_STAT.state, HEAD.HEAD_STAT.front, HEAD.HEAD_STAT.vblank, HEAD.HEAD_STAT.pll_lock, HEAD.HEAD_STAT.line,
   HEAD.TIM_H.hact, HEAD.TIM_H.hfp, HEAD.TIM_HS.hsync, HEAD.TIM_HS.hbp, HEAD.TIM_HS.hpol, HEAD.TIM_V.vact,
   HEAD.TIM_V.vfp, HEAD.TIM_VS.vsync, HEAD.TIM_VS.vbp, HEAD.TIM_VS.vpol, HEAD.FMT.bpc10, HEAD.PLL_INT.n,
   HEAD.PLL_INT.m, HEAD.PLL_INT.p, HEAD.PLL_FRAC.f, HEAD.GL_CFG.src, HEAD.GL_CFG.edge, HEAD.GL_CFG.ratio,
   HEAD.GL_CFG.offset, HEAD.PERIOD_NS.ns, HEAD.FRAME_CNT.count, HEAD.FLIP_CNT.count, HEAD.VBL_TIME.time,
   HEAD.FLIP_TIME.time, HEAD.GL_STAT.state, HEAD.GL_STAT.missing, HEAD.GL_PHASE.ns, HEAD.GL_OFFSET_PPM.ppm,
   HEAD.GL_PERIOD_NS.ns]

/-! GLINT (R309). -/
def GLINT.GLINT_CTRL.enable : Fld := ⟨.glint, 0x100, 0, 1, 0, 1, false, .rws, .mgr, true, .c 0⟩
def GLINT.GLINT_CTRL.per_line : Fld := ⟨.glint, 0x100, 0, 1, 1, 1, false, .rws, .mgr, true, .c 1⟩
def GLINT.SRC_SIZE.sw : Fld := ⟨.glint, 0x104, 0, 1, 0, 13, false, .rws, .mgr, true, .c 0⟩
def GLINT.SRC_SIZE.sh : Fld := ⟨.glint, 0x104, 0, 1, 16, 13, false, .rws, .mgr, true, .c 0⟩
def GLINT.FILL.colour : Fld := ⟨.glint, 0x108, 0, 1, 0, 30, false, .rws, .mgr, true, .c 0⟩
def GLINT.PT_SRC.x : Fld := ⟨.glint, 0x10c, 0xc, 2, 0, 12, false, .rws, .mgr, true, .c 0⟩
def GLINT.PT_SRC.y : Fld := ⟨.glint, 0x10c, 0xc, 2, 16, 12, false, .rws, .mgr, true, .c 0⟩
def GLINT.PT_DST.x : Fld := ⟨.glint, 0x110, 0xc, 2, 0, 12, false, .rws, .mgr, true, .c 0⟩
def GLINT.PT_DST.y : Fld := ⟨.glint, 0x110, 0xc, 2, 16, 12, false, .rws, .mgr, true, .c 0⟩
def GLINT.PT_SIZE.width : Fld := ⟨.glint, 0x114, 0xc, 2, 0, 9, false, .rws, .mgr, true, .c 32⟩
def GLINT.PT_SIZE.height : Fld := ⟨.glint, 0x114, 0xc, 2, 16, 5, false, .rws, .mgr, true, .c 2⟩
def GLINT.PT_SIZE.enable : Fld := ⟨.glint, 0x114, 0xc, 2, 31, 1, false, .rws, .mgr, true, .c 0⟩
def GLINT.H.h : Fld := ⟨.glint, 0x140, 0x4, 9, 0, 32, false, .rw, .own, false, .byElem [0x08000000,0,0,0,0x08000000,0,0,0,0x08000000]⟩
def GLINT.POSE_CTRL.post : Fld := ⟨.glint, 0x164, 0, 1, 0, 1, false, .sc, .own, false, .c 0⟩
def GLINT.POSE_STAT.posted_seq : Fld := ⟨.glint, 0x168, 0, 1, 0, 16, false, .ro, .own, false, .c 0⟩
def GLINT.POSE_STAT.latched_seq : Fld := ⟨.glint, 0x168, 0, 1, 16, 16, false, .ro, .own, false, .c 0⟩
def GLINT.LATCH_LINE.line : Fld := ⟨.glint, 0x16c, 0, 1, 0, 13, false, .ro, .own, false, .c 0⟩
def GLINT.LATCH_TIME.time : Fld := ⟨.glint, 0x170, 0, 1, 0, 64, true, .ro, .own, false, .c 0⟩
def GLINT.FILL_LINES.lines : Fld := ⟨.glint, 0x178, 0, 1, 0, 13, false, .ro, .own, false, .c 0⟩
/-- The fields of GLINT from offset 0x100. -/
def GLINT.rows : List Fld :=
  [GLINT.GLINT_CTRL.enable, GLINT.GLINT_CTRL.per_line, GLINT.SRC_SIZE.sw, GLINT.SRC_SIZE.sh, GLINT.FILL.colour,
   GLINT.PT_SRC.x, GLINT.PT_SRC.y, GLINT.PT_DST.x, GLINT.PT_DST.y, GLINT.PT_SIZE.width, GLINT.PT_SIZE.height,
   GLINT.PT_SIZE.enable, GLINT.H.h, GLINT.POSE_CTRL.post, GLINT.POSE_STAT.posted_seq, GLINT.POSE_STAT.latched_seq,
   GLINT.LATCH_LINE.line, GLINT.LATCH_TIME.time, GLINT.FILL_LINES.lines]

/-! SAFE (R335, R425). -/
def SAFE.ISL_STAT.fw_running : Fld := ⟨.safe, 0x100, 0, 1, 0, 1, false, .ro, .saf, false, .c 0⟩
def SAFE.ISL_STAT.lockstep_ok : Fld := ⟨.safe, 0x100, 0, 1, 1, 1, false, .ro, .saf, false, .c 1⟩
def SAFE.ISL_STAT.link : Fld := ⟨.safe, 0x100, 0, 1, 2, 2, false, .ro, .saf, false, .c 0⟩
def SAFE.ISL_STAT.fault : Fld := ⟨.safe, 0x100, 0, 1, 4, 1, false, .ro, .saf, false, .c 1⟩
def SAFE.FAULT_CTRL.assert : Fld := ⟨.safe, 0x104, 0, 1, 0, 1, false, .rw, .saf, true, .c 1⟩
def SAFE.FAULT_RB.a_pin : Fld := ⟨.safe, 0x108, 0, 1, 0, 1, false, .ro, .saf, false, .c 0⟩
def SAFE.FAULT_RB.b_pin : Fld := ⟨.safe, 0x108, 0, 1, 1, 1, false, .ro, .saf, false, .c 0⟩
def SAFE.FAULT_RB.mismatch : Fld := ⟨.safe, 0x108, 0, 1, 2, 1, false, .ro, .saf, false, .c 0⟩
def SAFE.HEAD_SRC.fallback : Fld := ⟨.safe, 0x10c, 0, 1, 0, 8, false, .rw, .saf, true, .c 255⟩
def SAFE.HEAD_SRC.blank : Fld := ⟨.safe, 0x10c, 0, 1, 8, 8, false, .rw, .saf, true, .c 0⟩
def SAFE.HEAD_SRC.dispen_off : Fld := ⟨.safe, 0x10c, 0, 1, 16, 8, false, .rw, .saf, true, .c 0⟩
def SAFE.HEAD_SRC.bl_off : Fld := ⟨.safe, 0x10c, 0, 1, 24, 8, false, .rw, .saf, true, .c 0⟩
def SAFE.SAFE_CFG.safe_blank : Fld := ⟨.safe, 0x110, 0, 1, 0, 8, false, .rw, .saf, true, .c 0⟩
def SAFE.SAFE_CFG.required : Fld := ⟨.safe, 0x110, 0, 1, 8, 8, false, .rw, .saf, true, .c 0⟩
def SAFE.SAFE_CFG.link_dep : Fld := ⟨.safe, 0x110, 0, 1, 16, 8, false, .rw, .saf, true, .c 0⟩
def SAFE.HV_PERMIT.ports : Fld := ⟨.safe, 0x114, 0, 1, 0, 8, false, .rw, .saf, true, .c 0⟩
def SAFE.SL_CFG.timeout_ms : Fld := ⟨.safe, 0x118, 0, 1, 0, 16, false, .rw, .saf, true, .c 100⟩
def SAFE.SL_CFG.clear_needed : Fld := ⟨.safe, 0x118, 0, 1, 16, 1, false, .rw, .saf, true, .c 1⟩
def SAFE.SL_CFG.resync : Fld := ⟨.safe, 0x118, 0, 1, 24, 4, false, .rw, .saf, true, .c 3⟩
def SAFE.SL_STAT.rx_seq : Fld := ⟨.safe, 0x11c, 0, 1, 0, 16, false, .ro, .saf, false, .c 0⟩
def SAFE.SL_STAT.tx_seq : Fld := ⟨.safe, 0x11c, 0, 1, 16, 16, false, .ro, .saf, false, .c 0⟩
def SAFE.HB_CFG.dwell_ms : Fld := ⟨.safe, 0x120, 0, 1, 0, 16, false, .rw, .saf, true, .c 0⟩
def SAFE.HB_CFG.window_s : Fld := ⟨.safe, 0x120, 0, 1, 16, 8, false, .rw, .saf, true, .c 10⟩
def SAFE.HB_CFG.max_frames : Fld := ⟨.safe, 0x120, 0, 1, 24, 8, false, .rw, .saf, true, .c 48⟩
def SAFE.SWD_CFG.timeout_ms : Fld := ⟨.safe, 0x124, 0, 1, 0, 10, false, .rw, .saf, true, .c 50⟩
def SAFE.SWD_KICK.key : Fld := ⟨.safe, 0x128, 0, 1, 0, 16, false, .wo, .saf, false, .c 0⟩
def SAFE.HB_STAT.good : Fld := ⟨.safe, 0x130, 0x4, 8, 0, 8, false, .ro, .saf, false, .c 0⟩
def SAFE.HB_STAT.needed : Fld := ⟨.safe, 0x130, 0x4, 8, 8, 8, false, .ro, .saf, false, .c 3⟩
def SAFE.HB_STAT.entries : Fld := ⟨.safe, 0x130, 0x4, 8, 16, 4, false, .ro, .saf, false, .c 0⟩
def SAFE.HB_STAT.source : Fld := ⟨.safe, 0x130, 0x4, 8, 20, 2, false, .ro, .saf, false, .c 1⟩
def SAFE.LOG_NEWEST.seq : Fld := ⟨.safe, 0x150, 0, 1, 0, 16, false, .ro, .saf, false, .c 0⟩
def SAFE.LOG_UNREAD.count : Fld := ⟨.safe, 0x154, 0, 1, 0, 9, false, .ro, .saf, false, .c 0⟩
def SAFE.LOG_LOST.count : Fld := ⟨.safe, 0x158, 0, 1, 0, 16, false, .ro, .saf, false, .c 0⟩
def SAFE.LOG_DATA.word : Fld := ⟨.safe, 0x15c, 0, 1, 0, 32, false, .ro, .saf, false, .c 0⟩
def SAFE.FALLBACK.colour : Fld := ⟨.safe, 0x170, 0x4, 8, 0, 30, false, .rw, .saf, true, .c 0⟩
def SAFE.ALARM_CTRL.pattern : Fld := ⟨.safe, 0x200, 0, 1, 0, 3, false, .rw, .saf, false, .c 0⟩
def SAFE.ALARM_CTRL.run : Fld := ⟨.safe, 0x200, 0, 1, 8, 1, false, .rw, .saf, false, .c 0⟩
def SAFE.ALARM_CFG.slot : Fld := ⟨.safe, 0x204, 0, 1, 0, 3, false, .rw, .saf, true, .c 7⟩
def SAFE.ALARM_CFG.tdm_en : Fld := ⟨.safe, 0x204, 0, 1, 3, 1, false, .rw, .saf, true, .c 1⟩
def SAFE.ALARM_CFG.sounder_en : Fld := ⟨.safe, 0x204, 0, 1, 4, 1, false, .rw, .saf, true, .c 1⟩
def SAFE.ALARM_CFG.amp_wake_ms : Fld := ⟨.safe, 0x204, 0, 1, 8, 8, false, .rw, .saf, true, .c 20⟩
def SAFE.ALARM_PAT_F.f1 : Fld := ⟨.safe, 0x210, 0x8, 8, 0, 12, false, .rw, .saf, true, .c 2400⟩
def SAFE.ALARM_PAT_F.f2 : Fld := ⟨.safe, 0x210, 0x8, 8, 16, 12, false, .rw, .saf, true, .c 0⟩
def SAFE.ALARM_PAT_T.on : Fld := ⟨.safe, 0x214, 0x8, 8, 0, 8, false, .rw, .saf, true, .c 25⟩
def SAFE.ALARM_PAT_T.off : Fld := ⟨.safe, 0x214, 0x8, 8, 8, 8, false, .rw, .saf, true, .c 25⟩
def SAFE.ALARM_PAT_T.level : Fld := ⟨.safe, 0x214, 0x8, 8, 16, 8, false, .rw, .saf, true, .c 6⟩
def SAFE.ALARM_PAT_T.repeat : Fld := ⟨.safe, 0x214, 0x8, 8, 28, 4, false, .rw, .saf, true, .c 0⟩
def SAFE.ALARM_STAT.sounding : Fld := ⟨.safe, 0x250, 0, 1, 0, 1, false, .ro, .saf, false, .c 0⟩
def SAFE.ALARM_STAT.pattern : Fld := ⟨.safe, 0x250, 0, 1, 1, 3, false, .ro, .saf, false, .c 0⟩
def SAFE.ALARM_STAT.backup : Fld := ⟨.safe, 0x250, 0, 1, 4, 1, false, .ro, .saf, false, .c 1⟩
/-- The fields of SAFE from offset 0x100. -/
def SAFE.rows : List Fld :=
  [SAFE.ISL_STAT.fw_running, SAFE.ISL_STAT.lockstep_ok, SAFE.ISL_STAT.link, SAFE.ISL_STAT.fault,
   SAFE.FAULT_CTRL.assert, SAFE.FAULT_RB.a_pin, SAFE.FAULT_RB.b_pin, SAFE.FAULT_RB.mismatch,
   SAFE.HEAD_SRC.fallback, SAFE.HEAD_SRC.blank, SAFE.HEAD_SRC.dispen_off, SAFE.HEAD_SRC.bl_off,
   SAFE.SAFE_CFG.safe_blank, SAFE.SAFE_CFG.required, SAFE.SAFE_CFG.link_dep, SAFE.HV_PERMIT.ports,
   SAFE.SL_CFG.timeout_ms, SAFE.SL_CFG.clear_needed, SAFE.SL_CFG.resync, SAFE.SL_STAT.rx_seq, SAFE.SL_STAT.tx_seq,
   SAFE.HB_CFG.dwell_ms, SAFE.HB_CFG.window_s, SAFE.HB_CFG.max_frames, SAFE.SWD_CFG.timeout_ms, SAFE.SWD_KICK.key,
   SAFE.HB_STAT.good, SAFE.HB_STAT.needed, SAFE.HB_STAT.entries, SAFE.HB_STAT.source, SAFE.LOG_NEWEST.seq,
   SAFE.LOG_UNREAD.count, SAFE.LOG_LOST.count, SAFE.LOG_DATA.word, SAFE.FALLBACK.colour, SAFE.ALARM_CTRL.pattern,
   SAFE.ALARM_CTRL.run, SAFE.ALARM_CFG.slot, SAFE.ALARM_CFG.tdm_en, SAFE.ALARM_CFG.sounder_en] ++
  [SAFE.ALARM_CFG.amp_wake_ms, SAFE.ALARM_PAT_F.f1, SAFE.ALARM_PAT_F.f2, SAFE.ALARM_PAT_T.on, SAFE.ALARM_PAT_T.off,
   SAFE.ALARM_PAT_T.level, SAFE.ALARM_PAT_T.repeat, SAFE.ALARM_STAT.sounding, SAFE.ALARM_STAT.pattern,
   SAFE.ALARM_STAT.backup]

/-! LANTERN (R336). -/
def LANTERN.LSRAM_ADDR.addr : Fld := ⟨.lantern, 0x100, 0, 1, 2, 18, false, .rw, .saf, true, .c 0⟩
def LANTERN.LSRAM_DATA.data : Fld := ⟨.lantern, 0x104, 0, 1, 0, 32, false, .rw, .saf, false, .c 0⟩
def LANTERN.OVL_CFG.hatch_index : Fld := ⟨.lantern, 0x108, 0, 1, 0, 8, false, .rws, .saf, true, .c 0⟩
def LANTERN.OVL_CFG.hatch_pal : Fld := ⟨.lantern, 0x108, 0, 1, 8, 4, false, .rws, .saf, true, .c 0⟩
def LANTERN.OVL.windows : Fld := ⟨.lantern, 0x10c, 0, 1, 0, 32, false, .rws, .saf, false, .c 0⟩
def LANTERN.VIS.regions : Fld := ⟨.lantern, 0x110, 0, 1, 0, 48, true, .rws, .saf, false, .c 0⟩
def LANTERN.REG_CTRL.head : Fld := ⟨.lantern, 0x200, 0x20, 48, 0, 3, false, .rws, .saf, true, .c 0⟩
def LANTERN.REG_CTRL.enable : Fld := ⟨.lantern, 0x200, 0x20, 48, 3, 1, false, .rws, .saf, true, .c 0⟩
def LANTERN.REG_CTRL.kind : Fld := ⟨.lantern, 0x200, 0x20, 48, 4, 2, false, .rws, .saf, true, .c 0⟩
def LANTERN.REG_CTRL.check : Fld := ⟨.lantern, 0x200, 0x20, 48, 6, 1, false, .rws, .saf, true, .c 0⟩
def LANTERN.REG_CTRL.pal : Fld := ⟨.lantern, 0x200, 0x20, 48, 8, 4, false, .rws, .saf, true, .c 0⟩
def LANTERN.REG_CTRL.blink : Fld := ⟨.lantern, 0x200, 0x20, 48, 16, 8, false, .rws, .saf, true, .c 0⟩
def LANTERN.REG_POS.x : Fld := ⟨.lantern, 0x204, 0x20, 48, 0, 13, false, .rws, .saf, true, .c 0⟩
def LANTERN.REG_POS.y : Fld := ⟨.lantern, 0x204, 0x20, 48, 16, 13, false, .rws, .saf, true, .c 0⟩
def LANTERN.REG_SIZE.width : Fld := ⟨.lantern, 0x208, 0x20, 48, 0, 9, false, .rws, .saf, true, .c 1⟩
def LANTERN.REG_SIZE.height : Fld := ⟨.lantern, 0x208, 0x20, 48, 16, 9, false, .rws, .saf, true, .c 1⟩
def LANTERN.REG_SRC.src : Fld := ⟨.lantern, 0x20c, 0x20, 48, 0, 20, false, .rws, .saf, true, .c 0⟩
def LANTERN.REG_CRC.crc_exp : Fld := ⟨.lantern, 0x210, 0x20, 48, 0, 32, false, .rws, .saf, true, .c 0⟩
/-- The fields of LANTERN from offset 0x100. -/
def LANTERN.rows : List Fld :=
  [LANTERN.LSRAM_ADDR.addr, LANTERN.LSRAM_DATA.data, LANTERN.OVL_CFG.hatch_index, LANTERN.OVL_CFG.hatch_pal,
   LANTERN.OVL.windows, LANTERN.VIS.regions, LANTERN.REG_CTRL.head, LANTERN.REG_CTRL.enable, LANTERN.REG_CTRL.kind,
   LANTERN.REG_CTRL.check, LANTERN.REG_CTRL.pal, LANTERN.REG_CTRL.blink, LANTERN.REG_POS.x, LANTERN.REG_POS.y,
   LANTERN.REG_SIZE.width, LANTERN.REG_SIZE.height, LANTERN.REG_SRC.src, LANTERN.REG_CRC.crc_exp]

/-! MIRROR (R337). -/
def MIRROR.CHK_STAT.timing_ok : Fld := ⟨.mirror, 0x100, 0, 1, 0, 8, false, .ro, .saf, false, .c 0⟩
def MIRROR.CHK_STAT.crc_ok : Fld := ⟨.mirror, 0x100, 0, 1, 8, 8, false, .ro, .saf, false, .c 0⟩
def MIRROR.CHK_STAT.agree : Fld := ⟨.mirror, 0x100, 0, 1, 16, 8, false, .ro, .saf, false, .c 0⟩
def MIRROR.TIM_TOL.tol_permille : Fld := ⟨.mirror, 0x104, 0, 1, 0, 8, false, .rws, .saf, true, .c 60⟩
def MIRROR.TIM_TOL.stop_frames : Fld := ⟨.mirror, 0x104, 0, 1, 8, 4, false, .rws, .saf, true, .c 2⟩
def MIRROR.WIN_TAP.pre : Fld := ⟨.mirror, 0x108, 0, 1, 0, 32, false, .ro, .saf, false, .c 0⟩
def MIRROR.WIN_TAG.x : Fld := ⟨.mirror, 0x200, 0x10, 32, 0, 13, false, .rws, .saf, true, .c 0⟩
def MIRROR.WIN_TAG.y : Fld := ⟨.mirror, 0x200, 0x10, 32, 16, 13, false, .rws, .saf, true, .c 0⟩
def MIRROR.WIN_TAG.enable : Fld := ⟨.mirror, 0x200, 0x10, 32, 31, 1, false, .rws, .saf, true, .c 0⟩
def MIRROR.WIN_CFG.head : Fld := ⟨.mirror, 0x204, 0x10, 32, 0, 3, false, .rws, .saf, true, .c 0⟩
def MIRROR.WIN_CFG.fault : Fld := ⟨.mirror, 0x204, 0x10, 32, 3, 1, false, .rws, .saf, true, .c 1⟩
def MIRROR.WIN_CFG.port : Fld := ⟨.mirror, 0x204, 0x10, 32, 4, 4, false, .rws, .saf, true, .c 0⟩
def MIRROR.WIN_CFG.limit_ms : Fld := ⟨.mirror, 0x204, 0x10, 32, 8, 16, false, .rws, .saf, true, .c 200⟩
def MIRROR.WIN_CFG.reaction : Fld := ⟨.mirror, 0x204, 0x10, 32, 24, 2, false, .rws, .saf, true, .c 1⟩
def MIRROR.WIN_CFG.icon : Fld := ⟨.mirror, 0x204, 0x10, 32, 26, 6, false, .rws, .saf, true, .c 0⟩
def MIRROR.WIN_POS.x : Fld := ⟨.mirror, 0x208, 0x10, 32, 0, 13, false, .rws, .saf, true, .c 0⟩
def MIRROR.WIN_POS.y : Fld := ⟨.mirror, 0x208, 0x10, 32, 16, 13, false, .rws, .saf, true, .c 0⟩
def MIRROR.WIN_SIZE.width : Fld := ⟨.mirror, 0x20c, 0x10, 32, 0, 13, false, .rws, .saf, true, .c 0⟩
def MIRROR.WIN_SIZE.height : Fld := ⟨.mirror, 0x20c, 0x10, 32, 16, 13, false, .rws, .saf, true, .c 0⟩
def MIRROR.WIN_STAT.seq : Fld := ⟨.mirror, 0x400, 0x4, 32, 0, 12, false, .ro, .saf, false, .c 0⟩
def MIRROR.WIN_STAT.port : Fld := ⟨.mirror, 0x400, 0x4, 32, 12, 4, false, .ro, .saf, false, .c 0⟩
def MIRROR.WIN_STAT.verdict : Fld := ⟨.mirror, 0x400, 0x4, 32, 16, 3, false, .ro, .saf, false, .c 0⟩
def MIRROR.WIN_STAT.age_ms : Fld := ⟨.mirror, 0x400, 0x4, 32, 20, 12, false, .ro, .saf, false, .c 0⟩
def MIRROR.CRC_ACT.crc : Fld := ⟨.mirror, 0x500, 0x4, 48, 0, 32, false, .ro, .saf, false, .c 0⟩
/-- The fields of MIRROR from offset 0x100. -/
def MIRROR.rows : List Fld :=
  [MIRROR.CHK_STAT.timing_ok, MIRROR.CHK_STAT.crc_ok, MIRROR.CHK_STAT.agree, MIRROR.TIM_TOL.tol_permille,
   MIRROR.TIM_TOL.stop_frames, MIRROR.WIN_TAP.pre, MIRROR.WIN_TAG.x, MIRROR.WIN_TAG.y, MIRROR.WIN_TAG.enable,
   MIRROR.WIN_CFG.head, MIRROR.WIN_CFG.fault, MIRROR.WIN_CFG.port, MIRROR.WIN_CFG.limit_ms,
   MIRROR.WIN_CFG.reaction, MIRROR.WIN_CFG.icon, MIRROR.WIN_POS.x, MIRROR.WIN_POS.y, MIRROR.WIN_SIZE.width,
   MIRROR.WIN_SIZE.height, MIRROR.WIN_STAT.seq, MIRROR.WIN_STAT.port, MIRROR.WIN_STAT.verdict,
   MIRROR.WIN_STAT.age_ms, MIRROR.CRC_ACT.crc]

/-! LINK (R353). -/
def LINK.LINK_CTRL.enable : Fld := ⟨.link, 0x100, 0, 1, 0, 1, false, .rw, .mgr, true, .c 0⟩
def LINK.LINK_CTRL.auto_retrain : Fld := ⟨.link, 0x100, 0, 1, 1, 1, false, .rw, .mgr, true, .c 1⟩
def LINK.LINK_CTRL.retries : Fld := ⟨.link, 0x100, 0, 1, 4, 4, false, .rw, .mgr, true, .c 3⟩
def LINK.LINK_CTRL.retry_ms : Fld := ⟨.link, 0x100, 0, 1, 16, 16, false, .rw, .mgr, true, .c 1000⟩
def LINK.LINK_CFG.type : Fld := ⟨.link, 0x104, 0, 1, 0, 3, false, .rw, .mgr, true, .c 0⟩
def LINK.LINK_CFG.lanes : Fld := ⟨.link, 0x104, 0, 1, 4, 3, false, .rw, .mgr, true, .c 4⟩
def LINK.LINK_CFG.rate : Fld := ⟨.link, 0x104, 0, 1, 8, 4, false, .rw, .mgr, true, .c 3⟩
def LINK.LINK_CFG.bpc : Fld := ⟨.link, 0x104, 0, 1, 12, 2, false, .rw, .mgr, true, .c 1⟩
def LINK.LINK_CFG.lvds_jeida : Fld := ⟨.link, 0x104, 0, 1, 14, 1, false, .rw, .mgr, true, .c 0⟩
def LINK.LINK_CFG.lvds_dual : Fld := ⟨.link, 0x104, 0, 1, 15, 1, false, .rw, .mgr, true, .c 1⟩
def LINK.LINK_CFG.fallback : Fld := ⟨.link, 0x104, 0, 1, 16, 1, false, .rw, .mgr, true, .c 1⟩
def LINK.LINK_CFG.dsi_mbps : Fld := ⟨.link, 0x104, 0, 1, 20, 8, false, .rw, .mgr, true, .c 100⟩
def LINK.LINK_STAT.state : Fld := ⟨.link, 0x108, 0, 1, 0, 3, false, .ro, .own, false, .c 0⟩
def LINK.LINK_STAT.hpd : Fld := ⟨.link, 0x108, 0, 1, 4, 1, false, .ro, .own, false, .c 0⟩
def LINK.LINK_STAT.lanes_active : Fld := ⟨.link, 0x108, 0, 1, 8, 3, false, .ro, .own, false, .c 0⟩
def LINK.LINK_STAT.rate_active : Fld := ⟨.link, 0x108, 0, 1, 12, 4, false, .ro, .own, false, .c 0⟩
def LINK.LINK_STAT.retries_left : Fld := ⟨.link, 0x108, 0, 1, 16, 4, false, .ro, .own, false, .c 0⟩
def LINK.LINK_STAT.lost_cause : Fld := ⟨.link, 0x108, 0, 1, 24, 3, false, .ro, .own, false, .c 0⟩
def LINK.PWR_SEQ0.t_pwr_on_ms : Fld := ⟨.link, 0x10c, 0, 1, 0, 16, false, .rw, .mgr, true, .c 200⟩
def LINK.PWR_SEQ0.t_bl_on_ms : Fld := ⟨.link, 0x10c, 0, 1, 16, 16, false, .rw, .mgr, true, .c 20⟩
def LINK.PWR_SEQ1.t_bl_off_ms : Fld := ⟨.link, 0x110, 0, 1, 0, 16, false, .rw, .mgr, true, .c 20⟩
def LINK.PWR_SEQ1.t_pwr_off_ms : Fld := ⟨.link, 0x110, 0, 1, 16, 16, false, .rw, .mgr, true, .c 10⟩
def LINK.PWR_SEQ2.t_cycle_ms : Fld := ⟨.link, 0x114, 0, 1, 0, 16, false, .rw, .mgr, true, .c 500⟩
def LINK.PWR_SEQ2.t_hpd_ms : Fld := ⟨.link, 0x114, 0, 1, 16, 16, false, .rw, .mgr, true, .c 500⟩
def LINK.BL_PERIOD.counts : Fld := ⟨.link, 0x118, 0, 1, 0, 20, false, .rw, .mgr, true, .c 1920⟩
def LINK.BL_PERIOD.sync : Fld := ⟨.link, 0x118, 0, 1, 31, 1, false, .rw, .mgr, true, .c 0⟩
def LINK.BL_DUTY.counts : Fld := ⟨.link, 0x11c, 0, 1, 0, 20, false, .rw, .own, false, .c 0⟩
def LINK.AUX_CTRL.cmd : Fld := ⟨.link, 0x120, 0, 1, 0, 4, false, .rw, .own, true, .c 0⟩
def LINK.AUX_CTRL.len : Fld := ⟨.link, 0x120, 0, 1, 4, 4, false, .rw, .own, true, .c 0⟩
def LINK.AUX_CTRL.addr : Fld := ⟨.link, 0x120, 0, 1, 8, 20, false, .rw, .own, true, .c 0⟩
def LINK.AUX_CTRL.go : Fld := ⟨.link, 0x120, 0, 1, 31, 1, false, .sc, .own, false, .c 0⟩
def LINK.AUX_STAT.reply : Fld := ⟨.link, 0x124, 0, 1, 0, 2, false, .rol, .own, false, .c 0⟩
def LINK.AUX_STAT.count : Fld := ⟨.link, 0x124, 0, 1, 4, 5, false, .rol, .own, false, .c 0⟩
def LINK.AUX_DATA.data : Fld := ⟨.link, 0x128, 0x4, 4, 0, 32, false, .rw, .own, false, .c 0⟩
def LINK.DSI_CMD_CTRL.dtype : Fld := ⟨.link, 0x140, 0, 1, 0, 8, false, .rw, .own, true, .c 0⟩
def LINK.DSI_CMD_CTRL.len : Fld := ⟨.link, 0x140, 0, 1, 8, 7, false, .rw, .own, true, .c 0⟩
def LINK.DSI_CMD_CTRL.go : Fld := ⟨.link, 0x140, 0, 1, 31, 1, false, .sc, .own, false, .c 0⟩
def LINK.DSI_CMD_DATA.data : Fld := ⟨.link, 0x144, 0x4, 16, 0, 32, false, .rw, .own, false, .c 0⟩
/-- The fields of LINK from offset 0x100. -/
def LINK.rows : List Fld :=
  [LINK.LINK_CTRL.enable, LINK.LINK_CTRL.auto_retrain, LINK.LINK_CTRL.retries, LINK.LINK_CTRL.retry_ms,
   LINK.LINK_CFG.type, LINK.LINK_CFG.lanes, LINK.LINK_CFG.rate, LINK.LINK_CFG.bpc, LINK.LINK_CFG.lvds_jeida,
   LINK.LINK_CFG.lvds_dual, LINK.LINK_CFG.fallback, LINK.LINK_CFG.dsi_mbps, LINK.LINK_STAT.state,
   LINK.LINK_STAT.hpd, LINK.LINK_STAT.lanes_active, LINK.LINK_STAT.rate_active, LINK.LINK_STAT.retries_left,
   LINK.LINK_STAT.lost_cause, LINK.PWR_SEQ0.t_pwr_on_ms, LINK.PWR_SEQ0.t_bl_on_ms, LINK.PWR_SEQ1.t_bl_off_ms,
   LINK.PWR_SEQ1.t_pwr_off_ms, LINK.PWR_SEQ2.t_cycle_ms, LINK.PWR_SEQ2.t_hpd_ms, LINK.BL_PERIOD.counts,
   LINK.BL_PERIOD.sync, LINK.BL_DUTY.counts, LINK.AUX_CTRL.cmd, LINK.AUX_CTRL.len, LINK.AUX_CTRL.addr,
   LINK.AUX_CTRL.go, LINK.AUX_STAT.reply, LINK.AUX_STAT.count, LINK.AUX_DATA.data, LINK.DSI_CMD_CTRL.dtype,
   LINK.DSI_CMD_CTRL.len, LINK.DSI_CMD_CTRL.go, LINK.DSI_CMD_DATA.data]

/-! CAP (R365). -/
def CAP.RX_CFG.lanes : Fld := ⟨.cap, 0x100, 0, 1, 0, 3, false, .rw, .own, true, .c 4⟩
def CAP.RX_CFG.vc : Fld := ⟨.cap, 0x100, 0, 1, 4, 4, false, .rw, .own, true, .c 0⟩
def CAP.RX_CFG.dt : Fld := ⟨.cap, 0x100, 0, 1, 8, 6, false, .rw, .own, true, .c 30⟩
def CAP.RX_STAT.active : Fld := ⟨.cap, 0x104, 0, 1, 0, 1, false, .ro, .own, false, .c 0⟩
def CAP.RX_STAT.in_frame : Fld := ⟨.cap, 0x104, 0, 1, 1, 1, false, .ro, .own, false, .c 0⟩
def CAP.RX_STAT.last_dt : Fld := ⟨.cap, 0x104, 0, 1, 8, 6, false, .ro, .own, false, .c 0⟩
def CAP.OUT_CFG.yuv420 : Fld := ⟨.cap, 0x108, 0, 1, 0, 1, false, .rw, .own, true, .c 0⟩
def CAP.PITCH.plane0 : Fld := ⟨.cap, 0x10c, 0, 1, 0, 16, false, .rw, .own, true, .c 0⟩
def CAP.PITCH.plane1 : Fld := ⟨.cap, 0x10c, 0, 1, 16, 16, false, .rw, .own, true, .c 0⟩
def CAP.CROP_POS.x : Fld := ⟨.cap, 0x110, 0, 1, 0, 13, false, .rw, .own, true, .c 0⟩
def CAP.CROP_POS.y : Fld := ⟨.cap, 0x110, 0, 1, 16, 13, false, .rw, .own, true, .c 0⟩
def CAP.CROP_SIZE.width : Fld := ⟨.cap, 0x114, 0, 1, 0, 13, false, .rw, .own, true, .c 1920⟩
def CAP.CROP_SIZE.height : Fld := ⟨.cap, 0x114, 0, 1, 16, 13, false, .rw, .own, true, .c 1080⟩
def CAP.TAG_CFG.enable : Fld := ⟨.cap, 0x118, 0, 1, 0, 1, false, .rw, .mgr, true, .c 1⟩
def CAP.TAG_CFG.corner : Fld := ⟨.cap, 0x118, 0, 1, 1, 2, false, .rw, .mgr, true, .c 0⟩
def CAP.TAG_CFG.inset_x : Fld := ⟨.cap, 0x118, 0, 1, 4, 8, false, .rw, .mgr, true, .c 0⟩
def CAP.TAG_CFG.inset_y : Fld := ⟨.cap, 0x118, 0, 1, 16, 8, false, .rw, .mgr, true, .c 0⟩
def CAP.LOST_MS.ms : Fld := ⟨.cap, 0x11c, 0, 1, 0, 16, false, .rw, .own, false, .c 200⟩
def CAP.TRIG_CFG.mode : Fld := ⟨.cap, 0x120, 0, 1, 0, 2, false, .rw, .own, false, .c 0⟩
def CAP.TRIG_CFG.head : Fld := ⟨.cap, 0x120, 0, 1, 4, 3, false, .rw, .own, false, .c 0⟩
def CAP.TRIG_CFG.div : Fld := ⟨.cap, 0x120, 0, 1, 8, 4, false, .rw, .own, false, .c 1⟩
def CAP.TRIG_CFG.width_us : Fld := ⟨.cap, 0x120, 0, 1, 16, 16, false, .rw, .own, false, .c 100⟩
def CAP.TRIG_DELAY.us : Fld := ⟨.cap, 0x124, 0, 1, 0, 20, false, .rw, .own, false, .c 0⟩
def CAP.TRIG_PERIOD.us : Fld := ⟨.cap, 0x128, 0, 1, 0, 24, false, .rw, .own, false, .c 33333⟩
def CAP.TRIG_CTRL.fire : Fld := ⟨.cap, 0x12c, 0, 1, 0, 1, false, .sc, .own, false, .c 0⟩
def CAP.FRAME_CNT.count : Fld := ⟨.cap, 0x130, 0, 1, 0, 32, false, .ro, .own, false, .c 0⟩
def CAP.TAG_SEQ.seq : Fld := ⟨.cap, 0x134, 0, 1, 0, 12, false, .ro, .own, false, .c 0⟩
def CAP.LAST_FS_TIME.time : Fld := ⟨.cap, 0x138, 0, 1, 0, 64, true, .ro, .own, false, .c 0⟩
def CAP.LAST_TAG_TIME.time : Fld := ⟨.cap, 0x140, 0, 1, 0, 64, true, .ro, .own, false, .c 0⟩
def CAP.LINES_LAST.lines : Fld := ⟨.cap, 0x148, 0, 1, 0, 13, false, .ro, .own, false, .c 0⟩
/-- The fields of CAP from offset 0x100. -/
def CAP.rows : List Fld :=
  [CAP.RX_CFG.lanes, CAP.RX_CFG.vc, CAP.RX_CFG.dt, CAP.RX_STAT.active, CAP.RX_STAT.in_frame, CAP.RX_STAT.last_dt,
   CAP.OUT_CFG.yuv420, CAP.PITCH.plane0, CAP.PITCH.plane1, CAP.CROP_POS.x, CAP.CROP_POS.y, CAP.CROP_SIZE.width,
   CAP.CROP_SIZE.height, CAP.TAG_CFG.enable, CAP.TAG_CFG.corner, CAP.TAG_CFG.inset_x, CAP.TAG_CFG.inset_y,
   CAP.LOST_MS.ms, CAP.TRIG_CFG.mode, CAP.TRIG_CFG.head, CAP.TRIG_CFG.div, CAP.TRIG_CFG.width_us,
   CAP.TRIG_DELAY.us, CAP.TRIG_PERIOD.us, CAP.TRIG_CTRL.fire, CAP.FRAME_CNT.count, CAP.TAG_SEQ.seq,
   CAP.LAST_FS_TIME.time, CAP.LAST_TAG_TIME.time, CAP.LINES_LAST.lines]

/-! TOUCH (R386, R388). -/
def TOUCH.TILE_STAT.state : Fld := ⟨.touch, 0x100, 0, 1, 0, 3, false, .ro, .own, false, .c 0⟩
def TOUCH.TILE_STAT.surface : Fld := ⟨.touch, 0x100, 0, 1, 8, 3, false, .ro, .own, false, .half⟩
def TOUCH.TILE_STAT.hop : Fld := ⟨.touch, 0x100, 0, 1, 12, 3, false, .ro, .own, false, .c 0⟩
def TOUCH.OPEN.channels : Fld := ⟨.touch, 0x104, 0, 1, 0, 64, true, .ro, .own, false, .c 0⟩
def TOUCH.GND.channels : Fld := ⟨.touch, 0x10c, 0, 1, 0, 64, true, .ro, .own, false, .c 0⟩
def TOUCH.ADJ.channels : Fld := ⟨.touch, 0x114, 0, 1, 0, 64, true, .ro, .own, false, .c 0⟩
def TOUCH.SURF_CTRL.enable : Fld := ⟨.touch, 0x200, 0, 1, 0, 1, false, .rw, .own, true, .c 1⟩
def TOUCH.SURF_CTRL.rebase : Fld := ⟨.touch, 0x200, 0, 1, 1, 1, false, .sc, .own, false, .c 0⟩
def TOUCH.SURF_CTRL.selftest : Fld := ⟨.touch, 0x200, 0, 1, 2, 1, false, .sc, .own, false, .c 0⟩
def TOUCH.SURF_CTRL.hs_ports : Fld := ⟨.touch, 0x200, 0, 1, 8, 8, false, .rw, .own, true, .bitHalf⟩
def TOUCH.SCAN_CFG.conv_us : Fld := ⟨.touch, 0x204, 0, 1, 0, 8, false, .rw, .own, true, .c 50⟩
def TOUCH.SCAN_CFG.noise_hop : Fld := ⟨.touch, 0x204, 0, 1, 8, 4, false, .rw, .own, true, .c 2⟩
def TOUCH.HOP_F.khz : Fld := ⟨.touch, 0x208, 0x4, 8, 0, 9, false, .rw, .own, true, .byElem [105,150,195,245,290,340,395,470]⟩
def TOUCH.NOISE_CFG.limit : Fld := ⟨.touch, 0x228, 0, 1, 0, 16, false, .rw, .own, true, .c 400⟩
def TOUCH.THR_CFG.touch_thr : Fld := ⟨.touch, 0x22c, 0, 1, 0, 16, false, .rw, .own, true, .c 800⟩
def TOUCH.THR_CFG.touch_off : Fld := ⟨.touch, 0x22c, 0, 1, 16, 16, false, .rw, .own, true, .c 600⟩
def TOUCH.THR_CFG2.suspect_margin : Fld := ⟨.touch, 0x230, 0, 1, 0, 16, false, .rw, .own, true, .c 600⟩
def TOUCH.THR_CFG2.release : Fld := ⟨.touch, 0x230, 0, 1, 16, 16, false, .rw, .own, true, .c 300⟩
def TOUCH.BASE_CFG.track_band : Fld := ⟨.touch, 0x234, 0, 1, 0, 16, false, .rw, .own, true, .c 200⟩
def TOUCH.BASE_CFG.track_shift : Fld := ⟨.touch, 0x234, 0, 1, 16, 4, false, .rw, .own, true, .c 6⟩
def TOUCH.BASE_CFG.max_jump : Fld := ⟨.touch, 0x234, 0, 1, 24, 4, false, .rw, .own, true, .c 4⟩
def TOUCH.TEST_CFG.open_margin : Fld := ⟨.touch, 0x238, 0, 1, 0, 16, false, .rw, .own, true, .c 1311⟩
def TOUCH.TEST_CFG.sat : Fld := ⟨.touch, 0x238, 0, 1, 16, 16, false, .rw, .own, true, .c 64224⟩
def TOUCH.KEY_CFG.thr : Fld := ⟨.touch, 0x240, 0x4, 32, 0, 16, false, .rw, .own, true, .c 600⟩
def TOUCH.KEY_CFG.hyst : Fld := ⟨.touch, 0x240, 0x4, 32, 16, 8, false, .rw, .own, true, .c 25⟩
def TOUCH.KEY_CFG.deb_press : Fld := ⟨.touch, 0x240, 0x4, 32, 24, 4, false, .rw, .own, true, .c 2⟩
def TOUCH.KEY_CFG.deb_release : Fld := ⟨.touch, 0x240, 0x4, 32, 28, 4, false, .rw, .own, true, .c 3⟩
def TOUCH.KEY_STAT.pressed : Fld := ⟨.touch, 0x2c0, 0, 1, 0, 32, false, .ro, .own, false, .c 0⟩
def TOUCH.WAKE_CFG.gesture : Fld := ⟨.touch, 0x2c4, 0, 1, 0, 2, false, .rw, .own, true, .c 0⟩
def TOUCH.WAKE_CFG.group : Fld := ⟨.touch, 0x2c4, 0, 1, 4, 3, false, .rw, .own, true, .c 2⟩
def TOUCH.WAKE_CFG.wake_thr : Fld := ⟨.touch, 0x2c4, 0, 1, 16, 16, false, .rw, .own, true, .c 500⟩
def TOUCH.WAKE_CFG2.two_thr : Fld := ⟨.touch, 0x2c8, 0, 1, 0, 16, false, .rw, .own, true, .c 2000⟩
def TOUCH.WAKE_STAT.woke : Fld := ⟨.touch, 0x2cc, 0, 1, 0, 1, false, .w1c, .own, false, .c 0⟩
def TOUCH.WAKE_STAT.gesture : Fld := ⟨.touch, 0x2cc, 0, 1, 1, 2, false, .ro, .own, false, .c 0⟩
def TOUCH.RPT_CTRL.enable : Fld := ⟨.touch, 0x2d0, 0, 1, 0, 1, false, .rw, .own, false, .c 0⟩
def TOUCH.RPT_SIZE.size : Fld := ⟨.touch, 0x2d4, 0, 1, 0, 4, false, .rw, .own, true, .c 0⟩
def TOUCH.RPT_BASE.base : Fld := ⟨.touch, 0x2d8, 0, 1, 0, 40, true, .rw, .own, true, .c 0⟩
def TOUCH.RPT_PROD.prod : Fld := ⟨.touch, 0x2e0, 0, 1, 0, 24, false, .ro, .own, false, .c 0⟩
def TOUCH.RPT_CONS.cons : Fld := ⟨.touch, 0x2e4, 0, 1, 0, 24, false, .rw, .own, false, .c 0⟩
def TOUCH.SCAN_STAT.hop : Fld := ⟨.touch, 0x2e8, 0, 1, 0, 3, false, .ro, .own, false, .c 0⟩
def TOUCH.SCAN_STAT.noisy : Fld := ⟨.touch, 0x2e8, 0, 1, 3, 1, false, .ro, .own, false, .c 0⟩
def TOUCH.SCAN_STAT.suspect_cnt : Fld := ⟨.touch, 0x2e8, 0, 1, 16, 16, false, .ro, .own, false, .c 0⟩
def TOUCH.NODE_SEL.node : Fld := ⟨.touch, 0x2ec, 0, 1, 0, 14, false, .rw, .own, true, .c 0⟩
def TOUCH.NODE_DATA.raw : Fld := ⟨.touch, 0x2f0, 0, 1, 0, 16, false, .ro, .own, false, .c 0⟩
def TOUCH.NODE_DATA.baseline : Fld := ⟨.touch, 0x2f0, 0, 1, 16, 16, false, .ro, .own, false, .c 0⟩
def TOUCH.NODE_DELTA.delta : Fld := ⟨.touch, 0x2f4, 0, 1, 0, 16, false, .ro, .own, false, .c 0⟩
def TOUCH.NODE_DELTA.suspect : Fld := ⟨.touch, 0x2f4, 0, 1, 16, 1, false, .ro, .own, false, .c 0⟩
def TOUCH.NODE_DELTA.excluded : Fld := ⟨.touch, 0x2f4, 0, 1, 17, 1, false, .ro, .own, false, .c 0⟩
def TOUCH.NODE_DELTA.reference : Fld := ⟨.touch, 0x2f4, 0, 1, 18, 14, false, .ro, .own, false, .c 0⟩
/-- The fields of TOUCH from offset 0x100. -/
def TOUCH.rows : List Fld :=
  [TOUCH.TILE_STAT.state, TOUCH.TILE_STAT.surface, TOUCH.TILE_STAT.hop, TOUCH.OPEN.channels, TOUCH.GND.channels,
   TOUCH.ADJ.channels, TOUCH.SURF_CTRL.enable, TOUCH.SURF_CTRL.rebase, TOUCH.SURF_CTRL.selftest,
   TOUCH.SURF_CTRL.hs_ports, TOUCH.SCAN_CFG.conv_us, TOUCH.SCAN_CFG.noise_hop, TOUCH.HOP_F.khz,
   TOUCH.NOISE_CFG.limit, TOUCH.THR_CFG.touch_thr, TOUCH.THR_CFG.touch_off, TOUCH.THR_CFG2.suspect_margin,
   TOUCH.THR_CFG2.release, TOUCH.BASE_CFG.track_band, TOUCH.BASE_CFG.track_shift, TOUCH.BASE_CFG.max_jump,
   TOUCH.TEST_CFG.open_margin, TOUCH.TEST_CFG.sat, TOUCH.KEY_CFG.thr, TOUCH.KEY_CFG.hyst, TOUCH.KEY_CFG.deb_press,
   TOUCH.KEY_CFG.deb_release, TOUCH.KEY_STAT.pressed, TOUCH.WAKE_CFG.gesture, TOUCH.WAKE_CFG.group,
   TOUCH.WAKE_CFG.wake_thr, TOUCH.WAKE_CFG2.two_thr, TOUCH.WAKE_STAT.woke, TOUCH.WAKE_STAT.gesture,
   TOUCH.RPT_CTRL.enable, TOUCH.RPT_SIZE.size, TOUCH.RPT_BASE.base, TOUCH.RPT_PROD.prod, TOUCH.RPT_CONS.cons,
   TOUCH.SCAN_STAT.hop] ++
  [TOUCH.SCAN_STAT.noisy, TOUCH.SCAN_STAT.suspect_cnt, TOUCH.NODE_SEL.node, TOUCH.NODE_DATA.raw,
   TOUCH.NODE_DATA.baseline, TOUCH.NODE_DELTA.delta, TOUCH.NODE_DELTA.suspect, TOUCH.NODE_DELTA.excluded,
   TOUCH.NODE_DELTA.reference]

/-! SURF (R407). -/
def SURF.PORT_CTRL.power : Fld := ⟨.surf, 0x100, 0, 1, 0, 1, false, .rw, .mgr, true, .c 1⟩
def SURF.SURF_STAT.state : Fld := ⟨.surf, 0x104, 0, 1, 0, 3, false, .ro, .own, false, .c 0⟩
def SURF.SURF_STAT.auth : Fld := ⟨.surf, 0x104, 0, 1, 4, 2, false, .ro, .own, false, .c 0⟩
def SURF.SURF_STAT.present : Fld := ⟨.surf, 0x104, 0, 1, 8, 1, false, .ro, .own, false, .c 0⟩
def SURF.SURF_STAT.wear_unknown : Fld := ⟨.surf, 0x104, 0, 1, 9, 1, false, .ro, .own, false, .c 0⟩
def SURF.SURF_STAT.wear_write_fail : Fld := ⟨.surf, 0x104, 0, 1, 10, 1, false, .ro, .own, false, .c 0⟩
def SURF.ID_INFO.trk : Fld := ⟨.surf, 0x108, 0, 1, 0, 24, false, .ro, .own, false, .c 0⟩
def SURF.ID_INFO.wake_ok : Fld := ⟨.surf, 0x108, 0, 1, 24, 1, false, .ro, .own, false, .c 0⟩
def SURF.ID_SERIAL.serial : Fld := ⟨.surf, 0x10c, 0x4, 3, 0, 32, false, .ro, .own, false, .c 0⟩
def SURF.HV_CTRL.enable : Fld := ⟨.surf, 0x118, 0, 1, 0, 1, false, .rw, .own, false, .c 0⟩
def SURF.HV_CTRL.clear_oc : Fld := ⟨.surf, 0x118, 0, 1, 1, 1, false, .sc, .own, false, .c 0⟩
def SURF.HV_STAT.on : Fld := ⟨.surf, 0x11c, 0, 1, 0, 1, false, .ro, .own, false, .c 0⟩
def SURF.HV_STAT.why : Fld := ⟨.surf, 0x11c, 0, 1, 8, 7, false, .ro, .own, false, .c 0⟩
def SURF.STREAM_CFG.ring : Fld := ⟨.surf, 0x120, 0, 1, 0, 12, false, .rw, .own, true, .c 0⟩
def SURF.STREAM_CFG.chmask : Fld := ⟨.surf, 0x120, 0, 1, 16, 4, false, .rw, .own, true, .c 0⟩
def SURF.STREAM_CFG.enable : Fld := ⟨.surf, 0x120, 0, 1, 24, 1, false, .rw, .own, false, .c 0⟩
def SURF.STREAM_STAT.state : Fld := ⟨.surf, 0x124, 0, 1, 0, 2, false, .ro, .own, false, .c 0⟩
def SURF.STREAM_STAT.fill : Fld := ⟨.surf, 0x124, 0, 1, 8, 7, false, .ro, .own, false, .c 0⟩
def SURF.WEAR_SEQ.seq : Fld := ⟨.surf, 0x128, 0, 1, 0, 32, false, .ro, .own, false, .c 0⟩
def SURF.CH_CFG.mode : Fld := ⟨.surf, 0x140, 0x20, 4, 0, 1, false, .rw, .own, true, .c 0⟩
def SURF.CH_CFG.prio : Fld := ⟨.surf, 0x140, 0x20, 4, 4, 2, false, .rw, .own, true, .c 0⟩
def SURF.CH_CFG.gain : Fld := ⟨.surf, 0x140, 0x20, 4, 16, 16, false, .rw, .own, true, .c 32768⟩
def SURF.CH_ILIM.ma : Fld := ⟨.surf, 0x144, 0x20, 4, 0, 10, false, .rw, .own, true, .c 400⟩
def SURF.CH_CARRIER.hz16 : Fld := ⟨.surf, 0x148, 0x20, 4, 0, 16, false, .rw, .own, true, .c 0⟩
def SURF.CH_RES.f_res : Fld := ⟨.surf, 0x14c, 0x20, 4, 0, 16, false, .ro, .own, false, .c 0⟩
def SURF.CH_RES.q : Fld := ⟨.surf, 0x14c, 0x20, 4, 16, 16, false, .ro, .own, false, .c 0⟩
def SURF.CH_RES2.f_ring : Fld := ⟨.surf, 0x150, 0x20, 4, 0, 16, false, .ro, .own, false, .c 0⟩
def SURF.CH_RES2.cap_nf : Fld := ⟨.surf, 0x150, 0x20, 4, 16, 16, false, .ro, .own, false, .c 0⟩
def SURF.CH_CAL.status : Fld := ⟨.surf, 0x154, 0x20, 4, 0, 3, false, .ro, .own, false, .c 0⟩
def SURF.CH_CAL.source : Fld := ⟨.surf, 0x154, 0x20, 4, 3, 2, false, .ro, .own, false, .c 0⟩
def SURF.CH_CAL.drift : Fld := ⟨.surf, 0x154, 0x20, 4, 5, 1, false, .ro, .own, false, .c 0⟩
def SURF.CH_WEAR.count : Fld := ⟨.surf, 0x158, 0x20, 4, 0, 32, false, .ro, .own, false, .c 0⟩
def SURF.CH_STAT.throttle : Fld := ⟨.surf, 0x15c, 0x20, 4, 0, 3, false, .ro, .own, false, .c 0⟩
def SURF.CH_STAT.oc : Fld := ⟨.surf, 0x15c, 0x20, 4, 3, 1, false, .ro, .own, false, .c 0⟩
def SURF.CH_STAT.wear_warn : Fld := ⟨.surf, 0x15c, 0x20, 4, 5, 1, false, .ro, .own, false, .c 0⟩
def SURF.CH_STAT.service_due : Fld := ⟨.surf, 0x15c, 0x20, 4, 6, 1, false, .ro, .own, false, .c 0⟩
/-- The fields of SURF from offset 0x100. -/
def SURF.rows : List Fld :=
  [SURF.PORT_CTRL.power, SURF.SURF_STAT.state, SURF.SURF_STAT.auth, SURF.SURF_STAT.present,
   SURF.SURF_STAT.wear_unknown, SURF.SURF_STAT.wear_write_fail, SURF.ID_INFO.trk, SURF.ID_INFO.wake_ok,
   SURF.ID_SERIAL.serial, SURF.HV_CTRL.enable, SURF.HV_CTRL.clear_oc, SURF.HV_STAT.on, SURF.HV_STAT.why,
   SURF.STREAM_CFG.ring, SURF.STREAM_CFG.chmask, SURF.STREAM_CFG.enable, SURF.STREAM_STAT.state,
   SURF.STREAM_STAT.fill, SURF.WEAR_SEQ.seq, SURF.CH_CFG.mode, SURF.CH_CFG.prio, SURF.CH_CFG.gain, SURF.CH_ILIM.ma,
   SURF.CH_CARRIER.hz16, SURF.CH_RES.f_res, SURF.CH_RES.q, SURF.CH_RES2.f_ring, SURF.CH_RES2.cap_nf,
   SURF.CH_CAL.status, SURF.CH_CAL.source, SURF.CH_CAL.drift, SURF.CH_WEAR.count, SURF.CH_STAT.throttle,
   SURF.CH_STAT.oc, SURF.CH_STAT.wear_warn, SURF.CH_STAT.service_due]

/-! HAPT (R408). -/
def HAPT.BOOST_CTRL.enable : Fld := ⟨.hapt, 0x100, 0, 1, 0, 1, false, .rw, .mgr, true, .c 1⟩
def HAPT.BOOST_CTRL.clear : Fld := ⟨.hapt, 0x100, 0, 1, 1, 1, false, .sc, .mgr, false, .c 0⟩
def HAPT.BOOST_STAT.on : Fld := ⟨.hapt, 0x104, 0, 1, 0, 1, false, .ro, .mgr, false, .c 0⟩
def HAPT.BOOST_STAT.fault : Fld := ⟨.hapt, 0x104, 0, 1, 1, 1, false, .ro, .mgr, false, .c 0⟩
def HAPT.BOOST_STAT.vout : Fld := ⟨.hapt, 0x104, 0, 1, 16, 12, false, .ro, .mgr, false, .c 0⟩
def HAPT.BUDGET.mw : Fld := ⟨.hapt, 0x108, 0, 1, 0, 14, false, .rw, .mgr, true, .c 16000⟩
def HAPT.PWR_NOW.mw : Fld := ⟨.hapt, 0x10c, 0, 1, 0, 14, false, .ro, .mgr, false, .c 0⟩
def HAPT.THERM_CFG.die_limit : Fld := ⟨.hapt, 0x110, 0, 1, 0, 8, false, .rw, .mgr, true, .c 110⟩
def HAPT.THERM_CFG.rise_limit : Fld := ⟨.hapt, 0x110, 0, 1, 8, 8, false, .rw, .mgr, true, .c 30⟩
def HAPT.THERM_MODEL.rth : Fld := ⟨.hapt, 0x114, 0, 1, 0, 16, false, .rw, .mgr, true, .c 200⟩
def HAPT.THERM_MODEL.tau : Fld := ⟨.hapt, 0x114, 0, 1, 16, 8, false, .rw, .mgr, true, .c 30⟩
def HAPT.DIE_TEMP.temp : Fld := ⟨.hapt, 0x118, 0, 1, 0, 11, false, .ro, .mgr, false, .c 0⟩
def HAPT.THR_MASK.channels : Fld := ⟨.hapt, 0x11c, 0, 1, 0, 32, false, .ro, .mgr, false, .c 0⟩
def HAPT.HS_CFG.v_per_ms : Fld := ⟨.hapt, 0x120, 0, 1, 0, 10, false, .rw, .mgr, true, .c 20⟩
def HAPT.HS_NOW.ports : Fld := ⟨.hapt, 0x124, 0, 1, 0, 8, false, .ro, .mgr, false, .c 0⟩
/-- The fields of HAPT from offset 0x100. -/
def HAPT.rows : List Fld :=
  [HAPT.BOOST_CTRL.enable, HAPT.BOOST_CTRL.clear, HAPT.BOOST_STAT.on, HAPT.BOOST_STAT.fault, HAPT.BOOST_STAT.vout,
   HAPT.BUDGET.mw, HAPT.PWR_NOW.mw, HAPT.THERM_CFG.die_limit, HAPT.THERM_CFG.rise_limit, HAPT.THERM_MODEL.rth,
   HAPT.THERM_MODEL.tau, HAPT.DIE_TEMP.temp, HAPT.THR_MASK.channels, HAPT.HS_CFG.v_per_ms, HAPT.HS_NOW.ports]

/-! AUDIO (R426). -/
def AUDIO.PLL_INT.n : Fld := ⟨.audio, 0x100, 0, 1, 0, 10, false, .rw, .mgr, true, .c 128⟩
def AUDIO.PLL_INT.m : Fld := ⟨.audio, 0x100, 0, 1, 12, 2, false, .rw, .mgr, true, .c 0⟩
def AUDIO.PLL_INT.p : Fld := ⟨.audio, 0x100, 0, 1, 16, 8, false, .rw, .mgr, true, .c 200⟩
def AUDIO.PLL_FRAC.f : Fld := ⟨.audio, 0x104, 0, 1, 0, 24, false, .rw, .mgr, true, .c 0⟩
def AUDIO.ENG_STAT.running : Fld := ⟨.audio, 0x108, 0, 1, 0, 1, false, .ro, .own, false, .c 0⟩
def AUDIO.ENG_STAT.backup : Fld := ⟨.audio, 0x108, 0, 1, 1, 1, false, .ro, .own, false, .c 1⟩
def AUDIO.ENG_STAT.waiting : Fld := ⟨.audio, 0x108, 0, 1, 8, 8, false, .ro, .own, false, .c 0⟩
def AUDIO.SAFELOAD.go : Fld := ⟨.audio, 0x10c, 0, 1, 0, 1, false, .wo, .own, false, .c 0⟩
def AUDIO.SAFELOAD.pending : Fld := ⟨.audio, 0x10c, 0, 1, 1, 1, false, .ro, .own, false, .c 0⟩
def AUDIO.GAIN_TIMEOUT.ms : Fld := ⟨.audio, 0x110, 0, 1, 0, 8, false, .rw, .own, false, .c 50⟩
def AUDIO.PSET_INDEX.index : Fld := ⟨.audio, 0x114, 0, 1, 0, 8, false, .rw, .own, false, .c 0⟩
def AUDIO.PSET_INDEX.active : Fld := ⟨.audio, 0x114, 0, 1, 8, 1, false, .rw, .own, false, .c 0⟩
def AUDIO.PSET_DATA.word : Fld := ⟨.audio, 0x118, 0, 1, 0, 32, false, .rw, .own, false, .c 0⟩
def AUDIO.STRM_SEL.stream : Fld := ⟨.audio, 0x120, 0, 1, 0, 6, false, .rw, .mgr, true, .c 0⟩
def AUDIO.STRM_CFG.ring : Fld := ⟨.audio, 0x124, 0, 1, 0, 18, false, .rw, .mgr, true, .c 0⟩
def AUDIO.STRM_CFG.enable : Fld := ⟨.audio, 0x124, 0, 1, 18, 1, false, .rw, .mgr, true, .c 0⟩
def AUDIO.STRM_CFG.stereo : Fld := ⟨.audio, 0x124, 0, 1, 19, 1, false, .rw, .mgr, true, .c 0⟩
def AUDIO.STRM_CFG.fmt : Fld := ⟨.audio, 0x124, 0, 1, 20, 2, false, .rw, .mgr, true, .c 0⟩
def AUDIO.STRM_RATE.hz : Fld := ⟨.audio, 0x128, 0, 1, 0, 18, false, .rw, .mgr, true, .c 48000⟩
def AUDIO.STRM_PREFILL.ms : Fld := ⟨.audio, 0x12c, 0, 1, 0, 6, false, .rw, .mgr, true, .c 10⟩
def AUDIO.STRM_STAT.state : Fld := ⟨.audio, 0x130, 0, 1, 0, 2, false, .ro, .own, false, .c 0⟩
def AUDIO.STRM_STAT.fill_ms : Fld := ⟨.audio, 0x130, 0, 1, 8, 8, false, .ro, .own, false, .c 0⟩
def AUDIO.PORT_CTRL.enable : Fld := ⟨.audio, 0x180, 0x20, 4, 0, 1, false, .rw, .mgr, true, .elemIs 0⟩
def AUDIO.PORT_CFG.clk : Fld := ⟨.audio, 0x184, 0x20, 4, 0, 2, false, .rw, .mgr, true, .c 0⟩
def AUDIO.PORT_CFG.slot_bits : Fld := ⟨.audio, 0x184, 0x20, 4, 2, 2, false, .rw, .mgr, true, .c 2⟩
def AUDIO.PORT_CFG.fsync_len : Fld := ⟨.audio, 0x184, 0x20, 4, 4, 1, false, .rw, .mgr, true, .c 0⟩
def AUDIO.PORT_CFG.delay : Fld := ⟨.audio, 0x184, 0x20, 4, 5, 1, false, .rw, .mgr, true, .c 1⟩
def AUDIO.PORT_CFG.bclk_edge : Fld := ⟨.audio, 0x184, 0x20, 4, 6, 1, false, .rw, .mgr, true, .c 0⟩
def AUDIO.PORT_CFG.mclk_div : Fld := ⟨.audio, 0x184, 0x20, 4, 8, 8, false, .rw, .mgr, true, .c 2⟩
def AUDIO.PORT_CFG.in_mask : Fld := ⟨.audio, 0x184, 0x20, 4, 16, 8, false, .rw, .mgr, true, .c 0⟩
def AUDIO.PORT_CFG.out_mask : Fld := ⟨.audio, 0x184, 0x20, 4, 24, 8, false, .rw, .mgr, true, .c 0⟩
def AUDIO.PORT_STAT.clk_lost : Fld := ⟨.audio, 0x188, 0x20, 4, 0, 1, false, .w1c, .own, false, .c 0⟩
def AUDIO.PORT_STAT.waiting : Fld := ⟨.audio, 0x188, 0x20, 4, 1, 1, false, .ro, .own, false, .c 0⟩
def AUDIO.PORT_STAT.locked : Fld := ⟨.audio, 0x188, 0x20, 4, 2, 1, false, .ro, .own, false, .c 0⟩
def AUDIO.PORT_STAT.amp_en : Fld := ⟨.audio, 0x188, 0x20, 4, 3, 1, false, .ro, .own, false, .c 0⟩
def AUDIO.PORT_STAT.rate_hz : Fld := ⟨.audio, 0x188, 0x20, 4, 12, 20, false, .ro, .own, false, .c 0⟩
def AUDIO.SIL_CFG.level_db : Fld := ⟨.audio, 0x18c, 0x20, 4, 0, 7, false, .rw, .own, true, .c 90⟩
def AUDIO.SIL_CFG.hold : Fld := ⟨.audio, 0x18c, 0x20, 4, 8, 8, false, .rw, .own, true, .c 20⟩
def AUDIO.SIL_CFG.amp_mode : Fld := ⟨.audio, 0x18c, 0x20, 4, 16, 2, false, .rw, .own, true, .c 0⟩
/-- The fields of AUDIO from offset 0x100. -/
def AUDIO.rows : List Fld :=
  [AUDIO.PLL_INT.n, AUDIO.PLL_INT.m, AUDIO.PLL_INT.p, AUDIO.PLL_FRAC.f, AUDIO.ENG_STAT.running,
   AUDIO.ENG_STAT.backup, AUDIO.ENG_STAT.waiting, AUDIO.SAFELOAD.go, AUDIO.SAFELOAD.pending, AUDIO.GAIN_TIMEOUT.ms,
   AUDIO.PSET_INDEX.index, AUDIO.PSET_INDEX.active, AUDIO.PSET_DATA.word, AUDIO.STRM_SEL.stream,
   AUDIO.STRM_CFG.ring, AUDIO.STRM_CFG.enable, AUDIO.STRM_CFG.stereo, AUDIO.STRM_CFG.fmt, AUDIO.STRM_RATE.hz,
   AUDIO.STRM_PREFILL.ms, AUDIO.STRM_STAT.state, AUDIO.STRM_STAT.fill_ms, AUDIO.PORT_CTRL.enable,
   AUDIO.PORT_CFG.clk, AUDIO.PORT_CFG.slot_bits, AUDIO.PORT_CFG.fsync_len, AUDIO.PORT_CFG.delay,
   AUDIO.PORT_CFG.bclk_edge, AUDIO.PORT_CFG.mclk_div, AUDIO.PORT_CFG.in_mask, AUDIO.PORT_CFG.out_mask,
   AUDIO.PORT_STAT.clk_lost, AUDIO.PORT_STAT.waiting, AUDIO.PORT_STAT.locked, AUDIO.PORT_STAT.amp_en,
   AUDIO.PORT_STAT.rate_hz, AUDIO.SIL_CFG.level_db, AUDIO.SIL_CFG.hold, AUDIO.SIL_CFG.amp_mode]

/-! ENC (R435). -/
def ENC.ENC_CFG.enable : Fld := ⟨.enc, 0x100, 0x10, 16, 0, 1, false, .rw, .own, true, .c 0⟩
def ENC.ENC_CFG.invert : Fld := ⟨.enc, 0x100, 0x10, 16, 1, 1, false, .rw, .own, true, .c 0⟩
def ENC.ENC_CFG.keep : Fld := ⟨.enc, 0x100, 0x10, 16, 2, 1, false, .rw, .own, true, .c 0⟩
def ENC.ENC_CFG.wake : Fld := ⟨.enc, 0x100, 0x10, 16, 3, 1, false, .rw, .own, true, .c 0⟩
def ENC.ENC_POS.pos : Fld := ⟨.enc, 0x104, 0x10, 16, 0, 32, false, .ro, .own, false, .c 0⟩
def ENC.ENC_STAT.a : Fld := ⟨.enc, 0x108, 0x10, 16, 0, 1, false, .ro, .own, false, .c 0⟩
def ENC.ENC_STAT.b : Fld := ⟨.enc, 0x108, 0x10, 16, 1, 1, false, .ro, .own, false, .c 0⟩
def ENC.ENC_STAT.burst : Fld := ⟨.enc, 0x108, 0x10, 16, 2, 1, false, .ro, .own, false, .c 0⟩
def ENC.ENC_SET.pos : Fld := ⟨.enc, 0x10c, 0x10, 16, 0, 32, false, .wo, .own, false, .c 0⟩
def ENC.ENC_WAKE.encoders : Fld := ⟨.enc, 0x200, 0, 1, 0, 16, false, .w1c, .mgr, false, .c 0⟩
/-- The fields of ENC from offset 0x100. -/
def ENC.rows : List Fld :=
  [ENC.ENC_CFG.enable, ENC.ENC_CFG.invert, ENC.ENC_CFG.keep, ENC.ENC_CFG.wake, ENC.ENC_POS.pos, ENC.ENC_STAT.a,
   ENC.ENC_STAT.b, ENC.ENC_STAT.burst, ENC.ENC_SET.pos, ENC.ENC_WAKE.encoders]

/-! GPIO (R436). -/
def GPIO.PIN_OWNER.owner : Fld := ⟨.gpio, 0x100, 0x4, 96, 0, 8, false, .rw, .mgr, true, .c 254⟩
def GPIO.GPIO_CFG.func : Fld := ⟨.gpio, 0x300, 0x4, 48, 0, 5, false, .rw, .own, true, .c 0⟩
def GPIO.GPIO_CFG.pull : Fld := ⟨.gpio, 0x300, 0x4, 48, 5, 2, false, .rw, .own, true, .c 1⟩
def GPIO.GPIO_CFG.out : Fld := ⟨.gpio, 0x300, 0x4, 48, 8, 1, false, .rw, .own, false, .c 0⟩
def GPIO.GPIO_CFG.in_ : Fld := ⟨.gpio, 0x300, 0x4, 48, 9, 1, false, .ro, .own, false, .c 0⟩
def GPIO.GPIO_CFG.rise_en : Fld := ⟨.gpio, 0x300, 0x4, 48, 10, 1, false, .rw, .own, true, .c 0⟩
def GPIO.GPIO_CFG.fall_en : Fld := ⟨.gpio, 0x300, 0x4, 48, 11, 1, false, .rw, .own, true, .c 0⟩
def GPIO.GPIO_CFG.edge : Fld := ⟨.gpio, 0x300, 0x4, 48, 12, 1, false, .w1c, .own, false, .c 0⟩
def GPIO.DIN_CFG.deb_ms : Fld := ⟨.gpio, 0x400, 0x4, 32, 0, 8, false, .rw, .own, true, .c 10⟩
def GPIO.DIN_CFG.state : Fld := ⟨.gpio, 0x400, 0x4, 32, 8, 1, false, .ro, .own, false, .c 0⟩
def GPIO.DIN_CFG.rise_en : Fld := ⟨.gpio, 0x400, 0x4, 32, 9, 1, false, .rw, .own, true, .c 0⟩
def GPIO.DIN_CFG.fall_en : Fld := ⟨.gpio, 0x400, 0x4, 32, 10, 1, false, .rw, .own, true, .c 0⟩
def GPIO.DIN_CFG.edge : Fld := ⟨.gpio, 0x400, 0x4, 32, 11, 1, false, .w1c, .own, false, .c 0⟩
def GPIO.I2C_CTRL.addr : Fld := ⟨.gpio, 0x500, 0x20, 4, 0, 7, false, .rw, .own, true, .c 0⟩
def GPIO.I2C_CTRL.read : Fld := ⟨.gpio, 0x500, 0x20, 4, 7, 1, false, .rw, .own, true, .c 0⟩
def GPIO.I2C_CTRL.len : Fld := ⟨.gpio, 0x500, 0x20, 4, 8, 4, false, .rw, .own, true, .c 0⟩
def GPIO.I2C_CTRL.speed : Fld := ⟨.gpio, 0x500, 0x20, 4, 12, 2, false, .rw, .own, true, .c 1⟩
def GPIO.I2C_CTRL.go : Fld := ⟨.gpio, 0x500, 0x20, 4, 31, 1, false, .sc, .own, false, .c 0⟩
def GPIO.I2C_STAT.result : Fld := ⟨.gpio, 0x504, 0x20, 4, 0, 2, false, .rol, .own, false, .c 0⟩
def GPIO.I2C_STAT.count : Fld := ⟨.gpio, 0x504, 0x20, 4, 4, 5, false, .rol, .own, false, .c 0⟩
def GPIO.I2C_DATA0.data : Fld := ⟨.gpio, 0x508, 0x20, 4, 0, 32, false, .rw, .own, false, .c 0⟩
def GPIO.I2C_DATA1.data : Fld := ⟨.gpio, 0x50c, 0x20, 4, 0, 32, false, .rw, .own, false, .c 0⟩
def GPIO.I2C_DATA2.data : Fld := ⟨.gpio, 0x510, 0x20, 4, 0, 32, false, .rw, .own, false, .c 0⟩
def GPIO.I2C_DATA3.data : Fld := ⟨.gpio, 0x514, 0x20, 4, 0, 32, false, .rw, .own, false, .c 0⟩
def GPIO.UART_CFG.div : Fld := ⟨.gpio, 0x580, 0x20, 2, 0, 20, false, .rw, .own, true, .c 104⟩
def GPIO.UART_CFG.parity : Fld := ⟨.gpio, 0x580, 0x20, 2, 20, 2, false, .rw, .own, true, .c 0⟩
def GPIO.UART_CFG.stop2 : Fld := ⟨.gpio, 0x580, 0x20, 2, 22, 1, false, .rw, .own, true, .c 0⟩
def GPIO.UART_TX.data : Fld := ⟨.gpio, 0x584, 0x20, 2, 0, 8, false, .wo, .own, false, .c 0⟩
def GPIO.UART_RX.data : Fld := ⟨.gpio, 0x588, 0x20, 2, 0, 8, false, .ro, .own, false, .c 0⟩
def GPIO.UART_RX.valid : Fld := ⟨.gpio, 0x588, 0x20, 2, 8, 1, false, .ro, .own, false, .c 0⟩
def GPIO.UART_STAT.tx_level : Fld := ⟨.gpio, 0x58c, 0x20, 2, 0, 7, false, .ro, .own, false, .c 0⟩
def GPIO.UART_STAT.rx_level : Fld := ⟨.gpio, 0x58c, 0x20, 2, 8, 7, false, .ro, .own, false, .c 0⟩
def GPIO.UART_STAT.errors : Fld := ⟨.gpio, 0x58c, 0x20, 2, 16, 3, false, .w1c, .own, false, .c 0⟩
/-- The fields of GPIO from offset 0x100. -/
def GPIO.rows : List Fld :=
  [GPIO.PIN_OWNER.owner, GPIO.GPIO_CFG.func, GPIO.GPIO_CFG.pull, GPIO.GPIO_CFG.out, GPIO.GPIO_CFG.in_,
   GPIO.GPIO_CFG.rise_en, GPIO.GPIO_CFG.fall_en, GPIO.GPIO_CFG.edge, GPIO.DIN_CFG.deb_ms, GPIO.DIN_CFG.state,
   GPIO.DIN_CFG.rise_en, GPIO.DIN_CFG.fall_en, GPIO.DIN_CFG.edge, GPIO.I2C_CTRL.addr, GPIO.I2C_CTRL.read,
   GPIO.I2C_CTRL.len, GPIO.I2C_CTRL.speed, GPIO.I2C_CTRL.go, GPIO.I2C_STAT.result, GPIO.I2C_STAT.count,
   GPIO.I2C_DATA0.data, GPIO.I2C_DATA1.data, GPIO.I2C_DATA2.data, GPIO.I2C_DATA3.data, GPIO.UART_CFG.div,
   GPIO.UART_CFG.parity, GPIO.UART_CFG.stop2, GPIO.UART_TX.data, GPIO.UART_RX.data, GPIO.UART_RX.valid,
   GPIO.UART_STAT.tx_level, GPIO.UART_STAT.rx_level, GPIO.UART_STAT.errors]

/-! TIME (R446). -/
def TIME.DEVTIME.time : Fld := ⟨.time, 0x100, 0, 1, 0, 64, true, .ro, .mgr, false, .c 0⟩
def TIME.TIME_STAT.master : Fld := ⟨.time, 0x108, 0, 1, 0, 2, false, .ro, .mgr, false, .c 0⟩
def TIME.TIME_STAT.valid : Fld := ⟨.time, 0x108, 0, 1, 4, 1, false, .ro, .mgr, false, .c 0⟩
def TIME.TIME_STAT.lost : Fld := ⟨.time, 0x108, 0, 1, 5, 1, false, .ro, .mgr, false, .c 0⟩
def TIME.TIME_STAT.slewing : Fld := ⟨.time, 0x108, 0, 1, 6, 1, false, .ro, .mgr, false, .c 0⟩
def TIME.TIME_STAT.tick_src : Fld := ⟨.time, 0x108, 0, 1, 8, 2, false, .ro, .mgr, false, .c 0⟩
def TIME.MASTER_CFG.src : Fld := ⟨.time, 0x10c, 0, 1, 0, 2, false, .rw, .mgr, true, .c 0⟩
def TIME.MASTER_CFG.pps_pin : Fld := ⟨.time, 0x10c, 0, 1, 8, 6, false, .rw, .mgr, true, .c 0⟩
def TIME.MASTER_CFG.pps_fall : Fld := ⟨.time, 0x10c, 0, 1, 16, 1, false, .rw, .mgr, true, .c 0⟩
def TIME.MASTER_CFG.ptm_ms : Fld := ⟨.time, 0x10c, 0, 1, 20, 12, false, .rw, .mgr, true, .c 100⟩
def TIME.TOD_NEXT.tod : Fld := ⟨.time, 0x110, 0, 1, 0, 64, true, .rw, .mgr, false, .c 0⟩
def TIME.OFS.ofs : Fld := ⟨.time, 0x118, 0, 1, 0, 64, true, .ro, .mgr, false, .c 0⟩
def TIME.OFS_BASE.base : Fld := ⟨.time, 0x120, 0, 1, 0, 64, true, .ro, .mgr, false, .c 0⟩
def TIME.SLEW_END.end_ : Fld := ⟨.time, 0x128, 0, 1, 0, 64, true, .ro, .mgr, false, .c 0⟩
def TIME.SLEW.ppm : Fld := ⟨.time, 0x130, 0, 1, 0, 16, false, .ro, .mgr, false, .c 0⟩
def TIME.EPOCH.epoch : Fld := ⟨.time, 0x134, 0, 1, 0, 16, false, .ro, .mgr, false, .c 0⟩
def TIME.EPOCH_START.start : Fld := ⟨.time, 0x138, 0, 1, 0, 64, true, .ro, .mgr, false, .c 0⟩
def TIME.PUB_SEQ.seq : Fld := ⟨.time, 0x140, 0, 1, 0, 32, false, .ro, .mgr, false, .c 0⟩
def TIME.LAST_ERR.ns : Fld := ⟨.time, 0x144, 0, 1, 0, 32, false, .ro, .mgr, false, .c 0⟩
def TIME.SNAP_AT.at_ : Fld := ⟨.time, 0x148, 0, 1, 0, 64, true, .rw, .own, false, .c 0⟩
def TIME.SNAP_CTRL.armed : Fld := ⟨.time, 0x150, 0, 1, 0, 1, false, .ro, .own, false, .c 0⟩
def TIME.SNAP_CTRL.cancel : Fld := ⟨.time, 0x150, 0, 1, 1, 1, false, .wo, .own, false, .c 0⟩
def TIME.SNAP_CTRL.period_ms : Fld := ⟨.time, 0x150, 0, 1, 16, 16, false, .rw, .own, false, .c 0⟩
def TIME.MTIME.mtime : Fld := ⟨.time, 0x158, 0, 1, 0, 64, true, .ro, .mgr, false, .c 0⟩
/-- The fields of TIME from offset 0x100. -/
def TIME.rows : List Fld :=
  [TIME.DEVTIME.time, TIME.TIME_STAT.master, TIME.TIME_STAT.valid, TIME.TIME_STAT.lost, TIME.TIME_STAT.slewing,
   TIME.TIME_STAT.tick_src, TIME.MASTER_CFG.src, TIME.MASTER_CFG.pps_pin, TIME.MASTER_CFG.pps_fall,
   TIME.MASTER_CFG.ptm_ms, TIME.TOD_NEXT.tod, TIME.OFS.ofs, TIME.OFS_BASE.base, TIME.SLEW_END.end_, TIME.SLEW.ppm,
   TIME.EPOCH.epoch, TIME.EPOCH_START.start, TIME.PUB_SEQ.seq, TIME.LAST_ERR.ns, TIME.SNAP_AT.at_,
   TIME.SNAP_CTRL.armed, TIME.SNAP_CTRL.cancel, TIME.SNAP_CTRL.period_ms, TIME.MTIME.mtime]

/-- The fields of a page type from offset 0x100. TOUCH2p+1 has only those below 0x200 (R386). -/
def blkRows : Blk → Nat → List Fld
  | .boot, _ => BOOT.rows
  | .pwr, _ => PWR.rows
  | .clk, _ => CLK.rows
  | .pot, _ => POT.rows
  | .mgr, _ => MGR.rows
  | .world, _ => WORLD.rows
  | .swdt, _ => SWDT.rows
  | .dram, _ => DRAM.rows
  | .dramq, _ => DRAMQ.rows
  | .rsched, _ => RSCHED.rows
  | .dma, _ => DMA.rows
  | .gfx, _ => GFX.rows
  | .comp, _ => COMP.rows
  | .basin, _ => BASIN.rows
  | .head, _ => HEAD.rows
  | .glint, _ => GLINT.rows
  | .safe, _ => SAFE.rows
  | .lantern, _ => LANTERN.rows
  | .mirror, _ => MIRROR.rows
  | .link, _ => LINK.rows
  | .cap, _ => CAP.rows
  | .touch, i => if i % 2 = 0 then TOUCH.rows else TOUCH.rows.filter (fun f => decide (f.off < 0x200))
  | .surf, _ => SURF.rows
  | .hapt, _ => HAPT.rows
  | .audio, _ => AUDIO.rows
  | .enc, _ => ENC.rows
  | .gpio, _ => GPIO.rows
  | .time, _ => TIME.rows

end Sys2Proof.Machine
end

