-- ==== Sys2Proof/Machine/Sparse.lean ====
section
/-! DEFINITION. The sparse maps that hold registers, counters and memory: lists of (key, value) in one canonical
form, keys strictly rising and no entry equal to what an unlisted key reads as. -/

namespace Sys2Proof.Machine

/-- A sparse map from numbers to values. -/
abbrev SMap (V : Type) := List (Nat × V)

/-- The value at key k; an unlisted key reads as d. -/
def mget {V : Type} : SMap V → Nat → V → V
  | [], _, d => d
  | e :: t, k, d => if e.1 = k then e.2 else mget t k d

/-- The map without key k. -/
def mdel {V : Type} (m : SMap V) (k : Nat) : SMap V := m.filter (fun e => !decide (e.1 = k))

/-- The map with v at key k; d is what k reads as when unlisted, so writing d removes the entry. -/
def mset {V : Type} [DecidableEq V] : SMap V → Nat → V → V → SMap V
  | [], k, v, d => if v = d then [] else [(k, v)]
  | e :: t, k, v, d =>
    if k < e.1 then (if v = d then mdel (e :: t) k else (k, v) :: e :: t)
    else if e.1 = k then (if v = d then mdel t k else (k, v) :: t)
    else e :: mset t k v d

/-- The map without the keys from lo to hi - 1: all of them read as unlisted again. -/
def mdrop {V : Type} (m : SMap V) (lo hi : Nat) : SMap V :=
  m.filter (fun e => !(decide (lo ≤ e.1) && decide (e.1 < hi)))

/-- The entries with keys from lo to hi - 1. -/
def mslice {V : Type} (m : SMap V) (lo hi : Nat) : SMap V :=
  m.filter (fun e => decide (lo ≤ e.1) && decide (e.1 < hi))

/-- The map with v at key k, listed whatever v is. -/
def mput {V : Type} : SMap V → Nat → V → SMap V
  | [], k, v => [(k, v)]
  | e :: t, k, v => if k < e.1 then (k, v) :: e :: t else if e.1 = k then (k, v) :: t else e :: mput t k v

/-- The map m with its entries from lo to hi - 1 replaced by those of src. -/
def mreplace {V : Type} (m src : SMap V) (lo hi : Nat) : SMap V :=
  m.filter (fun e => decide (e.1 < lo)) ++ mslice src lo hi ++ m.filter (fun e => decide (hi ≤ e.1))

/-- The canonical form: keys strictly rising, no entry equal to what its key reads as when unlisted. -/
def mwf {V : Type} [DecidableEq V] (dflt : Nat → V) : SMap V → Bool
  | [] => true
  | [e] => decide (e.2 ≠ dflt e.1)
  | e :: f :: t => decide (e.2 ≠ dflt e.1) && decide (e.1 < f.1) && mwf dflt (f :: t)

end Sys2Proof.Machine
end

