-- ==== Sys2Proof/Machine/State.lean ====
section
/-! DEFINITION. The state of the block as plain data: the queue of waiting commands, the register pages, the memories
and buffers, and what each block holds between commands. -/

namespace Sys2Proof.Machine

/-- The last bus response: normal or error, and the data of a read (R2, R50, R449). -/
structure Resp where
  ok   : Bool := true
  data : Nat := 0
deriving DecidableEq, Repr

/-- How a PCI Express request completes; writes are posted and have none (R112, R123). -/
inductive Completion where
  | successful | unsupported | abort
deriving DecidableEq, Repr

/-- An interrupt message the block has sent: a write of data to an address, or an MSI-X vector of a function (R124). -/
inductive Msg where
  | msi (addr data : Nat)
  | msix (function vector : Nat)
deriving DecidableEq, Repr

/-- Output and input pins whose level the spec gives (R34 to R38); present is the mask of ports whose ID_PRESENT_N is low, gpio the levels
driven onto GPIO0 to GPIO47 from outside. -/
structure Pins where
  faultA  : Bool := false
  faultB  : Bool := true
  safeHiZ : Bool := true
  pwrGood : Bool := false
  dispen  : Nat := 0
  blpwm   : Nat := 0
  ampEn   : Nat := 0
  resetN  : Bool := true
  present : Nat := 0
  gpio    : Nat := 0
  driven  : Nat := 0
deriving DecidableEq, Repr

/-- The page owner table's command engine (R114 to R116, R121): the running command (0 none, 1 SET, 2 SET_ATTR,
3 SHARE, 4 owner sweep), its step (1 to 4 done, 6 scrubbing), the frames still to scrub, and whose work it is. The port caches: the page frames
whose entries each port holds, newest first, and the share groups whose masks it holds, and under the port's number plus 32 those of them taken since
the epoch wrote them; and while an epoch runs, when its step 1 was, the entries and the mask that held before, and the ports that have dropped
them (R113, R116). -/
structure PotSt where
  op        : Nat := 0
  step      : Nat := 0
  scrub     : List Nat := []
  owner     : Nat := 0
  shareMask : SMap Nat := []
  cache     : SMap (List Nat) := []
  groups    : SMap Nat := []
  since     : Nat := 0
  old       : SMap Nat := []
  oldMask   : Option (Nat × Nat) := none
  acked     : Nat := 0
deriving DecidableEq, Repr

/-- The life of a guest beyond INST_STAT, per guest number: the step of R122 it is at, whether its pages are scrubbed, whether a function
level reset follows with RESET, the words of its FORCED bitmap, its mailbox's data and full slots, when its QUIESCE began and when a function level
reset arrived (R118 to R126, R130). -/
structure InstSt where
  qStep   : SMap Nat := []
  scrub   : SMap Nat := []
  flr     : SMap Nat := []
  forced  : SMap Nat := []
  mbData  : SMap Nat := []
  mbFull  : SMap Nat := []
  qAt     : SMap Nat := []
  flrAt   : SMap Nat := []
deriving DecidableEq, Repr

/-- An event record generated for a recipient and not yet in its event queue, whether it is one of the 16 held ones, and
whether events before it were lost (R202, R217). -/
structure EvRec where
  recipient : Nat
  code   : Nat
  source : Nat
  detail : Nat
  seq    : Nat
  time   : Nat
  held   : Bool
deriving DecidableEq, Repr

/-- A ring context (R184) and the scheduler's working state for it: the prefetched entries (code 0 and the entry's
bytes, or the code and address of a refused fetch), when its first job began to wait, whether the wait is registered and whether
it is met, jobs in flight, whether a bus error or an overrun halted it, a pending migration, and of a completion queue
the records since its last interrupt and whether a record write was refused. -/
structure Ring where
  base      : Nat := 0
  size      : Nat := 0
  type      : Nat := 0
  world     : Nat := 0
  enable    : Bool := false
  st        : Nat := 0
  prio      : Bool := false
  critical  : Bool := false
  hint      : Bool := false
  pin       : Bool := false
  weight    : Nat := 0
  cq        : Nat := 0
  cls       : Nat := 0
  engine    : Nat := 0
  target    : Nat := 0
  migrating : Bool := false
  waitLimit : Nat := 0
  tail      : Nat := 0
  head      : Nat := 0
  seq       : Nat := 0
  irqVector : Nat := 0
  irqEn     : Bool := false
  irqCount  : Nat := 0
  irqTime   : Nat := 0
  lastErr   : Nat := 0
  pre       : List (Nat × Nat × List Byte) := []
  waitReg   : Bool := false
  waitMet   : Bool := false
  inflight  : Nat := 0
  overrun   : Bool := false
  irqDue    : Nat := 0
  refused   : Bool := false
  waitAt    : Nat := 0
  irqAt     : Nat := 0
deriving DecidableEq, Repr

/-- A completion record formed for a job and not yet visible in its queue (R198, R200). -/
structure RecDue where
  ring    : Nat
  kind    : Nat
  final   : Bool
  partly  : Bool
  seq     : Nat
  code    : Nat
  source  : Nat
  detail  : Nat
  time    : Nat
  info    : Nat
  stalled : Bool
deriving DecidableEq, Repr

/-- A job an engine has started: its ring, sequence number and entry, and for a DMA job the step it is at (0 to move
data, 1 data moved, 2 an access failed, 3 halted), the element, bytes done and CRC register at its start, and the failure. -/
structure Job where
  ring     : Nat
  seq      : Nat
  desc     : List Byte
  phase    : Nat := 0
  elem     : Nat := 0
  done     : Nat := 0
  crc      : Nat := 0
  failCode : Nat := 0
  failAddr : Nat := 0
  failDir  : Nat := 0
  failCrc  : Bool := false
  failPart : Bool := false
  failElem : Nat := 0
  list     : List (Nat × Nat) := []
  haltAt   : Nat := 0
deriving DecidableEq, Repr

/-- A fence wait registered for something other than a ring's next job: a WAIT packet of graphics or a layer record of a commit
packet, named by a key; whether it is met, the code it ended with, and since when it waits (R195, R196, R240, R258). -/
structure Wait where
  key   : Nat
  rid   : Nat
  fence : Nat
  value : Nat
  met   : Bool
  code  : Nat
  since : Nat
deriving DecidableEq, Repr

/-- A render target of the open pass, as its entry of the target table gives it (R238). -/
structure GfxTarget where
  addr    : Nat
  pitch   : Nat
  width   : Nat
  height  : Nat
  format  : Nat
  load    : Nat
  store   : Nat
  resolve : Nat
  clear   : List Nat
deriving DecidableEq, Repr

/-- A graphics job on a front-end: its ring job, context, whether it is a compositor job, the address and length of its
command buffer in words, the offset of the next packet, the state packets have set (by op, sub and index), whether a render pass is
open, its targets, samples and draws, the bytes binned, the tiles that hold them and the tiles flushed earlier in the pass, whether a pipeline is
bound, partial renders, what it has written, the writes its caches still hold as (address, page-policy hint, bytes), oldest first, the nanoseconds it
has run and when it was last started, and its phase: 0 running, 1 preempted, 2 yielded at a WAIT (R230 to R249). -/
structure GfxRun where
  job      : Job
  fe       : Nat
  ctx      : Nat
  comp     : Bool
  cmd      : Nat
  words    : Nat
  pc       : Nat := 0
  st       : SMap (List Nat) := []
  pass     : Bool := false
  targets  : List GfxTarget := []
  samples  : Nat := 1
  draws    : Nat := 0
  bins     : Nat := 0
  binTiles : List Nat := []
  flushed  : List Nat := []
  bound    : Bool := false
  partials : Nat := 0
  wrote    : List (Nat × Nat) := []
  dirty    : List (Nat × Bool × List Byte) := []
  ran      : Nat := 0
  since    : Nat := 0
  phase    : Nat := 0
deriving DecidableEq, Repr

/-- The graphics engine: the job running on each front-end, the preempted and yielded jobs, each instance's credit in
1/16,000 cluster-µs, the cluster-nanoseconds not yet counted, the time of the last account, and until when each context is being reset (R231,
R249). -/
structure GfxSt where
  cur    : SMap (Option GfxRun) := []
  held   : List GfxRun := []
  credit : SMap Int := []
  rem    : SMap Nat := []
  since  : Nat := 0
  reset  : SMap Nat := []
deriving DecidableEq, Repr

/-- A layer's active state: its record (R257), whether it is enabled, and the substitute colour shown in its place (R255,
R261). -/
structure Layer where
  raw     : List Byte := []
  enabled : Bool := false
  subst   : Option Nat := none
deriving DecidableEq, Repr

/-- A commit packet taken by a composition engine: a number in order of taking, its ring and sequence, header, head and layer
records (R256 to R259). -/
structure Packet where
  id   : Nat
  ring : Nat
  seq  : Nat
  hdr  : List Byte
  head : Nat
  recs : List (List Byte)
deriving DecidableEq, Repr

/-- A packet that has ended and whose record waits for those of older packets of its ring (R260). -/
structure PacketEnd where
  pkt    : Packet
  kind   : Nat
  code   : Nat
  detail : Nat
  info   : Nat
deriving DecidableEq, Repr

/-- Writeback of a head: frames composed since the enable, frames skipped since the last event and in all, the time of the last
event or of the first skip of the run, and whether a frame's writes are outstanding (R270, R271). -/
structure WbSt where
  count : Nat := 0
  skips : Nat := 0
  since : Nat := 0
  run   : Bool := false
  busy  : Bool := false
deriving DecidableEq, Repr

/-- The composition engines (R253 to R271): layers by head and number, pending and latched packets by head, ended packets held for order,
substitutions and fetch errors by layer, whether a frame is being composed or is complete in the back buffer, writeback. -/
structure CompSt where
  layers   : SMap Layer := []
  pend     : SMap (List Packet) := []
  latched  : SMap (List Packet) := []
  ends     : List PacketEnd := []
  nextId   : Nat := 0
  substQ   : SMap Nat := []
  fetchBad : SMap Nat := []
  busy     : SMap Nat := []
  complete : SMap Nat := []
  late     : SMap Nat := []
  wb       : SMap WbSt := []
deriving DecidableEq, Repr

/-- Registers of a hart that PASS saves, restores or zeroes: pc, and by number the integer, floating-point and vector
registers and the vector CSRs (R137, R140). An unlisted register reads 0. -/
structure HartRegs where
  pc   : Nat := 0
  x    : SMap Nat := []
  f    : SMap Nat := []
  v    : SMap Nat := []
  vcsr : SMap Nat := []
deriving DecidableEq, Repr

/-- Where a trap is taken: machine mode, HS-mode or VS-mode, as delegation has it. -/
inductive Target where
  | m | hs | vs
deriving DecidableEq, Repr

/-- A trap a hart has taken: where, cause, whether it is an interrupt, stval, htval and the address epc holds. -/
structure Trap where
  target : Target
  interrupt : Bool
  cause : Nat
  stval : Nat
  htval : Nat
  epc   : Nat
deriving DecidableEq, Repr

/-- An application hart: instance tag CSR, passcause, the vale it executes in, the hidden registers of R140 (the numbers and
values of rs1 and rs2, sp, ra, and the address of the PASS.ENTER), the frame's address, its registers, the last trap, whether it
waits in WFI or is halted by JTAG, and its delegation of exceptions and interrupts (R139). The spec gives the tag CSR no reset value: 0xFF, with
which every access is refused, is a DESIGN CHOICE (log 186), as is 0 for the delegation (log 187). -/
structure Hart where
  tag     : Nat := 0xFF
  cause   : Nat := 0
  susp    : Bool := false
  vale    : Option Nat := none
  r1      : Nat := 0
  r2      : Nat := 0
  v1      : Nat := 0
  v2      : Nat := 0
  sp      : Nat := 0
  ra      : Nat := 0
  enterPc : Nat := 0
  frame   : Nat := 0
  regs    : HartRegs := {}
  trap    : Option Trap := none
  wfi     : Bool := false
  halted  : Bool := false
  medeleg : Nat := 0
  hedeleg : Nat := 0
  mideleg : Nat := 0
  hideleg : Nat := 0
deriving DecidableEq, Repr

/-- Harts by number (R83, R131), running vale commands (op, and 1 where a LOAD was refused), the bytes of each vale's measurement that do not fill a hash block
yet, and whether the first word of a kick has been written (R132 to R148). -/
structure WorldSt where
  harts  : SMap Hart := []
  run    : SMap Nat := []
  bad    : SMap Nat := []
  part   : SMap (List Byte) := []
  kick   : Bool := false
deriving DecidableEq, Repr

/-- The ring scheduler: contexts by ring ID, records due, the context cache from most to least recently used, the job of each
engine (class times 16 plus index), the ring each engine served last and the jobs left of its weight, the
instances whose fence areas are abandoned, whether an event queue has lost events, and of each context in the cache what the ring table in DRAM
holds (R182, R191). -/
structure RingSt where
  ctx     : SMap Ring := []
  image   : SMap Ring := []
  recs    : List RecDue := []
  cache   : List Nat := []
  jobs    : SMap (Option Job) := []
  last    : SMap Nat := []
  credit  : SMap Nat := []
  aband   : SMap Nat := []
  evLost  : SMap Nat := []
  waits   : List Wait := []
deriving DecidableEq, Repr

/-- A signal on the safety fault line that the safety island has not yet handled (R216): its code, the block type and
index it comes from, the heads it concerns and the time of detection. -/
structure FaultSig where
  code  : Nat
  blk   : Nat
  idx   : Nat
  heads : Nat
  time  : Nat
deriving DecidableEq, Repr

/-- A request waiting at a subchannel's scheduler: the request, its class (0 S, 1 D, 2 B, 3 E), when it was accepted and the epoch it
carries (R116, R163 to R165). -/
structure DramWait where
  req   : DramReq
  cls   : Nat
  since : Nat
  epoch : Nat
deriving DecidableEq, Repr

/-- A DRAM command as the retry buffer keeps it: the tCK it was issued in, what it is (0 precharge, 1 activate, 2 read, 3 write, 4 refresh), the
physical rank, the line, and the data of a write (R171). -/
structure DramCmd where
  time : Nat
  op   : Nat
  rank : Nat
  line : Nat
  data : List Byte
deriving DecidableEq, Repr

/-- The DRAM controller beyond its registers (R153 to R178): poisoned lines, token deficits and their times (in tenths of a byte), the
conforming traffic of the window, the order of breaking, refresh and replay bookkeeping and deferred copies; the requests that wait, oldest
first, the command slots of each subchannel counted modulo 32, the row each bank holds open with the time of its last access, the last 64 commands
of each subchannel, the times of corrected errors of each rank, and when a copy began. -/
structure DramSt where
  pool      : List DramWait := []
  slots     : SMap Nat := []
  rows      : SMap (Option (Nat × Nat)) := []
  retry     : SMap (List DramCmd) := []
  ce        : SMap (List Nat) := []
  copyAt    : SMap Nat := []
  poison    : SMap Nat := []
  deficit   : SMap Nat := []
  charged   : SMap Nat := []
  conf      : SMap Nat := []
  confPort  : SMap Nat := []
  broken    : List Nat := []
  goodWin   : Nat := 0
  admSeq    : Nat := 0
  hotWanted : Bool := false
  coolReads : Nat := 0
  replays   : SMap (List Nat) := []
  retrain   : SMap Nat := []
  retrained : SMap Nat := []
  after     : SMap Nat := []
  deferred  : SMap Nat := []
deriving DecidableEq, Repr

/-- Glint of a head: the pose being checked, the posted and the latched set (nine coefficients), when the posted set was posted and the set it
replaced where that had not been latched, the sets taken in the frame
being scanned with the first line of each, newest first, and when GLINT_OUT_OF_MARGIN was last delivered (R304 to R306). -/
structure GlintSt where
  check   : Option (List Nat) := none
  posted  : List Nat := [0x08000000, 0, 0, 0, 0x08000000, 0, 0, 0, 0x08000000]
  postAt  : Option Nat := none
  prev    : Option (List Nat) := none
  latched : List Nat := [0x08000000, 0, 0, 0, 0x08000000, 0, 0, 0, 0x08000000]
  lines   : List (Nat × List Nat) := []
  told    : Option Nat := none
deriving DecidableEq, Repr

/-- A head beyond its page: a soft reset waiting for it to stop, the frame start of the frame it scans, genlock's held pulses, last edge,
measured intervals and run of pulses within a line, the decision time of a cohort member (R291), the Basin words of its front
buffer that read uncorrectable, the composition area it was enabled with (R447), and Glint. -/
structure HeadSt where
  soft   : Bool := false
  start  : Option Nat := none
  pulses : List Nat := []
  edge   : Option Nat := none
  ivals  : List Nat := []
  near   : Nat := 0
  due    : Option Nat := none
  zero   : List Nat := []
  area   : Nat × Nat := (0, 0)
  glint  : GlintSt := {}
deriving DecidableEq, Repr

/-- A fault log entry (R219). -/
structure LogEnt where
  time     : Nat
  code     : Nat
  source   : Nat
  heads    : Nat
  reaction : Nat
  seq      : Nat
deriving DecidableEq, Repr

/-- What the safety island holds of a head: the times it has entered a safe state, whether a fault that selected a safe state
stands, whether the backlight was forced off early, the presence of the fault awaiting its frame start, whether the head's
stop has been reported, whether it is held on its safe state until it is disabled and enabled, and the safe state a logged fault has selected for
its next frame start (R219, R318 to R330, R447). -/
structure SafeHead where
  entries : List Nat := []
  fault   : Bool := false
  early   : Bool := false
  since   : Nat := 0
  stopped : Bool := false
  pinned  : Bool := false
  said    : Nat := 0
deriving DecidableEq, Repr

/-- A Mirror window's judgement: bad or not, its reaction due or standing, good frames since, and the times it turned bad (R328). -/
structure WinSt where
  bad   : Bool := false
  due   : Bool := false
  stands : Bool := false
  run   : Nat := 0
  turns : List Nat := []
deriving DecidableEq, Repr

/-- The safety island: Lantern SRAM, its own SRAM and the address its firmware was entered at, the fault log and its mirror in the always-on domain, the log's next sequence number, unread entries and the
word of the oldest one to be read next, heads and windows, when FAULT was asserted, whether a CLEAR has come since and whether a
fault condition outside the heads stands, the read-back mismatch, the watchdog, and the safety link: sequence of the last accepted
frame, run of valid frames, when the last came or the firmware started, whether a transaction has come and a timeout been told, the answers to send as (type, payload), the frame last
sent and the next seq to send, the machine state word and the heads it needs, the visibility asked of link-controlled regions, the
pads whose read-back differs with the time it began, and whether the last DRAM liveness test failed. -/
structure SafeSt where
  lsram   : SMap Byte := []
  sram    : SMap Byte := []
  fwEntry : Option Nat := none
  log     : List LogEnt := []
  aonLog  : List LogEnt := []
  nextSeq : Nat := 1
  unread  : Nat := 0
  word    : Nat := 0
  heads   : SMap SafeHead := []
  wins    : SMap WinSt := []
  since   : Nat := 0
  cleared : Bool := false
  mismatch : Option Nat := none
  unserved : Bool := false
  kicked  : Nat := 0
  slSeq   : Option Nat := none
  slRun   : Nat := 0
  slLast  : Nat := 0
  slHeard : Bool := false
  slMute  : Bool := false
  slOut   : List (Nat × List Byte) := []
  slTx    : List Byte := []
  slNext  : Nat := 0
  machine : Nat := 0
  needed  : Nat := 0
  vis     : Option Nat := none
  padBad  : SMap Nat := []
  dramBad : Bool := false
deriving DecidableEq, Repr

/-- A display link beyond its page: why it is leaving (the step of the power-off sequence, 0 none, 1 waiting for video to stop, 2 waiting
for DISPENh to fall) and since when, when DISPENh last fell, when the state was entered, whether it sends video, has trained, and lets BLPWMh follow, when
its video began, whether a load fault was told, the AUX_CTRL word in flight; and of BLPWMh the start of a PWM period, the length of the period before that one, the
duty before the last write and from when the new one holds, and from when the pin follows after an override (R342 to R352). -/
structure LinkSt where
  off     : Nat := 0
  fell    : Nat := 0
  since   : Nat := 0
  video   : Bool := false
  trained : Bool := false
  bl      : Bool := false
  loadTold : Bool := false
  blStart : Nat := 0
  offAt   : Nat := 0
  aux     : Nat := 0
  pwmAt   : Nat := 0
  pwmPer  : Nat := 1920
  pwmOld  : Nat := 0
  pwmFrom : Nat := 0
  blFrom  : Nat := 0
deriving DecidableEq, Repr

/-- A camera port beyond its page: whether a frame is being received and its job, whether the frame is dropped, discarded or
complete, lines received and stored, bytes of stored lines kept for the chroma of a row pair, the failing write, the frames dropped
and when that was last told, the time of the last frame start or enable and whether CAP_LOST was told, the times and sequence
numbers of the last 64 tags and of the last advance of FRAME_CNT, when high-speed traffic was last seen, ready rings skipped for want of the port, and
the trigger's last pulse, its time base and the predicted edge it followed (R357 to R365). -/
structure CapSt where
  inFrame : Bool := false
  dropped : Bool := false
  discard : Bool := false
  short   : Bool := false
  lines   : Nat := 0
  stored  : Nat := 0
  ovf     : Bool := false
  row     : List Byte := []
  fail    : Option (Nat × Nat) := none
  done    : Bool := false
  drops   : Nat := 0
  dropAt  : Nat := 0
  lastFs  : Nat := 0
  lostTold : Bool := false
  tags    : List (Nat × Nat) := []
  advanced : Nat := 0
  trigAt  : Option Nat := none
  trigBy  : Nat := 0
  trigEdge : Option Nat := none
  hsAt    : Option Nat := none
  skips   : Nat := 0
deriving DecidableEq, Repr

/-- A ring stream of samples (R401, R412): the frames in its buffer, each with the sequence number of its job, the jobs in order (elem counts frames
read, done frames played, phase is 1 once reading has ended), its state 0 idle, 1 filling, 2 playing, 3 ramping, the ticks left
of the ramp and the level it falls from, the time the fill began, and the fraction of an input frame owed to the next tick. -/
structure Feed where
  frames : List (Nat × List Int) := []
  jobs   : List Job := []
  st     : Nat := 0
  ramp   : Nat := 0
  level  : List Int := []
  first  : Nat := 0
  owed   : Nat := 0
deriving DecidableEq, Repr

/-- A surface: what the identity element gave (roles and orders by channel, the reference counts, factory resonances as (f_res, Q, capacitance),
the certificate section and the digest input of R392), whether the certificate is under the root key, the challenge, the slot of the
newest wear record, the calibration since attach (0 none, 1 due, 2 running, 3 ended) and its channel, per channel the frequency in use, the
inactive and active blocks in a row and whether the block now running reached 12 V, a wear record due, whether its failure was told and since when it is retried,
whether the port is to go off after it, the record last written, and the stream with the level each channel was last driven at and the phase of its carrier, in 1 /
128,000 of a cycle (R389 to R406). -/
structure SurfSt where
  map     : List (Nat × Nat) := []
  refs    : Option (List Nat) := none
  res     : List (Nat × Nat × Nat) := []
  cert    : List Byte := []
  signed  : List Byte := []
  certOk  : Bool := false
  chal    : List Byte := []
  slot    : Nat := 1
  cal     : Nat := 0
  calCh   : Nat := 0
  fUse    : SMap Nat := []
  idle    : SMap Nat := []
  run     : SMap Nat := []
  hot     : SMap Nat := []
  wearDue : Bool := false
  wearTold : Bool := false
  wearAt  : Option Nat := none
  wrote   : List Byte := []
  leaving : Bool := false
  feed    : Feed := {}
  last    : List Int := []
  phase   : SMap Nat := []
deriving DecidableEq, Repr

/-- The haptic engine: the modelled rise of each of the 32 channels in µK, milliseconds of good conditions in a row, the end of each port's present
high-slew interval, energy not yet counted in µJ, whether a throttle episode stands and the ports it was told of (R405, R406). -/
structure HaptSt where
  rise    : SMap Int := []
  good    : Nat := 0
  slew    : SMap Nat := []
  energy  : Nat := 0
  episode : Bool := false
  told    : Nat := 0
deriving DecidableEq, Repr

/-- A contact (R378): its id, position, strength, area and the node of its peak. -/
structure Contact where
  id    : Nat
  x     : Nat
  y     : Nat
  area  : Nat
  power : Nat
  node  : Nat
deriving DecidableEq, Repr

/-- Touch on a surface: listen counts recorded at its start by frequency, the latest noise levels, the hop to make at the next scan, scans with noise and
whether it was told, the scan number, when scan 0 started, whether a scan runs and its configuration, self-test scans to come and whether the present scan is one,
rebase asked, baselines, raw counts and deltas of nodes then keys, suspects, excluded channels, contacts oldest first, contacts still to be
reported up, runs of the key debounce, keys changed since the last report, the report due and the one held, whether a refusal was recorded, and
the wake scan: when it last ran, baselines, scans of a hold with its first centroid, the centroids of a swipe, scans since it began and since a touch (R366
to R385). -/
structure TouchSt where
  listen  : List (List Nat) := []
  noise   : List Nat := []
  next    : Option Nat := none
  noisy   : Nat := 0
  told    : Bool := false
  scan    : Nat := 0
  scan0   : Nat := 0
  busy    : Bool := false
  cfg     : List Nat := []
  keyCfg  : List Nat := []
  tests   : Nat := 0
  testing : Nat := 0
  rebase  : Bool := false
  base    : List Nat := []
  raw     : List Nat := []
  delta   : List Int := []
  suspect : List Bool := []
  excl    : List Nat := []
  contacts : List Contact := []
  ups     : List Contact := []
  runs    : List Nat := []
  chg     : Nat := 0
  due     : Option (List Byte) := none
  held    : Option (List Byte) := none
  refused : Bool := false
  slept   : Bool := false
  wAt     : Option Nat := none
  wBase   : List Nat := []
  hold    : Nat := 0
  cent0   : Nat × Nat := (0, 1)
  path    : List (Nat × Nat) := []
  since   : Nat := 0
  gap     : Nat := 0
deriving DecidableEq, Repr

/-- The audio engine: both copies of the parameter set, the gain each channel uses (2 × source + channel, 192 + bus), channels waiting for theirs, the
last pre-gain sample of each, streams, look-ahead and limiter gain (over 2^32) of each output slot, the slots' output words, ports whose next
frame is 0, ports whose amplifier silence detection keeps on, when the last set was swapped in, and when each port last gave a sample at or above its level (R414 to
R420). -/
structure AudioSt where
  active  : SMap Nat := []
  staging : SMap Nat := []
  gains   : SMap Nat := []
  waits   : List Nat := []
  prev    : SMap Int := []
  feeds   : SMap Feed := []
  look    : SMap (List Int) := []
  lim     : SMap Nat := []
  out     : SMap Int := []
  zero    : Nat := 0
  awake   : Nat := 0
  loadAt  : Nat := 0
  loud    : SMap Nat := []
deriving DecidableEq, Repr

/-- The alarm generator, in the safety domain: when its pattern began, the pattern, one to follow with the time it does, from when the ramp of a tone cut short runs,
when the alarm ended, from when the TDM tone may sound, whether it holds AMP_EN0, and what the framer sends in the alarm slot (R423, R424). -/
structure AlarmSt where
  start   : Option Nat := none
  pattern : Nat := 0
  next    : Option (Nat × Nat) := none
  ended   : Option Nat := none
  stopAt  : Nat := 0
  tdmFrom : Nat := 0
  hold    : Bool := false
  tone    : Int := 0
deriving DecidableEq, Repr

/-- Power states and boot. Entries and exits: whether an entry has passed its commit point, wake sources latched since then in order of arrival, heads the entry has
blanked, whether it has paused the secure watchdog, the gesture recorded per surface (R86 to R89, R385). Supply: whether VIN is below (1) or above
(2) its thresholds, rails good in the order of R39, whether the 38.4 MHz reference and the 32.768 kHz crystal run, whether thermal shutdown holds the
main domain, and of each AVSBus rail the voltage it slews from and when it began (R33, R39, R96, R99, R103). Boot: whether the main, display
and safety domains are released from reset, whether boot privilege holds, whether the always-on domain still awaits its records, whether a copy has been selected since, whether the next main
stage is a cold start, the copy and boot-set digest the safety firmware last came from, the entry point of a loaded manager not yet released, the FL operation running with its
address and data, and the operating points the factory bank gave where they differ from R95 (R67 to R95). -/
structure PwrSt where
  commit  : Bool := false
  stepAt  : Nat := 0
  latched : List Nat := []
  blanked : Nat := 0
  swPause : Bool := false
  touch   : SMap Nat := []
  hot     : Bool := false
  vin     : Nat := 0
  rails   : Nat := 0
  osc     : Bool := true
  xtal    : Bool := true
  slewMv  : SMap Nat := []
  slewAt  : SMap Nat := []
  mainUp  : Bool := false
  dispUp  : Bool := false
  safeUp  : Bool := false
  priv    : Bool := true
  fresh   : Bool := true
  picked  : Bool := false
  cold    : Bool := false
  fw      : Option (Nat × Nat) := none
  entry   : Option Nat := none
  flOp    : Nat := 0
  flAddr  : Nat := 0
  flData  : List Byte := []
  opp     : SMap Nat := []
  encAt   : SMap Nat := []
deriving DecidableEq, Repr

/-- DEVTIME and the tick that drives it (R437, R438): ticks of 32.768 kHz since the always-on reset, reference cycles
since the tick in units of 8/9375 tick, and reference cycles since the tick; failed PTM dialogues in a row, the last accepted PPS edge, when the
master was selected, when the last PTM dialogue was, and the strobes made (R440, R444). -/
structure TimeSt where
  tick   : Nat := 0
  phase  : Nat := 0
  cycles : Nat := 0
  fails  : Nat := 0
  edge   : Option Nat := none
  since  : Nat := 0
  ptmAt  : Option Nat := none
  strobe : Nat := 0
deriving DecidableEq, Repr

/-- I2C controllers with a transfer in progress and the I2C_CTRL word each transfer was started with; of each UART its transmit FIFO (when each
byte leaves it, and the byte), when its line is free, and its receive FIFO; when each discrete input last changed its debounced state (R431,
R433, R436). -/
structure CtlSt where
  i2cBusy : Nat := 0
  i2cWord : SMap Nat := []
  uTx     : SMap (List (Nat × Nat)) := []
  uFree   : SMap Nat := []
  uRx     : SMap (List Nat) := []
  dinAt   : SMap Nat := []
deriving DecidableEq, Repr

/-- Why the block stops where the spec gives no effect. -/
inductive Fault where
  /-- A situation the spec calls undefined because a "must" was not met (R6). Raised by no meaning of this model. Safe. -/
  | brokenMust (rule : Nat)
deriving DecidableEq, Repr

/-- Why a command has no meaning. -/
inductive Refusal where
  /-- Raised by an arm of exec whose command has no meaning yet. Safe: nothing is claimed of it. -/
  | notModelled (mnemonic : String)
deriving DecidableEq, Repr

/-- The whole state of the block. -/
structure State where
  variant : Variant := .a96
  pending : List Instr := []
  resp    : Resp := {}
  cpl     : Option Completion := none
  regs    : SMap Nat := []
  act     : SMap Nat := []
  shadow  : SMap Nat := []
  staged  : SMap Nat := []
  parts   : SMap Nat := []
  latch   : SMap Nat := []
  stage   : SMap Nat := []
  ctr     : SMap Nat := []
  snap    : SMap Nat := []
  sent    : List Msg := []
  free    : Nat := 0
  dram    : List Host.Cell := []
  basin   : List Host.Cell := []
  flash   : List Host.Cell := []
  otp     : List Host.Cell := []
  pins    : Pins := {}
  pot     : PotSt := {}
  inst    : InstSt := {}
  time    : TimeSt := {}
  events  : List EvRec := []
  evSeq   : SMap Nat := []
  faults  : List FaultSig := []
  mem     : DramSt := {}
  rings   : RingSt := {}
  world   : WorldSt := {}
  gfx     : GfxSt := {}
  comp    : CompSt := {}
  heads   : SMap HeadSt := []
  safe    : SafeSt := {}
  links   : SMap LinkSt := []
  caps    : SMap CapSt := []
  pwr     : PwrSt := {}
  surf    : SMap SurfSt := []
  hapt    : HaptSt := {}
  touch   : SMap TouchSt := []
  audio   : AudioSt := {}
  alarm   : AlarmSt := {}
  ctl     : CtlSt := {}
deriving DecidableEq, Repr

/-- The factory bank as manufacture leaves it (R71): ordering code, layout revision, variant word, and a record list that holds only its end. -/
def factoryBank : List Host.Cell :=
  [(0x0, 0x4E), (0x1, 0x52), (0x2, 0x57), (0x3, 0x2D), (0x4, 0x38), (0x5, 0x38), (0x6, 0x34), (0x7, 0x30), (0x8, 0x2D), (0x9, 0x41), (0xA, 0x39),
   (0xB, 0x36), (0x20, 0x01), (0x30, 0x60), (0x31, 0x04), (0x33, 0x55), (0x400, 0xFF), (0x401, 0xFF)]

/-- The block right after a VIN power-on reset. -/
def State.reset : State := { otp := factoryBank }

end Sys2Proof.Machine
end

