-- ==== Sys2Proof/Machine/Ops.lean ====
section
/-! DEFINITION. The shared operations over register fields, counters, bus responses, page resets and shadow sets
(R51 to R67). Every command is built from these. -/

namespace Sys2Proof.Machine

/-- What a command answers. -/
abbrev Out := Host.Outcome State Fault Refusal

/-! ### Register fields -/

/-- Cell key of a register field: page, bank selected by an index register, offset and lowest bit, each within its range. -/
def cell (page bank off lo : Nat) : Nat := ((page * 65536 + bank % 65536) * 4096 + off % 4096) * 64 + lo % 64

/-- Cell key of element j of a field on page i of its type, in bank b. -/
def Fld.key (f : Fld) (i j b : Nat) : Nat := cell (f.blk.page i) b (f.off + f.stride * j) f.lo

/-- Reset value of a field by its rule. -/
def Rst.val (r : Rst) (v : Variant) (i j b : Nat) : Nat :=
  match r with
  | .c n => n
  | .byVar va vb ve => match v with | .a96 => va | .a32 => vb | .e96 => ve
  | .byElem l => l.getD j 0
  | .byBank l => l.getD b 0
  | .bankIs k => if b = k then 1 else 0
  | .elemIs k => if j = k then 1 else 0
  | .half => i / 2
  | .bitHalf => 2 ^ (i / 2)

/-- The present value of a field: for an RWS field, its active value (R61). -/
def State.rd (s : State) (f : Fld) (i : Nat := 0) (j : Nat := 0) (b : Nat := 0) : Nat :=
  mget (if f.acc = .rws then s.act else s.regs) (f.key i j b) (f.rst.val s.variant i j b)

/-- Set a field, for an RWS field its active value, to the low bits of v. -/
def State.wr (s : State) (f : Fld) (v : Nat) (i : Nat := 0) (j : Nat := 0) (b : Nat := 0) : State :=
  if f.acc = .rws then
    { s with act := mset s.act (f.key i j b) (v % 2 ^ f.len) (f.rst.val s.variant i j b) }
  else
    { s with regs := mset s.regs (f.key i j b) (v % 2 ^ f.len) (f.rst.val s.variant i j b) }

/-- The shadow of an RWS field (R61). -/
def State.rdSh (s : State) (f : Fld) (i : Nat := 0) (j : Nat := 0) (b : Nat := 0) : Nat :=
  mget s.shadow (f.key i j b) (f.rst.val s.variant i j b)

/-- Set the shadow of an RWS field. -/
def State.wrSh (s : State) (f : Fld) (v : Nat) (i : Nat := 0) (j : Nat := 0) (b : Nat := 0) : State :=
  { s with shadow := mset s.shadow (f.key i j b) (v % 2 ^ f.len) (f.rst.val s.variant i j b) }

/-- What a read of the register returns for a field: the shadow of an RWS field, the value of any other (R51). -/
def State.rdReg (s : State) (f : Fld) (i j b : Nat) : Nat :=
  if f.acc = .rws then s.rdSh f i j b else s.rd f i j b

/-- Set what a write of the register reaches: the shadow of an RWS field, the value of any other (R51). -/
def State.wrReg (s : State) (f : Fld) (v : Nat) (i j b : Nat) : State :=
  if f.acc = .rws then s.wrSh f v i j b else s.wr f v i j b

/-- 1 for true, 0 for false. -/
def b2n (b : Bool) : Nat := if b then 1 else 0

/-- Test of a one-bit field. -/
def State.on (s : State) (f : Fld) (i : Nat := 0) (j : Nat := 0) (b : Nat := 0) : Bool := s.rd f i j b != 0

/-- Set a one-bit field from a Bool. -/
def State.wrB (s : State) (f : Fld) (v : Bool) (i : Nat := 0) (j : Nat := 0) (b : Nat := 0) : State :=
  s.wr f (if v then 1 else 0) i j b

/-- Bit n of a mask. -/
def bit (m n : Nat) : Bool := m.testBit n

/-- A mask with bit n set. -/
def setBit (m n : Nat) : Nat := m ||| 2 ^ n

/-- A mask with bit n cleared. -/
def clrBit (m n : Nat) : Nat := if m.testBit n then m - 2 ^ n else m

/-- Bits lo+len-1 : lo of a number. -/
def bits (v lo len : Nat) : Nat := (v >>> lo) % 2 ^ len

/-- A number of the given width read as a two's complement integer. -/
def toSigned (w v : Nat) : Int := if v % 2 ^ w < 2 ^ (w - 1) then (v % 2 ^ w : Nat) else ((v % 2 ^ w : Nat) : Int) - 2 ^ w

/-- The two's complement bits of an integer in the given width. -/
def ofSigned (w : Nat) (x : Int) : Nat := (x % (2 ^ w : Nat)).toNat

/-- v held between lo and hi. -/
def clamp (lo hi v : Nat) : Nat := max lo (min hi v)

/-! ### Counters (R64) -/

/-- Counter key: page index and counter number. -/
def ctrKey (page j : Nat) : Nat := page * 128 + j % 128

/-- Live counter j of a page. -/
def State.counter (s : State) (b : Blk) (i j : Nat) : Nat := mget s.ctr (ctrKey (b.page i) j) 0

/-- Add to live counter j of a page; counters wrap from 2^64 - 1 to 0 (R64). -/
def State.count (s : State) (b : Blk) (i j : Nat) (n : Nat := 1) : State :=
  { s with ctr := mset s.ctr (ctrKey (b.page i) j) ((s.counter b i j + n) % 2 ^ 64) 0 }

/-! ### Bus responses -/

/-- The access is answered normally. -/
def State.okResp (s : State) (data : Nat := 0) : State := { s with resp := ⟨true, data⟩ }

/-- The access gets an error response; a read returns 0. -/
def State.errResp (s : State) : State := { s with resp := ⟨false, 0⟩ }

/-! ### Resets of pages (R55, R67) -/

/-- First cell key of a page from an offset in bank 0. -/
def pageLo (page : Nat) : Nat := cell page 0 0 0

/-- Whether a cell key lies at offsets lo to hi - 1 of a page. -/
def inPage (page lo hi k : Nat) : Bool :=
  decide (pageLo page ≤ k) && decide (k < pageLo (page + 1)) &&
    decide (lo ≤ k / 64 % 4096) && decide (k / 64 % 4096 < hi)

/-- Forget the offsets lo to hi - 1 of a page in one register map: they read as at reset again. -/
def dropOffs (m : SMap Nat) (page lo hi : Nat) : SMap Nat := m.filter (fun e => !inPage page lo hi e.1)

/-- Every register, shadow, staged set, latch, counter and snapshot of pages lo to hi - 1 at its reset value (R67). -/
def State.resetPages (s : State) (lo hi : Nat) : State :=
  { s with
    regs := mdrop s.regs (pageLo lo) (pageLo hi)
    act := mdrop s.act (pageLo lo) (pageLo hi)
    shadow := mdrop s.shadow (pageLo lo) (pageLo hi)
    staged := mdrop s.staged (pageLo lo) (pageLo hi)
    latch := mdrop s.latch (lo * 512) (hi * 512)
    stage := mdrop s.stage (lo * 512) (hi * 512)
    ctr := mdrop s.ctr (ctrKey lo 0) (ctrKey hi 0)
    snap := mdrop s.snap (ctrKey lo 0) (ctrKey hi 0) }

/-! ### Shadow sets (R61) -/

/-- Copy a page's shadow set into the staged set, where it waits for its boundary. -/
def State.stageSet (s : State) (b : Blk) (i : Nat) : State :=
  ({ s with staged := mreplace s.staged s.shadow (pageLo (b.page i)) (pageLo (b.page i + 1)) }).wr (HDR.dirty b) 0 i

/-- Copy a page's active values into its shadows (COMMIT.revert). -/
def State.revertSet (s : State) (b : Blk) (i : Nat) : State :=
  ({ s with shadow := mreplace s.shadow s.act (pageLo (b.page i)) (pageLo (b.page i + 1)) }).wr (HDR.dirty b) 0 i

/-- Make active the staged registers of a page whose cell keys the test picks. -/
def State.applyPart (s : State) (b : Blk) (i : Nat) (pick : Nat → Bool) : State :=
  let lo := pageLo (b.page i); let hi := pageLo (b.page i + 1)
  let sel := fun k => decide (lo ≤ k) && decide (k < hi) && pick k
  { s with act := (s.staged.filter (fun e => sel e.1)).foldl (fun m e => mput m e.1 e.2)
                    (s.act.filter (fun e => !sel e.1)) }

end Sys2Proof.Machine
end

