-- ==== Sys2Proof/Machine/Flags.lean ====
section
/-! DEFINITION. Status flags: events and page interrupts, error records and refusals, and the end of a COMMIT
(R57 to R61, R124, R449). -/

namespace Sys2Proof.Machine

/-- Whether the manager's rings are served: not from step E2 of an entry on, until the device is back in Run (R86). -/
def State.mgrServed (s : State) : Bool :=
  decide (s.rd PWR.STATE.state ≤ 1 ∨ (s.rd PWR.STATE.state = 5 ∧ s.rd PWR.STATE.step ≤ 1))

/-- Whether entries of an instance's rings are fetched and started: it is Running, and the manager's outside an entry (R86, R118). -/
def State.served (s : State) (k : Nat) : Bool := if k = 0 then s.mgrServed else s.rd MGR.INST_STAT.state (b := k) == 2

/-- State of a guest system (R118): the manager's is always Running. -/
def State.instState (s : State) (k : Nat) : Nat := if k = 0 then 2 else s.rd MGR.INST_STAT.state (b := k)

/-! ### Interrupt messages (R58, R124) -/

/-- EV_PEND of a page: EV_RAW AND EV_MASK (R57). -/
def State.evPend (s : State) (b : Blk) (i : Nat) : Nat := s.rd (HDR.ev_raw b) i &&& s.rd (HDR.ev_mask b) i

/-- Owner of a pin: GPIO 0 to 47, encoder pairs from 48, discrete inputs from 64 (R434). -/
def State.pinOwner (s : State) (i : Nat) : Nat := s.rd GPIO.PIN_OWNER.owner 0 i

/-- Whether any edge bit of a pin of o is set, which asks for an interrupt like a page event (R431). -/
def State.pinPend (s : State) (o : Nat) : Bool :=
  (List.range 48).any (fun i => s.on GPIO.GPIO_CFG.edge 0 i && decide (s.pinOwner i = o)) ||
    (List.range 32).any (fun k => s.on GPIO.DIN_CFG.edge 0 k && decide (s.pinOwner (64 + k) = o))

/-- Whether any page or pin owned by o holds an interrupt request (R58, R431). -/
def State.ownerPend (s : State) (o : Nat) : Bool :=
  s.pinPend o || allPages.any (fun p => decide (s.rd (HDR.owner p.1) p.2 = o) && (s.evPend p.1 p.2 != 0))

/-- The function mapped to an internal number k by VF_MAP, if any (R123). -/
def State.functionOf (s : State) (k : Nat) : Option Nat :=
  (List.range 64).find? (fun f => s.on MGR.VF_MAP.valid (b := f) && decide (s.rd MGR.VF_MAP.inst (b := f) = k))

/-- Send a message of a recipient: the manager and an internal guest by a write of data to its target, an external
host by an MSI-X vector (R124). -/
def State.notify (s : State) (o add : Nat) : State :=
  if o = 0xFE then { s with sent := s.sent ++ [.msi (s.rd MGR.MGR_IRQ_TARGET.addr) ((s.rd MGR.MGR_IRQ_DATA.data + add) % 2 ^ 32)] }
  else if o < 64 then
    match s.functionOf o with
    | some f => { s with sent := s.sent ++ [.msix f add] }
    | none => { s with sent := s.sent ++ [.msi (s.rd MGR.IRQ_TARGET.addr (b := o)) ((s.rd MGR.IRQ_DATA.data (b := o) + add) % 2 ^ 32)] }
  else s

/-- Send the page-event message of o if its OR of EV_PEND has gone from 0 (in old) to 1 (R124). -/
def State.irqEdge (s old : State) (o : Nat) : State :=
  if s.ownerPend o && !old.ownerPend o then s.notify o 0 else s

/-- An event occurs: its bit of EV_RAW is set, then its owner is interrupted if due (R57, R58). -/
def State.raise (s : State) (b : Blk) (i n : Nat) : State :=
  (s.wr (HDR.ev_raw b) (setBit (s.rd (HDR.ev_raw b) i) n) i).irqEdge s (s.rd (HDR.owner b) i)

/-! ### Error records (R59) -/

/-- Requester ID of the block itself, when no request caused the error. -/
def ridBlock : Nat := 0x100
/-- Requester ID of a device function (R107). -/
def ridDevice : Nat := 0xFC
/-- Requester ID of the safety island. -/
def ridSafety : Nat := 0xFD
/-- Requester ID of the manager. -/
def ridMgr : Nat := 0xFE

/-- ERR_CODE.requester of a requester ID (R59): a vale shows its parent. -/
def State.ridRequester (s : State) (rid : Nat) : Nat :=
  if rid < 64 then rid else if rid < 128 then s.rd WORLD.VALE_STAT.parent (b := rid - 64) else 0

/-- Record an error in a page: the first since the last clear is held, each is counted to 255, and EV_RAW.err is
set (R59). -/
def State.recErr (s : State) (b : Blk) (i code rid addr : Nat) : State :=
  let s1 :=
    if s.on (HDR.err_valid b) i then
      s.wr (HDR.err_count b) (min 255 (s.rd (HDR.err_count b) i + 1)) i
    else
      let internal := rid = ridBlock ∨ rid = ridDevice ∨ rid = ridSafety
      (((((((s.wr (HDR.err_valid b) 1 i).wr (HDR.err_internal b) (if internal then 1 else 0) i).wr
        (HDR.err_requester b) (if internal then 0 else s.ridRequester rid) i).wr
        (HDR.err_count b) 1 i).wr (HDR.err_code b) code i).wr (HDR.err_addr b) addr i).wr
        (HDR.err_req_id b) (if rid = ridBlock then 0 else rid) i)
  s1.raise b i 0

/-- Refuse an access: an error response and a record in the page (R449). -/
def State.refuse (s : State) (b : Blk) (i code rid addr : Nat) : State :=
  (s.recErr b i code rid addr).errResp

/-- Requester ID of a sender. -/
def Who.rid : Who → Nat
  | .mgr => 0xFE
  | .saf => 0xFD
  | .boot => 0xFD
  | .inst k _ => k.val
  | .host => 0xFF

/-! ### The end of a COMMIT (R61) -/

/-- The last part of a staged set has been applied: the set is gone, COMMIT.pending clears, commit_seq increments and
commit_done is set (R61). -/
def State.commitDone (s : State) (b : Blk) (i : Nat) : State :=
  let s1 := { s with staged := mdrop s.staged (pageLo (b.page i)) (pageLo (b.page i + 1)) }
  let s2 := s1.wr (HDR.pending b) 0 i
  let s3 := s2.wr (HDR.commit_seq b) (s2.rd (HDR.commit_seq b) i + 1) i
  s3.raise b i 1

/-- The whole staged set of a page becomes active in one step (R61). -/
def State.applySet (s : State) (b : Blk) (i : Nat) : State :=
  (s.applyPart b i (fun _ => true)).commitDone b i

end Sys2Proof.Machine
end

