-- ==== Sys2Proof/Machine/Operands.lean ====
section
/-! DEFINITION. The operand forms of a register access: which fields lie at an offset, how a word is assembled from
them and split over them, which bits are reserved, and the checks a write passes before it is performed
(R46 to R53, R449, R450). -/

namespace Sys2Proof.Machine

/-- Every field of page i of a type, header first. -/
def pageRows (b : Blk) (i : Nat) : List Fld := hdrRows b ++ blkRows b i

/-- If a field has bits in the register at an offset: its element number, and whether the offset is the HI half of a
LO/HI pair (R53). -/
def Fld.at (f : Fld) (off : Nat) : Option (Nat × Bool) :=
  if f.stride = 0 then
    if off = f.off then some (0, false) else if f.wide && off = f.off + 4 then some (0, true) else none
  else if f.off ≤ off ∧ (off - f.off) % f.stride = 0 ∧ (off - f.off) / f.stride < f.count then
    some ((off - f.off) / f.stride, false)
  else if f.wide ∧ f.off + 4 ≤ off ∧ (off - f.off - 4) % f.stride = 0 ∧ (off - f.off - 4) / f.stride < f.count then
    some ((off - f.off - 4) / f.stride, true)
  else none

/-- A field of the register at an offset, with its element and half. -/
structure Part where
  fld : Fld
  elt : Nat
  hi  : Bool

/-- The fields with bits in the register at an offset of a page. -/
def partsAt (b : Blk) (i off : Nat) : List Part :=
  (pageRows b i).filterMap (fun f => (f.at off).map (fun p => ⟨f, p.1, p.2⟩))

/-- The part of a 64-bit image that lies in this half of the register. -/
def Part.half (p : Part) (x : Nat) : Nat := if p.hi then (x >>> 32) % 2 ^ 32 else x % 2 ^ 32

/-- Mask of a part's bits in the 32-bit register. -/
def Part.bits (p : Part) : Nat := p.half ((2 ^ p.fld.len - 1) <<< p.fld.lo)

/-- The present register bits of a part, as a read returns them (write-only fields read 0, R51). -/
def State.partNow (s : State) (p : Part) (i b : Nat) : Nat :=
  if p.fld.acc = .wo then 0 else p.half (s.rdReg p.fld i p.elt b <<< p.fld.lo)

/-- A field value with this half's bits replaced by those of a written word. -/
def State.partNew (s : State) (p : Part) (i b v : Nat) : Nat :=
  let old := s.rdReg p.fld i p.elt b <<< p.fld.lo
  let m := p.bits
  let new := if p.hi then (old % 2 ^ 32) + ((v &&& m) <<< 32) else ((old >>> 32) <<< 32) + (v &&& m)
  (new >>> p.fld.lo) % 2 ^ p.fld.len

/-- Which bank of a banked register an access reaches: the value of the index register that selects it. -/
def State.bankOf (s : State) (b : Blk) (off : Nat) : Nat :=
  match b with
  | .mgr =>
    if off = 0x108 then s.rd MGR.INST_SEL.inst
    else if off = 0x164 then s.rd MGR.INST_SEL.inst * 256 + s.rd MGR.VIEW_INDEX.slot (b := s.rd MGR.INST_SEL.inst)
    else if 0x110 ≤ off ∧ off ≤ 0x178 then s.rd MGR.INST_SEL.inst
    else if off = 0x184 then s.rd MGR.VF_INDEX.function
    else 0
  | .world => if off = 0x108 ∨ off = 0x11C ∨ (0x120 ≤ off ∧ off ≤ 0x13C) then s.rd WORLD.VALE_SEL.vale else 0
  | .dramq =>
    if 0x104 ≤ off ∧ off ≤ 0x114 then s.rd DRAMQ.PORT_SEL.port
    else if off = 0x140 then s.rd DRAMQ.RES_INST.inst else 0
  | .rsched => if 0x154 ≤ off ∧ off ≤ 0x160 then s.rd RSCHED.INST_SEL.inst else 0
  | .gfx =>
    if 0x11C ≤ off ∧ off ≤ 0x128 then s.rd GFX.CTX_SEL.ctx
    else if off = 0x130 then s.rd GFX.CREDIT_SEL.inst else 0
  | .audio => if 0x124 ≤ off ∧ off ≤ 0x130 then s.rd AUDIO.STRM_SEL.stream else 0
  | .clk => if 0x1A4 ≤ off ∧ off ≤ 0x1A8 then s.rd CLK.DOM_INDEX.domain else 0
  | _ => 0

/-- The bank of a banked register on page i: composition pages select layers and coefficients on their own page. -/
def State.bankAt (s : State) (b : Blk) (i off : Nat) : Nat :=
  if b = .comp then
    if 0x144 ≤ off ∧ off ≤ 0x150 then s.rd COMP.LAYER_SEL.layer i
    else if off = 0x134 then
      ((s.rd COMP.COEF_SEL.bank i * 2 + s.rd COMP.COEF_SEL.table i) * 64 + s.rd COMP.COEF_SEL.phase i) * 4 +
        s.rd COMP.COEF_SEL.word i
    else 0
  else s.bankOf b off

/-- The defined bits of the register at an offset: the union of its fields, and those of the header registers that
are computed on reading (R52, R55, R57). -/
def definedBits (b : Blk) (i off : Nat) : Nat :=
  if off = 0x000 then 0x00FFFFFF
  else if 0x800 ≤ off then 2 ^ 32 - 1
  else if off = 0x004 then 0xFFFFFF03
  else if off = 0x010 ∨ off = 0x014 ∨ off = 0x018 ∨ off = 0x01C then b.evMask i
  else if off = 0x024 then 0xF07
  else (partsAt b i off).foldl (fun m p => m ||| p.bits) 0

/-- Whether an offset of a page is defined (R50, R55, R62 to R64). -/
def offsetDefined (b : Blk) (i off : Nat) : Bool :=
  if off < 0x038 then true
  else if off < 0x100 then false
  else if off < 0x800 then !(partsAt b i off).isEmpty || (b == .mgr && decide (0x400 ≤ off ∧ off < 0x50C))
  else true

/-- Whether a sender may write a field (R47, R49, R78). Boot privilege writes every field (R76). -/
def mayWrite (w : Who) (b : Blk) (f : Fld) : Bool :=
  match w with
  | .boot => true
  | .mgr => f.perm == .own || f.perm == .mgr || f.perm == .mgrSaf
  | .saf => f.perm == .saf || f.perm == .mgrSaf
  | .inst _ _ => f.perm == .own
  | .host =>
    b == .boot && (f == BOOT.FL_ADDR.addr || f == BOOT.FL_OP.op || f == BOOT.FL_BUF.word || f == BOOT.RST_CTRL.main_reset
      || f == BOOT.RST_CTRL.key)

/-- Whether the write would change a part or start its action (R450). -/
def State.wouldAct (s : State) (p : Part) (i b v : Nat) : Bool :=
  match p.fld.acc with
  | .rw | .rws => decide ((v &&& p.bits) ≠ s.partNow p i b)
  | .w1c | .w1s | .sc | .wo => decide (v &&& p.bits ≠ 0)
  | .ro | .rol => false

/-- In a view PG_OWNER and LOCK are read only (R47): a write leaves them as they are. -/
def viewReadOnly (w : Who) (off : Nat) : Bool :=
  match w with
  | .inst _ _ => off == 0x00C || off == 0x034
  | _ => false

/-- What the checks of a write answer: refused, with the state the refusal leaves, or to be performed. -/
inductive Chk where
  | bad (s : State)
  | good (s : State)

/-- Continue with a write that passed its checks. -/
def Chk.andThen (c : Chk) (k : State → State) : State :=
  match c with
  | .bad s => s
  | .good s => k s

/-- Whether LOCK of a page binds the sender: it is set, and the sender has no boot privilege (R63, R76). -/
def State.lockedFor (s : State) (w : Who) (b : Blk) (i : Nat) : Bool :=
  b.lockable && s.on (HDR.lock b) i && w != .boot

/-- The code a word written to a defined register is refused with, by what the write would change in its defined bits (R52, R450). -/
def State.wordBad (s : State) (w : Who) (b : Blk) (i off v : Nat) : Option Nat :=
  let bank := s.bankAt b i off
  let acts := (partsAt b i off).filter (fun p => s.wouldAct p i bank (v &&& definedBits b i off))
  if viewReadOnly w off then none
  else if s.lockedFor w b i && acts.any (fun p => p.fld.lockd) then some Code.REG_LOCKED
  else if acts.any (fun p => !mayWrite w b p.fld) then some Code.REG_PERM
  else none

/-- Whether a sender may write some field of the register at an offset (R450). -/
def writesAny (w : Who) (b : Blk) (i off : Nat) : Bool :=
  (partsAt b i off).any (fun p => p.fld.acc != .ro && p.fld.acc != .rol && mayWrite w b p.fld)

/-- The checks of a word written to a defined register: permission and lock (R450), then reserved bits, which are recorded and ignored
(R52). Of a register of which the sender may write no field, nothing is performed, with a normal response (R450). -/
def State.checkWord (s : State) (w : Who) (b : Blk) (i off v : Nat) : Chk :=
  match s.wordBad w b i off v with
  | some c => .bad (s.refuse b i c w.rid off)
  | none =>
    let t := (if v &&& (2 ^ 32 - 1 - definedBits b i off) ≠ 0 then s.recErr b i Code.REG_RESERVED w.rid off else s).okResp
    if writesAny w b i off then .good t else .bad t

/-- The page a view slot shows, if it is filled: page index and whether it may be written (R47, R125). -/
def State.viewSlot (s : State) (k slot : Nat) : Option (Nat × Bool) :=
  if s.on MGR.VIEW_ENTRY.valid (b := k * 256 + slot) then
    some (s.rd MGR.VIEW_ENTRY.page (b := k * 256 + slot), s.on MGR.VIEW_ENTRY.write (b := k * 256 + slot))
  else none

/-- Record a refused or unbacked memory-map access in POT, count it for its requester and set denied (R44, R112,
R117). -/
def State.potRefuse (s : State) (code rid addr : Nat) : State :=
  let c := if rid = 0xFE then 0 else if rid < 64 then rid else 63
  (((s.recErr .pot 0 code rid addr).count .pot 0 c).raise .pot 0 9).errResp

/-- Base address of a guest's window (R44). -/
def windowBase (k : Nat) : Nat := 0x3100000000 + k * 0x100000

/-- Address a sender uses for an offset of a page: the manager's view, or its view slot (R46, R48). -/
def Who.addr (w : Who) (b : Blk) (i off : Nat) : Nat :=
  match w with
  | .inst k slot => windowBase k.val + 0x20000 + slot.val * 0x1000 + off
  | .host => off
  | _ => 0x3000000000 + b.page i * 0x1000 + off

/-- Whether a sender reaches a page, and with a write: views must be granted, read-write for a write, and their
guest Running (R47, R49, R118, R125); in the recovery state the host reaches BOOT alone (R78). A slot that shows
another page does not reach this one. While RESET_N is low nothing answers (R38); the boot ROM's privilege ends with step 9 of R79. -/
def State.reach (s : State) (w : Who) (b : Blk) (i off : Nat) (write : Bool) : Chk :=
  if !s.pins.resetN then .bad s.errResp else
  match w with
  | .mgr | .saf => .good s
  | .boot => if s.pwr.priv then .good s else .bad s.errResp
  | .host => if b = .boot ∧ s.on BOOT.BOOT_STAT.recovery then .good s else .bad s.errResp
  | .inst k slot =>
    match s.viewSlot k.val slot.val with
    | none => .bad (s.potRefuse Code.POT_UNBACKED k.val (w.addr b i off))
    | some (pg, rw) =>
      if s.instState k.val = 0 then .bad (s.potRefuse Code.POT_UNBACKED k.val (w.addr b i off))
      else if pg ≠ b.page i then .bad s.errResp
      else if s.instState k.val ≠ 2 then .bad (s.refuse b i Code.INST_NOT_RUNNING k.val off)
      else if write && !rw then .bad (s.refuse b i Code.REG_PERM k.val off)
      else .good s

/-- All checks of a 32-bit write of v to an offset of a page: reach, mapping (R50, R62, R63), then those of the word. -/
def State.checkWrite (s : State) (w : Who) (b : Blk) (i off v : Nat) : Chk :=
  match s.reach w b i off true with
  | .bad t => .bad t
  | .good _ =>
    if off % 4 ≠ 0 then .bad (s.refuse b i Code.REG_SIZE w.rid off)
    else if !offsetDefined b i off then .bad (s.refuse b i Code.REG_UNMAPPED w.rid off)
    else if off = 0x020 ∧ !b.shadowed then .bad (s.refuse b i Code.REG_UNMAPPED w.rid off)
    else if off = 0x034 ∧ !b.lockable ∧ v % 2 = 1 ∧ !viewReadOnly w off then .bad (s.refuse b i Code.REG_UNMAPPED w.rid off)
    else s.checkWord w b i off v

/-- A write of SWDT other than of SWDT_KICK breaks a kick (R148). -/
def State.breakKick (s : State) (b : Blk) (off : Nat) : State :=
  if b = .swdt ∧ off ≠ 0x10C then { s with world := { s.world with kick := false } } else s

/-- A checked write, continued by the command's own effect. -/
def State.onWrite (s : State) (w : Who) (b : Blk) (i off v : Nat) (k : State → State) : State :=
  (s.checkWrite w b i off v).andThen (fun t => k (t.breakKick b off))

/-- Perform a word on the fields of a register by their access types (R51); a write to a shadow sets dirty (R61).
WO and SC fields store nothing: their command acts. -/
def State.storeWord (s : State) (b : Blk) (i off v : Nat) : State :=
  let bank := s.bankAt b i off
  (partsAt b i off).foldl (fun t p =>
    match p.fld.acc with
    | .rw => t.wr p.fld (t.partNew p i bank v) i p.elt bank
    | .rws => (t.wrSh p.fld (t.partNew p i bank v) i p.elt bank).wr (HDR.dirty b) 1 i
    | .w1c => t.wr p.fld ((t.partNow p i bank &&& (2 ^ 32 - 1 - v) &&& p.bits) >>> p.fld.lo) i p.elt bank
    | .w1s => t.wr p.fld ((t.partNow p i bank ||| (v &&& p.bits)) >>> p.fld.lo) i p.elt bank
    | _ => t) s

end Sys2Proof.Machine
end

