-- ==== Sys2Proof/Machine/Reports.lean ====
section
/-! DEFINITION. Time, event records and the safety fault line: how an occurrence is reported (R216 to R218, R437). -/

namespace Sys2Proof.Machine

/-- DEVTIME in nanoseconds (R437): whole ticks, then 26 ns a reference cycle and 1 ns more on every 24th, held below
the next tick. -/
def State.now (s : State) : Nat :=
  min (s.time.tick * 1000000000 / 32768 + s.time.cycles * 26 + s.time.cycles / 24)
    ((s.time.tick + 1) * 1000000000 / 32768 - 1)

/-- Whether a time has passed since another, in ns. -/
def State.past (s : State) (since ns : Nat) : Bool := decide (since + ns ≤ s.now)

/-- A delay in ms that a register holds, in ns. -/
def ms (n : Nat) : Nat := n * 1000000

/-- Generate an event record for a recipient, from page i of a block type: its sequence number counts every event
generated for it (R217). The record waits to be delivered. Page owner 0xFF and the safety island have no event queue;
the manager's queue is that of instance 0. -/
def State.event (s : State) (recipient : Nat) (b : Blk) (i code detail : Nat) : State :=
  let o := if recipient = 0xFE then 0 else recipient
  if o < 64 then
    { s with
      events := s.events ++ [⟨o, code, b.typeCode * 256 + i, detail % 2 ^ 32, mget s.evSeq o 0, s.now, false⟩]
      evSeq := mset s.evSeq o ((mget s.evSeq o 0 + 1) % 2 ^ 32) 0 }
  else s

/-- Detail of an event record: the unit in bits 7:0, the code's own value in bits 31:8 (R217). -/
def evDetail (unit val : Nat) : Nat := unit % 256 + (val % 2 ^ 24) * 256

/-- An event delivered to the owner of the unit's page (R216). -/
def State.eventPage (s : State) (b : Blk) (i code unit val : Nat) : State :=
  s.event (s.rd (HDR.owner b) i) b i code (evDetail unit val)

/-- Who owns a layer: the guest whose allocation names it, else the manager (R254, R451). -/
def State.layerOwner (s : State) (h l : Nat) : Nat :=
  match (List.range 64).find? (fun k => decide (0 < k) && s.instState k != 0 && bit (s.rd MGR.ALLOC_LAYER.layers (j := h) (b := k)) l) with
  | some k => k
  | none => 0xFE

/-- Recipients of an event concerning a head: every owner of a layer on it and the owner of its page (R216). -/
def State.headRecipients (s : State) (h : Nat) : List Nat :=
  ((List.range 16).map (s.layerOwner h) ++ [s.rd (HDR.owner .head) h]).eraseDups

/-- An event concerning a head, found by page i of a block type (R216, R217). -/
def State.eventHead (s : State) (h : Nat) (b : Blk) (i code unit val : Nat) : State :=
  (s.headRecipients h).foldl (fun t o => t.event o b i code (evDetail unit val)) s

/-- A signal takes its place on the safety fault line: in order of detection, and in block-type order among those of one cycle (R223). -/
def faultInsert (g : FaultSig) : List FaultSig → List FaultSig
  | [] => [g]
  | x :: t => if x.time = g.time ∧ g.blk < x.blk then g :: x :: t else x :: faultInsert g t

/-- Signal the safety fault line (R216). -/
def State.faultLine (s : State) (code : Nat) (b : Blk) (i heads : Nat) : State :=
  { s with faults := faultInsert ⟨code, b.typeCode, i, heads, s.now⟩ s.faults }

end Sys2Proof.Machine
end

