-- ==== Sys2Proof/Machine/Mem.lean ====
section
/-! DEFINITION. Memory: the bytes of DRAM and what they read as before anything is written, the page owner table held
in them (R109, R110), the check of every access (R2, R44, R111, R112), and values in little-endian order (R5). -/

namespace Sys2Proof.Machine

/-- First address past usable DRAM (R2). -/
def Variant.dramTop : Variant → Nat
  | .a32 => 0x0800000000
  | _ => 0x1800000000

/-- POT:TABLE_BASE (R109). -/
def Variant.tableBase : Variant → Nat
  | .a32 => 0x07FF000000
  | _ => 0x17FD000000

/-- First address of the ring context table, next below the page owner table (R182). -/
def Variant.ringTable (v : Variant) : Nat := v.tableBase - 0x1000000

/-- The page owner table's entry of a page frame as the boot ROM writes it: the manager's, with sys on the device's
own tables (R109, R182). -/
def entryDefault (v : Variant) (pfn : Nat) : Nat :=
  if v.ringTable ≤ pfn * 4096 ∧ pfn * 4096 < v.dramTop then 0x80FE else 0x00FE

/-- What a byte of DRAM reads as when nothing has written it since the last zeroing: 0, or a byte of the page owner
table as the boot ROM left it (R68, R109). -/
def dramDefault (v : Variant) (a : Nat) : Byte :=
  if v.tableBase ≤ a ∧ a < v.dramTop then
    BitVec.ofNat 8 (entryDefault v ((a - v.tableBase) / 2) >>> (8 * (a % 2)))
  else 0

/-- One byte of DRAM. -/
def State.byteAt (s : State) (a : Nat) : Byte := mget s.dram a (dramDefault s.variant a)

/-- Write one byte of DRAM. -/
def State.setByte (s : State) (a : Nat) (v : Byte) : State :=
  { s with dram := mset s.dram a v (dramDefault s.variant a) }

/-- n bytes of DRAM from an address. -/
def State.rdBytes (s : State) (a n : Nat) : List Byte := (List.range n).map (fun k => s.byteAt (a + k))

/-- Write bytes to DRAM from an address up. -/
def State.wrBytes (s : State) (a : Nat) : List Byte → State
  | [] => s
  | v :: t => (s.setByte a v).wrBytes (a + 1) t

/-- The value of bytes in little-endian order (R5). -/
def leVal : List Byte → Nat
  | [] => 0
  | v :: t => v.toNat + 256 * leVal t

/-- The n bytes of a value in little-endian order (R5). -/
def leBytes : Nat → Nat → List Byte
  | 0, _ => []
  | n + 1, v => BitVec.ofNat 8 v :: leBytes n (v / 256)

/-- A little-endian value of n bytes in DRAM. -/
def State.rdMem (s : State) (a n : Nat) : Nat := leVal (s.rdBytes a n)

/-- Write a little-endian value of n bytes to DRAM. -/
def State.wrMem (s : State) (a n v : Nat) : State := s.wrBytes a (leBytes n v)

/-- The page owner table's entry of a page frame (R109). -/
def State.potEntry (s : State) (pfn : Nat) : Nat := s.rdMem (s.variant.tableBase + 2 * pfn) 2

/-- Write the page owner table's entry of a page frame. -/
def State.setPotEntry (s : State) (pfn e : Nat) : State := s.wrMem (s.variant.tableBase + 2 * pfn) 2 e

/-- Zero a page with valid ECC: its bytes and any poison go (R115). -/
def State.zeroPage (s : State) (pfn : Nat) : State :=
  { s with
    dram := mdrop s.dram (pfn * 4096) (pfn * 4096 + 4096)
    mem := { s.mem with poison := mdrop s.mem.poison (pfn * 64) (pfn * 64 + 64) } }

/-- Who issues a memory access: its requester ID, whether it comes from a hart, whether it is a device function's own, the fabric and DRAM
port it enters through, its page-policy hint, and whether it is a write of a critical capture ring (R107, R111, R159, R161, R165). -/
structure Req where
  id   : Nat
  hart : Bool := false
  dev  : Bool := false
  port : Nat := 14
  hint : Bool := true
  crit : Bool := false
deriving DecidableEq

/-- An engine acting for an owner through a port (R107, R161). -/
def reqFor (o port : Nat) (hint : Bool := true) : Req := { id := o, port := port, hint := hint }

/-! ### The port caches (R113, R116) -/

/-- Whether a port has acknowledged the invalidation of the running epoch: not later than 1 µs after step 1, when within that time is open. -/
def State.portAcked (s : State) (p : Nat) : Bool :=
  bit s.pot.acked p || decide (s.pot.since + (Config.ackDelay (s.rd POT.CMD_STAT.epoch) p).toNat ≤ s.now)

/-- Whether a port's cache holds the entry of a page frame. -/
def State.cached (s : State) (p pfn : Nat) : Bool := (mget s.pot.cache p []).contains pfn

/-- Key of what a port has taken from the table, or of a group's mask, since the running epoch wrote it. -/
def freshKey (p : Nat) : Nat := 32 + p

/-- Whether a port's cache holds the entry that a page frame had before the running epoch. -/
def State.stale (s : State) (p pfn : Nat) : Bool := s.cached p pfn && !(mget s.pot.cache (freshKey p) []).contains pfn

/-- The entry a check at a port uses: until the port acknowledges, the old one if its cache holds that, else the table's (R116 step 2). -/
def State.seenEntry (s : State) (p pfn : Nat) : Nat :=
  let old := mget s.pot.old pfn 0
  if old ≠ 0 ∧ s.stale p pfn ∧ !s.portAcked p then old else s.potEntry pfn

/-- Whether a port holds the mask that a group had before the running SHARE. -/
def State.staleMask (s : State) (p g : Nat) : Bool := bit (mget s.pot.groups p 0) g && !bit (mget s.pot.groups (freshKey p) 0) g

/-- The mask of a share group that a check at a port uses (R116, SHARE). -/
def State.seenMask (s : State) (p g : Nat) : Nat :=
  match s.pot.oldMask with
  | some (g', m) => if g' = g ∧ s.staleMask p g ∧ !s.portAcked p then m else mget s.pot.shareMask g 0
  | none => mget s.pot.shareMask g 0

/-- Whether a requester is a member of a share group as its port sees the group: the manager counts as number 0 (R110, R111). -/
def State.shareMember (s : State) (q : Req) (g : Nat) : Bool :=
  let m := s.seenMask q.port g
  if q.id = 0xFE then bit m 0 else decide (q.id < 64) && bit m q.id

/-- The check of an access to one page by its entry, in the order of R111; the code of the first condition that fails.
A device function reaches sys pages only (R107), a device initiator none, be it the manager's (R182). -/
def State.pageCheck (s : State) (q : Req) (write : Bool) (pfn : Nat) : Option Nat :=
  let e := s.seenEntry q.port pfn
  let sys := bit e 15
  if q.dev then (if sys then none else some Code.POT_DENIED)
  else if sys && !(decide (q.id = 0xFE) && q.hart && !write) then some Code.POT_DENIED
  else if q.id = 0xFF then some Code.POT_DENIED
  else if !(decide (q.id = e % 256) || (!write && bits e 8 4 != 0 && s.shareMember q (bits e 8 4))) then
    some Code.POT_DENIED
  else if bit e 13 && !q.hart then some Code.POT_DENIED
  else if bit e 14 then some Code.POT_SCRUB_PENDING
  else none

/-- Subchannel of a physical address (R152). -/
def subchannel (pa : Nat) : Nat := bits pa 8 3 ^^^ bits pa 19 3

/-- What a line of DRAM answers: an offline subchannel reads as poisoned and drops writes (R172), a poisoned line errors
on reads and on partial writes (R170). -/
def State.lineCheck (s : State) (write full : Bool) (line : Nat) : Option Nat :=
  if s.on DRAM.SUB_STAT.offline (subchannel (line * 64)) then
    some (if write then Code.DRAM_OFFLINE else Code.DRAM_POISON)
  else if mget s.mem.poison line 0 ≠ 0 ∧ !(write && full) then some Code.DRAM_POISON
  else none

/-- The first line of an access that gives no data, or takes none (R170, R172). -/
def State.lineFault (s : State) (write : Bool) (a len : Nat) : Option (Nat × Nat) :=
  (List.range ((a + len - 1) / 64 - a / 64 + 1)).findSome? (fun k =>
    let l := a / 64 + k
    (s.lineCheck write (decide (a ≤ l * 64) && decide (l * 64 + 64 ≤ a + len)) l).map (fun c => (c, max a (l * 64))))

/-- Whether a hart's access carries the tag of an instance that is not Running (R119). -/
def State.idleTag (s : State) (q : Req) : Bool := q.hart && decide (0 < q.id ∧ q.id < 64 ∧ s.instState q.id ≠ 2)

/-- The first failure of an access to len bytes at an address: by a guest not Running, unbacked, refused by the page owner table, or no data
from DRAM. The code comes with the address it belongs to. -/
def State.memFault (s : State) (q : Req) (write : Bool) (a len : Nat) : Option (Nat × Nat) :=
  let last := a + len - 1
  if len = 0 then none
  else if s.idleTag q then some (Code.INST_NOT_RUNNING, a)
  else if s.variant.dramTop ≤ a then some (Code.POT_UNBACKED, a)
  else
    match ((List.range (last / 4096 - a / 4096 + 1)).findSome? (fun k =>
        let p := a / 4096 + k
        if s.variant.dramTop ≤ p * 4096 then some (Code.POT_UNBACKED, p * 4096)
        else (s.pageCheck q write p).map (fun c => (c, max a (p * 4096))))) with
    | some r => some r
    | none => s.lineFault write a len

/-- Record a failed access where its code is recorded: POT for its refusals, DRAMn for its errors (R112, R170, R448). -/
def State.memRecord (s : State) (q : Req) (r : Nat × Nat) : State :=
  if r.1 = Code.DRAM_POISON ∨ r.1 = Code.DRAM_OFFLINE then
    (if r.1 = Code.DRAM_POISON then
      (s.recErr .dram (subchannel r.2) Code.DRAM_POISON q.id r.2).count .dram (subchannel r.2) 14
    else s)
  else
    let s1 := s.recErr .pot 0 r.1 q.id r.2
    if r.1 = Code.INST_NOT_RUNNING then s1
    else
      let c := if q.id = 0xFE then 0 else if q.id < 64 then q.id else 63
      (s1.count .pot 0 c).raise .pot 0 9

/-- Clear the poison of the lines that len bytes at an address fill whole (R170). -/
def State.clearPoison (s : State) (a len : Nat) : State :=
  let lo := (a + 63) / 64; let hi := (a + len) / 64
  if lo < hi then { s with mem := { s.mem with poison := mdrop s.mem.poison lo hi } } else s

/-- An engine writes bytes to memory that passed its check: full lines replace poison (R170). -/
def State.store (s : State) (a : Nat) (d : List Byte) : State := (s.wrBytes a d).clearPoison a d.length

end Sys2Proof.Machine
end

