-- ==== Sys2Proof/Machine/Traffic.lean ====
section
/-! DEFINITION. What an access to DRAM takes along its way: the entry of the page owner table in its port's cache (R113), tokens and class (R162 to
R165), the rows it finds and leaves open (R159), the commands its subchannel issues (R171) and the counters of ports and subchannels (R179, R180). -/

namespace Sys2Proof.Machine

/-! ### Ports (R161) -/

/-- Port of a hart's cluster. -/
def portHart (h : Nat) : Nat := h / 4
/-- Port of a graphics front-end (R227). -/
def portGfx (e : Nat) : Nat := 4 + e
/-- Port of a composition engine. -/
def portComp (n : Nat) : Nat := 6 + n
/-- Port of camera intake. -/
def portCam : Nat := 10
/-- Port of the DMA engines. -/
def portDma : Nat := 11
/-- Port of audio and haptic streams and touch reports. -/
def portStream : Nat := 12
/-- Port of the liveness test. -/
def portSafe : Nat := 13
/-- Port of the device's own functions. -/
def portDevice : Nat := 14
/-- Port of the PCI Express endpoint. -/
def portPcie : Nat := 15
/-- Port of Basin writeback. -/
def portWb : Nat := 16

/-- Port of a ring class's engine: graphics, composition, DMA, capture, and streams (R161, R183). -/
def portOf (cls engine : Nat) : Nat :=
  if cls = 0 then portGfx engine else if cls = 1 then portComp engine else if cls = 2 then portDma else if cls = 3 then portCam else portStream

/-! ### The page owner walk (R113, R116) -/

/-- A port drops from its cache what the running epoch changes. -/
def State.portDrop (s : State) (p : Nat) : State :=
  { s with pot := { s.pot with
      cache := mset s.pot.cache p ((mget s.pot.cache p []).filter (fun n => mget s.pot.old n 0 == 0)) []
      groups := match s.pot.oldMask with
        | some (g, _) => mset s.pot.groups p (clrBit (mget s.pot.groups p 0) g) 0
        | none => s.pot.groups
      acked := setBit s.pot.acked p } }

/-- A port that has acknowledged has dropped what the epoch changes. -/
def State.portSettle (s : State) (p : Nat) : State :=
  if s.pot.op ≠ 0 ∧ s.portAcked p ∧ !bit s.pot.acked p then s.portDrop p else s

/-- A port holds the mask of a group from now on, if it held none. -/
def State.groupIn (s : State) (p g : Nat) : State :=
  if g = 0 ∨ bit (mget s.pot.groups p 0) g then s
  else
    let add := fun (m : SMap Nat) k => mset m k (setBit (mget m k 0) g) 0
    { s with pot := { s.pot with groups := add (add s.pot.groups p) (freshKey p) } }

/-- A check at a port of one page: its entry is in the cache, or is read from the table and cached in place of the one used longest ago; a miss
counts (R113, R116, R117). -/
def State.walk (s0 : State) (p pfn : Nat) : State :=
  let s := s0.portSettle p
  let c := mget s.pot.cache p []
  let used := mset s.pot.cache p ((pfn :: c.filter (fun n => n != pfn)).take 1024) []
  let t := s.groupIn p (bits (s.seenEntry p pfn) 8 4)
  if c.contains pfn then { t with pot := { t.pot with cache := used } }
  else
    let new := mget used (freshKey p) []
    let fresh := if mget s.pot.old pfn 0 = 0 then new else pfn :: new.filter (fun n => n != pfn)
    ({ t with pot := { t.pot with cache := mset used (freshKey p) fresh [] } }).count .pot 0 66

/-! ### Buckets and class (R162 to R165) -/

/-- Bucket of a guest's class B reservation, after the 17 port buckets. -/
def instBucket (k : Nat) : Nat := 32 + k

/-- Rate of a bucket in units of 100 MB/s, which is a tenth of a byte per nanosecond. -/
def State.bucketRate (s : State) (k : Nat) : Nat :=
  if k < 32 then s.rd DRAMQ.PORT_RATE.rate (b := k) else s.rd MGR.ALLOC_BW.rate (b := k - 32)

/-- Depth of a bucket in tenths of a byte: PORT_BURST for a port (0 acts as 1), 10 µs at its rate and at least 4 KiB for
a guest (R162, R180). -/
def State.bucketDepth (s : State) (k : Nat) : Nat :=
  if k < 32 then max 1 (s.rd DRAMQ.PORT_BURST.kib (b := k)) * 10240
  else max 40960 (s.bucketRate k * 10000)

/-- Tokens missing from a bucket now, in tenths of a byte. -/
def State.bucketDeficit (s : State) (k : Nat) : Nat :=
  mget s.mem.deficit k 0 - s.bucketRate k * (s.now - mget s.mem.charged k 0)

/-- Bring a bucket up to now at the rate it has had (R162). -/
def State.bucketSettle (s : State) (k : Nat) : State :=
  { s with mem := { s.mem with deficit := mset s.mem.deficit k (s.bucketDeficit k) 0, charged := mset s.mem.charged k s.now 0 } }

/-- A bucket of a reservation that begins: full (R162). -/
def State.bucketFill (s : State) (k : Nat) : State :=
  { s with mem := { s.mem with deficit := mset s.mem.deficit k 0 0, charged := mset s.mem.charged k s.now 0 } }

/-- Whether a request the bucket charges is conforming: the bucket holds tokens (R162). -/
def State.bucketHolds (s : State) (k : Nat) : Bool := decide (s.bucketDeficit k < s.bucketDepth k)

/-- Take 64 bytes of tokens for a conforming request and count its traffic. -/
def State.bucketTake (s : State) (k port : Nat) : State :=
  { s with mem := { s.mem with
      deficit := mset s.mem.deficit k (s.bucketDeficit k + 640) 0
      charged := mset s.mem.charged k s.now 0
      conf := mset s.mem.conf k (mget s.mem.conf k 0 + 64) 0
      confPort := if k < 32 then s.mem.confPort else
        mset s.mem.confPort (k * 32 + port) (mget s.mem.confPort (k * 32 + port) 0 + 64) 0 } }

/-- Class of an accepted request and the charged state: 0 S, 1 D, 2 B, 3 E (R165). A broken reservation's requests are
accepted as E (R168). -/
def State.classify (s : State) (port rid : Nat) (write critical : Bool) : Nat × State :=
  let cls := s.rd DRAMQ.PORT_CFG.cls (b := port)
  let crit := !(s.on DRAMQ.PORT_CFG.critical_only (b := port)) || (write && critical)
  if cls ≠ 3 ∧ crit ∧ s.bucketHolds port then
    (if s.mem.broken.contains port then 3 else cls, s.bucketTake port port)
  else if 0 < rid ∧ rid < 64 ∧ s.rd MGR.ALLOC_BW.rate (b := rid) ≠ 0 ∧ s.bucketHolds (instBucket rid) then
    (if s.mem.broken.contains (instBucket rid) then 3 else 2, s.bucketTake (instBucket rid) port)
  else (3, s)

/-! ### Ranks and rows (R152, R159) -/

/-- Subchannel-local address: bits 10:8 removed (R152). -/
def localAddr (pa : Nat) : Nat := pa / 2048 * 256 + pa % 256

/-- Logical rank of a physical address (R152). -/
def State.logicalRank (s : State) (pa : Nat) : Nat := if s.variant = .a32 then 0 else bits (localAddr pa) 32 2

/-- Physical rank of a logical rank of a subchannel (R152). -/
def State.physRank (s : State) (n l : Nat) : Nat := bits (s.rd DRAM.RANK_MAP.map n) (2 * l) 2

/-- The physical rank that holds a physical address (R152). -/
def State.rankOf (s : State) (pa : Nat) : Nat := s.physRank (subchannel pa) (s.logicalRank pa)

/-- The spare physical rank of a subchannel. -/
def State.spareRank (s : State) (n : Nat) : Nat := bits (s.rd DRAM.RANK_MAP.map n) 6 2

/-- Lines of a logical rank on one subchannel: 4 GiB (R152). -/
def rankLines : Nat := 67108864

/-- Lines of the running copy that lie below its pointer: copy reads and writes together take 1.28 GB/s, 100 ns a line (R175). -/
def State.copyLine (s : State) (n : Nat) : Nat := min rankLines ((s.now - mget s.mem.copyAt n 0) / 100)

/-- The physical ranks a write to an address goes to: below the copy pointer of its logical rank the spare too (R176). -/
def State.writeRanks (s : State) (pa : Nat) : List Nat :=
  let n := subchannel pa; let l := s.logicalRank pa
  let both := decide (s.rd DRAM.SPARE_STAT.rank n = l) &&
    (s.rd DRAM.SPARE_STAT.state n == 2 || (s.rd DRAM.SPARE_STAT.state n == 1 && decide (localAddr pa % 2 ^ 32 / 64 < s.copyLine n)))
  s.rankOf pa :: (if both then [s.spareRank n] else [])

/-- Key of the bank an address lies in: subchannel, rank and bank. -/
def State.bankKey (s : State) (pa : Nat) : Nat := (subchannel pa * 4 + s.rankOf pa) * 64 + (Config.dramBank (localAddr pa)).toNat

/-- Whether an access now would find its row open: left open, and used within 64 tCK, which are 20 ns (R159). -/
def State.rowOpen (s : State) (pa : Nat) : Bool :=
  match mget s.mem.rows (s.bankKey pa) none with
  | some (r, t) => r == (Config.dramRow (localAddr pa)).toNat && decide (s.now < t + 20)
  | none => false

/-- Whether an access with this hint leaves its row open, by PORT_CFG.hint_mode (R159, R180). -/
def State.keepsOpen (s : State) (port : Nat) (hint : Bool) : Bool :=
  let m := s.rd DRAMQ.PORT_CFG.hint_mode (b := port)
  if m = 1 then false else if m = 2 then true else hint

/-- The row an access leaves in its bank. -/
def State.rowLeave (s : State) (pa port : Nat) (hint : Bool) : State :=
  let row := if s.keepsOpen port hint then some ((Config.dramRow (localAddr pa)).toNat, s.now) else none
  { s with mem := { s.mem with rows := mset s.mem.rows (s.bankKey pa) row none } }

/-! ### Commands (R171) -/

/-- A subchannel issues a command: no two in one tCK, which is 5/16 ns; the retry buffer keeps the last 64. -/
def State.issueCmd (s : State) (n op rank line : Nat) (data : List Byte) : State :=
  let old := mget s.mem.retry n []
  let t := match old.getLast? with
    | some c => max (c.time + 1) (s.now * 16 / 5)
    | none => s.now * 16 / 5
  let all := old ++ [⟨t, op, rank, line, data⟩]
  { s with mem := { s.mem with retry := mset s.mem.retry n (all.drop (all.length - 64)) [] } }

/-- The commands of one line access: on a row miss a precharge where another row is open, and an activate; then the read, or the write to each rank
that takes it. -/
def State.lineCmds (s : State) (pa : Nat) (write : Bool) (data : List Byte) : State :=
  let n := subchannel pa; let line := pa / 64
  let s1 := if s.rowOpen pa then s
    else
      let t := if (mget s.mem.rows (s.bankKey pa) none).isSome then s.issueCmd n 0 (s.rankOf pa) line [] else s
      t.issueCmd n 1 (s.rankOf pa) line []
  if write then (s.writeRanks pa).foldl (fun t r => t.issueCmd n 3 r line data) s1 else s1.issueCmd n 2 (s.rankOf pa) line []

/-! ### Traffic (R159, R171, R179, R180) -/

/-- One line is read or written through a port: counted, its commands issued, its row left. -/
def State.lineGo (s : State) (port : Nat) (hint : Bool) (pa : Nat) (write : Bool) (data : List Byte) : State :=
  let n := subchannel pa
  let s1 := ((s.count .dramq 0 port 64).count .dram n (if write then 1 else 0)).count .dram n (if s.rowOpen pa then 15 else 16)
  (s1.lineCmds pa write data).rowLeave pa port hint

/-- The lines that len bytes at an address touch. -/
def linesOf (a len : Nat) : List Nat := if len = 0 then [] else (List.range ((a + len - 1) / 64 - a / 64 + 1)).map (fun k => a / 64 + k)

/-- An access that passed its check goes through its port: each page walked, each line classified, charged and carried. Of a write the bytes stand
in memory already; one that does not fill a line reads it first (R170). -/
def State.carry (s : State) (q : Req) (write : Bool) (a len : Nat) : State :=
  let s1 := (linesOf a len).foldl (fun t l => if l = a / 64 ∨ l % 64 = 0 then t.walk q.port (l / 64) else t) s
  (linesOf a len).foldl (fun t l =>
    let u := (t.classify q.port q.id write q.crit).2
    let u1 := if write && !(decide (a ≤ l * 64) && decide (l * 64 + 64 ≤ a + len)) then u.lineGo q.port q.hint (l * 64) false [] else u
    u1.lineGo q.port q.hint (l * 64) write (if write then s.rdBytes (l * 64) 64 else [])) s1

/-- A checked read passes: it is carried. -/
def State.fetched (s : State) (q : Req) (a len : Nat) : State := s.carry q false a len

/-- Store bytes that passed their check, and carry them. -/
def State.put (s : State) (q : Req) (a : Nat) (d : List Byte) : State := (s.store a d).carry q true a d.length

/-- An engine's checked write: done, or nothing written and the failure recorded with its code. -/
def State.tryStore (s : State) (q : Req) (a : Nat) (d : List Byte) : State × Option (Nat × Nat) :=
  match s.memFault q true a d.length with
  | some r => (s.memRecord q r, some r)
  | none => (s.put q a d, none)

end Sys2Proof.Machine
end

