-- ==== Sys2Proof/Machine/Rings.lean ====
section
/-! DEFINITION. The ring scheduler's shared operations: contexts, fences, jobs and completion records (R182 to R202). -/

namespace Sys2Proof.Machine

/-! ### Contexts (R183 to R187) -/

/-- The context of a ring. -/
def State.ring (s : State) (r : Nat) : Ring := mget s.rings.ctx r {}

/-- Set the context of a ring. -/
def State.setRing (s : State) (r : Nat) (c : Ring) : State :=
  { s with rings := { s.rings with ctx := mset s.rings.ctx r c {} } }

/-- Instance of a ring ID (R183). -/
def ringInst (r : Nat) : Nat := r / 4096

/-- Requester ID an instance number acts with: the manager is 0xFE (R107). -/
def instRid (k : Nat) : Nat := if k = 0 then 0xFE else k

/-- Requester ID of a ring's world (R184, R188). -/
def State.ringRid (s : State) (r : Nat) : Nat :=
  if (s.ring r).world = 0 then instRid (ringInst r) else (s.ring r).world

/-- Entries of a ring (R184). -/
def Ring.entries (c : Ring) : Nat := 2 ^ (c.size + 4)

/-- Entry size of a ring type (R185). -/
def entrySize (type : Nat) : Nat := if type ≤ 3 then 64 else 32

/-- Jobs waiting in a ring (R188). -/
def Ring.waiting (c : Ring) : Nat := (c.tail + 2 ^ 24 - c.head) % 2 ^ 24

/-- The engine class of a ring type (R185). -/
def typeClass (type : Nat) : Option Nat :=
  match type with
  | 1 => some 0 | 2 => some 1 | 3 => some 2 | 4 => some 3 | 5 => some 4 | 6 => some 4 | 7 => some 0 | _ => none

/-- Engines of a class (R185). -/
def classEngines (cls : Nat) : Nat :=
  match cls with
  | 0 => 2 | 1 => 4 | 2 => 8 | 3 => 16 | 4 => 1 | _ => 0

/-- Whether a class is migratable (R185). -/
def classMigrates (cls : Nat) : Bool := cls == 0 || cls == 2 || cls == 3

/-- Whether a ring lies in its instance's quota; the manager has all 4,096 of its own (R183, R451). -/
def State.inQuota (s : State) (r : Nat) : Bool :=
  ringInst r == 0 || decide (r % 4096 < s.rd MGR.ALLOC_RINGS.count (b := ringInst r))

/-- Whether a DMA engine serves a ring of an instance and world (R145, R186). -/
def State.dmaServes (s : State) (n inst world : Nat) : Bool :=
  let o := s.rd WORLD.DMA_OWNER.owner (j := n)
  if world = 0 then
    (o == 0xFF && (inst == 0 || bit (s.rd MGR.ALLOC_DMA.engines (b := inst)) n)) || o == inst
  else o == world

/-- The checks of CTX_OP enable (R184, R186). -/
def State.enableOk (s : State) (r : Nat) : Bool :=
  let c := s.ring r
  let inst := ringInst r
  let q := s.ring (inst * 4096 + c.cq)
  decide (c.size ≤ 12) && (typeClass c.type == some c.cls) &&
  (if c.type = 7 then c.engine == 0 && c.target == 0 else
    decide (c.engine < classEngines c.cls) && q.enable && q.type == 7 && q.world == c.world) &&
  (c.world == 0 || (decide (64 ≤ c.world ∧ c.world < 128) && (c.type == 3 || c.type == 7) &&
    s.rd WORLD.VALE_STAT.state (b := c.world - 64) == 2 && s.rd WORLD.VALE_STAT.parent (b := c.world - 64) == inst)) &&
  (c.type != 3 || s.dmaServes c.engine inst c.world)

/-! ### Completion records (R198 to R200) -/

/-- Form a record for a ring: it is due in the ring's completion queue (R198, R199). -/
def State.record (s : State) (r kind : Nat) (final partly : Bool) (seq code detail info : Nat) : State :=
  let c := s.ring r
  { s with rings := { s.rings with recs := s.rings.recs ++
      [⟨r, kind, final, partly, seq, code, c.cls * 4096 + c.engine * 256, detail, s.now, info, false⟩] } }

/-- The completion queue a ring reports into. -/
def State.queueOf (s : State) (r : Nat) : Nat := ringInst r * 4096 + (s.ring r).cq

/-- Whether a ring has a record held for want of queue space: it starts no job (R200). -/
def State.stalled (s : State) (r : Nat) : Bool := s.rings.recs.any (fun e => e.ring == r && e.stalled)

/-- Whether a ring has records that are not yet visible. -/
def State.owesRecord (s : State) (r : Nat) : Bool := s.rings.recs.any (fun e => e.ring == r)

/-- A ring whose disable has been commanded reaches Disabled once its in-flight jobs have written their records; its
pin is released (R187, R192). -/
def State.tryDisable (s : State) (r : Nat) : State :=
  let c := s.ring r
  if c.st ≠ 0 ∧ c.enable = false ∧ c.inflight = 0 ∧ !s.owesRecord r then
    let s1 := if c.pin then s.wr RSCHED.PIN_COUNT.pinned (s.rd RSCHED.PIN_COUNT.pinned - 1) else s
    s1.setRing r { c with st := 0, pre := [], waitReg := false, waitMet := false, overrun := false, migrating := false }
  else s

/-- Idle or Active, by whether a ring has jobs to start or in flight; a Waiting ring waits on (R187). -/
def Ring.rest (c : Ring) : Ring :=
  if c.st = 1 ∨ c.st = 2 then { c with st := if c.head = c.tail ∧ c.inflight = 0 then 1 else 2 } else c

/-- The wait of a ring's next job is over (R195). -/
def Ring.unwait (c : Ring) : Ring := { c with waitReg := false, st := if c.st = 3 then 2 else c.st }

/-- The next job of a ring leaves it: head and seq advance, its entry is no longer prefetched, and its wait is over. -/
def Ring.advance (c : Ring) : Ring :=
  { c.unwait with head := (c.head + 1) % 2 ^ 24, seq := (c.seq + 1) % 2 ^ 32, pre := c.pre.drop 1, waitMet := false }

/-- A ring halted on a bus error is released: Waiting if its next job waits (R206). An overrun keeps it halted (R190). -/
def Ring.release (c : Ring) : Ring :=
  if c.st = 4 ∧ !c.overrun then { c with st := if c.waitReg && !c.waitMet then 3 else 2 }.rest else c

/-- A job in flight ends: with a record, unless it succeeded quietly (R225). -/
def State.endJob (s : State) (r kind : Nat) (quiet partly : Bool) (seq code detail info : Nat) : State :=
  let s1 := if quiet && kind == 0 then s else s.record r kind true partly seq code detail info
  let c := s1.ring r
  (s1.setRing r ({ c with inflight := c.inflight - 1, lastErr := if kind = 1 then code else c.lastErr }).rest).tryDisable r

/-! ### Fences (R194 to R197) -/

/-- Slots of an instance's fence area; 1,025 and more act as 1,024 (R209). -/
def State.fenceSlots (s : State) (k : Nat) : Nat := min 1024 (s.rd RSCHED.FENCE_SLOTS.slots (b := k))

/-- Address of a fence's slot (R194). -/
def State.fenceAddr (s : State) (f : Nat) : Nat :=
  s.rd RSCHED.FENCE_BASE.addr (b := f / 1024) * 4096 + s.rd RSCHED.FENCE_BASE.addr_hi (b := f / 1024) * 2 ^ 32 + 8 * (f % 1024)

/-- What a wait on a fence finds: an end with a code, or whether it is met, and the state with a refusal recorded (R195
to R197). -/
def State.fenceTest (s : State) (q : Req) (f v : Nat) : State × Nat × Bool :=
  if s.fenceSlots (f / 1024) ≤ f % 1024 then (s, Code.FENCE_RANGE, false)
  else if mget s.rings.aband (f / 1024) 0 ≠ 0 then (s, Code.FENCE_ABANDONED, false)
  else match s.memFault q false (s.fenceAddr f) 8 with
    | some e => (s.memRecord q e, Code.FENCE_DENIED, false)
    | none => (s.fetched q (s.fenceAddr f) 8, 0, decide (v ≤ s.rdMem (s.fenceAddr f) 8))

/-- Signal a fence: the slot is written, or the code with which the signal fails (R196). -/
def State.fenceSignal (s : State) (q : Req) (f v : Nat) : State × Nat :=
  if s.fenceSlots (f / 1024) ≤ f % 1024 then (s, Code.FENCE_RANGE)
  else match s.tryStore q (s.fenceAddr f) (leBytes 8 v) with
    | (t, some _) => (t, Code.FENCE_DENIED)
    | (t, none) => (t, 0)

/-- A little-endian field of an entry. -/
def field (d : List Byte) (off n : Nat) : Nat := leVal ((d.drop off).take n)

/-- The fence a prefetched entry waits on before its job starts: DMA, graphics and stream entries name one (R203, R235, R400, R411). Commit
packets wait at the head's latch (R258), and buffer entries do not wait. -/
def entryWait (type : Nat) (d : List Byte) : Option (Nat × Nat) :=
  if type = 3 then (if bit (field d 0 4) 16 then some (field d 0x1C 2, field d 0x20 8) else none)
  else if type = 1 then (if bit (field d 0 4) 8 then some (field d 0x10 2, field d 0x18 8) else none)
  else if type = 5 ∨ type = 6 then
    (if bit (field d 0 4) 4 && !bit (field d 0 4) 5 then some (field d 0x10 2, field d 0x18 8) else none)
  else none

/-- End the next job of a ring before it starts: an error record with the code, and the ring moves on (R188, R196). -/
def State.endUnstarted (s : State) (r code info : Nat) : State :=
  let c := s.ring r
  let s1 := s.record r 1 true false c.seq code 0 info
  s1.setRing r { c.advance.rest with lastErr := code }

/-- Waits registered with the scheduler (R195). -/
def State.waitCount (s : State) : Nat :=
  (s.rings.ctx.filter (fun e => e.2.waitReg)).length + (s.rings.waits.filter (fun w => !w.met && w.code == 0)).length

/-- Read the slot of a wait that is neither met nor ended (R195). -/
def State.testWait (s : State) (w : Wait) : State × Wait :=
  if w.met || w.code != 0 then (s, w)
  else match s.fenceTest (reqFor w.rid portDevice false) w.fence w.value with
    | (t, 0, m) => (t, { w with met := m })
    | (t, c, _) => (t, { w with code := c })

/-- Register a wait and read its slot (R195). A wait beyond the 4,096 the table holds stays unmet until it is read
again. -/
def State.addWait (s : State) (key rid f v : Nat) : State :=
  let w : Wait := ⟨key, rid, f, v, false, 0, s.now⟩
  let s1 := s.count .rsched 0 9
  let r := if 4096 ≤ s.waitCount then (s1, w) else s1.testWait w
  { r.1 with rings := { r.1.rings with waits := r.1.rings.waits ++ [r.2] } }

/-- The wait of a key. -/
def State.waitOf (s : State) (key : Nat) : Option Wait := s.rings.waits.find? (fun w => w.key == key)

/-- Forget the wait of a key. -/
def State.dropWait (s : State) (key : Nat) : State :=
  { s with rings := { s.rings with waits := s.rings.waits.filter (fun w => w.key != key) } }

/-- Look at the prefetched entries at the head of a ring: a refused fetch ends its job, a wait is registered while the table of 4,096 has room and reads
its slot as the ring's instance, and the first job that is not ended this way stays. A wait counts when it is first asked for, also where the
table is full (R188, R195, R196). -/
def State.settle : Nat → State → Nat → State
  | 0, s, _ => s
  | n + 1, s, r =>
    let c := s.ring r
    if c.st ≠ 1 ∧ c.st ≠ 2 ∧ c.st ≠ 3 then s
    else match c.pre with
    | [] => s
    | e :: _ =>
      if e.1 ≠ 0 then (s.endUnstarted r e.1 e.2.1).settle n r
      else if c.waitMet then s
      else match entryWait c.type e.2.2 with
        | none => s.setRing r { c.unwait with waitMet := true }.rest
        | some (f, v) =>
          let asked := c.waitReg || c.st == 3
          let s0 := if asked then s else s.count .rsched 0 9
          let c := if asked then c else { c with waitAt := s.now }
          if !c.waitReg && decide (4096 ≤ s.waitCount) then s0.setRing r { c with st := 3 }
          else
            let s1 := s0.setRing r { c with waitReg := true }
            match s1.fenceTest (reqFor (instRid (ringInst r)) portDevice false) f v with
            | (t, 0, true) => t.setRing r { (t.ring r).unwait with waitMet := true }.rest
            | (t, 0, false) => t.setRing r { t.ring r with st := 3 }
            | (t, code, _) => (t.endUnstarted r code (if c.type = 3 then s.fenceAddr f else 0)).settle n r

/-- The fence the next job of a ring waits on. -/
def Ring.waitsOn (c : Ring) : Option Nat := c.pre.head?.bind (fun e => (entryWait c.type e.2.2).map (·.1))

/-- The waits on the fences a test picks read their slots again, and rings that wait for a place in the table ask again (R195). -/
def State.rewait (s : State) (p : Nat → Bool) : State :=
  let hit := fun (c : Ring) => c.st == 3 && (!c.waitReg || (c.waitsOn.map p).getD false)
  let s1 := (s.rings.ctx.filter (fun e => hit e.2)).foldl (fun t e => t.settle 5 e.1) s
  s1.rings.waits.foldl (fun t w =>
    if p w.fence then
      let r := t.testWait w
      { r.1 with rings := { r.1.rings with waits := r.1.rings.waits.map (fun x => if x = w then r.2 else x) } }
    else t) s1

/-- Signal a job's fence and wake the waiters of the slot (R195, R196). -/
def State.signal (s : State) (q : Req) (f v : Nat) : State × Nat :=
  match s.fenceSignal { q with hint := false } f v with
  | (t, 0) => (t.rewait (· == f), 0)
  | (t, c) => (t, c)

/-! ### Prefetch and dispatch (R188, R191, R193) -/

/-- Whether a ring's notice is not yet visible: the new engine of a migration waits for it (R208 step 4). -/
def State.notice (s : State) (r : Nat) : Bool := s.rings.recs.any (fun e => e.ring == r && e.kind == 3)

/-- Whether the scheduler fetches entries of a ring now (R118, R187, R208). -/
def State.fetches (s : State) (r : Nat) : Bool :=
  let c := s.ring r
  c.enable && decide (c.st = 1 ∨ c.st = 2 ∨ c.st = 3) && !c.migrating && !s.notice r && s.served (ringInst r) &&
    decide (c.pre.length < 4 ∧ c.pre.length < c.waiting)

/-- Fetch the next entry of a ring into its prefetch: its bytes, or the code of the refusal (R188, R191). -/
def State.fetchEntry (s : State) (r : Nat) : State :=
  let c := s.ring r
  let n := entrySize c.type
  let a := c.base + ((c.head + c.pre.length) % c.entries) * n
  let q := reqFor (s.ringRid r) (portOf c.cls c.engine) c.hint
  let s0 := s.count .rsched 0 4
  match s0.memFault q false a n with
  | some e => (s0.memRecord q e).setRing r { c with pre := c.pre ++ [(e.1, e.2, [])] }
  | none => (s0.fetched q a n).setRing r { c with pre := c.pre ++ [(0, 0, s0.rdBytes a n)] }

/-- Whether a completion queue takes a record now: enabled, not refusing and with free space (R200). -/
def Ring.takes (c : Ring) : Bool := c.enable && c.type == 7 && !c.refused && decide (c.waiting < c.entries)

/-- Whether records of a ring are held: one is, or one is due that its queue cannot take (R200). -/
def State.blocked (s : State) (r : Nat) : Bool := s.stalled r || (s.owesRecord r && !(s.ring (s.queueOf r)).takes)

/-- Whether a ring's next job may start on an engine: an entry is prefetched and its fence met, its queue takes
records, and the engine serves it (R186, R193, R200). -/
def State.ready (s : State) (r cls n : Nat) : Bool :=
  let c := s.ring r
  c.enable && c.cls == cls && c.engine == n && c.type != 7 && decide (c.st = 2) && c.waitMet && !c.pre.isEmpty &&
    !c.migrating && !s.notice r && s.served (ringInst r) && !s.blocked r &&
    (cls != 2 || s.dmaServes n (ringInst r) c.world)

/-- The ring an engine serves next among those that are ready: high priority first, then ascending ring ID from the one
after the last served, up to weight jobs of a ring in turn (R193). -/
def State.pickAmong (s : State) (cls n : Nat) (all : List Nat) : Option Nat :=
  let key := cls * 16 + n
  let hi := all.filter (fun r => (s.ring r).prio)
  let cand := if hi.isEmpty then all else hi
  let last := mget s.rings.last key 0
  if mget s.rings.credit key 0 ≠ 0 && cand.contains last then some last
  else match cand.find? (fun r => decide (last < r)) with
    | some r => some r
    | none => cand.head?

/-- The rings ready on an engine. -/
def State.readyRings (s : State) (cls n : Nat) : List Nat := (s.rings.ctx.map (·.1)).filter (fun r => s.ready r cls n)

/-- The ring an engine serves next (R193). -/
def State.pickRing (s : State) (cls n : Nat) : Option Nat := s.pickAmong cls n (s.readyRings cls n)

/-- The job an engine is running. -/
def State.job (s : State) (cls n : Nat) : Option Job := mget s.rings.jobs (cls * 16 + n) none

/-- Set the job an engine is running. -/
def State.setJob (s : State) (cls n : Nat) (j : Option Job) : State :=
  { s with rings := { s.rings with jobs := mset s.rings.jobs (cls * 16 + n) j none } }

/-- Start the next job of a ring on an engine: the entry leaves the ring and is in flight (R193). -/
def State.startJob (s : State) (r cls n : Nat) : State :=
  let c := s.ring r
  let key := cls * 16 + n
  let left := if mget s.rings.last key 0 = r ∧ mget s.rings.credit key 0 ≠ 0 then mget s.rings.credit key 0 - 1
    else max 1 c.weight - 1
  let d := ((c.pre.head?).map (fun e => e.2.2)).getD []
  let s1 := s.setRing r ({ c.advance with inflight := c.inflight + 1 }).rest
  let s2 := { s1 with rings := { s1.rings with
    last := mset s1.rings.last key r 0, credit := mset s1.rings.credit key left 0 } }
  (s2.setJob cls n (some { ring := r, seq := c.seq, desc := d })).settle 5 r

/-- Take the next prefetched entry of a stream or capture ring for its pipeline, in ring order (R193): its sequence
number and bytes. -/
def State.takeEntry (s : State) (r : Nat) : Option (State × Nat × List Byte) :=
  let c := s.ring r
  match c.pre with
  | (0, _, d) :: _ =>
    if c.enable && decide (c.st = 2) && !c.migrating && !s.notice r && s.served (ringInst r) && !s.blocked r then
      some ((s.setRing r ({ c.advance with inflight := c.inflight + 1 }).rest).settle 5 r, c.seq, d)
    else none
  | _ => none

/-! ### Records and interrupts of a completion queue (R198 to R202) -/

/-- The 32 bytes of a completion record (R198). -/
def recBytes (ring kind flags seq code source detail time info : Nat) : List Byte :=
  leBytes 2 ring ++ leBytes 1 kind ++ leBytes 1 flags ++ leBytes 4 seq ++ leBytes 2 code ++ leBytes 2 source ++
    leBytes 4 detail ++ leBytes 8 time ++ leBytes 8 info

/-- Phase bit of the queue's next record: 1 on the first pass, toggling at each wrap (R199). -/
def Ring.phase (c : Ring) : Nat := if (c.tail / c.entries) % 2 = 0 then 1 else 0

/-- Raise a completion queue's interrupt: for an external instance its MSI-X vector, else the message with irq_vector
added (R201). -/
def State.cqIrq (s : State) (q : Nat) : State :=
  let c := s.ring q
  (s.notify (instRid (ringInst q)) c.irqVector).setRing q { c with irqDue := 0 }

/-- A record has become visible in a queue: the producer moves on, and the interrupt follows when its count or a delay of
0 asks for it (R199, R201). -/
def State.cqWritten (s : State) (q : Nat) : State :=
  let c := s.ring q
  let s1 := (s.setRing q { c with tail := (c.tail + 1) % 2 ^ 24, irqDue := c.irqDue + 1, irqAt := if c.irqDue = 0 then s.now else c.irqAt }).count .rsched 0 5
  if c.irqEn ∧ (max 1 c.irqCount ≤ c.irqDue + 1 ∨ c.irqTime = 0) then s1.cqIrq q else s1

/-- Write a record into a queue that takes one, through a port; a refused write leaves the queue refusing until it is re-enabled (R200). The
answer says whether the record is visible. -/
def State.cqStore (s : State) (q port : Nat) (d : List Byte) : State × Bool :=
  let c := s.ring q
  let rq := reqFor (s.ringRid q) port c.hint
  match s.tryStore rq (c.base + (c.tail % c.entries) * 32) d with
  | (t, some e) =>
    (((t.setRing q { c with refused := true }).recErr .rsched 0 e.1 rq.id e.2).raise .rsched 0 10, false)
  | (t, none) => (t.cqWritten q, true)

/-- The first record due in a queue, if any, and the others. -/
def takeDue (p : RecDue → Bool) : List RecDue → Option (RecDue × List RecDue)
  | [] => none
  | e :: t => if p e then some (e, t) else (takeDue p t).map (fun r => (r.1, e :: r.2))

/-- The records due in a queue are held: each ring that has one stalls, and each that had none held counts a stall (R200). -/
def State.holdDue (s : State) (q : Nat) : State :=
  let mine := s.rings.recs.filter (fun e => s.queueOf e.ring == q)
  let new := ((mine.map (·.ring)).eraseDups).filter (fun r => !s.stalled r)
  ({ s with rings := { s.rings with recs := s.rings.recs.map (fun (x : RecDue) =>
      if s.queueOf x.ring = q then { x with stalled := true } else x) } }).count .rsched 0 6 new.length

/-- Write the first record due in a queue, or hold what is due in it: a record that cannot be written is a full-queue stall of its ring
(R199, R200). -/
def State.writeDue (s : State) (q : Nat) : State :=
  match takeDue (fun e => s.queueOf e.ring == q) s.rings.recs with
  | none => s
  | some (e, rest) =>
    if (s.ring q).takes then
      let flags := (s.ring q).phase + (if e.final then 2 else 0) + (if e.partly then 4 else 0)
      match s.cqStore q (portOf (e.source / 4096) (e.source / 256 % 16)) (recBytes (e.ring % 4096) e.kind flags e.seq e.code e.source e.detail e.time e.info) with
      | (t, true) => ({ t with rings := { t.rings with recs := rest } }).tryDisable e.ring
      | (t, false) => t.holdDue q
    else if s.rings.recs.all (fun x => s.queueOf x.ring != q || x.stalled) then s
    else (s.holdDue q).raise .rsched 0 10

/-- The event queue of an instance, if EVQ names one (R202). -/
def State.evQueue (s : State) (k : Nat) : Option Nat :=
  if s.on RSCHED.EVQ.valid (b := k) then some (k * 4096 + s.rd RSCHED.EVQ.ring (b := k)) else none

/-- Take the first event record that a test picks out of the list. -/
def takeEv (p : EvRec → Bool) : List EvRec → Option (EvRec × List EvRec)
  | [] => none
  | e :: t => if p e then some (e, t) else (takeEv p t).map (fun r => (r.1, e :: r.2))

/-- Drop an event: counted, and the next one delivered says that events were lost (R202). -/
def State.dropEvent (s : State) (k : Nat) (rest : List EvRec) : State :=
  (((({ s with events := rest, rings := { s.rings with evLost := mset s.rings.evLost k 1 0 } }).count .rsched 0 7).recErr
    .rsched 0 Code.EVQ_OVERFLOW ridBlock 0x160).raise .rsched 0 11)

/-- Deliver the first event record of an instance to its event queue, hold it, or drop it (R202). -/
def State.deliver (s : State) (k : Nat) : State :=
  match takeEv (fun e => e.recipient == k) s.events with
  | none => s
  | some (e, rest) =>
    match s.evQueue k with
    | none => s.dropEvent k rest
    | some q =>
      let s1 :=
        if (s.ring q).takes then
          let flags := (s.ring q).phase + (if mget s.rings.evLost k 0 ≠ 0 then 8 else 0)
          match s.cqStore q portDevice (recBytes 0xFFFF 2 flags e.seq e.code e.source e.detail e.time 0) with
          | (t, true) => some { t with events := rest, rings := { t.rings with evLost := mset t.rings.evLost k 0 0 } }
          | (_, false) => none
        else none
      match s1 with
      | some t => t
      | none =>
        let t := if (s.ring q).takes then (s.cqStore q portDevice (recBytes 0xFFFF 2 0 e.seq e.code e.source e.detail e.time 0)).1 else s
        let held := (s.events.filter (fun x => x.recipient == k && x.held)).length
        match takeEv (fun x => x.recipient == k && !x.held) t.events with
        | none => t
        | some (x, others) =>
          if held < 16 then { t with events := t.events.map (fun y => if y = x then { y with held := true } else y) }
          else t.dropEvent k others

end Sys2Proof.Machine
end

