-- ==== Sys2Proof/Machine/Dma.lean ====
section
/-! DEFINITION. RSCHED's context operations, the doorbells, and the eight DMA engines (R187 to R210). -/

namespace Sys2Proof.Machine

/-! ### Context words (R184) -/


/-- Word k of a ring context as CTX_OP read returns it (R184). -/
def Ring.word (c : Ring) (k : Nat) : Nat :=
  match k with
  | 0 => c.base % 2 ^ 32
  | 1 => c.base / 2 ^ 32 + c.size * 2 ^ 16 + c.type * 2 ^ 20 + c.world * 2 ^ 24
  | 2 => b2n c.enable + c.st * 2 + b2n c.prio * 2 ^ 4 + b2n c.critical * 2 ^ 5 + b2n c.hint * 2 ^ 6 + b2n c.pin * 2 ^ 7
      + c.weight * 2 ^ 8 + c.cq * 2 ^ 16
  | 3 => c.cls + c.engine * 2 ^ 4 + c.target * 2 ^ 8 + b2n c.migrating * 2 ^ 12 + c.waitLimit * 2 ^ 16
  | 4 => c.tail
  | 5 => c.head
  | 6 => c.seq
  | 7 => c.irqVector + b2n c.irqEn * 2 ^ 6 + c.irqCount * 2 ^ 8 + c.irqTime * 2 ^ 16
  | 8 => c.lastErr
  | _ => 0

/-- A Disabled ring's context with every writable field of words 0 to 8 taken from the data words (R184, R187). -/
def Ring.fromWords (c : Ring) (w : Nat → Nat) : Ring :=
  { c with
    base := w 0 + bits (w 1) 0 8 * 2 ^ 32
    size := bits (w 1) 16 4, type := bits (w 1) 20 4, world := bits (w 1) 24 8
    prio := bit (w 2) 4, critical := bit (w 2) 5, hint := bit (w 2) 6, pin := bit (w 2) 7
    weight := bits (w 2) 8 8, cq := bits (w 2) 16 12
    cls := bits (w 3) 0 4, engine := bits (w 3) 4 4, target := bits (w 3) 8 4, waitLimit := bits (w 3) 16 16
    tail := bits (w 4) 0 24, head := bits (w 5) 0 24, seq := w 6
    irqVector := bits (w 7) 0 6, irqEn := bit (w 7) 6, irqCount := bits (w 7) 8 8, irqTime := bits (w 7) 16 16
    pre := [], waitReg := false, waitMet := false, inflight := 0, overrun := false, irqDue := 0, refused := false }

/-! ### CTX_OP (R187, R208, R209) -/

/-- A write of CTX_OP: an op of 0, 6 or 7 and a ring outside its instance's quota or of a Free instance are refused as the
write is accepted; then the operation runs (R187, R209, R449). -/
def State.ctxOp (s : State) (w : Who) (op target : Nat) (k : State → Nat → State) : State :=
  s.onWrite w .rsched 0 0x104 (op + target * 256) (fun t =>
    let r := t.rd RSCHED.CTX_SEL.ring
    if op = 0 ∨ 6 ≤ op then t.refuse .rsched 0 Code.RING_CTX_STATE w.rid 0x104
    else if t.instState (ringInst r) = 0 ∨ !t.inQuota r then t.refuse .rsched 0 Code.RING_QUOTA w.rid 0x104
    else k t r)

/-- A CTX_OP refused after the write: the record alone (R449). -/
def State.ctxRefuse (s : State) (w : Who) (code : Nat) : State := s.recErr .rsched 0 code w.rid 0x104

/-- CTX_READ: the context goes to CTX_DATA (R184). -/
def State.ctxRead (s : State) (w : Who) : State :=
  s.ctxOp w 1 0 (fun t r =>
    (List.range 16).foldl (fun u k => u.wr RSCHED.CTX_DATA.word ((t.ring r).word k) 0 k) t)

/-- CTX_READ (R184). -/
def execCtxRead (w : Who) (s : State) : Out := .next (s.ctxRead w)

/-- CTX_WRITE: CTX_DATA goes to a Disabled context (R187). -/
def State.ctxWrite (s : State) (w : Who) : State :=
  s.ctxOp w 2 0 (fun t r =>
    if (t.ring r).st ≠ 0 then t.ctxRefuse w Code.RING_CTX_STATE
    else t.setRing r ((t.ring r).fromWords (fun k => t.rd RSCHED.CTX_DATA.word 0 k)))

/-- CTX_WRITE (R187). -/
def execCtxWrite (w : Who) (s : State) : Out := .next (s.ctxWrite w)

/-- CTX_ENABLE: a Disabled ring that passes its checks is Idle or Ready (R186, R187, R192). -/
def State.ctxEnable (s : State) (w : Who) : State :=
  s.ctxOp w 3 0 (fun t r =>
    let c := t.ring r
    if c.st ≠ 0 then t.ctxRefuse w Code.RING_CTX_STATE
    else if !t.enableOk r then t.ctxRefuse w Code.RING_BAD_CTX
    else if c.pin && decide (1024 ≤ t.rd RSCHED.PIN_COUNT.pinned) then t.ctxRefuse w Code.RING_PIN_LIMIT
    else
      let u := if c.pin then t.wr RSCHED.PIN_COUNT.pinned (t.rd RSCHED.PIN_COUNT.pinned + 1) else t
      let st := if t.instState (ringInst r) = 3 ∨ t.instState (ringInst r) = 4 then 5 else if c.head = c.tail ∨ c.type = 7 then 1 else 2
      u.setRing r { c with enable := true, st := st, refused := false, irqDue := 0 })

/-- CTX_ENABLE (R186, R187, R192). -/
def execCtxEnable (w : Who) (s : State) : Out := .next (s.ctxEnable w)

/-- CTX_DISABLE: fetching stops, prefetched entries are dropped, and the ring is Disabled as soon as nothing of it is in
flight (R187). -/
def State.ctxDisable (s : State) (w : Who) : State :=
  s.ctxOp w 4 0 (fun t r =>
    (t.setRing r { (t.ring r).unwait with enable := false, pre := [], waitMet := false }).tryDisable r)

/-- CTX_DISABLE (R187). -/
def execCtxDisable (w : Who) (s : State) : Out := .next (s.ctxDisable w)

/-- RING_DISABLED (R187). -/
def execRingDisabled (r : Fin 262144) (s : State) : Out := .next (s.tryDisable r.val)

/-- The ring notice that ends a migration (R208 step 4). -/
def State.migrated (s : State) (r : Nat) : State :=
  let c := s.ring r
  let s1 := s.setRing r { c with engine := c.target, migrating := false }
  ((s1.record r 3 false false c.seq 0 c.target 0).count .rsched 0 11).raise .rsched 0 12

/-- CTX_MIGRATE (R208). -/
def State.ctxMigrate (s : State) (w : Who) (n : Nat) : State :=
  s.ctxOp w 5 n (fun t r =>
    let c := t.ring r
    if c.st = 0 then t.ctxRefuse w Code.RING_CTX_STATE
    else if !classMigrates c.cls || c.type == 7 || decide (classEngines c.cls ≤ n) || c.migrating then
      t.ctxRefuse w Code.RING_MIGRATE
    else if c.type = 3 ∧ !t.dmaServes n (ringInst r) c.world then t.ctxRefuse w Code.RING_BAD_CTX
    else if n = c.engine then (t.setRing r { c with target := n }).migrated r
    else t.setRing r ({ c.unwait with target := n, migrating := true, pre := [], waitMet := false }).rest)

/-- CTX_MIGRATE (R208). -/
def execCtxMigrate (w : Who) (target : Fin 16) (s : State) : Out := .next (s.ctxMigrate w target.val)

/-- MIGRATE_DONE: the old engine has nothing of the ring in flight and its last record is visible (R208). -/
def execMigrateDone (r : Fin 262144) (s : State) : Out :=
  let c := s.ring r.val
  .next (if c.migrating && c.inflight == 0 && !s.owesRecord r.val then s.migrated r.val else s)

/-! ### DMA jobs (R203 to R207) -/

/-- Operation of a descriptor. -/
def dmaOp (d : List Byte) : Nat := bits (field d 0 4) 0 4
/-- CRC kind of a descriptor. -/
def dmaCrc (d : List Byte) : Nat := bits (field d 0 4) 4 2
/-- Element count of a descriptor. -/
def dmaCount (d : List Byte) : Nat := bits (field d 0 4) 8 5

/-- Whether a descriptor breaks a rule of R203's table, its element list aside. -/
def dmaBad (d : List Byte) : Bool :=
  let ctrl := field d 0 4; let op := dmaOp d; let n := dmaCount d
  let src := field d 8 8; let dst := field d 0x10 8
  op == 0 || decide (4 < op) || dmaCrc d == 3 || bits ctrl 6 2 != 0 || bits ctrl 13 3 != 0 || bits ctrl 20 12 != 0 ||
    (if op = 4 then n != 0 || dmaCrc d != 0 || src != 0 || dst != 0 else n == 0 || decide (16 < n)) ||
    (op == 3 && (dmaCrc d != 0 || src != 0)) || (op != 3 && field d 4 4 != 0) || field d 0x38 8 != 0 ||
    (op == 1 && src % 16 != 0) || ((op == 2 || op == 3) && dst % 16 != 0)

/-- Address of a descriptor's element list. -/
def dmaList (d : List Byte) : Nat := if dmaOp d = 1 then field d 8 8 else field d 0x10 8

/-- Requester of a DMA job: the world of its ring, with the descriptor's hint for data (R107, R145, R203). -/
def State.jobReq (s : State) (j : Job) : Req := reqFor (s.ringRid j.ring) portDma (bit (field j.desc 0 4) 19)

/-- Read the list entries from the first not yet held: the entries held, and the failure of one, if any (R204, R205). -/
def State.dmaReadList (s : State) (q : Req) (a : Nat) : Nat → List (Nat × Nat) → List (Nat × Nat) × Bool × Option (Nat × Nat)
  | 0, l => (l, false, none)
  | n + 1, l =>
    let e := a + 16 * l.length
    match s.memFault q false e 16 with
    | some f => (l, false, some f)
    | none =>
      let len := s.rdMem (e + 8) 4
      if len = 0 ∨ 65536 < len ∨ s.rdMem (e + 12) 4 ≠ 0 then (l, true, none)
      else s.dmaReadList q a n (l ++ [(s.rdMem e 8, len)])

/-- Byte i of a FILL pattern stream, as n bytes from stream position p (R203). -/
def fillBytes (pattern p n : Nat) : List Byte :=
  (List.range n).map (fun i => BitVec.ofNat 8 (pattern >>> (8 * ((p + i) % 4))))

/-- End the job of a DMA engine and free the engine (R204, R206). -/
def State.dmaEnd (s : State) (n : Nat) (j : Job) (kind code detail info : Nat) (partly : Bool) : State :=
  let s1 := (s.setJob 2 n none).wr DMA.STAT.state 0 n
  let c := s1.ring j.ring
  let s2 := if c.st = 4 ∧ !c.overrun then (s1.setRing j.ring c.release).settle 5 j.ring else s1
  s2.endJob j.ring kind (bit (field j.desc 0 4) 18) partly j.seq code detail info

/-- Bytes of the job written with responses: those before the element at hand, and the last element too when only the CRC
write failed. -/
def Job.bytesDone (j : Job) : Nat := j.done + (if j.failCrc then ((j.list.getD j.elem (0, 0)).2) else 0)

/-- Failing address, element and direction as info of a record gives them (R198). -/
def Job.info (j : Job) : Nat := j.failAddr % 2 ^ 40 + j.failElem * 2 ^ 40 + j.failDir * 2 ^ 44

/-- Polynomial of a CRC kind. -/
def crcPoly (k : Nat) : Nat := if k = 1 then polyC else polyE

/-- A write of an element: every page is checked first; a line that fails after that leaves part of the element
written, how much the device does not say (R204). -/
def State.dmaWrite (s : State) (q : Req) (a : Nat) (d : List Byte) : State × Option (Nat × Nat × Bool) :=
  match s.memFault q true a d.length with
  | none => (s.put q a d, none)
  | some (code, fa) =>
    if code = Code.DRAM_POISON ∨ code = Code.DRAM_OFFLINE then
      let n := (Config.freeValue s.free).toNat % (fa - a + 1)
      let s1 := { s with free := s.free + 1 }
      ((s1.wrBytes a (d.take n)).memRecord q (code, fa), some (code, fa, true))
    else (s.memRecord q (code, fa), some (code, fa, false))

/-- Move the elements of a job in order from the one at hand: the job with its data moved, or with its failure latched
(R203 to R205). -/
def State.dmaMove (q : Req) (n : Nat) : Nat → State → Job → State × Job
  | 0, s, j => (s, { j with phase := 1 })
  | fuel + 1, s, j =>
    let d := j.desc
    let op := dmaOp d
    match j.list.drop j.elem with
    | [] => (s, { j with phase := 1 })
    | (ea, len) :: rest =>
      let ra := if op = 1 then ea else field d 8 8 + j.done
      let wa := if op = 1 then field d 0x10 8 + j.done else ea
      match (if op = 3 then none else s.memFault q false ra len) with
      | some (code, fa) =>
        (s.memRecord q (code, fa), { j with
            phase := 2, failCode := code, failAddr := fa, failDir := 0, failElem := j.elem,
            failCrc := false, failPart := false })
      | none =>
        let data := if op = 3 then fillBytes (field d 4 4) j.done len else s.rdBytes ra len
        let s1 := if op = 3 then s else (s.fetched q ra len).count .dma n 1 len
        match s1.dmaWrite q wa data with
        | (t, some (code, fa, p)) =>
          (t, { j with
            phase := 2, failCode := code, failAddr := fa, failDir := 1, failElem := j.elem, failCrc := false,
            failPart := p })
        | (t, none) =>
          let t1 := t.count .dma n 2 len
          let crc := if dmaCrc d = 0 then j.crc else crcRun (crcPoly (dmaCrc d)) j.crc data
          let t2 := t1.wr DMA.CRC_STATE.crc crc n
          if rest.isEmpty ∧ dmaCrc d ≠ 0 then
            match t2.dmaWrite q (wa + len) (leBytes 4 (crc ^^^ 0xFFFFFFFF)) with
            | (u, some (code, fa, p)) =>
              (u, { j with
            phase := 2, failCode := code, failAddr := fa, failDir := 1, failElem := j.elem, failCrc := true,
            failPart := p })
            | (u, none) => (u.count .dma n 2 4, { j with phase := 1, elem := j.elem + 1, done := j.done + len, crc := crc })
          else State.dmaMove q n fuel t2 { j with elem := j.elem + 1, done := j.done + len, crc := crc }

/-- Run the data movement of the job of engine n if its descriptor's operation is op (R203, R204). -/
def State.dmaRun (s : State) (n op : Nat) : State :=
  match s.job 2 n with
  | none => s
  | some j =>
    if j.phase ≠ 0 ∨ dmaOp j.desc ≠ op then s
    else if op = 4 then s.setJob 2 n (some { j with phase := 1 })
    else
      let q := s.jobReq j
      match s.dmaReadList q (dmaList j.desc) (dmaCount j.desc - j.list.length) j.list with
      | (l, _, some (code, fa)) =>
        (s.memRecord q (code, fa)).setJob 2 n (some { j with
            phase := 2, list := l, failCode := code, failAddr := fa,
            failDir := 0, failElem := l.length, failCrc := false, failPart := false })
      | (_, true, none) => s.dmaEnd n j 1 Code.RING_BAD_DESC j.done 0 false
      | (l, false, none) =>
        let s1 := s.fetched q (dmaList j.desc + 16 * j.list.length) (16 * (l.length - j.list.length))
        if 1048576 < (l.map (·.2)).sum then s1.dmaEnd n j 1 Code.RING_BAD_DESC j.done 0 false
        else
          match State.dmaMove q n 16 s1 { j with list := l } with
          | (t, k) => t.setJob 2 n (some k)

/-- DMA_GATHER (R203). -/
def execDmaGather (n : Fin 8) (s : State) : Out := .next (s.dmaRun n.val 1)
/-- DMA_SCATTER (R203). -/
def execDmaScatter (n : Fin 8) (s : State) : Out := .next (s.dmaRun n.val 2)
/-- DMA_FILL (R203). -/
def execDmaFill (n : Fin 8) (s : State) : Out := .next (s.dmaRun n.val 3)
/-- DMA_FENCE (R203). -/
def execDmaFence (n : Fin 8) (s : State) : Out := .next (s.dmaRun n.val 4)

/-- DMA_BUS_ERROR: the engine halts on the failure its job has met, latches it, and writes the record (R205). -/
def execDmaBusError (n : Fin 8) (s : State) : Out :=
  let k := n.val
  .next (match s.job 2 k with
    | none => s
    | some j =>
      if j.phase ≠ 2 then s
      else
        let s1 := (((((((s.wr DMA.STAT.state 2 k).wr DMA.ELEM.index j.failElem k).wr DMA.ELEM.dir j.failDir k).wrB
          DMA.ELEM.partial j.failPart k).wrB DMA.ELEM.crc j.failCrc k).wr DMA.BYTES.done j.bytesDone k).wr
          DMA.CAUSE.code j.failCode k).wr DMA.FAIL_ADDR.addr_lo j.failAddr k
        let s2 := (s1.wr DMA.FAIL_ADDR.addr_hi (j.failAddr / 2 ^ 32) k).wr DMA.CRC_STATE.crc j.crc k
        let s3 := ((s2.recErr .dma k Code.DMA_BUS_ERROR (s.ringRid j.ring) j.failAddr).count .dma k 3).raise .dma k 8
        let s4 := s3.record j.ring 1 false j.failPart j.seq Code.DMA_BUS_ERROR j.bytesDone j.info
        (s4.setRing j.ring { s4.ring j.ring with st := 4, lastErr := Code.DMA_BUS_ERROR }).setJob 2 k (some { j with phase := 3, haltAt := s.now }))

/-- DMA_JOB_DONE: the fence is signalled, then the record is formed (R196, R204). -/
def execDmaJobDone (n : Fin 8) (s : State) : Out :=
  .next (match s.job 2 n.val with
    | none => s
    | some j =>
      if j.phase ≠ 1 then s
      else if bit (field j.desc 0 4) 17 then
        match s.signal (s.jobReq j) (field j.desc 0x1E 2) (field j.desc 0x28 8) with
        | (t, 0) => t.dmaEnd n.val j 0 0 j.done (field j.desc 0x30 8) false
        | (t, c) => t.dmaEnd n.val j 1 c j.done (t.fenceAddr (field j.desc 0x1E 2)) false
      else s.dmaEnd n.val j 0 0 j.done (field j.desc 0x30 8) false)

/-- Restart a halted job at its latched element; its list is read again from there, and the ring's next job asks for its fence again (R206). -/
def State.dmaResume (s : State) (n : Nat) (j : Job) : State :=
  let s1 := (((s.wr DMA.STAT.state 1 n).count .dma n 4).setJob 2 n
    (some { j with phase := 0, list := j.list.take j.failElem, failCrc := false }))
  (s1.setRing j.ring (s1.ring j.ring).release).settle 5 j.ring

/-- End a halted job with a code (R206, R207). -/
def State.dmaAbort (s : State) (n : Nat) (j : Job) (code : Nat) : State :=
  (s.count .dma n 5).dmaEnd n j 1 code j.bytesDone j.info j.failPart

/-- The halted job of an engine. -/
def State.halted (s : State) (n : Nat) : Option Job :=
  match s.job 2 n with
  | some j => if j.phase = 3 then some j else none
  | none => none

/-- A write of DMAn:CTRL acts on a halted job, or is refused with DMA_NOT_HALTED (R206). -/
def State.dmaCtrl (s : State) (w : Who) (n v : Nat) : State :=
  s.onWrite w .dma n 0x120 v (fun t =>
    match t.halted n with
    | none => if v % 4 = 0 then t else t.refuse .dma n Code.DMA_NOT_HALTED w.rid 0x120
    | some j =>
      if v % 4 = 0 then t
      else if (t.ring j.ring).overrun then t.refuse .dma n Code.DMA_NOT_HALTED w.rid 0x120
      else if bit v 1 then t.dmaAbort n j Code.DMA_ABORTED else t.dmaResume n j)

/-- DMA_CTRL_RESUME (R206). -/
def execDmaCtrlResume (w : Who) (n : Fin 8) (s : State) : Out := .next (s.dmaCtrl w n.val 1)
/-- DMA_CTRL_ABORT (R206). -/
def execDmaCtrlAbort (w : Who) (n : Fin 8) (s : State) : Out := .next (s.dmaCtrl w n.val 2)

/-- DMA_HALT_TIMEOUT: the job has been halted for HALT_LIMIT, of which 0 acts as 1 (R207, R210). -/
def execDmaHaltTimeout (n : Fin 8) (s : State) : Out :=
  .next (match s.halted n.val with
    | none => s
    | some j =>
      if !s.past j.haltAt (ms (max 1 (s.rd DMA.HALT_LIMIT.ms n.val))) then s
      else ((s.count .dma n.val 6).raise .dma n.val 9).dmaEnd n.val j 1 Code.DMA_HALT_TIMEOUT j.bytesDone j.info j.failPart)

/-! ### Doorbells (R189, R190) -/

/-- Drop a doorbell: counted, and recorded in RSCHED where the rules say so (R189, R190). -/
def State.dropDoorbell (s : State) (k r : Nat) (rec : Bool) : State :=
  let s1 := s.count .rsched 0 1
  if rec then (s1.recErr .rsched 0 Code.RING_DOORBELL_INVALID (instRid k) (4 * r)).raise .rsched 0 8 else s1

/-- A use of a ring's context: a hit, or a miss that reads it from the ring table and replaces the least recently used unpinned context, which is
written back to the table (R191, R192). -/
def State.touchCtx (s : State) (r : Nat) : State :=
  if s.rings.cache.contains r then
    ({ s with rings := { s.rings with cache := r :: s.rings.cache.filter (· != r) } }).count .rsched 0 2
  else
    let victim := if s.rings.cache.length < 4096 then none
      else s.rings.cache.reverse.find? (fun c => !((s.ring c).pin && (s.ring c).enable))
    let kept := match victim with
      | some v => s.rings.cache.filter (· != v)
      | none => s.rings.cache
    let image := match victim with
      | some v => mdel s.rings.image v
      | none => s.rings.image
    ({ s with rings := { s.rings with cache := r :: kept, image := mset image r (s.ring r) {} } }).count .rsched 0 3

/-- A ring's context as the ring table in DRAM holds it: of one in the cache, as it was when it was read from there (R182). -/
def State.tableRing (s : State) (r : Nat) : Ring := if s.rings.cache.contains r then mget s.rings.image r {} else s.ring r

/-- Byte a of the ring table, words 0 to 8 of its contexts as R184 lays them out; what it holds of the device's working state is not given: a
free value (R182, R184). -/
def State.tableByte (s : State) (a : Nat) : Byte :=
  let k := a % 64
  if k < 36 then BitVec.ofNat 8 ((s.tableRing (a / 64)).word (k / 4) >>> (8 * (k % 4)))
  else BitVec.ofNat 8 (Config.freeValue (s.free + k)).toNat

/-- A producer update of a ring: the new tail, or a halt with RING_OVERRUN (R190). -/
def State.producer (s : State) (k r v : Nat) : State :=
  let c := s.ring r
  let add := (v + 2 ^ 24 - c.tail) % 2 ^ 24
  if add = 0 then s
  else if add ≤ c.entries - c.waiting then s.setRing r ({ c with tail := v }).rest
  else
    let s1 := ((s.recErr .rsched 0 Code.RING_OVERRUN (instRid k) (4 * (r % 4096))).raise .rsched 0 9).record r 1 false false c.seq
      Code.RING_OVERRUN v 0
    s1.setRing r { c with st := 4, overrun := true, lastErr := Code.RING_OVERRUN }

/-- A consumer update of a completion queue: forward by no more than the records not yet consumed (R189). -/
def State.consumer (s : State) (k r v : Nat) : State :=
  let c := s.ring r
  if (c.tail + 2 ^ 24 - v) % 2 ^ 24 ≤ c.waiting then (s.setRing r { c with head := v }).count .rsched 0 0
  else s.dropDoorbell k r true

/-- A fence notify: the scheduler reads the slot again for its waits (R189, R195, R196). -/
def State.fenceNotify (s : State) (k slot : Nat) : State :=
  if s.fenceSlots k ≤ slot then (s.count .rsched 0 1).recErr .rsched 0 Code.FENCE_RANGE (instRid k) (4 * slot)
  else ((s.count .rsched 0 0).count .rsched 0 8).rewait (· == k * 1024 + slot)

/-- A doorbell's RESUME or ABORT for a DMA ring (R206). -/
def State.doorbellHalt (s : State) (k r : Nat) (abort : Bool) : State :=
  let c := s.ring r
  match (if c.overrun then none else s.halted c.engine) with
  | some j =>
    if j.ring = r then
      if abort then (s.count .rsched 0 0).dmaAbort c.engine j Code.DMA_ABORTED else (s.count .rsched 0 0).dmaResume c.engine j
    else (s.count .rsched 0 1).recErr .dma c.engine Code.DMA_NOT_HALTED (instRid k) (4 * (r % 4096))
  | none => (s.count .rsched 0 1).recErr .dma c.engine Code.DMA_NOT_HALTED (instRid k) (4 * (r % 4096))

/-- A write to doorbell r of instance k: instance state, operation, quota and ring state are checked, then it acts (R189
to R191). -/
def State.doorbell (s : State) (k r v : Nat) : State :=
  let id := k * 4096 + r
  let op := bits v 28 4
  let s0 := s.okResp
  if s.instState k ≠ 2 then (s0.dropDoorbell k r false).count .mgr 0 5
  else if op = 1 then s0.fenceNotify k r
  else if op ≠ 0 ∧ op ≠ 3 ∧ op ≠ 4 then s0.dropDoorbell k r true
  else if !s.inQuota id then s0.dropDoorbell k r true
  else
    let s1 := s0.touchCtx id
    let c := s1.ring id
    if c.st = 0 then s1.dropDoorbell k r true
    else if op = 0 then
      if c.type = 7 then s1.consumer k id (bits v 0 24)
      else (s1.count .rsched 0 0).producer k id (bits v 0 24)
    else if c.type ≠ 3 then s1.dropDoorbell k r true
    else s1.doorbellHalt k id (op == 4)

/-- DOORBELL_PRODUCER_UPDATE (R190). -/
def execDoorbellProducerUpdate (k : Fin 64) (r : Fin 4096) (tail : BitVec 24) (s : State) : Out :=
  .next (s.doorbell k.val r.val tail.toNat)
/-- DOORBELL_CONSUMER_UPDATE (R189). -/
def execDoorbellConsumerUpdate (k : Fin 64) (r : Fin 4096) (index : BitVec 24) (s : State) : Out :=
  .next (s.doorbell k.val r.val index.toNat)
/-- DOORBELL_FENCE_NOTIFY (R189, R194). -/
def execDoorbellFenceNotify (k : Fin 64) (slot : Fin 4096) (s : State) : Out :=
  .next (s.doorbell k.val slot.val 0x10000000)
/-- DOORBELL_RESUME (R206). -/
def execDoorbellResume (k : Fin 64) (r : Fin 4096) (s : State) : Out := .next (s.doorbell k.val r.val 0x30000000)
/-- DOORBELL_ABORT (R206). -/
def execDoorbellAbort (k : Fin 64) (r : Fin 4096) (s : State) : Out := .next (s.doorbell k.val r.val 0x40000000)
/-- RING_DOORBELL_INVALID: any word written to a doorbell; one that the rules do not admit is dropped, counted and
recorded (R189, R190). -/
def execRingDoorbellInvalid (k : Fin 64) (r : Fin 4096) (v : Word) (s : State) : Out :=
  .next (s.doorbell k.val r.val v.toNat)

/-- A read of a doorbell: head, or a completion queue's producer index, and the state (R189). -/
def State.doorbellRead (s : State) (k r : Nat) : Nat :=
  let c := s.ring (k * 4096 + r)
  (if c.type = 7 then c.tail else c.head) + c.st * 2 ^ 24

/-! ### Scheduler events (R188 to R202) -/

/-- The scheduler fetches the next entry of a ring, then looks at its head (R188, R191, R195). -/
def State.descFetch (s : State) (r : Nat) : State := if s.fetches r then (s.fetchEntry r).settle 5 r else s

/-- COMPLETION_RECORD_WRITE: the first record due in a queue is written, or held (R199, R200). -/
def execCompletionRecordWrite (q : Fin 262144) (s : State) : Out := .next (s.writeDue q.val)

/-- CQ_IRQ_TIMER (R201). -/
def execCqIrqTimer (q : Fin 262144) (s : State) : Out :=
  let c := s.ring q.val
  .next (if c.irqEn && decide (0 < c.irqDue) && s.past c.irqAt (1000 * c.irqTime) then s.cqIrq q.val else s)

/-- EVENT_RECORD_DELIVER (R202). -/
def execEventRecordDeliver (k : Fin 64) (s : State) : Out := .next (s.deliver k.val)

end Sys2Proof.Machine
end

