-- ==== Sys2Proof/Machine/Pixel.lean ====
section
/-! DEFINITION. The arithmetic of composition: unpacking, scaling, colour conversion and blending (R257, R262 to R266). -/

namespace Sys2Proof.Machine

/-! ### Fields of a layer record (R257) -/

/-- Control word of a layer record. -/
def lCtrl (r : List Byte) : Nat := field r 0 4
/-- Layer number. -/
def lLayer (r : List Byte) : Nat := bits (lCtrl r) 0 4
/-- Whether the record enables the layer. -/
def lEnable (r : List Byte) : Bool := bit (lCtrl r) 4
/-- Whether the record waits on a fence. -/
def lWait (r : List Byte) : Bool := bit (lCtrl r) 5
/-- Format code. -/
def lFmt (r : List Byte) : Nat := bits (lCtrl r) 6 4
/-- Blend mode. -/
def lBlend (r : List Byte) : Nat := bits (lCtrl r) 10 2
/-- Scaler bank. -/
def lBank (r : List Byte) : Nat := bits (lCtrl r) 12 2
/-- Colour conversion. -/
def lCsc (r : List Byte) : Nat := bits (lCtrl r) 16 3
/-- Source rectangle: x, y, width, height. -/
def lSrc (r : List Byte) : Nat × Nat × Nat × Nat := (field r 0x1C 2, field r 0x1E 2, field r 0x20 2, field r 0x22 2)
/-- Destination position, signed. -/
def lDst (r : List Byte) : Int × Int := (toSigned 16 (field r 0x24 2), toSigned 16 (field r 0x26 2))
/-- Destination size. -/
def lDstSize (r : List Byte) : Nat × Nat := (field r 0x28 2, field r 0x2A 2)

/-- Whether a format is YCbCr with chroma at half resolution across. -/
def isYcc (f : Nat) : Bool := decide (7 ≤ f ∧ f ≤ 10)
/-- Whether a format has chroma at half resolution down as well. -/
def is420 (f : Nat) : Bool := f == 7 || f == 8
/-- Bytes per pixel of plane 0. -/
def bpp0 (f : Nat) : Nat :=
  match f with
  | 5 => 8 | 4 => 2 | 6 => 1 | 7 => 1 | 8 => 2 | 9 => 2 | 10 => 2 | _ => 4
/-- Bytes of plane 1 per luma pixel across. -/
def bpp1 (f : Nat) : Nat := if f = 7 then 1 else if f = 8 then 2 else 0

/-! ### Unpacking to 12 bits (R264) -/

/-- Widen an 8-bit value. -/
def wide8 (v : Nat) : Nat := (v * 16) ||| (v / 16)
/-- Widen a 10-bit value. -/
def wide10 (v : Nat) : Nat := (v * 4) ||| (v / 256)
/-- A 10-bit colour register's red, green and blue as 12 bits. -/
def colour30 (v : Nat) : Nat × Nat × Nat := (wide10 (bits v 20 10), wide10 (bits v 10 10), wide10 (bits v 0 10))

/-- A float16 value clamped to 0.0 to 1.0 on the 12-bit scale, rounded half up. -/
def half12 (v : Nat) : Nat :=
  let e := bits v 10 5; let m := bits v 0 10
  if e = 31 ∧ m ≠ 0 then (Config.halfNaN v).toNat
  else if bit v 15 then 0
  else if 15 ≤ e then 4095
  else
    -- value = mant / 2^24 for a mantissa scaled by its exponent
    let mant := if e = 0 then m else (1024 + m) * 2 ^ (e - 1)
    (2 * 4095 * mant + 2 ^ 24) / 2 ^ 25

/-- A pixel: three channels in the layer's own colour model and alpha, 12 bits each. -/
structure Px where
  c0 : Nat
  c1 : Nat
  c2 : Nat
  a  : Nat
deriving DecidableEq, Repr

/-- A coefficient of a scaler bank of engine n: horizontal (table 0) or vertical (1), by phase and tap (R263). -/
def State.coef (s : State) (n bank table phase tap : Nat) : Int :=
  let w := s.rd COMP.COEF_DATA.taps n 0 (((bank * 2 + table) * 64 + phase) * 4 + tap / 2)
  toSigned 12 (if tap % 2 = 0 then bits w 0 12 else bits w 16 12)

/-- A sum of coefficient times sample over 1024, rounded half up and clamped (R262). -/
def filterOut (x : Int) : Nat := (max 0 (min 4095 ((x + 512) / 1024))).toNat

/-- Apply the taps of a phase to samples at positions base - lead + k. -/
def State.taps (s : State) (n bank table phase count : Nat) (at_ : Nat → Nat) : Nat :=
  filterOut ((List.range count).map (fun k => s.coef n bank table phase k * (at_ k : Int))).sum

/-- v held between lo and hi, as a natural number. -/
def clampPos (lo hi : Nat) (v : Int) : Nat := (max (lo : Int) (min (hi : Int) v)).toNat

/-- The luma or RGB part of the source pixel at (x, y); chroma channels of YCbCr formats are left 0. -/
def State.srcLuma (s : State) (r : List Byte) (x y : Nat) : Px :=
  let f := lFmt r
  let row := field r 8 8 + y * field r 0x18 2
  let w := s.rdMem (row + x * bpp0 f) (bpp0 f)
  match f with
  | 1 => ⟨wide8 (bits w 16 8), wide8 (bits w 8 8), wide8 (bits w 0 8), wide8 (bits w 24 8)⟩
  | 2 => ⟨wide8 (bits w 0 8), wide8 (bits w 8 8), wide8 (bits w 16 8), wide8 (bits w 24 8)⟩
  | 3 => ⟨wide10 (bits w 0 10), wide10 (bits w 10 10), wide10 (bits w 20 10), (Config.widen 2 (bits w 30 2)).toNat⟩
  | 4 => ⟨(Config.widen 5 (bits w 11 5)).toNat, (Config.widen 6 (bits w 5 6)).toNat, (Config.widen 5 (bits w 0 5)).toNat, 4095⟩
  | 5 => ⟨half12 (bits w 0 16), half12 (bits w 16 16), half12 (bits w 32 16), half12 (bits w 48 16)⟩
  | 6 => ⟨wide8 w, wide8 w, wide8 w, 4095⟩
  | 7 => ⟨wide8 w, 0, 0, 4095⟩
  | 8 => ⟨wide10 (bits w 6 10), 0, 0, 4095⟩
  | 9 => ⟨wide8 (bits w 0 8), 0, 0, 4095⟩
  | _ => ⟨wide8 (bits w 8 8), 0, 0, 4095⟩

/-- Chroma sample (cx, cy) of a subsampled format: component 0 is Cb, 1 is Cr. -/
def State.srcChroma (s : State) (r : List Byte) (cx cy comp : Nat) : Nat :=
  match lFmt r with
  | 7 => wide8 (s.rdMem (field r 0x10 8 + cy * field r 0x1A 2 + cx * 2 + comp) 1)
  | 8 => wide10 (bits (s.rdMem (field r 0x10 8 + cy * field r 0x1A 2 + cx * 4 + 2 * comp) 2) 6 10)
  | 9 => wide8 (s.rdMem (field r 8 8 + cy * field r 0x18 2 + cx * 4 + 1 + 2 * comp) 1)
  | _ => wide8 (s.rdMem (field r 8 8 + cy * field r 0x18 2 + cx * 4 + 2 * comp) 1)

/-- Chroma at full resolution for luma pixel (x, y): co-sited with the left luma sample across, midway between rows down,
with the layer's bank (R262). -/
def State.fullChroma (s : State) (n : Nat) (r : List Byte) (x y comp : Nat) : Nat :=
  let (sx, sy, sw, sh) := lSrc r
  let b := lBank r
  let cx0 := sx / 2; let cx1 := (sx + sw) / 2 - 1
  let across := fun (cy : Nat) =>
    s.taps n b 0 (x % 2 * 32) 8 (fun k => s.srcChroma r (clampPos cx0 cx1 ((x / 2 : Nat) - 3 + (k : Int))) cy comp)
  if is420 (lFmt r) then
    let cy0 := sy / 2; let cy1 := (sy + sh) / 2 - 1
    let base : Int := if y % 2 = 0 then (y / 2 : Nat) - 1 else (y / 2 : Nat)
    s.taps n b 1 (if y % 2 = 0 then 48 else 16) 6 (fun k => across (clampPos cy0 cy1 (base - 2 + (k : Int))))
  else across y

/-- A channel of the source pixel at (x, y) in the layer's own colour model; channel 3 is alpha. -/
def State.srcChan (s : State) (n : Nat) (r : List Byte) (x y ch : Nat) : Nat :=
  let p := s.srcLuma r x y
  match ch with
  | 0 => p.c0
  | 1 => if isYcc (lFmt r) then s.fullChroma n r x y 0 else p.c1
  | 2 => if isYcc (lFmt r) then s.fullChroma n r x y 1 else p.c2
  | _ => p.a

/-! ### Scaling (R262) -/

/-- Source position of output pixel i, in 16.16 fixed point. -/
def srcPos (src srcLen dstLen i : Nat) : Int :=
  (src : Int) * 65536 + ((2 * i + 1) * srcLen * 32768 / dstLen : Nat) - 32768

/-- A channel of the scaled layer at destination pixel (i, j). -/
def State.scaled (s : State) (n : Nat) (r : List Byte) (i j ch : Nat) : Nat :=
  let (sx, sy, sw, sh) := lSrc r
  let (dw, dh) := lDstSize r
  let b := lBank r
  let row := fun (y : Nat) =>
    if sw = dw then s.srcChan n r (sx + i) y ch
    else
      let p := srcPos sx sw dw i
      s.taps n b 0 ((p % 65536).toNat / 1024) 8
        (fun k => s.srcChan n r (clampPos sx (sx + sw - 1) (p / 65536 - 3 + (k : Int))) y ch)
  if sh = dh then row (sy + j)
  else
    let p := srcPos sy sh dh j
    s.taps n b 1 ((p % 65536).toNat / 1024) 6 (fun k => row (clampPos sy (sy + sh - 1) (p / 65536 - 2 + (k : Int))))

/-! ### Colour conversion (R265) -/

/-- floor(num / den + 1/2) clamped to 0 to 4,095. -/
def roundClamp (num den : Int) : Nat := (max 0 (min 4095 ((2 * num + den) / (2 * den)))).toNat

/-- Kr and Kb of BT.601, BT.709 and BT.2020, in ten-thousandths. -/
def cscK (c : Nat) : Int × Int := if c ≤ 2 then (2990, 1140) else if c ≤ 4 then (2126, 722) else (2627, 593)

/-- YCbCr to RGB by the matrix of a csc code, on the 12-bit scale: luma and chroma in units of 1/255 of it. -/
def yccToRgb (c y cb cr : Nat) : Nat × Nat × Nat :=
  let (kr, kb) := cscK c
  let kg := 10000 - kr - kb
  let limited := c % 2 = 1
  -- y' = yn / yd, chroma = pn / pd
  let yn : Int := if limited then 255 * (y : Int) - 16 * 4095 else y
  let yd : Int := if limited then 219 * 4095 else 4095
  let pd : Int := if limited then 224 * 4095 else 255 * 4095
  let pb : Int := 255 * (cb : Int) - 128 * 4095
  let pr : Int := 255 * (cr : Int) - 128 * 4095
  let r := roundClamp (4095 * (yn * pd * 10000 + 2 * (10000 - kr) * pr * yd)) (yd * pd * 10000)
  let b := roundClamp (4095 * (yn * pd * 10000 + 2 * (10000 - kb) * pb * yd)) (yd * pd * 10000)
  let g := roundClamp
    (4095 * (yn * pd * kg * 10000 - 2 * (10000 - kr) * kr * pr * yd - 2 * (10000 - kb) * kb * pb * yd)) (yd * pd * kg * 10000)
  (r, g, b)

/-- Coefficient i of the programmable matrix of engine n (R272). -/
def State.cscM (s : State) (n i : Nat) : Int := toSigned 16 (bits (s.rd COMP.CSC_M.m n (i / 2)) (16 * (i % 2)) 16)

/-- csc 7: out = M × in + offset (R265). -/
def State.cscProg (s : State) (n : Nat) (v : Nat × Nat × Nat) : Nat × Nat × Nat :=
  let row := fun (i : Nat) (off : Int) =>
    roundClamp (s.cscM n (3 * i) * v.1 + s.cscM n (3 * i + 1) * v.2.1 + s.cscM n (3 * i + 2) * v.2.2 + off * 4096) 4096
  let o := s.rd COMP.CSC_OFF0.off_rg n
  (row 0 (toSigned 12 (bits o 0 12)), row 1 (toSigned 12 (bits o 16 12)), row 2 (toSigned 12 (s.rd COMP.CSC_OFF1.off_b n)))

/-- RGB of a layer's scaled pixel. -/
def State.layerRgb (s : State) (n : Nat) (r : List Byte) (i j : Nat) : Nat × Nat × Nat :=
  let v := (s.scaled n r i j 0, s.scaled n r i j 1, s.scaled n r i j 2)
  match lCsc r with
  | 0 => v
  | 7 => s.cscProg n v
  | c => yccToRgb c v.1 v.2.1 v.2.2

/-! ### Blending (R266) -/

/-- A product on the 12-bit scale, rounded half up. -/
def mul12 (x y : Nat) : Nat := (2 * x * y + 4095) / 8190

/-- One channel of a blend: source, its alpha, plane alpha, the value beneath. -/
def blendCh (mode sv sa pa d : Nat) : Nat :=
  let a := mul12 sa pa
  match mode with
  | 0 => min 4095 (mul12 sv pa + mul12 d (4095 - pa))
  | 1 => min 4095 (mul12 sv pa + mul12 d (4095 - a))
  | _ => min 4095 (mul12 sv a + mul12 d (4095 - a))

/-- Whether an output pixel lies in a layer's destination rectangle, and where. -/
def inDst (r : List Byte) (x y : Nat) : Option (Nat × Nat) :=
  let (dx, dy) := lDst r
  let (dw, dh) := lDstSize r
  if dx ≤ x ∧ (x : Int) < dx + dw ∧ dy ≤ y ∧ (y : Int) < dy + dh then some (((x : Int) - dx).toNat, ((y : Int) - dy).toNat) else none

/-- One layer over the value beneath, at an output pixel of engine n. -/
def State.overLayer (s : State) (n : Nat) (l : Layer) (x y : Nat) (d : Nat × Nat × Nat) : Nat × Nat × Nat :=
  if !l.enabled then d
  else match inDst l.raw x y with
  | none => d
  | some (i, j) =>
    match l.subst with
    | some c => colour30 c
    | none =>
      let v := s.layerRgb n l.raw i j
      let sa := s.scaled n l.raw i j 3
      let pa := wide8 (field l.raw 4 1)
      let m := lBlend l.raw
      (blendCh m v.1 sa pa d.1, blendCh m v.2.1 sa pa d.2.1, blendCh m v.2.2 sa pa d.2.2)

/-- A 12-bit value in n bits, rounded half up. -/
def narrow (n v : Nat) : Nat := (2 * v * (2 ^ n - 1) + 4095) / 8190

/-- A pixel in the head's Basin format (R283). -/
def basinPixel (bpc10 : Bool) (v : Nat × Nat × Nat) : Nat :=
  if bpc10 then narrow 10 v.1 * 2 ^ 20 + narrow 10 v.2.1 * 2 ^ 10 + narrow 10 v.2.2
  else narrow 8 v.1 * 2 ^ 16 + narrow 8 v.2.1 * 2 ^ 8 + narrow 8 v.2.2

end Sys2Proof.Machine
end

