-- ==== Sys2Proof/Machine/Comp.lean ====
section
/-! DEFINITION. Composition engines and layers: commit packets, the latch and flip, substitutes, fetch errors, the
scaler banks and writeback (R254 to R272). -/

namespace Sys2Proof.Machine

/-- Composition engine of a head. -/
def engOf (h : Nat) : Nat := h / 2
/-- Number of a layer over all heads. -/
def lkey (h l : Nat) : Nat := h * 16 + l

/-- Active state of layer l of head h. -/
def State.layer (s : State) (h l : Nat) : Layer := mget s.comp.layers (lkey h l) {}

/-- Set the active state of a layer. -/
def State.setLayer (s : State) (h l : Nat) (v : Layer) : State :=
  { s with comp := { s.comp with layers := mset s.comp.layers (lkey h l) v {} } }

/-- Packets pending for a head, in order of entry. -/
def State.pend (s : State) (h : Nat) : List Packet := mget s.comp.pend h []
/-- Packets latched into the frame a head composes or is due to show. -/
def State.latched (s : State) (h : Nat) : List Packet := mget s.comp.latched h []
/-- Set the pending packets. -/
def State.setPend (s : State) (h : Nat) (l : List Packet) : State :=
  { s with comp := { s.comp with pend := mset s.comp.pend h l [] } }
/-- Set the latched packets. -/
def State.setLatched (s : State) (h : Nat) (l : List Packet) : State :=
  { s with comp := { s.comp with latched := mset s.comp.latched h l [] } }

/-- Composition area of a head: the active area, or the Glint source surface (R274, R298). -/
def State.compArea (s : State) (h : Nat) : Nat × Nat :=
  if 6 ≤ h ∧ s.on GLINT.GLINT_CTRL.enable h then (s.rd GLINT.SRC_SIZE.sw h, s.rd GLINT.SRC_SIZE.sh h)
  else (s.rd HEAD.TIM_H.hact h, s.rd HEAD.TIM_V.vact h)

/-- Bytes per row of a head's buffers (R274). -/
def basinPitch (w : Nat) : Nat := (w * 4 + 255) / 256 * 256

/-- Granules a head needs for a composition area (R274). -/
def granNeed (a : Nat × Nat) : Nat := 2 * ((basinPitch a.1 * a.2 + 1048575) / 1048576)

/-- Basin offset of buffer b of a head (R275). -/
def State.bufBase (s : State) (h b : Nat) : Nat :=
  (s.rd BASIN.GRAN.base 0 h + b * (s.rd BASIN.GRAN.count 0 h / 2)) * 1048576

/-- Write bytes to Basin. -/
def State.basinWrite (s : State) (a : Nat) : List Byte → State
  | [] => s
  | v :: t => { s with basin := mset s.basin a v 0 }.basinWrite (a + 1) t

/-- A little-endian value of n bytes in Basin. -/
def State.basinRead (s : State) (a n : Nat) : Nat := leVal ((List.range n).map (fun k => mget s.basin (a + k) 0))

/-! ### What COMPn shows (R272) -/

/-- Whether a head's layers, active, latched or pending, name a scaler bank (R263). -/
def State.bankUsed (s : State) (h b : Nat) : Bool :=
  (List.range 16).any (fun l => (s.layer h l).enabled && lBank (s.layer h l).raw == b) ||
    (s.pend h ++ s.latched h).any (fun p => p.recs.any (fun r => lEnable r && lBank r == b))

/-- Bring ENG_STAT, COEF_USE and LAYER_STAT of an engine up to date. -/
def State.compShow (s : State) (n : Nat) : State :=
  let h0 := 2 * n; let h1 := 2 * n + 1
  let on := fun (m : SMap Nat) (h : Nat) => mget m h 0
  let s1 := (((((s.wr COMP.ENG_STAT.busy0 (on s.comp.busy h0) n).wr COMP.ENG_STAT.busy1 (on s.comp.busy h1) n).wr
    COMP.ENG_STAT.late0 (on s.comp.late h0) n).wr COMP.ENG_STAT.late1 (on s.comp.late h1) n).wr
    COMP.ENG_STAT.pending0 (s.pend h0).length n).wr COMP.ENG_STAT.pending1 (s.pend h1).length n
  let use := ((List.range 4).map (fun b => if s.bankUsed h0 b || s.bankUsed h1 b then 2 ^ b else 0)).sum
  let s2 := s1.wr COMP.COEF_USE.banks use n
  (List.range 32).foldl (fun t k =>
    let l := s.layer (2 * n + k / 16) (k % 16)
    ((((t.wrB COMP.LAYER_STAT.enabled l.enabled n 0 k).wrB COMP.LAYER_STAT.substituted l.subst.isSome n 0 k).wr
      COMP.LAYER_STAT.bank (lBank l.raw) n 0 k).wr COMP.LAYER_STAT.format (lFmt l.raw) n 0 k).wr
      COMP.LAYER_ADDR.addr (field l.raw 8 8) n 0 k) s2

/-! ### Checks of a packet (R256 to R258) -/

/-- Whether a header keeps R256. -/
def headerOk (d : List Byte) : Bool :=
  let c := field d 0 4
  bits c 0 4 == 1 && bits c 5 3 == 0 && decide (1 ≤ bits c 8 5 ∧ bits c 8 5 ≤ 16) && bits c 13 3 == 0 && bits c 18 14 == 0 &&
    field d 4 4 == 0 && field d 8 8 % 64 == 0 && field d 0x12 6 == 0 && field d 0x28 8 == 0 && field d 0x30 8 == 0 &&
    field d 0x38 8 == 0

/-- Whether a scale from src to dst lies in 1/4 to 16 (R258). -/
def scaleOk (src dst : Nat) : Bool := decide (src ≤ 4 * dst ∧ dst ≤ 16 * src)

/-- Whether a layer record keeps R257 and the further cases of R258. -/
def recordOk (r : List Byte) : Bool :=
  let c := lCtrl r; let f := lFmt r
  let (sx, sy, sw, sh) := lSrc r; let (dw, dh) := lDstSize r; let (dx, dy) := lDst r
  bits c 14 2 == 0 && bits c 19 13 == 0 &&
  (!lEnable r ||
    (lBlend r != 3 && decide (1 ≤ f ∧ f ≤ 10) && decide (field r 4 4 < 256) && field r 8 8 % 256 == 0 && field r 0x10 8 % 256 == 0 &&
     field r 0x18 2 % 64 == 0 && field r 0x1A 2 % 64 == 0 && decide (1 ≤ sw ∧ sw ≤ 4096 ∧ 1 ≤ sh ∧ sh ≤ 16384) &&
     decide (1 ≤ dw ∧ dw ≤ 16384 ∧ 1 ≤ dh ∧ dh ≤ 16384) && decide (-16384 ≤ dx ∧ dx ≤ 16383 ∧ -16384 ≤ dy ∧ dy ≤ 16383) &&
     field r 0x2E 2 == 0 && field r 0x38 8 == 0 &&
     (if isYcc f then lCsc r != 0 else lCsc r == 0 || lCsc r == 7) &&
     (if is420 f then field r 0x10 8 != 0 else field r 0x10 8 == 0) &&
     decide (sw * bpp0 f ≤ field r 0x18 2) && (!is420 f || decide (sw * bpp1 f ≤ field r 0x1A 2)) &&
     scaleOk sw dw && scaleOk sh dh &&
     (!isYcc f || (sx % 2 == 0 && sw % 2 == 0)) && (!is420 f || (sy % 2 == 0 && sh % 2 == 0))))

/-- The first fault of a packet's records: an index with COMP_BAD_PACKET, or with COMP_LAYER_OWNER (R258). -/
def State.packetFault (s : State) (inst h : Nat) (recs : List (List Byte)) : Option (Nat × Nat) :=
  let idx := List.range recs.length
  let bad := fun (i : Nat) =>
    !recordOk (recs.getD i []) || (recs.take i).any (fun r => lLayer r == lLayer (recs.getD i []))
  let foreign := fun (i : Nat) => s.layerOwner h (lLayer (recs.getD i [])) != instRid inst
  match idx.find? bad with
  | some i => some (Code.COMP_BAD_PACKET, i)
  | none => (idx.find? foreign).map (fun i => (Code.COMP_LAYER_OWNER, i))

/-! ### Ends of packets (R260) -/

/-- Key of the wait of record i of a packet. -/
def packetWait (p : Packet) (i : Nat) : Nat := 4096 + p.id * 16 + i

/-- The open packets of an engine. -/
def State.openPackets (s : State) (n : Nat) : List Packet :=
  s.pend (2 * n) ++ s.pend (2 * n + 1) ++ s.latched (2 * n) ++ s.latched (2 * n + 1)

/-- Write the records of ended packets that no older packet of their ring holds back (R199, R260). -/
def State.drainEnds : Nat → State → Nat → State
  | 0, s, _ => s
  | f + 1, s, n =>
    match s.comp.ends.find? (fun e =>
      engOf e.pkt.head == n && !((s.openPackets n).any (fun p => p.ring == e.pkt.ring && decide (p.id < e.pkt.id))) &&
      !(s.comp.ends.any (fun x => x.pkt.ring == e.pkt.ring && decide (x.pkt.id < e.pkt.id)))) with
    | none => s
    | some e =>
      let s1 := { s with comp := { s.comp with ends := s.comp.ends.filter (fun x => x.pkt.id != e.pkt.id) } }
      (s1.endJob e.pkt.ring e.kind (bit (field e.pkt.hdr 0 4) 17) false e.pkt.seq e.code e.detail e.info).drainEnds f n

/-- A packet ends with a record. -/
def State.packetEnd (s : State) (p : Packet) (kind code detail info : Nat) : State :=
  let s1 := (List.range p.recs.length).foldl (fun t i => t.dropWait (packetWait p i)) s
  { s1 with comp := { s1.comp with ends := s1.comp.ends ++ [⟨p, kind, code, detail, info⟩] } }

/-- A packet that has applied ends: its fence is signalled, then its record is due with the frame counter and tag (R196,
R260). -/
def State.packetDone (s : State) (p : Packet) (frame : Nat) : State :=
  if bit (field p.hdr 0 4) 16 then
    match s.signal (reqFor (s.ringRid p.ring) (portComp (engOf p.head))) (field p.hdr 0x10 2) (field p.hdr 0x18 8) with
    | (t, 0) => t.packetEnd p 0 0 frame (field p.hdr 0x20 8)
    | (t, c) => t.packetEnd p 1 c frame (t.fenceAddr (field p.hdr 0x10 2))
  else s.packetEnd p 0 0 frame (field p.hdr 0x20 8)

/-- A discarded flip of a layer (R216, R260). -/
def State.flipDiscarded (s : State) (h l : Nat) : State :=
  s.event (s.layerOwner h l) .comp (engOf h) Code.COMP_FLIP_DISCARDED (evDetail h l)

/-- The code with which a wait of a packet has ended, if one has. -/
def State.packetCode (s : State) (p : Packet) : Nat :=
  ((List.range p.recs.length).map (fun i => match s.waitOf (packetWait p i) with | some w => w.code | none => 0)).foldl
    (fun a c => if a = 0 then c else a) 0

/-- Whether every wait of a packet is met. -/
def State.packetMet (s : State) (p : Packet) : Bool :=
  (List.range p.recs.length).all (fun i => match s.waitOf (packetWait p i) with | some w => w.met | none => true)

/-- Discard the pending packets of a head whose waits have ended with a code (R260). -/
def State.discardHead (s : State) (h : Nat) : State :=
  let bad := (s.pend h).filter (fun p => s.packetCode p != 0)
  let s1 := s.setPend h ((s.pend h).filter (fun p => s.packetCode p == 0))
  bad.foldl (fun t p =>
    let u := (t.packetEnd p 1 (s.packetCode p) 0 0).count .comp (engOf h) 5
    p.recs.foldl (fun v r => v.flipDiscarded h (lLayer r)) u) s1

/-- Discard what waits have ended on every head of an engine and write the records that are due. -/
def State.discard (s : State) (n : Nat) : State :=
  let s1 := (s.discardHead (2 * n)).discardHead (2 * n + 1)
  (State.drainEnds (s1.comp.ends.length + 1) s1 n).compShow n

/-- Discard on every engine. -/
def State.discardAll (s : State) : State := (List.range 4).foldl (fun t n => t.discard n) s

/-! ### Taking a packet (R258, R259) -/

/-- Whether an engine takes packets: it is enabled (R269). -/
def State.compOn (s : State) (n : Nat) : Bool := s.on (HDR.enable .comp) n

/-- Head a ring's next packet is for. -/
def State.nextHead (s : State) (n r : Nat) : Nat :=
  match (s.ring r).pre with
  | e :: _ => 2 * n + bits (field e.2.2 0 4) 4 1
  | [] => 2 * n

/-- What a composition engine starts at a job boundary: no packet for a head whose table holds 32, which counts a stall
(R193, R259). -/
def State.compBoundary (s : State) (n : Nat) : State :=
  if (s.job 1 n).isSome ∨ !s.compOn n then s
  else
    let all := s.readyRings 1 n
    let room := all.filter (fun r => decide ((s.pend (s.nextHead n r)).length < 32))
    let s1 := if room.length < all.length then s.count .comp n 14 else s
    match s1.pickAmong 1 n room with
    | some r => s1.startJob r 1 n
    | none => s1

/-- End a packet that never became pending (R258). -/
def State.packetRefused (s : State) (n : Nat) (j : Job) (code idx : Nat) : State :=
  let p : Packet := ⟨s.comp.nextId, j.ring, j.seq, j.desc, 2 * n + bits (field j.desc 0 4) 4 1, []⟩
  let s1 := { s with comp := { s.comp with nextId := s.comp.nextId + 1 } }
  let s2 := s1.packetEnd p 1 code 0 idx
  State.drainEnds (s2.comp.ends.length + 1) s2 n

/-- COMMIT_PACKET: the engine checks the packet it has taken and enters it in its head's pending table, its waits
registered (R258, R259). -/
def State.commitPacket (s : State) (n : Nat) : State :=
  match s.job 1 n with
  | none => s
  | some j =>
    let s0 := s.setJob 1 n none
    let d := j.desc
    let h := 2 * n + bits (field d 0 4) 4 1
    let cnt := bits (field d 0 4) 8 5
    let q := reqFor (s.ringRid j.ring) (portComp n)
    if !headerOk d then s0.packetRefused n j Code.COMP_BAD_PACKET 31
    else match s0.memFault q false (field d 8 8) (64 * cnt) with
    | some f => (s0.memRecord q f).packetRefused n j Code.COMP_BAD_PACKET 31
    | none =>
      let sr := s0.fetched q (field d 8 8) (64 * cnt)
      let recs := (List.range cnt).map (fun i => s0.rdBytes (field d 8 8 + 64 * i) 64)
      match sr.packetFault (ringInst j.ring) h recs with
      | some (code, i) => sr.packetRefused n j code i
      | none =>
        let p : Packet := ⟨s.comp.nextId, j.ring, j.seq, d, h, recs⟩
        let s1 := ({ sr with comp := { sr.comp with nextId := sr.comp.nextId + 1 } }).setPend h (sr.pend h ++ [p])
        let s2 := (List.range cnt).foldl (fun t i =>
          let r := recs.getD i []
          if lWait r then t.addWait (packetWait p i) (instRid (ringInst j.ring)) (field r 0x2C 2) (field r 0x30 8) else t) s1
        s2.discard n

/-- COMMIT_PACKET (R258). -/
def execCommitPacket (n : Fin 4) (s : State) : Out := .next (s.commitPacket n.val)

/-! ### Latch and flip (R259 to R261) -/

/-- The pending packets of a head whose waits are met now, by number. -/
def State.metPackets (s : State) (h : Nat) : List Nat := ((s.pend h).filter s.packetMet).map (·.id)

/-- Pending packets that apply at a latch, in order: those whose waits were met at its start, where no earlier packet that stays names one of their
layers (R259 step 2). -/
def applying (met : List Nat) : List Packet → List Nat → List Packet × List Packet
  | [], _ => ([], [])
  | p :: t, held =>
    let ls := p.recs.map lLayer
    if met.contains p.id && ls.all (fun l => !held.contains l) then
      let r := applying met t held
      (p :: r.1, r.2)
    else
      let r := applying met t (held ++ ls)
      (r.1, p :: r.2)

/-- A packet takes effect on the layers of its head; a layer already changed at this latch has its earlier flip superseded
(R259, R260, R261). -/
def State.applyPacket (s : State) (h : Nat) (p : Packet) (seen : List Nat) : State :=
  let n := engOf h
  let s1 := p.recs.foldl (fun t r =>
    let l := lLayer r
    let t1 := if seen.contains l then (t.flipDiscarded h l).count .comp n 6 else t
    let t2 := t1.setLayer h l (if lEnable r then ⟨r, true, none⟩ else { t1.layer h l with enabled := false, subst := none })
    let t3 := { t2 with comp := { t2.comp with substQ := mset t2.comp.substQ (lkey h l) 0 0 } }
    t3.wr COMP.LAYER_SUBST.force 0 n 0 (16 * (h % 2) + l)) s
  s1.count .comp n 4

/-- Latch the new layer state of a head (R259 steps 2 and 3, R261): of the packets whose waits were met at the start of the blanking those that may apply
do so in order, then forced substitutes of layers that no packet has changed. -/
def State.compLatch (s : State) (h : Nat) (met : List Nat) : State :=
  let n := engOf h
  let s0 := s.discardHead h
  let (app, rest) := applying met (s0.pend h) []
  let s1 := (s0.setPend h rest).setLatched h (s0.latched h ++ app)
  let r := app.foldl (fun (a : State × List Nat) p => (a.1.applyPacket h p a.2, a.2 ++ p.recs.map lLayer)) (s1, [])
  let s2 := (List.range 16).foldl (fun t l =>
    if mget t.comp.substQ (lkey h l) 0 = 0 then t
    else
      let u := { t with comp := { t.comp with substQ := mset t.comp.substQ (lkey h l) 0 0 } }
      if (u.layer h l).enabled then
        u.setLayer h l { u.layer h l with subst := some (u.rd COMP.LAYER_SUBST.colour n 0 (16 * (h % 2) + l)) }
      else u) r.1
  let s3 := { s2 with comp := { s2.comp with fetchBad := mdrop s2.comp.fetchBad (lkey h 0) (lkey h 16) } }
  (State.drainEnds (s3.comp.ends.length + 1) s3 n).compShow n

/-- End the packets latched into the frame just shown (R260). -/
def State.endLatched (s : State) (h frame : Nat) : State :=
  let ps := s.latched h
  let s1 := ps.foldl (fun t p => t.packetDone p frame) (s.setLatched h [])
  (State.drainEnds (s1.comp.ends.length + 1) s1 (engOf h)).compShow (engOf h)

/-- Start composing the next frame of a head. -/
def State.startCompose (s : State) (h : Nat) : State :=
  ({ s with comp := { s.comp with
      busy := mset s.comp.busy h 1 0
      complete := mset s.comp.complete h 0 0
      late := mset s.comp.late h 0 0 } }).compShow (engOf h)

/-- Drop the frame being composed for a head, or complete and not shown: nothing is composed for a head that does not run (R260). -/
def State.composeStop (s : State) (h : Nat) : State :=
  ({ s with comp := { s.comp with
      busy := mset s.comp.busy h 0 0
      complete := mset s.comp.complete h 0 0
      late := mset s.comp.late h 0 0 } }).compShow (engOf h)

/-! ### Fetch errors and substitutes (R261, R269) -/

/-- A fetch of a layer has failed: it is drawn as its substitute for this frame, counted and reported to its owner. -/
def State.fetchError (s : State) (h l : Nat) : State :=
  let n := engOf h
  let s1 := { s with comp := { s.comp with fetchBad := mset s.comp.fetchBad (lkey h l) 1 0 } }
  ((s1.count .comp n 7).raise .comp n 10).event (s.layerOwner h l) .comp n Code.COMP_FETCH_ERROR (evDetail h l)

/-- The rows of a layer's source rectangle in each plane, as (address, bytes) (R257). -/
def fetchRows (r : List Byte) : List (Nat × Nat) :=
  let f := lFmt r
  let (sx, sy, sw, sh) := lSrc r
  (List.range sh).map (fun y => (field r 8 8 + (sy + y) * field r 0x18 2 + sx * bpp0 f, sw * bpp0 f)) ++
    (if is420 f then (List.range (sh / 2)).map (fun y => (field r 0x10 8 + (sy / 2 + y) * field r 0x1A 2 + sx * bpp1 f, sw * bpp1 f))
     else [])

/-- Requester of a layer's fetches: its owner, through its engine's port (R107, R161). -/
def State.compReq (s : State) (h l : Nat) : Req := reqFor (s.layerOwner h l) (portComp (engOf h))

/-- The first failure of a layer's fetches. -/
def State.fetchFault (s : State) (h l : Nat) (r : List Byte) : Option (Nat × Nat) :=
  (fetchRows r).findSome? (fun p => s.memFault (s.compReq h l) false p.1 p.2)

/-- LAYER_FETCH_ERROR: a fetch of a layer of the frame being composed gets an error response (R269). -/
def execLayerFetchError (h : Fin 8) (l : Fin 16) (code : BitVec 16) (addr : Addr) (s : State) : Out :=
  let k := h.val; let i := l.val
  .next (if mget s.comp.busy k 0 = 0 ∨ !s.compOn (engOf k) ∨ !(s.layer k i).enabled ∨ (s.layer k i).subst ≠ none ∨ mget s.comp.fetchBad (lkey k i) 0 ≠ 0 then s
    else (s.memRecord (s.compReq k i) (code.toNat, addr.toNat)).fetchError k i)

/-- A write of LAYER_SUBST for the layer in LAYER_SEL: a 1 in force asks for the substitute at the next latch (R261). -/
def State.substWrite (s : State) (w : Who) (n v : Nat) : State :=
  let k := s.rd COMP.LAYER_SEL.layer n
  s.onWrite w .comp n 0x148 v (fun t =>
    let t1 := t.storeWord .comp n 0x148 v
    if bit v 31 then
      { t1 with comp := { t1.comp with substQ := mset t1.comp.substQ (lkey (2 * n + k / 16) (k % 16)) 1 0 } }
    else t1)

/-- LAYER_SUBST_FORCE (R261). -/
def execLayerSubstForce (w : Who) (n : Fin 4) (v : Word) (s : State) : Out := .next (s.substWrite w n.val v.toNat)

/-! ### Scaler banks (R263) -/

/-- The next COEF_SEL word and phase after a write. -/
def State.coefAdvance (s : State) (n : Nat) : State :=
  let last := if s.rd COMP.COEF_SEL.table n = 0 then 3 else 2
  if s.rd COMP.COEF_SEL.word n < last then s.wr COMP.COEF_SEL.word (s.rd COMP.COEF_SEL.word n + 1) n
  else (s.wr COMP.COEF_SEL.word 0 n).wr COMP.COEF_SEL.phase (s.rd COMP.COEF_SEL.phase n + 1) n

/-- A write of COEF_DATA: refused for a bank in use, else stored, and the word advances (R263, R272). -/
def State.coefWrite (s : State) (w : Who) (n v : Nat) : State :=
  s.onWrite w .comp n 0x134 v (fun t =>
    if bit (t.rd COMP.COEF_USE.banks n) (t.rd COMP.COEF_SEL.bank n) then
      (t.refuse .comp n Code.COMP_COEF_BUSY w.rid 0x134).count .comp n 15
    else (t.storeWord .comp n 0x134 v).coefAdvance n)

/-- COEF_DATA_WRITE (R263). -/
def execCoefDataWrite (w : Who) (n : Fin 4) (v : Word) (s : State) : Out := .next (s.coefWrite w n.val v.toNat)

/-! ### Composing a frame, and writeback (R264 to R271) -/

/-- The Basin pixel of a head's composed frame at (x, y): the layers over the background (R266). -/
def State.composed (s : State) (h x y : Nat) : Nat :=
  let n := engOf h
  let bg := colour30 (s.rd COMP.BG.colour n (h % 2))
  basinPixel (s.on HEAD.FMT.bpc10 h) ((List.range 16).foldl (fun d l =>
    let la := s.layer h l
    let la' := if mget s.comp.fetchBad (lkey h l) 0 ≠ 0 then
      { la with subst := some (s.rd COMP.LAYER_SUBST.colour n 0 (16 * (h % 2) + l)) } else la
    s.overLayer n la' x y d) bg)

/-- The bytes of a row of a composed frame. -/
def State.composedRow (s : State) (h w y : Nat) : List Byte :=
  (List.range w).flatMap (fun x => leBytes 4 (s.composed h x y))

/-- Writeback state of a head. -/
def State.wb (s : State) (h : Nat) : WbSt := mget s.comp.wb h {}
/-- Set the writeback state of a head. -/
def State.setWb (s : State) (h : Nat) (v : WbSt) : State := { s with comp := { s.comp with wb := mset s.comp.wb h v {} } }

/-- Who hears of a head's skipped writebacks: its owner, or the manager for one that is not Running (R271). -/
def State.wbHearer (s : State) (h : Nat) : Nat :=
  let o := s.rd COMP.WB_CTRL.owner (engOf h) (h % 2)
  if o < 64 ∧ s.instState o = 2 then o else 0xFE

/-- Report the frames skipped since the last event (R271). -/
def State.wbReport (s : State) (h : Nat) : State :=
  let w := s.wb h
  ((s.setWb h { w with skips := 0, since := s.now }).raise .comp (engOf h) 11).event (s.wbHearer h) .comp (engOf h)
    Code.COMP_WB_SKIP (evDetail h w.skips)

/-- Skip a writeback frame: counted, and reported once per second while the run lasts (R271). -/
def State.wbSkip (s : State) (h : Nat) : State :=
  let w := s.wb h
  let w1 := { w with skips := w.skips + 1, run := true, since := if w.run then w.since else s.now }
  let s1 := (s.setWb h w1).count .comp (engOf h) (10 + h % 2)
  if w.run ∧ w.since + 1000000000 ≤ s.now then s1.wbReport h else s1

/-- Store rows of a composed frame to a writeback buffer, up to the first that is refused, and whether none was (R271, R272). -/
def State.wbRows (s : State) (q : Req) (h w a pitch : Nat) : Nat → Nat → State × Bool
  | 0, _ => (s, true)
  | f + 1, y =>
    match s.tryStore q (a + y * pitch) (s.composedRow h w y) with
    | (t, none) => (t.count .comp (engOf h) 13 (w * 4)).wbRows q h w a pitch f (y + 1)
    | (t, some _) => (t, false)

/-- Every write of a head's writeback frame has its response: the signal slot is written and WB_SEQ set, and a run of skips is
reported (R271). -/
def State.wbDone (s : State) (h : Nat) : State :=
  let n := engOf h; let j := h % 2
  if !(s.wb h).busy then s
  else
    let w := s.rd COMP.WB_SEQ.w n j + 1
    let o := s.rd COMP.WB_CTRL.owner n j
    let i := if o = 0xFE then 0 else o
    let s1 := s.setWb h { s.wb h with busy := false }
    match s1.signal (reqFor (instRid i) portWb) (i * 1024 + s.rd COMP.WB_FENCE.signal_slot n j) w with
    | (t, 0) =>
      let t1 := (t.wr COMP.WB_SEQ.w w n j).count .comp n (8 + j)
      let t2 := if (t1.wb h).skips ≠ 0 then t1.wbReport h else t1
      t2.setWb h { t2.wb h with run := false }
    | (t, _) => t.wbSkip h

/-- WB_FRAME_DONE (R271). -/
def execWbFrameDone (h : Fin 8) (s : State) : Out := .next (s.wbDone h.val)

/-- Writeback of the frame just composed: a frame whose count is a multiple of the divisor is written if its buffer has
been released, else skipped; the writes of the frame before it have ended by then (R270, R271, log 221). -/
def State.wbFrame (r : State) (h : Nat) : State :=
  let s := r.wbDone h
  let n := engOf h; let j := h % 2
  if !s.on COMP.WB_CTRL.enable n j then s
  else
    let c := (s.wb h).count + 1
    let s1 := s.setWb h { s.wb h with count := c }
    if c % max 1 (s.rd COMP.WB_CTRL.divisor n j) ≠ 0 then s1
    else
      let o := s.rd COMP.WB_CTRL.owner n j
      let k := if o = 0xFE then 0 else o
      let bufs := clamp 1 4 (s.rd COMP.WB_CTRL.buffers n j)
      let w := s.rd COMP.WB_SEQ.w n j + 1
      let ack := k * 1024 + s.rd COMP.WB_FENCE.ack_slot n j
      let area := s.compArea h
      let a := s.rd COMP.WB_BASE.base n j + (w - 1) % bufs * s.rd COMP.WB_STRIDE.bytes n j
      if 63 < k ∨ s.instState k ≠ 2 then s1.wbSkip h
      else match s1.fenceTest (reqFor (instRid k) portWb) ack (w - bufs) with
        | (t, 0, true) =>
          (match t.wbRows (reqFor (instRid k) portWb) h area.1 a (s.rd COMP.WB_PITCH.bytes n j) area.2 0 with
          | (u, true) => u.setWb h { u.wb h with busy := true }
          | (u, false) => u.wbSkip h)
        | (t, _, _) => t.wbSkip h

/-- COMPOSE_FRAME_DONE, on an engine that is enabled: layers that cannot be fetched are drawn as their substitutes, the frame's pixels are in the back buffer, and
the buffer is complete (R259, R266, R268, R269). -/
def State.composeDone (s : State) (h : Nat) : State :=
  let n := engOf h
  if mget s.comp.busy h 0 = 0 ∨ !s.compOn n then s
  else
    let s1 := (List.range 16).foldl (fun t l =>
      let la := t.layer h l
      if la.enabled && la.subst.isNone && mget t.comp.fetchBad (lkey h l) 0 == 0 then
        match t.fetchFault h l la.raw with
        | some e => (t.memRecord (t.compReq h l) e).fetchError h l
        | none => (fetchRows la.raw).foldl (fun (u : State) p => (u.fetched (u.compReq h l) p.1 p.2).count .comp n 12 p.2) t
      else t) s
    let (w, ht) := s1.compArea h
    let base := s1.bufBase h (1 - s1.rd HEAD.HEAD_STAT.front h)
    let s2 := (List.range ht).foldl (fun t y => t.basinWrite (base + y * basinPitch w) (s1.composedRow h w y)) s1
    let s3 := ((s2.count .comp n (h % 2)).count .basin 0 5 (w * ht * 4)).wbFrame h
    ({ s3 with comp := { s3.comp with busy := mset s3.comp.busy h 0 0, complete := mset s3.comp.complete h 1 0 } }).compShow n

/-- COMPOSE_FRAME_DONE (R268). -/
def execComposeFrameDone (h : Fin 8) (s : State) : Out := .next (s.composeDone h.val)

/-! ### The engine's registers at a latch (R272) -/

/-- Whether a cell key of COMPn belongs to local head j: its background and writeback registers. -/
def compPart (j k : Nat) : Bool :=
  let off := k / 64 % 4096
  off == 0x108 + 4 * j || decide (0x160 + 0x20 * j ≤ off ∧ off < 0x180 + 0x20 * j)

/-- Whether a cell key of COMPn belongs to the colour matrix. -/
def compCsc (k : Nat) : Bool := decide (0x110 ≤ k / 64 % 4096 ∧ k / 64 % 4096 ≤ 0x128)

/-- A staged set of COMPn applies its part for local head j, and the matrix at the first latch of either; the commit ends when
both heads have applied (R272). -/
def State.compApply (s : State) (n j : Nat) : State :=
  let pg := Blk.page .comp n
  let left := mget s.parts pg 0
  if !s.on (HDR.pending .comp) n ∨ !bit left j then s
  else
    let was := s.on COMP.WB_CTRL.enable n j
    let s1 := s.applyPart .comp n (fun k => compPart j k || (bit left 2 && compCsc k))
    let left' := clrBit (clrBit left j) 2
    let s2 := { s1 with parts := mset s1.parts pg left' 0 }
    let h := 2 * n + j
    let s3 := if s2.on COMP.WB_CTRL.enable n j && !was then (s2.setWb h {}).wr COMP.WB_SEQ.w 0 n j else s2
    if left' = 0 then s3.commitDone .comp n else s3

/-- DISABLED_HEAD_LATCH: a latch point of a disabled head; packets end at the latch at which they apply (R260, R272). -/
def State.disabledLatch (s : State) (h : Nat) : State :=
  let n := engOf h
  if s.on (HDR.enable .head) h ∨ s.rd HEAD.HEAD_STAT.state h ≠ 0 then s
  else
    let s1 := s.compApply n (h % 2)
    if !s1.compOn n then s1 else (s1.compLatch h (s1.metPackets h)).endLatched h (s1.rd HEAD.FRAME_CNT.count h)

/-- DISABLED_HEAD_LATCH (R260). -/
def execDisabledHeadLatch (h : Fin 8) (s : State) : Out := .next (s.disabledLatch h.val)

/-- The flip of R259 step 1 at a start of vertical blanking, and what a late back buffer brings instead (R269): whether the
buffers swapped, and whether the engine latches. -/
def State.compBlank (s : State) (h : Nat) : State × Bool × Bool :=
  let n := engOf h
  if !s.compOn n then (s, false, false)
  else if mget s.comp.complete h 0 ≠ 0 then
    ({ s with comp := { s.comp with complete := mset s.comp.complete h 0 0 } }, true, true)
  else if mget s.comp.busy h 0 = 0 then (s, false, true)
  else
    let s1 := { s with comp := { s.comp with late := mset s.comp.late h 1 0 } }
    let s2 := ((s1.count .comp n (2 + h % 2)).raise .comp n (8 + h % 2)).eventHead h .comp n Code.COMP_LATE h
      (s1.rd HEAD.FRAME_CNT.count h)
    (s2.compShow n, false, false)

end Sys2Proof.Machine
end

