-- ==== Sys2Proof/Machine/Heads.lean ====
section
/-! DEFINITION. Basin granules and window, head timing, enabling, commit groups and genlock (R273 to R297). -/

namespace Sys2Proof.Machine

/-- What a head holds beyond its page. -/
def State.head (s : State) (h : Nat) : HeadSt := mget s.heads h {}
/-- Set what a head holds beyond its page. -/
def State.setHead (s : State) (h : Nat) (v : HeadSt) : State := { s with heads := mset s.heads h v {} }

/-- Whether a head's timing generator runs (R284). -/
def State.running (s : State) (h : Nat) : Bool := s.rd HEAD.HEAD_STAT.state h == 2

/-- Whether a head is disabled; one that is starting is not: a staged set waits for its first start of vertical blanking (R282, R284, R285). -/
def State.headOff (s : State) (h : Nat) : Bool := s.rd HEAD.HEAD_STAT.state h == 0

/-- Whether a head's pixel clock runs: its PLL is locked and the reference is present; else the clock is gated (R103). -/
def State.headClock (s : State) (h : Nat) : Bool := s.on HEAD.HEAD_STAT.pll_lock h && s.pwr.osc

/-- Draw a free value. -/
def State.draw (s : State) : Nat × State := ((Config.freeValue s.free).toNat, { s with free := s.free + 1 })

/-- A staged set is discarded: pending clears, and commit_seq and commit_done stay (R61). -/
def State.discardSet (s : State) (b : Blk) (i : Nat) : State :=
  let p := b.page i
  ({ s with staged := dropOffs s.staged p 0x100 0x800, parts := mset s.parts p 0 0 }).wr (HDR.pending b) 0 i

/-- Reset the registers 0x100 to 0x7FF of a page and discard its staged set (R55, R61). -/
def State.softRegs (s0 : State) (b : Blk) (i : Nat) : State :=
  let s := s0.discardSet b i
  let p := b.page i
  (({ s with
    regs := dropOffs s.regs p 0x100 0x800
    act := dropOffs s.act p 0x100 0x800
    shadow := dropOffs s.shadow p 0x100 0x800 }).wr (HDR.group b) 0 i).wr (HDR.dirty b) 0 i

/-! ### Timing (R279 to R282) -/

/-- Numerator of N + F / 2^24, over 2^24 (R280). -/
def pllNum (g : Fld → Nat) : Nat := g HEAD.PLL_INT.n * 2 ^ 24 + g HEAD.PLL_FRAC.f
/-- Nominal pixel clock in Hz as a fraction: 38.4 MHz × (N + F / 2^24) / (M × P) (R280). -/
def pclkNum (g : Fld → Nat) : Nat := 38400000 * pllNum g
/-- Denominator of the nominal pixel clock. -/
def pclkDen (g : Fld → Nat) : Nat := 2 ^ 24 * (g HEAD.PLL_INT.m + 1) * g HEAD.PLL_INT.p
/-- Pixel clocks in a line (R279). -/
def htotal (g : Fld → Nat) : Nat := g HEAD.TIM_H.hact + g HEAD.TIM_H.hfp + g HEAD.TIM_HS.hsync + g HEAD.TIM_HS.hbp
/-- Lines in a frame (R279). -/
def vtotal (g : Fld → Nat) : Nat := g HEAD.TIM_V.vact + g HEAD.TIM_V.vfp + g HEAD.TIM_VS.vsync + g HEAD.TIM_VS.vbp

/-- The active values of a head. -/
def State.hv (s : State) (h : Nat) (f : Fld) : Nat := s.rd f h

/-- Nominal frame period in ns, rounded down (R279). -/
def State.periodNs (s : State) (h : Nat) : Nat :=
  htotal (s.hv h) * vtotal (s.hv h) * 1000000000 * pclkDen (s.hv h) / pclkNum (s.hv h)

/-- GL_OFFSET_PPM as a signed number. -/
def State.glPpm (s : State) (h : Nat) : Int := toSigned 16 (s.rd HEAD.GL_OFFSET_PPM.ppm h)

/-- Time in ns of n lines at the present pixel clock, the offset of genlock included (R292, R295). -/
def State.linesNs (s : State) (h n : Nat) : Nat :=
  n * htotal (s.hv h) * 1000000000 * pclkDen (s.hv h) * 1000000 / (pclkNum (s.hv h) * (1000000 + s.glPpm h).toNat)

/-- Whether a value lies in a range. -/
def within (lo hi v : Nat) : Bool := decide (lo ≤ v) && decide (v ≤ hi)

/-- Frame rate compared with a limit given in tenths of Hz: at most it. -/
def rateLe (g : Fld → Nat) (lim : Nat) : Bool := decide (10 * pclkNum g ≤ lim * pclkDen g * htotal g * vtotal g)
/-- Frame rate compared with a limit given in tenths of Hz: at least it. -/
def rateGe (g : Fld → Nat) (lim : Nat) : Bool := decide (lim * pclkDen g * htotal g * vtotal g ≤ 10 * pclkNum g)

/-- Whether the active size of a set is beyond what any head shows (R281). -/
def largeMode (g : Fld → Nat) : Bool := decide (2560 < g HEAD.TIM_H.hact) || decide (1600 < g HEAD.TIM_V.vact)

/-- The offset of the first register of a set of values that breaks R281 on head h. A limit on the clock or the frame rate names
PLL_INT. -/
def timingBad (g : Fld → Nat) (h : Nat) : Option Nat :=
  let big := largeMode g
  let hmax := if h < 4 then 3840 else 2560
  let vmax := if h < 4 then 2160 else 1600
  if !(within 64 hmax (g HEAD.TIM_H.hact) && g HEAD.TIM_H.hact % 2 == 0 && within 8 4095 (g HEAD.TIM_H.hfp)) then some 0x104
  else if !(within 8 4095 (g HEAD.TIM_HS.hsync) && within 8 4095 (g HEAD.TIM_HS.hbp) && decide (htotal g ≤ 8192)) then some 0x108
  else if !(within 64 vmax (g HEAD.TIM_V.vact) && within 1 4095 (g HEAD.TIM_V.vfp)) then some 0x10C
  else
    let vb := g HEAD.TIM_V.vfp + g HEAD.TIM_VS.vsync + g HEAD.TIM_VS.vbp
    if !(within 1 4095 (g HEAD.TIM_VS.vsync) && within 1 4095 (g HEAD.TIM_VS.vbp) && decide (3 ≤ vb) && decide (vtotal g ≤ 8192) &&
        decide (pclkNum g ≤ vb * htotal g * pclkDen g * 50000)) then some 0x110
    else if !(within 16 1023 (g HEAD.PLL_INT.n) && within 1 255 (g HEAD.PLL_INT.p) &&
        decide (2000000000 * 2 ^ 24 * (g HEAD.PLL_INT.m + 1) ≤ pclkNum g) &&
        decide (pclkNum g ≤ 6000000000 * 2 ^ 24 * (g HEAD.PLL_INT.m + 1)) &&
        decide (25000000 * pclkDen g ≤ pclkNum g) && decide (pclkNum g ≤ 600000000 * pclkDen g) &&
        rateGe g 235 && rateLe g 1205 && (!big || rateLe g 605)) then some 0x118
    else none

/-- The offset of the first register in which a set changes what may not change on an enabled head (R282): PLL_FRAC only
while neither the active nor the new GL_CFG names an input. -/
def changeBad (a g : Fld → Nat) : Option Nat :=
  let noSrc := fun (v : Nat) => v == 0 || v == 3
  if a HEAD.TIM_H.hact ≠ g HEAD.TIM_H.hact then some 0x104
  else if a HEAD.TIM_V.vact ≠ g HEAD.TIM_V.vact then some 0x10C
  else if a HEAD.FMT.bpc10 ≠ g HEAD.FMT.bpc10 then some 0x114
  else if a HEAD.PLL_INT.n ≠ g HEAD.PLL_INT.n ∨ a HEAD.PLL_INT.m ≠ g HEAD.PLL_INT.m ∨ a HEAD.PLL_INT.p ≠ g HEAD.PLL_INT.p then some 0x118
  else if a HEAD.PLL_FRAC.f ≠ g HEAD.PLL_FRAC.f ∧ !(noSrc (a HEAD.GL_CFG.src) && noSrc (g HEAD.GL_CFG.src)) then some 0x11C
  else none

/-- The lower of two offsets. -/
def firstOff (a b : Option Nat) : Option Nat :=
  match a, b with
  | some x, some y => some (min x y)
  | some x, none => some x
  | none, y => y

/-- The offset of the first register of a head's shadow set that keeps it from being staged (R282). -/
def State.headSetBad (s : State) (h : Nat) : Option Nat :=
  let g := fun f => s.rdSh f h
  if s.on (HDR.enable .head) h then firstOff (timingBad g h) (changeBad (s.hv h) g) else timingBad g h

/-! ### Basin (R273 to R278) -/

/-- First address of the Basin window (R44, R273). -/
def basinBase : Nat := 0x2000000000

/-- Granules a head needs for its active configuration (R274). -/
def State.need (s : State) (h : Nat) : Nat := granNeed (s.compArea h)

/-- Granules assigned to no head (R275). -/
def State.granFree (s : State) : Nat :=
  ((List.range 256).filter (fun g => (List.range 8).all (fun h =>
    !(decide (s.rd BASIN.GRAN.base 0 h ≤ g) && decide (g < s.rd BASIN.GRAN.base 0 h + s.rd BASIN.GRAN.count 0 h))))).length

/-- Whether an assignment of granules to a head is refused, with or without the condition that it be disabled (R275). -/
def State.granBad (s : State) (h base count : Nat) (idle : Bool) : Bool :=
  (idle && (s.on (HDR.enable .head) h || s.rd HEAD.HEAD_STAT.state h != 0)) || count % 2 == 1 || decide (256 < base + count) ||
    (List.range 8).any (fun k =>
      let b := s.rd BASIN.GRAN.base 0 k; let c := s.rd BASIN.GRAN.count 0 k
      k != h && c != 0 && count != 0 && decide (base < b + c) && decide (b < base + count))

/-- A head is held on its safe state until it is disabled and enabled again (R447). -/
def State.pinSafe (s : State) (h : Nat) : State :=
  let s1 := if bit (s.rd SAFE.SAFE_CFG.safe_blank) h then s.wr SAFE.HEAD_SRC.blank (setBit (s.rd SAFE.HEAD_SRC.blank) h)
    else s.wr SAFE.HEAD_SRC.fallback (setBit (s.rd SAFE.HEAD_SRC.fallback) h)
  { s1 with safe := { s1.safe with heads := mset s1.safe.heads h { mget s1.safe.heads h {} with pinned := true } {} } }

/-- A write of GRAN_h. Boot privilege is not bound by the head being enabled, but a range below what an enabled head needs is refused and holds
that head on its safe state (R275, R447). -/
def State.granWrite (s : State) (w : Who) (h v : Nat) : State :=
  let off := 0x100 + 4 * h
  s.onWrite w .basin 0 off v (fun t =>
    if w = .boot ∧ t.on (HDR.enable .head) h then
      if bits v 8 9 < granNeed (t.head h).area then (t.pinSafe h).refuse .basin 0 Code.BASIN_GRANULE w.rid off
      else if t.granBad h (bits v 0 8) (bits v 8 9) false then t.refuse .basin 0 Code.BASIN_GRANULE w.rid off
      else t.storeWord .basin 0 off v
    else if t.granBad h (bits v 0 8) (bits v 8 9) true then t.refuse .basin 0 Code.BASIN_GRANULE w.rid off
    else t.storeWord .basin 0 off v)

/-- BASIN_GRAN_WRITE (R275). -/
def execBasinGranWrite (w : Who) (h : Fin 8) (v : Word) (s : State) : Out := .next (s.granWrite w h.val v.toNat)

/-- A correctable Basin error found by a read: counted and recorded (R278). -/
def State.basinCe (s : State) (rid addr : Nat) : State :=
  ((s.recErr .basin 0 Code.BASIN_ECC_CE rid addr).count .basin 0 0).raise .basin 0 9

/-- Heads in whose front or back buffer a word of Basin lies (R215, R275). -/
def State.bufHeads (s : State) (word : Nat) : Nat :=
  (((List.range 8).filter (fun h =>
    decide (s.rd BASIN.GRAN.base 0 h * 1048576 ≤ word * 8) &&
      decide (word * 8 < (s.rd BASIN.GRAN.base 0 h + s.rd BASIN.GRAN.count 0 h) * 1048576))).map (fun h => 2 ^ h)).sum

/-- An uncorrectable Basin error found by a read of a word: counted, recorded, and, in a head's buffer, signalled to the safety island (R215, R278,
R448). -/
def State.basinUe (s : State) (rid word : Nat) : State :=
  let s1 := ((s.recErr .basin 0 Code.BASIN_ECC_UE rid (basinBase + word)).count .basin 0 1).raise .basin 0 10
  let hs := s.bufHeads (word / 8)
  if hs = 0 then s1 else s1.faultLine Code.BASIN_ECC_UE .basin 0 hs

/-- Whether a word of Basin lies in the buffer a running head scans. -/
def State.inFront (s : State) (h word : Nat) : Bool :=
  let base := s.bufBase h (s.rd HEAD.HEAD_STAT.front h)
  let a := s.compArea h
  s.running h && decide (base ≤ word * 8) && decide (word * 8 < base + basinPitch a.1 * a.2)

/-- BASIN_ECC_ERROR: a scan-out or Glint read of a head finds an error in a word of Basin. An uncorrectable word reads as two
pixels of 0 and is signalled to the safety island (R278). -/
def execBasinEccError (h : Fin 8) (word : BitVec 25) (ue : Bool) (s : State) : Out :=
  let k := h.val; let n := word.toNat
  .next (if !s.inFront k n then s
    else if ue then
      let c := s.head k
      (s.setHead k { c with zero := if c.zero.contains n then c.zero else c.zero ++ [n] }).basinUe ridBlock (n * 8)
    else s.basinCe ridBlock (basinBase + n * 8))

/-- The heads' records of uncorrectable words without those that bytes lo to hi - 1 of Basin rewrite whole. -/
def State.healWords (s : State) (lo hi : Nat) : State :=
  (List.range 8).foldl (fun t h =>
    let c := t.head h
    t.setHead h { c with zero := c.zero.filter (fun n => !(decide (lo ≤ n * 8) && decide (n * 8 + 8 ≤ hi))) }) s

/-- A read of n bytes through the Basin window (R278). -/
def State.basinWinRead (s : State) (off n : Nat) (find : Ecc) : State :=
  let s1 := s.count .basin 0 8
  match find with
  | .clean => s1.okResp (s1.basinRead off n)
  | .ce => (s1.basinCe ridMgr (basinBase + off)).okResp (s1.basinRead off n)
  | .ue => (s1.basinUe ridMgr off).errResp

/-- A write through the Basin window: whole 64-bit words store new check bits; less is merged by a read of its word, and is not
performed over an uncorrectable error (R278). -/
def State.basinWinWrite (s : State) (off : Nat) (d : List Byte) (find : Ecc) : State :=
  let s1 := s.count .basin 0 8
  let done := ((s1.basinWrite off d).healWords off (off + d.length)).okResp
  if off % 8 = 0 ∧ d.length % 8 = 0 then done
  else match find with
    | .clean => done
    | .ce => (done.basinCe ridMgr (basinBase + off)).okResp
    | .ue => (s1.basinUe ridMgr off).errResp

/-- An access of a size at an offset that the Basin window takes: 1, 2, 4, 8 or 64 bytes, naturally aligned (R45). -/
def winSizeOk (off n : Nat) : Bool := [1, 2, 4, 8, 64].contains n && off % n == 0

/-- An access of the manager to the Basin window (R44, R45, R278). -/
def State.basinAccess (s : State) (off : Nat) (op : MemOp) (find : Ecc) : State :=
  match op with
  | .read n | .fetch n => if winSizeOk off n then s.basinWinRead off n find else s.refuse .basin 0 Code.REG_SIZE ridMgr (basinBase + off)
  | .write d => if winSizeOk off d.length then s.basinWinWrite off d find else s.refuse .basin 0 Code.REG_SIZE ridMgr (basinBase + off)

/-- BASIN_WINDOW_ACCESS: the manager reads n bytes, or writes bytes, at an offset of the window (R278). -/
def execBasinWindowAccess (off : BitVec 28) (op : MemOp) (find : Ecc) (s : State) : Out := .next (s.basinAccess off.toNat op find)

/-! ### Genlock (R292 to R295) -/

/-- Input of a head's genlock, 1 or 2; 0 none, and 3 acts as 0 (R292). -/
def State.glSrc (s : State) (h : Nat) : Nat := let v := s.rd HEAD.GL_CFG.src h; if v = 3 then 0 else v
/-- Head frames per pulse (R292). -/
def State.glRatio (s : State) (h : Nat) : Nat := clamp 1 8 (s.rd HEAD.GL_CFG.ratio h)
/-- Lines from the start of vertical blanking to the reference point (R292). -/
def State.glLines (s : State) (h : Nat) : Nat :=
  s.rd HEAD.TIM_V.vfp h + s.rd HEAD.GL_CFG.offset h % max 1 (vtotal (s.hv h))

/-- A commit has changed GL_CFG from (src, edge, ratio, offset) (R294). -/
def State.glChange (s : State) (h : Nat) (old : Nat × Nat × Nat × Nat) : State :=
  let src := s.glSrc h
  let st := s.rd HEAD.GL_STAT.state h
  let c := s.head h
  let stop := { c with pulses := [], edge := none, ivals := [], near := 0 }
  if old.1 ≠ src then
    if src = 0 then
      let s1 := (s.setHead h stop).wr HEAD.GL_STAT.missing 0 h
      if s1.rd HEAD.GL_OFFSET_PPM.ppm h = 0 then s1.wr HEAD.GL_STAT.state 0 h else s1
    else ((s.setHead h stop).wr HEAD.GL_STAT.state 1 h).wr HEAD.GL_STAT.missing 0 h
  else if 2 ≤ st ∧ st ≤ 4 ∧ old.2 ≠ (s.rd HEAD.GL_CFG.edge h, s.rd HEAD.GL_CFG.ratio h, s.rd HEAD.GL_CFG.offset h) then
    (s.setHead h { c with pulses := [], near := 0 }).wr HEAD.GL_STAT.state 2 h
  else s

/-- The settings glChange compares. -/
def State.glOld (s : State) (h : Nat) : Nat × Nat × Nat × Nat :=
  (s.glSrc h, s.rd HEAD.GL_CFG.edge h, s.rd HEAD.GL_CFG.ratio h, s.rd HEAD.GL_CFG.offset h)

/-- Once src is 0 the offset slews back to 0 at 500 ppm a frame, and then the head enters Off (R294). -/
def State.glSlew (s : State) (h : Nat) : State :=
  if s.glSrc h ≠ 0 ∨ s.rd HEAD.GL_STAT.state h = 0 then s
  else
    let p := s.glPpm h
    let p' : Int := if 500 < p then p - 500 else if p < -500 then p + 500 else 0
    let s1 := s.wr HEAD.GL_OFFSET_PPM.ppm (ofSigned 16 p') h
    if p' = 0 then s1.wr HEAD.GL_STAT.state 0 h else s1

/-- A pulse is a glitch: counted and flagged (R293). -/
def State.glitch (s : State) (h : Nat) : State := (s.count .head h 6).raise .head h 12

/-- Nominal pulse period in ns (R292). -/
def State.glNominal (s : State) (h : Nat) : Nat := s.glRatio h * s.periodNs h

/-- A pulse while measuring: four consecutive intervals near nominal and each other give the expected period (R294). -/
def State.glMeasure (s : State) (h : Nat) : State :=
  let c := s.head h
  match c.edge with
  | none => s.setHead h { c with edge := some s.now }
  | some e =>
    let d := s.now - e
    let nom := s.glNominal h
    if !(decide (95 * nom ≤ 100 * d) && decide (100 * d ≤ 105 * nom)) then (s.setHead h { c with edge := some s.now, ivals := [] }).glitch h
    else
      let l := c.ivals ++ [d]
      let l4 := if 4 < l.length then l.drop (l.length - 4) else l
      let mn := l4.foldl min d
      let mx := l4.foldl max d
      if l4.length = 4 ∧ 1000 * mx ≤ 1001 * mn then
        let s1 := s.setHead h { c with edge := some s.now, ivals := [], pulses := [], near := 0 }
        ((s1.wr HEAD.GL_PERIOD_NS.ns (l4.sum / 4) h).wr HEAD.GL_STAT.missing 0 h).wr HEAD.GL_STAT.state 2 h
      else s.setHead h { c with edge := some s.now, ivals := l4 }

/-- The next predicted edge (R292). -/
def State.glNext (s : State) (h : Nat) : Nat := (s.head h).edge.getD 0 + s.rd HEAD.GL_PERIOD_NS.ns h

/-- Whether a time lies in the window of ±2 % of the expected period around the predicted edge (R293). -/
def State.inWindow (s : State) (h t : Nat) : Bool :=
  let n := s.glNext h; let p := s.rd HEAD.GL_PERIOD_NS.ns h
  decide (50 * n ≤ 50 * t + p) && decide (50 * t ≤ 50 * n + p)

/-- Whether the window around the predicted edge has ended: the device decides when it closes (R293). -/
def State.windowOver (s : State) (h : Nat) : Bool :=
  decide (50 * s.glNext h + s.rd HEAD.GL_PERIOD_NS.ns h ≤ 50 * s.now)

/-- A pulse of a head's genlock input (R293, R294). -/
def State.glPulse (s : State) (h : Nat) : State :=
  let st := s.rd HEAD.GL_STAT.state h
  if st = 1 ∨ st = 5 then s.glMeasure h
  else if 2 ≤ st ∧ st ≤ 4 ∧ s.glSrc h ≠ 0 then
    if s.inWindow h s.now then s.setHead h { s.head h with pulses := (s.head h).pulses ++ [s.now] } else s.glitch h
  else s

/-- GENLOCK_PULSE: an edge on a GENLOCK input, rising or falling (R292, R293). -/
def execGenlockPulse (input : Fin 2) (falling : Bool) (s : State) : Out :=
  .next ((List.range 8).foldl (fun t h =>
    if t.glSrc h = input.val + 1 ∧ (t.on HEAD.GL_CFG.edge h = falling) then t.glPulse h else t) s)

/-- Phase of a time against the nearest reference point, within half a frame either way (R292). -/
def State.glPhase (s : State) (h t : Nat) : Int :=
  let fr := max 1 (s.linesNs h (vtotal (s.hv h)))
  let ref := s.rd HEAD.VBL_TIME.time h + s.linesNs h (s.glLines h)
  let d := ((t : Int) - (ref : Int)) % (fr : Int)
  if 2 * d ≤ (fr : Int) then d else d - fr

/-- The accepted pulse of a window: the nearest to the prediction, of two equally near the earlier (R293). -/
def nearest (n : Nat) (l : List Nat) : Option Nat :=
  l.foldl (fun a t => match a with
    | none => some t
    | some b => if max t n - min t n < max b n - min b n then some t else some b) none

/-- Detail of a genlock event: the input in bits 31:8, the head as the unit (R294). -/
def State.glEvent (s : State) (h code : Nat) : State := s.eventHead h .head h code h (s.glSrc h - 1)

/-- Steering after an accepted pulse: the offset moves by an amount the spec does not give, at most 500 ppm a frame, and stays within
±5 % of nominal (R295). -/
def State.glSteer (s : State) (h : Nat) : State :=
  let lim := 500 * s.glRatio h
  let (v, s1) := s.draw
  let p : Int := s.glPpm h + ((v % (2 * lim + 1) : Nat) : Int) - lim
  -- GL_OFFSET_PPM is 16 bits wide and signed; ±5 % is ±50,000 ppm, so the register also bounds what it shows.
  s1.wr HEAD.GL_OFFSET_PPM.ppm (ofSigned 16 (max (-32768) (min 32767 p))) h

/-- A window that has ended closes (R293, R294); before its end nothing is decided (log 190). -/
def State.glClose (s : State) (h : Nat) : State :=
  let st := s.rd HEAD.GL_STAT.state h
  if !(decide (2 ≤ st ∧ st ≤ 4)) || s.glSrc h == 0 || !s.windowOver h then s
  else
    let c := s.head h
    let n := s.glNext h
    match nearest n c.pulses with
    | some t =>
      let s1 := (List.range (c.pulses.length - 1)).foldl (fun u _ => u.glitch h) s
      let ph := s1.glPhase h t
      let near := if ph.natAbs ≤ s1.linesNs h 1 then c.near + 1 else 0
      let s2 := (s1.setHead h { s1.head h with pulses := [], edge := some t, near := near }).count .head h 5
      let s3 := ((s2.wr HEAD.GL_PHASE.ns (ofSigned 32 ph) h).wr HEAD.GL_STAT.missing 0 h).glSteer h
      if st = 2 then
        if 8 ≤ near then (((s3.wr HEAD.GL_STAT.state 3 h).count .head h 9).raise .head h 10).glEvent h Code.GENLOCK_ACQUIRED else s3
      else s3.wr HEAD.GL_STAT.state 3 h
    | none =>
      let m := s.rd HEAD.GL_STAT.missing h + 1
      let s1 := s.setHead h { c with edge := some n, near := 0 }
      let s2 := ((s1.count .head h 7).raise .head h 13).wr HEAD.GL_STAT.missing m h
      if st = 3 then s2.wr HEAD.GL_STAT.state 4 h
      else if m < 8 then s2
      else
        let s3 := (s2.wr HEAD.GL_STAT.state 5 h).setHead h { s2.head h with edge := none, ivals := [] }
        if st = 4 then ((s3.count .head h 8).raise .head h 11).glEvent h Code.GENLOCK_LOST else s3

/-- GENLOCK_WINDOW_CLOSE (R293). -/
def execGenlockWindowClose (h : Fin 8) (s : State) : Out := .next (s.glClose h.val)

/-! ### Commit groups (R288 to R291) -/

/-- Whether two heads are configured alike for a cohort: input, ratio, offset, timing and nominal clock (R291). -/
def State.cohortLike (s : State) (h k : Nat) : Bool :=
  s.rd HEAD.GL_STAT.state h == 3 && s.rd HEAD.GL_STAT.state k == 3 && s.glSrc h == s.glSrc k && s.glRatio h == s.glRatio k &&
    [HEAD.GL_CFG.offset, HEAD.TIM_H.hact, HEAD.TIM_H.hfp, HEAD.TIM_HS.hsync, HEAD.TIM_HS.hbp, HEAD.TIM_HS.hpol, HEAD.TIM_V.vact,
     HEAD.TIM_V.vfp, HEAD.TIM_VS.vsync, HEAD.TIM_VS.vbp, HEAD.TIM_VS.vpol].all (fun f => s.rd f h == s.rd f k) &&
    pclkNum (s.hv h) * pclkDen (s.hv k) == pclkNum (s.hv k) * pclkDen (s.hv h)

/-- The first decision point after now: 2 lines before a start of vertical blanking predicted from genlock (R291). -/
def State.decision (s : State) (h : Nat) : Nat :=
  let per := s.rd HEAD.GL_PERIOD_NS.ns h / s.glRatio h
  let back := s.linesNs h (s.glLines h + 2)
  let e := (s.head h).edge.getD 0
  let d0 : Int := (e : Int) - back
  let k : Int := if d0 ≤ s.now then ((s.now : Int) - d0) / (max 1 per : Nat) + 1 else 0
  (d0 + k * per).toNat

/-- Set the decision time of each member that belongs to a cohort of two or more (R291). -/
def State.setCohorts (s : State) (members : List Nat) : State :=
  members.foldl (fun t h =>
    t.setHead h { t.head h with
      due := if (members.filter (fun k => s.cohortLike h k)).length < 2 then none else some (s.decision h) }) s

/-- A member head has applied its part of the group (R289). -/
def State.grpApplied (s : State) (h : Nat) : State :=
  if !s.on BASIN.GRP_STAT.busy || !bit (s.rd BASIN.GRP_STAT.members) h then s
  else
    let a := setBit (s.rd BASIN.GRP_STAT.applied) h
    let s1 := s.wr BASIN.GRP_STAT.applied a
    if a = s1.rd BASIN.GRP_STAT.members then ((s1.wr BASIN.GRP_STAT.busy 0).count .basin 0 3).raise .basin 0 8 else s1

/-- A head's part in an armed group ends. -/
def State.grpLeave (s : State) (h : Nat) : State :=
  if !s.on (HDR.group .head) h then s else ((s.setHead h { s.head h with due := none }).wr (HDR.group .head) 0 h).grpApplied h

/-- A head's staged set applies (R286 step 3, R289). A member whose set a soft reset has discarded still counts as having applied its part:
DESIGN CHOICE, log 172. -/
def State.applyHead (s : State) (h : Nat) : State :=
  if !s.on (HDR.pending .head) h then s.grpLeave h
  else
    let old := s.glOld h
    let s1 := ((s.applySet .head h).glChange h old).count .head h 3
    (if s.on (HDR.group .head) h then s1.count .head h 4 else s1).grpLeave h

/-- A Glint page's staged set applies. -/
def State.applyGlint (s : State) (h : Nat) : State :=
  if h < 6 ∨ !s.on (HDR.pending .glint) h then s else (s.applySet .glint h).wr (HDR.group .glint) 0 h

/-- Whether the shadow set of a composition page breaks a limit of the writeback registers of local head j (R272). -/
def State.wbBad (s : State) (n j : Nat) : Bool :=
  let g := fun (f : Fld) => s.rdSh f n j
  let a := s.compArea (2 * n + j)
  let pitch := g COMP.WB_PITCH.bytes
  let stride := g COMP.WB_STRIDE.bytes
  g COMP.WB_BASE.base % 4096 != 0 ||
    (g COMP.WB_CTRL.enable != 0 && (pitch % 64 != 0 || decide (pitch < a.1 * 4) || stride % 4096 != 0 || decide (stride < pitch * a.2)))

/-- A set staged on a composition page that breaks those limits disables writeback of that head and is recorded; its other registers apply
(R272). -/
def State.wbGuard (s : State) (rid n j : Nat) : State :=
  if !s.wbBad n j then s
  else ({ s with staged := mset s.staged (COMP.WB_CTRL.enable.key n j 0) 0 0 }).recErr .comp n Code.REG_RESERVED rid 0x020

/-- Stage a page's shadow set as a COMMIT does: pending shows until its boundary (R61). -/
def State.stagePage (s : State) (rid : Nat) (b : Blk) (i : Nat) : State :=
  let s1 := (s.stageSet b i).wr (HDR.pending b) 1 i
  if b = .comp then (({ s1 with parts := mset s1.parts (b.page i) 7 0 }).wbGuard rid i 0).wbGuard rid i 1 else s1

/-- The offset of the first register of a Glint shadow set that keeps it from being staged; fixed says that the enable and the source size may
not change, as on an enabled head (R299, R300, R307). -/
def State.glintSetBad (s : State) (h : Nat) (fixed : Bool) : Option Nat :=
  let g := fun (f : Fld) (j : Nat) => s.rdSh f h j
  let en := g GLINT.GLINT_CTRL.enable 0 ≠ 0
  let sw := g GLINT.SRC_SIZE.sw 0; let sh := g GLINT.SRC_SIZE.sh 0
  let hact := s.rd HEAD.TIM_H.hact h; let vact := s.rd HEAD.TIM_V.vact h
  let rect := fun (k : Nat) =>
    if g GLINT.PT_SIZE.enable k = 0 then none
    else
      let w := g GLINT.PT_SIZE.width k; let ht := g GLINT.PT_SIZE.height k
      if sw < g GLINT.PT_SRC.x k + w ∨ sh < g GLINT.PT_SRC.y k + ht then some (0x10C + 12 * k)
      else if hact < g GLINT.PT_DST.x k + w ∨ vact < g GLINT.PT_DST.y k + ht then some (0x110 + 12 * k)
      else if !(within 2 256 w && w % 2 == 0 && within 1 16 ht) then some (0x114 + 12 * k)
      else none
  if fixed ∧ g GLINT.GLINT_CTRL.enable 0 ≠ s.rd GLINT.GLINT_CTRL.enable h then some 0x100
  else if fixed ∧ (sw ≠ s.rd GLINT.SRC_SIZE.sw h ∨ sh ≠ s.rd GLINT.SRC_SIZE.sh h) then some 0x104
  else if !en then none
  else if !(within hact 4096 sw && sw % 2 == 0 && within vact 2560 sh &&
      decide (granNeed (sw, sh) ≤ s.rd BASIN.GRAN.count 0 h)) then some 0x104
  else firstOff (rect 0) (rect 1)

/-! ### Enabling and disabling (R284, R285) -/

/-- Whether Glint is enabled on a head. -/
def State.glintOn (s : State) (h : Nat) : Bool := decide (6 ≤ h) && s.on GLINT.GLINT_CTRL.enable h

/-- Signed coefficients of a pose, in the order of H00 to H22. -/
def poseC (p : List Nat) (k : Nat) : Int := toSigned 32 (p.getD k 0)

/-- w of a pose at a pixel centre, in units of 2^-41 (R301). -/
def poseW (p : List Nat) (x y : Nat) : Int :=
  poseC p 6 * (2 * x + 1) + poseC p 7 * (2 * y + 1) + poseC p 8 * 2 ^ 14

/-- u' or v' of a pose at a pixel centre, in units of 2^-28 (R301). -/
def poseU (p : List Nat) (r x y : Nat) : Int :=
  poseC p (3 * r) * (2 * x + 1) + poseC p (3 * r + 1) * (2 * y + 1) + poseC p (3 * r + 2) * 2 ^ 13

/-- u or v of a pose at a pixel, in 1/256 source pixels, rounded to nearest with ties up (R301). -/
def poseAt (p : List Nat) (r x y : Nat) : Int :=
  let w := poseW p x y
  (2 * 256 * poseU p r x y * 2 ^ 13 + w) / (2 * w)

/-- What keeps a pose from passing: 1 for w, 2 for the row span (R303). -/
def State.poseBad (s : State) (h : Nat) (p : List Nat) : Option Nat :=
  let hx := s.rd HEAD.TIM_H.hact h - 1
  let vy := s.rd HEAD.TIM_V.vact h - 1
  let wOk := fun x y => decide ((2 : Int) ^ 37 ≤ poseW p x y) && decide (poseW p x y ≤ 2 ^ 45)
  if !(wOk 0 0 && wOk hx 0 && wOk 0 vy && wOk hx vy) then some 1
  else if (List.range (vy + 1)).any (fun y => decide (48 * 256 < (poseAt p 1 hx y - poseAt p 1 0 y).natAbs)) then some 2
  else none

/-- The identity pose. -/
def poseId : List Nat := [0x08000000, 0, 0, 0, 0x08000000, 0, 0, 0, 0x08000000]

/-- The values of H00 to H22. -/
def State.poseRegs (s : State) (h : Nat) : List Nat := (List.range 9).map (fun k => s.rd GLINT.H.h h k)

/-- A pose becomes the posted set; an earlier posted set not yet latched is superseded (R304, R305). -/
def State.setPosted (s : State) (h : Nat) (p : List Nat) : State :=
  let old := s.rd GLINT.POSE_STAT.posted_seq h != s.rd GLINT.POSE_STAT.latched_seq h
  let c := s.head h
  let s1 := (s.setHead h { c with glint := { c.glint with
    posted := p, postAt := some s.now, prev := if old then some c.glint.posted else none } }).wr GLINT.POSE_STAT.posted_seq
    (s.rd GLINT.POSE_STAT.posted_seq h + 1) h
  let s2 := s1.count .glint h 1
  if old then s2.count .glint h 3 else s2

/-- A pose is rejected: recorded, counted and flagged (R303). -/
def State.poseRejected (s : State) (h why : Nat) : State :=
  ((s.recErr .glint h Code.GLINT_MATRIX ridBlock why).count .glint h 4).raise .glint h 9

/-- When a head with Glint is enabled, the present H00 to H22 are posted, or the identity in their place (R305). -/
def State.postOnEnable (s : State) (h : Nat) : State :=
  if !s.glintOn h then s
  else match s.poseBad h (s.poseRegs h) with
    | none => s.setPosted h (s.poseRegs h)
    | some why => (s.setPosted h poseId).poseRejected h why

/-- A write of 1 to a disabled head's enable: checked, then PLL n starts (R276, R281, R284, R300). -/
def State.headEnable (s : State) (w : Who) (h v : Nat) : State :=
  if s.on (HDR.enable .head) h then s.wr (HDR.enable .head) v h
  else if s.running h then s.wr (HDR.enable .head) v h
  else if timingBad (s.hv h) h ≠ none then s.refuse .head h Code.HEAD_TIMING w.rid 0x008
  else if s.rd BASIN.GRAN.count 0 h < s.need h then s.refuse .head h Code.BASIN_GRANULE w.rid 0x008
  else if s.glintOn h ∧ (s.rd GLINT.SRC_SIZE.sw h < s.rd HEAD.TIM_H.hact h ∨ s.rd GLINT.SRC_SIZE.sh h < s.rd HEAD.TIM_V.vact h) then
    s.refuse .glint h Code.GLINT_MARGIN w.rid 0x104
  else
    let s1 := (s.setHead h { s.head h with area := s.compArea h })
    let s2 := { s1 with safe := { s1.safe with heads := mset s1.safe.heads h { mget s1.safe.heads h {} with pinned := false } {} } }
    ((((s2.wr (HDR.enable .head) v h).wr HEAD.HEAD_STAT.state 1 h).wr HEAD.HEAD_STAT.pll_lock 0 h).wr
      CLK.PLL_STAT.enabled 1 0 h).postOnEnable h

/-- The head's PLL stops. -/
def State.pllStop (s : State) (h : Nat) : State :=
  (((s.wr HEAD.HEAD_STAT.pll_lock 0 h).wr CLK.PLL_STAT.lock 0 0 h).wr CLK.PLL_STAT.enabled 0 0 h).wr CLK.PLL_STAT.mhz 0 0 h

/-- A soft reset of a head that does not run (R55, R285); soft_reset reads 1 until then (R51). -/
def State.headSoft (s : State) (h : Nat) : State :=
  (((s.grpLeave h).softRegs .head h).wr (HDR.soft_reset .head) 0 h).setHead h { glint := (s.head h).glint }

/-- A soft reset of a head that runs waits for it to stop (R285). -/
def State.headSoftWait (s : State) (h : Nat) : State := (s.wr (HDR.soft_reset .head) 1 h).setHead h { s.head h with soft := true }

/-- A write of 0 to enable: a head still starting stops at once, a running one at its next start of vertical blanking
(R284, R285). -/
def State.headDisable (s : State) (h v : Nat) : State :=
  let s1 := s.wr (HDR.enable .head) v h
  if s1.rd HEAD.HEAD_STAT.state h = 1 then ((s1.wr HEAD.HEAD_STAT.state 0 h).pllStop h).applyHead h else s1

/-- A write of HEADn:PG_CTRL (R55, R284, R285); soft_reset discards the staged set at once (R61). A word with soft_reset leaves enable 0 whatever it carries there: DESIGN CHOICE, log 171. -/
def State.headCtrl (s : State) (w : Who) (h v : Nat) : State :=
  s.onWrite w .head h 0x008 v (fun t =>
    if bit v 1 then
      let u := (t.discardSet .head h).headDisable h 0
      if u.rd HEAD.HEAD_STAT.state h = 0 then u.headSoft h else u.headSoftWait h
    else if bit v 0 then t.headEnable w h v
    else t.headDisable h v)

/-- HEAD_ENABLE (R276, R284). -/
def execHeadEnable (w : Who) (h : Fin 8) (s : State) : Out := .next (s.headCtrl w h.val 1)
/-- HEAD_DISABLE (R285). -/
def execHeadDisable (w : Who) (h : Fin 8) (s : State) : Out := .next (s.headCtrl w h.val 0)

/-- HEAD_PLL_LOCK: PLL n locks and the timing generator runs from the head's next start of vertical blanking (R284). -/
def execHeadPllLock (h : Fin 8) (s : State) : Out :=
  let k := h.val
  .next (if s.rd HEAD.HEAD_STAT.state k ≠ 1 ∨ !s.pwr.osc then s
    else
      ((((s.wr HEAD.HEAD_STAT.pll_lock 1 k).wr HEAD.HEAD_STAT.state 2 k).wr CLK.PLL_STAT.lock 1 0 k).wr
        CLK.PLL_STAT.enabled 1 0 k).wr CLK.PLL_STAT.mhz (pclkNum (s.hv k) / pclkDen (s.hv k) / 1000000) 0 k)

/-- HEAD_PLL_RETRY: the PLL has not locked within 1 ms; CLK records it, the fault line carries it, and the head retries (R284, R448). -/
def execHeadPllRetry (h : Fin 8) (s : State) : Out :=
  let k := h.val
  .next (if s.rd HEAD.HEAD_STAT.state k ≠ 1 then s
    else (((s.recErr .clk 0 Code.CLK_PLL_UNLOCK ridBlock k).count .clk 0 k).raise .clk 0 8).faultLine Code.CLK_PLL_UNLOCK .clk 0 (2 ^ k))

/-! ### Glint poses (R303 to R305) -/

/-- A write of POSE_CTRL: a post copies H00 to H22 and starts a check; a check under way is abandoned (R304). -/
def State.poseWrite (s : State) (w : Who) (h v : Nat) : State :=
  s.onWrite w .glint h 0x164 v (fun t =>
    if !bit v 0 then t
    else
      let c := t.head h
      let t1 := if c.glint.check.isSome then t.count .glint h 3 else t
      (t1.setHead h { c with glint := { c.glint with check := some (t.poseRegs h) } }).wr GLINT.POSE_CTRL.post 1 h)

/-- Head of a Glint page. -/
def glintHead (g : Fin 2) : Nat := 6 + g.val

/-- POSE_POST (R304). -/
def execPosePost (w : Who) (g : Fin 2) (s : State) : Out := .next (s.poseWrite w (glintHead g) 1)

/-- POSE_CHECK_DONE (R303, R304). -/
def execPoseCheckDone (g : Fin 2) (s : State) : Out :=
  let h := glintHead g
  let c := s.head h
  .next (match c.glint.check with
    | none => s
    | some p =>
      let s1 := (s.setHead h { c with glint := { c.glint with check := none } }).wr GLINT.POSE_CTRL.post 0 h
      match s1.poseBad h p with
      | none => s1.setPosted h p
      | some why => s1.poseRejected h why)

/-- A set is taken at the latch point of a line, with its sequence number (R305). -/
def State.poseTake (s : State) (h y seq : Nat) (p : List Nat) : State :=
  let c := s.head h
  let s1 := s.setHead h { c with glint := { c.glint with latched := p, prev := none, lines := (y, p) :: c.glint.lines } }
  let s2 := s1.wr GLINT.POSE_STAT.latched_seq seq h
  (((s2.wr GLINT.LATCH_LINE.line y h).wr GLINT.LATCH_TIME.time s.now h).count .glint h 2).raise .glint h 10

/-- Whether a line has a latch point: the head scans, with Glint, and per_line gives every active line one and otherwise line 0 (R305). -/
def State.latchPoint (s : State) (h y : Nat) : Bool :=
  s.running h && s.headClock h && s.glintOn h && decide (y < s.rd HEAD.TIM_V.vact h) && (y == 0 || s.on GLINT.GLINT_CTRL.per_line h)

/-- What a latch point takes: the posted set where it has not been taken; a set posted in the same cycle waits, and the one before it, which is then
not superseded after all, is taken if it was still to be (R305). -/
def State.poseLatch (s : State) (h y : Nat) : State :=
  let g := (s.head h).glint
  let n := s.rd GLINT.POSE_STAT.posted_seq h
  if !s.latchPoint h y ∨ n = s.rd GLINT.POSE_STAT.latched_seq h then s
  else if g.postAt = some s.now then
    match g.prev with
    | some p => (s.count .glint h 3 (2 ^ 64 - 1)).poseTake h y ((n + 65535) % 65536) p
    | none => s
  else s.poseTake h y n g.posted

/-- POSE_LATCH: the latch point of an active line (R305). -/
def execPoseLatch (g : Fin 2) (line : BitVec 13) (s : State) : Out :=
  .next (s.poseLatch (glintHead g) line.toNat)

end Sys2Proof.Machine
end

