-- ==== Sys2Proof/Machine/Links.lean ====
section
/-! DEFINITION. Display links and backlight: modes, power sequencing, training, loss, hot-plug, AUX and DSI commands
(R338 to R353), and the arming of commit groups, which asks the links (R288 to R291, R340). -/

namespace Sys2Proof.Machine

/-- What a link holds beyond its page. -/
def State.link (s : State) (n : Nat) : LinkSt := mget s.links n {}
/-- Set what a link holds beyond its page. -/
def State.setLink (s : State) (n : Nat) (v : LinkSt) : State := { s with links := mset s.links n v {} }

/-- Link type: 5 to 7 act as 0 (R353). -/
def State.linkType (s : State) (n : Nat) : Nat := let t := s.rd LINK.LINK_CFG.type n; if 4 < t then 0 else t
/-- State of a link (R342). -/
def State.linkState (s : State) (n : Nat) : Nat := s.rd LINK.LINK_STAT.state n

/-! ### Modes (R338 to R340) -/

/-- Lane rate of a rate code in units of 10 Mbit/s; 0 for a code R353 does not list. -/
def laneRate (c : Nat) : Nat := [162, 270, 540, 810, 216, 243, 324, 432].getD c 0
/-- Bits per pixel of a bpc code; 0 for a code R353 does not list. -/
def linkBpp (c : Nat) : Nat := [18, 24, 30, 0].getD c 0

/-- Whether a link of a type with these lanes and rate code supports the options and carries the mode of values g (R338, R340).
A link of type 0 has no row and carries none. -/
def State.linkFits (s : State) (n lanes rate : Nat) (g : Fld → Nat) : Bool :=
  let t := s.linkType n
  let bpc := s.rd LINK.LINK_CFG.bpc n
  let b := linkBpp bpc
  let num := pclkNum g; let den := pclkDen g
  if t = 1 ∨ t = 2 then
    (lanes == 1 || lanes == 2 || lanes == 4) && (if t = 1 then decide (rate < 4) else decide (rate < 8)) && b != 0 &&
      decide (1050 * num * b ≤ 776 * lanes * laneRate rate * 10000000 * den)
  else if t = 3 then
    within 1 4 lanes && b != 0 && within 8 250 (s.rd LINK.LINK_CFG.dsi_mbps n) &&
      decide (1050 * num * b ≤ 850 * lanes * s.rd LINK.LINK_CFG.dsi_mbps n * 10000000 * den)
  else if t = 4 then
    (lanes == 3 && bpc == 0 || lanes == 4 && bpc == 1) &&
      (if s.on LINK.LINK_CFG.lvds_dual n then
        decide (105 * num ≤ 100 * 224000000 * den) && g HEAD.TIM_H.hfp % 2 == 0 && g HEAD.TIM_HS.hsync % 2 == 0 && g HEAD.TIM_HS.hbp % 2 == 0
      else decide (105 * num ≤ 100 * 112000000 * den) && decide (25000000 * den ≤ num))
  else false

/-- Whether a link as configured carries the mode of values g (R340). -/
def State.linkCan (s : State) (n : Nat) (g : Fld → Nat) : Bool :=
  s.linkFits n (s.rd LINK.LINK_CFG.lanes n) (s.rd LINK.LINK_CFG.rate n) g

/-- Whether an enabled link keeps a head's shadow set from being staged (R340). -/
def State.linkSetBad (s : State) (h : Nat) : Bool :=
  s.on LINK.LINK_CTRL.enable h && !s.linkCan h (fun f => s.rdSh f h)

/-! ### Pins (R342 to R344, R351, R352) -/

/-- Drive DISPENh. Without the safety domain the module's pull-down holds it low (R36, R69). -/
def State.setDispen (s : State) (n : Nat) (v : Bool) : State :=
  { s with pins := { s.pins with dispen := if v && s.pwr.safeUp then setBit s.pins.dispen n else clrBit s.pins.dispen n } }

/-- Whether BLPWMh follows BL_DUTY: an Active link after its delay, no override and no Blank (R351, R352). -/
def State.blFollows (s : State) (n : Nat) : Bool :=
  (s.link n).bl && s.linkState n == 4 && !bit (s.rd SAFE.HEAD_SRC.bl_off) n && s.rd SAFE.HB_STAT.source 0 n != 2

/-- Period of BLPWMh in cycles of 38.4 MHz (R353). -/
def State.blPeriod (s : State) (n : Nat) : Nat := clamp 768 384000 (s.rd LINK.BL_PERIOD.counts n)

/-- Time in ns of a number of cycles of 38.4 MHz, rounded up. -/
def cyclesNs (c : Nat) : Nat := (c * 10000 + 383) / 384

/-- Where in its PWM period BLPWMh stands, in cycles; a period that a new one follows at a time to come still has the old length (R351). -/
def State.blPhase (s : State) (n : Nat) : Nat :=
  let c := s.link n
  if s.now < c.pwmAt then c.pwmPer - (c.pwmAt - s.now) * 384 / 10000 else (s.now - c.pwmAt) * 384 / 10000 % s.blPeriod n

/-- When the present PWM period ends (R351). -/
def State.blEnd (s : State) (n : Nat) : Nat :=
  let c := s.link n
  if s.now < c.pwmAt then c.pwmAt else c.pwmAt + cyclesNs (((s.now - c.pwmAt) * 384 / 10000 / s.blPeriod n + 1) * s.blPeriod n)

/-- High time of BLPWMh in effect, in cycles: a write holds from the end of its period, and more than the period acts as the period (R351). -/
def State.blHigh (s : State) (n : Nat) : Nat :=
  min (s.blPeriod n) (if s.now < (s.link n).pwmFrom then (s.link n).pwmOld else s.rd LINK.BL_DUTY.counts n)

/-- Bring BLPWMh up to date; without the safety domain it is low (R36). Once an override ends it follows from the next period (R352). -/
def State.showBl (s : State) (n : Nat) : State :=
  let v := s.blFollows n && s.pwr.safeUp
  let s1 := if v && !bit s.pins.blpwm n then s.setLink n { s.link n with blFrom := s.blEnd n } else s
  { s1 with pins := { s1.pins with blpwm := if v then setBit s.pins.blpwm n else clrBit s.pins.blpwm n } }

/-- The level at BLPWMh: high for the duty of each period, while the pin follows it (R351, R352). -/
def State.blPin (s : State) (n : Nat) : Bool :=
  bit s.pins.blpwm n && decide ((s.link n).blFrom ≤ s.now) && decide (s.blPhase n < s.blHigh n)

/-- A start of vertical blanking ends the PWM period of a link with sync = 1 (R351). -/
def State.blSync (s : State) (n : Nat) : State :=
  if !s.on LINK.BL_PERIOD.sync n then s
  else
    let c := s.link n
    s.setLink n { c with pwmAt := s.now, pwmFrom := min c.pwmFrom s.now, blFrom := min c.blFrom s.now }

/-- A write of BL_DUTY takes effect at the end of the period, as does one of BL_PERIOD: DESIGN CHOICE for the latter, log 194 (R351). -/
def State.blWrite (s : State) (w : Who) (n off v : Nat) : State :=
  s.onWrite w .link n off v (fun t =>
    let c := t.link n
    let c1 := if off = 0x11C then { c with pwmOld := t.blHigh n, pwmFrom := t.blEnd n }
      else { c with pwmPer := if t.now < c.pwmAt then c.pwmPer else t.blPeriod n, pwmAt := t.blEnd n }
    (t.setLink n c1).storeWord .link n off v)

/-- DISPENh and BLPWMh follow the links again once the SAFE bank is driven; DISPENh is up from Power wait on (R69, R342). -/
def State.linkPins (s : State) : State :=
  (List.range 8).foldl (fun t n => (t.setDispen n (decide (2 ≤ t.linkState n))).showBl n) s

/-- A link enters a state; outside Active it sends no video and the backlight is low (R342, R351). -/
def State.linkTo (s : State) (n st : Nat) : State :=
  let c := s.link n
  ((s.setLink n { c with trained := false, video := st == 4, bl := false, since := s.now }).wr LINK.LINK_STAT.state st n).showBl n

/-- DISPENh falls and the link waits, or is Off if it is not enabled (R344, R352). -/
def State.linkDown (s : State) (n : Nat) : State :=
  let s1 := (s.linkTo n (if s.on LINK.LINK_CTRL.enable n then 1 else 0)).setDispen n false
  ((s1.setLink n { s1.link n with off := 0, fell := s.now }).wr LINK.LINK_STAT.lanes_active 0 n).wr LINK.LINK_STAT.rate_active 0 n

/-- The power-off sequence begins: the backlight goes low at once (R344). A link that has not raised DISPENh is down at once. -/
def State.linkOff (s : State) (n : Nat) : State :=
  if s.linkState n ≤ 1 then s.wr LINK.LINK_STAT.state (if s.on LINK.LINK_CTRL.enable n then 1 else 0) n
  else if (s.link n).off ≠ 0 then s
  else (s.setLink n { s.link n with off := 1, offAt := s.now, bl := false }).showBl n

/-- LINK_POWEROFF_TIMER: a delay of the power-off sequence expires: video stops, then DISPENh falls (R344). -/
def execLinkPoweroffTimer (n : Fin 8) (s : State) : Out :=
  let k := n.val
  let c := s.link k
  .next (if c.off = 1 ∧ s.past c.offAt (ms (s.rd LINK.PWR_SEQ1.t_bl_off_ms k)) then s.setLink k { c with off := 2, offAt := s.now, video := false }
    else if c.off = 2 ∧ s.past c.offAt (ms (s.rd LINK.PWR_SEQ1.t_pwr_off_ms k)) then s.linkDown k
    else s)

/-! ### Enabling, powering and training (R342, R343, R345) -/

/-- Training starts. -/
def State.linkTrain (s : State) (n : Nat) : State :=
  let t := s.linkType n
  let s1 := s.linkTo n 3
  if t = 1 ∨ t = 2 then s1.count .link n 0
  else s1.setLink n { s1.link n with trained := !(t == 3 && s1.on LINK.DSI_CMD_CTRL.go n) }

/-- A write of LINK_CTRL (R342, R344, R345). -/
def State.linkCtrl (s : State) (w : Who) (n v : Nat) : State :=
  s.onWrite w .link n 0x100 v (fun t =>
    let was := t.on LINK.LINK_CTRL.enable n
    if bit v 0 then
      if !t.linkCan n (t.hv n) then t.refuse .link n Code.LINK_MODE w.rid 0x104
      else
        let t1 := t.storeWord .link n 0x100 v
        let t2 := if was && t1.linkState n != 5 then t1 else t1.wr LINK.LINK_STAT.retries_left (t1.rd LINK.LINK_CTRL.retries n) n
        if t2.linkState n = 0 then t2.linkTo n 1
        else if was && t2.linkState n == 5 && (t2.link n).off == 0 then t2.linkTrain n
        else t2
    else (t.storeWord .link n 0x100 v).linkOff n)

/-- LINK_ENABLE (R342). -/
def execLinkEnable (w : Who) (n : Fin 8) (v : Word) (s : State) : Out := .next (s.linkCtrl w n.val (setBit v.toNat 0))
/-- LINK_DISABLE (R344). -/
def execLinkDisable (w : Who) (n : Fin 8) (v : Word) (s : State) : Out := .next (s.linkCtrl w n.val (clrBit v.toNat 0))

/-- LINK_POWER_UP: the head runs, no override holds, t_cycle_ms has passed: DISPENh goes high (R342). -/
def execLinkPowerUp (n : Fin 8) (s : State) : Out :=
  let k := n.val
  .next (if s.linkState k ≠ 1 ∨ (s.link k).off ≠ 0 ∨ !s.running k ∨ bit (s.rd SAFE.HEAD_SRC.dispen_off) k ∨
      1 < s.rd PWR.STATE.state ∨ !s.past (s.link k).fell (ms (s.rd LINK.PWR_SEQ2.t_cycle_ms k)) then s
    else (s.linkTo k 2).setDispen k true)

/-- A link in Powering goes to Training once t_pwr_on_ms has passed, of types 1 and 2 with HPD high (R342). -/
def State.linkPowered (s : State) (n : Nat) : State :=
  let t := s.linkType n
  if s.linkState n ≠ 2 ∨ (s.link n).off ≠ 0 ∨ !s.past (s.link n).since (ms (s.rd LINK.PWR_SEQ0.t_pwr_on_ms n)) ∨
      ((t = 1 ∨ t = 2) ∧ !s.on LINK.LINK_STAT.hpd n) then s
  else s.linkTrain n

/-- LINK_TRAIN: t_pwr_on_ms has passed with HPD present (R342). -/
def execLinkTrain (n : Fin 8) (s : State) : Out := .next (s.linkPowered n.val)

/-- Training has failed (R343, R345). -/
def State.linkFailed (s : State) (n : Nat) : State :=
  (((s.linkTo n 5).count .link n 1).raise .link n 9).eventPage .link n Code.LINK_TRAIN_FAIL n 0

/-- Whether training may end at a setting: the configured one, or with fallback a lower rate or fewer lanes, that carries the mode
(R345). -/
def State.trainedAt (s : State) (n lanes rate : Nat) : Bool :=
  let l := s.rd LINK.LINK_CFG.lanes n; let r := s.rd LINK.LINK_CFG.rate n
  s.linkFits n lanes rate (s.hv n) &&
    (lanes == l && rate == r ||
      s.on LINK.LINK_CFG.fallback n && (lanes == l && decide (laneRate rate < laneRate r) || decide (lanes < l)))

/-- LINK_TRAIN_END: training ends at a setting, or has failed (R345). -/
def execLinkTrainEnd (n : Fin 8) (ok : Bool) (lanes rate : BitVec 4) (s : State) : Out :=
  let k := n.val
  let t := s.linkType k
  .next (if s.linkState k ≠ 3 ∨ (s.link k).trained ∨ (s.link k).off ≠ 0 ∨ !(t = 1 ∨ t = 2) then s
    else if ok && s.trainedAt k lanes.toNat rate.toNat then
      (((s.setLink k { s.link k with trained := true }).wr LINK.LINK_STAT.lanes_active lanes.toNat k).wr
        LINK.LINK_STAT.rate_active rate.toNat k).raise .link k 8
    else s.linkFailed k)

/-- LINK_RETRY: retry_ms has passed in Failed with retries left (R345). -/
def execLinkRetry (n : Fin 8) (s : State) : Out :=
  let k := n.val
  .next (if s.linkState k ≠ 5 ∨ (s.link k).off ≠ 0 ∨ !s.on LINK.LINK_CTRL.enable k ∨
      !s.past (s.link k).since (ms (max 1 (s.rd LINK.LINK_CTRL.retry_ms k))) then s
    else if s.rd LINK.LINK_CTRL.retries k = 0 then s.linkTrain k
    else if s.rd LINK.LINK_STAT.retries_left k = 0 then s
    else (s.wr LINK.LINK_STAT.retries_left (s.rd LINK.LINK_STAT.retries_left k - 1) k).linkTrain k)

/-- LINK_HPD_TIMEOUT: a type 2 link in Powering has seen no HPD within t_hpd_ms (R343). -/
def execLinkHpdTimeout (n : Fin 8) (s : State) : Out :=
  let k := n.val
  .next (if s.linkState k ≠ 2 ∨ (s.link k).off ≠ 0 ∨ s.linkType k ≠ 2 ∨ s.on LINK.LINK_STAT.hpd k ∨
      !s.past (s.link k).since (ms (s.rd LINK.PWR_SEQ2.t_hpd_ms k)) then s else s.linkFailed k)

/-- BACKLIGHT_ON_DELAY_EXPIRY: t_bl_on_ms after a link becomes Active, BLPWMh follows BL_DUTY (R343). -/
def execBacklightOnDelayExpiry (n : Fin 8) (s : State) : Out :=
  let k := n.val
  .next (if s.linkState k ≠ 4 ∨ (s.link k).off ≠ 0 ∨ !s.past (s.link k).blStart (ms (s.rd LINK.PWR_SEQ0.t_bl_on_ms k)) then s
    else
      let s1 := (s.setLink k { s.link k with bl := true }).showBl k
      s1.setLink k { s1.link k with blFrom := s.now })

/-! ### Losing a link, hot-plug (R346, R348) -/

/-- An Active link is lost: flagged and counted, told on the fault line and as an event (R346). -/
def State.linkLost (s : State) (n cause : Nat) : State :=
  if s.linkState n ≠ 4 then s
  else
    let t := s.linkType n
    let s1 := (((s.wr LINK.LINK_STAT.lost_cause cause n).raise .link n 10).count .link n 2).faultLine Code.LINK_LOST .link n (2 ^ n)
    let s2 := s1.eventPage .link n Code.LINK_LOST n 0
    if !s2.on LINK.LINK_CTRL.auto_retrain n then s2.linkTo n 5
    else if t = 1 ∨ t = 2 then (if cause = 3 ∧ t = 1 then s2.linkTo n 6 else s2.linkTrain n)
    else s2.setLink n { s2.link n with loadTold := true }

/-- LINK_LOAD_FAULT: a lane driver's load has been out of range for 1 ms; after a first report, again only if it has been within range for
100 ms since (R346). -/
def execLinkLoadFault (n : Fin 8) (wasInRange : Bool) (s : State) : Out :=
  let k := n.val
  let t := s.linkType k
  .next (if !(t = 3 ∨ t = 4) ∨ ((s.link k).loadTold ∧ !wasInRange) then s else s.linkLost k 4)

/-- HPD_IRQ: a low pulse of 0.25 ms to 2 ms; the DPCD status read that follows may show a lane without lock (R346, R348). -/
def execHpdIrq (n : Fin 8) (unlocked : Bool) (s : State) : Out :=
  let k := n.val
  let t := s.linkType k
  .next (if !(t = 1 ∨ t = 2) then s
    else
      let s1 := (s.count .link k 5).raise .link k 12
      if unlocked then s1.linkLost k 2 else s1)

/-- The new hot-plug state is shown, counted and delivered (R348). -/
def State.hpdNews (s : State) (n : Nat) (v : Bool) : State :=
  (((s.wrB LINK.LINK_STAT.hpd v n).count .link n (if v then 3 else 4)).raise .link n 11).eventPage .link n Code.LINK_HPD n
    (if v then 1 else 0)

/-- HPD_UNPLUG: HPD has been low for more than 2 ms (R346, R348). -/
def execHpdUnplug (n : Fin 8) (s : State) : Out :=
  let k := n.val
  let t := s.linkType k
  .next (if !(t = 1 ∨ t = 2) ∨ !s.on LINK.LINK_STAT.hpd k then s else (s.hpdNews k false).linkLost k 3)

/-- HPD_PLUG: HPD has been high for 2 ms after an unplug; a link in Powering trains once t_pwr_on_ms has passed (R342, R348). -/
def execHpdPlug (n : Fin 8) (s : State) : Out :=
  let k := n.val
  let t := s.linkType k
  .next (if !(t = 1 ∨ t = 2) ∨ s.on LINK.LINK_STAT.hpd k then s
    else
      let s1 := s.hpdNews k true
      if t = 1 ∧ s1.linkState k = 6 then s1.linkTrain k else s1.linkPowered k)

/-- A start of vertical blanking of a running head: a trained link becomes Active with its first whole frame, an Active one has sent
a frame; the lane status read may show a lane without lock (R343, R346). -/
def State.linkBlank (s0 : State) (n : Nat) (unlocked : Bool) : State :=
  let s := s0.blSync n
  if (s.link n).off ≠ 0 then s
  else if s.linkState n = 3 ∧ (s.link n).trained then
    let s1 := s.linkTo n 4
    s1.setLink n { s1.link n with blStart := s.now, loadTold := false }
  else if s.linkState n = 4 then
    let s1 := s.count .link n 8
    if unlocked && (s1.linkType n == 1 || s1.linkType n == 2) then s1.linkLost n 1 else s1
  else s

/-! ### AUX and DSI commands (R349, R350) -/

/-- Whether a native write touches a DPCD range the owner may not write (R349). -/
def dpcdGuarded (addr len : Nat) : Bool :=
  [(0x100, 0x10F), (0x170, 0x171), (0x720, 0x73F)].any (fun r => decide (addr ≤ r.2) && decide (r.1 ≤ addr + len))

/-- A write of AUX_CTRL (R349). -/
def State.auxWrite (s : State) (w : Who) (n v : Nat) : State :=
  s.onWrite w .link n 0x120 v (fun t =>
    if !bit v 31 then t.storeWord .link n 0x120 v
    else if t.on LINK.AUX_CTRL.go n ∨ (bits v 0 4 = 8 ∧ dpcdGuarded (bits v 8 20) (bits v 4 4)) then
      t.refuse .link n Code.REG_PERM w.rid 0x120
    else ((t.storeWord .link n 0x120 v).wr LINK.AUX_CTRL.go 1 n).setLink n { t.link n with aux := v })

/-- AUX_GO (R349). -/
def execAuxGo (w : Who) (n : Fin 8) (v : Word) (s : State) : Out := .next (s.auxWrite w n.val (setBit v.toNat 31))

/-- AUX_DONE: an owner AUX transaction ends with a reply, the number of bytes transferred and the bytes a read brought (R349). -/
def execAuxDone (n : Fin 8) (reply : Fin 4) (count : Fin 17) (data : List Byte) (s : State) : Out :=
  let k := n.val
  .next (if !s.on LINK.AUX_CTRL.go k then s
    else
      let v := (s.link k).aux
      let got := data.take (min count.val (bits v 4 4 + 1))
      let s1 := ((s.wr LINK.AUX_CTRL.go 0 k).wr LINK.AUX_STAT.reply reply.val k).wr LINK.AUX_STAT.count count.val k
      let s2 := if v % 2 = 1 then
          (List.range 4).foldl (fun t j =>
            let w := leBytes 4 (t.rd LINK.AUX_DATA.data k j)
            let g := (List.range 4).map (fun b => got.getD (4 * j + b) (w.getD b 0))
            t.wr LINK.AUX_DATA.data (leVal g) k j) s1
        else s1
      let s3 := (s2.raise .link k 13).count .link k 6
      if reply.val = 1 ∨ reply.val = 3 then s3.count .link k 7 else s3)

/-- A write of DSI_CMD_CTRL (R350). -/
def State.dsiWrite (s : State) (w : Who) (n v : Nat) : State :=
  s.onWrite w .link n 0x140 v (fun t =>
    if !bit v 31 then t.storeWord .link n 0x140 v
    else if t.on LINK.DSI_CMD_CTRL.go n then t.refuse .link n Code.REG_PERM w.rid 0x140
    else (t.storeWord .link n 0x140 v).wr LINK.DSI_CMD_CTRL.go 1 n)

/-- DSI_CMD_GO (R350). -/
def execDsiCmdGo (w : Who) (n : Fin 8) (v : Word) (s : State) : Out := .next (s.dsiWrite w n.val (setBit v.toNat 31))

/-- DSI_SENT: the queued packet has been sent, in Training before video starts or in Active (R350). -/
def execDsiSent (n : Fin 8) (s : State) : Out :=
  let k := n.val
  .next (if !s.on LINK.DSI_CMD_CTRL.go k ∨ s.linkType k ≠ 3 ∨ !(s.linkState k = 3 ∨ s.linkState k = 4) then s
    else
      let s1 := (s.wr LINK.DSI_CMD_CTRL.go 0 k).raise .link k 14
      if s1.linkState k = 3 then s1.setLink k { s1.link k with trained := true } else s1)

/-! ### Arming a commit group (R288 to R290) -/

/-- Pages of a group: the members' HEAD pages, their composition pages and Glint pages as asked (R288). -/
def groupPages (members : List Nat) (comp glint : Bool) : List (Blk × Nat) :=
  members.map (fun h => (Blk.head, h)) ++ (if comp then ((members.map engOf).eraseDups.map (fun n => (Blk.comp, n))) else []) ++
    (if glint then (members.filter (fun h => decide (6 ≤ h))).map (fun h => (Blk.glint, h)) else [])

/-- Apply a member's part at once if its head does not run (R289, R61). -/
def State.applyIdle (s : State) (h : Nat) : State :=
  if s.rd HEAD.HEAD_STAT.state h ≠ 0 then s else (s.applyHead h).applyGlint h

/-- A write of GRP_ARM (R288 to R291). A mask of no heads arms nothing. -/
def State.grpArm (s : State) (w : Who) (v : Nat) : State :=
  s.onWrite w .basin 0 0x144 v (fun t =>
    let members := (List.range 8).filter (fun h => bit v h)
    let pages := groupPages members (bit v 8) (bit v 9)
    if members = [] then t
    else if t.on BASIN.GRP_STAT.busy then (t.refuse .basin 0 Code.GRP_BUSY w.rid 0x144).count .basin 0 4
    else match pages.find? (fun p => t.on (HDR.pending p.1) p.2) with
    | some p => t.refuse .basin 0 Code.COMMIT_BUSY w.rid (p.1.page p.2)
    | none => match members.findSome? (fun h => (t.headSetBad h).map (fun o => (h, o))) with
      | some (h, o) => t.refuse .head h Code.HEAD_TIMING w.rid o
      | none => match members.find? (fun h => t.linkSetBad h) with
        | some h => t.refuse .link h Code.LINK_MODE w.rid 0x104
        | none => match (pages.filter (fun p => p.1 == .glint)).findSome? (fun p => (t.glintSetBad p.2 (t.on (HDR.enable .head) p.2)).map (fun o => (p.2, o))) with
          | some (h, o) => t.refuse .glint h Code.GLINT_MARGIN w.rid o
          | none =>
            let t1 := pages.foldl (fun u p => (u.stagePage w.rid p.1 p.2).wr (HDR.group p.1) 1 p.2) t
            let t2 := ((((t1.wr BASIN.GRP_STAT.members (v % 256)).wr BASIN.GRP_STAT.applied 0).wr BASIN.GRP_STAT.busy 1).wr
              BASIN.GRP_STAT.aborted 0).wr BASIN.GRP_STAT.seq (t1.rd BASIN.GRP_STAT.seq + 1)
            members.foldl (fun u h => u.applyIdle h) ((t2.count .basin 0 2).setCohorts members))

/-- GRP_ARM (R288). -/
def execGrpArm (w : Who) (v : Word) (s : State) : Out := .next (s.grpArm w v.toNat)

end Sys2Proof.Machine
end

