-- ==== Sys2Proof/Machine/Stream.lean ====
section
/-! DEFINITION. The pixel stream of a head after Basin: scan-out, Glint, source selection, Lantern, and what Mirror reads
from it (R8 to R11, R301, R302, R306, R307, R319 to R326, R361, R363). -/

namespace Sys2Proof.Machine

/-- Bits per channel of a head's Basin words (R283). -/
def State.chanBits (s : State) (h : Nat) : Nat := if s.on HEAD.FMT.bpc10 h then 10 else 8
/-- The three channels of a Basin word, red first. -/
def unpackPx (n w : Nat) : Nat × Nat × Nat := (bits w (2 * n) n, bits w n n, bits w 0 n)
/-- A Basin word of three channels. -/
def packPx (n : Nat) (c : Nat × Nat × Nat) : Nat := c.1 * 2 ^ (2 * n) + c.2.1 * 2 ^ n + c.2.2
/-- A 30-bit colour in a head's Basin format: the upper bits of each channel (R309, R335). -/
def colourPx (n v : Nat) : Nat :=
  packPx n (bits v 20 10 >>> (10 - n), bits v 10 10 >>> (10 - n), bits v 0 10 >>> (10 - n))

/-- The Basin word at (x, y) of a head's front buffer; an uncorrectable word reads as 0 (R278). -/
def State.frontPx (s : State) (h x y : Nat) : Nat :=
  let a := s.bufBase h (s.rd HEAD.HEAD_STAT.front h) + y * basinPitch (s.compArea h).1 + x * 4
  if (s.head h).zero.contains (a / 8) then 0 else s.basinRead a 4

/-- The pose with which line y of the frame is sampled (R305). -/
def State.poseOf (s : State) (h y : Nat) : List Nat :=
  match (s.head h).glint.lines.find? (fun e => decide (e.1 ≤ y)) with
  | some e => e.2
  | none => (s.head h).glint.latched

/-- s or t of a sample in 1/256 source pixels (R302). -/
def State.sampleAt (s : State) (h r x y : Nat) : Int := poseAt (s.poseOf h y) r x y - 128

/-- Whether the sample of an output pixel lies inside the source (R302). -/
def State.sampleIn (s : State) (h x y : Nat) : Bool :=
  let a := s.sampleAt h 0 x y; let b := s.sampleAt h 1 x y
  decide (0 ≤ a) && decide (a ≤ 256 * ((s.rd GLINT.SRC_SIZE.sw h - 1 : Nat) : Int)) &&
    decide (0 ≤ b) && decide (b ≤ 256 * ((s.rd GLINT.SRC_SIZE.sh h - 1 : Nat) : Int))

/-- A bilinear sample in the head's Basin format (R302). -/
def State.bilinear (s : State) (h x y : Nat) : Nat :=
  let n := s.chanBits h
  let a := (s.sampleAt h 0 x y).toNat; let b := (s.sampleAt h 1 x y).toNat
  let i := a / 256; let j := b / 256; let fx := a % 256; let fy := b % 256
  let i1 := min (i + 1) (s.rd GLINT.SRC_SIZE.sw h - 1); let j1 := min (j + 1) (s.rd GLINT.SRC_SIZE.sh h - 1)
  let p := fun u v => unpackPx n (s.frontPx h u v)
  let mix := fun (f : Nat × Nat × Nat → Nat) =>
    ((256 - fx) * (256 - fy) * f (p i j) + fx * (256 - fy) * f (p i1 j) + (256 - fx) * fy * f (p i j1) + fx * fy * f (p i1 j1) + 32768) / 65536
  packPx n (mix (·.1), mix (·.2.1), mix (·.2.2))

/-- The passthrough region that shows at an output pixel: region 1 lies above region 0 (R307). -/
def State.ptAt (s : State) (h x y : Nat) : Option Nat :=
  [1, 0].find? (fun k =>
    let dx := s.rd GLINT.PT_DST.x h k; let dy := s.rd GLINT.PT_DST.y h k
    s.on GLINT.PT_SIZE.enable h k && decide (dx ≤ x) && decide (x < dx + s.rd GLINT.PT_SIZE.width h k) &&
      decide (dy ≤ y) && decide (y < dy + s.rd GLINT.PT_SIZE.height h k))

/-- The compositor source at (x, y), as the pre-Lantern tap sees it: scan-out, through Glint where enabled (R9, R10). -/
def State.prePx (s : State) (h x y : Nat) : Nat :=
  if !s.glintOn h then s.frontPx h x y
  else match s.ptAt h x y with
    | some k => s.frontPx h (s.rd GLINT.PT_SRC.x h k + (x - s.rd GLINT.PT_DST.x h k)) (s.rd GLINT.PT_SRC.y h k + (y - s.rd GLINT.PT_DST.y h k))
    | none => if s.sampleIn h x y then s.bilinear h x y else colourPx (s.chanBits h) (s.rd GLINT.FILL.colour h)

/-- Output lines of the frame that held a pixel outside the source (R306). -/
def State.fillLines (s : State) (h : Nat) : Nat :=
  ((List.range (s.rd HEAD.TIM_V.vact h)).filter (fun y => (List.range (s.rd HEAD.TIM_H.hact h)).any (fun x => !s.sampleIn h x y))).length

/-- The selected source at (x, y): compositor, fallback colour or black (R9, R316). -/
def State.sourcePx (s : State) (h x y : Nat) : Nat :=
  let src := s.rd SAFE.HB_STAT.source 0 h
  if src = 0 then s.prePx h x y else if src = 1 then colourPx (s.chanBits h) (s.rd SAFE.FALLBACK.colour 0 h) else 0

/-! ### Lantern (R319 to R322) -/

/-- A byte of Lantern SRAM. -/
def State.lsramByte (s : State) (a : Nat) : Nat := (mget s.safe.lsram (a % 2 ^ 20) 0).toNat

/-- Alpha and the widened channels of entry i of palette p (R319, R322). -/
def State.palette (s : State) (n p i : Nat) : Nat × Nat × Nat × Nat :=
  let a := 0xFC000 + 1024 * p + 4 * i
  let w := fun v => if n = 10 then v * 4 + v / 64 else v
  (s.lsramByte (a + 3), w (s.lsramByte (a + 2)), w (s.lsramByte (a + 1)), w (s.lsramByte a))

/-- A palette colour over a Basin word (R322). -/
def blendPal (n : Nat) (c : Nat × Nat × Nat × Nat) (d : Nat) : Nat :=
  let a := c.1 + c.1 / 128
  let m := fun p v => (p * a + v * (256 - a) + 128) / 256
  let (r, g, b) := unpackPx n d
  packPx n (m c.2.1 r, m c.2.2.1 g, m c.2.2.2 b)

/-- Whether a region is drawn in the present frame of its head (R320). -/
def State.regionDrawn (s : State) (r : Nat) : Bool :=
  let h := s.rd LANTERN.REG_CTRL.head 0 r
  let bl := s.rd LANTERN.REG_CTRL.blink 0 r
  s.on LANTERN.REG_CTRL.enable 0 r && bit (s.rd LANTERN.VIS.regions) r &&
    (bl == 0 || s.rd HEAD.FRAME_CNT.count h / bl % 2 == 0)

/-- Width and height of a region (R336). -/
def State.regionSize (s : State) (r : Nat) : Nat × Nat :=
  (clamp 1 256 (s.rd LANTERN.REG_SIZE.width 0 r), clamp 1 256 (s.rd LANTERN.REG_SIZE.height 0 r))

/-- The palette entry a region puts at an output pixel, if it puts one (R320). -/
def State.regionEntry (s : State) (n r x y : Nat) : Option (Nat × Nat × Nat × Nat) :=
  let rx := s.rd LANTERN.REG_POS.x 0 r; let ry := s.rd LANTERN.REG_POS.y 0 r
  let (w, ht) := s.regionSize r
  let pal := s.rd LANTERN.REG_CTRL.pal 0 r
  let src := s.rd LANTERN.REG_SRC.src 0 r
  let kind := s.rd LANTERN.REG_CTRL.kind 0 r
  if !(decide (rx ≤ x) && decide (x < rx + w) && decide (ry ≤ y) && decide (y < ry + ht)) then none
  else if kind = 0 then some (s.palette n pal (s.lsramByte (src + (y - ry) * w + (x - rx))))
  else if kind = 1 then (if (x + y) % 16 < 8 then some (s.palette n pal (src % 256)) else none)
  else some (s.palette n pal (src % 256))

/-- Reaction of a window: 3 acts as 2 (R337). -/
def State.winReaction (s : State) (k : Nat) : Nat := min 2 (s.rd MIRROR.WIN_CFG.reaction 0 k)

/-- What the overlay of a window puts at an output pixel (R321). -/
def State.overlayEntry (s : State) (n k x y : Nat) : Option (Nat × Nat × Nat × Nat) :=
  let wx := s.rd MIRROR.WIN_POS.x 0 k; let wy := s.rd MIRROR.WIN_POS.y 0 k
  if !(bit (s.rd LANTERN.OVL.windows) k && decide (wx ≤ x) && decide (x < wx + s.rd MIRROR.WIN_SIZE.width 0 k) &&
      decide (wy ≤ y) && decide (y < wy + s.rd MIRROR.WIN_SIZE.height 0 k)) then none
  else if s.winReaction k = 1 then
    (if (x + y) % 16 < 8 then some (s.palette n (s.rd LANTERN.OVL_CFG.hatch_pal) (s.rd LANTERN.OVL_CFG.hatch_index)) else none)
  else if s.winReaction k = 2 then some (255, 0, 0, 0)
  else none

/-- Windows of a head, in ascending order. -/
def State.windowsOf (s : State) (h : Nat) : List Nat := (List.range 32).filter (fun k => s.rd MIRROR.WIN_CFG.head 0 k == h)
/-- Regions drawn on a head, in ascending order. -/
def State.regionsOf (s : State) (h : Nat) : List Nat :=
  (List.range 48).filter (fun r => s.rd LANTERN.REG_CTRL.head 0 r == h && s.regionDrawn r)

/-- Lantern's output at (x, y), which the output tap sees: overlays, then regions, over the selected source (R322). -/
def State.outPx (s : State) (h x y : Nat) : Nat :=
  let n := s.chanBits h
  let put := fun (d : Nat) (e : Option (Nat × Nat × Nat × Nat)) => match e with | some c => blendPal n c d | none => d
  let d1 := (s.windowsOf h).foldl (fun d k => put d (s.overlayEntry n k x y)) (s.sourcePx h x y)
  (s.regionsOf h).foldl (fun d r => put d (s.regionEntry n r x y)) d1

/-! ### What a link carries (R338, R341) -/

/-- Bits per channel of a link: 6, 8 or 10. -/
def State.linkBpc (s : State) (h : Nat) : Nat := linkBpp (s.rd LINK.LINK_CFG.bpc h) / 3

/-- The pixel a link carries for (x, y): of each channel of the Basin word its upper bpc bits, the rest discarded without dithering; a head with
fewer bits fills them up with zeros (R341): DESIGN CHOICE for those, log 195. -/
def State.linkPx (s : State) (h x y : Nat) : Nat :=
  let n := s.chanBits h
  let b := s.linkBpc h
  let c := fun (v : Nat) => if b ≤ n then v >>> (n - b) else v * 2 ^ (b - n)
  let (r, g, u) := unpackPx n (s.outPx h x y)
  packPx b (c r, c g, c u)

/-- What an Active link sends for (x, y) of its head; no video otherwise (R342, R343). -/
def State.sentPx (s : State) (h x y : Nat) : Option Nat := if (s.link h).video then some (s.linkPx h x y) else none

/-- Channel of a dual LVDS link a column goes to: odd pixels on A, which is 0, and even ones on B; the first pixel of a line is pixel 1: DEDUCED,
log 195 (R338). -/
def State.lvdsChannel (s : State) (h x : Nat) : Nat := if s.on LINK.LINK_CFG.lvds_dual h then x % 2 else 0

/-- The seven bits LVDS data pair p carries for a pixel, first bit highest; hs, vs and de are the timing bits. VESA carries the two
highest bits of each channel on pair 3, JEIDA the two lowest: PRESUMED, log 195 (R338). -/
def State.lvdsPair (s : State) (h p px : Nat) (hs vs de : Bool) : List Bool :=
  let b := s.linkBpc h
  let (r, g, u) := unpackPx b px
  let hi := b == 8 && s.on LINK.LINK_CFG.lvds_jeida h
  let k := if hi then 2 else 0
  let e := if hi then 0 else 6
  match p with
  | 0 => [bit g k, bit r (k + 5), bit r (k + 4), bit r (k + 3), bit r (k + 2), bit r (k + 1), bit r k]
  | 1 => [bit u (k + 1), bit u k, bit g (k + 5), bit g (k + 4), bit g (k + 3), bit g (k + 2), bit g (k + 1)]
  | 2 => [de, vs, hs, bit u (k + 5), bit u (k + 4), bit u (k + 3), bit u (k + 2)]
  | _ => [false, bit u (e + 1), bit u e, bit g (e + 1), bit g e, bit r (e + 1), bit r e]

/-! ### What Mirror computes (R325, R326, R361, R363) -/

/-- CRC-32C of a region at the output tap: its pixels with palette alpha 255, in raster order (R325). -/
def State.regionCrc (s : State) (h r : Nat) : Nat :=
  let n := s.chanBits h
  let (w, ht) := s.regionSize r
  let rx := s.rd LANTERN.REG_POS.x 0 r; let ry := s.rd LANTERN.REG_POS.y 0 r
  let px := fun (x y : Nat) => match s.regionEntry n r x y with
    | some e => if e.1 = 255 then leBytes 4 (s.outPx h x y) else []
    | none => []
  let xe := min (rx + w) (s.rd HEAD.TIM_H.hact h); let ye := min (ry + ht) (s.rd HEAD.TIM_V.vact h)
  crc32c ((List.range (ye - ry)).flatMap (fun j => (List.range (xe - rx)).flatMap (fun i => px (rx + i) (ry + j))))

/-- What Mirror reads from a pixel: 1, 0 or nothing (R363). -/
def tagBit (n w : Nat) : Option Nat :=
  let (r, g, b) := unpackPx n w
  let full := 2 ^ n - 1
  if 3 * full ≤ 4 * r ∧ 3 * full ≤ 4 * g ∧ 3 * full ≤ 4 * b then some 1
  else if 4 * r ≤ full ∧ 4 * g ≤ full ∧ 4 * b ≤ full then some 0
  else none

/-- The tag word a rectangle of pixels spells, if it is one (R361, R363). -/
def decodeTag (n : Nat) (px : Nat → Nat → Nat) : Option Nat :=
  let row0 := (List.range 32).map (fun x => tagBit n (px x 0))
  let row1 := (List.range 32).map (fun x => tagBit n (px x 1))
  let ok := (List.range 32).all (fun x => match row0.getD x none, row1.getD x none with
    | some a, some b => a + b == 1
    | _, _ => false)
  let t := (List.range 32).foldl (fun v x => v + (row0.getD x none).getD 0 * 2 ^ x) 0
  if ok && t % 256 == 0xA5 && t / 2 ^ 24 == 255 - (bits t 0 8 + bits t 8 8 + bits t 16 8) % 256 then some t else none

/-- Whether Mirror decodes a window's tag at the pre-Lantern tap (R326). -/
def State.winPre (s : State) (k : Nat) : Bool :=
  s.rd SAFE.HB_STAT.source 0 (s.rd MIRROR.WIN_CFG.head 0 k) != 0 || bit (s.rd LANTERN.OVL.windows) k

/-- The tag a window's position shows: inside the active area, and on a Glint head inside a passthrough region (R11, R326). -/
def State.winTag (s : State) (k : Nat) : Option Nat :=
  let h := s.rd MIRROR.WIN_CFG.head 0 k
  let tx := s.rd MIRROR.WIN_TAG.x 0 k; let ty := s.rd MIRROR.WIN_TAG.y 0 k
  let inPt := (List.range 2).any (fun j =>
    let dx := s.rd GLINT.PT_DST.x h j; let dy := s.rd GLINT.PT_DST.y h j
    s.on GLINT.PT_SIZE.enable h j && decide (dx ≤ tx) && decide (tx + 32 ≤ dx + s.rd GLINT.PT_SIZE.width h j) &&
      decide (dy ≤ ty) && decide (ty + 2 ≤ dy + s.rd GLINT.PT_SIZE.height h j))
  if s.rd HEAD.TIM_H.hact h < tx + 32 ∨ s.rd HEAD.TIM_V.vact h < ty + 2 ∨ (s.glintOn h && !inPt) then none
  else decodeTag (s.chanBits h) (fun x y => if s.winPre k then s.prePx h (tx + x) (ty + y) else s.outPx h (tx + x) (ty + y))

end Sys2Proof.Machine
end

