-- ==== Sys2Proof/Machine/Safety.lean ====
section
/-! DEFINITION. The safety island: the fault log, the FAULT outputs, source selection, Lantern's registers, Mirror's
judgement, the reaction to fault lines and hand-back (R216 to R223, R312 to R337). -/

namespace Sys2Proof.Machine

/-- What the safety island holds of a head. -/
def State.shead (s : State) (h : Nat) : SafeHead := mget s.safe.heads h {}
/-- Set what the safety island holds of a head. -/
def State.setShead (s : State) (h : Nat) (v : SafeHead) : State := { s with safe := { s.safe with heads := mset s.safe.heads h v {} } }
/-- The judgement of a window. -/
def State.win (s : State) (k : Nat) : WinSt := mget s.safe.wins k {}
/-- Set the judgement of a window. -/
def State.setWin (s : State) (k : Nat) (v : WinSt) : State := { s with safe := { s.safe with wins := mset s.safe.wins k v {} } }

/-! ### Fault log (R219, R335) -/

/-- Add an entry to the fault log: the oldest of 256 is overwritten, the 16 newest are mirrored in the always-on domain. -/
def State.logEntry (s : State) (time code source heads reaction : Nat) : State :=
  let c := s.safe
  let e : LogEnt := ⟨time, code, source, heads % 256, reaction, c.nextSeq⟩
  let full := c.unread = 256
  let log := c.log ++ [e]
  let aon := c.aonLog ++ [e]
  let s1 := { s with safe := { c with
      log := if 256 < log.length then log.drop 1 else log
      aonLog := if 16 < aon.length then aon.drop 1 else aon
      nextSeq := (c.nextSeq + 1) % 65536
      unread := min 256 (c.unread + 1)
      word := if full then 0 else c.word } }
  let s2 := (s1.wr SAFE.LOG_NEWEST.seq e.seq).wr SAFE.LOG_UNREAD.count (min 256 (c.unread + 1))
  let s3 := if full then s2.wr SAFE.LOG_LOST.count (min 65535 (s2.rd SAFE.LOG_LOST.count + 1)) else s2
  (s3.count .safe 0 3).raise .safe 0 11

/-- The 16 bytes of an entry (R219). -/
def LogEnt.bytes (e : LogEnt) : List Byte :=
  leBytes 8 e.time ++ leBytes 2 e.code ++ leBytes 2 e.source ++ leBytes 1 e.heads ++ leBytes 1 e.reaction ++ leBytes 2 e.seq

/-- Set a reaction bit of the newest entry of which a test holds. -/
def State.logReact (s : State) (p : LogEnt → Bool) (n : Nat) : State :=
  let mark := fun (l : List LogEnt) => match l.reverse.find? p with
    | some e => l.map (fun x => if x.seq = e.seq then { x with reaction := setBit x.reaction n } else x)
    | none => l
  { s with safe := { s.safe with log := mark s.safe.log, aonLog := mark s.safe.aonLog } }

/-- LOG_DATA_READ: the manager reads the next word of the oldest unread entry; other readers see it without advancing (R335). -/
def State.logDataRead (s : State) (w : Who) : State :=
  let c := s.safe
  if c.unread = 0 then s.okResp 0
  else
    let e := (c.log.drop (c.log.length - c.unread)).headD ⟨0, 0, 0, 0, 0, 0⟩
    let s1 := s.okResp (leVal ((e.bytes.drop (4 * c.word)).take 4))
    if w ≠ .mgr then s1
    else if c.word < 3 then { s1 with safe := { c with word := c.word + 1 } }
    else ({ s1 with safe := { c with word := 0, unread := c.unread - 1 } }).wr SAFE.LOG_UNREAD.count (c.unread - 1)

/-- LOG_DATA_READ (R335). -/
def execLogDataRead (w : Who) (s : State) : Out :=
  .next (match s.reach w .safe 0 0x15C false with | .bad t => t | .good t => t.logDataRead w)

/-! ### FAULT outputs (R37, R222) -/

/-- Drive the FAULT outputs to fault. A clear received before does not permit the release of this fault. -/
def State.faultAssert (s : State) : State :=
  let was := s.on SAFE.ISL_STAT.fault
  let s1 := { s with
    pins := { s.pins with faultA := false, faultB := true }
    safe := { s.safe with cleared := false, since := if was then s.safe.since else s.now } }
  let s2 := (s1.wr SAFE.FAULT_CTRL.assert 1).wr SAFE.ISL_STAT.fault 1
  if was then s2 else (s2.count .safe 0 9).raise .safe 0 10

/-- Whether a fault condition stands: an enabled head in a safe state that a fault selected or without its clock, a window whose reaction drives FAULT,
a link error of a link in use, a read-back mismatch of the FAULT pins or of another pad, a failed liveness test, a boost fault or an offline
subchannel (R222, R223, R330, R334). -/
def State.faultStands (s : State) : Bool :=
  (List.range 8).any (fun h => !s.headOff h && ((s.shead h).fault || !s.pwr.osc)) || s.safe.dramBad || s.safe.padBad.any (fun e => e.2 != 0) ||
    (List.range 32).any (fun k => s.on MIRROR.WIN_CFG.fault 0 k && ((s.win k).due || (s.win k).stands)) ||
    (s.rd SAFE.ISL_STAT.link == 2 && (s.safe.slHeard || s.rd SAFE.SAFE_CFG.link_dep != 0)) ||
    s.safe.mismatch.isSome || s.on HAPT.BOOST_STAT.fault || (List.range 8).any (fun n => s.on DRAM.SUB_STAT.offline n)

/-- Whether the firmware may return the FAULT outputs to no fault (R222). -/
def State.mayRelease (s : State) : Bool :=
  s.on SAFE.ISL_STAT.fw_running && s.on SAFE.ISL_STAT.fault && decide (s.safe.since + 20000000 ≤ s.now) && !s.faultStands &&
    (s.safe.cleared || !s.on SAFE.SL_CFG.clear_needed)

/-- The FAULT outputs go to no fault. -/
def State.faultDrop (s : State) : State :=
  (({ s with pins := { s.pins with faultA := true, faultB := false } }).wr SAFE.FAULT_CTRL.assert 0).wr SAFE.ISL_STAT.fault 0

/-- FAULT_RELEASE (R222). -/
def execFaultRelease (s : State) : Out := .next (if s.mayRelease then s.faultDrop else s)

/-- A write of FAULT_CTRL by the safety island: 1 drives fault; 0 releases it where R222 permits. -/
def State.faultCtrl (s : State) (w : Who) (v : Nat) : State :=
  s.onWrite w .safe 0 0x104 v (fun t => if bit v 0 then t.faultAssert else if t.mayRelease then t.faultDrop else t)

/-! ### Source selection (R316 to R318) -/

/-- Source state the HEAD_SRC bits ask of a head (R317). -/
def State.wantSource (s : State) (h : Nat) : Nat :=
  if bit (s.rd SAFE.HEAD_SRC.blank) h then 2 else if bit (s.rd SAFE.HEAD_SRC.fallback) h then 1 else 0

/-- Entries of a head into a safe state within the window of R329. -/
def State.recent (s : State) (l : List Nat) : List Nat :=
  let win := max 1 (s.rd SAFE.HB_CFG.window_s) * 1000000000
  l.filter (fun t => decide (s.now < t + win))

/-- Good frames needed after e entries (R329). -/
def State.neededFor (s : State) (e : Nat) : Nat := min (max 3 (s.rd SAFE.HB_CFG.max_frames)) (3 * 2 ^ (max 1 e - 1))

/-- Show needed and entries of a head (R329, R335). -/
def State.showEntries (s : State) (h : Nat) : State :=
  let e := (s.recent (s.shead h).entries).length
  (s.wr SAFE.HB_STAT.needed (min 255 (s.neededFor e)) 0 h).wr SAFE.HB_STAT.entries (min 15 e) 0 h

/-- Detail of SAFE_ENTER and SAFE_EXIT: the head, and the safe state (R315). -/
def State.safeEvent (s : State) (h code val : Nat) : State := s.eventHead h .safe 0 code h val

/-- The source a head is to show takes effect. Entering a safe state is counted, and it and a return to the compositor are delivered; every change is
logged where no fault's entry has it already (R219, R221, R317, R329). The entry of a change between the safe states carries SAFE_ENTER: log 189. -/
def State.applySource (s : State) (h : Nat) : State :=
  let was := s.rd SAFE.HB_STAT.source 0 h
  let now := s.wantSource h
  let c := s.shead h
  let code := if now = 0 then Code.SAFE_EXIT else Code.SAFE_ENTER
  let s0 := (s.wr SAFE.HB_STAT.source now 0 h).setShead h { c with said := 0 }
  let s1 :=
    if was = now then s0
    else
      let u :=
        if was = 0 then
          (((s0.setShead h { c with said := 0, entries := s0.recent c.entries ++ [s0.now] }).wr SAFE.HB_STAT.good 0 0 h).count .safe 0 0).raise .safe 0 8
        else if now = 0 then ((s0.setShead h { c with said := 0, fault := false }).wr SAFE.HB_STAT.good 0 0 h).raise .safe 0 9
        else s0
      let u1 := if c.said = now ∧ now ≠ 0 then u
        else u.logEntry u.now code (Blk.typeCode .safe * 256) (2 ^ h) (if now = 0 then 0 else 2)
      if was = 0 ∨ now = 0 then u1.safeEvent h code now else u1
  (s1.showEntries h).showBl h

/-- A backlight forced off early is restored at the frame start that shows the safe state or the overlay (R221). -/
def State.backlightBack (s : State) (h : Nat) : State :=
  if (s.shead h).early then
    ((s.setShead h { s.shead h with early := false }).wr SAFE.HEAD_SRC.bl_off (clrBit (s.rd SAFE.HEAD_SRC.bl_off) h)).showBl h
  else s

/-- DISPENh is forced low: the link waits, without the timed sequence (R317, R352). -/
def State.forceDispen (s : State) (h : Nat) : State := if s.linkState h = 0 then s.setDispen h false else s.linkDown h

/-- HEAD_SRC has changed from old values of dispen_off: overrides act at once, the source at the next frame start (R9, R317). A
display enable newly forced low counts as a safe-state entry (R15). -/
def State.headSrcNow (s : State) (oldDispen : Nat) : State :=
  (List.range 8).foldl (fun t h =>
    (if bit (t.rd SAFE.HEAD_SRC.dispen_off) h && !bit oldDispen h then (t.forceDispen h).count .safe 0 0 else t).showBl h) s

/-- A write of HEAD_SRC by the safety island (R317). -/
def State.headSrcWrite (s : State) (w : Who) (v : Nat) : State :=
  s.onWrite w .safe 0 0x10C v (fun t => (t.storeWord .safe 0 0x10C v).headSrcNow (t.rd SAFE.HEAD_SRC.dispen_off))

/-- HEAD_SRC_WRITE (R317). -/
def execHeadSrcWrite (w : Who) (v : Word) (s : State) : Out := .next (s.headSrcWrite w v.toNat)

/-- Select a safe state, 1 fallback or 2 blank, for a head because of a fault present since a time; the more restrictive of two stands
(R221, R223). -/
def State.selectSafe (s : State) (h st since : Nat) (dispenOff : Bool) : State :=
  let old := s.rd SAFE.HEAD_SRC.dispen_off
  let s1 := if st = 2 then s.wr SAFE.HEAD_SRC.blank (setBit (s.rd SAFE.HEAD_SRC.blank) h)
    else s.wr SAFE.HEAD_SRC.fallback (setBit (s.rd SAFE.HEAD_SRC.fallback) h)
  let s2 := if dispenOff then s1.wr SAFE.HEAD_SRC.dispen_off (setBit old h) else s1
  let s3 := (s2.setShead h { s2.shead h with fault := true, since := since, said := s2.wantSource h }).wr SAFE.HB_STAT.good 0 0 h
  s3.headSrcNow old

/-- The configured safe state of a head (R318). -/
def State.safeState (s : State) (h : Nat) : Nat := if bit (s.rd SAFE.SAFE_CFG.safe_blank) h then 2 else 1

/-- Heads of a mask. -/
def headsIn (m : Nat) : List Nat := (List.range 8).filter (fun h => bit m h)

/-! ### Reaction to fault lines (R221, R223) -/

/-- Whether a code is a tag code. -/
def isTag (c : Nat) : Bool := c == Code.TAG_STALE || c == Code.TAG_MISSING || c == Code.TAG_PORT
/-- Whether a code is of the safety link. -/
def isSl (c : Nat) : Bool := c == Code.SL_CRC || c == Code.SL_SEQ || c == Code.SL_TIMEOUT

/-- The reaction R223 gives a code: for each head concerned the state to select (0 none), whether DISPENh goes low, and whether FAULT is
asserted. -/
def State.reactionOf (s : State) (g : FaultSig) : (Nat → Nat) × Bool × Bool :=
  if g.code = Code.MIRROR_CRC ∨ g.code = Code.MIRROR_DISAGREE ∨ g.code = Code.LINK_LOST ∨ g.code = Code.SAFE_READBACK then
    (fun _ => 2, false, true)
  else if g.code = Code.CLK_PLL_UNLOCK ∧ g.heads = 0 then (fun _ => 0, false, false)
  else if g.code = Code.PWR_RAIL_ACK then (fun _ => 1, false, true)
  else if g.code = Code.MIRROR_TIMING ∨ g.code = Code.CLK_PLL_UNLOCK ∨ g.code = Code.CLK_REF_LOST then (fun _ => 2, true, true)
  else if isTag g.code then (fun _ => 0, false, s.on MIRROR.WIN_CFG.fault 0 g.idx)
  else if g.code = Code.HAPT_OVERCURRENT then (fun _ => 0, false, false)
  else if g.code = Code.HAPT_HV_FAULT then (fun _ => 0, false, true)
  else (fun h => s.safeState h, false, true)

/-- The safety island handles a fault line whose reaction is no reset: it selects safe states, drives FAULT, and logs the fault with the
heads whose state it changes and the reaction (R219, R221, R223). -/
def State.react (s : State) (g : FaultSig) : State :=
  let (st, disp, fault) := s.reactionOf g
  let hs := headsIn g.heads
  let sel := hs.filter (fun h => st h != 0)
  let fresh := sel.filter (fun h => decide (max (s.rd SAFE.HB_STAT.source 0 h) (s.shead h).said < st h))
  let changed := if isTag g.code then g.heads
    else (fresh.map (fun h => 2 ^ h)).sum
  let s1 := sel.foldl (fun t h => t.selectSafe h (st h) g.time disp) (s.count .safe 0 2)
  let s2 := if fault then s1.faultAssert else s1
  let bits : Nat := b2n fault + 2 * b2n (!sel.isEmpty) + 8 * b2n (isTag g.code) +
    16 * b2n (g.code == Code.HAPT_OVERCURRENT || g.code == Code.HAPT_HV_FAULT)
  s2.logEntry g.time g.code (g.blk * 256 + (if isTag g.code then 0 else g.idx)) changed bits

/-- Fault reaction time of a head (R220). -/
def State.treact (s : State) (h : Nat) : Nat := min 25000000 (2 * s.periodNs h + 1000000)

/-- EARLY_BACKLIGHT_OFF: Treact has passed before the frame start that shows the safe state or the overlay. It runs from when the fault became present,
at most a frame period before it was detected (R220, R221). -/
def execEarlyBacklightOff (h : Fin 8) (s : State) : Out :=
  let k := h.val
  let due := fun (t : Nat) => decide (t + s.treact k ≤ s.now + s.periodNs k)
  let pending := (s.rd SAFE.HB_STAT.source 0 k != s.wantSource k && due (s.shead k).since) ||
    (s.windowsOf k).any (fun w => (s.win w).due && due ((s.win w).turns.getLast?.getD 0))
  .next (if !s.running k ∨ !pending then s
    else
      ((((s.setShead k { s.shead k with early := true }).wr SAFE.HEAD_SRC.bl_off (setBit (s.rd SAFE.HEAD_SRC.bl_off) k))).showBl k).logReact (fun e => bit e.heads k) 2)

/-- Whether pad n (DISPEN0–7, BLPWM0–7, sounder) has read back differently for 1 ms, and the times of mismatches now. -/
def State.padTimes (s : State) (bad : Nat) : SMap Nat × List Nat :=
  let step := fun (a : SMap Nat × List Nat) (n : Nat) =>
    if !bit bad n then (mset a.1 n 0 0, a.2)
    else
      let t := mget s.safe.padBad n 0
      if t = 0 then (mset a.1 n (s.now + 1) 0, a.2)
      else if t + 1000000 ≤ s.now + 1 then (a.1, a.2 ++ [n])
      else a
  (List.range 17).foldl step (s.safe.padBad, [])

/-- FAULT_READBACK: the levels of FAULT_A_N and FAULT_B are read back, and which of DISPEN0–7, BLPWM0–7 and the sounder differ from what
is driven. A FAULT mismatch is logged and drives both pins to fault; persisting for 1 ms it ends the watchdog's service, and its entry says that the
safety domain resets. A DISPEN or BLPWM mismatch of 1 ms blanks its head (R218, R222, R223). -/
def State.readback (s : State) (a b : Bool) (bad : Nat) : State :=
  let differs := a != s.pins.faultA || b != s.pins.faultB
  let s1 := (((s.wrB SAFE.FAULT_RB.a_pin a).wrB SAFE.FAULT_RB.b_pin b).wrB SAFE.FAULT_RB.mismatch differs)
  let s2 := if !differs then { s1 with safe := { s1.safe with mismatch := none } }
    else match s1.safe.mismatch with
      | none => (({ s1 with safe := { s1.safe with mismatch := some s1.now } }).faultAssert).logEntry s1.now Code.SAFE_READBACK
          (Blk.typeCode .safe * 256) 0 1
      | some t =>
        if t + 1000000 ≤ s1.now ∧ !s1.safe.unserved then
          ({ s1 with safe := { s1.safe with unserved := true } }).logReact (fun e => e.code == Code.SAFE_READBACK && e.heads == 0) 5
        else s1
  let (times, due) := s2.padTimes bad
  let s3 := due.foldl (fun t n =>
    t.react ⟨Code.SAFE_READBACK, Blk.typeCode .safe, 0, if n < 16 then 2 ^ (n % 8) else 0, t.now⟩) s2
  { s3 with safe := { s3.safe with padBad := due.foldl (fun m n => mset m n (s2.now + 2) 0) times } }

/-- FAULT_READBACK (R222). -/
def execFaultReadback (a b : Bool) (bad : BitVec 17) (s : State) : Out := .next (s.readback a b bad.toNat)

/-! ### Watchdog, Lantern SRAM (R312, R313, R319, R322, R335) -/

/-- A write of SWD_KICK: the key reloads the safety watchdog (R335). -/
def State.swdKick (s : State) (w : Who) (v : Nat) : State :=
  s.onWrite w .safe 0 0x128 v (fun t =>
    if v % 65536 = 0x5AFE then ({ t with safe := { t.safe with kicked := t.now } }).count .safe 0 8 else t)

/-- SWD_KICK (R312, R335). -/
def execSwdKick (w : Who) (v : Word) (s : State) : Out := .next (s.swdKick w v.toNat)

/-- LSRAM_ADDR moves to the next word, wrapping at 1 MiB (R336). -/
def State.lsramNext (s : State) : State := s.wr LANTERN.LSRAM_ADDR.addr ((s.rd LANTERN.LSRAM_ADDR.addr + 1) % 2 ^ 18)

/-- A corrected word of Lantern SRAM. -/
def State.sramCe (s : State) : State := (s.count .lantern 0 1).raise .lantern 0 8
/-- An uncorrectable word of Lantern SRAM: told on the fault line (R322). -/
def State.sramUe (s : State) : State :=
  ((s.count .lantern 0 2).raise .lantern 0 9).faultLine Code.SAFE_SRAM_UE .lantern 0 0

/-- A write of LSRAM_DATA (R319, R336). -/
def State.lsramWrite (s : State) (w : Who) (v : Nat) : State :=
  s.onWrite w .lantern 0 0x104 v (fun t =>
    let a := t.rd LANTERN.LSRAM_ADDR.addr * 4
    let m := (List.range 4).foldl (fun m k => mset m (a + k) ((leBytes 4 v).getD k 0) 0) t.safe.lsram
    ({ t with safe := { t.safe with lsram := m } }).lsramNext)

/-- A read of LSRAM_DATA (R319, R336). -/
def State.lsramRead (s : State) (find : Ecc) : State :=
  let a := s.rd LANTERN.LSRAM_ADDR.addr * 4
  let d := leVal ((List.range 4).map (fun k => BitVec.ofNat 8 (s.lsramByte (a + k))))
  match find with
  | .clean => s.lsramNext.okResp d
  | .ce => s.lsramNext.sramCe.okResp d
  | .ue => s.lsramNext.sramUe.errResp

/-- LSRAM_DATA_ACCESS: a read, or a write of a word (R319). -/
def execLsramDataAccess (w : Who) (v : Option Word) (find : Ecc) (s : State) : Out :=
  .next (match v with
    | some x => s.lsramWrite w x.toNat
    | none => match s.reach w .lantern 0 0x104 false with | .bad t => t | .good t => t.lsramRead find)

/-- SAFE_SRAM_UE: Lantern reads an uncorrectable word (R322). -/
def execSafeSramUe (s : State) : Out := .next s.sramUe

/-! ### Commits of LANTERN and MIRROR by head (R336, R337) -/

/-- The staged value of an RWS field. -/
def State.rdStaged (s : State) (f : Fld) (i j : Nat) : Nat := mget s.staged (f.key i j 0) (f.rst.val s.variant i j 0)

/-- Bits of a mask taken from b where pick holds, else from a. -/
def mixBits (n a b : Nat) (pick : Nat → Bool) : Nat :=
  (List.range n).foldl (fun v k => if bit (if pick k then b else a) k then setBit v k else v) 0

/-- The safety island gives bits of a visibility or overlay mask the values in b: in the active value, the shadow and a staged set. -/
def State.wrMix (s : State) (f : Fld) (b : Nat) (pick : Nat → Bool) : State :=
  let s1 := (s.wr f (mixBits f.len (s.rd f) b pick)).wrSh f (mixBits f.len (s.rdSh f) b pick)
  if s1.on (HDR.pending f.blk) then
    { s1 with staged := mset s1.staged (f.key 0 0 0) (mixBits f.len (s.rdStaged f 0 0) b pick) (f.rst.val s1.variant 0 0 0) }
  else s1

/-- Whether a staged cell of LANTERN or MIRROR belongs to head h: its regions or windows by the head the set gives them. -/
def State.safeCell (s : State) (b : Blk) (h k : Nat) (rest : Bool) : Bool :=
  let off := k / 64 % 4096
  if b = .lantern then
    if 0x200 ≤ off then s.rdStaged LANTERN.REG_CTRL.head 0 ((off - 0x200) / 0x20) == h else rest && off == 0x108
  else if 0x200 ≤ off then s.rdStaged MIRROR.WIN_CFG.head 0 ((off - 0x200) / 0x10) == h else rest && off == 0x104

/-- Head h's part of a set staged on LANTERN or MIRROR applies; what belongs to no head applies with the first part (R336, R337). -/
def State.safeApply (s : State) (b : Blk) (h : Nat) : State :=
  let pg := b.page 0
  let left := mget s.parts pg 0
  if !s.on (HDR.pending b) 0 ∨ !bit left h then s
  else
    let rest := bit left 8
    let vis := s.rdStaged LANTERN.VIS.regions 0 0
    let ovl := s.rdStaged LANTERN.OVL.windows 0 0
    let s1 := s.applyPart b 0 (fun k => s.safeCell b h k rest)
    let s2 := if b = .lantern then
        (s1.wr LANTERN.VIS.regions (mixBits 48 (s.rd LANTERN.VIS.regions) vis (fun r => s1.rd LANTERN.REG_CTRL.head 0 r == h))).wr
          LANTERN.OVL.windows (mixBits 32 (s.rd LANTERN.OVL.windows) ovl (fun k => s1.rd MIRROR.WIN_CFG.head 0 k == h))
      else s1
    let left' := clrBit (clrBit left h) 8
    let s3 := { s2 with parts := mset s2.parts pg left' 0 }
    if left' = 0 then s3.commitDone b 0 else s3

/-- A set is staged on LANTERN or MIRROR: parts of heads that do not run apply at once (R336). -/
def State.safeCommit (s : State) (b : Blk) : State :=
  let s1 := (s.stageSet b 0).wr (HDR.pending b) 1 0
  let s2 := { s1 with parts := mset s1.parts (b.page 0) 0x1FF 0 }
  (List.range 8).foldl (fun t h => if t.running h then t else t.safeApply b h) s2

/-! ### Mirror (R323 to R329) -/

/-- What the safety island holds of a camera port's tags: (sequence, write time), newest last (R327). -/
def State.cap (s : State) (n : Nat) : CapSt := mget s.caps n {}
/-- Set what a camera port holds. -/
def State.setCap (s : State) (n : Nat) (v : CapSt) : State := { s with caps := mset s.caps n v {} }

/-- Age limit of a window in ns: the clamped register, at most 64 frame periods of the camera as its last tags are spaced (R327, R337). -/
def State.winLimit (s : State) (k : Nat) : Nat :=
  let lim := clamp 20 2000 (s.rd MIRROR.WIN_CFG.limit_ms 0 k) * 1000000
  match (s.cap (s.rd MIRROR.WIN_CFG.port 0 k)).tags.reverse with
  | a :: b :: _ => min lim (64 * (a.2 - b.2))
  | _ => lim

/-- When a window's tag was decoded in the frame that has just ended: at the end of its rows. -/
def State.decodeTime (s : State) (k : Nat) : Nat :=
  let h := s.rd MIRROR.WIN_CFG.head 0 k
  min s.now ((s.head h).start.getD s.now + s.linesNs h (s.rd MIRROR.WIN_TAG.y 0 k + 2))

/-- The verdict of R327 on a decoded tag: 1 good, 2 stale, 3 missing, 4 port, and the age in ms. -/
def State.judge (s : State) (k : Nat) (tag : Option Nat) : Nat × Nat :=
  match tag with
  | none => (3, 0)
  | some t =>
    let port := s.rd MIRROR.WIN_CFG.port 0 k
    if bits t 20 4 ≠ port then (4, 0)
    else match (s.cap port).tags.reverse.find? (fun e => e.1 == bits t 8 12) with
      | none => (2, 4095)
      | some e =>
        let age := s.decodeTime k - e.2
        let ms := min 4095 (age / 1000000)
        if s.winLimit k < age then (2, ms)
        else if s.winLimit k < s.decodeTime k - (s.cap port).advanced then (2, ms)
        else (1, ms)

/-- The code of a verdict. -/
def verdictCode (v : Nat) : Nat := if v = 2 then Code.TAG_STALE else if v = 3 then Code.TAG_MISSING else Code.TAG_PORT

/-- A window is judged in the frame of its head that has ended (R326 to R328). -/
def State.judgeWindow (s : State) (k : Nat) : State :=
  let h := s.rd MIRROR.WIN_CFG.head 0 k
  let pre := s.winPre k
  let tag := s.winTag k
  let (v, age) := s.judge k tag
  let s1 := s.wr MIRROR.WIN_TAP.pre (if pre then setBit (s.rd MIRROR.WIN_TAP.pre) k else clrBit (s.rd MIRROR.WIN_TAP.pre) k)
  let s2 := match tag with
    | some t => ((s1.wr MIRROR.WIN_STAT.seq (bits t 8 12) 0 k).wr MIRROR.WIN_STAT.port (bits t 20 4) 0 k).count .mirror 0 4
    | none => s1
  let s3 := (s2.wr MIRROR.WIN_STAT.verdict v 0 k).wr MIRROR.WIN_STAT.age_ms age 0 k
  let c := s3.win k
  if v = 1 then (if c.bad then s3.setWin k { c with run := c.run + 1 } else s3)
  else
    let code := verdictCode v
    let s4 := (s3.count .mirror 0 (if v = 2 then 5 else if v = 3 then 6 else 7)).raise .mirror 0 11
    if c.bad then s4.setWin k { c with run := 0 }
    else
      let s5 := s4.setWin k { c with bad := true, due := true, run := 0, turns := s4.recent c.turns ++ [s4.now] }
      (s5.faultLine code .mirror k (2 ^ h)).eventHead h .mirror 0 code h k

/-- Set or clear head h's bit of a CHK_STAT field. -/
def State.chk (s : State) (f : Fld) (h : Nat) (v : Bool) : State := s.wr f (if v then setBit (s.rd f) h else clrBit (s.rd f) h)

/-- Whether a fault that R223 lists stands on a head: its link is enabled and not Active, the safety link is in error and the head depends on
it, a subchannel is offline, the last liveness test failed, or its clock does not run (R103, R178, R329, R347). -/
def State.headFaulty (s : State) (h : Nat) : Bool :=
  !s.headClock h || s.safe.dramBad ||
  (s.on LINK.LINK_CTRL.enable h && s.linkState h != 4) ||
    (s.rd SAFE.ISL_STAT.link == 2 && bit (s.rd SAFE.SAFE_CFG.link_dep) h) ||
    (List.range 8).any (fun n => s.on DRAM.SUB_STAT.offline n) || s.faults.any (fun g => bit g.heads h)

/-- Mirror's checks of the frame a head has sent, at the start of vertical blanking that ends it, and its judgement for hand-back (R323 to
R329). prev is the previous start of vertical blanking, if there was one. -/
def State.mirrorFrame (s : State) (h : Nat) (obs : FrameObs) (prev : Option Nat) : State :=
  if (s.head h).start.isNone then s
  else
    let per := s.periodNs h
    let tol := s.rd MIRROR.TIM_TOL.tol_permille
    let gap := match prev with
      | some t => let d := s.now - t; decide (1000 * (max d per - min d per) ≤ per * tol)
      | none => true
    let timing := obs.outOk && gap
    let checked := (s.regionsOf h).filter (fun r => s.on LANTERN.REG_CTRL.check 0 r)
    let crcOf := fun r => s.regionCrc h r ^^^ (obs.crcDiff.foldl (fun a e => if e.1.val = r then a ^^^ e.2.toNat else a) 0)
    let s1 := checked.foldl (fun t r => t.wr MIRROR.CRC_ACT.crc (crcOf r) 0 r) s
    let crc := checked.all (fun r => s1.rd MIRROR.CRC_ACT.crc 0 r == s.rd LANTERN.REG_CRC.crc_exp 0 r)
    let s2 := (((s1.chk MIRROR.CHK_STAT.timing_ok h timing).chk MIRROR.CHK_STAT.crc_ok h crc).chk MIRROR.CHK_STAT.agree h obs.agree).count .mirror 0 0
    let s3 := if timing then s2 else ((s2.count .mirror 0 3).raise .mirror 0 10).faultLine Code.MIRROR_TIMING .mirror 0 (2 ^ h)
    let s4 := if crc then s3 else ((s3.count .mirror 0 1).raise .mirror 0 8).faultLine Code.MIRROR_CRC .mirror 0 (2 ^ h)
    let s5 := if obs.agree then s4 else ((s4.count .mirror 0 2).raise .mirror 0 9).faultLine Code.MIRROR_DISAGREE .mirror 0 (2 ^ h)
    let wins := (s.windowsOf h).filter (fun k => s.on MIRROR.WIN_TAG.enable 0 k)
    let s6 := (wins.foldl (fun t k => t.judgeWindow k) s5).raise .mirror 0 12
    let good := timing && obs.preOk && crc && obs.agree && wins.all (fun k => s6.rd MIRROR.WIN_STAT.verdict 0 k == 1) && !s6.headFaulty h
    let s7 := (s6.count .lantern 0 0).setShead h { s6.shead h with stopped := false }
    if s7.rd SAFE.HB_STAT.source 0 h = 0 then s7
    else s7.wr SAFE.HB_STAT.good (if good then min 255 (s7.rd SAFE.HB_STAT.good 0 h + 1) else 0) 0 h

/-- MIRROR_STREAM_STOP: no start of vertical blanking for stop_frames periods. A head that is not required and was disabled is no longer
checked; one stopped in a power-state entry that was granted is not reported (R318, R324). -/
def execMirrorStreamStop (h : Fin 8) (s : State) : Out :=
  let k := h.val
  .next (if (s.shead k).stopped ∨ 1 < s.rd PWR.STATE.state ∨ s.rd HEAD.FRAME_CNT.count k = 0 ∨
      s.now < s.rd HEAD.VBL_TIME.time k + max 1 (s.rd MIRROR.TIM_TOL.stop_frames) * s.periodNs k ∨
      (!s.running k ∧ !bit (s.rd SAFE.SAFE_CFG.required) k) then s
    else
      let s1 := (s.chk MIRROR.CHK_STAT.timing_ok k false).setShead k { s.shead k with stopped := true }
      ((s1.count .mirror 0 3).raise .mirror 0 10).faultLine Code.MIRROR_TIMING .mirror 0 (2 ^ k))

/-! ### Frame start (R317, R328, R330) -/

/-- Clear bit h of a field. -/
def State.clrAt (s : State) (f : Fld) (h : Nat) : State := s.wr f (clrBit (s.rd f) h)

/-- A head hands back: its overrides clear, it returns to the compositor source, and SAFE_EXIT is logged and delivered (R330). -/
def State.handBack (s : State) (h : Nat) : State :=
  let s1 := (((s.clrAt SAFE.HEAD_SRC.fallback h).clrAt SAFE.HEAD_SRC.blank h).clrAt SAFE.HEAD_SRC.dispen_off h).clrAt SAFE.HEAD_SRC.bl_off h
  let s2 := ((s1.setShead h { s1.shead h with fault := false, early := false }).wr SAFE.HB_STAT.source 0 0 h).wr SAFE.HB_STAT.good 0 0 h
  let s3 := ((s2.count .safe 0 1).raise .safe 0 9).logEntry s2.now Code.SAFE_EXIT (Blk.typeCode .safe * 256) (2 ^ h) 0
  s3.safeEvent h Code.SAFE_EXIT 0

/-- Whether a head in a safe state may hand back (R330). -/
def State.mayHandBack (s : State) (h : Nat) : Bool :=
  let c := s.shead h
  let e := (s.recent c.entries).length
  s.rd SAFE.HB_STAT.source 0 h != 0 && !c.pinned && decide (s.neededFor e ≤ s.rd SAFE.HB_STAT.good 0 h) &&
    (match c.entries.getLast? with
     | some t => decide (t + s.rd SAFE.HB_CFG.dwell_ms * 1000000 ≤ s.now)
     | none => true)

/-- The reaction of a window begins: its overlay and its icon show (R328). -/
def State.winReact (s : State) (k : Nat) : State :=
  let icon := s.rd MIRROR.WIN_CFG.icon 0 k
  let s1 := (s.wrMix LANTERN.OVL.windows (2 ^ k) (fun j => j == k)).count .lantern 0 3
  let s2 := if icon < 48 then s1.wrMix LANTERN.VIS.regions (2 ^ icon) (fun j => j == icon) else s1
  s2.setWin k { s2.win k with due := false, stands := true }

/-- The reaction of a window is lifted (R328). -/
def State.winLift (s : State) (k : Nat) : State :=
  let icon := s.rd MIRROR.WIN_CFG.icon 0 k
  let s1 := s.setWin k { s.win k with bad := false, due := false, stands := false, run := 0 }
  let s2 := s1.wrMix LANTERN.OVL.windows 0 (fun j => j == k)
  let shared := (List.range 32).any (fun j => (s2.win j).stands && s2.rd MIRROR.WIN_CFG.icon 0 j == icon)
  if icon < 48 ∧ !shared then s2.wrMix LANTERN.VIS.regions 0 (fun j => j == icon) else s2

/-- Windows of a head at its frame start: reactions that are due begin, and those earned back or disabled are lifted (R328). -/
def State.winFrame (s : State) (h : Nat) : State :=
  (s.windowsOf h).foldl (fun t k =>
    let c := t.win k
    let off := !t.on MIRROR.WIN_TAG.enable 0 k
    if (c.stands || c.due) && off then t.winLift k
    else if c.due then t.winReact k
    else if c.stands && decide (t.neededFor (t.recent c.turns).length ≤ c.run) then t.winLift k
    else t) s

/-- Visibility of link-controlled regions of a head, as the last STATE frame asked (R333). -/
def State.linkVis (s : State) (h : Nat) : State :=
  match s.safe.vis with
  | some v => s.wrMix LANTERN.VIS.regions v (fun r => Config.linkControlled r && s.rd LANTERN.REG_CTRL.head 0 r == h)
  | none => s

/-- The frame start that blanks a head at entry step E3 takes its link down with all delays 0 (R86, R344). -/
def State.entryDark (s : State) (h : Nat) : State :=
  if s.rd PWR.STATE.state = 5 ∧ s.rd PWR.STATE.step = 3 ∧ s.rd SAFE.HB_STAT.source 0 h = 2 ∧ 2 ≤ s.linkState h then s.linkDown h else s

/-- FRAME_START: at a head's first active line a hand-back, the selected source, Lantern's and Mirror's staged parts and the
windows' reactions take effect (R317, R328, R330, R336). -/
def State.frameStart (s : State) (h : Nat) : State :=
  if !s.running h ∨ !s.headClock h then s
  else
    let s1 := ((s.wr HEAD.HEAD_STAT.vblank 0 h).wr HEAD.HEAD_STAT.line 0 h).setHead h { s.head h with start := some s.now }
    let s2 := if s1.on SAFE.ISL_STAT.fw_running && s1.mayHandBack h then s1.handBack h else s1
    let s3 := ((s2.applySource h).safeApply .lantern h).safeApply .mirror h
    let s4 := if s3.on SAFE.ISL_STAT.fw_running then (s3.winFrame h).linkVis h else s3
    ((s4.backlightBack h).showBl h).entryDark h

/-- FRAME_START (R317). -/
def execFrameStart (h : Fin 8) (s : State) : Out := .next (s.frameStart h.val)

end Sys2Proof.Machine
end

