-- ==== Sys2Proof/Machine/Camera.lean ====
section
/-! DEFINITION. Camera intake: frames into capture buffers, the freshness tag, and trigger outputs (R354 to R365). -/

namespace Sys2Proof.Machine

/-- Whether an instance holds camera port n; the manager holds every port no instance holds (R357, R451). -/
def State.holdsPort (s : State) (k n : Nat) : Bool :=
  if k = 0 then (List.range 64).all (fun j => j == 0 || s.instState j == 0 || !bit (s.rd MGR.ALLOC_CAM.ports (b := j)) n)
  else bit (s.rd MGR.ALLOC_CAM.ports (b := k)) n

/-- Crop width, height and origin, odd values lowered and sizes clamped (R357, R365). -/
def State.crop (s : State) (n : Nat) : Nat × Nat × Nat × Nat :=
  let ev := fun v => v / 2 * 2
  (ev (s.rd CAP.CROP_POS.x n), s.rd CAP.CROP_POS.y n, ev (clamp 64 4096 (s.rd CAP.CROP_SIZE.width n)), ev (clamp 64 4096 (s.rd CAP.CROP_SIZE.height n)))

/-- Whether the port stores format 0x7 (R355). -/
def State.cap420 (s : State) (n : Nat) : Bool := s.rd CAP.RX_CFG.dt n == 0x1E && s.on CAP.OUT_CFG.yuv420 n

/-- Data lanes a port receives on: 3 acts as 2, and 0 and 5 to 7 as 4 (R354, R365). -/
def State.capLanes (s : State) (n : Nat) : Nat := [4, 1, 2, 2].getD (s.rd CAP.RX_CFG.lanes n) 4

/-- High-speed traffic is seen on a port (R365). -/
def State.capHs (s : State) (n : Nat) : State := s.setCap n { s.cap n with hsAt := some s.now }

/-- Whether a port has seen high-speed traffic within 1 ms (R365). -/
def State.capActive (s : State) (n : Nat) : Bool := match (s.cap n).hsAt with | some t => !s.past t 1000001 | none => false

/-- Data types R355 accepts. -/
def capTypes : List Nat := [0x1E, 0x22, 0x24, 0x2A, 0x2B, 0x2C]

/-- Bytes per pixel in plane 0 (R355). -/
def State.capBpp (s : State) (n : Nat) : Nat :=
  let dt := s.rd CAP.RX_CFG.dt n
  if dt = 0x24 then 4 else if dt = 0x1E then (if s.cap420 n then 1 else 2) else if dt = 0x22 then 2 else 1

/-- Pitch of a plane: at least the stored row rounded up to 64 bytes (R357). -/
def State.capPitch (s : State) (n plane : Nat) : Nat :=
  let (_, _, w, _) := s.crop n
  let row := (if plane = 0 then w * s.capBpp n else w) + 63
  max (if plane = 0 then s.rd CAP.PITCH.plane0 n else s.rd CAP.PITCH.plane1 n) (row / 64 * 64)

/-- Bytes of a received line that pixel columns lo to hi - 1 need (R355). -/
def lineNeeds (dt hi : Nat) : Nat :=
  if dt = 0x1E ∨ dt = 0x22 then hi * 2 else if dt = 0x24 then hi * 3
  else if dt = 0x2B then (hi + 3) / 4 * 5 else if dt = 0x2C then (hi + 1) / 2 * 3 else hi

/-- Byte i of a line. -/
def lineByte (d : List Byte) (i : Nat) : Byte := d.getD i 0

/-- Bytes stored in plane 0 for w pixels of a line from column x (R355). -/
def packLine (dt : Nat) (y420 : Bool) (d : List Byte) (x w : Nat) : List Byte :=
  (List.range w).flatMap (fun k =>
    let i := x + k
    if dt = 0x1E then (if y420 then [lineByte d (2 * i + 1)] else [lineByte d (2 * i), lineByte d (2 * i + 1)])
    else if dt = 0x22 then [lineByte d (2 * i), lineByte d (2 * i + 1)]
    else if dt = 0x24 then [lineByte d (3 * i), lineByte d (3 * i + 1), lineByte d (3 * i + 2), 255]
    else if dt = 0x2B then [lineByte d (i / 4 * 5 + i % 4)]
    else if dt = 0x2C then [lineByte d (i / 2 * 3 + i % 2)]
    else [lineByte d i])

/-- Chroma bytes of a YUV422 line: Cb and Cr of each pair of pixels. -/
def chromaLine (d : List Byte) (x w : Nat) : List Byte :=
  (List.range w).map (fun k => lineByte d (2 * (x + k)))

/-- Chroma of a row pair, averaged and rounded half up (R355). -/
def chromaPair (a b : List Byte) : List Byte :=
  (List.zip a b).map (fun p => BitVec.ofNat 8 ((p.1.toNat + p.2.toNat + 1) / 2))

/-- Whether a capture descriptor keeps R356. -/
def State.capDescOk (s : State) (n : Nat) (d : List Byte) : Bool :=
  let c := field d 0 4
  bits c 0 4 == 1 && c / 64 == 0 && field d 6 2 == 0 && field d 8 8 % 256 == 0 &&
    (s.cap420 n || field d 0x10 8 == 0)

/-! ### Frame start (R357) -/

/-- Capture rings ready on a pipe: those whose instance holds the port, or those whose instance does not, which are skipped (R357). -/
def State.capRings (s : State) (n : Nat) (held : Bool) : List Nat := (s.readyRings 3 n).filter (fun r => s.holdsPort (ringInst r) n == held)

/-- Entries that wait in the capture rings of a pipe. -/
def State.capWaiting (s : State) (n : Nat) : Nat := ((s.capRings n true).map (fun r => ((s.ring r).tail + 2 ^ 24 - (s.ring r).head) % 2 ^ 24)).sum

/-- Take the next buffer for a frame, of so many entries at most: descriptors that break R356 end as they are taken. -/
def State.capTake : Nat → State → Nat → State
  | 0, s, _ => s
  | f + 1, s, n =>
    match s.pickAmong 3 n (s.capRings n true) with
    | none => s
    | some r =>
      let s1 := s.startJob r 3 n
      match s1.job 3 n with
      | none => s1
      | some j =>
        if s1.capDescOk n j.desc then s1
        else State.capTake f ((s1.setJob 3 n none).endJob r 1 false false j.seq Code.RING_BAD_DESC 0 0) n

/-- The frame ends without its buffer being consumed: the descriptor stays at the head of its ring (R357). -/
def State.capGiveBack (s : State) (n : Nat) : State :=
  match s.job 3 n with
  | none => s
  | some j =>
    let c := s.ring j.ring
    ((s.setJob 3 n none).setRing j.ring ({ c with
      head := (c.head + 2 ^ 24 - 1) % 2 ^ 24
      seq := (c.seq + 2 ^ 32 - 1) % 2 ^ 32
      pre := (0, 0, j.desc) :: c.pre
      inflight := c.inflight - 1
      waitReg := false
      waitMet := true }).rest).tryDisable j.ring

/-- A frame ends short (R357). -/
def State.capShort (s : State) (n : Nat) : State :=
  let c := s.cap n
  let s1 := ((s.setCap n { c with inFrame := false }).wr CAP.RX_STAT.in_frame 0 n).wr CAP.LINES_LAST.lines c.stored n
  if c.dropped ∨ c.fail.isSome ∨ (s.job 3 n).isNone then s1
  else (((s1.capGiveBack n).count .cap n 3).raise .cap n 9).eventPage .cap n Code.CAP_FRAME_SHORT n c.stored

/-- Report the frames dropped in a run (R357). -/
def State.capDropTell (s : State) (n : Nat) : State :=
  let c := s.cap n
  (s.setCap n { c with dropAt := s.now }).eventPage .cap n Code.CAP_NO_BUFFER n c.drops

/-- A frame's traffic: the ring owner's, through port 10 with hint 1; critical where the ring is (R354, R359). -/
def State.capReq (s : State) (r : Nat) (hint : Bool := true) : Req := { reqFor (s.ringRid r) portCam hint with crit := (s.ring r).critical }

/-- All writes of a frame and its tag have responses: the tag's time is recorded, TAG_SEQ advances, and the fence and
the record follow (R357 steps 4 and 5). -/
def State.capWritten (s : State) (n : Nat) : State :=
  let c := s.cap n
  match s.job 3 n with
  | none => s
  | some j =>
    if !c.done then s
    else
      let seq := s.rd CAP.TAG_SEQ.seq n
      let tagged := s.on CAP.TAG_CFG.enable n
      let tags := if tagged then (let l := c.tags ++ [(seq, s.now)]; if 64 < l.length then l.drop 1 else l) else c.tags
      let s1 := (s.setCap n { c with done := false, tags := tags }).wr CAP.TAG_SEQ.seq (seq + 1) n
      let s2 := if tagged then s1.wr CAP.LAST_TAG_TIME.time s.now n else s1
      let s3 := ((s2.count .cap n 1).raise .cap n 8).setJob 3 n none
      let detail := seq + n * 4096 + c.stored * 65536
      let ctrl := field j.desc 0 4
      let q := s.capReq j.ring false
      let s4 :=
        if bit ctrl 4 then
          match s3.signal q (field j.desc 4 2) ((j.seq + 1) % 2 ^ 32) with
          | (t, 0) => t.endJob j.ring 0 (bit ctrl 5) false j.seq 0 detail (field j.desc 0x18 8)
          | (t, code) => t.endJob j.ring 1 false false j.seq code detail (t.fenceAddr (field j.desc 4 2))
        else s3.endJob j.ring 0 (bit ctrl 5) false j.seq 0 detail (field j.desc 0x18 8)
      if c.drops = 0 then s4
      else
        let s5 := s4.capDropTell n
        s5.setCap n { s5.cap n with drops := 0 }

/-- End the job of a frame with an error record; the rest of the frame is discarded and no tag is written (R357, R358). -/
def State.capFail (s : State) (n code addr : Nat) : State :=
  match s.job 3 n with
  | none => s
  | some j =>
    let c := s.cap n
    let s1 := (s.setCap n { c with discard := true, dropped := false, done := false, fail := none }).setJob 3 n none
    s1.endJob j.ring 1 false false j.seq code (c.stored * 65536) addr

/-- A frame whose writes are all out has had its responses by the next frame start: DESIGN CHOICE, log 196 (R357). -/
def State.capSettle (s : State) (n : Nat) : State :=
  match (s.cap n).fail with
  | some e => if (s.cap n).inFrame then s else s.capFail n Code.CAP_WRITE_ERROR e.2
  | none => s.capWritten n

/-- A frame start packet (R357). A frame still being received ends short; what of the last frame has failed ends then. -/
def State.capStart (s : State) (n : Nat) : State :=
  let s0 := (if (s.cap n).inFrame then s.capShort n else s).capSettle n
  let s1 := ((s0.wr CAP.LAST_FS_TIME.time s0.now n).wr CAP.RX_STAT.in_frame 1 n).capHs n
  let s2 := if (s1.job 3 n).isSome then s1
    else State.capTake (s1.capWaiting n) (s1.setCap n { s1.cap n with skips := (s1.cap n).skips + (s1.capRings n false).length }) n
  let fresh := (s1.job 3 n).isNone && (s2.job 3 n).isSome
  let c := s2.cap n
  let c1 := { c with
    inFrame := true, dropped := !fresh, discard := false, short := false, ovf := false, lines := 0, stored := 0, row := []
    fail := none, done := false, lastFs := s2.now, lostTold := false }
  if fresh then s2.setCap n c1
  else
    let first := c.drops == 0
    let s3 := ((s2.setCap n { c1 with drops := c.drops + 1, dropAt := if first then s2.now else c.dropAt }).count .cap n 2).raise .cap n 10
    if !first && decide (c.dropAt + 1000000000 ≤ s3.now) then s3.capDropTell n else s3

/-- CSI_FRAME_START: a frame start on a port's configured virtual channel (R354, R357). -/
def execCsiFrameStart (n : Fin 16) (s : State) : Out := .next (if s.on (HDR.enable .cap) n.val then s.capStart n.val else s)

/-! ### Lines (R354, R355, R357, R360) -/

/-- Store bytes of a frame; a refused write is remembered and discards the rest of the frame (R357). -/
def State.capStore (s : State) (n : Nat) (a : Nat) (d : List Byte) : State :=
  match s.job 3 n with
  | none => s
  | some j =>
    if (s.cap n).fail.isSome then s
    else match s.tryStore (s.capReq j.ring) a d with
      | (t, none) => t.count .cap n 9 d.length
      | (t, some e) => t.setCap n { t.cap n with fail := some (e.1, e.2), discard := true }

/-- A line of the configured type: cropped, packed and written (R355, R357). -/
def State.capLine (s : State) (n : Nat) (d : List Byte) : State :=
  let c := s.cap n
  let (x, y, w, h) := s.crop n
  let dt := s.rd CAP.RX_CFG.dt n
  let s1 := s.setCap n { c with lines := c.lines + 1 }
  if !c.inFrame ∨ c.lines < y ∨ y + h ≤ c.lines ∨ c.ovf then s1
  else if d.length < lineNeeds dt (x + w) then s1.setCap n { s1.cap n with short := true }
  else
    let row := c.stored
    let j := s.job 3 n
    let s2 := if c.dropped ∨ c.discard then s1 else match j with
      | none => s1
      | some b =>
        let t := s1.capStore n (field b.desc 8 8 + row * s.capPitch n 0) (packLine dt (s.cap420 n) d x w)
        if !s.cap420 n then t
        else if row % 2 = 0 then t.setCap n { t.cap n with row := chromaLine d x w }
        else t.capStore n (field b.desc 0x10 8 + row / 2 * s.capPitch n 1) (chromaPair c.row (chromaLine d x w))
    let c2 := s2.cap n
    if c2.discard then s2 else s2.setCap n { c2 with stored := row + 1 }

/-- A packet error of a port: recorded with the data type, counted and flagged (R355). -/
def State.capPacket (s : State) (n dt : Nat) : State :=
  ((s.recErr .cap n Code.CAP_PACKET ridDevice dt).count .cap n 6).raise .cap n 12

/-- CSI_LONG_PACKET: a long packet with its virtual channel, data type and payload; what header ECC found; whether the payload CRC failed;
whether the write FIFO overflowed in it (R354, R355, R360). -/
def execCsiLongPacket (n : Fin 16) (vc : BitVec 4) (dt : BitVec 6) (d : List Byte) (hdr : Ecc) (crcBad overflow : Bool) (s0 : State) : Out :=
  let k := n.val
  let t := dt.toNat
  let s := s0.capHs k
  .next (if !s.on (HDR.enable .cap) k then s0
    else if hdr = .ue then s.capPacket k t
    else
      let s1 := if hdr = .ce then s.count .cap k 5 else s
      if vc.toNat ≠ s.rd CAP.RX_CFG.vc k ∨ t = 0x12 then s1.count .cap k 7
      else
        let s2 := s1.wr CAP.RX_STAT.last_dt t k
        let s3 := if crcBad then s2.capPacket k t else s2
        if t ≠ s.rd CAP.RX_CFG.dt k ∨ !capTypes.contains t then
          (s3.recErr .cap k Code.CAP_FORMAT ridDevice t).count .cap k 8
        else if overflow then
          let s4 := (s3.count .cap k 4).raise .cap k 13
          s4.setCap k { s4.cap k with lines := (s4.cap k).lines + 1, ovf := true, short := true }
        else s3.capLine k d)

/-! ### Frame end and tag (R357, R361, R362) -/

/-- The tag word T (R361). -/
def tagWord (port seq : Nat) : Nat :=
  let low := 0xA5 + (seq % 4096) * 256 + port % 16 * 2 ^ 20
  low + (255 - (bits low 0 8 + bits low 8 8 + bits low 16 8) % 256) * 2 ^ 24

/-- Stored plane 0 bytes of a tag row, one bit a pixel (R361). -/
def tagRow (dt : Nat) (y420 : Bool) (t : Nat) : List Byte :=
  (List.range 32).flatMap (fun x =>
    let b := bit t x
    let y : Byte := if b then 235 else 16
    let v : Byte := if b then 255 else 0
    if dt = 0x1E then (if y420 then [y] else [128, y])
    else if dt = 0x24 then [v, v, v, 255]
    else if dt = 0x22 then [v, v]
    else [v])

/-- Top-left pixel of the tag in the stored frame (R362). -/
def State.tagPos (s : State) (n : Nat) : Nat × Nat :=
  let (_, _, w, h) := s.crop n
  let ix := min (s.rd CAP.TAG_CFG.inset_x n / 2 * 2) (w - 32)
  let iy := min (s.rd CAP.TAG_CFG.inset_y n / 2 * 2) (h - 2)
  let c := s.rd CAP.TAG_CFG.corner n
  (if c % 2 = 0 then ix else w - 32 - ix, if c < 2 then iy else h - 2 - iy)

/-- Write the tag into the frame's buffer (R361, R362). -/
def State.writeTag (s : State) (n : Nat) : State :=
  match s.job 3 n with
  | none => s
  | some j =>
    let (x, y) := s.tagPos n
    let dt := s.rd CAP.RX_CFG.dt n
    let t := tagWord n (s.rd CAP.TAG_SEQ.seq n)
    let a := field j.desc 8 8 + y * s.capPitch n 0 + x * s.capBpp n
    let s1 := (s.capStore n a (tagRow dt (s.cap420 n) t)).capStore n (a + s.capPitch n 0) (tagRow dt (s.cap420 n) (2 ^ 32 - 1 - t))
    if s.cap420 n then s1.capStore n (field j.desc 0x10 8 + y / 2 * s.capPitch n 1 + x) (List.replicate 32 128) else s1

/-- A frame end packet (R357). -/
def State.capEnd (s : State) (n : Nat) : State :=
  let c := s.cap n
  let (_, _, _, h) := s.crop n
  if !c.inFrame then s
  else if c.short ∨ (c.stored < h ∧ !c.discard) then s.capShort n
  else if c.discard then ((s.setCap n { c with inFrame := false }).wr CAP.RX_STAT.in_frame 0 n).wr CAP.LINES_LAST.lines c.stored n
  else
    let s1 := (((s.setCap n { c with inFrame := false, advanced := s.now }).wr CAP.RX_STAT.in_frame 0 n).wr CAP.LINES_LAST.lines c.stored n)
    let s2 := (s1.wr CAP.FRAME_CNT.count (s1.rd CAP.FRAME_CNT.count n + 1) n).count .cap n 0
    if c.dropped then s2
    else
      let s3 := if s2.on CAP.TAG_CFG.enable n then s2.writeTag n else s2
      s3.setCap n { s3.cap n with done := (s3.cap n).fail.isNone }

/-- CSI_FRAME_END (R357). -/
def execCsiFrameEnd (n : Fin 16) (s : State) : Out := .next (if s.on (HDR.enable .cap) n.val then (s.capHs n.val).capEnd n.val else s)

/-- CAP_FRAME_WRITTEN (R357). -/
def execCapFrameWritten (n : Fin 16) (s : State) : Out := .next (s.capWritten n.val)

/-- CAP_WRITE_ERROR: a write of the frame has got an error response, at an address, and the outstanding writes have theirs (R357). A write
that was refused as it was made gives its own address. -/
def execCapWriteError (n : Fin 16) (code : BitVec 16) (addr : Addr) (s : State) : Out :=
  let k := n.val
  .next (match s.job 3 k with
    | none => s
    | some j => match (s.cap k).fail with
      | some e => s.capFail k Code.CAP_WRITE_ERROR e.2
      | none => (s.memRecord (s.capReq j.ring) (code.toNat, addr.toNat)).capFail k Code.CAP_WRITE_ERROR addr.toNat)

/-- CAP_LOST: no frame start within LOST_MS of the last, or of the enable; told once (R357). -/
def execCapLost (n : Fin 16) (s : State) : Out :=
  let k := n.val
  let c := s.cap k
  .next (if !s.on (HDR.enable .cap) k ∨ c.lostTold ∨ !s.past c.lastFs (ms (max 1 (s.rd CAP.LOST_MS.ms k))) then s
    else ((s.setCap k { c with lostTold := true }).raise .cap k 11).eventPage .cap k Code.CAP_LOST k 0)

/-- A write of CAPn:PG_CTRL: a frame being received when the port is disabled ends short; LOST_MS runs from the enable (R357). -/
def State.capCtrl (s : State) (w : Who) (n v : Nat) : State :=
  s.onWrite w .cap n 0x008 v (fun t =>
    if bit v 1 then (((if (t.cap n).inFrame then t.capShort n else t).capGiveBack n).softRegs .cap n).setCap n {}
    else
      let was := t.on (HDR.enable .cap) n
      let t1 := t.wr (HDR.enable .cap) v n
      if bit v 0 && !was then t1.setCap n { t1.cap n with lastFs := t1.now, lostTold := false }
      else if !bit v 0 && (t1.cap n).inFrame then t1.capShort n
      else t1)

/-! ### Triggers (R364) -/

/-- A trigger pulse is emitted. -/
def State.trigPulse (s : State) (n by_ : Nat) : State :=
  (s.setCap n { s.cap n with trigAt := some s.now, trigBy := by_ }).count .cap n 10

/-- Level of TRIGc: high for width_us from a pulse's start, low otherwise and in mode 0; without the MAIN bank's rail nothing drives it (R34, R36,
R364). -/
def State.trigLevel (s : State) (n : Nat) : Bool :=
  s.pins.pwrGood && s.rd CAP.TRIG_CFG.mode n != 0 &&
    (match (s.cap n).trigAt with | some t => decide (s.now < t + max 1 (s.rd CAP.TRIG_CFG.width_us n) * 1000) | none => false)

/-- A write of TRIG_CTRL (R364). -/
def State.trigWrite (s : State) (w : Who) (n v : Nat) : State :=
  s.onWrite w .cap n 0x12C v (fun t => if bit v 0 && t.rd CAP.TRIG_CFG.mode n == 1 then t.trigPulse n 0 else t)

/-- TRIG_FIRE (R364). -/
def execTrigFire (w : Who) (n : Fin 16) (s : State) : Out := .next (s.trigWrite w n.val 1)

/-- Time base of a port's periodic triggers: 2 predicted edges of its head, 1 free-running, 0 neither (R364). -/
def State.trigBase (s : State) (n : Nat) : Nat :=
  let m := s.rd CAP.TRIG_CFG.mode n
  let st := s.rd HEAD.GL_STAT.state (s.rd CAP.TRIG_CFG.head n)
  if m = 3 then 1 else if m = 2 then (if 2 ≤ st ∧ st ≤ 4 then 2 else 1) else 0

/-- Period of a time base in ns (R364). -/
def State.trigPer (s : State) (n base : Nat) : Nat :=
  if base = 2 then s.rd HEAD.GL_PERIOD_NS.ns (s.rd CAP.TRIG_CFG.head n) * max 1 (s.rd CAP.TRIG_CFG.div n)
  else max 1000 (s.rd CAP.TRIG_PERIOD.us n) * 1000

/-- The last edge predicted for the genlock of a trigger's head that lies TRIG_DELAY or more in the past (R292, R364). -/
def State.trigEdgeNow (s : State) (n : Nat) : Option Nat :=
  let h := s.rd CAP.TRIG_CFG.head n
  let t := s.now - s.rd CAP.TRIG_DELAY.us n * 1000
  let p := max 1 (s.rd HEAD.GL_PERIOD_NS.ns h)
  match (s.head h).edge with
  | none => none
  | some e => if s.rd CAP.TRIG_DELAY.us n * 1000 ≤ s.now ∧ e ≤ t then some (e + (t - e) / p * p) else none

/-- Whether a pulse of the present time base is due: free-running one period after the last; with genlock at an edge at least div edges after the one last followed,
give or take half a period of prediction (R364). -/
def State.trigDue (s : State) (n : Nat) : Bool :=
  let c := s.cap n
  let b := s.trigBase n
  if b = 2 then
    match s.trigEdgeNow n, c.trigEdge with
    | some e, some l => decide (2 * l + 2 * s.trigPer n 2 ≤ 2 * e + s.rd HEAD.GL_PERIOD_NS.ns (s.rd CAP.TRIG_CFG.head n))
    | some _, none => true
    | none, _ => false
  else b == 1 && (match c.trigAt with | some t => c.trigBy != 1 || s.past t (s.trigPer n 1) | none => true)

/-- TRIG_PULSE_DUE: a predicted or free-running pulse falls due; after a change of time base one closer than half the shorter period is
omitted (R364). -/
def execTrigPulseDue (n : Fin 16) (s : State) : Out :=
  let k := n.val
  let b := s.trigBase k
  let c := s.cap k
  let soon := match c.trigAt with
    | some t => c.trigBy != b && c.trigBy != 0 && decide (2 * (s.now - t) < min (s.trigPer k 1) (s.trigPer k 2))
    | none => false
  let s1 := if b = 2 then s.setCap k { c with trigEdge := s.trigEdgeNow k } else s
  .next (if !s.trigDue k then s else if soon then s1.count .cap k 11 else s1.trigPulse k b)

end Sys2Proof.Machine
end

