-- ==== Sys2Proof/Machine/Touch.lean ====
section
/-! DEFINITION. Capacitive touch and keys: scans, noise hopping, baselines, contacts, keys, self-test, reports and the wake scan (R366
to R388). -/

namespace Sys2Proof.Machine

/-- Touch on surface p. -/
def State.touchSt (s : State) (p : Nat) : TouchSt := mget s.touch p {}
/-- Set touch on surface p. -/
def State.setTouch (s : State) (p : Nat) (v : TouchSt) : State := { s with touch := mset s.touch p v {} }
/-- Surface p. -/
def State.surface (s : State) (p : Nat) : SurfSt := mget s.surf p {}
/-- Set surface p. -/
def State.setSurf (s : State) (p : Nat) (v : SurfSt) : State := { s with surf := mset s.surf p v {} }

/-- Rows, columns and keys of the attached surface (R366, R407). -/
def State.touchT (s : State) (p : Nat) : Nat := bits (s.rd SURF.ID_INFO.trk p) 0 8
/-- Columns. -/
def State.touchR (s : State) (p : Nat) : Nat := bits (s.rd SURF.ID_INFO.trk p) 8 8
/-- Keys. -/
def State.touchK (s : State) (p : Nat) : Nat := bits (s.rd SURF.ID_INFO.trk p) 16 8

/-- Channels of a role in the order of the electrode map: 1 transmit, 2 receive, 3 key (R366, R391). -/
def State.roleChans (s : State) (p role : Nat) : List Nat :=
  let m := s.surface p |>.map
  let n := (m.filter (fun e => e.1 == role)).length
  (List.range n).filterMap (fun k => (List.range 128).find? (fun c => m.getD c (0, 0) == (role, k)))

/-- Raw count of a conversion with the given balancing pulses: the ratio to the modulator's clock cycles, rounded to nearest (R367). -/
def rawCount (conv bal : Nat) : Nat := min 65535 ((2 * 65535 * bal + conv * 64) / (2 * (conv * 64)))

/-- Conversion time in µs: clamped, and at most what lets the base sequence end in time (R368, R388). -/
def convTime (t conv : Nat) : Nat := min (clamp 20 100 conv) (3600 / (t + 3) - 2)

/-- The conversion time SCAN_CFG asks of a surface. -/
def State.convUs (s : State) (p : Nat) : Nat := convTime (s.touchT p) (s.rd TOUCH.SCAN_CFG.conv_us (2 * p))

/-- TILE_STAT.state of both tiles of a surface. -/
def State.setTiles (s : State) (p st : Nat) : State := (s.wr TOUCH.TILE_STAT.state st (2 * p)).wr TOUCH.TILE_STAT.state st (2 * p + 1)
/-- TILE_STAT.state of a surface's first tile. -/
def State.tiles (s : State) (p : Nat) : Nat := s.rd TOUCH.TILE_STAT.state (2 * p)

/-- Whether a surface's touch is enabled: SURF_CTRL.enable, and PG_CTRL.enable of both pages (R373). -/
def State.touchOn (s : State) (p : Nat) : Bool :=
  s.on TOUCH.SURF_CTRL.enable (2 * p) && s.on (HDR.enable .touch) (2 * p) && s.on (HDR.enable .touch) (2 * p + 1)

/-- A surface that is attached and enabled starts, at step 2 of R373; one that is no longer enabled stops once no scan runs (R373, R386). -/
def State.touchCheck (s : State) (p : Nat) : State :=
  if s.touchOn p then
    (if s.tiles p = 0 ∧ s.rd SURF.SURF_STAT.state p = 3 ∧ s.mgrServed then s.setTiles p 1 else s)
  else if 1 ≤ s.tiles p ∧ s.tiles p ≤ 3 ∧ !(s.touchSt p).busy then s.setTiles p 0
  else s

/-- An event of a surface's touch: its detail names the surface (R388). -/
def State.touchEvent (s : State) (p code val : Nat) : State := s.eventPage .touch (2 * p) code p val

/-! ### Self-test (R376, R377) -/

/-- Exclude a channel for a finding: its bit is set in the bitmap of its tile. -/
def State.exclude (s : State) (p c : Nat) (f : Fld) : State :=
  let i := 2 * p + c / 64
  let t := s.touchSt p
  (s.setTouch p { t with excl := if t.excl.contains c then t.excl else t.excl ++ [c] }).wr f (setBit (s.rd f i) (c % 64)) i

/-- A channel found open or shorted to ground: excluded, and delivered once. -/
def State.foundBad (s : State) (p c : Nat) (f : Fld) (code : Nat) : State :=
  if bit (s.rd f (2 * p + c / 64)) (c % 64) then s
  else ((s.exclude p c f).raise .touch (2 * p) 10).touchEvent p code c

/-- Two channels found shorted to each other: both excluded; the event names the lower. -/
def State.foundAdj (s : State) (p a b : Nat) : State :=
  let f := TOUCH.ADJ.channels
  if bit (s.rd f (2 * p + a / 64)) (a % 64) && bit (s.rd f (2 * p + b / 64)) (b % 64) then s
  else (((s.exclude p a f).exclude p b f).raise .touch (2 * p) 10).touchEvent p Code.TOUCH_SHORT_ADJ (min a b)

/-- Findings of self-test conversion A, with the raw count of each channel. -/
def State.testA (s : State) (p : Nat) (raw : Nat → Nat) : State :=
  let m := s.rd TOUCH.TEST_CFG.open_margin (2 * p)
  let sat := s.rd TOUCH.TEST_CFG.sat (2 * p)
  ([1, 2, 3].flatMap (s.roleChans p)).foldl (fun t c =>
    let n := (Config.noSensor (p * 128 + c)).toNat
    let t1 := if raw c ≤ n + m ∧ n ≤ raw c + m then t.foundBad p c TOUCH.OPEN.channels Code.TOUCH_OPEN else t
    if sat ≤ raw c then t1.foundBad p c TOUCH.GND.channels Code.TOUCH_SHORT_GND else t1) s

/-- Findings of conversion B (odd positions measured, q = 1) or C (even positions measured, q = 0). -/
def State.testBC (s : State) (p q : Nat) (raw : Nat → Nat) : State :=
  [1, 2, 3].foldl (fun t role =>
    let l := s.roleChans p role
    (List.range l.length).foldl (fun u k =>
      if k % 2 ≠ q then u
      else ([k - 1, k + 1].filter (fun j => j != k && decide (j < l.length) && j % 2 != q)).foldl (fun v j =>
        let a := raw (l.getD k 0); let b := raw (l.getD j 0)
        if 100 * (a - b) ≤ b ∧ 100 * (b - a) ≤ b then v.foundAdj p (l.getD k 0) (l.getD j 0) else v) u) t) s

/-! ### Starting a surface (R373) -/

/-- SURFACE_START: step 2 has run: a listen conversion at each frequency, by column, and self-test conversions A, B and C, by channel, as
balancing pulses. The tiles then wait in Starting for any calibration (R373, R376, R403). -/
def State.surfaceStart (s0 : State) (p : Nat) (listen : List (List Nat)) (a b c : List Nat) : State :=
  let s := s0.touchCheck p
  if s.tiles p ≠ 1 then s
  else
    let cv := s.convUs p
    let raws := fun (l : List Nat) (k : Nat) => rawCount cv (l.getD k 0)
    let n := s.touchT p * s.touchR p + s.touchK p
    let s1 := s.setTouch p {
      listen := (List.range 8).map (fun f => (List.range (s.touchR p)).map (fun r => rawCount cv ((listen.getD f []).getD r 0)))
      noise := List.replicate 8 0, base := List.replicate n 0, raw := List.replicate n 0, delta := List.replicate n 0
      suspect := List.replicate n false, runs := List.replicate (s.touchK p) 0 }
    let s2 := [2 * p, 2 * p + 1].foldl (fun t i =>
      ((((t.wr TOUCH.OPEN.channels 0 i).wr TOUCH.GND.channels 0 i).wr TOUCH.ADJ.channels 0 i).wr TOUCH.TILE_STAT.hop 0 i).count .touch i 0 11) s1
    let s3 := (((s2.wr TOUCH.KEY_STAT.pressed 0 (2 * p)).wr TOUCH.SCAN_STAT.hop 0 (2 * p)).wr TOUCH.SCAN_STAT.noisy 0 (2 * p)).wr TOUCH.SCAN_STAT.suspect_cnt 0 (2 * p)
    let s4 := ((s3.testA p (raws a)).testBC p 1 (raws b)).testBC p 0 (raws c)
    let u := s4.surface p
    (s4.setSurf p { u with cal := if u.cal = 0 then 1 else u.cal }).setTiles p 2

/-- SURFACE_START (R373). -/
def execSurfaceStart (p : Fin 8) (listen : List (List Nat)) (a b c : List Nat) (s : State) : Out :=
  .next (s.surfaceStart p.val listen a b c)

/-! ### Scan start (R368, R370, R386) -/

/-- TX frequency of a surface in kHz: that of its hop index (R370, R388). -/
def State.txKhz (s : State) (p : Nat) : Nat := clamp 100 500 (s.rd TOUCH.HOP_F.khz (2 * p) (s.rd TOUCH.SCAN_STAT.hop (2 * p)))

/-- Whether the next scan of a surface may start: scans start every 160,000 cycles of 38.4 MHz, 12.5 ms in three, from scan 0 (R368). -/
def TouchSt.scanTime (t : TouchSt) (now : Nat) : Bool := t.scan == 0 || decide (3 * t.scan0 + 12500000 * t.scan ≤ 3 * now)

/-- The configuration a scan runs with: conv_us, noise_hop, limit, touch_thr, touch_off, suspect_margin, release, track_band, track_shift,
max_jump, hs_ports; scanStart adds the TX frequency (R386, R388). -/
def State.touchCfg (s : State) (p : Nat) : List Nat :=
  let i := 2 * p
  let thr := s.rd TOUCH.THR_CFG.touch_thr i
  [s.convUs p, max 1 (s.rd TOUCH.SCAN_CFG.noise_hop i), s.rd TOUCH.NOISE_CFG.limit i, thr, min thr (s.rd TOUCH.THR_CFG.touch_off i),
   s.rd TOUCH.THR_CFG2.suspect_margin i, s.rd TOUCH.THR_CFG2.release i, s.rd TOUCH.BASE_CFG.track_band i,
   max 1 (s.rd TOUCH.BASE_CFG.track_shift i), max 1 (s.rd TOUCH.BASE_CFG.max_jump i), s.rd TOUCH.SURF_CTRL.hs_ports i]

/-- The key configuration words: thr, hyst, deb_press, deb_release of each key in turn. -/
def State.touchKeyCfg (s : State) (p : Nat) : List Nat :=
  (List.range (s.touchK p)).flatMap (fun k =>
    [s.rd TOUCH.KEY_CFG.thr (2 * p) k, 4 * s.rd TOUCH.KEY_CFG.hyst (2 * p) k, max 1 (s.rd TOUCH.KEY_CFG.deb_press (2 * p) k),
     max 1 (s.rd TOUCH.KEY_CFG.deb_release (2 * p) k)])

/-- SCAN_START: a scan period begins; a hop that is due and the configuration take effect (R368, R370, R386). Scan 0 waits for a calibration
of the port to end (R373). -/
def State.scanStart (s : State) (p : Nat) : State :=
  let t := s.touchSt p
  let st := s.tiles p
  let cal := (s.surface p).cal
  if t.busy ∨ !(st = 3 ∨ (st = 2 ∧ (cal = 0 ∨ cal = 3))) ∨ !t.scanTime s.now then s
  else
    let s1 := match t.next with
      | none => s
      | some h => (((s.wr TOUCH.SCAN_STAT.hop h (2 * p)).wr TOUCH.TILE_STAT.hop h (2 * p)).wr TOUCH.TILE_STAT.hop h (2 * p + 1)).count .touch (2 * p) 6
    s1.setTouch p { t with
      next := none, busy := true, scan0 := if t.scan = 0 then s.now else t.scan0, cfg := s.touchCfg p ++ [s1.txKhz p], keyCfg := s.touchKeyCfg p
      testing := if st = 3 then t.tests else 0, tests := if st = 3 then t.tests - 1 else t.tests }

/-- SCAN_START (R368). -/
def execScanStart (p : Fin 8) (s : State) : Out := .next (s.scanStart p.val)

/-! ### Conversions and deltas (R371, R372, R374) -/

/-- The raw counts of each slot in turn, none where the conversion was discarded for good; with the repeats and the discards (R371). A
repeat must leave the scan within its 3,600 µs. -/
def slotsRaw (conv ports total : Nat) : Nat → List SlotObs → List (Option (List Nat)) × Nat × Nat
  | _, [] => ([], 0, 0)
  | reps, o :: t =>
    let raw := o.bal.map (rawCount conv)
    let fits := decide ((total + reps + 1) * (conv + 2) ≤ 3600)
    if o.hs.toNat &&& ports = 0 then
      let (l, r, d) := slotsRaw conv ports total reps t
      (some raw :: l, r, d)
    else match (if fits then o.again else none) with
      | none =>
        let (l, r, d) := slotsRaw conv ports total reps t
        (none :: l, r, d + 1)
      | some h =>
        let (l, r, d) := slotsRaw conv ports total (reps + 1) t
        if h.toNat &&& ports = 0 then (some raw :: l, r + 1, d + 1) else (none :: l, r + 1, d + 2)

/-- The mean of two deltas, rounded toward zero. -/
def meanZ (a b : Int) : Int := (a + b).tdiv 2

/-- The deltas of row t filled from its neighbours in the same scan, else from the previous scan (R371). -/
def fillRow (t : Nat) (rows : List (Option (List Int))) (prev : List Int) : List Int :=
  let at_ := fun (k : Nat) => (rows.getD k none)
  match (if t = 0 then none else at_ (t - 1)), at_ (t + 1) with
  | some a, some b => (List.zip a b).map (fun e => meanZ e.1 e.2)
  | some a, none => a
  | none, some b => b
  | none, none => prev

/-- Draw n free values. -/
def State.draws : Nat → State → List Nat × State
  | 0, s => ([], s)
  | n + 1, s =>
    let (v, s1) := s.draw
    let (l, s2) := State.draws n s1
    (v :: l, s2)

/-- Cut a list into rows of n. -/
def rowsOf {α : Type} (n : Nat) : Nat → List α → List (List α)
  | 0, _ => []
  | k + 1, l => l.take n :: rowsOf n k (l.drop n)

/-- Whether node or key n is excluded (R377). -/
def State.isExcl (s : State) (p n : Nat) : Bool :=
  let e := (s.touchSt p).excl
  let R := s.touchR p
  let nodes := s.touchT p * R
  if n < nodes then e.contains ((s.roleChans p 1).getD (n / R) 128) || e.contains ((s.roleChans p 2).getD (n % R) 128)
  else e.contains ((s.roleChans p 3).getD (n - nodes) 128)

/-- The new raw count of each node and key, none where its conversion was discarded: from the raw counts of rows and keys. -/
def newRaws (T R K : Nat) (slots : List (Option (List Nat))) : List (Option Nat) :=
  (List.range T).flatMap (fun t => (List.range R).map (fun r => (slots.getD (2 + t) none).map (fun l => l.getD r 0))) ++
    (List.range K).map (fun k => (slots.getD (2 + T) none).map (fun l => l.getD k 0))

/-- Baselines and suspects of scan 0 (R374, R375); the baseline of a node whose conversion was discarded is a free value. -/
def State.scanZero (s : State) (p margin : Nat) (raws : List (Option Nat)) : State :=
  let nodes := s.touchT p * s.touchR p
  let t := s.touchSt p
  let missing := raws.any (fun x => x.isNone)
  let (fr, s1) := if missing then s.draws (2 * raws.length) else ([], s)
  let refs := (s.surface p).refs
  let sus := (List.range raws.length).map (fun n =>
    match refs, raws.getD n none with
    | some l, some v =>
      let r := l.getD n 0
      !s.isExcl p n && decide ((margin : Int) < if n < nodes then (r : Int) - v else (v : Int) - r)
    | _, _ => false)
  let base := (List.range raws.length).map (fun n =>
    match raws.getD n none with
    | some v => if sus.getD n false then (refs.getD []).getD n 0 else v
    | none => fr.getD n 0 % 65536)
  let prev := if missing then (List.range raws.length).map (fun n => toSigned 16 (fr.getD (raws.length + n) 0)) else t.delta
  s1.setTouch p { t with base := base, suspect := sus, delta := prev }

/-- The deltas of the scan: measured, or filled in; 0 for what is excluded (R371, R372, R377). -/
def State.scanDeltas (s : State) (p : Nat) (raws : List (Option Nat)) : List Int :=
  let T := s.touchT p; let R := s.touchR p
  let t := s.touchSt p
  let own := (List.range raws.length).map (fun n => (raws.getD n none).map (fun v =>
    let b := (t.base.getD n 0 : Int)
    if s.isExcl p n then (0 : Int) else if n < T * R then b - v else v - b))
  let rows := (rowsOf R T own).map (fun l => if l.all (fun x => x.isSome) then some (l.map (fun x => x.getD 0)) else none)
  let prev := rowsOf R T t.delta
  let filled := (List.range T).flatMap (fun k => match rows.getD k none with
    | some l => l
    | none => fillRow k rows (prev.getD k []))
  let keys := (List.range (raws.length - T * R)).map (fun k => (own.getD (T * R + k) none).getD (t.delta.getD (T * R + k) 0))
  (List.range raws.length).map (fun n => if s.isExcl p n then 0 else (filled ++ keys).getD n 0)

/-! ### Noise (R370) -/

/-- Noise level of a listen conversion at frequency f. -/
def TouchSt.level (t : TouchSt) (f : Nat) (raws : List Nat) : Nat :=
  (List.zip raws (t.listen.getD f [])).foldl (fun m e => max m (max (e.1 - e.2) (e.2 - e.1))) 0

/-- The index of the lowest of a list, the lowest index winning a tie. -/
def argMin (l : List Nat) : Nat :=
  (List.range l.length).foldl (fun b k => if l.getD k 0 < l.getD b 0 then k else b) 0

/-- Noise levels, hopping and TOUCH_NOISE after a scan (R370). -/
def State.scanNoise (s : State) (p hopCount limit : Nat) (slots : List (Option (List Nat))) : State :=
  let t := s.touchSt p
  let h := s.rd TOUCH.SCAN_STAT.hop (2 * p)
  let v := t.scan % 8
  let lv : Nat → Option (List Nat) → Nat := fun f o => match o with | some l => t.level f l | none => t.noise.getD f 0
  let now : Nat := lv h (slots.getD 0 none)
  let n1 := t.noise.set h now
  let noise := n1.set v (match slots.getD 1 none with | some l => t.level v l | none => n1.getD v 0)
  let loud : Bool := Nat.blt limit now
  let run := if loud then t.noisy + 1 else 0
  let all := noise.all (fun x => decide (limit < x))
  let best := argMin noise
  let hops := decide (hopCount ≤ run) && best != h
  let s1 := (s.setTouch p { t with
    noise := noise, noisy := if hops then 0 else run, next := if hops then some best else none
    told := if all then true else if loud then t.told else false }).wr TOUCH.SCAN_STAT.noisy (b2n all) (2 * p)
  let s2 := if loud then s1.count .touch (2 * p) 7 else s1
  if all && !t.told then (s2.raise .touch (2 * p) 11).touchEvent p Code.TOUCH_NOISE 0 else s2

/-! ### Contacts (R378) -/

/-- Nodes of the 3×3 centred on a node, with their column and row offsets. -/
def around (T R n : Nat) : List (Nat × Int × Int) :=
  ([-1, 0, 1] : List Int).flatMap (fun dr => ([-1, 0, 1] : List Int).filterMap (fun dc =>
    let t := (n / R : Int) + dr; let r := (n % R : Int) + dc
    if 0 ≤ t ∧ t < T ∧ 0 ≤ r ∧ r < R then some ((t * R + r).toNat, dc, dr) else none))

/-- Whether node n is a peak. -/
def isPeak (T R off : Nat) (d : List Int) (ex : Nat → Bool) (n : Nat) : Bool :=
  let v := d.getD n 0
  !ex n && decide ((off : Int) ≤ v) && (around T R n).all (fun e => e.1 == n || decide (d.getD e.1 0 < v) || (d.getD e.1 0 == v && decide (n < e.1)))

/-- The nearest integer to a / b, halves away from zero. -/
def roundDiv (a b : Int) : Int := if 0 ≤ a then (2 * a + b) / (2 * b) else -((2 * (-a) + b) / (2 * b))

/-- The contact of a peak, and whether its position is defined: the sum of its deltas is not 0. -/
def contactOf (T R off : Nat) (d : List Int) (n : Nat) : Contact × Bool :=
  let cells := (around T R n).map (fun e => (max 0 (d.getD e.1 0), e.2.1, e.2.2))
  let sum := cells.foldl (fun a e => a + e.1) 0
  let sx := cells.foldl (fun a e => a + e.2.1 * e.1) 0
  let sy := cells.foldl (fun a e => a + e.2.2 * e.1) 0
  let pos := fun (k : Nat) (m : Int) => (256 * (k : Int) + 128 + roundDiv (256 * m) sum).toNat
  ({ id := 0, x := pos (n % R) sx, y := pos (n / R) sy
     area := ((around T R n).filter (fun e => decide ((off : Int) ≤ d.getD e.1 0))).length
     power := (d.getD n 0).toNat, node := n }, sum != 0)

/-- Squared distance of two contacts. -/
def dist2 (a b : Contact) : Nat :=
  let dx := max a.x b.x - min a.x b.x; let dy := max a.y b.y - min a.y b.y
  dx * dx + dy * dy

/-- The nearest of some peaks to a contact, within a distance; of equal ones the first. -/
def nearestPeak (c : Contact) (lim : Nat) (l : List Contact) : Option Contact :=
  (l.filter (fun q => decide (dist2 c q ≤ lim * lim))).foldl (fun b q => match b with
    | none => some q
    | some x => if dist2 c q < dist2 c x then some q else b) none

/-- Existing contacts, oldest first, take peaks: (moved contacts, contacts left without a peak, peaks left). -/
def track (lim : Nat) : List Contact → List Contact → List Contact × List Contact × List Contact
  | [], l => ([], [], l)
  | c :: t, l =>
    match nearestPeak c lim l with
    | some q =>
      let (m, u, r) := track lim t (l.filter (fun x => x.node != q.node))
      ({ q with id := c.id } :: m, u, r)
    | none =>
      let (m, u, r) := track lim t l
      (m, c :: u, r)

/-- The ten contacts of highest strength, in their order; of equal ones the earlier stay. -/
def keepTen (l : List Contact) : List Contact :=
  let idx := List.range l.length
  let pw := fun (k : Nat) => (((l[k]?).map (·.power)).getD 0 : Nat)
  idx.filterMap (fun k => if (idx.filter (fun j => decide (pw k < pw j) || (decide (pw j = pw k) && decide (j < k)))).length < 10 then l[k]? else none)

/-- Give new contacts the lowest free ids: not one in use, nor one being reported up while another is free. -/
def giveIds : List Nat → List Nat → List Contact → List Contact
  | _, _, [] => []
  | used, ups, c :: t =>
    let free := (List.range 10).filter (fun k => !used.contains k)
    let id := ((free.filter (fun k => !ups.contains k)).head?).getD (free.headD 0)
    { c with id := id } :: giveIds (id :: used) ups t

/-- What tracking answers: contacts moved, up and new, and whether some were dropped for want of room. -/
structure Tracked where
  moved : List Contact
  ups   : List Contact
  fresh : List Contact
  ovf  : Bool

/-- Track contacts from one scan to the next (R378). -/
def trackAll (thr lim : Nat) (old peaks : List Contact) : Tracked :=
  let (m, u, left) := track lim old peaks
  let cand := left.filter (fun q => decide (thr ≤ q.power))
  let kept := keepTen (m ++ cand)
  let has := fun (c : Contact) => kept.any (fun x => x.node == c.node)
  let moved := m.filter has
  let ups := u ++ m.filter (fun c => !has c)
  ⟨moved, ups, giveIds (moved.map (·.id)) (ups.map (·.id)) (cand.filter has), decide (10 < (m ++ cand).length)⟩

/-! ### Reports (R380, R381) -/

/-- A contact record: state 1 down, 2 move, 3 up. -/
def contactBytes (st : Nat) (c : Contact) : List Byte :=
  leBytes 2 c.x ++ leBytes 2 c.y ++ leBytes 1 (c.id + 16 * st) ++ leBytes 1 c.area ++ leBytes 2 (min 65535 c.power)

/-- The 128 bytes of a report, phase and lost still 0. -/
def reportBytes (seq p flags time keys chg : Nat) (recs : List (Nat × Contact)) : List Byte :=
  let body := leBytes 4 seq ++ leBytes 1 p ++ leBytes 1 recs.length ++ leBytes 2 flags ++ leBytes 8 time ++ leBytes 4 keys ++ leBytes 4 chg ++
    leBytes 8 0 ++ recs.flatMap (fun e => contactBytes e.1 e.2)
  (body ++ List.replicate 128 0).take 128

/-- Flags of a report that follow from the state of the surface; others are added (R380). -/
def State.reportFlags (s : State) (p more : Nat) : Nat :=
  let t := s.touchSt p
  2 * b2n (t.suspect.any id) + 4 * b2n (s.rd SURF.SURF_STAT.auth p == 2) + 8 * b2n (s.surface p).refs.isNone +
    16 * s.rd TOUCH.SCAN_STAT.noisy (2 * p) + 64 * b2n (!t.excl.isEmpty) + 1024 * s.rd TOUCH.SCAN_STAT.hop (2 * p) + more

/-- A report falls due: contacts that do not fit in ten records are reported up later (R378, R380). -/
def State.reportDue (s : State) (p more : Nat) (recs : List (Nat × Contact)) : State :=
  let t := s.touchSt p
  let d := reportBytes t.scan p (s.reportFlags p more) s.now (s.rd TOUCH.KEY_STAT.pressed (2 * p)) t.chg (recs.take 10)
  s.setTouch p { t with due := some d, ups := ((recs.drop 10).filter (fun e => e.1 == 3)).map (·.2) }

/-- Entries of the report ring (R380). -/
def State.rptEntries (s : State) (p : Nat) : Nat := 2 ^ (min 8 (s.rd TOUCH.RPT_SIZE.size (2 * p)) + 4)

/-- Reports written and not yet read. -/
def State.rptWaiting (s : State) (p : Nat) : Nat :=
  (s.rd TOUCH.RPT_PROD.prod (2 * p) + 2 ^ 24 - s.rd TOUCH.RPT_CONS.cons (2 * p)) % 2 ^ 24

/-- A report is counted as lost. -/
def State.reportLost (s : State) (p : Nat) : State := (s.count .touch (2 * p) 5).raise .touch (2 * p) 13

/-- Set flag bits in a report: byte 6 is flags 7:0. -/
def orFlags (d : List Byte) (m : Nat) : List Byte := d.set 6 (d.getD 6 0 ||| BitVec.ofNat 8 m)

/-- Write a report into the next entry; a refusal drops it, and the first is recorded (R381, R382). -/
def State.putReport (s : State) (p : Nat) (d : List Byte) (lost : Bool) : State :=
  let i := 2 * p
  let prod := s.rd TOUCH.RPT_PROD.prod i
  let phase := if prod / s.rptEntries p % 2 = 0 then 1 else 0
  let rid := s.rd (HDR.owner .touch) i
  match s.tryStore (reqFor rid portStream false) (s.rd TOUCH.RPT_BASE.base i / 4096 * 4096 + prod % s.rptEntries p * 128) (orFlags d (phase + if lost then 32 else 0)) with
  | (t, none) =>
    let t1 := ((t.wr TOUCH.RPT_PROD.prod (prod + 1) i).count .touch i 4).raise .touch i 8
    t1.setTouch p { t1.touchSt p with chg := 0 }
  | (t, some e) =>
    let t1 := if (t.touchSt p).refused then t else t.recErr .touch i e.1 rid e.2
    (t1.setTouch p { t1.touchSt p with refused := true }).reportLost p

/-- REPORT_WRITE: the report that is due is written, or held in a full ring, where it replaces a held one (R381, R382). -/
def State.reportWrite (s : State) (p : Nat) : State :=
  let t := s.touchSt p
  match t.due with
  | none => s
  | some d =>
    let s1 := s.setTouch p { t with due := none }
    if !s.on TOUCH.RPT_CTRL.enable (2 * p) then s1
    else if s.rptEntries p ≤ s.rptWaiting p then
      let s2 := s1.setTouch p { s1.touchSt p with held := some d }
      if t.held.isSome then s2.reportLost p else s2
    else s1.putReport p d false

/-- REPORT_WRITE (R381). -/
def execReportWrite (p : Fin 8) (s : State) : Out := .next (s.reportWrite p.val)

/-- The held report is written as soon as an entry is free (R382). -/
def State.freeHeld (s : State) (p : Nat) : State :=
  let t := s.touchSt p
  match t.held with
  | some d => if s.rptWaiting p < s.rptEntries p then (s.setTouch p { t with held := none }).putReport p d true else s
  | none => s

/-- A write of RPT_CTRL: 1 starts the ring anew, 0 ends it (R381). -/
def State.rptCtrl (s : State) (w : Who) (p v : Nat) : State :=
  s.onWrite w .touch (2 * p) 0x2D0 v (fun t =>
    let t1 := t.storeWord .touch (2 * p) 0x2D0 v
    let t2 := t1.setTouch p { t1.touchSt p with held := none, due := none, refused := false }
    if bit v 0 then (t2.wr TOUCH.RPT_PROD.prod 0 (2 * p)).wr TOUCH.RPT_CONS.cons 0 (2 * p) else t2)

/-- RPT_ENABLE (R381). -/
def execRptEnable (w : Who) (p : Fin 8) (s : State) : Out := .next (s.rptCtrl w p.val 1)

/-- A write of RPT_CONS: refused where more entries than the ring has would be unread (R381). -/
def State.rptCons (s : State) (w : Who) (p v : Nat) : State :=
  let i := 2 * p
  s.onWrite w .touch i 0x2E4 v (fun t =>
    if t.rptEntries p < (t.rd TOUCH.RPT_PROD.prod i + 2 ^ 24 - v % 2 ^ 24) % 2 ^ 24 then t.refuse .touch i Code.REG_PERM w.rid 0x2E4
    else (t.storeWord .touch i 0x2E4 v).freeHeld p)

/-- RPT_CONS_WRITE (R381). -/
def execRptConsWrite (w : Who) (p : Fin 8) (v : Word) (s : State) : Out := .next (s.rptCons w p.val v.toNat)

/-! ### Scan end (R372 to R379) -/

/-- Peaks of a scan as contacts; a position the sum leaves open is a free value (R378). -/
def State.peaks (s : State) (p off : Nat) (d : List Int) : List Contact × State :=
  let T := s.touchT p; let R := s.touchR p
  ((List.range (T * R)).filter (isPeak T R off d (s.isExcl p))).foldl (fun (l, t) n =>
    let (c, ok) := contactOf T R off d n
    if ok then (l ++ [c], t)
    else
      let (x, t1) := t.draw
      let (y, t2) := t1.draw
      (l ++ [{ c with x := x % 65536, y := y % 65536 }], t2)) ([], s)

/-- One key's debounce: its new state and run (R379). -/
def keyStep (pressed : Bool) (run thr hyst dp dr : Nat) (d : Int) : Bool × Nat :=
  if pressed then
    if d < (thr : Int) - hyst then (if dr ≤ run + 1 then (false, 0) else (true, run + 1)) else (true, 0)
  else if (thr : Int) ≤ d then (if dp ≤ run + 1 then (true, 0) else (false, run + 1)) else (false, 0)

/-- Keys after a scan (R379). -/
def State.scanKeys (s : State) (p : Nat) (d : List Int) : State :=
  let nodes := s.touchT p * s.touchR p
  (List.range (s.touchK p)).foldl (fun u k =>
    let t := u.touchSt p
    let c := fun (j : Nat) => t.keyCfg.getD (4 * k + j) 0
    let was := bit (u.rd TOUCH.KEY_STAT.pressed (2 * p)) k
    let (now, run) := keyStep was (t.runs.getD k 0) (c 0) (c 1) (c 2) (c 3) (d.getD (nodes + k) 0)
    let now := now && !(s.isExcl p (nodes + k) && !was)
    let u1 := u.setTouch p { t with runs := t.runs.set k run, chg := if now = was then t.chg else setBit t.chg k }
    if now = was then u1
    else
      let m := u1.rd TOUCH.KEY_STAT.pressed (2 * p)
      let u2 := (u1.wr TOUCH.KEY_STAT.pressed (if now then setBit m k else clrBit m k) (2 * p)).raise .touch (2 * p) 12
      if now then u2.count .touch (2 * p) 9 else u2) s

/-- New baseline and suspect flag of a node or key, and whether rule 1 of R372 rebaselined it. -/
def trackBase (release band shift : Nat) (free : Bool) (base raw : Nat) (sus : Bool) (d : Int) : Nat × Bool × Bool :=
  if d < -(release : Int) then (raw, false, true)
  else if !sus && free && decide (d < (band : Int)) then (((base : Int) + ((raw : Int) - base).tdiv (2 ^ shift)).toNat, sus, false)
  else (base, sus, false)

/-- Baselines after a scan, with the contacts of the scan (R372). -/
def State.scanBase (s : State) (p : Nat) (raws : List (Option Nat)) (d : List Int) : State :=
  let t := s.touchSt p
  let T := s.touchT p; let R := s.touchR p
  let held := t.contacts.flatMap (fun c => (around T R c.node).map (·.1))
  let c := fun (j : Nat) => t.cfg.getD j 0
  let step := fun (n : Nat) => match raws.getD n none with
    | some v =>
      if s.isExcl p n then (t.base.getD n 0, t.suspect.getD n false, false)
      else trackBase (c 6) (c 7) (c 8) (decide (T * R ≤ n) || !held.contains n) (t.base.getD n 0) v (t.suspect.getD n false) (d.getD n 0)
    | none => (t.base.getD n 0, t.suspect.getD n false, false)
  let l := (List.range raws.length).map step
  let raw := (List.range raws.length).map (fun n => (raws.getD n none).getD (t.raw.getD n 0))
  let s1 := s.setTouch p { t with
    raw := raw, delta := d, rebase := false
    base := if t.rebase then raw else l.map (·.1)
    suspect := if t.rebase then l.map (fun _ => false) else l.map (fun e => e.2.1) }
  let s2 := s1.count .touch (2 * p) 10 (l.filter (fun e => e.2.2)).length
  s2.wr TOUCH.SCAN_STAT.suspect_cnt (((s2.touchSt p).suspect.filter id).length) (2 * p)

/-- The end of an ordinary scan. -/
def State.scanNormal (s : State) (p : Nat) (slots : List SlotObs) : State :=
  let t := s.touchSt p
  let T := s.touchT p; let R := s.touchR p; let K := s.touchK p
  let c := fun (j : Nat) => t.cfg.getD j 0
  let (sr, reps, disc) := slotsRaw (c 0) (c 10) (T + 3) 0 slots
  let s1 := [2 * p, 2 * p + 1].foldl (fun u i => ((u.count .touch i 0 (T + 3 + reps)).count .touch i 1 disc).count .touch i 2 reps) s
  let s2 := (s1.scanNoise p (c 1) (c 2) sr).count .touch (2 * p) 3
  let raws := newRaws T R K sr
  let zero := decide (s.tiles p = 2)
  let s3 := if zero then s2.scanZero p (c 5) raws else s2
  let d := s3.scanDeltas p raws
  let (pk, s4) := s3.peaks p (c 4) d
  let tr := trackAll (c 3) (256 * c 9) t.contacts pk
  let s5 := (s4.setTouch p { s4.touchSt p with contacts := tr.moved ++ tr.fresh }).count .touch (2 * p) 8 tr.fresh.length
  let s6 := (s5.scanKeys p d).scanBase p raws d
  let n := s6.rd TOUCH.SCAN_STAT.suspect_cnt (2 * p)
  let s7 := if zero then
      (if n = 0 then s6.setTiles p 3 else ((s6.setTiles p 3).raise .touch (2 * p) 9).touchEvent p Code.TOUCH_SUSPECT n)
    else s6
  s7.reportDue p (if tr.ovf then 128 else 0)
    (tr.moved.map (fun x => (2, x)) ++ tr.fresh.map (fun x => (1, x)) ++ (t.ups ++ tr.ups).map (fun x => (3, x)))

/-- The end of a scan that a self-test replaced: k scans of the test are left with it, so conversion A is the first (R376). -/
def State.scanTest (s : State) (p : Nat) (slots : List SlotObs) : State :=
  let t := s.touchSt p
  let raw := fun (c : Nat) => rawCount (t.cfg.getD 0 0) (((slots.map (·.bal)).headD []).getD c 0)
  let s1 := [2 * p, 2 * p + 1].foldl (fun u i => u.count .touch i 0) s
  let s2 := if t.testing = 3 then s1.testA p raw else if t.testing = 2 then s1.testBC p 1 raw else s1.testBC p 0 raw
  let s3 := (s2.count .touch (2 * p) 3).reportDue p 256 (t.contacts.map (fun x => (2, x)))
  s3.setTouch p { s3.touchSt p with ups := t.ups }

/-- SCAN_END: a scan ends with what its slots measured (in a self-test scan, the first slot holds all 128 channels); a surface no longer enabled
stops (R372, R386). -/
def State.scanEnd (s : State) (p : Nat) (slots : List SlotObs) : State :=
  let t := s.touchSt p
  if !t.busy then s
  else
    let s1 := if t.testing = 0 then s.scanNormal p slots else s.scanTest p slots
    (s1.setTouch p { s1.touchSt p with busy := false, testing := 0, scan := (t.scan + 1) % 2 ^ 32 }).touchCheck p

/-- SCAN_END (R372). -/
def execScanEnd (p : Fin 8) (slots : List SlotObs) (s : State) : Out := .next (s.scanEnd p.val slots)

/-- A write of SURF_CTRL: the enable starts or stops the surface, rebase and selftest act on the scans that follow (R372, R373, R376). -/
def State.surfCtrl (s : State) (w : Who) (p v : Nat) : State :=
  s.onWrite w .touch (2 * p) 0x200 v (fun u =>
    let u1 := u.storeWord .touch (2 * p) 0x200 v
    let t := u1.touchSt p
    let run := decide (u1.tiles p = 2 ∨ u1.tiles p = 3)
    (u1.setTouch p { t with
      rebase := t.rebase || (bit v 1 && run)
      tests := if bit v 2 && run then 3 else t.tests }).touchCheck p)

/-- SURF_REBASE: a write of SURF_CTRL with rebase (R372). -/
def execSurfRebase (w : Who) (p : Fin 8) (v : Word) (s : State) : Out := .next (s.surfCtrl w p.val (setBit v.toNat 1))
/-- SURF_SELFTEST: a write of SURF_CTRL with selftest (R376). -/
def execSurfSelftest (w : Who) (p : Fin 8) (v : Word) (s : State) : Out := .next (s.surfCtrl w p.val (setBit v.toNat 2))

/-- A write of TOUCHn:PG_CTRL: a soft reset returns the tile's registers and, on the first tile, the surface's touch (R55, R373). -/
def State.touchCtrl (s : State) (w : Who) (n v : Nat) : State :=
  let p := n / 2
  s.onWrite w .touch n 0x008 v (fun u =>
    let u1 := u.wr (HDR.enable .touch) v n
    if bit v 1 then
      let u2 := u1.softRegs .touch n
      (if n % 2 = 0 then (u2.setTouch p {}).setTiles p 0 else u2).touchCheck p
    else u1.touchCheck p)

/-- The surface is unplugged or its port loses power: the scan is abandoned and a final report falls due, in which every contact is up (R30,
R382). -/
def State.touchDetach (s : State) (p : Nat) : State :=
  let t := s.touchSt p
  if s.tiles p = 0 then s
  else if s.tiles p ≠ 3 then (s.setTouch p { t with busy := false, contacts := [] }).setTiles p 0
  else
    let k := s.rd TOUCH.KEY_STAT.pressed (2 * p)
    let s1 := (s.wr TOUCH.KEY_STAT.pressed 0 (2 * p)).setTouch p { t with busy := false, contacts := [], chg := t.chg ||| k }
    (s1.reportDue p 512 ((t.contacts ++ t.ups).map (fun x => (3, x)))).setTiles p 0

/-! ### Wake scan (R383 to R385) -/

/-- Whether a surface is wake-enabled but for running at entry (R383). -/
def State.wakeTouch (s : State) (p : Nat) : Bool :=
  let g := s.rd TOUCH.WAKE_CFG.gesture (2 * p)
  (g == 1 || g == 2) && bit (s.rd PWR.WAKE_EN.enable) 2

/-- Scanning of every surface stops at entry step E2; those that ran are remembered (R383). -/
def State.touchSleep (s : State) : State :=
  (List.range 8).foldl (fun u p =>
    let t := u.touchSt p
    (u.setTouch p { t with busy := false, slept := decide (u.tiles p = 3) }).setTiles p 0) s

/-- At E6 the first tile of each wake-enabled surface starts the wake scan (R383). -/
def State.touchWatch (s : State) : State :=
  (List.range 8).foldl (fun u p =>
    let t := u.touchSt p
    if t.slept && u.wakeTouch p then
      (u.setTouch p { t with wAt := none, wBase := [], hold := 0, path := [], since := 0, gap := 0 }).wr TOUCH.TILE_STAT.state 4 (2 * p)
    else u) s

/-- On the way back to Run, surfaces that ran start again from step 2 of R373, and a gesture recorded is shown (R385). -/
def State.touchResume (s : State) : State :=
  let s1 := (List.range 8).foldl (fun u p =>
    let g := mget u.pwr.touch p 0
    let u1 := if g = 0 then u
      else (((u.wr TOUCH.WAKE_STAT.woke 1 (2 * p)).wr TOUCH.WAKE_STAT.gesture g (2 * p)).raise .touch (2 * p) 14)
    let t := u1.touchSt p
    let u2 := if u1.tiles p = 4 ∨ t.slept then (u1.setTouch p { t with slept := false }).setTiles p 0 else u1
    u2.touchCheck p) s
  { s1 with pwr := { s1.pwr with touch := [] } }

end Sys2Proof.Machine
end

