-- ==== Sys2Proof/Machine/Feed.lean ====
section
/-! DEFINITION. Ring streams of samples, shared by haptics and audio: their descriptors, frames and the course from fill to ramp (R400, R401,
R411, R412). -/

namespace Sys2Proof.Machine

/-- Whether a stream descriptor keeps its table, with the largest frame count it allows (R400, R411). -/
def feedOk (maxFrames : Nat) (d : List Byte) : Bool :=
  let c := field d 0 4
  bits c 0 4 == 1 && c / 256 == 0 && !(bit c 4 && bit c 5) && decide (1 ≤ field d 4 4 ∧ field d 4 4 ≤ maxFrames) &&
    field d 8 8 % 8 == 0 && field d 0x14 4 == 0

/-- How a stream reads its frames: its ring, the most frames of a job, bytes of a frame and how they give samples, and the frames its buffer
holds. -/
structure FeedHow where
  ring  : Nat
  most  : Nat
  bytes : Nat
  samples : List Byte → List Int
  depth : Nat

/-- Read the next frame of the last job, or end its reading: at its last frame, or at a refused or poisoned read. -/
def State.feedRead (s : State) (how : FeedHow) (f : Feed) (j : Job) : State × Feed :=
  let a := field j.desc 8 8 + j.elem * how.bytes
  let q := reqFor (s.ringRid how.ring) portStream
  let last := fun (x : Job) => f.jobs.dropLast ++ [x]
  match s.memFault q false a how.bytes with
  | some e => (s.memRecord q e, { f with jobs := last { j with phase := 1, failCode := e.1, failAddr := e.2 } })
  | none =>
    let n := j.elem + 1
    (s.fetched q a how.bytes, { f with
      frames := f.frames ++ [(j.seq, how.samples (s.rdBytes a how.bytes))]
      jobs := last { j with elem := n, phase := if n = field j.desc 4 4 then 1 else 0 } })

/-- Take the next entry of the ring as a job, where it has one to take; the job of a descriptor that breaks its table reads nothing. -/
def State.feedTake (s : State) (how : FeedHow) (f : Feed) : Option (State × Feed) :=
  match s.takeEntry how.ring with
  | none => none
  | some (t, seq, d) =>
    let ok := feedOk how.most d
    some (t, { f with jobs := f.jobs ++ [{ ring := how.ring, seq := seq, desc := d, phase := if ok then 0 else 1,
                                           failCode := if ok then 0 else Code.RING_BAD_DESC }] })

/-- Fill the buffer from the jobs of a stream, as far as frames are to be had. -/
def State.feedFill : Nat → State → FeedHow → Bool → Feed → State × Feed
  | 0, s, _, _, f => (s, f)
  | n + 1, s, how, takes, f =>
    if how.depth ≤ f.frames.length then (s, f)
    else match f.jobs.getLast? with
      | some j =>
        if j.phase = 0 then
          let (t, g) := s.feedRead how f j
          State.feedFill n t how takes g
        else if !takes then (s, f)
        else (match s.feedTake how f with
          | none => (s, f)
          | some (t, g) => State.feedFill n t how takes g)
      | none =>
        if !takes then (s, f)
        else (match s.feedTake how f with
          | none => (s, f)
          | some (t, g) => State.feedFill n t how takes g)

/-- Jobs whose frames have all been played end in order, each with its record; the fence of one that succeeded is signalled first (R225). -/
def State.feedEnds : Nat → State → Feed → State × Feed
  | 0, s, f => (s, f)
  | n + 1, s, f =>
    match f.jobs with
    | [] => (s, f)
    | j :: t =>
      if j.phase = 1 ∧ j.done = j.elem then
        let c := field j.desc 0 4
        let q := reqFor (s.ringRid j.ring) portStream false
        let a := field j.desc 8 8
        let s1 :=
          if j.failCode ≠ 0 then s.endJob j.ring 1 false false j.seq j.failCode j.done j.failAddr
          else if bit c 5 then
            match s.signal q (field j.desc 0x12 2) (field j.desc 0x18 8) with
            | (u, 0) => u.endJob j.ring 0 (bit c 6) false j.seq 0 j.done a
            | (u, code) => u.endJob j.ring 1 false false j.seq code j.done (s.fenceAddr (field j.desc 0x12 2))
          else s.endJob j.ring 0 (bit c 6) false j.seq 0 j.done a
        State.feedEnds n s1 { f with jobs := t }
      else (s, f)

/-- Play the next frame: its samples, whether it is the last of a job with end = 1, and the feed without it. -/
def Feed.play (f : Feed) : Option (List Int × Bool × Feed) :=
  match f.frames with
  | [] => none
  | (seq, v) :: t =>
    let jobs := f.jobs.map (fun j => if j.seq = seq then { j with done := j.done + 1 } else j)
    let ends := f.jobs.any (fun j => j.seq == seq && j.phase == 1 && j.failCode == 0 && j.done + 1 == j.elem && bit (field j.desc 0 4) 7)
    some (v, ends, { f with frames := t, jobs := jobs })

/-- The level of a ramp of n ticks with k left, rounded toward zero. -/
def rampLevel (n k : Nat) (l : List Int) : List Int := l.map (fun (v : Int) => (v * (k : Int)).tdiv (n : Int))

end Sys2Proof.Machine
end

