-- ==== Sys2Proof/Machine/Haptics.lean ====
section
/-! DEFINITION. Surface modules and piezo haptics: port power and attach, identity and authentication, wear, high voltage, streams, resonance
calibration, throttling and high-slew intervals (R389 to R408). -/

namespace Sys2Proof.Machine

/-- An event of surface control, to the owner of SURFp (R407). -/
def State.surfEvent (s : State) (p code val : Nat) : State := s.eventPage .surf p code p val

/-- Haptic channel number of actuator n of port p (R16, R27). -/
def hapCh (p n : Nat) : Nat := 4 * p + n

/-! ### High voltage (R396) -/

/-- The conditions of R396 that fail, as HV_STAT.why shows them. -/
def State.hvWhy (s : State) (p : Nat) : Nat :=
  b2n (s.rd SURF.SURF_STAT.state p != 3 || (s.surface p).leaving) + 2 * b2n (s.rd SURF.SURF_STAT.auth p != 1) +
    4 * b2n (!s.on SURF.HV_CTRL.enable p && (s.surface p).cal != 2) + 8 * b2n (!bit (s.rd SAFE.HV_PERMIT.ports) p) +
    16 * b2n ((List.range 4).any (fun n => s.on SURF.CH_STAT.oc p n)) +
    32 * b2n (!s.on HAPT.BOOST_CTRL.enable || s.on HAPT.BOOST_STAT.fault) +
    64 * b2n (decide (1 < s.rd PWR.STATE.state) || s.pwr.hot)

/-- A port's channels count as high-slew from now for a tick period and 20 µs (R406). -/
def State.slewNow (s : State) (p : Nat) : State := { s with hapt := { s.hapt with slew := mset s.hapt.slew p (s.now + 145000) 0 } }

/-- High voltage of every port follows its conditions, and the boost runs while any is on (R396). -/
def State.hvSync (s : State) : State :=
  let s1 := (List.range 8).foldl (fun t p =>
    let why := t.hvWhy p
    let was := t.on SURF.HV_STAT.on p
    let now := why == 0
    let t1 := (t.wr SURF.HV_STAT.why why p).wrB SURF.HV_STAT.on now p
    if was = now then t1
    else
      let t2 := (t1.raise .surf p 14).slewNow p
      if now then t2 else t2.setSurf p { t2.surface p with last := [] }) s
  let any := (List.range 8).any (fun p => s1.on SURF.HV_STAT.on p)
  if any && !s1.on HAPT.BOOST_STAT.on then (s1.wr HAPT.BOOST_STAT.on 1).count .hapt 0 0
  else s1.wrB HAPT.BOOST_STAT.on any

/-- A write of HV_CTRL (R396, R397). -/
def State.hvCtrl (s : State) (w : Who) (p v : Nat) : State :=
  s.onWrite w .surf p 0x118 v (fun t =>
    let t1 := t.storeWord .surf p 0x118 v
    (if bit v 1 then (List.range 4).foldl (fun u n => u.wr SURF.CH_STAT.oc 0 p n) t1 else t1).hvSync)

/-- HV_ENABLE_WRITE (R396). -/
def execHvEnableWrite (w : Who) (p : Fin 8) (v : Word) (s : State) : Out := .next (s.hvCtrl w p.val v.toNat)
/-- HV_CLEAR_OC (R397). -/
def execHvClearOc (w : Who) (p : Fin 8) (v : Word) (s : State) : Out := .next (s.hvCtrl w p.val (setBit v.toNat 1))

/-- Current in mA to which a channel's bridge is limited (R397, R407). -/
def State.hapIlim (s : State) (p n : Nat) : Nat := clamp 50 800 (s.rd SURF.CH_ILIM.ma p n)

/-- HAPT_OVERCURRENT: a driven channel has been in current limit for 100 µs (R397, R218). -/
def execHaptOvercurrent (p : Fin 8) (n : Fin 4) (s : State) : Out :=
  let k := p.val
  .next (if !s.on SURF.HV_STAT.on k then s
    else
      let s1 := (((s.wr SURF.CH_STAT.oc 1 k n.val).count .surf k 6).raise .surf k 15).hvSync
      (s1.faultLine Code.HAPT_OVERCURRENT .surf k 0).surfEvent k Code.HAPT_OVERCURRENT (hapCh k n.val))

/-- HAPT_HV_FAULT: the running boost has left its range for 1 ms, or tripped its limit (R398, R218). -/
def execHaptHvFault (s : State) : Out :=
  .next (if !s.on HAPT.BOOST_STAT.on then s
    else
      let s1 := (((s.wr HAPT.BOOST_STAT.fault 1).count .hapt 0 1).raise .hapt 0 8).hvSync
      (s1.faultLine Code.HAPT_HV_FAULT .hapt 0 0).eventPage .hapt 0 Code.HAPT_HV_FAULT 0 0)

/-- A write of BOOST_CTRL (R396, R398). -/
def State.boostCtrl (s : State) (w : Who) (v : Nat) : State :=
  s.onWrite w .hapt 0 0x100 v (fun t =>
    let t1 := t.storeWord .hapt 0 0x100 v
    (if bit v 1 then t1.wr HAPT.BOOST_STAT.fault 0 else t1).hvSync)

/-- BOOST_CLEAR (R398). -/
def execBoostClear (w : Who) (v : Word) (s : State) : Out := .next (s.boostCtrl w (setBit v.toNat 1))

/-- A write of SAFE:HV_PERMIT by the safety island (R18, R396). -/
def State.hvPermit (s : State) (w : Who) (v : Nat) : State :=
  s.onWrite w .safe 0 0x114 v (fun t => (t.storeWord .safe 0 0x114 v).hvSync)

/-! ### Port power (R389) -/

/-- What the identity element gave is forgotten, and the page shows nothing of a module. -/
def State.surfForget (s : State) (p : Nat) : State :=
  let k := s.surface p
  let s1 := s.setSurf p { feed := k.feed }
  let s2 := [SURF.SURF_STAT.auth, SURF.SURF_STAT.wear_unknown, SURF.SURF_STAT.wear_write_fail, SURF.ID_INFO.trk, SURF.ID_INFO.wake_ok, SURF.WEAR_SEQ.seq].foldl
    (fun t f => t.wr f 0 p) s1
  let s3 := (List.range 3).foldl (fun t n => t.wr SURF.ID_SERIAL.serial 0 p n) s2
  (List.range 4).foldl (fun t n =>
    [SURF.CH_RES.f_res, SURF.CH_RES.q, SURF.CH_RES2.f_ring, SURF.CH_RES2.cap_nf, SURF.CH_CAL.status, SURF.CH_CAL.source, SURF.CH_CAL.drift,
     SURF.CH_WEAR.count, SURF.CH_STAT.oc, SURF.CH_STAT.wear_warn, SURF.CH_STAT.service_due].foldl (fun u f => u.wr f 0 p n) t) s3

/-- A port is powered: it attaches the module that is present, or is Empty (R389). -/
def State.portOn (s : State) (p : Nat) : State :=
  if s.rd SURF.SURF_STAT.state p ≠ 0 then s
  else (s.surfForget p).wr SURF.SURF_STAT.state (if bit s.pins.present p then 2 else 1) p

/-- A port reaches Off (R389). -/
def State.portOff (s : State) (p : Nat) : State :=
  ((s.setSurf p { s.surface p with leaving := false, wearDue := false }).wr SURF.SURF_STAT.state 0 p).hvSync

/-- The scans of a surface that loses its port stop with no report. -/
def State.touchQuiet (s : State) (p : Nat) : State :=
  (s.setTouch p { s.touchSt p with busy := false, contacts := [], ups := [] }).setTiles p 0

/-- A write of PORT_CTRL: power = 1 starts the port; power = 0 turns high voltage off and, on an Attached port, has the wear record written
before the supply goes (R389). -/
def State.portCtrl (s : State) (w : Who) (p v : Nat) : State :=
  s.onWrite w .surf p 0x100 v (fun t =>
    let t1 := t.storeWord .surf p 0x100 v
    if bit v 0 then t1.portOn p
    else if t1.rd SURF.SURF_STAT.state p = 3 then
      ((t1.setSurf p { t1.surface p with leaving := true, wearDue := true }).touchQuiet p).hvSync
    else t1.portOff p)

/-- PORT_POWER_ON (R389). -/
def execPortPowerOn (w : Who) (p : Fin 8) (s : State) : Out := .next (s.portCtrl w p.val 1)
/-- PORT_POWER_OFF (R389). -/
def execPortPowerOff (w : Who) (p : Fin 8) (s : State) : Out := .next (s.portCtrl w p.val 0)

/-- SURF_DETACH: ID_PRESENT_N has gone high. A powered port reports it; with an attaching or attached module the drive and the scans stop (R30,
R382, R389). -/
def State.surfDetach (s0 : State) (p : Nat) : State :=
  let s := ({ s0 with pins := { s0.pins with present := clrBit s0.pins.present p } }).wr SURF.SURF_STAT.present 0 p
  let st := s.rd SURF.SURF_STAT.state p
  if st ≠ 2 ∧ st ≠ 3 then (if st ≠ 0 ∧ bit s0.pins.present p then (s.raise .surf p 9).surfEvent p Code.SURF_DETACH 0 else s)
  else
    let s1 := ((s.touchDetach p).wr SURF.SURF_STAT.state 4 p)
    let s2 := (s1.setSurf p { s1.surface p with wearDue := false, leaving := false }).hvSync
    (s2.raise .surf p 9).surfEvent p Code.SURF_DETACH 0

/-- SURF_DETACH (R30). -/
def execSurfDetach (p : Fin 8) (s : State) : Out := .next (s.surfDetach p.val)

/-- SURF_INSERT: ID_PRESENT_N has gone low; a powered port reports the insertion, and an Empty one is Blocked (R30, R389). -/
def execSurfInsert (p : Fin 8) (s0 : State) : Out :=
  let k := p.val
  let s := ({ s0 with pins := { s0.pins with present := setBit s0.pins.present k } }).wr SURF.SURF_STAT.present 1 k
  let st := s.rd SURF.SURF_STAT.state k
  .next (if st = 0 ∨ (st ≠ 1 ∧ bit s0.pins.present k) then s
    else (((if st = 1 then s.wr SURF.SURF_STAT.state 5 k else s).raise .surf k 10).surfEvent k Code.SURF_INSERT 0))

/-! ### Identity and authentication (R390 to R392) -/

/-- Whether a header and electrode map keep R391, from the first 512 bytes of the element. -/
def idHeaderOk (d : List Byte) : Bool :=
  let T := field d 6 1; let R := field d 7 1; let K := field d 8 1
  let role := fun (k : Nat) => (List.range 128).filterMap (fun c => if field d (0xC0 + 2 * c) 1 = k then some (field d (0xC1 + 2 * c) 1) else none)
  let full := fun (k n : Nat) => (role k).length == n && (List.range n).all (fun o => (role k).contains o)
  field d 0 4 == 0x49465353 && field d 4 2 == 1 && field d 9 1 < 2 && field d 10 18 == 0 &&
    crc32c (d.take 28 ++ (d.drop 0xC0).take 256) == field d 28 4 &&
    (List.range 128).all (fun c => decide (field d (0xC0 + 2 * c) 1 ≤ 3)) && full 1 T && full 2 R && full 3 K &&
    decide (K ≤ 32) && decide (T + R + K ≤ 128)

/-- Whether a section of n bytes ends with the CRC of the bytes before it. -/
def sectionOk (d : List Byte) (n : Nat) : Bool := d.length == n && decide (4 ≤ n) && crc32c (d.take (n - 4)) == field d (n - 4) 4

/-- Counts of a valid wear slot, with its sequence number. -/
def wearSlot (d : List Byte) : Option (Nat × List Nat) :=
  if sectionOk d 32 && field d 20 8 == 0 then some (field d 0 4, (List.range 4).map (fun n => field d (4 + 4 * n) 4)) else none

/-- A big-endian number of n bytes. -/
def beField (d : List Byte) (off n : Nat) : Nat := ((d.drop off).take n).foldl (fun a b => a * 256 + b.toNat) 0

/-- A number as 32 big-endian bytes. -/
def be32 (v : Nat) : List Byte := (leBytes 32 v).reverse

/-- Whether the certificate is signed by the surface-module root key of the factory bank (R71, R392). -/
def State.certOk (s : State) (c : List Byte) : Bool :=
  let key := (List.range 64).map (fun k => mget s.otp (0xC0 + k) 0)
  field c 0 2 == 1 && ecdsaVerify (beField key 0 32) (beField key 32 32) (digestNat (sha256 (c.take 0x60))) (beField c 0x60 32) (beField c 0x80 32)

/-- Take what the element gave into the port: counts from the newer wear slot, factory resonances, reference counts, the map, and a fresh
challenge. -/
def State.idTake (s : State) (p : Nat) (head ref : List Byte) (a b : Option (Nat × List Nat)) : State :=
  let T := field head 6 1; let R := field head 7 1; let K := field head 8 1
  let refOk := sectionOk ref (2 * (T * R + K) + 4)
  let resD := (head.drop 0x1C0).take 64
  let resOk := sectionOk resD 64 && field resD 48 12 == 0 && (List.range 4).all (fun n => field resD (12 * n + 6) 6 == 0)
  let (c, s0) := State.draws 4 s
  let newB : Bool := match a, b with | some x, some y => decide (x.1 < y.1) | none, some _ => true | _, _ => false
  let wear := if newB then b else a
  let cert := (head.drop 0x20).take 160
  let s1 := s0.setSurf p { s0.surface p with
    map := (List.range 128).map (fun k => (field head (0xC0 + 2 * k) 1, field head (0xC1 + 2 * k) 1))
    refs := if refOk then some ((List.range (T * R + K)).map (fun n => field ref (2 * n) 2)) else none
    res := if resOk then (List.range 4).map (fun n => (field resD (12 * n) 2, field resD (12 * n + 2) 2, field resD (12 * n + 4) 2)) else []
    cert := cert, signed := head ++ ref, certOk := s.certOk cert, chal := c.flatMap (leBytes 8)
    slot := if newB ∨ a.isNone then 1 else 0 }
  let s2 := ((s1.wr SURF.ID_INFO.trk (T + 256 * R + 65536 * K) p).wr SURF.ID_INFO.wake_ok (field head 9 1) p).wr SURF.WEAR_SEQ.seq ((wear.map (·.1)).getD 0) p
  let s3 := (List.range 3).foldl (fun t n => t.wr SURF.ID_SERIAL.serial (field cert (4 + 4 * n) 4) p n) s2
  let s4 := (List.range 4).foldl (fun t n => t.wr SURF.CH_WEAR.count ((wear.map (fun e => e.2.getD n 0)).getD 0) p n) s3
  let s5 := if refOk && resOk then s4 else (s4.raise .surf p 12).surfEvent p Code.SURF_ID_ERROR 0
  if wear.isSome then s5 else ((s5.wr SURF.SURF_STAT.wear_unknown 1 p).raise .surf p 12).surfEvent p Code.SURF_ID_ERROR 0

/-- SURF_ID_READ_DONE: what the reads of the identity element gave: nothing, or its first 512 bytes, reference section and wear slots A and
B (R390, R391). -/
def execSurfIdReadDone (p : Fin 8) (got : Option (List Byte × List Byte)) (a b : List Byte) (s : State) : Out :=
  let k := p.val
  .next (if s.rd SURF.SURF_STAT.state k ≠ 2 ∨ (s.surface k).chal ≠ [] then s
    else match got with
      | some (head, ref) =>
        if head.length = 512 && idHeaderOk head then s.idTake k head ref (wearSlot a) (wearSlot b)
        else ((s.wr SURF.SURF_STAT.state 6 k).raise .surf k 12).surfEvent k Code.SURF_ID_ERROR 0
      | none => ((s.wr SURF.SURF_STAT.state 6 k).raise .surf k 12).surfEvent k Code.SURF_ID_ERROR 0)

/-- A count that has reached a threshold of rated life sets its flag and is told once (R395). -/
def State.wearTell (s : State) (p n : Nat) : State :=
  let c := s.rd SURF.CH_WEAR.count p n
  let s1 := if 180000000 ≤ c ∧ !s.on SURF.CH_STAT.wear_warn p n then
      ((s.wr SURF.CH_STAT.wear_warn 1 p n).raise .surf p 13).surfEvent p Code.HAPT_WEAR_WARN (hapCh p n) else s
  if 200000000 ≤ c ∧ !s1.on SURF.CH_STAT.service_due p n then
    ((s1.wr SURF.CH_STAT.service_due 1 p n).raise .surf p 13).surfEvent p Code.HAPT_SERVICE_DUE (hapCh p n) else s1

/-- AUTH_SIGN_DONE: the element's response r, s, or its error or silence for 150 ms; the verdict ends the attach (R390, R392). -/
def State.authDone (s : State) (p : Nat) (sig : Option (Nat × Nat)) : State :=
  let k := s.surface p
  if s.rd SURF.SURF_STAT.state p ≠ 2 ∨ k.chal = [] then s
  else
    let d := be32 (digestNat (sha256 k.signed))
    let ok := k.certOk && (match sig with
      | some (r, t) => ecdsaVerify (beField k.cert 0x10 32) (beField k.cert 0x30 32) (digestNat (sha256 (k.chal ++ d))) r t
      | none => false)
    let s1 := (s.wr SURF.SURF_STAT.auth (if ok then 1 else 2) p).wr SURF.SURF_STAT.state 3 p
    let s2 := if ok then s1 else ((s1.count .surf p 1).raise .surf p 11).surfEvent p Code.SURF_AUTH_FAIL 0
    let s3 := (s2.count .surf p 0).raise .surf p 8
    let s4 := (List.range 4).foldl (fun t n => t.wearTell p n) s3
    let s5 := if s4.on TOUCH.SURF_CTRL.enable (2 * p) then s4 else s4.setSurf p { s4.surface p with cal := 1 }
    (s5.touchCheck p).hvSync

/-- AUTH_SIGN_DONE (R392). -/
def execAuthSignDone (p : Fin 8) (sig : Option (BitVec 256 × BitVec 256)) (s : State) : Out :=
  .next (s.authDone p.val (sig.map (fun e => (e.1.toNat, e.2.toNat))))

/-! ### Wear (R393 to R395) -/

/-- A channel's level, in units of 120 V / (8 × 32,768 × 32,767): sample, gain and throttle factor (R402, R405). -/
def State.driveLevel (s : State) (p n : Nat) (v : Int) : Int :=
  (max v (-32767)) * (min 32768 (s.rd SURF.CH_CFG.gain p n) : Nat) * ([8, 6, 4, 2, 0].getD (s.rd SURF.CH_STAT.throttle p n) 0 : Nat)

/-- The level of 120 V. -/
def fullLevel : Nat := 8 * 32768 * 32767

/-- One channel's block of 1 ms ends: active or not (R393). -/
def State.wearStep (s : State) (p n : Nat) : State :=
  let k := s.surface p
  let hot := mget k.hot n 0 != 0
  if !s.on SURF.HV_STAT.on p ∨ !hot then
    s.setSurf p { k with idle := mset k.idle n (mget k.idle n 10 + 1) 10, run := mset k.run n 0 0, hot := mset k.hot n 0 0 }
  else
    let run := mget k.run n 0 + 1
    let idle := mget k.idle n 10
    let add := (if run = 1 ∧ 10 ≤ idle then 1 else 0) + (if 1 < run ∧ (run - 1) % 50 = 0 then 1 else 0)
    let c := min (2 ^ 32 - 1) (s.rd SURF.CH_WEAR.count p n + add)
    let s1 := s.setSurf p { k with
      idle := mset k.idle n 0 10, run := mset k.run n run 0, hot := mset k.hot n 0 0
      wearDue := k.wearDue || (decide (0 < add) && c % 65536 == 0) }
    (s1.wr SURF.CH_WEAR.count c p n).wearTell p n

/-- WEAR_BLOCK: a block of 1 ms ends on every port (R393). -/
def execWearBlock (s : State) : Out :=
  .next ((List.range 32).foldl (fun t c => if t.rd SURF.SURF_STAT.state (c / 4) = 3 then t.wearStep (c / 4) (c % 4) else t) s)

/-- A wear record: its sequence number, the counts of the four actuators, zeros and the CRC (R391, R394). -/
def State.wearRecord (s : State) (p seq : Nat) : List Byte :=
  let d := leBytes 4 seq ++ (List.range 4).flatMap (fun n => leBytes 4 (s.rd SURF.CH_WEAR.count p n)) ++ leBytes 8 0
  d ++ leBytes 4 (crc32c d)

/-- WEAR_RECORD_WRITE: the record that is due is written into the slot that does not hold the newest, or its write fails and is tried again
every 1 s; a port that is leaving goes Off (R389, R394). -/
def execWearRecordWrite (p : Fin 8) (ok : Bool) (s : State) : Out :=
  let n := p.val
  let k := s.surface n
  let seq := (s.rd SURF.WEAR_SEQ.seq n + 1) % 2 ^ 32
  .next (if !k.wearDue ∨ !(match k.wearAt with | some t => s.past t 1000000000 || k.leaving | none => true) then s
    else
      let s1 := if ok then
          let t := ((s.wr SURF.WEAR_SEQ.seq seq n).wr SURF.SURF_STAT.wear_write_fail 0 n).count .surf n 2
          t.setSurf n { k with wearDue := false, wearAt := none, slot := 1 - k.slot, wrote := s.wearRecord n seq }
        else
          let t := (s.wr SURF.SURF_STAT.wear_write_fail 1 n).count .surf n 3
          if k.wearTold then t.setSurf n { k with wearAt := some s.now }
          else ((t.setSurf n { k with wearTold := true, wearAt := some s.now }).raise .surf n 12).surfEvent n Code.SURF_ID_ERROR 0
      if k.leaving then s1.portOff n else s1)

/-! ### Streams (R399 to R402, R406) -/

/-- Channels of a port's mask. -/
def State.maskChans (s : State) (p : Nat) : List Nat := (List.range 4).filter (fun n => bit (s.rd SURF.STREAM_CFG.chmask p) n)

/-- Ring ID a port's stream names: a ring of the owner of SURFp (R399). -/
def State.hapRing (s : State) (p : Nat) : Nat :=
  let o := s.rd (HDR.owner .surf) p
  (if o = 0xFE then 0 else o) * 4096 + s.rd SURF.STREAM_CFG.ring p

/-- Whether an owner holds a haptic channel: a guest by its allocation, the manager what no guest holds (R120, R451). -/
def State.holdsHapt (s : State) (o c : Nat) : Bool :=
  if o = 0xFE then (List.range 64).all (fun j => j == 0 || s.instState j == 0 || !bit (s.rd MGR.ALLOC_HAPT.channels (b := j)) c)
  else bit (s.rd MGR.ALLOC_HAPT.channels (b := o)) c

/-- A write of STREAM_CFG: an enable names an enabled type 6 ring of the owner and channels it holds (R399). -/
def State.streamCfg (s : State) (w : Who) (p v : Nat) : State :=
  s.onWrite w .surf p 0x120 v (fun t =>
    let o := t.rd (HDR.owner .surf) p
    let r := (if o = 0xFE then 0 else o) * 4096 + bits v 0 12
    if bit v 24 && !(decide (o = 0xFE ∨ o < 64) && (t.ring r).enable && (t.ring r).type == 6) then t.refuse .surf p Code.RING_BAD_CTX w.rid 0x120
    else if bit v 24 && (List.range 4).any (fun n => bit v (16 + n) && !t.holdsHapt o (hapCh p n)) then t.refuse .surf p Code.REG_PERM w.rid 0x120
    else t.storeWord .surf p 0x120 v)

/-- HAPT_STREAM_ENABLE (R399). -/
def execHaptStreamEnable (w : Who) (p : Fin 8) (v : Word) (s : State) : Out := .next (s.streamCfg w p.val (setBit v.toNat 24))

/-- How a port reads its stream: one signed 16-bit sample a channel; the jitter buffer holds 64 frames (R399, R401). -/
def State.hapHow (s : State) (p : Nat) : FeedHow :=
  let n := (s.maskChans p).length
  { ring := s.hapRing p, most := 16384, bytes := 2 * n, depth := 64
    samples := fun d => (List.range n).map (fun k => toSigned 16 (field d (2 * k) 2)) }

/-- Put a port's feed back, with its state and fill shown. -/
def State.setHapFeed (s : State) (p : Nat) (f : Feed) : State :=
  ((s.setSurf p { s.surface p with feed := f }).wr SURF.STREAM_STAT.state f.st p).wr SURF.STREAM_STAT.fill f.frames.length p

/-- A fill begins, with the carrier's phase at 0 (R402). -/
def State.hapFresh (s : State) (p : Nat) (f : Feed) : State := (s.setSurf p { s.surface p with phase := [] }).setHapFeed p f

/-- Frames come into a port's jitter buffer; the first in Idle starts the fill (R401). -/
def State.hapFill (s : State) (p : Nat) : State :=
  let f := (s.surface p).feed
  let on := s.on SURF.STREAM_CFG.enable p
  if !on && f.jobs.isEmpty then s
  else
    let (s1, f1) := s.feedFill 200 (s.hapHow p) on f
    let (s2, f2) := s1.feedEnds 8 f1
    if f2.st = 0 ∧ !f2.frames.isEmpty then s2.hapFresh p { f2 with st := 1, first := s.now } else s2.setHapFeed p f2

/-- Owner of a ring (R216). -/
def ringOwner (r : Nat) : Nat := instRid (ringInst r)

/-- Frequency a channel's carrier uses, in 1/16 Hz (R402, R404). -/
def State.carrier (s : State) (p n : Nat) : Nat :=
  let c := s.rd SURF.CH_CARRIER.hz16 p n
  if c ≠ 0 then c else mget (s.surface p).fUse n 3200

/-- Whether the drive of a channel in a tick period, from one level to the next, exceeds v_per_ms: in waveform mode by its slope over 125 µs, in
carrier mode by 2π times frequency and amplitude (R406). -/
def State.isSlew (s : State) (p n : Nat) (a b : Int) : Bool :=
  let lim := max 1 (s.rd HAPT.HS_CFG.v_per_ms)
  if s.rd SURF.CH_CFG.mode p n = 0 then decide (lim * fullLevel < 8 * 120 * (b - a).natAbs)
  else decide (lim * fullLevel * 16 * 1000 * 1000000000 < 2 * 3141592654 * s.carrier p n * 120 * max a.natAbs b.natAbs)

/-- Samples drive a port's channels for a tick period: a 1 ms block that reaches 12 V is active, and high slew is published (R393, R402, R406).
Channels outside the mask output 0. -/
def State.hapDrive (s : State) (p : Nat) (v : List Int) : State :=
  let ch := s.maskChans p
  let lv := (List.range 4).map (fun n => match ch.findIdx? (· == n) with | some k => s.driveLevel p n (v.getD k 0) | none => 0)
  let k := s.surface p
  if !s.on SURF.HV_STAT.on p then s.setSurf p { k with last := [] }
  else
    let slew := (List.range 4).any (fun n => s.isSlew p n (k.last.getD n 0) (lv.getD n 0))
    let hot := (List.range 4).foldl (fun m n => if fullLevel ≤ 10 * (lv.getD n 0).natAbs then mset m n 1 0 else m) k.hot
    let phase := ch.foldl (fun m n => mset m n ((mget m n 0 + s.carrier p n) % 128000) 0) k.phase
    let s1 := s.setSurf p { k with last := lv, hot := hot, phase := phase }
    if slew then (s1.count .surf p 8).slewNow p else s1

/-- A port's stream at one tick (R401). -/
def State.hapTickPort (s0 : State) (p : Nat) : State :=
  let s := s0.hapFill p
  let f := (s.surface p).feed
  let play := fun (_ : Unit) =>
    match f.play with
    | none =>
      let t := ((s.count .surf p 5).raise .surf p 16).event (ringOwner (s.hapRing p)) .surf p Code.HAPT_UNDERRUN
        (evDetail p (hapCh p ((s.maskChans p).headD 0)))
      ((t.setHapFeed p { f with st := 3, ramp := 15 }).hapDrive p (rampLevel 16 15 f.level))
    | some (v, ends, g) =>
      let t := (s.count .surf p 4).hapDrive p v
      let (t1, g1) := t.feedEnds 8 g
      t1.setHapFeed p (if ends then { g1 with st := 3, ramp := 16, level := v } else { g1 with st := 2, level := v })
  if f.st = 1 then (if f.first + 4000000 ≤ s.now then play () else s.hapDrive p [])
  else if f.st = 2 then
    (if f.frames.isEmpty && f.jobs.isEmpty && !s.on SURF.STREAM_CFG.enable p then
      (s.setHapFeed p { f with st := 3, ramp := 15 }).hapDrive p (rampLevel 16 15 f.level)
    else play ())
  else if f.st = 3 then
    let k := f.ramp - 1
    let t := s.hapDrive p (rampLevel 16 k f.level)
    if k = 0 then
      (if f.frames.isEmpty then t.setHapFeed p { f with st := 0, ramp := 0, level := [] }
       else t.hapFresh p { f with st := 1, ramp := 0, level := [], first := s.now })
    else t.setHapFeed p { f with ramp := k }
  else s.hapDrive p []

/-- HAPT_TICK: the haptic engine's 8 kHz tick (R401). -/
def execHaptTick (s : State) : Out := .next ((List.range 8).foldl (fun t p => t.hapTickPort p) s)

/-- Ports in a high-slew interval now (R406, R408). -/
def State.slewPorts (s : State) : Nat := (List.range 8).foldl (fun m p => if s.now < mget s.hapt.slew p 0 then setBit m p else m) 0

/-! ### Resonance calibration (R403, R404) -/

/-- The source of a channel's frequency when calibration gives none: factory, else 200 Hz (R404). -/
def State.calFallback (s : State) (p n : Nat) : State :=
  let k := s.surface p
  match k.res[n]? with
  | some (f, _, _) => (s.setSurf p { k with fUse := mset k.fUse n f 3200 }).wr SURF.CH_CAL.source 1 p n
  | none => (s.setSurf p { k with fUse := mset k.fUse n 3200 3200 }).wr SURF.CH_CAL.source 2 p n

/-- The calibration of a port has ended: touch may go on (R404). -/
def State.calEnd (s : State) (p : Nat) : State := (s.setSurf p { s.surface p with cal := 3 }).hvSync

/-- RESONANCE_CAL: the calibration that is due begins, or is skipped (R403, R404). -/
def execResonanceCal (p : Fin 8) (s : State) : Out :=
  let n := p.val
  let k := s.surface n
  .next (if k.cal ≠ 1 ∨ s.rd SURF.SURF_STAT.state n ≠ 3 then s
    else if s.rd SURF.SURF_STAT.auth n = 1 ∧ bit (s.rd SAFE.HV_PERMIT.ports) n then
      ((s.setSurf n { k with cal := 2, calCh := 0 }).count .surf n 7).hvSync
    else ((List.range 4).foldl (fun t c => (t.wr SURF.CH_CAL.status 3 n c).calFallback n c) s).calEnd n)

/-- HAPT_CAL_STEP_DONE: the channel being swept has its result: peak, Q, ringing frequency and capacitance, or no peak inside the sweep; where
high voltage is gone the remaining channels are aborted (R403, R404). -/
def State.calStep (s : State) (p : Nat) (got : Option (Nat × Nat × Nat × Nat)) : State :=
  let k := s.surface p
  let c := k.calCh
  if k.cal ≠ 2 then s
  else if !s.on SURF.HV_STAT.on p then
    (((List.range 4).filter (fun n => decide (c ≤ n))).foldl (fun t n => (t.wr SURF.CH_CAL.status 4 p n).calFallback p n) s).calEnd p |>.raise .surf p 17
  else
    let s1 := match got with
      | none => s
      | some (f, q, r, cap) =>
        let drift := match k.res[c]? with | some (g, _, _) => decide (g < 5 * (max f g - min f g)) | none => false
        ((((s.wr SURF.CH_RES.f_res f p c).wr SURF.CH_RES.q q p c).wr SURF.CH_RES2.f_ring r p c).wr SURF.CH_RES2.cap_nf cap p c).wrB SURF.CH_CAL.drift drift p c
    let found := match got with
      | some (f, _, r, _) => decide (1280 ≤ f ∧ f ≤ 6400) && decide (20 * (max f r - min f r) ≤ f)
      | none => false
    let s2 := if found then
        let u := s1.surface p
        ((s1.setSurf p { u with fUse := mset u.fUse c (s1.rd SURF.CH_RES.f_res p c) 3200 }).wr SURF.CH_CAL.status 1 p c).wr SURF.CH_CAL.source 0 p c
      else ((s1.wr SURF.CH_CAL.status 2 p c).calFallback p c).surfEvent p Code.HAPT_CAL_FAIL (hapCh p c)
    let s3 := (s2.count .surf p 8).slewNow p
    if c = 3 then (s3.calEnd p).raise .surf p 17 else s3.setSurf p { s3.surface p with calCh := c + 1 }

/-- HAPT_CAL_STEP_DONE (R404). -/
def execHaptCalStepDone (p : Fin 8) (got : Option (BitVec 16 × BitVec 16 × BitVec 16 × BitVec 16)) (s : State) : Out :=
  .next (s.calStep p.val (got.map (fun e => (e.1.toNat, e.2.1.toNat, e.2.2.1.toNat, e.2.2.2.toNat))))

/-! ### Throttling (R405) -/

/-- Throttle step of a channel. -/
def State.throttle (s : State) (c : Nat) : Nat := s.rd SURF.CH_STAT.throttle (c / 4) (c % 4)
/-- Priority of a channel. -/
def State.hapPrio (s : State) (c : Nat) : Nat := s.rd SURF.CH_CFG.prio (c / 4) (c % 4)

/-- Channels in throttle order: lowest priority first, within one the highest number first. -/
def State.throttleOrder (s : State) : List Nat :=
  (List.range 4).flatMap (fun q => ((List.range 32).reverse).filter (fun c => s.hapPrio c == q))

/-- Show the throttled channels; an episode ends when none is left (R405). -/
def State.throttleShow (s : State) : State :=
  let m := (List.range 32).foldl (fun a c => if s.throttle c = 0 then a else setBit a c) 0
  let s1 := s.wr HAPT.THR_MASK.channels m
  if m = 0 ∧ s1.hapt.episode then ({ s1 with hapt := { s1.hapt with episode := false, told := 0 } }).raise .hapt 0 10 else s1

/-- A channel steps down; the first step of an episode begins it, and each affected port's owner is told once (R405). -/
def State.stepDown (s : State) (c : Nat) : State :=
  let p := c / 4
  let s1 := ((s.wr SURF.CH_STAT.throttle (min 4 (s.throttle c + 1)) p (c % 4)).count .hapt 0 3).slewNow p
  let s2 := if s1.hapt.episode then s1
    else ({ s1 with hapt := { s1.hapt with episode := true } }).count .hapt 0 2 |>.raise .hapt 0 9
  let s3 := s2.throttleShow
  if bit s3.hapt.told p then s3
  else ({ s3 with hapt := { s3.hapt with told := setBit s3.hapt.told p } }).surfEvent p Code.HAPT_THROTTLE
    (((List.range 4).foldl (fun a n => if s3.throttle (4 * p + n) = 0 then a else setBit a n) 0))

/-- The channel that takes a step for power or die temperature. -/
def State.throttleNext (s : State) : Option Nat :=
  match s.throttleOrder.find? (fun c => decide (s.throttle c < if s.hapPrio c = 3 then 3 else 4)) with
  | some c => some c
  | none => s.throttleOrder.find? (fun c => s.hapPrio c == 3 && decide (s.throttle c < 4))

/-- A channel steps up, in reverse order of throttling. -/
def State.stepUp (s : State) : State :=
  match s.throttleOrder.reverse.find? (fun c => decide (0 < s.throttle c)) with
  | some c => ((s.wr SURF.CH_STAT.throttle (s.throttle c - 1) (c / 4) (c % 4)).slewNow (c / 4)).throttleShow
  | none => s

/-- The modelled rise of a channel after 100 ms at a power in mW, in µK (R405). -/
def State.riseNext (s : State) (c mw : Nat) : Int :=
  let r := mget s.hapt.rise c 0
  r + ((mw * s.rd HAPT.THERM_MODEL.rth * 100 : Nat) - r).tdiv (10 * max 1 (s.rd HAPT.THERM_MODEL.tau) : Nat)

/-- HAPT_THROTTLE_STEP: a 1 ms check, with the boost's input power in mW, its output in 0.1 V and the die temperature; every 100 ms with the
drive power of each channel in mW (R405). -/
def State.throttleStep (s : State) (mw vout temp : Nat) (pw : Option (List Nat)) : State :=
  let s0 := ((s.wr HAPT.PWR_NOW.mw mw).wr HAPT.BOOST_STAT.vout vout).wr HAPT.DIE_TEMP.temp temp
  let e := s0.hapt.energy + mw
  let s1 := ({ s0 with hapt := { s0.hapt with energy := e % 1000 } }).count .hapt 0 4 (e / 1000)
  let budget := min 16000 (s1.rd HAPT.BUDGET.mw)
  let die := toSigned 11 temp
  let lim := (s1.rd HAPT.THERM_CFG.die_limit : Int)
  let riseLim := (s1.rd HAPT.THERM_CFG.rise_limit : Int) * 1000000
  let s2 := if budget < mw ∨ lim * 4 ≤ die then (match s1.throttleNext with | some c => s1.stepDown c | none => s1) else s1
  let s3 := match pw with
    | none => s2
    | some l =>
      let rises := (List.range 32).foldl (fun m c => mset m c (s2.riseNext c (l.getD c 0)) 0) s2.hapt.rise
      let t := { s2 with hapt := { s2.hapt with rise := rises } }
      (List.range 32).foldl (fun u c => if riseLim ≤ mget u.hapt.rise c 0 ∧ u.throttle c < 4 then u.stepDown c else u) t
  let fine := decide (10 * mw ≤ 9 * budget) && decide (die ≤ (lim - 5) * 4) && (List.range 32).all (fun c => decide (mget s3.hapt.rise c 0 < riseLim))
  let g : Nat := if fine then s3.hapt.good + 1 else 0
  let up := fine && Nat.ble 100 g
  let s4 := { s3 with hapt := { s3.hapt with good := if up then 0 else g } }
  if up then s4.stepUp else s4

/-- HAPT_THROTTLE_STEP (R405). -/
def execHaptThrottleStep (mw : BitVec 14) (vout : BitVec 12) (temp : BitVec 11) (pw : Option (List Nat)) (s : State) : Out :=
  .next (s.throttleStep mw.toNat vout.toNat temp.toNat pw)

end Sys2Proof.Machine
end

