-- ==== Sys2Proof/Machine/Audio.lean ====
section
/-! DEFINITION. Audio: streams, the parameter set, mixing, limiting, silence detection, port clocks, and the alarm path (R409 to R426). -/

namespace Sys2Proof.Machine

/-! ### Amplifiers and the alarm generator (R419, R424) -/

/-- Frequencies of the alarm pattern k: f1 and f2, clamped; f2 = 0 for a single tone (R425). -/
def State.alarmF (s : State) (k : Nat) : Nat × Nat :=
  let f2 := s.rd SAFE.ALARM_PAT_F.f2 0 k
  (clamp 200 4000 (s.rd SAFE.ALARM_PAT_F.f1 0 k), if f2 = 0 then 0 else clamp 200 4000 f2)

/-- On time of a tone period, and length of a cycle of pattern k, in ns (R424). -/
def State.alarmT (s : State) (k : Nat) : Nat × Nat :=
  let on := max 1 (s.rd SAFE.ALARM_PAT_T.on 0 k) * 10000000
  (on, on * (if (s.alarmF k).2 = 0 then 1 else 2) + s.rd SAFE.ALARM_PAT_T.off 0 k * 10000000)

/-- The tone that sounds at an age of the pattern: its frequency, and how far into it and how long it is (R424). -/
def State.alarmAt (s : State) (k age : Nat) : Option (Nat × Nat × Nat) :=
  let (on, per) := s.alarmT k
  let f := s.alarmF k
  let x := age % per
  if x < on then some (f.1, x, on) else if f.2 ≠ 0 ∧ x < 2 * on then some (f.2, x - on, on) else none

/-- A pattern that was to follow takes over at its time (R424). -/
def State.alarmSync (s : State) : State :=
  match s.alarm.next with
  | some (k, t) => if t ≤ s.now then { s with alarm := { s.alarm with start := some t, pattern := k, next := none } } else s
  | none => s

/-- Whether the generator, the framer and the sounder run: the safety domain does, and the module is in neither Deep sleep nor Off (R423). -/
def State.alarmPowered (s : State) : Bool := s.pwr.safeUp && s.rd PWR.STATE.state != 3 && s.rd PWR.STATE.state != 4

/-- The tone the running pattern gives now. -/
def State.alarmTone (s0 : State) : Option (Nat × Nat × Nat) :=
  let s := s0.alarmSync
  match s.alarm.start with
  | some t => s.alarmAt s.alarm.pattern (s.now - t)
  | none => none

/-- Length of a tone's ramps in ns (R424). -/
def rampNs : Nat := 2000000

/-- Envelope of the tone, from 0 to rampNs: it begins and ends with a linear ramp, also where it is cut short (R424). -/
def State.alarmEnv (s : State) : Nat :=
  match s.alarmTone with
  | some (_, x, on) => min rampNs (min x (on - x))
  | none => (match s.alarm.ended with | some t => t + rampNs - s.now | none => 0)

/-- Whether the tone or its ramp is in progress (R425). -/
def State.alarmSounds (s : State) : Bool := s.alarmPowered && (s.alarmTone.isSome || decide (0 < s.alarmEnv))

/-- The largest number below 2^n whose double less one, to the power 20, times 10^db stays within a bound. -/
def ampFind (db lim : Nat) : Nat → Nat → Nat
  | 0, a => a
  | n + 1, a => ampFind db lim n (if (2 * (a + 2 ^ n) - 1) ^ 20 * 10 ^ db ≤ lim then a + 2 ^ n else a)

/-- Amplitude of the tone at a level: (2^23 - 1) × 10^(−level / 20), rounded half up; a level above 60 acts as 60 (R424, R425). -/
def toneAmp (level : Nat) : Nat := ampFind (min 60 level) ((2 * (2 ^ 23 - 1)) ^ 20) 23 0

/-- SOUNDER_PWM: a square wave of 50 % duty at the frequency of the tone while it sounds, low at all other times (R424). -/
def State.sounderPin (s : State) : Bool :=
  s.alarmPowered && s.on SAFE.ALARM_CFG.sounder_en &&
    (match s.alarmTone with | some (f, x, _) => x * 2 * f / 1000000000 % 2 == 0 | none => false)

/-- Level AMP_ENt is to have (R419, R424). -/
def State.ampWanted (s : State) (t : Nat) : Bool :=
  let m := s.rd AUDIO.SIL_CFG.amp_mode 0 t
  (t == 0 && s.alarm.hold) || (s.on AUDIO.PORT_CTRL.enable 0 t && (m == 1 || ((m == 0 || m == 3) && bit s.audio.awake t)))

/-- The AMP_EN pins: AMP_EN0 is in the SAFE bank, the others in the MAIN bank, and a bank without its rail drives nothing (R34, R36). -/
def State.ampPins (s : State) : State :=
  let up := fun (t : Nat) => (s.on AUDIO.PORT_STAT.amp_en 0 t || (t == 0 && s.alarm.hold)) && (if t = 0 then s.pwr.safeUp else s.pins.pwrGood)
  { s with pins := { s.pins with ampEn := (((List.range 4).filter up).map (fun t => 2 ^ t)).sum } }

/-- AMP_ENt follows; a change is shown and told (R419). -/
def State.ampSync (s : State) (t : Nat) : State :=
  let now := s.ampWanted t
  if now = s.on AUDIO.PORT_STAT.amp_en 0 t then s.ampPins else ((s.wrB AUDIO.PORT_STAT.amp_en now 0 t).ampPins).raise .audio 0 13

/-- The alarm ends: a tone in progress through its ramp (R424). -/
def State.alarmStop (s0 : State) : State :=
  let s := s0.alarmSync
  let ramp := if s.alarmEnv = 0 then none else some (s.now + s.alarmEnv - rampNs)
  ({ s with alarm := { s.alarm with start := none, next := none, ended := ramp, stopAt := s.now } }).wr SAFE.ALARM_CTRL.run 0

/-- A write of ALARM_CTRL by the safety island: run starts or ends the pattern; a pattern written while it runs follows the present tone period
(R424). -/
def State.alarmCtrl (s : State) (w : Who) (v : Nat) : State :=
  s.onWrite w .safe 0 0x200 v (fun u0 =>
    let u := u0.alarmSync
    let was := u.on SAFE.ALARM_CTRL.run
    let t := u.storeWord .safe 0 0x200 v
    let k := bits v 0 3
    if !was && bit v 8 then
      let t1 := { t with alarm := { start := some t.now, pattern := k, hold := true, tone := t.alarm.tone, tdmFrom := t.now + t.rd SAFE.ALARM_CFG.amp_wake_ms * 1000000 } }
      t1.ampSync 0
    else if was && !bit v 8 then t.alarmStop
    else if was then
      let at_ := match t.alarmTone with | some (_, x, on) => t.now + on - x | none => t.now
      { t with alarm := { t.alarm with next := if k = t.alarm.pattern then none else some (k, at_) } }.alarmSync
    else t)

/-- ALARM_RUN: a write of ALARM_CTRL.run with a pattern (R424). -/
def execAlarmRun (w : Who) (pattern : Fin 8) (run : Bool) (s : State) : Out := .next (s.alarmCtrl w (pattern.val + 256 * b2n run))
/-- ALARM_PATTERN_WRITE: a write of ALARM_CTRL.pattern that leaves run as it is (R424). -/
def execAlarmPatternWrite (w : Who) (pattern : Fin 8) (s : State) : Out :=
  .next (s.alarmCtrl w (pattern.val + 256 * s.rd SAFE.ALARM_CTRL.run))

/-- Whether the pattern has played its repeat cycles (R424). -/
def State.alarmPlayed (s : State) : Bool :=
  let n := s.rd SAFE.ALARM_PAT_T.repeat 0 s.alarm.pattern
  n != 0 && (match s.alarm.start with | some t => s.past t (n * (s.alarmT s.alarm.pattern).2) | none => false)

/-- ALARM_END: the pattern has played its repeat cycles, and run clears; the last tone has had its ramp (R424). -/
def execAlarmEnd (s : State) : Out :=
  .next (let u := s.alarmSync
    if u.on SAFE.ALARM_CTRL.run ∧ u.alarmPlayed then
      let t := u.alarmStop
      { t with alarm := { t.alarm with ended := none } }
    else u)

/-- ALARM_AMP_RELEASE: 100 ms after the alarm ended AMP_EN0 follows silence detection again (R424). -/
def execAlarmAmpRelease (s : State) : Out :=
  .next (if s.on SAFE.ALARM_CTRL.run ∨ !s.past s.alarm.stopAt 100000000 then s else ({ s with alarm := { s.alarm with hold := false } }).ampSync 0)

/-- Time a port is silent before its amplifier goes off, in ns (R419, R426). -/
def State.silHold (s : State) (t : Nat) : Nat := clamp 1 100 (s.rd AUDIO.SIL_CFG.hold 0 t) * 100000000

/-- SILENCE_HOLD_EXPIRY: a port has been silent for hold × 100 ms (R419). -/
def execSilenceHoldExpiry (t : Fin 4) (s : State) : Out :=
  .next (if !s.past (mget s.audio.loud t.val 0) (s.silHold t.val) then s else ({ s with audio := { s.audio with awake := clrBit s.audio.awake t.val } }).ampSync t.val)

/-- A write of SIL_CFG of port t: amp_mode acts at once (R419). -/
def State.silCfg (s : State) (w : Who) (t v : Nat) : State :=
  let off := 0x18C + 0x20 * t
  s.onWrite w .audio 0 off v (fun u => (u.storeWord .audio 0 off v).ampSync t)

/-! ### Parameter set (R414, R417) -/

/-- What a word of the set is loaded with: every source muted, everything else 0 (R414). -/
def psetImage (k : Nat) : Nat := if k < 96 then 2 ^ 24 else 0

/-- A word of the active copy. -/
def State.pword (s : State) (k : Nat) : Nat := mget s.audio.active k (psetImage k)

/-- Channels: 2 × source + channel for sources 0 to 95, 192 + bus. The word of a channel. -/
def chanWord (c : Nat) : Nat := if c < 192 then c / 2 else 96 + (c - 192)

/-- The gain a word gives its channels: a mute counts as 0 (R414). -/
def wordGain (k v : Nat) : Nat := if k < 96 ∧ bit v 24 then 0 else v % 65536

/-- The gain a channel uses now. -/
def State.gainOf (s : State) (c : Nat) : Nat := mget s.audio.gains c 0

/-- A channel takes the gain of the active set. -/
def State.takeGain (s : State) (c : Nat) : State :=
  { s with audio := { s.audio with
    gains := mset s.audio.gains c (wordGain (chanWord c) (s.pword (chanWord c))) 0
    waits := s.audio.waits.filter (fun x => x != c) } }

/-- Show the channels waiting; a safe-load none of whose channels waits any more is done (R417). -/
def State.safeloadShow (s : State) : State :=
  let s1 := s.wr AUDIO.ENG_STAT.waiting (min 255 s.audio.waits.length)
  if s1.on AUDIO.SAFELOAD.pending && s1.audio.waits.isEmpty then (s1.wr AUDIO.SAFELOAD.pending 0).raise .audio 0 11 else s1

/-- Whether a channel takes its gain without waiting: of a stream that is idle, or the second of a source that has but one (R410, R418). -/
def State.chanIdle (s : State) (c : Nat) : Bool :=
  if c < 128 then (mget s.audio.feeds (c / 2) {}).st == 0 || (c % 2 == 1 && !s.on AUDIO.STRM_CFG.stereo (b := c / 2))
  else decide (c < 192) && c % 2 == 1

/-- A safe-load: the set is swapped, and every channel whose effective gain changed waits for it (R417). -/
def State.safeload (s : State) : State :=
  let s1 := { s with audio := { s.audio with active := s.audio.staging } }
  let chans := (List.range 208).filter (fun c => s1.gainOf c != wordGain (chanWord c) (s1.pword (chanWord c)))
  let now := if s.on (HDR.enable .audio) then chans.filter s1.chanIdle else chans
  let later := chans.filter (fun c => !now.contains c)
  let s2 := now.foldl (fun t c => t.takeGain c) s1
  ((({ s2 with audio := { s2.audio with waits := later, loadAt := s2.now } }).wr AUDIO.SAFELOAD.pending 1).count .audio 0 12).safeloadShow

/-- A write of SAFELOAD (R417). -/
def State.safeloadGo (s : State) (w : Who) (v : Nat) : State :=
  s.onWrite w .audio 0 0x10C v (fun t =>
    if !bit v 0 then t
    else if t.on AUDIO.SAFELOAD.pending then t.refuse .audio 0 Code.AUD_SAFELOAD_BUSY w.rid 0x10C
    else t.safeload)

/-- SAFELOAD_GO (R417). -/
def execSafeloadGo (w : Who) (s : State) : Out := .next (s.safeloadGo w 1)

/-- GAIN_TIMEOUT: GAIN_TIMEOUT.ms has passed for a waiting channel (R418). -/
def execGainTimeout (c : Fin 208) (s : State) : Out :=
  .next (if s.audio.waits.contains c.val ∧ s.past s.audio.loadAt (ms (max 1 (s.rd AUDIO.GAIN_TIMEOUT.ms))) then (((s.takeGain c.val).count .audio 0 13).safeloadShow) else s)

/-- PSET_INDEX moves on by one. -/
def State.psetNext (s : State) : State := s.wr AUDIO.PSET_INDEX.index (s.rd AUDIO.PSET_INDEX.index + 1)

/-- An access of PSET_DATA: a read, or a write of a word (R414, R426). -/
def State.psetAccess (s : State) (w : Who) (v : Option Nat) : State :=
  let k := s.rd AUDIO.PSET_INDEX.index
  match v with
  | none => (match s.reach w .audio 0 0x118 false with
    | .bad t => t
    | .good t =>
      if 144 ≤ k then t.refuse .audio 0 Code.REG_UNMAPPED w.rid 0x118
      else t.psetNext.okResp (if s.on AUDIO.PSET_INDEX.active then s.pword k else mget s.audio.staging k (psetImage k)))
  | some x => s.onWrite w .audio 0 0x118 x (fun t =>
      if 144 ≤ k then t.refuse .audio 0 Code.REG_UNMAPPED w.rid 0x118
      else if t.on AUDIO.PSET_INDEX.active then t.refuse .audio 0 Code.REG_PERM w.rid 0x118
      else ({ t with audio := { t.audio with staging := mset t.audio.staging k (x % 2 ^ 32) (psetImage k) } }).psetNext)

/-- PSET_DATA_ACCESS (R414). -/
def execPsetDataAccess (w : Who) (v : Option Word) (s : State) : Out := .next (s.psetAccess w (v.map (·.toNat)))

/-! ### Streams (R410 to R412) -/

/-- A stream's rate (R426). -/
def State.strmRate (s : State) (k : Nat) : Nat := clamp 8000 192000 (s.rd AUDIO.STRM_RATE.hz (b := k))

/-- Frames of a stream's prefill. -/
def State.prefill (s : State) (k : Nat) : Nat := (clamp 2 40 (s.rd AUDIO.STRM_PREFILL.ms (b := k)) * s.strmRate k + 999) / 1000

/-- A sample left-justified to 32 bits: S16, S24 in the low bits of a word, S32 (R411, R415). -/
def strmSample (fmt : Nat) (d : List Byte) : Int :=
  if fmt = 0 then toSigned 16 (field d 0 2) * 65536 else if fmt = 1 then toSigned 24 (field d 0 3) * 256 else toSigned 32 (field d 0 4)

/-- How a stream is read (R411). -/
def State.strmHow (s : State) (k : Nat) : FeedHow :=
  let fmt := s.rd AUDIO.STRM_CFG.fmt (b := k)
  let n := if s.on AUDIO.STRM_CFG.stereo (b := k) then 2 else 1
  let sz := if fmt = 0 then 2 else 4
  { ring := s.rd AUDIO.STRM_CFG.ring (b := k), most := 65536, bytes := n * sz, depth := s.prefill k
    samples := fun d => (List.range n).map (fun c => strmSample fmt (d.drop (sz * c))) }

/-- A stream's feed. -/
def State.strm (s : State) (k : Nat) : Feed := mget s.audio.feeds k {}

/-- Put a stream's feed back, with its state and buffered time shown; channels of one that becomes idle take their gains (R418). -/
def State.setStrm (s : State) (k : Nat) (f : Feed) : State :=
  let s1 := (({ s with audio := { s.audio with feeds := mset s.audio.feeds k f {} } }).wr AUDIO.STRM_STAT.state f.st (b := k)).wr
    AUDIO.STRM_STAT.fill_ms (min 255 (f.frames.length * 1000 / s.strmRate k)) (b := k)
  if f.st = 0 then ([2 * k, 2 * k + 1].filter s1.audio.waits.contains).foldl (fun t c => t.takeGain c) s1 else s1

/-- Frames come into a stream's buffer; the first in idle begins the fill (R411, R412). -/
def State.strmFill (s : State) (k : Nat) : State :=
  let f := s.strm k
  let on := s.on AUDIO.STRM_CFG.enable (b := k)
  if !on && f.jobs.isEmpty then s
  else
    let (s1, f1) := s.feedFill 8000 (s.strmHow k) on f
    let (s2, f2) := s1.feedEnds 8 f1
    (s2.count .audio 0 14 (f1.frames.length - f.frames.length)).setStrm k (if f2.st = 0 ∧ !f2.frames.isEmpty then { f2 with st := 1 } else f2)

/-- Enabled streams whose rings an instance holds. -/
def State.strmCount (s : State) (inst : Nat) : Nat :=
  ((List.range 64).filter (fun k => s.on AUDIO.STRM_CFG.enable (b := k) && ringInst (s.rd AUDIO.STRM_CFG.ring (b := k)) == inst)).length

/-- A write of STRM_CFG of the selected stream (R411). -/
def State.strmCfg (s : State) (w : Who) (v : Nat) : State :=
  let k := s.rd AUDIO.STRM_SEL.stream
  s.onWrite w .audio 0 0x124 v (fun t =>
    let r := bits v 0 18
    let inst := ringInst r
    let others := t.strmCount inst - (if t.on AUDIO.STRM_CFG.enable (b := k) && ringInst (t.rd AUDIO.STRM_CFG.ring (b := k)) == inst then 1 else 0)
    if bit v 18 && !((t.ring r).enable && (t.ring r).type == 5) then t.refuse .audio 0 Code.RING_BAD_CTX w.rid 0x124
    else if bit v 18 && inst != 0 && decide (t.rd MGR.ALLOC_AUDIO.streams (b := inst) ≤ others) then t.refuse .audio 0 Code.INST_POOL w.rid 0x124
    else t.storeWord .audio 0 0x124 v)

/-- AUDIO_STREAM_ENABLE (R411). -/
def execAudioStreamEnable (w : Who) (v : Word) (s : State) : Out := .next (s.strmCfg w (setBit v.toNat 18))

/-- The frames a stream needs at a tick: STRM_RATE / 48,000, a fraction carried on (R410). -/
def State.strmNeeds (s : State) (k : Nat) (f : Feed) : Nat × Nat := ((f.owed + s.strmRate k) / 48000, (f.owed + s.strmRate k) % 48000)

/-- Take n frames: what is left, the last samples taken, whether a job with end ended, or none where one is missing. -/
def takeFrames : Nat → Feed → List Int → Bool → Option (Feed × List Int × Bool)
  | 0, f, v, e => some (f, v, e)
  | n + 1, f, _, e =>
    if e then some (f, f.level, e)
    else match f.play with
      | none => none
      | some (v, ends, g) => takeFrames n { g with level := v } v ends

/-- One stream at a tick: the state after it, and the samples its channels give; a converted stream's are free values (R410, R412). -/
def State.strmTick (s0 : State) (k : Nat) : State × List Int :=
  let s := s0.strmFill k
  let f := s.strm k
  let bypass := s.strmRate k == 48000
  let open_ := fun (t : State) (v : List Int) =>
    if bypass then (v, t)
    else
      let (l, t1) := State.draws v.length t
      (l.map (fun x => toSigned 32 x), t1)
  let ramp := fun (t : State) (g : Feed) (n : Nat) =>
    let (v, t1) := open_ t (rampLevel 48 n g.level)
    if n = 0 then (t1.setStrm k (if g.frames.isEmpty then { g with st := 0, ramp := 0, level := [] } else { g with st := 1, ramp := 0, level := [] }), v)
    else (t1.setStrm k { g with st := 3, ramp := n }, v)
  if f.st = 3 then ramp s f (f.ramp - 1)
  else if f.st = 2 ∨ (f.st = 1 ∧ s.prefill k ≤ f.frames.length) then
    let (n, owed) := s.strmNeeds k f
    match takeFrames n f f.level false with
    | some (g, v, ends) =>
      let (t, g1) := s.feedEnds 8 g
      if ends then ramp t { g1 with owed := 0 } 48
      else
        let (v1, t1) := open_ t v
        (t1.setStrm k { g1 with st := 2, owed := owed }, v1)
    | none =>
      if !s.on AUDIO.STRM_CFG.enable (b := k) && f.jobs.isEmpty then ramp s { f with owed := 0 } 47
      else
        let t := ((s.count .audio 0 1).raise .audio 0 10).event (ringOwner (s.rd AUDIO.STRM_CFG.ring (b := k))) .audio 0 Code.AUD_UNDERRUN (evDetail k k)
        ramp t { f with owed := 0 } 47
  else (s, [])

/-! ### TDM ports (R413, R420 to R423) -/

/-- Clock mode of a port: port 0 and clk 3 are internal masters (R413). -/
def State.portClk (s : State) (t : Nat) : Nat := let c := s.rd AUDIO.PORT_CFG.clk 0 t; if t = 0 ∨ c = 3 then 0 else c

/-- A write of PORT_CTRL: port 0's is written with boot privilege alone; enabling starts the port, its ASRC measuring where it has one (R413). -/
def State.portEnable (s : State) (w : Who) (t v : Nat) : State :=
  let off := 0x180 + 0x20 * t
  s.onWrite w .audio 0 off v (fun u =>
    if t = 0 ∧ w ≠ .boot ∧ bits v 0 1 ≠ u.rd AUDIO.PORT_CTRL.enable 0 0 then u.refuse .audio 0 Code.REG_PERM w.rid off
    else
      let was := u.on AUDIO.PORT_CTRL.enable 0 t
      let u1 := u.storeWord .audio 0 off v
      let u2 := if was = bit v 0 then u1
        else ((u1.wrB AUDIO.PORT_STAT.locked (bit v 0 && u1.portClk t == 0) 0 t).wr AUDIO.PORT_STAT.rate_hz (if bit v 0 ∧ u1.portClk t = 0 then 48000 else 0) 0 t).wr
          AUDIO.PORT_STAT.waiting 0 0 t
      u2.ampSync t)

/-- A write of PORT_CFG: only while the port is disabled, and on port 0 only in_mask and out_mask (R413). -/
def State.portCfg (s : State) (w : Who) (t v : Nat) : State :=
  let off := 0x184 + 0x20 * t
  s.onWrite w .audio 0 off v (fun u =>
    let now := ([AUDIO.PORT_CFG.clk, AUDIO.PORT_CFG.slot_bits, AUDIO.PORT_CFG.fsync_len, AUDIO.PORT_CFG.delay, AUDIO.PORT_CFG.bclk_edge,
      AUDIO.PORT_CFG.mclk_div].foldl (fun a f => a + u.rd f 0 t * 2 ^ f.lo) 0)
    if w ≠ .boot ∧ (if t = 0 then v &&& 0xFF7F ≠ now else u.on AUDIO.PORT_CTRL.enable 0 t) then u.refuse .audio 0 Code.REG_PERM w.rid off
    else u.storeWord .audio 0 off v)

/-- Bits of a port's slots: code 3 acts as 2 (R413, R426). -/
def State.slotBits (s : State) (t : Nat) : Nat := [16, 24, 32, 32].getD (s.rd AUDIO.PORT_CFG.slot_bits 0 t) 32

/-- Frame rate of a port run from MCLK: MCLK / (mclk_div × 8 × slot bits) (R413). -/
def State.mclkRate (s : State) (t mclk : Nat) : Nat := mclk / (max 1 (s.rd AUDIO.PORT_CFG.mclk_div 0 t) * 8 * s.slotBits t)

/-- AUD_MCLK_LOST: no MCLK edge for 16 locked periods: the port goes to PLL 20, its first frame 0 (R420). -/
def execAudMclkLost (t : Fin 4) (s : State) : Out :=
  let k := t.val
  .next (if s.portClk k ≠ 1 ∨ !s.on AUDIO.PORT_CTRL.enable 0 k ∨ s.on AUDIO.PORT_STAT.clk_lost 0 k ∨ s.on AUDIO.PORT_STAT.waiting 0 k then s
    else
      let s1 := (((s.wr AUDIO.PORT_STAT.clk_lost 1 0 k).wr AUDIO.PORT_STAT.rate_hz 48000 0 k).count .audio 0 (8 + k)).raise .audio 0 8
      ({ s1 with audio := { s1.audio with zero := setBit s1.audio.zero k } }).eventPage .audio 0 Code.AUD_MCLK_LOST k k)

/-- AUD_MCLK_GLITCH: an MCLK period outside ±5 % (R421). -/
def execAudMclkGlitch (t : Fin 4) (s : State) : Out :=
  let k := t.val
  .next (if s.portClk k ≠ 1 ∨ !s.on AUDIO.PORT_CTRL.enable 0 k then s
    else ((s.count .audio 0 (4 + k)).raise .audio 0 9).recErr .audio 0 Code.AUD_MCLK_GLITCH ridBlock (0x188 + 0x20 * k))

/-- A write of PORT_STAT: clearing clk_lost makes the port wait for a stable MCLK (R420). -/
def State.portStat (s : State) (w : Who) (t v : Nat) : State :=
  let off := 0x188 + 0x20 * t
  s.onWrite w .audio 0 off v (fun u =>
    let was := u.on AUDIO.PORT_STAT.clk_lost 0 t
    let u1 := u.storeWord .audio 0 off v
    if was && bit v 0 then u1.wr AUDIO.PORT_STAT.waiting 1 0 t else u1)

/-- CLK_LOST_CLEAR (R420). -/
def execClkLostClear (w : Who) (t : Fin 4) (s : State) : Out := .next (s.portStat w t.val 1)

/-- MCLK_RETURN: MCLK has been stable for 1 ms; at the next frame boundary the port returns to it with one frame of 0 (R420). -/
def execMclkReturn (t : Fin 4) (s : State) : Out :=
  let k := t.val
  .next (if !s.on AUDIO.PORT_STAT.waiting 0 k then s
    else
      let s1 := s.wr AUDIO.PORT_STAT.waiting 0 0 k
      { s1 with audio := { s1.audio with zero := setBit s1.audio.zero k } })

/-- ASRC_RELOCK: a port's frame rate has left ±1 %, or a slave's clocks stopped: it is silent both ways until its ASRC locks (R422). -/
def execAsrcRelock (t : Fin 4) (s : State) : Out :=
  let k := t.val
  .next (if s.portClk k = 0 ∨ !s.on AUDIO.PORT_CTRL.enable 0 k ∨ !s.on AUDIO.PORT_STAT.locked 0 k then s
    else ((s.wr AUDIO.PORT_STAT.locked 0 0 k).count .audio 0 15).raise .audio 0 12)

/-- ASRC_LOCK: a measuring ASRC has seen 1,024 input frames at a rate; one outside 8 to 192 kHz is never locked (R410, R422). -/
def execAsrcLock (t : Fin 4) (hz : BitVec 20) (s : State) : Out :=
  let k := t.val
  .next (if s.portClk k = 0 ∨ !s.on AUDIO.PORT_CTRL.enable 0 k ∨ s.on AUDIO.PORT_STAT.locked 0 k then s
    else
      let s1 := s.wr AUDIO.PORT_STAT.rate_hz hz.toNat 0 k
      if 8000 ≤ hz.toNat ∧ hz.toNat ≤ 192000 then s1.wr AUDIO.PORT_STAT.locked 1 0 k else s1)

/-- Whether the framer is to run from PLL 20 (R423). -/
def State.framerPll (s : State) : Bool := s.on (HDR.enable .audio) && s.on CLK.PLL_STAT.lock 0 20

/-- FRAMER_CLOCK_SWITCH: at a frame boundary the framer takes the clock it is to run from; on the backup clock every slot but the alarm's
carries 0 (R423). -/
def State.framerSwitch (s : State) : State :=
  let pll := s.framerPll
  let s1 := ((s.wrB AUDIO.ENG_STAT.backup (!pll)).wrB AUDIO.ENG_STAT.running pll).wrB SAFE.ALARM_STAT.backup (!pll)
  if pll then s1 else { s1 with audio := { s1.audio with out := (List.range 8).foldl (fun m k => mset m k 0 0) s1.audio.out } }

/-- FRAMER_CLOCK_SWITCH (R423). -/
def execFramerClockSwitch (s : State) : Out := .next s.framerSwitch

/-! ### The tick (R415, R416, R418, R419) -/

/-- Saturate to w bits two's complement, with whether it did. -/
def satTo (w : Nat) (v : Int) : Int × Bool :=
  let hi : Int := 2 ^ (w - 1)
  if v < -hi then (-hi, true) else if hi ≤ v then (hi - 1, true) else (v, false)

/-- Product with a gain of 14 fraction bits, rounded half up (R415). -/
def gainMul (v : Int) (g : Nat) : Int := (v * (g : Int) + 8192) / 16384

/-- Apply the zero-crossing rule to a waiting channel with its pre-gain sample (R418). -/
def State.gainStep (s : State) (c : Nat) (v : Int) : State :=
  let p := mget s.audio.prev c 0
  let s1 := { s with audio := { s.audio with prev := mset s.audio.prev c v 0 } }
  if s1.audio.waits.contains c ∧ (v = 0 ∨ (v < 0 ∧ 0 < p) ∨ (0 < v ∧ p < 0)) then s1.takeGain c else s1

/-- What a tick adds up: the state, the accumulators of the buses and the saturations. -/
structure MixAcc where
  st   : State
  acc  : SMap Int
  sats : Nat

/-- A source channel's sample goes to its bus (R415). -/
def mixIn (m : MixAcc) (c bus : Nat) (v : Int) : MixAcc :=
  let s := m.st.gainStep c v
  let (a, sat) := satTo 40 (mget m.acc bus 0 + gainMul v (s.gainOf c))
  ⟨s, mset m.acc bus a 0, m.sats + if sat then 1 else 0⟩

/-- Bus of a source's channel. -/
def State.busOf (s : State) (src ch : Nat) : Nat := (bits (s.pword src) 16 4 + ch) % 16

/-- The sources of a tick: streams, then TDM input slots. A slot not received gives silence, as does a port whose ASRC has not locked; a converted slot's
sample is a free value (R410, R413, R415). -/
def State.mixSources (s : State) (inp : List Int) : MixAcc :=
  let m1 := (List.range 64).foldl (fun m k =>
    let (t, v) := m.st.strmTick k
    let m1 : MixAcc := { m with st := t }
    (List.range v.length).foldl (fun x ch => mixIn x (2 * k + ch) (t.busOf k ch) (v.getD ch 0)) m1) ⟨s, [], 0⟩
  (List.range 32).foldl (fun m n =>
    let t := n / 8
    let src := 64 + n
    let on := s.on AUDIO.PORT_CTRL.enable 0 t && bit (s.rd AUDIO.PORT_CFG.in_mask 0 t) (n % 8) && s.on AUDIO.PORT_STAT.locked 0 t && !bit s.audio.zero t
    if !on then mixIn m (2 * src) (s.busOf src 0) 0
    else if s.portClk t = 0 then mixIn m (2 * src) (s.busOf src 0) (inp.getD n 0)
    else
      let (v, t1) := m.st.draw
      mixIn { m with st := t1 } (2 * src) (s.busOf src 0) (toSigned 32 v)) m1

/-- Limiter gain of a slot, over 2^32: 1 until the look-ahead exceeds the threshold; from then on a free value within its bound (R416). -/
def State.limStep (s : State) (slot thr : Nat) (look : List Int) : Nat × State :=
  let peak := look.foldl (fun a v => max a v.natAbs) 0
  let L := thr * 256 * 256
  let bound := if peak ≤ L then 2 ^ 32 else L * 2 ^ 32 / peak
  let r := mget s.audio.lim slot (2 ^ 32)
  if peak ≤ L ∧ r = 2 ^ 32 then (r, s)
  else
    let (v, s1) := s.draw
    let x := v % (bound + 1)
    (x, { s1 with audio := { s1.audio with lim := mset s1.audio.lim slot x (2 ^ 32) } })

/-- The value of an output slot before the port's width: limited and clamped to 24 bits (R416). -/
def State.slotOut (s : State) (slot : Nat) (v : Int) : State × Int :=
  let w := s.pword (112 + slot)
  let old := mget s.audio.look slot []
  if bit w 5 then
    let thr := if bits w 16 16 = 0 then 32767 else bits w 16 16
    let look := ((if old.length < 48 then List.replicate (48 - old.length) 0 ++ old else old) ++ [v])
    let x := look.headD 0
    let (r, s1) := s.limStep slot thr look
    let (y, cl) := satTo 24 (roundDiv (x * (r : Int)) (2 ^ 40))
    let s2 := { s1 with audio := { s1.audio with look := mset s1.audio.look slot (look.drop 1) [] } }
    (if cl then s2.count .audio 0 3 else s2, y)
  else
    let (y, cl) := satTo 24 (roundDiv v 256)
    let s1 := { s with audio := { s.audio with look := mset s.audio.look slot [] [], lim := mset s.audio.lim slot (2 ^ 32) (2 ^ 32) } }
    (if cl then s1.count .audio 0 3 else s1, y)

/-- A slot's word at the port's slot width: 24 bits, or 16 rounded half up and saturated (R413, R416). -/
def State.slotWord (s : State) (t : Nat) (y : Int) : Int :=
  if s.rd AUDIO.PORT_CFG.slot_bits 0 t = 0 then (satTo 16 ((y + 128) / 256)).1 else y

/-- Whether |y| is below the silence level of a port: 2^23 × 10^(−level / 20) (R419). -/
def State.isQuiet (s : State) (t : Nat) (y : Int) : Bool :=
  decide (y.natAbs ^ 20 * 10 ^ (s.rd AUDIO.SIL_CFG.level_db 0 t) < 2 ^ 460)

/-- One output slot of a tick (R413, R416, R419, R424). -/
def State.outSlot (s : State) (bus : SMap Int) (n : Nat) : State :=
  let t := n / 8
  let w := s.pword (112 + n)
  let put := fun (u : State) (v : Int) => { u with audio := { u.audio with out := mset u.audio.out n v 0 } }
  if n = s.rd SAFE.ALARM_CFG.slot then s
  else if !s.on AUDIO.PORT_CTRL.enable 0 t || !bit w 4 then put s 0
  else
    let (u, y) := s.slotOut n (mget bus (bits w 0 4) 0)
    let masked := !bit (s.rd AUDIO.PORT_CFG.out_mask 0 t) (n % 8)
    if masked || bit s.audio.zero t || (s.portClk t != 0 && !s.on AUDIO.PORT_STAT.locked 0 t) then put u 0
    else
      let u1 := if s.isQuiet t y then u else { u with audio := { u.audio with awake := setBit u.audio.awake t, loud := mset u.audio.loud t u.now 0 } }
      if s.portClk t = 0 then put u1 (u1.slotWord t y)
      else
        let (v, u2) := u1.draw
        put u2 (toSigned 24 v)

/-- The framer's alarm slot at a frame: while the tone sounds a sample of its sine, a value within the amplitude the envelope allows whose course the spec leaves open, and
0 whenever it is silent (R19, R423, R424). -/
def State.alarmFrame (s0 : State) : State :=
  let s := s0.alarmSync
  let set := fun (u : State) (v : Int) => { u with alarm := { u.alarm with tone := v } }
  if s.alarmSounds && s.on SAFE.ALARM_CFG.tdm_en && decide (s.alarm.tdmFrom ≤ s.now) then
    let a := toneAmp (s.rd SAFE.ALARM_PAT_T.level 0 s.alarm.pattern) * s.alarmEnv / rampNs
    let (v, u) := s.draw
    set u ((v % (2 * a + 1) : Nat) - (a : Int))
  else set s 0

/-- What the framers send in output slot n of the frame: in TDM0's alarm slot the alarm alone (R19, R424). -/
def State.slotSent (s : State) (n : Nat) : Int := if n = s.rd SAFE.ALARM_CFG.slot then s.alarm.tone else mget s.audio.out n 0

/-- FSYNC of a port in BCLK period k of a frame: high for one BCLK or for one slot; the polarity is PRESUMED, log 198 (R413). -/
def State.fsyncBit (s : State) (t k : Nat) : Bool := decide (k % (8 * s.slotBits t) < if s.on AUDIO.PORT_CFG.fsync_len 0 t then s.slotBits t else 1)

/-- SDOUT of a port in BCLK period k of a frame: its eight slots, each left-justified, from FSYNC on or, with delay, one BCLK later; the order of the bits, highest first,
is PRESUMED, log 198 (R413, R416). -/
def State.sdoutBit (s : State) (t k : Nat) : Bool :=
  let b := s.slotBits t
  let j := (k + 8 * b - s.rd AUDIO.PORT_CFG.delay 0 t) % (8 * b)
  let y := s.slotSent (8 * t + j / b)
  let w := if b = 16 then ofSigned 16 (if 8 * t + j / b = s.rd SAFE.ALARM_CFG.slot then s.slotWord t y else y) else ofSigned 24 y * 2 ^ (b - 24)
  bit w (b - 1 - j % b)

/-- Whether SDOUT changes on the falling edge of BCLK, else on the rising one (R426). -/
def State.sdoutFalls (s : State) (t : Nat) : Bool := !s.on AUDIO.PORT_CFG.bclk_edge 0 t

/-- AUDIO_TICK: a 48 kHz tick, with the samples of the TDM input slots, left-justified to 32 bits (R415). Where the engine does not run, the framer on its backup clock
sends a frame with the alarm slot alone (R423). -/
def State.audioTick (s0 : State) (inp : List Int) : State :=
  let s := s0.alarmFrame
  if !s.on AUDIO.ENG_STAT.running then s
  else
    let m := s.mixSources inp
    let (s1, bus, sats) := (List.range 16).foldl (fun (t, bus, n) b =>
      let a := mget m.acc b 0
      let t1 := t.gainStep (192 + b) a
      let (v, sat) := satTo 40 (gainMul a (t1.gainOf (192 + b)))
      (t1, mset bus b v 0, n + if sat then 1 else 0)) (m.st, ([] : SMap Int), m.sats)
    let s2 := (List.range 32).foldl (fun t n => t.outSlot bus n) s1
    let s3 := { s2 with audio := { s2.audio with zero := 0 } }
    let s4 := if sats = 0 then s3 else (s3.count .audio 0 2 sats).raise .audio 0 14
    let s5 := (List.range 4).foldl (fun t p => t.ampSync p) s4
    (s5.count .audio 0 0).safeloadShow

/-- AUDIO_TICK (R415). -/
def execAudioTick (inp : List Int) (s : State) : Out := .next (s.audioTick inp)

/-- A write of AUDIO:PG_CTRL (R55, R423): a soft reset returns the engine; the framer follows at its next frame boundary. -/
def State.audioCtrl (s : State) (w : Who) (v : Nat) : State :=
  s.onWrite w .audio 0 0x008 v (fun t =>
    let t1 := t.wr (HDR.enable .audio) v
    let t2 := if bit v 1 then { (t1.softRegs .audio 0) with audio := {} } else t1
    (if t2.framerPll then t2 else t2.framerSwitch).ampPins)

/-- DESCRIPTOR_FETCH: the scheduler fetches an entry; a stream bound to the ring takes it while its buffer has room (R188, R400, R411). -/
def execDescriptorFetch (r : Fin 262144) (s : State) : Out :=
  let t := s.descFetch r.val
  let t1 := (List.range 8).foldl (fun u p => if u.on SURF.STREAM_CFG.enable p && u.hapRing p == r.val then u.hapFill p else u) t
  .next ((List.range 64).foldl (fun u k =>
    if u.on AUDIO.STRM_CFG.enable (b := k) && u.rd AUDIO.STRM_CFG.ring (b := k) == r.val then u.strmFill k else u) t1)

end Sys2Proof.Machine
end

