-- ==== Sys2Proof/Machine/Pins.lean ====
section
/-! DEFINITION. Pins and their owners: what a change of owner resets, the controller a pin belongs to, and who may reach a pin's controls (R36,
R146, R432, R434). -/

namespace Sys2Proof.Machine

/-- The controller a pin function belongs to: 0 to 3 an I2C controller, 4 and 5 a UART (R432). -/
def ctlOf (func : Nat) : Option Nat :=
  if 8 ≤ func ∧ func < 16 then some ((func - 8) / 2) else if 16 ≤ func ∧ func < 20 then some (4 + (func - 16) / 2) else none

/-- Page offset of a controller's registers (R436). -/
def ctlOff (c : Nat) : Nat := if c < 4 then 0x500 + 0x20 * c else 0x580 + 0x20 * (c - 4)

/-- A controller is reset: its registers, its FIFOs and a transfer in progress (R434). -/
def State.ctlReset (s : State) (c : Nat) : State :=
  { s with
    regs := dropOffs s.regs (Blk.gpio.page 0) (ctlOff c) (ctlOff c + 0x20)
    ctl := if c < 4 then { s.ctl with i2cBusy := clrBit s.ctl.i2cBusy c, i2cWord := mset s.ctl.i2cWord c 0 0 }
      else { s.ctl with uTx := mset s.ctl.uTx (c - 4) [] [], uFree := mset s.ctl.uFree (c - 4) 0 0, uRx := mset s.ctl.uRx (c - 4) [] [] } }

/-- The registers of one pin as before configuration, with its latched inputs, events and counters cleared (R36, R146). -/
def State.pinClear (s : State) (i : Nat) : State :=
  if i < 48 then
    let s1 := match ctlOf (s.rd GPIO.GPIO_CFG.func 0 i) with
      | some c => s.ctlReset c
      | none => s
    { s1 with regs := dropOffs s1.regs (Blk.gpio.page 0) (0x300 + 4 * i) (0x304 + 4 * i) }
  else if i < 64 then
    let e := i - 48
    let a := s.rd ENC.ENC_STAT.a 0 e; let b := s.rd ENC.ENC_STAT.b 0 e
    let s1 := { s with
      regs := dropOffs s.regs (Blk.enc.page 0) (0x100 + 16 * e) (0x110 + 16 * e)
      ctr := mset s.ctr (ctrKey (Blk.enc.page 0) e) 0 0 }
    ((s1.wr ENC.ENC_STAT.a a 0 e).wr ENC.ENC_STAT.b b 0 e).wr ENC.ENC_WAKE.encoders (clrBit (s1.rd ENC.ENC_WAKE.encoders) e)
  else
    let k := i - 64
    let l := s.rd GPIO.DIN_CFG.state 0 k
    ({ s with regs := dropOffs s.regs (Blk.gpio.page 0) (0x400 + 4 * k) (0x404 + 4 * k) }).wr GPIO.DIN_CFG.state l 0 k

/-- Give a pin an owner; a change clears the pin first (R146, R434). -/
def State.pinChange (s : State) (i o : Nat) : State :=
  if s.pinOwner i = o then s else (s.pinClear i).wr GPIO.PIN_OWNER.owner o 0 i

/-- Give every pin of one owner to another: when an instance is removed or a vale closes (R434). -/
def State.pinsReturn (s : State) (o o' : Nat) : State :=
  (List.range 96).foldl (fun t i => if t.pinOwner i = o then t.pinChange i o' else t) s

/-- Who owns a controller: the owner of its pins; none while it has no pins (R432). -/
def State.ctlOwner (s : State) (c : Nat) : Option Nat :=
  ((List.range 48).find? (fun i => ctlOf (s.rd GPIO.GPIO_CFG.func 0 i) == some c)).map s.pinOwner

/-- Whether a sender's world is o; boot privilege is not bound by ownership (R76). -/
def Who.isWorld (w : Who) (o : Nat) : Bool :=
  match w with
  | .mgr => o == 0xFE
  | .inst k _ => o == k.val
  | .boot => true
  | _ => false

/-- Whether a sender may reach the controls at an offset of ENC or GPIO: those of a pin belong to its owner, those of a controller to the owner
of its pins or, without pins, to the manager (R146, R432, R435). The safety island reads every page (R49). -/
def State.pinReach (s : State) (w : Who) (b : Blk) (off : Nat) : Bool :=
  let ctl := fun c => w.isWorld ((s.ctlOwner c).getD 0xFE)
  if w = .saf then true
  else if b = .enc then
    if 0x100 ≤ off ∧ off < 0x200 then w.isWorld (s.pinOwner (48 + (off - 0x100) / 16)) else true
  else if b = .gpio then
    if 0x300 ≤ off ∧ off < 0x3C0 then w.isWorld (s.pinOwner ((off - 0x300) / 4))
    else if 0x400 ≤ off ∧ off < 0x480 then w.isWorld (s.pinOwner (64 + (off - 0x400) / 4))
    else if 0x500 ≤ off ∧ off < 0x580 then ctl ((off - 0x500) / 0x20)
    else if 0x580 ≤ off ∧ off < 0x5C0 then ctl (4 + (off - 0x580) / 0x20)
    else true
  else true

/-- A write to ENC or GPIO that passes the checks of every register and those of its pin. -/
def State.pinWrite (s : State) (w : Who) (b : Blk) (off v : Nat) (k : State → State) : State :=
  match s.checkWrite w b 0 off v with
  | .bad t => t
  | .good t => if s.pinReach w b off then k t else s.refuse b 0 Code.REG_PERM w.rid off

end Sys2Proof.Machine
end

