-- ==== Sys2Proof/Machine/Dram.lean ====
section
/-! DEFINITION. The DRAM controller's commands: requests with ECC, refresh, replay, rank sparing, admission and the
100 µs windows, and the liveness test (R152 to R181). -/

namespace Sys2Proof.Machine

/-! ### Admission (R166, R167) -/

/-- ADMIT_CAP for an ADMIT_EFF, the floor of R166's formula in exact arithmetic. -/
def admitCap (eff : Nat) : Nat := (123200 * eff - 1996800) / 19500

/-- What a port reserves: its rate, if its class is S or D (R167). -/
def portReserve (cls rate : Nat) : Nat := if cls = 3 then 0 else rate

/-- The reservation a port holds. -/
def State.portHeld (s : State) (p : Nat) : Nat :=
  portReserve (s.rd DRAMQ.PORT_CFG.cls (b := p)) (s.rd DRAMQ.PORT_RATE.rate (b := p))

/-- The next value of the admission sequence. -/
def State.nextAdmission (s : State) : Nat := (s.mem.admSeq + 1) % 65536

/-- Set a port's class and rate under R167: a new or raised reservation takes the next sequence number and is refused
with DRAM_ADMIT if it does not fit; lowering frees its capacity at once; without a reservation the sequence reads 0. The tokens earned until now
count at the rate until now (R162). -/
def State.admitPort (s : State) (w : Who) (off p cls rate : Nat) (store : State → State) : State :=
  let old := s.portHeld p
  let new := portReserve cls rate
  if old < new ∧ s.rd DRAMQ.ADMIT_USED.used + (new - old) > s.rd DRAMQ.ADMIT_CAP.cap then
    (s.refuse .dramq 0 Code.DRAM_ADMIT w.rid off).raise .dramq 0 10
  else
    let s1 := (store (s.bucketSettle p)).wr DRAMQ.ADMIT_USED.used (s.rd DRAMQ.ADMIT_USED.used + new - old)
    if old < new then
      ({ s1 with mem := { s1.mem with admSeq := s1.nextAdmission } }).wr DRAMQ.PORT_STAT.admit_seq s.nextAdmission (b := p)
    else if new = 0 then s1.wr DRAMQ.PORT_STAT.admit_seq 0 (b := p)
    else s1

/-- A write of PORT_CFG or PORT_RATE for the port in PORT_SEL (R167, R180). -/
def State.portWrite (s : State) (w : Who) (off v : Nat) : State :=
  let p := s.rd DRAMQ.PORT_SEL.port
  if off = 0x104 then
    if v % 4 = 2 then s.refuse .dramq 0 Code.DRAMQ_RANGE w.rid off
    else s.admitPort w off p (v % 4) (s.rd DRAMQ.PORT_RATE.rate (b := p)) (fun t => t.storeWord .dramq 0 off v)
  else s.admitPort w off p (s.rd DRAMQ.PORT_CFG.cls (b := p)) (v % 65536) (fun t => t.storeWord .dramq 0 off v)

/-- PORT_RESERVATION_WRITE: a write of PORT_CFG (rate = false) or PORT_RATE (R167). -/
def execPortReservationWrite (w : Who) (rate : Bool) (v : Word) (s : State) : Out :=
  let off := if rate then 0x108 else 0x104
  .next (s.onWrite w .dramq 0 off v.toNat (fun t => t.portWrite w off v.toNat))

/-- A write of ADMIT_EFF: out of range, below what is admitted, or a new ADMIT_CAP (R166, R167, R180). -/
def State.effWrite (s : State) (w : Who) (v : Nat) : State :=
  let eff := v % 256
  if eff < 128 ∨ 240 < eff then s.refuse .dramq 0 Code.DRAMQ_RANGE w.rid 0x120
  else if admitCap eff < s.rd DRAMQ.ADMIT_USED.used then
    (s.refuse .dramq 0 Code.DRAM_ADMIT w.rid 0x120).raise .dramq 0 10
  else (s.wr DRAMQ.ADMIT_EFF.eff eff).wr DRAMQ.ADMIT_CAP.cap (admitCap eff)

/-- ADMIT_EFF_WRITE (R167). -/
def execAdmitEffWrite (w : Who) (v : Word) (s : State) : Out :=
  .next (s.onWrite w .dramq 0 0x120 v.toNat (fun t => t.effWrite w v.toNat))

/-! ### Urgency (R163) -/

/-- Urgency of a request that has waited, against its port's latency target (R163). -/
def urgency (target waited : Nat) : Nat :=
  if target = 0 then 0
  else if target ≤ waited then 3
  else if 4 * (target - waited) ≤ target then 2
  else if 2 * (target - waited) ≤ target then 1
  else 0

/-! ### Rank sparing (R173 to R177) -/

/-- Whether a power-state entry is between E1 and E4 (R86, R177). -/
def State.entryBeforeCommit (s : State) : Bool :=
  decide (s.rd PWR.STATE.state = 5 ∧ 1 ≤ s.rd PWR.STATE.step ∧ s.rd PWR.STATE.step ≤ 4)

/-- Why a trigger of a copy on a subchannel is turned away: one runs or waits for its switch, or there is no spare (R177). -/
def State.spareBad (s : State) (n : Nat) : Option Nat :=
  if s.rd DRAM.SPARE_STAT.state n = 1 ∨ s.rd DRAM.SPARE_STAT.state n = 2 then some Code.DRAM_SPARE_BUSY
  else if !s.on DRAM.SUB_STAT.spare_avail n then some Code.DRAM_SPARE_NONE
  else none

/-- A trigger of a sparing copy of logical rank l on subchannel n: turned away, deferred during entry, else the copy starts with its pointer at
line 0 (R174, R175, R177). -/
def State.spareTrigger (s : State) (n l cause rid : Nat) : State :=
  match s.spareBad n with
  | some c => (s.recErr .dram n c rid 0x114).raise .dram n 15
  | none =>
    if s.entryBeforeCommit then
      (({ s with mem := { s.mem with deferred := mset s.mem.deferred n (1 + l + 4 * cause) 0 } }).wr
        DRAM.SPARE_STAT.deferred 1 n).recErr .dram n Code.DRAM_SPARE_DEFERRED ridBlock 0
    else
      let s1 := { s with mem := { s.mem with copyAt := mset s.mem.copyAt n s.now 0 } }
      ((((s1.wr DRAM.SPARE_STAT.state 1 n).wr DRAM.SPARE_STAT.rank l n).wr DRAM.SPARE_STAT.cause cause n).wr
        DRAM.SPARE_STAT.done_64k 0 n).raise .dram n 16

/-- Start the copies that entry deferred, on the way back to Run (R177). -/
def State.startDeferred (s : State) : State :=
  (List.range 8).foldl (fun t n =>
    let d := mget t.mem.deferred n 0
    if d = 0 then t
    else ({ t with mem := { t.mem with deferred := mset t.mem.deferred n 0 0 } }).spareTrigger n ((d - 1) % 4) ((d - 1) / 4) ridBlock) s

/-- A copy is abandoned: the lines it has copied count (R177, R179). -/
def State.spareDrop (s : State) (n : Nat) : State :=
  (if s.rd DRAM.SPARE_STAT.state n = 1 then s.count .dram n 18 (s.copyLine n) else s).wr DRAM.SPARE_STAT.state 0 n

/-- Whether a copy of a subchannel runs or waits for its switch (R175). -/
def State.copying (s : State) (n : Nat) : Bool := s.rd DRAM.SPARE_STAT.state n == 1 || s.rd DRAM.SPARE_STAT.state n == 2

/-- The spare fails during a copy: the copy is abandoned and no spare is left (R177). -/
def State.spareFail (s : State) (n : Nat) : State :=
  ((s.spareDrop n).wr DRAM.SUB_STAT.spare_avail 0 n).recErr .dram n Code.DRAM_SPARE_FAIL ridBlock 0

/-- The logical rank that a physical rank serves on a subchannel, if any: three of them, one on -A32 (R152). -/
def State.servedBy (s : State) (n p : Nat) : Option Nat :=
  (List.range (if s.variant = .a32 then 1 else 3)).find? (fun l => decide (s.physRank n l = p))

/-- A rank whose errors call for a copy: the copy is abandoned if it is the spare of it, its own copy if one runs goes on, and else it is a trigger if
auto is set (R174, R177). -/
def State.rankBad (s : State) (n p cause : Nat) : State :=
  if s.copying n ∧ p = s.spareRank n then s.spareFail n
  else match s.servedBy n p with
    | some l =>
      if s.copying n ∧ s.rd DRAM.SPARE_STAT.rank n = l then s
      else if s.on DRAM.SPARE_CTRL.auto n then s.spareTrigger n l cause ridBlock else s
    | none => s

/-- The corrected errors of a rank within the last ce_window_s seconds: their times (R174, R179). -/
def State.recentCe (s : State) (n p : Nat) : List Nat :=
  (mget s.mem.ce (n * 4 + p) []).filter (fun t => decide (s.now < t + max 1 (s.rd DRAM.SPARE_CTRL.ce_window_s n) * 1000000000))

/-- A corrected error on a physical rank: counted in its window; at ce_limit or more it calls for a copy (R170, R174). -/
def State.rankCorrected (s : State) (n p : Nat) : State :=
  let l := s.now :: s.recentCe n p
  let s1 := { s with mem := { s.mem with ce := mset s.mem.ce (n * 4 + p) l [] } }.wr DRAM.CE_RANK.count (min 65535 l.length) n p
  let s2 := ((s1.recErr .dram n Code.DRAM_CE ridBlock 0).count .dram n (5 + p)).raise .dram n 8
  let lim := s2.rd DRAM.SPARE_CTRL.ce_limit n
  if lim ≠ 0 ∧ lim ≤ l.length then s2.rankBad n p 1 else s2

/-- An uncorrectable error on a physical rank: recorded with its requester and address, and a cause of a copy, or the end
of one if the rank is the spare of a running copy (R170, R174, R177). -/
def State.rankUncorrectable (s : State) (n p rid pa : Nat) : State :=
  let s1 := ((s.recErr .dram n Code.DRAM_UE rid pa).count .dram n (9 + p)).raise .dram n 9
  s1.rankBad n p 2

/-- Make a line carry the poison pattern (R153, R170). -/
def State.poisonLine (s : State) (line : Nat) : State :=
  { s with mem := { s.mem with poison := mset s.mem.poison line 1 0 } }

/-! ### Requests (R160, R163 to R165, R170) -/

/-- A read of a line for a request as ECC finds it, and whether data came (R170). -/
def State.lineRead (s : State) (n pa rid : Nat) (find : Ecc) : State × Bool :=
  if mget s.mem.poison (pa / 64) 0 ≠ 0 then ((s.recErr .dram n Code.DRAM_POISON rid pa).count .dram n 14, false)
  else match find with
    | .clean => (s, true)
    | .ce => (s.rankCorrected n (s.rankOf pa), true)
    | .ue => ((s.rankUncorrectable n (s.rankOf pa) rid pa).poisonLine (pa / 64), false)

/-- A port's request is accepted: its class is fixed, and it waits with the epoch it was checked in (R116, R164, R165). -/
def State.dramAccept (s : State) (r : DramReq) : State :=
  let c := s.classify r.port.val r.rid.toNat r.write r.critical
  { c.2 with mem := { c.2.mem with pool := c.2.mem.pool ++ [⟨r, c.1, s.now, s.rd POT.CMD_STAT.epoch⟩] } }

/-- Urgency of a waiting request (R163). -/
def State.waitUrgency (s : State) (w : DramWait) : Nat :=
  urgency (s.rd DRAMQ.PORT_LAT.target_ns (b := w.req.port.val)) (s.now - w.since)

/-- The waiting requests subchannel n may issue, oldest first, with their places: those DRAM timing allows (blocked names the places it does not),
and none before an older one of its port to its line (R160, R164). -/
def State.issuable (s : State) (n blocked : Nat) : List (Nat × DramWait) :=
  ((List.range s.mem.pool.length).zip s.mem.pool).filter (fun e =>
    decide (subchannel e.2.req.pa.toNat = n) && !bit blocked e.1 &&
      !(s.mem.pool.take e.1).any (fun o => o.req.port == e.2.req.port && o.req.pa.toNat / 64 == e.2.req.pa.toNat / 64))

/-- Rank of a waiting request in the order of R164: class, then urgency from 3 down, then row hits; the lowest goes first. -/
def State.pickKey (s : State) (w : DramWait) : Nat := (w.cls * 4 + (3 - s.waitUrgency w)) * 2 + (if s.rowOpen w.req.pa.toNat then 0 else 1)

/-- The pick of a command slot: the first in the order of R164 and the oldest of equals; in one slot of every 32 the oldest of any class. -/
def State.pick (s : State) (n blocked : Nat) : Option (Nat × DramWait) :=
  let l := s.issuable n blocked
  if mget s.mem.slots n 0 = 31 then l.head?
  else l.foldl (fun best e => match best with
    | none => some e
    | some m => if s.pickKey e.2 < s.pickKey m.2 then some e else best) none

/-- A picked request is served: a read returns data or a poisoned-data error, a full-line write replaces the line, a partial write merges after its
read (R170, R172). An address with no DRAM behind it gets an error response and counts for its port alone: R2 and R152 give such a request no
subchannel, and the check that refuses it in POT is its port's, before it comes here (DESIGN CHOICE, log 183). -/
def State.dramIssue (s : State) (w : DramWait) (find : Ecc) : State :=
  let r := w.req
  let pa := r.pa.toNat; let n := subchannel pa; let port := r.port.val
  let s1 := if s.waitUrgency w = 3 then s.count .dramq 0 (17 + port) else s
  if s1.on DRAM.SUB_STAT.offline n ∨ s1.variant.dramTop ≤ pa then (s1.count .dramq 0 port 64).errResp
  else if !r.write then
    match (s1.lineGo port r.hint pa false []).lineRead n pa r.rid.toNat find with
    | (t, true) => t.okResp (t.rdMem (pa / 64 * 64) 64)
    | (t, false) => t.errResp
  else if pa % 64 = 0 ∧ r.data.length = 64 then ((s1.store pa r.data).lineGo port r.hint pa true r.data).okResp
  else
    match (s1.lineGo port r.hint pa false []).lineRead n pa r.rid.toNat find with
    | (t, true) =>
      let u := t.wrBytes pa (r.data.take (64 - pa % 64))
      (u.lineGo port r.hint pa true (u.rdBytes (pa / 64 * 64) 64)).okResp
    | (t, false) => t.errResp

/-- A command slot of a subchannel: what is picked is served; a subchannel that retrains issues nothing (R164, R172). -/
def State.dramSlot (s : State) (n blocked : Nat) (find : Ecc) : State :=
  if mget s.mem.retrain n 0 ≠ 0 then s
  else
    let s1 := { s with mem := { s.mem with slots := mset s.mem.slots n ((mget s.mem.slots n 0 + 1) % 32) 0 } }
    match s.pick n blocked with
    | some (k, w) => ({ s1 with mem := { s1.mem with pool := s1.mem.pool.eraseIdx k } }).dramIssue w find
    | none => s1

/-- DRAM_REQUEST: requests arrive at their ports, then subchannel n has a command slot (R164). -/
def execDramRequest (n : Fin 8) (arrive : List DramReq) (blocked : Nat) (find : Ecc) (s : State) : Out :=
  .next ((arrive.foldl State.dramAccept s).dramSlot n.val blocked find)

/-! ### Refresh, temperature and replay (R156 to R158, R171, R172) -/

/-- The rank switch inside a refresh: the logical rank names the spare from now on (R175 steps 4 and 5). -/
def State.rankSwitch (s : State) (n : Nat) : State :=
  if s.rd DRAM.SPARE_STAT.state n = 2 then
    let l := s.rd DRAM.SPARE_STAT.rank n
    let m := s.rd DRAM.RANK_MAP.map n
    let m' := m - bits m (2 * l) 2 * 2 ^ (2 * l) + s.spareRank n * 2 ^ (2 * l)
    (((s.wr DRAM.RANK_MAP.map m' n).wr DRAM.SPARE_STAT.state 3 n).wr DRAM.SUB_STAT.spare_avail 0 n).raise .dram n 17
  else s

/-- Every row of a subchannel is closed (R159, R171). -/
def State.rowsClose (s : State) (n : Nat) : State := { s with mem := { s.mem with rows := mdrop s.mem.rows (n * 256) (n * 256 + 256) } }

/-- DRAM_REFRESH of a subchannel: counted, its rows closed, a rank switch done inside it, and at subchannel 0 a change of interval for
all of them (R156, R157, R175). -/
def execDramRefresh (n : Fin 8) (s : State) : Out :=
  let s1 := s.count .dram n.val 2
  let s2 := if s1.on DRAM.SUB_STAT.hot n.val then s1.count .dram n.val 17 else s1
  let s3 := ((s2.issueCmd n.val 4 0 0 []).rowsClose n.val).rankSwitch n.val
  let want := s3.mem.hotWanted
  .next (if n.val = 0 ∧ s3.on DRAM.SUB_STAT.hot ≠ want then
      (List.range 8).foldl (fun t k => (t.wrB DRAM.SUB_STAT.hot want k).raise .dram k 13) s3
    else s3)

/-- MR4_POLL: the highest rank temperature of each subchannel, in °C. Above 85 °C hot refresh is wanted; 100 reads in a
row at or below it end that; above 95 °C DRAM_HOT_LIMIT is recorded (R156, R158). -/
def execMr4Poll (temps : List Byte) (s : State) : Out :=
  let t := fun n => (temps.getD n 0).toNat
  let s1 := (List.range 8).foldl (fun u n => u.wr DRAM.REF_STAT.temp (t n) n) s
  let s2 := (List.range 8).foldl (fun u n =>
    if 95 < t n then (u.recErr .dram n Code.DRAM_HOT_LIMIT ridBlock 0).raise .dram n 14 else u) s1
  let hot := (List.range 8).any (fun n => decide (85 < t n))
  .next (if hot then { s2 with mem := { s2.mem with hotWanted := true, coolReads := 0 } }
    else
      let c := min 100 (s2.mem.coolReads + 1)
      { s2 with mem := { s2.mem with coolReads := c, hotWanted := s2.mem.hotWanted && decide (c < 100) } })

/-- Replays of a subchannel within the last millisecond. -/
def State.recentReplays (s : State) (n : Nat) : List Nat :=
  (mget s.mem.replays n []).filter (fun t => decide (s.now < t + 1000000))

/-- The commands a replay re-issues: ALERT_n was seen late tCK after the last command, and the faulted one was issued alert_delay tCK before that; it
and every later one (R171). -/
def State.faulted (s : State) (n late : Nat) : List DramCmd :=
  let l := mget s.mem.retry n []
  match l.getLast? with
  | none => []
  | some c => l.filter (fun e => decide (c.time + late ≤ e.time + s.rd DRAM.REPLAY_CFG.alert_delay n))

/-- The steps of R171: precharge-all, then every command from the faulted one on in its order; memory is as a single execution leaves it (R172). -/
def State.replay (s : State) (n : Nat) (l : List DramCmd) : State :=
  l.foldl (fun t c => t.issueCmd n c.op c.rank c.line c.data) ((s.rowsClose n).issueCmd n 0 0 0 [])

/-- CA_REPLAY: replayed, recorded and counted; the eighth within 1 ms of a retraining takes the subchannel offline, else the eighth within 1 ms
starts retraining (R171, R172). -/
def execCaReplay (n : Fin 8) (late : Fin 64) (s : State) : Out :=
  let k := n.val
  let l := s.faulted k late.val
  let s1 := ((((s.replay k l).count .dram k 3).count .dram k 4 l.length).recErr .dram k Code.DRAM_CA_REPLAY ridBlock l.length).raise .dram k 10
  let done := mget s1.mem.retrained k 0
  let c := if done ≠ 0 ∧ s1.now < done - 1 + 1000000 then mget s1.mem.after k 0 + 1 else 0
  let r := s1.now :: s1.recentReplays k
  let s2 := { s1 with mem := { s1.mem with after := mset s1.mem.after k c 0, replays := mset s1.mem.replays k r [] } }
  .next (if c = 8 then
      ((((s2.wr DRAM.SUB_STAT.offline 1 k).recErr .dram k Code.DRAM_OFFLINE ridBlock 0).raise .dram k 12).faultLine
        Code.DRAM_OFFLINE .dram k 0xFF)
    else if 8 ≤ r.length then
      ((({ s2 with mem := { s2.mem with replays := mset s2.mem.replays k [] [], retrain := mset s2.mem.retrain k 1 0 } }).recErr
        .dram k Code.DRAM_CA_RETRAIN ridBlock 0).raise .dram k 11)
    else s2)

/-- CA_RETRAIN_DONE: the stall ends; replays from here on count toward taking the subchannel offline (R172). -/
def execCaRetrainDone (n : Fin 8) (s : State) : Out :=
  .next (if mget s.mem.retrain n.val 0 ≠ 0 then
      { s with mem := { s.mem with
          retrain := mset s.mem.retrain n.val 0 0
          retrained := mset s.mem.retrained n.val (s.now + 1) 0
          after := mset s.mem.after n.val 0 0 } }
    else s)

/-! ### Sparing commands -/

/-- A write of SPARE_CMD with start: turned away with an error response, or the trigger of R174 (R174, R177, R449). -/
def State.spareStart (s : State) (w : Who) (n rank : Nat) : State :=
  let t := s.spareTrigger n rank 0 w.rid
  if (s.spareBad n).isSome then t.errResp else t

/-- SPARE_START (R174). -/
def execSpareStart (w : Who) (n : Fin 8) (rank : Fin 4) (s : State) : Out :=
  .next (s.onWrite w .dram n.val 0x114 (0x100 + rank.val) (fun t => t.spareStart w n.val rank.val))

/-- SPARE_CANCEL: a write of SPARE_CMD with cancel abandons a copy that has not switched (R177). -/
def State.spareCancel (s : State) (n : Nat) : State := if s.copying n then s.spareDrop n else s

/-- SPARE_CANCEL (R177). -/
def execSpareCancel (w : Who) (n : Fin 8) (s : State) : Out :=
  .next (s.onWrite w .dram n.val 0x114 0x200 (fun t => t.spareCancel n.val))

/-- The poisoned lines of the logical rank a copy on subchannel n copies (R177). -/
def State.copyPoison (s : State) (n : Nat) : List Nat :=
  (s.mem.poison.map (·.1)).filter (fun l => decide (subchannel (l * 64) = n ∧ s.logicalRank (l * 64) = s.rd DRAM.SPARE_STAT.rank n))

/-- SPARE_COPY_DONE: the pointer has passed the last line. The lines found uncorrectable, and those poisoned before, are poisoned on the spare, counted
and recorded; the copy waits for the next refresh (R175, R177). -/
def execSpareCopyDone (n : Fin 8) (bad : List Addr) (s : State) : Out :=
  let k := n.val
  .next (if s.rd DRAM.SPARE_STAT.state k = 1 then
      let old := s.copyPoison k
      let new := (bad.map (fun a => a.toNat / 64)).filter (fun l => !old.contains l)
      let s1 := (old ++ new).foldl (fun t l =>
        (((t.poisonLine l).count .dram k 13).recErr .dram k Code.DRAM_UE ridBlock (l * 64)).raise .dram k 9) s
      ((s1.count .dram k 18 rankLines).wr DRAM.SPARE_STAT.done_64k 65535 k).wr DRAM.SPARE_STAT.state 2 k
    else s)

/-! ### Guarantees (R168, R169) -/

/-- The admitted reservations: ports of class S or D with a rate, and guests with ALLOC_BW; each with its class
(0 S, 1 D, 2 B), sequence and rate. -/
def State.reservations (s : State) : List (Nat × Nat × Nat × Nat) :=
  ((List.range 17).filterMap (fun p =>
    if s.portHeld p = 0 then none
    else some (p, s.rd DRAMQ.PORT_CFG.cls (b := p), s.rd DRAMQ.PORT_STAT.admit_seq (b := p), s.portHeld p))) ++
  ((List.range 64).filterMap (fun k =>
    if k = 0 ∨ s.instState k = 0 ∨ s.rd MGR.ALLOC_BW.rate (b := k) = 0 then none
    else some (instBucket k, 2, s.rd DRAMQ.RES_STAT.admit_seq (b := k), s.rd MGR.ALLOC_BW.rate (b := k))))

/-- Conforming demand of a reservation in the window, in bytes: its traffic, up to its rate over 100 µs (R168). -/
def State.windowDemand (s : State) (r : Nat × Nat × Nat × Nat) : Nat := min (mget s.mem.conf r.1 0) (r.2.2.2 * 10000)

/-- The reservation to break next: the lowest class from B upward, and within it the highest admission sequence; class S
is never broken (R168). -/
def nextBreak (l : List (Nat × Nat × Nat × Nat)) : Option (Nat × Nat × Nat × Nat) :=
  l.foldl (fun best r =>
    if r.2.1 = 0 then best
    else match best with
      | none => some r
      | some q => if q.2.1 < r.2.1 ∨ (q.2.1 = r.2.1 ∧ q.2.2.1 < r.2.2.1) then some r else best) none

/-- Break reservations until the remaining demand fits: the ones broken, in order. -/
def State.toBreak (s : State) (cap : Nat) : Nat → List (Nat × Nat × Nat × Nat) → List Nat
  | 0, _ => []
  | f + 1, l =>
    if (l.map s.windowDemand).sum ≤ cap then []
    else match nextBreak l with
      | none => []
      | some r => r.1 :: s.toBreak cap f (l.filter (fun q => decide (q.1 ≠ r.1)))

/-- The port that carried most of a guest's conforming traffic in the window. -/
def State.busiestPort (s : State) (k : Nat) : Nat :=
  (List.range 17).foldl (fun best p =>
    if mget s.mem.confPort (instBucket k * 32 + best) 0 < mget s.mem.confPort (instBucket k * 32 + p) 0 then p else best) 0

/-- Detail of a guarantee event: the port in bits 7:0 and the shortfall above it (R198, R217). -/
def guaranteeDetail (port short : Nat) : Nat := port % 256 + (short % 65536) * 65536

/-- Mark a reservation broken or whole in its status registers. -/
def State.markBroken (s : State) (r : Nat) (v : Bool) : State :=
  if r < 32 then
    (s.wrB DRAMQ.PORT_STAT.broken v (b := r)).wr DRAMQ.BROKEN.ports
      (if v then setBit (s.rd DRAMQ.BROKEN.ports) r else clrBit (s.rd DRAMQ.BROKEN.ports) r)
  else
    (s.wrB DRAMQ.RES_STAT.broken v (b := r - 32)).wr DRAMQ.BROKEN_INST.inst
      (if v then setBit (s.rd DRAMQ.BROKEN_INST.inst) (r - 32) else clrBit (s.rd DRAMQ.BROKEN_INST.inst) (r - 32))

/-- Break one reservation: its bit, the manager's event bit and the event record to its owner (R169). -/
def State.breakOne (s : State) (short r : Nat) : State :=
  let s1 := (s.markBroken r true).raise .dramq 0 8
  let s2 := { s1 with mem := { s1.mem with broken := s1.mem.broken ++ [r] } }
  if r < 32 then s2.event 0xFE .dramq 0 Code.GUARANTEE_BROKEN (guaranteeDetail r short)
  else s2.event (r - 32) .dramq 0 Code.GUARANTEE_BROKEN (guaranteeDetail (s.busiestPort (r - 32)) short)

/-- Restore one reservation (R169). -/
def State.restoreOne (s : State) (r : Nat) : State :=
  let s1 := (s.markBroken r false).raise .dramq 0 9
  if r < 32 then s1.event 0xFE .dramq 0 Code.GUARANTEE_RESTORED (guaranteeDetail r 0)
  else s1.event (r - 32) .dramq 0 Code.GUARANTEE_RESTORED (guaranteeDetail (s.busiestPort (r - 32)) 0)

/-- The end of a 100 µs window in which slots line slots were left: servable capacity against demand (R168, R169). -/
def State.qosWindow (s : State) (slots : Nat) : State :=
  let cap := slots * 64 * s.rd DRAMQ.ADMIT_EFF.eff / 256
  let all := s.reservations
  let live := all.filter (fun r => !s.mem.broken.contains r.1)
  let demand := (live.map s.windowDemand).sum
  let s1 :=
    if cap < demand then
      let short := (demand - cap + 9999) / 10000
      let brk := s.toBreak cap live.length live
      let t := brk.foldl (fun u r => u.breakOne short r)
        ({ s with mem := { s.mem with goodWin := 0 } })
      if brk.isEmpty then t else (t.wr DRAMQ.SHORTFALL.units short).count .dramq 0 34
    else if cap < (all.map s.windowDemand).sum then { s with mem := { s.mem with goodWin := 0 } }
    else if s.mem.broken.isEmpty then s
    else if s.mem.goodWin + 1 < 10 then { s with mem := { s.mem with goodWin := s.mem.goodWin + 1 } }
    else
      let t := s.mem.broken.reverse.foldl (fun u r => u.restoreOne r) s
      { t with mem := { t.mem with goodWin := 0, broken := [] } }
  { s1 with mem := { s1.mem with conf := [], confPort := [] } }

/-- QOS_WINDOW (R168). -/
def execQosWindow (slots : Nat) (s : State) : Out := .next (s.qosWindow slots)

/-- One access of the liveness test to a test row of a rank, which lies outside the physical addresses: charged to port 13 and counted (R178). -/
def State.testAccess (s : State) (n rank : Nat) (write : Bool) : State :=
  let s1 := (s.classify portSafe ridSafety write false).2
  let s2 := (((s1.count .dramq 0 portSafe 64).count .dram n (if write then 1 else 0)).count .dram n 16)
  (s2.issueCmd n 1 rank 0 []).issueCmd n (if write then 3 else 2) rank 0 []

/-- LIVENESS_TEST: each active rank of each subchannel is written and read back through port 13; a mismatch, or a latency above 20 µs, is a DRAM
fault for the safety island (R178). -/
def execLivenessTest (mismatch : Bool) (latencyNs : Nat) (s : State) : Out :=
  let ranks := if s.variant = .a32 then 1 else 3
  let s1 := (List.range (8 * ranks)).foldl (fun t k =>
    (t.testAccess (k / ranks) (t.physRank (k / ranks) (k % ranks)) true).testAccess (k / ranks) (t.physRank (k / ranks) (k % ranks)) false) s
  let bad := mismatch || decide (20000 < latencyNs)
  let s2 := { s1 with safe := { s1.safe with dramBad := bad } }
  .next (if bad then s2.faultLine Code.SAFE_DRAM_TEST .safe 0 0xFF else s2)

end Sys2Proof.Machine
end

