-- ==== Sys2Proof/Machine/Rails.lean ====
section
/-! DEFINITION. The AVSBus rails: voltage commands, their acknowledgement, and the frequencies that follow them (R94 to R98). -/

namespace Sys2Proof.Machine

/-- Voltage of a rail now: while it slews, 5 mV a microsecond from where the command found it (R94, R96). -/
def State.nowMv (s : State) (n : Nat) : Nat :=
  let tgt := s.rd PWR.RAIL_STAT.target_mv 0 n
  if !s.on PWR.RAIL_STAT.slewing 0 n then tgt
  else
    let from_ := mget s.pwr.slewMv n 0
    let d := (s.now - mget s.pwr.slewAt n 0) * 5 / 1000
    if from_ ≤ tgt then min tgt (from_ + d) else max tgt (from_ - d)

/-- Send a voltage command to a rail; a command still slewing is replaced, from the rail's present voltage (R96, R104). -/
def State.railTo (s : State) (n mv : Nat) : State :=
  let from_ := s.nowMv n
  let s1 := if s.on PWR.RAIL_STAT.slewing 0 n then s.count .pwr 0 (9 + n) else s
  let s2 := { s1 with pwr := { s1.pwr with slewMv := mset s1.pwr.slewMv n from_ 0, slewAt := mset s1.pwr.slewAt n s.now 0 } }
  (((s2.wr PWR.RAIL_STAT.target_mv mv 0 n).wr PWR.RAIL_STAT.cmd_seq (s2.rd PWR.RAIL_STAT.cmd_seq 0 n + 1) 0 n).wr
    PWR.RAIL_STAT.slewing 1 0 n).count .pwr 0 (5 + n)

/-- Operating point that RAIL_REQn selects: voltage and frequency (R95). -/
def State.oppMv (s : State) (n : Nat) : Nat :=
  s.rd (if n = 0 then PWR.OPP_CPU.mv else PWR.OPP_GPU.mv) 0 (s.rd PWR.RAIL_REQ.opp 0 n)
/-- Frequency of the operating point that RAIL_REQn selects (R95). -/
def State.oppMhz (s : State) (n : Nat) : Nat :=
  s.rd (if n = 0 then PWR.OPP_CPU.mhz else PWR.OPP_GPU.mhz) 0 (s.rd PWR.RAIL_REQ.opp 0 n)

/-- The PLLs whose frequency a rail's operating point sets (R95, R100). -/
def railPlls (n : Nat) : List Nat := if n = 0 then [8, 9, 10, 11] else [12]

/-- Frequency of the clocks of rail n now. -/
def State.railMhz (s : State) (n : Nat) : Nat := s.rd CLK.PLL_STAT.mhz 0 ((railPlls n).headD 8)

/-- Set the frequency of the clocks of rail n. -/
def State.railFreq (s : State) (n mhz : Nat) : State := (railPlls n).foldl (fun t k => t.wr CLK.PLL_STAT.mhz mhz 0 k) s

/-- A write of RAIL_REQn: a higher frequency is held until the voltage is acknowledged, a lower one comes first (R95, R97). -/
def State.railReq (s : State) (w : Who) (n v : Nat) : State :=
  s.onWrite w .pwr 0 (0x140 + 4 * n) v (fun t =>
    let u := t.storeWord .pwr 0 (0x140 + 4 * n) v
    if u.railMhz n < u.oppMhz n then (u.wr PWR.RAIL_STAT.freq_held 1 0 n).railTo n (u.oppMv n)
    else ((u.wr PWR.RAIL_STAT.freq_held 0 0 n).railFreq n (u.oppMhz n)).railTo n (u.oppMv n))

/-- RAIL_OPP_REQUEST (R97). -/
def execRailOppRequest (w : Who) (n : Fin 2) (v : Word) (s : State) : Out := .next (s.railReq w n.val v.toNat)

/-- Whether the last command to a rail awaits its acknowledgement: the model shows it as slewing until then (R96). -/
def State.railOut (s : State) (n : Nat) : Bool := s.on PWR.RAIL_STAT.slewing 0 n

/-- The regulator of a rail acknowledges the last command sent to it; a held frequency is released (R96, R97). -/
def State.railAck (s : State) (n : Nat) : State :=
  if !s.railOut n then s
  else
    let s1 := (s.wr PWR.RAIL_STAT.ack_seq (s.rd PWR.RAIL_STAT.cmd_seq 0 n) 0 n).wr PWR.RAIL_STAT.slewing 0 0 n
    let s2 := if s1.on PWR.RAIL_STAT.freq_held 0 n then (s1.wr PWR.RAIL_STAT.freq_held 0 0 n).railFreq n (s1.oppMhz n) else s1
    s2.raise .pwr 0 11

/-- RAIL_ACK (R96). -/
def execRailAck (n : Fin 4) (s : State) : Out := .next (s.railAck n.val)

/-- Run voltage of an AVSBus rail: its operating point, or the factory-trimmed voltage of VDD_SOC and VDD_BASIN within the ranges of R41 (R94). -/
def State.runMv (s : State) (n : Nat) : Nat :=
  if n < 2 then s.oppMv n else clamp 700 (if n = 2 then 850 else 800) (Config.railMv n).toNat

/-- Send the four rails to voltages. -/
def State.railsTo (s : State) (f : Nat → Nat) : State := (List.range 4).foldl (fun t n => t.railTo n (f n)) s

/-- The rails have reached what was commanded and their regulators have acknowledged it. -/
def State.railsReached (s : State) : State := (List.range 4).foldl State.railAck s

/-- Whether every AVSBus command is acknowledged (R90). -/
def State.railsAcked (s : State) : Bool :=
  (List.range 4).all (fun n => !s.railOut n)

/-- The OPP table a register offset belongs to: its fields, the entry and the highest voltage of the rail (R41, R95). -/
def oppAt (off : Nat) : Option (Fld × Fld × Nat × Nat) :=
  if 0x180 ≤ off ∧ off < 0x1A0 then some (PWR.OPP_CPU.mv, PWR.OPP_CPU.mhz, (off - 0x180) / 4, 950)
  else if 0x1A0 ≤ off ∧ off < 0x1C0 then some (PWR.OPP_GPU.mv, PWR.OPP_GPU.mhz, (off - 0x1A0) / 4, 900)
  else none

/-- The factory word of an OPP register: R95's, unless the factory bank's records gave another (R95). -/
def State.oppFactory (s : State) (off : Nat) : Nat :=
  match oppAt off with
  | none => 0
  | some (mv, mhz, k, _) => mget s.pwr.opp off (mv.rst.val s.variant 0 k 0 + mhz.rst.val s.variant 0 k 0 * 65536)

/-- Note the OPP registers as they stand as the factory's. -/
def State.oppNote (s : State) : State :=
  (List.range 16).foldl (fun t i =>
    let off := 0x180 + 4 * i
    match oppAt off with
    | none => t
    | some (mv, mhz, k, _) =>
      let v := t.rd mv 0 k + t.rd mhz 0 k * 65536
      { t with pwr := { t.pwr with opp := mset t.pwr.opp off v (mv.rst.val t.variant 0 k 0 + mhz.rst.val t.variant 0 k 0 * 65536) } }) s

/-- Whether a value is refused in an OPP register: outside the rail's range, below the factory voltage, or above the factory frequency of the
entry (R41, R95). -/
def State.oppBad (s : State) (off v : Nat) : Bool :=
  match oppAt off with
  | none => false
  | some (_, _, _, top) =>
    let f := s.oppFactory off
    decide (v % 1024 < 600 ∨ top < v % 1024 ∨ v % 1024 < f % 1024 ∨ bits f 16 12 < bits v 16 12)

end Sys2Proof.Machine
end

