-- ==== Sys2Proof/Machine/Wake.lean ====
section
/-! DEFINITION. Wake events: how an event of R89 ends or reverses a low-power entry, or starts the exit (R87 to R89). -/

namespace Sys2Proof.Machine

/-- Note a wake source in WAKE_CAUSE; the first to arrive since it was clear is named, before any other one latched since the commit point
(R104). -/
def State.wakeNote (s : State) (n : Nat) : State :=
  let c := s.rd PWR.WAKE_CAUSE.source
  let s1 := s.wr PWR.WAKE_CAUSE.source (setBit c n)
  if c = 0 then s1.wr PWR.WAKE_CAUSE.first (s.pwr.latched.headD n + 1) else s1

/-- Give PWR:STATE its three fields, from now on. -/
def State.pwrStep (s : State) (state target step : Nat) : State :=
  ((({ s with pwr := { s.pwr with stepAt := s.now } }).wr PWR.STATE.state state).wr PWR.STATE.target target).wr PWR.STATE.step step

/-- Heads the entry blanked go to fallback, from which the hand-over returns them (R87, R91). -/
def State.unblank (s : State) : State :=
  let m := s.pwr.blanked
  let old := s.rd SAFE.HEAD_SRC.dispen_off
  let s1 := (headsIn m).foldl (fun t h =>
    ((t.wr SAFE.HEAD_SRC.blank (clrBit (t.rd SAFE.HEAD_SRC.blank) h)).wr SAFE.HEAD_SRC.fallback (setBit (t.rd SAFE.HEAD_SRC.fallback) h)).wr
      SAFE.HEAD_SRC.bl_off (clrBit (t.rd SAFE.HEAD_SRC.bl_off) h)) s
  ({ s1 with pwr := { s1.pwr with blanked := 0 } }).headSrcNow old

/-- Harts leave WFI. -/
def State.unwait (s : State) : State :=
  { s with world := { s.world with harts := (s.world.harts.map (fun e => (e.1, { e.2 with wfi := false }))).filter (fun e => decide (e.2 ≠ {})) } }

/-- The entry is abandoned before its commit point (R87). -/
def State.entryAbandon (s : State) : State :=
  let s1 := ((((s.pwrStep 0 0 0).unblank).unwait.touchResume).startDeferred).hvSync
  let s2 := { s1 with pwr := { s1.pwr with swPause := false, commit := false } }
  ((s2.wr PWR.WAKE_CAUSE.aborted 1).count .pwr 0 3).raise .pwr 0 9

/-- The states a source wakes the device from: bit 2 Sleep, 3 Deep sleep, 4 Off (R89). -/
def wakesFrom (n : Nat) : Nat := [0x1C, 0x0C, 0x04, 0x1C, 0x04].getD n 0

/-- The exit begins: step 1 sends the regulators to their Run voltages; from Off the boot sequence runs instead. The safety firmware goes on from
retention after Deep sleep (R90, R91). -/
def State.exitBegin (s : State) : State :=
  let from_ := s.rd PWR.STATE.state
  let s1 := (((s.pwrStep 6 from_ (if from_ = 4 then 0 else 1)).wr PWR.EXIT_STAT.from_state from_).wr PWR.EXIT_STAT.osc_attempts 0).wr
    PWR.EXIT_STAT.failed_step 0
  if from_ = 4 then s1
  else (if from_ = 3 ∧ s.pwr.safeUp ∧ s.pwr.fw.isSome then
      { s1 with safe := { s1.safe with kicked := s.now, slLast := s.now } }.wr SAFE.ISL_STAT.fw_running 1
    else s1).railsTo s.runMv

/-- A wake event of source n, by the state the device is in (R87, R89, R91). Held in reset, the wake logic sees none (R38). -/
def State.wake (s : State) (n : Nat) : State :=
  let st := s.rd PWR.STATE.state
  if !s.pins.resetN || !(bit (s.rd PWR.WAKE_EN.enable) n || (n == 0 && decide (st = 4))) then s
  else if st ≤ 1 ∨ st = 6 then s.wakeNote n
  else if st = 5 then
    if s.pwr.commit then { s with pwr := { s.pwr with latched := if s.pwr.latched.contains n then s.pwr.latched else s.pwr.latched ++ [n] } }
    else (s.wakeNote n).entryAbandon
  else if bit (wakesFrom n) st then (s.wakeNote n).exitBegin
  else s

/-- WAKE_EVENT: a wake event of a source of R89. -/
def execWakeEvent (n : Fin 5) (s : State) : Out := .next (s.wake n.val)

/-- WAKE_PIN: WAKE has been high for 1 ms (R89). -/
def execWakePin (s : State) : Out := .next (s.wake 0)

/-- SAFETY_WAKE_REQUEST (R89). -/
def execSafetyWakeRequest (s : State) : Out := .next (s.wake 4)

/-- Whether DEVTIME has reached a non-zero ALARM. -/
def State.alarmDue (s : State) : Bool := s.rd PWR.ALARM.alarm != 0 && decide (s.rd PWR.ALARM.alarm ≤ s.now)

/-- DEVTIME_ALARM: DEVTIME reaches ALARM; in Run the match is an event of PWR (R89, R104). -/
def execDevtimeAlarm (s : State) : Out :=
  .next (if !s.alarmDue then s
    else if s.rd PWR.STATE.state ≤ 1 then (s.raise .pwr 0 14).wake 3
    else s.wake 3)

end Sys2Proof.Machine
end

