-- ==== Sys2Proof/Machine/Controls.lean ====
section
/-! DEFINITION. Encoders, discrete inputs, GPIO, I2C and UART controllers, and the owners of pins (R427 to R436). -/

namespace Sys2Proof.Machine

/-! ### Encoders (R427 to R430) -/

/-- Place of a filtered state in the order of states when A leads B: 00, 10, 11, 01 (R427). -/
def grayPos (a b : Bool) : Nat := if a then (if b then 2 else 1) else (if b then 3 else 0)

/-- Whether an encoder is sampled: not in Off, and in Sleep and Deep sleep only with keep (R430). -/
def State.encSampled (s : State) (e : Nat) : Bool :=
  let st := s.rd PWR.STATE.state
  if st = 4 then false else if st = 2 ∨ st = 3 then s.on ENC.ENC_CFG.keep 0 e else true

/-- An encoder wakes the device (R430). -/
def State.encWake (s : State) (e : Nat) : State :=
  let st := s.rd PWR.STATE.state
  if s.on ENC.ENC_CFG.keep 0 e && s.on ENC.ENC_CFG.wake 0 e && (st == 2 || st == 3) then
    ((s.wr ENC.ENC_WAKE.encoders (setBit (s.rd ENC.ENC_WAKE.encoders) e)).raise .enc 0 9).wake 1
  else s

/-- The filtered levels of an encoder become a and b (R427, R428). -/
def State.encMove (s : State) (e : Nat) (a b : Bool) : State :=
  let a0 := s.on ENC.ENC_STAT.a 0 e; let b0 := s.on ENC.ENC_STAT.b 0 e
  let s1 := (s.wrB ENC.ENC_STAT.a a 0 e).wrB ENC.ENC_STAT.b b 0 e
  if !s.on ENC.ENC_CFG.enable 0 e || (a == a0 && b == b0) then s1
  else if a != a0 && b != b0 then
    let s2 := ({ s1 with pwr := { s1.pwr with encAt := mset s1.pwr.encAt e s.now 0 } }).count .enc 0 e
    if s.on ENC.ENC_STAT.burst 0 e then s2
    else ((s2.wr ENC.ENC_STAT.burst 1 0 e).event (s.pinOwner (48 + e)) .enc 0 Code.ENC_ILLEGAL (evDetail e 0)).raise .enc 0 8
  else
    let up := (grayPos a0 b0 + 1) % 4 == grayPos a b
    let d := if up != s.on ENC.ENC_CFG.invert 0 e then 1 else 2 ^ 32 - 1
    (s1.wr ENC.ENC_POS.pos (s1.rd ENC.ENC_POS.pos 0 e + d) 0 e).encWake e

/-- ENC_TRANSITION: the filtered levels change in one sample (R427, R428). -/
def execEncTransition (e : Fin 16) (a b : Bool) (s : State) : Out :=
  .next (if s.encSampled e.val then s.encMove e.val a b else s)

/-- ENC_BURST_END: 10 ms without an illegal transition; sooner there is no end (R428). -/
def execEncBurstEnd (e : Fin 16) (s : State) : Out :=
  .next (if s.past (mget s.pwr.encAt e.val 0) (ms 10) then s.wr ENC.ENC_STAT.burst 0 0 e.val else s)

/-- ENC_SET: the position takes the written value (R429). -/
def State.encSet (s : State) (w : Who) (e v : Nat) : State :=
  s.pinWrite w .enc (0x10C + 16 * e) v (fun t => t.wr ENC.ENC_POS.pos v 0 e)

/-- ENC_SET (R429). -/
def execEncSet (w : Who) (e : Fin 16) (v : Word) (s : State) : Out := .next (s.encSet w e.val v.toNat)

/-! ### Discrete and GPIO inputs (R431) -/

/-- Whether the clocks of the MAIN bank's inputs run: the main domain is up, in a state other than Sleep, Deep sleep and Off (R34, R66). -/
def State.mainSampled (s : State) : Bool :=
  let st := s.rd PWR.STATE.state
  s.pwr.mainUp && !(st == 2 || st == 3 || st == 4)

/-- The edge bit of a pin is set: its owner is interrupted if due, and the page notes it (R431, R436). -/
def State.pinEdge (s : State) (f : Fld) (j pin : Nat) : State :=
  ((s.wr f 1 0 j).irqEdge s (s.pinOwner pin)).raise .gpio 0 8

/-- DIN_CHANGE: the debounced state of DINk changes, after deb_ms samples at the new level, which no sooner than that long after its last change
can have been (R431). -/
def execDinChange (k : Fin 32) (level : Bool) (s : State) : Out :=
  let j := k.val
  let s1 := ({ s with ctl := { s.ctl with dinAt := mset s.ctl.dinAt j s.now 0 } }).wrB GPIO.DIN_CFG.state level 0 j
  .next (if s.on GPIO.DIN_CFG.state 0 j == level || !s.mainSampled || !s.past (mget s.ctl.dinAt j 0) (ms (s.rd GPIO.DIN_CFG.deb_ms 0 j)) then s
    else if s.on (if level then GPIO.DIN_CFG.rise_en else GPIO.DIN_CFG.fall_en) 0 j then
      (s1.count .gpio 0 0).pinEdge GPIO.DIN_CFG.edge j (64 + j)
    else s1)

/-- Function a pin has: values R432 does not list act as 0. -/
def State.gpioFunc (s : State) (i : Nat) : Nat :=
  let f := s.rd GPIO.GPIO_CFG.func 0 i
  if f = 1 ∨ f = 2 ∨ (8 ≤ f ∧ f < 20) then f else 0

/-- The level a GPIO pin has from outside: what GPIO_EDGE last drove onto it, else what its pull holds it at (R36, R432, R436). -/
def State.gpioOutside (s : State) (i : Nat) : Bool :=
  if bit s.pins.driven i then bit s.pins.gpio i
  else match s.rd GPIO.GPIO_CFG.pull 0 i with
    | 1 => false
    | 2 => true
    | _ => Config.floatingPin i

/-- The level read at a GPIO pin: a push-pull output reads what it drives, an open-drain output low what it pulls low (R432). -/
def State.gpioIn (s : State) (i : Nat) : Bool :=
  if s.gpioFunc i = 1 then s.on GPIO.GPIO_CFG.out 0 i
  else if s.gpioFunc i = 2 ∧ !s.on GPIO.GPIO_CFG.out 0 i then false
  else s.gpioOutside i

/-- GPIO_EDGE: the level driven onto a GPIO pin changes (R431). -/
def execGpioEdge (i : Fin 48) (level : Bool) (s : State) : Out :=
  let j := i.val
  let s1 := { s with pins := { s.pins with
    driven := setBit s.pins.driven j, gpio := if level then setBit s.pins.gpio j else clrBit s.pins.gpio j } }
  .next (if s.gpioOutside j == level then s1
    else if s.gpioFunc j = 0 ∧ s.mainSampled ∧ s.on (if level then GPIO.GPIO_CFG.rise_en else GPIO.GPIO_CFG.fall_en) 0 j then
      s1.pinEdge GPIO.GPIO_CFG.edge j j
    else s1)

/-! ### Pin functions and owners (R432, R434) -/

/-- The other function of a controller. -/
def partnerFunc (f : Nat) : Nat := if f % 2 = 0 then f + 1 else f - 1

/-- Whether giving pin i a function would give it to a second pin, or give a controller's two pins different owners (R432). -/
def State.pinConflict (s : State) (i f : Nat) : Bool :=
  (ctlOf f).isSome && (List.range 48).any (fun j => decide (j ≠ i) &&
    (decide (s.rd GPIO.GPIO_CFG.func 0 j = f) ||
      (decide (s.rd GPIO.GPIO_CFG.func 0 j = partnerFunc f) && decide (s.pinOwner j ≠ s.pinOwner i))))

/-- A write of GPIO_CFGi (R432). -/
def State.gpioCfg (s : State) (w : Who) (i v : Nat) : State :=
  let off := 0x300 + 4 * i
  s.pinWrite w .gpio off v (fun t =>
    if t.pinConflict i (v % 32) then t.refuse .gpio 0 Code.PIN_CONFLICT w.rid off else t.storeWord .gpio 0 off v)

/-- GPIO_CFG_WRITE (R432). -/
def execGpioCfgWrite (w : Who) (i : Fin 48) (v : Word) (s : State) : Out := .next (s.gpioCfg w i.val v.toNat)

/-- Whether a value may be written to PIN_OWNER of a pin: a Sealed vale of the pin's holder, or 0xFE or 0xFF where no instance holds it
(R434). -/
def State.pinOwnerOk (s : State) (i o : Nat) : Bool :=
  let now := s.pinOwner i
  if 64 ≤ o ∧ o < 128 then
    s.rd WORLD.VALE_STAT.state (b := o - 64) == 2 && now == s.rd WORLD.VALE_STAT.parent (b := o - 64)
  else decide ((o = 0xFE ∨ o = 0xFF) ∧ 64 ≤ now)

/-- A write of PIN_OWNERi (R434). -/
def State.pinOwnerWrite (s : State) (w : Who) (i v : Nat) : State :=
  let off := 0x100 + 4 * i
  s.onWrite w .gpio 0 off v (fun t =>
    if t.pinOwnerOk i (v % 256) then t.pinChange i (v % 256) else t.refuse .gpio 0 Code.WORLD_OWNER w.rid off)

/-- PIN_OWNER_WRITE (R434). -/
def execPinOwnerWrite (w : Who) (i : Fin 96) (v : Word) (s : State) : Out := .next (s.pinOwnerWrite w i.val v.toNat)

/-! ### I2C (R433) -/

/-- A write of I2C_CTRLc; go starts a transfer of what the word says unless one is in progress, which goes on as it was started (R433, R436; log
199). -/
def State.i2cCtrl (s : State) (w : Who) (c v : Nat) : State :=
  s.pinWrite w .gpio (0x500 + 0x20 * c) v (fun t =>
    let u := t.storeWord .gpio 0 (0x500 + 0x20 * c) v
    if bit v 31 && !bit t.ctl.i2cBusy c then
      { u with ctl := { u.ctl with i2cBusy := setBit u.ctl.i2cBusy c, i2cWord := mset u.ctl.i2cWord c v 0 } }
    else u)

/-- What the transfer in progress puts on a controller's bus: the address, whether it reads, its length, and for a write the bytes from the data
registers (R433, R436). -/
def State.i2cSends (s : State) (c : Nat) : Option (Nat × Bool × Nat × List Nat) :=
  let word := mget s.ctl.i2cWord c 0
  let len := bits word 8 4 + 1
  let data := [s.rd GPIO.I2C_DATA0.data 0 c, s.rd GPIO.I2C_DATA1.data 0 c, s.rd GPIO.I2C_DATA2.data 0 c, s.rd GPIO.I2C_DATA3.data 0 c]
  if bit s.ctl.i2cBusy c then
    some (bits word 0 7, bit word 7, len,
      if bit word 7 then [] else (List.range len).map (fun k => bits (data.getD (k / 4) 0) (8 * (k % 4)) 8))
  else none

/-- Speed of the transfer in progress in kHz: 3 acts as 2 (R436). -/
def State.i2cKhz (s : State) (c : Nat) : Nat :=
  match bits (mget s.ctl.i2cWord c 0) 12 2 with
  | 0 => 100
  | 1 => 400
  | _ => 1000

/-- I2C_GO (R433). -/
def execI2cGo (w : Who) (c : Fin 4) (v : Word) (s : State) : Out := .next (s.i2cCtrl w c.val (v.toNat ||| 2 ^ 31))

/-- A 32-bit word of bytes, byte 0 lowest; missing bytes keep those of the old word. -/
def overWord (old : Nat) (d : List Byte) : Nat :=
  ((List.range 4).map (fun k => (match d[k]? with | some x => x.toNat | none => bits old (8 * k) 8) * 256 ^ k)).foldl (· + ·) 0

/-- The bytes a read transfer received go to the data registers. -/
def State.i2cData (s : State) (c : Nat) (d : List Byte) : State :=
  (((s.wr GPIO.I2C_DATA0.data (overWord (s.rd GPIO.I2C_DATA0.data 0 c) d) 0 c).wr
    GPIO.I2C_DATA1.data (overWord (s.rd GPIO.I2C_DATA1.data 0 c) (d.drop 4)) 0 c).wr
    GPIO.I2C_DATA2.data (overWord (s.rd GPIO.I2C_DATA2.data 0 c) (d.drop 8)) 0 c).wr
    GPIO.I2C_DATA3.data (overWord (s.rd GPIO.I2C_DATA3.data 0 c) (d.drop 12)) 0 c

/-- The end of an I2C transfer: result 0 done, 1 NACK, 2 timeout; bytes transferred before an error (R433). -/
def State.i2cDone (s : State) (c result count : Nat) (d : List Byte) : State :=
  let word := mget s.ctl.i2cWord c 0
  let len := bits word 8 4 + 1
  let n := if result = 0 then len else min count len
  let s1 := if bit word 7 then s.i2cData c (d.take n) else s
  let s2 := { s1 with ctl := { s1.ctl with i2cBusy := clrBit s1.ctl.i2cBusy c } }
  let s3 := ((s2.wr GPIO.I2C_STAT.result result 0 c).wr GPIO.I2C_STAT.count n 0 c).count .gpio 0 1
  let s4 := if result = 0 then s3 else
    (s3.recErr .gpio 0 (if result = 1 then Code.I2C_NACK else Code.I2C_TIMEOUT) ridBlock (0x500 + 0x20 * c)).count .gpio 0 2
  s4.raise .gpio 0 9

/-- I2C_DONE (R433). -/
def execI2cDone (c : Fin 4) (result : Fin 3) (count : Fin 17) (d : List Byte) (s : State) : Out :=
  .next (if bit s.ctl.i2cBusy c.val then s.i2cDone c.val result.val count.val d else s)

/-! ### UART (R433, R436) -/

/-- Time of one UART frame in ns: start, 8 data, parity and stop bits at 12 MHz / div. -/
def State.uartFrame (s : State) (u : Nat) : Nat :=
  let p := s.rd GPIO.UART_CFG.parity 0 u
  let n := 10 + b2n (p == 1 || p == 2) + s.rd GPIO.UART_CFG.stop2 0 u
  n * max 1 (s.rd GPIO.UART_CFG.div 0 u) * 1000 / 12

/-- Bytes in a UART's transmit FIFO: those whose transmission has not begun. -/
def State.uartTx (s : State) (u : Nat) : List (Nat × Nat) := (mget s.ctl.uTx u []).filter (fun e => decide (s.now < e.1))

/-- A UART error: its bits are set and it is counted (R436). -/
def State.uartErr (s : State) (u b : Nat) : State :=
  ((s.wr GPIO.UART_STAT.errors (s.rd GPIO.UART_STAT.errors 0 u ||| b) 0 u).count .gpio 0 3).raise .gpio 0 11

/-- A write of UART_TXu: the byte is queued, or dropped as an overrun of a full FIFO (R436). -/
def State.uartWrite (s : State) (w : Who) (u v : Nat) : State :=
  s.pinWrite w .gpio (0x584 + 0x20 * u) v (fun t =>
    let q := t.uartTx u
    if q.length < 64 then
      let start := max t.now (mget t.ctl.uFree u 0)
      { t with ctl := { t.ctl with
          uTx := mset t.ctl.uTx u (q ++ [(start, v % 256)]) []
          uFree := mset t.ctl.uFree u (start + t.uartFrame u) 0 } }
    else t.uartErr u 4)

/-- UART_TX_WRITE (R436). -/
def execUartTxWrite (w : Who) (u : Fin 2) (v : Word) (s : State) : Out := .next (s.uartWrite w u.val v.toNat)

/-- The level a UART sends at one bit of a frame: start bit, data lowest first, parity, stop bits (R433). -/
def State.uartBit (s : State) (u d k : Nat) : Bool :=
  let p := s.rd GPIO.UART_CFG.parity 0 u
  let odd := ((List.range 8).filter (bit d)).length % 2 == 1
  if k = 0 then false else if k ≤ 8 then bit d (k - 1)
  else if k = 9 ∧ (p = 1 ∨ p = 2) then (if p = 1 then odd else !odd)
  else true

/-- Whether a UART's RX function is on a pin (R432). -/
def State.uartRxPin (s : State) (u : Nat) : Bool := (List.range 48).any (fun i => decide (s.rd GPIO.GPIO_CFG.func 0 i = 17 + 2 * u))

/-- UART_RX_BYTE: on a UART that has its RX pin, a frame is received, with its parity error (when parity is on) and framing error; a byte that finds the FIFO full is lost
(R433). -/
def execUartRxByte (u : Fin 2) (d : Byte) (frameErr parityErr : Bool) (s : State) : Out :=
  let n := u.val
  let q := mget s.ctl.uRx n []
  let p := s.rd GPIO.UART_CFG.parity 0 n
  let e := b2n frameErr + (if parityErr && (p == 1 || p == 2) then 2 else 0) + (if 64 ≤ q.length then 4 else 0)
  let s1 := if e = 0 then s else (s.uartErr n e).recErr .gpio 0 Code.UART_ERROR ridBlock (0x58C + 0x20 * n)
  .next (if !s.uartRxPin n then s
    else if q.length < 64 then
      ({ s1 with ctl := { s1.ctl with uRx := mset s1.ctl.uRx n (q ++ [d.toNat]) [] } }).raise .gpio 0 10
    else s1)

/-- Read UART_RXu: the oldest byte with valid, which leaves the FIFO (R436). -/
def State.uartRead (s : State) (u : Nat) : State :=
  match mget s.ctl.uRx u [] with
  | [] => s.okResp 0
  | d :: q => ({ s with ctl := { s.ctl with uRx := mset s.ctl.uRx u q [] } }).okResp (d + 256)

/-- UART_RX_READ (R436). -/
def execUartRxRead (w : Who) (u : Fin 2) (s : State) : Out :=
  let off := 0x588 + 0x20 * u.val
  .next ((s.reach w .gpio 0 off false).andThen (fun t =>
    if t.pinReach w .gpio off then t.uartRead u.val else t.refuse .gpio 0 Code.REG_PERM w.rid off))

end Sys2Proof.Machine
end

