-- ==== Sys2Proof/Machine/Pairs.lean ====
section
/-! DEFINITION. 64-bit values in two registers: the read latch and the write stage each initiator has on each page (R53). -/

namespace Sys2Proof.Machine

/-- Number of an initiator among those that reach register pages: instances by number, then the manager, the safety island, the boot records and
the recovery host. -/
def Who.initiator : Who → Nat
  | .inst k _ => k.val
  | .mgr => 64
  | .saf => 65
  | .boot => 66
  | .host => 67

/-- Key of an initiator's latch or stage on a page. -/
def Who.slot (w : Who) (b : Blk) (i : Nat) : Nat := b.page i * 512 + w.initiator

/-- Name of the value whose LO register is at an offset: each bank of a banked register is another value (R53, DEDUCED: log 167). -/
def State.pairName (s : State) (b : Blk) (i off : Nat) : Nat := s.bankAt b i off * 4096 + off

/-- Latch the upper half of the value whose LO register is at an offset; 0 is an empty latch (R53). -/
def State.latchHi (s : State) (w : Who) (b : Blk) (i off hi : Nat) : State :=
  { s with latch := mset s.latch (w.slot b i) (1 + s.pairName b i off * 2 ^ 32 + hi % 2 ^ 32) 0 }

/-- The latched upper half of the value whose LO register is at an offset, if the latch holds it. -/
def State.latchedHi (s : State) (w : Who) (b : Blk) (i off : Nat) : Option Nat :=
  let x := mget s.latch (w.slot b i) 0
  if x ≠ 0 ∧ (x - 1) / 2 ^ 32 = s.pairName b i off then some ((x - 1) % 2 ^ 32) else none

/-- The latch is released. -/
def State.unlatch (s : State) (w : Who) (b : Blk) (i : Nat) : State := { s with latch := mset s.latch (w.slot b i) 0 0 }

/-- Stage the lower half (R53). -/
def State.stageLo (s : State) (w : Who) (b : Blk) (i lo : Nat) : State :=
  { s with stage := mset s.stage (w.slot b i) (1 + lo % 2 ^ 32) 0 }

/-- The lower half a write of HI takes: the staged one, else the present one (R53). -/
def State.loOf (s : State) (w : Who) (b : Blk) (i now : Nat) : Nat :=
  let x := mget s.stage (w.slot b i) 0
  if x = 0 then now % 2 ^ 32 else x - 1

/-- A write of HI empties the stage. -/
def State.unstage (s : State) (w : Who) (b : Blk) (i : Nat) : State := { s with stage := mset s.stage (w.slot b i) 0 0 }

/-- The register at an offset as a read of it returns it, stored fields alone. -/
def State.wordNow (s : State) (b : Blk) (i off : Nat) : Nat :=
  (partsAt b i off).foldl (fun n p => n ||| s.partNow p i (s.bankAt b i off)) 0

/-- A write of the HI half at an offset, checked as one write of both halves; the continuation gets the lower half (R53, R450). A write these
checks refuse leaves the stage, and one the continuation refuses has emptied it: DESIGN CHOICE, log 168. -/
def State.pairWrite (s : State) (w : Who) (b : Blk) (i off hi : Nat) (k : State → Nat → State) : State :=
  let lo := s.loOf w b i (s.wordNow b i (off - 4))
  match s.checkWrite w b i off hi with
  | .bad t => t
  | .good t =>
    match s.wordBad w b i (off - 4) lo with
    | some c => s.refuse b i c w.rid off
    | none =>
      let u := if lo &&& (2 ^ 32 - 1 - definedBits b i (off - 4)) ≠ 0 then t.recErr b i Code.REG_RESERVED w.rid (off - 4) else t
      k (u.unstage w b i) lo

end Sys2Proof.Machine
end

