-- ==== Sys2Proof/Machine/Time.lean ====
section
/-! DEFINITION. The time base: the published offset and its master, epochs, and the counter snapshot strobe (R439 to R446). -/

namespace Sys2Proof.Machine

/-- The published offset at DEVTIME t (R439). -/
def State.timeOffset (s : State) (t : Nat) : Int :=
  let base : Int := s.rd TIME.OFS_BASE.base
  let d : Int := ((min t (s.rd TIME.SLEW_END.end_) : Nat) : Int) - base
  toSigned 64 (s.rd TIME.OFS.ofs) + (d * toSigned 16 (s.rd TIME.SLEW.ppm)).tdiv (1000000 : Int)

/-- MTIME at the present DEVTIME (R439). -/
def State.mtime (s : State) : Nat := ofSigned 64 ((s.now : Int) + s.timeOffset s.now)

/-- Publish an offset, a slew and its end from a DEVTIME on (R439). -/
def State.publish (s : State) (t : Nat) (ofs ppm : Int) (fin : Nat) : State :=
  ((((((s.wr TIME.OFS.ofs (ofSigned 64 ofs)).wr TIME.OFS_BASE.base t).wr TIME.SLEW.ppm (ofSigned 16 ppm)).wr
    TIME.SLEW_END.end_ fin).wr TIME.PUB_SEQ.seq (s.rd TIME.PUB_SEQ.seq + 1)).wrB TIME.TIME_STAT.slewing (ppm != 0))

/-- An event of TIME, delivered to its owner (R446). -/
def State.timeEvent (s : State) (code val evbit ctr : Nat) : State :=
  ((s.eventPage .time 0 code 0 val).count .time 0 ctr).raise .time 0 evbit

/-- The error of a sample, held in 32 bits. -/
def satErr (e : Int) : Nat := ofSigned 32 (if e > 2147483647 then 2147483647 else if e < -2147483648 then -2147483648 else e)

/-- A sample of the master at the present DEVTIME: master time m (R441). -/
def State.timeSample (s : State) (m : Nat) : State :=
  let t := s.now
  let ofs := s.timeOffset t
  let tgt : Int := (m : Int) - t
  let e := tgt - ofs
  let s1 := (((s.wr TIME.TIME_STAT.lost 0).wr TIME.LAST_ERR.ns (satErr e)).count .time 0 0).raise .time 0 8
  if !s.on TIME.TIME_STAT.valid then ((s1.publish t tgt 0 t).wr TIME.TIME_STAT.valid 1).timeEvent Code.TIME_STEP 0 9 2
  else if -1000000 < e ∧ e < 1000000 then
    let s2 := s1.publish t ofs (if e > 0 then 500 else if e < 0 then -500 else 0) (t + 2000 * e.natAbs)
    if e = 0 then s2 else s2.count .time 0 1
  else if 0 < e then (s1.publish t tgt 0 t).timeEvent Code.TIME_STEP 0 9 2
  else
    let ep := (s.rd TIME.EPOCH.epoch + 1) % 65536
    (((s1.publish t tgt 0 t).wr TIME.EPOCH.epoch ep).wr TIME.EPOCH_START.start t).timeEvent Code.TIME_EPOCH ep 10 3

/-- The master is lost, once: any slew ends at its present offset (R442). -/
def State.masterLost (s : State) : State :=
  if s.rd TIME.TIME_STAT.master = 0 || s.on TIME.TIME_STAT.lost then s
  else ((s.publish s.now (s.timeOffset s.now) 0 s.now).wr TIME.TIME_STAT.lost 1).timeEvent Code.TIME_MASTER_LOST 0 11 4

/-- TIME_MASTER_LOST: no accepted PPS edge for 1,500 ms, PTM not enabled, or its link down; a PPS master is not lost sooner (R440, R442). -/
def execTimeMasterLost (s : State) : Out :=
  .next (if s.rd TIME.TIME_STAT.master = 2 ∧ !s.past (s.time.edge.getD s.time.since) (ms 1500) then s else s.masterLost)

/-- Whether the next PTM dialogue is due: ptm_ms after the last, values below 10 acting as 10 (R440, R446). -/
def State.ptmDue (s : State) : Bool :=
  match s.time.ptmAt with
  | some t => s.past t (ms (max 10 (s.rd TIME.MASTER_CFG.ptm_ms)))
  | none => true

/-- PTM_DIALOGUE: a dialogue, every ptm_ms, yields the master time at its response, or fails; three failures in a row lose the master (R440). -/
def execPtmDialogue (m : Option (BitVec 64)) (s : State) : Out :=
  .next (if s.rd TIME.TIME_STAT.master ≠ 1 ∨ !s.ptmDue then s else
    match m with
    | some t => ({ s with time := { s.time with fails := 0, ptmAt := some s.now } }).timeSample t.toNat
    | none =>
      let s1 := { s with time := { s.time with fails := s.time.fails + 1, ptmAt := some s.now } }
      if s1.time.fails < 3 then s1 else s1.masterLost)

/-- PPS_EDGE: an edge on pps_pin; one less than 900 ms after the last accepted edge is ignored and counted (R440). -/
def execPpsEdge (falling : Bool) (s : State) : Out :=
  .next (if s.rd TIME.TIME_STAT.master ≠ 2 ∨ falling ≠ s.on TIME.MASTER_CFG.pps_fall then s
    else if (match s.time.edge with | some t => decide (s.now < t + 900000000) | none => false) then s.count .time 0 5
    else
      let tod := s.rd TIME.TOD_NEXT.tod
      ({ (s.timeSample tod) with time := { s.time with edge := some s.now } }).wr TIME.TOD_NEXT.tod (tod + 1000000000))

/-- TIME_SLEW_END: DEVTIME has reached SLEW_END (R441). -/
def execTimeSlewEnd (s : State) : Out :=
  .next (if s.rd TIME.SLEW_END.end_ ≤ s.now then s.wr TIME.TIME_STAT.slewing 0 else s)

/-- A write of MASTER_CFG: src 2 needs an input pin of the manager (R440). -/
def State.masterCfg (s : State) (w : Who) (v : Nat) : State :=
  s.onWrite w .time 0 0x10C v (fun t =>
    let p := bits v 8 6
    if v % 4 = 2 ∧ !(decide (p < 48 ∧ t.gpioFunc p = 0 ∧ t.pinOwner p = 0xFE)) then t.refuse .time 0 Code.REG_PERM w.rid 0x10C
    else
      let u := (t.storeWord .time 0 0x10C v).wr TIME.TIME_STAT.master (if v % 4 = 3 then 0 else v % 4)
      if v % 4 = t.rd TIME.MASTER_CFG.src then u else { u with time := { u.time with fails := 0, edge := none, since := t.now, ptmAt := none } })

/-- A write of SNAP_AT_HI arms the strobe for the 64-bit value (R443). -/
def State.snapArm (s : State) (w : Who) (hi : Nat) : State :=
  s.pairWrite w .time 0 0x14C hi (fun t lo =>
    let at_ := hi * 2 ^ 32 + lo
    if at_ < t.now + 61036 then t.refuse .time 0 Code.SNAP_PAST w.rid 0x14C
    else (t.wr TIME.SNAP_AT.at_ at_).wr TIME.SNAP_CTRL.armed 1)

/-- SNAP_ARM (R443). -/
def execSnapArm (w : Who) (hi : Word) (s : State) : Out := .next (s.snapArm w hi.toNat)

/-- A write of SNAP_CTRL: the period, and cancel (R443). -/
def State.snapCtrl (s : State) (w : Who) (v : Nat) : State :=
  s.onWrite w .time 0 0x150 v (fun t =>
    let u := t.storeWord .time 0 0x150 v
    if bit v 1 then u.wr TIME.SNAP_CTRL.armed 0 else u)

/-- SNAP_CANCEL (R443). -/
def execSnapCancel (w : Who) (v : Word) (s : State) : Out := .next (s.snapCtrl w (v.toNat ||| 2))

end Sys2Proof.Machine
end

