-- ==== Sys2Proof/Machine/Domains.lean ====
section
/-! DEFINITION. The four reset domains and what resets them: RESET_N, VIN, brown-out, watchdogs and the reset commands (R33, R38, R66 to R70, R80,
R313). -/

namespace Sys2Proof.Machine

/-- Set RST_CAUSE of one domain (R70). -/
def State.setCause (s : State) (f : Fld) (c : Nat) : State := s.wr f c

/-- The state of the main domain is lost: its pages, queues, engines and memories. Encoders, which stay powered, return to the manager cleared
(R66 to R68, R146). -/
def State.clearMain (s : State) : State :=
  let s1 := [(0x00, 0x04), (0x06, 0x07), (0x08, 0x40), (0x48, 0x50), (0x58, 0xA0), (0xA1, 0xF0)].foldl
    (fun (t : State) (r : Nat × Nat) => t.resetPages r.1 r.2) ((List.range 16).foldl (fun t e => t.pinChange (48 + e) 0xFE) s)
  ({ s1 with
    dram := [], basin := [], pot := {}, inst := {}, events := [], evSeq := [], mem := {}, rings := {}, world := {}, gfx := {}, comp := {}
    caps := [], surf := [], hapt := {}, touch := [], audio := {}, ctl := {}
    parts := s1.parts.filter (fun e => decide (e.1 = Blk.lantern.page 0 ∨ e.1 = Blk.mirror.page 0))
    heads := (s1.heads.map (fun e => (e.1, { e.2 with glint := {}, zero := [], due := none }))).filter (fun e => decide (e.2 ≠ {}))
    pwr := { s1.pwr with
      mainUp := false, cold := false, entry := none, priv := true, commit := false, blanked := 0, swPause := false, touch := [] } } : State).ampPins

/-- The PLLs of enabled heads show in CLK as the heads have them. -/
def State.headPlls (s : State) : State :=
  (List.range 8).foldl (fun (t : State) h =>
    if t.headOff h then t
    else
      ((t.wr CLK.PLL_STAT.lock (t.rd HEAD.HEAD_STAT.pll_lock h) 0 h).wr CLK.PLL_STAT.enabled 1 0 h).wr CLK.PLL_STAT.mhz
        (if t.running h then pclkNum (t.hv h) / pclkDen (t.hv h) / 1000000 else 0) 0 h) s

/-- Staged HEAD sets of a commit group become ordinary commits when BASIN resets (R291). -/
def State.ungroup (s : State) : State := (List.range 8).foldl (fun t h => t.wr (HDR.group .head) 0 h) s

/-- A commit group loses the members that have not applied: it is aborted (R291). -/
def State.groupAbort (s : State) : State :=
  let s1 := (List.range 8).foldl (fun t h => (t.wr (HDR.group .glint) 0 h)) s
  let s2 := (List.range 4).foldl (fun t n => t.wr (HDR.group .comp) 0 n) s1
  if s.on BASIN.GRP_STAT.busy then (((s2.wr BASIN.GRP_STAT.aborted 1).wr BASIN.GRP_STAT.busy 0).count .basin 0 3).raise .basin 0 8 else s2

/-- A reset of the display domain: HEAD and LINK pages at reset values, links Off, t_cycle_ms counted from here (R66, R67, R287, R344). -/
def State.displayReset (s : State) (cause : Nat) : State :=
  let s1 := ((s.groupAbort.resetPages 0x40 0x48).resetPages 0x50 0x58).setCause BOOT.RST_CAUSE.display_cause cause
  { s1 with
    heads := (s1.heads.map (fun e => (e.1, { glint := e.2.glint }))).filter (fun e => decide (e.2 ≠ ({} : HeadSt)))
    links := (List.range 8).foldl (fun m n => mset m n { fell := s.now } {}) []
    pins := { s1.pins with dispen := 0, blpwm := 0 }
    pwr := { s1.pwr with dispUp := false } }

/-- A reset of the main domain. Every enabled head goes to fallback, and its PLL and pixel clock run on; for the causes of R223 the FAULT outputs show fault and that is logged, a
rail fault on its own line (R15, R66, R219, R223). On the way back from Deep sleep the display pages are lost too (R91); out of a low-power state
the reference starts for the boot (R90). -/
def State.mainReset (s0 : State) (cause : Nat) : State :=
  let s := if s0.rd PWR.STATE.state = 6 ∧ s0.rd PWR.STATE.target = 3 then s0.displayReset (s0.rd BOOT.RST_CAUSE.display_cause) else s0
  let run := (List.range 8).filter (fun h => !s.headOff h)
  let asleep := decide (2 ≤ s0.rd PWR.STATE.state)
  let told := cause = 6 ∨ cause = 9
  let held := told ∨ cause = 8
  let s1 := (((s.clearMain.headPlls).ungroup).setCause BOOT.RST_CAUSE.main_cause cause).pwrStep 0 0 0
  let s2 := { s1 with pwr := { s1.pwr with osc := s1.pwr.osc || asleep } }.wr SAFE.HEAD_SRC.fallback ((run.map (fun h => 2 ^ h)).foldl (· ||| ·) (s1.rd SAFE.HEAD_SRC.fallback))
  let s3 := if held then (run.foldl (fun t h => t.setShead h { t.shead h with fault := true, since := t.now, said := if told then 1 else 0 }) s2).faultAssert else s2
  let s4 := if told then s3.logEntry s3.now Code.SAFE_ENTER (Blk.typeCode .safe * 256) ((run.map (fun h => 2 ^ h)).sum) 3 else s3
  s4

/-- Bytes of flash from an address on become undefined (R81). -/
def State.flashOpen (s : State) (a n : Nat) : State :=
  { s with
    flash := (List.range n).foldl (fun m k => mset m (a + k) (BitVec.ofNat 8 (Config.freeValue (s.free + k)).toNat) 0xFF) s.flash
    free := s.free + n }

/-- Bytes an FL operation affects (R80). -/
def flRange (op addr : Nat) : Nat × Nat := if op = 3 then (addr, 65536) else if op = 2 then (addr, 256) else (0, 0)

/-- A running FL operation is cut: the range it affects is undefined (R81). busy clears and fl_done is not set: DESIGN CHOICE, log 173. -/
def State.flCut (s : State) : State :=
  let r := flRange s.pwr.flOp s.pwr.flAddr
  let s1 := s.flashOpen r.1 r.2
  ({ s1 with pwr := { s1.pwr with flOp := 0 } }).wr BOOT.FL_OP.busy 0

/-- A reset of the safety domain: its pages, Lantern SRAM, the log in SRAM and the alarm; the SAFE bank goes to high impedance and the carrier's
resistors show fault, its pull-downs the displays off. A running head's source, which is selected in the head, changes at its next frame start (R9,
R36, R66, R69, R219, R312, R314). -/
def State.safetyReset (s : State) (cause : Nat) : State :=
  let s0 := (s.flCut.resetPages 0xF0 0xF3).setCause BOOT.RST_CAUSE.safety_cause cause
  let s1 := (List.range 8).foldl (fun t h => if s.running h then t.wr SAFE.HB_STAT.source (s.rd SAFE.HB_STAT.source 0 h) 0 h else t) s0
  (({ s1 with
    safe := { aonLog := s1.safe.aonLog, nextSeq := s1.safe.nextSeq }
    alarm := {}
    faults := []
    parts := s1.parts.filter (fun e => !decide (e.1 = Blk.lantern.page 0 ∨ e.1 = Blk.mirror.page 0))
    pins := { s1.pins with faultA := false, faultB := true, safeHiZ := true, dispen := 0, blpwm := 0 }
    pwr := { s1.pwr with safeUp := false } } : State).ampPins).hvSync

/-- A reset from an always-on source: all four domains, DEVTIME from 0; the brown-out flag survives (R66, R69, R70). -/
def State.aonReset (s : State) (cause rails : Nat) : State :=
  let s1 := ((s.mainReset cause).displayReset cause).safetyReset cause
  let s2 := [(0x04, 0x06), (0x07, 0x08), (0xA0, 0xA1)].foldl (fun (t : State) (r : Nat × Nat) => t.resetPages r.1 r.2) s1
  (((({ s2 with
    time := {}
    links := []
    pwr := { xtal := s2.pwr.xtal, vin := s2.pwr.vin, rails := rails }
    pins := { s2.pins with pwrGood := false } }).setCause BOOT.RST_CAUSE.main_cause cause).setCause
      BOOT.RST_CAUSE.safety_cause cause).setCause BOOT.RST_CAUSE.display_cause cause).wr BOOT.RST_CAUSE.brownout (s.rd BOOT.RST_CAUSE.brownout)

/-- VIN_POWER_ON: VIN rises through 10.5 V; nothing of what the module held survives but OTP, flash and the levels outside it (R33, R39, R66). -/
def execVinPowerOn (s : State) : Out :=
  .next { State.reset with
    variant := s.variant, pending := s.pending, sent := s.sent, free := s.free, flash := (s.flCut).flash, otp := s.otp
    pins := { gpio := s.pins.gpio, driven := s.pins.driven, present := s.pins.present, resetN := s.pins.resetN } }

/-- RESET_N has a level: low resets the whole module (R38). -/
def State.resetPin (s : State) (high : Bool) : State :=
  let s1 := s.aonReset 2 (min s.pwr.rails 1)
  { s1 with pins := { s1.pins with resetN := high } }

/-- RESET_N_ASSERT: the whole module is held in reset (R38). -/
def execResetNAssert (s : State) : Out := .next (s.resetPin false)

/-- RESET_N_RELEASE: the sequence of R39 goes on from the safety rail. Held in reset until now, the module keeps nothing of what reached it while
RESET_N was low (R38). -/
def execResetNRelease (s : State) : Out := .next (if s.pins.resetN then s else s.resetPin true)

/-- AON_BROWNOUT: the flag on the LDO's input side survives, and shows in RST_CAUSE (R70, R93). -/
def execAonBrownout (s : State) : Out := .next ((s.aonReset 5 0).wr BOOT.RST_CAUSE.brownout 1)

/-- The module shuts down: FAULT, PWR_GOOD, high voltage, then the main rails (R33). -/
def State.shutDown (s : State) (cause vin rails : Nat) : State :=
  let s1 := if s.on SAFE.ISL_STAT.fw_running then s.faultAssert else s
  let s2 := (s1.mainReset cause).displayReset cause
  { s2 with pins := { s2.pins with pwrGood := false }, pwr := { s2.pwr with vin := vin, rails := min s2.pwr.rails rails } }

/-- VIN_UNDERVOLTAGE: VIN falls below 10.0 V (R33). -/
def execVinUndervoltage (s : State) : Out := .next (s.shutDown 3 1 2)

/-- VIN_OVERVOLTAGE: VIN has been above 14.0 V for 100 µs; the safety rail goes off too (R33). -/
def execVinOvervoltage (s : State) : Out := .next ((s.shutDown 4 2 1).safetyReset 4)

/-- VIN_RECOVER: VIN is within its thresholds again and the rails may start (R33). -/
def execVinRecover (s : State) : Out := .next { s with pwr := { s.pwr with vin := 0 } }

/-- RAIL_START_TIMEOUT and the other rail faults: recorded by rail number, told on the fault line; the main domain resets, and for VDD_SOC and
VDD_PHY the display domain with every head dark (R15, R98, R223). -/
def State.railFault (s : State) (rail : Nat) : State :=
  let s1 := (s.recErr .pwr 0 Code.PWR_RAIL_ACK ridBlock rail).raise .pwr 0 12
  let run := ((List.range 8).filter (fun h => !s.headOff h)).foldl (fun m h => setBit m h) 0
  let s2 := s1.faultLine Code.PWR_RAIL_ACK .pwr 0 run
  if rail = 2 ∨ rail = 4 then
    let s3 := (s2.wr SAFE.HEAD_SRC.blank 0xFF).wr SAFE.HEAD_SRC.dispen_off 0xFF
    (s3.mainReset 8).displayReset 8
  else s2.mainReset 8

/-- Number R98 gives the rail that starts after n rails are good; the always-on and safety rails have none. -/
def railNumber (n : Nat) : Option Nat := [none, none, some 2, some 0, some 1, some 3, some 4, some 5, some 6, some 7, some 8].getD n none

/-- RAIL_START_TIMEOUT: a main rail is not good within its time (R39, R98). -/
def execRailStartTimeout (s : State) : Out :=
  .next (match railNumber s.pwr.rails with
    | some r => if s.pins.resetN ∧ s.pwr.vin = 0 then s.railFault r else s
    | none => s)

/-! ### Reset commands (R80, R81) -/

/-- A write of RST_CTRL: the key, then the domains to reset. -/
def State.rstCtrl (s : State) (w : Who) (v : Nat) : State :=
  s.onWrite w .boot 0 0x114 v (fun t =>
    if v / 65536 % 65536 ≠ 0x5253 then t.refuse .boot 0 Code.BOOT_RST_KEY w.rid 0x114
    else
      let t1 := if bit v 0 then t.mainReset 7 else t
      if bit v 1 then t1.displayReset 0xC else t1)

/-- MAIN_RESET_CMD (R80). -/
def execMainResetCmd (w : Who) (key : BitVec 16) (s : State) : Out := .next (s.rstCtrl w (key.toNat * 65536 + 1))

/-- DISPLAY_RESET_CMD (R80). -/
def execDisplayResetCmd (w : Who) (key : BitVec 16) (s : State) : Out := .next (s.rstCtrl w (key.toNat * 65536 + 2))

/-! ### The safety island's own faults (R216, R223, R313) -/

/-- LOCKSTEP_MISMATCH: logged, and the safety domain resets (R223, R313). -/
def execLockstepMismatch (s : State) : Out :=
  .next ((s.logEntry s.now Code.SAFE_LOCKSTEP (Blk.typeCode .safe * 256) 0 0x21).safetyReset 0xB)

/-- SAFETY_WDT_EXPIRY: the safety watchdog was not kicked within SWD_CFG.timeout_ms, while the firmware runs (R312, R313, R335). -/
def execSafetyWdtExpiry (s : State) : Out :=
  .next (if !s.on SAFE.ISL_STAT.fw_running ∨ s.now < s.safe.kicked + clamp 1 1000 (s.rd SAFE.SWD_CFG.timeout_ms) * 1000000 then s
    else s.safetyReset 0xA)

/-- SAFETY_FAULT_LINE: the island takes the oldest signal on the fault line (R216, R221, R223). An uncorrectable error of its SRAM or of Lantern's
resets the safety domain, under a cause the spec does not give. -/
def execSafetyFaultLine (s : State) : Out :=
  .next (match s.faults with
    | [] => s
    | g :: rest =>
      let s1 := { s with faults := rest }
      if !s1.on SAFE.ISL_STAT.fw_running then s1
      else if g.code = Code.SAFE_SRAM_UE then
        let s2 := (s1.count .safe 0 2).logEntry g.time g.code (g.blk * 256 + g.idx) 0 0x21
        let (v, s3) := s2.draw
        s3.safetyReset (v % 16)
      else s1.react g)

end Sys2Proof.Machine
end

