-- ==== Sys2Proof/Machine/Flash.lean ====
section
/-! DEFINITION. Flash operations and the revocation of keys (R80, R81). -/

namespace Sys2Proof.Machine

/-- One byte of flash; erased flash reads 0xFF. -/
def State.flashAt (s : State) (a : Nat) : Byte := mget s.flash a 0xFF

/-- One byte of the factory bank; unprogrammed OTP reads 0 (R71). -/
def State.otpAt (s : State) (a : Nat) : Byte := mget s.otp a 0

/-- A little-endian word of the factory bank. -/
def State.otpWord (s : State) (a : Nat) : Nat := leVal ((List.range 4).map (fun k => s.otpAt (a + k)))

/-- Revoked key slots (R71). -/
def State.revoked (s : State) : Nat := (s.otpAt 0x3FFC).toNat % 16

/-- The copy an address of flash lies in (R72). -/
def copyOf (a : Nat) : Nat := a / 0x2000000

/-- Whether an operation would change the copy whose safety firmware runs (R80). -/
def State.flActive (s : State) (a : Nat) : Bool :=
  s.on SAFE.ISL_STAT.fw_running && (match s.pwr.fw with | some (c, _) => copyOf a == c | none => false)

/-- A write of FL_OP: operation 1 reads, 2 programs, 3 erases; 0 starts nothing (R80, R81). It takes FL_ADDR and the data of FL_BUF as they stand
at the write: DESIGN CHOICE, log 175. -/
def State.flOp (s : State) (w : Who) (v : Nat) : State :=
  s.onWrite w .boot 0 0x128 v (fun t =>
    let op := v % 4
    let a := t.rd BOOT.FL_ADDR.addr
    if op = 0 then t
    else if t.pwr.flOp ≠ 0 then t.refuse .boot 0 Code.BOOT_FL_BUSY w.rid 0x128
    else if (op = 2 ∧ a % 256 ≠ 0) ∨ (op = 3 ∧ a % 65536 ≠ 0) then t.refuse .boot 0 Code.BOOT_FL_ALIGN w.rid 0x128
    else if op ≠ 1 ∧ t.flActive a then t.refuse .boot 0 Code.BOOT_FL_ACTIVE w.rid 0x128
    else
      let d := ((List.range 64).map (fun j => leBytes 4 (t.rd BOOT.FL_BUF.word 0 j))).flatten
      ({ t with pwr := { t.pwr with flOp := op, flAddr := a, flData := if op = 2 then d else [] } }).wr BOOT.FL_OP.busy 1)

/-- FL_READ (R80). -/
def execFlRead (w : Who) (s : State) : Out := .next (s.flOp w 1)
/-- FL_PROGRAM (R80). -/
def execFlProgram (w : Who) (s : State) : Out := .next (s.flOp w 2)
/-- FL_ERASE (R80). -/
def execFlErase (w : Who) (s : State) : Out := .next (s.flOp w 3)

/-- Write the words of FL_BUF. -/
def State.flBuf (s : State) (d : List Byte) : State :=
  (List.range 64).foldl (fun t j => t.wr BOOT.FL_BUF.word (leVal ((d.drop (4 * j)).take 4)) 0 j) s

/-- A free value for each byte of a list. -/
def State.freeBytes (s : State) (n : Nat) : List Byte × State :=
  ((List.range n).map (fun k => BitVec.ofNat 8 (Config.freeValue (s.free + k)).toNat), { s with free := s.free + n })

/-- Program 256 bytes: an erased byte takes the value; one that held another value is not fixed by the spec (R80). -/
def State.flProgram (s : State) (a : Nat) (d : List Byte) : State :=
  (List.range 256).foldl (fun t k =>
    let old := t.flashAt (a + k)
    let new := d.getD k 0
    if old = 0xFF ∨ old = new then { t with flash := mset t.flash (a + k) new 0xFF } else t.flashOpen (a + k) 1) s

/-- The end of the FL operation: its effect, or BOOT_FL_DEVICE with the affected range undefined (R80, R81). -/
def State.flDone (s : State) (ok : Bool) : State :=
  if s.pwr.flOp = 0 then s
  else
    let op := s.pwr.flOp; let a := s.pwr.flAddr
    let beyond := a + 256 - 0x4000000
    let s1 :=
      if ok then
        if op = 1 then
          let (f, t) := s.freeBytes beyond
          t.flBuf ((List.range (256 - beyond)).map (fun k => s.flashAt (a + k)) ++ f)
        else if op = 2 then s.flProgram a s.pwr.flData
        else { s with flash := mdrop s.flash a (a + 65536) }
      else
        let t := (s.flashOpen (flRange op a).1 (flRange op a).2).recErr .boot 0 Code.BOOT_FL_DEVICE ridBlock a
        if op = 1 then
          let (f, u) := t.freeBytes 256
          u.flBuf f
        else t
    (({ s1 with pwr := { s1.pwr with flOp := 0, flAddr := 0, flData := [] } }).wr BOOT.FL_OP.busy 0).raise .boot 0 8

/-- FL_DONE (R80). -/
def execFlDone (ok : Bool) (s : State) : Out := .next (s.flDone ok)

/-- A write of KEY_REVOKE: the named slots are revoked for good, unless they name the slot in use (R80). -/
def State.keyRevoke (s : State) (w : Who) (v : Nat) : State :=
  s.onWrite w .boot 0 0x120 v (fun t =>
    if bit v (t.rd BOOT.BOOT_STAT.key_slot) then t.refuse .boot 0 Code.BOOT_KEY_IN_USE w.rid 0x120
    else { t with otp := mset t.otp 0x3FFC (t.otpAt 0x3FFC ||| BitVec.ofNat 8 (v % 16)) 0 })

/-- KEY_REVOKE (R80). -/
def execKeyRevoke (w : Who) (v : Word) (s : State) : Out := .next (s.keyRevoke w v.toNat)

end Sys2Proof.Machine
end

