-- ==== Sys2Proof/Machine/Gfx.lean ====
section
/-! DEFINITION. The raster graphics engine: contexts, credit, submissions, packets, preemption and context faults (R227
to R252). -/

namespace Sys2Proof.Machine

/-! ### Clusters and credit (R228, R231) -/

/-- The job running on front-end e. -/
def State.gfxCur (s : State) (e : Nat) : Option GfxRun := mget s.gfx.cur e none

/-- Clusters front-end e holds (R228). -/
def State.clusters (s : State) (e : Nat) : Nat :=
  match s.gfxCur e, s.gfxCur (1 - e) with
  | none, _ => 0
  | some _, none => 16
  | some r, some o => if r.comp then 16 else if o.comp then 0 else 8

/-- Share of an instance that exists; the manager's is MGR_ALLOC's (R231). -/
def State.gfxShare (s : State) (k : Nat) : Nat :=
  if k = 0 then s.rd GFX.MGR_ALLOC.share else if s.instState k = 0 then 0 else s.rd MGR.ALLOC_GPU.share (b := k)

/-- Credit of an instance now, in 1/16,000 cluster-µs: earned and charged since the last account, held within 10 ms of
earnings each way (R231). -/
def State.creditNow (s : State) (k : Nat) : Int :=
  let d := s.now - s.gfx.since
  let sh := s.gfxShare k
  let charge := ([0, 1].map (fun e => match s.gfxCur e with
    | some r => if ringInst r.job.ring = k then 16 * s.clusters e else 0
    | none => 0)).sum
  let lim : Int := sh * 10000000
  max (-lim) (min lim (mget s.gfx.credit k 0 + sh * d - charge * d))

/-- Cluster-nanoseconds of a front-end up to now that its counter does not show yet (R252). -/
def State.clusterNs (s : State) (e : Nat) : Nat := mget s.gfx.rem e 0 + s.clusters e * (s.now - s.gfx.since)

/-- Bring credits and the cluster counters up to now (R231, R252). -/
def State.gfxAccount (s : State) : State :=
  let credit := (List.range 64).foldl (fun m k => mset m k (s.creditNow k) 0) s.gfx.credit
  [0, 1].foldl (fun t e =>
    let all := s.clusterNs e
    ({ t with gfx := { t.gfx with rem := mset t.gfx.rem e (all % 1000) 0 } }).count .gfx 0 (11 + e) (all / 1000))
    { s with gfx := { s.gfx with credit := credit, since := s.now } }

/-- Show the front-ends in ENG_STAT (R252). -/
def State.gfxShow (s : State) : State :=
  let fe := fun e => match s.gfxCur e with
    | some _ => 1
    | none => if s.gfx.held.any (fun r => r.fe == e && r.phase == 1) then 2 else 0
  let comp := [0, 1].any (fun e => match s.gfxCur e with | some r => r.comp | none => false)
  ((((s.wr GFX.ENG_STAT.fe0 (fe 0)).wr GFX.ENG_STAT.fe1 (fe 1)).wr GFX.ENG_STAT.clusters0 (s.clusters 0)).wr
    GFX.ENG_STAT.clusters1 (s.clusters 1)).wrB GFX.ENG_STAT.comp_active comp

/-- Set the job of front-end e, running from now on, after the account of the time before. -/
def State.setGfx (s : State) (e : Nat) (r : Option GfxRun) : State :=
  let t := s.gfxAccount
  ({ t with gfx := { t.gfx with cur := mset t.gfx.cur e (r.map (fun (x : GfxRun) => { x with since := s.now })) none } }).gfxShow

/-- Nanoseconds a job has run: time Preempted or Yielded does not count (R234). -/
def GfxRun.ranNs (r : GfxRun) (now : Nat) : Nat := r.ran + (now - r.since)

/-- A job leaves its front-end and is held in a phase, its context in a state (R233, R240). -/
def State.gfxHold (s : State) (r : GfxRun) (phase ctxState : Nat) : State :=
  let t := (s.setGfx r.fe none).wr GFX.CTX_STAT.state ctxState (b := r.ctx)
  ({ t with gfx := { t.gfx with held := t.gfx.held ++ [{ r with phase := phase, ran := r.ranNs s.now }] } }).gfxShow

/-- Blocks of the compositor partition and of front-end 0's (R245, R252). -/
def State.binParts (s : State) : Nat × Nat :=
  let c := clamp 16 96 (s.rd GFX.BIN_CFG.comp_blocks)
  (c, clamp 16 (112 - c) (s.rd GFX.BIN_CFG.fe0_blocks))

/-- Bytes of the partition a job's passes bin into: the compositor's, or its front-end's, in blocks of 64 KiB (R227, R245). -/
def State.binBytes (s : State) (r : GfxRun) : Nat :=
  let p := s.binParts
  (if r.comp then p.1 else if r.fe = 0 then p.2 else 128 - p.1 - p.2) * 65536

/-- Whether a partition holds bins: of a pass open on a front-end or of a held job (R233, R245). -/
def State.binsHeld (s : State) : Bool :=
  s.gfx.cur.any (fun e => match e.2 with | some (r : GfxRun) => r.pass | none => false) || s.gfx.held.any (fun r => r.pass)

/-! ### Contexts (R229, R230) -/

/-- Global contexts an owner holds, in ascending order (R229). -/
def State.ownCtx (s : State) (owner : Nat) : List Nat :=
  (List.range 64).filter (fun c => s.rd GFX.CTX_STAT.owner (b := c) == owner)

/-- State of a context: Resetting while the clearing of a fault lasts (R230, R249). -/
def State.ctxState (s : State) (c : Nat) : Nat := if s.now < mget s.gfx.reset c 0 then 5 else s.rd GFX.CTX_STAT.state (b := c)

/-- Global contexts no one holds. -/
def State.freeCtx (s : State) : List Nat := s.ownCtx 0xFF

/-- Give a context to an owner under a local number, Idle. -/
def State.giveCtx (s : State) (owner c l : Nat) : State :=
  ((s.wr GFX.CTX_STAT.owner owner (b := c)).wr GFX.CTX_STAT.local l (b := c)).wr GFX.CTX_STAT.state 1 (b := c)

/-- Take a context back to the pool. -/
def State.takeCtx (s : State) (c : Nat) : State :=
  ((s.wr GFX.CTX_STAT.owner 0xFF (b := c)).wr GFX.CTX_STAT.local 0 (b := c)).wr GFX.CTX_STAT.state 0 (b := c)

/-- Bring the contexts an owner holds to n: the lowest-numbered free ones come, the highest local ones go (R229). -/
def State.resizeCtx (s : State) (owner n : Nat) : State :=
  let have_ := s.ownCtx owner
  if n ≤ have_.length then (have_.drop n).foldl (fun t c => t.takeCtx c) s
  else
    let s1 := (s.freeCtx.take (n - have_.length)).foldl (fun t c => t.giveCtx owner c 0) s
    (((s1.ownCtx owner).zip (List.range 64)).foldl (fun t p => t.wr GFX.CTX_STAT.local p.2 (b := p.1)) s1)

/-! ### The engine's memory accesses (R228, R241) -/

/-- Requester of a graphics job: the owner of its context, through its front-end's port (R107, R227, R228). -/
def State.gfxReq (s : State) (r : GfxRun) : Req := reqFor (s.rd GFX.CTX_STAT.owner (b := r.ctx)) (portGfx r.fe)

/-- A checked read of a job is carried and counted (R252). -/
def State.gfxRead (s : State) (r : GfxRun) (a n : Nat) : State := (s.fetched (s.gfxReq r) a n).count .gfx 0 13 n

/-- Write back a job's dirty lines, oldest first. A write-back that is refused is dropped and counted, and the first such refusal answered (R241,
R249). -/
def State.writeBack (s : State) (q : Req) (dirty : List (Nat × Bool × List Byte)) : State × Option (Nat × Nat) :=
  dirty.foldl (fun (p : State × Option (Nat × Nat)) d =>
    match p.1.memFault { q with hint := d.2.1 } true d.1 d.2.2.length with
    | some f => (p.1.memRecord q f, p.2.or (some f))
    | none => ((p.1.put { q with hint := d.2.1 } d.1 d.2.2).count .gfx 0 14 d.2.2.length, p.2)) (s, none)

/-- Locations whose contents a fault or a bad packet leaves undefined hold free values, where the job can still write
(R236, R249). -/
def State.scramble (s : State) (q : Req) (l : List (Nat × Nat)) : State :=
  l.foldl (fun t e =>
    if (t.memFault q true e.1 e.2).isNone then
      let d := (List.range e.2).map (fun k => ((Config.freeValue (t.free + k)).toNat : Byte))
      ({ t with free := t.free + e.2 }).wrBytes e.1 d
    else t) s

/-- The memory of a target: its image, and its resolve image, taken to span as many bytes (log 188). -/
def GfxTarget.spans (g : GfxTarget) : List (Nat × Nat) :=
  (g.addr, g.pitch * g.height) :: (if g.resolve = 0 then [] else [(g.resolve, g.pitch * g.height)])

/-! ### Ends of a job (R196, R235, R236, R249) -/

/-- Local context of a job. -/
def State.localCtx (s : State) (r : GfxRun) : Nat := s.rd GFX.CTX_STAT.local (b := r.ctx)

/-- The job leaves its front-end or the held ones; its context becomes Idle. -/
def State.gfxLeave (s : State) (r : GfxRun) : State :=
  let s1 := (s.dropWait r.ctx).wr GFX.CTX_STAT.state 1 (b := r.ctx)
  if r.phase = 0 then s1.setGfx r.fe none
  else ({ s1 with gfx := { s1.gfx with held := s1.gfx.held.filter (fun x => x.ctx != r.ctx) } }).gfxShow

/-- End a graphics job with a record (R235, R225). -/
def State.gfxEnd (s : State) (r : GfxRun) (kind code detail info : Nat) : State :=
  (s.gfxLeave r).endJob r.job.ring kind (bit (field r.job.desc 0 4) 10) false r.job.seq code detail info

/-- A context fault: the dirty lines are written back, what the job wrote is undefined, and the context is Resetting until its state is cleared (R248,
R249). -/
def State.gfxFault (s : State) (r : GfxRun) (code cause under addr : Nat) : State :=
  let s0 := (s.writeBack (s.gfxReq r) r.dirty).1
  let s1 := s0.scramble (s0.gfxReq r) r.wrote
  let l := s.localCtx r
  let both := cause = 1 ∨ cause = 2
  let s2 := ((s1.wr GFX.CTX_FAULT.cause cause (b := r.ctx)).wr GFX.CTX_FAULT.code (if both then under else 0) (b := r.ctx)).wr
    GFX.CTX_FAULT_ADDR.addr (if both then addr else 0) (b := r.ctx)
  let s3 := (s2.count .gfx 0 8).raise .gfx 0 8
  let s4 := { s3 with
    free := s3.free + 1
    gfx := { s3.gfx with reset := mset s3.gfx.reset r.ctx (s.now + (Config.resetNs s3.free).toNat) 0 } }
  s4.gfxEnd r 1 code (cause + l * 256 + (if both then under * 65536 else 0)) (if both then addr % 2 ^ 40 else 0)

/-- A failed access of a job: its refusal is recorded and its context faults, cause 2 for poisoned data (R248). -/
def State.gfxAccess (s : State) (r : GfxRun) (e : Nat × Nat) : State :=
  (s.memRecord (s.gfxReq r) e).gfxFault r Code.GFX_CTX_FAULT
    (if e.1 = Code.DRAM_POISON ∨ e.1 = Code.DRAM_UE then 2 else 1) e.1 e.2

/-- The job's writes so far reach memory and the job goes on, or its context faults at a refused one (R240, R241). -/
def State.gfxFlush (s : State) (r : GfxRun) (k : State → GfxRun → State) : State :=
  match s.writeBack (s.gfxReq r) r.dirty with
  | (t, none) => k t { r with dirty := [] }
  | (t, some f) => t.gfxFault { r with dirty := [] } Code.GFX_CTX_FAULT (if f.1 = Code.DRAM_POISON then 2 else 1) f.1 f.2

/-- A packet ends the job: the work of the earlier ones completes, the targets of a pass left open are undefined, then the record (R236). -/
def State.gfxReject (s : State) (r : GfxRun) (code info : Nat) : State :=
  s.gfxFlush r (fun t r1 =>
    (t.scramble (t.gfxReq r1) (if r1.pass then (r1.targets.map GfxTarget.spans).flatten else [])).gfxEnd r1 1 code (t.localCtx r1 * 256) info)

/-- A malformed packet ends the job (R236, R237). -/
def State.gfxBad (s : State) (r : GfxRun) : State := (s.count .gfx 0 9).gfxReject r Code.GFX_BAD_PACKET (r.pc % 2 ^ 20)

/-! ### Packets (R237 to R241) -/

/-- Continue with the job past a packet of n words. -/
def State.gfxNext (s : State) (r : GfxRun) (n : Nat) : State :=
  { s with gfx := { s.gfx with cur := mset s.gfx.cur r.fe (some { r with pc := r.pc + n }) none } }

/-- The length a packet must have, if its op and sub are listed (R238 to R240). -/
def packetLen (op sub w1 : Nat) : Option Nat :=
  match op, sub with
  | 1, 1 => some 4 | 1, 2 => some 7 | 1, 3 => some 3 | 1, 4 => some 5 | 1, 5 => some 4 | 1, 6 => some 2
  | 2, 1 => some 3 | 2, 2 => some 4 | 2, 3 => some (2 + 3 * bits w1 4 5) | 2, 4 => some 5 | 2, 5 => none
  | 3, 1 => some 5 | 3, 2 => some 6 | 3, 3 => some 5
  | 4, 1 => some 4 | 4, 2 => some 3
  | 5, 0 => some 1 | 5, 1 => some 4 | 5, 2 => some 4
  | 6, 0 => some 3 | 6, 1 => some 3
  | _, _ => none

/-- Whether op and sub are listed. -/
def packetListed (op sub : Nat) : Bool := (packetLen op sub 0).isSome || (op == 2 && sub == 5)

/-- Run the packet at the head of front-end e's command buffer if it is of the given op and sub: its words go on to the
packet's own effect. A header that breaks R237 ends the job whatever packet was expected. -/
def State.gfxPacket (s : State) (e op sub : Nat) (k : State → GfxRun → List Nat → State) : State :=
  match s.gfxCur e with
  | none => s
  | some r =>
    if r.words ≤ r.pc then s
    else
      let a := r.cmd + 4 * r.pc
      match s.memFault (s.gfxReq r) false a 4 with
      | some f => s.gfxAccess r f
      | none =>
        let h := s.rdMem a 4
        let len := bits h 16 16
        let w1 := if 2 ≤ len then s.rdMem (a + 4) 4 else 0
        let n := if bits h 0 8 = 2 ∧ bits h 8 8 = 5 then (if 2 ≤ len then len else 2)
          else (packetLen (bits h 0 8) (bits h 8 8) w1).getD 0
        if !packetListed (bits h 0 8) (bits h 8 8) ∨ len ≠ n ∨ r.words < r.pc + len then (s.gfxRead r a 4).gfxBad r
        else if bits h 0 8 ≠ op ∨ bits h 8 8 ≠ sub then s
        else match s.memFault (s.gfxReq r) false a (4 * len) with
          | some f => s.gfxAccess r f
          | none => k (s.gfxRead r a (4 * len)) r ((List.range len).map (fun i => s.rdMem (a + 4 * i) 4))

/-- Read memory for a packet and go on with the state after it, or fault at a refused access (R248). -/
def State.gfxLoad (s : State) (r : GfxRun) (a n : Nat) (k : State → State) : State :=
  match s.memFault (s.gfxReq r) false a n with
  | some f => s.gfxAccess r f
  | none => k (s.gfxRead r a n)

/-- The reads a packet's work makes, each checked; the context faults at the first refused (R243, R248). -/
def State.gfxReads (s : State) (r : GfxRun) (reads : List (Addr × Nat)) (k : State → State) : State :=
  let p := reads.foldl (fun (p : State × Option (Nat × Nat)) w =>
    if p.2.isSome then p
    else match p.1.memFault (p.1.gfxReq r) false w.1.toNat w.2 with
      | some f => (p.1, some f)
      | none => (p.1.gfxRead r w.1.toNat w.2, none)) (s, none)
  match p.2 with
  | some f => p.1.gfxAccess r f
  | none => k p.1

/-- The stores a packet's work makes, into the caches: each is checked, and the context faults at the first refused (R241, R243, R248). -/
def State.gfxStores (s : State) (r : GfxRun) (hint : Bool) (stores : List (Nat × List Byte)) (k : State → GfxRun → State) : State :=
  let refusal := fun (w : Nat × List Byte) => s.memFault (s.gfxReq r) true w.1 w.2.length
  let good := stores.takeWhile (fun w => (refusal w).isNone)
  let r1 := { r with
    wrote := good.reverse.map (fun w => (w.1, w.2.length)) ++ r.wrote
    dirty := r.dirty ++ good.map (fun w => (w.1, hint, w.2)) }
  match stores.findSome? refusal with
  | some f => s.gfxAccess r1 f
  | none => k s r1

/-- The stores of an operand. -/
def storesOf (l : List (Addr × List Byte)) : List (Nat × List Byte) := l.map (fun w => (w.1.toNat, w.2))

/-- A partial render: the tiles that hold bins are flushed, those flushed before reloaded first, and the bins freed (R246). -/
def State.partialRender (s : State) (r : GfxRun) : State × GfxRun :=
  let again := r.binTiles.filter (fun t => r.flushed.contains t)
  (((s.count .gfx 0 3).count .gfx 0 4 r.binTiles.length).count .gfx 0 5 again.length,
    { r with partials := min 65535 (r.partials + 1), bins := 0, binTiles := [], flushed := r.flushed ++ r.binTiles.filter (fun t => !r.flushed.contains t) })

/-- Bin batches one after another: before one that does not fit in the partition, a partial render (R245, R246). -/
def State.gfxBin (s : State) (r : GfxRun) (batches : List (Nat × List Nat)) : State × GfxRun :=
  batches.foldl (fun (a : State × GfxRun) b =>
    let p := if a.2.bins ≠ 0 ∧ a.1.binBytes a.2 < a.2.bins + b.1 then a.1.partialRender a.2 else a
    (p.1, { p.2 with bins := p.2.bins + b.1, binTiles := p.2.binTiles ++ (b.2.eraseDups).filter (fun x => !p.2.binTiles.contains x) })) (s, r)

/-- Bytes of a texel in a target format; a D32_SFLOAT_S8_UINT texel is taken as 8 (R238; log 188). -/
def texelBytes (f : Nat) : Nat :=
  if f = 0x06 ∨ f = 0x43 then 8 else if f = 0x08 ∨ f = 0x0A ∨ f = 0x40 then 2 else if f = 0x09 then 1 else 4

/-- A clear colour as a texel: 32-bit components as they are, other formats by a conversion the spec leaves to Vulkan (R238). -/
def clearBytes (g : GfxTarget) : List Byte :=
  leBytes (texelBytes g.format) (if g.format = 0x0B ∨ g.format = 0x0C ∨ g.format = 0x41 then g.clear.getD 0 0
    else (Config.clearTexel g.format g.clear).toNat)

/-- What the end of a pass without draws stores to one target with store op 0: each row as loaded, cleared, or undefined. Where samples > 1 the
layout of samples, and of a resolve image, is not given: rows are free (R238, R246; log 188). -/
def State.clearRows (s : State) (g : GfxTarget) (samples : Nat) : State × List (Nat × List Byte) :=
  let row := fun (t : State) (y : Nat) =>
    let a := g.addr + g.pitch * y
    let n := g.width * texelBytes g.format
    if g.load = 0 then (t, (a, t.rdBytes a n))
    else if g.load = 1 ∧ samples = 1 then (t, (a, ((List.range g.width).map (fun _ => clearBytes g)).flatten))
    else
      let m := if samples = 1 then n else g.pitch
      ({ t with free := t.free + m }, (a, (List.range m).map (fun k => ((Config.freeValue (t.free + k)).toNat : Byte))))
  let main := if g.store ≠ 0 then (s, []) else
    (List.range g.height).foldl (fun (p : State × List (Nat × List Byte)) y => let q := row p.1 y; (q.1, p.2 ++ [q.2])) (s, [])
  if g.resolve = 0 then main
  else
    let m := g.pitch * g.height
    ({ main.1 with free := main.1.free + m },
      main.2 ++ [(g.resolve, (List.range m).map (fun k => ((Config.freeValue (main.1.free + k)).toNat : Byte)))])

/-- Whether a store of the end of a pass lies in a target its ops store or resolve (R246). -/
def GfxRun.inTargets (r : GfxRun) (w : Nat × List Byte) : Bool :=
  r.targets.any (fun g => g.spans.any (fun p => (g.store == 0 || p.1 != g.addr) && decide (p.1 ≤ w.1 ∧ w.1 + w.2.length ≤ p.1 + p.2)))

/-- The stores at the end of the open pass: what its draws leave in its targets, or without draws what its load ops give. -/
def State.passStores (s : State) (r : GfxRun) (fx : GfxFx) : State × List (Nat × List Byte) :=
  if r.draws ≠ 0 then (s, (storesOf fx.ends).filter r.inTargets)
  else r.targets.foldl (fun p g => let q := p.1.clearRows g r.samples; (q.1, p.2 ++ q.2)) (s, [])

/-- The open pass ends: tiles flushed earlier are reloaded, all are shaded and stored, and the writes are visible (R237, R241, R246). -/
def State.gfxPassEnd (s : State) (r : GfxRun) (fx : GfxFx) (k : State → GfxRun → State) : State :=
  if !r.pass then k s r
  else
    let p := (s.count .gfx 0 5 r.flushed.length).passStores r fx
    p.1.gfxStores { r with pass := false, targets := [], draws := 0, bins := 0, binTiles := [], flushed := [] } true p.2
      (fun t r1 => t.gfxFlush r1 k)

/-- The work of a packet: its batches binned, its reads and its stores made; then the job continues (R243, R246). -/
def State.gfxWork (s : State) (r : GfxRun) (fx : GfxFx) (k : State → GfxRun → State) : State :=
  let p := s.gfxBin r fx.batches
  p.1.gfxReads p.2 fx.reads (fun t => t.gfxStores p.2 true (storesOf fx.writes) k)

/-- Remember a state or bind packet for the rest of the job (R230, R238, R239). -/
def GfxRun.note (r : GfxRun) (op sub i : Nat) (w : List Nat) : GfxRun :=
  { r with st := mset r.st (op * 65536 + sub * 256 + i) w [] }

/-- Word i of a packet. -/
def wordAt (w : List Nat) (i : Nat) : Nat := w.getD i 0
/-- Words i and i + 1 of a packet as one value. -/
def pairAt (w : List Nat) (i : Nat) : Nat := wordAt w i + wordAt w (i + 1) * 2 ^ 32

/-- A STATE packet without rules on its fields (R238). -/
def State.gfxState (s : State) (e sub : Nat) : State :=
  s.gfxPacket e 1 sub (fun t r w => t.gfxNext (r.note 1 sub 0 w) w.length)

/-- Whether a target table entry keeps its rules (R238): colour entries come first, the depth/stencil entry last. -/
def State.targetOk (s : State) (a w0 h0 samples : Nat) (depth : Bool) : Bool :=
  let f := s.rdMem (a + 0x10) 2
  let res := s.rdMem (a + 0x14) 8
  s.rdMem a 8 % 256 == 0 && s.rdMem (a + 8) 4 % 256 == 0 &&
    decide (1 ≤ s.rdMem (a + 0xC) 2 ∧ s.rdMem (a + 0xC) 2 ≤ 16384 ∧ 1 ≤ s.rdMem (a + 0xE) 2 ∧ s.rdMem (a + 0xE) 2 ≤ 16384) &&
    s.rdMem (a + 0xC) 2 == w0 && s.rdMem (a + 0xE) 2 == h0 &&
    (if depth then decide (0x40 ≤ f ∧ f ≤ 0x43) else decide (1 ≤ f ∧ f ≤ 0xC)) &&
    decide (s.rdMem (a + 0x12) 1 ≤ 2 ∧ s.rdMem (a + 0x13) 1 ≤ 1) && (res == 0 || (!depth && decide (1 < samples))) &&
    s.rdMem (a + 0x1C) 4 == 0

/-- The target a table entry describes (R238). -/
def State.targetAt (s : State) (a : Nat) : GfxTarget :=
  { addr := s.rdMem a 8, pitch := s.rdMem (a + 8) 4, width := s.rdMem (a + 0xC) 2, height := s.rdMem (a + 0xE) 2, format := s.rdMem (a + 0x10) 2
    load := s.rdMem (a + 0x12) 1, store := s.rdMem (a + 0x13) 1, resolve := s.rdMem (a + 0x14) 8
    clear := (List.range 4).map (fun i => s.rdMem (a + 0x20 + 4 * i) 4) }

/-- GFX_STATE_TARGETS: the open pass ends and a new one begins, on targets that keep their rules (R237, R238). -/
def execGfxStateTargets (e : Fin 2) (fx : GfxFx) (s : State) : Out :=
  .next (s.gfxPacket e.val 1 1 (fun t r w =>
    let n := bits (wordAt w 1) 0 3; let ds := bit (wordAt w 1) 8; let smp := bits (wordAt w 1) 16 4
    let tab := pairAt w 2
    let cnt := n + (if ds then 1 else 0)
    t.gfxPassEnd r fx (fun u r2 =>
      if 4 < n ∨ (smp ≠ 1 ∧ smp ≠ 2 ∧ smp ≠ 4) ∨ tab % 16 ≠ 0 then u.gfxBad r2
      else u.gfxLoad r2 tab (48 * cnt) (fun v =>
        let w0 := v.rdMem (tab + 0xC) 2; let h0 := v.rdMem (tab + 0xE) 2
        if (List.range cnt).all (fun i => v.targetOk (tab + 48 * i) w0 h0 smp (decide (n ≤ i))) then
          v.gfxNext ({ r2 with pass := true, targets := (List.range cnt).map (fun i => v.targetAt (tab + 48 * i)), samples := smp }.note 1 1 0 w) 4
        else v.gfxBad r2))))

/-- GFX_STATE_VIEWPORT (R238). -/
def execGfxStateViewport (e : Fin 2) (s : State) : Out := .next (s.gfxState e.val 2)
/-- GFX_STATE_SCISSOR (R238). -/
def execGfxStateScissor (e : Fin 2) (s : State) : Out := .next (s.gfxState e.val 3)
/-- GFX_STATE_BLEND_CONST (R238). -/
def execGfxStateBlendConst (e : Fin 2) (s : State) : Out := .next (s.gfxState e.val 4)
/-- GFX_STATE_DEPTH_BIAS (R238). -/
def execGfxStateDepthBias (e : Fin 2) (s : State) : Out := .next (s.gfxState e.val 5)
/-- GFX_STATE_STENCIL_REF (R238). -/
def execGfxStateStencilRef (e : Fin 2) (s : State) : Out := .next (s.gfxState e.val 6)

/-- GFX_BIND_PIPELINE: the image's first 16 bytes are checked; a rejected image ends the job with GFX_SHADER_REJECT (R235,
R242). -/
def execGfxBindPipeline (e : Fin 2) (s : State) : Out :=
  .next (s.gfxPacket e.val 2 1 (fun t r w =>
    let a := pairAt w 1
    if a % 4096 ≠ 0 then t.gfxBad r
    else t.gfxLoad r a 16 (fun u =>
      if u.rdMem a 4 ≠ 0x4950474E ∨ u.rdMem (a + 4) 1 ≠ 1 ∨ 1 < u.rdMem (a + 5) 1 then u.gfxBad r
      else if u.rdMem (a + 5) 1 = 1 then (u.count .gfx 0 10).gfxReject r Code.GFX_SHADER_REJECT (u.rdMem (a + 6) 1 + u.rdMem (a + 8) 4 * 256)
      else u.gfxNext ({ r with bound := true }.note 2 1 0 w) 3)))

/-- GFX_BIND_SET (R239). -/
def execGfxBindSet (e : Fin 2) (s : State) : Out :=
  .next (s.gfxPacket e.val 2 2 (fun t r w =>
    if pairAt w 2 % 32 ≠ 0 then t.gfxBad r else t.gfxNext (r.note 2 2 (bits (wordAt w 1) 0 2) w) 4))

/-- GFX_BIND_VERTEX (R239). -/
def execGfxBindVertex (e : Fin 2) (s : State) : Out :=
  .next (s.gfxPacket e.val 2 3 (fun t r w =>
    let n := bits (wordAt w 1) 4 5; let f := bits (wordAt w 1) 0 4
    if n = 0 ∨ 16 < n then t.gfxBad r
    else t.gfxNext ((List.range n).foldl (fun q i => q.note 2 3 (f + i) ((w.drop (2 + 3 * i)).take 3)) r) w.length))

/-- GFX_BIND_INDEX (R239). -/
def execGfxBindIndex (e : Fin 2) (s : State) : Out :=
  .next (s.gfxPacket e.val 2 4 (fun t r w =>
    if pairAt w 2 % (if bit (wordAt w 1) 0 then 4 else 2) ≠ 0 then t.gfxBad r else t.gfxNext (r.note 2 4 0 w) 5))

/-- GFX_BIND_PUSH (R239). -/
def execGfxBindPush (e : Fin 2) (s : State) : Out :=
  .next (s.gfxPacket e.val 2 5 (fun t r w =>
    let off := bits (wordAt w 1) 0 8; let n := w.length - 2
    if off % 4 ≠ 0 ∨ 256 < off + 4 * n then t.gfxBad r
    else t.gfxNext ((List.range n).foldl (fun q i => q.note 2 5 (off / 4 + i) [wordAt w (2 + i)]) r) w.length))

/-- A DRAW of n draws: valid inside a pass with a matching pipeline (R237, R239). -/
def State.gfxDraw (s : State) (r : GfxRun) (fx : GfxFx) (n len : Nat) : State :=
  if !r.pass ∨ !r.bound ∨ !fx.match_ then s.gfxBad r
  else (s.count .gfx 0 1 n).gfxWork { r with draws := r.draws + n } fx (fun u r2 => u.gfxNext r2 len)

/-- GFX_DRAW_DIRECT (R239). -/
def execGfxDrawDirect (e : Fin 2) (fx : GfxFx) (s : State) : Out :=
  .next (s.gfxPacket e.val 3 1 (fun t r _ => t.gfxDraw r fx 1 5))
/-- GFX_DRAW_INDEXED (R239). -/
def execGfxDrawIndexed (e : Fin 2) (fx : GfxFx) (s : State) : Out :=
  .next (s.gfxPacket e.val 3 2 (fun t r _ => t.gfxDraw r fx 1 6))
/-- GFX_DRAW_INDIRECT: the draw records are read first (R239). -/
def execGfxDrawIndirect (e : Fin 2) (fx : GfxFx) (s : State) : Out :=
  .next (s.gfxPacket e.val 3 3 (fun t r w =>
    let a := pairAt w 2; let n := bits (wordAt w 4) 0 16; let st := bits (wordAt w 4) 16 16
    let size := if bit (wordAt w 1) 0 then 20 else 16
    if a % 4 ≠ 0 ∨ n = 0 ∨ st < size ∨ st % 4 ≠ 0 then t.gfxBad r
    else match (List.range n).findSome? (fun i => t.memFault (t.gfxReq r) false (a + st * i) size) with
      | some f => t.gfxAccess r f
      | none => ((List.range n).foldl (fun (u : State) i => u.gfxRead r (a + st * i) size) t).gfxDraw r fx n 5))

/-- A DISPATCH: an open pass ends first; without a grid nothing else happens (R237, R239). -/
def State.gfxDispatch (s : State) (r : GfxRun) (fx : GfxFx) (grid : Bool) (len : Nat) : State :=
  s.gfxPassEnd r fx (fun t r1 =>
    if grid then (t.count .gfx 0 2).gfxWork r1 { fx with batches := [] } (fun u r2 => u.gfxNext r2 len) else t.gfxNext r1 len)

/-- GFX_DISPATCH_DIRECT (R239). -/
def execGfxDispatchDirect (e : Fin 2) (fx : GfxFx) (s : State) : Out :=
  .next (s.gfxPacket e.val 4 1 (fun t r w =>
    if (w.drop 1).any (fun c => c == 0 || decide (65535 < c)) then t.gfxBad r else t.gfxDispatch r fx true 4))
/-- GFX_DISPATCH_INDIRECT: a count of 0 does nothing, one above 65,535 ends the job (R239). -/
def execGfxDispatchIndirect (e : Fin 2) (fx : GfxFx) (s : State) : Out :=
  .next (s.gfxPacket e.val 4 2 (fun t r w =>
    let a := pairAt w 1
    if a % 4 ≠ 0 then t.gfxBad r
    else t.gfxLoad r a 12 (fun u =>
      let c := (List.range 3).map (fun i => u.rdMem (a + 4 * i) 4)
      if c.any (fun x => decide (65535 < x)) then u.gfxBad r else u.gfxDispatch r fx (c.all (· != 0)) 3)))

/-- GFX_BARRIER: earlier writes reach memory (R240, R241). -/
def execGfxBarrier (e : Fin 2) (s : State) : Out :=
  .next (s.gfxPacket e.val 5 0 (fun t r _ => if r.pass then t.gfxBad r else t.gfxFlush r (fun u r1 => u.gfxNext r1 1)))

/-- Detail of a success record: the partial renders (R235). -/
def GfxRun.detail (r : GfxRun) : Nat := r.partials

/-- GFX_SIGNAL: earlier writes reach memory, then the fence is signalled; a signal that fails ends the job (R196, R240). -/
def execGfxSignal (e : Fin 2) (s : State) : Out :=
  .next (s.gfxPacket e.val 5 1 (fun t r w =>
    let f := bits (wordAt w 1) 0 16
    t.gfxFlush r (fun t1 r1 =>
      match t1.signal (t1.gfxReq r1) f (pairAt w 2) with
      | (u, 0) => u.gfxNext { r1 with wrote := (u.fenceAddr f, 8) :: r1.wrote } 4
      | (u, c) => u.gfxEnd r1 1 c r1.detail (u.fenceAddr f))))

/-- GFX_WAIT: the job yields until the wait is met; with 8 jobs yielded the front-end stalls on the packet (R240). -/
def execGfxWait (e : Fin 2) (s : State) : Out :=
  .next (s.gfxPacket e.val 5 2 (fun t r w =>
    if r.pass then t.gfxBad r
    else
      let u := if (t.waitOf r.ctx).isSome then t else t.addWait r.ctx (t.gfxReq r).id (bits (wordAt w 1) 0 16) (pairAt w 2)
      match u.waitOf r.ctx with
      | none => u
      | some x =>
        if x.met then (u.dropWait r.ctx).gfxNext r 4
        else if x.code ≠ 0 then u.gfxEnd r 1 x.code r.detail 0
        else if 8 ≤ (u.gfx.held.filter (fun y => y.fe == e.val && y.phase == 2)).length then u
        else
          u.gfxHold { r with pc := r.pc + 4 } 2 4))

/-- A TIMESTAMP packet: DEVTIME goes to its address (R240). -/
def State.gfxStamp (s : State) (e sub : Nat) : State :=
  s.gfxPacket e 6 sub (fun t r w =>
    let a := pairAt w 1
    if a % 8 ≠ 0 then t.gfxBad r
    else t.gfxStores r false [(a, leBytes 8 t.now)] (fun u r2 => u.gfxNext r2 3))

/-- GFX_TIMESTAMP_TOP (R240). -/
def execGfxTimestampTop (e : Fin 2) (s : State) : Out := .next (s.gfxStamp e.val 0)
/-- GFX_TIMESTAMP_BOTTOM (R240). -/
def execGfxTimestampBottom (e : Fin 2) (s : State) : Out := .next (s.gfxStamp e.val 1)

/-- GFX_JOB_END: the last packet is done; an open pass ends with its stores, the caches are written back, the fence is signalled and the record
written (R196, R235, R237, R241). -/
def execGfxJobEnd (e : Fin 2) (fx : GfxFx) (s : State) : Out :=
  .next (match s.gfxCur e.val with
    | none => s
    | some r =>
      if r.pc < r.words then s
      else s.gfxPassEnd r fx (fun t0 r1 => t0.gfxFlush r1 (fun t r2 =>
        let d := r2.job.desc
        if bit (field d 0 4) 9 then
          match t.signal (t.gfxReq r2) (field d 0x12 2) (field d 0x20 8) with
          | (u, 0) => u.gfxEnd r2 0 0 r2.detail (field d 0x28 8)
          | (u, c) => u.gfxEnd r2 1 c r2.detail (u.fenceAddr (field d 0x12 2))
        else t.gfxEnd r2 0 0 r2.detail (field d 0x28 8))))

/-! ### Submissions and preemption (R230 to R235) -/

/-- Whether every page that len bytes at an address touch belongs to an owner. -/
def State.pagesOwned (s : State) (o a len : Nat) : Bool :=
  decide (a + len ≤ s.variant.dramTop) &&
    (List.range ((a + len - 1) / 4096 - a / 4096 + 1)).all (fun k => s.potEntry (a / 4096 + k) % 256 == o)

/-- Whether a submission of an owner keeps R235's table, its local context below what the instance holds. -/
def State.submissionOk (s : State) (o : Nat) (d : List Byte) (held : Nat) : Bool :=
  let c := field d 0 4
  decide (bits c 0 6 < held) && bits c 6 2 == 0 && bits c 11 21 == 0 && decide (1 ≤ field d 4 4 ∧ field d 4 4 ≤ 1048576) &&
    field d 8 8 % 4 == 0 && s.pagesOwned o (field d 8 8) (4 * field d 4 4) && field d 0x14 4 == 0 && field d 0x30 8 == 0 && field d 0x38 8 == 0

/-- Global context a ring's next submission names, if it names one. -/
def State.nextCtx (s : State) (r : Nat) : Option Nat :=
  match (s.ring r).pre with
  | e :: _ => (s.ownCtx (instRid (ringInst r)))[bits (field e.2.2 0 4) 0 6]?
  | [] => none

/-- Whether a context is the compositor context now (R232). -/
def State.isComp (s : State) (c : Nat) : Bool := s.on GFX.COMP_CTX.valid && s.rd GFX.COMP_CTX.ctx == c

/-- Whether a ring's next submission is a compositor job. -/
def State.compRing (s : State) (r : Nat) : Bool :=
  match s.nextCtx r with | some c => s.isComp c | none => false

/-- Global context the job that front-end e has taken and not begun names. -/
def State.takenCtx (s : State) (e : Nat) : Option Nat :=
  (s.job 0 e).bind (fun j => (s.ownCtx (instRid (ringInst j.ring)))[bits (field j.desc 0 4) 0 6]?)

/-- Whether the context a ring's next submission names is free to run it: Idle, and named by no job that a front-end has taken (R230). -/
def State.ctxIdle (s : State) (r : Nat) : Bool :=
  match s.nextCtx r with
  | some c => s.ctxState c == 1 && s.takenCtx 0 != some c && s.takenCtx 1 != some c
  | none => true

/-- Whether a compositor job runs on a front-end. -/
def State.compActive (s : State) : Bool :=
  [0, 1].any (fun e => match s.gfxCur e with | some r => r.comp | none => false)

/-- The rings a front-end may serve: their contexts idle, and rings of instances without credit only when no ring of an instance with
credit is eligible; compositor jobs are never skipped (R230, R231). -/
def State.gfxEligible (s : State) (e : Nat) : List Nat :=
  let all := (s.readyRings 0 e).filter (fun r => s.ctxIdle r)
  let rich := fun r => decide (0 < s.creditNow (ringInst r))
  if all.any rich then all.filter (fun r => rich r || s.compRing r) else all

/-- A held job goes back to running on its own front-end, or ends with the code of its wait; one preempted while it stalled at a WAIT packet goes back
to that packet with its wait (R231, R233, R240). -/
def State.gfxResume (s : State) (r : GfxRun) : State :=
  let code := ((s.waitOf r.ctx).map (·.code)).getD 0
  if code ≠ 0 then s.gfxEnd r 1 code r.detail 0
  else
    let s1 := (if r.phase = 2 then s.dropWait r.ctx else s).wr GFX.CTX_STAT.state 2 (b := r.ctx)
    ({ s1 with gfx := { s1.gfx with held := s1.gfx.held.filter (fun x => x.ctx != r.ctx) } }).setGfx r.fe (some { r with phase := 0 })

/-- Whether a held job can resume: a preempted one when no compositor job is ready or running, a yielded one when its wait
has ended. -/
def State.gfxResumable (s : State) (e : Nat) (r : GfxRun) : Bool :=
  r.fe == e && (if r.phase = 2 then
      match s.waitOf r.ctx with | some x => x.met || x.code != 0 | none => true
    else true)

/-- Whether a compositor job is ready on a front-end (R233). -/
def State.compReady (s : State) (e : Nat) : Option Nat :=
  (s.readyRings 0 e).find? (fun r => s.compRing r && s.ctxIdle r)

/-- What a front-end does at a job boundary: a held job resumes, or the next ring's job starts; while a compositor job runs
or is ready nothing else starts (R231, R233). -/
def State.gfxBoundary (s : State) (e : Nat) : State :=
  if (s.gfxCur e).isSome ∨ (s.job 0 e).isSome ∨ s.compActive then s
  else if ([0, 1].any (fun k => (s.compReady k).isSome)) then s
  else match s.gfx.held.find? (s.gfxResumable e) with
    | some r => s.gfxResume r
    | none =>
      match s.pickAmong 0 e (s.gfxEligible e) with
      | some r => s.startJob r 0 e
      | none => s

/-- Begin the submission that a front-end has taken: in its context and default state, or ended with GFX_BAD_PACKET. It waits while its context is
busy, and while a compositor job runs (R230, R233, R235). -/
def State.gfxBegin (s : State) (e : Nat) : State :=
  match s.job 0 e with
  | none => s
  | some j =>
    let own := s.ownCtx (instRid (ringInst j.ring))
    let s1 := s.setJob 0 e none
    if s.submissionOk (instRid (ringInst j.ring)) j.desc own.length then
      let c := own.getD (bits (field j.desc 0 4) 0 6) 0
      if s.ctxState c ≠ 1 ∨ s.compActive then s
      else
      let r : GfxRun := { job := j, fe := e, ctx := c, comp := s.isComp c, cmd := field j.desc 8 8, words := field j.desc 4 4 }
      (((s1.wr GFX.CTX_STAT.state 2 (b := c)).wr GFX.CTX_STAT.fe e (b := c)).count .gfx 0 0).setGfx e (some r)
    else
      (s1.count .gfx 0 9).endJob j.ring 1 false false j.seq Code.GFX_BAD_PACKET (bits (field j.desc 0 4) 0 6 * 256) 0

/-- GFX_SUBMISSION: a front-end begins the submission it has taken (R235). -/
def execGfxSubmission (e : Fin 2) (s : State) : Out := .next (s.gfxBegin e.val)

/-- The job of a front-end stops at a preemption point for a compositor job (R233). -/
def State.gfxPreempt (s : State) (e : Nat) : State :=
  match s.gfxCur e with
  | none => s
  | some r =>
    if r.comp then s else s.gfxHold r 1 3

/-- Microseconds without a preemption point after which the job of a front-end faults (R234, R252). -/
def State.killUs (s : State) : Nat := max 100 (s.rd GFX.PREEMPT_KILL.us)

/-- Fault the job of a front-end that has reached no preemption point (R234). -/
def State.gfxKill (s : State) (e : Nat) : State :=
  match s.gfxCur e with
  | none => s
  | some r => if r.comp then s else (s.raise .gfx 0 10).gfxFault r Code.GFX_CTX_FAULT 4 0 0

/-- COMPOSITOR_PREEMPT: a compositor job is ready on front-end e and starts us microseconds after it was ready, when the front-ends have reached their
preemption points; past PREEMPT_KILL the jobs of the front-ends named as stuck have faulted (R233, R234). A job the front-end has taken and not
begun begins and is preempted. -/
def execCompositorPreempt (e : Fin 2) (us : Nat) (stuck : BitVec 2) (s : State) : Out :=
  .next (match s.compReady e.val with
    | none => s
    | some ring =>
      let s0 := s.gfxBegin e.val
      if s.compActive ∨ (s0.job 0 e.val).isSome then s
      else
        let late := fun (t : State) k => if t.killUs < us ∧ bit stuck.toNat k then t.gfxKill k else t
        let s1 := (((late (late s0 0) 1).gfxPreempt 0).gfxPreempt 1).count .gfx 0 6
        let s2 := (s1.startJob ring 0 e.val).gfxBegin e.val
        let s3 := s2.wr GFX.PREEMPT_LAST.us (min 65535 us)
        if 100 < us then
          (((s3.count .gfx 0 7).raise .gfx 0 9).eventPage .gfx 0 Code.GFX_PREEMPT_LATE e.val us)
        else s3)

/-- PREEMPT_KILL_EXPIRY: a front-end has reached no preemption point in the us microseconds a compositor job has been ready; from PREEMPT_KILL on its job
faults with cause 4 (R234). -/
def execPreemptKillExpiry (e : Fin 2) (us : Nat) (s : State) : Out :=
  .next (if us < s.killUs ∨ !([0, 1].any (fun k => (s.compReady k).isSome)) then s else s.gfxKill e.val)

/-- JOB_LIMIT_EXPIRY: the job ends if it has run longer than JOB_LIMIT, counting Running time only (R248, R252). -/
def execJobLimitExpiry (e : Fin 2) (s : State) : Out :=
  .next (match s.gfxCur e.val with
    | none => s
    | some r => if r.ranNs s.now ≤ max 1 (s.rd GFX.JOB_LIMIT.ms) * 1000000 then s else s.gfxFault r Code.GFX_CTX_FAULT 5 0 0)

/-- GFX_CTX_FAULT: the job of a front-end meets a fault of R248: a refused access or poisoned data with its code and
address, recorded where the code is, a bad descriptor, or an uncorrectable on-chip error (R248, R249, R448). A DRAM_UE has its record from the
subchannel that found it. -/
def execGfxCtxFault (e : Fin 2) (cause : Fin 7) (code : BitVec 16) (addr : Addr) (s : State) : Out :=
  .next (match s.gfxCur e.val with
    | none => s
    | some r =>
      if cause.val = 0 then s
      else
        let t := if (cause.val = 1 ∨ cause.val = 2) ∧ code.toNat ≠ Code.DRAM_UE then s.memRecord (s.gfxReq r) (code.toNat, addr.toNat) else s
        t.gfxFault r Code.GFX_CTX_FAULT cause.val code.toNat addr.toNat)

/-- Stop the graphics jobs of an instance when QUIESCE_LIMIT is reached; their records carry the code given (R250). -/
def State.gfxForce (s : State) (k code : Nat) : State :=
  let mine := fun (r : GfxRun) => ringInst r.job.ring == k
  let s1 := [0, 1].foldl (fun t e => match t.gfxCur e with
    | some r => if mine r then t.gfxFault r code 0 0 0 else t
    | none => t) s
  let s2 := (s1.gfx.held.filter mine).foldl (fun t r => t.gfxFault r code 0 0 0) s1
  [0, 1].foldl (fun t e => match t.job 0 e with
    | some j => if ringInst j.ring = k then (t.setJob 0 e none).endJob j.ring 1 false false j.seq code 0 0 else t
    | none => t) s2

end Sys2Proof.Machine
end

