-- ==== Sys2Proof/Machine/Jobs.lean ====
section
/-! DEFINITION. Dispatch of jobs to engines, and the end of fence waits (R193 to R196). -/

namespace Sys2Proof.Machine

/-- A DMA engine begins the job it has taken: its registers, its CRC register seeded, or its end where the descriptor breaks R203 (R203, R210). -/
def State.dmaBegin (s : State) (n : Nat) : State :=
  match s.job 2 n with
  | none => s
  | some j =>
    let k := { j with crc := field j.desc 0x18 4 }
    let s1 := ((((s.setJob 2 n (some k)).wr DMA.STAT.state 1 n).wr DMA.RING.ring j.ring n).wr DMA.CRC_STATE.crc k.crc n).count .dma n 0
    if dmaBad j.desc then s1.dmaEnd n k 1 Code.RING_BAD_DESC 0 0 false else s1

/-- Whether a DMA engine still waits for the record of its last job: one is due in a queue that can take it (R200, R204 step 6). -/
def State.dmaOwes (s : State) (n : Nat) : Bool :=
  s.rings.recs.any (fun e => e.source == 2 * 4096 + n * 256 && e.final && !e.stalled && (s.ring (s.queueOf e.ring)).takes)

/-- A free DMA engine takes its next job, once its last record is visible or held (R193, R200, R204). -/
def State.dmaBoundary (s : State) (n : Nat) : State :=
  if (s.job 2 n).isSome || s.dmaOwes n then s
  else match s.pickRing 2 n with
    | some r => (s.startJob r 2 n).dmaBegin n
    | none => s

/-- JOB_START: engine n of a class chooses its next job. Capture pipes and stream fetch take entries as their pipelines need them (R193). -/
def execJobStart (cls : Fin 5) (n : Fin 16) (s : State) : Out :=
  .next (match cls.val with
    | 0 => if n.val < 2 then s.gfxBoundary n.val else s
    | 1 => if n.val < 4 then s.compBoundary n.val else s
    | 2 => if n.val < 8 then s.dmaBoundary n.val else s
    | _ => s)

/-- The ring whose job or packet a wait of a key belongs to. -/
def State.waitRing (s : State) (key : Nat) : Option Nat :=
  match s.gfx.held.find? (fun r => r.ctx == key) with
  | some r => some r.job.ring
  | none =>
    match [0, 1].findSome? (fun e => (s.gfxCur e).bind (fun r => if r.ctx = key then some r.job.ring else none)) with
    | some r => some r
    | none => (((List.range 8).map s.pend).flatten.find? (fun p => (List.range p.recs.length).any (fun i => packetWait p i == key))).map (·.ring)

/-- Give the wait of a key a new value. -/
def State.setWait (s : State) (x : Wait) : State :=
  { s with rings := { s.rings with waits := s.rings.waits.map (fun (y : Wait) => if y.key = x.key then x else y) } }

/-- FENCE_WAIT_MET: the slot of a registered wait is read again (R195). -/
def execFenceWaitMet (f : WaitRef) (s : State) : Out :=
  .next (match f with
    | .ring r => if (s.ring r.val).st = 3 then s.settle 5 r.val else s
    | .other key =>
      match s.waitOf key with
      | none => s
      | some x =>
        let t := s.testWait x
        (t.1.setWait t.2).discardAll)

/-- Whether a wait that began at a time has lasted longer than a limit in ms; 0 is no limit (R181, R196). -/
def State.waitedOut (s : State) (since limit : Nat) : Bool := limit != 0 && s.past since (ms limit + 1)

/-- The end of a ring's next job because its wait limit has passed (R196). -/
def State.ringTimeout (s : State) (r : Nat) : State :=
  let c := s.ring r
  match c.pre with
  | [] => s
  | e :: _ =>
    match entryWait c.type e.2.2 with
    | none => s
    | some (f, _) =>
      if c.st = 3 ∧ s.waitedOut c.waitAt c.waitLimit then
        ((s.endUnstarted r Code.FENCE_TIMEOUT (if c.type = 3 then s.fenceAddr f else 0)).count .rsched 0 10).settle 5 r
      else s

/-- FENCE_TIMEOUT: a wait has lasted longer than its ring's wait_limit_ms (R196). -/
def execFenceTimeout (f : WaitRef) (s : State) : Out :=
  .next (match f with
    | .ring r => s.ringTimeout r.val
    | .other key =>
      match s.waitOf key, s.waitRing key with
      | some x, some r =>
        if x.met || x.code != 0 || !s.waitedOut x.since (s.ring r).waitLimit then s
        else ((s.setWait { x with code := Code.FENCE_TIMEOUT }).count .rsched 0 10).discardAll
      | _, _ => s)

end Sys2Proof.Machine
end

