-- ==== Sys2Proof/Machine/Pot.lean ====
section
/-! DEFINITION. The page owner table's commands, the revoke epoch and the owner sweep (R109 to R117, R121, R134). -/

namespace Sys2Proof.Machine

/-- Frames of usable DRAM (R109). -/
def Variant.frames (v : Variant) : Nat := v.dramTop / 4096

/-- The owner a command stores: owner 0 is the manager (R110). -/
def storedOwner (e : Nat) : Nat := if e % 256 = 0 then 0xFE else e % 256

/-- The frames of a POT command's range. -/
def State.potRange (s : State) : List Nat :=
  (List.range (s.rd POT.CMD_COUNT.count)).map (fun k => s.rd POT.CMD_PFN.pfn + k)

/-- The entry a command gives a page, before scrub_pend (R110, R114). -/
def State.newEntry (s : State) (op pfn : Nat) : Nat :=
  let e := s.rd POT.CMD_ENTRY.entry
  let old := s.potEntry pfn
  (if op = 1 then storedOwner e else old % 256) + bits e 8 6 * 256

/-- Whether an entry's owner is a vale. -/
def valeOwned (e : Nat) : Bool := decide (64 ≤ e % 256 ∧ e % 256 < 128)

/-- Whether a command would set gate on a page owned by a vale, or clear it on a page the vale keeps (R134). -/
def State.gateBreak (s : State) (op pfn : Nat) : Bool :=
  let old := s.potEntry pfn
  let new := s.newEntry op pfn
  valeOwned new && (bit new 12 != (bit old 12 && decide (old % 256 = new % 256)))

/-- The refusal of a POT command, and whether it is decided after the write (R110, R114 to R116, R134, R449). Which code is recorded where several
checks fail is a DESIGN CHOICE (log 184): busy, command, range, owner, keep, gate. R110's bound on the owner is not asked of SET_ATTR and SHARE,
which store none (DESIGN CHOICE, log 185). -/
def State.potRefusal (s : State) (op : Nat) (keep : Bool) : Option (Nat × Bool) :=
  let e := s.rd POT.CMD_ENTRY.entry
  let n := s.rd POT.CMD_COUNT.count
  if s.on POT.CMD_OP.busy then some (Code.POT_BUSY, false)
  else if op = 0 ∨ (op = 3 ∧ bits e 8 4 = 0) then some (Code.POT_BAD_CMD, false)
  else if op ≠ 3 ∧ (n = 0 ∨ s.variant.frames < s.rd POT.CMD_PFN.pfn + n ∨ s.potRange.any (fun p => bit (s.potEntry p) 15)) then
    some (Code.POT_RANGE, false)
  else if op = 1 ∧ 128 ≤ e % 256 ∧ e % 256 ≤ 253 then some (Code.POT_BAD_OWNER, false)
  else if keep && !(op == 1 && storedOwner e == 0xFE && !(s.potRange.any (fun p => valeOwned (s.potEntry p)))) then
    some (Code.POT_KEEP_DENIED, true)
  else if op ≠ 3 && s.potRange.any (s.gateBreak op) then some (Code.VALE_GATE, true)
  else none

/-- Start an epoch over a set of frames (steps 1 to 4 of R116): each gets its new entry, with scrub_pend where it is to
be scrubbed, and the epoch increments; a port that has not yet acknowledged goes on with the old entries its cache holds. -/
def State.startEpoch (s : State) (op owner : Nat) (set : List (Nat × Nat × Bool)) : State :=
  let old := set.foldl (fun m e => mset m e.1 (s.potEntry e.1) 0) ([] : SMap Nat)
  let s1 := set.foldl (fun t e => t.setPotEntry e.1 (e.2.1 + (if e.2.2 then 0x4000 else 0))) s
  let scrub := (set.filter (fun e => e.2.2)).map (·.1)
  let s2 := { s1 with pot := { s1.pot with
    op := op, step := 4, scrub := scrub, owner := owner, since := s1.now, old := old, acked := 0
    cache := mdrop s1.pot.cache (freshKey 0) (freshKey 32), groups := mdrop s1.pot.groups (freshKey 0) (freshKey 32) } }
  (((s2.wr POT.CMD_OP.busy 1).wr POT.CMD_STAT.scrub_left (min 0xFFFF scrub.length)).wr POT.CMD_STAT.epoch
    (s2.rd POT.CMD_STAT.epoch + 1)).count .pot 0 67

/-- A write of CMD_OP (R114 to R117). -/
def State.potCommand (s : State) (w : Who) (op : Nat) (keep : Bool) : State :=
  s.onWrite w .pot 0 0x114 (op + (if keep then 256 else 0)) (fun t =>
    match t.potRefusal op keep with
    | some (c, false) => t.refuse .pot 0 c w.rid 0x114
    | some (c, true) => t.recErr .pot 0 c w.rid 0x114
    | none =>
      let t1 := t.count .pot 0 64
      if op = 3 then
        let g := bits (t.rd POT.CMD_ENTRY.entry) 8 4
        ({ t1 with pot := { t1.pot with
            oldMask := some (g, mget t1.pot.shareMask g 0)
            shareMask := mset t1.pot.shareMask g (t.rd POT.SHARE_MASK.mask) 0 } }).startEpoch 3 0 []
      else
        t1.startEpoch op 0 (t.potRange.map (fun p =>
          (p, t.newEntry op p, op == 1 && !keep && t.potEntry p % 256 != t.newEntry op p % 256))))

/-- POT_SET (R114). -/
def execPotSet (w : Who) (keep : Bool) (s : State) : Out := .next (s.potCommand w 1 keep)
/-- POT_SET_ATTR (R114). -/
def execPotSetAttr (w : Who) (keep : Bool) (s : State) : Out := .next (s.potCommand w 2 keep)
/-- POT_SHARE (R114, R116). -/
def execPotShare (w : Who) (keep : Bool) (s : State) : Out := .next (s.potCommand w 3 keep)

/-- Every port has dropped what the epoch changed (R116 step 2). -/
def State.portsDrop (s : State) : State :=
  let t := (List.range 17).foldl (fun u p => if bit u.pot.acked p then u else u.portDrop p) s
  { t with pot := { t.pot with old := [], oldMask := none } }

/-- Requests accepted under an earlier epoch that still wait at the DRAM controller (R116 step 5). -/
def State.inFlight (s : State) : Bool := s.mem.pool.any (fun w => w.epoch != s.rd POT.CMD_STAT.epoch)

/-- POT_EPOCH_DRAINED: step 5 of the running command or sweep ends, no access of an earlier epoch being in flight, and scrubbing starts (R116). -/
def execPotEpochDrained (s : State) : Out :=
  .next (if s.pot.op ≠ 0 ∧ s.pot.step = 4 ∧ !s.inFlight then
      let t := s.portsDrop
      { t with pot := { t.pot with step := 6 } }
    else s)

/-- Step 6 and the end of the epoch: the pages are zeroed, scrub_pend clears, busy clears (R116, R121). -/
def State.endEpoch (s : State) : State :=
  let s1 := s.pot.scrub.foldl (fun t p => (t.zeroPage p).setPotEntry p (clrBit (t.potEntry p) 14)) s
  let s2 := s1.count .pot 0 65 s.pot.scrub.length
  (({ s2 with pot := { s2.pot with op := 0, step := 0, scrub := [], owner := 0 } }).wr POT.CMD_STAT.scrub_left 0).wr
    POT.CMD_OP.busy 0

/-- POT_CMD_DONE: scrubbing of a POT command ends and cmd_done is set (R116). -/
def execPotCmdDone (s : State) : Out :=
  .next (if s.pot.op ≠ 0 ∧ s.pot.op ≤ 3 ∧ s.pot.step = 6 then s.endEpoch.raise .pot 0 8 else s)

/-- The frames whose entry differs from the boot ROM's, from the listed bytes of the table. -/
def State.listedFrames (s : State) : List Nat :=
  ((s.dram.filter (fun c => decide (s.variant.tableBase ≤ c.1))).map (fun c => (c.1 - s.variant.tableBase) / 2)).eraseDups

/-- The owners a sweep of instance k selects: the instance and its vales; of vale v (64 + v), the vale alone (R121, R135). -/
def State.swept (s : State) (owner e : Nat) : Bool :=
  e % 256 == owner ||
    (decide (owner < 64) && valeOwned e && s.rd WORLD.VALE_STAT.state (b := e % 256 - 64) != 0 &&
      s.rd WORLD.VALE_STAT.parent (b := e % 256 - 64) == owner)

/-- Start an owner sweep: every selected entry becomes the manager's with all attributes clear; pages of vales are
scrubbed, the instance's own if asked (R121). -/
def State.startSweep (s : State) (owner : Nat) (own : Bool) : State :=
  s.startEpoch 4 owner ((s.listedFrames.filter (fun p => s.swept owner (s.potEntry p))).map (fun p =>
    (p, 0xFE, valeOwned (s.potEntry p) || own)))

end Sys2Proof.Machine
end

