-- ==== Sys2Proof/Machine/SafetyLink.lean ====
section
/-! DEFINITION. The safety link: transactions, the frames of the machine's safety controller and their answers, errors and resynchronisation (R331 to
R334). -/

namespace Sys2Proof.Machine

/-- A frame: sequence, type, payload padded to 24 bytes, CRC-32C (R332). -/
def slFrame (seq type : Nat) (payload : List Byte) : List Byte :=
  let b := leBytes 2 seq ++ leBytes 1 type ++ [0] ++ (payload ++ List.replicate 24 0).take 24
  b ++ leBytes 4 (crc32c b)

/-- Whether the link is served: the firmware runs, and not in Deep sleep or Off (R82, R83). -/
def State.slServed (s : State) : Bool :=
  s.on SAFE.ISL_STAT.fw_running && !decide (s.rd PWR.STATE.state = 3 ∨ s.rd PWR.STATE.state = 4)

/-- Heads showing a source. -/
def State.sourceMask (s : State) (src : Nat) : Nat :=
  (List.range 8).foldl (fun m h => if s.rd SAFE.HB_STAT.source 0 h = src then setBit m h else m) 0

/-- Payload of a STATUS frame (R333). -/
def State.slStatus (s : State) : List Byte :=
  let wins := (List.range 32).foldl (fun m k => if (s.win k).stands then setBit m k else m) 0
  leBytes 1 (s.rd SAFE.ISL_STAT.fault) ++ leBytes 1 (s.sourceMask 0) ++ leBytes 1 (s.sourceMask 1) ++ leBytes 1 (s.sourceMask 2) ++
    leBytes 2 (s.rd SAFE.LOG_NEWEST.seq) ++ leBytes 2 (s.rd SAFE.SL_STAT.rx_seq) ++ leBytes 4 wins

/-- The module sends its frame: the oldest answer due, else STATUS (R331). -/
def State.slSend (s : State) : State :=
  let c := s.safe
  let (a, rest) := match c.slOut with | x :: r => (x, r) | [] => ((0x81, s.slStatus), [])
  ({ s with safe := { c with slOut := rest, slTx := slFrame c.slNext a.1 a.2, slNext := (c.slNext + 1) % 65536 } }).wr
    SAFE.SL_STAT.tx_seq c.slNext

/-- An answer is due. -/
def State.slAnswer (s : State) (type : Nat) (payload : List Byte) : State :=
  { s with safe := { s.safe with slOut := s.safe.slOut ++ [(type, payload)] } }

/-- An SL_ code is reported: the link is in error, and the heads that depend on it go to their safe state by the fault line (R334). -/
def State.slError (s : State) (code ctr : Nat) : State :=
  let s1 := ((s.wr SAFE.ISL_STAT.link 2).count .safe 0 ctr).raise .safe 0 12
  ({ s1 with safe := { s1.safe with slSeq := none, slRun := 0 } }).faultLine code .safe 0 (s.rd SAFE.SAFE_CFG.link_dep)

/-- The frames that answer a LOG_REQ: the entries from a sequence on, up to half the range ahead, oldest first (R333). -/
def State.slLogs (s : State) (first : Nat) : State :=
  let l := s.safe.log.filter (fun e => decide ((e.seq + 65536 - first) % 65536 < 32768))
  (l.zip (List.range l.length)).foldl (fun t p => t.slAnswer 0x82 (p.1.bytes ++ leBytes 2 (l.length - 1 - p.2))) s

/-- A valid frame acts (R333). -/
def State.slAct (s : State) (seq type : Nat) (p : List Byte) : State :=
  if type = 1 then { s with safe := { s.safe with machine := leVal (p.take 4), needed := leVal ((p.drop 4).take 1), vis := some (leVal ((p.drop 5).take 6)) } }
  else if type = 2 then { s with safe := { s.safe with cleared := true } }
  else if type = 3 then s.slLogs (leVal (p.take 2))
  else if type = 4 then s.wake 4
  else s.slAnswer 0x83 (leBytes 1 3 ++ leBytes 2 seq)

/-- A frame that passes its checks is accepted (R334). -/
def State.slAccept (s : State) (seq : Nat) : State :=
  let run := s.safe.slRun + 1
  let link := s.rd SAFE.ISL_STAT.link
  let s1 := { s with safe := { s.safe with slSeq := some seq, slRun := run, slLast := s.now, slMute := false } }
  let s2 := (s1.wr SAFE.SL_STAT.rx_seq seq).count .safe 0 4
  if link = 0 ∨ (link = 2 ∧ max 1 (s.rd SAFE.SL_CFG.resync) ≤ run) then s2.wr SAFE.ISL_STAT.link 1 else s2

/-- A transaction carries the bytes of the master's frame (R331 to R334). -/
def State.slTransaction (s : State) (d : List Byte) : State :=
  if !s.slServed then s
  else
    let s0 := { s with safe := { s.safe with slHeard := true } }
    let seq := leVal (d.take 2)
    if d.length ≠ 32 then (s0.slError Code.SL_CRC 5).slAnswer 0x83 (leBytes 1 1 ++ leBytes 2 seq)
    else
      let s1 := s0.slSend
      if leVal (d.drop 28) ≠ crc32c (d.take 28) then (s1.slError Code.SL_CRC 5).slAnswer 0x83 (leBytes 1 1 ++ leBytes 2 seq)
      else if (match s1.safe.slSeq with | some q => decide ((q + 1) % 65536 ≠ seq) | none => false) then
        (s1.slError Code.SL_SEQ 6).slAnswer 0x83 (leBytes 1 2 ++ leBytes 2 seq)
      else (s1.slAccept seq).slAct seq (leVal ((d.drop 2).take 1)) ((d.drop 4).take 24)

/-- SL_TRANSACTION: bytes as clocked in (R331). -/
def execSlTransaction (d : List Byte) (s : State) : Out := .next (s.slTransaction d)

/-- SL_STATE: a transaction with a STATE frame (R333). -/
def execSlState (seq : BitVec 16) (machine : Word) (needed : Byte) (vis : BitVec 48) (s : State) : Out :=
  .next (s.slTransaction (slFrame seq.toNat 1 (leBytes 4 machine.toNat ++ leBytes 1 needed.toNat ++ leBytes 6 vis.toNat)))

/-- SL_CLEAR: a transaction with a CLEAR frame (R333). -/
def execSlClear (seq : BitVec 16) (s : State) : Out := .next (s.slTransaction (slFrame seq.toNat 2 []))

/-- SL_LOG_REQ: a transaction with a LOG_REQ frame (R333). -/
def execSlLogReq (seq first : BitVec 16) (s : State) : Out := .next (s.slTransaction (slFrame seq.toNat 3 (leBytes 2 first.toNat)))

/-- SL_WAKE: a transaction with a WAKE frame (R333). -/
def execSlWake (seq : BitVec 16) (s : State) : Out := .next (s.slTransaction (slFrame seq.toNat 4 []))

/-- SL_TIMEOUT: no valid frame within SL_CFG.timeout_ms; told once until one comes (R334, R335). -/
def execSlTimeout (s : State) : Out :=
  .next (if !s.slServed ∨ s.safe.slMute ∨ s.now < s.safe.slLast + clamp 5 1000 (s.rd SAFE.SL_CFG.timeout_ms) * 1000000 then s
    else ({ s with safe := { s.safe with slMute := true } }).slError Code.SL_TIMEOUT 7)

end Sys2Proof.Machine
end

