-- ==== Sys2Proof/Machine/Worlds.lean ====
section
/-! DEFINITION. World registers on the harts, vale life, PASS and its exits, and the DMA owner attribute (R108, R131 to
R145). -/

namespace Sys2Proof.Machine

/-! ### Harts (R108, R131) -/

/-- A hart. -/
def State.hart (s : State) (h : Nat) : Hart := mget s.world.harts h {}

/-- Set a hart by something it executes or a trap it takes: it is not in WFI. -/
def State.setHart (s : State) (h : Nat) (c : Hart) : State :=
  { s with world := { s.world with harts := mset s.world.harts h { c with wfi := false } {} } }

/-- Whether a mode has V = 1. -/
def Mode.virt : Mode → Bool
  | .vs | .vu => true
  | .hs | .u => false

/-- Whether a mode is a user mode. -/
def Mode.user : Mode → Bool
  | .u | .vu => true
  | .hs | .vs => false

/-- A list of numbered values as a map in canonical form; register x0 has no entry where zero says so. -/
def toMap {n w : Nat} (zero : Bool) (l : List (Fin n × BitVec w)) : SMap Nat :=
  l.foldl (fun m e => if zero && e.1.val == 0 then m else mset m e.1.val e.2.toNat 0) []

/-- The register values of an operand context. -/
def HartCtx.regs (c : HartCtx) : HartRegs :=
  { pc := c.pc.toNat, x := toMap true c.x, f := toMap false c.f, v := toMap false c.v,
    vcsr := c.vcsr.foldl (fun m e => mset m e.1.toNat e.2.toNat 0) [] }

/-- Current world of a hart in a mode (R131). -/
def Hart.wid (c : Hart) (m : Mode) : Nat :=
  match c.vale with
  | some v => 64 + v
  | none => if m.virt then c.tag else 0xFE

/-- Where a hart takes a trap from a mode: what medeleg or mideleg does not delegate goes to machine mode, what hedeleg or hideleg delegates further
from V = 1 to VS-mode, the rest to HS-mode (R139). -/
def Hart.target (c : Hart) (virt interrupt : Bool) (cause : Nat) : Target :=
  let m := if interrupt then c.mideleg else c.medeleg
  let h := if interrupt then c.hideleg else c.hedeleg
  if !bit m cause then .m else if virt && bit h cause then .vs else .hs

/-- The trap a hart takes from a mode. -/
def Hart.trapFrom (c : Hart) (virt interrupt : Bool) (cause stval htval epc : Nat) : Option Trap :=
  some ⟨c.target virt interrupt cause, interrupt, cause, stval, htval, epc⟩

/-- A hart takes a trap that suspends no frame. -/
def State.trapTo (s : State) (h : Nat) (virt interrupt : Bool) (cause stval htval epc : Nat) : State :=
  s.setHart h { s.hart h with trap := (s.hart h).trapFrom virt interrupt cause stval htval epc, susp := false }

/-- A hart that executes an instruction is not in WFI (R83). -/
def State.awake (s : State) (h : Nat) : State := s.setHart h (s.hart h)

/-! ### Leaving a vale (R141 to R143) -/

/-- A hart acting under the ID of vale v (R107). -/
def valeReq (h v : Nat) : Req := { id := 64 + v, hart := true, port := portHart h }

/-- Whether a hart in vale v can write its frame: the pages still answer the vale's own ID (R111, R143). -/
def State.frameOk (s : State) (h v frame : Nat) : Bool := (s.memFault (valeReq h v) true frame 2048).isNone

/-- Set a frame's state word under the vale's ID (R137). -/
def State.setFrame (s : State) (h v frame st : Nat) : State := s.put (valeReq h v) frame (leBytes 4 st)

/-- One hart fewer executes in a vale. -/
def State.leaveVale (s : State) (v : Nat) : State :=
  s.wr WORLD.VALE_STAT.inside (s.rd WORLD.VALE_STAT.inside (b := v) - 1) (b := v)

/-- Registers of a hart after an exit: zeroed but for the caller's sp, ra and the ENTER's rs1 and rs2 (R142). -/
def Hart.exitRegs (c : Hart) : HartRegs :=
  let put := fun (m : SMap Nat) (r v : Nat) => if r = 0 then m else mset m r v 0
  { pc := c.enterPc, x := put (put (put (put [] 2 c.sp) 1 c.ra) c.r1 c.v1) c.r2 c.v2 }

/-- The vector CSRs: vstart, vxsat, vxrm, vcsr, vl, vtype and vlenb (R137). -/
def vectorCsrs : List Nat := [0x008, 0x009, 0x00A, 0x00F, 0xC20, 0xC21, 0xC22]

/-- Saved registers as a frame holds them from offset 8: pc, x1 to x31, f0 to f31 and the vector CSRs as 8 bytes each, v0 to v31 as 32. R137 gives
what a frame holds and not where: DESIGN CHOICE (log 84). -/
def HartRegs.bytes (c : HartRegs) : List Byte :=
  leBytes 8 c.pc ++ ((List.range 31).map (fun k => leBytes 8 (mget c.x (k + 1) 0))).flatten ++
    ((List.range 32).map (fun k => leBytes 8 (mget c.f k 0))).flatten ++ ((List.range 32).map (fun k => leBytes 32 (mget c.v k 0))).flatten ++
    (vectorCsrs.map (fun k => leBytes 8 (mget c.vcsr k 0))).flatten

/-- A map from values read one after the other, numbered by a list. -/
def mapOf (ks : List Nat) (g : Nat → Nat) : SMap Nat := ((List.range ks.length).zip ks).foldl (fun m e => mset m e.2 (g e.1) 0) []

/-- The registers a frame holds (R137, R140). -/
def State.loadFrame (s : State) (frame : Nat) : HartRegs :=
  { pc := s.rdMem (frame + 8) 8
    x := mapOf ((List.range 31).map (· + 1)) (fun k => s.rdMem (frame + 16 + 8 * k) 8)
    f := mapOf (List.range 32) (fun k => s.rdMem (frame + 264 + 8 * k) 8)
    v := mapOf (List.range 32) (fun k => s.rdMem (frame + 520 + 32 * k) 32)
    vcsr := mapOf vectorCsrs (fun k => s.rdMem (frame + 1544 + 8 * k) 8) }

/-- Write the registers of a hart to its frame under the vale's ID (R137, R142). -/
def State.saveFrame (s : State) (h v frame : Nat) (ctx : HartRegs) : State := s.put (valeReq h v) (frame + 8) ctx.bytes

/-- The exit of R142: the frame is saved and suspended, or lost if it cannot be written; then the trap in the caller's
world. -/
def State.suspend (s : State) (h : Nat) (virt interrupt : Bool) (cause addr : Nat) (ctx : HartRegs) : State :=
  let c := s.hart h
  match c.vale with
  | none => s.trapTo h virt interrupt cause addr addr ctx.pc
  | some v =>
    let a := if interrupt then 0 else addr / 4096 * 4096
    let ok := s.frameOk h v c.frame
    let s1 := if ok then (s.saveFrame h v c.frame ctx).setFrame h v c.frame 2 else s
    (s1.leaveVale v).count .world 0 3 |>.setHart h
      { c with
        vale := none, regs := c.exitRegs, cause := if ok then 0 else 11, susp := ok
        trap := c.trapFrom true interrupt cause a a c.enterPc }

/-- The exit of R143: the frame is ended, or lost, and cause 24 is raised in the caller's world. -/
def State.valeFault (s : State) (h : Nat) : State :=
  let c := s.hart h
  match c.vale with
  | none => s
  | some v =>
    let ok := s.frameOk h v c.frame
    let s1 := if ok then s.setFrame h v c.frame 3 else s
    (s1.leaveVale v).count .world 0 4 |>.setHart h
      { c with
        vale := none, regs := c.exitRegs, cause := if ok then 10 else 11, susp := false
        trap := c.trapFrom true false 24 0 0 c.enterPc }

/-- An illegal-instruction exception: in a vale it ends the frame (R143); elsewhere it is taken with a stval the spec does
not give. -/
def State.illegal (s : State) (h : Nat) (virt : Bool) (pc : Nat) : State :=
  match (s.hart h).vale with
  | some _ => s.valeFault h
  | none => ({ s with free := s.free + 1 }).trapTo h virt false 2 (Config.freeValue s.free).toNat 0 pc

/-- A poisoned-data response to a hart: a load access fault, or an instruction access fault for a fetch, at an address the spec does not give stval
(R170). In a vale it ends the frame (R143). -/
def State.poisonFault (s : State) (h : Nat) (virt fetch : Bool) : State :=
  match (s.hart h).vale with
  | some _ => s.valeFault h
  | none =>
    ({ s with free := s.free + 2 }).trapTo h virt false (if fetch then 1 else 5) (Config.freeValue s.free).toNat 0
      (Config.freeValue (s.free + 1)).toNat

/-- A PASS fault that changes no state: cause 24 with a subcode (R139, R141). -/
def State.passFault (s : State) (h : Nat) (virt : Bool) (pc code : Nat) : State :=
  (s.count .world 0 4).setHart h { s.hart h with cause := code, susp := false, trap := (s.hart h).trapFrom virt false 24 0 0 pc }

/-- INSTANCE_TAG_WRITE: HS-mode sets the tag, 0xFF for 0 and for values above 63; any other mode takes an
illegal-instruction exception (R108). -/
def execInstanceTagWrite (h : Fin 16) (m : Mode) (pc v : BitVec 64) (s : State) : Out :=
  .next (if m = .hs ∧ (s.hart h.val).vale = none then
      s.setHart h.val { s.hart h.val with tag := if v.toNat = 0 ∨ 63 < v.toNat then 0xFF else v.toNat }
    else s.illegal h.val m.virt pc.toNat)

/-- WORLD_CSR_ACCESS: a read of wid or passcause from HS-mode or VS-mode; a write, or a read from U-mode or VU-mode, is
illegal (R131). -/
def execWorldCsrAccess (h : Fin 16) (m : Mode) (pc : BitVec 64) (passcause write : Bool) (s : State) : Out :=
  let c := s.hart h.val
  .next (if write || m.user then s.illegal h.val m.virt pc.toNat
    else if passcause then (s.awake h.val).okResp (c.cause + (if c.susp then 256 else 0))
    else (s.awake h.val).okResp (c.wid m))

/-- What a word of the custom-0 opcode spells (R138): PASS.ENTER with its rs1 and rs2, PASS.RET, the PASS-mark, or nothing. -/
inductive PassWord where
  | enter (rs1 rs2 : Nat)
  | ret | mark | illegal
deriving DecidableEq, Repr

/-- The encodings of R138. -/
def passWord (w : Nat) : PassWord :=
  if w = 0x0000100B then .ret
  else if w = 0x5A00700B then .mark
  else if w % 2 ^ 15 = 0x0B ∧ w / 2 ^ 25 = 0 then .enter (bits w 15 5) (bits w 20 5)
  else .illegal

/-- CUSTOM0_ILLEGAL: a word of custom-0 that R138 does not list; a listed one is another command. -/
def execCustom0Illegal (h : Fin 16) (m : Mode) (pc : BitVec 64) (w : Word) (s : State) : Out :=
  .next (if passWord w.toNat = .illegal then s.illegal h.val m.virt pc.toNat else s)

/-! ### PASS (R136 to R143) -/

/-- Take a page or guest-page fault met while PASS.ENTER checks (R139). -/
def State.xlatFault (s : State) (h : Nat) (virt : Bool) (pc : Nat) (guest fetch : Bool) (va : Nat) : State :=
  s.trapTo h virt false (if guest then (if fetch then 20 else 21) else (if fetch then 12 else 13)) va 0 pc

/-- Whether a page frame is owned by vale v with gate as given. -/
def State.valePage (s : State) (pa : Nat) (v : Nat) (gate : Bool) : Bool :=
  decide (pa < s.variant.dramTop) && (s.potEntry (pa / 4096) % 256 == 64 + v) && (bit (s.potEntry (pa / 4096)) 12 == gate)

/-- Whether the 32 bytes at an address obey the rules of a gate descriptor of vale v (R136). -/
def State.descOk (s : State) (pa v : Nat) : Bool :=
  s.rdMem pa 4 == 64 + v && decide (1 ≤ s.rdMem (pa + 4) 4 ∧ s.rdMem (pa + 4) 4 ≤ 4096) &&
    s.rdMem (pa + 8) 8 % 4 == 0 && s.rdMem (pa + 16) 8 % 2048 == 0 && s.rdMem (pa + 24) 8 == 0

/-- Zero every register but a0 to a7 (R140, R141). -/
def keepArgs (c : HartRegs) : SMap Nat := c.x.filter (fun e => decide (10 ≤ e.1 ∧ e.1 ≤ 17))

/-- Enter the vale after the checks have passed: hidden registers saved, wid changed, registers of a fresh entry or of the
resumed frame (R140). -/
def State.passEnterGo (s : State) (h r1 r2 : Nat) (ctx : HartRegs) (v frame frameVa entry st : Nat) : State :=
  let s1 := (s.setFrame h v frame 1).count .world 0 (if st = 0 then 0 else 1)
  let s2 := s1.wr WORLD.VALE_STAT.inside (s1.rd WORLD.VALE_STAT.inside (b := v) + 1) (b := v)
  let g := fun r => mget ctx.x r 0
  let regs : HartRegs :=
    if st = 0 then { pc := entry, x := mset (keepArgs ctx) 5 frameVa 0, vcsr := ctx.vcsr } else s.loadFrame frame
  s2.setHart h
    { s.hart h with
      vale := some v, r1 := r1, r2 := r2, v1 := g r1, v2 := g r2, sp := g 2, ra := g 1, enterPc := ctx.pc
      frame := frame, regs := regs }

/-- PASS_ENTER: the checks of R139 in order, then the entry of R140. The translations of the descriptor's, the frame's
and the entry word's virtual addresses come with the command. A poisoned line of the descriptor, the frame or the entry word fails its check, and is
recorded; its bytes are not used (R139, R170, R224). -/
def State.passEnter (s : State) (h : Nat) (m : Mode) (r1 r2 : Nat) (ctx : HartRegs) (desc frame entry : Xlat) : State :=
  let c := s.hart h
  let va := mget ctx.x r1 0
  let f := mget ctx.x r2 0
  let bad := fun (t : State) (code : Nat) => t.passFault h m.virt ctx.pc code
  let poison := fun (v code : Nat) (r : Nat × Nat) => bad (s.memRecord (valeReq h v) r) code
  if c.vale ≠ none then bad s 6
  else if !m.virt then bad s 9
  else if va % 32 ≠ 0 then bad s 1
  else match desc with
  | .fault g => s.xlatFault h m.virt ctx.pc g false va
  | .pa d =>
    let pa := d.toNat / 32 * 32
    let e := s.potEntry (pa / 4096)
    let v := e % 256 - 64
    if s.variant.dramTop ≤ pa ∨ !bit e 12 ∨ !valeOwned e then bad s 1
    else match s.lineFault false pa 32 with
    | some r => poison v 2 r
    | none =>
      if !s.descOk pa v then bad s 2
      else if s.rd WORLD.VALE_STAT.parent (b := v) ≠ c.tag then bad s 3
      else if s.rd WORLD.VALE_STAT.state (b := v) ≠ 2 then bad s 4
      else if s.rdMem (pa + 4) 4 ≤ f then bad s 8
      else
        let fva := s.rdMem (pa + 16) 8 + f * 2048
        match frame with
        | .fault g => s.xlatFault h m.virt ctx.pc g false fva
        | .pa fp =>
          let fr := fp.toNat / 2048 * 2048
          let st := s.rdMem fr 4
          if !s.valePage fr v false ∨ !s.frameOk h v fr then bad s 8
          else match s.lineFault false fr (if st = 2 then 2048 else 4) with
          | some r => poison v 8 r
          | none =>
            if st ≠ 0 ∧ st ≠ 2 then bad s 8
            else if st = 2 then s.passEnterGo h r1 r2 ctx v fr fva (s.rdMem (pa + 8) 8) 2
            else match entry with
            | .fault g => s.xlatFault h m.virt ctx.pc g true (s.rdMem (pa + 8) 8)
            | .pa ep =>
              if s.variant.dramTop ≤ ep.toNat ∨ s.potEntry (ep.toNat / 4096) % 256 ≠ 64 + v then bad s 5
              else match s.lineFault false ep.toNat 4 with
              | some r => poison v 5 r
              | none =>
                if s.rdMem ep.toNat 4 ≠ 0x5A00700B then bad s 5
                else s.passEnterGo h r1 r2 ctx v fr fva (s.rdMem (pa + 8) 8) 0

/-- PASS_ENTER (R139, R140). -/
def execPassEnter (h : Fin 16) (m : Mode) (r1 r2 : Fin 32) (ctx : HartCtx) (desc frame entry : Xlat) (s : State) : Out :=
  .next (s.passEnter h.val m r1.val r2.val ctx.regs desc frame entry)

/-- PASS_RET: outside a vale it faults with not_in_vale; inside, the frame becomes idle and the hart continues after the
ENTER in the caller's world (R141). -/
def execPassRet (h : Fin 16) (m : Mode) (ctx : HartCtx) (s : State) : Out :=
  let c := s.hart h.val
  .next (match c.vale with
    | none => s.passFault h.val m.virt ctx.regs.pc 7
    | some v =>
      if s.frameOk h.val v c.frame then
        (((s.setFrame h.val v c.frame 0).leaveVale v).count .world 0 2).setHart h.val
          { c with
            vale := none
            regs := { pc := c.enterPc + 4, x := mset (mset (keepArgs ctx.regs) 2 c.sp 0) 1 c.ra 0, vcsr := ctx.regs.vcsr } }
      else s.valeFault h.val)

/-- PASS_MARK: a no-op in sequence (R138). -/
def execPassMark (h : Fin 16) (s : State) : Out := .next (s.awake h.val)

/-- SUSPENDING_EXIT: an interrupt, or a page or guest-page fault with its cause and address, taken in a vale (R142). -/
def execSuspendingExit (h : Fin 16) (m : Mode) (interrupt : Bool) (cause addr : BitVec 64) (ctx : HartCtx) (s : State) : Out :=
  .next (s.suspend h.val m.virt interrupt cause.toNat addr.toNat ctx.regs)

/-- VALE_FAULT_EXIT: any other exception taken in a vale (R143). -/
def execValeFaultExit (h : Fin 16) (s : State) : Out := .next (s.valeFault h.val)

/-! ### Vale life (R132 to R135) -/

/-- Refuse a write to WORLD. -/
def State.worldRefuse (s : State) (w : Who) (code off : Nat) : State := s.refuse .world 0 code w.rid off

/-- A write of VALE_CMD: a command from a state that does not allow it is refused (R132). -/
def State.valeCmd (s : State) (w : Who) (op : Nat) (gate : Bool) (allowed : Nat → Bool) (k : State → Nat → State) : State :=
  s.onWrite w .world 0 0x104 (op + (if gate then 256 else 0)) (fun t =>
    let v := t.rd WORLD.VALE_SEL.vale
    if t.on WORLD.VALE_STAT.busy (b := v) || !allowed (t.rd WORLD.VALE_STAT.state (b := v)) then
      t.worldRefuse w Code.VALE_STATE 0x104
    else k t v)

/-- A vale command is running. -/
def State.valeRun (s : State) (v op bad : Nat) : State :=
  ({ s with world := { s.world with run := mset s.world.run v op 0, bad := mset s.world.bad v bad 0 } }).wr
    WORLD.VALE_STAT.busy 1 (b := v)

/-- The digest of a vale as eight words. -/
def State.digest (s : State) (v : Nat) : List Nat := (List.range 8).map (fun j => s.rd WORLD.MEAS.digest 0 j v)

/-- Set the digest of a vale. -/
def State.setDigest (s : State) (v : Nat) (h : List Nat) : State :=
  (List.range 8).foldl (fun t j => t.wr WORLD.MEAS.digest (h.getD j 0) 0 j v) s

/-- VALE_OPEN (R132, R133). -/
def State.valeOpen (s : State) (w : Who) : State :=
  s.valeCmd w 1 false (· == 0) (fun t v =>
    let p := t.rd WORLD.VALE_PARENT.parent
    if p = 0 ∨ (t.instState p ≠ 1 ∧ t.instState p ≠ 2) then t.worldRefuse w Code.VALE_STATE 0x104
    else
      let t1 := ((t.wr WORLD.VALE_STAT.state 1 (b := v)).wr WORLD.VALE_STAT.parent p (b := v)).wr WORLD.LOAD_SEQ.seq 0 (b := v)
      let t2 := { t1 with world := { t1.world with part := mset t1.world.part v [] [] } }
      (t2.setDigest v shaInit).valeRun v 1 0)

/-- VALE_OPEN (R132). -/
def execValeOpen (w : Who) (s : State) : Out := .next (s.valeOpen w)

/-- The requester of LOAD's source reads, and of its destination writes (R107). -/
def loadSrc : Req := reqFor ridMgr portDevice
/-- See loadSrc. -/
def loadDst (v : Nat) : Req := reqFor (64 + v) portDevice

/-- The first access of a LOAD that R111 or DRAM refuses (R111, R170, R224). -/
def State.loadFault (s : State) (v n src dst : Nat) : Option (Req × Nat × Nat) :=
  (List.range n).findSome? (fun k =>
    match s.memFault loadSrc false ((src + k) * 4096) 4096 with
    | some r => some (loadSrc, r)
    | none => (s.memFault (loadDst v) true ((dst + k) * 4096) 4096).map (fun r => (loadDst v, r)))

/-- Copy one page into a vale and extend the measurement with its header and bytes (R133). -/
def State.loadPage (s : State) (v src dst : Nat) (gate : Bool) : State :=
  let d := s.rdBytes (src * 4096) 4096
  let msg := leBytes 8 (s.rd WORLD.LOAD_SEQ.seq (b := v)) ++ leBytes 8 (b2n gate) ++ d
  let h := shaAbsorb (s.digest v) (mget s.world.part v []) msg
  let s1 := ((s.fetched loadSrc (src * 4096) 4096).put (loadDst v) (dst * 4096) d).setDigest v h.1
  let s2 := { s1 with world := { s1.world with part := mset s1.world.part v h.2 [] } }
  let s3 := if gate then s2.setPotEntry dst (setBit (s2.potEntry dst) 12) else s2
  (s3.wr WORLD.LOAD_SEQ.seq (s3.rd WORLD.LOAD_SEQ.seq (b := v) + 1) (b := v)).count .world 0 5

/-- VALE_LOAD: pages are copied and measured in order under one epoch; a source not owned by 0xFE, a destination not owned by the vale, a count of 0,
or an access that R111 or DRAM refuses ends it with VALE_LOAD and copies nothing (R111, R133; log 88). -/
def State.valeLoad (s : State) (w : Who) (gate : Bool) : State :=
  s.valeCmd w 2 gate (· == 1) (fun t v =>
    let n := t.rd WORLD.LOAD_COUNT.count
    let src := t.rd WORLD.LOAD_SRC.pfn; let dst := t.rd WORLD.LOAD_DST.pfn
    let ok := decide (0 < n ∧ src + n ≤ t.variant.frames ∧ dst + n ≤ t.variant.frames) &&
      (List.range n).all (fun k => t.potEntry (src + k) % 256 == 0xFE && t.potEntry (dst + k) % 256 == 64 + v)
    let bad := if ok then t.loadFault v n src dst else none
    if ok ∧ bad = none then
      let t1 := (List.range n).foldl (fun u k => u.loadPage v (src + k) (dst + k) gate) t
      ((t1.wr POT.CMD_STAT.epoch (t1.rd POT.CMD_STAT.epoch + 1)).count .pot 0 67).valeRun v 2 0
    else
      (match bad with
        | some (q, r) => t.memRecord q r
        | none => t).valeRun v 2 1)

/-- VALE_LOAD (R133). -/
def execValeLoad (w : Who) (gate : Bool) (s : State) : Out := .next (s.valeLoad w gate)

/-- VALE_SEAL: the measurement is completed by SHA-256 padding (R133). -/
def State.valeSeal (s : State) (w : Who) : State :=
  s.valeCmd w 3 false (· == 1) (fun t v =>
    let h := shaFinish (t.digest v) (mget t.world.part v []) (t.rd WORLD.LOAD_SEQ.seq (b := v) * 4112)
    ((t.setDigest v h).wr WORLD.VALE_STAT.state 2 (b := v)).valeRun v 3 0)

/-- VALE_SEAL (R133). -/
def execValeSeal (w : Who) (s : State) : Out := .next (s.valeSeal w)

/-- VALE_CLOSE: refused while harts are inside; else the sweep of the vale's pages is due (R135). -/
def State.valeClose (s : State) (w : Who) : State :=
  s.valeCmd w 4 false (fun st => st == 1 || st == 2) (fun t v =>
    if t.rd WORLD.VALE_STAT.inside (b := v) ≠ 0 then t.worldRefuse w Code.VALE_BUSY 0x104
    else t.valeRun v 4 0)

/-- VALE_CLOSE (R135). -/
def execValeClose (w : Who) (s : State) : Out := .next (s.valeClose w)

/-- A vale becomes Free: its registers are as after reset, its pins are its parent's (R135, R434). -/
def State.freeVale (s : State) (v : Nat) : State :=
  let p := s.rd WORLD.VALE_STAT.parent (b := v)
  let s1 := ((((s.pinsReturn (64 + v) (if p = 0 then 0xFE else p)).wr WORLD.VALE_STAT.state 0 (b := v)).wr WORLD.VALE_STAT.parent 0 (b := v)).wr WORLD.VALE_STAT.busy 0 (b := v))
  { s1 with world := { s1.world with run := mset s1.world.run v 0 0, bad := mset s1.world.bad v 0 0 } }

/-- VALE_CMD_DONE: the running command of a vale ends; CLOSE ends once its sweep has scrubbed (R121, R135, R150). -/
def execValeCmdDone (v : Fin 64) (s : State) : Out :=
  let k := v.val
  let op := mget s.world.run k 0
  .next (if op = 0 then s
    else if op = 4 then
      if s.pot.op = 4 ∧ s.pot.owner = 64 + k ∧ s.pot.step = 6 then (s.endEpoch.freeVale k).raise .world 0 8 else s
    else
      let s1 := if mget s.world.bad k 0 = 0 then s else s.recErr .world 0 Code.VALE_LOAD ridMgr 0x104
      let s2 := { s1 with world := { s1.world with run := mset s1.world.run k 0 0, bad := mset s1.world.bad k 0 0 } }
      (s2.wr WORLD.VALE_STAT.busy 0 (b := k)).raise .world 0 8)

/-! ### Owner attributes (R145) -/

/-- A write of DMA_OWNERk: refused with WORLD_OWNER while the engine has a job in flight, and for values that name no
instance, Sealed vale or pool (R145). -/
def State.dmaOwner (s : State) (w : Who) (k v : Nat) : State :=
  let off := 0x140 + 4 * k
  s.onWrite w .world 0 off v (fun t =>
    let o := v % 256
    if t.job 2 k ≠ none ∨ (128 ≤ o ∧ o ≤ 254) ∨ (64 ≤ o ∧ o < 128 ∧ t.rd WORLD.VALE_STAT.state (b := o - 64) ≠ 2) then
      t.worldRefuse w Code.WORLD_OWNER off
    else t.wr WORLD.DMA_OWNER.owner o 0 k)

/-- DMA_OWNER_WRITE (R145). -/
def execDmaOwnerWrite (w : Who) (k : Fin 8) (v : Word) (s : State) : Out := .next (s.dmaOwner w k.val v.toNat)

end Sys2Proof.Machine
end

