-- ==== Sys2Proof/Machine/Isolation.lean ====
section
/-! DEFINITION. Instances: their allocation and life, quiesce, function-level reset, views, mailboxes, interrupts' rearm, and the secure watchdog
(R118 to R127, R147 to R149). -/

namespace Sys2Proof.Machine

/-! ### Allocation (R120, R451) -/

/-- The instance INST_SEL names. -/
def State.selInst (s : State) : Nat := s.rd MGR.INST_SEL.inst

/-- Instances 1 to 63 other than k that hold an allocation. -/
def State.holders (s : State) (k : Nat) : List Nat := (List.range 64).filter (fun j => decide (j ≠ 0 ∧ j ≠ k) && s.instState j != 0)

/-- Sum of an ALLOC field over the other holders. -/
def State.heldSum (s : State) (k : Nat) (f : Fld) : Nat := ((s.holders k).map (fun j => s.rd f (b := j))).sum

/-- Whether a mask register of k shares a bit with that of another holder. -/
def State.clash (s : State) (k : Nat) (f : Fld) (j : Nat := 0) : Bool :=
  (s.holders k).any (fun i => s.rd f 0 j i &&& s.rd f 0 j k != 0)

/-- Whether haptic channels are asked for without their surface (R120 row 8). -/
def State.haptAlone (s : State) (k : Nat) : Bool :=
  (List.range 32).any (fun c => bit (s.rd MGR.ALLOC_HAPT.channels (b := k)) c && !bit (s.rd MGR.ALLOC_SURF.surfaces (b := k)) (c / 4))

/-- Whether a layer of the mask is reserved to the manager's station layout (R254). -/
def State.layerReserved (s : State) (k h : Nat) : Bool :=
  (s.rd MGR.ALLOC_LAYER.layers 0 h k) &&& (bits (s.rd COMP.MGR_LAYERS.reserved (h / 2)) (16 * (h % 2)) 16) != 0

/-- The first row of R120 that the allocation of k fails, rows 1 to 10. -/
def State.poolRow (s : State) (k : Nat) : Option Nat :=
  let g := fun (f : Fld) => s.rd f (b := k)
  if 4096 < g MGR.ALLOC_RINGS.count ∨ 262144 < 4096 + s.heldSum k MGR.ALLOC_RINGS.count + g MGR.ALLOC_RINGS.count then some 1
  else if s.clash k MGR.ALLOC_HEADS.heads then some 2
  else if (List.range 8).any (fun h => s.clash k MGR.ALLOC_LAYER.layers h || s.layerReserved k h) then some 3
  else if 64 < s.rd GFX.MGR_ALLOC.contexts + s.heldSum k MGR.ALLOC_GPU.contexts + g MGR.ALLOC_GPU.contexts ∨
      256 < s.rd GFX.MGR_ALLOC.share + s.heldSum k MGR.ALLOC_GPU.share + g MGR.ALLOC_GPU.share then some 4
  else if 64 < s.heldSum k MGR.ALLOC_AUDIO.streams + g MGR.ALLOC_AUDIO.streams then some 6
  else if s.clash k MGR.ALLOC_SURF.surfaces then some 7
  else if s.clash k MGR.ALLOC_HAPT.channels || s.haptAlone k then some 8
  else if s.clash k MGR.ALLOC_CAM.ports then some 9
  else if s.clash k MGR.ALLOC_PIN0.gpio_lo || s.clash k MGR.ALLOC_PIN1.gpio_enc || s.clash k MGR.ALLOC_PIN2.din then some 10
  else none

/-- The pins of an allocation, by pin index (R120, R434). -/
def State.allocPins (s : State) (k : Nat) : List Nat :=
  (List.range 32).filter (fun i => bit (s.rd MGR.ALLOC_PIN0.gpio_lo (b := k)) i) ++
    ((List.range 32).filter (fun i => bit (s.rd MGR.ALLOC_PIN1.gpio_enc (b := k)) i)).map (· + 32) ++
    ((List.range 32).filter (fun i => bit (s.rd MGR.ALLOC_PIN2.din (b := k)) i)).map (· + 64)

/-- Take the class B reservation of an instance: its bucket begins full (R162, R167). -/
def State.admitInst (s : State) (k rate : Nat) : State :=
  let s1 := (s.bucketFill (instBucket k)).wr DRAMQ.ADMIT_USED.used (s.rd DRAMQ.ADMIT_USED.used + rate)
  if rate = 0 then s1
  else ({ s1 with mem := { s1.mem with admSeq := s1.nextAdmission } }).wr DRAMQ.RES_STAT.admit_seq s.nextAdmission (b := k)

/-- The class B reservation of an instance ends; its capacity is free at once (R167). -/
def State.freeBw (s : State) (k : Nat) : State :=
  let s1 := (s.wr DRAMQ.ADMIT_USED.used (s.rd DRAMQ.ADMIT_USED.used - s.rd MGR.ALLOC_BW.rate (b := k))).wr DRAMQ.RES_STAT.admit_seq 0 (b := k)
  let b := instBucket k
  if s1.mem.broken.contains b then
    let s2 := { s1 with mem := { s1.mem with broken := s1.mem.broken.filter (· != b) } }
    (s2.wr DRAMQ.RES_STAT.broken 0 (b := k)).wr DRAMQ.BROKEN_INST.inst (clrBit (s2.rd DRAMQ.BROKEN_INST.inst) k)
  else s1

/-! ### Instance commands (R118) -/

/-- A write of INST_CMD whose op is allowed from the instance's state (R118). -/
def State.instCmd (s : State) (w : Who) (op : Nat) (scrub : Bool) (from_ : Nat → Bool) (k : State → Nat → State) : State :=
  s.onWrite w .mgr 0 0x104 (op + (if scrub then 256 else 0)) (fun t =>
    let i := t.selInst
    if t.on MGR.INST_STAT.busy (b := i) || !from_ (t.rd MGR.INST_STAT.state (b := i)) then t.refuse .mgr 0 Code.INST_STATE w.rid 0x104
    else k t i)

/-- CREATE (R120). -/
def State.instCreate (s : State) (w : Who) : State :=
  s.instCmd w 1 false (· == 0) (fun t k =>
    match t.poolRow k with
    | some r => t.refuse .mgr 0 Code.INST_POOL w.rid r
    | none =>
      let rate := t.rd MGR.ALLOC_BW.rate (b := k)
      if t.rd DRAMQ.ADMIT_CAP.cap < t.rd DRAMQ.ADMIT_USED.used + rate then t.refuse .mgr 0 Code.INST_BW_ADMIT w.rid 11
      else
        let t1 := ((t.gfxAccount.wr MGR.INST_STAT.state 1 (b := k)).count .mgr 0 0).admitInst k rate
        let t2 := (t1.resizeCtx k (t1.rd MGR.ALLOC_GPU.contexts (b := k)))
        (t2.allocPins k).foldl (fun u i => u.pinChange i k) t2)

/-- INST_CREATE (R120). -/
def execInstCreate (w : Who) (s : State) : Out := .next (s.instCreate w)

/-- START: doorbells and views work, its fences are no longer abandoned, and its events are numbered from 0 (R118, R197, R217). -/
def State.instStart (s : State) (w : Who) : State :=
  s.instCmd w 2 false (· == 1) (fun t k =>
    ({ t with evSeq := mset t.evSeq k 0 0, rings := { t.rings with aband := mset t.rings.aband k 0 0 } }).wr MGR.INST_STAT.state 2 (b := k))

/-- INST_START (R118). -/
def execInstStart (w : Who) (s : State) : Out := .next (s.instStart w)

/-! ### Quiesce (R121, R122) -/

/-- Commit packets of an instance that wait on fences end with FENCE_ABANDONED (R122, R260). -/
def State.dropCommits (s : State) (k : Nat) : State :=
  let mine := ((List.range 8).map s.pend).flatten.filter (fun p => ringInst p.ring == k && !s.packetMet p)
  let keys := (mine.map (fun p => (List.range p.recs.length).map (packetWait p))).flatten
  ({ s with rings := { s.rings with waits := s.rings.waits.map (fun (x : Wait) =>
      if keys.contains x.key && !x.met && x.code == 0 then { x with code := Code.FENCE_ABANDONED } else x) } }).discardAll

/-- A halted DMA job of an instance is aborted at once (R207). -/
def State.dropHalted (s : State) (k : Nat) : State :=
  (List.range 8).foldl (fun t n => match t.halted n with
    | some j => if ringInst j.ring = k then t.dmaAbort n j Code.DMA_ABORTED else t
    | none => t) s

/-- Rings of an instance. -/
def State.ringsOf (s : State) (k : Nat) : List Nat := (s.rings.ctx.map (·.1)).filter (fun r => ringInst r == k)

/-- The enabled rings of a guest that quiesces are Stopped, and wait for nothing (R187). -/
def State.stopRings (s : State) (k : Nat) : State :=
  (s.ringsOf k).foldl (fun t r =>
    let c := t.ring r
    if c.st = 1 ∨ c.st = 2 ∨ c.st = 3 then t.setRing r { c with st := 5, waitReg := false } else t) s

/-- Steps 1 and 2 of QUIESCE begin: fetching has stopped, the fence area is abandoned (R122, R197). -/
def State.quiesce (s : State) (k : Nat) (scrub flr : Bool) : State :=
  let s1 := ((s.wr MGR.INST_STAT.state 3 (b := k)).wr MGR.INST_STAT.busy 1 (b := k)).wr MGR.INST_STAT.forced 0 (b := k)
  let s2 := { s1 with
    inst := { s1.inst with
      qStep := mset s1.inst.qStep k 2 0
      qAt := mset s1.inst.qAt k s.now 0
      scrub := mset s1.inst.scrub k (b2n scrub) 0
      flr := mset s1.inst.flr k (b2n flr) 0
      flrAt := mset s1.inst.flrAt k (if flr then s.now else 0) 0
      forced := mdrop s1.inst.forced (k * 128) (k * 128 + 128) }
    rings := { s1.rings with aband := mset s1.rings.aband k 1 0 } }
  ((((s2.count .mgr 0 2).rewait (fun f => f / 1024 == k)).dropCommits k).dropHalted k).stopRings k

/-- INST_QUIESCE (R122). -/
def State.instQuiesce (s : State) (w : Who) (scrub : Bool) : State :=
  s.instCmd w 3 scrub (fun st => st == 2 || st == 1) (fun t k => t.quiesce k scrub false)

/-- INST_QUIESCE (R122). -/
def execInstQuiesce (w : Who) (scrub : Bool) (s : State) : Out := .next (s.instQuiesce w scrub)

/-- Whether every job of an instance has ended and every record is written (R122 step 2). -/
def State.drained (s : State) (k : Nat) : Bool :=
  (s.ringsOf k).all (fun r => (s.ring r).inflight == 0 && !s.owesRecord r)

/-- Step 4: every layer of the instance is to be replaced by its substitute colour at its head's next latch (R122, R261). -/
def State.substLayers (s : State) (k : Nat) : State :=
  (List.range 128).foldl (fun t i =>
    if t.layerOwner (i / 16) (i % 16) = k then { t with comp := { t.comp with substQ := mset t.comp.substQ i 1 0 } } else t) s

/-- Mark a ring in the FORCED bitmap of its instance (R122). -/
def State.forceMark (s : State) (r : Nat) : State :=
  let key := ringInst r * 128 + r % 4096 / 32
  { s with inst := { s.inst with forced := mset s.inst.forced key (setBit (mget s.inst.forced key 0) (r % 32)) 0 } }

/-- Records of an instance that its queues cannot take are discarded and their rings marked (R122 step 3, R200). -/
def State.dropRecords (s : State) (k : Nat) : State :=
  let stuck := fun (e : RecDue) => ringInst e.ring == k && !(s.ring (s.queueOf e.ring)).takes
  let s1 := (s.rings.recs.filter stuck).foldl (fun t e => t.forceMark e.ring) s
  { s1 with rings := { s1.rings with recs := s1.rings.recs.filter (fun e => !stuck e) } }

/-- QUIESCE_DRAIN_DONE: the instance's jobs have drained (R122 steps 2 to 4). -/
def execQuiesceDrainDone (k : Fin 64) (s : State) : Out :=
  let st := mget s.inst.qStep k.val 0
  let t := if st = 3 then s.dropRecords k.val else s
  .next (if (st = 2 ∨ st = 3) ∧ t.drained k.val then
      ({ t with inst := { t.inst with qStep := mset t.inst.qStep k.val 4 0 } }).substLayers k.val
    else t)

/-- The jobs of a stream of an instance end with a code. -/
def State.feedForce (s : State) (k code : Nat) (f : Feed) : State × Feed :=
  let mine := f.jobs.filter (fun j => ringInst j.ring == k)
  if mine.isEmpty then (s, f)
  else (mine.foldl (fun t j => t.endJob j.ring 1 false false j.seq code j.done j.failAddr) s, { f with jobs := [], frames := [] })

/-- Every job of an instance still in flight is aborted and its record carries a code (R86, R122, R250, R358). -/
def State.forceJobs (s : State) (k code : Nat) : State :=
  let s1 := s.gfxForce k code
  let s2 := (List.range 8).foldl (fun t h =>
    let mine := (t.pend h ++ t.latched h).filter (fun p => ringInst p.ring == k)
    let t1 := (t.setPend h ((t.pend h).filter (fun p => ringInst p.ring != k))).setLatched h ((t.latched h).filter (fun p => ringInst p.ring != k))
    mine.foldl (fun u p => u.packetEnd p 1 code 0 0) t1) s1
  let s3 := (List.range 4).foldl (fun t n =>
    let t1 := match t.job 1 n with
      | some j => if ringInst j.ring = k then (t.setJob 1 n none).endJob j.ring 1 false false j.seq code 0 0 else t
      | none => t
    (State.drainEnds (t1.comp.ends.length + 1) t1 n).compShow n) s2
  let s4 := (List.range 8).foldl (fun t n => match t.job 2 n with
    | some j => if ringInst j.ring = k then t.dmaAbort n j code else t
    | none => t) s3
  let s5 := (List.range 16).foldl (fun t n => match t.job 3 n with
    | some j => if ringInst j.ring = k then t.capFail n code 0 else t
    | none => t) s4
  let s6 := (List.range 8).foldl (fun t p =>
    let (u, f) := t.feedForce k code (t.surface p).feed
    u.setSurf p { u.surface p with feed := f }) s5
  (List.range 64).foldl (fun t w =>
    let (u, f) := t.feedForce k code (mget t.audio.feeds w {})
    { u with audio := { u.audio with feeds := mset u.audio.feeds w f {} } }) s6

/-- Whether the drain limit of a QUIESCE is reached: QUIESCE_LIMIT, of which 0 acts as 1, and under a function-level reset 50 ms after it arrived
(R121, R122, R130). -/
def State.drainOver (s : State) (k : Nat) : Bool :=
  s.past (mget s.inst.qAt k 0) (1000 * max 1 (s.rd MGR.QUIESCE_LIMIT.limit_us)) ||
    (mget s.inst.flr k 0 != 0 && s.past (mget s.inst.flrAt k 0) (ms 50))

/-- QUIESCE_LIMIT_EXPIRY: the remaining jobs are aborted; a function-level reset makes no error record (R122 step 3). -/
def execQuiesceLimitExpiry (k : Fin 64) (s : State) : Out :=
  let i := k.val
  .next (if mget s.inst.qStep i 0 ≠ 2 ∨ !s.drainOver i then s
    else
      let s1 := ((s.ringsOf i).filter (fun r => (s.ring r).inflight != 0)).foldl (fun t r => t.forceMark r) s
      let s2 := (s1.forceJobs i Code.INST_QUIESCE_FORCED).dropRecords i
      let s3 := if mget s2.inst.flr i 0 = 0 then s2.recErr .mgr 0 Code.INST_QUIESCE_FORCED ridBlock 0x104 else s2
      let s4 := (s3.wr MGR.INST_STAT.forced 1 (b := i)).count .mgr 0 3
      { s4 with inst := { s4.inst with qStep := mset s4.inst.qStep i 3 0 } })

/-- Whether a layer of an instance still waits for its substitute. -/
def State.substDue (s : State) (k : Nat) : Bool :=
  (List.range 128).any (fun i => mget s.comp.substQ i 0 != 0 && s.layerOwner (i / 16) (i % 16) == k)

/-- OWNER_SWEEP: the sweep of an instance at step 5 of its quiesce, or of a vale (64 + v) being closed, begins once no POT command runs (R121,
R135). -/
def execOwnerSweep (o : Fin 128) (s : State) : Out :=
  let k := o.val
  .next (if s.pot.op ≠ 0 then s
    else if k < 64 then
      if mget s.inst.qStep k 0 = 4 ∧ !s.substDue k then
        ({ s with inst := { s.inst with qStep := mset s.inst.qStep k 5 0 } }).startSweep k (mget s.inst.scrub k 0 != 0)
      else s
    else if mget s.world.run (k - 64) 0 = 4 then s.startSweep k true
    else s)

/-- RESET of a Quiesced instance: its ring contexts, fence slots and page events (R118). -/
def State.instReset (s : State) (k : Nat) : State :=
  let pins := ((s.ringsOf k).filter (fun r => (s.ring r).pin && (s.ring r).st != 0)).length
  let lo := k * 4096; let hi := k * 4096 + 4096
  let s1 := { s with
    rings := { s.rings with
      ctx := mdrop s.rings.ctx lo hi
      image := mdrop s.rings.image lo hi
      cache := s.rings.cache.filter (fun r => ringInst r != k)
      recs := s.rings.recs.filter (fun e => ringInst e.ring != k) }
    events := s.events.filter (fun e => e.recipient != k) }
  let s2 := (((s1.wr RSCHED.PIN_COUNT.pinned (s1.rd RSCHED.PIN_COUNT.pinned - pins)).wr RSCHED.FENCE_BASE.addr 0 (b := k)).wr
    RSCHED.FENCE_BASE.addr_hi 0 (b := k)).wr RSCHED.FENCE_SLOTS.slots 0 (b := k)
  let s3 := allPages.foldl (fun t p => if t.rd (HDR.owner p.1) p.2 = k then t.wr (HDR.ev_raw p.1) 0 p.2 else t) s2
  s3.wr MGR.INST_STAT.state 1 (b := k)

/-- INST_RESET (R118). -/
def execInstReset (w : Who) (s : State) : Out := .next (s.instCmd w 4 false (· == 4) (fun t k => t.instReset k))

/-- The vales of a parent are Free (R121, R132). -/
def State.valesFree (s : State) (i : Nat) : State :=
  (List.range 64).foldl (fun t v =>
    if t.rd WORLD.VALE_STAT.state (b := v) ≠ 0 ∧ t.rd WORLD.VALE_STAT.parent (b := v) = i then t.freeVale v else t) s

/-- QUIESCE_DONE: sweep, epoch and scrubbing are done; the vales are Free, the instance is Quiesced, and a function-level reset goes on with RESET
(R121, R122). -/
def execQuiesceDone (k : Fin 64) (s : State) : Out :=
  let i := k.val
  .next (if mget s.inst.qStep i 0 = 5 ∧ s.pot.op = 4 ∧ s.pot.owner = i ∧ s.pot.step = 6 then
      let s1 := s.endEpoch.valesFree i
      let flr := mget s1.inst.flr i 0
      let s2 := { s1 with inst := { s1.inst with qStep := mset s1.inst.qStep i 0 0, scrub := mset s1.inst.scrub i 0 0, flr := mset s1.inst.flr i 0 0 } }
      let s3 := ((s2.wr MGR.INST_STAT.state 4 (b := i)).wr MGR.INST_STAT.busy 0 (b := i)).raise .mgr 0 8
      if flr ≠ 0 then s3.instReset i else s3
    else s)

/-- REMOVE: its vales are Free, the allocation returns to the pools, the view slots and the mailbox are empty (R118, R125, R126, R434). -/
def State.instRemove (s : State) (k : Nat) : State :=
  let s1 := (((s.gfxAccount.freeBw k).resizeCtx k 0).pinsReturn k 0xFE)
  let s2 := (List.range 224).foldl (fun (t : State) v =>
    ((t.wr MGR.VIEW_ENTRY.valid 0 (b := k * 256 + v)).wr MGR.VIEW_ENTRY.write 0 (b := k * 256 + v)).wr MGR.VIEW_ENTRY.page 0 (b := k * 256 + v)) s1
  let s3 := s2.valesFree k
  let s4 := { s3 with inst := { s3.inst with mbData := mdrop s3.inst.mbData (k * 64) (k * 64 + 64), mbFull := mset s3.inst.mbFull k 0 0 } }
  (s4.wr MGR.INST_STAT.state 0 (b := k)).count .mgr 0 1

/-- INST_REMOVE (R118). -/
def execInstRemove (w : Who) (s : State) : Out :=
  .next (s.instCmd w 5 false (fun st => st == 4 || st == 1) (fun t k => t.instRemove k))

/-- FUNCTION_LEVEL_RESET of a PCI Express function (R122). -/
def execFunctionLevelReset (f : Fin 64) (s : State) : Out :=
  let k := s.rd MGR.VF_MAP.inst (b := f.val)
  let st := s.rd MGR.INST_STAT.state (b := k)
  .next (if !s.on MGR.VF_MAP.valid (b := f.val) ∨ k = 0 ∨ st = 0 then s
    else
      let s1 := if st = 2 then s.quiesce k true true
        else if st = 3 then
          if mget s.inst.flr k 0 = 0 then
            { s with inst := { s.inst with flr := mset s.inst.flr k 1 0, flrAt := mset s.inst.flrAt k s.now 0 } }
          else s
        else if st = 4 then s.instReset k
        else s
      ((s1.wr MGR.FLR_INST.inst k).count .mgr 0 4).raise .mgr 0 9)

/-! ### Functions and views (R123, R125) -/

/-- A write of VF_MAP for the function in VF_INDEX (R123). -/
def State.vfMap (s : State) (w : Who) (v : Nat) : State :=
  s.onWrite w .mgr 0 0x184 v (fun t =>
    let f := t.rd MGR.VF_INDEX.function
    let old := t.rd MGR.VF_MAP.inst (b := f)
    let new := v % 64
    let valid := bit v 8
    let had := t.on MGR.VF_MAP.valid (b := f)
    let elsewhere := (List.range 64).any (fun g => decide (g ≠ f) && t.on MGR.VF_MAP.valid (b := g) && t.rd MGR.VF_MAP.inst (b := g) == new)
    if valid ∧ new = 0 then t.refuse .mgr 0 Code.INST_INDEX w.rid 0x184
    else if (had && t.instState old != 0) || (valid && (t.instState new != 0 || elsewhere)) then t.refuse .mgr 0 Code.INST_STATE w.rid 0x184
    else
      let t1 := if had then t.wr MGR.INST_STAT.external 0 (b := old) else t
      let t2 := if valid then t1.wr MGR.INST_STAT.external 1 (b := new) else t1
      t2.storeWord .mgr 0 0x184 v)

/-- VF_MAP_WRITE (R123). -/
def execVfMapWrite (w : Who) (v : Word) (s : State) : Out := .next (s.vfMap w v.toNat)

/-- Whether a page index may be granted in a view (R125). -/
def grantable (page : Nat) : Bool :=
  match blkOfPage page with
  | none => false
  | some (b, _) => !([.mgr, .pot, .world, .swdt, .boot, .pwr, .clk, .dramq, .safe, .lantern, .mirror].contains b)

/-- A write of VIEW_ENTRY for INST_SEL and VIEW_INDEX (R125). -/
def State.viewWrite (s : State) (w : Who) (v : Nat) : State :=
  s.onWrite w .mgr 0 0x164 v (fun t =>
    if 224 ≤ t.rd MGR.VIEW_INDEX.slot (b := t.selInst) ∨ (bit v 8 ∧ !grantable (v % 256)) then t.refuse .mgr 0 Code.INST_VIEW_PAGE w.rid 0x164
    else t.storeWord .mgr 0 0x164 v)

/-- VIEW_ENTRY_WRITE (R125). -/
def execViewEntryWrite (w : Who) (v : Word) (s : State) : Out := .next (s.viewWrite w v.toNat)

/-! ### Mailboxes (R126) -/

/-- Refuse an access to a mailbox: the record names the offset and the instance. -/
def State.mbRefuse (s : State) (w : Who) (code off k : Nat) : State := s.refuse .mgr 0 code w.rid (off % 4096 + k * 65536)

/-- The mailbox a sender reaches, as the instance and whether it comes from the manager's side; an unreachable one answers with an error
(R118, R126). -/
def State.mbReach (s : State) (w : Who) (off : Nat) (write : Bool) : State ⊕ (Nat × Bool) :=
  if !s.pins.resetN then .inl s.errResp else
  match w with
  | .inst k _ =>
    if k.val = 0 ∨ s.instState k.val = 0 then .inl (s.potRefuse Code.POT_UNBACKED k.val (windowBase k.val + 0x10000 + off)) else .inr (k.val, false)
  | .host => .inl s.errResp
  | .saf => if write then .inl (s.refuse .mgr 0 Code.REG_PERM w.rid (0x400 + off)) else .inr (s.rd MGR.MBX_SEL.inst, true)
  | _ =>
    let k := s.rd MGR.MBX_SEL.inst
    if k = 0 ∨ s.instState k = 0 then
      .inl (if write then s.mbRefuse w (if k = 0 then Code.INST_INDEX else Code.INST_STATE) off k else s.errResp)
    else .inr (k, true)

/-- A 1 written to a reserved bit of a mailbox register is recorded in the mailbox's form, and ignored (R52, R126). -/
def State.mbReserved (s : State) (w : Who) (off k v defined : Nat) : State :=
  if v &&& (2 ^ 32 - 1 - defined) ≠ 0 then s.recErr .mgr 0 Code.REG_RESERVED w.rid (off % 4096 + k * 65536) else s

/-- MBX_DATA_WRITE: a word of a slot's data, at the offset both sides use (R126). -/
def State.mbWrite (s : State) (w : Who) (off v : Nat) : State :=
  match s.mbReach w off true with
  | .inl t => t
  | .inr (k, mgr) =>
    let slot := off / 64
    if mgr ≠ decide (slot < 2) then s.mbRefuse w Code.REG_PERM off k
    else if bit (mget s.inst.mbFull k 0) slot then s.mbRefuse w Code.MBX_FULL off k
    else ({ s with inst := { s.inst with mbData := mset s.inst.mbData (k * 64 + off / 4) v 0 } }).okResp

/-- MBX_DATA_WRITE (R126). -/
def execMbxDataWrite (w : Who) (word : Fin 64) (v : Word) (s : State) : Out := .next (s.mbWrite w (4 * word.val) v.toNat)

/-- Mark slots full or empty and interrupt the other side; slots that do not allow it are refused. slots are the bits of MB_STAT as the instance
sees them; to says whether the manager is told. -/
def State.mbMark (s : State) (w : Who) (off k : Nat) (slots : List Nat) (full toMgr : Bool) : State :=
  let bad := slots.filter (fun j => bit (mget s.inst.mbFull k 0) j == full)
  let good := slots.filter (fun j => bit (mget s.inst.mbFull k 0) j != full)
  let m := good.foldl (fun m j => if full then setBit m j else clrBit m j) (mget s.inst.mbFull k 0)
  let s1 := ({ s with inst := { s.inst with mbFull := mset s.inst.mbFull k m 0 } }).okResp
  let s2 := if good.isEmpty then s1
    else
      let t := if full && toMgr then s1.raise .mgr 0 10 else s1
      t.notify (if toMgr then 0xFE else k) 1
  bad.foldl (fun t _ => t.mbRefuse w (if full then Code.MBX_FULL else Code.MBX_EMPTY) off k) s2

/-- A write of MB_SEND (R126). -/
def State.mbSend (s : State) (w : Who) (v : Nat) : State :=
  match s.mbReach w 0x104 true with
  | .inl t => t
  | .inr (k, mgr) => (s.mbReserved w 0x104 k v 3).mbMark w 0x104 k (((List.range 2).filter (fun j => bit v j)).map (fun j => if mgr then j else 2 + j)) true (!mgr)

/-- MB_SEND (R126). -/
def execMbSend (w : Who) (v : Word) (s : State) : Out := .next (s.mbSend w v.toNat)

/-- A write of MB_ACK (R126). -/
def State.mbAck (s : State) (w : Who) (v : Nat) : State :=
  match s.mbReach w 0x108 true with
  | .inl t => t
  | .inr (k, mgr) => (s.mbReserved w 0x108 k v 3).mbMark w 0x108 k (((List.range 2).filter (fun j => bit v j)).map (fun j => if mgr then 2 + j else j)) false (!mgr)

/-- MB_ACK (R126). -/
def execMbAck (w : Who) (v : Word) (s : State) : Out := .next (s.mbAck w v.toNat)

/-- A write of an instance's MB_REARM; the manager's side has none (R124, R126). -/
def State.mbRearm (s : State) (w : Who) (v : Nat) : State :=
  match s.mbReach w 0x10C true with
  | .inl t => t
  | .inr (k, mgr) =>
    if mgr then s.mbRefuse w Code.REG_UNMAPPED 0x10C k
    else
      let t := (s.mbReserved w 0x10C k v 1).okResp
      if bit v 0 && t.ownerPend k then t.notify k 0 else t

/-- MB_REARM (R124). -/
def execMbRearm (w : Who) (v : Word) (s : State) : Out := .next (s.mbRearm w v.toNat)

/-- A write of MB_STAT, which changes nothing (R126, R450). -/
def State.mbStat (s : State) (w : Who) (v : Nat) : State :=
  match s.mbReach w 0x100 true with
  | .inl t => t
  | .inr (k, _) => (s.mbReserved w 0x100 k v 15).okResp

/-- An access to a mailbox that breaks R50, recorded in the mailbox's form (R126). -/
def State.mbSize (s : State) (w : Who) (off : Nat) (write : Bool) : State :=
  match s.mbReach w off write with
  | .inl t => t
  | .inr (k, _) => s.mbRefuse w Code.REG_SIZE off k

/-- A word written at an offset of a mailbox, from either side (R126). -/
def State.mbWord (s : State) (w : Who) (off v : Nat) : State :=
  if off % 4 ≠ 0 then s.mbSize w off true
  else if off < 0x100 then s.mbWrite w off v
  else if off = 0x100 then s.mbStat w v
  else if off = 0x104 then s.mbSend w v
  else if off = 0x108 then s.mbAck w v
  else s.mbRearm w v

/-- A read of a mailbox word (R126). -/
def State.mbRead (s : State) (w : Who) (off : Nat) : State :=
  match s.mbReach w off false with
  | .inl t => t
  | .inr (k, mgr) =>
    let m := mget s.inst.mbFull k 0
    if off < 0x100 then s.okResp (mget s.inst.mbData (k * 64 + off / 4) 0)
    else if off = 0x100 then s.okResp (if mgr then bits m 2 2 + bits m 0 2 * 4 else m)
    else if mgr && off == 0x10C then s.mbRefuse w Code.REG_UNMAPPED 0x10C k
    else s.okResp 0

/-- A write of MGR_REARM (R124). -/
def State.mgrRearm (s : State) (w : Who) (v : Nat) : State :=
  s.onWrite w .mgr 0 0x19C v (fun t => if bit v 0 && t.ownerPend 0xFE then t.notify 0xFE 0 else t)

/-- MGR_REARM (R124). -/
def execMgrRearm (w : Who) (v : Word) (s : State) : Out := .next (s.mgrRearm w v.toNat)

/-! ### Secure watchdog (R147 to R149) -/

/-- Whether the watchdog is paused (R147). -/
def State.swdtPaused (s : State) : Bool := s.pwr.swPause || (s.on SWDT.SWDT_CTRL.debug_pause && s.world.harts.any (fun e => e.2.halted))

/-- A write of SWDT_CTRL, TIMEOUT or WARN (R147, R150). -/
def State.swdtWrite (s : State) (w : Who) (off v : Nat) : State :=
  s.onWrite w .swdt 0 off v (fun t =>
    if off = 0x104 ∧ v % 65536 = 0 then t.refuse .swdt 0 Code.SWDT_RANGE w.rid off
    else
      let u := t.storeWord .swdt 0 off v
      if off = 0x100 ∧ bit v 0 ∧ !t.on SWDT.SWDT_CTRL.enable then u.wr SWDT.REMAIN.ms (u.rd SWDT.TIMEOUT.ms) else u)

/-- A write of SWDT_KICK; once REMAIN has reached 0 the expiry proceeds whatever is written (R148). -/
def State.swdtKick (s : State) (w : Who) (v : Nat) : State :=
  s.onWrite w .swdt 0 0x10C v (fun t =>
    let set := fun (u : State) (b : Bool) => { u with world := { u.world with kick := b } }
    if v % 65536 = 0x4B49 then set t true
    else if v % 65536 = 0x434B then
      let u := set t false
      let due := u.on SWDT.SWDT_CTRL.enable && u.rd SWDT.REMAIN.ms == 0
      if t.world.kick then (if due then u else u.wr SWDT.REMAIN.ms (u.rd SWDT.TIMEOUT.ms)).count .swdt 0 0 else u
    else ((set t false).refuse .swdt 0 Code.SWDT_KEY w.rid 0x10C).count .swdt 0 1)

/-- SWDT_KICK (R148). -/
def execSwdtKick (w : Who) (v : Word) (s : State) : Out := .next (s.swdtKick w v.toNat)

/-- SWDT_TICK: 1 ms of DEVTIME, not from step E4 of an entry until hart 0 is released (R147, R148). -/
def execSwdtTick (s : State) : Out :=
  .next (if !s.on SWDT.SWDT_CTRL.enable ∨ s.swdtPaused ∨ s.rd SWDT.REMAIN.ms = 0 then s
    else
      let n := s.rd SWDT.REMAIN.ms - 1
      let s1 := s.wr SWDT.REMAIN.ms n
      if n ≠ 0 ∧ n = s.rd SWDT.WARN.ms then s1.raise .swdt 0 8 else s1)

/-- SECURE_WDT_EXPIRY: REMAIN has reached 0 (R149). -/
def execSecureWdtExpiry (s : State) : Out :=
  .next (if s.on SWDT.SWDT_CTRL.enable ∧ s.rd SWDT.REMAIN.ms = 0 then s.mainReset 6 else s)

end Sys2Proof.Machine
end

