-- ==== Sys2Proof/Machine/TouchWake.lean ====
section
/-! DEFINITION. The wake scan of a touch surface and its two gestures (R383 to R385). -/

namespace Sys2Proof.Machine

/-- Groups of the wake scan: transmit electrodes on channels 0 to 63, in map order, WAKE_CFG.group at a time (R383). -/
def State.wakeGroups (s : State) (p : Nat) : Nat :=
  min 16 (((s.roleChans p 1).filter (fun c => decide (c < 64))).length / clamp 1 4 (s.rd TOUCH.WAKE_CFG.group (2 * p)))

/-- A group's new baseline (R383). -/
def wakeBase (thr base raw : Nat) : Nat :=
  let d := (raw : Int) - base
  if 2 * d < -(thr : Int) then raw
  else if 4 * d < (thr : Int) then ((base : Int) + d.tdiv 64).toNat
  else base

/-- Order of two centroids given as fractions. -/
def fracLt (a b : Nat × Nat) : Bool := decide (a.1 * b.2 < b.1 * a.2)

/-- Whether two centroids lie within one group of each other. -/
def fracNear (a b : Nat × Nat) : Bool :=
  decide (a.1 * b.2 ≤ b.1 * a.2 + a.2 * b.2) && decide (b.1 * a.2 ≤ a.1 * b.2 + a.2 * b.2)

/-- Whether a list of centroids never reverses in a direction. -/
def mono (lt : (Nat × Nat) → (Nat × Nat) → Bool) : List (Nat × Nat) → Bool
  | a :: b :: t => !lt b a && mono lt (b :: t)
  | _ => true

/-- Whether a path of centroids over n groups is a vertical swipe (R384). -/
def isSwipe (n : Nat) (path : List (Nat × Nat)) : Bool :=
  match path.head?, path.getLast? with
  | some a, some b =>
    let far := fun (lo hi : Nat × Nat) => decide (6 * (n - 1) * lo.2 * hi.2 ≤ 10 * (hi.1 * lo.2 - lo.1 * hi.2))
    (mono fracLt path && fracLt a b && far a b) || (mono (fun x y => fracLt y x) path && fracLt b a && far b a)
  | _, _ => false

/-- The recogniser of the two-finger hold: new run and first centroid, and whether it completes (R384). -/
def TouchSt.holdStep (t : TouchSt) (sum two : Nat) (c : Option (Nat × Nat)) : TouchSt × Bool :=
  match c with
  | some x =>
    if two ≤ sum then
      (if t.hold = 0 ∨ !fracNear t.cent0 x then ({ t with hold := 1, cent0 := x }, false)
       else if 20 ≤ t.hold + 1 then ({ t with hold := 0 }, true) else ({ t with hold := t.hold + 1 }, false))
    else ({ t with hold := 0 }, false)
  | none => ({ t with hold := 0 }, false)

/-- The recogniser of the swipe: the path grows while groups are touched; two scans untouched end it (R384). Its touched scans lie within
1.0 s, 20 scan periods, of the first. -/
def TouchSt.swipeStep (t : TouchSt) (n : Nat) (c : Option (Nat × Nat)) : TouchSt × Bool :=
  match c with
  | some x => ({ t with path := t.path ++ [x], since := if t.path.isEmpty then 0 else t.since + 1, gap := 0 }, false)
  | none =>
    if t.path.isEmpty then (t, false)
    else if t.gap + 1 < 2 then ({ t with gap := t.gap + 1, since := t.since + 1 }, false)
    else ({ t with path := [], since := 0, gap := 0 }, decide (t.since ≤ 20 + t.gap) && isSwipe n t.path)

/-- WAKE_SCAN: a wake scan, one every 50 ms, gives the balancing pulses of each group (R383, R384). A recognised gesture is the touch wake event (R385). -/
def State.wakeScan (s : State) (p : Nat) (bal : List Nat) : State :=
  let was := s.touchSt p
  if s.tiles p ≠ 4 ∨ !(match was.wAt with | some a => s.past a 50000000 | none => true) then s
  else
    let t := { was with wAt := some s.now }
    let n := s.wakeGroups p
    let raw := (List.range n).map (fun g => rawCount 50 (bal.getD g 0))
    if t.wBase.length ≠ n then s.setTouch p { t with wBase := raw }
    else
      let thr := s.rd TOUCH.WAKE_CFG.wake_thr (2 * p)
      let d := (List.range n).map (fun g => (raw.getD g 0 : Int) - t.wBase.getD g 0)
      let base := (List.range n).map (fun g => wakeBase thr (t.wBase.getD g 0) (raw.getD g 0))
      let touched := (List.range n).filter (fun g => decide ((thr : Int) ≤ d.getD g 0))
      let wgt := fun (g : Nat) => (d.getD g 0).toNat
      let den := touched.foldl (fun a g => a + wgt g) 0
      let cent := if touched.isEmpty ∨ den = 0 then none else some (touched.foldl (fun a g => a + g * wgt g) 0, den)
      let sum := (List.range n).foldl (fun a g => a + wgt g) 0
      let g := s.rd TOUCH.WAKE_CFG.gesture (2 * p)
      let t0 := { t with wBase := base }
      let (t1, hit) := if g = 1 then t0.holdStep sum (s.rd TOUCH.WAKE_CFG2.two_thr (2 * p)) cent else t0.swipeStep n cent
      let s1 := s.setTouch p t1
      if hit then
        ({ s1 with pwr := { s1.pwr with touch := mset s1.pwr.touch p g 0 } }).wake 2
      else s1

/-- WAKE_SCAN (R383). -/
def execWakeScan (p : Fin 8) (bal : List Nat) (s : State) : Out := .next (s.wakeScan p.val bal)

end Sys2Proof.Machine
end

