-- ==== Sys2Proof/Machine/Power.lean ====
section
/-! DEFINITION. Power states: requests, the entry and exit sequences, rail faults, temperature, and the clocks (R82 to R91, R98 to R103). -/

namespace Sys2Proof.Machine

/-! ### Requests (R84, R85, R92) -/

/-- Estimated low-power load in µA (R92). -/
def State.aonBudget (s : State) : Nat :=
  let n := ((List.range 16).filter (fun e => s.on ENC.ENC_CFG.keep 0 e)).length
  let t := ((List.range 8).filter s.wakeTouch).length
  700 + (if n = 0 then 0 else 250) + 40 * n + 420 * t

/-- RESUME_VEC. -/
def State.resumeVec (s : State) : Nat := s.rd PWR.RESUME_VEC.addr_lo * 4 + s.rd PWR.RESUME_VEC.addr_hi * 2 ^ 32

/-- Whether an address lies in a page of DRAM owned by the manager. -/
def State.mgrPage (s : State) (a : Nat) : Bool := decide (a < s.variant.dramTop) && s.potEntry (a / 4096) % 256 == 0xFE

/-- The code of the first of conditions 1 to 4 that a request fails (R84). -/
def State.reqBad (s : State) (req : Nat) : Option Nat :=
  if !(decide (2 ≤ req ∧ req ≤ 4)) || (req != 4 && (s.resumeVec == 0 || !s.mgrPage s.resumeVec)) then some Code.PWR_BAD_REQ
  else if 2 ≤ s.rd PWR.STATE.state ∨ s.pwr.flOp ≠ 0 ∨
      (List.range 8).any (fun n => s.rd DRAM.SPARE_STAT.state n == 1 || s.rd DRAM.SPARE_STAT.state n == 2) then some Code.PWR_BUSY
  else if (List.range 64).any (fun k => decide (k ≠ 0) && s.instState k != 0 && s.instState k != 4) then some Code.PWR_NOT_QUIESCED
  else if req ≠ 4 ∧ s.rd PWR.AON_BUDGET.limit_ua < s.aonBudget then some Code.PWR_AON_BUDGET
  else none

/-- A write of STATE_REQ: refused by the first condition it fails, else step E1 waits for the safety island. An alarm already past is a wake event
of the entry (R84, R89). -/
def State.stateReq (s : State) (w : Who) (v : Nat) : State :=
  s.onWrite w .pwr 0 0x100 v (fun t =>
    let req := v % 8
    match t.reqBad req with
    | some c => (t.raise .pwr 0 8).refuse .pwr 0 c w.rid 0x100
    | none =>
      let t1 := (({ t with pwr := { t.pwr with commit := false, latched := [] } }).pwrStep 5 req 1).hvSync
      if t1.alarmDue then t1.wake 3 else t1)

/-- STATE_REQ_SLEEP (R84). -/
def execStateReqSleep (w : Who) (s : State) : Out := .next (s.stateReq w 2)
/-- STATE_REQ_DEEP_SLEEP (R84). -/
def execStateReqDeepSleep (w : Who) (s : State) : Out := .next (s.stateReq w 3)
/-- STATE_REQ_OFF (R84). -/
def execStateReqOff (w : Who) (s : State) : Out := .next (s.stateReq w 4)

/-- Whether an entry is at a step. -/
def State.entryAt (s : State) (n : Nat) : Bool := s.rd PWR.STATE.state == 5 && s.rd PWR.STATE.step == n
/-- Whether an exit from Sleep or Deep sleep is at a step. -/
def State.exitAt (s : State) (n : Nat) : Bool := s.rd PWR.STATE.state == 6 && s.rd PWR.STATE.step == n && s.rd PWR.STATE.target != 4

/-- The step of an entry or exit that is under way changes. -/
def State.toStep (s : State) (n : Nat) : State := ({ s with pwr := { s.pwr with stepAt := s.now } }).wr PWR.STATE.step n

/-- Whether the present power state or step has lasted a time in ns. -/
def State.stepFor (s : State) (ns : Nat) : Bool := s.past s.pwr.stepAt ns

/-- The safety island refuses, or does not answer: the device stays in Run, where a copy deferred since E1 starts (R84 to R86, R177). -/
def State.safeVeto (s : State) : State :=
  ((((s.pwrStep 0 0 0).startDeferred).hvSync).recErr .pwr 0 Code.PWR_SAFE_VETO ridMgr 0x100).raise .pwr 0 8

/-- Wear records of attached surfaces are due at E2 (R394). -/
def State.wearAll (s : State) : State :=
  (List.range 8).foldl (fun t p => if t.rd SURF.SURF_STAT.state p = 3 then t.setSurf p { t.surface p with wearDue := true } else t) s

/-- SAFETY_GRANT: the island's answer within 10 ms; its firmware refuses while the machine is reported in a state that needs the displays. Once granted, step
E2 begins (R85, R86, R383). -/
def execSafetyGrant (grant : Bool) (s : State) : Out :=
  .next (if !s.entryAt 1 then s
    else if grant && !s.stepFor (ms 10 + 1) && s.on SAFE.ISL_STAT.fw_running && !(s.safe.slHeard && Config.needsDisplays s.safe.machine) then
      ((s.toStep 2).touchSleep).wearAll
    else s.safeVeto)

/-- SAFETY_GRANT_TIMEOUT: 10 ms have passed without an answer (R85). -/
def execSafetyGrantTimeout (s : State) : Out := .next (if s.entryAt 1 && s.stepFor (ms 10) then s.safeVeto else s)

/-! ### Entry (R86) -/

/-- Step E3: blank is selected for every running head from its next frame start on; a blanked head shows no backlight (R86, R351). -/
def State.entryBlank (s : State) : State :=
  let m := (((List.range 8).filter (fun h => s.running h && !bit (s.rd SAFE.HEAD_SRC.blank) h)).map (fun h => 2 ^ h)).sum
  let s1 := (s.toStep 3).wr SAFE.HEAD_SRC.blank (s.rd SAFE.HEAD_SRC.blank ||| m)
  ({ s1 with pwr := { s1.pwr with blanked := m } }).headSrcNow (s1.rd SAFE.HEAD_SRC.dispen_off)

/-- ENTRY_DRAIN_DONE: the manager's jobs have drained (R86 E2). -/
def execEntryDrainDone (s : State) : Out := .next (if s.entryAt 2 && s.drained 0 then s.entryBlank else s)

/-- DRAIN_LIMIT_EXPIRY: draining has lasted DRAIN_LIMIT, of which 0 acts as 1; the jobs that remain are aborted, and the entry goes on (R86,
R104). -/
def execDrainLimitExpiry (s : State) : Out :=
  .next (if !s.entryAt 2 || !s.stepFor (1000 * max 1 (s.rd PWR.DRAIN_LIMIT.limit_us)) then s
    else (((s.dropHalted 0).forceJobs 0 Code.PWR_DRAIN_FORCED).recErr .pwr 0 Code.PWR_DRAIN_FORCED ridBlock 0x114).entryBlank)

/-- ENTRY_HEADS_BLANKED: every running head shows blank; links still up go down, and from step E4 on the secure watchdog pauses
(R86 E3, R147, R344). -/
def execEntryHeadsBlanked (s : State) : Out :=
  .next (if s.entryAt 3 && (List.range 8).all (fun h => !s.running h || s.rd SAFE.HB_STAT.source 0 h == 2) then
      let s1 := s.toStep 4
      (List.range 8).foldl (fun t n => if 2 ≤ t.linkState n then t.linkDown n else t) { s1 with pwr := { s1.pwr with swPause := true } }
    else s)

/-- Whether every hart that is not held is in WFI (R83, R86). -/
def State.allWfi (s : State) : Bool := (s.hart 0).wfi && s.world.harts.all (fun e => e.2.wfi)

/-- ENTRY_CACHES_WRITTEN: harts wait, caches are written back (R86 E4). -/
def execEntryCachesWritten (s : State) : Out := .next (if s.entryAt 4 && s.allWfi then s.toStep 5 else s)

/-- SELF_REFRESH_ENTERED: the commit point (R86 E5). -/
def execSelfRefreshEntered (s : State) : Out :=
  .next (if s.entryAt 5 then
      let s1 := s.toStep 6
      { s1 with pwr := { s1.pwr with commit := true } }
    else s)

/-- The reference and every PLL stop; heads that ran wait for their PLLs, and the MAIN bank loses its rail (R34, R86 E6). -/
def State.clocksStop (s : State) : State :=
  let s1 := (List.range 8).foldl (fun t h =>
    if t.running h then ((((t.wr HEAD.HEAD_STAT.state 1 h).wr HEAD.HEAD_STAT.vblank 0 h).wr HEAD.HEAD_STAT.line 0 h).setHead h
      { t.head h with start := none, zero := [] }) else t) s
  let s2 := (List.range 8).foldl (fun t h => t.wr HEAD.HEAD_STAT.pll_lock 0 h) s1
  let s3 := (List.range 24).foldl (fun t k => ((t.wr CLK.PLL_STAT.lock 0 0 k).wr CLK.PLL_STAT.enabled 0 0 k).wr CLK.PLL_STAT.mhz 0 0 k) s2
  { s3 with pwr := { s3.pwr with osc := false }, pins := { s3.pins with pwrGood := false } }.ampPins

/-- The device is in a low-power state: clocks stopped, rails switched, the FAULT outputs at fault in Deep sleep and Off. Off loses everything
but the always-on domain, without a new reset cause (R82, R86, R91). -/
def State.lowPower (s : State) (t : Nat) : State :=
  let s1 := ((s.pwrStep t 0 0).count .pwr 0 (t - 2)).clocksStop
  let s2 := (s1.railsTo (fun n => if t = 2 ∧ n ≠ 0 then 550 else 0)).railsReached
  if t = 2 then s2.hvSync.touchWatch
  else if t = 3 then s2.faultAssert.hvSync.wr SAFE.ISL_STAT.fw_running 0
  else
    let l := s2.pwr.latched
    let s3 := (s2.clearMain.displayReset (s2.rd BOOT.RST_CAUSE.display_cause)).safetyReset (s2.rd BOOT.RST_CAUSE.safety_cause)
    { s3 with pwr := { s3.pwr with rails := min s3.pwr.rails 1, latched := l } }

/-- TARGET_STATE_REACHED: the target state is reached; a wake event latched since the commit point starts the exit at once (R86 E6, R87). -/
def execTargetStateReached (s : State) : Out :=
  .next (if s.entryAt 6 && s.pwr.commit then
      let s1 := s.lowPower (s.rd PWR.STATE.target)
      if s1.pwr.latched.isEmpty then s1 else s1.exitBegin
    else s)

/-- SLEEP_DEEP_AFTER_EXPIRY: the device leaves Sleep for Deep sleep; the command that switches VDD_SOC off is its commit point (R88). -/
def execSleepDeepAfterExpiry (s : State) : Out :=
  let sec := s.rd PWR.SLEEP_DEEP_AFTER.seconds
  .next (if s.rd PWR.STATE.state = 2 ∧ sec ≠ 0 ∧ s.stepFor (ms (1000 * sec)) then
      let s1 := s.pwrStep 5 3 6
      { s1 with pwr := { s1.pwr with commit := true, latched := [] } }
    else s)

/-! ### Exit (R90) -/

/-- EXIT_REGULATORS_READY: every voltage command is acknowledged; the first attempt at the oscillator begins (R90 step 1). -/
def execExitRegulatorsReady (s : State) : Out :=
  .next (if s.exitAt 1 && s.railsAcked then
      let s1 := (s.toStep 2).wr PWR.EXIT_STAT.osc_attempts 1
      { s1 with pins := { s1.pins with pwrGood := true } }.ampPins
    else s)

/-- Frequency of PLL 20 in MHz by AUDIO's PLL_INT and PLL_FRAC (R101, R409). -/
def State.audioMhz (s : State) : Nat :=
  let num := 384 * (s.rd AUDIO.PLL_INT.n * 2 ^ 24 + s.rd AUDIO.PLL_FRAC.f)
  let m := s.rd AUDIO.PLL_INT.m + 1
  let p := s.rd AUDIO.PLL_INT.p
  if p ≠ 0 ∧ 20000 * 2 ^ 24 * m ≤ num ∧ num ≤ 60000 * 2 ^ 24 * m then num / (10 * 2 ^ 24 * m * p) else (Config.pllMhz 20).toNat

/-- Frequency in MHz at which PLL k runs by what sets it (R100). -/
def State.pllSet (s : State) (k : Nat) : Nat :=
  if k < 12 then s.oppMhz 0
  else if k = 12 then s.oppMhz 1
  else if k = 17 then (Config.linkPllMhz ((List.range 8).map (fun n => s.wordNow .link n 0x104))).toNat
  else if k = 20 then s.audioMhz
  else (Config.pllMhz k).toNat

/-- The reference runs and the PLLs that are not a head's lock at their frequencies (R90, R100). -/
def State.clocksStart (s : State) : State :=
  let mhz := s.pllSet
  let s1 := (List.range 24).foldl (fun t k =>
    if k < 8 then t else ((t.wr CLK.PLL_STAT.lock 1 0 k).wr CLK.PLL_STAT.enabled 1 0 k).wr CLK.PLL_STAT.mhz (mhz k) 0 k) s
  let s2 := (List.range 8).foldl (fun t h => if t.rd HEAD.HEAD_STAT.state h = 1 then t.wr CLK.PLL_STAT.enabled 1 0 h else t) s1
  { s2 with pwr := { s2.pwr with osc := true } }

/-- EXIT_OSCILLATOR_READY (R90 step 2). -/
def execExitOscillatorReady (s : State) : Out := .next (if s.exitAt 2 then (s.toStep 3).clocksStart else s)

/-- EXIT_MEMORY_READY: Basin is released, or zeroed after Deep sleep (R90 step 3, R273). -/
def execExitMemoryReady (s : State) : Out :=
  .next (if s.exitAt 3 then
      let s1 := s.toStep 4
      if s.rd PWR.STATE.target = 3 then
        { s1 with basin := [], heads := (s1.heads.map (fun e => (e.1, { e.2 with zero := [] }))).filter (fun e => decide (e.2 ≠ {})) }
      else s1
    else s)

/-- A cold start: the main stage of boot runs again from its step 7 on clean memory; after Deep sleep the display pages are made anew too (R90). -/
def State.coldStart (s : State) : State :=
  let deep := s.rd PWR.EXIT_STAT.from_state == 3
  let s1 := (((s.clearMain.toStep 0).wr PWR.EXIT_STAT.cold_start 1).raise .pwr 0 15)
  let s2 := if deep then s1.displayReset (s1.rd BOOT.RST_CAUSE.display_cause) else s1.ungroup
  { s2 with pwr := { s2.pwr with cold := true, osc := true, latched := s.pwr.latched } }

/-- EXIT_STEP_TIMEOUT: an exit step has missed its limit of 10 ms, in step 4 of 1 ms for a domain, in step 2 for each attempt; in step 1, the fixed
rail numbered from 4 as in R98 that is not good (R90, R98). -/
def execExitStepTimeout (rail : Fin 5) (s : State) : Out :=
  let k := s.rd PWR.STATE.step
  let bad := fun (t : State) => (t.wr PWR.EXIT_STAT.failed_step k).recErr .pwr 0 Code.PWR_EXIT_STEP ridBlock k
  .next (if !s.stepFor (ms (if k = 4 then 1 else 10)) then s
    else if s.exitAt 1 then (bad s).railFault (4 + rail.val)
    else if s.exitAt 2 then
      if s.rd PWR.EXIT_STAT.osc_attempts < 3 then (s.toStep 2).wr PWR.EXIT_STAT.osc_attempts (s.rd PWR.EXIT_STAT.osc_attempts + 1)
      else (bad s).lowPower 4
    else if s.exitAt 3 || s.exitAt 4 then (bad s).coldStart
    else s)

/-! ### Rail faults (R98) -/

/-- RAIL_ACK_TIMEOUT: the last command to a rail is not acknowledged within 1 ms (R98). -/
def execRailAckTimeout (n : Fin 4) (s : State) : Out :=
  let k := n.val
  .next (if !s.railOut k || !s.past (mget s.pwr.slewAt k 0) (ms 1) then s
    else
      let s1 := s.wr PWR.RAIL_STAT.fault 1 0 k
      (if s.exitAt 1 then (s1.wr PWR.EXIT_STAT.failed_step 1).recErr .pwr 0 Code.PWR_EXIT_STEP ridBlock 1 else s1).railFault k)

/-- FIXED_RAIL_FAULT: the good signal of a fixed main rail, numbered from 4 as in R98, falls in Run or Idle (R98). -/
def execFixedRailFault (n : Fin 5) (s : State) : Out := .next (if s.rd PWR.STATE.state ≤ 1 ∧ s.pins.pwrGood then s.railFault (4 + n.val) else s)

/-! ### Temperature (R99) -/

/-- Hardware shutdown temperature, in quarter degrees (R43). -/
def Variant.shutdown : Variant → Int
  | .e96 => 540
  | _ => 500

/-- The highest of the sensor readings, in quarter degrees, and the sensor that shows it: of several the lowest number, DESIGN CHOICE, log 174. -/
def hottest : List (BitVec 11) → Int × Nat
  | [] => (-1024, 0)
  | t :: l => let (m, k) := hottest l; if l.isEmpty || decide (m ≤ t.toInt) then (t.toInt, 0) else (m, k + 1)

/-- TEMP_SAMPLE: the sixteen sensors are sampled (R99). -/
def State.tempSample (s : State) (temps : Vector (BitVec 11) 16) : State :=
  let (m, k) := hottest temps.toList
  let old := toSigned 11 (s.rd PWR.TEMP_MAX.temp)
  let thr := toSigned 11 (s.rd PWR.TEMP_WARN.threshold)
  let s1 := (s.wr PWR.TEMP_MAX.temp (ofSigned 11 m)).wr PWR.TEMP_MAX.sensor k
  let s2 := if old < thr ∧ thr ≤ m then (s1.count .pwr 0 13).raise .pwr 0 13 else s1
  let hot := fun (t : State) => ({ t with pwr := { t.pwr with hot := true } }).hvSync
  if s2.variant.shutdown + 40 ≤ m then (if s2.pwr.hot ∧ s2.pwr.rails ≤ 2 then s2 else hot (s2.shutDown 9 s2.pwr.vin 2))
  else if s2.variant.shutdown ≤ m ∧ !s2.pwr.hot then hot (((s2.mainReset 9).railTo 0 0).railTo 1 0)
  else s2

/-- TEMP_SAMPLE (R99). -/
def execTempSample (temps : Vector (BitVec 11) 16) (s : State) : Out := .next (s.tempSample temps)

/-- THERMAL_RESTART: TEMP_MAX is 15 K below the shutdown temperature, and the main domain may boot (R99). -/
def execThermalRestart (s : State) : Out :=
  .next (if s.pwr.hot ∧ toSigned 11 (s.rd PWR.TEMP_MAX.temp) + 60 ≤ s.variant.shutdown then
      { s with pwr := { s.pwr with hot := false } }
    else s)

/-! ### Clocks (R103) -/

/-- REF_LOST: the 38.4 MHz reference has stopped in Run; every running head is concerned (R103, R223). -/
def execRefLost (s : State) : Out :=
  .next (if !s.pwr.osc ∨ 2 ≤ s.rd PWR.STATE.state then s
    else
      let s1 := { s with pwr := { s.pwr with osc := false } }
      let s2 := ((s1.recErr .clk 0 Code.CLK_REF_LOST ridBlock 0).count .clk 0 24).raise .clk 0 9
      s2.faultLine Code.CLK_REF_LOST .clk 0 (((List.range 8).filter s.running).map (fun h => 2 ^ h)).sum)

/-- PLL_UNLOCK: a PLL loses lock; for a head's PLL the safety island is told (R103, R223). -/
def execPllUnlock (k : Fin 24) (s : State) : Out :=
  let n := k.val
  .next (if !s.on CLK.PLL_STAT.lock 0 n then s
    else
      let s1 := s.wr CLK.PLL_STAT.lock 0 0 n
      let s2 := if n < 8 then s1.wr HEAD.HEAD_STAT.pll_lock 0 n else s1
      let s3 := ((s2.recErr .clk 0 Code.CLK_PLL_UNLOCK ridBlock n).count .clk 0 n).raise .clk 0 8
      s3.faultLine Code.CLK_PLL_UNLOCK .clk 0 (if n < 8 then 2 ^ n else 0))

/-- PLL_RELOCK (R103). -/
def execPllRelock (k : Fin 24) (s : State) : Out :=
  let n := k.val
  .next (if s.on CLK.PLL_STAT.enabled 0 n && !s.on CLK.PLL_STAT.lock 0 n && s.pwr.osc then
      let s1 := s.wr CLK.PLL_STAT.lock 1 0 n
      if n < 8 then s1.wr HEAD.HEAD_STAT.pll_lock 1 n else s1
    else s)

/-- XTAL32_STOP: the 32.768 kHz crystal stops (R103, R438). -/
def execXtal32Stop (s : State) : Out :=
  .next (if s.pwr.xtal then ({ s with pwr := { s.pwr with xtal := false } }).raise .clk 0 10 else s)

/-! ### Harts (R83, R147) -/

/-- Replace what is held of a hart. -/
def State.putHart (s : State) (h : Nat) (c : Hart) : State := { s with world := { s.world with harts := mset s.world.harts h c {} } }

/-- HART_WFI (R83). -/
def execHartWfi (h : Fin 16) (s : State) : Out := .next (s.putHart h.val { s.hart h.val with wfi := true })

/-- JTAG_HALT: a hart is halted or released (R147). -/
def execJtagHalt (h : Fin 16) (halted : Bool) (s : State) : Out := .next (s.putHart h.val { s.hart h.val with halted := halted })

end Sys2Proof.Machine
end

