-- ==== Sys2Proof/Machine/Reads.lean ====
section
/-! DEFINITION. Reads of registers: the values that are computed when they are read, the header, counters and snapshots, 64-bit values and
the reads that have an effect (R50 to R53, R55, R57, R61 to R65). -/

namespace Sys2Proof.Machine

/-- Whether the device is in Idle: in Run with every hart in WFI and no work for the engines (R83). -/
def State.idle (s : State) : Bool :=
  s.rd PWR.STATE.state == 0 && s.pwr.mainUp && s.allWfi && s.rings.jobs.all (fun e => e.2.isNone) && s.gfx.cur.all (fun e => e.2.isNone) &&
    s.comp.busy.isEmpty && !s.rings.ctx.any (fun e => e.2.st == 2)

/-- Line a head is at, from its last frame start (R297). -/
def State.lineNow (s : State) (h : Nat) : Nat :=
  match (s.head h).start with
  | none => s.rd HEAD.HEAD_STAT.line h
  | some t =>
    if !s.running h then s.rd HEAD.HEAD_STAT.line h
    else
      let n := (s.now - t) * vtotal (s.hv h) / max 1 (s.periodNs h)
      let act := s.rd HEAD.TIM_V.vact h
      if s.on HEAD.HEAD_STAT.vblank h then clamp act (vtotal (s.hv h) - 1) n else min n (act - 1)

/-- Node shown by NODE_SEL, as the index into nodes then keys (R386). -/
def State.selNode (s : State) (p : Nat) : Nat :=
  let n := s.rd TOUCH.NODE_SEL.node (2 * p)
  if 8192 ≤ n then s.touchT p * s.touchR p + (n - 8192) else n

/-- The value a read finds in a field of element j in bank k: computed for the fields that follow something else, the stored one otherwise. A clock
domain stops while the PLL or the reference that feeds it does not run (R103). -/
def State.live (s : State) (f : Fld) (i j k : Nat) : Nat :=
  let plain := s.rdReg f i j k
  match f.blk with
  | .mgr => if f = MGR.FORCED_BITS.rings then mget s.inst.forced (k * 128 + s.rd MGR.FORCED_SEL.word (b := k)) 0 else plain
  | .pot =>
    if f = POT.TABLE_BASE.base_lo then s.variant.tableBase % 2 ^ 32
    else if f = POT.TABLE_BASE.base_hi then s.variant.tableBase / 2 ^ 32
    else if f = POT.SHARE_CUR.mask then mget s.pot.shareMask (s.rd POT.SHARE_READ.group) 0
    else plain
  | .dram =>
    if f = DRAM.CE_RANK.count then min 65535 (s.recentCe i j).length
    else if f = DRAM.SPARE_STAT.done_64k then (if s.rd DRAM.SPARE_STAT.state i = 1 then min 65535 (s.copyLine i / 1024) else plain)
    else plain
  | .swdt =>
    if f = SWDT.SWDT_STAT.running then
      b2n (s.on SWDT.SWDT_CTRL.enable && !s.swdtPaused && s.rd SWDT.REMAIN.ms != 0)
    else if f = SWDT.SWDT_STAT.paused then b2n s.swdtPaused
    else plain
  | .boot =>
    if f = BOOT.FB_DATA.data then s.otpWord (s.rd BOOT.FB_INDEX.word * 4)
    else if f = BOOT.KEY_REVOKE.revoke then s.revoked
    else plain
  | .pwr =>
    if f = PWR.STATE.state then (if s.idle then 1 else plain)
    else if f = PWR.AON_BUDGET.estimate_ua then s.aonBudget
    else if f = PWR.RAIL_STAT.now_mv then s.nowMv j
    else plain
  | .clk =>
    if f = CLK.REF_STAT.ref38_ok then b2n s.pwr.osc
    else if f = CLK.REF_STAT.ref32_ok then b2n s.pwr.xtal
    else if f = CLK.REF_STAT.ref32_backup then b2n (!s.pwr.xtal)
    else
      let d := (Config.domain k s.free).toNat
      let src := bits d 1 5
      let clocked := if src < 24 then s.on CLK.PLL_STAT.lock 0 src else if src = 31 then s.pwr.osc else true
      if f = CLK.DOM_STAT.running then b2n ((s.on CLK.DOM_CTRL.force_on (b := k) || bit d 0) && clocked)
      else if f = CLK.PLL_STAT.mhz ∧ (j = 17 ∨ j = 20) then (if s.on CLK.PLL_STAT.lock 0 j then s.pllSet j else plain)
      else if f = CLK.PLL_STAT.mhz ∧ j < 8 ∧ s.on CLK.PLL_STAT.lock 0 j then pclkNum (s.hv j) / pclkDen (s.hv j) / 1000000
      else if f = CLK.DOM_STAT.source then bits d 1 5
      else if f = CLK.DOM_STAT.mhz then bits d 6 16
      else plain
  | .time =>
    if f = TIME.DEVTIME.time then s.now
    else if f = TIME.MTIME.mtime then s.mtime
    else if f = TIME.TIME_STAT.tick_src then (if s.pwr.xtal then 0 else if s.pwr.osc then 1 else 2)
    else plain
  | .gfx =>
    if f = GFX.CREDIT.credit then ofSigned 32 (s.creditNow k / 16000)
    else if f = GFX.CTX_STAT.comp then b2n (s.isComp k)
    else if f = GFX.CTX_STAT.state then s.ctxState k
    else if f = GFX.BIN_CFG.fe1_blocks then 128 - s.binParts.1 - s.binParts.2
    else plain
  | .comp =>
    if f = COMP.LAYER_STAT.owner then s.layerOwner (2 * i + k / 16) (k % 16)
    else if f = COMP.LAYER_STAT.reserved then b2n (bit (s.rd COMP.MGR_LAYERS.reserved i) k)
    else plain
  | .basin => if f = BASIN.NEED.need then s.need j else if f = BASIN.GRAN_FREE.free then s.granFree else plain
  | .cap => if f = CAP.RX_STAT.active then b2n (s.capActive i) else plain
  | .head => if f = HEAD.PERIOD_NS.ns then s.periodNs i else if f = HEAD.HEAD_STAT.line then s.lineNow i else plain
  | .safe =>
    if f = SAFE.ALARM_STAT.sounding then b2n s.alarmSounds
    else if f = SAFE.ALARM_STAT.pattern then s.alarmSync.alarm.pattern
    else plain
  | .touch =>
    let t := s.touchSt (i / 2)
    let n := s.selNode (i / 2)
    if f = TOUCH.NODE_DATA.raw then t.raw.getD n 0
    else if f = TOUCH.NODE_DATA.baseline then t.base.getD n 0
    else if f = TOUCH.NODE_DELTA.delta then ofSigned 16 (t.delta.getD n 0)
    else if f = TOUCH.NODE_DELTA.suspect then b2n (t.suspect.getD n false)
    else if f = TOUCH.NODE_DELTA.excluded then b2n (s.isExcl (i / 2) n)
    else if f = TOUCH.NODE_DELTA.reference then (((s.surface (i / 2)).refs.getD []).getD n 0) / 4
    else plain
  | .hapt => if f = HAPT.HS_NOW.ports then s.slewPorts else plain
  | .gpio =>
    if f = GPIO.GPIO_CFG.in_ then b2n (s.gpioIn j)
    else if f = GPIO.UART_STAT.tx_level then (s.uartTx j).length
    else if f = GPIO.UART_STAT.rx_level then (mget s.ctl.uRx j []).length
    else plain
  | _ => plain

/-- The bits of a part as a read returns them: write-only fields and the actions of header registers read 0 (R51). -/
def State.partLive (s : State) (p : Part) (i k : Nat) : Nat :=
  if p.fld.acc = .wo then 0 else p.half (s.live p.fld i p.elt k <<< p.fld.lo)

/-- A counter now: those of cluster-microseconds run on while a job does (R252). -/
def State.counterNow (s : State) (b : Blk) (i j : Nat) : Nat :=
  s.counter b i j + (if b = .gfx ∧ (j = 11 ∨ j = 12) then s.clusterNs (j - 11) / 1000 else 0)

/-- Counter area of a page: live counters, then SNAP_SEQ, SNAP_TIME and the snapshot copies, kept as counters 120 and 121 of the snapshot
map; slots beyond PG_CAP.counters read 0 (R64, R65). -/
def State.counterWord (s : State) (b : Blk) (i off : Nat) : Nat :=
  let half := fun (x : Nat) => if off % 8 = 0 then x % 2 ^ 32 else x / 2 ^ 32 % 2 ^ 32
  let snap := fun (j : Nat) => half (mget s.snap (ctrKey (b.page i) j) 0)
  if off < 0x810 then 0
  else if off < 0xC00 then
    let j := (off - 0x810) / 8
    if j < b.counters i then half (s.counterNow b i j) else 0
  else if off < 0xC08 then snap 120
  else if off < 0xC10 then snap 121
  else
    let j := (off - 0xC10) / 8
    if j < b.counters i then snap j else 0

/-- The register at a defined offset as a read finds it now (R55, R57, R61 to R63). No block chapter gives PG_CAP.block_cap a value: it reads 0,
DESIGN CHOICE (log 170). -/
def State.regValue (s : State) (b : Blk) (i off : Nat) : Nat :=
  if off = 0x000 then b.typeCode * 65536 + i * 256 + 1
  else if off = 0x004 then b.counters i * 256 + b2n b.lockable * 2 + b2n b.shadowed
  else if off = 0x018 then s.evPend b i
  else if off = 0x01C then 0
  else if (off = 0x020 ∨ off = 0x024) ∧ !b.shadowed then 0
  else if off = 0x034 ∧ !b.lockable then 0
  else if 0x800 ≤ off then s.counterWord b i off
  else
    let k := s.bankAt b i off
    let v := (partsAt b i off).foldl (fun n p => n ||| s.partLive p i k) 0
    if off = 0x024 then v + b.boundary * 256 + 2 * b2n (s.on (HDR.pending b) i) else v

/-- Which half of a 64-bit value an offset is, if it is one: true for the upper (R53, R64). -/
def halfAt (b : Blk) (i off : Nat) : Option Bool :=
  if 0x800 ≤ off then (if off < 0x810 then none else some (off % 8 != 0))
  else ((partsAt b i off).find? (fun p => p.fld.wide)).map (fun p => p.hi)

/-- A read of a register that stands: LO latches the upper half, HI returns the latched one (R53). -/
def State.plainRead (s : State) (w : Who) (b : Blk) (i off : Nat) : State :=
  match halfAt b i off with
  | some false => (s.latchHi w b i off (s.regValue b i (off + 4))).okResp (s.regValue b i off)
  | some true =>
    match s.latchedHi w b i (off - 4) with
    | some h => (s.unlatch w b i).okResp h
    | none => s.okResp (s.regValue b i off)
  | none => s.okResp (s.regValue b i off)

/-- A read that moves something on: LSRAM_DATA, LOG_DATA, LOG_LOST, PSET_DATA and UART_RX (R319, R335, R414, R436). -/
def State.movingRead (s : State) (w : Who) (b : Blk) (i off : Nat) : Option State :=
  match b with
  | .lantern => if off = 0x104 then some (s.lsramRead .clean) else none
  | .safe =>
    if off = 0x15C then some (s.logDataRead w)
    else if off = 0x158 then
      let t := s.okResp (s.regValue b i off)
      some (if w = .mgr then t.wr SAFE.LOG_LOST.count 0 else t)
    else none
  | .audio => if off = 0x118 then some (s.psetAccess w none) else none
  | .gpio => if off = 0x588 then some (s.uartRead 0) else if off = 0x5A8 then some (s.uartRead 1) else none
  | _ => none

/-- A 32-bit read of an offset of a page (R47, R49, R50). -/
def State.readWord (s : State) (w : Who) (b : Blk) (i off : Nat) : State :=
  match s.reach w b i off false with
  | .bad t => t
  | .good _ =>
    if b = .mgr ∧ 0x400 ≤ off ∧ off < 0x510 then (if off % 4 ≠ 0 then s.mbSize w (off - 0x400) false else s.mbRead w (off - 0x400))
    else if off % 4 ≠ 0 then s.refuse b i Code.REG_SIZE w.rid off
    else if !offsetDefined b i off then s.refuse b i Code.REG_UNMAPPED w.rid off
    else if (b = .enc ∨ b = .gpio) && !s.pinReach w b off then s.refuse b i Code.REG_PERM w.rid off
    else (s.movingRead w b i off).getD (s.plainRead w b i off)

/-- REG_READ_LO_LATCH: a read of the lower half of a 64-bit value (R53). -/
def execRegReadLoLatch (w : Who) (page : Fin 256) (off : BitVec 12) (s : State) : Out :=
  .next (match blkOfPage page.val with
    | some (b, i) => s.readWord w b i off.toNat
    | none => s.potRefuse Code.POT_UNBACKED w.rid (0x3000000000 + page.val * 0x1000 + off.toNat))

end Sys2Proof.Machine
end

