-- ==== Sys2Proof/Machine/Pages.lean ====
section
/-! DEFINITION. Writes of registers: the common header, COMMIT, soft reset, 64-bit values, and for each page the registers that have a behaviour
of their own (R47 to R63, R449, R450). -/

namespace Sys2Proof.Machine

/-! ### Soft reset (R55) -/

/-- Harts and vales: no command runs and no measurement is open. -/
def State.softWorld (s : State) : State := { s with world := { s.world with run := [], bad := [], part := [] } }

/-- The power states: an entry in progress is given up and what it stopped starts again. -/
def State.softPwr (s : State) : State :=
  let t := ((s.unblank.touchResume).startDeferred)
  ({ t with pwr := { t.pwr with commit := false, latched := [], swPause := false, touch := [] } }).hvSync

/-- One subchannel forgets its windows, its commands and its deferred copy. -/
def State.softDram (s : State) (n : Nat) : State :=
  { s with mem := { s.mem with
      deferred := mset s.mem.deferred n 0 0, replays := mset s.mem.replays n [] [], retrain := mset s.mem.retrain n 0 0
      retrained := mset s.mem.retrained n 0 0, after := mset s.mem.after n 0 0, retry := mset s.mem.retry n [] []
      slots := mset s.mem.slots n 0 0, ce := mdrop s.mem.ce (n * 4) (n * 4 + 4), copyAt := mset s.mem.copyAt n 0 0 } }

/-- An engine gives up the job it has taken. -/
def State.dropJob (s : State) (cls n : Nat) : State :=
  match s.job cls n with
  | some j => (s.setJob cls n none).setRing j.ring { s.ring j.ring with inflight := (s.ring j.ring).inflight - 1 }
  | none => s

/-- A composition engine forgets its two heads and the packet it has taken. -/
def State.softComp (s0 : State) (n : Nat) : State :=
  let s := s0.dropJob 1 n
  let lo := 2 * n; let hi := 2 * n + 2
  let c := s.comp
  { s with comp := { c with
      layers := mdrop c.layers (16 * lo) (16 * hi), pend := mdrop c.pend lo hi, latched := mdrop c.latched lo hi
      ends := c.ends.filter (fun (e : PacketEnd) => engOf e.pkt.head != n), substQ := mdrop c.substQ (16 * lo) (16 * hi)
      fetchBad := mdrop c.fetchBad (16 * lo) (16 * hi), busy := mdrop c.busy lo hi, complete := mdrop c.complete lo hi
      late := mdrop c.late lo hi, wb := mdrop c.wb lo hi } }

/-- A link goes down at once. -/
def State.softLink (s : State) (n : Nat) : State := (s.linkDown n).setLink n { fell := s.now }

/-- A surface port starts anew: Off, and on from there if its supply is (R389). -/
def State.softSurf (s : State) (p : Nat) : State :=
  let t := ((s.setSurf p {}).touchQuiet p).wrB SURF.SURF_STAT.present (bit s.pins.present p) p
  (if t.on SURF.PORT_CTRL.power p then t.portOn p else t).hvSync

/-- The state machines of a block after its registers 0x100 to 0x7FF have returned to their reset values (R55). Of BOOT, the record of reset
causes stays (R70); of SWDT, enable with what remains, which only a main-domain reset clears (R147). -/
def State.softReset (s : State) (b : Blk) (i : Nat) : State :=
  let t := s.softRegs b i
  match b with
  | .mgr => { t with inst := {} }
  | .pot => { t with pot := {} }
  | .world => t.softWorld
  | .swdt =>
    ({ t with world := { t.world with kick := false } }.wr SWDT.SWDT_CTRL.enable (s.rd SWDT.SWDT_CTRL.enable)).wr SWDT.REMAIN.ms (s.rd SWDT.REMAIN.ms)
  | .boot =>
    [BOOT.RST_CAUSE.main_cause, BOOT.RST_CAUSE.safety_cause, BOOT.RST_CAUSE.display_cause, BOOT.RST_CAUSE.brownout].foldl
      (fun u f => u.wr f (s.rd f)) (s.flCut.softRegs b i)
  | .pwr => t.softPwr
  | .clk => t
  | .time => { t with time := { t.time with fails := 0, edge := none } }
  | .dram => t.softDram i
  | .dramq => { t with mem := { t.mem with broken := [], goodWin := 0, admSeq := 0, deficit := [], charged := [], conf := [], confPort := [] } }
  | .rsched => { t with rings := { t.rings with cache := [], last := [], credit := [] } }
  | .dma => t.dropJob 2 i
  | .gfx => { t with gfx := { since := t.now } }
  | .comp => t.softComp i
  | .basin => t.groupAbort
  | .head => t
  | .glint => t.setHead i { t.head i with glint := {} }
  | .link => t.softLink i
  | .cap => t.setCap i {}
  | .touch => t
  | .surf => t.softSurf i
  | .hapt => (({ t with hapt := {} } : State).throttleShow).hvSync
  | .audio => { t with audio := {} }
  | .enc =>
    (List.range 16).foldl (fun u e => (u.wr ENC.ENC_STAT.a (s.rd ENC.ENC_STAT.a 0 e) 0 e).wr ENC.ENC_STAT.b (s.rd ENC.ENC_STAT.b 0 e) 0 e) t
  | .gpio => { t with ctl := {} }
  | .safe =>
    let u := (t.wr SAFE.ISL_STAT.fw_running (s.rd SAFE.ISL_STAT.fw_running)).faultAssert
    ({ u with
      alarm := {}
      safe := { lsram := u.safe.lsram, sram := u.safe.sram, fwEntry := u.safe.fwEntry, log := u.safe.log, aonLog := u.safe.aonLog
                nextSeq := u.safe.nextSeq } } : State).hvSync
  | .lantern => t
  | .mirror => { t with safe := { t.safe with wins := [] } }

/-- A write of PG_CTRL: soft_reset returns the block, enable is kept by the page (R55). -/
def State.ctrlWrite (s : State) (w : Who) (b : Blk) (i v : Nat) : State :=
  match b with
  | .head => s.headCtrl w i v
  | .touch => s.touchCtrl w i v
  | .cap => s.capCtrl w i v
  | .audio => s.audioCtrl w v
  | _ => s.onWrite w b i 0x008 v (fun t =>
      let u := t.wr (HDR.enable b) v i
      if bit v 1 then u.softReset b i else u)

/-! ### Owner, events, errors and LOCK (R56 to R59, R63) -/

/-- A write of PG_OWNER: EV_MASK and EV_RAW clear with it; a tile's reports end, and a change of a surface's owner ends its drive (R56, R381,
R407). In a view, and on the safety pages, the register is read only. -/
def State.ownerWrite (s : State) (w : Who) (b : Blk) (i v : Nat) : State :=
  s.onWrite w b i 0x00C v (fun t =>
    if viewReadOnly w 0x00C || b.safetyPage || !mayWrite w b (HDR.owner b) then t
    else
      let u := ((t.wr (HDR.owner b) v i).wr (HDR.ev_mask b) 0 i).wr (HDR.ev_raw b) 0 i
      if b = .touch ∧ i % 2 = 0 then
        (u.wr TOUCH.RPT_CTRL.enable 0 i).setTouch (i / 2) { u.touchSt (i / 2) with held := none, due := none, refused := false }
      else if b = .surf ∧ v % 256 ≠ t.rd (HDR.owner b) i then ((u.wr SURF.HV_CTRL.enable 0 i).wr SURF.STREAM_CFG.enable 0 i).hvSync
      else u)

/-- A write of EV_RAW clears the bits it carries (R57). -/
def State.evClear (s : State) (w : Who) (b : Blk) (i v : Nat) : State :=
  s.onWrite w b i 0x010 v (fun t => t.wr (HDR.ev_raw b) (t.rd (HDR.ev_raw b) i &&& (2 ^ 32 - 1 - (v &&& b.evMask i))) i)

/-- A write of EV_MASK; the owner is interrupted if that raises its request (R57, R124). -/
def State.evMaskWrite (s : State) (w : Who) (b : Blk) (i v : Nat) : State :=
  s.onWrite w b i 0x014 v (fun t => (t.wr (HDR.ev_mask b) (v &&& b.evMask i) i).irqEdge t (t.rd (HDR.owner b) i))

/-- A write of EV_FORCE sets bits of EV_RAW as if the events had occurred (R57). -/
def State.evForce (s : State) (w : Who) (b : Blk) (i v : Nat) : State :=
  s.onWrite w b i 0x01C v (fun t =>
    (t.wr (HDR.ev_raw b) (t.rd (HDR.ev_raw b) i ||| (v &&& b.evMask i)) i).irqEdge t (t.rd (HDR.owner b) i))

/-- A 1 in ERR_CODE.valid clears the whole error record (R59). -/
def State.errClear (s : State) (w : Who) (b : Blk) (i v : Nat) : State :=
  s.onWrite w b i 0x028 v (fun t =>
    if bit v 31 then
      [HDR.err_valid b, HDR.err_internal b, HDR.err_requester b, HDR.err_count b, HDR.err_code b, HDR.err_addr b, HDR.err_req_id b].foldl
        (fun u f => u.wr f 0 i) t
    else t)

/-- A write of LOCK (R63). -/
def State.lockWrite (s : State) (w : Who) (b : Blk) (i v : Nat) : State :=
  s.onWrite w b i 0x034 v (fun t => if viewReadOnly w 0x034 || !b.lockable then t else if bit v 0 then t.wr (HDR.lock b) 1 i else t)

/-! ### COMMIT (R61, R282, R300, R336, R340, R447) -/

/-- Area Glint's shadow set gives a head: the source surface, or the head's own area (R298). -/
def State.glintArea (s : State) (h : Nat) : Nat × Nat :=
  if s.rdSh GLINT.GLINT_CTRL.enable h = 0 then (s.rd HEAD.TIM_H.hact h, s.rd HEAD.TIM_V.vact h)
  else (s.rdSh GLINT.SRC_SIZE.sw h, s.rdSh GLINT.SRC_SIZE.sh h)

/-- What keeps a page's shadow set from being staged: the page that records it, the code and the offset (R282, R300, R340). Boot privilege is
not bound by a Glint head being enabled (R447). -/
def State.commitBad (s : State) (w : Who) (b : Blk) (i : Nat) : Option (Blk × Nat × Nat) :=
  match b with
  | .head =>
    (match s.headSetBad i with
     | some o => some (.head, Code.HEAD_TIMING, o)
     | none => if s.linkSetBad i then some (.link, Code.LINK_MODE, 0x104) else none)
  | .glint => (s.glintSetBad i (s.on (HDR.enable .head) i && w != .boot)).map (fun o => (.glint, Code.GLINT_MARGIN, o))
  | _ => none

/-- A staged set applies at once: under boot privilege, or on a head that does not run (R61, R76). -/
def State.applyNow (s : State) (b : Blk) (i : Nat) : State :=
  match b with
  | .head => s.applyHead i
  | .glint => s.applyGlint i
  | .comp => (s.compApply i 0).compApply i 1
  | .lantern | .mirror => (List.range 8).foldl (fun t h => t.safeApply b h) s
  | _ => s.applySet b i

/-- COMMIT.commit: refused while a set is pending or by the page's own checks; else the set is staged, and applies at once where nothing runs
that it must wait for (R61). -/
def State.commitSet (s : State) (w : Who) (b : Blk) (i : Nat) : Chk :=
  if s.on (HDR.pending b) i then .bad ((s.recErr b i Code.COMMIT_BUSY w.rid 0x020).raise b i 2)
  else if w = .boot ∧ b = .glint ∧ s.on (HDR.enable .head) i ∧ s.glintArea i ≠ (s.head i).area then
    .bad ((s.pinSafe i).refuse .glint i Code.GLINT_MARGIN w.rid 0x104)
  else match s.commitBad w b i with
  | some (p, c, o) => .bad (s.refuse p i c w.rid o)
  | none =>
    if b = .lantern ∨ b = .mirror then
      let t := s.safeCommit b
      .good (if w = .boot then t.applyNow b i else t)
    else
      let t := s.stagePage w.rid b i
      .good (if w = .boot ∨ ((b = .head ∨ b = .glint) ∧ s.headOff i) then t.applyNow b i else t)

/-- A write of COMMIT (R61). A word with commit and revert stages the set and then reverts the shadows, DESIGN CHOICE (log 169); where the
commit is refused the write has no further effect (R449). -/
def State.commitWrite (s : State) (w : Who) (b : Blk) (i v : Nat) : State :=
  s.onWrite w b i 0x020 v (fun t =>
    (if bit v 0 then t.commitSet w b i else .good t).andThen (fun t1 => if bit v 2 then t1.revertSet b i else t1))

/-- The boundary of a page that is no step of its own: GFX when no partition holds bins, a head or Glint page whose head does not run, and the
parts of LANTERN and MIRROR for heads that do not (R61, R245, R336). -/
def State.commitApply (s : State) (b : Blk) (i : Nat) : State :=
  match b with
  | .gfx => if s.on (HDR.pending .gfx) && !s.binsHeld then s.applySet .gfx 0 else s
  | .head => if s.headOff i then s.applyHead i else s
  | .glint => if s.headOff i then s.applyGlint i else s
  | .lantern | .mirror => (List.range 8).foldl (fun t h => if t.running h then t else t.safeApply b h) s
  | _ => s

/-- The header registers. -/
def State.hdrWrite (s : State) (w : Who) (b : Blk) (i off v : Nat) : State :=
  if off = 0x008 then s.ctrlWrite w b i v
  else if off = 0x00C then s.ownerWrite w b i v
  else if off = 0x010 then s.evClear w b i v
  else if off = 0x014 then s.evMaskWrite w b i v
  else if off = 0x01C then s.evForce w b i v
  else if off = 0x020 then s.commitWrite w b i v
  else if off = 0x028 then s.errClear w b i v
  else if off = 0x034 then s.lockWrite w b i v
  else s.onWrite w b i off v id

/-! ### Registers with a behaviour of their own -/

/-- A write that does what the access types of its fields say (R51). -/
def State.plainWrite (s : State) (w : Who) (b : Blk) (i off v : Nat) : State := s.onWrite w b i off v (fun t => t.storeWord b i off v)

/-- A write that is refused with a code where a test holds, and plain otherwise. -/
def State.guarded (s : State) (w : Who) (b : Blk) (i off v code : Nat) (bad : State → Bool) : State :=
  s.onWrite w b i off v (fun t => if bad t then t.refuse b i code w.rid off else t.storeWord b i off v)

/-- INST_CMD by its op (R118). -/
def State.instCmdWord (s : State) (w : Who) (v : Nat) : State :=
  match v % 8 with
  | 1 => s.instCreate w
  | 2 => s.instStart w
  | 3 => s.instQuiesce w (bit v 8)
  | 4 => s.instCmd w 4 false (· == 4) (fun t k => t.instReset k)
  | 5 => s.instCmd w 5 false (fun st => st == 4 || st == 1) (fun t k => t.instRemove k)
  | _ => s.refuse .mgr 0 Code.INST_STATE w.rid 0x104

/-- MGR (R118 to R127). -/
def State.mgrWrite (s : State) (w : Who) (off v : Nat) : State :=
  if 0x400 ≤ off ∧ off < 0x510 then s.mbWord w (off - 0x400) v
  else if off = 0x100 then
    s.onWrite w .mgr 0 off (v % 64) (fun t =>
      if v = 0 ∨ 63 < v then t.refuse .mgr 0 Code.INST_INDEX w.rid off else t.storeWord .mgr 0 off v)
  else if off = 0x104 then s.onWrite w .mgr 0 off v (fun t => t.instCmdWord w v)
  else if 0x110 ≤ off ∧ off ≤ 0x15C then
    s.guarded w .mgr 0 off v Code.INST_STATE (fun t => t.rd MGR.INST_STAT.state (b := t.selInst) != 0)
  else if off = 0x164 then s.viewWrite w v
  else if off = 0x184 then s.vfMap w v
  else if off = 0x19C then s.mgrRearm w v
  else s.plainWrite w .mgr 0 off v

/-- VALE_CMD by its op (R132). -/
def State.valeCmdWord (s : State) (w : Who) (v : Nat) : State :=
  match v % 8 with
  | 1 => s.valeOpen w
  | 2 => s.valeLoad w (bit v 8)
  | 3 => s.valeSeal w
  | 4 => s.valeClose w
  | _ => s.worldRefuse w Code.VALE_STATE 0x104

/-- WAKE_CAUSE: first follows source (R104). -/
def State.wakeCauseWrite (s : State) (w : Who) (v : Nat) : State :=
  s.onWrite w .pwr 0 0x10C v (fun t =>
    let u := t.storeWord .pwr 0 0x10C v
    if u.rd PWR.WAKE_CAUSE.source = 0 then u.wr PWR.WAKE_CAUSE.first 0 else u)

/-- PWR (R84, R95, R96, R104). -/
def State.pwrWrite (s : State) (w : Who) (off v : Nat) : State :=
  if off = 0x100 then s.stateReq w v
  else if off = 0x10C then s.wakeCauseWrite w v
  else if off = 0x140 then s.railReq w 0 v
  else if off = 0x144 then s.railReq w 1 v
  else s.guarded w .pwr 0 off v Code.PWR_OPP_RANGE (fun t => t.oppBad off v)

/-- SPARE_CMD (R174, R177). -/
def State.spareCmd (s : State) (w : Who) (n v : Nat) : State :=
  s.onWrite w .dram n 0x114 v (fun t =>
    let t1 := if bit v 8 then t.spareStart w n (v % 4) else t
    if bit v 9 then t1.spareCancel n else t1)

/-- DRAMQ (R166, R167, R180). -/
def State.dramqWrite (s : State) (w : Who) (off v : Nat) : State :=
  if off = 0x100 then s.guarded w .dramq 0 off v Code.DRAMQ_RANGE (fun _ => decide (16 < v % 32))
  else if off = 0x104 ∨ off = 0x108 then s.onWrite w .dramq 0 off v (fun t => t.portWrite w off v)
  else if off = 0x120 then s.onWrite w .dramq 0 off v (fun t => t.effWrite w v)
  else s.plainWrite w .dramq 0 off v

/-- CTX_OP by its op (R187). -/
def State.ctxOpWord (s : State) (w : Who) (v : Nat) : State :=
  match v % 8 with
  | 1 => s.ctxRead w
  | 2 => s.ctxWrite w
  | 3 => s.ctxEnable w
  | 4 => s.ctxDisable w
  | 5 => s.ctxMigrate w (bits v 8 4)
  | op => s.ctxOp w op 0 (fun t _ => t)

/-- MGR_ALLOC: refused beyond the pools, or where it releases a context that is not Idle; MGR records the refusal, with the register's offset
(R252, R448; log 193). -/
def State.mgrAlloc (s : State) (w : Who) (v : Nat) : State :=
  s.onWrite w .gfx 0 0x114 v (fun t =>
    let n := v % 128
    if 64 < n + t.heldSum 0 MGR.ALLOC_GPU.contexts ∨ 256 < bits v 8 9 + t.heldSum 0 MGR.ALLOC_GPU.share then
      t.refuse .mgr 0 Code.INST_POOL w.rid 0x114
    else if ((t.ownCtx 0xFE).drop n).any (fun c => t.ctxState c != 1) then t.refuse .mgr 0 Code.INST_STATE w.rid 0x114
    else (t.gfxAccount.storeWord .gfx 0 0x114 v).resizeCtx 0xFE n)

/-- BIN_CFG: fe0_blocks is stored clamped by the comp_blocks written with it (R252). -/
def binCfgWord (v : Nat) : Nat :=
  v / 2 ^ 15 * 2 ^ 15 + clamp 16 (112 - clamp 16 96 (bits v 0 7)) (bits v 8 7) * 2 ^ 8 + bits v 0 8

/-- COMPn (R254, R261, R263). A reservation of a layer that is allocated is refused with a record in MGR (R448). -/
def State.compWrite (s : State) (w : Who) (n off v : Nat) : State :=
  if off = 0x104 then
    s.onWrite w .comp n off v (fun t =>
      if (List.range 32).any (fun k => bit v k && t.layerOwner (2 * n + k / 16) (k % 16) != 0xFE) then
        t.refuse .mgr 0 Code.INST_POOL w.rid off
      else t.storeWord .comp n off v)
  else if off = 0x134 then s.coefWrite w n v
  else if off = 0x148 then s.substWrite w n v
  else s.plainWrite w .comp n off v

/-- LINKn: the configuration and the power sequence accept writes only in Off (R340, R352). -/
def State.linkWrite (s : State) (w : Who) (n off v : Nat) : State :=
  if off = 0x100 then s.linkCtrl w n v
  else if off = 0x120 then s.auxWrite w n v
  else if off = 0x140 then s.dsiWrite w n v
  else if off = 0x118 ∨ off = 0x11C then s.blWrite w n off v
  else if off = 0x104 ∨ off = 0x10C ∨ off = 0x110 ∨ off = 0x114 then
    s.guarded w .link n off v Code.REG_PERM (fun t => t.linkState n != 0 && w != .boot)
  else s.plainWrite w .link n off v

/-- CAPn: the receive registers accept writes only while the port is disabled (R358). -/
def State.capWrite (s : State) (w : Who) (n off v : Nat) : State :=
  if off = 0x12C then s.trigWrite w n v
  else if [0x100, 0x108, 0x10C, 0x110, 0x114].contains off then
    s.guarded w .cap n off v Code.REG_PERM (fun t => t.on (HDR.enable .cap) n && w != .boot)
  else s.plainWrite w .cap n off v

/-- Whether RPT_SIZE or RPT_BASE is at an offset, which accept writes only while reporting is off (R381). -/
def rptFixed (off : Nat) : Bool := off == 0x2D4 || off == 0x2D8 || off == 0x2DC

/-- TOUCHn (R372, R376, R381). -/
def State.touchWrite (s : State) (w : Who) (n off v : Nat) : State :=
  if n % 2 = 1 then s.plainWrite w .touch n off v
  else if off = 0x200 then s.surfCtrl w (n / 2) v
  else if off = 0x2D0 then s.rptCtrl w (n / 2) v
  else if off = 0x2E4 then s.rptCons w (n / 2) v
  else if rptFixed off then s.guarded w .touch n off v Code.REG_PERM (fun t => t.on TOUCH.RPT_CTRL.enable n && w != .boot)
  else s.plainWrite w .touch n off v

/-- SURFp (R389, R396, R399). -/
def State.surfWrite (s : State) (w : Who) (p off v : Nat) : State :=
  if off = 0x100 then s.portCtrl w p v
  else if off = 0x118 then s.hvCtrl w p v
  else if off = 0x120 then s.streamCfg w p v
  else s.plainWrite w .surf p off v

/-- AUDIO (R409, R411, R413, R414, R417, R419). -/
def State.audioWrite (s : State) (w : Who) (off v : Nat) : State :=
  if off = 0x100 ∨ off = 0x104 then
    s.guarded w .audio 0 off v Code.REG_PERM (fun t => t.on (HDR.enable .audio) && w != .boot)
  else if off = 0x10C then s.safeloadGo w v
  else if off = 0x118 then s.psetAccess w (some v)
  else if off = 0x124 then s.strmCfg w v
  else if 0x180 ≤ off ∧ off < 0x200 then
    let t := (off - 0x180) / 0x20
    match (off - 0x180) % 0x20 with
    | 0x0 => s.portEnable w t v
    | 0x4 => s.portCfg w t v
    | 0x8 => s.portStat w t v
    | 0xC => s.silCfg w t v
    | _ => s.plainWrite w .audio 0 off v
  else s.plainWrite w .audio 0 off v

/-- ENC (R429). -/
def State.encWrite (s : State) (w : Who) (off v : Nat) : State :=
  if 0x100 ≤ off ∧ off < 0x200 ∧ off % 16 = 12 then s.encSet w ((off - 0x100) / 16) v
  else s.pinWrite w .enc off v (fun t => t.storeWord .enc 0 off v)

/-- GPIO (R432 to R436). -/
def State.gpioWrite (s : State) (w : Who) (off v : Nat) : State :=
  if off % 4 ≠ 0 then s.plainWrite w .gpio 0 off v
  else if 0x100 ≤ off ∧ off < 0x280 then s.pinOwnerWrite w ((off - 0x100) / 4) v
  else if 0x300 ≤ off ∧ off < 0x3C0 then s.gpioCfg w ((off - 0x300) / 4) v
  else if 0x500 ≤ off ∧ off < 0x580 ∧ off % 0x20 = 0 then s.i2cCtrl w ((off - 0x500) / 0x20) v
  else if off = 0x584 then s.uartWrite w 0 v
  else if off = 0x5A4 then s.uartWrite w 1 v
  else s.pinWrite w .gpio off v (fun t => t.storeWord .gpio 0 off v)

/-- SAFE (R222, R317, R335, R424). -/
def State.safeWrite (s : State) (w : Who) (off v : Nat) : State :=
  if off = 0x104 then s.faultCtrl w v
  else if off = 0x10C then s.headSrcWrite w v
  else if off = 0x114 then s.hvPermit w v
  else if off = 0x128 then s.swdKick w v
  else if off = 0x200 then s.alarmCtrl w v
  else s.plainWrite w .safe 0 off v

/-- A word written to an offset from 0x100 of a page. -/
def State.blkWrite (s : State) (w : Who) (b : Blk) (i off v : Nat) : State :=
  match b with
  | .mgr => s.mgrWrite w off v
  | .pot => if off = 0x114 then s.onWrite w b i off v (fun t => t.potCommand w (v % 4) (bit v 8)) else s.plainWrite w b i off v
  | .world =>
    if off = 0x104 then s.onWrite w b i off v (fun t => t.valeCmdWord w v)
    else if 0x140 ≤ off ∧ off < 0x160 ∧ off % 4 = 0 then s.dmaOwner w ((off - 0x140) / 4) v
    else s.plainWrite w b i off v
  | .swdt =>
    if off = 0x100 ∨ off = 0x104 ∨ off = 0x108 then s.swdtWrite w off v
    else if off = 0x10C then s.swdtKick w v
    else s.plainWrite w b i off v
  | .boot =>
    if off = 0x114 then s.rstCtrl w v
    else if off = 0x120 then s.keyRevoke w v
    else if off = 0x128 then s.flOp w v
    else s.plainWrite w b i off v
  | .pwr => s.pwrWrite w off v
  | .clk =>
    if off = 0x1A0 then s.guarded w b i off v Code.CLK_DOMAIN_INDEX (fun _ => decide (235 < v % 256)) else s.plainWrite w b i off v
  | .time =>
    if off = 0x10C then s.masterCfg w v
    else if off = 0x150 then s.snapCtrl w v
    else s.plainWrite w b i off v
  | .dram =>
    if off = 0x104 then s.guarded w b i off v Code.DRAM_SPARE_BUSY (fun t => t.on DRAM.SUB_STAT.trained i)
    else if off = 0x114 then s.spareCmd w i v
    else s.plainWrite w b i off v
  | .dramq => s.dramqWrite w off v
  | .rsched => if off = 0x104 then s.onWrite w b i off v (fun t => t.ctxOpWord w v) else s.plainWrite w b i off v
  | .dma => if off = 0x120 then s.dmaCtrl w i v else s.plainWrite w b i off v
  | .gfx =>
    if off = 0x114 then s.mgrAlloc w v
    else if off = 0x104 then s.onWrite w b i off v (fun t => t.storeWord b i off (binCfgWord v))
    else s.plainWrite w b i off v
  | .comp => s.compWrite w i off v
  | .basin =>
    if 0x100 ≤ off ∧ off < 0x120 ∧ off % 4 = 0 then s.granWrite w ((off - 0x100) / 4) v
    else if off = 0x144 then s.grpArm w v
    else s.plainWrite w b i off v
  | .head => s.plainWrite w b i off v
  | .glint => if off = 0x164 then s.poseWrite w i v else s.plainWrite w b i off v
  | .link => s.linkWrite w i off v
  | .cap => s.capWrite w i off v
  | .touch => s.touchWrite w i off v
  | .surf => s.surfWrite w i off v
  | .hapt => if off = 0x100 then s.boostCtrl w v else s.plainWrite w b i off v
  | .audio => s.audioWrite w off v
  | .enc => s.encWrite w off v
  | .gpio => s.gpioWrite w off v
  | .safe => s.safeWrite w off v
  | .lantern => if off = 0x104 then s.lsramWrite w v else s.plainWrite w b i off v
  | .mirror => s.plainWrite w b i off v

/-! ### 64-bit values (R53) -/

/-- Which half of a writable 64-bit value an offset is: true for the upper. -/
def pairHalf (b : Blk) (i off : Nat) : Option Bool :=
  ((partsAt b i off).find? (fun p => p.fld.wide && (p.fld.acc == .rw || p.fld.acc == .rws))).map (fun p => p.hi)

/-- A write of LO stages it (R53). -/
def State.loWrite (s : State) (w : Who) (b : Blk) (i off v : Nat) : State :=
  match s.reach w b i off true with
  | .bad t => t
  | .good t => (t.stageLo w b i v).okResp

/-- A write of HI writes both halves at once (R53). SNAP_AT arms the strobe (R443). -/
def State.hiWrite (s : State) (w : Who) (b : Blk) (i off v : Nat) : State :=
  if b = .time ∧ off = 0x14C then s.snapArm w v
  else s.pairWrite w b i off v (fun t lo =>
    if b = .touch && rptFixed off && t.on TOUCH.RPT_CTRL.enable i && w != .boot then t.refuse b i Code.REG_PERM w.rid off
    else (t.storeWord b i (off - 4) lo).storeWord b i off v)

/-- A 32-bit write of v to an offset of a page. -/
def State.writeWord (s : State) (w : Who) (b : Blk) (i off v : Nat) : State :=
  if off < 0x100 then s.hdrWrite w b i off v
  else match pairHalf b i off with
    | some false => s.loWrite w b i off v
    | some true => s.hiWrite w b i off v
    | none =>
      match s.reach w b i off true with
      | .bad t => t
      | .good t => t.blkWrite w b i off v

/-! ### The commands -/

/-- A write of v at an offset of a page index; an index R48 does not list is unbacked (R44, R48). -/
def State.pageWrite (s : State) (w : Who) (page off v : Nat) : State :=
  match blkOfPage page with
  | some (b, i) => s.writeWord w b i off v
  | none => s.potRefuse Code.POT_UNBACKED w.rid (0x3000000000 + page * 0x1000 + off)

/-- A command at one header register of a page index: k does it on the page (R44, R48). -/
def State.headerCmd (s : State) (w : Who) (page off : Nat) (k : Blk → Nat → State) : State :=
  match blkOfPage page with
  | some (b, i) => k b i
  | none => s.potRefuse Code.POT_UNBACKED w.rid (0x3000000000 + page * 0x1000 + off)

/-- REGISTER_WRITE (R450). -/
def execRegisterWrite (w : Who) (page : Fin 256) (off : BitVec 12) (v : Word) (s : State) : Out :=
  .next (s.pageWrite w page.val off.toNat v.toNat)

/-- REG_WRITE_HI: a write of the upper half of a 64-bit value (R53). -/
def execRegWriteHi (w : Who) (page : Fin 256) (off : BitVec 12) (v : Word) (s : State) : Out :=
  .next (match blkOfPage page.val with
    | some (b, i) =>
      if pairHalf b i off.toNat = some true then s.hiWrite w b i off.toNat v.toNat else s.writeWord w b i off.toNat v.toNat
    | none => s.potRefuse Code.POT_UNBACKED w.rid (0x3000000000 + page.val * 0x1000 + off.toNat))

/-- COMMIT: a write of COMMIT.commit = 1 (R61). -/
def execCommit (w : Who) (page : Fin 256) (s : State) : Out := .next (s.headerCmd w page.val 0x020 (fun b i => s.commitWrite w b i 1))

/-- COMMIT_REVERT: a write of COMMIT.revert = 1 (R61). -/
def execCommitRevert (w : Who) (page : Fin 256) (s : State) : Out := .next (s.headerCmd w page.val 0x020 (fun b i => s.commitWrite w b i 4))

/-- COMMIT_APPLY: a page's boundary (R61). -/
def execCommitApply (page : Fin 256) (s : State) : Out :=
  .next (match blkOfPage page.val with
    | some (b, i) => s.commitApply b i
    | none => s)

/-- SOFT_RESET: a write of PG_CTRL with soft_reset = 1 and a value of enable (R55). -/
def execSoftReset (w : Who) (page : Fin 256) (enable : Bool) (s : State) : Out :=
  .next (s.headerCmd w page.val 0x008 (fun b i => s.ctrlWrite w b i (if enable then 3 else 2)))

/-- PG_OWNER_WRITE (R56). -/
def execPgOwnerWrite (w : Who) (page : Fin 256) (v : Word) (s : State) : Out := .next (s.headerCmd w page.val 0x00C (fun b i => s.ownerWrite w b i v.toNat))

/-- EV_RAW_CLEAR (R57). -/
def execEvRawClear (w : Who) (page : Fin 256) (v : Word) (s : State) : Out := .next (s.headerCmd w page.val 0x010 (fun b i => s.evClear w b i v.toNat))

/-- EV_FORCE (R57). -/
def execEvForce (w : Who) (page : Fin 256) (v : Word) (s : State) : Out := .next (s.headerCmd w page.val 0x01C (fun b i => s.evForce w b i v.toNat))

/-- ERR_CODE_CLEAR: a write of 1 to ERR_CODE.valid (R59). -/
def execErrCodeClear (w : Who) (page : Fin 256) (s : State) : Out := .next (s.headerCmd w page.val 0x028 (fun b i => s.errClear w b i 0x80000000))

/-- LOCK_SET: a write of 1 to LOCK.lock (R63). -/
def execLockSet (w : Who) (page : Fin 256) (s : State) : Out := .next (s.headerCmd w page.val 0x034 (fun b i => s.lockWrite w b i 1))

/-! ### Snapshots (R65, R443 to R445) -/

/-- Whether every clock domain and power state lets a strobe copy every page: in Run or Idle, with the main and display domains out of reset
(R444). -/
def State.snapReady (s : State) : Bool :=
  decide (s.rd PWR.STATE.state ≤ 1) && s.pwr.mainUp && s.pwr.dispUp && s.on SAFE.ISL_STAT.fw_running

/-- The strobe copies the counters of every page with SNAP_SEQ and SNAP_TIME (R65, R444). -/
def State.snapCopy (s : State) (at_ : Nat) : State :=
  let n := s.time.strobe + 1
  let page := fun (p : Blk × Nat) =>
    ((List.range (p.1.counters p.2)).map (fun j => (ctrKey (p.1.page p.2) j, s.counterNow p.1 p.2 j))) ++
      [(ctrKey (p.1.page p.2) 120, n), (ctrKey (p.1.page p.2) 121, at_)]
  let snap := (allPages.flatMap page).foldl (fun m e => mset m e.1 e.2 0) s.snap
  let s1 := { s with snap := snap, time := { s.time with strobe := n } }
  (allPages.foldl (fun t p => t.raise p.1 p.2 3) s1).count .time 0 6

/-- The strobe's tick has come, the first at which DEVTIME has reached SNAP_AT: counters are copied, or the strobe is skipped; then it is armed
again for its period, or no more (R443 to R445). -/
def State.snapStrobe (s : State) : State :=
  let at_ := s.rd TIME.SNAP_AT.at_
  let tick := s.time.tick * 1000000000 / 32768
  if !s.on TIME.SNAP_CTRL.armed ∨ tick < at_ then s
  else
    let s1 := if s.snapReady then s.snapCopy tick else (s.raise .time 0 12).count .time 0 7
    let per := s1.rd TIME.SNAP_CTRL.period_ms
    if per = 0 then s1.wr TIME.SNAP_CTRL.armed 0 else s1.wr TIME.SNAP_AT.at_ (at_ + per * 1000000)

/-- SNAP_STROBE (R444). -/
def execSnapStrobe (s : State) : Out := .next s.snapStrobe

end Sys2Proof.Machine
end

