-- ==== Sys2Proof/Machine/Boot.lean ====
section
/-! DEFINITION. The rail sequence and the boot ROM: copies and their checks, records, the main, safety and display stages of boot, the manager's
release, and the last step of the return from Sleep and Deep sleep (R39, R68, R71 to R79, R90, R91, R154, R447). -/

namespace Sys2Proof.Machine

/-! ### Records (R74 to R76) -/

/-- A record: page index, offset, mask and value (R74). -/
structure BootRec where
  page  : Nat
  off   : Nat
  mask  : Nat
  value : Nat
deriving DecidableEq, Repr

/-- The record held in 12 bytes (R74). -/
def recOf (d : List Byte) : BootRec :=
  ⟨leVal (d.take 2), leVal ((d.drop 2).take 2), leVal ((d.drop 4).take 4), leVal ((d.drop 8).take 4)⟩

/-- Whether a record is valid (R75). -/
def BootRec.valid (r : BootRec) : Bool :=
  match blkOfPage r.page with
  | none => false
  | some (b, i) =>
    r.off % 4 == 0 && decide (4 ≤ r.off ∧ r.off < 0x800) && offsetDefined b i r.off &&
      !(b == .boot && (r.off == 0x114 || r.off == 0x120 || r.off == 0x124 || r.off == 0x128 || decide (0x400 ≤ r.off ∧ r.off < 0x500)))

/-- Apply a record with boot privilege: one write, or a read and a write of the masked value (R74, R76). -/
def State.applyRec (s : State) (r : BootRec) : State :=
  match blkOfPage r.page with
  | none => s
  | some (b, i) =>
    let t :=
      if r.mask = 0xFFFFFFFF then s.writeWord .boot b i r.off r.value
      else
        let u := s.readWord .boot b i r.off
        u.writeWord .boot b i r.off ((u.resp.data &&& (0xFFFFFFFF - r.mask)) ||| (r.value &&& r.mask))
    { t with resp := s.resp }

/-- Records of a list of bytes, n of them. -/
def recsOf (n : Nat) (d : List Byte) : List BootRec := (List.range n).map (fun k => recOf ((d.drop (12 * k)).take 12))

/-- The factory default records: up to the one whose page index is 0xFFFF (R71). -/
def State.factoryRecs (s : State) : List BootRec :=
  (recsOf 1024 ((List.range 0x3000).map (fun k => s.otpAt (0x400 + k)))).takeWhile (fun r => r.page != 0xFFFF)

/-! ### Copies (R72, R73, R77) -/

/-- n bytes of flash. -/
def State.flashBytes (s : State) (a n : Nat) : List Byte := (List.range n).map (fun k => s.flashAt (a + k))

/-- A field of the header of copy c (R72). -/
def State.hdr (s : State) (c off n : Nat) : Nat := leVal (s.flashBytes (c * 0x2000000 + off) n)

/-- The boot set of copy c (R72). -/
def State.bootSet (s : State) (c : Nat) : List Byte := s.flashBytes (c * 0x2000000) (s.hdr c 0x00C 4)

/-- SHA-256 digest of the boot set of copy c (R77). -/
def State.bootDigest (s : State) (c : Nat) : Nat := digestNat (sha256 (s.bootSet c))

/-- The records of copy c (R72, R74). -/
def State.copyRecs (s : State) (c : Nat) : List BootRec :=
  recsOf (s.hdr c 0x01C 4) (s.flashBytes (c * 0x2000000 + s.hdr c 0x018 4) (12 * s.hdr c 0x01C 4))

/-- Whether every field of a header obeys R72. -/
def State.hdrOk (s : State) (c : Nat) : Bool :=
  let len := s.hdr c 0x00C 4
  let soff := s.hdr c 0x010 4
  let roff := s.hdr c 0x018 4
  let moff := s.hdr c 0x020 4
  let mlen := s.hdr c 0x024 4
  let load := s.hdr c 0x028 8
  let entry := s.hdr c 0x030 8
  s.hdr c 0x006 2 == 0 && len % 4 == 0 && decide (0x100 ≤ len ∧ len ≤ 0x300000) &&
    soff % 4 == 0 && decide (soff < len ∧ s.hdr c 0x014 4 ≤ 0x180000 ∧ soff + s.hdr c 0x014 4 ≤ len) &&
    roff % 4 == 0 && decide (roff < len ∧ s.hdr c 0x01C 4 ≤ 65536 ∧ roff + 12 * s.hdr c 0x01C 4 ≤ len) &&
    moff % 4096 == 0 && decide (len + 68 ≤ moff ∧ mlen ≤ 0x1C00000 ∧ moff + mlen ≤ 0x2000000) &&
    load % 4096 == 0 && decide (load + mlen ≤ s.variant.dramTop) && decide (load ≤ entry ∧ entry < load + mlen) &&
    s.hdr c 0x098 104 == 0

/-- The number of big-endian bytes. -/
def beNat (d : List Byte) : Nat := d.foldl (fun a b => a * 256 + b.toNat) 0

/-- The unrevoked key hash slot that holds the SHA-256 of the key of copy c; an empty slot matches none (R71, R73). -/
def State.keySlot (s : State) (c : Nat) : Option Nat :=
  let h := digestNat (sha256 (s.flashBytes (c * 0x2000000 + 0x058) 64))
  (List.range 4).find? (fun k =>
    let v := beNat ((List.range 32).map (fun j => s.otpAt (0x40 + 32 * k + j)))
    !bit s.revoked k && v != 0 && v == h)

/-- Whether the signature of copy c verifies (R73). -/
def State.sigOk (s : State) (c : Nat) : Bool :=
  let base := c * 0x2000000
  let len := s.hdr c 0x00C 4
  ecdsaVerify (beNat (s.flashBytes (base + 0x058) 32)) (beNat (s.flashBytes (base + 0x078) 32)) (s.bootDigest c)
    (beNat (s.flashBytes (base + len) 32)) (beNat (s.flashBytes (base + len + 32) 32))

/-- The reason code of copy c: the first check of R73 that fails, 0 for an intact copy, 7 where its flash cannot be read (R73, R80). -/
def State.copyReason (s : State) (c : Nat) (readErr : Bool) : Nat :=
  let len := s.hdr c 0x00C 4
  if readErr then 7
  else if s.hdr c 0 4 ≠ 0x4E525749 then 1
  else if s.hdr c 4 2 ≠ 1 ∨ !s.hdrOk c then 2
  else if crc32c (s.flashBytes (c * 0x2000000) (len + 64)) ≠ s.hdr c (len + 64) 4 then 3
  else if (s.keySlot c).isNone then 4
  else if !s.sigOk c then 5
  else if !(s.copyRecs c).all BootRec.valid then 6
  else 0

/-- The generation that GEN_A and GEN_B show: none where no header was read (R80). -/
def State.shownGen (s : State) (c reason : Nat) : Nat := if reason = 1 ∨ reason = 2 ∨ reason = 7 then 0 else s.hdr c 0x008 4

/-- The copy named in BOOT_STAT, if one is in use (R80). -/
def State.inUse (s : State) : Option Nat := if s.on BOOT.BOOT_STAT.factory_only then none else some (s.rd BOOT.BOOT_STAT.sel)

/-- The choice of R77 from the two reason codes: the copy, whether both are identical, and whether they conflict. -/
def State.choose (s : State) (ra rb : Nat) : Option Nat × Bool × Bool :=
  if ra = 0 ∧ rb ≠ 0 then (some 0, false, false)
  else if ra ≠ 0 ∧ rb = 0 then (some 1, false, false)
  else if ra ≠ 0 then (none, false, false)
  else if s.bootDigest 0 = s.bootDigest 1 then (some 0, true, false)
  else if s.hdr 1 0x008 4 < s.hdr 0 0x008 4 then (some 0, false, false)
  else if s.hdr 0 0x008 4 < s.hdr 1 0x008 4 then (some 1, false, false)
  else (none, false, true)

/-- Show why a copy was not used, with the generation that goes with the reason (R77, R80). -/
def State.setReason (s : State) (c r : Nat) : State :=
  if c = 0 then (s.wr BOOT.BOOT_STAT.a_reason r).wr BOOT.GEN_A.generation (s.shownGen 0 r)
  else (s.wr BOOT.BOOT_STAT.b_reason r).wr BOOT.GEN_B.generation (s.shownGen 1 r)

/-- Read and check both copies, choose one and show it in BOOT_STAT (R77, R80). -/
def State.selectCopy (s : State) (errA errB : Bool) : State :=
  let ra := s.copyReason 0 errA
  let rb := s.copyReason 1 errB
  let (sel, same, conf) := s.choose ra rb
  let c := sel.getD 0
  let s1 := [(BOOT.BOOT_STAT.a_reason, ra), (BOOT.BOOT_STAT.b_reason, rb), (BOOT.BOOT_STAT.sel, c), (BOOT.BOOT_STAT.identical, b2n same),
    (BOOT.BOOT_STAT.nv_conflict, b2n conf), (BOOT.BOOT_STAT.factory_only, b2n sel.isNone),
    (BOOT.BOOT_STAT.key_slot, if sel.isNone then 0 else (s.keySlot c).getD 0),
    (BOOT.GEN_A.generation, s.shownGen 0 ra), (BOOT.GEN_B.generation, s.shownGen 1 rb)].foldl
      (fun (t : State) (e : Fld × Nat) => t.wr e.1 e.2) s
  { s1 with pwr := { s1.pwr with picked := true } }

/-- Apply those of a list of records that lie in the pages picked, in list order, with boot privilege (R76). -/
def State.applyRecs (s : State) (l : List BootRec) (pick : Blk → Nat → Bool) : State :=
  let t := (l.filter (fun r => match blkOfPage r.page with | some (b, _) => pick b r.off | none => false)).foldl State.applyRec
    { s with pwr := { s.pwr with priv := true } }
  { t with pwr := { t.pwr with priv := s.pwr.priv } }

/-- The records of the copy in use. -/
def State.usedRecs (s : State) : List BootRec := match s.inUse with | some c => s.copyRecs c | none => []

/-- Apply the factory records of the pages picked, then those of the copy in use (R76). -/
def State.bootRecs (s : State) (pick : Blk → Nat → Bool) : State := s.applyRecs (s.factoryRecs ++ s.usedRecs) pick

/-- The boot set in use: copy and digest. -/
def State.bootSetNow (s : State) : Option (Nat × Nat) := s.inUse.map (fun c => (c, s.bootDigest c))

/-! ### The rail sequence (R39, R79 steps 1 to 3) -/

/-- An AVSBus rail is brought to its Run voltage. -/
def State.railRun (s : State) (n : Nat) : State := if s.rd PWR.RAIL_STAT.target_mv 0 n = s.runMv n then s else (s.railTo n (s.runMv n)).railAck n

/-- Step 2: the FAULT pins show fault, and the factory records for always-on pages are applied if that domain was reset (R79). -/
def State.bootStep2 (s : State) : State :=
  let s1 := { s with pins := { s.pins with faultA := false, faultB := true, safeHiZ := false } }
  if s1.pwr.fresh then (s1.applyRecs s1.factoryRecs (fun b _ => decide (b.domain = .aon))).oppNote else s1

/-- RAIL_GOOD: the rail being started is good, and the next one starts; after the last, PWR_GOOD is high. With RESET_N low only the always-on rail
starts (R38, R39). -/
def State.railGood (s : State) : State :=
  if (!s.pins.resetN ∧ s.pwr.rails ≠ 0) ∨ s.pwr.vin ≠ 0 ∨ s.pwr.hot ∨ s.rd PWR.STATE.state = 4 ∨ 11 ≤ s.pwr.rails then s
  else
    let n := s.pwr.rails
    let s1 := { s with pwr := { s.pwr with rails := n + 1 } }
    let s2 := if n = 1 then s1.bootStep2 else match railNumber n with | some r => if r < 4 then s1.railRun r else s1 | none => s1
    if n + 1 = 11 then { s2 with pins := { s2.pins with pwrGood := true }, pwr := { s2.pwr with osc := true } } else s2

/-- RAIL_GOOD (R39). -/
def execRailGood (s : State) : Out := .next s.railGood

/-! ### Stages (R79 steps 5 to 8) -/

/-- The safety firmware of a copy, loaded at address 0 of a zeroed safety SRAM and entered there (R72, R79). -/
def State.loadSafety (s : State) (c : Nat) : State :=
  let d := s.flashBytes (c * 0x2000000 + s.hdr c 0x010 4) (s.hdr c 0x014 4)
  let m := ((List.range d.length).zip d).filter (fun e => e.2 != 0)
  { s with safe := { s.safe with sram := m, fwEntry := some 0 } }.wr SAFE.ISL_STAT.fw_running 1

/-- Step 5: the safety firmware of the copy in use and the records of the safety pages; without a copy, FAULT stays at fault. The outputs of the
SAFE bank are driven again (R69, R78, R79). -/
def State.safetyBoot (s : State) : State :=
  let s1 := s.bootRecs (fun b _ => decide (b.domain = .safety))
  let s2 := { s1 with
    pins := { s1.pins with faultA := false, faultB := true, safeHiZ := false }
    pwr := { s1.pwr with safeUp := true, fw := s1.bootSetNow }
    safe := { s1.safe with since := s1.now, kicked := s1.now, slLast := s1.now } }
  let s3 := match s2.inUse with | some c => s2.loadSafety c | none => s2
  (s3.linkPins).ampPins

/-- Step 6: every head starts on fallback, unless the safety island itself reset the domain; then the records of the display pages (R79, R314). -/
def State.displayBoot (s : State) : State :=
  let s1 := if s.rd BOOT.RST_CAUSE.display_cause = 0xC then s
    else ((((s.wr SAFE.HEAD_SRC.fallback 0xFF).wr SAFE.HEAD_SRC.blank 0).wr SAFE.HEAD_SRC.dispen_off 0).wr SAFE.HEAD_SRC.bl_off 0)
  let s2 := s1.bootRecs (fun b _ => decide (b.domain = .display))
  { s2 with pwr := { s2.pwr with dispUp := true } }

/-- Main-domain records that precede those of the display domain (R447). -/
def earlyRec (b : Blk) (off : Nat) : Bool := b == .glint || (b == .basin && decide (0x100 ≤ off ∧ off < 0x120))

/-- The main domain's own working state at the start of its stage: the manager's contexts, the reservations the pages' reset values hold, and the
surface ports (R167, R229, R389). -/
def State.mainInit (s : State) : State :=
  let s1 := s.resizeCtx 0xFE (s.rd GFX.MGR_ALLOC.contexts)
  let s2 := (List.range 17).foldl (fun (t : State) p =>
    let r := t.portHeld p
    if r = 0 then t
    else
      (({ t with mem := { t.mem with admSeq := t.nextAdmission } }).wr DRAMQ.PORT_STAT.admit_seq t.nextAdmission (b := p)).wr
        DRAMQ.ADMIT_USED.used (t.rd DRAMQ.ADMIT_USED.used + r)) s1
  (List.range 8).foldl (fun (t : State) p =>
    let u := t.wrB SURF.SURF_STAT.present (bit t.pins.present p) p
    if u.on SURF.PORT_CTRL.power p then u.portOn p else u) s2

/-- Physical ranks a subchannel has (R152, R173). -/
def Variant.ranks : Variant → Nat
  | .a32 => 2
  | _ => 4

/-- DRAM timings of R155. -/
def dramTimings : List (Fld × Nat) :=
  [(DRAM.TIMING0.cl, 52), (DRAM.TIMING0.cwl, 50), (DRAM.TIMING0.trcd, 52), (DRAM.TIMING0.trp, 52), (DRAM.TIMING1.tras, 102), (DRAM.TIMING1.trc, 154),
   (DRAM.TIMING1.twr, 96), (DRAM.TIMING1.trtp, 24), (DRAM.TIMING2.twtr, 32), (DRAM.TIMING2.tccd_s, 8), (DRAM.TIMING2.tccd_l, 16),
   (DRAM.TIMING2.trrd_s, 8), (DRAM.TIMING3.trrd_l, 16), (DRAM.TIMING3.tfaw, 32), (DRAM.TIMING3.trefi, 12480), (DRAM.TIMING4.trfc, 1312)]

/-- Train a subchannel: pass has a bit for each physical rank that passes. A failed active rank is mapped to the spare; whether the subchannel
presents all its active ranks (R154, R155, R171). -/
def State.trainSub (s : State) (n pass delay : Nat) : State × Bool :=
  let k := s.variant.ranks
  let p := pass % 2 ^ k
  let s1 := (dramTimings.foldl (fun (t : State) (e : Fld × Nat) => t.wr e.1 e.2 n) s).wr DRAM.TRAIN_STAT.pass p n
  let s2 := (s1.wr DRAM.REPLAY_CFG.alert_delay (clamp 1 63 delay) n)
  let s3 := (List.range k).foldl (fun (t : State) r => if bit p r then t else t.recErr .dram n Code.DRAM_TRAIN_FAIL ridBlock r) s2
  let spare := s3.spareRank n
  let lost := (List.range (if s.variant = .a32 then 1 else 3)).filter (fun l => !bit p (s3.physRank n l))
  match lost with
  | [] => ((s3.wr DRAM.SUB_STAT.trained 1 n).wrB DRAM.SUB_STAT.spare_avail (bit p spare) n, true)
  | [l] =>
    if bit p spare then
      let m := s3.rd DRAM.RANK_MAP.map n
      let old := s3.physRank n l
      let m1 := m - old * 4 ^ l - spare * 64 + spare * 4 ^ l + old * 64
      (((s3.wr DRAM.RANK_MAP.map m1 n).wr DRAM.SUB_STAT.trained 1 n).wr DRAM.SUB_STAT.spare_avail 0 n, true)
    else (s3, false)
  | _ => (s3, false)

/-- Train every subchannel (R154). -/
def State.train (s : State) (pass : Vector (BitVec 4) 8) (delay : Vector (BitVec 6) 8) : State × Bool :=
  (List.range 8).foldl (fun (a : State × Bool) n =>
    let (t, ok) := a.1.trainSub n (pass.toList.getD n 0).toNat (delay.toList.getD n 0).toNat
    (t, a.2 && ok)) (s, true)

/-- Step 8: load the manager firmware; its entry point, or none where its digest differs (R72, R78, R79). -/
def State.loadManager (s : State) (c : Nat) : State :=
  let d := s.flashBytes (c * 0x2000000 + s.hdr c 0x020 4) (s.hdr c 0x024 4)
  let s1 := s.wrBytes (s.hdr c 0x028 8) d
  if digestNat (sha256 d) = beNat (s.flashBytes (c * 0x2000000 + 0x038) 32) then
    { s1 with pwr := { s1.pwr with entry := some (s.hdr c 0x030 8) } }
  else s1.wr BOOT.BOOT_STAT.mgr_bad 1

/-- Reaching Run: the state, the secure watchdog, the wake events latched since the commit point (R87, R91, R104). -/
def State.toRun (s : State) : State :=
  let l := s.pwr.latched
  let s1 := s.pwrStep 0 0 0
  let s2 := if l.isEmpty then s1 else (l.foldl (fun (t : State) n => (t.wakeNote n).count .pwr 0 4) s1).wr PWR.WAKE_CAUSE.replayed 1
  let s3 := { s2 with pwr := { s2.pwr with latched := [], swPause := false, commit := false } }
  (if s.rd PWR.STATE.state = 6 then s3.raise .pwr 0 10 else s3).hvSync

/-- Whether the main stage of boot may run. -/
def State.mayBoot (s : State) : Bool :=
  s.pins.resetN && s.pwr.vin == 0 && decide (s.pwr.rails = 11) && !s.pwr.hot && s.pwr.osc && !s.pwr.mainUp &&
    (decide (s.rd PWR.STATE.state ≤ 1) || (s.rd PWR.STATE.state == 6 && (s.pwr.cold || s.rd PWR.STATE.target == 4)))

/-- Steps 4 to 8 of the boot sequence; a cold start has its copy and begins at step 7 (R79, R90). The safety and display domains boot with it where
they were reset, or where the copy is no longer the one the safety firmware came from. -/
def State.mainBoot (s : State) (errA errB : Bool) (pass : Vector (BitVec 4) 8) (delay : Vector (BitVec 6) 8) : State :=
  let s0 := s.wr BOOT.BOOT_COUNT.count (s.rd BOOT.BOOT_COUNT.count + 1)
  let s1 := if s.pwr.cold then s0 else s0.selectCopy errA errB
  let s2 := if s1.pwr.fresh then s1.applyRecs s1.usedRecs (fun b _ => decide (b.domain = .aon)) else s1
  let s3 := { s2 with pwr := { s2.pwr with fresh := false } }
  let s4 := if !s.pwr.cold && (s3.pwr.safeUp || s3.pwr.dispUp) && s3.pwr.fw != s3.bootSetNow then (s3.safetyReset 0xD).displayReset 0xD else s3
  let s5 := if s4.pwr.safeUp then s4 else s4.safetyBoot
  let both := !s5.pwr.dispUp
  let s6 := s5.mainInit
  let s7 := if both then (s6.bootRecs (fun b off => decide (b.domain = .main) && earlyRec b off)).displayBoot else s6
  let s8 := s7.bootRecs (fun b off => decide (b.domain = .main) && !(both && earlyRec b off))
  let (s9, ok) := s8.train pass delay
  let s10 := { s9 with dram := [], basin := [], pins := { s9.pins with pwrGood := true }, pwr := { s9.pwr with mainUp := true, cold := false } }
  let s11 := (((List.range 4).foldl State.railRun s10).clocksStart).headPlls
  let s12 := s11.wr BOOT.BOOT_STAT.mgr_bad 0
  let s13 := match s12.inUse with | some c => if ok then s12.loadManager c else s12 | none => s12
  if s13.pwr.entry.isSome then s13.wr BOOT.BOOT_STAT.recovery 0 else (s13.wr BOOT.BOOT_STAT.recovery 1).toRun

/-- MAIN_BOOT: whether each copy's flash fails to be read, and what training finds per subchannel (R79, R154). -/
def execMainBoot (errA errB : Bool) (pass : Vector (BitVec 4) 8) (delay : Vector (BitVec 6) 8) (s : State) : Out :=
  .next (if s.mayBoot then s.mainBoot errA errB pass delay else s)

/-- SAFETY_DOMAIN_BOOT: after a safety-domain reset the copy in use is checked again; intact, its firmware starts, else the recovery state
begins with the displays off (R69, R79). -/
def State.safetyDomainBoot (s : State) (readErr : Bool) : State :=
  if s.pwr.safeUp ∨ !s.pwr.picked ∨ !s.pins.safeHiZ ∨ !s.pins.resetN ∨ s.pwr.rails < 2 then s
  else match s.inUse with
    | none => s.safetyBoot
    | some c =>
      let r := s.copyReason c readErr
      if r = 0 then s.safetyBoot
      else
        let s1 := { s with pins := { s.pins with faultA := false, faultB := true, safeHiZ := false, dispen := 0, blpwm := 0 } }
        (s1.setReason c r).wr BOOT.BOOT_STAT.recovery 1

/-- SAFETY_DOMAIN_BOOT (R69, R79). -/
def execSafetyDomainBoot (readErr : Bool) (s : State) : Out := .next (s.safetyDomainBoot readErr)

/-- DISPLAY_DOMAIN_RESET: of a display-domain reset, what follows the cause: records are applied again and the links restart from Off; in a reset of
the main domain too, the main stage does it (R67, R79, R287). -/
def execDisplayDomainReset (s : State) : Out := .next (if !s.pwr.dispUp && s.pwr.mainUp && s.pwr.picked then s.displayBoot else s)

/-- The harts are made anew: hart 0 at an address in the manager world, the others held (R79, R91). -/
def State.startHart (s : State) (pc : Nat) : State :=
  { s with world := { s.world with harts := mset [] 0 { regs := { pc := pc } } {} } }

/-- MANAGER_RELEASE: boot privilege ends, and hart 0 of cluster 0 starts at mgr_entry (R79 step 9). -/
def execManagerRelease (s : State) : Out :=
  .next (match s.pwr.entry with
    | some pc =>
      if s.pwr.mainUp then
        let s1 := s.startHart pc
        ({ s1 with pwr := { s1.pwr with entry := none, priv := false } }).toRun
      else s
    | none => s)

/-! ### The end of an exit (R90 step 4, R91, R154) -/

/-- Registers that always-on retention gives back after Deep sleep: training results and rank maps (R91, R154). -/
def retained : List Fld :=
  [DRAM.SUB_STAT.trained, DRAM.SUB_STAT.offline, DRAM.SUB_STAT.spare_avail, DRAM.RANK_MAP.map, DRAM.TRAIN_STAT.pass, DRAM.REPLAY_CFG.alert_delay] ++
    dramTimings.map (·.1)

/-- The registers that retention gives back, as an earlier state had them. -/
def State.giveBack (s old : State) : State :=
  (List.range 8).foldl (fun (t : State) n => retained.foldl (fun (u : State) f => u.wr f (old.rd f n) n) t) s

/-- What lies in DRAM, with the records still to be written to it, as an earlier state had it (R86, R91). -/
def State.keepDram (s old : State) : State :=
  { s with
    dram := old.dram, mem := { poison := old.mem.poison, deferred := old.mem.deferred }
    rings := { ctx := old.rings.ctx, recs := old.rings.recs }
    pwr := { s.pwr with blanked := old.pwr.blanked, priv := old.pwr.priv } }

/-- After Deep sleep: main and display pages at reset values with their records; what lies in DRAM, the records still to be written to it, and
the training, are kept (R86, R91, R154). -/
def State.remake (s : State) : State :=
  let s2 := (s.clearMain.displayReset (s.rd BOOT.RST_CAUSE.display_cause)).keepDram s
  let s3 := (s2.mainInit.bootRecs (fun b off => decide (b.domain = .main) && earlyRec b off)).bootRecs (fun b _ => decide (b.domain = .display))
  let s4 := s3.bootRecs (fun b off => decide (b.domain = .main) && !earlyRec b off)
  let s5 := s4.giveBack s
  ({ s5 with dram := s.dram, pwr := { s5.pwr with mainUp := true, dispUp := true } }).clocksStart

/-- Hart 0 resumes at RESUME_VEC; heads go to fallback; what entry stopped starts again (R91). -/
def State.resume (s : State) : State := ((((s.startHart s.resumeVec).unblank).touchResume).startDeferred).toRun

/-- EXIT_LOGIC_READY: the last step of an exit is done. After Deep sleep the copy in use must still be intact; else a cold start with factory records
only follows (R90, R91). -/
def execExitLogicReady (readErr : Bool) (s : State) : Out :=
  .next (if !s.exitAt 4 then s
    else if s.rd PWR.STATE.target ≠ 3 then s.resume
    else match s.inUse with
      | none => s.coldStart
      | some c =>
        let r := s.copyReason c readErr
        if r = 0 then s.remake.resume
        else ((s.coldStart.setReason c r).wr BOOT.BOOT_STAT.factory_only 1).wr
          BOOT.BOOT_STAT.recovery 1)

end Sys2Proof.Machine
end

