-- ==== Sys2Proof/Machine/Access.lean ====
section
/-! DEFINITION. Accesses by address: the physical address space of R44 as harts, engines and the safety island reach it, and the two BARs of the PCI
Express functions (R44 to R50, R107, R111, R123). -/

namespace Sys2Proof.Machine

/-- Number of bytes an operation moves. -/
def memLen : MemOp → Nat
  | .read n | .fetch n => n
  | .write d => d.length

/-- Whether an operation writes. -/
def memWrites : MemOp → Bool
  | .read _ | .fetch _ => false
  | .write _ => true

/-- Requester ID of an initiator (R107). -/
def State.reqOf (s : State) : Initiator → Req
  | .hart h m => { id := (s.hart h.val).wid m, hart := true, port := portHart h.val }
  | .engine o p h => { id := o.toNat, port := p.val, hint := h }
  | .device => { id := ridDevice, dev := true, port := portDevice }
  | .safety => { id := ridSafety, port := portSafe }

/-- What a checked read of DRAM finds: the ring table shows the contexts (R182), every other address its bytes. -/
def State.readBytes (s : State) (a n : Nat) : List Byte :=
  let lo := s.variant.ringTable
  (List.range n).map (fun k => if lo ≤ a + k ∧ a + k < s.variant.tableBase then s.tableByte (a + k - lo) else s.byteAt (a + k))

/-- An access to DRAM: checked, then carried and done, or refused (R111, R112, R159 to R165, R170). -/
def State.dramAccess (s : State) (q : Req) (a : Nat) (op : MemOp) : State :=
  match s.memFault q (memWrites op) a (memLen op) with
  | some r => (s.memRecord q r).errResp
  | none =>
    match op with
    | .read n | .fetch n => (s.fetched q a n).okResp (leVal (s.readBytes a n))
    | .write d => (s.put q a d).okResp

/-- How a hart takes the refusal of an access to DRAM: in a vale by the exit that ends its frame, poisoned data elsewhere by an access fault; of any
other refusal the error response is all the spec gives (R112, R135, R170). -/
def State.hartAccess (s : State) (h : Nat) (m : Mode) (a : Nat) (op : MemOp) : State :=
  let q := s.reqOf (.hart (Fin.ofNat 16 h) m)
  let t := s.dramAccess q a op
  match s.memFault q (memWrites op) a (memLen op) with
  | none => t
  | some r =>
    let fetch := match op with | .fetch _ => true | _ => false
    if (s.hart h).vale ≠ none then t.valeFault h
    else if r.1 = Code.DRAM_POISON then t.poisonFault h m.virt fetch
    else t

/-- An access to a register page: 32 bits, aligned (R50); a refusal in a mailbox names it (R126). -/
def State.pageAccess (s : State) (w : Who) (b : Blk) (i off : Nat) (op : MemOp) : State :=
  match s.reach w b i off (memWrites op) with
  | .bad t => t
  | .good _ =>
    if memLen op ≠ 4 ∨ off % 4 ≠ 0 then
      if b = .mgr ∧ 0x400 ≤ off ∧ off < 0x510 then s.mbSize w (off - 0x400) (memWrites op)
      else s.refuse b i Code.REG_SIZE w.rid off
    else
      match op with
      | .read _ | .fetch _ => s.readWord w b i off
      | .write d => s.writeWord w b i off (leVal d)

/-- An access to the doorbell page of instance k (R189). -/
def State.bellAccess (s : State) (k off : Nat) (op : MemOp) : State :=
  if memLen op ≠ 4 ∨ off % 4 ≠ 0 then s.refuse .rsched 0 Code.REG_SIZE (instRid k) off
  else match op with
    | .read _ | .fetch _ => s.okResp (s.doorbellRead k (off / 4))
    | .write d => s.doorbell k (off / 4) (leVal d)

/-- An access to the mailbox page of instance k, from its side (R126). -/
def State.boxAccess (s : State) (k : Fin 64) (off : Nat) (op : MemOp) : State :=
  let w := Who.inst k 0
  match s.mbReach w off (memWrites op) with
  | .inl t => t
  | .inr _ =>
    if memLen op ≠ 4 ∨ off % 4 ≠ 0 then s.mbRefuse w Code.REG_SIZE off k.val
    else if 0x110 ≤ off then s.mbRefuse w Code.REG_UNMAPPED off k.val
    else match op with
      | .read _ | .fetch _ => s.mbRead w off
      | .write d => s.mbWord w off (leVal d)

/-- An access at an offset of the window of instance k (R46, R47). -/
def State.windowAccess (s : State) (k : Fin 64) (off : Nat) (op : MemOp) : State :=
  if off < 0x4000 then s.bellAccess k.val off op
  else if 0x10000 ≤ off ∧ off < 0x11000 then s.boxAccess k (off - 0x10000) op
  else if 0x20000 ≤ off then
    let slot : Fin 224 := Fin.ofNat 224 ((off - 0x20000) / 0x1000)
    match (s.viewSlot k.val slot.val).bind (fun p => blkOfPage p.1) with
    | some (b, i) => s.pageAccess (.inst k slot) b i (off % 0x1000) op
    | none => s.potRefuse Code.POT_UNBACKED (instRid k.val) (windowBase k.val + off)
  else s.potRefuse Code.POT_UNBACKED (instRid k.val) (windowBase k.val + off)

/-- An access by an initiator to a physical address (R44, R111). Above DRAM, harts of the manager reach the Basin window, the register pages and
window 0, harts of an instance its window, and the safety island the register pages. -/
def State.access (s : State) (who : Initiator) (a : Nat) (op : MemOp) : State :=
  let q := s.reqOf who
  let manager := q.hart && q.id == ridMgr
  if a < s.variant.dramTop then
    match who with
    | .hart h m => s.hartAccess h.val m a op
    | _ => s.dramAccess q a op
  else if 0x2000000000 ≤ a ∧ a < 0x2010000000 ∧ manager then s.basinAccess (a - 0x2000000000) op .clean
  else if 0x3000000000 ≤ a ∧ a < 0x3000100000 ∧ (manager ∨ who = .safety) then
    match blkOfPage ((a - 0x3000000000) / 0x1000) with
    | some (b, i) => s.pageAccess (if manager then .mgr else .saf) b i (a % 0x1000) op
    | none => s.potRefuse Code.POT_UNBACKED q.id a
  else
    let k : Fin 64 := Fin.ofNat 64 ((a - 0x3100000000) / 0x100000)
    if 0x3100000000 ≤ a ∧ a < 0x3104000000 ∧ q.hart ∧ q.id = instRid k.val then s.windowAccess k (a % 0x100000) op
    else s.potRefuse Code.POT_UNBACKED q.id a

/-- MEMORY_ACCESS (R111). -/
def execMemoryAccess (who : Initiator) (a : Addr) (op : MemOp) (s : State) : Out :=
  .next ((match who with | .hart h _ => s.awake h.val | _ => s).access who a.toNat op)

/-- Whether a request finds a function that answers: not in a low-power state; in the recovery state the BOOT page behind BAR0 of the physical
function; otherwise a function mapped to an instance that is not Free (R78, R83, R123). -/
def State.pcieMapped (s : State) (f : Nat) (bar2 : Bool) (off : Nat) : Bool :=
  let st := s.rd PWR.STATE.state
  let k := s.rd MGR.VF_MAP.inst (b := f)
  if 2 ≤ st ∧ st ≤ 4 then false
  else if s.on BOOT.BOOT_STAT.recovery && f == 0 then !bar2 && decide (off < 0x1000)
  else s.on MGR.VF_MAP.valid (b := f) && k != 0 && s.instState k != 0

/-- A request that a function answers: the BOOT page in the recovery state, else the instance's window, or the first 128 GiB with the instance's ID
(R78, R123). -/
def State.pcieGo (s : State) (f : Nat) (bar2 : Bool) (off : Nat) (op : MemOp) : State :=
  let k := s.rd MGR.VF_MAP.inst (b := f)
  if s.on BOOT.BOOT_STAT.recovery && f == 0 then s.pageAccess .host .boot 0 off op
  else if bar2 then
    if off < s.variant.dramTop then s.dramAccess { id := k, port := portPcie } off op else s.potRefuse Code.POT_UNBACKED k off
  else s.windowAccess (Fin.ofNat 64 k) (off % 0x100000) op

/-- An inbound request through a BAR of a function, and its completion: Unsupported Request where nothing answers, Completer Abort for a read that
gets an error response; a write is posted and has none (R112, R123). -/
def State.pcie (s : State) (f : Fin 64) (bar2 : Bool) (off : Nat) (op : MemOp) : State :=
  if !s.pcieMapped f.val bar2 off then { s.errResp with cpl := if memWrites op then none else some .unsupported }
  else
    let t := s.pcieGo f.val bar2 off op
    { t with cpl := if memWrites op then none else if t.resp.ok then some .successful else some .abort }

/-- PCIE_REQUEST: function, BAR 0 or 2, offset (R123). -/
def execPcieRequest (f : Fin 64) (bar2 : Bool) (off : BitVec 37) (op : MemOp) (s : State) : Out := .next (s.pcie f bar2 off.toNat op)

end Sys2Proof.Machine
end

