-- ==== Sys2Proof/Machine/Frames.lean ====
section
/-! DEFINITION. The start of vertical blanking: what a head does there and in which order, and how a head stops (R285 to R287,
R306, R343, R344). -/

namespace Sys2Proof.Machine

/-- A head stops at a start of vertical blanking: no flip, no latch and no count; nothing is composed for it any more, sets that waited for it apply, and
its link powers off (R260, R285, R336, R344). -/
def State.headStop (s : State) (h : Nat) : State :=
  let c := s.head h
  let s1 := ((s.wr HEAD.HEAD_STAT.state 0 h).wr HEAD.HEAD_STAT.vblank 0 h).wr HEAD.HEAD_STAT.line 0 h
  let s2 := (s1.pllStop h).setHead h { c with start := none, zero := [], soft := false }
  let s3 := (((s2.applyHead h).applyGlint h).safeApply .lantern h).safeApply .mirror h
  let s4 := (s3.composeStop h).linkOff h
  if c.soft then s4.headSoft h else s4

/-- The end of a frame re-projected by Glint: FILL_LINES and what follows from it (R306). -/
def State.glintFrame (s : State) (h : Nat) (bytes : Nat) : State :=
  if !s.glintOn h then s
  else
    let n := s.fillLines h
    let c := s.head h
    let s1 := (((s.wr GLINT.FILL_LINES.lines n h).count .glint h 0).count .glint h 5 n).count .basin 0 7 bytes
    let quiet := match c.glint.told with | some t => decide (s.now < t + 1000000000) | none => false
    if n = 0 then s1
    else
      let s2 := s1.raise .glint h 8
      if quiet then s2
      else ((s2.setHead h { c with glint := { c.glint with told := some s.now } }).count .glint h 6).eventPage .glint h
        Code.GLINT_OUT_OF_MARGIN h n

/-- What ends with the frame a head has just sent: Mirror's checks and Glint's account, before anything changes. -/
def State.frameEnd (s : State) (h : Nat) (obs : FrameObs) : State :=
  if (s.head h).start.isNone then s
  else
    let s1 := s.mirrorFrame h obs (some (s.rd HEAD.VBL_TIME.time h))
    let s2 := s1.glintFrame h obs.glintBytes
    if s2.glintOn h then s2 else s2.count .basin 0 6 (s.rd HEAD.TIM_H.hact h * s.rd HEAD.TIM_V.vact h * 4)

/-- Steps 1 and 2 of R286: the frame counter and its time, and the flip. -/
def State.blankFlip (s : State) (h : Nat) : State × Bool × Bool :=
  let n := s.rd HEAD.FRAME_CNT.count h + 1
  let s1 := (((s.wr HEAD.FRAME_CNT.count n h).wr HEAD.VBL_TIME.time s.now h).count .head h 0).wr HEAD.HEAD_STAT.vblank 1 h
  let s2 := s1.wr HEAD.HEAD_STAT.line (s1.rd HEAD.TIM_V.vact h) h
  let s3 := s2.setHead h { s2.head h with zero := [], start := none, glint := { (s2.head h).glint with lines := [] } }
  let (s4, flipped, latches) := s3.compBlank h
  if flipped then
    let s5 := s4.wr HEAD.HEAD_STAT.front (1 - s4.rd HEAD.HEAD_STAT.front h) h
    let s6 := ((s5.wr HEAD.FLIP_CNT.count (s5.rd HEAD.FRAME_CNT.count h) h).wr HEAD.FLIP_TIME.time s5.now h).count .head h 1
    (s6.endLatched h (s6.rd HEAD.FRAME_CNT.count h), true, latches)
  else (s4.count .head h 2, false, latches)

/-- Step 3 of R286: staged sets of the head, its Glint page and its part of its composition page; members of a cohort wait for their
decision point (R291). -/
def State.blankApply (s : State) (h : Nat) : State :=
  let n := engOf h
  let wait := match (s.head h).due with | some d => decide (s.now < d) | none => false
  let held := fun (b : Blk) (i : Nat) => wait && s.on (HDR.group b) i
  let s1 := if held .head h then s else s.applyHead h
  let s2 := if held .glint h then s1 else s1.applyGlint h
  if held .comp n then s2
  else
    let s3 := s2.compApply n (h % 2)
    if s3.on (HDR.pending .comp) n then s3 else s3.wr (HDR.group .comp) 0 n

/-- A start of vertical blanking of a running head whose clock runs (R103, R286). -/
def State.vblank (s : State) (h : Nat) (obs : FrameObs) : State :=
  if !s.running h ∨ !s.headClock h then s
  else if !s.on (HDR.enable .head) h then s.headStop h
  else
    let met := s.metPackets h
    let (s1, flipped, latches) := (s.frameEnd h obs).blankFlip h
    let s2 := s1.blankApply h
    let s3 := if latches then (s2.compLatch h met).startCompose h else s2
    let s4 := s3.raise .head h 8
    let s5 := if flipped then s4.raise .head h 9 else s4
    (s5.glSlew h).linkBlank h obs.unlocked

/-- VBLANK_START (R286). -/
def execVblankStart (h : Fin 8) (obs : FrameObs) (s : State) : Out := .next (s.vblank h.val obs)

end Sys2Proof.Machine
end

