-- ==== Sys2Proof/Machine/Dispatch.lean ====
section
/-! DEFINITION. One arm for each command: its meaning. -/

namespace Sys2Proof.Machine

def exec (i : Instr) (s : State) : Host.Outcome State Fault Refusal :=
  match i with
  | .registerWrite w page off v => Sys2Proof.Machine.execRegisterWrite w page off v s
  | .regReadLoLatch w page off => Sys2Proof.Machine.execRegReadLoLatch w page off s
  | .regWriteHi w page off v => Sys2Proof.Machine.execRegWriteHi w page off v s
  | .commit w page => Sys2Proof.Machine.execCommit w page s
  | .commitApply page => Sys2Proof.Machine.execCommitApply page s
  | .commitRevert w page => Sys2Proof.Machine.execCommitRevert w page s
  | .softReset w page enable => Sys2Proof.Machine.execSoftReset w page enable s
  | .pgOwnerWrite w page v => Sys2Proof.Machine.execPgOwnerWrite w page v s
  | .evRawClear w page v => Sys2Proof.Machine.execEvRawClear w page v s
  | .evForce w page v => Sys2Proof.Machine.execEvForce w page v s
  | .errCodeClear w page => Sys2Proof.Machine.execErrCodeClear w page s
  | .lockSet w page => Sys2Proof.Machine.execLockSet w page s
  | .memoryAccess who a op => Sys2Proof.Machine.execMemoryAccess who a op s
  | .basinWindowAccess off op find => Sys2Proof.Machine.execBasinWindowAccess off op find s
  | .vinPowerOn => Sys2Proof.Machine.execVinPowerOn s
  | .railGood => Sys2Proof.Machine.execRailGood s
  | .railStartTimeout => Sys2Proof.Machine.execRailStartTimeout s
  | .resetNAssert => Sys2Proof.Machine.execResetNAssert s
  | .resetNRelease => Sys2Proof.Machine.execResetNRelease s
  | .vinUndervoltage => Sys2Proof.Machine.execVinUndervoltage s
  | .vinOvervoltage => Sys2Proof.Machine.execVinOvervoltage s
  | .vinRecover => Sys2Proof.Machine.execVinRecover s
  | .aonBrownout => Sys2Proof.Machine.execAonBrownout s
  | .safetyDomainBoot readErr => Sys2Proof.Machine.execSafetyDomainBoot readErr s
  | .displayDomainReset => Sys2Proof.Machine.execDisplayDomainReset s
  | .mainBoot errA errB pass delay => Sys2Proof.Machine.execMainBoot errA errB pass delay s
  | .managerRelease => Sys2Proof.Machine.execManagerRelease s
  | .mainResetCmd w key => Sys2Proof.Machine.execMainResetCmd w key s
  | .displayResetCmd w key => Sys2Proof.Machine.execDisplayResetCmd w key s
  | .flRead w => Sys2Proof.Machine.execFlRead w s
  | .flProgram w => Sys2Proof.Machine.execFlProgram w s
  | .flErase w => Sys2Proof.Machine.execFlErase w s
  | .flDone ok => Sys2Proof.Machine.execFlDone ok s
  | .keyRevoke w v => Sys2Proof.Machine.execKeyRevoke w v s
  | .stateReqSleep w => Sys2Proof.Machine.execStateReqSleep w s
  | .stateReqDeepSleep w => Sys2Proof.Machine.execStateReqDeepSleep w s
  | .stateReqOff w => Sys2Proof.Machine.execStateReqOff w s
  | .safetyGrant grant => Sys2Proof.Machine.execSafetyGrant grant s
  | .safetyGrantTimeout => Sys2Proof.Machine.execSafetyGrantTimeout s
  | .entryDrainDone => Sys2Proof.Machine.execEntryDrainDone s
  | .drainLimitExpiry => Sys2Proof.Machine.execDrainLimitExpiry s
  | .entryHeadsBlanked => Sys2Proof.Machine.execEntryHeadsBlanked s
  | .entryCachesWritten => Sys2Proof.Machine.execEntryCachesWritten s
  | .selfRefreshEntered => Sys2Proof.Machine.execSelfRefreshEntered s
  | .targetStateReached => Sys2Proof.Machine.execTargetStateReached s
  | .wakeEvent n => Sys2Proof.Machine.execWakeEvent n s
  | .wakePin => Sys2Proof.Machine.execWakePin s
  | .devtimeAlarm => Sys2Proof.Machine.execDevtimeAlarm s
  | .safetyWakeRequest => Sys2Proof.Machine.execSafetyWakeRequest s
  | .sleepDeepAfterExpiry => Sys2Proof.Machine.execSleepDeepAfterExpiry s
  | .exitRegulatorsReady => Sys2Proof.Machine.execExitRegulatorsReady s
  | .exitOscillatorReady => Sys2Proof.Machine.execExitOscillatorReady s
  | .exitMemoryReady => Sys2Proof.Machine.execExitMemoryReady s
  | .exitLogicReady readErr => Sys2Proof.Machine.execExitLogicReady readErr s
  | .exitStepTimeout rail => Sys2Proof.Machine.execExitStepTimeout rail s
  | .railOppRequest w n v => Sys2Proof.Machine.execRailOppRequest w n v s
  | .railAck n => Sys2Proof.Machine.execRailAck n s
  | .railAckTimeout n => Sys2Proof.Machine.execRailAckTimeout n s
  | .fixedRailFault n => Sys2Proof.Machine.execFixedRailFault n s
  | .tempSample temps => Sys2Proof.Machine.execTempSample temps s
  | .thermalRestart => Sys2Proof.Machine.execThermalRestart s
  | .refLost => Sys2Proof.Machine.execRefLost s
  | .pllUnlock k => Sys2Proof.Machine.execPllUnlock k s
  | .pllRelock k => Sys2Proof.Machine.execPllRelock k s
  | .xtal32Stop => Sys2Proof.Machine.execXtal32Stop s
  | .instanceTagWrite h m pc v => Sys2Proof.Machine.execInstanceTagWrite h m pc v s
  | .potSet w keep => Sys2Proof.Machine.execPotSet w keep s
  | .potSetAttr w keep => Sys2Proof.Machine.execPotSetAttr w keep s
  | .potShare w keep => Sys2Proof.Machine.execPotShare w keep s
  | .potEpochDrained => Sys2Proof.Machine.execPotEpochDrained s
  | .potCmdDone => Sys2Proof.Machine.execPotCmdDone s
  | .instCreate w => Sys2Proof.Machine.execInstCreate w s
  | .instStart w => Sys2Proof.Machine.execInstStart w s
  | .instQuiesce w scrub => Sys2Proof.Machine.execInstQuiesce w scrub s
  | .quiesceDrainDone k => Sys2Proof.Machine.execQuiesceDrainDone k s
  | .quiesceLimitExpiry k => Sys2Proof.Machine.execQuiesceLimitExpiry k s
  | .ownerSweep o => Sys2Proof.Machine.execOwnerSweep o s
  | .quiesceDone k => Sys2Proof.Machine.execQuiesceDone k s
  | .instReset w => Sys2Proof.Machine.execInstReset w s
  | .instRemove w => Sys2Proof.Machine.execInstRemove w s
  | .functionLevelReset f => Sys2Proof.Machine.execFunctionLevelReset f s
  | .vfMapWrite w v => Sys2Proof.Machine.execVfMapWrite w v s
  | .pcieRequest f bar2 off op => Sys2Proof.Machine.execPcieRequest f bar2 off op s
  | .viewEntryWrite w v => Sys2Proof.Machine.execViewEntryWrite w v s
  | .mbxDataWrite w word v => Sys2Proof.Machine.execMbxDataWrite w word v s
  | .mbSend w v => Sys2Proof.Machine.execMbSend w v s
  | .mbAck w v => Sys2Proof.Machine.execMbAck w v s
  | .mbRearm w v => Sys2Proof.Machine.execMbRearm w v s
  | .mgrRearm w v => Sys2Proof.Machine.execMgrRearm w v s
  | .valeOpen w => Sys2Proof.Machine.execValeOpen w s
  | .valeLoad w gate => Sys2Proof.Machine.execValeLoad w gate s
  | .valeSeal w => Sys2Proof.Machine.execValeSeal w s
  | .valeClose w => Sys2Proof.Machine.execValeClose w s
  | .valeCmdDone v => Sys2Proof.Machine.execValeCmdDone v s
  | .passEnter h m r1 r2 ctx desc frame entry => Sys2Proof.Machine.execPassEnter h m r1 r2 ctx desc frame entry s
  | .passRet h m ctx => Sys2Proof.Machine.execPassRet h m ctx s
  | .passMark h => Sys2Proof.Machine.execPassMark h s
  | .suspendingExit h m interrupt cause addr ctx => Sys2Proof.Machine.execSuspendingExit h m interrupt cause addr ctx s
  | .valeFaultExit h => Sys2Proof.Machine.execValeFaultExit h s
  | .dmaOwnerWrite w k v => Sys2Proof.Machine.execDmaOwnerWrite w k v s
  | .swdtKick w v => Sys2Proof.Machine.execSwdtKick w v s
  | .swdtTick => Sys2Proof.Machine.execSwdtTick s
  | .secureWdtExpiry => Sys2Proof.Machine.execSecureWdtExpiry s
  | .dramRequest n arrive blocked find => Sys2Proof.Machine.execDramRequest n arrive blocked find s
  | .dramRefresh n => Sys2Proof.Machine.execDramRefresh n s
  | .mr4Poll temps => Sys2Proof.Machine.execMr4Poll temps s
  | .caReplay n late => Sys2Proof.Machine.execCaReplay n late s
  | .caRetrainDone n => Sys2Proof.Machine.execCaRetrainDone n s
  | .spareStart w n rank => Sys2Proof.Machine.execSpareStart w n rank s
  | .spareCancel w n => Sys2Proof.Machine.execSpareCancel w n s
  | .spareCopyDone n bad => Sys2Proof.Machine.execSpareCopyDone n bad s
  | .qosWindow slots => Sys2Proof.Machine.execQosWindow slots s
  | .portReservationWrite w rate v => Sys2Proof.Machine.execPortReservationWrite w rate v s
  | .admitEffWrite w v => Sys2Proof.Machine.execAdmitEffWrite w v s
  | .livenessTest mismatch latencyNs => Sys2Proof.Machine.execLivenessTest mismatch latencyNs s
  | .ctxRead w => Sys2Proof.Machine.execCtxRead w s
  | .ctxWrite w => Sys2Proof.Machine.execCtxWrite w s
  | .ctxEnable w => Sys2Proof.Machine.execCtxEnable w s
  | .ctxDisable w => Sys2Proof.Machine.execCtxDisable w s
  | .ringDisabled r => Sys2Proof.Machine.execRingDisabled r s
  | .ctxMigrate w target => Sys2Proof.Machine.execCtxMigrate w target s
  | .migrateDone r => Sys2Proof.Machine.execMigrateDone r s
  | .doorbellProducerUpdate k r tail => Sys2Proof.Machine.execDoorbellProducerUpdate k r tail s
  | .doorbellConsumerUpdate k r index => Sys2Proof.Machine.execDoorbellConsumerUpdate k r index s
  | .doorbellFenceNotify k slot => Sys2Proof.Machine.execDoorbellFenceNotify k slot s
  | .doorbellResume k r => Sys2Proof.Machine.execDoorbellResume k r s
  | .doorbellAbort k r => Sys2Proof.Machine.execDoorbellAbort k r s
  | .ringDoorbellInvalid k r v => Sys2Proof.Machine.execRingDoorbellInvalid k r v s
  | .descriptorFetch r => Sys2Proof.Machine.execDescriptorFetch r s
  | .jobStart cls n => Sys2Proof.Machine.execJobStart cls n s
  | .fenceWaitMet f => Sys2Proof.Machine.execFenceWaitMet f s
  | .fenceTimeout f => Sys2Proof.Machine.execFenceTimeout f s
  | .completionRecordWrite q => Sys2Proof.Machine.execCompletionRecordWrite q s
  | .cqIrqTimer q => Sys2Proof.Machine.execCqIrqTimer q s
  | .eventRecordDeliver k => Sys2Proof.Machine.execEventRecordDeliver k s
  | .dmaGather n => Sys2Proof.Machine.execDmaGather n s
  | .dmaScatter n => Sys2Proof.Machine.execDmaScatter n s
  | .dmaFill n => Sys2Proof.Machine.execDmaFill n s
  | .dmaFence n => Sys2Proof.Machine.execDmaFence n s
  | .dmaBusError n => Sys2Proof.Machine.execDmaBusError n s
  | .dmaJobDone n => Sys2Proof.Machine.execDmaJobDone n s
  | .dmaCtrlResume w n => Sys2Proof.Machine.execDmaCtrlResume w n s
  | .dmaCtrlAbort w n => Sys2Proof.Machine.execDmaCtrlAbort w n s
  | .dmaHaltTimeout n => Sys2Proof.Machine.execDmaHaltTimeout n s
  | .safetyFaultLine => Sys2Proof.Machine.execSafetyFaultLine s
  | .earlyBacklightOff h => Sys2Proof.Machine.execEarlyBacklightOff h s
  | .faultReadback a b bad => Sys2Proof.Machine.execFaultReadback a b bad s
  | .faultRelease => Sys2Proof.Machine.execFaultRelease s
  | .gfxSubmission e => Sys2Proof.Machine.execGfxSubmission e s
  | .gfxStateTargets e fx => Sys2Proof.Machine.execGfxStateTargets e fx s
  | .gfxStateViewport e => Sys2Proof.Machine.execGfxStateViewport e s
  | .gfxStateScissor e => Sys2Proof.Machine.execGfxStateScissor e s
  | .gfxStateBlendConst e => Sys2Proof.Machine.execGfxStateBlendConst e s
  | .gfxStateDepthBias e => Sys2Proof.Machine.execGfxStateDepthBias e s
  | .gfxStateStencilRef e => Sys2Proof.Machine.execGfxStateStencilRef e s
  | .gfxBindPipeline e => Sys2Proof.Machine.execGfxBindPipeline e s
  | .gfxBindSet e => Sys2Proof.Machine.execGfxBindSet e s
  | .gfxBindVertex e => Sys2Proof.Machine.execGfxBindVertex e s
  | .gfxBindIndex e => Sys2Proof.Machine.execGfxBindIndex e s
  | .gfxBindPush e => Sys2Proof.Machine.execGfxBindPush e s
  | .gfxDrawDirect e fx => Sys2Proof.Machine.execGfxDrawDirect e fx s
  | .gfxDrawIndexed e fx => Sys2Proof.Machine.execGfxDrawIndexed e fx s
  | .gfxDrawIndirect e fx => Sys2Proof.Machine.execGfxDrawIndirect e fx s
  | .gfxDispatchDirect e fx => Sys2Proof.Machine.execGfxDispatchDirect e fx s
  | .gfxDispatchIndirect e fx => Sys2Proof.Machine.execGfxDispatchIndirect e fx s
  | .gfxBarrier e => Sys2Proof.Machine.execGfxBarrier e s
  | .gfxSignal e => Sys2Proof.Machine.execGfxSignal e s
  | .gfxWait e => Sys2Proof.Machine.execGfxWait e s
  | .gfxTimestampTop e => Sys2Proof.Machine.execGfxTimestampTop e s
  | .gfxTimestampBottom e => Sys2Proof.Machine.execGfxTimestampBottom e s
  | .gfxJobEnd e fx => Sys2Proof.Machine.execGfxJobEnd e fx s
  | .compositorPreempt e us stuck => Sys2Proof.Machine.execCompositorPreempt e us stuck s
  | .preemptKillExpiry e us => Sys2Proof.Machine.execPreemptKillExpiry e us s
  | .jobLimitExpiry e => Sys2Proof.Machine.execJobLimitExpiry e s
  | .gfxCtxFault e cause code addr => Sys2Proof.Machine.execGfxCtxFault e cause code addr s
  | .commitPacket n => Sys2Proof.Machine.execCommitPacket n s
  | .composeFrameDone h => Sys2Proof.Machine.execComposeFrameDone h s
  | .layerFetchError h l code addr => Sys2Proof.Machine.execLayerFetchError h l code addr s
  | .layerSubstForce w n v => Sys2Proof.Machine.execLayerSubstForce w n v s
  | .coefDataWrite w n v => Sys2Proof.Machine.execCoefDataWrite w n v s
  | .wbFrameDone h => Sys2Proof.Machine.execWbFrameDone h s
  | .disabledHeadLatch h => Sys2Proof.Machine.execDisabledHeadLatch h s
  | .basinGranWrite w h v => Sys2Proof.Machine.execBasinGranWrite w h v s
  | .basinEccError h word ue => Sys2Proof.Machine.execBasinEccError h word ue s
  | .headEnable w h => Sys2Proof.Machine.execHeadEnable w h s
  | .headPllLock h => Sys2Proof.Machine.execHeadPllLock h s
  | .headPllRetry h => Sys2Proof.Machine.execHeadPllRetry h s
  | .headDisable w h => Sys2Proof.Machine.execHeadDisable w h s
  | .vblankStart h obs => Sys2Proof.Machine.execVblankStart h obs s
  | .grpArm w v => Sys2Proof.Machine.execGrpArm w v s
  | .genlockPulse input falling => Sys2Proof.Machine.execGenlockPulse input falling s
  | .genlockWindowClose h => Sys2Proof.Machine.execGenlockWindowClose h s
  | .posePost w g => Sys2Proof.Machine.execPosePost w g s
  | .poseCheckDone g => Sys2Proof.Machine.execPoseCheckDone g s
  | .poseLatch g line => Sys2Proof.Machine.execPoseLatch g line s
  | .headSrcWrite w v => Sys2Proof.Machine.execHeadSrcWrite w v s
  | .frameStart h => Sys2Proof.Machine.execFrameStart h s
  | .mirrorStreamStop h => Sys2Proof.Machine.execMirrorStreamStop h s
  | .lsramDataAccess w v find => Sys2Proof.Machine.execLsramDataAccess w v find s
  | .safeSramUe => Sys2Proof.Machine.execSafeSramUe s
  | .slTransaction d => Sys2Proof.Machine.execSlTransaction d s
  | .slState seq machine needed vis => Sys2Proof.Machine.execSlState seq machine needed vis s
  | .slClear seq => Sys2Proof.Machine.execSlClear seq s
  | .slLogReq seq first => Sys2Proof.Machine.execSlLogReq seq first s
  | .slWake seq => Sys2Proof.Machine.execSlWake seq s
  | .slTimeout => Sys2Proof.Machine.execSlTimeout s
  | .swdKick w v => Sys2Proof.Machine.execSwdKick w v s
  | .safetyWdtExpiry => Sys2Proof.Machine.execSafetyWdtExpiry s
  | .lockstepMismatch => Sys2Proof.Machine.execLockstepMismatch s
  | .logDataRead w => Sys2Proof.Machine.execLogDataRead w s
  | .linkEnable w n v => Sys2Proof.Machine.execLinkEnable w n v s
  | .linkDisable w n v => Sys2Proof.Machine.execLinkDisable w n v s
  | .linkPowerUp n => Sys2Proof.Machine.execLinkPowerUp n s
  | .linkTrain n => Sys2Proof.Machine.execLinkTrain n s
  | .linkTrainEnd n ok lanes rate => Sys2Proof.Machine.execLinkTrainEnd n ok lanes rate s
  | .linkRetry n => Sys2Proof.Machine.execLinkRetry n s
  | .linkHpdTimeout n => Sys2Proof.Machine.execLinkHpdTimeout n s
  | .linkPoweroffTimer n => Sys2Proof.Machine.execLinkPoweroffTimer n s
  | .linkLoadFault n wasInRange => Sys2Proof.Machine.execLinkLoadFault n wasInRange s
  | .hpdIrq n unlocked => Sys2Proof.Machine.execHpdIrq n unlocked s
  | .hpdUnplug n => Sys2Proof.Machine.execHpdUnplug n s
  | .hpdPlug n => Sys2Proof.Machine.execHpdPlug n s
  | .auxGo w n v => Sys2Proof.Machine.execAuxGo w n v s
  | .auxDone n reply count data => Sys2Proof.Machine.execAuxDone n reply count data s
  | .dsiCmdGo w n v => Sys2Proof.Machine.execDsiCmdGo w n v s
  | .dsiSent n => Sys2Proof.Machine.execDsiSent n s
  | .csiFrameStart n => Sys2Proof.Machine.execCsiFrameStart n s
  | .csiLongPacket n vc dt d hdr crcBad overflow => Sys2Proof.Machine.execCsiLongPacket n vc dt d hdr crcBad overflow s
  | .csiFrameEnd n => Sys2Proof.Machine.execCsiFrameEnd n s
  | .capFrameWritten n => Sys2Proof.Machine.execCapFrameWritten n s
  | .capWriteError n code addr => Sys2Proof.Machine.execCapWriteError n code addr s
  | .capLost n => Sys2Proof.Machine.execCapLost n s
  | .trigFire w n => Sys2Proof.Machine.execTrigFire w n s
  | .trigPulseDue n => Sys2Proof.Machine.execTrigPulseDue n s
  | .surfaceStart p listen a b c => Sys2Proof.Machine.execSurfaceStart p listen a b c s
  | .scanStart p => Sys2Proof.Machine.execScanStart p s
  | .scanEnd p slots => Sys2Proof.Machine.execScanEnd p slots s
  | .reportWrite p => Sys2Proof.Machine.execReportWrite p s
  | .surfRebase w p v => Sys2Proof.Machine.execSurfRebase w p v s
  | .surfSelftest w p v => Sys2Proof.Machine.execSurfSelftest w p v s
  | .rptEnable w p => Sys2Proof.Machine.execRptEnable w p s
  | .rptConsWrite w p v => Sys2Proof.Machine.execRptConsWrite w p v s
  | .wakeScan p bal => Sys2Proof.Machine.execWakeScan p bal s
  | .portPowerOn w p => Sys2Proof.Machine.execPortPowerOn w p s
  | .portPowerOff w p => Sys2Proof.Machine.execPortPowerOff w p s
  | .surfDetach p => Sys2Proof.Machine.execSurfDetach p s
  | .surfInsert p => Sys2Proof.Machine.execSurfInsert p s
  | .surfIdReadDone p got a b => Sys2Proof.Machine.execSurfIdReadDone p got a b s
  | .authSignDone p sig => Sys2Proof.Machine.execAuthSignDone p sig s
  | .wearBlock => Sys2Proof.Machine.execWearBlock s
  | .wearRecordWrite p ok => Sys2Proof.Machine.execWearRecordWrite p ok s
  | .hvEnableWrite w p v => Sys2Proof.Machine.execHvEnableWrite w p v s
  | .hvClearOc w p v => Sys2Proof.Machine.execHvClearOc w p v s
  | .haptOvercurrent p n => Sys2Proof.Machine.execHaptOvercurrent p n s
  | .haptHvFault => Sys2Proof.Machine.execHaptHvFault s
  | .boostClear w v => Sys2Proof.Machine.execBoostClear w v s
  | .haptStreamEnable w p v => Sys2Proof.Machine.execHaptStreamEnable w p v s
  | .haptTick => Sys2Proof.Machine.execHaptTick s
  | .resonanceCal p => Sys2Proof.Machine.execResonanceCal p s
  | .haptCalStepDone p got => Sys2Proof.Machine.execHaptCalStepDone p got s
  | .haptThrottleStep mw vout temp pw => Sys2Proof.Machine.execHaptThrottleStep mw vout temp pw s
  | .audioTick inp => Sys2Proof.Machine.execAudioTick inp s
  | .gainTimeout c => Sys2Proof.Machine.execGainTimeout c s
  | .safeloadGo w => Sys2Proof.Machine.execSafeloadGo w s
  | .psetDataAccess w v => Sys2Proof.Machine.execPsetDataAccess w v s
  | .audioStreamEnable w v => Sys2Proof.Machine.execAudioStreamEnable w v s
  | .audMclkLost t => Sys2Proof.Machine.execAudMclkLost t s
  | .audMclkGlitch t => Sys2Proof.Machine.execAudMclkGlitch t s
  | .clkLostClear w t => Sys2Proof.Machine.execClkLostClear w t s
  | .mclkReturn t => Sys2Proof.Machine.execMclkReturn t s
  | .asrcRelock t => Sys2Proof.Machine.execAsrcRelock t s
  | .asrcLock t hz => Sys2Proof.Machine.execAsrcLock t hz s
  | .silenceHoldExpiry t => Sys2Proof.Machine.execSilenceHoldExpiry t s
  | .alarmRun w pattern run => Sys2Proof.Machine.execAlarmRun w pattern run s
  | .alarmPatternWrite w pattern => Sys2Proof.Machine.execAlarmPatternWrite w pattern s
  | .alarmEnd => Sys2Proof.Machine.execAlarmEnd s
  | .alarmAmpRelease => Sys2Proof.Machine.execAlarmAmpRelease s
  | .framerClockSwitch => Sys2Proof.Machine.execFramerClockSwitch s
  | .encTransition e a b => Sys2Proof.Machine.execEncTransition e a b s
  | .encBurstEnd e => Sys2Proof.Machine.execEncBurstEnd e s
  | .encSet w e v => Sys2Proof.Machine.execEncSet w e v s
  | .dinChange k level => Sys2Proof.Machine.execDinChange k level s
  | .gpioEdge i0 level => Sys2Proof.Machine.execGpioEdge i0 level s
  | .gpioCfgWrite w i0 v => Sys2Proof.Machine.execGpioCfgWrite w i0 v s
  | .pinOwnerWrite w i0 v => Sys2Proof.Machine.execPinOwnerWrite w i0 v s
  | .i2cGo w c v => Sys2Proof.Machine.execI2cGo w c v s
  | .i2cDone c result count d => Sys2Proof.Machine.execI2cDone c result count d s
  | .uartTxWrite w u v => Sys2Proof.Machine.execUartTxWrite w u v s
  | .uartRxByte u d frameErr parityErr => Sys2Proof.Machine.execUartRxByte u d frameErr parityErr s
  | .uartRxRead w u => Sys2Proof.Machine.execUartRxRead w u s
  | .ptmDialogue m => Sys2Proof.Machine.execPtmDialogue m s
  | .ppsEdge falling => Sys2Proof.Machine.execPpsEdge falling s
  | .timeMasterLost => Sys2Proof.Machine.execTimeMasterLost s
  | .snapArm w hi => Sys2Proof.Machine.execSnapArm w hi s
  | .snapCancel w v => Sys2Proof.Machine.execSnapCancel w v s
  | .snapStrobe => Sys2Proof.Machine.execSnapStrobe s
  | .hartWfi h => Sys2Proof.Machine.execHartWfi h s
  | .backlightOnDelayExpiry n => Sys2Proof.Machine.execBacklightOnDelayExpiry n s
  | .timeSlewEnd => Sys2Proof.Machine.execTimeSlewEnd s
  | .jtagHalt h halted => Sys2Proof.Machine.execJtagHalt h halted s
  | .worldCsrAccess h m pc passcause write => Sys2Proof.Machine.execWorldCsrAccess h m pc passcause write s
  | .custom0Illegal h m pc w => Sys2Proof.Machine.execCustom0Illegal h m pc w s

end Sys2Proof.Machine
end

