-- ==== Sys2Proof/Machine/Tick.lean ====
section
/-! DEFINITION. What happens while no command waits: the reference's next cycle, or, where the reference does not run, the next tick of 32.768 kHz
(R69, R437, R438). -/

namespace Sys2Proof.Machine

/-- One step of idle time. A tick is 9375 eighths of a reference cycle. Without the always-on rail nothing runs. -/
def State.idleTick (s : State) : State :=
  let t := s.time
  if s.pwr.rails = 0 ∨ !s.pins.resetN then s
  else if !s.pwr.osc then { s with time := { t with tick := t.tick + 1, phase := 0, cycles := 0 } }
  else if t.phase + 8 < 9375 then { s with time := { t with phase := t.phase + 8, cycles := t.cycles + 1 } }
  else { s with time := { t with tick := t.tick + 1, phase := t.phase + 8 - 9375, cycles := 0 } }

end Sys2Proof.Machine
end

