-- ==== Sys2Proof/WellFormed.lean ====
section
/-! DEFINITION. Which commands the interface can carry: what an operand's type does not already say. -/

namespace Sys2Proof

open Machine in
/-- Numbers strictly rising, and no entry with the value an unlisted register has. -/
def risingNonzero {n w : Nat} : List (Fin n × BitVec w) → Bool
  | [] => true
  | [a] => a.2 != 0
  | a :: b :: t => a.2 != 0 && decide (a.1 < b.1) && risingNonzero (b :: t)

/-- The same for registers numbered by a word. -/
def risingCsr {n w : Nat} : List (BitVec n × BitVec w) → Bool
  | [] => true
  | [a] => a.2 != 0
  | a :: b :: t => a.2 != 0 && decide (a.1 < b.1) && risingCsr (b :: t)

open Machine in
/-- Register lists of a hart in their one form. -/
def Machine.HartCtx.canon (c : HartCtx) : Bool := risingNonzero c.x && risingNonzero c.f && risingNonzero c.v && risingCsr c.vcsr

open Machine in
/-- A bus operation moves 1 to 4,096 bytes. -/
def busOk (op : MemOp) : Bool :=
  match op with
  | .read n => decide (0 < n ∧ n ≤ 4096)
  | .fetch n => decide (0 < n ∧ n ≤ 4096)
  | .write d => decide (0 < d.length ∧ d.length ≤ 4096)

open Machine in
/-- A bus operation of an agent that fetches no instructions. -/
def dataOk (op : MemOp) : Bool :=
  match op with
  | .fetch _ => false
  | _ => busOk op

open Machine in
/-- A DRAM request writes within one 64-byte line, or carries no data. -/
def reqOk (q : DramReq) : Bool :=
  if q.write then decide (0 < q.data.length ∧ q.pa.toNat % 64 + q.data.length ≤ 64) else q.data.isEmpty

/-- Whether a command is well formed: the bus operations move bytes, lists have the length the interface gives them, alert delays lie from 1 to 63
(R171), and register lists are in their one form. -/
def WellFormed (i : Instr) : Bool :=
  match i with
  | .registerWrite _ _ _ _ => true
  | .regReadLoLatch _ _ _ => true
  | .regWriteHi _ _ _ _ => true
  | .commit _ _ => true
  | .commitApply _ => true
  | .commitRevert _ _ => true
  | .softReset _ _ _ => true
  | .pgOwnerWrite _ _ _ => true
  | .evRawClear _ _ _ => true
  | .evForce _ _ _ => true
  | .errCodeClear _ _ => true
  | .lockSet _ _ => true
  | .memoryAccess _ _ op => busOk op
  | .basinWindowAccess _ op _ => dataOk op
  | .vinPowerOn => true
  | .railGood => true
  | .railStartTimeout => true
  | .resetNAssert => true
  | .resetNRelease => true
  | .vinUndervoltage => true
  | .vinOvervoltage => true
  | .vinRecover => true
  | .aonBrownout => true
  | .safetyDomainBoot _ => true
  | .displayDomainReset => true
  | .mainBoot _ _ _ delay => delay.toList.all (fun d => d != 0)
  | .managerRelease => true
  | .mainResetCmd _ _ => true
  | .displayResetCmd _ _ => true
  | .flRead _ => true
  | .flProgram _ => true
  | .flErase _ => true
  | .flDone _ => true
  | .keyRevoke _ _ => true
  | .stateReqSleep _ => true
  | .stateReqDeepSleep _ => true
  | .stateReqOff _ => true
  | .safetyGrant _ => true
  | .safetyGrantTimeout => true
  | .entryDrainDone => true
  | .drainLimitExpiry => true
  | .entryHeadsBlanked => true
  | .entryCachesWritten => true
  | .selfRefreshEntered => true
  | .targetStateReached => true
  | .wakeEvent _ => true
  | .wakePin => true
  | .devtimeAlarm => true
  | .safetyWakeRequest => true
  | .sleepDeepAfterExpiry => true
  | .exitRegulatorsReady => true
  | .exitOscillatorReady => true
  | .exitMemoryReady => true
  | .exitLogicReady _ => true
  | .exitStepTimeout _ => true
  | .railOppRequest _ _ _ => true
  | .railAck _ => true
  | .railAckTimeout _ => true
  | .fixedRailFault _ => true
  | .tempSample _ => true
  | .thermalRestart => true
  | .refLost => true
  | .pllUnlock _ => true
  | .pllRelock _ => true
  | .xtal32Stop => true
  | .instanceTagWrite _ _ _ _ => true
  | .potSet _ _ => true
  | .potSetAttr _ _ => true
  | .potShare _ _ => true
  | .potEpochDrained => true
  | .potCmdDone => true
  | .instCreate _ => true
  | .instStart _ => true
  | .instQuiesce _ _ => true
  | .quiesceDrainDone _ => true
  | .quiesceLimitExpiry _ => true
  | .ownerSweep _ => true
  | .quiesceDone _ => true
  | .instReset _ => true
  | .instRemove _ => true
  | .functionLevelReset _ => true
  | .vfMapWrite _ _ => true
  | .pcieRequest _ _ _ op => dataOk op
  | .viewEntryWrite _ _ => true
  | .mbxDataWrite _ _ _ => true
  | .mbSend _ _ => true
  | .mbAck _ _ => true
  | .mbRearm _ _ => true
  | .mgrRearm _ _ => true
  | .valeOpen _ => true
  | .valeLoad _ _ => true
  | .valeSeal _ => true
  | .valeClose _ => true
  | .valeCmdDone _ => true
  | .passEnter _ _ _ _ ctx _ _ _ => ctx.canon
  | .passRet _ _ ctx => ctx.canon
  | .passMark _ => true
  | .suspendingExit _ _ _ _ _ ctx => ctx.canon
  | .valeFaultExit _ => true
  | .dmaOwnerWrite _ _ _ => true
  | .swdtKick _ _ => true
  | .swdtTick => true
  | .secureWdtExpiry => true
  | .dramRequest _ arrive _ _ => arrive.all reqOk
  | .dramRefresh _ => true
  | .mr4Poll temps => temps.length == 8
  | .caReplay _ _ => true
  | .caRetrainDone _ => true
  | .spareStart _ _ _ => true
  | .spareCancel _ _ => true
  | .spareCopyDone _ _ => true
  | .qosWindow _ => true
  | .portReservationWrite _ _ _ => true
  | .admitEffWrite _ _ => true
  | .livenessTest _ _ => true
  | .ctxRead _ => true
  | .ctxWrite _ => true
  | .ctxEnable _ => true
  | .ctxDisable _ => true
  | .ringDisabled _ => true
  | .ctxMigrate _ _ => true
  | .migrateDone _ => true
  | .doorbellProducerUpdate _ _ _ => true
  | .doorbellConsumerUpdate _ _ _ => true
  | .doorbellFenceNotify _ _ => true
  | .doorbellResume _ _ => true
  | .doorbellAbort _ _ => true
  | .ringDoorbellInvalid _ _ _ => true
  | .descriptorFetch _ => true
  | .jobStart _ _ => true
  | .fenceWaitMet _ => true
  | .fenceTimeout _ => true
  | .completionRecordWrite _ => true
  | .cqIrqTimer _ => true
  | .eventRecordDeliver _ => true
  | .dmaGather _ => true
  | .dmaScatter _ => true
  | .dmaFill _ => true
  | .dmaFence _ => true
  | .dmaBusError _ => true
  | .dmaJobDone _ => true
  | .dmaCtrlResume _ _ => true
  | .dmaCtrlAbort _ _ => true
  | .dmaHaltTimeout _ => true
  | .safetyFaultLine => true
  | .earlyBacklightOff _ => true
  | .faultReadback _ _ _ => true
  | .faultRelease => true
  | .gfxSubmission _ => true
  | .gfxStateTargets _ _ => true
  | .gfxStateViewport _ => true
  | .gfxStateScissor _ => true
  | .gfxStateBlendConst _ => true
  | .gfxStateDepthBias _ => true
  | .gfxStateStencilRef _ => true
  | .gfxBindPipeline _ => true
  | .gfxBindSet _ => true
  | .gfxBindVertex _ => true
  | .gfxBindIndex _ => true
  | .gfxBindPush _ => true
  | .gfxDrawDirect _ _ => true
  | .gfxDrawIndexed _ _ => true
  | .gfxDrawIndirect _ _ => true
  | .gfxDispatchDirect _ _ => true
  | .gfxDispatchIndirect _ _ => true
  | .gfxBarrier _ => true
  | .gfxSignal _ => true
  | .gfxWait _ => true
  | .gfxTimestampTop _ => true
  | .gfxTimestampBottom _ => true
  | .gfxJobEnd _ _ => true
  | .compositorPreempt _ _ _ => true
  | .preemptKillExpiry _ _ => true
  | .jobLimitExpiry _ => true
  | .gfxCtxFault _ _ _ _ => true
  | .commitPacket _ => true
  | .composeFrameDone _ => true
  | .layerFetchError _ _ _ _ => true
  | .layerSubstForce _ _ _ => true
  | .coefDataWrite _ _ _ => true
  | .wbFrameDone _ => true
  | .disabledHeadLatch _ => true
  | .basinGranWrite _ _ _ => true
  | .basinEccError _ _ _ => true
  | .headEnable _ _ => true
  | .headPllLock _ => true
  | .headPllRetry _ => true
  | .headDisable _ _ => true
  | .vblankStart _ _ => true
  | .grpArm _ _ => true
  | .genlockPulse _ _ => true
  | .genlockWindowClose _ => true
  | .posePost _ _ => true
  | .poseCheckDone _ => true
  | .poseLatch _ _ => true
  | .headSrcWrite _ _ => true
  | .frameStart _ => true
  | .mirrorStreamStop _ => true
  | .lsramDataAccess _ _ _ => true
  | .safeSramUe => true
  | .slTransaction _ => true
  | .slState _ _ _ _ => true
  | .slClear _ => true
  | .slLogReq _ _ => true
  | .slWake _ => true
  | .slTimeout => true
  | .swdKick _ _ => true
  | .safetyWdtExpiry => true
  | .lockstepMismatch => true
  | .logDataRead _ => true
  | .linkEnable _ _ _ => true
  | .linkDisable _ _ _ => true
  | .linkPowerUp _ => true
  | .linkTrain _ => true
  | .linkTrainEnd _ _ _ _ => true
  | .linkRetry _ => true
  | .linkHpdTimeout _ => true
  | .linkPoweroffTimer _ => true
  | .linkLoadFault _ _ => true
  | .hpdIrq _ _ => true
  | .hpdUnplug _ => true
  | .hpdPlug _ => true
  | .auxGo _ _ _ => true
  | .auxDone _ _ count d => decide (d.length ≤ count.val)
  | .dsiCmdGo _ _ _ => true
  | .dsiSent _ => true
  | .csiFrameStart _ => true
  | .csiLongPacket _ _ _ d _ _ _ => decide (d.length < 65536)
  | .csiFrameEnd _ => true
  | .capFrameWritten _ => true
  | .capWriteError _ _ _ => true
  | .capLost _ => true
  | .trigFire _ _ => true
  | .trigPulseDue _ => true
  | .surfaceStart _ _ _ _ _ => true
  | .scanStart _ => true
  | .scanEnd _ _ => true
  | .reportWrite _ => true
  | .surfRebase _ _ _ => true
  | .surfSelftest _ _ _ => true
  | .rptEnable _ _ => true
  | .rptConsWrite _ _ _ => true
  | .wakeScan _ _ => true
  | .portPowerOn _ _ => true
  | .portPowerOff _ _ => true
  | .surfDetach _ => true
  | .surfInsert _ => true
  | .surfIdReadDone _ got _ _ => match got with | some (h, _) => h.length == 512 | none => true
  | .authSignDone _ _ => true
  | .wearBlock => true
  | .wearRecordWrite _ _ => true
  | .hvEnableWrite _ _ _ => true
  | .hvClearOc _ _ _ => true
  | .haptOvercurrent _ _ => true
  | .haptHvFault => true
  | .boostClear _ _ => true
  | .haptStreamEnable _ _ _ => true
  | .haptTick => true
  | .resonanceCal _ => true
  | .haptCalStepDone _ _ => true
  | .haptThrottleStep _ _ _ _ => true
  | .audioTick _ => true
  | .gainTimeout _ => true
  | .safeloadGo _ => true
  | .psetDataAccess _ _ => true
  | .audioStreamEnable _ _ => true
  | .audMclkLost _ => true
  | .audMclkGlitch _ => true
  | .clkLostClear _ _ => true
  | .mclkReturn _ => true
  | .asrcRelock _ => true
  | .asrcLock _ _ => true
  | .silenceHoldExpiry _ => true
  | .alarmRun _ _ _ => true
  | .alarmPatternWrite _ _ => true
  | .alarmEnd => true
  | .alarmAmpRelease => true
  | .framerClockSwitch => true
  | .encTransition _ _ _ => true
  | .encBurstEnd _ => true
  | .encSet _ _ _ => true
  | .dinChange _ _ => true
  | .gpioEdge _ _ => true
  | .gpioCfgWrite _ _ _ => true
  | .pinOwnerWrite _ _ _ => true
  | .i2cGo _ _ _ => true
  | .i2cDone _ _ count d => decide (d.length ≤ count.val)
  | .uartTxWrite _ _ _ => true
  | .uartRxByte _ _ _ _ => true
  | .uartRxRead _ _ => true
  | .ptmDialogue _ => true
  | .ppsEdge _ => true
  | .timeMasterLost => true
  | .snapArm _ _ => true
  | .snapCancel _ _ => true
  | .snapStrobe => true
  | .hartWfi _ => true
  | .backlightOnDelayExpiry _ => true
  | .timeSlewEnd => true
  | .jtagHalt _ _ => true
  | .worldCsrAccess _ _ _ _ _ => true
  | .custom0Illegal _ _ _ w => w.toNat % 128 == 0x0B

end Sys2Proof
end

