-- ==== Sys2Proof/Safety.lean ====
section
/-! DEFINITION. Runs of the block and what every safe run keeps: memories in their canonical form. -/

namespace Sys2Proof

open Machine

/-- The state after n steps, if none of them stops. -/
def runs : Nat → State → Option State
  | 0, s => some s
  | n + 1, s =>
    match step s with
    | .next t => runs n t
    | _ => none

/-- A safe run: no step stops. -/
def SafeRun (s : State) : Prop := ∀ n, (runs n s).isSome

/-- The memories of the block are in canonical form: DRAM against what it holds when zeroed, Basin against 0, flash against its erased value and the
factory bank against 0. -/
def Machine.Memory.wf (s : State) : Bool :=
  mwf (dramDefault s.variant) s.dram && mwf (fun _ => 0) s.basin && mwf (fun _ => 0xFF) s.flash && mwf (fun _ => 0) s.otp

/-- A part of the state for saying what a command may change: one register field, in every page, element and bank it has; the fields with bits in
the register at an offset of a page type; the error record, ERR_CODE and ERR_ADDR, of a page type; every field of a page type; the header
fields, at offsets below 0x100, of every page; every register field; the live counters of a page type, or all of them; or a field of State. -/
inductive Piece where
  | fld (f : Fld)
  | reg (b : Blk) (off : Nat)
  | err (b : Blk)
  | blk (b : Blk)
  | hdr
  | allRegs
  | ctr (b : Blk)
  | allCtr
  | resp | cpl | staged | parts | latch | stage | snap | sent | free | dram | basin | flash | otp | pins | pot | inst | time | events | evSeq
  | faults | mem | rings | world | gfx | comp | heads | safe | links | caps | pwr | surf | hapt | touch | audio | alarm | ctl
deriving DecidableEq, Repr

/-- Whether a part takes in element j of a register field on page i in bank b: its cell is one of the part's. -/
def Piece.hits (p : Piece) (f : Fld) (i j b : Nat) : Prop :=
  match p with
  | .fld g => ∃ i' j' b', f.key i j b = g.key i' j' b'
  | .reg k off => ∃ i' n, ∃ p ∈ partsAt k i' off, f.key i j b = p.fld.key i' p.elt n
  | .err k => f.blk = k ∧ 0x28 ≤ (f.off + f.stride * j) % 4096 ∧ (f.off + f.stride * j) % 4096 < 0x30
  | .blk k => f.blk = k
  | .hdr => (f.off + f.stride * j) % 4096 < 0x100
  | .allRegs => True
  | _ => False

/-- From s to t nothing has changed outside the parts listed: every register field that no listed part takes in reads as before, its shadow too,
and every counter, buffer, memory and other field of State that is not listed is as it was. The variant and the waiting commands are no parts:
they never change. -/
structure Unchanged (L : List Piece) (s t : Machine.State) : Prop where
  variant : t.variant = s.variant
  pending : t.pending = s.pending
  regs : ∀ f i j b, (∀ p ∈ L, ¬ p.hits f i j b) → t.rd f i j b = s.rd f i j b ∧ t.rdSh f i j b = s.rdSh f i j b
  ctr : ∀ b i j, .ctr b ∉ L → .allCtr ∉ L → t.counter b i j = s.counter b i j
  resp : .resp ∉ L → t.resp = s.resp
  cpl : .cpl ∉ L → t.cpl = s.cpl
  staged : .staged ∉ L → t.staged = s.staged
  parts : .parts ∉ L → t.parts = s.parts
  latch : .latch ∉ L → t.latch = s.latch
  stage : .stage ∉ L → t.stage = s.stage
  snap : .snap ∉ L → t.snap = s.snap
  sent : .sent ∉ L → t.sent = s.sent
  free : .free ∉ L → t.free = s.free
  dram : .dram ∉ L → t.dram = s.dram
  basin : .basin ∉ L → t.basin = s.basin
  flash : .flash ∉ L → t.flash = s.flash
  otp : .otp ∉ L → t.otp = s.otp
  pins : .pins ∉ L → t.pins = s.pins
  pot : .pot ∉ L → t.pot = s.pot
  inst : .inst ∉ L → t.inst = s.inst
  time : .time ∉ L → t.time = s.time
  events : .events ∉ L → t.events = s.events
  evSeq : .evSeq ∉ L → t.evSeq = s.evSeq
  faults : .faults ∉ L → t.faults = s.faults
  mem : .mem ∉ L → t.mem = s.mem
  rings : .rings ∉ L → t.rings = s.rings
  world : .world ∉ L → t.world = s.world
  gfx : .gfx ∉ L → t.gfx = s.gfx
  comp : .comp ∉ L → t.comp = s.comp
  heads : .heads ∉ L → t.heads = s.heads
  safe : .safe ∉ L → t.safe = s.safe
  links : .links ∉ L → t.links = s.links
  caps : .caps ∉ L → t.caps = s.caps
  pwr : .pwr ∉ L → t.pwr = s.pwr
  surf : .surf ∉ L → t.surf = s.surf
  hapt : .hapt ∉ L → t.hapt = s.hapt
  touch : .touch ∉ L → t.touch = s.touch
  audio : .audio ∉ L → t.audio = s.audio
  alarm : .alarm ∉ L → t.alarm = s.alarm
  ctl : .ctl ∉ L → t.ctl = s.ctl

/-- Whether a sender's write of v to an offset of a page passes every check: it reaches the page (R47, R49, R78), the offset is a mapped word
(R50), nothing it would change is locked or forbidden to the sender, who may write some field (R63, R450), and it carries no reserved bit (R52). -/
def accepts (s : Machine.State) (w : Machine.Who) (b : Machine.Blk) (i off v : Nat) : Bool :=
  (match s.reach w b i off true with | .good _ => true | .bad _ => false) && decide (off % 4 = 0) && Machine.offsetDefined b i off &&
    !(decide (off = 0x020) && !b.shadowed) && !(decide (off = 0x034 ∧ v % 2 = 1) && !b.lockable && !Machine.viewReadOnly w off) &&
    (s.wordBad w b i off v).isNone && Machine.writesAny w b i off && decide (v &&& (2 ^ 32 - 1 - Machine.definedBits b i off) = 0)

/-- Whether a sender's read at an offset of a page reaches it (R47, R49, R78). -/
def readable (s : Machine.State) (w : Machine.Who) (b : Machine.Blk) (i off : Nat) : Bool :=
  match s.reach w b i off false with | .good _ => true | .bad _ => false

/-- Whether a sender's write at an offset of a page reaches it (R47, R49, R78). -/
def writable (s : Machine.State) (w : Machine.Who) (b : Machine.Blk) (i off : Nat) : Bool :=
  match s.reach w b i off true with | .good _ => true | .bad _ => false

/-- Whether the packet at the head of the command buffer of front-end e, whose running job is r, is of op and sub, keeps the lengths of R237 to R240
and can be read by the job: its words are w. -/
def packetAt (s : Machine.State) (e op sub : Nat) (r : Machine.GfxRun) (w : List Nat) : Bool :=
  let a := r.cmd + 4 * r.pc
  let n := w.length
  decide (s.gfxCur e = some r ∧ r.fe = e ∧ r.phase = 0 ∧ 1 ≤ n ∧ r.pc + n ≤ r.words) && (s.memFault (s.gfxReq r) false a 4).isNone &&
    (s.memFault (s.gfxReq r) false a (4 * n)).isNone && decide (s.rdMem a 4 = op + sub * 256 + n * 65536) &&
    (if op = 2 ∧ sub = 5 then decide (2 ≤ n) else Machine.packetLen op sub (w.getD 1 0) == some n) &&
    decide (w = (List.range n).map (fun i => s.rdMem (a + 4 * i) 4))

/-- The state once a job has read the packet of words w at the head of its command buffer: its page walks, traffic and counters are done (R113, R252). -/
def afterPacket (s : Machine.State) (r : Machine.GfxRun) (w : List Nat) : Machine.State := s.gfxRead r (r.cmd + 4 * r.pc) (4 * w.length)

/-- Whether the pass open on a job, if one is, ends without stores: its draws leave none, and no earlier write waits (R241, R246). -/
def quietPass (r : Machine.GfxRun) (fx : Machine.GfxFx) : Bool := !r.pass || (decide (r.draws ≠ 0) && r.dirty.isEmpty && fx.ends.isEmpty)

end Sys2Proof
end

