-- ==== Sys2Proof/Changes.lean ====
section
/-! DEFINITION. What each command may change: the frame of every command. -/

namespace Sys2Proof

open Machine

/-- The parts of the state that a command may change: what it acts on, and what its refusals, faults and events write (ERR_CODE and ERR_ADDR,
EV_RAW, interrupt messages, the bus response). Everything else stays as it was, in every next state. -/
def mayChange : Instr → List Piece
  | .registerWrite _ _ _ _ => [.alarm, .allCtr, .allRegs, .audio, .basin, .caps, .comp, .ctl, .dram, .evSeq, .events, .flash, .free, .gfx, .hapt,
      .heads, .inst, .latch, .links, .mem, .otp, .parts, .pins, .pot, .pwr, .resp, .rings, .safe, .sent, .snap, .stage, .staged, .surf, .time,
      .touch, .world]
  | .regReadLoLatch _ _ _ => [.audio, .ctl, .ctr .lantern, .ctr .pot, .err .audio, .err .mgr, .err .pot, .faults, .fld (HDR.ev_raw .audio),
      .fld (HDR.ev_raw .lantern), .fld (HDR.ev_raw .mgr), .fld (HDR.ev_raw .pot), .fld AUDIO.PSET_INDEX.index, .fld LANTERN.LSRAM_ADDR.addr,
      .fld SAFE.LOG_LOST.count, .fld SAFE.LOG_UNREAD.count, .hdr, .latch, .resp, .safe, .sent, .world]
  | .regWriteHi _ _ _ _ => [.alarm, .allCtr, .allRegs, .audio, .basin, .caps, .comp, .ctl, .dram, .evSeq, .events, .flash, .free, .gfx, .hapt,
      .heads, .inst, .latch, .links, .mem, .otp, .parts, .pins, .pot, .pwr, .resp, .rings, .safe, .sent, .snap, .stage, .staged, .surf, .time,
      .touch, .world]
  | .commit _ _ => [.allRegs, .comp, .ctr .basin, .ctr .head, .ctr .pot, .heads, .parts, .resp, .safe, .sent, .staged, .world]
  | .commitApply _ => [.blk .gfx, .blk .glint, .blk .head, .blk .lantern, .blk .mirror, .ctr .basin, .ctr .head, .fld (HDR.commit_seq .gfx),
      .fld (HDR.commit_seq .glint), .fld (HDR.commit_seq .head), .fld (HDR.commit_seq .lantern), .fld (HDR.commit_seq .mirror),
      .fld (HDR.ev_raw .basin), .fld (HDR.ev_raw .gfx), .fld (HDR.ev_raw .glint), .fld (HDR.ev_raw .head), .fld (HDR.ev_raw .lantern),
      .fld (HDR.ev_raw .mirror), .fld (HDR.group .glint), .fld (HDR.group .head), .fld (HDR.pending .gfx), .fld (HDR.pending .glint),
      .fld (HDR.pending .head), .fld (HDR.pending .lantern), .fld (HDR.pending .mirror), .fld BASIN.GRP_STAT.applied, .fld BASIN.GRP_STAT.busy,
      .fld HEAD.GL_STAT.missing, .fld HEAD.GL_STAT.state, .fld LANTERN.OVL.windows, .fld LANTERN.VIS.regions, .heads, .parts, .sent, .staged]
  | .commitRevert _ _ => [.allRegs, .comp, .ctr .basin, .ctr .head, .ctr .pot, .heads, .parts, .resp, .safe, .sent, .staged, .world]
  | .softReset _ _ _ => [.alarm, .allCtr, .allRegs, .audio, .caps, .comp, .ctl, .evSeq, .events, .flash, .free, .gfx, .hapt, .heads, .inst, .links,
      .mem, .parts, .pins, .pot, .pwr, .resp, .rings, .safe, .sent, .staged, .surf, .time, .touch, .world]
  | .pgOwnerWrite _ _ _ => [.ctr .hapt, .ctr .pot, .err .pot, .fld (HDR.ev_raw .pot), .fld (HDR.ev_raw .surf), .fld HAPT.BOOST_STAT.on,
      .fld SURF.HV_CTRL.enable, .fld SURF.HV_STAT.on, .fld SURF.HV_STAT.why, .fld SURF.STREAM_CFG.enable, .fld TOUCH.RPT_CTRL.enable, .hapt, .hdr,
      .resp, .sent, .surf, .touch, .world]
  | .evRawClear _ _ _ => [.ctr .pot, .err .pot, .fld (HDR.ev_raw .pot), .hdr, .resp, .sent, .world]
  | .evForce _ _ _ => [.ctr .pot, .err .pot, .fld (HDR.ev_raw .pot), .hdr, .resp, .sent, .world]
  | .errCodeClear _ _ => [.ctr .pot, .err .pot, .fld (HDR.ev_raw .pot), .hdr, .resp, .sent, .world]
  | .lockSet _ _ => [.ctr .pot, .err .pot, .fld (HDR.ev_raw .pot), .hdr, .resp, .sent, .world]
  | .memoryAccess _ _ _ => [.alarm, .allCtr, .allRegs, .audio, .basin, .caps, .comp, .ctl, .dram, .evSeq, .events, .faults, .flash, .free, .gfx,
      .hapt, .heads, .inst, .latch, .links, .mem, .otp, .parts, .pins, .pot, .pwr, .resp, .rings, .safe, .sent, .snap, .stage, .staged, .surf, .time,
      .touch, .world]
  | .basinWindowAccess _ _ _ => [.basin, .ctr .basin, .err .basin, .faults, .fld (HDR.ev_raw .basin), .heads, .resp, .sent]
  | .vinPowerOn => [.allRegs, .allCtr, .resp, .cpl, .staged, .parts, .latch, .stage, .snap, .sent, .free, .dram, .basin, .flash, .pins, .pot, .inst,
      .time, .events, .evSeq, .faults, .mem, .rings, .world, .gfx, .comp, .heads, .safe, .links, .caps, .pwr, .surf, .hapt, .touch, .audio, .alarm,
      .ctl]
  | .railGood => [.alarm, .allCtr, .allRegs, .audio, .basin, .caps, .comp, .ctl, .dram, .evSeq, .events, .faults, .flash, .free, .gfx, .hapt, .heads,
      .inst, .latch, .links, .mem, .otp, .parts, .pins, .pot, .pwr, .resp, .rings, .safe, .sent, .snap, .stage, .staged, .surf, .time, .touch, .world]
  | .railStartTimeout => [.allCtr, .allRegs, .audio, .basin, .caps, .comp, .ctl, .dram, .evSeq, .events, .faults, .gfx, .hapt, .heads, .inst, .latch,
      .links, .mem, .parts, .pins, .pot, .pwr, .rings, .safe, .sent, .snap, .stage, .staged, .surf, .touch, .world]
  | .resetNAssert => [.alarm, .allCtr, .allRegs, .audio, .basin, .caps, .comp, .ctl, .dram, .evSeq, .events, .faults, .flash, .free, .gfx, .hapt,
      .heads, .inst, .latch, .links, .mem, .parts, .pins, .pot, .pwr, .rings, .safe, .sent, .snap, .stage, .staged, .surf, .time, .touch, .world]
  | .resetNRelease => [.alarm, .allCtr, .allRegs, .audio, .basin, .caps, .comp, .ctl, .dram, .evSeq, .events, .faults, .flash, .free, .gfx, .hapt,
      .heads, .inst, .latch, .links, .mem, .parts, .pins, .pot, .pwr, .rings, .safe, .sent, .snap, .stage, .staged, .surf, .time, .touch, .world]
  | .vinUndervoltage => [.allCtr, .allRegs, .audio, .basin, .caps, .comp, .ctl, .dram, .evSeq, .events, .gfx, .hapt, .heads, .inst, .latch, .links,
      .mem, .parts, .pins, .pot, .pwr, .rings, .safe, .sent, .snap, .stage, .staged, .surf, .touch, .world]
  | .vinOvervoltage => [.alarm, .allCtr, .allRegs, .audio, .basin, .caps, .comp, .ctl, .dram, .evSeq, .events, .faults, .flash, .free, .gfx, .hapt,
      .heads, .inst, .latch, .links, .mem, .parts, .pins, .pot, .pwr, .rings, .safe, .sent, .snap, .stage, .staged, .surf, .touch, .world]
  | .vinRecover => [.pwr]
  | .aonBrownout => [.alarm, .allCtr, .allRegs, .audio, .basin, .caps, .comp, .ctl, .dram, .evSeq, .events, .faults, .flash, .free, .gfx, .hapt,
      .heads, .inst, .latch, .links, .mem, .parts, .pins, .pot, .pwr, .rings, .safe, .sent, .snap, .stage, .staged, .surf, .time, .touch, .world]
  | .safetyDomainBoot _ => [.alarm, .allCtr, .allRegs, .audio, .basin, .caps, .comp, .ctl, .dram, .evSeq, .events, .faults, .flash, .free, .gfx,
      .hapt, .heads, .inst, .latch, .links, .mem, .otp, .parts, .pins, .pot, .pwr, .resp, .rings, .safe, .sent, .snap, .stage, .staged, .surf, .time,
      .touch, .world]
  | .displayDomainReset => [.alarm, .allCtr, .allRegs, .audio, .basin, .caps, .comp, .ctl, .dram, .evSeq, .events, .faults, .flash, .free, .gfx,
      .hapt, .heads, .inst, .latch, .links, .mem, .otp, .parts, .pins, .pot, .pwr, .resp, .rings, .safe, .sent, .snap, .stage, .staged, .surf, .time,
      .touch, .world]
  | .mainBoot _ _ _ _ => [.alarm, .allCtr, .allRegs, .audio, .basin, .caps, .comp, .ctl, .dram, .evSeq, .events, .faults, .flash, .free, .gfx, .hapt,
      .heads, .inst, .latch, .links, .mem, .otp, .parts, .pins, .pot, .pwr, .resp, .rings, .safe, .sent, .snap, .stage, .staged, .surf, .time,
      .touch, .world]
  | .managerRelease => [.ctr .hapt, .ctr .pwr, .fld (HDR.ev_raw .pwr), .fld (HDR.ev_raw .surf), .fld HAPT.BOOST_STAT.on, .fld PWR.STATE.state,
      .fld PWR.STATE.step, .fld PWR.STATE.target, .fld PWR.WAKE_CAUSE.first, .fld PWR.WAKE_CAUSE.replayed, .fld PWR.WAKE_CAUSE.source,
      .fld SURF.HV_STAT.on, .fld SURF.HV_STAT.why, .hapt, .pwr, .sent, .surf, .world]
  | .mainResetCmd _ _ => [.allCtr, .allRegs, .audio, .basin, .caps, .comp, .ctl, .dram, .evSeq, .events, .gfx, .hapt, .heads, .inst, .latch, .links,
      .mem, .parts, .pins, .pot, .pwr, .resp, .rings, .safe, .sent, .snap, .stage, .staged, .surf, .touch, .world]
  | .displayResetCmd _ _ => [.allCtr, .allRegs, .audio, .basin, .caps, .comp, .ctl, .dram, .evSeq, .events, .gfx, .hapt, .heads, .inst, .latch,
      .links, .mem, .parts, .pins, .pot, .pwr, .resp, .rings, .safe, .sent, .snap, .stage, .staged, .surf, .touch, .world]
  | .flRead _ => [.ctr .pot, .err .boot, .err .pot, .fld (HDR.ev_raw .boot), .fld (HDR.ev_raw .pot), .fld BOOT.FL_OP.busy, .pwr, .resp, .sent, .world]
  | .flProgram _ => [.ctr .pot, .err .boot, .err .pot, .fld (HDR.ev_raw .boot), .fld (HDR.ev_raw .pot), .fld BOOT.FL_OP.busy, .pwr, .resp, .sent,
      .world]
  | .flErase _ => [.ctr .pot, .err .boot, .err .pot, .fld (HDR.ev_raw .boot), .fld (HDR.ev_raw .pot), .fld BOOT.FL_OP.busy, .pwr, .resp, .sent, .world]
  | .flDone _ => [.err .boot, .flash, .fld (HDR.ev_raw .boot), .fld BOOT.FL_BUF.word, .fld BOOT.FL_OP.busy, .free, .pwr, .sent]
  | .keyRevoke _ _ => [.ctr .pot, .err .boot, .err .pot, .fld (HDR.ev_raw .boot), .fld (HDR.ev_raw .pot), .otp, .resp, .sent, .world]
  | .stateReqSleep _ => [.ctr .hapt, .ctr .pot, .ctr .pwr, .ctr .safe, .err .dram, .err .pot, .err .pwr, .fld (HDR.ev_raw .dram),
      .fld (HDR.ev_raw .pot), .fld (HDR.ev_raw .pwr), .fld (HDR.ev_raw .surf), .fld (HDR.ev_raw .touch), .fld DRAM.SPARE_STAT.cause,
      .fld DRAM.SPARE_STAT.deferred, .fld DRAM.SPARE_STAT.done_64k, .fld DRAM.SPARE_STAT.rank, .fld DRAM.SPARE_STAT.state, .fld HAPT.BOOST_STAT.on,
      .fld LINK.LINK_STAT.lanes_active, .fld LINK.LINK_STAT.rate_active, .fld LINK.LINK_STAT.state, .fld PWR.EXIT_STAT.failed_step,
      .fld PWR.EXIT_STAT.from_state, .fld PWR.EXIT_STAT.osc_attempts, .fld PWR.RAIL_STAT.cmd_seq, .fld PWR.RAIL_STAT.slewing,
      .fld PWR.RAIL_STAT.target_mv, .fld PWR.STATE.state, .fld PWR.STATE.step, .fld PWR.STATE.target, .fld PWR.WAKE_CAUSE.aborted,
      .fld PWR.WAKE_CAUSE.first, .fld PWR.WAKE_CAUSE.source, .fld SAFE.HEAD_SRC.bl_off, .fld SAFE.HEAD_SRC.blank, .fld SAFE.HEAD_SRC.fallback,
      .fld SAFE.ISL_STAT.fw_running, .fld SURF.HV_STAT.on, .fld SURF.HV_STAT.why, .fld TOUCH.TILE_STAT.state, .fld TOUCH.WAKE_STAT.gesture,
      .fld TOUCH.WAKE_STAT.woke, .hapt, .links, .mem, .pins, .pwr, .resp, .safe, .sent, .surf, .touch, .world]
  | .stateReqDeepSleep _ => [.ctr .hapt, .ctr .pot, .ctr .pwr, .ctr .safe, .err .dram, .err .pot, .err .pwr, .fld (HDR.ev_raw .dram),
      .fld (HDR.ev_raw .pot), .fld (HDR.ev_raw .pwr), .fld (HDR.ev_raw .surf), .fld (HDR.ev_raw .touch), .fld DRAM.SPARE_STAT.cause,
      .fld DRAM.SPARE_STAT.deferred, .fld DRAM.SPARE_STAT.done_64k, .fld DRAM.SPARE_STAT.rank, .fld DRAM.SPARE_STAT.state, .fld HAPT.BOOST_STAT.on,
      .fld LINK.LINK_STAT.lanes_active, .fld LINK.LINK_STAT.rate_active, .fld LINK.LINK_STAT.state, .fld PWR.EXIT_STAT.failed_step,
      .fld PWR.EXIT_STAT.from_state, .fld PWR.EXIT_STAT.osc_attempts, .fld PWR.RAIL_STAT.cmd_seq, .fld PWR.RAIL_STAT.slewing,
      .fld PWR.RAIL_STAT.target_mv, .fld PWR.STATE.state, .fld PWR.STATE.step, .fld PWR.STATE.target, .fld PWR.WAKE_CAUSE.aborted,
      .fld PWR.WAKE_CAUSE.first, .fld PWR.WAKE_CAUSE.source, .fld SAFE.HEAD_SRC.bl_off, .fld SAFE.HEAD_SRC.blank, .fld SAFE.HEAD_SRC.fallback,
      .fld SAFE.ISL_STAT.fw_running, .fld SURF.HV_STAT.on, .fld SURF.HV_STAT.why, .fld TOUCH.TILE_STAT.state, .fld TOUCH.WAKE_STAT.gesture,
      .fld TOUCH.WAKE_STAT.woke, .hapt, .links, .mem, .pins, .pwr, .resp, .safe, .sent, .surf, .touch, .world]
  | .stateReqOff _ => [.ctr .hapt, .ctr .pot, .ctr .pwr, .ctr .safe, .err .dram, .err .pot, .err .pwr, .fld (HDR.ev_raw .dram),
      .fld (HDR.ev_raw .pot), .fld (HDR.ev_raw .pwr), .fld (HDR.ev_raw .surf), .fld (HDR.ev_raw .touch), .fld DRAM.SPARE_STAT.cause,
      .fld DRAM.SPARE_STAT.deferred, .fld DRAM.SPARE_STAT.done_64k, .fld DRAM.SPARE_STAT.rank, .fld DRAM.SPARE_STAT.state, .fld HAPT.BOOST_STAT.on,
      .fld LINK.LINK_STAT.lanes_active, .fld LINK.LINK_STAT.rate_active, .fld LINK.LINK_STAT.state, .fld PWR.EXIT_STAT.failed_step,
      .fld PWR.EXIT_STAT.from_state, .fld PWR.EXIT_STAT.osc_attempts, .fld PWR.RAIL_STAT.cmd_seq, .fld PWR.RAIL_STAT.slewing,
      .fld PWR.RAIL_STAT.target_mv, .fld PWR.STATE.state, .fld PWR.STATE.step, .fld PWR.STATE.target, .fld PWR.WAKE_CAUSE.aborted,
      .fld PWR.WAKE_CAUSE.first, .fld PWR.WAKE_CAUSE.source, .fld SAFE.HEAD_SRC.bl_off, .fld SAFE.HEAD_SRC.blank, .fld SAFE.HEAD_SRC.fallback,
      .fld SAFE.ISL_STAT.fw_running, .fld SURF.HV_STAT.on, .fld SURF.HV_STAT.why, .fld TOUCH.TILE_STAT.state, .fld TOUCH.WAKE_STAT.gesture,
      .fld TOUCH.WAKE_STAT.woke, .hapt, .links, .mem, .pins, .pwr, .resp, .safe, .sent, .surf, .touch, .world]
  | .safetyGrant _ => [.ctr .hapt, .err .dram, .err .pwr, .fld (HDR.ev_raw .dram), .fld (HDR.ev_raw .pwr), .fld (HDR.ev_raw .surf),
      .fld DRAM.SPARE_STAT.cause, .fld DRAM.SPARE_STAT.deferred, .fld DRAM.SPARE_STAT.done_64k, .fld DRAM.SPARE_STAT.rank,
      .fld DRAM.SPARE_STAT.state, .fld HAPT.BOOST_STAT.on, .fld PWR.STATE.state, .fld PWR.STATE.step, .fld PWR.STATE.target, .fld SURF.HV_STAT.on,
      .fld SURF.HV_STAT.why, .fld TOUCH.TILE_STAT.state, .hapt, .mem, .pwr, .sent, .surf, .touch]
  | .safetyGrantTimeout => [.ctr .hapt, .err .dram, .err .pwr, .fld (HDR.ev_raw .dram), .fld (HDR.ev_raw .pwr), .fld (HDR.ev_raw .surf),
      .fld DRAM.SPARE_STAT.cause, .fld DRAM.SPARE_STAT.deferred, .fld DRAM.SPARE_STAT.done_64k, .fld DRAM.SPARE_STAT.rank,
      .fld DRAM.SPARE_STAT.state, .fld HAPT.BOOST_STAT.on, .fld PWR.STATE.state, .fld PWR.STATE.step, .fld PWR.STATE.target, .fld SURF.HV_STAT.on,
      .fld SURF.HV_STAT.why, .hapt, .mem, .pwr, .sent, .surf]
  | .entryDrainDone => [.ctr .safe, .fld LINK.LINK_STAT.lanes_active, .fld LINK.LINK_STAT.rate_active, .fld LINK.LINK_STAT.state,
      .fld PWR.STATE.step, .fld SAFE.HEAD_SRC.blank, .links, .pins, .pwr]
  | .drainLimitExpiry => [.audio, .caps, .comp, .ctr .dma, .ctr .dram, .ctr .dramq, .ctr .gfx, .ctr .pot, .ctr .rsched, .ctr .safe, .dram,
      .err .dram, .err .pot, .err .pwr, .fld (HDR.ev_raw .dram), .fld (HDR.ev_raw .gfx), .fld (HDR.ev_raw .pot), .fld (HDR.ev_raw .pwr),
      .fld COMP.COEF_USE.banks, .fld COMP.ENG_STAT.busy0, .fld COMP.ENG_STAT.busy1, .fld COMP.ENG_STAT.late0, .fld COMP.ENG_STAT.late1,
      .fld COMP.ENG_STAT.pending0, .fld COMP.ENG_STAT.pending1, .fld COMP.LAYER_ADDR.addr, .fld COMP.LAYER_STAT.bank, .fld COMP.LAYER_STAT.enabled,
      .fld COMP.LAYER_STAT.format, .fld COMP.LAYER_STAT.substituted, .fld DMA.STAT.state, .fld GFX.CTX_FAULT.cause, .fld GFX.CTX_FAULT.code,
      .fld GFX.CTX_FAULT_ADDR.addr, .fld GFX.CTX_STAT.state, .fld GFX.ENG_STAT.clusters0, .fld GFX.ENG_STAT.clusters1, .fld GFX.ENG_STAT.comp_active,
      .fld GFX.ENG_STAT.fe0, .fld GFX.ENG_STAT.fe1, .fld LINK.LINK_STAT.lanes_active, .fld LINK.LINK_STAT.rate_active, .fld LINK.LINK_STAT.state,
      .fld PWR.STATE.step, .fld RSCHED.PIN_COUNT.pinned, .fld SAFE.HEAD_SRC.blank, .free, .gfx, .links, .mem, .pins, .pot, .pwr, .rings, .sent, .surf]
  | .entryHeadsBlanked => [.fld LINK.LINK_STAT.lanes_active, .fld LINK.LINK_STAT.rate_active, .fld LINK.LINK_STAT.state, .fld PWR.STATE.step, .links,
      .pins, .pwr]
  | .entryCachesWritten => [.fld PWR.STATE.step, .pwr]
  | .selfRefreshEntered => [.fld PWR.STATE.step, .pwr]
  | .targetStateReached => [.alarm, .allCtr, .allRegs, .audio, .basin, .caps, .comp, .ctl, .dram, .evSeq, .events, .faults, .flash, .free, .gfx,
      .hapt, .heads, .inst, .latch, .links, .mem, .parts, .pins, .pot, .pwr, .rings, .safe, .sent, .snap, .stage, .staged, .surf, .touch, .world]
  | .wakeEvent _ => [.ctr .hapt, .ctr .pwr, .ctr .safe, .err .dram, .fld (HDR.ev_raw .dram), .fld (HDR.ev_raw .pwr), .fld (HDR.ev_raw .surf),
      .fld (HDR.ev_raw .touch), .fld DRAM.SPARE_STAT.cause, .fld DRAM.SPARE_STAT.deferred, .fld DRAM.SPARE_STAT.done_64k, .fld DRAM.SPARE_STAT.rank,
      .fld DRAM.SPARE_STAT.state, .fld HAPT.BOOST_STAT.on, .fld LINK.LINK_STAT.lanes_active, .fld LINK.LINK_STAT.rate_active,
      .fld LINK.LINK_STAT.state, .fld PWR.EXIT_STAT.failed_step, .fld PWR.EXIT_STAT.from_state, .fld PWR.EXIT_STAT.osc_attempts,
      .fld PWR.RAIL_STAT.cmd_seq, .fld PWR.RAIL_STAT.slewing, .fld PWR.RAIL_STAT.target_mv, .fld PWR.STATE.state, .fld PWR.STATE.step,
      .fld PWR.STATE.target, .fld PWR.WAKE_CAUSE.aborted, .fld PWR.WAKE_CAUSE.first, .fld PWR.WAKE_CAUSE.source, .fld SAFE.HEAD_SRC.bl_off,
      .fld SAFE.HEAD_SRC.blank, .fld SAFE.HEAD_SRC.fallback, .fld SAFE.ISL_STAT.fw_running, .fld SURF.HV_STAT.on, .fld SURF.HV_STAT.why,
      .fld TOUCH.TILE_STAT.state, .fld TOUCH.WAKE_STAT.gesture, .fld TOUCH.WAKE_STAT.woke, .hapt, .links, .mem, .pins, .pwr, .safe, .sent, .surf,
      .touch, .world]
  | .wakePin => [.ctr .hapt, .ctr .pwr, .ctr .safe, .err .dram, .fld (HDR.ev_raw .dram), .fld (HDR.ev_raw .pwr), .fld (HDR.ev_raw .surf),
      .fld (HDR.ev_raw .touch), .fld DRAM.SPARE_STAT.cause, .fld DRAM.SPARE_STAT.deferred, .fld DRAM.SPARE_STAT.done_64k, .fld DRAM.SPARE_STAT.rank,
      .fld DRAM.SPARE_STAT.state, .fld HAPT.BOOST_STAT.on, .fld LINK.LINK_STAT.lanes_active, .fld LINK.LINK_STAT.rate_active,
      .fld LINK.LINK_STAT.state, .fld PWR.EXIT_STAT.failed_step, .fld PWR.EXIT_STAT.from_state, .fld PWR.EXIT_STAT.osc_attempts,
      .fld PWR.RAIL_STAT.cmd_seq, .fld PWR.RAIL_STAT.slewing, .fld PWR.RAIL_STAT.target_mv, .fld PWR.STATE.state, .fld PWR.STATE.step,
      .fld PWR.STATE.target, .fld PWR.WAKE_CAUSE.aborted, .fld PWR.WAKE_CAUSE.first, .fld PWR.WAKE_CAUSE.source, .fld SAFE.HEAD_SRC.bl_off,
      .fld SAFE.HEAD_SRC.blank, .fld SAFE.HEAD_SRC.fallback, .fld SAFE.ISL_STAT.fw_running, .fld SURF.HV_STAT.on, .fld SURF.HV_STAT.why,
      .fld TOUCH.TILE_STAT.state, .fld TOUCH.WAKE_STAT.gesture, .fld TOUCH.WAKE_STAT.woke, .hapt, .links, .mem, .pins, .pwr, .safe, .sent, .surf,
      .touch, .world]
  | .devtimeAlarm => [.ctr .hapt, .ctr .pwr, .ctr .safe, .err .dram, .fld (HDR.ev_raw .dram), .fld (HDR.ev_raw .pwr), .fld (HDR.ev_raw .surf),
      .fld (HDR.ev_raw .touch), .fld DRAM.SPARE_STAT.cause, .fld DRAM.SPARE_STAT.deferred, .fld DRAM.SPARE_STAT.done_64k, .fld DRAM.SPARE_STAT.rank,
      .fld DRAM.SPARE_STAT.state, .fld HAPT.BOOST_STAT.on, .fld LINK.LINK_STAT.lanes_active, .fld LINK.LINK_STAT.rate_active,
      .fld LINK.LINK_STAT.state, .fld PWR.EXIT_STAT.failed_step, .fld PWR.EXIT_STAT.from_state, .fld PWR.EXIT_STAT.osc_attempts,
      .fld PWR.RAIL_STAT.cmd_seq, .fld PWR.RAIL_STAT.slewing, .fld PWR.RAIL_STAT.target_mv, .fld PWR.STATE.state, .fld PWR.STATE.step,
      .fld PWR.STATE.target, .fld PWR.WAKE_CAUSE.aborted, .fld PWR.WAKE_CAUSE.first, .fld PWR.WAKE_CAUSE.source, .fld SAFE.HEAD_SRC.bl_off,
      .fld SAFE.HEAD_SRC.blank, .fld SAFE.HEAD_SRC.fallback, .fld SAFE.ISL_STAT.fw_running, .fld SURF.HV_STAT.on, .fld SURF.HV_STAT.why,
      .fld TOUCH.TILE_STAT.state, .fld TOUCH.WAKE_STAT.gesture, .fld TOUCH.WAKE_STAT.woke, .hapt, .links, .mem, .pins, .pwr, .safe, .sent, .surf,
      .touch, .world]
  | .safetyWakeRequest => [.ctr .hapt, .ctr .pwr, .ctr .safe, .err .dram, .fld (HDR.ev_raw .dram), .fld (HDR.ev_raw .pwr), .fld (HDR.ev_raw .surf),
      .fld (HDR.ev_raw .touch), .fld DRAM.SPARE_STAT.cause, .fld DRAM.SPARE_STAT.deferred, .fld DRAM.SPARE_STAT.done_64k, .fld DRAM.SPARE_STAT.rank,
      .fld DRAM.SPARE_STAT.state, .fld HAPT.BOOST_STAT.on, .fld LINK.LINK_STAT.lanes_active, .fld LINK.LINK_STAT.rate_active,
      .fld LINK.LINK_STAT.state, .fld PWR.EXIT_STAT.failed_step, .fld PWR.EXIT_STAT.from_state, .fld PWR.EXIT_STAT.osc_attempts,
      .fld PWR.RAIL_STAT.cmd_seq, .fld PWR.RAIL_STAT.slewing, .fld PWR.RAIL_STAT.target_mv, .fld PWR.STATE.state, .fld PWR.STATE.step,
      .fld PWR.STATE.target, .fld PWR.WAKE_CAUSE.aborted, .fld PWR.WAKE_CAUSE.first, .fld PWR.WAKE_CAUSE.source, .fld SAFE.HEAD_SRC.bl_off,
      .fld SAFE.HEAD_SRC.blank, .fld SAFE.HEAD_SRC.fallback, .fld SAFE.ISL_STAT.fw_running, .fld SURF.HV_STAT.on, .fld SURF.HV_STAT.why,
      .fld TOUCH.TILE_STAT.state, .fld TOUCH.WAKE_STAT.gesture, .fld TOUCH.WAKE_STAT.woke, .hapt, .links, .mem, .pins, .pwr, .safe, .sent, .surf,
      .touch, .world]
  | .sleepDeepAfterExpiry => [.fld PWR.STATE.state, .fld PWR.STATE.step, .fld PWR.STATE.target, .pwr]
  | .exitRegulatorsReady => [.fld PWR.EXIT_STAT.osc_attempts, .fld PWR.STATE.step, .pins, .pwr]
  | .exitOscillatorReady => [.fld CLK.PLL_STAT.enabled, .fld CLK.PLL_STAT.lock, .fld CLK.PLL_STAT.mhz, .fld PWR.STATE.step, .pwr]
  | .exitMemoryReady => [.basin, .fld PWR.STATE.step, .heads, .pwr]
  | .exitLogicReady _ => [.alarm, .allCtr, .allRegs, .audio, .basin, .caps, .comp, .ctl, .dram, .evSeq, .events, .faults, .flash, .free, .gfx, .hapt,
      .heads, .inst, .latch, .links, .mem, .otp, .parts, .pins, .pot, .pwr, .resp, .rings, .safe, .sent, .snap, .stage, .staged, .surf, .time,
      .touch, .world]
  | .exitStepTimeout _ => [.alarm, .allCtr, .allRegs, .audio, .basin, .caps, .comp, .ctl, .dram, .evSeq, .events, .faults, .flash, .free, .gfx,
      .hapt, .heads, .inst, .latch, .links, .mem, .parts, .pins, .pot, .pwr, .rings, .safe, .sent, .snap, .stage, .staged, .surf, .touch, .world]
  | .railOppRequest _ n _ => [.ctr .pot, .ctr .pwr, .err .pot, .err .pwr, .fld (HDR.dirty .pwr), .fld (HDR.ev_raw .pot), .fld (HDR.ev_raw .pwr),
      .fld CLK.PLL_STAT.mhz, .fld PWR.RAIL_STAT.cmd_seq, .fld PWR.RAIL_STAT.freq_held, .fld PWR.RAIL_STAT.slewing, .fld PWR.RAIL_STAT.target_mv,
      .pwr, .reg .pwr (0x140 + 4 * n.val), .resp, .sent, .world]
  | .railAck _ => [.fld (HDR.ev_raw .pwr), .fld CLK.PLL_STAT.mhz, .fld PWR.RAIL_STAT.ack_seq, .fld PWR.RAIL_STAT.freq_held,
      .fld PWR.RAIL_STAT.slewing, .sent]
  | .railAckTimeout _ => [.allCtr, .allRegs, .audio, .basin, .caps, .comp, .ctl, .dram, .evSeq, .events, .faults, .gfx, .hapt, .heads, .inst, .latch,
      .links, .mem, .parts, .pins, .pot, .pwr, .rings, .safe, .sent, .snap, .stage, .staged, .surf, .touch, .world]
  | .fixedRailFault _ => [.allCtr, .allRegs, .audio, .basin, .caps, .comp, .ctl, .dram, .evSeq, .events, .faults, .gfx, .hapt, .heads, .inst, .latch,
      .links, .mem, .parts, .pins, .pot, .pwr, .rings, .safe, .sent, .snap, .stage, .staged, .surf, .touch, .world]
  | .tempSample _ => [.allCtr, .allRegs, .audio, .basin, .caps, .comp, .ctl, .dram, .evSeq, .events, .gfx, .hapt, .heads, .inst, .latch, .links,
      .mem, .parts, .pins, .pot, .pwr, .rings, .safe, .sent, .snap, .stage, .staged, .surf, .touch, .world]
  | .thermalRestart => [.pwr]
  | .refLost => [.ctr .clk, .err .clk, .faults, .fld (HDR.ev_raw .clk), .pwr, .sent]
  | .pllUnlock _ => [.ctr .clk, .err .clk, .faults, .fld (HDR.ev_raw .clk), .fld CLK.PLL_STAT.lock, .fld HEAD.HEAD_STAT.pll_lock, .sent]
  | .pllRelock _ => [.fld CLK.PLL_STAT.lock, .fld HEAD.HEAD_STAT.pll_lock]
  | .xtal32Stop => [.fld (HDR.ev_raw .clk), .pwr, .sent]
  | .instanceTagWrite _ _ _ _ => [.ctr .dram, .ctr .dramq, .ctr .pot, .ctr .world, .dram, .fld WORLD.VALE_STAT.inside, .free, .mem, .pot, .world]
  | .potSet _ _ => [.ctr .pot, .dram, .err .pot, .fld (HDR.ev_raw .pot), .fld POT.CMD_OP.busy, .fld POT.CMD_STAT.epoch, .fld POT.CMD_STAT.scrub_left,
      .pot, .resp, .sent, .world]
  | .potSetAttr _ _ => [.ctr .pot, .dram, .err .pot, .fld (HDR.ev_raw .pot), .fld POT.CMD_OP.busy, .fld POT.CMD_STAT.epoch,
      .fld POT.CMD_STAT.scrub_left, .pot, .resp, .sent, .world]
  | .potShare _ _ => [.ctr .pot, .dram, .err .pot, .fld (HDR.ev_raw .pot), .fld POT.CMD_OP.busy, .fld POT.CMD_STAT.epoch,
      .fld POT.CMD_STAT.scrub_left, .pot, .resp, .sent, .world]
  | .potEpochDrained => [.pot]
  | .potCmdDone => [.ctr .pot, .dram, .fld (HDR.ev_raw .pot), .fld POT.CMD_OP.busy, .fld POT.CMD_STAT.scrub_left, .mem, .pot, .sent]
  | .instCreate _ => [.blk .enc, .blk .gpio, .ctl, .ctr .enc, .ctr .gfx, .ctr .mgr, .ctr .pot, .err .mgr, .err .pot, .fld (HDR.ev_raw .mgr),
      .fld (HDR.ev_raw .pot), .fld DRAMQ.ADMIT_USED.used, .fld DRAMQ.RES_STAT.admit_seq, .fld GFX.CTX_STAT.local, .fld GFX.CTX_STAT.owner,
      .fld GFX.CTX_STAT.state, .fld GPIO.PIN_OWNER.owner, .fld MGR.INST_STAT.state, .gfx, .mem, .resp, .sent, .world]
  | .instStart _ => [.ctr .pot, .err .mgr, .err .pot, .evSeq, .fld (HDR.ev_raw .mgr), .fld (HDR.ev_raw .pot), .fld MGR.INST_STAT.state, .resp,
      .rings, .sent, .world]
  | .instQuiesce _ _ => [.comp, .ctr .comp, .ctr .dma, .ctr .dram, .ctr .dramq, .ctr .mgr, .ctr .pot, .ctr .rsched, .err .dram, .err .mgr, .err .pot,
      .evSeq, .events, .fld (HDR.ev_raw .dram), .fld (HDR.ev_raw .mgr), .fld (HDR.ev_raw .pot), .fld COMP.COEF_USE.banks, .fld COMP.ENG_STAT.busy0,
      .fld COMP.ENG_STAT.busy1, .fld COMP.ENG_STAT.late0, .fld COMP.ENG_STAT.late1, .fld COMP.ENG_STAT.pending0, .fld COMP.ENG_STAT.pending1,
      .fld COMP.LAYER_ADDR.addr, .fld COMP.LAYER_STAT.bank, .fld COMP.LAYER_STAT.enabled, .fld COMP.LAYER_STAT.format,
      .fld COMP.LAYER_STAT.substituted, .fld DMA.STAT.state, .fld MGR.INST_STAT.busy, .fld MGR.INST_STAT.forced, .fld MGR.INST_STAT.state,
      .fld RSCHED.PIN_COUNT.pinned, .inst, .mem, .pot, .resp, .rings, .sent, .world]
  | .quiesceDrainDone _ => [.comp, .inst, .rings]
  | .quiesceLimitExpiry _ => [.audio, .caps, .comp, .ctr .dma, .ctr .dram, .ctr .dramq, .ctr .gfx, .ctr .mgr, .ctr .pot, .ctr .rsched, .dram,
      .err .dram, .err .mgr, .err .pot, .fld (HDR.ev_raw .dram), .fld (HDR.ev_raw .gfx), .fld (HDR.ev_raw .mgr), .fld (HDR.ev_raw .pot),
      .fld COMP.COEF_USE.banks, .fld COMP.ENG_STAT.busy0, .fld COMP.ENG_STAT.busy1, .fld COMP.ENG_STAT.late0, .fld COMP.ENG_STAT.late1,
      .fld COMP.ENG_STAT.pending0, .fld COMP.ENG_STAT.pending1, .fld COMP.LAYER_ADDR.addr, .fld COMP.LAYER_STAT.bank, .fld COMP.LAYER_STAT.enabled,
      .fld COMP.LAYER_STAT.format, .fld COMP.LAYER_STAT.substituted, .fld DMA.STAT.state, .fld GFX.CTX_FAULT.cause, .fld GFX.CTX_FAULT.code,
      .fld GFX.CTX_FAULT_ADDR.addr, .fld GFX.CTX_STAT.state, .fld GFX.ENG_STAT.clusters0, .fld GFX.ENG_STAT.clusters1, .fld GFX.ENG_STAT.comp_active,
      .fld GFX.ENG_STAT.fe0, .fld GFX.ENG_STAT.fe1, .fld MGR.INST_STAT.forced, .fld RSCHED.PIN_COUNT.pinned, .free, .gfx, .inst, .mem, .pot, .rings,
      .sent, .surf]
  | .ownerSweep _ => [.ctr .pot, .dram, .fld POT.CMD_OP.busy, .fld POT.CMD_STAT.epoch, .fld POT.CMD_STAT.scrub_left, .inst, .pot]
  | .quiesceDone _ => [.blk .enc, .blk .gpio, .ctl, .ctr .enc, .ctr .pot, .dram, .events, .fld (HDR.ev_raw .mgr), .fld GPIO.PIN_OWNER.owner,
      .fld MGR.INST_STAT.busy, .fld MGR.INST_STAT.state, .fld POT.CMD_OP.busy, .fld POT.CMD_STAT.scrub_left, .fld RSCHED.FENCE_BASE.addr,
      .fld RSCHED.FENCE_BASE.addr_hi, .fld RSCHED.FENCE_SLOTS.slots, .fld RSCHED.PIN_COUNT.pinned, .fld WORLD.VALE_STAT.busy,
      .fld WORLD.VALE_STAT.parent, .fld WORLD.VALE_STAT.state, .hdr, .inst, .mem, .pot, .rings, .sent, .world]
  | .instReset _ => [.ctr .pot, .err .mgr, .err .pot, .events, .fld (HDR.ev_raw .mgr), .fld (HDR.ev_raw .pot), .fld MGR.INST_STAT.state,
      .fld RSCHED.FENCE_BASE.addr, .fld RSCHED.FENCE_BASE.addr_hi, .fld RSCHED.FENCE_SLOTS.slots, .fld RSCHED.PIN_COUNT.pinned, .hdr, .resp, .rings,
      .sent, .world]
  | .instRemove _ => [.blk .enc, .blk .gpio, .ctl, .ctr .enc, .ctr .gfx, .ctr .mgr, .ctr .pot, .err .mgr, .err .pot, .fld (HDR.ev_raw .mgr),
      .fld (HDR.ev_raw .pot), .fld DRAMQ.ADMIT_USED.used, .fld DRAMQ.BROKEN_INST.inst, .fld DRAMQ.RES_STAT.admit_seq, .fld DRAMQ.RES_STAT.broken,
      .fld GFX.CTX_STAT.local, .fld GFX.CTX_STAT.owner, .fld GFX.CTX_STAT.state, .fld GPIO.PIN_OWNER.owner, .fld MGR.INST_STAT.state,
      .fld MGR.VIEW_ENTRY.page, .fld MGR.VIEW_ENTRY.valid, .fld MGR.VIEW_ENTRY.write, .fld WORLD.VALE_STAT.busy, .fld WORLD.VALE_STAT.parent,
      .fld WORLD.VALE_STAT.state, .gfx, .inst, .mem, .resp, .sent, .world]
  | .functionLevelReset _ => [.comp, .ctr .comp, .ctr .dma, .ctr .dram, .ctr .dramq, .ctr .mgr, .ctr .pot, .ctr .rsched, .err .dram, .err .pot,
      .evSeq, .events, .fld (HDR.ev_raw .dram), .fld (HDR.ev_raw .mgr), .fld (HDR.ev_raw .pot), .fld COMP.COEF_USE.banks, .fld COMP.ENG_STAT.busy0,
      .fld COMP.ENG_STAT.busy1, .fld COMP.ENG_STAT.late0, .fld COMP.ENG_STAT.late1, .fld COMP.ENG_STAT.pending0, .fld COMP.ENG_STAT.pending1,
      .fld COMP.LAYER_ADDR.addr, .fld COMP.LAYER_STAT.bank, .fld COMP.LAYER_STAT.enabled, .fld COMP.LAYER_STAT.format,
      .fld COMP.LAYER_STAT.substituted, .fld DMA.STAT.state, .fld MGR.FLR_INST.inst, .fld MGR.INST_STAT.busy, .fld MGR.INST_STAT.forced,
      .fld MGR.INST_STAT.state, .fld RSCHED.FENCE_BASE.addr, .fld RSCHED.FENCE_BASE.addr_hi, .fld RSCHED.FENCE_SLOTS.slots,
      .fld RSCHED.PIN_COUNT.pinned, .hdr, .inst, .mem, .pot, .rings, .sent]
  | .vfMapWrite _ _ => [.ctr .pot, .err .mgr, .err .pot, .fld (HDR.dirty .mgr), .fld (HDR.ev_raw .mgr), .fld (HDR.ev_raw .pot),
      .fld MGR.INST_STAT.external, .reg .mgr 0x184, .resp, .sent, .world]
  | .pcieRequest _ _ _ _ => [.alarm, .allCtr, .allRegs, .audio, .basin, .caps, .comp, .cpl, .ctl, .dram, .evSeq, .events, .faults, .flash, .free,
      .gfx, .hapt, .heads, .inst, .latch, .links, .mem, .otp, .parts, .pins, .pot, .pwr, .resp, .rings, .safe, .sent, .snap, .stage, .staged, .surf,
      .time, .touch, .world]
  | .viewEntryWrite _ _ => [.ctr .pot, .err .mgr, .err .pot, .fld (HDR.dirty .mgr), .fld (HDR.ev_raw .mgr), .fld (HDR.ev_raw .pot), .reg .mgr 0x164,
      .resp, .sent, .world]
  | .mbxDataWrite _ _ _ => [.ctr .pot, .err .mgr, .err .pot, .fld (HDR.ev_raw .mgr), .fld (HDR.ev_raw .pot), .inst, .resp, .sent]
  | .mbSend _ _ => [.ctr .pot, .err .mgr, .err .pot, .fld (HDR.ev_raw .mgr), .fld (HDR.ev_raw .pot), .inst, .resp, .sent]
  | .mbAck _ _ => [.ctr .pot, .err .mgr, .err .pot, .fld (HDR.ev_raw .mgr), .fld (HDR.ev_raw .pot), .inst, .resp, .sent]
  | .mbRearm _ _ => [.ctr .pot, .err .mgr, .err .pot, .fld (HDR.ev_raw .mgr), .fld (HDR.ev_raw .pot), .resp, .sent]
  | .mgrRearm _ _ => [.ctr .pot, .err .mgr, .err .pot, .fld (HDR.ev_raw .mgr), .fld (HDR.ev_raw .pot), .resp, .sent, .world]
  | .valeOpen _ => [.ctr .pot, .err .pot, .err .world, .fld (HDR.ev_raw .pot), .fld (HDR.ev_raw .world), .fld WORLD.LOAD_SEQ.seq,
      .fld WORLD.MEAS.digest, .fld WORLD.VALE_STAT.busy, .fld WORLD.VALE_STAT.parent, .fld WORLD.VALE_STAT.state, .resp, .sent, .world]
  | .valeLoad _ _ => [.ctr .dram, .ctr .dramq, .ctr .pot, .ctr .world, .dram, .err .dram, .err .pot, .err .world, .fld (HDR.ev_raw .dram),
      .fld (HDR.ev_raw .pot), .fld (HDR.ev_raw .world), .fld POT.CMD_STAT.epoch, .fld WORLD.LOAD_SEQ.seq, .fld WORLD.MEAS.digest,
      .fld WORLD.VALE_STAT.busy, .mem, .pot, .resp, .sent, .world]
  | .valeSeal _ => [.ctr .pot, .err .pot, .err .world, .fld (HDR.ev_raw .pot), .fld (HDR.ev_raw .world), .fld WORLD.MEAS.digest,
      .fld WORLD.VALE_STAT.busy, .fld WORLD.VALE_STAT.state, .resp, .sent, .world]
  | .valeClose _ => [.ctr .pot, .err .pot, .err .world, .fld (HDR.ev_raw .pot), .fld (HDR.ev_raw .world), .fld WORLD.VALE_STAT.busy, .resp, .sent,
      .world]
  | .valeCmdDone _ => [.blk .enc, .blk .gpio, .ctl, .ctr .enc, .ctr .pot, .dram, .err .world, .fld (HDR.ev_raw .world), .fld GPIO.PIN_OWNER.owner,
      .fld POT.CMD_OP.busy, .fld POT.CMD_STAT.scrub_left, .fld WORLD.VALE_STAT.busy, .fld WORLD.VALE_STAT.parent, .fld WORLD.VALE_STAT.state, .mem,
      .pot, .sent, .world]
  | .passEnter _ _ _ _ _ _ _ _ => [.ctr .dram, .ctr .dramq, .ctr .pot, .ctr .world, .dram, .err .dram, .err .pot, .fld (HDR.ev_raw .dram),
      .fld (HDR.ev_raw .pot), .fld WORLD.VALE_STAT.inside, .mem, .pot, .sent, .world]
  | .passRet _ _ _ => [.ctr .dram, .ctr .dramq, .ctr .pot, .ctr .world, .dram, .fld WORLD.VALE_STAT.inside, .mem, .pot, .world]
  | .passMark _ => [.world]
  | .suspendingExit _ _ _ _ _ _ => [.ctr .dram, .ctr .dramq, .ctr .pot, .ctr .world, .dram, .fld WORLD.VALE_STAT.inside, .mem, .pot, .world]
  | .valeFaultExit _ => [.ctr .dram, .ctr .dramq, .ctr .pot, .ctr .world, .dram, .fld WORLD.VALE_STAT.inside, .mem, .pot, .world]
  | .dmaOwnerWrite _ _ _ => [.ctr .pot, .err .pot, .err .world, .fld (HDR.ev_raw .pot), .fld (HDR.ev_raw .world), .fld WORLD.DMA_OWNER.owner, .resp,
      .sent, .world]
  | .swdtKick _ _ => [.ctr .pot, .ctr .swdt, .err .pot, .err .swdt, .fld (HDR.ev_raw .pot), .fld (HDR.ev_raw .swdt), .fld SWDT.REMAIN.ms, .resp,
      .sent, .world]
  | .swdtTick => [.fld (HDR.ev_raw .swdt), .fld SWDT.REMAIN.ms, .sent]
  | .secureWdtExpiry => [.allCtr, .allRegs, .audio, .basin, .caps, .comp, .ctl, .dram, .evSeq, .events, .gfx, .hapt, .heads, .inst, .latch, .links,
      .mem, .parts, .pins, .pot, .pwr, .rings, .safe, .sent, .snap, .stage, .staged, .surf, .touch, .world]
  | .dramRequest _ _ _ _ => [.ctr .dram, .ctr .dramq, .dram, .err .dram, .fld (HDR.ev_raw .dram), .fld DRAM.CE_RANK.count,
      .fld DRAM.SPARE_STAT.cause, .fld DRAM.SPARE_STAT.deferred, .fld DRAM.SPARE_STAT.done_64k, .fld DRAM.SPARE_STAT.rank,
      .fld DRAM.SPARE_STAT.state, .fld DRAM.SUB_STAT.spare_avail, .mem, .resp, .sent]
  | .dramRefresh _ => [.ctr .dram, .fld (HDR.ev_raw .dram), .fld DRAM.RANK_MAP.map, .fld DRAM.SPARE_STAT.state, .fld DRAM.SUB_STAT.hot,
      .fld DRAM.SUB_STAT.spare_avail, .mem, .sent]
  | .mr4Poll _ => [.err .dram, .fld (HDR.ev_raw .dram), .fld DRAM.REF_STAT.temp, .mem, .sent]
  | .caReplay _ _ => [.ctr .dram, .err .dram, .faults, .fld (HDR.ev_raw .dram), .fld DRAM.SUB_STAT.offline, .mem, .sent]
  | .caRetrainDone _ => [.mem]
  | .spareStart _ _ _ => [.ctr .pot, .err .dram, .err .pot, .fld (HDR.ev_raw .dram), .fld (HDR.ev_raw .pot), .fld DRAM.SPARE_STAT.cause,
      .fld DRAM.SPARE_STAT.deferred, .fld DRAM.SPARE_STAT.done_64k, .fld DRAM.SPARE_STAT.rank, .fld DRAM.SPARE_STAT.state, .mem, .resp, .sent, .world]
  | .spareCancel _ _ => [.ctr .dram, .ctr .pot, .err .dram, .err .pot, .fld (HDR.ev_raw .dram), .fld (HDR.ev_raw .pot), .fld DRAM.SPARE_STAT.state,
      .resp, .sent, .world]
  | .spareCopyDone _ _ => [.ctr .dram, .err .dram, .fld (HDR.ev_raw .dram), .fld DRAM.SPARE_STAT.done_64k, .fld DRAM.SPARE_STAT.state, .mem, .sent]
  | .qosWindow _ => [.ctr .dramq, .evSeq, .events, .fld (HDR.ev_raw .dramq), .fld DRAMQ.BROKEN.ports, .fld DRAMQ.BROKEN_INST.inst,
      .fld DRAMQ.PORT_STAT.broken, .fld DRAMQ.RES_STAT.broken, .fld DRAMQ.SHORTFALL.units, .mem, .sent]
  | .portReservationWrite _ rate _ => [.ctr .pot, .err .dramq, .err .pot, .fld (HDR.dirty .dramq), .fld (HDR.ev_raw .dramq), .fld (HDR.ev_raw .pot),
      .fld DRAMQ.ADMIT_USED.used, .fld DRAMQ.PORT_STAT.admit_seq, .mem, .reg .dramq (if rate then 0x108 else 0x104), .resp, .sent, .world]
  | .admitEffWrite _ _ => [.ctr .pot, .err .dramq, .err .pot, .fld (HDR.ev_raw .dramq), .fld (HDR.ev_raw .pot), .fld DRAMQ.ADMIT_CAP.cap,
      .fld DRAMQ.ADMIT_EFF.eff, .resp, .sent, .world]
  | .livenessTest _ _ => [.ctr .dram, .ctr .dramq, .faults, .mem, .safe]
  | .ctxRead _ => [.ctr .pot, .err .pot, .err .rsched, .fld (HDR.ev_raw .pot), .fld (HDR.ev_raw .rsched), .fld RSCHED.CTX_DATA.word, .resp, .sent,
      .world]
  | .ctxWrite _ => [.ctr .pot, .err .pot, .err .rsched, .fld (HDR.ev_raw .pot), .fld (HDR.ev_raw .rsched), .resp, .rings, .sent, .world]
  | .ctxEnable _ => [.ctr .pot, .err .pot, .err .rsched, .fld (HDR.ev_raw .pot), .fld (HDR.ev_raw .rsched), .fld RSCHED.PIN_COUNT.pinned, .resp,
      .rings, .sent, .world]
  | .ctxDisable _ => [.ctr .pot, .err .pot, .err .rsched, .fld (HDR.ev_raw .pot), .fld (HDR.ev_raw .rsched), .fld RSCHED.PIN_COUNT.pinned, .resp,
      .rings, .sent, .world]
  | .ringDisabled _ => [.fld RSCHED.PIN_COUNT.pinned, .rings]
  | .ctxMigrate _ _ => [.ctr .pot, .ctr .rsched, .err .pot, .err .rsched, .fld (HDR.ev_raw .pot), .fld (HDR.ev_raw .rsched), .resp, .rings, .sent,
      .world]
  | .migrateDone _ => [.ctr .rsched, .fld (HDR.ev_raw .rsched), .rings, .sent]
  | .doorbellProducerUpdate _ _ _ => [.ctr .dma, .ctr .dram, .ctr .dramq, .ctr .mgr, .ctr .pot, .ctr .rsched, .err .dma, .err .dram, .err .pot,
      .err .rsched, .fld (HDR.ev_raw .dma), .fld (HDR.ev_raw .dram), .fld (HDR.ev_raw .pot), .fld (HDR.ev_raw .rsched), .fld DMA.STAT.state,
      .fld RSCHED.PIN_COUNT.pinned, .mem, .pot, .resp, .rings, .sent]
  | .doorbellConsumerUpdate _ _ _ => [.ctr .dma, .ctr .dram, .ctr .dramq, .ctr .mgr, .ctr .pot, .ctr .rsched, .err .dma, .err .dram, .err .pot,
      .err .rsched, .fld (HDR.ev_raw .dma), .fld (HDR.ev_raw .dram), .fld (HDR.ev_raw .pot), .fld (HDR.ev_raw .rsched), .fld DMA.STAT.state,
      .fld RSCHED.PIN_COUNT.pinned, .mem, .pot, .resp, .rings, .sent]
  | .doorbellFenceNotify _ _ => [.ctr .dma, .ctr .dram, .ctr .dramq, .ctr .mgr, .ctr .pot, .ctr .rsched, .err .dma, .err .dram, .err .pot,
      .err .rsched, .fld (HDR.ev_raw .dma), .fld (HDR.ev_raw .dram), .fld (HDR.ev_raw .pot), .fld (HDR.ev_raw .rsched), .fld DMA.STAT.state,
      .fld RSCHED.PIN_COUNT.pinned, .mem, .pot, .resp, .rings, .sent]
  | .doorbellResume _ _ => [.ctr .dma, .ctr .dram, .ctr .dramq, .ctr .mgr, .ctr .pot, .ctr .rsched, .err .dma, .err .dram, .err .pot, .err .rsched,
      .fld (HDR.ev_raw .dma), .fld (HDR.ev_raw .dram), .fld (HDR.ev_raw .pot), .fld (HDR.ev_raw .rsched), .fld DMA.STAT.state,
      .fld RSCHED.PIN_COUNT.pinned, .mem, .pot, .resp, .rings, .sent]
  | .doorbellAbort _ _ => [.ctr .dma, .ctr .dram, .ctr .dramq, .ctr .mgr, .ctr .pot, .ctr .rsched, .err .dma, .err .dram, .err .pot, .err .rsched,
      .fld (HDR.ev_raw .dma), .fld (HDR.ev_raw .dram), .fld (HDR.ev_raw .pot), .fld (HDR.ev_raw .rsched), .fld DMA.STAT.state,
      .fld RSCHED.PIN_COUNT.pinned, .mem, .pot, .resp, .rings, .sent]
  | .ringDoorbellInvalid _ _ _ => [.ctr .dma, .ctr .dram, .ctr .dramq, .ctr .mgr, .ctr .pot, .ctr .rsched, .err .dma, .err .dram, .err .pot,
      .err .rsched, .fld (HDR.ev_raw .dma), .fld (HDR.ev_raw .dram), .fld (HDR.ev_raw .pot), .fld (HDR.ev_raw .rsched), .fld DMA.STAT.state,
      .fld RSCHED.PIN_COUNT.pinned, .mem, .pot, .resp, .rings, .sent]
  | .descriptorFetch _ => [.audio, .ctr .audio, .ctr .dram, .ctr .dramq, .ctr .pot, .ctr .rsched, .dram, .err .dram, .err .pot,
      .fld (HDR.ev_raw .dram), .fld (HDR.ev_raw .pot), .fld AUDIO.STRM_STAT.fill_ms, .fld AUDIO.STRM_STAT.state, .fld RSCHED.PIN_COUNT.pinned,
      .fld SURF.STREAM_STAT.fill, .fld SURF.STREAM_STAT.state, .mem, .pot, .rings, .sent, .surf]
  | .jobStart _ _ => [.ctr .comp, .ctr .dma, .ctr .dram, .ctr .dramq, .ctr .gfx, .ctr .pot, .ctr .rsched, .err .dram, .err .pot,
      .fld (HDR.ev_raw .dram), .fld (HDR.ev_raw .pot), .fld DMA.CRC_STATE.crc, .fld DMA.RING.ring, .fld DMA.STAT.state, .fld GFX.CTX_STAT.state,
      .fld GFX.ENG_STAT.clusters0, .fld GFX.ENG_STAT.clusters1, .fld GFX.ENG_STAT.comp_active, .fld GFX.ENG_STAT.fe0, .fld GFX.ENG_STAT.fe1,
      .fld RSCHED.PIN_COUNT.pinned, .gfx, .mem, .pot, .rings, .sent]
  | .fenceWaitMet _ => [.comp, .ctr .comp, .ctr .dram, .ctr .dramq, .ctr .pot, .ctr .rsched, .err .dram, .err .pot, .evSeq, .events,
      .fld (HDR.ev_raw .dram), .fld (HDR.ev_raw .pot), .fld COMP.COEF_USE.banks, .fld COMP.ENG_STAT.busy0, .fld COMP.ENG_STAT.busy1,
      .fld COMP.ENG_STAT.late0, .fld COMP.ENG_STAT.late1, .fld COMP.ENG_STAT.pending0, .fld COMP.ENG_STAT.pending1, .fld COMP.LAYER_ADDR.addr,
      .fld COMP.LAYER_STAT.bank, .fld COMP.LAYER_STAT.enabled, .fld COMP.LAYER_STAT.format, .fld COMP.LAYER_STAT.substituted,
      .fld RSCHED.PIN_COUNT.pinned, .mem, .pot, .rings, .sent]
  | .fenceTimeout _ => [.comp, .ctr .comp, .ctr .dram, .ctr .dramq, .ctr .pot, .ctr .rsched, .err .dram, .err .pot, .evSeq, .events,
      .fld (HDR.ev_raw .dram), .fld (HDR.ev_raw .pot), .fld COMP.COEF_USE.banks, .fld COMP.ENG_STAT.busy0, .fld COMP.ENG_STAT.busy1,
      .fld COMP.ENG_STAT.late0, .fld COMP.ENG_STAT.late1, .fld COMP.ENG_STAT.pending0, .fld COMP.ENG_STAT.pending1, .fld COMP.LAYER_ADDR.addr,
      .fld COMP.LAYER_STAT.bank, .fld COMP.LAYER_STAT.enabled, .fld COMP.LAYER_STAT.format, .fld COMP.LAYER_STAT.substituted,
      .fld RSCHED.PIN_COUNT.pinned, .mem, .pot, .rings, .sent]
  | .completionRecordWrite _ => [.ctr .dram, .ctr .dramq, .ctr .pot, .ctr .rsched, .dram, .err .dram, .err .pot, .err .rsched,
      .fld (HDR.ev_raw .dram), .fld (HDR.ev_raw .pot), .fld (HDR.ev_raw .rsched), .fld RSCHED.PIN_COUNT.pinned, .mem, .pot, .rings, .sent]
  | .cqIrqTimer _ => [.rings, .sent]
  | .eventRecordDeliver _ => [.ctr .dram, .ctr .dramq, .ctr .pot, .ctr .rsched, .dram, .err .dram, .err .pot, .err .rsched, .events,
      .fld (HDR.ev_raw .dram), .fld (HDR.ev_raw .pot), .fld (HDR.ev_raw .rsched), .mem, .pot, .rings, .sent]
  | .dmaGather _ => [.ctr .dma, .ctr .dram, .ctr .dramq, .ctr .pot, .ctr .rsched, .dram, .err .dram, .err .pot, .fld (HDR.ev_raw .dram),
      .fld (HDR.ev_raw .pot), .fld DMA.CRC_STATE.crc, .fld DMA.STAT.state, .fld RSCHED.PIN_COUNT.pinned, .free, .mem, .pot, .rings, .sent]
  | .dmaScatter _ => [.ctr .dma, .ctr .dram, .ctr .dramq, .ctr .pot, .ctr .rsched, .dram, .err .dram, .err .pot, .fld (HDR.ev_raw .dram),
      .fld (HDR.ev_raw .pot), .fld DMA.CRC_STATE.crc, .fld DMA.STAT.state, .fld RSCHED.PIN_COUNT.pinned, .free, .mem, .pot, .rings, .sent]
  | .dmaFill _ => [.ctr .dma, .ctr .dram, .ctr .dramq, .ctr .pot, .ctr .rsched, .dram, .err .dram, .err .pot, .fld (HDR.ev_raw .dram),
      .fld (HDR.ev_raw .pot), .fld DMA.CRC_STATE.crc, .fld DMA.STAT.state, .fld RSCHED.PIN_COUNT.pinned, .free, .mem, .pot, .rings, .sent]
  | .dmaFence _ => [.ctr .dma, .ctr .dram, .ctr .dramq, .ctr .pot, .ctr .rsched, .dram, .err .dram, .err .pot, .fld (HDR.ev_raw .dram),
      .fld (HDR.ev_raw .pot), .fld DMA.CRC_STATE.crc, .fld DMA.STAT.state, .fld RSCHED.PIN_COUNT.pinned, .free, .mem, .pot, .rings, .sent]
  | .dmaBusError _ => [.ctr .dma, .err .dma, .fld (HDR.ev_raw .dma), .fld DMA.BYTES.done, .fld DMA.CAUSE.code, .fld DMA.CRC_STATE.crc,
      .fld DMA.ELEM.crc, .fld DMA.ELEM.dir, .fld DMA.ELEM.index, .fld DMA.ELEM.partial, .fld DMA.FAIL_ADDR.addr_hi, .fld DMA.FAIL_ADDR.addr_lo,
      .fld DMA.STAT.state, .rings, .sent]
  | .dmaJobDone _ => [.ctr .dram, .ctr .dramq, .ctr .pot, .ctr .rsched, .dram, .err .dram, .err .pot, .fld (HDR.ev_raw .dram),
      .fld (HDR.ev_raw .pot), .fld DMA.STAT.state, .fld RSCHED.PIN_COUNT.pinned, .mem, .pot, .rings, .sent]
  | .dmaCtrlResume _ _ => [.ctr .dma, .ctr .dram, .ctr .dramq, .ctr .pot, .ctr .rsched, .err .dma, .err .dram, .err .pot, .fld (HDR.ev_raw .dma),
      .fld (HDR.ev_raw .dram), .fld (HDR.ev_raw .pot), .fld DMA.STAT.state, .fld RSCHED.PIN_COUNT.pinned, .mem, .pot, .resp, .rings, .sent, .world]
  | .dmaCtrlAbort _ _ => [.ctr .dma, .ctr .dram, .ctr .dramq, .ctr .pot, .ctr .rsched, .err .dma, .err .dram, .err .pot, .fld (HDR.ev_raw .dma),
      .fld (HDR.ev_raw .dram), .fld (HDR.ev_raw .pot), .fld DMA.STAT.state, .fld RSCHED.PIN_COUNT.pinned, .mem, .pot, .resp, .rings, .sent, .world]
  | .dmaHaltTimeout _ => [.ctr .dma, .ctr .dram, .ctr .dramq, .ctr .pot, .ctr .rsched, .err .dram, .err .pot, .fld (HDR.ev_raw .dma),
      .fld (HDR.ev_raw .dram), .fld (HDR.ev_raw .pot), .fld DMA.STAT.state, .fld RSCHED.PIN_COUNT.pinned, .mem, .pot, .rings, .sent]
  | .safetyFaultLine => [.alarm, .allCtr, .allRegs, .faults, .flash, .free, .hapt, .latch, .links, .parts, .pins, .pwr, .safe, .sent, .snap, .stage,
      .staged, .surf]
  | .earlyBacklightOff _ => [.fld SAFE.HEAD_SRC.bl_off, .links, .pins, .safe]
  | .faultReadback _ _ _ => [.ctr .safe, .fld (HDR.ev_raw .safe), .fld LINK.LINK_STAT.lanes_active, .fld LINK.LINK_STAT.rate_active,
      .fld LINK.LINK_STAT.state, .fld SAFE.FAULT_CTRL.assert, .fld SAFE.FAULT_RB.a_pin, .fld SAFE.FAULT_RB.b_pin, .fld SAFE.FAULT_RB.mismatch,
      .fld SAFE.HB_STAT.good, .fld SAFE.HEAD_SRC.blank, .fld SAFE.HEAD_SRC.dispen_off, .fld SAFE.HEAD_SRC.fallback, .fld SAFE.ISL_STAT.fault,
      .fld SAFE.LOG_LOST.count, .fld SAFE.LOG_NEWEST.seq, .fld SAFE.LOG_UNREAD.count, .links, .pins, .safe, .sent]
  | .faultRelease => [.fld SAFE.FAULT_CTRL.assert, .fld SAFE.ISL_STAT.fault, .pins]
  | .gfxSubmission _ => [.ctr .gfx, .fld GFX.CTX_STAT.fe, .fld GFX.CTX_STAT.state, .fld GFX.ENG_STAT.clusters0, .fld GFX.ENG_STAT.clusters1,
      .fld GFX.ENG_STAT.comp_active, .fld GFX.ENG_STAT.fe0, .fld GFX.ENG_STAT.fe1, .fld RSCHED.PIN_COUNT.pinned, .gfx, .rings]
  | .gfxStateTargets _ _ => [.ctr .dram, .ctr .dramq, .ctr .gfx, .ctr .pot, .dram, .err .dram, .err .pot, .fld (HDR.ev_raw .dram),
      .fld (HDR.ev_raw .gfx), .fld (HDR.ev_raw .pot), .fld GFX.CTX_FAULT.cause, .fld GFX.CTX_FAULT.code, .fld GFX.CTX_FAULT_ADDR.addr,
      .fld GFX.CTX_STAT.state, .fld GFX.ENG_STAT.clusters0, .fld GFX.ENG_STAT.clusters1, .fld GFX.ENG_STAT.comp_active, .fld GFX.ENG_STAT.fe0,
      .fld GFX.ENG_STAT.fe1, .fld RSCHED.PIN_COUNT.pinned, .free, .gfx, .mem, .pot, .rings, .sent]
  | .gfxStateViewport _ => [.ctr .dram, .ctr .dramq, .ctr .gfx, .ctr .pot, .dram, .err .dram, .err .pot, .fld (HDR.ev_raw .dram),
      .fld (HDR.ev_raw .gfx), .fld (HDR.ev_raw .pot), .fld GFX.CTX_FAULT.cause, .fld GFX.CTX_FAULT.code, .fld GFX.CTX_FAULT_ADDR.addr,
      .fld GFX.CTX_STAT.state, .fld GFX.ENG_STAT.clusters0, .fld GFX.ENG_STAT.clusters1, .fld GFX.ENG_STAT.comp_active, .fld GFX.ENG_STAT.fe0,
      .fld GFX.ENG_STAT.fe1, .fld RSCHED.PIN_COUNT.pinned, .free, .gfx, .mem, .pot, .rings, .sent]
  | .gfxStateScissor _ => [.ctr .dram, .ctr .dramq, .ctr .gfx, .ctr .pot, .dram, .err .dram, .err .pot, .fld (HDR.ev_raw .dram),
      .fld (HDR.ev_raw .gfx), .fld (HDR.ev_raw .pot), .fld GFX.CTX_FAULT.cause, .fld GFX.CTX_FAULT.code, .fld GFX.CTX_FAULT_ADDR.addr,
      .fld GFX.CTX_STAT.state, .fld GFX.ENG_STAT.clusters0, .fld GFX.ENG_STAT.clusters1, .fld GFX.ENG_STAT.comp_active, .fld GFX.ENG_STAT.fe0,
      .fld GFX.ENG_STAT.fe1, .fld RSCHED.PIN_COUNT.pinned, .free, .gfx, .mem, .pot, .rings, .sent]
  | .gfxStateBlendConst _ => [.ctr .dram, .ctr .dramq, .ctr .gfx, .ctr .pot, .dram, .err .dram, .err .pot, .fld (HDR.ev_raw .dram),
      .fld (HDR.ev_raw .gfx), .fld (HDR.ev_raw .pot), .fld GFX.CTX_FAULT.cause, .fld GFX.CTX_FAULT.code, .fld GFX.CTX_FAULT_ADDR.addr,
      .fld GFX.CTX_STAT.state, .fld GFX.ENG_STAT.clusters0, .fld GFX.ENG_STAT.clusters1, .fld GFX.ENG_STAT.comp_active, .fld GFX.ENG_STAT.fe0,
      .fld GFX.ENG_STAT.fe1, .fld RSCHED.PIN_COUNT.pinned, .free, .gfx, .mem, .pot, .rings, .sent]
  | .gfxStateDepthBias _ => [.ctr .dram, .ctr .dramq, .ctr .gfx, .ctr .pot, .dram, .err .dram, .err .pot, .fld (HDR.ev_raw .dram),
      .fld (HDR.ev_raw .gfx), .fld (HDR.ev_raw .pot), .fld GFX.CTX_FAULT.cause, .fld GFX.CTX_FAULT.code, .fld GFX.CTX_FAULT_ADDR.addr,
      .fld GFX.CTX_STAT.state, .fld GFX.ENG_STAT.clusters0, .fld GFX.ENG_STAT.clusters1, .fld GFX.ENG_STAT.comp_active, .fld GFX.ENG_STAT.fe0,
      .fld GFX.ENG_STAT.fe1, .fld RSCHED.PIN_COUNT.pinned, .free, .gfx, .mem, .pot, .rings, .sent]
  | .gfxStateStencilRef _ => [.ctr .dram, .ctr .dramq, .ctr .gfx, .ctr .pot, .dram, .err .dram, .err .pot, .fld (HDR.ev_raw .dram),
      .fld (HDR.ev_raw .gfx), .fld (HDR.ev_raw .pot), .fld GFX.CTX_FAULT.cause, .fld GFX.CTX_FAULT.code, .fld GFX.CTX_FAULT_ADDR.addr,
      .fld GFX.CTX_STAT.state, .fld GFX.ENG_STAT.clusters0, .fld GFX.ENG_STAT.clusters1, .fld GFX.ENG_STAT.comp_active, .fld GFX.ENG_STAT.fe0,
      .fld GFX.ENG_STAT.fe1, .fld RSCHED.PIN_COUNT.pinned, .free, .gfx, .mem, .pot, .rings, .sent]
  | .gfxBindPipeline _ => [.ctr .dram, .ctr .dramq, .ctr .gfx, .ctr .pot, .dram, .err .dram, .err .pot, .fld (HDR.ev_raw .dram),
      .fld (HDR.ev_raw .gfx), .fld (HDR.ev_raw .pot), .fld GFX.CTX_FAULT.cause, .fld GFX.CTX_FAULT.code, .fld GFX.CTX_FAULT_ADDR.addr,
      .fld GFX.CTX_STAT.state, .fld GFX.ENG_STAT.clusters0, .fld GFX.ENG_STAT.clusters1, .fld GFX.ENG_STAT.comp_active, .fld GFX.ENG_STAT.fe0,
      .fld GFX.ENG_STAT.fe1, .fld RSCHED.PIN_COUNT.pinned, .free, .gfx, .mem, .pot, .rings, .sent]
  | .gfxBindSet _ => [.ctr .dram, .ctr .dramq, .ctr .gfx, .ctr .pot, .dram, .err .dram, .err .pot, .fld (HDR.ev_raw .dram), .fld (HDR.ev_raw .gfx),
      .fld (HDR.ev_raw .pot), .fld GFX.CTX_FAULT.cause, .fld GFX.CTX_FAULT.code, .fld GFX.CTX_FAULT_ADDR.addr, .fld GFX.CTX_STAT.state,
      .fld GFX.ENG_STAT.clusters0, .fld GFX.ENG_STAT.clusters1, .fld GFX.ENG_STAT.comp_active, .fld GFX.ENG_STAT.fe0, .fld GFX.ENG_STAT.fe1,
      .fld RSCHED.PIN_COUNT.pinned, .free, .gfx, .mem, .pot, .rings, .sent]
  | .gfxBindVertex _ => [.ctr .dram, .ctr .dramq, .ctr .gfx, .ctr .pot, .dram, .err .dram, .err .pot, .fld (HDR.ev_raw .dram),
      .fld (HDR.ev_raw .gfx), .fld (HDR.ev_raw .pot), .fld GFX.CTX_FAULT.cause, .fld GFX.CTX_FAULT.code, .fld GFX.CTX_FAULT_ADDR.addr,
      .fld GFX.CTX_STAT.state, .fld GFX.ENG_STAT.clusters0, .fld GFX.ENG_STAT.clusters1, .fld GFX.ENG_STAT.comp_active, .fld GFX.ENG_STAT.fe0,
      .fld GFX.ENG_STAT.fe1, .fld RSCHED.PIN_COUNT.pinned, .free, .gfx, .mem, .pot, .rings, .sent]
  | .gfxBindIndex _ => [.ctr .dram, .ctr .dramq, .ctr .gfx, .ctr .pot, .dram, .err .dram, .err .pot, .fld (HDR.ev_raw .dram), .fld (HDR.ev_raw .gfx),
      .fld (HDR.ev_raw .pot), .fld GFX.CTX_FAULT.cause, .fld GFX.CTX_FAULT.code, .fld GFX.CTX_FAULT_ADDR.addr, .fld GFX.CTX_STAT.state,
      .fld GFX.ENG_STAT.clusters0, .fld GFX.ENG_STAT.clusters1, .fld GFX.ENG_STAT.comp_active, .fld GFX.ENG_STAT.fe0, .fld GFX.ENG_STAT.fe1,
      .fld RSCHED.PIN_COUNT.pinned, .free, .gfx, .mem, .pot, .rings, .sent]
  | .gfxBindPush _ => [.ctr .dram, .ctr .dramq, .ctr .gfx, .ctr .pot, .dram, .err .dram, .err .pot, .fld (HDR.ev_raw .dram), .fld (HDR.ev_raw .gfx),
      .fld (HDR.ev_raw .pot), .fld GFX.CTX_FAULT.cause, .fld GFX.CTX_FAULT.code, .fld GFX.CTX_FAULT_ADDR.addr, .fld GFX.CTX_STAT.state,
      .fld GFX.ENG_STAT.clusters0, .fld GFX.ENG_STAT.clusters1, .fld GFX.ENG_STAT.comp_active, .fld GFX.ENG_STAT.fe0, .fld GFX.ENG_STAT.fe1,
      .fld RSCHED.PIN_COUNT.pinned, .free, .gfx, .mem, .pot, .rings, .sent]
  | .gfxDrawDirect _ _ => [.ctr .dram, .ctr .dramq, .ctr .gfx, .ctr .pot, .dram, .err .dram, .err .pot, .fld (HDR.ev_raw .dram),
      .fld (HDR.ev_raw .gfx), .fld (HDR.ev_raw .pot), .fld GFX.CTX_FAULT.cause, .fld GFX.CTX_FAULT.code, .fld GFX.CTX_FAULT_ADDR.addr,
      .fld GFX.CTX_STAT.state, .fld GFX.ENG_STAT.clusters0, .fld GFX.ENG_STAT.clusters1, .fld GFX.ENG_STAT.comp_active, .fld GFX.ENG_STAT.fe0,
      .fld GFX.ENG_STAT.fe1, .fld RSCHED.PIN_COUNT.pinned, .free, .gfx, .mem, .pot, .rings, .sent]
  | .gfxDrawIndexed _ _ => [.ctr .dram, .ctr .dramq, .ctr .gfx, .ctr .pot, .dram, .err .dram, .err .pot, .fld (HDR.ev_raw .dram),
      .fld (HDR.ev_raw .gfx), .fld (HDR.ev_raw .pot), .fld GFX.CTX_FAULT.cause, .fld GFX.CTX_FAULT.code, .fld GFX.CTX_FAULT_ADDR.addr,
      .fld GFX.CTX_STAT.state, .fld GFX.ENG_STAT.clusters0, .fld GFX.ENG_STAT.clusters1, .fld GFX.ENG_STAT.comp_active, .fld GFX.ENG_STAT.fe0,
      .fld GFX.ENG_STAT.fe1, .fld RSCHED.PIN_COUNT.pinned, .free, .gfx, .mem, .pot, .rings, .sent]
  | .gfxDrawIndirect _ _ => [.ctr .dram, .ctr .dramq, .ctr .gfx, .ctr .pot, .dram, .err .dram, .err .pot, .fld (HDR.ev_raw .dram),
      .fld (HDR.ev_raw .gfx), .fld (HDR.ev_raw .pot), .fld GFX.CTX_FAULT.cause, .fld GFX.CTX_FAULT.code, .fld GFX.CTX_FAULT_ADDR.addr,
      .fld GFX.CTX_STAT.state, .fld GFX.ENG_STAT.clusters0, .fld GFX.ENG_STAT.clusters1, .fld GFX.ENG_STAT.comp_active, .fld GFX.ENG_STAT.fe0,
      .fld GFX.ENG_STAT.fe1, .fld RSCHED.PIN_COUNT.pinned, .free, .gfx, .mem, .pot, .rings, .sent]
  | .gfxDispatchDirect _ _ => [.ctr .dram, .ctr .dramq, .ctr .gfx, .ctr .pot, .dram, .err .dram, .err .pot, .fld (HDR.ev_raw .dram),
      .fld (HDR.ev_raw .gfx), .fld (HDR.ev_raw .pot), .fld GFX.CTX_FAULT.cause, .fld GFX.CTX_FAULT.code, .fld GFX.CTX_FAULT_ADDR.addr,
      .fld GFX.CTX_STAT.state, .fld GFX.ENG_STAT.clusters0, .fld GFX.ENG_STAT.clusters1, .fld GFX.ENG_STAT.comp_active, .fld GFX.ENG_STAT.fe0,
      .fld GFX.ENG_STAT.fe1, .fld RSCHED.PIN_COUNT.pinned, .free, .gfx, .mem, .pot, .rings, .sent]
  | .gfxDispatchIndirect _ _ => [.ctr .dram, .ctr .dramq, .ctr .gfx, .ctr .pot, .dram, .err .dram, .err .pot, .fld (HDR.ev_raw .dram),
      .fld (HDR.ev_raw .gfx), .fld (HDR.ev_raw .pot), .fld GFX.CTX_FAULT.cause, .fld GFX.CTX_FAULT.code, .fld GFX.CTX_FAULT_ADDR.addr,
      .fld GFX.CTX_STAT.state, .fld GFX.ENG_STAT.clusters0, .fld GFX.ENG_STAT.clusters1, .fld GFX.ENG_STAT.comp_active, .fld GFX.ENG_STAT.fe0,
      .fld GFX.ENG_STAT.fe1, .fld RSCHED.PIN_COUNT.pinned, .free, .gfx, .mem, .pot, .rings, .sent]
  | .gfxBarrier _ => [.ctr .dram, .ctr .dramq, .ctr .gfx, .ctr .pot, .dram, .err .dram, .err .pot, .fld (HDR.ev_raw .dram), .fld (HDR.ev_raw .gfx),
      .fld (HDR.ev_raw .pot), .fld GFX.CTX_FAULT.cause, .fld GFX.CTX_FAULT.code, .fld GFX.CTX_FAULT_ADDR.addr, .fld GFX.CTX_STAT.state,
      .fld GFX.ENG_STAT.clusters0, .fld GFX.ENG_STAT.clusters1, .fld GFX.ENG_STAT.comp_active, .fld GFX.ENG_STAT.fe0, .fld GFX.ENG_STAT.fe1,
      .fld RSCHED.PIN_COUNT.pinned, .free, .gfx, .mem, .pot, .rings, .sent]
  | .gfxSignal _ => [.ctr .dram, .ctr .dramq, .ctr .gfx, .ctr .pot, .ctr .rsched, .dram, .err .dram, .err .pot, .fld (HDR.ev_raw .dram),
      .fld (HDR.ev_raw .gfx), .fld (HDR.ev_raw .pot), .fld GFX.CTX_FAULT.cause, .fld GFX.CTX_FAULT.code, .fld GFX.CTX_FAULT_ADDR.addr,
      .fld GFX.CTX_STAT.state, .fld GFX.ENG_STAT.clusters0, .fld GFX.ENG_STAT.clusters1, .fld GFX.ENG_STAT.comp_active, .fld GFX.ENG_STAT.fe0,
      .fld GFX.ENG_STAT.fe1, .fld RSCHED.PIN_COUNT.pinned, .free, .gfx, .mem, .pot, .rings, .sent]
  | .gfxWait _ => [.ctr .dram, .ctr .dramq, .ctr .gfx, .ctr .pot, .ctr .rsched, .dram, .err .dram, .err .pot, .fld (HDR.ev_raw .dram),
      .fld (HDR.ev_raw .gfx), .fld (HDR.ev_raw .pot), .fld GFX.CTX_FAULT.cause, .fld GFX.CTX_FAULT.code, .fld GFX.CTX_FAULT_ADDR.addr,
      .fld GFX.CTX_STAT.state, .fld GFX.ENG_STAT.clusters0, .fld GFX.ENG_STAT.clusters1, .fld GFX.ENG_STAT.comp_active, .fld GFX.ENG_STAT.fe0,
      .fld GFX.ENG_STAT.fe1, .fld RSCHED.PIN_COUNT.pinned, .free, .gfx, .mem, .pot, .rings, .sent]
  | .gfxTimestampTop _ => [.ctr .dram, .ctr .dramq, .ctr .gfx, .ctr .pot, .dram, .err .dram, .err .pot, .fld (HDR.ev_raw .dram),
      .fld (HDR.ev_raw .gfx), .fld (HDR.ev_raw .pot), .fld GFX.CTX_FAULT.cause, .fld GFX.CTX_FAULT.code, .fld GFX.CTX_FAULT_ADDR.addr,
      .fld GFX.CTX_STAT.state, .fld GFX.ENG_STAT.clusters0, .fld GFX.ENG_STAT.clusters1, .fld GFX.ENG_STAT.comp_active, .fld GFX.ENG_STAT.fe0,
      .fld GFX.ENG_STAT.fe1, .fld RSCHED.PIN_COUNT.pinned, .free, .gfx, .mem, .pot, .rings, .sent]
  | .gfxTimestampBottom _ => [.ctr .dram, .ctr .dramq, .ctr .gfx, .ctr .pot, .dram, .err .dram, .err .pot, .fld (HDR.ev_raw .dram),
      .fld (HDR.ev_raw .gfx), .fld (HDR.ev_raw .pot), .fld GFX.CTX_FAULT.cause, .fld GFX.CTX_FAULT.code, .fld GFX.CTX_FAULT_ADDR.addr,
      .fld GFX.CTX_STAT.state, .fld GFX.ENG_STAT.clusters0, .fld GFX.ENG_STAT.clusters1, .fld GFX.ENG_STAT.comp_active, .fld GFX.ENG_STAT.fe0,
      .fld GFX.ENG_STAT.fe1, .fld RSCHED.PIN_COUNT.pinned, .free, .gfx, .mem, .pot, .rings, .sent]
  | .gfxJobEnd _ _ => [.ctr .dram, .ctr .dramq, .ctr .gfx, .ctr .pot, .ctr .rsched, .dram, .err .dram, .err .pot, .fld (HDR.ev_raw .dram),
      .fld (HDR.ev_raw .gfx), .fld (HDR.ev_raw .pot), .fld GFX.CTX_FAULT.cause, .fld GFX.CTX_FAULT.code, .fld GFX.CTX_FAULT_ADDR.addr,
      .fld GFX.CTX_STAT.state, .fld GFX.ENG_STAT.clusters0, .fld GFX.ENG_STAT.clusters1, .fld GFX.ENG_STAT.comp_active, .fld GFX.ENG_STAT.fe0,
      .fld GFX.ENG_STAT.fe1, .fld RSCHED.PIN_COUNT.pinned, .free, .gfx, .mem, .pot, .rings, .sent]
  | .compositorPreempt _ _ _ => [.ctr .dram, .ctr .dramq, .ctr .gfx, .ctr .pot, .ctr .rsched, .dram, .err .dram, .err .pot, .evSeq, .events,
      .fld (HDR.ev_raw .dram), .fld (HDR.ev_raw .gfx), .fld (HDR.ev_raw .pot), .fld GFX.CTX_FAULT.cause, .fld GFX.CTX_FAULT.code,
      .fld GFX.CTX_FAULT_ADDR.addr, .fld GFX.CTX_STAT.fe, .fld GFX.CTX_STAT.state, .fld GFX.ENG_STAT.clusters0, .fld GFX.ENG_STAT.clusters1,
      .fld GFX.ENG_STAT.comp_active, .fld GFX.ENG_STAT.fe0, .fld GFX.ENG_STAT.fe1, .fld GFX.PREEMPT_LAST.us, .fld RSCHED.PIN_COUNT.pinned, .free,
      .gfx, .mem, .pot, .rings, .sent]
  | .preemptKillExpiry _ _ => [.ctr .dram, .ctr .dramq, .ctr .gfx, .ctr .pot, .dram, .err .dram, .err .pot, .fld (HDR.ev_raw .dram),
      .fld (HDR.ev_raw .gfx), .fld (HDR.ev_raw .pot), .fld GFX.CTX_FAULT.cause, .fld GFX.CTX_FAULT.code, .fld GFX.CTX_FAULT_ADDR.addr,
      .fld GFX.CTX_STAT.state, .fld GFX.ENG_STAT.clusters0, .fld GFX.ENG_STAT.clusters1, .fld GFX.ENG_STAT.comp_active, .fld GFX.ENG_STAT.fe0,
      .fld GFX.ENG_STAT.fe1, .fld RSCHED.PIN_COUNT.pinned, .free, .gfx, .mem, .pot, .rings, .sent]
  | .jobLimitExpiry _ => [.ctr .dram, .ctr .dramq, .ctr .gfx, .ctr .pot, .dram, .err .dram, .err .pot, .fld (HDR.ev_raw .dram),
      .fld (HDR.ev_raw .gfx), .fld (HDR.ev_raw .pot), .fld GFX.CTX_FAULT.cause, .fld GFX.CTX_FAULT.code, .fld GFX.CTX_FAULT_ADDR.addr,
      .fld GFX.CTX_STAT.state, .fld GFX.ENG_STAT.clusters0, .fld GFX.ENG_STAT.clusters1, .fld GFX.ENG_STAT.comp_active, .fld GFX.ENG_STAT.fe0,
      .fld GFX.ENG_STAT.fe1, .fld RSCHED.PIN_COUNT.pinned, .free, .gfx, .mem, .pot, .rings, .sent]
  | .gfxCtxFault _ _ _ _ => [.ctr .dram, .ctr .dramq, .ctr .gfx, .ctr .pot, .dram, .err .dram, .err .pot, .fld (HDR.ev_raw .dram),
      .fld (HDR.ev_raw .gfx), .fld (HDR.ev_raw .pot), .fld GFX.CTX_FAULT.cause, .fld GFX.CTX_FAULT.code, .fld GFX.CTX_FAULT_ADDR.addr,
      .fld GFX.CTX_STAT.state, .fld GFX.ENG_STAT.clusters0, .fld GFX.ENG_STAT.clusters1, .fld GFX.ENG_STAT.comp_active, .fld GFX.ENG_STAT.fe0,
      .fld GFX.ENG_STAT.fe1, .fld RSCHED.PIN_COUNT.pinned, .free, .gfx, .mem, .pot, .rings, .sent]
  | .commitPacket _ => [.comp, .ctr .comp, .ctr .dram, .ctr .dramq, .ctr .pot, .ctr .rsched, .err .dram, .err .pot, .evSeq, .events,
      .fld (HDR.ev_raw .dram), .fld (HDR.ev_raw .pot), .fld COMP.COEF_USE.banks, .fld COMP.ENG_STAT.busy0, .fld COMP.ENG_STAT.busy1,
      .fld COMP.ENG_STAT.late0, .fld COMP.ENG_STAT.late1, .fld COMP.ENG_STAT.pending0, .fld COMP.ENG_STAT.pending1, .fld COMP.LAYER_ADDR.addr,
      .fld COMP.LAYER_STAT.bank, .fld COMP.LAYER_STAT.enabled, .fld COMP.LAYER_STAT.format, .fld COMP.LAYER_STAT.substituted,
      .fld RSCHED.PIN_COUNT.pinned, .mem, .pot, .rings, .sent]
  | .composeFrameDone _ => [.basin, .comp, .ctr .basin, .ctr .comp, .ctr .dram, .ctr .dramq, .ctr .pot, .dram, .err .dram, .err .pot, .evSeq,
      .events, .fld (HDR.ev_raw .comp), .fld (HDR.ev_raw .dram), .fld (HDR.ev_raw .pot), .fld COMP.COEF_USE.banks, .fld COMP.ENG_STAT.busy0,
      .fld COMP.ENG_STAT.busy1, .fld COMP.ENG_STAT.late0, .fld COMP.ENG_STAT.late1, .fld COMP.ENG_STAT.pending0, .fld COMP.ENG_STAT.pending1,
      .fld COMP.LAYER_ADDR.addr, .fld COMP.LAYER_STAT.bank, .fld COMP.LAYER_STAT.enabled, .fld COMP.LAYER_STAT.format,
      .fld COMP.LAYER_STAT.substituted, .mem, .pot, .sent]
  | .layerFetchError _ _ _ _ => [.comp, .ctr .comp, .ctr .dram, .ctr .pot, .err .dram, .err .pot, .evSeq, .events, .fld (HDR.ev_raw .comp),
      .fld (HDR.ev_raw .dram), .fld (HDR.ev_raw .pot), .sent]
  | .layerSubstForce _ _ _ => [.comp, .ctr .pot, .err .comp, .err .pot, .fld (HDR.dirty .comp), .fld (HDR.ev_raw .comp), .fld (HDR.ev_raw .pot),
      .reg .comp 0x148, .resp, .sent, .world]
  | .coefDataWrite _ _ _ => [.ctr .comp, .ctr .pot, .err .comp, .err .pot, .fld (HDR.dirty .comp), .fld (HDR.ev_raw .comp), .fld (HDR.ev_raw .pot),
      .fld COMP.COEF_SEL.phase, .fld COMP.COEF_SEL.word, .reg .comp 0x134, .resp, .sent, .world]
  | .wbFrameDone _ => [.comp, .ctr .comp, .ctr .dram, .ctr .dramq, .ctr .pot, .ctr .rsched, .dram, .err .dram, .err .pot, .evSeq, .events,
      .fld (HDR.ev_raw .comp), .fld (HDR.ev_raw .dram), .fld (HDR.ev_raw .pot), .fld COMP.WB_SEQ.w, .mem, .pot, .rings, .sent]
  | .disabledHeadLatch _ => [.blk .comp, .comp, .ctr .comp, .ctr .dram, .ctr .dramq, .ctr .pot, .ctr .rsched, .dram, .err .dram, .err .pot, .evSeq,
      .events, .fld (HDR.commit_seq .comp), .fld (HDR.ev_raw .comp), .fld (HDR.ev_raw .dram), .fld (HDR.ev_raw .pot), .fld (HDR.pending .comp),
      .fld COMP.COEF_USE.banks, .fld COMP.ENG_STAT.busy0, .fld COMP.ENG_STAT.busy1, .fld COMP.ENG_STAT.late0, .fld COMP.ENG_STAT.late1,
      .fld COMP.ENG_STAT.pending0, .fld COMP.ENG_STAT.pending1, .fld COMP.LAYER_ADDR.addr, .fld COMP.LAYER_STAT.bank, .fld COMP.LAYER_STAT.enabled,
      .fld COMP.LAYER_STAT.format, .fld COMP.LAYER_STAT.substituted, .fld COMP.LAYER_SUBST.force, .fld COMP.WB_SEQ.w, .fld RSCHED.PIN_COUNT.pinned,
      .mem, .parts, .pot, .rings, .sent, .staged]
  | .basinGranWrite _ h _ => [.ctr .pot, .err .basin, .err .pot, .fld (HDR.dirty .basin), .fld (HDR.ev_raw .basin), .fld (HDR.ev_raw .pot),
      .fld SAFE.HEAD_SRC.blank, .fld SAFE.HEAD_SRC.fallback, .reg .basin (0x100 + 4 * h.val), .resp, .safe, .sent, .world]
  | .basinEccError _ _ _ => [.ctr .basin, .err .basin, .faults, .fld (HDR.ev_raw .basin), .heads, .sent]
  | .headEnable _ _ => [.blk .head, .ctr .basin, .ctr .glint, .ctr .head, .ctr .pot, .err .glint, .err .head, .err .pot, .fld (HDR.commit_seq .head),
      .fld (HDR.enable .head), .fld (HDR.ev_raw .basin), .fld (HDR.ev_raw .glint), .fld (HDR.ev_raw .head), .fld (HDR.ev_raw .pot),
      .fld (HDR.group .head), .fld (HDR.pending .head), .fld (HDR.soft_reset .head), .fld BASIN.GRP_STAT.applied, .fld BASIN.GRP_STAT.busy,
      .fld CLK.PLL_STAT.enabled, .fld CLK.PLL_STAT.lock, .fld CLK.PLL_STAT.mhz, .fld GLINT.POSE_STAT.posted_seq, .fld HEAD.GL_STAT.missing,
      .fld HEAD.GL_STAT.state, .fld HEAD.HEAD_STAT.pll_lock, .fld HEAD.HEAD_STAT.state, .heads, .parts, .resp, .safe, .sent, .staged, .world]
  | .headPllLock _ => [.fld CLK.PLL_STAT.enabled, .fld CLK.PLL_STAT.lock, .fld CLK.PLL_STAT.mhz, .fld HEAD.HEAD_STAT.pll_lock,
      .fld HEAD.HEAD_STAT.state]
  | .headPllRetry _ => [.ctr .clk, .err .clk, .faults, .fld (HDR.ev_raw .clk), .sent]
  | .headDisable _ _ => [.blk .head, .ctr .basin, .ctr .glint, .ctr .head, .ctr .pot, .err .glint, .err .head, .err .pot,
      .fld (HDR.commit_seq .head), .fld (HDR.enable .head), .fld (HDR.ev_raw .basin), .fld (HDR.ev_raw .glint), .fld (HDR.ev_raw .head),
      .fld (HDR.ev_raw .pot), .fld (HDR.group .head), .fld (HDR.pending .head), .fld (HDR.soft_reset .head), .fld BASIN.GRP_STAT.applied,
      .fld BASIN.GRP_STAT.busy, .fld CLK.PLL_STAT.enabled, .fld CLK.PLL_STAT.lock, .fld CLK.PLL_STAT.mhz, .fld GLINT.POSE_STAT.posted_seq,
      .fld HEAD.GL_STAT.missing, .fld HEAD.GL_STAT.state, .fld HEAD.HEAD_STAT.pll_lock, .fld HEAD.HEAD_STAT.state, .heads, .parts, .resp, .safe,
      .sent, .staged, .world]
  | .vblankStart _ _ => [.blk .comp, .blk .glint, .blk .head, .blk .lantern, .blk .mirror, .comp, .ctr .basin, .ctr .comp, .ctr .dram, .ctr .dramq,
      .ctr .glint, .ctr .head, .ctr .lantern, .ctr .link, .ctr .mirror, .ctr .pot, .ctr .rsched, .dram, .err .dram, .err .pot, .evSeq, .events,
      .faults, .fld (HDR.commit_seq .comp), .fld (HDR.commit_seq .glint), .fld (HDR.commit_seq .head), .fld (HDR.commit_seq .lantern),
      .fld (HDR.commit_seq .mirror), .fld (HDR.ev_raw .basin), .fld (HDR.ev_raw .comp), .fld (HDR.ev_raw .dram), .fld (HDR.ev_raw .glint),
      .fld (HDR.ev_raw .head), .fld (HDR.ev_raw .lantern), .fld (HDR.ev_raw .link), .fld (HDR.ev_raw .mirror), .fld (HDR.ev_raw .pot),
      .fld (HDR.group .comp), .fld (HDR.group .glint), .fld (HDR.group .head), .fld (HDR.pending .comp), .fld (HDR.pending .glint),
      .fld (HDR.pending .head), .fld (HDR.pending .lantern), .fld (HDR.pending .mirror), .fld (HDR.soft_reset .head), .fld BASIN.GRP_STAT.applied,
      .fld BASIN.GRP_STAT.busy, .fld CLK.PLL_STAT.enabled, .fld CLK.PLL_STAT.lock, .fld CLK.PLL_STAT.mhz, .fld COMP.COEF_USE.banks,
      .fld COMP.ENG_STAT.busy0, .fld COMP.ENG_STAT.busy1, .fld COMP.ENG_STAT.late0, .fld COMP.ENG_STAT.late1, .fld COMP.ENG_STAT.pending0,
      .fld COMP.ENG_STAT.pending1, .fld COMP.LAYER_ADDR.addr, .fld COMP.LAYER_STAT.bank, .fld COMP.LAYER_STAT.enabled, .fld COMP.LAYER_STAT.format,
      .fld COMP.LAYER_STAT.substituted, .fld COMP.LAYER_SUBST.force, .fld COMP.WB_SEQ.w, .fld GLINT.FILL_LINES.lines, .fld HEAD.FLIP_CNT.count,
      .fld HEAD.FLIP_TIME.time, .fld HEAD.FRAME_CNT.count, .fld HEAD.GL_OFFSET_PPM.ppm, .fld HEAD.GL_STAT.missing, .fld HEAD.GL_STAT.state,
      .fld HEAD.HEAD_STAT.front, .fld HEAD.HEAD_STAT.line, .fld HEAD.HEAD_STAT.pll_lock, .fld HEAD.HEAD_STAT.state, .fld HEAD.HEAD_STAT.vblank,
      .fld HEAD.VBL_TIME.time, .fld LANTERN.OVL.windows, .fld LANTERN.VIS.regions, .fld LINK.LINK_STAT.lost_cause, .fld LINK.LINK_STAT.state,
      .fld MIRROR.CHK_STAT.agree, .fld MIRROR.CHK_STAT.crc_ok, .fld MIRROR.CHK_STAT.timing_ok, .fld MIRROR.CRC_ACT.crc, .fld MIRROR.WIN_STAT.age_ms,
      .fld MIRROR.WIN_STAT.port, .fld MIRROR.WIN_STAT.seq, .fld MIRROR.WIN_STAT.verdict, .fld MIRROR.WIN_TAP.pre, .fld RSCHED.PIN_COUNT.pinned,
      .fld SAFE.HB_STAT.good, .heads, .links, .mem, .parts, .pins, .pot, .rings, .safe, .sent, .staged]
  | .grpArm _ _ => [.blk .glint, .blk .head, .ctr .basin, .ctr .head, .ctr .pot, .err .basin, .err .comp, .err .glint, .err .head, .err .link,
      .err .pot, .fld (HDR.commit_seq .glint), .fld (HDR.commit_seq .head), .fld (HDR.ev_raw .basin), .fld (HDR.ev_raw .comp),
      .fld (HDR.ev_raw .glint), .fld (HDR.ev_raw .head), .fld (HDR.ev_raw .link), .fld (HDR.ev_raw .pot), .fld (HDR.group .glint),
      .fld (HDR.group .head), .fld (HDR.pending .glint), .fld (HDR.pending .head), .fld BASIN.GRP_STAT.aborted, .fld BASIN.GRP_STAT.applied,
      .fld BASIN.GRP_STAT.busy, .fld BASIN.GRP_STAT.members, .fld BASIN.GRP_STAT.seq, .fld HEAD.GL_STAT.missing, .fld HEAD.GL_STAT.state, .hdr,
      .heads, .parts, .resp, .sent, .staged, .world]
  | .genlockPulse _ _ => [.ctr .head, .fld (HDR.ev_raw .head), .fld HEAD.GL_PERIOD_NS.ns, .fld HEAD.GL_STAT.missing, .fld HEAD.GL_STAT.state, .heads,
      .sent]
  | .genlockWindowClose _ => [.ctr .head, .evSeq, .events, .fld (HDR.ev_raw .head), .fld HEAD.GL_OFFSET_PPM.ppm, .fld HEAD.GL_PHASE.ns,
      .fld HEAD.GL_STAT.missing, .fld HEAD.GL_STAT.state, .free, .heads, .sent]
  | .posePost _ _ => [.ctr .glint, .ctr .pot, .err .glint, .err .pot, .fld (HDR.ev_raw .glint), .fld (HDR.ev_raw .pot), .fld GLINT.POSE_CTRL.post,
      .heads, .resp, .sent, .world]
  | .poseCheckDone _ => [.ctr .glint, .err .glint, .fld (HDR.ev_raw .glint), .fld GLINT.POSE_CTRL.post, .fld GLINT.POSE_STAT.posted_seq, .heads, .sent]
  | .poseLatch _ _ => [.ctr .glint, .fld (HDR.ev_raw .glint), .fld GLINT.LATCH_LINE.line, .fld GLINT.LATCH_TIME.time,
      .fld GLINT.POSE_STAT.latched_seq, .heads, .sent]
  | .headSrcWrite _ _ => [.ctr .pot, .ctr .safe, .err .pot, .err .safe, .fld (HDR.dirty .safe), .fld (HDR.ev_raw .pot), .fld (HDR.ev_raw .safe),
      .fld LINK.LINK_STAT.lanes_active, .fld LINK.LINK_STAT.rate_active, .fld LINK.LINK_STAT.state, .links, .pins, .reg .safe 0x10c, .resp, .sent,
      .world]
  | .frameStart _ => [.blk .lantern, .blk .mirror, .ctr .lantern, .ctr .safe, .evSeq, .events, .fld (HDR.commit_seq .lantern),
      .fld (HDR.commit_seq .mirror), .fld (HDR.ev_raw .lantern), .fld (HDR.ev_raw .mirror), .fld (HDR.ev_raw .safe), .fld (HDR.pending .lantern),
      .fld (HDR.pending .mirror), .fld HEAD.HEAD_STAT.line, .fld HEAD.HEAD_STAT.vblank, .fld LANTERN.OVL.windows, .fld LANTERN.VIS.regions,
      .fld LINK.LINK_STAT.lanes_active, .fld LINK.LINK_STAT.rate_active, .fld LINK.LINK_STAT.state, .fld SAFE.HB_STAT.entries,
      .fld SAFE.HB_STAT.good, .fld SAFE.HB_STAT.needed, .fld SAFE.HB_STAT.source, .fld SAFE.HEAD_SRC.bl_off, .fld SAFE.HEAD_SRC.blank,
      .fld SAFE.HEAD_SRC.dispen_off, .fld SAFE.HEAD_SRC.fallback, .fld SAFE.LOG_LOST.count, .fld SAFE.LOG_NEWEST.seq, .fld SAFE.LOG_UNREAD.count,
      .heads, .links, .parts, .pins, .safe, .sent, .staged]
  | .mirrorStreamStop _ => [.ctr .mirror, .faults, .fld (HDR.ev_raw .mirror), .fld MIRROR.CHK_STAT.timing_ok, .safe, .sent]
  | .lsramDataAccess _ _ _ => [.ctr .lantern, .ctr .pot, .err .lantern, .err .pot, .faults, .fld (HDR.ev_raw .lantern), .fld (HDR.ev_raw .pot),
      .fld LANTERN.LSRAM_ADDR.addr, .resp, .safe, .sent, .world]
  | .safeSramUe => [.ctr .lantern, .faults, .fld (HDR.ev_raw .lantern), .sent]
  | .slTransaction _ => [.ctr .hapt, .ctr .pwr, .ctr .safe, .err .dram, .faults, .fld (HDR.ev_raw .dram), .fld (HDR.ev_raw .pwr),
      .fld (HDR.ev_raw .safe), .fld (HDR.ev_raw .surf), .fld (HDR.ev_raw .touch), .fld DRAM.SPARE_STAT.cause, .fld DRAM.SPARE_STAT.deferred,
      .fld DRAM.SPARE_STAT.done_64k, .fld DRAM.SPARE_STAT.rank, .fld DRAM.SPARE_STAT.state, .fld HAPT.BOOST_STAT.on,
      .fld LINK.LINK_STAT.lanes_active, .fld LINK.LINK_STAT.rate_active, .fld LINK.LINK_STAT.state, .fld PWR.EXIT_STAT.failed_step,
      .fld PWR.EXIT_STAT.from_state, .fld PWR.EXIT_STAT.osc_attempts, .fld PWR.RAIL_STAT.cmd_seq, .fld PWR.RAIL_STAT.slewing,
      .fld PWR.RAIL_STAT.target_mv, .fld PWR.STATE.state, .fld PWR.STATE.step, .fld PWR.STATE.target, .fld PWR.WAKE_CAUSE.aborted,
      .fld PWR.WAKE_CAUSE.first, .fld PWR.WAKE_CAUSE.source, .fld SAFE.HEAD_SRC.bl_off, .fld SAFE.HEAD_SRC.blank, .fld SAFE.HEAD_SRC.fallback,
      .fld SAFE.ISL_STAT.fw_running, .fld SAFE.ISL_STAT.link, .fld SAFE.SL_STAT.rx_seq, .fld SAFE.SL_STAT.tx_seq, .fld SURF.HV_STAT.on,
      .fld SURF.HV_STAT.why, .fld TOUCH.TILE_STAT.state, .fld TOUCH.WAKE_STAT.gesture, .fld TOUCH.WAKE_STAT.woke, .hapt, .links, .mem, .pins, .pwr,
      .safe, .sent, .surf, .touch, .world]
  | .slState _ _ _ _ => [.ctr .hapt, .ctr .pwr, .ctr .safe, .err .dram, .faults, .fld (HDR.ev_raw .dram), .fld (HDR.ev_raw .pwr),
      .fld (HDR.ev_raw .safe), .fld (HDR.ev_raw .surf), .fld (HDR.ev_raw .touch), .fld DRAM.SPARE_STAT.cause, .fld DRAM.SPARE_STAT.deferred,
      .fld DRAM.SPARE_STAT.done_64k, .fld DRAM.SPARE_STAT.rank, .fld DRAM.SPARE_STAT.state, .fld HAPT.BOOST_STAT.on,
      .fld LINK.LINK_STAT.lanes_active, .fld LINK.LINK_STAT.rate_active, .fld LINK.LINK_STAT.state, .fld PWR.EXIT_STAT.failed_step,
      .fld PWR.EXIT_STAT.from_state, .fld PWR.EXIT_STAT.osc_attempts, .fld PWR.RAIL_STAT.cmd_seq, .fld PWR.RAIL_STAT.slewing,
      .fld PWR.RAIL_STAT.target_mv, .fld PWR.STATE.state, .fld PWR.STATE.step, .fld PWR.STATE.target, .fld PWR.WAKE_CAUSE.aborted,
      .fld PWR.WAKE_CAUSE.first, .fld PWR.WAKE_CAUSE.source, .fld SAFE.HEAD_SRC.bl_off, .fld SAFE.HEAD_SRC.blank, .fld SAFE.HEAD_SRC.fallback,
      .fld SAFE.ISL_STAT.fw_running, .fld SAFE.ISL_STAT.link, .fld SAFE.SL_STAT.rx_seq, .fld SAFE.SL_STAT.tx_seq, .fld SURF.HV_STAT.on,
      .fld SURF.HV_STAT.why, .fld TOUCH.TILE_STAT.state, .fld TOUCH.WAKE_STAT.gesture, .fld TOUCH.WAKE_STAT.woke, .hapt, .links, .mem, .pins, .pwr,
      .safe, .sent, .surf, .touch, .world]
  | .slClear _ => [.ctr .hapt, .ctr .pwr, .ctr .safe, .err .dram, .faults, .fld (HDR.ev_raw .dram), .fld (HDR.ev_raw .pwr), .fld (HDR.ev_raw .safe),
      .fld (HDR.ev_raw .surf), .fld (HDR.ev_raw .touch), .fld DRAM.SPARE_STAT.cause, .fld DRAM.SPARE_STAT.deferred, .fld DRAM.SPARE_STAT.done_64k,
      .fld DRAM.SPARE_STAT.rank, .fld DRAM.SPARE_STAT.state, .fld HAPT.BOOST_STAT.on, .fld LINK.LINK_STAT.lanes_active,
      .fld LINK.LINK_STAT.rate_active, .fld LINK.LINK_STAT.state, .fld PWR.EXIT_STAT.failed_step, .fld PWR.EXIT_STAT.from_state,
      .fld PWR.EXIT_STAT.osc_attempts, .fld PWR.RAIL_STAT.cmd_seq, .fld PWR.RAIL_STAT.slewing, .fld PWR.RAIL_STAT.target_mv, .fld PWR.STATE.state,
      .fld PWR.STATE.step, .fld PWR.STATE.target, .fld PWR.WAKE_CAUSE.aborted, .fld PWR.WAKE_CAUSE.first, .fld PWR.WAKE_CAUSE.source,
      .fld SAFE.HEAD_SRC.bl_off, .fld SAFE.HEAD_SRC.blank, .fld SAFE.HEAD_SRC.fallback, .fld SAFE.ISL_STAT.fw_running, .fld SAFE.ISL_STAT.link,
      .fld SAFE.SL_STAT.rx_seq, .fld SAFE.SL_STAT.tx_seq, .fld SURF.HV_STAT.on, .fld SURF.HV_STAT.why, .fld TOUCH.TILE_STAT.state,
      .fld TOUCH.WAKE_STAT.gesture, .fld TOUCH.WAKE_STAT.woke, .hapt, .links, .mem, .pins, .pwr, .safe, .sent, .surf, .touch, .world]
  | .slLogReq _ _ => [.ctr .hapt, .ctr .pwr, .ctr .safe, .err .dram, .faults, .fld (HDR.ev_raw .dram), .fld (HDR.ev_raw .pwr),
      .fld (HDR.ev_raw .safe), .fld (HDR.ev_raw .surf), .fld (HDR.ev_raw .touch), .fld DRAM.SPARE_STAT.cause, .fld DRAM.SPARE_STAT.deferred,
      .fld DRAM.SPARE_STAT.done_64k, .fld DRAM.SPARE_STAT.rank, .fld DRAM.SPARE_STAT.state, .fld HAPT.BOOST_STAT.on,
      .fld LINK.LINK_STAT.lanes_active, .fld LINK.LINK_STAT.rate_active, .fld LINK.LINK_STAT.state, .fld PWR.EXIT_STAT.failed_step,
      .fld PWR.EXIT_STAT.from_state, .fld PWR.EXIT_STAT.osc_attempts, .fld PWR.RAIL_STAT.cmd_seq, .fld PWR.RAIL_STAT.slewing,
      .fld PWR.RAIL_STAT.target_mv, .fld PWR.STATE.state, .fld PWR.STATE.step, .fld PWR.STATE.target, .fld PWR.WAKE_CAUSE.aborted,
      .fld PWR.WAKE_CAUSE.first, .fld PWR.WAKE_CAUSE.source, .fld SAFE.HEAD_SRC.bl_off, .fld SAFE.HEAD_SRC.blank, .fld SAFE.HEAD_SRC.fallback,
      .fld SAFE.ISL_STAT.fw_running, .fld SAFE.ISL_STAT.link, .fld SAFE.SL_STAT.rx_seq, .fld SAFE.SL_STAT.tx_seq, .fld SURF.HV_STAT.on,
      .fld SURF.HV_STAT.why, .fld TOUCH.TILE_STAT.state, .fld TOUCH.WAKE_STAT.gesture, .fld TOUCH.WAKE_STAT.woke, .hapt, .links, .mem, .pins, .pwr,
      .safe, .sent, .surf, .touch, .world]
  | .slWake _ => [.ctr .hapt, .ctr .pwr, .ctr .safe, .err .dram, .faults, .fld (HDR.ev_raw .dram), .fld (HDR.ev_raw .pwr), .fld (HDR.ev_raw .safe),
      .fld (HDR.ev_raw .surf), .fld (HDR.ev_raw .touch), .fld DRAM.SPARE_STAT.cause, .fld DRAM.SPARE_STAT.deferred, .fld DRAM.SPARE_STAT.done_64k,
      .fld DRAM.SPARE_STAT.rank, .fld DRAM.SPARE_STAT.state, .fld HAPT.BOOST_STAT.on, .fld LINK.LINK_STAT.lanes_active,
      .fld LINK.LINK_STAT.rate_active, .fld LINK.LINK_STAT.state, .fld PWR.EXIT_STAT.failed_step, .fld PWR.EXIT_STAT.from_state,
      .fld PWR.EXIT_STAT.osc_attempts, .fld PWR.RAIL_STAT.cmd_seq, .fld PWR.RAIL_STAT.slewing, .fld PWR.RAIL_STAT.target_mv, .fld PWR.STATE.state,
      .fld PWR.STATE.step, .fld PWR.STATE.target, .fld PWR.WAKE_CAUSE.aborted, .fld PWR.WAKE_CAUSE.first, .fld PWR.WAKE_CAUSE.source,
      .fld SAFE.HEAD_SRC.bl_off, .fld SAFE.HEAD_SRC.blank, .fld SAFE.HEAD_SRC.fallback, .fld SAFE.ISL_STAT.fw_running, .fld SAFE.ISL_STAT.link,
      .fld SAFE.SL_STAT.rx_seq, .fld SAFE.SL_STAT.tx_seq, .fld SURF.HV_STAT.on, .fld SURF.HV_STAT.why, .fld TOUCH.TILE_STAT.state,
      .fld TOUCH.WAKE_STAT.gesture, .fld TOUCH.WAKE_STAT.woke, .hapt, .links, .mem, .pins, .pwr, .safe, .sent, .surf, .touch, .world]
  | .slTimeout => [.ctr .safe, .faults, .fld (HDR.ev_raw .safe), .fld SAFE.ISL_STAT.link, .safe, .sent]
  | .swdKick _ _ => [.ctr .pot, .ctr .safe, .err .pot, .err .safe, .fld (HDR.ev_raw .pot), .fld (HDR.ev_raw .safe), .resp, .safe, .sent, .world]
  | .safetyWdtExpiry => [.alarm, .allCtr, .allRegs, .faults, .flash, .free, .hapt, .latch, .parts, .pins, .pwr, .safe, .sent, .snap, .stage, .staged,
      .surf]
  | .lockstepMismatch => [.alarm, .allCtr, .allRegs, .faults, .flash, .free, .hapt, .latch, .parts, .pins, .pwr, .safe, .sent, .snap, .stage,
      .staged, .surf]
  | .logDataRead _ => [.ctr .pot, .err .pot, .err .safe, .fld (HDR.ev_raw .pot), .fld (HDR.ev_raw .safe), .fld SAFE.LOG_UNREAD.count, .resp, .safe,
      .sent]
  | .linkEnable _ _ _ => [.ctr .link, .ctr .pot, .err .link, .err .pot, .fld (HDR.dirty .link), .fld (HDR.ev_raw .link), .fld (HDR.ev_raw .pot),
      .fld LINK.LINK_STAT.retries_left, .fld LINK.LINK_STAT.state, .links, .pins, .reg .link 0x100, .resp, .sent, .world]
  | .linkDisable _ _ _ => [.ctr .link, .ctr .pot, .err .link, .err .pot, .fld (HDR.dirty .link), .fld (HDR.ev_raw .link), .fld (HDR.ev_raw .pot),
      .fld LINK.LINK_STAT.retries_left, .fld LINK.LINK_STAT.state, .links, .pins, .reg .link 0x100, .resp, .sent, .world]
  | .linkPowerUp _ => [.fld LINK.LINK_STAT.state, .links, .pins]
  | .linkTrain _ => [.ctr .link, .fld LINK.LINK_STAT.state, .links, .pins]
  | .linkTrainEnd _ _ _ _ => [.ctr .link, .evSeq, .events, .fld (HDR.ev_raw .link), .fld LINK.LINK_STAT.lanes_active,
      .fld LINK.LINK_STAT.rate_active, .fld LINK.LINK_STAT.state, .links, .pins, .sent]
  | .linkRetry _ => [.ctr .link, .fld LINK.LINK_STAT.retries_left, .fld LINK.LINK_STAT.state, .links, .pins]
  | .linkHpdTimeout _ => [.ctr .link, .evSeq, .events, .fld (HDR.ev_raw .link), .fld LINK.LINK_STAT.state, .links, .pins, .sent]
  | .linkPoweroffTimer _ => [.fld LINK.LINK_STAT.lanes_active, .fld LINK.LINK_STAT.rate_active, .fld LINK.LINK_STAT.state, .links, .pins]
  | .linkLoadFault _ _ => [.ctr .link, .evSeq, .events, .faults, .fld (HDR.ev_raw .link), .fld LINK.LINK_STAT.lost_cause, .fld LINK.LINK_STAT.state,
      .links, .pins, .sent]
  | .hpdIrq _ _ => [.ctr .link, .evSeq, .events, .faults, .fld (HDR.ev_raw .link), .fld LINK.LINK_STAT.lost_cause, .fld LINK.LINK_STAT.state, .links,
      .pins, .sent]
  | .hpdUnplug _ => [.ctr .link, .evSeq, .events, .faults, .fld (HDR.ev_raw .link), .fld LINK.LINK_STAT.hpd, .fld LINK.LINK_STAT.lost_cause,
      .fld LINK.LINK_STAT.state, .links, .pins, .sent]
  | .hpdPlug _ => [.ctr .link, .evSeq, .events, .fld (HDR.ev_raw .link), .fld LINK.LINK_STAT.hpd, .fld LINK.LINK_STAT.state, .links, .pins, .sent]
  | .auxGo _ _ _ => [.ctr .pot, .err .link, .err .pot, .fld (HDR.dirty .link), .fld (HDR.ev_raw .link), .fld (HDR.ev_raw .pot),
      .fld LINK.AUX_CTRL.go, .links, .reg .link 0x120, .resp, .sent, .world]
  | .auxDone _ _ _ _ => [.ctr .link, .fld (HDR.ev_raw .link), .fld LINK.AUX_CTRL.go, .fld LINK.AUX_DATA.data, .fld LINK.AUX_STAT.count,
      .fld LINK.AUX_STAT.reply, .sent]
  | .dsiCmdGo _ _ _ => [.ctr .pot, .err .link, .err .pot, .fld (HDR.dirty .link), .fld (HDR.ev_raw .link), .fld (HDR.ev_raw .pot),
      .fld LINK.DSI_CMD_CTRL.go, .reg .link 0x140, .resp, .sent, .world]
  | .dsiSent _ => [.fld (HDR.ev_raw .link), .fld LINK.DSI_CMD_CTRL.go, .links, .sent]
  | .csiFrameStart _ => [.caps, .ctr .cap, .ctr .dram, .ctr .dramq, .ctr .pot, .ctr .rsched, .dram, .err .dram, .err .pot, .evSeq, .events,
      .fld (HDR.ev_raw .cap), .fld (HDR.ev_raw .dram), .fld (HDR.ev_raw .pot), .fld CAP.LAST_FS_TIME.time, .fld CAP.LAST_TAG_TIME.time,
      .fld CAP.LINES_LAST.lines, .fld CAP.RX_STAT.in_frame, .fld CAP.TAG_SEQ.seq, .fld RSCHED.PIN_COUNT.pinned, .mem, .pot, .rings, .sent]
  | .csiLongPacket _ _ _ _ _ _ _ => [.caps, .ctr .cap, .ctr .dram, .ctr .dramq, .ctr .pot, .dram, .err .cap, .err .dram, .err .pot,
      .fld (HDR.ev_raw .cap), .fld (HDR.ev_raw .dram), .fld (HDR.ev_raw .pot), .fld CAP.RX_STAT.last_dt, .mem, .pot, .sent]
  | .csiFrameEnd _ => [.caps, .ctr .cap, .ctr .dram, .ctr .dramq, .ctr .pot, .dram, .err .dram, .err .pot, .evSeq, .events, .fld (HDR.ev_raw .cap),
      .fld (HDR.ev_raw .dram), .fld (HDR.ev_raw .pot), .fld CAP.FRAME_CNT.count, .fld CAP.LINES_LAST.lines, .fld CAP.RX_STAT.in_frame,
      .fld RSCHED.PIN_COUNT.pinned, .mem, .pot, .rings, .sent]
  | .capFrameWritten _ => [.caps, .ctr .cap, .ctr .dram, .ctr .dramq, .ctr .pot, .ctr .rsched, .dram, .err .dram, .err .pot, .evSeq, .events,
      .fld (HDR.ev_raw .cap), .fld (HDR.ev_raw .dram), .fld (HDR.ev_raw .pot), .fld CAP.LAST_TAG_TIME.time, .fld CAP.TAG_SEQ.seq,
      .fld RSCHED.PIN_COUNT.pinned, .mem, .pot, .rings, .sent]
  | .capWriteError _ _ _ => [.caps, .ctr .dram, .ctr .pot, .err .dram, .err .pot, .fld (HDR.ev_raw .dram), .fld (HDR.ev_raw .pot),
      .fld RSCHED.PIN_COUNT.pinned, .rings, .sent]
  | .capLost _ => [.caps, .evSeq, .events, .fld (HDR.ev_raw .cap), .sent]
  | .trigFire _ _ => [.caps, .ctr .cap, .ctr .pot, .err .cap, .err .pot, .fld (HDR.ev_raw .cap), .fld (HDR.ev_raw .pot), .resp, .sent, .world]
  | .trigPulseDue _ => [.caps, .ctr .cap]
  | .surfaceStart _ _ _ _ _ => [.ctr .touch, .evSeq, .events, .fld (HDR.ev_raw .touch), .fld TOUCH.ADJ.channels, .fld TOUCH.GND.channels,
      .fld TOUCH.KEY_STAT.pressed, .fld TOUCH.OPEN.channels, .fld TOUCH.SCAN_STAT.hop, .fld TOUCH.SCAN_STAT.noisy, .fld TOUCH.SCAN_STAT.suspect_cnt,
      .fld TOUCH.TILE_STAT.hop, .fld TOUCH.TILE_STAT.state, .sent, .surf, .touch]
  | .scanStart _ => [.ctr .touch, .fld TOUCH.SCAN_STAT.hop, .fld TOUCH.TILE_STAT.hop, .touch]
  | .scanEnd _ _ => [.ctr .touch, .evSeq, .events, .fld (HDR.ev_raw .touch), .fld TOUCH.ADJ.channels, .fld TOUCH.GND.channels,
      .fld TOUCH.KEY_STAT.pressed, .fld TOUCH.OPEN.channels, .fld TOUCH.SCAN_STAT.noisy, .fld TOUCH.SCAN_STAT.suspect_cnt,
      .fld TOUCH.TILE_STAT.state, .free, .sent, .touch]
  | .reportWrite _ => [.ctr .dram, .ctr .dramq, .ctr .pot, .ctr .touch, .dram, .err .dram, .err .pot, .err .touch, .fld (HDR.ev_raw .dram),
      .fld (HDR.ev_raw .pot), .fld (HDR.ev_raw .touch), .fld TOUCH.RPT_PROD.prod, .mem, .pot, .sent, .touch]
  | .surfRebase _ _ _ => [.ctr .pot, .err .pot, .err .touch, .fld (HDR.dirty .touch), .fld (HDR.ev_raw .pot), .fld (HDR.ev_raw .touch),
      .fld TOUCH.TILE_STAT.state, .reg .touch 0x200, .resp, .sent, .touch, .world]
  | .surfSelftest _ _ _ => [.ctr .pot, .err .pot, .err .touch, .fld (HDR.dirty .touch), .fld (HDR.ev_raw .pot), .fld (HDR.ev_raw .touch),
      .fld TOUCH.TILE_STAT.state, .reg .touch 0x200, .resp, .sent, .touch, .world]
  | .rptEnable _ _ => [.ctr .pot, .err .pot, .err .touch, .fld (HDR.dirty .touch), .fld (HDR.ev_raw .pot), .fld (HDR.ev_raw .touch),
      .fld TOUCH.RPT_CONS.cons, .fld TOUCH.RPT_PROD.prod, .reg .touch 0x2d0, .resp, .sent, .touch, .world]
  | .rptConsWrite _ _ _ => [.ctr .dram, .ctr .dramq, .ctr .pot, .ctr .touch, .dram, .err .dram, .err .pot, .err .touch, .fld (HDR.dirty .touch),
      .fld (HDR.ev_raw .dram), .fld (HDR.ev_raw .pot), .fld (HDR.ev_raw .touch), .fld TOUCH.RPT_PROD.prod, .mem, .pot, .reg .touch 0x2e4, .resp,
      .sent, .touch, .world]
  | .wakeScan _ _ => [.ctr .hapt, .ctr .pwr, .ctr .safe, .err .dram, .fld (HDR.ev_raw .dram), .fld (HDR.ev_raw .pwr), .fld (HDR.ev_raw .surf),
      .fld (HDR.ev_raw .touch), .fld DRAM.SPARE_STAT.cause, .fld DRAM.SPARE_STAT.deferred, .fld DRAM.SPARE_STAT.done_64k, .fld DRAM.SPARE_STAT.rank,
      .fld DRAM.SPARE_STAT.state, .fld HAPT.BOOST_STAT.on, .fld LINK.LINK_STAT.lanes_active, .fld LINK.LINK_STAT.rate_active,
      .fld LINK.LINK_STAT.state, .fld PWR.EXIT_STAT.failed_step, .fld PWR.EXIT_STAT.from_state, .fld PWR.EXIT_STAT.osc_attempts,
      .fld PWR.RAIL_STAT.cmd_seq, .fld PWR.RAIL_STAT.slewing, .fld PWR.RAIL_STAT.target_mv, .fld PWR.STATE.state, .fld PWR.STATE.step,
      .fld PWR.STATE.target, .fld PWR.WAKE_CAUSE.aborted, .fld PWR.WAKE_CAUSE.first, .fld PWR.WAKE_CAUSE.source, .fld SAFE.HEAD_SRC.bl_off,
      .fld SAFE.HEAD_SRC.blank, .fld SAFE.HEAD_SRC.fallback, .fld SAFE.ISL_STAT.fw_running, .fld SURF.HV_STAT.on, .fld SURF.HV_STAT.why,
      .fld TOUCH.TILE_STAT.state, .fld TOUCH.WAKE_STAT.gesture, .fld TOUCH.WAKE_STAT.woke, .hapt, .links, .mem, .pins, .pwr, .safe, .sent, .surf,
      .touch, .world]
  | .portPowerOn _ _ => [.ctr .hapt, .ctr .pot, .err .pot, .err .surf, .fld (HDR.dirty .surf), .fld (HDR.ev_raw .pot), .fld (HDR.ev_raw .surf),
      .fld HAPT.BOOST_STAT.on, .fld SURF.CH_CAL.drift, .fld SURF.CH_CAL.source, .fld SURF.CH_CAL.status, .fld SURF.CH_RES.f_res, .fld SURF.CH_RES.q,
      .fld SURF.CH_RES2.cap_nf, .fld SURF.CH_RES2.f_ring, .fld SURF.CH_STAT.oc, .fld SURF.CH_STAT.service_due, .fld SURF.CH_STAT.wear_warn,
      .fld SURF.CH_WEAR.count, .fld SURF.HV_STAT.on, .fld SURF.HV_STAT.why, .fld SURF.ID_INFO.trk, .fld SURF.ID_INFO.wake_ok,
      .fld SURF.ID_SERIAL.serial, .fld SURF.SURF_STAT.auth, .fld SURF.SURF_STAT.state, .fld SURF.SURF_STAT.wear_unknown,
      .fld SURF.SURF_STAT.wear_write_fail, .fld SURF.WEAR_SEQ.seq, .fld TOUCH.TILE_STAT.state, .hapt, .reg .surf 0x100, .resp, .sent, .surf, .touch,
      .world]
  | .portPowerOff _ _ => [.ctr .hapt, .ctr .pot, .err .pot, .err .surf, .fld (HDR.dirty .surf), .fld (HDR.ev_raw .pot), .fld (HDR.ev_raw .surf),
      .fld HAPT.BOOST_STAT.on, .fld SURF.CH_CAL.drift, .fld SURF.CH_CAL.source, .fld SURF.CH_CAL.status, .fld SURF.CH_RES.f_res, .fld SURF.CH_RES.q,
      .fld SURF.CH_RES2.cap_nf, .fld SURF.CH_RES2.f_ring, .fld SURF.CH_STAT.oc, .fld SURF.CH_STAT.service_due, .fld SURF.CH_STAT.wear_warn,
      .fld SURF.CH_WEAR.count, .fld SURF.HV_STAT.on, .fld SURF.HV_STAT.why, .fld SURF.ID_INFO.trk, .fld SURF.ID_INFO.wake_ok,
      .fld SURF.ID_SERIAL.serial, .fld SURF.SURF_STAT.auth, .fld SURF.SURF_STAT.state, .fld SURF.SURF_STAT.wear_unknown,
      .fld SURF.SURF_STAT.wear_write_fail, .fld SURF.WEAR_SEQ.seq, .fld TOUCH.TILE_STAT.state, .hapt, .reg .surf 0x100, .resp, .sent, .surf, .touch,
      .world]
  | .surfDetach _ => [.ctr .hapt, .evSeq, .events, .fld (HDR.ev_raw .surf), .fld HAPT.BOOST_STAT.on, .fld SURF.HV_STAT.on, .fld SURF.HV_STAT.why,
      .fld SURF.SURF_STAT.present, .fld SURF.SURF_STAT.state, .fld TOUCH.KEY_STAT.pressed, .fld TOUCH.TILE_STAT.state, .hapt, .pins, .sent, .surf,
      .touch]
  | .surfInsert _ => [.evSeq, .events, .fld (HDR.ev_raw .surf), .fld SURF.SURF_STAT.present, .fld SURF.SURF_STAT.state, .pins, .sent]
  | .surfIdReadDone _ _ _ _ => [.evSeq, .events, .fld (HDR.ev_raw .surf), .fld SURF.CH_WEAR.count, .fld SURF.ID_INFO.trk, .fld SURF.ID_INFO.wake_ok,
      .fld SURF.ID_SERIAL.serial, .fld SURF.SURF_STAT.state, .fld SURF.SURF_STAT.wear_unknown, .fld SURF.WEAR_SEQ.seq, .free, .sent, .surf]
  | .authSignDone _ _ => [.ctr .hapt, .ctr .surf, .evSeq, .events, .fld (HDR.ev_raw .surf), .fld HAPT.BOOST_STAT.on, .fld SURF.CH_STAT.service_due,
      .fld SURF.CH_STAT.wear_warn, .fld SURF.HV_STAT.on, .fld SURF.HV_STAT.why, .fld SURF.SURF_STAT.auth, .fld SURF.SURF_STAT.state,
      .fld TOUCH.TILE_STAT.state, .hapt, .sent, .surf]
  | .wearBlock => [.evSeq, .events, .fld (HDR.ev_raw .surf), .fld SURF.CH_STAT.service_due, .fld SURF.CH_STAT.wear_warn, .fld SURF.CH_WEAR.count,
      .sent, .surf]
  | .wearRecordWrite _ _ => [.ctr .hapt, .ctr .surf, .evSeq, .events, .fld (HDR.ev_raw .surf), .fld HAPT.BOOST_STAT.on, .fld SURF.HV_STAT.on,
      .fld SURF.HV_STAT.why, .fld SURF.SURF_STAT.state, .fld SURF.SURF_STAT.wear_write_fail, .fld SURF.WEAR_SEQ.seq, .hapt, .sent, .surf]
  | .hvEnableWrite _ _ _ => [.ctr .hapt, .ctr .pot, .err .pot, .err .surf, .fld (HDR.dirty .surf), .fld (HDR.ev_raw .pot), .fld (HDR.ev_raw .surf),
      .fld HAPT.BOOST_STAT.on, .fld SURF.CH_STAT.oc, .fld SURF.HV_STAT.on, .fld SURF.HV_STAT.why, .hapt, .reg .surf 0x118, .resp, .sent, .surf, .world]
  | .hvClearOc _ _ _ => [.ctr .hapt, .ctr .pot, .err .pot, .err .surf, .fld (HDR.dirty .surf), .fld (HDR.ev_raw .pot), .fld (HDR.ev_raw .surf),
      .fld HAPT.BOOST_STAT.on, .fld SURF.CH_STAT.oc, .fld SURF.HV_STAT.on, .fld SURF.HV_STAT.why, .hapt, .reg .surf 0x118, .resp, .sent, .surf, .world]
  | .haptOvercurrent _ _ => [.ctr .hapt, .ctr .surf, .evSeq, .events, .faults, .fld (HDR.ev_raw .surf), .fld HAPT.BOOST_STAT.on,
      .fld SURF.CH_STAT.oc, .fld SURF.HV_STAT.on, .fld SURF.HV_STAT.why, .hapt, .sent, .surf]
  | .haptHvFault => [.ctr .hapt, .evSeq, .events, .faults, .fld (HDR.ev_raw .hapt), .fld (HDR.ev_raw .surf), .fld HAPT.BOOST_STAT.fault,
      .fld HAPT.BOOST_STAT.on, .fld SURF.HV_STAT.on, .fld SURF.HV_STAT.why, .hapt, .sent, .surf]
  | .boostClear _ _ => [.ctr .hapt, .ctr .pot, .err .hapt, .err .pot, .fld (HDR.dirty .hapt), .fld (HDR.ev_raw .hapt), .fld (HDR.ev_raw .pot),
      .fld (HDR.ev_raw .surf), .fld HAPT.BOOST_STAT.fault, .fld HAPT.BOOST_STAT.on, .fld SURF.HV_STAT.on, .fld SURF.HV_STAT.why, .hapt,
      .reg .hapt 0x100, .resp, .sent, .surf, .world]
  | .haptStreamEnable _ _ _ => [.ctr .pot, .err .pot, .err .surf, .fld (HDR.dirty .surf), .fld (HDR.ev_raw .pot), .fld (HDR.ev_raw .surf),
      .reg .surf 0x120, .resp, .sent, .world]
  | .haptTick => [.ctr .dram, .ctr .dramq, .ctr .pot, .ctr .rsched, .ctr .surf, .dram, .err .dram, .err .pot, .evSeq, .events,
      .fld (HDR.ev_raw .dram), .fld (HDR.ev_raw .pot), .fld (HDR.ev_raw .surf), .fld RSCHED.PIN_COUNT.pinned, .fld SURF.STREAM_STAT.fill,
      .fld SURF.STREAM_STAT.state, .hapt, .mem, .pot, .rings, .sent, .surf]
  | .resonanceCal _ => [.ctr .hapt, .ctr .surf, .fld (HDR.ev_raw .surf), .fld HAPT.BOOST_STAT.on, .fld SURF.CH_CAL.source, .fld SURF.CH_CAL.status,
      .fld SURF.HV_STAT.on, .fld SURF.HV_STAT.why, .hapt, .sent, .surf]
  | .haptCalStepDone _ _ => [.ctr .hapt, .ctr .surf, .evSeq, .events, .fld (HDR.ev_raw .surf), .fld HAPT.BOOST_STAT.on, .fld SURF.CH_CAL.drift,
      .fld SURF.CH_CAL.source, .fld SURF.CH_CAL.status, .fld SURF.CH_RES.f_res, .fld SURF.CH_RES.q, .fld SURF.CH_RES2.cap_nf,
      .fld SURF.CH_RES2.f_ring, .fld SURF.HV_STAT.on, .fld SURF.HV_STAT.why, .hapt, .sent, .surf]
  | .haptThrottleStep _ _ _ _ => [.ctr .hapt, .evSeq, .events, .fld (HDR.ev_raw .hapt), .fld HAPT.BOOST_STAT.vout, .fld HAPT.DIE_TEMP.temp,
      .fld HAPT.PWR_NOW.mw, .fld HAPT.THR_MASK.channels, .fld SURF.CH_STAT.throttle, .hapt, .sent]
  | .audioTick _ => [.alarm, .audio, .ctr .audio, .ctr .dram, .ctr .dramq, .ctr .pot, .ctr .rsched, .dram, .err .dram, .err .pot, .evSeq, .events,
      .fld (HDR.ev_raw .audio), .fld (HDR.ev_raw .dram), .fld (HDR.ev_raw .pot), .fld AUDIO.ENG_STAT.waiting, .fld AUDIO.PORT_STAT.amp_en,
      .fld AUDIO.SAFELOAD.pending, .fld AUDIO.STRM_STAT.fill_ms, .fld AUDIO.STRM_STAT.state, .fld RSCHED.PIN_COUNT.pinned, .free, .mem, .pins, .pot,
      .rings, .sent]
  | .gainTimeout _ => [.audio, .ctr .audio, .fld (HDR.ev_raw .audio), .fld AUDIO.ENG_STAT.waiting, .fld AUDIO.SAFELOAD.pending, .sent]
  | .safeloadGo _ => [.audio, .ctr .audio, .ctr .pot, .err .audio, .err .pot, .fld (HDR.ev_raw .audio), .fld (HDR.ev_raw .pot),
      .fld AUDIO.ENG_STAT.waiting, .fld AUDIO.SAFELOAD.pending, .resp, .sent, .world]
  | .psetDataAccess _ _ => [.audio, .ctr .pot, .err .audio, .err .pot, .fld (HDR.ev_raw .audio), .fld (HDR.ev_raw .pot), .fld AUDIO.PSET_INDEX.index,
      .resp, .sent, .world]
  | .audioStreamEnable _ _ => [.ctr .pot, .err .audio, .err .pot, .fld (HDR.dirty .audio), .fld (HDR.ev_raw .audio), .fld (HDR.ev_raw .pot),
      .reg .audio 0x124, .resp, .sent, .world]
  | .audMclkLost _ => [.audio, .ctr .audio, .evSeq, .events, .fld (HDR.ev_raw .audio), .fld AUDIO.PORT_STAT.clk_lost, .fld AUDIO.PORT_STAT.rate_hz,
      .sent]
  | .audMclkGlitch _ => [.ctr .audio, .err .audio, .fld (HDR.ev_raw .audio), .sent]
  | .clkLostClear _ t => [.ctr .pot, .err .audio, .err .pot, .fld (HDR.dirty .audio), .fld (HDR.ev_raw .audio), .fld (HDR.ev_raw .pot),
      .fld AUDIO.PORT_STAT.waiting, .reg .audio (0x188 + 32 * t.val), .resp, .sent, .world]
  | .mclkReturn _ => [.audio, .fld AUDIO.PORT_STAT.waiting]
  | .asrcRelock _ => [.ctr .audio, .fld (HDR.ev_raw .audio), .fld AUDIO.PORT_STAT.locked, .sent]
  | .asrcLock _ _ => [.fld AUDIO.PORT_STAT.locked, .fld AUDIO.PORT_STAT.rate_hz]
  | .silenceHoldExpiry _ => [.audio, .fld (HDR.ev_raw .audio), .fld AUDIO.PORT_STAT.amp_en, .pins, .sent]
  | .alarmRun _ _ _ => [.alarm, .ctr .pot, .err .pot, .err .safe, .fld (HDR.dirty .safe), .fld (HDR.ev_raw .audio), .fld (HDR.ev_raw .pot),
      .fld (HDR.ev_raw .safe), .fld AUDIO.PORT_STAT.amp_en, .fld SAFE.ALARM_CTRL.run, .pins, .reg .safe 0x200, .resp, .sent, .world]
  | .alarmPatternWrite _ _ => [.alarm, .ctr .pot, .err .pot, .err .safe, .fld (HDR.dirty .safe), .fld (HDR.ev_raw .audio), .fld (HDR.ev_raw .pot),
      .fld (HDR.ev_raw .safe), .fld AUDIO.PORT_STAT.amp_en, .fld SAFE.ALARM_CTRL.run, .pins, .reg .safe 0x200, .resp, .sent, .world]
  | .alarmEnd => [.alarm, .fld SAFE.ALARM_CTRL.run]
  | .alarmAmpRelease => [.alarm, .fld (HDR.ev_raw .audio), .fld AUDIO.PORT_STAT.amp_en, .pins, .sent]
  | .framerClockSwitch => [.audio, .fld AUDIO.ENG_STAT.backup, .fld AUDIO.ENG_STAT.running, .fld SAFE.ALARM_STAT.backup]
  | .encTransition _ _ _ => [.ctr .enc, .ctr .hapt, .ctr .pwr, .ctr .safe, .err .dram, .evSeq, .events, .fld (HDR.ev_raw .dram),
      .fld (HDR.ev_raw .enc), .fld (HDR.ev_raw .pwr), .fld (HDR.ev_raw .surf), .fld (HDR.ev_raw .touch), .fld DRAM.SPARE_STAT.cause,
      .fld DRAM.SPARE_STAT.deferred, .fld DRAM.SPARE_STAT.done_64k, .fld DRAM.SPARE_STAT.rank, .fld DRAM.SPARE_STAT.state, .fld ENC.ENC_POS.pos,
      .fld ENC.ENC_STAT.a, .fld ENC.ENC_STAT.b, .fld ENC.ENC_STAT.burst, .fld ENC.ENC_WAKE.encoders, .fld HAPT.BOOST_STAT.on,
      .fld LINK.LINK_STAT.lanes_active, .fld LINK.LINK_STAT.rate_active, .fld LINK.LINK_STAT.state, .fld PWR.EXIT_STAT.failed_step,
      .fld PWR.EXIT_STAT.from_state, .fld PWR.EXIT_STAT.osc_attempts, .fld PWR.RAIL_STAT.cmd_seq, .fld PWR.RAIL_STAT.slewing,
      .fld PWR.RAIL_STAT.target_mv, .fld PWR.STATE.state, .fld PWR.STATE.step, .fld PWR.STATE.target, .fld PWR.WAKE_CAUSE.aborted,
      .fld PWR.WAKE_CAUSE.first, .fld PWR.WAKE_CAUSE.source, .fld SAFE.HEAD_SRC.bl_off, .fld SAFE.HEAD_SRC.blank, .fld SAFE.HEAD_SRC.fallback,
      .fld SAFE.ISL_STAT.fw_running, .fld SURF.HV_STAT.on, .fld SURF.HV_STAT.why, .fld TOUCH.TILE_STAT.state, .fld TOUCH.WAKE_STAT.gesture,
      .fld TOUCH.WAKE_STAT.woke, .hapt, .links, .mem, .pins, .pwr, .safe, .sent, .surf, .touch, .world]
  | .encBurstEnd _ => [.fld ENC.ENC_STAT.burst]
  | .encSet _ _ _ => [.ctr .pot, .err .enc, .err .pot, .fld (HDR.ev_raw .enc), .fld (HDR.ev_raw .pot), .fld ENC.ENC_POS.pos, .resp, .sent]
  | .dinChange _ _ => [.ctl, .ctr .gpio, .fld (HDR.ev_raw .gpio), .fld GPIO.DIN_CFG.edge, .fld GPIO.DIN_CFG.state, .sent]
  | .gpioEdge _ _ => [.fld (HDR.ev_raw .gpio), .fld GPIO.GPIO_CFG.edge, .pins, .sent]
  | .gpioCfgWrite _ i _ => [.ctr .pot, .err .gpio, .err .pot, .fld (HDR.dirty .gpio), .fld (HDR.ev_raw .gpio), .fld (HDR.ev_raw .pot),
      .reg .gpio (0x300 + 4 * i.val), .resp, .sent]
  | .pinOwnerWrite _ _ _ => [.blk .enc, .blk .gpio, .ctl, .ctr .enc, .ctr .pot, .err .gpio, .err .pot, .fld (HDR.ev_raw .gpio),
      .fld (HDR.ev_raw .pot), .fld GPIO.PIN_OWNER.owner, .resp, .sent, .world]
  | .i2cGo _ c _ => [.ctl, .ctr .pot, .err .gpio, .err .pot, .fld (HDR.dirty .gpio), .fld (HDR.ev_raw .gpio), .fld (HDR.ev_raw .pot),
      .reg .gpio (0x500 + 32 * c.val), .resp, .sent]
  | .i2cDone _ _ _ _ => [.ctl, .ctr .gpio, .err .gpio, .fld (HDR.ev_raw .gpio), .fld GPIO.I2C_DATA0.data, .fld GPIO.I2C_DATA1.data,
      .fld GPIO.I2C_DATA2.data, .fld GPIO.I2C_DATA3.data, .fld GPIO.I2C_STAT.count, .fld GPIO.I2C_STAT.result, .sent]
  | .uartTxWrite _ _ _ => [.ctl, .ctr .gpio, .ctr .pot, .err .gpio, .err .pot, .fld (HDR.ev_raw .gpio), .fld (HDR.ev_raw .pot),
      .fld GPIO.UART_STAT.errors, .resp, .sent]
  | .uartRxByte _ _ _ _ => [.ctl, .ctr .gpio, .err .gpio, .fld (HDR.ev_raw .gpio), .fld GPIO.UART_STAT.errors, .sent]
  | .uartRxRead _ _ => [.ctl, .ctr .pot, .err .gpio, .err .pot, .fld (HDR.ev_raw .gpio), .fld (HDR.ev_raw .pot), .resp, .sent]
  | .ptmDialogue _ => [.ctr .time, .evSeq, .events, .fld (HDR.ev_raw .time), .fld TIME.EPOCH.epoch, .fld TIME.EPOCH_START.start,
      .fld TIME.LAST_ERR.ns, .fld TIME.OFS.ofs, .fld TIME.OFS_BASE.base, .fld TIME.PUB_SEQ.seq, .fld TIME.SLEW.ppm, .fld TIME.SLEW_END.end_,
      .fld TIME.TIME_STAT.lost, .fld TIME.TIME_STAT.slewing, .fld TIME.TIME_STAT.valid, .sent, .time]
  | .ppsEdge _ => [.ctr .time, .evSeq, .events, .fld (HDR.ev_raw .time), .fld TIME.EPOCH.epoch, .fld TIME.EPOCH_START.start, .fld TIME.LAST_ERR.ns,
      .fld TIME.OFS.ofs, .fld TIME.OFS_BASE.base, .fld TIME.PUB_SEQ.seq, .fld TIME.SLEW.ppm, .fld TIME.SLEW_END.end_, .fld TIME.TIME_STAT.lost,
      .fld TIME.TIME_STAT.slewing, .fld TIME.TIME_STAT.valid, .fld TIME.TOD_NEXT.tod, .sent, .time]
  | .timeMasterLost => [.ctr .time, .evSeq, .events, .fld (HDR.ev_raw .time), .fld TIME.OFS.ofs, .fld TIME.OFS_BASE.base, .fld TIME.PUB_SEQ.seq,
      .fld TIME.SLEW.ppm, .fld TIME.SLEW_END.end_, .fld TIME.TIME_STAT.lost, .fld TIME.TIME_STAT.slewing, .sent]
  | .snapArm _ _ => [.ctr .pot, .err .pot, .err .time, .fld (HDR.ev_raw .pot), .fld (HDR.ev_raw .time), .fld TIME.SNAP_AT.at_,
      .fld TIME.SNAP_CTRL.armed, .resp, .sent, .stage]
  | .snapCancel _ _ => [.ctr .pot, .err .pot, .err .time, .fld (HDR.dirty .time), .fld (HDR.ev_raw .pot), .fld (HDR.ev_raw .time),
      .fld TIME.SNAP_CTRL.armed, .reg .time 0x150, .resp, .sent, .world]
  | .snapStrobe => [.ctr .time, .fld (HDR.ev_raw .time), .fld TIME.SNAP_AT.at_, .fld TIME.SNAP_CTRL.armed, .hdr, .sent, .snap, .time]
  | .hartWfi _ => [.world]
  | .backlightOnDelayExpiry _ => [.links, .pins]
  | .timeSlewEnd => [.fld TIME.TIME_STAT.slewing]
  | .jtagHalt _ _ => [.world]
  | .worldCsrAccess _ _ _ _ _ => [.ctr .dram, .ctr .dramq, .ctr .pot, .ctr .world, .dram, .fld WORLD.VALE_STAT.inside, .free, .mem, .pot, .resp,
      .world]
  | .custom0Illegal _ _ _ _ => [.ctr .dram, .ctr .dramq, .ctr .pot, .ctr .world, .dram, .fld WORLD.VALE_STAT.inside, .free, .mem, .pot, .world]

end Sys2Proof
end

