-- ==== Sys2Proof/Certificates/Slice0/Obligations.lean ====
section
/-! DEFINITION. The statements for the provers. -/

open Sys2Proof Sys2Proof.Machine


/-- A VIN power-on leaves every register at its reset value and nothing in the memories but flash and the factory bank. RESET_N held low resets
all four domains under cause 2 with DEVTIME from 0 and no rail above the safety rail; released, it lets the rails go on. A brown-out of the
always-on domain resets everything under cause 5 and shows in RST_CAUSE.brownout. VIN below 10.0 V or above 14.0 V drops PWR_GOOD, resets
the display domain under cause 3 or 4 with its display enables low, and leaves at most two rails or one rail on; above 14.0 V the safety
domain resets too. VIN back within its thresholds lets the rails start. A main rail that is not good within its time resets the main domain
under cause 8. -/
def Obligations.SupplyAndResetPins : Prop :=
  (∀ s : State, ∃ t, exec .vinPowerOn s = .next t ∧ t.regs = [] ∧ t.act = [] ∧ t.shadow = [] ∧ t.staged = [] ∧ t.ctr = [] ∧ t.dram = [] ∧
     t.basin = [] ∧ t.otp = s.otp ∧ t.pwr = {} ∧ t.time = {} ∧ t.pins =
     { gpio := s.pins.gpio, driven := s.pins.driven, present := s.pins.present, resetN := s.pins.resetN } ∧ t.variant = s.variant)
  ∧ (∀ s : State, ∃ t, exec .resetNAssert s = .next t ∧ t.pins.resetN = false ∧ t.pins.pwrGood = false ∧ t.pwr.rails = min s.pwr.rails 1 ∧
     t.time = {} ∧ t.rd BOOT.RST_CAUSE.main_cause = 2 ∧ t.rd BOOT.RST_CAUSE.safety_cause = 2 ∧ t.rd BOOT.RST_CAUSE.display_cause = 2)
  ∧ (∀ s : State, s.pins.resetN = false → ∃ t, exec .resetNRelease s = .next t ∧ t.pins.resetN = true ∧ t.pwr.rails = min s.pwr.rails 1 ∧
     t.time = {} ∧ t.rd BOOT.RST_CAUSE.main_cause = 2)
  ∧ (∀ s : State, s.pins.resetN = true → exec .resetNRelease s = .next s)
  ∧ (∀ s : State, ∃ t, exec .aonBrownout s = .next t ∧ t.rd BOOT.RST_CAUSE.brownout = 1 ∧ t.rd BOOT.RST_CAUSE.main_cause = 5 ∧ t.rd
     BOOT.RST_CAUSE.safety_cause = 5 ∧ t.rd BOOT.RST_CAUSE.display_cause = 5 ∧ t.pwr.rails = 0)
  ∧ (∀ s : State, ∃ t, exec .vinUndervoltage s = .next t ∧ t.pwr.vin = 1 ∧ t.pwr.rails ≤ 2 ∧ t.pins.pwrGood = false ∧ t.pins.dispen = 0 ∧
     t.rd BOOT.RST_CAUSE.display_cause = 3)
  ∧ (∀ s : State, ∃ t, exec .vinOvervoltage s = .next t ∧ t.rd BOOT.RST_CAUSE.safety_cause = 4 ∧ t.pins.pwrGood = false ∧ t.pins.faultA =
     false ∧ t.pins.faultB = true)
  ∧ (∀ s : State, exec .vinRecover s = .next { s with pwr := { s.pwr with vin := 0 } })
  ∧ (∀ (s : State) (r : Nat), railNumber s.pwr.rails = some r → r ≠ 2 ∧ r ≠ 4 → s.pins.resetN = true → s.pwr.vin = 0 → ∃ t, exec
     .railStartTimeout s = .next t ∧ t.rd BOOT.RST_CAUSE.main_cause = 8 ∧ t.rd PWR.STATE.state = 0)

/-- A write of RST_CTRL that passes the register checks and carries the key 5253H resets the main domain under cause 7 or the display domain
under cause CH; with another key it is refused as BOOT_RST_KEY: the access answers an error and no domain is reset. A lockstep mismatch is
logged and resets the safety domain under cause BH; a safety watchdog that was not kicked resets it under cause AH. Both leave the SAFE bank
at high impedance with the FAULT outputs showing fault and the sounder silent. A signal on the fault line that the running island takes
leaves the line. -/
def Obligations.ResetsAndIslandFaults : Prop :=
  (∀ (s : State) (w : Who), accepts s w .boot 0 0x114 0x52530001 = true → ∃ t, exec (.mainResetCmd w 0x5253) s = .next t ∧ t.rd
     BOOT.RST_CAUSE.main_cause = 7 ∧ t.dram = [] ∧ t.rings = {} ∧ t.pwr.mainUp = false)
  ∧ (∀ (s : State) (w : Who), accepts s w .boot 0 0x114 0x52530002 = true → ∃ t, exec (.displayResetCmd w 0x5253) s = .next t ∧ t.rd
     BOOT.RST_CAUSE.display_cause = 0xC ∧ (∀ n < 8, t.linkState n = 0) ∧ t.pins.dispen = 0 ∧ t.pwr.dispUp = false)
  ∧ (∀ (s : State) (w : Who) (key : BitVec 16), key ≠ 0x5253 → accepts s w .boot 0 0x114 (key.toNat * 65536 + 1) = true → exec
     (.mainResetCmd w key) s = .next (s.okResp.refuse .boot 0 Code.BOOT_RST_KEY w.rid 0x114))
  ∧ (∀ s : State, ∃ t, exec .lockstepMismatch s = .next t ∧ t.rd BOOT.RST_CAUSE.safety_cause = 0xB ∧ t.pins.safeHiZ = true ∧ t.pins.faultA =
     false ∧ t.pins.faultB = true ∧ t.sounderPin = false ∧ t.faults = [])
  ∧ (∀ s : State, s.on SAFE.ISL_STAT.fw_running = true → s.safe.kicked + clamp 1 1000 (s.rd SAFE.SWD_CFG.timeout_ms) * 1000000 ≤ s.now → ∃
     t, exec .safetyWdtExpiry s = .next t ∧ t.rd BOOT.RST_CAUSE.safety_cause = 0xA ∧ t.pins.safeHiZ = true ∧ t.pins.faultA = false ∧
     t.pins.faultB = true ∧ t.alarm = {} ∧ t.pwr.safeUp = false)
  ∧ (∀ s : State, s.on SAFE.ISL_STAT.fw_running = false ∨ s.now < s.safe.kicked + clamp 1 1000 (s.rd SAFE.SWD_CFG.timeout_ms) * 1000000 →
     exec .safetyWdtExpiry s = .next s)
  ∧ (∀ (s : State) (g : FaultSig) (l : List FaultSig), s.faults = g :: l → g.code ≠ Code.SAFE_SRAM_UE → s.rd SAFE.ISL_STAT.fw_running ≠ 0 →
     ∃ t, exec .safetyFaultLine s = .next t ∧ t.faults = l ∧ t.safe.nextSeq = (s.safe.nextSeq + 1) % 65536)

/-- With no operation running, FL_OP reads, programs a 256-byte page or erases a 64 KB block at FL_ADDR: it shows busy, and takes the data of a
program from FL_BUF. At its end busy clears and the event of the page occurs; an erase leaves its block reading FFH. A device error is
recorded as BOOT_FL_DEVICE. Aligned to its unit, and outside the copy whose firmware runs, a program or an erase starts. When the rails are
good and nothing holds it, the main stage runs and the main domain is out of reset. With a loaded manager its release starts hart 0 at the
entry point and ends boot privilege. A safety domain that was reset boots from the copy in use when that copy is intact. -/
def Obligations.FlashAndBootStages : Prop :=
  (∀ (s : State) (w : Who), accepts s w .boot 0 0x128 1 = true → s.pwr.flOp = 0 → ∃ t, exec (.flRead w) s = .next t ∧ t.rd BOOT.FL_OP.busy
     = 1 ∧ t.pwr.flOp = 1 ∧ t.pwr.flAddr = s.rd BOOT.FL_ADDR.addr)
  ∧ (∀ (s : State) (w : Who), accepts s w .boot 0 0x128 2 = true → s.pwr.flOp = 0 → s.rd BOOT.FL_ADDR.addr % 256 = 0 → s.flActive (s.rd
     BOOT.FL_ADDR.addr) = false → ∃ t, exec (.flProgram w) s = .next t ∧ t.rd BOOT.FL_OP.busy = 1 ∧ t.pwr.flOp = 2 ∧ t.pwr.flAddr = s.rd
     BOOT.FL_ADDR.addr)
  ∧ (∀ (s : State) (w : Who), accepts s w .boot 0 0x128 3 = true → s.pwr.flOp = 0 → s.rd BOOT.FL_ADDR.addr % 65536 = 0 → s.flActive (s.rd
     BOOT.FL_ADDR.addr) = false → ∃ t, exec (.flErase w) s = .next t ∧ t.rd BOOT.FL_OP.busy = 1 ∧ t.pwr.flOp = 3 ∧ t.pwr.flAddr = s.rd
     BOOT.FL_ADDR.addr)
  ∧ (∀ (s : State) (a : Nat), s.pwr.flOp = 3 → s.pwr.flAddr ≤ a ∧ a < s.pwr.flAddr + 65536 → ∃ t, exec (.flDone true) s = .next t ∧ t.rd
     BOOT.FL_OP.busy = 0 ∧ t.pwr.flOp = 0 ∧ t.flashAt a = 0xFF)
  ∧ (∀ (s : State) (w : Who) (v : Word), accepts s w .boot 0 0x120 v.toNat = true → bit v.toNat (s.rd BOOT.BOOT_STAT.key_slot) = false → ∃
     t, exec (.keyRevoke w v) s = .next t ∧ t.otpAt 0x3FFC = s.otpAt 0x3FFC ||| BitVec.ofNat 8 (v.toNat % 16) ∧ t.resp.ok = true)
  ∧ (∀ (s : State) (ea eb : Bool) (pass : Vector (BitVec 4) 8) (delay : Vector (BitVec 6) 8), s.mayBoot = true → ∃ t, exec (.mainBoot ea eb
     pass delay) s = .next t ∧ t.pwr.mainUp = true)
  ∧ (∀ (s : State) (pc : Nat), s.pwr.entry = some pc → s.pwr.mainUp = true → ∃ t, exec .managerRelease s = .next t ∧ t.pwr.entry = none ∧
     (mget t.world.harts 0 {}).regs.pc = pc ∧ t.rd PWR.STATE.state = 0)
  ∧ (∀ (s : State), s.pwr.safeUp = false → s.pwr.picked = true → s.pins.safeHiZ = true → s.pins.resetN = true → 2 ≤ s.pwr.rails → s.inUse =
     none → exec (.safetyDomainBoot false) s = .next s.safetyBoot ∧ s.safetyBoot.pins.safeHiZ = false)
  ∧ (∀ (s : State), s.pwr.dispUp = false → s.pwr.mainUp = true → s.pwr.picked = true → exec .displayDomainReset s = .next s.displayBoot ∧
     s.displayBoot.pwr.dispUp = true)

/-- A request of Sleep, Deep sleep or Off that passes the register checks and every condition of R84 puts the device into step E1 of the entry,
with the target shown; one that fails a condition sets EV_RAW.entry_refused, is recorded under that condition's code and leaves the device
where it was. At E1 the safety island's grant starts E2; its refusal, or 10 ms without an answer, returns the device to Run with
EV_RAW.entry_refused. -/
def Obligations.PowerStateRequests : Prop :=
  (∀ (s : State) (w : Who), accepts s w .pwr 0 0x100 2 = true → s.reqBad 2 = none → s.alarmDue = false → ∃ t, exec (.stateReqSleep w) s =
     .next t ∧ t.rd PWR.STATE.state = 5 ∧ t.rd PWR.STATE.target = 2 ∧ t.rd PWR.STATE.step = 1 ∧ t.pwr.commit = false ∧ t.resp.ok = true)
  ∧ (∀ (s : State) (w : Who), accepts s w .pwr 0 0x100 3 = true → s.reqBad 3 = none → s.alarmDue = false → ∃ t, exec (.stateReqDeepSleep w)
     s = .next t ∧ t.rd PWR.STATE.state = 5 ∧ t.rd PWR.STATE.target = 3 ∧ t.rd PWR.STATE.step = 1 ∧ t.pwr.commit = false ∧ t.resp.ok = true)
  ∧ (∀ (s : State) (w : Who), accepts s w .pwr 0 0x100 4 = true → s.reqBad 4 = none → s.alarmDue = false → ∃ t, exec (.stateReqOff w) s =
     .next t ∧ t.rd PWR.STATE.state = 5 ∧ t.rd PWR.STATE.target = 4 ∧ t.rd PWR.STATE.step = 1 ∧ t.pwr.commit = false ∧ t.resp.ok = true)
  ∧ (∀ (s : State) (w : Who) (c : Nat), accepts s w .pwr 0 0x100 2 = true → s.reqBad 2 = some c → exec (.stateReqSleep w) s = .next
     ((s.okResp.raise .pwr 0 8).refuse .pwr 0 c w.rid 0x100))
  ∧ (∀ s : State, s.entryAt 1 = true → s.on SAFE.ISL_STAT.fw_running = true → (s.safe.slHeard && Config.needsDisplays s.safe.machine) =
     false → s.now ≤ s.pwr.stepAt + 10000000 → ∃ t, exec (.safetyGrant true) s = .next t ∧ t.rd PWR.STATE.state = 5 ∧ t.rd PWR.STATE.step =
     2)
  ∧ (∀ s : State, s.entryAt 1 = true → ∃ t, exec (.safetyGrant false) s = .next t ∧ t.rd PWR.STATE.state = 0 ∧ bit (t.rd (HDR.ev_raw .pwr))
     8 = true ∧ t.rd (HDR.err_valid .pwr) ≠ 0)
  ∧ (∀ s : State, s.entryAt 1 = true → s.pwr.stepAt + 10000000 ≤ s.now → ∃ t, exec .safetyGrantTimeout s = .next t ∧ t.rd PWR.STATE.state =
     0 ∧ bit (t.rd (HDR.ev_raw .pwr)) 8 = true ∧ t.rd (HDR.err_valid .pwr) ≠ 0)

/-- Drained, the entry goes from E2 to E3; where the drain limit passes first, it does so too and records the forced drain. Every running head
blank, it goes to E4; every hart in WFI, to E5 with the secure watchdog paused; the subchannels in self-refresh, to E6, which is past the
commit point. With no wake event latched the target state is reached: STATE shows it, the reference stops and PWR_GOOD is low. From Sleep,
SLEEP_DEEP_AFTER starts the last step of an entry into Deep sleep, past its commit point. -/
def Obligations.PowerStateEntry : Prop :=
  (∀ s : State, s.entryAt 2 = true → s.drained 0 = true → ∃ t, exec .entryDrainDone s = .next t ∧ t.rd PWR.STATE.state = 5 ∧ t.rd
     PWR.STATE.step = 3)
  ∧ (∀ s : State, s.entryAt 2 = true → s.pwr.stepAt + 1000 * max 1 (s.rd PWR.DRAIN_LIMIT.limit_us) ≤ s.now → ∃ t, exec .drainLimitExpiry s =
     .next t ∧ t.rd PWR.STATE.state = 5 ∧ t.rd PWR.STATE.step = 3 ∧ t.rd (HDR.err_valid .pwr) ≠ 0)
  ∧ (∀ s : State, s.entryAt 3 = true → (List.range 8).all (fun h => !s.running h || s.rd SAFE.HB_STAT.source 0 h == 2) = true → ∃ t, exec
     .entryHeadsBlanked s = .next t ∧ t.rd PWR.STATE.state = 5 ∧ t.rd PWR.STATE.step = 4 ∧ t.pwr.swPause = true)
  ∧ (∀ s : State, s.entryAt 4 = true → s.allWfi = true → ∃ t, exec .entryCachesWritten s = .next t ∧ t.rd PWR.STATE.state = 5 ∧ t.rd
     PWR.STATE.step = 5)
  ∧ (∀ s : State, s.entryAt 5 = true → ∃ t, exec .selfRefreshEntered s = .next t ∧ t.rd PWR.STATE.state = 5 ∧ t.rd PWR.STATE.step = 6 ∧
     t.pwr.commit = true)
  ∧ (∀ s : State, s.entryAt 6 = true → s.pwr.commit = true → s.pwr.latched = [] → 2 ≤ s.rd PWR.STATE.target ∧ s.rd PWR.STATE.target ≤ 4 → ∃
     t, exec .targetStateReached s = .next t ∧ t.rd PWR.STATE.state = s.rd PWR.STATE.target ∧ t.pwr.osc = false ∧ t.pins.pwrGood = false)
  ∧ (∀ s : State, s.rd PWR.STATE.state = 2 → s.rd PWR.SLEEP_DEEP_AFTER.seconds ≠ 0 → s.pwr.stepAt + 1000000000 * s.rd
     PWR.SLEEP_DEEP_AFTER.seconds ≤ s.now → ∃ t, exec .sleepDeepAfterExpiry s = .next t ∧ t.rd PWR.STATE.state = 5 ∧ t.rd PWR.STATE.target =
     3 ∧ t.rd PWR.STATE.step = 6 ∧ t.pwr.commit = true ∧ t.pwr.latched = [])

/-- In Run or during an exit an enabled wake event sets its WAKE_CAUSE bit only. Before the commit point of an entry it returns the device to
Run with WAKE_CAUSE.aborted; after it the event is latched. In a low-power state the source wakes from, the exit begins. The WAKE pin wakes
from Off whatever WAKE_EN holds. A DEVTIME alarm in Run also sets EV_RAW.alarm. A source that is not enabled has no effect. -/
def Obligations.WakeEvents : Prop :=
  (∀ (s : State) (n : Fin 5), bit (s.rd PWR.WAKE_EN.enable) n.val = true → s.rd PWR.STATE.state ≤ 1 ∨ s.rd PWR.STATE.state = 6 →
     s.pins.resetN = true → ∃ t, exec (.wakeEvent n) s = .next t ∧ bit (t.rd PWR.WAKE_CAUSE.source) n.val = true ∧ t.rd PWR.STATE.state =
     s.rd PWR.STATE.state)
  ∧ (∀ (s : State) (n : Fin 5), bit (s.rd PWR.WAKE_EN.enable) n.val = true → s.rd PWR.STATE.state = 5 → s.pwr.commit = true → s.pins.resetN
     = true → exec (.wakeEvent n) s = .next
     { s with pwr := { s.pwr with latched := if s.pwr.latched.contains n.val then s.pwr.latched else s.pwr.latched ++ [n.val] } })
  ∧ (∀ (s : State) (n : Fin 5), bit (s.rd PWR.WAKE_EN.enable) n.val = true → s.rd PWR.STATE.state = 5 → s.pwr.commit = false → s.pins.resetN
     = true → ∃ t, exec (.wakeEvent n) s = .next t ∧ t.rd PWR.STATE.state = 0 ∧ t.rd PWR.WAKE_CAUSE.aborted = 1 ∧ bit (t.rd (HDR.ev_raw
     .pwr)) 9 = true ∧ bit (t.rd PWR.WAKE_CAUSE.source) n.val = true)
  ∧ (∀ (s : State) (n : Fin 5), bit (s.rd PWR.WAKE_EN.enable) n.val = true → 2 ≤ s.rd PWR.STATE.state ∧ s.rd PWR.STATE.state ≤ 4 → bit
     (wakesFrom n.val) (s.rd PWR.STATE.state) = true → s.pins.resetN = true → ∃ t, exec (.wakeEvent n) s = .next t ∧ t.rd PWR.STATE.state =
     6 ∧ t.rd PWR.STATE.target = s.rd PWR.STATE.state ∧ t.rd PWR.EXIT_STAT.from_state = s.rd PWR.STATE.state ∧ bit (t.rd
     PWR.WAKE_CAUSE.source) n.val = true)
  ∧ (∀ (s : State) (n : Fin 5), bit (s.rd PWR.WAKE_EN.enable) n.val = false → n ≠ 0 ∨ s.rd PWR.STATE.state ≠ 4 → exec (.wakeEvent n) s =
     .next s)
  ∧ (∀ s : State, s.rd PWR.STATE.state = 4 → s.pins.resetN = true → ∃ t, exec .wakePin s = .next t ∧ t.rd PWR.STATE.state = 6 ∧ t.rd
     PWR.STATE.target = 4 ∧ bit (t.rd PWR.WAKE_CAUSE.source) 0 = true)
  ∧ (∀ s : State, bit (s.rd PWR.WAKE_EN.enable) 4 = true → s.rd PWR.STATE.state = 2 → s.pins.resetN = true → ∃ t, exec .safetyWakeRequest s
     = .next t ∧ t.rd PWR.STATE.state = 6 ∧ t.rd PWR.STATE.target = 2 ∧ bit (t.rd PWR.WAKE_CAUSE.source) 4 = true)
  ∧ (∀ s : State, s.alarmDue = true → s.rd PWR.STATE.state ≤ 1 → s.pins.resetN = true → ∃ t, exec .devtimeAlarm s = .next t ∧ bit (t.rd
     (HDR.ev_raw .pwr)) 14 = true ∧ t.rd PWR.STATE.state = s.rd PWR.STATE.state)

/-- With every AVSBus command acknowledged, step 1 of an exit gives way to step 2, whose ready signal starts the reference and step 3; memory
ready starts step 4. Logic ready in an exit from Sleep, or from Deep sleep with the copy in use intact, ends the exit: Run, with hart 0 at
RESUME_VEC. A timeout of step 1 resets the main domain under cause 8; of step 2 it starts another attempt, and after the third the device
enters Off with failed_step 2; of steps 3 and 4 it makes a cold start. -/
def Obligations.PowerStateExit : Prop :=
  (∀ s : State, s.exitAt 1 = true → s.railsAcked = true → ∃ t, exec .exitRegulatorsReady s = .next t ∧ t.rd PWR.STATE.step = 2 ∧ t.rd
     PWR.EXIT_STAT.osc_attempts = 1 ∧ t.pins.pwrGood = true)
  ∧ (∀ s : State, s.exitAt 2 = true → ∃ t, exec .exitOscillatorReady s = .next t ∧ t.rd PWR.STATE.step = 3 ∧ t.pwr.osc = true)
  ∧ (∀ s : State, s.exitAt 3 = true → ∃ t, exec .exitMemoryReady s = .next t ∧ t.rd PWR.STATE.step = 4 ∧ (s.rd PWR.STATE.target = 3 →
     t.basin = []) ∧ (s.rd PWR.STATE.target ≠ 3 → t.basin = s.basin) ∧ t.dram = s.dram)
  ∧ (∀ (s : State) (e : Bool), s.exitAt 4 = true → s.rd PWR.STATE.target ≠ 3 → ∃ t, exec (.exitLogicReady e) s = .next t ∧ t.rd
     PWR.STATE.state = 0 ∧ (mget t.world.harts 0 {}).regs.pc = s.resumeVec ∧ t.dram = s.dram)
  ∧ (∀ (s : State) (rail : Fin 5), s.exitAt 1 = true → s.pwr.stepAt + 10000000 ≤ s.now → ∃ t, exec (.exitStepTimeout rail) s = .next t ∧
     t.rd BOOT.RST_CAUSE.main_cause = 8 ∧ t.rd PWR.EXIT_STAT.failed_step = 1 ∧ t.rd PWR.STATE.state = 0 ∧ (rail = 0 → t.rd
     BOOT.RST_CAUSE.display_cause = 8))
  ∧ (∀ (s : State) (rail : Fin 5), s.exitAt 2 = true → s.rd PWR.EXIT_STAT.osc_attempts < 3 → s.pwr.stepAt + 10000000 ≤ s.now → ∃ t, exec
     (.exitStepTimeout rail) s = .next t ∧ t.rd PWR.EXIT_STAT.osc_attempts = s.rd PWR.EXIT_STAT.osc_attempts + 1 ∧ t.rd PWR.STATE.step = 2)
  ∧ (∀ (s : State) (rail : Fin 5), s.exitAt 2 = true → 3 ≤ s.rd PWR.EXIT_STAT.osc_attempts → s.pwr.stepAt + 10000000 ≤ s.now → ∃ t, exec
     (.exitStepTimeout rail) s = .next t ∧ t.rd PWR.STATE.state = 4 ∧ t.rd PWR.EXIT_STAT.failed_step = 2)
  ∧ (∀ (s : State) (rail : Fin 5), s.exitAt 3 = true ∨ s.exitAt 4 = true → s.pwr.stepAt + (if s.rd PWR.STATE.step = 4 then 1000000 else
     10000000) ≤ s.now → ∃ t, exec (.exitStepTimeout rail) s = .next t ∧ t.rd PWR.EXIT_STAT.cold_start = 1 ∧ t.dram = [] ∧ t.basin = [] ∧
     t.pwr.cold = true)

/-- A write of RAIL_REQn that passes the checks selects the entry, counts one command in cmd_seq and shows the entry's voltage; a higher
frequency is held, a lower one is taken at once. The acknowledgement takes cmd_seq into ack_seq, ends the slew, releases the frequency and
sets EV_RAW.rail_done. A missing acknowledgement, or a fixed rail that falls in Run or Idle, resets the main domain under cause 8 with
EV_RAW.rail_fault. A rail of the start sequence that is good lets the next start; after the last PWR_GOOD is high. -/
def Obligations.AvsRails : Prop :=
  (∀ (s : State) (w : Who) (n : Fin 2) (v : Word), accepts s w .pwr 0 (0x140 + 4 * n.val) v.toNat = true → ∃ t, exec (.railOppRequest w n
     v) s = .next t ∧ t.rd PWR.RAIL_REQ.opp 0 n.val = v.toNat % 8 ∧ t.rd PWR.RAIL_STAT.cmd_seq 0 n.val = (s.rd PWR.RAIL_STAT.cmd_seq 0 n.val
     + 1) % 16 ∧ t.rd PWR.RAIL_STAT.target_mv 0 n.val = t.oppMv n.val % 1024 ∧ t.rd PWR.RAIL_STAT.slewing 0 n.val = 1 ∧ (if s.railMhz n.val
     < t.oppMhz n.val then t.rd PWR.RAIL_STAT.freq_held 0 n.val = 1 ∧ t.railMhz n.val = s.railMhz n.val else t.rd PWR.RAIL_STAT.freq_held 0
     n.val = 0 ∧ t.railMhz n.val = t.oppMhz n.val % 65536))
  ∧ (∀ (s : State) (n : Fin 4), s.rd PWR.RAIL_STAT.slewing 0 n.val = 1 → ∃ t, exec (.railAck n) s = .next t ∧ t.rd PWR.RAIL_STAT.ack_seq 0
     n.val = s.rd PWR.RAIL_STAT.cmd_seq 0 n.val % 16 ∧ t.rd PWR.RAIL_STAT.slewing 0 n.val = 0 ∧ t.rd PWR.RAIL_STAT.freq_held 0 n.val = 0 ∧
     bit (t.rd (HDR.ev_raw .pwr)) 11 = true)
  ∧ (∀ (s : State) (n : Fin 4), s.rd PWR.RAIL_STAT.slewing 0 n.val = 1 → mget s.pwr.slewAt n.val 0 + 1000000 ≤ s.now → ∃ t, exec
     (.railAckTimeout n) s = .next t ∧ t.rd PWR.RAIL_STAT.fault 0 n.val = 1 ∧ t.rd BOOT.RST_CAUSE.main_cause = 8 ∧ bit (t.rd (HDR.ev_raw
     .pwr)) 12 = true)
  ∧ (∀ (s : State) (n : Fin 5), s.rd PWR.STATE.state ≤ 1 → s.pins.pwrGood = true → ∃ t, exec (.fixedRailFault n) s = .next t ∧ t.rd
     BOOT.RST_CAUSE.main_cause = 8 ∧ bit (t.rd (HDR.ev_raw .pwr)) 12 = true ∧ (n = 0 → t.rd BOOT.RST_CAUSE.display_cause = 8))
  ∧ (∀ s : State, s.pins.resetN = true → s.pwr.vin = 0 → s.pwr.hot = false → s.rd PWR.STATE.state ≠ 4 → 2 ≤ s.pwr.rails ∧ s.pwr.rails < 11 →
     ∃ t, exec .railGood s = .next t ∧ t.pwr.rails = s.pwr.rails + 1 ∧ (s.pwr.rails = 10 → t.pins.pwrGood = true))

/-- A sample puts the highest reading into TEMP_MAX; a rise through TEMP_WARN is counted and sets EV_RAW.temp_warn. From the shutdown
temperature on, the main domain resets under cause 9 and is held; 10 K above, the module also takes its rails down. 15 K below, the hold
ends. A lost reference in Run is recorded, counted in counter 24 and signalled on the fault line; a lost lock likewise under its PLL. A
relock shows again. The crystal's stop sets its event. WFI and JTAG halt mark their hart. -/
def Obligations.TemperatureAndClocks : Prop :=
  (∀ (s : State) (temps : Vector (BitVec 11) 16), ∃ t, exec (.tempSample temps) s = .next t ∧ t.rd PWR.TEMP_MAX.temp = ofSigned 11
     (hottest temps.toList).1 ∧ t.rd PWR.TEMP_MAX.sensor = (hottest temps.toList).2 % 16 ∧ (toSigned 11 (s.rd PWR.TEMP_MAX.temp) < toSigned
     11 (s.rd PWR.TEMP_WARN.threshold) ∧ toSigned 11 (s.rd PWR.TEMP_WARN.threshold) ≤ (hottest temps.toList).1 → bit (t.rd (HDR.ev_raw
     .pwr)) 13 = true ∧ t.counter .pwr 0 13 = (s.counter .pwr 0 13 + 1) % 2 ^ 64))
  ∧ (∀ (s : State) (temps : Vector (BitVec 11) 16), s.variant.shutdown ≤ (hottest temps.toList).1 ∧ (hottest temps.toList).1 <
     s.variant.shutdown + 40 → s.pwr.hot = false → ∃ t, exec (.tempSample temps) s = .next t ∧ t.pwr.hot = true ∧ t.rd
     BOOT.RST_CAUSE.main_cause = 9 ∧ t.pwr.mainUp = false)
  ∧ (∀ (s : State) (temps : Vector (BitVec 11) 16), s.variant.shutdown + 40 ≤ (hottest temps.toList).1 → s.pwr.hot = false → ∃ t, exec
     (.tempSample temps) s = .next t ∧ t.pwr.hot = true ∧ t.rd BOOT.RST_CAUSE.main_cause = 9 ∧ t.rd BOOT.RST_CAUSE.display_cause = 9 ∧
     t.pwr.rails ≤ 2 ∧ t.pins.pwrGood = false)
  ∧ (∀ s : State, s.pwr.hot = true → toSigned 11 (s.rd PWR.TEMP_MAX.temp) + 60 ≤ s.variant.shutdown → exec .thermalRestart s = .next
     { s with pwr := { s.pwr with hot := false } })
  ∧ (∀ s : State, s.pwr.osc = true → s.rd PWR.STATE.state ≤ 1 → ∃ t, exec .refLost s = .next t ∧ t.pwr.osc = false ∧ bit (t.rd (HDR.ev_raw
     .clk)) 9 = true ∧ t.counter .clk 0 24 = (s.counter .clk 0 24 + 1) % 2 ^ 64 ∧ t.faults.length = s.faults.length + 1)
  ∧ (∀ (s : State) (k : Fin 24), s.rd CLK.PLL_STAT.lock 0 k.val = 1 → ∃ t, exec (.pllUnlock k) s = .next t ∧ t.rd CLK.PLL_STAT.lock 0 k.val
     = 0 ∧ (k.val < 8 → t.rd HEAD.HEAD_STAT.pll_lock k.val = 0) ∧ bit (t.rd (HDR.ev_raw .clk)) 8 = true ∧ t.counter .clk 0 k.val =
     (s.counter .clk 0 k.val + 1) % 2 ^ 64 ∧ t.faults.length = s.faults.length + 1)
  ∧ (∀ (s : State) (k : Fin 24), s.rd CLK.PLL_STAT.lock 0 k.val = 0 → s.rd CLK.PLL_STAT.enabled 0 k.val = 1 → s.pwr.osc = true → ∃ t, exec
     (.pllRelock k) s = .next t ∧ t.rd CLK.PLL_STAT.lock 0 k.val = 1 ∧ (k.val < 8 → t.rd HEAD.HEAD_STAT.pll_lock k.val = 1))
  ∧ (∀ s : State, s.pwr.xtal = true → ∃ t, exec .xtal32Stop s = .next t ∧ t.pwr.xtal = false ∧ bit (t.rd (HDR.ev_raw .clk)) 10 = true)
  ∧ (∀ (s : State) (h : Fin 16), ∃ t, exec (.hartWfi h) s = .next t ∧ t.hart h.val = { s.hart h.val with wfi := true })
  ∧ (∀ (s : State) (h : Fin 16) (b : Bool), ∃ t, exec (.jtagHalt h b) s = .next t ∧ t.hart h.val = { s.hart h.val with halted := b })

/-- A CMD_OP that passes the register checks and none of the refusals of R110 and R114 to R116 applies to counts in counter 64, shows busy and
increments the epoch; SHARE puts SHARE_MASK in force for its group. A refused one is recorded and runs nothing. With no access of an earlier
epoch in flight the running command goes on to its scrub, every port holding only new entries; scrubbed, it clears busy, counts its pages in
counter 65 and sets EV_RAW.cmd_done. -/
def Obligations.PotCommands : Prop :=
  (∀ (s : State) (w : Who) (keep : Bool), accepts s w .pot 0 0x114 (1 + (if keep then 256 else 0)) = true → s.potRefusal 1 keep = none → ∃
     t, exec (.potSet w keep) s = .next t ∧ t.rd POT.CMD_OP.busy = 1 ∧ t.rd POT.CMD_STAT.epoch = (s.rd POT.CMD_STAT.epoch + 1) % 65536 ∧
     t.counter .pot 0 64 = (s.counter .pot 0 64 + 1) % 2 ^ 64 ∧ t.counter .pot 0 67 = (s.counter .pot 0 67 + 1) % 2 ^ 64 ∧ t.pot.op = 1 ∧
     t.pot.step = 4)
  ∧ (∀ (s : State) (w : Who) (keep : Bool), accepts s w .pot 0 0x114 (2 + (if keep then 256 else 0)) = true → s.potRefusal 2 keep = none → ∃
     t, exec (.potSetAttr w keep) s = .next t ∧ t.rd POT.CMD_OP.busy = 1 ∧ t.rd POT.CMD_STAT.epoch = (s.rd POT.CMD_STAT.epoch + 1) % 65536 ∧
     t.counter .pot 0 64 = (s.counter .pot 0 64 + 1) % 2 ^ 64 ∧ t.pot.op = 2 ∧ t.pot.scrub = [])
  ∧ (∀ (s : State) (w : Who) (keep : Bool), accepts s w .pot 0 0x114 (3 + (if keep then 256 else 0)) = true → s.potRefusal 3 keep = none → ∃
     t, exec (.potShare w keep) s = .next t ∧ t.rd POT.CMD_OP.busy = 1 ∧ t.rd POT.CMD_STAT.epoch = (s.rd POT.CMD_STAT.epoch + 1) % 65536 ∧
     mget t.pot.shareMask (bits (s.rd POT.CMD_ENTRY.entry) 8 4) 0 = s.rd POT.SHARE_MASK.mask ∧ t.dram = s.dram ∧ t.pot.scrub = [])
  ∧ (∀ (s : State) (w : Who) (keep : Bool) (c : Nat) (late : Bool), accepts s w .pot 0 0x114 (1 + (if keep then 256 else 0)) = true →
     s.potRefusal 1 keep = some (c, late) → exec (.potSet w keep) s = .next (if late then s.okResp.recErr .pot 0 c w.rid 0x114 else
     s.okResp.refuse .pot 0 c w.rid 0x114))
  ∧ (∀ s : State, s.pot.op ≠ 0 → s.pot.step = 4 → s.inFlight = false → ∃ t, exec .potEpochDrained s = .next t ∧ t.pot.step = 6 ∧ t.pot.old =
     [] ∧ t.pot.oldMask = none ∧ t.dram = s.dram ∧ t.rd POT.CMD_OP.busy = s.rd POT.CMD_OP.busy)
  ∧ (∀ s : State, s.pot.op ≠ 0 ∧ s.pot.op ≤ 3 → s.pot.step = 6 → ∃ t, exec .potCmdDone s = .next t ∧ t.rd POT.CMD_OP.busy = 0 ∧ t.rd
     POT.CMD_STAT.scrub_left = 0 ∧ t.pot.op = 0 ∧ t.counter .pot 0 65 = (s.counter .pot 0 65 + s.pot.scrub.length) % 2 ^ 64 ∧ bit (t.rd
     (HDR.ev_raw .pot)) 8 = true)

/-- After an accepted SET without keep every page of the range has the entry of CMD_ENTRY, with scrub_pend exactly where the owner changes, and
every page outside the range keeps its entry. At the end of the command every scrubbed page below the table reads zero. -/
def Obligations.PageOwnership : Prop :=
  (∀ (s : State) (w : Who), accepts s w .pot 0 0x114 1 = true → s.potRefusal 1 false = none → ∃ t, exec (.potSet w false) s = .next t ∧ (∀
     p ∈ s.potRange, t.potEntry p = s.newEntry 1 p + (if s.potEntry p % 256 ≠ s.newEntry 1 p % 256 then 0x4000 else 0)) ∧ (∀ p, p ∉
     s.potRange → t.potEntry p = s.potEntry p))
  ∧ (∀ s : State, s.pot.op ≠ 0 ∧ s.pot.op ≤ 3 → s.pot.step = 6 → ∀ p ∈ s.pot.scrub, p * 4096 + 4096 ≤ s.variant.tableBase → ∃ t, exec
     .potCmdDone s = .next t ∧ (∀ p ∈ s.pot.scrub, ∀ a, p * 4096 ≤ a → a < p * 4096 + 4096 → t.byteAt a = 0))

/-- CREATE takes a Free instance whose allocation fits the pools to Created; where it does not fit it is refused with the row. START takes it to
Running, QUIESCE to Quiescing with busy shown, RESET takes a Quiesced instance back to Created without its ring contexts, REMOVE frees it
and empties its view slots. A command from another state, or while busy, is refused with INST_STATE. Drained, an instance's quiesce reaches
the replacement of its layers. Once the quiesce limit has passed, the jobs left are aborted, INST_STAT.forced is set and counter 3 counts.
The owner sweep of the instance, or of a vale being closed, starts an epoch when no POT command runs. Its end leaves the instance Quiesced
with busy clear and EV_RAW.quiesced; after a function-level reset it is Created again. A function-level reset of a mapped function is shown
in FLR_INST, counted, and quiesces a Running instance. -/
def Obligations.InstanceLifeAndQuiesce : Prop :=
  (∀ (s : State) (w : Who), accepts s w .mgr 0 0x104 1 = true → s.on MGR.INST_STAT.busy (b := s.selInst) = false → s.instState s.selInst =
     0 ∧ s.selInst ≠ 0 → s.poolRow s.selInst = none → s.rd DRAMQ.ADMIT_USED.used + s.rd MGR.ALLOC_BW.rate (b := s.selInst) ≤ s.rd
     DRAMQ.ADMIT_CAP.cap → ∃ t, exec (.instCreate w) s = .next t ∧ t.rd MGR.INST_STAT.state (b := s.selInst) = 1 ∧ t.counter .mgr 0 0 =
     (s.counter .mgr 0 0 + 1) % 2 ^ 64)
  ∧ (∀ (s : State) (w : Who) (r : Nat), accepts s w .mgr 0 0x104 1 = true → s.on MGR.INST_STAT.busy (b := s.selInst) = false → s.instState
     s.selInst = 0 ∧ s.selInst ≠ 0 → s.poolRow s.selInst = some r → exec (.instCreate w) s = .next (s.okResp.refuse .mgr 0 Code.INST_POOL
     w.rid r))
  ∧ (∀ (s : State) (w : Who), accepts s w .mgr 0 0x104 2 = true → s.on MGR.INST_STAT.busy (b := s.selInst) = false → s.rd
     MGR.INST_STAT.state (b := s.selInst) = 1 → ∃ t, exec (.instStart w) s = .next t ∧ t.rd MGR.INST_STAT.state (b := s.selInst) = 2 ∧
     t.resp.ok = true)
  ∧ (∀ (s : State) (w : Who) (scrub : Bool), accepts s w .mgr 0 0x104 (3 + (if scrub then 256 else 0)) = true → s.on MGR.INST_STAT.busy (b
     := s.selInst) = false → s.rd MGR.INST_STAT.state (b := s.selInst) = 1 ∨ s.rd MGR.INST_STAT.state (b := s.selInst) = 2 → ∃ t, exec
     (.instQuiesce w scrub) s = .next t ∧ t.rd MGR.INST_STAT.state (b := s.selInst) = 3 ∧ t.rd MGR.INST_STAT.busy (b := s.selInst) = 1 ∧
     mget t.inst.qStep s.selInst 0 = 2)
  ∧ (∀ (s : State) (w : Who), accepts s w .mgr 0 0x104 4 = true → s.on MGR.INST_STAT.busy (b := s.selInst) = false → s.rd
     MGR.INST_STAT.state (b := s.selInst) = 4 → ∃ t, exec (.instReset w) s = .next t ∧ t.rd MGR.INST_STAT.state (b := s.selInst) = 1 ∧ (∀ n
     < 4096, t.ring (s.selInst * 4096 + n) = {}))
  ∧ (∀ (s : State) (w : Who), accepts s w .mgr 0 0x104 5 = true → s.on MGR.INST_STAT.busy (b := s.selInst) = false → s.rd
     MGR.INST_STAT.state (b := s.selInst) = 1 ∨ s.rd MGR.INST_STAT.state (b := s.selInst) = 4 → ∃ t, exec (.instRemove w) s = .next t ∧ t.rd
     MGR.INST_STAT.state (b := s.selInst) = 0 ∧ (∀ v < 224, t.rd MGR.VIEW_ENTRY.valid (b := s.selInst * 256 + v) = 0) ∧ mget t.inst.mbFull
     s.selInst 0 = 0)
  ∧ (∀ (s : State) (w : Who), accepts s w .mgr 0 0x104 2 = true → s.on MGR.INST_STAT.busy (b := s.selInst) = true ∨ s.rd MGR.INST_STAT.state
     (b := s.selInst) ≠ 1 → exec (.instStart w) s = .next (s.okResp.refuse .mgr 0 Code.INST_STATE w.rid 0x104))
  ∧ (∀ (s : State) (k : Fin 64), mget s.inst.qStep k.val 0 = 2 ∨ mget s.inst.qStep k.val 0 = 3 → s.drained k.val = true → ∃ t, exec
     (.quiesceDrainDone k) s = .next t ∧ mget t.inst.qStep k.val 0 = 4 ∧ (∀ h < 8, ∀ l < 16, s.layerOwner h l = k.val → mget t.comp.substQ
     (h * 16 + l) 0 = 1))
  ∧ (∀ (s : State) (k : Fin 64), mget s.inst.qStep k.val 0 = 2 → s.drainOver k.val = true → ∃ t, exec (.quiesceLimitExpiry k) s = .next t ∧
     mget t.inst.qStep k.val 0 = 3 ∧ t.rd MGR.INST_STAT.forced (b := k.val) = 1 ∧ t.counter .mgr 0 3 = (s.counter .mgr 0 3 + 1) % 2 ^ 64)
  ∧ (∀ (s : State) (o : Fin 128), s.pot.op = 0 → o.val < 64 → mget s.inst.qStep o.val 0 = 4 → s.substDue o.val = false → ∃ t, exec
     (.ownerSweep o) s = .next t ∧ t.pot.op = 4 ∧ t.pot.owner = o.val ∧ mget t.inst.qStep o.val 0 = 5 ∧ t.rd POT.CMD_OP.busy = 1)
  ∧ (∀ (s : State) (o : Fin 128), s.pot.op = 0 → 64 ≤ o.val → mget s.world.run (o.val - 64) 0 = 4 → ∃ t, exec (.ownerSweep o) s = .next t ∧
     t.pot.op = 4 ∧ t.pot.owner = o.val ∧ t.rd POT.CMD_OP.busy = 1)
  ∧ (∀ (s : State) (k : Fin 64), mget s.inst.qStep k.val 0 = 5 → s.pot.op = 4 ∧ s.pot.owner = k.val ∧ s.pot.step = 6 → ∃ t, exec
     (.quiesceDone k) s = .next t ∧ t.rd MGR.INST_STAT.state (b := k.val) = (if mget s.inst.flr k.val 0 = 0 then 4 else 1) ∧ t.rd
     MGR.INST_STAT.busy (b := k.val) = 0 ∧ mget t.inst.qStep k.val 0 = 0 ∧ t.pot.op = 0)
  ∧ (∀ (s : State) (f : Fin 64), s.on MGR.VF_MAP.valid (b := f.val) = true → s.rd MGR.VF_MAP.inst (b := f.val) ≠ 0 ∧ s.rd MGR.VF_MAP.inst (b
     := f.val) < 64 → s.rd MGR.INST_STAT.state (b := s.rd MGR.VF_MAP.inst (b := f.val)) ≠ 0 → ∃ t, exec (.functionLevelReset f) s = .next t
     ∧ t.rd MGR.FLR_INST.inst = s.rd MGR.VF_MAP.inst (b := f.val) ∧ bit (t.rd (HDR.ev_raw .mgr)) 9 = true ∧ (s.rd MGR.INST_STAT.state (b :=
     s.rd MGR.VF_MAP.inst (b := f.val)) = 2 → t.rd MGR.INST_STAT.state (b := s.rd MGR.VF_MAP.inst (b := f.val)) = 3))

/-- A function that is not mapped can be mapped to a Free instance 1 to 63 that no other function maps to, and the instance shows external;
mapping to 0 is refused with INST_INDEX. A view slot below 224 takes a grantable page; another slot or page is refused with INST_VIEW_PAGE.
Through the mailbox it reaches, a sender writes words of the slots of its own direction while they are not full. SEND marks the slots it
names full, ACK marks those of the other direction empty, and the other side is messaged once. The rearm bits send the message again while
an event is pending; otherwise they do nothing. -/
def Obligations.FunctionsViewsAndMailboxes : Prop :=
  (∀ (s : State) (w : Who) (v : Word), accepts s w .mgr 0 0x184 v.toNat = true → bit v.toNat 8 = true ∧ v.toNat % 64 ≠ 0 → s.on
     MGR.VF_MAP.valid (b := s.rd MGR.VF_INDEX.function) = false → s.instState (v.toNat % 64) = 0 → (List.range 64).any (fun g => decide (g ≠
     s.rd MGR.VF_INDEX.function) && s.on MGR.VF_MAP.valid (b := g) && s.rd MGR.VF_MAP.inst (b := g) == v.toNat % 64) = false → ∃ t, exec
     (.vfMapWrite w v) s = .next t ∧ t.rd MGR.VF_MAP.inst (b := s.rd MGR.VF_INDEX.function) = v.toNat % 64 ∧ t.rd MGR.VF_MAP.valid (b :=
     s.rd MGR.VF_INDEX.function) = 1 ∧ t.rd MGR.INST_STAT.external (b := v.toNat % 64) = 1)
  ∧ (∀ (s : State) (w : Who) (v : Word), accepts s w .mgr 0 0x184 v.toNat = true → bit v.toNat 8 = true ∧ v.toNat % 64 = 0 → exec
     (.vfMapWrite w v) s = .next (s.okResp.refuse .mgr 0 Code.INST_INDEX w.rid 0x184))
  ∧ (∀ (s : State) (w : Who) (v : Word), accepts s w .mgr 0 0x164 v.toNat = true → s.rd MGR.VIEW_INDEX.slot (b := s.selInst) < 224 → bit
     v.toNat 8 = true → grantable (v.toNat % 256) = true → ∃ t, exec (.viewEntryWrite w v) s = .next t ∧ t.rd MGR.VIEW_ENTRY.page (b :=
     s.selInst * 256 + s.rd MGR.VIEW_INDEX.slot (b := s.selInst)) = v.toNat % 256 ∧ t.rd MGR.VIEW_ENTRY.valid (b := s.selInst * 256 + s.rd
     MGR.VIEW_INDEX.slot (b := s.selInst)) = bits v.toNat 8 1 ∧ t.rd MGR.VIEW_ENTRY.write (b := s.selInst * 256 + s.rd MGR.VIEW_INDEX.slot
     (b := s.selInst)) = bits v.toNat 9 1)
  ∧ (∀ (s : State) (w : Who) (v : Word), accepts s w .mgr 0 0x164 v.toNat = true → 224 ≤ s.rd MGR.VIEW_INDEX.slot (b := s.selInst) ∨ (bit
     v.toNat 8 = true ∧ grantable (v.toNat % 256) = false) → exec (.viewEntryWrite w v) s = .next (s.okResp.refuse .mgr 0
     Code.INST_VIEW_PAGE w.rid 0x164))
  ∧ (∀ (s : State) (w : Who) (word : Fin 64) (v : Word) (k : Nat) (m : Bool), s.mbReach w (4 * word.val) true = .inr (k, m) → m = decide
     (word.val < 32) → bit (mget s.inst.mbFull k 0) (word.val / 16) = false → ∃ t, exec (.mbxDataWrite w word v) s = .next t ∧ mget
     t.inst.mbData (k * 64 + word.val) 0 = v.toNat ∧ t.inst.mbFull = s.inst.mbFull ∧ t.resp.ok = true)
  ∧ (∀ (s : State) (w : Who) (k : Nat) (m : Bool), s.mbReach w 0x104 true = .inr (k, m) → bit (mget s.inst.mbFull k 0) (if m then 0 else 2)
     = false → ∃ t, exec (.mbSend w 1) s = .next t ∧ bit (mget t.inst.mbFull k 0) (if m then 0 else 2) = true ∧ t.resp.ok = true ∧ (m =
     false → bit (t.rd (HDR.ev_raw .mgr)) 10 = true))
  ∧ (∀ (s : State) (w : Who) (k : Nat) (m : Bool), s.mbReach w 0x108 true = .inr (k, m) → bit (mget s.inst.mbFull k 0) (if m then 2 else 0)
     = true → ∃ t, exec (.mbAck w 1) s = .next t ∧ bit (mget t.inst.mbFull k 0) (if m then 2 else 0) = false ∧ t.resp.ok = true)
  ∧ (∀ (s : State) (w : Who) (v : Word) (k : Nat), s.mbReach w 0x10C true = .inr (k, false) → exec (.mbRearm w v) s = .next (if bit v.toNat
     0 && s.ownerPend k then s.notify k 0 else s).okResp)
  ∧ (∀ (s : State) (w : Who) (v : Word), accepts s w .mgr 0 0x19C v.toNat = true → exec (.mgrRearm w v) s = .next (if bit v.toNat 0 &&
     s.ownerPend 0xFE then s.notify 0xFE 0 else s).okResp)

/-- In HS-mode outside a vale a write of the tag CSR stores 1 to 63 and makes any other value FFH; in another mode it raises an
illegal-instruction exception. HS-mode and VS-mode read wid and passcause; a write, or a read from a user mode, is illegal, and so is an
encoding of custom-0 that R138 does not list. Every such exception is taken in the mode the hart's delegation gives. PASS.MARK in sequence
changes nothing but that the hart is not waiting in WFI. 4B49H then 434BH reload REMAIN and count in counter 0; another key is refused with
SWDT_KEY and counts in counter 1. While enabled and not paused a tick takes 1 ms from REMAIN and sets EV_RAW.warn when it reaches WARN. With
REMAIN at zero the main domain resets under cause 6. -/
def Obligations.HartsAndSecureWatchdog : Prop :=
  (∀ (s : State) (h : Fin 16) (pc v : BitVec 64), (s.hart h.val).vale = none → ∃ t, exec (.instanceTagWrite h .hs pc v) s = .next t ∧
     (t.hart h.val).tag = (if v.toNat = 0 ∨ 63 < v.toNat then 0xFF else v.toNat))
  ∧ (∀ (s : State) (h : Fin 16) (m : Mode) (pc v : BitVec 64), (s.hart h.val).vale = none → m ≠ .hs → ∃ t, exec (.instanceTagWrite h m pc v)
     s = .next t ∧ (t.hart h.val).tag = (s.hart h.val).tag ∧ (t.hart h.val).trap.map (fun x => (x.target, x.cause, x.epc)) = some ((s.hart
     h.val).target m.virt false 2, 2, pc.toNat))
  ∧ (∀ (s : State) (h : Fin 16) (m : Mode) (pc : BitVec 64), m.user = false → ∃ t, exec (.worldCsrAccess h m pc false false) s = .next t ∧
     t.resp = (s.okResp ((s.hart h.val).wid m)).resp ∧ (t.hart h.val).trap = (s.hart h.val).trap)
  ∧ (∀ (s : State) (h : Fin 16) (m : Mode) (pc : BitVec 64), m.user = false → ∃ t, exec (.worldCsrAccess h m pc true false) s = .next t ∧
     t.resp = (s.okResp ((s.hart h.val).cause + (if (s.hart h.val).susp then 256 else 0))).resp ∧ (t.hart h.val).trap = (s.hart h.val).trap)
  ∧ (∀ (s : State) (h : Fin 16) (m : Mode) (pc : BitVec 64) (p wr : Bool), m.user = true ∨ wr = true → (s.hart h.val).vale = none → ∃ t,
     exec (.worldCsrAccess h m pc p wr) s = .next t ∧ (t.hart h.val).trap.map (fun x => (x.target, x.cause, x.epc)) = some ((s.hart
     h.val).target m.virt false 2, 2, pc.toNat))
  ∧ (∀ (s : State) (h : Fin 16) (m : Mode) (pc : BitVec 64) (w : Word), (s.hart h.val).vale = none → passWord w.toNat = .illegal → ∃ t, exec
     (.custom0Illegal h m pc w) s = .next t ∧ (t.hart h.val).trap.map (fun x => (x.target, x.cause, x.epc)) = some ((s.hart h.val).target
     m.virt false 2, 2, pc.toNat))
  ∧ (∀ (s : State) (h : Fin 16), ∃ t, exec (.passMark h) s = .next t ∧ t.hart h.val = { s.hart h.val with wfi := false } ∧ t.dram = s.dram ∧
     t.regs = s.regs)
  ∧ (∀ (s : State) (w : Who) (v : Word), accepts s w .swdt 0 0x10C v.toNat = true → v.toNat % 65536 = 0x4B49 → ∃ t, exec (.swdtKick w v) s =
     .next t ∧ t.world.kick = true ∧ t.rd SWDT.REMAIN.ms = s.rd SWDT.REMAIN.ms ∧ t.resp.ok = true)
  ∧ (∀ (s : State) (w : Who) (v : Word), accepts s w .swdt 0 0x10C v.toNat = true → v.toNat % 65536 = 0x434B → s.world.kick = true → ∃ t,
     exec (.swdtKick w v) s = .next t ∧ t.world.kick = false ∧ t.rd SWDT.REMAIN.ms = s.rd SWDT.TIMEOUT.ms % 65536 ∧ t.counter .swdt 0 0 =
     (s.counter .swdt 0 0 + 1) % 2 ^ 64)
  ∧ (∀ (s : State) (w : Who) (v : Word), accepts s w .swdt 0 0x10C v.toNat = true → v.toNat % 65536 ≠ 0x434B ∧ v.toNat % 65536 ≠ 0x4B49 → ∃
     t, exec (.swdtKick w v) s = .next t ∧ t.world.kick = false ∧ t.rd SWDT.REMAIN.ms = s.rd SWDT.REMAIN.ms ∧ t.resp.ok = false ∧ t.counter
     .swdt 0 1 = (s.counter .swdt 0 1 + 1) % 2 ^ 64)
  ∧ (∀ s : State, s.on SWDT.SWDT_CTRL.enable = true → s.swdtPaused = false → s.rd PWR.STATE.state ≤ 1 → 0 < s.rd SWDT.REMAIN.ms ∧ s.rd
     SWDT.REMAIN.ms < 65536 → ∃ t, exec .swdtTick s = .next t ∧ t.rd SWDT.REMAIN.ms = s.rd SWDT.REMAIN.ms - 1 ∧ (s.rd SWDT.REMAIN.ms ≠ 1 →
     s.rd SWDT.REMAIN.ms = s.rd SWDT.WARN.ms + 1 → bit (t.rd (HDR.ev_raw .swdt)) 8 = true))
  ∧ (∀ s : State, s.on SWDT.SWDT_CTRL.enable = true → s.rd SWDT.REMAIN.ms = 0 → ∃ t, exec .secureWdtExpiry s = .next t ∧ t.rd
     BOOT.RST_CAUSE.main_cause = 6 ∧ t.pwr.mainUp = false ∧ t.dram = [])

/-- When the checks of R139 hold for a fresh frame, the hart executes in the vale at the entry address with one more hart inside and the frame
in use. RET returns to the instruction after the ENTER with the frame idle; an interrupt or page fault suspends the frame and traps at the
ENTER; any other exception ends the frame and raises cause 24. An ENTER inside a vale or outside a guest faults with its subcode and enters
nothing. -/
def Obligations.PassEnterAndExits : Prop :=
  (∀ (s : State) (h : Fin 16) (m : Mode) (r1 r2 : Fin 32) (ctx : HartCtx) (d fp ep : Addr) (pa v fr : Nat), (s.hart h.val).vale = none ∧
     m.virt = true → mget ctx.regs.x r1.val 0 % 32 = 0 → pa = d.toNat / 32 * 32 ∧ pa < s.variant.dramTop → bit (s.potEntry (pa / 4096)) 12 =
     true ∧ s.potEntry (pa / 4096) % 256 = 64 + v ∧ v < 64 → s.descOk pa v = true → s.rd WORLD.VALE_STAT.parent (b := v) = (s.hart
     h.val).tag ∧ s.rd WORLD.VALE_STAT.state (b := v) = 2 → mget ctx.regs.x r2.val 0 < s.rdMem (pa + 4) 4 → fr = fp.toNat / 2048 * 2048 ∧
     s.valePage fr v false = true ∧ s.frameOk h.val v fr = true ∧ s.rdMem fr 4 = 0 → ep.toNat < s.variant.dramTop ∧ s.potEntry (ep.toNat /
     4096) % 256 = 64 + v ∧ s.rdMem ep.toNat 4 = 0x5A00700B → s.lineFault false pa 32 = none ∧ s.lineFault false fr 4 = none ∧ s.lineFault
     false ep.toNat 4 = none → ∃ t, exec (.passEnter h m r1 r2 ctx (.pa d) (.pa fp) (.pa ep)) s = .next t ∧ (t.hart h.val).vale = some v ∧
     (t.hart h.val).regs.pc = s.rdMem (pa + 8) 8 ∧ (t.hart h.val).frame = fr ∧ (t.hart h.val).enterPc = ctx.pc.toNat ∧ t.rdMem fr 4 = 1 ∧
     t.rd WORLD.VALE_STAT.inside (b := v) = (s.rd WORLD.VALE_STAT.inside (b := v) + 1) % 32)
  ∧ (∀ (s : State) (h : Fin 16) (m : Mode) (r1 r2 : Fin 32) (ctx : HartCtx) (x y z : Xlat), (s.hart h.val).vale ≠ none → ∃ t, exec
     (.passEnter h m r1 r2 ctx x y z) s = .next t ∧ (t.hart h.val).vale = (s.hart h.val).vale ∧ (t.hart h.val).cause = 6 ∧ (t.hart
     h.val).trap = (s.hart h.val).trapFrom m.virt false 24 0 0 ctx.pc.toNat ∧ t.dram = s.dram)
  ∧ (∀ (s : State) (h : Fin 16) (m : Mode) (r1 r2 : Fin 32) (ctx : HartCtx) (x y z : Xlat), (s.hart h.val).vale = none → m.virt = false → ∃
     t, exec (.passEnter h m r1 r2 ctx x y z) s = .next t ∧ (t.hart h.val).vale = none ∧ (t.hart h.val).cause = 9 ∧ (t.hart h.val).trap =
     (s.hart h.val).trapFrom m.virt false 24 0 0 ctx.pc.toNat ∧ t.dram = s.dram)
  ∧ (∀ (s : State) (h : Fin 16) (m : Mode) (ctx : HartCtx) (v : Nat), (s.hart h.val).vale = some v → s.frameOk h.val v (s.hart h.val).frame
     = true → ∃ t, exec (.passRet h m ctx) s = .next t ∧ (t.hart h.val).vale = none ∧ (t.hart h.val).regs.pc = (s.hart h.val).enterPc + 4 ∧
     mget (t.hart h.val).regs.x 1 0 = (s.hart h.val).ra ∧ mget (t.hart h.val).regs.x 2 0 = (s.hart h.val).sp ∧ t.rdMem (s.hart h.val).frame
     4 = 0)
  ∧ (∀ (s : State) (h : Fin 16) (m : Mode) (i : Bool) (cause addr : BitVec 64) (ctx : HartCtx) (v : Nat), (s.hart h.val).vale = some v →
     s.frameOk h.val v (s.hart h.val).frame = true → ∃ t, exec (.suspendingExit h m i cause addr ctx) s = .next t ∧ (t.hart h.val).vale =
     none ∧ (t.hart h.val).susp = true ∧ (t.hart h.val).regs.pc = (s.hart h.val).enterPc ∧ (t.hart h.val).trap.map (fun x => (x.target,
     x.interrupt, x.cause, x.epc)) = some ((s.hart h.val).target true i cause.toNat, i, cause.toNat, (s.hart h.val).enterPc) ∧ t.rdMem
     (s.hart h.val).frame 4 = 2)
  ∧ (∀ (s : State) (h : Fin 16) (v : Nat), (s.hart h.val).vale = some v → s.frameOk h.val v (s.hart h.val).frame = true → ∃ t, exec
     (.valeFaultExit h) s = .next t ∧ (t.hart h.val).vale = none ∧ (t.hart h.val).cause = 10 ∧ (t.hart h.val).trap = (s.hart h.val).trapFrom
     true false 24 0 0 (s.hart h.val).enterPc ∧ t.rdMem (s.hart h.val).frame 4 = 3)

/-- OPEN of a Free vale under a Created or Running parent opens it with its load sequence at 0; LOAD copies pages of the manager into pages of
the vale and counts an epoch; SEAL completes the measurement; CLOSE of a vale without harts inside starts its sweep, and with harts inside
it is refused as VALE_BUSY. The command's end clears busy and sets EV_RAW.cmd_done; after a CLOSE whose sweep has scrubbed the vale is Free.
An idle DMA engine takes an instance or the pool as its owner. -/
def Obligations.ValeLife : Prop :=
  (∀ (s : State) (w : Who) (v : Nat), accepts s w .world 0 0x104 1 = true → v = s.rd WORLD.VALE_SEL.vale → s.on WORLD.VALE_STAT.busy (b :=
     v) = false ∧ s.rd WORLD.VALE_STAT.state (b := v) = 0 → s.rd WORLD.VALE_PARENT.parent ≠ 0 ∧ s.rd WORLD.VALE_PARENT.parent < 64 →
     s.instState (s.rd WORLD.VALE_PARENT.parent) = 1 ∨ s.instState (s.rd WORLD.VALE_PARENT.parent) = 2 → ∃ t, exec (.valeOpen w) s = .next t
     ∧ t.rd WORLD.VALE_STAT.state (b := v) = 1 ∧ t.rd WORLD.VALE_STAT.busy (b := v) = 1 ∧ t.rd WORLD.VALE_STAT.parent (b := v) = s.rd
     WORLD.VALE_PARENT.parent ∧ t.rd WORLD.LOAD_SEQ.seq (b := v) = 0)
  ∧ (∀ (s : State) (w : Who) (v : Nat), accepts s w .world 0 0x104 2 = true → v = s.rd WORLD.VALE_SEL.vale → s.on WORLD.VALE_STAT.busy (b :=
     v) = false ∧ s.rd WORLD.VALE_STAT.state (b := v) = 1 → s.rd WORLD.LOAD_COUNT.count = 1 → s.rd WORLD.LOAD_SRC.pfn < s.variant.frames ∧
     s.rd WORLD.LOAD_DST.pfn < s.variant.frames → s.potEntry (s.rd WORLD.LOAD_SRC.pfn) % 256 = 0xFE ∧ s.potEntry (s.rd WORLD.LOAD_DST.pfn) %
     256 = 64 + v → s.loadFault v 1 (s.rd WORLD.LOAD_SRC.pfn) (s.rd WORLD.LOAD_DST.pfn) = none → ∃ t, exec (.valeLoad w false) s = .next t ∧
     t.rd WORLD.VALE_STAT.busy (b := v) = 1 ∧ t.rd POT.CMD_STAT.epoch = (s.rd POT.CMD_STAT.epoch + 1) % 65536 ∧ t.counter .world 0 5 =
     (s.counter .world 0 5 + 1) % 2 ^ 64 ∧ (∀ k < 4096, t.byteAt (s.rd WORLD.LOAD_DST.pfn * 4096 + k) = s.byteAt (s.rd WORLD.LOAD_SRC.pfn *
     4096 + k)))
  ∧ (∀ (s : State) (w : Who) (v : Nat), accepts s w .world 0 0x104 3 = true → v = s.rd WORLD.VALE_SEL.vale → s.on WORLD.VALE_STAT.busy (b :=
     v) = false ∧ s.rd WORLD.VALE_STAT.state (b := v) = 1 → ∃ t, exec (.valeSeal w) s = .next t ∧ t.rd WORLD.VALE_STAT.state (b := v) = 2 ∧
     t.rd WORLD.VALE_STAT.busy (b := v) = 1)
  ∧ (∀ (s : State) (w : Who) (v : Nat), accepts s w .world 0 0x104 4 = true → v = s.rd WORLD.VALE_SEL.vale → s.on WORLD.VALE_STAT.busy (b :=
     v) = false → s.rd WORLD.VALE_STAT.state (b := v) = 1 ∨ s.rd WORLD.VALE_STAT.state (b := v) = 2 → s.rd WORLD.VALE_STAT.inside (b := v) =
     0 → ∃ t, exec (.valeClose w) s = .next t ∧ t.rd WORLD.VALE_STAT.busy (b := v) = 1 ∧ mget t.world.run v 0 = 4)
  ∧ (∀ (s : State) (w : Who) (v : Nat), accepts s w .world 0 0x104 4 = true → v = s.rd WORLD.VALE_SEL.vale → s.on WORLD.VALE_STAT.busy (b :=
     v) = false → s.rd WORLD.VALE_STAT.state (b := v) = 1 ∨ s.rd WORLD.VALE_STAT.state (b := v) = 2 → s.rd WORLD.VALE_STAT.inside (b := v) ≠
     0 → exec (.valeClose w) s = .next (s.okResp.refuse .world 0 Code.VALE_BUSY w.rid 0x104))
  ∧ (∀ (s : State) (v : Fin 64), mget s.world.run v.val 0 ≠ 0 ∧ mget s.world.run v.val 0 ≠ 4 → ∃ t, exec (.valeCmdDone v) s = .next t ∧ mget
     t.world.run v.val 0 = 0 ∧ t.rd WORLD.VALE_STAT.busy (b := v.val) = 0 ∧ bit (t.rd (HDR.ev_raw .world)) 8 = true)
  ∧ (∀ (s : State) (v : Fin 64), mget s.world.run v.val 0 = 4 → s.pot.op = 4 ∧ s.pot.owner = 64 + v.val ∧ s.pot.step = 6 → ∃ t, exec
     (.valeCmdDone v) s = .next t ∧ t.rd WORLD.VALE_STAT.state (b := v.val) = 0 ∧ t.rd WORLD.VALE_STAT.busy (b := v.val) = 0 ∧ bit (t.rd
     (HDR.ev_raw .world)) 8 = true ∧ t.pot.op = 0)
  ∧ (∀ (s : State) (w : Who) (k : Fin 8) (v : Word), accepts s w .world 0 (0x140 + 4 * k.val) v.toNat = true → s.job 2 k.val = none →
     v.toNat % 256 < 64 ∨ v.toNat % 256 = 255 → ∃ t, exec (.dmaOwnerWrite w k v) s = .next t ∧ t.rd WORLD.DMA_OWNER.owner 0 k.val = v.toNat
     % 256 ∧ t.resp.ok = true)

/-- For a requester that is not a device function the check of one page passes exactly when: sys is 0 or the access is a read of the manager's
by a hart; the requester owns the page, or reads it as a member of its share group; cpu_only is 0 or the access comes from a hart;
scrub_pend is 0; and the requester is not FFH. The entry is the one the requester's port holds, which is the table's but before the port
acknowledges an invalidation. A device function's own access passes exactly on sys pages. -/
def Obligations.PageOwnerCheck : Prop :=
  (∀ (s : State) (q : Req) (write : Bool) (p : Nat), q.dev = false → (s.pageCheck q write p = none ↔ (bit (s.seenEntry q.port p) 15 =
     false ∨ (q.id = 0xFE ∧ q.hart = true ∧ write = false)) ∧ q.id ≠ 0xFF ∧ (q.id = s.seenEntry q.port p % 256 ∨ (write = false ∧ bits
     (s.seenEntry q.port p) 8 4 ≠ 0 ∧ s.shareMember q (bits (s.seenEntry q.port p) 8 4) = true)) ∧ (bit (s.seenEntry q.port p) 13 = false ∨
     q.hart = true) ∧ bit (s.seenEntry q.port p) 14 = false))
  ∧ (∀ (s : State) (q : Req) (write : Bool) (p : Nat), q.dev = true → (s.pageCheck q write p = none ↔ bit (s.seenEntry q.port p) 15 = true))

/-- A read of DRAM that passes answers its bytes in little-endian order and changes nothing else; a write that passes stores its bytes and no
other. A refused access answers an error with data 0, leaves DRAM as it was, and a refusal of the page owner table counts for its requester
and sets POT:EV_RAW.denied. A hart in a vale leaves it when an access is refused, and ends its frame; a hart elsewhere takes an access fault
for poisoned data. A request through BAR2 of a mapped function is checked as its instance's. -/
def Obligations.MemoryAccesses : Prop :=
  (∀ (s : State) (who : Initiator) (a : Addr) (n : Nat), a.toNat < s.variant.dramTop → s.memFault (s.reqOf who) false a.toNat n = none → ∃
     t, exec (.memoryAccess who a (.read n)) s = .next t ∧ t.resp = (s.okResp (leVal (s.readBytes a.toNat n))).resp ∧ t.dram = s.dram ∧
     t.faults = s.faults)
  ∧ (∀ (s : State) (who : Initiator) (a : Addr) (d : List Byte), a.toNat < s.variant.dramTop → s.memFault (s.reqOf who) true a.toNat
     d.length = none → ∃ t, exec (.memoryAccess who a (.write d)) s = .next t ∧ (∀ k < d.length, t.byteAt (a.toNat + k) = d.getD k 0) ∧ (∀
     x, x < a.toNat ∨ a.toNat + d.length ≤ x → t.byteAt x = s.byteAt x) ∧ t.resp.ok = true)
  ∧ (∀ (s : State) (who : Initiator) (a : Addr) (op : MemOp) (c x : Nat), a.toNat < s.variant.dramTop → s.memFault (s.reqOf who) (memWrites
     op) a.toNat (memLen op) = some (c, x) → (match who with | .hart h _ => (s.hart h.val).vale.isNone | _ => true) = true → ∃ t, exec
     (.memoryAccess who a op) s = .next t ∧ t.resp = ⟨false, 0⟩ ∧ t.dram = s.dram ∧ (c ≠ Code.DRAM_POISON → c ≠ Code.DRAM_OFFLINE → c ≠
     Code.INST_NOT_RUNNING → bit (t.rd (HDR.ev_raw .pot)) 9 = true))
  ∧ (∀ (s : State) (f : Fin 64) (off : BitVec 37) (n : Nat), s.rd PWR.STATE.state ≤ 1 → s.on BOOT.BOOT_STAT.recovery = false → s.on
     MGR.VF_MAP.valid (b := f.val) = true ∧ s.rd MGR.VF_MAP.inst (b := f.val) ≠ 0 ∧ s.instState (s.rd MGR.VF_MAP.inst (b := f.val)) ≠ 0 →
     off.toNat < s.variant.dramTop → s.memFault { id := s.rd MGR.VF_MAP.inst (b := f.val), port := portPcie } false off.toNat n = none → ∃
     t, exec (.pcieRequest f true off (.read n)) s = .next t ∧ t.resp = (s.okResp (leVal (s.readBytes off.toNat n))).resp ∧ t.cpl = some
     .successful ∧ t.dram = s.dram)
  ∧ (∀ (s : State) (f : Fin 64) (bar2 : Bool) (off : BitVec 37) (op : MemOp), 2 ≤ s.rd PWR.STATE.state ∧ s.rd PWR.STATE.state ≤ 4 → ∃ t,
     exec (.pcieRequest f bar2 off op) s = .next t ∧ t.resp = s.errResp.resp ∧ t.cpl = (if memWrites op then none else some .unsupported) ∧
     t.dram = s.dram ∧ t.regs = s.regs)
  ∧ (∀ (s : State) (h : Fin 16) (m : Mode) (a : Addr) (op : MemOp) (c x v : Nat), a.toNat < s.variant.dramTop → s.memFault (s.reqOf (.hart h
     m)) (memWrites op) a.toNat (memLen op) = some (c, x) → (s.hart h.val).vale = some v → ∃ t, exec (.memoryAccess (.hart h m) a op) s =
     .next t ∧ (t.hart h.val).vale = none ∧ (t.hart h.val).trap = (s.hart h.val).trapFrom true false 24 0 0 (s.hart h.val).enterPc)
  ∧ (∀ (s : State) (h : Fin 16) (m : Mode) (a : Addr) (op : MemOp) (x : Nat), a.toNat < s.variant.dramTop → s.memFault (s.reqOf (.hart h m))
     (memWrites op) a.toNat (memLen op) = some (Code.DRAM_POISON, x) → (s.hart h.val).vale = none → ∃ t, exec (.memoryAccess (.hart h m) a
     op) s = .next t ∧ t.dram = s.dram ∧ t.resp.ok = false ∧ (t.hart h.val).trap.map (fun y => y.cause) = some (if op matches .fetch _ then
     1 else 5))

/-- A request that arrives alone at an idle subchannel is served in its command slot: it counts 64 bytes for its port and one read or write for
its subchannel. A read that ECC finds clean or corrected answers the line's 64 bytes; a full-line write replaces the line and its poison; a
partial write merges its bytes. A poisoned line, or one found uncorrectable, answers an error; the latter is poisoned from then on and
counts for the physical rank that holds the address. An offline subchannel answers an error. Of two waiting requests the slot serves the one
that comes first by class, urgency and row hit, and the older of equals; in one slot of every 32 the older. A subchannel that retrains
serves none. -/
def Obligations.DramRequests : Prop :=
  (∀ (s : State) (n : Fin 8) (r : DramReq) (f : Ecc), s.mem.pool = [] ∧ subchannel r.pa.toNat = n.val ∧ mget s.mem.retrain n.val 0 = 0 →
     r.pa.toNat < s.variant.dramTop ∧ s.on DRAM.SUB_STAT.offline n.val = false → r.write = false → mget s.mem.poison (r.pa.toNat / 64) 0 = 0
     → f ≠ .ue → ∃ t, exec (.dramRequest n [r] 0 f) s = .next t ∧ t.resp = ⟨true, s.rdMem (r.pa.toNat / 64 * 64) 64⟩ ∧ t.dram = s.dram ∧
     t.mem.pool = [] ∧ t.counter .dram n.val 0 = (s.counter .dram n.val 0 + 1) % 2 ^ 64 ∧ t.counter .dramq 0 r.port.val = (s.counter .dramq
     0 r.port.val + 64) % 2 ^ 64)
  ∧ (∀ (s : State) (n : Fin 8) (r : DramReq) (f : Ecc), s.mem.pool = [] ∧ subchannel r.pa.toNat = n.val ∧ mget s.mem.retrain n.val 0 = 0 →
     r.pa.toNat < s.variant.dramTop ∧ s.on DRAM.SUB_STAT.offline n.val = false → r.write = true → r.pa.toNat % 64 = 0 ∧ r.data.length = 64 →
     ∃ t, exec (.dramRequest n [r] 0 f) s = .next t ∧ t.resp.ok = true ∧ t.rdBytes r.pa.toNat 64 = r.data ∧ mget t.mem.poison (r.pa.toNat /
     64) 0 = 0 ∧ t.counter .dram n.val 1 = (s.counter .dram n.val 1 + 1) % 2 ^ 64)
  ∧ (∀ (s : State) (n : Fin 8) (r : DramReq) (x : Byte), s.mem.pool = [] ∧ subchannel r.pa.toNat = n.val ∧ mget s.mem.retrain n.val 0 = 0 →
     r.pa.toNat < s.variant.dramTop ∧ s.on DRAM.SUB_STAT.offline n.val = false → r.write = true ∧ r.data = [x] → mget s.mem.poison
     (r.pa.toNat / 64) 0 = 0 → ∃ t, exec (.dramRequest n [r] 0 .clean) s = .next t ∧ t.resp.ok = true ∧ t.byteAt r.pa.toNat = x ∧ (∀ a, a ≠
     r.pa.toNat → t.byteAt a = s.byteAt a))
  ∧ (∀ (s : State) (n : Fin 8) (r : DramReq) (f : Ecc), s.mem.pool = [] ∧ subchannel r.pa.toNat = n.val ∧ mget s.mem.retrain n.val 0 = 0 →
     r.pa.toNat < s.variant.dramTop ∧ s.on DRAM.SUB_STAT.offline n.val = false → r.write = false → mget s.mem.poison (r.pa.toNat / 64) 0 ≠ 0
     → ∃ t, exec (.dramRequest n [r] 0 f) s = .next t ∧ t.resp = ⟨false, 0⟩ ∧ t.counter .dram n.val 14 = (s.counter .dram n.val 14 + 1) % 2
     ^ 64)
  ∧ (∀ (s : State) (n : Fin 8) (r : DramReq), s.mem.pool = [] ∧ subchannel r.pa.toNat = n.val ∧ mget s.mem.retrain n.val 0 = 0 → r.pa.toNat
     < s.variant.dramTop ∧ s.on DRAM.SUB_STAT.offline n.val = false → r.write = false → mget s.mem.poison (r.pa.toNat / 64) 0 = 0 → ∃ t,
     exec (.dramRequest n [r] 0 .ue) s = .next t ∧ t.resp = ⟨false, 0⟩ ∧ mget t.mem.poison (r.pa.toNat / 64) 0 = 1 ∧ t.counter .dram n.val
     (9 + s.rankOf r.pa.toNat) = (s.counter .dram n.val (9 + s.rankOf r.pa.toNat) + 1) % 2 ^ 64)
  ∧ (∀ (s : State) (n : Fin 8) (r : DramReq) (f : Ecc), s.mem.pool = [] ∧ subchannel r.pa.toNat = n.val ∧ mget s.mem.retrain n.val 0 = 0 →
     s.on DRAM.SUB_STAT.offline n.val = true → ∃ t, exec (.dramRequest n [r] 0 f) s = .next t ∧ t.resp = ⟨false, 0⟩ ∧ t.dram = s.dram)
  ∧ (∀ (s : State) (n : Fin 8) (a b : DramWait) (f : Ecc), s.mem.pool = [a, b] ∧ mget s.mem.retrain n.val 0 = 0 → subchannel a.req.pa.toNat
     = n.val ∧ subchannel b.req.pa.toNat = n.val → a.req.pa.toNat / 64 ≠ b.req.pa.toNat / 64 → mget s.mem.slots n.val 0 ≠ 31 → ∃ t, exec
     (.dramRequest n [] 0 f) s = .next t ∧ t.mem.pool = [if s.pickKey b < s.pickKey a then a else b])
  ∧ (∀ (s : State) (n : Fin 8) (a b : DramWait) (f : Ecc), s.mem.pool = [a, b] ∧ mget s.mem.retrain n.val 0 = 0 → subchannel a.req.pa.toNat
     = n.val ∧ subchannel b.req.pa.toNat = n.val → a.req.pa.toNat / 64 ≠ b.req.pa.toNat / 64 → mget s.mem.slots n.val 0 = 31 → ∃ t, exec
     (.dramRequest n [] 0 f) s = .next t ∧ t.mem.pool = [b])
  ∧ (∀ (s : State) (n : Fin 8) (l : List DramReq) (k : Nat) (f : Ecc), mget s.mem.retrain n.val 0 ≠ 0 → ∃ t, exec (.dramRequest n l k f) s =
     .next t ∧ t.mem.pool.length = s.mem.pool.length + l.length ∧ t.dram = s.dram)

/-- Each refresh counts, and one on a subchannel whose sparing copy waits makes the logical rank name the spare. A poll shows the temperatures,
and one above 85 °C asks for hot refresh. A replay counts its commands; the eighth within 1 ms starts a retraining, whose end starts the
watch that takes the subchannel offline at the eighth replay. The liveness test signals the fault line on a mismatch or a latency above 20
µs. -/
def Obligations.DramRefreshAndReplay : Prop :=
  (∀ (s : State) (n : Fin 8), ∃ t, exec (.dramRefresh n) s = .next t ∧ t.counter .dram n.val 2 = (s.counter .dram n.val 2 + 1) % 2 ^ 64 ∧
     (s.rd DRAM.SPARE_STAT.state n.val = 2 → t.rd DRAM.SPARE_STAT.state n.val = 3 ∧ t.rd DRAM.SUB_STAT.spare_avail n.val = 0 ∧ bit (t.rd
     (HDR.ev_raw .dram) n.val) 17 = true))
  ∧ (∀ (s : State) (temps : List Byte), ∃ t, exec (.mr4Poll temps) s = .next t ∧ (∀ n < 8, t.rd DRAM.REF_STAT.temp n = (temps.getD n
     0).toNat) ∧ ((∃ n < 8, 85 < (temps.getD n 0).toNat) → t.mem.hotWanted = true) ∧ (∀ n < 8, 95 < (temps.getD n 0).toNat → bit (t.rd
     (HDR.ev_raw .dram) n) 14 = true))
  ∧ (∀ (s : State) (n : Fin 8) (c : Fin 64), ∃ t, exec (.caReplay n c) s = .next t ∧ t.counter .dram n.val 3 = (s.counter .dram n.val 3 + 1)
     % 2 ^ 64 ∧ t.counter .dram n.val 4 = (s.counter .dram n.val 4 + (s.faulted n.val c.val).length) % 2 ^ 64 ∧ bit (t.rd (HDR.ev_raw .dram)
     n.val) 10 = true)
  ∧ (∀ (s : State) (n : Fin 8) (c : Fin 64), mget s.mem.retrained n.val 0 = 0 → (s.recentReplays n.val).length = 7 → ∃ t, exec (.caReplay n
     c) s = .next t ∧ mget t.mem.retrain n.val 0 = 1 ∧ bit (t.rd (HDR.ev_raw .dram) n.val) 11 = true ∧ t.rd DRAM.SUB_STAT.offline n.val =
     s.rd DRAM.SUB_STAT.offline n.val)
  ∧ (∀ (s : State) (n : Fin 8) (c : Fin 64), mget s.mem.retrained n.val 0 ≠ 0 ∧ s.now + 1 < mget s.mem.retrained n.val 0 + 1000000 → mget
     s.mem.after n.val 0 = 7 → ∃ t, exec (.caReplay n c) s = .next t ∧ t.rd DRAM.SUB_STAT.offline n.val = 1 ∧ bit (t.rd (HDR.ev_raw .dram)
     n.val) 12 = true ∧ t.faults.length = s.faults.length + 1)
  ∧ (∀ (s : State) (n : Fin 8), mget s.mem.retrain n.val 0 ≠ 0 → ∃ t, exec (.caRetrainDone n) s = .next t ∧ mget t.mem.retrain n.val 0 = 0 ∧
     mget t.mem.retrained n.val 0 = s.now + 1 ∧ mget t.mem.after n.val 0 = 0)
  ∧ (∀ (s : State) (m : Bool) (l : Nat), m = true ∨ 20000 < l → ∃ t, exec (.livenessTest m l) s = .next t ∧ t.faults.length =
     s.faults.length + 1 ∧ t.faults.getLast?.map (fun g => (g.code, g.heads)) = some (Code.SAFE_DRAM_TEST, 0xFF))
  ∧ (∀ (s : State) (l : Nat), l ≤ 20000 → ∃ t, exec (.livenessTest false l) s = .next t ∧ t.safe.dramBad = false ∧ t.faults = s.faults ∧
     t.counter .dramq 0 13 = (s.counter .dramq 0 13 + 64 * (if s.variant = .a32 then 16 else 48)) % 2 ^ 64 ∧ t.dram = s.dram)

/-- SPARE_CMD.start on a subchannel with a spare, no copy running and no entry under way starts the copy of its rank; while a copy runs it is
refused with DRAM_SPARE_BUSY and an error response, with no spare with DRAM_SPARE_NONE. An accepted start between E1 and E4 of an entry is
deferred. Cancel ends a copy that has not switched. A finished copy waits for the switch with every bad line poisoned and all of its units
shown as done. A class other than 2, or a rate, written for the selected port within ADMIT_CAP is taken, and ADMIT_USED follows; above it
the write is refused with DRAM_ADMIT and nothing changes. ADMIT_EFF of 128 to 240 that covers what is admitted gives the new ADMIT_CAP. At
the end of a window every reservation that must be broken is broken, and the window's traffic starts from zero. -/
def Obligations.SparingAndAdmission : Prop :=
  (∀ (s : State) (w : Who) (n : Fin 8) (rank : Fin 4), accepts s w .dram n.val 0x114 (0x100 + rank.val) = true → s.rd
     DRAM.SPARE_STAT.state n.val ≠ 1 ∧ s.rd DRAM.SPARE_STAT.state n.val ≠ 2 → s.on DRAM.SUB_STAT.spare_avail n.val = true →
     s.entryBeforeCommit = false → ∃ t, exec (.spareStart w n rank) s = .next t ∧ t.rd DRAM.SPARE_STAT.state n.val = 1 ∧ t.rd
     DRAM.SPARE_STAT.rank n.val = rank.val ∧ t.rd DRAM.SPARE_STAT.cause n.val = 0 ∧ t.rd DRAM.SPARE_STAT.done_64k n.val = 0 ∧ bit (t.rd
     (HDR.ev_raw .dram) n.val) 16 = true)
  ∧ (∀ (s : State) (w : Who) (n : Fin 8) (rank : Fin 4) (c : Nat), accepts s w .dram n.val 0x114 (0x100 + rank.val) = true → s.spareBad
     n.val = some c → exec (.spareStart w n rank) s = .next (((s.okResp.recErr .dram n.val c w.rid 0x114).raise .dram n.val 15).errResp))
  ∧ (∀ (s : State) (w : Who) (n : Fin 8) (rank : Fin 4), accepts s w .dram n.val 0x114 (0x100 + rank.val) = true → s.spareBad n.val = none →
     s.entryBeforeCommit = true → ∃ t, exec (.spareStart w n rank) s = .next t ∧ t.resp.ok = true ∧ t.rd DRAM.SPARE_STAT.state n.val = s.rd
     DRAM.SPARE_STAT.state n.val ∧ t.rd DRAM.SPARE_STAT.deferred n.val = 1 ∧ mget t.mem.deferred n.val 0 = 1 + rank.val)
  ∧ (∀ (s : State) (w : Who) (n : Fin 8), accepts s w .dram n.val 0x114 0x200 = true → s.rd DRAM.SPARE_STAT.state n.val = 1 ∨ s.rd
     DRAM.SPARE_STAT.state n.val = 2 → ∃ t, exec (.spareCancel w n) s = .next t ∧ t.rd DRAM.SPARE_STAT.state n.val = 0 ∧ t.resp.ok = true)
  ∧ (∀ (s : State) (n : Fin 8) (bad : List Addr), s.rd DRAM.SPARE_STAT.state n.val = 1 → ∃ t, exec (.spareCopyDone n bad) s = .next t ∧ t.rd
     DRAM.SPARE_STAT.state n.val = 2 ∧ t.rd DRAM.SPARE_STAT.done_64k n.val = 65535 ∧ t.counter .dram n.val 18 = (s.counter .dram n.val 18 +
     rankLines) % 2 ^ 64 ∧ (∀ a ∈ bad, mget t.mem.poison (a.toNat / 64) 0 = 1))
  ∧ (∀ (s : State) (w : Who) (v : Word) (p : Nat), accepts s w .dramq 0 0x108 v.toNat = true → p = s.rd DRAMQ.PORT_SEL.port → s.portHeld p ≤
     s.rd DRAMQ.ADMIT_USED.used → s.rd DRAMQ.ADMIT_USED.used + portReserve (s.rd DRAMQ.PORT_CFG.cls (b := p)) (v.toNat % 65536) - s.portHeld
     p ≤ s.rd DRAMQ.ADMIT_CAP.cap ∧ s.rd DRAMQ.ADMIT_CAP.cap < 65536 → ∃ t, exec (.portReservationWrite w true v) s = .next t ∧ t.rd
     DRAMQ.PORT_RATE.rate (b := p) = v.toNat % 65536 ∧ t.rd DRAMQ.ADMIT_USED.used = s.rd DRAMQ.ADMIT_USED.used + portReserve (s.rd
     DRAMQ.PORT_CFG.cls (b := p)) (v.toNat % 65536) - s.portHeld p ∧ t.resp.ok = true)
  ∧ (∀ (s : State) (w : Who) (v : Word) (p : Nat), accepts s w .dramq 0 0x108 v.toNat = true → p = s.rd DRAMQ.PORT_SEL.port → s.portHeld p <
     portReserve (s.rd DRAMQ.PORT_CFG.cls (b := p)) (v.toNat % 65536) → s.rd DRAMQ.ADMIT_CAP.cap < s.rd DRAMQ.ADMIT_USED.used + (portReserve
     (s.rd DRAMQ.PORT_CFG.cls (b := p)) (v.toNat % 65536) - s.portHeld p) → exec (.portReservationWrite w true v) s = .next
     ((s.okResp.refuse .dramq 0 Code.DRAM_ADMIT w.rid 0x108).raise .dramq 0 10))
  ∧ (∀ (s : State) (w : Who) (v : Word) (p : Nat), accepts s w .dramq 0 0x104 v.toNat = true → p = s.rd DRAMQ.PORT_SEL.port → v.toNat % 4 ≠
     2 → s.portHeld p ≤ s.rd DRAMQ.ADMIT_USED.used → s.rd DRAMQ.ADMIT_USED.used + portReserve (v.toNat % 4) (s.rd DRAMQ.PORT_RATE.rate (b :=
     p)) - s.portHeld p ≤ s.rd DRAMQ.ADMIT_CAP.cap ∧ s.rd DRAMQ.ADMIT_CAP.cap < 65536 → ∃ t, exec (.portReservationWrite w false v) s =
     .next t ∧ t.rd DRAMQ.PORT_CFG.cls (b := p) = v.toNat % 4 ∧ t.rd DRAMQ.ADMIT_USED.used = s.rd DRAMQ.ADMIT_USED.used + portReserve
     (v.toNat % 4) (s.rd DRAMQ.PORT_RATE.rate (b := p)) - s.portHeld p ∧ t.resp.ok = true)
  ∧ (∀ (s : State) (w : Who) (v : Word), accepts s w .dramq 0 0x104 v.toNat = true → v.toNat % 4 = 2 → exec (.portReservationWrite w false
     v) s = .next (s.okResp.refuse .dramq 0 Code.DRAMQ_RANGE w.rid 0x104))
  ∧ (∀ (s : State) (w : Who) (v : Word), accepts s w .dramq 0 0x120 v.toNat = true → 128 ≤ v.toNat % 256 ∧ v.toNat % 256 ≤ 240 → s.rd
     DRAMQ.ADMIT_USED.used ≤ admitCap (v.toNat % 256) → ∃ t, exec (.admitEffWrite w v) s = .next t ∧ t.rd DRAMQ.ADMIT_EFF.eff = v.toNat %
     256 ∧ t.rd DRAMQ.ADMIT_CAP.cap = admitCap (v.toNat % 256) ∧ t.resp.ok = true)
  ∧ (∀ (s : State) (n : Nat), ∃ t, exec (.qosWindow n) s = .next t ∧ t.mem.conf = [] ∧ t.mem.confPort = [] ∧ (n * 64 * s.rd
     DRAMQ.ADMIT_EFF.eff / 256 < ((s.reservations.filter (fun r => !s.mem.broken.contains r.1)).map s.windowDemand).sum → ∀ r ∈ s.toBreak (n
     * 64 * s.rd DRAMQ.ADMIT_EFF.eff / 256) (s.reservations.filter (fun r => !s.mem.broken.contains r.1)).length (s.reservations.filter (fun
     r => !s.mem.broken.contains r.1)), r ∈ t.mem.broken))

/-- For the ring in CTX_SEL, in its instance's quota and of an instance that is not Free: READ puts the sixteen context words into CTX_DATA;
WRITE gives a Disabled ring the words of CTX_DATA; ENABLE of a Disabled ring that passes R186 makes it Idle or Ready; DISABLE stops its
fetching, and with nothing in flight it is Disabled; MIGRATE marks another engine of its class as its target, and the migration ends with
the ring on it, counter 11, the event and a ring notice. ENABLE of a ring that is not Disabled is recorded as RING_CTX_STATE. -/
def Obligations.RingContextOperations : Prop :=
  (∀ (s : State) (w : Who) (r : Nat), accepts s w .rsched 0 0x104 1 = true → r = s.rd RSCHED.CTX_SEL.ring → s.instState (ringInst r) ≠ 0 ∧
     s.inQuota r = true → ∃ t, exec (.ctxRead w) s = .next t ∧ (∀ k < 16, t.rd RSCHED.CTX_DATA.word 0 k = (s.ring r).word k % 2 ^ 32) ∧
     t.resp.ok = true)
  ∧ (∀ (s : State) (w : Who) (r : Nat), accepts s w .rsched 0 0x104 2 = true → r = s.rd RSCHED.CTX_SEL.ring → s.instState (ringInst r) ≠ 0 ∧
     s.inQuota r = true → (s.ring r).st = 0 → ∃ t, exec (.ctxWrite w) s = .next t ∧ t.ring r = (s.ring r).fromWords (fun k => s.rd
     RSCHED.CTX_DATA.word 0 k) ∧ t.resp.ok = true)
  ∧ (∀ (s : State) (w : Who) (r : Nat), accepts s w .rsched 0 0x104 3 = true → r = s.rd RSCHED.CTX_SEL.ring → s.instState (ringInst r) = 1 ∨
     s.instState (ringInst r) = 2 → s.inQuota r = true ∧ (s.ring r).st = 0 → s.enableOk r = true → (s.ring r).pin = true → s.rd
     RSCHED.PIN_COUNT.pinned < 1024 → ∃ t, exec (.ctxEnable w) s = .next t ∧ (t.ring r).enable = true ∧ (t.ring r).st = (if (s.ring r).head
     = (s.ring r).tail ∨ (s.ring r).type = 7 then 1 else 2) ∧ ((s.ring r).pin = true → t.rd RSCHED.PIN_COUNT.pinned = s.rd
     RSCHED.PIN_COUNT.pinned + 1))
  ∧ (∀ (s : State) (w : Who) (r : Nat), accepts s w .rsched 0 0x104 3 = true → r = s.rd RSCHED.CTX_SEL.ring → s.instState (ringInst r) ≠ 0 ∧
     s.inQuota r = true → (s.ring r).st ≠ 0 → exec (.ctxEnable w) s = .next (s.okResp.recErr .rsched 0 Code.RING_CTX_STATE w.rid 0x104))
  ∧ (∀ (s : State) (w : Who) (r : Nat), accepts s w .rsched 0 0x104 4 = true → r = s.rd RSCHED.CTX_SEL.ring → s.instState (ringInst r) ≠ 0 ∧
     s.inQuota r = true → ∃ t, exec (.ctxDisable w) s = .next t ∧ (t.ring r).enable = false ∧ (t.ring r).pre = [] ∧ ((s.ring r).inflight = 0
     → s.owesRecord r = false → (t.ring r).st = 0))
  ∧ (∀ (s : State) (r : Fin 262144), (s.ring r.val).enable = false ∧ (s.ring r.val).inflight = 0 → s.owesRecord r.val = false → ∃ t, exec
     (.ringDisabled r) s = .next t ∧ (t.ring r.val).st = 0)
  ∧ (∀ (s : State) (w : Who) (n : Fin 16) (r : Nat), accepts s w .rsched 0 0x104 (5 + n.val * 256) = true → r = s.rd RSCHED.CTX_SEL.ring →
     s.instState (ringInst r) ≠ 0 ∧ s.inQuota r = true → (s.ring r).st ≠ 0 ∧ (s.ring r).migrating = false ∧ (s.ring r).type ≠ 7 →
     classMigrates (s.ring r).cls = true ∧ n.val < classEngines (s.ring r).cls ∧ n.val ≠ (s.ring r).engine → (s.ring r).type = 3 →
     s.dmaServes n.val (ringInst r) (s.ring r).world = true → ∃ t, exec (.ctxMigrate w n) s = .next t ∧ (t.ring r).migrating = true ∧
     (t.ring r).target = n.val ∧ (t.ring r).engine = (s.ring r).engine ∧ (t.ring r).pre = [])
  ∧ (∀ (s : State) (r : Fin 262144), (s.ring r.val).migrating = true ∧ (s.ring r.val).inflight = 0 → s.owesRecord r.val = false → ∃ t, exec
     (.migrateDone r) s = .next t ∧ (t.ring r.val).engine = (s.ring r.val).target ∧ (t.ring r.val).migrating = false ∧ t.counter .rsched 0
     11 = (s.counter .rsched 0 11 + 1) % 2 ^ 64 ∧ bit (t.rd (HDR.ev_raw .rsched)) 12 = true ∧ t.rings.recs.length = s.rings.recs.length + 1)

/-- A producer update that fits the ring's free entries moves its tail; one that does not halts the ring with RING_OVERRUN. A consumer update of
a completion queue moves its head over records not yet consumed. A fence notify reads the waits again. RESUME and ABORT act on the halted
job of the DMA ring. A doorbell whose operation R189 does not list is dropped, counted in counter 1 and recorded, and one of an instance
that is not Running is dropped and counted in MGR counter 5. -/
def Obligations.Doorbells : Prop :=
  (∀ (s : State) (k : Fin 64) (r : Fin 4096) (v : BitVec 24) (id : Nat), id = k.val * 4096 + r.val ∧ s.instState k.val = 2 → s.inQuota id
     = true ∧ (s.ring id).st ≠ 0 ∧ (s.ring id).type ≠ 7 → (v.toNat + 2 ^ 24 - (s.ring id).tail) % 2 ^ 24 ≤ (s.ring id).entries - (s.ring
     id).waiting → ∃ t, exec (.doorbellProducerUpdate k r v) s = .next t ∧ (t.ring id).tail = v.toNat ∧ (t.ring id).head = (s.ring id).head
     ∧ t.counter .rsched 0 0 = (s.counter .rsched 0 0 + 1) % 2 ^ 64)
  ∧ (∀ (s : State) (k : Fin 64) (r : Fin 4096) (v : BitVec 24) (id : Nat), id = k.val * 4096 + r.val ∧ s.instState k.val = 2 → s.inQuota id
     = true ∧ (s.ring id).st ≠ 0 ∧ (s.ring id).type ≠ 7 → (s.ring id).entries - (s.ring id).waiting < (v.toNat + 2 ^ 24 - (s.ring id).tail)
     % 2 ^ 24 → ∃ t, exec (.doorbellProducerUpdate k r v) s = .next t ∧ (t.ring id).st = 4 ∧ (t.ring id).lastErr = Code.RING_OVERRUN ∧
     (t.ring id).tail = (s.ring id).tail ∧ bit (t.rd (HDR.ev_raw .rsched)) 9 = true)
  ∧ (∀ (s : State) (k : Fin 64) (r : Fin 4096) (v : BitVec 24) (id : Nat), id = k.val * 4096 + r.val ∧ s.instState k.val = 2 → s.inQuota id
     = true ∧ (s.ring id).st ≠ 0 ∧ (s.ring id).type = 7 → ((s.ring id).tail + 2 ^ 24 - v.toNat) % 2 ^ 24 ≤ (s.ring id).waiting → ∃ t, exec
     (.doorbellConsumerUpdate k r v) s = .next t ∧ (t.ring id).head = v.toNat ∧ (t.ring id).tail = (s.ring id).tail ∧ t.counter .rsched 0 0
     = (s.counter .rsched 0 0 + 1) % 2 ^ 64)
  ∧ (∀ (s : State) (k : Fin 64) (slot : Fin 4096), s.instState k.val = 2 → slot.val < s.fenceSlots k.val → ∃ t, exec (.doorbellFenceNotify k
     slot) s = .next t ∧ t.counter .rsched 0 8 = (s.counter .rsched 0 8 + 1) % 2 ^ 64 ∧ t.counter .rsched 0 0 = (s.counter .rsched 0 0 + 1)
     % 2 ^ 64)
  ∧ (∀ (s : State) (k : Fin 64) (r : Fin 4096) (id : Nat) (j : Job), id = k.val * 4096 + r.val ∧ s.instState k.val = 2 → s.inQuota id = true
     ∧ (s.ring id).st ≠ 0 ∧ (s.ring id).type = 3 ∧ (s.ring id).overrun = false → s.halted (s.ring id).engine = some j ∧ j.ring = id → ∃ t,
     exec (.doorbellResume k r) s = .next t ∧ (t.ring id).st ≠ 4 ∧ t.rd DMA.STAT.state (s.ring id).engine = 1 ∧ (t.job 2 (s.ring
     id).engine).map (·.phase) = some 0)
  ∧ (∀ (s : State) (k : Fin 64) (r : Fin 4096) (id : Nat) (j : Job), id = k.val * 4096 + r.val ∧ s.instState k.val = 2 → s.inQuota id = true
     ∧ (s.ring id).st ≠ 0 ∧ (s.ring id).type = 3 ∧ (s.ring id).overrun = false → s.halted (s.ring id).engine = some j ∧ j.ring = id → ∃ t,
     exec (.doorbellAbort k r) s = .next t ∧ t.job 2 (s.ring id).engine = none ∧ t.rd DMA.STAT.state (s.ring id).engine = 0 ∧ (t.ring
     id).lastErr = Code.DMA_ABORTED)
  ∧ (∀ (s : State) (k : Fin 64) (r : Fin 4096) (v : Word), s.instState k.val = 2 → bits v.toNat 28 4 = 2 ∨ 5 ≤ bits v.toNat 28 4 → ∃ t, exec
     (.ringDoorbellInvalid k r v) s = .next t ∧ t.counter .rsched 0 1 = (s.counter .rsched 0 1 + 1) % 2 ^ 64 ∧ bit (t.rd (HDR.ev_raw
     .rsched)) 8 = true ∧ t.rd (HDR.err_valid .rsched) ≠ 0 ∧ t.rings = s.rings)
  ∧ (∀ (s : State) (k : Fin 64) (r : Fin 4096) (v : BitVec 24), s.instState k.val ≠ 2 → ∃ t, exec (.doorbellProducerUpdate k r v) s = .next
     t ∧ t.counter .rsched 0 1 = (s.counter .rsched 0 1 + 1) % 2 ^ 64 ∧ t.counter .mgr 0 5 = (s.counter .mgr 0 5 + 1) % 2 ^ 64 ∧ t.rings =
     s.rings)

/-- A ring that fetches takes its next entry from memory and counts it. A free DMA engine starts the job of the ring it serves next, unless its
descriptor breaks R203. A registered wait whose slot has reached its value is met. A wait beyond its ring's limit ends the job with a record
and counts in counter 10. The first record due in a queue that takes records is written as the 32 bytes of R198 at the queue's tail, which
advances. The queue's interrupt timer, when it has run out, sends one message for the records since the last. An event record goes to the
queue that EVQ names; without one it is dropped, counted in counter 7, and recorded as EVQ_OVERFLOW. -/
def Obligations.JobsFencesAndEvents : Prop :=
  (∀ (s : State) (r : Fin 262144) (c : Ring), c = s.ring r.val ∧ s.fetches r.val = true → c.waitMet = true ∧ (c.pre.head?.map (·.1)).getD
     0 = 0 → (List.range 8).all (fun p => !(s.on SURF.STREAM_CFG.enable p && s.hapRing p == r.val)) = true → (List.range 64).all (fun k =>
     !(s.on AUDIO.STRM_CFG.enable (b := k) && s.rd AUDIO.STRM_CFG.ring (b := k) == r.val)) = true → s.memFault (reqFor (s.ringRid r.val)
     (portOf c.cls c.engine) c.hint) false (c.base + ((c.head + c.pre.length) % c.entries) * entrySize c.type) (entrySize c.type) = none → ∃
     t, exec (.descriptorFetch r) s = .next t ∧ (c.pre ≠ [] → (t.ring r.val).pre = c.pre ++ [(0, 0, s.rdBytes (c.base + ((c.head +
     c.pre.length) % c.entries) * entrySize c.type) (entrySize c.type))]) ∧ t.counter .rsched 0 4 = (s.counter .rsched 0 4 + 1) % 2 ^ 64)
  ∧ (∀ (s : State) (n : Fin 16) (r : Nat), n.val < 8 ∧ s.job 2 n.val = none → s.pickRing 2 n.val = some r → dmaBad (((s.ring
     r).pre.head?.map (·.2.2)).getD []) = false → ∃ t, exec (.jobStart 2 n) s = .next t ∧ (t.job 2 n.val).map (fun j => (j.ring, j.seq,
     j.phase)) = some (r, (s.ring r).seq, 0) ∧ t.rd DMA.STAT.state n.val = 1 ∧ t.counter .dma n.val 0 = (s.counter .dma n.val 0 + 1) % 2 ^
     64)
  ∧ (∀ (s : State) (r : Fin 262144) (f v : Nat) (d : List Byte) (l : List (Nat × Nat × List Byte)), (s.ring r.val).st = 3 ∧ (s.ring
     r.val).waitReg = true ∧ (s.ring r.val).waitMet = false → (s.ring r.val).pre = (0, 0, d) :: l ∧ entryWait (s.ring r.val).type d = some
     (f, v) → f % 1024 < s.fenceSlots (f / 1024) ∧ mget s.rings.aband (f / 1024) 0 = 0 → s.memFault (reqFor (instRid (ringInst r.val))
     portDevice false) false (s.fenceAddr f) 8 = none ∧ v ≤ s.rdMem (s.fenceAddr f) 8 → ∃ t, exec (.fenceWaitMet (.ring r)) s = .next t ∧
     (t.ring r.val).waitMet = true ∧ (t.ring r.val).waitReg = false ∧ (t.ring r.val).st ≠ 3)
  ∧ (∀ (s : State) (r : Fin 262144) (d : List Byte) (l : List (Nat × Nat × List Byte)), (s.ring r.val).st = 3 ∧ s.waitedOut (s.ring
     r.val).waitAt (s.ring r.val).waitLimit = true → (s.ring r.val).pre = (0, 0, d) :: l ∧ entryWait (s.ring r.val).type d ≠ none → ∃ t,
     exec (.fenceTimeout (.ring r)) s = .next t ∧ s.rings.recs.length < t.rings.recs.length ∧ t.counter .rsched 0 10 = (s.counter .rsched 0
     10 + 1) % 2 ^ 64)
  ∧ (∀ (s : State) (n : Fin 16) (r : Nat), n.val < 2 ∧ s.gfxCur n.val = none ∧ s.job 0 n.val = none → s.compActive = false ∧ s.compReady 0 =
     none ∧ s.compReady 1 = none → s.gfx.held.find? (s.gfxResumable n.val) = none ∧ s.pickAmong 0 n.val (s.gfxEligible n.val) = some r → ∃
     t, exec (.jobStart 0 n) s = .next t ∧ (t.job 0 n.val).map (fun j => (j.ring, j.seq, j.phase)) = some (r, (s.ring r).seq, 0))
  ∧ (∀ (s : State) (n : Fin 16) (r : Nat), n.val < 4 ∧ s.job 1 n.val = none ∧ s.compOn n.val = true → s.pickAmong 1 n.val ((s.readyRings 1
     n.val).filter (fun r => decide ((s.pend (s.nextHead n.val r)).length < 32))) = some r → ∃ t, exec (.jobStart 1 n) s = .next t ∧ (t.job
     1 n.val).map (fun j => (j.ring, j.seq, j.phase)) = some (r, (s.ring r).seq, 0))
  ∧ (∀ (s : State) (cls : Fin 5) (n : Fin 16), 3 ≤ cls.val ∨ (s.job cls.val n.val).isSome = true → exec (.jobStart cls n) s = .next s)
  ∧ (∀ (s : State) (key f v : Nat) (x : Wait), s.waitOf key = some x ∧ x.met = false ∧ x.code = 0 ∧ x.fence = f ∧ x.value = v → f % 1024 <
     s.fenceSlots (f / 1024) ∧ mget s.rings.aband (f / 1024) 0 = 0 → s.memFault (reqFor x.rid portDevice false) false (s.fenceAddr f) 8 =
     none ∧ v ≤ s.rdMem (s.fenceAddr f) 8 → ∃ t, exec (.fenceWaitMet (.other key)) s = .next t ∧ (t.waitOf key).all (fun y => y.met) = true)
  ∧ (∀ (s : State) (key r : Nat) (x : Wait), s.waitOf key = some x ∧ x.met = false ∧ x.code = 0 → s.waitRing key = some r ∧ s.waitedOut
     x.since (s.ring r).waitLimit = true → ∃ t, exec (.fenceTimeout (.other key)) s = .next t ∧ (t.waitOf key).all (fun y => y.code ==
     Code.FENCE_TIMEOUT) = true ∧ t.counter .rsched 0 10 = (s.counter .rsched 0 10 + 1) % 2 ^ 64)
  ∧ (∀ (s : State) (q : Fin 262144) (e : RecDue) (l : List RecDue) (c : Ring), c = s.ring q.val ∧ c.takes = true → takeDue (fun e =>
     s.queueOf e.ring == q.val) s.rings.recs = some (e, l) → s.memFault (reqFor (s.ringRid q.val) (portOf (e.source / 4096) (e.source / 256
     % 16)) c.hint) true (c.base + (c.tail % c.entries) * 32) 32 = none → ∃ t, exec (.completionRecordWrite q) s = .next t ∧ t.rings.recs =
     l ∧ (t.ring q.val).tail = (c.tail + 1) % 2 ^ 24 ∧ t.rdBytes (c.base + (c.tail % c.entries) * 32) 32 = recBytes (e.ring % 4096) e.kind
     (c.phase + (if e.final then 2 else 0) + (if e.partly then 4 else 0)) e.seq e.code e.source e.detail e.time e.info ∧ t.counter .rsched 0
     5 = (s.counter .rsched 0 5 + 1) % 2 ^ 64)
  ∧ (∀ (s : State) (q : Fin 262144), (s.ring q.val).irqEn = true ∧ 0 < (s.ring q.val).irqDue → s.past (s.ring q.val).irqAt (1000 * (s.ring
     q.val).irqTime) = true → ∃ t, exec (.cqIrqTimer q) s = .next t ∧ (t.ring q.val).irqDue = 0 ∧ t.sent.length = s.sent.length + 1)
  ∧ (∀ (s : State) (k : Fin 64) (e : EvRec) (l : List EvRec) (q : Nat) (c : Ring), takeEv (fun e => e.recipient == k.val) s.events = some
     (e, l) → s.evQueue k.val = some q ∧ c = s.ring q ∧ c.takes = true → s.memFault (reqFor (s.ringRid q) portDevice c.hint) true (c.base +
     (c.tail % c.entries) * 32) 32 = none → ∃ t, exec (.eventRecordDeliver k) s = .next t ∧ t.events = l ∧ (t.ring q).tail = (c.tail + 1) %
     2 ^ 24 ∧ t.rdBytes (c.base + (c.tail % c.entries) * 32) 32 = recBytes 0xFFFF 2 (c.phase + (if mget s.rings.evLost k.val 0 ≠ 0 then 8
     else 0)) e.seq e.code e.source e.detail e.time 0 ∧ mget t.rings.evLost k.val 0 = 0)
  ∧ (∀ (s : State) (k : Fin 64) (e : EvRec) (l : List EvRec), takeEv (fun e => e.recipient == k.val) s.events = some (e, l) → s.evQueue
     k.val = none → ∃ t, exec (.eventRecordDeliver k) s = .next t ∧ t.events = l ∧ mget t.rings.evLost k.val 0 = 1 ∧ t.counter .rsched 0 7 =
     (s.counter .rsched 0 7 + 1) % 2 ^ 64 ∧ bit (t.rd (HDR.ev_raw .rsched)) 11 = true)

/-- A GATHER, SCATTER or FILL of one element that passes its checks leaves the destination holding the source's bytes or the pattern's, and the
job moved; a FENCE moves nothing. A moved job without a fence ends, its engine free. A failed one halts the engine with CAUSE, ELEM and
FAIL_ADDR latched and its ring halted. RESUME restarts it, ABORT and the halt limit end it, each counted. -/
def Obligations.DmaJobs : Prop :=
  (∀ (s : State) (n : Fin 8) (j : Job) (a len : Nat), s.job 2 n.val = some j ∧ j.phase = 0 ∧ j.elem = 0 ∧ j.done = 0 → dmaOp j.desc = 1 ∧
     dmaCrc j.desc = 0 → s.dmaReadList (s.jobReq j) (dmaList j.desc) (dmaCount j.desc - j.list.length) j.list = ([(a, len)], false, none) ∧
     len ≤ 1048576 → (s.fetched (s.jobReq j) (dmaList j.desc + 16 * j.list.length) (16 * (1 - j.list.length))).memFault (s.jobReq j) false a
     len = none ∧ (((s.fetched (s.jobReq j) (dmaList j.desc + 16 * j.list.length) (16 * (1 - j.list.length))).fetched (s.jobReq j) a
     len).count .dma n.val 1 len).memFault (s.jobReq j) true (field j.desc 0x10 8) len = none → ∃ t, exec (.dmaGather n) s = .next t ∧
     t.rdBytes (field j.desc 0x10 8) len = s.rdBytes a len ∧ (t.job 2 n.val).map (fun k => (k.phase, k.done)) = some (1, len))
  ∧ (∀ (s : State) (n : Fin 8) (j : Job) (a len : Nat), s.job 2 n.val = some j ∧ j.phase = 0 ∧ j.elem = 0 ∧ j.done = 0 → dmaOp j.desc = 2 ∧
     dmaCrc j.desc = 0 → s.dmaReadList (s.jobReq j) (dmaList j.desc) (dmaCount j.desc - j.list.length) j.list = ([(a, len)], false, none) ∧
     len ≤ 1048576 → (s.fetched (s.jobReq j) (dmaList j.desc + 16 * j.list.length) (16 * (1 - j.list.length))).memFault (s.jobReq j) false
     (field j.desc 8 8) len = none ∧ (((s.fetched (s.jobReq j) (dmaList j.desc + 16 * j.list.length) (16 * (1 - j.list.length))).fetched
     (s.jobReq j) (field j.desc 8 8) len).count .dma n.val 1 len).memFault (s.jobReq j) true a len = none → ∃ t, exec (.dmaScatter n) s =
     .next t ∧ t.rdBytes a len = s.rdBytes (field j.desc 8 8) len ∧ (t.job 2 n.val).map (fun k => (k.phase, k.done)) = some (1, len))
  ∧ (∀ (s : State) (n : Fin 8) (j : Job) (a len : Nat), s.job 2 n.val = some j ∧ j.phase = 0 ∧ j.elem = 0 ∧ j.done = 0 → dmaOp j.desc = 3 ∧
     dmaCrc j.desc = 0 → s.dmaReadList (s.jobReq j) (dmaList j.desc) (dmaCount j.desc - j.list.length) j.list = ([(a, len)], false, none) ∧
     len ≤ 1048576 → (s.fetched (s.jobReq j) (dmaList j.desc + 16 * j.list.length) (16 * (1 - j.list.length))).memFault (s.jobReq j) true a
     len = none → ∃ t, exec (.dmaFill n) s = .next t ∧ t.rdBytes a len = fillBytes (field j.desc 4 4) 0 len ∧ (t.job 2 n.val).map (fun k =>
     (k.phase, k.done)) = some (1, len))
  ∧ (∀ (s : State) (n : Fin 8) (j : Job), s.job 2 n.val = some j ∧ j.phase = 0 → dmaOp j.desc = 4 → ∃ t, exec (.dmaFence n) s = .next t ∧
     t.job 2 n.val = some { j with phase := 1 } ∧ t.dram = s.dram)
  ∧ (∀ (s : State) (n : Fin 8) (j : Job), s.job 2 n.val = some j ∧ j.phase = 1 → bit (field j.desc 0 4) 17 = false → ∃ t, exec (.dmaJobDone
     n) s = .next t ∧ t.job 2 n.val = none ∧ t.rd DMA.STAT.state n.val = 0 ∧ t.rings.recs.length = s.rings.recs.length + (if bit (field
     j.desc 0 4) 18 then 0 else 1))
  ∧ (∀ (s : State) (n : Fin 8) (j : Job), s.job 2 n.val = some j ∧ j.phase = 2 → ∃ t, exec (.dmaBusError n) s = .next t ∧ (t.job 2
     n.val).map (·.phase) = some 3 ∧ t.rd DMA.STAT.state n.val = 2 ∧ t.rd DMA.CAUSE.code n.val = j.failCode % 65536 ∧ t.rd DMA.ELEM.index
     n.val = j.failElem % 16 ∧ t.rd DMA.ELEM.dir n.val = j.failDir % 2 ∧ t.rd DMA.FAIL_ADDR.addr_lo n.val = j.failAddr % 2 ^ 32 ∧ (t.ring
     j.ring).st = 4 ∧ t.counter .dma n.val 3 = (s.counter .dma n.val 3 + 1) % 2 ^ 64 ∧ bit (t.rd (HDR.ev_raw .dma) n.val) 8 = true)
  ∧ (∀ (s : State) (w : Who) (n : Fin 8) (j : Job), accepts s w .dma n.val 0x120 1 = true → s.halted n.val = some j → (s.ring
     j.ring).overrun = false → ∃ t, exec (.dmaCtrlResume w n) s = .next t ∧ (t.job 2 n.val).map (·.phase) = some 0 ∧ t.rd DMA.STAT.state
     n.val = 1 ∧ (t.ring j.ring).st ≠ 4 ∧ t.counter .dma n.val 4 = (s.counter .dma n.val 4 + 1) % 2 ^ 64)
  ∧ (∀ (s : State) (w : Who) (n : Fin 8) (j : Job), accepts s w .dma n.val 0x120 2 = true → s.halted n.val = some j → (s.ring
     j.ring).overrun = false → ∃ t, exec (.dmaCtrlAbort w n) s = .next t ∧ t.job 2 n.val = none ∧ t.rd DMA.STAT.state n.val = 0 ∧ (t.ring
     j.ring).lastErr = Code.DMA_ABORTED ∧ t.counter .dma n.val 5 = (s.counter .dma n.val 5 + 1) % 2 ^ 64)
  ∧ (∀ (s : State) (w : Who) (n : Fin 8), accepts s w .dma n.val 0x120 2 = true → s.halted n.val = none → exec (.dmaCtrlAbort w n) s = .next
     (s.okResp.refuse .dma n.val Code.DMA_NOT_HALTED w.rid 0x120))
  ∧ (∀ (s : State) (n : Fin 8) (j : Job), s.halted n.val = some j → s.past j.haltAt (ms (max 1 (s.rd DMA.HALT_LIMIT.ms n.val))) = true → ∃
     t, exec (.dmaHaltTimeout n) s = .next t ∧ t.job 2 n.val = none ∧ (t.ring j.ring).lastErr = Code.DMA_HALT_TIMEOUT ∧ t.counter .dma n.val
     6 = (s.counter .dma n.val 6 + 1) % 2 ^ 64 ∧ bit (t.rd (HDR.ev_raw .dma) n.val) 9 = true)
  ∧ (∀ (s : State) (w : Who) (n : Fin 8) (j : Job), accepts s w .dma n.val 0x120 1 = true → s.halted n.val = some j → (s.ring
     j.ring).overrun = true → exec (.dmaCtrlResume w n) s = .next (s.okResp.refuse .dma n.val Code.DMA_NOT_HALTED w.rid 0x120))

/-- For a packet at the head of a running job's command buffer that the job can read: viewport, scissor, blend constant, depth bias and stencil
reference are remembered under their sub; STATE_TARGETS opens a pass on the targets of its table; BIND_PIPELINE of an accepted image binds
it; BIND_SET, BIND_VERTEX, BIND_INDEX and BIND_PUSH are remembered under the slots they name. Each moves the job past its words. A
misaligned address ends the job. -/
def Obligations.GraphicsStatePackets : Prop :=
  (∀ (s : State) (e : Fin 2) (r : GfxRun) (w : List Nat), packetAt s e.val 1 2 r w = true → ∃ t, exec (.gfxStateViewport e) s = .next t ∧
     t.gfxCur e.val = some { r.note 1 2 0 w with pc := r.pc + 7 })
  ∧ (∀ (s : State) (e : Fin 2) (r : GfxRun) (w : List Nat), packetAt s e.val 1 3 r w = true → ∃ t, exec (.gfxStateScissor e) s = .next t ∧
     t.gfxCur e.val = some { r.note 1 3 0 w with pc := r.pc + 3 })
  ∧ (∀ (s : State) (e : Fin 2) (r : GfxRun) (w : List Nat), packetAt s e.val 1 4 r w = true → ∃ t, exec (.gfxStateBlendConst e) s = .next t
     ∧ t.gfxCur e.val = some { r.note 1 4 0 w with pc := r.pc + 5 })
  ∧ (∀ (s : State) (e : Fin 2) (r : GfxRun) (w : List Nat), packetAt s e.val 1 5 r w = true → ∃ t, exec (.gfxStateDepthBias e) s = .next t ∧
     t.gfxCur e.val = some { r.note 1 5 0 w with pc := r.pc + 4 })
  ∧ (∀ (s : State) (e : Fin 2) (r : GfxRun) (w : List Nat), packetAt s e.val 1 6 r w = true → ∃ t, exec (.gfxStateStencilRef e) s = .next t
     ∧ t.gfxCur e.val = some { r.note 1 6 0 w with pc := r.pc + 2 })
  ∧ (∀ (s : State) (e : Fin 2) (r : GfxRun) (w : List Nat) (fx : GfxFx) (n tab cnt : Nat), packetAt s e.val 1 1 r w = true ∧ quietPass r fx
     = true → n = bits (wordAt w 1) 0 3 ∧ n ≤ 4 ∧ cnt = n + (if bit (wordAt w 1) 8 then 1 else 0) → bits (wordAt w 1) 16 4 = 1 ∨ bits
     (wordAt w 1) 16 4 = 2 ∨ bits (wordAt w 1) 16 4 = 4 → tab = pairAt w 2 ∧ tab % 16 = 0 ∧ (afterPacket s r w).memFault (s.gfxReq r) false
     tab (48 * cnt) = none → (List.range cnt).all (fun i => s.targetOk (tab + 48 * i) (s.rdMem (tab + 0xC) 2) (s.rdMem (tab + 0xE) 2) (bits
     (wordAt w 1) 16 4) (decide (n ≤ i))) = true → ∃ t, exec (.gfxStateTargets e fx) s = .next t ∧ (t.gfxCur e.val).map (fun x => (x.pass,
     x.pc, x.targets)) = some (true, r.pc + 4, (List.range cnt).map (fun i => s.targetAt (tab + 48 * i))))
  ∧ (∀ (s : State) (e : Fin 2) (r : GfxRun) (w : List Nat) (a : Nat), packetAt s e.val 2 1 r w = true → a = pairAt w 1 ∧ a % 4096 = 0 ∧
     (afterPacket s r w).memFault (s.gfxReq r) false a 16 = none → s.rdMem a 4 = 0x4950474E ∧ s.rdMem (a + 4) 1 = 1 ∧ s.rdMem (a + 5) 1 = 0
     → ∃ t, exec (.gfxBindPipeline e) s = .next t ∧ t.gfxCur e.val = some { r.note 2 1 0 w with bound := true, pc := r.pc + 3 })
  ∧ (∀ (s : State) (e : Fin 2) (r : GfxRun) (w : List Nat), packetAt s e.val 2 2 r w = true → pairAt w 2 % 32 = 0 → ∃ t, exec (.gfxBindSet
     e) s = .next t ∧ t.gfxCur e.val = some { r.note 2 2 (bits (wordAt w 1) 0 2) w with pc := r.pc + 4 })
  ∧ (∀ (s : State) (e : Fin 2) (r : GfxRun) (w : List Nat), packetAt s e.val 2 2 r w = true → pairAt w 2 % 32 ≠ 0 → ∃ t, exec (.gfxBindSet
     e) s = .next t ∧ t.gfxCur e.val = none ∧ t.counter .gfx 0 9 = (s.counter .gfx 0 9 + 1) % 2 ^ 64)
  ∧ (∀ (s : State) (e : Fin 2) (r : GfxRun) (w : List Nat), packetAt s e.val 2 3 r w = true → 1 ≤ bits (wordAt w 1) 4 5 ∧ bits (wordAt w 1)
     4 5 ≤ 16 → ∃ t, exec (.gfxBindVertex e) s = .next t ∧ t.gfxCur e.val = some
     { (List.range (bits (wordAt w 1) 4 5)).foldl (fun q i => q.note 2 3 (bits (wordAt w 1) 0 4 + i) ((w.drop (2 + 3 * i)).take 3)) r with pc := r.pc + w.length })
  ∧ (∀ (s : State) (e : Fin 2) (r : GfxRun) (w : List Nat), packetAt s e.val 2 4 r w = true → pairAt w 2 % (if bit (wordAt w 1) 0 then 4
     else 2) = 0 → ∃ t, exec (.gfxBindIndex e) s = .next t ∧ t.gfxCur e.val = some { r.note 2 4 0 w with pc := r.pc + 5 })
  ∧ (∀ (s : State) (e : Fin 2) (r : GfxRun) (w : List Nat), packetAt s e.val 2 5 r w = true → bits (wordAt w 1) 0 8 % 4 = 0 ∧ bits (wordAt w
     1) 0 8 + 4 * (w.length - 2) ≤ 256 → ∃ t, exec (.gfxBindPush e) s = .next t ∧ t.gfxCur e.val = some
     { (List.range (w.length - 2)).foldl (fun q i => q.note 2 5 (bits (wordAt w 1) 0 8 / 4 + i) [wordAt w (2 + i)]) r with pc := r.pc + w.length })

/-- In a pass with a bound pipeline that matches, a DRAW counts its draws, and the stores of its work, where the job may write, wait in its
caches for the next point that makes writes visible. A DISPATCH counts, and an open pass ends with it; an indirect one with a count of 0
does nothing but that. A draw that is not in a pass, or that does not match, ends the job as a bad packet. A barrier outside a pass makes
the writes before it reach memory, and moves on. -/
def Obligations.GraphicsWorkPackets : Prop :=
  (∀ (s : State) (e : Fin 2) (r : GfxRun) (w : List Nat) (fx : GfxFx) (a : Addr) (d : List Byte), packetAt s e.val 3 1 r w = true → r.pass
     = true ∧ r.bound = true ∧ fx.match_ = true → fx.reads = [] ∧ fx.writes = [(a, d)] ∧ (afterPacket s r w).memFault (s.gfxReq r) true
     a.toNat d.length = none → ∃ t, exec (.gfxDrawDirect e fx) s = .next t ∧ t.counter .gfx 0 1 = (s.counter .gfx 0 1 + 1) % 2 ^ 64 ∧
     (t.gfxCur e.val).map (fun x => (x.pc, x.draws)) = some (r.pc + 5, r.draws + 1) ∧ (t.gfxCur e.val).map (·.dirty) = some (r.dirty ++
     [(a.toNat, true, d)]) ∧ t.dram = s.dram)
  ∧ (∀ (s : State) (e : Fin 2) (r : GfxRun) (w : List Nat) (fx : GfxFx), packetAt s e.val 3 1 r w = true → r.pass = false ∨ r.bound = false
     ∨ fx.match_ = false → ∃ t, exec (.gfxDrawDirect e fx) s = .next t ∧ t.gfxCur e.val = none ∧ t.counter .gfx 0 9 = (s.counter .gfx 0 9 +
     1) % 2 ^ 64)
  ∧ (∀ (s : State) (e : Fin 2) (r : GfxRun) (w : List Nat) (fx : GfxFx) (a : Addr) (d : List Byte), packetAt s e.val 3 2 r w = true → r.pass
     = true ∧ r.bound = true ∧ fx.match_ = true → fx.reads = [] ∧ fx.writes = [(a, d)] ∧ (afterPacket s r w).memFault (s.gfxReq r) true
     a.toNat d.length = none → ∃ t, exec (.gfxDrawIndexed e fx) s = .next t ∧ t.counter .gfx 0 1 = (s.counter .gfx 0 1 + 1) % 2 ^ 64 ∧
     (t.gfxCur e.val).map (fun x => (x.pc, x.draws)) = some (r.pc + 6, r.draws + 1) ∧ (t.gfxCur e.val).map (·.dirty) = some (r.dirty ++
     [(a.toNat, true, d)]) ∧ t.dram = s.dram)
  ∧ (∀ (s : State) (e : Fin 2) (r : GfxRun) (w : List Nat) (fx : GfxFx) (n st size : Nat), packetAt s e.val 3 3 r w = true → r.pass = true ∧
     r.bound = true ∧ fx.match_ = true ∧ fx.reads = [] ∧ fx.writes = [] → n = bits (wordAt w 4) 0 16 ∧ st = bits (wordAt w 4) 16 16 ∧ size =
     (if bit (wordAt w 1) 0 then 20 else 16) → pairAt w 2 % 4 = 0 ∧ n ≠ 0 ∧ size ≤ st ∧ st % 4 = 0 → (List.range n).findSome? (fun i =>
     (afterPacket s r w).memFault (s.gfxReq r) false (pairAt w 2 + st * i) size) = none → ∃ t, exec (.gfxDrawIndirect e fx) s = .next t ∧
     t.counter .gfx 0 1 = (s.counter .gfx 0 1 + n) % 2 ^ 64 ∧ (t.gfxCur e.val).map (·.pc) = some (r.pc + 5))
  ∧ (∀ (s : State) (e : Fin 2) (r : GfxRun) (w : List Nat) (fx : GfxFx) (a : Addr) (d : List Byte), packetAt s e.val 4 1 r w = true →
     (w.drop 1).any (fun c => c == 0 || decide (65535 < c)) = false → quietPass r fx = true ∧ fx.reads = [] ∧ fx.writes = [(a, d)] ∧
     (afterPacket s r w).memFault (s.gfxReq r) true a.toNat d.length = none → ∃ t, exec (.gfxDispatchDirect e fx) s = .next t ∧ t.counter
     .gfx 0 2 = (s.counter .gfx 0 2 + 1) % 2 ^ 64 ∧ (t.gfxCur e.val).map (fun x => (x.pass, x.pc)) = some (false, r.pc + 4) ∧ (t.gfxCur
     e.val).map (·.dirty) = some (r.dirty ++ [(a.toNat, true, d)]))
  ∧ (∀ (s : State) (e : Fin 2) (r : GfxRun) (w : List Nat) (fx : GfxFx) (a : Nat), packetAt s e.val 4 2 r w = true ∧ quietPass r fx = true ∧
     fx.reads = [] ∧ fx.writes = [] → a = pairAt w 1 ∧ a % 4 = 0 ∧ (afterPacket s r w).memFault (s.gfxReq r) false a 12 = none → s.rdMem a 4
     ≤ 65535 ∧ s.rdMem (a + 4) 4 ≤ 65535 ∧ s.rdMem (a + 8) 4 ≤ 65535 → ∃ t, exec (.gfxDispatchIndirect e fx) s = .next t ∧ (t.gfxCur
     e.val).map (fun x => (x.pass, x.pc)) = some (false, r.pc + 3) ∧ t.counter .gfx 0 2 = (s.counter .gfx 0 2 + (if s.rdMem a 4 = 0 ∨
     s.rdMem (a + 4) 4 = 0 ∨ s.rdMem (a + 8) 4 = 0 then 0 else 1)) % 2 ^ 64)
  ∧ (∀ (s : State) (e : Fin 2) (r : GfxRun) (w : List Nat), packetAt s e.val 5 0 r w = true → r.pass = false → r.dirty = [] → ∃ t, exec
     (.gfxBarrier e) s = .next t ∧ t.gfxCur e.val = some { r with pc := r.pc + 1 } ∧ t.dram = s.dram)
  ∧ (∀ (s : State) (e : Fin 2) (r : GfxRun) (w : List Nat) (a : Nat) (h : Bool) (d : List Byte), packetAt s e.val 5 0 r w = true → r.pass =
     false → r.dirty = [(a, h, d)] → (afterPacket s r w).memFault { s.gfxReq r with hint := h } true a d.length = none → ∃ t, exec
     (.gfxBarrier e) s = .next t ∧ t.gfxCur e.val = some { r with pc := r.pc + 1, dirty := [] } ∧ t.rdBytes a d.length = d)

/-- SIGNAL writes its value into the fence's slot. WAIT on a slot that has reached its value moves on; on one that has not, the job yields its
front-end while fewer than eight have yielded there. A TIMESTAMP stores DEVTIME at its address, with the other writes that wait for the next
point that makes them visible. After its last packet the job ends: the front-end is free and its context Idle. A submission that keeps
R235's table runs in the context it names, counted; another ends as a bad packet. A ready compositor job preempts both front-ends, is
counted and shows how long it waited; later than 100 µs is counted and reported. A job that reaches no preemption point in time faults with
cause 4, one that runs beyond the job limit with cause 5, and one that meets a fault of R248 with its cause; each frees the front-end. -/
def Obligations.GraphicsSyncAndJobs : Prop :=
  (∀ (s : State) (e : Fin 2) (r : GfxRun) (w : List Nat) (f : Nat), packetAt s e.val 5 1 r w = true → f = bits (wordAt w 1) 0 16 ∧ f %
     1024 < s.fenceSlots (f / 1024) → (afterPacket s r w).memFault (s.gfxReq r) true (s.fenceAddr f) 8 = none → r.dirty = [] → ∃ t, exec
     (.gfxSignal e) s = .next t ∧ t.rdMem (s.fenceAddr f) 8 = pairAt w 2 ∧ t.gfxCur e.val = some
     { r with pc := r.pc + 4, wrote := (s.fenceAddr f, 8) :: r.wrote })
  ∧ (∀ (s : State) (e : Fin 2) (r : GfxRun) (w : List Nat) (f : Nat), packetAt s e.val 5 2 r w = true ∧ r.pass = false ∧ s.waitOf r.ctx =
     none ∧ s.waitCount < 4096 → f = bits (wordAt w 1) 0 16 ∧ f % 1024 < s.fenceSlots (f / 1024) ∧ mget s.rings.aband (f / 1024) 0 = 0 →
     (afterPacket s r w).memFault (reqFor (s.gfxReq r).id portDevice false) false (s.fenceAddr f) 8 = none → pairAt w 2 ≤ s.rdMem
     (s.fenceAddr f) 8 → ∃ t, exec (.gfxWait e) s = .next t ∧ t.gfxCur e.val = some { r with pc := r.pc + 4 } ∧ t.waitOf r.ctx = none)
  ∧ (∀ (s : State) (e : Fin 2) (r : GfxRun) (w : List Nat) (f : Nat), packetAt s e.val 5 2 r w = true ∧ r.pass = false ∧ s.waitOf r.ctx =
     none ∧ s.waitCount < 4096 → f = bits (wordAt w 1) 0 16 ∧ f % 1024 < s.fenceSlots (f / 1024) ∧ mget s.rings.aband (f / 1024) 0 = 0 →
     (afterPacket s r w).memFault (reqFor (s.gfxReq r).id portDevice false) false (s.fenceAddr f) 8 = none → s.rdMem (s.fenceAddr f) 8 <
     pairAt w 2 → (s.gfx.held.filter (fun y => y.fe == e.val && y.phase == 2)).length < 8 → ∃ t, exec (.gfxWait e) s = .next t ∧ t.gfxCur
     e.val = none ∧ t.gfx.held = s.gfx.held ++ [{ r with pc := r.pc + 4, phase := 2, ran := r.ranNs s.now }] ∧ t.rd GFX.CTX_STAT.state (b :=
     r.ctx) = 4)
  ∧ (∀ (s : State) (e : Fin 2) (r : GfxRun) (w : List Nat) (a : Nat), packetAt s e.val 6 0 r w = true → a = pairAt w 1 ∧ a % 8 = 0 ∧ a < 2 ^
     40 → (afterPacket s r w).memFault (s.gfxReq r) true a 8 = none ∧ s.now < 2 ^ 64 → ∃ t, exec (.gfxTimestampTop e) s = .next t ∧
     (t.gfxCur e.val).map (fun x => (x.pc, x.dirty)) = some (r.pc + 3, r.dirty ++ [(a, false, leBytes 8 s.now)]))
  ∧ (∀ (s : State) (e : Fin 2) (r : GfxRun) (w : List Nat) (a : Nat), packetAt s e.val 6 1 r w = true → a = pairAt w 1 ∧ a % 8 = 0 ∧ a < 2 ^
     40 → (afterPacket s r w).memFault (s.gfxReq r) true a 8 = none ∧ s.now < 2 ^ 64 → ∃ t, exec (.gfxTimestampBottom e) s = .next t ∧
     (t.gfxCur e.val).map (fun x => (x.pc, x.dirty)) = some (r.pc + 3, r.dirty ++ [(a, false, leBytes 8 s.now)]))
  ∧ (∀ (s : State) (e : Fin 2) (r : GfxRun) (fx : GfxFx), s.gfxCur e.val = some r ∧ r.fe = e.val ∧ r.phase = 0 ∧ r.words ≤ r.pc → quietPass
     r fx = true ∧ r.dirty = [] ∧ bit (field r.job.desc 0 4) 9 = false → ∃ t, exec (.gfxJobEnd e fx) s = .next t ∧ t.gfxCur e.val = none ∧
     t.rd GFX.CTX_STAT.state (b := r.ctx) = 1 ∧ t.rings.recs.length = s.rings.recs.length + (if bit (field r.job.desc 0 4) 10 then 0 else 1))
  ∧ (∀ (s : State) (e : Fin 2) (j : Job) (c : Nat), s.job 0 e.val = some j → s.submissionOk (instRid (ringInst j.ring)) j.desc (s.ownCtx
     (instRid (ringInst j.ring))).length = true → (s.ownCtx (instRid (ringInst j.ring))).getD (bits (field j.desc 0 4) 0 6) 0 = c ∧
     s.ctxState c = 1 ∧ s.compActive = false → ∃ t, exec (.gfxSubmission e) s = .next t ∧ (t.gfxCur e.val).map (fun r => (r.ctx, r.cmd,
     r.words, r.pc, r.phase)) = some (c, field j.desc 8 8, field j.desc 4 4, 0, 0) ∧ t.job 0 e.val = none ∧ t.rd GFX.CTX_STAT.state (b := c)
     = 2 ∧ t.counter .gfx 0 0 = (s.counter .gfx 0 0 + 1) % 2 ^ 64)
  ∧ (∀ (s : State) (e : Fin 2) (j : Job), s.job 0 e.val = some j → s.submissionOk (instRid (ringInst j.ring)) j.desc (s.ownCtx (instRid
     (ringInst j.ring))).length = false → ∃ t, exec (.gfxSubmission e) s = .next t ∧ t.gfxCur e.val = s.gfxCur e.val ∧ t.job 0 e.val = none
     ∧ (t.ring j.ring).lastErr = Code.GFX_BAD_PACKET ∧ t.counter .gfx 0 9 = (s.counter .gfx 0 9 + 1) % 2 ^ 64)
  ∧ (∀ (s : State) (e : Fin 2) (us r : Nat) (k : BitVec 2), s.compReady e.val = some r → s.compActive = false ∧ s.job 0 e.val = none → ∃ t,
     exec (.compositorPreempt e us k) s = .next t ∧ t.counter .gfx 0 6 = (s.counter .gfx 0 6 + 1) % 2 ^ 64 ∧ t.rd GFX.PREEMPT_LAST.us = min
     65535 us ∧ t.gfxCur (1 - e.val) = none ∧ (100 < us → bit (t.rd (HDR.ev_raw .gfx)) 9 = true ∧ t.counter .gfx 0 7 = (s.counter .gfx 0 7 +
     1) % 2 ^ 64))
  ∧ (∀ (s : State) (e : Fin 2) (us : Nat) (r : GfxRun), s.gfxCur e.val = some r ∧ r.fe = e.val ∧ r.phase = 0 ∧ r.comp = false → [0, 1].any
     (fun k => (s.compReady k).isSome) = true → s.killUs ≤ us → ∃ t, exec (.preemptKillExpiry e us) s = .next t ∧ t.gfxCur e.val = none ∧
     t.rd GFX.CTX_FAULT.cause (b := r.ctx) = 4 ∧ bit (t.rd (HDR.ev_raw .gfx)) 10 = true ∧ t.counter .gfx 0 8 = (s.counter .gfx 0 8 + 1) % 2
     ^ 64)
  ∧ (∀ (s : State) (e : Fin 2) (r : GfxRun), s.gfxCur e.val = some r ∧ r.fe = e.val ∧ r.phase = 0 → max 1 (s.rd GFX.JOB_LIMIT.ms) * 1000000
     < r.ranNs s.now → ∃ t, exec (.jobLimitExpiry e) s = .next t ∧ t.gfxCur e.val = none ∧ t.rd GFX.CTX_FAULT.cause (b := r.ctx) = 5 ∧
     (t.ring r.job.ring).lastErr = Code.GFX_CTX_FAULT ∧ bit (t.rd (HDR.ev_raw .gfx)) 8 = true)
  ∧ (∀ (s : State) (e : Fin 2) (r : GfxRun) (c : Fin 7) (code : BitVec 16) (a : Addr), s.gfxCur e.val = some r ∧ r.fe = e.val ∧ r.phase = 0
     → c ≠ 0 → ∃ t, exec (.gfxCtxFault e c code a) s = .next t ∧ t.gfxCur e.val = none ∧ t.rd GFX.CTX_FAULT.cause (b := r.ctx) = c.val ∧
     (t.ring r.job.ring).lastErr = Code.GFX_CTX_FAULT ∧ t.counter .gfx 0 8 = (s.counter .gfx 0 8 + 1) % 2 ^ 64)

/-- An engine takes the packet its ring has given it: one that keeps R256 to R258 joins its head's pending table behind the others, under the
next number. One whose header or record breaks them, or that names a layer of another owner, ends with a kind 1 record of its code and the
index of the record at fault, or 31, and changes no pending table. A write of LAYER_SUBST stores the colour of the layer in LAYER_SEL and a
1 in force asks for the substitute at the next latch. COEF_DATA stores the two taps of the word in COEF_SEL and moves to the next word,
carrying into the phase; for a bank in use it is refused with COMP_COEF_BUSY and counted. A writeback frame whose writes have their
responses is numbered in WB_SEQ and in the owner's signal slot. -/
def Obligations.CommitPacketsAndBanks : Prop :=
  (∀ (s : State) (n : Fin 4) (j : Job) (h : Nat) (rs : List (List Byte)), s.job 1 n.val = some j ∧ headerOk j.desc = true ∧ h = 2 * n.val
     + bits (field j.desc 0 4) 4 1 → s.memFault (reqFor (s.ringRid j.ring) (portComp n.val)) false (field j.desc 8 8) (64 * bits (field
     j.desc 0 4) 8 5) = none → rs = (List.range (bits (field j.desc 0 4) 8 5)).map (fun i => s.rdBytes (field j.desc 8 8 + 64 * i) 64) →
     (s.setJob 1 n.val none).packetFault (ringInst j.ring) h rs = none ∧ rs.all (fun r => !lWait r) = true → (List.range 16).all (fun i =>
     (s.waitOf (4096 + 16 * s.comp.nextId + i)).isNone) = true → ∃ t, exec (.commitPacket n) s = .next t ∧ t.job 1 n.val = none ∧
     t.comp.nextId = s.comp.nextId + 1 ∧ ⟨s.comp.nextId, j.ring, j.seq, j.desc, h, rs⟩ ∈ t.pend h)
  ∧ (∀ (s : State) (n : Fin 4) (j : Job), s.job 1 n.val = some j ∧ headerOk j.desc = false → s.comp.ends = [] ∧ (s.openPackets n.val).all
     (fun p => decide (s.comp.nextId ≤ p.id)) = true → exec (.commitPacket n) s = .next
     (({ s.setJob 1 n.val none with comp := { s.comp with nextId := s.comp.nextId + 1 } }).endJob j.ring 1 (bit (field j.desc 0 4) 17) false
     j.seq Code.COMP_BAD_PACKET 0 31))
  ∧ (∀ (s : State) (n : Fin 4) (j : Job) (rs : List (List Byte)) (c i : Nat), s.job 1 n.val = some j ∧ headerOk j.desc = true → s.memFault
     (reqFor (s.ringRid j.ring) (portComp n.val)) false (field j.desc 8 8) (64 * bits (field j.desc 0 4) 8 5) = none → rs = (List.range
     (bits (field j.desc 0 4) 8 5)).map (fun i => s.rdBytes (field j.desc 8 8 + 64 * i) 64) → (s.setJob 1 n.val none).packetFault (ringInst
     j.ring) (2 * n.val + bits (field j.desc 0 4) 4 1) rs = some (c, i) → s.comp.ends = [] ∧ (s.openPackets n.val).all (fun p => decide
     (s.comp.nextId ≤ p.id)) = true → exec (.commitPacket n) s = .next
     (({ (s.setJob 1 n.val none).fetched (reqFor (s.ringRid j.ring) (portComp n.val)) (field j.desc 8 8) (64 * bits (field j.desc 0 4) 8 5) with comp := { s.comp with nextId := s.comp.nextId + 1 } }).endJob
     j.ring 1 (bit (field j.desc 0 4) 17) false j.seq c 0 i) ∧ (c = Code.COMP_BAD_PACKET ∨ c = Code.COMP_LAYER_OWNER))
  ∧ (∀ (s : State) (h : Fin 8) (p : Packet) (r : List Byte) (l : Nat), s.on (HDR.enable .head) h.val = false ∧ s.rd HEAD.HEAD_STAT.state
     h.val = 0 ∧ s.compOn (engOf h.val) = true ∧ s.on (HDR.pending .comp) (engOf h.val) = false → s.pend h.val = [p] ∧ p.recs = [r] ∧ l =
     lLayer r ∧ lEnable r = true ∧ s.waitOf (4096 + p.id * 16) = none → ∃ t, exec (.disabledHeadLatch h) s = .next t ∧ t.pend h.val = [] ∧
     t.latched h.val = [] ∧ t.layer h.val l = ⟨r, true, none⟩ ∧ t.counter .comp (engOf h.val) 4 = (s.counter .comp (engOf h.val) 4 + 1) % 2
     ^ 64)
  ∧ (∀ (s : State) (h : Fin 8), s.on (HDR.enable .head) h.val = true ∨ s.rd HEAD.HEAD_STAT.state h.val ≠ 0 → exec (.disabledHeadLatch h) s =
     .next s)
  ∧ (∀ (s : State) (w : Who) (n : Fin 4) (v : Word) (k : Nat), accepts s w .comp n.val 0x148 v.toNat = true → k = s.rd COMP.LAYER_SEL.layer
     n.val ∧ bit v.toNat 31 = true → ∃ t, exec (.layerSubstForce w n v) s = .next t ∧ t.rd COMP.LAYER_SUBST.colour n.val (b := k) = bits
     v.toNat 0 30 ∧ t.rd COMP.LAYER_SUBST.force n.val (b := k) = 1 ∧ mget t.comp.substQ (lkey (2 * n.val + k / 16) (k % 16)) 0 = 1)
  ∧ (∀ (s : State) (w : Who) (n : Fin 4) (v : Word), accepts s w .comp n.val 0x134 v.toNat = true → bit (s.rd COMP.COEF_USE.banks n.val)
     (s.rd COMP.COEF_SEL.bank n.val) = false → ∃ t, exec (.coefDataWrite w n v) s = .next t ∧ t.rd COMP.COEF_DATA.taps n.val (b := ((s.rd
     COMP.COEF_SEL.bank n.val * 2 + s.rd COMP.COEF_SEL.table n.val) * 64 + s.rd COMP.COEF_SEL.phase n.val) * 4 + s.rd COMP.COEF_SEL.word
     n.val) = bits v.toNat 0 28 ∧ (t.rd COMP.COEF_SEL.phase n.val, t.rd COMP.COEF_SEL.word n.val) = (if s.rd COMP.COEF_SEL.word n.val < 3 -
     s.rd COMP.COEF_SEL.table n.val then (s.rd COMP.COEF_SEL.phase n.val, s.rd COMP.COEF_SEL.word n.val + 1) else ((s.rd COMP.COEF_SEL.phase
     n.val + 1) % 64, 0)))
  ∧ (∀ (s : State) (w : Who) (n : Fin 4) (v : Word), accepts s w .comp n.val 0x134 v.toNat = true → bit (s.rd COMP.COEF_USE.banks n.val)
     (s.rd COMP.COEF_SEL.bank n.val) = true → exec (.coefDataWrite w n v) s = .next ((s.okResp.refuse .comp n.val Code.COMP_COEF_BUSY w.rid
     0x134).count .comp n.val 15))
  ∧ (∀ (s : State) (h : Fin 8) (o i n j f w : Nat), (s.wb h.val).busy = true ∧ n = engOf h.val ∧ j = h.val % 2 → o = s.rd COMP.WB_CTRL.owner
     n j ∧ i = (if o = 0xFE then 0 else o) ∧ f = i * 1024 + s.rd COMP.WB_FENCE.signal_slot n j ∧ w = s.rd COMP.WB_SEQ.w n j + 1 → i < 64 ∧
     s.rd COMP.WB_FENCE.signal_slot n j < s.fenceSlots i ∧ s.memFault (reqFor (instRid i) portWb) true (s.fenceAddr f) 8 = none → ∃ t, exec
     (.wbFrameDone h) s = .next t ∧ t.rd COMP.WB_SEQ.w n j = w % 2 ^ 32 ∧ t.rdMem (s.fenceAddr f) 8 = w ∧ (t.wb h.val).busy = false ∧
     t.counter .comp n (8 + j) = (s.counter .comp n (8 + j) + 1) % 2 ^ 64)
  ∧ (∀ (s : State) (h : Fin 8), (s.wb h.val).busy = false → exec (.wbFrameDone h) s = .next s)

/-- When an enabled engine has composed a frame it is idle for the head, the back buffer is complete and the frame is counted. With every layer
disabled each of its pixels is the background colour in the head's Basin format. A layer whose fetch gets an error response is marked for
this frame, counted in counter 7 and flagged fetch_error; a layer that is disabled or already substituted is left, and an engine that is not
enabled composes nothing. Drawing a layer leaves pixels outside its destination rectangle as they were beneath and gives a substituted layer
its colour. -/
def Obligations.ComposedFrames : Prop :=
  (∀ (s : State) (h : Fin 8), mget s.comp.busy h.val 0 ≠ 0 → s.compOn (engOf h.val) = true → ∃ t, exec (.composeFrameDone h) s = .next t ∧
     mget t.comp.busy h.val 0 = 0 ∧ mget t.comp.complete h.val 0 = 1 ∧ t.counter .comp (engOf h.val) (h.val % 2) = (s.counter .comp (engOf
     h.val) (h.val % 2) + 1) % 2 ^ 64)
  ∧ (∀ (s : State) (h : Fin 8) (x y : Nat), mget s.comp.busy h.val 0 ≠ 0 ∧ s.on COMP.WB_CTRL.enable (engOf h.val) (h.val % 2) = false →
     (List.range 16).all (fun l => !(s.layer h.val l).enabled) = true → x < (s.compArea h.val).1 ∧ y < (s.compArea h.val).2 → s.compOn
     (engOf h.val) = true → ∃ t, exec (.composeFrameDone h) s = .next t ∧ t.basinRead (s.bufBase h.val (1 - s.rd HEAD.HEAD_STAT.front h.val)
     + y * basinPitch (s.compArea h.val).1 + 4 * x) 4 = basinPixel (s.on HEAD.FMT.bpc10 h.val) (colour30 (s.rd COMP.BG.colour (engOf h.val)
     (h.val % 2))))
  ∧ (∀ (s : State) (h : Fin 8), mget s.comp.busy h.val 0 = 0 → exec (.composeFrameDone h) s = .next s)
  ∧ (∀ (s : State) (h : Fin 8) (l : Fin 16) (code : BitVec 16) (addr : Addr), mget s.comp.busy h.val 0 ≠ 0 ∧ (s.layer h.val l.val).enabled =
     true ∧ (s.layer h.val l.val).subst = none ∧ mget s.comp.fetchBad (lkey h.val l.val) 0 = 0 → s.compOn (engOf h.val) = true → ∃ t, exec
     (.layerFetchError h l code addr) s = .next t ∧ mget t.comp.fetchBad (lkey h.val l.val) 0 = 1 ∧ t.counter .comp (engOf h.val) 7 =
     (s.counter .comp (engOf h.val) 7 + 1) % 2 ^ 64 ∧ bit (t.rd (HDR.ev_raw .comp) (engOf h.val)) 10 = true)
  ∧ (∀ (s : State) (h : Fin 8) (l : Fin 16) (code : BitVec 16) (addr : Addr), (s.layer h.val l.val).enabled = false ∨ (s.layer h.val
     l.val).subst ≠ none → exec (.layerFetchError h l code addr) s = .next s)
  ∧ (∀ (s : State) (n x y : Nat) (l : Layer) (d : Nat × Nat × Nat), l.enabled = false ∨ inDst l.raw x y = none → s.overLayer n l x y d = d)
  ∧ (∀ (s : State) (n x y c : Nat) (l : Layer) (d p : Nat × Nat × Nat) (i : Nat × Nat), l.enabled = true ∧ inDst l.raw x y = some i ∧
     l.subst = some c ∧ p = colour30 c → s.overLayer n l x y d = p)
  ∧ (∀ (s : State) (h : Fin 8), s.compOn (engOf h.val) = false → exec (.composeFrameDone h) s = .next s)
  ∧ (∀ (s : State) (h : Fin 8) (l : Fin 16) (code : BitVec 16) (addr : Addr), s.compOn (engOf h.val) = false → exec (.layerFetchError h l
     code addr) s = .next s)

/-- A write of GRAN_h that no rule of R275 refuses gives the head its base and count; a refused one records BASIN_GRANULE and assigns nothing. A
boot record that leaves an enabled head less than it needs holds that head on its safe state. A correctable error of a word in a scanned
buffer is counted; an uncorrectable one is counted, makes the word read as 0 and goes to the fault line. A window write stores its bytes, a
window read answers them. -/
def Obligations.BasinGranulesAndWords : Prop :=
  (∀ (s : State) (w : Who) (h : Fin 8) (v : Word), accepts s w .basin 0 (0x100 + 4 * h.val) v.toNat = true → w ≠ .boot ∨ s.on (HDR.enable
     .head) h.val = false → s.granBad h.val (bits v.toNat 0 8) (bits v.toNat 8 9) true = false → ∃ t, exec (.basinGranWrite w h v) s = .next
     t ∧ t.rd BASIN.GRAN.base 0 h.val = bits v.toNat 0 8 ∧ t.rd BASIN.GRAN.count 0 h.val = bits v.toNat 8 9 ∧ t.resp.ok = true)
  ∧ (∀ (s : State) (w : Who) (h : Fin 8) (v : Word), accepts s w .basin 0 (0x100 + 4 * h.val) v.toNat = true → w ≠ .boot ∨ s.on (HDR.enable
     .head) h.val = false → s.granBad h.val (bits v.toNat 0 8) (bits v.toNat 8 9) true = true → exec (.basinGranWrite w h v) s = .next
     (s.okResp.refuse .basin 0 Code.BASIN_GRANULE w.rid (0x100 + 4 * h.val)))
  ∧ (∀ (s : State) (h : Fin 8) (v : Word), accepts s .boot .basin 0 (0x100 + 4 * h.val) v.toNat = true → s.on (HDR.enable .head) h.val =
     true ∧ bits v.toNat 8 9 < granNeed (s.head h.val).area → exec (.basinGranWrite .boot h v) s = .next ((s.okResp.pinSafe h.val).refuse
     .basin 0 Code.BASIN_GRANULE (Who.boot.rid) (0x100 + 4 * h.val)) ∧ ((s.okResp.pinSafe h.val).shead h.val).pinned = true)
  ∧ (∀ (s : State) (h : Fin 8) (word : BitVec 25), s.inFront h.val word.toNat = true → s.bufHeads word.toNat = 2 ^ h.val → ∃ t, exec
     (.basinEccError h word true) s = .next t ∧ t.counter .basin 0 1 = (s.counter .basin 0 1 + 1) % 2 ^ 64 ∧ word.toNat ∈ (t.head
     h.val).zero ∧ bit (t.rd (HDR.ev_raw .basin)) 10 = true ∧ (⟨Code.BASIN_ECC_UE, Blk.typeCode .basin, 0, 2 ^ h.val, s.now⟩ : FaultSig) ∈
     t.faults)
  ∧ (∀ (s : State) (h : Fin 8) (word : BitVec 25), s.inFront h.val word.toNat = true → ∃ t, exec (.basinEccError h word false) s = .next t ∧
     t.counter .basin 0 0 = (s.counter .basin 0 0 + 1) % 2 ^ 64 ∧ t.heads = s.heads ∧ t.faults = s.faults ∧ bit (t.rd (HDR.ev_raw .basin)) 9
     = true)
  ∧ (∀ (s : State) (h : Fin 8) (word : BitVec 25) (ue : Bool), s.inFront h.val word.toNat = false → exec (.basinEccError h word ue) s =
     .next s)
  ∧ (∀ (s : State) (off : BitVec 28) (d : List Byte), winSizeOk off.toNat d.length = true → ∃ t, exec (.basinWindowAccess off (.write d)
     .clean) s = .next t ∧ (List.range d.length).map (fun k => mget t.basin (off.toNat + k) 0) = d ∧ t.resp.ok = true ∧ t.counter .basin 0 8
     = (s.counter .basin 0 8 + 1) % 2 ^ 64)
  ∧ (∀ (s : State) (off : BitVec 28) (n : Nat), winSizeOk off.toNat n = true → ∃ t, exec (.basinWindowAccess off (.read n) .clean) s = .next
     t ∧ t.resp.ok = true ∧ t.resp.data = s.basinRead off.toNat n ∧ t.basin = s.basin)

/-- Enabling a head whose timing, granules and Glint margin pass makes it starting, with its PLL enabled and not locked; a timing that breaks
R281 is refused with HEAD_TIMING, too few granules with BASIN_GRANULE. The lock makes it run; a retry is recorded in CLK and signalled to
the safety island. A disable stops a starting head at once and leaves a running one until its blanking. -/
def Obligations.HeadEnabling : Prop :=
  (∀ (s : State) (w : Who) (h : Fin 8), accepts s w .head h.val 0x008 1 = true → s.on (HDR.enable .head) h.val = false ∧ s.rd
     HEAD.HEAD_STAT.state h.val ≠ 2 → timingBad (s.hv h.val) h.val = none ∧ s.need h.val ≤ s.rd BASIN.GRAN.count 0 h.val → s.glintOn h.val =
     false → ∃ t, exec (.headEnable w h) s = .next t ∧ t.rd (HDR.enable .head) h.val = 1 ∧ t.rd HEAD.HEAD_STAT.state h.val = 1 ∧ t.rd
     HEAD.HEAD_STAT.pll_lock h.val = 0 ∧ t.rd CLK.PLL_STAT.enabled 0 h.val = 1 ∧ (t.shead h.val).pinned = false)
  ∧ (∀ (s : State) (w : Who) (h : Fin 8), accepts s w .head h.val 0x008 1 = true → s.on (HDR.enable .head) h.val = false ∧ s.rd
     HEAD.HEAD_STAT.state h.val ≠ 2 → timingBad (s.hv h.val) h.val ≠ none → exec (.headEnable w h) s = .next (s.okResp.refuse .head h.val
     Code.HEAD_TIMING w.rid 0x008))
  ∧ (∀ (s : State) (w : Who) (h : Fin 8), accepts s w .head h.val 0x008 1 = true → s.on (HDR.enable .head) h.val = false ∧ s.rd
     HEAD.HEAD_STAT.state h.val ≠ 2 → timingBad (s.hv h.val) h.val = none ∧ s.rd BASIN.GRAN.count 0 h.val < s.need h.val → exec (.headEnable
     w h) s = .next (s.okResp.refuse .head h.val Code.BASIN_GRANULE w.rid 0x008))
  ∧ (∀ (s : State) (h : Fin 8), s.rd HEAD.HEAD_STAT.state h.val = 1 ∧ s.pwr.osc = true → ∃ t, exec (.headPllLock h) s = .next t ∧ t.rd
     HEAD.HEAD_STAT.state h.val = 2 ∧ t.rd HEAD.HEAD_STAT.pll_lock h.val = 1 ∧ t.rd CLK.PLL_STAT.lock 0 h.val = 1)
  ∧ (∀ (s : State) (h : Fin 8), s.rd HEAD.HEAD_STAT.state h.val ≠ 1 → exec (.headPllLock h) s = .next s ∧ exec (.headPllRetry h) s = .next s)
  ∧ (∀ (s : State) (h : Fin 8), s.rd HEAD.HEAD_STAT.state h.val = 1 → exec (.headPllRetry h) s = .next ((((s.recErr .clk 0
     Code.CLK_PLL_UNLOCK ridBlock h.val).count .clk 0 h.val).raise .clk 0 8).faultLine Code.CLK_PLL_UNLOCK .clk 0 (2 ^ h.val)))
  ∧ (∀ (s : State) (w : Who) (h : Fin 8), accepts s w .head h.val 0x008 0 = true → s.rd HEAD.HEAD_STAT.state h.val = 1 → ∃ t, exec
     (.headDisable w h) s = .next t ∧ t.rd (HDR.enable .head) h.val = 0 ∧ t.rd HEAD.HEAD_STAT.state h.val = 0 ∧ t.rd CLK.PLL_STAT.enabled 0
     h.val = 0)
  ∧ (∀ (s : State) (w : Who) (h : Fin 8), accepts s w .head h.val 0x008 0 = true → s.rd HEAD.HEAD_STAT.state h.val ≠ 1 → exec (.headDisable
     w h) s = .next (s.okResp.wr (HDR.enable .head) 0 h.val))

/-- A running enabled head whose clock is not gated increments FRAME_CNT, stores DEVTIME in VBL_TIME and raises its event. With a complete back
buffer it flips: the other buffer is in front, FLIP_CNT holds the new frame count, and the engine starts the next frame. While the frame is
still composed there is no flip, and it counts as late. A head that has been disabled stops; one that does not run, or whose clock is gated,
does nothing. -/
def Obligations.VerticalBlanking : Prop :=
  (∀ (s : State) (h : Fin 8) (obs : FrameObs), s.rd HEAD.HEAD_STAT.state h.val = 2 ∧ s.on (HDR.enable .head) h.val = true → s.headClock
     h.val = true → ∃ t, exec (.vblankStart h obs) s = .next t ∧ t.rd HEAD.FRAME_CNT.count h.val = (s.rd HEAD.FRAME_CNT.count h.val + 1) % 2
     ^ 32 ∧ t.rd HEAD.VBL_TIME.time h.val = s.now % 2 ^ 64 ∧ bit (t.rd (HDR.ev_raw .head) h.val) 8 = true ∧ t.rd HEAD.HEAD_STAT.state h.val
     = 2)
  ∧ (∀ (s : State) (h : Fin 8) (obs : FrameObs), s.rd HEAD.HEAD_STAT.state h.val = 2 ∧ s.on (HDR.enable .head) h.val = true → s.compOn
     (engOf h.val) = true ∧ mget s.comp.complete h.val 0 ≠ 0 → s.headClock h.val = true → ∃ t, exec (.vblankStart h obs) s = .next t ∧ t.rd
     HEAD.HEAD_STAT.front h.val = 1 - s.rd HEAD.HEAD_STAT.front h.val ∧ t.rd HEAD.FLIP_CNT.count h.val = (s.rd HEAD.FRAME_CNT.count h.val +
     1) % 2 ^ 32 ∧ mget t.comp.busy h.val 0 = 1 ∧ mget t.comp.complete h.val 0 = 0 ∧ bit (t.rd (HDR.ev_raw .head) h.val) 9 = true)
  ∧ (∀ (s : State) (h : Fin 8) (obs : FrameObs), s.rd HEAD.HEAD_STAT.state h.val = 2 ∧ s.on (HDR.enable .head) h.val = true → s.compOn
     (engOf h.val) = true ∧ mget s.comp.complete h.val 0 = 0 ∧ mget s.comp.busy h.val 0 ≠ 0 → s.headClock h.val = true → ∃ t, exec
     (.vblankStart h obs) s = .next t ∧ t.rd HEAD.HEAD_STAT.front h.val = s.rd HEAD.HEAD_STAT.front h.val ∧ t.counter .comp (engOf h.val) (2
     + h.val % 2) = (s.counter .comp (engOf h.val) (2 + h.val % 2) + 1) % 2 ^ 64 ∧ mget t.comp.late h.val 0 = 1 ∧ mget t.comp.busy h.val 0 =
     mget s.comp.busy h.val 0)
  ∧ (∀ (s : State) (h : Fin 8) (obs : FrameObs), s.rd HEAD.HEAD_STAT.state h.val = 2 ∧ s.on (HDR.enable .head) h.val = false → s.headClock
     h.val = true → ∃ t, exec (.vblankStart h obs) s = .next t ∧ t.rd HEAD.HEAD_STAT.state h.val = 0 ∧ t.rd CLK.PLL_STAT.enabled 0 h.val = 0
     ∧ t.rd HEAD.FRAME_CNT.count h.val = (if (s.head h.val).soft then 0 else s.rd HEAD.FRAME_CNT.count h.val))
  ∧ (∀ (s : State) (h : Fin 8) (obs : FrameObs), s.rd HEAD.HEAD_STAT.state h.val ≠ 2 ∨ s.headClock h.val = false → exec (.vblankStart h obs)
     s = .next s)
  ∧ (∀ (s : State) (w : Who) (v : Word), accepts s w .basin 0 0x144 v.toNat = true → s.on BASIN.GRP_STAT.busy = true ∧ bits v.toNat 0 8 ≠ 0
     → exec (.grpArm w v) s = .next ((s.okResp.refuse .basin 0 Code.GRP_BUSY w.rid 0x144).count .basin 0 4))
  ∧ (∀ (s : State) (w : Who) (v : Word) (h : Fin 8), accepts s w .basin 0 0x144 v.toNat = true → s.on BASIN.GRP_STAT.busy = false ∧ v.toNat
     = 2 ^ h.val → s.on (HDR.pending .head) h.val = false ∧ s.headSetBad h.val = none ∧ s.linkSetBad h.val = false ∧ s.running h.val = true
     → ∃ t, exec (.grpArm w v) s = .next t ∧ t.rd BASIN.GRP_STAT.busy = 1 ∧ t.rd BASIN.GRP_STAT.members = 2 ^ h.val ∧ t.rd
     BASIN.GRP_STAT.applied = 0 ∧ t.rd BASIN.GRP_STAT.seq = (s.rd BASIN.GRP_STAT.seq + 1) % 256 ∧ t.rd (HDR.pending .head) h.val = 1 ∧ t.rd
     (HDR.group .head) h.val = 1)

/-- For a head acquiring, locked or in flywheel with its input selected: a pulse in its window is kept for the window's close, one outside it is
counted as a glitch. A close does nothing before the window has ended. The close of a window with one pulse makes it the new edge with none
missing. Without a pulse it counts as missing; a locked head goes to flywheel, and a head in flywheel is lost at the eighth. -/
def Obligations.Genlock : Prop :=
  (∀ (s : State) (n : Fin 2) (e : Bool) (h : Fin 8), s.glSrc h.val = n.val + 1 ∧ s.on HEAD.GL_CFG.edge h.val = e → 2 ≤ s.rd
     HEAD.GL_STAT.state h.val ∧ s.rd HEAD.GL_STAT.state h.val ≤ 4 → s.inWindow h.val s.now = true → ∃ t, exec (.genlockPulse n e) s = .next
     t ∧ (t.head h.val).pulses = (s.head h.val).pulses ++ [s.now])
  ∧ (∀ (s : State) (n : Fin 2) (e : Bool) (h : Fin 8), s.glSrc h.val = n.val + 1 ∧ s.on HEAD.GL_CFG.edge h.val = e → 2 ≤ s.rd
     HEAD.GL_STAT.state h.val ∧ s.rd HEAD.GL_STAT.state h.val ≤ 4 → s.inWindow h.val s.now = false → ∃ t, exec (.genlockPulse n e) s = .next
     t ∧ (t.head h.val).pulses = (s.head h.val).pulses ∧ t.counter .head h.val 6 = (s.counter .head h.val 6 + 1) % 2 ^ 64)
  ∧ (∀ (s : State) (h : Fin 8) (p : Nat), s.rd HEAD.GL_STAT.state h.val = 3 ∧ s.glSrc h.val ≠ 0 ∧ s.windowOver h.val = true ∧ (s.head
     h.val).pulses = [p] → ∃ t, exec (.genlockWindowClose h) s = .next t ∧ (t.head h.val).edge = some p ∧ (t.head h.val).pulses = [] ∧ t.rd
     HEAD.GL_STAT.state h.val = 3 ∧ t.rd HEAD.GL_STAT.missing h.val = 0 ∧ t.counter .head h.val 5 = (s.counter .head h.val 5 + 1) % 2 ^ 64)
  ∧ (∀ (s : State) (h : Fin 8), s.rd HEAD.GL_STAT.state h.val = 3 ∧ s.glSrc h.val ≠ 0 ∧ s.windowOver h.val = true ∧ (s.head h.val).pulses =
     [] → ∃ t, exec (.genlockWindowClose h) s = .next t ∧ (t.head h.val).edge = some (s.glNext h.val) ∧ t.rd HEAD.GL_STAT.state h.val = 4 ∧
     t.counter .head h.val 7 = (s.counter .head h.val 7 + 1) % 2 ^ 64 ∧ bit (t.rd (HDR.ev_raw .head) h.val) 13 = true)
  ∧ (∀ (s : State) (h : Fin 8), s.rd HEAD.GL_STAT.state h.val = 4 ∧ s.glSrc h.val ≠ 0 ∧ s.windowOver h.val = true ∧ (s.head h.val).pulses =
     [] ∧ 7 ≤ s.rd HEAD.GL_STAT.missing h.val → ∃ t, exec (.genlockWindowClose h) s = .next t ∧ t.rd HEAD.GL_STAT.state h.val = 5 ∧ (t.head
     h.val).edge = none ∧ t.counter .head h.val 8 = (s.counter .head h.val 8 + 1) % 2 ^ 64 ∧ bit (t.rd (HDR.ev_raw .head) h.val) 11 = true)
  ∧ (∀ (s : State) (h : Fin 8), s.rd HEAD.GL_STAT.state h.val < 2 ∨ 4 < s.rd HEAD.GL_STAT.state h.val → exec (.genlockWindowClose h) s =
     .next s)
  ∧ (∀ (s : State) (h : Fin 8), s.windowOver h.val = false → exec (.genlockWindowClose h) s = .next s)

/-- A write of POSE_CTRL.post starts a check of the nine coefficients as they stand. Passing, they become the posted set under the next sequence
number; failing, they are dropped, counted in counter 4 and flagged, and the posted set stands. At a latch point of a running Glint head a
newly posted set, unless it was posted in that very cycle, becomes the latched one, with its line, time and sequence number. -/
def Obligations.GlintPoses : Prop :=
  (∀ (s : State) (w : Who) (g : Fin 2), accepts s w .glint (glintHead g) 0x164 1 = true → ∃ t, exec (.posePost w g) s = .next t ∧ (t.head
     (glintHead g)).glint.check = some (s.poseRegs (glintHead g)) ∧ t.rd GLINT.POSE_CTRL.post (glintHead g) = 1 ∧ t.counter .glint
     (glintHead g) 3 = (s.counter .glint (glintHead g) 3 + (if (s.head (glintHead g)).glint.check.isSome then 1 else 0)) % 2 ^ 64)
  ∧ (∀ (s : State) (g : Fin 2) (p : List Nat), (s.head (glintHead g)).glint.check = some p ∧ s.poseBad (glintHead g) p = none → ∃ t, exec
     (.poseCheckDone g) s = .next t ∧ (t.head (glintHead g)).glint.posted = p ∧ (t.head (glintHead g)).glint.check = none ∧ t.rd
     GLINT.POSE_STAT.posted_seq (glintHead g) = (s.rd GLINT.POSE_STAT.posted_seq (glintHead g) + 1) % 65536 ∧ t.rd GLINT.POSE_CTRL.post
     (glintHead g) = 0)
  ∧ (∀ (s : State) (g : Fin 2) (p : List Nat), (s.head (glintHead g)).glint.check = some p ∧ s.poseBad (glintHead g) p ≠ none → ∃ t, exec
     (.poseCheckDone g) s = .next t ∧ (t.head (glintHead g)).glint.posted = (s.head (glintHead g)).glint.posted ∧ (t.head (glintHead
     g)).glint.check = none ∧ t.rd GLINT.POSE_STAT.posted_seq (glintHead g) = s.rd GLINT.POSE_STAT.posted_seq (glintHead g) ∧ t.counter
     .glint (glintHead g) 4 = (s.counter .glint (glintHead g) 4 + 1) % 2 ^ 64 ∧ bit (t.rd (HDR.ev_raw .glint) (glintHead g)) 9 = true)
  ∧ (∀ (s : State) (g : Fin 2), (s.head (glintHead g)).glint.check = none → exec (.poseCheckDone g) s = .next s)
  ∧ (∀ (s : State) (g : Fin 2) (line : BitVec 13), s.rd HEAD.HEAD_STAT.state (glintHead g) = 2 ∧ s.headClock (glintHead g) = true ∧
     s.glintOn (glintHead g) = true ∧ line.toNat < s.rd HEAD.TIM_V.vact (glintHead g) → line = 0 ∨ s.on GLINT.GLINT_CTRL.per_line (glintHead
     g) = true → s.rd GLINT.POSE_STAT.posted_seq (glintHead g) ≠ s.rd GLINT.POSE_STAT.latched_seq (glintHead g) → (s.head (glintHead
     g)).glint.postAt ≠ some s.now → ∃ t, exec (.poseLatch g line) s = .next t ∧ (t.head (glintHead g)).glint.latched = (s.head (glintHead
     g)).glint.posted ∧ t.rd GLINT.POSE_STAT.latched_seq (glintHead g) = s.rd GLINT.POSE_STAT.posted_seq (glintHead g) ∧ t.rd
     GLINT.LATCH_LINE.line (glintHead g) = line.toNat ∧ t.rd GLINT.LATCH_TIME.time (glintHead g) = s.now % 2 ^ 64)
  ∧ (∀ (s : State) (g : Fin 2) (line : BitVec 13), s.rd GLINT.POSE_STAT.posted_seq (glintHead g) = s.rd GLINT.POSE_STAT.latched_seq
     (glintHead g) → exec (.poseLatch g line) s = .next s)

/-- A write of HEAD_SRC by the safety island stores the overrides, and no head changes its source by it. At the frame start of a running head
whose clock is not gated the asked source takes effect: blank before fallback before compositor. A head in a safe state that meets R330,
while the firmware runs, returns to the compositor source with its overrides cleared and is counted. Treact after a fault the backlight of a
head that still waits for its safe state goes off. -/
def Obligations.SourceSelection : Prop :=
  (∀ (s : State) (w : Who) (v : Word), accepts s w .safe 0 0x10C v.toNat = true → ∃ t, exec (.headSrcWrite w v) s = .next t ∧ t.rd
     SAFE.HEAD_SRC.fallback = bits v.toNat 0 8 ∧ t.rd SAFE.HEAD_SRC.blank = bits v.toNat 8 8 ∧ t.rd SAFE.HEAD_SRC.dispen_off = bits v.toNat
     16 8 ∧ t.resp.ok = true)
  ∧ (∀ (s : State) (w : Who) (v : Word) (h : Fin 8), accepts s w .safe 0 0x10C v.toNat = true → ∃ t, exec (.headSrcWrite w v) s = .next t ∧
     t.rd SAFE.HB_STAT.source 0 h.val = s.rd SAFE.HB_STAT.source 0 h.val)
  ∧ (∀ (s : State) (h : Fin 8), s.rd HEAD.HEAD_STAT.state h.val = 2 → s.on SAFE.ISL_STAT.fw_running = false ∨ s.mayHandBack h.val = false →
     s.headClock h.val = true → ∃ t, exec (.frameStart h) s = .next t ∧ t.rd SAFE.HB_STAT.source 0 h.val = s.wantSource h.val ∧ t.rd
     HEAD.HEAD_STAT.vblank h.val = 0 ∧ (t.head h.val).start = some s.now)
  ∧ (∀ (s : State) (h : Fin 8), s.rd HEAD.HEAD_STAT.state h.val = 2 → s.on SAFE.ISL_STAT.fw_running = true ∧ s.mayHandBack h.val = true →
     s.headClock h.val = true → ∃ t, exec (.frameStart h) s = .next t ∧ t.rd SAFE.HB_STAT.source 0 h.val = 0 ∧ t.wantSource h.val = 0 ∧
     t.counter .safe 0 1 = (s.counter .safe 0 1 + 1) % 2 ^ 64 ∧ (t.shead h.val).fault = false)
  ∧ (∀ (s : State) (h : Fin 8), s.rd HEAD.HEAD_STAT.state h.val ≠ 2 ∨ s.headClock h.val = false → exec (.frameStart h) s = .next s)
  ∧ (∀ (s : State) (h : Fin 8), s.running h.val = true ∧ s.rd SAFE.HB_STAT.source 0 h.val ≠ s.wantSource h.val → (s.shead h.val).since +
     s.treact h.val ≤ s.now + s.periodNs h.val → ∃ t, exec (.earlyBacklightOff h) s = .next t ∧ bit (t.rd SAFE.HEAD_SRC.bl_off) h.val = true
     ∧ (t.shead h.val).early = true ∧ t.rd SAFE.HB_STAT.source 0 h.val = s.rd SAFE.HB_STAT.source 0 h.val)
  ∧ (∀ (s : State) (h : Fin 8), s.running h.val = false → exec (.earlyBacklightOff h) s = .next s)
  ∧ (∀ (s : State) (h : Fin 8), (s.shead h.val).stopped = false ∧ s.rd PWR.STATE.state ≤ 1 ∧ s.rd HEAD.FRAME_CNT.count h.val ≠ 0 ∧ s.running
     h.val = true → s.rd HEAD.VBL_TIME.time h.val + max 1 (s.rd MIRROR.TIM_TOL.stop_frames) * s.periodNs h.val ≤ s.now → ∃ t, exec
     (.mirrorStreamStop h) s = .next t ∧ bit (t.rd MIRROR.CHK_STAT.timing_ok) h.val = false ∧ (t.shead h.val).stopped = true ∧ t.counter
     .mirror 0 3 = (s.counter .mirror 0 3 + 1) % 2 ^ 64 ∧ (⟨Code.MIRROR_TIMING, Blk.typeCode .mirror, 0, 2 ^ h.val, s.now⟩ : FaultSig) ∈
     t.faults)
  ∧ (∀ (s : State) (h : Fin 8), (s.shead h.val).stopped = true ∨ 1 < s.rd PWR.STATE.state ∨ s.rd HEAD.FRAME_CNT.count h.val = 0 → exec
     (.mirrorStreamStop h) s = .next s)

/-- A level read back that differs from the one driven sets FAULT_RB.mismatch and drives both pins to fault. The release puts both pins to no
fault where R222 permits it and does nothing otherwise. LSRAM_DATA stores or answers the addressed word and moves to the next; an
uncorrectable word is counted and goes to the fault line. LOG_DATA gives the manager the next word of the oldest unread entry. The key in
SWD_KICK reloads the watchdog, any other value does not. -/
def Obligations.FaultOutputsAndIsland : Prop :=
  (∀ (s : State) (a b : Bool), (a, b) ≠ (s.pins.faultA, s.pins.faultB) ∧ s.safe.mismatch = none → ∃ t, exec (.faultReadback a b 0) s =
     .next t ∧ t.pins.faultA = false ∧ t.pins.faultB = true ∧ t.rd SAFE.FAULT_RB.mismatch = 1 ∧ t.rd SAFE.ISL_STAT.fault = 1 ∧
     t.safe.mismatch = some s.now)
  ∧ (∀ (s : State) (a b : Bool), (a, b) = (s.pins.faultA, s.pins.faultB) → ∃ t, exec (.faultReadback a b 0) s = .next t ∧ t.pins = s.pins ∧
     t.rd SAFE.FAULT_RB.mismatch = 0 ∧ t.safe.mismatch = none)
  ∧ (∀ (s : State), s.mayRelease = true → ∃ t, exec .faultRelease s = .next t ∧ t.pins.faultA = true ∧ t.pins.faultB = false ∧ t.rd
     SAFE.ISL_STAT.fault = 0 ∧ t.rd SAFE.FAULT_CTRL.assert = 0)
  ∧ (∀ (s : State), s.mayRelease = false → exec .faultRelease s = .next s)
  ∧ (∀ (s : State) (w : Who) (v : Word) (e : Ecc), accepts s w .lantern 0 0x104 v.toNat = true → ∃ t, exec (.lsramDataAccess w (some v) e) s
     = .next t ∧ (List.range 4).map (fun k => t.lsramByte (4 * s.rd LANTERN.LSRAM_ADDR.addr + k)) = (leBytes 4 v.toNat).map BitVec.toNat ∧
     t.rd LANTERN.LSRAM_ADDR.addr = (s.rd LANTERN.LSRAM_ADDR.addr + 1) % 2 ^ 18)
  ∧ (∀ (s : State) (w : Who), readable s w .lantern 0 0x104 = true → ∃ t, exec (.lsramDataAccess w none .clean) s = .next t ∧ t.resp.ok =
     true ∧ t.resp.data = leVal ((List.range 4).map (fun k => BitVec.ofNat 8 (s.lsramByte (4 * s.rd LANTERN.LSRAM_ADDR.addr + k)))) ∧ t.rd
     LANTERN.LSRAM_ADDR.addr = (s.rd LANTERN.LSRAM_ADDR.addr + 1) % 2 ^ 18)
  ∧ (∀ (s : State) (w : Who), readable s w .lantern 0 0x104 = true → ∃ t, exec (.lsramDataAccess w none .ue) s = .next t ∧ t.resp.ok = false
     ∧ t.counter .lantern 0 2 = (s.counter .lantern 0 2 + 1) % 2 ^ 64 ∧ (⟨Code.SAFE_SRAM_UE, Blk.typeCode .lantern, 0, 0, s.now⟩ : FaultSig)
     ∈ t.faults)
  ∧ (∀ s : State, exec .safeSramUe s = .next (((s.count .lantern 0 2).raise .lantern 0 9).faultLine Code.SAFE_SRAM_UE .lantern 0 0))
  ∧ (∀ (s : State) (e : LogEnt), readable s .mgr .safe 0 0x15C = true → s.safe.unread ≠ 0 ∧ s.safe.word < 3 ∧ (s.safe.log.drop
     (s.safe.log.length - s.safe.unread)).head? = some e → ∃ t, exec (.logDataRead .mgr) s = .next t ∧ t.resp.data = leVal ((e.bytes.drop (4
     * s.safe.word)).take 4) ∧ t.safe.word = s.safe.word + 1 ∧ t.safe.unread = s.safe.unread)
  ∧ (∀ (s : State) (e : LogEnt), readable s .mgr .safe 0 0x15C = true → s.safe.unread ≠ 0 ∧ s.safe.word = 3 ∧ (s.safe.log.drop
     (s.safe.log.length - s.safe.unread)).head? = some e → ∃ t, exec (.logDataRead .mgr) s = .next t ∧ t.resp.data = leVal ((e.bytes.drop
     12).take 4) ∧ t.safe.word = 0 ∧ t.safe.unread = s.safe.unread - 1)
  ∧ (∀ (s : State) (w : Who) (v : Word), accepts s w .safe 0 0x128 v.toNat = true → v.toNat % 65536 = 0x5AFE → ∃ t, exec (.swdKick w v) s =
     .next t ∧ t.safe.kicked = s.now ∧ t.counter .safe 0 8 = (s.counter .safe 0 8 + 1) % 2 ^ 64)
  ∧ (∀ (s : State) (w : Who) (v : Word), accepts s w .safe 0 0x128 v.toNat = true → v.toNat % 65536 ≠ 0x5AFE → exec (.swdKick w v) s = .next
     s.okResp)

/-- While the link is served, a transaction sends the module's frame and, if its own is in sequence, counts it as valid and stores its sequence:
STATE stores the machine word, the heads needed and the visibility asked for, CLEAR permits a release, LOG_REQ queues the entries asked for,
WAKE is a wake event. A frame that is not 32 bytes is SL_CRC, a sequence out of order is SL_SEQ, silence is SL_TIMEOUT: the link is in error
and the fault line carries the dependent heads. -/
def Obligations.SafetyLink : Prop :=
  (∀ (s : State) (d : List Byte), s.slServed = true ∧ d.length ≠ 32 → ∃ t, exec (.slTransaction d) s = .next t ∧ t.rd SAFE.ISL_STAT.link =
     2 ∧ t.counter .safe 0 5 = (s.counter .safe 0 5 + 1) % 2 ^ 64 ∧ (⟨Code.SL_CRC, Blk.typeCode .safe, 0, s.rd SAFE.SAFE_CFG.link_dep,
     s.now⟩ : FaultSig) ∈ t.faults ∧ t.safe.slSeq = none)
  ∧ (∀ (s : State) (d : List Byte), s.slServed = true ∧ d.length = 32 ∧ leVal (d.drop 28) ≠ crc32c (d.take 28) → ∃ t, exec (.slTransaction
     d) s = .next t ∧ t.rd SAFE.ISL_STAT.link = 2 ∧ t.counter .safe 0 5 = (s.counter .safe 0 5 + 1) % 2 ^ 64 ∧ t.safe.slNext =
     (s.safe.slNext + 1) % 65536)
  ∧ (∀ (s : State) (d : List Byte), s.slServed = false → exec (.slTransaction d) s = .next s ∧ exec .slTimeout s = .next s)
  ∧ (∀ (s : State) (q : BitVec 16) (m : Word) (n : Byte) (v : BitVec 48), s.slServed = true → s.safe.slSeq = none ∨ s.safe.slSeq = some
     ((q.toNat + 65535) % 65536) → ∃ t, exec (.slState q m n v) s = .next t ∧ t.safe.machine = m.toNat ∧ t.safe.needed = n.toNat ∧
     t.safe.vis = some v.toNat ∧ t.rd SAFE.SL_STAT.rx_seq = q.toNat ∧ t.safe.slSeq = some q.toNat ∧ t.counter .safe 0 4 = (s.counter .safe 0
     4 + 1) % 2 ^ 64)
  ∧ (∀ (s : State) (q : BitVec 16) (m : Word) (n : Byte) (v : BitVec 48) (p : Nat), s.slServed = true → s.safe.slSeq = some p ∧ (p + 1) %
     65536 ≠ q.toNat → ∃ t, exec (.slState q m n v) s = .next t ∧ t.safe.machine = s.safe.machine ∧ t.rd SAFE.ISL_STAT.link = 2 ∧ t.counter
     .safe 0 6 = (s.counter .safe 0 6 + 1) % 2 ^ 64 ∧ (⟨Code.SL_SEQ, Blk.typeCode .safe, 0, s.rd SAFE.SAFE_CFG.link_dep, s.now⟩ : FaultSig)
     ∈ t.faults)
  ∧ (∀ (s : State) (q : BitVec 16), s.slServed = true → s.safe.slSeq = none ∨ s.safe.slSeq = some ((q.toNat + 65535) % 65536) → ∃ t, exec
     (.slClear q) s = .next t ∧ t.safe.cleared = true ∧ t.rd SAFE.SL_STAT.rx_seq = q.toNat ∧ t.rd SAFE.SL_STAT.tx_seq = s.safe.slNext %
     65536)
  ∧ (∀ (s : State) (q f : BitVec 16) (e : LogEnt), s.slServed = true ∧ s.safe.slOut = [] → s.safe.slSeq = none ∨ s.safe.slSeq = some
     ((q.toNat + 65535) % 65536) → s.safe.log = [e] ∧ e.seq = f.toNat → ∃ t, exec (.slLogReq q f) s = .next t ∧ t.safe.slOut = [(0x82,
     e.bytes ++ leBytes 2 0)] ∧ t.rd SAFE.SL_STAT.rx_seq = q.toNat)
  ∧ (∀ (s : State) (q : BitVec 16), s.slServed = true → s.safe.slSeq = none ∨ s.safe.slSeq = some ((q.toNat + 65535) % 65536) → bit (s.rd
     PWR.WAKE_EN.enable) 4 = false → ∃ t, exec (.slWake q) s = .next t ∧ t.rd SAFE.SL_STAT.rx_seq = q.toNat ∧ t.rd PWR.STATE.state = s.rd
     PWR.STATE.state)
  ∧ (∀ (s : State), s.slServed = true ∧ s.safe.slMute = false → s.safe.slLast + clamp 5 1000 (s.rd SAFE.SL_CFG.timeout_ms) * 1000000 ≤ s.now
     → ∃ t, exec .slTimeout s = .next t ∧ t.safe.slMute = true ∧ t.rd SAFE.ISL_STAT.link = 2 ∧ t.counter .safe 0 7 = (s.counter .safe 0 7 +
     1) % 2 ^ 64 ∧ (⟨Code.SL_TIMEOUT, Blk.typeCode .safe, 0, s.rd SAFE.SAFE_CFG.link_dep, s.now⟩ : FaultSig) ∈ t.faults)

/-- Enabling an Off link that can carry its head's mode makes it wait, with its retries full; a mode it cannot carry is refused with LINK_MODE.
Power-up raises DISPENh and makes it Powering; after that it trains. Training that ends at a setting that carries the mode shows its lanes
and rate; failed training, or no HPD in time, makes the link Failed, counted and told. A retry trains again with one retry less. The
power-off timer stops video, then DISPENh falls. -/
def Obligations.LinkPowerAndTraining : Prop :=
  (∀ (s : State) (w : Who) (n : Fin 8) (v : Word), accepts s w .link n.val 0x100 (setBit v.toNat 0) = true → s.linkCan n.val (s.hv n.val)
     = true ∧ s.rd LINK.LINK_STAT.state n.val = 0 ∧ s.on LINK.LINK_CTRL.enable n.val = false → ∃ t, exec (.linkEnable w n v) s = .next t ∧
     t.rd LINK.LINK_CTRL.enable n.val = 1 ∧ t.rd LINK.LINK_STAT.state n.val = 1 ∧ t.rd LINK.LINK_STAT.retries_left n.val = t.rd
     LINK.LINK_CTRL.retries n.val)
  ∧ (∀ (s : State) (w : Who) (n : Fin 8) (v : Word), accepts s w .link n.val 0x100 (setBit v.toNat 0) = true → s.linkCan n.val (s.hv n.val)
     = false → exec (.linkEnable w n v) s = .next (s.okResp.refuse .link n.val Code.LINK_MODE w.rid 0x104))
  ∧ (∀ (s : State) (w : Who) (n : Fin 8) (v : Word), accepts s w .link n.val 0x100 (clrBit v.toNat 0) = true → 1 < s.rd LINK.LINK_STAT.state
     n.val ∧ (s.link n.val).off = 0 → ∃ t, exec (.linkDisable w n v) s = .next t ∧ t.rd LINK.LINK_CTRL.enable n.val = 0 ∧ (t.link n.val).off
     = 1 ∧ (t.link n.val).bl = false ∧ bit t.pins.blpwm n.val = false)
  ∧ (∀ (s : State) (w : Who) (n : Fin 8) (v : Word), accepts s w .link n.val 0x100 (clrBit v.toNat 0) = true → s.rd LINK.LINK_STAT.state
     n.val ≤ 1 → ∃ t, exec (.linkDisable w n v) s = .next t ∧ t.rd LINK.LINK_CTRL.enable n.val = 0 ∧ t.rd LINK.LINK_STAT.state n.val = 0)
  ∧ (∀ (s : State) (n : Fin 8), s.rd LINK.LINK_STAT.state n.val = 1 ∧ (s.link n.val).off = 0 ∧ s.rd HEAD.HEAD_STAT.state n.val = 2 ∧ bit
     (s.rd SAFE.HEAD_SRC.dispen_off) n.val = false ∧ s.rd PWR.STATE.state ≤ 1 → s.past (s.link n.val).fell (ms (s.rd
     LINK.PWR_SEQ2.t_cycle_ms n.val)) = true → s.pwr.safeUp = true → ∃ t, exec (.linkPowerUp n) s = .next t ∧ t.rd LINK.LINK_STAT.state
     n.val = 2 ∧ bit t.pins.dispen n.val = true ∧ (t.link n.val).since = s.now)
  ∧ (∀ (s : State) (n : Fin 8), s.rd LINK.LINK_STAT.state n.val ≠ 1 ∨ s.rd HEAD.HEAD_STAT.state n.val ≠ 2 → exec (.linkPowerUp n) s = .next
     s)
  ∧ (∀ (s : State) (n : Fin 8), s.rd LINK.LINK_STAT.state n.val = 2 ∧ (s.link n.val).off = 0 ∧ (s.linkType n.val = 1 ∨ s.linkType n.val = 2)
     ∧ s.on LINK.LINK_STAT.hpd n.val = true → s.past (s.link n.val).since (ms (s.rd LINK.PWR_SEQ0.t_pwr_on_ms n.val)) = true → ∃ t, exec
     (.linkTrain n) s = .next t ∧ t.rd LINK.LINK_STAT.state n.val = 3 ∧ (t.link n.val).trained = false ∧ t.counter .link n.val 0 =
     (s.counter .link n.val 0 + 1) % 2 ^ 64)
  ∧ (∀ (s : State) (n : Fin 8), s.rd LINK.LINK_STAT.state n.val = 2 ∧ (s.link n.val).off = 0 ∧ s.linkType n.val = 4 → s.past (s.link
     n.val).since (ms (s.rd LINK.PWR_SEQ0.t_pwr_on_ms n.val)) = true → ∃ t, exec (.linkTrain n) s = .next t ∧ t.rd LINK.LINK_STAT.state
     n.val = 3 ∧ (t.link n.val).trained = true)
  ∧ (∀ (s : State) (n : Fin 8), s.rd LINK.LINK_STAT.state n.val ≠ 2 → exec (.linkTrain n) s = .next s ∧ exec (.linkHpdTimeout n) s = .next s)
  ∧ (∀ (s : State) (n : Fin 8) (lanes rate : BitVec 4), s.rd LINK.LINK_STAT.state n.val = 3 ∧ (s.link n.val).trained = false ∧ (s.link
     n.val).off = 0 ∧ (s.linkType n.val = 1 ∨ s.linkType n.val = 2) → s.trainedAt n.val lanes.toNat rate.toNat = true → ∃ t, exec
     (.linkTrainEnd n true lanes rate) s = .next t ∧ (t.link n.val).trained = true ∧ t.rd LINK.LINK_STAT.rate_active n.val = rate.toNat ∧
     t.rd LINK.LINK_STAT.lanes_active n.val = lanes.toNat % 8 ∧ t.rd LINK.LINK_STAT.state n.val = 3 ∧ bit (t.rd (HDR.ev_raw .link) n.val) 8
     = true)
  ∧ (∀ (s : State) (n : Fin 8) (lanes rate : BitVec 4), s.rd LINK.LINK_STAT.state n.val = 3 ∧ (s.link n.val).trained = false ∧ (s.link
     n.val).off = 0 ∧ (s.linkType n.val = 1 ∨ s.linkType n.val = 2) → ∃ t, exec (.linkTrainEnd n false lanes rate) s = .next t ∧ t.rd
     LINK.LINK_STAT.state n.val = 5 ∧ t.counter .link n.val 1 = (s.counter .link n.val 1 + 1) % 2 ^ 64 ∧ bit (t.rd (HDR.ev_raw .link) n.val)
     9 = true)
  ∧ (∀ (s : State) (n : Fin 8), s.rd LINK.LINK_STAT.state n.val = 5 ∧ (s.link n.val).off = 0 ∧ s.on LINK.LINK_CTRL.enable n.val = true →
     s.rd LINK.LINK_CTRL.retries n.val ≠ 0 ∧ s.rd LINK.LINK_STAT.retries_left n.val ≠ 0 → s.past (s.link n.val).since (ms (max 1 (s.rd
     LINK.LINK_CTRL.retry_ms n.val))) = true → ∃ t, exec (.linkRetry n) s = .next t ∧ t.rd LINK.LINK_STAT.state n.val = 3 ∧ t.rd
     LINK.LINK_STAT.retries_left n.val = s.rd LINK.LINK_STAT.retries_left n.val - 1)
  ∧ (∀ (s : State) (n : Fin 8), s.rd LINK.LINK_CTRL.retries n.val ≠ 0 ∧ s.rd LINK.LINK_STAT.retries_left n.val = 0 → exec (.linkRetry n) s =
     .next s)
  ∧ (∀ (s : State) (n : Fin 8), s.rd LINK.LINK_STAT.state n.val = 2 ∧ (s.link n.val).off = 0 ∧ s.linkType n.val = 2 ∧ s.on
     LINK.LINK_STAT.hpd n.val = false → s.past (s.link n.val).since (ms (s.rd LINK.PWR_SEQ2.t_hpd_ms n.val)) = true → ∃ t, exec
     (.linkHpdTimeout n) s = .next t ∧ t.rd LINK.LINK_STAT.state n.val = 5 ∧ t.counter .link n.val 1 = (s.counter .link n.val 1 + 1) % 2 ^
     64)
  ∧ (∀ (s : State) (n : Fin 8), (s.link n.val).off = 1 → s.past (s.link n.val).offAt (ms (s.rd LINK.PWR_SEQ1.t_bl_off_ms n.val)) = true → ∃
     t, exec (.linkPoweroffTimer n) s = .next t ∧ (t.link n.val).off = 2 ∧ (t.link n.val).video = false ∧ t.pins = s.pins)
  ∧ (∀ (s : State) (n : Fin 8), (s.link n.val).off = 2 → s.past (s.link n.val).offAt (ms (s.rd LINK.PWR_SEQ1.t_pwr_off_ms n.val)) = true → ∃
     t, exec (.linkPoweroffTimer n) s = .next t ∧ (t.link n.val).off = 0 ∧ bit t.pins.dispen n.val = false ∧ t.rd LINK.LINK_STAT.state n.val
     = (if s.on LINK.LINK_CTRL.enable n.val then 1 else 0) ∧ (t.link n.val).fell = s.now)
  ∧ (∀ (s : State) (n : Fin 8), s.rd LINK.LINK_STAT.state n.val = 4 ∧ (s.link n.val).off = 0 → bit (s.rd SAFE.HEAD_SRC.bl_off) n.val = false
     ∧ s.rd SAFE.HB_STAT.source 0 n.val ≠ 2 → s.past (s.link n.val).blStart (ms (s.rd LINK.PWR_SEQ0.t_bl_on_ms n.val)) = true ∧ s.pwr.safeUp
     = true → ∃ t, exec (.backlightOnDelayExpiry n) s = .next t ∧ (t.link n.val).bl = true ∧ bit t.pins.blpwm n.val = true ∧ (t.link
     n.val).blFrom = s.now)
  ∧ (∀ (s : State) (n : Fin 8), s.rd LINK.LINK_STAT.state n.val ≠ 4 → exec (.backlightOnDelayExpiry n) s = .next s)

/-- An Active link that is lost shows the cause, counts in counter 2 and goes to the fault line; without auto_retrain it is Failed. HPD low or
high is shown and counted; another link type has no HPD. AUX_CTRL.go starts a transaction unless one runs or a native write would touch a
guarded range; its end shows reply and count and, for a read, the bytes. A DSI packet is queued and, sent, ends go. -/
def Obligations.LinkLossAndCommands : Prop :=
  (∀ (s : State) (n : Fin 8) (b : Bool), (s.linkType n.val = 3 ∨ s.linkType n.val = 4) ∧ s.rd LINK.LINK_STAT.state n.val = 4 → (s.link
     n.val).loadTold = false ∨ b = true → ∃ t, exec (.linkLoadFault n b) s = .next t ∧ t.rd LINK.LINK_STAT.lost_cause n.val = 4 ∧ t.counter
     .link n.val 2 = (s.counter .link n.val 2 + 1) % 2 ^ 64 ∧ (⟨Code.LINK_LOST, Blk.typeCode .link, n.val, 2 ^ n.val, s.now⟩ : FaultSig) ∈
     t.faults ∧ t.rd LINK.LINK_STAT.state n.val = (if s.on LINK.LINK_CTRL.auto_retrain n.val then 4 else 5))
  ∧ (∀ (s : State) (n : Fin 8) (b : Bool), s.linkType n.val ≤ 2 → exec (.linkLoadFault n b) s = .next s)
  ∧ (∀ (s : State) (n : Fin 8), s.linkType n.val = 1 ∨ s.linkType n.val = 2 → exec (.hpdIrq n false) s = .next ((s.count .link n.val
     5).raise .link n.val 12))
  ∧ (∀ (s : State) (n : Fin 8), (s.linkType n.val = 1 ∨ s.linkType n.val = 2) ∧ s.rd LINK.LINK_STAT.state n.val = 4 ∧ s.on
     LINK.LINK_CTRL.auto_retrain n.val = true → ∃ t, exec (.hpdIrq n true) s = .next t ∧ t.rd LINK.LINK_STAT.lost_cause n.val = 2 ∧ t.rd
     LINK.LINK_STAT.state n.val = 3 ∧ (⟨Code.LINK_LOST, Blk.typeCode .link, n.val, 2 ^ n.val, s.now⟩ : FaultSig) ∈ t.faults)
  ∧ (∀ (s : State) (n : Fin 8) (u : Bool), s.linkType n.val ≠ 1 ∧ s.linkType n.val ≠ 2 → exec (.hpdIrq n u) s = .next s)
  ∧ (∀ (s : State) (n : Fin 8), s.linkType n.val ≠ 1 ∧ s.linkType n.val ≠ 2 → exec (.hpdPlug n) s = .next s ∧ exec (.hpdUnplug n) s = .next
     s)
  ∧ (∀ (s : State) (n : Fin 8), s.linkType n.val = 1 ∧ s.on LINK.LINK_STAT.hpd n.val = true ∧ s.rd LINK.LINK_STAT.state n.val = 4 ∧ s.on
     LINK.LINK_CTRL.auto_retrain n.val = true → ∃ t, exec (.hpdUnplug n) s = .next t ∧ t.rd LINK.LINK_STAT.hpd n.val = 0 ∧ t.rd
     LINK.LINK_STAT.lost_cause n.val = 3 ∧ t.rd LINK.LINK_STAT.state n.val = 6 ∧ t.counter .link n.val 4 = (s.counter .link n.val 4 + 1) % 2
     ^ 64)
  ∧ (∀ (s : State) (n : Fin 8), (s.linkType n.val = 1 ∨ s.linkType n.val = 2) ∧ s.on LINK.LINK_STAT.hpd n.val = false → ∃ t, exec (.hpdPlug
     n) s = .next t ∧ t.rd LINK.LINK_STAT.hpd n.val = 1 ∧ t.counter .link n.val 3 = (s.counter .link n.val 3 + 1) % 2 ^ 64 ∧ t.rd
     LINK.LINK_STAT.state n.val = (if s.linkType n.val = 1 ∧ s.rd LINK.LINK_STAT.state n.val = 6 then 3 else s.rd LINK.LINK_STAT.state
     n.val))
  ∧ (∀ (s : State) (w : Who) (n : Fin 8) (v : Word), accepts s w .link n.val 0x120 (setBit v.toNat 31) = true → s.on LINK.AUX_CTRL.go n.val
     = false → bits v.toNat 0 4 ≠ 8 ∨ dpcdGuarded (bits v.toNat 8 20) (bits v.toNat 4 4) = false → ∃ t, exec (.auxGo w n v) s = .next t ∧
     t.rd LINK.AUX_CTRL.go n.val = 1 ∧ t.rd LINK.AUX_CTRL.cmd n.val = bits v.toNat 0 4 ∧ t.rd LINK.AUX_CTRL.len n.val = bits v.toNat 4 4 ∧
     (t.link n.val).aux = setBit v.toNat 31 ∧ t.resp.ok = true)
  ∧ (∀ (s : State) (w : Who) (n : Fin 8) (v : Word), accepts s w .link n.val 0x120 (setBit v.toNat 31) = true → s.on LINK.AUX_CTRL.go n.val
     = true ∨ (bits v.toNat 0 4 = 8 ∧ dpcdGuarded (bits v.toNat 8 20) (bits v.toNat 4 4) = true) → exec (.auxGo w n v) s = .next
     (s.okResp.refuse .link n.val Code.REG_PERM w.rid 0x120))
  ∧ (∀ (s : State) (n : Fin 8) (r : Fin 4) (c : Fin 17) (d : List Byte), s.on LINK.AUX_CTRL.go n.val = true ∧ (s.link n.val).aux % 2 = 0 → ∃
     t, exec (.auxDone n r c d) s = .next t ∧ t.rd LINK.AUX_CTRL.go n.val = 0 ∧ t.rd LINK.AUX_STAT.reply n.val = r.val ∧ t.rd
     LINK.AUX_STAT.count n.val = c.val ∧ t.counter .link n.val 6 = (s.counter .link n.val 6 + 1) % 2 ^ 64 ∧ t.rd LINK.AUX_DATA.data n.val 0
     = s.rd LINK.AUX_DATA.data n.val 0)
  ∧ (∀ (s : State) (n : Fin 8) (r : Fin 4) (a b c d : Byte), s.on LINK.AUX_CTRL.go n.val = true ∧ (s.link n.val).aux % 2 = 1 ∧ bits (s.link
     n.val).aux 4 4 = 3 → ∃ t, exec (.auxDone n r 4 [a, b, c, d]) s = .next t ∧ t.rd LINK.AUX_CTRL.go n.val = 0 ∧ t.rd LINK.AUX_DATA.data
     n.val 0 = leVal [a, b, c, d] ∧ t.rd LINK.AUX_DATA.data n.val 1 = s.rd LINK.AUX_DATA.data n.val 1)
  ∧ (∀ (s : State) (w : Who) (n : Fin 8) (v : Word), accepts s w .link n.val 0x140 (setBit v.toNat 31) = true → s.on LINK.DSI_CMD_CTRL.go
     n.val = false → ∃ t, exec (.dsiCmdGo w n v) s = .next t ∧ t.rd LINK.DSI_CMD_CTRL.go n.val = 1 ∧ t.resp.ok = true)
  ∧ (∀ (s : State) (w : Who) (n : Fin 8) (v : Word), accepts s w .link n.val 0x140 (setBit v.toNat 31) = true → s.on LINK.DSI_CMD_CTRL.go
     n.val = true → exec (.dsiCmdGo w n v) s = .next (s.okResp.refuse .link n.val Code.REG_PERM w.rid 0x140))
  ∧ (∀ (s : State) (n : Fin 8), s.on LINK.DSI_CMD_CTRL.go n.val = true ∧ s.linkType n.val = 3 ∧ s.rd LINK.LINK_STAT.state n.val = 3 → ∃ t,
     exec (.dsiSent n) s = .next t ∧ t.rd LINK.DSI_CMD_CTRL.go n.val = 0 ∧ bit (t.rd (HDR.ev_raw .link) n.val) 14 = true ∧ (t.link
     n.val).trained = true)
  ∧ (∀ (s : State) (n : Fin 8), s.on LINK.DSI_CMD_CTRL.go n.val = false → exec (.dsiSent n) s = .next s)

/-- A frame start stamps LAST_FS_TIME and begins a frame in the buffer of the one ready ring; without a buffer it is dropped and counted. A
packet whose header cannot be corrected is CAP_PACKET, one of another virtual channel is counted, one of another data type is CAP_FORMAT; a
line of the frame is counted and stored. A whole frame ends with FRAME_CNT advanced, a short one gives its buffer back. The written frame
advances TAG_SEQ and its job ends; a write error ends the job with its code. A trigger pulse is stamped and counted. -/
def Obligations.CameraFrames : Prop :=
  (∀ (s : State) (n : Fin 16), s.on (HDR.enable .cap) n.val = true ∧ (s.cap n.val).inFrame = false ∧ (s.job 3 n.val).isNone = true ∧
     (s.readyRings 3 n.val).isEmpty = true → ∃ t, exec (.csiFrameStart n) s = .next t ∧ t.rd CAP.LAST_FS_TIME.time n.val = s.now % 2 ^ 64 ∧
     t.rd CAP.RX_STAT.in_frame n.val = 1 ∧ (t.cap n.val).inFrame = true ∧ (t.cap n.val).dropped = true ∧ t.counter .cap n.val 2 = (s.counter
     .cap n.val 2 + 1) % 2 ^ 64 ∧ bit (t.rd (HDR.ev_raw .cap) n.val) 10 = true)
  ∧ (∀ (s : State) (n : Fin 16) (r : Nat) (d : List Byte) (l : List (Nat × Nat × List Byte)), s.on (HDR.enable .cap) n.val = true ∧ (s.cap
     n.val).inFrame = false ∧ (s.job 3 n.val).isNone = true → s.readyRings 3 n.val = [r] ∧ s.holdsPort (ringInst r) n.val = true ∧ ((s.ring
     r).tail + 2 ^ 24 - (s.ring r).head) % 2 ^ 24 ≠ 0 → (s.ring r).pre = (0, 0, d) :: l ∧ s.capDescOk n.val d = true → ∃ t, exec
     (.csiFrameStart n) s = .next t ∧ t.job 3 n.val = some { ring := r, seq := (s.ring r).seq, desc := d } ∧ (t.cap n.val).inFrame = true ∧
     (t.cap n.val).dropped = false ∧ (t.cap n.val).stored = 0 ∧ t.rd CAP.RX_STAT.in_frame n.val = 1 ∧ t.rd CAP.LAST_FS_TIME.time n.val =
     s.now % 2 ^ 64 ∧ t.counter .cap n.val 2 = s.counter .cap n.val 2)
  ∧ (∀ (s : State) (n : Fin 16), s.on (HDR.enable .cap) n.val = false → exec (.csiFrameStart n) s = .next s ∧ exec (.capLost n) s = .next s)
  ∧ (∀ (s : State) (n : Fin 16) (vc : BitVec 4) (dt : BitVec 6) (d : List Byte) (c o : Bool), s.on (HDR.enable .cap) n.val = true → exec
     (.csiLongPacket n vc dt d .ue c o) s = .next ((((s.capHs n.val).recErr .cap n.val Code.CAP_PACKET ridDevice dt.toNat).count .cap n.val
     6).raise .cap n.val 12))
  ∧ (∀ (s : State) (n : Fin 16) (vc : BitVec 4) (dt : BitVec 6) (d : List Byte) (c o : Bool), s.on (HDR.enable .cap) n.val = true ∧ vc.toNat
     ≠ s.rd CAP.RX_CFG.vc n.val → exec (.csiLongPacket n vc dt d .clean c o) s = .next ((s.capHs n.val).count .cap n.val 7))
  ∧ (∀ (s : State) (n : Fin 16) (vc : BitVec 4) (dt : BitVec 6) (d : List Byte) (o : Bool), s.on (HDR.enable .cap) n.val = true ∧ vc.toNat =
     s.rd CAP.RX_CFG.vc n.val ∧ dt.toNat ≠ 0x12 ∧ dt.toNat ≠ s.rd CAP.RX_CFG.dt n.val → ∃ t, exec (.csiLongPacket n vc dt d .clean false o)
     s = .next t ∧ t.counter .cap n.val 8 = (s.counter .cap n.val 8 + 1) % 2 ^ 64 ∧ t.caps = (s.capHs n.val).caps ∧ t.rd CAP.RX_STAT.last_dt
     n.val = dt.toNat)
  ∧ (∀ (s : State) (n : Fin 16) (vc : BitVec 4) (dt : BitVec 6) (d : List Byte) (j : Job) (x y w h a : Nat), s.on (HDR.enable .cap) n.val =
     true ∧ vc.toNat = s.rd CAP.RX_CFG.vc n.val ∧ dt.toNat = s.rd CAP.RX_CFG.dt n.val ∧ dt.toNat = 0x2A → s.job 3 n.val = some j ∧ (x, y, w,
     h) = s.crop n.val ∧ a = field j.desc 8 8 + (s.cap n.val).stored * s.capPitch n.val 0 → (s.cap n.val).inFrame = true ∧ (s.cap
     n.val).dropped = false ∧ (s.cap n.val).discard = false ∧ (s.cap n.val).ovf = false ∧ (s.cap n.val).fail = none → y ≤ (s.cap
     n.val).lines ∧ (s.cap n.val).lines < y + h ∧ x + w ≤ d.length → s.memFault (s.capReq j.ring) true a w = none → ∃ t, exec
     (.csiLongPacket n vc dt d .clean false false) s = .next t ∧ (t.cap n.val).lines = (s.cap n.val).lines + 1 ∧ (t.cap n.val).stored =
     (s.cap n.val).stored + 1 ∧ t.rdBytes a w = (List.range w).map (fun k => d.getD (x + k) 0) ∧ t.counter .cap n.val 9 = (s.counter .cap
     n.val 9 + w) % 2 ^ 64)
  ∧ (∀ (s : State) (n : Fin 16), s.on (HDR.enable .cap) n.val = false ∨ (s.cap n.val).inFrame = false → exec (.csiFrameEnd n) s = .next (if
     s.on (HDR.enable .cap) n.val then s.capHs n.val else s))
  ∧ (∀ (s : State) (n : Fin 16) (x y w h : Nat), (x, y, w, h) = s.crop n.val ∧ (s.cap n.val).inFrame = true ∧ (s.cap n.val).short = false ∧
     h ≤ (s.cap n.val).stored ∧ (s.cap n.val).discard = false → s.on (HDR.enable .cap) n.val = true → ∃ t, exec (.csiFrameEnd n) s = .next t
     ∧ (t.cap n.val).inFrame = false ∧ t.rd CAP.RX_STAT.in_frame n.val = 0 ∧ t.rd CAP.FRAME_CNT.count n.val = (s.rd CAP.FRAME_CNT.count
     n.val + 1) % 2 ^ 32 ∧ t.counter .cap n.val 0 = (s.counter .cap n.val 0 + 1) % 2 ^ 64 ∧ (t.cap n.val).advanced = s.now)
  ∧ (∀ (s : State) (n : Fin 16) (j : Job), s.job 3 n.val = some j ∧ (s.cap n.val).done = true ∧ bit (field j.desc 0 4) 4 = false → ∃ t, exec
     (.capFrameWritten n) s = .next t ∧ t.job 3 n.val = none ∧ t.rd CAP.TAG_SEQ.seq n.val = (s.rd CAP.TAG_SEQ.seq n.val + 1) % 4096 ∧
     t.counter .cap n.val 1 = (s.counter .cap n.val 1 + 1) % 2 ^ 64 ∧ (t.cap n.val).done = false)
  ∧ (∀ (s : State) (n : Fin 16), (s.job 3 n.val).isNone = true → ∀ code addr, exec (.capFrameWritten n) s = .next s ∧ exec (.capWriteError n
     code addr) s = .next s)
  ∧ (∀ (s : State) (n : Fin 16) (j : Job) (code : BitVec 16) (addr : Addr) (e : Nat × Nat), s.job 3 n.val = some j ∧ (s.cap n.val).fail =
     some e → exec (.capWriteError n code addr) s = .next (((s.setCap n.val
     { s.cap n.val with discard := true, dropped := false, done := false, fail := none }).setJob 3 n.val none).endJob j.ring 1 false false
     j.seq Code.CAP_WRITE_ERROR ((s.cap n.val).stored * 65536) e.2))
  ∧ (∀ (s : State) (n : Fin 16), s.on (HDR.enable .cap) n.val = true ∧ (s.cap n.val).lostTold = false → s.past (s.cap n.val).lastFs (ms (max
     1 (s.rd CAP.LOST_MS.ms n.val))) = true → ∃ t, exec (.capLost n) s = .next t ∧ (t.cap n.val).lostTold = true ∧ bit (t.rd (HDR.ev_raw
     .cap) n.val) 11 = true)
  ∧ (∀ (s : State) (w : Who) (n : Fin 16), accepts s w .cap n.val 0x12C 1 = true → s.rd CAP.TRIG_CFG.mode n.val = 1 → ∃ t, exec (.trigFire w
     n) s = .next t ∧ (t.cap n.val).trigAt = some s.now ∧ t.counter .cap n.val 10 = (s.counter .cap n.val 10 + 1) % 2 ^ 64)
  ∧ (∀ (s : State) (w : Who) (n : Fin 16), accepts s w .cap n.val 0x12C 1 = true → s.rd CAP.TRIG_CFG.mode n.val ≠ 1 → exec (.trigFire w n) s
     = .next s.okResp)
  ∧ (∀ (s : State) (n : Fin 16), s.rd CAP.TRIG_CFG.mode n.val = 3 ∧ s.trigDue n.val = true ∧ (s.cap n.val).trigBy < 2 → ∃ t, exec
     (.trigPulseDue n) s = .next t ∧ (t.cap n.val).trigAt = some s.now ∧ (t.cap n.val).trigBy = 1 ∧ t.counter .cap n.val 10 = (s.counter
     .cap n.val 10 + 1) % 2 ^ 64)
  ∧ (∀ (s : State) (n : Fin 16), s.trigBase n.val = 2 ∧ s.trigDue n.val = true ∧ (s.cap n.val).trigBy ≠ 1 → ∃ t, exec (.trigPulseDue n) s =
     .next t ∧ (t.cap n.val).trigAt = some s.now ∧ (t.cap n.val).trigEdge = s.trigEdgeNow n.val ∧ t.counter .cap n.val 10 = (s.counter .cap
     n.val 10 + 1) % 2 ^ 64)
  ∧ (∀ (s : State) (n : Fin 16) (p : Nat), s.rd CAP.TRIG_CFG.mode n.val = 3 ∧ (s.cap n.val).trigAt = some p ∧ (s.cap n.val).trigBy = 2 → 2 *
     (s.now - p) < min (s.trigPer n.val 1) (s.trigPer n.val 2) → exec (.trigPulseDue n) s = .next (s.count .cap n.val 11))
  ∧ (∀ (s : State) (n : Fin 16), s.rd CAP.TRIG_CFG.mode n.val < 2 → exec (.trigPulseDue n) s = .next s)

/-- A surface at step 2 of R373 records its listen counts and waits in Starting. A scan start takes the hop that is due and the configuration in
force, and the scan then runs; its end counts the scan, leaves a report due and numbers the next. A rebase or a self-test asked for acts on
the scans that follow. Without a scan running there is no scan end. -/
def Obligations.TouchScans : Prop :=
  (∀ (s : State) (p : Fin 8) (l : List (List Nat)) (a b c : List Nat), s.touchOn p.val = true ∧ s.tiles p.val = 1 → ∃ t, exec
     (.surfaceStart p l a b c) s = .next t ∧ t.tiles p.val = 2 ∧ (t.touchSt p.val).scan = 0 ∧ (t.touchSt p.val).busy = false ∧ (t.touchSt
     p.val).listen = (List.range 8).map (fun f => (List.range (s.touchR p.val)).map (fun r => rawCount (s.convUs p.val) ((l.getD f []).getD
     r 0))) ∧ (t.surface p.val).cal = max 1 (s.surface p.val).cal)
  ∧ (∀ (s : State) (p : Fin 8) (l : List (List Nat)) (a b c : List Nat), s.tiles p.val = 2 ∨ s.tiles p.val = 3 → s.touchOn p.val = true →
     exec (.surfaceStart p l a b c) s = .next s)
  ∧ (∀ (s : State) (p : Fin 8) (h : Nat), (s.tiles p.val = 3 ∨ (s.tiles p.val = 2 ∧ (s.surface p.val).cal = 3)) ∧ (s.touchSt p.val).scanTime
     s.now = true ∧ (s.touchSt p.val).busy = false ∧ (s.touchSt p.val).next = some h ∧ h < 8 → ∃ t, exec (.scanStart p) s = .next t ∧
     (t.touchSt p.val).busy = true ∧ (t.touchSt p.val).cfg = s.touchCfg p.val ++ [clamp 100 500 (s.rd TOUCH.HOP_F.khz (2 * p.val) h)] ∧
     (t.touchSt p.val).keyCfg = s.touchKeyCfg p.val ∧ (t.touchSt p.val).next = none ∧ t.rd TOUCH.SCAN_STAT.hop (2 * p.val) = h ∧ t.counter
     .touch (2 * p.val) 6 = (s.counter .touch (2 * p.val) 6 + 1) % 2 ^ 64)
  ∧ (∀ (s : State) (p : Fin 8), (s.touchSt p.val).busy = true ∨ (s.touchSt p.val).scanTime s.now = false → exec (.scanStart p) s = .next s)
  ∧ (∀ (s : State) (p : Fin 8) (sl : List SlotObs), (s.touchSt p.val).busy = true → ∃ t, exec (.scanEnd p sl) s = .next t ∧ (t.touchSt
     p.val).busy = false ∧ (t.touchSt p.val).scan = ((s.touchSt p.val).scan + 1) % 2 ^ 32 ∧ (t.touchSt p.val).due.isSome = true ∧ t.counter
     .touch (2 * p.val) 3 = (s.counter .touch (2 * p.val) 3 + 1) % 2 ^ 64)
  ∧ (∀ (s : State) (p : Fin 8) (sl : List SlotObs), (s.touchSt p.val).busy = false → exec (.scanEnd p sl) s = .next s)
  ∧ (∀ (s : State) (w : Who) (p : Fin 8) (v : Word), accepts s w .touch (2 * p.val) 0x200 (setBit v.toNat 1) = true → s.tiles p.val = 2 ∨
     s.tiles p.val = 3 → ∃ t, exec (.surfRebase w p v) s = .next t ∧ (t.touchSt p.val).rebase = true ∧ t.rd TOUCH.SURF_CTRL.enable (2 *
     p.val) = b2n (bit v.toNat 0))
  ∧ (∀ (s : State) (w : Who) (p : Fin 8) (v : Word), accepts s w .touch (2 * p.val) 0x200 (setBit v.toNat 2) = true → s.tiles p.val = 2 ∨
     s.tiles p.val = 3 → ∃ t, exec (.surfSelftest w p v) s = .next t ∧ (t.touchSt p.val).tests = 3 ∧ t.resp.ok = true)
  ∧ (∀ (pressed : Bool) (run thr hyst dp dr : Nat) (d : Int), pressed = false → dp ≤ run + 1 → (keyStep pressed run thr hyst dp dr d).1 =
     decide ((thr : Int) ≤ d))

/-- The report that is due is stored in the next entry with its phase and RPT_PROD advances. In a full ring it is held; while reports are off it
is dropped. Enabling the ring starts it anew. A consumer index that would leave more unread entries than the ring has is refused, another is
taken. The first wake scan takes the baselines of its groups; a surface that is not in wake scan does nothing. -/
def Obligations.TouchReports : Prop :=
  (∀ (s : State) (p : Fin 8) (d : List Byte) (a prod phase : Nat), (s.touchSt p.val).due = some d ∧ s.on TOUCH.RPT_CTRL.enable (2 * p.val)
     = true ∧ s.rptWaiting p.val < s.rptEntries p.val → prod = s.rd TOUCH.RPT_PROD.prod (2 * p.val) ∧ a = s.rd TOUCH.RPT_BASE.base (2 *
     p.val) / 4096 * 4096 + prod % s.rptEntries p.val * 128 ∧ phase = (if prod / s.rptEntries p.val % 2 = 0 then 1 else 0) → s.memFault
     (reqFor (s.rd (HDR.owner .touch) (2 * p.val)) portStream false) true a d.length = none → ∃ t, exec (.reportWrite p) s = .next t ∧
     t.rdBytes a d.length = orFlags d phase ∧ t.rd TOUCH.RPT_PROD.prod (2 * p.val) = (prod + 1) % 2 ^ 24 ∧ (t.touchSt p.val).due = none ∧
     t.counter .touch (2 * p.val) 4 = (s.counter .touch (2 * p.val) 4 + 1) % 2 ^ 64 ∧ bit (t.rd (HDR.ev_raw .touch) (2 * p.val)) 8 = true)
  ∧ (∀ (s : State) (p : Fin 8) (d : List Byte), (s.touchSt p.val).due = some d ∧ s.on TOUCH.RPT_CTRL.enable (2 * p.val) = true ∧
     s.rptEntries p.val ≤ s.rptWaiting p.val ∧ (s.touchSt p.val).held = none → ∃ t, exec (.reportWrite p) s = .next t ∧ (t.touchSt
     p.val).held = some d ∧ (t.touchSt p.val).due = none ∧ t.dram = s.dram)
  ∧ (∀ (s : State) (p : Fin 8), s.on TOUCH.RPT_CTRL.enable (2 * p.val) = false → ∃ t, exec (.reportWrite p) s = .next t ∧ (t.touchSt
     p.val).due = none ∧ t.dram = s.dram ∧ t.rd TOUCH.RPT_PROD.prod (2 * p.val) = s.rd TOUCH.RPT_PROD.prod (2 * p.val))
  ∧ (∀ (s : State) (w : Who) (p : Fin 8), accepts s w .touch (2 * p.val) 0x2D0 1 = true → ∃ t, exec (.rptEnable w p) s = .next t ∧ t.rd
     TOUCH.RPT_CTRL.enable (2 * p.val) = 1 ∧ t.rd TOUCH.RPT_PROD.prod (2 * p.val) = 0 ∧ t.rd TOUCH.RPT_CONS.cons (2 * p.val) = 0 ∧
     (t.touchSt p.val).held = none)
  ∧ (∀ (s : State) (w : Who) (p : Fin 8) (v : Word), accepts s w .touch (2 * p.val) 0x2E4 v.toNat = true → s.rptEntries p.val < (s.rd
     TOUCH.RPT_PROD.prod (2 * p.val) + 2 ^ 24 - v.toNat % 2 ^ 24) % 2 ^ 24 → exec (.rptConsWrite w p v) s = .next (s.okResp.refuse .touch (2
     * p.val) Code.REG_PERM w.rid 0x2E4))
  ∧ (∀ (s : State) (w : Who) (p : Fin 8) (v : Word), accepts s w .touch (2 * p.val) 0x2E4 v.toNat = true → (s.rd TOUCH.RPT_PROD.prod (2 *
     p.val) + 2 ^ 24 - v.toNat % 2 ^ 24) % 2 ^ 24 ≤ s.rptEntries p.val → ∃ t, exec (.rptConsWrite w p v) s = .next t ∧ t.rd
     TOUCH.RPT_CONS.cons (2 * p.val) = v.toNat % 2 ^ 24 ∧ t.resp.ok = true)
  ∧ (∀ (s : State) (p : Fin 8) (bal : List Nat), s.tiles p.val = 4 ∧ (s.touchSt p.val).wBase.length ≠ s.wakeGroups p.val → ∀ a, (s.touchSt
     p.val).wAt = some a → s.past a 50000000 = true → ∃ t, exec (.wakeScan p bal) s = .next t ∧ (t.touchSt p.val).wBase = (List.range
     (s.wakeGroups p.val)).map (fun g => rawCount 50 (bal.getD g 0)) ∧ t.rd PWR.STATE.state = s.rd PWR.STATE.state)
  ∧ (∀ (s : State) (p : Fin 8) (bal : List Nat), s.tiles p.val ≠ 4 → exec (.wakeScan p bal) s = .next s)

/-- Powering an Off port attaches a module that is present or leaves the port Empty. Powering down an Attached port stops its high voltage and
makes its wear record due before it goes Off. A detach of an Attached module, an insertion into an Empty port and an unreadable identity
each show their state. A good identity shows the electrode counts and a 32-byte challenge waits; the response decides whether the port
attaches as authentic. -/
def Obligations.SurfacePorts : Prop :=
  (∀ (s : State) (w : Who) (p : Fin 8), accepts s w .surf p.val 0x100 1 = true → s.rd SURF.SURF_STAT.state p.val = 0 → ∃ t, exec
     (.portPowerOn w p) s = .next t ∧ t.rd SURF.SURF_STAT.state p.val = (if bit s.pins.present p.val then 2 else 1) ∧ t.rd
     SURF.SURF_STAT.auth p.val = 0 ∧ (t.surface p.val).chal = [])
  ∧ (∀ (s : State) (w : Who) (p : Fin 8), accepts s w .surf p.val 0x100 0 = true → s.rd SURF.SURF_STAT.state p.val = 3 → ∃ t, exec
     (.portPowerOff w p) s = .next t ∧ t.rd SURF.SURF_STAT.state p.val = 3 ∧ (t.surface p.val).leaving = true ∧ (t.surface p.val).wearDue =
     true ∧ t.rd SURF.HV_STAT.on p.val = 0 ∧ t.tiles p.val = 0)
  ∧ (∀ (s : State) (w : Who) (p : Fin 8), accepts s w .surf p.val 0x100 0 = true → s.rd SURF.SURF_STAT.state p.val ≠ 3 → ∃ t, exec
     (.portPowerOff w p) s = .next t ∧ t.rd SURF.SURF_STAT.state p.val = 0 ∧ t.rd SURF.HV_STAT.on p.val = 0)
  ∧ (∀ (s : State) (p : Fin 8), s.rd SURF.SURF_STAT.state p.val = 3 ∨ s.rd SURF.SURF_STAT.state p.val = 2 → ∃ t, exec (.surfDetach p) s =
     .next t ∧ t.rd SURF.SURF_STAT.state p.val = 4 ∧ bit t.pins.present p.val = false ∧ t.rd SURF.SURF_STAT.present p.val = 0 ∧ t.rd
     SURF.HV_STAT.on p.val = 0 ∧ bit (t.rd (HDR.ev_raw .surf) p.val) 9 = true)
  ∧ (∀ (s : State) (p : Fin 8), s.rd SURF.SURF_STAT.state p.val = 1 → ∃ t, exec (.surfInsert p) s = .next t ∧ t.rd SURF.SURF_STAT.state
     p.val = 5 ∧ bit t.pins.present p.val = true ∧ t.rd SURF.SURF_STAT.present p.val = 1 ∧ bit (t.rd (HDR.ev_raw .surf) p.val) 10 = true)
  ∧ (∀ (s : State) (p : Fin 8), s.rd SURF.SURF_STAT.state p.val ≠ 1 → ∃ t, exec (.surfInsert p) s = .next t ∧ t.rd SURF.SURF_STAT.state
     p.val = s.rd SURF.SURF_STAT.state p.val ∧ bit t.pins.present p.val = true)
  ∧ (∀ (s : State) (p : Fin 8) (a b : List Byte), s.rd SURF.SURF_STAT.state p.val = 2 ∧ (s.surface p.val).chal = [] → ∃ t, exec
     (.surfIdReadDone p none a b) s = .next t ∧ t.rd SURF.SURF_STAT.state p.val = 6 ∧ bit (t.rd (HDR.ev_raw .surf) p.val) 12 = true)
  ∧ (∀ (s : State) (p : Fin 8) (hd rf a b : List Byte), s.rd SURF.SURF_STAT.state p.val = 2 ∧ (s.surface p.val).chal = [] → hd.length = 512
     ∧ idHeaderOk hd = true → ∃ t, exec (.surfIdReadDone p (some (hd, rf)) a b) s = .next t ∧ t.rd SURF.ID_INFO.trk p.val = field hd 6 1 +
     256 * field hd 7 1 + 65536 * field hd 8 1 ∧ (t.surface p.val).chal.length = 32 ∧ t.rd SURF.SURF_STAT.state p.val = 2)
  ∧ (∀ (s : State) (p : Fin 8) (a b : List Byte) (g : Option (List Byte × List Byte)), s.rd SURF.SURF_STAT.state p.val ≠ 2 → exec
     (.surfIdReadDone p g a b) s = .next s)
  ∧ (∀ (s : State) (p : Fin 8), s.rd SURF.SURF_STAT.state p.val = 2 ∧ (s.surface p.val).chal ≠ [] → ∃ t, exec (.authSignDone p none) s =
     .next t ∧ t.rd SURF.SURF_STAT.state p.val = 3 ∧ t.rd SURF.SURF_STAT.auth p.val = 2 ∧ t.counter .surf p.val 1 = (s.counter .surf p.val 1
     + 1) % 2 ^ 64 ∧ bit (t.rd (HDR.ev_raw .surf) p.val) 11 = true)
  ∧ (∀ (s : State) (p : Fin 8) (r q : BitVec 256) (k : SurfSt), k = s.surface p.val ∧ s.rd SURF.SURF_STAT.state p.val = 2 ∧ k.chal ≠ [] → ∃
     t, exec (.authSignDone p (some (r, q))) s = .next t ∧ t.rd SURF.SURF_STAT.state p.val = 3 ∧ t.rd SURF.SURF_STAT.auth p.val = (if
     k.certOk && ecdsaVerify (beField k.cert 0x10 32) (beField k.cert 0x30 32) (digestNat (sha256 (k.chal ++ be32 (digestNat (sha256
     k.signed))))) r.toNat q.toNat then 1 else 2) ∧ t.counter .surf p.val 0 = (s.counter .surf p.val 0 + 1) % 2 ^ 64)
  ∧ (∀ (s : State) (p : Fin 8), s.rd SURF.SURF_STAT.state p.val ≠ 2 → exec (.authSignDone p none) s = .next s)

/-- After a write of HV_CTRL, HV_CTRL.clear_oc or BOOST_CTRL.clear, each port's HV_STAT.on is 1 exactly where HV_STAT.why shows no failing
condition. An overcurrent sets the channel's flag, turns the port off and goes to the fault line; a boost fault turns every port off. A
block that begins a use after 10 ms of rest adds one to a channel's count. A written wear record advances its sequence; a port that is
leaving then goes Off. -/
def Obligations.WearAndHighVoltage : Prop :=
  (∀ (s : State) (w : Who) (p : Fin 8) (v : Word), accepts s w .surf p.val 0x118 v.toNat = true → ∃ t, exec (.hvEnableWrite w p v) s =
     .next t ∧ t.rd SURF.HV_CTRL.enable p.val = b2n (bit v.toNat 0) ∧ t.rd SURF.HV_STAT.why p.val = t.hvWhy p.val ∧ t.on SURF.HV_STAT.on
     p.val = decide (t.hvWhy p.val = 0))
  ∧ (∀ (s : State) (w : Who) (p : Fin 8) (v : Word), accepts s w .surf p.val 0x118 (setBit v.toNat 1) = true → ∃ t, exec (.hvClearOc w p v)
     s = .next t ∧ (List.range 4).all (fun n => !t.on SURF.CH_STAT.oc p.val n) = true ∧ t.on SURF.HV_STAT.on p.val = decide (t.hvWhy p.val =
     0))
  ∧ (∀ (s : State) (p : Fin 8) (n : Fin 4), s.on SURF.HV_STAT.on p.val = true → ∃ t, exec (.haptOvercurrent p n) s = .next t ∧ t.rd
     SURF.CH_STAT.oc p.val n.val = 1 ∧ t.rd SURF.HV_STAT.on p.val = 0 ∧ t.counter .surf p.val 6 = (s.counter .surf p.val 6 + 1) % 2 ^ 64 ∧
     (⟨Code.HAPT_OVERCURRENT, Blk.typeCode .surf, p.val, 0, s.now⟩ : FaultSig) ∈ t.faults)
  ∧ (∀ (s : State) (p : Fin 8) (n : Fin 4), s.on SURF.HV_STAT.on p.val = false → exec (.haptOvercurrent p n) s = .next s)
  ∧ (∀ (s : State) (p : Fin 8), s.on HAPT.BOOST_STAT.on = true → ∃ t, exec .haptHvFault s = .next t ∧ t.rd HAPT.BOOST_STAT.fault = 1 ∧ t.rd
     SURF.HV_STAT.on p.val = 0 ∧ t.rd HAPT.BOOST_STAT.on = 0 ∧ (⟨Code.HAPT_HV_FAULT, Blk.typeCode .hapt, 0, 0, s.now⟩ : FaultSig) ∈ t.faults)
  ∧ (∀ s : State, s.on HAPT.BOOST_STAT.on = false → exec .haptHvFault s = .next s)
  ∧ (∀ (s : State) (w : Who) (v : Word) (p : Fin 8), accepts s w .hapt 0 0x100 (setBit v.toNat 1) = true → ∃ t, exec (.boostClear w v) s =
     .next t ∧ t.rd HAPT.BOOST_STAT.fault = 0 ∧ t.rd HAPT.BOOST_CTRL.enable = b2n (bit v.toNat 0) ∧ t.on SURF.HV_STAT.on p.val = decide
     (t.hvWhy p.val = 0))
  ∧ (∀ (s : State) (p : Fin 8) (n : Fin 4), s.rd SURF.SURF_STAT.state p.val = 3 ∧ s.on SURF.HV_STAT.on p.val = true ∧ mget (s.surface
     p.val).hot n.val 0 ≠ 0 ∧ mget (s.surface p.val).run n.val 0 = 0 ∧ 10 ≤ mget (s.surface p.val).idle n.val 10 → ∃ t, exec .wearBlock s =
     .next t ∧ t.rd SURF.CH_WEAR.count p.val n.val = min (2 ^ 32 - 1) (s.rd SURF.CH_WEAR.count p.val n.val + 1) ∧ mget (t.surface p.val).run
     n.val 0 = 1 ∧ mget (t.surface p.val).hot n.val 0 = 0)
  ∧ (∀ (s : State) (p : Fin 8) (n : Fin 4), s.on SURF.HV_STAT.on p.val = false ∨ mget (s.surface p.val).hot n.val 0 = 0 → ∃ t, exec
     .wearBlock s = .next t ∧ t.rd SURF.CH_WEAR.count p.val n.val = s.rd SURF.CH_WEAR.count p.val n.val)
  ∧ (∀ (s : State) (p : Fin 8), (s.surface p.val).wearDue = true → ∀ a, (s.surface p.val).wearAt = some a → s.past a 1000000000 = true ∨
     (s.surface p.val).leaving = true → ∃ t, exec (.wearRecordWrite p true) s = .next t ∧ t.rd SURF.WEAR_SEQ.seq p.val = (s.rd
     SURF.WEAR_SEQ.seq p.val + 1) % 2 ^ 32 ∧ (t.surface p.val).wearDue = false ∧ (t.surface p.val).slot = 1 - (s.surface p.val).slot ∧
     t.counter .surf p.val 2 = (s.counter .surf p.val 2 + 1) % 2 ^ 64 ∧ t.rd SURF.SURF_STAT.state p.val = (if (s.surface p.val).leaving then
     0 else s.rd SURF.SURF_STAT.state p.val))
  ∧ (∀ (s : State) (p : Fin 8), (s.surface p.val).wearDue = true ∧ (s.surface p.val).leaving = false → ∀ a, (s.surface p.val).wearAt = some
     a → s.past a 1000000000 = true ∨ (s.surface p.val).leaving = true → ∃ t, exec (.wearRecordWrite p false) s = .next t ∧ t.rd
     SURF.SURF_STAT.wear_write_fail p.val = 1 ∧ (t.surface p.val).wearDue = true ∧ t.counter .surf p.val 3 = (s.counter .surf p.val 3 + 1) %
     2 ^ 64)
  ∧ (∀ (s : State) (p : Fin 8) (ok : Bool), (s.surface p.val).wearDue = false → exec (.wearRecordWrite p ok) s = .next s)

/-- A stream enable that names a ring or a channel the owner of the port does not hold is refused, another is taken. A playing stream plays one
frame each tick; a ramp that ends leaves it Idle. A calibration that is due begins on an authentic, permitted port and is skipped elsewhere;
a channel with a peak in range takes its frequency. A check that finds the power beyond the budget steps the next channel in order down
once. -/
def Obligations.HapticStreamsAndThrottle : Prop :=
  (∀ (s : State) (w : Who) (p : Fin 8) (v : Word), accepts s w .surf p.val 0x120 (setBit v.toNat 24) = true → s.rd (HDR.owner .surf) p.val
     = 0xFE ∧ (s.ring (bits v.toNat 0 12)).enable = true ∧ (s.ring (bits v.toNat 0 12)).type = 6 → (List.range 4).all (fun n => !bit v.toNat
     (16 + n) || s.holdsHapt 0xFE (hapCh p.val n)) = true → ∃ t, exec (.haptStreamEnable w p v) s = .next t ∧ t.rd SURF.STREAM_CFG.enable
     p.val = 1 ∧ t.rd SURF.STREAM_CFG.ring p.val = bits v.toNat 0 12 ∧ t.rd SURF.STREAM_CFG.chmask p.val = bits v.toNat 16 4)
  ∧ (∀ (s : State) (w : Who) (p : Fin 8) (v : Word), accepts s w .surf p.val 0x120 (setBit v.toNat 24) = true → s.rd (HDR.owner .surf) p.val
     = 0xFE ∧ (s.ring (bits v.toNat 0 12)).enable = false → exec (.haptStreamEnable w p v) s = .next (s.okResp.refuse .surf p.val
     Code.RING_BAD_CTX w.rid 0x120))
  ∧ (∀ (s : State) (p : Fin 8) (q : Nat) (v : List Int) (l : List (Nat × List Int)) (f : Feed), f = (s.surface p.val).feed ∧ f.st = 2 ∧
     f.frames = (q, v) :: l ∧ f.jobs = [] ∧ s.on SURF.STREAM_CFG.enable p.val = false → ∃ t, exec .haptTick s = .next t ∧ (t.surface
     p.val).feed.frames = l ∧ (t.surface p.val).feed.level = v ∧ t.rd SURF.STREAM_STAT.state p.val = 2 ∧ t.counter .surf p.val 4 =
     (s.counter .surf p.val 4 + 1) % 2 ^ 64)
  ∧ (∀ (s : State) (p : Fin 8) (f : Feed), f = (s.surface p.val).feed ∧ f.st = 3 ∧ f.ramp = 1 ∧ f.frames = [] ∧ f.jobs = [] ∧ s.on
     SURF.STREAM_CFG.enable p.val = false → ∃ t, exec .haptTick s = .next t ∧ t.rd SURF.STREAM_STAT.state p.val = 0 ∧ (t.surface
     p.val).feed.st = 0)
  ∧ (∀ (s : State) (p : Fin 8), (s.surface p.val).cal = 1 ∧ s.rd SURF.SURF_STAT.state p.val = 3 ∧ s.rd SURF.SURF_STAT.auth p.val = 1 ∧ bit
     (s.rd SAFE.HV_PERMIT.ports) p.val = true → ∃ t, exec (.resonanceCal p) s = .next t ∧ (t.surface p.val).cal = 2 ∧ (t.surface
     p.val).calCh = 0 ∧ t.counter .surf p.val 7 = (s.counter .surf p.val 7 + 1) % 2 ^ 64)
  ∧ (∀ (s : State) (p : Fin 8), (s.surface p.val).cal = 1 ∧ s.rd SURF.SURF_STAT.state p.val = 3 ∧ s.rd SURF.SURF_STAT.auth p.val ≠ 1 → ∃ t,
     exec (.resonanceCal p) s = .next t ∧ (t.surface p.val).cal = 3 ∧ (List.range 4).all (fun c => t.rd SURF.CH_CAL.status p.val c == 3) =
     true)
  ∧ (∀ (s : State) (p : Fin 8) (c : Fin 4) (f q r m : BitVec 16), (s.surface p.val).cal = 2 ∧ (s.surface p.val).calCh = c.val ∧ s.on
     SURF.HV_STAT.on p.val = true → 1280 ≤ f.toNat ∧ f.toNat ≤ 6400 ∧ r = f → ∃ t, exec (.haptCalStepDone p (some (f, q, r, m))) s = .next t
     ∧ t.rd SURF.CH_RES.f_res p.val c.val = f.toNat ∧ t.rd SURF.CH_CAL.status p.val c.val = 1 ∧ t.rd SURF.CH_CAL.source p.val c.val = 0 ∧
     mget (t.surface p.val).fUse c.val 3200 = f.toNat ∧ ((t.surface p.val).cal = 3 ∨ (t.surface p.val).calCh = c.val + 1))
  ∧ (∀ (s : State) (p : Fin 8), (s.surface p.val).cal ≠ 2 → exec (.haptCalStepDone p none) s = .next s)
  ∧ (∀ (s : State) (mw : BitVec 14) (vout : BitVec 12) (temp : BitVec 11) (c : Nat), s.throttleNext = some c ∧ c < 32 ∧ min 16000 (s.rd
     HAPT.BUDGET.mw) < mw.toNat → ∃ t, exec (.haptThrottleStep mw vout temp none) s = .next t ∧ t.throttle c = min 4 (s.throttle c + 1) ∧
     t.rd HAPT.PWR_NOW.mw = mw.toNat ∧ t.rd HAPT.BOOST_STAT.vout = vout.toNat ∧ t.rd HAPT.DIE_TEMP.temp = temp.toNat ∧ t.counter .hapt 0 3 =
     (s.counter .hapt 0 3 + 1) % 2 ^ 64)

/-- While the engine runs a tick counts in counter 0, and an output slot that is not routed, of a port that is not enabled, carries 0; while it
does not run, a tick is a frame of the alarm slot alone. A safe-load makes the staged set the active one and shows the channels waiting, or
is refused while one is pending; a timed-out channel takes the gain of the active set. PSET_DATA stores or answers the word at PSET_INDEX
and moves on. A stream enable without an enabled audio ring is refused. -/
def Obligations.AudioEngine : Prop :=
  (∀ (s : State) (inp : List Int), s.on AUDIO.ENG_STAT.running = true → ∃ t, exec (.audioTick inp) s = .next t ∧ t.counter .audio 0 0 =
     (s.counter .audio 0 0 + 1) % 2 ^ 64 ∧ t.audio.zero = 0)
  ∧ (∀ (s : State) (inp : List Int) (n : Fin 32), s.on AUDIO.ENG_STAT.running = true ∧ s.rd SAFE.ALARM_CFG.slot ≠ n.val → s.on
     AUDIO.PORT_CTRL.enable 0 (n.val / 8) = false ∨ bit (s.pword (112 + n.val)) 4 = false → ∃ t, exec (.audioTick inp) s = .next t ∧ mget
     t.audio.out n.val 0 = 0)
  ∧ (∀ (s : State) (inp : List Int), s.on AUDIO.ENG_STAT.running = false → exec (.audioTick inp) s = .next s.alarmFrame)
  ∧ (∀ (s : State) (w : Who), accepts s w .audio 0 0x10C 1 = true → s.on AUDIO.SAFELOAD.pending = false → ∃ t, exec (.safeloadGo w) s =
     .next t ∧ t.audio.active = s.audio.staging ∧ t.counter .audio 0 12 = (s.counter .audio 0 12 + 1) % 2 ^ 64 ∧ (t.audio.waits.all (fun c
     => t.gainOf c != wordGain (chanWord c) (t.pword (chanWord c)))) = true ∧ t.on AUDIO.SAFELOAD.pending = !t.audio.waits.isEmpty)
  ∧ (∀ (s : State) (w : Who), accepts s w .audio 0 0x10C 1 = true → s.on AUDIO.SAFELOAD.pending = true → exec (.safeloadGo w) s = .next
     (s.okResp.refuse .audio 0 Code.AUD_SAFELOAD_BUSY w.rid 0x10C))
  ∧ (∀ (s : State) (c : Fin 208), c.val ∈ s.audio.waits → s.past s.audio.loadAt (ms (max 1 (s.rd AUDIO.GAIN_TIMEOUT.ms))) = true → ∃ t, exec
     (.gainTimeout c) s = .next t ∧ t.gainOf c.val = wordGain (chanWord c.val) (s.pword (chanWord c.val)) ∧ t.audio.waits =
     s.audio.waits.filter (fun x => x != c.val) ∧ t.counter .audio 0 13 = (s.counter .audio 0 13 + 1) % 2 ^ 64)
  ∧ (∀ (s : State) (c : Fin 208), c.val ∉ s.audio.waits → exec (.gainTimeout c) s = .next s)
  ∧ (∀ (s : State) (w : Who) (v : Word) (k : Nat), accepts s w .audio 0 0x118 v.toNat = true → k = s.rd AUDIO.PSET_INDEX.index ∧ k < 144 ∧
     s.on AUDIO.PSET_INDEX.active = false → ∃ t, exec (.psetDataAccess w (some v)) s = .next t ∧ mget t.audio.staging k (psetImage k) =
     v.toNat ∧ t.rd AUDIO.PSET_INDEX.index = (k + 1) % 256 ∧ t.audio.active = s.audio.active)
  ∧ (∀ (s : State) (w : Who) (k : Nat), readable s w .audio 0 0x118 = true → k = s.rd AUDIO.PSET_INDEX.index ∧ k < 144 → ∃ t, exec
     (.psetDataAccess w none) s = .next t ∧ t.resp.ok = true ∧ t.resp.data = (if s.on AUDIO.PSET_INDEX.active then s.pword k else mget
     s.audio.staging k (psetImage k)) ∧ t.rd AUDIO.PSET_INDEX.index = (k + 1) % 256)
  ∧ (∀ (s : State) (w : Who) (v : Word) (r : Nat), accepts s w .audio 0 0x124 (setBit v.toNat 18) = true → r = bits v.toNat 0 18 ∧ (s.ring
     r).enable = false → exec (.audioStreamEnable w v) s = .next (s.okResp.refuse .audio 0 Code.RING_BAD_CTX w.rid 0x124))
  ∧ (∀ (s : State) (w : Who) (v : Word) (r k : Nat), accepts s w .audio 0 0x124 (setBit v.toNat 18) = true → r = bits v.toNat 0 18 ∧ k =
     s.rd AUDIO.STRM_SEL.stream ∧ (s.ring r).enable = true ∧ (s.ring r).type = 5 ∧ ringInst r = 0 → ∃ t, exec (.audioStreamEnable w v) s =
     .next t ∧ t.rd AUDIO.STRM_CFG.enable (b := k) = 1 ∧ t.rd AUDIO.STRM_CFG.ring (b := k) = r)

/-- A slave port that loses MCLK goes to PLL 20 with the loss shown and counted; cleared, it waits for a stable MCLK and then returns with a
frame of 0. A glitch is counted and recorded. An ASRC that loses lock is silent until it has measured a rate in range. The framer runs from
PLL 20 where it can, else from the backup clock. ALARM_CTRL.run starts its pattern and clearing it or the pattern's end stops it; AMP_EN0 is
released after it. While the tone does not sound its slot carries 0. -/
def Obligations.AudioPortsAndAlarm : Prop :=
  (∀ (s : State) (p : Fin 4), s.portClk p.val = 1 ∧ s.on AUDIO.PORT_CTRL.enable 0 p.val = true ∧ s.on AUDIO.PORT_STAT.clk_lost 0 p.val =
     false ∧ s.on AUDIO.PORT_STAT.waiting 0 p.val = false → ∃ t, exec (.audMclkLost p) s = .next t ∧ t.rd AUDIO.PORT_STAT.clk_lost 0 p.val =
     1 ∧ t.rd AUDIO.PORT_STAT.rate_hz 0 p.val = 48000 ∧ t.counter .audio 0 (8 + p.val) = (s.counter .audio 0 (8 + p.val) + 1) % 2 ^ 64 ∧ bit
     t.audio.zero p.val = true ∧ bit (t.rd (HDR.ev_raw .audio)) 8 = true)
  ∧ (∀ (s : State) (p : Fin 4), s.portClk p.val ≠ 1 → exec (.audMclkLost p) s = .next s ∧ exec (.audMclkGlitch p) s = .next s)
  ∧ (∀ (s : State) (p : Fin 4), s.portClk p.val = 1 ∧ s.on AUDIO.PORT_CTRL.enable 0 p.val = true → exec (.audMclkGlitch p) s = .next
     (((s.count .audio 0 (4 + p.val)).raise .audio 0 9).recErr .audio 0 Code.AUD_MCLK_GLITCH ridBlock (0x188 + 0x20 * p.val)))
  ∧ (∀ (s : State) (w : Who) (p : Fin 4), accepts s w .audio 0 (0x188 + 0x20 * p.val) 1 = true → s.on AUDIO.PORT_STAT.clk_lost 0 p.val =
     true → ∃ t, exec (.clkLostClear w p) s = .next t ∧ t.rd AUDIO.PORT_STAT.clk_lost 0 p.val = 0 ∧ t.rd AUDIO.PORT_STAT.waiting 0 p.val = 1)
  ∧ (∀ (s : State) (p : Fin 4), s.on AUDIO.PORT_STAT.waiting 0 p.val = true → ∃ t, exec (.mclkReturn p) s = .next t ∧ t.rd
     AUDIO.PORT_STAT.waiting 0 p.val = 0 ∧ bit t.audio.zero p.val = true)
  ∧ (∀ (s : State) (p : Fin 4), s.on AUDIO.PORT_STAT.waiting 0 p.val = false → exec (.mclkReturn p) s = .next s)
  ∧ (∀ (s : State) (p : Fin 4), s.portClk p.val ≠ 0 ∧ s.on AUDIO.PORT_CTRL.enable 0 p.val = true ∧ s.on AUDIO.PORT_STAT.locked 0 p.val =
     true → ∃ t, exec (.asrcRelock p) s = .next t ∧ t.rd AUDIO.PORT_STAT.locked 0 p.val = 0 ∧ t.counter .audio 0 15 = (s.counter .audio 0 15
     + 1) % 2 ^ 64 ∧ bit (t.rd (HDR.ev_raw .audio)) 12 = true)
  ∧ (∀ (s : State) (p : Fin 4) (hz : BitVec 20), s.portClk p.val ≠ 0 ∧ s.on AUDIO.PORT_CTRL.enable 0 p.val = true ∧ s.on
     AUDIO.PORT_STAT.locked 0 p.val = false → ∃ t, exec (.asrcLock p hz) s = .next t ∧ t.on AUDIO.PORT_STAT.locked 0 p.val = decide (8000 ≤
     hz.toNat ∧ hz.toNat ≤ 192000) ∧ t.rd AUDIO.PORT_STAT.rate_hz 0 p.val = hz.toNat)
  ∧ (∀ (s : State) (p : Fin 4) (hz : BitVec 20), s.portClk p.val = 0 → exec (.asrcLock p hz) s = .next s ∧ exec (.asrcRelock p) s = .next s)
  ∧ (∀ (s : State), s.framerPll = true → ∃ t, exec .framerClockSwitch s = .next t ∧ t.rd AUDIO.ENG_STAT.running = 1 ∧ t.rd
     AUDIO.ENG_STAT.backup = 0 ∧ t.rd SAFE.ALARM_STAT.backup = 0)
  ∧ (∀ (s : State), s.framerPll = false → ∃ t, exec .framerClockSwitch s = .next t ∧ t.rd AUDIO.ENG_STAT.running = 0 ∧ t.rd
     AUDIO.ENG_STAT.backup = 1 ∧ (List.range 8).all (fun k => mget t.audio.out k 0 == 0) = true)
  ∧ (∀ (s : State) (p : Fin 4), s.rd AUDIO.SIL_CFG.amp_mode 0 p.val = 0 ∧ s.on AUDIO.PORT_CTRL.enable 0 p.val = true → p.val ≠ 0 ∨
     s.alarm.hold = false → s.past (mget s.audio.loud p.val 0) (s.silHold p.val) = true → ∃ t, exec (.silenceHoldExpiry p) s = .next t ∧ bit
     t.pins.ampEn p.val = false ∧ bit t.audio.awake p.val = false)
  ∧ (∀ (s : State) (w : Who) (k : Fin 8), accepts s w .safe 0 0x200 (k.val + 256) = true → s.on SAFE.ALARM_CTRL.run = false → s.pwr.safeUp =
     true → ∃ t, exec (.alarmRun w k true) s = .next t ∧ t.rd SAFE.ALARM_CTRL.run = 1 ∧ t.live SAFE.ALARM_STAT.pattern 0 0 0 = k.val ∧
     t.alarm.start = some s.now ∧ t.alarm.pattern = k.val ∧ bit t.pins.ampEn 0 = true)
  ∧ (∀ (s : State) (w : Who) (k : Fin 8), accepts s w .safe 0 0x200 k.val = true → s.on SAFE.ALARM_CTRL.run = true → ∃ t, exec (.alarmRun w
     k false) s = .next t ∧ t.rd SAFE.ALARM_CTRL.run = 0 ∧ t.alarm.start = none)
  ∧ (∀ (s : State) (w : Who) (k : Fin 8) (b : Nat), accepts s w .safe 0 0x200 (k.val + 256 * s.rd SAFE.ALARM_CTRL.run) = true → s.on
     SAFE.ALARM_CTRL.run = true ∧ s.alarm.start = some b ∧ s.alarm.next = none → ∃ t, exec (.alarmPatternWrite w k) s = .next t ∧ t.rd
     SAFE.ALARM_CTRL.run = 1 ∧ t.rd SAFE.ALARM_CTRL.pattern = k.val ∧ (t.alarm.pattern = k.val ∨ (t.alarm.next.map (·.1)) = some k.val))
  ∧ (∀ (s : State), s.on SAFE.ALARM_CTRL.run = true ∧ s.alarm.next = none ∧ s.rd SAFE.ALARM_PAT_T.repeat 0 s.alarm.pattern ≠ 0 →
     s.alarmPlayed = true → ∃ t, exec .alarmEnd s = .next t ∧ t.rd SAFE.ALARM_CTRL.run = 0 ∧ t.alarm.start = none)
  ∧ (∀ (s : State), s.on SAFE.ALARM_CTRL.run = false ∧ s.on AUDIO.PORT_CTRL.enable 0 0 = false → s.past s.alarm.stopAt 100000000 = true → ∃
     t, exec .alarmAmpRelease s = .next t ∧ t.alarm.hold = false ∧ bit t.pins.ampEn 0 = false)
  ∧ (∀ (s : State), s.on SAFE.ALARM_CTRL.run = true → exec .alarmAmpRelease s = .next s)
  ∧ (∀ (s : State) (inp : List Int), s.alarmSounds = false ∨ s.on SAFE.ALARM_CFG.tdm_en = false ∨ s.now < s.alarm.tdmFrom → ∃ t, exec
     (.audioTick inp) s = .next t ∧ t.slotSent (t.rd SAFE.ALARM_CFG.slot) = 0)

/-- A sampled legal transition moves ENC_POS by one in the direction of R427 and invert, an illegal one counts and starts a burst, which ends.
DIN and GPIO changes set the state or level and, enabled, the edge bit. A GPIO function held by another pin is PIN_CONFLICT; a pin owner
R434 does not allow is WORLD_OWNER. I2C go starts a transfer and its end shows result and count; a UART byte is queued, received and read in
order. -/
def Obligations.PanelControls : Prop :=
  (∀ (s : State) (e : Fin 16) (a b : Bool), s.encSampled e.val = true ∧ s.on ENC.ENC_CFG.enable 0 e.val = true → (grayPos (s.on
     ENC.ENC_STAT.a 0 e.val) (s.on ENC.ENC_STAT.b 0 e.val) + 1) % 4 = grayPos a b → ∃ t, exec (.encTransition e a b) s = .next t ∧ t.rd
     ENC.ENC_POS.pos 0 e.val = (s.rd ENC.ENC_POS.pos 0 e.val + (if s.on ENC.ENC_CFG.invert 0 e.val then 2 ^ 32 - 1 else 1)) % 2 ^ 32 ∧ t.on
     ENC.ENC_STAT.a 0 e.val = a ∧ t.on ENC.ENC_STAT.b 0 e.val = b)
  ∧ (∀ (s : State) (e : Fin 16) (a b : Bool), s.encSampled e.val = true ∧ s.on ENC.ENC_CFG.enable 0 e.val = true → a ≠ s.on ENC.ENC_STAT.a 0
     e.val ∧ b ≠ s.on ENC.ENC_STAT.b 0 e.val → ∃ t, exec (.encTransition e a b) s = .next t ∧ t.rd ENC.ENC_POS.pos 0 e.val = s.rd
     ENC.ENC_POS.pos 0 e.val ∧ t.counter .enc 0 e.val = (s.counter .enc 0 e.val + 1) % 2 ^ 64 ∧ t.rd ENC.ENC_STAT.burst 0 e.val = 1)
  ∧ (∀ (s : State) (e : Fin 16) (a b : Bool), s.encSampled e.val = false → exec (.encTransition e a b) s = .next s)
  ∧ (∀ (s : State) (e : Fin 16), s.past (mget s.pwr.encAt e.val 0) (ms 10) = true → exec (.encBurstEnd e) s = .next (s.wr ENC.ENC_STAT.burst
     0 0 e.val))
  ∧ (∀ (s : State) (w : Who) (e : Fin 16) (v : Word), accepts s w .enc 0 (0x10C + 16 * e.val) v.toNat = true → s.pinReach w .enc (0x10C + 16
     * e.val) = true → ∃ t, exec (.encSet w e v) s = .next t ∧ t.rd ENC.ENC_POS.pos 0 e.val = v.toNat ∧ t.resp.ok = true)
  ∧ (∀ (s : State) (w : Who) (e : Fin 16) (v : Word), accepts s w .enc 0 (0x10C + 16 * e.val) v.toNat = true → s.pinReach w .enc (0x10C + 16
     * e.val) = false → exec (.encSet w e v) s = .next (s.refuse .enc 0 Code.REG_PERM w.rid (0x10C + 16 * e.val)))
  ∧ (∀ (s : State) (k : Fin 32) (l : Bool), s.on GPIO.DIN_CFG.state 0 k.val = !l → s.on (if l then GPIO.DIN_CFG.rise_en else
     GPIO.DIN_CFG.fall_en) 0 k.val = true → s.mainSampled = true ∧ s.past (mget s.ctl.dinAt k.val 0) (ms (s.rd GPIO.DIN_CFG.deb_ms 0 k.val))
     = true → ∃ t, exec (.dinChange k l) s = .next t ∧ t.on GPIO.DIN_CFG.state 0 k.val = l ∧ t.rd GPIO.DIN_CFG.edge 0 k.val = 1 ∧ t.counter
     .gpio 0 0 = (s.counter .gpio 0 0 + 1) % 2 ^ 64)
  ∧ (∀ (s : State) (k : Fin 32) (l : Bool), s.on GPIO.DIN_CFG.state 0 k.val = l → exec (.dinChange k l) s = .next s)
  ∧ (∀ (s : State) (i : Fin 48) (l : Bool), s.gpioOutside i.val = !l → s.gpioFunc i.val = 0 ∧ s.on (if l then GPIO.GPIO_CFG.rise_en else
     GPIO.GPIO_CFG.fall_en) 0 i.val = true → s.mainSampled = true → ∃ t, exec (.gpioEdge i l) s = .next t ∧ t.gpioOutside i.val = l ∧ t.rd
     GPIO.GPIO_CFG.edge 0 i.val = 1 ∧ bit (t.rd (HDR.ev_raw .gpio)) 8 = true)
  ∧ (∀ (s : State) (i : Fin 48) (l : Bool), s.gpioOutside i.val = l → exec (.gpioEdge i l) s = .next
     { s with pins := { s.pins with driven := setBit s.pins.driven i.val, gpio := if l then setBit s.pins.gpio i.val else clrBit s.pins.gpio i.val } })
  ∧ (∀ (s : State) (w : Who) (i : Fin 48) (v : Word), accepts s w .gpio 0 (0x300 + 4 * i.val) v.toNat = true → s.pinReach w .gpio (0x300 + 4
     * i.val) = true ∧ s.pinConflict i.val (v.toNat % 32) = false → ∃ t, exec (.gpioCfgWrite w i v) s = .next t ∧ t.rd GPIO.GPIO_CFG.func 0
     i.val = v.toNat % 32 ∧ t.resp.ok = true)
  ∧ (∀ (s : State) (w : Who) (i : Fin 48) (v : Word), accepts s w .gpio 0 (0x300 + 4 * i.val) v.toNat = true → s.pinReach w .gpio (0x300 + 4
     * i.val) = true ∧ s.pinConflict i.val (v.toNat % 32) = true → exec (.gpioCfgWrite w i v) s = .next (s.okResp.refuse .gpio 0
     Code.PIN_CONFLICT w.rid (0x300 + 4 * i.val)))
  ∧ (∀ (s : State) (w : Who) (i : Fin 96) (v : Word), accepts s w .gpio 0 (0x100 + 4 * i.val) v.toNat = true → s.pinOwnerOk i.val (v.toNat %
     256) = true → ∃ t, exec (.pinOwnerWrite w i v) s = .next t ∧ t.pinOwner i.val = v.toNat % 256 ∧ t.resp.ok = true)
  ∧ (∀ (s : State) (w : Who) (i : Fin 96) (v : Word), accepts s w .gpio 0 (0x100 + 4 * i.val) v.toNat = true → s.pinOwnerOk i.val (v.toNat %
     256) = false → exec (.pinOwnerWrite w i v) s = .next (s.okResp.refuse .gpio 0 Code.WORLD_OWNER w.rid (0x100 + 4 * i.val)))
  ∧ (∀ (s : State) (w : Who) (c : Fin 4) (v : Word), accepts s w .gpio 0 (0x500 + 0x20 * c.val) (v.toNat ||| 2 ^ 31) = true → s.pinReach w
     .gpio (0x500 + 0x20 * c.val) = true → ∃ t, exec (.i2cGo w c v) s = .next t ∧ bit t.ctl.i2cBusy c.val = true ∧ (bit s.ctl.i2cBusy c.val
     = false → mget t.ctl.i2cWord c.val 0 = v.toNat ||| 2 ^ 31) ∧ t.resp.ok = true)
  ∧ (∀ (s : State) (c : Fin 4) (n : Fin 17) (d : List Byte), bit s.ctl.i2cBusy c.val = true → ∃ t, exec (.i2cDone c 0 n d) s = .next t ∧ bit
     t.ctl.i2cBusy c.val = false ∧ t.rd GPIO.I2C_STAT.result 0 c.val = 0 ∧ t.rd GPIO.I2C_STAT.count 0 c.val = bits (mget s.ctl.i2cWord c.val
     0) 8 4 + 1 ∧ t.counter .gpio 0 1 = (s.counter .gpio 0 1 + 1) % 2 ^ 64)
  ∧ (∀ (s : State) (c : Fin 4) (n : Fin 17) (d : List Byte), bit s.ctl.i2cBusy c.val = true ∧ n.val ≤ bits (mget s.ctl.i2cWord c.val 0) 8 4
     → ∃ t, exec (.i2cDone c 1 n d) s = .next t ∧ t.rd GPIO.I2C_STAT.result 0 c.val = 1 ∧ t.rd GPIO.I2C_STAT.count 0 c.val = n.val ∧
     t.counter .gpio 0 2 = (s.counter .gpio 0 2 + 1) % 2 ^ 64)
  ∧ (∀ (s : State) (c : Fin 4) (r : Fin 3) (n : Fin 17) (d : List Byte), bit s.ctl.i2cBusy c.val = false → exec (.i2cDone c r n d) s = .next
     s)
  ∧ (∀ (s : State) (w : Who) (u : Fin 2) (v : Word), accepts s w .gpio 0 (0x584 + 0x20 * u.val) v.toNat = true → s.pinReach w .gpio (0x584 +
     0x20 * u.val) = true ∧ (s.uartTx u.val).length < 64 → ∃ t, exec (.uartTxWrite w u v) s = .next t ∧ mget t.ctl.uTx u.val [] = s.uartTx
     u.val ++ [(max s.now (mget s.ctl.uFree u.val 0), v.toNat % 256)])
  ∧ (∀ (s : State) (u : Fin 2) (d : Byte), (mget s.ctl.uRx u.val []).length < 64 → s.uartRxPin u.val = true → ∃ t, exec (.uartRxByte u d
     false false) s = .next t ∧ mget t.ctl.uRx u.val [] = mget s.ctl.uRx u.val [] ++ [d.toNat] ∧ bit (t.rd (HDR.ev_raw .gpio)) 10 = true)
  ∧ (∀ (s : State) (u : Fin 2) (d : Byte) (f p : Bool), 64 ≤ (mget s.ctl.uRx u.val []).length → s.uartRxPin u.val = true → ∃ t, exec
     (.uartRxByte u d f p) s = .next t ∧ mget t.ctl.uRx u.val [] = mget s.ctl.uRx u.val [] ∧ t.counter .gpio 0 3 = (s.counter .gpio 0 3 + 1)
     % 2 ^ 64 ∧ bit (t.rd GPIO.UART_STAT.errors 0 u.val) 2 = true)
  ∧ (∀ (s : State) (w : Who) (u : Fin 2) (d : Nat) (q : List Nat), readable s w .gpio 0 (0x588 + 0x20 * u.val) = true ∧ s.pinReach w .gpio
     (0x588 + 0x20 * u.val) = true → mget s.ctl.uRx u.val [] = d :: q → ∃ t, exec (.uartRxRead w u) s = .next t ∧ t.resp.ok = true ∧
     t.resp.data = d + 256 ∧ mget t.ctl.uRx u.val [] = q)

/-- A first sample makes the time valid at the master's offset; a later one near it slews, one ahead of it steps, one behind it starts a new
epoch. Two failed dialogues in a row are ignored and the third loses the master, once. An early PPS edge is counted and ignored. Arming the
strobe in the past is SNAP_PAST; armed, it fires at its time, copies every page's counters, and is armed again only for a period; a cancel
disarms it. -/
def Obligations.TimeBase : Prop :=
  (∀ (s : State) (m : BitVec 64), s.rd TIME.TIME_STAT.master = 1 ∧ s.on TIME.TIME_STAT.valid = false → s.ptmDue = true → ∃ t, exec
     (.ptmDialogue (some m)) s = .next t ∧ t.rd TIME.TIME_STAT.valid = 1 ∧ t.rd TIME.TIME_STAT.lost = 0 ∧ t.rd TIME.OFS.ofs = ofSigned 64
     ((m.toNat : Int) - s.now) ∧ t.rd TIME.OFS_BASE.base = s.now % 2 ^ 64 ∧ t.rd TIME.SLEW.ppm = 0 ∧ t.rd TIME.PUB_SEQ.seq = (s.rd
     TIME.PUB_SEQ.seq + 1) % 2 ^ 32 ∧ t.time.fails = 0)
  ∧ (∀ (s : State) (m : BitVec 64) (e : Int), s.rd TIME.TIME_STAT.master = 1 ∧ s.on TIME.TIME_STAT.valid = true ∧ e = (m.toNat : Int) -
     s.now - s.timeOffset s.now → e ≤ -1000000 → s.ptmDue = true → ∃ t, exec (.ptmDialogue (some m)) s = .next t ∧ t.rd TIME.EPOCH.epoch =
     (s.rd TIME.EPOCH.epoch + 1) % 65536 ∧ t.rd TIME.EPOCH_START.start = s.now % 2 ^ 64 ∧ t.rd TIME.OFS.ofs = ofSigned 64 ((m.toNat : Int) -
     s.now))
  ∧ (∀ (s : State) (m : BitVec 64) (e : Int), s.rd TIME.TIME_STAT.master = 1 ∧ s.on TIME.TIME_STAT.valid = true ∧ e = (m.toNat : Int) -
     s.now - s.timeOffset s.now → 1000000 ≤ e → s.ptmDue = true → ∃ t, exec (.ptmDialogue (some m)) s = .next t ∧ t.rd TIME.EPOCH.epoch =
     s.rd TIME.EPOCH.epoch ∧ t.rd TIME.OFS.ofs = ofSigned 64 ((m.toNat : Int) - s.now) ∧ t.counter .time 0 2 = (s.counter .time 0 2 + 1) % 2
     ^ 64)
  ∧ (∀ (s : State) (m : BitVec 64) (e : Int), s.rd TIME.TIME_STAT.master = 1 ∧ s.on TIME.TIME_STAT.valid = true ∧ e = (m.toNat : Int) -
     s.now - s.timeOffset s.now → 0 < e ∧ e < 1000000 → s.ptmDue = true → ∃ t, exec (.ptmDialogue (some m)) s = .next t ∧ t.rd TIME.SLEW.ppm
     = 500 ∧ t.rd TIME.TIME_STAT.slewing = 1 ∧ t.rd TIME.SLEW_END.end_ = (s.now + 2000 * e.natAbs) % 2 ^ 64 ∧ t.counter .time 0 1 =
     (s.counter .time 0 1 + 1) % 2 ^ 64)
  ∧ (∀ (s : State), s.rd TIME.TIME_STAT.master = 1 ∧ s.time.fails < 2 → s.ptmDue = true → exec (.ptmDialogue none) s = .next
     { s with time := { s.time with fails := s.time.fails + 1, ptmAt := some s.now } })
  ∧ (∀ (s : State), s.rd TIME.TIME_STAT.master = 1 ∧ 2 ≤ s.time.fails ∧ s.on TIME.TIME_STAT.lost = false → s.ptmDue = true → ∃ t, exec
     (.ptmDialogue none) s = .next t ∧ t.rd TIME.TIME_STAT.lost = 1 ∧ t.rd TIME.SLEW.ppm = 0 ∧ t.counter .time 0 4 = (s.counter .time 0 4 +
     1) % 2 ^ 64)
  ∧ (∀ (s : State), s.rd TIME.TIME_STAT.master = 1 ∧ s.ptmDue = false → ∀ m, exec (.ptmDialogue m) s = .next s)
  ∧ (∀ (s : State), s.rd TIME.TIME_STAT.master ≠ 0 ∧ s.on TIME.TIME_STAT.lost = false → s.rd TIME.TIME_STAT.master = 2 → s.past
     (s.time.edge.getD s.time.since) (ms 1500) = true → ∃ t, exec .timeMasterLost s = .next t ∧ t.rd TIME.TIME_STAT.lost = 1 ∧ t.rd
     TIME.OFS.ofs = ofSigned 64 (s.timeOffset s.now) ∧ t.rd TIME.SLEW.ppm = 0 ∧ bit (t.rd (HDR.ev_raw .time)) 11 = true)
  ∧ (∀ (s : State), s.on TIME.TIME_STAT.lost = true → exec .timeMasterLost s = .next s)
  ∧ (∀ (s : State) (f : Bool) (p : Nat), s.rd TIME.TIME_STAT.master = 2 ∧ s.on TIME.MASTER_CFG.pps_fall = f ∧ s.time.edge = some p ∧ s.now <
     p + 900000000 → exec (.ppsEdge f) s = .next (s.count .time 0 5))
  ∧ (∀ (s : State) (f : Bool), s.rd TIME.TIME_STAT.master = 2 ∧ s.on TIME.MASTER_CFG.pps_fall = f ∧ s.time.edge = none → ∃ t, exec (.ppsEdge
     f) s = .next t ∧ t.time.edge = some s.now ∧ t.rd TIME.TOD_NEXT.tod = (s.rd TIME.TOD_NEXT.tod + 1000000000) % 2 ^ 64 ∧ t.counter .time 0
     0 = (s.counter .time 0 0 + 1) % 2 ^ 64)
  ∧ (∀ (s : State), s.rd TIME.SLEW_END.end_ ≤ s.now → exec .timeSlewEnd s = .next (s.wr TIME.TIME_STAT.slewing 0))
  ∧ (∀ (s : State), s.now < s.rd TIME.SLEW_END.end_ → exec .timeSlewEnd s = .next s)
  ∧ (∀ (s : State) (w : Who) (hi : Word) (lo : Nat), accepts s w .time 0 0x14C hi.toNat = true ∧ lo = s.loOf w .time 0 (s.wordNow .time 0
     0x148) ∧ s.wordBad w .time 0 0x148 lo = none → s.now + 61036 ≤ hi.toNat * 2 ^ 32 + lo → ∃ t, exec (.snapArm w hi) s = .next t ∧ t.rd
     TIME.SNAP_AT.at_ = hi.toNat * 2 ^ 32 + lo % 2 ^ 32 ∧ t.rd TIME.SNAP_CTRL.armed = 1)
  ∧ (∀ (s : State) (w : Who) (hi : Word) (lo : Nat), accepts s w .time 0 0x14C hi.toNat = true ∧ lo = s.loOf w .time 0 (s.wordNow .time 0
     0x148) ∧ s.wordBad w .time 0 0x148 lo = none → hi.toNat * 2 ^ 32 + lo < s.now + 61036 → ∃ t, exec (.snapArm w hi) s = .next t ∧ t.rd
     TIME.SNAP_CTRL.armed = s.rd TIME.SNAP_CTRL.armed ∧ t.rd TIME.SNAP_AT.at_ = s.rd TIME.SNAP_AT.at_ ∧ t.resp.ok = false)
  ∧ (∀ (s : State) (w : Who) (v : Word), accepts s w .time 0 0x150 (v.toNat ||| 2) = true → ∃ t, exec (.snapCancel w v) s = .next t ∧ t.rd
     TIME.SNAP_CTRL.armed = 0 ∧ t.rd TIME.SNAP_AT.at_ = s.rd TIME.SNAP_AT.at_)
  ∧ (∀ (s : State) (b : Blk) (i : Nat) (j : Nat), s.on TIME.SNAP_CTRL.armed = true ∧ s.rd TIME.SNAP_AT.at_ ≤ s.time.tick * 1000000000 /
     32768 ∧ s.snapReady = true → (b, i) ∈ allPages ∧ j < b.counters i → ∃ t, exec .snapStrobe s = .next t ∧ mget t.snap (ctrKey (b.page i)
     j) 0 = s.counter b i j ∧ mget t.snap (ctrKey (b.page i) 121) 0 = s.time.tick * 1000000000 / 32768 ∧ t.time.strobe = s.time.strobe + 1 ∧
     t.rd TIME.SNAP_CTRL.armed = (if s.rd TIME.SNAP_CTRL.period_ms = 0 then 0 else 1))
  ∧ (∀ (s : State), s.on TIME.SNAP_CTRL.armed = false → exec .snapStrobe s = .next s)

/-- The command at the front of the queue is taken and its outcome is that of exec on the state with the rest of the queue. exec answers a next
state for every command in every state. With no command waiting, a step is one tick of idle time, which only the time base shows: the
model's choice (log entry 2). -/
def Obligations.StepRunsFrontCommand : Prop :=
  (∀ (c : Instr) (s : State) (rest : List Instr), s.pending = c :: rest → step s = exec c { s with pending := rest })
  ∧ (∀ (c : Instr) (s : State), ∃ t, exec c s = .next t)
  ∧ (∀ (s : State), s.pending = [] → step s = .next s.idleTick ∧ s.idleTick = { s with time := s.idleTick.time })

/-- State.reset holds no waiting command, and its memories are in canonical form. On every page of R48 enable, EV_RAW, EV_MASK, the error
record, LOCK and COMMIT read 0, and PG_OWNER reads 0xFD on the safety pages and 0xFE on every other. Every counter reads 0.
HEAD_SRC.fallback is 0xFF and FAULT_CTRL.assert is 1. The factory bank's contents, and DRAM, Basin and flash with nothing written, are the
model's choice (log entries 6 to 8). -/
def Obligations.ResetState : Prop :=
  (State.reset.pending = [] ∧ Memory.wf State.reset = true ∧ State.reset.resp = {})
  ∧ (∀ (p : Blk × Nat), p ∈ allPages → State.reset.rd (HDR.enable p.1) p.2 = 0 ∧ State.reset.rd (HDR.ev_raw p.1) p.2 = 0 ∧ State.reset.rd
     (HDR.ev_mask p.1) p.2 = 0 ∧ State.reset.rd (HDR.err_valid p.1) p.2 = 0 ∧ State.reset.rd (HDR.err_code p.1) p.2 = 0 ∧ State.reset.rd
     (HDR.lock p.1) p.2 = 0 ∧ State.reset.rd (HDR.pending p.1) p.2 = 0 ∧ State.reset.rd (HDR.commit_seq p.1) p.2 = 0 ∧ State.reset.rd
     (HDR.owner p.1) p.2 = (if p.1.safetyPage then 0xFD else 0xFE))
  ∧ (∀ (b : Blk) (i j : Nat), State.reset.counter b i j = 0)
  ∧ (State.reset.rd SAFE.HEAD_SRC.fallback = 0xFF ∧ State.reset.rd SAFE.FAULT_CTRL.assert = 1)

/-- From every state whose memories are in canonical form (addresses strictly rising, no entry equal to what its address reads as when
unlisted), a step answers a next state whose memories are in canonical form and whose ordering code is the same, and so does a run of any
length: SafeRun holds of it. A step takes one command off the queue and changes the queue in no other way. -/
def Obligations.StepKeepsMemories : Prop :=
  (∀ (s : State), Memory.wf s = true → ∃ t, step s = .next t ∧ Memory.wf t = true ∧ t.variant = s.variant ∧ t.pending = s.pending.tail)
  ∧ (∀ (s : State) (n : Nat), Memory.wf s = true → ∃ t, runs n s = some t ∧ Memory.wf t = true ∧ t.variant = s.variant)
  ∧ (∀ (s : State), SafeRun s)

/-- For every command c, every state s and every next state t of exec c s: each register field that no part of mayChange c takes in reads as
before, in the active set and in the shadow set; each counter, buffer, memory byte and other field of State that mayChange c does not list
is as it was; the ordering code and the waiting commands never change. mayChange names, command by command, what the command acts on and
what its refusals, faults and events write. -/
def Obligations.CommandsChangeOnlyTheirParts : Prop :=
  ∀ (c : Instr) (s t : State), exec c s = .next t → Unchanged (mayChange c) s t

/-- A register page reached by the sender accepts 32-bit accesses at 4-aligned offsets only. A write or a read at another offset, or of another
size, is refused with REG_SIZE; one at an aligned offset that is not defined, 0x038 to 0x0FF among them, with REG_UNMAPPED. A refusal
answers an error response with data 0 and changes nothing but the response, the page's error record, its EV_RAW and the interrupt message
that this sends. -/
def Obligations.UndefinedOffsetsAndSizes : Prop :=
  (∀ (s : State) (w : Who) (page : Fin 256) (b : Blk) (i : Nat) (off : BitVec 12) (v : Word), blkOfPage page.val = some (b, i) → writable
     s w b i off.toNat = true → off.toNat % 4 ≠ 0 → exec (.registerWrite w page off v) s = .next (s.refuse b i Code.REG_SIZE w.rid
     off.toNat))
  ∧ (∀ (s : State) (w : Who) (page : Fin 256) (b : Blk) (i : Nat) (off : BitVec 12) (v : Word), blkOfPage page.val = some (b, i) → writable
     s w b i off.toNat = true → off.toNat % 4 ≠ 0 → exec (.regWriteHi w page off v) s = .next (s.refuse b i Code.REG_SIZE w.rid off.toNat))
  ∧ (∀ (s : State) (w : Who) (page : Fin 256) (b : Blk) (i : Nat) (off : BitVec 12) (v : Word), blkOfPage page.val = some (b, i) → writable
     s w b i off.toNat = true → off.toNat % 4 = 0 ∧ offsetDefined b i off.toNat = false → exec (.registerWrite w page off v) s = .next
     (s.refuse b i Code.REG_UNMAPPED w.rid off.toNat))
  ∧ (∀ (s : State) (w : Who) (page : Fin 256) (b : Blk) (i : Nat) (off : BitVec 12) (v : Word), blkOfPage page.val = some (b, i) → writable
     s w b i off.toNat = true → off.toNat % 4 = 0 ∧ offsetDefined b i off.toNat = false → exec (.regWriteHi w page off v) s = .next
     (s.refuse b i Code.REG_UNMAPPED w.rid off.toNat))
  ∧ (∀ (s : State) (w : Who) (page : Fin 256) (b : Blk) (i : Nat) (off : BitVec 12), blkOfPage page.val = some (b, i) → readable s w b i
     off.toNat = true → off.toNat % 4 ≠ 0 ∨ offsetDefined b i off.toNat = false → exec (.regReadLoLatch w page off) s = .next (s.refuse b i
     (if off.toNat % 4 ≠ 0 then Code.REG_SIZE else Code.REG_UNMAPPED) w.rid off.toNat))
  ∧ (∀ (s : State) (b : Blk) (i off : Nat) (op : MemOp) (a : Addr), blkOfPage ((a.toNat - 0x3000000000) / 0x1000) = some (b, i) ∧ a.toNat %
     0x1000 = off → 0x3000000000 ≤ a.toNat ∧ a.toNat < 0x3000100000 → memLen op ≠ 4 ∨ off % 4 ≠ 0 → b ≠ .mgr → s.pins.resetN = true → exec
     (.memoryAccess .safety a op) s = .next (s.refuse b i Code.REG_SIZE Who.saf.rid off))
  ∧ (∀ (s : State) (b : Blk) (i code rid addr : Nat), (s.refuse b i code rid addr).resp = ⟨false, 0⟩ ∧ Unchanged [.resp, .err b, .fld
     (HDR.ev_raw b), .sent] s (s.refuse b i code rid addr))
  ∧ (∀ (b : Blk) (i off : Nat), 0x038 ≤ off → off < 0x100 → offsetDefined b i off = false)

/-- On a page whose PG_CAP.shadowed is 0, COMMIT and SHADOW_STAT read 0, its group bit with them, so the page is never a member of a commit
group. No register of it has a shadow. A write to its COMMIT, by a sender that reaches the page, is refused with REG_UNMAPPED and an error
response; the staged sets and shadows are as they were, and no event but err is set. -/
def Obligations.ShadowlessPages : Prop :=
  (∀ (s : State) (w : Who) (page : Fin 256) (b : Blk) (i : Nat) (off : BitVec 12), blkOfPage page.val = some (b, i) ∧ b.shadowed = false →
     readable s w b i off.toNat = true → off = 0x020 ∨ off = 0x024 → ∃ t, exec (.regReadLoLatch w page off) s = .next t ∧ t.resp = ⟨true, 0⟩)
  ∧ (∀ (b : Blk) (i off : Nat) (p : Part), b.shadowed = false → p ∈ partsAt b i off → p.fld.acc ≠ .rws)
  ∧ (∀ (s : State) (w : Who) (page : Fin 256) (b : Blk) (i : Nat), blkOfPage page.val = some (b, i) ∧ b.shadowed = false → writable s w b i
     0x020 = true → exec (.commit w page) s = .next (s.refuse b i Code.REG_UNMAPPED w.rid 0x020))
  ∧ (∀ (s : State) (w : Who) (page : Fin 256) (b : Blk) (i : Nat), blkOfPage page.val = some (b, i) ∧ b.shadowed = false → writable s w b i
     0x020 = true → exec (.commitRevert w page) s = .next (s.refuse b i Code.REG_UNMAPPED w.rid 0x020))
  ∧ (∀ (s : State) (w : Who) (page : Fin 256) (b : Blk) (i : Nat) (v : Word), blkOfPage page.val = some (b, i) ∧ b.shadowed = false →
     writable s w b i 0x020 = true → exec (.registerWrite w page 0x020 v) s = .next (s.refuse b i Code.REG_UNMAPPED w.rid 0x020))
  ∧ (∀ (s : State) (b : Blk) (i rid n : Nat), 0 < n → bit ((s.refuse b i Code.REG_UNMAPPED rid 0x020).rd (HDR.ev_raw b) i) n = bit (s.rd
     (HDR.ev_raw b) i % 2 ^ 32) n ∧ (s.refuse b i Code.REG_UNMAPPED rid 0x020).staged = s.staged ∧ (s.refuse b i Code.REG_UNMAPPED rid
     0x020).shadow = s.shadow ∧ (s.refuse b i Code.REG_UNMAPPED rid 0x020).resp.ok = false)

/-- A write of ENC_SETe that is accepted puts its value into the position. The next transition of that encoder, enabled and sampled, moves the
position by one from the written value, in the direction its phases give. -/
def Obligations.EncoderSetBetweenSamples : Prop :=
  (∀ (s : State) (w : Who) (e : Fin 16) (v : Word) (a b : Bool), accepts s w .enc 0 (0x10C + 16 * e.val) v.toNat = true ∧ s.pinReach w
     .enc (0x10C + 16 * e.val) = true → s.encSampled e.val = true ∧ s.on ENC.ENC_CFG.enable 0 e.val = true → (grayPos (s.on ENC.ENC_STAT.a 0
     e.val) (s.on ENC.ENC_STAT.b 0 e.val) + 1) % 4 = grayPos a b → ∃ t, exec (.encSet w e v) s = .next t ∧ t.rd ENC.ENC_POS.pos 0 e.val =
     v.toNat ∧ ∃ u, exec (.encTransition e a b) t = .next u ∧ u.rd ENC.ENC_POS.pos 0 e.val = (v.toNat + (if s.on ENC.ENC_CFG.invert 0 e.val
     then 2 ^ 32 - 1 else 1)) % 2 ^ 32)
  ∧ (∀ (s : State) (w : Who) (e : Fin 16) (v : Word) (a b : Bool), accepts s w .enc 0 (0x10C + 16 * e.val) v.toNat = true ∧ s.pinReach w
     .enc (0x10C + 16 * e.val) = true → s.encSampled e.val = true ∧ s.on ENC.ENC_CFG.enable 0 e.val = true → (grayPos a b + 1) % 4 = grayPos
     (s.on ENC.ENC_STAT.a 0 e.val) (s.on ENC.ENC_STAT.b 0 e.val) → ∃ t, exec (.encSet w e v) s = .next t ∧ t.rd ENC.ENC_POS.pos 0 e.val =
     v.toNat ∧ ∃ u, exec (.encTransition e a b) t = .next u ∧ u.rd ENC.ENC_POS.pos 0 e.val = (v.toNat + (if s.on ENC.ENC_CFG.invert 0 e.val
     then 1 else 2 ^ 32 - 1)) % 2 ^ 32)

/-- On HEAD and MIRROR pages, whose registers have no behaviour of their own, an accepted word puts the bits of each RW field into the field and
those of each RWS field into its shadow, and sets dirty for a shadow. A word with reserved bits is recorded with REG_RESERVED and the rest
performed; one that would change a field forbidden to the sender or locked is refused whole. A page index that R48 does not list is
unbacked. A write of LO then HI sets both halves of a value at once; without a staged LO the present low half stays. A read of LO returns
the low half and latches the upper, which the next read of HI returns whatever the value then is. -/
def Obligations.RegisterWritesAndReads : Prop :=
  (∀ (s : State) (w : Who) (page : Fin 256) (b : Blk) (i : Nat) (off : BitVec 12) (v : Word), blkOfPage page.val = some (b, i) ∧ (b =
     .head ∨ b = .mirror) → 0x100 ≤ off.toNat ∧ pairHalf b i off.toNat = none ∧ accepts s w b i off.toNat v.toNat = true → ∃ t, exec
     (.registerWrite w page off v) s = .next t ∧ t.resp.ok = true ∧ ∀ p ∈ partsAt b i off.toNat, (p.fld.acc = .rw → t.rd p.fld i p.elt =
     (v.toNat &&& p.bits) / 2 ^ p.fld.lo) ∧ (p.fld.acc = .rws → t.rdSh p.fld i p.elt = (v.toNat &&& p.bits) / 2 ^ p.fld.lo ∧ t.rd p.fld i
     p.elt = s.rd p.fld i p.elt ∧ t.rd (HDR.dirty b) i = 1))
  ∧ (∀ (s : State) (w : Who) (page : Fin 256) (b : Blk) (i : Nat) (off : BitVec 12) (v : Word) (c : Nat), blkOfPage page.val = some (b, i) ∧
     (b = .head ∨ b = .mirror) → 0x100 ≤ off.toNat ∧ pairHalf b i off.toNat = none ∧ off.toNat % 4 = 0 ∧ offsetDefined b i off.toNat = true
     → writable s w b i off.toNat = true ∧ s.wordBad w b i off.toNat v.toNat = some c → exec (.registerWrite w page off v) s = .next
     (s.refuse b i c w.rid off.toNat))
  ∧ (∀ (s : State) (w : Who) (page : Fin 256) (b : Blk) (i : Nat) (off : BitVec 12) (v : Word), blkOfPage page.val = some (b, i) ∧ (b =
     .head ∨ b = .mirror) → 0x100 ≤ off.toNat ∧ pairHalf b i off.toNat = none ∧ off.toNat % 4 = 0 ∧ offsetDefined b i off.toNat = true →
     writable s w b i off.toNat = true ∧ s.wordBad w b i off.toNat v.toNat = none ∧ v.toNat &&& (2 ^ 32 - 1 - definedBits b i off.toNat) ≠ 0
     → exec (.registerWrite w page off v) s = .next (((s.recErr b i Code.REG_RESERVED w.rid off.toNat).okResp).storeWord b i off.toNat
     v.toNat))
  ∧ (∀ (s : State) (w : Who) (page : Fin 256) (off : BitVec 12) (v : Word), blkOfPage page.val = none → exec (.registerWrite w page off v) s
     = .next (s.potRefuse Code.POT_UNBACKED w.rid (0x3000000000 + page.val * 0x1000 + off.toNat)))
  ∧ (∀ (s : State) (w : Who) (page : Fin 256) (off : BitVec 12) (v : Word), blkOfPage page.val = none → exec (.regWriteHi w page off v) s =
     .next (s.potRefuse Code.POT_UNBACKED w.rid (0x3000000000 + page.val * 0x1000 + off.toNat)))
  ∧ (∀ (s : State) (w : Who) (page : Fin 256) (off : BitVec 12), blkOfPage page.val = none → exec (.regReadLoLatch w page off) s = .next
     (s.potRefuse Code.POT_UNBACKED w.rid (0x3000000000 + page.val * 0x1000 + off.toNat)))
  ∧ (∀ (s : State) (lo hi : Word), s.pins.resetN = true → ∃ t, exec (.registerWrite .mgr 5 0x118 lo) s = .next t ∧ t.rd PWR.ALARM.alarm =
     s.rd PWR.ALARM.alarm ∧ ∃ u, exec (.regWriteHi .mgr 5 0x11C hi) t = .next u ∧ u.resp.ok = true ∧ u.rd PWR.ALARM.alarm = hi.toNat * 2 ^
     32 + lo.toNat)
  ∧ (∀ (s : State) (hi : Word), mget s.stage (Who.slot .mgr .pwr 0) 0 = 0 → s.pins.resetN = true → ∃ t, exec (.regWriteHi .mgr 5 0x11C hi) s
     = .next t ∧ t.rd PWR.ALARM.alarm = hi.toNat * 2 ^ 32 + s.rd PWR.ALARM.alarm % 2 ^ 32)
  ∧ (∀ (s : State) (n : Nat), s.rd PWR.ALARM.alarm < 2 ^ 64 → s.pins.resetN = true → ∃ t, exec (.regReadLoLatch .mgr 5 0x118) s = .next t ∧
     t.resp = ⟨true, s.rd PWR.ALARM.alarm % 2 ^ 32⟩ ∧ ∃ u, exec (.regReadLoLatch .mgr 5 0x11C) (t.wr PWR.ALARM.alarm n) = .next u ∧ u.resp =
     ⟨true, s.rd PWR.ALARM.alarm / 2 ^ 32⟩)

/-- A write of EV_RAW that is accepted clears the bits it carries, one of EV_FORCE sets them and records nothing. A 1 in ERR_CODE.valid clears
ERR_CODE and ERR_ADDR. LOCK sets on a lockable page and is REG_UNMAPPED on another; in a view LOCK and PG_OWNER stay. A write of PG_OWNER
stores the owner and clears EV_MASK and EV_RAW with it. A page index that R48 does not list is unbacked. -/
def Obligations.EventErrorAndLockRegisters : Prop :=
  (∀ (s : State) (w : Who) (page : Fin 256) (b : Blk) (i : Nat) (v : Word), blkOfPage page.val = some (b, i) → accepts s w b i 0x010
     v.toNat = true → ∃ t, exec (.evRawClear w page v) s = .next t ∧ t.rd (HDR.ev_raw b) i = s.rd (HDR.ev_raw b) i &&& (2 ^ 32 - 1 -
     v.toNat) ∧ t.rd (HDR.err_valid b) i = s.rd (HDR.err_valid b) i)
  ∧ (∀ (s : State) (w : Who) (page : Fin 256) (b : Blk) (i : Nat) (v : Word), blkOfPage page.val = some (b, i) → accepts s w b i 0x01C
     v.toNat = true → ∃ t, exec (.evForce w page v) s = .next t ∧ t.rd (HDR.ev_raw b) i = (s.rd (HDR.ev_raw b) i ||| v.toNat) % 2 ^ 32 ∧
     t.rd (HDR.err_valid b) i = s.rd (HDR.err_valid b) i)
  ∧ (∀ (s : State) (w : Who) (page : Fin 256) (b : Blk) (i : Nat), blkOfPage page.val = some (b, i) → accepts s w b i 0x028 0x80000000 =
     true → ∃ t, exec (.errCodeClear w page) s = .next t ∧ t.rd (HDR.err_valid b) i = 0 ∧ t.rd (HDR.err_internal b) i = 0 ∧ t.rd
     (HDR.err_requester b) i = 0 ∧ t.rd (HDR.err_count b) i = 0 ∧ t.rd (HDR.err_code b) i = 0 ∧ t.rd (HDR.err_addr b) i = 0 ∧ t.rd
     (HDR.err_req_id b) i = 0 ∧ t.rd (HDR.ev_raw b) i = s.rd (HDR.ev_raw b) i)
  ∧ (∀ (s : State) (w : Who) (page : Fin 256) (b : Blk) (i : Nat), blkOfPage page.val = some (b, i) → accepts s w b i 0x034 1 = true → ∃ t,
     exec (.lockSet w page) s = .next t ∧ t.rd (HDR.lock b) i = (if viewReadOnly w 0x034 || !b.lockable then s.rd (HDR.lock b) i else 1) ∧
     t.resp.ok = true)
  ∧ (∀ (s : State) (w : Who) (page : Fin 256) (b : Blk) (i : Nat), blkOfPage page.val = some (b, i) ∧ b.lockable = false → writable s w b i
     0x034 = true ∧ viewReadOnly w 0x034 = false → exec (.lockSet w page) s = .next (s.refuse b i Code.REG_UNMAPPED w.rid 0x034))
  ∧ (∀ (s : State) (w : Who) (page : Fin 256) (b : Blk) (i : Nat) (v : Word), blkOfPage page.val = some (b, i) ∧ (w = .mgr ∨ w = .boot) →
     b.safetyPage = false ∧ accepts s w b i 0x00C v.toNat = true → ∃ t, exec (.pgOwnerWrite w page v) s = .next t ∧ t.rd (HDR.owner b) i =
     v.toNat % 256 ∧ t.rd (HDR.ev_mask b) i = 0 ∧ (b ≠ .surf → t.rd (HDR.ev_raw b) i = 0))
  ∧ (∀ (s : State) (w : Who) (page : Fin 256) (b : Blk) (i : Nat) (v : Word), blkOfPage page.val = some (b, i) → viewReadOnly w 0x00C = true
     ∧ writable s w b i 0x00C = true ∧ v.toNat < 256 → exec (.pgOwnerWrite w page v) s = .next s.okResp)
  ∧ (∀ (s : State) (w : Who) (page : Fin 256) (b : Blk) (i : Nat), blkOfPage page.val = some (b, i) → viewReadOnly w 0x034 = true ∧ writable
     s w b i 0x034 = true → exec (.lockSet w page) s = .next s.okResp)

/-- A COMMIT that is accepted and that the page's checks let pass copies the shadow set into the staged set: pending reads 1 and dirty 0 on a
running head or GFX; on a head that does not run it applies at once, with commit_seq and commit_done. While a set is pending a COMMIT is
answered normally, sets commit_refused, records COMMIT_BUSY and leaves set and shadows. At the boundary of GFX the staged values become the
active ones and pending clears. COMMIT.revert makes the shadows read as the active values. PG_CTRL.soft_reset puts the registers from 0x100
to 0x7FF of CLK and MIRROR at their reset values, discards a staged set and leaves LOCK, the owner, commit_seq and the counters. -/
def Obligations.CommitAndSoftReset : Prop :=
  (∀ (s : State) (w : Who) (page : Fin 256) (b : Blk) (i : Nat), blkOfPage page.val = some (b, i) ∧ accepts s w b i 0x020 1 = true → (b =
     .head ∧ s.running i = true) ∨ b = .gfx → s.on (HDR.pending b) i = false ∧ s.commitBad w b i = none ∧ w ≠ .boot → ∃ t, exec (.commit w
     page) s = .next t ∧ t.rd (HDR.pending b) i = 1 ∧ t.rd (HDR.dirty b) i = 0 ∧ t.rd (HDR.commit_seq b) i = s.rd (HDR.commit_seq b) i ∧
     t.staged = mreplace s.staged s.shadow (pageLo (b.page i)) (pageLo (b.page i + 1)) ∧ t.act = s.act)
  ∧ (∀ (s : State) (w : Who) (page : Fin 256) (b : Blk) (i : Nat), blkOfPage page.val = some (b, i) ∧ accepts s w b i 0x020 1 = true → s.on
     (HDR.pending b) i = true → ∃ t, exec (.commit w page) s = .next t ∧ t.resp.ok = true ∧ t.staged = s.staged ∧ t.shadow = s.shadow ∧
     t.act = s.act ∧ bit (t.rd (HDR.ev_raw b) i) 2 = true ∧ bit (t.rd (HDR.ev_raw b) i) 0 = true ∧ (s.on (HDR.err_valid b) i = false → t.rd
     (HDR.err_code b) i = Code.COMMIT_BUSY))
  ∧ (∀ (s : State) (w : Who) (page : Fin 256) (b : Blk) (i : Nat), blkOfPage page.val = some (b, i) ∧ (b = .head ∨ b = .glint) ∧ accepts s w
     b i 0x020 1 = true → s.headOff i = true ∧ s.on (HDR.pending b) i = false ∧ s.on (HDR.enable .head) i = false ∧ s.commitBad w b i = none
     → ∃ t, exec (.commit w page) s = .next t ∧ t.rd (HDR.pending b) i = 0 ∧ t.rd (HDR.commit_seq b) i = (s.rd (HDR.commit_seq b) i + 1) %
     65536 ∧ bit (t.rd (HDR.ev_raw b) i) 1 = true)
  ∧ (∀ (s : State) (page : Fin 256), page = 0x30 ∧ s.on (HDR.pending .gfx) = true ∧ s.binsHeld = false → ∃ t, exec (.commitApply page) s =
     .next t ∧ t = s.applySet .gfx 0 ∧ t.rd (HDR.pending .gfx) = 0 ∧ t.rd (HDR.commit_seq .gfx) = (s.rd (HDR.commit_seq .gfx) + 1) % 65536 ∧
     bit (t.rd (HDR.ev_raw .gfx)) 1 = true)
  ∧ (∀ (s : State) (w : Who) (page : Fin 256) (b : Blk) (i : Nat), blkOfPage page.val = some (b, i) → accepts s w b i 0x020 4 = true → ∃ t,
     exec (.commitRevert w page) s = .next t ∧ t.rd (HDR.dirty b) i = 0 ∧ t.shadow = mreplace s.shadow s.act (pageLo (b.page i)) (pageLo
     (b.page i + 1)) ∧ t.act = s.act ∧ t.staged = s.staged)
  ∧ (∀ (s : State) (w : Who) (page : Fin 256) (b : Blk) (en : Bool) (f : Fld) (j k : Nat), blkOfPage page.val = some (b, 0) ∧ (b = .clk ∨ b
     = .mirror) → accepts s w b 0 0x008 (if en then 3 else 2) = true → f.blk = b ∧ 0x100 ≤ f.off + f.stride * j ∧ f.off + f.stride * j <
     0x800 ∧ f.lo < 64 → ∃ t, exec (.softReset w page en) s = .next t ∧ t.rd f 0 j k = f.rst.val s.variant 0 j k ∧ t.rdSh f 0 j k =
     f.rst.val s.variant 0 j k ∧ t.rd (HDR.enable b) = (if en then 1 else 0) ∧ t.rd (HDR.pending b) = 0 ∧ t.rd (HDR.commit_seq b) = s.rd
     (HDR.commit_seq b) ∧ t.rd (HDR.lock b) = s.rd (HDR.lock b) ∧ t.rd (HDR.owner b) = s.rd (HDR.owner b) ∧ t.ctr = s.ctr)
end

