-- ==== Sys2Proof/Laws/Sparse.lean ====
section
/-! SUPPORT. The laws of the sparse maps: what a write and a drop leave to be read, and that both keep the canonical form. -/

set_option Elab.async false

namespace Sys2Proof.Laws

open Machine

variable {V : Type}

@[simp] theorem mget_nil (k : Nat) (d : V) : mget [] k d = d := rfl

theorem mget_cons (e : Nat × V) (t : SMap V) (k : Nat) (d : V) :
    mget (e :: t) k d = if e.1 = k then e.2 else mget t k d := rfl

/-- A key below every listed one reads as unlisted. -/
theorem mget_below {m : SMap V} {k : Nat} {d : V} (h : ∀ f ∈ m, k < f.1) : mget m k d = d := by
  induction m with
  | nil => rfl
  | cons e t ih =>
    have := h e (.head _)
    rw [mget_cons, if_neg (by omega), ih (fun f hf => h f (.tail _ hf))]

section Wf

variable [DecidableEq V] {dflt : Nat → V}

theorem mwf_tail {e : Nat × V} {t : SMap V} (h : mwf dflt (e :: t) = true) : mwf dflt t = true := by
  cases t with
  | nil => rfl
  | cons f t => simp only [mwf, Bool.and_eq_true] at h; exact h.2

theorem mwf_head {e : Nat × V} {t : SMap V} (h : mwf dflt (e :: t) = true) : e.2 ≠ dflt e.1 := by
  cases t with
  | nil => simpa [mwf] using h
  | cons f t => simp only [mwf, Bool.and_eq_true, decide_eq_true_eq] at h; exact h.1.1

/-- In a canonical map every later key is greater. -/
theorem mwf_lt {e : Nat × V} {t : SMap V} (h : mwf dflt (e :: t) = true) : ∀ f ∈ t, e.1 < f.1 := by
  induction t generalizing e with
  | nil => intro f hf; cases hf
  | cons g t ih =>
    have h' := h
    simp only [mwf, Bool.and_eq_true, decide_eq_true_eq] at h'
    intro f hf
    cases hf with
    | head => exact h'.1.2
    | tail _ hf => exact Nat.lt_trans h'.1.2 (ih h'.2 f hf)

theorem mwf_cons {e : Nat × V} {t : SMap V} (hn : e.2 ≠ dflt e.1) (hl : ∀ f ∈ t, e.1 < f.1) (ht : mwf dflt t = true) :
    mwf dflt (e :: t) = true := by
  cases t with
  | nil => simpa [mwf] using hn
  | cons g t => simp only [mwf, Bool.and_eq_true, decide_eq_true_eq]; exact ⟨⟨hn, hl g (.head _)⟩, ht⟩

theorem mwf_filter {p : Nat × V → Bool} {m : SMap V} (h : mwf dflt m = true) : mwf dflt (m.filter p) = true := by
  induction m with
  | nil => rfl
  | cons e t ih =>
    rw [List.filter_cons]
    split
    · exact mwf_cons (mwf_head h) (fun f hf => mwf_lt h f (List.mem_filter.mp hf).1) (ih (mwf_tail h))
    · exact ih (mwf_tail h)

theorem mwf_mdrop {m : SMap V} {lo hi : Nat} (h : mwf dflt m = true) : mwf dflt (mdrop m lo hi) = true := mwf_filter h

theorem mem_mset {m : SMap V} {k : Nat} {v d : V} : ∀ f ∈ mset m k v d, f = (k, v) ∨ f ∈ m := by
  induction m with
  | nil => intro f hf; unfold mset at hf; split at hf <;> simp_all
  | cons e t ih =>
    intro f hf
    unfold mset at hf
    split at hf
    · split at hf
      · exact .inr (List.mem_filter.mp hf).1
      · simp_all
    · split at hf
      · split at hf
        · exact .inr (.tail _ (List.mem_filter.mp hf).1)
        · cases hf with
          | head => exact .inl rfl
          | tail _ h => exact .inr (.tail _ h)
      · cases hf with
        | head => simp
        | tail _ hf => rcases ih f hf with h | h <;> simp [h]

/-- A write keeps the canonical form. -/
theorem mwf_mset {m : SMap V} {k : Nat} {v : V} (h : mwf dflt m = true) : mwf dflt (mset m k v (dflt k)) = true := by
  induction m with
  | nil => unfold mset; split
           · rfl
           · simpa [mwf]
  | cons e t ih =>
    unfold mset
    split
    · split
      · exact mwf_filter h
      · rename_i hk hv
        refine mwf_cons hv (fun f hf => ?_) h
        cases hf with
        | head => exact hk
        | tail _ hf => exact Nat.lt_trans hk (mwf_lt h f hf)
    · split
      · rename_i he
        split
        · exact mwf_filter (mwf_tail h)
        · rename_i hv
          exact mwf_cons hv (fun f hf => he ▸ mwf_lt h f hf) (mwf_tail h)
      · rename_i hk he
        refine mwf_cons (mwf_head h) (fun f hf => ?_) (ih (mwf_tail h))
        rcases mem_mset f hf with hf | hf
        · subst hf; exact Nat.lt_of_le_of_ne (Nat.not_lt.mp hk) he
        · exact mwf_lt h f hf

end Wf

/-- A removed key reads as unlisted. -/
theorem mget_mdel_same {m : SMap V} {k : Nat} {d : V} : mget (mdel m k) k d = d := by
  induction m with
  | nil => rfl
  | cons e t ih =>
    unfold mdel at *
    rw [List.filter_cons]
    split
    · rename_i hc
      rw [mget_cons, if_neg (by simpa using hc), ih]
    · exact ih

/-- A removal leaves every other key as it was. -/
theorem mget_mdel_ne {m : SMap V} {k j : Nat} {d : V} (h : k ≠ j) : mget (mdel m k) j d = mget m j d := by
  induction m with
  | nil => rfl
  | cons e t ih =>
    unfold mdel at *
    rw [List.filter_cons, mget_cons]
    split
    · rw [mget_cons, ih]
    · rename_i hc
      have he : e.1 = k := by simpa using hc
      rw [if_neg (he ▸ h), ih]

/-- What was written is read. -/
@[simp] theorem mget_mset_same [DecidableEq V] {m : SMap V} {k : Nat} {v d : V} : mget (mset m k v d) k d = v := by
  induction m with
  | nil => unfold mset; split <;> simp_all [mget_cons]
  | cons e t ih =>
    unfold mset
    split
    · split
      · rename_i hv
        rw [mget_mdel_same, hv]
      · simp [mget_cons]
    · split
      · split
        · rename_i hv
          rw [mget_mdel_same, hv]
        · simp [mget_cons]
      · rename_i he
        rw [mget_cons, if_neg he, ih]

/-- A write leaves every other key as it was. -/
@[simp] theorem mget_mset_ne [DecidableEq V] {m : SMap V} {k j : Nat} {v d d' : V} (h : k ≠ j) : mget (mset m k v d) j d' = mget m j d' := by
  induction m with
  | nil => unfold mset; split <;> simp [mget_cons, h]
  | cons e t ih =>
    unfold mset
    split
    · split
      · exact mget_mdel_ne h
      · simp [mget_cons, h]
    · split
      · rename_i he
        have he' : e.1 ≠ j := he ▸ h
        split
        · rw [mget_mdel_ne h, mget_cons, if_neg he']
        · simp [mget_cons, h, he']
      · simp [mget_cons, ih]

/-- A drop leaves the keys outside its range as they were. -/
theorem mget_mdrop_out {m : SMap V} {lo hi k : Nat} {d : V} (h : k < lo ∨ hi ≤ k) : mget (mdrop m lo hi) k d = mget m k d := by
  induction m with
  | nil => rfl
  | cons e t ih =>
    unfold mdrop at *
    rw [List.filter_cons, mget_cons]
    split
    · rw [mget_cons, ih]
    · rename_i hc
      rw [ih]
      simp only [Bool.not_eq_true, Bool.not_eq_false', Bool.and_eq_true, decide_eq_true_eq] at hc
      rw [if_neg (by omega)]

/-- A dropped key reads as unlisted. -/
theorem mget_mdrop_in {m : SMap V} {lo hi k : Nat} {d : V} (h : lo ≤ k ∧ k < hi) : mget (mdrop m lo hi) k d = d := by
  induction m with
  | nil => rfl
  | cons e t ih =>
    unfold mdrop at *
    rw [List.filter_cons]
    split
    · rename_i hc
      simp only [Bool.not_eq_true', Bool.and_eq_false_iff, decide_eq_false_iff_not] at hc
      rw [mget_cons, if_neg (by omega), ih]
    · exact ih

end Sys2Proof.Laws
end

