-- ==== Sys2Proof/Laws/State.lean ====
section
/-! SUPPORT. One lemma for each field of State and each shared update that leaves the field as it was. -/

set_option Elab.async false

namespace Sys2Proof.Laws

open Machine

variable (s : State)

/-! ### wr -/

@[simp] theorem wr_variant (f : Fld) (v i j b : Nat) : (s.wr f v i j b).variant = s.variant := by
  unfold State.wr; split <;> rfl
@[simp] theorem wr_pending (f : Fld) (v i j b : Nat) : (s.wr f v i j b).pending = s.pending := by
  unfold State.wr; split <;> rfl
@[simp] theorem wr_resp (f : Fld) (v i j b : Nat) : (s.wr f v i j b).resp = s.resp := by
  unfold State.wr; split <;> rfl
@[simp] theorem wr_cpl (f : Fld) (v i j b : Nat) : (s.wr f v i j b).cpl = s.cpl := by
  unfold State.wr; split <;> rfl
@[simp] theorem wr_shadow (f : Fld) (v i j b : Nat) : (s.wr f v i j b).shadow = s.shadow := by
  unfold State.wr; split <;> rfl
@[simp] theorem wr_staged (f : Fld) (v i j b : Nat) : (s.wr f v i j b).staged = s.staged := by
  unfold State.wr; split <;> rfl
@[simp] theorem wr_parts (f : Fld) (v i j b : Nat) : (s.wr f v i j b).parts = s.parts := by
  unfold State.wr; split <;> rfl
@[simp] theorem wr_latch (f : Fld) (v i j b : Nat) : (s.wr f v i j b).latch = s.latch := by
  unfold State.wr; split <;> rfl
@[simp] theorem wr_stage (f : Fld) (v i j b : Nat) : (s.wr f v i j b).stage = s.stage := by
  unfold State.wr; split <;> rfl
@[simp] theorem wr_ctr (f : Fld) (v i j b : Nat) : (s.wr f v i j b).ctr = s.ctr := by
  unfold State.wr; split <;> rfl
@[simp] theorem wr_snap (f : Fld) (v i j b : Nat) : (s.wr f v i j b).snap = s.snap := by
  unfold State.wr; split <;> rfl
@[simp] theorem wr_sent (f : Fld) (v i j b : Nat) : (s.wr f v i j b).sent = s.sent := by
  unfold State.wr; split <;> rfl
@[simp] theorem wr_free (f : Fld) (v i j b : Nat) : (s.wr f v i j b).free = s.free := by
  unfold State.wr; split <;> rfl
@[simp] theorem wr_dram (f : Fld) (v i j b : Nat) : (s.wr f v i j b).dram = s.dram := by
  unfold State.wr; split <;> rfl
@[simp] theorem wr_basin (f : Fld) (v i j b : Nat) : (s.wr f v i j b).basin = s.basin := by
  unfold State.wr; split <;> rfl
@[simp] theorem wr_flash (f : Fld) (v i j b : Nat) : (s.wr f v i j b).flash = s.flash := by
  unfold State.wr; split <;> rfl
@[simp] theorem wr_otp (f : Fld) (v i j b : Nat) : (s.wr f v i j b).otp = s.otp := by
  unfold State.wr; split <;> rfl
@[simp] theorem wr_pins (f : Fld) (v i j b : Nat) : (s.wr f v i j b).pins = s.pins := by
  unfold State.wr; split <;> rfl
@[simp] theorem wr_pot (f : Fld) (v i j b : Nat) : (s.wr f v i j b).pot = s.pot := by
  unfold State.wr; split <;> rfl
@[simp] theorem wr_inst (f : Fld) (v i j b : Nat) : (s.wr f v i j b).inst = s.inst := by
  unfold State.wr; split <;> rfl
@[simp] theorem wr_time (f : Fld) (v i j b : Nat) : (s.wr f v i j b).time = s.time := by
  unfold State.wr; split <;> rfl
@[simp] theorem wr_events (f : Fld) (v i j b : Nat) : (s.wr f v i j b).events = s.events := by
  unfold State.wr; split <;> rfl
@[simp] theorem wr_evSeq (f : Fld) (v i j b : Nat) : (s.wr f v i j b).evSeq = s.evSeq := by
  unfold State.wr; split <;> rfl
@[simp] theorem wr_faults (f : Fld) (v i j b : Nat) : (s.wr f v i j b).faults = s.faults := by
  unfold State.wr; split <;> rfl
@[simp] theorem wr_mem (f : Fld) (v i j b : Nat) : (s.wr f v i j b).mem = s.mem := by
  unfold State.wr; split <;> rfl
@[simp] theorem wr_rings (f : Fld) (v i j b : Nat) : (s.wr f v i j b).rings = s.rings := by
  unfold State.wr; split <;> rfl
@[simp] theorem wr_world (f : Fld) (v i j b : Nat) : (s.wr f v i j b).world = s.world := by
  unfold State.wr; split <;> rfl
@[simp] theorem wr_gfx (f : Fld) (v i j b : Nat) : (s.wr f v i j b).gfx = s.gfx := by
  unfold State.wr; split <;> rfl
@[simp] theorem wr_comp (f : Fld) (v i j b : Nat) : (s.wr f v i j b).comp = s.comp := by
  unfold State.wr; split <;> rfl
@[simp] theorem wr_heads (f : Fld) (v i j b : Nat) : (s.wr f v i j b).heads = s.heads := by
  unfold State.wr; split <;> rfl
@[simp] theorem wr_safe (f : Fld) (v i j b : Nat) : (s.wr f v i j b).safe = s.safe := by
  unfold State.wr; split <;> rfl
@[simp] theorem wr_links (f : Fld) (v i j b : Nat) : (s.wr f v i j b).links = s.links := by
  unfold State.wr; split <;> rfl
@[simp] theorem wr_caps (f : Fld) (v i j b : Nat) : (s.wr f v i j b).caps = s.caps := by
  unfold State.wr; split <;> rfl
@[simp] theorem wr_pwr (f : Fld) (v i j b : Nat) : (s.wr f v i j b).pwr = s.pwr := by
  unfold State.wr; split <;> rfl
@[simp] theorem wr_surf (f : Fld) (v i j b : Nat) : (s.wr f v i j b).surf = s.surf := by
  unfold State.wr; split <;> rfl
@[simp] theorem wr_hapt (f : Fld) (v i j b : Nat) : (s.wr f v i j b).hapt = s.hapt := by
  unfold State.wr; split <;> rfl
@[simp] theorem wr_touch (f : Fld) (v i j b : Nat) : (s.wr f v i j b).touch = s.touch := by
  unfold State.wr; split <;> rfl
@[simp] theorem wr_audio (f : Fld) (v i j b : Nat) : (s.wr f v i j b).audio = s.audio := by
  unfold State.wr; split <;> rfl
@[simp] theorem wr_alarm (f : Fld) (v i j b : Nat) : (s.wr f v i j b).alarm = s.alarm := by
  unfold State.wr; split <;> rfl
@[simp] theorem wr_ctl (f : Fld) (v i j b : Nat) : (s.wr f v i j b).ctl = s.ctl := by
  unfold State.wr; split <;> rfl

/-! ### wrB -/

@[simp] theorem wrB_variant (f : Fld) (v : Bool) (i j b : Nat) : (s.wrB f v i j b).variant = s.variant := by
  unfold State.wrB; simp only [wr_variant]
@[simp] theorem wrB_pending (f : Fld) (v : Bool) (i j b : Nat) : (s.wrB f v i j b).pending = s.pending := by
  unfold State.wrB; simp only [wr_pending]
@[simp] theorem wrB_resp (f : Fld) (v : Bool) (i j b : Nat) : (s.wrB f v i j b).resp = s.resp := by
  unfold State.wrB; simp only [wr_resp]
@[simp] theorem wrB_cpl (f : Fld) (v : Bool) (i j b : Nat) : (s.wrB f v i j b).cpl = s.cpl := by
  unfold State.wrB; simp only [wr_cpl]
@[simp] theorem wrB_shadow (f : Fld) (v : Bool) (i j b : Nat) : (s.wrB f v i j b).shadow = s.shadow := by
  unfold State.wrB; simp only [wr_shadow]
@[simp] theorem wrB_staged (f : Fld) (v : Bool) (i j b : Nat) : (s.wrB f v i j b).staged = s.staged := by
  unfold State.wrB; simp only [wr_staged]
@[simp] theorem wrB_parts (f : Fld) (v : Bool) (i j b : Nat) : (s.wrB f v i j b).parts = s.parts := by
  unfold State.wrB; simp only [wr_parts]
@[simp] theorem wrB_latch (f : Fld) (v : Bool) (i j b : Nat) : (s.wrB f v i j b).latch = s.latch := by
  unfold State.wrB; simp only [wr_latch]
@[simp] theorem wrB_stage (f : Fld) (v : Bool) (i j b : Nat) : (s.wrB f v i j b).stage = s.stage := by
  unfold State.wrB; simp only [wr_stage]
@[simp] theorem wrB_ctr (f : Fld) (v : Bool) (i j b : Nat) : (s.wrB f v i j b).ctr = s.ctr := by
  unfold State.wrB; simp only [wr_ctr]
@[simp] theorem wrB_snap (f : Fld) (v : Bool) (i j b : Nat) : (s.wrB f v i j b).snap = s.snap := by
  unfold State.wrB; simp only [wr_snap]
@[simp] theorem wrB_sent (f : Fld) (v : Bool) (i j b : Nat) : (s.wrB f v i j b).sent = s.sent := by
  unfold State.wrB; simp only [wr_sent]
@[simp] theorem wrB_free (f : Fld) (v : Bool) (i j b : Nat) : (s.wrB f v i j b).free = s.free := by
  unfold State.wrB; simp only [wr_free]
@[simp] theorem wrB_dram (f : Fld) (v : Bool) (i j b : Nat) : (s.wrB f v i j b).dram = s.dram := by
  unfold State.wrB; simp only [wr_dram]
@[simp] theorem wrB_basin (f : Fld) (v : Bool) (i j b : Nat) : (s.wrB f v i j b).basin = s.basin := by
  unfold State.wrB; simp only [wr_basin]
@[simp] theorem wrB_flash (f : Fld) (v : Bool) (i j b : Nat) : (s.wrB f v i j b).flash = s.flash := by
  unfold State.wrB; simp only [wr_flash]
@[simp] theorem wrB_otp (f : Fld) (v : Bool) (i j b : Nat) : (s.wrB f v i j b).otp = s.otp := by
  unfold State.wrB; simp only [wr_otp]
@[simp] theorem wrB_pins (f : Fld) (v : Bool) (i j b : Nat) : (s.wrB f v i j b).pins = s.pins := by
  unfold State.wrB; simp only [wr_pins]
@[simp] theorem wrB_pot (f : Fld) (v : Bool) (i j b : Nat) : (s.wrB f v i j b).pot = s.pot := by
  unfold State.wrB; simp only [wr_pot]
@[simp] theorem wrB_inst (f : Fld) (v : Bool) (i j b : Nat) : (s.wrB f v i j b).inst = s.inst := by
  unfold State.wrB; simp only [wr_inst]
@[simp] theorem wrB_time (f : Fld) (v : Bool) (i j b : Nat) : (s.wrB f v i j b).time = s.time := by
  unfold State.wrB; simp only [wr_time]
@[simp] theorem wrB_events (f : Fld) (v : Bool) (i j b : Nat) : (s.wrB f v i j b).events = s.events := by
  unfold State.wrB; simp only [wr_events]
@[simp] theorem wrB_evSeq (f : Fld) (v : Bool) (i j b : Nat) : (s.wrB f v i j b).evSeq = s.evSeq := by
  unfold State.wrB; simp only [wr_evSeq]
@[simp] theorem wrB_faults (f : Fld) (v : Bool) (i j b : Nat) : (s.wrB f v i j b).faults = s.faults := by
  unfold State.wrB; simp only [wr_faults]
@[simp] theorem wrB_mem (f : Fld) (v : Bool) (i j b : Nat) : (s.wrB f v i j b).mem = s.mem := by
  unfold State.wrB; simp only [wr_mem]
@[simp] theorem wrB_rings (f : Fld) (v : Bool) (i j b : Nat) : (s.wrB f v i j b).rings = s.rings := by
  unfold State.wrB; simp only [wr_rings]
@[simp] theorem wrB_world (f : Fld) (v : Bool) (i j b : Nat) : (s.wrB f v i j b).world = s.world := by
  unfold State.wrB; simp only [wr_world]
@[simp] theorem wrB_gfx (f : Fld) (v : Bool) (i j b : Nat) : (s.wrB f v i j b).gfx = s.gfx := by
  unfold State.wrB; simp only [wr_gfx]
@[simp] theorem wrB_comp (f : Fld) (v : Bool) (i j b : Nat) : (s.wrB f v i j b).comp = s.comp := by
  unfold State.wrB; simp only [wr_comp]
@[simp] theorem wrB_heads (f : Fld) (v : Bool) (i j b : Nat) : (s.wrB f v i j b).heads = s.heads := by
  unfold State.wrB; simp only [wr_heads]
@[simp] theorem wrB_safe (f : Fld) (v : Bool) (i j b : Nat) : (s.wrB f v i j b).safe = s.safe := by
  unfold State.wrB; simp only [wr_safe]
@[simp] theorem wrB_links (f : Fld) (v : Bool) (i j b : Nat) : (s.wrB f v i j b).links = s.links := by
  unfold State.wrB; simp only [wr_links]
@[simp] theorem wrB_caps (f : Fld) (v : Bool) (i j b : Nat) : (s.wrB f v i j b).caps = s.caps := by
  unfold State.wrB; simp only [wr_caps]
@[simp] theorem wrB_pwr (f : Fld) (v : Bool) (i j b : Nat) : (s.wrB f v i j b).pwr = s.pwr := by
  unfold State.wrB; simp only [wr_pwr]
@[simp] theorem wrB_surf (f : Fld) (v : Bool) (i j b : Nat) : (s.wrB f v i j b).surf = s.surf := by
  unfold State.wrB; simp only [wr_surf]
@[simp] theorem wrB_hapt (f : Fld) (v : Bool) (i j b : Nat) : (s.wrB f v i j b).hapt = s.hapt := by
  unfold State.wrB; simp only [wr_hapt]
@[simp] theorem wrB_touch (f : Fld) (v : Bool) (i j b : Nat) : (s.wrB f v i j b).touch = s.touch := by
  unfold State.wrB; simp only [wr_touch]
@[simp] theorem wrB_audio (f : Fld) (v : Bool) (i j b : Nat) : (s.wrB f v i j b).audio = s.audio := by
  unfold State.wrB; simp only [wr_audio]
@[simp] theorem wrB_alarm (f : Fld) (v : Bool) (i j b : Nat) : (s.wrB f v i j b).alarm = s.alarm := by
  unfold State.wrB; simp only [wr_alarm]
@[simp] theorem wrB_ctl (f : Fld) (v : Bool) (i j b : Nat) : (s.wrB f v i j b).ctl = s.ctl := by
  unfold State.wrB; simp only [wr_ctl]

/-! ### wrSh -/

@[simp] theorem wrSh_variant (f : Fld) (v i j b : Nat) : (s.wrSh f v i j b).variant = s.variant := rfl
@[simp] theorem wrSh_pending (f : Fld) (v i j b : Nat) : (s.wrSh f v i j b).pending = s.pending := rfl
@[simp] theorem wrSh_resp (f : Fld) (v i j b : Nat) : (s.wrSh f v i j b).resp = s.resp := rfl
@[simp] theorem wrSh_cpl (f : Fld) (v i j b : Nat) : (s.wrSh f v i j b).cpl = s.cpl := rfl
@[simp] theorem wrSh_regs (f : Fld) (v i j b : Nat) : (s.wrSh f v i j b).regs = s.regs := rfl
@[simp] theorem wrSh_act (f : Fld) (v i j b : Nat) : (s.wrSh f v i j b).act = s.act := rfl
@[simp] theorem wrSh_staged (f : Fld) (v i j b : Nat) : (s.wrSh f v i j b).staged = s.staged := rfl
@[simp] theorem wrSh_parts (f : Fld) (v i j b : Nat) : (s.wrSh f v i j b).parts = s.parts := rfl
@[simp] theorem wrSh_latch (f : Fld) (v i j b : Nat) : (s.wrSh f v i j b).latch = s.latch := rfl
@[simp] theorem wrSh_stage (f : Fld) (v i j b : Nat) : (s.wrSh f v i j b).stage = s.stage := rfl
@[simp] theorem wrSh_ctr (f : Fld) (v i j b : Nat) : (s.wrSh f v i j b).ctr = s.ctr := rfl
@[simp] theorem wrSh_snap (f : Fld) (v i j b : Nat) : (s.wrSh f v i j b).snap = s.snap := rfl
@[simp] theorem wrSh_sent (f : Fld) (v i j b : Nat) : (s.wrSh f v i j b).sent = s.sent := rfl
@[simp] theorem wrSh_free (f : Fld) (v i j b : Nat) : (s.wrSh f v i j b).free = s.free := rfl
@[simp] theorem wrSh_dram (f : Fld) (v i j b : Nat) : (s.wrSh f v i j b).dram = s.dram := rfl
@[simp] theorem wrSh_basin (f : Fld) (v i j b : Nat) : (s.wrSh f v i j b).basin = s.basin := rfl
@[simp] theorem wrSh_flash (f : Fld) (v i j b : Nat) : (s.wrSh f v i j b).flash = s.flash := rfl
@[simp] theorem wrSh_otp (f : Fld) (v i j b : Nat) : (s.wrSh f v i j b).otp = s.otp := rfl
@[simp] theorem wrSh_pins (f : Fld) (v i j b : Nat) : (s.wrSh f v i j b).pins = s.pins := rfl
@[simp] theorem wrSh_pot (f : Fld) (v i j b : Nat) : (s.wrSh f v i j b).pot = s.pot := rfl
@[simp] theorem wrSh_inst (f : Fld) (v i j b : Nat) : (s.wrSh f v i j b).inst = s.inst := rfl
@[simp] theorem wrSh_time (f : Fld) (v i j b : Nat) : (s.wrSh f v i j b).time = s.time := rfl
@[simp] theorem wrSh_events (f : Fld) (v i j b : Nat) : (s.wrSh f v i j b).events = s.events := rfl
@[simp] theorem wrSh_evSeq (f : Fld) (v i j b : Nat) : (s.wrSh f v i j b).evSeq = s.evSeq := rfl
@[simp] theorem wrSh_faults (f : Fld) (v i j b : Nat) : (s.wrSh f v i j b).faults = s.faults := rfl
@[simp] theorem wrSh_mem (f : Fld) (v i j b : Nat) : (s.wrSh f v i j b).mem = s.mem := rfl
@[simp] theorem wrSh_rings (f : Fld) (v i j b : Nat) : (s.wrSh f v i j b).rings = s.rings := rfl
@[simp] theorem wrSh_world (f : Fld) (v i j b : Nat) : (s.wrSh f v i j b).world = s.world := rfl
@[simp] theorem wrSh_gfx (f : Fld) (v i j b : Nat) : (s.wrSh f v i j b).gfx = s.gfx := rfl
@[simp] theorem wrSh_comp (f : Fld) (v i j b : Nat) : (s.wrSh f v i j b).comp = s.comp := rfl
@[simp] theorem wrSh_heads (f : Fld) (v i j b : Nat) : (s.wrSh f v i j b).heads = s.heads := rfl
@[simp] theorem wrSh_safe (f : Fld) (v i j b : Nat) : (s.wrSh f v i j b).safe = s.safe := rfl
@[simp] theorem wrSh_links (f : Fld) (v i j b : Nat) : (s.wrSh f v i j b).links = s.links := rfl
@[simp] theorem wrSh_caps (f : Fld) (v i j b : Nat) : (s.wrSh f v i j b).caps = s.caps := rfl
@[simp] theorem wrSh_pwr (f : Fld) (v i j b : Nat) : (s.wrSh f v i j b).pwr = s.pwr := rfl
@[simp] theorem wrSh_surf (f : Fld) (v i j b : Nat) : (s.wrSh f v i j b).surf = s.surf := rfl
@[simp] theorem wrSh_hapt (f : Fld) (v i j b : Nat) : (s.wrSh f v i j b).hapt = s.hapt := rfl
@[simp] theorem wrSh_touch (f : Fld) (v i j b : Nat) : (s.wrSh f v i j b).touch = s.touch := rfl
@[simp] theorem wrSh_audio (f : Fld) (v i j b : Nat) : (s.wrSh f v i j b).audio = s.audio := rfl
@[simp] theorem wrSh_alarm (f : Fld) (v i j b : Nat) : (s.wrSh f v i j b).alarm = s.alarm := rfl
@[simp] theorem wrSh_ctl (f : Fld) (v i j b : Nat) : (s.wrSh f v i j b).ctl = s.ctl := rfl

/-! ### count -/

@[simp] theorem count_variant (k : Blk) (i j n : Nat) : (s.count k i j n).variant = s.variant := rfl
@[simp] theorem count_pending (k : Blk) (i j n : Nat) : (s.count k i j n).pending = s.pending := rfl
@[simp] theorem count_resp (k : Blk) (i j n : Nat) : (s.count k i j n).resp = s.resp := rfl
@[simp] theorem count_cpl (k : Blk) (i j n : Nat) : (s.count k i j n).cpl = s.cpl := rfl
@[simp] theorem count_regs (k : Blk) (i j n : Nat) : (s.count k i j n).regs = s.regs := rfl
@[simp] theorem count_act (k : Blk) (i j n : Nat) : (s.count k i j n).act = s.act := rfl
@[simp] theorem count_shadow (k : Blk) (i j n : Nat) : (s.count k i j n).shadow = s.shadow := rfl
@[simp] theorem count_staged (k : Blk) (i j n : Nat) : (s.count k i j n).staged = s.staged := rfl
@[simp] theorem count_parts (k : Blk) (i j n : Nat) : (s.count k i j n).parts = s.parts := rfl
@[simp] theorem count_latch (k : Blk) (i j n : Nat) : (s.count k i j n).latch = s.latch := rfl
@[simp] theorem count_stage (k : Blk) (i j n : Nat) : (s.count k i j n).stage = s.stage := rfl
@[simp] theorem count_snap (k : Blk) (i j n : Nat) : (s.count k i j n).snap = s.snap := rfl
@[simp] theorem count_sent (k : Blk) (i j n : Nat) : (s.count k i j n).sent = s.sent := rfl
@[simp] theorem count_free (k : Blk) (i j n : Nat) : (s.count k i j n).free = s.free := rfl
@[simp] theorem count_dram (k : Blk) (i j n : Nat) : (s.count k i j n).dram = s.dram := rfl
@[simp] theorem count_basin (k : Blk) (i j n : Nat) : (s.count k i j n).basin = s.basin := rfl
@[simp] theorem count_flash (k : Blk) (i j n : Nat) : (s.count k i j n).flash = s.flash := rfl
@[simp] theorem count_otp (k : Blk) (i j n : Nat) : (s.count k i j n).otp = s.otp := rfl
@[simp] theorem count_pins (k : Blk) (i j n : Nat) : (s.count k i j n).pins = s.pins := rfl
@[simp] theorem count_pot (k : Blk) (i j n : Nat) : (s.count k i j n).pot = s.pot := rfl
@[simp] theorem count_inst (k : Blk) (i j n : Nat) : (s.count k i j n).inst = s.inst := rfl
@[simp] theorem count_time (k : Blk) (i j n : Nat) : (s.count k i j n).time = s.time := rfl
@[simp] theorem count_events (k : Blk) (i j n : Nat) : (s.count k i j n).events = s.events := rfl
@[simp] theorem count_evSeq (k : Blk) (i j n : Nat) : (s.count k i j n).evSeq = s.evSeq := rfl
@[simp] theorem count_faults (k : Blk) (i j n : Nat) : (s.count k i j n).faults = s.faults := rfl
@[simp] theorem count_mem (k : Blk) (i j n : Nat) : (s.count k i j n).mem = s.mem := rfl
@[simp] theorem count_rings (k : Blk) (i j n : Nat) : (s.count k i j n).rings = s.rings := rfl
@[simp] theorem count_world (k : Blk) (i j n : Nat) : (s.count k i j n).world = s.world := rfl
@[simp] theorem count_gfx (k : Blk) (i j n : Nat) : (s.count k i j n).gfx = s.gfx := rfl
@[simp] theorem count_comp (k : Blk) (i j n : Nat) : (s.count k i j n).comp = s.comp := rfl
@[simp] theorem count_heads (k : Blk) (i j n : Nat) : (s.count k i j n).heads = s.heads := rfl
@[simp] theorem count_safe (k : Blk) (i j n : Nat) : (s.count k i j n).safe = s.safe := rfl
@[simp] theorem count_links (k : Blk) (i j n : Nat) : (s.count k i j n).links = s.links := rfl
@[simp] theorem count_caps (k : Blk) (i j n : Nat) : (s.count k i j n).caps = s.caps := rfl
@[simp] theorem count_pwr (k : Blk) (i j n : Nat) : (s.count k i j n).pwr = s.pwr := rfl
@[simp] theorem count_surf (k : Blk) (i j n : Nat) : (s.count k i j n).surf = s.surf := rfl
@[simp] theorem count_hapt (k : Blk) (i j n : Nat) : (s.count k i j n).hapt = s.hapt := rfl
@[simp] theorem count_touch (k : Blk) (i j n : Nat) : (s.count k i j n).touch = s.touch := rfl
@[simp] theorem count_audio (k : Blk) (i j n : Nat) : (s.count k i j n).audio = s.audio := rfl
@[simp] theorem count_alarm (k : Blk) (i j n : Nat) : (s.count k i j n).alarm = s.alarm := rfl
@[simp] theorem count_ctl (k : Blk) (i j n : Nat) : (s.count k i j n).ctl = s.ctl := rfl

/-! ### okResp -/

@[simp] theorem okResp_variant (d : Nat) : (s.okResp d).variant = s.variant := rfl
@[simp] theorem okResp_pending (d : Nat) : (s.okResp d).pending = s.pending := rfl
@[simp] theorem okResp_cpl (d : Nat) : (s.okResp d).cpl = s.cpl := rfl
@[simp] theorem okResp_regs (d : Nat) : (s.okResp d).regs = s.regs := rfl
@[simp] theorem okResp_act (d : Nat) : (s.okResp d).act = s.act := rfl
@[simp] theorem okResp_shadow (d : Nat) : (s.okResp d).shadow = s.shadow := rfl
@[simp] theorem okResp_staged (d : Nat) : (s.okResp d).staged = s.staged := rfl
@[simp] theorem okResp_parts (d : Nat) : (s.okResp d).parts = s.parts := rfl
@[simp] theorem okResp_latch (d : Nat) : (s.okResp d).latch = s.latch := rfl
@[simp] theorem okResp_stage (d : Nat) : (s.okResp d).stage = s.stage := rfl
@[simp] theorem okResp_ctr (d : Nat) : (s.okResp d).ctr = s.ctr := rfl
@[simp] theorem okResp_snap (d : Nat) : (s.okResp d).snap = s.snap := rfl
@[simp] theorem okResp_sent (d : Nat) : (s.okResp d).sent = s.sent := rfl
@[simp] theorem okResp_free (d : Nat) : (s.okResp d).free = s.free := rfl
@[simp] theorem okResp_dram (d : Nat) : (s.okResp d).dram = s.dram := rfl
@[simp] theorem okResp_basin (d : Nat) : (s.okResp d).basin = s.basin := rfl
@[simp] theorem okResp_flash (d : Nat) : (s.okResp d).flash = s.flash := rfl
@[simp] theorem okResp_otp (d : Nat) : (s.okResp d).otp = s.otp := rfl
@[simp] theorem okResp_pins (d : Nat) : (s.okResp d).pins = s.pins := rfl
@[simp] theorem okResp_pot (d : Nat) : (s.okResp d).pot = s.pot := rfl
@[simp] theorem okResp_inst (d : Nat) : (s.okResp d).inst = s.inst := rfl
@[simp] theorem okResp_time (d : Nat) : (s.okResp d).time = s.time := rfl
@[simp] theorem okResp_events (d : Nat) : (s.okResp d).events = s.events := rfl
@[simp] theorem okResp_evSeq (d : Nat) : (s.okResp d).evSeq = s.evSeq := rfl
@[simp] theorem okResp_faults (d : Nat) : (s.okResp d).faults = s.faults := rfl
@[simp] theorem okResp_mem (d : Nat) : (s.okResp d).mem = s.mem := rfl
@[simp] theorem okResp_rings (d : Nat) : (s.okResp d).rings = s.rings := rfl
@[simp] theorem okResp_world (d : Nat) : (s.okResp d).world = s.world := rfl
@[simp] theorem okResp_gfx (d : Nat) : (s.okResp d).gfx = s.gfx := rfl
@[simp] theorem okResp_comp (d : Nat) : (s.okResp d).comp = s.comp := rfl
@[simp] theorem okResp_heads (d : Nat) : (s.okResp d).heads = s.heads := rfl
@[simp] theorem okResp_safe (d : Nat) : (s.okResp d).safe = s.safe := rfl
@[simp] theorem okResp_links (d : Nat) : (s.okResp d).links = s.links := rfl
@[simp] theorem okResp_caps (d : Nat) : (s.okResp d).caps = s.caps := rfl
@[simp] theorem okResp_pwr (d : Nat) : (s.okResp d).pwr = s.pwr := rfl
@[simp] theorem okResp_surf (d : Nat) : (s.okResp d).surf = s.surf := rfl
@[simp] theorem okResp_hapt (d : Nat) : (s.okResp d).hapt = s.hapt := rfl
@[simp] theorem okResp_touch (d : Nat) : (s.okResp d).touch = s.touch := rfl
@[simp] theorem okResp_audio (d : Nat) : (s.okResp d).audio = s.audio := rfl
@[simp] theorem okResp_alarm (d : Nat) : (s.okResp d).alarm = s.alarm := rfl
@[simp] theorem okResp_ctl (d : Nat) : (s.okResp d).ctl = s.ctl := rfl

/-! ### errResp -/

@[simp] theorem errResp_variant  : (s.errResp).variant = s.variant := rfl
@[simp] theorem errResp_pending  : (s.errResp).pending = s.pending := rfl
@[simp] theorem errResp_cpl  : (s.errResp).cpl = s.cpl := rfl
@[simp] theorem errResp_regs  : (s.errResp).regs = s.regs := rfl
@[simp] theorem errResp_act  : (s.errResp).act = s.act := rfl
@[simp] theorem errResp_shadow  : (s.errResp).shadow = s.shadow := rfl
@[simp] theorem errResp_staged  : (s.errResp).staged = s.staged := rfl
@[simp] theorem errResp_parts  : (s.errResp).parts = s.parts := rfl
@[simp] theorem errResp_latch  : (s.errResp).latch = s.latch := rfl
@[simp] theorem errResp_stage  : (s.errResp).stage = s.stage := rfl
@[simp] theorem errResp_ctr  : (s.errResp).ctr = s.ctr := rfl
@[simp] theorem errResp_snap  : (s.errResp).snap = s.snap := rfl
@[simp] theorem errResp_sent  : (s.errResp).sent = s.sent := rfl
@[simp] theorem errResp_free  : (s.errResp).free = s.free := rfl
@[simp] theorem errResp_dram  : (s.errResp).dram = s.dram := rfl
@[simp] theorem errResp_basin  : (s.errResp).basin = s.basin := rfl
@[simp] theorem errResp_flash  : (s.errResp).flash = s.flash := rfl
@[simp] theorem errResp_otp  : (s.errResp).otp = s.otp := rfl
@[simp] theorem errResp_pins  : (s.errResp).pins = s.pins := rfl
@[simp] theorem errResp_pot  : (s.errResp).pot = s.pot := rfl
@[simp] theorem errResp_inst  : (s.errResp).inst = s.inst := rfl
@[simp] theorem errResp_time  : (s.errResp).time = s.time := rfl
@[simp] theorem errResp_events  : (s.errResp).events = s.events := rfl
@[simp] theorem errResp_evSeq  : (s.errResp).evSeq = s.evSeq := rfl
@[simp] theorem errResp_faults  : (s.errResp).faults = s.faults := rfl
@[simp] theorem errResp_mem  : (s.errResp).mem = s.mem := rfl
@[simp] theorem errResp_rings  : (s.errResp).rings = s.rings := rfl
@[simp] theorem errResp_world  : (s.errResp).world = s.world := rfl
@[simp] theorem errResp_gfx  : (s.errResp).gfx = s.gfx := rfl
@[simp] theorem errResp_comp  : (s.errResp).comp = s.comp := rfl
@[simp] theorem errResp_heads  : (s.errResp).heads = s.heads := rfl
@[simp] theorem errResp_safe  : (s.errResp).safe = s.safe := rfl
@[simp] theorem errResp_links  : (s.errResp).links = s.links := rfl
@[simp] theorem errResp_caps  : (s.errResp).caps = s.caps := rfl
@[simp] theorem errResp_pwr  : (s.errResp).pwr = s.pwr := rfl
@[simp] theorem errResp_surf  : (s.errResp).surf = s.surf := rfl
@[simp] theorem errResp_hapt  : (s.errResp).hapt = s.hapt := rfl
@[simp] theorem errResp_touch  : (s.errResp).touch = s.touch := rfl
@[simp] theorem errResp_audio  : (s.errResp).audio = s.audio := rfl
@[simp] theorem errResp_alarm  : (s.errResp).alarm = s.alarm := rfl
@[simp] theorem errResp_ctl  : (s.errResp).ctl = s.ctl := rfl

/-! ### notify -/

@[simp] theorem notify_variant (o a : Nat) : (s.notify o a).variant = s.variant := by
  unfold State.notify; repeat' split
  all_goals rfl
@[simp] theorem notify_pending (o a : Nat) : (s.notify o a).pending = s.pending := by
  unfold State.notify; repeat' split
  all_goals rfl
@[simp] theorem notify_resp (o a : Nat) : (s.notify o a).resp = s.resp := by
  unfold State.notify; repeat' split
  all_goals rfl
@[simp] theorem notify_cpl (o a : Nat) : (s.notify o a).cpl = s.cpl := by
  unfold State.notify; repeat' split
  all_goals rfl
@[simp] theorem notify_regs (o a : Nat) : (s.notify o a).regs = s.regs := by
  unfold State.notify; repeat' split
  all_goals rfl
@[simp] theorem notify_act (o a : Nat) : (s.notify o a).act = s.act := by
  unfold State.notify; repeat' split
  all_goals rfl
@[simp] theorem notify_shadow (o a : Nat) : (s.notify o a).shadow = s.shadow := by
  unfold State.notify; repeat' split
  all_goals rfl
@[simp] theorem notify_staged (o a : Nat) : (s.notify o a).staged = s.staged := by
  unfold State.notify; repeat' split
  all_goals rfl
@[simp] theorem notify_parts (o a : Nat) : (s.notify o a).parts = s.parts := by
  unfold State.notify; repeat' split
  all_goals rfl
@[simp] theorem notify_latch (o a : Nat) : (s.notify o a).latch = s.latch := by
  unfold State.notify; repeat' split
  all_goals rfl
@[simp] theorem notify_stage (o a : Nat) : (s.notify o a).stage = s.stage := by
  unfold State.notify; repeat' split
  all_goals rfl
@[simp] theorem notify_ctr (o a : Nat) : (s.notify o a).ctr = s.ctr := by
  unfold State.notify; repeat' split
  all_goals rfl
@[simp] theorem notify_snap (o a : Nat) : (s.notify o a).snap = s.snap := by
  unfold State.notify; repeat' split
  all_goals rfl
@[simp] theorem notify_free (o a : Nat) : (s.notify o a).free = s.free := by
  unfold State.notify; repeat' split
  all_goals rfl
@[simp] theorem notify_dram (o a : Nat) : (s.notify o a).dram = s.dram := by
  unfold State.notify; repeat' split
  all_goals rfl
@[simp] theorem notify_basin (o a : Nat) : (s.notify o a).basin = s.basin := by
  unfold State.notify; repeat' split
  all_goals rfl
@[simp] theorem notify_flash (o a : Nat) : (s.notify o a).flash = s.flash := by
  unfold State.notify; repeat' split
  all_goals rfl
@[simp] theorem notify_otp (o a : Nat) : (s.notify o a).otp = s.otp := by
  unfold State.notify; repeat' split
  all_goals rfl
@[simp] theorem notify_pins (o a : Nat) : (s.notify o a).pins = s.pins := by
  unfold State.notify; repeat' split
  all_goals rfl
@[simp] theorem notify_pot (o a : Nat) : (s.notify o a).pot = s.pot := by
  unfold State.notify; repeat' split
  all_goals rfl
@[simp] theorem notify_inst (o a : Nat) : (s.notify o a).inst = s.inst := by
  unfold State.notify; repeat' split
  all_goals rfl
@[simp] theorem notify_time (o a : Nat) : (s.notify o a).time = s.time := by
  unfold State.notify; repeat' split
  all_goals rfl
@[simp] theorem notify_events (o a : Nat) : (s.notify o a).events = s.events := by
  unfold State.notify; repeat' split
  all_goals rfl
@[simp] theorem notify_evSeq (o a : Nat) : (s.notify o a).evSeq = s.evSeq := by
  unfold State.notify; repeat' split
  all_goals rfl
@[simp] theorem notify_faults (o a : Nat) : (s.notify o a).faults = s.faults := by
  unfold State.notify; repeat' split
  all_goals rfl
@[simp] theorem notify_mem (o a : Nat) : (s.notify o a).mem = s.mem := by
  unfold State.notify; repeat' split
  all_goals rfl
@[simp] theorem notify_rings (o a : Nat) : (s.notify o a).rings = s.rings := by
  unfold State.notify; repeat' split
  all_goals rfl
@[simp] theorem notify_world (o a : Nat) : (s.notify o a).world = s.world := by
  unfold State.notify; repeat' split
  all_goals rfl
@[simp] theorem notify_gfx (o a : Nat) : (s.notify o a).gfx = s.gfx := by
  unfold State.notify; repeat' split
  all_goals rfl
@[simp] theorem notify_comp (o a : Nat) : (s.notify o a).comp = s.comp := by
  unfold State.notify; repeat' split
  all_goals rfl
@[simp] theorem notify_heads (o a : Nat) : (s.notify o a).heads = s.heads := by
  unfold State.notify; repeat' split
  all_goals rfl
@[simp] theorem notify_safe (o a : Nat) : (s.notify o a).safe = s.safe := by
  unfold State.notify; repeat' split
  all_goals rfl
@[simp] theorem notify_links (o a : Nat) : (s.notify o a).links = s.links := by
  unfold State.notify; repeat' split
  all_goals rfl
@[simp] theorem notify_caps (o a : Nat) : (s.notify o a).caps = s.caps := by
  unfold State.notify; repeat' split
  all_goals rfl
@[simp] theorem notify_pwr (o a : Nat) : (s.notify o a).pwr = s.pwr := by
  unfold State.notify; repeat' split
  all_goals rfl
@[simp] theorem notify_surf (o a : Nat) : (s.notify o a).surf = s.surf := by
  unfold State.notify; repeat' split
  all_goals rfl
@[simp] theorem notify_hapt (o a : Nat) : (s.notify o a).hapt = s.hapt := by
  unfold State.notify; repeat' split
  all_goals rfl
@[simp] theorem notify_touch (o a : Nat) : (s.notify o a).touch = s.touch := by
  unfold State.notify; repeat' split
  all_goals rfl
@[simp] theorem notify_audio (o a : Nat) : (s.notify o a).audio = s.audio := by
  unfold State.notify; repeat' split
  all_goals rfl
@[simp] theorem notify_alarm (o a : Nat) : (s.notify o a).alarm = s.alarm := by
  unfold State.notify; repeat' split
  all_goals rfl
@[simp] theorem notify_ctl (o a : Nat) : (s.notify o a).ctl = s.ctl := by
  unfold State.notify; repeat' split
  all_goals rfl

/-! ### irqEdge -/

@[simp] theorem irqEdge_variant (t : State) (o : Nat) : (s.irqEdge t o).variant = s.variant := by
  unfold State.irqEdge; split <;> simp only [notify_variant]
@[simp] theorem irqEdge_pending (t : State) (o : Nat) : (s.irqEdge t o).pending = s.pending := by
  unfold State.irqEdge; split <;> simp only [notify_pending]
@[simp] theorem irqEdge_resp (t : State) (o : Nat) : (s.irqEdge t o).resp = s.resp := by
  unfold State.irqEdge; split <;> simp only [notify_resp]
@[simp] theorem irqEdge_cpl (t : State) (o : Nat) : (s.irqEdge t o).cpl = s.cpl := by
  unfold State.irqEdge; split <;> simp only [notify_cpl]
@[simp] theorem irqEdge_regs (t : State) (o : Nat) : (s.irqEdge t o).regs = s.regs := by
  unfold State.irqEdge; split <;> simp only [notify_regs]
@[simp] theorem irqEdge_act (t : State) (o : Nat) : (s.irqEdge t o).act = s.act := by
  unfold State.irqEdge; split <;> simp only [notify_act]
@[simp] theorem irqEdge_shadow (t : State) (o : Nat) : (s.irqEdge t o).shadow = s.shadow := by
  unfold State.irqEdge; split <;> simp only [notify_shadow]
@[simp] theorem irqEdge_staged (t : State) (o : Nat) : (s.irqEdge t o).staged = s.staged := by
  unfold State.irqEdge; split <;> simp only [notify_staged]
@[simp] theorem irqEdge_parts (t : State) (o : Nat) : (s.irqEdge t o).parts = s.parts := by
  unfold State.irqEdge; split <;> simp only [notify_parts]
@[simp] theorem irqEdge_latch (t : State) (o : Nat) : (s.irqEdge t o).latch = s.latch := by
  unfold State.irqEdge; split <;> simp only [notify_latch]
@[simp] theorem irqEdge_stage (t : State) (o : Nat) : (s.irqEdge t o).stage = s.stage := by
  unfold State.irqEdge; split <;> simp only [notify_stage]
@[simp] theorem irqEdge_ctr (t : State) (o : Nat) : (s.irqEdge t o).ctr = s.ctr := by
  unfold State.irqEdge; split <;> simp only [notify_ctr]
@[simp] theorem irqEdge_snap (t : State) (o : Nat) : (s.irqEdge t o).snap = s.snap := by
  unfold State.irqEdge; split <;> simp only [notify_snap]
@[simp] theorem irqEdge_free (t : State) (o : Nat) : (s.irqEdge t o).free = s.free := by
  unfold State.irqEdge; split <;> simp only [notify_free]
@[simp] theorem irqEdge_dram (t : State) (o : Nat) : (s.irqEdge t o).dram = s.dram := by
  unfold State.irqEdge; split <;> simp only [notify_dram]
@[simp] theorem irqEdge_basin (t : State) (o : Nat) : (s.irqEdge t o).basin = s.basin := by
  unfold State.irqEdge; split <;> simp only [notify_basin]
@[simp] theorem irqEdge_flash (t : State) (o : Nat) : (s.irqEdge t o).flash = s.flash := by
  unfold State.irqEdge; split <;> simp only [notify_flash]
@[simp] theorem irqEdge_otp (t : State) (o : Nat) : (s.irqEdge t o).otp = s.otp := by
  unfold State.irqEdge; split <;> simp only [notify_otp]
@[simp] theorem irqEdge_pins (t : State) (o : Nat) : (s.irqEdge t o).pins = s.pins := by
  unfold State.irqEdge; split <;> simp only [notify_pins]
@[simp] theorem irqEdge_pot (t : State) (o : Nat) : (s.irqEdge t o).pot = s.pot := by
  unfold State.irqEdge; split <;> simp only [notify_pot]
@[simp] theorem irqEdge_inst (t : State) (o : Nat) : (s.irqEdge t o).inst = s.inst := by
  unfold State.irqEdge; split <;> simp only [notify_inst]
@[simp] theorem irqEdge_time (t : State) (o : Nat) : (s.irqEdge t o).time = s.time := by
  unfold State.irqEdge; split <;> simp only [notify_time]
@[simp] theorem irqEdge_events (t : State) (o : Nat) : (s.irqEdge t o).events = s.events := by
  unfold State.irqEdge; split <;> simp only [notify_events]
@[simp] theorem irqEdge_evSeq (t : State) (o : Nat) : (s.irqEdge t o).evSeq = s.evSeq := by
  unfold State.irqEdge; split <;> simp only [notify_evSeq]
@[simp] theorem irqEdge_faults (t : State) (o : Nat) : (s.irqEdge t o).faults = s.faults := by
  unfold State.irqEdge; split <;> simp only [notify_faults]
@[simp] theorem irqEdge_mem (t : State) (o : Nat) : (s.irqEdge t o).mem = s.mem := by
  unfold State.irqEdge; split <;> simp only [notify_mem]
@[simp] theorem irqEdge_rings (t : State) (o : Nat) : (s.irqEdge t o).rings = s.rings := by
  unfold State.irqEdge; split <;> simp only [notify_rings]
@[simp] theorem irqEdge_world (t : State) (o : Nat) : (s.irqEdge t o).world = s.world := by
  unfold State.irqEdge; split <;> simp only [notify_world]
@[simp] theorem irqEdge_gfx (t : State) (o : Nat) : (s.irqEdge t o).gfx = s.gfx := by
  unfold State.irqEdge; split <;> simp only [notify_gfx]
@[simp] theorem irqEdge_comp (t : State) (o : Nat) : (s.irqEdge t o).comp = s.comp := by
  unfold State.irqEdge; split <;> simp only [notify_comp]
@[simp] theorem irqEdge_heads (t : State) (o : Nat) : (s.irqEdge t o).heads = s.heads := by
  unfold State.irqEdge; split <;> simp only [notify_heads]
@[simp] theorem irqEdge_safe (t : State) (o : Nat) : (s.irqEdge t o).safe = s.safe := by
  unfold State.irqEdge; split <;> simp only [notify_safe]
@[simp] theorem irqEdge_links (t : State) (o : Nat) : (s.irqEdge t o).links = s.links := by
  unfold State.irqEdge; split <;> simp only [notify_links]
@[simp] theorem irqEdge_caps (t : State) (o : Nat) : (s.irqEdge t o).caps = s.caps := by
  unfold State.irqEdge; split <;> simp only [notify_caps]
@[simp] theorem irqEdge_pwr (t : State) (o : Nat) : (s.irqEdge t o).pwr = s.pwr := by
  unfold State.irqEdge; split <;> simp only [notify_pwr]
@[simp] theorem irqEdge_surf (t : State) (o : Nat) : (s.irqEdge t o).surf = s.surf := by
  unfold State.irqEdge; split <;> simp only [notify_surf]
@[simp] theorem irqEdge_hapt (t : State) (o : Nat) : (s.irqEdge t o).hapt = s.hapt := by
  unfold State.irqEdge; split <;> simp only [notify_hapt]
@[simp] theorem irqEdge_touch (t : State) (o : Nat) : (s.irqEdge t o).touch = s.touch := by
  unfold State.irqEdge; split <;> simp only [notify_touch]
@[simp] theorem irqEdge_audio (t : State) (o : Nat) : (s.irqEdge t o).audio = s.audio := by
  unfold State.irqEdge; split <;> simp only [notify_audio]
@[simp] theorem irqEdge_alarm (t : State) (o : Nat) : (s.irqEdge t o).alarm = s.alarm := by
  unfold State.irqEdge; split <;> simp only [notify_alarm]
@[simp] theorem irqEdge_ctl (t : State) (o : Nat) : (s.irqEdge t o).ctl = s.ctl := by
  unfold State.irqEdge; split <;> simp only [notify_ctl]

/-! ### raise -/

@[simp] theorem raise_variant (k : Blk) (i n : Nat) : (s.raise k i n).variant = s.variant := by
  unfold State.raise; simp only [irqEdge_variant, wr_variant]
@[simp] theorem raise_pending (k : Blk) (i n : Nat) : (s.raise k i n).pending = s.pending := by
  unfold State.raise; simp only [irqEdge_pending, wr_pending]
@[simp] theorem raise_resp (k : Blk) (i n : Nat) : (s.raise k i n).resp = s.resp := by
  unfold State.raise; simp only [irqEdge_resp, wr_resp]
@[simp] theorem raise_cpl (k : Blk) (i n : Nat) : (s.raise k i n).cpl = s.cpl := by
  unfold State.raise; simp only [irqEdge_cpl, wr_cpl]
@[simp] theorem raise_shadow (k : Blk) (i n : Nat) : (s.raise k i n).shadow = s.shadow := by
  unfold State.raise; simp only [irqEdge_shadow, wr_shadow]
@[simp] theorem raise_staged (k : Blk) (i n : Nat) : (s.raise k i n).staged = s.staged := by
  unfold State.raise; simp only [irqEdge_staged, wr_staged]
@[simp] theorem raise_parts (k : Blk) (i n : Nat) : (s.raise k i n).parts = s.parts := by
  unfold State.raise; simp only [irqEdge_parts, wr_parts]
@[simp] theorem raise_latch (k : Blk) (i n : Nat) : (s.raise k i n).latch = s.latch := by
  unfold State.raise; simp only [irqEdge_latch, wr_latch]
@[simp] theorem raise_stage (k : Blk) (i n : Nat) : (s.raise k i n).stage = s.stage := by
  unfold State.raise; simp only [irqEdge_stage, wr_stage]
@[simp] theorem raise_ctr (k : Blk) (i n : Nat) : (s.raise k i n).ctr = s.ctr := by
  unfold State.raise; simp only [irqEdge_ctr, wr_ctr]
@[simp] theorem raise_snap (k : Blk) (i n : Nat) : (s.raise k i n).snap = s.snap := by
  unfold State.raise; simp only [irqEdge_snap, wr_snap]
@[simp] theorem raise_free (k : Blk) (i n : Nat) : (s.raise k i n).free = s.free := by
  unfold State.raise; simp only [irqEdge_free, wr_free]
@[simp] theorem raise_dram (k : Blk) (i n : Nat) : (s.raise k i n).dram = s.dram := by
  unfold State.raise; simp only [irqEdge_dram, wr_dram]
@[simp] theorem raise_basin (k : Blk) (i n : Nat) : (s.raise k i n).basin = s.basin := by
  unfold State.raise; simp only [irqEdge_basin, wr_basin]
@[simp] theorem raise_flash (k : Blk) (i n : Nat) : (s.raise k i n).flash = s.flash := by
  unfold State.raise; simp only [irqEdge_flash, wr_flash]
@[simp] theorem raise_otp (k : Blk) (i n : Nat) : (s.raise k i n).otp = s.otp := by
  unfold State.raise; simp only [irqEdge_otp, wr_otp]
@[simp] theorem raise_pins (k : Blk) (i n : Nat) : (s.raise k i n).pins = s.pins := by
  unfold State.raise; simp only [irqEdge_pins, wr_pins]
@[simp] theorem raise_pot (k : Blk) (i n : Nat) : (s.raise k i n).pot = s.pot := by
  unfold State.raise; simp only [irqEdge_pot, wr_pot]
@[simp] theorem raise_inst (k : Blk) (i n : Nat) : (s.raise k i n).inst = s.inst := by
  unfold State.raise; simp only [irqEdge_inst, wr_inst]
@[simp] theorem raise_time (k : Blk) (i n : Nat) : (s.raise k i n).time = s.time := by
  unfold State.raise; simp only [irqEdge_time, wr_time]
@[simp] theorem raise_events (k : Blk) (i n : Nat) : (s.raise k i n).events = s.events := by
  unfold State.raise; simp only [irqEdge_events, wr_events]
@[simp] theorem raise_evSeq (k : Blk) (i n : Nat) : (s.raise k i n).evSeq = s.evSeq := by
  unfold State.raise; simp only [irqEdge_evSeq, wr_evSeq]
@[simp] theorem raise_faults (k : Blk) (i n : Nat) : (s.raise k i n).faults = s.faults := by
  unfold State.raise; simp only [irqEdge_faults, wr_faults]
@[simp] theorem raise_mem (k : Blk) (i n : Nat) : (s.raise k i n).mem = s.mem := by
  unfold State.raise; simp only [irqEdge_mem, wr_mem]
@[simp] theorem raise_rings (k : Blk) (i n : Nat) : (s.raise k i n).rings = s.rings := by
  unfold State.raise; simp only [irqEdge_rings, wr_rings]
@[simp] theorem raise_world (k : Blk) (i n : Nat) : (s.raise k i n).world = s.world := by
  unfold State.raise; simp only [irqEdge_world, wr_world]
@[simp] theorem raise_gfx (k : Blk) (i n : Nat) : (s.raise k i n).gfx = s.gfx := by
  unfold State.raise; simp only [irqEdge_gfx, wr_gfx]
@[simp] theorem raise_comp (k : Blk) (i n : Nat) : (s.raise k i n).comp = s.comp := by
  unfold State.raise; simp only [irqEdge_comp, wr_comp]
@[simp] theorem raise_heads (k : Blk) (i n : Nat) : (s.raise k i n).heads = s.heads := by
  unfold State.raise; simp only [irqEdge_heads, wr_heads]
@[simp] theorem raise_safe (k : Blk) (i n : Nat) : (s.raise k i n).safe = s.safe := by
  unfold State.raise; simp only [irqEdge_safe, wr_safe]
@[simp] theorem raise_links (k : Blk) (i n : Nat) : (s.raise k i n).links = s.links := by
  unfold State.raise; simp only [irqEdge_links, wr_links]
@[simp] theorem raise_caps (k : Blk) (i n : Nat) : (s.raise k i n).caps = s.caps := by
  unfold State.raise; simp only [irqEdge_caps, wr_caps]
@[simp] theorem raise_pwr (k : Blk) (i n : Nat) : (s.raise k i n).pwr = s.pwr := by
  unfold State.raise; simp only [irqEdge_pwr, wr_pwr]
@[simp] theorem raise_surf (k : Blk) (i n : Nat) : (s.raise k i n).surf = s.surf := by
  unfold State.raise; simp only [irqEdge_surf, wr_surf]
@[simp] theorem raise_hapt (k : Blk) (i n : Nat) : (s.raise k i n).hapt = s.hapt := by
  unfold State.raise; simp only [irqEdge_hapt, wr_hapt]
@[simp] theorem raise_touch (k : Blk) (i n : Nat) : (s.raise k i n).touch = s.touch := by
  unfold State.raise; simp only [irqEdge_touch, wr_touch]
@[simp] theorem raise_audio (k : Blk) (i n : Nat) : (s.raise k i n).audio = s.audio := by
  unfold State.raise; simp only [irqEdge_audio, wr_audio]
@[simp] theorem raise_alarm (k : Blk) (i n : Nat) : (s.raise k i n).alarm = s.alarm := by
  unfold State.raise; simp only [irqEdge_alarm, wr_alarm]
@[simp] theorem raise_ctl (k : Blk) (i n : Nat) : (s.raise k i n).ctl = s.ctl := by
  unfold State.raise; simp only [irqEdge_ctl, wr_ctl]

/-! ### recErr -/

@[simp] theorem recErr_variant (k : Blk) (i code rid a : Nat) : (s.recErr k i code rid a).variant = s.variant := by
  unfold State.recErr; dsimp only; rw [raise_variant]; split <;> simp only [wr_variant]
@[simp] theorem recErr_pending (k : Blk) (i code rid a : Nat) : (s.recErr k i code rid a).pending = s.pending := by
  unfold State.recErr; dsimp only; rw [raise_pending]; split <;> simp only [wr_pending]
@[simp] theorem recErr_resp (k : Blk) (i code rid a : Nat) : (s.recErr k i code rid a).resp = s.resp := by
  unfold State.recErr; dsimp only; rw [raise_resp]; split <;> simp only [wr_resp]
@[simp] theorem recErr_cpl (k : Blk) (i code rid a : Nat) : (s.recErr k i code rid a).cpl = s.cpl := by
  unfold State.recErr; dsimp only; rw [raise_cpl]; split <;> simp only [wr_cpl]
@[simp] theorem recErr_shadow (k : Blk) (i code rid a : Nat) : (s.recErr k i code rid a).shadow = s.shadow := by
  unfold State.recErr; dsimp only; rw [raise_shadow]; split <;> simp only [wr_shadow]
@[simp] theorem recErr_staged (k : Blk) (i code rid a : Nat) : (s.recErr k i code rid a).staged = s.staged := by
  unfold State.recErr; dsimp only; rw [raise_staged]; split <;> simp only [wr_staged]
@[simp] theorem recErr_parts (k : Blk) (i code rid a : Nat) : (s.recErr k i code rid a).parts = s.parts := by
  unfold State.recErr; dsimp only; rw [raise_parts]; split <;> simp only [wr_parts]
@[simp] theorem recErr_latch (k : Blk) (i code rid a : Nat) : (s.recErr k i code rid a).latch = s.latch := by
  unfold State.recErr; dsimp only; rw [raise_latch]; split <;> simp only [wr_latch]
@[simp] theorem recErr_stage (k : Blk) (i code rid a : Nat) : (s.recErr k i code rid a).stage = s.stage := by
  unfold State.recErr; dsimp only; rw [raise_stage]; split <;> simp only [wr_stage]
@[simp] theorem recErr_ctr (k : Blk) (i code rid a : Nat) : (s.recErr k i code rid a).ctr = s.ctr := by
  unfold State.recErr; dsimp only; rw [raise_ctr]; split <;> simp only [wr_ctr]
@[simp] theorem recErr_snap (k : Blk) (i code rid a : Nat) : (s.recErr k i code rid a).snap = s.snap := by
  unfold State.recErr; dsimp only; rw [raise_snap]; split <;> simp only [wr_snap]
@[simp] theorem recErr_free (k : Blk) (i code rid a : Nat) : (s.recErr k i code rid a).free = s.free := by
  unfold State.recErr; dsimp only; rw [raise_free]; split <;> simp only [wr_free]
@[simp] theorem recErr_dram (k : Blk) (i code rid a : Nat) : (s.recErr k i code rid a).dram = s.dram := by
  unfold State.recErr; dsimp only; rw [raise_dram]; split <;> simp only [wr_dram]
@[simp] theorem recErr_basin (k : Blk) (i code rid a : Nat) : (s.recErr k i code rid a).basin = s.basin := by
  unfold State.recErr; dsimp only; rw [raise_basin]; split <;> simp only [wr_basin]
@[simp] theorem recErr_flash (k : Blk) (i code rid a : Nat) : (s.recErr k i code rid a).flash = s.flash := by
  unfold State.recErr; dsimp only; rw [raise_flash]; split <;> simp only [wr_flash]
@[simp] theorem recErr_otp (k : Blk) (i code rid a : Nat) : (s.recErr k i code rid a).otp = s.otp := by
  unfold State.recErr; dsimp only; rw [raise_otp]; split <;> simp only [wr_otp]
@[simp] theorem recErr_pins (k : Blk) (i code rid a : Nat) : (s.recErr k i code rid a).pins = s.pins := by
  unfold State.recErr; dsimp only; rw [raise_pins]; split <;> simp only [wr_pins]
@[simp] theorem recErr_pot (k : Blk) (i code rid a : Nat) : (s.recErr k i code rid a).pot = s.pot := by
  unfold State.recErr; dsimp only; rw [raise_pot]; split <;> simp only [wr_pot]
@[simp] theorem recErr_inst (k : Blk) (i code rid a : Nat) : (s.recErr k i code rid a).inst = s.inst := by
  unfold State.recErr; dsimp only; rw [raise_inst]; split <;> simp only [wr_inst]
@[simp] theorem recErr_time (k : Blk) (i code rid a : Nat) : (s.recErr k i code rid a).time = s.time := by
  unfold State.recErr; dsimp only; rw [raise_time]; split <;> simp only [wr_time]
@[simp] theorem recErr_events (k : Blk) (i code rid a : Nat) : (s.recErr k i code rid a).events = s.events := by
  unfold State.recErr; dsimp only; rw [raise_events]; split <;> simp only [wr_events]
@[simp] theorem recErr_evSeq (k : Blk) (i code rid a : Nat) : (s.recErr k i code rid a).evSeq = s.evSeq := by
  unfold State.recErr; dsimp only; rw [raise_evSeq]; split <;> simp only [wr_evSeq]
@[simp] theorem recErr_faults (k : Blk) (i code rid a : Nat) : (s.recErr k i code rid a).faults = s.faults := by
  unfold State.recErr; dsimp only; rw [raise_faults]; split <;> simp only [wr_faults]
@[simp] theorem recErr_mem (k : Blk) (i code rid a : Nat) : (s.recErr k i code rid a).mem = s.mem := by
  unfold State.recErr; dsimp only; rw [raise_mem]; split <;> simp only [wr_mem]
@[simp] theorem recErr_rings (k : Blk) (i code rid a : Nat) : (s.recErr k i code rid a).rings = s.rings := by
  unfold State.recErr; dsimp only; rw [raise_rings]; split <;> simp only [wr_rings]
@[simp] theorem recErr_world (k : Blk) (i code rid a : Nat) : (s.recErr k i code rid a).world = s.world := by
  unfold State.recErr; dsimp only; rw [raise_world]; split <;> simp only [wr_world]
@[simp] theorem recErr_gfx (k : Blk) (i code rid a : Nat) : (s.recErr k i code rid a).gfx = s.gfx := by
  unfold State.recErr; dsimp only; rw [raise_gfx]; split <;> simp only [wr_gfx]
@[simp] theorem recErr_comp (k : Blk) (i code rid a : Nat) : (s.recErr k i code rid a).comp = s.comp := by
  unfold State.recErr; dsimp only; rw [raise_comp]; split <;> simp only [wr_comp]
@[simp] theorem recErr_heads (k : Blk) (i code rid a : Nat) : (s.recErr k i code rid a).heads = s.heads := by
  unfold State.recErr; dsimp only; rw [raise_heads]; split <;> simp only [wr_heads]
@[simp] theorem recErr_safe (k : Blk) (i code rid a : Nat) : (s.recErr k i code rid a).safe = s.safe := by
  unfold State.recErr; dsimp only; rw [raise_safe]; split <;> simp only [wr_safe]
@[simp] theorem recErr_links (k : Blk) (i code rid a : Nat) : (s.recErr k i code rid a).links = s.links := by
  unfold State.recErr; dsimp only; rw [raise_links]; split <;> simp only [wr_links]
@[simp] theorem recErr_caps (k : Blk) (i code rid a : Nat) : (s.recErr k i code rid a).caps = s.caps := by
  unfold State.recErr; dsimp only; rw [raise_caps]; split <;> simp only [wr_caps]
@[simp] theorem recErr_pwr (k : Blk) (i code rid a : Nat) : (s.recErr k i code rid a).pwr = s.pwr := by
  unfold State.recErr; dsimp only; rw [raise_pwr]; split <;> simp only [wr_pwr]
@[simp] theorem recErr_surf (k : Blk) (i code rid a : Nat) : (s.recErr k i code rid a).surf = s.surf := by
  unfold State.recErr; dsimp only; rw [raise_surf]; split <;> simp only [wr_surf]
@[simp] theorem recErr_hapt (k : Blk) (i code rid a : Nat) : (s.recErr k i code rid a).hapt = s.hapt := by
  unfold State.recErr; dsimp only; rw [raise_hapt]; split <;> simp only [wr_hapt]
@[simp] theorem recErr_touch (k : Blk) (i code rid a : Nat) : (s.recErr k i code rid a).touch = s.touch := by
  unfold State.recErr; dsimp only; rw [raise_touch]; split <;> simp only [wr_touch]
@[simp] theorem recErr_audio (k : Blk) (i code rid a : Nat) : (s.recErr k i code rid a).audio = s.audio := by
  unfold State.recErr; dsimp only; rw [raise_audio]; split <;> simp only [wr_audio]
@[simp] theorem recErr_alarm (k : Blk) (i code rid a : Nat) : (s.recErr k i code rid a).alarm = s.alarm := by
  unfold State.recErr; dsimp only; rw [raise_alarm]; split <;> simp only [wr_alarm]
@[simp] theorem recErr_ctl (k : Blk) (i code rid a : Nat) : (s.recErr k i code rid a).ctl = s.ctl := by
  unfold State.recErr; dsimp only; rw [raise_ctl]; split <;> simp only [wr_ctl]

/-! ### refuse -/

@[simp] theorem refuse_variant (k : Blk) (i code rid a : Nat) : (s.refuse k i code rid a).variant = s.variant := by
  unfold State.refuse; simp only [errResp_variant, recErr_variant]
@[simp] theorem refuse_pending (k : Blk) (i code rid a : Nat) : (s.refuse k i code rid a).pending = s.pending := by
  unfold State.refuse; simp only [errResp_pending, recErr_pending]
@[simp] theorem refuse_cpl (k : Blk) (i code rid a : Nat) : (s.refuse k i code rid a).cpl = s.cpl := by
  unfold State.refuse; simp only [errResp_cpl, recErr_cpl]
@[simp] theorem refuse_shadow (k : Blk) (i code rid a : Nat) : (s.refuse k i code rid a).shadow = s.shadow := by
  unfold State.refuse; simp only [errResp_shadow, recErr_shadow]
@[simp] theorem refuse_staged (k : Blk) (i code rid a : Nat) : (s.refuse k i code rid a).staged = s.staged := by
  unfold State.refuse; simp only [errResp_staged, recErr_staged]
@[simp] theorem refuse_parts (k : Blk) (i code rid a : Nat) : (s.refuse k i code rid a).parts = s.parts := by
  unfold State.refuse; simp only [errResp_parts, recErr_parts]
@[simp] theorem refuse_latch (k : Blk) (i code rid a : Nat) : (s.refuse k i code rid a).latch = s.latch := by
  unfold State.refuse; simp only [errResp_latch, recErr_latch]
@[simp] theorem refuse_stage (k : Blk) (i code rid a : Nat) : (s.refuse k i code rid a).stage = s.stage := by
  unfold State.refuse; simp only [errResp_stage, recErr_stage]
@[simp] theorem refuse_ctr (k : Blk) (i code rid a : Nat) : (s.refuse k i code rid a).ctr = s.ctr := by
  unfold State.refuse; simp only [errResp_ctr, recErr_ctr]
@[simp] theorem refuse_snap (k : Blk) (i code rid a : Nat) : (s.refuse k i code rid a).snap = s.snap := by
  unfold State.refuse; simp only [errResp_snap, recErr_snap]
@[simp] theorem refuse_free (k : Blk) (i code rid a : Nat) : (s.refuse k i code rid a).free = s.free := by
  unfold State.refuse; simp only [errResp_free, recErr_free]
@[simp] theorem refuse_dram (k : Blk) (i code rid a : Nat) : (s.refuse k i code rid a).dram = s.dram := by
  unfold State.refuse; simp only [errResp_dram, recErr_dram]
@[simp] theorem refuse_basin (k : Blk) (i code rid a : Nat) : (s.refuse k i code rid a).basin = s.basin := by
  unfold State.refuse; simp only [errResp_basin, recErr_basin]
@[simp] theorem refuse_flash (k : Blk) (i code rid a : Nat) : (s.refuse k i code rid a).flash = s.flash := by
  unfold State.refuse; simp only [errResp_flash, recErr_flash]
@[simp] theorem refuse_otp (k : Blk) (i code rid a : Nat) : (s.refuse k i code rid a).otp = s.otp := by
  unfold State.refuse; simp only [errResp_otp, recErr_otp]
@[simp] theorem refuse_pins (k : Blk) (i code rid a : Nat) : (s.refuse k i code rid a).pins = s.pins := by
  unfold State.refuse; simp only [errResp_pins, recErr_pins]
@[simp] theorem refuse_pot (k : Blk) (i code rid a : Nat) : (s.refuse k i code rid a).pot = s.pot := by
  unfold State.refuse; simp only [errResp_pot, recErr_pot]
@[simp] theorem refuse_inst (k : Blk) (i code rid a : Nat) : (s.refuse k i code rid a).inst = s.inst := by
  unfold State.refuse; simp only [errResp_inst, recErr_inst]
@[simp] theorem refuse_time (k : Blk) (i code rid a : Nat) : (s.refuse k i code rid a).time = s.time := by
  unfold State.refuse; simp only [errResp_time, recErr_time]
@[simp] theorem refuse_events (k : Blk) (i code rid a : Nat) : (s.refuse k i code rid a).events = s.events := by
  unfold State.refuse; simp only [errResp_events, recErr_events]
@[simp] theorem refuse_evSeq (k : Blk) (i code rid a : Nat) : (s.refuse k i code rid a).evSeq = s.evSeq := by
  unfold State.refuse; simp only [errResp_evSeq, recErr_evSeq]
@[simp] theorem refuse_faults (k : Blk) (i code rid a : Nat) : (s.refuse k i code rid a).faults = s.faults := by
  unfold State.refuse; simp only [errResp_faults, recErr_faults]
@[simp] theorem refuse_mem (k : Blk) (i code rid a : Nat) : (s.refuse k i code rid a).mem = s.mem := by
  unfold State.refuse; simp only [errResp_mem, recErr_mem]
@[simp] theorem refuse_rings (k : Blk) (i code rid a : Nat) : (s.refuse k i code rid a).rings = s.rings := by
  unfold State.refuse; simp only [errResp_rings, recErr_rings]
@[simp] theorem refuse_world (k : Blk) (i code rid a : Nat) : (s.refuse k i code rid a).world = s.world := by
  unfold State.refuse; simp only [errResp_world, recErr_world]
@[simp] theorem refuse_gfx (k : Blk) (i code rid a : Nat) : (s.refuse k i code rid a).gfx = s.gfx := by
  unfold State.refuse; simp only [errResp_gfx, recErr_gfx]
@[simp] theorem refuse_comp (k : Blk) (i code rid a : Nat) : (s.refuse k i code rid a).comp = s.comp := by
  unfold State.refuse; simp only [errResp_comp, recErr_comp]
@[simp] theorem refuse_heads (k : Blk) (i code rid a : Nat) : (s.refuse k i code rid a).heads = s.heads := by
  unfold State.refuse; simp only [errResp_heads, recErr_heads]
@[simp] theorem refuse_safe (k : Blk) (i code rid a : Nat) : (s.refuse k i code rid a).safe = s.safe := by
  unfold State.refuse; simp only [errResp_safe, recErr_safe]
@[simp] theorem refuse_links (k : Blk) (i code rid a : Nat) : (s.refuse k i code rid a).links = s.links := by
  unfold State.refuse; simp only [errResp_links, recErr_links]
@[simp] theorem refuse_caps (k : Blk) (i code rid a : Nat) : (s.refuse k i code rid a).caps = s.caps := by
  unfold State.refuse; simp only [errResp_caps, recErr_caps]
@[simp] theorem refuse_pwr (k : Blk) (i code rid a : Nat) : (s.refuse k i code rid a).pwr = s.pwr := by
  unfold State.refuse; simp only [errResp_pwr, recErr_pwr]
@[simp] theorem refuse_surf (k : Blk) (i code rid a : Nat) : (s.refuse k i code rid a).surf = s.surf := by
  unfold State.refuse; simp only [errResp_surf, recErr_surf]
@[simp] theorem refuse_hapt (k : Blk) (i code rid a : Nat) : (s.refuse k i code rid a).hapt = s.hapt := by
  unfold State.refuse; simp only [errResp_hapt, recErr_hapt]
@[simp] theorem refuse_touch (k : Blk) (i code rid a : Nat) : (s.refuse k i code rid a).touch = s.touch := by
  unfold State.refuse; simp only [errResp_touch, recErr_touch]
@[simp] theorem refuse_audio (k : Blk) (i code rid a : Nat) : (s.refuse k i code rid a).audio = s.audio := by
  unfold State.refuse; simp only [errResp_audio, recErr_audio]
@[simp] theorem refuse_alarm (k : Blk) (i code rid a : Nat) : (s.refuse k i code rid a).alarm = s.alarm := by
  unfold State.refuse; simp only [errResp_alarm, recErr_alarm]
@[simp] theorem refuse_ctl (k : Blk) (i code rid a : Nat) : (s.refuse k i code rid a).ctl = s.ctl := by
  unfold State.refuse; simp only [errResp_ctl, recErr_ctl]

@[simp] theorem okResp_resp (d : Nat) : (s.okResp d).resp = ⟨true, d⟩ := rfl
@[simp] theorem errResp_resp : s.errResp.resp = ⟨false, 0⟩ := rfl

end Sys2Proof.Laws
end

