-- ==== Sys2Proof/Laws/Regs.lean ====
section
/-! SUPPORT. The laws of register fields: a write is read back, other cells stay, and what each shared operation of Ops and Flags does to
the fields. -/

set_option Elab.async false

namespace Sys2Proof.Laws

open Machine

/-! ### Keys -/

/-- Where a cell lies within its page: offset and lowest bit. -/
theorem cell_mod (page bank off lo : Nat) : cell page bank off lo % 262144 = (off % 4096) * 64 + lo % 64 := by unfold cell; omega

/-- The page a cell lies in. -/
theorem cell_page (page bank off lo : Nat) : cell page bank off lo / 17179869184 = page := by unfold cell; omega

/-- Cells at different places of a page are different, whatever page and bank they lie in. -/
theorem cell_ne {p b o l p' b' o' l' : Nat} (h : (o % 4096) * 64 + l % 64 ≠ (o' % 4096) * 64 + l' % 64) : cell p b o l ≠ cell p' b' o' l' :=
  fun e => h (by rw [← cell_mod p b, ← cell_mod p' b', e])

/-- Cells of different pages are different. -/
theorem cell_ne_page {p b o l p' b' o' l' : Nat} (hp : p ≠ p') : cell p b o l ≠ cell p' b' o' l' :=
  fun e => hp (by rw [← cell_page p b o l, e, cell_page])

/-- Pages of different types are different. -/
theorem page_ne {k k' : Blk} {i i' : Nat} (h : k ≠ k') : k.page i ≠ k'.page i' := by
  have bound : ∀ c : Blk, ∀ n, n % c.count < c.count := fun c n => Nat.mod_lt _ (by cases c <;> decide)
  have hi := bound k (i - k.first)
  have hj := bound k' (i' - k'.first)
  unfold Blk.page
  revert hi hj h
  generalize (i - k.first) % k.count = x
  generalize (i' - k'.first) % k'.count = y
  have table : ∀ a c : Blk, a ≠ c → a.base + a.first + a.count ≤ c.base + c.first ∨ c.base + c.first + c.count ≤ a.base + a.first := by
    intro a c; cases a <;> cases c <;> decide
  intro h hi hj
  rcases table k k' h with t | t <;> omega

/-- Where element j of a field lies within its page. -/
def place (f : Fld) (j : Nat) : Nat := (f.off + f.stride * j) % 4096 * 64 + f.lo % 64

/-- Fields of different page types never share a cell. -/
theorem key_ne_blk {f g : Fld} {i j b i' j' b' : Nat} (h : f.blk ≠ g.blk) : f.key i j b ≠ g.key i' j' b' := cell_ne_page (page_ne h)

/-- Fields at different places share no cell. -/
theorem key_ne {f g : Fld} {i j b i' j' b' : Nat} (h : place f j ≠ place g j') : f.key i j b ≠ g.key i' j' b' := cell_ne h

section

variable {s : State} {f g : Fld} {v i j b i' j' b' : Nat}

/-! ### Field writes -/

/-- The low bits of what was written are read. -/
@[simp] theorem rd_wr_same : (s.wr f v i j b).rd f i j b = v % 2 ^ f.len := by
  unfold State.wr State.rd
  split <;> simp

/-- A write leaves every other cell as it was. -/
theorem rd_wr_ne (h : f.key i j b ≠ g.key i' j' b') : (s.wr f v i j b).rd g i' j' b' = s.rd g i' j' b' := by
  unfold State.wr State.rd
  split <;> split <;> simp [h]

/-- A field and another of a different kind of register never meet. -/
theorem rd_wr_acc (h : (f.acc = .rws) ≠ (g.acc = .rws)) : (s.wr f v i j b).rd g i' j' b' = s.rd g i' j' b' := by
  unfold State.wr State.rd
  split <;> split <;> simp_all

@[simp] theorem rd_wrB_same {x : Bool} : (s.wrB f x i j b).rd f i j b = (if x then 1 else 0) % 2 ^ f.len := rd_wr_same

theorem rd_wrB_ne {x : Bool} (h : f.key i j b ≠ g.key i' j' b') : (s.wrB f x i j b).rd g i' j' b' = s.rd g i' j' b' := rd_wr_ne h

@[simp] theorem rdSh_wrSh_same : (s.wrSh f v i j b).rdSh f i j b = v % 2 ^ f.len := by simp [State.wrSh, State.rdSh]

theorem rdSh_wrSh_ne (h : f.key i j b ≠ g.key i' j' b') : (s.wrSh f v i j b).rdSh g i' j' b' = s.rdSh g i' j' b' := by
  simp [State.wrSh, State.rdSh, h]

@[simp] theorem rdSh_wr : (s.wr f v i j b).rdSh g i' j' b' = s.rdSh g i' j' b' := by unfold State.rdSh; simp

@[simp] theorem rd_wrSh : (s.wrSh f v i j b).rd g i' j' b' = s.rd g i' j' b' := rfl

/-! ### Updates that touch no field -/

@[simp] theorem rd_okResp {d : Nat} : (s.okResp d).rd g i j b = s.rd g i j b := rfl
@[simp] theorem rd_errResp : s.errResp.rd g i j b = s.rd g i j b := rfl
@[simp] theorem rd_count {k : Blk} {n m : Nat} : (s.count k i n m).rd g i' j' b' = s.rd g i' j' b' := rfl
@[simp] theorem rdSh_okResp {d : Nat} : (s.okResp d).rdSh g i j b = s.rdSh g i j b := rfl
@[simp] theorem rdSh_errResp : s.errResp.rdSh g i j b = s.rdSh g i j b := rfl
@[simp] theorem rdSh_count {k : Blk} {n m : Nat} : (s.count k i n m).rdSh g i' j' b' = s.rdSh g i' j' b' := rfl

@[simp] theorem rd_notify {o a : Nat} : (s.notify o a).rd g i j b = s.rd g i j b := by
  unfold State.rd
  rw [show (s.notify o a).act = s.act from notify_act s o a, show (s.notify o a).regs = s.regs from notify_regs s o a, notify_variant]

@[simp] theorem rd_irqEdge {t : State} {o : Nat} : (s.irqEdge t o).rd g i j b = s.rd g i j b := by
  unfold State.irqEdge; split <;> simp

@[simp] theorem rdSh_raise {k : Blk} {n : Nat} : (s.raise k i n).rdSh g i' j' b' = s.rdSh g i' j' b' := by unfold State.rdSh; simp
@[simp] theorem rdSh_recErr {k : Blk} {c r a : Nat} : (s.recErr k i c r a).rdSh g i' j' b' = s.rdSh g i' j' b' := by unfold State.rdSh; simp

/-! ### Record updates that leave the registers alone -/

theorem rd_mk {t : State} {variant' pending' resp' cpl' shadow' staged' parts' latch' stage' ctr' snap' sent' free' dram' basin' flash' otp' pins' pot' inst' time' events' evSeq' faults' mem' rings' world' gfx' comp' heads' safe' links' caps' pwr' surf' hapt' touch' audio' alarm' ctl'} (h : variant' = t.variant) :
    (State.mk variant' pending' resp' cpl' t.regs t.act shadow' staged' parts' latch' stage' ctr' snap' sent' free' dram' basin' flash' otp' pins' pot' inst' time' events' evSeq' faults' mem' rings' world' gfx' comp' heads' safe' links' caps' pwr' surf' hapt' touch' audio' alarm' ctl').rd g i j b = t.rd g i j b := by subst h; rfl
theorem rdSh_mk {t : State} {variant' pending' resp' cpl' regs' act' staged' parts' latch' stage' ctr' snap' sent' free' dram' basin' flash' otp' pins' pot' inst' time' events' evSeq' faults' mem' rings' world' gfx' comp' heads' safe' links' caps' pwr' surf' hapt' touch' audio' alarm' ctl'} (h : variant' = t.variant) :
    (State.mk variant' pending' resp' cpl' regs' act' t.shadow staged' parts' latch' stage' ctr' snap' sent' free' dram' basin' flash' otp' pins' pot' inst' time' events' evSeq' faults' mem' rings' world' gfx' comp' heads' safe' links' caps' pwr' surf' hapt' touch' audio' alarm' ctl').rdSh g i j b = t.rdSh g i j b := by subst h; rfl
@[simp] theorem counter_mk {t : State} {variant' pending' resp' cpl' regs' act' shadow' staged' parts' latch' stage' snap' sent' free' dram' basin' flash' otp' pins' pot' inst' time' events' evSeq' faults' mem' rings' world' gfx' comp' heads' safe' links' caps' pwr' surf' hapt' touch' audio' alarm' ctl'} {k : Blk} {n : Nat} :
    (State.mk variant' pending' resp' cpl' regs' act' shadow' staged' parts' latch' stage' t.ctr snap' sent' free' dram' basin' flash' otp' pins' pot' inst' time' events' evSeq' faults' mem' rings' world' gfx' comp' heads' safe' links' caps' pwr' surf' hapt' touch' audio' alarm' ctl').counter k i n = t.counter k i n := rfl

/-! ### Counters -/

/-- A counter that has counted. -/
@[simp] theorem counter_count_same {k : Blk} {n m : Nat} : (s.count k i n m).counter k i n = (s.counter k i n + m) % 2 ^ 64 := by
  simp [State.count, State.counter]

theorem counter_count_ne {k k' : Blk} {n n' m : Nat} (h : ctrKey (k.page i) n ≠ ctrKey (k'.page i') n') :
    (s.count k i n m).counter k' i' n' = s.counter k' i' n' := by
  simp [State.count, State.counter, h]

@[simp] theorem counter_wr {k : Blk} {n : Nat} : (s.wr f v i j b).counter k i' n = s.counter k i' n := by unfold State.counter; simp
@[simp] theorem counter_raise {k k' : Blk} {n n' : Nat} : (s.raise k i n).counter k' i' n' = s.counter k' i' n' := by
  unfold State.counter; simp
@[simp] theorem counter_recErr {k k' : Blk} {c r a n : Nat} : (s.recErr k i c r a).counter k' i' n = s.counter k' i' n := by
  unfold State.counter; simp

/-! ### Events (R57, R58) -/

/-- An event sets its bit of EV_RAW. -/
theorem raise_ev_raw {k : Blk} {n : Nat} : (s.raise k i n).rd (HDR.ev_raw k) i = setBit (s.rd (HDR.ev_raw k) i) n % 2 ^ 32 := by
  unfold State.raise
  rw [rd_irqEdge, rd_wr_same]
  rfl

/-- An event writes no other field. -/
theorem raise_rd {k : Blk} {n : Nat} (h : (HDR.ev_raw k).key i 0 0 ≠ g.key i' j' b') : (s.raise k i n).rd g i' j' b' = s.rd g i' j' b' := by
  unfold State.raise
  rw [rd_irqEdge, rd_wr_ne h]

/-- A field outside the first 16 bytes of its page keeps its value when an event occurs. -/
theorem raise_rd_out {k : Blk} {n : Nat} (h : place g j' ≠ 0x400) : (s.raise k i n).rd g i' j' b' = s.rd g i' j' b' := by
  have e : place (HDR.ev_raw k) 0 = 0x400 := by simp [place, HDR.ev_raw]
  exact raise_rd (key_ne (by omega))

/-! ### Error records (R59) -/

/-- An error record writes nothing but the header of its page: ERR_CODE, ERR_ADDR and EV_RAW. -/
theorem recErr_rd_out {k : Blk} {c r a : Nat} (h1 : place g j' ≠ 0x400) (h2 : place g j' < 0xA00 ∨ 0xB80 ≤ place g j') :
    (s.recErr k i c r a).rd g i' j' b' = s.rd g i' j' b' := by
  have hk : ∀ f : Fld, 0xA00 ≤ place f 0 → place f 0 < 0xB80 → f.key i 0 0 ≠ g.key i' j' b' :=
    fun f ha hb => key_ne (by omega)
  unfold State.recErr
  dsimp only
  rw [raise_rd_out h1]
  split
  · exact rd_wr_ne (hk _ (by simp [place, HDR.err_count]) (by simp [place, HDR.err_count]))
  · rw [rd_wr_ne (hk _ (by simp [place, HDR.err_req_id]) (by simp [place, HDR.err_req_id])),
      rd_wr_ne (hk _ (by simp [place, HDR.err_addr]) (by simp [place, HDR.err_addr])),
      rd_wr_ne (hk _ (by simp [place, HDR.err_code]) (by simp [place, HDR.err_code])),
      rd_wr_ne (hk _ (by simp [place, HDR.err_count]) (by simp [place, HDR.err_count])),
      rd_wr_ne (hk _ (by simp [place, HDR.err_requester]) (by simp [place, HDR.err_requester])),
      rd_wr_ne (hk _ (by simp [place, HDR.err_internal]) (by simp [place, HDR.err_internal])),
      rd_wr_ne (hk _ (by simp [place, HDR.err_valid]) (by simp [place, HDR.err_valid]))]

/-- A refusal answers with an error, and writes no field but those of its error record. -/
theorem refuse_rd_out {k : Blk} {c r a : Nat} (h1 : place g j' ≠ 0x400) (h2 : place g j' < 0xA00 ∨ 0xB80 ≤ place g j') :
    (s.refuse k i c r a).rd g i' j' b' = s.rd g i' j' b' := by
  unfold State.refuse
  rw [rd_errResp, recErr_rd_out h1 h2]

@[simp] theorem refuse_resp {k : Blk} {c r a : Nat} : (s.refuse k i c r a).resp = ⟨false, 0⟩ := rfl

end

end Sys2Proof.Laws
end

