-- ==== Sys2Proof/Laws/Access.lean ====
section
/-! SUPPORT. What the checks of a register write answer. -/

set_option Elab.async false

namespace Sys2Proof.Laws

open Machine

variable {s : State} {w : Who} {b : Blk} {i off v : Nat}

/-- A write that reaches its page leaves the state as it was up to there. -/
theorem reach_good {t : State} {x : Bool} (h : s.reach w b i off x = .good t) : t = s := by
  unfold State.reach at h
  repeat' split at h
  all_goals first
    | exact (Chk.good.inj h).symm
    | (exfalso; exact absurd h (by simp))

/-- An accepted write passes its checks and is answered normally. -/
theorem checkWrite_of_accepts (h : accepts s w b i off v = true) : s.checkWrite w b i off v = .good s.okResp := by
  unfold accepts at h
  simp only [Bool.and_eq_true, Bool.not_eq_true', decide_eq_true_eq] at h
  obtain ⟨⟨⟨⟨⟨⟨⟨h1, h2⟩, h3⟩, h4⟩, h5⟩, h6⟩, h8⟩, h7⟩ := h
  unfold State.checkWrite
  split
  · rename_i heq; rw [heq] at h1; simp at h1
  · rw [if_neg (by simpa using h2), if_neg (by simp [h3])]
    rw [if_neg (fun hc => by simp [hc.1, hc.2] at h4), if_neg (fun hc => by obtain ⟨a, b', c, d⟩ := hc; simp [a, b', c] at h5; simp_all)]
    unfold State.checkWord
    rw [Option.isNone_iff_eq_none.mp h6]
    dsimp only
    rw [if_pos h8, if_neg (by simpa using h7)]

/-- A write of another page than SWDT breaks no kick. -/
theorem breakKick_ne (h : b ≠ .swdt) : s.breakKick b off = s := by
  unfold State.breakKick; rw [if_neg (fun c => h c.1)]

/-- An accepted write goes on with its own effect. -/
theorem onWrite_of_accepts {k : State → State} (h : accepts s w b i off v = true) :
    s.onWrite w b i off v k = k (s.okResp.breakKick b off) := by
  unfold State.onWrite
  rw [checkWrite_of_accepts h]
  rfl

end Sys2Proof.Laws
end

