-- ==== Sys2Proof/Laws/Frame.lean ====
section
/-! SUPPORT. What operations leave unchanged: one predicate per shape of result, with the lemmas that carry it through conditionals, folds,
record updates and matches, and the laws of the operations that write registers, counters and memories. -/

set_option Elab.async false

namespace Sys2Proof.Laws

open Machine

/-- The state differs from the first only in the parts listed. -/
abbrev Frame := Unchanged

variable {L : List Piece} {r : State} {α β : Type}

/-- Frame of the state in a pair. -/
def FrameP (L : List Piece) (r : State) (p : State × α) : Prop := Frame L r p.1
/-- Frame of the state second in a pair. -/
def FrameR (L : List Piece) (r : State) (p : α × State) : Prop := Frame L r p.2
/-- Frame of a state there may be. -/
def FrameO (L : List Piece) (r : State) (o : Option State) : Prop := ∀ t, o = some t → Frame L r t
/-- Frame of the state in a pair there may be. -/
def FrameOP (L : List Piece) (r : State) (o : Option (State × α)) : Prop := ∀ p, o = some p → Frame L r p.1
/-- Frame of a state that is one of two results. -/
def FrameS (L : List Piece) (r : State) (o : State ⊕ α) : Prop := ∀ t, o = .inl t → Frame L r t
/-- Frame of the state that the checks of a write leave. -/
def FrameC (L : List Piece) (r : State) (c : Chk) : Prop := (∀ t, c = .good t → Frame L r t) ∧ (∀ t, c = .bad t → Frame L r t)
/-- Frame of the state in the sums of an audio tick. -/
def FrameM (L : List Piece) (r : State) (m : MixAcc) : Prop := Frame L r m.st
/-- Frame of the next state of an outcome. -/
def FrameN (L : List Piece) (r : State) (o : Out) : Prop := ∀ t, o = .next t → Frame L r t

/-- A record update that leaves the registers and counters alone. -/
theorem Frame.upd {s : State} {resp' cpl' staged' parts' latch' stage' snap' sent' free' dram' basin' flash' otp' pins' pot' inst' time' events' evSeq' faults' mem' rings' world' gfx' comp' heads' safe' links' caps' pwr' surf' hapt' touch' audio' alarm' ctl'} (h : Frame L r s) (m_resp : .resp ∈ L ∨ resp' = s.resp := by exact .inr rfl) (m_cpl : .cpl ∈ L ∨ cpl' = s.cpl := by exact .inr rfl) (m_staged : .staged ∈ L ∨ staged' = s.staged := by exact .inr rfl) (m_parts : .parts ∈ L ∨ parts' = s.parts := by exact .inr rfl) (m_latch : .latch ∈ L ∨ latch' = s.latch := by exact .inr rfl) (m_stage : .stage ∈ L ∨ stage' = s.stage := by exact .inr rfl) (m_snap : .snap ∈ L ∨ snap' = s.snap := by exact .inr rfl) (m_sent : .sent ∈ L ∨ sent' = s.sent := by exact .inr rfl) (m_free : .free ∈ L ∨ free' = s.free := by exact .inr rfl) (m_dram : .dram ∈ L ∨ dram' = s.dram := by exact .inr rfl) (m_basin : .basin ∈ L ∨ basin' = s.basin := by exact .inr rfl) (m_flash : .flash ∈ L ∨ flash' = s.flash := by exact .inr rfl) (m_otp : .otp ∈ L ∨ otp' = s.otp := by exact .inr rfl) (m_pins : .pins ∈ L ∨ pins' = s.pins := by exact .inr rfl) (m_pot : .pot ∈ L ∨ pot' = s.pot := by exact .inr rfl) (m_inst : .inst ∈ L ∨ inst' = s.inst := by exact .inr rfl) (m_time : .time ∈ L ∨ time' = s.time := by exact .inr rfl) (m_events : .events ∈ L ∨ events' = s.events := by exact .inr rfl) (m_evSeq : .evSeq ∈ L ∨ evSeq' = s.evSeq := by exact .inr rfl) (m_faults : .faults ∈ L ∨ faults' = s.faults := by exact .inr rfl) (m_mem : .mem ∈ L ∨ mem' = s.mem := by exact .inr rfl) (m_rings : .rings ∈ L ∨ rings' = s.rings := by exact .inr rfl) (m_world : .world ∈ L ∨ world' = s.world := by exact .inr rfl) (m_gfx : .gfx ∈ L ∨ gfx' = s.gfx := by exact .inr rfl) (m_comp : .comp ∈ L ∨ comp' = s.comp := by exact .inr rfl) (m_heads : .heads ∈ L ∨ heads' = s.heads := by exact .inr rfl) (m_safe : .safe ∈ L ∨ safe' = s.safe := by exact .inr rfl) (m_links : .links ∈ L ∨ links' = s.links := by exact .inr rfl) (m_caps : .caps ∈ L ∨ caps' = s.caps := by exact .inr rfl) (m_pwr : .pwr ∈ L ∨ pwr' = s.pwr := by exact .inr rfl) (m_surf : .surf ∈ L ∨ surf' = s.surf := by exact .inr rfl) (m_hapt : .hapt ∈ L ∨ hapt' = s.hapt := by exact .inr rfl) (m_touch : .touch ∈ L ∨ touch' = s.touch := by exact .inr rfl) (m_audio : .audio ∈ L ∨ audio' = s.audio := by exact .inr rfl) (m_alarm : .alarm ∈ L ∨ alarm' = s.alarm := by exact .inr rfl) (m_ctl : .ctl ∈ L ∨ ctl' = s.ctl := by exact .inr rfl) :
    Frame L r (State.mk s.variant s.pending resp' cpl' s.regs s.act s.shadow staged' parts' latch' stage' s.ctr snap' sent' free' dram' basin' flash' otp' pins' pot' inst' time' events' evSeq' faults' mem' rings' world' gfx' comp' heads' safe' links' caps' pwr' surf' hapt' touch' audio' alarm' ctl') :=
  ⟨h.variant, h.pending, fun f i j b hn => h.regs f i j b hn, fun b i j h1 h2 => h.ctr b i j h1 h2,
   fun n => (m_resp.resolve_left n).trans (h.resp n),
   fun n => (m_cpl.resolve_left n).trans (h.cpl n), 
   fun n => (m_staged.resolve_left n).trans (h.staged n), 
   fun n => (m_parts.resolve_left n).trans (h.parts n), 
   fun n => (m_latch.resolve_left n).trans (h.latch n), 
   fun n => (m_stage.resolve_left n).trans (h.stage n), 
   fun n => (m_snap.resolve_left n).trans (h.snap n), 
   fun n => (m_sent.resolve_left n).trans (h.sent n), 
   fun n => (m_free.resolve_left n).trans (h.free n), 
   fun n => (m_dram.resolve_left n).trans (h.dram n), 
   fun n => (m_basin.resolve_left n).trans (h.basin n), 
   fun n => (m_flash.resolve_left n).trans (h.flash n), 
   fun n => (m_otp.resolve_left n).trans (h.otp n), 
   fun n => (m_pins.resolve_left n).trans (h.pins n), 
   fun n => (m_pot.resolve_left n).trans (h.pot n), 
   fun n => (m_inst.resolve_left n).trans (h.inst n), 
   fun n => (m_time.resolve_left n).trans (h.time n), 
   fun n => (m_events.resolve_left n).trans (h.events n), 
   fun n => (m_evSeq.resolve_left n).trans (h.evSeq n), 
   fun n => (m_faults.resolve_left n).trans (h.faults n), 
   fun n => (m_mem.resolve_left n).trans (h.mem n), 
   fun n => (m_rings.resolve_left n).trans (h.rings n), 
   fun n => (m_world.resolve_left n).trans (h.world n), 
   fun n => (m_gfx.resolve_left n).trans (h.gfx n), 
   fun n => (m_comp.resolve_left n).trans (h.comp n), 
   fun n => (m_heads.resolve_left n).trans (h.heads n), 
   fun n => (m_safe.resolve_left n).trans (h.safe n), 
   fun n => (m_links.resolve_left n).trans (h.links n), 
   fun n => (m_caps.resolve_left n).trans (h.caps n), 
   fun n => (m_pwr.resolve_left n).trans (h.pwr n), 
   fun n => (m_surf.resolve_left n).trans (h.surf n), 
   fun n => (m_hapt.resolve_left n).trans (h.hapt n), 
   fun n => (m_touch.resolve_left n).trans (h.touch n), 
   fun n => (m_audio.resolve_left n).trans (h.audio n), 
   fun n => (m_alarm.resolve_left n).trans (h.alarm n), 
   fun n => (m_ctl.resolve_left n).trans (h.ctl n)⟩

/-- The same seen from a state before. -/
theorem Frame.trans {s t : State} (h : Frame L r s) (k : Frame L s t) : Frame L r t :=
  ⟨k.variant.trans h.variant, k.pending.trans h.pending,
   fun f i j b hn => ⟨(k.regs f i j b hn).1.trans (h.regs f i j b hn).1, (k.regs f i j b hn).2.trans (h.regs f i j b hn).2⟩,
   fun b i j h1 h2 => (k.ctr b i j h1 h2).trans (h.ctr b i j h1 h2),
   fun n => (k.resp n).trans (h.resp n), fun n => (k.cpl n).trans (h.cpl n), 
   fun n => (k.staged n).trans (h.staged n), 
   fun n => (k.parts n).trans (h.parts n), 
   fun n => (k.latch n).trans (h.latch n), 
   fun n => (k.stage n).trans (h.stage n), 
   fun n => (k.snap n).trans (h.snap n), 
   fun n => (k.sent n).trans (h.sent n), 
   fun n => (k.free n).trans (h.free n), 
   fun n => (k.dram n).trans (h.dram n), 
   fun n => (k.basin n).trans (h.basin n), 
   fun n => (k.flash n).trans (h.flash n), 
   fun n => (k.otp n).trans (h.otp n), 
   fun n => (k.pins n).trans (h.pins n), 
   fun n => (k.pot n).trans (h.pot n), 
   fun n => (k.inst n).trans (h.inst n), 
   fun n => (k.time n).trans (h.time n), 
   fun n => (k.events n).trans (h.events n), 
   fun n => (k.evSeq n).trans (h.evSeq n), 
   fun n => (k.faults n).trans (h.faults n), 
   fun n => (k.mem n).trans (h.mem n), 
   fun n => (k.rings n).trans (h.rings n), 
   fun n => (k.world n).trans (h.world n), 
   fun n => (k.gfx n).trans (h.gfx n), 
   fun n => (k.comp n).trans (h.comp n), 
   fun n => (k.heads n).trans (h.heads n), 
   fun n => (k.safe n).trans (h.safe n), 
   fun n => (k.links n).trans (h.links n), 
   fun n => (k.caps n).trans (h.caps n), 
   fun n => (k.pwr n).trans (h.pwr n), 
   fun n => (k.surf n).trans (h.surf n), 
   fun n => (k.hapt n).trans (h.hapt n), 
   fun n => (k.touch n).trans (h.touch n), 
   fun n => (k.audio n).trans (h.audio n), 
   fun n => (k.alarm n).trans (h.alarm n), 
   fun n => (k.ctl n).trans (h.ctl n)⟩

theorem Frame.refl {s : State} : Frame L s s :=
  ⟨rfl, rfl, fun _ _ _ _ _ => ⟨rfl, rfl⟩, fun _ _ _ _ _ => rfl, fun _ => rfl, fun _ => rfl, fun _ => rfl, fun _ => rfl, fun _ => rfl, fun _ => rfl, fun _ => rfl, fun _ => rfl, fun _ => rfl, fun _ => rfl, fun _ => rfl, fun _ => rfl, fun _ => rfl, fun _ => rfl, fun _ => rfl, fun _ => rfl, fun _ => rfl, fun _ => rfl, fun _ => rfl, fun _ => rfl, fun _ => rfl, fun _ => rfl, fun _ => rfl, fun _ => rfl, fun _ => rfl, fun _ => rfl, fun _ => rfl, fun _ => rfl, fun _ => rfl, fun _ => rfl, fun _ => rfl, fun _ => rfl, fun _ => rfl, fun _ => rfl, fun _ => rfl, fun _ => rfl⟩

/-- An update that only writes registers and counters. -/
theorem Frame.cells {s t : State} (h : Frame L r s) (e : { s with regs := t.regs, act := t.act, shadow := t.shadow, ctr := t.ctr } = t)
    (hr : ∀ f i j b, (∀ p ∈ L, ¬ p.hits f i j b) → t.rd f i j b = s.rd f i j b ∧ t.rdSh f i j b = s.rdSh f i j b)
    (hc : ∀ b i j, .ctr b ∉ L → .allCtr ∉ L → t.counter b i j = s.counter b i j) : Frame L r t :=
  h.trans ⟨by rw [← e], by rw [← e], hr, hc, fun _ => by rw [← e], fun _ => by rw [← e], fun _ => by rw [← e], fun _ => by rw [← e], fun _ => by rw [← e], fun _ => by rw [← e], fun _ => by rw [← e], fun _ => by rw [← e], fun _ => by rw [← e], fun _ => by rw [← e], fun _ => by rw [← e], fun _ => by rw [← e], fun _ => by rw [← e], fun _ => by rw [← e], fun _ => by rw [← e], fun _ => by rw [← e], fun _ => by rw [← e], fun _ => by rw [← e], fun _ => by rw [← e], fun _ => by rw [← e], fun _ => by rw [← e], fun _ => by rw [← e], fun _ => by rw [← e], fun _ => by rw [← e], fun _ => by rw [← e], fun _ => by rw [← e], fun _ => by rw [← e], fun _ => by rw [← e], fun _ => by rw [← e], fun _ => by rw [← e], fun _ => by rw [← e], fun _ => by rw [← e], fun _ => by rw [← e], fun _ => by rw [← e], fun _ => by rw [← e], fun _ => by rw [← e]⟩

/-- Whether a part is register fields. -/
def isReg : Piece → Bool
  | .fld _ | .reg _ _ | .err _ | .blk _ | .hdr | .allRegs => true
  | _ => false

/-- Whether a part is the counters of a page type. -/
def isCtr : Piece → Bool
  | .ctr _ => true
  | _ => false

/-- Every part of the first list lies within the parts of the second. -/
def Cov (T L : List Piece) : Prop :=
  ∀ p ∈ T, p ∈ L ∨ (isReg p = true ∧ ∀ f i j b, p.hits f i j b → ∃ q ∈ L, q.hits f i j b) ∨ (isCtr p = true ∧ .allCtr ∈ L)

theorem Cov.of_subset {T : List Piece} (h : T ⊆ L) : Cov T L := fun _ hp => .inl (h hp)
theorem Cov.refl : Cov L L := fun _ hp => .inl hp
theorem Cov.nil : Cov [] L := fun _ hp => absurd hp (by simp)

/-- The members of a list that a mask picks, bit by bit. -/
def pick : Nat → List Piece → List Piece
  | _, [] => []
  | m, p :: l => if m % 2 = 1 then p :: pick (m / 2) l else pick (m / 2) l

/-- The members that the mask does not pick. -/
def rest : Nat → List Piece → List Piece
  | _, [] => []
  | m, p :: l => if m % 2 = 1 then rest (m / 2) l else p :: rest (m / 2) l

theorem mem_pick {T : List Piece} {m : Nat} {p : Piece} (h : p ∈ pick m T) : p ∈ T := by
  induction T generalizing m with
  | nil => exact absurd h (by simp [pick])
  | cons q l ih =>
    unfold pick at h
    split at h
    · rcases List.mem_cons.1 h with h | h
      · simp [h]
      · simp [ih h]
    · simp [ih h]

theorem pick_or_rest {T : List Piece} {m : Nat} {p : Piece} (h : p ∈ T) : p ∈ pick m T ∨ p ∈ rest m T := by
  induction T generalizing m with
  | nil => exact absurd h (by simp)
  | cons q l ih =>
    unfold pick rest
    rcases List.mem_cons.1 h with h | h
    · subst h; split <;> simp
    · split <;> rcases ih h (m := m / 2) with k | k <;> simp [k]

theorem pick_sub {T U : List Piece} (m : Nat) (e : pick m T = U) (h : Cov T L) : Cov U L := by
  subst e
  exact fun p hp => h p (mem_pick hp)

theorem idx_sub {T U : List Piece} (is : List Nat) (e : is.map (fun k => T[k]?) = U.map some) (h : Cov T L) : Cov U L := by
  intro p hp
  have hm : some p ∈ is.map (fun k => T[k]?) := e ▸ List.mem_map.2 ⟨p, hp, rfl⟩
  obtain ⟨k, _, hk⟩ := List.mem_map.1 hm
  exact h p (List.mem_of_getElem? hk)

/-- Whether one of some coarse parts takes in a part. -/
def locOk (C : List Piece) : Piece → Bool
  | .fld g => C.elem .allRegs || (C.elem .hdr && decide (g.stride = 0) && decide (g.off < 0x100))
  | .reg b _ => C.elem .allRegs || C.elem (.blk b)
  | .err b => C.elem .allRegs || C.elem .hdr || C.elem (.blk b)
  | .blk _ => C.elem .allRegs
  | .hdr => C.elem .allRegs
  | .ctr _ => C.elem .allCtr
  | _ => false

/-- Every row of a page's table is of that page type. -/
theorem rows_blk {b : Blk} {i : Nat} : ∀ f ∈ pageRows b i, f.blk = b := by
  have hh : ∀ c : Blk, ∀ f ∈ hdrRows c, f.blk = c := by intro c; cases c <;> decide
  have hb : ∀ c : Blk, ∀ f ∈ blkRows c 0, f.blk = c := by intro c; cases c <;> decide
  intro f hf
  rcases List.mem_append.1 hf with h | h
  · exact hh b f h
  · have sub : f ∈ blkRows b 0 := by
      cases b <;> first | exact h | skip
      change f ∈ (if i % 2 = 0 then TOUCH.rows else TOUCH.rows.filter (fun f => decide (f.off < 0x200))) at h
      split at h
      · exact h
      · exact (List.mem_filter.1 h).1
    exact hb b f sub

/-- Every field of a register is of its page's type. -/
theorem parts_blk {b : Blk} {i off : Nat} : ∀ p ∈ partsAt b i off, p.fld.blk = b := by
  intro p hp
  obtain ⟨f, hf, e⟩ := List.mem_filterMap.1 hp
  obtain ⟨q, _, e⟩ := Option.map_eq_some_iff.1 e
  subst e
  exact rows_blk f hf

/-- A field at a register's cell is of the register's page type. -/
theorem reg_blk {b : Blk} {off : Nat} {f : Fld} {i j n : Nat} (h : (Piece.reg b off).hits f i j n) : f.blk = b := by
  obtain ⟨i', n', p, hp, e⟩ := h
  by_cases hb : f.blk = p.fld.blk
  · exact hb.trans (parts_blk p hp)
  · exact absurd e (key_ne_blk hb)

/-- Parts that all lie in coarse ones are covered where those are. -/
theorem cov_coarse {C U : List Piece} (e : U.all (locOk C) = true) (h : Cov C L) : Cov U L := by
  intro p hp
  have ok := List.all_eq_true.1 e p hp
  have reg : ∀ c : Piece, c ∈ C → isReg c = true → (∀ f i j b, p.hits f i j b → c.hits f i j b) →
      ∀ f i j b, p.hits f i j b → ∃ q ∈ L, q.hits f i j b := by
    intro c hc hr hh f i j b hp
    rcases h c hc with x | ⟨_, x⟩ | ⟨x, _⟩
    · exact ⟨c, x, hh f i j b hp⟩
    · exact x f i j b (hh f i j b hp)
    · cases c <;> simp [isReg, isCtr] at hr x
  cases p with
  | fld g =>
    refine .inr (.inl ⟨rfl, ?_⟩)
    simp only [locOk, Bool.or_eq_true, Bool.and_eq_true, List.elem_eq_mem, decide_eq_true_eq] at ok
    rcases ok with ok | ⟨⟨ok, hs⟩, ho⟩
    · exact reg _ ok rfl (fun _ _ _ _ _ => trivial)
    · refine reg _ ok rfl (fun f i j b hh => ?_)
      obtain ⟨i', j', b', e⟩ := hh
      have e := congrArg (· % 262144) e
      simp only [Fld.key, cell_mod, hs, Nat.zero_mul, Nat.add_zero] at e
      show (f.off + f.stride * j) % 4096 < 0x100
      omega
  | reg b off =>
    simp only [locOk, Bool.or_eq_true, List.elem_eq_mem, decide_eq_true_eq] at ok
    rcases ok with ok | ok
    · exact .inr (.inl ⟨rfl, reg _ ok rfl (fun _ _ _ _ _ => trivial)⟩)
    · exact .inr (.inl ⟨rfl, reg _ ok rfl (fun _ _ _ _ hh => reg_blk hh)⟩)
  | err b =>
    simp only [locOk, Bool.or_eq_true, List.elem_eq_mem, decide_eq_true_eq] at ok
    rcases ok with (ok | ok) | ok
    · exact .inr (.inl ⟨rfl, reg _ ok rfl (fun _ _ _ _ _ => trivial)⟩)
    · refine .inr (.inl ⟨rfl, reg _ ok rfl (fun f i j b hh => ?_)⟩)
      have h2 := hh.2.2
      show (f.off + f.stride * j) % 4096 < 0x100
      omega
    · exact .inr (.inl ⟨rfl, reg _ ok rfl (fun _ _ _ _ hh => hh.1)⟩)
  | blk _ =>
    simp only [locOk, List.elem_eq_mem, decide_eq_true_eq] at ok
    exact .inr (.inl ⟨rfl, reg _ ok rfl (fun _ _ _ _ _ => trivial)⟩)
  | hdr =>
    simp only [locOk, List.elem_eq_mem, decide_eq_true_eq] at ok
    exact .inr (.inl ⟨rfl, reg _ ok rfl (fun _ _ _ _ _ => trivial)⟩)
  | ctr _ =>
    simp only [locOk, List.elem_eq_mem, decide_eq_true_eq] at ok
    refine .inr (.inr ⟨rfl, ?_⟩)
    rcases h _ ok with x | ⟨x, _⟩ | ⟨x, _⟩
    · exact x
    · simp [isReg] at x
    · simp [isCtr] at x
  | _ => simp [locOk] at ok

/-- The parts that mask m picks lie in the coarse ones that mask k picks; the others are those that mask n picks. -/
theorem cov_loc {T U : List Piece} (k m n : Nat) (e1 : (pick m U).all (locOk (pick k T)) = true) (e2 : pick n T = rest m U) (h : Cov T L) :
    Cov U L := fun p hp =>
  (pick_or_rest hp (m := m)).elim (cov_coarse e1 (pick_sub k rfl h) p) (pick_sub n e2 h p)

/-- The same, with the others at the places listed. -/
theorem cov_loc_idx {T U : List Piece} (k m : Nat) (is : List Nat) (e1 : (pick m U).all (locOk (pick k T)) = true)
    (e2 : is.map (fun k => T[k]?) = (rest m U).map some) (h : Cov T L) : Cov U L := fun p hp =>
  (pick_or_rest hp (m := m)).elim (cov_coarse e1 (pick_sub k rfl h) p) (idx_sub is e2 h p)

theorem Frame.ite {c : Prop} [Decidable c] {a b : State} (ha : Frame L r a) (hb : Frame L r b) :
    Frame L r (if c then a else b) := by split <;> assumption

theorem Frame.dite {c : Prop} [Decidable c] {a : c → State} {b : ¬c → State} (ha : ∀ x, Frame L r (a x)) (hb : ∀ x, Frame L r (b x)) :
    Frame L r (if x : c then a x else b x) := by split <;> simp [*]

theorem FrameP.ite {c : Prop} [Decidable c] {a b : State × α} (ha : FrameP L r a) (hb : FrameP L r b) :
    FrameP L r (if c then a else b) := by split <;> assumption

theorem FrameP.dite {c : Prop} [Decidable c] {a : c → State × α} {b : ¬c → State × α} (ha : ∀ x, FrameP L r (a x)) (hb : ∀ x, FrameP L r (b x)) :
    FrameP L r (if x : c then a x else b x) := by split <;> simp [*]

theorem FrameR.ite {c : Prop} [Decidable c] {a b : α × State} (ha : FrameR L r a) (hb : FrameR L r b) :
    FrameR L r (if c then a else b) := by split <;> assumption

theorem FrameR.dite {c : Prop} [Decidable c] {a : c → α × State} {b : ¬c → α × State} (ha : ∀ x, FrameR L r (a x)) (hb : ∀ x, FrameR L r (b x)) :
    FrameR L r (if x : c then a x else b x) := by split <;> simp [*]

theorem FrameO.ite {c : Prop} [Decidable c] {a b : Option State} (ha : FrameO L r a) (hb : FrameO L r b) :
    FrameO L r (if c then a else b) := by split <;> assumption

theorem FrameO.dite {c : Prop} [Decidable c] {a : c → Option State} {b : ¬c → Option State} (ha : ∀ x, FrameO L r (a x)) (hb : ∀ x, FrameO L r (b x)) :
    FrameO L r (if x : c then a x else b x) := by split <;> simp [*]

theorem FrameOP.ite {c : Prop} [Decidable c] {a b : Option (State × α)} (ha : FrameOP L r a) (hb : FrameOP L r b) :
    FrameOP L r (if c then a else b) := by split <;> assumption

theorem FrameOP.dite {c : Prop} [Decidable c] {a : c → Option (State × α)} {b : ¬c → Option (State × α)} (ha : ∀ x, FrameOP L r (a x)) (hb : ∀ x, FrameOP L r (b x)) :
    FrameOP L r (if x : c then a x else b x) := by split <;> simp [*]

theorem FrameS.ite {c : Prop} [Decidable c] {a b : State ⊕ α} (ha : FrameS L r a) (hb : FrameS L r b) :
    FrameS L r (if c then a else b) := by split <;> assumption

theorem FrameS.dite {c : Prop} [Decidable c] {a : c → State ⊕ α} {b : ¬c → State ⊕ α} (ha : ∀ x, FrameS L r (a x)) (hb : ∀ x, FrameS L r (b x)) :
    FrameS L r (if x : c then a x else b x) := by split <;> simp [*]

theorem FrameC.ite {c : Prop} [Decidable c] {a b : Chk} (ha : FrameC L r a) (hb : FrameC L r b) :
    FrameC L r (if c then a else b) := by split <;> assumption

theorem FrameC.dite {c : Prop} [Decidable c] {a : c → Chk} {b : ¬c → Chk} (ha : ∀ x, FrameC L r (a x)) (hb : ∀ x, FrameC L r (b x)) :
    FrameC L r (if x : c then a x else b x) := by split <;> simp [*]

theorem FrameN.ite {c : Prop} [Decidable c] {a b : Out} (ha : FrameN L r a) (hb : FrameN L r b) :
    FrameN L r (if c then a else b) := by split <;> assumption

theorem FrameN.dite {c : Prop} [Decidable c] {a : c → Out} {b : ¬c → Out} (ha : ∀ x, FrameN L r (a x)) (hb : ∀ x, FrameN L r (b x)) :
    FrameN L r (if x : c then a x else b x) := by split <;> simp [*]

theorem Frame.foldl {f : State → β → State} {l : List β} {a : State} (ha : Frame L r a)
    (hf : ∀ t x, Frame L r t → Frame L r (f t x)) : Frame L r (l.foldl f a) := by
  induction l generalizing a with
  | nil => exact ha
  | cons x l ih => exact ih (hf _ _ ha)

theorem FrameP.foldl {f : State × α → β → State × α} {l : List β} {a : State × α} (ha : FrameP L r a)
    (hf : ∀ t x, FrameP L r t → FrameP L r (f t x)) : FrameP L r (l.foldl f a) := by
  induction l generalizing a with
  | nil => exact ha
  | cons x l ih => exact ih (hf _ _ ha)

theorem FrameR.foldl {f : α × State → β → α × State} {l : List β} {a : α × State} (ha : FrameR L r a)
    (hf : ∀ t x, FrameR L r t → FrameR L r (f t x)) : FrameR L r (l.foldl f a) := by
  induction l generalizing a with
  | nil => exact ha
  | cons x l ih => exact ih (hf _ _ ha)

theorem FrameOP.foldl {f : Option (State × α) → β → Option (State × α)} {l : List β} {a : Option (State × α)} (ha : FrameOP L r a)
    (hf : ∀ t x, FrameOP L r t → FrameOP L r (f t x)) : FrameOP L r (l.foldl f a) := by
  induction l generalizing a with
  | nil => exact ha
  | cons x l ih => exact ih (hf _ _ ha)

theorem FrameO.foldl {f : Option State → β → Option State} {l : List β} {a : Option State} (ha : FrameO L r a)
    (hf : ∀ t x, FrameO L r t → FrameO L r (f t x)) : FrameO L r (l.foldl f a) := by
  induction l generalizing a with
  | nil => exact ha
  | cons x l ih => exact ih (hf _ _ ha)

theorem FrameS.foldl {f : State ⊕ α → β → State ⊕ α} {l : List β} {a : State ⊕ α} (ha : FrameS L r a)
    (hf : ∀ t x, FrameS L r t → FrameS L r (f t x)) : FrameS L r (l.foldl f a) := by
  induction l generalizing a with
  | nil => exact ha
  | cons x l ih => exact ih (hf _ _ ha)

theorem FrameC.foldl {f : Chk → β → Chk} {l : List β} {a : Chk} (ha : FrameC L r a)
    (hf : ∀ t x, FrameC L r t → FrameC L r (f t x)) : FrameC L r (l.foldl f a) := by
  induction l generalizing a with
  | nil => exact ha
  | cons x l ih => exact ih (hf _ _ ha)

theorem FrameM.mk {s : State} {a n} (h : Frame L r s) : FrameM L r ⟨s, a, n⟩ := h
theorem FrameM.st {m : MixAcc} (h : FrameM L r m) : Frame L r m.st := h
theorem FrameM.ite {c : Prop} [Decidable c] {a b : MixAcc} (ha : FrameM L r a) (hb : FrameM L r b) :
    FrameM L r (if c then a else b) := by split <;> assumption
theorem FrameM.foldl {f : MixAcc → β → MixAcc} {l : List β} {a : MixAcc} (ha : FrameM L r a)
    (hf : ∀ t x, FrameM L r t → FrameM L r (f t x)) : FrameM L r (l.foldl f a) := by
  induction l generalizing a with
  | nil => exact ha
  | cons x l ih => exact ih (hf _ _ ha)
theorem FrameP.mk {s : State} {x : α} (h : Frame L r s) : FrameP L r (s, x) := h
theorem FrameP.fst {p : State × α} (h : FrameP L r p) : Frame L r p.1 := h
theorem FrameP.eq {p : State × α} {t x} (e : p = (t, x)) (h : FrameP L r p) : Frame L r t := by subst e; exact h
theorem FrameR.mk {s : State} {x : α} (h : Frame L r s) : FrameR L r (x, s) := h
theorem FrameR.snd {p : α × State} (h : FrameR L r p) : Frame L r p.2 := h
theorem FrameR.eq {p : α × State} {t x} (e : p = (x, t)) (h : FrameR L r p) : Frame L r t := by subst e; exact h
theorem FrameO.none : FrameO L r none := fun t h => absurd h (by simp)
theorem FrameO.some {s : State} (h : Frame L r s) : FrameO L r (some s) := fun _ e => Option.some.inj e ▸ h
theorem FrameO.eq {o : Option State} {t} (e : o = Option.some t) (h : FrameO L r o) : Frame L r t := h _ e
theorem FrameO.getD {o : Option State} {t} (h : FrameO L r o) (ht : Frame L r t) : Frame L r (o.getD t) := by
  cases o with
  | none => exact ht
  | some x => exact h x rfl
theorem FrameOP.none : FrameOP L r (none : Option (State × α)) := fun t h => absurd h (by simp)
theorem FrameOP.some {p : State × α} (h : FrameP L r p) : FrameOP L r (some p) := fun _ e => Option.some.inj e ▸ h
theorem FrameOP.eq {o : Option (State × α)} {t x} (e : o = Option.some (t, x)) (h : FrameOP L r o) : Frame L r t := h _ e
theorem FrameOP.eq' {o : Option (State × α)} {t} (e : o = Option.some t) (h : FrameOP L r o) : FrameP L r t := h _ e
theorem FrameS.inl {s : State} (h : Frame L r s) : FrameS L r (.inl s : State ⊕ α) := fun _ e => Sum.inl.inj e ▸ h
theorem FrameS.inr {x : α} : FrameS L r (.inr x : State ⊕ α) := fun t h => absurd h (by simp)
theorem FrameS.eq {o : State ⊕ α} {t} (e : o = .inl t) (h : FrameS L r o) : Frame L r t := h _ e
theorem FrameC.good {s : State} (h : Frame L r s) : FrameC L r (.good s) :=
  ⟨fun _ e => Chk.good.inj e ▸ h, fun t e => absurd e (by simp)⟩
theorem FrameC.bad {s : State} (h : Frame L r s) : FrameC L r (.bad s) :=
  ⟨fun t e => absurd e (by simp), fun _ e => Chk.bad.inj e ▸ h⟩
theorem FrameC.eqGood {c : Chk} {t} (e : c = .good t) (h : FrameC L r c) : Frame L r t := h.1 _ e
theorem FrameC.eqBad {c : Chk} {t} (e : c = .bad t) (h : FrameC L r c) : Frame L r t := h.2 _ e
theorem FrameN.next {s : State} (h : Frame L r s) : FrameN L r (.next s) := fun _ e => Host.Outcome.next.inj e ▸ h

end Sys2Proof.Laws
end

