-- ==== Sys2Proof/Laws/FrameOps.lean ====
section
/-! SUPPORT. What the operations that write registers, counters and memories leave unchanged. -/

set_option Elab.async false

namespace Sys2Proof.Laws

open Machine

variable {L : List Piece} {r s : State}

theorem nth {T : List Piece} {p : Piece} (n : Nat) (e : T[n]? = some p) (h : Cov T L) (hp : (isReg p || isCtr p) = false := by rfl) : p ∈ L := by
  simp only [Bool.or_eq_false_iff] at hp
  rcases h p (List.mem_of_getElem? e) with x | ⟨x, _⟩ | ⟨x, _⟩
  · exact x
  · rw [hp.1] at x; exact absurd x (by simp)
  · rw [hp.2] at x; exact absurd x (by simp)

/-- A cell that no listed part takes in is none of a register part within the list. -/
theorem no_hit {T : List Piece} {p : Piece} {f : Fld} {i j b : Nat} (hT : Cov T L) (hm : p ∈ T) (hr : isReg p = true) (h : ∀ p ∈ L, ¬ p.hits f i j b) :
    ¬ p.hits f i j b := fun e => by
  rcases hT p hm with x | ⟨_, x⟩ | ⟨x, _⟩
  · exact h _ x e
  · obtain ⟨q, hq, hh⟩ := x f i j b e; exact h _ hq hh
  · cases p <;> simp [isReg, isCtr] at hr x

/-- A field that no listed part takes in is at other cells than a listed field. -/
theorem key_ne_of {T : List Piece} {f g : Fld} {i j b i' j' b' : Nat} (hT : Cov T L) (hm : .fld f ∈ T) (h : ∀ p ∈ L, ¬ p.hits g i' j' b') :
    f.key i j b ≠ g.key i' j' b' := fun e => no_hit hT hm rfl h ⟨i, j, b, e.symm⟩

theorem wr_frame {f v i j b} (h_s : Frame L r s) (hT : Cov [.fld f] L) : Frame L r (s.wr f v i j b) := by
  refine h_s.trans (Frame.cells Frame.refl ?_ (fun g i' j' b' h => ⟨rd_wr_ne (key_ne_of hT (by simp) h), rdSh_wr⟩) (fun _ _ _ _ _ => counter_wr))
  unfold State.wr; split <;> rfl

theorem wrSh_frame {f v i j b} (h_s : Frame L r s) (hT : Cov [.fld f] L) : Frame L r (s.wrSh f v i j b) :=
  h_s.trans (Frame.cells Frame.refl rfl (fun _ _ _ _ h => ⟨rd_wrSh, rdSh_wrSh_ne (key_ne_of hT (by simp) h)⟩) (fun _ _ _ _ _ => rfl))

theorem ctrKey_ne {b c : Blk} {i j n m : Nat} (h : b ≠ c) : ctrKey (b.page i) n ≠ ctrKey (c.page j) m := by
  have := page_ne (i := i) (i' := j) h
  unfold ctrKey; omega

theorem count_frame {b i j n} (h_s : Frame L r s) (hT : Cov [.ctr b] L) : Frame L r (s.count b i j n) := by
  refine h_s.trans (Frame.cells Frame.refl rfl (fun _ _ _ _ _ => ⟨rfl, rfl⟩) (fun c i' j' h ha => ?_))
  by_cases e : b = c
  · subst e; rcases hT (.ctr b) (by simp) with x | ⟨x, _⟩ | ⟨_, x⟩
    · exact absurd x h
    · simp [isReg] at x
    · exact absurd x ha
  · exact counter_count_ne (ctrKey_ne e)

/-! ### Updates of whole pages -/

theorem mget_filter {V : Type} {m : SMap V} {p : Nat × V → Bool} {k : Nat} {d : V} (h : ∀ v, p (k, v) = true) :
    mget (m.filter p) k d = mget m k d := by
  induction m with
  | nil => rfl
  | cons e t ih =>
    by_cases he : e.1 = k
    · have : p e = true := by rw [← he] at h; exact h e.2
      simp [this, mget_cons, he]
    · by_cases hp : p e = true <;> simp [hp, mget_cons, he, ih]

theorem mget_append {V : Type} {m n : SMap V} {k : Nat} {d : V} (h : ∀ e ∈ m, e.1 ≠ k) : mget (m ++ n) k d = mget n k d := by
  induction m with
  | nil => rfl
  | cons e t ih => simp [mget_cons, h e (by simp), ih (fun f hf => h f (by simp [hf]))]

theorem mget_append_left {V : Type} {m n : SMap V} {k : Nat} {d : V} (h : ∀ e ∈ n, e.1 ≠ k) : mget (m ++ n) k d = mget m k d := by
  induction m with
  | nil => simpa using mget_append (n := []) h
  | cons e t ih => simp only [List.cons_append, mget_cons, ih]

theorem mget_mreplace {V : Type} {m src : SMap V} {lo hi k : Nat} {d : V} (h : k < lo ∨ hi ≤ k) (hl : lo ≤ hi) :
    mget (mreplace m src lo hi) k d = mget m k d := by
  unfold mreplace mslice
  rcases h with h | h
  · rw [mget_append_left (by intro e he; simp at he; omega), mget_append_left (by intro e he; simp at he; omega),
      mget_filter (by intro v; simpa using h)]
  · rw [mget_append (by intro e he; simp at he; omega), mget_filter (by intro v; simpa using h)]

theorem mget_mput {V : Type} {m : SMap V} {k j : Nat} {v d : V} (h : k ≠ j) : mget (mput m k v) j d = mget m j d := by
  induction m with
  | nil => simp [mput, mget_cons, h]
  | cons e t ih =>
    unfold mput
    split
    · simp [mget_cons, h]
    · split
      · rename_i _ he; simp [mget_cons, h, he]
      · simp [mget_cons, ih]

/-- The cells of a field of another page type lie outside a page. -/
theorem key_out {f : Fld} {b : Blk} {i j k n : Nat} (h : f.blk ≠ b) :
    f.key i j k < pageLo (b.page n) ∨ pageLo (b.page n + 1) ≤ f.key i j k := by
  have e := cell_page (f.blk.page i) k (f.off + f.stride * j) f.lo
  have p := page_ne (i := i) (i' := n) h
  unfold Fld.key
  generalize cell (f.blk.page i) k (f.off + f.stride * j) f.lo = c at e
  unfold pageLo cell
  omega

theorem pageLo_le {p : Nat} : pageLo p ≤ pageLo (p + 1) := by unfold pageLo cell; omega

theorem inPage_out {f : Fld} {b : Blk} {i j k n lo hi : Nat} (h : f.blk ≠ b) : inPage (b.page n) lo hi (f.key i j k) = false := by
  unfold inPage
  rcases key_out (i := i) (j := j) (k := k) (n := n) h with h | h
  · simp; omega
  · simp; omega

/-- A field whose page type is not listed. -/
theorem blk_ne {T : List Piece} {f : Fld} {b : Blk} {i j k : Nat} (hT : Cov T L) (hm : .blk b ∈ T) (h : ∀ p ∈ L, ¬ p.hits f i j k) : f.blk ≠ b :=
  no_hit hT hm rfl h

theorem mget_dropOffs {m : SMap Nat} {f : Fld} {b : Blk} {i j k n lo hi d : Nat} (h : f.blk ≠ b) :
    mget (dropOffs m (b.page n) lo hi) (f.key i j k) d = mget m (f.key i j k) d := mget_filter (by intro v; simp [inPage_out h])

/-- The part of a page reset that registers and counters see. -/
def resetCells (s : State) (lo hi : Nat) : State :=
  { s with
    regs := mdrop s.regs (pageLo lo) (pageLo hi)
    act := mdrop s.act (pageLo lo) (pageLo hi)
    shadow := mdrop s.shadow (pageLo lo) (pageLo hi)
    ctr := mdrop s.ctr (ctrKey lo 0) (ctrKey hi 0) }

theorem resetPages_frame {lo hi} (h_s : Frame L r s) (hT : Cov [.allRegs, .allCtr, .staged, .latch, .stage, .snap] L) :
    Frame L r (s.resetPages lo hi) := by
  have h1 : Frame L s (resetCells s lo hi) :=
    Frame.cells Frame.refl rfl (fun _ _ _ _ h => absurd trivial (no_hit (p := .allRegs) hT (by simp) rfl h)) (fun _ _ _ _ h => absurd (nth 1 rfl hT) h)
  exact (h_s.trans h1).trans (Frame.upd (s := resetCells s lo hi) Frame.refl (m_staged := .inl (nth 2 rfl hT)) (m_latch := .inl (nth 3 rfl hT))
    (m_stage := .inl (nth 4 rfl hT)) (m_snap := .inl (nth 5 rfl hT)))

theorem stageSet_frame {b i} (h_s : Frame L r s) (hT : Cov [.staged, .fld (HDR.dirty b)] L) : Frame L r (s.stageSet b i) :=
  wr_frame (Frame.upd h_s (m_staged := .inl (nth 0 rfl hT))) (pick_sub 2 rfl hT)

theorem revertSet_frame {b i} (h_s : Frame L r s) (hT : Cov [.blk b] L) : Frame L r (s.revertSet b i) := by
  refine h_s.trans (Frame.cells Frame.refl (by unfold State.revertSet State.wr; split <;> rfl) (fun f i' j' b' h => ?_) (fun _ _ _ _ _ => by
    unfold State.revertSet; rw [counter_wr]; rfl))
  have hb : f.blk ≠ b := blk_ne hT (by simp) h
  unfold State.revertSet
  rw [rd_wr_ne (key_ne_blk (show (HDR.dirty b).blk ≠ f.blk from fun e => hb e.symm)), rdSh_wr]
  exact ⟨rfl, mget_mreplace (key_out hb) pageLo_le⟩

theorem applyPart_frame {b i p} (h_s : Frame L r s) (hT : Cov [.blk b] L) : Frame L r (s.applyPart b i p) := by
  refine h_s.trans (Frame.cells Frame.refl rfl (fun f i' j' b' h => ⟨?_, rfl⟩) (fun _ _ _ _ _ => rfl))
  have hb : f.blk ≠ b := blk_ne hT (by simp) h
  have ho := key_out (i := i') (j := j') (k := b') (n := i) hb
  unfold State.applyPart State.rd
  dsimp only
  split
  · have fold : ∀ (l m : SMap Nat) d, (∀ e ∈ l, e.1 ≠ f.key i' j' b') →
        mget (l.foldl (fun m e => mput m e.1 e.2) m) (f.key i' j' b') d = mget m (f.key i' j' b') d := by
      intro l
      induction l with
      | nil => intro m d _; rfl
      | cons e t ih =>
        intro m d hl
        rw [List.foldl_cons, ih _ _ (fun x hx => hl x (by simp [hx])), mget_mput (hl e (by simp))]
    rw [fold, mget_filter]
    · intro v; simp; omega
    · intro e he; simp at he; omega
  · rfl

theorem discardSet_frame {b i} (h_s : Frame L r s) (hT : Cov [.blk b, .staged, .parts] L) : Frame L r (s.discardSet b i) := by
  let s0 : State := { s with staged := dropOffs s.staged (b.page i) 0x100 0x800, parts := mset s.parts (b.page i) 0 0 }
  have h0 : Frame L r s0 := Frame.upd h_s (m_staged := .inl (nth 1 rfl hT)) (m_parts := .inl (nth 2 rfl hT))
  refine h0.trans (Frame.cells Frame.refl (by unfold State.discardSet State.wr; split <;> rfl) (fun f i' j' b' h => ?_)
    (fun _ _ _ _ _ => by unfold State.discardSet; simp only [counter_wr]; rfl))
  have hb : f.blk ≠ b := blk_ne hT (by simp) h
  unfold State.discardSet
  simp only [rdSh_wr]
  rw [rd_wr_ne (key_ne_blk (show (HDR.pending b).blk ≠ f.blk from fun e => hb e.symm))]
  exact ⟨rfl, rfl⟩

theorem softRegs_frame {b i} (h_s : Frame L r s) (hT : Cov [.blk b, .staged, .parts] L) : Frame L r (s.softRegs b i) := by
  refine (discardSet_frame (i := i) h_s hT).trans (Frame.cells Frame.refl (by unfold State.softRegs State.wr; (repeat' split) <;> rfl)
    (fun f i' j' b' h => ?_) (fun _ _ _ _ _ => by unfold State.softRegs; simp only [counter_wr]; rfl))
  have hb : f.blk ≠ b := blk_ne hT (by simp) h
  unfold State.softRegs
  simp only [rdSh_wr]
  rw [rd_wr_ne (key_ne_blk (show (HDR.dirty b).blk ≠ f.blk from fun e => hb e.symm)),
    rd_wr_ne (key_ne_blk (show (HDR.group b).blk ≠ f.blk from fun e => hb e.symm))]
  refine ⟨?_, mget_dropOffs hb⟩
  unfold State.rd
  dsimp only
  split <;> exact mget_dropOffs hb

/-- Registers of the pages of one type forgotten. -/
theorem drop_frame {b n lo hi} (h_s : Frame L r s) (hT : Cov [.blk b] L) : Frame L r { s with regs := dropOffs s.regs (b.page n) lo hi } := by
  refine h_s.trans (Frame.cells Frame.refl rfl (fun f i' j' b' h => ⟨?_, rfl⟩) (fun _ _ _ _ _ => rfl))
  have hb : f.blk ≠ b := blk_ne hT (by simp) h
  unfold State.rd
  dsimp only
  split
  · rfl
  · exact mget_dropOffs hb

theorem ctlReset_frame {c} (h_s : Frame L r s) (hT : Cov [.blk .gpio, .ctl] L) : Frame L r (s.ctlReset c) :=
  Frame.upd (drop_frame h_s (pick_sub 1 rfl hT)) (m_ctl := .inl (nth 1 rfl hT))

theorem pinClear_frame {i} (h_s : Frame L r s) (hT : Cov [.blk .gpio, .blk .enc, .ctr .enc, .ctl] L) : Frame L r (s.pinClear i) := by
  have wrb : ∀ {t : State} {f : Fld} {v i j b}, Frame L r t → .blk f.blk ∈ [.blk .gpio, .blk .enc, .ctr .enc, Piece.ctl] → Frame L r (t.wr f v i j b) := by
    intro t f v i j b h hm
    refine h.trans (Frame.cells Frame.refl (by unfold State.wr; split <;> rfl)
      (fun g i' j' b' hg => ⟨rd_wr_ne (key_ne_blk (fun e => blk_ne hT hm hg e.symm)), rdSh_wr⟩) (fun _ _ _ _ _ => counter_wr))
  unfold State.pinClear
  split
  · refine drop_frame ?_ (pick_sub 1 rfl hT)
    split
    · exact ctlReset_frame h_s (pick_sub 9 rfl hT)
    · exact h_s
  · split
    · refine wrb (wrb (wrb ?_ (by decide)) (by decide)) (by decide)
      refine (drop_frame (b := .enc) (n := 0) (lo := 0x100 + 16 * (i - 48)) (hi := 0x110 + 16 * (i - 48)) h_s (pick_sub 2 rfl hT)).trans
        (Frame.cells Frame.refl rfl (fun _ _ _ _ _ => ⟨rfl, rfl⟩) (fun c n m hc ha => ?_))
      have hb : Blk.enc ≠ c := fun e => by
        rcases hT (.ctr .enc) (by simp) with x | ⟨x, _⟩ | ⟨_, x⟩
        · exact hc (e ▸ x)
        · simp [isReg] at x
        · exact ha x
      exact mget_mset_ne (ctrKey_ne hb)
    · exact wrb (drop_frame h_s (pick_sub 1 rfl hT)) (by decide)

theorem storeWord_frame {b i off v} (h_s : Frame L r s) (hT : Cov [.fld (HDR.dirty b), .reg b off] L) : Frame L r (s.storeWord b i off v) := by
  have one : ∀ {t : State} {p : Part} {x n}, Frame L r t → p ∈ partsAt b i off → Frame L r (t.wr p.fld x i p.elt n) := by
    intro t p x n h hp
    refine h.trans (Frame.cells Frame.refl (by unfold State.wr; split <;> rfl)
      (fun g i' j' b' hg => ⟨rd_wr_ne (fun e => no_hit (p := .reg b off) hT (by simp) rfl hg ⟨i, n, p, hp, e.symm⟩), rdSh_wr⟩)
      (fun _ _ _ _ _ => counter_wr))
  have oneSh : ∀ {t : State} {p : Part} {x n}, Frame L r t → p ∈ partsAt b i off → Frame L r (t.wrSh p.fld x i p.elt n) := by
    intro t p x n h hp
    exact h.trans (Frame.cells Frame.refl rfl
      (fun _ _ _ _ hg => ⟨rfl, rdSh_wrSh_ne (fun e => no_hit (p := .reg b off) hT (by simp) rfl hg ⟨i, n, p, hp, e.symm⟩)⟩) (fun _ _ _ _ _ => rfl))
  unfold State.storeWord
  dsimp only
  generalize s.bankAt b i off = bank
  have fold : ∀ (l : List Part) (t : State), (∀ p ∈ l, p ∈ partsAt b i off) → Frame L r t →
      Frame L r (l.foldl (fun t p =>
        match p.fld.acc with
        | .rw => t.wr p.fld (t.partNew p i bank v) i p.elt bank
        | .rws => (t.wrSh p.fld (t.partNew p i bank v) i p.elt bank).wr (HDR.dirty b) 1 i
        | .w1c => t.wr p.fld ((t.partNow p i bank &&& (2 ^ 32 - 1 - v) &&& p.bits) >>> p.fld.lo) i p.elt bank
        | .w1s => t.wr p.fld ((t.partNow p i bank ||| (v &&& p.bits)) >>> p.fld.lo) i p.elt bank
        | _ => t) t) := by
    intro l
    induction l with
    | nil => exact fun _ _ h => h
    | cons p l ih =>
      intro t hl ht
      refine ih _ (fun q hq => hl q (by simp [hq])) ?_
      have hp := hl p (by simp)
      dsimp only
      split
      · exact one ht hp
      · exact wr_frame (oneSh ht hp) (pick_sub 1 rfl hT)
      · exact one ht hp
      · exact one ht hp
      · exact ht
  exact fold _ s (fun _ h => h) h_s

/-- Interrupt messages of an event. -/
theorem irqEdge_frame {o : State} {n} (h_s : Frame L r s) (hT : Cov [.sent] L) : Frame L r (s.irqEdge o n) := by
  have nt : ∀ {t : State} {k a}, Frame L r t → Frame L r (t.notify k a) := by
    intro t k a h
    unfold State.notify
    split
    · exact Frame.upd h (m_sent := .inl (nth 0 rfl hT))
    · split
      · split <;> exact Frame.upd h (m_sent := .inl (nth 0 rfl hT))
      · exact h
  unfold State.irqEdge
  split
  · exact nt h_s
  · exact h_s

theorem raise_frame {b i n} (h_s : Frame L r s) (hT : Cov [.fld (HDR.ev_raw b), .sent] L) : Frame L r (s.raise b i n) :=
  irqEdge_frame (wr_frame h_s (pick_sub 1 rfl hT)) (pick_sub 2 rfl hT)

/-- An error record and its event (R59). -/
theorem recErr_frame {b i c w a} (h_s : Frame L r s) (hT : Cov [.err b, .fld (HDR.ev_raw b), .sent] L) : Frame L r (s.recErr b i c w a) := by
  have one : ∀ {t : State} {f : Fld} {x}, Frame L r t → f.blk = b → 0x28 ≤ f.off % 4096 ∧ f.off % 4096 < 0x30 ∧ f.stride = 0 →
      Frame L r (t.wr f x i) := by
    intro t f x h hb hf
    refine h.trans (Frame.cells Frame.refl (by unfold State.wr; split <;> rfl)
      (fun g i' j' b' hg => ⟨rd_wr_ne (fun e => ?_), rdSh_wr⟩) (fun _ _ _ _ _ => counter_wr))
    have hk : g.blk = b := by
      by_cases hk : f.blk = g.blk
      · exact hk ▸ hb
      · exact absurd e (key_ne_blk hk)
    refine no_hit (p := .err b) hT (by simp) rfl hg ⟨hk, ?_⟩
    have e := congrArg (· % 262144) e
    simp only [Fld.key, cell_mod, hf.2.2, Nat.zero_mul, Nat.add_zero] at e
    omega
  unfold State.recErr
  dsimp only
  refine raise_frame ?_ (pick_sub 6 rfl hT)
  split
  · exact one h_s rfl (by simp [HDR.err_count])
  · refine one (one (one (one (one (one (one h_s ?_ ?_) ?_ ?_) ?_ ?_) ?_ ?_) ?_ ?_) ?_ ?_) ?_ ?_ <;>
      first | rfl | simp [HDR.err_valid, HDR.err_internal, HDR.err_requester, HDR.err_count, HDR.err_code, HDR.err_addr, HDR.err_req_id]

/-! ### Memories -/

theorem setByte_frame {a x} (h_s : Frame L r s) (hT : Cov [.dram] L) : Frame L r (s.setByte a x) := Frame.upd h_s (m_dram := .inl (nth 0 rfl hT))

theorem wrBytes_frame {a d} (h_s : Frame L r s) (hT : Cov [.dram] L) : Frame L r (s.wrBytes a d) := by
  induction d generalizing s a with
  | nil => exact h_s
  | cons x t ih => exact ih (setByte_frame h_s hT)

theorem basinWrite_frame {a d} (h_s : Frame L r s) (hT : Cov [.basin] L) : Frame L r (s.basinWrite a d) := by
  induction d generalizing s a with
  | nil => exact h_s
  | cons x t ih => exact ih (Frame.upd h_s (m_basin := .inl (nth 0 rfl hT)))

end Sys2Proof.Laws
end

