-- ==== Sys2Proof/Laws/Apart.lean ====
section
/-! SUPPORT. Reading a field after an operation that may not change it: a test on the parts an operation may change, and the read it gives. -/

set_option Elab.async false

namespace Sys2Proof.Laws

open Machine

/-- Whether places o + n * k of a page may be place p, for some k: a test that only says no where there is none. -/
def meets (p o n : Nat) : Bool := if n = 0 then p == o % 4096 else if 4096 % n = 0 then p % n == o % n else true

/-- Whether a part may take in element j of a field: a test that only says no where it does not. -/
def mayHit (f : Fld) (j : Nat) : Piece → Bool
  | .fld g => g.blk == f.blk && g.lo % 64 == f.lo % 64 && meets ((f.off + f.stride * j) % 4096) g.off g.stride
  | .err b => b == f.blk && decide (0x28 ≤ (f.off + f.stride * j) % 4096) && decide ((f.off + f.stride * j) % 4096 < 0x30)
  | .reg b _ => b == f.blk
  | .blk b => b == f.blk
  | .hdr => decide ((f.off + f.stride * j) % 4096 < 0x100)
  | .allRegs => true
  | _ => false

theorem not_hits {f : Fld} {i j b : Nat} {p : Piece} (h : mayHit f j p = false) : ¬ p.hits f i j b := by
  intro hh
  cases p with
  | fld g =>
    obtain ⟨i', j', b', e⟩ := hh
    have hb : g.blk = f.blk := by
      by_cases hb : f.blk = g.blk
      · exact hb.symm
      · exact absurd e (key_ne_blk hb)
    have e := congrArg (· % 262144) e
    simp only [Fld.key, cell_mod] at e
    have hl : g.lo % 64 = f.lo % 64 := by omega
    have hp : (f.off + f.stride * j) % 4096 = (g.off + g.stride * j') % 4096 := by omega
    simp only [mayHit, hb, hl, beq_self_eq_true, Bool.true_and, meets] at h
    split at h
    · rename_i hs; simp [hs] at hp; simp [hp] at h
    · split at h
      · rename_i hs hd
        have hd : g.stride ∣ 4096 := Nat.dvd_of_mod_eq_zero hd
        have : (f.off + f.stride * j) % 4096 % g.stride = g.off % g.stride := by
          rw [hp, Nat.mod_mod_of_dvd _ hd, Nat.add_mul_mod_self_left]
        simp [this] at h
      · simp at h
  | reg b' off =>
    have hb := reg_blk hh
    simp [mayHit, hb] at h
  | err b' =>
    obtain ⟨hb, h1, h2⟩ := hh
    simp [mayHit, hb] at h
    omega
  | blk b' =>
    have hb : f.blk = b' := hh
    simp [mayHit, hb] at h
  | hdr =>
    have hb : (f.off + f.stride * j) % 4096 < 0x100 := hh
    simp [mayHit] at h
    omega
  | allRegs => simp [mayHit] at h
  | _ => exact hh

/-- A field apart from all the parts an operation may change reads as before. -/
theorem rd_apart {T : List Piece} {s t : State} {f : Fld} {i j b : Nat} (h : Frame T s t) (e : T.any (mayHit f j) = false) :
    t.rd f i j b = s.rd f i j b :=
  (h.regs f i j b (fun p hp => not_hits (by simpa using (List.any_eq_false.1 e) p hp))).1

/-- So does its shadow. -/
theorem rdSh_apart {T : List Piece} {s t : State} {f : Fld} {i j b : Nat} (h : Frame T s t) (e : T.any (mayHit f j) = false) :
    t.rdSh f i j b = s.rdSh f i j b :=
  (h.regs f i j b (fun p hp => not_hits (by simpa using (List.any_eq_false.1 e) p hp))).2

end Sys2Proof.Laws
end

