-- ==== Sys2Proof/Laws/FrameCells.lean ====
section
/-! SUPPORT. What the operations and commands of Machine/Ops.lean may change: the parts of each, and that nothing else changes. -/

set_option Elab.async false

namespace Sys2Proof.Laws

open Machine

/-- What State.errResp may change. -/
def errResp_T : List Piece :=
  [.resp]

theorem errResp_frame {LL rr s} (h_s : Frame LL rr s) (hT : Cov errResp_T LL) :
    Frame LL rr (State.errResp s) := by
  delta State.errResp
  exact Frame.upd h_s (m_resp := .inl (nth 0 rfl hT))

/-- What State.okResp may change. -/
def okResp_T : List Piece :=
  [.resp]

theorem okResp_frame {LL rr s data} (h_s : Frame LL rr s) (hT : Cov okResp_T LL) :
    Frame LL rr (State.okResp s data) := by
  delta State.okResp
  exact Frame.upd h_s (m_resp := .inl (nth 0 rfl hT))

/-- What State.wrB may change. -/
def wrB_T (f : Fld) : List Piece :=
  [.fld f]

theorem wrB_frame {LL rr s f v i j b} (h_s : Frame LL rr s) (hT : Cov (wrB_T f) LL) :
    Frame LL rr (State.wrB s f v i j b) := by
  delta State.wrB
  exact wr_frame h_s (pick_sub 0x1 rfl hT)

/-- What State.wrReg may change. -/
def wrReg_T (f : Fld) : List Piece :=
  [.fld f]

theorem wrReg_frame {LL rr s f v i j b} (h_s : Frame LL rr s) (hT : Cov (wrReg_T f) LL) :
    Frame LL rr (State.wrReg s f v i j b) := by
  delta State.wrReg
  exact Frame.ite (wrSh_frame h_s (pick_sub 0x1 rfl hT)) (wr_frame h_s (pick_sub 0x1 rfl hT))

end Sys2Proof.Laws
end

