-- ==== Sys2Proof/Laws/FrameFlags.lean ====
section
/-! SUPPORT. What the operations and commands of Machine/Flags.lean may change: the parts of each, and that nothing else changes. -/

set_option Elab.async false

namespace Sys2Proof.Laws

open Machine

/-- What State.refuse may change. -/
def refuse_T (b : Blk) : List Piece :=
  [.err b, .fld (HDR.ev_raw b), .resp, .sent]

theorem refuse_frame {LL rr s b i code rid addr} (h_s : Frame LL rr s) (hT : Cov (refuse_T b) LL) :
    Frame LL rr (State.refuse s b i code rid addr) := by
  delta State.refuse
  exact errResp_frame (recErr_frame h_s (pick_sub 0xb rfl hT)) (pick_sub 0x4 rfl hT)

/-- What State.commitDone may change. -/
def commitDone_T (b : Blk) : List Piece :=
  [.fld (HDR.commit_seq b), .fld (HDR.ev_raw b), .fld (HDR.pending b), .sent, .staged]

theorem commitDone_frame {LL rr s b i} (h_s : Frame LL rr s) (hT : Cov (commitDone_T b) LL) :
    Frame LL rr (State.commitDone s b i) := by
  delta State.commitDone
  extract_lets s1_1 s2_2 s3_3
  have h_s1_1 : Frame LL rr s1_1 := by
      unfold s1_1
      exact Frame.upd h_s (m_staged := .inl (nth 4 rfl hT))
  have h_s2_2 : Frame LL rr s2_2 := by
      unfold s2_2
      exact wr_frame h_s1_1 (pick_sub 0x4 rfl hT)
  have h_s3_3 : Frame LL rr s3_3 := by
      unfold s3_3
      exact wr_frame h_s2_2 (pick_sub 0x1 rfl hT)
  clear_value s1_1 s2_2 s3_3
  exact raise_frame h_s3_3 (pick_sub 0xa rfl hT)

/-- What State.applySet may change. -/
def applySet_T (b : Blk) : List Piece :=
  [.blk b, .fld (HDR.commit_seq b), .fld (HDR.ev_raw b), .fld (HDR.pending b), .sent, .staged]

theorem applySet_frame {LL rr s b i} (h_s : Frame LL rr s) (hT : Cov (applySet_T b) LL) :
    Frame LL rr (State.applySet s b i) := by
  delta State.applySet
  exact commitDone_frame (applyPart_frame h_s (pick_sub 0x1 rfl hT)) (pick_sub 0x3e rfl hT)

/-- What State.notify may change. -/
def notify_T : List Piece :=
  [.sent]

theorem notify_frame {LL rr s o add} (h_s : Frame LL rr s) (hT : Cov notify_T LL) :
    Frame LL rr (State.notify s o add) := by
  delta State.notify
  exact Frame.ite (Frame.upd h_s (m_sent := .inl (nth 0 rfl hT))) (Frame.ite (by
      split
      · exact Frame.upd h_s (m_sent := .inl (nth 0 rfl hT))
      · exact Frame.upd h_s (m_sent := .inl (nth 0 rfl hT))) h_s)

end Sys2Proof.Laws
end

