-- ==== Sys2Proof/Laws/FrameOperands.lean ====
section
/-! SUPPORT. What the operations and commands of Machine/Operands.lean may change: the parts of each, and that nothing else changes. -/

set_option Elab.async false

namespace Sys2Proof.Laws

open Machine

theorem Chk_andThen_frame {LL rr c k} (h_c : FrameC LL rr c) (h_k : ∀ y0, Frame LL rr y0 → Frame LL rr (k y0)) :
    Frame LL rr (Chk.andThen c k) := by
  delta Chk.andThen
  split
  · have h3 := FrameC.eqBad (L := LL) (r := rr) rfl h_c
    exact h3
  · have h6 := FrameC.eqGood (L := LL) (r := rr) rfl h_c
    exact h_k _ h6

/-- What State.potRefuse may change. -/
def potRefuse_T : List Piece :=
  [.ctr .pot, .err .pot, .fld (HDR.ev_raw .pot), .resp, .sent]

theorem potRefuse_frame {LL rr s code rid addr} (h_s : Frame LL rr s) (hT : Cov potRefuse_T LL) :
    Frame LL rr (State.potRefuse s code rid addr) := by
  delta State.potRefuse
  extract_lets c_1
  exact errResp_frame (raise_frame (count_frame (recErr_frame h_s (pick_sub 0x16 rfl hT)) (pick_sub 0x1 rfl hT)) (pick_sub 0x14 rfl hT)) (pick_sub 0x8 rfl hT)

/-- What State.reach may change. -/
def reach_T (b : Blk) : List Piece :=
  [.ctr .pot, .err .pot, .err b, .fld (HDR.ev_raw .pot), .fld (HDR.ev_raw b), .resp, .sent]

theorem reach_frame {LL rr s w b i off write} (h_s : Frame LL rr s) (hT : Cov (reach_T b) LL) :
    FrameC LL rr (State.reach s w b i off write) := by
  delta State.reach
  exact FrameC.ite (FrameC.bad (errResp_frame h_s (pick_sub 0x20 rfl hT))) (by
      split
      · exact FrameC.good h_s
      · exact FrameC.good h_s
      · exact FrameC.ite (FrameC.good h_s) (FrameC.bad (errResp_frame h_s (pick_sub 0x20 rfl hT)))
      · exact FrameC.ite (FrameC.good h_s) (FrameC.bad (errResp_frame h_s (pick_sub 0x20 rfl hT)))
      · split
        · exact FrameC.bad (potRefuse_frame h_s (pick_sub 0x6b rfl hT))
        · exact FrameC.ite (FrameC.bad (potRefuse_frame h_s (pick_sub 0x6b rfl hT))) (FrameC.ite (FrameC.bad (errResp_frame h_s (pick_sub 0x20 rfl hT))) (FrameC.ite (FrameC.bad (refuse_frame h_s (pick_sub 0x74 rfl hT))) (FrameC.ite (FrameC.bad (refuse_frame h_s (pick_sub 0x74 rfl hT))) (FrameC.good h_s)))))

/-- What State.checkWord may change. -/
def checkWord_T (b : Blk) : List Piece :=
  [.err b, .fld (HDR.ev_raw b), .resp, .sent]

theorem checkWord_frame {LL rr s w b i off v} (h_s : Frame LL rr s) (hT : Cov (checkWord_T b) LL) :
    FrameC LL rr (State.checkWord s w b i off v) := by
  delta State.checkWord
  split
  · exact FrameC.bad (refuse_frame h_s (pick_sub 0xf rfl hT))
  · extract_lets t_6
    have h_t_6 : Frame LL rr t_6 := by
        unfold t_6
        exact okResp_frame (Frame.ite (recErr_frame h_s (pick_sub 0xb rfl hT)) h_s) (pick_sub 0x4 rfl hT)
    clear_value t_6
    exact FrameC.ite (FrameC.good h_t_6) (FrameC.bad h_t_6)

/-- What State.checkWrite may change. -/
def checkWrite_T (b : Blk) : List Piece :=
  [.ctr .pot, .err .pot, .err b, .fld (HDR.ev_raw .pot), .fld (HDR.ev_raw b), .resp, .sent]

theorem checkWrite_frame {LL rr s w b i off v} (h_s : Frame LL rr s) (hT : Cov (checkWrite_T b) LL) :
    FrameC LL rr (State.checkWrite s w b i off v) := by
  delta State.checkWrite
  split
  · rename_i a3
    have h4 := FrameC.eqBad (L := LL) (r := rr) a3 (reach_frame h_s (pick_sub 0x7f rfl hT))
    exact FrameC.bad h4
  · rename_i a7
    have h8 := FrameC.eqGood (L := LL) (r := rr) a7 (reach_frame h_s (pick_sub 0x7f rfl hT))
    exact FrameC.ite (FrameC.bad (refuse_frame h_s (pick_sub 0x74 rfl hT))) (FrameC.ite (FrameC.bad (refuse_frame h_s (pick_sub 0x74 rfl hT))) (FrameC.ite (FrameC.bad (refuse_frame h_s (pick_sub 0x74 rfl hT))) (FrameC.ite (FrameC.bad (refuse_frame h_s (pick_sub 0x74 rfl hT))) (checkWord_frame h_s (pick_sub 0x74 rfl hT)))))

/-- What State.breakKick may change. -/
def breakKick_T : List Piece :=
  [.world]

theorem breakKick_frame {LL rr s b off} (h_s : Frame LL rr s) (hT : Cov breakKick_T LL) :
    Frame LL rr (State.breakKick s b off) := by
  delta State.breakKick
  exact Frame.ite (Frame.upd h_s (m_world := .inl (nth 0 rfl hT))) h_s

/-- What State.onWrite may change. -/
def onWrite_T (b : Blk) : List Piece :=
  [.ctr .pot, .err .pot, .err b, .fld (HDR.ev_raw .pot), .fld (HDR.ev_raw b), .resp, .sent, .world]

theorem onWrite_frame {LL rr s w b i off v k} (h_s : Frame LL rr s) (h_k : ∀ y0, Frame LL rr y0 → Frame LL rr (k y0)) (hT : Cov (onWrite_T b) LL) :
    Frame LL rr (State.onWrite s w b i off v k) := by
  delta State.onWrite
  exact Chk_andThen_frame (checkWrite_frame h_s (pick_sub 0x7f rfl hT)) (fun t1 h2 => h_k _ (breakKick_frame h2 (pick_sub 0x80 rfl hT)))

end Sys2Proof.Laws
end

