-- ==== Sys2Proof/Laws/FrameReports.lean ====
section
/-! SUPPORT. What the operations and commands of Machine/Reports.lean may change: the parts of each, and that nothing else changes. -/

set_option Elab.async false

namespace Sys2Proof.Laws

open Machine

/-- What State.faultLine may change. -/
def faultLine_T : List Piece :=
  [.faults]

theorem faultLine_frame {LL rr s code b i heads} (h_s : Frame LL rr s) (hT : Cov faultLine_T LL) :
    Frame LL rr (State.faultLine s code b i heads) := by
  delta State.faultLine
  exact Frame.upd h_s (m_faults := .inl (nth 0 rfl hT))

/-- What State.event may change. -/
def event_T : List Piece :=
  [.evSeq, .events]

theorem event_frame {LL rr s recipient b i code detail} (h_s : Frame LL rr s) (hT : Cov event_T LL) :
    Frame LL rr (State.event s recipient b i code detail) := by
  delta State.event
  extract_lets o_1
  exact Frame.ite (Frame.upd h_s (m_events := .inl (nth 1 rfl hT)) (m_evSeq := .inl (nth 0 rfl hT))) h_s

/-- What State.eventPage may change. -/
def eventPage_T : List Piece :=
  [.evSeq, .events]

theorem eventPage_frame {LL rr s b i code unit val} (h_s : Frame LL rr s) (hT : Cov eventPage_T LL) :
    Frame LL rr (State.eventPage s b i code unit val) := by
  delta State.eventPage
  exact event_frame h_s (pick_sub 0x3 rfl hT)

/-- What State.eventHead may change. -/
def eventHead_T : List Piece :=
  [.evSeq, .events]

theorem eventHead_frame {LL rr s h b i code unit val} (h_s : Frame LL rr s) (hT : Cov eventHead_T LL) :
    Frame LL rr (State.eventHead s h b i code unit val) := by
  delta State.eventHead
  exact Frame.foldl h_s (fun t1 x2 h3 => event_frame h3 (pick_sub 0x3 rfl hT))

end Sys2Proof.Laws
end

