-- ==== Sys2Proof/Laws/FrameMem.lean ====
section
/-! SUPPORT. What the operations and commands of Machine/Mem.lean may change: the parts of each, and that nothing else changes. -/

set_option Elab.async false

namespace Sys2Proof.Laws

open Machine

/-- What State.memRecord may change. -/
def memRecord_T : List Piece :=
  [.ctr .dram, .ctr .pot, .err .dram, .err .pot, .fld (HDR.ev_raw .dram), .fld (HDR.ev_raw .pot), .sent]

theorem memRecord_frame {LL rr s q r} (h_s : Frame LL rr s) (hT : Cov memRecord_T LL) :
    Frame LL rr (State.memRecord s q r) := by
  delta State.memRecord
  exact Frame.ite (Frame.ite (count_frame (recErr_frame h_s (pick_sub 0x54 rfl hT)) (pick_sub 0x1 rfl hT)) h_s) (by
      extract_lets s1_1 c_2
      have h_s1_1 : Frame LL rr s1_1 := by
          unfold s1_1
          exact recErr_frame h_s (pick_sub 0x68 rfl hT)
      clear_value s1_1
      exact Frame.ite h_s1_1 (raise_frame (count_frame h_s1_1 (pick_sub 0x2 rfl hT)) (pick_sub 0x60 rfl hT)))

/-- What State.clearPoison may change. -/
def clearPoison_T : List Piece :=
  [.mem]

theorem clearPoison_frame {LL rr s a len} (h_s : Frame LL rr s) (hT : Cov clearPoison_T LL) :
    Frame LL rr (State.clearPoison s a len) := by
  delta State.clearPoison
  extract_lets lo_1 hi_2 u_3
  exact Frame.ite (Frame.upd h_s (m_mem := .inl (nth 0 rfl hT))) h_s

/-- What State.store may change. -/
def store_T : List Piece :=
  [.dram, .mem]

theorem store_frame {LL rr s a d} (h_s : Frame LL rr s) (hT : Cov store_T LL) :
    Frame LL rr (State.store s a d) := by
  delta State.store
  exact clearPoison_frame (wrBytes_frame h_s (pick_sub 0x1 rfl hT)) (pick_sub 0x2 rfl hT)

/-- What State.wrMem may change. -/
def wrMem_T : List Piece :=
  [.dram]

theorem wrMem_frame {LL rr s a n v} (h_s : Frame LL rr s) (hT : Cov wrMem_T LL) :
    Frame LL rr (State.wrMem s a n v) := by
  delta State.wrMem
  exact wrBytes_frame h_s (pick_sub 0x1 rfl hT)

/-- What State.setPotEntry may change. -/
def setPotEntry_T : List Piece :=
  [.dram]

theorem setPotEntry_frame {LL rr s pfn e} (h_s : Frame LL rr s) (hT : Cov setPotEntry_T LL) :
    Frame LL rr (State.setPotEntry s pfn e) := by
  delta State.setPotEntry
  exact wrMem_frame h_s (pick_sub 0x1 rfl hT)

/-- What State.zeroPage may change. -/
def zeroPage_T : List Piece :=
  [.dram, .mem]

theorem zeroPage_frame {LL rr s pfn} (h_s : Frame LL rr s) (hT : Cov zeroPage_T LL) :
    Frame LL rr (State.zeroPage s pfn) := by
  delta State.zeroPage
  exact Frame.upd h_s (m_dram := .inl (nth 0 rfl hT)) (m_mem := .inl (nth 1 rfl hT))

end Sys2Proof.Laws
end

