-- ==== Sys2Proof/Laws/FrameTraffic.lean ====
section
/-! SUPPORT. What the operations and commands of Machine/Traffic.lean may change: the parts of each, and that nothing else changes. -/

set_option Elab.async false

namespace Sys2Proof.Laws

open Machine

/-- What State.portDrop may change. -/
def portDrop_T : List Piece :=
  [.pot]

theorem portDrop_frame {LL rr s p} (h_s : Frame LL rr s) (hT : Cov portDrop_T LL) :
    Frame LL rr (State.portDrop s p) := by
  delta State.portDrop
  exact Frame.upd h_s (m_pot := .inl (nth 0 rfl hT))

/-- What State.portSettle may change. -/
def portSettle_T : List Piece :=
  [.pot]

theorem portSettle_frame {LL rr s p} (h_s : Frame LL rr s) (hT : Cov portSettle_T LL) :
    Frame LL rr (State.portSettle s p) := by
  delta State.portSettle
  exact Frame.ite (portDrop_frame h_s (pick_sub 0x1 rfl hT)) h_s

/-- What State.groupIn may change. -/
def groupIn_T : List Piece :=
  [.pot]

theorem groupIn_frame {LL rr s p g} (h_s : Frame LL rr s) (hT : Cov groupIn_T LL) :
    Frame LL rr (State.groupIn s p g) := by
  delta State.groupIn
  exact Frame.ite h_s (Frame.upd h_s (m_pot := .inl (nth 0 rfl hT)))

/-- What State.walk may change. -/
def walk_T : List Piece :=
  [.ctr .pot, .pot]

theorem walk_frame {LL rr s0 p pfn} (h_s0 : Frame LL rr s0) (hT : Cov walk_T LL) :
    Frame LL rr (State.walk s0 p pfn) := by
  delta State.walk
  extract_lets s_1 c_2 used_3 t_4 new_5 fresh_6
  have h_t : Frame LL rr t_4 := by
      unfold t_4 s_1
      exact groupIn_frame (portSettle_frame h_s0 (pick_sub 0x2 rfl hT)) (pick_sub 0x2 rfl hT)
  clear_value t_4
  exact Frame.ite (Frame.upd h_t (m_pot := .inl (nth 1 rfl hT))) (count_frame (Frame.upd h_t (m_pot := .inl (nth 1 rfl hT))) (pick_sub 0x1 rfl hT))

/-- What State.bucketTake may change. -/
def bucketTake_T : List Piece :=
  [.mem]

theorem bucketTake_frame {LL rr s k port} (h_s : Frame LL rr s) (hT : Cov bucketTake_T LL) :
    Frame LL rr (State.bucketTake s k port) := by
  delta State.bucketTake
  exact Frame.upd h_s (m_mem := .inl (nth 0 rfl hT))

/-- What State.classify may change. -/
def classify_T : List Piece :=
  [.mem]

theorem classify_frame {LL rr s port rid write critical} (h_s : Frame LL rr s) (hT : Cov classify_T LL) :
    FrameR LL rr (State.classify s port rid write critical) := by
  delta State.classify
  extract_lets cls_1 crit_2
  exact FrameR.ite (FrameR.mk (bucketTake_frame h_s (pick_sub 0x1 rfl hT))) (FrameR.ite (FrameR.mk (bucketTake_frame h_s (pick_sub 0x1 rfl hT))) (FrameR.mk h_s))

/-- What State.rowLeave may change. -/
def rowLeave_T : List Piece :=
  [.mem]

theorem rowLeave_frame {LL rr s pa port hint} (h_s : Frame LL rr s) (hT : Cov rowLeave_T LL) :
    Frame LL rr (State.rowLeave s pa port hint) := by
  delta State.rowLeave
  extract_lets row_1 u_2
  exact Frame.upd h_s (m_mem := .inl (nth 0 rfl hT))

/-- What State.issueCmd may change. -/
def issueCmd_T : List Piece :=
  [.mem]

theorem issueCmd_frame {LL rr s n op rank line data} (h_s : Frame LL rr s) (hT : Cov issueCmd_T LL) :
    Frame LL rr (State.issueCmd s n op rank line data) := by
  delta State.issueCmd
  extract_lets old_1 t_2 all_3 u_4
  exact Frame.upd h_s (m_mem := .inl (nth 0 rfl hT))

/-- What State.lineCmds may change. -/
def lineCmds_T : List Piece :=
  [.mem]

theorem lineCmds_frame {LL rr s pa write data} (h_s : Frame LL rr s) (hT : Cov lineCmds_T LL) :
    Frame LL rr (State.lineCmds s pa write data) := by
  delta State.lineCmds
  extract_lets n_1 line_2 t_3 s1_4
  have h_t_3 : Frame LL rr t_3 := by
      unfold t_3
      exact Frame.ite (issueCmd_frame h_s (pick_sub 0x1 rfl hT)) h_s
  have h_s1_4 : Frame LL rr s1_4 := by
      unfold s1_4
      exact Frame.ite h_s (issueCmd_frame h_t_3 (pick_sub 0x1 rfl hT))
  clear_value t_3 s1_4
  exact Frame.ite (Frame.foldl h_s1_4 (fun t5 x6 h7 => issueCmd_frame h7 (pick_sub 0x1 rfl hT))) (issueCmd_frame h_s1_4 (pick_sub 0x1 rfl hT))

/-- What State.lineGo may change. -/
def lineGo_T : List Piece :=
  [.ctr .dram, .ctr .dramq, .mem]

theorem lineGo_frame {LL rr s port hint pa write data} (h_s : Frame LL rr s) (hT : Cov lineGo_T LL) :
    Frame LL rr (State.lineGo s port hint pa write data) := by
  delta State.lineGo
  extract_lets n_1 s1_2
  have h_s1_2 : Frame LL rr s1_2 := by
      unfold s1_2
      exact count_frame (count_frame (count_frame h_s (pick_sub 0x2 rfl hT)) (pick_sub 0x1 rfl hT)) (pick_sub 0x1 rfl hT)
  clear_value s1_2
  exact rowLeave_frame (lineCmds_frame h_s1_2 (pick_sub 0x4 rfl hT)) (pick_sub 0x4 rfl hT)

/-- What State.carry may change. -/
def carry_T : List Piece :=
  [.ctr .dram, .ctr .dramq, .ctr .pot, .mem, .pot]

theorem carry_frame {LL rr s q write a len} (h_s : Frame LL rr s) (hT : Cov carry_T LL) :
    Frame LL rr (State.carry s q write a len) := by
  delta State.carry
  extract_lets s1_1
  have h_s1_1 : Frame LL rr s1_1 := by
      unfold s1_1
      exact Frame.foldl h_s (fun t2 x3 h4 => Frame.ite (walk_frame h4 (pick_sub 0x14 rfl hT)) h4)
  clear_value s1_1
  exact Frame.foldl h_s1_1 (fun t5 x6 h7 => by
      extract_lets u_8 u1_9
      have h_u_8 : Frame LL rr u_8 := by
          unfold u_8
          exact FrameR.snd (classify_frame h7 (pick_sub 0x8 rfl hT))
      have h_u1_9 : Frame LL rr u1_9 := by
          unfold u1_9
          exact Frame.ite (lineGo_frame h_u_8 (pick_sub 0xb rfl hT)) h_u_8
      clear_value u_8 u1_9
      exact lineGo_frame h_u1_9 (pick_sub 0xb rfl hT))

/-- What State.fetched may change. -/
def fetched_T : List Piece :=
  [.ctr .dram, .ctr .dramq, .ctr .pot, .mem, .pot]

theorem fetched_frame {LL rr s q a len} (h_s : Frame LL rr s) (hT : Cov fetched_T LL) :
    Frame LL rr (State.fetched s q a len) := by
  delta State.fetched
  exact carry_frame h_s (pick_sub 0x1f rfl hT)

/-- What State.put may change. -/
def put_T : List Piece :=
  [.ctr .dram, .ctr .dramq, .ctr .pot, .dram, .mem, .pot]

theorem put_frame {LL rr s q a d} (h_s : Frame LL rr s) (hT : Cov put_T LL) :
    Frame LL rr (State.put s q a d) := by
  delta State.put
  exact carry_frame (store_frame h_s (pick_sub 0x18 rfl hT)) (pick_sub 0x37 rfl hT)

/-- What State.bucketFill may change. -/
def bucketFill_T : List Piece :=
  [.mem]

theorem bucketFill_frame {LL rr s k} (h_s : Frame LL rr s) (hT : Cov bucketFill_T LL) :
    Frame LL rr (State.bucketFill s k) := by
  delta State.bucketFill
  exact Frame.upd h_s (m_mem := .inl (nth 0 rfl hT))

/-- What State.bucketSettle may change. -/
def bucketSettle_T : List Piece :=
  [.mem]

theorem bucketSettle_frame {LL rr s k} (h_s : Frame LL rr s) (hT : Cov bucketSettle_T LL) :
    Frame LL rr (State.bucketSettle s k) := by
  delta State.bucketSettle
  exact Frame.upd h_s (m_mem := .inl (nth 0 rfl hT))

/-- What State.tryStore may change. -/
def tryStore_T : List Piece :=
  [.ctr .dram, .ctr .dramq, .ctr .pot, .dram, .err .dram, .err .pot, .fld (HDR.ev_raw .dram), .fld (HDR.ev_raw .pot), .mem, .pot, .sent]

theorem tryStore_frame {LL rr s q a d} (h_s : Frame LL rr s) (hT : Cov tryStore_T LL) :
    FrameP LL rr (State.tryStore s q a d) := by
  delta State.tryStore
  split
  · exact FrameP.mk (memRecord_frame h_s (pick_sub 0x4f5 rfl hT))
  · exact FrameP.mk (put_frame h_s (pick_sub 0x30f rfl hT))

end Sys2Proof.Laws
end

