-- ==== Sys2Proof/Laws/FrameRings.lean ====
section
/-! SUPPORT. What the operations and commands of Machine/Rings.lean may change: the parts of each, and that nothing else changes. -/

set_option Elab.async false

namespace Sys2Proof.Laws

open Machine

/-- What State.setRing may change. -/
def setRing_T : List Piece :=
  [.rings]

theorem setRing_frame {LL rr s r c} (h_s : Frame LL rr s) (hT : Cov setRing_T LL) :
    Frame LL rr (State.setRing s r c) := by
  delta State.setRing
  exact Frame.upd h_s (m_rings := .inl (nth 0 rfl hT))

/-- What State.tryDisable may change. -/
def tryDisable_T : List Piece :=
  [.fld RSCHED.PIN_COUNT.pinned, .rings]

theorem tryDisable_frame {LL rr s r} (h_s : Frame LL rr s) (hT : Cov tryDisable_T LL) :
    Frame LL rr (State.tryDisable s r) := by
  delta State.tryDisable
  extract_lets c_1 s1_2
  have h_s1_2 : Frame LL rr s1_2 := by
      unfold s1_2
      exact Frame.ite (wr_frame h_s (pick_sub 0x1 rfl hT)) h_s
  clear_value s1_2
  exact Frame.ite (setRing_frame h_s1_2 (pick_sub 0x2 rfl hT)) h_s

/-- What State.setJob may change. -/
def setJob_T : List Piece :=
  [.rings]

theorem setJob_frame {LL rr s cls n j} (h_s : Frame LL rr s) (hT : Cov setJob_T LL) :
    Frame LL rr (State.setJob s cls n j) := by
  delta State.setJob
  exact Frame.upd h_s (m_rings := .inl (nth 0 rfl hT))

/-- What State.record may change. -/
def record_T : List Piece :=
  [.rings]

theorem record_frame {LL rr s r kind final partly seq code detail info} (h_s : Frame LL rr s) (hT : Cov record_T LL) :
    Frame LL rr (State.record s r kind final partly seq code detail info) := by
  delta State.record
  extract_lets c_1 u_2
  exact Frame.upd h_s (m_rings := .inl (nth 0 rfl hT))

/-- What State.endUnstarted may change. -/
def endUnstarted_T : List Piece :=
  [.rings]

theorem endUnstarted_frame {LL rr s r code info} (h_s : Frame LL rr s) (hT : Cov endUnstarted_T LL) :
    Frame LL rr (State.endUnstarted s r code info) := by
  delta State.endUnstarted
  extract_lets c_1 s1_2 u_3
  have h_s1_2 : Frame LL rr s1_2 := by
      unfold s1_2
      exact record_frame h_s (pick_sub 0x1 rfl hT)
  clear_value s1_2
  exact setRing_frame h_s1_2 (pick_sub 0x1 rfl hT)

/-- What State.fenceTest may change. -/
def fenceTest_T : List Piece :=
  [.ctr .dram, .ctr .dramq, .ctr .pot, .err .dram, .err .pot, .fld (HDR.ev_raw .dram), .fld (HDR.ev_raw .pot), .mem, .pot, .sent]

theorem fenceTest_frame {LL rr s q f v} (h_s : Frame LL rr s) (hT : Cov fenceTest_T LL) :
    FrameP LL rr (State.fenceTest s q f v) := by
  delta State.fenceTest
  exact FrameP.ite (FrameP.mk h_s) (FrameP.ite (FrameP.mk h_s) (by
      split
      · exact FrameP.mk (memRecord_frame h_s (pick_sub 0x27d rfl hT))
      · exact FrameP.mk (fetched_frame h_s (pick_sub 0x187 rfl hT))))

/-- What State.settle may change. -/
def settle_T : List Piece :=
  [.ctr .dram, .ctr .dramq, .ctr .pot, .ctr .rsched, .err .dram, .err .pot, .fld (HDR.ev_raw .dram), .fld (HDR.ev_raw .pot), .mem, .pot, .rings,
   .sent]

theorem settle_frame {LL rr p0 p1 p2} (h_p1 : Frame LL rr p1) (hT : Cov settle_T LL) :
    Frame LL rr (State.settle p0 p1 p2) := by
  induction p0 generalizing p1 p2
  · unfold State.settle
    exact h_p1
  · rename_i m ih
    unfold State.settle
    extract_lets c_1 u_2 asked_3 s0_4 c_5 s1_6
    have h_s0_4 : Frame LL rr s0_4 := by
        unfold s0_4
        exact Frame.ite h_p1 (count_frame h_p1 (pick_sub 0x8 rfl hT))
    have h_s1_6 : Frame LL rr s1_6 := by
        unfold s1_6
        exact setRing_frame h_s0_4 (pick_sub 0x400 rfl hT)
    clear_value s0_4 s1_6
    exact Frame.ite h_p1 (by
        split
        · exact h_p1
        · exact Frame.ite (ih (endUnstarted_frame h_p1 (pick_sub 0x400 rfl hT))) (Frame.ite h_p1 (by
              split
              · exact setRing_frame h_p1 (pick_sub 0x400 rfl hT)
              · exact Frame.ite (setRing_frame h_s0_4 (pick_sub 0x400 rfl hT)) (by
                    split
                    · rename_i a27
                      have h28 := FrameP.eq (L := LL) (r := rr) a27 (fenceTest_frame h_s1_6 (pick_sub 0xbf7 rfl hT))
                      exact setRing_frame h28 (pick_sub 0x400 rfl hT)
                    · rename_i a31
                      have h32 := FrameP.eq (L := LL) (r := rr) a31 (fenceTest_frame h_s1_6 (pick_sub 0xbf7 rfl hT))
                      exact setRing_frame h32 (pick_sub 0x400 rfl hT)
                    · rename_i a39
                      have h40 := FrameP.eq (L := LL) (r := rr) a39 (fenceTest_frame h_s1_6 (pick_sub 0xbf7 rfl hT))
                      exact ih (endUnstarted_frame h40 (pick_sub 0x400 rfl hT))))))

/-- What State.endJob may change. -/
def endJob_T : List Piece :=
  [.fld RSCHED.PIN_COUNT.pinned, .rings]

theorem endJob_frame {LL rr s r kind quiet partly seq code detail info} (h_s : Frame LL rr s) (hT : Cov endJob_T LL) :
    Frame LL rr (State.endJob s r kind quiet partly seq code detail info) := by
  delta State.endJob
  extract_lets s1_1 c_2
  have h_s1_1 : Frame LL rr s1_1 := by
      unfold s1_1
      exact Frame.ite h_s (record_frame h_s (pick_sub 0x2 rfl hT))
  clear_value s1_1
  exact tryDisable_frame (setRing_frame h_s1_1 (pick_sub 0x2 rfl hT)) (pick_sub 0x3 rfl hT)

/-- What State.dropWait may change. -/
def dropWait_T : List Piece :=
  [.rings]

theorem dropWait_frame {LL rr s key} (h_s : Frame LL rr s) (hT : Cov dropWait_T LL) :
    Frame LL rr (State.dropWait s key) := by
  delta State.dropWait
  exact Frame.upd h_s (m_rings := .inl (nth 0 rfl hT))

/-- What State.testWait may change. -/
def testWait_T : List Piece :=
  [.ctr .dram, .ctr .dramq, .ctr .pot, .err .dram, .err .pot, .fld (HDR.ev_raw .dram), .fld (HDR.ev_raw .pot), .mem, .pot, .sent]

theorem testWait_frame {LL rr s w} (h_s : Frame LL rr s) (hT : Cov testWait_T LL) :
    FrameP LL rr (State.testWait s w) := by
  delta State.testWait
  exact FrameP.ite (FrameP.mk h_s) (by
      split
      · rename_i a4
        have h5 := FrameP.eq (L := LL) (r := rr) a4 (fenceTest_frame h_s (pick_sub 0x3ff rfl hT))
        exact FrameP.mk h5
      · rename_i a11
        have h12 := FrameP.eq (L := LL) (r := rr) a11 (fenceTest_frame h_s (pick_sub 0x3ff rfl hT))
        exact FrameP.mk h12)

/-- What State.rewait may change. -/
def rewait_T : List Piece :=
  [.ctr .dram, .ctr .dramq, .ctr .pot, .ctr .rsched, .err .dram, .err .pot, .fld (HDR.ev_raw .dram), .fld (HDR.ev_raw .pot), .mem, .pot, .rings,
   .sent]

theorem rewait_frame {LL rr s p} (h_s : Frame LL rr s) (hT : Cov rewait_T LL) :
    Frame LL rr (State.rewait s p) := by
  delta State.rewait
  extract_lets hit_1 s1_2
  have h_s1_2 : Frame LL rr s1_2 := by
      unfold s1_2
      exact Frame.foldl h_s (fun t3 x4 h5 => settle_frame h5 (pick_sub 0xfff rfl hT))
  clear_value s1_2
  exact Frame.foldl h_s1_2 (fun t6 x7 h8 => Frame.ite (by
      extract_lets r_9 u_10 u_11
      have h_r_9 : FrameP LL rr r_9 := by
          unfold r_9
          exact testWait_frame h8 (pick_sub 0xbf7 rfl hT)
      have h_u_10 : Frame LL rr u_10 := by
          unfold u_10
          exact FrameP.fst h_r_9
      clear_value r_9 u_10
      exact Frame.upd h_u_10 (m_rings := .inl (nth 10 rfl hT))) h8)

/-- What State.addWait may change. -/
def addWait_T : List Piece :=
  [.ctr .dram, .ctr .dramq, .ctr .pot, .ctr .rsched, .err .dram, .err .pot, .fld (HDR.ev_raw .dram), .fld (HDR.ev_raw .pot), .mem, .pot, .rings,
   .sent]

theorem addWait_frame {LL rr s key rid f v} (h_s : Frame LL rr s) (hT : Cov addWait_T LL) :
    Frame LL rr (State.addWait s key rid f v) := by
  delta State.addWait
  extract_lets w_1 s1_2 r_3 u_4 u_5
  have h_s1_2 : Frame LL rr s1_2 := by
      unfold s1_2
      exact count_frame h_s (pick_sub 0x8 rfl hT)
  have h_r_3 : FrameP LL rr r_3 := by
      unfold r_3
      exact FrameP.ite (FrameP.mk h_s1_2) (testWait_frame h_s1_2 (pick_sub 0xbf7 rfl hT))
  have h_u_4 : Frame LL rr u_4 := by
      unfold u_4
      exact FrameP.fst h_r_3
  clear_value s1_2 r_3 u_4
  exact Frame.upd h_u_4 (m_rings := .inl (nth 10 rfl hT))

/-- What State.takeEntry may change. -/
def takeEntry_T : List Piece :=
  [.ctr .dram, .ctr .dramq, .ctr .pot, .ctr .rsched, .err .dram, .err .pot, .fld (HDR.ev_raw .dram), .fld (HDR.ev_raw .pot), .mem, .pot, .rings,
   .sent]

theorem takeEntry_frame {LL rr s r} (h_s : Frame LL rr s) (hT : Cov takeEntry_T LL) :
    FrameOP LL rr (State.takeEntry s r) := by
  delta State.takeEntry
  extract_lets c_1 u_2
  split
  · exact FrameOP.ite (FrameOP.some (FrameP.mk (settle_frame (setRing_frame h_s (pick_sub 0x400 rfl hT)) (pick_sub 0xfff rfl hT)))) FrameOP.none
  · exact FrameOP.none

/-- What State.fenceSignal may change. -/
def fenceSignal_T : List Piece :=
  [.ctr .dram, .ctr .dramq, .ctr .pot, .dram, .err .dram, .err .pot, .fld (HDR.ev_raw .dram), .fld (HDR.ev_raw .pot), .mem, .pot, .sent]

theorem fenceSignal_frame {LL rr s q f v} (h_s : Frame LL rr s) (hT : Cov fenceSignal_T LL) :
    FrameP LL rr (State.fenceSignal s q f v) := by
  delta State.fenceSignal
  exact FrameP.ite (FrameP.mk h_s) (by
      split
      · rename_i a4
        have h5 := FrameP.eq (L := LL) (r := rr) a4 (tryStore_frame h_s (pick_sub 0x7ff rfl hT))
        exact FrameP.mk h5
      · rename_i a8
        have h9 := FrameP.eq (L := LL) (r := rr) a8 (tryStore_frame h_s (pick_sub 0x7ff rfl hT))
        exact FrameP.mk h9)

/-- What State.signal may change. -/
def signal_T : List Piece :=
  [.ctr .dram, .ctr .dramq, .ctr .pot, .ctr .rsched, .dram, .err .dram, .err .pot, .fld (HDR.ev_raw .dram), .fld (HDR.ev_raw .pot), .mem, .pot,
   .rings, .sent]

theorem signal_frame {LL rr s q f v} (h_s : Frame LL rr s) (hT : Cov signal_T LL) :
    FrameP LL rr (State.signal s q f v) := by
  delta State.signal
  split
  · rename_i a3
    have h4 := FrameP.eq (L := LL) (r := rr) a3 (fenceSignal_frame h_s (pick_sub 0x17f7 rfl hT))
    exact FrameP.mk (rewait_frame h4 (pick_sub 0x1fef rfl hT))
  · rename_i a9
    have h10 := FrameP.eq (L := LL) (r := rr) a9 (fenceSignal_frame h_s (pick_sub 0x17f7 rfl hT))
    exact FrameP.mk h10

/-- What State.startJob may change. -/
def startJob_T : List Piece :=
  [.ctr .dram, .ctr .dramq, .ctr .pot, .ctr .rsched, .err .dram, .err .pot, .fld (HDR.ev_raw .dram), .fld (HDR.ev_raw .pot), .mem, .pot, .rings,
   .sent]

theorem startJob_frame {LL rr s r cls n} (h_s : Frame LL rr s) (hT : Cov startJob_T LL) :
    Frame LL rr (State.startJob s r cls n) := by
  delta State.startJob
  extract_lets c_1 key_2 left_3 d_4 u_5 s1_6 u_7 s2_8
  have h_s1_6 : Frame LL rr s1_6 := by
      unfold s1_6
      exact setRing_frame h_s (pick_sub 0x400 rfl hT)
  have h_s2_8 : Frame LL rr s2_8 := by
      unfold s2_8
      exact Frame.upd h_s1_6 (m_rings := .inl (nth 10 rfl hT))
  clear_value s1_6 s2_8
  exact settle_frame (setJob_frame h_s2_8 (pick_sub 0x400 rfl hT)) (pick_sub 0xfff rfl hT)

/-- What State.cqIrq may change. -/
def cqIrq_T : List Piece :=
  [.rings, .sent]

theorem cqIrq_frame {LL rr s q} (h_s : Frame LL rr s) (hT : Cov cqIrq_T LL) :
    Frame LL rr (State.cqIrq s q) := by
  delta State.cqIrq
  extract_lets c_1
  exact setRing_frame (notify_frame h_s (pick_sub 0x2 rfl hT)) (pick_sub 0x1 rfl hT)

/-- What State.cqWritten may change. -/
def cqWritten_T : List Piece :=
  [.ctr .rsched, .rings, .sent]

theorem cqWritten_frame {LL rr s q} (h_s : Frame LL rr s) (hT : Cov cqWritten_T LL) :
    Frame LL rr (State.cqWritten s q) := by
  delta State.cqWritten
  extract_lets c_1 s1_2
  have h_s1_2 : Frame LL rr s1_2 := by
      unfold s1_2
      exact count_frame (setRing_frame h_s (pick_sub 0x2 rfl hT)) (pick_sub 0x1 rfl hT)
  clear_value s1_2
  exact Frame.ite (cqIrq_frame h_s1_2 (pick_sub 0x6 rfl hT)) h_s1_2

/-- What State.cqStore may change. -/
def cqStore_T : List Piece :=
  [.ctr .dram, .ctr .dramq, .ctr .pot, .ctr .rsched, .dram, .err .dram, .err .pot, .err .rsched, .fld (HDR.ev_raw .dram), .fld (HDR.ev_raw .pot),
   .fld (HDR.ev_raw .rsched), .mem, .pot, .rings, .sent]

theorem cqStore_frame {LL rr s q port d} (h_s : Frame LL rr s) (hT : Cov cqStore_T LL) :
    FrameP LL rr (State.cqStore s q port d) := by
  delta State.cqStore
  extract_lets c_1 rq_2
  split
  · rename_i a6
    have h7 := FrameP.eq (L := LL) (r := rr) a6 (tryStore_frame h_s (pick_sub 0x5b77 rfl hT))
    exact FrameP.mk (raise_frame (recErr_frame (setRing_frame h7 (pick_sub 0x2000 rfl hT)) (pick_sub 0x4480 rfl hT)) (pick_sub 0x4400 rfl hT))
  · rename_i a10
    have h11 := FrameP.eq (L := LL) (r := rr) a10 (tryStore_frame h_s (pick_sub 0x5b77 rfl hT))
    exact FrameP.mk (cqWritten_frame h11 (pick_sub 0x6008 rfl hT))

/-- What State.dropEvent may change. -/
def dropEvent_T : List Piece :=
  [.ctr .rsched, .err .rsched, .events, .fld (HDR.ev_raw .rsched), .rings, .sent]

theorem dropEvent_frame {LL rr s k rest} (h_s : Frame LL rr s) (hT : Cov dropEvent_T LL) :
    Frame LL rr (State.dropEvent s k rest) := by
  delta State.dropEvent
  exact raise_frame (recErr_frame (count_frame (Frame.upd h_s (m_events := .inl (nth 2 rfl hT)) (m_rings := .inl (nth 4 rfl hT))) (pick_sub 0x1 rfl hT)) (pick_sub 0x2a rfl hT)) (pick_sub 0x28 rfl hT)

/-- What State.deliver may change. -/
def deliver_T : List Piece :=
  [.ctr .dram, .ctr .dramq, .ctr .pot, .ctr .rsched, .dram, .err .dram, .err .pot, .err .rsched, .events, .fld (HDR.ev_raw .dram),
   .fld (HDR.ev_raw .pot), .fld (HDR.ev_raw .rsched), .mem, .pot, .rings, .sent]

theorem deliver_frame {LL rr s k} (h_s : Frame LL rr s) (hT : Cov deliver_T LL) :
    Frame LL rr (State.deliver s k) := by
  delta State.deliver
  split
  · exact h_s
  · split
    · exact dropEvent_frame h_s (pick_sub 0xc988 rfl hT)
    · extract_lets flags_12 s1_13 t_14 held_15
      have h_s1_13 : FrameO LL rr s1_13 := by
          unfold s1_13
          exact FrameO.ite (by
              split
              · rename_i a18
                have h19 := FrameP.eq (L := LL) (r := rr) a18 (cqStore_frame h_s (pick_sub 0xfeff rfl hT))
                exact FrameO.some (Frame.upd h19 (m_events := .inl (nth 8 rfl hT)) (m_rings := .inl (nth 14 rfl hT)))
              · rename_i a22
                have h23 := FrameP.eq (L := LL) (r := rr) a22 (cqStore_frame h_s (pick_sub 0xfeff rfl hT))
                exact FrameO.none) FrameO.none
      have h_t_14 : Frame LL rr t_14 := by
          unfold t_14
          exact Frame.ite (FrameP.fst (cqStore_frame h_s (pick_sub 0xfeff rfl hT))) h_s
      clear_value s1_13 t_14
      split
      · have h26 := FrameO.eq (L := LL) (r := rr) rfl h_s1_13
        exact h26
      · split
        · exact h_t_14
        · exact Frame.ite (Frame.upd h_t_14 (m_events := .inl (nth 8 rfl hT))) (dropEvent_frame h_t_14 (pick_sub 0xc988 rfl hT))

/-- What State.fetchEntry may change. -/
def fetchEntry_T : List Piece :=
  [.ctr .dram, .ctr .dramq, .ctr .pot, .ctr .rsched, .err .dram, .err .pot, .fld (HDR.ev_raw .dram), .fld (HDR.ev_raw .pot), .mem, .pot, .rings,
   .sent]

theorem fetchEntry_frame {LL rr s r} (h_s : Frame LL rr s) (hT : Cov fetchEntry_T LL) :
    Frame LL rr (State.fetchEntry s r) := by
  delta State.fetchEntry
  extract_lets c_1 n_2 a_3 q_4 s0_5
  have h_s0_5 : Frame LL rr s0_5 := by
      unfold s0_5
      exact count_frame h_s (pick_sub 0x8 rfl hT)
  clear_value s0_5
  split
  · exact setRing_frame (memRecord_frame h_s0_5 (pick_sub 0x8f5 rfl hT)) (pick_sub 0x400 rfl hT)
  · exact setRing_frame (fetched_frame h_s0_5 (pick_sub 0x307 rfl hT)) (pick_sub 0x400 rfl hT)

/-- What State.holdDue may change. -/
def holdDue_T : List Piece :=
  [.ctr .rsched, .rings]

theorem holdDue_frame {LL rr s q} (h_s : Frame LL rr s) (hT : Cov holdDue_T LL) :
    Frame LL rr (State.holdDue s q) := by
  delta State.holdDue
  extract_lets mine_1 new_2 u_3
  exact count_frame (Frame.upd h_s (m_rings := .inl (nth 1 rfl hT))) (pick_sub 0x1 rfl hT)

/-- What State.writeDue may change. -/
def writeDue_T : List Piece :=
  [.ctr .dram, .ctr .dramq, .ctr .pot, .ctr .rsched, .dram, .err .dram, .err .pot, .err .rsched, .fld (HDR.ev_raw .dram), .fld (HDR.ev_raw .pot),
   .fld (HDR.ev_raw .rsched), .fld RSCHED.PIN_COUNT.pinned, .mem, .pot, .rings, .sent]

theorem writeDue_frame {LL rr s q} (h_s : Frame LL rr s) (hT : Cov writeDue_T LL) :
    Frame LL rr (State.writeDue s q) := by
  delta State.writeDue
  split
  · exact h_s
  · exact Frame.ite (by
        extract_lets flags_7
        split
        · rename_i a10
          have h11 := FrameP.eq (L := LL) (r := rr) a10 (cqStore_frame h_s (pick_sub 0xf7ff rfl hT))
          exact tryDisable_frame (Frame.upd h11 (m_rings := .inl (nth 14 rfl hT))) (pick_sub 0x4800 rfl hT)
        · rename_i a14
          have h15 := FrameP.eq (L := LL) (r := rr) a14 (cqStore_frame h_s (pick_sub 0xf7ff rfl hT))
          exact holdDue_frame h15 (pick_sub 0x4008 rfl hT)) (Frame.ite h_s (raise_frame (holdDue_frame h_s (pick_sub 0x4008 rfl hT)) (pick_sub 0x8400 rfl hT)))

end Sys2Proof.Laws
end

