-- ==== Sys2Proof/Laws/FrameDma.lean ====
section
/-! SUPPORT. What the operations and commands of Machine/Dma.lean may change: the parts of each, and that nothing else changes. -/

set_option Elab.async false

namespace Sys2Proof.Laws

open Machine

/-- What State.dmaEnd may change. -/
def dmaEnd_T : List Piece :=
  [.ctr .dram, .ctr .dramq, .ctr .pot, .ctr .rsched, .err .dram, .err .pot, .fld (HDR.ev_raw .dram), .fld (HDR.ev_raw .pot), .fld DMA.STAT.state,
   .fld RSCHED.PIN_COUNT.pinned, .mem, .pot, .rings, .sent]

theorem dmaEnd_frame {LL rr s n j kind code detail info partly} (h_s : Frame LL rr s) (hT : Cov dmaEnd_T LL) :
    Frame LL rr (State.dmaEnd s n j kind code detail info partly) := by
  delta State.dmaEnd
  extract_lets s1_1 c_2 s2_3
  have h_s1_1 : Frame LL rr s1_1 := by
      unfold s1_1
      exact wr_frame (setJob_frame h_s (pick_sub 0x1000 rfl hT)) (pick_sub 0x100 rfl hT)
  have h_s2_3 : Frame LL rr s2_3 := by
      unfold s2_3
      exact Frame.ite (settle_frame (setRing_frame h_s1_1 (pick_sub 0x1000 rfl hT)) (pick_sub 0x3cff rfl hT)) h_s1_1
  clear_value s1_1 s2_3
  exact endJob_frame h_s2_3 (pick_sub 0x1200 rfl hT)

/-- What State.dmaAbort may change. -/
def dmaAbort_T : List Piece :=
  [.ctr .dma, .ctr .dram, .ctr .dramq, .ctr .pot, .ctr .rsched, .err .dram, .err .pot, .fld (HDR.ev_raw .dram), .fld (HDR.ev_raw .pot),
   .fld DMA.STAT.state, .fld RSCHED.PIN_COUNT.pinned, .mem, .pot, .rings, .sent]

theorem dmaAbort_frame {LL rr s n j code} (h_s : Frame LL rr s) (hT : Cov dmaAbort_T LL) :
    Frame LL rr (State.dmaAbort s n j code) := by
  delta State.dmaAbort
  exact dmaEnd_frame (count_frame h_s (pick_sub 0x1 rfl hT)) (pick_sub 0x7ffe rfl hT)

/-- What State.ctxOp may change. -/
def ctxOp_T : List Piece :=
  [.ctr .pot, .err .pot, .err .rsched, .fld (HDR.ev_raw .pot), .fld (HDR.ev_raw .rsched), .resp, .sent, .world]

theorem ctxOp_frame {LL rr s w op target k} (h_s : Frame LL rr s) (h_k : ∀ y0 y1, Frame LL rr y0 → Frame LL rr (k y0 y1)) (hT : Cov ctxOp_T LL) :
    Frame LL rr (State.ctxOp s w op target k) := by
  delta State.ctxOp
  exact onWrite_frame h_s (fun t1 h2 => by
      extract_lets r_3
      exact Frame.ite (refuse_frame h2 (pick_sub 0x74 rfl hT)) (Frame.ite (refuse_frame h2 (pick_sub 0x74 rfl hT)) (h_k _ _ h2))) (pick_sub 0xff rfl hT)

/-- What State.ctxRead may change. -/
def ctxRead_T : List Piece :=
  [.ctr .pot, .err .pot, .err .rsched, .fld (HDR.ev_raw .pot), .fld (HDR.ev_raw .rsched), .fld RSCHED.CTX_DATA.word, .resp, .sent, .world]

theorem ctxRead_frame {LL rr s w} (h_s : Frame LL rr s) (hT : Cov ctxRead_T LL) :
    Frame LL rr (State.ctxRead s w) := by
  delta State.ctxRead
  exact ctxOp_frame h_s (fun t1 x3 h2 => Frame.foldl h2 (fun t4 x5 h6 => wr_frame h6 (pick_sub 0x20 rfl hT))) (pick_sub 0x1df rfl hT)

/-- What State.ctxRefuse may change. -/
def ctxRefuse_T : List Piece :=
  [.err .rsched, .fld (HDR.ev_raw .rsched), .sent]

theorem ctxRefuse_frame {LL rr s w code} (h_s : Frame LL rr s) (hT : Cov ctxRefuse_T LL) :
    Frame LL rr (State.ctxRefuse s w code) := by
  delta State.ctxRefuse
  exact recErr_frame h_s (pick_sub 0x7 rfl hT)

/-- What State.ctxWrite may change. -/
def ctxWrite_T : List Piece :=
  [.ctr .pot, .err .pot, .err .rsched, .fld (HDR.ev_raw .pot), .fld (HDR.ev_raw .rsched), .resp, .rings, .sent, .world]

theorem ctxWrite_frame {LL rr s w} (h_s : Frame LL rr s) (hT : Cov ctxWrite_T LL) :
    Frame LL rr (State.ctxWrite s w) := by
  delta State.ctxWrite
  exact ctxOp_frame h_s (fun t1 x3 h2 => Frame.ite (ctxRefuse_frame h2 (pick_sub 0x94 rfl hT)) (setRing_frame h2 (pick_sub 0x40 rfl hT))) (pick_sub 0x1bf rfl hT)

/-- What State.ctxEnable may change. -/
def ctxEnable_T : List Piece :=
  [.ctr .pot, .err .pot, .err .rsched, .fld (HDR.ev_raw .pot), .fld (HDR.ev_raw .rsched), .fld RSCHED.PIN_COUNT.pinned, .resp, .rings, .sent,
   .world]

theorem ctxEnable_frame {LL rr s w} (h_s : Frame LL rr s) (hT : Cov ctxEnable_T LL) :
    Frame LL rr (State.ctxEnable s w) := by
  delta State.ctxEnable
  exact ctxOp_frame h_s (fun t1 x3 h2 => by
      extract_lets c_4 u_5 st_6
      have h_u_5 : Frame LL rr u_5 := by
          unfold u_5
          exact Frame.ite (wr_frame h2 (pick_sub 0x20 rfl hT)) h2
      clear_value u_5
      exact Frame.ite (ctxRefuse_frame h2 (pick_sub 0x114 rfl hT)) (Frame.ite (ctxRefuse_frame h2 (pick_sub 0x114 rfl hT)) (Frame.ite (ctxRefuse_frame h2 (pick_sub 0x114 rfl hT)) (setRing_frame h_u_5 (pick_sub 0x80 rfl hT))))) (pick_sub 0x35f rfl hT)

/-- What State.ctxDisable may change. -/
def ctxDisable_T : List Piece :=
  [.ctr .pot, .err .pot, .err .rsched, .fld (HDR.ev_raw .pot), .fld (HDR.ev_raw .rsched), .fld RSCHED.PIN_COUNT.pinned, .resp, .rings, .sent,
   .world]

theorem ctxDisable_frame {LL rr s w} (h_s : Frame LL rr s) (hT : Cov ctxDisable_T LL) :
    Frame LL rr (State.ctxDisable s w) := by
  delta State.ctxDisable
  exact ctxOp_frame h_s (fun t1 x3 h2 => tryDisable_frame (setRing_frame h2 (pick_sub 0x80 rfl hT)) (pick_sub 0xa0 rfl hT)) (pick_sub 0x35f rfl hT)

/-- What State.migrated may change. -/
def migrated_T : List Piece :=
  [.ctr .rsched, .fld (HDR.ev_raw .rsched), .rings, .sent]

theorem migrated_frame {LL rr s r} (h_s : Frame LL rr s) (hT : Cov migrated_T LL) :
    Frame LL rr (State.migrated s r) := by
  delta State.migrated
  extract_lets c_1 s1_2
  have h_s1_2 : Frame LL rr s1_2 := by
      unfold s1_2
      exact setRing_frame h_s (pick_sub 0x4 rfl hT)
  clear_value s1_2
  exact raise_frame (count_frame (record_frame h_s1_2 (pick_sub 0x4 rfl hT)) (pick_sub 0x1 rfl hT)) (pick_sub 0xa rfl hT)

/-- What State.ctxMigrate may change. -/
def ctxMigrate_T : List Piece :=
  [.ctr .pot, .ctr .rsched, .err .pot, .err .rsched, .fld (HDR.ev_raw .pot), .fld (HDR.ev_raw .rsched), .resp, .rings, .sent, .world]

theorem ctxMigrate_frame {LL rr s w n} (h_s : Frame LL rr s) (hT : Cov ctxMigrate_T LL) :
    Frame LL rr (State.ctxMigrate s w n) := by
  delta State.ctxMigrate
  exact ctxOp_frame h_s (fun t1 x3 h2 => by
      extract_lets c_4 u_5
      exact Frame.ite (ctxRefuse_frame h2 (pick_sub 0x128 rfl hT)) (Frame.ite (ctxRefuse_frame h2 (pick_sub 0x128 rfl hT)) (Frame.ite (ctxRefuse_frame h2 (pick_sub 0x128 rfl hT)) (Frame.ite (migrated_frame (setRing_frame h2 (pick_sub 0x80 rfl hT)) (pick_sub 0x1a2 rfl hT)) (setRing_frame h2 (pick_sub 0x80 rfl hT)))))) (pick_sub 0x37d rfl hT)

/-- What State.dmaResume may change. -/
def dmaResume_T : List Piece :=
  [.ctr .dma, .ctr .dram, .ctr .dramq, .ctr .pot, .ctr .rsched, .err .dram, .err .pot, .fld (HDR.ev_raw .dram), .fld (HDR.ev_raw .pot),
   .fld DMA.STAT.state, .mem, .pot, .rings, .sent]

theorem dmaResume_frame {LL rr s n j} (h_s : Frame LL rr s) (hT : Cov dmaResume_T LL) :
    Frame LL rr (State.dmaResume s n j) := by
  delta State.dmaResume
  extract_lets s1_1
  have h_s1_1 : Frame LL rr s1_1 := by
      unfold s1_1
      exact setJob_frame (count_frame (wr_frame h_s (pick_sub 0x200 rfl hT)) (pick_sub 0x1 rfl hT)) (pick_sub 0x1000 rfl hT)
  clear_value s1_1
  exact settle_frame (setRing_frame h_s1_1 (pick_sub 0x1000 rfl hT)) (pick_sub 0x3dfe rfl hT)

/-- What State.dmaCtrl may change. -/
def dmaCtrl_T : List Piece :=
  [.ctr .dma, .ctr .dram, .ctr .dramq, .ctr .pot, .ctr .rsched, .err .dma, .err .dram, .err .pot, .fld (HDR.ev_raw .dma), .fld (HDR.ev_raw .dram),
   .fld (HDR.ev_raw .pot), .fld DMA.STAT.state, .fld RSCHED.PIN_COUNT.pinned, .mem, .pot, .resp, .rings, .sent, .world]

theorem dmaCtrl_frame {LL rr s w n v} (h_s : Frame LL rr s) (hT : Cov dmaCtrl_T LL) :
    Frame LL rr (State.dmaCtrl s w n v) := by
  delta State.dmaCtrl
  exact onWrite_frame h_s (fun t1 h2 => by
      split
      · exact Frame.ite h2 (refuse_frame h2 (pick_sub 0x28120 rfl hT))
      · exact Frame.ite h2 (Frame.ite (refuse_frame h2 (pick_sub 0x28120 rfl hT)) (Frame.ite (dmaAbort_frame h2 (pick_sub 0x37edf rfl hT)) (dmaResume_frame h2 (pick_sub 0x36edf rfl hT))))) (idx_sub [3, 7, 5, 10, 8, 15, 17, 18] rfl hT)

/-- What State.touchCtx may change. -/
def touchCtx_T : List Piece :=
  [.ctr .rsched, .rings]

theorem touchCtx_frame {LL rr s r} (h_s : Frame LL rr s) (hT : Cov touchCtx_T LL) :
    Frame LL rr (State.touchCtx s r) := by
  delta State.touchCtx
  exact Frame.ite (count_frame (Frame.upd h_s (m_rings := .inl (nth 1 rfl hT))) (pick_sub 0x1 rfl hT)) (by
      extract_lets victim_1 kept_2 image_3 u_4
      exact count_frame (Frame.upd h_s (m_rings := .inl (nth 1 rfl hT))) (pick_sub 0x1 rfl hT))

/-- What State.dropDoorbell may change. -/
def dropDoorbell_T : List Piece :=
  [.ctr .rsched, .err .rsched, .fld (HDR.ev_raw .rsched), .sent]

theorem dropDoorbell_frame {LL rr s k r rec} (h_s : Frame LL rr s) (hT : Cov dropDoorbell_T LL) :
    Frame LL rr (State.dropDoorbell s k r rec) := by
  delta State.dropDoorbell
  extract_lets s1_1
  have h_s1_1 : Frame LL rr s1_1 := by
      unfold s1_1
      exact count_frame h_s (pick_sub 0x1 rfl hT)
  clear_value s1_1
  exact Frame.ite (raise_frame (recErr_frame h_s1_1 (pick_sub 0xe rfl hT)) (pick_sub 0xc rfl hT)) h_s1_1

/-- What State.fenceNotify may change. -/
def fenceNotify_T : List Piece :=
  [.ctr .dram, .ctr .dramq, .ctr .pot, .ctr .rsched, .err .dram, .err .pot, .err .rsched, .fld (HDR.ev_raw .dram), .fld (HDR.ev_raw .pot),
   .fld (HDR.ev_raw .rsched), .mem, .pot, .rings, .sent]

theorem fenceNotify_frame {LL rr s k slot} (h_s : Frame LL rr s) (hT : Cov fenceNotify_T LL) :
    Frame LL rr (State.fenceNotify s k slot) := by
  delta State.fenceNotify
  exact Frame.ite (recErr_frame (count_frame h_s (pick_sub 0x8 rfl hT)) (pick_sub 0x2240 rfl hT)) (rewait_frame (count_frame (count_frame h_s (pick_sub 0x8 rfl hT)) (pick_sub 0x8 rfl hT)) (pick_sub 0x3dbf rfl hT))

/-- What State.consumer may change. -/
def consumer_T : List Piece :=
  [.ctr .rsched, .err .rsched, .fld (HDR.ev_raw .rsched), .rings, .sent]

theorem consumer_frame {LL rr s k r v} (h_s : Frame LL rr s) (hT : Cov consumer_T LL) :
    Frame LL rr (State.consumer s k r v) := by
  delta State.consumer
  extract_lets c_1
  exact Frame.ite (count_frame (setRing_frame h_s (pick_sub 0x8 rfl hT)) (pick_sub 0x1 rfl hT)) (dropDoorbell_frame h_s (pick_sub 0x17 rfl hT))

/-- What State.producer may change. -/
def producer_T : List Piece :=
  [.err .rsched, .fld (HDR.ev_raw .rsched), .rings, .sent]

theorem producer_frame {LL rr s k r v} (h_s : Frame LL rr s) (hT : Cov producer_T LL) :
    Frame LL rr (State.producer s k r v) := by
  delta State.producer
  extract_lets c_1 add_2 s1_3
  have h_s1_3 : Frame LL rr s1_3 := by
      unfold s1_3
      exact record_frame (raise_frame (recErr_frame h_s (pick_sub 0xb rfl hT)) (pick_sub 0xa rfl hT)) (pick_sub 0x4 rfl hT)
  clear_value s1_3
  exact Frame.ite h_s (Frame.ite (setRing_frame h_s (pick_sub 0x4 rfl hT)) (setRing_frame h_s1_3 (pick_sub 0x4 rfl hT)))

/-- What State.doorbellHalt may change. -/
def doorbellHalt_T : List Piece :=
  [.ctr .dma, .ctr .dram, .ctr .dramq, .ctr .pot, .ctr .rsched, .err .dma, .err .dram, .err .pot, .fld (HDR.ev_raw .dma), .fld (HDR.ev_raw .dram),
   .fld (HDR.ev_raw .pot), .fld DMA.STAT.state, .fld RSCHED.PIN_COUNT.pinned, .mem, .pot, .rings, .sent]

theorem doorbellHalt_frame {LL rr s k r abort} (h_s : Frame LL rr s) (hT : Cov doorbellHalt_T LL) :
    Frame LL rr (State.doorbellHalt s k r abort) := by
  delta State.doorbellHalt
  extract_lets c_1
  split
  · exact Frame.ite (Frame.ite (dmaAbort_frame (count_frame h_s (pick_sub 0x10 rfl hT)) (pick_sub 0x1fedf rfl hT)) (dmaResume_frame (count_frame h_s (pick_sub 0x10 rfl hT)) (pick_sub 0x1eedf rfl hT))) (recErr_frame (count_frame h_s (pick_sub 0x10 rfl hT)) (pick_sub 0x10120 rfl hT))
  · exact recErr_frame (count_frame h_s (pick_sub 0x10 rfl hT)) (pick_sub 0x10120 rfl hT)

/-- What State.doorbell may change. -/
def doorbell_T : List Piece :=
  [.ctr .dma, .ctr .dram, .ctr .dramq, .ctr .mgr, .ctr .pot, .ctr .rsched, .err .dma, .err .dram, .err .pot, .err .rsched, .fld (HDR.ev_raw .dma),
   .fld (HDR.ev_raw .dram), .fld (HDR.ev_raw .pot), .fld (HDR.ev_raw .rsched), .fld DMA.STAT.state, .fld RSCHED.PIN_COUNT.pinned, .mem, .pot,
   .resp, .rings, .sent]

theorem doorbell_frame {LL rr s k r v} (h_s : Frame LL rr s) (hT : Cov doorbell_T LL) :
    Frame LL rr (State.doorbell s k r v) := by
  delta State.doorbell
  extract_lets id_1 op_2 s0_3 s1_4 c_5
  have h_s0_3 : Frame LL rr s0_3 := by
      unfold s0_3
      exact okResp_frame h_s (pick_sub 0x40000 rfl hT)
  have h_s1_4 : Frame LL rr s1_4 := by
      unfold s1_4
      exact touchCtx_frame h_s0_3 (pick_sub 0x80020 rfl hT)
  clear_value s0_3 s1_4
  exact Frame.ite (count_frame (dropDoorbell_frame h_s0_3 (pick_sub 0x102220 rfl hT)) (pick_sub 0x8 rfl hT)) (Frame.ite (fenceNotify_frame h_s0_3 (pick_sub 0x1b3bb6 rfl hT)) (Frame.ite (dropDoorbell_frame h_s0_3 (pick_sub 0x102220 rfl hT)) (Frame.ite (dropDoorbell_frame h_s0_3 (pick_sub 0x102220 rfl hT)) (Frame.ite (dropDoorbell_frame h_s1_4 (pick_sub 0x102220 rfl hT)) (Frame.ite (Frame.ite (consumer_frame h_s1_4 (pick_sub 0x182220 rfl hT)) (producer_frame (count_frame h_s1_4 (pick_sub 0x20 rfl hT)) (pick_sub 0x182200 rfl hT))) (Frame.ite (dropDoorbell_frame h_s1_4 (pick_sub 0x102220 rfl hT)) (doorbellHalt_frame h_s1_4 (pick_sub 0x1bddf7 rfl hT))))))))

/-- What State.descFetch may change. -/
def descFetch_T : List Piece :=
  [.ctr .dram, .ctr .dramq, .ctr .pot, .ctr .rsched, .err .dram, .err .pot, .fld (HDR.ev_raw .dram), .fld (HDR.ev_raw .pot), .mem, .pot, .rings,
   .sent]

theorem descFetch_frame {LL rr s r} (h_s : Frame LL rr s) (hT : Cov descFetch_T LL) :
    Frame LL rr (State.descFetch s r) := by
  delta State.descFetch
  exact Frame.ite (settle_frame (fetchEntry_frame h_s (pick_sub 0xfff rfl hT)) (pick_sub 0xfff rfl hT)) h_s

/-- What State.dmaWrite may change. -/
def dmaWrite_T : List Piece :=
  [.ctr .dram, .ctr .dramq, .ctr .pot, .dram, .err .dram, .err .pot, .fld (HDR.ev_raw .dram), .fld (HDR.ev_raw .pot), .free, .mem, .pot, .sent]

theorem dmaWrite_frame {LL rr s q a d} (h_s : Frame LL rr s) (hT : Cov dmaWrite_T LL) :
    FrameP LL rr (State.dmaWrite s q a d) := by
  delta State.dmaWrite
  split
  · exact FrameP.mk (put_frame h_s (pick_sub 0x60f rfl hT))
  · exact FrameP.ite (by
        extract_lets n_7 s1_8
        have h_s1_8 : Frame LL rr s1_8 := by
            unfold s1_8
            exact Frame.upd h_s (m_free := .inl (nth 8 rfl hT))
        clear_value s1_8
        exact FrameP.mk (memRecord_frame (wrBytes_frame h_s1_8 (pick_sub 0x8 rfl hT)) (pick_sub 0x8f5 rfl hT))) (FrameP.mk (memRecord_frame h_s (pick_sub 0x8f5 rfl hT)))

/-- What State.dmaMove may change. -/
def dmaMove_T : List Piece :=
  [.ctr .dma, .ctr .dram, .ctr .dramq, .ctr .pot, .dram, .err .dram, .err .pot, .fld (HDR.ev_raw .dram), .fld (HDR.ev_raw .pot),
   .fld DMA.CRC_STATE.crc, .free, .mem, .pot, .sent]

theorem dmaMove_frame {LL rr q n p2 p3 p4} (h_p3 : Frame LL rr p3) (hT : Cov dmaMove_T LL) :
    FrameP LL rr (State.dmaMove q n p2 p3 p4) := by
  induction p2 generalizing q n p3 p4
  · unfold State.dmaMove
    exact FrameP.mk h_p3
  · rename_i m ih
    unfold State.dmaMove
    extract_lets d_1 op_2
    split
    · exact FrameP.mk h_p3
    · extract_lets ra_16 wa_17 data_18 s1_19 crc_20
      have h_s1_19 : Frame LL rr s1_19 := by
          unfold s1_19
          exact Frame.ite h_p3 (count_frame (fetched_frame h_p3 (pick_sub 0x180e rfl hT)) (pick_sub 0x1 rfl hT))
      clear_value s1_19
      split
      · exact FrameP.mk (memRecord_frame h_p3 (pick_sub 0x21ea rfl hT))
      · split
        · rename_i a32
          have h33 := FrameP.eq (L := LL) (r := rr) a32 (dmaWrite_frame h_s1_19 (pick_sub 0x3dfe rfl hT))
          exact FrameP.mk h33
        · rename_i a36
          have h37 := FrameP.eq (L := LL) (r := rr) a36 (dmaWrite_frame h_s1_19 (pick_sub 0x3dfe rfl hT))
          extract_lets t1_38 t2_39
          have h_t1_38 : Frame LL rr t1_38 := by
              unfold t1_38
              exact count_frame h37 (pick_sub 0x1 rfl hT)
          have h_t2_39 : Frame LL rr t2_39 := by
              unfold t2_39
              exact wr_frame h_t1_38 (pick_sub 0x200 rfl hT)
          clear_value t1_38 t2_39
          exact FrameP.ite (by
              split
              · rename_i a45
                have h46 := FrameP.eq (L := LL) (r := rr) a45 (dmaWrite_frame h_t2_39 (pick_sub 0x3dfe rfl hT))
                exact FrameP.mk h46
              · rename_i a49
                have h50 := FrameP.eq (L := LL) (r := rr) a49 (dmaWrite_frame h_t2_39 (pick_sub 0x3dfe rfl hT))
                exact FrameP.mk (count_frame h50 (pick_sub 0x1 rfl hT))) (ih h_t2_39)

/-- What State.dmaRun may change. -/
def dmaRun_T : List Piece :=
  [.ctr .dma, .ctr .dram, .ctr .dramq, .ctr .pot, .ctr .rsched, .dram, .err .dram, .err .pot, .fld (HDR.ev_raw .dram), .fld (HDR.ev_raw .pot),
   .fld DMA.CRC_STATE.crc, .fld DMA.STAT.state, .fld RSCHED.PIN_COUNT.pinned, .free, .mem, .pot, .rings, .sent]

theorem dmaRun_frame {LL rr s n op} (h_s : Frame LL rr s) (hT : Cov dmaRun_T LL) :
    Frame LL rr (State.dmaRun s n op) := by
  delta State.dmaRun
  split
  · exact h_s
  · exact Frame.ite h_s (Frame.ite (setJob_frame h_s (pick_sub 0x10000 rfl hT)) (by
        extract_lets q_6
        split
        · exact setJob_frame (memRecord_frame h_s (pick_sub 0x203ca rfl hT)) (pick_sub 0x10000 rfl hT)
        · exact dmaEnd_frame h_s (pick_sub 0x3dbde rfl hT)
        · extract_lets s1_19
          have h_s1_19 : Frame LL rr s1_19 := by
              unfold s1_19
              exact fetched_frame h_s (pick_sub 0xc00e rfl hT)
          clear_value s1_19
          exact Frame.ite (dmaEnd_frame h_s1_19 (pick_sub 0x3dbde rfl hT)) (by
              split
              · rename_i a23
                have h24 := FrameP.eq (L := LL) (r := rr) a23 (dmaMove_frame h_s1_19 (pick_sub 0x2e7ef rfl hT))
                exact setJob_frame h24 (pick_sub 0x10000 rfl hT))))

/-- What execCompletionRecordWrite may change. -/
def execCompletionRecordWrite_T : List Piece :=
  [.ctr .dram, .ctr .dramq, .ctr .pot, .ctr .rsched, .dram, .err .dram, .err .pot, .err .rsched, .fld (HDR.ev_raw .dram), .fld (HDR.ev_raw .pot),
   .fld (HDR.ev_raw .rsched), .fld RSCHED.PIN_COUNT.pinned, .mem, .pot, .rings, .sent]

theorem execCompletionRecordWrite_frame {LL rr q s} (h_s : Frame LL rr s) (hT : Cov execCompletionRecordWrite_T LL) :
    FrameN LL rr (execCompletionRecordWrite q s) := by
  delta execCompletionRecordWrite
  exact FrameN.next (writeDue_frame h_s (pick_sub 0xffff rfl hT))

/-- What execCqIrqTimer may change. -/
def execCqIrqTimer_T : List Piece :=
  [.rings, .sent]

theorem execCqIrqTimer_frame {LL rr q s} (h_s : Frame LL rr s) (hT : Cov execCqIrqTimer_T LL) :
    FrameN LL rr (execCqIrqTimer q s) := by
  delta execCqIrqTimer
  extract_lets c_1
  exact FrameN.next (Frame.ite (cqIrq_frame h_s (pick_sub 0x3 rfl hT)) h_s)

/-- What execCtxDisable may change. -/
def execCtxDisable_T : List Piece :=
  [.ctr .pot, .err .pot, .err .rsched, .fld (HDR.ev_raw .pot), .fld (HDR.ev_raw .rsched), .fld RSCHED.PIN_COUNT.pinned, .resp, .rings, .sent,
   .world]

theorem execCtxDisable_frame {LL rr w s} (h_s : Frame LL rr s) (hT : Cov execCtxDisable_T LL) :
    FrameN LL rr (execCtxDisable w s) := by
  delta execCtxDisable
  exact FrameN.next (ctxDisable_frame h_s (pick_sub 0x3ff rfl hT))

/-- What execCtxEnable may change. -/
def execCtxEnable_T : List Piece :=
  [.ctr .pot, .err .pot, .err .rsched, .fld (HDR.ev_raw .pot), .fld (HDR.ev_raw .rsched), .fld RSCHED.PIN_COUNT.pinned, .resp, .rings, .sent,
   .world]

theorem execCtxEnable_frame {LL rr w s} (h_s : Frame LL rr s) (hT : Cov execCtxEnable_T LL) :
    FrameN LL rr (execCtxEnable w s) := by
  delta execCtxEnable
  exact FrameN.next (ctxEnable_frame h_s (pick_sub 0x3ff rfl hT))

/-- What execCtxMigrate may change. -/
def execCtxMigrate_T : List Piece :=
  [.ctr .pot, .ctr .rsched, .err .pot, .err .rsched, .fld (HDR.ev_raw .pot), .fld (HDR.ev_raw .rsched), .resp, .rings, .sent, .world]

theorem execCtxMigrate_frame {LL rr w target s} (h_s : Frame LL rr s) (hT : Cov execCtxMigrate_T LL) :
    FrameN LL rr (execCtxMigrate w target s) := by
  delta execCtxMigrate
  exact FrameN.next (ctxMigrate_frame h_s (pick_sub 0x3ff rfl hT))

/-- What execCtxRead may change. -/
def execCtxRead_T : List Piece :=
  [.ctr .pot, .err .pot, .err .rsched, .fld (HDR.ev_raw .pot), .fld (HDR.ev_raw .rsched), .fld RSCHED.CTX_DATA.word, .resp, .sent, .world]

theorem execCtxRead_frame {LL rr w s} (h_s : Frame LL rr s) (hT : Cov execCtxRead_T LL) :
    FrameN LL rr (execCtxRead w s) := by
  delta execCtxRead
  exact FrameN.next (ctxRead_frame h_s (pick_sub 0x1ff rfl hT))

/-- What execCtxWrite may change. -/
def execCtxWrite_T : List Piece :=
  [.ctr .pot, .err .pot, .err .rsched, .fld (HDR.ev_raw .pot), .fld (HDR.ev_raw .rsched), .resp, .rings, .sent, .world]

theorem execCtxWrite_frame {LL rr w s} (h_s : Frame LL rr s) (hT : Cov execCtxWrite_T LL) :
    FrameN LL rr (execCtxWrite w s) := by
  delta execCtxWrite
  exact FrameN.next (ctxWrite_frame h_s (pick_sub 0x1ff rfl hT))

/-- What execDmaBusError may change. -/
def execDmaBusError_T : List Piece :=
  [.ctr .dma, .err .dma, .fld (HDR.ev_raw .dma), .fld DMA.BYTES.done, .fld DMA.CAUSE.code, .fld DMA.CRC_STATE.crc, .fld DMA.ELEM.crc,
   .fld DMA.ELEM.dir, .fld DMA.ELEM.index, .fld DMA.ELEM.partial, .fld DMA.FAIL_ADDR.addr_hi, .fld DMA.FAIL_ADDR.addr_lo, .fld DMA.STAT.state,
   .rings, .sent]

theorem execDmaBusError_frame {LL rr n s} (h_s : Frame LL rr s) (hT : Cov execDmaBusError_T LL) :
    FrameN LL rr (execDmaBusError n s) := by
  delta execDmaBusError
  extract_lets k_1
  exact FrameN.next (by
      split
      · exact h_s
      · exact Frame.ite h_s (by
            extract_lets s1_7 s2_8 s3_9 s4_10 u_11
            have h_s1_7 : Frame LL rr s1_7 := by
                unfold s1_7
                exact wr_frame (wr_frame (wr_frame (wrB_frame (wrB_frame (wr_frame (wr_frame (wr_frame h_s (pick_sub 0x1000 rfl hT)) (pick_sub 0x100 rfl hT)) (pick_sub 0x80 rfl hT)) (pick_sub 0x200 rfl hT)) (pick_sub 0x40 rfl hT)) (pick_sub 0x8 rfl hT)) (pick_sub 0x10 rfl hT)) (pick_sub 0x800 rfl hT)
            have h_s2_8 : Frame LL rr s2_8 := by
                unfold s2_8
                exact wr_frame (wr_frame h_s1_7 (pick_sub 0x400 rfl hT)) (pick_sub 0x20 rfl hT)
            have h_s3_9 : Frame LL rr s3_9 := by
                unfold s3_9
                exact raise_frame (count_frame (recErr_frame h_s2_8 (pick_sub 0x4006 rfl hT)) (pick_sub 0x1 rfl hT)) (pick_sub 0x4004 rfl hT)
            have h_s4_10 : Frame LL rr s4_10 := by
                unfold s4_10
                exact record_frame h_s3_9 (pick_sub 0x2000 rfl hT)
            clear_value s1_7 s2_8 s3_9 s4_10
            exact setJob_frame (setRing_frame h_s4_10 (pick_sub 0x2000 rfl hT)) (pick_sub 0x2000 rfl hT)))

/-- What execDmaCtrlAbort may change. -/
def execDmaCtrlAbort_T : List Piece :=
  [.ctr .dma, .ctr .dram, .ctr .dramq, .ctr .pot, .ctr .rsched, .err .dma, .err .dram, .err .pot, .fld (HDR.ev_raw .dma), .fld (HDR.ev_raw .dram),
   .fld (HDR.ev_raw .pot), .fld DMA.STAT.state, .fld RSCHED.PIN_COUNT.pinned, .mem, .pot, .resp, .rings, .sent, .world]

theorem execDmaCtrlAbort_frame {LL rr w n s} (h_s : Frame LL rr s) (hT : Cov execDmaCtrlAbort_T LL) :
    FrameN LL rr (execDmaCtrlAbort w n s) := by
  delta execDmaCtrlAbort
  exact FrameN.next (dmaCtrl_frame h_s (pick_sub 0x7ffff rfl hT))

/-- What execDmaCtrlResume may change. -/
def execDmaCtrlResume_T : List Piece :=
  [.ctr .dma, .ctr .dram, .ctr .dramq, .ctr .pot, .ctr .rsched, .err .dma, .err .dram, .err .pot, .fld (HDR.ev_raw .dma), .fld (HDR.ev_raw .dram),
   .fld (HDR.ev_raw .pot), .fld DMA.STAT.state, .fld RSCHED.PIN_COUNT.pinned, .mem, .pot, .resp, .rings, .sent, .world]

theorem execDmaCtrlResume_frame {LL rr w n s} (h_s : Frame LL rr s) (hT : Cov execDmaCtrlResume_T LL) :
    FrameN LL rr (execDmaCtrlResume w n s) := by
  delta execDmaCtrlResume
  exact FrameN.next (dmaCtrl_frame h_s (pick_sub 0x7ffff rfl hT))

/-- What execDmaFence may change. -/
def execDmaFence_T : List Piece :=
  [.ctr .dma, .ctr .dram, .ctr .dramq, .ctr .pot, .ctr .rsched, .dram, .err .dram, .err .pot, .fld (HDR.ev_raw .dram), .fld (HDR.ev_raw .pot),
   .fld DMA.CRC_STATE.crc, .fld DMA.STAT.state, .fld RSCHED.PIN_COUNT.pinned, .free, .mem, .pot, .rings, .sent]

theorem execDmaFence_frame {LL rr n s} (h_s : Frame LL rr s) (hT : Cov execDmaFence_T LL) :
    FrameN LL rr (execDmaFence n s) := by
  delta execDmaFence
  exact FrameN.next (dmaRun_frame h_s (pick_sub 0x3ffff rfl hT))

/-- What execDmaFill may change. -/
def execDmaFill_T : List Piece :=
  [.ctr .dma, .ctr .dram, .ctr .dramq, .ctr .pot, .ctr .rsched, .dram, .err .dram, .err .pot, .fld (HDR.ev_raw .dram), .fld (HDR.ev_raw .pot),
   .fld DMA.CRC_STATE.crc, .fld DMA.STAT.state, .fld RSCHED.PIN_COUNT.pinned, .free, .mem, .pot, .rings, .sent]

theorem execDmaFill_frame {LL rr n s} (h_s : Frame LL rr s) (hT : Cov execDmaFill_T LL) :
    FrameN LL rr (execDmaFill n s) := by
  delta execDmaFill
  exact FrameN.next (dmaRun_frame h_s (pick_sub 0x3ffff rfl hT))

/-- What execDmaGather may change. -/
def execDmaGather_T : List Piece :=
  [.ctr .dma, .ctr .dram, .ctr .dramq, .ctr .pot, .ctr .rsched, .dram, .err .dram, .err .pot, .fld (HDR.ev_raw .dram), .fld (HDR.ev_raw .pot),
   .fld DMA.CRC_STATE.crc, .fld DMA.STAT.state, .fld RSCHED.PIN_COUNT.pinned, .free, .mem, .pot, .rings, .sent]

theorem execDmaGather_frame {LL rr n s} (h_s : Frame LL rr s) (hT : Cov execDmaGather_T LL) :
    FrameN LL rr (execDmaGather n s) := by
  delta execDmaGather
  exact FrameN.next (dmaRun_frame h_s (pick_sub 0x3ffff rfl hT))

/-- What execDmaHaltTimeout may change. -/
def execDmaHaltTimeout_T : List Piece :=
  [.ctr .dma, .ctr .dram, .ctr .dramq, .ctr .pot, .ctr .rsched, .err .dram, .err .pot, .fld (HDR.ev_raw .dma), .fld (HDR.ev_raw .dram),
   .fld (HDR.ev_raw .pot), .fld DMA.STAT.state, .fld RSCHED.PIN_COUNT.pinned, .mem, .pot, .rings, .sent]

theorem execDmaHaltTimeout_frame {LL rr n s} (h_s : Frame LL rr s) (hT : Cov execDmaHaltTimeout_T LL) :
    FrameN LL rr (execDmaHaltTimeout n s) := by
  delta execDmaHaltTimeout
  exact FrameN.next (by
      split
      · exact h_s
      · exact Frame.ite h_s (dmaEnd_frame (raise_frame (count_frame h_s (pick_sub 0x1 rfl hT)) (pick_sub 0x8080 rfl hT)) (pick_sub 0xff7e rfl hT)))

/-- What execDmaJobDone may change. -/
def execDmaJobDone_T : List Piece :=
  [.ctr .dram, .ctr .dramq, .ctr .pot, .ctr .rsched, .dram, .err .dram, .err .pot, .fld (HDR.ev_raw .dram), .fld (HDR.ev_raw .pot),
   .fld DMA.STAT.state, .fld RSCHED.PIN_COUNT.pinned, .mem, .pot, .rings, .sent]

theorem execDmaJobDone_frame {LL rr n s} (h_s : Frame LL rr s) (hT : Cov execDmaJobDone_T LL) :
    FrameN LL rr (execDmaJobDone n s) := by
  delta execDmaJobDone
  exact FrameN.next (by
      split
      · exact h_s
      · exact Frame.ite h_s (Frame.ite (by
            split
            · rename_i a8
              have h9 := FrameP.eq (L := LL) (r := rr) a8 (signal_frame h_s (pick_sub 0x79ff rfl hT))
              exact dmaEnd_frame h9 (pick_sub 0x7fef rfl hT)
            · rename_i a14
              have h15 := FrameP.eq (L := LL) (r := rr) a14 (signal_frame h_s (pick_sub 0x79ff rfl hT))
              exact dmaEnd_frame h15 (pick_sub 0x7fef rfl hT)) (dmaEnd_frame h_s (pick_sub 0x7fef rfl hT))))

/-- What execDmaScatter may change. -/
def execDmaScatter_T : List Piece :=
  [.ctr .dma, .ctr .dram, .ctr .dramq, .ctr .pot, .ctr .rsched, .dram, .err .dram, .err .pot, .fld (HDR.ev_raw .dram), .fld (HDR.ev_raw .pot),
   .fld DMA.CRC_STATE.crc, .fld DMA.STAT.state, .fld RSCHED.PIN_COUNT.pinned, .free, .mem, .pot, .rings, .sent]

theorem execDmaScatter_frame {LL rr n s} (h_s : Frame LL rr s) (hT : Cov execDmaScatter_T LL) :
    FrameN LL rr (execDmaScatter n s) := by
  delta execDmaScatter
  exact FrameN.next (dmaRun_frame h_s (pick_sub 0x3ffff rfl hT))

/-- What execDoorbellAbort may change. -/
def execDoorbellAbort_T : List Piece :=
  [.ctr .dma, .ctr .dram, .ctr .dramq, .ctr .mgr, .ctr .pot, .ctr .rsched, .err .dma, .err .dram, .err .pot, .err .rsched, .fld (HDR.ev_raw .dma),
   .fld (HDR.ev_raw .dram), .fld (HDR.ev_raw .pot), .fld (HDR.ev_raw .rsched), .fld DMA.STAT.state, .fld RSCHED.PIN_COUNT.pinned, .mem, .pot,
   .resp, .rings, .sent]

theorem execDoorbellAbort_frame {LL rr k r s} (h_s : Frame LL rr s) (hT : Cov execDoorbellAbort_T LL) :
    FrameN LL rr (execDoorbellAbort k r s) := by
  delta execDoorbellAbort
  exact FrameN.next (doorbell_frame h_s (pick_sub 0x1fffff rfl hT))

/-- What execDoorbellConsumerUpdate may change. -/
def execDoorbellConsumerUpdate_T : List Piece :=
  [.ctr .dma, .ctr .dram, .ctr .dramq, .ctr .mgr, .ctr .pot, .ctr .rsched, .err .dma, .err .dram, .err .pot, .err .rsched, .fld (HDR.ev_raw .dma),
   .fld (HDR.ev_raw .dram), .fld (HDR.ev_raw .pot), .fld (HDR.ev_raw .rsched), .fld DMA.STAT.state, .fld RSCHED.PIN_COUNT.pinned, .mem, .pot,
   .resp, .rings, .sent]

theorem execDoorbellConsumerUpdate_frame {LL rr k r index s} (h_s : Frame LL rr s) (hT : Cov execDoorbellConsumerUpdate_T LL) :
    FrameN LL rr (execDoorbellConsumerUpdate k r index s) := by
  delta execDoorbellConsumerUpdate
  exact FrameN.next (doorbell_frame h_s (pick_sub 0x1fffff rfl hT))

/-- What execDoorbellFenceNotify may change. -/
def execDoorbellFenceNotify_T : List Piece :=
  [.ctr .dma, .ctr .dram, .ctr .dramq, .ctr .mgr, .ctr .pot, .ctr .rsched, .err .dma, .err .dram, .err .pot, .err .rsched, .fld (HDR.ev_raw .dma),
   .fld (HDR.ev_raw .dram), .fld (HDR.ev_raw .pot), .fld (HDR.ev_raw .rsched), .fld DMA.STAT.state, .fld RSCHED.PIN_COUNT.pinned, .mem, .pot,
   .resp, .rings, .sent]

theorem execDoorbellFenceNotify_frame {LL rr k slot s} (h_s : Frame LL rr s) (hT : Cov execDoorbellFenceNotify_T LL) :
    FrameN LL rr (execDoorbellFenceNotify k slot s) := by
  delta execDoorbellFenceNotify
  exact FrameN.next (doorbell_frame h_s (pick_sub 0x1fffff rfl hT))

/-- What execDoorbellProducerUpdate may change. -/
def execDoorbellProducerUpdate_T : List Piece :=
  [.ctr .dma, .ctr .dram, .ctr .dramq, .ctr .mgr, .ctr .pot, .ctr .rsched, .err .dma, .err .dram, .err .pot, .err .rsched, .fld (HDR.ev_raw .dma),
   .fld (HDR.ev_raw .dram), .fld (HDR.ev_raw .pot), .fld (HDR.ev_raw .rsched), .fld DMA.STAT.state, .fld RSCHED.PIN_COUNT.pinned, .mem, .pot,
   .resp, .rings, .sent]

theorem execDoorbellProducerUpdate_frame {LL rr k r tail s} (h_s : Frame LL rr s) (hT : Cov execDoorbellProducerUpdate_T LL) :
    FrameN LL rr (execDoorbellProducerUpdate k r tail s) := by
  delta execDoorbellProducerUpdate
  exact FrameN.next (doorbell_frame h_s (pick_sub 0x1fffff rfl hT))

/-- What execDoorbellResume may change. -/
def execDoorbellResume_T : List Piece :=
  [.ctr .dma, .ctr .dram, .ctr .dramq, .ctr .mgr, .ctr .pot, .ctr .rsched, .err .dma, .err .dram, .err .pot, .err .rsched, .fld (HDR.ev_raw .dma),
   .fld (HDR.ev_raw .dram), .fld (HDR.ev_raw .pot), .fld (HDR.ev_raw .rsched), .fld DMA.STAT.state, .fld RSCHED.PIN_COUNT.pinned, .mem, .pot,
   .resp, .rings, .sent]

theorem execDoorbellResume_frame {LL rr k r s} (h_s : Frame LL rr s) (hT : Cov execDoorbellResume_T LL) :
    FrameN LL rr (execDoorbellResume k r s) := by
  delta execDoorbellResume
  exact FrameN.next (doorbell_frame h_s (pick_sub 0x1fffff rfl hT))

/-- What execEventRecordDeliver may change. -/
def execEventRecordDeliver_T : List Piece :=
  [.ctr .dram, .ctr .dramq, .ctr .pot, .ctr .rsched, .dram, .err .dram, .err .pot, .err .rsched, .events, .fld (HDR.ev_raw .dram),
   .fld (HDR.ev_raw .pot), .fld (HDR.ev_raw .rsched), .mem, .pot, .rings, .sent]

theorem execEventRecordDeliver_frame {LL rr k s} (h_s : Frame LL rr s) (hT : Cov execEventRecordDeliver_T LL) :
    FrameN LL rr (execEventRecordDeliver k s) := by
  delta execEventRecordDeliver
  exact FrameN.next (deliver_frame h_s (pick_sub 0xffff rfl hT))

/-- What execMigrateDone may change. -/
def execMigrateDone_T : List Piece :=
  [.ctr .rsched, .fld (HDR.ev_raw .rsched), .rings, .sent]

theorem execMigrateDone_frame {LL rr r s} (h_s : Frame LL rr s) (hT : Cov execMigrateDone_T LL) :
    FrameN LL rr (execMigrateDone r s) := by
  delta execMigrateDone
  extract_lets c_1
  exact FrameN.next (Frame.ite (migrated_frame h_s (pick_sub 0xf rfl hT)) h_s)

/-- What execRingDisabled may change. -/
def execRingDisabled_T : List Piece :=
  [.fld RSCHED.PIN_COUNT.pinned, .rings]

theorem execRingDisabled_frame {LL rr r s} (h_s : Frame LL rr s) (hT : Cov execRingDisabled_T LL) :
    FrameN LL rr (execRingDisabled r s) := by
  delta execRingDisabled
  exact FrameN.next (tryDisable_frame h_s (pick_sub 0x3 rfl hT))

/-- What execRingDoorbellInvalid may change. -/
def execRingDoorbellInvalid_T : List Piece :=
  [.ctr .dma, .ctr .dram, .ctr .dramq, .ctr .mgr, .ctr .pot, .ctr .rsched, .err .dma, .err .dram, .err .pot, .err .rsched, .fld (HDR.ev_raw .dma),
   .fld (HDR.ev_raw .dram), .fld (HDR.ev_raw .pot), .fld (HDR.ev_raw .rsched), .fld DMA.STAT.state, .fld RSCHED.PIN_COUNT.pinned, .mem, .pot,
   .resp, .rings, .sent]

theorem execRingDoorbellInvalid_frame {LL rr k r v s} (h_s : Frame LL rr s) (hT : Cov execRingDoorbellInvalid_T LL) :
    FrameN LL rr (execRingDoorbellInvalid k r v s) := by
  delta execRingDoorbellInvalid
  exact FrameN.next (doorbell_frame h_s (pick_sub 0x1fffff rfl hT))

end Sys2Proof.Laws
end

