-- ==== Sys2Proof/Laws/FrameComp.lean ====
section
/-! SUPPORT. What the operations and commands of Machine/Comp.lean may change: the parts of each, and that nothing else changes. -/

set_option Elab.async false

namespace Sys2Proof.Laws

open Machine

/-- What State.setWb may change. -/
def setWb_T : List Piece :=
  [.comp]

theorem setWb_frame {LL rr s h v} (h_s : Frame LL rr s) (hT : Cov setWb_T LL) :
    Frame LL rr (State.setWb s h v) := by
  delta State.setWb
  exact Frame.upd h_s (m_comp := .inl (nth 0 rfl hT))

/-- What State.compApply may change. -/
def compApply_T : List Piece :=
  [.blk .comp, .comp, .fld (HDR.commit_seq .comp), .fld (HDR.ev_raw .comp), .fld (HDR.pending .comp), .fld COMP.WB_SEQ.w, .parts, .sent, .staged]

theorem compApply_frame {LL rr s n j} (h_s : Frame LL rr s) (hT : Cov compApply_T LL) :
    Frame LL rr (State.compApply s n j) := by
  delta State.compApply
  extract_lets pg_1 left_2 was_3 s1_4 u_5 s2_6 h_7 s3_8
  have h_s1_4 : Frame LL rr s1_4 := by
      unfold s1_4
      exact applyPart_frame h_s (pick_sub 0x1 rfl hT)
  have h_s2_6 : Frame LL rr s2_6 := by
      unfold s2_6
      exact Frame.upd h_s1_4 (m_parts := .inl (nth 6 rfl hT))
  have h_s3_8 : Frame LL rr s3_8 := by
      unfold s3_8
      exact Frame.ite (wr_frame (setWb_frame h_s2_6 (pick_sub 0x2 rfl hT)) (pick_sub 0x20 rfl hT)) h_s2_6
  clear_value s1_4 s2_6 s3_8
  exact Frame.ite h_s (Frame.ite (commitDone_frame h_s3_8 (pick_sub 0x19c rfl hT)) h_s3_8)

/-- What State.setPend may change. -/
def setPend_T : List Piece :=
  [.comp]

theorem setPend_frame {LL rr s h l} (h_s : Frame LL rr s) (hT : Cov setPend_T LL) :
    Frame LL rr (State.setPend s h l) := by
  delta State.setPend
  exact Frame.upd h_s (m_comp := .inl (nth 0 rfl hT))

/-- What State.packetEnd may change. -/
def packetEnd_T : List Piece :=
  [.comp, .rings]

theorem packetEnd_frame {LL rr s p kind code detail info} (h_s : Frame LL rr s) (hT : Cov packetEnd_T LL) :
    Frame LL rr (State.packetEnd s p kind code detail info) := by
  delta State.packetEnd
  extract_lets s1_1 u_2
  have h_s1_1 : Frame LL rr s1_1 := by
      unfold s1_1
      exact Frame.foldl h_s (fun t3 x4 h5 => dropWait_frame h5 (pick_sub 0x2 rfl hT))
  clear_value s1_1
  exact Frame.upd h_s1_1 (m_comp := .inl (nth 0 rfl hT))

/-- What State.flipDiscarded may change. -/
def flipDiscarded_T : List Piece :=
  [.evSeq, .events]

theorem flipDiscarded_frame {LL rr s h l} (h_s : Frame LL rr s) (hT : Cov flipDiscarded_T LL) :
    Frame LL rr (State.flipDiscarded s h l) := by
  delta State.flipDiscarded
  exact event_frame h_s (pick_sub 0x3 rfl hT)

/-- What State.discardHead may change. -/
def discardHead_T : List Piece :=
  [.comp, .ctr .comp, .evSeq, .events, .rings]

theorem discardHead_frame {LL rr s h} (h_s : Frame LL rr s) (hT : Cov discardHead_T LL) :
    Frame LL rr (State.discardHead s h) := by
  delta State.discardHead
  extract_lets bad_1 s1_2
  have h_s1_2 : Frame LL rr s1_2 := by
      unfold s1_2
      exact setPend_frame h_s (pick_sub 0x1 rfl hT)
  clear_value s1_2
  exact Frame.foldl h_s1_2 (fun t3 x4 h5 => by
      extract_lets u_6
      have h_u_6 : Frame LL rr u_6 := by
          unfold u_6
          exact count_frame (packetEnd_frame h5 (pick_sub 0x11 rfl hT)) (pick_sub 0x2 rfl hT)
      clear_value u_6
      exact Frame.foldl h_u_6 (fun t7 x8 h9 => flipDiscarded_frame h9 (pick_sub 0xc rfl hT)))

/-- What State.compShow may change. -/
def compShow_T : List Piece :=
  [.fld COMP.COEF_USE.banks, .fld COMP.ENG_STAT.busy0, .fld COMP.ENG_STAT.busy1, .fld COMP.ENG_STAT.late0, .fld COMP.ENG_STAT.late1,
   .fld COMP.ENG_STAT.pending0, .fld COMP.ENG_STAT.pending1, .fld COMP.LAYER_ADDR.addr, .fld COMP.LAYER_STAT.bank, .fld COMP.LAYER_STAT.enabled,
   .fld COMP.LAYER_STAT.format, .fld COMP.LAYER_STAT.substituted]

theorem compShow_frame {LL rr s n} (h_s : Frame LL rr s) (hT : Cov compShow_T LL) :
    Frame LL rr (State.compShow s n) := by
  delta State.compShow
  extract_lets h0_1 h1_2 on_3 s1_4 use_5 s2_6
  have h_s1_4 : Frame LL rr s1_4 := by
      unfold s1_4
      exact wr_frame (wr_frame (wr_frame (wr_frame (wr_frame (wr_frame h_s (pick_sub 0x2 rfl hT)) (pick_sub 0x4 rfl hT)) (pick_sub 0x8 rfl hT)) (pick_sub 0x10 rfl hT)) (pick_sub 0x20 rfl hT)) (pick_sub 0x40 rfl hT)
  have h_s2_6 : Frame LL rr s2_6 := by
      unfold s2_6
      exact wr_frame h_s1_4 (pick_sub 0x1 rfl hT)
  clear_value s1_4 s2_6
  exact Frame.foldl h_s2_6 (fun t7 x8 h9 => by
      extract_lets l_10
      exact wr_frame (wr_frame (wr_frame (wrB_frame (wrB_frame h9 (pick_sub 0x200 rfl hT)) (pick_sub 0x800 rfl hT)) (pick_sub 0x100 rfl hT)) (pick_sub 0x400 rfl hT)) (pick_sub 0x80 rfl hT))

/-- What State.drainEnds may change. -/
def drainEnds_T : List Piece :=
  [.comp, .fld RSCHED.PIN_COUNT.pinned, .rings]

theorem drainEnds_frame {LL rr p0 p1 p2} (h_p1 : Frame LL rr p1) (hT : Cov drainEnds_T LL) :
    Frame LL rr (State.drainEnds p0 p1 p2) := by
  induction p0 generalizing p1 p2
  · unfold State.drainEnds
    exact h_p1
  · rename_i m ih
    unfold State.drainEnds
    split
    · exact h_p1
    · extract_lets u_12 s1_13
      have h_s1_13 : Frame LL rr s1_13 := by
          unfold s1_13
          exact Frame.upd h_p1 (m_comp := .inl (nth 0 rfl hT))
      clear_value s1_13
      exact ih (endJob_frame h_s1_13 (pick_sub 0x6 rfl hT))

/-- What State.discard may change. -/
def discard_T : List Piece :=
  [.comp, .ctr .comp, .evSeq, .events, .fld COMP.COEF_USE.banks, .fld COMP.ENG_STAT.busy0, .fld COMP.ENG_STAT.busy1, .fld COMP.ENG_STAT.late0,
   .fld COMP.ENG_STAT.late1, .fld COMP.ENG_STAT.pending0, .fld COMP.ENG_STAT.pending1, .fld COMP.LAYER_ADDR.addr, .fld COMP.LAYER_STAT.bank,
   .fld COMP.LAYER_STAT.enabled, .fld COMP.LAYER_STAT.format, .fld COMP.LAYER_STAT.substituted, .fld RSCHED.PIN_COUNT.pinned, .rings]

theorem discard_frame {LL rr s n} (h_s : Frame LL rr s) (hT : Cov discard_T LL) :
    Frame LL rr (State.discard s n) := by
  delta State.discard
  extract_lets s1_1
  have h_s1_1 : Frame LL rr s1_1 := by
      unfold s1_1
      exact discardHead_frame (discardHead_frame h_s (pick_sub 0x2000f rfl hT)) (pick_sub 0x2000f rfl hT)
  clear_value s1_1
  exact compShow_frame (drainEnds_frame h_s1_1 (pick_sub 0x30001 rfl hT)) (pick_sub 0xfff0 rfl hT)

/-- What State.discardAll may change. -/
def discardAll_T : List Piece :=
  [.comp, .ctr .comp, .evSeq, .events, .fld COMP.COEF_USE.banks, .fld COMP.ENG_STAT.busy0, .fld COMP.ENG_STAT.busy1, .fld COMP.ENG_STAT.late0,
   .fld COMP.ENG_STAT.late1, .fld COMP.ENG_STAT.pending0, .fld COMP.ENG_STAT.pending1, .fld COMP.LAYER_ADDR.addr, .fld COMP.LAYER_STAT.bank,
   .fld COMP.LAYER_STAT.enabled, .fld COMP.LAYER_STAT.format, .fld COMP.LAYER_STAT.substituted, .fld RSCHED.PIN_COUNT.pinned, .rings]

theorem discardAll_frame {LL rr s} (h_s : Frame LL rr s) (hT : Cov discardAll_T LL) :
    Frame LL rr (State.discardAll s) := by
  delta State.discardAll
  exact Frame.foldl h_s (fun t1 x2 h3 => discard_frame h3 (pick_sub 0x3ffff rfl hT))

/-- What State.coefAdvance may change. -/
def coefAdvance_T : List Piece :=
  [.fld COMP.COEF_SEL.phase, .fld COMP.COEF_SEL.word]

theorem coefAdvance_frame {LL rr s n} (h_s : Frame LL rr s) (hT : Cov coefAdvance_T LL) :
    Frame LL rr (State.coefAdvance s n) := by
  delta State.coefAdvance
  extract_lets last_1
  exact Frame.ite (wr_frame h_s (pick_sub 0x2 rfl hT)) (wr_frame (wr_frame h_s (pick_sub 0x2 rfl hT)) (pick_sub 0x1 rfl hT))

/-- What State.coefWrite may change. -/
def coefWrite_T : List Piece :=
  [.ctr .comp, .ctr .pot, .err .comp, .err .pot, .fld (HDR.dirty .comp), .fld (HDR.ev_raw .comp), .fld (HDR.ev_raw .pot), .fld COMP.COEF_SEL.phase,
   .fld COMP.COEF_SEL.word, .reg .comp 0x134, .resp, .sent, .world]

theorem coefWrite_frame {LL rr s w n v} (h_s : Frame LL rr s) (hT : Cov coefWrite_T LL) :
    Frame LL rr (State.coefWrite s w n v) := by
  delta State.coefWrite
  exact onWrite_frame h_s (fun t1 h2 => Frame.ite (count_frame (refuse_frame h2 (pick_sub 0xc24 rfl hT)) (pick_sub 0x1 rfl hT)) (coefAdvance_frame (storeWord_frame h2 (pick_sub 0x210 rfl hT)) (pick_sub 0x180 rfl hT))) (idx_sub [1, 3, 2, 6, 5, 10, 11, 12] rfl hT)

/-- What State.substWrite may change. -/
def substWrite_T : List Piece :=
  [.comp, .ctr .pot, .err .comp, .err .pot, .fld (HDR.dirty .comp), .fld (HDR.ev_raw .comp), .fld (HDR.ev_raw .pot), .reg .comp 0x148, .resp,
   .sent, .world]

theorem substWrite_frame {LL rr s w n v} (h_s : Frame LL rr s) (hT : Cov substWrite_T LL) :
    Frame LL rr (State.substWrite s w n v) := by
  delta State.substWrite
  extract_lets k_1
  exact onWrite_frame h_s (fun t2 h3 => by
      extract_lets t1_4 u_5
      have h_t1_4 : Frame LL rr t1_4 := by
          unfold t1_4
          exact storeWord_frame h3 (pick_sub 0x90 rfl hT)
      clear_value t1_4
      exact Frame.ite (Frame.upd h_t1_4 (m_comp := .inl (nth 0 rfl hT))) h_t1_4) (idx_sub [1, 3, 2, 6, 5, 8, 9, 10] rfl hT)

/-- What State.setLayer may change. -/
def setLayer_T : List Piece :=
  [.comp]

theorem setLayer_frame {LL rr s h l v} (h_s : Frame LL rr s) (hT : Cov setLayer_T LL) :
    Frame LL rr (State.setLayer s h l v) := by
  delta State.setLayer
  exact Frame.upd h_s (m_comp := .inl (nth 0 rfl hT))

/-- What State.applyPacket may change. -/
def applyPacket_T : List Piece :=
  [.comp, .ctr .comp, .evSeq, .events, .fld COMP.LAYER_SUBST.force]

theorem applyPacket_frame {LL rr s h p seen} (h_s : Frame LL rr s) (hT : Cov applyPacket_T LL) :
    Frame LL rr (State.applyPacket s h p seen) := by
  delta State.applyPacket
  extract_lets n_1 s1_2
  have h_s1_2 : Frame LL rr s1_2 := by
      unfold s1_2
      exact Frame.foldl h_s (fun t3 x4 h5 => by
          extract_lets l_6 t1_7 u_8 t2_9 u_10 t3_11
          have h_t1_7 : Frame LL rr t1_7 := by
              unfold t1_7
              exact Frame.ite (count_frame (flipDiscarded_frame h5 (pick_sub 0xc rfl hT)) (pick_sub 0x2 rfl hT)) h5
          have h_t2_9 : Frame LL rr t2_9 := by
              unfold t2_9
              exact setLayer_frame h_t1_7 (pick_sub 0x1 rfl hT)
          have h_t3_11 : Frame LL rr t3_11 := by
              unfold t3_11
              exact Frame.upd h_t2_9 (m_comp := .inl (nth 0 rfl hT))
          clear_value t1_7 t2_9 t3_11
          exact wr_frame h_t3_11 (pick_sub 0x10 rfl hT))
  clear_value s1_2
  exact count_frame h_s1_2 (pick_sub 0x2 rfl hT)

/-- What State.compBlank may change. -/
def compBlank_T : List Piece :=
  [.comp, .ctr .comp, .evSeq, .events, .fld (HDR.ev_raw .comp), .fld COMP.COEF_USE.banks, .fld COMP.ENG_STAT.busy0, .fld COMP.ENG_STAT.busy1,
   .fld COMP.ENG_STAT.late0, .fld COMP.ENG_STAT.late1, .fld COMP.ENG_STAT.pending0, .fld COMP.ENG_STAT.pending1, .fld COMP.LAYER_ADDR.addr,
   .fld COMP.LAYER_STAT.bank, .fld COMP.LAYER_STAT.enabled, .fld COMP.LAYER_STAT.format, .fld COMP.LAYER_STAT.substituted, .sent]

theorem compBlank_frame {LL rr s h} (h_s : Frame LL rr s) (hT : Cov compBlank_T LL) :
    FrameP LL rr (State.compBlank s h) := by
  delta State.compBlank
  extract_lets n_1 u_2 s1_3 s2_4
  have h_s1_3 : Frame LL rr s1_3 := by
      unfold s1_3
      exact Frame.upd h_s (m_comp := .inl (nth 0 rfl hT))
  have h_s2_4 : Frame LL rr s2_4 := by
      unfold s2_4
      exact eventHead_frame (raise_frame (count_frame h_s1_3 (pick_sub 0x2 rfl hT)) (pick_sub 0x20010 rfl hT)) (pick_sub 0xc rfl hT)
  clear_value s1_3 s2_4
  exact FrameP.ite (FrameP.mk h_s) (FrameP.ite (FrameP.mk (Frame.upd h_s (m_comp := .inl (nth 0 rfl hT)))) (FrameP.ite (FrameP.mk h_s) (FrameP.mk (compShow_frame h_s2_4 (pick_sub 0x1ffe0 rfl hT)))))

/-- What State.setLatched may change. -/
def setLatched_T : List Piece :=
  [.comp]

theorem setLatched_frame {LL rr s h l} (h_s : Frame LL rr s) (hT : Cov setLatched_T LL) :
    Frame LL rr (State.setLatched s h l) := by
  delta State.setLatched
  exact Frame.upd h_s (m_comp := .inl (nth 0 rfl hT))

/-- What State.packetDone may change. -/
def packetDone_T : List Piece :=
  [.comp, .ctr .dram, .ctr .dramq, .ctr .pot, .ctr .rsched, .dram, .err .dram, .err .pot, .fld (HDR.ev_raw .dram), .fld (HDR.ev_raw .pot), .mem,
   .pot, .rings, .sent]

theorem packetDone_frame {LL rr s p frame} (h_s : Frame LL rr s) (hT : Cov packetDone_T LL) :
    Frame LL rr (State.packetDone s p frame) := by
  delta State.packetDone
  exact Frame.ite (by
      split
      · rename_i a3
        have h4 := FrameP.eq (L := LL) (r := rr) a3 (signal_frame h_s (pick_sub 0x3ffe rfl hT))
        exact packetEnd_frame h4 (pick_sub 0x1001 rfl hT)
      · rename_i a9
        have h10 := FrameP.eq (L := LL) (r := rr) a9 (signal_frame h_s (pick_sub 0x3ffe rfl hT))
        exact packetEnd_frame h10 (pick_sub 0x1001 rfl hT)) (packetEnd_frame h_s (pick_sub 0x1001 rfl hT))

/-- What State.endLatched may change. -/
def endLatched_T : List Piece :=
  [.comp, .ctr .dram, .ctr .dramq, .ctr .pot, .ctr .rsched, .dram, .err .dram, .err .pot, .fld (HDR.ev_raw .dram), .fld (HDR.ev_raw .pot),
   .fld COMP.COEF_USE.banks, .fld COMP.ENG_STAT.busy0, .fld COMP.ENG_STAT.busy1, .fld COMP.ENG_STAT.late0, .fld COMP.ENG_STAT.late1,
   .fld COMP.ENG_STAT.pending0, .fld COMP.ENG_STAT.pending1, .fld COMP.LAYER_ADDR.addr, .fld COMP.LAYER_STAT.bank, .fld COMP.LAYER_STAT.enabled,
   .fld COMP.LAYER_STAT.format, .fld COMP.LAYER_STAT.substituted, .fld RSCHED.PIN_COUNT.pinned, .mem, .pot, .rings, .sent]

theorem endLatched_frame {LL rr s h frame} (h_s : Frame LL rr s) (hT : Cov endLatched_T LL) :
    Frame LL rr (State.endLatched s h frame) := by
  delta State.endLatched
  extract_lets ps_1 s1_2
  have h_s1_2 : Frame LL rr s1_2 := by
      unfold s1_2
      exact Frame.foldl (setLatched_frame h_s (pick_sub 0x1 rfl hT)) (fun t3 x4 h5 => packetDone_frame h5 (pick_sub 0x78003ff rfl hT))
  clear_value s1_2
  exact compShow_frame (drainEnds_frame h_s1_2 (pick_sub 0x2400001 rfl hT)) (pick_sub 0x3ffc00 rfl hT)

/-- What State.packetRefused may change. -/
def packetRefused_T : List Piece :=
  [.comp, .fld RSCHED.PIN_COUNT.pinned, .rings]

theorem packetRefused_frame {LL rr s n j code idx} (h_s : Frame LL rr s) (hT : Cov packetRefused_T LL) :
    Frame LL rr (State.packetRefused s n j code idx) := by
  delta State.packetRefused
  extract_lets p_1 u_2 s1_3 s2_4
  have h_s1_3 : Frame LL rr s1_3 := by
      unfold s1_3
      exact Frame.upd h_s (m_comp := .inl (nth 0 rfl hT))
  have h_s2_4 : Frame LL rr s2_4 := by
      unfold s2_4
      exact packetEnd_frame h_s1_3 (pick_sub 0x5 rfl hT)
  clear_value s1_3 s2_4
  exact drainEnds_frame h_s2_4 (pick_sub 0x7 rfl hT)

/-- What State.commitPacket may change. -/
def commitPacket_T : List Piece :=
  [.comp, .ctr .comp, .ctr .dram, .ctr .dramq, .ctr .pot, .ctr .rsched, .err .dram, .err .pot, .evSeq, .events, .fld (HDR.ev_raw .dram),
   .fld (HDR.ev_raw .pot), .fld COMP.COEF_USE.banks, .fld COMP.ENG_STAT.busy0, .fld COMP.ENG_STAT.busy1, .fld COMP.ENG_STAT.late0,
   .fld COMP.ENG_STAT.late1, .fld COMP.ENG_STAT.pending0, .fld COMP.ENG_STAT.pending1, .fld COMP.LAYER_ADDR.addr, .fld COMP.LAYER_STAT.bank,
   .fld COMP.LAYER_STAT.enabled, .fld COMP.LAYER_STAT.format, .fld COMP.LAYER_STAT.substituted, .fld RSCHED.PIN_COUNT.pinned, .mem, .pot, .rings,
   .sent]

theorem commitPacket_frame {LL rr s n} (h_s : Frame LL rr s) (hT : Cov commitPacket_T LL) :
    Frame LL rr (State.commitPacket s n) := by
  delta State.commitPacket
  split
  · exact h_s
  · extract_lets s0_6 d_7 h_8 cnt_9 q_10 sr_11 recs_12 p_13 u_14 s1_15 s2_16
    have h_s0_6 : Frame LL rr s0_6 := by
        unfold s0_6
        exact setJob_frame h_s (pick_sub 0x8000000 rfl hT)
    have h_sr_11 : Frame LL rr sr_11 := by
        unfold sr_11
        exact fetched_frame h_s0_6 (pick_sub 0x600001c rfl hT)
    have h_s1_15 : Frame LL rr s1_15 := by
        unfold s1_15
        exact setPend_frame (Frame.upd h_sr_11 (m_comp := .inl (nth 0 rfl hT))) (pick_sub 0x1 rfl hT)
    have h_s2_16 : Frame LL rr s2_16 := by
        unfold s2_16
        exact Frame.foldl h_s1_15 (fun t17 x18 h19 => by
            extract_lets r_20
            exact Frame.ite (addWait_frame h19 (pick_sub 0x1e000cfc rfl hT)) h19)
    clear_value s0_6 sr_11 s1_15 s2_16
    exact Frame.ite (packetRefused_frame h_s0_6 (pick_sub 0x9000001 rfl hT)) (by
        split
        · exact packetRefused_frame (memRecord_frame h_s0_6 (pick_sub 0x10000cd4 rfl hT)) (pick_sub 0x9000001 rfl hT)
        · split
          · exact packetRefused_frame h_sr_11 (pick_sub 0x9000001 rfl hT)
          · exact discard_frame h_s2_16 (pick_sub 0x9fff303 rfl hT))

/-- What State.compBoundary may change. -/
def compBoundary_T : List Piece :=
  [.ctr .comp, .ctr .dram, .ctr .dramq, .ctr .pot, .ctr .rsched, .err .dram, .err .pot, .fld (HDR.ev_raw .dram), .fld (HDR.ev_raw .pot), .mem,
   .pot, .rings, .sent]

theorem compBoundary_frame {LL rr s n} (h_s : Frame LL rr s) (hT : Cov compBoundary_T LL) :
    Frame LL rr (State.compBoundary s n) := by
  delta State.compBoundary
  exact Frame.ite h_s (by
      extract_lets all_1 room_2 s1_3
      have h_s1_3 : Frame LL rr s1_3 := by
          unfold s1_3
          exact Frame.ite (count_frame h_s (pick_sub 0x1 rfl hT)) h_s
      clear_value s1_3
      split
      · exact startJob_frame h_s1_3 (pick_sub 0x1ffe rfl hT)
      · exact h_s1_3)

/-- What State.compLatch may change. -/
def compLatch_T : List Piece :=
  [.comp, .ctr .comp, .evSeq, .events, .fld COMP.COEF_USE.banks, .fld COMP.ENG_STAT.busy0, .fld COMP.ENG_STAT.busy1, .fld COMP.ENG_STAT.late0,
   .fld COMP.ENG_STAT.late1, .fld COMP.ENG_STAT.pending0, .fld COMP.ENG_STAT.pending1, .fld COMP.LAYER_ADDR.addr, .fld COMP.LAYER_STAT.bank,
   .fld COMP.LAYER_STAT.enabled, .fld COMP.LAYER_STAT.format, .fld COMP.LAYER_STAT.substituted, .fld COMP.LAYER_SUBST.force,
   .fld RSCHED.PIN_COUNT.pinned, .rings]

theorem compLatch_frame {LL rr s h met} (h_s : Frame LL rr s) (hT : Cov compLatch_T LL) :
    Frame LL rr (State.compLatch s h met) := by
  delta State.compLatch
  extract_lets n_1 s0_2
  have h_s0_2 : Frame LL rr s0_2 := by
      unfold s0_2
      exact discardHead_frame h_s (pick_sub 0x4000f rfl hT)
  clear_value s0_2
  split
  · extract_lets s1_7 r_8 s2_9 u_10 s3_11
    have h_s1_7 : Frame LL rr s1_7 := by
        unfold s1_7
        exact setLatched_frame (setPend_frame h_s0_2 (pick_sub 0x1 rfl hT)) (pick_sub 0x1 rfl hT)
    have h_r_8 : FrameP LL rr r_8 := by
        unfold r_8
        exact FrameP.foldl (FrameP.mk h_s1_7) (fun t12 x13 h14 => FrameP.mk (applyPacket_frame (FrameP.fst h14) (pick_sub 0x1000f rfl hT)))
    have h_s2_9 : Frame LL rr s2_9 := by
        unfold s2_9
        exact Frame.foldl (FrameP.fst h_r_8) (fun t15 x16 h17 => Frame.ite h17 (by
            extract_lets u_18 u_19 u_20
            have h_u_19 : Frame LL rr u_19 := by
                unfold u_19
                exact Frame.upd h17 (m_comp := .inl (nth 0 rfl hT))
            clear_value u_19
            exact Frame.ite (setLayer_frame h_u_19 (pick_sub 0x1 rfl hT)) h_u_19))
    have h_s3_11 : Frame LL rr s3_11 := by
        unfold s3_11
        exact Frame.upd h_s2_9 (m_comp := .inl (nth 0 rfl hT))
    clear_value s1_7 r_8 s2_9 s3_11
    exact compShow_frame (drainEnds_frame h_s3_11 (pick_sub 0x60001 rfl hT)) (pick_sub 0xfff0 rfl hT)

/-- What State.fetchError may change. -/
def fetchError_T : List Piece :=
  [.comp, .ctr .comp, .evSeq, .events, .fld (HDR.ev_raw .comp), .sent]

theorem fetchError_frame {LL rr s h l} (h_s : Frame LL rr s) (hT : Cov fetchError_T LL) :
    Frame LL rr (State.fetchError s h l) := by
  delta State.fetchError
  extract_lets n_1 u_2 s1_3
  have h_s1_3 : Frame LL rr s1_3 := by
      unfold s1_3
      exact Frame.upd h_s (m_comp := .inl (nth 0 rfl hT))
  clear_value s1_3
  exact event_frame (raise_frame (count_frame h_s1_3 (pick_sub 0x2 rfl hT)) (pick_sub 0x30 rfl hT)) (pick_sub 0xc rfl hT)

/-- What State.wbReport may change. -/
def wbReport_T : List Piece :=
  [.comp, .evSeq, .events, .fld (HDR.ev_raw .comp), .sent]

theorem wbReport_frame {LL rr s h} (h_s : Frame LL rr s) (hT : Cov wbReport_T LL) :
    Frame LL rr (State.wbReport s h) := by
  delta State.wbReport
  extract_lets w_1
  exact event_frame (raise_frame (setWb_frame h_s (pick_sub 0x1 rfl hT)) (pick_sub 0x18 rfl hT)) (pick_sub 0x6 rfl hT)

/-- What State.wbSkip may change. -/
def wbSkip_T : List Piece :=
  [.comp, .ctr .comp, .evSeq, .events, .fld (HDR.ev_raw .comp), .sent]

theorem wbSkip_frame {LL rr s h} (h_s : Frame LL rr s) (hT : Cov wbSkip_T LL) :
    Frame LL rr (State.wbSkip s h) := by
  delta State.wbSkip
  extract_lets w_1 w1_2 s1_3
  have h_s1_3 : Frame LL rr s1_3 := by
      unfold s1_3
      exact count_frame (setWb_frame h_s (pick_sub 0x1 rfl hT)) (pick_sub 0x2 rfl hT)
  clear_value s1_3
  exact Frame.ite (wbReport_frame h_s1_3 (pick_sub 0x3d rfl hT)) h_s1_3

/-- What State.wbRows may change. -/
def wbRows_T : List Piece :=
  [.ctr .comp, .ctr .dram, .ctr .dramq, .ctr .pot, .dram, .err .dram, .err .pot, .fld (HDR.ev_raw .dram), .fld (HDR.ev_raw .pot), .mem, .pot,
   .sent]

theorem wbRows_frame {LL rr s q h w a pitch p6 p7} (h_s : Frame LL rr s) (hT : Cov wbRows_T LL) :
    FrameP LL rr (State.wbRows s q h w a pitch p6 p7) := by
  induction p6 generalizing s q h w a pitch p7
  · unfold State.wbRows
    exact FrameP.mk h_s
  · rename_i m ih
    unfold State.wbRows
    split
    · rename_i a5
      have h6 := FrameP.eq (L := LL) (r := rr) a5 (tryStore_frame h_s (pick_sub 0xffe rfl hT))
      exact ih (count_frame h6 (pick_sub 0x1 rfl hT))
    · rename_i a12
      have h13 := FrameP.eq (L := LL) (r := rr) a12 (tryStore_frame h_s (pick_sub 0xffe rfl hT))
      exact FrameP.mk h13

/-- What State.wbDone may change. -/
def wbDone_T : List Piece :=
  [.comp, .ctr .comp, .ctr .dram, .ctr .dramq, .ctr .pot, .ctr .rsched, .dram, .err .dram, .err .pot, .evSeq, .events, .fld (HDR.ev_raw .comp),
   .fld (HDR.ev_raw .dram), .fld (HDR.ev_raw .pot), .fld COMP.WB_SEQ.w, .mem, .pot, .rings, .sent]

theorem wbDone_frame {LL rr h s} (h_s : Frame LL rr s) (hT : Cov wbDone_T LL) :
    Frame LL rr (State.wbDone s h) := by
  delta State.wbDone
  extract_lets n_2 j_3 w_4 o_5 i_6 u_7 s1_8
  have h_s1_8 : Frame LL rr s1_8 := by
      unfold s1_8
      exact setWb_frame h_s (pick_sub 0x1 rfl hT)
  clear_value s1_8
  exact Frame.ite h_s (by
      split
      · rename_i a11
        have h12 := FrameP.eq (L := LL) (r := rr) a11 (signal_frame h_s1_8 (pick_sub 0x7b1fc rfl hT))
        extract_lets t1_13 t2_14 u_15
        have h_t1_13 : Frame LL rr t1_13 := by
            unfold t1_13
            exact count_frame (wr_frame h12 (pick_sub 0x4000 rfl hT)) (pick_sub 0x2 rfl hT)
        have h_t2_14 : Frame LL rr t2_14 := by
            unfold t2_14
            exact Frame.ite (wbReport_frame h_t1_13 (pick_sub 0x40e01 rfl hT)) h_t1_13
        clear_value t1_13 t2_14
        exact setWb_frame h_t2_14 (pick_sub 0x1 rfl hT)
      · rename_i a20
        have h21 := FrameP.eq (L := LL) (r := rr) a20 (signal_frame h_s1_8 (pick_sub 0x7b1fc rfl hT))
        exact wbSkip_frame h21 (pick_sub 0x40e03 rfl hT))

/-- What State.wbFrame may change. -/
def wbFrame_T : List Piece :=
  [.comp, .ctr .comp, .ctr .dram, .ctr .dramq, .ctr .pot, .ctr .rsched, .dram, .err .dram, .err .pot, .evSeq, .events, .fld (HDR.ev_raw .comp),
   .fld (HDR.ev_raw .dram), .fld (HDR.ev_raw .pot), .fld COMP.WB_SEQ.w, .mem, .pot, .rings, .sent]

theorem wbFrame_frame {LL rr r h} (h_r : Frame LL rr r) (hT : Cov wbFrame_T LL) :
    Frame LL rr (State.wbFrame r h) := by
  delta State.wbFrame
  extract_lets s n_1 j_2 c_3 u_4 s1_5 o_6 k_7 bufs_8 w_9 ack_10 area_11 a_12
  have h_s : Frame LL rr s := by
      unfold s
      exact wbDone_frame h_r (pick_sub 0x7ffff rfl hT)
  clear_value s
  have h_s1_5 : Frame LL rr s1_5 := by
      unfold s1_5
      exact setWb_frame h_s (pick_sub 0x1 rfl hT)
  clear_value s1_5
  exact Frame.ite h_s (Frame.ite h_s1_5 (Frame.ite (wbSkip_frame h_s1_5 (pick_sub 0x40e03 rfl hT)) (by
      split
      · rename_i a15
        have h16 := FrameP.eq (L := LL) (r := rr) a15 (fenceTest_frame h_s1_5 (pick_sub 0x5b19c rfl hT))
        split
        · rename_i a19
          have h20 := FrameP.eq (L := LL) (r := rr) a19 (wbRows_frame h16 (pick_sub 0x5b1de rfl hT))
          exact setWb_frame h20 (pick_sub 0x1 rfl hT)
        · rename_i a23
          have h24 := FrameP.eq (L := LL) (r := rr) a23 (wbRows_frame h16 (pick_sub 0x5b1de rfl hT))
          exact wbSkip_frame h24 (pick_sub 0x40e03 rfl hT)
      · rename_i a30
        have h31 := FrameP.eq (L := LL) (r := rr) a30 (fenceTest_frame h_s1_5 (pick_sub 0x5b19c rfl hT))
        exact wbSkip_frame h31 (pick_sub 0x40e03 rfl hT))))

/-- What State.composeDone may change. -/
def composeDone_T : List Piece :=
  [.basin, .comp, .ctr .basin, .ctr .comp, .ctr .dram, .ctr .dramq, .ctr .pot, .ctr .rsched, .dram, .err .dram, .err .pot, .evSeq, .events,
   .fld (HDR.ev_raw .comp), .fld (HDR.ev_raw .dram), .fld (HDR.ev_raw .pot), .fld COMP.COEF_USE.banks, .fld COMP.ENG_STAT.busy0,
   .fld COMP.ENG_STAT.busy1, .fld COMP.ENG_STAT.late0, .fld COMP.ENG_STAT.late1, .fld COMP.ENG_STAT.pending0, .fld COMP.ENG_STAT.pending1,
   .fld COMP.LAYER_ADDR.addr, .fld COMP.LAYER_STAT.bank, .fld COMP.LAYER_STAT.enabled, .fld COMP.LAYER_STAT.format,
   .fld COMP.LAYER_STAT.substituted, .fld COMP.WB_SEQ.w, .mem, .pot, .rings, .sent]

theorem composeDone_frame {LL rr s h} (h_s : Frame LL rr s) (hT : Cov composeDone_T LL) :
    Frame LL rr (State.composeDone s h) := by
  delta State.composeDone
  extract_lets n_1 s1_2 base_3
  have h_s1_2 : Frame LL rr s1_2 := by
      unfold s1_2
      exact Frame.foldl h_s (fun t4 x5 h6 => by
          extract_lets la_7
          exact Frame.ite (by
              split
              · exact fetchError_frame (memRecord_frame h6 (pick_sub 0x10000c650 rfl hT)) (pick_sub 0x10000380a rfl hT)
              · exact Frame.foldl h6 (fun t13 x14 h15 => count_frame (fetched_frame h15 (pick_sub 0x60000070 rfl hT)) (pick_sub 0x8 rfl hT))) h6)
  clear_value s1_2
  exact Frame.ite h_s (by
      split
      · extract_lets s2_20 s3_21 u_22
        have h_s2_20 : Frame LL rr s2_20 := by
            unfold s2_20
            exact Frame.foldl h_s1_2 (fun t23 x24 h25 => basinWrite_frame h25 (pick_sub 0x1 rfl hT))
        have h_s3_21 : Frame LL rr s3_21 := by
            unfold s3_21
            exact wbFrame_frame (count_frame (count_frame h_s2_20 (pick_sub 0x8 rfl hT)) (pick_sub 0x4 rfl hT)) (pick_sub 0x1f000fffa rfl hT)
        clear_value s2_20 s3_21
        exact compShow_frame (Frame.upd h_s3_21 (m_comp := .inl (nth 1 rfl hT))) (pick_sub 0xfff0000 rfl hT))

/-- What State.composeStop may change. -/
def composeStop_T : List Piece :=
  [.comp, .fld COMP.COEF_USE.banks, .fld COMP.ENG_STAT.busy0, .fld COMP.ENG_STAT.busy1, .fld COMP.ENG_STAT.late0, .fld COMP.ENG_STAT.late1,
   .fld COMP.ENG_STAT.pending0, .fld COMP.ENG_STAT.pending1, .fld COMP.LAYER_ADDR.addr, .fld COMP.LAYER_STAT.bank, .fld COMP.LAYER_STAT.enabled,
   .fld COMP.LAYER_STAT.format, .fld COMP.LAYER_STAT.substituted]

theorem composeStop_frame {LL rr s h} (h_s : Frame LL rr s) (hT : Cov composeStop_T LL) :
    Frame LL rr (State.composeStop s h) := by
  delta State.composeStop
  exact compShow_frame (Frame.upd h_s (m_comp := .inl (nth 0 rfl hT))) (pick_sub 0x1ffe rfl hT)

/-- What State.disabledLatch may change. -/
def disabledLatch_T : List Piece :=
  [.blk .comp, .comp, .ctr .comp, .ctr .dram, .ctr .dramq, .ctr .pot, .ctr .rsched, .dram, .err .dram, .err .pot, .evSeq, .events,
   .fld (HDR.commit_seq .comp), .fld (HDR.ev_raw .comp), .fld (HDR.ev_raw .dram), .fld (HDR.ev_raw .pot), .fld (HDR.pending .comp),
   .fld COMP.COEF_USE.banks, .fld COMP.ENG_STAT.busy0, .fld COMP.ENG_STAT.busy1, .fld COMP.ENG_STAT.late0, .fld COMP.ENG_STAT.late1,
   .fld COMP.ENG_STAT.pending0, .fld COMP.ENG_STAT.pending1, .fld COMP.LAYER_ADDR.addr, .fld COMP.LAYER_STAT.bank, .fld COMP.LAYER_STAT.enabled,
   .fld COMP.LAYER_STAT.format, .fld COMP.LAYER_STAT.substituted, .fld COMP.LAYER_SUBST.force, .fld COMP.WB_SEQ.w, .fld RSCHED.PIN_COUNT.pinned,
   .mem, .parts, .pot, .rings, .sent, .staged]

theorem disabledLatch_frame {LL rr s h} (h_s : Frame LL rr s) (hT : Cov disabledLatch_T LL) :
    Frame LL rr (State.disabledLatch s h) := by
  delta State.disabledLatch
  extract_lets n_1 s1_2
  have h_s1_2 : Frame LL rr s1_2 := by
      unfold s1_2
      exact compApply_frame h_s (pick_sub 0x3240013003 rfl hT)
  clear_value s1_2
  exact Frame.ite h_s (Frame.ite h_s1_2 (endLatched_frame (compLatch_frame h_s1_2 (pick_sub 0x8bffe0c06 rfl hT)) (pick_sub 0x1d9ffec3fa rfl hT)))

/-- What State.startCompose may change. -/
def startCompose_T : List Piece :=
  [.comp, .fld COMP.COEF_USE.banks, .fld COMP.ENG_STAT.busy0, .fld COMP.ENG_STAT.busy1, .fld COMP.ENG_STAT.late0, .fld COMP.ENG_STAT.late1,
   .fld COMP.ENG_STAT.pending0, .fld COMP.ENG_STAT.pending1, .fld COMP.LAYER_ADDR.addr, .fld COMP.LAYER_STAT.bank, .fld COMP.LAYER_STAT.enabled,
   .fld COMP.LAYER_STAT.format, .fld COMP.LAYER_STAT.substituted]

theorem startCompose_frame {LL rr s h} (h_s : Frame LL rr s) (hT : Cov startCompose_T LL) :
    Frame LL rr (State.startCompose s h) := by
  delta State.startCompose
  exact compShow_frame (Frame.upd h_s (m_comp := .inl (nth 0 rfl hT))) (pick_sub 0x1ffe rfl hT)

/-- What execCoefDataWrite may change. -/
def execCoefDataWrite_T : List Piece :=
  [.ctr .comp, .ctr .pot, .err .comp, .err .pot, .fld (HDR.dirty .comp), .fld (HDR.ev_raw .comp), .fld (HDR.ev_raw .pot), .fld COMP.COEF_SEL.phase,
   .fld COMP.COEF_SEL.word, .reg .comp 0x134, .resp, .sent, .world]

theorem execCoefDataWrite_frame {LL rr w n v s} (h_s : Frame LL rr s) (hT : Cov execCoefDataWrite_T LL) :
    FrameN LL rr (execCoefDataWrite w n v s) := by
  delta execCoefDataWrite
  exact FrameN.next (coefWrite_frame h_s (pick_sub 0x1fff rfl hT))

/-- What execCommitPacket may change. -/
def execCommitPacket_T : List Piece :=
  [.comp, .ctr .comp, .ctr .dram, .ctr .dramq, .ctr .pot, .ctr .rsched, .err .dram, .err .pot, .evSeq, .events, .fld (HDR.ev_raw .dram),
   .fld (HDR.ev_raw .pot), .fld COMP.COEF_USE.banks, .fld COMP.ENG_STAT.busy0, .fld COMP.ENG_STAT.busy1, .fld COMP.ENG_STAT.late0,
   .fld COMP.ENG_STAT.late1, .fld COMP.ENG_STAT.pending0, .fld COMP.ENG_STAT.pending1, .fld COMP.LAYER_ADDR.addr, .fld COMP.LAYER_STAT.bank,
   .fld COMP.LAYER_STAT.enabled, .fld COMP.LAYER_STAT.format, .fld COMP.LAYER_STAT.substituted, .fld RSCHED.PIN_COUNT.pinned, .mem, .pot, .rings,
   .sent]

theorem execCommitPacket_frame {LL rr n s} (h_s : Frame LL rr s) (hT : Cov execCommitPacket_T LL) :
    FrameN LL rr (execCommitPacket n s) := by
  delta execCommitPacket
  exact FrameN.next (commitPacket_frame h_s (pick_sub 0x1fffffff rfl hT))

/-- What execComposeFrameDone may change. -/
def execComposeFrameDone_T : List Piece :=
  [.basin, .comp, .ctr .basin, .ctr .comp, .ctr .dram, .ctr .dramq, .ctr .pot, .ctr .rsched, .dram, .err .dram, .err .pot, .evSeq, .events,
   .fld (HDR.ev_raw .comp), .fld (HDR.ev_raw .dram), .fld (HDR.ev_raw .pot), .fld COMP.COEF_USE.banks, .fld COMP.ENG_STAT.busy0,
   .fld COMP.ENG_STAT.busy1, .fld COMP.ENG_STAT.late0, .fld COMP.ENG_STAT.late1, .fld COMP.ENG_STAT.pending0, .fld COMP.ENG_STAT.pending1,
   .fld COMP.LAYER_ADDR.addr, .fld COMP.LAYER_STAT.bank, .fld COMP.LAYER_STAT.enabled, .fld COMP.LAYER_STAT.format,
   .fld COMP.LAYER_STAT.substituted, .fld COMP.WB_SEQ.w, .mem, .pot, .rings, .sent]

theorem execComposeFrameDone_frame {LL rr h s} (h_s : Frame LL rr s) (hT : Cov execComposeFrameDone_T LL) :
    FrameN LL rr (execComposeFrameDone h s) := by
  delta execComposeFrameDone
  exact FrameN.next (composeDone_frame h_s (pick_sub 0x1ffffffff rfl hT))

/-- What execDisabledHeadLatch may change. -/
def execDisabledHeadLatch_T : List Piece :=
  [.blk .comp, .comp, .ctr .comp, .ctr .dram, .ctr .dramq, .ctr .pot, .ctr .rsched, .dram, .err .dram, .err .pot, .evSeq, .events,
   .fld (HDR.commit_seq .comp), .fld (HDR.ev_raw .comp), .fld (HDR.ev_raw .dram), .fld (HDR.ev_raw .pot), .fld (HDR.pending .comp),
   .fld COMP.COEF_USE.banks, .fld COMP.ENG_STAT.busy0, .fld COMP.ENG_STAT.busy1, .fld COMP.ENG_STAT.late0, .fld COMP.ENG_STAT.late1,
   .fld COMP.ENG_STAT.pending0, .fld COMP.ENG_STAT.pending1, .fld COMP.LAYER_ADDR.addr, .fld COMP.LAYER_STAT.bank, .fld COMP.LAYER_STAT.enabled,
   .fld COMP.LAYER_STAT.format, .fld COMP.LAYER_STAT.substituted, .fld COMP.LAYER_SUBST.force, .fld COMP.WB_SEQ.w, .fld RSCHED.PIN_COUNT.pinned,
   .mem, .parts, .pot, .rings, .sent, .staged]

theorem execDisabledHeadLatch_frame {LL rr h s} (h_s : Frame LL rr s) (hT : Cov execDisabledHeadLatch_T LL) :
    FrameN LL rr (execDisabledHeadLatch h s) := by
  delta execDisabledHeadLatch
  exact FrameN.next (disabledLatch_frame h_s (pick_sub 0x3fffffffff rfl hT))

/-- What execLayerFetchError may change. -/
def execLayerFetchError_T : List Piece :=
  [.comp, .ctr .comp, .ctr .dram, .ctr .pot, .err .dram, .err .pot, .evSeq, .events, .fld (HDR.ev_raw .comp), .fld (HDR.ev_raw .dram),
   .fld (HDR.ev_raw .pot), .sent]

theorem execLayerFetchError_frame {LL rr h l code addr s} (h_s : Frame LL rr s) (hT : Cov execLayerFetchError_T LL) :
    FrameN LL rr (execLayerFetchError h l code addr s) := by
  delta execLayerFetchError
  extract_lets k_1 i_2
  exact FrameN.next (Frame.ite h_s (fetchError_frame (memRecord_frame h_s (pick_sub 0xe3c rfl hT)) (pick_sub 0x9c3 rfl hT)))

/-- What execLayerSubstForce may change. -/
def execLayerSubstForce_T : List Piece :=
  [.comp, .ctr .pot, .err .comp, .err .pot, .fld (HDR.dirty .comp), .fld (HDR.ev_raw .comp), .fld (HDR.ev_raw .pot), .reg .comp 0x148, .resp,
   .sent, .world]

theorem execLayerSubstForce_frame {LL rr w n v s} (h_s : Frame LL rr s) (hT : Cov execLayerSubstForce_T LL) :
    FrameN LL rr (execLayerSubstForce w n v s) := by
  delta execLayerSubstForce
  exact FrameN.next (substWrite_frame h_s (pick_sub 0x7ff rfl hT))

/-- What execWbFrameDone may change. -/
def execWbFrameDone_T : List Piece :=
  [.comp, .ctr .comp, .ctr .dram, .ctr .dramq, .ctr .pot, .ctr .rsched, .dram, .err .dram, .err .pot, .evSeq, .events, .fld (HDR.ev_raw .comp),
   .fld (HDR.ev_raw .dram), .fld (HDR.ev_raw .pot), .fld COMP.WB_SEQ.w, .mem, .pot, .rings, .sent]

theorem execWbFrameDone_frame {LL rr h s} (h_s : Frame LL rr s) (hT : Cov execWbFrameDone_T LL) :
    FrameN LL rr (execWbFrameDone h s) := by
  delta execWbFrameDone
  exact FrameN.next (wbDone_frame h_s (pick_sub 0x7ffff rfl hT))

end Sys2Proof.Laws
end

