-- ==== Sys2Proof/Laws/FrameHeads.lean ====
section
/-! SUPPORT. What the operations and commands of Machine/Heads.lean may change: the parts of each, and that nothing else changes. -/

set_option Elab.async false

namespace Sys2Proof.Laws

open Machine

/-- What State.basinCe may change. -/
def basinCe_T : List Piece :=
  [.ctr .basin, .err .basin, .fld (HDR.ev_raw .basin), .sent]

theorem basinCe_frame {LL rr s rid addr} (h_s : Frame LL rr s) (hT : Cov basinCe_T LL) :
    Frame LL rr (State.basinCe s rid addr) := by
  delta State.basinCe
  exact raise_frame (count_frame (recErr_frame h_s (pick_sub 0xe rfl hT)) (pick_sub 0x1 rfl hT)) (pick_sub 0xc rfl hT)

/-- What State.basinUe may change. -/
def basinUe_T : List Piece :=
  [.ctr .basin, .err .basin, .faults, .fld (HDR.ev_raw .basin), .sent]

theorem basinUe_frame {LL rr s rid word} (h_s : Frame LL rr s) (hT : Cov basinUe_T LL) :
    Frame LL rr (State.basinUe s rid word) := by
  delta State.basinUe
  extract_lets s1_1 hs_2
  have h_s1_1 : Frame LL rr s1_1 := by
      unfold s1_1
      exact raise_frame (count_frame (recErr_frame h_s (pick_sub 0x1a rfl hT)) (pick_sub 0x1 rfl hT)) (pick_sub 0x18 rfl hT)
  clear_value s1_1
  exact Frame.ite h_s1_1 (faultLine_frame h_s1_1 (pick_sub 0x4 rfl hT))

/-- What State.basinWinRead may change. -/
def basinWinRead_T : List Piece :=
  [.ctr .basin, .err .basin, .faults, .fld (HDR.ev_raw .basin), .resp, .sent]

theorem basinWinRead_frame {LL rr s off n find} (h_s : Frame LL rr s) (hT : Cov basinWinRead_T LL) :
    Frame LL rr (State.basinWinRead s off n find) := by
  delta State.basinWinRead
  extract_lets s1_1
  have h_s1_1 : Frame LL rr s1_1 := by
      unfold s1_1
      exact count_frame h_s (pick_sub 0x1 rfl hT)
  clear_value s1_1
  split
  · exact okResp_frame h_s1_1 (pick_sub 0x10 rfl hT)
  · exact okResp_frame (basinCe_frame h_s1_1 (pick_sub 0x2b rfl hT)) (pick_sub 0x10 rfl hT)
  · exact errResp_frame (basinUe_frame h_s1_1 (pick_sub 0x2f rfl hT)) (pick_sub 0x10 rfl hT)

/-- What State.setHead may change. -/
def setHead_T : List Piece :=
  [.heads]

theorem setHead_frame {LL rr s h v} (h_s : Frame LL rr s) (hT : Cov setHead_T LL) :
    Frame LL rr (State.setHead s h v) := by
  delta State.setHead
  exact Frame.upd h_s (m_heads := .inl (nth 0 rfl hT))

/-- What State.healWords may change. -/
def healWords_T : List Piece :=
  [.heads]

theorem healWords_frame {LL rr s lo hi} (h_s : Frame LL rr s) (hT : Cov healWords_T LL) :
    Frame LL rr (State.healWords s lo hi) := by
  delta State.healWords
  exact Frame.foldl h_s (fun t1 x2 h3 => by
      extract_lets c_4
      exact setHead_frame h3 (pick_sub 0x1 rfl hT))

/-- What State.basinWinWrite may change. -/
def basinWinWrite_T : List Piece :=
  [.basin, .ctr .basin, .err .basin, .faults, .fld (HDR.ev_raw .basin), .heads, .resp, .sent]

theorem basinWinWrite_frame {LL rr s off d find} (h_s : Frame LL rr s) (hT : Cov basinWinWrite_T LL) :
    Frame LL rr (State.basinWinWrite s off d find) := by
  delta State.basinWinWrite
  extract_lets s1_1 done_2
  have h_s1_1 : Frame LL rr s1_1 := by
      unfold s1_1
      exact count_frame h_s (pick_sub 0x2 rfl hT)
  have h_done_2 : Frame LL rr done_2 := by
      unfold done_2
      exact okResp_frame (healWords_frame (basinWrite_frame h_s1_1 (pick_sub 0x1 rfl hT)) (pick_sub 0x20 rfl hT)) (pick_sub 0x40 rfl hT)
  clear_value s1_1 done_2
  exact Frame.ite h_done_2 (by
      split
      · exact h_done_2
      · exact okResp_frame (basinCe_frame h_done_2 (pick_sub 0x96 rfl hT)) (pick_sub 0x40 rfl hT)
      · exact errResp_frame (basinUe_frame h_s1_1 (pick_sub 0x9e rfl hT)) (pick_sub 0x40 rfl hT))

/-- What State.basinAccess may change. -/
def basinAccess_T : List Piece :=
  [.basin, .ctr .basin, .err .basin, .faults, .fld (HDR.ev_raw .basin), .heads, .resp, .sent]

theorem basinAccess_frame {LL rr s off op find} (h_s : Frame LL rr s) (hT : Cov basinAccess_T LL) :
    Frame LL rr (State.basinAccess s off op find) := by
  delta State.basinAccess
  split
  · exact Frame.ite (basinWinRead_frame h_s (pick_sub 0xde rfl hT)) (refuse_frame h_s (pick_sub 0xd4 rfl hT))
  · exact Frame.ite (basinWinRead_frame h_s (pick_sub 0xde rfl hT)) (refuse_frame h_s (pick_sub 0xd4 rfl hT))
  · exact Frame.ite (basinWinWrite_frame h_s (pick_sub 0xff rfl hT)) (refuse_frame h_s (pick_sub 0xd4 rfl hT))

/-- What State.grpApplied may change. -/
def grpApplied_T : List Piece :=
  [.ctr .basin, .fld (HDR.ev_raw .basin), .fld BASIN.GRP_STAT.applied, .fld BASIN.GRP_STAT.busy, .sent]

theorem grpApplied_frame {LL rr s h} (h_s : Frame LL rr s) (hT : Cov grpApplied_T LL) :
    Frame LL rr (State.grpApplied s h) := by
  delta State.grpApplied
  exact Frame.ite h_s (by
      extract_lets a_1 s1_2
      have h_s1_2 : Frame LL rr s1_2 := by
          unfold s1_2
          exact wr_frame h_s (pick_sub 0x4 rfl hT)
      clear_value s1_2
      exact Frame.ite (raise_frame (count_frame (wr_frame h_s1_2 (pick_sub 0x8 rfl hT)) (pick_sub 0x1 rfl hT)) (pick_sub 0x12 rfl hT)) h_s1_2)

/-- What State.grpLeave may change. -/
def grpLeave_T : List Piece :=
  [.ctr .basin, .fld (HDR.ev_raw .basin), .fld (HDR.group .head), .fld BASIN.GRP_STAT.applied, .fld BASIN.GRP_STAT.busy, .heads, .sent]

theorem grpLeave_frame {LL rr s h} (h_s : Frame LL rr s) (hT : Cov grpLeave_T LL) :
    Frame LL rr (State.grpLeave s h) := by
  delta State.grpLeave
  exact Frame.ite h_s (grpApplied_frame (wr_frame (setHead_frame h_s (pick_sub 0x20 rfl hT)) (pick_sub 0x4 rfl hT)) (pick_sub 0x5b rfl hT))

/-- What State.glChange may change. -/
def glChange_T : List Piece :=
  [.fld HEAD.GL_STAT.missing, .fld HEAD.GL_STAT.state, .heads]

theorem glChange_frame {LL rr s h old} (h_s : Frame LL rr s) (hT : Cov glChange_T LL) :
    Frame LL rr (State.glChange s h old) := by
  delta State.glChange
  extract_lets src_1 st_2 c_3 stop_4 s1_5
  have h_s1_5 : Frame LL rr s1_5 := by
      unfold s1_5
      exact wr_frame (setHead_frame h_s (pick_sub 0x4 rfl hT)) (pick_sub 0x1 rfl hT)
  clear_value s1_5
  exact Frame.ite (Frame.ite (Frame.ite (wr_frame h_s1_5 (pick_sub 0x2 rfl hT)) h_s1_5) (wr_frame (wr_frame (setHead_frame h_s (pick_sub 0x4 rfl hT)) (pick_sub 0x2 rfl hT)) (pick_sub 0x1 rfl hT))) (Frame.ite (wr_frame (setHead_frame h_s (pick_sub 0x4 rfl hT)) (pick_sub 0x2 rfl hT)) h_s)

/-- What State.applyHead may change. -/
def applyHead_T : List Piece :=
  [.blk .head, .ctr .basin, .ctr .head, .fld (HDR.commit_seq .head), .fld (HDR.ev_raw .basin), .fld (HDR.ev_raw .head), .fld (HDR.group .head),
   .fld (HDR.pending .head), .fld BASIN.GRP_STAT.applied, .fld BASIN.GRP_STAT.busy, .fld HEAD.GL_STAT.missing, .fld HEAD.GL_STAT.state, .heads,
   .sent, .staged]

theorem applyHead_frame {LL rr s h} (h_s : Frame LL rr s) (hT : Cov applyHead_T LL) :
    Frame LL rr (State.applyHead s h) := by
  delta State.applyHead
  exact Frame.ite (grpLeave_frame h_s (pick_sub 0x3352 rfl hT)) (by
      extract_lets old_1 s1_2
      have h_s1_2 : Frame LL rr s1_2 := by
          unfold s1_2
          exact count_frame (glChange_frame (applySet_frame h_s (pick_sub 0x60a9 rfl hT)) (pick_sub 0x1c00 rfl hT)) (pick_sub 0x4 rfl hT)
      clear_value s1_2
      exact grpLeave_frame (Frame.ite (count_frame h_s1_2 (pick_sub 0x4 rfl hT)) h_s1_2) (pick_sub 0x3352 rfl hT))

/-- What State.pllStop may change. -/
def pllStop_T : List Piece :=
  [.fld CLK.PLL_STAT.enabled, .fld CLK.PLL_STAT.lock, .fld CLK.PLL_STAT.mhz, .fld HEAD.HEAD_STAT.pll_lock]

theorem pllStop_frame {LL rr s h} (h_s : Frame LL rr s) (hT : Cov pllStop_T LL) :
    Frame LL rr (State.pllStop s h) := by
  delta State.pllStop
  exact wr_frame (wr_frame (wr_frame (wr_frame h_s (pick_sub 0x8 rfl hT)) (pick_sub 0x2 rfl hT)) (pick_sub 0x1 rfl hT)) (pick_sub 0x4 rfl hT)

/-- What State.headDisable may change. -/
def headDisable_T : List Piece :=
  [.blk .head, .ctr .basin, .ctr .head, .fld (HDR.commit_seq .head), .fld (HDR.enable .head), .fld (HDR.ev_raw .basin), .fld (HDR.ev_raw .head),
   .fld (HDR.group .head), .fld (HDR.pending .head), .fld BASIN.GRP_STAT.applied, .fld BASIN.GRP_STAT.busy, .fld CLK.PLL_STAT.enabled,
   .fld CLK.PLL_STAT.lock, .fld CLK.PLL_STAT.mhz, .fld HEAD.GL_STAT.missing, .fld HEAD.GL_STAT.state, .fld HEAD.HEAD_STAT.pll_lock,
   .fld HEAD.HEAD_STAT.state, .heads, .sent, .staged]

theorem headDisable_frame {LL rr s h v} (h_s : Frame LL rr s) (hT : Cov headDisable_T LL) :
    Frame LL rr (State.headDisable s h v) := by
  delta State.headDisable
  extract_lets s1_1
  have h_s1_1 : Frame LL rr s1_1 := by
      unfold s1_1
      exact wr_frame h_s (pick_sub 0x10 rfl hT)
  clear_value s1_1
  exact Frame.ite (applyHead_frame (pllStop_frame (wr_frame h_s1_1 (pick_sub 0x20000 rfl hT)) (pick_sub 0x13800 rfl hT)) (pick_sub 0x1cc7ef rfl hT)) h_s1_1

/-- What State.headSoft may change. -/
def headSoft_T : List Piece :=
  [.blk .head, .ctr .basin, .fld (HDR.ev_raw .basin), .fld (HDR.group .head), .fld (HDR.soft_reset .head), .fld BASIN.GRP_STAT.applied,
   .fld BASIN.GRP_STAT.busy, .heads, .parts, .sent, .staged]

theorem headSoft_frame {LL rr s h} (h_s : Frame LL rr s) (hT : Cov headSoft_T LL) :
    Frame LL rr (State.headSoft s h) := by
  delta State.headSoft
  exact setHead_frame (wr_frame (softRegs_frame (grpLeave_frame h_s (pick_sub 0x2ee rfl hT)) (idx_sub [0, 10, 8] rfl hT)) (pick_sub 0x10 rfl hT)) (pick_sub 0x80 rfl hT)

/-- What State.headSoftWait may change. -/
def headSoftWait_T : List Piece :=
  [.fld (HDR.soft_reset .head), .heads]

theorem headSoftWait_frame {LL rr s h} (h_s : Frame LL rr s) (hT : Cov headSoftWait_T LL) :
    Frame LL rr (State.headSoftWait s h) := by
  delta State.headSoftWait
  exact setHead_frame (wr_frame h_s (pick_sub 0x1 rfl hT)) (pick_sub 0x2 rfl hT)

/-- What State.setPosted may change. -/
def setPosted_T : List Piece :=
  [.ctr .glint, .fld GLINT.POSE_STAT.posted_seq, .heads]

theorem setPosted_frame {LL rr s h p} (h_s : Frame LL rr s) (hT : Cov setPosted_T LL) :
    Frame LL rr (State.setPosted s h p) := by
  delta State.setPosted
  extract_lets old_1 c_2 u_3 s1_4 s2_5
  have h_s1_4 : Frame LL rr s1_4 := by
      unfold s1_4
      exact wr_frame (setHead_frame h_s (pick_sub 0x4 rfl hT)) (pick_sub 0x2 rfl hT)
  have h_s2_5 : Frame LL rr s2_5 := by
      unfold s2_5
      exact count_frame h_s1_4 (pick_sub 0x1 rfl hT)
  clear_value s1_4 s2_5
  exact Frame.ite (count_frame h_s2_5 (pick_sub 0x1 rfl hT)) h_s2_5

/-- What State.poseRejected may change. -/
def poseRejected_T : List Piece :=
  [.ctr .glint, .err .glint, .fld (HDR.ev_raw .glint), .sent]

theorem poseRejected_frame {LL rr s h why} (h_s : Frame LL rr s) (hT : Cov poseRejected_T LL) :
    Frame LL rr (State.poseRejected s h why) := by
  delta State.poseRejected
  exact raise_frame (count_frame (recErr_frame h_s (pick_sub 0xe rfl hT)) (pick_sub 0x1 rfl hT)) (pick_sub 0xc rfl hT)

/-- What State.postOnEnable may change. -/
def postOnEnable_T : List Piece :=
  [.ctr .glint, .err .glint, .fld (HDR.ev_raw .glint), .fld GLINT.POSE_STAT.posted_seq, .heads, .sent]

theorem postOnEnable_frame {LL rr s h} (h_s : Frame LL rr s) (hT : Cov postOnEnable_T LL) :
    Frame LL rr (State.postOnEnable s h) := by
  delta State.postOnEnable
  exact Frame.ite h_s (by
      split
      · exact setPosted_frame h_s (pick_sub 0x19 rfl hT)
      · exact poseRejected_frame (setPosted_frame h_s (pick_sub 0x19 rfl hT)) (pick_sub 0x27 rfl hT))

/-- What State.headEnable may change. -/
def headEnable_T : List Piece :=
  [.ctr .glint, .err .glint, .err .head, .fld (HDR.enable .head), .fld (HDR.ev_raw .glint), .fld (HDR.ev_raw .head), .fld CLK.PLL_STAT.enabled,
   .fld GLINT.POSE_STAT.posted_seq, .fld HEAD.HEAD_STAT.pll_lock, .fld HEAD.HEAD_STAT.state, .heads, .resp, .safe, .sent]

theorem headEnable_frame {LL rr s w h v} (h_s : Frame LL rr s) (hT : Cov headEnable_T LL) :
    Frame LL rr (State.headEnable s w h v) := by
  delta State.headEnable
  exact Frame.ite (wr_frame h_s (pick_sub 0x8 rfl hT)) (Frame.ite (wr_frame h_s (pick_sub 0x8 rfl hT)) (Frame.ite (refuse_frame h_s (pick_sub 0x2824 rfl hT)) (Frame.ite (refuse_frame h_s (pick_sub 0x2824 rfl hT)) (Frame.ite (refuse_frame h_s (pick_sub 0x2812 rfl hT)) (by
      extract_lets u_1 s1_2 u_3 u_4 s2_5
      have h_s1_2 : Frame LL rr s1_2 := by
          unfold s1_2
          exact setHead_frame h_s (pick_sub 0x400 rfl hT)
      have h_s2_5 : Frame LL rr s2_5 := by
          unfold s2_5
          exact Frame.upd h_s1_2 (m_safe := .inl (nth 12 rfl hT))
      clear_value s1_2 s2_5
      exact postOnEnable_frame (wr_frame (wr_frame (wr_frame (wr_frame h_s2_5 (pick_sub 0x8 rfl hT)) (pick_sub 0x200 rfl hT)) (pick_sub 0x100 rfl hT)) (pick_sub 0x40 rfl hT)) (pick_sub 0x2493 rfl hT))))))

/-- What State.headCtrl may change. -/
def headCtrl_T : List Piece :=
  [.blk .head, .ctr .basin, .ctr .glint, .ctr .head, .ctr .pot, .err .glint, .err .head, .err .pot, .fld (HDR.commit_seq .head),
   .fld (HDR.enable .head), .fld (HDR.ev_raw .basin), .fld (HDR.ev_raw .glint), .fld (HDR.ev_raw .head), .fld (HDR.ev_raw .pot),
   .fld (HDR.group .head), .fld (HDR.pending .head), .fld (HDR.soft_reset .head), .fld BASIN.GRP_STAT.applied, .fld BASIN.GRP_STAT.busy,
   .fld CLK.PLL_STAT.enabled, .fld CLK.PLL_STAT.lock, .fld CLK.PLL_STAT.mhz, .fld GLINT.POSE_STAT.posted_seq, .fld HEAD.GL_STAT.missing,
   .fld HEAD.GL_STAT.state, .fld HEAD.HEAD_STAT.pll_lock, .fld HEAD.HEAD_STAT.state, .heads, .parts, .resp, .safe, .sent, .staged, .world]

theorem headCtrl_frame {LL rr s w h v} (h_s : Frame LL rr s) (hT : Cov headCtrl_T LL) :
    Frame LL rr (State.headCtrl s w h v) := by
  delta State.headCtrl
  exact onWrite_frame h_s (fun t1 h2 => Frame.ite (by
      extract_lets u_3
      have h_u_3 : Frame LL rr u_3 := by
          unfold u_3
          exact headDisable_frame (discardSet_frame h2 (idx_sub [0, 32, 28] rfl hT)) (pick_sub 0x18fbed70b rfl hT)
      clear_value u_3
      exact Frame.ite (headSoft_frame h_u_3 (pick_sub 0x198074403 rfl hT)) (headSoftWait_frame h_u_3 (pick_sub 0x8010000 rfl hT))) (Frame.ite (headEnable_frame h2 (pick_sub 0xee481a64 rfl hT)) (headDisable_frame h2 (pick_sub 0x18fbed70b rfl hT)))) (idx_sub [4, 7, 6, 13, 12, 29, 31, 33] rfl hT)

/-- What State.pinSafe may change. -/
def pinSafe_T : List Piece :=
  [.fld SAFE.HEAD_SRC.blank, .fld SAFE.HEAD_SRC.fallback, .safe]

theorem pinSafe_frame {LL rr s h} (h_s : Frame LL rr s) (hT : Cov pinSafe_T LL) :
    Frame LL rr (State.pinSafe s h) := by
  delta State.pinSafe
  extract_lets s1_1 u_2 u_3
  have h_s1_1 : Frame LL rr s1_1 := by
      unfold s1_1
      exact Frame.ite (wr_frame h_s (pick_sub 0x1 rfl hT)) (wr_frame h_s (pick_sub 0x2 rfl hT))
  clear_value s1_1
  exact Frame.upd h_s1_1 (m_safe := .inl (nth 2 rfl hT))

/-- What State.applyGlint may change. -/
def applyGlint_T : List Piece :=
  [.blk .glint, .fld (HDR.commit_seq .glint), .fld (HDR.ev_raw .glint), .fld (HDR.group .glint), .fld (HDR.pending .glint), .sent, .staged]

theorem applyGlint_frame {LL rr s h} (h_s : Frame LL rr s) (hT : Cov applyGlint_T LL) :
    Frame LL rr (State.applyGlint s h) := by
  delta State.applyGlint
  exact Frame.ite h_s (wr_frame (applySet_frame h_s (pick_sub 0x77 rfl hT)) (pick_sub 0x8 rfl hT))

/-- What State.wbGuard may change. -/
def wbGuard_T : List Piece :=
  [.err .comp, .fld (HDR.ev_raw .comp), .sent, .staged]

theorem wbGuard_frame {LL rr s rid n j} (h_s : Frame LL rr s) (hT : Cov wbGuard_T LL) :
    Frame LL rr (State.wbGuard s rid n j) := by
  delta State.wbGuard
  exact Frame.ite h_s (recErr_frame (Frame.upd h_s (m_staged := .inl (nth 3 rfl hT))) (pick_sub 0x7 rfl hT))

/-- What State.stagePage may change. -/
def stagePage_T (b : Blk) : List Piece :=
  [.err .comp, .fld (HDR.dirty b), .fld (HDR.ev_raw .comp), .fld (HDR.pending b), .parts, .sent, .staged]

theorem stagePage_frame {LL rr s rid b i} (h_s : Frame LL rr s) (hT : Cov (stagePage_T b) LL) :
    Frame LL rr (State.stagePage s rid b i) := by
  delta State.stagePage
  extract_lets s1_1
  have h_s1_1 : Frame LL rr s1_1 := by
      unfold s1_1
      exact wr_frame (stageSet_frame h_s (idx_sub [6, 1] rfl hT)) (pick_sub 0x8 rfl hT)
  clear_value s1_1
  exact Frame.ite (wbGuard_frame (wbGuard_frame (Frame.upd h_s1_1 (m_parts := .inl (nth 4 rfl hT))) (pick_sub 0x65 rfl hT)) (pick_sub 0x65 rfl hT)) h_s1_1

/-- What State.granWrite may change. -/
def granWrite_T (h : Nat) : List Piece :=
  [.ctr .pot, .err .basin, .err .pot, .fld (HDR.dirty .basin), .fld (HDR.ev_raw .basin), .fld (HDR.ev_raw .pot), .fld SAFE.HEAD_SRC.blank,
   .fld SAFE.HEAD_SRC.fallback, .reg .basin (256 + 4 * h), .resp, .safe, .sent, .world]

theorem granWrite_frame {LL rr s w h v} (h_s : Frame LL rr s) (hT : Cov (granWrite_T h) LL) :
    Frame LL rr (State.granWrite s w h v) := by
  delta State.granWrite
  extract_lets off_1
  exact onWrite_frame h_s (fun t2 h3 => Frame.ite (Frame.ite (refuse_frame (pinSafe_frame h3 (pick_sub 0x4c0 rfl hT)) (pick_sub 0xa12 rfl hT)) (Frame.ite (refuse_frame h3 (pick_sub 0xa12 rfl hT)) (storeWord_frame h3 (pick_sub 0x108 rfl hT)))) (Frame.ite (refuse_frame h3 (pick_sub 0xa12 rfl hT)) (storeWord_frame h3 (pick_sub 0x108 rfl hT)))) (idx_sub [0, 2, 1, 5, 4, 9, 11, 12] rfl hT)

/-- What State.setCohorts may change. -/
def setCohorts_T : List Piece :=
  [.heads]

theorem setCohorts_frame {LL rr s members} (h_s : Frame LL rr s) (hT : Cov setCohorts_T LL) :
    Frame LL rr (State.setCohorts s members) := by
  delta State.setCohorts
  exact Frame.foldl h_s (fun t1 x2 h3 => setHead_frame h3 (pick_sub 0x1 rfl hT))

/-- What State.poseWrite may change. -/
def poseWrite_T : List Piece :=
  [.ctr .glint, .ctr .pot, .err .glint, .err .pot, .fld (HDR.ev_raw .glint), .fld (HDR.ev_raw .pot), .fld GLINT.POSE_CTRL.post, .heads, .resp,
   .sent, .world]

theorem poseWrite_frame {LL rr s w h v} (h_s : Frame LL rr s) (hT : Cov poseWrite_T LL) :
    Frame LL rr (State.poseWrite s w h v) := by
  delta State.poseWrite
  exact onWrite_frame h_s (fun t1 h2 => Frame.ite h2 (by
      extract_lets c_3 t1_4 u_5
      have h_t1_4 : Frame LL rr t1_4 := by
          unfold t1_4
          exact Frame.ite (count_frame h2 (pick_sub 0x1 rfl hT)) h2
      clear_value t1_4
      exact wr_frame (setHead_frame h_t1_4 (pick_sub 0x80 rfl hT)) (pick_sub 0x40 rfl hT))) (idx_sub [1, 3, 2, 5, 4, 8, 9, 10] rfl hT)

/-- What State.draw may change. -/
def draw_T : List Piece :=
  [.free]

theorem draw_frame {LL rr s} (h_s : Frame LL rr s) (hT : Cov draw_T LL) :
    FrameR LL rr (State.draw s) := by
  delta State.draw
  exact FrameR.mk (Frame.upd h_s (m_free := .inl (nth 0 rfl hT)))

/-- What State.glitch may change. -/
def glitch_T : List Piece :=
  [.ctr .head, .fld (HDR.ev_raw .head), .sent]

theorem glitch_frame {LL rr s h} (h_s : Frame LL rr s) (hT : Cov glitch_T LL) :
    Frame LL rr (State.glitch s h) := by
  delta State.glitch
  exact raise_frame (count_frame h_s (pick_sub 0x1 rfl hT)) (pick_sub 0x6 rfl hT)

/-- What State.glSteer may change. -/
def glSteer_T : List Piece :=
  [.fld HEAD.GL_OFFSET_PPM.ppm, .free]

theorem glSteer_frame {LL rr s h} (h_s : Frame LL rr s) (hT : Cov glSteer_T LL) :
    Frame LL rr (State.glSteer s h) := by
  delta State.glSteer
  extract_lets lim_1
  split
  · rename_i a5
    have h6 := FrameR.eq (L := LL) (r := rr) a5 (draw_frame h_s (pick_sub 0x2 rfl hT))
    extract_lets p_7
    exact wr_frame h6 (pick_sub 0x1 rfl hT)

/-- What State.glEvent may change. -/
def glEvent_T : List Piece :=
  [.evSeq, .events]

theorem glEvent_frame {LL rr s h code} (h_s : Frame LL rr s) (hT : Cov glEvent_T LL) :
    Frame LL rr (State.glEvent s h code) := by
  delta State.glEvent
  exact eventHead_frame h_s (pick_sub 0x3 rfl hT)

/-- What State.glClose may change. -/
def glClose_T : List Piece :=
  [.ctr .head, .evSeq, .events, .fld (HDR.ev_raw .head), .fld HEAD.GL_OFFSET_PPM.ppm, .fld HEAD.GL_PHASE.ns, .fld HEAD.GL_STAT.missing,
   .fld HEAD.GL_STAT.state, .free, .heads, .sent]

theorem glClose_frame {LL rr s h} (h_s : Frame LL rr s) (hT : Cov glClose_T LL) :
    Frame LL rr (State.glClose s h) := by
  delta State.glClose
  extract_lets st_1 c_2 n_3 s1_4 u_5 m_6 s1_7 s2_8 u_9 s3_10
  have h_s1_4 : Frame LL rr s1_4 := by
      unfold s1_4
      exact Frame.foldl h_s (fun t11 x12 h13 => glitch_frame h13 (pick_sub 0x409 rfl hT))
  have h_s1_7 : Frame LL rr s1_7 := by
      unfold s1_7
      exact setHead_frame h_s (pick_sub 0x200 rfl hT)
  have h_s2_8 : Frame LL rr s2_8 := by
      unfold s2_8
      exact wr_frame (raise_frame (count_frame h_s1_7 (pick_sub 0x1 rfl hT)) (pick_sub 0x408 rfl hT)) (pick_sub 0x40 rfl hT)
  have h_s3_10 : Frame LL rr s3_10 := by
      unfold s3_10
      exact setHead_frame (wr_frame h_s2_8 (pick_sub 0x80 rfl hT)) (pick_sub 0x200 rfl hT)
  clear_value s1_4 s1_7 s2_8 s3_10
  exact Frame.ite h_s (by
      split
      · extract_lets ph_17 near_18 s2_19 s3_20
        have h_s2_19 : Frame LL rr s2_19 := by
            unfold s2_19
            exact count_frame (setHead_frame h_s1_4 (pick_sub 0x200 rfl hT)) (pick_sub 0x1 rfl hT)
        have h_s3_20 : Frame LL rr s3_20 := by
            unfold s3_20
            exact glSteer_frame (wr_frame (wr_frame h_s2_19 (pick_sub 0x20 rfl hT)) (pick_sub 0x40 rfl hT)) (pick_sub 0x110 rfl hT)
        clear_value s2_19 s3_20
        exact Frame.ite (Frame.ite (glEvent_frame (raise_frame (count_frame (wr_frame h_s3_20 (pick_sub 0x80 rfl hT)) (pick_sub 0x1 rfl hT)) (pick_sub 0x408 rfl hT)) (pick_sub 0x6 rfl hT)) h_s3_20) (wr_frame h_s3_20 (pick_sub 0x80 rfl hT))
      · exact Frame.ite (wr_frame h_s2_8 (pick_sub 0x80 rfl hT)) (Frame.ite h_s2_8 (Frame.ite (glEvent_frame (raise_frame (count_frame h_s3_10 (pick_sub 0x1 rfl hT)) (pick_sub 0x408 rfl hT)) (pick_sub 0x6 rfl hT)) h_s3_10)))

/-- What State.glMeasure may change. -/
def glMeasure_T : List Piece :=
  [.ctr .head, .fld (HDR.ev_raw .head), .fld HEAD.GL_PERIOD_NS.ns, .fld HEAD.GL_STAT.missing, .fld HEAD.GL_STAT.state, .heads, .sent]

theorem glMeasure_frame {LL rr s h} (h_s : Frame LL rr s) (hT : Cov glMeasure_T LL) :
    Frame LL rr (State.glMeasure s h) := by
  delta State.glMeasure
  extract_lets c_1 nom_2 s1_3
  have h_s1_3 : Frame LL rr s1_3 := by
      unfold s1_3
      exact setHead_frame h_s (pick_sub 0x20 rfl hT)
  clear_value s1_3
  split
  · exact setHead_frame h_s (pick_sub 0x20 rfl hT)
  · extract_lets d_9 l_10 l4_11 mn_12 mx_13
    exact Frame.ite (glitch_frame (setHead_frame h_s (pick_sub 0x20 rfl hT)) (pick_sub 0x43 rfl hT)) (Frame.ite (wr_frame (wr_frame (wr_frame h_s1_3 (pick_sub 0x4 rfl hT)) (pick_sub 0x8 rfl hT)) (pick_sub 0x10 rfl hT)) (setHead_frame h_s (pick_sub 0x20 rfl hT)))

/-- What State.glPulse may change. -/
def glPulse_T : List Piece :=
  [.ctr .head, .fld (HDR.ev_raw .head), .fld HEAD.GL_PERIOD_NS.ns, .fld HEAD.GL_STAT.missing, .fld HEAD.GL_STAT.state, .heads, .sent]

theorem glPulse_frame {LL rr s h} (h_s : Frame LL rr s) (hT : Cov glPulse_T LL) :
    Frame LL rr (State.glPulse s h) := by
  delta State.glPulse
  extract_lets st_1 u_2
  exact Frame.ite (glMeasure_frame h_s (pick_sub 0x7f rfl hT)) (Frame.ite (Frame.ite (setHead_frame h_s (pick_sub 0x20 rfl hT)) (glitch_frame h_s (pick_sub 0x43 rfl hT))) h_s)

/-- What State.glSlew may change. -/
def glSlew_T : List Piece :=
  [.fld HEAD.GL_OFFSET_PPM.ppm, .fld HEAD.GL_STAT.state]

theorem glSlew_frame {LL rr s h} (h_s : Frame LL rr s) (hT : Cov glSlew_T LL) :
    Frame LL rr (State.glSlew s h) := by
  delta State.glSlew
  exact Frame.ite h_s (by
      extract_lets p_1 u_2 s1_3
      have h_s1_3 : Frame LL rr s1_3 := by
          unfold s1_3
          exact wr_frame h_s (pick_sub 0x1 rfl hT)
      clear_value s1_3
      exact Frame.ite (wr_frame h_s1_3 (pick_sub 0x2 rfl hT)) h_s1_3)

/-- What State.poseTake may change. -/
def poseTake_T : List Piece :=
  [.ctr .glint, .fld (HDR.ev_raw .glint), .fld GLINT.LATCH_LINE.line, .fld GLINT.LATCH_TIME.time, .fld GLINT.POSE_STAT.latched_seq, .heads, .sent]

theorem poseTake_frame {LL rr s h y seq p} (h_s : Frame LL rr s) (hT : Cov poseTake_T LL) :
    Frame LL rr (State.poseTake s h y seq p) := by
  delta State.poseTake
  extract_lets c_1 u_2 s1_3 s2_4
  have h_s1_3 : Frame LL rr s1_3 := by
      unfold s1_3
      exact setHead_frame h_s (pick_sub 0x20 rfl hT)
  have h_s2_4 : Frame LL rr s2_4 := by
      unfold s2_4
      exact wr_frame h_s1_3 (pick_sub 0x10 rfl hT)
  clear_value s1_3 s2_4
  exact raise_frame (count_frame (wr_frame (wr_frame h_s2_4 (pick_sub 0x4 rfl hT)) (pick_sub 0x8 rfl hT)) (pick_sub 0x1 rfl hT)) (pick_sub 0x42 rfl hT)

/-- What State.poseLatch may change. -/
def poseLatch_T : List Piece :=
  [.ctr .glint, .fld (HDR.ev_raw .glint), .fld GLINT.LATCH_LINE.line, .fld GLINT.LATCH_TIME.time, .fld GLINT.POSE_STAT.latched_seq, .heads, .sent]

theorem poseLatch_frame {LL rr s h y} (h_s : Frame LL rr s) (hT : Cov poseLatch_T LL) :
    Frame LL rr (State.poseLatch s h y) := by
  delta State.poseLatch
  extract_lets g_1 n_2
  exact Frame.ite h_s (Frame.ite (by
      split
      · exact poseTake_frame (count_frame h_s (pick_sub 0x1 rfl hT)) (pick_sub 0x7f rfl hT)
      · exact h_s) (poseTake_frame h_s (pick_sub 0x7f rfl hT)))

/-- What execBasinEccError may change. -/
def execBasinEccError_T : List Piece :=
  [.ctr .basin, .err .basin, .faults, .fld (HDR.ev_raw .basin), .heads, .sent]

theorem execBasinEccError_frame {LL rr h word ue s} (h_s : Frame LL rr s) (hT : Cov execBasinEccError_T LL) :
    FrameN LL rr (execBasinEccError h word ue s) := by
  delta execBasinEccError
  extract_lets k_1 n_2 c_3
  exact FrameN.next (Frame.ite h_s (Frame.ite (basinUe_frame (setHead_frame h_s (pick_sub 0x10 rfl hT)) (pick_sub 0x2f rfl hT)) (basinCe_frame h_s (pick_sub 0x2b rfl hT))))

/-- What execBasinGranWrite may change. -/
def execBasinGranWrite_T (h : Fin 8) : List Piece :=
  [.ctr .pot, .err .basin, .err .pot, .fld (HDR.dirty .basin), .fld (HDR.ev_raw .basin), .fld (HDR.ev_raw .pot), .fld SAFE.HEAD_SRC.blank,
   .fld SAFE.HEAD_SRC.fallback, .reg .basin (256 + 4 * ↑h), .resp, .safe, .sent, .world]

theorem execBasinGranWrite_frame {LL rr w h v s} (h_s : Frame LL rr s) (hT : Cov (execBasinGranWrite_T h) LL) :
    FrameN LL rr (execBasinGranWrite w h v s) := by
  delta execBasinGranWrite
  exact FrameN.next (granWrite_frame h_s (pick_sub 0x1fff rfl hT))

/-- What execBasinWindowAccess may change. -/
def execBasinWindowAccess_T : List Piece :=
  [.basin, .ctr .basin, .err .basin, .faults, .fld (HDR.ev_raw .basin), .heads, .resp, .sent]

theorem execBasinWindowAccess_frame {LL rr off op find s} (h_s : Frame LL rr s) (hT : Cov execBasinWindowAccess_T LL) :
    FrameN LL rr (execBasinWindowAccess off op find s) := by
  delta execBasinWindowAccess
  exact FrameN.next (basinAccess_frame h_s (pick_sub 0xff rfl hT))

/-- What execGenlockPulse may change. -/
def execGenlockPulse_T : List Piece :=
  [.ctr .head, .fld (HDR.ev_raw .head), .fld HEAD.GL_PERIOD_NS.ns, .fld HEAD.GL_STAT.missing, .fld HEAD.GL_STAT.state, .heads, .sent]

theorem execGenlockPulse_frame {LL rr input falling s} (h_s : Frame LL rr s) (hT : Cov execGenlockPulse_T LL) :
    FrameN LL rr (execGenlockPulse input falling s) := by
  delta execGenlockPulse
  exact FrameN.next (Frame.foldl h_s (fun t1 x2 h3 => Frame.ite (glPulse_frame h3 (pick_sub 0x7f rfl hT)) h3))

/-- What execGenlockWindowClose may change. -/
def execGenlockWindowClose_T : List Piece :=
  [.ctr .head, .evSeq, .events, .fld (HDR.ev_raw .head), .fld HEAD.GL_OFFSET_PPM.ppm, .fld HEAD.GL_PHASE.ns, .fld HEAD.GL_STAT.missing,
   .fld HEAD.GL_STAT.state, .free, .heads, .sent]

theorem execGenlockWindowClose_frame {LL rr h s} (h_s : Frame LL rr s) (hT : Cov execGenlockWindowClose_T LL) :
    FrameN LL rr (execGenlockWindowClose h s) := by
  delta execGenlockWindowClose
  exact FrameN.next (glClose_frame h_s (pick_sub 0x7ff rfl hT))

/-- What execHeadDisable may change. -/
def execHeadDisable_T : List Piece :=
  [.blk .head, .ctr .basin, .ctr .glint, .ctr .head, .ctr .pot, .err .glint, .err .head, .err .pot, .fld (HDR.commit_seq .head),
   .fld (HDR.enable .head), .fld (HDR.ev_raw .basin), .fld (HDR.ev_raw .glint), .fld (HDR.ev_raw .head), .fld (HDR.ev_raw .pot),
   .fld (HDR.group .head), .fld (HDR.pending .head), .fld (HDR.soft_reset .head), .fld BASIN.GRP_STAT.applied, .fld BASIN.GRP_STAT.busy,
   .fld CLK.PLL_STAT.enabled, .fld CLK.PLL_STAT.lock, .fld CLK.PLL_STAT.mhz, .fld GLINT.POSE_STAT.posted_seq, .fld HEAD.GL_STAT.missing,
   .fld HEAD.GL_STAT.state, .fld HEAD.HEAD_STAT.pll_lock, .fld HEAD.HEAD_STAT.state, .heads, .parts, .resp, .safe, .sent, .staged, .world]

theorem execHeadDisable_frame {LL rr w h s} (h_s : Frame LL rr s) (hT : Cov execHeadDisable_T LL) :
    FrameN LL rr (execHeadDisable w h s) := by
  delta execHeadDisable
  exact FrameN.next (headCtrl_frame h_s (pick_sub 0x3ffffffff rfl hT))

/-- What execHeadEnable may change. -/
def execHeadEnable_T : List Piece :=
  [.blk .head, .ctr .basin, .ctr .glint, .ctr .head, .ctr .pot, .err .glint, .err .head, .err .pot, .fld (HDR.commit_seq .head),
   .fld (HDR.enable .head), .fld (HDR.ev_raw .basin), .fld (HDR.ev_raw .glint), .fld (HDR.ev_raw .head), .fld (HDR.ev_raw .pot),
   .fld (HDR.group .head), .fld (HDR.pending .head), .fld (HDR.soft_reset .head), .fld BASIN.GRP_STAT.applied, .fld BASIN.GRP_STAT.busy,
   .fld CLK.PLL_STAT.enabled, .fld CLK.PLL_STAT.lock, .fld CLK.PLL_STAT.mhz, .fld GLINT.POSE_STAT.posted_seq, .fld HEAD.GL_STAT.missing,
   .fld HEAD.GL_STAT.state, .fld HEAD.HEAD_STAT.pll_lock, .fld HEAD.HEAD_STAT.state, .heads, .parts, .resp, .safe, .sent, .staged, .world]

theorem execHeadEnable_frame {LL rr w h s} (h_s : Frame LL rr s) (hT : Cov execHeadEnable_T LL) :
    FrameN LL rr (execHeadEnable w h s) := by
  delta execHeadEnable
  exact FrameN.next (headCtrl_frame h_s (pick_sub 0x3ffffffff rfl hT))

/-- What execHeadPllLock may change. -/
def execHeadPllLock_T : List Piece :=
  [.fld CLK.PLL_STAT.enabled, .fld CLK.PLL_STAT.lock, .fld CLK.PLL_STAT.mhz, .fld HEAD.HEAD_STAT.pll_lock, .fld HEAD.HEAD_STAT.state]

theorem execHeadPllLock_frame {LL rr h s} (h_s : Frame LL rr s) (hT : Cov execHeadPllLock_T LL) :
    FrameN LL rr (execHeadPllLock h s) := by
  delta execHeadPllLock
  extract_lets k_1
  exact FrameN.next (Frame.ite h_s (wr_frame (wr_frame (wr_frame (wr_frame (wr_frame h_s (pick_sub 0x8 rfl hT)) (pick_sub 0x10 rfl hT)) (pick_sub 0x2 rfl hT)) (pick_sub 0x1 rfl hT)) (pick_sub 0x4 rfl hT)))

/-- What execHeadPllRetry may change. -/
def execHeadPllRetry_T : List Piece :=
  [.ctr .clk, .err .clk, .faults, .fld (HDR.ev_raw .clk), .sent]

theorem execHeadPllRetry_frame {LL rr h s} (h_s : Frame LL rr s) (hT : Cov execHeadPllRetry_T LL) :
    FrameN LL rr (execHeadPllRetry h s) := by
  delta execHeadPllRetry
  extract_lets k_1
  exact FrameN.next (Frame.ite h_s (faultLine_frame (raise_frame (count_frame (recErr_frame h_s (pick_sub 0x1a rfl hT)) (pick_sub 0x1 rfl hT)) (pick_sub 0x18 rfl hT)) (pick_sub 0x4 rfl hT)))

/-- What execPoseCheckDone may change. -/
def execPoseCheckDone_T : List Piece :=
  [.ctr .glint, .err .glint, .fld (HDR.ev_raw .glint), .fld GLINT.POSE_CTRL.post, .fld GLINT.POSE_STAT.posted_seq, .heads, .sent]

theorem execPoseCheckDone_frame {LL rr g s} (h_s : Frame LL rr s) (hT : Cov execPoseCheckDone_T LL) :
    FrameN LL rr (execPoseCheckDone g s) := by
  delta execPoseCheckDone
  extract_lets h_1 c_2 u_3 s1_4
  have h_s1_4 : Frame LL rr s1_4 := by
      unfold s1_4
      exact wr_frame (setHead_frame h_s (pick_sub 0x20 rfl hT)) (pick_sub 0x8 rfl hT)
  clear_value s1_4
  exact FrameN.next (by
      split
      · exact h_s
      · split
        · exact setPosted_frame h_s1_4 (pick_sub 0x31 rfl hT)
        · exact poseRejected_frame h_s1_4 (pick_sub 0x47 rfl hT))

/-- What execPoseLatch may change. -/
def execPoseLatch_T : List Piece :=
  [.ctr .glint, .fld (HDR.ev_raw .glint), .fld GLINT.LATCH_LINE.line, .fld GLINT.LATCH_TIME.time, .fld GLINT.POSE_STAT.latched_seq, .heads, .sent]

theorem execPoseLatch_frame {LL rr g line s} (h_s : Frame LL rr s) (hT : Cov execPoseLatch_T LL) :
    FrameN LL rr (execPoseLatch g line s) := by
  delta execPoseLatch
  exact FrameN.next (poseLatch_frame h_s (pick_sub 0x7f rfl hT))

/-- What execPosePost may change. -/
def execPosePost_T : List Piece :=
  [.ctr .glint, .ctr .pot, .err .glint, .err .pot, .fld (HDR.ev_raw .glint), .fld (HDR.ev_raw .pot), .fld GLINT.POSE_CTRL.post, .heads, .resp,
   .sent, .world]

theorem execPosePost_frame {LL rr w g s} (h_s : Frame LL rr s) (hT : Cov execPosePost_T LL) :
    FrameN LL rr (execPosePost w g s) := by
  delta execPosePost
  exact FrameN.next (poseWrite_frame h_s (pick_sub 0x7ff rfl hT))

end Sys2Proof.Laws
end

