-- ==== Sys2Proof/Laws/FrameLinks.lean ====
section
/-! SUPPORT. What the operations and commands of Machine/Links.lean may change: the parts of each, and that nothing else changes. -/

set_option Elab.async false

namespace Sys2Proof.Laws

open Machine

/-- What State.setLink may change. -/
def setLink_T : List Piece :=
  [.links]

theorem setLink_frame {LL rr s n v} (h_s : Frame LL rr s) (hT : Cov setLink_T LL) :
    Frame LL rr (State.setLink s n v) := by
  delta State.setLink
  exact Frame.upd h_s (m_links := .inl (nth 0 rfl hT))

/-- What State.showBl may change. -/
def showBl_T : List Piece :=
  [.links, .pins]

theorem showBl_frame {LL rr s n} (h_s : Frame LL rr s) (hT : Cov showBl_T LL) :
    Frame LL rr (State.showBl s n) := by
  delta State.showBl
  extract_lets v_1 u_2 s1_3 u_4
  have h_s1_3 : Frame LL rr s1_3 := by
      unfold s1_3
      exact Frame.ite (setLink_frame h_s (pick_sub 0x1 rfl hT)) h_s
  clear_value s1_3
  exact Frame.upd h_s1_3 (m_pins := .inl (nth 1 rfl hT))

/-- What State.setDispen may change. -/
def setDispen_T : List Piece :=
  [.pins]

theorem setDispen_frame {LL rr s n v} (h_s : Frame LL rr s) (hT : Cov setDispen_T LL) :
    Frame LL rr (State.setDispen s n v) := by
  delta State.setDispen
  exact Frame.upd h_s (m_pins := .inl (nth 0 rfl hT))

/-- What State.linkTo may change. -/
def linkTo_T : List Piece :=
  [.fld LINK.LINK_STAT.state, .links, .pins]

theorem linkTo_frame {LL rr s n st} (h_s : Frame LL rr s) (hT : Cov linkTo_T LL) :
    Frame LL rr (State.linkTo s n st) := by
  delta State.linkTo
  extract_lets c_1
  exact showBl_frame (wr_frame (setLink_frame h_s (pick_sub 0x2 rfl hT)) (pick_sub 0x1 rfl hT)) (pick_sub 0x6 rfl hT)

/-- What State.linkDown may change. -/
def linkDown_T : List Piece :=
  [.fld LINK.LINK_STAT.lanes_active, .fld LINK.LINK_STAT.rate_active, .fld LINK.LINK_STAT.state, .links, .pins]

theorem linkDown_frame {LL rr s n} (h_s : Frame LL rr s) (hT : Cov linkDown_T LL) :
    Frame LL rr (State.linkDown s n) := by
  delta State.linkDown
  extract_lets s1_1 u_2
  have h_s1_1 : Frame LL rr s1_1 := by
      unfold s1_1
      exact setDispen_frame (linkTo_frame h_s (pick_sub 0x1c rfl hT)) (pick_sub 0x10 rfl hT)
  clear_value s1_1
  exact wr_frame (wr_frame (setLink_frame h_s1_1 (pick_sub 0x8 rfl hT)) (pick_sub 0x1 rfl hT)) (pick_sub 0x2 rfl hT)

/-- What State.applyIdle may change. -/
def applyIdle_T : List Piece :=
  [.blk .glint, .blk .head, .ctr .basin, .ctr .head, .fld (HDR.commit_seq .glint), .fld (HDR.commit_seq .head), .fld (HDR.ev_raw .basin),
   .fld (HDR.ev_raw .glint), .fld (HDR.ev_raw .head), .fld (HDR.group .glint), .fld (HDR.group .head), .fld (HDR.pending .glint),
   .fld (HDR.pending .head), .fld BASIN.GRP_STAT.applied, .fld BASIN.GRP_STAT.busy, .fld HEAD.GL_STAT.missing, .fld HEAD.GL_STAT.state, .heads,
   .sent, .staged]

theorem applyIdle_frame {LL rr s h} (h_s : Frame LL rr s) (hT : Cov applyIdle_T LL) :
    Frame LL rr (State.applyIdle s h) := by
  delta State.applyIdle
  exact Frame.ite h_s (applyGlint_frame (applyHead_frame h_s (pick_sub 0xff56e rfl hT)) (pick_sub 0xc0a91 rfl hT))

/-- What State.grpArm may change. -/
def grpArm_T : List Piece :=
  [.blk .glint, .blk .head, .ctr .basin, .ctr .head, .ctr .pot, .err .basin, .err .comp, .err .glint, .err .head, .err .link, .err .pot,
   .fld (HDR.commit_seq .glint), .fld (HDR.commit_seq .head), .fld (HDR.ev_raw .basin), .fld (HDR.ev_raw .comp), .fld (HDR.ev_raw .glint),
   .fld (HDR.ev_raw .head), .fld (HDR.ev_raw .link), .fld (HDR.ev_raw .pot), .fld (HDR.group .glint), .fld (HDR.group .head),
   .fld (HDR.pending .glint), .fld (HDR.pending .head), .fld BASIN.GRP_STAT.aborted, .fld BASIN.GRP_STAT.applied, .fld BASIN.GRP_STAT.busy,
   .fld BASIN.GRP_STAT.members, .fld BASIN.GRP_STAT.seq, .fld HEAD.GL_STAT.missing, .fld HEAD.GL_STAT.state, .hdr, .heads, .parts, .resp, .sent,
   .staged, .world]

theorem grpArm_frame {LL rr s w v} (h_s : Frame LL rr s) (hT : Cov grpArm_T LL) :
    Frame LL rr (State.grpArm s w v) := by
  delta State.grpArm
  exact onWrite_frame h_s (fun t1 h2 => by
      extract_lets members_3 pages_4 t1_5 t2_6
      have h_t1_5 : Frame LL rr t1_5 := by
          unfold t1_5
          exact Frame.foldl h2 (fun t7 x8 h9 => wr_frame (stagePage_frame h9 (cov_loc 0x40000000 0xa 0xd00004040 rfl rfl hT)) (cov_loc 0x40000000 0x1 0x0 rfl rfl hT))
      have h_t2_6 : Frame LL rr t2_6 := by
          unfold t2_6
          exact wr_frame (wr_frame (wr_frame (wr_frame (wr_frame h_t1_5 (pick_sub 0x4000000 rfl hT)) (pick_sub 0x1000000 rfl hT)) (pick_sub 0x2000000 rfl hT)) (pick_sub 0x800000 rfl hT)) (pick_sub 0x8000000 rfl hT)
      clear_value t1_5 t2_6
      exact Frame.ite h2 (Frame.ite (count_frame (refuse_frame h2 (pick_sub 0x600002020 rfl hT)) (pick_sub 0x4 rfl hT)) (by
          split
          · exact refuse_frame h2 (pick_sub 0x600002020 rfl hT)
          · split
            · exact refuse_frame h2 (pick_sub 0x600010100 rfl hT)
            · split
              · exact refuse_frame h2 (pick_sub 0x600020200 rfl hT)
              · split
                · exact refuse_frame h2 (pick_sub 0x600008080 rfl hT)
                · exact Frame.foldl (setCohorts_frame (count_frame h_t2_6 (pick_sub 0x4 rfl hT)) (pick_sub 0x80000000 rfl hT)) (fun t32 x33 h34 => applyIdle_frame h34 (pick_sub 0xcb379b80f rfl hT))))) (idx_sub [4, 10, 5, 18, 13, 33, 34, 36] rfl hT)

/-- What State.linkTrain may change. -/
def linkTrain_T : List Piece :=
  [.ctr .link, .fld LINK.LINK_STAT.state, .links, .pins]

theorem linkTrain_frame {LL rr s n} (h_s : Frame LL rr s) (hT : Cov linkTrain_T LL) :
    Frame LL rr (State.linkTrain s n) := by
  delta State.linkTrain
  extract_lets t_1 s1_2 u_3
  have h_s1_2 : Frame LL rr s1_2 := by
      unfold s1_2
      exact linkTo_frame h_s (pick_sub 0xe rfl hT)
  clear_value s1_2
  exact Frame.ite (count_frame h_s1_2 (pick_sub 0x1 rfl hT)) (setLink_frame h_s1_2 (pick_sub 0x4 rfl hT))

/-- What State.linkOff may change. -/
def linkOff_T : List Piece :=
  [.fld LINK.LINK_STAT.state, .links, .pins]

theorem linkOff_frame {LL rr s n} (h_s : Frame LL rr s) (hT : Cov linkOff_T LL) :
    Frame LL rr (State.linkOff s n) := by
  delta State.linkOff
  exact Frame.ite (wr_frame h_s (pick_sub 0x1 rfl hT)) (Frame.ite h_s (showBl_frame (setLink_frame h_s (pick_sub 0x2 rfl hT)) (pick_sub 0x6 rfl hT)))

/-- What State.linkCtrl may change. -/
def linkCtrl_T : List Piece :=
  [.ctr .link, .ctr .pot, .err .link, .err .pot, .fld (HDR.dirty .link), .fld (HDR.ev_raw .link), .fld (HDR.ev_raw .pot),
   .fld LINK.LINK_STAT.retries_left, .fld LINK.LINK_STAT.state, .links, .pins, .reg .link 0x100, .resp, .sent, .world]

theorem linkCtrl_frame {LL rr s w n v} (h_s : Frame LL rr s) (hT : Cov linkCtrl_T LL) :
    Frame LL rr (State.linkCtrl s w n v) := by
  delta State.linkCtrl
  exact onWrite_frame h_s (fun t1 h2 => by
      extract_lets was_3 t1_4 t2_5
      have h_t1_4 : Frame LL rr t1_4 := by
          unfold t1_4
          exact storeWord_frame h2 (pick_sub 0x810 rfl hT)
      have h_t2_5 : Frame LL rr t2_5 := by
          unfold t2_5
          exact Frame.ite h_t1_4 (wr_frame h_t1_4 (pick_sub 0x80 rfl hT))
      clear_value t1_4 t2_5
      exact Frame.ite (Frame.ite (refuse_frame h2 (pick_sub 0x3024 rfl hT)) (Frame.ite (linkTo_frame h_t2_5 (pick_sub 0x700 rfl hT)) (Frame.ite (linkTrain_frame h_t2_5 (pick_sub 0x701 rfl hT)) h_t2_5))) (linkOff_frame (storeWord_frame h2 (pick_sub 0x810 rfl hT)) (pick_sub 0x700 rfl hT))) (idx_sub [1, 3, 2, 6, 5, 12, 13, 14] rfl hT)

/-- What State.auxWrite may change. -/
def auxWrite_T : List Piece :=
  [.ctr .pot, .err .link, .err .pot, .fld (HDR.dirty .link), .fld (HDR.ev_raw .link), .fld (HDR.ev_raw .pot), .fld LINK.AUX_CTRL.go, .links,
   .reg .link 0x120, .resp, .sent, .world]

theorem auxWrite_frame {LL rr s w n v} (h_s : Frame LL rr s) (hT : Cov auxWrite_T LL) :
    Frame LL rr (State.auxWrite s w n v) := by
  delta State.auxWrite
  exact onWrite_frame h_s (fun t1 h2 => Frame.ite (storeWord_frame h2 (pick_sub 0x108 rfl hT)) (Frame.ite (refuse_frame h2 (pick_sub 0x612 rfl hT)) (setLink_frame (wr_frame (storeWord_frame h2 (pick_sub 0x108 rfl hT)) (pick_sub 0x40 rfl hT)) (pick_sub 0x80 rfl hT)))) (idx_sub [0, 2, 1, 5, 4, 9, 10, 11] rfl hT)

/-- What State.dsiWrite may change. -/
def dsiWrite_T : List Piece :=
  [.ctr .pot, .err .link, .err .pot, .fld (HDR.dirty .link), .fld (HDR.ev_raw .link), .fld (HDR.ev_raw .pot), .fld LINK.DSI_CMD_CTRL.go,
   .reg .link 0x140, .resp, .sent, .world]

theorem dsiWrite_frame {LL rr s w n v} (h_s : Frame LL rr s) (hT : Cov dsiWrite_T LL) :
    Frame LL rr (State.dsiWrite s w n v) := by
  delta State.dsiWrite
  exact onWrite_frame h_s (fun t1 h2 => Frame.ite (storeWord_frame h2 (pick_sub 0x88 rfl hT)) (Frame.ite (refuse_frame h2 (pick_sub 0x312 rfl hT)) (wr_frame (storeWord_frame h2 (pick_sub 0x88 rfl hT)) (pick_sub 0x40 rfl hT)))) (idx_sub [0, 2, 1, 5, 4, 8, 9, 10] rfl hT)

/-- What State.blWrite may change. -/
def blWrite_T (off : Nat) : List Piece :=
  [.ctr .pot, .err .link, .err .pot, .fld (HDR.dirty .link), .fld (HDR.ev_raw .link), .fld (HDR.ev_raw .pot), .links, .reg .link off, .resp, .sent,
   .world]

theorem blWrite_frame {LL rr s w n off v} (h_s : Frame LL rr s) (hT : Cov (blWrite_T off) LL) :
    Frame LL rr (State.blWrite s w n off v) := by
  delta State.blWrite
  exact onWrite_frame h_s (fun t1 h2 => by
      extract_lets c_3 c1_4
      exact storeWord_frame (setLink_frame h2 (pick_sub 0x40 rfl hT)) (pick_sub 0x88 rfl hT)) (idx_sub [0, 2, 1, 5, 4, 8, 9, 10] rfl hT)

/-- What State.blSync may change. -/
def blSync_T : List Piece :=
  [.links]

theorem blSync_frame {LL rr s n} (h_s : Frame LL rr s) (hT : Cov blSync_T LL) :
    Frame LL rr (State.blSync s n) := by
  delta State.blSync
  exact Frame.ite h_s (by
      extract_lets c_1
      exact setLink_frame h_s (pick_sub 0x1 rfl hT))

/-- What State.hpdNews may change. -/
def hpdNews_T : List Piece :=
  [.ctr .link, .evSeq, .events, .fld (HDR.ev_raw .link), .fld LINK.LINK_STAT.hpd, .sent]

theorem hpdNews_frame {LL rr s n v} (h_s : Frame LL rr s) (hT : Cov hpdNews_T LL) :
    Frame LL rr (State.hpdNews s n v) := by
  delta State.hpdNews
  exact eventPage_frame (raise_frame (count_frame (wrB_frame h_s (pick_sub 0x10 rfl hT)) (pick_sub 0x1 rfl hT)) (pick_sub 0x28 rfl hT)) (pick_sub 0x6 rfl hT)

/-- What State.linkLost may change. -/
def linkLost_T : List Piece :=
  [.ctr .link, .evSeq, .events, .faults, .fld (HDR.ev_raw .link), .fld LINK.LINK_STAT.lost_cause, .fld LINK.LINK_STAT.state, .links, .pins, .sent]

theorem linkLost_frame {LL rr s n cause} (h_s : Frame LL rr s) (hT : Cov linkLost_T LL) :
    Frame LL rr (State.linkLost s n cause) := by
  delta State.linkLost
  exact Frame.ite h_s (by
      extract_lets t_1 s1_2 s2_3 u_4
      have h_s1_2 : Frame LL rr s1_2 := by
          unfold s1_2
          exact faultLine_frame (count_frame (raise_frame (wr_frame h_s (pick_sub 0x20 rfl hT)) (pick_sub 0x210 rfl hT)) (pick_sub 0x1 rfl hT)) (pick_sub 0x8 rfl hT)
      have h_s2_3 : Frame LL rr s2_3 := by
          unfold s2_3
          exact eventPage_frame h_s1_2 (pick_sub 0x6 rfl hT)
      clear_value s1_2 s2_3
      exact Frame.ite (linkTo_frame h_s2_3 (pick_sub 0x1c0 rfl hT)) (Frame.ite (Frame.ite (linkTo_frame h_s2_3 (pick_sub 0x1c0 rfl hT)) (linkTrain_frame h_s2_3 (pick_sub 0x1c1 rfl hT))) (setLink_frame h_s2_3 (pick_sub 0x80 rfl hT))))

/-- What State.linkBlank may change. -/
def linkBlank_T : List Piece :=
  [.ctr .link, .evSeq, .events, .faults, .fld (HDR.ev_raw .link), .fld LINK.LINK_STAT.lost_cause, .fld LINK.LINK_STAT.state, .links, .pins, .sent]

theorem linkBlank_frame {LL rr s0 n unlocked} (h_s0 : Frame LL rr s0) (hT : Cov linkBlank_T LL) :
    Frame LL rr (State.linkBlank s0 n unlocked) := by
  delta State.linkBlank
  extract_lets s_1 s1_2 u_3 s1_4
  have h_s_1 : Frame LL rr s_1 := by
      unfold s_1
      exact blSync_frame h_s0 (pick_sub 0x80 rfl hT)
  have h_s1_2 : Frame LL rr s1_2 := by
      unfold s1_2
      exact linkTo_frame h_s_1 (pick_sub 0x1c0 rfl hT)
  have h_s1_4 : Frame LL rr s1_4 := by
      unfold s1_4
      exact count_frame h_s_1 (pick_sub 0x1 rfl hT)
  clear_value s_1 s1_2 s1_4
  exact Frame.ite h_s_1 (Frame.ite (setLink_frame h_s1_2 (pick_sub 0x80 rfl hT)) (Frame.ite (Frame.ite (linkLost_frame h_s1_4 (pick_sub 0x3ff rfl hT)) h_s1_4) h_s_1))

/-- What State.linkFailed may change. -/
def linkFailed_T : List Piece :=
  [.ctr .link, .evSeq, .events, .fld (HDR.ev_raw .link), .fld LINK.LINK_STAT.state, .links, .pins, .sent]

theorem linkFailed_frame {LL rr s n} (h_s : Frame LL rr s) (hT : Cov linkFailed_T LL) :
    Frame LL rr (State.linkFailed s n) := by
  delta State.linkFailed
  exact eventPage_frame (raise_frame (count_frame (linkTo_frame h_s (pick_sub 0x70 rfl hT)) (pick_sub 0x1 rfl hT)) (pick_sub 0x88 rfl hT)) (pick_sub 0x6 rfl hT)

/-- What State.linkPins may change. -/
def linkPins_T : List Piece :=
  [.links, .pins]

theorem linkPins_frame {LL rr s} (h_s : Frame LL rr s) (hT : Cov linkPins_T LL) :
    Frame LL rr (State.linkPins s) := by
  delta State.linkPins
  exact Frame.foldl h_s (fun t1 x2 h3 => showBl_frame (setDispen_frame h3 (pick_sub 0x2 rfl hT)) (pick_sub 0x3 rfl hT))

/-- What State.linkPowered may change. -/
def linkPowered_T : List Piece :=
  [.ctr .link, .fld LINK.LINK_STAT.state, .links, .pins]

theorem linkPowered_frame {LL rr s n} (h_s : Frame LL rr s) (hT : Cov linkPowered_T LL) :
    Frame LL rr (State.linkPowered s n) := by
  delta State.linkPowered
  extract_lets t_1
  exact Frame.ite h_s (linkTrain_frame h_s (pick_sub 0xf rfl hT))

/-- What execAuxDone may change. -/
def execAuxDone_T : List Piece :=
  [.ctr .link, .fld (HDR.ev_raw .link), .fld LINK.AUX_CTRL.go, .fld LINK.AUX_DATA.data, .fld LINK.AUX_STAT.count, .fld LINK.AUX_STAT.reply, .sent]

theorem execAuxDone_frame {LL rr n reply count data s} (h_s : Frame LL rr s) (hT : Cov execAuxDone_T LL) :
    FrameN LL rr (execAuxDone n reply count data s) := by
  delta execAuxDone
  extract_lets k_1 v_2 got_3 s1_4 s2_5 s3_6
  have h_s1_4 : Frame LL rr s1_4 := by
      unfold s1_4
      exact wr_frame (wr_frame (wr_frame h_s (pick_sub 0x4 rfl hT)) (pick_sub 0x20 rfl hT)) (pick_sub 0x10 rfl hT)
  have h_s2_5 : Frame LL rr s2_5 := by
      unfold s2_5
      exact Frame.ite (Frame.foldl h_s1_4 (fun t7 x8 h9 => by
          extract_lets w_10 g_11
          exact wr_frame h9 (pick_sub 0x8 rfl hT))) h_s1_4
  have h_s3_6 : Frame LL rr s3_6 := by
      unfold s3_6
      exact count_frame (raise_frame h_s2_5 (pick_sub 0x42 rfl hT)) (pick_sub 0x1 rfl hT)
  clear_value s1_4 s2_5 s3_6
  exact FrameN.next (Frame.ite h_s (Frame.ite (count_frame h_s3_6 (pick_sub 0x1 rfl hT)) h_s3_6))

/-- What execAuxGo may change. -/
def execAuxGo_T : List Piece :=
  [.ctr .pot, .err .link, .err .pot, .fld (HDR.dirty .link), .fld (HDR.ev_raw .link), .fld (HDR.ev_raw .pot), .fld LINK.AUX_CTRL.go, .links,
   .reg .link 0x120, .resp, .sent, .world]

theorem execAuxGo_frame {LL rr w n v s} (h_s : Frame LL rr s) (hT : Cov execAuxGo_T LL) :
    FrameN LL rr (execAuxGo w n v s) := by
  delta execAuxGo
  exact FrameN.next (auxWrite_frame h_s (pick_sub 0xfff rfl hT))

/-- What execBacklightOnDelayExpiry may change. -/
def execBacklightOnDelayExpiry_T : List Piece :=
  [.links, .pins]

theorem execBacklightOnDelayExpiry_frame {LL rr n s} (h_s : Frame LL rr s) (hT : Cov execBacklightOnDelayExpiry_T LL) :
    FrameN LL rr (execBacklightOnDelayExpiry n s) := by
  delta execBacklightOnDelayExpiry
  extract_lets k_1 u_2 s1_3 u_4
  have h_s1_3 : Frame LL rr s1_3 := by
      unfold s1_3
      exact showBl_frame (setLink_frame h_s (pick_sub 0x1 rfl hT)) (pick_sub 0x3 rfl hT)
  clear_value s1_3
  exact FrameN.next (Frame.ite h_s (setLink_frame h_s1_3 (pick_sub 0x1 rfl hT)))

/-- What execDsiCmdGo may change. -/
def execDsiCmdGo_T : List Piece :=
  [.ctr .pot, .err .link, .err .pot, .fld (HDR.dirty .link), .fld (HDR.ev_raw .link), .fld (HDR.ev_raw .pot), .fld LINK.DSI_CMD_CTRL.go,
   .reg .link 0x140, .resp, .sent, .world]

theorem execDsiCmdGo_frame {LL rr w n v s} (h_s : Frame LL rr s) (hT : Cov execDsiCmdGo_T LL) :
    FrameN LL rr (execDsiCmdGo w n v s) := by
  delta execDsiCmdGo
  exact FrameN.next (dsiWrite_frame h_s (pick_sub 0x7ff rfl hT))

/-- What execDsiSent may change. -/
def execDsiSent_T : List Piece :=
  [.fld (HDR.ev_raw .link), .fld LINK.DSI_CMD_CTRL.go, .links, .sent]

theorem execDsiSent_frame {LL rr n s} (h_s : Frame LL rr s) (hT : Cov execDsiSent_T LL) :
    FrameN LL rr (execDsiSent n s) := by
  delta execDsiSent
  extract_lets k_1 s1_2 u_3
  have h_s1_2 : Frame LL rr s1_2 := by
      unfold s1_2
      exact raise_frame (wr_frame h_s (pick_sub 0x2 rfl hT)) (pick_sub 0x9 rfl hT)
  clear_value s1_2
  exact FrameN.next (Frame.ite h_s (Frame.ite (setLink_frame h_s1_2 (pick_sub 0x4 rfl hT)) h_s1_2))

/-- What execGrpArm may change. -/
def execGrpArm_T : List Piece :=
  [.blk .glint, .blk .head, .ctr .basin, .ctr .head, .ctr .pot, .err .basin, .err .comp, .err .glint, .err .head, .err .link, .err .pot,
   .fld (HDR.commit_seq .glint), .fld (HDR.commit_seq .head), .fld (HDR.ev_raw .basin), .fld (HDR.ev_raw .comp), .fld (HDR.ev_raw .glint),
   .fld (HDR.ev_raw .head), .fld (HDR.ev_raw .link), .fld (HDR.ev_raw .pot), .fld (HDR.group .glint), .fld (HDR.group .head),
   .fld (HDR.pending .glint), .fld (HDR.pending .head), .fld BASIN.GRP_STAT.aborted, .fld BASIN.GRP_STAT.applied, .fld BASIN.GRP_STAT.busy,
   .fld BASIN.GRP_STAT.members, .fld BASIN.GRP_STAT.seq, .fld HEAD.GL_STAT.missing, .fld HEAD.GL_STAT.state, .hdr, .heads, .parts, .resp, .sent,
   .staged, .world]

theorem execGrpArm_frame {LL rr w v s} (h_s : Frame LL rr s) (hT : Cov execGrpArm_T LL) :
    FrameN LL rr (execGrpArm w v s) := by
  delta execGrpArm
  exact FrameN.next (grpArm_frame h_s (pick_sub 0x1fffffffff rfl hT))

/-- What execHpdIrq may change. -/
def execHpdIrq_T : List Piece :=
  [.ctr .link, .evSeq, .events, .faults, .fld (HDR.ev_raw .link), .fld LINK.LINK_STAT.lost_cause, .fld LINK.LINK_STAT.state, .links, .pins, .sent]

theorem execHpdIrq_frame {LL rr n unlocked s} (h_s : Frame LL rr s) (hT : Cov execHpdIrq_T LL) :
    FrameN LL rr (execHpdIrq n unlocked s) := by
  delta execHpdIrq
  extract_lets k_1 t_2 s1_3
  have h_s1_3 : Frame LL rr s1_3 := by
      unfold s1_3
      exact raise_frame (count_frame h_s (pick_sub 0x1 rfl hT)) (pick_sub 0x210 rfl hT)
  clear_value s1_3
  exact FrameN.next (Frame.ite h_s (Frame.ite (linkLost_frame h_s1_3 (pick_sub 0x3ff rfl hT)) h_s1_3))

/-- What execHpdPlug may change. -/
def execHpdPlug_T : List Piece :=
  [.ctr .link, .evSeq, .events, .fld (HDR.ev_raw .link), .fld LINK.LINK_STAT.hpd, .fld LINK.LINK_STAT.state, .links, .pins, .sent]

theorem execHpdPlug_frame {LL rr n s} (h_s : Frame LL rr s) (hT : Cov execHpdPlug_T LL) :
    FrameN LL rr (execHpdPlug n s) := by
  delta execHpdPlug
  extract_lets k_1 t_2 s1_3
  have h_s1_3 : Frame LL rr s1_3 := by
      unfold s1_3
      exact hpdNews_frame h_s (pick_sub 0x11f rfl hT)
  clear_value s1_3
  exact FrameN.next (Frame.ite h_s (Frame.ite (linkTrain_frame h_s1_3 (pick_sub 0xe1 rfl hT)) (linkPowered_frame h_s1_3 (pick_sub 0xe1 rfl hT))))

/-- What execHpdUnplug may change. -/
def execHpdUnplug_T : List Piece :=
  [.ctr .link, .evSeq, .events, .faults, .fld (HDR.ev_raw .link), .fld LINK.LINK_STAT.hpd, .fld LINK.LINK_STAT.lost_cause,
   .fld LINK.LINK_STAT.state, .links, .pins, .sent]

theorem execHpdUnplug_frame {LL rr n s} (h_s : Frame LL rr s) (hT : Cov execHpdUnplug_T LL) :
    FrameN LL rr (execHpdUnplug n s) := by
  delta execHpdUnplug
  extract_lets k_1 t_2
  exact FrameN.next (Frame.ite h_s (linkLost_frame (hpdNews_frame h_s (pick_sub 0x437 rfl hT)) (pick_sub 0x7df rfl hT)))

/-- What execLinkDisable may change. -/
def execLinkDisable_T : List Piece :=
  [.ctr .link, .ctr .pot, .err .link, .err .pot, .fld (HDR.dirty .link), .fld (HDR.ev_raw .link), .fld (HDR.ev_raw .pot),
   .fld LINK.LINK_STAT.retries_left, .fld LINK.LINK_STAT.state, .links, .pins, .reg .link 0x100, .resp, .sent, .world]

theorem execLinkDisable_frame {LL rr w n v s} (h_s : Frame LL rr s) (hT : Cov execLinkDisable_T LL) :
    FrameN LL rr (execLinkDisable w n v s) := by
  delta execLinkDisable
  exact FrameN.next (linkCtrl_frame h_s (pick_sub 0x7fff rfl hT))

/-- What execLinkEnable may change. -/
def execLinkEnable_T : List Piece :=
  [.ctr .link, .ctr .pot, .err .link, .err .pot, .fld (HDR.dirty .link), .fld (HDR.ev_raw .link), .fld (HDR.ev_raw .pot),
   .fld LINK.LINK_STAT.retries_left, .fld LINK.LINK_STAT.state, .links, .pins, .reg .link 0x100, .resp, .sent, .world]

theorem execLinkEnable_frame {LL rr w n v s} (h_s : Frame LL rr s) (hT : Cov execLinkEnable_T LL) :
    FrameN LL rr (execLinkEnable w n v s) := by
  delta execLinkEnable
  exact FrameN.next (linkCtrl_frame h_s (pick_sub 0x7fff rfl hT))

/-- What execLinkHpdTimeout may change. -/
def execLinkHpdTimeout_T : List Piece :=
  [.ctr .link, .evSeq, .events, .fld (HDR.ev_raw .link), .fld LINK.LINK_STAT.state, .links, .pins, .sent]

theorem execLinkHpdTimeout_frame {LL rr n s} (h_s : Frame LL rr s) (hT : Cov execLinkHpdTimeout_T LL) :
    FrameN LL rr (execLinkHpdTimeout n s) := by
  delta execLinkHpdTimeout
  extract_lets k_1
  exact FrameN.next (Frame.ite h_s (linkFailed_frame h_s (pick_sub 0xff rfl hT)))

/-- What execLinkLoadFault may change. -/
def execLinkLoadFault_T : List Piece :=
  [.ctr .link, .evSeq, .events, .faults, .fld (HDR.ev_raw .link), .fld LINK.LINK_STAT.lost_cause, .fld LINK.LINK_STAT.state, .links, .pins, .sent]

theorem execLinkLoadFault_frame {LL rr n wasInRange s} (h_s : Frame LL rr s) (hT : Cov execLinkLoadFault_T LL) :
    FrameN LL rr (execLinkLoadFault n wasInRange s) := by
  delta execLinkLoadFault
  extract_lets k_1 t_2
  exact FrameN.next (Frame.ite h_s (linkLost_frame h_s (pick_sub 0x3ff rfl hT)))

/-- What execLinkPowerUp may change. -/
def execLinkPowerUp_T : List Piece :=
  [.fld LINK.LINK_STAT.state, .links, .pins]

theorem execLinkPowerUp_frame {LL rr n s} (h_s : Frame LL rr s) (hT : Cov execLinkPowerUp_T LL) :
    FrameN LL rr (execLinkPowerUp n s) := by
  delta execLinkPowerUp
  extract_lets k_1
  exact FrameN.next (Frame.ite h_s (setDispen_frame (linkTo_frame h_s (pick_sub 0x7 rfl hT)) (pick_sub 0x4 rfl hT)))

/-- What execLinkPoweroffTimer may change. -/
def execLinkPoweroffTimer_T : List Piece :=
  [.fld LINK.LINK_STAT.lanes_active, .fld LINK.LINK_STAT.rate_active, .fld LINK.LINK_STAT.state, .links, .pins]

theorem execLinkPoweroffTimer_frame {LL rr n s} (h_s : Frame LL rr s) (hT : Cov execLinkPoweroffTimer_T LL) :
    FrameN LL rr (execLinkPoweroffTimer n s) := by
  delta execLinkPoweroffTimer
  extract_lets k_1 c_2
  exact FrameN.next (Frame.ite (setLink_frame h_s (pick_sub 0x8 rfl hT)) (Frame.ite (linkDown_frame h_s (pick_sub 0x1f rfl hT)) h_s))

/-- What execLinkRetry may change. -/
def execLinkRetry_T : List Piece :=
  [.ctr .link, .fld LINK.LINK_STAT.retries_left, .fld LINK.LINK_STAT.state, .links, .pins]

theorem execLinkRetry_frame {LL rr n s} (h_s : Frame LL rr s) (hT : Cov execLinkRetry_T LL) :
    FrameN LL rr (execLinkRetry n s) := by
  delta execLinkRetry
  extract_lets k_1
  exact FrameN.next (Frame.ite h_s (Frame.ite (linkTrain_frame h_s (pick_sub 0x1d rfl hT)) (Frame.ite h_s (linkTrain_frame (wr_frame h_s (pick_sub 0x2 rfl hT)) (pick_sub 0x1d rfl hT)))))

/-- What execLinkTrain may change. -/
def execLinkTrain_T : List Piece :=
  [.ctr .link, .fld LINK.LINK_STAT.state, .links, .pins]

theorem execLinkTrain_frame {LL rr n s} (h_s : Frame LL rr s) (hT : Cov execLinkTrain_T LL) :
    FrameN LL rr (execLinkTrain n s) := by
  delta execLinkTrain
  exact FrameN.next (linkPowered_frame h_s (pick_sub 0xf rfl hT))

/-- What execLinkTrainEnd may change. -/
def execLinkTrainEnd_T : List Piece :=
  [.ctr .link, .evSeq, .events, .fld (HDR.ev_raw .link), .fld LINK.LINK_STAT.lanes_active, .fld LINK.LINK_STAT.rate_active,
   .fld LINK.LINK_STAT.state, .links, .pins, .sent]

theorem execLinkTrainEnd_frame {LL rr n ok lanes rate s} (h_s : Frame LL rr s) (hT : Cov execLinkTrainEnd_T LL) :
    FrameN LL rr (execLinkTrainEnd n ok lanes rate s) := by
  delta execLinkTrainEnd
  extract_lets k_1 t_2 u_3
  exact FrameN.next (Frame.ite h_s (Frame.ite (raise_frame (wr_frame (wr_frame (setLink_frame h_s (pick_sub 0x80 rfl hT)) (pick_sub 0x10 rfl hT)) (pick_sub 0x20 rfl hT)) (pick_sub 0x208 rfl hT)) (linkFailed_frame h_s (pick_sub 0x3cf rfl hT))))

end Sys2Proof.Laws
end

