-- ==== Sys2Proof/Laws/FrameSafety.lean ====
section
/-! SUPPORT. What the operations and commands of Machine/Safety.lean may change: the parts of each, and that nothing else changes. -/

set_option Elab.async false

namespace Sys2Proof.Laws

open Machine

/-- What State.lsramNext may change. -/
def lsramNext_T : List Piece :=
  [.fld LANTERN.LSRAM_ADDR.addr]

theorem lsramNext_frame {LL rr s} (h_s : Frame LL rr s) (hT : Cov lsramNext_T LL) :
    Frame LL rr (State.lsramNext s) := by
  delta State.lsramNext
  exact wr_frame h_s (pick_sub 0x1 rfl hT)

/-- What State.sramCe may change. -/
def sramCe_T : List Piece :=
  [.ctr .lantern, .fld (HDR.ev_raw .lantern), .sent]

theorem sramCe_frame {LL rr s} (h_s : Frame LL rr s) (hT : Cov sramCe_T LL) :
    Frame LL rr (State.sramCe s) := by
  delta State.sramCe
  exact raise_frame (count_frame h_s (pick_sub 0x1 rfl hT)) (pick_sub 0x6 rfl hT)

/-- What State.sramUe may change. -/
def sramUe_T : List Piece :=
  [.ctr .lantern, .faults, .fld (HDR.ev_raw .lantern), .sent]

theorem sramUe_frame {LL rr s} (h_s : Frame LL rr s) (hT : Cov sramUe_T LL) :
    Frame LL rr (State.sramUe s) := by
  delta State.sramUe
  exact faultLine_frame (raise_frame (count_frame h_s (pick_sub 0x1 rfl hT)) (pick_sub 0xc rfl hT)) (pick_sub 0x2 rfl hT)

/-- What State.lsramRead may change. -/
def lsramRead_T : List Piece :=
  [.ctr .lantern, .faults, .fld (HDR.ev_raw .lantern), .fld LANTERN.LSRAM_ADDR.addr, .resp, .sent]

theorem lsramRead_frame {LL rr s find} (h_s : Frame LL rr s) (hT : Cov lsramRead_T LL) :
    Frame LL rr (State.lsramRead s find) := by
  delta State.lsramRead
  extract_lets a_1 d_2
  split
  · exact okResp_frame (lsramNext_frame h_s (pick_sub 0x8 rfl hT)) (pick_sub 0x10 rfl hT)
  · exact okResp_frame (sramCe_frame (lsramNext_frame h_s (pick_sub 0x8 rfl hT)) (pick_sub 0x25 rfl hT)) (pick_sub 0x10 rfl hT)
  · exact errResp_frame (sramUe_frame (lsramNext_frame h_s (pick_sub 0x8 rfl hT)) (pick_sub 0x27 rfl hT)) (pick_sub 0x10 rfl hT)

/-- What State.logDataRead may change. -/
def logDataRead_T : List Piece :=
  [.fld SAFE.LOG_UNREAD.count, .resp, .safe]

theorem logDataRead_frame {LL rr s w} (h_s : Frame LL rr s) (hT : Cov logDataRead_T LL) :
    Frame LL rr (State.logDataRead s w) := by
  delta State.logDataRead
  extract_lets c_1 e_2 s1_3
  have h_s1_3 : Frame LL rr s1_3 := by
      unfold s1_3
      exact okResp_frame h_s (pick_sub 0x2 rfl hT)
  clear_value s1_3
  exact Frame.ite (okResp_frame h_s (pick_sub 0x2 rfl hT)) (Frame.ite h_s1_3 (Frame.ite (Frame.upd h_s1_3 (m_safe := .inl (nth 2 rfl hT))) (wr_frame (Frame.upd h_s1_3 (m_safe := .inl (nth 2 rfl hT))) (pick_sub 0x1 rfl hT))))

/-- What State.setCap may change. -/
def setCap_T : List Piece :=
  [.caps]

theorem setCap_frame {LL rr s n v} (h_s : Frame LL rr s) (hT : Cov setCap_T LL) :
    Frame LL rr (State.setCap s n v) := by
  delta State.setCap
  exact Frame.upd h_s (m_caps := .inl (nth 0 rfl hT))

/-- What State.faultAssert may change. -/
def faultAssert_T : List Piece :=
  [.ctr .safe, .fld (HDR.ev_raw .safe), .fld SAFE.FAULT_CTRL.assert, .fld SAFE.ISL_STAT.fault, .pins, .safe, .sent]

theorem faultAssert_frame {LL rr s} (h_s : Frame LL rr s) (hT : Cov faultAssert_T LL) :
    Frame LL rr (State.faultAssert s) := by
  delta State.faultAssert
  extract_lets was_1 u_2 u_3 s1_4 s2_5
  have h_s1_4 : Frame LL rr s1_4 := by
      unfold s1_4
      exact Frame.upd h_s (m_pins := .inl (nth 4 rfl hT)) (m_safe := .inl (nth 5 rfl hT))
  have h_s2_5 : Frame LL rr s2_5 := by
      unfold s2_5
      exact wr_frame (wr_frame h_s1_4 (pick_sub 0x4 rfl hT)) (pick_sub 0x8 rfl hT)
  clear_value s1_4 s2_5
  exact Frame.ite h_s2_5 (raise_frame (count_frame h_s2_5 (pick_sub 0x1 rfl hT)) (pick_sub 0x42 rfl hT))

/-- What State.forceDispen may change. -/
def forceDispen_T : List Piece :=
  [.fld LINK.LINK_STAT.lanes_active, .fld LINK.LINK_STAT.rate_active, .fld LINK.LINK_STAT.state, .links, .pins]

theorem forceDispen_frame {LL rr s h} (h_s : Frame LL rr s) (hT : Cov forceDispen_T LL) :
    Frame LL rr (State.forceDispen s h) := by
  delta State.forceDispen
  exact Frame.ite (setDispen_frame h_s (pick_sub 0x10 rfl hT)) (linkDown_frame h_s (pick_sub 0x1f rfl hT))

/-- What State.headSrcNow may change. -/
def headSrcNow_T : List Piece :=
  [.ctr .safe, .fld LINK.LINK_STAT.lanes_active, .fld LINK.LINK_STAT.rate_active, .fld LINK.LINK_STAT.state, .links, .pins]

theorem headSrcNow_frame {LL rr s oldDispen} (h_s : Frame LL rr s) (hT : Cov headSrcNow_T LL) :
    Frame LL rr (State.headSrcNow s oldDispen) := by
  delta State.headSrcNow
  exact Frame.foldl h_s (fun t1 x2 h3 => showBl_frame (Frame.ite (count_frame (forceDispen_frame h3 (pick_sub 0x3e rfl hT)) (pick_sub 0x1 rfl hT)) h3) (pick_sub 0x30 rfl hT))

/-- What State.safeApply may change. -/
def safeApply_T (b : Blk) : List Piece :=
  [.blk b, .fld (HDR.commit_seq b), .fld (HDR.ev_raw b), .fld (HDR.pending b), .fld LANTERN.OVL.windows, .fld LANTERN.VIS.regions, .parts, .sent,
   .staged]

theorem safeApply_frame {LL rr s b h} (h_s : Frame LL rr s) (hT : Cov (safeApply_T b) LL) :
    Frame LL rr (State.safeApply s b h) := by
  delta State.safeApply
  extract_lets pg_1 left_2 rest_3 vis_4 ovl_5 s1_6 s2_7 u_8 s3_9
  have h_s1_6 : Frame LL rr s1_6 := by
      unfold s1_6
      exact applyPart_frame h_s (pick_sub 0x1 rfl hT)
  have h_s2_7 : Frame LL rr s2_7 := by
      unfold s2_7
      exact Frame.ite (wr_frame (wr_frame h_s1_6 (pick_sub 0x20 rfl hT)) (pick_sub 0x10 rfl hT)) h_s1_6
  have h_s3_9 : Frame LL rr s3_9 := by
      unfold s3_9
      exact Frame.upd h_s2_7 (m_parts := .inl (nth 6 rfl hT))
  clear_value s1_6 s2_7 s3_9
  exact Frame.ite h_s (Frame.ite (commitDone_frame h_s3_9 (pick_sub 0x18e rfl hT)) h_s3_9)

/-- What State.safeCommit may change. -/
def safeCommit_T (b : Blk) : List Piece :=
  [.blk b, .fld (HDR.commit_seq b), .fld (HDR.dirty b), .fld (HDR.ev_raw b), .fld (HDR.pending b), .fld LANTERN.OVL.windows,
   .fld LANTERN.VIS.regions, .parts, .sent, .staged]

theorem safeCommit_frame {LL rr s b} (h_s : Frame LL rr s) (hT : Cov (safeCommit_T b) LL) :
    Frame LL rr (State.safeCommit s b) := by
  delta State.safeCommit
  extract_lets s1_1 s2_2
  have h_s1_1 : Frame LL rr s1_1 := by
      unfold s1_1
      exact wr_frame (stageSet_frame h_s (idx_sub [9, 2] rfl hT)) (pick_sub 0x10 rfl hT)
  have h_s2_2 : Frame LL rr s2_2 := by
      unfold s2_2
      exact Frame.upd h_s1_1 (m_parts := .inl (nth 7 rfl hT))
  clear_value s1_1 s2_2
  exact Frame.foldl h_s2_2 (fun t3 x4 h5 => Frame.ite h5 (safeApply_frame h5 (pick_sub 0x3fb rfl hT)))

/-- What State.setShead may change. -/
def setShead_T : List Piece :=
  [.safe]

theorem setShead_frame {LL rr s h v} (h_s : Frame LL rr s) (hT : Cov setShead_T LL) :
    Frame LL rr (State.setShead s h v) := by
  delta State.setShead
  exact Frame.upd h_s (m_safe := .inl (nth 0 rfl hT))

/-- What State.logEntry may change. -/
def logEntry_T : List Piece :=
  [.ctr .safe, .fld (HDR.ev_raw .safe), .fld SAFE.LOG_LOST.count, .fld SAFE.LOG_NEWEST.seq, .fld SAFE.LOG_UNREAD.count, .safe, .sent]

theorem logEntry_frame {LL rr s time code source heads reaction} (h_s : Frame LL rr s) (hT : Cov logEntry_T LL) :
    Frame LL rr (State.logEntry s time code source heads reaction) := by
  delta State.logEntry
  extract_lets c_1 e_2 full_3 log_4 aon_5 s1_6 s2_7 s3_8
  have h_s1_6 : Frame LL rr s1_6 := by
      unfold s1_6
      exact Frame.upd h_s (m_safe := .inl (nth 5 rfl hT))
  have h_s2_7 : Frame LL rr s2_7 := by
      unfold s2_7
      exact wr_frame (wr_frame h_s1_6 (pick_sub 0x8 rfl hT)) (pick_sub 0x10 rfl hT)
  have h_s3_8 : Frame LL rr s3_8 := by
      unfold s3_8
      exact Frame.ite (wr_frame h_s2_7 (pick_sub 0x4 rfl hT)) h_s2_7
  clear_value s1_6 s2_7 s3_8
  exact raise_frame (count_frame h_s3_8 (pick_sub 0x1 rfl hT)) (pick_sub 0x42 rfl hT)

/-- What State.faultDrop may change. -/
def faultDrop_T : List Piece :=
  [.fld SAFE.FAULT_CTRL.assert, .fld SAFE.ISL_STAT.fault, .pins]

theorem faultDrop_frame {LL rr s} (h_s : Frame LL rr s) (hT : Cov faultDrop_T LL) :
    Frame LL rr (State.faultDrop s) := by
  delta State.faultDrop
  exact wr_frame (wr_frame (Frame.upd h_s (m_pins := .inl (nth 2 rfl hT))) (pick_sub 0x1 rfl hT)) (pick_sub 0x2 rfl hT)

/-- What State.faultCtrl may change. -/
def faultCtrl_T : List Piece :=
  [.ctr .pot, .ctr .safe, .err .pot, .err .safe, .fld (HDR.ev_raw .pot), .fld (HDR.ev_raw .safe), .fld SAFE.FAULT_CTRL.assert,
   .fld SAFE.ISL_STAT.fault, .pins, .resp, .safe, .sent, .world]

theorem faultCtrl_frame {LL rr s w v} (h_s : Frame LL rr s) (hT : Cov faultCtrl_T LL) :
    Frame LL rr (State.faultCtrl s w v) := by
  delta State.faultCtrl
  exact onWrite_frame h_s (fun t1 h2 => Frame.ite (faultAssert_frame h2 (pick_sub 0xde2 rfl hT)) (Frame.ite (faultDrop_frame h2 (pick_sub 0x1c0 rfl hT)) h2)) (pick_sub 0x1a3d rfl hT)

/-- What State.headSrcWrite may change. -/
def headSrcWrite_T : List Piece :=
  [.ctr .pot, .ctr .safe, .err .pot, .err .safe, .fld (HDR.dirty .safe), .fld (HDR.ev_raw .pot), .fld (HDR.ev_raw .safe),
   .fld LINK.LINK_STAT.lanes_active, .fld LINK.LINK_STAT.rate_active, .fld LINK.LINK_STAT.state, .links, .pins, .reg .safe 0x10c, .resp, .sent,
   .world]

theorem headSrcWrite_frame {LL rr s w v} (h_s : Frame LL rr s) (hT : Cov headSrcWrite_T LL) :
    Frame LL rr (State.headSrcWrite s w v) := by
  delta State.headSrcWrite
  exact onWrite_frame h_s (fun t1 h2 => headSrcNow_frame (storeWord_frame h2 (pick_sub 0x1010 rfl hT)) (pick_sub 0xf82 rfl hT)) (pick_sub 0xe06d rfl hT)

/-- What State.swdKick may change. -/
def swdKick_T : List Piece :=
  [.ctr .pot, .ctr .safe, .err .pot, .err .safe, .fld (HDR.ev_raw .pot), .fld (HDR.ev_raw .safe), .resp, .safe, .sent, .world]

theorem swdKick_frame {LL rr s w v} (h_s : Frame LL rr s) (hT : Cov swdKick_T LL) :
    Frame LL rr (State.swdKick s w v) := by
  delta State.swdKick
  exact onWrite_frame h_s (fun t1 h2 => Frame.ite (count_frame (Frame.upd h2 (m_safe := .inl (nth 7 rfl hT))) (pick_sub 0x2 rfl hT)) h2) (pick_sub 0x37d rfl hT)

/-- What State.lsramWrite may change. -/
def lsramWrite_T : List Piece :=
  [.ctr .pot, .err .lantern, .err .pot, .fld (HDR.ev_raw .lantern), .fld (HDR.ev_raw .pot), .fld LANTERN.LSRAM_ADDR.addr, .resp, .safe, .sent,
   .world]

theorem lsramWrite_frame {LL rr s w v} (h_s : Frame LL rr s) (hT : Cov lsramWrite_T LL) :
    Frame LL rr (State.lsramWrite s w v) := by
  delta State.lsramWrite
  exact onWrite_frame h_s (fun t1 h2 => by
      extract_lets a_3 m_4 u_5
      exact lsramNext_frame (Frame.upd h2 (m_safe := .inl (nth 7 rfl hT))) (pick_sub 0x20 rfl hT)) (idx_sub [0, 2, 1, 4, 3, 6, 8, 9] rfl hT)

/-- What State.safeEvent may change. -/
def safeEvent_T : List Piece :=
  [.evSeq, .events]

theorem safeEvent_frame {LL rr s h code val} (h_s : Frame LL rr s) (hT : Cov safeEvent_T LL) :
    Frame LL rr (State.safeEvent s h code val) := by
  delta State.safeEvent
  exact eventHead_frame h_s (pick_sub 0x3 rfl hT)

/-- What State.showEntries may change. -/
def showEntries_T : List Piece :=
  [.fld SAFE.HB_STAT.entries, .fld SAFE.HB_STAT.needed]

theorem showEntries_frame {LL rr s h} (h_s : Frame LL rr s) (hT : Cov showEntries_T LL) :
    Frame LL rr (State.showEntries s h) := by
  delta State.showEntries
  extract_lets e_1
  exact wr_frame (wr_frame h_s (pick_sub 0x2 rfl hT)) (pick_sub 0x1 rfl hT)

/-- What State.applySource may change. -/
def applySource_T : List Piece :=
  [.ctr .safe, .evSeq, .events, .fld (HDR.ev_raw .safe), .fld SAFE.HB_STAT.entries, .fld SAFE.HB_STAT.good, .fld SAFE.HB_STAT.needed,
   .fld SAFE.HB_STAT.source, .fld SAFE.LOG_LOST.count, .fld SAFE.LOG_NEWEST.seq, .fld SAFE.LOG_UNREAD.count, .links, .pins, .safe, .sent]

theorem applySource_frame {LL rr s h} (h_s : Frame LL rr s) (hT : Cov applySource_T LL) :
    Frame LL rr (State.applySource s h) := by
  delta State.applySource
  extract_lets was_1 now_2 c_3 code_4 s0_5 u_6 u1_7 s1_8
  have h_s0_5 : Frame LL rr s0_5 := by
      unfold s0_5
      exact setShead_frame (wr_frame h_s (pick_sub 0x80 rfl hT)) (pick_sub 0x2000 rfl hT)
  have h_u_6 : Frame LL rr u_6 := by
      unfold u_6
      exact Frame.ite (raise_frame (count_frame (wr_frame (setShead_frame h_s0_5 (pick_sub 0x2000 rfl hT)) (pick_sub 0x20 rfl hT)) (pick_sub 0x1 rfl hT)) (pick_sub 0x4008 rfl hT)) (Frame.ite (raise_frame (wr_frame (setShead_frame h_s0_5 (pick_sub 0x2000 rfl hT)) (pick_sub 0x20 rfl hT)) (pick_sub 0x4008 rfl hT)) h_s0_5)
  have h_u1_7 : Frame LL rr u1_7 := by
      unfold u1_7
      exact Frame.ite h_u_6 (logEntry_frame h_u_6 (pick_sub 0x6709 rfl hT))
  have h_s1_8 : Frame LL rr s1_8 := by
      unfold s1_8
      exact Frame.ite h_s0_5 (Frame.ite (safeEvent_frame h_u1_7 (pick_sub 0x6 rfl hT)) h_u1_7)
  clear_value s0_5 u_6 u1_7 s1_8
  exact showBl_frame (showEntries_frame h_s1_8 (pick_sub 0x50 rfl hT)) (pick_sub 0x1800 rfl hT)

/-- What State.backlightBack may change. -/
def backlightBack_T : List Piece :=
  [.fld SAFE.HEAD_SRC.bl_off, .links, .pins, .safe]

theorem backlightBack_frame {LL rr s h} (h_s : Frame LL rr s) (hT : Cov backlightBack_T LL) :
    Frame LL rr (State.backlightBack s h) := by
  delta State.backlightBack
  exact Frame.ite (showBl_frame (wr_frame (setShead_frame h_s (pick_sub 0x8 rfl hT)) (pick_sub 0x1 rfl hT)) (pick_sub 0x6 rfl hT)) h_s

/-- What State.chk may change. -/
def chk_T (f : Fld) : List Piece :=
  [.fld f]

theorem chk_frame {LL rr s f h v} (h_s : Frame LL rr s) (hT : Cov (chk_T f) LL) :
    Frame LL rr (State.chk s f h v) := by
  delta State.chk
  exact wr_frame h_s (pick_sub 0x1 rfl hT)

/-- What State.clrAt may change. -/
def clrAt_T (f : Fld) : List Piece :=
  [.fld f]

theorem clrAt_frame {LL rr s f h} (h_s : Frame LL rr s) (hT : Cov (clrAt_T f) LL) :
    Frame LL rr (State.clrAt s f h) := by
  delta State.clrAt
  exact wr_frame h_s (pick_sub 0x1 rfl hT)

/-- What State.entryDark may change. -/
def entryDark_T : List Piece :=
  [.fld LINK.LINK_STAT.lanes_active, .fld LINK.LINK_STAT.rate_active, .fld LINK.LINK_STAT.state, .links, .pins]

theorem entryDark_frame {LL rr s h} (h_s : Frame LL rr s) (hT : Cov entryDark_T LL) :
    Frame LL rr (State.entryDark s h) := by
  delta State.entryDark
  exact Frame.ite (linkDown_frame h_s (pick_sub 0x1f rfl hT)) h_s

/-- What State.setWin may change. -/
def setWin_T : List Piece :=
  [.safe]

theorem setWin_frame {LL rr s k v} (h_s : Frame LL rr s) (hT : Cov setWin_T LL) :
    Frame LL rr (State.setWin s k v) := by
  delta State.setWin
  exact Frame.upd h_s (m_safe := .inl (nth 0 rfl hT))

/-- What State.judgeWindow may change. -/
def judgeWindow_T : List Piece :=
  [.ctr .mirror, .evSeq, .events, .faults, .fld (HDR.ev_raw .mirror), .fld MIRROR.WIN_STAT.age_ms, .fld MIRROR.WIN_STAT.port,
   .fld MIRROR.WIN_STAT.seq, .fld MIRROR.WIN_STAT.verdict, .fld MIRROR.WIN_TAP.pre, .safe, .sent]

theorem judgeWindow_frame {LL rr s k} (h_s : Frame LL rr s) (hT : Cov judgeWindow_T LL) :
    Frame LL rr (State.judgeWindow s k) := by
  delta State.judgeWindow
  extract_lets h_1 pre_2 tag_3 s1_4 s2_5
  have h_s1_4 : Frame LL rr s1_4 := by
      unfold s1_4
      exact wr_frame h_s (pick_sub 0x200 rfl hT)
  have h_s2_5 : Frame LL rr s2_5 := by
      unfold s2_5
      clear_value tag_3
      split
      · exact count_frame (wr_frame (wr_frame h_s1_4 (pick_sub 0x80 rfl hT)) (pick_sub 0x40 rfl hT)) (pick_sub 0x1 rfl hT)
      · exact h_s1_4
  clear_value s1_4 s2_5
  split
  · extract_lets s3_13 c_14 code_15 s4_16 s5_17
    have h_s3_13 : Frame LL rr s3_13 := by
        unfold s3_13
        exact wr_frame (wr_frame h_s2_5 (pick_sub 0x100 rfl hT)) (pick_sub 0x20 rfl hT)
    have h_s4_16 : Frame LL rr s4_16 := by
        unfold s4_16
        exact raise_frame (count_frame h_s3_13 (pick_sub 0x1 rfl hT)) (pick_sub 0x810 rfl hT)
    have h_s5_17 : Frame LL rr s5_17 := by
        unfold s5_17
        exact setWin_frame h_s4_16 (pick_sub 0x400 rfl hT)
    clear_value s3_13 s4_16 s5_17
    exact Frame.ite (Frame.ite (setWin_frame h_s3_13 (pick_sub 0x400 rfl hT)) h_s3_13) (Frame.ite (setWin_frame h_s4_16 (pick_sub 0x400 rfl hT)) (eventHead_frame (faultLine_frame h_s5_17 (pick_sub 0x8 rfl hT)) (pick_sub 0x6 rfl hT)))

/-- What State.mirrorFrame may change. -/
def mirrorFrame_T : List Piece :=
  [.ctr .lantern, .ctr .mirror, .evSeq, .events, .faults, .fld (HDR.ev_raw .mirror), .fld MIRROR.CHK_STAT.agree, .fld MIRROR.CHK_STAT.crc_ok,
   .fld MIRROR.CHK_STAT.timing_ok, .fld MIRROR.CRC_ACT.crc, .fld MIRROR.WIN_STAT.age_ms, .fld MIRROR.WIN_STAT.port, .fld MIRROR.WIN_STAT.seq,
   .fld MIRROR.WIN_STAT.verdict, .fld MIRROR.WIN_TAP.pre, .fld SAFE.HB_STAT.good, .safe, .sent]

theorem mirrorFrame_frame {LL rr s h obs prev} (h_s : Frame LL rr s) (hT : Cov mirrorFrame_T LL) :
    Frame LL rr (State.mirrorFrame s h obs prev) := by
  delta State.mirrorFrame
  exact Frame.ite h_s (by
      extract_lets per_1 tol_2 gap_3 timing_4 checked_5 crcOf_6 s1_7 crc_8 s2_9 s3_10 s4_11 s5_12 wins_13 s6_14 good_15 u_16 s7_17
      have h_s1_7 : Frame LL rr s1_7 := by
          unfold s1_7
          exact Frame.foldl h_s (fun t18 x19 h20 => wr_frame h20 (pick_sub 0x200 rfl hT))
      have h_s2_9 : Frame LL rr s2_9 := by
          unfold s2_9
          exact count_frame (chk_frame (chk_frame (chk_frame h_s1_7 (pick_sub 0x100 rfl hT)) (pick_sub 0x80 rfl hT)) (pick_sub 0x40 rfl hT)) (pick_sub 0x2 rfl hT)
      have h_s3_10 : Frame LL rr s3_10 := by
          unfold s3_10
          exact Frame.ite h_s2_9 (faultLine_frame (raise_frame (count_frame h_s2_9 (pick_sub 0x2 rfl hT)) (pick_sub 0x20020 rfl hT)) (pick_sub 0x10 rfl hT))
      have h_s4_11 : Frame LL rr s4_11 := by
          unfold s4_11
          exact Frame.ite h_s3_10 (faultLine_frame (raise_frame (count_frame h_s3_10 (pick_sub 0x2 rfl hT)) (pick_sub 0x20020 rfl hT)) (pick_sub 0x10 rfl hT))
      have h_s5_12 : Frame LL rr s5_12 := by
          unfold s5_12
          exact Frame.ite h_s4_11 (faultLine_frame (raise_frame (count_frame h_s4_11 (pick_sub 0x2 rfl hT)) (pick_sub 0x20020 rfl hT)) (pick_sub 0x10 rfl hT))
      have h_s6_14 : Frame LL rr s6_14 := by
          unfold s6_14
          exact raise_frame (Frame.foldl h_s5_12 (fun t21 x22 h23 => judgeWindow_frame h23 (pick_sub 0x37c3e rfl hT))) (pick_sub 0x20020 rfl hT)
      have h_s7_17 : Frame LL rr s7_17 := by
          unfold s7_17
          exact setShead_frame (count_frame h_s6_14 (pick_sub 0x1 rfl hT)) (pick_sub 0x10000 rfl hT)
      clear_value s1_7 s2_9 s3_10 s4_11 s5_12 s6_14 s7_17
      exact Frame.ite h_s7_17 (wr_frame h_s7_17 (pick_sub 0x8000 rfl hT)))

/-- What State.handBack may change. -/
def handBack_T : List Piece :=
  [.ctr .safe, .evSeq, .events, .fld (HDR.ev_raw .safe), .fld SAFE.HB_STAT.good, .fld SAFE.HB_STAT.source, .fld SAFE.HEAD_SRC.bl_off,
   .fld SAFE.HEAD_SRC.blank, .fld SAFE.HEAD_SRC.dispen_off, .fld SAFE.HEAD_SRC.fallback, .fld SAFE.LOG_LOST.count, .fld SAFE.LOG_NEWEST.seq,
   .fld SAFE.LOG_UNREAD.count, .safe, .sent]

theorem handBack_frame {LL rr s h} (h_s : Frame LL rr s) (hT : Cov handBack_T LL) :
    Frame LL rr (State.handBack s h) := by
  delta State.handBack
  extract_lets s1_1 u_2 s2_3 s3_4
  have h_s1_1 : Frame LL rr s1_1 := by
      unfold s1_1
      exact clrAt_frame (clrAt_frame (clrAt_frame (clrAt_frame h_s (pick_sub 0x200 rfl hT)) (pick_sub 0x80 rfl hT)) (pick_sub 0x100 rfl hT)) (pick_sub 0x40 rfl hT)
  have h_s2_3 : Frame LL rr s2_3 := by
      unfold s2_3
      exact wr_frame (wr_frame (setShead_frame h_s1_1 (pick_sub 0x2000 rfl hT)) (pick_sub 0x20 rfl hT)) (pick_sub 0x10 rfl hT)
  have h_s3_4 : Frame LL rr s3_4 := by
      unfold s3_4
      exact logEntry_frame (raise_frame (count_frame h_s2_3 (pick_sub 0x1 rfl hT)) (pick_sub 0x4008 rfl hT)) (pick_sub 0x7c09 rfl hT)
  clear_value s1_1 s2_3 s3_4
  exact safeEvent_frame h_s3_4 (pick_sub 0x6 rfl hT)

/-- What State.wrMix may change. -/
def wrMix_T (f : Fld) : List Piece :=
  [.fld f, .staged]

theorem wrMix_frame {LL rr s f b pick} (h_s : Frame LL rr s) (hT : Cov (wrMix_T f) LL) :
    Frame LL rr (State.wrMix s f b pick) := by
  delta State.wrMix
  extract_lets s1_1
  have h_s1_1 : Frame LL rr s1_1 := by
      unfold s1_1
      exact wrSh_frame (wr_frame h_s (pick_sub 0x1 rfl hT)) (pick_sub 0x1 rfl hT)
  clear_value s1_1
  exact Frame.ite (Frame.upd h_s1_1 (m_staged := .inl (nth 1 rfl hT))) h_s1_1

/-- What State.linkVis may change. -/
def linkVis_T : List Piece :=
  [.fld LANTERN.VIS.regions, .staged]

theorem linkVis_frame {LL rr s h} (h_s : Frame LL rr s) (hT : Cov linkVis_T LL) :
    Frame LL rr (State.linkVis s h) := by
  delta State.linkVis
  split
  · exact wrMix_frame h_s (pick_sub 0x3 rfl hT)
  · exact h_s

/-- What State.winLift may change. -/
def winLift_T : List Piece :=
  [.fld LANTERN.OVL.windows, .fld LANTERN.VIS.regions, .safe, .staged]

theorem winLift_frame {LL rr s k} (h_s : Frame LL rr s) (hT : Cov winLift_T LL) :
    Frame LL rr (State.winLift s k) := by
  delta State.winLift
  extract_lets icon_1 u_2 s1_3 s2_4 shared_5
  have h_s1_3 : Frame LL rr s1_3 := by
      unfold s1_3
      exact setWin_frame h_s (pick_sub 0x4 rfl hT)
  have h_s2_4 : Frame LL rr s2_4 := by
      unfold s2_4
      exact wrMix_frame h_s1_3 (pick_sub 0x9 rfl hT)
  clear_value s1_3 s2_4
  exact Frame.ite (wrMix_frame h_s2_4 (pick_sub 0xa rfl hT)) h_s2_4

/-- What State.winReact may change. -/
def winReact_T : List Piece :=
  [.ctr .lantern, .fld LANTERN.OVL.windows, .fld LANTERN.VIS.regions, .safe, .staged]

theorem winReact_frame {LL rr s k} (h_s : Frame LL rr s) (hT : Cov winReact_T LL) :
    Frame LL rr (State.winReact s k) := by
  delta State.winReact
  extract_lets icon_1 s1_2 s2_3 u_4
  have h_s1_2 : Frame LL rr s1_2 := by
      unfold s1_2
      exact count_frame (wrMix_frame h_s (pick_sub 0x12 rfl hT)) (pick_sub 0x1 rfl hT)
  have h_s2_3 : Frame LL rr s2_3 := by
      unfold s2_3
      exact Frame.ite (wrMix_frame h_s1_2 (pick_sub 0x14 rfl hT)) h_s1_2
  clear_value s1_2 s2_3
  exact setWin_frame h_s2_3 (pick_sub 0x8 rfl hT)

/-- What State.winFrame may change. -/
def winFrame_T : List Piece :=
  [.ctr .lantern, .fld LANTERN.OVL.windows, .fld LANTERN.VIS.regions, .safe, .staged]

theorem winFrame_frame {LL rr s h} (h_s : Frame LL rr s) (hT : Cov winFrame_T LL) :
    Frame LL rr (State.winFrame s h) := by
  delta State.winFrame
  exact Frame.foldl h_s (fun t1 x2 h3 => by
      extract_lets c_4 off_5
      exact Frame.ite (winLift_frame h3 (pick_sub 0x1e rfl hT)) (Frame.ite (winReact_frame h3 (pick_sub 0x1f rfl hT)) (Frame.ite (winLift_frame h3 (pick_sub 0x1e rfl hT)) h3)))

/-- What State.frameStart may change. -/
def frameStart_T : List Piece :=
  [.blk .lantern, .blk .mirror, .ctr .lantern, .ctr .safe, .evSeq, .events, .fld (HDR.commit_seq .lantern), .fld (HDR.commit_seq .mirror),
   .fld (HDR.ev_raw .lantern), .fld (HDR.ev_raw .mirror), .fld (HDR.ev_raw .safe), .fld (HDR.pending .lantern), .fld (HDR.pending .mirror),
   .fld HEAD.HEAD_STAT.line, .fld HEAD.HEAD_STAT.vblank, .fld LANTERN.OVL.windows, .fld LANTERN.VIS.regions, .fld LINK.LINK_STAT.lanes_active,
   .fld LINK.LINK_STAT.rate_active, .fld LINK.LINK_STAT.state, .fld SAFE.HB_STAT.entries, .fld SAFE.HB_STAT.good, .fld SAFE.HB_STAT.needed,
   .fld SAFE.HB_STAT.source, .fld SAFE.HEAD_SRC.bl_off, .fld SAFE.HEAD_SRC.blank, .fld SAFE.HEAD_SRC.dispen_off, .fld SAFE.HEAD_SRC.fallback,
   .fld SAFE.LOG_LOST.count, .fld SAFE.LOG_NEWEST.seq, .fld SAFE.LOG_UNREAD.count, .heads, .links, .parts, .pins, .safe, .sent, .staged]

theorem frameStart_frame {LL rr s h} (h_s : Frame LL rr s) (hT : Cov frameStart_T LL) :
    Frame LL rr (State.frameStart s h) := by
  delta State.frameStart
  exact Frame.ite h_s (by
      extract_lets u_1 s1_2 s2_3 s3_4 s4_5
      have h_s1_2 : Frame LL rr s1_2 := by
          unfold s1_2
          exact setHead_frame (wr_frame (wr_frame h_s (pick_sub 0x4000 rfl hT)) (pick_sub 0x2000 rfl hT)) (pick_sub 0x80000000 rfl hT)
      have h_s2_3 : Frame LL rr s2_3 := by
          unfold s2_3
          exact Frame.ite (handBack_frame h_s1_2 (pick_sub 0x187fa00438 rfl hT)) h_s1_2
      have h_s3_4 : Frame LL rr s3_4 := by
          unfold s3_4
          exact safeApply_frame (safeApply_frame (applySource_frame h_s2_3 (pick_sub 0x1d70f00438 rfl hT)) (pick_sub 0x3200018941 rfl hT)) (pick_sub 0x3200019282 rfl hT)
      have h_s4_5 : Frame LL rr s4_5 := by
          unfold s4_5
          exact Frame.ite (linkVis_frame (winFrame_frame h_s3_4 (pick_sub 0x2800018004 rfl hT)) (pick_sub 0x2000010000 rfl hT)) h_s3_4
      clear_value s1_2 s2_3 s3_4 s4_5
      exact entryDark_frame (showBl_frame (backlightBack_frame h_s4_5 (pick_sub 0xd01000000 rfl hT)) (pick_sub 0x500000000 rfl hT)) (pick_sub 0x5000e0000 rfl hT))

/-- What State.logReact may change. -/
def logReact_T : List Piece :=
  [.safe]

theorem logReact_frame {LL rr s p n} (h_s : Frame LL rr s) (hT : Cov logReact_T LL) :
    Frame LL rr (State.logReact s p n) := by
  delta State.logReact
  extract_lets mark_1 u_2
  exact Frame.upd h_s (m_safe := .inl (nth 0 rfl hT))

/-- What State.selectSafe may change. -/
def selectSafe_T : List Piece :=
  [.ctr .safe, .fld LINK.LINK_STAT.lanes_active, .fld LINK.LINK_STAT.rate_active, .fld LINK.LINK_STAT.state, .fld SAFE.HB_STAT.good,
   .fld SAFE.HEAD_SRC.blank, .fld SAFE.HEAD_SRC.dispen_off, .fld SAFE.HEAD_SRC.fallback, .links, .pins, .safe]

theorem selectSafe_frame {LL rr s h st since dispenOff} (h_s : Frame LL rr s) (hT : Cov selectSafe_T LL) :
    Frame LL rr (State.selectSafe s h st since dispenOff) := by
  delta State.selectSafe
  extract_lets old_1 s1_2 s2_3 u_4 s3_5
  have h_s1_2 : Frame LL rr s1_2 := by
      unfold s1_2
      exact Frame.ite (wr_frame h_s (pick_sub 0x20 rfl hT)) (wr_frame h_s (pick_sub 0x80 rfl hT))
  have h_s2_3 : Frame LL rr s2_3 := by
      unfold s2_3
      exact Frame.ite (wr_frame h_s1_2 (pick_sub 0x40 rfl hT)) h_s1_2
  have h_s3_5 : Frame LL rr s3_5 := by
      unfold s3_5
      exact wr_frame (setShead_frame h_s2_3 (pick_sub 0x400 rfl hT)) (pick_sub 0x10 rfl hT)
  clear_value s1_2 s2_3 s3_5
  exact headSrcNow_frame h_s3_5 (pick_sub 0x30f rfl hT)

/-- What State.react may change. -/
def react_T : List Piece :=
  [.ctr .safe, .fld (HDR.ev_raw .safe), .fld LINK.LINK_STAT.lanes_active, .fld LINK.LINK_STAT.rate_active, .fld LINK.LINK_STAT.state,
   .fld SAFE.FAULT_CTRL.assert, .fld SAFE.HB_STAT.good, .fld SAFE.HEAD_SRC.blank, .fld SAFE.HEAD_SRC.dispen_off, .fld SAFE.HEAD_SRC.fallback,
   .fld SAFE.ISL_STAT.fault, .fld SAFE.LOG_LOST.count, .fld SAFE.LOG_NEWEST.seq, .fld SAFE.LOG_UNREAD.count, .links, .pins, .safe, .sent]

theorem react_frame {LL rr s g} (h_s : Frame LL rr s) (hT : Cov react_T LL) :
    Frame LL rr (State.react s g) := by
  delta State.react
  split
  · extract_lets hs_6 sel_7 fresh_8 changed_9 s1_10 s2_11 bits_12
    have h_s1_10 : Frame LL rr s1_10 := by
        unfold s1_10
        exact Frame.foldl (count_frame h_s (pick_sub 0x1 rfl hT)) (fun t13 x14 h15 => selectSafe_frame h15 (pick_sub 0x1c3dd rfl hT))
    have h_s2_11 : Frame LL rr s2_11 := by
        unfold s2_11
        exact Frame.ite (faultAssert_frame h_s1_10 (pick_sub 0x38423 rfl hT)) h_s1_10
    clear_value s1_10 s2_11
    exact logEntry_frame h_s2_11 (pick_sub 0x33803 rfl hT)

/-- What State.readback may change. -/
def readback_T : List Piece :=
  [.ctr .safe, .fld (HDR.ev_raw .safe), .fld LINK.LINK_STAT.lanes_active, .fld LINK.LINK_STAT.rate_active, .fld LINK.LINK_STAT.state,
   .fld SAFE.FAULT_CTRL.assert, .fld SAFE.FAULT_RB.a_pin, .fld SAFE.FAULT_RB.b_pin, .fld SAFE.FAULT_RB.mismatch, .fld SAFE.HB_STAT.good,
   .fld SAFE.HEAD_SRC.blank, .fld SAFE.HEAD_SRC.dispen_off, .fld SAFE.HEAD_SRC.fallback, .fld SAFE.ISL_STAT.fault, .fld SAFE.LOG_LOST.count,
   .fld SAFE.LOG_NEWEST.seq, .fld SAFE.LOG_UNREAD.count, .links, .pins, .safe, .sent]

theorem readback_frame {LL rr s a b bad} (h_s : Frame LL rr s) (hT : Cov readback_T LL) :
    Frame LL rr (State.readback s a b bad) := by
  delta State.readback
  extract_lets differs_1 s1_2 u_3 s2_4
  have h_s1_2 : Frame LL rr s1_2 := by
      unfold s1_2
      exact wrB_frame (wrB_frame (wrB_frame h_s (pick_sub 0x40 rfl hT)) (pick_sub 0x80 rfl hT)) (pick_sub 0x100 rfl hT)
  have h_s2_4 : Frame LL rr s2_4 := by
      unfold s2_4
      exact Frame.ite (Frame.upd h_s1_2 (m_safe := .inl (nth 19 rfl hT))) (by
          split
          · exact logEntry_frame (faultAssert_frame (Frame.upd h_s1_2 (m_safe := .inl (nth 19 rfl hT))) (pick_sub 0x1c2023 rfl hT)) (pick_sub 0x19c003 rfl hT)
          · exact Frame.ite (logReact_frame (Frame.upd h_s1_2 (m_safe := .inl (nth 19 rfl hT))) (pick_sub 0x80000 rfl hT)) h_s1_2)
  clear_value s1_2 s2_4
  split
  · extract_lets s3_14 u_15
    have h_s3_14 : Frame LL rr s3_14 := by
        unfold s3_14
        exact Frame.foldl h_s2_4 (fun t16 x17 h18 => react_frame h18 (pick_sub 0x1ffe3f rfl hT))
    clear_value s3_14
    exact Frame.upd h_s3_14 (m_safe := .inl (nth 19 rfl hT))

/-- What execEarlyBacklightOff may change. -/
def execEarlyBacklightOff_T : List Piece :=
  [.fld SAFE.HEAD_SRC.bl_off, .links, .pins, .safe]

theorem execEarlyBacklightOff_frame {LL rr h s} (h_s : Frame LL rr s) (hT : Cov execEarlyBacklightOff_T LL) :
    FrameN LL rr (execEarlyBacklightOff h s) := by
  delta execEarlyBacklightOff
  extract_lets k_1 due_2 pending_3 u_4
  exact FrameN.next (Frame.ite h_s (logReact_frame (showBl_frame (wr_frame (setShead_frame h_s (pick_sub 0x8 rfl hT)) (pick_sub 0x1 rfl hT)) (pick_sub 0x6 rfl hT)) (pick_sub 0x8 rfl hT)))

/-- What execFaultReadback may change. -/
def execFaultReadback_T : List Piece :=
  [.ctr .safe, .fld (HDR.ev_raw .safe), .fld LINK.LINK_STAT.lanes_active, .fld LINK.LINK_STAT.rate_active, .fld LINK.LINK_STAT.state,
   .fld SAFE.FAULT_CTRL.assert, .fld SAFE.FAULT_RB.a_pin, .fld SAFE.FAULT_RB.b_pin, .fld SAFE.FAULT_RB.mismatch, .fld SAFE.HB_STAT.good,
   .fld SAFE.HEAD_SRC.blank, .fld SAFE.HEAD_SRC.dispen_off, .fld SAFE.HEAD_SRC.fallback, .fld SAFE.ISL_STAT.fault, .fld SAFE.LOG_LOST.count,
   .fld SAFE.LOG_NEWEST.seq, .fld SAFE.LOG_UNREAD.count, .links, .pins, .safe, .sent]

theorem execFaultReadback_frame {LL rr a b bad s} (h_s : Frame LL rr s) (hT : Cov execFaultReadback_T LL) :
    FrameN LL rr (execFaultReadback a b bad s) := by
  delta execFaultReadback
  exact FrameN.next (readback_frame h_s (pick_sub 0x1fffff rfl hT))

/-- What execFaultRelease may change. -/
def execFaultRelease_T : List Piece :=
  [.fld SAFE.FAULT_CTRL.assert, .fld SAFE.ISL_STAT.fault, .pins]

theorem execFaultRelease_frame {LL rr s} (h_s : Frame LL rr s) (hT : Cov execFaultRelease_T LL) :
    FrameN LL rr (execFaultRelease s) := by
  delta execFaultRelease
  exact FrameN.next (Frame.ite (faultDrop_frame h_s (pick_sub 0x7 rfl hT)) h_s)

/-- What execFrameStart may change. -/
def execFrameStart_T : List Piece :=
  [.blk .lantern, .blk .mirror, .ctr .lantern, .ctr .safe, .evSeq, .events, .fld (HDR.commit_seq .lantern), .fld (HDR.commit_seq .mirror),
   .fld (HDR.ev_raw .lantern), .fld (HDR.ev_raw .mirror), .fld (HDR.ev_raw .safe), .fld (HDR.pending .lantern), .fld (HDR.pending .mirror),
   .fld HEAD.HEAD_STAT.line, .fld HEAD.HEAD_STAT.vblank, .fld LANTERN.OVL.windows, .fld LANTERN.VIS.regions, .fld LINK.LINK_STAT.lanes_active,
   .fld LINK.LINK_STAT.rate_active, .fld LINK.LINK_STAT.state, .fld SAFE.HB_STAT.entries, .fld SAFE.HB_STAT.good, .fld SAFE.HB_STAT.needed,
   .fld SAFE.HB_STAT.source, .fld SAFE.HEAD_SRC.bl_off, .fld SAFE.HEAD_SRC.blank, .fld SAFE.HEAD_SRC.dispen_off, .fld SAFE.HEAD_SRC.fallback,
   .fld SAFE.LOG_LOST.count, .fld SAFE.LOG_NEWEST.seq, .fld SAFE.LOG_UNREAD.count, .heads, .links, .parts, .pins, .safe, .sent, .staged]

theorem execFrameStart_frame {LL rr h s} (h_s : Frame LL rr s) (hT : Cov execFrameStart_T LL) :
    FrameN LL rr (execFrameStart h s) := by
  delta execFrameStart
  exact FrameN.next (frameStart_frame h_s (pick_sub 0x3fffffffff rfl hT))

/-- What execHeadSrcWrite may change. -/
def execHeadSrcWrite_T : List Piece :=
  [.ctr .pot, .ctr .safe, .err .pot, .err .safe, .fld (HDR.dirty .safe), .fld (HDR.ev_raw .pot), .fld (HDR.ev_raw .safe),
   .fld LINK.LINK_STAT.lanes_active, .fld LINK.LINK_STAT.rate_active, .fld LINK.LINK_STAT.state, .links, .pins, .reg .safe 0x10c, .resp, .sent,
   .world]

theorem execHeadSrcWrite_frame {LL rr w v s} (h_s : Frame LL rr s) (hT : Cov execHeadSrcWrite_T LL) :
    FrameN LL rr (execHeadSrcWrite w v s) := by
  delta execHeadSrcWrite
  exact FrameN.next (headSrcWrite_frame h_s (pick_sub 0xffff rfl hT))

/-- What execLogDataRead may change. -/
def execLogDataRead_T : List Piece :=
  [.ctr .pot, .err .pot, .err .safe, .fld (HDR.ev_raw .pot), .fld (HDR.ev_raw .safe), .fld SAFE.LOG_UNREAD.count, .resp, .safe, .sent]

theorem execLogDataRead_frame {LL rr w s} (h_s : Frame LL rr s) (hT : Cov execLogDataRead_T LL) :
    FrameN LL rr (execLogDataRead w s) := by
  delta execLogDataRead
  exact FrameN.next (by
      split
      · rename_i a3
        have h4 := FrameC.eqBad (L := LL) (r := rr) a3 (reach_frame h_s (pick_sub 0x15f rfl hT))
        exact h4
      · rename_i a7
        have h8 := FrameC.eqGood (L := LL) (r := rr) a7 (reach_frame h_s (pick_sub 0x15f rfl hT))
        exact logDataRead_frame h8 (pick_sub 0xe0 rfl hT))

/-- What execLsramDataAccess may change. -/
def execLsramDataAccess_T : List Piece :=
  [.ctr .lantern, .ctr .pot, .err .lantern, .err .pot, .faults, .fld (HDR.ev_raw .lantern), .fld (HDR.ev_raw .pot), .fld LANTERN.LSRAM_ADDR.addr,
   .resp, .safe, .sent, .world]

theorem execLsramDataAccess_frame {LL rr w v find s} (h_s : Frame LL rr s) (hT : Cov execLsramDataAccess_T LL) :
    FrameN LL rr (execLsramDataAccess w v find s) := by
  delta execLsramDataAccess
  exact FrameN.next (by
      split
      · exact lsramWrite_frame h_s (pick_sub 0xfee rfl hT)
      · split
        · rename_i a6
          have h7 := FrameC.eqBad (L := LL) (r := rr) a6 (reach_frame h_s (idx_sub [1, 3, 2, 6, 5, 8, 10] rfl hT))
          exact h7
        · rename_i a10
          have h11 := FrameC.eqGood (L := LL) (r := rr) a10 (reach_frame h_s (idx_sub [1, 3, 2, 6, 5, 8, 10] rfl hT))
          exact lsramRead_frame h11 (pick_sub 0x5b1 rfl hT))

/-- What execMirrorStreamStop may change. -/
def execMirrorStreamStop_T : List Piece :=
  [.ctr .mirror, .faults, .fld (HDR.ev_raw .mirror), .fld MIRROR.CHK_STAT.timing_ok, .safe, .sent]

theorem execMirrorStreamStop_frame {LL rr h s} (h_s : Frame LL rr s) (hT : Cov execMirrorStreamStop_T LL) :
    FrameN LL rr (execMirrorStreamStop h s) := by
  delta execMirrorStreamStop
  extract_lets k_1 u_2 s1_3
  have h_s1_3 : Frame LL rr s1_3 := by
      unfold s1_3
      exact setShead_frame (chk_frame h_s (pick_sub 0x8 rfl hT)) (pick_sub 0x10 rfl hT)
  clear_value s1_3
  exact FrameN.next (Frame.ite h_s (faultLine_frame (raise_frame (count_frame h_s1_3 (pick_sub 0x1 rfl hT)) (pick_sub 0x24 rfl hT)) (pick_sub 0x2 rfl hT)))

/-- What execSafeSramUe may change. -/
def execSafeSramUe_T : List Piece :=
  [.ctr .lantern, .faults, .fld (HDR.ev_raw .lantern), .sent]

theorem execSafeSramUe_frame {LL rr s} (h_s : Frame LL rr s) (hT : Cov execSafeSramUe_T LL) :
    FrameN LL rr (execSafeSramUe s) := by
  delta execSafeSramUe
  exact FrameN.next (sramUe_frame h_s (pick_sub 0xf rfl hT))

/-- What execSwdKick may change. -/
def execSwdKick_T : List Piece :=
  [.ctr .pot, .ctr .safe, .err .pot, .err .safe, .fld (HDR.ev_raw .pot), .fld (HDR.ev_raw .safe), .resp, .safe, .sent, .world]

theorem execSwdKick_frame {LL rr w v s} (h_s : Frame LL rr s) (hT : Cov execSwdKick_T LL) :
    FrameN LL rr (execSwdKick w v s) := by
  delta execSwdKick
  exact FrameN.next (swdKick_frame h_s (pick_sub 0x3ff rfl hT))

end Sys2Proof.Laws
end

