-- ==== Sys2Proof/Laws/FrameCamera.lean ====
section
/-! SUPPORT. What the operations and commands of Machine/Camera.lean may change: the parts of each, and that nothing else changes. -/

set_option Elab.async false

namespace Sys2Proof.Laws

open Machine

/-- What State.capGiveBack may change. -/
def capGiveBack_T : List Piece :=
  [.fld RSCHED.PIN_COUNT.pinned, .rings]

theorem capGiveBack_frame {LL rr s n} (h_s : Frame LL rr s) (hT : Cov capGiveBack_T LL) :
    Frame LL rr (State.capGiveBack s n) := by
  delta State.capGiveBack
  split
  · exact h_s
  · extract_lets c_6
    exact tryDisable_frame (setRing_frame (setJob_frame h_s (pick_sub 0x2 rfl hT)) (pick_sub 0x2 rfl hT)) (pick_sub 0x3 rfl hT)

/-- What State.capShort may change. -/
def capShort_T : List Piece :=
  [.caps, .ctr .cap, .evSeq, .events, .fld (HDR.ev_raw .cap), .fld CAP.LINES_LAST.lines, .fld CAP.RX_STAT.in_frame, .fld RSCHED.PIN_COUNT.pinned,
   .rings, .sent]

theorem capShort_frame {LL rr s n} (h_s : Frame LL rr s) (hT : Cov capShort_T LL) :
    Frame LL rr (State.capShort s n) := by
  delta State.capShort
  extract_lets c_1 s1_2
  have h_s1_2 : Frame LL rr s1_2 := by
      unfold s1_2
      exact wr_frame (wr_frame (setCap_frame h_s (pick_sub 0x1 rfl hT)) (pick_sub 0x40 rfl hT)) (pick_sub 0x20 rfl hT)
  clear_value s1_2
  exact Frame.ite h_s1_2 (eventPage_frame (raise_frame (count_frame (capGiveBack_frame h_s1_2 (pick_sub 0x180 rfl hT)) (pick_sub 0x2 rfl hT)) (pick_sub 0x210 rfl hT)) (pick_sub 0xc rfl hT))

/-- What State.capCtrl may change. -/
def capCtrl_T : List Piece :=
  [.blk .cap, .caps, .ctr .cap, .ctr .pot, .err .cap, .err .pot, .evSeq, .events, .fld (HDR.enable .cap), .fld (HDR.ev_raw .cap),
   .fld (HDR.ev_raw .pot), .fld CAP.LINES_LAST.lines, .fld CAP.RX_STAT.in_frame, .fld RSCHED.PIN_COUNT.pinned, .parts, .resp, .rings, .sent,
   .staged, .world]

theorem capCtrl_frame {LL rr s w n v} (h_s : Frame LL rr s) (hT : Cov capCtrl_T LL) :
    Frame LL rr (State.capCtrl s w n v) := by
  delta State.capCtrl
  exact onWrite_frame h_s (fun t1 h2 => Frame.ite (setCap_frame (softRegs_frame (capGiveBack_frame (Frame.ite (capShort_frame h2 (pick_sub 0x33ac6 rfl hT)) h2) (pick_sub 0x12000 rfl hT)) (idx_sub [0, 18, 14] rfl hT)) (pick_sub 0x2 rfl hT)) (by
      extract_lets was_3 t1_4 u_5
      have h_t1_4 : Frame LL rr t1_4 := by
          unfold t1_4
          exact wr_frame h2 (pick_sub 0x100 rfl hT)
      clear_value t1_4
      exact Frame.ite (setCap_frame h_t1_4 (pick_sub 0x2 rfl hT)) (Frame.ite (capShort_frame h_t1_4 (pick_sub 0x33ac6 rfl hT)) h_t1_4))) (idx_sub [3, 5, 4, 10, 9, 15, 17, 19] rfl hT)

/-- What State.trigPulse may change. -/
def trigPulse_T : List Piece :=
  [.caps, .ctr .cap]

theorem trigPulse_frame {LL rr s n by_} (h_s : Frame LL rr s) (hT : Cov trigPulse_T LL) :
    Frame LL rr (State.trigPulse s n by_) := by
  delta State.trigPulse
  exact count_frame (setCap_frame h_s (pick_sub 0x1 rfl hT)) (pick_sub 0x2 rfl hT)

/-- What State.trigWrite may change. -/
def trigWrite_T : List Piece :=
  [.caps, .ctr .cap, .ctr .pot, .err .cap, .err .pot, .fld (HDR.ev_raw .cap), .fld (HDR.ev_raw .pot), .resp, .sent, .world]

theorem trigWrite_frame {LL rr s w n v} (h_s : Frame LL rr s) (hT : Cov trigWrite_T LL) :
    Frame LL rr (State.trigWrite s w n v) := by
  delta State.trigWrite
  exact onWrite_frame h_s (fun t1 h2 => Frame.ite (trigPulse_frame h2 (pick_sub 0x3 rfl hT)) h2) (idx_sub [2, 4, 3, 6, 5, 7, 8, 9] rfl hT)

/-- What State.capDropTell may change. -/
def capDropTell_T : List Piece :=
  [.caps, .evSeq, .events]

theorem capDropTell_frame {LL rr s n} (h_s : Frame LL rr s) (hT : Cov capDropTell_T LL) :
    Frame LL rr (State.capDropTell s n) := by
  delta State.capDropTell
  extract_lets c_1
  exact eventPage_frame (setCap_frame h_s (pick_sub 0x1 rfl hT)) (pick_sub 0x6 rfl hT)

/-- What State.capStore may change. -/
def capStore_T : List Piece :=
  [.caps, .ctr .cap, .ctr .dram, .ctr .dramq, .ctr .pot, .dram, .err .dram, .err .pot, .fld (HDR.ev_raw .dram), .fld (HDR.ev_raw .pot), .mem, .pot,
   .sent]

theorem capStore_frame {LL rr s n a d} (h_s : Frame LL rr s) (hT : Cov capStore_T LL) :
    Frame LL rr (State.capStore s n a d) := by
  delta State.capStore
  split
  · exact h_s
  · exact Frame.ite h_s (by
        split
        · rename_i a8
          have h9 := FrameP.eq (L := LL) (r := rr) a8 (tryStore_frame h_s (pick_sub 0x1ffc rfl hT))
          exact count_frame h9 (pick_sub 0x2 rfl hT)
        · rename_i a13
          have h14 := FrameP.eq (L := LL) (r := rr) a13 (tryStore_frame h_s (pick_sub 0x1ffc rfl hT))
          exact setCap_frame h14 (pick_sub 0x1 rfl hT))

/-- What State.writeTag may change. -/
def writeTag_T : List Piece :=
  [.caps, .ctr .cap, .ctr .dram, .ctr .dramq, .ctr .pot, .dram, .err .dram, .err .pot, .fld (HDR.ev_raw .dram), .fld (HDR.ev_raw .pot), .mem, .pot,
   .sent]

theorem writeTag_frame {LL rr s n} (h_s : Frame LL rr s) (hT : Cov writeTag_T LL) :
    Frame LL rr (State.writeTag s n) := by
  delta State.writeTag
  split
  · exact h_s
  · split
    · extract_lets dt_10 t_11 a_12 s1_13
      have h_s1_13 : Frame LL rr s1_13 := by
          unfold s1_13
          exact capStore_frame (capStore_frame h_s (pick_sub 0x1fff rfl hT)) (pick_sub 0x1fff rfl hT)
      clear_value s1_13
      exact Frame.ite (capStore_frame h_s1_13 (pick_sub 0x1fff rfl hT)) h_s1_13

/-- What State.capEnd may change. -/
def capEnd_T : List Piece :=
  [.caps, .ctr .cap, .ctr .dram, .ctr .dramq, .ctr .pot, .dram, .err .dram, .err .pot, .evSeq, .events, .fld (HDR.ev_raw .cap),
   .fld (HDR.ev_raw .dram), .fld (HDR.ev_raw .pot), .fld CAP.FRAME_CNT.count, .fld CAP.LINES_LAST.lines, .fld CAP.RX_STAT.in_frame,
   .fld RSCHED.PIN_COUNT.pinned, .mem, .pot, .rings, .sent]

theorem capEnd_frame {LL rr s n} (h_s : Frame LL rr s) (hT : Cov capEnd_T LL) :
    Frame LL rr (State.capEnd s n) := by
  delta State.capEnd
  extract_lets c_1 s1_2 s2_3 s3_4 u_5
  have h_s1_2 : Frame LL rr s1_2 := by
      unfold s1_2
      exact wr_frame (wr_frame (setCap_frame h_s (pick_sub 0x1 rfl hT)) (pick_sub 0x8000 rfl hT)) (pick_sub 0x4000 rfl hT)
  have h_s2_3 : Frame LL rr s2_3 := by
      unfold s2_3
      exact count_frame (wr_frame h_s1_2 (pick_sub 0x2000 rfl hT)) (pick_sub 0x2 rfl hT)
  have h_s3_4 : Frame LL rr s3_4 := by
      unfold s3_4
      exact Frame.ite (writeTag_frame h_s2_3 (pick_sub 0x1618ff rfl hT)) h_s2_3
  clear_value s1_2 s2_3 s3_4
  split
  · exact Frame.ite h_s (Frame.ite (capShort_frame h_s (pick_sub 0x19c703 rfl hT)) (Frame.ite (wr_frame (wr_frame (setCap_frame h_s (pick_sub 0x1 rfl hT)) (pick_sub 0x8000 rfl hT)) (pick_sub 0x4000 rfl hT)) (Frame.ite h_s2_3 (setCap_frame h_s3_4 (pick_sub 0x1 rfl hT)))))

/-- What State.capFail may change. -/
def capFail_T : List Piece :=
  [.caps, .fld RSCHED.PIN_COUNT.pinned, .rings]

theorem capFail_frame {LL rr s n code addr} (h_s : Frame LL rr s) (hT : Cov capFail_T LL) :
    Frame LL rr (State.capFail s n code addr) := by
  delta State.capFail
  split
  · exact h_s
  · extract_lets c_6 s1_7
    have h_s1_7 : Frame LL rr s1_7 := by
        unfold s1_7
        exact setJob_frame (setCap_frame h_s (pick_sub 0x1 rfl hT)) (pick_sub 0x4 rfl hT)
    clear_value s1_7
    exact endJob_frame h_s1_7 (pick_sub 0x6 rfl hT)

/-- What State.capHs may change. -/
def capHs_T : List Piece :=
  [.caps]

theorem capHs_frame {LL rr s n} (h_s : Frame LL rr s) (hT : Cov capHs_T LL) :
    Frame LL rr (State.capHs s n) := by
  delta State.capHs
  exact setCap_frame h_s (pick_sub 0x1 rfl hT)

/-- What State.capLine may change. -/
def capLine_T : List Piece :=
  [.caps, .ctr .cap, .ctr .dram, .ctr .dramq, .ctr .pot, .dram, .err .dram, .err .pot, .fld (HDR.ev_raw .dram), .fld (HDR.ev_raw .pot), .mem, .pot,
   .sent]

theorem capLine_frame {LL rr s n d} (h_s : Frame LL rr s) (hT : Cov capLine_T LL) :
    Frame LL rr (State.capLine s n d) := by
  delta State.capLine
  extract_lets c_1 dt_2 s1_3 u_4 row_5 j_6
  have h_s1_3 : Frame LL rr s1_3 := by
      unfold s1_3
      exact setCap_frame h_s (pick_sub 0x1 rfl hT)
  clear_value s1_3
  split
  · exact Frame.ite h_s1_3 (Frame.ite (setCap_frame h_s1_3 (pick_sub 0x1 rfl hT)) (by
        extract_lets s2_13 c2_14
        have h_s2_13 : Frame LL rr s2_13 := by
            unfold s2_13
            exact Frame.ite h_s1_3 (by
                clear_value j_6
                split
                · exact h_s1_3
                · extract_lets t_18 u_19
                  have h_t_18 : Frame LL rr t_18 := by
                      unfold t_18
                      exact capStore_frame h_s1_3 (pick_sub 0x1fff rfl hT)
                  clear_value t_18
                  exact Frame.ite h_t_18 (Frame.ite (setCap_frame h_t_18 (pick_sub 0x1 rfl hT)) (capStore_frame h_t_18 (pick_sub 0x1fff rfl hT))))
        clear_value s2_13
        exact Frame.ite h_s2_13 (setCap_frame h_s2_13 (pick_sub 0x1 rfl hT))))

/-- What State.capPacket may change. -/
def capPacket_T : List Piece :=
  [.ctr .cap, .err .cap, .fld (HDR.ev_raw .cap), .sent]

theorem capPacket_frame {LL rr s n dt} (h_s : Frame LL rr s) (hT : Cov capPacket_T LL) :
    Frame LL rr (State.capPacket s n dt) := by
  delta State.capPacket
  exact raise_frame (count_frame (recErr_frame h_s (pick_sub 0xe rfl hT)) (pick_sub 0x1 rfl hT)) (pick_sub 0xc rfl hT)

/-- What State.capWritten may change. -/
def capWritten_T : List Piece :=
  [.caps, .ctr .cap, .ctr .dram, .ctr .dramq, .ctr .pot, .ctr .rsched, .dram, .err .dram, .err .pot, .evSeq, .events, .fld (HDR.ev_raw .cap),
   .fld (HDR.ev_raw .dram), .fld (HDR.ev_raw .pot), .fld CAP.LAST_TAG_TIME.time, .fld CAP.TAG_SEQ.seq, .fld RSCHED.PIN_COUNT.pinned, .mem, .pot,
   .rings, .sent]

theorem capWritten_frame {LL rr s n} (h_s : Frame LL rr s) (hT : Cov capWritten_T LL) :
    Frame LL rr (State.capWritten s n) := by
  delta State.capWritten
  extract_lets c_1 seq_2 tagged_3 l_4 tags_5 s1_6 s2_7 s3_8 detail_9
  have h_s1_6 : Frame LL rr s1_6 := by
      unfold s1_6
      exact wr_frame (setCap_frame h_s (pick_sub 0x1 rfl hT)) (pick_sub 0x8000 rfl hT)
  have h_s2_7 : Frame LL rr s2_7 := by
      unfold s2_7
      exact Frame.ite (wr_frame h_s1_6 (pick_sub 0x4000 rfl hT)) h_s1_6
  have h_s3_8 : Frame LL rr s3_8 := by
      unfold s3_8
      exact setJob_frame (raise_frame (count_frame h_s2_7 (pick_sub 0x2 rfl hT)) (pick_sub 0x100800 rfl hT)) (pick_sub 0x80000 rfl hT)
  clear_value s1_6 s2_7 s3_8
  split
  · exact h_s
  · exact Frame.ite h_s (by
        extract_lets ctrl_15 q_16 s4_17 s5_18 u_19
        have h_s4_17 : Frame LL rr s4_17 := by
            unfold s4_17
            exact Frame.ite (by
                split
                · rename_i a22
                  have h23 := FrameP.eq (L := LL) (r := rr) a22 (signal_frame h_s3_8 (pick_sub 0x1e31fc rfl hT))
                  exact endJob_frame h23 (pick_sub 0x90000 rfl hT)
                · rename_i a28
                  have h29 := FrameP.eq (L := LL) (r := rr) a28 (signal_frame h_s3_8 (pick_sub 0x1e31fc rfl hT))
                  exact endJob_frame h29 (pick_sub 0x90000 rfl hT)) (endJob_frame h_s3_8 (pick_sub 0x90000 rfl hT))
        have h_s5_18 : Frame LL rr s5_18 := by
            unfold s5_18
            exact capDropTell_frame h_s4_17 (pick_sub 0x601 rfl hT)
        clear_value s4_17 s5_18
        exact Frame.ite h_s4_17 (setCap_frame h_s5_18 (pick_sub 0x1 rfl hT)))

/-- What State.capSettle may change. -/
def capSettle_T : List Piece :=
  [.caps, .ctr .cap, .ctr .dram, .ctr .dramq, .ctr .pot, .ctr .rsched, .dram, .err .dram, .err .pot, .evSeq, .events, .fld (HDR.ev_raw .cap),
   .fld (HDR.ev_raw .dram), .fld (HDR.ev_raw .pot), .fld CAP.LAST_TAG_TIME.time, .fld CAP.TAG_SEQ.seq, .fld RSCHED.PIN_COUNT.pinned, .mem, .pot,
   .rings, .sent]

theorem capSettle_frame {LL rr s n} (h_s : Frame LL rr s) (hT : Cov capSettle_T LL) :
    Frame LL rr (State.capSettle s n) := by
  delta State.capSettle
  split
  · exact Frame.ite h_s (capFail_frame h_s (pick_sub 0x90001 rfl hT))
  · exact capWritten_frame h_s (pick_sub 0x1fffff rfl hT)

/-- What State.capTake may change. -/
def capTake_T : List Piece :=
  [.ctr .dram, .ctr .dramq, .ctr .pot, .ctr .rsched, .err .dram, .err .pot, .fld (HDR.ev_raw .dram), .fld (HDR.ev_raw .pot),
   .fld RSCHED.PIN_COUNT.pinned, .mem, .pot, .rings, .sent]

theorem capTake_frame {LL rr p0 p1 p2} (h_p1 : Frame LL rr p1) (hT : Cov capTake_T LL) :
    Frame LL rr (State.capTake p0 p1 p2) := by
  induction p0 generalizing p1 p2
  · unfold State.capTake
    exact h_p1
  · rename_i m ih
    unfold State.capTake
    split
    · exact h_p1
    · extract_lets s1_12
      have h_s1_12 : Frame LL rr s1_12 := by
          unfold s1_12
          exact startJob_frame h_p1 (pick_sub 0x1eff rfl hT)
      clear_value s1_12
      split
      · exact h_s1_12
      · exact Frame.ite h_s1_12 (ih (endJob_frame (setJob_frame h_s1_12 (pick_sub 0x800 rfl hT)) (pick_sub 0x900 rfl hT)))

/-- What State.capStart may change. -/
def capStart_T : List Piece :=
  [.caps, .ctr .cap, .ctr .dram, .ctr .dramq, .ctr .pot, .ctr .rsched, .dram, .err .dram, .err .pot, .evSeq, .events, .fld (HDR.ev_raw .cap),
   .fld (HDR.ev_raw .dram), .fld (HDR.ev_raw .pot), .fld CAP.LAST_FS_TIME.time, .fld CAP.LAST_TAG_TIME.time, .fld CAP.LINES_LAST.lines,
   .fld CAP.RX_STAT.in_frame, .fld CAP.TAG_SEQ.seq, .fld RSCHED.PIN_COUNT.pinned, .mem, .pot, .rings, .sent]

theorem capStart_frame {LL rr s n} (h_s : Frame LL rr s) (hT : Cov capStart_T LL) :
    Frame LL rr (State.capStart s n) := by
  delta State.capStart
  extract_lets s0_1 s1_2 u_3 s2_4 fresh_5 c_6 c1_7 first_8 s3_9
  have h_s0_1 : Frame LL rr s0_1 := by
      unfold s0_1
      exact capSettle_frame (Frame.ite (capShort_frame h_s (pick_sub 0xcb0e03 rfl hT)) h_s) (pick_sub 0xfcbfff rfl hT)
  have h_s1_2 : Frame LL rr s1_2 := by
      unfold s1_2
      exact capHs_frame (wr_frame (wr_frame h_s0_1 (pick_sub 0x4000 rfl hT)) (pick_sub 0x20000 rfl hT)) (pick_sub 0x1 rfl hT)
  have h_s2_4 : Frame LL rr s2_4 := by
      unfold s2_4
      exact Frame.ite h_s1_2 (capTake_frame (setCap_frame h_s1_2 (pick_sub 0x1 rfl hT)) (pick_sub 0xf831bc rfl hT))
  have h_s3_9 : Frame LL rr s3_9 := by
      unfold s3_9
      exact raise_frame (count_frame (setCap_frame h_s2_4 (pick_sub 0x1 rfl hT)) (pick_sub 0x2 rfl hT)) (pick_sub 0x800800 rfl hT)
  clear_value s0_1 s1_2 s2_4 s3_9
  exact Frame.ite (setCap_frame h_s2_4 (pick_sub 0x1 rfl hT)) (Frame.ite (capDropTell_frame h_s3_9 (pick_sub 0x601 rfl hT)) h_s3_9)

/-- What execCapFrameWritten may change. -/
def execCapFrameWritten_T : List Piece :=
  [.caps, .ctr .cap, .ctr .dram, .ctr .dramq, .ctr .pot, .ctr .rsched, .dram, .err .dram, .err .pot, .evSeq, .events, .fld (HDR.ev_raw .cap),
   .fld (HDR.ev_raw .dram), .fld (HDR.ev_raw .pot), .fld CAP.LAST_TAG_TIME.time, .fld CAP.TAG_SEQ.seq, .fld RSCHED.PIN_COUNT.pinned, .mem, .pot,
   .rings, .sent]

theorem execCapFrameWritten_frame {LL rr n s} (h_s : Frame LL rr s) (hT : Cov execCapFrameWritten_T LL) :
    FrameN LL rr (execCapFrameWritten n s) := by
  delta execCapFrameWritten
  exact FrameN.next (capWritten_frame h_s (pick_sub 0x1fffff rfl hT))

/-- What execCapLost may change. -/
def execCapLost_T : List Piece :=
  [.caps, .evSeq, .events, .fld (HDR.ev_raw .cap), .sent]

theorem execCapLost_frame {LL rr n s} (h_s : Frame LL rr s) (hT : Cov execCapLost_T LL) :
    FrameN LL rr (execCapLost n s) := by
  delta execCapLost
  extract_lets k_1 c_2
  exact FrameN.next (Frame.ite h_s (eventPage_frame (raise_frame (setCap_frame h_s (pick_sub 0x1 rfl hT)) (pick_sub 0x18 rfl hT)) (pick_sub 0x6 rfl hT)))

/-- What execCapWriteError may change. -/
def execCapWriteError_T : List Piece :=
  [.caps, .ctr .dram, .ctr .pot, .err .dram, .err .pot, .fld (HDR.ev_raw .dram), .fld (HDR.ev_raw .pot), .fld RSCHED.PIN_COUNT.pinned, .rings,
   .sent]

theorem execCapWriteError_frame {LL rr n code addr s} (h_s : Frame LL rr s) (hT : Cov execCapWriteError_T LL) :
    FrameN LL rr (execCapWriteError n code addr s) := by
  delta execCapWriteError
  extract_lets k_1
  exact FrameN.next (by
      split
      · exact h_s
      · split
        · exact capFail_frame h_s (pick_sub 0x181 rfl hT)
        · exact capFail_frame (memRecord_frame h_s (pick_sub 0x27e rfl hT)) (pick_sub 0x181 rfl hT))

/-- What execCsiFrameEnd may change. -/
def execCsiFrameEnd_T : List Piece :=
  [.caps, .ctr .cap, .ctr .dram, .ctr .dramq, .ctr .pot, .dram, .err .dram, .err .pot, .evSeq, .events, .fld (HDR.ev_raw .cap),
   .fld (HDR.ev_raw .dram), .fld (HDR.ev_raw .pot), .fld CAP.FRAME_CNT.count, .fld CAP.LINES_LAST.lines, .fld CAP.RX_STAT.in_frame,
   .fld RSCHED.PIN_COUNT.pinned, .mem, .pot, .rings, .sent]

theorem execCsiFrameEnd_frame {LL rr n s} (h_s : Frame LL rr s) (hT : Cov execCsiFrameEnd_T LL) :
    FrameN LL rr (execCsiFrameEnd n s) := by
  delta execCsiFrameEnd
  exact FrameN.next (Frame.ite (capEnd_frame (capHs_frame h_s (pick_sub 0x1 rfl hT)) (pick_sub 0x1fffff rfl hT)) h_s)

/-- What execCsiFrameStart may change. -/
def execCsiFrameStart_T : List Piece :=
  [.caps, .ctr .cap, .ctr .dram, .ctr .dramq, .ctr .pot, .ctr .rsched, .dram, .err .dram, .err .pot, .evSeq, .events, .fld (HDR.ev_raw .cap),
   .fld (HDR.ev_raw .dram), .fld (HDR.ev_raw .pot), .fld CAP.LAST_FS_TIME.time, .fld CAP.LAST_TAG_TIME.time, .fld CAP.LINES_LAST.lines,
   .fld CAP.RX_STAT.in_frame, .fld CAP.TAG_SEQ.seq, .fld RSCHED.PIN_COUNT.pinned, .mem, .pot, .rings, .sent]

theorem execCsiFrameStart_frame {LL rr n s} (h_s : Frame LL rr s) (hT : Cov execCsiFrameStart_T LL) :
    FrameN LL rr (execCsiFrameStart n s) := by
  delta execCsiFrameStart
  exact FrameN.next (Frame.ite (capStart_frame h_s (pick_sub 0xffffff rfl hT)) h_s)

/-- What execCsiLongPacket may change. -/
def execCsiLongPacket_T : List Piece :=
  [.caps, .ctr .cap, .ctr .dram, .ctr .dramq, .ctr .pot, .dram, .err .cap, .err .dram, .err .pot, .fld (HDR.ev_raw .cap), .fld (HDR.ev_raw .dram),
   .fld (HDR.ev_raw .pot), .fld CAP.RX_STAT.last_dt, .mem, .pot, .sent]

theorem execCsiLongPacket_frame {LL rr n vc dt d hdr crcBad overflow s0} (h_s0 : Frame LL rr s0) (hT : Cov execCsiLongPacket_T LL) :
    FrameN LL rr (execCsiLongPacket n vc dt d hdr crcBad overflow s0) := by
  delta execCsiLongPacket
  extract_lets k_1 t_2 s_3 s1_4 s2_5 s3_6 s4_7 u_8
  have h_s_3 : Frame LL rr s_3 := by
      unfold s_3
      exact capHs_frame h_s0 (pick_sub 0x1 rfl hT)
  have h_s1_4 : Frame LL rr s1_4 := by
      unfold s1_4
      exact Frame.ite (count_frame h_s_3 (pick_sub 0x2 rfl hT)) h_s_3
  have h_s2_5 : Frame LL rr s2_5 := by
      unfold s2_5
      exact wr_frame h_s1_4 (pick_sub 0x1000 rfl hT)
  have h_s3_6 : Frame LL rr s3_6 := by
      unfold s3_6
      exact Frame.ite (capPacket_frame h_s2_5 (pick_sub 0x8242 rfl hT)) h_s2_5
  have h_s4_7 : Frame LL rr s4_7 := by
      unfold s4_7
      exact raise_frame (count_frame h_s3_6 (pick_sub 0x2 rfl hT)) (pick_sub 0x8200 rfl hT)
  clear_value s_3 s1_4 s2_5 s3_6 s4_7
  exact FrameN.next (Frame.ite h_s0 (Frame.ite (capPacket_frame h_s_3 (pick_sub 0x8242 rfl hT)) (Frame.ite (count_frame h_s1_4 (pick_sub 0x2 rfl hT)) (Frame.ite (count_frame (recErr_frame h_s3_6 (pick_sub 0x8240 rfl hT)) (pick_sub 0x2 rfl hT)) (Frame.ite (setCap_frame h_s4_7 (pick_sub 0x1 rfl hT)) (capLine_frame h_s3_6 (pick_sub 0xedbf rfl hT)))))))

/-- What execTrigFire may change. -/
def execTrigFire_T : List Piece :=
  [.caps, .ctr .cap, .ctr .pot, .err .cap, .err .pot, .fld (HDR.ev_raw .cap), .fld (HDR.ev_raw .pot), .resp, .sent, .world]

theorem execTrigFire_frame {LL rr w n s} (h_s : Frame LL rr s) (hT : Cov execTrigFire_T LL) :
    FrameN LL rr (execTrigFire w n s) := by
  delta execTrigFire
  exact FrameN.next (trigWrite_frame h_s (pick_sub 0x3ff rfl hT))

/-- What execTrigPulseDue may change. -/
def execTrigPulseDue_T : List Piece :=
  [.caps, .ctr .cap]

theorem execTrigPulseDue_frame {LL rr n s} (h_s : Frame LL rr s) (hT : Cov execTrigPulseDue_T LL) :
    FrameN LL rr (execTrigPulseDue n s) := by
  delta execTrigPulseDue
  extract_lets k_1 b_2 c_3 soon_4 s1_5
  have h_s1_5 : Frame LL rr s1_5 := by
      unfold s1_5
      exact Frame.ite (setCap_frame h_s (pick_sub 0x1 rfl hT)) h_s
  clear_value s1_5
  exact FrameN.next (Frame.ite h_s (Frame.ite (count_frame h_s1_5 (pick_sub 0x2 rfl hT)) (trigPulse_frame h_s1_5 (pick_sub 0x3 rfl hT))))

end Sys2Proof.Laws
end

