-- ==== Sys2Proof/Laws/FrameTouch.lean ====
section
/-! SUPPORT. What the operations and commands of Machine/Touch.lean may change: the parts of each, and that nothing else changes. -/

set_option Elab.async false

namespace Sys2Proof.Laws

open Machine

/-- What State.setTiles may change. -/
def setTiles_T : List Piece :=
  [.fld TOUCH.TILE_STAT.state]

theorem setTiles_frame {LL rr s p st} (h_s : Frame LL rr s) (hT : Cov setTiles_T LL) :
    Frame LL rr (State.setTiles s p st) := by
  delta State.setTiles
  exact wr_frame (wr_frame h_s (pick_sub 0x1 rfl hT)) (pick_sub 0x1 rfl hT)

/-- What State.touchCheck may change. -/
def touchCheck_T : List Piece :=
  [.fld TOUCH.TILE_STAT.state]

theorem touchCheck_frame {LL rr s p} (h_s : Frame LL rr s) (hT : Cov touchCheck_T LL) :
    Frame LL rr (State.touchCheck s p) := by
  delta State.touchCheck
  exact Frame.ite (Frame.ite (setTiles_frame h_s (pick_sub 0x1 rfl hT)) h_s) (Frame.ite (setTiles_frame h_s (pick_sub 0x1 rfl hT)) h_s)

/-- What State.setTouch may change. -/
def setTouch_T : List Piece :=
  [.touch]

theorem setTouch_frame {LL rr s p v} (h_s : Frame LL rr s) (hT : Cov setTouch_T LL) :
    Frame LL rr (State.setTouch s p v) := by
  delta State.setTouch
  exact Frame.upd h_s (m_touch := .inl (nth 0 rfl hT))

/-- What State.touchCtrl may change. -/
def touchCtrl_T : List Piece :=
  [.blk .touch, .ctr .pot, .err .pot, .err .touch, .fld (HDR.enable .touch), .fld (HDR.ev_raw .pot), .fld (HDR.ev_raw .touch),
   .fld TOUCH.TILE_STAT.state, .parts, .resp, .sent, .staged, .touch, .world]

theorem touchCtrl_frame {LL rr s w n v} (h_s : Frame LL rr s) (hT : Cov touchCtrl_T LL) :
    Frame LL rr (State.touchCtrl s w n v) := by
  delta State.touchCtrl
  extract_lets p_1
  exact onWrite_frame h_s (fun t2 h3 => by
      extract_lets u1_4 u2_5
      have h_u1_4 : Frame LL rr u1_4 := by
          unfold u1_4
          exact wr_frame h3 (pick_sub 0x10 rfl hT)
      have h_u2_5 : Frame LL rr u2_5 := by
          unfold u2_5
          exact softRegs_frame h_u1_4 (idx_sub [0, 11, 8] rfl hT)
      clear_value u1_4 u2_5
      exact Frame.ite (touchCheck_frame (Frame.ite (setTiles_frame (setTouch_frame h_u2_5 (pick_sub 0x1000 rfl hT)) (pick_sub 0x80 rfl hT)) h_u2_5) (pick_sub 0x80 rfl hT)) (touchCheck_frame h_u1_4 (pick_sub 0x80 rfl hT))) (pick_sub 0x266e rfl hT)

/-- What State.touchResume may change. -/
def touchResume_T : List Piece :=
  [.fld (HDR.ev_raw .touch), .fld TOUCH.TILE_STAT.state, .fld TOUCH.WAKE_STAT.gesture, .fld TOUCH.WAKE_STAT.woke, .pwr, .sent, .touch]

theorem touchResume_frame {LL rr s} (h_s : Frame LL rr s) (hT : Cov touchResume_T LL) :
    Frame LL rr (State.touchResume s) := by
  delta State.touchResume
  extract_lets s1_1 u_2
  have h_s1_1 : Frame LL rr s1_1 := by
      unfold s1_1
      exact Frame.foldl h_s (fun t3 x4 h5 => by
          extract_lets g_6 u1_7 t_8 u2_9
          have h_u1_7 : Frame LL rr u1_7 := by
              unfold u1_7
              exact Frame.ite h5 (raise_frame (wr_frame (wr_frame h5 (pick_sub 0x8 rfl hT)) (pick_sub 0x4 rfl hT)) (pick_sub 0x21 rfl hT))
          have h_u2_9 : Frame LL rr u2_9 := by
              unfold u2_9
              exact Frame.ite (setTiles_frame (setTouch_frame h_u1_7 (pick_sub 0x40 rfl hT)) (pick_sub 0x2 rfl hT)) h_u1_7
          clear_value u1_7 u2_9
          exact touchCheck_frame h_u2_9 (pick_sub 0x2 rfl hT))
  clear_value s1_1
  exact Frame.upd h_s1_1 (m_pwr := .inl (nth 4 rfl hT))

/-- What State.setSurf may change. -/
def setSurf_T : List Piece :=
  [.surf]

theorem setSurf_frame {LL rr s p v} (h_s : Frame LL rr s) (hT : Cov setSurf_T LL) :
    Frame LL rr (State.setSurf s p v) := by
  delta State.setSurf
  exact Frame.upd h_s (m_surf := .inl (nth 0 rfl hT))

/-- What State.surfCtrl may change. -/
def surfCtrl_T : List Piece :=
  [.ctr .pot, .err .pot, .err .touch, .fld (HDR.dirty .touch), .fld (HDR.ev_raw .pot), .fld (HDR.ev_raw .touch), .fld TOUCH.TILE_STAT.state,
   .reg .touch 0x200, .resp, .sent, .touch, .world]

theorem surfCtrl_frame {LL rr s w p v} (h_s : Frame LL rr s) (hT : Cov surfCtrl_T LL) :
    Frame LL rr (State.surfCtrl s w p v) := by
  delta State.surfCtrl
  exact onWrite_frame h_s (fun t1 h2 => by
      extract_lets u1_3 t_4 run_5
      have h_u1_3 : Frame LL rr u1_3 := by
          unfold u1_3
          exact storeWord_frame h2 (pick_sub 0x88 rfl hT)
      clear_value u1_3
      exact touchCheck_frame (setTouch_frame h_u1_3 (pick_sub 0x400 rfl hT)) (pick_sub 0x40 rfl hT)) (pick_sub 0xb37 rfl hT)

/-- What State.rptCtrl may change. -/
def rptCtrl_T : List Piece :=
  [.ctr .pot, .err .pot, .err .touch, .fld (HDR.dirty .touch), .fld (HDR.ev_raw .pot), .fld (HDR.ev_raw .touch), .fld TOUCH.RPT_CONS.cons,
   .fld TOUCH.RPT_PROD.prod, .reg .touch 0x2d0, .resp, .sent, .touch, .world]

theorem rptCtrl_frame {LL rr s w p v} (h_s : Frame LL rr s) (hT : Cov rptCtrl_T LL) :
    Frame LL rr (State.rptCtrl s w p v) := by
  delta State.rptCtrl
  exact onWrite_frame h_s (fun t1 h2 => by
      extract_lets t1_3 u_4 t2_5
      have h_t1_3 : Frame LL rr t1_3 := by
          unfold t1_3
          exact storeWord_frame h2 (pick_sub 0x108 rfl hT)
      have h_t2_5 : Frame LL rr t2_5 := by
          unfold t2_5
          exact setTouch_frame h_t1_3 (pick_sub 0x800 rfl hT)
      clear_value t1_3 t2_5
      exact Frame.ite (wr_frame (wr_frame h_t2_5 (pick_sub 0x80 rfl hT)) (pick_sub 0x40 rfl hT)) h_t2_5) (pick_sub 0x1637 rfl hT)

/-- What State.reportLost may change. -/
def reportLost_T : List Piece :=
  [.ctr .touch, .fld (HDR.ev_raw .touch), .sent]

theorem reportLost_frame {LL rr s p} (h_s : Frame LL rr s) (hT : Cov reportLost_T LL) :
    Frame LL rr (State.reportLost s p) := by
  delta State.reportLost
  exact raise_frame (count_frame h_s (pick_sub 0x1 rfl hT)) (pick_sub 0x6 rfl hT)

/-- What State.putReport may change. -/
def putReport_T : List Piece :=
  [.ctr .dram, .ctr .dramq, .ctr .pot, .ctr .touch, .dram, .err .dram, .err .pot, .err .touch, .fld (HDR.ev_raw .dram), .fld (HDR.ev_raw .pot),
   .fld (HDR.ev_raw .touch), .fld TOUCH.RPT_PROD.prod, .mem, .pot, .sent, .touch]

theorem putReport_frame {LL rr s p d lost} (h_s : Frame LL rr s) (hT : Cov putReport_T LL) :
    Frame LL rr (State.putReport s p d lost) := by
  delta State.putReport
  extract_lets i_1 prod_2 phase_3 rid_4
  split
  · rename_i a7
    have h8 := FrameP.eq (L := LL) (r := rr) a7 (tryStore_frame h_s (pick_sub 0x7377 rfl hT))
    extract_lets t1_9 u_10
    have h_t1_9 : Frame LL rr t1_9 := by
        unfold t1_9
        exact raise_frame (count_frame (wr_frame h8 (pick_sub 0x800 rfl hT)) (pick_sub 0x8 rfl hT)) (pick_sub 0x4400 rfl hT)
    clear_value t1_9
    exact setTouch_frame h_t1_9 (pick_sub 0x8000 rfl hT)
  · rename_i a14
    have h15 := FrameP.eq (L := LL) (r := rr) a14 (tryStore_frame h_s (pick_sub 0x7377 rfl hT))
    extract_lets t1_16 u_17
    have h_t1_16 : Frame LL rr t1_16 := by
        unfold t1_16
        exact Frame.ite h15 (recErr_frame h15 (pick_sub 0x4480 rfl hT))
    clear_value t1_16
    exact reportLost_frame (setTouch_frame h_t1_16 (pick_sub 0x8000 rfl hT)) (pick_sub 0x4408 rfl hT)

/-- What State.freeHeld may change. -/
def freeHeld_T : List Piece :=
  [.ctr .dram, .ctr .dramq, .ctr .pot, .ctr .touch, .dram, .err .dram, .err .pot, .err .touch, .fld (HDR.ev_raw .dram), .fld (HDR.ev_raw .pot),
   .fld (HDR.ev_raw .touch), .fld TOUCH.RPT_PROD.prod, .mem, .pot, .sent, .touch]

theorem freeHeld_frame {LL rr s p} (h_s : Frame LL rr s) (hT : Cov freeHeld_T LL) :
    Frame LL rr (State.freeHeld s p) := by
  delta State.freeHeld
  extract_lets t_1
  split
  · exact Frame.ite (putReport_frame (setTouch_frame h_s (pick_sub 0x8000 rfl hT)) (pick_sub 0xffff rfl hT)) h_s
  · exact h_s

/-- What State.rptCons may change. -/
def rptCons_T : List Piece :=
  [.ctr .dram, .ctr .dramq, .ctr .pot, .ctr .touch, .dram, .err .dram, .err .pot, .err .touch, .fld (HDR.dirty .touch), .fld (HDR.ev_raw .dram),
   .fld (HDR.ev_raw .pot), .fld (HDR.ev_raw .touch), .fld TOUCH.RPT_PROD.prod, .mem, .pot, .reg .touch 0x2e4, .resp, .sent, .touch, .world]

theorem rptCons_frame {LL rr s w p v} (h_s : Frame LL rr s) (hT : Cov rptCons_T LL) :
    Frame LL rr (State.rptCons s w p v) := by
  delta State.rptCons
  extract_lets i_1
  exact onWrite_frame h_s (fun t2 h3 => Frame.ite (refuse_frame h3 (pick_sub 0x30880 rfl hT)) (freeHeld_frame (storeWord_frame h3 (pick_sub 0x8100 rfl hT)) (pick_sub 0x67eff rfl hT))) (pick_sub 0xb0cc4 rfl hT)

/-- What State.draws may change. -/
def draws_T : List Piece :=
  [.free]

theorem draws_frame {LL rr p0 p1} (h_p1 : Frame LL rr p1) (hT : Cov draws_T LL) :
    FrameR LL rr (State.draws p0 p1) := by
  induction p0 generalizing p1
  · unfold State.draws
    exact FrameR.mk h_p1
  · rename_i m ih
    unfold State.draws
    split
    · rename_i a6
      have h7 := FrameR.eq (L := LL) (r := rr) a6 (draw_frame h_p1 (pick_sub 0x1 rfl hT))
      split
      · rename_i a11
        have h12 := FrameR.eq (L := LL) (r := rr) a11 (ih h7)
        exact FrameR.mk h12

/-- What State.exclude may change. -/
def exclude_T (f : Fld) : List Piece :=
  [.fld f, .touch]

theorem exclude_frame {LL rr s p c f} (h_s : Frame LL rr s) (hT : Cov (exclude_T f) LL) :
    Frame LL rr (State.exclude s p c f) := by
  delta State.exclude
  extract_lets i_1 t_2
  exact wr_frame (setTouch_frame h_s (pick_sub 0x2 rfl hT)) (pick_sub 0x1 rfl hT)

/-- What State.touchEvent may change. -/
def touchEvent_T : List Piece :=
  [.evSeq, .events]

theorem touchEvent_frame {LL rr s p code val} (h_s : Frame LL rr s) (hT : Cov touchEvent_T LL) :
    Frame LL rr (State.touchEvent s p code val) := by
  delta State.touchEvent
  exact eventPage_frame h_s (pick_sub 0x3 rfl hT)

/-- What State.foundAdj may change. -/
def foundAdj_T : List Piece :=
  [.evSeq, .events, .fld (HDR.ev_raw .touch), .fld TOUCH.ADJ.channels, .sent, .touch]

theorem foundAdj_frame {LL rr s p a b} (h_s : Frame LL rr s) (hT : Cov foundAdj_T LL) :
    Frame LL rr (State.foundAdj s p a b) := by
  delta State.foundAdj
  extract_lets f_1
  exact Frame.ite h_s (touchEvent_frame (raise_frame (exclude_frame (exclude_frame h_s (pick_sub 0x28 rfl hT)) (pick_sub 0x28 rfl hT)) (pick_sub 0x14 rfl hT)) (pick_sub 0x3 rfl hT))

/-- What State.foundBad may change. -/
def foundBad_T (f : Fld) : List Piece :=
  [.evSeq, .events, .fld (HDR.ev_raw .touch), .fld f, .sent, .touch]

theorem foundBad_frame {LL rr s p c f code} (h_s : Frame LL rr s) (hT : Cov (foundBad_T f) LL) :
    Frame LL rr (State.foundBad s p c f code) := by
  delta State.foundBad
  exact Frame.ite h_s (touchEvent_frame (raise_frame (exclude_frame h_s (pick_sub 0x28 rfl hT)) (pick_sub 0x14 rfl hT)) (pick_sub 0x3 rfl hT))

/-- What State.touchWatch may change. -/
def touchWatch_T : List Piece :=
  [.fld TOUCH.TILE_STAT.state, .touch]

theorem touchWatch_frame {LL rr s} (h_s : Frame LL rr s) (hT : Cov touchWatch_T LL) :
    Frame LL rr (State.touchWatch s) := by
  delta State.touchWatch
  exact Frame.foldl h_s (fun t1 x2 h3 => by
      extract_lets t_4
      exact Frame.ite (wr_frame (setTouch_frame h3 (pick_sub 0x2 rfl hT)) (pick_sub 0x1 rfl hT)) h3)

/-- What State.peaks may change. -/
def peaks_T : List Piece :=
  [.free]

theorem peaks_frame {LL rr s p off d} (h_s : Frame LL rr s) (hT : Cov peaks_T LL) :
    FrameR LL rr (State.peaks s p off d) := by
  delta State.peaks
  extract_lets T_1 R_2
  exact FrameR.foldl (FrameR.mk h_s) (fun t3 x4 h5 => by
      split
      · have h9 := FrameR.eq (L := LL) (r := rr) rfl h5
        split
        · have h14 := FrameR.eq (L := LL) (r := rr) rfl h5
          exact FrameR.ite (FrameR.mk h9) (by
              split
              · rename_i a18
                have h19 := FrameR.eq (L := LL) (r := rr) a18 (draw_frame h9 (pick_sub 0x1 rfl hT))
                have h20 := FrameR.eq (L := LL) (r := rr) rfl h5
                split
                · rename_i a24
                  have h25 := FrameR.eq (L := LL) (r := rr) a24 (draw_frame h19 (pick_sub 0x1 rfl hT))
                  have h26 := FrameR.eq (L := LL) (r := rr) rfl h5
                  exact FrameR.mk h25))

/-- What State.reportDue may change. -/
def reportDue_T : List Piece :=
  [.touch]

theorem reportDue_frame {LL rr s p more recs} (h_s : Frame LL rr s) (hT : Cov reportDue_T LL) :
    Frame LL rr (State.reportDue s p more recs) := by
  delta State.reportDue
  extract_lets t_1 d_2
  exact setTouch_frame h_s (pick_sub 0x1 rfl hT)

/-- What State.reportWrite may change. -/
def reportWrite_T : List Piece :=
  [.ctr .dram, .ctr .dramq, .ctr .pot, .ctr .touch, .dram, .err .dram, .err .pot, .err .touch, .fld (HDR.ev_raw .dram), .fld (HDR.ev_raw .pot),
   .fld (HDR.ev_raw .touch), .fld TOUCH.RPT_PROD.prod, .mem, .pot, .sent, .touch]

theorem reportWrite_frame {LL rr s p} (h_s : Frame LL rr s) (hT : Cov reportWrite_T LL) :
    Frame LL rr (State.reportWrite s p) := by
  delta State.reportWrite
  extract_lets t_1 s1_2 u_3
  have h_s1_2 : Frame LL rr s1_2 := by
      unfold s1_2
      exact setTouch_frame h_s (pick_sub 0x8000 rfl hT)
  clear_value s1_2
  split
  · exact h_s
  · exact Frame.ite h_s1_2 (Frame.ite (by
        extract_lets s2_9
        have h_s2_9 : Frame LL rr s2_9 := by
            unfold s2_9
            exact setTouch_frame h_s1_2 (pick_sub 0x8000 rfl hT)
        clear_value s2_9
        exact Frame.ite (reportLost_frame h_s2_9 (pick_sub 0x4408 rfl hT)) h_s2_9) (putReport_frame h_s1_2 (pick_sub 0xffff rfl hT)))

/-- What State.scanBase may change. -/
def scanBase_T : List Piece :=
  [.ctr .touch, .fld TOUCH.SCAN_STAT.suspect_cnt, .touch]

theorem scanBase_frame {LL rr s p raws d} (h_s : Frame LL rr s) (hT : Cov scanBase_T LL) :
    Frame LL rr (State.scanBase s p raws d) := by
  delta State.scanBase
  extract_lets t_1 T_2 R_3 held_4 c_5 step_6 l_7 raw_8 s1_9 s2_10
  have h_s1_9 : Frame LL rr s1_9 := by
      unfold s1_9
      exact setTouch_frame h_s (pick_sub 0x4 rfl hT)
  have h_s2_10 : Frame LL rr s2_10 := by
      unfold s2_10
      exact count_frame h_s1_9 (pick_sub 0x1 rfl hT)
  clear_value s1_9 s2_10
  exact wr_frame h_s2_10 (pick_sub 0x2 rfl hT)

/-- What State.scanNoise may change. -/
def scanNoise_T : List Piece :=
  [.ctr .touch, .evSeq, .events, .fld (HDR.ev_raw .touch), .fld TOUCH.SCAN_STAT.noisy, .sent, .touch]

theorem scanNoise_frame {LL rr s p hopCount limit slots} (h_s : Frame LL rr s) (hT : Cov scanNoise_T LL) :
    Frame LL rr (State.scanNoise s p hopCount limit slots) := by
  delta State.scanNoise
  extract_lets t_1 h_2 v_3 lv_4 now_5 n1_6 noise_7 loud_8 run_9 all_10 best_11 hops_12 s1_13 s2_14
  have h_s1_13 : Frame LL rr s1_13 := by
      unfold s1_13
      exact wr_frame (setTouch_frame h_s (pick_sub 0x40 rfl hT)) (pick_sub 0x10 rfl hT)
  have h_s2_14 : Frame LL rr s2_14 := by
      unfold s2_14
      exact Frame.ite (count_frame h_s1_13 (pick_sub 0x1 rfl hT)) h_s1_13
  clear_value s1_13 s2_14
  exact Frame.ite (touchEvent_frame (raise_frame h_s2_14 (pick_sub 0x28 rfl hT)) (pick_sub 0x6 rfl hT)) h_s2_14

/-- What State.scanZero may change. -/
def scanZero_T : List Piece :=
  [.free, .touch]

theorem scanZero_frame {LL rr s p margin raws} (h_s : Frame LL rr s) (hT : Cov scanZero_T LL) :
    Frame LL rr (State.scanZero s p margin raws) := by
  delta State.scanZero
  extract_lets nodes_1 t_2 missing_3 refs_4 sus_5
  split
  · rename_i a9
    have h10 := FrameR.eq (L := LL) (r := rr) a9 (FrameR.ite (draws_frame h_s (pick_sub 0x1 rfl hT)) (FrameR.mk h_s))
    extract_lets base_11 prev_12
    exact setTouch_frame h10 (pick_sub 0x2 rfl hT)

/-- What State.scanKeys may change. -/
def scanKeys_T : List Piece :=
  [.ctr .touch, .fld (HDR.ev_raw .touch), .fld TOUCH.KEY_STAT.pressed, .sent, .touch]

theorem scanKeys_frame {LL rr s p d} (h_s : Frame LL rr s) (hT : Cov scanKeys_T LL) :
    Frame LL rr (State.scanKeys s p d) := by
  delta State.scanKeys
  extract_lets nodes_1
  exact Frame.foldl h_s (fun t2 x3 h4 => by
      extract_lets t_5 c_6 was_7
      split
      · extract_lets now_12 u1_13 m_14 u2_15
        have h_u1_13 : Frame LL rr u1_13 := by
            unfold u1_13
            exact setTouch_frame h4 (pick_sub 0x10 rfl hT)
        have h_u2_15 : Frame LL rr u2_15 := by
            unfold u2_15
            exact raise_frame (wr_frame h_u1_13 (pick_sub 0x4 rfl hT)) (pick_sub 0xa rfl hT)
        clear_value u1_13 u2_15
        exact Frame.ite h_u1_13 (Frame.ite (count_frame h_u2_15 (pick_sub 0x1 rfl hT)) h_u2_15))

/-- What State.scanNormal may change. -/
def scanNormal_T : List Piece :=
  [.ctr .touch, .evSeq, .events, .fld (HDR.ev_raw .touch), .fld TOUCH.KEY_STAT.pressed, .fld TOUCH.SCAN_STAT.noisy,
   .fld TOUCH.SCAN_STAT.suspect_cnt, .fld TOUCH.TILE_STAT.state, .free, .sent, .touch]

theorem scanNormal_frame {LL rr s p slots} (h_s : Frame LL rr s) (hT : Cov scanNormal_T LL) :
    Frame LL rr (State.scanNormal s p slots) := by
  delta State.scanNormal
  extract_lets t_1 T_2 R_3 K_4 c_5 zero_6
  split
  · extract_lets s1_12 s2_13 raws_14 s3_15 d_16
    have h_s1_12 : Frame LL rr s1_12 := by
        unfold s1_12
        exact Frame.foldl h_s (fun t17 x18 h19 => count_frame (count_frame (count_frame h19 (pick_sub 0x1 rfl hT)) (pick_sub 0x1 rfl hT)) (pick_sub 0x1 rfl hT))
    have h_s2_13 : Frame LL rr s2_13 := by
        unfold s2_13
        exact count_frame (scanNoise_frame h_s1_12 (pick_sub 0x62f rfl hT)) (pick_sub 0x1 rfl hT)
    have h_s3_15 : Frame LL rr s3_15 := by
        unfold s3_15
        exact Frame.ite (scanZero_frame h_s2_13 (pick_sub 0x500 rfl hT)) h_s2_13
    clear_value s1_12 s2_13 s3_15
    split
    · rename_i a23
      have h24 := FrameR.eq (L := LL) (r := rr) a23 (peaks_frame h_s3_15 (pick_sub 0x100 rfl hT))
      extract_lets tr_25 u_26 s5_27 s6_28 n_29 s7_30
      have h_s5_27 : Frame LL rr s5_27 := by
          unfold s5_27
          exact count_frame (setTouch_frame h24 (pick_sub 0x400 rfl hT)) (pick_sub 0x1 rfl hT)
      have h_s6_28 : Frame LL rr s6_28 := by
          unfold s6_28
          exact scanBase_frame (scanKeys_frame h_s5_27 (pick_sub 0x619 rfl hT)) (pick_sub 0x441 rfl hT)
      have h_s7_30 : Frame LL rr s7_30 := by
          unfold s7_30
          exact Frame.ite (Frame.ite (setTiles_frame h_s6_28 (pick_sub 0x80 rfl hT)) (touchEvent_frame (raise_frame (setTiles_frame h_s6_28 (pick_sub 0x80 rfl hT)) (pick_sub 0x208 rfl hT)) (pick_sub 0x6 rfl hT))) h_s6_28
      clear_value s5_27 s6_28 s7_30
      exact reportDue_frame h_s7_30 (pick_sub 0x400 rfl hT)

/-- What State.testA may change. -/
def testA_T : List Piece :=
  [.evSeq, .events, .fld (HDR.ev_raw .touch), .fld TOUCH.GND.channels, .fld TOUCH.OPEN.channels, .sent, .touch]

theorem testA_frame {LL rr s p raw} (h_s : Frame LL rr s) (hT : Cov testA_T LL) :
    Frame LL rr (State.testA s p raw) := by
  delta State.testA
  extract_lets m_1 sat_2
  exact Frame.foldl h_s (fun t3 x4 h5 => by
      extract_lets n_6 t1_7
      have h_t1_7 : Frame LL rr t1_7 := by
          unfold t1_7
          exact Frame.ite (foundBad_frame h5 (pick_sub 0x77 rfl hT)) h5
      clear_value t1_7
      exact Frame.ite (foundBad_frame h_t1_7 (pick_sub 0x6f rfl hT)) h_t1_7)

/-- What State.testBC may change. -/
def testBC_T : List Piece :=
  [.evSeq, .events, .fld (HDR.ev_raw .touch), .fld TOUCH.ADJ.channels, .sent, .touch]

theorem testBC_frame {LL rr s p q raw} (h_s : Frame LL rr s) (hT : Cov testBC_T LL) :
    Frame LL rr (State.testBC s p q raw) := by
  delta State.testBC
  exact Frame.foldl h_s (fun t1 x2 h3 => by
      extract_lets l_4
      exact Frame.foldl h3 (fun t5 x6 h7 => Frame.ite h7 (Frame.foldl h7 (fun t8 x9 h10 => by
          extract_lets a_11 b_12
          exact Frame.ite (foundAdj_frame h10 (pick_sub 0x3f rfl hT)) h10))))

/-- What State.scanTest may change. -/
def scanTest_T : List Piece :=
  [.ctr .touch, .evSeq, .events, .fld (HDR.ev_raw .touch), .fld TOUCH.ADJ.channels, .fld TOUCH.GND.channels, .fld TOUCH.OPEN.channels, .sent,
   .touch]

theorem scanTest_frame {LL rr s p slots} (h_s : Frame LL rr s) (hT : Cov scanTest_T LL) :
    Frame LL rr (State.scanTest s p slots) := by
  delta State.scanTest
  extract_lets t_1 raw_2 s1_3 s2_4 s3_5 u_6
  have h_s1_3 : Frame LL rr s1_3 := by
      unfold s1_3
      exact Frame.foldl h_s (fun t7 x8 h9 => count_frame h9 (pick_sub 0x1 rfl hT))
  have h_s2_4 : Frame LL rr s2_4 := by
      unfold s2_4
      exact Frame.ite (testA_frame h_s1_3 (pick_sub 0x1ee rfl hT)) (Frame.ite (testBC_frame h_s1_3 (pick_sub 0x19e rfl hT)) (testBC_frame h_s1_3 (pick_sub 0x19e rfl hT)))
  have h_s3_5 : Frame LL rr s3_5 := by
      unfold s3_5
      exact reportDue_frame (count_frame h_s2_4 (pick_sub 0x1 rfl hT)) (pick_sub 0x100 rfl hT)
  clear_value s1_3 s2_4 s3_5
  exact setTouch_frame h_s3_5 (pick_sub 0x100 rfl hT)

/-- What State.scanEnd may change. -/
def scanEnd_T : List Piece :=
  [.ctr .touch, .evSeq, .events, .fld (HDR.ev_raw .touch), .fld TOUCH.ADJ.channels, .fld TOUCH.GND.channels, .fld TOUCH.KEY_STAT.pressed,
   .fld TOUCH.OPEN.channels, .fld TOUCH.SCAN_STAT.noisy, .fld TOUCH.SCAN_STAT.suspect_cnt, .fld TOUCH.TILE_STAT.state, .free, .sent, .touch]

theorem scanEnd_frame {LL rr s p slots} (h_s : Frame LL rr s) (hT : Cov scanEnd_T LL) :
    Frame LL rr (State.scanEnd s p slots) := by
  delta State.scanEnd
  extract_lets t_1 s1_2 u_3
  have h_s1_2 : Frame LL rr s1_2 := by
      unfold s1_2
      exact Frame.ite (scanNormal_frame h_s (pick_sub 0x3f4f rfl hT)) (scanTest_frame h_s (pick_sub 0x30bf rfl hT))
  clear_value s1_2
  exact Frame.ite h_s (touchCheck_frame (setTouch_frame h_s1_2 (pick_sub 0x2000 rfl hT)) (pick_sub 0x400 rfl hT))

/-- What State.scanStart may change. -/
def scanStart_T : List Piece :=
  [.ctr .touch, .fld TOUCH.SCAN_STAT.hop, .fld TOUCH.TILE_STAT.hop, .touch]

theorem scanStart_frame {LL rr s p} (h_s : Frame LL rr s) (hT : Cov scanStart_T LL) :
    Frame LL rr (State.scanStart s p) := by
  delta State.scanStart
  extract_lets t_1 st_2 cal_3 s1_4
  have h_s1_4 : Frame LL rr s1_4 := by
      unfold s1_4
      split
      · exact h_s
      · exact count_frame (wr_frame (wr_frame (wr_frame h_s (pick_sub 0x2 rfl hT)) (pick_sub 0x4 rfl hT)) (pick_sub 0x4 rfl hT)) (pick_sub 0x1 rfl hT)
  clear_value s1_4
  exact Frame.ite h_s (setTouch_frame h_s1_4 (pick_sub 0x8 rfl hT))

/-- What State.touchDetach may change. -/
def touchDetach_T : List Piece :=
  [.fld TOUCH.KEY_STAT.pressed, .fld TOUCH.TILE_STAT.state, .touch]

theorem touchDetach_frame {LL rr s p} (h_s : Frame LL rr s) (hT : Cov touchDetach_T LL) :
    Frame LL rr (State.touchDetach s p) := by
  delta State.touchDetach
  extract_lets t_1 k_2 s1_3
  have h_s1_3 : Frame LL rr s1_3 := by
      unfold s1_3
      exact setTouch_frame (wr_frame h_s (pick_sub 0x1 rfl hT)) (pick_sub 0x4 rfl hT)
  clear_value s1_3
  exact Frame.ite h_s (Frame.ite (setTiles_frame (setTouch_frame h_s (pick_sub 0x4 rfl hT)) (pick_sub 0x2 rfl hT)) (setTiles_frame (reportDue_frame h_s1_3 (pick_sub 0x4 rfl hT)) (pick_sub 0x2 rfl hT)))

/-- What State.surfaceStart may change. -/
def surfaceStart_T : List Piece :=
  [.ctr .touch, .evSeq, .events, .fld (HDR.ev_raw .touch), .fld TOUCH.ADJ.channels, .fld TOUCH.GND.channels, .fld TOUCH.KEY_STAT.pressed,
   .fld TOUCH.OPEN.channels, .fld TOUCH.SCAN_STAT.hop, .fld TOUCH.SCAN_STAT.noisy, .fld TOUCH.SCAN_STAT.suspect_cnt, .fld TOUCH.TILE_STAT.hop,
   .fld TOUCH.TILE_STAT.state, .sent, .surf, .touch]

theorem surfaceStart_frame {LL rr s0 p listen a b c} (h_s0 : Frame LL rr s0) (hT : Cov surfaceStart_T LL) :
    Frame LL rr (State.surfaceStart s0 p listen a b c) := by
  delta State.surfaceStart
  extract_lets s_1 cv_2 raws_3 n_4 s1_5 s2_6 s3_7 s4_8 u_9
  have h_s_1 : Frame LL rr s_1 := by
      unfold s_1
      exact touchCheck_frame h_s0 (pick_sub 0x1000 rfl hT)
  have h_s1_5 : Frame LL rr s1_5 := by
      unfold s1_5
      exact setTouch_frame h_s_1 (pick_sub 0x8000 rfl hT)
  have h_s2_6 : Frame LL rr s2_6 := by
      unfold s2_6
      exact Frame.foldl h_s1_5 (fun t10 x11 h12 => count_frame (wr_frame (wr_frame (wr_frame (wr_frame h12 (pick_sub 0x80 rfl hT)) (pick_sub 0x20 rfl hT)) (pick_sub 0x10 rfl hT)) (pick_sub 0x800 rfl hT)) (pick_sub 0x1 rfl hT))
  have h_s3_7 : Frame LL rr s3_7 := by
      unfold s3_7
      exact wr_frame (wr_frame (wr_frame (wr_frame h_s2_6 (pick_sub 0x40 rfl hT)) (pick_sub 0x100 rfl hT)) (pick_sub 0x200 rfl hT)) (pick_sub 0x400 rfl hT)
  have h_s4_8 : Frame LL rr s4_8 := by
      unfold s4_8
      exact testBC_frame (testBC_frame (testA_frame h_s3_7 (pick_sub 0xa0ae rfl hT)) (pick_sub 0xa01e rfl hT)) (pick_sub 0xa01e rfl hT)
  clear_value s_1 s1_5 s2_6 s3_7 s4_8
  exact Frame.ite h_s_1 (setTiles_frame (setSurf_frame h_s4_8 (pick_sub 0x4000 rfl hT)) (pick_sub 0x1000 rfl hT))

/-- What State.touchSleep may change. -/
def touchSleep_T : List Piece :=
  [.fld TOUCH.TILE_STAT.state, .touch]

theorem touchSleep_frame {LL rr s} (h_s : Frame LL rr s) (hT : Cov touchSleep_T LL) :
    Frame LL rr (State.touchSleep s) := by
  delta State.touchSleep
  exact Frame.foldl h_s (fun t1 x2 h3 => by
      extract_lets t_4
      exact setTiles_frame (setTouch_frame h3 (pick_sub 0x2 rfl hT)) (pick_sub 0x1 rfl hT))

/-- What execReportWrite may change. -/
def execReportWrite_T : List Piece :=
  [.ctr .dram, .ctr .dramq, .ctr .pot, .ctr .touch, .dram, .err .dram, .err .pot, .err .touch, .fld (HDR.ev_raw .dram), .fld (HDR.ev_raw .pot),
   .fld (HDR.ev_raw .touch), .fld TOUCH.RPT_PROD.prod, .mem, .pot, .sent, .touch]

theorem execReportWrite_frame {LL rr p s} (h_s : Frame LL rr s) (hT : Cov execReportWrite_T LL) :
    FrameN LL rr (execReportWrite p s) := by
  delta execReportWrite
  exact FrameN.next (reportWrite_frame h_s (pick_sub 0xffff rfl hT))

/-- What execRptConsWrite may change. -/
def execRptConsWrite_T : List Piece :=
  [.ctr .dram, .ctr .dramq, .ctr .pot, .ctr .touch, .dram, .err .dram, .err .pot, .err .touch, .fld (HDR.dirty .touch), .fld (HDR.ev_raw .dram),
   .fld (HDR.ev_raw .pot), .fld (HDR.ev_raw .touch), .fld TOUCH.RPT_PROD.prod, .mem, .pot, .reg .touch 0x2e4, .resp, .sent, .touch, .world]

theorem execRptConsWrite_frame {LL rr w p v s} (h_s : Frame LL rr s) (hT : Cov execRptConsWrite_T LL) :
    FrameN LL rr (execRptConsWrite w p v s) := by
  delta execRptConsWrite
  exact FrameN.next (rptCons_frame h_s (pick_sub 0xfffff rfl hT))

/-- What execRptEnable may change. -/
def execRptEnable_T : List Piece :=
  [.ctr .pot, .err .pot, .err .touch, .fld (HDR.dirty .touch), .fld (HDR.ev_raw .pot), .fld (HDR.ev_raw .touch), .fld TOUCH.RPT_CONS.cons,
   .fld TOUCH.RPT_PROD.prod, .reg .touch 0x2d0, .resp, .sent, .touch, .world]

theorem execRptEnable_frame {LL rr w p s} (h_s : Frame LL rr s) (hT : Cov execRptEnable_T LL) :
    FrameN LL rr (execRptEnable w p s) := by
  delta execRptEnable
  exact FrameN.next (rptCtrl_frame h_s (pick_sub 0x1fff rfl hT))

/-- What execScanEnd may change. -/
def execScanEnd_T : List Piece :=
  [.ctr .touch, .evSeq, .events, .fld (HDR.ev_raw .touch), .fld TOUCH.ADJ.channels, .fld TOUCH.GND.channels, .fld TOUCH.KEY_STAT.pressed,
   .fld TOUCH.OPEN.channels, .fld TOUCH.SCAN_STAT.noisy, .fld TOUCH.SCAN_STAT.suspect_cnt, .fld TOUCH.TILE_STAT.state, .free, .sent, .touch]

theorem execScanEnd_frame {LL rr p slots s} (h_s : Frame LL rr s) (hT : Cov execScanEnd_T LL) :
    FrameN LL rr (execScanEnd p slots s) := by
  delta execScanEnd
  exact FrameN.next (scanEnd_frame h_s (pick_sub 0x3fff rfl hT))

/-- What execScanStart may change. -/
def execScanStart_T : List Piece :=
  [.ctr .touch, .fld TOUCH.SCAN_STAT.hop, .fld TOUCH.TILE_STAT.hop, .touch]

theorem execScanStart_frame {LL rr p s} (h_s : Frame LL rr s) (hT : Cov execScanStart_T LL) :
    FrameN LL rr (execScanStart p s) := by
  delta execScanStart
  exact FrameN.next (scanStart_frame h_s (pick_sub 0xf rfl hT))

/-- What execSurfRebase may change. -/
def execSurfRebase_T : List Piece :=
  [.ctr .pot, .err .pot, .err .touch, .fld (HDR.dirty .touch), .fld (HDR.ev_raw .pot), .fld (HDR.ev_raw .touch), .fld TOUCH.TILE_STAT.state,
   .reg .touch 0x200, .resp, .sent, .touch, .world]

theorem execSurfRebase_frame {LL rr w p v s} (h_s : Frame LL rr s) (hT : Cov execSurfRebase_T LL) :
    FrameN LL rr (execSurfRebase w p v s) := by
  delta execSurfRebase
  exact FrameN.next (surfCtrl_frame h_s (pick_sub 0xfff rfl hT))

/-- What execSurfSelftest may change. -/
def execSurfSelftest_T : List Piece :=
  [.ctr .pot, .err .pot, .err .touch, .fld (HDR.dirty .touch), .fld (HDR.ev_raw .pot), .fld (HDR.ev_raw .touch), .fld TOUCH.TILE_STAT.state,
   .reg .touch 0x200, .resp, .sent, .touch, .world]

theorem execSurfSelftest_frame {LL rr w p v s} (h_s : Frame LL rr s) (hT : Cov execSurfSelftest_T LL) :
    FrameN LL rr (execSurfSelftest w p v s) := by
  delta execSurfSelftest
  exact FrameN.next (surfCtrl_frame h_s (pick_sub 0xfff rfl hT))

/-- What execSurfaceStart may change. -/
def execSurfaceStart_T : List Piece :=
  [.ctr .touch, .evSeq, .events, .fld (HDR.ev_raw .touch), .fld TOUCH.ADJ.channels, .fld TOUCH.GND.channels, .fld TOUCH.KEY_STAT.pressed,
   .fld TOUCH.OPEN.channels, .fld TOUCH.SCAN_STAT.hop, .fld TOUCH.SCAN_STAT.noisy, .fld TOUCH.SCAN_STAT.suspect_cnt, .fld TOUCH.TILE_STAT.hop,
   .fld TOUCH.TILE_STAT.state, .sent, .surf, .touch]

theorem execSurfaceStart_frame {LL rr p listen a b c s} (h_s : Frame LL rr s) (hT : Cov execSurfaceStart_T LL) :
    FrameN LL rr (execSurfaceStart p listen a b c s) := by
  delta execSurfaceStart
  exact FrameN.next (surfaceStart_frame h_s (pick_sub 0xffff rfl hT))

end Sys2Proof.Laws
end

