-- ==== Sys2Proof/Laws/FrameFeed.lean ====
section
/-! SUPPORT. What the operations and commands of Machine/Feed.lean may change: the parts of each, and that nothing else changes. -/

set_option Elab.async false

namespace Sys2Proof.Laws

open Machine

/-- What State.feedRead may change. -/
def feedRead_T : List Piece :=
  [.ctr .dram, .ctr .dramq, .ctr .pot, .err .dram, .err .pot, .fld (HDR.ev_raw .dram), .fld (HDR.ev_raw .pot), .mem, .pot, .sent]

theorem feedRead_frame {LL rr s how f j} (h_s : Frame LL rr s) (hT : Cov feedRead_T LL) :
    FrameP LL rr (State.feedRead s how f j) := by
  delta State.feedRead
  extract_lets a_1 q_2 last_3 n_4
  split
  · exact FrameP.mk (memRecord_frame h_s (pick_sub 0x27d rfl hT))
  · exact FrameP.mk (fetched_frame h_s (pick_sub 0x187 rfl hT))

/-- What State.feedTake may change. -/
def feedTake_T : List Piece :=
  [.ctr .dram, .ctr .dramq, .ctr .pot, .ctr .rsched, .err .dram, .err .pot, .fld (HDR.ev_raw .dram), .fld (HDR.ev_raw .pot), .mem, .pot, .rings,
   .sent]

theorem feedTake_frame {LL rr s how f} (h_s : Frame LL rr s) (hT : Cov feedTake_T LL) :
    FrameOP LL rr (State.feedTake s how f) := by
  delta State.feedTake
  split
  · exact FrameOP.none
  · rename_i a7
    have h8 := FrameOP.eq (L := LL) (r := rr) a7 (takeEntry_frame h_s (pick_sub 0xfff rfl hT))
    extract_lets ok_9
    exact FrameOP.some (FrameP.mk h8)

/-- What State.feedFill may change. -/
def feedFill_T : List Piece :=
  [.ctr .dram, .ctr .dramq, .ctr .pot, .ctr .rsched, .err .dram, .err .pot, .fld (HDR.ev_raw .dram), .fld (HDR.ev_raw .pot), .mem, .pot, .rings,
   .sent]

theorem feedFill_frame {LL rr p0 p1 p2 p3 p4} (h_p1 : Frame LL rr p1) (hT : Cov feedFill_T LL) :
    FrameP LL rr (State.feedFill p0 p1 p2 p3 p4) := by
  induction p0 generalizing p1 p2 p3 p4
  · unfold State.feedFill
    exact FrameP.mk h_p1
  · rename_i m ih
    unfold State.feedFill
    exact FrameP.ite (FrameP.mk h_p1) (by
        split
        · exact FrameP.ite (by
              split
              · rename_i a12
                have h13 := FrameP.eq (L := LL) (r := rr) a12 (feedRead_frame h_p1 (pick_sub 0xbf7 rfl hT))
                exact ih h13) (FrameP.ite (FrameP.mk h_p1) (by
              split
              · exact FrameP.mk h_p1
              · rename_i a19
                have h20 := FrameOP.eq (L := LL) (r := rr) a19 (feedTake_frame h_p1 (pick_sub 0xfff rfl hT))
                exact ih h20))
        · exact FrameP.ite (FrameP.mk h_p1) (by
              split
              · exact FrameP.mk h_p1
              · rename_i a33
                have h34 := FrameOP.eq (L := LL) (r := rr) a33 (feedTake_frame h_p1 (pick_sub 0xfff rfl hT))
                exact ih h34))

/-- What State.feedEnds may change. -/
def feedEnds_T : List Piece :=
  [.ctr .dram, .ctr .dramq, .ctr .pot, .ctr .rsched, .dram, .err .dram, .err .pot, .fld (HDR.ev_raw .dram), .fld (HDR.ev_raw .pot),
   .fld RSCHED.PIN_COUNT.pinned, .mem, .pot, .rings, .sent]

theorem feedEnds_frame {LL rr p0 p1 p2} (h_p1 : Frame LL rr p1) (hT : Cov feedEnds_T LL) :
    FrameP LL rr (State.feedEnds p0 p1 p2) := by
  induction p0 generalizing p1 p2
  · unfold State.feedEnds
    exact FrameP.mk h_p1
  · rename_i m ih
    unfold State.feedEnds
    split
    · exact FrameP.mk h_p1
    · exact FrameP.ite (by
          extract_lets c_13 q_14 a_15 s1_16
          have h_s1_16 : Frame LL rr s1_16 := by
              unfold s1_16
              exact Frame.ite (endJob_frame h_p1 (pick_sub 0x1200 rfl hT)) (Frame.ite (by
                  split
                  · rename_i a19
                    have h20 := FrameP.eq (L := LL) (r := rr) a19 (signal_frame h_p1 (pick_sub 0x3dff rfl hT))
                    exact endJob_frame h20 (pick_sub 0x1200 rfl hT)
                  · rename_i a25
                    have h26 := FrameP.eq (L := LL) (r := rr) a25 (signal_frame h_p1 (pick_sub 0x3dff rfl hT))
                    exact endJob_frame h26 (pick_sub 0x1200 rfl hT)) (endJob_frame h_p1 (pick_sub 0x1200 rfl hT)))
          clear_value s1_16
          exact ih h_s1_16) (FrameP.mk h_p1)

end Sys2Proof.Laws
end

