-- ==== Sys2Proof/Laws/FrameHaptics.lean ====
section
/-! SUPPORT. What the operations and commands of Machine/Haptics.lean may change: the parts of each, and that nothing else changes. -/

set_option Elab.async false

namespace Sys2Proof.Laws

open Machine

/-- What State.slewNow may change. -/
def slewNow_T : List Piece :=
  [.hapt]

theorem slewNow_frame {LL rr s p} (h_s : Frame LL rr s) (hT : Cov slewNow_T LL) :
    Frame LL rr (State.slewNow s p) := by
  delta State.slewNow
  exact Frame.upd h_s (m_hapt := .inl (nth 0 rfl hT))

/-- What State.hvSync may change. -/
def hvSync_T : List Piece :=
  [.ctr .hapt, .fld (HDR.ev_raw .surf), .fld HAPT.BOOST_STAT.on, .fld SURF.HV_STAT.on, .fld SURF.HV_STAT.why, .hapt, .sent, .surf]

theorem hvSync_frame {LL rr s} (h_s : Frame LL rr s) (hT : Cov hvSync_T LL) :
    Frame LL rr (State.hvSync s) := by
  delta State.hvSync
  extract_lets s1_1 any_2
  have h_s1_1 : Frame LL rr s1_1 := by
      unfold s1_1
      exact Frame.foldl h_s (fun t3 x4 h5 => by
          extract_lets why_6 was_7 now_8 t1_9 t2_10 u_11
          have h_t1_9 : Frame LL rr t1_9 := by
              unfold t1_9
              exact wrB_frame (wr_frame h5 (pick_sub 0x10 rfl hT)) (pick_sub 0x8 rfl hT)
          have h_t2_10 : Frame LL rr t2_10 := by
              unfold t2_10
              exact slewNow_frame (raise_frame h_t1_9 (pick_sub 0x42 rfl hT)) (pick_sub 0x20 rfl hT)
          clear_value t1_9 t2_10
          exact Frame.ite h_t1_9 (Frame.ite h_t2_10 (setSurf_frame h_t2_10 (pick_sub 0x80 rfl hT))))
  clear_value s1_1
  exact Frame.ite (count_frame (wr_frame h_s1_1 (pick_sub 0x4 rfl hT)) (pick_sub 0x1 rfl hT)) (wrB_frame h_s1_1 (pick_sub 0x4 rfl hT))

/-- What State.touchQuiet may change. -/
def touchQuiet_T : List Piece :=
  [.fld TOUCH.TILE_STAT.state, .touch]

theorem touchQuiet_frame {LL rr s p} (h_s : Frame LL rr s) (hT : Cov touchQuiet_T LL) :
    Frame LL rr (State.touchQuiet s p) := by
  delta State.touchQuiet
  exact setTiles_frame (setTouch_frame h_s (pick_sub 0x2 rfl hT)) (pick_sub 0x1 rfl hT)

/-- What State.surfForget may change. -/
def surfForget_T : List Piece :=
  [.fld SURF.CH_CAL.drift, .fld SURF.CH_CAL.source, .fld SURF.CH_CAL.status, .fld SURF.CH_RES.f_res, .fld SURF.CH_RES.q, .fld SURF.CH_RES2.cap_nf,
   .fld SURF.CH_RES2.f_ring, .fld SURF.CH_STAT.oc, .fld SURF.CH_STAT.service_due, .fld SURF.CH_STAT.wear_warn, .fld SURF.CH_WEAR.count,
   .fld SURF.ID_INFO.trk, .fld SURF.ID_INFO.wake_ok, .fld SURF.ID_SERIAL.serial, .fld SURF.SURF_STAT.auth, .fld SURF.SURF_STAT.wear_unknown,
   .fld SURF.SURF_STAT.wear_write_fail, .fld SURF.WEAR_SEQ.seq, .surf]

theorem surfForget_frame {LL rr s p} (h_s : Frame LL rr s) (hT : Cov surfForget_T LL) :
    Frame LL rr (State.surfForget s p) := by
  delta State.surfForget
  extract_lets k_1 s1_2 s2_3 s3_4
  have h_s1_2 : Frame LL rr s1_2 := by
      unfold s1_2
      exact setSurf_frame h_s (pick_sub 0x40000 rfl hT)
  have h_s2_3 : Frame LL rr s2_3 := by
      unfold s2_3
      simp only [List.foldl_cons, List.foldl_nil]
      exact wr_frame (wr_frame (wr_frame (wr_frame (wr_frame (wr_frame h_s1_2 (pick_sub 0x4000 rfl hT)) (pick_sub 0x8000 rfl hT)) (pick_sub 0x10000 rfl hT)) (pick_sub 0x800 rfl hT)) (pick_sub 0x1000 rfl hT)) (pick_sub 0x20000 rfl hT)
  have h_s3_4 : Frame LL rr s3_4 := by
      unfold s3_4
      exact Frame.foldl h_s2_3 (fun t5 x6 h7 => wr_frame h7 (pick_sub 0x2000 rfl hT))
  clear_value s1_2 s2_3 s3_4
  exact Frame.foldl h_s3_4 (fun t8 x9 h10 => by
      simp only [List.foldl_cons, List.foldl_nil]
      exact wr_frame (wr_frame (wr_frame (wr_frame (wr_frame (wr_frame (wr_frame (wr_frame (wr_frame (wr_frame (wr_frame h10 (pick_sub 0x8 rfl hT)) (pick_sub 0x10 rfl hT)) (pick_sub 0x40 rfl hT)) (pick_sub 0x20 rfl hT)) (pick_sub 0x4 rfl hT)) (pick_sub 0x2 rfl hT)) (pick_sub 0x1 rfl hT)) (pick_sub 0x400 rfl hT)) (pick_sub 0x80 rfl hT)) (pick_sub 0x200 rfl hT)) (pick_sub 0x100 rfl hT))

/-- What State.portOn may change. -/
def portOn_T : List Piece :=
  [.fld SURF.CH_CAL.drift, .fld SURF.CH_CAL.source, .fld SURF.CH_CAL.status, .fld SURF.CH_RES.f_res, .fld SURF.CH_RES.q, .fld SURF.CH_RES2.cap_nf,
   .fld SURF.CH_RES2.f_ring, .fld SURF.CH_STAT.oc, .fld SURF.CH_STAT.service_due, .fld SURF.CH_STAT.wear_warn, .fld SURF.CH_WEAR.count,
   .fld SURF.ID_INFO.trk, .fld SURF.ID_INFO.wake_ok, .fld SURF.ID_SERIAL.serial, .fld SURF.SURF_STAT.auth, .fld SURF.SURF_STAT.state,
   .fld SURF.SURF_STAT.wear_unknown, .fld SURF.SURF_STAT.wear_write_fail, .fld SURF.WEAR_SEQ.seq, .surf]

theorem portOn_frame {LL rr s p} (h_s : Frame LL rr s) (hT : Cov portOn_T LL) :
    Frame LL rr (State.portOn s p) := by
  delta State.portOn
  exact Frame.ite h_s (wr_frame (surfForget_frame h_s (pick_sub 0xf7fff rfl hT)) (pick_sub 0x8000 rfl hT))

/-- What State.throttleShow may change. -/
def throttleShow_T : List Piece :=
  [.fld (HDR.ev_raw .hapt), .fld HAPT.THR_MASK.channels, .hapt, .sent]

theorem throttleShow_frame {LL rr s} (h_s : Frame LL rr s) (hT : Cov throttleShow_T LL) :
    Frame LL rr (State.throttleShow s) := by
  delta State.throttleShow
  extract_lets m_1 s1_2 u_3
  have h_s1_2 : Frame LL rr s1_2 := by
      unfold s1_2
      exact wr_frame h_s (pick_sub 0x2 rfl hT)
  clear_value s1_2
  exact Frame.ite (raise_frame (Frame.upd h_s1_2 (m_hapt := .inl (nth 2 rfl hT))) (pick_sub 0x9 rfl hT)) h_s1_2

/-- What State.portOff may change. -/
def portOff_T : List Piece :=
  [.ctr .hapt, .fld (HDR.ev_raw .surf), .fld HAPT.BOOST_STAT.on, .fld SURF.HV_STAT.on, .fld SURF.HV_STAT.why, .fld SURF.SURF_STAT.state, .hapt,
   .sent, .surf]

theorem portOff_frame {LL rr s p} (h_s : Frame LL rr s) (hT : Cov portOff_T LL) :
    Frame LL rr (State.portOff s p) := by
  delta State.portOff
  exact hvSync_frame (wr_frame (setSurf_frame h_s (pick_sub 0x100 rfl hT)) (pick_sub 0x20 rfl hT)) (pick_sub 0x1df rfl hT)

/-- What State.portCtrl may change. -/
def portCtrl_T : List Piece :=
  [.ctr .hapt, .ctr .pot, .err .pot, .err .surf, .fld (HDR.dirty .surf), .fld (HDR.ev_raw .pot), .fld (HDR.ev_raw .surf), .fld HAPT.BOOST_STAT.on,
   .fld SURF.CH_CAL.drift, .fld SURF.CH_CAL.source, .fld SURF.CH_CAL.status, .fld SURF.CH_RES.f_res, .fld SURF.CH_RES.q, .fld SURF.CH_RES2.cap_nf,
   .fld SURF.CH_RES2.f_ring, .fld SURF.CH_STAT.oc, .fld SURF.CH_STAT.service_due, .fld SURF.CH_STAT.wear_warn, .fld SURF.CH_WEAR.count,
   .fld SURF.HV_STAT.on, .fld SURF.HV_STAT.why, .fld SURF.ID_INFO.trk, .fld SURF.ID_INFO.wake_ok, .fld SURF.ID_SERIAL.serial,
   .fld SURF.SURF_STAT.auth, .fld SURF.SURF_STAT.state, .fld SURF.SURF_STAT.wear_unknown, .fld SURF.SURF_STAT.wear_write_fail,
   .fld SURF.WEAR_SEQ.seq, .fld TOUCH.TILE_STAT.state, .hapt, .reg .surf 0x100, .resp, .sent, .surf, .touch, .world]

theorem portCtrl_frame {LL rr s w p v} (h_s : Frame LL rr s) (hT : Cov portCtrl_T LL) :
    Frame LL rr (State.portCtrl s w p v) := by
  delta State.portCtrl
  exact onWrite_frame h_s (fun t1 h2 => by
      extract_lets t1_3 u_4
      have h_t1_3 : Frame LL rr t1_3 := by
          unfold t1_3
          exact storeWord_frame h2 (pick_sub 0x80000010 rfl hT)
      clear_value t1_3
      exact Frame.ite (portOn_frame h_t1_3 (pick_sub 0x41fe7ff00 rfl hT)) (Frame.ite (hvSync_frame (touchQuiet_frame (setSurf_frame h_t1_3 (pick_sub 0x400000000 rfl hT)) (pick_sub 0x820000000 rfl hT)) (pick_sub 0x6401800c1 rfl hT)) (portOff_frame h_t1_3 (pick_sub 0x6421800c1 rfl hT)))) (pick_sub 0x130000006e rfl hT)

/-- What State.hvCtrl may change. -/
def hvCtrl_T : List Piece :=
  [.ctr .hapt, .ctr .pot, .err .pot, .err .surf, .fld (HDR.dirty .surf), .fld (HDR.ev_raw .pot), .fld (HDR.ev_raw .surf), .fld HAPT.BOOST_STAT.on,
   .fld SURF.CH_STAT.oc, .fld SURF.HV_STAT.on, .fld SURF.HV_STAT.why, .hapt, .reg .surf 0x118, .resp, .sent, .surf, .world]

theorem hvCtrl_frame {LL rr s w p v} (h_s : Frame LL rr s) (hT : Cov hvCtrl_T LL) :
    Frame LL rr (State.hvCtrl s w p v) := by
  delta State.hvCtrl
  exact onWrite_frame h_s (fun t1 h2 => by
      extract_lets t1_3
      have h_t1_3 : Frame LL rr t1_3 := by
          unfold t1_3
          exact storeWord_frame h2 (pick_sub 0x1010 rfl hT)
      clear_value t1_3
      exact hvSync_frame (Frame.ite (Frame.foldl h_t1_3 (fun t4 x5 h6 => wr_frame h6 (pick_sub 0x100 rfl hT))) h_t1_3) (pick_sub 0xcec1 rfl hT)) (pick_sub 0x1606e rfl hT)

/-- What State.streamCfg may change. -/
def streamCfg_T : List Piece :=
  [.ctr .pot, .err .pot, .err .surf, .fld (HDR.dirty .surf), .fld (HDR.ev_raw .pot), .fld (HDR.ev_raw .surf), .reg .surf 0x120, .resp, .sent,
   .world]

theorem streamCfg_frame {LL rr s w p v} (h_s : Frame LL rr s) (hT : Cov streamCfg_T LL) :
    Frame LL rr (State.streamCfg s w p v) := by
  delta State.streamCfg
  exact onWrite_frame h_s (fun t1 h2 => by
      extract_lets o_3 r_4
      exact Frame.ite (refuse_frame h2 (pick_sub 0x1a4 rfl hT)) (Frame.ite (refuse_frame h2 (pick_sub 0x1a4 rfl hT)) (storeWord_frame h2 (pick_sub 0x48 rfl hT)))) (pick_sub 0x3b7 rfl hT)

/-- What State.boostCtrl may change. -/
def boostCtrl_T : List Piece :=
  [.ctr .hapt, .ctr .pot, .err .hapt, .err .pot, .fld (HDR.dirty .hapt), .fld (HDR.ev_raw .hapt), .fld (HDR.ev_raw .pot), .fld (HDR.ev_raw .surf),
   .fld HAPT.BOOST_STAT.fault, .fld HAPT.BOOST_STAT.on, .fld SURF.HV_STAT.on, .fld SURF.HV_STAT.why, .hapt, .reg .hapt 0x100, .resp, .sent, .surf,
   .world]

theorem boostCtrl_frame {LL rr s w v} (h_s : Frame LL rr s) (hT : Cov boostCtrl_T LL) :
    Frame LL rr (State.boostCtrl s w v) := by
  delta State.boostCtrl
  exact onWrite_frame h_s (fun t1 h2 => by
      extract_lets t1_3
      have h_t1_3 : Frame LL rr t1_3 := by
          unfold t1_3
          exact storeWord_frame h2 (pick_sub 0x2010 rfl hT)
      clear_value t1_3
      exact hvSync_frame (Frame.ite (wr_frame h_t1_3 (pick_sub 0x100 rfl hT)) h_t1_3) (pick_sub 0x19e81 rfl hT)) (idx_sub [1, 3, 2, 6, 5, 14, 15, 17] rfl hT)

/-- What State.hvPermit may change. -/
def hvPermit_T : List Piece :=
  [.ctr .hapt, .ctr .pot, .err .pot, .err .safe, .fld (HDR.dirty .safe), .fld (HDR.ev_raw .pot), .fld (HDR.ev_raw .safe), .fld (HDR.ev_raw .surf),
   .fld HAPT.BOOST_STAT.on, .fld SURF.HV_STAT.on, .fld SURF.HV_STAT.why, .hapt, .reg .safe 0x114, .resp, .sent, .surf, .world]

theorem hvPermit_frame {LL rr s w v} (h_s : Frame LL rr s) (hT : Cov hvPermit_T LL) :
    Frame LL rr (State.hvPermit s w v) := by
  delta State.hvPermit
  exact onWrite_frame h_s (fun t1 h2 => hvSync_frame (storeWord_frame h2 (pick_sub 0x1010 rfl hT)) (pick_sub 0xcf81 rfl hT)) (pick_sub 0x1606e rfl hT)

/-- What State.surfEvent may change. -/
def surfEvent_T : List Piece :=
  [.evSeq, .events]

theorem surfEvent_frame {LL rr s p code val} (h_s : Frame LL rr s) (hT : Cov surfEvent_T LL) :
    Frame LL rr (State.surfEvent s p code val) := by
  delta State.surfEvent
  exact eventPage_frame h_s (pick_sub 0x3 rfl hT)

/-- What State.wearTell may change. -/
def wearTell_T : List Piece :=
  [.evSeq, .events, .fld (HDR.ev_raw .surf), .fld SURF.CH_STAT.service_due, .fld SURF.CH_STAT.wear_warn, .sent]

theorem wearTell_frame {LL rr s p n} (h_s : Frame LL rr s) (hT : Cov wearTell_T LL) :
    Frame LL rr (State.wearTell s p n) := by
  delta State.wearTell
  extract_lets c_1 s1_2
  have h_s1_2 : Frame LL rr s1_2 := by
      unfold s1_2
      exact Frame.ite (surfEvent_frame (raise_frame (wr_frame h_s (pick_sub 0x10 rfl hT)) (pick_sub 0x24 rfl hT)) (pick_sub 0x3 rfl hT)) h_s
  clear_value s1_2
  exact Frame.ite (surfEvent_frame (raise_frame (wr_frame h_s1_2 (pick_sub 0x8 rfl hT)) (pick_sub 0x24 rfl hT)) (pick_sub 0x3 rfl hT)) h_s1_2

/-- What State.authDone may change. -/
def authDone_T : List Piece :=
  [.ctr .hapt, .ctr .surf, .evSeq, .events, .fld (HDR.ev_raw .surf), .fld HAPT.BOOST_STAT.on, .fld SURF.CH_STAT.service_due,
   .fld SURF.CH_STAT.wear_warn, .fld SURF.HV_STAT.on, .fld SURF.HV_STAT.why, .fld SURF.SURF_STAT.auth, .fld SURF.SURF_STAT.state,
   .fld TOUCH.TILE_STAT.state, .hapt, .sent, .surf]

theorem authDone_frame {LL rr s p sig} (h_s : Frame LL rr s) (hT : Cov authDone_T LL) :
    Frame LL rr (State.authDone s p sig) := by
  delta State.authDone
  extract_lets k_1 d_2 ok_3 s1_4 s2_5 s3_6 s4_7 u_8 s5_9
  have h_s1_4 : Frame LL rr s1_4 := by
      unfold s1_4
      exact wr_frame (wr_frame h_s (pick_sub 0x400 rfl hT)) (pick_sub 0x800 rfl hT)
  have h_s2_5 : Frame LL rr s2_5 := by
      unfold s2_5
      exact Frame.ite h_s1_4 (surfEvent_frame (raise_frame (count_frame h_s1_4 (pick_sub 0x2 rfl hT)) (pick_sub 0x4010 rfl hT)) (pick_sub 0xc rfl hT))
  have h_s3_6 : Frame LL rr s3_6 := by
      unfold s3_6
      exact raise_frame (count_frame h_s2_5 (pick_sub 0x2 rfl hT)) (pick_sub 0x4010 rfl hT)
  have h_s4_7 : Frame LL rr s4_7 := by
      unfold s4_7
      exact Frame.foldl h_s3_6 (fun t10 x11 h12 => wearTell_frame h12 (pick_sub 0x40dc rfl hT))
  have h_s5_9 : Frame LL rr s5_9 := by
      unfold s5_9
      exact Frame.ite h_s4_7 (setSurf_frame h_s4_7 (pick_sub 0x8000 rfl hT))
  clear_value s1_4 s2_5 s3_6 s4_7 s5_9
  exact Frame.ite h_s (hvSync_frame (touchCheck_frame h_s5_9 (pick_sub 0x1000 rfl hT)) (pick_sub 0xe331 rfl hT))

/-- What State.calEnd may change. -/
def calEnd_T : List Piece :=
  [.ctr .hapt, .fld (HDR.ev_raw .surf), .fld HAPT.BOOST_STAT.on, .fld SURF.HV_STAT.on, .fld SURF.HV_STAT.why, .hapt, .sent, .surf]

theorem calEnd_frame {LL rr s p} (h_s : Frame LL rr s) (hT : Cov calEnd_T LL) :
    Frame LL rr (State.calEnd s p) := by
  delta State.calEnd
  exact hvSync_frame (setSurf_frame h_s (pick_sub 0x80 rfl hT)) (pick_sub 0xff rfl hT)

/-- What State.calFallback may change. -/
def calFallback_T : List Piece :=
  [.fld SURF.CH_CAL.source, .surf]

theorem calFallback_frame {LL rr s p n} (h_s : Frame LL rr s) (hT : Cov calFallback_T LL) :
    Frame LL rr (State.calFallback s p n) := by
  delta State.calFallback
  extract_lets k_1
  split
  · exact wr_frame (setSurf_frame h_s (pick_sub 0x2 rfl hT)) (pick_sub 0x1 rfl hT)
  · exact wr_frame (setSurf_frame h_s (pick_sub 0x2 rfl hT)) (pick_sub 0x1 rfl hT)

/-- What State.calStep may change. -/
def calStep_T : List Piece :=
  [.ctr .hapt, .ctr .surf, .evSeq, .events, .fld (HDR.ev_raw .surf), .fld HAPT.BOOST_STAT.on, .fld SURF.CH_CAL.drift, .fld SURF.CH_CAL.source,
   .fld SURF.CH_CAL.status, .fld SURF.CH_RES.f_res, .fld SURF.CH_RES.q, .fld SURF.CH_RES2.cap_nf, .fld SURF.CH_RES2.f_ring, .fld SURF.HV_STAT.on,
   .fld SURF.HV_STAT.why, .hapt, .sent, .surf]

theorem calStep_frame {LL rr s p got} (h_s : Frame LL rr s) (hT : Cov calStep_T LL) :
    Frame LL rr (State.calStep s p got) := by
  delta State.calStep
  extract_lets k_1 c_2 s1_3 found_4 u_5 s2_6 s3_7 u_8
  have h_s1_3 : Frame LL rr s1_3 := by
      unfold s1_3
      split
      · exact h_s
      · extract_lets drift_15
        exact wrB_frame (wr_frame (wr_frame (wr_frame (wr_frame h_s (pick_sub 0x200 rfl hT)) (pick_sub 0x400 rfl hT)) (pick_sub 0x1000 rfl hT)) (pick_sub 0x800 rfl hT)) (pick_sub 0x40 rfl hT)
  have h_s2_6 : Frame LL rr s2_6 := by
      unfold s2_6
      exact Frame.ite (wr_frame (wr_frame (setSurf_frame h_s1_3 (pick_sub 0x20000 rfl hT)) (pick_sub 0x100 rfl hT)) (pick_sub 0x80 rfl hT)) (surfEvent_frame (calFallback_frame (wr_frame h_s1_3 (pick_sub 0x100 rfl hT)) (pick_sub 0x20080 rfl hT)) (pick_sub 0xc rfl hT))
  have h_s3_7 : Frame LL rr s3_7 := by
      unfold s3_7
      exact slewNow_frame (count_frame h_s2_6 (pick_sub 0x2 rfl hT)) (pick_sub 0x8000 rfl hT)
  clear_value s1_3 s2_6 s3_7
  exact Frame.ite h_s (Frame.ite (raise_frame (calEnd_frame (Frame.foldl h_s (fun t16 x17 h18 => calFallback_frame (wr_frame h18 (pick_sub 0x100 rfl hT)) (pick_sub 0x20080 rfl hT))) (pick_sub 0x3e031 rfl hT)) (pick_sub 0x10010 rfl hT)) (Frame.ite (raise_frame (calEnd_frame h_s3_7 (pick_sub 0x3e031 rfl hT)) (pick_sub 0x10010 rfl hT)) (setSurf_frame h_s3_7 (pick_sub 0x20000 rfl hT))))

/-- What State.hapDrive may change. -/
def hapDrive_T : List Piece :=
  [.ctr .surf, .hapt, .surf]

theorem hapDrive_frame {LL rr s p v} (h_s : Frame LL rr s) (hT : Cov hapDrive_T LL) :
    Frame LL rr (State.hapDrive s p v) := by
  delta State.hapDrive
  extract_lets ch_1 lv_2 k_3 slew_4 hot_5 phase_6 s1_7
  have h_s1_7 : Frame LL rr s1_7 := by
      unfold s1_7
      exact setSurf_frame h_s (pick_sub 0x4 rfl hT)
  clear_value s1_7
  exact Frame.ite (setSurf_frame h_s (pick_sub 0x4 rfl hT)) (Frame.ite (slewNow_frame (count_frame h_s1_7 (pick_sub 0x1 rfl hT)) (pick_sub 0x2 rfl hT)) h_s1_7)

/-- What State.setHapFeed may change. -/
def setHapFeed_T : List Piece :=
  [.fld SURF.STREAM_STAT.fill, .fld SURF.STREAM_STAT.state, .surf]

theorem setHapFeed_frame {LL rr s p f} (h_s : Frame LL rr s) (hT : Cov setHapFeed_T LL) :
    Frame LL rr (State.setHapFeed s p f) := by
  delta State.setHapFeed
  exact wr_frame (wr_frame (setSurf_frame h_s (pick_sub 0x4 rfl hT)) (pick_sub 0x2 rfl hT)) (pick_sub 0x1 rfl hT)

/-- What State.hapFresh may change. -/
def hapFresh_T : List Piece :=
  [.fld SURF.STREAM_STAT.fill, .fld SURF.STREAM_STAT.state, .surf]

theorem hapFresh_frame {LL rr s p f} (h_s : Frame LL rr s) (hT : Cov hapFresh_T LL) :
    Frame LL rr (State.hapFresh s p f) := by
  delta State.hapFresh
  exact setHapFeed_frame (setSurf_frame h_s (pick_sub 0x4 rfl hT)) (pick_sub 0x7 rfl hT)

/-- What State.hapFill may change. -/
def hapFill_T : List Piece :=
  [.ctr .dram, .ctr .dramq, .ctr .pot, .ctr .rsched, .dram, .err .dram, .err .pot, .fld (HDR.ev_raw .dram), .fld (HDR.ev_raw .pot),
   .fld RSCHED.PIN_COUNT.pinned, .fld SURF.STREAM_STAT.fill, .fld SURF.STREAM_STAT.state, .mem, .pot, .rings, .sent, .surf]

theorem hapFill_frame {LL rr s p} (h_s : Frame LL rr s) (hT : Cov hapFill_T LL) :
    Frame LL rr (State.hapFill s p) := by
  delta State.hapFill
  extract_lets f_1 on_2
  exact Frame.ite h_s (by
      split
      · rename_i a6
        have h7 := FrameP.eq (L := LL) (r := rr) a6 (feedFill_frame h_s (pick_sub 0xf1ef rfl hT))
        split
        · rename_i a11
          have h12 := FrameP.eq (L := LL) (r := rr) a11 (feedEnds_frame h7 (pick_sub 0xf3ff rfl hT))
          exact Frame.ite (hapFresh_frame h12 (pick_sub 0x10c00 rfl hT)) (setHapFeed_frame h12 (pick_sub 0x10c00 rfl hT)))

/-- What State.hapTickPort may change. -/
def hapTickPort_T : List Piece :=
  [.ctr .dram, .ctr .dramq, .ctr .pot, .ctr .rsched, .ctr .surf, .dram, .err .dram, .err .pot, .evSeq, .events, .fld (HDR.ev_raw .dram),
   .fld (HDR.ev_raw .pot), .fld (HDR.ev_raw .surf), .fld RSCHED.PIN_COUNT.pinned, .fld SURF.STREAM_STAT.fill, .fld SURF.STREAM_STAT.state, .hapt,
   .mem, .pot, .rings, .sent, .surf]

theorem hapTickPort_frame {LL rr s0 p} (h_s0 : Frame LL rr s0) (hT : Cov hapTickPort_T LL) :
    Frame LL rr (State.hapTickPort s0 p) := by
  delta State.hapTickPort
  extract_lets s_1 f_2 t_3 play_4 k_5 t_6
  have h_s_1 : Frame LL rr s_1 := by
      unfold s_1
      exact hapFill_frame h_s0 (pick_sub 0x3eecef rfl hT)
  have h_t_3 : Frame LL rr t_3 := by
      unfold t_3
      exact event_frame (raise_frame (count_frame h_s_1 (pick_sub 0x10 rfl hT)) (pick_sub 0x101000 rfl hT)) (pick_sub 0x300 rfl hT)
  have h_play_4 : ∀ y0, Frame LL rr (play_4 y0) := by
      intro x7
      unfold play_4
      split
      · exact hapDrive_frame (setHapFeed_frame h_t_3 (pick_sub 0x20c000 rfl hT)) (pick_sub 0x210010 rfl hT)
      · extract_lets t_15
        have h_t_15 : Frame LL rr t_15 := by
            unfold t_15
            exact hapDrive_frame (count_frame h_s_1 (pick_sub 0x10 rfl hT)) (pick_sub 0x210010 rfl hT)
        clear_value t_15
        split
        · rename_i a19
          have h20 := FrameP.eq (L := LL) (r := rr) a19 (feedEnds_frame h_t_15 (pick_sub 0x1e2cef rfl hT))
          exact setHapFeed_frame h20 (pick_sub 0x20c000 rfl hT)
  have h_t_6 : Frame LL rr t_6 := by
      unfold t_6
      exact hapDrive_frame h_s_1 (pick_sub 0x210010 rfl hT)
  clear_value s_1 t_3 play_4 t_6
  exact Frame.ite (Frame.ite (h_play_4 _) (hapDrive_frame h_s_1 (pick_sub 0x210010 rfl hT))) (Frame.ite (Frame.ite (hapDrive_frame (setHapFeed_frame h_s_1 (pick_sub 0x20c000 rfl hT)) (pick_sub 0x210010 rfl hT)) (h_play_4 _)) (Frame.ite (Frame.ite (Frame.ite (setHapFeed_frame h_t_6 (pick_sub 0x20c000 rfl hT)) (hapFresh_frame h_t_6 (pick_sub 0x20c000 rfl hT))) (setHapFeed_frame h_t_6 (pick_sub 0x20c000 rfl hT))) (hapDrive_frame h_s_1 (pick_sub 0x210010 rfl hT))))

/-- What State.idTake may change. -/
def idTake_T : List Piece :=
  [.evSeq, .events, .fld (HDR.ev_raw .surf), .fld SURF.CH_WEAR.count, .fld SURF.ID_INFO.trk, .fld SURF.ID_INFO.wake_ok, .fld SURF.ID_SERIAL.serial,
   .fld SURF.SURF_STAT.wear_unknown, .fld SURF.WEAR_SEQ.seq, .free, .sent, .surf]

theorem idTake_frame {LL rr s p head ref a b} (h_s : Frame LL rr s) (hT : Cov idTake_T LL) :
    Frame LL rr (State.idTake s p head ref a b) := by
  delta State.idTake
  extract_lets T_1 R_2 K_3 refOk_4 resD_5 resOk_6 newB_7 wear_8 cert_9
  split
  · rename_i a13
    have h14 := FrameR.eq (L := LL) (r := rr) a13 (draws_frame h_s (pick_sub 0x200 rfl hT))
    extract_lets u_15 s1_16 s2_17 s3_18 s4_19 s5_20
    have h_s1_16 : Frame LL rr s1_16 := by
        unfold s1_16
        exact setSurf_frame h14 (pick_sub 0x800 rfl hT)
    have h_s2_17 : Frame LL rr s2_17 := by
        unfold s2_17
        exact wr_frame (wr_frame (wr_frame h_s1_16 (pick_sub 0x10 rfl hT)) (pick_sub 0x20 rfl hT)) (pick_sub 0x100 rfl hT)
    have h_s3_18 : Frame LL rr s3_18 := by
        unfold s3_18
        exact Frame.foldl h_s2_17 (fun t21 x22 h23 => wr_frame h23 (pick_sub 0x40 rfl hT))
    have h_s4_19 : Frame LL rr s4_19 := by
        unfold s4_19
        exact Frame.foldl h_s3_18 (fun t24 x25 h26 => wr_frame h26 (pick_sub 0x8 rfl hT))
    have h_s5_20 : Frame LL rr s5_20 := by
        unfold s5_20
        exact Frame.ite h_s4_19 (surfEvent_frame (raise_frame h_s4_19 (pick_sub 0x404 rfl hT)) (pick_sub 0x3 rfl hT))
    clear_value s1_16 s2_17 s3_18 s4_19 s5_20
    exact Frame.ite h_s5_20 (surfEvent_frame (raise_frame (wr_frame h_s5_20 (pick_sub 0x80 rfl hT)) (pick_sub 0x404 rfl hT)) (pick_sub 0x3 rfl hT))

/-- What State.stepDown may change. -/
def stepDown_T : List Piece :=
  [.ctr .hapt, .evSeq, .events, .fld (HDR.ev_raw .hapt), .fld HAPT.THR_MASK.channels, .fld SURF.CH_STAT.throttle, .hapt, .sent]

theorem stepDown_frame {LL rr s c} (h_s : Frame LL rr s) (hT : Cov stepDown_T LL) :
    Frame LL rr (State.stepDown s c) := by
  delta State.stepDown
  extract_lets p_1 s1_2 u_3 s2_4 s3_5 u_6
  have h_s1_2 : Frame LL rr s1_2 := by
      unfold s1_2
      exact slewNow_frame (count_frame (wr_frame h_s (pick_sub 0x20 rfl hT)) (pick_sub 0x1 rfl hT)) (pick_sub 0x40 rfl hT)
  have h_s2_4 : Frame LL rr s2_4 := by
      unfold s2_4
      exact Frame.ite h_s1_2 (raise_frame (count_frame (Frame.upd h_s1_2 (m_hapt := .inl (nth 6 rfl hT))) (pick_sub 0x1 rfl hT)) (pick_sub 0x88 rfl hT))
  have h_s3_5 : Frame LL rr s3_5 := by
      unfold s3_5
      exact throttleShow_frame h_s2_4 (pick_sub 0xd8 rfl hT)
  clear_value s1_2 s2_4 s3_5
  exact Frame.ite h_s3_5 (surfEvent_frame (Frame.upd h_s3_5 (m_hapt := .inl (nth 6 rfl hT))) (pick_sub 0x6 rfl hT))

/-- What State.stepUp may change. -/
def stepUp_T : List Piece :=
  [.fld (HDR.ev_raw .hapt), .fld HAPT.THR_MASK.channels, .fld SURF.CH_STAT.throttle, .hapt, .sent]

theorem stepUp_frame {LL rr s} (h_s : Frame LL rr s) (hT : Cov stepUp_T LL) :
    Frame LL rr (State.stepUp s) := by
  delta State.stepUp
  split
  · exact throttleShow_frame (slewNow_frame (wr_frame h_s (pick_sub 0x4 rfl hT)) (pick_sub 0x8 rfl hT)) (pick_sub 0x1b rfl hT)
  · exact h_s

/-- What State.surfDetach may change. -/
def surfDetach_T : List Piece :=
  [.ctr .hapt, .evSeq, .events, .fld (HDR.ev_raw .surf), .fld HAPT.BOOST_STAT.on, .fld SURF.HV_STAT.on, .fld SURF.HV_STAT.why,
   .fld SURF.SURF_STAT.present, .fld SURF.SURF_STAT.state, .fld TOUCH.KEY_STAT.pressed, .fld TOUCH.TILE_STAT.state, .hapt, .pins, .sent, .surf,
   .touch]

theorem surfDetach_frame {LL rr s0 p} (h_s0 : Frame LL rr s0) (hT : Cov surfDetach_T LL) :
    Frame LL rr (State.surfDetach s0 p) := by
  delta State.surfDetach
  extract_lets u_1 s_2 st_3 s1_4 u_5 s2_6
  have h_s_2 : Frame LL rr s_2 := by
      unfold s_2
      exact wr_frame (Frame.upd h_s0 (m_pins := .inl (nth 12 rfl hT))) (pick_sub 0x80 rfl hT)
  have h_s1_4 : Frame LL rr s1_4 := by
      unfold s1_4
      exact wr_frame (touchDetach_frame h_s_2 (pick_sub 0x8600 rfl hT)) (pick_sub 0x100 rfl hT)
  have h_s2_6 : Frame LL rr s2_6 := by
      unfold s2_6
      exact hvSync_frame (setSurf_frame h_s1_4 (pick_sub 0x4000 rfl hT)) (pick_sub 0x6879 rfl hT)
  exact Frame.ite (Frame.ite (surfEvent_frame (raise_frame h_s_2 (pick_sub 0x2008 rfl hT)) (pick_sub 0x6 rfl hT)) h_s_2) (surfEvent_frame (raise_frame h_s2_6 (pick_sub 0x2008 rfl hT)) (pick_sub 0x6 rfl hT))

/-- What State.throttleStep may change. -/
def throttleStep_T : List Piece :=
  [.ctr .hapt, .evSeq, .events, .fld (HDR.ev_raw .hapt), .fld HAPT.BOOST_STAT.vout, .fld HAPT.DIE_TEMP.temp, .fld HAPT.PWR_NOW.mw,
   .fld HAPT.THR_MASK.channels, .fld SURF.CH_STAT.throttle, .hapt, .sent]

theorem throttleStep_frame {LL rr s mw vout temp pw} (h_s : Frame LL rr s) (hT : Cov throttleStep_T LL) :
    Frame LL rr (State.throttleStep s mw vout temp pw) := by
  delta State.throttleStep
  extract_lets s0_1 e_2 u_3 s1_4 budget_5 die_6 lim_7 riseLim_8 s2_9 u_10 s3_11 fine_12 g_13 up_14 u_15 s4_16
  have h_s0_1 : Frame LL rr s0_1 := by
      unfold s0_1
      exact wr_frame (wr_frame (wr_frame h_s (pick_sub 0x40 rfl hT)) (pick_sub 0x10 rfl hT)) (pick_sub 0x20 rfl hT)
  have h_s1_4 : Frame LL rr s1_4 := by
      unfold s1_4
      exact count_frame (Frame.upd h_s0_1 (m_hapt := .inl (nth 9 rfl hT))) (pick_sub 0x1 rfl hT)
  have h_s2_9 : Frame LL rr s2_9 := by
      unfold s2_9
      exact Frame.ite (by
          split
          · exact stepDown_frame h_s1_4 (pick_sub 0x78f rfl hT)
          · exact h_s1_4) h_s1_4
  have h_s3_11 : Frame LL rr s3_11 := by
      unfold s3_11
      split
      · exact h_s2_9
      · extract_lets rises_25 t_26
        have h_t_26 : Frame LL rr t_26 := by
            unfold t_26
            exact Frame.upd h_s2_9 (m_hapt := .inl (nth 9 rfl hT))
        clear_value t_26
        exact Frame.foldl h_t_26 (fun t27 x28 h29 => Frame.ite (stepDown_frame h29 (pick_sub 0x78f rfl hT)) h29)
  have h_s4_16 : Frame LL rr s4_16 := by
      unfold s4_16
      exact Frame.upd h_s3_11 (m_hapt := .inl (nth 9 rfl hT))
  clear_value s0_1 s1_4 s2_9 s3_11 s4_16
  exact Frame.ite (stepUp_frame h_s4_16 (pick_sub 0x788 rfl hT)) h_s4_16

/-- What State.wearStep may change. -/
def wearStep_T : List Piece :=
  [.evSeq, .events, .fld (HDR.ev_raw .surf), .fld SURF.CH_STAT.service_due, .fld SURF.CH_STAT.wear_warn, .fld SURF.CH_WEAR.count, .sent, .surf]

theorem wearStep_frame {LL rr s p n} (h_s : Frame LL rr s) (hT : Cov wearStep_T LL) :
    Frame LL rr (State.wearStep s p n) := by
  delta State.wearStep
  extract_lets k_1 hot_2 run_3 idle_4 add_5 c_6 s1_7
  have h_s1_7 : Frame LL rr s1_7 := by
      unfold s1_7
      exact setSurf_frame h_s (pick_sub 0x80 rfl hT)
  clear_value s1_7
  exact Frame.ite (setSurf_frame h_s (pick_sub 0x80 rfl hT)) (wearTell_frame (wr_frame h_s1_7 (pick_sub 0x20 rfl hT)) (pick_sub 0x5f rfl hT))

/-- What execAuthSignDone may change. -/
def execAuthSignDone_T : List Piece :=
  [.ctr .hapt, .ctr .surf, .evSeq, .events, .fld (HDR.ev_raw .surf), .fld HAPT.BOOST_STAT.on, .fld SURF.CH_STAT.service_due,
   .fld SURF.CH_STAT.wear_warn, .fld SURF.HV_STAT.on, .fld SURF.HV_STAT.why, .fld SURF.SURF_STAT.auth, .fld SURF.SURF_STAT.state,
   .fld TOUCH.TILE_STAT.state, .hapt, .sent, .surf]

theorem execAuthSignDone_frame {LL rr p sig s} (h_s : Frame LL rr s) (hT : Cov execAuthSignDone_T LL) :
    FrameN LL rr (execAuthSignDone p sig s) := by
  delta execAuthSignDone
  exact FrameN.next (authDone_frame h_s (pick_sub 0xffff rfl hT))

/-- What execBoostClear may change. -/
def execBoostClear_T : List Piece :=
  [.ctr .hapt, .ctr .pot, .err .hapt, .err .pot, .fld (HDR.dirty .hapt), .fld (HDR.ev_raw .hapt), .fld (HDR.ev_raw .pot), .fld (HDR.ev_raw .surf),
   .fld HAPT.BOOST_STAT.fault, .fld HAPT.BOOST_STAT.on, .fld SURF.HV_STAT.on, .fld SURF.HV_STAT.why, .hapt, .reg .hapt 0x100, .resp, .sent, .surf,
   .world]

theorem execBoostClear_frame {LL rr w v s} (h_s : Frame LL rr s) (hT : Cov execBoostClear_T LL) :
    FrameN LL rr (execBoostClear w v s) := by
  delta execBoostClear
  exact FrameN.next (boostCtrl_frame h_s (pick_sub 0x3ffff rfl hT))

/-- What execHaptCalStepDone may change. -/
def execHaptCalStepDone_T : List Piece :=
  [.ctr .hapt, .ctr .surf, .evSeq, .events, .fld (HDR.ev_raw .surf), .fld HAPT.BOOST_STAT.on, .fld SURF.CH_CAL.drift, .fld SURF.CH_CAL.source,
   .fld SURF.CH_CAL.status, .fld SURF.CH_RES.f_res, .fld SURF.CH_RES.q, .fld SURF.CH_RES2.cap_nf, .fld SURF.CH_RES2.f_ring, .fld SURF.HV_STAT.on,
   .fld SURF.HV_STAT.why, .hapt, .sent, .surf]

theorem execHaptCalStepDone_frame {LL rr p got s} (h_s : Frame LL rr s) (hT : Cov execHaptCalStepDone_T LL) :
    FrameN LL rr (execHaptCalStepDone p got s) := by
  delta execHaptCalStepDone
  exact FrameN.next (calStep_frame h_s (pick_sub 0x3ffff rfl hT))

/-- What execHaptHvFault may change. -/
def execHaptHvFault_T : List Piece :=
  [.ctr .hapt, .evSeq, .events, .faults, .fld (HDR.ev_raw .hapt), .fld (HDR.ev_raw .surf), .fld HAPT.BOOST_STAT.fault, .fld HAPT.BOOST_STAT.on,
   .fld SURF.HV_STAT.on, .fld SURF.HV_STAT.why, .hapt, .sent, .surf]

theorem execHaptHvFault_frame {LL rr s} (h_s : Frame LL rr s) (hT : Cov execHaptHvFault_T LL) :
    FrameN LL rr (execHaptHvFault s) := by
  delta execHaptHvFault
  exact FrameN.next (Frame.ite h_s (by
      extract_lets s1_1
      have h_s1_1 : Frame LL rr s1_1 := by
          unfold s1_1
          exact hvSync_frame (raise_frame (count_frame (wr_frame h_s (pick_sub 0x40 rfl hT)) (pick_sub 0x1 rfl hT)) (pick_sub 0x810 rfl hT)) (pick_sub 0x1fa1 rfl hT)
      clear_value s1_1
      exact eventPage_frame (faultLine_frame h_s1_1 (pick_sub 0x8 rfl hT)) (pick_sub 0x6 rfl hT)))

/-- What execHaptOvercurrent may change. -/
def execHaptOvercurrent_T : List Piece :=
  [.ctr .hapt, .ctr .surf, .evSeq, .events, .faults, .fld (HDR.ev_raw .surf), .fld HAPT.BOOST_STAT.on, .fld SURF.CH_STAT.oc, .fld SURF.HV_STAT.on,
   .fld SURF.HV_STAT.why, .hapt, .sent, .surf]

theorem execHaptOvercurrent_frame {LL rr p n s} (h_s : Frame LL rr s) (hT : Cov execHaptOvercurrent_T LL) :
    FrameN LL rr (execHaptOvercurrent p n s) := by
  delta execHaptOvercurrent
  extract_lets k_1 s1_2
  have h_s1_2 : Frame LL rr s1_2 := by
      unfold s1_2
      exact hvSync_frame (raise_frame (count_frame (wr_frame h_s (pick_sub 0x80 rfl hT)) (pick_sub 0x2 rfl hT)) (pick_sub 0x820 rfl hT)) (pick_sub 0x1f61 rfl hT)
  clear_value s1_2
  exact FrameN.next (Frame.ite h_s (surfEvent_frame (faultLine_frame h_s1_2 (pick_sub 0x10 rfl hT)) (pick_sub 0xc rfl hT)))

/-- What execHaptStreamEnable may change. -/
def execHaptStreamEnable_T : List Piece :=
  [.ctr .pot, .err .pot, .err .surf, .fld (HDR.dirty .surf), .fld (HDR.ev_raw .pot), .fld (HDR.ev_raw .surf), .reg .surf 0x120, .resp, .sent,
   .world]

theorem execHaptStreamEnable_frame {LL rr w p v s} (h_s : Frame LL rr s) (hT : Cov execHaptStreamEnable_T LL) :
    FrameN LL rr (execHaptStreamEnable w p v s) := by
  delta execHaptStreamEnable
  exact FrameN.next (streamCfg_frame h_s (pick_sub 0x3ff rfl hT))

/-- What execHaptThrottleStep may change. -/
def execHaptThrottleStep_T : List Piece :=
  [.ctr .hapt, .evSeq, .events, .fld (HDR.ev_raw .hapt), .fld HAPT.BOOST_STAT.vout, .fld HAPT.DIE_TEMP.temp, .fld HAPT.PWR_NOW.mw,
   .fld HAPT.THR_MASK.channels, .fld SURF.CH_STAT.throttle, .hapt, .sent]

theorem execHaptThrottleStep_frame {LL rr mw vout temp pw s} (h_s : Frame LL rr s) (hT : Cov execHaptThrottleStep_T LL) :
    FrameN LL rr (execHaptThrottleStep mw vout temp pw s) := by
  delta execHaptThrottleStep
  exact FrameN.next (throttleStep_frame h_s (pick_sub 0x7ff rfl hT))

/-- What execHaptTick may change. -/
def execHaptTick_T : List Piece :=
  [.ctr .dram, .ctr .dramq, .ctr .pot, .ctr .rsched, .ctr .surf, .dram, .err .dram, .err .pot, .evSeq, .events, .fld (HDR.ev_raw .dram),
   .fld (HDR.ev_raw .pot), .fld (HDR.ev_raw .surf), .fld RSCHED.PIN_COUNT.pinned, .fld SURF.STREAM_STAT.fill, .fld SURF.STREAM_STAT.state, .hapt,
   .mem, .pot, .rings, .sent, .surf]

theorem execHaptTick_frame {LL rr s} (h_s : Frame LL rr s) (hT : Cov execHaptTick_T LL) :
    FrameN LL rr (execHaptTick s) := by
  delta execHaptTick
  exact FrameN.next (Frame.foldl h_s (fun t1 x2 h3 => hapTickPort_frame h3 (pick_sub 0x3fffff rfl hT)))

/-- What execHvClearOc may change. -/
def execHvClearOc_T : List Piece :=
  [.ctr .hapt, .ctr .pot, .err .pot, .err .surf, .fld (HDR.dirty .surf), .fld (HDR.ev_raw .pot), .fld (HDR.ev_raw .surf), .fld HAPT.BOOST_STAT.on,
   .fld SURF.CH_STAT.oc, .fld SURF.HV_STAT.on, .fld SURF.HV_STAT.why, .hapt, .reg .surf 0x118, .resp, .sent, .surf, .world]

theorem execHvClearOc_frame {LL rr w p v s} (h_s : Frame LL rr s) (hT : Cov execHvClearOc_T LL) :
    FrameN LL rr (execHvClearOc w p v s) := by
  delta execHvClearOc
  exact FrameN.next (hvCtrl_frame h_s (pick_sub 0x1ffff rfl hT))

/-- What execHvEnableWrite may change. -/
def execHvEnableWrite_T : List Piece :=
  [.ctr .hapt, .ctr .pot, .err .pot, .err .surf, .fld (HDR.dirty .surf), .fld (HDR.ev_raw .pot), .fld (HDR.ev_raw .surf), .fld HAPT.BOOST_STAT.on,
   .fld SURF.CH_STAT.oc, .fld SURF.HV_STAT.on, .fld SURF.HV_STAT.why, .hapt, .reg .surf 0x118, .resp, .sent, .surf, .world]

theorem execHvEnableWrite_frame {LL rr w p v s} (h_s : Frame LL rr s) (hT : Cov execHvEnableWrite_T LL) :
    FrameN LL rr (execHvEnableWrite w p v s) := by
  delta execHvEnableWrite
  exact FrameN.next (hvCtrl_frame h_s (pick_sub 0x1ffff rfl hT))

/-- What execPortPowerOff may change. -/
def execPortPowerOff_T : List Piece :=
  [.ctr .hapt, .ctr .pot, .err .pot, .err .surf, .fld (HDR.dirty .surf), .fld (HDR.ev_raw .pot), .fld (HDR.ev_raw .surf), .fld HAPT.BOOST_STAT.on,
   .fld SURF.CH_CAL.drift, .fld SURF.CH_CAL.source, .fld SURF.CH_CAL.status, .fld SURF.CH_RES.f_res, .fld SURF.CH_RES.q, .fld SURF.CH_RES2.cap_nf,
   .fld SURF.CH_RES2.f_ring, .fld SURF.CH_STAT.oc, .fld SURF.CH_STAT.service_due, .fld SURF.CH_STAT.wear_warn, .fld SURF.CH_WEAR.count,
   .fld SURF.HV_STAT.on, .fld SURF.HV_STAT.why, .fld SURF.ID_INFO.trk, .fld SURF.ID_INFO.wake_ok, .fld SURF.ID_SERIAL.serial,
   .fld SURF.SURF_STAT.auth, .fld SURF.SURF_STAT.state, .fld SURF.SURF_STAT.wear_unknown, .fld SURF.SURF_STAT.wear_write_fail,
   .fld SURF.WEAR_SEQ.seq, .fld TOUCH.TILE_STAT.state, .hapt, .reg .surf 0x100, .resp, .sent, .surf, .touch, .world]

theorem execPortPowerOff_frame {LL rr w p s} (h_s : Frame LL rr s) (hT : Cov execPortPowerOff_T LL) :
    FrameN LL rr (execPortPowerOff w p s) := by
  delta execPortPowerOff
  exact FrameN.next (portCtrl_frame h_s (pick_sub 0x1fffffffff rfl hT))

/-- What execPortPowerOn may change. -/
def execPortPowerOn_T : List Piece :=
  [.ctr .hapt, .ctr .pot, .err .pot, .err .surf, .fld (HDR.dirty .surf), .fld (HDR.ev_raw .pot), .fld (HDR.ev_raw .surf), .fld HAPT.BOOST_STAT.on,
   .fld SURF.CH_CAL.drift, .fld SURF.CH_CAL.source, .fld SURF.CH_CAL.status, .fld SURF.CH_RES.f_res, .fld SURF.CH_RES.q, .fld SURF.CH_RES2.cap_nf,
   .fld SURF.CH_RES2.f_ring, .fld SURF.CH_STAT.oc, .fld SURF.CH_STAT.service_due, .fld SURF.CH_STAT.wear_warn, .fld SURF.CH_WEAR.count,
   .fld SURF.HV_STAT.on, .fld SURF.HV_STAT.why, .fld SURF.ID_INFO.trk, .fld SURF.ID_INFO.wake_ok, .fld SURF.ID_SERIAL.serial,
   .fld SURF.SURF_STAT.auth, .fld SURF.SURF_STAT.state, .fld SURF.SURF_STAT.wear_unknown, .fld SURF.SURF_STAT.wear_write_fail,
   .fld SURF.WEAR_SEQ.seq, .fld TOUCH.TILE_STAT.state, .hapt, .reg .surf 0x100, .resp, .sent, .surf, .touch, .world]

theorem execPortPowerOn_frame {LL rr w p s} (h_s : Frame LL rr s) (hT : Cov execPortPowerOn_T LL) :
    FrameN LL rr (execPortPowerOn w p s) := by
  delta execPortPowerOn
  exact FrameN.next (portCtrl_frame h_s (pick_sub 0x1fffffffff rfl hT))

/-- What execResonanceCal may change. -/
def execResonanceCal_T : List Piece :=
  [.ctr .hapt, .ctr .surf, .fld (HDR.ev_raw .surf), .fld HAPT.BOOST_STAT.on, .fld SURF.CH_CAL.source, .fld SURF.CH_CAL.status,
   .fld SURF.HV_STAT.on, .fld SURF.HV_STAT.why, .hapt, .sent, .surf]

theorem execResonanceCal_frame {LL rr p s} (h_s : Frame LL rr s) (hT : Cov execResonanceCal_T LL) :
    FrameN LL rr (execResonanceCal p s) := by
  delta execResonanceCal
  extract_lets n_1 k_2
  exact FrameN.next (Frame.ite h_s (Frame.ite (hvSync_frame (count_frame (setSurf_frame h_s (pick_sub 0x400 rfl hT)) (pick_sub 0x2 rfl hT)) (pick_sub 0x7cd rfl hT)) (calEnd_frame (Frame.foldl h_s (fun t3 x4 h5 => calFallback_frame (wr_frame h5 (pick_sub 0x20 rfl hT)) (pick_sub 0x410 rfl hT))) (pick_sub 0x7cd rfl hT))))

/-- What execSurfDetach may change. -/
def execSurfDetach_T : List Piece :=
  [.ctr .hapt, .evSeq, .events, .fld (HDR.ev_raw .surf), .fld HAPT.BOOST_STAT.on, .fld SURF.HV_STAT.on, .fld SURF.HV_STAT.why,
   .fld SURF.SURF_STAT.present, .fld SURF.SURF_STAT.state, .fld TOUCH.KEY_STAT.pressed, .fld TOUCH.TILE_STAT.state, .hapt, .pins, .sent, .surf,
   .touch]

theorem execSurfDetach_frame {LL rr p s} (h_s : Frame LL rr s) (hT : Cov execSurfDetach_T LL) :
    FrameN LL rr (execSurfDetach p s) := by
  delta execSurfDetach
  exact FrameN.next (surfDetach_frame h_s (pick_sub 0xffff rfl hT))

/-- What execSurfIdReadDone may change. -/
def execSurfIdReadDone_T : List Piece :=
  [.evSeq, .events, .fld (HDR.ev_raw .surf), .fld SURF.CH_WEAR.count, .fld SURF.ID_INFO.trk, .fld SURF.ID_INFO.wake_ok, .fld SURF.ID_SERIAL.serial,
   .fld SURF.SURF_STAT.state, .fld SURF.SURF_STAT.wear_unknown, .fld SURF.WEAR_SEQ.seq, .free, .sent, .surf]

theorem execSurfIdReadDone_frame {LL rr p got a b s} (h_s : Frame LL rr s) (hT : Cov execSurfIdReadDone_T LL) :
    FrameN LL rr (execSurfIdReadDone p got a b s) := by
  delta execSurfIdReadDone
  extract_lets k_1
  exact FrameN.next (Frame.ite h_s (by
      split
      · exact Frame.ite (idTake_frame h_s (pick_sub 0x1f7f rfl hT)) (surfEvent_frame (raise_frame (wr_frame h_s (pick_sub 0x80 rfl hT)) (pick_sub 0x804 rfl hT)) (pick_sub 0x3 rfl hT))
      · exact surfEvent_frame (raise_frame (wr_frame h_s (pick_sub 0x80 rfl hT)) (pick_sub 0x804 rfl hT)) (pick_sub 0x3 rfl hT)))

/-- What execSurfInsert may change. -/
def execSurfInsert_T : List Piece :=
  [.evSeq, .events, .fld (HDR.ev_raw .surf), .fld SURF.SURF_STAT.present, .fld SURF.SURF_STAT.state, .pins, .sent]

theorem execSurfInsert_frame {LL rr p s0} (h_s0 : Frame LL rr s0) (hT : Cov execSurfInsert_T LL) :
    FrameN LL rr (execSurfInsert p s0) := by
  delta execSurfInsert
  extract_lets k_1 u_2 s_3 st_4
  have h_s_3 : Frame LL rr s_3 := by
      unfold s_3
      exact wr_frame (Frame.upd h_s0 (m_pins := .inl (nth 5 rfl hT))) (pick_sub 0x8 rfl hT)
  exact FrameN.next (Frame.ite h_s_3 (surfEvent_frame (raise_frame (Frame.ite (wr_frame h_s_3 (pick_sub 0x10 rfl hT)) h_s_3) (pick_sub 0x44 rfl hT)) (pick_sub 0x3 rfl hT)))

/-- What execWearBlock may change. -/
def execWearBlock_T : List Piece :=
  [.evSeq, .events, .fld (HDR.ev_raw .surf), .fld SURF.CH_STAT.service_due, .fld SURF.CH_STAT.wear_warn, .fld SURF.CH_WEAR.count, .sent, .surf]

theorem execWearBlock_frame {LL rr s} (h_s : Frame LL rr s) (hT : Cov execWearBlock_T LL) :
    FrameN LL rr (execWearBlock s) := by
  delta execWearBlock
  exact FrameN.next (Frame.foldl h_s (fun t1 x2 h3 => Frame.ite (wearStep_frame h3 (pick_sub 0xff rfl hT)) h3))

/-- What execWearRecordWrite may change. -/
def execWearRecordWrite_T : List Piece :=
  [.ctr .hapt, .ctr .surf, .evSeq, .events, .fld (HDR.ev_raw .surf), .fld HAPT.BOOST_STAT.on, .fld SURF.HV_STAT.on, .fld SURF.HV_STAT.why,
   .fld SURF.SURF_STAT.state, .fld SURF.SURF_STAT.wear_write_fail, .fld SURF.WEAR_SEQ.seq, .hapt, .sent, .surf]

theorem execWearRecordWrite_frame {LL rr p ok s} (h_s : Frame LL rr s) (hT : Cov execWearRecordWrite_T LL) :
    FrameN LL rr (execWearRecordWrite p ok s) := by
  delta execWearRecordWrite
  extract_lets n_1 k_2 seq_3 t_4 t_5 s1_6
  have h_t_4 : Frame LL rr t_4 := by
      unfold t_4
      exact count_frame (wr_frame (wr_frame h_s (pick_sub 0x400 rfl hT)) (pick_sub 0x200 rfl hT)) (pick_sub 0x2 rfl hT)
  have h_t_5 : Frame LL rr t_5 := by
      unfold t_5
      exact count_frame (wr_frame h_s (pick_sub 0x200 rfl hT)) (pick_sub 0x2 rfl hT)
  have h_s1_6 : Frame LL rr s1_6 := by
      unfold s1_6
      exact Frame.ite (setSurf_frame h_t_4 (pick_sub 0x2000 rfl hT)) (Frame.ite (setSurf_frame h_t_5 (pick_sub 0x2000 rfl hT)) (surfEvent_frame (raise_frame (setSurf_frame h_t_5 (pick_sub 0x2000 rfl hT)) (pick_sub 0x1010 rfl hT)) (pick_sub 0xc rfl hT)))
  clear_value t_4 t_5 s1_6
  exact FrameN.next (Frame.ite h_s (Frame.ite (portOff_frame h_s1_6 (pick_sub 0x39f1 rfl hT)) h_s1_6))

end Sys2Proof.Laws
end

