-- ==== Sys2Proof/Laws/FrameAudio.lean ====
section
/-! SUPPORT. What the operations and commands of Machine/Audio.lean may change: the parts of each, and that nothing else changes. -/

set_option Elab.async false

namespace Sys2Proof.Laws

open Machine

/-- What State.psetNext may change. -/
def psetNext_T : List Piece :=
  [.fld AUDIO.PSET_INDEX.index]

theorem psetNext_frame {LL rr s} (h_s : Frame LL rr s) (hT : Cov psetNext_T LL) :
    Frame LL rr (State.psetNext s) := by
  delta State.psetNext
  exact wr_frame h_s (pick_sub 0x1 rfl hT)

/-- What State.psetAccess may change. -/
def psetAccess_T : List Piece :=
  [.audio, .ctr .pot, .err .audio, .err .pot, .fld (HDR.ev_raw .audio), .fld (HDR.ev_raw .pot), .fld AUDIO.PSET_INDEX.index, .resp, .sent, .world]

theorem psetAccess_frame {LL rr s w v} (h_s : Frame LL rr s) (hT : Cov psetAccess_T LL) :
    Frame LL rr (State.psetAccess s w v) := by
  delta State.psetAccess
  extract_lets k_1
  split
  · split
    · rename_i a5
      have h6 := FrameC.eqBad (L := LL) (r := rr) a5 (reach_frame h_s (idx_sub [1, 3, 2, 5, 4, 7, 8] rfl hT))
      exact h6
    · rename_i a9
      have h10 := FrameC.eqGood (L := LL) (r := rr) a9 (reach_frame h_s (idx_sub [1, 3, 2, 5, 4, 7, 8] rfl hT))
      exact Frame.ite (refuse_frame h10 (pick_sub 0x194 rfl hT)) (okResp_frame (psetNext_frame h10 (pick_sub 0x40 rfl hT)) (pick_sub 0x80 rfl hT))
  · exact onWrite_frame h_s (fun t13 h14 => Frame.ite (refuse_frame h14 (pick_sub 0x194 rfl hT)) (Frame.ite (refuse_frame h14 (pick_sub 0x194 rfl hT)) (psetNext_frame (Frame.upd h14 (m_audio := .inl (nth 0 rfl hT))) (pick_sub 0x40 rfl hT)))) (idx_sub [1, 3, 2, 5, 4, 7, 8, 9] rfl hT)

/-- What State.ampPins may change. -/
def ampPins_T : List Piece :=
  [.pins]

theorem ampPins_frame {LL rr s} (h_s : Frame LL rr s) (hT : Cov ampPins_T LL) :
    Frame LL rr (State.ampPins s) := by
  delta State.ampPins
  extract_lets up_1 u_2
  exact Frame.upd h_s (m_pins := .inl (nth 0 rfl hT))

/-- What State.framerSwitch may change. -/
def framerSwitch_T : List Piece :=
  [.audio, .fld AUDIO.ENG_STAT.backup, .fld AUDIO.ENG_STAT.running, .fld SAFE.ALARM_STAT.backup]

theorem framerSwitch_frame {LL rr s} (h_s : Frame LL rr s) (hT : Cov framerSwitch_T LL) :
    Frame LL rr (State.framerSwitch s) := by
  delta State.framerSwitch
  extract_lets pll_1 s1_2 u_3
  have h_s1_2 : Frame LL rr s1_2 := by
      unfold s1_2
      exact wrB_frame (wrB_frame (wrB_frame h_s (pick_sub 0x2 rfl hT)) (pick_sub 0x4 rfl hT)) (pick_sub 0x8 rfl hT)
  clear_value s1_2
  exact Frame.ite h_s1_2 (Frame.upd h_s1_2 (m_audio := .inl (nth 0 rfl hT)))

/-- What State.audioCtrl may change. -/
def audioCtrl_T : List Piece :=
  [.audio, .blk .audio, .ctr .pot, .err .audio, .err .pot, .fld (HDR.enable .audio), .fld (HDR.ev_raw .audio), .fld (HDR.ev_raw .pot),
   .fld AUDIO.ENG_STAT.backup, .fld AUDIO.ENG_STAT.running, .fld SAFE.ALARM_STAT.backup, .parts, .pins, .resp, .sent, .staged, .world]

theorem audioCtrl_frame {LL rr s w v} (h_s : Frame LL rr s) (hT : Cov audioCtrl_T LL) :
    Frame LL rr (State.audioCtrl s w v) := by
  delta State.audioCtrl
  exact onWrite_frame h_s (fun t1 h2 => by
      extract_lets t1_3 u_4 t2_5
      have h_t1_3 : Frame LL rr t1_3 := by
          unfold t1_3
          exact wr_frame h2 (pick_sub 0x20 rfl hT)
      have h_u_4 : Frame LL rr u_4 := by
          unfold u_4
          exact softRegs_frame h_t1_3 (idx_sub [1, 15, 11] rfl hT)
      have h_t2_5 : Frame LL rr t2_5 := by
          unfold t2_5
          exact Frame.ite (Frame.upd h_u_4 (m_audio := .inl (nth 0 rfl hT))) h_t1_3
      clear_value t1_3 u_4 t2_5
      exact ampPins_frame (Frame.ite h_t2_5 (framerSwitch_frame h_t2_5 (pick_sub 0x701 rfl hT))) (pick_sub 0x1000 rfl hT)) (idx_sub [2, 4, 3, 7, 6, 13, 14, 16] rfl hT)

/-- What State.takeGain may change. -/
def takeGain_T : List Piece :=
  [.audio]

theorem takeGain_frame {LL rr s c} (h_s : Frame LL rr s) (hT : Cov takeGain_T LL) :
    Frame LL rr (State.takeGain s c) := by
  delta State.takeGain
  exact Frame.upd h_s (m_audio := .inl (nth 0 rfl hT))

/-- What State.safeloadShow may change. -/
def safeloadShow_T : List Piece :=
  [.fld (HDR.ev_raw .audio), .fld AUDIO.ENG_STAT.waiting, .fld AUDIO.SAFELOAD.pending, .sent]

theorem safeloadShow_frame {LL rr s} (h_s : Frame LL rr s) (hT : Cov safeloadShow_T LL) :
    Frame LL rr (State.safeloadShow s) := by
  delta State.safeloadShow
  extract_lets s1_1
  have h_s1_1 : Frame LL rr s1_1 := by
      unfold s1_1
      exact wr_frame h_s (pick_sub 0x2 rfl hT)
  clear_value s1_1
  exact Frame.ite (raise_frame (wr_frame h_s1_1 (pick_sub 0x4 rfl hT)) (pick_sub 0x9 rfl hT)) h_s1_1

/-- What State.safeload may change. -/
def safeload_T : List Piece :=
  [.audio, .ctr .audio, .fld (HDR.ev_raw .audio), .fld AUDIO.ENG_STAT.waiting, .fld AUDIO.SAFELOAD.pending, .sent]

theorem safeload_frame {LL rr s} (h_s : Frame LL rr s) (hT : Cov safeload_T LL) :
    Frame LL rr (State.safeload s) := by
  delta State.safeload
  extract_lets u_1 s1_2 chans_3 now_4 later_5 s2_6 u_7
  have h_s1_2 : Frame LL rr s1_2 := by
      unfold s1_2
      exact Frame.upd h_s (m_audio := .inl (nth 0 rfl hT))
  have h_s2_6 : Frame LL rr s2_6 := by
      unfold s2_6
      exact Frame.foldl h_s1_2 (fun t8 x9 h10 => takeGain_frame h10 (pick_sub 0x1 rfl hT))
  clear_value s1_2 s2_6
  exact safeloadShow_frame (count_frame (wr_frame (Frame.upd h_s2_6 (m_audio := .inl (nth 0 rfl hT))) (pick_sub 0x10 rfl hT)) (pick_sub 0x2 rfl hT)) (pick_sub 0x3c rfl hT)

/-- What State.safeloadGo may change. -/
def safeloadGo_T : List Piece :=
  [.audio, .ctr .audio, .ctr .pot, .err .audio, .err .pot, .fld (HDR.ev_raw .audio), .fld (HDR.ev_raw .pot), .fld AUDIO.ENG_STAT.waiting,
   .fld AUDIO.SAFELOAD.pending, .resp, .sent, .world]

theorem safeloadGo_frame {LL rr s w v} (h_s : Frame LL rr s) (hT : Cov safeloadGo_T LL) :
    Frame LL rr (State.safeloadGo s w v) := by
  delta State.safeloadGo
  exact onWrite_frame h_s (fun t1 h2 => Frame.ite h2 (Frame.ite (refuse_frame h2 (pick_sub 0x628 rfl hT)) (safeload_frame h2 (pick_sub 0x5a3 rfl hT)))) (idx_sub [2, 4, 3, 6, 5, 9, 10, 11] rfl hT)

/-- What State.strmCfg may change. -/
def strmCfg_T : List Piece :=
  [.ctr .pot, .err .audio, .err .pot, .fld (HDR.dirty .audio), .fld (HDR.ev_raw .audio), .fld (HDR.ev_raw .pot), .reg .audio 0x124, .resp, .sent,
   .world]

theorem strmCfg_frame {LL rr s w v} (h_s : Frame LL rr s) (hT : Cov strmCfg_T LL) :
    Frame LL rr (State.strmCfg s w v) := by
  delta State.strmCfg
  extract_lets k_1 r_2 inst_3
  exact onWrite_frame h_s (fun t4 h5 => by
      extract_lets others_6
      exact Frame.ite (refuse_frame h5 (pick_sub 0x192 rfl hT)) (Frame.ite (refuse_frame h5 (pick_sub 0x192 rfl hT)) (storeWord_frame h5 (pick_sub 0x48 rfl hT)))) (idx_sub [0, 2, 1, 5, 4, 7, 8, 9] rfl hT)

/-- What State.ampSync may change. -/
def ampSync_T : List Piece :=
  [.fld (HDR.ev_raw .audio), .fld AUDIO.PORT_STAT.amp_en, .pins, .sent]

theorem ampSync_frame {LL rr s t} (h_s : Frame LL rr s) (hT : Cov ampSync_T LL) :
    Frame LL rr (State.ampSync s t) := by
  delta State.ampSync
  extract_lets now_1
  exact Frame.ite (ampPins_frame h_s (pick_sub 0x4 rfl hT)) (raise_frame (ampPins_frame (wrB_frame h_s (pick_sub 0x2 rfl hT)) (pick_sub 0x4 rfl hT)) (pick_sub 0x9 rfl hT))

/-- What State.portEnable may change. -/
def portEnable_T (t : Nat) : List Piece :=
  [.ctr .pot, .err .audio, .err .pot, .fld (HDR.dirty .audio), .fld (HDR.ev_raw .audio), .fld (HDR.ev_raw .pot), .fld AUDIO.PORT_STAT.amp_en,
   .fld AUDIO.PORT_STAT.locked, .fld AUDIO.PORT_STAT.rate_hz, .fld AUDIO.PORT_STAT.waiting, .pins, .reg .audio (384 + 32 * t), .resp, .sent,
   .world]

theorem portEnable_frame {LL rr s w t v} (h_s : Frame LL rr s) (hT : Cov (portEnable_T t) LL) :
    Frame LL rr (State.portEnable s w t v) := by
  delta State.portEnable
  extract_lets off_1
  exact onWrite_frame h_s (fun t2 h3 => Frame.ite (refuse_frame h3 (pick_sub 0x3012 rfl hT)) (by
      extract_lets was_4 u1_5 u2_6
      have h_u1_5 : Frame LL rr u1_5 := by
          unfold u1_5
          exact storeWord_frame h3 (pick_sub 0x808 rfl hT)
      have h_u2_6 : Frame LL rr u2_6 := by
          unfold u2_6
          exact Frame.ite h_u1_5 (wr_frame (wr_frame (wrB_frame h_u1_5 (pick_sub 0x80 rfl hT)) (pick_sub 0x100 rfl hT)) (pick_sub 0x200 rfl hT))
      clear_value u1_5 u2_6
      exact ampSync_frame h_u2_6 (pick_sub 0x2450 rfl hT))) (idx_sub [0, 2, 1, 5, 4, 12, 13, 14] rfl hT)

/-- What State.portCfg may change. -/
def portCfg_T (t : Nat) : List Piece :=
  [.ctr .pot, .err .audio, .err .pot, .fld (HDR.dirty .audio), .fld (HDR.ev_raw .audio), .fld (HDR.ev_raw .pot), .reg .audio (388 + 32 * t), .resp,
   .sent, .world]

theorem portCfg_frame {LL rr s w t v} (h_s : Frame LL rr s) (hT : Cov (portCfg_T t) LL) :
    Frame LL rr (State.portCfg s w t v) := by
  delta State.portCfg
  extract_lets off_1
  exact onWrite_frame h_s (fun t2 h3 => by
      extract_lets now_4
      exact Frame.ite (refuse_frame h3 (pick_sub 0x192 rfl hT)) (storeWord_frame h3 (pick_sub 0x48 rfl hT))) (idx_sub [0, 2, 1, 5, 4, 7, 8, 9] rfl hT)

/-- What State.portStat may change. -/
def portStat_T (t : Nat) : List Piece :=
  [.ctr .pot, .err .audio, .err .pot, .fld (HDR.dirty .audio), .fld (HDR.ev_raw .audio), .fld (HDR.ev_raw .pot), .fld AUDIO.PORT_STAT.waiting,
   .reg .audio (392 + 32 * t), .resp, .sent, .world]

theorem portStat_frame {LL rr s w t v} (h_s : Frame LL rr s) (hT : Cov (portStat_T t) LL) :
    Frame LL rr (State.portStat s w t v) := by
  delta State.portStat
  extract_lets off_1
  exact onWrite_frame h_s (fun t2 h3 => by
      extract_lets was_4 u1_5
      have h_u1_5 : Frame LL rr u1_5 := by
          unfold u1_5
          exact storeWord_frame h3 (pick_sub 0x88 rfl hT)
      clear_value u1_5
      exact Frame.ite (wr_frame h_u1_5 (pick_sub 0x40 rfl hT)) h_u1_5) (idx_sub [0, 2, 1, 5, 4, 8, 9, 10] rfl hT)

/-- What State.silCfg may change. -/
def silCfg_T (t : Nat) : List Piece :=
  [.ctr .pot, .err .audio, .err .pot, .fld (HDR.dirty .audio), .fld (HDR.ev_raw .audio), .fld (HDR.ev_raw .pot), .fld AUDIO.PORT_STAT.amp_en,
   .pins, .reg .audio (396 + 32 * t), .resp, .sent, .world]

theorem silCfg_frame {LL rr s w t v} (h_s : Frame LL rr s) (hT : Cov (silCfg_T t) LL) :
    Frame LL rr (State.silCfg s w t v) := by
  delta State.silCfg
  extract_lets off_1
  exact onWrite_frame h_s (fun t2 h3 => ampSync_frame (storeWord_frame h3 (pick_sub 0x108 rfl hT)) (pick_sub 0x4d0 rfl hT)) (idx_sub [0, 2, 1, 5, 4, 9, 10, 11] rfl hT)

/-- What State.alarmSync may change. -/
def alarmSync_T : List Piece :=
  [.alarm]

theorem alarmSync_frame {LL rr s} (h_s : Frame LL rr s) (hT : Cov alarmSync_T LL) :
    Frame LL rr (State.alarmSync s) := by
  delta State.alarmSync
  split
  · exact Frame.ite (Frame.upd h_s (m_alarm := .inl (nth 0 rfl hT))) h_s
  · exact h_s

/-- What State.alarmStop may change. -/
def alarmStop_T : List Piece :=
  [.alarm, .fld SAFE.ALARM_CTRL.run]

theorem alarmStop_frame {LL rr s0} (h_s0 : Frame LL rr s0) (hT : Cov alarmStop_T LL) :
    Frame LL rr (State.alarmStop s0) := by
  delta State.alarmStop
  extract_lets s_1 ramp_2 u_3
  have h_s_1 : Frame LL rr s_1 := by
      unfold s_1
      exact alarmSync_frame h_s0 (pick_sub 0x1 rfl hT)
  clear_value s_1
  exact wr_frame (Frame.upd h_s_1 (m_alarm := .inl (nth 0 rfl hT))) (pick_sub 0x2 rfl hT)

/-- What State.alarmCtrl may change. -/
def alarmCtrl_T : List Piece :=
  [.alarm, .ctr .pot, .err .pot, .err .safe, .fld (HDR.dirty .safe), .fld (HDR.ev_raw .audio), .fld (HDR.ev_raw .pot), .fld (HDR.ev_raw .safe),
   .fld AUDIO.PORT_STAT.amp_en, .fld SAFE.ALARM_CTRL.run, .pins, .reg .safe 0x200, .resp, .sent, .world]

theorem alarmCtrl_frame {LL rr s w v} (h_s : Frame LL rr s) (hT : Cov alarmCtrl_T LL) :
    Frame LL rr (State.alarmCtrl s w v) := by
  delta State.alarmCtrl
  exact onWrite_frame h_s (fun t1 h2 => by
      extract_lets u_3 was_4 t_5 k_6 t1_7 u_8 u_9
      have h_u_3 : Frame LL rr u_3 := by
          unfold u_3
          exact alarmSync_frame h2 (pick_sub 0x1 rfl hT)
      have h_t_5 : Frame LL rr t_5 := by
          unfold t_5
          exact storeWord_frame h_u_3 (pick_sub 0x810 rfl hT)
      have h_t1_7 : Frame LL rr t1_7 := by
          unfold t1_7
          exact Frame.upd h_t_5 (m_alarm := .inl (nth 0 rfl hT))
      clear_value u_3 t_5 t1_7
      exact Frame.ite (ampSync_frame h_t1_7 (pick_sub 0x2520 rfl hT)) (Frame.ite (alarmStop_frame h_t_5 (pick_sub 0x201 rfl hT)) (Frame.ite (alarmSync_frame (Frame.upd h_t_5 (m_alarm := .inl (nth 0 rfl hT))) (pick_sub 0x1 rfl hT)) h_t_5))) (pick_sub 0x70ce rfl hT)

/-- What State.alarmFrame may change. -/
def alarmFrame_T : List Piece :=
  [.alarm, .free]

theorem alarmFrame_frame {LL rr s0} (h_s0 : Frame LL rr s0) (hT : Cov alarmFrame_T LL) :
    Frame LL rr (State.alarmFrame s0) := by
  delta State.alarmFrame
  extract_lets s_1 set_2 a_3
  have h_s_1 : Frame LL rr s_1 := by
      unfold s_1
      exact alarmSync_frame h_s0 (pick_sub 0x1 rfl hT)
  have h_set_2 : ∀ y0 y1, Frame LL rr y0 → Frame LL rr (set_2 y0 y1) := by
      intro t4 x6 h5
      unfold set_2
      exact Frame.upd h5 (m_alarm := .inl (nth 0 rfl hT))
  clear_value s_1 set_2
  exact Frame.ite (by
      split
      · rename_i a10
        have h11 := FrameR.eq (L := LL) (r := rr) a10 (draw_frame h_s_1 (pick_sub 0x2 rfl hT))
        exact h_set_2 _ _ h11) (h_set_2 _ _ h_s_1)

/-- What State.setStrm may change. -/
def setStrm_T : List Piece :=
  [.audio, .fld AUDIO.STRM_STAT.fill_ms, .fld AUDIO.STRM_STAT.state]

theorem setStrm_frame {LL rr s k f} (h_s : Frame LL rr s) (hT : Cov setStrm_T LL) :
    Frame LL rr (State.setStrm s k f) := by
  delta State.setStrm
  extract_lets u_1 s1_2
  have h_s1_2 : Frame LL rr s1_2 := by
      unfold s1_2
      exact wr_frame (wr_frame (Frame.upd h_s (m_audio := .inl (nth 0 rfl hT))) (pick_sub 0x4 rfl hT)) (pick_sub 0x2 rfl hT)
  clear_value s1_2
  exact Frame.ite (Frame.foldl h_s1_2 (fun t3 x4 h5 => takeGain_frame h5 (pick_sub 0x1 rfl hT))) h_s1_2

/-- What State.strmFill may change. -/
def strmFill_T : List Piece :=
  [.audio, .ctr .audio, .ctr .dram, .ctr .dramq, .ctr .pot, .ctr .rsched, .dram, .err .dram, .err .pot, .fld (HDR.ev_raw .dram),
   .fld (HDR.ev_raw .pot), .fld AUDIO.STRM_STAT.fill_ms, .fld AUDIO.STRM_STAT.state, .fld RSCHED.PIN_COUNT.pinned, .mem, .pot, .rings, .sent]

theorem strmFill_frame {LL rr s k} (h_s : Frame LL rr s) (hT : Cov strmFill_T LL) :
    Frame LL rr (State.strmFill s k) := by
  delta State.strmFill
  extract_lets f_1 on_2
  exact Frame.ite h_s (by
      split
      · rename_i a6
        have h7 := FrameP.eq (L := LL) (r := rr) a6 (feedFill_frame h_s (pick_sub 0x3c7bc rfl hT))
        split
        · rename_i a11
          have h12 := FrameP.eq (L := LL) (r := rr) a11 (feedEnds_frame h7 (pick_sub 0x3e7fc rfl hT))
          exact setStrm_frame (count_frame h12 (pick_sub 0x2 rfl hT)) (pick_sub 0x1801 rfl hT))

/-- What State.strmTick may change. -/
def strmTick_T : List Piece :=
  [.audio, .ctr .audio, .ctr .dram, .ctr .dramq, .ctr .pot, .ctr .rsched, .dram, .err .dram, .err .pot, .evSeq, .events, .fld (HDR.ev_raw .audio),
   .fld (HDR.ev_raw .dram), .fld (HDR.ev_raw .pot), .fld AUDIO.STRM_STAT.fill_ms, .fld AUDIO.STRM_STAT.state, .fld RSCHED.PIN_COUNT.pinned, .free,
   .mem, .pot, .rings, .sent]

theorem strmTick_frame {LL rr s0 k} (h_s0 : Frame LL rr s0) (hT : Cov strmTick_T LL) :
    FrameP LL rr (State.strmTick s0 k) := by
  delta State.strmTick
  extract_lets s_1 f_2 bypass_3 u_4 ramp_5 t_6
  have h_s_1 : Frame LL rr s_1 := by
      unfold s_1
      exact strmFill_frame h_s0 (pick_sub 0x3df1ff rfl hT)
  have h_u_4 : ∀ y0 y1, Frame LL rr y0 → FrameR LL rr (u_4 y0 y1) := by
      intro t7 x9 h8
      unfold u_4
      exact FrameR.ite (FrameR.mk h8) (by
          split
          · rename_i a13
            have h14 := FrameR.eq (L := LL) (r := rr) a13 (draws_frame h8 (pick_sub 0x20000 rfl hT))
            exact FrameR.mk h14)
  have h_ramp_5 : ∀ y0 y1 y2, Frame LL rr y0 → FrameP LL rr (ramp_5 y0 y1 y2) := by
      intro t15 x17 x18 h16
      unfold ramp_5
      split
      · rename_i a22
        have h23 := FrameR.eq (L := LL) (r := rr) a22 (h_u_4 _ _ h16)
        exact FrameP.ite (FrameP.mk (setStrm_frame h23 (pick_sub 0xc001 rfl hT))) (FrameP.mk (setStrm_frame h23 (pick_sub 0xc001 rfl hT)))
  have h_t_6 : Frame LL rr t_6 := by
      unfold t_6
      exact event_frame (raise_frame (count_frame h_s_1 (pick_sub 0x2 rfl hT)) (pick_sub 0x200800 rfl hT)) (pick_sub 0x600 rfl hT)
  clear_value s_1 u_4 ramp_5 t_6
  exact FrameP.ite (h_ramp_5 _ _ _ h_s_1) (FrameP.ite (by
      split
      · split
        · split
          · rename_i a36
            have h37 := FrameP.eq (L := LL) (r := rr) a36 (feedEnds_frame h_s_1 (pick_sub 0x3d31fc rfl hT))
            exact FrameP.ite (h_ramp_5 _ _ _ h37) (by
                split
                · rename_i a41
                  have h42 := FrameR.eq (L := LL) (r := rr) a41 (h_u_4 _ _ h37)
                  exact FrameP.mk (setStrm_frame h42 (pick_sub 0xc001 rfl hT)))
        · exact FrameP.ite (h_ramp_5 _ _ _ h_s_1) (h_ramp_5 _ _ _ h_t_6)) (FrameP.mk h_s_1))

/-- What State.gainStep may change. -/
def gainStep_T : List Piece :=
  [.audio]

theorem gainStep_frame {LL rr s c v} (h_s : Frame LL rr s) (hT : Cov gainStep_T LL) :
    Frame LL rr (State.gainStep s c v) := by
  delta State.gainStep
  extract_lets p_1 u_2 s1_3
  have h_s1_3 : Frame LL rr s1_3 := by
      unfold s1_3
      exact Frame.upd h_s (m_audio := .inl (nth 0 rfl hT))
  exact Frame.ite (takeGain_frame h_s1_3 (pick_sub 0x1 rfl hT)) h_s1_3

/-- What mixIn may change. -/
def mixIn_T : List Piece :=
  [.audio]

theorem mixIn_frame {LL rr m c bus v} (h_m : FrameM LL rr m) (hT : Cov mixIn_T LL) :
    FrameM LL rr (mixIn m c bus v) := by
  delta mixIn
  extract_lets s_1
  have h_s_1 : Frame LL rr s_1 := by
      unfold s_1
      exact gainStep_frame (FrameM.st h_m) (pick_sub 0x1 rfl hT)
  clear_value s_1
  split
  · exact FrameM.mk h_s_1

/-- What State.mixSources may change. -/
def mixSources_T : List Piece :=
  [.audio, .ctr .audio, .ctr .dram, .ctr .dramq, .ctr .pot, .ctr .rsched, .dram, .err .dram, .err .pot, .evSeq, .events, .fld (HDR.ev_raw .audio),
   .fld (HDR.ev_raw .dram), .fld (HDR.ev_raw .pot), .fld AUDIO.STRM_STAT.fill_ms, .fld AUDIO.STRM_STAT.state, .fld RSCHED.PIN_COUNT.pinned, .free,
   .mem, .pot, .rings, .sent]

theorem mixSources_frame {LL rr s inp} (h_s : Frame LL rr s) (hT : Cov mixSources_T LL) :
    FrameM LL rr (State.mixSources s inp) := by
  delta State.mixSources
  extract_lets m1_1
  have h_m1_1 : FrameM LL rr m1_1 := by
      unfold m1_1
      exact FrameM.foldl (FrameM.mk h_s) (fun t2 x3 h4 => by
          split
          · rename_i a8
            have h9 := FrameP.eq (L := LL) (r := rr) a8 (strmTick_frame (FrameM.st h4) (pick_sub 0x3fffff rfl hT))
            extract_lets m1_10
            have h_m1_10 : FrameM LL rr m1_10 := by
                unfold m1_10
                exact FrameM.mk h9
            clear_value m1_10
            exact FrameM.foldl h_m1_10 (fun t11 x12 h13 => mixIn_frame h13 (pick_sub 0x1 rfl hT)))
  clear_value m1_1
  exact FrameM.foldl h_m1_1 (fun t14 x15 h16 => by
      extract_lets t_17 src_18 on_19
      exact FrameM.ite (mixIn_frame h16 (pick_sub 0x1 rfl hT)) (FrameM.ite (mixIn_frame h16 (pick_sub 0x1 rfl hT)) (by
          split
          · rename_i a23
            have h24 := FrameR.eq (L := LL) (r := rr) a23 (draw_frame (FrameM.st h16) (pick_sub 0x20000 rfl hT))
            exact mixIn_frame (FrameM.mk h24) (pick_sub 0x1 rfl hT))))

/-- What State.limStep may change. -/
def limStep_T : List Piece :=
  [.audio, .free]

theorem limStep_frame {LL rr s slot thr look} (h_s : Frame LL rr s) (hT : Cov limStep_T LL) :
    FrameR LL rr (State.limStep s slot thr look) := by
  delta State.limStep
  extract_lets peak_1 L_2 bound_3 r_4
  exact FrameR.ite (FrameR.mk h_s) (by
      split
      · rename_i a8
        have h9 := FrameR.eq (L := LL) (r := rr) a8 (draw_frame h_s (pick_sub 0x2 rfl hT))
        extract_lets x_10 u_11
        exact FrameR.mk (Frame.upd h9 (m_audio := .inl (nth 0 rfl hT))))

/-- What State.slotOut may change. -/
def slotOut_T : List Piece :=
  [.audio, .ctr .audio, .free]

theorem slotOut_frame {LL rr s slot v} (h_s : Frame LL rr s) (hT : Cov slotOut_T LL) :
    FrameP LL rr (State.slotOut s slot v) := by
  delta State.slotOut
  extract_lets w_1 old_2 thr_3 look_4 x_5 u_6 s1_7
  have h_s1_7 : Frame LL rr s1_7 := by
      unfold s1_7
      exact Frame.upd h_s (m_audio := .inl (nth 0 rfl hT))
  clear_value s1_7
  exact FrameP.ite (by
      split
      · rename_i a11
        have h12 := FrameR.eq (L := LL) (r := rr) a11 (limStep_frame h_s (pick_sub 0x5 rfl hT))
        split
        · extract_lets u_17 s2_18
          have h_s2_18 : Frame LL rr s2_18 := by
              unfold s2_18
              exact Frame.upd h12 (m_audio := .inl (nth 0 rfl hT))
          clear_value s2_18
          exact FrameP.mk (Frame.ite (count_frame h_s2_18 (pick_sub 0x2 rfl hT)) h_s2_18)) (by
      split
      · exact FrameP.mk (Frame.ite (count_frame h_s1_7 (pick_sub 0x2 rfl hT)) h_s1_7))

/-- What State.outSlot may change. -/
def outSlot_T : List Piece :=
  [.audio, .ctr .audio, .free]

theorem outSlot_frame {LL rr s bus n} (h_s : Frame LL rr s) (hT : Cov outSlot_T LL) :
    Frame LL rr (State.outSlot s bus n) := by
  delta State.outSlot
  extract_lets t_1 w_2 put_3 masked_4
  have h_put_3 : ∀ y0 y1, Frame LL rr y0 → Frame LL rr (put_3 y0 y1) := by
      intro t5 x7 h6
      unfold put_3
      exact Frame.upd h6 (m_audio := .inl (nth 0 rfl hT))
  clear_value put_3
  exact Frame.ite h_s (Frame.ite (h_put_3 _ _ h_s) (by
      split
      · rename_i a11
        have h12 := FrameP.eq (L := LL) (r := rr) a11 (slotOut_frame h_s (pick_sub 0x7 rfl hT))
        exact Frame.ite (h_put_3 _ _ h12) (by
            extract_lets u_13 u1_14
            have h_u1_14 : Frame LL rr u1_14 := by
                unfold u1_14
                exact Frame.ite h12 (Frame.upd h12 (m_audio := .inl (nth 0 rfl hT)))
            clear_value u1_14
            exact Frame.ite (h_put_3 _ _ h_u1_14) (by
                split
                · rename_i a18
                  have h19 := FrameR.eq (L := LL) (r := rr) a18 (draw_frame h_u1_14 (pick_sub 0x4 rfl hT))
                  exact h_put_3 _ _ h19))))

/-- What State.audioTick may change. -/
def audioTick_T : List Piece :=
  [.alarm, .audio, .ctr .audio, .ctr .dram, .ctr .dramq, .ctr .pot, .ctr .rsched, .dram, .err .dram, .err .pot, .evSeq, .events,
   .fld (HDR.ev_raw .audio), .fld (HDR.ev_raw .dram), .fld (HDR.ev_raw .pot), .fld AUDIO.ENG_STAT.waiting, .fld AUDIO.PORT_STAT.amp_en,
   .fld AUDIO.SAFELOAD.pending, .fld AUDIO.STRM_STAT.fill_ms, .fld AUDIO.STRM_STAT.state, .fld RSCHED.PIN_COUNT.pinned, .free, .mem, .pins, .pot,
   .rings, .sent]

theorem audioTick_frame {LL rr s0 inp} (h_s0 : Frame LL rr s0) (hT : Cov audioTick_T LL) :
    Frame LL rr (State.audioTick s0 inp) := by
  delta State.audioTick
  extract_lets s_1 m_2
  have h_s_1 : Frame LL rr s_1 := by
      unfold s_1
      exact alarmFrame_frame h_s0 (pick_sub 0x200001 rfl hT)
  have h_m_2 : FrameM LL rr m_2 := by
      unfold m_2
      exact mixSources_frame h_s_1 (pick_sub 0x77c7ffe rfl hT)
  clear_value s_1 m_2
  exact Frame.ite h_s_1 (by
      split
      · rename_i a7
        have h8 := FrameP.eq (L := LL) (r := rr) a7 (FrameP.foldl (FrameP.mk (FrameM.st h_m_2)) (fun t9 x10 h11 => by
            split
            · have h16 := FrameP.eq (L := LL) (r := rr) rfl h11
              extract_lets a_17 t1_18
              have h_t1_18 : Frame LL rr t1_18 := by
                  unfold t1_18
                  exact gainStep_frame h16 (pick_sub 0x2 rfl hT)
              clear_value t1_18
              split
              · have h23 := FrameP.eq (L := LL) (r := rr) rfl h11
                exact FrameP.mk h_t1_18))
        extract_lets s2_24 u_25 s3_26 s4_27 s5_28
        have h_s2_24 : Frame LL rr s2_24 := by
            unfold s2_24
            exact Frame.foldl h8 (fun t29 x30 h31 => outSlot_frame h31 (pick_sub 0x200006 rfl hT))
        have h_s3_26 : Frame LL rr s3_26 := by
            unfold s3_26
            exact Frame.upd h_s2_24 (m_audio := .inl (nth 1 rfl hT))
        have h_s4_27 : Frame LL rr s4_27 := by
            unfold s4_27
            exact Frame.ite h_s3_26 (raise_frame (count_frame h_s3_26 (pick_sub 0x4 rfl hT)) (pick_sub 0x4001000 rfl hT))
        have h_s5_28 : Frame LL rr s5_28 := by
            unfold s5_28
            exact Frame.foldl h_s4_27 (fun t32 x33 h34 => ampSync_frame h34 (pick_sub 0x4811000 rfl hT))
        clear_value s2_24 s3_26 s4_27 s5_28
        exact safeloadShow_frame (count_frame h_s5_28 (pick_sub 0x4 rfl hT)) (pick_sub 0x4029000 rfl hT))

/-- What execAlarmAmpRelease may change. -/
def execAlarmAmpRelease_T : List Piece :=
  [.alarm, .fld (HDR.ev_raw .audio), .fld AUDIO.PORT_STAT.amp_en, .pins, .sent]

theorem execAlarmAmpRelease_frame {LL rr s} (h_s : Frame LL rr s) (hT : Cov execAlarmAmpRelease_T LL) :
    FrameN LL rr (execAlarmAmpRelease s) := by
  delta execAlarmAmpRelease
  exact FrameN.next (Frame.ite h_s (ampSync_frame (Frame.upd h_s (m_alarm := .inl (nth 0 rfl hT))) (pick_sub 0x1e rfl hT)))

/-- What execAlarmEnd may change. -/
def execAlarmEnd_T : List Piece :=
  [.alarm, .fld SAFE.ALARM_CTRL.run]

theorem execAlarmEnd_frame {LL rr s} (h_s : Frame LL rr s) (hT : Cov execAlarmEnd_T LL) :
    FrameN LL rr (execAlarmEnd s) := by
  delta execAlarmEnd
  exact FrameN.next (by
      extract_lets u_1 t_2 u_3
      have h_u_1 : Frame LL rr u_1 := by
          unfold u_1
          exact alarmSync_frame h_s (pick_sub 0x1 rfl hT)
      have h_t_2 : Frame LL rr t_2 := by
          unfold t_2
          exact alarmStop_frame h_u_1 (pick_sub 0x3 rfl hT)
      clear_value u_1 t_2
      exact Frame.ite (Frame.upd h_t_2 (m_alarm := .inl (nth 0 rfl hT))) h_u_1)

/-- What execAlarmPatternWrite may change. -/
def execAlarmPatternWrite_T : List Piece :=
  [.alarm, .ctr .pot, .err .pot, .err .safe, .fld (HDR.dirty .safe), .fld (HDR.ev_raw .audio), .fld (HDR.ev_raw .pot), .fld (HDR.ev_raw .safe),
   .fld AUDIO.PORT_STAT.amp_en, .fld SAFE.ALARM_CTRL.run, .pins, .reg .safe 0x200, .resp, .sent, .world]

theorem execAlarmPatternWrite_frame {LL rr w pattern s} (h_s : Frame LL rr s) (hT : Cov execAlarmPatternWrite_T LL) :
    FrameN LL rr (execAlarmPatternWrite w pattern s) := by
  delta execAlarmPatternWrite
  exact FrameN.next (alarmCtrl_frame h_s (pick_sub 0x7fff rfl hT))

/-- What execAlarmRun may change. -/
def execAlarmRun_T : List Piece :=
  [.alarm, .ctr .pot, .err .pot, .err .safe, .fld (HDR.dirty .safe), .fld (HDR.ev_raw .audio), .fld (HDR.ev_raw .pot), .fld (HDR.ev_raw .safe),
   .fld AUDIO.PORT_STAT.amp_en, .fld SAFE.ALARM_CTRL.run, .pins, .reg .safe 0x200, .resp, .sent, .world]

theorem execAlarmRun_frame {LL rr w pattern run s} (h_s : Frame LL rr s) (hT : Cov execAlarmRun_T LL) :
    FrameN LL rr (execAlarmRun w pattern run s) := by
  delta execAlarmRun
  exact FrameN.next (alarmCtrl_frame h_s (pick_sub 0x7fff rfl hT))

/-- What execAsrcLock may change. -/
def execAsrcLock_T : List Piece :=
  [.fld AUDIO.PORT_STAT.locked, .fld AUDIO.PORT_STAT.rate_hz]

theorem execAsrcLock_frame {LL rr t hz s} (h_s : Frame LL rr s) (hT : Cov execAsrcLock_T LL) :
    FrameN LL rr (execAsrcLock t hz s) := by
  delta execAsrcLock
  extract_lets k_1 s1_2
  have h_s1_2 : Frame LL rr s1_2 := by
      unfold s1_2
      exact wr_frame h_s (pick_sub 0x2 rfl hT)
  clear_value s1_2
  exact FrameN.next (Frame.ite h_s (Frame.ite (wr_frame h_s1_2 (pick_sub 0x1 rfl hT)) h_s1_2))

/-- What execAsrcRelock may change. -/
def execAsrcRelock_T : List Piece :=
  [.ctr .audio, .fld (HDR.ev_raw .audio), .fld AUDIO.PORT_STAT.locked, .sent]

theorem execAsrcRelock_frame {LL rr t s} (h_s : Frame LL rr s) (hT : Cov execAsrcRelock_T LL) :
    FrameN LL rr (execAsrcRelock t s) := by
  delta execAsrcRelock
  extract_lets k_1
  exact FrameN.next (Frame.ite h_s (raise_frame (count_frame (wr_frame h_s (pick_sub 0x4 rfl hT)) (pick_sub 0x1 rfl hT)) (pick_sub 0xa rfl hT)))

/-- What execAudMclkGlitch may change. -/
def execAudMclkGlitch_T : List Piece :=
  [.ctr .audio, .err .audio, .fld (HDR.ev_raw .audio), .sent]

theorem execAudMclkGlitch_frame {LL rr t s} (h_s : Frame LL rr s) (hT : Cov execAudMclkGlitch_T LL) :
    FrameN LL rr (execAudMclkGlitch t s) := by
  delta execAudMclkGlitch
  extract_lets k_1
  exact FrameN.next (Frame.ite h_s (recErr_frame (raise_frame (count_frame h_s (pick_sub 0x1 rfl hT)) (pick_sub 0xc rfl hT)) (pick_sub 0xe rfl hT)))

/-- What execAudMclkLost may change. -/
def execAudMclkLost_T : List Piece :=
  [.audio, .ctr .audio, .evSeq, .events, .fld (HDR.ev_raw .audio), .fld AUDIO.PORT_STAT.clk_lost, .fld AUDIO.PORT_STAT.rate_hz, .sent]

theorem execAudMclkLost_frame {LL rr t s} (h_s : Frame LL rr s) (hT : Cov execAudMclkLost_T LL) :
    FrameN LL rr (execAudMclkLost t s) := by
  delta execAudMclkLost
  extract_lets k_1 s1_2 u_3
  have h_s1_2 : Frame LL rr s1_2 := by
      unfold s1_2
      exact raise_frame (count_frame (wr_frame (wr_frame h_s (pick_sub 0x20 rfl hT)) (pick_sub 0x40 rfl hT)) (pick_sub 0x2 rfl hT)) (pick_sub 0x90 rfl hT)
  clear_value s1_2
  exact FrameN.next (Frame.ite h_s (eventPage_frame (Frame.upd h_s1_2 (m_audio := .inl (nth 0 rfl hT))) (pick_sub 0xc rfl hT)))

/-- What execAudioStreamEnable may change. -/
def execAudioStreamEnable_T : List Piece :=
  [.ctr .pot, .err .audio, .err .pot, .fld (HDR.dirty .audio), .fld (HDR.ev_raw .audio), .fld (HDR.ev_raw .pot), .reg .audio 0x124, .resp, .sent,
   .world]

theorem execAudioStreamEnable_frame {LL rr w v s} (h_s : Frame LL rr s) (hT : Cov execAudioStreamEnable_T LL) :
    FrameN LL rr (execAudioStreamEnable w v s) := by
  delta execAudioStreamEnable
  exact FrameN.next (strmCfg_frame h_s (pick_sub 0x3ff rfl hT))

/-- What execAudioTick may change. -/
def execAudioTick_T : List Piece :=
  [.alarm, .audio, .ctr .audio, .ctr .dram, .ctr .dramq, .ctr .pot, .ctr .rsched, .dram, .err .dram, .err .pot, .evSeq, .events,
   .fld (HDR.ev_raw .audio), .fld (HDR.ev_raw .dram), .fld (HDR.ev_raw .pot), .fld AUDIO.ENG_STAT.waiting, .fld AUDIO.PORT_STAT.amp_en,
   .fld AUDIO.SAFELOAD.pending, .fld AUDIO.STRM_STAT.fill_ms, .fld AUDIO.STRM_STAT.state, .fld RSCHED.PIN_COUNT.pinned, .free, .mem, .pins, .pot,
   .rings, .sent]

theorem execAudioTick_frame {LL rr inp s} (h_s : Frame LL rr s) (hT : Cov execAudioTick_T LL) :
    FrameN LL rr (execAudioTick inp s) := by
  delta execAudioTick
  exact FrameN.next (audioTick_frame h_s (pick_sub 0x7ffffff rfl hT))

/-- What execClkLostClear may change. -/
def execClkLostClear_T (t : Fin 4) : List Piece :=
  [.ctr .pot, .err .audio, .err .pot, .fld (HDR.dirty .audio), .fld (HDR.ev_raw .audio), .fld (HDR.ev_raw .pot), .fld AUDIO.PORT_STAT.waiting,
   .reg .audio (392 + 32 * ↑t), .resp, .sent, .world]

theorem execClkLostClear_frame {LL rr w t s} (h_s : Frame LL rr s) (hT : Cov (execClkLostClear_T t) LL) :
    FrameN LL rr (execClkLostClear w t s) := by
  delta execClkLostClear
  exact FrameN.next (portStat_frame h_s (pick_sub 0x7ff rfl hT))

/-- What execDescriptorFetch may change. -/
def execDescriptorFetch_T : List Piece :=
  [.audio, .ctr .audio, .ctr .dram, .ctr .dramq, .ctr .pot, .ctr .rsched, .dram, .err .dram, .err .pot, .fld (HDR.ev_raw .dram),
   .fld (HDR.ev_raw .pot), .fld AUDIO.STRM_STAT.fill_ms, .fld AUDIO.STRM_STAT.state, .fld RSCHED.PIN_COUNT.pinned, .fld SURF.STREAM_STAT.fill,
   .fld SURF.STREAM_STAT.state, .mem, .pot, .rings, .sent, .surf]

theorem execDescriptorFetch_frame {LL rr r s} (h_s : Frame LL rr s) (hT : Cov execDescriptorFetch_T LL) :
    FrameN LL rr (execDescriptorFetch r s) := by
  delta execDescriptorFetch
  extract_lets t_1 t1_2
  have h_t_1 : Frame LL rr t_1 := by
      unfold t_1
      exact descFetch_frame h_s (pick_sub 0xf07bc rfl hT)
  have h_t1_2 : Frame LL rr t1_2 := by
      unfold t1_2
      exact Frame.foldl h_t_1 (fun t3 x4 h5 => Frame.ite (hapFill_frame h5 (pick_sub 0x1fe7fc rfl hT)) h5)
  clear_value t_1 t1_2
  exact FrameN.next (Frame.foldl h_t1_2 (fun t6 x7 h8 => Frame.ite (strmFill_frame h8 (pick_sub 0xf3fff rfl hT)) h8))

/-- What execFramerClockSwitch may change. -/
def execFramerClockSwitch_T : List Piece :=
  [.audio, .fld AUDIO.ENG_STAT.backup, .fld AUDIO.ENG_STAT.running, .fld SAFE.ALARM_STAT.backup]

theorem execFramerClockSwitch_frame {LL rr s} (h_s : Frame LL rr s) (hT : Cov execFramerClockSwitch_T LL) :
    FrameN LL rr (execFramerClockSwitch s) := by
  delta execFramerClockSwitch
  exact FrameN.next (framerSwitch_frame h_s (pick_sub 0xf rfl hT))

/-- What execGainTimeout may change. -/
def execGainTimeout_T : List Piece :=
  [.audio, .ctr .audio, .fld (HDR.ev_raw .audio), .fld AUDIO.ENG_STAT.waiting, .fld AUDIO.SAFELOAD.pending, .sent]

theorem execGainTimeout_frame {LL rr c s} (h_s : Frame LL rr s) (hT : Cov execGainTimeout_T LL) :
    FrameN LL rr (execGainTimeout c s) := by
  delta execGainTimeout
  exact FrameN.next (Frame.ite (safeloadShow_frame (count_frame (takeGain_frame h_s (pick_sub 0x1 rfl hT)) (pick_sub 0x2 rfl hT)) (pick_sub 0x3c rfl hT)) h_s)

/-- What execMclkReturn may change. -/
def execMclkReturn_T : List Piece :=
  [.audio, .fld AUDIO.PORT_STAT.waiting]

theorem execMclkReturn_frame {LL rr t s} (h_s : Frame LL rr s) (hT : Cov execMclkReturn_T LL) :
    FrameN LL rr (execMclkReturn t s) := by
  delta execMclkReturn
  extract_lets k_1 s1_2 u_3
  have h_s1_2 : Frame LL rr s1_2 := by
      unfold s1_2
      exact wr_frame h_s (pick_sub 0x2 rfl hT)
  clear_value s1_2
  exact FrameN.next (Frame.ite h_s (Frame.upd h_s1_2 (m_audio := .inl (nth 0 rfl hT))))

/-- What execPsetDataAccess may change. -/
def execPsetDataAccess_T : List Piece :=
  [.audio, .ctr .pot, .err .audio, .err .pot, .fld (HDR.ev_raw .audio), .fld (HDR.ev_raw .pot), .fld AUDIO.PSET_INDEX.index, .resp, .sent, .world]

theorem execPsetDataAccess_frame {LL rr w v s} (h_s : Frame LL rr s) (hT : Cov execPsetDataAccess_T LL) :
    FrameN LL rr (execPsetDataAccess w v s) := by
  delta execPsetDataAccess
  exact FrameN.next (psetAccess_frame h_s (pick_sub 0x3ff rfl hT))

/-- What execSafeloadGo may change. -/
def execSafeloadGo_T : List Piece :=
  [.audio, .ctr .audio, .ctr .pot, .err .audio, .err .pot, .fld (HDR.ev_raw .audio), .fld (HDR.ev_raw .pot), .fld AUDIO.ENG_STAT.waiting,
   .fld AUDIO.SAFELOAD.pending, .resp, .sent, .world]

theorem execSafeloadGo_frame {LL rr w s} (h_s : Frame LL rr s) (hT : Cov execSafeloadGo_T LL) :
    FrameN LL rr (execSafeloadGo w s) := by
  delta execSafeloadGo
  exact FrameN.next (safeloadGo_frame h_s (pick_sub 0xfff rfl hT))

/-- What execSilenceHoldExpiry may change. -/
def execSilenceHoldExpiry_T : List Piece :=
  [.audio, .fld (HDR.ev_raw .audio), .fld AUDIO.PORT_STAT.amp_en, .pins, .sent]

theorem execSilenceHoldExpiry_frame {LL rr t s} (h_s : Frame LL rr s) (hT : Cov execSilenceHoldExpiry_T LL) :
    FrameN LL rr (execSilenceHoldExpiry t s) := by
  delta execSilenceHoldExpiry
  exact FrameN.next (Frame.ite h_s (ampSync_frame (Frame.upd h_s (m_audio := .inl (nth 0 rfl hT))) (pick_sub 0x1e rfl hT)))

end Sys2Proof.Laws
end

