-- ==== Sys2Proof/Laws/FramePins.lean ====
section
/-! SUPPORT. What the operations and commands of Machine/Pins.lean may change: the parts of each, and that nothing else changes. -/

set_option Elab.async false

namespace Sys2Proof.Laws

open Machine

/-- What State.pinChange may change. -/
def pinChange_T : List Piece :=
  [.blk .enc, .blk .gpio, .ctl, .ctr .enc, .fld GPIO.PIN_OWNER.owner]

theorem pinChange_frame {LL rr s i o} (h_s : Frame LL rr s) (hT : Cov pinChange_T LL) :
    Frame LL rr (State.pinChange s i o) := by
  delta State.pinChange
  exact Frame.ite h_s (wr_frame (pinClear_frame h_s (idx_sub [1, 0, 3, 2] rfl hT)) (pick_sub 0x10 rfl hT))

/-- What State.pinsReturn may change. -/
def pinsReturn_T : List Piece :=
  [.blk .enc, .blk .gpio, .ctl, .ctr .enc, .fld GPIO.PIN_OWNER.owner]

theorem pinsReturn_frame {LL rr s o o'} (h_s : Frame LL rr s) (hT : Cov pinsReturn_T LL) :
    Frame LL rr (State.pinsReturn s o o') := by
  delta State.pinsReturn
  exact Frame.foldl h_s (fun t1 x2 h3 => Frame.ite (pinChange_frame h3 (pick_sub 0x1f rfl hT)) h3)

/-- What State.pinWrite may change. -/
def pinWrite_T (b : Blk) : List Piece :=
  [.ctr .pot, .err .pot, .err b, .fld (HDR.ev_raw .pot), .fld (HDR.ev_raw b), .resp, .sent]

theorem pinWrite_frame {LL rr s w b off v k} (h_s : Frame LL rr s) (h_k : ∀ y0, Frame LL rr y0 → Frame LL rr (k y0)) (hT : Cov (pinWrite_T b) LL) :
    Frame LL rr (State.pinWrite s w b off v k) := by
  delta State.pinWrite
  split
  · rename_i a3
    have h4 := FrameC.eqBad (L := LL) (r := rr) a3 (checkWrite_frame h_s (pick_sub 0x7f rfl hT))
    exact h4
  · rename_i a7
    have h8 := FrameC.eqGood (L := LL) (r := rr) a7 (checkWrite_frame h_s (pick_sub 0x7f rfl hT))
    exact Frame.ite (h_k _ h8) (refuse_frame h_s (pick_sub 0x74 rfl hT))

end Sys2Proof.Laws
end

