-- ==== Sys2Proof/Laws/FrameDram.lean ====
section
/-! SUPPORT. What the operations and commands of Machine/Dram.lean may change: the parts of each, and that nothing else changes. -/

set_option Elab.async false

namespace Sys2Proof.Laws

open Machine

/-- What State.spareTrigger may change. -/
def spareTrigger_T : List Piece :=
  [.err .dram, .fld (HDR.ev_raw .dram), .fld DRAM.SPARE_STAT.cause, .fld DRAM.SPARE_STAT.deferred, .fld DRAM.SPARE_STAT.done_64k,
   .fld DRAM.SPARE_STAT.rank, .fld DRAM.SPARE_STAT.state, .mem, .sent]

theorem spareTrigger_frame {LL rr s n l cause rid} (h_s : Frame LL rr s) (hT : Cov spareTrigger_T LL) :
    Frame LL rr (State.spareTrigger s n l cause rid) := by
  delta State.spareTrigger
  split
  · exact raise_frame (recErr_frame h_s (pick_sub 0x103 rfl hT)) (pick_sub 0x102 rfl hT)
  · exact Frame.ite (recErr_frame (wr_frame (Frame.upd h_s (m_mem := .inl (nth 7 rfl hT))) (pick_sub 0x8 rfl hT)) (pick_sub 0x103 rfl hT)) (by
        extract_lets u_6 s1_7
        have h_s1_7 : Frame LL rr s1_7 := by
            unfold s1_7
            exact Frame.upd h_s (m_mem := .inl (nth 7 rfl hT))
        clear_value s1_7
        exact raise_frame (wr_frame (wr_frame (wr_frame (wr_frame h_s1_7 (pick_sub 0x40 rfl hT)) (pick_sub 0x20 rfl hT)) (pick_sub 0x4 rfl hT)) (pick_sub 0x10 rfl hT)) (pick_sub 0x102 rfl hT))

/-- What State.startDeferred may change. -/
def startDeferred_T : List Piece :=
  [.err .dram, .fld (HDR.ev_raw .dram), .fld DRAM.SPARE_STAT.cause, .fld DRAM.SPARE_STAT.deferred, .fld DRAM.SPARE_STAT.done_64k,
   .fld DRAM.SPARE_STAT.rank, .fld DRAM.SPARE_STAT.state, .mem, .sent]

theorem startDeferred_frame {LL rr s} (h_s : Frame LL rr s) (hT : Cov startDeferred_T LL) :
    Frame LL rr (State.startDeferred s) := by
  delta State.startDeferred
  exact Frame.foldl h_s (fun t1 x2 h3 => by
      extract_lets d_4 u_5
      exact Frame.ite h3 (spareTrigger_frame (Frame.upd h3 (m_mem := .inl (nth 7 rfl hT))) (pick_sub 0x1ff rfl hT)))

/-- What State.spareStart may change. -/
def spareStart_T : List Piece :=
  [.err .dram, .fld (HDR.ev_raw .dram), .fld DRAM.SPARE_STAT.cause, .fld DRAM.SPARE_STAT.deferred, .fld DRAM.SPARE_STAT.done_64k,
   .fld DRAM.SPARE_STAT.rank, .fld DRAM.SPARE_STAT.state, .mem, .resp, .sent]

theorem spareStart_frame {LL rr s w n rank} (h_s : Frame LL rr s) (hT : Cov spareStart_T LL) :
    Frame LL rr (State.spareStart s w n rank) := by
  delta State.spareStart
  extract_lets t_1
  have h_t_1 : Frame LL rr t_1 := by
      unfold t_1
      exact spareTrigger_frame h_s (pick_sub 0x2ff rfl hT)
  clear_value t_1
  exact Frame.ite (errResp_frame h_t_1 (pick_sub 0x100 rfl hT)) h_t_1

/-- What State.spareDrop may change. -/
def spareDrop_T : List Piece :=
  [.ctr .dram, .fld DRAM.SPARE_STAT.state]

theorem spareDrop_frame {LL rr s n} (h_s : Frame LL rr s) (hT : Cov spareDrop_T LL) :
    Frame LL rr (State.spareDrop s n) := by
  delta State.spareDrop
  exact wr_frame (Frame.ite (count_frame h_s (pick_sub 0x1 rfl hT)) h_s) (pick_sub 0x2 rfl hT)

/-- What State.spareCancel may change. -/
def spareCancel_T : List Piece :=
  [.ctr .dram, .fld DRAM.SPARE_STAT.state]

theorem spareCancel_frame {LL rr s n} (h_s : Frame LL rr s) (hT : Cov spareCancel_T LL) :
    Frame LL rr (State.spareCancel s n) := by
  delta State.spareCancel
  exact Frame.ite (spareDrop_frame h_s (pick_sub 0x3 rfl hT)) h_s

/-- What State.admitPort may change. -/
def admitPort_T : List Piece :=
  [.err .dramq, .fld (HDR.ev_raw .dramq), .fld DRAMQ.ADMIT_USED.used, .fld DRAMQ.PORT_STAT.admit_seq, .mem, .resp, .sent]

theorem admitPort_frame {LL rr s w off p cls rate store} (h_s : Frame LL rr s) (h_store : ∀ y0, Frame LL rr y0 → Frame LL rr (store y0)) (hT : Cov admitPort_T LL) :
    Frame LL rr (State.admitPort s w off p cls rate store) := by
  delta State.admitPort
  extract_lets old_1 new_2 s1_3 u_4
  have h_s1_3 : Frame LL rr s1_3 := by
      unfold s1_3
      exact wr_frame (h_store _ (bucketSettle_frame h_s (pick_sub 0x10 rfl hT))) (pick_sub 0x4 rfl hT)
  clear_value s1_3
  exact Frame.ite (raise_frame (refuse_frame h_s (pick_sub 0x63 rfl hT)) (pick_sub 0x42 rfl hT)) (Frame.ite (wr_frame (Frame.upd h_s1_3 (m_mem := .inl (nth 4 rfl hT))) (pick_sub 0x8 rfl hT)) (Frame.ite (wr_frame h_s1_3 (pick_sub 0x8 rfl hT)) h_s1_3))

/-- What State.portWrite may change. -/
def portWrite_T (off : Nat) : List Piece :=
  [.err .dramq, .fld (HDR.dirty .dramq), .fld (HDR.ev_raw .dramq), .fld DRAMQ.ADMIT_USED.used, .fld DRAMQ.PORT_STAT.admit_seq, .mem,
   .reg .dramq off, .resp, .sent]

theorem portWrite_frame {LL rr s w off v} (h_s : Frame LL rr s) (hT : Cov (portWrite_T off) LL) :
    Frame LL rr (State.portWrite s w off v) := by
  delta State.portWrite
  extract_lets p_1
  exact Frame.ite (Frame.ite (refuse_frame h_s (pick_sub 0x185 rfl hT)) (admitPort_frame h_s (fun t2 h3 => storeWord_frame h3 (pick_sub 0x42 rfl hT)) (pick_sub 0x1bd rfl hT))) (admitPort_frame h_s (fun t4 h5 => storeWord_frame h5 (pick_sub 0x42 rfl hT)) (pick_sub 0x1bd rfl hT))

/-- What State.effWrite may change. -/
def effWrite_T : List Piece :=
  [.err .dramq, .fld (HDR.ev_raw .dramq), .fld DRAMQ.ADMIT_CAP.cap, .fld DRAMQ.ADMIT_EFF.eff, .resp, .sent]

theorem effWrite_frame {LL rr s w v} (h_s : Frame LL rr s) (hT : Cov effWrite_T LL) :
    Frame LL rr (State.effWrite s w v) := by
  delta State.effWrite
  extract_lets eff_1
  exact Frame.ite (refuse_frame h_s (pick_sub 0x33 rfl hT)) (Frame.ite (raise_frame (refuse_frame h_s (pick_sub 0x33 rfl hT)) (pick_sub 0x22 rfl hT)) (wr_frame (wr_frame h_s (pick_sub 0x8 rfl hT)) (pick_sub 0x4 rfl hT)))

/-- What State.markBroken may change. -/
def markBroken_T : List Piece :=
  [.fld DRAMQ.BROKEN.ports, .fld DRAMQ.BROKEN_INST.inst, .fld DRAMQ.PORT_STAT.broken, .fld DRAMQ.RES_STAT.broken]

theorem markBroken_frame {LL rr s r v} (h_s : Frame LL rr s) (hT : Cov markBroken_T LL) :
    Frame LL rr (State.markBroken s r v) := by
  delta State.markBroken
  exact Frame.ite (wr_frame (wrB_frame h_s (pick_sub 0x4 rfl hT)) (pick_sub 0x1 rfl hT)) (wr_frame (wrB_frame h_s (pick_sub 0x8 rfl hT)) (pick_sub 0x2 rfl hT))

/-- What State.breakOne may change. -/
def breakOne_T : List Piece :=
  [.evSeq, .events, .fld (HDR.ev_raw .dramq), .fld DRAMQ.BROKEN.ports, .fld DRAMQ.BROKEN_INST.inst, .fld DRAMQ.PORT_STAT.broken,
   .fld DRAMQ.RES_STAT.broken, .mem, .sent]

theorem breakOne_frame {LL rr s short r} (h_s : Frame LL rr s) (hT : Cov breakOne_T LL) :
    Frame LL rr (State.breakOne s short r) := by
  delta State.breakOne
  extract_lets s1_1 u_2 s2_3
  have h_s1_1 : Frame LL rr s1_1 := by
      unfold s1_1
      exact raise_frame (markBroken_frame h_s (pick_sub 0x78 rfl hT)) (pick_sub 0x104 rfl hT)
  have h_s2_3 : Frame LL rr s2_3 := by
      unfold s2_3
      exact Frame.upd h_s1_1 (m_mem := .inl (nth 7 rfl hT))
  clear_value s1_1 s2_3
  exact Frame.ite (event_frame h_s2_3 (pick_sub 0x3 rfl hT)) (event_frame h_s2_3 (pick_sub 0x3 rfl hT))

/-- What State.dramAccept may change. -/
def dramAccept_T : List Piece :=
  [.mem]

theorem dramAccept_frame {LL rr s r} (h_s : Frame LL rr s) (hT : Cov dramAccept_T LL) :
    Frame LL rr (State.dramAccept s r) := by
  delta State.dramAccept
  extract_lets c_1 u_2 u_3
  have h_c_1 : FrameR LL rr c_1 := by
      unfold c_1
      exact classify_frame h_s (pick_sub 0x1 rfl hT)
  have h_u_2 : Frame LL rr u_2 := by
      unfold u_2
      exact FrameR.snd h_c_1
  clear_value c_1 u_2
  exact Frame.upd h_u_2 (m_mem := .inl (nth 0 rfl hT))

/-- What State.spareFail may change. -/
def spareFail_T : List Piece :=
  [.ctr .dram, .err .dram, .fld (HDR.ev_raw .dram), .fld DRAM.SPARE_STAT.state, .fld DRAM.SUB_STAT.spare_avail, .sent]

theorem spareFail_frame {LL rr s n} (h_s : Frame LL rr s) (hT : Cov spareFail_T LL) :
    Frame LL rr (State.spareFail s n) := by
  delta State.spareFail
  exact recErr_frame (wr_frame (spareDrop_frame h_s (pick_sub 0x9 rfl hT)) (pick_sub 0x10 rfl hT)) (pick_sub 0x26 rfl hT)

/-- What State.rankBad may change. -/
def rankBad_T : List Piece :=
  [.ctr .dram, .err .dram, .fld (HDR.ev_raw .dram), .fld DRAM.SPARE_STAT.cause, .fld DRAM.SPARE_STAT.deferred, .fld DRAM.SPARE_STAT.done_64k,
   .fld DRAM.SPARE_STAT.rank, .fld DRAM.SPARE_STAT.state, .fld DRAM.SUB_STAT.spare_avail, .mem, .sent]

theorem rankBad_frame {LL rr s n p cause} (h_s : Frame LL rr s) (hT : Cov rankBad_T LL) :
    Frame LL rr (State.rankBad s n p cause) := by
  delta State.rankBad
  exact Frame.ite (spareFail_frame h_s (pick_sub 0x587 rfl hT)) (by
      split
      · exact Frame.ite h_s (Frame.ite (spareTrigger_frame h_s (pick_sub 0x6fe rfl hT)) h_s)
      · exact h_s)

/-- What State.rankCorrected may change. -/
def rankCorrected_T : List Piece :=
  [.ctr .dram, .err .dram, .fld (HDR.ev_raw .dram), .fld DRAM.CE_RANK.count, .fld DRAM.SPARE_STAT.cause, .fld DRAM.SPARE_STAT.deferred,
   .fld DRAM.SPARE_STAT.done_64k, .fld DRAM.SPARE_STAT.rank, .fld DRAM.SPARE_STAT.state, .fld DRAM.SUB_STAT.spare_avail, .mem, .sent]

theorem rankCorrected_frame {LL rr s n p} (h_s : Frame LL rr s) (hT : Cov rankCorrected_T LL) :
    Frame LL rr (State.rankCorrected s n p) := by
  delta State.rankCorrected
  extract_lets l_1 u_2 s1_3 s2_4 lim_5
  have h_s1_3 : Frame LL rr s1_3 := by
      unfold s1_3
      exact wr_frame (Frame.upd h_s (m_mem := .inl (nth 10 rfl hT))) (pick_sub 0x8 rfl hT)
  have h_s2_4 : Frame LL rr s2_4 := by
      unfold s2_4
      exact raise_frame (count_frame (recErr_frame h_s1_3 (pick_sub 0x806 rfl hT)) (pick_sub 0x1 rfl hT)) (pick_sub 0x804 rfl hT)
  clear_value s1_3 s2_4
  exact Frame.ite (rankBad_frame h_s2_4 (pick_sub 0xff7 rfl hT)) h_s2_4

/-- What State.poisonLine may change. -/
def poisonLine_T : List Piece :=
  [.mem]

theorem poisonLine_frame {LL rr s line} (h_s : Frame LL rr s) (hT : Cov poisonLine_T LL) :
    Frame LL rr (State.poisonLine s line) := by
  delta State.poisonLine
  exact Frame.upd h_s (m_mem := .inl (nth 0 rfl hT))

/-- What State.rankUncorrectable may change. -/
def rankUncorrectable_T : List Piece :=
  [.ctr .dram, .err .dram, .fld (HDR.ev_raw .dram), .fld DRAM.SPARE_STAT.cause, .fld DRAM.SPARE_STAT.deferred, .fld DRAM.SPARE_STAT.done_64k,
   .fld DRAM.SPARE_STAT.rank, .fld DRAM.SPARE_STAT.state, .fld DRAM.SUB_STAT.spare_avail, .mem, .sent]

theorem rankUncorrectable_frame {LL rr s n p rid pa} (h_s : Frame LL rr s) (hT : Cov rankUncorrectable_T LL) :
    Frame LL rr (State.rankUncorrectable s n p rid pa) := by
  delta State.rankUncorrectable
  extract_lets s1_1
  have h_s1_1 : Frame LL rr s1_1 := by
      unfold s1_1
      exact raise_frame (count_frame (recErr_frame h_s (pick_sub 0x406 rfl hT)) (pick_sub 0x1 rfl hT)) (pick_sub 0x404 rfl hT)
  clear_value s1_1
  exact rankBad_frame h_s1_1 (pick_sub 0x7ff rfl hT)

/-- What State.lineRead may change. -/
def lineRead_T : List Piece :=
  [.ctr .dram, .err .dram, .fld (HDR.ev_raw .dram), .fld DRAM.CE_RANK.count, .fld DRAM.SPARE_STAT.cause, .fld DRAM.SPARE_STAT.deferred,
   .fld DRAM.SPARE_STAT.done_64k, .fld DRAM.SPARE_STAT.rank, .fld DRAM.SPARE_STAT.state, .fld DRAM.SUB_STAT.spare_avail, .mem, .sent]

theorem lineRead_frame {LL rr s n pa rid find} (h_s : Frame LL rr s) (hT : Cov lineRead_T LL) :
    FrameP LL rr (State.lineRead s n pa rid find) := by
  delta State.lineRead
  exact FrameP.ite (FrameP.mk (count_frame (recErr_frame h_s (pick_sub 0x806 rfl hT)) (pick_sub 0x1 rfl hT))) (by
      split
      · exact FrameP.mk h_s
      · exact FrameP.mk (rankCorrected_frame h_s (pick_sub 0xfff rfl hT))
      · exact FrameP.mk (poisonLine_frame (rankUncorrectable_frame h_s (pick_sub 0xff7 rfl hT)) (pick_sub 0x400 rfl hT)))

/-- What State.dramIssue may change. -/
def dramIssue_T : List Piece :=
  [.ctr .dram, .ctr .dramq, .dram, .err .dram, .fld (HDR.ev_raw .dram), .fld DRAM.CE_RANK.count, .fld DRAM.SPARE_STAT.cause,
   .fld DRAM.SPARE_STAT.deferred, .fld DRAM.SPARE_STAT.done_64k, .fld DRAM.SPARE_STAT.rank, .fld DRAM.SPARE_STAT.state,
   .fld DRAM.SUB_STAT.spare_avail, .mem, .resp, .sent]

theorem dramIssue_frame {LL rr s w find} (h_s : Frame LL rr s) (hT : Cov dramIssue_T LL) :
    Frame LL rr (State.dramIssue s w find) := by
  delta State.dramIssue
  extract_lets r_1 pa_2 n_3 port_4 s1_5
  have h_s1_5 : Frame LL rr s1_5 := by
      unfold s1_5
      exact Frame.ite (count_frame h_s (pick_sub 0x2 rfl hT)) h_s
  clear_value s1_5
  exact Frame.ite (errResp_frame (count_frame h_s1_5 (pick_sub 0x2 rfl hT)) (pick_sub 0x2000 rfl hT)) (Frame.ite (by
      split
      · rename_i a8
        have h9 := FrameP.eq (L := LL) (r := rr) a8 (lineRead_frame (lineGo_frame h_s1_5 (pick_sub 0x1003 rfl hT)) (pick_sub 0x5ff9 rfl hT))
        exact okResp_frame h9 (pick_sub 0x2000 rfl hT)
      · rename_i a12
        have h13 := FrameP.eq (L := LL) (r := rr) a12 (lineRead_frame (lineGo_frame h_s1_5 (pick_sub 0x1003 rfl hT)) (pick_sub 0x5ff9 rfl hT))
        exact errResp_frame h13 (pick_sub 0x2000 rfl hT)) (Frame.ite (okResp_frame (lineGo_frame (store_frame h_s1_5 (pick_sub 0x1004 rfl hT)) (pick_sub 0x1003 rfl hT)) (pick_sub 0x2000 rfl hT)) (by
      split
      · rename_i a16
        have h17 := FrameP.eq (L := LL) (r := rr) a16 (lineRead_frame (lineGo_frame h_s1_5 (pick_sub 0x1003 rfl hT)) (pick_sub 0x5ff9 rfl hT))
        extract_lets u_18
        have h_u_18 : Frame LL rr u_18 := by
            unfold u_18
            exact wrBytes_frame h17 (pick_sub 0x4 rfl hT)
        clear_value u_18
        exact okResp_frame (lineGo_frame h_u_18 (pick_sub 0x1003 rfl hT)) (pick_sub 0x2000 rfl hT)
      · rename_i a21
        have h22 := FrameP.eq (L := LL) (r := rr) a21 (lineRead_frame (lineGo_frame h_s1_5 (pick_sub 0x1003 rfl hT)) (pick_sub 0x5ff9 rfl hT))
        exact errResp_frame h22 (pick_sub 0x2000 rfl hT))))

/-- What State.dramSlot may change. -/
def dramSlot_T : List Piece :=
  [.ctr .dram, .ctr .dramq, .dram, .err .dram, .fld (HDR.ev_raw .dram), .fld DRAM.CE_RANK.count, .fld DRAM.SPARE_STAT.cause,
   .fld DRAM.SPARE_STAT.deferred, .fld DRAM.SPARE_STAT.done_64k, .fld DRAM.SPARE_STAT.rank, .fld DRAM.SPARE_STAT.state,
   .fld DRAM.SUB_STAT.spare_avail, .mem, .resp, .sent]

theorem dramSlot_frame {LL rr s n blocked find} (h_s : Frame LL rr s) (hT : Cov dramSlot_T LL) :
    Frame LL rr (State.dramSlot s n blocked find) := by
  delta State.dramSlot
  exact Frame.ite h_s (by
      extract_lets u_1 s1_2 u_3
      have h_s1_2 : Frame LL rr s1_2 := by
          unfold s1_2
          exact Frame.upd h_s (m_mem := .inl (nth 12 rfl hT))
      clear_value s1_2
      split
      · exact dramIssue_frame (Frame.upd h_s1_2 (m_mem := .inl (nth 12 rfl hT))) (pick_sub 0x7fff rfl hT)
      · exact h_s1_2)

/-- What State.restoreOne may change. -/
def restoreOne_T : List Piece :=
  [.evSeq, .events, .fld (HDR.ev_raw .dramq), .fld DRAMQ.BROKEN.ports, .fld DRAMQ.BROKEN_INST.inst, .fld DRAMQ.PORT_STAT.broken,
   .fld DRAMQ.RES_STAT.broken, .sent]

theorem restoreOne_frame {LL rr s r} (h_s : Frame LL rr s) (hT : Cov restoreOne_T LL) :
    Frame LL rr (State.restoreOne s r) := by
  delta State.restoreOne
  extract_lets s1_1
  have h_s1_1 : Frame LL rr s1_1 := by
      unfold s1_1
      exact raise_frame (markBroken_frame h_s (pick_sub 0x78 rfl hT)) (pick_sub 0x84 rfl hT)
  clear_value s1_1
  exact Frame.ite (event_frame h_s1_1 (pick_sub 0x3 rfl hT)) (event_frame h_s1_1 (pick_sub 0x3 rfl hT))

/-- What State.qosWindow may change. -/
def qosWindow_T : List Piece :=
  [.ctr .dramq, .evSeq, .events, .fld (HDR.ev_raw .dramq), .fld DRAMQ.BROKEN.ports, .fld DRAMQ.BROKEN_INST.inst, .fld DRAMQ.PORT_STAT.broken,
   .fld DRAMQ.RES_STAT.broken, .fld DRAMQ.SHORTFALL.units, .mem, .sent]

theorem qosWindow_frame {LL rr s slots} (h_s : Frame LL rr s) (hT : Cov qosWindow_T LL) :
    Frame LL rr (State.qosWindow s slots) := by
  delta State.qosWindow
  extract_lets cap_1 all_2 live_3 demand_4 short_5 brk_6 u_7 t_8 t_9 u_10 s1_11 u_12
  have h_t_8 : Frame LL rr t_8 := by
      unfold t_8
      exact Frame.foldl (Frame.upd h_s (m_mem := .inl (nth 9 rfl hT))) (fun t13 x14 h15 => breakOne_frame h15 (pick_sub 0x6fe rfl hT))
  have h_t_9 : Frame LL rr t_9 := by
      unfold t_9
      exact Frame.foldl h_s (fun t16 x17 h18 => restoreOne_frame h18 (pick_sub 0x4fe rfl hT))
  have h_s1_11 : Frame LL rr s1_11 := by
      unfold s1_11
      exact Frame.ite (Frame.ite h_t_8 (count_frame (wr_frame h_t_8 (pick_sub 0x100 rfl hT)) (pick_sub 0x1 rfl hT))) (Frame.ite (Frame.upd h_s (m_mem := .inl (nth 9 rfl hT))) (Frame.ite h_s (Frame.ite (Frame.upd h_s (m_mem := .inl (nth 9 rfl hT))) (Frame.upd h_t_9 (m_mem := .inl (nth 9 rfl hT))))))
  clear_value t_8 t_9 s1_11
  exact Frame.upd h_s1_11 (m_mem := .inl (nth 9 rfl hT))

/-- What State.rankSwitch may change. -/
def rankSwitch_T : List Piece :=
  [.fld (HDR.ev_raw .dram), .fld DRAM.RANK_MAP.map, .fld DRAM.SPARE_STAT.state, .fld DRAM.SUB_STAT.spare_avail, .sent]

theorem rankSwitch_frame {LL rr s n} (h_s : Frame LL rr s) (hT : Cov rankSwitch_T LL) :
    Frame LL rr (State.rankSwitch s n) := by
  delta State.rankSwitch
  exact Frame.ite (by
      extract_lets l_1 m_2 u_3
      exact raise_frame (wr_frame (wr_frame (wr_frame h_s (pick_sub 0x2 rfl hT)) (pick_sub 0x4 rfl hT)) (pick_sub 0x8 rfl hT)) (pick_sub 0x11 rfl hT)) h_s

/-- What State.rowsClose may change. -/
def rowsClose_T : List Piece :=
  [.mem]

theorem rowsClose_frame {LL rr s n} (h_s : Frame LL rr s) (hT : Cov rowsClose_T LL) :
    Frame LL rr (State.rowsClose s n) := by
  delta State.rowsClose
  exact Frame.upd h_s (m_mem := .inl (nth 0 rfl hT))

/-- What State.replay may change. -/
def replay_T : List Piece :=
  [.mem]

theorem replay_frame {LL rr s n l} (h_s : Frame LL rr s) (hT : Cov replay_T LL) :
    Frame LL rr (State.replay s n l) := by
  delta State.replay
  exact Frame.foldl (issueCmd_frame (rowsClose_frame h_s (pick_sub 0x1 rfl hT)) (pick_sub 0x1 rfl hT)) (fun t1 x2 h3 => issueCmd_frame h3 (pick_sub 0x1 rfl hT))

/-- What State.testAccess may change. -/
def testAccess_T : List Piece :=
  [.ctr .dram, .ctr .dramq, .mem]

theorem testAccess_frame {LL rr s n rank write} (h_s : Frame LL rr s) (hT : Cov testAccess_T LL) :
    Frame LL rr (State.testAccess s n rank write) := by
  delta State.testAccess
  extract_lets s1_1 s2_2
  have h_s1_1 : Frame LL rr s1_1 := by
      unfold s1_1
      exact FrameR.snd (classify_frame h_s (pick_sub 0x4 rfl hT))
  have h_s2_2 : Frame LL rr s2_2 := by
      unfold s2_2
      exact count_frame (count_frame (count_frame h_s1_1 (pick_sub 0x2 rfl hT)) (pick_sub 0x1 rfl hT)) (pick_sub 0x1 rfl hT)
  clear_value s1_1 s2_2
  exact issueCmd_frame (issueCmd_frame h_s2_2 (pick_sub 0x4 rfl hT)) (pick_sub 0x4 rfl hT)

/-- What execAdmitEffWrite may change. -/
def execAdmitEffWrite_T : List Piece :=
  [.ctr .pot, .err .dramq, .err .pot, .fld (HDR.ev_raw .dramq), .fld (HDR.ev_raw .pot), .fld DRAMQ.ADMIT_CAP.cap, .fld DRAMQ.ADMIT_EFF.eff, .resp,
   .sent, .world]

theorem execAdmitEffWrite_frame {LL rr w v s} (h_s : Frame LL rr s) (hT : Cov execAdmitEffWrite_T LL) :
    FrameN LL rr (execAdmitEffWrite w v s) := by
  delta execAdmitEffWrite
  exact FrameN.next (onWrite_frame h_s (fun t1 h2 => effWrite_frame h2 (pick_sub 0x1ea rfl hT)) (idx_sub [0, 2, 1, 4, 3, 7, 8, 9] rfl hT))

/-- What execCaReplay may change. -/
def execCaReplay_T : List Piece :=
  [.ctr .dram, .err .dram, .faults, .fld (HDR.ev_raw .dram), .fld DRAM.SUB_STAT.offline, .mem, .sent]

theorem execCaReplay_frame {LL rr n late s} (h_s : Frame LL rr s) (hT : Cov execCaReplay_T LL) :
    FrameN LL rr (execCaReplay n late s) := by
  delta execCaReplay
  extract_lets k_1 l_2 s1_3 done_4 c_5 r_6 u_7 s2_8 u_9
  have h_s1_3 : Frame LL rr s1_3 := by
      unfold s1_3
      exact raise_frame (recErr_frame (count_frame (count_frame (replay_frame h_s (pick_sub 0x20 rfl hT)) (pick_sub 0x1 rfl hT)) (pick_sub 0x1 rfl hT)) (pick_sub 0x4a rfl hT)) (pick_sub 0x48 rfl hT)
  have h_s2_8 : Frame LL rr s2_8 := by
      unfold s2_8
      exact Frame.upd h_s1_3 (m_mem := .inl (nth 5 rfl hT))
  clear_value s1_3 s2_8
  exact FrameN.next (Frame.ite (faultLine_frame (raise_frame (recErr_frame (wr_frame h_s2_8 (pick_sub 0x10 rfl hT)) (pick_sub 0x4a rfl hT)) (pick_sub 0x48 rfl hT)) (pick_sub 0x4 rfl hT)) (Frame.ite (raise_frame (recErr_frame (Frame.upd h_s2_8 (m_mem := .inl (nth 5 rfl hT))) (pick_sub 0x4a rfl hT)) (pick_sub 0x48 rfl hT)) h_s2_8))

/-- What execCaRetrainDone may change. -/
def execCaRetrainDone_T : List Piece :=
  [.mem]

theorem execCaRetrainDone_frame {LL rr n s} (h_s : Frame LL rr s) (hT : Cov execCaRetrainDone_T LL) :
    FrameN LL rr (execCaRetrainDone n s) := by
  delta execCaRetrainDone
  exact FrameN.next (Frame.ite (Frame.upd h_s (m_mem := .inl (nth 0 rfl hT))) h_s)

/-- What execDramRefresh may change. -/
def execDramRefresh_T : List Piece :=
  [.ctr .dram, .fld (HDR.ev_raw .dram), .fld DRAM.RANK_MAP.map, .fld DRAM.SPARE_STAT.state, .fld DRAM.SUB_STAT.hot, .fld DRAM.SUB_STAT.spare_avail,
   .mem, .sent]

theorem execDramRefresh_frame {LL rr n s} (h_s : Frame LL rr s) (hT : Cov execDramRefresh_T LL) :
    FrameN LL rr (execDramRefresh n s) := by
  delta execDramRefresh
  extract_lets s1_1 s2_2 s3_3 want_4
  have h_s1_1 : Frame LL rr s1_1 := by
      unfold s1_1
      exact count_frame h_s (pick_sub 0x1 rfl hT)
  have h_s2_2 : Frame LL rr s2_2 := by
      unfold s2_2
      exact Frame.ite (count_frame h_s1_1 (pick_sub 0x1 rfl hT)) h_s1_1
  have h_s3_3 : Frame LL rr s3_3 := by
      unfold s3_3
      exact rankSwitch_frame (rowsClose_frame (issueCmd_frame h_s2_2 (pick_sub 0x40 rfl hT)) (pick_sub 0x40 rfl hT)) (pick_sub 0xae rfl hT)
  clear_value s1_1 s2_2 s3_3
  exact FrameN.next (Frame.ite (Frame.foldl h_s3_3 (fun t5 x6 h7 => raise_frame (wrB_frame h7 (pick_sub 0x10 rfl hT)) (pick_sub 0x82 rfl hT))) h_s3_3)

/-- What execDramRequest may change. -/
def execDramRequest_T : List Piece :=
  [.ctr .dram, .ctr .dramq, .dram, .err .dram, .fld (HDR.ev_raw .dram), .fld DRAM.CE_RANK.count, .fld DRAM.SPARE_STAT.cause,
   .fld DRAM.SPARE_STAT.deferred, .fld DRAM.SPARE_STAT.done_64k, .fld DRAM.SPARE_STAT.rank, .fld DRAM.SPARE_STAT.state,
   .fld DRAM.SUB_STAT.spare_avail, .mem, .resp, .sent]

theorem execDramRequest_frame {LL rr n arrive blocked find s} (h_s : Frame LL rr s) (hT : Cov execDramRequest_T LL) :
    FrameN LL rr (execDramRequest n arrive blocked find s) := by
  delta execDramRequest
  exact FrameN.next (dramSlot_frame (Frame.foldl h_s (fun t1 x2 h3 => dramAccept_frame h3 (pick_sub 0x1000 rfl hT))) (pick_sub 0x7fff rfl hT))

/-- What execLivenessTest may change. -/
def execLivenessTest_T : List Piece :=
  [.ctr .dram, .ctr .dramq, .faults, .mem, .safe]

theorem execLivenessTest_frame {LL rr mismatch latencyNs s} (h_s : Frame LL rr s) (hT : Cov execLivenessTest_T LL) :
    FrameN LL rr (execLivenessTest mismatch latencyNs s) := by
  delta execLivenessTest
  extract_lets ranks_1 s1_2 bad_3 u_4 s2_5
  have h_s1_2 : Frame LL rr s1_2 := by
      unfold s1_2
      exact Frame.foldl h_s (fun t6 x7 h8 => testAccess_frame (testAccess_frame h8 (pick_sub 0xb rfl hT)) (pick_sub 0xb rfl hT))
  have h_s2_5 : Frame LL rr s2_5 := by
      unfold s2_5
      exact Frame.upd h_s1_2 (m_safe := .inl (nth 4 rfl hT))
  clear_value s1_2 s2_5
  exact FrameN.next (Frame.ite (faultLine_frame h_s2_5 (pick_sub 0x4 rfl hT)) h_s2_5)

/-- What execMr4Poll may change. -/
def execMr4Poll_T : List Piece :=
  [.err .dram, .fld (HDR.ev_raw .dram), .fld DRAM.REF_STAT.temp, .mem, .sent]

theorem execMr4Poll_frame {LL rr temps s} (h_s : Frame LL rr s) (hT : Cov execMr4Poll_T LL) :
    FrameN LL rr (execMr4Poll temps s) := by
  delta execMr4Poll
  extract_lets t_1 s1_2 s2_3 hot_4 u_5 c_6
  have h_s1_2 : Frame LL rr s1_2 := by
      unfold s1_2
      exact Frame.foldl h_s (fun t7 x8 h9 => wr_frame h9 (pick_sub 0x4 rfl hT))
  have h_s2_3 : Frame LL rr s2_3 := by
      unfold s2_3
      exact Frame.foldl h_s1_2 (fun t10 x11 h12 => Frame.ite (raise_frame (recErr_frame h12 (pick_sub 0x13 rfl hT)) (pick_sub 0x12 rfl hT)) h12)
  clear_value s1_2 s2_3
  exact FrameN.next (Frame.ite (Frame.upd h_s2_3 (m_mem := .inl (nth 3 rfl hT))) (Frame.upd h_s2_3 (m_mem := .inl (nth 3 rfl hT))))

/-- What execPortReservationWrite may change. -/
def execPortReservationWrite_T (rate : Bool) : List Piece :=
  [.ctr .pot, .err .dramq, .err .pot, .fld (HDR.dirty .dramq), .fld (HDR.ev_raw .dramq), .fld (HDR.ev_raw .pot), .fld DRAMQ.ADMIT_USED.used,
   .fld DRAMQ.PORT_STAT.admit_seq, .mem, .reg .dramq (if rate = true then 264 else 260), .resp, .sent, .world]

theorem execPortReservationWrite_frame {LL rr w rate v s} (h_s : Frame LL rr s) (hT : Cov (execPortReservationWrite_T rate) LL) :
    FrameN LL rr (execPortReservationWrite w rate v s) := by
  delta execPortReservationWrite
  extract_lets off_1
  exact FrameN.next (onWrite_frame h_s (fun t2 h3 => portWrite_frame h3 (pick_sub 0xfda rfl hT)) (idx_sub [0, 2, 1, 5, 4, 10, 11, 12] rfl hT))

/-- What execQosWindow may change. -/
def execQosWindow_T : List Piece :=
  [.ctr .dramq, .evSeq, .events, .fld (HDR.ev_raw .dramq), .fld DRAMQ.BROKEN.ports, .fld DRAMQ.BROKEN_INST.inst, .fld DRAMQ.PORT_STAT.broken,
   .fld DRAMQ.RES_STAT.broken, .fld DRAMQ.SHORTFALL.units, .mem, .sent]

theorem execQosWindow_frame {LL rr slots s} (h_s : Frame LL rr s) (hT : Cov execQosWindow_T LL) :
    FrameN LL rr (execQosWindow slots s) := by
  delta execQosWindow
  exact FrameN.next (qosWindow_frame h_s (pick_sub 0x7ff rfl hT))

/-- What execSpareCancel may change. -/
def execSpareCancel_T : List Piece :=
  [.ctr .dram, .ctr .pot, .err .dram, .err .pot, .fld (HDR.ev_raw .dram), .fld (HDR.ev_raw .pot), .fld DRAM.SPARE_STAT.state, .resp, .sent, .world]

theorem execSpareCancel_frame {LL rr w n s} (h_s : Frame LL rr s) (hT : Cov execSpareCancel_T LL) :
    FrameN LL rr (execSpareCancel w n s) := by
  delta execSpareCancel
  exact FrameN.next (onWrite_frame h_s (fun t1 h2 => spareCancel_frame h2 (pick_sub 0x41 rfl hT)) (idx_sub [1, 3, 2, 5, 4, 7, 8, 9] rfl hT))

/-- What execSpareCopyDone may change. -/
def execSpareCopyDone_T : List Piece :=
  [.ctr .dram, .err .dram, .fld (HDR.ev_raw .dram), .fld DRAM.SPARE_STAT.done_64k, .fld DRAM.SPARE_STAT.state, .mem, .sent]

theorem execSpareCopyDone_frame {LL rr n bad s} (h_s : Frame LL rr s) (hT : Cov execSpareCopyDone_T LL) :
    FrameN LL rr (execSpareCopyDone n bad s) := by
  delta execSpareCopyDone
  extract_lets k_1 old_2 new_3 s1_4
  have h_s1_4 : Frame LL rr s1_4 := by
      unfold s1_4
      exact Frame.foldl h_s (fun t5 x6 h7 => raise_frame (recErr_frame (count_frame (poisonLine_frame h7 (pick_sub 0x20 rfl hT)) (pick_sub 0x1 rfl hT)) (pick_sub 0x46 rfl hT)) (pick_sub 0x44 rfl hT))
  clear_value s1_4
  exact FrameN.next (Frame.ite (wr_frame (wr_frame (count_frame h_s1_4 (pick_sub 0x1 rfl hT)) (pick_sub 0x8 rfl hT)) (pick_sub 0x10 rfl hT)) h_s)

/-- What execSpareStart may change. -/
def execSpareStart_T : List Piece :=
  [.ctr .pot, .err .dram, .err .pot, .fld (HDR.ev_raw .dram), .fld (HDR.ev_raw .pot), .fld DRAM.SPARE_STAT.cause, .fld DRAM.SPARE_STAT.deferred,
   .fld DRAM.SPARE_STAT.done_64k, .fld DRAM.SPARE_STAT.rank, .fld DRAM.SPARE_STAT.state, .mem, .resp, .sent, .world]

theorem execSpareStart_frame {LL rr w n rank s} (h_s : Frame LL rr s) (hT : Cov execSpareStart_T LL) :
    FrameN LL rr (execSpareStart w n rank s) := by
  delta execSpareStart
  exact FrameN.next (onWrite_frame h_s (fun t1 h2 => spareStart_frame h2 (pick_sub 0x1fea rfl hT)) (idx_sub [0, 2, 1, 4, 3, 11, 12, 13] rfl hT))

end Sys2Proof.Laws
end

