-- ==== Sys2Proof/Laws/FrameRails.lean ====
section
/-! SUPPORT. What the operations and commands of Machine/Rails.lean may change: the parts of each, and that nothing else changes. -/

set_option Elab.async false

namespace Sys2Proof.Laws

open Machine

/-- What State.railTo may change. -/
def railTo_T : List Piece :=
  [.ctr .pwr, .fld PWR.RAIL_STAT.cmd_seq, .fld PWR.RAIL_STAT.slewing, .fld PWR.RAIL_STAT.target_mv, .pwr]

theorem railTo_frame {LL rr s n mv} (h_s : Frame LL rr s) (hT : Cov railTo_T LL) :
    Frame LL rr (State.railTo s n mv) := by
  delta State.railTo
  extract_lets u_1 s1_2 u_3 s2_4
  have h_s1_2 : Frame LL rr s1_2 := by
      unfold s1_2
      exact Frame.ite (count_frame h_s (pick_sub 0x1 rfl hT)) h_s
  have h_s2_4 : Frame LL rr s2_4 := by
      unfold s2_4
      exact Frame.upd h_s1_2 (m_pwr := .inl (nth 4 rfl hT))
  clear_value s1_2 s2_4
  exact count_frame (wr_frame (wr_frame (wr_frame h_s2_4 (pick_sub 0x8 rfl hT)) (pick_sub 0x2 rfl hT)) (pick_sub 0x4 rfl hT)) (pick_sub 0x1 rfl hT)

/-- What State.railsTo may change. -/
def railsTo_T : List Piece :=
  [.ctr .pwr, .fld PWR.RAIL_STAT.cmd_seq, .fld PWR.RAIL_STAT.slewing, .fld PWR.RAIL_STAT.target_mv, .pwr]

theorem railsTo_frame {LL rr s f} (h_s : Frame LL rr s) (hT : Cov railsTo_T LL) :
    Frame LL rr (State.railsTo s f) := by
  delta State.railsTo
  exact Frame.foldl h_s (fun t1 x2 h3 => railTo_frame h3 (pick_sub 0x1f rfl hT))

/-- What State.railFreq may change. -/
def railFreq_T : List Piece :=
  [.fld CLK.PLL_STAT.mhz]

theorem railFreq_frame {LL rr s n mhz} (h_s : Frame LL rr s) (hT : Cov railFreq_T LL) :
    Frame LL rr (State.railFreq s n mhz) := by
  delta State.railFreq
  exact Frame.foldl h_s (fun t1 x2 h3 => wr_frame h3 (pick_sub 0x1 rfl hT))

/-- What State.railReq may change. -/
def railReq_T (n : Nat) : List Piece :=
  [.ctr .pot, .ctr .pwr, .err .pot, .err .pwr, .fld (HDR.dirty .pwr), .fld (HDR.ev_raw .pot), .fld (HDR.ev_raw .pwr), .fld CLK.PLL_STAT.mhz,
   .fld PWR.RAIL_STAT.cmd_seq, .fld PWR.RAIL_STAT.freq_held, .fld PWR.RAIL_STAT.slewing, .fld PWR.RAIL_STAT.target_mv, .pwr,
   .reg .pwr (320 + 4 * n), .resp, .sent, .world]

theorem railReq_frame {LL rr s w n v} (h_s : Frame LL rr s) (hT : Cov (railReq_T n) LL) :
    Frame LL rr (State.railReq s w n v) := by
  delta State.railReq
  exact onWrite_frame h_s (fun t1 h2 => by
      extract_lets u_3
      have h_u_3 : Frame LL rr u_3 := by
          unfold u_3
          exact storeWord_frame h2 (pick_sub 0x2010 rfl hT)
      clear_value u_3
      exact Frame.ite (railTo_frame (wr_frame h_u_3 (pick_sub 0x200 rfl hT)) (pick_sub 0x1d02 rfl hT)) (railTo_frame (railFreq_frame (wr_frame h_u_3 (pick_sub 0x200 rfl hT)) (pick_sub 0x80 rfl hT)) (pick_sub 0x1d02 rfl hT))) (pick_sub 0x1c06d rfl hT)

/-- What State.oppNote may change. -/
def oppNote_T : List Piece :=
  [.pwr]

theorem oppNote_frame {LL rr s} (h_s : Frame LL rr s) (hT : Cov oppNote_T LL) :
    Frame LL rr (State.oppNote s) := by
  delta State.oppNote
  exact Frame.foldl h_s (fun t1 x2 h3 => by
      extract_lets off_4 u_5
      split
      · exact h3
      · extract_lets v_14
        exact Frame.upd h3 (m_pwr := .inl (nth 0 rfl hT)))

/-- What State.railAck may change. -/
def railAck_T : List Piece :=
  [.fld (HDR.ev_raw .pwr), .fld CLK.PLL_STAT.mhz, .fld PWR.RAIL_STAT.ack_seq, .fld PWR.RAIL_STAT.freq_held, .fld PWR.RAIL_STAT.slewing, .sent]

theorem railAck_frame {LL rr s n} (h_s : Frame LL rr s) (hT : Cov railAck_T LL) :
    Frame LL rr (State.railAck s n) := by
  delta State.railAck
  exact Frame.ite h_s (by
      extract_lets s1_1 s2_2
      have h_s1_1 : Frame LL rr s1_1 := by
          unfold s1_1
          exact wr_frame (wr_frame h_s (pick_sub 0x4 rfl hT)) (pick_sub 0x10 rfl hT)
      have h_s2_2 : Frame LL rr s2_2 := by
          unfold s2_2
          exact Frame.ite (railFreq_frame (wr_frame h_s1_1 (pick_sub 0x8 rfl hT)) (pick_sub 0x2 rfl hT)) h_s1_1
      clear_value s1_1 s2_2
      exact raise_frame h_s2_2 (pick_sub 0x21 rfl hT))

/-- What State.railsReached may change. -/
def railsReached_T : List Piece :=
  [.fld (HDR.ev_raw .pwr), .fld CLK.PLL_STAT.mhz, .fld PWR.RAIL_STAT.ack_seq, .fld PWR.RAIL_STAT.freq_held, .fld PWR.RAIL_STAT.slewing, .sent]

theorem railsReached_frame {LL rr s} (h_s : Frame LL rr s) (hT : Cov railsReached_T LL) :
    Frame LL rr (State.railsReached s) := by
  delta State.railsReached
  exact Frame.foldl h_s (fun t1 x2 h3 => railAck_frame h3 (pick_sub 0x3f rfl hT))

/-- What execRailAck may change. -/
def execRailAck_T : List Piece :=
  [.fld (HDR.ev_raw .pwr), .fld CLK.PLL_STAT.mhz, .fld PWR.RAIL_STAT.ack_seq, .fld PWR.RAIL_STAT.freq_held, .fld PWR.RAIL_STAT.slewing, .sent]

theorem execRailAck_frame {LL rr n s} (h_s : Frame LL rr s) (hT : Cov execRailAck_T LL) :
    FrameN LL rr (execRailAck n s) := by
  delta execRailAck
  exact FrameN.next (railAck_frame h_s (pick_sub 0x3f rfl hT))

/-- What execRailOppRequest may change. -/
def execRailOppRequest_T (n : Fin 2) : List Piece :=
  [.ctr .pot, .ctr .pwr, .err .pot, .err .pwr, .fld (HDR.dirty .pwr), .fld (HDR.ev_raw .pot), .fld (HDR.ev_raw .pwr), .fld CLK.PLL_STAT.mhz,
   .fld PWR.RAIL_STAT.cmd_seq, .fld PWR.RAIL_STAT.freq_held, .fld PWR.RAIL_STAT.slewing, .fld PWR.RAIL_STAT.target_mv, .pwr,
   .reg .pwr (320 + 4 * ↑n), .resp, .sent, .world]

theorem execRailOppRequest_frame {LL rr w n v s} (h_s : Frame LL rr s) (hT : Cov (execRailOppRequest_T n) LL) :
    FrameN LL rr (execRailOppRequest w n v s) := by
  delta execRailOppRequest
  exact FrameN.next (railReq_frame h_s (pick_sub 0x1ffff rfl hT))

end Sys2Proof.Laws
end

