-- ==== Sys2Proof/Laws/FrameWake.lean ====
section
/-! SUPPORT. What the operations and commands of Machine/Wake.lean may change: the parts of each, and that nothing else changes. -/

set_option Elab.async false

namespace Sys2Proof.Laws

open Machine

/-- What State.unblank may change. -/
def unblank_T : List Piece :=
  [.ctr .safe, .fld LINK.LINK_STAT.lanes_active, .fld LINK.LINK_STAT.rate_active, .fld LINK.LINK_STAT.state, .fld SAFE.HEAD_SRC.bl_off,
   .fld SAFE.HEAD_SRC.blank, .fld SAFE.HEAD_SRC.fallback, .links, .pins, .pwr]

theorem unblank_frame {LL rr s} (h_s : Frame LL rr s) (hT : Cov unblank_T LL) :
    Frame LL rr (State.unblank s) := by
  delta State.unblank
  extract_lets m_1 old_2 s1_3 u_4
  have h_s1_3 : Frame LL rr s1_3 := by
      unfold s1_3
      exact Frame.foldl h_s (fun t5 x6 h7 => wr_frame (wr_frame (wr_frame h7 (pick_sub 0x20 rfl hT)) (pick_sub 0x40 rfl hT)) (pick_sub 0x10 rfl hT))
  clear_value s1_3
  exact headSrcNow_frame (Frame.upd h_s1_3 (m_pwr := .inl (nth 9 rfl hT))) (pick_sub 0x18f rfl hT)

/-- What State.pwrStep may change. -/
def pwrStep_T : List Piece :=
  [.fld PWR.STATE.state, .fld PWR.STATE.step, .fld PWR.STATE.target, .pwr]

theorem pwrStep_frame {LL rr s state target step} (h_s : Frame LL rr s) (hT : Cov pwrStep_T LL) :
    Frame LL rr (State.pwrStep s state target step) := by
  delta State.pwrStep
  exact wr_frame (wr_frame (wr_frame (Frame.upd h_s (m_pwr := .inl (nth 3 rfl hT))) (pick_sub 0x1 rfl hT)) (pick_sub 0x4 rfl hT)) (pick_sub 0x2 rfl hT)

/-- What State.wakeNote may change. -/
def wakeNote_T : List Piece :=
  [.fld PWR.WAKE_CAUSE.first, .fld PWR.WAKE_CAUSE.source]

theorem wakeNote_frame {LL rr s n} (h_s : Frame LL rr s) (hT : Cov wakeNote_T LL) :
    Frame LL rr (State.wakeNote s n) := by
  delta State.wakeNote
  extract_lets c_1 s1_2
  have h_s1_2 : Frame LL rr s1_2 := by
      unfold s1_2
      exact wr_frame h_s (pick_sub 0x2 rfl hT)
  clear_value s1_2
  exact Frame.ite (wr_frame h_s1_2 (pick_sub 0x1 rfl hT)) h_s1_2

/-- What State.unwait may change. -/
def unwait_T : List Piece :=
  [.world]

theorem unwait_frame {LL rr s} (h_s : Frame LL rr s) (hT : Cov unwait_T LL) :
    Frame LL rr (State.unwait s) := by
  delta State.unwait
  exact Frame.upd h_s (m_world := .inl (nth 0 rfl hT))

/-- What State.entryAbandon may change. -/
def entryAbandon_T : List Piece :=
  [.ctr .hapt, .ctr .pwr, .ctr .safe, .err .dram, .fld (HDR.ev_raw .dram), .fld (HDR.ev_raw .pwr), .fld (HDR.ev_raw .surf),
   .fld (HDR.ev_raw .touch), .fld DRAM.SPARE_STAT.cause, .fld DRAM.SPARE_STAT.deferred, .fld DRAM.SPARE_STAT.done_64k, .fld DRAM.SPARE_STAT.rank,
   .fld DRAM.SPARE_STAT.state, .fld HAPT.BOOST_STAT.on, .fld LINK.LINK_STAT.lanes_active, .fld LINK.LINK_STAT.rate_active,
   .fld LINK.LINK_STAT.state, .fld PWR.STATE.state, .fld PWR.STATE.step, .fld PWR.STATE.target, .fld PWR.WAKE_CAUSE.aborted,
   .fld SAFE.HEAD_SRC.bl_off, .fld SAFE.HEAD_SRC.blank, .fld SAFE.HEAD_SRC.fallback, .fld SURF.HV_STAT.on, .fld SURF.HV_STAT.why,
   .fld TOUCH.TILE_STAT.state, .fld TOUCH.WAKE_STAT.gesture, .fld TOUCH.WAKE_STAT.woke, .hapt, .links, .mem, .pins, .pwr, .sent, .surf, .touch,
   .world]

theorem entryAbandon_frame {LL rr s} (h_s : Frame LL rr s) (hT : Cov entryAbandon_T LL) :
    Frame LL rr (State.entryAbandon s) := by
  delta State.entryAbandon
  extract_lets s1_1 u_2 s2_3
  have h_s1_1 : Frame LL rr s1_1 := by
      unfold s1_1
      exact hvSync_frame (startDeferred_frame (touchResume_frame (unwait_frame (unblank_frame (pwrStep_frame h_s (pick_sub 0x2000e0000 rfl hT)) (pick_sub 0x340e1c004 rfl hT)) (pick_sub 0x2000000000 rfl hT)) (pick_sub 0x161c000080 rfl hT)) (pick_sub 0x480001f18 rfl hT)) (pick_sub 0xc23002041 rfl hT)
  have h_s2_3 : Frame LL rr s2_3 := by
      unfold s2_3
      exact Frame.upd h_s1_1 (m_pwr := .inl (nth 33 rfl hT))
  clear_value s1_1 s2_3
  exact raise_frame (count_frame (wr_frame h_s2_3 (pick_sub 0x100000 rfl hT)) (pick_sub 0x2 rfl hT)) (pick_sub 0x400000020 rfl hT)

/-- What State.exitBegin may change. -/
def exitBegin_T : List Piece :=
  [.ctr .pwr, .fld PWR.EXIT_STAT.failed_step, .fld PWR.EXIT_STAT.from_state, .fld PWR.EXIT_STAT.osc_attempts, .fld PWR.RAIL_STAT.cmd_seq,
   .fld PWR.RAIL_STAT.slewing, .fld PWR.RAIL_STAT.target_mv, .fld PWR.STATE.state, .fld PWR.STATE.step, .fld PWR.STATE.target,
   .fld SAFE.ISL_STAT.fw_running, .pwr, .safe]

theorem exitBegin_frame {LL rr s} (h_s : Frame LL rr s) (hT : Cov exitBegin_T LL) :
    Frame LL rr (State.exitBegin s) := by
  delta State.exitBegin
  extract_lets u_1 s1_2 u_3
  have h_s1_2 : Frame LL rr s1_2 := by
      unfold s1_2
      exact wr_frame (wr_frame (wr_frame (pwrStep_frame h_s (pick_sub 0xb80 rfl hT)) (pick_sub 0x4 rfl hT)) (pick_sub 0x8 rfl hT)) (pick_sub 0x2 rfl hT)
  clear_value s1_2
  exact Frame.ite h_s1_2 (railsTo_frame (Frame.ite (wr_frame (Frame.upd h_s1_2 (m_safe := .inl (nth 12 rfl hT))) (pick_sub 0x400 rfl hT)) h_s1_2) (pick_sub 0x871 rfl hT))

/-- What State.wake may change. -/
def wake_T : List Piece :=
  [.ctr .hapt, .ctr .pwr, .ctr .safe, .err .dram, .fld (HDR.ev_raw .dram), .fld (HDR.ev_raw .pwr), .fld (HDR.ev_raw .surf),
   .fld (HDR.ev_raw .touch), .fld DRAM.SPARE_STAT.cause, .fld DRAM.SPARE_STAT.deferred, .fld DRAM.SPARE_STAT.done_64k, .fld DRAM.SPARE_STAT.rank,
   .fld DRAM.SPARE_STAT.state, .fld HAPT.BOOST_STAT.on, .fld LINK.LINK_STAT.lanes_active, .fld LINK.LINK_STAT.rate_active,
   .fld LINK.LINK_STAT.state, .fld PWR.EXIT_STAT.failed_step, .fld PWR.EXIT_STAT.from_state, .fld PWR.EXIT_STAT.osc_attempts,
   .fld PWR.RAIL_STAT.cmd_seq, .fld PWR.RAIL_STAT.slewing, .fld PWR.RAIL_STAT.target_mv, .fld PWR.STATE.state, .fld PWR.STATE.step,
   .fld PWR.STATE.target, .fld PWR.WAKE_CAUSE.aborted, .fld PWR.WAKE_CAUSE.first, .fld PWR.WAKE_CAUSE.source, .fld SAFE.HEAD_SRC.bl_off,
   .fld SAFE.HEAD_SRC.blank, .fld SAFE.HEAD_SRC.fallback, .fld SAFE.ISL_STAT.fw_running, .fld SURF.HV_STAT.on, .fld SURF.HV_STAT.why,
   .fld TOUCH.TILE_STAT.state, .fld TOUCH.WAKE_STAT.gesture, .fld TOUCH.WAKE_STAT.woke, .hapt, .links, .mem, .pins, .pwr, .safe, .sent, .surf,
   .touch, .world]

theorem wake_frame {LL rr s n} (h_s : Frame LL rr s) (hT : Cov wake_T LL) :
    Frame LL rr (State.wake s n) := by
  delta State.wake
  extract_lets st_1 u_2
  exact Frame.ite h_s (Frame.ite (wakeNote_frame h_s (pick_sub 0x18000000 rfl hT)) (Frame.ite (Frame.ite (Frame.upd h_s (m_pwr := .inl (nth 42 rfl hT))) (entryAbandon_frame (wakeNote_frame h_s (pick_sub 0x18000000 rfl hT)) (pick_sub 0xf7fee781ffff rfl hT))) (Frame.ite (exitBegin_frame (wakeNote_frame h_s (pick_sub 0x18000000 rfl hT)) (pick_sub 0xc0103fe0002 rfl hT)) h_s)))

/-- What execDevtimeAlarm may change. -/
def execDevtimeAlarm_T : List Piece :=
  [.ctr .hapt, .ctr .pwr, .ctr .safe, .err .dram, .fld (HDR.ev_raw .dram), .fld (HDR.ev_raw .pwr), .fld (HDR.ev_raw .surf),
   .fld (HDR.ev_raw .touch), .fld DRAM.SPARE_STAT.cause, .fld DRAM.SPARE_STAT.deferred, .fld DRAM.SPARE_STAT.done_64k, .fld DRAM.SPARE_STAT.rank,
   .fld DRAM.SPARE_STAT.state, .fld HAPT.BOOST_STAT.on, .fld LINK.LINK_STAT.lanes_active, .fld LINK.LINK_STAT.rate_active,
   .fld LINK.LINK_STAT.state, .fld PWR.EXIT_STAT.failed_step, .fld PWR.EXIT_STAT.from_state, .fld PWR.EXIT_STAT.osc_attempts,
   .fld PWR.RAIL_STAT.cmd_seq, .fld PWR.RAIL_STAT.slewing, .fld PWR.RAIL_STAT.target_mv, .fld PWR.STATE.state, .fld PWR.STATE.step,
   .fld PWR.STATE.target, .fld PWR.WAKE_CAUSE.aborted, .fld PWR.WAKE_CAUSE.first, .fld PWR.WAKE_CAUSE.source, .fld SAFE.HEAD_SRC.bl_off,
   .fld SAFE.HEAD_SRC.blank, .fld SAFE.HEAD_SRC.fallback, .fld SAFE.ISL_STAT.fw_running, .fld SURF.HV_STAT.on, .fld SURF.HV_STAT.why,
   .fld TOUCH.TILE_STAT.state, .fld TOUCH.WAKE_STAT.gesture, .fld TOUCH.WAKE_STAT.woke, .hapt, .links, .mem, .pins, .pwr, .safe, .sent, .surf,
   .touch, .world]

theorem execDevtimeAlarm_frame {LL rr s} (h_s : Frame LL rr s) (hT : Cov execDevtimeAlarm_T LL) :
    FrameN LL rr (execDevtimeAlarm s) := by
  delta execDevtimeAlarm
  exact FrameN.next (Frame.ite h_s (Frame.ite (wake_frame (raise_frame h_s (pick_sub 0x100000000020 rfl hT)) (pick_sub 0xffffffffffff rfl hT)) (wake_frame h_s (pick_sub 0xffffffffffff rfl hT))))

/-- What execSafetyWakeRequest may change. -/
def execSafetyWakeRequest_T : List Piece :=
  [.ctr .hapt, .ctr .pwr, .ctr .safe, .err .dram, .fld (HDR.ev_raw .dram), .fld (HDR.ev_raw .pwr), .fld (HDR.ev_raw .surf),
   .fld (HDR.ev_raw .touch), .fld DRAM.SPARE_STAT.cause, .fld DRAM.SPARE_STAT.deferred, .fld DRAM.SPARE_STAT.done_64k, .fld DRAM.SPARE_STAT.rank,
   .fld DRAM.SPARE_STAT.state, .fld HAPT.BOOST_STAT.on, .fld LINK.LINK_STAT.lanes_active, .fld LINK.LINK_STAT.rate_active,
   .fld LINK.LINK_STAT.state, .fld PWR.EXIT_STAT.failed_step, .fld PWR.EXIT_STAT.from_state, .fld PWR.EXIT_STAT.osc_attempts,
   .fld PWR.RAIL_STAT.cmd_seq, .fld PWR.RAIL_STAT.slewing, .fld PWR.RAIL_STAT.target_mv, .fld PWR.STATE.state, .fld PWR.STATE.step,
   .fld PWR.STATE.target, .fld PWR.WAKE_CAUSE.aborted, .fld PWR.WAKE_CAUSE.first, .fld PWR.WAKE_CAUSE.source, .fld SAFE.HEAD_SRC.bl_off,
   .fld SAFE.HEAD_SRC.blank, .fld SAFE.HEAD_SRC.fallback, .fld SAFE.ISL_STAT.fw_running, .fld SURF.HV_STAT.on, .fld SURF.HV_STAT.why,
   .fld TOUCH.TILE_STAT.state, .fld TOUCH.WAKE_STAT.gesture, .fld TOUCH.WAKE_STAT.woke, .hapt, .links, .mem, .pins, .pwr, .safe, .sent, .surf,
   .touch, .world]

theorem execSafetyWakeRequest_frame {LL rr s} (h_s : Frame LL rr s) (hT : Cov execSafetyWakeRequest_T LL) :
    FrameN LL rr (execSafetyWakeRequest s) := by
  delta execSafetyWakeRequest
  exact FrameN.next (wake_frame h_s (pick_sub 0xffffffffffff rfl hT))

/-- What execWakeEvent may change. -/
def execWakeEvent_T : List Piece :=
  [.ctr .hapt, .ctr .pwr, .ctr .safe, .err .dram, .fld (HDR.ev_raw .dram), .fld (HDR.ev_raw .pwr), .fld (HDR.ev_raw .surf),
   .fld (HDR.ev_raw .touch), .fld DRAM.SPARE_STAT.cause, .fld DRAM.SPARE_STAT.deferred, .fld DRAM.SPARE_STAT.done_64k, .fld DRAM.SPARE_STAT.rank,
   .fld DRAM.SPARE_STAT.state, .fld HAPT.BOOST_STAT.on, .fld LINK.LINK_STAT.lanes_active, .fld LINK.LINK_STAT.rate_active,
   .fld LINK.LINK_STAT.state, .fld PWR.EXIT_STAT.failed_step, .fld PWR.EXIT_STAT.from_state, .fld PWR.EXIT_STAT.osc_attempts,
   .fld PWR.RAIL_STAT.cmd_seq, .fld PWR.RAIL_STAT.slewing, .fld PWR.RAIL_STAT.target_mv, .fld PWR.STATE.state, .fld PWR.STATE.step,
   .fld PWR.STATE.target, .fld PWR.WAKE_CAUSE.aborted, .fld PWR.WAKE_CAUSE.first, .fld PWR.WAKE_CAUSE.source, .fld SAFE.HEAD_SRC.bl_off,
   .fld SAFE.HEAD_SRC.blank, .fld SAFE.HEAD_SRC.fallback, .fld SAFE.ISL_STAT.fw_running, .fld SURF.HV_STAT.on, .fld SURF.HV_STAT.why,
   .fld TOUCH.TILE_STAT.state, .fld TOUCH.WAKE_STAT.gesture, .fld TOUCH.WAKE_STAT.woke, .hapt, .links, .mem, .pins, .pwr, .safe, .sent, .surf,
   .touch, .world]

theorem execWakeEvent_frame {LL rr n s} (h_s : Frame LL rr s) (hT : Cov execWakeEvent_T LL) :
    FrameN LL rr (execWakeEvent n s) := by
  delta execWakeEvent
  exact FrameN.next (wake_frame h_s (pick_sub 0xffffffffffff rfl hT))

/-- What execWakePin may change. -/
def execWakePin_T : List Piece :=
  [.ctr .hapt, .ctr .pwr, .ctr .safe, .err .dram, .fld (HDR.ev_raw .dram), .fld (HDR.ev_raw .pwr), .fld (HDR.ev_raw .surf),
   .fld (HDR.ev_raw .touch), .fld DRAM.SPARE_STAT.cause, .fld DRAM.SPARE_STAT.deferred, .fld DRAM.SPARE_STAT.done_64k, .fld DRAM.SPARE_STAT.rank,
   .fld DRAM.SPARE_STAT.state, .fld HAPT.BOOST_STAT.on, .fld LINK.LINK_STAT.lanes_active, .fld LINK.LINK_STAT.rate_active,
   .fld LINK.LINK_STAT.state, .fld PWR.EXIT_STAT.failed_step, .fld PWR.EXIT_STAT.from_state, .fld PWR.EXIT_STAT.osc_attempts,
   .fld PWR.RAIL_STAT.cmd_seq, .fld PWR.RAIL_STAT.slewing, .fld PWR.RAIL_STAT.target_mv, .fld PWR.STATE.state, .fld PWR.STATE.step,
   .fld PWR.STATE.target, .fld PWR.WAKE_CAUSE.aborted, .fld PWR.WAKE_CAUSE.first, .fld PWR.WAKE_CAUSE.source, .fld SAFE.HEAD_SRC.bl_off,
   .fld SAFE.HEAD_SRC.blank, .fld SAFE.HEAD_SRC.fallback, .fld SAFE.ISL_STAT.fw_running, .fld SURF.HV_STAT.on, .fld SURF.HV_STAT.why,
   .fld TOUCH.TILE_STAT.state, .fld TOUCH.WAKE_STAT.gesture, .fld TOUCH.WAKE_STAT.woke, .hapt, .links, .mem, .pins, .pwr, .safe, .sent, .surf,
   .touch, .world]

theorem execWakePin_frame {LL rr s} (h_s : Frame LL rr s) (hT : Cov execWakePin_T LL) :
    FrameN LL rr (execWakePin s) := by
  delta execWakePin
  exact FrameN.next (wake_frame h_s (pick_sub 0xffffffffffff rfl hT))

end Sys2Proof.Laws
end

