-- ==== Sys2Proof/Laws/FrameControls.lean ====
section
/-! SUPPORT. What the operations and commands of Machine/Controls.lean may change: the parts of each, and that nothing else changes. -/

set_option Elab.async false

namespace Sys2Proof.Laws

open Machine

/-- What State.uartRead may change. -/
def uartRead_T : List Piece :=
  [.ctl, .resp]

theorem uartRead_frame {LL rr s u} (h_s : Frame LL rr s) (hT : Cov uartRead_T LL) :
    Frame LL rr (State.uartRead s u) := by
  delta State.uartRead
  split
  · exact okResp_frame h_s (pick_sub 0x2 rfl hT)
  · exact okResp_frame (Frame.upd h_s (m_ctl := .inl (nth 0 rfl hT))) (pick_sub 0x2 rfl hT)

/-- What State.encSet may change. -/
def encSet_T : List Piece :=
  [.ctr .pot, .err .enc, .err .pot, .fld (HDR.ev_raw .enc), .fld (HDR.ev_raw .pot), .fld ENC.ENC_POS.pos, .resp, .sent]

theorem encSet_frame {LL rr s w e v} (h_s : Frame LL rr s) (hT : Cov encSet_T LL) :
    Frame LL rr (State.encSet s w e v) := by
  delta State.encSet
  exact pinWrite_frame h_s (fun t1 h2 => wr_frame h2 (pick_sub 0x20 rfl hT)) (idx_sub [0, 2, 1, 4, 3, 6, 7] rfl hT)

/-- What State.pinOwnerWrite may change. -/
def pinOwnerWrite_T : List Piece :=
  [.blk .enc, .blk .gpio, .ctl, .ctr .enc, .ctr .pot, .err .gpio, .err .pot, .fld (HDR.ev_raw .gpio), .fld (HDR.ev_raw .pot),
   .fld GPIO.PIN_OWNER.owner, .resp, .sent, .world]

theorem pinOwnerWrite_frame {LL rr s w i v} (h_s : Frame LL rr s) (hT : Cov pinOwnerWrite_T LL) :
    Frame LL rr (State.pinOwnerWrite s w i v) := by
  delta State.pinOwnerWrite
  extract_lets off_1
  exact onWrite_frame h_s (fun t2 h3 => Frame.ite (pinChange_frame h3 (pick_sub 0x20f rfl hT)) (refuse_frame h3 (pick_sub 0xca0 rfl hT))) (idx_sub [4, 6, 5, 8, 7, 10, 11, 12] rfl hT)

/-- What State.gpioCfg may change. -/
def gpioCfg_T (i : Nat) : List Piece :=
  [.ctr .pot, .err .gpio, .err .pot, .fld (HDR.dirty .gpio), .fld (HDR.ev_raw .gpio), .fld (HDR.ev_raw .pot), .reg .gpio (768 + 4 * i), .resp,
   .sent]

theorem gpioCfg_frame {LL rr s w i v} (h_s : Frame LL rr s) (hT : Cov (gpioCfg_T i) LL) :
    Frame LL rr (State.gpioCfg s w i v) := by
  delta State.gpioCfg
  extract_lets off_1
  exact pinWrite_frame h_s (fun t2 h3 => Frame.ite (refuse_frame h3 (pick_sub 0x192 rfl hT)) (storeWord_frame h3 (pick_sub 0x48 rfl hT))) (idx_sub [0, 2, 1, 5, 4, 7, 8] rfl hT)

/-- What State.i2cCtrl may change. -/
def i2cCtrl_T (c : Nat) : List Piece :=
  [.ctl, .ctr .pot, .err .gpio, .err .pot, .fld (HDR.dirty .gpio), .fld (HDR.ev_raw .gpio), .fld (HDR.ev_raw .pot), .reg .gpio (1280 + 32 * c),
   .resp, .sent]

theorem i2cCtrl_frame {LL rr s w c v} (h_s : Frame LL rr s) (hT : Cov (i2cCtrl_T c) LL) :
    Frame LL rr (State.i2cCtrl s w c v) := by
  delta State.i2cCtrl
  exact pinWrite_frame h_s (fun t1 h2 => by
      extract_lets u_3 u_4
      have h_u_3 : Frame LL rr u_3 := by
          unfold u_3
          exact storeWord_frame h2 (pick_sub 0x90 rfl hT)
      clear_value u_3
      exact Frame.ite (Frame.upd h_u_3 (m_ctl := .inl (nth 0 rfl hT))) h_u_3) (idx_sub [1, 3, 2, 6, 5, 8, 9] rfl hT)

/-- What State.uartErr may change. -/
def uartErr_T : List Piece :=
  [.ctr .gpio, .fld (HDR.ev_raw .gpio), .fld GPIO.UART_STAT.errors, .sent]

theorem uartErr_frame {LL rr s u b} (h_s : Frame LL rr s) (hT : Cov uartErr_T LL) :
    Frame LL rr (State.uartErr s u b) := by
  delta State.uartErr
  exact raise_frame (count_frame (wr_frame h_s (pick_sub 0x4 rfl hT)) (pick_sub 0x1 rfl hT)) (pick_sub 0xa rfl hT)

/-- What State.uartWrite may change. -/
def uartWrite_T : List Piece :=
  [.ctl, .ctr .gpio, .ctr .pot, .err .gpio, .err .pot, .fld (HDR.ev_raw .gpio), .fld (HDR.ev_raw .pot), .fld GPIO.UART_STAT.errors, .resp, .sent]

theorem uartWrite_frame {LL rr s w u v} (h_s : Frame LL rr s) (hT : Cov uartWrite_T LL) :
    Frame LL rr (State.uartWrite s w u v) := by
  delta State.uartWrite
  exact pinWrite_frame h_s (fun t1 h2 => by
      extract_lets q_3 start_4 u_5
      exact Frame.ite (Frame.upd h2 (m_ctl := .inl (nth 0 rfl hT))) (uartErr_frame h2 (pick_sub 0x2a2 rfl hT))) (idx_sub [2, 4, 3, 6, 5, 8, 9] rfl hT)

/-- What State.encWake may change. -/
def encWake_T : List Piece :=
  [.ctr .hapt, .ctr .pwr, .ctr .safe, .err .dram, .fld (HDR.ev_raw .dram), .fld (HDR.ev_raw .enc), .fld (HDR.ev_raw .pwr), .fld (HDR.ev_raw .surf),
   .fld (HDR.ev_raw .touch), .fld DRAM.SPARE_STAT.cause, .fld DRAM.SPARE_STAT.deferred, .fld DRAM.SPARE_STAT.done_64k, .fld DRAM.SPARE_STAT.rank,
   .fld DRAM.SPARE_STAT.state, .fld ENC.ENC_WAKE.encoders, .fld HAPT.BOOST_STAT.on, .fld LINK.LINK_STAT.lanes_active,
   .fld LINK.LINK_STAT.rate_active, .fld LINK.LINK_STAT.state, .fld PWR.EXIT_STAT.failed_step, .fld PWR.EXIT_STAT.from_state,
   .fld PWR.EXIT_STAT.osc_attempts, .fld PWR.RAIL_STAT.cmd_seq, .fld PWR.RAIL_STAT.slewing, .fld PWR.RAIL_STAT.target_mv, .fld PWR.STATE.state,
   .fld PWR.STATE.step, .fld PWR.STATE.target, .fld PWR.WAKE_CAUSE.aborted, .fld PWR.WAKE_CAUSE.first, .fld PWR.WAKE_CAUSE.source,
   .fld SAFE.HEAD_SRC.bl_off, .fld SAFE.HEAD_SRC.blank, .fld SAFE.HEAD_SRC.fallback, .fld SAFE.ISL_STAT.fw_running, .fld SURF.HV_STAT.on,
   .fld SURF.HV_STAT.why, .fld TOUCH.TILE_STAT.state, .fld TOUCH.WAKE_STAT.gesture, .fld TOUCH.WAKE_STAT.woke, .hapt, .links, .mem, .pins, .pwr,
   .safe, .sent, .surf, .touch, .world]

theorem encWake_frame {LL rr s e} (h_s : Frame LL rr s) (hT : Cov encWake_T LL) :
    Frame LL rr (State.encWake s e) := by
  delta State.encWake
  extract_lets st_1
  exact Frame.ite (wake_frame (raise_frame (wr_frame h_s (pick_sub 0x4000 rfl hT)) (pick_sub 0x400000000020 rfl hT)) (pick_sub 0x3ffffffffbfdf rfl hT)) h_s

/-- What State.encMove may change. -/
def encMove_T : List Piece :=
  [.ctr .enc, .ctr .hapt, .ctr .pwr, .ctr .safe, .err .dram, .evSeq, .events, .fld (HDR.ev_raw .dram), .fld (HDR.ev_raw .enc),
   .fld (HDR.ev_raw .pwr), .fld (HDR.ev_raw .surf), .fld (HDR.ev_raw .touch), .fld DRAM.SPARE_STAT.cause, .fld DRAM.SPARE_STAT.deferred,
   .fld DRAM.SPARE_STAT.done_64k, .fld DRAM.SPARE_STAT.rank, .fld DRAM.SPARE_STAT.state, .fld ENC.ENC_POS.pos, .fld ENC.ENC_STAT.a,
   .fld ENC.ENC_STAT.b, .fld ENC.ENC_STAT.burst, .fld ENC.ENC_WAKE.encoders, .fld HAPT.BOOST_STAT.on, .fld LINK.LINK_STAT.lanes_active,
   .fld LINK.LINK_STAT.rate_active, .fld LINK.LINK_STAT.state, .fld PWR.EXIT_STAT.failed_step, .fld PWR.EXIT_STAT.from_state,
   .fld PWR.EXIT_STAT.osc_attempts, .fld PWR.RAIL_STAT.cmd_seq, .fld PWR.RAIL_STAT.slewing, .fld PWR.RAIL_STAT.target_mv, .fld PWR.STATE.state,
   .fld PWR.STATE.step, .fld PWR.STATE.target, .fld PWR.WAKE_CAUSE.aborted, .fld PWR.WAKE_CAUSE.first, .fld PWR.WAKE_CAUSE.source,
   .fld SAFE.HEAD_SRC.bl_off, .fld SAFE.HEAD_SRC.blank, .fld SAFE.HEAD_SRC.fallback, .fld SAFE.ISL_STAT.fw_running, .fld SURF.HV_STAT.on,
   .fld SURF.HV_STAT.why, .fld TOUCH.TILE_STAT.state, .fld TOUCH.WAKE_STAT.gesture, .fld TOUCH.WAKE_STAT.woke, .hapt, .links, .mem, .pins, .pwr,
   .safe, .sent, .surf, .touch, .world]

theorem encMove_frame {LL rr s e a b} (h_s : Frame LL rr s) (hT : Cov encMove_T LL) :
    Frame LL rr (State.encMove s e a b) := by
  delta State.encMove
  extract_lets a0_1 b0_2 s1_3 u_4 s2_5 up_6 d_7
  have h_s1_3 : Frame LL rr s1_3 := by
      unfold s1_3
      exact wrB_frame (wrB_frame h_s (pick_sub 0x40000 rfl hT)) (pick_sub 0x80000 rfl hT)
  have h_s2_5 : Frame LL rr s2_5 := by
      unfold s2_5
      exact count_frame (Frame.upd h_s1_3 (m_pwr := .inl (nth 51 rfl hT))) (pick_sub 0x1 rfl hT)
  clear_value s1_3 s2_5
  exact Frame.ite h_s1_3 (Frame.ite (Frame.ite h_s2_5 (raise_frame (event_frame (wr_frame h_s2_5 (pick_sub 0x100000 rfl hT)) (pick_sub 0x60 rfl hT)) (pick_sub 0x20000000000100 rfl hT))) (encWake_frame (wr_frame h_s1_3 (pick_sub 0x20000 rfl hT)) (pick_sub 0x1ffffffffe1ff9e rfl hT)))

/-- What State.i2cData may change. -/
def i2cData_T : List Piece :=
  [.fld GPIO.I2C_DATA0.data, .fld GPIO.I2C_DATA1.data, .fld GPIO.I2C_DATA2.data, .fld GPIO.I2C_DATA3.data]

theorem i2cData_frame {LL rr s c d} (h_s : Frame LL rr s) (hT : Cov i2cData_T LL) :
    Frame LL rr (State.i2cData s c d) := by
  delta State.i2cData
  exact wr_frame (wr_frame (wr_frame (wr_frame h_s (pick_sub 0x1 rfl hT)) (pick_sub 0x2 rfl hT)) (pick_sub 0x4 rfl hT)) (pick_sub 0x8 rfl hT)

/-- What State.i2cDone may change. -/
def i2cDone_T : List Piece :=
  [.ctl, .ctr .gpio, .err .gpio, .fld (HDR.ev_raw .gpio), .fld GPIO.I2C_DATA0.data, .fld GPIO.I2C_DATA1.data, .fld GPIO.I2C_DATA2.data,
   .fld GPIO.I2C_DATA3.data, .fld GPIO.I2C_STAT.count, .fld GPIO.I2C_STAT.result, .sent]

theorem i2cDone_frame {LL rr s c result count d} (h_s : Frame LL rr s) (hT : Cov i2cDone_T LL) :
    Frame LL rr (State.i2cDone s c result count d) := by
  delta State.i2cDone
  extract_lets word_1 len_2 n_3 s1_4 u_5 s2_6 s3_7 s4_8
  have h_s1_4 : Frame LL rr s1_4 := by
      unfold s1_4
      exact Frame.ite (i2cData_frame h_s (pick_sub 0xf0 rfl hT)) h_s
  have h_s2_6 : Frame LL rr s2_6 := by
      unfold s2_6
      exact Frame.upd h_s1_4 (m_ctl := .inl (nth 0 rfl hT))
  have h_s3_7 : Frame LL rr s3_7 := by
      unfold s3_7
      exact count_frame (wr_frame (wr_frame h_s2_6 (pick_sub 0x200 rfl hT)) (pick_sub 0x100 rfl hT)) (pick_sub 0x2 rfl hT)
  have h_s4_8 : Frame LL rr s4_8 := by
      unfold s4_8
      exact Frame.ite h_s3_7 (count_frame (recErr_frame h_s3_7 (pick_sub 0x40c rfl hT)) (pick_sub 0x2 rfl hT))
  clear_value s1_4 s2_6 s3_7 s4_8
  exact raise_frame h_s4_8 (pick_sub 0x408 rfl hT)

/-- What State.pinEdge may change. -/
def pinEdge_T (f : Fld) : List Piece :=
  [.fld (HDR.ev_raw .gpio), .fld f, .sent]

theorem pinEdge_frame {LL rr s f j pin} (h_s : Frame LL rr s) (hT : Cov (pinEdge_T f) LL) :
    Frame LL rr (State.pinEdge s f j pin) := by
  delta State.pinEdge
  exact raise_frame (irqEdge_frame (wr_frame h_s (pick_sub 0x2 rfl hT)) (pick_sub 0x4 rfl hT)) (pick_sub 0x5 rfl hT)

/-- What execDinChange may change. -/
def execDinChange_T : List Piece :=
  [.ctl, .ctr .gpio, .fld (HDR.ev_raw .gpio), .fld GPIO.DIN_CFG.edge, .fld GPIO.DIN_CFG.state, .sent]

theorem execDinChange_frame {LL rr k level s} (h_s : Frame LL rr s) (hT : Cov execDinChange_T LL) :
    FrameN LL rr (execDinChange k level s) := by
  delta execDinChange
  extract_lets j_1 u_2 s1_3
  have h_s1_3 : Frame LL rr s1_3 := by
      unfold s1_3
      exact wrB_frame (Frame.upd h_s (m_ctl := .inl (nth 0 rfl hT))) (pick_sub 0x10 rfl hT)
  clear_value s1_3
  exact FrameN.next (Frame.ite h_s (Frame.ite (pinEdge_frame (count_frame h_s1_3 (pick_sub 0x2 rfl hT)) (pick_sub 0x2c rfl hT)) h_s1_3))

/-- What execEncBurstEnd may change. -/
def execEncBurstEnd_T : List Piece :=
  [.fld ENC.ENC_STAT.burst]

theorem execEncBurstEnd_frame {LL rr e s} (h_s : Frame LL rr s) (hT : Cov execEncBurstEnd_T LL) :
    FrameN LL rr (execEncBurstEnd e s) := by
  delta execEncBurstEnd
  exact FrameN.next (Frame.ite (wr_frame h_s (pick_sub 0x1 rfl hT)) h_s)

/-- What execEncSet may change. -/
def execEncSet_T : List Piece :=
  [.ctr .pot, .err .enc, .err .pot, .fld (HDR.ev_raw .enc), .fld (HDR.ev_raw .pot), .fld ENC.ENC_POS.pos, .resp, .sent]

theorem execEncSet_frame {LL rr w e v s} (h_s : Frame LL rr s) (hT : Cov execEncSet_T LL) :
    FrameN LL rr (execEncSet w e v s) := by
  delta execEncSet
  exact FrameN.next (encSet_frame h_s (pick_sub 0xff rfl hT))

/-- What execEncTransition may change. -/
def execEncTransition_T : List Piece :=
  [.ctr .enc, .ctr .hapt, .ctr .pwr, .ctr .safe, .err .dram, .evSeq, .events, .fld (HDR.ev_raw .dram), .fld (HDR.ev_raw .enc),
   .fld (HDR.ev_raw .pwr), .fld (HDR.ev_raw .surf), .fld (HDR.ev_raw .touch), .fld DRAM.SPARE_STAT.cause, .fld DRAM.SPARE_STAT.deferred,
   .fld DRAM.SPARE_STAT.done_64k, .fld DRAM.SPARE_STAT.rank, .fld DRAM.SPARE_STAT.state, .fld ENC.ENC_POS.pos, .fld ENC.ENC_STAT.a,
   .fld ENC.ENC_STAT.b, .fld ENC.ENC_STAT.burst, .fld ENC.ENC_WAKE.encoders, .fld HAPT.BOOST_STAT.on, .fld LINK.LINK_STAT.lanes_active,
   .fld LINK.LINK_STAT.rate_active, .fld LINK.LINK_STAT.state, .fld PWR.EXIT_STAT.failed_step, .fld PWR.EXIT_STAT.from_state,
   .fld PWR.EXIT_STAT.osc_attempts, .fld PWR.RAIL_STAT.cmd_seq, .fld PWR.RAIL_STAT.slewing, .fld PWR.RAIL_STAT.target_mv, .fld PWR.STATE.state,
   .fld PWR.STATE.step, .fld PWR.STATE.target, .fld PWR.WAKE_CAUSE.aborted, .fld PWR.WAKE_CAUSE.first, .fld PWR.WAKE_CAUSE.source,
   .fld SAFE.HEAD_SRC.bl_off, .fld SAFE.HEAD_SRC.blank, .fld SAFE.HEAD_SRC.fallback, .fld SAFE.ISL_STAT.fw_running, .fld SURF.HV_STAT.on,
   .fld SURF.HV_STAT.why, .fld TOUCH.TILE_STAT.state, .fld TOUCH.WAKE_STAT.gesture, .fld TOUCH.WAKE_STAT.woke, .hapt, .links, .mem, .pins, .pwr,
   .safe, .sent, .surf, .touch, .world]

theorem execEncTransition_frame {LL rr e a b s} (h_s : Frame LL rr s) (hT : Cov execEncTransition_T LL) :
    FrameN LL rr (execEncTransition e a b s) := by
  delta execEncTransition
  exact FrameN.next (Frame.ite (encMove_frame h_s (pick_sub 0x1ffffffffffffff rfl hT)) h_s)

/-- What execGpioCfgWrite may change. -/
def execGpioCfgWrite_T (i : Fin 48) : List Piece :=
  [.ctr .pot, .err .gpio, .err .pot, .fld (HDR.dirty .gpio), .fld (HDR.ev_raw .gpio), .fld (HDR.ev_raw .pot), .reg .gpio (768 + 4 * ↑i), .resp,
   .sent]

theorem execGpioCfgWrite_frame {LL rr w i v s} (h_s : Frame LL rr s) (hT : Cov (execGpioCfgWrite_T i) LL) :
    FrameN LL rr (execGpioCfgWrite w i v s) := by
  delta execGpioCfgWrite
  exact FrameN.next (gpioCfg_frame h_s (pick_sub 0x1ff rfl hT))

/-- What execGpioEdge may change. -/
def execGpioEdge_T : List Piece :=
  [.fld (HDR.ev_raw .gpio), .fld GPIO.GPIO_CFG.edge, .pins, .sent]

theorem execGpioEdge_frame {LL rr i level s} (h_s : Frame LL rr s) (hT : Cov execGpioEdge_T LL) :
    FrameN LL rr (execGpioEdge i level s) := by
  delta execGpioEdge
  extract_lets j_1 u_2 s1_3
  have h_s1_3 : Frame LL rr s1_3 := by
      unfold s1_3
      exact Frame.upd h_s (m_pins := .inl (nth 2 rfl hT))
  clear_value s1_3
  exact FrameN.next (Frame.ite h_s1_3 (Frame.ite (pinEdge_frame h_s1_3 (pick_sub 0xb rfl hT)) h_s1_3))

/-- What execI2cDone may change. -/
def execI2cDone_T : List Piece :=
  [.ctl, .ctr .gpio, .err .gpio, .fld (HDR.ev_raw .gpio), .fld GPIO.I2C_DATA0.data, .fld GPIO.I2C_DATA1.data, .fld GPIO.I2C_DATA2.data,
   .fld GPIO.I2C_DATA3.data, .fld GPIO.I2C_STAT.count, .fld GPIO.I2C_STAT.result, .sent]

theorem execI2cDone_frame {LL rr c result count d s} (h_s : Frame LL rr s) (hT : Cov execI2cDone_T LL) :
    FrameN LL rr (execI2cDone c result count d s) := by
  delta execI2cDone
  exact FrameN.next (Frame.ite (i2cDone_frame h_s (pick_sub 0x7ff rfl hT)) h_s)

/-- What execI2cGo may change. -/
def execI2cGo_T (c : Fin 4) : List Piece :=
  [.ctl, .ctr .pot, .err .gpio, .err .pot, .fld (HDR.dirty .gpio), .fld (HDR.ev_raw .gpio), .fld (HDR.ev_raw .pot), .reg .gpio (1280 + 32 * ↑c),
   .resp, .sent]

theorem execI2cGo_frame {LL rr w c v s} (h_s : Frame LL rr s) (hT : Cov (execI2cGo_T c) LL) :
    FrameN LL rr (execI2cGo w c v s) := by
  delta execI2cGo
  exact FrameN.next (i2cCtrl_frame h_s (pick_sub 0x3ff rfl hT))

/-- What execPinOwnerWrite may change. -/
def execPinOwnerWrite_T : List Piece :=
  [.blk .enc, .blk .gpio, .ctl, .ctr .enc, .ctr .pot, .err .gpio, .err .pot, .fld (HDR.ev_raw .gpio), .fld (HDR.ev_raw .pot),
   .fld GPIO.PIN_OWNER.owner, .resp, .sent, .world]

theorem execPinOwnerWrite_frame {LL rr w i v s} (h_s : Frame LL rr s) (hT : Cov execPinOwnerWrite_T LL) :
    FrameN LL rr (execPinOwnerWrite w i v s) := by
  delta execPinOwnerWrite
  exact FrameN.next (pinOwnerWrite_frame h_s (pick_sub 0x1fff rfl hT))

/-- What execUartRxByte may change. -/
def execUartRxByte_T : List Piece :=
  [.ctl, .ctr .gpio, .err .gpio, .fld (HDR.ev_raw .gpio), .fld GPIO.UART_STAT.errors, .sent]

theorem execUartRxByte_frame {LL rr u d frameErr parityErr s} (h_s : Frame LL rr s) (hT : Cov execUartRxByte_T LL) :
    FrameN LL rr (execUartRxByte u d frameErr parityErr s) := by
  delta execUartRxByte
  extract_lets n_1 q_2 p_3 e_4 s1_5 u_6
  have h_s1_5 : Frame LL rr s1_5 := by
      unfold s1_5
      exact Frame.ite h_s (recErr_frame (uartErr_frame h_s (pick_sub 0x3a rfl hT)) (pick_sub 0x2c rfl hT))
  clear_value s1_5
  exact FrameN.next (Frame.ite h_s (Frame.ite (raise_frame (Frame.upd h_s1_5 (m_ctl := .inl (nth 0 rfl hT))) (pick_sub 0x28 rfl hT)) h_s1_5))

/-- What execUartRxRead may change. -/
def execUartRxRead_T : List Piece :=
  [.ctl, .ctr .pot, .err .gpio, .err .pot, .fld (HDR.ev_raw .gpio), .fld (HDR.ev_raw .pot), .resp, .sent]

theorem execUartRxRead_frame {LL rr w u s} (h_s : Frame LL rr s) (hT : Cov execUartRxRead_T LL) :
    FrameN LL rr (execUartRxRead w u s) := by
  delta execUartRxRead
  extract_lets off_1
  exact FrameN.next (Chk_andThen_frame (reach_frame h_s (idx_sub [1, 3, 2, 5, 4, 6, 7] rfl hT)) (fun t2 h3 => Frame.ite (uartRead_frame h3 (pick_sub 0x41 rfl hT)) (refuse_frame h3 (pick_sub 0xd4 rfl hT))))

/-- What execUartTxWrite may change. -/
def execUartTxWrite_T : List Piece :=
  [.ctl, .ctr .gpio, .ctr .pot, .err .gpio, .err .pot, .fld (HDR.ev_raw .gpio), .fld (HDR.ev_raw .pot), .fld GPIO.UART_STAT.errors, .resp, .sent]

theorem execUartTxWrite_frame {LL rr w u v s} (h_s : Frame LL rr s) (hT : Cov execUartTxWrite_T LL) :
    FrameN LL rr (execUartTxWrite w u v s) := by
  delta execUartTxWrite
  exact FrameN.next (uartWrite_frame h_s (pick_sub 0x3ff rfl hT))

end Sys2Proof.Laws
end

