-- ==== Sys2Proof/Laws/FramePairs.lean ====
section
/-! SUPPORT. What the operations and commands of Machine/Pairs.lean may change: the parts of each, and that nothing else changes. -/

set_option Elab.async false

namespace Sys2Proof.Laws

open Machine

/-- What State.latchHi may change. -/
def latchHi_T : List Piece :=
  [.latch]

theorem latchHi_frame {LL rr s w b i off hi} (h_s : Frame LL rr s) (hT : Cov latchHi_T LL) :
    Frame LL rr (State.latchHi s w b i off hi) := by
  delta State.latchHi
  exact Frame.upd h_s (m_latch := .inl (nth 0 rfl hT))

/-- What State.unlatch may change. -/
def unlatch_T : List Piece :=
  [.latch]

theorem unlatch_frame {LL rr s w b i} (h_s : Frame LL rr s) (hT : Cov unlatch_T LL) :
    Frame LL rr (State.unlatch s w b i) := by
  delta State.unlatch
  exact Frame.upd h_s (m_latch := .inl (nth 0 rfl hT))

/-- What State.stageLo may change. -/
def stageLo_T : List Piece :=
  [.stage]

theorem stageLo_frame {LL rr s w b i lo} (h_s : Frame LL rr s) (hT : Cov stageLo_T LL) :
    Frame LL rr (State.stageLo s w b i lo) := by
  delta State.stageLo
  exact Frame.upd h_s (m_stage := .inl (nth 0 rfl hT))

/-- What State.unstage may change. -/
def unstage_T : List Piece :=
  [.stage]

theorem unstage_frame {LL rr s w b i} (h_s : Frame LL rr s) (hT : Cov unstage_T LL) :
    Frame LL rr (State.unstage s w b i) := by
  delta State.unstage
  exact Frame.upd h_s (m_stage := .inl (nth 0 rfl hT))

/-- What State.pairWrite may change. -/
def pairWrite_T (b : Blk) : List Piece :=
  [.ctr .pot, .err .pot, .err b, .fld (HDR.ev_raw .pot), .fld (HDR.ev_raw b), .resp, .sent, .stage]

theorem pairWrite_frame {LL rr s w b i off hi k} (h_s : Frame LL rr s) (h_k : ∀ y0 y1, Frame LL rr y0 → Frame LL rr (k y0 y1)) (hT : Cov (pairWrite_T b) LL) :
    Frame LL rr (State.pairWrite s w b i off hi k) := by
  delta State.pairWrite
  extract_lets lo_1
  split
  · rename_i a4
    have h5 := FrameC.eqBad (L := LL) (r := rr) a4 (checkWrite_frame h_s (pick_sub 0x7f rfl hT))
    exact h5
  · rename_i a8
    have h9 := FrameC.eqGood (L := LL) (r := rr) a8 (checkWrite_frame h_s (pick_sub 0x7f rfl hT))
    split
    · exact refuse_frame h_s (pick_sub 0x74 rfl hT)
    · extract_lets u_15
      have h_u_15 : Frame LL rr u_15 := by
          unfold u_15
          exact Frame.ite (recErr_frame h9 (pick_sub 0x54 rfl hT)) h9
      clear_value u_15
      exact h_k _ _ (unstage_frame h_u_15 (pick_sub 0x80 rfl hT))

end Sys2Proof.Laws
end

