-- ==== Sys2Proof/Laws/FrameTime.lean ====
section
/-! SUPPORT. What the operations and commands of Machine/Time.lean may change: the parts of each, and that nothing else changes. -/

set_option Elab.async false

namespace Sys2Proof.Laws

open Machine

/-- What State.snapArm may change. -/
def snapArm_T : List Piece :=
  [.ctr .pot, .err .pot, .err .time, .fld (HDR.ev_raw .pot), .fld (HDR.ev_raw .time), .fld TIME.SNAP_AT.at_, .fld TIME.SNAP_CTRL.armed, .resp,
   .sent, .stage]

theorem snapArm_frame {LL rr s w hi} (h_s : Frame LL rr s) (hT : Cov snapArm_T LL) :
    Frame LL rr (State.snapArm s w hi) := by
  delta State.snapArm
  exact pairWrite_frame h_s (fun t1 x3 h2 => by
      extract_lets u_4
      exact Frame.ite (refuse_frame h2 (pick_sub 0x194 rfl hT)) (wr_frame (wr_frame h2 (pick_sub 0x20 rfl hT)) (pick_sub 0x40 rfl hT))) (pick_sub 0x39f rfl hT)

/-- What State.masterCfg may change. -/
def masterCfg_T : List Piece :=
  [.ctr .pot, .err .pot, .err .time, .fld (HDR.dirty .time), .fld (HDR.ev_raw .pot), .fld (HDR.ev_raw .time), .fld TIME.TIME_STAT.master,
   .reg .time 0x10c, .resp, .sent, .time, .world]

theorem masterCfg_frame {LL rr s w v} (h_s : Frame LL rr s) (hT : Cov masterCfg_T LL) :
    Frame LL rr (State.masterCfg s w v) := by
  delta State.masterCfg
  exact onWrite_frame h_s (fun t1 h2 => by
      extract_lets p_3 u_4 u_5
      have h_u_4 : Frame LL rr u_4 := by
          unfold u_4
          exact wr_frame (storeWord_frame h2 (pick_sub 0x88 rfl hT)) (pick_sub 0x40 rfl hT)
      clear_value u_4
      exact Frame.ite (refuse_frame h2 (pick_sub 0x324 rfl hT)) (Frame.ite h_u_4 (Frame.upd h_u_4 (m_time := .inl (nth 10 rfl hT))))) (pick_sub 0xb37 rfl hT)

/-- What State.snapCtrl may change. -/
def snapCtrl_T : List Piece :=
  [.ctr .pot, .err .pot, .err .time, .fld (HDR.dirty .time), .fld (HDR.ev_raw .pot), .fld (HDR.ev_raw .time), .fld TIME.SNAP_CTRL.armed,
   .reg .time 0x150, .resp, .sent, .world]

theorem snapCtrl_frame {LL rr s w v} (h_s : Frame LL rr s) (hT : Cov snapCtrl_T LL) :
    Frame LL rr (State.snapCtrl s w v) := by
  delta State.snapCtrl
  exact onWrite_frame h_s (fun t1 h2 => by
      extract_lets u_3
      have h_u_3 : Frame LL rr u_3 := by
          unfold u_3
          exact storeWord_frame h2 (pick_sub 0x88 rfl hT)
      clear_value u_3
      exact Frame.ite (wr_frame h_u_3 (pick_sub 0x40 rfl hT)) h_u_3) (pick_sub 0x737 rfl hT)

/-- What State.timeEvent may change. -/
def timeEvent_T : List Piece :=
  [.ctr .time, .evSeq, .events, .fld (HDR.ev_raw .time), .sent]

theorem timeEvent_frame {LL rr s code val evbit ctr} (h_s : Frame LL rr s) (hT : Cov timeEvent_T LL) :
    Frame LL rr (State.timeEvent s code val evbit ctr) := by
  delta State.timeEvent
  exact raise_frame (count_frame (eventPage_frame h_s (pick_sub 0x6 rfl hT)) (pick_sub 0x1 rfl hT)) (pick_sub 0x18 rfl hT)

/-- What State.publish may change. -/
def publish_T : List Piece :=
  [.fld TIME.OFS.ofs, .fld TIME.OFS_BASE.base, .fld TIME.PUB_SEQ.seq, .fld TIME.SLEW.ppm, .fld TIME.SLEW_END.end_, .fld TIME.TIME_STAT.slewing]

theorem publish_frame {LL rr s t ofs ppm fin} (h_s : Frame LL rr s) (hT : Cov publish_T LL) :
    Frame LL rr (State.publish s t ofs ppm fin) := by
  delta State.publish
  exact wrB_frame (wr_frame (wr_frame (wr_frame (wr_frame (wr_frame h_s (pick_sub 0x1 rfl hT)) (pick_sub 0x2 rfl hT)) (pick_sub 0x8 rfl hT)) (pick_sub 0x10 rfl hT)) (pick_sub 0x4 rfl hT)) (pick_sub 0x20 rfl hT)

/-- What State.masterLost may change. -/
def masterLost_T : List Piece :=
  [.ctr .time, .evSeq, .events, .fld (HDR.ev_raw .time), .fld TIME.OFS.ofs, .fld TIME.OFS_BASE.base, .fld TIME.PUB_SEQ.seq, .fld TIME.SLEW.ppm,
   .fld TIME.SLEW_END.end_, .fld TIME.TIME_STAT.lost, .fld TIME.TIME_STAT.slewing, .sent]

theorem masterLost_frame {LL rr s} (h_s : Frame LL rr s) (hT : Cov masterLost_T LL) :
    Frame LL rr (State.masterLost s) := by
  delta State.masterLost
  exact Frame.ite h_s (timeEvent_frame (wr_frame (publish_frame h_s (pick_sub 0x5f0 rfl hT)) (pick_sub 0x200 rfl hT)) (pick_sub 0x80f rfl hT))

/-- What State.timeSample may change. -/
def timeSample_T : List Piece :=
  [.ctr .time, .evSeq, .events, .fld (HDR.ev_raw .time), .fld TIME.EPOCH.epoch, .fld TIME.EPOCH_START.start, .fld TIME.LAST_ERR.ns,
   .fld TIME.OFS.ofs, .fld TIME.OFS_BASE.base, .fld TIME.PUB_SEQ.seq, .fld TIME.SLEW.ppm, .fld TIME.SLEW_END.end_, .fld TIME.TIME_STAT.lost,
   .fld TIME.TIME_STAT.slewing, .fld TIME.TIME_STAT.valid, .sent]

theorem timeSample_frame {LL rr s m} (h_s : Frame LL rr s) (hT : Cov timeSample_T LL) :
    Frame LL rr (State.timeSample s m) := by
  delta State.timeSample
  extract_lets t_1 ofs_2 tgt_3 e_4 s1_5 s2_6 ep_7
  have h_s1_5 : Frame LL rr s1_5 := by
      unfold s1_5
      exact raise_frame (count_frame (wr_frame (wr_frame h_s (pick_sub 0x1000 rfl hT)) (pick_sub 0x40 rfl hT)) (pick_sub 0x1 rfl hT)) (pick_sub 0x8008 rfl hT)
  have h_s2_6 : Frame LL rr s2_6 := by
      unfold s2_6
      exact publish_frame h_s1_5 (pick_sub 0x2f80 rfl hT)
  clear_value s1_5 s2_6
  exact Frame.ite (timeEvent_frame (wr_frame (publish_frame h_s1_5 (pick_sub 0x2f80 rfl hT)) (pick_sub 0x4000 rfl hT)) (pick_sub 0x800f rfl hT)) (Frame.ite (Frame.ite h_s2_6 (count_frame h_s2_6 (pick_sub 0x1 rfl hT))) (Frame.ite (timeEvent_frame (publish_frame h_s1_5 (pick_sub 0x2f80 rfl hT)) (pick_sub 0x800f rfl hT)) (timeEvent_frame (wr_frame (wr_frame (publish_frame h_s1_5 (pick_sub 0x2f80 rfl hT)) (pick_sub 0x10 rfl hT)) (pick_sub 0x20 rfl hT)) (pick_sub 0x800f rfl hT))))

/-- What execPpsEdge may change. -/
def execPpsEdge_T : List Piece :=
  [.ctr .time, .evSeq, .events, .fld (HDR.ev_raw .time), .fld TIME.EPOCH.epoch, .fld TIME.EPOCH_START.start, .fld TIME.LAST_ERR.ns,
   .fld TIME.OFS.ofs, .fld TIME.OFS_BASE.base, .fld TIME.PUB_SEQ.seq, .fld TIME.SLEW.ppm, .fld TIME.SLEW_END.end_, .fld TIME.TIME_STAT.lost,
   .fld TIME.TIME_STAT.slewing, .fld TIME.TIME_STAT.valid, .fld TIME.TOD_NEXT.tod, .sent, .time]

theorem execPpsEdge_frame {LL rr falling s} (h_s : Frame LL rr s) (hT : Cov execPpsEdge_T LL) :
    FrameN LL rr (execPpsEdge falling s) := by
  delta execPpsEdge
  exact FrameN.next (Frame.ite h_s (Frame.ite (count_frame h_s (pick_sub 0x1 rfl hT)) (by
      extract_lets tod_1 u_2 u_3
      have h_u_2 : Frame LL rr u_2 := by
          unfold u_2
          exact timeSample_frame h_s (pick_sub 0x17fff rfl hT)
      clear_value u_2
      exact wr_frame (Frame.upd h_u_2 (m_time := .inl (nth 17 rfl hT))) (pick_sub 0x8000 rfl hT))))

/-- What execPtmDialogue may change. -/
def execPtmDialogue_T : List Piece :=
  [.ctr .time, .evSeq, .events, .fld (HDR.ev_raw .time), .fld TIME.EPOCH.epoch, .fld TIME.EPOCH_START.start, .fld TIME.LAST_ERR.ns,
   .fld TIME.OFS.ofs, .fld TIME.OFS_BASE.base, .fld TIME.PUB_SEQ.seq, .fld TIME.SLEW.ppm, .fld TIME.SLEW_END.end_, .fld TIME.TIME_STAT.lost,
   .fld TIME.TIME_STAT.slewing, .fld TIME.TIME_STAT.valid, .sent, .time]

theorem execPtmDialogue_frame {LL rr m s} (h_s : Frame LL rr s) (hT : Cov execPtmDialogue_T LL) :
    FrameN LL rr (execPtmDialogue m s) := by
  delta execPtmDialogue
  exact FrameN.next (Frame.ite h_s (by
      split
      · exact timeSample_frame (Frame.upd h_s (m_time := .inl (nth 16 rfl hT))) (pick_sub 0xffff rfl hT)
      · extract_lets u_4 s1_5
        have h_s1_5 : Frame LL rr s1_5 := by
            unfold s1_5
            exact Frame.upd h_s (m_time := .inl (nth 16 rfl hT))
        exact Frame.ite h_s1_5 (masterLost_frame h_s1_5 (pick_sub 0xbf8f rfl hT))))

/-- What execSnapArm may change. -/
def execSnapArm_T : List Piece :=
  [.ctr .pot, .err .pot, .err .time, .fld (HDR.ev_raw .pot), .fld (HDR.ev_raw .time), .fld TIME.SNAP_AT.at_, .fld TIME.SNAP_CTRL.armed, .resp,
   .sent, .stage]

theorem execSnapArm_frame {LL rr w hi s} (h_s : Frame LL rr s) (hT : Cov execSnapArm_T LL) :
    FrameN LL rr (execSnapArm w hi s) := by
  delta execSnapArm
  exact FrameN.next (snapArm_frame h_s (pick_sub 0x3ff rfl hT))

/-- What execSnapCancel may change. -/
def execSnapCancel_T : List Piece :=
  [.ctr .pot, .err .pot, .err .time, .fld (HDR.dirty .time), .fld (HDR.ev_raw .pot), .fld (HDR.ev_raw .time), .fld TIME.SNAP_CTRL.armed,
   .reg .time 0x150, .resp, .sent, .world]

theorem execSnapCancel_frame {LL rr w v s} (h_s : Frame LL rr s) (hT : Cov execSnapCancel_T LL) :
    FrameN LL rr (execSnapCancel w v s) := by
  delta execSnapCancel
  exact FrameN.next (snapCtrl_frame h_s (pick_sub 0x7ff rfl hT))

/-- What execTimeMasterLost may change. -/
def execTimeMasterLost_T : List Piece :=
  [.ctr .time, .evSeq, .events, .fld (HDR.ev_raw .time), .fld TIME.OFS.ofs, .fld TIME.OFS_BASE.base, .fld TIME.PUB_SEQ.seq, .fld TIME.SLEW.ppm,
   .fld TIME.SLEW_END.end_, .fld TIME.TIME_STAT.lost, .fld TIME.TIME_STAT.slewing, .sent]

theorem execTimeMasterLost_frame {LL rr s} (h_s : Frame LL rr s) (hT : Cov execTimeMasterLost_T LL) :
    FrameN LL rr (execTimeMasterLost s) := by
  delta execTimeMasterLost
  exact FrameN.next (Frame.ite h_s (masterLost_frame h_s (pick_sub 0xfff rfl hT)))

/-- What execTimeSlewEnd may change. -/
def execTimeSlewEnd_T : List Piece :=
  [.fld TIME.TIME_STAT.slewing]

theorem execTimeSlewEnd_frame {LL rr s} (h_s : Frame LL rr s) (hT : Cov execTimeSlewEnd_T LL) :
    FrameN LL rr (execTimeSlewEnd s) := by
  delta execTimeSlewEnd
  exact FrameN.next (Frame.ite (wr_frame h_s (pick_sub 0x1 rfl hT)) h_s)

end Sys2Proof.Laws
end

