-- ==== Sys2Proof/Laws/FrameDomains.lean ====
section
/-! SUPPORT. What the operations and commands of Machine/Domains.lean may change: the parts of each, and that nothing else changes. -/

set_option Elab.async false

namespace Sys2Proof.Laws

open Machine

set_option maxRecDepth 8000

/-- What State.flashOpen may change. -/
def flashOpen_T : List Piece :=
  [.flash, .free]

theorem flashOpen_frame {LL rr s a n} (h_s : Frame LL rr s) (hT : Cov flashOpen_T LL) :
    Frame LL rr (State.flashOpen s a n) := by
  delta State.flashOpen
  exact Frame.upd h_s (m_free := .inl (nth 1 rfl hT)) (m_flash := .inl (nth 0 rfl hT))

/-- What State.flCut may change. -/
def flCut_T : List Piece :=
  [.flash, .fld BOOT.FL_OP.busy, .free, .pwr]

theorem flCut_frame {LL rr s} (h_s : Frame LL rr s) (hT : Cov flCut_T LL) :
    Frame LL rr (State.flCut s) := by
  delta State.flCut
  extract_lets r_1 s1_2 u_3
  have h_s1_2 : Frame LL rr s1_2 := by
      unfold s1_2
      exact flashOpen_frame h_s (pick_sub 0x5 rfl hT)
  clear_value s1_2
  exact wr_frame (Frame.upd h_s1_2 (m_pwr := .inl (nth 3 rfl hT))) (pick_sub 0x2 rfl hT)

/-- What State.groupAbort may change. -/
def groupAbort_T : List Piece :=
  [.ctr .basin, .fld (HDR.ev_raw .basin), .fld (HDR.group .comp), .fld (HDR.group .glint), .fld BASIN.GRP_STAT.aborted, .fld BASIN.GRP_STAT.busy,
   .sent]

theorem groupAbort_frame {LL rr s} (h_s : Frame LL rr s) (hT : Cov groupAbort_T LL) :
    Frame LL rr (State.groupAbort s) := by
  delta State.groupAbort
  extract_lets s1_1 s2_2
  have h_s1_1 : Frame LL rr s1_1 := by
      unfold s1_1
      exact Frame.foldl h_s (fun t3 x4 h5 => wr_frame h5 (pick_sub 0x8 rfl hT))
  have h_s2_2 : Frame LL rr s2_2 := by
      unfold s2_2
      exact Frame.foldl h_s1_1 (fun t6 x7 h8 => wr_frame h8 (pick_sub 0x4 rfl hT))
  clear_value s1_1 s2_2
  exact Frame.ite (raise_frame (count_frame (wr_frame (wr_frame h_s2_2 (pick_sub 0x10 rfl hT)) (pick_sub 0x20 rfl hT)) (pick_sub 0x1 rfl hT)) (pick_sub 0x42 rfl hT)) h_s2_2

/-- What State.setCause may change. -/
def setCause_T (f : Fld) : List Piece :=
  [.fld f]

theorem setCause_frame {LL rr s f c} (h_s : Frame LL rr s) (hT : Cov (setCause_T f) LL) :
    Frame LL rr (State.setCause s f c) := by
  delta State.setCause
  exact wr_frame h_s (pick_sub 0x1 rfl hT)

/-- What State.displayReset may change. -/
def displayReset_T : List Piece :=
  [.allCtr, .allRegs, .heads, .latch, .links, .pins, .pwr, .sent, .snap, .stage, .staged]

theorem displayReset_frame {LL rr s cause} (h_s : Frame LL rr s) (hT : Cov displayReset_T LL) :
    Frame LL rr (State.displayReset s cause) := by
  delta State.displayReset
  extract_lets s1_1 u_2 u_3
  have h_s1_1 : Frame LL rr s1_1 := by
      unfold s1_1
      exact setCause_frame (resetPages_frame (resetPages_frame (groupAbort_frame h_s (cov_loc 0x3 0x3f 0x80 rfl rfl hT)) (idx_sub [1, 0, 10, 3, 9, 8] rfl hT)) (idx_sub [1, 0, 10, 3, 9, 8] rfl hT)) (cov_loc 0x2 0x1 0x0 rfl rfl hT)
  clear_value s1_1
  exact Frame.upd h_s1_1 (m_pins := .inl (nth 5 rfl hT)) (m_heads := .inl (nth 2 rfl hT)) (m_links := .inl (nth 4 rfl hT)) (m_pwr := .inl (nth 6 rfl hT))

/-- What State.ungroup may change. -/
def ungroup_T : List Piece :=
  [.fld (HDR.group .head)]

theorem ungroup_frame {LL rr s} (h_s : Frame LL rr s) (hT : Cov ungroup_T LL) :
    Frame LL rr (State.ungroup s) := by
  delta State.ungroup
  exact Frame.foldl h_s (fun t1 x2 h3 => wr_frame h3 (pick_sub 0x1 rfl hT))

/-- What State.headPlls may change. -/
def headPlls_T : List Piece :=
  [.fld CLK.PLL_STAT.enabled, .fld CLK.PLL_STAT.lock, .fld CLK.PLL_STAT.mhz]

theorem headPlls_frame {LL rr s} (h_s : Frame LL rr s) (hT : Cov headPlls_T LL) :
    Frame LL rr (State.headPlls s) := by
  delta State.headPlls
  exact Frame.foldl h_s (fun t1 x2 h3 => Frame.ite h3 (wr_frame (wr_frame (wr_frame h3 (pick_sub 0x2 rfl hT)) (pick_sub 0x1 rfl hT)) (pick_sub 0x4 rfl hT)))

/-- What State.clearMain may change. -/
def clearMain_T : List Piece :=
  [.allCtr, .allRegs, .audio, .basin, .caps, .comp, .ctl, .dram, .evSeq, .events, .gfx, .hapt, .heads, .inst, .latch, .mem, .parts, .pins, .pot,
   .pwr, .rings, .snap, .stage, .staged, .surf, .touch, .world]

theorem clearMain_frame {LL rr s} (h_s : Frame LL rr s) (hT : Cov clearMain_T LL) :
    Frame LL rr (State.clearMain s) := by
  delta State.clearMain
  extract_lets s1_1 u_2
  have h_s1_1 : Frame LL rr s1_1 := by
      unfold s1_1
      exact Frame.foldl (Frame.foldl h_s (fun t6 x7 h8 => pinChange_frame h8 (cov_loc 0x3 0x1b 0x40 rfl rfl hT))) (fun t3 x4 h5 => resetPages_frame h5 (idx_sub [1, 0, 23, 14, 22, 21] rfl hT))
  clear_value s1_1
  exact ampPins_frame (Frame.upd h_s1_1 (m_parts := .inl (nth 16 rfl hT)) (m_dram := .inl (nth 7 rfl hT)) (m_basin := .inl (nth 3 rfl hT)) (m_pot := .inl (nth 18 rfl hT)) (m_inst := .inl (nth 13 rfl hT)) (m_events := .inl (nth 9 rfl hT)) (m_evSeq := .inl (nth 8 rfl hT)) (m_mem := .inl (nth 15 rfl hT)) (m_rings := .inl (nth 20 rfl hT)) (m_world := .inl (nth 26 rfl hT)) (m_gfx := .inl (nth 10 rfl hT)) (m_comp := .inl (nth 5 rfl hT)) (m_heads := .inl (nth 12 rfl hT)) (m_caps := .inl (nth 4 rfl hT)) (m_pwr := .inl (nth 19 rfl hT)) (m_surf := .inl (nth 24 rfl hT)) (m_hapt := .inl (nth 11 rfl hT)) (m_touch := .inl (nth 25 rfl hT)) (m_audio := .inl (nth 2 rfl hT)) (m_ctl := .inl (nth 6 rfl hT))) (pick_sub 0x20000 rfl hT)

/-- What State.mainReset may change. -/
def mainReset_T : List Piece :=
  [.allCtr, .allRegs, .audio, .basin, .caps, .comp, .ctl, .dram, .evSeq, .events, .gfx, .hapt, .heads, .inst, .latch, .links, .mem, .parts, .pins,
   .pot, .pwr, .rings, .safe, .sent, .snap, .stage, .staged, .surf, .touch, .world]

theorem mainReset_frame {LL rr s0 cause} (h_s0 : Frame LL rr s0) (hT : Cov mainReset_T LL) :
    Frame LL rr (State.mainReset s0 cause) := by
  delta State.mainReset
  extract_lets s_1 run_2 asleep_3 told_4 held_5 s1_6 u_7 s2_8 s3_9 s4_10
  have h_s_1 : Frame LL rr s_1 := by
      unfold s_1
      exact Frame.ite (displayReset_frame h_s0 (pick_sub 0x794d003 rfl hT)) h_s0
  have h_s1_6 : Frame LL rr s1_6 := by
      unfold s1_6
      exact pwrStep_frame (setCause_frame (ungroup_frame (headPlls_frame (clearMain_frame h_s_1 (pick_sub 0x3f3f7fff rfl hT)) (cov_loc 0x2 0x7 0x0 rfl rfl hT)) (cov_loc 0x2 0x1 0x0 rfl rfl hT)) (cov_loc 0x2 0x1 0x0 rfl rfl hT)) (cov_loc 0x2 0x7 0x100000 rfl rfl hT)
  have h_s2_8 : Frame LL rr s2_8 := by
      unfold s2_8
      exact wr_frame (Frame.upd h_s1_6 (m_pwr := .inl (nth 20 rfl hT))) (cov_loc 0x2 0x1 0x0 rfl rfl hT)
  have h_s3_9 : Frame LL rr s3_9 := by
      unfold s3_9
      exact Frame.ite (faultAssert_frame (Frame.foldl h_s2_8 (fun t11 x12 h13 => setShead_frame h13 (pick_sub 0x400000 rfl hT))) (cov_loc 0x3 0xf 0xc40000 rfl rfl hT)) h_s2_8
  have h_s4_10 : Frame LL rr s4_10 := by
      unfold s4_10
      exact Frame.ite (logEntry_frame h_s3_9 (cov_loc 0x3 0x1f 0xc00000 rfl rfl hT)) h_s3_9
  clear_value s_1 s1_6 s2_8 s3_9 s4_10
  exact h_s4_10

/-- What State.rstCtrl may change. -/
def rstCtrl_T : List Piece :=
  [.allCtr, .allRegs, .audio, .basin, .caps, .comp, .ctl, .dram, .evSeq, .events, .gfx, .hapt, .heads, .inst, .latch, .links, .mem, .parts, .pins,
   .pot, .pwr, .resp, .rings, .safe, .sent, .snap, .stage, .staged, .surf, .touch, .world]

theorem rstCtrl_frame {LL rr s w v} (h_s : Frame LL rr s) (hT : Cov rstCtrl_T LL) :
    Frame LL rr (State.rstCtrl s w v) := by
  delta State.rstCtrl
  exact onWrite_frame h_s (fun t1 h2 => Frame.ite (refuse_frame h2 (cov_loc 0x2 0x3 0x1200000 rfl rfl hT)) (by
      extract_lets t1_3
      have h_t1_3 : Frame LL rr t1_3 := by
          unfold t1_3
          exact Frame.ite (mainReset_frame h2 (pick_sub 0x7fdfffff rfl hT)) h2
      clear_value t1_3
      exact Frame.ite (displayReset_frame h_t1_3 (pick_sub 0xf14d003 rfl hT)) h_t1_3)) (cov_loc 0x3 0x1f 0x41200000 rfl rfl hT)

/-- What State.safetyReset may change. -/
def safetyReset_T : List Piece :=
  [.alarm, .allCtr, .allRegs, .faults, .flash, .free, .hapt, .latch, .parts, .pins, .pwr, .safe, .sent, .snap, .stage, .staged, .surf]

theorem safetyReset_frame {LL rr s cause} (h_s : Frame LL rr s) (hT : Cov safetyReset_T LL) :
    Frame LL rr (State.safetyReset s cause) := by
  delta State.safetyReset
  extract_lets s0_1 s1_2 u_3 u_4
  have h_s0_1 : Frame LL rr s0_1 := by
      unfold s0_1
      exact setCause_frame (resetPages_frame (flCut_frame h_s (cov_loc 0x4 0x2 0x430 rfl rfl hT)) (idx_sub [2, 1, 15, 7, 14, 13] rfl hT)) (cov_loc 0x4 0x1 0x0 rfl rfl hT)
  have h_s1_2 : Frame LL rr s1_2 := by
      unfold s1_2
      exact Frame.foldl h_s0_1 (fun t5 x6 h7 => Frame.ite (wr_frame h7 (cov_loc 0x4 0x1 0x0 rfl rfl hT)) h7)
  clear_value s0_1 s1_2
  exact hvSync_frame (ampPins_frame (Frame.upd h_s1_2 (m_parts := .inl (nth 8 rfl hT)) (m_pins := .inl (nth 9 rfl hT)) (m_faults := .inl (nth 3 rfl hT)) (m_safe := .inl (nth 11 rfl hT)) (m_pwr := .inl (nth 10 rfl hT)) (m_alarm := .inl (nth 0 rfl hT))) (pick_sub 0x200 rfl hT)) (cov_loc 0x6 0x1f 0x11040 rfl rfl hT)

/-- What State.aonReset may change. -/
def aonReset_T : List Piece :=
  [.alarm, .allCtr, .allRegs, .audio, .basin, .caps, .comp, .ctl, .dram, .evSeq, .events, .faults, .flash, .free, .gfx, .hapt, .heads, .inst,
   .latch, .links, .mem, .parts, .pins, .pot, .pwr, .rings, .safe, .sent, .snap, .stage, .staged, .surf, .time, .touch, .world]

theorem aonReset_frame {LL rr s cause rails} (h_s : Frame LL rr s) (hT : Cov aonReset_T LL) :
    Frame LL rr (State.aonReset s cause rails) := by
  delta State.aonReset
  extract_lets s1_1 s2_2 u_3
  have h_s1_1 : Frame LL rr s1_1 := by
      unfold s1_1
      exact safetyReset_frame (displayReset_frame (mainReset_frame h_s (pick_sub 0x6ffffc7fe rfl hT)) (pick_sub 0x794d0006 rfl hT)) (pick_sub 0xfd64b807 rfl hT)
  have h_s2_2 : Frame LL rr s2_2 := by
      unfold s2_2
      exact Frame.foldl h_s1_1 (fun t4 x5 h6 => resetPages_frame h6 (idx_sub [2, 1, 30, 18, 29, 28] rfl hT))
  clear_value s1_1 s2_2
  exact wr_frame (setCause_frame (setCause_frame (setCause_frame (Frame.upd h_s2_2 (m_pins := .inl (nth 22 rfl hT)) (m_time := .inl (nth 32 rfl hT)) (m_links := .inl (nth 19 rfl hT)) (m_pwr := .inl (nth 24 rfl hT))) (cov_loc 0x4 0x1 0x0 rfl rfl hT)) (cov_loc 0x4 0x1 0x0 rfl rfl hT)) (cov_loc 0x4 0x1 0x0 rfl rfl hT)) (cov_loc 0x4 0x1 0x0 rfl rfl hT)

/-- What State.railFault may change. -/
def railFault_T : List Piece :=
  [.allCtr, .allRegs, .audio, .basin, .caps, .comp, .ctl, .dram, .evSeq, .events, .faults, .gfx, .hapt, .heads, .inst, .latch, .links, .mem,
   .parts, .pins, .pot, .pwr, .rings, .safe, .sent, .snap, .stage, .staged, .surf, .touch, .world]

theorem railFault_frame {LL rr s rail} (h_s : Frame LL rr s) (hT : Cov railFault_T LL) :
    Frame LL rr (State.railFault s rail) := by
  delta State.railFault
  extract_lets s1_1 run_2 s2_3 s3_4
  have h_s1_1 : Frame LL rr s1_1 := by
      unfold s1_1
      exact raise_frame (recErr_frame h_s (cov_loc 0x2 0x3 0x1000000 rfl rfl hT)) (cov_loc 0x2 0x1 0x1000000 rfl rfl hT)
  have h_s2_3 : Frame LL rr s2_3 := by
      unfold s2_3
      exact faultLine_frame h_s1_1 (pick_sub 0x400 rfl hT)
  have h_s3_4 : Frame LL rr s3_4 := by
      unfold s3_4
      exact wr_frame (wr_frame h_s2_3 (cov_loc 0x2 0x1 0x0 rfl rfl hT)) (cov_loc 0x2 0x1 0x0 rfl rfl hT)
  clear_value s1_1 s2_3 s3_4
  exact Frame.ite (displayReset_frame (mainReset_frame h_s3_4 (pick_sub 0x7ffffbff rfl hT)) (pick_sub 0xf29a003 rfl hT)) (mainReset_frame h_s2_3 (pick_sub 0x7ffffbff rfl hT))

/-- What State.resetPin may change. -/
def resetPin_T : List Piece :=
  [.alarm, .allCtr, .allRegs, .audio, .basin, .caps, .comp, .ctl, .dram, .evSeq, .events, .faults, .flash, .free, .gfx, .hapt, .heads, .inst,
   .latch, .links, .mem, .parts, .pins, .pot, .pwr, .rings, .safe, .sent, .snap, .stage, .staged, .surf, .time, .touch, .world]

theorem resetPin_frame {LL rr s high} (h_s : Frame LL rr s) (hT : Cov resetPin_T LL) :
    Frame LL rr (State.resetPin s high) := by
  delta State.resetPin
  extract_lets s1_1 u_2
  have h_s1_1 : Frame LL rr s1_1 := by
      unfold s1_1
      exact aonReset_frame h_s (pick_sub 0x7ffffffff rfl hT)
  clear_value s1_1
  exact Frame.upd h_s1_1 (m_pins := .inl (nth 22 rfl hT))

/-- What State.shutDown may change. -/
def shutDown_T : List Piece :=
  [.allCtr, .allRegs, .audio, .basin, .caps, .comp, .ctl, .dram, .evSeq, .events, .gfx, .hapt, .heads, .inst, .latch, .links, .mem, .parts, .pins,
   .pot, .pwr, .rings, .safe, .sent, .snap, .stage, .staged, .surf, .touch, .world]

theorem shutDown_frame {LL rr s cause vin rails} (h_s : Frame LL rr s) (hT : Cov shutDown_T LL) :
    Frame LL rr (State.shutDown s cause vin rails) := by
  delta State.shutDown
  extract_lets s1_1 s2_2 u_3 u_4
  have h_s1_1 : Frame LL rr s1_1 := by
      unfold s1_1
      exact Frame.ite (faultAssert_frame h_s (cov_loc 0x3 0xf 0xc40000 rfl rfl hT)) h_s
  have h_s2_2 : Frame LL rr s2_2 := by
      unfold s2_2
      exact displayReset_frame (mainReset_frame h_s1_1 (pick_sub 0x3fffffff rfl hT)) (pick_sub 0x794d003 rfl hT)
  clear_value s1_1 s2_2
  exact Frame.upd h_s2_2 (m_pins := .inl (nth 18 rfl hT)) (m_pwr := .inl (nth 20 rfl hT))

/-- What execAonBrownout may change. -/
def execAonBrownout_T : List Piece :=
  [.alarm, .allCtr, .allRegs, .audio, .basin, .caps, .comp, .ctl, .dram, .evSeq, .events, .faults, .flash, .free, .gfx, .hapt, .heads, .inst,
   .latch, .links, .mem, .parts, .pins, .pot, .pwr, .rings, .safe, .sent, .snap, .stage, .staged, .surf, .time, .touch, .world]

theorem execAonBrownout_frame {LL rr s} (h_s : Frame LL rr s) (hT : Cov execAonBrownout_T LL) :
    FrameN LL rr (execAonBrownout s) := by
  delta execAonBrownout
  exact FrameN.next (wr_frame (aonReset_frame h_s (pick_sub 0x7ffffffff rfl hT)) (cov_loc 0x4 0x1 0x0 rfl rfl hT))

/-- What execDisplayResetCmd may change. -/
def execDisplayResetCmd_T : List Piece :=
  [.allCtr, .allRegs, .audio, .basin, .caps, .comp, .ctl, .dram, .evSeq, .events, .gfx, .hapt, .heads, .inst, .latch, .links, .mem, .parts, .pins,
   .pot, .pwr, .resp, .rings, .safe, .sent, .snap, .stage, .staged, .surf, .touch, .world]

theorem execDisplayResetCmd_frame {LL rr w key s} (h_s : Frame LL rr s) (hT : Cov execDisplayResetCmd_T LL) :
    FrameN LL rr (execDisplayResetCmd w key s) := by
  delta execDisplayResetCmd
  exact FrameN.next (rstCtrl_frame h_s (pick_sub 0x7fffffff rfl hT))

/-- What execLockstepMismatch may change. -/
def execLockstepMismatch_T : List Piece :=
  [.alarm, .allCtr, .allRegs, .faults, .flash, .free, .hapt, .latch, .parts, .pins, .pwr, .safe, .sent, .snap, .stage, .staged, .surf]

theorem execLockstepMismatch_frame {LL rr s} (h_s : Frame LL rr s) (hT : Cov execLockstepMismatch_T LL) :
    FrameN LL rr (execLockstepMismatch s) := by
  delta execLockstepMismatch
  exact FrameN.next (safetyReset_frame (logEntry_frame h_s (cov_loc 0x6 0x1f 0x1800 rfl rfl hT)) (pick_sub 0x1ffff rfl hT))

/-- What execMainResetCmd may change. -/
def execMainResetCmd_T : List Piece :=
  [.allCtr, .allRegs, .audio, .basin, .caps, .comp, .ctl, .dram, .evSeq, .events, .gfx, .hapt, .heads, .inst, .latch, .links, .mem, .parts, .pins,
   .pot, .pwr, .resp, .rings, .safe, .sent, .snap, .stage, .staged, .surf, .touch, .world]

theorem execMainResetCmd_frame {LL rr w key s} (h_s : Frame LL rr s) (hT : Cov execMainResetCmd_T LL) :
    FrameN LL rr (execMainResetCmd w key s) := by
  delta execMainResetCmd
  exact FrameN.next (rstCtrl_frame h_s (pick_sub 0x7fffffff rfl hT))

/-- What execRailStartTimeout may change. -/
def execRailStartTimeout_T : List Piece :=
  [.allCtr, .allRegs, .audio, .basin, .caps, .comp, .ctl, .dram, .evSeq, .events, .faults, .gfx, .hapt, .heads, .inst, .latch, .links, .mem,
   .parts, .pins, .pot, .pwr, .rings, .safe, .sent, .snap, .stage, .staged, .surf, .touch, .world]

theorem execRailStartTimeout_frame {LL rr s} (h_s : Frame LL rr s) (hT : Cov execRailStartTimeout_T LL) :
    FrameN LL rr (execRailStartTimeout s) := by
  delta execRailStartTimeout
  exact FrameN.next (by
      split
      · exact Frame.ite (railFault_frame h_s (pick_sub 0x7fffffff rfl hT)) h_s
      · exact h_s)

/-- What execResetNAssert may change. -/
def execResetNAssert_T : List Piece :=
  [.alarm, .allCtr, .allRegs, .audio, .basin, .caps, .comp, .ctl, .dram, .evSeq, .events, .faults, .flash, .free, .gfx, .hapt, .heads, .inst,
   .latch, .links, .mem, .parts, .pins, .pot, .pwr, .rings, .safe, .sent, .snap, .stage, .staged, .surf, .time, .touch, .world]

theorem execResetNAssert_frame {LL rr s} (h_s : Frame LL rr s) (hT : Cov execResetNAssert_T LL) :
    FrameN LL rr (execResetNAssert s) := by
  delta execResetNAssert
  exact FrameN.next (resetPin_frame h_s (pick_sub 0x7ffffffff rfl hT))

/-- What execResetNRelease may change. -/
def execResetNRelease_T : List Piece :=
  [.alarm, .allCtr, .allRegs, .audio, .basin, .caps, .comp, .ctl, .dram, .evSeq, .events, .faults, .flash, .free, .gfx, .hapt, .heads, .inst,
   .latch, .links, .mem, .parts, .pins, .pot, .pwr, .rings, .safe, .sent, .snap, .stage, .staged, .surf, .time, .touch, .world]

theorem execResetNRelease_frame {LL rr s} (h_s : Frame LL rr s) (hT : Cov execResetNRelease_T LL) :
    FrameN LL rr (execResetNRelease s) := by
  delta execResetNRelease
  exact FrameN.next (Frame.ite h_s (resetPin_frame h_s (pick_sub 0x7ffffffff rfl hT)))

/-- What execSafetyFaultLine may change. -/
def execSafetyFaultLine_T : List Piece :=
  [.alarm, .allCtr, .allRegs, .faults, .flash, .free, .hapt, .latch, .links, .parts, .pins, .pwr, .safe, .sent, .snap, .stage, .staged, .surf]

theorem execSafetyFaultLine_frame {LL rr s} (h_s : Frame LL rr s) (hT : Cov execSafetyFaultLine_T LL) :
    FrameN LL rr (execSafetyFaultLine s) := by
  delta execSafetyFaultLine
  exact FrameN.next (by
      split
      · exact h_s
      · extract_lets s1_7 s2_8
        have h_s1_7 : Frame LL rr s1_7 := by
            unfold s1_7
            exact Frame.upd h_s (m_faults := .inl (nth 3 rfl hT))
        have h_s2_8 : Frame LL rr s2_8 := by
            unfold s2_8
            exact logEntry_frame (count_frame h_s1_7 (cov_loc 0x2 0x1 0x0 rfl rfl hT)) (cov_loc 0x6 0x1f 0x3000 rfl rfl hT)
        clear_value s1_7 s2_8
        exact Frame.ite h_s1_7 (Frame.ite (by
            split
            · rename_i a12
              have h13 := FrameR.eq (L := LL) (r := rr) a12 (draw_frame h_s2_8 (pick_sub 0x20 rfl hT))
              exact safetyReset_frame h13 (pick_sub 0x3feff rfl hT)) (react_frame h_s1_7 (cov_loc 0x6 0x3fff 0x3500 rfl rfl hT))))

/-- What execSafetyWdtExpiry may change. -/
def execSafetyWdtExpiry_T : List Piece :=
  [.alarm, .allCtr, .allRegs, .faults, .flash, .free, .hapt, .latch, .parts, .pins, .pwr, .safe, .sent, .snap, .stage, .staged, .surf]

theorem execSafetyWdtExpiry_frame {LL rr s} (h_s : Frame LL rr s) (hT : Cov execSafetyWdtExpiry_T LL) :
    FrameN LL rr (execSafetyWdtExpiry s) := by
  delta execSafetyWdtExpiry
  exact FrameN.next (Frame.ite h_s (safetyReset_frame h_s (pick_sub 0x1ffff rfl hT)))

/-- What execVinOvervoltage may change. -/
def execVinOvervoltage_T : List Piece :=
  [.alarm, .allCtr, .allRegs, .audio, .basin, .caps, .comp, .ctl, .dram, .evSeq, .events, .faults, .flash, .free, .gfx, .hapt, .heads, .inst,
   .latch, .links, .mem, .parts, .pins, .pot, .pwr, .rings, .safe, .sent, .snap, .stage, .staged, .surf, .touch, .world]

theorem execVinOvervoltage_frame {LL rr s} (h_s : Frame LL rr s) (hT : Cov execVinOvervoltage_T LL) :
    FrameN LL rr (execVinOvervoltage s) := by
  delta execVinOvervoltage
  exact FrameN.next (safetyReset_frame (shutDown_frame h_s (pick_sub 0x3ffffc7fe rfl hT)) (pick_sub 0xfd64b807 rfl hT))

/-- What execVinRecover may change. -/
def execVinRecover_T : List Piece :=
  [.pwr]

theorem execVinRecover_frame {LL rr s} (h_s : Frame LL rr s) (hT : Cov execVinRecover_T LL) :
    FrameN LL rr (execVinRecover s) := by
  delta execVinRecover
  exact FrameN.next (Frame.upd h_s (m_pwr := .inl (nth 0 rfl hT)))

/-- What execVinUndervoltage may change. -/
def execVinUndervoltage_T : List Piece :=
  [.allCtr, .allRegs, .audio, .basin, .caps, .comp, .ctl, .dram, .evSeq, .events, .gfx, .hapt, .heads, .inst, .latch, .links, .mem, .parts, .pins,
   .pot, .pwr, .rings, .safe, .sent, .snap, .stage, .staged, .surf, .touch, .world]

theorem execVinUndervoltage_frame {LL rr s} (h_s : Frame LL rr s) (hT : Cov execVinUndervoltage_T LL) :
    FrameN LL rr (execVinUndervoltage s) := by
  delta execVinUndervoltage
  exact FrameN.next (shutDown_frame h_s (pick_sub 0x3fffffff rfl hT))

/-- What execVinPowerOn may change. -/
def execVinPowerOn_T : List Piece :=
  [.allRegs, .allCtr, .resp, .cpl, .staged, .parts, .latch, .stage, .snap, .sent, .free, .dram, .basin, .flash, .pins, .pot, .inst, .time, .events, .evSeq, .faults, .mem, .rings, .world, .gfx, .comp, .heads, .safe, .links, .caps, .pwr, .surf, .hapt, .touch, .audio, .alarm, .ctl]

theorem execVinPowerOn_frame {LL rr s} (h_s : Frame LL rr s) (hT : Cov execVinPowerOn_T LL) :
    FrameN LL rr (execVinPowerOn s) := by
  delta execVinPowerOn
  refine FrameN.next (h_s.trans ⟨rfl, rfl, fun _ _ _ _ h => absurd trivial (no_hit (p := .allRegs) hT (by simp [execVinPowerOn_T]) rfl h),
    fun _ _ _ _ h => absurd (nth 1 rfl hT) h, fun n => absurd (nth 2 rfl hT) n, fun n => absurd (nth 3 rfl hT) n, fun n => absurd (nth 4 rfl hT) n, fun n => absurd (nth 5 rfl hT) n, fun n => absurd (nth 6 rfl hT) n, fun n => absurd (nth 7 rfl hT) n, fun n => absurd (nth 8 rfl hT) n, fun n => absurd (nth 9 rfl hT) n, fun n => absurd (nth 10 rfl hT) n, fun n => absurd (nth 11 rfl hT) n, fun n => absurd (nth 12 rfl hT) n, fun n => absurd (nth 13 rfl hT) n, fun _ => rfl, fun n => absurd (nth 14 rfl hT) n, fun n => absurd (nth 15 rfl hT) n, fun n => absurd (nth 16 rfl hT) n, fun n => absurd (nth 17 rfl hT) n, fun n => absurd (nth 18 rfl hT) n, fun n => absurd (nth 19 rfl hT) n, fun n => absurd (nth 20 rfl hT) n, fun n => absurd (nth 21 rfl hT) n, fun n => absurd (nth 22 rfl hT) n, fun n => absurd (nth 23 rfl hT) n, fun n => absurd (nth 24 rfl hT) n, fun n => absurd (nth 25 rfl hT) n, fun n => absurd (nth 26 rfl hT) n, fun n => absurd (nth 27 rfl hT) n, fun n => absurd (nth 28 rfl hT) n, fun n => absurd (nth 29 rfl hT) n, fun n => absurd (nth 30 rfl hT) n, fun n => absurd (nth 31 rfl hT) n, fun n => absurd (nth 32 rfl hT) n, fun n => absurd (nth 33 rfl hT) n, fun n => absurd (nth 34 rfl hT) n, fun n => absurd (nth 35 rfl hT) n, fun n => absurd (nth 36 rfl hT) n⟩)

end Sys2Proof.Laws
end

