-- ==== Sys2Proof/Laws/FrameFlash.lean ====
section
/-! SUPPORT. What the operations and commands of Machine/Flash.lean may change: the parts of each, and that nothing else changes. -/

set_option Elab.async false

namespace Sys2Proof.Laws

open Machine

/-- What State.keyRevoke may change. -/
def keyRevoke_T : List Piece :=
  [.ctr .pot, .err .boot, .err .pot, .fld (HDR.ev_raw .boot), .fld (HDR.ev_raw .pot), .otp, .resp, .sent, .world]

theorem keyRevoke_frame {LL rr s w v} (h_s : Frame LL rr s) (hT : Cov keyRevoke_T LL) :
    Frame LL rr (State.keyRevoke s w v) := by
  delta State.keyRevoke
  exact onWrite_frame h_s (fun t1 h2 => Frame.ite (refuse_frame h2 (pick_sub 0xca rfl hT)) (Frame.upd h2 (m_otp := .inl (nth 5 rfl hT)))) (idx_sub [0, 2, 1, 4, 3, 6, 7, 8] rfl hT)

/-- What State.flOp may change. -/
def flOp_T : List Piece :=
  [.ctr .pot, .err .boot, .err .pot, .fld (HDR.ev_raw .boot), .fld (HDR.ev_raw .pot), .fld BOOT.FL_OP.busy, .pwr, .resp, .sent, .world]

theorem flOp_frame {LL rr s w v} (h_s : Frame LL rr s) (hT : Cov flOp_T LL) :
    Frame LL rr (State.flOp s w v) := by
  delta State.flOp
  exact onWrite_frame h_s (fun t1 h2 => by
      extract_lets op_3 a_4 d_5 u_6
      exact Frame.ite h2 (Frame.ite (refuse_frame h2 (pick_sub 0x18a rfl hT)) (Frame.ite (refuse_frame h2 (pick_sub 0x18a rfl hT)) (Frame.ite (refuse_frame h2 (pick_sub 0x18a rfl hT)) (wr_frame (Frame.upd h2 (m_pwr := .inl (nth 6 rfl hT))) (pick_sub 0x20 rfl hT)))))) (idx_sub [0, 2, 1, 4, 3, 7, 8, 9] rfl hT)

/-- What State.flBuf may change. -/
def flBuf_T : List Piece :=
  [.fld BOOT.FL_BUF.word]

theorem flBuf_frame {LL rr s d} (h_s : Frame LL rr s) (hT : Cov flBuf_T LL) :
    Frame LL rr (State.flBuf s d) := by
  delta State.flBuf
  exact Frame.foldl h_s (fun t1 x2 h3 => wr_frame h3 (pick_sub 0x1 rfl hT))

/-- What State.freeBytes may change. -/
def freeBytes_T : List Piece :=
  [.free]

theorem freeBytes_frame {LL rr s n} (h_s : Frame LL rr s) (hT : Cov freeBytes_T LL) :
    FrameR LL rr (State.freeBytes s n) := by
  delta State.freeBytes
  exact FrameR.mk (Frame.upd h_s (m_free := .inl (nth 0 rfl hT)))

/-- What State.flProgram may change. -/
def flProgram_T : List Piece :=
  [.flash, .free]

theorem flProgram_frame {LL rr s a d} (h_s : Frame LL rr s) (hT : Cov flProgram_T LL) :
    Frame LL rr (State.flProgram s a d) := by
  delta State.flProgram
  exact Frame.foldl h_s (fun t1 x2 h3 => by
      extract_lets old_4 new_5
      exact Frame.ite (Frame.upd h3 (m_flash := .inl (nth 0 rfl hT))) (flashOpen_frame h3 (pick_sub 0x3 rfl hT)))

/-- What State.flDone may change. -/
def flDone_T : List Piece :=
  [.err .boot, .flash, .fld (HDR.ev_raw .boot), .fld BOOT.FL_BUF.word, .fld BOOT.FL_OP.busy, .free, .pwr, .sent]

theorem flDone_frame {LL rr s ok} (h_s : Frame LL rr s) (hT : Cov flDone_T LL) :
    Frame LL rr (State.flDone s ok) := by
  delta State.flDone
  exact Frame.ite h_s (by
      extract_lets op_1 a_2 beyond_3 t_4 s1_5 u_6
      have h_t_4 : Frame LL rr t_4 := by
          unfold t_4
          exact recErr_frame (flashOpen_frame h_s (pick_sub 0x22 rfl hT)) (pick_sub 0x85 rfl hT)
      have h_s1_5 : Frame LL rr s1_5 := by
          unfold s1_5
          exact Frame.ite (Frame.ite (by
              split
              · rename_i a10
                have h11 := FrameR.eq (L := LL) (r := rr) a10 (freeBytes_frame h_s (pick_sub 0x20 rfl hT))
                exact flBuf_frame h11 (pick_sub 0x8 rfl hT)) (Frame.ite (flProgram_frame h_s (pick_sub 0x22 rfl hT)) (Frame.upd h_s (m_flash := .inl (nth 1 rfl hT))))) (Frame.ite (by
              split
              · rename_i a15
                have h16 := FrameR.eq (L := LL) (r := rr) a15 (freeBytes_frame h_t_4 (pick_sub 0x20 rfl hT))
                exact flBuf_frame h16 (pick_sub 0x8 rfl hT)) h_t_4)
      clear_value t_4 s1_5
      exact raise_frame (wr_frame (Frame.upd h_s1_5 (m_pwr := .inl (nth 6 rfl hT))) (pick_sub 0x10 rfl hT)) (pick_sub 0x84 rfl hT))

/-- What execFlDone may change. -/
def execFlDone_T : List Piece :=
  [.err .boot, .flash, .fld (HDR.ev_raw .boot), .fld BOOT.FL_BUF.word, .fld BOOT.FL_OP.busy, .free, .pwr, .sent]

theorem execFlDone_frame {LL rr ok s} (h_s : Frame LL rr s) (hT : Cov execFlDone_T LL) :
    FrameN LL rr (execFlDone ok s) := by
  delta execFlDone
  exact FrameN.next (flDone_frame h_s (pick_sub 0xff rfl hT))

/-- What execFlErase may change. -/
def execFlErase_T : List Piece :=
  [.ctr .pot, .err .boot, .err .pot, .fld (HDR.ev_raw .boot), .fld (HDR.ev_raw .pot), .fld BOOT.FL_OP.busy, .pwr, .resp, .sent, .world]

theorem execFlErase_frame {LL rr w s} (h_s : Frame LL rr s) (hT : Cov execFlErase_T LL) :
    FrameN LL rr (execFlErase w s) := by
  delta execFlErase
  exact FrameN.next (flOp_frame h_s (pick_sub 0x3ff rfl hT))

/-- What execFlProgram may change. -/
def execFlProgram_T : List Piece :=
  [.ctr .pot, .err .boot, .err .pot, .fld (HDR.ev_raw .boot), .fld (HDR.ev_raw .pot), .fld BOOT.FL_OP.busy, .pwr, .resp, .sent, .world]

theorem execFlProgram_frame {LL rr w s} (h_s : Frame LL rr s) (hT : Cov execFlProgram_T LL) :
    FrameN LL rr (execFlProgram w s) := by
  delta execFlProgram
  exact FrameN.next (flOp_frame h_s (pick_sub 0x3ff rfl hT))

/-- What execFlRead may change. -/
def execFlRead_T : List Piece :=
  [.ctr .pot, .err .boot, .err .pot, .fld (HDR.ev_raw .boot), .fld (HDR.ev_raw .pot), .fld BOOT.FL_OP.busy, .pwr, .resp, .sent, .world]

theorem execFlRead_frame {LL rr w s} (h_s : Frame LL rr s) (hT : Cov execFlRead_T LL) :
    FrameN LL rr (execFlRead w s) := by
  delta execFlRead
  exact FrameN.next (flOp_frame h_s (pick_sub 0x3ff rfl hT))

/-- What execKeyRevoke may change. -/
def execKeyRevoke_T : List Piece :=
  [.ctr .pot, .err .boot, .err .pot, .fld (HDR.ev_raw .boot), .fld (HDR.ev_raw .pot), .otp, .resp, .sent, .world]

theorem execKeyRevoke_frame {LL rr w v s} (h_s : Frame LL rr s) (hT : Cov execKeyRevoke_T LL) :
    FrameN LL rr (execKeyRevoke w v s) := by
  delta execKeyRevoke
  exact FrameN.next (keyRevoke_frame h_s (pick_sub 0x1ff rfl hT))

end Sys2Proof.Laws
end

