-- ==== Sys2Proof/Laws/FrameGfx.lean ====
section
/-! SUPPORT. What the operations and commands of Machine/Gfx.lean may change: the parts of each, and that nothing else changes. -/

set_option Elab.async false

namespace Sys2Proof.Laws

open Machine

/-- What State.gfxAccount may change. -/
def gfxAccount_T : List Piece :=
  [.ctr .gfx, .gfx]

theorem gfxAccount_frame {LL rr s} (h_s : Frame LL rr s) (hT : Cov gfxAccount_T LL) :
    Frame LL rr (State.gfxAccount s) := by
  delta State.gfxAccount
  extract_lets credit_1 u_2
  exact Frame.foldl (Frame.upd h_s (m_gfx := .inl (nth 1 rfl hT))) (fun t3 x4 h5 => by
      extract_lets all_6 u_7
      exact count_frame (Frame.upd h5 (m_gfx := .inl (nth 1 rfl hT))) (pick_sub 0x1 rfl hT))

/-- What State.giveCtx may change. -/
def giveCtx_T : List Piece :=
  [.fld GFX.CTX_STAT.local, .fld GFX.CTX_STAT.owner, .fld GFX.CTX_STAT.state]

theorem giveCtx_frame {LL rr s owner c l} (h_s : Frame LL rr s) (hT : Cov giveCtx_T LL) :
    Frame LL rr (State.giveCtx s owner c l) := by
  delta State.giveCtx
  exact wr_frame (wr_frame (wr_frame h_s (pick_sub 0x2 rfl hT)) (pick_sub 0x1 rfl hT)) (pick_sub 0x4 rfl hT)

/-- What State.takeCtx may change. -/
def takeCtx_T : List Piece :=
  [.fld GFX.CTX_STAT.local, .fld GFX.CTX_STAT.owner, .fld GFX.CTX_STAT.state]

theorem takeCtx_frame {LL rr s c} (h_s : Frame LL rr s) (hT : Cov takeCtx_T LL) :
    Frame LL rr (State.takeCtx s c) := by
  delta State.takeCtx
  exact wr_frame (wr_frame (wr_frame h_s (pick_sub 0x2 rfl hT)) (pick_sub 0x1 rfl hT)) (pick_sub 0x4 rfl hT)

/-- What State.resizeCtx may change. -/
def resizeCtx_T : List Piece :=
  [.fld GFX.CTX_STAT.local, .fld GFX.CTX_STAT.owner, .fld GFX.CTX_STAT.state]

theorem resizeCtx_frame {LL rr s owner n} (h_s : Frame LL rr s) (hT : Cov resizeCtx_T LL) :
    Frame LL rr (State.resizeCtx s owner n) := by
  delta State.resizeCtx
  extract_lets u_1 s1_2
  have h_s1_2 : Frame LL rr s1_2 := by
      unfold s1_2
      exact Frame.foldl h_s (fun t3 x4 h5 => giveCtx_frame h5 (pick_sub 0x7 rfl hT))
  clear_value s1_2
  exact Frame.ite (Frame.foldl h_s (fun t6 x7 h8 => takeCtx_frame h8 (pick_sub 0x7 rfl hT))) (Frame.foldl h_s1_2 (fun t9 x10 h11 => wr_frame h11 (pick_sub 0x1 rfl hT)))

/-- What State.clearRows may change. -/
def clearRows_T : List Piece :=
  [.free]

theorem clearRows_frame {LL rr s g samples} (h_s : Frame LL rr s) (hT : Cov clearRows_T LL) :
    FrameP LL rr (State.clearRows s g samples) := by
  delta State.clearRows
  extract_lets n_1 m_2 row_3 main_4 m_5 u_6
  have h_row_3 : ∀ y0 y1, Frame LL rr y0 → FrameP LL rr (row_3 y0 y1) := by
      intro t7 x9 h8
      unfold row_3
      extract_lets a_10
      exact FrameP.ite (FrameP.mk h8) (FrameP.ite (FrameP.mk h8) (FrameP.mk (Frame.upd h8 (m_free := .inl (nth 0 rfl hT)))))
  have h_main_4 : FrameP LL rr main_4 := by
      unfold main_4
      exact FrameP.ite (FrameP.mk h_s) (FrameP.foldl (FrameP.mk h_s) (fun t11 x12 h13 => by
          extract_lets q_14
          have h_q_14 : FrameP LL rr q_14 := by
              unfold q_14
              exact h_row_3 _ _ (FrameP.fst h13)
          clear_value q_14
          exact FrameP.mk (FrameP.fst h_q_14)))
  have h_u_6 : Frame LL rr u_6 := by
      unfold u_6
      exact FrameP.fst h_main_4
  clear_value row_3 main_4 u_6
  exact FrameP.ite h_main_4 (FrameP.mk (Frame.upd h_u_6 (m_free := .inl (nth 0 rfl hT))))

/-- What State.writeBack may change. -/
def writeBack_T : List Piece :=
  [.ctr .dram, .ctr .dramq, .ctr .gfx, .ctr .pot, .dram, .err .dram, .err .pot, .fld (HDR.ev_raw .dram), .fld (HDR.ev_raw .pot), .mem, .pot, .sent]

theorem writeBack_frame {LL rr s q dirty} (h_s : Frame LL rr s) (hT : Cov writeBack_T LL) :
    FrameP LL rr (State.writeBack s q dirty) := by
  delta State.writeBack
  exact FrameP.foldl (FrameP.mk h_s) (fun t1 x2 h3 => by
      split
      · exact FrameP.mk (memRecord_frame (FrameP.fst h3) (pick_sub 0x9e9 rfl hT))
      · exact FrameP.mk (count_frame (put_frame (FrameP.fst h3) (pick_sub 0x61b rfl hT)) (pick_sub 0x4 rfl hT)))

/-- What State.scramble may change. -/
def scramble_T : List Piece :=
  [.dram, .free]

theorem scramble_frame {LL rr s q l} (h_s : Frame LL rr s) (hT : Cov scramble_T LL) :
    Frame LL rr (State.scramble s q l) := by
  delta State.scramble
  exact Frame.foldl h_s (fun t1 x2 h3 => Frame.ite (by
      extract_lets d_4
      exact wrBytes_frame (Frame.upd h3 (m_free := .inl (nth 1 rfl hT))) (pick_sub 0x1 rfl hT)) h3)

/-- What State.gfxShow may change. -/
def gfxShow_T : List Piece :=
  [.fld GFX.ENG_STAT.clusters0, .fld GFX.ENG_STAT.clusters1, .fld GFX.ENG_STAT.comp_active, .fld GFX.ENG_STAT.fe0, .fld GFX.ENG_STAT.fe1]

theorem gfxShow_frame {LL rr s} (h_s : Frame LL rr s) (hT : Cov gfxShow_T LL) :
    Frame LL rr (State.gfxShow s) := by
  delta State.gfxShow
  extract_lets fe_1 comp_2
  exact wrB_frame (wr_frame (wr_frame (wr_frame (wr_frame h_s (pick_sub 0x8 rfl hT)) (pick_sub 0x10 rfl hT)) (pick_sub 0x1 rfl hT)) (pick_sub 0x2 rfl hT)) (pick_sub 0x4 rfl hT)

/-- What State.setGfx may change. -/
def setGfx_T : List Piece :=
  [.ctr .gfx, .fld GFX.ENG_STAT.clusters0, .fld GFX.ENG_STAT.clusters1, .fld GFX.ENG_STAT.comp_active, .fld GFX.ENG_STAT.fe0,
   .fld GFX.ENG_STAT.fe1, .gfx]

theorem setGfx_frame {LL rr s e r} (h_s : Frame LL rr s) (hT : Cov setGfx_T LL) :
    Frame LL rr (State.setGfx s e r) := by
  delta State.setGfx
  extract_lets t_1 u_2
  have h_t_1 : Frame LL rr t_1 := by
      unfold t_1
      exact gfxAccount_frame h_s (pick_sub 0x41 rfl hT)
  clear_value t_1
  exact gfxShow_frame (Frame.upd h_t_1 (m_gfx := .inl (nth 6 rfl hT))) (pick_sub 0x3e rfl hT)

/-- What State.gfxLeave may change. -/
def gfxLeave_T : List Piece :=
  [.ctr .gfx, .fld GFX.CTX_STAT.state, .fld GFX.ENG_STAT.clusters0, .fld GFX.ENG_STAT.clusters1, .fld GFX.ENG_STAT.comp_active,
   .fld GFX.ENG_STAT.fe0, .fld GFX.ENG_STAT.fe1, .gfx, .rings]

theorem gfxLeave_frame {LL rr s r} (h_s : Frame LL rr s) (hT : Cov gfxLeave_T LL) :
    Frame LL rr (State.gfxLeave s r) := by
  delta State.gfxLeave
  extract_lets s1_1 u_2
  have h_s1_1 : Frame LL rr s1_1 := by
      unfold s1_1
      exact wr_frame (dropWait_frame h_s (pick_sub 0x100 rfl hT)) (pick_sub 0x2 rfl hT)
  clear_value s1_1
  exact Frame.ite (setGfx_frame h_s1_1 (pick_sub 0xfd rfl hT)) (gfxShow_frame (Frame.upd h_s1_1 (m_gfx := .inl (nth 7 rfl hT))) (pick_sub 0x7c rfl hT))

/-- What State.gfxEnd may change. -/
def gfxEnd_T : List Piece :=
  [.ctr .gfx, .fld GFX.CTX_STAT.state, .fld GFX.ENG_STAT.clusters0, .fld GFX.ENG_STAT.clusters1, .fld GFX.ENG_STAT.comp_active,
   .fld GFX.ENG_STAT.fe0, .fld GFX.ENG_STAT.fe1, .fld RSCHED.PIN_COUNT.pinned, .gfx, .rings]

theorem gfxEnd_frame {LL rr s r kind code detail info} (h_s : Frame LL rr s) (hT : Cov gfxEnd_T LL) :
    Frame LL rr (State.gfxEnd s r kind code detail info) := by
  delta State.gfxEnd
  exact endJob_frame (gfxLeave_frame h_s (pick_sub 0x37f rfl hT)) (pick_sub 0x280 rfl hT)

/-- What State.gfxFault may change. -/
def gfxFault_T : List Piece :=
  [.ctr .dram, .ctr .dramq, .ctr .gfx, .ctr .pot, .dram, .err .dram, .err .pot, .fld (HDR.ev_raw .dram), .fld (HDR.ev_raw .gfx),
   .fld (HDR.ev_raw .pot), .fld GFX.CTX_FAULT.cause, .fld GFX.CTX_FAULT.code, .fld GFX.CTX_FAULT_ADDR.addr, .fld GFX.CTX_STAT.state,
   .fld GFX.ENG_STAT.clusters0, .fld GFX.ENG_STAT.clusters1, .fld GFX.ENG_STAT.comp_active, .fld GFX.ENG_STAT.fe0, .fld GFX.ENG_STAT.fe1,
   .fld RSCHED.PIN_COUNT.pinned, .free, .gfx, .mem, .pot, .rings, .sent]

theorem gfxFault_frame {LL rr s r code cause under addr} (h_s : Frame LL rr s) (hT : Cov gfxFault_T LL) :
    Frame LL rr (State.gfxFault s r code cause under addr) := by
  delta State.gfxFault
  extract_lets s0_1 s1_2 l_3 both_4 s2_5 s3_6 u_7 s4_8
  have h_s0_1 : Frame LL rr s0_1 := by
      unfold s0_1
      exact FrameP.fst (writeBack_frame h_s (pick_sub 0x2c002ff rfl hT))
  have h_s1_2 : Frame LL rr s1_2 := by
      unfold s1_2
      exact scramble_frame h_s0_1 (pick_sub 0x100010 rfl hT)
  have h_s2_5 : Frame LL rr s2_5 := by
      unfold s2_5
      exact wr_frame (wr_frame (wr_frame h_s1_2 (pick_sub 0x400 rfl hT)) (pick_sub 0x800 rfl hT)) (pick_sub 0x1000 rfl hT)
  have h_s3_6 : Frame LL rr s3_6 := by
      unfold s3_6
      exact raise_frame (count_frame h_s2_5 (pick_sub 0x4 rfl hT)) (pick_sub 0x2000100 rfl hT)
  have h_s4_8 : Frame LL rr s4_8 := by
      unfold s4_8
      exact Frame.upd h_s3_6 (m_free := .inl (nth 20 rfl hT)) (m_gfx := .inl (nth 21 rfl hT))
  clear_value s0_1 s1_2 s2_5 s3_6 s4_8
  exact gfxEnd_frame h_s4_8 (pick_sub 0x12fe004 rfl hT)

/-- What State.gfxForce may change. -/
def gfxForce_T : List Piece :=
  [.ctr .dram, .ctr .dramq, .ctr .gfx, .ctr .pot, .dram, .err .dram, .err .pot, .fld (HDR.ev_raw .dram), .fld (HDR.ev_raw .gfx),
   .fld (HDR.ev_raw .pot), .fld GFX.CTX_FAULT.cause, .fld GFX.CTX_FAULT.code, .fld GFX.CTX_FAULT_ADDR.addr, .fld GFX.CTX_STAT.state,
   .fld GFX.ENG_STAT.clusters0, .fld GFX.ENG_STAT.clusters1, .fld GFX.ENG_STAT.comp_active, .fld GFX.ENG_STAT.fe0, .fld GFX.ENG_STAT.fe1,
   .fld RSCHED.PIN_COUNT.pinned, .free, .gfx, .mem, .pot, .rings, .sent]

theorem gfxForce_frame {LL rr s k code} (h_s : Frame LL rr s) (hT : Cov gfxForce_T LL) :
    Frame LL rr (State.gfxForce s k code) := by
  delta State.gfxForce
  extract_lets mine_1 s1_2 s2_3
  have h_s1_2 : Frame LL rr s1_2 := by
      unfold s1_2
      exact Frame.foldl h_s (fun t4 x5 h6 => by
          split
          · exact Frame.ite (gfxFault_frame h6 (pick_sub 0x3ffffff rfl hT)) h6
          · exact h6)
  have h_s2_3 : Frame LL rr s2_3 := by
      unfold s2_3
      exact Frame.foldl h_s1_2 (fun t12 x13 h14 => gfxFault_frame h14 (pick_sub 0x3ffffff rfl hT))
  clear_value s1_2 s2_3
  exact Frame.foldl h_s2_3 (fun t15 x16 h17 => by
      split
      · exact Frame.ite (endJob_frame (setJob_frame h17 (pick_sub 0x1000000 rfl hT)) (pick_sub 0x1080000 rfl hT)) h17
      · exact h17)

/-- What State.gfxAccess may change. -/
def gfxAccess_T : List Piece :=
  [.ctr .dram, .ctr .dramq, .ctr .gfx, .ctr .pot, .dram, .err .dram, .err .pot, .fld (HDR.ev_raw .dram), .fld (HDR.ev_raw .gfx),
   .fld (HDR.ev_raw .pot), .fld GFX.CTX_FAULT.cause, .fld GFX.CTX_FAULT.code, .fld GFX.CTX_FAULT_ADDR.addr, .fld GFX.CTX_STAT.state,
   .fld GFX.ENG_STAT.clusters0, .fld GFX.ENG_STAT.clusters1, .fld GFX.ENG_STAT.comp_active, .fld GFX.ENG_STAT.fe0, .fld GFX.ENG_STAT.fe1,
   .fld RSCHED.PIN_COUNT.pinned, .free, .gfx, .mem, .pot, .rings, .sent]

theorem gfxAccess_frame {LL rr s r e} (h_s : Frame LL rr s) (hT : Cov gfxAccess_T LL) :
    Frame LL rr (State.gfxAccess s r e) := by
  delta State.gfxAccess
  exact gfxFault_frame (memRecord_frame h_s (pick_sub 0x20002e9 rfl hT)) (pick_sub 0x3ffffff rfl hT)

/-- What State.gfxFlush may change. -/
def gfxFlush_T : List Piece :=
  [.ctr .dram, .ctr .dramq, .ctr .gfx, .ctr .pot, .dram, .err .dram, .err .pot, .fld (HDR.ev_raw .dram), .fld (HDR.ev_raw .gfx),
   .fld (HDR.ev_raw .pot), .fld GFX.CTX_FAULT.cause, .fld GFX.CTX_FAULT.code, .fld GFX.CTX_FAULT_ADDR.addr, .fld GFX.CTX_STAT.state,
   .fld GFX.ENG_STAT.clusters0, .fld GFX.ENG_STAT.clusters1, .fld GFX.ENG_STAT.comp_active, .fld GFX.ENG_STAT.fe0, .fld GFX.ENG_STAT.fe1,
   .fld RSCHED.PIN_COUNT.pinned, .free, .gfx, .mem, .pot, .rings, .sent]

theorem gfxFlush_frame {LL rr s r k} (h_s : Frame LL rr s) (h_k : ∀ y0 y1, Frame LL rr y0 → Frame LL rr (k y0 y1)) (hT : Cov gfxFlush_T LL) :
    Frame LL rr (State.gfxFlush s r k) := by
  delta State.gfxFlush
  split
  · rename_i a3
    have h4 := FrameP.eq (L := LL) (r := rr) a3 (writeBack_frame h_s (pick_sub 0x2c002ff rfl hT))
    exact h_k _ _ h4
  · rename_i a8
    have h9 := FrameP.eq (L := LL) (r := rr) a8 (writeBack_frame h_s (pick_sub 0x2c002ff rfl hT))
    exact gfxFault_frame h9 (pick_sub 0x3ffffff rfl hT)

/-- What State.gfxReject may change. -/
def gfxReject_T : List Piece :=
  [.ctr .dram, .ctr .dramq, .ctr .gfx, .ctr .pot, .dram, .err .dram, .err .pot, .fld (HDR.ev_raw .dram), .fld (HDR.ev_raw .gfx),
   .fld (HDR.ev_raw .pot), .fld GFX.CTX_FAULT.cause, .fld GFX.CTX_FAULT.code, .fld GFX.CTX_FAULT_ADDR.addr, .fld GFX.CTX_STAT.state,
   .fld GFX.ENG_STAT.clusters0, .fld GFX.ENG_STAT.clusters1, .fld GFX.ENG_STAT.comp_active, .fld GFX.ENG_STAT.fe0, .fld GFX.ENG_STAT.fe1,
   .fld RSCHED.PIN_COUNT.pinned, .free, .gfx, .mem, .pot, .rings, .sent]

theorem gfxReject_frame {LL rr s r code info} (h_s : Frame LL rr s) (hT : Cov gfxReject_T LL) :
    Frame LL rr (State.gfxReject s r code info) := by
  delta State.gfxReject
  exact gfxFlush_frame h_s (fun t1 x3 h2 => gfxEnd_frame (scramble_frame h2 (pick_sub 0x100010 rfl hT)) (pick_sub 0x12fe004 rfl hT)) (pick_sub 0x3ffffff rfl hT)

/-- What State.gfxBad may change. -/
def gfxBad_T : List Piece :=
  [.ctr .dram, .ctr .dramq, .ctr .gfx, .ctr .pot, .dram, .err .dram, .err .pot, .fld (HDR.ev_raw .dram), .fld (HDR.ev_raw .gfx),
   .fld (HDR.ev_raw .pot), .fld GFX.CTX_FAULT.cause, .fld GFX.CTX_FAULT.code, .fld GFX.CTX_FAULT_ADDR.addr, .fld GFX.CTX_STAT.state,
   .fld GFX.ENG_STAT.clusters0, .fld GFX.ENG_STAT.clusters1, .fld GFX.ENG_STAT.comp_active, .fld GFX.ENG_STAT.fe0, .fld GFX.ENG_STAT.fe1,
   .fld RSCHED.PIN_COUNT.pinned, .free, .gfx, .mem, .pot, .rings, .sent]

theorem gfxBad_frame {LL rr s r} (h_s : Frame LL rr s) (hT : Cov gfxBad_T LL) :
    Frame LL rr (State.gfxBad s r) := by
  delta State.gfxBad
  exact gfxReject_frame (count_frame h_s (pick_sub 0x4 rfl hT)) (pick_sub 0x3ffffff rfl hT)

/-- What State.gfxBegin may change. -/
def gfxBegin_T : List Piece :=
  [.ctr .gfx, .fld GFX.CTX_STAT.fe, .fld GFX.CTX_STAT.state, .fld GFX.ENG_STAT.clusters0, .fld GFX.ENG_STAT.clusters1,
   .fld GFX.ENG_STAT.comp_active, .fld GFX.ENG_STAT.fe0, .fld GFX.ENG_STAT.fe1, .fld RSCHED.PIN_COUNT.pinned, .gfx, .rings]

theorem gfxBegin_frame {LL rr s e} (h_s : Frame LL rr s) (hT : Cov gfxBegin_T LL) :
    Frame LL rr (State.gfxBegin s e) := by
  delta State.gfxBegin
  split
  · exact h_s
  · extract_lets own_6 s1_7 c_8 r_9
    have h_s1_7 : Frame LL rr s1_7 := by
        unfold s1_7
        exact setJob_frame h_s (pick_sub 0x400 rfl hT)
    clear_value s1_7
    exact Frame.ite (Frame.ite h_s (setGfx_frame (count_frame (wr_frame (wr_frame h_s1_7 (pick_sub 0x4 rfl hT)) (pick_sub 0x2 rfl hT)) (pick_sub 0x1 rfl hT)) (pick_sub 0x2f9 rfl hT))) (endJob_frame (count_frame h_s1_7 (pick_sub 0x1 rfl hT)) (pick_sub 0x500 rfl hT))

/-- What State.partialRender may change. -/
def partialRender_T : List Piece :=
  [.ctr .gfx]

theorem partialRender_frame {LL rr s r} (h_s : Frame LL rr s) (hT : Cov partialRender_T LL) :
    FrameP LL rr (State.partialRender s r) := by
  delta State.partialRender
  extract_lets again_1
  exact FrameP.mk (count_frame (count_frame (count_frame h_s (pick_sub 0x1 rfl hT)) (pick_sub 0x1 rfl hT)) (pick_sub 0x1 rfl hT))

/-- What State.gfxBin may change. -/
def gfxBin_T : List Piece :=
  [.ctr .gfx]

theorem gfxBin_frame {LL rr s r batches} (h_s : Frame LL rr s) (hT : Cov gfxBin_T LL) :
    FrameP LL rr (State.gfxBin s r batches) := by
  delta State.gfxBin
  exact FrameP.foldl (FrameP.mk h_s) (fun t1 x2 h3 => by
      extract_lets p_4 u_5
      have h_p_4 : FrameP LL rr p_4 := by
          unfold p_4
          exact FrameP.ite (partialRender_frame (FrameP.fst h3) (pick_sub 0x1 rfl hT)) h3
      clear_value p_4
      exact FrameP.mk (FrameP.fst h_p_4))

/-- What State.gfxResume may change. -/
def gfxResume_T : List Piece :=
  [.ctr .gfx, .fld GFX.CTX_STAT.state, .fld GFX.ENG_STAT.clusters0, .fld GFX.ENG_STAT.clusters1, .fld GFX.ENG_STAT.comp_active,
   .fld GFX.ENG_STAT.fe0, .fld GFX.ENG_STAT.fe1, .fld RSCHED.PIN_COUNT.pinned, .gfx, .rings]

theorem gfxResume_frame {LL rr s r} (h_s : Frame LL rr s) (hT : Cov gfxResume_T LL) :
    Frame LL rr (State.gfxResume s r) := by
  delta State.gfxResume
  extract_lets code_1 s1_2 u_3
  have h_s1_2 : Frame LL rr s1_2 := by
      unfold s1_2
      exact wr_frame (Frame.ite (dropWait_frame h_s (pick_sub 0x200 rfl hT)) h_s) (pick_sub 0x2 rfl hT)
  clear_value s1_2
  exact Frame.ite (gfxEnd_frame h_s (pick_sub 0x3ff rfl hT)) (setGfx_frame (Frame.upd h_s1_2 (m_gfx := .inl (nth 8 rfl hT))) (pick_sub 0x17d rfl hT))

/-- What State.gfxBoundary may change. -/
def gfxBoundary_T : List Piece :=
  [.ctr .dram, .ctr .dramq, .ctr .gfx, .ctr .pot, .ctr .rsched, .err .dram, .err .pot, .fld (HDR.ev_raw .dram), .fld (HDR.ev_raw .pot),
   .fld GFX.CTX_STAT.state, .fld GFX.ENG_STAT.clusters0, .fld GFX.ENG_STAT.clusters1, .fld GFX.ENG_STAT.comp_active, .fld GFX.ENG_STAT.fe0,
   .fld GFX.ENG_STAT.fe1, .fld RSCHED.PIN_COUNT.pinned, .gfx, .mem, .pot, .rings, .sent]

theorem gfxBoundary_frame {LL rr s e} (h_s : Frame LL rr s) (hT : Cov gfxBoundary_T LL) :
    Frame LL rr (State.gfxBoundary s e) := by
  delta State.gfxBoundary
  exact Frame.ite h_s (Frame.ite h_s (by
      split
      · exact gfxResume_frame h_s (pick_sub 0x9fe04 rfl hT)
      · split
        · exact startJob_frame h_s (pick_sub 0x1e01fb rfl hT)
        · exact h_s))

/-- What State.passStores may change. -/
def passStores_T : List Piece :=
  [.free]

theorem passStores_frame {LL rr s r fx} (h_s : Frame LL rr s) (hT : Cov passStores_T LL) :
    FrameP LL rr (State.passStores s r fx) := by
  delta State.passStores
  exact FrameP.ite (FrameP.mk h_s) (FrameP.foldl (FrameP.mk h_s) (fun t1 x2 h3 => by
      extract_lets q_4
      have h_q_4 : FrameP LL rr q_4 := by
          unfold q_4
          exact clearRows_frame (FrameP.fst h3) (pick_sub 0x1 rfl hT)
      clear_value q_4
      exact FrameP.mk (FrameP.fst h_q_4)))

/-- What State.gfxStores may change. -/
def gfxStores_T : List Piece :=
  [.ctr .dram, .ctr .dramq, .ctr .gfx, .ctr .pot, .dram, .err .dram, .err .pot, .fld (HDR.ev_raw .dram), .fld (HDR.ev_raw .gfx),
   .fld (HDR.ev_raw .pot), .fld GFX.CTX_FAULT.cause, .fld GFX.CTX_FAULT.code, .fld GFX.CTX_FAULT_ADDR.addr, .fld GFX.CTX_STAT.state,
   .fld GFX.ENG_STAT.clusters0, .fld GFX.ENG_STAT.clusters1, .fld GFX.ENG_STAT.comp_active, .fld GFX.ENG_STAT.fe0, .fld GFX.ENG_STAT.fe1,
   .fld RSCHED.PIN_COUNT.pinned, .free, .gfx, .mem, .pot, .rings, .sent]

theorem gfxStores_frame {LL rr s r hint stores k} (h_s : Frame LL rr s) (h_k : ∀ y0 y1, Frame LL rr y0 → Frame LL rr (k y0 y1)) (hT : Cov gfxStores_T LL) :
    Frame LL rr (State.gfxStores s r hint stores k) := by
  delta State.gfxStores
  extract_lets refusal_1 good_2 r1_3
  split
  · exact gfxAccess_frame h_s (pick_sub 0x3ffffff rfl hT)
  · exact h_k _ _ h_s

/-- What State.gfxPassEnd may change. -/
def gfxPassEnd_T : List Piece :=
  [.ctr .dram, .ctr .dramq, .ctr .gfx, .ctr .pot, .dram, .err .dram, .err .pot, .fld (HDR.ev_raw .dram), .fld (HDR.ev_raw .gfx),
   .fld (HDR.ev_raw .pot), .fld GFX.CTX_FAULT.cause, .fld GFX.CTX_FAULT.code, .fld GFX.CTX_FAULT_ADDR.addr, .fld GFX.CTX_STAT.state,
   .fld GFX.ENG_STAT.clusters0, .fld GFX.ENG_STAT.clusters1, .fld GFX.ENG_STAT.comp_active, .fld GFX.ENG_STAT.fe0, .fld GFX.ENG_STAT.fe1,
   .fld RSCHED.PIN_COUNT.pinned, .free, .gfx, .mem, .pot, .rings, .sent]

theorem gfxPassEnd_frame {LL rr s r fx k} (h_s : Frame LL rr s) (h_k : ∀ y0 y1, Frame LL rr y0 → Frame LL rr (k y0 y1)) (hT : Cov gfxPassEnd_T LL) :
    Frame LL rr (State.gfxPassEnd s r fx k) := by
  delta State.gfxPassEnd
  exact Frame.ite (h_k _ _ h_s) (by
      extract_lets p_1
      have h_p_1 : FrameP LL rr p_1 := by
          unfold p_1
          exact passStores_frame (count_frame h_s (pick_sub 0x4 rfl hT)) (pick_sub 0x100000 rfl hT)
      clear_value p_1
      exact gfxStores_frame (FrameP.fst h_p_1) (fun t2 x4 h3 => gfxFlush_frame h3 (fun t5 x7 h6 => h_k _ _ h6) (pick_sub 0x3ffffff rfl hT)) (pick_sub 0x3ffffff rfl hT))

/-- What State.gfxRead may change. -/
def gfxRead_T : List Piece :=
  [.ctr .dram, .ctr .dramq, .ctr .gfx, .ctr .pot, .mem, .pot]

theorem gfxRead_frame {LL rr s r a n} (h_s : Frame LL rr s) (hT : Cov gfxRead_T LL) :
    Frame LL rr (State.gfxRead s r a n) := by
  delta State.gfxRead
  exact count_frame (fetched_frame h_s (pick_sub 0x3b rfl hT)) (pick_sub 0x4 rfl hT)

/-- What State.gfxReads may change. -/
def gfxReads_T : List Piece :=
  [.ctr .dram, .ctr .dramq, .ctr .gfx, .ctr .pot, .dram, .err .dram, .err .pot, .fld (HDR.ev_raw .dram), .fld (HDR.ev_raw .gfx),
   .fld (HDR.ev_raw .pot), .fld GFX.CTX_FAULT.cause, .fld GFX.CTX_FAULT.code, .fld GFX.CTX_FAULT_ADDR.addr, .fld GFX.CTX_STAT.state,
   .fld GFX.ENG_STAT.clusters0, .fld GFX.ENG_STAT.clusters1, .fld GFX.ENG_STAT.comp_active, .fld GFX.ENG_STAT.fe0, .fld GFX.ENG_STAT.fe1,
   .fld RSCHED.PIN_COUNT.pinned, .free, .gfx, .mem, .pot, .rings, .sent]

theorem gfxReads_frame {LL rr s r reads k} (h_s : Frame LL rr s) (h_k : ∀ y0, Frame LL rr y0 → Frame LL rr (k y0)) (hT : Cov gfxReads_T LL) :
    Frame LL rr (State.gfxReads s r reads k) := by
  delta State.gfxReads
  extract_lets p_1
  have h_p_1 : FrameP LL rr p_1 := by
      unfold p_1
      exact FrameP.foldl (FrameP.mk h_s) (fun t2 x3 h4 => FrameP.ite h4 (by
          split
          · exact FrameP.mk (FrameP.fst h4)
          · exact FrameP.mk (gfxRead_frame (FrameP.fst h4) (pick_sub 0xc0000f rfl hT))))
  clear_value p_1
  split
  · exact gfxAccess_frame (FrameP.fst h_p_1) (pick_sub 0x3ffffff rfl hT)
  · exact h_k _ (FrameP.fst h_p_1)

/-- What State.gfxWork may change. -/
def gfxWork_T : List Piece :=
  [.ctr .dram, .ctr .dramq, .ctr .gfx, .ctr .pot, .dram, .err .dram, .err .pot, .fld (HDR.ev_raw .dram), .fld (HDR.ev_raw .gfx),
   .fld (HDR.ev_raw .pot), .fld GFX.CTX_FAULT.cause, .fld GFX.CTX_FAULT.code, .fld GFX.CTX_FAULT_ADDR.addr, .fld GFX.CTX_STAT.state,
   .fld GFX.ENG_STAT.clusters0, .fld GFX.ENG_STAT.clusters1, .fld GFX.ENG_STAT.comp_active, .fld GFX.ENG_STAT.fe0, .fld GFX.ENG_STAT.fe1,
   .fld RSCHED.PIN_COUNT.pinned, .free, .gfx, .mem, .pot, .rings, .sent]

theorem gfxWork_frame {LL rr s r fx k} (h_s : Frame LL rr s) (h_k : ∀ y0 y1, Frame LL rr y0 → Frame LL rr (k y0 y1)) (hT : Cov gfxWork_T LL) :
    Frame LL rr (State.gfxWork s r fx k) := by
  delta State.gfxWork
  extract_lets p_1
  have h_p_1 : FrameP LL rr p_1 := by
      unfold p_1
      exact gfxBin_frame h_s (pick_sub 0x4 rfl hT)
  clear_value p_1
  exact gfxReads_frame (FrameP.fst h_p_1) (fun t2 h3 => gfxStores_frame h3 (fun t4 x6 h5 => h_k _ _ h5) (pick_sub 0x3ffffff rfl hT)) (pick_sub 0x3ffffff rfl hT)

/-- What State.gfxNext may change. -/
def gfxNext_T : List Piece :=
  [.gfx]

theorem gfxNext_frame {LL rr s r n} (h_s : Frame LL rr s) (hT : Cov gfxNext_T LL) :
    Frame LL rr (State.gfxNext s r n) := by
  delta State.gfxNext
  exact Frame.upd h_s (m_gfx := .inl (nth 0 rfl hT))

/-- What State.gfxDispatch may change. -/
def gfxDispatch_T : List Piece :=
  [.ctr .dram, .ctr .dramq, .ctr .gfx, .ctr .pot, .dram, .err .dram, .err .pot, .fld (HDR.ev_raw .dram), .fld (HDR.ev_raw .gfx),
   .fld (HDR.ev_raw .pot), .fld GFX.CTX_FAULT.cause, .fld GFX.CTX_FAULT.code, .fld GFX.CTX_FAULT_ADDR.addr, .fld GFX.CTX_STAT.state,
   .fld GFX.ENG_STAT.clusters0, .fld GFX.ENG_STAT.clusters1, .fld GFX.ENG_STAT.comp_active, .fld GFX.ENG_STAT.fe0, .fld GFX.ENG_STAT.fe1,
   .fld RSCHED.PIN_COUNT.pinned, .free, .gfx, .mem, .pot, .rings, .sent]

theorem gfxDispatch_frame {LL rr s r fx grid len} (h_s : Frame LL rr s) (hT : Cov gfxDispatch_T LL) :
    Frame LL rr (State.gfxDispatch s r fx grid len) := by
  delta State.gfxDispatch
  exact gfxPassEnd_frame h_s (fun t1 x3 h2 => Frame.ite (gfxWork_frame (count_frame h2 (pick_sub 0x4 rfl hT)) (fun t4 x6 h5 => gfxNext_frame h5 (pick_sub 0x200000 rfl hT)) (pick_sub 0x3ffffff rfl hT)) (gfxNext_frame h2 (pick_sub 0x200000 rfl hT))) (pick_sub 0x3ffffff rfl hT)

/-- What State.gfxDraw may change. -/
def gfxDraw_T : List Piece :=
  [.ctr .dram, .ctr .dramq, .ctr .gfx, .ctr .pot, .dram, .err .dram, .err .pot, .fld (HDR.ev_raw .dram), .fld (HDR.ev_raw .gfx),
   .fld (HDR.ev_raw .pot), .fld GFX.CTX_FAULT.cause, .fld GFX.CTX_FAULT.code, .fld GFX.CTX_FAULT_ADDR.addr, .fld GFX.CTX_STAT.state,
   .fld GFX.ENG_STAT.clusters0, .fld GFX.ENG_STAT.clusters1, .fld GFX.ENG_STAT.comp_active, .fld GFX.ENG_STAT.fe0, .fld GFX.ENG_STAT.fe1,
   .fld RSCHED.PIN_COUNT.pinned, .free, .gfx, .mem, .pot, .rings, .sent]

theorem gfxDraw_frame {LL rr s r fx n len} (h_s : Frame LL rr s) (hT : Cov gfxDraw_T LL) :
    Frame LL rr (State.gfxDraw s r fx n len) := by
  delta State.gfxDraw
  exact Frame.ite (gfxBad_frame h_s (pick_sub 0x3ffffff rfl hT)) (gfxWork_frame (count_frame h_s (pick_sub 0x4 rfl hT)) (fun t1 x3 h2 => gfxNext_frame h2 (pick_sub 0x200000 rfl hT)) (pick_sub 0x3ffffff rfl hT))

/-- What State.gfxHold may change. -/
def gfxHold_T : List Piece :=
  [.ctr .gfx, .fld GFX.CTX_STAT.state, .fld GFX.ENG_STAT.clusters0, .fld GFX.ENG_STAT.clusters1, .fld GFX.ENG_STAT.comp_active,
   .fld GFX.ENG_STAT.fe0, .fld GFX.ENG_STAT.fe1, .gfx]

theorem gfxHold_frame {LL rr s r phase ctxState} (h_s : Frame LL rr s) (hT : Cov gfxHold_T LL) :
    Frame LL rr (State.gfxHold s r phase ctxState) := by
  delta State.gfxHold
  extract_lets t_1 u_2
  have h_t_1 : Frame LL rr t_1 := by
      unfold t_1
      exact wr_frame (setGfx_frame h_s (pick_sub 0xfd rfl hT)) (pick_sub 0x2 rfl hT)
  clear_value t_1
  exact gfxShow_frame (Frame.upd h_t_1 (m_gfx := .inl (nth 7 rfl hT))) (pick_sub 0x7c rfl hT)

/-- What State.gfxKill may change. -/
def gfxKill_T : List Piece :=
  [.ctr .dram, .ctr .dramq, .ctr .gfx, .ctr .pot, .dram, .err .dram, .err .pot, .fld (HDR.ev_raw .dram), .fld (HDR.ev_raw .gfx),
   .fld (HDR.ev_raw .pot), .fld GFX.CTX_FAULT.cause, .fld GFX.CTX_FAULT.code, .fld GFX.CTX_FAULT_ADDR.addr, .fld GFX.CTX_STAT.state,
   .fld GFX.ENG_STAT.clusters0, .fld GFX.ENG_STAT.clusters1, .fld GFX.ENG_STAT.comp_active, .fld GFX.ENG_STAT.fe0, .fld GFX.ENG_STAT.fe1,
   .fld RSCHED.PIN_COUNT.pinned, .free, .gfx, .mem, .pot, .rings, .sent]

theorem gfxKill_frame {LL rr s e} (h_s : Frame LL rr s) (hT : Cov gfxKill_T LL) :
    Frame LL rr (State.gfxKill s e) := by
  delta State.gfxKill
  split
  · exact h_s
  · exact Frame.ite h_s (gfxFault_frame (raise_frame h_s (pick_sub 0x2000100 rfl hT)) (pick_sub 0x3ffffff rfl hT))

/-- What State.gfxLoad may change. -/
def gfxLoad_T : List Piece :=
  [.ctr .dram, .ctr .dramq, .ctr .gfx, .ctr .pot, .dram, .err .dram, .err .pot, .fld (HDR.ev_raw .dram), .fld (HDR.ev_raw .gfx),
   .fld (HDR.ev_raw .pot), .fld GFX.CTX_FAULT.cause, .fld GFX.CTX_FAULT.code, .fld GFX.CTX_FAULT_ADDR.addr, .fld GFX.CTX_STAT.state,
   .fld GFX.ENG_STAT.clusters0, .fld GFX.ENG_STAT.clusters1, .fld GFX.ENG_STAT.comp_active, .fld GFX.ENG_STAT.fe0, .fld GFX.ENG_STAT.fe1,
   .fld RSCHED.PIN_COUNT.pinned, .free, .gfx, .mem, .pot, .rings, .sent]

theorem gfxLoad_frame {LL rr s r a n k} (h_s : Frame LL rr s) (h_k : ∀ y0, Frame LL rr y0 → Frame LL rr (k y0)) (hT : Cov gfxLoad_T LL) :
    Frame LL rr (State.gfxLoad s r a n k) := by
  delta State.gfxLoad
  split
  · exact gfxAccess_frame h_s (pick_sub 0x3ffffff rfl hT)
  · exact h_k _ (gfxRead_frame h_s (pick_sub 0xc0000f rfl hT))

/-- What State.gfxPacket may change. -/
def gfxPacket_T : List Piece :=
  [.ctr .dram, .ctr .dramq, .ctr .gfx, .ctr .pot, .dram, .err .dram, .err .pot, .fld (HDR.ev_raw .dram), .fld (HDR.ev_raw .gfx),
   .fld (HDR.ev_raw .pot), .fld GFX.CTX_FAULT.cause, .fld GFX.CTX_FAULT.code, .fld GFX.CTX_FAULT_ADDR.addr, .fld GFX.CTX_STAT.state,
   .fld GFX.ENG_STAT.clusters0, .fld GFX.ENG_STAT.clusters1, .fld GFX.ENG_STAT.comp_active, .fld GFX.ENG_STAT.fe0, .fld GFX.ENG_STAT.fe1,
   .fld RSCHED.PIN_COUNT.pinned, .free, .gfx, .mem, .pot, .rings, .sent]

theorem gfxPacket_frame {LL rr s e op sub k} (h_s : Frame LL rr s) (h_k : ∀ y0 y1 y2, Frame LL rr y0 → Frame LL rr (k y0 y1 y2)) (hT : Cov gfxPacket_T LL) :
    Frame LL rr (State.gfxPacket s e op sub k) := by
  delta State.gfxPacket
  split
  · exact h_s
  · exact Frame.ite h_s (by
        extract_lets a_6 h_7 len_8 w1_9 n_10
        split
        · exact gfxAccess_frame h_s (pick_sub 0x3ffffff rfl hT)
        · exact Frame.ite (gfxBad_frame (gfxRead_frame h_s (pick_sub 0xc0000f rfl hT)) (pick_sub 0x3ffffff rfl hT)) (Frame.ite h_s (by
              split
              · exact gfxAccess_frame h_s (pick_sub 0x3ffffff rfl hT)
              · exact h_k _ _ _ (gfxRead_frame h_s (pick_sub 0xc0000f rfl hT)))))

/-- What State.gfxPreempt may change. -/
def gfxPreempt_T : List Piece :=
  [.ctr .gfx, .fld GFX.CTX_STAT.state, .fld GFX.ENG_STAT.clusters0, .fld GFX.ENG_STAT.clusters1, .fld GFX.ENG_STAT.comp_active,
   .fld GFX.ENG_STAT.fe0, .fld GFX.ENG_STAT.fe1, .gfx]

theorem gfxPreempt_frame {LL rr s e} (h_s : Frame LL rr s) (hT : Cov gfxPreempt_T LL) :
    Frame LL rr (State.gfxPreempt s e) := by
  delta State.gfxPreempt
  split
  · exact h_s
  · exact Frame.ite h_s (gfxHold_frame h_s (pick_sub 0xff rfl hT))

/-- What State.gfxStamp may change. -/
def gfxStamp_T : List Piece :=
  [.ctr .dram, .ctr .dramq, .ctr .gfx, .ctr .pot, .dram, .err .dram, .err .pot, .fld (HDR.ev_raw .dram), .fld (HDR.ev_raw .gfx),
   .fld (HDR.ev_raw .pot), .fld GFX.CTX_FAULT.cause, .fld GFX.CTX_FAULT.code, .fld GFX.CTX_FAULT_ADDR.addr, .fld GFX.CTX_STAT.state,
   .fld GFX.ENG_STAT.clusters0, .fld GFX.ENG_STAT.clusters1, .fld GFX.ENG_STAT.comp_active, .fld GFX.ENG_STAT.fe0, .fld GFX.ENG_STAT.fe1,
   .fld RSCHED.PIN_COUNT.pinned, .free, .gfx, .mem, .pot, .rings, .sent]

theorem gfxStamp_frame {LL rr s e sub} (h_s : Frame LL rr s) (hT : Cov gfxStamp_T LL) :
    Frame LL rr (State.gfxStamp s e sub) := by
  delta State.gfxStamp
  exact gfxPacket_frame h_s (fun t1 x3 x4 h2 => by
      extract_lets a_5
      exact Frame.ite (gfxBad_frame h2 (pick_sub 0x3ffffff rfl hT)) (gfxStores_frame h2 (fun t6 x8 h7 => gfxNext_frame h7 (pick_sub 0x200000 rfl hT)) (pick_sub 0x3ffffff rfl hT))) (pick_sub 0x3ffffff rfl hT)

/-- What State.gfxState may change. -/
def gfxState_T : List Piece :=
  [.ctr .dram, .ctr .dramq, .ctr .gfx, .ctr .pot, .dram, .err .dram, .err .pot, .fld (HDR.ev_raw .dram), .fld (HDR.ev_raw .gfx),
   .fld (HDR.ev_raw .pot), .fld GFX.CTX_FAULT.cause, .fld GFX.CTX_FAULT.code, .fld GFX.CTX_FAULT_ADDR.addr, .fld GFX.CTX_STAT.state,
   .fld GFX.ENG_STAT.clusters0, .fld GFX.ENG_STAT.clusters1, .fld GFX.ENG_STAT.comp_active, .fld GFX.ENG_STAT.fe0, .fld GFX.ENG_STAT.fe1,
   .fld RSCHED.PIN_COUNT.pinned, .free, .gfx, .mem, .pot, .rings, .sent]

theorem gfxState_frame {LL rr s e sub} (h_s : Frame LL rr s) (hT : Cov gfxState_T LL) :
    Frame LL rr (State.gfxState s e sub) := by
  delta State.gfxState
  exact gfxPacket_frame h_s (fun t1 x3 x4 h2 => gfxNext_frame h2 (pick_sub 0x200000 rfl hT)) (pick_sub 0x3ffffff rfl hT)

/-- What execCompositorPreempt may change. -/
def execCompositorPreempt_T : List Piece :=
  [.ctr .dram, .ctr .dramq, .ctr .gfx, .ctr .pot, .ctr .rsched, .dram, .err .dram, .err .pot, .evSeq, .events, .fld (HDR.ev_raw .dram),
   .fld (HDR.ev_raw .gfx), .fld (HDR.ev_raw .pot), .fld GFX.CTX_FAULT.cause, .fld GFX.CTX_FAULT.code, .fld GFX.CTX_FAULT_ADDR.addr,
   .fld GFX.CTX_STAT.fe, .fld GFX.CTX_STAT.state, .fld GFX.ENG_STAT.clusters0, .fld GFX.ENG_STAT.clusters1, .fld GFX.ENG_STAT.comp_active,
   .fld GFX.ENG_STAT.fe0, .fld GFX.ENG_STAT.fe1, .fld GFX.PREEMPT_LAST.us, .fld RSCHED.PIN_COUNT.pinned, .free, .gfx, .mem, .pot, .rings, .sent]

theorem execCompositorPreempt_frame {LL rr e us stuck s} (h_s : Frame LL rr s) (hT : Cov execCompositorPreempt_T LL) :
    FrameN LL rr (execCompositorPreempt e us stuck s) := by
  delta execCompositorPreempt
  exact FrameN.next (by
      split
      · exact h_s
      · extract_lets s0_6 late_7 s1_8 s2_9 s3_10
        have h_s0_6 : Frame LL rr s0_6 := by
            unfold s0_6
            exact gfxBegin_frame h_s (pick_sub 0x257f0004 rfl hT)
        have h_late_7 : ∀ y0 y1, Frame LL rr y0 → Frame LL rr (late_7 y0 y1) := by
            intro t11 x13 h12
            unfold late_7
            exact Frame.ite (gfxKill_frame h12 (pick_sub 0x7f7efcef rfl hT)) h12
        have h_s1_8 : Frame LL rr s1_8 := by
            unfold s1_8
            exact count_frame (gfxPreempt_frame (gfxPreempt_frame (h_late_7 _ _ (h_late_7 _ _ h_s0_6)) (pick_sub 0x47e0004 rfl hT)) (pick_sub 0x47e0004 rfl hT)) (pick_sub 0x4 rfl hT)
        have h_s2_9 : Frame LL rr s2_9 := by
            unfold s2_9
            exact gfxBegin_frame (startJob_frame h_s1_8 (pick_sub 0x780014db rfl hT)) (pick_sub 0x257f0004 rfl hT)
        have h_s3_10 : Frame LL rr s3_10 := by
            unfold s3_10
            exact wr_frame h_s2_9 (pick_sub 0x800000 rfl hT)
        clear_value s0_6 late_7 s1_8 s2_9 s3_10
        exact Frame.ite h_s (Frame.ite (eventPage_frame (raise_frame (count_frame h_s3_10 (pick_sub 0x4 rfl hT)) (pick_sub 0x40000800 rfl hT)) (pick_sub 0x300 rfl hT)) h_s3_10))

/-- What execGfxBarrier may change. -/
def execGfxBarrier_T : List Piece :=
  [.ctr .dram, .ctr .dramq, .ctr .gfx, .ctr .pot, .dram, .err .dram, .err .pot, .fld (HDR.ev_raw .dram), .fld (HDR.ev_raw .gfx),
   .fld (HDR.ev_raw .pot), .fld GFX.CTX_FAULT.cause, .fld GFX.CTX_FAULT.code, .fld GFX.CTX_FAULT_ADDR.addr, .fld GFX.CTX_STAT.state,
   .fld GFX.ENG_STAT.clusters0, .fld GFX.ENG_STAT.clusters1, .fld GFX.ENG_STAT.comp_active, .fld GFX.ENG_STAT.fe0, .fld GFX.ENG_STAT.fe1,
   .fld RSCHED.PIN_COUNT.pinned, .free, .gfx, .mem, .pot, .rings, .sent]

theorem execGfxBarrier_frame {LL rr e s} (h_s : Frame LL rr s) (hT : Cov execGfxBarrier_T LL) :
    FrameN LL rr (execGfxBarrier e s) := by
  delta execGfxBarrier
  exact FrameN.next (gfxPacket_frame h_s (fun t1 x3 x4 h2 => Frame.ite (gfxBad_frame h2 (pick_sub 0x3ffffff rfl hT)) (gfxFlush_frame h2 (fun t5 x7 h6 => gfxNext_frame h6 (pick_sub 0x200000 rfl hT)) (pick_sub 0x3ffffff rfl hT))) (pick_sub 0x3ffffff rfl hT))

/-- What execGfxBindIndex may change. -/
def execGfxBindIndex_T : List Piece :=
  [.ctr .dram, .ctr .dramq, .ctr .gfx, .ctr .pot, .dram, .err .dram, .err .pot, .fld (HDR.ev_raw .dram), .fld (HDR.ev_raw .gfx),
   .fld (HDR.ev_raw .pot), .fld GFX.CTX_FAULT.cause, .fld GFX.CTX_FAULT.code, .fld GFX.CTX_FAULT_ADDR.addr, .fld GFX.CTX_STAT.state,
   .fld GFX.ENG_STAT.clusters0, .fld GFX.ENG_STAT.clusters1, .fld GFX.ENG_STAT.comp_active, .fld GFX.ENG_STAT.fe0, .fld GFX.ENG_STAT.fe1,
   .fld RSCHED.PIN_COUNT.pinned, .free, .gfx, .mem, .pot, .rings, .sent]

theorem execGfxBindIndex_frame {LL rr e s} (h_s : Frame LL rr s) (hT : Cov execGfxBindIndex_T LL) :
    FrameN LL rr (execGfxBindIndex e s) := by
  delta execGfxBindIndex
  exact FrameN.next (gfxPacket_frame h_s (fun t1 x3 x4 h2 => Frame.ite (gfxBad_frame h2 (pick_sub 0x3ffffff rfl hT)) (gfxNext_frame h2 (pick_sub 0x200000 rfl hT))) (pick_sub 0x3ffffff rfl hT))

/-- What execGfxBindPipeline may change. -/
def execGfxBindPipeline_T : List Piece :=
  [.ctr .dram, .ctr .dramq, .ctr .gfx, .ctr .pot, .dram, .err .dram, .err .pot, .fld (HDR.ev_raw .dram), .fld (HDR.ev_raw .gfx),
   .fld (HDR.ev_raw .pot), .fld GFX.CTX_FAULT.cause, .fld GFX.CTX_FAULT.code, .fld GFX.CTX_FAULT_ADDR.addr, .fld GFX.CTX_STAT.state,
   .fld GFX.ENG_STAT.clusters0, .fld GFX.ENG_STAT.clusters1, .fld GFX.ENG_STAT.comp_active, .fld GFX.ENG_STAT.fe0, .fld GFX.ENG_STAT.fe1,
   .fld RSCHED.PIN_COUNT.pinned, .free, .gfx, .mem, .pot, .rings, .sent]

theorem execGfxBindPipeline_frame {LL rr e s} (h_s : Frame LL rr s) (hT : Cov execGfxBindPipeline_T LL) :
    FrameN LL rr (execGfxBindPipeline e s) := by
  delta execGfxBindPipeline
  exact FrameN.next (gfxPacket_frame h_s (fun t1 x3 x4 h2 => by
      extract_lets a_5
      exact Frame.ite (gfxBad_frame h2 (pick_sub 0x3ffffff rfl hT)) (gfxLoad_frame h2 (fun t6 h7 => Frame.ite (gfxBad_frame h7 (pick_sub 0x3ffffff rfl hT)) (Frame.ite (gfxReject_frame (count_frame h7 (pick_sub 0x4 rfl hT)) (pick_sub 0x3ffffff rfl hT)) (gfxNext_frame h7 (pick_sub 0x200000 rfl hT)))) (pick_sub 0x3ffffff rfl hT))) (pick_sub 0x3ffffff rfl hT))

/-- What execGfxBindPush may change. -/
def execGfxBindPush_T : List Piece :=
  [.ctr .dram, .ctr .dramq, .ctr .gfx, .ctr .pot, .dram, .err .dram, .err .pot, .fld (HDR.ev_raw .dram), .fld (HDR.ev_raw .gfx),
   .fld (HDR.ev_raw .pot), .fld GFX.CTX_FAULT.cause, .fld GFX.CTX_FAULT.code, .fld GFX.CTX_FAULT_ADDR.addr, .fld GFX.CTX_STAT.state,
   .fld GFX.ENG_STAT.clusters0, .fld GFX.ENG_STAT.clusters1, .fld GFX.ENG_STAT.comp_active, .fld GFX.ENG_STAT.fe0, .fld GFX.ENG_STAT.fe1,
   .fld RSCHED.PIN_COUNT.pinned, .free, .gfx, .mem, .pot, .rings, .sent]

theorem execGfxBindPush_frame {LL rr e s} (h_s : Frame LL rr s) (hT : Cov execGfxBindPush_T LL) :
    FrameN LL rr (execGfxBindPush e s) := by
  delta execGfxBindPush
  exact FrameN.next (gfxPacket_frame h_s (fun t1 x3 x4 h2 => by
      extract_lets off_5 n_6
      exact Frame.ite (gfxBad_frame h2 (pick_sub 0x3ffffff rfl hT)) (gfxNext_frame h2 (pick_sub 0x200000 rfl hT))) (pick_sub 0x3ffffff rfl hT))

/-- What execGfxBindSet may change. -/
def execGfxBindSet_T : List Piece :=
  [.ctr .dram, .ctr .dramq, .ctr .gfx, .ctr .pot, .dram, .err .dram, .err .pot, .fld (HDR.ev_raw .dram), .fld (HDR.ev_raw .gfx),
   .fld (HDR.ev_raw .pot), .fld GFX.CTX_FAULT.cause, .fld GFX.CTX_FAULT.code, .fld GFX.CTX_FAULT_ADDR.addr, .fld GFX.CTX_STAT.state,
   .fld GFX.ENG_STAT.clusters0, .fld GFX.ENG_STAT.clusters1, .fld GFX.ENG_STAT.comp_active, .fld GFX.ENG_STAT.fe0, .fld GFX.ENG_STAT.fe1,
   .fld RSCHED.PIN_COUNT.pinned, .free, .gfx, .mem, .pot, .rings, .sent]

theorem execGfxBindSet_frame {LL rr e s} (h_s : Frame LL rr s) (hT : Cov execGfxBindSet_T LL) :
    FrameN LL rr (execGfxBindSet e s) := by
  delta execGfxBindSet
  exact FrameN.next (gfxPacket_frame h_s (fun t1 x3 x4 h2 => Frame.ite (gfxBad_frame h2 (pick_sub 0x3ffffff rfl hT)) (gfxNext_frame h2 (pick_sub 0x200000 rfl hT))) (pick_sub 0x3ffffff rfl hT))

/-- What execGfxBindVertex may change. -/
def execGfxBindVertex_T : List Piece :=
  [.ctr .dram, .ctr .dramq, .ctr .gfx, .ctr .pot, .dram, .err .dram, .err .pot, .fld (HDR.ev_raw .dram), .fld (HDR.ev_raw .gfx),
   .fld (HDR.ev_raw .pot), .fld GFX.CTX_FAULT.cause, .fld GFX.CTX_FAULT.code, .fld GFX.CTX_FAULT_ADDR.addr, .fld GFX.CTX_STAT.state,
   .fld GFX.ENG_STAT.clusters0, .fld GFX.ENG_STAT.clusters1, .fld GFX.ENG_STAT.comp_active, .fld GFX.ENG_STAT.fe0, .fld GFX.ENG_STAT.fe1,
   .fld RSCHED.PIN_COUNT.pinned, .free, .gfx, .mem, .pot, .rings, .sent]

theorem execGfxBindVertex_frame {LL rr e s} (h_s : Frame LL rr s) (hT : Cov execGfxBindVertex_T LL) :
    FrameN LL rr (execGfxBindVertex e s) := by
  delta execGfxBindVertex
  exact FrameN.next (gfxPacket_frame h_s (fun t1 x3 x4 h2 => by
      extract_lets n_5 f_6
      exact Frame.ite (gfxBad_frame h2 (pick_sub 0x3ffffff rfl hT)) (gfxNext_frame h2 (pick_sub 0x200000 rfl hT))) (pick_sub 0x3ffffff rfl hT))

/-- What execGfxCtxFault may change. -/
def execGfxCtxFault_T : List Piece :=
  [.ctr .dram, .ctr .dramq, .ctr .gfx, .ctr .pot, .dram, .err .dram, .err .pot, .fld (HDR.ev_raw .dram), .fld (HDR.ev_raw .gfx),
   .fld (HDR.ev_raw .pot), .fld GFX.CTX_FAULT.cause, .fld GFX.CTX_FAULT.code, .fld GFX.CTX_FAULT_ADDR.addr, .fld GFX.CTX_STAT.state,
   .fld GFX.ENG_STAT.clusters0, .fld GFX.ENG_STAT.clusters1, .fld GFX.ENG_STAT.comp_active, .fld GFX.ENG_STAT.fe0, .fld GFX.ENG_STAT.fe1,
   .fld RSCHED.PIN_COUNT.pinned, .free, .gfx, .mem, .pot, .rings, .sent]

theorem execGfxCtxFault_frame {LL rr e cause code addr s} (h_s : Frame LL rr s) (hT : Cov execGfxCtxFault_T LL) :
    FrameN LL rr (execGfxCtxFault e cause code addr s) := by
  delta execGfxCtxFault
  exact FrameN.next (by
      split
      · exact h_s
      · exact Frame.ite h_s (by
            extract_lets t_6
            have h_t_6 : Frame LL rr t_6 := by
                unfold t_6
                exact Frame.ite (memRecord_frame h_s (pick_sub 0x20002e9 rfl hT)) h_s
            clear_value t_6
            exact gfxFault_frame h_t_6 (pick_sub 0x3ffffff rfl hT)))

/-- What execGfxDispatchDirect may change. -/
def execGfxDispatchDirect_T : List Piece :=
  [.ctr .dram, .ctr .dramq, .ctr .gfx, .ctr .pot, .dram, .err .dram, .err .pot, .fld (HDR.ev_raw .dram), .fld (HDR.ev_raw .gfx),
   .fld (HDR.ev_raw .pot), .fld GFX.CTX_FAULT.cause, .fld GFX.CTX_FAULT.code, .fld GFX.CTX_FAULT_ADDR.addr, .fld GFX.CTX_STAT.state,
   .fld GFX.ENG_STAT.clusters0, .fld GFX.ENG_STAT.clusters1, .fld GFX.ENG_STAT.comp_active, .fld GFX.ENG_STAT.fe0, .fld GFX.ENG_STAT.fe1,
   .fld RSCHED.PIN_COUNT.pinned, .free, .gfx, .mem, .pot, .rings, .sent]

theorem execGfxDispatchDirect_frame {LL rr e fx s} (h_s : Frame LL rr s) (hT : Cov execGfxDispatchDirect_T LL) :
    FrameN LL rr (execGfxDispatchDirect e fx s) := by
  delta execGfxDispatchDirect
  exact FrameN.next (gfxPacket_frame h_s (fun t1 x3 x4 h2 => Frame.ite (gfxBad_frame h2 (pick_sub 0x3ffffff rfl hT)) (gfxDispatch_frame h2 (pick_sub 0x3ffffff rfl hT))) (pick_sub 0x3ffffff rfl hT))

/-- What execGfxDispatchIndirect may change. -/
def execGfxDispatchIndirect_T : List Piece :=
  [.ctr .dram, .ctr .dramq, .ctr .gfx, .ctr .pot, .dram, .err .dram, .err .pot, .fld (HDR.ev_raw .dram), .fld (HDR.ev_raw .gfx),
   .fld (HDR.ev_raw .pot), .fld GFX.CTX_FAULT.cause, .fld GFX.CTX_FAULT.code, .fld GFX.CTX_FAULT_ADDR.addr, .fld GFX.CTX_STAT.state,
   .fld GFX.ENG_STAT.clusters0, .fld GFX.ENG_STAT.clusters1, .fld GFX.ENG_STAT.comp_active, .fld GFX.ENG_STAT.fe0, .fld GFX.ENG_STAT.fe1,
   .fld RSCHED.PIN_COUNT.pinned, .free, .gfx, .mem, .pot, .rings, .sent]

theorem execGfxDispatchIndirect_frame {LL rr e fx s} (h_s : Frame LL rr s) (hT : Cov execGfxDispatchIndirect_T LL) :
    FrameN LL rr (execGfxDispatchIndirect e fx s) := by
  delta execGfxDispatchIndirect
  exact FrameN.next (gfxPacket_frame h_s (fun t1 x3 x4 h2 => by
      extract_lets a_5
      exact Frame.ite (gfxBad_frame h2 (pick_sub 0x3ffffff rfl hT)) (gfxLoad_frame h2 (fun t6 h7 => by
          extract_lets c_8
          exact Frame.ite (gfxBad_frame h7 (pick_sub 0x3ffffff rfl hT)) (gfxDispatch_frame h7 (pick_sub 0x3ffffff rfl hT))) (pick_sub 0x3ffffff rfl hT))) (pick_sub 0x3ffffff rfl hT))

/-- What execGfxDrawDirect may change. -/
def execGfxDrawDirect_T : List Piece :=
  [.ctr .dram, .ctr .dramq, .ctr .gfx, .ctr .pot, .dram, .err .dram, .err .pot, .fld (HDR.ev_raw .dram), .fld (HDR.ev_raw .gfx),
   .fld (HDR.ev_raw .pot), .fld GFX.CTX_FAULT.cause, .fld GFX.CTX_FAULT.code, .fld GFX.CTX_FAULT_ADDR.addr, .fld GFX.CTX_STAT.state,
   .fld GFX.ENG_STAT.clusters0, .fld GFX.ENG_STAT.clusters1, .fld GFX.ENG_STAT.comp_active, .fld GFX.ENG_STAT.fe0, .fld GFX.ENG_STAT.fe1,
   .fld RSCHED.PIN_COUNT.pinned, .free, .gfx, .mem, .pot, .rings, .sent]

theorem execGfxDrawDirect_frame {LL rr e fx s} (h_s : Frame LL rr s) (hT : Cov execGfxDrawDirect_T LL) :
    FrameN LL rr (execGfxDrawDirect e fx s) := by
  delta execGfxDrawDirect
  exact FrameN.next (gfxPacket_frame h_s (fun t1 x3 x4 h2 => gfxDraw_frame h2 (pick_sub 0x3ffffff rfl hT)) (pick_sub 0x3ffffff rfl hT))

/-- What execGfxDrawIndexed may change. -/
def execGfxDrawIndexed_T : List Piece :=
  [.ctr .dram, .ctr .dramq, .ctr .gfx, .ctr .pot, .dram, .err .dram, .err .pot, .fld (HDR.ev_raw .dram), .fld (HDR.ev_raw .gfx),
   .fld (HDR.ev_raw .pot), .fld GFX.CTX_FAULT.cause, .fld GFX.CTX_FAULT.code, .fld GFX.CTX_FAULT_ADDR.addr, .fld GFX.CTX_STAT.state,
   .fld GFX.ENG_STAT.clusters0, .fld GFX.ENG_STAT.clusters1, .fld GFX.ENG_STAT.comp_active, .fld GFX.ENG_STAT.fe0, .fld GFX.ENG_STAT.fe1,
   .fld RSCHED.PIN_COUNT.pinned, .free, .gfx, .mem, .pot, .rings, .sent]

theorem execGfxDrawIndexed_frame {LL rr e fx s} (h_s : Frame LL rr s) (hT : Cov execGfxDrawIndexed_T LL) :
    FrameN LL rr (execGfxDrawIndexed e fx s) := by
  delta execGfxDrawIndexed
  exact FrameN.next (gfxPacket_frame h_s (fun t1 x3 x4 h2 => gfxDraw_frame h2 (pick_sub 0x3ffffff rfl hT)) (pick_sub 0x3ffffff rfl hT))

/-- What execGfxDrawIndirect may change. -/
def execGfxDrawIndirect_T : List Piece :=
  [.ctr .dram, .ctr .dramq, .ctr .gfx, .ctr .pot, .dram, .err .dram, .err .pot, .fld (HDR.ev_raw .dram), .fld (HDR.ev_raw .gfx),
   .fld (HDR.ev_raw .pot), .fld GFX.CTX_FAULT.cause, .fld GFX.CTX_FAULT.code, .fld GFX.CTX_FAULT_ADDR.addr, .fld GFX.CTX_STAT.state,
   .fld GFX.ENG_STAT.clusters0, .fld GFX.ENG_STAT.clusters1, .fld GFX.ENG_STAT.comp_active, .fld GFX.ENG_STAT.fe0, .fld GFX.ENG_STAT.fe1,
   .fld RSCHED.PIN_COUNT.pinned, .free, .gfx, .mem, .pot, .rings, .sent]

theorem execGfxDrawIndirect_frame {LL rr e fx s} (h_s : Frame LL rr s) (hT : Cov execGfxDrawIndirect_T LL) :
    FrameN LL rr (execGfxDrawIndirect e fx s) := by
  delta execGfxDrawIndirect
  exact FrameN.next (gfxPacket_frame h_s (fun t1 x3 x4 h2 => by
      extract_lets a_5 n_6 st_7 size_8
      exact Frame.ite (gfxBad_frame h2 (pick_sub 0x3ffffff rfl hT)) (by
          split
          · exact gfxAccess_frame h2 (pick_sub 0x3ffffff rfl hT)
          · exact gfxDraw_frame (Frame.foldl h2 (fun t14 x15 h16 => gfxRead_frame h16 (pick_sub 0xc0000f rfl hT))) (pick_sub 0x3ffffff rfl hT))) (pick_sub 0x3ffffff rfl hT))

/-- What execGfxJobEnd may change. -/
def execGfxJobEnd_T : List Piece :=
  [.ctr .dram, .ctr .dramq, .ctr .gfx, .ctr .pot, .ctr .rsched, .dram, .err .dram, .err .pot, .fld (HDR.ev_raw .dram), .fld (HDR.ev_raw .gfx),
   .fld (HDR.ev_raw .pot), .fld GFX.CTX_FAULT.cause, .fld GFX.CTX_FAULT.code, .fld GFX.CTX_FAULT_ADDR.addr, .fld GFX.CTX_STAT.state,
   .fld GFX.ENG_STAT.clusters0, .fld GFX.ENG_STAT.clusters1, .fld GFX.ENG_STAT.comp_active, .fld GFX.ENG_STAT.fe0, .fld GFX.ENG_STAT.fe1,
   .fld RSCHED.PIN_COUNT.pinned, .free, .gfx, .mem, .pot, .rings, .sent]

theorem execGfxJobEnd_frame {LL rr e fx s} (h_s : Frame LL rr s) (hT : Cov execGfxJobEnd_T LL) :
    FrameN LL rr (execGfxJobEnd e fx s) := by
  delta execGfxJobEnd
  exact FrameN.next (by
      split
      · exact h_s
      · exact Frame.ite h_s (gfxPassEnd_frame h_s (fun t6 x8 h7 => gfxFlush_frame h7 (fun t9 x11 h10 => by
            extract_lets d_12
            exact Frame.ite (by
                split
                · rename_i a15
                  have h16 := FrameP.eq (L := LL) (r := rr) a15 (signal_frame h10 (pick_sub 0x78005fb rfl hT))
                  exact gfxEnd_frame h16 (pick_sub 0x25fc004 rfl hT)
                · rename_i a21
                  have h22 := FrameP.eq (L := LL) (r := rr) a21 (signal_frame h10 (pick_sub 0x78005fb rfl hT))
                  exact gfxEnd_frame h22 (pick_sub 0x25fc004 rfl hT)) (gfxEnd_frame h10 (pick_sub 0x25fc004 rfl hT))) (pick_sub 0x7ffffef rfl hT)) (pick_sub 0x7ffffef rfl hT)))

/-- What execGfxSignal may change. -/
def execGfxSignal_T : List Piece :=
  [.ctr .dram, .ctr .dramq, .ctr .gfx, .ctr .pot, .ctr .rsched, .dram, .err .dram, .err .pot, .fld (HDR.ev_raw .dram), .fld (HDR.ev_raw .gfx),
   .fld (HDR.ev_raw .pot), .fld GFX.CTX_FAULT.cause, .fld GFX.CTX_FAULT.code, .fld GFX.CTX_FAULT_ADDR.addr, .fld GFX.CTX_STAT.state,
   .fld GFX.ENG_STAT.clusters0, .fld GFX.ENG_STAT.clusters1, .fld GFX.ENG_STAT.comp_active, .fld GFX.ENG_STAT.fe0, .fld GFX.ENG_STAT.fe1,
   .fld RSCHED.PIN_COUNT.pinned, .free, .gfx, .mem, .pot, .rings, .sent]

theorem execGfxSignal_frame {LL rr e s} (h_s : Frame LL rr s) (hT : Cov execGfxSignal_T LL) :
    FrameN LL rr (execGfxSignal e s) := by
  delta execGfxSignal
  exact FrameN.next (gfxPacket_frame h_s (fun t1 x3 x4 h2 => by
      extract_lets f_5
      exact gfxFlush_frame h2 (fun t6 x8 h7 => by
          split
          · rename_i a11
            have h12 := FrameP.eq (L := LL) (r := rr) a11 (signal_frame h7 (pick_sub 0x78005fb rfl hT))
            exact gfxNext_frame h12 (pick_sub 0x400000 rfl hT)
          · rename_i a17
            have h18 := FrameP.eq (L := LL) (r := rr) a17 (signal_frame h7 (pick_sub 0x78005fb rfl hT))
            exact gfxEnd_frame h18 (pick_sub 0x25fc004 rfl hT)) (pick_sub 0x7ffffef rfl hT)) (pick_sub 0x7ffffef rfl hT))

/-- What execGfxStateBlendConst may change. -/
def execGfxStateBlendConst_T : List Piece :=
  [.ctr .dram, .ctr .dramq, .ctr .gfx, .ctr .pot, .dram, .err .dram, .err .pot, .fld (HDR.ev_raw .dram), .fld (HDR.ev_raw .gfx),
   .fld (HDR.ev_raw .pot), .fld GFX.CTX_FAULT.cause, .fld GFX.CTX_FAULT.code, .fld GFX.CTX_FAULT_ADDR.addr, .fld GFX.CTX_STAT.state,
   .fld GFX.ENG_STAT.clusters0, .fld GFX.ENG_STAT.clusters1, .fld GFX.ENG_STAT.comp_active, .fld GFX.ENG_STAT.fe0, .fld GFX.ENG_STAT.fe1,
   .fld RSCHED.PIN_COUNT.pinned, .free, .gfx, .mem, .pot, .rings, .sent]

theorem execGfxStateBlendConst_frame {LL rr e s} (h_s : Frame LL rr s) (hT : Cov execGfxStateBlendConst_T LL) :
    FrameN LL rr (execGfxStateBlendConst e s) := by
  delta execGfxStateBlendConst
  exact FrameN.next (gfxState_frame h_s (pick_sub 0x3ffffff rfl hT))

/-- What execGfxStateDepthBias may change. -/
def execGfxStateDepthBias_T : List Piece :=
  [.ctr .dram, .ctr .dramq, .ctr .gfx, .ctr .pot, .dram, .err .dram, .err .pot, .fld (HDR.ev_raw .dram), .fld (HDR.ev_raw .gfx),
   .fld (HDR.ev_raw .pot), .fld GFX.CTX_FAULT.cause, .fld GFX.CTX_FAULT.code, .fld GFX.CTX_FAULT_ADDR.addr, .fld GFX.CTX_STAT.state,
   .fld GFX.ENG_STAT.clusters0, .fld GFX.ENG_STAT.clusters1, .fld GFX.ENG_STAT.comp_active, .fld GFX.ENG_STAT.fe0, .fld GFX.ENG_STAT.fe1,
   .fld RSCHED.PIN_COUNT.pinned, .free, .gfx, .mem, .pot, .rings, .sent]

theorem execGfxStateDepthBias_frame {LL rr e s} (h_s : Frame LL rr s) (hT : Cov execGfxStateDepthBias_T LL) :
    FrameN LL rr (execGfxStateDepthBias e s) := by
  delta execGfxStateDepthBias
  exact FrameN.next (gfxState_frame h_s (pick_sub 0x3ffffff rfl hT))

/-- What execGfxStateScissor may change. -/
def execGfxStateScissor_T : List Piece :=
  [.ctr .dram, .ctr .dramq, .ctr .gfx, .ctr .pot, .dram, .err .dram, .err .pot, .fld (HDR.ev_raw .dram), .fld (HDR.ev_raw .gfx),
   .fld (HDR.ev_raw .pot), .fld GFX.CTX_FAULT.cause, .fld GFX.CTX_FAULT.code, .fld GFX.CTX_FAULT_ADDR.addr, .fld GFX.CTX_STAT.state,
   .fld GFX.ENG_STAT.clusters0, .fld GFX.ENG_STAT.clusters1, .fld GFX.ENG_STAT.comp_active, .fld GFX.ENG_STAT.fe0, .fld GFX.ENG_STAT.fe1,
   .fld RSCHED.PIN_COUNT.pinned, .free, .gfx, .mem, .pot, .rings, .sent]

theorem execGfxStateScissor_frame {LL rr e s} (h_s : Frame LL rr s) (hT : Cov execGfxStateScissor_T LL) :
    FrameN LL rr (execGfxStateScissor e s) := by
  delta execGfxStateScissor
  exact FrameN.next (gfxState_frame h_s (pick_sub 0x3ffffff rfl hT))

/-- What execGfxStateStencilRef may change. -/
def execGfxStateStencilRef_T : List Piece :=
  [.ctr .dram, .ctr .dramq, .ctr .gfx, .ctr .pot, .dram, .err .dram, .err .pot, .fld (HDR.ev_raw .dram), .fld (HDR.ev_raw .gfx),
   .fld (HDR.ev_raw .pot), .fld GFX.CTX_FAULT.cause, .fld GFX.CTX_FAULT.code, .fld GFX.CTX_FAULT_ADDR.addr, .fld GFX.CTX_STAT.state,
   .fld GFX.ENG_STAT.clusters0, .fld GFX.ENG_STAT.clusters1, .fld GFX.ENG_STAT.comp_active, .fld GFX.ENG_STAT.fe0, .fld GFX.ENG_STAT.fe1,
   .fld RSCHED.PIN_COUNT.pinned, .free, .gfx, .mem, .pot, .rings, .sent]

theorem execGfxStateStencilRef_frame {LL rr e s} (h_s : Frame LL rr s) (hT : Cov execGfxStateStencilRef_T LL) :
    FrameN LL rr (execGfxStateStencilRef e s) := by
  delta execGfxStateStencilRef
  exact FrameN.next (gfxState_frame h_s (pick_sub 0x3ffffff rfl hT))

/-- What execGfxStateTargets may change. -/
def execGfxStateTargets_T : List Piece :=
  [.ctr .dram, .ctr .dramq, .ctr .gfx, .ctr .pot, .dram, .err .dram, .err .pot, .fld (HDR.ev_raw .dram), .fld (HDR.ev_raw .gfx),
   .fld (HDR.ev_raw .pot), .fld GFX.CTX_FAULT.cause, .fld GFX.CTX_FAULT.code, .fld GFX.CTX_FAULT_ADDR.addr, .fld GFX.CTX_STAT.state,
   .fld GFX.ENG_STAT.clusters0, .fld GFX.ENG_STAT.clusters1, .fld GFX.ENG_STAT.comp_active, .fld GFX.ENG_STAT.fe0, .fld GFX.ENG_STAT.fe1,
   .fld RSCHED.PIN_COUNT.pinned, .free, .gfx, .mem, .pot, .rings, .sent]

theorem execGfxStateTargets_frame {LL rr e fx s} (h_s : Frame LL rr s) (hT : Cov execGfxStateTargets_T LL) :
    FrameN LL rr (execGfxStateTargets e fx s) := by
  delta execGfxStateTargets
  exact FrameN.next (gfxPacket_frame h_s (fun t1 x3 x4 h2 => by
      extract_lets n_5 ds_6 smp_7 tab_8 cnt_9
      exact gfxPassEnd_frame h2 (fun t10 x12 h11 => Frame.ite (gfxBad_frame h11 (pick_sub 0x3ffffff rfl hT)) (gfxLoad_frame h11 (fun t13 h14 => by
          extract_lets w0_15 h0_16
          exact Frame.ite (gfxNext_frame h14 (pick_sub 0x200000 rfl hT)) (gfxBad_frame h14 (pick_sub 0x3ffffff rfl hT))) (pick_sub 0x3ffffff rfl hT))) (pick_sub 0x3ffffff rfl hT)) (pick_sub 0x3ffffff rfl hT))

/-- What execGfxStateViewport may change. -/
def execGfxStateViewport_T : List Piece :=
  [.ctr .dram, .ctr .dramq, .ctr .gfx, .ctr .pot, .dram, .err .dram, .err .pot, .fld (HDR.ev_raw .dram), .fld (HDR.ev_raw .gfx),
   .fld (HDR.ev_raw .pot), .fld GFX.CTX_FAULT.cause, .fld GFX.CTX_FAULT.code, .fld GFX.CTX_FAULT_ADDR.addr, .fld GFX.CTX_STAT.state,
   .fld GFX.ENG_STAT.clusters0, .fld GFX.ENG_STAT.clusters1, .fld GFX.ENG_STAT.comp_active, .fld GFX.ENG_STAT.fe0, .fld GFX.ENG_STAT.fe1,
   .fld RSCHED.PIN_COUNT.pinned, .free, .gfx, .mem, .pot, .rings, .sent]

theorem execGfxStateViewport_frame {LL rr e s} (h_s : Frame LL rr s) (hT : Cov execGfxStateViewport_T LL) :
    FrameN LL rr (execGfxStateViewport e s) := by
  delta execGfxStateViewport
  exact FrameN.next (gfxState_frame h_s (pick_sub 0x3ffffff rfl hT))

/-- What execGfxSubmission may change. -/
def execGfxSubmission_T : List Piece :=
  [.ctr .gfx, .fld GFX.CTX_STAT.fe, .fld GFX.CTX_STAT.state, .fld GFX.ENG_STAT.clusters0, .fld GFX.ENG_STAT.clusters1,
   .fld GFX.ENG_STAT.comp_active, .fld GFX.ENG_STAT.fe0, .fld GFX.ENG_STAT.fe1, .fld RSCHED.PIN_COUNT.pinned, .gfx, .rings]

theorem execGfxSubmission_frame {LL rr e s} (h_s : Frame LL rr s) (hT : Cov execGfxSubmission_T LL) :
    FrameN LL rr (execGfxSubmission e s) := by
  delta execGfxSubmission
  exact FrameN.next (gfxBegin_frame h_s (pick_sub 0x7ff rfl hT))

/-- What execGfxTimestampBottom may change. -/
def execGfxTimestampBottom_T : List Piece :=
  [.ctr .dram, .ctr .dramq, .ctr .gfx, .ctr .pot, .dram, .err .dram, .err .pot, .fld (HDR.ev_raw .dram), .fld (HDR.ev_raw .gfx),
   .fld (HDR.ev_raw .pot), .fld GFX.CTX_FAULT.cause, .fld GFX.CTX_FAULT.code, .fld GFX.CTX_FAULT_ADDR.addr, .fld GFX.CTX_STAT.state,
   .fld GFX.ENG_STAT.clusters0, .fld GFX.ENG_STAT.clusters1, .fld GFX.ENG_STAT.comp_active, .fld GFX.ENG_STAT.fe0, .fld GFX.ENG_STAT.fe1,
   .fld RSCHED.PIN_COUNT.pinned, .free, .gfx, .mem, .pot, .rings, .sent]

theorem execGfxTimestampBottom_frame {LL rr e s} (h_s : Frame LL rr s) (hT : Cov execGfxTimestampBottom_T LL) :
    FrameN LL rr (execGfxTimestampBottom e s) := by
  delta execGfxTimestampBottom
  exact FrameN.next (gfxStamp_frame h_s (pick_sub 0x3ffffff rfl hT))

/-- What execGfxTimestampTop may change. -/
def execGfxTimestampTop_T : List Piece :=
  [.ctr .dram, .ctr .dramq, .ctr .gfx, .ctr .pot, .dram, .err .dram, .err .pot, .fld (HDR.ev_raw .dram), .fld (HDR.ev_raw .gfx),
   .fld (HDR.ev_raw .pot), .fld GFX.CTX_FAULT.cause, .fld GFX.CTX_FAULT.code, .fld GFX.CTX_FAULT_ADDR.addr, .fld GFX.CTX_STAT.state,
   .fld GFX.ENG_STAT.clusters0, .fld GFX.ENG_STAT.clusters1, .fld GFX.ENG_STAT.comp_active, .fld GFX.ENG_STAT.fe0, .fld GFX.ENG_STAT.fe1,
   .fld RSCHED.PIN_COUNT.pinned, .free, .gfx, .mem, .pot, .rings, .sent]

theorem execGfxTimestampTop_frame {LL rr e s} (h_s : Frame LL rr s) (hT : Cov execGfxTimestampTop_T LL) :
    FrameN LL rr (execGfxTimestampTop e s) := by
  delta execGfxTimestampTop
  exact FrameN.next (gfxStamp_frame h_s (pick_sub 0x3ffffff rfl hT))

/-- What execGfxWait may change. -/
def execGfxWait_T : List Piece :=
  [.ctr .dram, .ctr .dramq, .ctr .gfx, .ctr .pot, .ctr .rsched, .dram, .err .dram, .err .pot, .fld (HDR.ev_raw .dram), .fld (HDR.ev_raw .gfx),
   .fld (HDR.ev_raw .pot), .fld GFX.CTX_FAULT.cause, .fld GFX.CTX_FAULT.code, .fld GFX.CTX_FAULT_ADDR.addr, .fld GFX.CTX_STAT.state,
   .fld GFX.ENG_STAT.clusters0, .fld GFX.ENG_STAT.clusters1, .fld GFX.ENG_STAT.comp_active, .fld GFX.ENG_STAT.fe0, .fld GFX.ENG_STAT.fe1,
   .fld RSCHED.PIN_COUNT.pinned, .free, .gfx, .mem, .pot, .rings, .sent]

theorem execGfxWait_frame {LL rr e s} (h_s : Frame LL rr s) (hT : Cov execGfxWait_T LL) :
    FrameN LL rr (execGfxWait e s) := by
  delta execGfxWait
  exact FrameN.next (gfxPacket_frame h_s (fun t1 x3 x4 h2 => Frame.ite (gfxBad_frame h2 (pick_sub 0x7ffffef rfl hT)) (by
      extract_lets u_5
      have h_u_5 : Frame LL rr u_5 := by
          unfold u_5
          exact Frame.ite h2 (addWait_frame h2 (pick_sub 0x78005db rfl hT))
      clear_value u_5
      split
      · exact h_u_5
      · exact Frame.ite (gfxNext_frame (dropWait_frame h_u_5 (pick_sub 0x2000000 rfl hT)) (pick_sub 0x400000 rfl hT)) (Frame.ite (gfxEnd_frame h_u_5 (pick_sub 0x25fc004 rfl hT)) (Frame.ite h_u_5 (gfxHold_frame h_u_5 (pick_sub 0x4fc004 rfl hT)))))) (pick_sub 0x7ffffef rfl hT))

/-- What execJobLimitExpiry may change. -/
def execJobLimitExpiry_T : List Piece :=
  [.ctr .dram, .ctr .dramq, .ctr .gfx, .ctr .pot, .dram, .err .dram, .err .pot, .fld (HDR.ev_raw .dram), .fld (HDR.ev_raw .gfx),
   .fld (HDR.ev_raw .pot), .fld GFX.CTX_FAULT.cause, .fld GFX.CTX_FAULT.code, .fld GFX.CTX_FAULT_ADDR.addr, .fld GFX.CTX_STAT.state,
   .fld GFX.ENG_STAT.clusters0, .fld GFX.ENG_STAT.clusters1, .fld GFX.ENG_STAT.comp_active, .fld GFX.ENG_STAT.fe0, .fld GFX.ENG_STAT.fe1,
   .fld RSCHED.PIN_COUNT.pinned, .free, .gfx, .mem, .pot, .rings, .sent]

theorem execJobLimitExpiry_frame {LL rr e s} (h_s : Frame LL rr s) (hT : Cov execJobLimitExpiry_T LL) :
    FrameN LL rr (execJobLimitExpiry e s) := by
  delta execJobLimitExpiry
  exact FrameN.next (by
      split
      · exact h_s
      · exact Frame.ite h_s (gfxFault_frame h_s (pick_sub 0x3ffffff rfl hT)))

/-- What execPreemptKillExpiry may change. -/
def execPreemptKillExpiry_T : List Piece :=
  [.ctr .dram, .ctr .dramq, .ctr .gfx, .ctr .pot, .dram, .err .dram, .err .pot, .fld (HDR.ev_raw .dram), .fld (HDR.ev_raw .gfx),
   .fld (HDR.ev_raw .pot), .fld GFX.CTX_FAULT.cause, .fld GFX.CTX_FAULT.code, .fld GFX.CTX_FAULT_ADDR.addr, .fld GFX.CTX_STAT.state,
   .fld GFX.ENG_STAT.clusters0, .fld GFX.ENG_STAT.clusters1, .fld GFX.ENG_STAT.comp_active, .fld GFX.ENG_STAT.fe0, .fld GFX.ENG_STAT.fe1,
   .fld RSCHED.PIN_COUNT.pinned, .free, .gfx, .mem, .pot, .rings, .sent]

theorem execPreemptKillExpiry_frame {LL rr e us s} (h_s : Frame LL rr s) (hT : Cov execPreemptKillExpiry_T LL) :
    FrameN LL rr (execPreemptKillExpiry e us s) := by
  delta execPreemptKillExpiry
  exact FrameN.next (Frame.ite h_s (gfxKill_frame h_s (pick_sub 0x3ffffff rfl hT)))

end Sys2Proof.Laws
end

