-- ==== Sys2Proof/Laws/FrameJobs.lean ====
section
/-! SUPPORT. What the operations and commands of Machine/Jobs.lean may change: the parts of each, and that nothing else changes. -/

set_option Elab.async false

namespace Sys2Proof.Laws

open Machine

/-- What State.dmaBegin may change. -/
def dmaBegin_T : List Piece :=
  [.ctr .dma, .ctr .dram, .ctr .dramq, .ctr .pot, .ctr .rsched, .err .dram, .err .pot, .fld (HDR.ev_raw .dram), .fld (HDR.ev_raw .pot),
   .fld DMA.CRC_STATE.crc, .fld DMA.RING.ring, .fld DMA.STAT.state, .fld RSCHED.PIN_COUNT.pinned, .mem, .pot, .rings, .sent]

theorem dmaBegin_frame {LL rr s n} (h_s : Frame LL rr s) (hT : Cov dmaBegin_T LL) :
    Frame LL rr (State.dmaBegin s n) := by
  delta State.dmaBegin
  split
  · exact h_s
  · extract_lets k_6 s1_7
    have h_s1_7 : Frame LL rr s1_7 := by
        unfold s1_7
        exact count_frame (wr_frame (wr_frame (wr_frame (setJob_frame h_s (pick_sub 0x8000 rfl hT)) (pick_sub 0x800 rfl hT)) (pick_sub 0x400 rfl hT)) (pick_sub 0x200 rfl hT)) (pick_sub 0x1 rfl hT)
    clear_value s1_7
    exact Frame.ite (dmaEnd_frame h_s1_7 (pick_sub 0x1f9fe rfl hT)) h_s1_7

/-- What State.dmaBoundary may change. -/
def dmaBoundary_T : List Piece :=
  [.ctr .dma, .ctr .dram, .ctr .dramq, .ctr .pot, .ctr .rsched, .err .dram, .err .pot, .fld (HDR.ev_raw .dram), .fld (HDR.ev_raw .pot),
   .fld DMA.CRC_STATE.crc, .fld DMA.RING.ring, .fld DMA.STAT.state, .fld RSCHED.PIN_COUNT.pinned, .mem, .pot, .rings, .sent]

theorem dmaBoundary_frame {LL rr s n} (h_s : Frame LL rr s) (hT : Cov dmaBoundary_T LL) :
    Frame LL rr (State.dmaBoundary s n) := by
  delta State.dmaBoundary
  exact Frame.ite h_s (by
      split
      · exact dmaBegin_frame (startJob_frame h_s (pick_sub 0x1e1fe rfl hT)) (pick_sub 0x1ffff rfl hT)
      · exact h_s)

/-- What State.ringTimeout may change. -/
def ringTimeout_T : List Piece :=
  [.ctr .dram, .ctr .dramq, .ctr .pot, .ctr .rsched, .err .dram, .err .pot, .fld (HDR.ev_raw .dram), .fld (HDR.ev_raw .pot), .mem, .pot, .rings,
   .sent]

theorem ringTimeout_frame {LL rr s r} (h_s : Frame LL rr s) (hT : Cov ringTimeout_T LL) :
    Frame LL rr (State.ringTimeout s r) := by
  delta State.ringTimeout
  extract_lets c_1
  split
  · exact h_s
  · split
    · exact h_s
    · exact Frame.ite (settle_frame (count_frame (endUnstarted_frame h_s (pick_sub 0x400 rfl hT)) (pick_sub 0x8 rfl hT)) (pick_sub 0xfff rfl hT)) h_s

/-- What State.setWait may change. -/
def setWait_T : List Piece :=
  [.rings]

theorem setWait_frame {LL rr s x} (h_s : Frame LL rr s) (hT : Cov setWait_T LL) :
    Frame LL rr (State.setWait s x) := by
  delta State.setWait
  exact Frame.upd h_s (m_rings := .inl (nth 0 rfl hT))

/-- What execFenceTimeout may change. -/
def execFenceTimeout_T : List Piece :=
  [.comp, .ctr .comp, .ctr .dram, .ctr .dramq, .ctr .pot, .ctr .rsched, .err .dram, .err .pot, .evSeq, .events, .fld (HDR.ev_raw .dram),
   .fld (HDR.ev_raw .pot), .fld COMP.COEF_USE.banks, .fld COMP.ENG_STAT.busy0, .fld COMP.ENG_STAT.busy1, .fld COMP.ENG_STAT.late0,
   .fld COMP.ENG_STAT.late1, .fld COMP.ENG_STAT.pending0, .fld COMP.ENG_STAT.pending1, .fld COMP.LAYER_ADDR.addr, .fld COMP.LAYER_STAT.bank,
   .fld COMP.LAYER_STAT.enabled, .fld COMP.LAYER_STAT.format, .fld COMP.LAYER_STAT.substituted, .fld RSCHED.PIN_COUNT.pinned, .mem, .pot, .rings,
   .sent]

theorem execFenceTimeout_frame {LL rr f s} (h_s : Frame LL rr s) (hT : Cov execFenceTimeout_T LL) :
    FrameN LL rr (execFenceTimeout f s) := by
  delta execFenceTimeout
  exact FrameN.next (by
      split
      · exact ringTimeout_frame h_s (pick_sub 0x1e000cfc rfl hT)
      · split
        · exact Frame.ite h_s (discardAll_frame (count_frame (setWait_frame h_s (pick_sub 0x8000000 rfl hT)) (pick_sub 0x20 rfl hT)) (pick_sub 0x9fff303 rfl hT))
        · exact h_s)

/-- What execFenceWaitMet may change. -/
def execFenceWaitMet_T : List Piece :=
  [.comp, .ctr .comp, .ctr .dram, .ctr .dramq, .ctr .pot, .ctr .rsched, .err .dram, .err .pot, .evSeq, .events, .fld (HDR.ev_raw .dram),
   .fld (HDR.ev_raw .pot), .fld COMP.COEF_USE.banks, .fld COMP.ENG_STAT.busy0, .fld COMP.ENG_STAT.busy1, .fld COMP.ENG_STAT.late0,
   .fld COMP.ENG_STAT.late1, .fld COMP.ENG_STAT.pending0, .fld COMP.ENG_STAT.pending1, .fld COMP.LAYER_ADDR.addr, .fld COMP.LAYER_STAT.bank,
   .fld COMP.LAYER_STAT.enabled, .fld COMP.LAYER_STAT.format, .fld COMP.LAYER_STAT.substituted, .fld RSCHED.PIN_COUNT.pinned, .mem, .pot, .rings,
   .sent]

theorem execFenceWaitMet_frame {LL rr f s} (h_s : Frame LL rr s) (hT : Cov execFenceWaitMet_T LL) :
    FrameN LL rr (execFenceWaitMet f s) := by
  delta execFenceWaitMet
  exact FrameN.next (by
      split
      · exact Frame.ite (settle_frame h_s (pick_sub 0x1e000cfc rfl hT)) h_s
      · split
        · exact h_s
        · extract_lets t_10
          have h_t_10 : FrameP LL rr t_10 := by
              unfold t_10
              exact testWait_frame h_s (pick_sub 0x16000cdc rfl hT)
          clear_value t_10
          exact discardAll_frame (setWait_frame (FrameP.fst h_t_10) (pick_sub 0x8000000 rfl hT)) (pick_sub 0x9fff303 rfl hT))

/-- What execJobStart may change. -/
def execJobStart_T : List Piece :=
  [.ctr .comp, .ctr .dma, .ctr .dram, .ctr .dramq, .ctr .gfx, .ctr .pot, .ctr .rsched, .err .dram, .err .pot, .fld (HDR.ev_raw .dram),
   .fld (HDR.ev_raw .pot), .fld DMA.CRC_STATE.crc, .fld DMA.RING.ring, .fld DMA.STAT.state, .fld GFX.CTX_STAT.state, .fld GFX.ENG_STAT.clusters0,
   .fld GFX.ENG_STAT.clusters1, .fld GFX.ENG_STAT.comp_active, .fld GFX.ENG_STAT.fe0, .fld GFX.ENG_STAT.fe1, .fld RSCHED.PIN_COUNT.pinned, .gfx,
   .mem, .pot, .rings, .sent]

theorem execJobStart_frame {LL rr cls n s} (h_s : Frame LL rr s) (hT : Cov execJobStart_T LL) :
    FrameN LL rr (execJobStart cls n s) := by
  delta execJobStart
  exact FrameN.next (by
      split
      · exact Frame.ite (gfxBoundary_frame h_s (pick_sub 0x3ffc7fc rfl hT)) h_s
      · exact Frame.ite (compBoundary_frame h_s (pick_sub 0x3c007ed rfl hT)) h_s
      · exact Frame.ite (dmaBoundary_frame h_s (pick_sub 0x3d03fee rfl hT)) h_s
      · exact h_s)

end Sys2Proof.Laws
end

