-- ==== Sys2Proof/Laws/FramePot.lean ====
section
/-! SUPPORT. What the operations and commands of Machine/Pot.lean may change: the parts of each, and that nothing else changes. -/

set_option Elab.async false

namespace Sys2Proof.Laws

open Machine

/-- What State.startEpoch may change. -/
def startEpoch_T : List Piece :=
  [.ctr .pot, .dram, .fld POT.CMD_OP.busy, .fld POT.CMD_STAT.epoch, .fld POT.CMD_STAT.scrub_left, .pot]

theorem startEpoch_frame {LL rr s op owner set} (h_s : Frame LL rr s) (hT : Cov startEpoch_T LL) :
    Frame LL rr (State.startEpoch s op owner set) := by
  delta State.startEpoch
  extract_lets old_1 s1_2 scrub_3 u_4 s2_5
  have h_s1_2 : Frame LL rr s1_2 := by
      unfold s1_2
      exact Frame.foldl h_s (fun t6 x7 h8 => setPotEntry_frame h8 (pick_sub 0x2 rfl hT))
  have h_s2_5 : Frame LL rr s2_5 := by
      unfold s2_5
      exact Frame.upd h_s1_2 (m_pot := .inl (nth 5 rfl hT))
  clear_value s1_2 s2_5
  exact count_frame (wr_frame (wr_frame (wr_frame h_s2_5 (pick_sub 0x4 rfl hT)) (pick_sub 0x10 rfl hT)) (pick_sub 0x8 rfl hT)) (pick_sub 0x1 rfl hT)

/-- What State.potCommand may change. -/
def potCommand_T : List Piece :=
  [.ctr .pot, .dram, .err .pot, .fld (HDR.ev_raw .pot), .fld POT.CMD_OP.busy, .fld POT.CMD_STAT.epoch, .fld POT.CMD_STAT.scrub_left, .pot, .resp,
   .sent, .world]

theorem potCommand_frame {LL rr s w op keep} (h_s : Frame LL rr s) (hT : Cov potCommand_T LL) :
    Frame LL rr (State.potCommand s w op keep) := by
  delta State.potCommand
  exact onWrite_frame h_s (fun t1 h2 => by
      split
      · exact refuse_frame h2 (pick_sub 0x30c rfl hT)
      · exact recErr_frame h2 (pick_sub 0x20c rfl hT)
      · extract_lets t1_11 g_12 u_13
        have h_t1_11 : Frame LL rr t1_11 := by
            unfold t1_11
            exact count_frame h2 (pick_sub 0x1 rfl hT)
        clear_value t1_11
        exact Frame.ite (startEpoch_frame (Frame.upd h_t1_11 (m_pot := .inl (nth 7 rfl hT))) (pick_sub 0xf3 rfl hT)) (startEpoch_frame h_t1_11 (pick_sub 0xf3 rfl hT))) (idx_sub [0, 2, 2, 3, 3, 8, 9, 10] rfl hT)

/-- What State.endEpoch may change. -/
def endEpoch_T : List Piece :=
  [.ctr .pot, .dram, .fld POT.CMD_OP.busy, .fld POT.CMD_STAT.scrub_left, .mem, .pot]

theorem endEpoch_frame {LL rr s} (h_s : Frame LL rr s) (hT : Cov endEpoch_T LL) :
    Frame LL rr (State.endEpoch s) := by
  delta State.endEpoch
  extract_lets s1_1 s2_2 u_3
  have h_s1_1 : Frame LL rr s1_1 := by
      unfold s1_1
      exact Frame.foldl h_s (fun t4 x5 h6 => setPotEntry_frame (zeroPage_frame h6 (pick_sub 0x12 rfl hT)) (pick_sub 0x2 rfl hT))
  have h_s2_2 : Frame LL rr s2_2 := by
      unfold s2_2
      exact count_frame h_s1_1 (pick_sub 0x1 rfl hT)
  clear_value s1_1 s2_2
  exact wr_frame (wr_frame (Frame.upd h_s2_2 (m_pot := .inl (nth 5 rfl hT))) (pick_sub 0x8 rfl hT)) (pick_sub 0x4 rfl hT)

/-- What State.portsDrop may change. -/
def portsDrop_T : List Piece :=
  [.pot]

theorem portsDrop_frame {LL rr s} (h_s : Frame LL rr s) (hT : Cov portsDrop_T LL) :
    Frame LL rr (State.portsDrop s) := by
  delta State.portsDrop
  extract_lets t_1 u_2
  have h_t_1 : Frame LL rr t_1 := by
      unfold t_1
      exact Frame.foldl h_s (fun t3 x4 h5 => Frame.ite h5 (portDrop_frame h5 (pick_sub 0x1 rfl hT)))
  clear_value t_1
  exact Frame.upd h_t_1 (m_pot := .inl (nth 0 rfl hT))

/-- What State.startSweep may change. -/
def startSweep_T : List Piece :=
  [.ctr .pot, .dram, .fld POT.CMD_OP.busy, .fld POT.CMD_STAT.epoch, .fld POT.CMD_STAT.scrub_left, .pot]

theorem startSweep_frame {LL rr s owner own} (h_s : Frame LL rr s) (hT : Cov startSweep_T LL) :
    Frame LL rr (State.startSweep s owner own) := by
  delta State.startSweep
  exact startEpoch_frame h_s (pick_sub 0x3f rfl hT)

/-- What execPotCmdDone may change. -/
def execPotCmdDone_T : List Piece :=
  [.ctr .pot, .dram, .fld (HDR.ev_raw .pot), .fld POT.CMD_OP.busy, .fld POT.CMD_STAT.scrub_left, .mem, .pot, .sent]

theorem execPotCmdDone_frame {LL rr s} (h_s : Frame LL rr s) (hT : Cov execPotCmdDone_T LL) :
    FrameN LL rr (execPotCmdDone s) := by
  delta execPotCmdDone
  exact FrameN.next (Frame.ite (raise_frame (endEpoch_frame h_s (pick_sub 0x7b rfl hT)) (pick_sub 0x84 rfl hT)) h_s)

/-- What execPotEpochDrained may change. -/
def execPotEpochDrained_T : List Piece :=
  [.pot]

theorem execPotEpochDrained_frame {LL rr s} (h_s : Frame LL rr s) (hT : Cov execPotEpochDrained_T LL) :
    FrameN LL rr (execPotEpochDrained s) := by
  delta execPotEpochDrained
  exact FrameN.next (Frame.ite (by
      extract_lets t_1 u_2
      have h_t_1 : Frame LL rr t_1 := by
          unfold t_1
          exact portsDrop_frame h_s (pick_sub 0x1 rfl hT)
      clear_value t_1
      exact Frame.upd h_t_1 (m_pot := .inl (nth 0 rfl hT))) h_s)

/-- What execPotSet may change. -/
def execPotSet_T : List Piece :=
  [.ctr .pot, .dram, .err .pot, .fld (HDR.ev_raw .pot), .fld POT.CMD_OP.busy, .fld POT.CMD_STAT.epoch, .fld POT.CMD_STAT.scrub_left, .pot, .resp,
   .sent, .world]

theorem execPotSet_frame {LL rr w keep s} (h_s : Frame LL rr s) (hT : Cov execPotSet_T LL) :
    FrameN LL rr (execPotSet w keep s) := by
  delta execPotSet
  exact FrameN.next (potCommand_frame h_s (pick_sub 0x7ff rfl hT))

/-- What execPotSetAttr may change. -/
def execPotSetAttr_T : List Piece :=
  [.ctr .pot, .dram, .err .pot, .fld (HDR.ev_raw .pot), .fld POT.CMD_OP.busy, .fld POT.CMD_STAT.epoch, .fld POT.CMD_STAT.scrub_left, .pot, .resp,
   .sent, .world]

theorem execPotSetAttr_frame {LL rr w keep s} (h_s : Frame LL rr s) (hT : Cov execPotSetAttr_T LL) :
    FrameN LL rr (execPotSetAttr w keep s) := by
  delta execPotSetAttr
  exact FrameN.next (potCommand_frame h_s (pick_sub 0x7ff rfl hT))

/-- What execPotShare may change. -/
def execPotShare_T : List Piece :=
  [.ctr .pot, .dram, .err .pot, .fld (HDR.ev_raw .pot), .fld POT.CMD_OP.busy, .fld POT.CMD_STAT.epoch, .fld POT.CMD_STAT.scrub_left, .pot, .resp,
   .sent, .world]

theorem execPotShare_frame {LL rr w keep s} (h_s : Frame LL rr s) (hT : Cov execPotShare_T LL) :
    FrameN LL rr (execPotShare w keep s) := by
  delta execPotShare
  exact FrameN.next (potCommand_frame h_s (pick_sub 0x7ff rfl hT))

end Sys2Proof.Laws
end

