-- ==== Sys2Proof/Laws/FrameSafetyLink.lean ====
section
/-! SUPPORT. What the operations and commands of Machine/SafetyLink.lean may change: the parts of each, and that nothing else changes. -/

set_option Elab.async false

namespace Sys2Proof.Laws

open Machine

/-- What State.slAccept may change. -/
def slAccept_T : List Piece :=
  [.ctr .safe, .fld SAFE.ISL_STAT.link, .fld SAFE.SL_STAT.rx_seq, .safe]

theorem slAccept_frame {LL rr s seq} (h_s : Frame LL rr s) (hT : Cov slAccept_T LL) :
    Frame LL rr (State.slAccept s seq) := by
  delta State.slAccept
  extract_lets run_1 link_2 u_3 s1_4 s2_5
  have h_s1_4 : Frame LL rr s1_4 := by
      unfold s1_4
      exact Frame.upd h_s (m_safe := .inl (nth 3 rfl hT))
  have h_s2_5 : Frame LL rr s2_5 := by
      unfold s2_5
      exact count_frame (wr_frame h_s1_4 (pick_sub 0x4 rfl hT)) (pick_sub 0x1 rfl hT)
  clear_value s1_4 s2_5
  exact Frame.ite (wr_frame h_s2_5 (pick_sub 0x2 rfl hT)) h_s2_5

/-- What State.slAnswer may change. -/
def slAnswer_T : List Piece :=
  [.safe]

theorem slAnswer_frame {LL rr s type payload} (h_s : Frame LL rr s) (hT : Cov slAnswer_T LL) :
    Frame LL rr (State.slAnswer s type payload) := by
  delta State.slAnswer
  exact Frame.upd h_s (m_safe := .inl (nth 0 rfl hT))

/-- What State.slLogs may change. -/
def slLogs_T : List Piece :=
  [.safe]

theorem slLogs_frame {LL rr s first} (h_s : Frame LL rr s) (hT : Cov slLogs_T LL) :
    Frame LL rr (State.slLogs s first) := by
  delta State.slLogs
  extract_lets l_1
  exact Frame.foldl h_s (fun t2 x3 h4 => slAnswer_frame h4 (pick_sub 0x1 rfl hT))

/-- What State.slAct may change. -/
def slAct_T : List Piece :=
  [.ctr .hapt, .ctr .pwr, .ctr .safe, .err .dram, .fld (HDR.ev_raw .dram), .fld (HDR.ev_raw .pwr), .fld (HDR.ev_raw .surf),
   .fld (HDR.ev_raw .touch), .fld DRAM.SPARE_STAT.cause, .fld DRAM.SPARE_STAT.deferred, .fld DRAM.SPARE_STAT.done_64k, .fld DRAM.SPARE_STAT.rank,
   .fld DRAM.SPARE_STAT.state, .fld HAPT.BOOST_STAT.on, .fld LINK.LINK_STAT.lanes_active, .fld LINK.LINK_STAT.rate_active,
   .fld LINK.LINK_STAT.state, .fld PWR.EXIT_STAT.failed_step, .fld PWR.EXIT_STAT.from_state, .fld PWR.EXIT_STAT.osc_attempts,
   .fld PWR.RAIL_STAT.cmd_seq, .fld PWR.RAIL_STAT.slewing, .fld PWR.RAIL_STAT.target_mv, .fld PWR.STATE.state, .fld PWR.STATE.step,
   .fld PWR.STATE.target, .fld PWR.WAKE_CAUSE.aborted, .fld PWR.WAKE_CAUSE.first, .fld PWR.WAKE_CAUSE.source, .fld SAFE.HEAD_SRC.bl_off,
   .fld SAFE.HEAD_SRC.blank, .fld SAFE.HEAD_SRC.fallback, .fld SAFE.ISL_STAT.fw_running, .fld SURF.HV_STAT.on, .fld SURF.HV_STAT.why,
   .fld TOUCH.TILE_STAT.state, .fld TOUCH.WAKE_STAT.gesture, .fld TOUCH.WAKE_STAT.woke, .hapt, .links, .mem, .pins, .pwr, .safe, .sent, .surf,
   .touch, .world]

theorem slAct_frame {LL rr s seq type p} (h_s : Frame LL rr s) (hT : Cov slAct_T LL) :
    Frame LL rr (State.slAct s seq type p) := by
  delta State.slAct
  exact Frame.ite (Frame.upd h_s (m_safe := .inl (nth 43 rfl hT))) (Frame.ite (Frame.upd h_s (m_safe := .inl (nth 43 rfl hT))) (Frame.ite (slLogs_frame h_s (pick_sub 0x80000000000 rfl hT)) (Frame.ite (wake_frame h_s (pick_sub 0xffffffffffff rfl hT)) (slAnswer_frame h_s (pick_sub 0x80000000000 rfl hT)))))

/-- What State.slError may change. -/
def slError_T : List Piece :=
  [.ctr .safe, .faults, .fld (HDR.ev_raw .safe), .fld SAFE.ISL_STAT.link, .safe, .sent]

theorem slError_frame {LL rr s code ctr} (h_s : Frame LL rr s) (hT : Cov slError_T LL) :
    Frame LL rr (State.slError s code ctr) := by
  delta State.slError
  extract_lets s1_1 u_2
  have h_s1_1 : Frame LL rr s1_1 := by
      unfold s1_1
      exact raise_frame (count_frame (wr_frame h_s (pick_sub 0x8 rfl hT)) (pick_sub 0x1 rfl hT)) (pick_sub 0x24 rfl hT)
  clear_value s1_1
  exact faultLine_frame (Frame.upd h_s1_1 (m_safe := .inl (nth 4 rfl hT))) (pick_sub 0x2 rfl hT)

/-- What State.slSend may change. -/
def slSend_T : List Piece :=
  [.fld SAFE.SL_STAT.tx_seq, .safe]

theorem slSend_frame {LL rr s} (h_s : Frame LL rr s) (hT : Cov slSend_T LL) :
    Frame LL rr (State.slSend s) := by
  delta State.slSend
  extract_lets c_1
  split
  · exact wr_frame (Frame.upd h_s (m_safe := .inl (nth 1 rfl hT))) (pick_sub 0x1 rfl hT)

/-- What State.slTransaction may change. -/
def slTransaction_T : List Piece :=
  [.ctr .hapt, .ctr .pwr, .ctr .safe, .err .dram, .faults, .fld (HDR.ev_raw .dram), .fld (HDR.ev_raw .pwr), .fld (HDR.ev_raw .safe),
   .fld (HDR.ev_raw .surf), .fld (HDR.ev_raw .touch), .fld DRAM.SPARE_STAT.cause, .fld DRAM.SPARE_STAT.deferred, .fld DRAM.SPARE_STAT.done_64k,
   .fld DRAM.SPARE_STAT.rank, .fld DRAM.SPARE_STAT.state, .fld HAPT.BOOST_STAT.on, .fld LINK.LINK_STAT.lanes_active,
   .fld LINK.LINK_STAT.rate_active, .fld LINK.LINK_STAT.state, .fld PWR.EXIT_STAT.failed_step, .fld PWR.EXIT_STAT.from_state,
   .fld PWR.EXIT_STAT.osc_attempts, .fld PWR.RAIL_STAT.cmd_seq, .fld PWR.RAIL_STAT.slewing, .fld PWR.RAIL_STAT.target_mv, .fld PWR.STATE.state,
   .fld PWR.STATE.step, .fld PWR.STATE.target, .fld PWR.WAKE_CAUSE.aborted, .fld PWR.WAKE_CAUSE.first, .fld PWR.WAKE_CAUSE.source,
   .fld SAFE.HEAD_SRC.bl_off, .fld SAFE.HEAD_SRC.blank, .fld SAFE.HEAD_SRC.fallback, .fld SAFE.ISL_STAT.fw_running, .fld SAFE.ISL_STAT.link,
   .fld SAFE.SL_STAT.rx_seq, .fld SAFE.SL_STAT.tx_seq, .fld SURF.HV_STAT.on, .fld SURF.HV_STAT.why, .fld TOUCH.TILE_STAT.state,
   .fld TOUCH.WAKE_STAT.gesture, .fld TOUCH.WAKE_STAT.woke, .hapt, .links, .mem, .pins, .pwr, .safe, .sent, .surf, .touch, .world]

theorem slTransaction_frame {LL rr s d} (h_s : Frame LL rr s) (hT : Cov slTransaction_T LL) :
    Frame LL rr (State.slTransaction s d) := by
  delta State.slTransaction
  exact Frame.ite h_s (by
      extract_lets u_1 s0_2 seq_3 s1_4
      have h_s0_2 : Frame LL rr s0_2 := by
          unfold s0_2
          exact Frame.upd h_s (m_safe := .inl (nth 48 rfl hT))
      have h_s1_4 : Frame LL rr s1_4 := by
          unfold s1_4
          exact slSend_frame h_s0_2 (pick_sub 0x1002000000000 rfl hT)
      clear_value s0_2 s1_4
      exact Frame.ite (slAnswer_frame (slError_frame h_s0_2 (pick_sub 0x3000800000094 rfl hT)) (pick_sub 0x1000000000000 rfl hT)) (Frame.ite (slAnswer_frame (slError_frame h_s1_4 (pick_sub 0x3000800000094 rfl hT)) (pick_sub 0x1000000000000 rfl hT)) (Frame.ite (slAnswer_frame (slError_frame h_s1_4 (pick_sub 0x3000800000094 rfl hT)) (pick_sub 0x1000000000000 rfl hT)) (slAct_frame (slAccept_frame h_s1_4 (pick_sub 0x1001800000004 rfl hT)) (pick_sub 0x1fffc7ffffff6f rfl hT)))))

/-- What execSlClear may change. -/
def execSlClear_T : List Piece :=
  [.ctr .hapt, .ctr .pwr, .ctr .safe, .err .dram, .faults, .fld (HDR.ev_raw .dram), .fld (HDR.ev_raw .pwr), .fld (HDR.ev_raw .safe),
   .fld (HDR.ev_raw .surf), .fld (HDR.ev_raw .touch), .fld DRAM.SPARE_STAT.cause, .fld DRAM.SPARE_STAT.deferred, .fld DRAM.SPARE_STAT.done_64k,
   .fld DRAM.SPARE_STAT.rank, .fld DRAM.SPARE_STAT.state, .fld HAPT.BOOST_STAT.on, .fld LINK.LINK_STAT.lanes_active,
   .fld LINK.LINK_STAT.rate_active, .fld LINK.LINK_STAT.state, .fld PWR.EXIT_STAT.failed_step, .fld PWR.EXIT_STAT.from_state,
   .fld PWR.EXIT_STAT.osc_attempts, .fld PWR.RAIL_STAT.cmd_seq, .fld PWR.RAIL_STAT.slewing, .fld PWR.RAIL_STAT.target_mv, .fld PWR.STATE.state,
   .fld PWR.STATE.step, .fld PWR.STATE.target, .fld PWR.WAKE_CAUSE.aborted, .fld PWR.WAKE_CAUSE.first, .fld PWR.WAKE_CAUSE.source,
   .fld SAFE.HEAD_SRC.bl_off, .fld SAFE.HEAD_SRC.blank, .fld SAFE.HEAD_SRC.fallback, .fld SAFE.ISL_STAT.fw_running, .fld SAFE.ISL_STAT.link,
   .fld SAFE.SL_STAT.rx_seq, .fld SAFE.SL_STAT.tx_seq, .fld SURF.HV_STAT.on, .fld SURF.HV_STAT.why, .fld TOUCH.TILE_STAT.state,
   .fld TOUCH.WAKE_STAT.gesture, .fld TOUCH.WAKE_STAT.woke, .hapt, .links, .mem, .pins, .pwr, .safe, .sent, .surf, .touch, .world]

theorem execSlClear_frame {LL rr seq s} (h_s : Frame LL rr s) (hT : Cov execSlClear_T LL) :
    FrameN LL rr (execSlClear seq s) := by
  delta execSlClear
  exact FrameN.next (slTransaction_frame h_s (pick_sub 0x1fffffffffffff rfl hT))

/-- What execSlLogReq may change. -/
def execSlLogReq_T : List Piece :=
  [.ctr .hapt, .ctr .pwr, .ctr .safe, .err .dram, .faults, .fld (HDR.ev_raw .dram), .fld (HDR.ev_raw .pwr), .fld (HDR.ev_raw .safe),
   .fld (HDR.ev_raw .surf), .fld (HDR.ev_raw .touch), .fld DRAM.SPARE_STAT.cause, .fld DRAM.SPARE_STAT.deferred, .fld DRAM.SPARE_STAT.done_64k,
   .fld DRAM.SPARE_STAT.rank, .fld DRAM.SPARE_STAT.state, .fld HAPT.BOOST_STAT.on, .fld LINK.LINK_STAT.lanes_active,
   .fld LINK.LINK_STAT.rate_active, .fld LINK.LINK_STAT.state, .fld PWR.EXIT_STAT.failed_step, .fld PWR.EXIT_STAT.from_state,
   .fld PWR.EXIT_STAT.osc_attempts, .fld PWR.RAIL_STAT.cmd_seq, .fld PWR.RAIL_STAT.slewing, .fld PWR.RAIL_STAT.target_mv, .fld PWR.STATE.state,
   .fld PWR.STATE.step, .fld PWR.STATE.target, .fld PWR.WAKE_CAUSE.aborted, .fld PWR.WAKE_CAUSE.first, .fld PWR.WAKE_CAUSE.source,
   .fld SAFE.HEAD_SRC.bl_off, .fld SAFE.HEAD_SRC.blank, .fld SAFE.HEAD_SRC.fallback, .fld SAFE.ISL_STAT.fw_running, .fld SAFE.ISL_STAT.link,
   .fld SAFE.SL_STAT.rx_seq, .fld SAFE.SL_STAT.tx_seq, .fld SURF.HV_STAT.on, .fld SURF.HV_STAT.why, .fld TOUCH.TILE_STAT.state,
   .fld TOUCH.WAKE_STAT.gesture, .fld TOUCH.WAKE_STAT.woke, .hapt, .links, .mem, .pins, .pwr, .safe, .sent, .surf, .touch, .world]

theorem execSlLogReq_frame {LL rr seq first s} (h_s : Frame LL rr s) (hT : Cov execSlLogReq_T LL) :
    FrameN LL rr (execSlLogReq seq first s) := by
  delta execSlLogReq
  exact FrameN.next (slTransaction_frame h_s (pick_sub 0x1fffffffffffff rfl hT))

/-- What execSlState may change. -/
def execSlState_T : List Piece :=
  [.ctr .hapt, .ctr .pwr, .ctr .safe, .err .dram, .faults, .fld (HDR.ev_raw .dram), .fld (HDR.ev_raw .pwr), .fld (HDR.ev_raw .safe),
   .fld (HDR.ev_raw .surf), .fld (HDR.ev_raw .touch), .fld DRAM.SPARE_STAT.cause, .fld DRAM.SPARE_STAT.deferred, .fld DRAM.SPARE_STAT.done_64k,
   .fld DRAM.SPARE_STAT.rank, .fld DRAM.SPARE_STAT.state, .fld HAPT.BOOST_STAT.on, .fld LINK.LINK_STAT.lanes_active,
   .fld LINK.LINK_STAT.rate_active, .fld LINK.LINK_STAT.state, .fld PWR.EXIT_STAT.failed_step, .fld PWR.EXIT_STAT.from_state,
   .fld PWR.EXIT_STAT.osc_attempts, .fld PWR.RAIL_STAT.cmd_seq, .fld PWR.RAIL_STAT.slewing, .fld PWR.RAIL_STAT.target_mv, .fld PWR.STATE.state,
   .fld PWR.STATE.step, .fld PWR.STATE.target, .fld PWR.WAKE_CAUSE.aborted, .fld PWR.WAKE_CAUSE.first, .fld PWR.WAKE_CAUSE.source,
   .fld SAFE.HEAD_SRC.bl_off, .fld SAFE.HEAD_SRC.blank, .fld SAFE.HEAD_SRC.fallback, .fld SAFE.ISL_STAT.fw_running, .fld SAFE.ISL_STAT.link,
   .fld SAFE.SL_STAT.rx_seq, .fld SAFE.SL_STAT.tx_seq, .fld SURF.HV_STAT.on, .fld SURF.HV_STAT.why, .fld TOUCH.TILE_STAT.state,
   .fld TOUCH.WAKE_STAT.gesture, .fld TOUCH.WAKE_STAT.woke, .hapt, .links, .mem, .pins, .pwr, .safe, .sent, .surf, .touch, .world]

theorem execSlState_frame {LL rr seq machine needed vis s} (h_s : Frame LL rr s) (hT : Cov execSlState_T LL) :
    FrameN LL rr (execSlState seq machine needed vis s) := by
  delta execSlState
  exact FrameN.next (slTransaction_frame h_s (pick_sub 0x1fffffffffffff rfl hT))

/-- What execSlTimeout may change. -/
def execSlTimeout_T : List Piece :=
  [.ctr .safe, .faults, .fld (HDR.ev_raw .safe), .fld SAFE.ISL_STAT.link, .safe, .sent]

theorem execSlTimeout_frame {LL rr s} (h_s : Frame LL rr s) (hT : Cov execSlTimeout_T LL) :
    FrameN LL rr (execSlTimeout s) := by
  delta execSlTimeout
  exact FrameN.next (Frame.ite h_s (slError_frame (Frame.upd h_s (m_safe := .inl (nth 4 rfl hT))) (pick_sub 0x3f rfl hT)))

/-- What execSlTransaction may change. -/
def execSlTransaction_T : List Piece :=
  [.ctr .hapt, .ctr .pwr, .ctr .safe, .err .dram, .faults, .fld (HDR.ev_raw .dram), .fld (HDR.ev_raw .pwr), .fld (HDR.ev_raw .safe),
   .fld (HDR.ev_raw .surf), .fld (HDR.ev_raw .touch), .fld DRAM.SPARE_STAT.cause, .fld DRAM.SPARE_STAT.deferred, .fld DRAM.SPARE_STAT.done_64k,
   .fld DRAM.SPARE_STAT.rank, .fld DRAM.SPARE_STAT.state, .fld HAPT.BOOST_STAT.on, .fld LINK.LINK_STAT.lanes_active,
   .fld LINK.LINK_STAT.rate_active, .fld LINK.LINK_STAT.state, .fld PWR.EXIT_STAT.failed_step, .fld PWR.EXIT_STAT.from_state,
   .fld PWR.EXIT_STAT.osc_attempts, .fld PWR.RAIL_STAT.cmd_seq, .fld PWR.RAIL_STAT.slewing, .fld PWR.RAIL_STAT.target_mv, .fld PWR.STATE.state,
   .fld PWR.STATE.step, .fld PWR.STATE.target, .fld PWR.WAKE_CAUSE.aborted, .fld PWR.WAKE_CAUSE.first, .fld PWR.WAKE_CAUSE.source,
   .fld SAFE.HEAD_SRC.bl_off, .fld SAFE.HEAD_SRC.blank, .fld SAFE.HEAD_SRC.fallback, .fld SAFE.ISL_STAT.fw_running, .fld SAFE.ISL_STAT.link,
   .fld SAFE.SL_STAT.rx_seq, .fld SAFE.SL_STAT.tx_seq, .fld SURF.HV_STAT.on, .fld SURF.HV_STAT.why, .fld TOUCH.TILE_STAT.state,
   .fld TOUCH.WAKE_STAT.gesture, .fld TOUCH.WAKE_STAT.woke, .hapt, .links, .mem, .pins, .pwr, .safe, .sent, .surf, .touch, .world]

theorem execSlTransaction_frame {LL rr d s} (h_s : Frame LL rr s) (hT : Cov execSlTransaction_T LL) :
    FrameN LL rr (execSlTransaction d s) := by
  delta execSlTransaction
  exact FrameN.next (slTransaction_frame h_s (pick_sub 0x1fffffffffffff rfl hT))

/-- What execSlWake may change. -/
def execSlWake_T : List Piece :=
  [.ctr .hapt, .ctr .pwr, .ctr .safe, .err .dram, .faults, .fld (HDR.ev_raw .dram), .fld (HDR.ev_raw .pwr), .fld (HDR.ev_raw .safe),
   .fld (HDR.ev_raw .surf), .fld (HDR.ev_raw .touch), .fld DRAM.SPARE_STAT.cause, .fld DRAM.SPARE_STAT.deferred, .fld DRAM.SPARE_STAT.done_64k,
   .fld DRAM.SPARE_STAT.rank, .fld DRAM.SPARE_STAT.state, .fld HAPT.BOOST_STAT.on, .fld LINK.LINK_STAT.lanes_active,
   .fld LINK.LINK_STAT.rate_active, .fld LINK.LINK_STAT.state, .fld PWR.EXIT_STAT.failed_step, .fld PWR.EXIT_STAT.from_state,
   .fld PWR.EXIT_STAT.osc_attempts, .fld PWR.RAIL_STAT.cmd_seq, .fld PWR.RAIL_STAT.slewing, .fld PWR.RAIL_STAT.target_mv, .fld PWR.STATE.state,
   .fld PWR.STATE.step, .fld PWR.STATE.target, .fld PWR.WAKE_CAUSE.aborted, .fld PWR.WAKE_CAUSE.first, .fld PWR.WAKE_CAUSE.source,
   .fld SAFE.HEAD_SRC.bl_off, .fld SAFE.HEAD_SRC.blank, .fld SAFE.HEAD_SRC.fallback, .fld SAFE.ISL_STAT.fw_running, .fld SAFE.ISL_STAT.link,
   .fld SAFE.SL_STAT.rx_seq, .fld SAFE.SL_STAT.tx_seq, .fld SURF.HV_STAT.on, .fld SURF.HV_STAT.why, .fld TOUCH.TILE_STAT.state,
   .fld TOUCH.WAKE_STAT.gesture, .fld TOUCH.WAKE_STAT.woke, .hapt, .links, .mem, .pins, .pwr, .safe, .sent, .surf, .touch, .world]

theorem execSlWake_frame {LL rr seq s} (h_s : Frame LL rr s) (hT : Cov execSlWake_T LL) :
    FrameN LL rr (execSlWake seq s) := by
  delta execSlWake
  exact FrameN.next (slTransaction_frame h_s (pick_sub 0x1fffffffffffff rfl hT))

end Sys2Proof.Laws
end

