-- ==== Sys2Proof/Laws/FrameWorlds.lean ====
section
/-! SUPPORT. What the operations and commands of Machine/Worlds.lean may change: the parts of each, and that nothing else changes. -/

set_option Elab.async false

namespace Sys2Proof.Laws

open Machine

/-- What State.setFrame may change. -/
def setFrame_T : List Piece :=
  [.ctr .dram, .ctr .dramq, .ctr .pot, .dram, .mem, .pot]

theorem setFrame_frame {LL rr s h v frame st} (h_s : Frame LL rr s) (hT : Cov setFrame_T LL) :
    Frame LL rr (State.setFrame s h v frame st) := by
  delta State.setFrame
  exact put_frame h_s (pick_sub 0x3f rfl hT)

/-- What State.setHart may change. -/
def setHart_T : List Piece :=
  [.world]

theorem setHart_frame {LL rr s h c} (h_s : Frame LL rr s) (hT : Cov setHart_T LL) :
    Frame LL rr (State.setHart s h c) := by
  delta State.setHart
  exact Frame.upd h_s (m_world := .inl (nth 0 rfl hT))

/-- What State.leaveVale may change. -/
def leaveVale_T : List Piece :=
  [.fld WORLD.VALE_STAT.inside]

theorem leaveVale_frame {LL rr s v} (h_s : Frame LL rr s) (hT : Cov leaveVale_T LL) :
    Frame LL rr (State.leaveVale s v) := by
  delta State.leaveVale
  exact wr_frame h_s (pick_sub 0x1 rfl hT)

/-- What State.valeFault may change. -/
def valeFault_T : List Piece :=
  [.ctr .dram, .ctr .dramq, .ctr .pot, .ctr .world, .dram, .fld WORLD.VALE_STAT.inside, .mem, .pot, .world]

theorem valeFault_frame {LL rr s h} (h_s : Frame LL rr s) (hT : Cov valeFault_T LL) :
    Frame LL rr (State.valeFault s h) := by
  delta State.valeFault
  extract_lets c_1
  split
  · exact h_s
  · extract_lets ok_7 s1_8
    have h_s1_8 : Frame LL rr s1_8 := by
        unfold s1_8
        exact Frame.ite (setFrame_frame h_s (pick_sub 0xd7 rfl hT)) h_s
    clear_value s1_8
    exact setHart_frame (count_frame (leaveVale_frame h_s1_8 (pick_sub 0x20 rfl hT)) (pick_sub 0x8 rfl hT)) (pick_sub 0x100 rfl hT)

/-- What State.trapTo may change. -/
def trapTo_T : List Piece :=
  [.world]

theorem trapTo_frame {LL rr s h virt interrupt cause stval htval epc} (h_s : Frame LL rr s) (hT : Cov trapTo_T LL) :
    Frame LL rr (State.trapTo s h virt interrupt cause stval htval epc) := by
  delta State.trapTo
  exact setHart_frame h_s (pick_sub 0x1 rfl hT)

/-- What State.poisonFault may change. -/
def poisonFault_T : List Piece :=
  [.ctr .dram, .ctr .dramq, .ctr .pot, .ctr .world, .dram, .fld WORLD.VALE_STAT.inside, .free, .mem, .pot, .world]

theorem poisonFault_frame {LL rr s h virt fetch} (h_s : Frame LL rr s) (hT : Cov poisonFault_T LL) :
    Frame LL rr (State.poisonFault s h virt fetch) := by
  delta State.poisonFault
  split
  · exact valeFault_frame h_s (pick_sub 0x3bf rfl hT)
  · exact trapTo_frame (Frame.upd h_s (m_free := .inl (nth 6 rfl hT))) (pick_sub 0x200 rfl hT)

/-- What State.freeVale may change. -/
def freeVale_T : List Piece :=
  [.blk .enc, .blk .gpio, .ctl, .ctr .enc, .fld GPIO.PIN_OWNER.owner, .fld WORLD.VALE_STAT.busy, .fld WORLD.VALE_STAT.parent,
   .fld WORLD.VALE_STAT.state, .world]

theorem freeVale_frame {LL rr s v} (h_s : Frame LL rr s) (hT : Cov freeVale_T LL) :
    Frame LL rr (State.freeVale s v) := by
  delta State.freeVale
  extract_lets p_1 s1_2 u_3
  have h_s1_2 : Frame LL rr s1_2 := by
      unfold s1_2
      exact wr_frame (wr_frame (wr_frame (pinsReturn_frame h_s (pick_sub 0x1f rfl hT)) (pick_sub 0x80 rfl hT)) (pick_sub 0x40 rfl hT)) (pick_sub 0x20 rfl hT)
  clear_value s1_2
  exact Frame.upd h_s1_2 (m_world := .inl (nth 8 rfl hT))

/-- What State.worldRefuse may change. -/
def worldRefuse_T : List Piece :=
  [.err .world, .fld (HDR.ev_raw .world), .resp, .sent]

theorem worldRefuse_frame {LL rr s w code off} (h_s : Frame LL rr s) (hT : Cov worldRefuse_T LL) :
    Frame LL rr (State.worldRefuse s w code off) := by
  delta State.worldRefuse
  exact refuse_frame h_s (pick_sub 0xf rfl hT)

/-- What State.valeCmd may change. -/
def valeCmd_T : List Piece :=
  [.ctr .pot, .err .pot, .err .world, .fld (HDR.ev_raw .pot), .fld (HDR.ev_raw .world), .resp, .sent, .world]

theorem valeCmd_frame {LL rr s w op gate allowed k} (h_s : Frame LL rr s) (h_k : ∀ y0 y1, Frame LL rr y0 → Frame LL rr (k y0 y1)) (hT : Cov valeCmd_T LL) :
    Frame LL rr (State.valeCmd s w op gate allowed k) := by
  delta State.valeCmd
  exact onWrite_frame h_s (fun t1 h2 => by
      extract_lets v_3
      exact Frame.ite (worldRefuse_frame h2 (pick_sub 0x74 rfl hT)) (h_k _ _ h2)) (pick_sub 0xff rfl hT)

/-- What State.valeRun may change. -/
def valeRun_T : List Piece :=
  [.fld WORLD.VALE_STAT.busy, .world]

theorem valeRun_frame {LL rr s v op bad} (h_s : Frame LL rr s) (hT : Cov valeRun_T LL) :
    Frame LL rr (State.valeRun s v op bad) := by
  delta State.valeRun
  exact wr_frame (Frame.upd h_s (m_world := .inl (nth 1 rfl hT))) (pick_sub 0x1 rfl hT)

/-- What State.setDigest may change. -/
def setDigest_T : List Piece :=
  [.fld WORLD.MEAS.digest]

theorem setDigest_frame {LL rr s v h} (h_s : Frame LL rr s) (hT : Cov setDigest_T LL) :
    Frame LL rr (State.setDigest s v h) := by
  delta State.setDigest
  exact Frame.foldl h_s (fun t1 x2 h3 => wr_frame h3 (pick_sub 0x1 rfl hT))

/-- What State.valeOpen may change. -/
def valeOpen_T : List Piece :=
  [.ctr .pot, .err .pot, .err .world, .fld (HDR.ev_raw .pot), .fld (HDR.ev_raw .world), .fld WORLD.LOAD_SEQ.seq, .fld WORLD.MEAS.digest,
   .fld WORLD.VALE_STAT.busy, .fld WORLD.VALE_STAT.parent, .fld WORLD.VALE_STAT.state, .resp, .sent, .world]

theorem valeOpen_frame {LL rr s w} (h_s : Frame LL rr s) (hT : Cov valeOpen_T LL) :
    Frame LL rr (State.valeOpen s w) := by
  delta State.valeOpen
  exact valeCmd_frame h_s (fun t1 x3 h2 => by
      extract_lets p_4 t1_5 u_6 t2_7
      have h_t1_5 : Frame LL rr t1_5 := by
          unfold t1_5
          exact wr_frame (wr_frame (wr_frame h2 (pick_sub 0x200 rfl hT)) (pick_sub 0x100 rfl hT)) (pick_sub 0x20 rfl hT)
      have h_t2_7 : Frame LL rr t2_7 := by
          unfold t2_7
          exact Frame.upd h_t1_5 (m_world := .inl (nth 12 rfl hT))
      clear_value t1_5 t2_7
      exact Frame.ite (worldRefuse_frame h2 (pick_sub 0xc14 rfl hT)) (valeRun_frame (setDigest_frame h_t2_7 (pick_sub 0x40 rfl hT)) (pick_sub 0x1080 rfl hT))) (pick_sub 0x1c1f rfl hT)

/-- What State.loadPage may change. -/
def loadPage_T : List Piece :=
  [.ctr .dram, .ctr .dramq, .ctr .pot, .ctr .world, .dram, .fld WORLD.LOAD_SEQ.seq, .fld WORLD.MEAS.digest, .mem, .pot, .world]

theorem loadPage_frame {LL rr s v src dst gate} (h_s : Frame LL rr s) (hT : Cov loadPage_T LL) :
    Frame LL rr (State.loadPage s v src dst gate) := by
  delta State.loadPage
  extract_lets d_1 msg_2 h_3 s1_4 u_5 s2_6 s3_7
  have h_s1_4 : Frame LL rr s1_4 := by
      unfold s1_4
      exact setDigest_frame (put_frame (fetched_frame h_s (pick_sub 0x187 rfl hT)) (pick_sub 0x197 rfl hT)) (pick_sub 0x40 rfl hT)
  have h_s2_6 : Frame LL rr s2_6 := by
      unfold s2_6
      exact Frame.upd h_s1_4 (m_world := .inl (nth 9 rfl hT))
  have h_s3_7 : Frame LL rr s3_7 := by
      unfold s3_7
      exact Frame.ite (setPotEntry_frame h_s2_6 (pick_sub 0x10 rfl hT)) h_s2_6
  clear_value s1_4 s2_6 s3_7
  exact count_frame (wr_frame h_s3_7 (pick_sub 0x20 rfl hT)) (pick_sub 0x8 rfl hT)

/-- What State.valeLoad may change. -/
def valeLoad_T : List Piece :=
  [.ctr .dram, .ctr .dramq, .ctr .pot, .ctr .world, .dram, .err .dram, .err .pot, .err .world, .fld (HDR.ev_raw .dram), .fld (HDR.ev_raw .pot),
   .fld (HDR.ev_raw .world), .fld POT.CMD_STAT.epoch, .fld WORLD.LOAD_SEQ.seq, .fld WORLD.MEAS.digest, .fld WORLD.VALE_STAT.busy, .mem, .pot,
   .resp, .sent, .world]

theorem valeLoad_frame {LL rr s w gate} (h_s : Frame LL rr s) (hT : Cov valeLoad_T LL) :
    Frame LL rr (State.valeLoad s w gate) := by
  delta State.valeLoad
  exact valeCmd_frame h_s (fun t1 x3 h2 => by
      extract_lets n_4 src_5 dst_6 ok_7 bad_8 t1_9
      have h_t1_9 : Frame LL rr t1_9 := by
          unfold t1_9
          exact Frame.foldl h2 (fun t10 x11 h12 => loadPage_frame h12 (pick_sub 0x9b01f rfl hT))
      clear_value t1_9
      exact Frame.ite (valeRun_frame (count_frame (wr_frame h_t1_9 (pick_sub 0x800 rfl hT)) (pick_sub 0x4 rfl hT)) (pick_sub 0x84000 rfl hT)) (valeRun_frame (by
          clear_value bad_8
          split
          · exact memRecord_frame h2 (pick_sub 0x40365 rfl hT)
          · exact h2) (pick_sub 0x84000 rfl hT))) (pick_sub 0xe06c4 rfl hT)

/-- What State.valeSeal may change. -/
def valeSeal_T : List Piece :=
  [.ctr .pot, .err .pot, .err .world, .fld (HDR.ev_raw .pot), .fld (HDR.ev_raw .world), .fld WORLD.MEAS.digest, .fld WORLD.VALE_STAT.busy,
   .fld WORLD.VALE_STAT.state, .resp, .sent, .world]

theorem valeSeal_frame {LL rr s w} (h_s : Frame LL rr s) (hT : Cov valeSeal_T LL) :
    Frame LL rr (State.valeSeal s w) := by
  delta State.valeSeal
  exact valeCmd_frame h_s (fun t1 x3 h2 => by
      extract_lets h_4
      exact valeRun_frame (wr_frame (setDigest_frame h2 (pick_sub 0x20 rfl hT)) (pick_sub 0x80 rfl hT)) (pick_sub 0x440 rfl hT)) (pick_sub 0x71f rfl hT)

/-- What State.valeClose may change. -/
def valeClose_T : List Piece :=
  [.ctr .pot, .err .pot, .err .world, .fld (HDR.ev_raw .pot), .fld (HDR.ev_raw .world), .fld WORLD.VALE_STAT.busy, .resp, .sent, .world]

theorem valeClose_frame {LL rr s w} (h_s : Frame LL rr s) (hT : Cov valeClose_T LL) :
    Frame LL rr (State.valeClose s w) := by
  delta State.valeClose
  exact valeCmd_frame h_s (fun t1 x3 h2 => Frame.ite (worldRefuse_frame h2 (pick_sub 0xd4 rfl hT)) (valeRun_frame h2 (pick_sub 0x120 rfl hT))) (pick_sub 0x1df rfl hT)

/-- What State.dmaOwner may change. -/
def dmaOwner_T : List Piece :=
  [.ctr .pot, .err .pot, .err .world, .fld (HDR.ev_raw .pot), .fld (HDR.ev_raw .world), .fld WORLD.DMA_OWNER.owner, .resp, .sent, .world]

theorem dmaOwner_frame {LL rr s w k v} (h_s : Frame LL rr s) (hT : Cov dmaOwner_T LL) :
    Frame LL rr (State.dmaOwner s w k v) := by
  delta State.dmaOwner
  extract_lets off_1 o_2
  exact onWrite_frame h_s (fun t3 h4 => Frame.ite (worldRefuse_frame h4 (pick_sub 0xd4 rfl hT)) (wr_frame h4 (pick_sub 0x20 rfl hT))) (pick_sub 0x1df rfl hT)

/-- What State.awake may change. -/
def awake_T : List Piece :=
  [.world]

theorem awake_frame {LL rr s h} (h_s : Frame LL rr s) (hT : Cov awake_T LL) :
    Frame LL rr (State.awake s h) := by
  delta State.awake
  exact setHart_frame h_s (pick_sub 0x1 rfl hT)

/-- What State.illegal may change. -/
def illegal_T : List Piece :=
  [.ctr .dram, .ctr .dramq, .ctr .pot, .ctr .world, .dram, .fld WORLD.VALE_STAT.inside, .free, .mem, .pot, .world]

theorem illegal_frame {LL rr s h virt pc} (h_s : Frame LL rr s) (hT : Cov illegal_T LL) :
    Frame LL rr (State.illegal s h virt pc) := by
  delta State.illegal
  split
  · exact valeFault_frame h_s (pick_sub 0x3bf rfl hT)
  · exact trapTo_frame (Frame.upd h_s (m_free := .inl (nth 6 rfl hT))) (pick_sub 0x200 rfl hT)

/-- What State.passFault may change. -/
def passFault_T : List Piece :=
  [.ctr .world, .world]

theorem passFault_frame {LL rr s h virt pc code} (h_s : Frame LL rr s) (hT : Cov passFault_T LL) :
    Frame LL rr (State.passFault s h virt pc code) := by
  delta State.passFault
  exact setHart_frame (count_frame h_s (pick_sub 0x1 rfl hT)) (pick_sub 0x2 rfl hT)

/-- What State.xlatFault may change. -/
def xlatFault_T : List Piece :=
  [.world]

theorem xlatFault_frame {LL rr s h virt pc guest fetch va} (h_s : Frame LL rr s) (hT : Cov xlatFault_T LL) :
    Frame LL rr (State.xlatFault s h virt pc guest fetch va) := by
  delta State.xlatFault
  exact trapTo_frame h_s (pick_sub 0x1 rfl hT)

/-- What State.passEnterGo may change. -/
def passEnterGo_T : List Piece :=
  [.ctr .dram, .ctr .dramq, .ctr .pot, .ctr .world, .dram, .fld WORLD.VALE_STAT.inside, .mem, .pot, .world]

theorem passEnterGo_frame {LL rr s h r1 r2 ctx v frame frameVa entry st} (h_s : Frame LL rr s) (hT : Cov passEnterGo_T LL) :
    Frame LL rr (State.passEnterGo s h r1 r2 ctx v frame frameVa entry st) := by
  delta State.passEnterGo
  extract_lets s1_1 s2_2 g_3 regs_4 u_5
  have h_s1_1 : Frame LL rr s1_1 := by
      unfold s1_1
      exact count_frame (setFrame_frame h_s (pick_sub 0xd7 rfl hT)) (pick_sub 0x8 rfl hT)
  have h_s2_2 : Frame LL rr s2_2 := by
      unfold s2_2
      exact wr_frame h_s1_1 (pick_sub 0x20 rfl hT)
  clear_value s1_1 s2_2
  exact setHart_frame h_s2_2 (pick_sub 0x100 rfl hT)

/-- What State.passEnter may change. -/
def passEnter_T : List Piece :=
  [.ctr .dram, .ctr .dramq, .ctr .pot, .ctr .world, .dram, .err .dram, .err .pot, .fld (HDR.ev_raw .dram), .fld (HDR.ev_raw .pot),
   .fld WORLD.VALE_STAT.inside, .mem, .pot, .sent, .world]

theorem passEnter_frame {LL rr s h m r1 r2 ctx desc frame entry} (h_s : Frame LL rr s) (hT : Cov passEnter_T LL) :
    Frame LL rr (State.passEnter s h m r1 r2 ctx desc frame entry) := by
  delta State.passEnter
  extract_lets c_1 va_2 f_3 bad_4 poison_5
  have h_bad_4 : ∀ y0 y1, Frame LL rr y0 → Frame LL rr (bad_4 y0 y1) := by
      intro t6 x8 h7
      unfold bad_4
      exact passFault_frame h7 (pick_sub 0x2008 rfl hT)
  have h_poison_5 : ∀ y0 y1 y2, Frame LL rr (poison_5 y0 y1 y2) := by
      intro x9 x10 x11
      unfold poison_5
      exact h_bad_4 _ _ (memRecord_frame h_s (pick_sub 0x11e5 rfl hT))
  clear_value bad_4 poison_5
  exact Frame.ite (h_bad_4 _ _ h_s) (Frame.ite (h_bad_4 _ _ h_s) (Frame.ite (h_bad_4 _ _ h_s) (by
      split
      · exact xlatFault_frame h_s (pick_sub 0x2000 rfl hT)
      · extract_lets pa_16 e_17 v_18 fva_19
        exact Frame.ite (h_bad_4 _ _ h_s) (by
            split
            · exact h_poison_5 _ _ _
            · exact Frame.ite (h_bad_4 _ _ h_s) (Frame.ite (h_bad_4 _ _ h_s) (Frame.ite (h_bad_4 _ _ h_s) (Frame.ite (h_bad_4 _ _ h_s) (by
                  split
                  · exact xlatFault_frame h_s (pick_sub 0x2000 rfl hT)
                  · extract_lets fr_29 st_30
                    exact Frame.ite (h_bad_4 _ _ h_s) (by
                        split
                        · exact h_poison_5 _ _ _
                        · exact Frame.ite (h_bad_4 _ _ h_s) (Frame.ite (passEnterGo_frame h_s (pick_sub 0x2e1f rfl hT)) (by
                              split
                              · exact xlatFault_frame h_s (pick_sub 0x2000 rfl hT)
                              · exact Frame.ite (h_bad_4 _ _ h_s) (by
                                    split
                                    · exact h_poison_5 _ _ _
                                    · exact Frame.ite (h_bad_4 _ _ h_s) (passEnterGo_frame h_s (pick_sub 0x2e1f rfl hT))))))))))))))

/-- What State.saveFrame may change. -/
def saveFrame_T : List Piece :=
  [.ctr .dram, .ctr .dramq, .ctr .pot, .dram, .mem, .pot]

theorem saveFrame_frame {LL rr s h v frame ctx} (h_s : Frame LL rr s) (hT : Cov saveFrame_T LL) :
    Frame LL rr (State.saveFrame s h v frame ctx) := by
  delta State.saveFrame
  exact put_frame h_s (pick_sub 0x3f rfl hT)

/-- What State.suspend may change. -/
def suspend_T : List Piece :=
  [.ctr .dram, .ctr .dramq, .ctr .pot, .ctr .world, .dram, .fld WORLD.VALE_STAT.inside, .mem, .pot, .world]

theorem suspend_frame {LL rr s h virt interrupt cause addr ctx} (h_s : Frame LL rr s) (hT : Cov suspend_T LL) :
    Frame LL rr (State.suspend s h virt interrupt cause addr ctx) := by
  delta State.suspend
  extract_lets c_1 a_2
  split
  · exact trapTo_frame h_s (pick_sub 0x100 rfl hT)
  · extract_lets ok_8 s1_9
    have h_s1_9 : Frame LL rr s1_9 := by
        unfold s1_9
        exact Frame.ite (setFrame_frame (saveFrame_frame h_s (pick_sub 0xd7 rfl hT)) (pick_sub 0xd7 rfl hT)) h_s
    clear_value s1_9
    exact setHart_frame (count_frame (leaveVale_frame h_s1_9 (pick_sub 0x20 rfl hT)) (pick_sub 0x8 rfl hT)) (pick_sub 0x100 rfl hT)

/-- What execCustom0Illegal may change. -/
def execCustom0Illegal_T : List Piece :=
  [.ctr .dram, .ctr .dramq, .ctr .pot, .ctr .world, .dram, .fld WORLD.VALE_STAT.inside, .free, .mem, .pot, .world]

theorem execCustom0Illegal_frame {LL rr h m pc w s} (h_s : Frame LL rr s) (hT : Cov execCustom0Illegal_T LL) :
    FrameN LL rr (execCustom0Illegal h m pc w s) := by
  delta execCustom0Illegal
  exact FrameN.next (Frame.ite (illegal_frame h_s (pick_sub 0x3ff rfl hT)) h_s)

/-- What execDmaOwnerWrite may change. -/
def execDmaOwnerWrite_T : List Piece :=
  [.ctr .pot, .err .pot, .err .world, .fld (HDR.ev_raw .pot), .fld (HDR.ev_raw .world), .fld WORLD.DMA_OWNER.owner, .resp, .sent, .world]

theorem execDmaOwnerWrite_frame {LL rr w k v s} (h_s : Frame LL rr s) (hT : Cov execDmaOwnerWrite_T LL) :
    FrameN LL rr (execDmaOwnerWrite w k v s) := by
  delta execDmaOwnerWrite
  exact FrameN.next (dmaOwner_frame h_s (pick_sub 0x1ff rfl hT))

/-- What execInstanceTagWrite may change. -/
def execInstanceTagWrite_T : List Piece :=
  [.ctr .dram, .ctr .dramq, .ctr .pot, .ctr .world, .dram, .fld WORLD.VALE_STAT.inside, .free, .mem, .pot, .world]

theorem execInstanceTagWrite_frame {LL rr h m pc v s} (h_s : Frame LL rr s) (hT : Cov execInstanceTagWrite_T LL) :
    FrameN LL rr (execInstanceTagWrite h m pc v s) := by
  delta execInstanceTagWrite
  exact FrameN.next (Frame.ite (setHart_frame h_s (pick_sub 0x200 rfl hT)) (illegal_frame h_s (pick_sub 0x3ff rfl hT)))

/-- What execPassEnter may change. -/
def execPassEnter_T : List Piece :=
  [.ctr .dram, .ctr .dramq, .ctr .pot, .ctr .world, .dram, .err .dram, .err .pot, .fld (HDR.ev_raw .dram), .fld (HDR.ev_raw .pot),
   .fld WORLD.VALE_STAT.inside, .mem, .pot, .sent, .world]

theorem execPassEnter_frame {LL rr h m r1 r2 ctx desc frame entry s} (h_s : Frame LL rr s) (hT : Cov execPassEnter_T LL) :
    FrameN LL rr (execPassEnter h m r1 r2 ctx desc frame entry s) := by
  delta execPassEnter
  exact FrameN.next (passEnter_frame h_s (pick_sub 0x3fff rfl hT))

/-- What execPassMark may change. -/
def execPassMark_T : List Piece :=
  [.world]

theorem execPassMark_frame {LL rr h s} (h_s : Frame LL rr s) (hT : Cov execPassMark_T LL) :
    FrameN LL rr (execPassMark h s) := by
  delta execPassMark
  exact FrameN.next (awake_frame h_s (pick_sub 0x1 rfl hT))

/-- What execPassRet may change. -/
def execPassRet_T : List Piece :=
  [.ctr .dram, .ctr .dramq, .ctr .pot, .ctr .world, .dram, .fld WORLD.VALE_STAT.inside, .mem, .pot, .world]

theorem execPassRet_frame {LL rr h m ctx s} (h_s : Frame LL rr s) (hT : Cov execPassRet_T LL) :
    FrameN LL rr (execPassRet h m ctx s) := by
  delta execPassRet
  extract_lets c_1
  exact FrameN.next (by
      split
      · exact passFault_frame h_s (pick_sub 0x108 rfl hT)
      · exact Frame.ite (setHart_frame (count_frame (leaveVale_frame (setFrame_frame h_s (pick_sub 0xd7 rfl hT)) (pick_sub 0x20 rfl hT)) (pick_sub 0x8 rfl hT)) (pick_sub 0x100 rfl hT)) (valeFault_frame h_s (pick_sub 0x1ff rfl hT)))

/-- What execSuspendingExit may change. -/
def execSuspendingExit_T : List Piece :=
  [.ctr .dram, .ctr .dramq, .ctr .pot, .ctr .world, .dram, .fld WORLD.VALE_STAT.inside, .mem, .pot, .world]

theorem execSuspendingExit_frame {LL rr h m interrupt cause addr ctx s} (h_s : Frame LL rr s) (hT : Cov execSuspendingExit_T LL) :
    FrameN LL rr (execSuspendingExit h m interrupt cause addr ctx s) := by
  delta execSuspendingExit
  exact FrameN.next (suspend_frame h_s (pick_sub 0x1ff rfl hT))

/-- What execValeClose may change. -/
def execValeClose_T : List Piece :=
  [.ctr .pot, .err .pot, .err .world, .fld (HDR.ev_raw .pot), .fld (HDR.ev_raw .world), .fld WORLD.VALE_STAT.busy, .resp, .sent, .world]

theorem execValeClose_frame {LL rr w s} (h_s : Frame LL rr s) (hT : Cov execValeClose_T LL) :
    FrameN LL rr (execValeClose w s) := by
  delta execValeClose
  exact FrameN.next (valeClose_frame h_s (pick_sub 0x1ff rfl hT))

/-- What execValeCmdDone may change. -/
def execValeCmdDone_T : List Piece :=
  [.blk .enc, .blk .gpio, .ctl, .ctr .enc, .ctr .pot, .dram, .err .world, .fld (HDR.ev_raw .world), .fld GPIO.PIN_OWNER.owner,
   .fld POT.CMD_OP.busy, .fld POT.CMD_STAT.scrub_left, .fld WORLD.VALE_STAT.busy, .fld WORLD.VALE_STAT.parent, .fld WORLD.VALE_STAT.state, .mem,
   .pot, .sent, .world]

theorem execValeCmdDone_frame {LL rr v s} (h_s : Frame LL rr s) (hT : Cov execValeCmdDone_T LL) :
    FrameN LL rr (execValeCmdDone v s) := by
  delta execValeCmdDone
  extract_lets k_1 op_2 s1_3 u_4 s2_5
  have h_s1_3 : Frame LL rr s1_3 := by
      unfold s1_3
      exact Frame.ite h_s (recErr_frame h_s (pick_sub 0x100c0 rfl hT))
  have h_s2_5 : Frame LL rr s2_5 := by
      unfold s2_5
      exact Frame.upd h_s1_3 (m_world := .inl (nth 17 rfl hT))
  clear_value s1_3 s2_5
  exact FrameN.next (Frame.ite h_s (Frame.ite (Frame.ite (raise_frame (freeVale_frame (endEpoch_frame h_s (pick_sub 0xc630 rfl hT)) (pick_sub 0x2390f rfl hT)) (pick_sub 0x10080 rfl hT)) h_s) (raise_frame (wr_frame h_s2_5 (pick_sub 0x800 rfl hT)) (pick_sub 0x10080 rfl hT))))

/-- What execValeFaultExit may change. -/
def execValeFaultExit_T : List Piece :=
  [.ctr .dram, .ctr .dramq, .ctr .pot, .ctr .world, .dram, .fld WORLD.VALE_STAT.inside, .mem, .pot, .world]

theorem execValeFaultExit_frame {LL rr h s} (h_s : Frame LL rr s) (hT : Cov execValeFaultExit_T LL) :
    FrameN LL rr (execValeFaultExit h s) := by
  delta execValeFaultExit
  exact FrameN.next (valeFault_frame h_s (pick_sub 0x1ff rfl hT))

/-- What execValeLoad may change. -/
def execValeLoad_T : List Piece :=
  [.ctr .dram, .ctr .dramq, .ctr .pot, .ctr .world, .dram, .err .dram, .err .pot, .err .world, .fld (HDR.ev_raw .dram), .fld (HDR.ev_raw .pot),
   .fld (HDR.ev_raw .world), .fld POT.CMD_STAT.epoch, .fld WORLD.LOAD_SEQ.seq, .fld WORLD.MEAS.digest, .fld WORLD.VALE_STAT.busy, .mem, .pot,
   .resp, .sent, .world]

theorem execValeLoad_frame {LL rr w gate s} (h_s : Frame LL rr s) (hT : Cov execValeLoad_T LL) :
    FrameN LL rr (execValeLoad w gate s) := by
  delta execValeLoad
  exact FrameN.next (valeLoad_frame h_s (pick_sub 0xfffff rfl hT))

/-- What execValeOpen may change. -/
def execValeOpen_T : List Piece :=
  [.ctr .pot, .err .pot, .err .world, .fld (HDR.ev_raw .pot), .fld (HDR.ev_raw .world), .fld WORLD.LOAD_SEQ.seq, .fld WORLD.MEAS.digest,
   .fld WORLD.VALE_STAT.busy, .fld WORLD.VALE_STAT.parent, .fld WORLD.VALE_STAT.state, .resp, .sent, .world]

theorem execValeOpen_frame {LL rr w s} (h_s : Frame LL rr s) (hT : Cov execValeOpen_T LL) :
    FrameN LL rr (execValeOpen w s) := by
  delta execValeOpen
  exact FrameN.next (valeOpen_frame h_s (pick_sub 0x1fff rfl hT))

/-- What execValeSeal may change. -/
def execValeSeal_T : List Piece :=
  [.ctr .pot, .err .pot, .err .world, .fld (HDR.ev_raw .pot), .fld (HDR.ev_raw .world), .fld WORLD.MEAS.digest, .fld WORLD.VALE_STAT.busy,
   .fld WORLD.VALE_STAT.state, .resp, .sent, .world]

theorem execValeSeal_frame {LL rr w s} (h_s : Frame LL rr s) (hT : Cov execValeSeal_T LL) :
    FrameN LL rr (execValeSeal w s) := by
  delta execValeSeal
  exact FrameN.next (valeSeal_frame h_s (pick_sub 0x7ff rfl hT))

/-- What execWorldCsrAccess may change. -/
def execWorldCsrAccess_T : List Piece :=
  [.ctr .dram, .ctr .dramq, .ctr .pot, .ctr .world, .dram, .fld WORLD.VALE_STAT.inside, .free, .mem, .pot, .resp, .world]

theorem execWorldCsrAccess_frame {LL rr h m pc passcause write s} (h_s : Frame LL rr s) (hT : Cov execWorldCsrAccess_T LL) :
    FrameN LL rr (execWorldCsrAccess h m pc passcause write s) := by
  delta execWorldCsrAccess
  extract_lets c_1
  exact FrameN.next (Frame.ite (illegal_frame h_s (pick_sub 0x5ff rfl hT)) (Frame.ite (okResp_frame (awake_frame h_s (pick_sub 0x400 rfl hT)) (pick_sub 0x200 rfl hT)) (okResp_frame (awake_frame h_s (pick_sub 0x400 rfl hT)) (pick_sub 0x200 rfl hT))))

end Sys2Proof.Laws
end

