-- ==== Sys2Proof/Laws/FrameIsolation.lean ====
section
/-! SUPPORT. What the operations and commands of Machine/Isolation.lean may change: the parts of each, and that nothing else changes. -/

set_option Elab.async false

namespace Sys2Proof.Laws

open Machine

/-- What State.mbRefuse may change. -/
def mbRefuse_T : List Piece :=
  [.err .mgr, .fld (HDR.ev_raw .mgr), .resp, .sent]

theorem mbRefuse_frame {LL rr s w code off k} (h_s : Frame LL rr s) (hT : Cov mbRefuse_T LL) :
    Frame LL rr (State.mbRefuse s w code off k) := by
  delta State.mbRefuse
  exact refuse_frame h_s (pick_sub 0xf rfl hT)

/-- What State.mbReach may change. -/
def mbReach_T : List Piece :=
  [.ctr .pot, .err .mgr, .err .pot, .fld (HDR.ev_raw .mgr), .fld (HDR.ev_raw .pot), .resp, .sent]

theorem mbReach_frame {LL rr s w off write} (h_s : Frame LL rr s) (hT : Cov mbReach_T LL) :
    FrameS LL rr (State.mbReach s w off write) := by
  delta State.mbReach
  exact FrameS.ite (FrameS.inl (errResp_frame h_s (pick_sub 0x20 rfl hT))) (by
      cases w <;> dsimp only
      · exact FrameS.ite (FrameS.inl (Frame.ite (mbRefuse_frame h_s (pick_sub 0x6a rfl hT)) (errResp_frame h_s (pick_sub 0x20 rfl hT)))) FrameS.inr
      · exact FrameS.ite (FrameS.inl (refuse_frame h_s (pick_sub 0x6a rfl hT))) FrameS.inr
      · exact FrameS.ite (FrameS.inl (Frame.ite (mbRefuse_frame h_s (pick_sub 0x6a rfl hT)) (errResp_frame h_s (pick_sub 0x20 rfl hT)))) FrameS.inr
      · exact FrameS.ite (FrameS.inl (potRefuse_frame h_s (pick_sub 0x75 rfl hT))) FrameS.inr
      · exact FrameS.inl (errResp_frame h_s (pick_sub 0x20 rfl hT)))

/-- What State.mbSize may change. -/
def mbSize_T : List Piece :=
  [.ctr .pot, .err .mgr, .err .pot, .fld (HDR.ev_raw .mgr), .fld (HDR.ev_raw .pot), .resp, .sent]

theorem mbSize_frame {LL rr s w off write} (h_s : Frame LL rr s) (hT : Cov mbSize_T LL) :
    Frame LL rr (State.mbSize s w off write) := by
  delta State.mbSize
  split
  · rename_i a3
    have h4 := FrameS.eq (L := LL) (r := rr) a3 (mbReach_frame h_s (pick_sub 0x7f rfl hT))
    exact h4
  · exact mbRefuse_frame h_s (pick_sub 0x6a rfl hT)

/-- What State.mbRead may change. -/
def mbRead_T : List Piece :=
  [.ctr .pot, .err .mgr, .err .pot, .fld (HDR.ev_raw .mgr), .fld (HDR.ev_raw .pot), .resp, .sent]

theorem mbRead_frame {LL rr s w off} (h_s : Frame LL rr s) (hT : Cov mbRead_T LL) :
    Frame LL rr (State.mbRead s w off) := by
  delta State.mbRead
  split
  · rename_i a3
    have h4 := FrameS.eq (L := LL) (r := rr) a3 (mbReach_frame h_s (pick_sub 0x7f rfl hT))
    exact h4
  · extract_lets m_9
    exact Frame.ite (okResp_frame h_s (pick_sub 0x20 rfl hT)) (Frame.ite (okResp_frame h_s (pick_sub 0x20 rfl hT)) (Frame.ite (mbRefuse_frame h_s (pick_sub 0x6a rfl hT)) (okResp_frame h_s (pick_sub 0x20 rfl hT))))

/-- What State.mbWrite may change. -/
def mbWrite_T : List Piece :=
  [.ctr .pot, .err .mgr, .err .pot, .fld (HDR.ev_raw .mgr), .fld (HDR.ev_raw .pot), .inst, .resp, .sent]

theorem mbWrite_frame {LL rr s w off v} (h_s : Frame LL rr s) (hT : Cov mbWrite_T LL) :
    Frame LL rr (State.mbWrite s w off v) := by
  delta State.mbWrite
  split
  · rename_i a3
    have h4 := FrameS.eq (L := LL) (r := rr) a3 (mbReach_frame h_s (pick_sub 0xdf rfl hT))
    exact h4
  · extract_lets slot_9 u_10
    exact Frame.ite (mbRefuse_frame h_s (pick_sub 0xca rfl hT)) (Frame.ite (mbRefuse_frame h_s (pick_sub 0xca rfl hT)) (okResp_frame (Frame.upd h_s (m_inst := .inl (nth 5 rfl hT))) (pick_sub 0x40 rfl hT)))

/-- What State.mbReserved may change. -/
def mbReserved_T : List Piece :=
  [.err .mgr, .fld (HDR.ev_raw .mgr), .sent]

theorem mbReserved_frame {LL rr s w off k v defined} (h_s : Frame LL rr s) (hT : Cov mbReserved_T LL) :
    Frame LL rr (State.mbReserved s w off k v defined) := by
  delta State.mbReserved
  exact Frame.ite (recErr_frame h_s (pick_sub 0x7 rfl hT)) h_s

/-- What State.mbStat may change. -/
def mbStat_T : List Piece :=
  [.ctr .pot, .err .mgr, .err .pot, .fld (HDR.ev_raw .mgr), .fld (HDR.ev_raw .pot), .resp, .sent]

theorem mbStat_frame {LL rr s w v} (h_s : Frame LL rr s) (hT : Cov mbStat_T LL) :
    Frame LL rr (State.mbStat s w v) := by
  delta State.mbStat
  split
  · rename_i a3
    have h4 := FrameS.eq (L := LL) (r := rr) a3 (mbReach_frame h_s (pick_sub 0x7f rfl hT))
    exact h4
  · exact okResp_frame (mbReserved_frame h_s (pick_sub 0x4a rfl hT)) (pick_sub 0x20 rfl hT)

/-- What State.mbMark may change. -/
def mbMark_T : List Piece :=
  [.err .mgr, .fld (HDR.ev_raw .mgr), .inst, .resp, .sent]

theorem mbMark_frame {LL rr s w off k slots full toMgr} (h_s : Frame LL rr s) (hT : Cov mbMark_T LL) :
    Frame LL rr (State.mbMark s w off k slots full toMgr) := by
  delta State.mbMark
  extract_lets bad_1 good_2 m_3 u_4 s1_5 t_6 s2_7
  have h_s1_5 : Frame LL rr s1_5 := by
      unfold s1_5
      exact okResp_frame (Frame.upd h_s (m_inst := .inl (nth 2 rfl hT))) (pick_sub 0x8 rfl hT)
  have h_t_6 : Frame LL rr t_6 := by
      unfold t_6
      exact Frame.ite (raise_frame h_s1_5 (pick_sub 0x12 rfl hT)) h_s1_5
  have h_s2_7 : Frame LL rr s2_7 := by
      unfold s2_7
      exact Frame.ite h_s1_5 (notify_frame h_t_6 (pick_sub 0x10 rfl hT))
  clear_value s1_5 t_6 s2_7
  exact Frame.foldl h_s2_7 (fun t8 x9 h10 => mbRefuse_frame h10 (pick_sub 0x1b rfl hT))

/-- What State.mbSend may change. -/
def mbSend_T : List Piece :=
  [.ctr .pot, .err .mgr, .err .pot, .fld (HDR.ev_raw .mgr), .fld (HDR.ev_raw .pot), .inst, .resp, .sent]

theorem mbSend_frame {LL rr s w v} (h_s : Frame LL rr s) (hT : Cov mbSend_T LL) :
    Frame LL rr (State.mbSend s w v) := by
  delta State.mbSend
  split
  · rename_i a3
    have h4 := FrameS.eq (L := LL) (r := rr) a3 (mbReach_frame h_s (pick_sub 0xdf rfl hT))
    exact h4
  · exact mbMark_frame (mbReserved_frame h_s (pick_sub 0x8a rfl hT)) (pick_sub 0xea rfl hT)

/-- What State.mbAck may change. -/
def mbAck_T : List Piece :=
  [.ctr .pot, .err .mgr, .err .pot, .fld (HDR.ev_raw .mgr), .fld (HDR.ev_raw .pot), .inst, .resp, .sent]

theorem mbAck_frame {LL rr s w v} (h_s : Frame LL rr s) (hT : Cov mbAck_T LL) :
    Frame LL rr (State.mbAck s w v) := by
  delta State.mbAck
  split
  · rename_i a3
    have h4 := FrameS.eq (L := LL) (r := rr) a3 (mbReach_frame h_s (pick_sub 0xdf rfl hT))
    exact h4
  · exact mbMark_frame (mbReserved_frame h_s (pick_sub 0x8a rfl hT)) (pick_sub 0xea rfl hT)

/-- What State.mbRearm may change. -/
def mbRearm_T : List Piece :=
  [.ctr .pot, .err .mgr, .err .pot, .fld (HDR.ev_raw .mgr), .fld (HDR.ev_raw .pot), .resp, .sent]

theorem mbRearm_frame {LL rr s w v} (h_s : Frame LL rr s) (hT : Cov mbRearm_T LL) :
    Frame LL rr (State.mbRearm s w v) := by
  delta State.mbRearm
  split
  · rename_i a3
    have h4 := FrameS.eq (L := LL) (r := rr) a3 (mbReach_frame h_s (pick_sub 0x7f rfl hT))
    exact h4
  · exact Frame.ite (mbRefuse_frame h_s (pick_sub 0x6a rfl hT)) (by
        extract_lets t_9
        have h_t_9 : Frame LL rr t_9 := by
            unfold t_9
            exact okResp_frame (mbReserved_frame h_s (pick_sub 0x4a rfl hT)) (pick_sub 0x20 rfl hT)
        clear_value t_9
        exact Frame.ite (notify_frame h_t_9 (pick_sub 0x40 rfl hT)) h_t_9)

/-- What State.mbWord may change. -/
def mbWord_T : List Piece :=
  [.ctr .pot, .err .mgr, .err .pot, .fld (HDR.ev_raw .mgr), .fld (HDR.ev_raw .pot), .inst, .resp, .sent]

theorem mbWord_frame {LL rr s w off v} (h_s : Frame LL rr s) (hT : Cov mbWord_T LL) :
    Frame LL rr (State.mbWord s w off v) := by
  delta State.mbWord
  exact Frame.ite (mbSize_frame h_s (pick_sub 0xdf rfl hT)) (Frame.ite (mbWrite_frame h_s (pick_sub 0xff rfl hT)) (Frame.ite (mbStat_frame h_s (pick_sub 0xdf rfl hT)) (Frame.ite (mbSend_frame h_s (pick_sub 0xff rfl hT)) (Frame.ite (mbAck_frame h_s (pick_sub 0xff rfl hT)) (mbRearm_frame h_s (pick_sub 0xdf rfl hT))))))

/-- What State.instCmd may change. -/
def instCmd_T : List Piece :=
  [.ctr .pot, .err .mgr, .err .pot, .fld (HDR.ev_raw .mgr), .fld (HDR.ev_raw .pot), .resp, .sent, .world]

theorem instCmd_frame {LL rr s w op scrub from_ k} (h_s : Frame LL rr s) (h_k : ∀ y0 y1, Frame LL rr y0 → Frame LL rr (k y0 y1)) (hT : Cov instCmd_T LL) :
    Frame LL rr (State.instCmd s w op scrub from_ k) := by
  delta State.instCmd
  exact onWrite_frame h_s (fun t1 h2 => by
      extract_lets i_3
      exact Frame.ite (refuse_frame h2 (pick_sub 0x6a rfl hT)) (h_k _ _ h2)) (idx_sub [0, 2, 1, 4, 3, 5, 6, 7] rfl hT)

/-- What State.admitInst may change. -/
def admitInst_T : List Piece :=
  [.fld DRAMQ.ADMIT_USED.used, .fld DRAMQ.RES_STAT.admit_seq, .mem]

theorem admitInst_frame {LL rr s k rate} (h_s : Frame LL rr s) (hT : Cov admitInst_T LL) :
    Frame LL rr (State.admitInst s k rate) := by
  delta State.admitInst
  extract_lets s1_1 u_2
  have h_s1_1 : Frame LL rr s1_1 := by
      unfold s1_1
      exact wr_frame (bucketFill_frame h_s (pick_sub 0x4 rfl hT)) (pick_sub 0x1 rfl hT)
  clear_value s1_1
  exact Frame.ite h_s1_1 (wr_frame (Frame.upd h_s1_1 (m_mem := .inl (nth 2 rfl hT))) (pick_sub 0x2 rfl hT))

/-- What State.instCreate may change. -/
def instCreate_T : List Piece :=
  [.blk .enc, .blk .gpio, .ctl, .ctr .enc, .ctr .gfx, .ctr .mgr, .ctr .pot, .err .mgr, .err .pot, .fld (HDR.ev_raw .mgr), .fld (HDR.ev_raw .pot),
   .fld DRAMQ.ADMIT_USED.used, .fld DRAMQ.RES_STAT.admit_seq, .fld GFX.CTX_STAT.local, .fld GFX.CTX_STAT.owner, .fld GFX.CTX_STAT.state,
   .fld GPIO.PIN_OWNER.owner, .fld MGR.INST_STAT.state, .gfx, .mem, .resp, .sent, .world]

theorem instCreate_frame {LL rr s w} (h_s : Frame LL rr s) (hT : Cov instCreate_T LL) :
    Frame LL rr (State.instCreate s w) := by
  delta State.instCreate
  exact instCmd_frame h_s (fun t1 x3 h2 => by
      split
      · exact refuse_frame h2 (pick_sub 0x300280 rfl hT)
      · extract_lets rate_9 t1_10 t2_11
        have h_t1_10 : Frame LL rr t1_10 := by
            unfold t1_10
            exact admitInst_frame (count_frame (wr_frame (gfxAccount_frame h2 (pick_sub 0x40010 rfl hT)) (pick_sub 0x20000 rfl hT)) (pick_sub 0x20 rfl hT)) (pick_sub 0x81800 rfl hT)
        have h_t2_11 : Frame LL rr t2_11 := by
            unfold t2_11
            exact resizeCtx_frame h_t1_10 (pick_sub 0xe000 rfl hT)
        clear_value t1_10 t2_11
        exact Frame.ite (refuse_frame h2 (pick_sub 0x300280 rfl hT)) (Frame.foldl h_t2_11 (fun t12 x13 h14 => pinChange_frame h14 (pick_sub 0x1000f rfl hT)))) (pick_sub 0x7007c0 rfl hT)

/-- What State.instStart may change. -/
def instStart_T : List Piece :=
  [.ctr .pot, .err .mgr, .err .pot, .evSeq, .fld (HDR.ev_raw .mgr), .fld (HDR.ev_raw .pot), .fld MGR.INST_STAT.state, .resp, .rings, .sent, .world]

theorem instStart_frame {LL rr s w} (h_s : Frame LL rr s) (hT : Cov instStart_T LL) :
    Frame LL rr (State.instStart s w) := by
  delta State.instStart
  exact instCmd_frame h_s (fun t1 x3 h2 => wr_frame (Frame.upd h2 (m_evSeq := .inl (nth 3 rfl hT)) (m_rings := .inl (nth 8 rfl hT))) (pick_sub 0x40 rfl hT)) (pick_sub 0x6b7 rfl hT)

/-- What State.stopRings may change. -/
def stopRings_T : List Piece :=
  [.rings]

theorem stopRings_frame {LL rr s k} (h_s : Frame LL rr s) (hT : Cov stopRings_T LL) :
    Frame LL rr (State.stopRings s k) := by
  delta State.stopRings
  exact Frame.foldl h_s (fun t1 x2 h3 => by
      extract_lets c_4
      exact Frame.ite (setRing_frame h3 (pick_sub 0x1 rfl hT)) h3)

/-- What State.dropHalted may change. -/
def dropHalted_T : List Piece :=
  [.ctr .dma, .ctr .dram, .ctr .dramq, .ctr .pot, .ctr .rsched, .err .dram, .err .pot, .fld (HDR.ev_raw .dram), .fld (HDR.ev_raw .pot),
   .fld DMA.STAT.state, .fld RSCHED.PIN_COUNT.pinned, .mem, .pot, .rings, .sent]

theorem dropHalted_frame {LL rr s k} (h_s : Frame LL rr s) (hT : Cov dropHalted_T LL) :
    Frame LL rr (State.dropHalted s k) := by
  delta State.dropHalted
  exact Frame.foldl h_s (fun t1 x2 h3 => by
      split
      · exact Frame.ite (dmaAbort_frame h3 (pick_sub 0x7fff rfl hT)) h3
      · exact h3)

/-- What State.dropCommits may change. -/
def dropCommits_T : List Piece :=
  [.comp, .ctr .comp, .evSeq, .events, .fld COMP.COEF_USE.banks, .fld COMP.ENG_STAT.busy0, .fld COMP.ENG_STAT.busy1, .fld COMP.ENG_STAT.late0,
   .fld COMP.ENG_STAT.late1, .fld COMP.ENG_STAT.pending0, .fld COMP.ENG_STAT.pending1, .fld COMP.LAYER_ADDR.addr, .fld COMP.LAYER_STAT.bank,
   .fld COMP.LAYER_STAT.enabled, .fld COMP.LAYER_STAT.format, .fld COMP.LAYER_STAT.substituted, .fld RSCHED.PIN_COUNT.pinned, .rings]

theorem dropCommits_frame {LL rr s k} (h_s : Frame LL rr s) (hT : Cov dropCommits_T LL) :
    Frame LL rr (State.dropCommits s k) := by
  delta State.dropCommits
  extract_lets mine_1 keys_2 u_3
  exact discardAll_frame (Frame.upd h_s (m_rings := .inl (nth 17 rfl hT))) (pick_sub 0x3ffff rfl hT)

/-- What State.quiesce may change. -/
def quiesce_T : List Piece :=
  [.comp, .ctr .comp, .ctr .dma, .ctr .dram, .ctr .dramq, .ctr .mgr, .ctr .pot, .ctr .rsched, .err .dram, .err .pot, .evSeq, .events,
   .fld (HDR.ev_raw .dram), .fld (HDR.ev_raw .pot), .fld COMP.COEF_USE.banks, .fld COMP.ENG_STAT.busy0, .fld COMP.ENG_STAT.busy1,
   .fld COMP.ENG_STAT.late0, .fld COMP.ENG_STAT.late1, .fld COMP.ENG_STAT.pending0, .fld COMP.ENG_STAT.pending1, .fld COMP.LAYER_ADDR.addr,
   .fld COMP.LAYER_STAT.bank, .fld COMP.LAYER_STAT.enabled, .fld COMP.LAYER_STAT.format, .fld COMP.LAYER_STAT.substituted, .fld DMA.STAT.state,
   .fld MGR.INST_STAT.busy, .fld MGR.INST_STAT.forced, .fld MGR.INST_STAT.state, .fld RSCHED.PIN_COUNT.pinned, .inst, .mem, .pot, .rings, .sent]

theorem quiesce_frame {LL rr s k scrub flr} (h_s : Frame LL rr s) (hT : Cov quiesce_T LL) :
    Frame LL rr (State.quiesce s k scrub flr) := by
  delta State.quiesce
  extract_lets s1_1 u_2 u_3 s2_4
  have h_s1_1 : Frame LL rr s1_1 := by
      unfold s1_1
      exact wr_frame (wr_frame (wr_frame h_s (pick_sub 0x20000000 rfl hT)) (pick_sub 0x8000000 rfl hT)) (pick_sub 0x10000000 rfl hT)
  have h_s2_4 : Frame LL rr s2_4 := by
      unfold s2_4
      exact Frame.upd h_s1_1 (m_inst := .inl (nth 31 rfl hT)) (m_rings := .inl (nth 34 rfl hT))
  clear_value s1_1 s2_4
  exact stopRings_frame (dropHalted_frame (dropCommits_frame (rewait_frame (count_frame h_s2_4 (pick_sub 0x20 rfl hT)) (pick_sub 0xf000033d8 rfl hT)) (pick_sub 0x443ffcc03 rfl hT)) (pick_sub 0xf440033dc rfl hT)) (pick_sub 0x400000000 rfl hT)

/-- What State.instQuiesce may change. -/
def instQuiesce_T : List Piece :=
  [.comp, .ctr .comp, .ctr .dma, .ctr .dram, .ctr .dramq, .ctr .mgr, .ctr .pot, .ctr .rsched, .err .dram, .err .mgr, .err .pot, .evSeq, .events,
   .fld (HDR.ev_raw .dram), .fld (HDR.ev_raw .mgr), .fld (HDR.ev_raw .pot), .fld COMP.COEF_USE.banks, .fld COMP.ENG_STAT.busy0,
   .fld COMP.ENG_STAT.busy1, .fld COMP.ENG_STAT.late0, .fld COMP.ENG_STAT.late1, .fld COMP.ENG_STAT.pending0, .fld COMP.ENG_STAT.pending1,
   .fld COMP.LAYER_ADDR.addr, .fld COMP.LAYER_STAT.bank, .fld COMP.LAYER_STAT.enabled, .fld COMP.LAYER_STAT.format,
   .fld COMP.LAYER_STAT.substituted, .fld DMA.STAT.state, .fld MGR.INST_STAT.busy, .fld MGR.INST_STAT.forced, .fld MGR.INST_STAT.state,
   .fld RSCHED.PIN_COUNT.pinned, .inst, .mem, .pot, .resp, .rings, .sent, .world]

theorem instQuiesce_frame {LL rr s w scrub} (h_s : Frame LL rr s) (hT : Cov instQuiesce_T LL) :
    Frame LL rr (State.instQuiesce s w scrub) := by
  delta State.instQuiesce
  exact instCmd_frame h_s (fun t1 x3 h2 => quiesce_frame h2 (pick_sub 0x6fffffbdff rfl hT)) (pick_sub 0xd00000c640 rfl hT)

/-- What State.instReset may change. -/
def instReset_T : List Piece :=
  [.events, .fld MGR.INST_STAT.state, .fld RSCHED.FENCE_BASE.addr, .fld RSCHED.FENCE_BASE.addr_hi, .fld RSCHED.FENCE_SLOTS.slots,
   .fld RSCHED.PIN_COUNT.pinned, .hdr, .rings]

theorem instReset_frame {LL rr s k} (h_s : Frame LL rr s) (hT : Cov instReset_T LL) :
    Frame LL rr (State.instReset s k) := by
  delta State.instReset
  extract_lets pins_1 lo_2 hi_3 u_4 s1_5 s2_6 s3_7
  have h_s1_5 : Frame LL rr s1_5 := by
      unfold s1_5
      exact Frame.upd h_s (m_events := .inl (nth 0 rfl hT)) (m_rings := .inl (nth 7 rfl hT))
  have h_s2_6 : Frame LL rr s2_6 := by
      unfold s2_6
      exact wr_frame (wr_frame (wr_frame (wr_frame h_s1_5 (pick_sub 0x20 rfl hT)) (pick_sub 0x4 rfl hT)) (pick_sub 0x8 rfl hT)) (pick_sub 0x10 rfl hT)
  have h_s3_7 : Frame LL rr s3_7 := by
      unfold s3_7
      exact Frame.foldl h_s2_6 (fun t8 x9 h10 => Frame.ite (wr_frame h10 (cov_loc 0x40 0x1 0x0 rfl rfl hT)) h10)
  clear_value s1_5 s2_6 s3_7
  exact wr_frame h_s3_7 (pick_sub 0x2 rfl hT)

/-- What State.freeBw may change. -/
def freeBw_T : List Piece :=
  [.fld DRAMQ.ADMIT_USED.used, .fld DRAMQ.BROKEN_INST.inst, .fld DRAMQ.RES_STAT.admit_seq, .fld DRAMQ.RES_STAT.broken, .mem]

theorem freeBw_frame {LL rr s k} (h_s : Frame LL rr s) (hT : Cov freeBw_T LL) :
    Frame LL rr (State.freeBw s k) := by
  delta State.freeBw
  extract_lets s1_1 b_2 u_3 s2_4
  have h_s1_1 : Frame LL rr s1_1 := by
      unfold s1_1
      exact wr_frame (wr_frame h_s (pick_sub 0x1 rfl hT)) (pick_sub 0x4 rfl hT)
  have h_s2_4 : Frame LL rr s2_4 := by
      unfold s2_4
      exact Frame.upd h_s1_1 (m_mem := .inl (nth 4 rfl hT))
  clear_value s1_1 s2_4
  exact Frame.ite (wr_frame (wr_frame h_s2_4 (pick_sub 0x8 rfl hT)) (pick_sub 0x2 rfl hT)) h_s1_1

/-- What State.valesFree may change. -/
def valesFree_T : List Piece :=
  [.blk .enc, .blk .gpio, .ctl, .ctr .enc, .fld GPIO.PIN_OWNER.owner, .fld WORLD.VALE_STAT.busy, .fld WORLD.VALE_STAT.parent,
   .fld WORLD.VALE_STAT.state, .world]

theorem valesFree_frame {LL rr s i} (h_s : Frame LL rr s) (hT : Cov valesFree_T LL) :
    Frame LL rr (State.valesFree s i) := by
  delta State.valesFree
  exact Frame.foldl h_s (fun t1 x2 h3 => Frame.ite (freeVale_frame h3 (pick_sub 0x1ff rfl hT)) h3)

/-- What State.instRemove may change. -/
def instRemove_T : List Piece :=
  [.blk .enc, .blk .gpio, .ctl, .ctr .enc, .ctr .gfx, .ctr .mgr, .fld DRAMQ.ADMIT_USED.used, .fld DRAMQ.BROKEN_INST.inst,
   .fld DRAMQ.RES_STAT.admit_seq, .fld DRAMQ.RES_STAT.broken, .fld GFX.CTX_STAT.local, .fld GFX.CTX_STAT.owner, .fld GFX.CTX_STAT.state,
   .fld GPIO.PIN_OWNER.owner, .fld MGR.INST_STAT.state, .fld MGR.VIEW_ENTRY.page, .fld MGR.VIEW_ENTRY.valid, .fld MGR.VIEW_ENTRY.write,
   .fld WORLD.VALE_STAT.busy, .fld WORLD.VALE_STAT.parent, .fld WORLD.VALE_STAT.state, .gfx, .inst, .mem, .world]

theorem instRemove_frame {LL rr s k} (h_s : Frame LL rr s) (hT : Cov instRemove_T LL) :
    Frame LL rr (State.instRemove s k) := by
  delta State.instRemove
  extract_lets s1_1 s2_2 s3_3 u_4 s4_5
  have h_s1_1 : Frame LL rr s1_1 := by
      unfold s1_1
      exact pinsReturn_frame (resizeCtx_frame (freeBw_frame (gfxAccount_frame h_s (pick_sub 0x200010 rfl hT)) (pick_sub 0x8003c0 rfl hT)) (pick_sub 0x1c00 rfl hT)) (pick_sub 0x200f rfl hT)
  have h_s2_2 : Frame LL rr s2_2 := by
      unfold s2_2
      exact Frame.foldl h_s1_1 (fun t6 x7 h8 => wr_frame (wr_frame (wr_frame h8 (pick_sub 0x10000 rfl hT)) (pick_sub 0x20000 rfl hT)) (pick_sub 0x8000 rfl hT))
  have h_s3_3 : Frame LL rr s3_3 := by
      unfold s3_3
      exact valesFree_frame h_s2_2 (pick_sub 0x11c200f rfl hT)
  have h_s4_5 : Frame LL rr s4_5 := by
      unfold s4_5
      exact Frame.upd h_s3_3 (m_inst := .inl (nth 22 rfl hT))
  clear_value s1_1 s2_2 s3_3 s4_5
  exact count_frame (wr_frame h_s4_5 (pick_sub 0x4000 rfl hT)) (pick_sub 0x20 rfl hT)

/-- What State.viewWrite may change. -/
def viewWrite_T : List Piece :=
  [.ctr .pot, .err .mgr, .err .pot, .fld (HDR.dirty .mgr), .fld (HDR.ev_raw .mgr), .fld (HDR.ev_raw .pot), .reg .mgr 0x164, .resp, .sent, .world]

theorem viewWrite_frame {LL rr s w v} (h_s : Frame LL rr s) (hT : Cov viewWrite_T LL) :
    Frame LL rr (State.viewWrite s w v) := by
  delta State.viewWrite
  exact onWrite_frame h_s (fun t1 h2 => Frame.ite (refuse_frame h2 (pick_sub 0x192 rfl hT)) (storeWord_frame h2 (pick_sub 0x48 rfl hT))) (idx_sub [0, 2, 1, 5, 4, 7, 8, 9] rfl hT)

/-- What State.vfMap may change. -/
def vfMap_T : List Piece :=
  [.ctr .pot, .err .mgr, .err .pot, .fld (HDR.dirty .mgr), .fld (HDR.ev_raw .mgr), .fld (HDR.ev_raw .pot), .fld MGR.INST_STAT.external,
   .reg .mgr 0x184, .resp, .sent, .world]

theorem vfMap_frame {LL rr s w v} (h_s : Frame LL rr s) (hT : Cov vfMap_T LL) :
    Frame LL rr (State.vfMap s w v) := by
  delta State.vfMap
  exact onWrite_frame h_s (fun t1 h2 => by
      extract_lets f_3 old_4 new_5 valid_6 had_7 elsewhere_8 t1_9 t2_10
      have h_t1_9 : Frame LL rr t1_9 := by
          unfold t1_9
          exact Frame.ite (wr_frame h2 (pick_sub 0x40 rfl hT)) h2
      have h_t2_10 : Frame LL rr t2_10 := by
          unfold t2_10
          exact Frame.ite (wr_frame h_t1_9 (pick_sub 0x40 rfl hT)) h_t1_9
      clear_value t1_9 t2_10
      exact Frame.ite (refuse_frame h2 (pick_sub 0x312 rfl hT)) (Frame.ite (refuse_frame h2 (pick_sub 0x312 rfl hT)) (storeWord_frame h_t2_10 (pick_sub 0x88 rfl hT)))) (idx_sub [0, 2, 1, 5, 4, 8, 9, 10] rfl hT)

/-- What State.mgrRearm may change. -/
def mgrRearm_T : List Piece :=
  [.ctr .pot, .err .mgr, .err .pot, .fld (HDR.ev_raw .mgr), .fld (HDR.ev_raw .pot), .resp, .sent, .world]

theorem mgrRearm_frame {LL rr s w v} (h_s : Frame LL rr s) (hT : Cov mgrRearm_T LL) :
    Frame LL rr (State.mgrRearm s w v) := by
  delta State.mgrRearm
  exact onWrite_frame h_s (fun t1 h2 => Frame.ite (notify_frame h2 (pick_sub 0x40 rfl hT)) h2) (idx_sub [0, 2, 1, 4, 3, 5, 6, 7] rfl hT)

/-- What State.swdtWrite may change. -/
def swdtWrite_T (off : Nat) : List Piece :=
  [.ctr .pot, .err .pot, .err .swdt, .fld (HDR.dirty .swdt), .fld (HDR.ev_raw .pot), .fld (HDR.ev_raw .swdt), .fld SWDT.REMAIN.ms, .reg .swdt off,
   .resp, .sent, .world]

theorem swdtWrite_frame {LL rr s w off v} (h_s : Frame LL rr s) (hT : Cov (swdtWrite_T off) LL) :
    Frame LL rr (State.swdtWrite s w off v) := by
  delta State.swdtWrite
  exact onWrite_frame h_s (fun t1 h2 => Frame.ite (refuse_frame h2 (pick_sub 0x324 rfl hT)) (by
      extract_lets u_3
      have h_u_3 : Frame LL rr u_3 := by
          unfold u_3
          exact storeWord_frame h2 (pick_sub 0x88 rfl hT)
      clear_value u_3
      exact Frame.ite (wr_frame h_u_3 (pick_sub 0x40 rfl hT)) h_u_3)) (pick_sub 0x737 rfl hT)

/-- What State.swdtKick may change. -/
def swdtKick_T : List Piece :=
  [.ctr .pot, .ctr .swdt, .err .pot, .err .swdt, .fld (HDR.ev_raw .pot), .fld (HDR.ev_raw .swdt), .fld SWDT.REMAIN.ms, .resp, .sent, .world]

theorem swdtKick_frame {LL rr s w v} (h_s : Frame LL rr s) (hT : Cov swdtKick_T LL) :
    Frame LL rr (State.swdtKick s w v) := by
  delta State.swdtKick
  exact onWrite_frame h_s (fun t1 h2 => by
      extract_lets set_3 u_4 due_5
      have h_set_3 : ∀ y0 y1, Frame LL rr y0 → Frame LL rr (set_3 y0 y1) := by
          intro t6 x8 h7
          unfold set_3
          exact Frame.upd h7 (m_world := .inl (nth 9 rfl hT))
      have h_u_4 : Frame LL rr u_4 := by
          unfold u_4
          exact h_set_3 _ _ h2
      clear_value set_3 u_4
      exact Frame.ite (h_set_3 _ _ h2) (Frame.ite (Frame.ite (count_frame (Frame.ite h_u_4 (wr_frame h_u_4 (pick_sub 0x40 rfl hT))) (pick_sub 0x2 rfl hT)) h_u_4) (count_frame (refuse_frame (h_set_3 _ _ h2) (pick_sub 0x1a8 rfl hT)) (pick_sub 0x2 rfl hT)))) (pick_sub 0x3bd rfl hT)

/-- What State.forceMark may change. -/
def forceMark_T : List Piece :=
  [.inst]

theorem forceMark_frame {LL rr s r} (h_s : Frame LL rr s) (hT : Cov forceMark_T LL) :
    Frame LL rr (State.forceMark s r) := by
  delta State.forceMark
  extract_lets key_1 u_2
  exact Frame.upd h_s (m_inst := .inl (nth 0 rfl hT))

/-- What State.dropRecords may change. -/
def dropRecords_T : List Piece :=
  [.inst, .rings]

theorem dropRecords_frame {LL rr s k} (h_s : Frame LL rr s) (hT : Cov dropRecords_T LL) :
    Frame LL rr (State.dropRecords s k) := by
  delta State.dropRecords
  extract_lets stuck_1 s1_2 u_3
  have h_s1_2 : Frame LL rr s1_2 := by
      unfold s1_2
      exact Frame.foldl h_s (fun t4 x5 h6 => forceMark_frame h6 (pick_sub 0x1 rfl hT))
  clear_value s1_2
  exact Frame.upd h_s1_2 (m_rings := .inl (nth 1 rfl hT))

/-- What State.feedForce may change. -/
def feedForce_T : List Piece :=
  [.fld RSCHED.PIN_COUNT.pinned, .rings]

theorem feedForce_frame {LL rr s k code f} (h_s : Frame LL rr s) (hT : Cov feedForce_T LL) :
    FrameP LL rr (State.feedForce s k code f) := by
  delta State.feedForce
  extract_lets mine_1
  exact FrameP.ite (FrameP.mk h_s) (FrameP.mk (Frame.foldl h_s (fun t2 x3 h4 => endJob_frame h4 (pick_sub 0x3 rfl hT))))

/-- What State.forceJobs may change. -/
def forceJobs_T : List Piece :=
  [.audio, .caps, .comp, .ctr .dma, .ctr .dram, .ctr .dramq, .ctr .gfx, .ctr .pot, .ctr .rsched, .dram, .err .dram, .err .pot,
   .fld (HDR.ev_raw .dram), .fld (HDR.ev_raw .gfx), .fld (HDR.ev_raw .pot), .fld COMP.COEF_USE.banks, .fld COMP.ENG_STAT.busy0,
   .fld COMP.ENG_STAT.busy1, .fld COMP.ENG_STAT.late0, .fld COMP.ENG_STAT.late1, .fld COMP.ENG_STAT.pending0, .fld COMP.ENG_STAT.pending1,
   .fld COMP.LAYER_ADDR.addr, .fld COMP.LAYER_STAT.bank, .fld COMP.LAYER_STAT.enabled, .fld COMP.LAYER_STAT.format,
   .fld COMP.LAYER_STAT.substituted, .fld DMA.STAT.state, .fld GFX.CTX_FAULT.cause, .fld GFX.CTX_FAULT.code, .fld GFX.CTX_FAULT_ADDR.addr,
   .fld GFX.CTX_STAT.state, .fld GFX.ENG_STAT.clusters0, .fld GFX.ENG_STAT.clusters1, .fld GFX.ENG_STAT.comp_active, .fld GFX.ENG_STAT.fe0,
   .fld GFX.ENG_STAT.fe1, .fld RSCHED.PIN_COUNT.pinned, .free, .gfx, .mem, .pot, .rings, .sent, .surf]

theorem forceJobs_frame {LL rr s k code} (h_s : Frame LL rr s) (hT : Cov forceJobs_T LL) :
    Frame LL rr (State.forceJobs s k code) := by
  delta State.forceJobs
  extract_lets s1_1 s2_2 s3_3 s4_4 s5_5 s6_6
  have h_s1_1 : Frame LL rr s1_1 := by
      unfold s1_1
      exact gfxForce_frame h_s (pick_sub 0xffff0007ef0 rfl hT)
  have h_s2_2 : Frame LL rr s2_2 := by
      unfold s2_2
      exact Frame.foldl h_s1_1 (fun t7 x8 h9 => by
          extract_lets mine_10 t1_11
          have h_t1_11 : Frame LL rr t1_11 := by
              unfold t1_11
              exact setLatched_frame (setPend_frame h9 (pick_sub 0x4 rfl hT)) (pick_sub 0x4 rfl hT)
          clear_value t1_11
          exact Frame.foldl h_t1_11 (fun t12 x13 h14 => packetEnd_frame h14 (pick_sub 0x40000000004 rfl hT)))
  have h_s3_3 : Frame LL rr s3_3 := by
      unfold s3_3
      exact Frame.foldl h_s2_2 (fun t15 x16 h17 => by
          extract_lets t1_18
          have h_t1_18 : Frame LL rr t1_18 := by
              unfold t1_18
              split
              · exact Frame.ite (endJob_frame (setJob_frame h17 (pick_sub 0x40000000000 rfl hT)) (pick_sub 0x42000000000 rfl hT)) h17
              · exact h17
          clear_value t1_18
          exact compShow_frame (drainEnds_frame h_t1_18 (pick_sub 0x42000000004 rfl hT)) (pick_sub 0x7ff8000 rfl hT))
  have h_s4_4 : Frame LL rr s4_4 := by
      unfold s4_4
      exact Frame.foldl h_s3_3 (fun t24 x25 h26 => by
          split
          · exact Frame.ite (dmaAbort_frame h26 (pick_sub 0xf2008005db8 rfl hT)) h26
          · exact h26)
  have h_s5_5 : Frame LL rr s5_5 := by
      unfold s5_5
      exact Frame.foldl h_s4_4 (fun t32 x33 h34 => by
          split
          · exact Frame.ite (capFail_frame h34 (pick_sub 0x42000000002 rfl hT)) h34
          · exact h34)
  have h_s6_6 : Frame LL rr s6_6 := by
      unfold s6_6
      exact Frame.foldl h_s5_5 (fun t40 x41 h42 => by
          split
          · rename_i a46
            have h47 := FrameP.eq (L := LL) (r := rr) a46 (feedForce_frame h42 (pick_sub 0x42000000000 rfl hT))
            exact setSurf_frame h47 (pick_sub 0x100000000000 rfl hT))
  clear_value s1_1 s2_2 s3_3 s4_4 s5_5 s6_6
  exact Frame.foldl h_s6_6 (fun t48 x49 h50 => by
      split
      · rename_i a54
        have h55 := FrameP.eq (L := LL) (r := rr) a54 (feedForce_frame h50 (pick_sub 0x42000000000 rfl hT))
        exact Frame.upd h55 (m_audio := .inl (nth 0 rfl hT)))

/-- What State.substLayers may change. -/
def substLayers_T : List Piece :=
  [.comp]

theorem substLayers_frame {LL rr s k} (h_s : Frame LL rr s) (hT : Cov substLayers_T LL) :
    Frame LL rr (State.substLayers s k) := by
  delta State.substLayers
  exact Frame.foldl h_s (fun t1 x2 h3 => Frame.ite (Frame.upd h3 (m_comp := .inl (nth 0 rfl hT))) h3)

/-- What execFunctionLevelReset may change. -/
def execFunctionLevelReset_T : List Piece :=
  [.comp, .ctr .comp, .ctr .dma, .ctr .dram, .ctr .dramq, .ctr .mgr, .ctr .pot, .ctr .rsched, .err .dram, .err .pot, .evSeq, .events,
   .fld (HDR.ev_raw .dram), .fld (HDR.ev_raw .mgr), .fld (HDR.ev_raw .pot), .fld COMP.COEF_USE.banks, .fld COMP.ENG_STAT.busy0,
   .fld COMP.ENG_STAT.busy1, .fld COMP.ENG_STAT.late0, .fld COMP.ENG_STAT.late1, .fld COMP.ENG_STAT.pending0, .fld COMP.ENG_STAT.pending1,
   .fld COMP.LAYER_ADDR.addr, .fld COMP.LAYER_STAT.bank, .fld COMP.LAYER_STAT.enabled, .fld COMP.LAYER_STAT.format,
   .fld COMP.LAYER_STAT.substituted, .fld DMA.STAT.state, .fld MGR.FLR_INST.inst, .fld MGR.INST_STAT.busy, .fld MGR.INST_STAT.forced,
   .fld MGR.INST_STAT.state, .fld RSCHED.FENCE_BASE.addr, .fld RSCHED.FENCE_BASE.addr_hi, .fld RSCHED.FENCE_SLOTS.slots,
   .fld RSCHED.PIN_COUNT.pinned, .hdr, .inst, .mem, .pot, .rings, .sent]

theorem execFunctionLevelReset_frame {LL rr f s} (h_s : Frame LL rr s) (hT : Cov execFunctionLevelReset_T LL) :
    FrameN LL rr (execFunctionLevelReset f s) := by
  delta execFunctionLevelReset
  extract_lets k_1 st_2 u_3 s1_4
  have h_s1_4 : Frame LL rr s1_4 := by
      unfold s1_4
      exact Frame.ite (quiesce_frame h_s (pick_sub 0x3e8efffdfff rfl hT)) (Frame.ite (Frame.ite (Frame.upd h_s (m_inst := .inl (nth 37 rfl hT))) h_s) (Frame.ite (instReset_frame h_s (pick_sub 0x11f80000800 rfl hT)) h_s))
  clear_value s1_4
  exact FrameN.next (Frame.ite h_s (raise_frame (count_frame (wr_frame h_s1_4 (pick_sub 0x10000000 rfl hT)) (pick_sub 0x20 rfl hT)) (pick_sub 0x20000002000 rfl hT)))

/-- What execInstCreate may change. -/
def execInstCreate_T : List Piece :=
  [.blk .enc, .blk .gpio, .ctl, .ctr .enc, .ctr .gfx, .ctr .mgr, .ctr .pot, .err .mgr, .err .pot, .fld (HDR.ev_raw .mgr), .fld (HDR.ev_raw .pot),
   .fld DRAMQ.ADMIT_USED.used, .fld DRAMQ.RES_STAT.admit_seq, .fld GFX.CTX_STAT.local, .fld GFX.CTX_STAT.owner, .fld GFX.CTX_STAT.state,
   .fld GPIO.PIN_OWNER.owner, .fld MGR.INST_STAT.state, .gfx, .mem, .resp, .sent, .world]

theorem execInstCreate_frame {LL rr w s} (h_s : Frame LL rr s) (hT : Cov execInstCreate_T LL) :
    FrameN LL rr (execInstCreate w s) := by
  delta execInstCreate
  exact FrameN.next (instCreate_frame h_s (pick_sub 0x7fffff rfl hT))

/-- What execInstQuiesce may change. -/
def execInstQuiesce_T : List Piece :=
  [.comp, .ctr .comp, .ctr .dma, .ctr .dram, .ctr .dramq, .ctr .mgr, .ctr .pot, .ctr .rsched, .err .dram, .err .mgr, .err .pot, .evSeq, .events,
   .fld (HDR.ev_raw .dram), .fld (HDR.ev_raw .mgr), .fld (HDR.ev_raw .pot), .fld COMP.COEF_USE.banks, .fld COMP.ENG_STAT.busy0,
   .fld COMP.ENG_STAT.busy1, .fld COMP.ENG_STAT.late0, .fld COMP.ENG_STAT.late1, .fld COMP.ENG_STAT.pending0, .fld COMP.ENG_STAT.pending1,
   .fld COMP.LAYER_ADDR.addr, .fld COMP.LAYER_STAT.bank, .fld COMP.LAYER_STAT.enabled, .fld COMP.LAYER_STAT.format,
   .fld COMP.LAYER_STAT.substituted, .fld DMA.STAT.state, .fld MGR.INST_STAT.busy, .fld MGR.INST_STAT.forced, .fld MGR.INST_STAT.state,
   .fld RSCHED.PIN_COUNT.pinned, .inst, .mem, .pot, .resp, .rings, .sent, .world]

theorem execInstQuiesce_frame {LL rr w scrub s} (h_s : Frame LL rr s) (hT : Cov execInstQuiesce_T LL) :
    FrameN LL rr (execInstQuiesce w scrub s) := by
  delta execInstQuiesce
  exact FrameN.next (instQuiesce_frame h_s (pick_sub 0xffffffffff rfl hT))

/-- What execInstRemove may change. -/
def execInstRemove_T : List Piece :=
  [.blk .enc, .blk .gpio, .ctl, .ctr .enc, .ctr .gfx, .ctr .mgr, .ctr .pot, .err .mgr, .err .pot, .fld (HDR.ev_raw .mgr), .fld (HDR.ev_raw .pot),
   .fld DRAMQ.ADMIT_USED.used, .fld DRAMQ.BROKEN_INST.inst, .fld DRAMQ.RES_STAT.admit_seq, .fld DRAMQ.RES_STAT.broken, .fld GFX.CTX_STAT.local,
   .fld GFX.CTX_STAT.owner, .fld GFX.CTX_STAT.state, .fld GPIO.PIN_OWNER.owner, .fld MGR.INST_STAT.state, .fld MGR.VIEW_ENTRY.page,
   .fld MGR.VIEW_ENTRY.valid, .fld MGR.VIEW_ENTRY.write, .fld WORLD.VALE_STAT.busy, .fld WORLD.VALE_STAT.parent, .fld WORLD.VALE_STAT.state, .gfx,
   .inst, .mem, .resp, .sent, .world]

theorem execInstRemove_frame {LL rr w s} (h_s : Frame LL rr s) (hT : Cov execInstRemove_T LL) :
    FrameN LL rr (execInstRemove w s) := by
  delta execInstRemove
  exact FrameN.next (instCmd_frame h_s (fun t1 x3 h2 => instRemove_frame h2 (pick_sub 0x9ffff83f rfl hT)) (pick_sub 0xe00007c0 rfl hT))

/-- What execInstReset may change. -/
def execInstReset_T : List Piece :=
  [.ctr .pot, .err .mgr, .err .pot, .events, .fld (HDR.ev_raw .mgr), .fld (HDR.ev_raw .pot), .fld MGR.INST_STAT.state, .fld RSCHED.FENCE_BASE.addr,
   .fld RSCHED.FENCE_BASE.addr_hi, .fld RSCHED.FENCE_SLOTS.slots, .fld RSCHED.PIN_COUNT.pinned, .hdr, .resp, .rings, .sent, .world]

theorem execInstReset_frame {LL rr w s} (h_s : Frame LL rr s) (hT : Cov execInstReset_T LL) :
    FrameN LL rr (execInstReset w s) := by
  delta execInstReset
  exact FrameN.next (instCmd_frame h_s (fun t1 x3 h2 => instReset_frame h2 (pick_sub 0x2fc8 rfl hT)) (pick_sub 0xd037 rfl hT))

/-- What execInstStart may change. -/
def execInstStart_T : List Piece :=
  [.ctr .pot, .err .mgr, .err .pot, .evSeq, .fld (HDR.ev_raw .mgr), .fld (HDR.ev_raw .pot), .fld MGR.INST_STAT.state, .resp, .rings, .sent, .world]

theorem execInstStart_frame {LL rr w s} (h_s : Frame LL rr s) (hT : Cov execInstStart_T LL) :
    FrameN LL rr (execInstStart w s) := by
  delta execInstStart
  exact FrameN.next (instStart_frame h_s (pick_sub 0x7ff rfl hT))

/-- What execMbAck may change. -/
def execMbAck_T : List Piece :=
  [.ctr .pot, .err .mgr, .err .pot, .fld (HDR.ev_raw .mgr), .fld (HDR.ev_raw .pot), .inst, .resp, .sent]

theorem execMbAck_frame {LL rr w v s} (h_s : Frame LL rr s) (hT : Cov execMbAck_T LL) :
    FrameN LL rr (execMbAck w v s) := by
  delta execMbAck
  exact FrameN.next (mbAck_frame h_s (pick_sub 0xff rfl hT))

/-- What execMbRearm may change. -/
def execMbRearm_T : List Piece :=
  [.ctr .pot, .err .mgr, .err .pot, .fld (HDR.ev_raw .mgr), .fld (HDR.ev_raw .pot), .resp, .sent]

theorem execMbRearm_frame {LL rr w v s} (h_s : Frame LL rr s) (hT : Cov execMbRearm_T LL) :
    FrameN LL rr (execMbRearm w v s) := by
  delta execMbRearm
  exact FrameN.next (mbRearm_frame h_s (pick_sub 0x7f rfl hT))

/-- What execMbSend may change. -/
def execMbSend_T : List Piece :=
  [.ctr .pot, .err .mgr, .err .pot, .fld (HDR.ev_raw .mgr), .fld (HDR.ev_raw .pot), .inst, .resp, .sent]

theorem execMbSend_frame {LL rr w v s} (h_s : Frame LL rr s) (hT : Cov execMbSend_T LL) :
    FrameN LL rr (execMbSend w v s) := by
  delta execMbSend
  exact FrameN.next (mbSend_frame h_s (pick_sub 0xff rfl hT))

/-- What execMbxDataWrite may change. -/
def execMbxDataWrite_T : List Piece :=
  [.ctr .pot, .err .mgr, .err .pot, .fld (HDR.ev_raw .mgr), .fld (HDR.ev_raw .pot), .inst, .resp, .sent]

theorem execMbxDataWrite_frame {LL rr w word v s} (h_s : Frame LL rr s) (hT : Cov execMbxDataWrite_T LL) :
    FrameN LL rr (execMbxDataWrite w word v s) := by
  delta execMbxDataWrite
  exact FrameN.next (mbWrite_frame h_s (pick_sub 0xff rfl hT))

/-- What execMgrRearm may change. -/
def execMgrRearm_T : List Piece :=
  [.ctr .pot, .err .mgr, .err .pot, .fld (HDR.ev_raw .mgr), .fld (HDR.ev_raw .pot), .resp, .sent, .world]

theorem execMgrRearm_frame {LL rr w v s} (h_s : Frame LL rr s) (hT : Cov execMgrRearm_T LL) :
    FrameN LL rr (execMgrRearm w v s) := by
  delta execMgrRearm
  exact FrameN.next (mgrRearm_frame h_s (pick_sub 0xff rfl hT))

/-- What execOwnerSweep may change. -/
def execOwnerSweep_T : List Piece :=
  [.ctr .pot, .dram, .fld POT.CMD_OP.busy, .fld POT.CMD_STAT.epoch, .fld POT.CMD_STAT.scrub_left, .inst, .pot]

theorem execOwnerSweep_frame {LL rr o s} (h_s : Frame LL rr s) (hT : Cov execOwnerSweep_T LL) :
    FrameN LL rr (execOwnerSweep o s) := by
  delta execOwnerSweep
  extract_lets k_1 u_2
  exact FrameN.next (Frame.ite h_s (Frame.ite (Frame.ite (startSweep_frame (Frame.upd h_s (m_inst := .inl (nth 5 rfl hT))) (pick_sub 0x5f rfl hT)) h_s) (Frame.ite (startSweep_frame h_s (pick_sub 0x5f rfl hT)) h_s)))

/-- What execQuiesceDone may change. -/
def execQuiesceDone_T : List Piece :=
  [.blk .enc, .blk .gpio, .ctl, .ctr .enc, .ctr .pot, .dram, .events, .fld (HDR.ev_raw .mgr), .fld GPIO.PIN_OWNER.owner, .fld MGR.INST_STAT.busy,
   .fld MGR.INST_STAT.state, .fld POT.CMD_OP.busy, .fld POT.CMD_STAT.scrub_left, .fld RSCHED.FENCE_BASE.addr, .fld RSCHED.FENCE_BASE.addr_hi,
   .fld RSCHED.FENCE_SLOTS.slots, .fld RSCHED.PIN_COUNT.pinned, .fld WORLD.VALE_STAT.busy, .fld WORLD.VALE_STAT.parent, .fld WORLD.VALE_STAT.state,
   .hdr, .inst, .mem, .pot, .rings, .sent, .world]

theorem execQuiesceDone_frame {LL rr k s} (h_s : Frame LL rr s) (hT : Cov execQuiesceDone_T LL) :
    FrameN LL rr (execQuiesceDone k s) := by
  delta execQuiesceDone
  extract_lets i_1 s1_2 flr_3 u_4 s2_5 s3_6
  have h_s1_2 : Frame LL rr s1_2 := by
      unfold s1_2
      exact valesFree_frame (endEpoch_frame h_s (pick_sub 0xc01830 rfl hT)) (pick_sub 0x40e010f rfl hT)
  have h_s2_5 : Frame LL rr s2_5 := by
      unfold s2_5
      exact Frame.upd h_s1_2 (m_inst := .inl (nth 21 rfl hT))
  have h_s3_6 : Frame LL rr s3_6 := by
      unfold s3_6
      exact raise_frame (wr_frame (wr_frame h_s2_5 (pick_sub 0x400 rfl hT)) (pick_sub 0x200 rfl hT)) (pick_sub 0x2000080 rfl hT)
  clear_value s1_2 s2_5 s3_6
  exact FrameN.next (Frame.ite (Frame.ite (instReset_frame h_s3_6 (pick_sub 0x111e440 rfl hT)) h_s3_6) h_s)

/-- What execQuiesceDrainDone may change. -/
def execQuiesceDrainDone_T : List Piece :=
  [.comp, .inst, .rings]

theorem execQuiesceDrainDone_frame {LL rr k s} (h_s : Frame LL rr s) (hT : Cov execQuiesceDrainDone_T LL) :
    FrameN LL rr (execQuiesceDrainDone k s) := by
  delta execQuiesceDrainDone
  extract_lets st_1 t_2 u_3
  have h_t_2 : Frame LL rr t_2 := by
      unfold t_2
      exact Frame.ite (dropRecords_frame h_s (pick_sub 0x6 rfl hT)) h_s
  clear_value t_2
  exact FrameN.next (Frame.ite (substLayers_frame (Frame.upd h_t_2 (m_inst := .inl (nth 1 rfl hT))) (pick_sub 0x1 rfl hT)) h_t_2)

/-- What execQuiesceLimitExpiry may change. -/
def execQuiesceLimitExpiry_T : List Piece :=
  [.audio, .caps, .comp, .ctr .dma, .ctr .dram, .ctr .dramq, .ctr .gfx, .ctr .mgr, .ctr .pot, .ctr .rsched, .dram, .err .dram, .err .mgr,
   .err .pot, .fld (HDR.ev_raw .dram), .fld (HDR.ev_raw .gfx), .fld (HDR.ev_raw .mgr), .fld (HDR.ev_raw .pot), .fld COMP.COEF_USE.banks,
   .fld COMP.ENG_STAT.busy0, .fld COMP.ENG_STAT.busy1, .fld COMP.ENG_STAT.late0, .fld COMP.ENG_STAT.late1, .fld COMP.ENG_STAT.pending0,
   .fld COMP.ENG_STAT.pending1, .fld COMP.LAYER_ADDR.addr, .fld COMP.LAYER_STAT.bank, .fld COMP.LAYER_STAT.enabled, .fld COMP.LAYER_STAT.format,
   .fld COMP.LAYER_STAT.substituted, .fld DMA.STAT.state, .fld GFX.CTX_FAULT.cause, .fld GFX.CTX_FAULT.code, .fld GFX.CTX_FAULT_ADDR.addr,
   .fld GFX.CTX_STAT.state, .fld GFX.ENG_STAT.clusters0, .fld GFX.ENG_STAT.clusters1, .fld GFX.ENG_STAT.comp_active, .fld GFX.ENG_STAT.fe0,
   .fld GFX.ENG_STAT.fe1, .fld MGR.INST_STAT.forced, .fld RSCHED.PIN_COUNT.pinned, .free, .gfx, .inst, .mem, .pot, .rings, .sent, .surf]

theorem execQuiesceLimitExpiry_frame {LL rr k s} (h_s : Frame LL rr s) (hT : Cov execQuiesceLimitExpiry_T LL) :
    FrameN LL rr (execQuiesceLimitExpiry k s) := by
  delta execQuiesceLimitExpiry
  extract_lets i_1 s1_2 s2_3 s3_4 s4_5 u_6
  have h_s1_2 : Frame LL rr s1_2 := by
      unfold s1_2
      exact Frame.foldl h_s (fun t7 x8 h9 => forceMark_frame h9 (pick_sub 0x100000000000 rfl hT))
  have h_s2_3 : Frame LL rr s2_3 := by
      unfold s2_3
      exact dropRecords_frame (forceJobs_frame h_s1_2 (pick_sub 0x3eefffffeef7f rfl hT)) (pick_sub 0x900000000000 rfl hT)
  have h_s3_4 : Frame LL rr s3_4 := by
      unfold s3_4
      exact Frame.ite (recErr_frame h_s2_3 (pick_sub 0x1000000011000 rfl hT)) h_s2_3
  have h_s4_5 : Frame LL rr s4_5 := by
      unfold s4_5
      exact count_frame (wr_frame h_s3_4 (pick_sub 0x10000000000 rfl hT)) (pick_sub 0x80 rfl hT)
  clear_value s1_2 s2_3 s3_4 s4_5
  exact FrameN.next (Frame.ite h_s (Frame.upd h_s4_5 (m_inst := .inl (nth 44 rfl hT))))

/-- What execSecureWdtExpiry may change. -/
def execSecureWdtExpiry_T : List Piece :=
  [.allCtr, .allRegs, .audio, .basin, .caps, .comp, .ctl, .dram, .evSeq, .events, .gfx, .hapt, .heads, .inst, .latch, .links, .mem, .parts, .pins,
   .pot, .pwr, .rings, .safe, .sent, .snap, .stage, .staged, .surf, .touch, .world]

theorem execSecureWdtExpiry_frame {LL rr s} (h_s : Frame LL rr s) (hT : Cov execSecureWdtExpiry_T LL) :
    FrameN LL rr (execSecureWdtExpiry s) := by
  delta execSecureWdtExpiry
  exact FrameN.next (Frame.ite (mainReset_frame h_s (pick_sub 0x3fffffff rfl hT)) h_s)

/-- What execSwdtKick may change. -/
def execSwdtKick_T : List Piece :=
  [.ctr .pot, .ctr .swdt, .err .pot, .err .swdt, .fld (HDR.ev_raw .pot), .fld (HDR.ev_raw .swdt), .fld SWDT.REMAIN.ms, .resp, .sent, .world]

theorem execSwdtKick_frame {LL rr w v s} (h_s : Frame LL rr s) (hT : Cov execSwdtKick_T LL) :
    FrameN LL rr (execSwdtKick w v s) := by
  delta execSwdtKick
  exact FrameN.next (swdtKick_frame h_s (pick_sub 0x3ff rfl hT))

/-- What execSwdtTick may change. -/
def execSwdtTick_T : List Piece :=
  [.fld (HDR.ev_raw .swdt), .fld SWDT.REMAIN.ms, .sent]

theorem execSwdtTick_frame {LL rr s} (h_s : Frame LL rr s) (hT : Cov execSwdtTick_T LL) :
    FrameN LL rr (execSwdtTick s) := by
  delta execSwdtTick
  exact FrameN.next (Frame.ite h_s (by
      extract_lets n_1 s1_2
      have h_s1_2 : Frame LL rr s1_2 := by
          unfold s1_2
          exact wr_frame h_s (pick_sub 0x2 rfl hT)
      clear_value s1_2
      exact Frame.ite (raise_frame h_s1_2 (pick_sub 0x5 rfl hT)) h_s1_2))

/-- What execVfMapWrite may change. -/
def execVfMapWrite_T : List Piece :=
  [.ctr .pot, .err .mgr, .err .pot, .fld (HDR.dirty .mgr), .fld (HDR.ev_raw .mgr), .fld (HDR.ev_raw .pot), .fld MGR.INST_STAT.external,
   .reg .mgr 0x184, .resp, .sent, .world]

theorem execVfMapWrite_frame {LL rr w v s} (h_s : Frame LL rr s) (hT : Cov execVfMapWrite_T LL) :
    FrameN LL rr (execVfMapWrite w v s) := by
  delta execVfMapWrite
  exact FrameN.next (vfMap_frame h_s (pick_sub 0x7ff rfl hT))

/-- What execViewEntryWrite may change. -/
def execViewEntryWrite_T : List Piece :=
  [.ctr .pot, .err .mgr, .err .pot, .fld (HDR.dirty .mgr), .fld (HDR.ev_raw .mgr), .fld (HDR.ev_raw .pot), .reg .mgr 0x164, .resp, .sent, .world]

theorem execViewEntryWrite_frame {LL rr w v s} (h_s : Frame LL rr s) (hT : Cov execViewEntryWrite_T LL) :
    FrameN LL rr (execViewEntryWrite w v s) := by
  delta execViewEntryWrite
  exact FrameN.next (viewWrite_frame h_s (pick_sub 0x3ff rfl hT))

end Sys2Proof.Laws
end

