-- ==== Sys2Proof/Laws/FrameTouchWake.lean ====
section
/-! SUPPORT. What the operations and commands of Machine/TouchWake.lean may change: the parts of each, and that nothing else changes. -/

set_option Elab.async false

namespace Sys2Proof.Laws

open Machine

/-- What State.wakeScan may change. -/
def wakeScan_T : List Piece :=
  [.ctr .hapt, .ctr .pwr, .ctr .safe, .err .dram, .fld (HDR.ev_raw .dram), .fld (HDR.ev_raw .pwr), .fld (HDR.ev_raw .surf),
   .fld (HDR.ev_raw .touch), .fld DRAM.SPARE_STAT.cause, .fld DRAM.SPARE_STAT.deferred, .fld DRAM.SPARE_STAT.done_64k, .fld DRAM.SPARE_STAT.rank,
   .fld DRAM.SPARE_STAT.state, .fld HAPT.BOOST_STAT.on, .fld LINK.LINK_STAT.lanes_active, .fld LINK.LINK_STAT.rate_active,
   .fld LINK.LINK_STAT.state, .fld PWR.EXIT_STAT.failed_step, .fld PWR.EXIT_STAT.from_state, .fld PWR.EXIT_STAT.osc_attempts,
   .fld PWR.RAIL_STAT.cmd_seq, .fld PWR.RAIL_STAT.slewing, .fld PWR.RAIL_STAT.target_mv, .fld PWR.STATE.state, .fld PWR.STATE.step,
   .fld PWR.STATE.target, .fld PWR.WAKE_CAUSE.aborted, .fld PWR.WAKE_CAUSE.first, .fld PWR.WAKE_CAUSE.source, .fld SAFE.HEAD_SRC.bl_off,
   .fld SAFE.HEAD_SRC.blank, .fld SAFE.HEAD_SRC.fallback, .fld SAFE.ISL_STAT.fw_running, .fld SURF.HV_STAT.on, .fld SURF.HV_STAT.why,
   .fld TOUCH.TILE_STAT.state, .fld TOUCH.WAKE_STAT.gesture, .fld TOUCH.WAKE_STAT.woke, .hapt, .links, .mem, .pins, .pwr, .safe, .sent, .surf,
   .touch, .world]

theorem wakeScan_frame {LL rr s p bal} (h_s : Frame LL rr s) (hT : Cov wakeScan_T LL) :
    Frame LL rr (State.wakeScan s p bal) := by
  delta State.wakeScan
  extract_lets was_1 t_2 n_3 raw_4 thr_5 d_6 base_7 touched_8 wgt_9 den_10 cent_11 sum_12 g_13 t0_14
  exact Frame.ite h_s (Frame.ite (setTouch_frame h_s (pick_sub 0x400000000000 rfl hT)) (by
      split
      · extract_lets s1_19 u_20
        have h_s1_19 : Frame LL rr s1_19 := by
            unfold s1_19
            exact setTouch_frame h_s (pick_sub 0x400000000000 rfl hT)
        clear_value s1_19
        exact Frame.ite (wake_frame (Frame.upd h_s1_19 (m_pwr := .inl (nth 42 rfl hT))) (pick_sub 0xffffffffffff rfl hT)) h_s1_19))

/-- What execWakeScan may change. -/
def execWakeScan_T : List Piece :=
  [.ctr .hapt, .ctr .pwr, .ctr .safe, .err .dram, .fld (HDR.ev_raw .dram), .fld (HDR.ev_raw .pwr), .fld (HDR.ev_raw .surf),
   .fld (HDR.ev_raw .touch), .fld DRAM.SPARE_STAT.cause, .fld DRAM.SPARE_STAT.deferred, .fld DRAM.SPARE_STAT.done_64k, .fld DRAM.SPARE_STAT.rank,
   .fld DRAM.SPARE_STAT.state, .fld HAPT.BOOST_STAT.on, .fld LINK.LINK_STAT.lanes_active, .fld LINK.LINK_STAT.rate_active,
   .fld LINK.LINK_STAT.state, .fld PWR.EXIT_STAT.failed_step, .fld PWR.EXIT_STAT.from_state, .fld PWR.EXIT_STAT.osc_attempts,
   .fld PWR.RAIL_STAT.cmd_seq, .fld PWR.RAIL_STAT.slewing, .fld PWR.RAIL_STAT.target_mv, .fld PWR.STATE.state, .fld PWR.STATE.step,
   .fld PWR.STATE.target, .fld PWR.WAKE_CAUSE.aborted, .fld PWR.WAKE_CAUSE.first, .fld PWR.WAKE_CAUSE.source, .fld SAFE.HEAD_SRC.bl_off,
   .fld SAFE.HEAD_SRC.blank, .fld SAFE.HEAD_SRC.fallback, .fld SAFE.ISL_STAT.fw_running, .fld SURF.HV_STAT.on, .fld SURF.HV_STAT.why,
   .fld TOUCH.TILE_STAT.state, .fld TOUCH.WAKE_STAT.gesture, .fld TOUCH.WAKE_STAT.woke, .hapt, .links, .mem, .pins, .pwr, .safe, .sent, .surf,
   .touch, .world]

theorem execWakeScan_frame {LL rr p bal s} (h_s : Frame LL rr s) (hT : Cov execWakeScan_T LL) :
    FrameN LL rr (execWakeScan p bal s) := by
  delta execWakeScan
  exact FrameN.next (wakeScan_frame h_s (pick_sub 0xffffffffffff rfl hT))

end Sys2Proof.Laws
end

