-- ==== Sys2Proof/Laws/FramePower.lean ====
section
/-! SUPPORT. What the operations and commands of Machine/Power.lean may change: the parts of each, and that nothing else changes. -/

set_option Elab.async false

namespace Sys2Proof.Laws

open Machine

/-- What State.stateReq may change. -/
def stateReq_T : List Piece :=
  [.ctr .hapt, .ctr .pot, .ctr .pwr, .ctr .safe, .err .dram, .err .pot, .err .pwr, .fld (HDR.ev_raw .dram), .fld (HDR.ev_raw .pot),
   .fld (HDR.ev_raw .pwr), .fld (HDR.ev_raw .surf), .fld (HDR.ev_raw .touch), .fld DRAM.SPARE_STAT.cause, .fld DRAM.SPARE_STAT.deferred,
   .fld DRAM.SPARE_STAT.done_64k, .fld DRAM.SPARE_STAT.rank, .fld DRAM.SPARE_STAT.state, .fld HAPT.BOOST_STAT.on, .fld LINK.LINK_STAT.lanes_active,
   .fld LINK.LINK_STAT.rate_active, .fld LINK.LINK_STAT.state, .fld PWR.EXIT_STAT.failed_step, .fld PWR.EXIT_STAT.from_state,
   .fld PWR.EXIT_STAT.osc_attempts, .fld PWR.RAIL_STAT.cmd_seq, .fld PWR.RAIL_STAT.slewing, .fld PWR.RAIL_STAT.target_mv, .fld PWR.STATE.state,
   .fld PWR.STATE.step, .fld PWR.STATE.target, .fld PWR.WAKE_CAUSE.aborted, .fld PWR.WAKE_CAUSE.first, .fld PWR.WAKE_CAUSE.source,
   .fld SAFE.HEAD_SRC.bl_off, .fld SAFE.HEAD_SRC.blank, .fld SAFE.HEAD_SRC.fallback, .fld SAFE.ISL_STAT.fw_running, .fld SURF.HV_STAT.on,
   .fld SURF.HV_STAT.why, .fld TOUCH.TILE_STAT.state, .fld TOUCH.WAKE_STAT.gesture, .fld TOUCH.WAKE_STAT.woke, .hapt, .links, .mem, .pins, .pwr,
   .resp, .safe, .sent, .surf, .touch, .world]

theorem stateReq_frame {LL rr s w v} (h_s : Frame LL rr s) (hT : Cov stateReq_T LL) :
    Frame LL rr (State.stateReq s w v) := by
  delta State.stateReq
  exact onWrite_frame h_s (fun t1 h2 => by
      extract_lets req_3 u_4 t1_5
      have h_t1_5 : Frame LL rr t1_5 := by
          unfold t1_5
          exact hvSync_frame (pwrStep_frame (Frame.upd h2 (m_pwr := .inl (nth 46 rfl hT))) (pick_sub 0x400038000000 rfl hT)) (pick_sub 0x6046000020401 rfl hT)
      clear_value t1_5
      split
      · exact refuse_frame (raise_frame h2 (pick_sub 0x2000000000200 rfl hT)) (pick_sub 0x2800000000240 rfl hT)
      · exact Frame.ite (wake_frame h_t1_5 (pick_sub 0x1f7ffffffffe9d rfl hT)) h_t1_5) (pick_sub 0x12800000000362 rfl hT)

/-- What State.clocksStart may change. -/
def clocksStart_T : List Piece :=
  [.fld CLK.PLL_STAT.enabled, .fld CLK.PLL_STAT.lock, .fld CLK.PLL_STAT.mhz, .pwr]

theorem clocksStart_frame {LL rr s} (h_s : Frame LL rr s) (hT : Cov clocksStart_T LL) :
    Frame LL rr (State.clocksStart s) := by
  delta State.clocksStart
  extract_lets mhz_1 s1_2 s2_3 u_4
  have h_s1_2 : Frame LL rr s1_2 := by
      unfold s1_2
      exact Frame.foldl h_s (fun t5 x6 h7 => Frame.ite h7 (wr_frame (wr_frame (wr_frame h7 (pick_sub 0x2 rfl hT)) (pick_sub 0x1 rfl hT)) (pick_sub 0x4 rfl hT)))
  have h_s2_3 : Frame LL rr s2_3 := by
      unfold s2_3
      exact Frame.foldl h_s1_2 (fun t8 x9 h10 => Frame.ite (wr_frame h10 (pick_sub 0x1 rfl hT)) h10)
  clear_value s1_2 s2_3
  exact Frame.upd h_s2_3 (m_pwr := .inl (nth 3 rfl hT))

/-- What State.clocksStop may change. -/
def clocksStop_T : List Piece :=
  [.fld CLK.PLL_STAT.enabled, .fld CLK.PLL_STAT.lock, .fld CLK.PLL_STAT.mhz, .fld HEAD.HEAD_STAT.line, .fld HEAD.HEAD_STAT.pll_lock,
   .fld HEAD.HEAD_STAT.state, .fld HEAD.HEAD_STAT.vblank, .heads, .pins, .pwr]

theorem clocksStop_frame {LL rr s} (h_s : Frame LL rr s) (hT : Cov clocksStop_T LL) :
    Frame LL rr (State.clocksStop s) := by
  delta State.clocksStop
  extract_lets s1_1 s2_2 s3_3 u_4 u_5
  have h_s1_1 : Frame LL rr s1_1 := by
      unfold s1_1
      exact Frame.foldl h_s (fun t6 x7 h8 => Frame.ite (setHead_frame (wr_frame (wr_frame (wr_frame h8 (pick_sub 0x20 rfl hT)) (pick_sub 0x40 rfl hT)) (pick_sub 0x8 rfl hT)) (pick_sub 0x80 rfl hT)) h8)
  have h_s2_2 : Frame LL rr s2_2 := by
      unfold s2_2
      exact Frame.foldl h_s1_1 (fun t9 x10 h11 => wr_frame h11 (pick_sub 0x10 rfl hT))
  have h_s3_3 : Frame LL rr s3_3 := by
      unfold s3_3
      exact Frame.foldl h_s2_2 (fun t12 x13 h14 => wr_frame (wr_frame (wr_frame h14 (pick_sub 0x2 rfl hT)) (pick_sub 0x1 rfl hT)) (pick_sub 0x4 rfl hT))
  clear_value s1_1 s2_2 s3_3
  exact ampPins_frame (Frame.upd h_s3_3 (m_pins := .inl (nth 8 rfl hT)) (m_pwr := .inl (nth 9 rfl hT))) (pick_sub 0x100 rfl hT)

/-- What State.toStep may change. -/
def toStep_T : List Piece :=
  [.fld PWR.STATE.step, .pwr]

theorem toStep_frame {LL rr s n} (h_s : Frame LL rr s) (hT : Cov toStep_T LL) :
    Frame LL rr (State.toStep s n) := by
  delta State.toStep
  exact wr_frame (Frame.upd h_s (m_pwr := .inl (nth 1 rfl hT))) (pick_sub 0x1 rfl hT)

/-- What State.coldStart may change. -/
def coldStart_T : List Piece :=
  [.allCtr, .allRegs, .audio, .basin, .caps, .comp, .ctl, .dram, .evSeq, .events, .gfx, .hapt, .heads, .inst, .latch, .links, .mem, .parts, .pins,
   .pot, .pwr, .rings, .sent, .snap, .stage, .staged, .surf, .touch, .world]

theorem coldStart_frame {LL rr s} (h_s : Frame LL rr s) (hT : Cov coldStart_T LL) :
    Frame LL rr (State.coldStart s) := by
  delta State.coldStart
  extract_lets deep_1 s1_2 s2_3 u_4
  have h_s1_2 : Frame LL rr s1_2 := by
      unfold s1_2
      exact raise_frame (wr_frame (toStep_frame (clearMain_frame h_s (pick_sub 0x1fbf7fff rfl hT)) (cov_loc 0x2 0x1 0x100000 rfl rfl hT)) (cov_loc 0x2 0x1 0x0 rfl rfl hT)) (cov_loc 0x2 0x1 0x400000 rfl rfl hT)
  have h_s2_3 : Frame LL rr s2_3 := by
      unfold s2_3
      exact Frame.ite (displayReset_frame h_s1_2 (pick_sub 0x3d4d003 rfl hT)) (ungroup_frame h_s1_2 (cov_loc 0x2 0x1 0x0 rfl rfl hT))
  clear_value s1_2 s2_3
  exact Frame.upd h_s2_3 (m_pwr := .inl (nth 20 rfl hT))

/-- What State.entryBlank may change. -/
def entryBlank_T : List Piece :=
  [.ctr .safe, .fld LINK.LINK_STAT.lanes_active, .fld LINK.LINK_STAT.rate_active, .fld LINK.LINK_STAT.state, .fld PWR.STATE.step,
   .fld SAFE.HEAD_SRC.blank, .links, .pins, .pwr]

theorem entryBlank_frame {LL rr s} (h_s : Frame LL rr s) (hT : Cov entryBlank_T LL) :
    Frame LL rr (State.entryBlank s) := by
  delta State.entryBlank
  extract_lets m_1 s1_2 u_3
  have h_s1_2 : Frame LL rr s1_2 := by
      unfold s1_2
      exact wr_frame (toStep_frame h_s (pick_sub 0x110 rfl hT)) (pick_sub 0x20 rfl hT)
  clear_value s1_2
  exact headSrcNow_frame (Frame.upd h_s1_2 (m_pwr := .inl (nth 8 rfl hT))) (pick_sub 0xcf rfl hT)

/-- What State.lowPower may change. -/
def lowPower_T : List Piece :=
  [.alarm, .allCtr, .allRegs, .audio, .basin, .caps, .comp, .ctl, .dram, .evSeq, .events, .faults, .flash, .free, .gfx, .hapt, .heads, .inst,
   .latch, .links, .mem, .parts, .pins, .pot, .pwr, .rings, .safe, .sent, .snap, .stage, .staged, .surf, .touch, .world]

theorem lowPower_frame {LL rr s t} (h_s : Frame LL rr s) (hT : Cov lowPower_T LL) :
    Frame LL rr (State.lowPower s t) := by
  delta State.lowPower
  extract_lets s1_1 s2_2 l_3 s3_4 u_5
  have h_s1_1 : Frame LL rr s1_1 := by
      unfold s1_1
      exact clocksStop_frame (count_frame (pwrStep_frame h_s (cov_loc 0x4 0x7 0x1000000 rfl rfl hT)) (cov_loc 0x2 0x1 0x0 rfl rfl hT)) (cov_loc 0x4 0x7f 0x1410000 rfl rfl hT)
  have h_s2_2 : Frame LL rr s2_2 := by
      unfold s2_2
      exact railsReached_frame (railsTo_frame h_s1_1 (cov_loc 0x6 0xf 0x1000000 rfl rfl hT)) (cov_loc 0x4 0x1f 0x8000000 rfl rfl hT)
  have h_s3_4 : Frame LL rr s3_4 := by
      unfold s3_4
      exact safetyReset_frame (displayReset_frame (clearMain_frame h_s2_2 (pick_sub 0x3f3f7c7fe rfl hT)) (pick_sub 0x794d0006 rfl hT)) (pick_sub 0xfd64b807 rfl hT)
  clear_value s1_1 s2_2 s3_4
  exact Frame.ite (touchWatch_frame (hvSync_frame h_s2_2 (cov_loc 0x6 0x1f 0x88008000 rfl rfl hT)) (cov_loc 0x4 0x1 0x100000000 rfl rfl hT)) (Frame.ite (wr_frame (hvSync_frame (faultAssert_frame h_s2_2 (cov_loc 0x6 0xf 0xc400000 rfl rfl hT)) (cov_loc 0x6 0x1f 0x88008000 rfl rfl hT)) (cov_loc 0x4 0x1 0x0 rfl rfl hT)) (Frame.upd h_s3_4 (m_pwr := .inl (nth 24 rfl hT))))

/-- What State.putHart may change. -/
def putHart_T : List Piece :=
  [.world]

theorem putHart_frame {LL rr s h c} (h_s : Frame LL rr s) (hT : Cov putHart_T LL) :
    Frame LL rr (State.putHart s h c) := by
  delta State.putHart
  exact Frame.upd h_s (m_world := .inl (nth 0 rfl hT))

/-- What State.safeVeto may change. -/
def safeVeto_T : List Piece :=
  [.ctr .hapt, .err .dram, .err .pwr, .fld (HDR.ev_raw .dram), .fld (HDR.ev_raw .pwr), .fld (HDR.ev_raw .surf), .fld DRAM.SPARE_STAT.cause,
   .fld DRAM.SPARE_STAT.deferred, .fld DRAM.SPARE_STAT.done_64k, .fld DRAM.SPARE_STAT.rank, .fld DRAM.SPARE_STAT.state, .fld HAPT.BOOST_STAT.on,
   .fld PWR.STATE.state, .fld PWR.STATE.step, .fld PWR.STATE.target, .fld SURF.HV_STAT.on, .fld SURF.HV_STAT.why, .hapt, .mem, .pwr, .sent, .surf]

theorem safeVeto_frame {LL rr s} (h_s : Frame LL rr s) (hT : Cov safeVeto_T LL) :
    Frame LL rr (State.safeVeto s) := by
  delta State.safeVeto
  exact raise_frame (recErr_frame (hvSync_frame (startDeferred_frame (pwrStep_frame h_s (pick_sub 0x87000 rfl hT)) (pick_sub 0x1407ca rfl hT)) (pick_sub 0x338821 rfl hT)) (pick_sub 0x100014 rfl hT)) (pick_sub 0x100010 rfl hT)

/-- What State.tempSample may change. -/
def tempSample_T : List Piece :=
  [.allCtr, .allRegs, .audio, .basin, .caps, .comp, .ctl, .dram, .evSeq, .events, .gfx, .hapt, .heads, .inst, .latch, .links, .mem, .parts, .pins,
   .pot, .pwr, .rings, .safe, .sent, .snap, .stage, .staged, .surf, .touch, .world]

theorem tempSample_frame {LL rr s temps} (h_s : Frame LL rr s) (hT : Cov tempSample_T LL) :
    Frame LL rr (State.tempSample s temps) := by
  delta State.tempSample
  split
  · extract_lets old_5 thr_6 s1_7 s2_8 hot_9
    have h_s1_7 : Frame LL rr s1_7 := by
        unfold s1_7
        exact wr_frame (wr_frame h_s (cov_loc 0x2 0x1 0x0 rfl rfl hT)) (cov_loc 0x2 0x1 0x0 rfl rfl hT)
    have h_s2_8 : Frame LL rr s2_8 := by
        unfold s2_8
        exact Frame.ite (raise_frame (count_frame h_s1_7 (cov_loc 0x1 0x1 0x0 rfl rfl hT)) (cov_loc 0x2 0x1 0x800000 rfl rfl hT)) h_s1_7
    have h_hot_9 : ∀ y0, Frame LL rr y0 → Frame LL rr (hot_9 y0) := by
        intro t10 h11
        unfold hot_9
        exact hvSync_frame (Frame.upd h11 (m_pwr := .inl (nth 20 rfl hT))) (cov_loc 0x3 0x1f 0x8800800 rfl rfl hT)
    clear_value s1_7 s2_8 hot_9
    exact Frame.ite (Frame.ite h_s2_8 (h_hot_9 _ (shutDown_frame h_s2_8 (pick_sub 0x3fffffff rfl hT)))) (Frame.ite (h_hot_9 _ (railTo_frame (railTo_frame (mainReset_frame h_s2_8 (pick_sub 0x3fffffff rfl hT)) (cov_loc 0x3 0xf 0x100000 rfl rfl hT)) (cov_loc 0x3 0xf 0x100000 rfl rfl hT))) h_s2_8)

/-- What State.wearAll may change. -/
def wearAll_T : List Piece :=
  [.surf]

theorem wearAll_frame {LL rr s} (h_s : Frame LL rr s) (hT : Cov wearAll_T LL) :
    Frame LL rr (State.wearAll s) := by
  delta State.wearAll
  exact Frame.foldl h_s (fun t1 x2 h3 => Frame.ite (setSurf_frame h3 (pick_sub 0x1 rfl hT)) h3)

/-- What execDrainLimitExpiry may change. -/
def execDrainLimitExpiry_T : List Piece :=
  [.audio, .caps, .comp, .ctr .dma, .ctr .dram, .ctr .dramq, .ctr .gfx, .ctr .pot, .ctr .rsched, .ctr .safe, .dram, .err .dram, .err .pot,
   .err .pwr, .fld (HDR.ev_raw .dram), .fld (HDR.ev_raw .gfx), .fld (HDR.ev_raw .pot), .fld (HDR.ev_raw .pwr), .fld COMP.COEF_USE.banks,
   .fld COMP.ENG_STAT.busy0, .fld COMP.ENG_STAT.busy1, .fld COMP.ENG_STAT.late0, .fld COMP.ENG_STAT.late1, .fld COMP.ENG_STAT.pending0,
   .fld COMP.ENG_STAT.pending1, .fld COMP.LAYER_ADDR.addr, .fld COMP.LAYER_STAT.bank, .fld COMP.LAYER_STAT.enabled, .fld COMP.LAYER_STAT.format,
   .fld COMP.LAYER_STAT.substituted, .fld DMA.STAT.state, .fld GFX.CTX_FAULT.cause, .fld GFX.CTX_FAULT.code, .fld GFX.CTX_FAULT_ADDR.addr,
   .fld GFX.CTX_STAT.state, .fld GFX.ENG_STAT.clusters0, .fld GFX.ENG_STAT.clusters1, .fld GFX.ENG_STAT.comp_active, .fld GFX.ENG_STAT.fe0,
   .fld GFX.ENG_STAT.fe1, .fld LINK.LINK_STAT.lanes_active, .fld LINK.LINK_STAT.rate_active, .fld LINK.LINK_STAT.state, .fld PWR.STATE.step,
   .fld RSCHED.PIN_COUNT.pinned, .fld SAFE.HEAD_SRC.blank, .free, .gfx, .links, .mem, .pins, .pot, .pwr, .rings, .sent, .surf]

theorem execDrainLimitExpiry_frame {LL rr s} (h_s : Frame LL rr s) (hT : Cov execDrainLimitExpiry_T LL) :
    FrameN LL rr (execDrainLimitExpiry s) := by
  delta execDrainLimitExpiry
  exact FrameN.next (Frame.ite h_s (entryBlank_frame (recErr_frame (forceJobs_frame (dropHalted_frame h_s (pick_sub 0x6a1000400159b8 rfl hT)) (pick_sub 0xead0fffffdddff rfl hT)) (pick_sub 0x40000000022000 rfl hT)) (pick_sub 0x152f0000000200 rfl hT)))

/-- What execEntryCachesWritten may change. -/
def execEntryCachesWritten_T : List Piece :=
  [.fld PWR.STATE.step, .pwr]

theorem execEntryCachesWritten_frame {LL rr s} (h_s : Frame LL rr s) (hT : Cov execEntryCachesWritten_T LL) :
    FrameN LL rr (execEntryCachesWritten s) := by
  delta execEntryCachesWritten
  exact FrameN.next (Frame.ite (toStep_frame h_s (pick_sub 0x3 rfl hT)) h_s)

/-- What execEntryDrainDone may change. -/
def execEntryDrainDone_T : List Piece :=
  [.ctr .safe, .fld LINK.LINK_STAT.lanes_active, .fld LINK.LINK_STAT.rate_active, .fld LINK.LINK_STAT.state, .fld PWR.STATE.step,
   .fld SAFE.HEAD_SRC.blank, .links, .pins, .pwr]

theorem execEntryDrainDone_frame {LL rr s} (h_s : Frame LL rr s) (hT : Cov execEntryDrainDone_T LL) :
    FrameN LL rr (execEntryDrainDone s) := by
  delta execEntryDrainDone
  exact FrameN.next (Frame.ite (entryBlank_frame h_s (pick_sub 0x1ff rfl hT)) h_s)

/-- What execEntryHeadsBlanked may change. -/
def execEntryHeadsBlanked_T : List Piece :=
  [.fld LINK.LINK_STAT.lanes_active, .fld LINK.LINK_STAT.rate_active, .fld LINK.LINK_STAT.state, .fld PWR.STATE.step, .links, .pins, .pwr]

theorem execEntryHeadsBlanked_frame {LL rr s} (h_s : Frame LL rr s) (hT : Cov execEntryHeadsBlanked_T LL) :
    FrameN LL rr (execEntryHeadsBlanked s) := by
  delta execEntryHeadsBlanked
  exact FrameN.next (Frame.ite (by
      extract_lets s1_1 u_2
      have h_s1_1 : Frame LL rr s1_1 := by
          unfold s1_1
          exact toStep_frame h_s (pick_sub 0x48 rfl hT)
      clear_value s1_1
      exact Frame.foldl (Frame.upd h_s1_1 (m_pwr := .inl (nth 6 rfl hT))) (fun t3 x4 h5 => Frame.ite (linkDown_frame h5 (pick_sub 0x37 rfl hT)) h5)) h_s)

/-- What execExitMemoryReady may change. -/
def execExitMemoryReady_T : List Piece :=
  [.basin, .fld PWR.STATE.step, .heads, .pwr]

theorem execExitMemoryReady_frame {LL rr s} (h_s : Frame LL rr s) (hT : Cov execExitMemoryReady_T LL) :
    FrameN LL rr (execExitMemoryReady s) := by
  delta execExitMemoryReady
  exact FrameN.next (Frame.ite (by
      extract_lets s1_1
      have h_s1_1 : Frame LL rr s1_1 := by
          unfold s1_1
          exact toStep_frame h_s (pick_sub 0xa rfl hT)
      clear_value s1_1
      exact Frame.ite (Frame.upd h_s1_1 (m_basin := .inl (nth 0 rfl hT)) (m_heads := .inl (nth 2 rfl hT))) h_s1_1) h_s)

/-- What execExitOscillatorReady may change. -/
def execExitOscillatorReady_T : List Piece :=
  [.fld CLK.PLL_STAT.enabled, .fld CLK.PLL_STAT.lock, .fld CLK.PLL_STAT.mhz, .fld PWR.STATE.step, .pwr]

theorem execExitOscillatorReady_frame {LL rr s} (h_s : Frame LL rr s) (hT : Cov execExitOscillatorReady_T LL) :
    FrameN LL rr (execExitOscillatorReady s) := by
  delta execExitOscillatorReady
  exact FrameN.next (Frame.ite (clocksStart_frame (toStep_frame h_s (pick_sub 0x18 rfl hT)) (pick_sub 0x17 rfl hT)) h_s)

/-- What execExitRegulatorsReady may change. -/
def execExitRegulatorsReady_T : List Piece :=
  [.fld PWR.EXIT_STAT.osc_attempts, .fld PWR.STATE.step, .pins, .pwr]

theorem execExitRegulatorsReady_frame {LL rr s} (h_s : Frame LL rr s) (hT : Cov execExitRegulatorsReady_T LL) :
    FrameN LL rr (execExitRegulatorsReady s) := by
  delta execExitRegulatorsReady
  exact FrameN.next (Frame.ite (by
      extract_lets s1_1 u_2
      have h_s1_1 : Frame LL rr s1_1 := by
          unfold s1_1
          exact wr_frame (toStep_frame h_s (pick_sub 0xa rfl hT)) (pick_sub 0x1 rfl hT)
      clear_value s1_1
      exact ampPins_frame (Frame.upd h_s1_1 (m_pins := .inl (nth 2 rfl hT))) (pick_sub 0x4 rfl hT)) h_s)

/-- What execExitStepTimeout may change. -/
def execExitStepTimeout_T : List Piece :=
  [.alarm, .allCtr, .allRegs, .audio, .basin, .caps, .comp, .ctl, .dram, .evSeq, .events, .faults, .flash, .free, .gfx, .hapt, .heads, .inst,
   .latch, .links, .mem, .parts, .pins, .pot, .pwr, .rings, .safe, .sent, .snap, .stage, .staged, .surf, .touch, .world]

theorem execExitStepTimeout_frame {LL rr rail s} (h_s : Frame LL rr s) (hT : Cov execExitStepTimeout_T LL) :
    FrameN LL rr (execExitStepTimeout rail s) := by
  delta execExitStepTimeout
  extract_lets k_1 bad_2
  have h_bad_2 : ∀ y0, Frame LL rr y0 → Frame LL rr (bad_2 y0) := by
      intro t3 h4
      unfold bad_2
      exact recErr_frame (wr_frame h4 (cov_loc 0x4 0x1 0x0 rfl rfl hT)) (cov_loc 0x4 0x3 0x8000000 rfl rfl hT)
  clear_value bad_2
  exact FrameN.next (Frame.ite h_s (Frame.ite (railFault_frame (h_bad_2 _ h_s) (pick_sub 0x3ffffcffe rfl hT)) (Frame.ite (Frame.ite (wr_frame (toStep_frame h_s (cov_loc 0x4 0x1 0x1000000 rfl rfl hT)) (cov_loc 0x4 0x1 0x0 rfl rfl hT)) (lowPower_frame (h_bad_2 _ h_s) (pick_sub 0x3ffffffff rfl hT))) (Frame.ite (coldStart_frame (h_bad_2 _ h_s) (pick_sub 0x3fbffc7fe rfl hT)) h_s))))

/-- What execFixedRailFault may change. -/
def execFixedRailFault_T : List Piece :=
  [.allCtr, .allRegs, .audio, .basin, .caps, .comp, .ctl, .dram, .evSeq, .events, .faults, .gfx, .hapt, .heads, .inst, .latch, .links, .mem,
   .parts, .pins, .pot, .pwr, .rings, .safe, .sent, .snap, .stage, .staged, .surf, .touch, .world]

theorem execFixedRailFault_frame {LL rr n s} (h_s : Frame LL rr s) (hT : Cov execFixedRailFault_T LL) :
    FrameN LL rr (execFixedRailFault n s) := by
  delta execFixedRailFault
  exact FrameN.next (Frame.ite (railFault_frame h_s (pick_sub 0x7fffffff rfl hT)) h_s)

/-- What execHartWfi may change. -/
def execHartWfi_T : List Piece :=
  [.world]

theorem execHartWfi_frame {LL rr h s} (h_s : Frame LL rr s) (hT : Cov execHartWfi_T LL) :
    FrameN LL rr (execHartWfi h s) := by
  delta execHartWfi
  exact FrameN.next (putHart_frame h_s (pick_sub 0x1 rfl hT))

/-- What execJtagHalt may change. -/
def execJtagHalt_T : List Piece :=
  [.world]

theorem execJtagHalt_frame {LL rr h halted s} (h_s : Frame LL rr s) (hT : Cov execJtagHalt_T LL) :
    FrameN LL rr (execJtagHalt h halted s) := by
  delta execJtagHalt
  exact FrameN.next (putHart_frame h_s (pick_sub 0x1 rfl hT))

/-- What execPllRelock may change. -/
def execPllRelock_T : List Piece :=
  [.fld CLK.PLL_STAT.lock, .fld HEAD.HEAD_STAT.pll_lock]

theorem execPllRelock_frame {LL rr k s} (h_s : Frame LL rr s) (hT : Cov execPllRelock_T LL) :
    FrameN LL rr (execPllRelock k s) := by
  delta execPllRelock
  extract_lets n_1 s1_2
  have h_s1_2 : Frame LL rr s1_2 := by
      unfold s1_2
      exact wr_frame h_s (pick_sub 0x1 rfl hT)
  clear_value s1_2
  exact FrameN.next (Frame.ite (Frame.ite (wr_frame h_s1_2 (pick_sub 0x2 rfl hT)) h_s1_2) h_s)

/-- What execPllUnlock may change. -/
def execPllUnlock_T : List Piece :=
  [.ctr .clk, .err .clk, .faults, .fld (HDR.ev_raw .clk), .fld CLK.PLL_STAT.lock, .fld HEAD.HEAD_STAT.pll_lock, .sent]

theorem execPllUnlock_frame {LL rr k s} (h_s : Frame LL rr s) (hT : Cov execPllUnlock_T LL) :
    FrameN LL rr (execPllUnlock k s) := by
  delta execPllUnlock
  extract_lets n_1 s1_2 s2_3 s3_4
  have h_s1_2 : Frame LL rr s1_2 := by
      unfold s1_2
      exact wr_frame h_s (pick_sub 0x10 rfl hT)
  have h_s2_3 : Frame LL rr s2_3 := by
      unfold s2_3
      exact Frame.ite (wr_frame h_s1_2 (pick_sub 0x20 rfl hT)) h_s1_2
  have h_s3_4 : Frame LL rr s3_4 := by
      unfold s3_4
      exact raise_frame (count_frame (recErr_frame h_s2_3 (pick_sub 0x4a rfl hT)) (pick_sub 0x1 rfl hT)) (pick_sub 0x48 rfl hT)
  clear_value s1_2 s2_3 s3_4
  exact FrameN.next (Frame.ite h_s (faultLine_frame h_s3_4 (pick_sub 0x4 rfl hT)))

/-- What execRailAckTimeout may change. -/
def execRailAckTimeout_T : List Piece :=
  [.allCtr, .allRegs, .audio, .basin, .caps, .comp, .ctl, .dram, .evSeq, .events, .faults, .gfx, .hapt, .heads, .inst, .latch, .links, .mem,
   .parts, .pins, .pot, .pwr, .rings, .safe, .sent, .snap, .stage, .staged, .surf, .touch, .world]

theorem execRailAckTimeout_frame {LL rr n s} (h_s : Frame LL rr s) (hT : Cov execRailAckTimeout_T LL) :
    FrameN LL rr (execRailAckTimeout n s) := by
  delta execRailAckTimeout
  extract_lets k_1 s1_2
  have h_s1_2 : Frame LL rr s1_2 := by
      unfold s1_2
      exact wr_frame h_s (cov_loc 0x2 0x1 0x0 rfl rfl hT)
  clear_value s1_2
  exact FrameN.next (Frame.ite h_s (railFault_frame (Frame.ite (recErr_frame (wr_frame h_s1_2 (cov_loc 0x2 0x1 0x0 rfl rfl hT)) (cov_loc 0x2 0x3 0x1000000 rfl rfl hT)) h_s1_2) (pick_sub 0x7fffffff rfl hT)))

/-- What execRefLost may change. -/
def execRefLost_T : List Piece :=
  [.ctr .clk, .err .clk, .faults, .fld (HDR.ev_raw .clk), .pwr, .sent]

theorem execRefLost_frame {LL rr s} (h_s : Frame LL rr s) (hT : Cov execRefLost_T LL) :
    FrameN LL rr (execRefLost s) := by
  delta execRefLost
  exact FrameN.next (Frame.ite h_s (by
      extract_lets u_1 s1_2 s2_3
      have h_s1_2 : Frame LL rr s1_2 := by
          unfold s1_2
          exact Frame.upd h_s (m_pwr := .inl (nth 4 rfl hT))
      have h_s2_3 : Frame LL rr s2_3 := by
          unfold s2_3
          exact raise_frame (count_frame (recErr_frame h_s1_2 (pick_sub 0x2a rfl hT)) (pick_sub 0x1 rfl hT)) (pick_sub 0x28 rfl hT)
      clear_value s1_2 s2_3
      exact faultLine_frame h_s2_3 (pick_sub 0x4 rfl hT)))

/-- What execSafetyGrant may change. -/
def execSafetyGrant_T : List Piece :=
  [.ctr .hapt, .err .dram, .err .pwr, .fld (HDR.ev_raw .dram), .fld (HDR.ev_raw .pwr), .fld (HDR.ev_raw .surf), .fld DRAM.SPARE_STAT.cause,
   .fld DRAM.SPARE_STAT.deferred, .fld DRAM.SPARE_STAT.done_64k, .fld DRAM.SPARE_STAT.rank, .fld DRAM.SPARE_STAT.state, .fld HAPT.BOOST_STAT.on,
   .fld PWR.STATE.state, .fld PWR.STATE.step, .fld PWR.STATE.target, .fld SURF.HV_STAT.on, .fld SURF.HV_STAT.why, .fld TOUCH.TILE_STAT.state,
   .hapt, .mem, .pwr, .sent, .surf, .touch]

theorem execSafetyGrant_frame {LL rr grant s} (h_s : Frame LL rr s) (hT : Cov execSafetyGrant_T LL) :
    FrameN LL rr (execSafetyGrant grant s) := by
  delta execSafetyGrant
  exact FrameN.next (Frame.ite h_s (Frame.ite (wearAll_frame (touchSleep_frame (toStep_frame h_s (pick_sub 0x102000 rfl hT)) (pick_sub 0x820000 rfl hT)) (pick_sub 0x400000 rfl hT)) (safeVeto_frame h_s (pick_sub 0x7dffff rfl hT))))

/-- What execSafetyGrantTimeout may change. -/
def execSafetyGrantTimeout_T : List Piece :=
  [.ctr .hapt, .err .dram, .err .pwr, .fld (HDR.ev_raw .dram), .fld (HDR.ev_raw .pwr), .fld (HDR.ev_raw .surf), .fld DRAM.SPARE_STAT.cause,
   .fld DRAM.SPARE_STAT.deferred, .fld DRAM.SPARE_STAT.done_64k, .fld DRAM.SPARE_STAT.rank, .fld DRAM.SPARE_STAT.state, .fld HAPT.BOOST_STAT.on,
   .fld PWR.STATE.state, .fld PWR.STATE.step, .fld PWR.STATE.target, .fld SURF.HV_STAT.on, .fld SURF.HV_STAT.why, .hapt, .mem, .pwr, .sent, .surf]

theorem execSafetyGrantTimeout_frame {LL rr s} (h_s : Frame LL rr s) (hT : Cov execSafetyGrantTimeout_T LL) :
    FrameN LL rr (execSafetyGrantTimeout s) := by
  delta execSafetyGrantTimeout
  exact FrameN.next (Frame.ite (safeVeto_frame h_s (pick_sub 0x3fffff rfl hT)) h_s)

/-- What execSelfRefreshEntered may change. -/
def execSelfRefreshEntered_T : List Piece :=
  [.fld PWR.STATE.step, .pwr]

theorem execSelfRefreshEntered_frame {LL rr s} (h_s : Frame LL rr s) (hT : Cov execSelfRefreshEntered_T LL) :
    FrameN LL rr (execSelfRefreshEntered s) := by
  delta execSelfRefreshEntered
  exact FrameN.next (Frame.ite (by
      extract_lets s1_1 u_2
      have h_s1_1 : Frame LL rr s1_1 := by
          unfold s1_1
          exact toStep_frame h_s (pick_sub 0x3 rfl hT)
      clear_value s1_1
      exact Frame.upd h_s1_1 (m_pwr := .inl (nth 1 rfl hT))) h_s)

/-- What execSleepDeepAfterExpiry may change. -/
def execSleepDeepAfterExpiry_T : List Piece :=
  [.fld PWR.STATE.state, .fld PWR.STATE.step, .fld PWR.STATE.target, .pwr]

theorem execSleepDeepAfterExpiry_frame {LL rr s} (h_s : Frame LL rr s) (hT : Cov execSleepDeepAfterExpiry_T LL) :
    FrameN LL rr (execSleepDeepAfterExpiry s) := by
  delta execSleepDeepAfterExpiry
  extract_lets sec_1 s1_2 u_3
  have h_s1_2 : Frame LL rr s1_2 := by
      unfold s1_2
      exact pwrStep_frame h_s (pick_sub 0xf rfl hT)
  clear_value s1_2
  exact FrameN.next (Frame.ite (Frame.upd h_s1_2 (m_pwr := .inl (nth 3 rfl hT))) h_s)

/-- What execStateReqDeepSleep may change. -/
def execStateReqDeepSleep_T : List Piece :=
  [.ctr .hapt, .ctr .pot, .ctr .pwr, .ctr .safe, .err .dram, .err .pot, .err .pwr, .fld (HDR.ev_raw .dram), .fld (HDR.ev_raw .pot),
   .fld (HDR.ev_raw .pwr), .fld (HDR.ev_raw .surf), .fld (HDR.ev_raw .touch), .fld DRAM.SPARE_STAT.cause, .fld DRAM.SPARE_STAT.deferred,
   .fld DRAM.SPARE_STAT.done_64k, .fld DRAM.SPARE_STAT.rank, .fld DRAM.SPARE_STAT.state, .fld HAPT.BOOST_STAT.on, .fld LINK.LINK_STAT.lanes_active,
   .fld LINK.LINK_STAT.rate_active, .fld LINK.LINK_STAT.state, .fld PWR.EXIT_STAT.failed_step, .fld PWR.EXIT_STAT.from_state,
   .fld PWR.EXIT_STAT.osc_attempts, .fld PWR.RAIL_STAT.cmd_seq, .fld PWR.RAIL_STAT.slewing, .fld PWR.RAIL_STAT.target_mv, .fld PWR.STATE.state,
   .fld PWR.STATE.step, .fld PWR.STATE.target, .fld PWR.WAKE_CAUSE.aborted, .fld PWR.WAKE_CAUSE.first, .fld PWR.WAKE_CAUSE.source,
   .fld SAFE.HEAD_SRC.bl_off, .fld SAFE.HEAD_SRC.blank, .fld SAFE.HEAD_SRC.fallback, .fld SAFE.ISL_STAT.fw_running, .fld SURF.HV_STAT.on,
   .fld SURF.HV_STAT.why, .fld TOUCH.TILE_STAT.state, .fld TOUCH.WAKE_STAT.gesture, .fld TOUCH.WAKE_STAT.woke, .hapt, .links, .mem, .pins, .pwr,
   .resp, .safe, .sent, .surf, .touch, .world]

theorem execStateReqDeepSleep_frame {LL rr w s} (h_s : Frame LL rr s) (hT : Cov execStateReqDeepSleep_T LL) :
    FrameN LL rr (execStateReqDeepSleep w s) := by
  delta execStateReqDeepSleep
  exact FrameN.next (stateReq_frame h_s (pick_sub 0x1fffffffffffff rfl hT))

/-- What execStateReqOff may change. -/
def execStateReqOff_T : List Piece :=
  [.ctr .hapt, .ctr .pot, .ctr .pwr, .ctr .safe, .err .dram, .err .pot, .err .pwr, .fld (HDR.ev_raw .dram), .fld (HDR.ev_raw .pot),
   .fld (HDR.ev_raw .pwr), .fld (HDR.ev_raw .surf), .fld (HDR.ev_raw .touch), .fld DRAM.SPARE_STAT.cause, .fld DRAM.SPARE_STAT.deferred,
   .fld DRAM.SPARE_STAT.done_64k, .fld DRAM.SPARE_STAT.rank, .fld DRAM.SPARE_STAT.state, .fld HAPT.BOOST_STAT.on, .fld LINK.LINK_STAT.lanes_active,
   .fld LINK.LINK_STAT.rate_active, .fld LINK.LINK_STAT.state, .fld PWR.EXIT_STAT.failed_step, .fld PWR.EXIT_STAT.from_state,
   .fld PWR.EXIT_STAT.osc_attempts, .fld PWR.RAIL_STAT.cmd_seq, .fld PWR.RAIL_STAT.slewing, .fld PWR.RAIL_STAT.target_mv, .fld PWR.STATE.state,
   .fld PWR.STATE.step, .fld PWR.STATE.target, .fld PWR.WAKE_CAUSE.aborted, .fld PWR.WAKE_CAUSE.first, .fld PWR.WAKE_CAUSE.source,
   .fld SAFE.HEAD_SRC.bl_off, .fld SAFE.HEAD_SRC.blank, .fld SAFE.HEAD_SRC.fallback, .fld SAFE.ISL_STAT.fw_running, .fld SURF.HV_STAT.on,
   .fld SURF.HV_STAT.why, .fld TOUCH.TILE_STAT.state, .fld TOUCH.WAKE_STAT.gesture, .fld TOUCH.WAKE_STAT.woke, .hapt, .links, .mem, .pins, .pwr,
   .resp, .safe, .sent, .surf, .touch, .world]

theorem execStateReqOff_frame {LL rr w s} (h_s : Frame LL rr s) (hT : Cov execStateReqOff_T LL) :
    FrameN LL rr (execStateReqOff w s) := by
  delta execStateReqOff
  exact FrameN.next (stateReq_frame h_s (pick_sub 0x1fffffffffffff rfl hT))

/-- What execStateReqSleep may change. -/
def execStateReqSleep_T : List Piece :=
  [.ctr .hapt, .ctr .pot, .ctr .pwr, .ctr .safe, .err .dram, .err .pot, .err .pwr, .fld (HDR.ev_raw .dram), .fld (HDR.ev_raw .pot),
   .fld (HDR.ev_raw .pwr), .fld (HDR.ev_raw .surf), .fld (HDR.ev_raw .touch), .fld DRAM.SPARE_STAT.cause, .fld DRAM.SPARE_STAT.deferred,
   .fld DRAM.SPARE_STAT.done_64k, .fld DRAM.SPARE_STAT.rank, .fld DRAM.SPARE_STAT.state, .fld HAPT.BOOST_STAT.on, .fld LINK.LINK_STAT.lanes_active,
   .fld LINK.LINK_STAT.rate_active, .fld LINK.LINK_STAT.state, .fld PWR.EXIT_STAT.failed_step, .fld PWR.EXIT_STAT.from_state,
   .fld PWR.EXIT_STAT.osc_attempts, .fld PWR.RAIL_STAT.cmd_seq, .fld PWR.RAIL_STAT.slewing, .fld PWR.RAIL_STAT.target_mv, .fld PWR.STATE.state,
   .fld PWR.STATE.step, .fld PWR.STATE.target, .fld PWR.WAKE_CAUSE.aborted, .fld PWR.WAKE_CAUSE.first, .fld PWR.WAKE_CAUSE.source,
   .fld SAFE.HEAD_SRC.bl_off, .fld SAFE.HEAD_SRC.blank, .fld SAFE.HEAD_SRC.fallback, .fld SAFE.ISL_STAT.fw_running, .fld SURF.HV_STAT.on,
   .fld SURF.HV_STAT.why, .fld TOUCH.TILE_STAT.state, .fld TOUCH.WAKE_STAT.gesture, .fld TOUCH.WAKE_STAT.woke, .hapt, .links, .mem, .pins, .pwr,
   .resp, .safe, .sent, .surf, .touch, .world]

theorem execStateReqSleep_frame {LL rr w s} (h_s : Frame LL rr s) (hT : Cov execStateReqSleep_T LL) :
    FrameN LL rr (execStateReqSleep w s) := by
  delta execStateReqSleep
  exact FrameN.next (stateReq_frame h_s (pick_sub 0x1fffffffffffff rfl hT))

/-- What execTargetStateReached may change. -/
def execTargetStateReached_T : List Piece :=
  [.alarm, .allCtr, .allRegs, .audio, .basin, .caps, .comp, .ctl, .dram, .evSeq, .events, .faults, .flash, .free, .gfx, .hapt, .heads, .inst,
   .latch, .links, .mem, .parts, .pins, .pot, .pwr, .rings, .safe, .sent, .snap, .stage, .staged, .surf, .touch, .world]

theorem execTargetStateReached_frame {LL rr s} (h_s : Frame LL rr s) (hT : Cov execTargetStateReached_T LL) :
    FrameN LL rr (execTargetStateReached s) := by
  delta execTargetStateReached
  exact FrameN.next (Frame.ite (by
      extract_lets s1_1
      have h_s1_1 : Frame LL rr s1_1 := by
          unfold s1_1
          exact lowPower_frame h_s (pick_sub 0x3ffffffff rfl hT)
      clear_value s1_1
      exact Frame.ite h_s1_1 (exitBegin_frame h_s1_1 (cov_loc 0x6 0x7ff 0x5000000 rfl rfl hT))) h_s)

/-- What execTempSample may change. -/
def execTempSample_T : List Piece :=
  [.allCtr, .allRegs, .audio, .basin, .caps, .comp, .ctl, .dram, .evSeq, .events, .gfx, .hapt, .heads, .inst, .latch, .links, .mem, .parts, .pins,
   .pot, .pwr, .rings, .safe, .sent, .snap, .stage, .staged, .surf, .touch, .world]

theorem execTempSample_frame {LL rr temps s} (h_s : Frame LL rr s) (hT : Cov execTempSample_T LL) :
    FrameN LL rr (execTempSample temps s) := by
  delta execTempSample
  exact FrameN.next (tempSample_frame h_s (pick_sub 0x3fffffff rfl hT))

/-- What execThermalRestart may change. -/
def execThermalRestart_T : List Piece :=
  [.pwr]

theorem execThermalRestart_frame {LL rr s} (h_s : Frame LL rr s) (hT : Cov execThermalRestart_T LL) :
    FrameN LL rr (execThermalRestart s) := by
  delta execThermalRestart
  exact FrameN.next (Frame.ite (Frame.upd h_s (m_pwr := .inl (nth 0 rfl hT))) h_s)

/-- What execXtal32Stop may change. -/
def execXtal32Stop_T : List Piece :=
  [.fld (HDR.ev_raw .clk), .pwr, .sent]

theorem execXtal32Stop_frame {LL rr s} (h_s : Frame LL rr s) (hT : Cov execXtal32Stop_T LL) :
    FrameN LL rr (execXtal32Stop s) := by
  delta execXtal32Stop
  exact FrameN.next (Frame.ite (raise_frame (Frame.upd h_s (m_pwr := .inl (nth 1 rfl hT))) (pick_sub 0x5 rfl hT)) h_s)

end Sys2Proof.Laws
end

