-- ==== Sys2Proof/Laws/FrameReads.lean ====
section
/-! SUPPORT. What the operations and commands of Machine/Reads.lean may change: the parts of each, and that nothing else changes. -/

set_option Elab.async false

namespace Sys2Proof.Laws

open Machine

/-- What State.movingRead may change. -/
def movingRead_T : List Piece :=
  [.audio, .ctl, .ctr .lantern, .ctr .pot, .err .audio, .err .pot, .faults, .fld (HDR.ev_raw .audio), .fld (HDR.ev_raw .lantern),
   .fld (HDR.ev_raw .pot), .fld AUDIO.PSET_INDEX.index, .fld LANTERN.LSRAM_ADDR.addr, .fld SAFE.LOG_LOST.count, .fld SAFE.LOG_UNREAD.count, .resp,
   .safe, .sent, .world]

theorem movingRead_frame {LL rr s w b i off} (h_s : Frame LL rr s) (hT : Cov movingRead_T LL) :
    FrameO LL rr (State.movingRead s w b i off) := by
  delta State.movingRead
  split
  · exact FrameO.ite (FrameO.some (lsramRead_frame h_s (pick_sub 0x14944 rfl hT))) FrameO.none
  · exact FrameO.ite (FrameO.some (logDataRead_frame h_s (pick_sub 0xe000 rfl hT))) (FrameO.ite (by
        extract_lets t_3
        have h_t_3 : Frame LL rr t_3 := by
            unfold t_3
            exact okResp_frame h_s (pick_sub 0x4000 rfl hT)
        clear_value t_3
        exact FrameO.some (Frame.ite (wr_frame h_t_3 (pick_sub 0x1000 rfl hT)) h_t_3)) FrameO.none)
  · exact FrameO.ite (FrameO.some (psetAccess_frame h_s (pick_sub 0x346b9 rfl hT))) FrameO.none
  · exact FrameO.ite (FrameO.some (uartRead_frame h_s (pick_sub 0x4002 rfl hT))) (FrameO.ite (FrameO.some (uartRead_frame h_s (pick_sub 0x4002 rfl hT))) FrameO.none)
  · exact FrameO.none

/-- What State.plainRead may change. -/
def plainRead_T : List Piece :=
  [.latch, .resp]

theorem plainRead_frame {LL rr s w b i off} (h_s : Frame LL rr s) (hT : Cov plainRead_T LL) :
    Frame LL rr (State.plainRead s w b i off) := by
  delta State.plainRead
  split
  · exact okResp_frame (latchHi_frame h_s (pick_sub 0x1 rfl hT)) (pick_sub 0x2 rfl hT)
  · split
    · exact okResp_frame (unlatch_frame h_s (pick_sub 0x1 rfl hT)) (pick_sub 0x2 rfl hT)
    · exact okResp_frame h_s (pick_sub 0x2 rfl hT)
  · exact okResp_frame h_s (pick_sub 0x2 rfl hT)

/-- What State.readWord may change. -/
def readWord_T (b : Blk) : List Piece :=
  [.audio, .ctl, .ctr .lantern, .ctr .pot, .err .audio, .err .mgr, .err .pot, .err b, .faults, .fld (HDR.ev_raw .audio),
   .fld (HDR.ev_raw .lantern), .fld (HDR.ev_raw .mgr), .fld (HDR.ev_raw .pot), .fld (HDR.ev_raw b), .fld AUDIO.PSET_INDEX.index,
   .fld LANTERN.LSRAM_ADDR.addr, .fld SAFE.LOG_LOST.count, .fld SAFE.LOG_UNREAD.count, .latch, .resp, .safe, .sent, .world]

theorem readWord_frame {LL rr s w b i off} (h_s : Frame LL rr s) (hT : Cov (readWord_T b) LL) :
    Frame LL rr (State.readWord s w b i off) := by
  delta State.readWord
  split
  · rename_i a3
    have h4 := FrameC.eqBad (L := LL) (r := rr) a3 (reach_frame h_s (pick_sub 0x2830c8 rfl hT))
    exact h4
  · rename_i a7
    have h8 := FrameC.eqGood (L := LL) (r := rr) a7 (reach_frame h_s (pick_sub 0x2830c8 rfl hT))
    exact Frame.ite (Frame.ite (mbSize_frame h_s (pick_sub 0x281868 rfl hT)) (mbRead_frame h_s (pick_sub 0x281868 rfl hT))) (Frame.ite (refuse_frame h_s (pick_sub 0x282080 rfl hT)) (Frame.ite (refuse_frame h_s (pick_sub 0x282080 rfl hT)) (Frame.ite (refuse_frame h_s (pick_sub 0x282080 rfl hT)) (FrameO.getD (movingRead_frame h_s (pick_sub 0x7bd75f rfl hT)) (plainRead_frame h_s (pick_sub 0xc0000 rfl hT))))))

/-- What execRegReadLoLatch may change. -/
def execRegReadLoLatch_T : List Piece :=
  [.audio, .ctl, .ctr .lantern, .ctr .pot, .err .audio, .err .mgr, .err .pot, .faults, .fld (HDR.ev_raw .audio), .fld (HDR.ev_raw .lantern),
   .fld (HDR.ev_raw .mgr), .fld (HDR.ev_raw .pot), .fld AUDIO.PSET_INDEX.index, .fld LANTERN.LSRAM_ADDR.addr, .fld SAFE.LOG_LOST.count,
   .fld SAFE.LOG_UNREAD.count, .hdr, .latch, .resp, .safe, .sent, .world]

theorem execRegReadLoLatch_frame {LL rr w page off s} (h_s : Frame LL rr s) (hT : Cov execRegReadLoLatch_T LL) :
    FrameN LL rr (execRegReadLoLatch w page off s) := by
  delta execRegReadLoLatch
  exact FrameN.next (by
      split
      · exact readWord_frame h_s (cov_loc 0x10000 0x2080 0x3effff rfl rfl hT)
      · exact potRefuse_frame h_s (pick_sub 0x140848 rfl hT))

end Sys2Proof.Laws
end

