-- ==== Sys2Proof/Laws/FramePages.lean ====
section
/-! SUPPORT. What the operations and commands of Machine/Pages.lean may change: the parts of each, and that nothing else changes. -/

set_option Elab.async false

namespace Sys2Proof.Laws

open Machine

set_option maxRecDepth 8000

/-- What State.softWorld may change. -/
def softWorld_T : List Piece :=
  [.world]

theorem softWorld_frame {LL rr s} (h_s : Frame LL rr s) (hT : Cov softWorld_T LL) :
    Frame LL rr (State.softWorld s) := by
  delta State.softWorld
  exact Frame.upd h_s (m_world := .inl (nth 0 rfl hT))

/-- What State.softPwr may change. -/
def softPwr_T : List Piece :=
  [.ctr .hapt, .ctr .safe, .err .dram, .fld (HDR.ev_raw .dram), .fld (HDR.ev_raw .surf), .fld (HDR.ev_raw .touch), .fld DRAM.SPARE_STAT.cause,
   .fld DRAM.SPARE_STAT.deferred, .fld DRAM.SPARE_STAT.done_64k, .fld DRAM.SPARE_STAT.rank, .fld DRAM.SPARE_STAT.state, .fld HAPT.BOOST_STAT.on,
   .fld LINK.LINK_STAT.lanes_active, .fld LINK.LINK_STAT.rate_active, .fld LINK.LINK_STAT.state, .fld SAFE.HEAD_SRC.bl_off,
   .fld SAFE.HEAD_SRC.blank, .fld SAFE.HEAD_SRC.fallback, .fld SURF.HV_STAT.on, .fld SURF.HV_STAT.why, .fld TOUCH.TILE_STAT.state,
   .fld TOUCH.WAKE_STAT.gesture, .fld TOUCH.WAKE_STAT.woke, .hapt, .links, .mem, .pins, .pwr, .sent, .surf, .touch]

theorem softPwr_frame {LL rr s} (h_s : Frame LL rr s) (hT : Cov softPwr_T LL) :
    Frame LL rr (State.softPwr s) := by
  delta State.softPwr
  extract_lets t_1 u_2
  have h_t_1 : Frame LL rr t_1 := by
      unfold t_1
      exact startDeferred_frame (touchResume_frame (unblank_frame h_s (pick_sub 0xd03f002 rfl hT)) (pick_sub 0x58700020 rfl hT)) (pick_sub 0x120007cc rfl hT)
  clear_value t_1
  exact hvSync_frame (Frame.upd h_t_1 (m_pwr := .inl (nth 27 rfl hT))) (pick_sub 0x308c0811 rfl hT)

/-- What State.softDram may change. -/
def softDram_T : List Piece :=
  [.mem]

theorem softDram_frame {LL rr s n} (h_s : Frame LL rr s) (hT : Cov softDram_T LL) :
    Frame LL rr (State.softDram s n) := by
  delta State.softDram
  exact Frame.upd h_s (m_mem := .inl (nth 0 rfl hT))

/-- What State.dropJob may change. -/
def dropJob_T : List Piece :=
  [.rings]

theorem dropJob_frame {LL rr s cls n} (h_s : Frame LL rr s) (hT : Cov dropJob_T LL) :
    Frame LL rr (State.dropJob s cls n) := by
  delta State.dropJob
  split
  · exact setRing_frame (setJob_frame h_s (pick_sub 0x1 rfl hT)) (pick_sub 0x1 rfl hT)
  · exact h_s

/-- What State.softComp may change. -/
def softComp_T : List Piece :=
  [.comp, .rings]

theorem softComp_frame {LL rr s0 n} (h_s0 : Frame LL rr s0) (hT : Cov softComp_T LL) :
    Frame LL rr (State.softComp s0 n) := by
  delta State.softComp
  extract_lets s_1 lo_2 hi_3 c_4
  have h_s_1 : Frame LL rr s_1 := by
      unfold s_1
      exact dropJob_frame h_s0 (pick_sub 0x2 rfl hT)
  clear_value s_1
  exact Frame.upd h_s_1 (m_comp := .inl (nth 0 rfl hT))

/-- What State.softLink may change. -/
def softLink_T : List Piece :=
  [.fld LINK.LINK_STAT.lanes_active, .fld LINK.LINK_STAT.rate_active, .fld LINK.LINK_STAT.state, .links, .pins]

theorem softLink_frame {LL rr s n} (h_s : Frame LL rr s) (hT : Cov softLink_T LL) :
    Frame LL rr (State.softLink s n) := by
  delta State.softLink
  exact setLink_frame (linkDown_frame h_s (pick_sub 0x1f rfl hT)) (pick_sub 0x8 rfl hT)

/-- What State.softSurf may change. -/
def softSurf_T : List Piece :=
  [.ctr .hapt, .fld (HDR.ev_raw .surf), .fld HAPT.BOOST_STAT.on, .fld SURF.CH_CAL.drift, .fld SURF.CH_CAL.source, .fld SURF.CH_CAL.status,
   .fld SURF.CH_RES.f_res, .fld SURF.CH_RES.q, .fld SURF.CH_RES2.cap_nf, .fld SURF.CH_RES2.f_ring, .fld SURF.CH_STAT.oc,
   .fld SURF.CH_STAT.service_due, .fld SURF.CH_STAT.wear_warn, .fld SURF.CH_WEAR.count, .fld SURF.HV_STAT.on, .fld SURF.HV_STAT.why,
   .fld SURF.ID_INFO.trk, .fld SURF.ID_INFO.wake_ok, .fld SURF.ID_SERIAL.serial, .fld SURF.SURF_STAT.auth, .fld SURF.SURF_STAT.present,
   .fld SURF.SURF_STAT.state, .fld SURF.SURF_STAT.wear_unknown, .fld SURF.SURF_STAT.wear_write_fail, .fld SURF.WEAR_SEQ.seq,
   .fld TOUCH.TILE_STAT.state, .hapt, .sent, .surf, .touch]

theorem softSurf_frame {LL rr s p} (h_s : Frame LL rr s) (hT : Cov softSurf_T LL) :
    Frame LL rr (State.softSurf s p) := by
  delta State.softSurf
  extract_lets t_1
  have h_t_1 : Frame LL rr t_1 := by
      unfold t_1
      exact wrB_frame (touchQuiet_frame (setSurf_frame h_s (pick_sub 0x10000000 rfl hT)) (pick_sub 0x22000000 rfl hT)) (pick_sub 0x100000 rfl hT)
  clear_value t_1
  exact hvSync_frame (Frame.ite (portOn_frame h_t_1 (pick_sub 0x11ef3ff8 rfl hT)) h_t_1) (pick_sub 0x1c00c007 rfl hT)

/-- What State.softReset may change. -/
def softReset_T (b : Blk) : List Piece :=
  [.alarm, .audio, .blk .boot, .blk b, .caps, .comp, .ctl, .ctr .basin, .ctr .hapt, .ctr .safe, .err .dram, .flash, .fld (HDR.ev_raw .basin),
   .fld (HDR.ev_raw .dram), .fld (HDR.ev_raw .hapt), .fld (HDR.ev_raw .safe), .fld (HDR.ev_raw .surf), .fld (HDR.ev_raw .touch),
   .fld (HDR.group .comp), .fld (HDR.group .glint), .fld BASIN.GRP_STAT.aborted, .fld BASIN.GRP_STAT.busy, .fld BOOT.FL_OP.busy,
   .fld BOOT.RST_CAUSE.brownout, .fld BOOT.RST_CAUSE.display_cause, .fld BOOT.RST_CAUSE.main_cause, .fld BOOT.RST_CAUSE.safety_cause,
   .fld DRAM.SPARE_STAT.cause, .fld DRAM.SPARE_STAT.deferred, .fld DRAM.SPARE_STAT.done_64k, .fld DRAM.SPARE_STAT.rank, .fld DRAM.SPARE_STAT.state,
   .fld ENC.ENC_STAT.a, .fld ENC.ENC_STAT.b, .fld HAPT.BOOST_STAT.on, .fld HAPT.THR_MASK.channels, .fld LINK.LINK_STAT.lanes_active,
   .fld LINK.LINK_STAT.rate_active, .fld LINK.LINK_STAT.state, .fld SAFE.FAULT_CTRL.assert, .fld SAFE.HEAD_SRC.bl_off, .fld SAFE.HEAD_SRC.blank,
   .fld SAFE.HEAD_SRC.fallback, .fld SAFE.ISL_STAT.fault, .fld SAFE.ISL_STAT.fw_running, .fld SURF.CH_CAL.drift, .fld SURF.CH_CAL.source,
   .fld SURF.CH_CAL.status, .fld SURF.CH_RES.f_res, .fld SURF.CH_RES.q, .fld SURF.CH_RES2.cap_nf, .fld SURF.CH_RES2.f_ring, .fld SURF.CH_STAT.oc,
   .fld SURF.CH_STAT.service_due, .fld SURF.CH_STAT.wear_warn, .fld SURF.CH_WEAR.count, .fld SURF.HV_STAT.on, .fld SURF.HV_STAT.why,
   .fld SURF.ID_INFO.trk, .fld SURF.ID_INFO.wake_ok, .fld SURF.ID_SERIAL.serial, .fld SURF.SURF_STAT.auth, .fld SURF.SURF_STAT.present,
   .fld SURF.SURF_STAT.state, .fld SURF.SURF_STAT.wear_unknown, .fld SURF.SURF_STAT.wear_write_fail, .fld SURF.WEAR_SEQ.seq, .fld SWDT.REMAIN.ms,
   .fld SWDT.SWDT_CTRL.enable, .fld TOUCH.TILE_STAT.state, .fld TOUCH.WAKE_STAT.gesture, .fld TOUCH.WAKE_STAT.woke, .free, .gfx, .hapt, .heads,
   .inst, .links, .mem, .parts, .pins, .pot, .pwr, .rings, .safe, .sent, .staged, .surf, .time, .touch, .world]

theorem softReset_frame {LL rr s b i} (h_s : Frame LL rr s) (hT : Cov (softReset_T b) LL) :
    Frame LL rr (State.softReset s b i) := by
  delta State.softReset
  extract_lets t_1 u_2 u_3 u_4 u_5 u_6 u_7 u_8
  have h_t_1 : Frame LL rr t_1 := by
      unfold t_1
      exact softRegs_frame h_s (idx_sub [3, 86, 79] rfl hT)
  have h_u_7 : Frame LL rr u_7 := by
      unfold u_7
      exact faultAssert_frame (wr_frame h_t_1 (pick_sub 0x100000000000 rfl hT)) (pick_sub 0x3100000000088000008200 rfl hT)
  clear_value t_1 u_7
  split
  · exact Frame.upd h_t_1 (m_inst := .inl (nth 76 rfl hT))
  · exact Frame.upd h_t_1 (m_pot := .inl (nth 81 rfl hT))
  · exact softWorld_frame h_t_1 (pick_sub 0x40000000000000000000000 rfl hT)
  · exact wr_frame (wr_frame (Frame.upd h_t_1 (m_world := .inl (nth 90 rfl hT))) (pick_sub 0x100000000000000000 rfl hT)) (pick_sub 0x80000000000000000 rfl hT)
  · simp only [List.foldl_cons, List.foldl_nil]
    exact wr_frame (wr_frame (wr_frame (wr_frame (softRegs_frame (flCut_frame h_s (pick_sub 0x401000000000000400800 rfl hT)) (idx_sub [2, 86, 79] rfl hT)) (pick_sub 0x2000000 rfl hT)) (pick_sub 0x4000000 rfl hT)) (pick_sub 0x1000000 rfl hT)) (pick_sub 0x800000 rfl hT)
  · exact softPwr_frame h_t_1 (pick_sub 0x2a564e003000774f8032700 rfl hT)
  · exact h_t_1
  · exact Frame.upd h_t_1 (m_time := .inl (nth 88 rfl hT))
  · exact softDram_frame h_t_1 (pick_sub 0x40000000000000000000 rfl hT)
  · exact Frame.upd h_t_1 (m_mem := .inl (nth 78 rfl hT))
  · exact Frame.upd h_t_1 (m_rings := .inl (nth 83 rfl hT))
  · exact dropJob_frame h_t_1 (pick_sub 0x800000000000000000000 rfl hT)
  · exact Frame.upd h_t_1 (m_gfx := .inl (nth 73 rfl hT))
  · exact softComp_frame h_t_1 (pick_sub 0x800000000000000000020 rfl hT)
  · exact groupAbort_frame h_t_1 (pick_sub 0x20000000000000003c1080 rfl hT)
  · exact h_t_1
  · exact setHead_frame h_t_1 (pick_sub 0x8000000000000000000 rfl hT)
  · exact softLink_frame h_t_1 (pick_sub 0x120000000007000000000 rfl hT)
  · exact setCap_frame h_t_1 (pick_sub 0x10 rfl hT)
  · exact h_t_1
  · exact softSurf_frame h_t_1 (pick_sub 0x2a00427ffffe00400010100 rfl hT)
  · exact hvSync_frame (throttleShow_frame (Frame.upd h_t_1 (m_hapt := .inl (nth 74 rfl hT))) (pick_sub 0x2004000000000800004000 rfl hT)) (pick_sub 0xa004000300000400010100 rfl hT)
  · exact Frame.upd h_t_1 (m_audio := .inl (nth 1 rfl hT))
  · exact Frame.foldl h_t_1 (fun t33 x34 h35 => wr_frame (wr_frame h35 (pick_sub 0x100000000 rfl hT)) (pick_sub 0x200000000 rfl hT))
  · exact Frame.upd h_t_1 (m_ctl := .inl (nth 6 rfl hT))
  · exact hvSync_frame (Frame.upd h_u_7 (m_safe := .inl (nth 84 rfl hT)) (m_alarm := .inl (nth 0 rfl hT))) (pick_sub 0xa004000300000400010100 rfl hT)
  · exact h_t_1
  · exact Frame.upd h_t_1 (m_safe := .inl (nth 84 rfl hT))

/-- What State.ctrlWrite may change. -/
def ctrlWrite_T : List Piece :=
  [.alarm, .allCtr, .allRegs, .audio, .caps, .comp, .ctl, .evSeq, .events, .flash, .free, .gfx, .hapt, .heads, .inst, .links, .mem, .parts, .pins,
   .pot, .pwr, .resp, .rings, .safe, .sent, .staged, .surf, .time, .touch, .world]

theorem ctrlWrite_frame {LL rr s w b i v} (h_s : Frame LL rr s) (hT : Cov ctrlWrite_T LL) :
    Frame LL rr (State.ctrlWrite s w b i v) := by
  delta State.ctrlWrite
  split
  · exact headCtrl_frame h_s (cov_loc 0x6 0x7ffffff 0x23a22000 rfl rfl hT)
  · exact touchCtrl_frame h_s (cov_loc 0x6 0xff 0x33220000 rfl rfl hT)
  · exact capCtrl_frame h_s (cov_loc 0x6 0x3f3d 0x23620190 rfl rfl hT)
  · exact audioCtrl_frame h_s (cov_loc 0x6 0x7fe 0x23260008 rfl rfl hT)
  · exact onWrite_frame h_s (fun t10 h11 => by
        extract_lets u_12
        have h_u_12 : Frame LL rr u_12 := by
            unfold u_12
            exact wr_frame h11 (cov_loc 0x4 0x1 0x0 rfl rfl hT)
        clear_value u_12
        exact Frame.ite (softReset_frame h_u_12 (cov_loc 0x6 0xfffffffffffffff78c 0x3fdffe79 rfl rfl hT)) h_u_12) (cov_loc 0x6 0x1f 0x21200000 rfl rfl hT)

/-- What State.ownerWrite may change. -/
def ownerWrite_T (b : Blk) : List Piece :=
  [.ctr .hapt, .ctr .pot, .err .pot, .err b, .fld (HDR.ev_mask b), .fld (HDR.ev_raw .pot), .fld (HDR.ev_raw .surf), .fld (HDR.ev_raw b),
   .fld (HDR.owner b), .fld HAPT.BOOST_STAT.on, .fld SURF.HV_CTRL.enable, .fld SURF.HV_STAT.on, .fld SURF.HV_STAT.why, .fld SURF.STREAM_CFG.enable,
   .fld TOUCH.RPT_CTRL.enable, .hapt, .resp, .sent, .surf, .touch, .world]

theorem ownerWrite_frame {LL rr s w b i v} (h_s : Frame LL rr s) (hT : Cov (ownerWrite_T b) LL) :
    Frame LL rr (State.ownerWrite s w b i v) := by
  delta State.ownerWrite
  exact onWrite_frame h_s (fun t1 h2 => Frame.ite h2 (by
      extract_lets u_3 u_4
      have h_u_3 : Frame LL rr u_3 := by
          unfold u_3
          exact wr_frame (wr_frame (wr_frame h2 (pick_sub 0x100 rfl hT)) (pick_sub 0x10 rfl hT)) (pick_sub 0x80 rfl hT)
      clear_value u_3
      exact Frame.ite (setTouch_frame (wr_frame h_u_3 (pick_sub 0x4000 rfl hT)) (pick_sub 0x80000 rfl hT)) (Frame.ite (hvSync_frame (wr_frame (wr_frame h_u_3 (pick_sub 0x400 rfl hT)) (pick_sub 0x2000 rfl hT)) (pick_sub 0x69a41 rfl hT)) h_u_3))) (pick_sub 0x1300ae rfl hT)

/-- What State.evClear may change. -/
def evClear_T (b : Blk) : List Piece :=
  [.ctr .pot, .err .pot, .err b, .fld (HDR.ev_raw .pot), .fld (HDR.ev_raw b), .resp, .sent, .world]

theorem evClear_frame {LL rr s w b i v} (h_s : Frame LL rr s) (hT : Cov (evClear_T b) LL) :
    Frame LL rr (State.evClear s w b i v) := by
  delta State.evClear
  exact onWrite_frame h_s (fun t1 h2 => wr_frame h2 (pick_sub 0x10 rfl hT)) (pick_sub 0xff rfl hT)

/-- What State.evMaskWrite may change. -/
def evMaskWrite_T (b : Blk) : List Piece :=
  [.ctr .pot, .err .pot, .err b, .fld (HDR.ev_mask b), .fld (HDR.ev_raw .pot), .fld (HDR.ev_raw b), .resp, .sent, .world]

theorem evMaskWrite_frame {LL rr s w b i v} (h_s : Frame LL rr s) (hT : Cov (evMaskWrite_T b) LL) :
    Frame LL rr (State.evMaskWrite s w b i v) := by
  delta State.evMaskWrite
  exact onWrite_frame h_s (fun t1 h2 => irqEdge_frame (wr_frame h2 (pick_sub 0x8 rfl hT)) (pick_sub 0x80 rfl hT)) (pick_sub 0x1f7 rfl hT)

/-- What State.evForce may change. -/
def evForce_T (b : Blk) : List Piece :=
  [.ctr .pot, .err .pot, .err b, .fld (HDR.ev_raw .pot), .fld (HDR.ev_raw b), .resp, .sent, .world]

theorem evForce_frame {LL rr s w b i v} (h_s : Frame LL rr s) (hT : Cov (evForce_T b) LL) :
    Frame LL rr (State.evForce s w b i v) := by
  delta State.evForce
  exact onWrite_frame h_s (fun t1 h2 => irqEdge_frame (wr_frame h2 (pick_sub 0x10 rfl hT)) (pick_sub 0x40 rfl hT)) (pick_sub 0xff rfl hT)

/-- What State.applyNow may change. -/
def applyNow_T (b : Blk) : List Piece :=
  [.blk .comp, .blk .glint, .blk .head, .blk .lantern, .blk .mirror, .blk b, .comp, .ctr .basin, .ctr .head, .fld (HDR.commit_seq .comp),
   .fld (HDR.commit_seq .glint), .fld (HDR.commit_seq .head), .fld (HDR.commit_seq .lantern), .fld (HDR.commit_seq .mirror),
   .fld (HDR.commit_seq b), .fld (HDR.ev_raw .basin), .fld (HDR.ev_raw .comp), .fld (HDR.ev_raw .glint), .fld (HDR.ev_raw .head),
   .fld (HDR.ev_raw .lantern), .fld (HDR.ev_raw .mirror), .fld (HDR.ev_raw b), .fld (HDR.group .glint), .fld (HDR.group .head),
   .fld (HDR.pending .comp), .fld (HDR.pending .glint), .fld (HDR.pending .head), .fld (HDR.pending .lantern), .fld (HDR.pending .mirror),
   .fld (HDR.pending b), .fld BASIN.GRP_STAT.applied, .fld BASIN.GRP_STAT.busy, .fld COMP.WB_SEQ.w, .fld HEAD.GL_STAT.missing,
   .fld HEAD.GL_STAT.state, .fld LANTERN.OVL.windows, .fld LANTERN.VIS.regions, .heads, .parts, .sent, .staged]

theorem applyNow_frame {LL rr s b i} (h_s : Frame LL rr s) (hT : Cov (applyNow_T b) LL) :
    Frame LL rr (State.applyNow s b i) := by
  delta State.applyNow
  split
  · exact applyHead_frame h_s (pick_sub 0x1a6c4848984 rfl hT)
  · exact applyGlint_frame h_s (pick_sub 0x18002420402 rfl hT)
  · exact compApply_frame (compApply_frame h_s (pick_sub 0x1c101010241 rfl hT)) (pick_sub 0x1c101010241 rfl hT)
  · exact Frame.foldl h_s (fun t5 x6 h7 => safeApply_frame h7 (pick_sub 0x1d808081008 rfl hT))
  · exact Frame.foldl h_s (fun t9 x10 h11 => safeApply_frame h11 (pick_sub 0x1d810102010 rfl hT))
  · exact applySet_frame h_s (pick_sub 0x18020204020 rfl hT)

/-- What State.commitSet may change. -/
def commitSet_T (b : Blk) : List Piece :=
  [.blk .comp, .blk .glint, .blk .head, .blk .lantern, .blk .mirror, .blk b, .comp, .ctr .basin, .ctr .head, .err .comp, .err .glint, .err b,
   .fld (HDR.commit_seq .comp), .fld (HDR.commit_seq .glint), .fld (HDR.commit_seq .head), .fld (HDR.commit_seq .lantern),
   .fld (HDR.commit_seq .mirror), .fld (HDR.commit_seq b), .fld (HDR.dirty b), .fld (HDR.ev_raw .basin), .fld (HDR.ev_raw .comp),
   .fld (HDR.ev_raw .glint), .fld (HDR.ev_raw .head), .fld (HDR.ev_raw .lantern), .fld (HDR.ev_raw .mirror), .fld (HDR.ev_raw b),
   .fld (HDR.group .glint), .fld (HDR.group .head), .fld (HDR.pending .comp), .fld (HDR.pending .glint), .fld (HDR.pending .head),
   .fld (HDR.pending .lantern), .fld (HDR.pending .mirror), .fld (HDR.pending b), .fld BASIN.GRP_STAT.applied, .fld BASIN.GRP_STAT.busy,
   .fld COMP.WB_SEQ.w, .fld HEAD.GL_STAT.missing, .fld HEAD.GL_STAT.state, .fld LANTERN.OVL.windows, .fld LANTERN.VIS.regions,
   .fld SAFE.HEAD_SRC.blank, .fld SAFE.HEAD_SRC.fallback, .hdr, .heads, .parts, .resp, .safe, .sent, .staged]

theorem commitSet_frame {LL rr s w b i} (h_s : Frame LL rr s) (hT : Cov (commitSet_T b) LL) :
    FrameC LL rr (State.commitSet s w b i) := by
  delta State.commitSet
  exact FrameC.ite (FrameC.bad (raise_frame (recErr_frame h_s (pick_sub 0x1000002000800 rfl hT)) (pick_sub 0x1000002000000 rfl hT))) (FrameC.ite (FrameC.bad (refuse_frame (pinSafe_frame h_s (pick_sub 0x860000000000 rfl hT)) (pick_sub 0x1400000200400 rfl hT))) (by
      split
      · exact FrameC.bad (refuse_frame h_s (cov_loc 0x80000000000 0x3 0x1400000000000 rfl rfl hT))
      · exact FrameC.ite (by
            extract_lets t_8
            have h_t_8 : Frame LL rr t_8 := by
                unfold t_8
                exact safeCommit_frame h_s (pick_sub 0x3218202060020 rfl hT)
            clear_value t_8
            exact FrameC.good (Frame.ite (applyNow_frame h_t_8 (pick_sub 0x331fffffbf1ff rfl hT)) h_t_8)) (by
            extract_lets t_9
            have h_t_9 : Frame LL rr t_9 := by
                unfold t_9
                exact stagePage_frame h_s (pick_sub 0x3200200140200 rfl hT)
            clear_value t_9
            exact FrameC.good (Frame.ite (applyNow_frame h_t_9 (pick_sub 0x331fffffbf1ff rfl hT)) h_t_9))))

/-- What State.commitWrite may change. -/
def commitWrite_T (b : Blk) : List Piece :=
  [.blk .comp, .blk .glint, .blk .head, .blk .lantern, .blk .mirror, .blk b, .comp, .ctr .basin, .ctr .head, .ctr .pot, .err .comp, .err .glint,
   .err .pot, .err b, .fld (HDR.commit_seq .comp), .fld (HDR.commit_seq .glint), .fld (HDR.commit_seq .head), .fld (HDR.commit_seq .lantern),
   .fld (HDR.commit_seq .mirror), .fld (HDR.commit_seq b), .fld (HDR.dirty b), .fld (HDR.ev_raw .basin), .fld (HDR.ev_raw .comp),
   .fld (HDR.ev_raw .glint), .fld (HDR.ev_raw .head), .fld (HDR.ev_raw .lantern), .fld (HDR.ev_raw .mirror), .fld (HDR.ev_raw .pot),
   .fld (HDR.ev_raw b), .fld (HDR.group .glint), .fld (HDR.group .head), .fld (HDR.pending .comp), .fld (HDR.pending .glint),
   .fld (HDR.pending .head), .fld (HDR.pending .lantern), .fld (HDR.pending .mirror), .fld (HDR.pending b), .fld BASIN.GRP_STAT.applied,
   .fld BASIN.GRP_STAT.busy, .fld COMP.WB_SEQ.w, .fld HEAD.GL_STAT.missing, .fld HEAD.GL_STAT.state, .fld LANTERN.OVL.windows,
   .fld LANTERN.VIS.regions, .fld SAFE.HEAD_SRC.blank, .fld SAFE.HEAD_SRC.fallback, .hdr, .heads, .parts, .resp, .safe, .sent, .staged, .world]

theorem commitWrite_frame {LL rr s w b i v} (h_s : Frame LL rr s) (hT : Cov (commitWrite_T b) LL) :
    Frame LL rr (State.commitWrite s w b i v) := by
  delta State.commitWrite
  exact onWrite_frame h_s (fun t1 h2 => Chk_andThen_frame (FrameC.ite (commitSet_frame h2 (pick_sub 0x1ffffff7ffedff rfl hT)) (FrameC.good h2)) (fun t3 h4 => Frame.ite (revertSet_frame h4 (pick_sub 0x20 rfl hT)) h4)) (pick_sub 0x2a000018003200 rfl hT)

/-- What State.errClear may change. -/
def errClear_T (b : Blk) : List Piece :=
  [.ctr .pot, .err .pot, .err b, .fld (HDR.err_addr b), .fld (HDR.err_code b), .fld (HDR.err_count b), .fld (HDR.err_internal b),
   .fld (HDR.err_req_id b), .fld (HDR.err_requester b), .fld (HDR.err_valid b), .fld (HDR.ev_raw .pot), .fld (HDR.ev_raw b), .resp, .sent, .world]

theorem errClear_frame {LL rr s w b i v} (h_s : Frame LL rr s) (hT : Cov (errClear_T b) LL) :
    Frame LL rr (State.errClear s w b i v) := by
  delta State.errClear
  exact onWrite_frame h_s (fun t1 h2 => Frame.ite (by
      simp only [List.foldl_cons, List.foldl_nil]
      exact wr_frame (wr_frame (wr_frame (wr_frame (wr_frame (wr_frame (wr_frame h2 (pick_sub 0x200 rfl hT)) (pick_sub 0x40 rfl hT)) (pick_sub 0x100 rfl hT)) (pick_sub 0x20 rfl hT)) (pick_sub 0x10 rfl hT)) (pick_sub 0x8 rfl hT)) (pick_sub 0x80 rfl hT)) h2) (pick_sub 0x7c07 rfl hT)

/-- What State.lockWrite may change. -/
def lockWrite_T (b : Blk) : List Piece :=
  [.ctr .pot, .err .pot, .err b, .fld (HDR.ev_raw .pot), .fld (HDR.ev_raw b), .fld (HDR.lock b), .resp, .sent, .world]

theorem lockWrite_frame {LL rr s w b i v} (h_s : Frame LL rr s) (hT : Cov (lockWrite_T b) LL) :
    Frame LL rr (State.lockWrite s w b i v) := by
  delta State.lockWrite
  exact onWrite_frame h_s (fun t1 h2 => Frame.ite h2 (Frame.ite (wr_frame h2 (pick_sub 0x20 rfl hT)) h2)) (pick_sub 0x1df rfl hT)

/-- What State.hdrWrite may change. -/
def hdrWrite_T : List Piece :=
  [.alarm, .allCtr, .allRegs, .audio, .caps, .comp, .ctl, .evSeq, .events, .flash, .free, .gfx, .hapt, .heads, .inst, .links, .mem, .parts, .pins,
   .pot, .pwr, .resp, .rings, .safe, .sent, .staged, .surf, .time, .touch, .world]

theorem hdrWrite_frame {LL rr s w b i off v} (h_s : Frame LL rr s) (hT : Cov hdrWrite_T LL) :
    Frame LL rr (State.hdrWrite s w b i off v) := by
  delta State.hdrWrite
  exact Frame.ite (ctrlWrite_frame h_s (pick_sub 0x3fffffff rfl hT)) (Frame.ite (ownerWrite_frame h_s (cov_loc 0x6 0x7fff 0x35201000 rfl rfl hT)) (Frame.ite (evClear_frame h_s (cov_loc 0x6 0x1f 0x21200000 rfl rfl hT)) (Frame.ite (evMaskWrite_frame h_s (cov_loc 0x6 0x3f 0x21200000 rfl rfl hT)) (Frame.ite (evForce_frame h_s (cov_loc 0x6 0x1f 0x21200000 rfl rfl hT)) (Frame.ite (commitWrite_frame h_s (cov_loc 0x6 0x7fffffffffbf 0x23a22020 rfl rfl hT)) (Frame.ite (errClear_frame h_s (cov_loc 0x6 0xfff 0x21200000 rfl rfl hT)) (Frame.ite (lockWrite_frame h_s (cov_loc 0x6 0x3f 0x21200000 rfl rfl hT)) (onWrite_frame h_s (fun t1 h2 => h2) (cov_loc 0x6 0x1f 0x21200000 rfl rfl hT)))))))))

/-- What State.loWrite may change. -/
def loWrite_T (b : Blk) : List Piece :=
  [.ctr .pot, .err .pot, .err b, .fld (HDR.ev_raw .pot), .fld (HDR.ev_raw b), .resp, .sent, .stage]

theorem loWrite_frame {LL rr s w b i off v} (h_s : Frame LL rr s) (hT : Cov (loWrite_T b) LL) :
    Frame LL rr (State.loWrite s w b i off v) := by
  delta State.loWrite
  split
  · rename_i a3
    have h4 := FrameC.eqBad (L := LL) (r := rr) a3 (reach_frame h_s (pick_sub 0x7f rfl hT))
    exact h4
  · rename_i a7
    have h8 := FrameC.eqGood (L := LL) (r := rr) a7 (reach_frame h_s (pick_sub 0x7f rfl hT))
    exact okResp_frame (stageLo_frame h8 (pick_sub 0x80 rfl hT)) (pick_sub 0x20 rfl hT)

/-- What State.hiWrite may change. -/
def hiWrite_T (b : Blk) (off : Nat) : List Piece :=
  [.ctr .pot, .err .pot, .err .time, .err b, .fld (HDR.dirty b), .fld (HDR.ev_raw .pot), .fld (HDR.ev_raw .time), .fld (HDR.ev_raw b),
   .fld TIME.SNAP_AT.at_, .fld TIME.SNAP_CTRL.armed, .reg b (off - 4), .reg b off, .resp, .sent, .stage]

theorem hiWrite_frame {LL rr s w b i off v} (h_s : Frame LL rr s) (hT : Cov (hiWrite_T b off) LL) :
    Frame LL rr (State.hiWrite s w b i off v) := by
  delta State.hiWrite
  exact Frame.ite (snapArm_frame h_s (pick_sub 0x7367 rfl hT)) (pairWrite_frame h_s (fun t1 x3 h2 => Frame.ite (refuse_frame h2 (pick_sub 0x3088 rfl hT)) (storeWord_frame (storeWord_frame h2 (pick_sub 0x410 rfl hT)) (pick_sub 0x810 rfl hT))) (pick_sub 0x70ab rfl hT))

/-- What State.instCmdWord may change. -/
def instCmdWord_T : List Piece :=
  [.blk .enc, .blk .gpio, .comp, .ctl, .ctr .comp, .ctr .dma, .ctr .dram, .ctr .dramq, .ctr .enc, .ctr .gfx, .ctr .mgr, .ctr .pot, .ctr .rsched,
   .err .dram, .err .mgr, .err .pot, .evSeq, .events, .fld (HDR.ev_raw .dram), .fld (HDR.ev_raw .mgr), .fld (HDR.ev_raw .pot),
   .fld COMP.COEF_USE.banks, .fld COMP.ENG_STAT.busy0, .fld COMP.ENG_STAT.busy1, .fld COMP.ENG_STAT.late0, .fld COMP.ENG_STAT.late1,
   .fld COMP.ENG_STAT.pending0, .fld COMP.ENG_STAT.pending1, .fld COMP.LAYER_ADDR.addr, .fld COMP.LAYER_STAT.bank, .fld COMP.LAYER_STAT.enabled,
   .fld COMP.LAYER_STAT.format, .fld COMP.LAYER_STAT.substituted, .fld DMA.STAT.state, .fld DRAMQ.ADMIT_USED.used, .fld DRAMQ.BROKEN_INST.inst,
   .fld DRAMQ.RES_STAT.admit_seq, .fld DRAMQ.RES_STAT.broken, .fld GFX.CTX_STAT.local, .fld GFX.CTX_STAT.owner, .fld GFX.CTX_STAT.state,
   .fld GPIO.PIN_OWNER.owner, .fld MGR.INST_STAT.busy, .fld MGR.INST_STAT.forced, .fld MGR.INST_STAT.state, .fld MGR.VIEW_ENTRY.page,
   .fld MGR.VIEW_ENTRY.valid, .fld MGR.VIEW_ENTRY.write, .fld RSCHED.FENCE_BASE.addr, .fld RSCHED.FENCE_BASE.addr_hi,
   .fld RSCHED.FENCE_SLOTS.slots, .fld RSCHED.PIN_COUNT.pinned, .fld WORLD.VALE_STAT.busy, .fld WORLD.VALE_STAT.parent, .fld WORLD.VALE_STAT.state,
   .gfx, .hdr, .inst, .mem, .pot, .resp, .rings, .sent, .world]

theorem instCmdWord_frame {LL rr s w v} (h_s : Frame LL rr s) (hT : Cov instCmdWord_T LL) :
    Frame LL rr (State.instCmdWord s w v) := by
  delta State.instCmdWord
  split
  · exact instCreate_frame h_s (pick_sub 0xd48013d40018cf0b rfl hT)
  · exact instStart_frame h_s (pick_sub 0xf00010000019c800 rfl hT)
  · exact instQuiesce_frame h_s (pick_sub 0xfe081c03fffffcf4 rfl hT)
  · exact instCmd_frame h_s (fun t9 x11 h10 => instReset_frame h10 (pick_sub 0x210f100000020000 rfl hT)) (pick_sub 0xd00000000018c800 rfl hT)
  · exact instCmd_frame h_s (fun t14 x16 h15 => instRemove_frame h15 (pick_sub 0x86f0f3fc0000070b rfl hT)) (pick_sub 0xd00000000018c800 rfl hT)
  · exact refuse_frame h_s (pick_sub 0x5000000000084000 rfl hT)

/-- What State.guarded may change. -/
def guarded_T (b : Blk) (off : Nat) : List Piece :=
  [.ctr .pot, .err .pot, .err b, .fld (HDR.dirty b), .fld (HDR.ev_raw .pot), .fld (HDR.ev_raw b), .reg b off, .resp, .sent, .world]

theorem guarded_frame {LL rr s w b i off v code bad} (h_s : Frame LL rr s) (hT : Cov (guarded_T b off) LL) :
    Frame LL rr (State.guarded s w b i off v code bad) := by
  delta State.guarded
  exact onWrite_frame h_s (fun t1 h2 => Frame.ite (refuse_frame h2 (pick_sub 0x1a4 rfl hT)) (storeWord_frame h2 (pick_sub 0x48 rfl hT))) (pick_sub 0x3b7 rfl hT)

/-- What State.plainWrite may change. -/
def plainWrite_T (b : Blk) (off : Nat) : List Piece :=
  [.ctr .pot, .err .pot, .err b, .fld (HDR.dirty b), .fld (HDR.ev_raw .pot), .fld (HDR.ev_raw b), .reg b off, .resp, .sent, .world]

theorem plainWrite_frame {LL rr s w b i off v} (h_s : Frame LL rr s) (hT : Cov (plainWrite_T b off) LL) :
    Frame LL rr (State.plainWrite s w b i off v) := by
  delta State.plainWrite
  exact onWrite_frame h_s (fun t1 h2 => storeWord_frame h2 (pick_sub 0x48 rfl hT)) (pick_sub 0x3b7 rfl hT)

/-- What State.mgrWrite may change. -/
def mgrWrite_T (off : Nat) : List Piece :=
  [.blk .enc, .blk .gpio, .comp, .ctl, .ctr .comp, .ctr .dma, .ctr .dram, .ctr .dramq, .ctr .enc, .ctr .gfx, .ctr .mgr, .ctr .pot, .ctr .rsched,
   .err .dram, .err .mgr, .err .pot, .evSeq, .events, .fld (HDR.dirty .mgr), .fld (HDR.ev_raw .dram), .fld (HDR.ev_raw .mgr),
   .fld (HDR.ev_raw .pot), .fld COMP.COEF_USE.banks, .fld COMP.ENG_STAT.busy0, .fld COMP.ENG_STAT.busy1, .fld COMP.ENG_STAT.late0,
   .fld COMP.ENG_STAT.late1, .fld COMP.ENG_STAT.pending0, .fld COMP.ENG_STAT.pending1, .fld COMP.LAYER_ADDR.addr, .fld COMP.LAYER_STAT.bank,
   .fld COMP.LAYER_STAT.enabled, .fld COMP.LAYER_STAT.format, .fld COMP.LAYER_STAT.substituted, .fld DMA.STAT.state, .fld DRAMQ.ADMIT_USED.used,
   .fld DRAMQ.BROKEN_INST.inst, .fld DRAMQ.RES_STAT.admit_seq, .fld DRAMQ.RES_STAT.broken, .fld GFX.CTX_STAT.local, .fld GFX.CTX_STAT.owner,
   .fld GFX.CTX_STAT.state, .fld GPIO.PIN_OWNER.owner, .fld MGR.INST_STAT.busy, .fld MGR.INST_STAT.external, .fld MGR.INST_STAT.forced,
   .fld MGR.INST_STAT.state, .fld MGR.VIEW_ENTRY.page, .fld MGR.VIEW_ENTRY.valid, .fld MGR.VIEW_ENTRY.write, .fld RSCHED.FENCE_BASE.addr,
   .fld RSCHED.FENCE_BASE.addr_hi, .fld RSCHED.FENCE_SLOTS.slots, .fld RSCHED.PIN_COUNT.pinned, .fld WORLD.VALE_STAT.busy,
   .fld WORLD.VALE_STAT.parent, .fld WORLD.VALE_STAT.state, .gfx, .hdr, .inst, .mem, .pot, .reg .mgr 0x164, .reg .mgr 0x184, .reg .mgr off, .resp,
   .rings, .sent, .world]

theorem mgrWrite_frame {LL rr s w off v} (h_s : Frame LL rr s) (hT : Cov (mgrWrite_T off) LL) :
    Frame LL rr (State.mgrWrite s w off v) := by
  delta State.mgrWrite
  exact Frame.ite (mbWord_frame h_s (pick_sub 0xa080000000030c800 rfl hT)) (Frame.ite (onWrite_frame h_s (fun t1 h2 => Frame.ite (refuse_frame h2 (pick_sub 0xa0000000000104000 rfl hT)) (storeWord_frame h2 (pick_sub 0x10000000000040000 rfl hT))) (idx_sub [11, 15, 14, 21, 20, 65, 67, 68] rfl hT)) (Frame.ite (onWrite_frame h_s (fun t3 h4 => instCmdWord_frame h4 (pick_sub 0x1e3fffeffffffbffff rfl hT)) (idx_sub [11, 15, 14, 21, 20, 65, 67, 68] rfl hT)) (Frame.ite (guarded_frame h_s (idx_sub [11, 15, 14, 18, 21, 20, 64, 65, 67, 68] rfl hT)) (Frame.ite (viewWrite_frame h_s (pick_sub 0x1a400000000034c800 rfl hT)) (Frame.ite (vfMap_frame h_s (pick_sub 0x1a800010000034c800 rfl hT)) (Frame.ite (mgrRearm_frame h_s (pick_sub 0x1a000000000030c800 rfl hT)) (plainWrite_frame h_s (idx_sub [11, 15, 14, 18, 21, 20, 64, 65, 67, 68] rfl hT))))))))

/-- What State.valeCmdWord may change. -/
def valeCmdWord_T : List Piece :=
  [.ctr .dram, .ctr .dramq, .ctr .pot, .ctr .world, .dram, .err .dram, .err .pot, .err .world, .fld (HDR.ev_raw .dram), .fld (HDR.ev_raw .pot),
   .fld (HDR.ev_raw .world), .fld POT.CMD_STAT.epoch, .fld WORLD.LOAD_SEQ.seq, .fld WORLD.MEAS.digest, .fld WORLD.VALE_STAT.busy,
   .fld WORLD.VALE_STAT.parent, .fld WORLD.VALE_STAT.state, .mem, .pot, .resp, .sent, .world]

theorem valeCmdWord_frame {LL rr s w v} (h_s : Frame LL rr s) (hT : Cov valeCmdWord_T LL) :
    Frame LL rr (State.valeCmdWord s w v) := by
  delta State.valeCmdWord
  split
  · exact valeOpen_frame h_s (pick_sub 0x39f6c4 rfl hT)
  · exact valeLoad_frame h_s (pick_sub 0x3e7fff rfl hT)
  · exact valeSeal_frame h_s (pick_sub 0x3966c4 rfl hT)
  · exact valeClose_frame h_s (pick_sub 0x3846c4 rfl hT)
  · exact worldRefuse_frame h_s (pick_sub 0x180480 rfl hT)

/-- What State.wakeCauseWrite may change. -/
def wakeCauseWrite_T : List Piece :=
  [.ctr .pot, .err .pot, .err .pwr, .fld (HDR.dirty .pwr), .fld (HDR.ev_raw .pot), .fld (HDR.ev_raw .pwr), .fld PWR.WAKE_CAUSE.first,
   .reg .pwr 0x10c, .resp, .sent, .world]

theorem wakeCauseWrite_frame {LL rr s w v} (h_s : Frame LL rr s) (hT : Cov wakeCauseWrite_T LL) :
    Frame LL rr (State.wakeCauseWrite s w v) := by
  delta State.wakeCauseWrite
  exact onWrite_frame h_s (fun t1 h2 => by
      extract_lets u_3
      have h_u_3 : Frame LL rr u_3 := by
          unfold u_3
          exact storeWord_frame h2 (pick_sub 0x88 rfl hT)
      clear_value u_3
      exact Frame.ite (wr_frame h_u_3 (pick_sub 0x40 rfl hT)) h_u_3) (pick_sub 0x737 rfl hT)

/-- What State.pwrWrite may change. -/
def pwrWrite_T (off : Nat) : List Piece :=
  [.ctr .hapt, .ctr .pot, .ctr .pwr, .ctr .safe, .err .dram, .err .pot, .err .pwr, .fld (HDR.dirty .pwr), .fld (HDR.ev_raw .dram),
   .fld (HDR.ev_raw .pot), .fld (HDR.ev_raw .pwr), .fld (HDR.ev_raw .surf), .fld (HDR.ev_raw .touch), .fld CLK.PLL_STAT.mhz,
   .fld DRAM.SPARE_STAT.cause, .fld DRAM.SPARE_STAT.deferred, .fld DRAM.SPARE_STAT.done_64k, .fld DRAM.SPARE_STAT.rank, .fld DRAM.SPARE_STAT.state,
   .fld HAPT.BOOST_STAT.on, .fld LINK.LINK_STAT.lanes_active, .fld LINK.LINK_STAT.rate_active, .fld LINK.LINK_STAT.state,
   .fld PWR.EXIT_STAT.failed_step, .fld PWR.EXIT_STAT.from_state, .fld PWR.EXIT_STAT.osc_attempts, .fld PWR.RAIL_STAT.cmd_seq,
   .fld PWR.RAIL_STAT.freq_held, .fld PWR.RAIL_STAT.slewing, .fld PWR.RAIL_STAT.target_mv, .fld PWR.STATE.state, .fld PWR.STATE.step,
   .fld PWR.STATE.target, .fld PWR.WAKE_CAUSE.aborted, .fld PWR.WAKE_CAUSE.first, .fld PWR.WAKE_CAUSE.source, .fld SAFE.HEAD_SRC.bl_off,
   .fld SAFE.HEAD_SRC.blank, .fld SAFE.HEAD_SRC.fallback, .fld SAFE.ISL_STAT.fw_running, .fld SURF.HV_STAT.on, .fld SURF.HV_STAT.why,
   .fld TOUCH.TILE_STAT.state, .fld TOUCH.WAKE_STAT.gesture, .fld TOUCH.WAKE_STAT.woke, .hapt, .links, .mem, .pins, .pwr, .reg .pwr (320 + 4 * 0),
   .reg .pwr (320 + 4 * 1), .reg .pwr 0x10c, .reg .pwr off, .resp, .safe, .sent, .surf, .touch, .world]

theorem pwrWrite_frame {LL rr s w off v} (h_s : Frame LL rr s) (hT : Cov (pwrWrite_T off) LL) :
    Frame LL rr (State.pwrWrite s w off v) := by
  delta State.pwrWrite
  exact Frame.ite (stateReq_frame h_s (pick_sub 0xfc3fffff7ffdf7f rfl hT)) (Frame.ite (wakeCauseWrite_frame h_s (pick_sub 0x9500004000006e2 rfl hT)) (Frame.ite (railReq_frame h_s (pick_sub 0x94600003c0026e6 rfl hT)) (Frame.ite (railReq_frame h_s (pick_sub 0x94a00003c0026e6 rfl hT)) (guarded_frame h_s (pick_sub 0x9600000000006e2 rfl hT)))))

/-- What State.spareCmd may change. -/
def spareCmd_T : List Piece :=
  [.ctr .dram, .ctr .pot, .err .dram, .err .pot, .fld (HDR.ev_raw .dram), .fld (HDR.ev_raw .pot), .fld DRAM.SPARE_STAT.cause,
   .fld DRAM.SPARE_STAT.deferred, .fld DRAM.SPARE_STAT.done_64k, .fld DRAM.SPARE_STAT.rank, .fld DRAM.SPARE_STAT.state, .mem, .resp, .sent, .world]

theorem spareCmd_frame {LL rr s w n v} (h_s : Frame LL rr s) (hT : Cov spareCmd_T LL) :
    Frame LL rr (State.spareCmd s w n v) := by
  delta State.spareCmd
  exact onWrite_frame h_s (fun t1 h2 => by
      extract_lets t1_3
      have h_t1_3 : Frame LL rr t1_3 := by
          unfold t1_3
          exact Frame.ite (spareStart_frame h2 (pick_sub 0x3fd4 rfl hT)) h2
      clear_value t1_3
      exact Frame.ite (spareCancel_frame h_t1_3 (pick_sub 0x401 rfl hT)) h_t1_3) (idx_sub [1, 3, 2, 5, 4, 12, 13, 14] rfl hT)

/-- What State.dramqWrite may change. -/
def dramqWrite_T (off : Nat) : List Piece :=
  [.ctr .pot, .err .dramq, .err .pot, .fld (HDR.dirty .dramq), .fld (HDR.ev_raw .dramq), .fld (HDR.ev_raw .pot), .fld DRAMQ.ADMIT_CAP.cap,
   .fld DRAMQ.ADMIT_EFF.eff, .fld DRAMQ.ADMIT_USED.used, .fld DRAMQ.PORT_STAT.admit_seq, .mem, .reg .dramq off, .resp, .sent, .world]

theorem dramqWrite_frame {LL rr s w off v} (h_s : Frame LL rr s) (hT : Cov (dramqWrite_T off) LL) :
    Frame LL rr (State.dramqWrite s w off v) := by
  delta State.dramqWrite
  exact Frame.ite (guarded_frame h_s (idx_sub [0, 2, 1, 3, 5, 4, 11, 12, 13, 14] rfl hT)) (Frame.ite (onWrite_frame h_s (fun t1 h2 => portWrite_frame h2 (pick_sub 0x3f1a rfl hT)) (idx_sub [0, 2, 1, 5, 4, 12, 13, 14] rfl hT)) (Frame.ite (onWrite_frame h_s (fun t3 h4 => effWrite_frame h4 (pick_sub 0x30d2 rfl hT)) (idx_sub [0, 2, 1, 5, 4, 12, 13, 14] rfl hT)) (plainWrite_frame h_s (idx_sub [0, 2, 1, 3, 5, 4, 11, 12, 13, 14] rfl hT))))

/-- What State.ctxOpWord may change. -/
def ctxOpWord_T : List Piece :=
  [.ctr .pot, .ctr .rsched, .err .pot, .err .rsched, .fld (HDR.ev_raw .pot), .fld (HDR.ev_raw .rsched), .fld RSCHED.CTX_DATA.word,
   .fld RSCHED.PIN_COUNT.pinned, .resp, .rings, .sent, .world]

theorem ctxOpWord_frame {LL rr s w v} (h_s : Frame LL rr s) (hT : Cov ctxOpWord_T LL) :
    Frame LL rr (State.ctxOpWord s w v) := by
  delta State.ctxOpWord
  split
  · exact ctxRead_frame h_s (pick_sub 0xd7d rfl hT)
  · exact ctxWrite_frame h_s (pick_sub 0xf3d rfl hT)
  · exact ctxEnable_frame h_s (pick_sub 0xfbd rfl hT)
  · exact ctxDisable_frame h_s (pick_sub 0xfbd rfl hT)
  · exact ctxMigrate_frame h_s (pick_sub 0xf3f rfl hT)
  · exact ctxOp_frame h_s (fun t17 x19 h18 => h18) (pick_sub 0xd3d rfl hT)

/-- What State.mgrAlloc may change. -/
def mgrAlloc_T : List Piece :=
  [.ctr .gfx, .ctr .pot, .err .gfx, .err .mgr, .err .pot, .fld (HDR.dirty .gfx), .fld (HDR.ev_raw .gfx), .fld (HDR.ev_raw .mgr),
   .fld (HDR.ev_raw .pot), .fld GFX.CTX_STAT.local, .fld GFX.CTX_STAT.owner, .fld GFX.CTX_STAT.state, .gfx, .reg .gfx 0x114, .resp, .sent, .world]

theorem mgrAlloc_frame {LL rr s w v} (h_s : Frame LL rr s) (hT : Cov mgrAlloc_T LL) :
    Frame LL rr (State.mgrAlloc s w v) := by
  delta State.mgrAlloc
  exact onWrite_frame h_s (fun t1 h2 => by
      extract_lets n_3
      exact Frame.ite (refuse_frame h2 (pick_sub 0xc088 rfl hT)) (Frame.ite (refuse_frame h2 (pick_sub 0xc088 rfl hT)) (resizeCtx_frame (storeWord_frame (gfxAccount_frame h2 (pick_sub 0x1001 rfl hT)) (pick_sub 0x2020 rfl hT)) (pick_sub 0xe00 rfl hT)))) (idx_sub [1, 4, 2, 8, 6, 14, 15, 16] rfl hT)

/-- What State.compWrite may change. -/
def compWrite_T (off : Nat) : List Piece :=
  [.comp, .ctr .comp, .ctr .pot, .err .comp, .err .mgr, .err .pot, .fld (HDR.dirty .comp), .fld (HDR.ev_raw .comp), .fld (HDR.ev_raw .mgr),
   .fld (HDR.ev_raw .pot), .fld COMP.COEF_SEL.phase, .fld COMP.COEF_SEL.word, .reg .comp 0x134, .reg .comp 0x148, .reg .comp off, .resp, .sent,
   .world]

theorem compWrite_frame {LL rr s w n off v} (h_s : Frame LL rr s) (hT : Cov (compWrite_T off) LL) :
    Frame LL rr (State.compWrite s w n off v) := by
  delta State.compWrite
  exact Frame.ite (onWrite_frame h_s (fun t1 h2 => Frame.ite (refuse_frame h2 (pick_sub 0x18110 rfl hT)) (storeWord_frame h2 (pick_sub 0x4040 rfl hT))) (idx_sub [2, 5, 3, 9, 7, 15, 16, 17] rfl hT)) (Frame.ite (coefWrite_frame h_s (pick_sub 0x39eee rfl hT)) (Frame.ite (substWrite_frame h_s (pick_sub 0x3a2ed rfl hT)) (plainWrite_frame h_s (idx_sub [2, 5, 3, 6, 9, 7, 14, 15, 16, 17] rfl hT))))

/-- What State.linkWrite may change. -/
def linkWrite_T (off : Nat) : List Piece :=
  [.ctr .link, .ctr .pot, .err .link, .err .pot, .fld (HDR.dirty .link), .fld (HDR.ev_raw .link), .fld (HDR.ev_raw .pot), .fld LINK.AUX_CTRL.go,
   .fld LINK.DSI_CMD_CTRL.go, .fld LINK.LINK_STAT.retries_left, .fld LINK.LINK_STAT.state, .links, .pins, .reg .link 0x100, .reg .link 0x120,
   .reg .link 0x140, .reg .link off, .resp, .sent, .world]

theorem linkWrite_frame {LL rr s w n off v} (h_s : Frame LL rr s) (hT : Cov (linkWrite_T off) LL) :
    Frame LL rr (State.linkWrite s w n off v) := by
  delta State.linkWrite
  exact Frame.ite (linkCtrl_frame h_s (pick_sub 0xe3e7f rfl hT)) (Frame.ite (auxWrite_frame h_s (pick_sub 0xe48fe rfl hT)) (Frame.ite (dsiWrite_frame h_s (pick_sub 0xe817e rfl hT)) (Frame.ite (blWrite_frame h_s (pick_sub 0xf087e rfl hT)) (Frame.ite (guarded_frame h_s (idx_sub [1, 3, 2, 4, 6, 5, 16, 17, 18, 19] rfl hT)) (plainWrite_frame h_s (idx_sub [1, 3, 2, 4, 6, 5, 16, 17, 18, 19] rfl hT))))))

/-- What State.capWrite may change. -/
def capWrite_T (off : Nat) : List Piece :=
  [.caps, .ctr .cap, .ctr .pot, .err .cap, .err .pot, .fld (HDR.dirty .cap), .fld (HDR.ev_raw .cap), .fld (HDR.ev_raw .pot), .reg .cap off, .resp,
   .sent, .world]

theorem capWrite_frame {LL rr s w n off v} (h_s : Frame LL rr s) (hT : Cov (capWrite_T off) LL) :
    Frame LL rr (State.capWrite s w n off v) := by
  delta State.capWrite
  exact Frame.ite (trigWrite_frame h_s (pick_sub 0xedf rfl hT)) (Frame.ite (guarded_frame h_s (idx_sub [2, 4, 3, 5, 7, 6, 8, 9, 10, 11] rfl hT)) (plainWrite_frame h_s (idx_sub [2, 4, 3, 5, 7, 6, 8, 9, 10, 11] rfl hT)))

/-- What State.touchWrite may change. -/
def touchWrite_T (off : Nat) : List Piece :=
  [.ctr .dram, .ctr .dramq, .ctr .pot, .ctr .touch, .dram, .err .dram, .err .pot, .err .touch, .fld (HDR.dirty .touch), .fld (HDR.ev_raw .dram),
   .fld (HDR.ev_raw .pot), .fld (HDR.ev_raw .touch), .fld TOUCH.RPT_CONS.cons, .fld TOUCH.RPT_PROD.prod, .fld TOUCH.TILE_STAT.state, .mem, .pot,
   .reg .touch 0x200, .reg .touch 0x2d0, .reg .touch 0x2e4, .reg .touch off, .resp, .sent, .touch, .world]

theorem touchWrite_frame {LL rr s w n off v} (h_s : Frame LL rr s) (hT : Cov (touchWrite_T off) LL) :
    Frame LL rr (State.touchWrite s w n off v) := by
  delta State.touchWrite
  exact Frame.ite (plainWrite_frame h_s (pick_sub 0x1700dc4 rfl hT)) (Frame.ite (surfCtrl_frame h_s (pick_sub 0x1e24dc4 rfl hT)) (Frame.ite (rptCtrl_frame h_s (pick_sub 0x1e43dc4 rfl hT)) (Frame.ite (rptCons_frame h_s (pick_sub 0x1e9afff rfl hT)) (Frame.ite (guarded_frame h_s (pick_sub 0x1700dc4 rfl hT)) (plainWrite_frame h_s (pick_sub 0x1700dc4 rfl hT))))))

/-- What State.surfWrite may change. -/
def surfWrite_T (off : Nat) : List Piece :=
  [.ctr .hapt, .ctr .pot, .err .pot, .err .surf, .fld (HDR.dirty .surf), .fld (HDR.ev_raw .pot), .fld (HDR.ev_raw .surf), .fld HAPT.BOOST_STAT.on,
   .fld SURF.CH_CAL.drift, .fld SURF.CH_CAL.source, .fld SURF.CH_CAL.status, .fld SURF.CH_RES.f_res, .fld SURF.CH_RES.q, .fld SURF.CH_RES2.cap_nf,
   .fld SURF.CH_RES2.f_ring, .fld SURF.CH_STAT.oc, .fld SURF.CH_STAT.service_due, .fld SURF.CH_STAT.wear_warn, .fld SURF.CH_WEAR.count,
   .fld SURF.HV_STAT.on, .fld SURF.HV_STAT.why, .fld SURF.ID_INFO.trk, .fld SURF.ID_INFO.wake_ok, .fld SURF.ID_SERIAL.serial,
   .fld SURF.SURF_STAT.auth, .fld SURF.SURF_STAT.state, .fld SURF.SURF_STAT.wear_unknown, .fld SURF.SURF_STAT.wear_write_fail,
   .fld SURF.WEAR_SEQ.seq, .fld TOUCH.TILE_STAT.state, .hapt, .reg .surf 0x100, .reg .surf 0x118, .reg .surf 0x120, .reg .surf off, .resp, .sent,
   .surf, .touch, .world]

theorem surfWrite_frame {LL rr s w p off v} (h_s : Frame LL rr s) (hT : Cov (surfWrite_T off) LL) :
    Frame LL rr (State.surfWrite s w p off v) := by
  delta State.surfWrite
  exact Frame.ite (portCtrl_frame h_s (pick_sub 0xf8ffffffff rfl hT)) (Frame.ite (hvCtrl_frame h_s (pick_sub 0xb9401880ff rfl hT)) (Frame.ite (streamCfg_frame h_s (pick_sub 0x9a0000007e rfl hT)) (plainWrite_frame h_s (pick_sub 0x9c0000007e rfl hT))))

/-- What State.audioWrite may change. -/
def audioWrite_T (off : Nat) : List Piece :=
  [.audio, .ctr .audio, .ctr .pot, .err .audio, .err .pot, .fld (HDR.dirty .audio), .fld (HDR.ev_raw .audio), .fld (HDR.ev_raw .pot),
   .fld AUDIO.ENG_STAT.waiting, .fld AUDIO.PORT_STAT.amp_en, .fld AUDIO.PORT_STAT.locked, .fld AUDIO.PORT_STAT.rate_hz,
   .fld AUDIO.PORT_STAT.waiting, .fld AUDIO.PSET_INDEX.index, .fld AUDIO.SAFELOAD.pending, .pins, .reg .audio (384 + 32 * ((off - 384) / 32)),
   .reg .audio (388 + 32 * ((off - 384) / 32)), .reg .audio (392 + 32 * ((off - 384) / 32)), .reg .audio (396 + 32 * ((off - 384) / 32)),
   .reg .audio 0x124, .reg .audio off, .resp, .sent, .world]

theorem audioWrite_frame {LL rr s w off v} (h_s : Frame LL rr s) (hT : Cov (audioWrite_T off) LL) :
    Frame LL rr (State.audioWrite s w off v) := by
  delta State.audioWrite
  exact Frame.ite (guarded_frame h_s (idx_sub [2, 4, 3, 5, 7, 6, 21, 22, 23, 24] rfl hT)) (Frame.ite (safeloadGo_frame h_s (pick_sub 0x1c041df rfl hT)) (Frame.ite (psetAccess_frame h_s (pick_sub 0x1c020dd rfl hT)) (Frame.ite (strmCfg_frame h_s (pick_sub 0x1d000fc rfl hT)) (Frame.ite (by
      extract_lets t_1
      split
      · exact portEnable_frame h_s (pick_sub 0x1c19efc rfl hT)
      · exact portCfg_frame h_s (pick_sub 0x1c200fc rfl hT)
      · exact portStat_frame h_s (pick_sub 0x1c410fc rfl hT)
      · exact silCfg_frame h_s (pick_sub 0x1c882fc rfl hT)
      · exact plainWrite_frame h_s (idx_sub [2, 4, 3, 5, 7, 6, 21, 22, 23, 24] rfl hT)) (plainWrite_frame h_s (idx_sub [2, 4, 3, 5, 7, 6, 21, 22, 23, 24] rfl hT))))))

/-- What State.encWrite may change. -/
def encWrite_T (off : Nat) : List Piece :=
  [.ctr .pot, .err .enc, .err .pot, .fld (HDR.dirty .enc), .fld (HDR.ev_raw .enc), .fld (HDR.ev_raw .pot), .fld ENC.ENC_POS.pos, .reg .enc off,
   .resp, .sent]

theorem encWrite_frame {LL rr s w off v} (h_s : Frame LL rr s) (hT : Cov (encWrite_T off) LL) :
    Frame LL rr (State.encWrite s w off v) := by
  delta State.encWrite
  exact Frame.ite (encSet_frame h_s (pick_sub 0x377 rfl hT)) (pinWrite_frame h_s (fun t1 h2 => storeWord_frame h2 (pick_sub 0x88 rfl hT)) (idx_sub [0, 2, 1, 5, 4, 8, 9] rfl hT))

/-- What State.gpioWrite may change. -/
def gpioWrite_T (off : Nat) : List Piece :=
  [.blk .enc, .blk .gpio, .ctl, .ctr .enc, .ctr .gpio, .ctr .pot, .err .gpio, .err .pot, .fld (HDR.dirty .gpio), .fld (HDR.ev_raw .gpio),
   .fld (HDR.ev_raw .pot), .fld GPIO.PIN_OWNER.owner, .fld GPIO.UART_STAT.errors, .reg .gpio (1280 + 32 * ((off - 1280) / 32)),
   .reg .gpio (768 + 4 * ((off - 768) / 4)), .reg .gpio off, .resp, .sent, .world]

theorem gpioWrite_frame {LL rr s w off v} (h_s : Frame LL rr s) (hT : Cov (gpioWrite_T off) LL) :
    Frame LL rr (State.gpioWrite s w off v) := by
  delta State.gpioWrite
  exact Frame.ite (plainWrite_frame h_s (idx_sub [5, 7, 6, 8, 10, 9, 15, 16, 17, 18] rfl hT)) (Frame.ite (pinOwnerWrite_frame h_s (pick_sub 0x70eef rfl hT)) (Frame.ite (gpioCfg_frame h_s (pick_sub 0x347e0 rfl hT)) (Frame.ite (i2cCtrl_frame h_s (pick_sub 0x327e4 rfl hT)) (Frame.ite (uartWrite_frame h_s (pick_sub 0x316f4 rfl hT)) (Frame.ite (uartWrite_frame h_s (pick_sub 0x316f4 rfl hT)) (pinWrite_frame h_s (fun t1 h2 => storeWord_frame h2 (pick_sub 0x8100 rfl hT)) (idx_sub [5, 7, 6, 10, 9, 16, 17] rfl hT)))))))

/-- What State.safeWrite may change. -/
def safeWrite_T (off : Nat) : List Piece :=
  [.alarm, .ctr .hapt, .ctr .pot, .ctr .safe, .err .pot, .err .safe, .fld (HDR.dirty .safe), .fld (HDR.ev_raw .audio), .fld (HDR.ev_raw .pot),
   .fld (HDR.ev_raw .safe), .fld (HDR.ev_raw .surf), .fld AUDIO.PORT_STAT.amp_en, .fld HAPT.BOOST_STAT.on, .fld LINK.LINK_STAT.lanes_active,
   .fld LINK.LINK_STAT.rate_active, .fld LINK.LINK_STAT.state, .fld SAFE.ALARM_CTRL.run, .fld SAFE.FAULT_CTRL.assert, .fld SAFE.ISL_STAT.fault,
   .fld SURF.HV_STAT.on, .fld SURF.HV_STAT.why, .hapt, .links, .pins, .reg .safe 0x10c, .reg .safe 0x114, .reg .safe 0x200, .reg .safe off, .resp,
   .safe, .sent, .surf, .world]

theorem safeWrite_frame {LL rr s w off v} (h_s : Frame LL rr s) (hT : Cov (safeWrite_T off) LL) :
    Frame LL rr (State.safeWrite s w off v) := by
  delta State.safeWrite
  exact Frame.ite (faultCtrl_frame h_s (pick_sub 0x17086033c rfl hT)) (Frame.ite (headSrcWrite_frame h_s (pick_sub 0x151c0e37c rfl hT)) (Frame.ite (hvPermit_frame h_s (pick_sub 0x1d2381776 rfl hT)) (Frame.ite (swdKick_frame h_s (pick_sub 0x17000033c rfl hT)) (Frame.ite (alarmCtrl_frame h_s (pick_sub 0x154810bf5 rfl hT)) (plainWrite_frame h_s (pick_sub 0x158000374 rfl hT))))))

/-- What State.blkWrite may change. -/
def blkWrite_T : List Piece :=
  [.alarm, .allCtr, .allRegs, .audio, .basin, .caps, .comp, .ctl, .dram, .evSeq, .events, .gfx, .hapt, .heads, .inst, .latch, .links, .mem, .otp,
   .parts, .pins, .pot, .pwr, .resp, .rings, .safe, .sent, .snap, .stage, .staged, .surf, .time, .touch, .world]

theorem blkWrite_frame {LL rr s w b i off v} (h_s : Frame LL rr s) (hT : Cov blkWrite_T LL) :
    Frame LL rr (State.blkWrite s w b i off v) := by
  delta State.blkWrite
  split
  · exact mgrWrite_frame h_s (cov_loc 0x6 0x1c5fffffffffcfff3 0x205a24ec0 rfl rfl hT)
  · exact Frame.ite (onWrite_frame h_s (fun t3 h4 => potCommand_frame h4 (cov_loc 0x6 0x7d 0x204a00100 rfl rfl hT)) (cov_loc 0x6 0x1f 0x204800000 rfl rfl hT)) (plainWrite_frame h_s (cov_loc 0x6 0x7f 0x204800000 rfl rfl hT))
  · exact Frame.ite (onWrite_frame h_s (fun t6 h7 => valeCmdWord_frame h7 (cov_loc 0x6 0x1ffef 0x204a20100 rfl rfl hT)) (cov_loc 0x6 0x1f 0x204800000 rfl rfl hT)) (Frame.ite (dmaOwner_frame h_s (cov_loc 0x6 0x3f 0x204800000 rfl rfl hT)) (plainWrite_frame h_s (cov_loc 0x6 0x7f 0x204800000 rfl rfl hT)))
  · exact Frame.ite (swdtWrite_frame h_s (cov_loc 0x6 0xff 0x204800000 rfl rfl hT)) (Frame.ite (swdtKick_frame h_s (cov_loc 0x6 0x7f 0x204800000 rfl rfl hT)) (plainWrite_frame h_s (cov_loc 0x6 0x7f 0x204800000 rfl rfl hT)))
  · exact Frame.ite (rstCtrl_frame h_s (pick_sub 0x37ffbfffe rfl hT)) (Frame.ite (keyRevoke_frame h_s (cov_loc 0x6 0x1f 0x204840000 rfl rfl hT)) (Frame.ite (flOp_frame h_s (cov_loc 0x6 0x3f 0x204c00000 rfl rfl hT)) (plainWrite_frame h_s (cov_loc 0x6 0x7f 0x204800000 rfl rfl hT))))
  · exact pwrWrite_frame h_s (cov_loc 0x6 0x3c1fffffffffff 0x346d31000 rfl rfl hT)
  · exact Frame.ite (guarded_frame h_s (cov_loc 0x6 0x7f 0x204800000 rfl rfl hT)) (plainWrite_frame h_s (cov_loc 0x6 0x7f 0x204800000 rfl rfl hT))
  · exact Frame.ite (masterCfg_frame h_s (cov_loc 0x6 0xff 0x284800000 rfl rfl hT)) (Frame.ite (snapCtrl_frame h_s (cov_loc 0x6 0xff 0x204800000 rfl rfl hT)) (plainWrite_frame h_s (cov_loc 0x6 0x7f 0x204800000 rfl rfl hT)))
  · exact Frame.ite (guarded_frame h_s (cov_loc 0x6 0x7f 0x204800000 rfl rfl hT)) (Frame.ite (spareCmd_frame h_s (cov_loc 0x6 0x7ff 0x204820000 rfl rfl hT)) (plainWrite_frame h_s (cov_loc 0x6 0x7f 0x204800000 rfl rfl hT)))
  · exact dramqWrite_frame h_s (cov_loc 0x6 0xbff 0x204820000 rfl rfl hT)
  · exact Frame.ite (onWrite_frame h_s (fun t16 h17 => ctxOpWord_frame h17 (cov_loc 0x6 0xff 0x205800000 rfl rfl hT)) (cov_loc 0x6 0x1f 0x204800000 rfl rfl hT)) (plainWrite_frame h_s (cov_loc 0x6 0x7f 0x204800000 rfl rfl hT))
  · exact Frame.ite (dmaCtrl_frame h_s (cov_loc 0x6 0x1fff 0x205a20000 rfl rfl hT)) (plainWrite_frame h_s (cov_loc 0x6 0x7f 0x204800000 rfl rfl hT))
  · exact Frame.ite (mgrAlloc_frame h_s (cov_loc 0x6 0x2fff 0x204800800 rfl rfl hT)) (Frame.ite (onWrite_frame h_s (fun t20 h21 => storeWord_frame h21 (cov_loc 0x4 0x3 0x0 rfl rfl hT)) (cov_loc 0x6 0x1f 0x204800000 rfl rfl hT)) (plainWrite_frame h_s (cov_loc 0x6 0x7f 0x204800000 rfl rfl hT)))
  · exact compWrite_frame h_s (cov_loc 0x6 0x7ffe 0x204800040 rfl rfl hT)
  · exact Frame.ite (granWrite_frame h_s (cov_loc 0x6 0x1ff 0x206800000 rfl rfl hT)) (Frame.ite (grpArm_frame h_s (cov_loc 0x6 0x7fffffff 0x224882000 rfl rfl hT)) (plainWrite_frame h_s (cov_loc 0x6 0x7f 0x204800000 rfl rfl hT)))
  · exact plainWrite_frame h_s (cov_loc 0x6 0x7f 0x204800000 rfl rfl hT)
  · exact Frame.ite (poseWrite_frame h_s (cov_loc 0x6 0x7f 0x204802000 rfl rfl hT)) (plainWrite_frame h_s (cov_loc 0x6 0x7f 0x204800000 rfl rfl hT))
  · exact linkWrite_frame h_s (cov_loc 0x6 0x1e7ff 0x204910000 rfl rfl hT)
  · exact capWrite_frame h_s (cov_loc 0x6 0x1fe 0x204800020 rfl rfl hT)
  · exact touchWrite_frame h_s (cov_loc 0x6 0x1e7fef 0x304a20100 rfl rfl hT)
  · exact surfWrite_frame h_s (cov_loc 0x6 0x7bfffffff 0x344801000 rfl rfl hT)
  · exact Frame.ite (boostCtrl_frame h_s (cov_loc 0x6 0x2fff 0x244801000 rfl rfl hT)) (plainWrite_frame h_s (cov_loc 0x6 0x7f 0x204800000 rfl rfl hT))
  · exact audioWrite_frame h_s (cov_loc 0x6 0x3f7ffe 0x204900008 rfl rfl hT)
  · exact encWrite_frame h_s (cov_loc 0x6 0xff 0x4800000 rfl rfl hT)
  · exact gpioWrite_frame h_s (cov_loc 0x6 0xfffb 0x204800080 rfl rfl hT)
  · exact safeWrite_frame h_s (cov_loc 0x6 0xf1ffffe 0x246911001 rfl rfl hT)
  · exact Frame.ite (lsramWrite_frame h_s (cov_loc 0x6 0x3f 0x206800000 rfl rfl hT)) (plainWrite_frame h_s (cov_loc 0x6 0x7f 0x204800000 rfl rfl hT))
  · exact plainWrite_frame h_s (cov_loc 0x6 0x7f 0x204800000 rfl rfl hT)

/-- What State.writeWord may change. -/
def writeWord_T : List Piece :=
  [.alarm, .allCtr, .allRegs, .audio, .basin, .caps, .comp, .ctl, .dram, .evSeq, .events, .flash, .free, .gfx, .hapt, .heads, .inst, .latch,
   .links, .mem, .otp, .parts, .pins, .pot, .pwr, .resp, .rings, .safe, .sent, .snap, .stage, .staged, .surf, .time, .touch, .world]

theorem writeWord_frame {LL rr s w b i off v} (h_s : Frame LL rr s) (hT : Cov writeWord_T LL) :
    Frame LL rr (State.writeWord s w b i off v) := by
  delta State.writeWord
  exact Frame.ite (hdrWrite_frame h_s (pick_sub 0xf9fedfeef rfl hT)) (by
      split
      · exact loWrite_frame h_s (cov_loc 0x6 0x1f 0x52000000 rfl rfl hT)
      · exact hiWrite_frame h_s (cov_loc 0x6 0xfff 0x52000000 rfl rfl hT)
      · split
        · rename_i a9
          have h10 := FrameC.eqBad (L := LL) (r := rr) a9 (reach_frame h_s (cov_loc 0x6 0x1f 0x12000000 rfl rfl hT))
          exact h10
        · rename_i a13
          have h14 := FrameC.eqGood (L := LL) (r := rr) a13 (reach_frame h_s (cov_loc 0x6 0x1f 0x12000000 rfl rfl hT))
          exact blkWrite_frame h14 (pick_sub 0xfffffe7ff rfl hT))

/-- What State.commitApply may change. -/
def commitApply_T : List Piece :=
  [.blk .gfx, .blk .glint, .blk .head, .blk .lantern, .blk .mirror, .ctr .basin, .ctr .head, .fld (HDR.commit_seq .gfx),
   .fld (HDR.commit_seq .glint), .fld (HDR.commit_seq .head), .fld (HDR.commit_seq .lantern), .fld (HDR.commit_seq .mirror),
   .fld (HDR.ev_raw .basin), .fld (HDR.ev_raw .gfx), .fld (HDR.ev_raw .glint), .fld (HDR.ev_raw .head), .fld (HDR.ev_raw .lantern),
   .fld (HDR.ev_raw .mirror), .fld (HDR.group .glint), .fld (HDR.group .head), .fld (HDR.pending .gfx), .fld (HDR.pending .glint),
   .fld (HDR.pending .head), .fld (HDR.pending .lantern), .fld (HDR.pending .mirror), .fld BASIN.GRP_STAT.applied, .fld BASIN.GRP_STAT.busy,
   .fld HEAD.GL_STAT.missing, .fld HEAD.GL_STAT.state, .fld LANTERN.OVL.windows, .fld LANTERN.VIS.regions, .heads, .parts, .sent, .staged]

theorem commitApply_frame {LL rr s b i} (h_s : Frame LL rr s) (hT : Cov commitApply_T LL) :
    Frame LL rr (State.commitApply s b i) := by
  delta State.commitApply
  split
  · exact Frame.ite (applySet_frame h_s (pick_sub 0x600102081 rfl hT)) h_s
  · exact Frame.ite (applyHead_frame h_s (pick_sub 0x69e489264 rfl hT)) h_s
  · exact Frame.ite (applyGlint_frame h_s (pick_sub 0x600244102 rfl hT)) h_s
  · exact Frame.foldl h_s (fun t5 x6 h7 => Frame.ite h7 (safeApply_frame h7 (pick_sub 0x760810408 rfl hT)))
  · exact Frame.foldl h_s (fun t9 x10 h11 => Frame.ite h11 (safeApply_frame h11 (pick_sub 0x761020810 rfl hT)))
  · exact h_s

/-- What State.headerCmd may change. -/
def headerCmd_T : List Piece :=
  [.ctr .pot, .err .pot, .fld (HDR.ev_raw .pot), .resp, .sent]

theorem headerCmd_frame {LL rr s w page off k} (h_s : Frame LL rr s) (h_k : ∀ y0 y1, Frame LL rr (k y0 y1)) (hT : Cov headerCmd_T LL) :
    Frame LL rr (State.headerCmd s w page off k) := by
  delta State.headerCmd
  split
  · exact h_k _ _
  · exact potRefuse_frame h_s (pick_sub 0x1f rfl hT)

/-- What State.pageWrite may change. -/
def pageWrite_T : List Piece :=
  [.alarm, .allCtr, .allRegs, .audio, .basin, .caps, .comp, .ctl, .dram, .evSeq, .events, .flash, .free, .gfx, .hapt, .heads, .inst, .latch,
   .links, .mem, .otp, .parts, .pins, .pot, .pwr, .resp, .rings, .safe, .sent, .snap, .stage, .staged, .surf, .time, .touch, .world]

theorem pageWrite_frame {LL rr s w page off v} (h_s : Frame LL rr s) (hT : Cov pageWrite_T LL) :
    Frame LL rr (State.pageWrite s w page off v) := by
  delta State.pageWrite
  split
  · exact writeWord_frame h_s (pick_sub 0xfffffffff rfl hT)
  · exact potRefuse_frame h_s (cov_loc 0x6 0x7 0x12000000 rfl rfl hT)

/-- What State.snapCopy may change. -/
def snapCopy_T : List Piece :=
  [.ctr .time, .hdr, .sent, .snap, .time]

theorem snapCopy_frame {LL rr s at_} (h_s : Frame LL rr s) (hT : Cov snapCopy_T LL) :
    Frame LL rr (State.snapCopy s at_) := by
  delta State.snapCopy
  extract_lets n_1 page_2 snap_3 u_4 s1_5
  have h_s1_5 : Frame LL rr s1_5 := by
      unfold s1_5
      exact Frame.upd h_s (m_snap := .inl (nth 3 rfl hT)) (m_time := .inl (nth 4 rfl hT))
  clear_value s1_5
  exact count_frame (Frame.foldl h_s1_5 (fun t6 x7 h8 => raise_frame h8 (cov_loc 0x2 0x1 0x4 rfl rfl hT))) (pick_sub 0x1 rfl hT)

/-- What State.snapStrobe may change. -/
def snapStrobe_T : List Piece :=
  [.ctr .time, .fld (HDR.ev_raw .time), .fld TIME.SNAP_AT.at_, .fld TIME.SNAP_CTRL.armed, .hdr, .sent, .snap, .time]

theorem snapStrobe_frame {LL rr s} (h_s : Frame LL rr s) (hT : Cov snapStrobe_T LL) :
    Frame LL rr (State.snapStrobe s) := by
  delta State.snapStrobe
  extract_lets u_1 tick_2 s1_3 per_4
  have h_s1_3 : Frame LL rr s1_3 := by
      unfold s1_3
      exact Frame.ite (snapCopy_frame h_s (pick_sub 0xf1 rfl hT)) (count_frame (raise_frame h_s (pick_sub 0x22 rfl hT)) (pick_sub 0x1 rfl hT))
  clear_value s1_3
  exact Frame.ite h_s (Frame.ite (wr_frame h_s1_3 (pick_sub 0x8 rfl hT)) (wr_frame h_s1_3 (pick_sub 0x4 rfl hT)))

/-- What execCommit may change. -/
def execCommit_T : List Piece :=
  [.allRegs, .comp, .ctr .basin, .ctr .head, .ctr .pot, .heads, .parts, .resp, .safe, .sent, .staged, .world]

theorem execCommit_frame {LL rr w page s} (h_s : Frame LL rr s) (hT : Cov execCommit_T LL) :
    FrameN LL rr (execCommit w page s) := by
  delta execCommit
  exact FrameN.next (headerCmd_frame h_s (fun x1 x2 => commitWrite_frame h_s (cov_loc 0x1 0x7ffffffffc3f 0xffe rfl rfl hT)) (cov_loc 0x1 0x6 0x290 rfl rfl hT))

/-- What execCommitApply may change. -/
def execCommitApply_T : List Piece :=
  [.blk .gfx, .blk .glint, .blk .head, .blk .lantern, .blk .mirror, .ctr .basin, .ctr .head, .fld (HDR.commit_seq .gfx),
   .fld (HDR.commit_seq .glint), .fld (HDR.commit_seq .head), .fld (HDR.commit_seq .lantern), .fld (HDR.commit_seq .mirror),
   .fld (HDR.ev_raw .basin), .fld (HDR.ev_raw .gfx), .fld (HDR.ev_raw .glint), .fld (HDR.ev_raw .head), .fld (HDR.ev_raw .lantern),
   .fld (HDR.ev_raw .mirror), .fld (HDR.group .glint), .fld (HDR.group .head), .fld (HDR.pending .gfx), .fld (HDR.pending .glint),
   .fld (HDR.pending .head), .fld (HDR.pending .lantern), .fld (HDR.pending .mirror), .fld BASIN.GRP_STAT.applied, .fld BASIN.GRP_STAT.busy,
   .fld HEAD.GL_STAT.missing, .fld HEAD.GL_STAT.state, .fld LANTERN.OVL.windows, .fld LANTERN.VIS.regions, .heads, .parts, .sent, .staged]

theorem execCommitApply_frame {LL rr page s} (h_s : Frame LL rr s) (hT : Cov execCommitApply_T LL) :
    FrameN LL rr (execCommitApply page s) := by
  delta execCommitApply
  exact FrameN.next (by
      split
      · exact commitApply_frame h_s (pick_sub 0x7ffffffff rfl hT)
      · exact h_s)

/-- What execCommitRevert may change. -/
def execCommitRevert_T : List Piece :=
  [.allRegs, .comp, .ctr .basin, .ctr .head, .ctr .pot, .heads, .parts, .resp, .safe, .sent, .staged, .world]

theorem execCommitRevert_frame {LL rr w page s} (h_s : Frame LL rr s) (hT : Cov execCommitRevert_T LL) :
    FrameN LL rr (execCommitRevert w page s) := by
  delta execCommitRevert
  exact FrameN.next (headerCmd_frame h_s (fun x1 x2 => commitWrite_frame h_s (cov_loc 0x1 0x7ffffffffc3f 0xffe rfl rfl hT)) (cov_loc 0x1 0x6 0x290 rfl rfl hT))

/-- What execErrCodeClear may change. -/
def execErrCodeClear_T : List Piece :=
  [.ctr .pot, .err .pot, .fld (HDR.ev_raw .pot), .hdr, .resp, .sent, .world]

theorem execErrCodeClear_frame {LL rr w page s} (h_s : Frame LL rr s) (hT : Cov execErrCodeClear_T LL) :
    FrameN LL rr (execErrCodeClear w page s) := by
  delta execErrCodeClear
  exact FrameN.next (headerCmd_frame h_s (fun x1 x2 => errClear_frame h_s (cov_loc 0x8 0xbfc 0x77 rfl rfl hT)) (pick_sub 0x37 rfl hT))

/-- What execEvForce may change. -/
def execEvForce_T : List Piece :=
  [.ctr .pot, .err .pot, .fld (HDR.ev_raw .pot), .hdr, .resp, .sent, .world]

theorem execEvForce_frame {LL rr w page v s} (h_s : Frame LL rr s) (hT : Cov execEvForce_T LL) :
    FrameN LL rr (execEvForce w page v s) := by
  delta execEvForce
  exact FrameN.next (headerCmd_frame h_s (fun x1 x2 => evForce_frame h_s (cov_loc 0x8 0x14 0x77 rfl rfl hT)) (pick_sub 0x37 rfl hT))

/-- What execEvRawClear may change. -/
def execEvRawClear_T : List Piece :=
  [.ctr .pot, .err .pot, .fld (HDR.ev_raw .pot), .hdr, .resp, .sent, .world]

theorem execEvRawClear_frame {LL rr w page v s} (h_s : Frame LL rr s) (hT : Cov execEvRawClear_T LL) :
    FrameN LL rr (execEvRawClear w page v s) := by
  delta execEvRawClear
  exact FrameN.next (headerCmd_frame h_s (fun x1 x2 => evClear_frame h_s (cov_loc 0x8 0x14 0x77 rfl rfl hT)) (pick_sub 0x37 rfl hT))

/-- What execLockSet may change. -/
def execLockSet_T : List Piece :=
  [.ctr .pot, .err .pot, .fld (HDR.ev_raw .pot), .hdr, .resp, .sent, .world]

theorem execLockSet_frame {LL rr w page s} (h_s : Frame LL rr s) (hT : Cov execLockSet_T LL) :
    FrameN LL rr (execLockSet w page s) := by
  delta execLockSet
  exact FrameN.next (headerCmd_frame h_s (fun x1 x2 => lockWrite_frame h_s (cov_loc 0x8 0x34 0x77 rfl rfl hT)) (pick_sub 0x37 rfl hT))

/-- What execPgOwnerWrite may change. -/
def execPgOwnerWrite_T : List Piece :=
  [.ctr .hapt, .ctr .pot, .err .pot, .fld (HDR.ev_raw .pot), .fld (HDR.ev_raw .surf), .fld HAPT.BOOST_STAT.on, .fld SURF.HV_CTRL.enable,
   .fld SURF.HV_STAT.on, .fld SURF.HV_STAT.why, .fld SURF.STREAM_CFG.enable, .fld TOUCH.RPT_CTRL.enable, .hapt, .hdr, .resp, .sent, .surf, .touch,
   .world]

theorem execPgOwnerWrite_frame {LL rr w page v s} (h_s : Frame LL rr s) (hT : Cov execPgOwnerWrite_T LL) :
    FrameN LL rr (execPgOwnerWrite w page v s) := by
  delta execPgOwnerWrite
  exact FrameN.next (headerCmd_frame h_s (fun x1 x2 => ownerWrite_frame h_s (cov_loc 0x1000 0x198 0x3efff rfl rfl hT)) (pick_sub 0x600e rfl hT))

/-- What execRegWriteHi may change. -/
def execRegWriteHi_T : List Piece :=
  [.alarm, .allCtr, .allRegs, .audio, .basin, .caps, .comp, .ctl, .dram, .evSeq, .events, .flash, .free, .gfx, .hapt, .heads, .inst, .latch,
   .links, .mem, .otp, .parts, .pins, .pot, .pwr, .resp, .rings, .safe, .sent, .snap, .stage, .staged, .surf, .time, .touch, .world]

theorem execRegWriteHi_frame {LL rr w page off v s} (h_s : Frame LL rr s) (hT : Cov execRegWriteHi_T LL) :
    FrameN LL rr (execRegWriteHi w page off v s) := by
  delta execRegWriteHi
  exact FrameN.next (by
      split
      · exact Frame.ite (hiWrite_frame h_s (cov_loc 0x6 0xfff 0x52000000 rfl rfl hT)) (writeWord_frame h_s (pick_sub 0xfffffffff rfl hT))
      · exact potRefuse_frame h_s (cov_loc 0x6 0x7 0x12000000 rfl rfl hT))

/-- What execRegisterWrite may change. -/
def execRegisterWrite_T : List Piece :=
  [.alarm, .allCtr, .allRegs, .audio, .basin, .caps, .comp, .ctl, .dram, .evSeq, .events, .flash, .free, .gfx, .hapt, .heads, .inst, .latch,
   .links, .mem, .otp, .parts, .pins, .pot, .pwr, .resp, .rings, .safe, .sent, .snap, .stage, .staged, .surf, .time, .touch, .world]

theorem execRegisterWrite_frame {LL rr w page off v s} (h_s : Frame LL rr s) (hT : Cov execRegisterWrite_T LL) :
    FrameN LL rr (execRegisterWrite w page off v s) := by
  delta execRegisterWrite
  exact FrameN.next (pageWrite_frame h_s (pick_sub 0xfffffffff rfl hT))

/-- What execSnapStrobe may change. -/
def execSnapStrobe_T : List Piece :=
  [.ctr .time, .fld (HDR.ev_raw .time), .fld TIME.SNAP_AT.at_, .fld TIME.SNAP_CTRL.armed, .hdr, .sent, .snap, .time]

theorem execSnapStrobe_frame {LL rr s} (h_s : Frame LL rr s) (hT : Cov execSnapStrobe_T LL) :
    FrameN LL rr (execSnapStrobe s) := by
  delta execSnapStrobe
  exact FrameN.next (snapStrobe_frame h_s (pick_sub 0xff rfl hT))

/-- What execSoftReset may change. -/
def execSoftReset_T : List Piece :=
  [.alarm, .allCtr, .allRegs, .audio, .caps, .comp, .ctl, .evSeq, .events, .flash, .free, .gfx, .hapt, .heads, .inst, .links, .mem, .parts, .pins,
   .pot, .pwr, .resp, .rings, .safe, .sent, .staged, .surf, .time, .touch, .world]

theorem execSoftReset_frame {LL rr w page enable s} (h_s : Frame LL rr s) (hT : Cov execSoftReset_T LL) :
    FrameN LL rr (execSoftReset w page enable s) := by
  delta execSoftReset
  exact FrameN.next (headerCmd_frame h_s (fun x1 x2 => ctrlWrite_frame h_s (pick_sub 0x3fffffff rfl hT)) (cov_loc 0x6 0x7 0x1200000 rfl rfl hT))

end Sys2Proof.Laws
end

