-- ==== Sys2Proof/Laws/FrameBoot.lean ====
section
/-! SUPPORT. What the operations and commands of Machine/Boot.lean may change: the parts of each, and that nothing else changes. -/

set_option Elab.async false

namespace Sys2Proof.Laws

open Machine

set_option maxRecDepth 8000

/-- What State.applyRec may change. -/
def applyRec_T : List Piece :=
  [.alarm, .allCtr, .allRegs, .audio, .basin, .caps, .comp, .ctl, .dram, .evSeq, .events, .faults, .flash, .free, .gfx, .hapt, .heads, .inst,
   .latch, .links, .mem, .otp, .parts, .pins, .pot, .pwr, .resp, .rings, .safe, .sent, .snap, .stage, .staged, .surf, .time, .touch, .world]

theorem applyRec_frame {LL rr s r} (h_s : Frame LL rr s) (hT : Cov applyRec_T LL) :
    Frame LL rr (State.applyRec s r) := by
  delta State.applyRec
  split
  · exact h_s
  · extract_lets u_7 t_8
    have h_u_7 : Frame LL rr u_7 := by
        unfold u_7
        exact readWord_frame h_s (cov_loc 0x6 0x3fefc 0x1034040888 rfl rfl hT)
    have h_t_8 : Frame LL rr t_8 := by
        unfold t_8
        exact Frame.ite (writeWord_frame h_s (pick_sub 0x1ffffff7ff rfl hT)) (writeWord_frame h_u_7 (pick_sub 0x1ffffff7ff rfl hT))
    clear_value u_7 t_8
    exact Frame.upd h_t_8 (m_resp := .inl (nth 26 rfl hT))

/-- What State.applyRecs may change. -/
def applyRecs_T : List Piece :=
  [.alarm, .allCtr, .allRegs, .audio, .basin, .caps, .comp, .ctl, .dram, .evSeq, .events, .faults, .flash, .free, .gfx, .hapt, .heads, .inst,
   .latch, .links, .mem, .otp, .parts, .pins, .pot, .pwr, .resp, .rings, .safe, .sent, .snap, .stage, .staged, .surf, .time, .touch, .world]

theorem applyRecs_frame {LL rr s l pick} (h_s : Frame LL rr s) (hT : Cov applyRecs_T LL) :
    Frame LL rr (State.applyRecs s l pick) := by
  delta State.applyRecs
  extract_lets u_1 t_2 u_3
  have h_t_2 : Frame LL rr t_2 := by
      unfold t_2
      exact Frame.foldl (Frame.upd h_s (m_pwr := .inl (nth 25 rfl hT))) (fun t4 x5 h6 => applyRec_frame h6 (pick_sub 0x1fffffffff rfl hT))
  clear_value t_2
  exact Frame.upd h_t_2 (m_pwr := .inl (nth 25 rfl hT))

/-- What State.bootRecs may change. -/
def bootRecs_T : List Piece :=
  [.alarm, .allCtr, .allRegs, .audio, .basin, .caps, .comp, .ctl, .dram, .evSeq, .events, .faults, .flash, .free, .gfx, .hapt, .heads, .inst,
   .latch, .links, .mem, .otp, .parts, .pins, .pot, .pwr, .resp, .rings, .safe, .sent, .snap, .stage, .staged, .surf, .time, .touch, .world]

theorem bootRecs_frame {LL rr s pick} (h_s : Frame LL rr s) (hT : Cov bootRecs_T LL) :
    Frame LL rr (State.bootRecs s pick) := by
  delta State.bootRecs
  exact applyRecs_frame h_s (pick_sub 0x1fffffffff rfl hT)

/-- What State.bootStep2 may change. -/
def bootStep2_T : List Piece :=
  [.alarm, .allCtr, .allRegs, .audio, .basin, .caps, .comp, .ctl, .dram, .evSeq, .events, .faults, .flash, .free, .gfx, .hapt, .heads, .inst,
   .latch, .links, .mem, .otp, .parts, .pins, .pot, .pwr, .resp, .rings, .safe, .sent, .snap, .stage, .staged, .surf, .time, .touch, .world]

theorem bootStep2_frame {LL rr s} (h_s : Frame LL rr s) (hT : Cov bootStep2_T LL) :
    Frame LL rr (State.bootStep2 s) := by
  delta State.bootStep2
  extract_lets u_1 s1_2
  have h_s1_2 : Frame LL rr s1_2 := by
      unfold s1_2
      exact Frame.upd h_s (m_pins := .inl (nth 23 rfl hT))
  clear_value s1_2
  exact Frame.ite (oppNote_frame (applyRecs_frame h_s1_2 (pick_sub 0x1fffffffff rfl hT)) (pick_sub 0x2000000 rfl hT)) h_s1_2

/-- What State.displayBoot may change. -/
def displayBoot_T : List Piece :=
  [.alarm, .allCtr, .allRegs, .audio, .basin, .caps, .comp, .ctl, .dram, .evSeq, .events, .faults, .flash, .free, .gfx, .hapt, .heads, .inst,
   .latch, .links, .mem, .otp, .parts, .pins, .pot, .pwr, .resp, .rings, .safe, .sent, .snap, .stage, .staged, .surf, .time, .touch, .world]

theorem displayBoot_frame {LL rr s} (h_s : Frame LL rr s) (hT : Cov displayBoot_T LL) :
    Frame LL rr (State.displayBoot s) := by
  delta State.displayBoot
  extract_lets s1_1 s2_2 u_3
  have h_s1_1 : Frame LL rr s1_1 := by
      unfold s1_1
      exact Frame.ite h_s (wr_frame (wr_frame (wr_frame (wr_frame h_s (cov_loc 0x4 0x1 0x0 rfl rfl hT)) (cov_loc 0x4 0x1 0x0 rfl rfl hT)) (cov_loc 0x4 0x1 0x0 rfl rfl hT)) (cov_loc 0x4 0x1 0x0 rfl rfl hT))
  have h_s2_2 : Frame LL rr s2_2 := by
      unfold s2_2
      exact bootRecs_frame h_s1_1 (pick_sub 0x1fffffffff rfl hT)
  clear_value s1_1 s2_2
  exact Frame.upd h_s2_2 (m_pwr := .inl (nth 25 rfl hT))

/-- What State.giveBack may change. -/
def giveBack_T : List Piece :=
  [.allRegs]

theorem giveBack_frame {LL rr s old} (h_s : Frame LL rr s) (hT : Cov giveBack_T LL) :
    Frame LL rr (State.giveBack s old) := by
  delta State.giveBack
  exact Frame.foldl h_s (fun t1 x2 h3 => by
      simp only [retained, List.foldl_cons, List.foldl_nil]
      exact Frame.foldl h3 (fun t4 x5 h6 => wr_frame h6 (cov_loc 0x1 0x1 0x0 rfl rfl hT)))

/-- What State.keepDram may change. -/
def keepDram_T : List Piece :=
  [.dram, .mem, .pwr, .rings]

theorem keepDram_frame {LL rr s old} (h_s : Frame LL rr s) (hT : Cov keepDram_T LL) :
    Frame LL rr (State.keepDram s old) := by
  delta State.keepDram
  exact Frame.upd h_s (m_dram := .inl (nth 0 rfl hT)) (m_mem := .inl (nth 1 rfl hT)) (m_rings := .inl (nth 3 rfl hT)) (m_pwr := .inl (nth 2 rfl hT))

/-- What State.loadManager may change. -/
def loadManager_T : List Piece :=
  [.dram, .fld BOOT.BOOT_STAT.mgr_bad, .pwr]

theorem loadManager_frame {LL rr s c} (h_s : Frame LL rr s) (hT : Cov loadManager_T LL) :
    Frame LL rr (State.loadManager s c) := by
  delta State.loadManager
  extract_lets d_1 s1_2 u_3
  have h_s1_2 : Frame LL rr s1_2 := by
      unfold s1_2
      exact wrBytes_frame h_s (pick_sub 0x1 rfl hT)
  clear_value s1_2
  exact Frame.ite (Frame.upd h_s1_2 (m_pwr := .inl (nth 2 rfl hT))) (wr_frame h_s1_2 (pick_sub 0x2 rfl hT))

/-- What State.loadSafety may change. -/
def loadSafety_T : List Piece :=
  [.fld SAFE.ISL_STAT.fw_running, .safe]

theorem loadSafety_frame {LL rr s c} (h_s : Frame LL rr s) (hT : Cov loadSafety_T LL) :
    Frame LL rr (State.loadSafety s c) := by
  delta State.loadSafety
  extract_lets d_1 m_2 u_3
  exact wr_frame (Frame.upd h_s (m_safe := .inl (nth 1 rfl hT))) (pick_sub 0x1 rfl hT)

/-- What State.selectCopy may change. -/
def selectCopy_T : List Piece :=
  [.fld BOOT.BOOT_STAT.a_reason, .fld BOOT.BOOT_STAT.b_reason, .fld BOOT.BOOT_STAT.factory_only, .fld BOOT.BOOT_STAT.identical,
   .fld BOOT.BOOT_STAT.key_slot, .fld BOOT.BOOT_STAT.nv_conflict, .fld BOOT.BOOT_STAT.sel, .fld BOOT.GEN_A.generation, .fld BOOT.GEN_B.generation,
   .pwr]

theorem selectCopy_frame {LL rr s errA errB} (h_s : Frame LL rr s) (hT : Cov selectCopy_T LL) :
    Frame LL rr (State.selectCopy s errA errB) := by
  delta State.selectCopy
  extract_lets ra_1 rb_2
  split
  · extract_lets c_8 s1_9 u_10
    have h_s1_9 : Frame LL rr s1_9 := by
        unfold s1_9
        simp only [List.foldl_cons, List.foldl_nil]
        exact wr_frame (wr_frame (wr_frame (wr_frame (wr_frame (wr_frame (wr_frame (wr_frame (wr_frame h_s (pick_sub 0x1 rfl hT)) (pick_sub 0x2 rfl hT)) (pick_sub 0x40 rfl hT)) (pick_sub 0x8 rfl hT)) (pick_sub 0x20 rfl hT)) (pick_sub 0x4 rfl hT)) (pick_sub 0x10 rfl hT)) (pick_sub 0x80 rfl hT)) (pick_sub 0x100 rfl hT)
    clear_value s1_9
    exact Frame.upd h_s1_9 (m_pwr := .inl (nth 9 rfl hT))

/-- What State.safetyBoot may change. -/
def safetyBoot_T : List Piece :=
  [.alarm, .allCtr, .allRegs, .audio, .basin, .caps, .comp, .ctl, .dram, .evSeq, .events, .faults, .flash, .free, .gfx, .hapt, .heads, .inst,
   .latch, .links, .mem, .otp, .parts, .pins, .pot, .pwr, .resp, .rings, .safe, .sent, .snap, .stage, .staged, .surf, .time, .touch, .world]

theorem safetyBoot_frame {LL rr s} (h_s : Frame LL rr s) (hT : Cov safetyBoot_T LL) :
    Frame LL rr (State.safetyBoot s) := by
  delta State.safetyBoot
  extract_lets s1_1 u_2 u_3 u_4 s2_5 s3_6
  have h_s1_1 : Frame LL rr s1_1 := by
      unfold s1_1
      exact bootRecs_frame h_s (pick_sub 0x1fffffffff rfl hT)
  have h_s2_5 : Frame LL rr s2_5 := by
      unfold s2_5
      exact Frame.upd h_s1_1 (m_pins := .inl (nth 23 rfl hT)) (m_safe := .inl (nth 28 rfl hT)) (m_pwr := .inl (nth 25 rfl hT))
  have h_s3_6 : Frame LL rr s3_6 := by
      unfold s3_6
      split
      · exact loadSafety_frame h_s2_5 (cov_loc 0x4 0x1 0x10000000 rfl rfl hT)
      · exact h_s2_5
  clear_value s1_1 s2_5 s3_6
  exact ampPins_frame (linkPins_frame h_s3_6 (pick_sub 0x880000 rfl hT)) (pick_sub 0x800000 rfl hT)

/-- What State.mainInit may change. -/
def mainInit_T : List Piece :=
  [.fld DRAMQ.ADMIT_USED.used, .fld DRAMQ.PORT_STAT.admit_seq, .fld GFX.CTX_STAT.local, .fld GFX.CTX_STAT.owner, .fld GFX.CTX_STAT.state,
   .fld SURF.CH_CAL.drift, .fld SURF.CH_CAL.source, .fld SURF.CH_CAL.status, .fld SURF.CH_RES.f_res, .fld SURF.CH_RES.q, .fld SURF.CH_RES2.cap_nf,
   .fld SURF.CH_RES2.f_ring, .fld SURF.CH_STAT.oc, .fld SURF.CH_STAT.service_due, .fld SURF.CH_STAT.wear_warn, .fld SURF.CH_WEAR.count,
   .fld SURF.ID_INFO.trk, .fld SURF.ID_INFO.wake_ok, .fld SURF.ID_SERIAL.serial, .fld SURF.SURF_STAT.auth, .fld SURF.SURF_STAT.present,
   .fld SURF.SURF_STAT.state, .fld SURF.SURF_STAT.wear_unknown, .fld SURF.SURF_STAT.wear_write_fail, .fld SURF.WEAR_SEQ.seq, .mem, .surf]

theorem mainInit_frame {LL rr s} (h_s : Frame LL rr s) (hT : Cov mainInit_T LL) :
    Frame LL rr (State.mainInit s) := by
  delta State.mainInit
  extract_lets s1_1 s2_2
  have h_s1_1 : Frame LL rr s1_1 := by
      unfold s1_1
      exact resizeCtx_frame h_s (pick_sub 0x1c rfl hT)
  have h_s2_2 : Frame LL rr s2_2 := by
      unfold s2_2
      exact Frame.foldl h_s1_1 (fun t3 x4 h5 => by
          extract_lets r_6 u_7
          exact Frame.ite h5 (wr_frame (wr_frame (Frame.upd h5 (m_mem := .inl (nth 25 rfl hT))) (pick_sub 0x2 rfl hT)) (pick_sub 0x1 rfl hT)))
  clear_value s1_1 s2_2
  exact Frame.foldl h_s2_2 (fun t8 x9 h10 => by
      extract_lets u_11
      have h_u_11 : Frame LL rr u_11 := by
          unfold u_11
          exact wrB_frame h10 (pick_sub 0x100000 rfl hT)
      clear_value u_11
      exact Frame.ite (portOn_frame h_u_11 (pick_sub 0x5efffe0 rfl hT)) h_u_11)

/-- What State.trainSub may change. -/
def trainSub_T : List Piece :=
  [.err .dram, .fld (HDR.ev_raw .dram), .fld DRAM.RANK_MAP.map, .fld DRAM.REPLAY_CFG.alert_delay, .fld DRAM.SUB_STAT.spare_avail,
   .fld DRAM.SUB_STAT.trained, .fld DRAM.TIMING0.cl, .fld DRAM.TIMING0.cwl, .fld DRAM.TIMING0.trcd, .fld DRAM.TIMING0.trp, .fld DRAM.TIMING1.tras,
   .fld DRAM.TIMING1.trc, .fld DRAM.TIMING1.trtp, .fld DRAM.TIMING1.twr, .fld DRAM.TIMING2.tccd_l, .fld DRAM.TIMING2.tccd_s,
   .fld DRAM.TIMING2.trrd_s, .fld DRAM.TIMING2.twtr, .fld DRAM.TIMING3.tfaw, .fld DRAM.TIMING3.trefi, .fld DRAM.TIMING3.trrd_l,
   .fld DRAM.TIMING4.trfc, .fld DRAM.TRAIN_STAT.pass, .sent]

theorem trainSub_frame {LL rr s n pass delay} (h_s : Frame LL rr s) (hT : Cov trainSub_T LL) :
    FrameP LL rr (State.trainSub s n pass delay) := by
  delta State.trainSub
  extract_lets k_1 p_2 s1_3 s2_4 s3_5 spare_6 lost_7 m_8
  have h_s1_3 : Frame LL rr s1_3 := by
      unfold s1_3
      exact wr_frame (by
          simp only [dramTimings, List.foldl_cons, List.foldl_nil]
          exact wr_frame (wr_frame (wr_frame (wr_frame (wr_frame (wr_frame (wr_frame (wr_frame (wr_frame (wr_frame (wr_frame (wr_frame (wr_frame (wr_frame (wr_frame (wr_frame h_s (pick_sub 0x40 rfl hT)) (pick_sub 0x80 rfl hT)) (pick_sub 0x100 rfl hT)) (pick_sub 0x200 rfl hT)) (pick_sub 0x400 rfl hT)) (pick_sub 0x800 rfl hT)) (pick_sub 0x2000 rfl hT)) (pick_sub 0x1000 rfl hT)) (pick_sub 0x20000 rfl hT)) (pick_sub 0x8000 rfl hT)) (pick_sub 0x4000 rfl hT)) (pick_sub 0x10000 rfl hT)) (pick_sub 0x100000 rfl hT)) (pick_sub 0x40000 rfl hT)) (pick_sub 0x80000 rfl hT)) (pick_sub 0x200000 rfl hT)) (pick_sub 0x400000 rfl hT)
  have h_s2_4 : Frame LL rr s2_4 := by
      unfold s2_4
      exact wr_frame h_s1_3 (pick_sub 0x8 rfl hT)
  have h_s3_5 : Frame LL rr s3_5 := by
      unfold s3_5
      exact Frame.foldl h_s2_4 (fun t9 x10 h11 => Frame.ite h11 (recErr_frame h11 (pick_sub 0x800003 rfl hT)))
  clear_value s1_3 s2_4 s3_5
  clear_value lost_7
  split
  · exact FrameP.mk (wrB_frame (wr_frame h_s3_5 (pick_sub 0x20 rfl hT)) (pick_sub 0x10 rfl hT))
  · exact FrameP.ite (by
        extract_lets old_15 m1_16
        exact FrameP.mk (wr_frame (wr_frame (wr_frame h_s3_5 (pick_sub 0x4 rfl hT)) (pick_sub 0x20 rfl hT)) (pick_sub 0x10 rfl hT))) (FrameP.mk h_s3_5)
  · exact FrameP.mk h_s3_5

/-- What State.train may change. -/
def train_T : List Piece :=
  [.err .dram, .fld (HDR.ev_raw .dram), .fld DRAM.RANK_MAP.map, .fld DRAM.REPLAY_CFG.alert_delay, .fld DRAM.SUB_STAT.spare_avail,
   .fld DRAM.SUB_STAT.trained, .fld DRAM.TIMING0.cl, .fld DRAM.TIMING0.cwl, .fld DRAM.TIMING0.trcd, .fld DRAM.TIMING0.trp, .fld DRAM.TIMING1.tras,
   .fld DRAM.TIMING1.trc, .fld DRAM.TIMING1.trtp, .fld DRAM.TIMING1.twr, .fld DRAM.TIMING2.tccd_l, .fld DRAM.TIMING2.tccd_s,
   .fld DRAM.TIMING2.trrd_s, .fld DRAM.TIMING2.twtr, .fld DRAM.TIMING3.tfaw, .fld DRAM.TIMING3.trefi, .fld DRAM.TIMING3.trrd_l,
   .fld DRAM.TIMING4.trfc, .fld DRAM.TRAIN_STAT.pass, .sent]

theorem train_frame {LL rr s pass delay} (h_s : Frame LL rr s) (hT : Cov train_T LL) :
    FrameP LL rr (State.train s pass delay) := by
  delta State.train
  exact FrameP.foldl (FrameP.mk h_s) (fun t1 x2 h3 => by
      split
      · rename_i a7
        have h8 := FrameP.eq (L := LL) (r := rr) a7 (trainSub_frame (FrameP.fst h3) (pick_sub 0xffffff rfl hT))
        exact FrameP.mk h8)

/-- What State.railRun may change. -/
def railRun_T : List Piece :=
  [.ctr .pwr, .fld (HDR.ev_raw .pwr), .fld CLK.PLL_STAT.mhz, .fld PWR.RAIL_STAT.ack_seq, .fld PWR.RAIL_STAT.cmd_seq, .fld PWR.RAIL_STAT.freq_held,
   .fld PWR.RAIL_STAT.slewing, .fld PWR.RAIL_STAT.target_mv, .pwr, .sent]

theorem railRun_frame {LL rr s n} (h_s : Frame LL rr s) (hT : Cov railRun_T LL) :
    Frame LL rr (State.railRun s n) := by
  delta State.railRun
  exact Frame.ite h_s (railAck_frame (railTo_frame h_s (pick_sub 0x1d1 rfl hT)) (pick_sub 0x26e rfl hT))

/-- What State.toRun may change. -/
def toRun_T : List Piece :=
  [.ctr .hapt, .ctr .pwr, .fld (HDR.ev_raw .pwr), .fld (HDR.ev_raw .surf), .fld HAPT.BOOST_STAT.on, .fld PWR.STATE.state, .fld PWR.STATE.step,
   .fld PWR.STATE.target, .fld PWR.WAKE_CAUSE.first, .fld PWR.WAKE_CAUSE.replayed, .fld PWR.WAKE_CAUSE.source, .fld SURF.HV_STAT.on,
   .fld SURF.HV_STAT.why, .hapt, .pwr, .sent, .surf]

theorem toRun_frame {LL rr s} (h_s : Frame LL rr s) (hT : Cov toRun_T LL) :
    Frame LL rr (State.toRun s) := by
  delta State.toRun
  extract_lets l_1 s1_2 s2_3 u_4 s3_5
  have h_s1_2 : Frame LL rr s1_2 := by
      unfold s1_2
      exact pwrStep_frame h_s (pick_sub 0x40e0 rfl hT)
  have h_s2_3 : Frame LL rr s2_3 := by
      unfold s2_3
      exact Frame.ite h_s1_2 (wr_frame (Frame.foldl h_s1_2 (fun t6 x7 h8 => count_frame (wakeNote_frame h8 (pick_sub 0x500 rfl hT)) (pick_sub 0x2 rfl hT))) (pick_sub 0x200 rfl hT))
  have h_s3_5 : Frame LL rr s3_5 := by
      unfold s3_5
      exact Frame.upd h_s2_3 (m_pwr := .inl (nth 14 rfl hT))
  clear_value s1_2 s2_3 s3_5
  exact hvSync_frame (Frame.ite (raise_frame h_s3_5 (pick_sub 0x8004 rfl hT)) h_s3_5) (pick_sub 0x1b819 rfl hT)

/-- What State.mainBoot may change. -/
def mainBoot_T : List Piece :=
  [.alarm, .allCtr, .allRegs, .audio, .basin, .caps, .comp, .ctl, .dram, .evSeq, .events, .faults, .flash, .free, .gfx, .hapt, .heads, .inst,
   .latch, .links, .mem, .otp, .parts, .pins, .pot, .pwr, .resp, .rings, .safe, .sent, .snap, .stage, .staged, .surf, .time, .touch, .world]

theorem mainBoot_frame {LL rr s errA errB pass delay} (h_s : Frame LL rr s) (hT : Cov mainBoot_T LL) :
    Frame LL rr (State.mainBoot s errA errB pass delay) := by
  delta State.mainBoot
  extract_lets s0_1 s1_2 s2_3 u_4 s3_5 s4_6 s5_7 both_8 s6_9 s7_10 s8_11
  have h_s0_1 : Frame LL rr s0_1 := by
      unfold s0_1
      exact wr_frame h_s (cov_loc 0x4 0x1 0x0 rfl rfl hT)
  have h_s1_2 : Frame LL rr s1_2 := by
      unfold s1_2
      exact Frame.ite h_s0_1 (selectCopy_frame h_s0_1 (cov_loc 0x4 0x1ff 0x2000000 rfl rfl hT))
  have h_s2_3 : Frame LL rr s2_3 := by
      unfold s2_3
      exact Frame.ite (applyRecs_frame h_s1_2 (pick_sub 0x1fffffffff rfl hT)) h_s1_2
  have h_s3_5 : Frame LL rr s3_5 := by
      unfold s3_5
      exact Frame.upd h_s2_3 (m_pwr := .inl (nth 25 rfl hT))
  have h_s4_6 : Frame LL rr s4_6 := by
      unfold s4_6
      exact Frame.ite (displayReset_frame (safetyReset_frame h_s3_5 (pick_sub 0x3f2c4b807 rfl hT)) (pick_sub 0x1e28d0006 rfl hT)) h_s3_5
  have h_s5_7 : Frame LL rr s5_7 := by
      unfold s5_7
      exact Frame.ite h_s4_6 (safetyBoot_frame h_s4_6 (pick_sub 0x1fffffffff rfl hT))
  have h_s6_9 : Frame LL rr s6_9 := by
      unfold s6_9
      exact mainInit_frame h_s5_7 (cov_loc 0x4 0x1ffffff 0x200100000 rfl rfl hT)
  have h_s7_10 : Frame LL rr s7_10 := by
      unfold s7_10
      exact Frame.ite (displayBoot_frame (bootRecs_frame h_s6_9 (pick_sub 0x1fffffffff rfl hT)) (pick_sub 0x1fffffffff rfl hT)) h_s6_9
  have h_s8_11 : Frame LL rr s8_11 := by
      unfold s8_11
      exact bootRecs_frame h_s7_10 (pick_sub 0x1fffffffff rfl hT)
  clear_value s0_1 s1_2 s2_3 s3_5 s4_6 s5_7 s6_9 s7_10 s8_11
  split
  · rename_i a15
    have h16 := FrameP.eq (L := LL) (r := rr) a15 (train_frame h_s8_11 (cov_loc 0x4 0x7fffff 0x20000000 rfl rfl hT))
    extract_lets u_17 u_18 s10_19 s11_20 s12_21 s13_22
    have h_s10_19 : Frame LL rr s10_19 := by
        unfold s10_19
        exact Frame.upd h16 (m_dram := .inl (nth 8 rfl hT)) (m_basin := .inl (nth 4 rfl hT)) (m_pins := .inl (nth 23 rfl hT)) (m_pwr := .inl (nth 25 rfl hT))
    have h_s11_20 : Frame LL rr s11_20 := by
        unfold s11_20
        exact headPlls_frame (clocksStart_frame (Frame.foldl h_s10_19 (fun t23 x24 h25 => railRun_frame h25 (cov_loc 0x6 0xff 0x22000000 rfl rfl hT))) (cov_loc 0x4 0x7 0x2000000 rfl rfl hT)) (cov_loc 0x4 0x7 0x0 rfl rfl hT)
    have h_s12_21 : Frame LL rr s12_21 := by
        unfold s12_21
        exact wr_frame h_s11_20 (cov_loc 0x4 0x1 0x0 rfl rfl hT)
    have h_s13_22 : Frame LL rr s13_22 := by
        unfold s13_22
        split
        · exact Frame.ite (loadManager_frame h_s12_21 (cov_loc 0x4 0x2 0x2000100 rfl rfl hT)) h_s12_21
        · exact h_s12_21
    clear_value s10_19 s11_20 s12_21 s13_22
    exact Frame.ite (wr_frame h_s13_22 (cov_loc 0x4 0x1 0x0 rfl rfl hT)) (toRun_frame (wr_frame h_s13_22 (cov_loc 0x4 0x1 0x0 rfl rfl hT)) (cov_loc 0x6 0x1fff 0x222008000 rfl rfl hT))

/-- What State.railGood may change. -/
def railGood_T : List Piece :=
  [.alarm, .allCtr, .allRegs, .audio, .basin, .caps, .comp, .ctl, .dram, .evSeq, .events, .faults, .flash, .free, .gfx, .hapt, .heads, .inst,
   .latch, .links, .mem, .otp, .parts, .pins, .pot, .pwr, .resp, .rings, .safe, .sent, .snap, .stage, .staged, .surf, .time, .touch, .world]

theorem railGood_frame {LL rr s} (h_s : Frame LL rr s) (hT : Cov railGood_T LL) :
    Frame LL rr (State.railGood s) := by
  delta State.railGood
  exact Frame.ite h_s (by
      extract_lets n_1 u_2 s1_3 s2_4 u_5 u_6
      have h_s1_3 : Frame LL rr s1_3 := by
          unfold s1_3
          exact Frame.upd h_s (m_pwr := .inl (nth 25 rfl hT))
      have h_s2_4 : Frame LL rr s2_4 := by
          unfold s2_4
          exact Frame.ite (bootStep2_frame h_s1_3 (pick_sub 0x1fffffffff rfl hT)) (by
              split
              · exact Frame.ite (railRun_frame h_s1_3 (cov_loc 0x6 0xff 0x22000000 rfl rfl hT)) h_s1_3
              · exact h_s1_3)
      clear_value s1_3 s2_4
      exact Frame.ite (Frame.upd h_s2_4 (m_pins := .inl (nth 23 rfl hT)) (m_pwr := .inl (nth 25 rfl hT))) h_s2_4)

/-- What State.remake may change. -/
def remake_T : List Piece :=
  [.alarm, .allCtr, .allRegs, .audio, .basin, .caps, .comp, .ctl, .dram, .evSeq, .events, .faults, .flash, .free, .gfx, .hapt, .heads, .inst,
   .latch, .links, .mem, .otp, .parts, .pins, .pot, .pwr, .resp, .rings, .safe, .sent, .snap, .stage, .staged, .surf, .time, .touch, .world]

theorem remake_frame {LL rr s} (h_s : Frame LL rr s) (hT : Cov remake_T LL) :
    Frame LL rr (State.remake s) := by
  delta State.remake
  extract_lets s2_1 s3_2 s4_3 s5_4 u_5
  have h_s2_1 : Frame LL rr s2_1 := by
      unfold s2_1
      exact keepDram_frame (displayReset_frame (clearMain_frame h_s (pick_sub 0x1bcbd7c7fe rfl hT)) (pick_sub 0x1e28d0006 rfl hT)) (pick_sub 0xa100100 rfl hT)
  have h_s3_2 : Frame LL rr s3_2 := by
      unfold s3_2
      exact bootRecs_frame (bootRecs_frame (mainInit_frame h_s2_1 (cov_loc 0x4 0x1ffffff 0x200100000 rfl rfl hT)) (pick_sub 0x1fffffffff rfl hT)) (pick_sub 0x1fffffffff rfl hT)
  have h_s4_3 : Frame LL rr s4_3 := by
      unfold s4_3
      exact bootRecs_frame h_s3_2 (pick_sub 0x1fffffffff rfl hT)
  have h_s5_4 : Frame LL rr s5_4 := by
      unfold s5_4
      exact giveBack_frame h_s4_3 (pick_sub 0x4 rfl hT)
  clear_value s2_1 s3_2 s4_3 s5_4
  exact clocksStart_frame (Frame.upd h_s5_4 (m_dram := .inl (nth 8 rfl hT)) (m_pwr := .inl (nth 25 rfl hT))) (cov_loc 0x4 0x7 0x2000000 rfl rfl hT)

/-- What State.startHart may change. -/
def startHart_T : List Piece :=
  [.world]

theorem startHart_frame {LL rr s pc} (h_s : Frame LL rr s) (hT : Cov startHart_T LL) :
    Frame LL rr (State.startHart s pc) := by
  delta State.startHart
  exact Frame.upd h_s (m_world := .inl (nth 0 rfl hT))

/-- What State.resume may change. -/
def resume_T : List Piece :=
  [.ctr .hapt, .ctr .pwr, .ctr .safe, .err .dram, .fld (HDR.ev_raw .dram), .fld (HDR.ev_raw .pwr), .fld (HDR.ev_raw .surf),
   .fld (HDR.ev_raw .touch), .fld DRAM.SPARE_STAT.cause, .fld DRAM.SPARE_STAT.deferred, .fld DRAM.SPARE_STAT.done_64k, .fld DRAM.SPARE_STAT.rank,
   .fld DRAM.SPARE_STAT.state, .fld HAPT.BOOST_STAT.on, .fld LINK.LINK_STAT.lanes_active, .fld LINK.LINK_STAT.rate_active,
   .fld LINK.LINK_STAT.state, .fld PWR.STATE.state, .fld PWR.STATE.step, .fld PWR.STATE.target, .fld PWR.WAKE_CAUSE.first,
   .fld PWR.WAKE_CAUSE.replayed, .fld PWR.WAKE_CAUSE.source, .fld SAFE.HEAD_SRC.bl_off, .fld SAFE.HEAD_SRC.blank, .fld SAFE.HEAD_SRC.fallback,
   .fld SURF.HV_STAT.on, .fld SURF.HV_STAT.why, .fld TOUCH.TILE_STAT.state, .fld TOUCH.WAKE_STAT.gesture, .fld TOUCH.WAKE_STAT.woke, .hapt, .links,
   .mem, .pins, .pwr, .sent, .surf, .touch, .world]

theorem resume_frame {LL rr s} (h_s : Frame LL rr s) (hT : Cov resume_T LL) :
    Frame LL rr (State.resume s) := by
  delta State.resume
  exact toRun_frame (startDeferred_frame (touchResume_frame (unblank_frame (startHart_frame h_s (pick_sub 0x8000000000 rfl hT)) (pick_sub 0xd0381c004 rfl hT)) (pick_sub 0x5870000080 rfl hT)) (pick_sub 0x1200001f18 rfl hT)) (pick_sub 0x388c7e2063 rfl hT)

/-- What State.setReason may change. -/
def setReason_T : List Piece :=
  [.fld BOOT.BOOT_STAT.a_reason, .fld BOOT.BOOT_STAT.b_reason, .fld BOOT.GEN_A.generation, .fld BOOT.GEN_B.generation]

theorem setReason_frame {LL rr s c r} (h_s : Frame LL rr s) (hT : Cov setReason_T LL) :
    Frame LL rr (State.setReason s c r) := by
  delta State.setReason
  exact Frame.ite (wr_frame (wr_frame h_s (pick_sub 0x1 rfl hT)) (pick_sub 0x4 rfl hT)) (wr_frame (wr_frame h_s (pick_sub 0x2 rfl hT)) (pick_sub 0x8 rfl hT))

/-- What State.safetyDomainBoot may change. -/
def safetyDomainBoot_T : List Piece :=
  [.alarm, .allCtr, .allRegs, .audio, .basin, .caps, .comp, .ctl, .dram, .evSeq, .events, .faults, .flash, .free, .gfx, .hapt, .heads, .inst,
   .latch, .links, .mem, .otp, .parts, .pins, .pot, .pwr, .resp, .rings, .safe, .sent, .snap, .stage, .staged, .surf, .time, .touch, .world]

theorem safetyDomainBoot_frame {LL rr s readErr} (h_s : Frame LL rr s) (hT : Cov safetyDomainBoot_T LL) :
    Frame LL rr (State.safetyDomainBoot s readErr) := by
  delta State.safetyDomainBoot
  exact Frame.ite h_s (by
      split
      · exact safetyBoot_frame h_s (pick_sub 0x1fffffffff rfl hT)
      · extract_lets r_6 u_7 s1_8
        have h_s1_8 : Frame LL rr s1_8 := by
            unfold s1_8
            exact Frame.upd h_s (m_pins := .inl (nth 23 rfl hT))
        clear_value s1_8
        exact Frame.ite (safetyBoot_frame h_s (pick_sub 0x1fffffffff rfl hT)) (wr_frame (setReason_frame h_s1_8 (cov_loc 0x4 0xf 0x0 rfl rfl hT)) (cov_loc 0x4 0x1 0x0 rfl rfl hT)))

/-- What execDisplayDomainReset may change. -/
def execDisplayDomainReset_T : List Piece :=
  [.alarm, .allCtr, .allRegs, .audio, .basin, .caps, .comp, .ctl, .dram, .evSeq, .events, .faults, .flash, .free, .gfx, .hapt, .heads, .inst,
   .latch, .links, .mem, .otp, .parts, .pins, .pot, .pwr, .resp, .rings, .safe, .sent, .snap, .stage, .staged, .surf, .time, .touch, .world]

theorem execDisplayDomainReset_frame {LL rr s} (h_s : Frame LL rr s) (hT : Cov execDisplayDomainReset_T LL) :
    FrameN LL rr (execDisplayDomainReset s) := by
  delta execDisplayDomainReset
  exact FrameN.next (Frame.ite (displayBoot_frame h_s (pick_sub 0x1fffffffff rfl hT)) h_s)

/-- What execExitLogicReady may change. -/
def execExitLogicReady_T : List Piece :=
  [.alarm, .allCtr, .allRegs, .audio, .basin, .caps, .comp, .ctl, .dram, .evSeq, .events, .faults, .flash, .free, .gfx, .hapt, .heads, .inst,
   .latch, .links, .mem, .otp, .parts, .pins, .pot, .pwr, .resp, .rings, .safe, .sent, .snap, .stage, .staged, .surf, .time, .touch, .world]

theorem execExitLogicReady_frame {LL rr readErr s} (h_s : Frame LL rr s) (hT : Cov execExitLogicReady_T LL) :
    FrameN LL rr (execExitLogicReady readErr s) := by
  delta execExitLogicReady
  exact FrameN.next (Frame.ite h_s (Frame.ite (resume_frame h_s (cov_loc 0x6 0x7fffffff 0x1a22988000 rfl rfl hT)) (by
      split
      · exact coldStart_frame h_s (pick_sub 0x1bebdfc7fe rfl hT)
      · extract_lets r_6
        exact Frame.ite (resume_frame (remake_frame h_s (pick_sub 0x1fffffffff rfl hT)) (cov_loc 0x6 0x7fffffff 0x1a22988000 rfl rfl hT)) (wr_frame (wr_frame (setReason_frame (coldStart_frame h_s (pick_sub 0x1bebdfc7fe rfl hT)) (cov_loc 0x4 0xf 0x0 rfl rfl hT)) (cov_loc 0x4 0x1 0x0 rfl rfl hT)) (cov_loc 0x4 0x1 0x0 rfl rfl hT)))))

/-- What execMainBoot may change. -/
def execMainBoot_T : List Piece :=
  [.alarm, .allCtr, .allRegs, .audio, .basin, .caps, .comp, .ctl, .dram, .evSeq, .events, .faults, .flash, .free, .gfx, .hapt, .heads, .inst,
   .latch, .links, .mem, .otp, .parts, .pins, .pot, .pwr, .resp, .rings, .safe, .sent, .snap, .stage, .staged, .surf, .time, .touch, .world]

theorem execMainBoot_frame {LL rr errA errB pass delay s} (h_s : Frame LL rr s) (hT : Cov execMainBoot_T LL) :
    FrameN LL rr (execMainBoot errA errB pass delay s) := by
  delta execMainBoot
  exact FrameN.next (Frame.ite (mainBoot_frame h_s (pick_sub 0x1fffffffff rfl hT)) h_s)

/-- What execManagerRelease may change. -/
def execManagerRelease_T : List Piece :=
  [.ctr .hapt, .ctr .pwr, .fld (HDR.ev_raw .pwr), .fld (HDR.ev_raw .surf), .fld HAPT.BOOST_STAT.on, .fld PWR.STATE.state, .fld PWR.STATE.step,
   .fld PWR.STATE.target, .fld PWR.WAKE_CAUSE.first, .fld PWR.WAKE_CAUSE.replayed, .fld PWR.WAKE_CAUSE.source, .fld SURF.HV_STAT.on,
   .fld SURF.HV_STAT.why, .hapt, .pwr, .sent, .surf, .world]

theorem execManagerRelease_frame {LL rr s} (h_s : Frame LL rr s) (hT : Cov execManagerRelease_T LL) :
    FrameN LL rr (execManagerRelease s) := by
  delta execManagerRelease
  exact FrameN.next (by
      split
      · exact Frame.ite (by
            extract_lets s1_4 u_5
            have h_s1_4 : Frame LL rr s1_4 := by
                unfold s1_4
                exact startHart_frame h_s (pick_sub 0x20000 rfl hT)
            clear_value s1_4
            exact toRun_frame (Frame.upd h_s1_4 (m_pwr := .inl (nth 14 rfl hT))) (pick_sub 0x1ffff rfl hT)) h_s
      · exact h_s)

/-- What execRailGood may change. -/
def execRailGood_T : List Piece :=
  [.alarm, .allCtr, .allRegs, .audio, .basin, .caps, .comp, .ctl, .dram, .evSeq, .events, .faults, .flash, .free, .gfx, .hapt, .heads, .inst,
   .latch, .links, .mem, .otp, .parts, .pins, .pot, .pwr, .resp, .rings, .safe, .sent, .snap, .stage, .staged, .surf, .time, .touch, .world]

theorem execRailGood_frame {LL rr s} (h_s : Frame LL rr s) (hT : Cov execRailGood_T LL) :
    FrameN LL rr (execRailGood s) := by
  delta execRailGood
  exact FrameN.next (railGood_frame h_s (pick_sub 0x1fffffffff rfl hT))

/-- What execSafetyDomainBoot may change. -/
def execSafetyDomainBoot_T : List Piece :=
  [.alarm, .allCtr, .allRegs, .audio, .basin, .caps, .comp, .ctl, .dram, .evSeq, .events, .faults, .flash, .free, .gfx, .hapt, .heads, .inst,
   .latch, .links, .mem, .otp, .parts, .pins, .pot, .pwr, .resp, .rings, .safe, .sent, .snap, .stage, .staged, .surf, .time, .touch, .world]

theorem execSafetyDomainBoot_frame {LL rr readErr s} (h_s : Frame LL rr s) (hT : Cov execSafetyDomainBoot_T LL) :
    FrameN LL rr (execSafetyDomainBoot readErr s) := by
  delta execSafetyDomainBoot
  exact FrameN.next (safetyDomainBoot_frame h_s (pick_sub 0x1fffffffff rfl hT))

end Sys2Proof.Laws
end

