-- ==== Sys2Proof/Laws/FrameAccess.lean ====
section
/-! SUPPORT. What the operations and commands of Machine/Access.lean may change: the parts of each, and that nothing else changes. -/

set_option Elab.async false

namespace Sys2Proof.Laws

open Machine

set_option maxRecDepth 8000

/-- What State.dramAccess may change. -/
def dramAccess_T : List Piece :=
  [.ctr .dram, .ctr .dramq, .ctr .pot, .dram, .err .dram, .err .pot, .fld (HDR.ev_raw .dram), .fld (HDR.ev_raw .pot), .mem, .pot, .resp, .sent]

theorem dramAccess_frame {LL rr s q a op} (h_s : Frame LL rr s) (hT : Cov dramAccess_T LL) :
    Frame LL rr (State.dramAccess s q a op) := by
  delta State.dramAccess
  split
  · exact errResp_frame (memRecord_frame h_s (pick_sub 0x8f5 rfl hT)) (pick_sub 0x400 rfl hT)
  · split
    · exact okResp_frame (fetched_frame h_s (pick_sub 0x307 rfl hT)) (pick_sub 0x400 rfl hT)
    · exact okResp_frame (fetched_frame h_s (pick_sub 0x307 rfl hT)) (pick_sub 0x400 rfl hT)
    · exact okResp_frame (put_frame h_s (pick_sub 0x30f rfl hT)) (pick_sub 0x400 rfl hT)

/-- What State.hartAccess may change. -/
def hartAccess_T : List Piece :=
  [.ctr .dram, .ctr .dramq, .ctr .pot, .ctr .world, .dram, .err .dram, .err .pot, .fld (HDR.ev_raw .dram), .fld (HDR.ev_raw .pot),
   .fld WORLD.VALE_STAT.inside, .free, .mem, .pot, .resp, .sent, .world]

theorem hartAccess_frame {LL rr s h m a op} (h_s : Frame LL rr s) (hT : Cov hartAccess_T LL) :
    Frame LL rr (State.hartAccess s h m a op) := by
  delta State.hartAccess
  extract_lets q_1 t_2 fetch_3
  have h_t_2 : Frame LL rr t_2 := by
      unfold t_2
      exact dramAccess_frame h_s (pick_sub 0x79f7 rfl hT)
  clear_value t_2
  split
  · exact h_t_2
  · exact Frame.ite (valeFault_frame h_t_2 (pick_sub 0x9a1f rfl hT)) (Frame.ite (poisonFault_frame h_t_2 (pick_sub 0x9e1f rfl hT)) h_t_2)

/-- What State.pageAccess may change. -/
def pageAccess_T : List Piece :=
  [.alarm, .allCtr, .allRegs, .audio, .basin, .caps, .comp, .ctl, .dram, .evSeq, .events, .faults, .flash, .free, .gfx, .hapt, .heads, .inst,
   .latch, .links, .mem, .otp, .parts, .pins, .pot, .pwr, .resp, .rings, .safe, .sent, .snap, .stage, .staged, .surf, .time, .touch, .world]

theorem pageAccess_frame {LL rr s w b i off op} (h_s : Frame LL rr s) (hT : Cov pageAccess_T LL) :
    Frame LL rr (State.pageAccess s w b i off op) := by
  delta State.pageAccess
  split
  · rename_i a3
    have h4 := FrameC.eqBad (L := LL) (r := rr) a3 (reach_frame h_s (cov_loc 0x6 0x1f 0x24000000 rfl rfl hT))
    exact h4
  · rename_i a7
    have h8 := FrameC.eqGood (L := LL) (r := rr) a7 (reach_frame h_s (cov_loc 0x6 0x1f 0x24000000 rfl rfl hT))
    exact Frame.ite (Frame.ite (mbSize_frame h_s (cov_loc 0x6 0x1f 0x24000000 rfl rfl hT)) (refuse_frame h_s (cov_loc 0x4 0x3 0x24000000 rfl rfl hT))) (by
        split
        · exact readWord_frame h_s (cov_loc 0x6 0x3fefc 0x1034040888 rfl rfl hT)
        · exact readWord_frame h_s (cov_loc 0x6 0x3fefc 0x1034040888 rfl rfl hT)
        · exact writeWord_frame h_s (pick_sub 0x1ffffff7ff rfl hT))

/-- What State.bellAccess may change. -/
def bellAccess_T : List Piece :=
  [.ctr .dma, .ctr .dram, .ctr .dramq, .ctr .mgr, .ctr .pot, .ctr .rsched, .err .dma, .err .dram, .err .pot, .err .rsched, .fld (HDR.ev_raw .dma),
   .fld (HDR.ev_raw .dram), .fld (HDR.ev_raw .pot), .fld (HDR.ev_raw .rsched), .fld DMA.STAT.state, .fld RSCHED.PIN_COUNT.pinned, .mem, .pot,
   .resp, .rings, .sent]

theorem bellAccess_frame {LL rr s k off op} (h_s : Frame LL rr s) (hT : Cov bellAccess_T LL) :
    Frame LL rr (State.bellAccess s k off op) := by
  delta State.bellAccess
  exact Frame.ite (refuse_frame h_s (pick_sub 0x142200 rfl hT)) (by
      split
      · exact okResp_frame h_s (pick_sub 0x40000 rfl hT)
      · exact okResp_frame h_s (pick_sub 0x40000 rfl hT)
      · exact doorbell_frame h_s (pick_sub 0x1fffff rfl hT))

/-- What State.boxAccess may change. -/
def boxAccess_T : List Piece :=
  [.ctr .pot, .err .mgr, .err .pot, .fld (HDR.ev_raw .mgr), .fld (HDR.ev_raw .pot), .inst, .resp, .sent]

theorem boxAccess_frame {LL rr s k off op} (h_s : Frame LL rr s) (hT : Cov boxAccess_T LL) :
    Frame LL rr (State.boxAccess s k off op) := by
  delta State.boxAccess
  extract_lets w_1
  split
  · rename_i a4
    have h5 := FrameS.eq (L := LL) (r := rr) a4 (mbReach_frame h_s (pick_sub 0xdf rfl hT))
    exact h5
  · exact Frame.ite (mbRefuse_frame h_s (pick_sub 0xca rfl hT)) (Frame.ite (mbRefuse_frame h_s (pick_sub 0xca rfl hT)) (by
        split
        · exact mbRead_frame h_s (pick_sub 0xdf rfl hT)
        · exact mbRead_frame h_s (pick_sub 0xdf rfl hT)
        · exact mbWord_frame h_s (pick_sub 0xff rfl hT)))

/-- What State.windowAccess may change. -/
def windowAccess_T : List Piece :=
  [.alarm, .allCtr, .allRegs, .audio, .basin, .caps, .comp, .ctl, .dram, .evSeq, .events, .faults, .flash, .free, .gfx, .hapt, .heads, .inst,
   .latch, .links, .mem, .otp, .parts, .pins, .pot, .pwr, .resp, .rings, .safe, .sent, .snap, .stage, .staged, .surf, .time, .touch, .world]

theorem windowAccess_frame {LL rr s k off op} (h_s : Frame LL rr s) (hT : Cov windowAccess_T LL) :
    Frame LL rr (State.windowAccess s k off op) := by
  delta State.windowAccess
  exact Frame.ite (bellAccess_frame h_s (cov_loc 0x6 0xffff 0x2d100000 rfl rfl hT)) (Frame.ite (boxAccess_frame h_s (cov_loc 0x6 0x1f 0x24020000 rfl rfl hT)) (Frame.ite (by
      extract_lets slot_1
      split
      · exact pageAccess_frame h_s (pick_sub 0x1fffffffff rfl hT)
      · exact potRefuse_frame h_s (cov_loc 0x6 0x7 0x24000000 rfl rfl hT)) (potRefuse_frame h_s (cov_loc 0x6 0x7 0x24000000 rfl rfl hT))))

/-- What State.access may change. -/
def access_T : List Piece :=
  [.alarm, .allCtr, .allRegs, .audio, .basin, .caps, .comp, .ctl, .dram, .evSeq, .events, .faults, .flash, .free, .gfx, .hapt, .heads, .inst,
   .latch, .links, .mem, .otp, .parts, .pins, .pot, .pwr, .resp, .rings, .safe, .sent, .snap, .stage, .staged, .surf, .time, .touch, .world]

theorem access_frame {LL rr s who a op} (h_s : Frame LL rr s) (hT : Cov access_T LL) :
    Frame LL rr (State.access s who a op) := by
  delta State.access
  extract_lets q_1 manager_2 k_3
  exact Frame.ite (by
      split
      · exact hartAccess_frame h_s (cov_loc 0x6 0x3ef 0x1025102100 rfl rfl hT)
      · exact dramAccess_frame h_s (cov_loc 0x6 0xf7 0x25100100 rfl rfl hT)) (Frame.ite (basinAccess_frame h_s (cov_loc 0x6 0x16 0x24010810 rfl rfl hT)) (Frame.ite (by
      split
      · exact pageAccess_frame h_s (pick_sub 0x1fffffffff rfl hT)
      · exact potRefuse_frame h_s (cov_loc 0x6 0x7 0x24000000 rfl rfl hT)) (Frame.ite (windowAccess_frame h_s (pick_sub 0x1fffffffff rfl hT)) (potRefuse_frame h_s (cov_loc 0x6 0x7 0x24000000 rfl rfl hT)))))

/-- What State.pcieGo may change. -/
def pcieGo_T : List Piece :=
  [.alarm, .allCtr, .allRegs, .audio, .basin, .caps, .comp, .ctl, .dram, .evSeq, .events, .faults, .flash, .free, .gfx, .hapt, .heads, .inst,
   .latch, .links, .mem, .otp, .parts, .pins, .pot, .pwr, .resp, .rings, .safe, .sent, .snap, .stage, .staged, .surf, .time, .touch, .world]

theorem pcieGo_frame {LL rr s f bar2 off op} (h_s : Frame LL rr s) (hT : Cov pcieGo_T LL) :
    Frame LL rr (State.pcieGo s f bar2 off op) := by
  delta State.pcieGo
  extract_lets k_1
  exact Frame.ite (pageAccess_frame h_s (pick_sub 0x1fffffffff rfl hT)) (Frame.ite (Frame.ite (dramAccess_frame h_s (cov_loc 0x6 0xf7 0x25100100 rfl rfl hT)) (potRefuse_frame h_s (cov_loc 0x6 0x7 0x24000000 rfl rfl hT))) (windowAccess_frame h_s (pick_sub 0x1fffffffff rfl hT)))

/-- What State.pcie may change. -/
def pcie_T : List Piece :=
  [.alarm, .allCtr, .allRegs, .audio, .basin, .caps, .comp, .cpl, .ctl, .dram, .evSeq, .events, .faults, .flash, .free, .gfx, .hapt, .heads, .inst,
   .latch, .links, .mem, .otp, .parts, .pins, .pot, .pwr, .resp, .rings, .safe, .sent, .snap, .stage, .staged, .surf, .time, .touch, .world]

theorem pcie_frame {LL rr s f bar2 off op} (h_s : Frame LL rr s) (hT : Cov pcie_T LL) :
    Frame LL rr (State.pcie s f bar2 off op) := by
  delta State.pcie
  exact Frame.ite (by
      extract_lets u_1
      have h_u_1 : Frame LL rr u_1 := by
          unfold u_1
          exact errResp_frame h_s (pick_sub 0x8000000 rfl hT)
      clear_value u_1
      exact Frame.upd h_u_1 (m_cpl := .inl (nth 7 rfl hT))) (by
      extract_lets t_2
      have h_t_2 : Frame LL rr t_2 := by
          unfold t_2
          exact pcieGo_frame h_s (pick_sub 0x3fffffff7f rfl hT)
      clear_value t_2
      exact Frame.upd h_t_2 (m_cpl := .inl (nth 7 rfl hT)))

/-- What execMemoryAccess may change. -/
def execMemoryAccess_T : List Piece :=
  [.alarm, .allCtr, .allRegs, .audio, .basin, .caps, .comp, .ctl, .dram, .evSeq, .events, .faults, .flash, .free, .gfx, .hapt, .heads, .inst,
   .latch, .links, .mem, .otp, .parts, .pins, .pot, .pwr, .resp, .rings, .safe, .sent, .snap, .stage, .staged, .surf, .time, .touch, .world]

theorem execMemoryAccess_frame {LL rr who a op s} (h_s : Frame LL rr s) (hT : Cov execMemoryAccess_T LL) :
    FrameN LL rr (execMemoryAccess who a op s) := by
  delta execMemoryAccess
  exact FrameN.next (access_frame (by
      split
      · exact awake_frame h_s (pick_sub 0x1000000000 rfl hT)
      · exact h_s) (pick_sub 0x1fffffffff rfl hT))

/-- What execPcieRequest may change. -/
def execPcieRequest_T : List Piece :=
  [.alarm, .allCtr, .allRegs, .audio, .basin, .caps, .comp, .cpl, .ctl, .dram, .evSeq, .events, .faults, .flash, .free, .gfx, .hapt, .heads, .inst,
   .latch, .links, .mem, .otp, .parts, .pins, .pot, .pwr, .resp, .rings, .safe, .sent, .snap, .stage, .staged, .surf, .time, .touch, .world]

theorem execPcieRequest_frame {LL rr f bar2 off op s} (h_s : Frame LL rr s) (hT : Cov execPcieRequest_T LL) :
    FrameN LL rr (execPcieRequest f bar2 off op s) := by
  delta execPcieRequest
  exact FrameN.next (pcie_frame h_s (pick_sub 0x3fffffffff rfl hT))

end Sys2Proof.Laws
end

