-- ==== Sys2Proof/Laws/FrameFrames.lean ====
section
/-! SUPPORT. What the operations and commands of Machine/Frames.lean may change: the parts of each, and that nothing else changes. -/

set_option Elab.async false

namespace Sys2Proof.Laws

open Machine

/-- What State.blankApply may change. -/
def blankApply_T : List Piece :=
  [.blk .comp, .blk .glint, .blk .head, .comp, .ctr .basin, .ctr .head, .fld (HDR.commit_seq .comp), .fld (HDR.commit_seq .glint),
   .fld (HDR.commit_seq .head), .fld (HDR.ev_raw .basin), .fld (HDR.ev_raw .comp), .fld (HDR.ev_raw .glint), .fld (HDR.ev_raw .head),
   .fld (HDR.group .comp), .fld (HDR.group .glint), .fld (HDR.group .head), .fld (HDR.pending .comp), .fld (HDR.pending .glint),
   .fld (HDR.pending .head), .fld BASIN.GRP_STAT.applied, .fld BASIN.GRP_STAT.busy, .fld COMP.WB_SEQ.w, .fld HEAD.GL_STAT.missing,
   .fld HEAD.GL_STAT.state, .heads, .parts, .sent, .staged]

theorem blankApply_frame {LL rr s h} (h_s : Frame LL rr s) (hT : Cov blankApply_T LL) :
    Frame LL rr (State.blankApply s h) := by
  delta State.blankApply
  extract_lets n_1 wait_2 held_3 s1_4 s2_5 s3_6
  have h_s1_4 : Frame LL rr s1_4 := by
      unfold s1_4
      exact Frame.ite h_s (applyHead_frame h_s (pick_sub 0xddc9334 rfl hT))
  have h_s2_5 : Frame LL rr s2_5 := by
      unfold s2_5
      exact Frame.ite h_s1_4 (applyGlint_frame h_s1_4 (pick_sub 0xc024882 rfl hT))
  have h_s3_6 : Frame LL rr s3_6 := by
      unfold s3_6
      exact compApply_frame h_s2_5 (pick_sub 0xe210449 rfl hT)
  clear_value s1_4 s2_5 s3_6
  exact Frame.ite h_s2_5 (Frame.ite h_s3_6 (wr_frame h_s3_6 (pick_sub 0x2000 rfl hT)))

/-- What State.blankFlip may change. -/
def blankFlip_T : List Piece :=
  [.comp, .ctr .comp, .ctr .dram, .ctr .dramq, .ctr .head, .ctr .pot, .ctr .rsched, .dram, .err .dram, .err .pot, .evSeq, .events,
   .fld (HDR.ev_raw .comp), .fld (HDR.ev_raw .dram), .fld (HDR.ev_raw .pot), .fld COMP.COEF_USE.banks, .fld COMP.ENG_STAT.busy0,
   .fld COMP.ENG_STAT.busy1, .fld COMP.ENG_STAT.late0, .fld COMP.ENG_STAT.late1, .fld COMP.ENG_STAT.pending0, .fld COMP.ENG_STAT.pending1,
   .fld COMP.LAYER_ADDR.addr, .fld COMP.LAYER_STAT.bank, .fld COMP.LAYER_STAT.enabled, .fld COMP.LAYER_STAT.format,
   .fld COMP.LAYER_STAT.substituted, .fld HEAD.FLIP_CNT.count, .fld HEAD.FLIP_TIME.time, .fld HEAD.FRAME_CNT.count, .fld HEAD.HEAD_STAT.front,
   .fld HEAD.HEAD_STAT.line, .fld HEAD.HEAD_STAT.vblank, .fld HEAD.VBL_TIME.time, .fld RSCHED.PIN_COUNT.pinned, .heads, .mem, .pot, .rings, .sent]

theorem blankFlip_frame {LL rr s h} (h_s : Frame LL rr s) (hT : Cov blankFlip_T LL) :
    FrameP LL rr (State.blankFlip s h) := by
  delta State.blankFlip
  extract_lets n_1 s1_2 s2_3 u_4 u_5 s3_6
  have h_s1_2 : Frame LL rr s1_2 := by
      unfold s1_2
      exact wr_frame (count_frame (wr_frame (wr_frame h_s (pick_sub 0x20000000 rfl hT)) (pick_sub 0x200000000 rfl hT)) (pick_sub 0x10 rfl hT)) (pick_sub 0x100000000 rfl hT)
  have h_s2_3 : Frame LL rr s2_3 := by
      unfold s2_3
      exact wr_frame h_s1_2 (pick_sub 0x80000000 rfl hT)
  have h_s3_6 : Frame LL rr s3_6 := by
      unfold s3_6
      exact setHead_frame h_s2_3 (pick_sub 0x800000000 rfl hT)
  clear_value s1_2 s2_3 s3_6
  split
  · rename_i a11
    have h12 := FrameP.eq (L := LL) (r := rr) a11 (compBlank_frame h_s3_6 (pick_sub 0x8007ff9c03 rfl hT))
    exact FrameP.ite (by
        extract_lets s5_13 s6_14
        have h_s5_13 : Frame LL rr s5_13 := by
            unfold s5_13
            exact wr_frame h12 (pick_sub 0x40000000 rfl hT)
        have h_s6_14 : Frame LL rr s6_14 := by
            unfold s6_14
            exact count_frame (wr_frame (wr_frame h_s5_13 (pick_sub 0x8000000 rfl hT)) (pick_sub 0x10000000 rfl hT)) (pick_sub 0x10 rfl hT)
        clear_value s5_13 s6_14
        exact FrameP.mk (endLatched_frame h_s6_14 (pick_sub 0xf407ffe3ed rfl hT))) (FrameP.mk (count_frame h12 (pick_sub 0x10 rfl hT)))

/-- What State.glintFrame may change. -/
def glintFrame_T : List Piece :=
  [.ctr .basin, .ctr .glint, .evSeq, .events, .fld (HDR.ev_raw .glint), .fld GLINT.FILL_LINES.lines, .heads, .sent]

theorem glintFrame_frame {LL rr s h bytes} (h_s : Frame LL rr s) (hT : Cov glintFrame_T LL) :
    Frame LL rr (State.glintFrame s h bytes) := by
  delta State.glintFrame
  exact Frame.ite h_s (by
      extract_lets n_1 c_2 s1_3 quiet_4 s2_5 u_6
      have h_s1_3 : Frame LL rr s1_3 := by
          unfold s1_3
          exact count_frame (count_frame (count_frame (wr_frame h_s (pick_sub 0x20 rfl hT)) (pick_sub 0x2 rfl hT)) (pick_sub 0x2 rfl hT)) (pick_sub 0x1 rfl hT)
      have h_s2_5 : Frame LL rr s2_5 := by
          unfold s2_5
          exact raise_frame h_s1_3 (pick_sub 0x90 rfl hT)
      clear_value s1_3 s2_5
      exact Frame.ite h_s1_3 (Frame.ite h_s2_5 (eventPage_frame (count_frame (setHead_frame h_s2_5 (pick_sub 0x40 rfl hT)) (pick_sub 0x2 rfl hT)) (pick_sub 0xc rfl hT))))

/-- What State.frameEnd may change. -/
def frameEnd_T : List Piece :=
  [.ctr .basin, .ctr .glint, .ctr .lantern, .ctr .mirror, .evSeq, .events, .faults, .fld (HDR.ev_raw .glint), .fld (HDR.ev_raw .mirror),
   .fld GLINT.FILL_LINES.lines, .fld MIRROR.CHK_STAT.agree, .fld MIRROR.CHK_STAT.crc_ok, .fld MIRROR.CHK_STAT.timing_ok, .fld MIRROR.CRC_ACT.crc,
   .fld MIRROR.WIN_STAT.age_ms, .fld MIRROR.WIN_STAT.port, .fld MIRROR.WIN_STAT.seq, .fld MIRROR.WIN_STAT.verdict, .fld MIRROR.WIN_TAP.pre,
   .fld SAFE.HB_STAT.good, .heads, .safe, .sent]

theorem frameEnd_frame {LL rr s h obs} (h_s : Frame LL rr s) (hT : Cov frameEnd_T LL) :
    Frame LL rr (State.frameEnd s h obs) := by
  delta State.frameEnd
  exact Frame.ite h_s (by
      extract_lets s1_1 s2_2
      have h_s1_1 : Frame LL rr s1_1 := by
          unfold s1_1
          exact mirrorFrame_frame h_s (pick_sub 0x6ffd7c rfl hT)
      have h_s2_2 : Frame LL rr s2_2 := by
          unfold s2_2
          exact glintFrame_frame h_s1_1 (pick_sub 0x5002b3 rfl hT)
      clear_value s1_1 s2_2
      exact Frame.ite h_s2_2 (count_frame h_s2_2 (pick_sub 0x1 rfl hT)))

/-- What State.headStop may change. -/
def headStop_T : List Piece :=
  [.blk .glint, .blk .head, .blk .lantern, .blk .mirror, .comp, .ctr .basin, .ctr .head, .fld (HDR.commit_seq .glint), .fld (HDR.commit_seq .head),
   .fld (HDR.commit_seq .lantern), .fld (HDR.commit_seq .mirror), .fld (HDR.ev_raw .basin), .fld (HDR.ev_raw .glint), .fld (HDR.ev_raw .head),
   .fld (HDR.ev_raw .lantern), .fld (HDR.ev_raw .mirror), .fld (HDR.group .glint), .fld (HDR.group .head), .fld (HDR.pending .glint),
   .fld (HDR.pending .head), .fld (HDR.pending .lantern), .fld (HDR.pending .mirror), .fld (HDR.soft_reset .head), .fld BASIN.GRP_STAT.applied,
   .fld BASIN.GRP_STAT.busy, .fld CLK.PLL_STAT.enabled, .fld CLK.PLL_STAT.lock, .fld CLK.PLL_STAT.mhz, .fld COMP.COEF_USE.banks,
   .fld COMP.ENG_STAT.busy0, .fld COMP.ENG_STAT.busy1, .fld COMP.ENG_STAT.late0, .fld COMP.ENG_STAT.late1, .fld COMP.ENG_STAT.pending0,
   .fld COMP.ENG_STAT.pending1, .fld COMP.LAYER_ADDR.addr, .fld COMP.LAYER_STAT.bank, .fld COMP.LAYER_STAT.enabled, .fld COMP.LAYER_STAT.format,
   .fld COMP.LAYER_STAT.substituted, .fld HEAD.GL_STAT.missing, .fld HEAD.GL_STAT.state, .fld HEAD.HEAD_STAT.line, .fld HEAD.HEAD_STAT.pll_lock,
   .fld HEAD.HEAD_STAT.state, .fld HEAD.HEAD_STAT.vblank, .fld LANTERN.OVL.windows, .fld LANTERN.VIS.regions, .fld LINK.LINK_STAT.state, .heads,
   .links, .parts, .pins, .sent, .staged]

theorem headStop_frame {LL rr s h} (h_s : Frame LL rr s) (hT : Cov headStop_T LL) :
    Frame LL rr (State.headStop s h) := by
  delta State.headStop
  extract_lets c_1 s1_2 s2_3 s3_4 s4_5
  have h_s1_2 : Frame LL rr s1_2 := by
      unfold s1_2
      exact wr_frame (wr_frame (wr_frame h_s (pick_sub 0x100000000000 rfl hT)) (pick_sub 0x200000000000 rfl hT)) (pick_sub 0x40000000000 rfl hT)
  have h_s2_3 : Frame LL rr s2_3 := by
      unfold s2_3
      exact setHead_frame (pllStop_frame h_s1_2 (pick_sub 0x8000e000000 rfl hT)) (pick_sub 0x2000000000000 rfl hT)
  have h_s3_4 : Frame LL rr s3_4 := by
      unfold s3_4
      exact safeApply_frame (safeApply_frame (applyGlint_frame (applyHead_frame h_s2_3 (pick_sub 0x620300018a2962 rfl hT)) (pick_sub 0x60000000051081 rfl hT)) (pick_sub 0x68c00000104204 rfl hT)) (pick_sub 0x68c00000208408 rfl hT)
  have h_s4_5 : Frame LL rr s4_5 := by
      unfold s4_5
      exact linkOff_frame (composeStop_frame h_s3_4 (pick_sub 0xfff0000010 rfl hT)) (pick_sub 0x15000000000000 rfl hT)
  clear_value s1_2 s2_3 s3_4 s4_5
  exact Frame.ite (headSoft_frame h_s4_5 (pick_sub 0x6a000001c20822 rfl hT)) h_s4_5

/-- What State.vblank may change. -/
def vblank_T : List Piece :=
  [.blk .comp, .blk .glint, .blk .head, .blk .lantern, .blk .mirror, .comp, .ctr .basin, .ctr .comp, .ctr .dram, .ctr .dramq, .ctr .glint,
   .ctr .head, .ctr .lantern, .ctr .link, .ctr .mirror, .ctr .pot, .ctr .rsched, .dram, .err .dram, .err .pot, .evSeq, .events, .faults,
   .fld (HDR.commit_seq .comp), .fld (HDR.commit_seq .glint), .fld (HDR.commit_seq .head), .fld (HDR.commit_seq .lantern),
   .fld (HDR.commit_seq .mirror), .fld (HDR.ev_raw .basin), .fld (HDR.ev_raw .comp), .fld (HDR.ev_raw .dram), .fld (HDR.ev_raw .glint),
   .fld (HDR.ev_raw .head), .fld (HDR.ev_raw .lantern), .fld (HDR.ev_raw .link), .fld (HDR.ev_raw .mirror), .fld (HDR.ev_raw .pot),
   .fld (HDR.group .comp), .fld (HDR.group .glint), .fld (HDR.group .head), .fld (HDR.pending .comp), .fld (HDR.pending .glint),
   .fld (HDR.pending .head), .fld (HDR.pending .lantern), .fld (HDR.pending .mirror), .fld (HDR.soft_reset .head), .fld BASIN.GRP_STAT.applied,
   .fld BASIN.GRP_STAT.busy, .fld CLK.PLL_STAT.enabled, .fld CLK.PLL_STAT.lock, .fld CLK.PLL_STAT.mhz, .fld COMP.COEF_USE.banks,
   .fld COMP.ENG_STAT.busy0, .fld COMP.ENG_STAT.busy1, .fld COMP.ENG_STAT.late0, .fld COMP.ENG_STAT.late1, .fld COMP.ENG_STAT.pending0,
   .fld COMP.ENG_STAT.pending1, .fld COMP.LAYER_ADDR.addr, .fld COMP.LAYER_STAT.bank, .fld COMP.LAYER_STAT.enabled, .fld COMP.LAYER_STAT.format,
   .fld COMP.LAYER_STAT.substituted, .fld COMP.LAYER_SUBST.force, .fld COMP.WB_SEQ.w, .fld GLINT.FILL_LINES.lines, .fld HEAD.FLIP_CNT.count,
   .fld HEAD.FLIP_TIME.time, .fld HEAD.FRAME_CNT.count, .fld HEAD.GL_OFFSET_PPM.ppm, .fld HEAD.GL_STAT.missing, .fld HEAD.GL_STAT.state,
   .fld HEAD.HEAD_STAT.front, .fld HEAD.HEAD_STAT.line, .fld HEAD.HEAD_STAT.pll_lock, .fld HEAD.HEAD_STAT.state, .fld HEAD.HEAD_STAT.vblank,
   .fld HEAD.VBL_TIME.time, .fld LANTERN.OVL.windows, .fld LANTERN.VIS.regions, .fld LINK.LINK_STAT.lost_cause, .fld LINK.LINK_STAT.state,
   .fld MIRROR.CHK_STAT.agree, .fld MIRROR.CHK_STAT.crc_ok, .fld MIRROR.CHK_STAT.timing_ok, .fld MIRROR.CRC_ACT.crc, .fld MIRROR.WIN_STAT.age_ms,
   .fld MIRROR.WIN_STAT.port, .fld MIRROR.WIN_STAT.seq, .fld MIRROR.WIN_STAT.verdict, .fld MIRROR.WIN_TAP.pre, .fld RSCHED.PIN_COUNT.pinned,
   .fld SAFE.HB_STAT.good, .heads, .links, .mem, .parts, .pins, .pot, .rings, .safe, .sent, .staged]

theorem vblank_frame {LL rr s h obs} (h_s : Frame LL rr s) (hT : Cov vblank_T LL) :
    Frame LL rr (State.vblank s h obs) := by
  delta State.vblank
  exact Frame.ite h_s (Frame.ite (headStop_frame h_s (pick_sub 0x636002dec07ffffecb9f00087e rfl hT)) (by
      extract_lets met_1
      split
      · rename_i a6
        have h7 := FrameP.eq (L := LL) (r := rr) a6 (blankFlip_frame (frameEnd_frame h_s (pick_sub 0x3037fc00020000000880705440 rfl hT)) (pick_sub 0x2ca800331c7ff80010603f8ba0 rfl hT))
        extract_lets s2_8 s3_9 s4_10 s5_11
        have h_s2_8 : Frame LL rr s2_8 := by
            unfold s2_8
            exact blankApply_frame h7 (pick_sub 0x61200000c10000c7e1b3800867 rfl hT)
        have h_s3_9 : Frame LL rr s3_9 := by
            unfold s3_9
            exact Frame.ite (startCompose_frame (compLatch_frame h_s2_8 (pick_sub 0x808000000fff80000003000a0 rfl hT)) (pick_sub 0x7ff8000000000020 rfl hT)) h_s2_8
        have h_s4_10 : Frame LL rr s4_10 := by
            unfold s4_10
            exact raise_frame h_s3_9 (pick_sub 0x20000000000000000100000000 rfl hT)
        have h_s5_11 : Frame LL rr s5_11 := by
            unfold s5_11
            exact Frame.ite (raise_frame h_s4_10 (pick_sub 0x20000000000000000100000000 rfl hT)) h_s4_10
        clear_value s2_8 s3_9 s4_10 s5_11
        exact linkBlank_frame (glSlew_frame h_s5_11 (pick_sub 0xa00000000000000000 rfl hT)) (pick_sub 0x22400300000000000400702000 rfl hT)))

/-- What execVblankStart may change. -/
def execVblankStart_T : List Piece :=
  [.blk .comp, .blk .glint, .blk .head, .blk .lantern, .blk .mirror, .comp, .ctr .basin, .ctr .comp, .ctr .dram, .ctr .dramq, .ctr .glint,
   .ctr .head, .ctr .lantern, .ctr .link, .ctr .mirror, .ctr .pot, .ctr .rsched, .dram, .err .dram, .err .pot, .evSeq, .events, .faults,
   .fld (HDR.commit_seq .comp), .fld (HDR.commit_seq .glint), .fld (HDR.commit_seq .head), .fld (HDR.commit_seq .lantern),
   .fld (HDR.commit_seq .mirror), .fld (HDR.ev_raw .basin), .fld (HDR.ev_raw .comp), .fld (HDR.ev_raw .dram), .fld (HDR.ev_raw .glint),
   .fld (HDR.ev_raw .head), .fld (HDR.ev_raw .lantern), .fld (HDR.ev_raw .link), .fld (HDR.ev_raw .mirror), .fld (HDR.ev_raw .pot),
   .fld (HDR.group .comp), .fld (HDR.group .glint), .fld (HDR.group .head), .fld (HDR.pending .comp), .fld (HDR.pending .glint),
   .fld (HDR.pending .head), .fld (HDR.pending .lantern), .fld (HDR.pending .mirror), .fld (HDR.soft_reset .head), .fld BASIN.GRP_STAT.applied,
   .fld BASIN.GRP_STAT.busy, .fld CLK.PLL_STAT.enabled, .fld CLK.PLL_STAT.lock, .fld CLK.PLL_STAT.mhz, .fld COMP.COEF_USE.banks,
   .fld COMP.ENG_STAT.busy0, .fld COMP.ENG_STAT.busy1, .fld COMP.ENG_STAT.late0, .fld COMP.ENG_STAT.late1, .fld COMP.ENG_STAT.pending0,
   .fld COMP.ENG_STAT.pending1, .fld COMP.LAYER_ADDR.addr, .fld COMP.LAYER_STAT.bank, .fld COMP.LAYER_STAT.enabled, .fld COMP.LAYER_STAT.format,
   .fld COMP.LAYER_STAT.substituted, .fld COMP.LAYER_SUBST.force, .fld COMP.WB_SEQ.w, .fld GLINT.FILL_LINES.lines, .fld HEAD.FLIP_CNT.count,
   .fld HEAD.FLIP_TIME.time, .fld HEAD.FRAME_CNT.count, .fld HEAD.GL_OFFSET_PPM.ppm, .fld HEAD.GL_STAT.missing, .fld HEAD.GL_STAT.state,
   .fld HEAD.HEAD_STAT.front, .fld HEAD.HEAD_STAT.line, .fld HEAD.HEAD_STAT.pll_lock, .fld HEAD.HEAD_STAT.state, .fld HEAD.HEAD_STAT.vblank,
   .fld HEAD.VBL_TIME.time, .fld LANTERN.OVL.windows, .fld LANTERN.VIS.regions, .fld LINK.LINK_STAT.lost_cause, .fld LINK.LINK_STAT.state,
   .fld MIRROR.CHK_STAT.agree, .fld MIRROR.CHK_STAT.crc_ok, .fld MIRROR.CHK_STAT.timing_ok, .fld MIRROR.CRC_ACT.crc, .fld MIRROR.WIN_STAT.age_ms,
   .fld MIRROR.WIN_STAT.port, .fld MIRROR.WIN_STAT.seq, .fld MIRROR.WIN_STAT.verdict, .fld MIRROR.WIN_TAP.pre, .fld RSCHED.PIN_COUNT.pinned,
   .fld SAFE.HB_STAT.good, .heads, .links, .mem, .parts, .pins, .pot, .rings, .safe, .sent, .staged]

theorem execVblankStart_frame {LL rr h obs s} (h_s : Frame LL rr s) (hT : Cov execVblankStart_T LL) :
    FrameN LL rr (execVblankStart h obs s) := by
  delta execVblankStart
  exact FrameN.next (vblank_frame h_s (pick_sub 0x7fffffffffffffffffffffffff rfl hT))

end Sys2Proof.Laws
end

