-- ==== Sys2Proof/Laws/FrameTick.lean ====
section
/-! SUPPORT. What the operations and commands of Machine/Tick.lean may change: the parts of each, and that nothing else changes. -/

set_option Elab.async false

namespace Sys2Proof.Laws

open Machine

/-- What State.idleTick may change. -/
def idleTick_T : List Piece :=
  [.time]

theorem idleTick_frame {LL rr s} (h_s : Frame LL rr s) (hT : Cov idleTick_T LL) :
    Frame LL rr (State.idleTick s) := by
  delta State.idleTick
  extract_lets t_1
  exact Frame.ite h_s (Frame.ite (Frame.upd h_s (m_time := .inl (nth 0 rfl hT))) (Frame.ite (Frame.upd h_s (m_time := .inl (nth 0 rfl hT))) (Frame.upd h_s (m_time := .inl (nth 0 rfl hT)))))

end Sys2Proof.Laws
end

