-- ==== Sys2Proof/Laws/Keep.lean ====
section
/-! SUPPORT. What every operation keeps: the variant, the queue, and each memory's canonical form. One predicate per shape of result, with the
lemmas that carry it through conditionals, folds, record updates and matches. -/

set_option Elab.async false

namespace Sys2Proof.Laws

open Machine

/-- A state of variant v whose waiting commands are q and whose memories are in canonical form. -/
structure Keep (v : Variant) (q : List Instr) (s : State) : Prop where
  var : s.variant = v
  pend : s.pending = q
  dram : mwf (dramDefault v) s.dram = true
  basin : mwf (fun _ => (0 : Byte)) s.basin = true
  flash : mwf (fun _ => (0xFF : Byte)) s.flash = true
  otp : mwf (fun _ => (0 : Byte)) s.otp = true

variable {v : Variant} {q : List Instr} {α β : Type}

/-- Keep of the state in a pair. -/
def KeepP (v : Variant) (q : List Instr) (p : State × α) : Prop := Keep v q p.1
/-- Keep of the state second in a pair. -/
def KeepR (v : Variant) (q : List Instr) (p : α × State) : Prop := Keep v q p.2
/-- Keep of a state there may be. -/
def KeepO (v : Variant) (q : List Instr) (o : Option State) : Prop := ∀ t, o = some t → Keep v q t
/-- Keep of the state in a pair there may be. -/
def KeepOP (v : Variant) (q : List Instr) (o : Option (State × α)) : Prop := ∀ p, o = some p → Keep v q p.1
/-- Keep of a state that is one of two results. -/
def KeepS (v : Variant) (q : List Instr) (o : State ⊕ α) : Prop := ∀ t, o = .inl t → Keep v q t
/-- Keep of the state that the checks of a write leave. -/
def KeepC (v : Variant) (q : List Instr) (c : Chk) : Prop := (∀ t, c = .good t → Keep v q t) ∧ (∀ t, c = .bad t → Keep v q t)
/-- Keep of the state in the sums of an audio tick. -/
def KeepM (v : Variant) (q : List Instr) (m : MixAcc) : Prop := Keep v q m.st
/-- Keep of the next state of an outcome. -/
def KeepN (v : Variant) (q : List Instr) (o : Out) : Prop := ∀ t, o = .next t → Keep v q t

theorem Keep.upd {s : State} (h : Keep v q s) {resp' cpl' regs' act' shadow' staged' parts' latch' stage' ctr' snap' sent' free' pins' pot' inst' time' events' evSeq' faults' mem' rings' world' gfx' comp' heads' safe' links' caps' pwr' surf' hapt' touch' audio' alarm' ctl'} :
    Keep v q (State.mk s.variant s.pending resp' cpl' regs' act' shadow' staged' parts' latch' stage' ctr' snap' sent' free' s.dram s.basin s.flash s.otp pins' pot' inst' time' events' evSeq' faults' mem' rings' world' gfx' comp' heads' safe' links' caps' pwr' surf' hapt' touch' audio' alarm' ctl') := ⟨h.var, h.pend, h.dram, h.basin, h.flash, h.otp⟩

theorem Keep.ite {c : Prop} [Decidable c] {a b : State} (ha : Keep v q a) (hb : Keep v q b) :
    Keep v q (if c then a else b) := by split <;> assumption

theorem Keep.dite {c : Prop} [Decidable c] {a : c → State} {b : ¬c → State} (ha : ∀ x, Keep v q (a x)) (hb : ∀ x, Keep v q (b x)) :
    Keep v q (if x : c then a x else b x) := by split <;> simp [*]

theorem KeepP.ite {c : Prop} [Decidable c] {a b : State × α} (ha : KeepP v q a) (hb : KeepP v q b) :
    KeepP v q (if c then a else b) := by split <;> assumption

theorem KeepP.dite {c : Prop} [Decidable c] {a : c → State × α} {b : ¬c → State × α} (ha : ∀ x, KeepP v q (a x)) (hb : ∀ x, KeepP v q (b x)) :
    KeepP v q (if x : c then a x else b x) := by split <;> simp [*]

theorem KeepR.ite {c : Prop} [Decidable c] {a b : α × State} (ha : KeepR v q a) (hb : KeepR v q b) :
    KeepR v q (if c then a else b) := by split <;> assumption

theorem KeepR.dite {c : Prop} [Decidable c] {a : c → α × State} {b : ¬c → α × State} (ha : ∀ x, KeepR v q (a x)) (hb : ∀ x, KeepR v q (b x)) :
    KeepR v q (if x : c then a x else b x) := by split <;> simp [*]

theorem KeepO.ite {c : Prop} [Decidable c] {a b : Option State} (ha : KeepO v q a) (hb : KeepO v q b) :
    KeepO v q (if c then a else b) := by split <;> assumption

theorem KeepO.dite {c : Prop} [Decidable c] {a : c → Option State} {b : ¬c → Option State} (ha : ∀ x, KeepO v q (a x)) (hb : ∀ x, KeepO v q (b x)) :
    KeepO v q (if x : c then a x else b x) := by split <;> simp [*]

theorem KeepOP.ite {c : Prop} [Decidable c] {a b : Option (State × α)} (ha : KeepOP v q a) (hb : KeepOP v q b) :
    KeepOP v q (if c then a else b) := by split <;> assumption

theorem KeepOP.dite {c : Prop} [Decidable c] {a : c → Option (State × α)} {b : ¬c → Option (State × α)} (ha : ∀ x, KeepOP v q (a x)) (hb : ∀ x, KeepOP v q (b x)) :
    KeepOP v q (if x : c then a x else b x) := by split <;> simp [*]

theorem KeepS.ite {c : Prop} [Decidable c] {a b : State ⊕ α} (ha : KeepS v q a) (hb : KeepS v q b) :
    KeepS v q (if c then a else b) := by split <;> assumption

theorem KeepS.dite {c : Prop} [Decidable c] {a : c → State ⊕ α} {b : ¬c → State ⊕ α} (ha : ∀ x, KeepS v q (a x)) (hb : ∀ x, KeepS v q (b x)) :
    KeepS v q (if x : c then a x else b x) := by split <;> simp [*]

theorem KeepC.ite {c : Prop} [Decidable c] {a b : Chk} (ha : KeepC v q a) (hb : KeepC v q b) :
    KeepC v q (if c then a else b) := by split <;> assumption

theorem KeepC.dite {c : Prop} [Decidable c] {a : c → Chk} {b : ¬c → Chk} (ha : ∀ x, KeepC v q (a x)) (hb : ∀ x, KeepC v q (b x)) :
    KeepC v q (if x : c then a x else b x) := by split <;> simp [*]

theorem KeepN.ite {c : Prop} [Decidable c] {a b : Out} (ha : KeepN v q a) (hb : KeepN v q b) :
    KeepN v q (if c then a else b) := by split <;> assumption

theorem KeepN.dite {c : Prop} [Decidable c] {a : c → Out} {b : ¬c → Out} (ha : ∀ x, KeepN v q (a x)) (hb : ∀ x, KeepN v q (b x)) :
    KeepN v q (if x : c then a x else b x) := by split <;> simp [*]

theorem Keep.foldl {f : State → β → State} {l : List β} {a : State} (ha : Keep v q a)
    (hf : ∀ t x, Keep v q t → Keep v q (f t x)) : Keep v q (l.foldl f a) := by
  induction l generalizing a with
  | nil => exact ha
  | cons x l ih => exact ih (hf _ _ ha)

theorem KeepP.foldl {f : State × α → β → State × α} {l : List β} {a : State × α} (ha : KeepP v q a)
    (hf : ∀ t x, KeepP v q t → KeepP v q (f t x)) : KeepP v q (l.foldl f a) := by
  induction l generalizing a with
  | nil => exact ha
  | cons x l ih => exact ih (hf _ _ ha)

theorem KeepR.foldl {f : α × State → β → α × State} {l : List β} {a : α × State} (ha : KeepR v q a)
    (hf : ∀ t x, KeepR v q t → KeepR v q (f t x)) : KeepR v q (l.foldl f a) := by
  induction l generalizing a with
  | nil => exact ha
  | cons x l ih => exact ih (hf _ _ ha)

theorem KeepOP.foldl {f : Option (State × α) → β → Option (State × α)} {l : List β} {a : Option (State × α)} (ha : KeepOP v q a)
    (hf : ∀ t x, KeepOP v q t → KeepOP v q (f t x)) : KeepOP v q (l.foldl f a) := by
  induction l generalizing a with
  | nil => exact ha
  | cons x l ih => exact ih (hf _ _ ha)

theorem KeepO.foldl {f : Option State → β → Option State} {l : List β} {a : Option State} (ha : KeepO v q a)
    (hf : ∀ t x, KeepO v q t → KeepO v q (f t x)) : KeepO v q (l.foldl f a) := by
  induction l generalizing a with
  | nil => exact ha
  | cons x l ih => exact ih (hf _ _ ha)

theorem KeepS.foldl {f : State ⊕ α → β → State ⊕ α} {l : List β} {a : State ⊕ α} (ha : KeepS v q a)
    (hf : ∀ t x, KeepS v q t → KeepS v q (f t x)) : KeepS v q (l.foldl f a) := by
  induction l generalizing a with
  | nil => exact ha
  | cons x l ih => exact ih (hf _ _ ha)

theorem KeepC.foldl {f : Chk → β → Chk} {l : List β} {a : Chk} (ha : KeepC v q a)
    (hf : ∀ t x, KeepC v q t → KeepC v q (f t x)) : KeepC v q (l.foldl f a) := by
  induction l generalizing a with
  | nil => exact ha
  | cons x l ih => exact ih (hf _ _ ha)

theorem KeepM.mk {s : State} {a n} (h : Keep v q s) : KeepM v q ⟨s, a, n⟩ := h
theorem KeepM.st {m : MixAcc} (h : KeepM v q m) : Keep v q m.st := h
theorem KeepM.ite {c : Prop} [Decidable c] {a b : MixAcc} (ha : KeepM v q a) (hb : KeepM v q b) :
    KeepM v q (if c then a else b) := by split <;> assumption
theorem KeepM.foldl {f : MixAcc → β → MixAcc} {l : List β} {a : MixAcc} (ha : KeepM v q a)
    (hf : ∀ t x, KeepM v q t → KeepM v q (f t x)) : KeepM v q (l.foldl f a) := by
  induction l generalizing a with
  | nil => exact ha
  | cons x l ih => exact ih (hf _ _ ha)
theorem KeepP.mk {s : State} {x : α} (h : Keep v q s) : KeepP v q (s, x) := h
theorem KeepP.fst {p : State × α} (h : KeepP v q p) : Keep v q p.1 := h
theorem KeepP.eq {p : State × α} {t x} (e : p = (t, x)) (h : KeepP v q p) : Keep v q t := by subst e; exact h
theorem KeepR.mk {s : State} {x : α} (h : Keep v q s) : KeepR v q (x, s) := h
theorem KeepR.snd {p : α × State} (h : KeepR v q p) : Keep v q p.2 := h
theorem KeepR.eq {p : α × State} {t x} (e : p = (x, t)) (h : KeepR v q p) : Keep v q t := by subst e; exact h
theorem KeepO.none : KeepO v q none := fun t h => absurd h (by simp)
theorem KeepO.some {s : State} (h : Keep v q s) : KeepO v q (some s) := fun _ e => Option.some.inj e ▸ h
theorem KeepO.eq {o : Option State} {t} (e : o = Option.some t) (h : KeepO v q o) : Keep v q t := h _ e
theorem KeepO.getD {o : Option State} {t} (h : KeepO v q o) (ht : Keep v q t) : Keep v q (o.getD t) := by
  cases o with
  | none => exact ht
  | some x => exact h x rfl
theorem KeepOP.none : KeepOP v q (none : Option (State × α)) := fun t h => absurd h (by simp)
theorem KeepOP.some {p : State × α} (h : KeepP v q p) : KeepOP v q (some p) := fun _ e => Option.some.inj e ▸ h
theorem KeepOP.eq {o : Option (State × α)} {t x} (e : o = Option.some (t, x)) (h : KeepOP v q o) : Keep v q t := h _ e
theorem KeepOP.eq' {o : Option (State × α)} {t} (e : o = Option.some t) (h : KeepOP v q o) : KeepP v q t := h _ e
theorem KeepS.inl {s : State} (h : Keep v q s) : KeepS v q (.inl s : State ⊕ α) := fun _ e => Sum.inl.inj e ▸ h
theorem KeepS.inr {x : α} : KeepS v q (.inr x : State ⊕ α) := fun t h => absurd h (by simp)
theorem KeepS.eq {o : State ⊕ α} {t} (e : o = .inl t) (h : KeepS v q o) : Keep v q t := h _ e
theorem KeepC.good {s : State} (h : Keep v q s) : KeepC v q (.good s) :=
  ⟨fun _ e => Chk.good.inj e ▸ h, fun t e => absurd e (by simp)⟩
theorem KeepC.bad {s : State} (h : Keep v q s) : KeepC v q (.bad s) :=
  ⟨fun t e => absurd e (by simp), fun _ e => Chk.bad.inj e ▸ h⟩
theorem KeepC.eqGood {c : Chk} {t} (e : c = .good t) (h : KeepC v q c) : Keep v q t := h.1 _ e
theorem KeepC.eqBad {c : Chk} {t} (e : c = .bad t) (h : KeepC v q c) : Keep v q t := h.2 _ e
theorem KeepN.next {s : State} (h : Keep v q s) : KeepN v q (.next s) := fun _ e => Host.Outcome.next.inj e ▸ h

end Sys2Proof.Laws
end

