-- ==== Sys2Proof/Laws/KeepMem.lean ====
section
/-! SUPPORT. The operations that write the memories keep them canonical. -/

set_option Elab.async false

namespace Sys2Proof.Laws

open Machine

variable {v : Variant} {q : List Instr} {s : State}

theorem setByte_keep {a x} (h : Keep v q s) : Keep v q (s.setByte a x) := by
  obtain ⟨h1, h2, h3, h4, h5, h6⟩ := h
  subst h1
  exact ⟨rfl, h2, mwf_mset h3, h4, h5, h6⟩

theorem wrBytes_keep {a d} (h : Keep v q s) : Keep v q (s.wrBytes a d) := by
  induction d generalizing s a with
  | nil => exact h
  | cons x t ih => exact ih (setByte_keep h)

theorem basinWrite_keep {a d} (h : Keep v q s) : Keep v q (s.basinWrite a d) := by
  induction d generalizing s a with
  | nil => exact h
  | cons x t ih => exact ih ⟨h.var, h.pend, h.dram, mwf_mset (dflt := fun _ => 0) h.basin, h.flash, h.otp⟩

theorem flashOpen_keep {a n} (h : Keep v q s) : Keep v q (s.flashOpen a n) := by
  refine ⟨h.var, h.pend, h.dram, h.basin, ?_, h.otp⟩
  unfold State.flashOpen
  have : ∀ (l : List Nat) (m : List Host.Cell), mwf (fun _ => (0xFF : Byte)) m = true →
      mwf (fun _ => (0xFF : Byte)) (l.foldl (fun m k => mset m (a + k) (BitVec.ofNat 8 (Config.freeValue (s.free + k)).toNat) 0xFF) m) = true := by
    intro l
    induction l with
    | nil => intro m hm; exact hm
    | cons x l ih => intro m hm; exact ih _ (mwf_mset (dflt := fun _ => (0xFF : Byte)) hm)
  exact this _ _ h.flash

end Sys2Proof.Laws
end

