-- ==== Sys2Proof/Laws/KeepOps.lean ====
section
/-! SUPPORT. The operations and commands of Machine/Ops.lean keep the variant, the queue and the canonical form of the memories. -/

set_option Elab.async false

namespace Sys2Proof.Laws

open Machine

theorem errResp_keep {vv qq s} (h_s : Keep vv qq s) :
    Keep vv qq (State.errResp s) := by
  delta State.errResp
  exact Keep.upd h_s

theorem count_keep {vv qq s b i j n} (h_s : Keep vv qq s) :
    Keep vv qq (State.count s b i j n) := by
  delta State.count
  exact Keep.upd h_s

theorem wr_keep {vv qq s f v i j b} (h_s : Keep vv qq s) :
    Keep vv qq (State.wr s f v i j b) := by
  delta State.wr
  exact Keep.ite (Keep.upd h_s) (Keep.upd h_s)

theorem okResp_keep {vv qq s data} (h_s : Keep vv qq s) :
    Keep vv qq (State.okResp s data) := by
  delta State.okResp
  exact Keep.upd h_s

theorem applyPart_keep {vv qq s b i pick} (h_s : Keep vv qq s) :
    Keep vv qq (State.applyPart s b i pick) := by
  delta State.applyPart
  extract_lets lo_1 hi_2 sel_3
  exact Keep.upd h_s

theorem wrB_keep {vv qq s f v i j b} (h_s : Keep vv qq s) :
    Keep vv qq (State.wrB s f v i j b) := by
  delta State.wrB
  exact wr_keep h_s

theorem stageSet_keep {vv qq s b i} (h_s : Keep vv qq s) :
    Keep vv qq (State.stageSet s b i) := by
  delta State.stageSet
  exact wr_keep (Keep.upd h_s)

theorem revertSet_keep {vv qq s b i} (h_s : Keep vv qq s) :
    Keep vv qq (State.revertSet s b i) := by
  delta State.revertSet
  exact wr_keep (Keep.upd h_s)

theorem wrSh_keep {vv qq s f v i j b} (h_s : Keep vv qq s) :
    Keep vv qq (State.wrSh s f v i j b) := by
  delta State.wrSh
  exact Keep.upd h_s

theorem resetPages_keep {vv qq s lo hi} (h_s : Keep vv qq s) :
    Keep vv qq (State.resetPages s lo hi) := by
  delta State.resetPages
  exact Keep.upd h_s

theorem wrReg_keep {vv qq s f v i j b} (h_s : Keep vv qq s) :
    Keep vv qq (State.wrReg s f v i j b) := by
  delta State.wrReg
  exact Keep.ite (wrSh_keep h_s) (wr_keep h_s)

end Sys2Proof.Laws
end

