-- ==== Sys2Proof/Laws/KeepFlags.lean ====
section
/-! SUPPORT. The operations and commands of Machine/Flags.lean keep the variant, the queue and the canonical form of the memories. -/

set_option Elab.async false

namespace Sys2Proof.Laws

open Machine

theorem notify_keep {vv qq s o add} (h_s : Keep vv qq s) :
    Keep vv qq (State.notify s o add) := by
  delta State.notify
  exact Keep.ite (Keep.upd h_s) (Keep.ite (by
      split
      · exact Keep.upd h_s
      · exact Keep.upd h_s) h_s)

theorem irqEdge_keep {vv qq s old o} (h_s : Keep vv qq s) :
    Keep vv qq (State.irqEdge s old o) := by
  delta State.irqEdge
  exact Keep.ite (notify_keep h_s) h_s

theorem raise_keep {vv qq s b i n} (h_s : Keep vv qq s) :
    Keep vv qq (State.raise s b i n) := by
  delta State.raise
  exact irqEdge_keep (wr_keep h_s)

theorem recErr_keep {vv qq s b i code rid addr} (h_s : Keep vv qq s) :
    Keep vv qq (State.recErr s b i code rid addr) := by
  delta State.recErr
  extract_lets internal_1 s1_2
  have h_s1_2 : Keep vv qq s1_2 := by
      unfold s1_2
      exact Keep.ite (wr_keep h_s) (wr_keep (wr_keep (wr_keep (wr_keep (wr_keep (wr_keep (wr_keep h_s)))))))
  clear_value s1_2
  exact raise_keep h_s1_2

theorem refuse_keep {vv qq s b i code rid addr} (h_s : Keep vv qq s) :
    Keep vv qq (State.refuse s b i code rid addr) := by
  delta State.refuse
  exact errResp_keep (recErr_keep h_s)

theorem commitDone_keep {vv qq s b i} (h_s : Keep vv qq s) :
    Keep vv qq (State.commitDone s b i) := by
  delta State.commitDone
  extract_lets s1_1 s2_2 s3_3
  have h_s1_1 : Keep vv qq s1_1 := by
      unfold s1_1
      exact Keep.upd h_s
  have h_s2_2 : Keep vv qq s2_2 := by
      unfold s2_2
      exact wr_keep h_s1_1
  have h_s3_3 : Keep vv qq s3_3 := by
      unfold s3_3
      exact wr_keep h_s2_2
  clear_value s1_1 s2_2 s3_3
  exact raise_keep h_s3_3

theorem applySet_keep {vv qq s b i} (h_s : Keep vv qq s) :
    Keep vv qq (State.applySet s b i) := by
  delta State.applySet
  exact commitDone_keep (applyPart_keep h_s)

end Sys2Proof.Laws
end

