-- ==== Sys2Proof/Laws/KeepOperands.lean ====
section
/-! SUPPORT. The operations and commands of Machine/Operands.lean keep the variant, the queue and the canonical form of the memories. -/

set_option Elab.async false

namespace Sys2Proof.Laws

open Machine

theorem Chk_andThen_keep {vv qq c k} (h_c : KeepC vv qq c) (h_k : ∀ y0, Keep vv qq y0 → Keep vv qq (k y0)) :
    Keep vv qq (Chk.andThen c k) := by
  delta Chk.andThen
  split
  · have h3 := KeepC.eqBad (v := vv) (q := qq) rfl h_c
    exact h3
  · have h6 := KeepC.eqGood (v := vv) (q := qq) rfl h_c
    exact h_k _ h6

theorem potRefuse_keep {vv qq s code rid addr} (h_s : Keep vv qq s) :
    Keep vv qq (State.potRefuse s code rid addr) := by
  delta State.potRefuse
  extract_lets c_1
  exact errResp_keep (raise_keep (count_keep (recErr_keep h_s)))

theorem reach_keep {vv qq s w b i off write} (h_s : Keep vv qq s) :
    KeepC vv qq (State.reach s w b i off write) := by
  delta State.reach
  exact KeepC.ite (KeepC.bad (errResp_keep h_s)) (by
      split
      · exact KeepC.good h_s
      · exact KeepC.good h_s
      · exact KeepC.ite (KeepC.good h_s) (KeepC.bad (errResp_keep h_s))
      · exact KeepC.ite (KeepC.good h_s) (KeepC.bad (errResp_keep h_s))
      · split
        · exact KeepC.bad (potRefuse_keep h_s)
        · exact KeepC.ite (KeepC.bad (potRefuse_keep h_s)) (KeepC.ite (KeepC.bad (errResp_keep h_s)) (KeepC.ite (KeepC.bad (refuse_keep h_s)) (KeepC.ite (KeepC.bad (refuse_keep h_s)) (KeepC.good h_s)))))

theorem checkWord_keep {vv qq s w b i off v} (h_s : Keep vv qq s) :
    KeepC vv qq (State.checkWord s w b i off v) := by
  delta State.checkWord
  split
  · exact KeepC.bad (refuse_keep h_s)
  · extract_lets t_6
    have h_t_6 : Keep vv qq t_6 := by
        unfold t_6
        exact okResp_keep (Keep.ite (recErr_keep h_s) h_s)
    clear_value t_6
    exact KeepC.ite (KeepC.good h_t_6) (KeepC.bad h_t_6)

theorem checkWrite_keep {vv qq s w b i off v} (h_s : Keep vv qq s) :
    KeepC vv qq (State.checkWrite s w b i off v) := by
  delta State.checkWrite
  split
  · rename_i a3
    have h4 := KeepC.eqBad (v := vv) (q := qq) a3 (reach_keep h_s)
    exact KeepC.bad h4
  · rename_i a7
    have h8 := KeepC.eqGood (v := vv) (q := qq) a7 (reach_keep h_s)
    exact KeepC.ite (KeepC.bad (refuse_keep h_s)) (KeepC.ite (KeepC.bad (refuse_keep h_s)) (KeepC.ite (KeepC.bad (refuse_keep h_s)) (KeepC.ite (KeepC.bad (refuse_keep h_s)) (checkWord_keep h_s))))

theorem breakKick_keep {vv qq s b off} (h_s : Keep vv qq s) :
    Keep vv qq (State.breakKick s b off) := by
  delta State.breakKick
  exact Keep.ite (Keep.upd h_s) h_s

theorem onWrite_keep {vv qq s w b i off v k} (h_s : Keep vv qq s) (h_k : ∀ y0, Keep vv qq y0 → Keep vv qq (k y0)) :
    Keep vv qq (State.onWrite s w b i off v k) := by
  delta State.onWrite
  exact Chk_andThen_keep (checkWrite_keep h_s) (fun t1 h2 => h_k _ (breakKick_keep h2))

theorem storeWord_keep {vv qq s b i off v} (h_s : Keep vv qq s) :
    Keep vv qq (State.storeWord s b i off v) := by
  delta State.storeWord
  extract_lets bank_1
  exact Keep.foldl h_s (fun t2 x3 h4 => by
      split
      · exact wr_keep h4
      · exact wr_keep (wrSh_keep h4)
      · exact wr_keep h4
      · exact wr_keep h4
      · exact h4)

end Sys2Proof.Laws
end

