-- ==== Sys2Proof/Laws/KeepReports.lean ====
section
/-! SUPPORT. The operations and commands of Machine/Reports.lean keep the variant, the queue and the canonical form of the memories. -/

set_option Elab.async false

namespace Sys2Proof.Laws

open Machine

theorem faultLine_keep {vv qq s code b i heads} (h_s : Keep vv qq s) :
    Keep vv qq (State.faultLine s code b i heads) := by
  delta State.faultLine
  exact Keep.upd h_s

theorem event_keep {vv qq s recipient b i code detail} (h_s : Keep vv qq s) :
    Keep vv qq (State.event s recipient b i code detail) := by
  delta State.event
  extract_lets o_1
  exact Keep.ite (Keep.upd h_s) h_s

theorem eventPage_keep {vv qq s b i code unit val} (h_s : Keep vv qq s) :
    Keep vv qq (State.eventPage s b i code unit val) := by
  delta State.eventPage
  exact event_keep h_s

theorem eventHead_keep {vv qq s h b i code unit val} (h_s : Keep vv qq s) :
    Keep vv qq (State.eventHead s h b i code unit val) := by
  delta State.eventHead
  exact Keep.foldl h_s (fun t1 x2 h3 => event_keep h3)

end Sys2Proof.Laws
end

