-- ==== Sys2Proof/Laws/KeepMemory.lean ====
section
/-! SUPPORT. The operations and commands of Machine/Mem.lean keep the variant, the queue and the canonical form of the memories. -/

set_option Elab.async false

namespace Sys2Proof.Laws

open Machine

theorem memRecord_keep {vv qq s q r} (h_s : Keep vv qq s) :
    Keep vv qq (State.memRecord s q r) := by
  delta State.memRecord
  exact Keep.ite (Keep.ite (count_keep (recErr_keep h_s)) h_s) (by
      extract_lets s1_1 c_2
      have h_s1_1 : Keep vv qq s1_1 := by
          unfold s1_1
          exact recErr_keep h_s
      clear_value s1_1
      exact Keep.ite h_s1_1 (raise_keep (count_keep h_s1_1)))

theorem clearPoison_keep {vv qq s a len} (h_s : Keep vv qq s) :
    Keep vv qq (State.clearPoison s a len) := by
  delta State.clearPoison
  extract_lets lo_1 hi_2 u_3
  exact Keep.ite (Keep.upd h_s) h_s

theorem store_keep {vv qq s a d} (h_s : Keep vv qq s) :
    Keep vv qq (State.store s a d) := by
  delta State.store
  exact clearPoison_keep (wrBytes_keep h_s)

theorem wrMem_keep {vv qq s a n v} (h_s : Keep vv qq s) :
    Keep vv qq (State.wrMem s a n v) := by
  delta State.wrMem
  exact wrBytes_keep h_s

theorem setPotEntry_keep {vv qq s pfn e} (h_s : Keep vv qq s) :
    Keep vv qq (State.setPotEntry s pfn e) := by
  delta State.setPotEntry
  exact wrMem_keep h_s

theorem zeroPage_keep {vv qq s pfn} (h_s : Keep vv qq s) :
    Keep vv qq (State.zeroPage s pfn) := by
  delta State.zeroPage
  exact ⟨h_s.var, h_s.pend, mwf_mdrop (h_s.dram), h_s.basin, h_s.flash, h_s.otp⟩

end Sys2Proof.Laws
end

