-- ==== Sys2Proof/Laws/KeepTraffic.lean ====
section
/-! SUPPORT. The operations and commands of Machine/Traffic.lean keep the variant, the queue and the canonical form of the memories. -/

set_option Elab.async false

namespace Sys2Proof.Laws

open Machine

theorem portDrop_keep {vv qq s p} (h_s : Keep vv qq s) :
    Keep vv qq (State.portDrop s p) := by
  delta State.portDrop
  exact Keep.upd h_s

theorem portSettle_keep {vv qq s p} (h_s : Keep vv qq s) :
    Keep vv qq (State.portSettle s p) := by
  delta State.portSettle
  exact Keep.ite (portDrop_keep h_s) h_s

theorem groupIn_keep {vv qq s p g} (h_s : Keep vv qq s) :
    Keep vv qq (State.groupIn s p g) := by
  delta State.groupIn
  exact Keep.ite h_s (Keep.upd h_s)

theorem walk_keep {vv qq s0 p pfn} (h_s0 : Keep vv qq s0) :
    Keep vv qq (State.walk s0 p pfn) := by
  delta State.walk
  extract_lets s_1 c_2 used_3 t_4 new_5 fresh_6
  have h_t : Keep vv qq t_4 := by
      unfold t_4 s_1
      exact groupIn_keep (portSettle_keep h_s0)
  clear_value t_4
  exact Keep.ite (Keep.upd h_t) (count_keep (Keep.upd h_t))

theorem bucketTake_keep {vv qq s k port} (h_s : Keep vv qq s) :
    Keep vv qq (State.bucketTake s k port) := by
  delta State.bucketTake
  exact Keep.upd h_s

theorem classify_keep {vv qq s port rid write critical} (h_s : Keep vv qq s) :
    KeepR vv qq (State.classify s port rid write critical) := by
  delta State.classify
  extract_lets cls_1 crit_2
  exact KeepR.ite (KeepR.mk (bucketTake_keep h_s)) (KeepR.ite (KeepR.mk (bucketTake_keep h_s)) (KeepR.mk h_s))

theorem rowLeave_keep {vv qq s pa port hint} (h_s : Keep vv qq s) :
    Keep vv qq (State.rowLeave s pa port hint) := by
  delta State.rowLeave
  extract_lets row_1 u_2
  exact Keep.upd h_s

theorem issueCmd_keep {vv qq s n op rank line data} (h_s : Keep vv qq s) :
    Keep vv qq (State.issueCmd s n op rank line data) := by
  delta State.issueCmd
  extract_lets old_1 t_2 all_3 u_4
  exact Keep.upd h_s

theorem lineCmds_keep {vv qq s pa write data} (h_s : Keep vv qq s) :
    Keep vv qq (State.lineCmds s pa write data) := by
  delta State.lineCmds
  extract_lets n_1 line_2 t_3 s1_4
  have h_t_3 : Keep vv qq t_3 := by
      unfold t_3
      exact Keep.ite (issueCmd_keep h_s) h_s
  have h_s1_4 : Keep vv qq s1_4 := by
      unfold s1_4
      exact Keep.ite h_s (issueCmd_keep h_t_3)
  clear_value t_3 s1_4
  exact Keep.ite (Keep.foldl h_s1_4 (fun t5 x6 h7 => issueCmd_keep h7)) (issueCmd_keep h_s1_4)

theorem lineGo_keep {vv qq s port hint pa write data} (h_s : Keep vv qq s) :
    Keep vv qq (State.lineGo s port hint pa write data) := by
  delta State.lineGo
  extract_lets n_1 s1_2
  have h_s1_2 : Keep vv qq s1_2 := by
      unfold s1_2
      exact count_keep (count_keep (count_keep h_s))
  clear_value s1_2
  exact rowLeave_keep (lineCmds_keep h_s1_2)

theorem carry_keep {vv qq s q write a len} (h_s : Keep vv qq s) :
    Keep vv qq (State.carry s q write a len) := by
  delta State.carry
  extract_lets s1_1
  have h_s1_1 : Keep vv qq s1_1 := by
      unfold s1_1
      exact Keep.foldl h_s (fun t2 x3 h4 => Keep.ite (walk_keep h4) h4)
  clear_value s1_1
  exact Keep.foldl h_s1_1 (fun t5 x6 h7 => by
      extract_lets u_8 u1_9
      have h_u_8 : Keep vv qq u_8 := by
          unfold u_8
          exact KeepR.snd (classify_keep h7)
      have h_u1_9 : Keep vv qq u1_9 := by
          unfold u1_9
          exact Keep.ite (lineGo_keep h_u_8) h_u_8
      clear_value u_8 u1_9
      exact lineGo_keep h_u1_9)

theorem fetched_keep {vv qq s q a len} (h_s : Keep vv qq s) :
    Keep vv qq (State.fetched s q a len) := by
  delta State.fetched
  exact carry_keep h_s

theorem put_keep {vv qq s q a d} (h_s : Keep vv qq s) :
    Keep vv qq (State.put s q a d) := by
  delta State.put
  exact carry_keep (store_keep h_s)

theorem bucketFill_keep {vv qq s k} (h_s : Keep vv qq s) :
    Keep vv qq (State.bucketFill s k) := by
  delta State.bucketFill
  exact Keep.upd h_s

theorem bucketSettle_keep {vv qq s k} (h_s : Keep vv qq s) :
    Keep vv qq (State.bucketSettle s k) := by
  delta State.bucketSettle
  exact Keep.upd h_s

theorem tryStore_keep {vv qq s q a d} (h_s : Keep vv qq s) :
    KeepP vv qq (State.tryStore s q a d) := by
  delta State.tryStore
  split
  · exact KeepP.mk (memRecord_keep h_s)
  · exact KeepP.mk (put_keep h_s)

end Sys2Proof.Laws
end

