-- ==== Sys2Proof/Laws/KeepRings.lean ====
section
/-! SUPPORT. The operations and commands of Machine/Rings.lean keep the variant, the queue and the canonical form of the memories. -/

set_option Elab.async false

namespace Sys2Proof.Laws

open Machine

theorem setRing_keep {vv qq s r c} (h_s : Keep vv qq s) :
    Keep vv qq (State.setRing s r c) := by
  delta State.setRing
  exact Keep.upd h_s

theorem tryDisable_keep {vv qq s r} (h_s : Keep vv qq s) :
    Keep vv qq (State.tryDisable s r) := by
  delta State.tryDisable
  extract_lets c_1 s1_2
  have h_s1_2 : Keep vv qq s1_2 := by
      unfold s1_2
      exact Keep.ite (wr_keep h_s) h_s
  clear_value s1_2
  exact Keep.ite (setRing_keep h_s1_2) h_s

theorem setJob_keep {vv qq s cls n j} (h_s : Keep vv qq s) :
    Keep vv qq (State.setJob s cls n j) := by
  delta State.setJob
  exact Keep.upd h_s

theorem record_keep {vv qq s r kind final partly seq code detail info} (h_s : Keep vv qq s) :
    Keep vv qq (State.record s r kind final partly seq code detail info) := by
  delta State.record
  extract_lets c_1 u_2
  exact Keep.upd h_s

theorem endUnstarted_keep {vv qq s r code info} (h_s : Keep vv qq s) :
    Keep vv qq (State.endUnstarted s r code info) := by
  delta State.endUnstarted
  extract_lets c_1 s1_2 u_3
  have h_s1_2 : Keep vv qq s1_2 := by
      unfold s1_2
      exact record_keep h_s
  clear_value s1_2
  exact setRing_keep h_s1_2

theorem fenceTest_keep {vv qq s q f v} (h_s : Keep vv qq s) :
    KeepP vv qq (State.fenceTest s q f v) := by
  delta State.fenceTest
  exact KeepP.ite (KeepP.mk h_s) (KeepP.ite (KeepP.mk h_s) (by
      split
      · exact KeepP.mk (memRecord_keep h_s)
      · exact KeepP.mk (fetched_keep h_s)))

theorem settle_keep {vv qq p0 p1 p2} (h_p1 : Keep vv qq p1) :
    Keep vv qq (State.settle p0 p1 p2) := by
  induction p0 generalizing p1 p2
  · unfold State.settle
    exact h_p1
  · rename_i m ih
    unfold State.settle
    extract_lets c_1 u_2 asked_3 s0_4 c_5 s1_6
    have h_s0_4 : Keep vv qq s0_4 := by
        unfold s0_4
        exact Keep.ite h_p1 (count_keep h_p1)
    have h_s1_6 : Keep vv qq s1_6 := by
        unfold s1_6
        exact setRing_keep h_s0_4
    clear_value s0_4 s1_6
    exact Keep.ite h_p1 (by
        split
        · exact h_p1
        · exact Keep.ite (ih (endUnstarted_keep h_p1)) (Keep.ite h_p1 (by
              split
              · exact setRing_keep h_p1
              · exact Keep.ite (setRing_keep h_s0_4) (by
                    split
                    · rename_i a27
                      have h28 := KeepP.eq (v := vv) (q := qq) a27 (fenceTest_keep h_s1_6)
                      exact setRing_keep h28
                    · rename_i a31
                      have h32 := KeepP.eq (v := vv) (q := qq) a31 (fenceTest_keep h_s1_6)
                      exact setRing_keep h32
                    · rename_i a39
                      have h40 := KeepP.eq (v := vv) (q := qq) a39 (fenceTest_keep h_s1_6)
                      exact ih (endUnstarted_keep h40)))))

theorem endJob_keep {vv qq s r kind quiet partly seq code detail info} (h_s : Keep vv qq s) :
    Keep vv qq (State.endJob s r kind quiet partly seq code detail info) := by
  delta State.endJob
  extract_lets s1_1 c_2
  have h_s1_1 : Keep vv qq s1_1 := by
      unfold s1_1
      exact Keep.ite h_s (record_keep h_s)
  clear_value s1_1
  exact tryDisable_keep (setRing_keep h_s1_1)

theorem dropWait_keep {vv qq s key} (h_s : Keep vv qq s) :
    Keep vv qq (State.dropWait s key) := by
  delta State.dropWait
  exact Keep.upd h_s

theorem testWait_keep {vv qq s w} (h_s : Keep vv qq s) :
    KeepP vv qq (State.testWait s w) := by
  delta State.testWait
  exact KeepP.ite (KeepP.mk h_s) (by
      split
      · rename_i a4
        have h5 := KeepP.eq (v := vv) (q := qq) a4 (fenceTest_keep h_s)
        exact KeepP.mk h5
      · rename_i a11
        have h12 := KeepP.eq (v := vv) (q := qq) a11 (fenceTest_keep h_s)
        exact KeepP.mk h12)

theorem rewait_keep {vv qq s p} (h_s : Keep vv qq s) :
    Keep vv qq (State.rewait s p) := by
  delta State.rewait
  extract_lets hit_1 s1_2
  have h_s1_2 : Keep vv qq s1_2 := by
      unfold s1_2
      exact Keep.foldl h_s (fun t3 x4 h5 => settle_keep h5)
  clear_value s1_2
  exact Keep.foldl h_s1_2 (fun t6 x7 h8 => Keep.ite (by
      extract_lets r_9 u_10 u_11
      have h_r_9 : KeepP vv qq r_9 := by
          unfold r_9
          exact testWait_keep h8
      have h_u_10 : Keep vv qq u_10 := by
          unfold u_10
          exact KeepP.fst h_r_9
      clear_value r_9 u_10
      exact Keep.upd h_u_10) h8)

theorem addWait_keep {vv qq s key rid f v} (h_s : Keep vv qq s) :
    Keep vv qq (State.addWait s key rid f v) := by
  delta State.addWait
  extract_lets w_1 s1_2 r_3 u_4 u_5
  have h_s1_2 : Keep vv qq s1_2 := by
      unfold s1_2
      exact count_keep h_s
  have h_r_3 : KeepP vv qq r_3 := by
      unfold r_3
      exact KeepP.ite (KeepP.mk h_s1_2) (testWait_keep h_s1_2)
  have h_u_4 : Keep vv qq u_4 := by
      unfold u_4
      exact KeepP.fst h_r_3
  clear_value s1_2 r_3 u_4
  exact Keep.upd h_u_4

theorem takeEntry_keep {vv qq s r} (h_s : Keep vv qq s) :
    KeepOP vv qq (State.takeEntry s r) := by
  delta State.takeEntry
  extract_lets c_1 u_2
  split
  · exact KeepOP.ite (KeepOP.some (KeepP.mk (settle_keep (setRing_keep h_s)))) KeepOP.none
  · exact KeepOP.none

theorem fenceSignal_keep {vv qq s q f v} (h_s : Keep vv qq s) :
    KeepP vv qq (State.fenceSignal s q f v) := by
  delta State.fenceSignal
  exact KeepP.ite (KeepP.mk h_s) (by
      split
      · rename_i a4
        have h5 := KeepP.eq (v := vv) (q := qq) a4 (tryStore_keep h_s)
        exact KeepP.mk h5
      · rename_i a8
        have h9 := KeepP.eq (v := vv) (q := qq) a8 (tryStore_keep h_s)
        exact KeepP.mk h9)

theorem signal_keep {vv qq s q f v} (h_s : Keep vv qq s) :
    KeepP vv qq (State.signal s q f v) := by
  delta State.signal
  split
  · rename_i a3
    have h4 := KeepP.eq (v := vv) (q := qq) a3 (fenceSignal_keep h_s)
    exact KeepP.mk (rewait_keep h4)
  · rename_i a9
    have h10 := KeepP.eq (v := vv) (q := qq) a9 (fenceSignal_keep h_s)
    exact KeepP.mk h10

theorem startJob_keep {vv qq s r cls n} (h_s : Keep vv qq s) :
    Keep vv qq (State.startJob s r cls n) := by
  delta State.startJob
  extract_lets c_1 key_2 left_3 d_4 u_5 s1_6 u_7 s2_8
  have h_s1_6 : Keep vv qq s1_6 := by
      unfold s1_6
      exact setRing_keep h_s
  have h_s2_8 : Keep vv qq s2_8 := by
      unfold s2_8
      exact Keep.upd h_s1_6
  clear_value s1_6 s2_8
  exact settle_keep (setJob_keep h_s2_8)

theorem cqIrq_keep {vv qq s q} (h_s : Keep vv qq s) :
    Keep vv qq (State.cqIrq s q) := by
  delta State.cqIrq
  extract_lets c_1
  exact setRing_keep (notify_keep h_s)

theorem cqWritten_keep {vv qq s q} (h_s : Keep vv qq s) :
    Keep vv qq (State.cqWritten s q) := by
  delta State.cqWritten
  extract_lets c_1 s1_2
  have h_s1_2 : Keep vv qq s1_2 := by
      unfold s1_2
      exact count_keep (setRing_keep h_s)
  clear_value s1_2
  exact Keep.ite (cqIrq_keep h_s1_2) h_s1_2

theorem cqStore_keep {vv qq s q port d} (h_s : Keep vv qq s) :
    KeepP vv qq (State.cqStore s q port d) := by
  delta State.cqStore
  extract_lets c_1 rq_2
  split
  · rename_i a6
    have h7 := KeepP.eq (v := vv) (q := qq) a6 (tryStore_keep h_s)
    exact KeepP.mk (raise_keep (recErr_keep (setRing_keep h7)))
  · rename_i a10
    have h11 := KeepP.eq (v := vv) (q := qq) a10 (tryStore_keep h_s)
    exact KeepP.mk (cqWritten_keep h11)

theorem dropEvent_keep {vv qq s k rest} (h_s : Keep vv qq s) :
    Keep vv qq (State.dropEvent s k rest) := by
  delta State.dropEvent
  exact raise_keep (recErr_keep (count_keep (Keep.upd h_s)))

theorem deliver_keep {vv qq s k} (h_s : Keep vv qq s) :
    Keep vv qq (State.deliver s k) := by
  delta State.deliver
  split
  · exact h_s
  · split
    · exact dropEvent_keep h_s
    · extract_lets flags_12 s1_13 t_14 held_15
      have h_s1_13 : KeepO vv qq s1_13 := by
          unfold s1_13
          exact KeepO.ite (by
              split
              · rename_i a18
                have h19 := KeepP.eq (v := vv) (q := qq) a18 (cqStore_keep h_s)
                exact KeepO.some (Keep.upd h19)
              · rename_i a22
                have h23 := KeepP.eq (v := vv) (q := qq) a22 (cqStore_keep h_s)
                exact KeepO.none) KeepO.none
      have h_t_14 : Keep vv qq t_14 := by
          unfold t_14
          exact Keep.ite (KeepP.fst (cqStore_keep h_s)) h_s
      clear_value s1_13 t_14
      split
      · have h26 := KeepO.eq (v := vv) (q := qq) rfl h_s1_13
        exact h26
      · split
        · exact h_t_14
        · exact Keep.ite (Keep.upd h_t_14) (dropEvent_keep h_t_14)

theorem fetchEntry_keep {vv qq s r} (h_s : Keep vv qq s) :
    Keep vv qq (State.fetchEntry s r) := by
  delta State.fetchEntry
  extract_lets c_1 n_2 a_3 q_4 s0_5
  have h_s0_5 : Keep vv qq s0_5 := by
      unfold s0_5
      exact count_keep h_s
  clear_value s0_5
  split
  · exact setRing_keep (memRecord_keep h_s0_5)
  · exact setRing_keep (fetched_keep h_s0_5)

theorem holdDue_keep {vv qq s q} (h_s : Keep vv qq s) :
    Keep vv qq (State.holdDue s q) := by
  delta State.holdDue
  extract_lets mine_1 new_2 u_3
  exact count_keep (Keep.upd h_s)

theorem writeDue_keep {vv qq s q} (h_s : Keep vv qq s) :
    Keep vv qq (State.writeDue s q) := by
  delta State.writeDue
  split
  · exact h_s
  · exact Keep.ite (by
        extract_lets flags_7
        split
        · rename_i a10
          have h11 := KeepP.eq (v := vv) (q := qq) a10 (cqStore_keep h_s)
          exact tryDisable_keep (Keep.upd h11)
        · rename_i a14
          have h15 := KeepP.eq (v := vv) (q := qq) a14 (cqStore_keep h_s)
          exact holdDue_keep h15) (Keep.ite h_s (raise_keep (holdDue_keep h_s)))

end Sys2Proof.Laws
end

