-- ==== Sys2Proof/Laws/KeepDma.lean ====
section
/-! SUPPORT. The operations and commands of Machine/Dma.lean keep the variant, the queue and the canonical form of the memories. -/

set_option Elab.async false

namespace Sys2Proof.Laws

open Machine

theorem dmaEnd_keep {vv qq s n j kind code detail info partly} (h_s : Keep vv qq s) :
    Keep vv qq (State.dmaEnd s n j kind code detail info partly) := by
  delta State.dmaEnd
  extract_lets s1_1 c_2 s2_3
  have h_s1_1 : Keep vv qq s1_1 := by
      unfold s1_1
      exact wr_keep (setJob_keep h_s)
  have h_s2_3 : Keep vv qq s2_3 := by
      unfold s2_3
      exact Keep.ite (settle_keep (setRing_keep h_s1_1)) h_s1_1
  clear_value s1_1 s2_3
  exact endJob_keep h_s2_3

theorem dmaAbort_keep {vv qq s n j code} (h_s : Keep vv qq s) :
    Keep vv qq (State.dmaAbort s n j code) := by
  delta State.dmaAbort
  exact dmaEnd_keep (count_keep h_s)

theorem ctxOp_keep {vv qq s w op target k} (h_s : Keep vv qq s) (h_k : ∀ y0 y1, Keep vv qq y0 → Keep vv qq (k y0 y1)) :
    Keep vv qq (State.ctxOp s w op target k) := by
  delta State.ctxOp
  exact onWrite_keep h_s (fun t1 h2 => by
      extract_lets r_3
      exact Keep.ite (refuse_keep h2) (Keep.ite (refuse_keep h2) (h_k _ _ h2)))

theorem ctxRead_keep {vv qq s w} (h_s : Keep vv qq s) :
    Keep vv qq (State.ctxRead s w) := by
  delta State.ctxRead
  exact ctxOp_keep h_s (fun t1 x3 h2 => Keep.foldl h2 (fun t4 x5 h6 => wr_keep h6))

theorem ctxRefuse_keep {vv qq s w code} (h_s : Keep vv qq s) :
    Keep vv qq (State.ctxRefuse s w code) := by
  delta State.ctxRefuse
  exact recErr_keep h_s

theorem ctxWrite_keep {vv qq s w} (h_s : Keep vv qq s) :
    Keep vv qq (State.ctxWrite s w) := by
  delta State.ctxWrite
  exact ctxOp_keep h_s (fun t1 x3 h2 => Keep.ite (ctxRefuse_keep h2) (setRing_keep h2))

theorem ctxEnable_keep {vv qq s w} (h_s : Keep vv qq s) :
    Keep vv qq (State.ctxEnable s w) := by
  delta State.ctxEnable
  exact ctxOp_keep h_s (fun t1 x3 h2 => by
      extract_lets c_4 u_5 st_6
      have h_u_5 : Keep vv qq u_5 := by
          unfold u_5
          exact Keep.ite (wr_keep h2) h2
      clear_value u_5
      exact Keep.ite (ctxRefuse_keep h2) (Keep.ite (ctxRefuse_keep h2) (Keep.ite (ctxRefuse_keep h2) (setRing_keep h_u_5))))

theorem ctxDisable_keep {vv qq s w} (h_s : Keep vv qq s) :
    Keep vv qq (State.ctxDisable s w) := by
  delta State.ctxDisable
  exact ctxOp_keep h_s (fun t1 x3 h2 => tryDisable_keep (setRing_keep h2))

theorem migrated_keep {vv qq s r} (h_s : Keep vv qq s) :
    Keep vv qq (State.migrated s r) := by
  delta State.migrated
  extract_lets c_1 s1_2
  have h_s1_2 : Keep vv qq s1_2 := by
      unfold s1_2
      exact setRing_keep h_s
  clear_value s1_2
  exact raise_keep (count_keep (record_keep h_s1_2))

theorem ctxMigrate_keep {vv qq s w n} (h_s : Keep vv qq s) :
    Keep vv qq (State.ctxMigrate s w n) := by
  delta State.ctxMigrate
  exact ctxOp_keep h_s (fun t1 x3 h2 => by
      extract_lets c_4 u_5
      exact Keep.ite (ctxRefuse_keep h2) (Keep.ite (ctxRefuse_keep h2) (Keep.ite (ctxRefuse_keep h2) (Keep.ite (migrated_keep (setRing_keep h2)) (setRing_keep h2)))))

theorem dmaResume_keep {vv qq s n j} (h_s : Keep vv qq s) :
    Keep vv qq (State.dmaResume s n j) := by
  delta State.dmaResume
  extract_lets s1_1
  have h_s1_1 : Keep vv qq s1_1 := by
      unfold s1_1
      exact setJob_keep (count_keep (wr_keep h_s))
  clear_value s1_1
  exact settle_keep (setRing_keep h_s1_1)

theorem dmaCtrl_keep {vv qq s w n v} (h_s : Keep vv qq s) :
    Keep vv qq (State.dmaCtrl s w n v) := by
  delta State.dmaCtrl
  exact onWrite_keep h_s (fun t1 h2 => by
      split
      · exact Keep.ite h2 (refuse_keep h2)
      · exact Keep.ite h2 (Keep.ite (refuse_keep h2) (Keep.ite (dmaAbort_keep h2) (dmaResume_keep h2))))

theorem touchCtx_keep {vv qq s r} (h_s : Keep vv qq s) :
    Keep vv qq (State.touchCtx s r) := by
  delta State.touchCtx
  exact Keep.ite (count_keep (Keep.upd h_s)) (by
      extract_lets victim_1 kept_2 image_3 u_4
      exact count_keep (Keep.upd h_s))

theorem dropDoorbell_keep {vv qq s k r rec} (h_s : Keep vv qq s) :
    Keep vv qq (State.dropDoorbell s k r rec) := by
  delta State.dropDoorbell
  extract_lets s1_1
  have h_s1_1 : Keep vv qq s1_1 := by
      unfold s1_1
      exact count_keep h_s
  clear_value s1_1
  exact Keep.ite (raise_keep (recErr_keep h_s1_1)) h_s1_1

theorem fenceNotify_keep {vv qq s k slot} (h_s : Keep vv qq s) :
    Keep vv qq (State.fenceNotify s k slot) := by
  delta State.fenceNotify
  exact Keep.ite (recErr_keep (count_keep h_s)) (rewait_keep (count_keep (count_keep h_s)))

theorem consumer_keep {vv qq s k r v} (h_s : Keep vv qq s) :
    Keep vv qq (State.consumer s k r v) := by
  delta State.consumer
  extract_lets c_1
  exact Keep.ite (count_keep (setRing_keep h_s)) (dropDoorbell_keep h_s)

theorem producer_keep {vv qq s k r v} (h_s : Keep vv qq s) :
    Keep vv qq (State.producer s k r v) := by
  delta State.producer
  extract_lets c_1 add_2 s1_3
  have h_s1_3 : Keep vv qq s1_3 := by
      unfold s1_3
      exact record_keep (raise_keep (recErr_keep h_s))
  clear_value s1_3
  exact Keep.ite h_s (Keep.ite (setRing_keep h_s) (setRing_keep h_s1_3))

theorem doorbellHalt_keep {vv qq s k r abort} (h_s : Keep vv qq s) :
    Keep vv qq (State.doorbellHalt s k r abort) := by
  delta State.doorbellHalt
  extract_lets c_1
  split
  · exact Keep.ite (Keep.ite (dmaAbort_keep (count_keep h_s)) (dmaResume_keep (count_keep h_s))) (recErr_keep (count_keep h_s))
  · exact recErr_keep (count_keep h_s)

theorem doorbell_keep {vv qq s k r v} (h_s : Keep vv qq s) :
    Keep vv qq (State.doorbell s k r v) := by
  delta State.doorbell
  extract_lets id_1 op_2 s0_3 s1_4 c_5
  have h_s0_3 : Keep vv qq s0_3 := by
      unfold s0_3
      exact okResp_keep h_s
  have h_s1_4 : Keep vv qq s1_4 := by
      unfold s1_4
      exact touchCtx_keep h_s0_3
  clear_value s0_3 s1_4
  exact Keep.ite (count_keep (dropDoorbell_keep h_s0_3)) (Keep.ite (fenceNotify_keep h_s0_3) (Keep.ite (dropDoorbell_keep h_s0_3) (Keep.ite (dropDoorbell_keep h_s0_3) (Keep.ite (dropDoorbell_keep h_s1_4) (Keep.ite (Keep.ite (consumer_keep h_s1_4) (producer_keep (count_keep h_s1_4))) (Keep.ite (dropDoorbell_keep h_s1_4) (doorbellHalt_keep h_s1_4)))))))

theorem descFetch_keep {vv qq s r} (h_s : Keep vv qq s) :
    Keep vv qq (State.descFetch s r) := by
  delta State.descFetch
  exact Keep.ite (settle_keep (fetchEntry_keep h_s)) h_s

theorem dmaWrite_keep {vv qq s q a d} (h_s : Keep vv qq s) :
    KeepP vv qq (State.dmaWrite s q a d) := by
  delta State.dmaWrite
  split
  · exact KeepP.mk (put_keep h_s)
  · exact KeepP.ite (by
        extract_lets n_7 s1_8
        have h_s1_8 : Keep vv qq s1_8 := by
            unfold s1_8
            exact Keep.upd h_s
        clear_value s1_8
        exact KeepP.mk (memRecord_keep (wrBytes_keep h_s1_8))) (KeepP.mk (memRecord_keep h_s))

theorem dmaMove_keep {vv qq q n p2 p3 p4} (h_p3 : Keep vv qq p3) :
    KeepP vv qq (State.dmaMove q n p2 p3 p4) := by
  induction p2 generalizing q n p3 p4
  · unfold State.dmaMove
    exact KeepP.mk h_p3
  · rename_i m ih
    unfold State.dmaMove
    extract_lets d_1 op_2
    split
    · exact KeepP.mk h_p3
    · extract_lets ra_16 wa_17 data_18 s1_19 crc_20
      have h_s1_19 : Keep vv qq s1_19 := by
          unfold s1_19
          exact Keep.ite h_p3 (count_keep (fetched_keep h_p3))
      clear_value s1_19
      split
      · exact KeepP.mk (memRecord_keep h_p3)
      · split
        · rename_i a32
          have h33 := KeepP.eq (v := vv) (q := qq) a32 (dmaWrite_keep h_s1_19)
          exact KeepP.mk h33
        · rename_i a36
          have h37 := KeepP.eq (v := vv) (q := qq) a36 (dmaWrite_keep h_s1_19)
          extract_lets t1_38 t2_39
          have h_t1_38 : Keep vv qq t1_38 := by
              unfold t1_38
              exact count_keep h37
          have h_t2_39 : Keep vv qq t2_39 := by
              unfold t2_39
              exact wr_keep h_t1_38
          clear_value t1_38 t2_39
          exact KeepP.ite (by
              split
              · rename_i a45
                have h46 := KeepP.eq (v := vv) (q := qq) a45 (dmaWrite_keep h_t2_39)
                exact KeepP.mk h46
              · rename_i a49
                have h50 := KeepP.eq (v := vv) (q := qq) a49 (dmaWrite_keep h_t2_39)
                exact KeepP.mk (count_keep h50)) (ih h_t2_39)

theorem dmaRun_keep {vv qq s n op} (h_s : Keep vv qq s) :
    Keep vv qq (State.dmaRun s n op) := by
  delta State.dmaRun
  split
  · exact h_s
  · exact Keep.ite h_s (Keep.ite (setJob_keep h_s) (by
        extract_lets q_6
        split
        · exact setJob_keep (memRecord_keep h_s)
        · exact dmaEnd_keep h_s
        · extract_lets s1_19
          have h_s1_19 : Keep vv qq s1_19 := by
              unfold s1_19
              exact fetched_keep h_s
          clear_value s1_19
          exact Keep.ite (dmaEnd_keep h_s1_19) (by
              split
              · rename_i a23
                have h24 := KeepP.eq (v := vv) (q := qq) a23 (dmaMove_keep h_s1_19)
                exact setJob_keep h24)))

theorem execCompletionRecordWrite_keep {vv qq q s} (h_s : Keep vv qq s) :
    KeepN vv qq (execCompletionRecordWrite q s) := by
  delta execCompletionRecordWrite
  exact KeepN.next (writeDue_keep h_s)

theorem execCqIrqTimer_keep {vv qq q s} (h_s : Keep vv qq s) :
    KeepN vv qq (execCqIrqTimer q s) := by
  delta execCqIrqTimer
  extract_lets c_1
  exact KeepN.next (Keep.ite (cqIrq_keep h_s) h_s)

theorem execCtxDisable_keep {vv qq w s} (h_s : Keep vv qq s) :
    KeepN vv qq (execCtxDisable w s) := by
  delta execCtxDisable
  exact KeepN.next (ctxDisable_keep h_s)

theorem execCtxEnable_keep {vv qq w s} (h_s : Keep vv qq s) :
    KeepN vv qq (execCtxEnable w s) := by
  delta execCtxEnable
  exact KeepN.next (ctxEnable_keep h_s)

theorem execCtxMigrate_keep {vv qq w target s} (h_s : Keep vv qq s) :
    KeepN vv qq (execCtxMigrate w target s) := by
  delta execCtxMigrate
  exact KeepN.next (ctxMigrate_keep h_s)

theorem execCtxRead_keep {vv qq w s} (h_s : Keep vv qq s) :
    KeepN vv qq (execCtxRead w s) := by
  delta execCtxRead
  exact KeepN.next (ctxRead_keep h_s)

theorem execCtxWrite_keep {vv qq w s} (h_s : Keep vv qq s) :
    KeepN vv qq (execCtxWrite w s) := by
  delta execCtxWrite
  exact KeepN.next (ctxWrite_keep h_s)

theorem execDmaBusError_keep {vv qq n s} (h_s : Keep vv qq s) :
    KeepN vv qq (execDmaBusError n s) := by
  delta execDmaBusError
  extract_lets k_1
  exact KeepN.next (by
      split
      · exact h_s
      · exact Keep.ite h_s (by
            extract_lets s1_7 s2_8 s3_9 s4_10 u_11
            have h_s1_7 : Keep vv qq s1_7 := by
                unfold s1_7
                exact wr_keep (wr_keep (wr_keep (wrB_keep (wrB_keep (wr_keep (wr_keep (wr_keep h_s)))))))
            have h_s2_8 : Keep vv qq s2_8 := by
                unfold s2_8
                exact wr_keep (wr_keep h_s1_7)
            have h_s3_9 : Keep vv qq s3_9 := by
                unfold s3_9
                exact raise_keep (count_keep (recErr_keep h_s2_8))
            have h_s4_10 : Keep vv qq s4_10 := by
                unfold s4_10
                exact record_keep h_s3_9
            clear_value s1_7 s2_8 s3_9 s4_10
            exact setJob_keep (setRing_keep h_s4_10)))

theorem execDmaCtrlAbort_keep {vv qq w n s} (h_s : Keep vv qq s) :
    KeepN vv qq (execDmaCtrlAbort w n s) := by
  delta execDmaCtrlAbort
  exact KeepN.next (dmaCtrl_keep h_s)

theorem execDmaCtrlResume_keep {vv qq w n s} (h_s : Keep vv qq s) :
    KeepN vv qq (execDmaCtrlResume w n s) := by
  delta execDmaCtrlResume
  exact KeepN.next (dmaCtrl_keep h_s)

theorem execDmaFence_keep {vv qq n s} (h_s : Keep vv qq s) :
    KeepN vv qq (execDmaFence n s) := by
  delta execDmaFence
  exact KeepN.next (dmaRun_keep h_s)

theorem execDmaFill_keep {vv qq n s} (h_s : Keep vv qq s) :
    KeepN vv qq (execDmaFill n s) := by
  delta execDmaFill
  exact KeepN.next (dmaRun_keep h_s)

theorem execDmaGather_keep {vv qq n s} (h_s : Keep vv qq s) :
    KeepN vv qq (execDmaGather n s) := by
  delta execDmaGather
  exact KeepN.next (dmaRun_keep h_s)

theorem execDmaHaltTimeout_keep {vv qq n s} (h_s : Keep vv qq s) :
    KeepN vv qq (execDmaHaltTimeout n s) := by
  delta execDmaHaltTimeout
  exact KeepN.next (by
      split
      · exact h_s
      · exact Keep.ite h_s (dmaEnd_keep (raise_keep (count_keep h_s))))

theorem execDmaJobDone_keep {vv qq n s} (h_s : Keep vv qq s) :
    KeepN vv qq (execDmaJobDone n s) := by
  delta execDmaJobDone
  exact KeepN.next (by
      split
      · exact h_s
      · exact Keep.ite h_s (Keep.ite (by
            split
            · rename_i a8
              have h9 := KeepP.eq (v := vv) (q := qq) a8 (signal_keep h_s)
              exact dmaEnd_keep h9
            · rename_i a14
              have h15 := KeepP.eq (v := vv) (q := qq) a14 (signal_keep h_s)
              exact dmaEnd_keep h15) (dmaEnd_keep h_s)))

theorem execDmaScatter_keep {vv qq n s} (h_s : Keep vv qq s) :
    KeepN vv qq (execDmaScatter n s) := by
  delta execDmaScatter
  exact KeepN.next (dmaRun_keep h_s)

theorem execDoorbellAbort_keep {vv qq k r s} (h_s : Keep vv qq s) :
    KeepN vv qq (execDoorbellAbort k r s) := by
  delta execDoorbellAbort
  exact KeepN.next (doorbell_keep h_s)

theorem execDoorbellConsumerUpdate_keep {vv qq k r index s} (h_s : Keep vv qq s) :
    KeepN vv qq (execDoorbellConsumerUpdate k r index s) := by
  delta execDoorbellConsumerUpdate
  exact KeepN.next (doorbell_keep h_s)

theorem execDoorbellFenceNotify_keep {vv qq k slot s} (h_s : Keep vv qq s) :
    KeepN vv qq (execDoorbellFenceNotify k slot s) := by
  delta execDoorbellFenceNotify
  exact KeepN.next (doorbell_keep h_s)

theorem execDoorbellProducerUpdate_keep {vv qq k r tail s} (h_s : Keep vv qq s) :
    KeepN vv qq (execDoorbellProducerUpdate k r tail s) := by
  delta execDoorbellProducerUpdate
  exact KeepN.next (doorbell_keep h_s)

theorem execDoorbellResume_keep {vv qq k r s} (h_s : Keep vv qq s) :
    KeepN vv qq (execDoorbellResume k r s) := by
  delta execDoorbellResume
  exact KeepN.next (doorbell_keep h_s)

theorem execEventRecordDeliver_keep {vv qq k s} (h_s : Keep vv qq s) :
    KeepN vv qq (execEventRecordDeliver k s) := by
  delta execEventRecordDeliver
  exact KeepN.next (deliver_keep h_s)

theorem execMigrateDone_keep {vv qq r s} (h_s : Keep vv qq s) :
    KeepN vv qq (execMigrateDone r s) := by
  delta execMigrateDone
  extract_lets c_1
  exact KeepN.next (Keep.ite (migrated_keep h_s) h_s)

theorem execRingDisabled_keep {vv qq r s} (h_s : Keep vv qq s) :
    KeepN vv qq (execRingDisabled r s) := by
  delta execRingDisabled
  exact KeepN.next (tryDisable_keep h_s)

theorem execRingDoorbellInvalid_keep {vv qq k r v s} (h_s : Keep vv qq s) :
    KeepN vv qq (execRingDoorbellInvalid k r v s) := by
  delta execRingDoorbellInvalid
  exact KeepN.next (doorbell_keep h_s)

end Sys2Proof.Laws
end

