-- ==== Sys2Proof/Laws/KeepComp.lean ====
section
/-! SUPPORT. The operations and commands of Machine/Comp.lean keep the variant, the queue and the canonical form of the memories. -/

set_option Elab.async false

namespace Sys2Proof.Laws

open Machine

theorem setWb_keep {vv qq s h v} (h_s : Keep vv qq s) :
    Keep vv qq (State.setWb s h v) := by
  delta State.setWb
  exact Keep.upd h_s

theorem compApply_keep {vv qq s n j} (h_s : Keep vv qq s) :
    Keep vv qq (State.compApply s n j) := by
  delta State.compApply
  extract_lets pg_1 left_2 was_3 s1_4 u_5 s2_6 h_7 s3_8
  have h_s1_4 : Keep vv qq s1_4 := by
      unfold s1_4
      exact applyPart_keep h_s
  have h_s2_6 : Keep vv qq s2_6 := by
      unfold s2_6
      exact Keep.upd h_s1_4
  have h_s3_8 : Keep vv qq s3_8 := by
      unfold s3_8
      exact Keep.ite (wr_keep (setWb_keep h_s2_6)) h_s2_6
  clear_value s1_4 s2_6 s3_8
  exact Keep.ite h_s (Keep.ite (commitDone_keep h_s3_8) h_s3_8)

theorem setPend_keep {vv qq s h l} (h_s : Keep vv qq s) :
    Keep vv qq (State.setPend s h l) := by
  delta State.setPend
  exact Keep.upd h_s

theorem packetEnd_keep {vv qq s p kind code detail info} (h_s : Keep vv qq s) :
    Keep vv qq (State.packetEnd s p kind code detail info) := by
  delta State.packetEnd
  extract_lets s1_1 u_2
  have h_s1_1 : Keep vv qq s1_1 := by
      unfold s1_1
      exact Keep.foldl h_s (fun t3 x4 h5 => dropWait_keep h5)
  clear_value s1_1
  exact Keep.upd h_s1_1

theorem flipDiscarded_keep {vv qq s h l} (h_s : Keep vv qq s) :
    Keep vv qq (State.flipDiscarded s h l) := by
  delta State.flipDiscarded
  exact event_keep h_s

theorem discardHead_keep {vv qq s h} (h_s : Keep vv qq s) :
    Keep vv qq (State.discardHead s h) := by
  delta State.discardHead
  extract_lets bad_1 s1_2
  have h_s1_2 : Keep vv qq s1_2 := by
      unfold s1_2
      exact setPend_keep h_s
  clear_value s1_2
  exact Keep.foldl h_s1_2 (fun t3 x4 h5 => by
      extract_lets u_6
      have h_u_6 : Keep vv qq u_6 := by
          unfold u_6
          exact count_keep (packetEnd_keep h5)
      clear_value u_6
      exact Keep.foldl h_u_6 (fun t7 x8 h9 => flipDiscarded_keep h9))

theorem compShow_keep {vv qq s n} (h_s : Keep vv qq s) :
    Keep vv qq (State.compShow s n) := by
  delta State.compShow
  extract_lets h0_1 h1_2 on_3 s1_4 use_5 s2_6
  have h_s1_4 : Keep vv qq s1_4 := by
      unfold s1_4
      exact wr_keep (wr_keep (wr_keep (wr_keep (wr_keep (wr_keep h_s)))))
  have h_s2_6 : Keep vv qq s2_6 := by
      unfold s2_6
      exact wr_keep h_s1_4
  clear_value s1_4 s2_6
  exact Keep.foldl h_s2_6 (fun t7 x8 h9 => by
      extract_lets l_10
      exact wr_keep (wr_keep (wr_keep (wrB_keep (wrB_keep h9)))))

theorem drainEnds_keep {vv qq p0 p1 p2} (h_p1 : Keep vv qq p1) :
    Keep vv qq (State.drainEnds p0 p1 p2) := by
  induction p0 generalizing p1 p2
  · unfold State.drainEnds
    exact h_p1
  · rename_i m ih
    unfold State.drainEnds
    split
    · exact h_p1
    · extract_lets u_12 s1_13
      have h_s1_13 : Keep vv qq s1_13 := by
          unfold s1_13
          exact Keep.upd h_p1
      clear_value s1_13
      exact ih (endJob_keep h_s1_13)

theorem discard_keep {vv qq s n} (h_s : Keep vv qq s) :
    Keep vv qq (State.discard s n) := by
  delta State.discard
  extract_lets s1_1
  have h_s1_1 : Keep vv qq s1_1 := by
      unfold s1_1
      exact discardHead_keep (discardHead_keep h_s)
  clear_value s1_1
  exact compShow_keep (drainEnds_keep h_s1_1)

theorem discardAll_keep {vv qq s} (h_s : Keep vv qq s) :
    Keep vv qq (State.discardAll s) := by
  delta State.discardAll
  exact Keep.foldl h_s (fun t1 x2 h3 => discard_keep h3)

theorem coefAdvance_keep {vv qq s n} (h_s : Keep vv qq s) :
    Keep vv qq (State.coefAdvance s n) := by
  delta State.coefAdvance
  extract_lets last_1
  exact Keep.ite (wr_keep h_s) (wr_keep (wr_keep h_s))

theorem coefWrite_keep {vv qq s w n v} (h_s : Keep vv qq s) :
    Keep vv qq (State.coefWrite s w n v) := by
  delta State.coefWrite
  exact onWrite_keep h_s (fun t1 h2 => Keep.ite (count_keep (refuse_keep h2)) (coefAdvance_keep (storeWord_keep h2)))

theorem substWrite_keep {vv qq s w n v} (h_s : Keep vv qq s) :
    Keep vv qq (State.substWrite s w n v) := by
  delta State.substWrite
  extract_lets k_1
  exact onWrite_keep h_s (fun t2 h3 => by
      extract_lets t1_4 u_5
      have h_t1_4 : Keep vv qq t1_4 := by
          unfold t1_4
          exact storeWord_keep h3
      clear_value t1_4
      exact Keep.ite (Keep.upd h_t1_4) h_t1_4)

theorem setLayer_keep {vv qq s h l v} (h_s : Keep vv qq s) :
    Keep vv qq (State.setLayer s h l v) := by
  delta State.setLayer
  exact Keep.upd h_s

theorem applyPacket_keep {vv qq s h p seen} (h_s : Keep vv qq s) :
    Keep vv qq (State.applyPacket s h p seen) := by
  delta State.applyPacket
  extract_lets n_1 s1_2
  have h_s1_2 : Keep vv qq s1_2 := by
      unfold s1_2
      exact Keep.foldl h_s (fun t3 x4 h5 => by
          extract_lets l_6 t1_7 u_8 t2_9 u_10 t3_11
          have h_t1_7 : Keep vv qq t1_7 := by
              unfold t1_7
              exact Keep.ite (count_keep (flipDiscarded_keep h5)) h5
          have h_t2_9 : Keep vv qq t2_9 := by
              unfold t2_9
              exact setLayer_keep h_t1_7
          have h_t3_11 : Keep vv qq t3_11 := by
              unfold t3_11
              exact Keep.upd h_t2_9
          clear_value t1_7 t2_9 t3_11
          exact wr_keep h_t3_11)
  clear_value s1_2
  exact count_keep h_s1_2

theorem compBlank_keep {vv qq s h} (h_s : Keep vv qq s) :
    KeepP vv qq (State.compBlank s h) := by
  delta State.compBlank
  extract_lets n_1 u_2 s1_3 s2_4
  have h_s1_3 : Keep vv qq s1_3 := by
      unfold s1_3
      exact Keep.upd h_s
  have h_s2_4 : Keep vv qq s2_4 := by
      unfold s2_4
      exact eventHead_keep (raise_keep (count_keep h_s1_3))
  clear_value s1_3 s2_4
  exact KeepP.ite (KeepP.mk h_s) (KeepP.ite (KeepP.mk (Keep.upd h_s)) (KeepP.ite (KeepP.mk h_s) (KeepP.mk (compShow_keep h_s2_4))))

theorem setLatched_keep {vv qq s h l} (h_s : Keep vv qq s) :
    Keep vv qq (State.setLatched s h l) := by
  delta State.setLatched
  exact Keep.upd h_s

theorem packetDone_keep {vv qq s p frame} (h_s : Keep vv qq s) :
    Keep vv qq (State.packetDone s p frame) := by
  delta State.packetDone
  exact Keep.ite (by
      split
      · rename_i a3
        have h4 := KeepP.eq (v := vv) (q := qq) a3 (signal_keep h_s)
        exact packetEnd_keep h4
      · rename_i a9
        have h10 := KeepP.eq (v := vv) (q := qq) a9 (signal_keep h_s)
        exact packetEnd_keep h10) (packetEnd_keep h_s)

theorem endLatched_keep {vv qq s h frame} (h_s : Keep vv qq s) :
    Keep vv qq (State.endLatched s h frame) := by
  delta State.endLatched
  extract_lets ps_1 s1_2
  have h_s1_2 : Keep vv qq s1_2 := by
      unfold s1_2
      exact Keep.foldl (setLatched_keep h_s) (fun t3 x4 h5 => packetDone_keep h5)
  clear_value s1_2
  exact compShow_keep (drainEnds_keep h_s1_2)

theorem packetRefused_keep {vv qq s n j code idx} (h_s : Keep vv qq s) :
    Keep vv qq (State.packetRefused s n j code idx) := by
  delta State.packetRefused
  extract_lets p_1 u_2 s1_3 s2_4
  have h_s1_3 : Keep vv qq s1_3 := by
      unfold s1_3
      exact Keep.upd h_s
  have h_s2_4 : Keep vv qq s2_4 := by
      unfold s2_4
      exact packetEnd_keep h_s1_3
  clear_value s1_3 s2_4
  exact drainEnds_keep h_s2_4

theorem commitPacket_keep {vv qq s n} (h_s : Keep vv qq s) :
    Keep vv qq (State.commitPacket s n) := by
  delta State.commitPacket
  split
  · exact h_s
  · extract_lets s0_6 d_7 h_8 cnt_9 q_10 sr_11 recs_12 p_13 u_14 s1_15 s2_16
    have h_s0_6 : Keep vv qq s0_6 := by
        unfold s0_6
        exact setJob_keep h_s
    have h_sr_11 : Keep vv qq sr_11 := by
        unfold sr_11
        exact fetched_keep h_s0_6
    have h_s1_15 : Keep vv qq s1_15 := by
        unfold s1_15
        exact setPend_keep (Keep.upd h_sr_11)
    have h_s2_16 : Keep vv qq s2_16 := by
        unfold s2_16
        exact Keep.foldl h_s1_15 (fun t17 x18 h19 => by
            extract_lets r_20
            exact Keep.ite (addWait_keep h19) h19)
    clear_value s0_6 sr_11 s1_15 s2_16
    exact Keep.ite (packetRefused_keep h_s0_6) (by
        split
        · exact packetRefused_keep (memRecord_keep h_s0_6)
        · split
          · exact packetRefused_keep h_sr_11
          · exact discard_keep h_s2_16)

theorem compBoundary_keep {vv qq s n} (h_s : Keep vv qq s) :
    Keep vv qq (State.compBoundary s n) := by
  delta State.compBoundary
  exact Keep.ite h_s (by
      extract_lets all_1 room_2 s1_3
      have h_s1_3 : Keep vv qq s1_3 := by
          unfold s1_3
          exact Keep.ite (count_keep h_s) h_s
      clear_value s1_3
      split
      · exact startJob_keep h_s1_3
      · exact h_s1_3)

theorem compLatch_keep {vv qq s h met} (h_s : Keep vv qq s) :
    Keep vv qq (State.compLatch s h met) := by
  delta State.compLatch
  extract_lets n_1 s0_2
  have h_s0_2 : Keep vv qq s0_2 := by
      unfold s0_2
      exact discardHead_keep h_s
  clear_value s0_2
  split
  · extract_lets s1_7 r_8 s2_9 u_10 s3_11
    have h_s1_7 : Keep vv qq s1_7 := by
        unfold s1_7
        exact setLatched_keep (setPend_keep h_s0_2)
    have h_r_8 : KeepP vv qq r_8 := by
        unfold r_8
        exact KeepP.foldl (KeepP.mk h_s1_7) (fun t12 x13 h14 => KeepP.mk (applyPacket_keep (KeepP.fst h14)))
    have h_s2_9 : Keep vv qq s2_9 := by
        unfold s2_9
        exact Keep.foldl (KeepP.fst h_r_8) (fun t15 x16 h17 => Keep.ite h17 (by
            extract_lets u_18 u_19 u_20
            have h_u_19 : Keep vv qq u_19 := by
                unfold u_19
                exact Keep.upd h17
            clear_value u_19
            exact Keep.ite (setLayer_keep h_u_19) h_u_19))
    have h_s3_11 : Keep vv qq s3_11 := by
        unfold s3_11
        exact Keep.upd h_s2_9
    clear_value s1_7 r_8 s2_9 s3_11
    exact compShow_keep (drainEnds_keep h_s3_11)

theorem fetchError_keep {vv qq s h l} (h_s : Keep vv qq s) :
    Keep vv qq (State.fetchError s h l) := by
  delta State.fetchError
  extract_lets n_1 u_2 s1_3
  have h_s1_3 : Keep vv qq s1_3 := by
      unfold s1_3
      exact Keep.upd h_s
  clear_value s1_3
  exact event_keep (raise_keep (count_keep h_s1_3))

theorem wbReport_keep {vv qq s h} (h_s : Keep vv qq s) :
    Keep vv qq (State.wbReport s h) := by
  delta State.wbReport
  extract_lets w_1
  exact event_keep (raise_keep (setWb_keep h_s))

theorem wbSkip_keep {vv qq s h} (h_s : Keep vv qq s) :
    Keep vv qq (State.wbSkip s h) := by
  delta State.wbSkip
  extract_lets w_1 w1_2 s1_3
  have h_s1_3 : Keep vv qq s1_3 := by
      unfold s1_3
      exact count_keep (setWb_keep h_s)
  clear_value s1_3
  exact Keep.ite (wbReport_keep h_s1_3) h_s1_3

theorem wbRows_keep {vv qq s q h w a pitch p6 p7} (h_s : Keep vv qq s) :
    KeepP vv qq (State.wbRows s q h w a pitch p6 p7) := by
  induction p6 generalizing s q h w a pitch p7
  · unfold State.wbRows
    exact KeepP.mk h_s
  · rename_i m ih
    unfold State.wbRows
    split
    · rename_i a5
      have h6 := KeepP.eq (v := vv) (q := qq) a5 (tryStore_keep h_s)
      exact ih (count_keep h6)
    · rename_i a12
      have h13 := KeepP.eq (v := vv) (q := qq) a12 (tryStore_keep h_s)
      exact KeepP.mk h13

theorem wbDone_keep {vv qq s h} (h_s : Keep vv qq s) :
    Keep vv qq (State.wbDone s h) := by
  delta State.wbDone
  extract_lets n_2 j_3 w_4 o_5 i_6 u_7 s1_8
  have h_s1_8 : Keep vv qq s1_8 := by
      unfold s1_8
      exact setWb_keep h_s
  clear_value s1_8
  exact Keep.ite h_s (by
      split
      · rename_i a11
        have h12 := KeepP.eq (v := vv) (q := qq) a11 (signal_keep h_s1_8)
        extract_lets t1_13 t2_14 u_15
        have h_t1_13 : Keep vv qq t1_13 := by
            unfold t1_13
            exact count_keep (wr_keep h12)
        have h_t2_14 : Keep vv qq t2_14 := by
            unfold t2_14
            exact Keep.ite (wbReport_keep h_t1_13) h_t1_13
        clear_value t1_13 t2_14
        exact setWb_keep h_t2_14
      · rename_i a20
        have h21 := KeepP.eq (v := vv) (q := qq) a20 (signal_keep h_s1_8)
        exact wbSkip_keep h21)

theorem wbFrame_keep {vv qq r h} (h_r : Keep vv qq r) :
    Keep vv qq (State.wbFrame r h) := by
  delta State.wbFrame
  extract_lets s n_1 j_2 c_3 u_4 s1_5 o_6 k_7 bufs_8 w_9 ack_10 area_11 a_12
  have h_s : Keep vv qq s := by
      unfold s
      exact wbDone_keep h_r
  clear_value s
  have h_s1_5 : Keep vv qq s1_5 := by
      unfold s1_5
      exact setWb_keep h_s
  clear_value s1_5
  exact Keep.ite h_s (Keep.ite h_s1_5 (Keep.ite (wbSkip_keep h_s1_5) (by
      split
      · rename_i a15
        have h16 := KeepP.eq (v := vv) (q := qq) a15 (fenceTest_keep h_s1_5)
        split
        · rename_i a19
          have h20 := KeepP.eq (v := vv) (q := qq) a19 (wbRows_keep h16)
          exact setWb_keep h20
        · rename_i a23
          have h24 := KeepP.eq (v := vv) (q := qq) a23 (wbRows_keep h16)
          exact wbSkip_keep h24
      · rename_i a30
        have h31 := KeepP.eq (v := vv) (q := qq) a30 (fenceTest_keep h_s1_5)
        exact wbSkip_keep h31)))

theorem composeDone_keep {vv qq s h} (h_s : Keep vv qq s) :
    Keep vv qq (State.composeDone s h) := by
  delta State.composeDone
  extract_lets n_1 s1_2 base_3
  have h_s1_2 : Keep vv qq s1_2 := by
      unfold s1_2
      exact Keep.foldl h_s (fun t4 x5 h6 => by
          extract_lets la_7
          exact Keep.ite (by
              split
              · exact fetchError_keep (memRecord_keep h6)
              · exact Keep.foldl h6 (fun t13 x14 h15 => count_keep (fetched_keep h15))) h6)
  clear_value s1_2
  exact Keep.ite h_s (by
      split
      · extract_lets s2_20 s3_21 u_22
        have h_s2_20 : Keep vv qq s2_20 := by
            unfold s2_20
            exact Keep.foldl h_s1_2 (fun t23 x24 h25 => basinWrite_keep h25)
        have h_s3_21 : Keep vv qq s3_21 := by
            unfold s3_21
            exact wbFrame_keep (count_keep (count_keep h_s2_20))
        clear_value s2_20 s3_21
        exact compShow_keep (Keep.upd h_s3_21))

theorem composeStop_keep {vv qq s h} (h_s : Keep vv qq s) :
    Keep vv qq (State.composeStop s h) := by
  delta State.composeStop
  exact compShow_keep (Keep.upd h_s)

theorem disabledLatch_keep {vv qq s h} (h_s : Keep vv qq s) :
    Keep vv qq (State.disabledLatch s h) := by
  delta State.disabledLatch
  extract_lets n_1 s1_2
  have h_s1_2 : Keep vv qq s1_2 := by
      unfold s1_2
      exact compApply_keep h_s
  clear_value s1_2
  exact Keep.ite h_s (Keep.ite h_s1_2 (endLatched_keep (compLatch_keep h_s1_2)))

theorem startCompose_keep {vv qq s h} (h_s : Keep vv qq s) :
    Keep vv qq (State.startCompose s h) := by
  delta State.startCompose
  exact compShow_keep (Keep.upd h_s)

theorem execCoefDataWrite_keep {vv qq w n v s} (h_s : Keep vv qq s) :
    KeepN vv qq (execCoefDataWrite w n v s) := by
  delta execCoefDataWrite
  exact KeepN.next (coefWrite_keep h_s)

theorem execCommitPacket_keep {vv qq n s} (h_s : Keep vv qq s) :
    KeepN vv qq (execCommitPacket n s) := by
  delta execCommitPacket
  exact KeepN.next (commitPacket_keep h_s)

theorem execComposeFrameDone_keep {vv qq h s} (h_s : Keep vv qq s) :
    KeepN vv qq (execComposeFrameDone h s) := by
  delta execComposeFrameDone
  exact KeepN.next (composeDone_keep h_s)

theorem execDisabledHeadLatch_keep {vv qq h s} (h_s : Keep vv qq s) :
    KeepN vv qq (execDisabledHeadLatch h s) := by
  delta execDisabledHeadLatch
  exact KeepN.next (disabledLatch_keep h_s)

theorem execLayerFetchError_keep {vv qq h l code addr s} (h_s : Keep vv qq s) :
    KeepN vv qq (execLayerFetchError h l code addr s) := by
  delta execLayerFetchError
  extract_lets k_1 i_2
  exact KeepN.next (Keep.ite h_s (fetchError_keep (memRecord_keep h_s)))

theorem execLayerSubstForce_keep {vv qq w n v s} (h_s : Keep vv qq s) :
    KeepN vv qq (execLayerSubstForce w n v s) := by
  delta execLayerSubstForce
  exact KeepN.next (substWrite_keep h_s)

theorem execWbFrameDone_keep {vv qq h s} (h_s : Keep vv qq s) :
    KeepN vv qq (execWbFrameDone h s) := by
  delta execWbFrameDone
  exact KeepN.next (wbDone_keep h_s)

end Sys2Proof.Laws
end

