-- ==== Sys2Proof/Laws/KeepHeads.lean ====
section
/-! SUPPORT. The operations and commands of Machine/Heads.lean keep the variant, the queue and the canonical form of the memories. -/

set_option Elab.async false

namespace Sys2Proof.Laws

open Machine

theorem basinCe_keep {vv qq s rid addr} (h_s : Keep vv qq s) :
    Keep vv qq (State.basinCe s rid addr) := by
  delta State.basinCe
  exact raise_keep (count_keep (recErr_keep h_s))

theorem basinUe_keep {vv qq s rid word} (h_s : Keep vv qq s) :
    Keep vv qq (State.basinUe s rid word) := by
  delta State.basinUe
  extract_lets s1_1 hs_2
  have h_s1_1 : Keep vv qq s1_1 := by
      unfold s1_1
      exact raise_keep (count_keep (recErr_keep h_s))
  clear_value s1_1
  exact Keep.ite h_s1_1 (faultLine_keep h_s1_1)

theorem basinWinRead_keep {vv qq s off n find} (h_s : Keep vv qq s) :
    Keep vv qq (State.basinWinRead s off n find) := by
  delta State.basinWinRead
  extract_lets s1_1
  have h_s1_1 : Keep vv qq s1_1 := by
      unfold s1_1
      exact count_keep h_s
  clear_value s1_1
  split
  · exact okResp_keep h_s1_1
  · exact okResp_keep (basinCe_keep h_s1_1)
  · exact errResp_keep (basinUe_keep h_s1_1)

theorem setHead_keep {vv qq s h v} (h_s : Keep vv qq s) :
    Keep vv qq (State.setHead s h v) := by
  delta State.setHead
  exact Keep.upd h_s

theorem healWords_keep {vv qq s lo hi} (h_s : Keep vv qq s) :
    Keep vv qq (State.healWords s lo hi) := by
  delta State.healWords
  exact Keep.foldl h_s (fun t1 x2 h3 => by
      extract_lets c_4
      exact setHead_keep h3)

theorem basinWinWrite_keep {vv qq s off d find} (h_s : Keep vv qq s) :
    Keep vv qq (State.basinWinWrite s off d find) := by
  delta State.basinWinWrite
  extract_lets s1_1 done_2
  have h_s1_1 : Keep vv qq s1_1 := by
      unfold s1_1
      exact count_keep h_s
  have h_done_2 : Keep vv qq done_2 := by
      unfold done_2
      exact okResp_keep (healWords_keep (basinWrite_keep h_s1_1))
  clear_value s1_1 done_2
  exact Keep.ite h_done_2 (by
      split
      · exact h_done_2
      · exact okResp_keep (basinCe_keep h_done_2)
      · exact errResp_keep (basinUe_keep h_s1_1))

theorem basinAccess_keep {vv qq s off op find} (h_s : Keep vv qq s) :
    Keep vv qq (State.basinAccess s off op find) := by
  delta State.basinAccess
  split
  · exact Keep.ite (basinWinRead_keep h_s) (refuse_keep h_s)
  · exact Keep.ite (basinWinRead_keep h_s) (refuse_keep h_s)
  · exact Keep.ite (basinWinWrite_keep h_s) (refuse_keep h_s)

theorem grpApplied_keep {vv qq s h} (h_s : Keep vv qq s) :
    Keep vv qq (State.grpApplied s h) := by
  delta State.grpApplied
  exact Keep.ite h_s (by
      extract_lets a_1 s1_2
      have h_s1_2 : Keep vv qq s1_2 := by
          unfold s1_2
          exact wr_keep h_s
      clear_value s1_2
      exact Keep.ite (raise_keep (count_keep (wr_keep h_s1_2))) h_s1_2)

theorem grpLeave_keep {vv qq s h} (h_s : Keep vv qq s) :
    Keep vv qq (State.grpLeave s h) := by
  delta State.grpLeave
  exact Keep.ite h_s (grpApplied_keep (wr_keep (setHead_keep h_s)))

theorem glChange_keep {vv qq s h old} (h_s : Keep vv qq s) :
    Keep vv qq (State.glChange s h old) := by
  delta State.glChange
  extract_lets src_1 st_2 c_3 stop_4 s1_5
  have h_s1_5 : Keep vv qq s1_5 := by
      unfold s1_5
      exact wr_keep (setHead_keep h_s)
  clear_value s1_5
  exact Keep.ite (Keep.ite (Keep.ite (wr_keep h_s1_5) h_s1_5) (wr_keep (wr_keep (setHead_keep h_s)))) (Keep.ite (wr_keep (setHead_keep h_s)) h_s)

theorem applyHead_keep {vv qq s h} (h_s : Keep vv qq s) :
    Keep vv qq (State.applyHead s h) := by
  delta State.applyHead
  exact Keep.ite (grpLeave_keep h_s) (by
      extract_lets old_1 s1_2
      have h_s1_2 : Keep vv qq s1_2 := by
          unfold s1_2
          exact count_keep (glChange_keep (applySet_keep h_s))
      clear_value s1_2
      exact grpLeave_keep (Keep.ite (count_keep h_s1_2) h_s1_2))

theorem pllStop_keep {vv qq s h} (h_s : Keep vv qq s) :
    Keep vv qq (State.pllStop s h) := by
  delta State.pllStop
  exact wr_keep (wr_keep (wr_keep (wr_keep h_s)))

theorem headDisable_keep {vv qq s h v} (h_s : Keep vv qq s) :
    Keep vv qq (State.headDisable s h v) := by
  delta State.headDisable
  extract_lets s1_1
  have h_s1_1 : Keep vv qq s1_1 := by
      unfold s1_1
      exact wr_keep h_s
  clear_value s1_1
  exact Keep.ite (applyHead_keep (pllStop_keep (wr_keep h_s1_1))) h_s1_1

theorem discardSet_keep {vv qq s b i} (h_s : Keep vv qq s) :
    Keep vv qq (State.discardSet s b i) := by
  delta State.discardSet
  extract_lets p_1
  exact wr_keep (Keep.upd h_s)

theorem softRegs_keep {vv qq s0 b i} (h_s0 : Keep vv qq s0) :
    Keep vv qq (State.softRegs s0 b i) := by
  delta State.softRegs
  extract_lets s_1 p_2
  have h_s_1 : Keep vv qq s_1 := by
      unfold s_1
      exact discardSet_keep h_s0
  clear_value s_1
  exact wr_keep (wr_keep (Keep.upd h_s_1))

theorem headSoft_keep {vv qq s h} (h_s : Keep vv qq s) :
    Keep vv qq (State.headSoft s h) := by
  delta State.headSoft
  exact setHead_keep (wr_keep (softRegs_keep (grpLeave_keep h_s)))

theorem headSoftWait_keep {vv qq s h} (h_s : Keep vv qq s) :
    Keep vv qq (State.headSoftWait s h) := by
  delta State.headSoftWait
  exact setHead_keep (wr_keep h_s)

theorem setPosted_keep {vv qq s h p} (h_s : Keep vv qq s) :
    Keep vv qq (State.setPosted s h p) := by
  delta State.setPosted
  extract_lets old_1 c_2 u_3 s1_4 s2_5
  have h_s1_4 : Keep vv qq s1_4 := by
      unfold s1_4
      exact wr_keep (setHead_keep h_s)
  have h_s2_5 : Keep vv qq s2_5 := by
      unfold s2_5
      exact count_keep h_s1_4
  clear_value s1_4 s2_5
  exact Keep.ite (count_keep h_s2_5) h_s2_5

theorem poseRejected_keep {vv qq s h why} (h_s : Keep vv qq s) :
    Keep vv qq (State.poseRejected s h why) := by
  delta State.poseRejected
  exact raise_keep (count_keep (recErr_keep h_s))

theorem postOnEnable_keep {vv qq s h} (h_s : Keep vv qq s) :
    Keep vv qq (State.postOnEnable s h) := by
  delta State.postOnEnable
  exact Keep.ite h_s (by
      split
      · exact setPosted_keep h_s
      · exact poseRejected_keep (setPosted_keep h_s))

theorem headEnable_keep {vv qq s w h v} (h_s : Keep vv qq s) :
    Keep vv qq (State.headEnable s w h v) := by
  delta State.headEnable
  exact Keep.ite (wr_keep h_s) (Keep.ite (wr_keep h_s) (Keep.ite (refuse_keep h_s) (Keep.ite (refuse_keep h_s) (Keep.ite (refuse_keep h_s) (by
      extract_lets u_1 s1_2 u_3 u_4 s2_5
      have h_s1_2 : Keep vv qq s1_2 := by
          unfold s1_2
          exact setHead_keep h_s
      have h_s2_5 : Keep vv qq s2_5 := by
          unfold s2_5
          exact Keep.upd h_s1_2
      clear_value s1_2 s2_5
      exact postOnEnable_keep (wr_keep (wr_keep (wr_keep (wr_keep h_s2_5)))))))))

theorem headCtrl_keep {vv qq s w h v} (h_s : Keep vv qq s) :
    Keep vv qq (State.headCtrl s w h v) := by
  delta State.headCtrl
  exact onWrite_keep h_s (fun t1 h2 => Keep.ite (by
      extract_lets u_3
      have h_u_3 : Keep vv qq u_3 := by
          unfold u_3
          exact headDisable_keep (discardSet_keep h2)
      clear_value u_3
      exact Keep.ite (headSoft_keep h_u_3) (headSoftWait_keep h_u_3)) (Keep.ite (headEnable_keep h2) (headDisable_keep h2)))

theorem pinSafe_keep {vv qq s h} (h_s : Keep vv qq s) :
    Keep vv qq (State.pinSafe s h) := by
  delta State.pinSafe
  extract_lets s1_1 u_2 u_3
  have h_s1_1 : Keep vv qq s1_1 := by
      unfold s1_1
      exact Keep.ite (wr_keep h_s) (wr_keep h_s)
  clear_value s1_1
  exact Keep.upd h_s1_1

theorem applyGlint_keep {vv qq s h} (h_s : Keep vv qq s) :
    Keep vv qq (State.applyGlint s h) := by
  delta State.applyGlint
  exact Keep.ite h_s (wr_keep (applySet_keep h_s))

theorem wbGuard_keep {vv qq s rid n j} (h_s : Keep vv qq s) :
    Keep vv qq (State.wbGuard s rid n j) := by
  delta State.wbGuard
  exact Keep.ite h_s (recErr_keep (Keep.upd h_s))

theorem stagePage_keep {vv qq s rid b i} (h_s : Keep vv qq s) :
    Keep vv qq (State.stagePage s rid b i) := by
  delta State.stagePage
  extract_lets s1_1
  have h_s1_1 : Keep vv qq s1_1 := by
      unfold s1_1
      exact wr_keep (stageSet_keep h_s)
  clear_value s1_1
  exact Keep.ite (wbGuard_keep (wbGuard_keep (Keep.upd h_s1_1))) h_s1_1

theorem granWrite_keep {vv qq s w h v} (h_s : Keep vv qq s) :
    Keep vv qq (State.granWrite s w h v) := by
  delta State.granWrite
  extract_lets off_1
  exact onWrite_keep h_s (fun t2 h3 => Keep.ite (Keep.ite (refuse_keep (pinSafe_keep h3)) (Keep.ite (refuse_keep h3) (storeWord_keep h3))) (Keep.ite (refuse_keep h3) (storeWord_keep h3)))

theorem setCohorts_keep {vv qq s members} (h_s : Keep vv qq s) :
    Keep vv qq (State.setCohorts s members) := by
  delta State.setCohorts
  exact Keep.foldl h_s (fun t1 x2 h3 => setHead_keep h3)

theorem poseWrite_keep {vv qq s w h v} (h_s : Keep vv qq s) :
    Keep vv qq (State.poseWrite s w h v) := by
  delta State.poseWrite
  exact onWrite_keep h_s (fun t1 h2 => Keep.ite h2 (by
      extract_lets c_3 t1_4 u_5
      have h_t1_4 : Keep vv qq t1_4 := by
          unfold t1_4
          exact Keep.ite (count_keep h2) h2
      clear_value t1_4
      exact wr_keep (setHead_keep h_t1_4)))

theorem draw_keep {vv qq s} (h_s : Keep vv qq s) :
    KeepR vv qq (State.draw s) := by
  delta State.draw
  exact KeepR.mk (Keep.upd h_s)

theorem glitch_keep {vv qq s h} (h_s : Keep vv qq s) :
    Keep vv qq (State.glitch s h) := by
  delta State.glitch
  exact raise_keep (count_keep h_s)

theorem glSteer_keep {vv qq s h} (h_s : Keep vv qq s) :
    Keep vv qq (State.glSteer s h) := by
  delta State.glSteer
  extract_lets lim_1
  split
  · rename_i a5
    have h6 := KeepR.eq (v := vv) (q := qq) a5 (draw_keep h_s)
    extract_lets p_7
    exact wr_keep h6

theorem glEvent_keep {vv qq s h code} (h_s : Keep vv qq s) :
    Keep vv qq (State.glEvent s h code) := by
  delta State.glEvent
  exact eventHead_keep h_s

theorem glClose_keep {vv qq s h} (h_s : Keep vv qq s) :
    Keep vv qq (State.glClose s h) := by
  delta State.glClose
  extract_lets st_1 c_2 n_3 s1_4 u_5 m_6 s1_7 s2_8 u_9 s3_10
  have h_s1_4 : Keep vv qq s1_4 := by
      unfold s1_4
      exact Keep.foldl h_s (fun t11 x12 h13 => glitch_keep h13)
  have h_s1_7 : Keep vv qq s1_7 := by
      unfold s1_7
      exact setHead_keep h_s
  have h_s2_8 : Keep vv qq s2_8 := by
      unfold s2_8
      exact wr_keep (raise_keep (count_keep h_s1_7))
  have h_s3_10 : Keep vv qq s3_10 := by
      unfold s3_10
      exact setHead_keep (wr_keep h_s2_8)
  clear_value s1_4 s1_7 s2_8 s3_10
  exact Keep.ite h_s (by
      split
      · extract_lets ph_17 near_18 s2_19 s3_20
        have h_s2_19 : Keep vv qq s2_19 := by
            unfold s2_19
            exact count_keep (setHead_keep h_s1_4)
        have h_s3_20 : Keep vv qq s3_20 := by
            unfold s3_20
            exact glSteer_keep (wr_keep (wr_keep h_s2_19))
        clear_value s2_19 s3_20
        exact Keep.ite (Keep.ite (glEvent_keep (raise_keep (count_keep (wr_keep h_s3_20)))) h_s3_20) (wr_keep h_s3_20)
      · exact Keep.ite (wr_keep h_s2_8) (Keep.ite h_s2_8 (Keep.ite (glEvent_keep (raise_keep (count_keep h_s3_10))) h_s3_10)))

theorem glMeasure_keep {vv qq s h} (h_s : Keep vv qq s) :
    Keep vv qq (State.glMeasure s h) := by
  delta State.glMeasure
  extract_lets c_1 nom_2 s1_3
  have h_s1_3 : Keep vv qq s1_3 := by
      unfold s1_3
      exact setHead_keep h_s
  clear_value s1_3
  split
  · exact setHead_keep h_s
  · extract_lets d_9 l_10 l4_11 mn_12 mx_13
    exact Keep.ite (glitch_keep (setHead_keep h_s)) (Keep.ite (wr_keep (wr_keep (wr_keep h_s1_3))) (setHead_keep h_s))

theorem glPulse_keep {vv qq s h} (h_s : Keep vv qq s) :
    Keep vv qq (State.glPulse s h) := by
  delta State.glPulse
  extract_lets st_1 u_2
  exact Keep.ite (glMeasure_keep h_s) (Keep.ite (Keep.ite (setHead_keep h_s) (glitch_keep h_s)) h_s)

theorem glSlew_keep {vv qq s h} (h_s : Keep vv qq s) :
    Keep vv qq (State.glSlew s h) := by
  delta State.glSlew
  exact Keep.ite h_s (by
      extract_lets p_1 u_2 s1_3
      have h_s1_3 : Keep vv qq s1_3 := by
          unfold s1_3
          exact wr_keep h_s
      clear_value s1_3
      exact Keep.ite (wr_keep h_s1_3) h_s1_3)

theorem poseTake_keep {vv qq s h y seq p} (h_s : Keep vv qq s) :
    Keep vv qq (State.poseTake s h y seq p) := by
  delta State.poseTake
  extract_lets c_1 u_2 s1_3 s2_4
  have h_s1_3 : Keep vv qq s1_3 := by
      unfold s1_3
      exact setHead_keep h_s
  have h_s2_4 : Keep vv qq s2_4 := by
      unfold s2_4
      exact wr_keep h_s1_3
  clear_value s1_3 s2_4
  exact raise_keep (count_keep (wr_keep (wr_keep h_s2_4)))

theorem poseLatch_keep {vv qq s h y} (h_s : Keep vv qq s) :
    Keep vv qq (State.poseLatch s h y) := by
  delta State.poseLatch
  extract_lets g_1 n_2
  exact Keep.ite h_s (Keep.ite (by
      split
      · exact poseTake_keep (count_keep h_s)
      · exact h_s) (poseTake_keep h_s))

theorem execBasinEccError_keep {vv qq h word ue s} (h_s : Keep vv qq s) :
    KeepN vv qq (execBasinEccError h word ue s) := by
  delta execBasinEccError
  extract_lets k_1 n_2 c_3
  exact KeepN.next (Keep.ite h_s (Keep.ite (basinUe_keep (setHead_keep h_s)) (basinCe_keep h_s)))

theorem execBasinGranWrite_keep {vv qq w h v s} (h_s : Keep vv qq s) :
    KeepN vv qq (execBasinGranWrite w h v s) := by
  delta execBasinGranWrite
  exact KeepN.next (granWrite_keep h_s)

theorem execBasinWindowAccess_keep {vv qq off op find s} (h_s : Keep vv qq s) :
    KeepN vv qq (execBasinWindowAccess off op find s) := by
  delta execBasinWindowAccess
  exact KeepN.next (basinAccess_keep h_s)

theorem execGenlockPulse_keep {vv qq input falling s} (h_s : Keep vv qq s) :
    KeepN vv qq (execGenlockPulse input falling s) := by
  delta execGenlockPulse
  exact KeepN.next (Keep.foldl h_s (fun t1 x2 h3 => Keep.ite (glPulse_keep h3) h3))

theorem execGenlockWindowClose_keep {vv qq h s} (h_s : Keep vv qq s) :
    KeepN vv qq (execGenlockWindowClose h s) := by
  delta execGenlockWindowClose
  exact KeepN.next (glClose_keep h_s)

theorem execHeadDisable_keep {vv qq w h s} (h_s : Keep vv qq s) :
    KeepN vv qq (execHeadDisable w h s) := by
  delta execHeadDisable
  exact KeepN.next (headCtrl_keep h_s)

theorem execHeadEnable_keep {vv qq w h s} (h_s : Keep vv qq s) :
    KeepN vv qq (execHeadEnable w h s) := by
  delta execHeadEnable
  exact KeepN.next (headCtrl_keep h_s)

theorem execHeadPllLock_keep {vv qq h s} (h_s : Keep vv qq s) :
    KeepN vv qq (execHeadPllLock h s) := by
  delta execHeadPllLock
  extract_lets k_1
  exact KeepN.next (Keep.ite h_s (wr_keep (wr_keep (wr_keep (wr_keep (wr_keep h_s))))))

theorem execHeadPllRetry_keep {vv qq h s} (h_s : Keep vv qq s) :
    KeepN vv qq (execHeadPllRetry h s) := by
  delta execHeadPllRetry
  extract_lets k_1
  exact KeepN.next (Keep.ite h_s (faultLine_keep (raise_keep (count_keep (recErr_keep h_s)))))

theorem execPoseCheckDone_keep {vv qq g s} (h_s : Keep vv qq s) :
    KeepN vv qq (execPoseCheckDone g s) := by
  delta execPoseCheckDone
  extract_lets h_1 c_2 u_3 s1_4
  have h_s1_4 : Keep vv qq s1_4 := by
      unfold s1_4
      exact wr_keep (setHead_keep h_s)
  clear_value s1_4
  exact KeepN.next (by
      split
      · exact h_s
      · split
        · exact setPosted_keep h_s1_4
        · exact poseRejected_keep h_s1_4)

theorem execPoseLatch_keep {vv qq g line s} (h_s : Keep vv qq s) :
    KeepN vv qq (execPoseLatch g line s) := by
  delta execPoseLatch
  exact KeepN.next (poseLatch_keep h_s)

theorem execPosePost_keep {vv qq w g s} (h_s : Keep vv qq s) :
    KeepN vv qq (execPosePost w g s) := by
  delta execPosePost
  exact KeepN.next (poseWrite_keep h_s)

end Sys2Proof.Laws
end

