-- ==== Sys2Proof/Laws/KeepLinks.lean ====
section
/-! SUPPORT. The operations and commands of Machine/Links.lean keep the variant, the queue and the canonical form of the memories. -/

set_option Elab.async false

namespace Sys2Proof.Laws

open Machine

theorem setLink_keep {vv qq s n v} (h_s : Keep vv qq s) :
    Keep vv qq (State.setLink s n v) := by
  delta State.setLink
  exact Keep.upd h_s

theorem showBl_keep {vv qq s n} (h_s : Keep vv qq s) :
    Keep vv qq (State.showBl s n) := by
  delta State.showBl
  extract_lets v_1 u_2 s1_3 u_4
  have h_s1_3 : Keep vv qq s1_3 := by
      unfold s1_3
      exact Keep.ite (setLink_keep h_s) h_s
  clear_value s1_3
  exact Keep.upd h_s1_3

theorem setDispen_keep {vv qq s n v} (h_s : Keep vv qq s) :
    Keep vv qq (State.setDispen s n v) := by
  delta State.setDispen
  exact Keep.upd h_s

theorem linkTo_keep {vv qq s n st} (h_s : Keep vv qq s) :
    Keep vv qq (State.linkTo s n st) := by
  delta State.linkTo
  extract_lets c_1
  exact showBl_keep (wr_keep (setLink_keep h_s))

theorem linkDown_keep {vv qq s n} (h_s : Keep vv qq s) :
    Keep vv qq (State.linkDown s n) := by
  delta State.linkDown
  extract_lets s1_1 u_2
  have h_s1_1 : Keep vv qq s1_1 := by
      unfold s1_1
      exact setDispen_keep (linkTo_keep h_s)
  clear_value s1_1
  exact wr_keep (wr_keep (setLink_keep h_s1_1))

theorem applyIdle_keep {vv qq s h} (h_s : Keep vv qq s) :
    Keep vv qq (State.applyIdle s h) := by
  delta State.applyIdle
  exact Keep.ite h_s (applyGlint_keep (applyHead_keep h_s))

theorem grpArm_keep {vv qq s w v} (h_s : Keep vv qq s) :
    Keep vv qq (State.grpArm s w v) := by
  delta State.grpArm
  exact onWrite_keep h_s (fun t1 h2 => by
      extract_lets members_3 pages_4 t1_5 t2_6
      have h_t1_5 : Keep vv qq t1_5 := by
          unfold t1_5
          exact Keep.foldl h2 (fun t7 x8 h9 => wr_keep (stagePage_keep h9))
      have h_t2_6 : Keep vv qq t2_6 := by
          unfold t2_6
          exact wr_keep (wr_keep (wr_keep (wr_keep (wr_keep h_t1_5))))
      clear_value t1_5 t2_6
      exact Keep.ite h2 (Keep.ite (count_keep (refuse_keep h2)) (by
          split
          · exact refuse_keep h2
          · split
            · exact refuse_keep h2
            · split
              · exact refuse_keep h2
              · split
                · exact refuse_keep h2
                · exact Keep.foldl (setCohorts_keep (count_keep h_t2_6)) (fun t32 x33 h34 => applyIdle_keep h34))))

theorem linkTrain_keep {vv qq s n} (h_s : Keep vv qq s) :
    Keep vv qq (State.linkTrain s n) := by
  delta State.linkTrain
  extract_lets t_1 s1_2 u_3
  have h_s1_2 : Keep vv qq s1_2 := by
      unfold s1_2
      exact linkTo_keep h_s
  clear_value s1_2
  exact Keep.ite (count_keep h_s1_2) (setLink_keep h_s1_2)

theorem linkOff_keep {vv qq s n} (h_s : Keep vv qq s) :
    Keep vv qq (State.linkOff s n) := by
  delta State.linkOff
  exact Keep.ite (wr_keep h_s) (Keep.ite h_s (showBl_keep (setLink_keep h_s)))

theorem linkCtrl_keep {vv qq s w n v} (h_s : Keep vv qq s) :
    Keep vv qq (State.linkCtrl s w n v) := by
  delta State.linkCtrl
  exact onWrite_keep h_s (fun t1 h2 => by
      extract_lets was_3 t1_4 t2_5
      have h_t1_4 : Keep vv qq t1_4 := by
          unfold t1_4
          exact storeWord_keep h2
      have h_t2_5 : Keep vv qq t2_5 := by
          unfold t2_5
          exact Keep.ite h_t1_4 (wr_keep h_t1_4)
      clear_value t1_4 t2_5
      exact Keep.ite (Keep.ite (refuse_keep h2) (Keep.ite (linkTo_keep h_t2_5) (Keep.ite (linkTrain_keep h_t2_5) h_t2_5))) (linkOff_keep (storeWord_keep h2)))

theorem auxWrite_keep {vv qq s w n v} (h_s : Keep vv qq s) :
    Keep vv qq (State.auxWrite s w n v) := by
  delta State.auxWrite
  exact onWrite_keep h_s (fun t1 h2 => Keep.ite (storeWord_keep h2) (Keep.ite (refuse_keep h2) (setLink_keep (wr_keep (storeWord_keep h2)))))

theorem dsiWrite_keep {vv qq s w n v} (h_s : Keep vv qq s) :
    Keep vv qq (State.dsiWrite s w n v) := by
  delta State.dsiWrite
  exact onWrite_keep h_s (fun t1 h2 => Keep.ite (storeWord_keep h2) (Keep.ite (refuse_keep h2) (wr_keep (storeWord_keep h2))))

theorem blWrite_keep {vv qq s w n off v} (h_s : Keep vv qq s) :
    Keep vv qq (State.blWrite s w n off v) := by
  delta State.blWrite
  exact onWrite_keep h_s (fun t1 h2 => by
      extract_lets c_3 c1_4
      exact storeWord_keep (setLink_keep h2))

theorem blSync_keep {vv qq s n} (h_s : Keep vv qq s) :
    Keep vv qq (State.blSync s n) := by
  delta State.blSync
  exact Keep.ite h_s (by
      extract_lets c_1
      exact setLink_keep h_s)

theorem hpdNews_keep {vv qq s n v} (h_s : Keep vv qq s) :
    Keep vv qq (State.hpdNews s n v) := by
  delta State.hpdNews
  exact eventPage_keep (raise_keep (count_keep (wrB_keep h_s)))

theorem linkLost_keep {vv qq s n cause} (h_s : Keep vv qq s) :
    Keep vv qq (State.linkLost s n cause) := by
  delta State.linkLost
  exact Keep.ite h_s (by
      extract_lets t_1 s1_2 s2_3 u_4
      have h_s1_2 : Keep vv qq s1_2 := by
          unfold s1_2
          exact faultLine_keep (count_keep (raise_keep (wr_keep h_s)))
      have h_s2_3 : Keep vv qq s2_3 := by
          unfold s2_3
          exact eventPage_keep h_s1_2
      clear_value s1_2 s2_3
      exact Keep.ite (linkTo_keep h_s2_3) (Keep.ite (Keep.ite (linkTo_keep h_s2_3) (linkTrain_keep h_s2_3)) (setLink_keep h_s2_3)))

theorem linkBlank_keep {vv qq s0 n unlocked} (h_s0 : Keep vv qq s0) :
    Keep vv qq (State.linkBlank s0 n unlocked) := by
  delta State.linkBlank
  extract_lets s_1 s1_2 u_3 s1_4
  have h_s_1 : Keep vv qq s_1 := by
      unfold s_1
      exact blSync_keep h_s0
  have h_s1_2 : Keep vv qq s1_2 := by
      unfold s1_2
      exact linkTo_keep h_s_1
  have h_s1_4 : Keep vv qq s1_4 := by
      unfold s1_4
      exact count_keep h_s_1
  clear_value s_1 s1_2 s1_4
  exact Keep.ite h_s_1 (Keep.ite (setLink_keep h_s1_2) (Keep.ite (Keep.ite (linkLost_keep h_s1_4) h_s1_4) h_s_1))

theorem linkFailed_keep {vv qq s n} (h_s : Keep vv qq s) :
    Keep vv qq (State.linkFailed s n) := by
  delta State.linkFailed
  exact eventPage_keep (raise_keep (count_keep (linkTo_keep h_s)))

theorem linkPins_keep {vv qq s} (h_s : Keep vv qq s) :
    Keep vv qq (State.linkPins s) := by
  delta State.linkPins
  exact Keep.foldl h_s (fun t1 x2 h3 => showBl_keep (setDispen_keep h3))

theorem linkPowered_keep {vv qq s n} (h_s : Keep vv qq s) :
    Keep vv qq (State.linkPowered s n) := by
  delta State.linkPowered
  extract_lets t_1
  exact Keep.ite h_s (linkTrain_keep h_s)

theorem execAuxDone_keep {vv qq n reply count data s} (h_s : Keep vv qq s) :
    KeepN vv qq (execAuxDone n reply count data s) := by
  delta execAuxDone
  extract_lets k_1 v_2 got_3 s1_4 s2_5 s3_6
  have h_s1_4 : Keep vv qq s1_4 := by
      unfold s1_4
      exact wr_keep (wr_keep (wr_keep h_s))
  have h_s2_5 : Keep vv qq s2_5 := by
      unfold s2_5
      exact Keep.ite (Keep.foldl h_s1_4 (fun t7 x8 h9 => by
          extract_lets w_10 g_11
          exact wr_keep h9)) h_s1_4
  have h_s3_6 : Keep vv qq s3_6 := by
      unfold s3_6
      exact count_keep (raise_keep h_s2_5)
  clear_value s1_4 s2_5 s3_6
  exact KeepN.next (Keep.ite h_s (Keep.ite (count_keep h_s3_6) h_s3_6))

theorem execAuxGo_keep {vv qq w n v s} (h_s : Keep vv qq s) :
    KeepN vv qq (execAuxGo w n v s) := by
  delta execAuxGo
  exact KeepN.next (auxWrite_keep h_s)

theorem execBacklightOnDelayExpiry_keep {vv qq n s} (h_s : Keep vv qq s) :
    KeepN vv qq (execBacklightOnDelayExpiry n s) := by
  delta execBacklightOnDelayExpiry
  extract_lets k_1 u_2 s1_3 u_4
  have h_s1_3 : Keep vv qq s1_3 := by
      unfold s1_3
      exact showBl_keep (setLink_keep h_s)
  clear_value s1_3
  exact KeepN.next (Keep.ite h_s (setLink_keep h_s1_3))

theorem execDsiCmdGo_keep {vv qq w n v s} (h_s : Keep vv qq s) :
    KeepN vv qq (execDsiCmdGo w n v s) := by
  delta execDsiCmdGo
  exact KeepN.next (dsiWrite_keep h_s)

theorem execDsiSent_keep {vv qq n s} (h_s : Keep vv qq s) :
    KeepN vv qq (execDsiSent n s) := by
  delta execDsiSent
  extract_lets k_1 s1_2 u_3
  have h_s1_2 : Keep vv qq s1_2 := by
      unfold s1_2
      exact raise_keep (wr_keep h_s)
  clear_value s1_2
  exact KeepN.next (Keep.ite h_s (Keep.ite (setLink_keep h_s1_2) h_s1_2))

theorem execGrpArm_keep {vv qq w v s} (h_s : Keep vv qq s) :
    KeepN vv qq (execGrpArm w v s) := by
  delta execGrpArm
  exact KeepN.next (grpArm_keep h_s)

theorem execHpdIrq_keep {vv qq n unlocked s} (h_s : Keep vv qq s) :
    KeepN vv qq (execHpdIrq n unlocked s) := by
  delta execHpdIrq
  extract_lets k_1 t_2 s1_3
  have h_s1_3 : Keep vv qq s1_3 := by
      unfold s1_3
      exact raise_keep (count_keep h_s)
  clear_value s1_3
  exact KeepN.next (Keep.ite h_s (Keep.ite (linkLost_keep h_s1_3) h_s1_3))

theorem execHpdPlug_keep {vv qq n s} (h_s : Keep vv qq s) :
    KeepN vv qq (execHpdPlug n s) := by
  delta execHpdPlug
  extract_lets k_1 t_2 s1_3
  have h_s1_3 : Keep vv qq s1_3 := by
      unfold s1_3
      exact hpdNews_keep h_s
  clear_value s1_3
  exact KeepN.next (Keep.ite h_s (Keep.ite (linkTrain_keep h_s1_3) (linkPowered_keep h_s1_3)))

theorem execHpdUnplug_keep {vv qq n s} (h_s : Keep vv qq s) :
    KeepN vv qq (execHpdUnplug n s) := by
  delta execHpdUnplug
  extract_lets k_1 t_2
  exact KeepN.next (Keep.ite h_s (linkLost_keep (hpdNews_keep h_s)))

theorem execLinkDisable_keep {vv qq w n v s} (h_s : Keep vv qq s) :
    KeepN vv qq (execLinkDisable w n v s) := by
  delta execLinkDisable
  exact KeepN.next (linkCtrl_keep h_s)

theorem execLinkEnable_keep {vv qq w n v s} (h_s : Keep vv qq s) :
    KeepN vv qq (execLinkEnable w n v s) := by
  delta execLinkEnable
  exact KeepN.next (linkCtrl_keep h_s)

theorem execLinkHpdTimeout_keep {vv qq n s} (h_s : Keep vv qq s) :
    KeepN vv qq (execLinkHpdTimeout n s) := by
  delta execLinkHpdTimeout
  extract_lets k_1
  exact KeepN.next (Keep.ite h_s (linkFailed_keep h_s))

theorem execLinkLoadFault_keep {vv qq n wasInRange s} (h_s : Keep vv qq s) :
    KeepN vv qq (execLinkLoadFault n wasInRange s) := by
  delta execLinkLoadFault
  extract_lets k_1 t_2
  exact KeepN.next (Keep.ite h_s (linkLost_keep h_s))

theorem execLinkPowerUp_keep {vv qq n s} (h_s : Keep vv qq s) :
    KeepN vv qq (execLinkPowerUp n s) := by
  delta execLinkPowerUp
  extract_lets k_1
  exact KeepN.next (Keep.ite h_s (setDispen_keep (linkTo_keep h_s)))

theorem execLinkPoweroffTimer_keep {vv qq n s} (h_s : Keep vv qq s) :
    KeepN vv qq (execLinkPoweroffTimer n s) := by
  delta execLinkPoweroffTimer
  extract_lets k_1 c_2
  exact KeepN.next (Keep.ite (setLink_keep h_s) (Keep.ite (linkDown_keep h_s) h_s))

theorem execLinkRetry_keep {vv qq n s} (h_s : Keep vv qq s) :
    KeepN vv qq (execLinkRetry n s) := by
  delta execLinkRetry
  extract_lets k_1
  exact KeepN.next (Keep.ite h_s (Keep.ite (linkTrain_keep h_s) (Keep.ite h_s (linkTrain_keep (wr_keep h_s)))))

theorem execLinkTrain_keep {vv qq n s} (h_s : Keep vv qq s) :
    KeepN vv qq (execLinkTrain n s) := by
  delta execLinkTrain
  exact KeepN.next (linkPowered_keep h_s)

theorem execLinkTrainEnd_keep {vv qq n ok lanes rate s} (h_s : Keep vv qq s) :
    KeepN vv qq (execLinkTrainEnd n ok lanes rate s) := by
  delta execLinkTrainEnd
  extract_lets k_1 t_2 u_3
  exact KeepN.next (Keep.ite h_s (Keep.ite (raise_keep (wr_keep (wr_keep (setLink_keep h_s)))) (linkFailed_keep h_s)))

end Sys2Proof.Laws
end

