-- ==== Sys2Proof/Laws/KeepSafety.lean ====
section
/-! SUPPORT. The operations and commands of Machine/Safety.lean keep the variant, the queue and the canonical form of the memories. -/

set_option Elab.async false

namespace Sys2Proof.Laws

open Machine

theorem lsramNext_keep {vv qq s} (h_s : Keep vv qq s) :
    Keep vv qq (State.lsramNext s) := by
  delta State.lsramNext
  exact wr_keep h_s

theorem sramCe_keep {vv qq s} (h_s : Keep vv qq s) :
    Keep vv qq (State.sramCe s) := by
  delta State.sramCe
  exact raise_keep (count_keep h_s)

theorem sramUe_keep {vv qq s} (h_s : Keep vv qq s) :
    Keep vv qq (State.sramUe s) := by
  delta State.sramUe
  exact faultLine_keep (raise_keep (count_keep h_s))

theorem lsramRead_keep {vv qq s find} (h_s : Keep vv qq s) :
    Keep vv qq (State.lsramRead s find) := by
  delta State.lsramRead
  extract_lets a_1 d_2
  split
  · exact okResp_keep (lsramNext_keep h_s)
  · exact okResp_keep (sramCe_keep (lsramNext_keep h_s))
  · exact errResp_keep (sramUe_keep (lsramNext_keep h_s))

theorem logDataRead_keep {vv qq s w} (h_s : Keep vv qq s) :
    Keep vv qq (State.logDataRead s w) := by
  delta State.logDataRead
  extract_lets c_1 e_2 s1_3
  have h_s1_3 : Keep vv qq s1_3 := by
      unfold s1_3
      exact okResp_keep h_s
  clear_value s1_3
  exact Keep.ite (okResp_keep h_s) (Keep.ite h_s1_3 (Keep.ite (Keep.upd h_s1_3) (wr_keep (Keep.upd h_s1_3))))

theorem setCap_keep {vv qq s n v} (h_s : Keep vv qq s) :
    Keep vv qq (State.setCap s n v) := by
  delta State.setCap
  exact Keep.upd h_s

theorem faultAssert_keep {vv qq s} (h_s : Keep vv qq s) :
    Keep vv qq (State.faultAssert s) := by
  delta State.faultAssert
  extract_lets was_1 u_2 u_3 s1_4 s2_5
  have h_s1_4 : Keep vv qq s1_4 := by
      unfold s1_4
      exact Keep.upd h_s
  have h_s2_5 : Keep vv qq s2_5 := by
      unfold s2_5
      exact wr_keep (wr_keep h_s1_4)
  clear_value s1_4 s2_5
  exact Keep.ite h_s2_5 (raise_keep (count_keep h_s2_5))

theorem forceDispen_keep {vv qq s h} (h_s : Keep vv qq s) :
    Keep vv qq (State.forceDispen s h) := by
  delta State.forceDispen
  exact Keep.ite (setDispen_keep h_s) (linkDown_keep h_s)

theorem headSrcNow_keep {vv qq s oldDispen} (h_s : Keep vv qq s) :
    Keep vv qq (State.headSrcNow s oldDispen) := by
  delta State.headSrcNow
  exact Keep.foldl h_s (fun t1 x2 h3 => showBl_keep (Keep.ite (count_keep (forceDispen_keep h3)) h3))

theorem safeApply_keep {vv qq s b h} (h_s : Keep vv qq s) :
    Keep vv qq (State.safeApply s b h) := by
  delta State.safeApply
  extract_lets pg_1 left_2 rest_3 vis_4 ovl_5 s1_6 s2_7 u_8 s3_9
  have h_s1_6 : Keep vv qq s1_6 := by
      unfold s1_6
      exact applyPart_keep h_s
  have h_s2_7 : Keep vv qq s2_7 := by
      unfold s2_7
      exact Keep.ite (wr_keep (wr_keep h_s1_6)) h_s1_6
  have h_s3_9 : Keep vv qq s3_9 := by
      unfold s3_9
      exact Keep.upd h_s2_7
  clear_value s1_6 s2_7 s3_9
  exact Keep.ite h_s (Keep.ite (commitDone_keep h_s3_9) h_s3_9)

theorem safeCommit_keep {vv qq s b} (h_s : Keep vv qq s) :
    Keep vv qq (State.safeCommit s b) := by
  delta State.safeCommit
  extract_lets s1_1 s2_2
  have h_s1_1 : Keep vv qq s1_1 := by
      unfold s1_1
      exact wr_keep (stageSet_keep h_s)
  have h_s2_2 : Keep vv qq s2_2 := by
      unfold s2_2
      exact Keep.upd h_s1_1
  clear_value s1_1 s2_2
  exact Keep.foldl h_s2_2 (fun t3 x4 h5 => Keep.ite h5 (safeApply_keep h5))

theorem setShead_keep {vv qq s h v} (h_s : Keep vv qq s) :
    Keep vv qq (State.setShead s h v) := by
  delta State.setShead
  exact Keep.upd h_s

theorem logEntry_keep {vv qq s time code source heads reaction} (h_s : Keep vv qq s) :
    Keep vv qq (State.logEntry s time code source heads reaction) := by
  delta State.logEntry
  extract_lets c_1 e_2 full_3 log_4 aon_5 s1_6 s2_7 s3_8
  have h_s1_6 : Keep vv qq s1_6 := by
      unfold s1_6
      exact Keep.upd h_s
  have h_s2_7 : Keep vv qq s2_7 := by
      unfold s2_7
      exact wr_keep (wr_keep h_s1_6)
  have h_s3_8 : Keep vv qq s3_8 := by
      unfold s3_8
      exact Keep.ite (wr_keep h_s2_7) h_s2_7
  clear_value s1_6 s2_7 s3_8
  exact raise_keep (count_keep h_s3_8)

theorem faultDrop_keep {vv qq s} (h_s : Keep vv qq s) :
    Keep vv qq (State.faultDrop s) := by
  delta State.faultDrop
  exact wr_keep (wr_keep (Keep.upd h_s))

theorem faultCtrl_keep {vv qq s w v} (h_s : Keep vv qq s) :
    Keep vv qq (State.faultCtrl s w v) := by
  delta State.faultCtrl
  exact onWrite_keep h_s (fun t1 h2 => Keep.ite (faultAssert_keep h2) (Keep.ite (faultDrop_keep h2) h2))

theorem headSrcWrite_keep {vv qq s w v} (h_s : Keep vv qq s) :
    Keep vv qq (State.headSrcWrite s w v) := by
  delta State.headSrcWrite
  exact onWrite_keep h_s (fun t1 h2 => headSrcNow_keep (storeWord_keep h2))

theorem swdKick_keep {vv qq s w v} (h_s : Keep vv qq s) :
    Keep vv qq (State.swdKick s w v) := by
  delta State.swdKick
  exact onWrite_keep h_s (fun t1 h2 => Keep.ite (count_keep (Keep.upd h2)) h2)

theorem lsramWrite_keep {vv qq s w v} (h_s : Keep vv qq s) :
    Keep vv qq (State.lsramWrite s w v) := by
  delta State.lsramWrite
  exact onWrite_keep h_s (fun t1 h2 => by
      extract_lets a_3 m_4 u_5
      exact lsramNext_keep (Keep.upd h2))

theorem safeEvent_keep {vv qq s h code val} (h_s : Keep vv qq s) :
    Keep vv qq (State.safeEvent s h code val) := by
  delta State.safeEvent
  exact eventHead_keep h_s

theorem showEntries_keep {vv qq s h} (h_s : Keep vv qq s) :
    Keep vv qq (State.showEntries s h) := by
  delta State.showEntries
  extract_lets e_1
  exact wr_keep (wr_keep h_s)

theorem applySource_keep {vv qq s h} (h_s : Keep vv qq s) :
    Keep vv qq (State.applySource s h) := by
  delta State.applySource
  extract_lets was_1 now_2 c_3 code_4 s0_5 u_6 u1_7 s1_8
  have h_s0_5 : Keep vv qq s0_5 := by
      unfold s0_5
      exact setShead_keep (wr_keep h_s)
  have h_u_6 : Keep vv qq u_6 := by
      unfold u_6
      exact Keep.ite (raise_keep (count_keep (wr_keep (setShead_keep h_s0_5)))) (Keep.ite (raise_keep (wr_keep (setShead_keep h_s0_5))) h_s0_5)
  have h_u1_7 : Keep vv qq u1_7 := by
      unfold u1_7
      exact Keep.ite h_u_6 (logEntry_keep h_u_6)
  have h_s1_8 : Keep vv qq s1_8 := by
      unfold s1_8
      exact Keep.ite h_s0_5 (Keep.ite (safeEvent_keep h_u1_7) h_u1_7)
  clear_value s0_5 u_6 u1_7 s1_8
  exact showBl_keep (showEntries_keep h_s1_8)

theorem backlightBack_keep {vv qq s h} (h_s : Keep vv qq s) :
    Keep vv qq (State.backlightBack s h) := by
  delta State.backlightBack
  exact Keep.ite (showBl_keep (wr_keep (setShead_keep h_s))) h_s

theorem chk_keep {vv qq s f h v} (h_s : Keep vv qq s) :
    Keep vv qq (State.chk s f h v) := by
  delta State.chk
  exact wr_keep h_s

theorem clrAt_keep {vv qq s f h} (h_s : Keep vv qq s) :
    Keep vv qq (State.clrAt s f h) := by
  delta State.clrAt
  exact wr_keep h_s

theorem entryDark_keep {vv qq s h} (h_s : Keep vv qq s) :
    Keep vv qq (State.entryDark s h) := by
  delta State.entryDark
  exact Keep.ite (linkDown_keep h_s) h_s

theorem setWin_keep {vv qq s k v} (h_s : Keep vv qq s) :
    Keep vv qq (State.setWin s k v) := by
  delta State.setWin
  exact Keep.upd h_s

theorem judgeWindow_keep {vv qq s k} (h_s : Keep vv qq s) :
    Keep vv qq (State.judgeWindow s k) := by
  delta State.judgeWindow
  extract_lets h_1 pre_2 tag_3 s1_4 s2_5
  have h_s1_4 : Keep vv qq s1_4 := by
      unfold s1_4
      exact wr_keep h_s
  have h_s2_5 : Keep vv qq s2_5 := by
      unfold s2_5
      clear_value tag_3
      split
      · exact count_keep (wr_keep (wr_keep h_s1_4))
      · exact h_s1_4
  clear_value s1_4 s2_5
  split
  · extract_lets s3_13 c_14 code_15 s4_16 s5_17
    have h_s3_13 : Keep vv qq s3_13 := by
        unfold s3_13
        exact wr_keep (wr_keep h_s2_5)
    have h_s4_16 : Keep vv qq s4_16 := by
        unfold s4_16
        exact raise_keep (count_keep h_s3_13)
    have h_s5_17 : Keep vv qq s5_17 := by
        unfold s5_17
        exact setWin_keep h_s4_16
    clear_value s3_13 s4_16 s5_17
    exact Keep.ite (Keep.ite (setWin_keep h_s3_13) h_s3_13) (Keep.ite (setWin_keep h_s4_16) (eventHead_keep (faultLine_keep h_s5_17)))

theorem mirrorFrame_keep {vv qq s h obs prev} (h_s : Keep vv qq s) :
    Keep vv qq (State.mirrorFrame s h obs prev) := by
  delta State.mirrorFrame
  exact Keep.ite h_s (by
      extract_lets per_1 tol_2 gap_3 timing_4 checked_5 crcOf_6 s1_7 crc_8 s2_9 s3_10 s4_11 s5_12 wins_13 s6_14 good_15 u_16 s7_17
      have h_s1_7 : Keep vv qq s1_7 := by
          unfold s1_7
          exact Keep.foldl h_s (fun t18 x19 h20 => wr_keep h20)
      have h_s2_9 : Keep vv qq s2_9 := by
          unfold s2_9
          exact count_keep (chk_keep (chk_keep (chk_keep h_s1_7)))
      have h_s3_10 : Keep vv qq s3_10 := by
          unfold s3_10
          exact Keep.ite h_s2_9 (faultLine_keep (raise_keep (count_keep h_s2_9)))
      have h_s4_11 : Keep vv qq s4_11 := by
          unfold s4_11
          exact Keep.ite h_s3_10 (faultLine_keep (raise_keep (count_keep h_s3_10)))
      have h_s5_12 : Keep vv qq s5_12 := by
          unfold s5_12
          exact Keep.ite h_s4_11 (faultLine_keep (raise_keep (count_keep h_s4_11)))
      have h_s6_14 : Keep vv qq s6_14 := by
          unfold s6_14
          exact raise_keep (Keep.foldl h_s5_12 (fun t21 x22 h23 => judgeWindow_keep h23))
      have h_s7_17 : Keep vv qq s7_17 := by
          unfold s7_17
          exact setShead_keep (count_keep h_s6_14)
      clear_value s1_7 s2_9 s3_10 s4_11 s5_12 s6_14 s7_17
      exact Keep.ite h_s7_17 (wr_keep h_s7_17))

theorem handBack_keep {vv qq s h} (h_s : Keep vv qq s) :
    Keep vv qq (State.handBack s h) := by
  delta State.handBack
  extract_lets s1_1 u_2 s2_3 s3_4
  have h_s1_1 : Keep vv qq s1_1 := by
      unfold s1_1
      exact clrAt_keep (clrAt_keep (clrAt_keep (clrAt_keep h_s)))
  have h_s2_3 : Keep vv qq s2_3 := by
      unfold s2_3
      exact wr_keep (wr_keep (setShead_keep h_s1_1))
  have h_s3_4 : Keep vv qq s3_4 := by
      unfold s3_4
      exact logEntry_keep (raise_keep (count_keep h_s2_3))
  clear_value s1_1 s2_3 s3_4
  exact safeEvent_keep h_s3_4

theorem wrMix_keep {vv qq s f b pick} (h_s : Keep vv qq s) :
    Keep vv qq (State.wrMix s f b pick) := by
  delta State.wrMix
  extract_lets s1_1
  have h_s1_1 : Keep vv qq s1_1 := by
      unfold s1_1
      exact wrSh_keep (wr_keep h_s)
  clear_value s1_1
  exact Keep.ite (Keep.upd h_s1_1) h_s1_1

theorem linkVis_keep {vv qq s h} (h_s : Keep vv qq s) :
    Keep vv qq (State.linkVis s h) := by
  delta State.linkVis
  split
  · exact wrMix_keep h_s
  · exact h_s

theorem winLift_keep {vv qq s k} (h_s : Keep vv qq s) :
    Keep vv qq (State.winLift s k) := by
  delta State.winLift
  extract_lets icon_1 u_2 s1_3 s2_4 shared_5
  have h_s1_3 : Keep vv qq s1_3 := by
      unfold s1_3
      exact setWin_keep h_s
  have h_s2_4 : Keep vv qq s2_4 := by
      unfold s2_4
      exact wrMix_keep h_s1_3
  clear_value s1_3 s2_4
  exact Keep.ite (wrMix_keep h_s2_4) h_s2_4

theorem winReact_keep {vv qq s k} (h_s : Keep vv qq s) :
    Keep vv qq (State.winReact s k) := by
  delta State.winReact
  extract_lets icon_1 s1_2 s2_3 u_4
  have h_s1_2 : Keep vv qq s1_2 := by
      unfold s1_2
      exact count_keep (wrMix_keep h_s)
  have h_s2_3 : Keep vv qq s2_3 := by
      unfold s2_3
      exact Keep.ite (wrMix_keep h_s1_2) h_s1_2
  clear_value s1_2 s2_3
  exact setWin_keep h_s2_3

theorem winFrame_keep {vv qq s h} (h_s : Keep vv qq s) :
    Keep vv qq (State.winFrame s h) := by
  delta State.winFrame
  exact Keep.foldl h_s (fun t1 x2 h3 => by
      extract_lets c_4 off_5
      exact Keep.ite (winLift_keep h3) (Keep.ite (winReact_keep h3) (Keep.ite (winLift_keep h3) h3)))

theorem frameStart_keep {vv qq s h} (h_s : Keep vv qq s) :
    Keep vv qq (State.frameStart s h) := by
  delta State.frameStart
  exact Keep.ite h_s (by
      extract_lets u_1 s1_2 s2_3 s3_4 s4_5
      have h_s1_2 : Keep vv qq s1_2 := by
          unfold s1_2
          exact setHead_keep (wr_keep (wr_keep h_s))
      have h_s2_3 : Keep vv qq s2_3 := by
          unfold s2_3
          exact Keep.ite (handBack_keep h_s1_2) h_s1_2
      have h_s3_4 : Keep vv qq s3_4 := by
          unfold s3_4
          exact safeApply_keep (safeApply_keep (applySource_keep h_s2_3))
      have h_s4_5 : Keep vv qq s4_5 := by
          unfold s4_5
          exact Keep.ite (linkVis_keep (winFrame_keep h_s3_4)) h_s3_4
      clear_value s1_2 s2_3 s3_4 s4_5
      exact entryDark_keep (showBl_keep (backlightBack_keep h_s4_5)))

theorem logReact_keep {vv qq s p n} (h_s : Keep vv qq s) :
    Keep vv qq (State.logReact s p n) := by
  delta State.logReact
  extract_lets mark_1 u_2
  exact Keep.upd h_s

theorem selectSafe_keep {vv qq s h st since dispenOff} (h_s : Keep vv qq s) :
    Keep vv qq (State.selectSafe s h st since dispenOff) := by
  delta State.selectSafe
  extract_lets old_1 s1_2 s2_3 u_4 s3_5
  have h_s1_2 : Keep vv qq s1_2 := by
      unfold s1_2
      exact Keep.ite (wr_keep h_s) (wr_keep h_s)
  have h_s2_3 : Keep vv qq s2_3 := by
      unfold s2_3
      exact Keep.ite (wr_keep h_s1_2) h_s1_2
  have h_s3_5 : Keep vv qq s3_5 := by
      unfold s3_5
      exact wr_keep (setShead_keep h_s2_3)
  clear_value s1_2 s2_3 s3_5
  exact headSrcNow_keep h_s3_5

theorem react_keep {vv qq s g} (h_s : Keep vv qq s) :
    Keep vv qq (State.react s g) := by
  delta State.react
  split
  · extract_lets hs_6 sel_7 fresh_8 changed_9 s1_10 s2_11 bits_12
    have h_s1_10 : Keep vv qq s1_10 := by
        unfold s1_10
        exact Keep.foldl (count_keep h_s) (fun t13 x14 h15 => selectSafe_keep h15)
    have h_s2_11 : Keep vv qq s2_11 := by
        unfold s2_11
        exact Keep.ite (faultAssert_keep h_s1_10) h_s1_10
    clear_value s1_10 s2_11
    exact logEntry_keep h_s2_11

theorem readback_keep {vv qq s a b bad} (h_s : Keep vv qq s) :
    Keep vv qq (State.readback s a b bad) := by
  delta State.readback
  extract_lets differs_1 s1_2 u_3 s2_4
  have h_s1_2 : Keep vv qq s1_2 := by
      unfold s1_2
      exact wrB_keep (wrB_keep (wrB_keep h_s))
  have h_s2_4 : Keep vv qq s2_4 := by
      unfold s2_4
      exact Keep.ite (Keep.upd h_s1_2) (by
          split
          · exact logEntry_keep (faultAssert_keep (Keep.upd h_s1_2))
          · exact Keep.ite (logReact_keep (Keep.upd h_s1_2)) h_s1_2)
  clear_value s1_2 s2_4
  split
  · extract_lets s3_14 u_15
    have h_s3_14 : Keep vv qq s3_14 := by
        unfold s3_14
        exact Keep.foldl h_s2_4 (fun t16 x17 h18 => react_keep h18)
    clear_value s3_14
    exact Keep.upd h_s3_14

theorem execEarlyBacklightOff_keep {vv qq h s} (h_s : Keep vv qq s) :
    KeepN vv qq (execEarlyBacklightOff h s) := by
  delta execEarlyBacklightOff
  extract_lets k_1 due_2 pending_3 u_4
  exact KeepN.next (Keep.ite h_s (logReact_keep (showBl_keep (wr_keep (setShead_keep h_s)))))

theorem execFaultReadback_keep {vv qq a b bad s} (h_s : Keep vv qq s) :
    KeepN vv qq (execFaultReadback a b bad s) := by
  delta execFaultReadback
  exact KeepN.next (readback_keep h_s)

theorem execFaultRelease_keep {vv qq s} (h_s : Keep vv qq s) :
    KeepN vv qq (execFaultRelease s) := by
  delta execFaultRelease
  exact KeepN.next (Keep.ite (faultDrop_keep h_s) h_s)

theorem execFrameStart_keep {vv qq h s} (h_s : Keep vv qq s) :
    KeepN vv qq (execFrameStart h s) := by
  delta execFrameStart
  exact KeepN.next (frameStart_keep h_s)

theorem execHeadSrcWrite_keep {vv qq w v s} (h_s : Keep vv qq s) :
    KeepN vv qq (execHeadSrcWrite w v s) := by
  delta execHeadSrcWrite
  exact KeepN.next (headSrcWrite_keep h_s)

theorem execLogDataRead_keep {vv qq w s} (h_s : Keep vv qq s) :
    KeepN vv qq (execLogDataRead w s) := by
  delta execLogDataRead
  exact KeepN.next (by
      split
      · rename_i a3
        have h4 := KeepC.eqBad (v := vv) (q := qq) a3 (reach_keep h_s)
        exact h4
      · rename_i a7
        have h8 := KeepC.eqGood (v := vv) (q := qq) a7 (reach_keep h_s)
        exact logDataRead_keep h8)

theorem execLsramDataAccess_keep {vv qq w v find s} (h_s : Keep vv qq s) :
    KeepN vv qq (execLsramDataAccess w v find s) := by
  delta execLsramDataAccess
  exact KeepN.next (by
      split
      · exact lsramWrite_keep h_s
      · split
        · rename_i a6
          have h7 := KeepC.eqBad (v := vv) (q := qq) a6 (reach_keep h_s)
          exact h7
        · rename_i a10
          have h11 := KeepC.eqGood (v := vv) (q := qq) a10 (reach_keep h_s)
          exact lsramRead_keep h11)

theorem execMirrorStreamStop_keep {vv qq h s} (h_s : Keep vv qq s) :
    KeepN vv qq (execMirrorStreamStop h s) := by
  delta execMirrorStreamStop
  extract_lets k_1 u_2 s1_3
  have h_s1_3 : Keep vv qq s1_3 := by
      unfold s1_3
      exact setShead_keep (chk_keep h_s)
  clear_value s1_3
  exact KeepN.next (Keep.ite h_s (faultLine_keep (raise_keep (count_keep h_s1_3))))

theorem execSafeSramUe_keep {vv qq s} (h_s : Keep vv qq s) :
    KeepN vv qq (execSafeSramUe s) := by
  delta execSafeSramUe
  exact KeepN.next (sramUe_keep h_s)

theorem execSwdKick_keep {vv qq w v s} (h_s : Keep vv qq s) :
    KeepN vv qq (execSwdKick w v s) := by
  delta execSwdKick
  exact KeepN.next (swdKick_keep h_s)

end Sys2Proof.Laws
end

