-- ==== Sys2Proof/Laws/KeepCamera.lean ====
section
/-! SUPPORT. The operations and commands of Machine/Camera.lean keep the variant, the queue and the canonical form of the memories. -/

set_option Elab.async false

namespace Sys2Proof.Laws

open Machine

theorem capGiveBack_keep {vv qq s n} (h_s : Keep vv qq s) :
    Keep vv qq (State.capGiveBack s n) := by
  delta State.capGiveBack
  split
  · exact h_s
  · extract_lets c_6
    exact tryDisable_keep (setRing_keep (setJob_keep h_s))

theorem capShort_keep {vv qq s n} (h_s : Keep vv qq s) :
    Keep vv qq (State.capShort s n) := by
  delta State.capShort
  extract_lets c_1 s1_2
  have h_s1_2 : Keep vv qq s1_2 := by
      unfold s1_2
      exact wr_keep (wr_keep (setCap_keep h_s))
  clear_value s1_2
  exact Keep.ite h_s1_2 (eventPage_keep (raise_keep (count_keep (capGiveBack_keep h_s1_2))))

theorem capCtrl_keep {vv qq s w n v} (h_s : Keep vv qq s) :
    Keep vv qq (State.capCtrl s w n v) := by
  delta State.capCtrl
  exact onWrite_keep h_s (fun t1 h2 => Keep.ite (setCap_keep (softRegs_keep (capGiveBack_keep (Keep.ite (capShort_keep h2) h2)))) (by
      extract_lets was_3 t1_4 u_5
      have h_t1_4 : Keep vv qq t1_4 := by
          unfold t1_4
          exact wr_keep h2
      clear_value t1_4
      exact Keep.ite (setCap_keep h_t1_4) (Keep.ite (capShort_keep h_t1_4) h_t1_4)))

theorem trigPulse_keep {vv qq s n by_} (h_s : Keep vv qq s) :
    Keep vv qq (State.trigPulse s n by_) := by
  delta State.trigPulse
  exact count_keep (setCap_keep h_s)

theorem trigWrite_keep {vv qq s w n v} (h_s : Keep vv qq s) :
    Keep vv qq (State.trigWrite s w n v) := by
  delta State.trigWrite
  exact onWrite_keep h_s (fun t1 h2 => Keep.ite (trigPulse_keep h2) h2)

theorem capDropTell_keep {vv qq s n} (h_s : Keep vv qq s) :
    Keep vv qq (State.capDropTell s n) := by
  delta State.capDropTell
  extract_lets c_1
  exact eventPage_keep (setCap_keep h_s)

theorem capStore_keep {vv qq s n a d} (h_s : Keep vv qq s) :
    Keep vv qq (State.capStore s n a d) := by
  delta State.capStore
  split
  · exact h_s
  · exact Keep.ite h_s (by
        split
        · rename_i a8
          have h9 := KeepP.eq (v := vv) (q := qq) a8 (tryStore_keep h_s)
          exact count_keep h9
        · rename_i a13
          have h14 := KeepP.eq (v := vv) (q := qq) a13 (tryStore_keep h_s)
          exact setCap_keep h14)

theorem writeTag_keep {vv qq s n} (h_s : Keep vv qq s) :
    Keep vv qq (State.writeTag s n) := by
  delta State.writeTag
  split
  · exact h_s
  · split
    · extract_lets dt_10 t_11 a_12 s1_13
      have h_s1_13 : Keep vv qq s1_13 := by
          unfold s1_13
          exact capStore_keep (capStore_keep h_s)
      clear_value s1_13
      exact Keep.ite (capStore_keep h_s1_13) h_s1_13

theorem capEnd_keep {vv qq s n} (h_s : Keep vv qq s) :
    Keep vv qq (State.capEnd s n) := by
  delta State.capEnd
  extract_lets c_1 s1_2 s2_3 s3_4 u_5
  have h_s1_2 : Keep vv qq s1_2 := by
      unfold s1_2
      exact wr_keep (wr_keep (setCap_keep h_s))
  have h_s2_3 : Keep vv qq s2_3 := by
      unfold s2_3
      exact count_keep (wr_keep h_s1_2)
  have h_s3_4 : Keep vv qq s3_4 := by
      unfold s3_4
      exact Keep.ite (writeTag_keep h_s2_3) h_s2_3
  clear_value s1_2 s2_3 s3_4
  split
  · exact Keep.ite h_s (Keep.ite (capShort_keep h_s) (Keep.ite (wr_keep (wr_keep (setCap_keep h_s))) (Keep.ite h_s2_3 (setCap_keep h_s3_4))))

theorem capFail_keep {vv qq s n code addr} (h_s : Keep vv qq s) :
    Keep vv qq (State.capFail s n code addr) := by
  delta State.capFail
  split
  · exact h_s
  · extract_lets c_6 s1_7
    have h_s1_7 : Keep vv qq s1_7 := by
        unfold s1_7
        exact setJob_keep (setCap_keep h_s)
    clear_value s1_7
    exact endJob_keep h_s1_7

theorem capHs_keep {vv qq s n} (h_s : Keep vv qq s) :
    Keep vv qq (State.capHs s n) := by
  delta State.capHs
  exact setCap_keep h_s

theorem capLine_keep {vv qq s n d} (h_s : Keep vv qq s) :
    Keep vv qq (State.capLine s n d) := by
  delta State.capLine
  extract_lets c_1 dt_2 s1_3 u_4 row_5 j_6
  have h_s1_3 : Keep vv qq s1_3 := by
      unfold s1_3
      exact setCap_keep h_s
  clear_value s1_3
  split
  · exact Keep.ite h_s1_3 (Keep.ite (setCap_keep h_s1_3) (by
        extract_lets s2_13 c2_14
        have h_s2_13 : Keep vv qq s2_13 := by
            unfold s2_13
            exact Keep.ite h_s1_3 (by
                clear_value j_6
                split
                · exact h_s1_3
                · extract_lets t_18 u_19
                  have h_t_18 : Keep vv qq t_18 := by
                      unfold t_18
                      exact capStore_keep h_s1_3
                  clear_value t_18
                  exact Keep.ite h_t_18 (Keep.ite (setCap_keep h_t_18) (capStore_keep h_t_18)))
        clear_value s2_13
        exact Keep.ite h_s2_13 (setCap_keep h_s2_13)))

theorem capPacket_keep {vv qq s n dt} (h_s : Keep vv qq s) :
    Keep vv qq (State.capPacket s n dt) := by
  delta State.capPacket
  exact raise_keep (count_keep (recErr_keep h_s))

theorem capWritten_keep {vv qq s n} (h_s : Keep vv qq s) :
    Keep vv qq (State.capWritten s n) := by
  delta State.capWritten
  extract_lets c_1 seq_2 tagged_3 l_4 tags_5 s1_6 s2_7 s3_8 detail_9
  have h_s1_6 : Keep vv qq s1_6 := by
      unfold s1_6
      exact wr_keep (setCap_keep h_s)
  have h_s2_7 : Keep vv qq s2_7 := by
      unfold s2_7
      exact Keep.ite (wr_keep h_s1_6) h_s1_6
  have h_s3_8 : Keep vv qq s3_8 := by
      unfold s3_8
      exact setJob_keep (raise_keep (count_keep h_s2_7))
  clear_value s1_6 s2_7 s3_8
  split
  · exact h_s
  · exact Keep.ite h_s (by
        extract_lets ctrl_15 q_16 s4_17 s5_18 u_19
        have h_s4_17 : Keep vv qq s4_17 := by
            unfold s4_17
            exact Keep.ite (by
                split
                · rename_i a22
                  have h23 := KeepP.eq (v := vv) (q := qq) a22 (signal_keep h_s3_8)
                  exact endJob_keep h23
                · rename_i a28
                  have h29 := KeepP.eq (v := vv) (q := qq) a28 (signal_keep h_s3_8)
                  exact endJob_keep h29) (endJob_keep h_s3_8)
        have h_s5_18 : Keep vv qq s5_18 := by
            unfold s5_18
            exact capDropTell_keep h_s4_17
        clear_value s4_17 s5_18
        exact Keep.ite h_s4_17 (setCap_keep h_s5_18))

theorem capSettle_keep {vv qq s n} (h_s : Keep vv qq s) :
    Keep vv qq (State.capSettle s n) := by
  delta State.capSettle
  split
  · exact Keep.ite h_s (capFail_keep h_s)
  · exact capWritten_keep h_s

theorem capTake_keep {vv qq p0 p1 p2} (h_p1 : Keep vv qq p1) :
    Keep vv qq (State.capTake p0 p1 p2) := by
  induction p0 generalizing p1 p2
  · unfold State.capTake
    exact h_p1
  · rename_i m ih
    unfold State.capTake
    split
    · exact h_p1
    · extract_lets s1_12
      have h_s1_12 : Keep vv qq s1_12 := by
          unfold s1_12
          exact startJob_keep h_p1
      clear_value s1_12
      split
      · exact h_s1_12
      · exact Keep.ite h_s1_12 (ih (endJob_keep (setJob_keep h_s1_12)))

theorem capStart_keep {vv qq s n} (h_s : Keep vv qq s) :
    Keep vv qq (State.capStart s n) := by
  delta State.capStart
  extract_lets s0_1 s1_2 u_3 s2_4 fresh_5 c_6 c1_7 first_8 s3_9
  have h_s0_1 : Keep vv qq s0_1 := by
      unfold s0_1
      exact capSettle_keep (Keep.ite (capShort_keep h_s) h_s)
  have h_s1_2 : Keep vv qq s1_2 := by
      unfold s1_2
      exact capHs_keep (wr_keep (wr_keep h_s0_1))
  have h_s2_4 : Keep vv qq s2_4 := by
      unfold s2_4
      exact Keep.ite h_s1_2 (capTake_keep (setCap_keep h_s1_2))
  have h_s3_9 : Keep vv qq s3_9 := by
      unfold s3_9
      exact raise_keep (count_keep (setCap_keep h_s2_4))
  clear_value s0_1 s1_2 s2_4 s3_9
  exact Keep.ite (setCap_keep h_s2_4) (Keep.ite (capDropTell_keep h_s3_9) h_s3_9)

theorem execCapFrameWritten_keep {vv qq n s} (h_s : Keep vv qq s) :
    KeepN vv qq (execCapFrameWritten n s) := by
  delta execCapFrameWritten
  exact KeepN.next (capWritten_keep h_s)

theorem execCapLost_keep {vv qq n s} (h_s : Keep vv qq s) :
    KeepN vv qq (execCapLost n s) := by
  delta execCapLost
  extract_lets k_1 c_2
  exact KeepN.next (Keep.ite h_s (eventPage_keep (raise_keep (setCap_keep h_s))))

theorem execCapWriteError_keep {vv qq n code addr s} (h_s : Keep vv qq s) :
    KeepN vv qq (execCapWriteError n code addr s) := by
  delta execCapWriteError
  extract_lets k_1
  exact KeepN.next (by
      split
      · exact h_s
      · split
        · exact capFail_keep h_s
        · exact capFail_keep (memRecord_keep h_s))

theorem execCsiFrameEnd_keep {vv qq n s} (h_s : Keep vv qq s) :
    KeepN vv qq (execCsiFrameEnd n s) := by
  delta execCsiFrameEnd
  exact KeepN.next (Keep.ite (capEnd_keep (capHs_keep h_s)) h_s)

theorem execCsiFrameStart_keep {vv qq n s} (h_s : Keep vv qq s) :
    KeepN vv qq (execCsiFrameStart n s) := by
  delta execCsiFrameStart
  exact KeepN.next (Keep.ite (capStart_keep h_s) h_s)

theorem execCsiLongPacket_keep {vv qq n vc dt d hdr crcBad overflow s0} (h_s0 : Keep vv qq s0) :
    KeepN vv qq (execCsiLongPacket n vc dt d hdr crcBad overflow s0) := by
  delta execCsiLongPacket
  extract_lets k_1 t_2 s_3 s1_4 s2_5 s3_6 s4_7 u_8
  have h_s_3 : Keep vv qq s_3 := by
      unfold s_3
      exact capHs_keep h_s0
  have h_s1_4 : Keep vv qq s1_4 := by
      unfold s1_4
      exact Keep.ite (count_keep h_s_3) h_s_3
  have h_s2_5 : Keep vv qq s2_5 := by
      unfold s2_5
      exact wr_keep h_s1_4
  have h_s3_6 : Keep vv qq s3_6 := by
      unfold s3_6
      exact Keep.ite (capPacket_keep h_s2_5) h_s2_5
  have h_s4_7 : Keep vv qq s4_7 := by
      unfold s4_7
      exact raise_keep (count_keep h_s3_6)
  clear_value s_3 s1_4 s2_5 s3_6 s4_7
  exact KeepN.next (Keep.ite h_s0 (Keep.ite (capPacket_keep h_s_3) (Keep.ite (count_keep h_s1_4) (Keep.ite (count_keep (recErr_keep h_s3_6)) (Keep.ite (setCap_keep h_s4_7) (capLine_keep h_s3_6))))))

theorem execTrigFire_keep {vv qq w n s} (h_s : Keep vv qq s) :
    KeepN vv qq (execTrigFire w n s) := by
  delta execTrigFire
  exact KeepN.next (trigWrite_keep h_s)

theorem execTrigPulseDue_keep {vv qq n s} (h_s : Keep vv qq s) :
    KeepN vv qq (execTrigPulseDue n s) := by
  delta execTrigPulseDue
  extract_lets k_1 b_2 c_3 soon_4 s1_5
  have h_s1_5 : Keep vv qq s1_5 := by
      unfold s1_5
      exact Keep.ite (setCap_keep h_s) h_s
  clear_value s1_5
  exact KeepN.next (Keep.ite h_s (Keep.ite (count_keep h_s1_5) (trigPulse_keep h_s1_5)))

end Sys2Proof.Laws
end

