-- ==== Sys2Proof/Laws/KeepTouch.lean ====
section
/-! SUPPORT. The operations and commands of Machine/Touch.lean keep the variant, the queue and the canonical form of the memories. -/

set_option Elab.async false

namespace Sys2Proof.Laws

open Machine

theorem setTiles_keep {vv qq s p st} (h_s : Keep vv qq s) :
    Keep vv qq (State.setTiles s p st) := by
  delta State.setTiles
  exact wr_keep (wr_keep h_s)

theorem touchCheck_keep {vv qq s p} (h_s : Keep vv qq s) :
    Keep vv qq (State.touchCheck s p) := by
  delta State.touchCheck
  exact Keep.ite (Keep.ite (setTiles_keep h_s) h_s) (Keep.ite (setTiles_keep h_s) h_s)

theorem setTouch_keep {vv qq s p v} (h_s : Keep vv qq s) :
    Keep vv qq (State.setTouch s p v) := by
  delta State.setTouch
  exact Keep.upd h_s

theorem touchCtrl_keep {vv qq s w n v} (h_s : Keep vv qq s) :
    Keep vv qq (State.touchCtrl s w n v) := by
  delta State.touchCtrl
  extract_lets p_1
  exact onWrite_keep h_s (fun t2 h3 => by
      extract_lets u1_4 u2_5
      have h_u1_4 : Keep vv qq u1_4 := by
          unfold u1_4
          exact wr_keep h3
      have h_u2_5 : Keep vv qq u2_5 := by
          unfold u2_5
          exact softRegs_keep h_u1_4
      clear_value u1_4 u2_5
      exact Keep.ite (touchCheck_keep (Keep.ite (setTiles_keep (setTouch_keep h_u2_5)) h_u2_5)) (touchCheck_keep h_u1_4))

theorem touchResume_keep {vv qq s} (h_s : Keep vv qq s) :
    Keep vv qq (State.touchResume s) := by
  delta State.touchResume
  extract_lets s1_1 u_2
  have h_s1_1 : Keep vv qq s1_1 := by
      unfold s1_1
      exact Keep.foldl h_s (fun t3 x4 h5 => by
          extract_lets g_6 u1_7 t_8 u2_9
          have h_u1_7 : Keep vv qq u1_7 := by
              unfold u1_7
              exact Keep.ite h5 (raise_keep (wr_keep (wr_keep h5)))
          have h_u2_9 : Keep vv qq u2_9 := by
              unfold u2_9
              exact Keep.ite (setTiles_keep (setTouch_keep h_u1_7)) h_u1_7
          clear_value u1_7 u2_9
          exact touchCheck_keep h_u2_9)
  clear_value s1_1
  exact Keep.upd h_s1_1

theorem setSurf_keep {vv qq s p v} (h_s : Keep vv qq s) :
    Keep vv qq (State.setSurf s p v) := by
  delta State.setSurf
  exact Keep.upd h_s

theorem surfCtrl_keep {vv qq s w p v} (h_s : Keep vv qq s) :
    Keep vv qq (State.surfCtrl s w p v) := by
  delta State.surfCtrl
  exact onWrite_keep h_s (fun t1 h2 => by
      extract_lets u1_3 t_4 run_5
      have h_u1_3 : Keep vv qq u1_3 := by
          unfold u1_3
          exact storeWord_keep h2
      clear_value u1_3
      exact touchCheck_keep (setTouch_keep h_u1_3))

theorem rptCtrl_keep {vv qq s w p v} (h_s : Keep vv qq s) :
    Keep vv qq (State.rptCtrl s w p v) := by
  delta State.rptCtrl
  exact onWrite_keep h_s (fun t1 h2 => by
      extract_lets t1_3 u_4 t2_5
      have h_t1_3 : Keep vv qq t1_3 := by
          unfold t1_3
          exact storeWord_keep h2
      have h_t2_5 : Keep vv qq t2_5 := by
          unfold t2_5
          exact setTouch_keep h_t1_3
      clear_value t1_3 t2_5
      exact Keep.ite (wr_keep (wr_keep h_t2_5)) h_t2_5)

theorem reportLost_keep {vv qq s p} (h_s : Keep vv qq s) :
    Keep vv qq (State.reportLost s p) := by
  delta State.reportLost
  exact raise_keep (count_keep h_s)

theorem putReport_keep {vv qq s p d lost} (h_s : Keep vv qq s) :
    Keep vv qq (State.putReport s p d lost) := by
  delta State.putReport
  extract_lets i_1 prod_2 phase_3 rid_4
  split
  · rename_i a7
    have h8 := KeepP.eq (v := vv) (q := qq) a7 (tryStore_keep h_s)
    extract_lets t1_9 u_10
    have h_t1_9 : Keep vv qq t1_9 := by
        unfold t1_9
        exact raise_keep (count_keep (wr_keep h8))
    clear_value t1_9
    exact setTouch_keep h_t1_9
  · rename_i a14
    have h15 := KeepP.eq (v := vv) (q := qq) a14 (tryStore_keep h_s)
    extract_lets t1_16 u_17
    have h_t1_16 : Keep vv qq t1_16 := by
        unfold t1_16
        exact Keep.ite h15 (recErr_keep h15)
    clear_value t1_16
    exact reportLost_keep (setTouch_keep h_t1_16)

theorem freeHeld_keep {vv qq s p} (h_s : Keep vv qq s) :
    Keep vv qq (State.freeHeld s p) := by
  delta State.freeHeld
  extract_lets t_1
  split
  · exact Keep.ite (putReport_keep (setTouch_keep h_s)) h_s
  · exact h_s

theorem rptCons_keep {vv qq s w p v} (h_s : Keep vv qq s) :
    Keep vv qq (State.rptCons s w p v) := by
  delta State.rptCons
  extract_lets i_1
  exact onWrite_keep h_s (fun t2 h3 => Keep.ite (refuse_keep h3) (freeHeld_keep (storeWord_keep h3)))

theorem draws_keep {vv qq p0 p1} (h_p1 : Keep vv qq p1) :
    KeepR vv qq (State.draws p0 p1) := by
  induction p0 generalizing p1
  · unfold State.draws
    exact KeepR.mk h_p1
  · rename_i m ih
    unfold State.draws
    split
    · rename_i a6
      have h7 := KeepR.eq (v := vv) (q := qq) a6 (draw_keep h_p1)
      split
      · rename_i a11
        have h12 := KeepR.eq (v := vv) (q := qq) a11 (ih h7)
        exact KeepR.mk h12

theorem exclude_keep {vv qq s p c f} (h_s : Keep vv qq s) :
    Keep vv qq (State.exclude s p c f) := by
  delta State.exclude
  extract_lets i_1 t_2
  exact wr_keep (setTouch_keep h_s)

theorem touchEvent_keep {vv qq s p code val} (h_s : Keep vv qq s) :
    Keep vv qq (State.touchEvent s p code val) := by
  delta State.touchEvent
  exact eventPage_keep h_s

theorem foundAdj_keep {vv qq s p a b} (h_s : Keep vv qq s) :
    Keep vv qq (State.foundAdj s p a b) := by
  delta State.foundAdj
  extract_lets f_1
  exact Keep.ite h_s (touchEvent_keep (raise_keep (exclude_keep (exclude_keep h_s))))

theorem foundBad_keep {vv qq s p c f code} (h_s : Keep vv qq s) :
    Keep vv qq (State.foundBad s p c f code) := by
  delta State.foundBad
  exact Keep.ite h_s (touchEvent_keep (raise_keep (exclude_keep h_s)))

theorem touchWatch_keep {vv qq s} (h_s : Keep vv qq s) :
    Keep vv qq (State.touchWatch s) := by
  delta State.touchWatch
  exact Keep.foldl h_s (fun t1 x2 h3 => by
      extract_lets t_4
      exact Keep.ite (wr_keep (setTouch_keep h3)) h3)

theorem peaks_keep {vv qq s p off d} (h_s : Keep vv qq s) :
    KeepR vv qq (State.peaks s p off d) := by
  delta State.peaks
  extract_lets T_1 R_2
  exact KeepR.foldl (KeepR.mk h_s) (fun t3 x4 h5 => by
      split
      · have h9 := KeepR.eq (v := vv) (q := qq) rfl h5
        split
        · have h14 := KeepR.eq (v := vv) (q := qq) rfl h5
          exact KeepR.ite (KeepR.mk h9) (by
              split
              · rename_i a18
                have h19 := KeepR.eq (v := vv) (q := qq) a18 (draw_keep h9)
                have h20 := KeepR.eq (v := vv) (q := qq) rfl h5
                split
                · rename_i a24
                  have h25 := KeepR.eq (v := vv) (q := qq) a24 (draw_keep h19)
                  have h26 := KeepR.eq (v := vv) (q := qq) rfl h5
                  exact KeepR.mk h25))

theorem reportDue_keep {vv qq s p more recs} (h_s : Keep vv qq s) :
    Keep vv qq (State.reportDue s p more recs) := by
  delta State.reportDue
  extract_lets t_1 d_2
  exact setTouch_keep h_s

theorem reportWrite_keep {vv qq s p} (h_s : Keep vv qq s) :
    Keep vv qq (State.reportWrite s p) := by
  delta State.reportWrite
  extract_lets t_1 s1_2 u_3
  have h_s1_2 : Keep vv qq s1_2 := by
      unfold s1_2
      exact setTouch_keep h_s
  clear_value s1_2
  split
  · exact h_s
  · exact Keep.ite h_s1_2 (Keep.ite (by
        extract_lets s2_9
        have h_s2_9 : Keep vv qq s2_9 := by
            unfold s2_9
            exact setTouch_keep h_s1_2
        clear_value s2_9
        exact Keep.ite (reportLost_keep h_s2_9) h_s2_9) (putReport_keep h_s1_2))

theorem scanBase_keep {vv qq s p raws d} (h_s : Keep vv qq s) :
    Keep vv qq (State.scanBase s p raws d) := by
  delta State.scanBase
  extract_lets t_1 T_2 R_3 held_4 c_5 step_6 l_7 raw_8 s1_9 s2_10
  have h_s1_9 : Keep vv qq s1_9 := by
      unfold s1_9
      exact setTouch_keep h_s
  have h_s2_10 : Keep vv qq s2_10 := by
      unfold s2_10
      exact count_keep h_s1_9
  clear_value s1_9 s2_10
  exact wr_keep h_s2_10

theorem scanNoise_keep {vv qq s p hopCount limit slots} (h_s : Keep vv qq s) :
    Keep vv qq (State.scanNoise s p hopCount limit slots) := by
  delta State.scanNoise
  extract_lets t_1 h_2 v_3 lv_4 now_5 n1_6 noise_7 loud_8 run_9 all_10 best_11 hops_12 s1_13 s2_14
  have h_s1_13 : Keep vv qq s1_13 := by
      unfold s1_13
      exact wr_keep (setTouch_keep h_s)
  have h_s2_14 : Keep vv qq s2_14 := by
      unfold s2_14
      exact Keep.ite (count_keep h_s1_13) h_s1_13
  clear_value s1_13 s2_14
  exact Keep.ite (touchEvent_keep (raise_keep h_s2_14)) h_s2_14

theorem scanZero_keep {vv qq s p margin raws} (h_s : Keep vv qq s) :
    Keep vv qq (State.scanZero s p margin raws) := by
  delta State.scanZero
  extract_lets nodes_1 t_2 missing_3 refs_4 sus_5
  split
  · rename_i a9
    have h10 := KeepR.eq (v := vv) (q := qq) a9 (KeepR.ite (draws_keep h_s) (KeepR.mk h_s))
    extract_lets base_11 prev_12
    exact setTouch_keep h10

theorem scanKeys_keep {vv qq s p d} (h_s : Keep vv qq s) :
    Keep vv qq (State.scanKeys s p d) := by
  delta State.scanKeys
  extract_lets nodes_1
  exact Keep.foldl h_s (fun t2 x3 h4 => by
      extract_lets t_5 c_6 was_7
      split
      · extract_lets now_12 u1_13 m_14 u2_15
        have h_u1_13 : Keep vv qq u1_13 := by
            unfold u1_13
            exact setTouch_keep h4
        have h_u2_15 : Keep vv qq u2_15 := by
            unfold u2_15
            exact raise_keep (wr_keep h_u1_13)
        clear_value u1_13 u2_15
        exact Keep.ite h_u1_13 (Keep.ite (count_keep h_u2_15) h_u2_15))

theorem scanNormal_keep {vv qq s p slots} (h_s : Keep vv qq s) :
    Keep vv qq (State.scanNormal s p slots) := by
  delta State.scanNormal
  extract_lets t_1 T_2 R_3 K_4 c_5 zero_6
  split
  · extract_lets s1_12 s2_13 raws_14 s3_15 d_16
    have h_s1_12 : Keep vv qq s1_12 := by
        unfold s1_12
        exact Keep.foldl h_s (fun t17 x18 h19 => count_keep (count_keep (count_keep h19)))
    have h_s2_13 : Keep vv qq s2_13 := by
        unfold s2_13
        exact count_keep (scanNoise_keep h_s1_12)
    have h_s3_15 : Keep vv qq s3_15 := by
        unfold s3_15
        exact Keep.ite (scanZero_keep h_s2_13) h_s2_13
    clear_value s1_12 s2_13 s3_15
    split
    · rename_i a23
      have h24 := KeepR.eq (v := vv) (q := qq) a23 (peaks_keep h_s3_15)
      extract_lets tr_25 u_26 s5_27 s6_28 n_29 s7_30
      have h_s5_27 : Keep vv qq s5_27 := by
          unfold s5_27
          exact count_keep (setTouch_keep h24)
      have h_s6_28 : Keep vv qq s6_28 := by
          unfold s6_28
          exact scanBase_keep (scanKeys_keep h_s5_27)
      have h_s7_30 : Keep vv qq s7_30 := by
          unfold s7_30
          exact Keep.ite (Keep.ite (setTiles_keep h_s6_28) (touchEvent_keep (raise_keep (setTiles_keep h_s6_28)))) h_s6_28
      clear_value s5_27 s6_28 s7_30
      exact reportDue_keep h_s7_30

theorem testA_keep {vv qq s p raw} (h_s : Keep vv qq s) :
    Keep vv qq (State.testA s p raw) := by
  delta State.testA
  extract_lets m_1 sat_2
  exact Keep.foldl h_s (fun t3 x4 h5 => by
      extract_lets n_6 t1_7
      have h_t1_7 : Keep vv qq t1_7 := by
          unfold t1_7
          exact Keep.ite (foundBad_keep h5) h5
      clear_value t1_7
      exact Keep.ite (foundBad_keep h_t1_7) h_t1_7)

theorem testBC_keep {vv qq s p q raw} (h_s : Keep vv qq s) :
    Keep vv qq (State.testBC s p q raw) := by
  delta State.testBC
  exact Keep.foldl h_s (fun t1 x2 h3 => by
      extract_lets l_4
      exact Keep.foldl h3 (fun t5 x6 h7 => Keep.ite h7 (Keep.foldl h7 (fun t8 x9 h10 => by
          extract_lets a_11 b_12
          exact Keep.ite (foundAdj_keep h10) h10))))

theorem scanTest_keep {vv qq s p slots} (h_s : Keep vv qq s) :
    Keep vv qq (State.scanTest s p slots) := by
  delta State.scanTest
  extract_lets t_1 raw_2 s1_3 s2_4 s3_5 u_6
  have h_s1_3 : Keep vv qq s1_3 := by
      unfold s1_3
      exact Keep.foldl h_s (fun t7 x8 h9 => count_keep h9)
  have h_s2_4 : Keep vv qq s2_4 := by
      unfold s2_4
      exact Keep.ite (testA_keep h_s1_3) (Keep.ite (testBC_keep h_s1_3) (testBC_keep h_s1_3))
  have h_s3_5 : Keep vv qq s3_5 := by
      unfold s3_5
      exact reportDue_keep (count_keep h_s2_4)
  clear_value s1_3 s2_4 s3_5
  exact setTouch_keep h_s3_5

theorem scanEnd_keep {vv qq s p slots} (h_s : Keep vv qq s) :
    Keep vv qq (State.scanEnd s p slots) := by
  delta State.scanEnd
  extract_lets t_1 s1_2 u_3
  have h_s1_2 : Keep vv qq s1_2 := by
      unfold s1_2
      exact Keep.ite (scanNormal_keep h_s) (scanTest_keep h_s)
  clear_value s1_2
  exact Keep.ite h_s (touchCheck_keep (setTouch_keep h_s1_2))

theorem scanStart_keep {vv qq s p} (h_s : Keep vv qq s) :
    Keep vv qq (State.scanStart s p) := by
  delta State.scanStart
  extract_lets t_1 st_2 cal_3 s1_4
  have h_s1_4 : Keep vv qq s1_4 := by
      unfold s1_4
      split
      · exact h_s
      · exact count_keep (wr_keep (wr_keep (wr_keep h_s)))
  clear_value s1_4
  exact Keep.ite h_s (setTouch_keep h_s1_4)

theorem touchDetach_keep {vv qq s p} (h_s : Keep vv qq s) :
    Keep vv qq (State.touchDetach s p) := by
  delta State.touchDetach
  extract_lets t_1 k_2 s1_3
  have h_s1_3 : Keep vv qq s1_3 := by
      unfold s1_3
      exact setTouch_keep (wr_keep h_s)
  clear_value s1_3
  exact Keep.ite h_s (Keep.ite (setTiles_keep (setTouch_keep h_s)) (setTiles_keep (reportDue_keep h_s1_3)))

theorem surfaceStart_keep {vv qq s0 p listen a b c} (h_s0 : Keep vv qq s0) :
    Keep vv qq (State.surfaceStart s0 p listen a b c) := by
  delta State.surfaceStart
  extract_lets s_1 cv_2 raws_3 n_4 s1_5 s2_6 s3_7 s4_8 u_9
  have h_s_1 : Keep vv qq s_1 := by
      unfold s_1
      exact touchCheck_keep h_s0
  have h_s1_5 : Keep vv qq s1_5 := by
      unfold s1_5
      exact setTouch_keep h_s_1
  have h_s2_6 : Keep vv qq s2_6 := by
      unfold s2_6
      exact Keep.foldl h_s1_5 (fun t10 x11 h12 => count_keep (wr_keep (wr_keep (wr_keep (wr_keep h12)))))
  have h_s3_7 : Keep vv qq s3_7 := by
      unfold s3_7
      exact wr_keep (wr_keep (wr_keep (wr_keep h_s2_6)))
  have h_s4_8 : Keep vv qq s4_8 := by
      unfold s4_8
      exact testBC_keep (testBC_keep (testA_keep h_s3_7))
  clear_value s_1 s1_5 s2_6 s3_7 s4_8
  exact Keep.ite h_s_1 (setTiles_keep (setSurf_keep h_s4_8))

theorem touchSleep_keep {vv qq s} (h_s : Keep vv qq s) :
    Keep vv qq (State.touchSleep s) := by
  delta State.touchSleep
  exact Keep.foldl h_s (fun t1 x2 h3 => by
      extract_lets t_4
      exact setTiles_keep (setTouch_keep h3))

theorem execReportWrite_keep {vv qq p s} (h_s : Keep vv qq s) :
    KeepN vv qq (execReportWrite p s) := by
  delta execReportWrite
  exact KeepN.next (reportWrite_keep h_s)

theorem execRptConsWrite_keep {vv qq w p v s} (h_s : Keep vv qq s) :
    KeepN vv qq (execRptConsWrite w p v s) := by
  delta execRptConsWrite
  exact KeepN.next (rptCons_keep h_s)

theorem execRptEnable_keep {vv qq w p s} (h_s : Keep vv qq s) :
    KeepN vv qq (execRptEnable w p s) := by
  delta execRptEnable
  exact KeepN.next (rptCtrl_keep h_s)

theorem execScanEnd_keep {vv qq p slots s} (h_s : Keep vv qq s) :
    KeepN vv qq (execScanEnd p slots s) := by
  delta execScanEnd
  exact KeepN.next (scanEnd_keep h_s)

theorem execScanStart_keep {vv qq p s} (h_s : Keep vv qq s) :
    KeepN vv qq (execScanStart p s) := by
  delta execScanStart
  exact KeepN.next (scanStart_keep h_s)

theorem execSurfRebase_keep {vv qq w p v s} (h_s : Keep vv qq s) :
    KeepN vv qq (execSurfRebase w p v s) := by
  delta execSurfRebase
  exact KeepN.next (surfCtrl_keep h_s)

theorem execSurfSelftest_keep {vv qq w p v s} (h_s : Keep vv qq s) :
    KeepN vv qq (execSurfSelftest w p v s) := by
  delta execSurfSelftest
  exact KeepN.next (surfCtrl_keep h_s)

theorem execSurfaceStart_keep {vv qq p listen a b c s} (h_s : Keep vv qq s) :
    KeepN vv qq (execSurfaceStart p listen a b c s) := by
  delta execSurfaceStart
  exact KeepN.next (surfaceStart_keep h_s)

end Sys2Proof.Laws
end

