-- ==== Sys2Proof/Laws/KeepFeed.lean ====
section
/-! SUPPORT. The operations and commands of Machine/Feed.lean keep the variant, the queue and the canonical form of the memories. -/

set_option Elab.async false

namespace Sys2Proof.Laws

open Machine

theorem feedRead_keep {vv qq s how f j} (h_s : Keep vv qq s) :
    KeepP vv qq (State.feedRead s how f j) := by
  delta State.feedRead
  extract_lets a_1 q_2 last_3 n_4
  split
  · exact KeepP.mk (memRecord_keep h_s)
  · exact KeepP.mk (fetched_keep h_s)

theorem feedTake_keep {vv qq s how f} (h_s : Keep vv qq s) :
    KeepOP vv qq (State.feedTake s how f) := by
  delta State.feedTake
  split
  · exact KeepOP.none
  · rename_i a7
    have h8 := KeepOP.eq (v := vv) (q := qq) a7 (takeEntry_keep h_s)
    extract_lets ok_9
    exact KeepOP.some (KeepP.mk h8)

theorem feedFill_keep {vv qq p0 p1 p2 p3 p4} (h_p1 : Keep vv qq p1) :
    KeepP vv qq (State.feedFill p0 p1 p2 p3 p4) := by
  induction p0 generalizing p1 p2 p3 p4
  · unfold State.feedFill
    exact KeepP.mk h_p1
  · rename_i m ih
    unfold State.feedFill
    exact KeepP.ite (KeepP.mk h_p1) (by
        split
        · exact KeepP.ite (by
              split
              · rename_i a12
                have h13 := KeepP.eq (v := vv) (q := qq) a12 (feedRead_keep h_p1)
                exact ih h13) (KeepP.ite (KeepP.mk h_p1) (by
              split
              · exact KeepP.mk h_p1
              · rename_i a19
                have h20 := KeepOP.eq (v := vv) (q := qq) a19 (feedTake_keep h_p1)
                exact ih h20))
        · exact KeepP.ite (KeepP.mk h_p1) (by
              split
              · exact KeepP.mk h_p1
              · rename_i a33
                have h34 := KeepOP.eq (v := vv) (q := qq) a33 (feedTake_keep h_p1)
                exact ih h34))

theorem feedEnds_keep {vv qq p0 p1 p2} (h_p1 : Keep vv qq p1) :
    KeepP vv qq (State.feedEnds p0 p1 p2) := by
  induction p0 generalizing p1 p2
  · unfold State.feedEnds
    exact KeepP.mk h_p1
  · rename_i m ih
    unfold State.feedEnds
    split
    · exact KeepP.mk h_p1
    · exact KeepP.ite (by
          extract_lets c_13 q_14 a_15 s1_16
          have h_s1_16 : Keep vv qq s1_16 := by
              unfold s1_16
              exact Keep.ite (endJob_keep h_p1) (Keep.ite (by
                  split
                  · rename_i a19
                    have h20 := KeepP.eq (v := vv) (q := qq) a19 (signal_keep h_p1)
                    exact endJob_keep h20
                  · rename_i a25
                    have h26 := KeepP.eq (v := vv) (q := qq) a25 (signal_keep h_p1)
                    exact endJob_keep h26) (endJob_keep h_p1))
          clear_value s1_16
          exact ih h_s1_16) (KeepP.mk h_p1)

end Sys2Proof.Laws
end

