-- ==== Sys2Proof/Laws/KeepHaptics.lean ====
section
/-! SUPPORT. The operations and commands of Machine/Haptics.lean keep the variant, the queue and the canonical form of the memories. -/

set_option Elab.async false

namespace Sys2Proof.Laws

open Machine

theorem slewNow_keep {vv qq s p} (h_s : Keep vv qq s) :
    Keep vv qq (State.slewNow s p) := by
  delta State.slewNow
  exact Keep.upd h_s

theorem hvSync_keep {vv qq s} (h_s : Keep vv qq s) :
    Keep vv qq (State.hvSync s) := by
  delta State.hvSync
  extract_lets s1_1 any_2
  have h_s1_1 : Keep vv qq s1_1 := by
      unfold s1_1
      exact Keep.foldl h_s (fun t3 x4 h5 => by
          extract_lets why_6 was_7 now_8 t1_9 t2_10 u_11
          have h_t1_9 : Keep vv qq t1_9 := by
              unfold t1_9
              exact wrB_keep (wr_keep h5)
          have h_t2_10 : Keep vv qq t2_10 := by
              unfold t2_10
              exact slewNow_keep (raise_keep h_t1_9)
          clear_value t1_9 t2_10
          exact Keep.ite h_t1_9 (Keep.ite h_t2_10 (setSurf_keep h_t2_10)))
  clear_value s1_1
  exact Keep.ite (count_keep (wr_keep h_s1_1)) (wrB_keep h_s1_1)

theorem touchQuiet_keep {vv qq s p} (h_s : Keep vv qq s) :
    Keep vv qq (State.touchQuiet s p) := by
  delta State.touchQuiet
  exact setTiles_keep (setTouch_keep h_s)

theorem surfForget_keep {vv qq s p} (h_s : Keep vv qq s) :
    Keep vv qq (State.surfForget s p) := by
  delta State.surfForget
  extract_lets k_1 s1_2 s2_3 s3_4
  have h_s1_2 : Keep vv qq s1_2 := by
      unfold s1_2
      exact setSurf_keep h_s
  have h_s2_3 : Keep vv qq s2_3 := by
      unfold s2_3
      exact Keep.foldl h_s1_2 (fun t5 x6 h7 => wr_keep h7)
  have h_s3_4 : Keep vv qq s3_4 := by
      unfold s3_4
      exact Keep.foldl h_s2_3 (fun t8 x9 h10 => wr_keep h10)
  clear_value s1_2 s2_3 s3_4
  exact Keep.foldl h_s3_4 (fun t11 x12 h13 => Keep.foldl h13 (fun t14 x15 h16 => wr_keep h16))

theorem portOn_keep {vv qq s p} (h_s : Keep vv qq s) :
    Keep vv qq (State.portOn s p) := by
  delta State.portOn
  exact Keep.ite h_s (wr_keep (surfForget_keep h_s))

theorem throttleShow_keep {vv qq s} (h_s : Keep vv qq s) :
    Keep vv qq (State.throttleShow s) := by
  delta State.throttleShow
  extract_lets m_1 s1_2 u_3
  have h_s1_2 : Keep vv qq s1_2 := by
      unfold s1_2
      exact wr_keep h_s
  clear_value s1_2
  exact Keep.ite (raise_keep (Keep.upd h_s1_2)) h_s1_2

theorem portOff_keep {vv qq s p} (h_s : Keep vv qq s) :
    Keep vv qq (State.portOff s p) := by
  delta State.portOff
  exact hvSync_keep (wr_keep (setSurf_keep h_s))

theorem portCtrl_keep {vv qq s w p v} (h_s : Keep vv qq s) :
    Keep vv qq (State.portCtrl s w p v) := by
  delta State.portCtrl
  exact onWrite_keep h_s (fun t1 h2 => by
      extract_lets t1_3 u_4
      have h_t1_3 : Keep vv qq t1_3 := by
          unfold t1_3
          exact storeWord_keep h2
      clear_value t1_3
      exact Keep.ite (portOn_keep h_t1_3) (Keep.ite (hvSync_keep (touchQuiet_keep (setSurf_keep h_t1_3))) (portOff_keep h_t1_3)))

theorem hvCtrl_keep {vv qq s w p v} (h_s : Keep vv qq s) :
    Keep vv qq (State.hvCtrl s w p v) := by
  delta State.hvCtrl
  exact onWrite_keep h_s (fun t1 h2 => by
      extract_lets t1_3
      have h_t1_3 : Keep vv qq t1_3 := by
          unfold t1_3
          exact storeWord_keep h2
      clear_value t1_3
      exact hvSync_keep (Keep.ite (Keep.foldl h_t1_3 (fun t4 x5 h6 => wr_keep h6)) h_t1_3))

theorem streamCfg_keep {vv qq s w p v} (h_s : Keep vv qq s) :
    Keep vv qq (State.streamCfg s w p v) := by
  delta State.streamCfg
  exact onWrite_keep h_s (fun t1 h2 => by
      extract_lets o_3 r_4
      exact Keep.ite (refuse_keep h2) (Keep.ite (refuse_keep h2) (storeWord_keep h2)))

theorem boostCtrl_keep {vv qq s w v} (h_s : Keep vv qq s) :
    Keep vv qq (State.boostCtrl s w v) := by
  delta State.boostCtrl
  exact onWrite_keep h_s (fun t1 h2 => by
      extract_lets t1_3
      have h_t1_3 : Keep vv qq t1_3 := by
          unfold t1_3
          exact storeWord_keep h2
      clear_value t1_3
      exact hvSync_keep (Keep.ite (wr_keep h_t1_3) h_t1_3))

theorem hvPermit_keep {vv qq s w v} (h_s : Keep vv qq s) :
    Keep vv qq (State.hvPermit s w v) := by
  delta State.hvPermit
  exact onWrite_keep h_s (fun t1 h2 => hvSync_keep (storeWord_keep h2))

theorem surfEvent_keep {vv qq s p code val} (h_s : Keep vv qq s) :
    Keep vv qq (State.surfEvent s p code val) := by
  delta State.surfEvent
  exact eventPage_keep h_s

theorem wearTell_keep {vv qq s p n} (h_s : Keep vv qq s) :
    Keep vv qq (State.wearTell s p n) := by
  delta State.wearTell
  extract_lets c_1 s1_2
  have h_s1_2 : Keep vv qq s1_2 := by
      unfold s1_2
      exact Keep.ite (surfEvent_keep (raise_keep (wr_keep h_s))) h_s
  clear_value s1_2
  exact Keep.ite (surfEvent_keep (raise_keep (wr_keep h_s1_2))) h_s1_2

theorem authDone_keep {vv qq s p sig} (h_s : Keep vv qq s) :
    Keep vv qq (State.authDone s p sig) := by
  delta State.authDone
  extract_lets k_1 d_2 ok_3 s1_4 s2_5 s3_6 s4_7 u_8 s5_9
  have h_s1_4 : Keep vv qq s1_4 := by
      unfold s1_4
      exact wr_keep (wr_keep h_s)
  have h_s2_5 : Keep vv qq s2_5 := by
      unfold s2_5
      exact Keep.ite h_s1_4 (surfEvent_keep (raise_keep (count_keep h_s1_4)))
  have h_s3_6 : Keep vv qq s3_6 := by
      unfold s3_6
      exact raise_keep (count_keep h_s2_5)
  have h_s4_7 : Keep vv qq s4_7 := by
      unfold s4_7
      exact Keep.foldl h_s3_6 (fun t10 x11 h12 => wearTell_keep h12)
  have h_s5_9 : Keep vv qq s5_9 := by
      unfold s5_9
      exact Keep.ite h_s4_7 (setSurf_keep h_s4_7)
  clear_value s1_4 s2_5 s3_6 s4_7 s5_9
  exact Keep.ite h_s (hvSync_keep (touchCheck_keep h_s5_9))

theorem calEnd_keep {vv qq s p} (h_s : Keep vv qq s) :
    Keep vv qq (State.calEnd s p) := by
  delta State.calEnd
  exact hvSync_keep (setSurf_keep h_s)

theorem calFallback_keep {vv qq s p n} (h_s : Keep vv qq s) :
    Keep vv qq (State.calFallback s p n) := by
  delta State.calFallback
  extract_lets k_1
  split
  · exact wr_keep (setSurf_keep h_s)
  · exact wr_keep (setSurf_keep h_s)

theorem calStep_keep {vv qq s p got} (h_s : Keep vv qq s) :
    Keep vv qq (State.calStep s p got) := by
  delta State.calStep
  extract_lets k_1 c_2 s1_3 found_4 u_5 s2_6 s3_7 u_8
  have h_s1_3 : Keep vv qq s1_3 := by
      unfold s1_3
      split
      · exact h_s
      · extract_lets drift_15
        exact wrB_keep (wr_keep (wr_keep (wr_keep (wr_keep h_s))))
  have h_s2_6 : Keep vv qq s2_6 := by
      unfold s2_6
      exact Keep.ite (wr_keep (wr_keep (setSurf_keep h_s1_3))) (surfEvent_keep (calFallback_keep (wr_keep h_s1_3)))
  have h_s3_7 : Keep vv qq s3_7 := by
      unfold s3_7
      exact slewNow_keep (count_keep h_s2_6)
  clear_value s1_3 s2_6 s3_7
  exact Keep.ite h_s (Keep.ite (raise_keep (calEnd_keep (Keep.foldl h_s (fun t16 x17 h18 => calFallback_keep (wr_keep h18))))) (Keep.ite (raise_keep (calEnd_keep h_s3_7)) (setSurf_keep h_s3_7)))

theorem hapDrive_keep {vv qq s p v} (h_s : Keep vv qq s) :
    Keep vv qq (State.hapDrive s p v) := by
  delta State.hapDrive
  extract_lets ch_1 lv_2 k_3 slew_4 hot_5 phase_6 s1_7
  have h_s1_7 : Keep vv qq s1_7 := by
      unfold s1_7
      exact setSurf_keep h_s
  clear_value s1_7
  exact Keep.ite (setSurf_keep h_s) (Keep.ite (slewNow_keep (count_keep h_s1_7)) h_s1_7)

theorem setHapFeed_keep {vv qq s p f} (h_s : Keep vv qq s) :
    Keep vv qq (State.setHapFeed s p f) := by
  delta State.setHapFeed
  exact wr_keep (wr_keep (setSurf_keep h_s))

theorem hapFresh_keep {vv qq s p f} (h_s : Keep vv qq s) :
    Keep vv qq (State.hapFresh s p f) := by
  delta State.hapFresh
  exact setHapFeed_keep (setSurf_keep h_s)

theorem hapFill_keep {vv qq s p} (h_s : Keep vv qq s) :
    Keep vv qq (State.hapFill s p) := by
  delta State.hapFill
  extract_lets f_1 on_2
  exact Keep.ite h_s (by
      split
      · rename_i a6
        have h7 := KeepP.eq (v := vv) (q := qq) a6 (feedFill_keep h_s)
        split
        · rename_i a11
          have h12 := KeepP.eq (v := vv) (q := qq) a11 (feedEnds_keep h7)
          exact Keep.ite (hapFresh_keep h12) (setHapFeed_keep h12))

theorem hapTickPort_keep {vv qq s0 p} (h_s0 : Keep vv qq s0) :
    Keep vv qq (State.hapTickPort s0 p) := by
  delta State.hapTickPort
  extract_lets s_1 f_2 t_3 play_4 k_5 t_6
  have h_s_1 : Keep vv qq s_1 := by
      unfold s_1
      exact hapFill_keep h_s0
  have h_t_3 : Keep vv qq t_3 := by
      unfold t_3
      exact event_keep (raise_keep (count_keep h_s_1))
  have h_play_4 : ∀ y0, Keep vv qq (play_4 y0) := by
      intro x7
      unfold play_4
      split
      · exact hapDrive_keep (setHapFeed_keep h_t_3)
      · extract_lets t_15
        have h_t_15 : Keep vv qq t_15 := by
            unfold t_15
            exact hapDrive_keep (count_keep h_s_1)
        clear_value t_15
        split
        · rename_i a19
          have h20 := KeepP.eq (v := vv) (q := qq) a19 (feedEnds_keep h_t_15)
          exact setHapFeed_keep h20
  have h_t_6 : Keep vv qq t_6 := by
      unfold t_6
      exact hapDrive_keep h_s_1
  clear_value s_1 t_3 play_4 t_6
  exact Keep.ite (Keep.ite (h_play_4 _) (hapDrive_keep h_s_1)) (Keep.ite (Keep.ite (hapDrive_keep (setHapFeed_keep h_s_1)) (h_play_4 _)) (Keep.ite (Keep.ite (Keep.ite (setHapFeed_keep h_t_6) (hapFresh_keep h_t_6)) (setHapFeed_keep h_t_6)) (hapDrive_keep h_s_1)))

theorem idTake_keep {vv qq s p head ref a b} (h_s : Keep vv qq s) :
    Keep vv qq (State.idTake s p head ref a b) := by
  delta State.idTake
  extract_lets T_1 R_2 K_3 refOk_4 resD_5 resOk_6 newB_7 wear_8 cert_9
  split
  · rename_i a13
    have h14 := KeepR.eq (v := vv) (q := qq) a13 (draws_keep h_s)
    extract_lets u_15 s1_16 s2_17 s3_18 s4_19 s5_20
    have h_s1_16 : Keep vv qq s1_16 := by
        unfold s1_16
        exact setSurf_keep h14
    have h_s2_17 : Keep vv qq s2_17 := by
        unfold s2_17
        exact wr_keep (wr_keep (wr_keep h_s1_16))
    have h_s3_18 : Keep vv qq s3_18 := by
        unfold s3_18
        exact Keep.foldl h_s2_17 (fun t21 x22 h23 => wr_keep h23)
    have h_s4_19 : Keep vv qq s4_19 := by
        unfold s4_19
        exact Keep.foldl h_s3_18 (fun t24 x25 h26 => wr_keep h26)
    have h_s5_20 : Keep vv qq s5_20 := by
        unfold s5_20
        exact Keep.ite h_s4_19 (surfEvent_keep (raise_keep h_s4_19))
    clear_value s1_16 s2_17 s3_18 s4_19 s5_20
    exact Keep.ite h_s5_20 (surfEvent_keep (raise_keep (wr_keep h_s5_20)))

theorem stepDown_keep {vv qq s c} (h_s : Keep vv qq s) :
    Keep vv qq (State.stepDown s c) := by
  delta State.stepDown
  extract_lets p_1 s1_2 u_3 s2_4 s3_5 u_6
  have h_s1_2 : Keep vv qq s1_2 := by
      unfold s1_2
      exact slewNow_keep (count_keep (wr_keep h_s))
  have h_s2_4 : Keep vv qq s2_4 := by
      unfold s2_4
      exact Keep.ite h_s1_2 (raise_keep (count_keep (Keep.upd h_s1_2)))
  have h_s3_5 : Keep vv qq s3_5 := by
      unfold s3_5
      exact throttleShow_keep h_s2_4
  clear_value s1_2 s2_4 s3_5
  exact Keep.ite h_s3_5 (surfEvent_keep (Keep.upd h_s3_5))

theorem stepUp_keep {vv qq s} (h_s : Keep vv qq s) :
    Keep vv qq (State.stepUp s) := by
  delta State.stepUp
  split
  · exact throttleShow_keep (slewNow_keep (wr_keep h_s))
  · exact h_s

theorem surfDetach_keep {vv qq s0 p} (h_s0 : Keep vv qq s0) :
    Keep vv qq (State.surfDetach s0 p) := by
  delta State.surfDetach
  extract_lets u_1 s_2 st_3 s1_4 u_5 s2_6
  have h_s_2 : Keep vv qq s_2 := by
      unfold s_2
      exact wr_keep (Keep.upd h_s0)
  have h_s1_4 : Keep vv qq s1_4 := by
      unfold s1_4
      exact wr_keep (touchDetach_keep h_s_2)
  have h_s2_6 : Keep vv qq s2_6 := by
      unfold s2_6
      exact hvSync_keep (setSurf_keep h_s1_4)
  exact Keep.ite (Keep.ite (surfEvent_keep (raise_keep h_s_2)) h_s_2) (surfEvent_keep (raise_keep h_s2_6))

theorem throttleStep_keep {vv qq s mw vout temp pw} (h_s : Keep vv qq s) :
    Keep vv qq (State.throttleStep s mw vout temp pw) := by
  delta State.throttleStep
  extract_lets s0_1 e_2 u_3 s1_4 budget_5 die_6 lim_7 riseLim_8 s2_9 u_10 s3_11 fine_12 g_13 up_14 u_15 s4_16
  have h_s0_1 : Keep vv qq s0_1 := by
      unfold s0_1
      exact wr_keep (wr_keep (wr_keep h_s))
  have h_s1_4 : Keep vv qq s1_4 := by
      unfold s1_4
      exact count_keep (Keep.upd h_s0_1)
  have h_s2_9 : Keep vv qq s2_9 := by
      unfold s2_9
      exact Keep.ite (by
          split
          · exact stepDown_keep h_s1_4
          · exact h_s1_4) h_s1_4
  have h_s3_11 : Keep vv qq s3_11 := by
      unfold s3_11
      split
      · exact h_s2_9
      · extract_lets rises_25 t_26
        have h_t_26 : Keep vv qq t_26 := by
            unfold t_26
            exact Keep.upd h_s2_9
        clear_value t_26
        exact Keep.foldl h_t_26 (fun t27 x28 h29 => Keep.ite (stepDown_keep h29) h29)
  have h_s4_16 : Keep vv qq s4_16 := by
      unfold s4_16
      exact Keep.upd h_s3_11
  clear_value s0_1 s1_4 s2_9 s3_11 s4_16
  exact Keep.ite (stepUp_keep h_s4_16) h_s4_16

theorem wearStep_keep {vv qq s p n} (h_s : Keep vv qq s) :
    Keep vv qq (State.wearStep s p n) := by
  delta State.wearStep
  extract_lets k_1 hot_2 run_3 idle_4 add_5 c_6 s1_7
  have h_s1_7 : Keep vv qq s1_7 := by
      unfold s1_7
      exact setSurf_keep h_s
  clear_value s1_7
  exact Keep.ite (setSurf_keep h_s) (wearTell_keep (wr_keep h_s1_7))

theorem execAuthSignDone_keep {vv qq p sig s} (h_s : Keep vv qq s) :
    KeepN vv qq (execAuthSignDone p sig s) := by
  delta execAuthSignDone
  exact KeepN.next (authDone_keep h_s)

theorem execBoostClear_keep {vv qq w v s} (h_s : Keep vv qq s) :
    KeepN vv qq (execBoostClear w v s) := by
  delta execBoostClear
  exact KeepN.next (boostCtrl_keep h_s)

theorem execHaptCalStepDone_keep {vv qq p got s} (h_s : Keep vv qq s) :
    KeepN vv qq (execHaptCalStepDone p got s) := by
  delta execHaptCalStepDone
  exact KeepN.next (calStep_keep h_s)

theorem execHaptHvFault_keep {vv qq s} (h_s : Keep vv qq s) :
    KeepN vv qq (execHaptHvFault s) := by
  delta execHaptHvFault
  exact KeepN.next (Keep.ite h_s (by
      extract_lets s1_1
      have h_s1_1 : Keep vv qq s1_1 := by
          unfold s1_1
          exact hvSync_keep (raise_keep (count_keep (wr_keep h_s)))
      clear_value s1_1
      exact eventPage_keep (faultLine_keep h_s1_1)))

theorem execHaptOvercurrent_keep {vv qq p n s} (h_s : Keep vv qq s) :
    KeepN vv qq (execHaptOvercurrent p n s) := by
  delta execHaptOvercurrent
  extract_lets k_1 s1_2
  have h_s1_2 : Keep vv qq s1_2 := by
      unfold s1_2
      exact hvSync_keep (raise_keep (count_keep (wr_keep h_s)))
  clear_value s1_2
  exact KeepN.next (Keep.ite h_s (surfEvent_keep (faultLine_keep h_s1_2)))

theorem execHaptStreamEnable_keep {vv qq w p v s} (h_s : Keep vv qq s) :
    KeepN vv qq (execHaptStreamEnable w p v s) := by
  delta execHaptStreamEnable
  exact KeepN.next (streamCfg_keep h_s)

theorem execHaptThrottleStep_keep {vv qq mw vout temp pw s} (h_s : Keep vv qq s) :
    KeepN vv qq (execHaptThrottleStep mw vout temp pw s) := by
  delta execHaptThrottleStep
  exact KeepN.next (throttleStep_keep h_s)

theorem execHaptTick_keep {vv qq s} (h_s : Keep vv qq s) :
    KeepN vv qq (execHaptTick s) := by
  delta execHaptTick
  exact KeepN.next (Keep.foldl h_s (fun t1 x2 h3 => hapTickPort_keep h3))

theorem execHvClearOc_keep {vv qq w p v s} (h_s : Keep vv qq s) :
    KeepN vv qq (execHvClearOc w p v s) := by
  delta execHvClearOc
  exact KeepN.next (hvCtrl_keep h_s)

theorem execHvEnableWrite_keep {vv qq w p v s} (h_s : Keep vv qq s) :
    KeepN vv qq (execHvEnableWrite w p v s) := by
  delta execHvEnableWrite
  exact KeepN.next (hvCtrl_keep h_s)

theorem execPortPowerOff_keep {vv qq w p s} (h_s : Keep vv qq s) :
    KeepN vv qq (execPortPowerOff w p s) := by
  delta execPortPowerOff
  exact KeepN.next (portCtrl_keep h_s)

theorem execPortPowerOn_keep {vv qq w p s} (h_s : Keep vv qq s) :
    KeepN vv qq (execPortPowerOn w p s) := by
  delta execPortPowerOn
  exact KeepN.next (portCtrl_keep h_s)

theorem execResonanceCal_keep {vv qq p s} (h_s : Keep vv qq s) :
    KeepN vv qq (execResonanceCal p s) := by
  delta execResonanceCal
  extract_lets n_1 k_2
  exact KeepN.next (Keep.ite h_s (Keep.ite (hvSync_keep (count_keep (setSurf_keep h_s))) (calEnd_keep (Keep.foldl h_s (fun t3 x4 h5 => calFallback_keep (wr_keep h5))))))

theorem execSurfDetach_keep {vv qq p s} (h_s : Keep vv qq s) :
    KeepN vv qq (execSurfDetach p s) := by
  delta execSurfDetach
  exact KeepN.next (surfDetach_keep h_s)

theorem execSurfIdReadDone_keep {vv qq p got a b s} (h_s : Keep vv qq s) :
    KeepN vv qq (execSurfIdReadDone p got a b s) := by
  delta execSurfIdReadDone
  extract_lets k_1
  exact KeepN.next (Keep.ite h_s (by
      split
      · exact Keep.ite (idTake_keep h_s) (surfEvent_keep (raise_keep (wr_keep h_s)))
      · exact surfEvent_keep (raise_keep (wr_keep h_s))))

theorem execSurfInsert_keep {vv qq p s0} (h_s0 : Keep vv qq s0) :
    KeepN vv qq (execSurfInsert p s0) := by
  delta execSurfInsert
  extract_lets k_1 u_2 s_3 st_4
  have h_s_3 : Keep vv qq s_3 := by
      unfold s_3
      exact wr_keep (Keep.upd h_s0)
  exact KeepN.next (Keep.ite h_s_3 (surfEvent_keep (raise_keep (Keep.ite (wr_keep h_s_3) h_s_3))))

theorem execWearBlock_keep {vv qq s} (h_s : Keep vv qq s) :
    KeepN vv qq (execWearBlock s) := by
  delta execWearBlock
  exact KeepN.next (Keep.foldl h_s (fun t1 x2 h3 => Keep.ite (wearStep_keep h3) h3))

theorem execWearRecordWrite_keep {vv qq p ok s} (h_s : Keep vv qq s) :
    KeepN vv qq (execWearRecordWrite p ok s) := by
  delta execWearRecordWrite
  extract_lets n_1 k_2 seq_3 t_4 t_5 s1_6
  have h_t_4 : Keep vv qq t_4 := by
      unfold t_4
      exact count_keep (wr_keep (wr_keep h_s))
  have h_t_5 : Keep vv qq t_5 := by
      unfold t_5
      exact count_keep (wr_keep h_s)
  have h_s1_6 : Keep vv qq s1_6 := by
      unfold s1_6
      exact Keep.ite (setSurf_keep h_t_4) (Keep.ite (setSurf_keep h_t_5) (surfEvent_keep (raise_keep (setSurf_keep h_t_5))))
  clear_value t_4 t_5 s1_6
  exact KeepN.next (Keep.ite h_s (Keep.ite (portOff_keep h_s1_6) h_s1_6))

end Sys2Proof.Laws
end

