-- ==== Sys2Proof/Laws/KeepAudio.lean ====
section
/-! SUPPORT. The operations and commands of Machine/Audio.lean keep the variant, the queue and the canonical form of the memories. -/

set_option Elab.async false

namespace Sys2Proof.Laws

open Machine

theorem psetNext_keep {vv qq s} (h_s : Keep vv qq s) :
    Keep vv qq (State.psetNext s) := by
  delta State.psetNext
  exact wr_keep h_s

theorem psetAccess_keep {vv qq s w v} (h_s : Keep vv qq s) :
    Keep vv qq (State.psetAccess s w v) := by
  delta State.psetAccess
  extract_lets k_1
  split
  · split
    · rename_i a5
      have h6 := KeepC.eqBad (v := vv) (q := qq) a5 (reach_keep h_s)
      exact h6
    · rename_i a9
      have h10 := KeepC.eqGood (v := vv) (q := qq) a9 (reach_keep h_s)
      exact Keep.ite (refuse_keep h10) (okResp_keep (psetNext_keep h10))
  · exact onWrite_keep h_s (fun t13 h14 => Keep.ite (refuse_keep h14) (Keep.ite (refuse_keep h14) (psetNext_keep (Keep.upd h14))))

theorem ampPins_keep {vv qq s} (h_s : Keep vv qq s) :
    Keep vv qq (State.ampPins s) := by
  delta State.ampPins
  extract_lets up_1 u_2
  exact Keep.upd h_s

theorem framerSwitch_keep {vv qq s} (h_s : Keep vv qq s) :
    Keep vv qq (State.framerSwitch s) := by
  delta State.framerSwitch
  extract_lets pll_1 s1_2 u_3
  have h_s1_2 : Keep vv qq s1_2 := by
      unfold s1_2
      exact wrB_keep (wrB_keep (wrB_keep h_s))
  clear_value s1_2
  exact Keep.ite h_s1_2 (Keep.upd h_s1_2)

theorem audioCtrl_keep {vv qq s w v} (h_s : Keep vv qq s) :
    Keep vv qq (State.audioCtrl s w v) := by
  delta State.audioCtrl
  exact onWrite_keep h_s (fun t1 h2 => by
      extract_lets t1_3 u_4 t2_5
      have h_t1_3 : Keep vv qq t1_3 := by
          unfold t1_3
          exact wr_keep h2
      have h_u_4 : Keep vv qq u_4 := by
          unfold u_4
          exact softRegs_keep h_t1_3
      have h_t2_5 : Keep vv qq t2_5 := by
          unfold t2_5
          exact Keep.ite (Keep.upd h_u_4) h_t1_3
      clear_value t1_3 u_4 t2_5
      exact ampPins_keep (Keep.ite h_t2_5 (framerSwitch_keep h_t2_5)))

theorem takeGain_keep {vv qq s c} (h_s : Keep vv qq s) :
    Keep vv qq (State.takeGain s c) := by
  delta State.takeGain
  exact Keep.upd h_s

theorem safeloadShow_keep {vv qq s} (h_s : Keep vv qq s) :
    Keep vv qq (State.safeloadShow s) := by
  delta State.safeloadShow
  extract_lets s1_1
  have h_s1_1 : Keep vv qq s1_1 := by
      unfold s1_1
      exact wr_keep h_s
  clear_value s1_1
  exact Keep.ite (raise_keep (wr_keep h_s1_1)) h_s1_1

theorem safeload_keep {vv qq s} (h_s : Keep vv qq s) :
    Keep vv qq (State.safeload s) := by
  delta State.safeload
  extract_lets u_1 s1_2 chans_3 now_4 later_5 s2_6 u_7
  have h_s1_2 : Keep vv qq s1_2 := by
      unfold s1_2
      exact Keep.upd h_s
  have h_s2_6 : Keep vv qq s2_6 := by
      unfold s2_6
      exact Keep.foldl h_s1_2 (fun t8 x9 h10 => takeGain_keep h10)
  clear_value s1_2 s2_6
  exact safeloadShow_keep (count_keep (wr_keep (Keep.upd h_s2_6)))

theorem safeloadGo_keep {vv qq s w v} (h_s : Keep vv qq s) :
    Keep vv qq (State.safeloadGo s w v) := by
  delta State.safeloadGo
  exact onWrite_keep h_s (fun t1 h2 => Keep.ite h2 (Keep.ite (refuse_keep h2) (safeload_keep h2)))

theorem strmCfg_keep {vv qq s w v} (h_s : Keep vv qq s) :
    Keep vv qq (State.strmCfg s w v) := by
  delta State.strmCfg
  extract_lets k_1 r_2 inst_3
  exact onWrite_keep h_s (fun t4 h5 => by
      extract_lets others_6
      exact Keep.ite (refuse_keep h5) (Keep.ite (refuse_keep h5) (storeWord_keep h5)))

theorem ampSync_keep {vv qq s t} (h_s : Keep vv qq s) :
    Keep vv qq (State.ampSync s t) := by
  delta State.ampSync
  extract_lets now_1
  exact Keep.ite (ampPins_keep h_s) (raise_keep (ampPins_keep (wrB_keep h_s)))

theorem portEnable_keep {vv qq s w t v} (h_s : Keep vv qq s) :
    Keep vv qq (State.portEnable s w t v) := by
  delta State.portEnable
  extract_lets off_1
  exact onWrite_keep h_s (fun t2 h3 => Keep.ite (refuse_keep h3) (by
      extract_lets was_4 u1_5 u2_6
      have h_u1_5 : Keep vv qq u1_5 := by
          unfold u1_5
          exact storeWord_keep h3
      have h_u2_6 : Keep vv qq u2_6 := by
          unfold u2_6
          exact Keep.ite h_u1_5 (wr_keep (wr_keep (wrB_keep h_u1_5)))
      clear_value u1_5 u2_6
      exact ampSync_keep h_u2_6))

theorem portCfg_keep {vv qq s w t v} (h_s : Keep vv qq s) :
    Keep vv qq (State.portCfg s w t v) := by
  delta State.portCfg
  extract_lets off_1
  exact onWrite_keep h_s (fun t2 h3 => by
      extract_lets now_4
      exact Keep.ite (refuse_keep h3) (storeWord_keep h3))

theorem portStat_keep {vv qq s w t v} (h_s : Keep vv qq s) :
    Keep vv qq (State.portStat s w t v) := by
  delta State.portStat
  extract_lets off_1
  exact onWrite_keep h_s (fun t2 h3 => by
      extract_lets was_4 u1_5
      have h_u1_5 : Keep vv qq u1_5 := by
          unfold u1_5
          exact storeWord_keep h3
      clear_value u1_5
      exact Keep.ite (wr_keep h_u1_5) h_u1_5)

theorem silCfg_keep {vv qq s w t v} (h_s : Keep vv qq s) :
    Keep vv qq (State.silCfg s w t v) := by
  delta State.silCfg
  extract_lets off_1
  exact onWrite_keep h_s (fun t2 h3 => ampSync_keep (storeWord_keep h3))

theorem alarmSync_keep {vv qq s} (h_s : Keep vv qq s) :
    Keep vv qq (State.alarmSync s) := by
  delta State.alarmSync
  split
  · exact Keep.ite (Keep.upd h_s) h_s
  · exact h_s

theorem alarmStop_keep {vv qq s0} (h_s0 : Keep vv qq s0) :
    Keep vv qq (State.alarmStop s0) := by
  delta State.alarmStop
  extract_lets s_1 ramp_2 u_3
  have h_s_1 : Keep vv qq s_1 := by
      unfold s_1
      exact alarmSync_keep h_s0
  clear_value s_1
  exact wr_keep (Keep.upd h_s_1)

theorem alarmCtrl_keep {vv qq s w v} (h_s : Keep vv qq s) :
    Keep vv qq (State.alarmCtrl s w v) := by
  delta State.alarmCtrl
  exact onWrite_keep h_s (fun t1 h2 => by
      extract_lets u_3 was_4 t_5 k_6 t1_7 u_8 u_9
      have h_u_3 : Keep vv qq u_3 := by
          unfold u_3
          exact alarmSync_keep h2
      have h_t_5 : Keep vv qq t_5 := by
          unfold t_5
          exact storeWord_keep h_u_3
      have h_t1_7 : Keep vv qq t1_7 := by
          unfold t1_7
          exact Keep.upd h_t_5
      clear_value u_3 t_5 t1_7
      exact Keep.ite (ampSync_keep h_t1_7) (Keep.ite (alarmStop_keep h_t_5) (Keep.ite (alarmSync_keep (Keep.upd h_t_5)) h_t_5)))

theorem alarmFrame_keep {vv qq s0} (h_s0 : Keep vv qq s0) :
    Keep vv qq (State.alarmFrame s0) := by
  delta State.alarmFrame
  extract_lets s_1 set_2 a_3
  have h_s_1 : Keep vv qq s_1 := by
      unfold s_1
      exact alarmSync_keep h_s0
  have h_set_2 : ∀ y0 y1, Keep vv qq y0 → Keep vv qq (set_2 y0 y1) := by
      intro t4 x6 h5
      unfold set_2
      exact Keep.upd h5
  clear_value s_1 set_2
  exact Keep.ite (by
      split
      · rename_i a10
        have h11 := KeepR.eq (v := vv) (q := qq) a10 (draw_keep h_s_1)
        exact h_set_2 _ _ h11) (h_set_2 _ _ h_s_1)

theorem setStrm_keep {vv qq s k f} (h_s : Keep vv qq s) :
    Keep vv qq (State.setStrm s k f) := by
  delta State.setStrm
  extract_lets u_1 s1_2
  have h_s1_2 : Keep vv qq s1_2 := by
      unfold s1_2
      exact wr_keep (wr_keep (Keep.upd h_s))
  clear_value s1_2
  exact Keep.ite (Keep.foldl h_s1_2 (fun t3 x4 h5 => takeGain_keep h5)) h_s1_2

theorem strmFill_keep {vv qq s k} (h_s : Keep vv qq s) :
    Keep vv qq (State.strmFill s k) := by
  delta State.strmFill
  extract_lets f_1 on_2
  exact Keep.ite h_s (by
      split
      · rename_i a6
        have h7 := KeepP.eq (v := vv) (q := qq) a6 (feedFill_keep h_s)
        split
        · rename_i a11
          have h12 := KeepP.eq (v := vv) (q := qq) a11 (feedEnds_keep h7)
          exact setStrm_keep (count_keep h12))

theorem strmTick_keep {vv qq s0 k} (h_s0 : Keep vv qq s0) :
    KeepP vv qq (State.strmTick s0 k) := by
  delta State.strmTick
  extract_lets s_1 f_2 bypass_3 u_4 ramp_5 t_6
  have h_s_1 : Keep vv qq s_1 := by
      unfold s_1
      exact strmFill_keep h_s0
  have h_u_4 : ∀ y0 y1, Keep vv qq y0 → KeepR vv qq (u_4 y0 y1) := by
      intro t7 x9 h8
      unfold u_4
      exact KeepR.ite (KeepR.mk h8) (by
          split
          · rename_i a13
            have h14 := KeepR.eq (v := vv) (q := qq) a13 (draws_keep h8)
            exact KeepR.mk h14)
  have h_ramp_5 : ∀ y0 y1 y2, Keep vv qq y0 → KeepP vv qq (ramp_5 y0 y1 y2) := by
      intro t15 x17 x18 h16
      unfold ramp_5
      split
      · rename_i a22
        have h23 := KeepR.eq (v := vv) (q := qq) a22 (h_u_4 _ _ h16)
        exact KeepP.ite (KeepP.mk (setStrm_keep h23)) (KeepP.mk (setStrm_keep h23))
  have h_t_6 : Keep vv qq t_6 := by
      unfold t_6
      exact event_keep (raise_keep (count_keep h_s_1))
  clear_value s_1 u_4 ramp_5 t_6
  exact KeepP.ite (h_ramp_5 _ _ _ h_s_1) (KeepP.ite (by
      split
      · split
        · split
          · rename_i a36
            have h37 := KeepP.eq (v := vv) (q := qq) a36 (feedEnds_keep h_s_1)
            exact KeepP.ite (h_ramp_5 _ _ _ h37) (by
                split
                · rename_i a41
                  have h42 := KeepR.eq (v := vv) (q := qq) a41 (h_u_4 _ _ h37)
                  exact KeepP.mk (setStrm_keep h42))
        · exact KeepP.ite (h_ramp_5 _ _ _ h_s_1) (h_ramp_5 _ _ _ h_t_6)) (KeepP.mk h_s_1))

theorem gainStep_keep {vv qq s c v} (h_s : Keep vv qq s) :
    Keep vv qq (State.gainStep s c v) := by
  delta State.gainStep
  extract_lets p_1 u_2 s1_3
  have h_s1_3 : Keep vv qq s1_3 := by
      unfold s1_3
      exact Keep.upd h_s
  exact Keep.ite (takeGain_keep h_s1_3) h_s1_3

theorem mixIn_keep {vv qq m c bus v} (h_m : KeepM vv qq m) :
    KeepM vv qq (mixIn m c bus v) := by
  delta mixIn
  extract_lets s_1
  have h_s_1 : Keep vv qq s_1 := by
      unfold s_1
      exact gainStep_keep (KeepM.st h_m)
  clear_value s_1
  split
  · exact KeepM.mk h_s_1

theorem mixSources_keep {vv qq s inp} (h_s : Keep vv qq s) :
    KeepM vv qq (State.mixSources s inp) := by
  delta State.mixSources
  extract_lets m1_1
  have h_m1_1 : KeepM vv qq m1_1 := by
      unfold m1_1
      exact KeepM.foldl (KeepM.mk h_s) (fun t2 x3 h4 => by
          split
          · rename_i a8
            have h9 := KeepP.eq (v := vv) (q := qq) a8 (strmTick_keep (KeepM.st h4))
            extract_lets m1_10
            have h_m1_10 : KeepM vv qq m1_10 := by
                unfold m1_10
                exact KeepM.mk h9
            clear_value m1_10
            exact KeepM.foldl h_m1_10 (fun t11 x12 h13 => mixIn_keep h13))
  clear_value m1_1
  exact KeepM.foldl h_m1_1 (fun t14 x15 h16 => by
      extract_lets t_17 src_18 on_19
      exact KeepM.ite (mixIn_keep h16) (KeepM.ite (mixIn_keep h16) (by
          split
          · rename_i a23
            have h24 := KeepR.eq (v := vv) (q := qq) a23 (draw_keep (KeepM.st h16))
            exact mixIn_keep (KeepM.mk h24))))

theorem limStep_keep {vv qq s slot thr look} (h_s : Keep vv qq s) :
    KeepR vv qq (State.limStep s slot thr look) := by
  delta State.limStep
  extract_lets peak_1 L_2 bound_3 r_4
  exact KeepR.ite (KeepR.mk h_s) (by
      split
      · rename_i a8
        have h9 := KeepR.eq (v := vv) (q := qq) a8 (draw_keep h_s)
        extract_lets x_10 u_11
        exact KeepR.mk (Keep.upd h9))

theorem slotOut_keep {vv qq s slot v} (h_s : Keep vv qq s) :
    KeepP vv qq (State.slotOut s slot v) := by
  delta State.slotOut
  extract_lets w_1 old_2 thr_3 look_4 x_5 u_6 s1_7
  have h_s1_7 : Keep vv qq s1_7 := by
      unfold s1_7
      exact Keep.upd h_s
  clear_value s1_7
  exact KeepP.ite (by
      split
      · rename_i a11
        have h12 := KeepR.eq (v := vv) (q := qq) a11 (limStep_keep h_s)
        split
        · extract_lets u_17 s2_18
          have h_s2_18 : Keep vv qq s2_18 := by
              unfold s2_18
              exact Keep.upd h12
          clear_value s2_18
          exact KeepP.mk (Keep.ite (count_keep h_s2_18) h_s2_18)) (by
      split
      · exact KeepP.mk (Keep.ite (count_keep h_s1_7) h_s1_7))

theorem outSlot_keep {vv qq s bus n} (h_s : Keep vv qq s) :
    Keep vv qq (State.outSlot s bus n) := by
  delta State.outSlot
  extract_lets t_1 w_2 put_3 masked_4
  have h_put_3 : ∀ y0 y1, Keep vv qq y0 → Keep vv qq (put_3 y0 y1) := by
      intro t5 x7 h6
      unfold put_3
      exact Keep.upd h6
  clear_value put_3
  exact Keep.ite h_s (Keep.ite (h_put_3 _ _ h_s) (by
      split
      · rename_i a11
        have h12 := KeepP.eq (v := vv) (q := qq) a11 (slotOut_keep h_s)
        exact Keep.ite (h_put_3 _ _ h12) (by
            extract_lets u_13 u1_14
            have h_u1_14 : Keep vv qq u1_14 := by
                unfold u1_14
                exact Keep.ite h12 (Keep.upd h12)
            clear_value u1_14
            exact Keep.ite (h_put_3 _ _ h_u1_14) (by
                split
                · rename_i a18
                  have h19 := KeepR.eq (v := vv) (q := qq) a18 (draw_keep h_u1_14)
                  exact h_put_3 _ _ h19))))

theorem audioTick_keep {vv qq s0 inp} (h_s0 : Keep vv qq s0) :
    Keep vv qq (State.audioTick s0 inp) := by
  delta State.audioTick
  extract_lets s_1 m_2
  have h_s_1 : Keep vv qq s_1 := by
      unfold s_1
      exact alarmFrame_keep h_s0
  have h_m_2 : KeepM vv qq m_2 := by
      unfold m_2
      exact mixSources_keep h_s_1
  clear_value s_1 m_2
  exact Keep.ite h_s_1 (by
      split
      · rename_i a7
        have h8 := KeepP.eq (v := vv) (q := qq) a7 (KeepP.foldl (KeepP.mk (KeepM.st h_m_2)) (fun t9 x10 h11 => by
            split
            · have h16 := KeepP.eq (v := vv) (q := qq) rfl h11
              extract_lets a_17 t1_18
              have h_t1_18 : Keep vv qq t1_18 := by
                  unfold t1_18
                  exact gainStep_keep h16
              clear_value t1_18
              split
              · have h23 := KeepP.eq (v := vv) (q := qq) rfl h11
                exact KeepP.mk h_t1_18))
        extract_lets s2_24 u_25 s3_26 s4_27 s5_28
        have h_s2_24 : Keep vv qq s2_24 := by
            unfold s2_24
            exact Keep.foldl h8 (fun t29 x30 h31 => outSlot_keep h31)
        have h_s3_26 : Keep vv qq s3_26 := by
            unfold s3_26
            exact Keep.upd h_s2_24
        have h_s4_27 : Keep vv qq s4_27 := by
            unfold s4_27
            exact Keep.ite h_s3_26 (raise_keep (count_keep h_s3_26))
        have h_s5_28 : Keep vv qq s5_28 := by
            unfold s5_28
            exact Keep.foldl h_s4_27 (fun t32 x33 h34 => ampSync_keep h34)
        clear_value s2_24 s3_26 s4_27 s5_28
        exact safeloadShow_keep (count_keep h_s5_28))

theorem execAlarmAmpRelease_keep {vv qq s} (h_s : Keep vv qq s) :
    KeepN vv qq (execAlarmAmpRelease s) := by
  delta execAlarmAmpRelease
  exact KeepN.next (Keep.ite h_s (ampSync_keep (Keep.upd h_s)))

theorem execAlarmEnd_keep {vv qq s} (h_s : Keep vv qq s) :
    KeepN vv qq (execAlarmEnd s) := by
  delta execAlarmEnd
  exact KeepN.next (by
      extract_lets u_1 t_2 u_3
      have h_u_1 : Keep vv qq u_1 := by
          unfold u_1
          exact alarmSync_keep h_s
      have h_t_2 : Keep vv qq t_2 := by
          unfold t_2
          exact alarmStop_keep h_u_1
      clear_value u_1 t_2
      exact Keep.ite (Keep.upd h_t_2) h_u_1)

theorem execAlarmPatternWrite_keep {vv qq w pattern s} (h_s : Keep vv qq s) :
    KeepN vv qq (execAlarmPatternWrite w pattern s) := by
  delta execAlarmPatternWrite
  exact KeepN.next (alarmCtrl_keep h_s)

theorem execAlarmRun_keep {vv qq w pattern run s} (h_s : Keep vv qq s) :
    KeepN vv qq (execAlarmRun w pattern run s) := by
  delta execAlarmRun
  exact KeepN.next (alarmCtrl_keep h_s)

theorem execAsrcLock_keep {vv qq t hz s} (h_s : Keep vv qq s) :
    KeepN vv qq (execAsrcLock t hz s) := by
  delta execAsrcLock
  extract_lets k_1 s1_2
  have h_s1_2 : Keep vv qq s1_2 := by
      unfold s1_2
      exact wr_keep h_s
  clear_value s1_2
  exact KeepN.next (Keep.ite h_s (Keep.ite (wr_keep h_s1_2) h_s1_2))

theorem execAsrcRelock_keep {vv qq t s} (h_s : Keep vv qq s) :
    KeepN vv qq (execAsrcRelock t s) := by
  delta execAsrcRelock
  extract_lets k_1
  exact KeepN.next (Keep.ite h_s (raise_keep (count_keep (wr_keep h_s))))

theorem execAudMclkGlitch_keep {vv qq t s} (h_s : Keep vv qq s) :
    KeepN vv qq (execAudMclkGlitch t s) := by
  delta execAudMclkGlitch
  extract_lets k_1
  exact KeepN.next (Keep.ite h_s (recErr_keep (raise_keep (count_keep h_s))))

theorem execAudMclkLost_keep {vv qq t s} (h_s : Keep vv qq s) :
    KeepN vv qq (execAudMclkLost t s) := by
  delta execAudMclkLost
  extract_lets k_1 s1_2 u_3
  have h_s1_2 : Keep vv qq s1_2 := by
      unfold s1_2
      exact raise_keep (count_keep (wr_keep (wr_keep h_s)))
  clear_value s1_2
  exact KeepN.next (Keep.ite h_s (eventPage_keep (Keep.upd h_s1_2)))

theorem execAudioStreamEnable_keep {vv qq w v s} (h_s : Keep vv qq s) :
    KeepN vv qq (execAudioStreamEnable w v s) := by
  delta execAudioStreamEnable
  exact KeepN.next (strmCfg_keep h_s)

theorem execAudioTick_keep {vv qq inp s} (h_s : Keep vv qq s) :
    KeepN vv qq (execAudioTick inp s) := by
  delta execAudioTick
  exact KeepN.next (audioTick_keep h_s)

theorem execClkLostClear_keep {vv qq w t s} (h_s : Keep vv qq s) :
    KeepN vv qq (execClkLostClear w t s) := by
  delta execClkLostClear
  exact KeepN.next (portStat_keep h_s)

theorem execDescriptorFetch_keep {vv qq r s} (h_s : Keep vv qq s) :
    KeepN vv qq (execDescriptorFetch r s) := by
  delta execDescriptorFetch
  extract_lets t_1 t1_2
  have h_t_1 : Keep vv qq t_1 := by
      unfold t_1
      exact descFetch_keep h_s
  have h_t1_2 : Keep vv qq t1_2 := by
      unfold t1_2
      exact Keep.foldl h_t_1 (fun t3 x4 h5 => Keep.ite (hapFill_keep h5) h5)
  clear_value t_1 t1_2
  exact KeepN.next (Keep.foldl h_t1_2 (fun t6 x7 h8 => Keep.ite (strmFill_keep h8) h8))

theorem execFramerClockSwitch_keep {vv qq s} (h_s : Keep vv qq s) :
    KeepN vv qq (execFramerClockSwitch s) := by
  delta execFramerClockSwitch
  exact KeepN.next (framerSwitch_keep h_s)

theorem execGainTimeout_keep {vv qq c s} (h_s : Keep vv qq s) :
    KeepN vv qq (execGainTimeout c s) := by
  delta execGainTimeout
  exact KeepN.next (Keep.ite (safeloadShow_keep (count_keep (takeGain_keep h_s))) h_s)

theorem execMclkReturn_keep {vv qq t s} (h_s : Keep vv qq s) :
    KeepN vv qq (execMclkReturn t s) := by
  delta execMclkReturn
  extract_lets k_1 s1_2 u_3
  have h_s1_2 : Keep vv qq s1_2 := by
      unfold s1_2
      exact wr_keep h_s
  clear_value s1_2
  exact KeepN.next (Keep.ite h_s (Keep.upd h_s1_2))

theorem execPsetDataAccess_keep {vv qq w v s} (h_s : Keep vv qq s) :
    KeepN vv qq (execPsetDataAccess w v s) := by
  delta execPsetDataAccess
  exact KeepN.next (psetAccess_keep h_s)

theorem execSafeloadGo_keep {vv qq w s} (h_s : Keep vv qq s) :
    KeepN vv qq (execSafeloadGo w s) := by
  delta execSafeloadGo
  exact KeepN.next (safeloadGo_keep h_s)

theorem execSilenceHoldExpiry_keep {vv qq t s} (h_s : Keep vv qq s) :
    KeepN vv qq (execSilenceHoldExpiry t s) := by
  delta execSilenceHoldExpiry
  exact KeepN.next (Keep.ite h_s (ampSync_keep (Keep.upd h_s)))

end Sys2Proof.Laws
end

