-- ==== Sys2Proof/Laws/KeepPins.lean ====
section
/-! SUPPORT. The operations and commands of Machine/Pins.lean keep the variant, the queue and the canonical form of the memories. -/

set_option Elab.async false

namespace Sys2Proof.Laws

open Machine

theorem ctlReset_keep {vv qq s c} (h_s : Keep vv qq s) :
    Keep vv qq (State.ctlReset s c) := by
  delta State.ctlReset
  exact Keep.upd h_s

theorem pinClear_keep {vv qq s i} (h_s : Keep vv qq s) :
    Keep vv qq (State.pinClear s i) := by
  delta State.pinClear
  exact Keep.ite (by
      extract_lets s1_1
      have h_s1_1 : Keep vv qq s1_1 := by
          unfold s1_1
          split
          · exact ctlReset_keep h_s
          · exact h_s
      clear_value s1_1
      exact Keep.upd h_s1_1) (Keep.ite (by
      extract_lets e_7 a_8 b_9 s1_10
      have h_s1_10 : Keep vv qq s1_10 := by
          unfold s1_10
          exact Keep.upd h_s
      clear_value s1_10
      exact wr_keep (wr_keep (wr_keep h_s1_10))) (by
      extract_lets k_11 l_12
      exact wr_keep (Keep.upd h_s)))

theorem pinChange_keep {vv qq s i o} (h_s : Keep vv qq s) :
    Keep vv qq (State.pinChange s i o) := by
  delta State.pinChange
  exact Keep.ite h_s (wr_keep (pinClear_keep h_s))

theorem pinsReturn_keep {vv qq s o o'} (h_s : Keep vv qq s) :
    Keep vv qq (State.pinsReturn s o o') := by
  delta State.pinsReturn
  exact Keep.foldl h_s (fun t1 x2 h3 => Keep.ite (pinChange_keep h3) h3)

theorem pinWrite_keep {vv qq s w b off v k} (h_s : Keep vv qq s) (h_k : ∀ y0, Keep vv qq y0 → Keep vv qq (k y0)) :
    Keep vv qq (State.pinWrite s w b off v k) := by
  delta State.pinWrite
  split
  · rename_i a3
    have h4 := KeepC.eqBad (v := vv) (q := qq) a3 (checkWrite_keep h_s)
    exact h4
  · rename_i a7
    have h8 := KeepC.eqGood (v := vv) (q := qq) a7 (checkWrite_keep h_s)
    exact Keep.ite (h_k _ h8) (refuse_keep h_s)

end Sys2Proof.Laws
end

