-- ==== Sys2Proof/Laws/KeepDram.lean ====
section
/-! SUPPORT. The operations and commands of Machine/Dram.lean keep the variant, the queue and the canonical form of the memories. -/

set_option Elab.async false

namespace Sys2Proof.Laws

open Machine

theorem spareTrigger_keep {vv qq s n l cause rid} (h_s : Keep vv qq s) :
    Keep vv qq (State.spareTrigger s n l cause rid) := by
  delta State.spareTrigger
  split
  · exact raise_keep (recErr_keep h_s)
  · exact Keep.ite (recErr_keep (wr_keep (Keep.upd h_s))) (by
        extract_lets u_6 s1_7
        have h_s1_7 : Keep vv qq s1_7 := by
            unfold s1_7
            exact Keep.upd h_s
        clear_value s1_7
        exact raise_keep (wr_keep (wr_keep (wr_keep (wr_keep h_s1_7)))))

theorem startDeferred_keep {vv qq s} (h_s : Keep vv qq s) :
    Keep vv qq (State.startDeferred s) := by
  delta State.startDeferred
  exact Keep.foldl h_s (fun t1 x2 h3 => by
      extract_lets d_4 u_5
      exact Keep.ite h3 (spareTrigger_keep (Keep.upd h3)))

theorem spareStart_keep {vv qq s w n rank} (h_s : Keep vv qq s) :
    Keep vv qq (State.spareStart s w n rank) := by
  delta State.spareStart
  extract_lets t_1
  have h_t_1 : Keep vv qq t_1 := by
      unfold t_1
      exact spareTrigger_keep h_s
  clear_value t_1
  exact Keep.ite (errResp_keep h_t_1) h_t_1

theorem spareDrop_keep {vv qq s n} (h_s : Keep vv qq s) :
    Keep vv qq (State.spareDrop s n) := by
  delta State.spareDrop
  exact wr_keep (Keep.ite (count_keep h_s) h_s)

theorem spareCancel_keep {vv qq s n} (h_s : Keep vv qq s) :
    Keep vv qq (State.spareCancel s n) := by
  delta State.spareCancel
  exact Keep.ite (spareDrop_keep h_s) h_s

theorem admitPort_keep {vv qq s w off p cls rate store} (h_s : Keep vv qq s) (h_store : ∀ y0, Keep vv qq y0 → Keep vv qq (store y0)) :
    Keep vv qq (State.admitPort s w off p cls rate store) := by
  delta State.admitPort
  extract_lets old_1 new_2 s1_3 u_4
  have h_s1_3 : Keep vv qq s1_3 := by
      unfold s1_3
      exact wr_keep (h_store _ (bucketSettle_keep h_s))
  clear_value s1_3
  exact Keep.ite (raise_keep (refuse_keep h_s)) (Keep.ite (wr_keep (Keep.upd h_s1_3)) (Keep.ite (wr_keep h_s1_3) h_s1_3))

theorem portWrite_keep {vv qq s w off v} (h_s : Keep vv qq s) :
    Keep vv qq (State.portWrite s w off v) := by
  delta State.portWrite
  extract_lets p_1
  exact Keep.ite (Keep.ite (refuse_keep h_s) (admitPort_keep h_s (fun t2 h3 => storeWord_keep h3))) (admitPort_keep h_s (fun t4 h5 => storeWord_keep h5))

theorem effWrite_keep {vv qq s w v} (h_s : Keep vv qq s) :
    Keep vv qq (State.effWrite s w v) := by
  delta State.effWrite
  extract_lets eff_1
  exact Keep.ite (refuse_keep h_s) (Keep.ite (raise_keep (refuse_keep h_s)) (wr_keep (wr_keep h_s)))

theorem markBroken_keep {vv qq s r v} (h_s : Keep vv qq s) :
    Keep vv qq (State.markBroken s r v) := by
  delta State.markBroken
  exact Keep.ite (wr_keep (wrB_keep h_s)) (wr_keep (wrB_keep h_s))

theorem breakOne_keep {vv qq s short r} (h_s : Keep vv qq s) :
    Keep vv qq (State.breakOne s short r) := by
  delta State.breakOne
  extract_lets s1_1 u_2 s2_3
  have h_s1_1 : Keep vv qq s1_1 := by
      unfold s1_1
      exact raise_keep (markBroken_keep h_s)
  have h_s2_3 : Keep vv qq s2_3 := by
      unfold s2_3
      exact Keep.upd h_s1_1
  clear_value s1_1 s2_3
  exact Keep.ite (event_keep h_s2_3) (event_keep h_s2_3)

theorem dramAccept_keep {vv qq s r} (h_s : Keep vv qq s) :
    Keep vv qq (State.dramAccept s r) := by
  delta State.dramAccept
  extract_lets c_1 u_2 u_3
  have h_c_1 : KeepR vv qq c_1 := by
      unfold c_1
      exact classify_keep h_s
  have h_u_2 : Keep vv qq u_2 := by
      unfold u_2
      exact KeepR.snd h_c_1
  clear_value c_1 u_2
  exact Keep.upd h_u_2

theorem spareFail_keep {vv qq s n} (h_s : Keep vv qq s) :
    Keep vv qq (State.spareFail s n) := by
  delta State.spareFail
  exact recErr_keep (wr_keep (spareDrop_keep h_s))

theorem rankBad_keep {vv qq s n p cause} (h_s : Keep vv qq s) :
    Keep vv qq (State.rankBad s n p cause) := by
  delta State.rankBad
  exact Keep.ite (spareFail_keep h_s) (by
      split
      · exact Keep.ite h_s (Keep.ite (spareTrigger_keep h_s) h_s)
      · exact h_s)

theorem rankCorrected_keep {vv qq s n p} (h_s : Keep vv qq s) :
    Keep vv qq (State.rankCorrected s n p) := by
  delta State.rankCorrected
  extract_lets l_1 u_2 s1_3 s2_4 lim_5
  have h_s1_3 : Keep vv qq s1_3 := by
      unfold s1_3
      exact wr_keep (Keep.upd h_s)
  have h_s2_4 : Keep vv qq s2_4 := by
      unfold s2_4
      exact raise_keep (count_keep (recErr_keep h_s1_3))
  clear_value s1_3 s2_4
  exact Keep.ite (rankBad_keep h_s2_4) h_s2_4

theorem poisonLine_keep {vv qq s line} (h_s : Keep vv qq s) :
    Keep vv qq (State.poisonLine s line) := by
  delta State.poisonLine
  exact Keep.upd h_s

theorem rankUncorrectable_keep {vv qq s n p rid pa} (h_s : Keep vv qq s) :
    Keep vv qq (State.rankUncorrectable s n p rid pa) := by
  delta State.rankUncorrectable
  extract_lets s1_1
  have h_s1_1 : Keep vv qq s1_1 := by
      unfold s1_1
      exact raise_keep (count_keep (recErr_keep h_s))
  clear_value s1_1
  exact rankBad_keep h_s1_1

theorem lineRead_keep {vv qq s n pa rid find} (h_s : Keep vv qq s) :
    KeepP vv qq (State.lineRead s n pa rid find) := by
  delta State.lineRead
  exact KeepP.ite (KeepP.mk (count_keep (recErr_keep h_s))) (by
      split
      · exact KeepP.mk h_s
      · exact KeepP.mk (rankCorrected_keep h_s)
      · exact KeepP.mk (poisonLine_keep (rankUncorrectable_keep h_s)))

theorem dramIssue_keep {vv qq s w find} (h_s : Keep vv qq s) :
    Keep vv qq (State.dramIssue s w find) := by
  delta State.dramIssue
  extract_lets r_1 pa_2 n_3 port_4 s1_5
  have h_s1_5 : Keep vv qq s1_5 := by
      unfold s1_5
      exact Keep.ite (count_keep h_s) h_s
  clear_value s1_5
  exact Keep.ite (errResp_keep (count_keep h_s1_5)) (Keep.ite (by
      split
      · rename_i a8
        have h9 := KeepP.eq (v := vv) (q := qq) a8 (lineRead_keep (lineGo_keep h_s1_5))
        exact okResp_keep h9
      · rename_i a12
        have h13 := KeepP.eq (v := vv) (q := qq) a12 (lineRead_keep (lineGo_keep h_s1_5))
        exact errResp_keep h13) (Keep.ite (okResp_keep (lineGo_keep (store_keep h_s1_5))) (by
      split
      · rename_i a16
        have h17 := KeepP.eq (v := vv) (q := qq) a16 (lineRead_keep (lineGo_keep h_s1_5))
        extract_lets u_18
        have h_u_18 : Keep vv qq u_18 := by
            unfold u_18
            exact wrBytes_keep h17
        clear_value u_18
        exact okResp_keep (lineGo_keep h_u_18)
      · rename_i a21
        have h22 := KeepP.eq (v := vv) (q := qq) a21 (lineRead_keep (lineGo_keep h_s1_5))
        exact errResp_keep h22)))

theorem dramSlot_keep {vv qq s n blocked find} (h_s : Keep vv qq s) :
    Keep vv qq (State.dramSlot s n blocked find) := by
  delta State.dramSlot
  exact Keep.ite h_s (by
      extract_lets u_1 s1_2 u_3
      have h_s1_2 : Keep vv qq s1_2 := by
          unfold s1_2
          exact Keep.upd h_s
      clear_value s1_2
      split
      · exact dramIssue_keep (Keep.upd h_s1_2)
      · exact h_s1_2)

theorem restoreOne_keep {vv qq s r} (h_s : Keep vv qq s) :
    Keep vv qq (State.restoreOne s r) := by
  delta State.restoreOne
  extract_lets s1_1
  have h_s1_1 : Keep vv qq s1_1 := by
      unfold s1_1
      exact raise_keep (markBroken_keep h_s)
  clear_value s1_1
  exact Keep.ite (event_keep h_s1_1) (event_keep h_s1_1)

theorem qosWindow_keep {vv qq s slots} (h_s : Keep vv qq s) :
    Keep vv qq (State.qosWindow s slots) := by
  delta State.qosWindow
  extract_lets cap_1 all_2 live_3 demand_4 short_5 brk_6 u_7 t_8 t_9 u_10 s1_11 u_12
  have h_t_8 : Keep vv qq t_8 := by
      unfold t_8
      exact Keep.foldl (Keep.upd h_s) (fun t13 x14 h15 => breakOne_keep h15)
  have h_t_9 : Keep vv qq t_9 := by
      unfold t_9
      exact Keep.foldl h_s (fun t16 x17 h18 => restoreOne_keep h18)
  have h_s1_11 : Keep vv qq s1_11 := by
      unfold s1_11
      exact Keep.ite (Keep.ite h_t_8 (count_keep (wr_keep h_t_8))) (Keep.ite (Keep.upd h_s) (Keep.ite h_s (Keep.ite (Keep.upd h_s) (Keep.upd h_t_9))))
  clear_value t_8 t_9 s1_11
  exact Keep.upd h_s1_11

theorem rankSwitch_keep {vv qq s n} (h_s : Keep vv qq s) :
    Keep vv qq (State.rankSwitch s n) := by
  delta State.rankSwitch
  exact Keep.ite (by
      extract_lets l_1 m_2 u_3
      exact raise_keep (wr_keep (wr_keep (wr_keep h_s)))) h_s

theorem rowsClose_keep {vv qq s n} (h_s : Keep vv qq s) :
    Keep vv qq (State.rowsClose s n) := by
  delta State.rowsClose
  exact Keep.upd h_s

theorem replay_keep {vv qq s n l} (h_s : Keep vv qq s) :
    Keep vv qq (State.replay s n l) := by
  delta State.replay
  exact Keep.foldl (issueCmd_keep (rowsClose_keep h_s)) (fun t1 x2 h3 => issueCmd_keep h3)

theorem testAccess_keep {vv qq s n rank write} (h_s : Keep vv qq s) :
    Keep vv qq (State.testAccess s n rank write) := by
  delta State.testAccess
  extract_lets s1_1 s2_2
  have h_s1_1 : Keep vv qq s1_1 := by
      unfold s1_1
      exact KeepR.snd (classify_keep h_s)
  have h_s2_2 : Keep vv qq s2_2 := by
      unfold s2_2
      exact count_keep (count_keep (count_keep h_s1_1))
  clear_value s1_1 s2_2
  exact issueCmd_keep (issueCmd_keep h_s2_2)

theorem execAdmitEffWrite_keep {vv qq w v s} (h_s : Keep vv qq s) :
    KeepN vv qq (execAdmitEffWrite w v s) := by
  delta execAdmitEffWrite
  exact KeepN.next (onWrite_keep h_s (fun t1 h2 => effWrite_keep h2))

theorem execCaReplay_keep {vv qq n late s} (h_s : Keep vv qq s) :
    KeepN vv qq (execCaReplay n late s) := by
  delta execCaReplay
  extract_lets k_1 l_2 s1_3 done_4 c_5 r_6 u_7 s2_8 u_9
  have h_s1_3 : Keep vv qq s1_3 := by
      unfold s1_3
      exact raise_keep (recErr_keep (count_keep (count_keep (replay_keep h_s))))
  have h_s2_8 : Keep vv qq s2_8 := by
      unfold s2_8
      exact Keep.upd h_s1_3
  clear_value s1_3 s2_8
  exact KeepN.next (Keep.ite (faultLine_keep (raise_keep (recErr_keep (wr_keep h_s2_8)))) (Keep.ite (raise_keep (recErr_keep (Keep.upd h_s2_8))) h_s2_8))

theorem execCaRetrainDone_keep {vv qq n s} (h_s : Keep vv qq s) :
    KeepN vv qq (execCaRetrainDone n s) := by
  delta execCaRetrainDone
  exact KeepN.next (Keep.ite (Keep.upd h_s) h_s)

theorem execDramRefresh_keep {vv qq n s} (h_s : Keep vv qq s) :
    KeepN vv qq (execDramRefresh n s) := by
  delta execDramRefresh
  extract_lets s1_1 s2_2 s3_3 want_4
  have h_s1_1 : Keep vv qq s1_1 := by
      unfold s1_1
      exact count_keep h_s
  have h_s2_2 : Keep vv qq s2_2 := by
      unfold s2_2
      exact Keep.ite (count_keep h_s1_1) h_s1_1
  have h_s3_3 : Keep vv qq s3_3 := by
      unfold s3_3
      exact rankSwitch_keep (rowsClose_keep (issueCmd_keep h_s2_2))
  clear_value s1_1 s2_2 s3_3
  exact KeepN.next (Keep.ite (Keep.foldl h_s3_3 (fun t5 x6 h7 => raise_keep (wrB_keep h7))) h_s3_3)

theorem execDramRequest_keep {vv qq n arrive blocked find s} (h_s : Keep vv qq s) :
    KeepN vv qq (execDramRequest n arrive blocked find s) := by
  delta execDramRequest
  exact KeepN.next (dramSlot_keep (Keep.foldl h_s (fun t1 x2 h3 => dramAccept_keep h3)))

theorem execLivenessTest_keep {vv qq mismatch latencyNs s} (h_s : Keep vv qq s) :
    KeepN vv qq (execLivenessTest mismatch latencyNs s) := by
  delta execLivenessTest
  extract_lets ranks_1 s1_2 bad_3 u_4 s2_5
  have h_s1_2 : Keep vv qq s1_2 := by
      unfold s1_2
      exact Keep.foldl h_s (fun t6 x7 h8 => testAccess_keep (testAccess_keep h8))
  have h_s2_5 : Keep vv qq s2_5 := by
      unfold s2_5
      exact Keep.upd h_s1_2
  clear_value s1_2 s2_5
  exact KeepN.next (Keep.ite (faultLine_keep h_s2_5) h_s2_5)

theorem execMr4Poll_keep {vv qq temps s} (h_s : Keep vv qq s) :
    KeepN vv qq (execMr4Poll temps s) := by
  delta execMr4Poll
  extract_lets t_1 s1_2 s2_3 hot_4 u_5 c_6
  have h_s1_2 : Keep vv qq s1_2 := by
      unfold s1_2
      exact Keep.foldl h_s (fun t7 x8 h9 => wr_keep h9)
  have h_s2_3 : Keep vv qq s2_3 := by
      unfold s2_3
      exact Keep.foldl h_s1_2 (fun t10 x11 h12 => Keep.ite (raise_keep (recErr_keep h12)) h12)
  clear_value s1_2 s2_3
  exact KeepN.next (Keep.ite (Keep.upd h_s2_3) (Keep.upd h_s2_3))

theorem execPortReservationWrite_keep {vv qq w rate v s} (h_s : Keep vv qq s) :
    KeepN vv qq (execPortReservationWrite w rate v s) := by
  delta execPortReservationWrite
  extract_lets off_1
  exact KeepN.next (onWrite_keep h_s (fun t2 h3 => portWrite_keep h3))

theorem execQosWindow_keep {vv qq slots s} (h_s : Keep vv qq s) :
    KeepN vv qq (execQosWindow slots s) := by
  delta execQosWindow
  exact KeepN.next (qosWindow_keep h_s)

theorem execSpareCancel_keep {vv qq w n s} (h_s : Keep vv qq s) :
    KeepN vv qq (execSpareCancel w n s) := by
  delta execSpareCancel
  exact KeepN.next (onWrite_keep h_s (fun t1 h2 => spareCancel_keep h2))

theorem execSpareCopyDone_keep {vv qq n bad s} (h_s : Keep vv qq s) :
    KeepN vv qq (execSpareCopyDone n bad s) := by
  delta execSpareCopyDone
  extract_lets k_1 old_2 new_3 s1_4
  have h_s1_4 : Keep vv qq s1_4 := by
      unfold s1_4
      exact Keep.foldl h_s (fun t5 x6 h7 => raise_keep (recErr_keep (count_keep (poisonLine_keep h7))))
  clear_value s1_4
  exact KeepN.next (Keep.ite (wr_keep (wr_keep (count_keep h_s1_4))) h_s)

theorem execSpareStart_keep {vv qq w n rank s} (h_s : Keep vv qq s) :
    KeepN vv qq (execSpareStart w n rank s) := by
  delta execSpareStart
  exact KeepN.next (onWrite_keep h_s (fun t1 h2 => spareStart_keep h2))

end Sys2Proof.Laws
end

