-- ==== Sys2Proof/Laws/KeepRails.lean ====
section
/-! SUPPORT. The operations and commands of Machine/Rails.lean keep the variant, the queue and the canonical form of the memories. -/

set_option Elab.async false

namespace Sys2Proof.Laws

open Machine

theorem railTo_keep {vv qq s n mv} (h_s : Keep vv qq s) :
    Keep vv qq (State.railTo s n mv) := by
  delta State.railTo
  extract_lets u_1 s1_2 u_3 s2_4
  have h_s1_2 : Keep vv qq s1_2 := by
      unfold s1_2
      exact Keep.ite (count_keep h_s) h_s
  have h_s2_4 : Keep vv qq s2_4 := by
      unfold s2_4
      exact Keep.upd h_s1_2
  clear_value s1_2 s2_4
  exact count_keep (wr_keep (wr_keep (wr_keep h_s2_4)))

theorem railsTo_keep {vv qq s f} (h_s : Keep vv qq s) :
    Keep vv qq (State.railsTo s f) := by
  delta State.railsTo
  exact Keep.foldl h_s (fun t1 x2 h3 => railTo_keep h3)

theorem railFreq_keep {vv qq s n mhz} (h_s : Keep vv qq s) :
    Keep vv qq (State.railFreq s n mhz) := by
  delta State.railFreq
  exact Keep.foldl h_s (fun t1 x2 h3 => wr_keep h3)

theorem railReq_keep {vv qq s w n v} (h_s : Keep vv qq s) :
    Keep vv qq (State.railReq s w n v) := by
  delta State.railReq
  exact onWrite_keep h_s (fun t1 h2 => by
      extract_lets u_3
      have h_u_3 : Keep vv qq u_3 := by
          unfold u_3
          exact storeWord_keep h2
      clear_value u_3
      exact Keep.ite (railTo_keep (wr_keep h_u_3)) (railTo_keep (railFreq_keep (wr_keep h_u_3))))

theorem oppNote_keep {vv qq s} (h_s : Keep vv qq s) :
    Keep vv qq (State.oppNote s) := by
  delta State.oppNote
  exact Keep.foldl h_s (fun t1 x2 h3 => by
      extract_lets off_4 u_5
      split
      · exact h3
      · extract_lets v_14
        exact Keep.upd h3)

theorem railAck_keep {vv qq s n} (h_s : Keep vv qq s) :
    Keep vv qq (State.railAck s n) := by
  delta State.railAck
  exact Keep.ite h_s (by
      extract_lets s1_1 s2_2
      have h_s1_1 : Keep vv qq s1_1 := by
          unfold s1_1
          exact wr_keep (wr_keep h_s)
      have h_s2_2 : Keep vv qq s2_2 := by
          unfold s2_2
          exact Keep.ite (railFreq_keep (wr_keep h_s1_1)) h_s1_1
      clear_value s1_1 s2_2
      exact raise_keep h_s2_2)

theorem railsReached_keep {vv qq s} (h_s : Keep vv qq s) :
    Keep vv qq (State.railsReached s) := by
  delta State.railsReached
  exact Keep.foldl h_s (fun t1 x2 h3 => railAck_keep h3)

theorem execRailAck_keep {vv qq n s} (h_s : Keep vv qq s) :
    KeepN vv qq (execRailAck n s) := by
  delta execRailAck
  exact KeepN.next (railAck_keep h_s)

theorem execRailOppRequest_keep {vv qq w n v s} (h_s : Keep vv qq s) :
    KeepN vv qq (execRailOppRequest w n v s) := by
  delta execRailOppRequest
  exact KeepN.next (railReq_keep h_s)

end Sys2Proof.Laws
end

