-- ==== Sys2Proof/Laws/KeepWake.lean ====
section
/-! SUPPORT. The operations and commands of Machine/Wake.lean keep the variant, the queue and the canonical form of the memories. -/

set_option Elab.async false

namespace Sys2Proof.Laws

open Machine

theorem unblank_keep {vv qq s} (h_s : Keep vv qq s) :
    Keep vv qq (State.unblank s) := by
  delta State.unblank
  extract_lets m_1 old_2 s1_3 u_4
  have h_s1_3 : Keep vv qq s1_3 := by
      unfold s1_3
      exact Keep.foldl h_s (fun t5 x6 h7 => wr_keep (wr_keep (wr_keep h7)))
  clear_value s1_3
  exact headSrcNow_keep (Keep.upd h_s1_3)

theorem pwrStep_keep {vv qq s state target step} (h_s : Keep vv qq s) :
    Keep vv qq (State.pwrStep s state target step) := by
  delta State.pwrStep
  exact wr_keep (wr_keep (wr_keep (Keep.upd h_s)))

theorem wakeNote_keep {vv qq s n} (h_s : Keep vv qq s) :
    Keep vv qq (State.wakeNote s n) := by
  delta State.wakeNote
  extract_lets c_1 s1_2
  have h_s1_2 : Keep vv qq s1_2 := by
      unfold s1_2
      exact wr_keep h_s
  clear_value s1_2
  exact Keep.ite (wr_keep h_s1_2) h_s1_2

theorem unwait_keep {vv qq s} (h_s : Keep vv qq s) :
    Keep vv qq (State.unwait s) := by
  delta State.unwait
  exact Keep.upd h_s

theorem entryAbandon_keep {vv qq s} (h_s : Keep vv qq s) :
    Keep vv qq (State.entryAbandon s) := by
  delta State.entryAbandon
  extract_lets s1_1 u_2 s2_3
  have h_s1_1 : Keep vv qq s1_1 := by
      unfold s1_1
      exact hvSync_keep (startDeferred_keep (touchResume_keep (unwait_keep (unblank_keep (pwrStep_keep h_s)))))
  have h_s2_3 : Keep vv qq s2_3 := by
      unfold s2_3
      exact Keep.upd h_s1_1
  clear_value s1_1 s2_3
  exact raise_keep (count_keep (wr_keep h_s2_3))

theorem exitBegin_keep {vv qq s} (h_s : Keep vv qq s) :
    Keep vv qq (State.exitBegin s) := by
  delta State.exitBegin
  extract_lets u_1 s1_2 u_3
  have h_s1_2 : Keep vv qq s1_2 := by
      unfold s1_2
      exact wr_keep (wr_keep (wr_keep (pwrStep_keep h_s)))
  clear_value s1_2
  exact Keep.ite h_s1_2 (railsTo_keep (Keep.ite (wr_keep (Keep.upd h_s1_2)) h_s1_2))

theorem wake_keep {vv qq s n} (h_s : Keep vv qq s) :
    Keep vv qq (State.wake s n) := by
  delta State.wake
  extract_lets st_1 u_2
  exact Keep.ite h_s (Keep.ite (wakeNote_keep h_s) (Keep.ite (Keep.ite (Keep.upd h_s) (entryAbandon_keep (wakeNote_keep h_s))) (Keep.ite (exitBegin_keep (wakeNote_keep h_s)) h_s)))

theorem execDevtimeAlarm_keep {vv qq s} (h_s : Keep vv qq s) :
    KeepN vv qq (execDevtimeAlarm s) := by
  delta execDevtimeAlarm
  exact KeepN.next (Keep.ite h_s (Keep.ite (wake_keep (raise_keep h_s)) (wake_keep h_s)))

theorem execSafetyWakeRequest_keep {vv qq s} (h_s : Keep vv qq s) :
    KeepN vv qq (execSafetyWakeRequest s) := by
  delta execSafetyWakeRequest
  exact KeepN.next (wake_keep h_s)

theorem execWakeEvent_keep {vv qq n s} (h_s : Keep vv qq s) :
    KeepN vv qq (execWakeEvent n s) := by
  delta execWakeEvent
  exact KeepN.next (wake_keep h_s)

theorem execWakePin_keep {vv qq s} (h_s : Keep vv qq s) :
    KeepN vv qq (execWakePin s) := by
  delta execWakePin
  exact KeepN.next (wake_keep h_s)

end Sys2Proof.Laws
end

