-- ==== Sys2Proof/Laws/KeepControls.lean ====
section
/-! SUPPORT. The operations and commands of Machine/Controls.lean keep the variant, the queue and the canonical form of the memories. -/

set_option Elab.async false

namespace Sys2Proof.Laws

open Machine

theorem uartRead_keep {vv qq s u} (h_s : Keep vv qq s) :
    Keep vv qq (State.uartRead s u) := by
  delta State.uartRead
  split
  · exact okResp_keep h_s
  · exact okResp_keep (Keep.upd h_s)

theorem encSet_keep {vv qq s w e v} (h_s : Keep vv qq s) :
    Keep vv qq (State.encSet s w e v) := by
  delta State.encSet
  exact pinWrite_keep h_s (fun t1 h2 => wr_keep h2)

theorem pinOwnerWrite_keep {vv qq s w i v} (h_s : Keep vv qq s) :
    Keep vv qq (State.pinOwnerWrite s w i v) := by
  delta State.pinOwnerWrite
  extract_lets off_1
  exact onWrite_keep h_s (fun t2 h3 => Keep.ite (pinChange_keep h3) (refuse_keep h3))

theorem gpioCfg_keep {vv qq s w i v} (h_s : Keep vv qq s) :
    Keep vv qq (State.gpioCfg s w i v) := by
  delta State.gpioCfg
  extract_lets off_1
  exact pinWrite_keep h_s (fun t2 h3 => Keep.ite (refuse_keep h3) (storeWord_keep h3))

theorem i2cCtrl_keep {vv qq s w c v} (h_s : Keep vv qq s) :
    Keep vv qq (State.i2cCtrl s w c v) := by
  delta State.i2cCtrl
  exact pinWrite_keep h_s (fun t1 h2 => by
      extract_lets u_3 u_4
      have h_u_3 : Keep vv qq u_3 := by
          unfold u_3
          exact storeWord_keep h2
      clear_value u_3
      exact Keep.ite (Keep.upd h_u_3) h_u_3)

theorem uartErr_keep {vv qq s u b} (h_s : Keep vv qq s) :
    Keep vv qq (State.uartErr s u b) := by
  delta State.uartErr
  exact raise_keep (count_keep (wr_keep h_s))

theorem uartWrite_keep {vv qq s w u v} (h_s : Keep vv qq s) :
    Keep vv qq (State.uartWrite s w u v) := by
  delta State.uartWrite
  exact pinWrite_keep h_s (fun t1 h2 => by
      extract_lets q_3 start_4 u_5
      exact Keep.ite (Keep.upd h2) (uartErr_keep h2))

theorem encWake_keep {vv qq s e} (h_s : Keep vv qq s) :
    Keep vv qq (State.encWake s e) := by
  delta State.encWake
  extract_lets st_1
  exact Keep.ite (wake_keep (raise_keep (wr_keep h_s))) h_s

theorem encMove_keep {vv qq s e a b} (h_s : Keep vv qq s) :
    Keep vv qq (State.encMove s e a b) := by
  delta State.encMove
  extract_lets a0_1 b0_2 s1_3 u_4 s2_5 up_6 d_7
  have h_s1_3 : Keep vv qq s1_3 := by
      unfold s1_3
      exact wrB_keep (wrB_keep h_s)
  have h_s2_5 : Keep vv qq s2_5 := by
      unfold s2_5
      exact count_keep (Keep.upd h_s1_3)
  clear_value s1_3 s2_5
  exact Keep.ite h_s1_3 (Keep.ite (Keep.ite h_s2_5 (raise_keep (event_keep (wr_keep h_s2_5)))) (encWake_keep (wr_keep h_s1_3)))

theorem i2cData_keep {vv qq s c d} (h_s : Keep vv qq s) :
    Keep vv qq (State.i2cData s c d) := by
  delta State.i2cData
  exact wr_keep (wr_keep (wr_keep (wr_keep h_s)))

theorem i2cDone_keep {vv qq s c result count d} (h_s : Keep vv qq s) :
    Keep vv qq (State.i2cDone s c result count d) := by
  delta State.i2cDone
  extract_lets word_1 len_2 n_3 s1_4 u_5 s2_6 s3_7 s4_8
  have h_s1_4 : Keep vv qq s1_4 := by
      unfold s1_4
      exact Keep.ite (i2cData_keep h_s) h_s
  have h_s2_6 : Keep vv qq s2_6 := by
      unfold s2_6
      exact Keep.upd h_s1_4
  have h_s3_7 : Keep vv qq s3_7 := by
      unfold s3_7
      exact count_keep (wr_keep (wr_keep h_s2_6))
  have h_s4_8 : Keep vv qq s4_8 := by
      unfold s4_8
      exact Keep.ite h_s3_7 (count_keep (recErr_keep h_s3_7))
  clear_value s1_4 s2_6 s3_7 s4_8
  exact raise_keep h_s4_8

theorem pinEdge_keep {vv qq s f j pin} (h_s : Keep vv qq s) :
    Keep vv qq (State.pinEdge s f j pin) := by
  delta State.pinEdge
  exact raise_keep (irqEdge_keep (wr_keep h_s))

theorem execDinChange_keep {vv qq k level s} (h_s : Keep vv qq s) :
    KeepN vv qq (execDinChange k level s) := by
  delta execDinChange
  extract_lets j_1 u_2 s1_3
  have h_s1_3 : Keep vv qq s1_3 := by
      unfold s1_3
      exact wrB_keep (Keep.upd h_s)
  clear_value s1_3
  exact KeepN.next (Keep.ite h_s (Keep.ite (pinEdge_keep (count_keep h_s1_3)) h_s1_3))

theorem execEncBurstEnd_keep {vv qq e s} (h_s : Keep vv qq s) :
    KeepN vv qq (execEncBurstEnd e s) := by
  delta execEncBurstEnd
  exact KeepN.next (Keep.ite (wr_keep h_s) h_s)

theorem execEncSet_keep {vv qq w e v s} (h_s : Keep vv qq s) :
    KeepN vv qq (execEncSet w e v s) := by
  delta execEncSet
  exact KeepN.next (encSet_keep h_s)

theorem execEncTransition_keep {vv qq e a b s} (h_s : Keep vv qq s) :
    KeepN vv qq (execEncTransition e a b s) := by
  delta execEncTransition
  exact KeepN.next (Keep.ite (encMove_keep h_s) h_s)

theorem execGpioCfgWrite_keep {vv qq w i v s} (h_s : Keep vv qq s) :
    KeepN vv qq (execGpioCfgWrite w i v s) := by
  delta execGpioCfgWrite
  exact KeepN.next (gpioCfg_keep h_s)

theorem execGpioEdge_keep {vv qq i level s} (h_s : Keep vv qq s) :
    KeepN vv qq (execGpioEdge i level s) := by
  delta execGpioEdge
  extract_lets j_1 u_2 s1_3
  have h_s1_3 : Keep vv qq s1_3 := by
      unfold s1_3
      exact Keep.upd h_s
  clear_value s1_3
  exact KeepN.next (Keep.ite h_s1_3 (Keep.ite (pinEdge_keep h_s1_3) h_s1_3))

theorem execI2cDone_keep {vv qq c result count d s} (h_s : Keep vv qq s) :
    KeepN vv qq (execI2cDone c result count d s) := by
  delta execI2cDone
  exact KeepN.next (Keep.ite (i2cDone_keep h_s) h_s)

theorem execI2cGo_keep {vv qq w c v s} (h_s : Keep vv qq s) :
    KeepN vv qq (execI2cGo w c v s) := by
  delta execI2cGo
  exact KeepN.next (i2cCtrl_keep h_s)

theorem execPinOwnerWrite_keep {vv qq w i v s} (h_s : Keep vv qq s) :
    KeepN vv qq (execPinOwnerWrite w i v s) := by
  delta execPinOwnerWrite
  exact KeepN.next (pinOwnerWrite_keep h_s)

theorem execUartRxByte_keep {vv qq u d frameErr parityErr s} (h_s : Keep vv qq s) :
    KeepN vv qq (execUartRxByte u d frameErr parityErr s) := by
  delta execUartRxByte
  extract_lets n_1 q_2 p_3 e_4 s1_5 u_6
  have h_s1_5 : Keep vv qq s1_5 := by
      unfold s1_5
      exact Keep.ite h_s (recErr_keep (uartErr_keep h_s))
  clear_value s1_5
  exact KeepN.next (Keep.ite h_s (Keep.ite (raise_keep (Keep.upd h_s1_5)) h_s1_5))

theorem execUartRxRead_keep {vv qq w u s} (h_s : Keep vv qq s) :
    KeepN vv qq (execUartRxRead w u s) := by
  delta execUartRxRead
  extract_lets off_1
  exact KeepN.next (Chk_andThen_keep (reach_keep h_s) (fun t2 h3 => Keep.ite (uartRead_keep h3) (refuse_keep h3)))

theorem execUartTxWrite_keep {vv qq w u v s} (h_s : Keep vv qq s) :
    KeepN vv qq (execUartTxWrite w u v s) := by
  delta execUartTxWrite
  exact KeepN.next (uartWrite_keep h_s)

end Sys2Proof.Laws
end

