-- ==== Sys2Proof/Laws/KeepPairs.lean ====
section
/-! SUPPORT. The operations and commands of Machine/Pairs.lean keep the variant, the queue and the canonical form of the memories. -/

set_option Elab.async false

namespace Sys2Proof.Laws

open Machine

theorem latchHi_keep {vv qq s w b i off hi} (h_s : Keep vv qq s) :
    Keep vv qq (State.latchHi s w b i off hi) := by
  delta State.latchHi
  exact Keep.upd h_s

theorem unlatch_keep {vv qq s w b i} (h_s : Keep vv qq s) :
    Keep vv qq (State.unlatch s w b i) := by
  delta State.unlatch
  exact Keep.upd h_s

theorem stageLo_keep {vv qq s w b i lo} (h_s : Keep vv qq s) :
    Keep vv qq (State.stageLo s w b i lo) := by
  delta State.stageLo
  exact Keep.upd h_s

theorem unstage_keep {vv qq s w b i} (h_s : Keep vv qq s) :
    Keep vv qq (State.unstage s w b i) := by
  delta State.unstage
  exact Keep.upd h_s

theorem pairWrite_keep {vv qq s w b i off hi k} (h_s : Keep vv qq s) (h_k : ∀ y0 y1, Keep vv qq y0 → Keep vv qq (k y0 y1)) :
    Keep vv qq (State.pairWrite s w b i off hi k) := by
  delta State.pairWrite
  extract_lets lo_1
  split
  · rename_i a4
    have h5 := KeepC.eqBad (v := vv) (q := qq) a4 (checkWrite_keep h_s)
    exact h5
  · rename_i a8
    have h9 := KeepC.eqGood (v := vv) (q := qq) a8 (checkWrite_keep h_s)
    split
    · exact refuse_keep h_s
    · extract_lets u_15
      have h_u_15 : Keep vv qq u_15 := by
          unfold u_15
          exact Keep.ite (recErr_keep h9) h9
      clear_value u_15
      exact h_k _ _ (unstage_keep h_u_15)

end Sys2Proof.Laws
end

