-- ==== Sys2Proof/Laws/KeepTime.lean ====
section
/-! SUPPORT. The operations and commands of Machine/Time.lean keep the variant, the queue and the canonical form of the memories. -/

set_option Elab.async false

namespace Sys2Proof.Laws

open Machine

theorem snapArm_keep {vv qq s w hi} (h_s : Keep vv qq s) :
    Keep vv qq (State.snapArm s w hi) := by
  delta State.snapArm
  exact pairWrite_keep h_s (fun t1 x3 h2 => by
      extract_lets u_4
      exact Keep.ite (refuse_keep h2) (wr_keep (wr_keep h2)))

theorem masterCfg_keep {vv qq s w v} (h_s : Keep vv qq s) :
    Keep vv qq (State.masterCfg s w v) := by
  delta State.masterCfg
  exact onWrite_keep h_s (fun t1 h2 => by
      extract_lets p_3 u_4 u_5
      have h_u_4 : Keep vv qq u_4 := by
          unfold u_4
          exact wr_keep (storeWord_keep h2)
      clear_value u_4
      exact Keep.ite (refuse_keep h2) (Keep.ite h_u_4 (Keep.upd h_u_4)))

theorem snapCtrl_keep {vv qq s w v} (h_s : Keep vv qq s) :
    Keep vv qq (State.snapCtrl s w v) := by
  delta State.snapCtrl
  exact onWrite_keep h_s (fun t1 h2 => by
      extract_lets u_3
      have h_u_3 : Keep vv qq u_3 := by
          unfold u_3
          exact storeWord_keep h2
      clear_value u_3
      exact Keep.ite (wr_keep h_u_3) h_u_3)

theorem timeEvent_keep {vv qq s code val evbit ctr} (h_s : Keep vv qq s) :
    Keep vv qq (State.timeEvent s code val evbit ctr) := by
  delta State.timeEvent
  exact raise_keep (count_keep (eventPage_keep h_s))

theorem publish_keep {vv qq s t ofs ppm fin} (h_s : Keep vv qq s) :
    Keep vv qq (State.publish s t ofs ppm fin) := by
  delta State.publish
  exact wrB_keep (wr_keep (wr_keep (wr_keep (wr_keep (wr_keep h_s)))))

theorem masterLost_keep {vv qq s} (h_s : Keep vv qq s) :
    Keep vv qq (State.masterLost s) := by
  delta State.masterLost
  exact Keep.ite h_s (timeEvent_keep (wr_keep (publish_keep h_s)))

theorem timeSample_keep {vv qq s m} (h_s : Keep vv qq s) :
    Keep vv qq (State.timeSample s m) := by
  delta State.timeSample
  extract_lets t_1 ofs_2 tgt_3 e_4 s1_5 s2_6 ep_7
  have h_s1_5 : Keep vv qq s1_5 := by
      unfold s1_5
      exact raise_keep (count_keep (wr_keep (wr_keep h_s)))
  have h_s2_6 : Keep vv qq s2_6 := by
      unfold s2_6
      exact publish_keep h_s1_5
  clear_value s1_5 s2_6
  exact Keep.ite (timeEvent_keep (wr_keep (publish_keep h_s1_5))) (Keep.ite (Keep.ite h_s2_6 (count_keep h_s2_6)) (Keep.ite (timeEvent_keep (publish_keep h_s1_5)) (timeEvent_keep (wr_keep (wr_keep (publish_keep h_s1_5))))))

theorem execPpsEdge_keep {vv qq falling s} (h_s : Keep vv qq s) :
    KeepN vv qq (execPpsEdge falling s) := by
  delta execPpsEdge
  exact KeepN.next (Keep.ite h_s (Keep.ite (count_keep h_s) (by
      extract_lets tod_1 u_2 u_3
      have h_u_2 : Keep vv qq u_2 := by
          unfold u_2
          exact timeSample_keep h_s
      clear_value u_2
      exact wr_keep (Keep.upd h_u_2))))

theorem execPtmDialogue_keep {vv qq m s} (h_s : Keep vv qq s) :
    KeepN vv qq (execPtmDialogue m s) := by
  delta execPtmDialogue
  exact KeepN.next (Keep.ite h_s (by
      split
      · exact timeSample_keep (Keep.upd h_s)
      · extract_lets u_4 s1_5
        have h_s1_5 : Keep vv qq s1_5 := by
            unfold s1_5
            exact Keep.upd h_s
        exact Keep.ite h_s1_5 (masterLost_keep h_s1_5)))

theorem execSnapArm_keep {vv qq w hi s} (h_s : Keep vv qq s) :
    KeepN vv qq (execSnapArm w hi s) := by
  delta execSnapArm
  exact KeepN.next (snapArm_keep h_s)

theorem execSnapCancel_keep {vv qq w v s} (h_s : Keep vv qq s) :
    KeepN vv qq (execSnapCancel w v s) := by
  delta execSnapCancel
  exact KeepN.next (snapCtrl_keep h_s)

theorem execTimeMasterLost_keep {vv qq s} (h_s : Keep vv qq s) :
    KeepN vv qq (execTimeMasterLost s) := by
  delta execTimeMasterLost
  exact KeepN.next (Keep.ite h_s (masterLost_keep h_s))

theorem execTimeSlewEnd_keep {vv qq s} (h_s : Keep vv qq s) :
    KeepN vv qq (execTimeSlewEnd s) := by
  delta execTimeSlewEnd
  exact KeepN.next (Keep.ite (wr_keep h_s) h_s)

end Sys2Proof.Laws
end

