-- ==== Sys2Proof/Laws/KeepDomains.lean ====
section
/-! SUPPORT. The operations and commands of Machine/Domains.lean keep the variant, the queue and the canonical form of the memories. -/

set_option Elab.async false

namespace Sys2Proof.Laws

open Machine

theorem flCut_keep {vv qq s} (h_s : Keep vv qq s) :
    Keep vv qq (State.flCut s) := by
  delta State.flCut
  extract_lets r_1 s1_2 u_3
  have h_s1_2 : Keep vv qq s1_2 := by
      unfold s1_2
      exact flashOpen_keep h_s
  clear_value s1_2
  exact wr_keep (Keep.upd h_s1_2)

theorem groupAbort_keep {vv qq s} (h_s : Keep vv qq s) :
    Keep vv qq (State.groupAbort s) := by
  delta State.groupAbort
  extract_lets s1_1 s2_2
  have h_s1_1 : Keep vv qq s1_1 := by
      unfold s1_1
      exact Keep.foldl h_s (fun t3 x4 h5 => wr_keep h5)
  have h_s2_2 : Keep vv qq s2_2 := by
      unfold s2_2
      exact Keep.foldl h_s1_1 (fun t6 x7 h8 => wr_keep h8)
  clear_value s1_1 s2_2
  exact Keep.ite (raise_keep (count_keep (wr_keep (wr_keep h_s2_2)))) h_s2_2

theorem setCause_keep {vv qq s f c} (h_s : Keep vv qq s) :
    Keep vv qq (State.setCause s f c) := by
  delta State.setCause
  exact wr_keep h_s

theorem displayReset_keep {vv qq s cause} (h_s : Keep vv qq s) :
    Keep vv qq (State.displayReset s cause) := by
  delta State.displayReset
  extract_lets s1_1 u_2 u_3
  have h_s1_1 : Keep vv qq s1_1 := by
      unfold s1_1
      exact setCause_keep (resetPages_keep (resetPages_keep (groupAbort_keep h_s)))
  clear_value s1_1
  exact Keep.upd h_s1_1

theorem ungroup_keep {vv qq s} (h_s : Keep vv qq s) :
    Keep vv qq (State.ungroup s) := by
  delta State.ungroup
  exact Keep.foldl h_s (fun t1 x2 h3 => wr_keep h3)

theorem headPlls_keep {vv qq s} (h_s : Keep vv qq s) :
    Keep vv qq (State.headPlls s) := by
  delta State.headPlls
  exact Keep.foldl h_s (fun t1 x2 h3 => Keep.ite h3 (wr_keep (wr_keep (wr_keep h3))))

theorem clearMain_keep {vv qq s} (h_s : Keep vv qq s) :
    Keep vv qq (State.clearMain s) := by
  delta State.clearMain
  extract_lets s1_1 u_2
  have h_s1_1 : Keep vv qq s1_1 := by
      unfold s1_1
      exact Keep.foldl (Keep.foldl h_s (fun t6 x7 h8 => pinChange_keep h8)) (fun t3 x4 h5 => resetPages_keep h5)
  clear_value s1_1
  exact ampPins_keep (⟨h_s1_1.var, h_s1_1.pend, rfl, rfl, h_s1_1.flash, h_s1_1.otp⟩)

theorem mainReset_keep {vv qq s0 cause} (h_s0 : Keep vv qq s0) :
    Keep vv qq (State.mainReset s0 cause) := by
  delta State.mainReset
  extract_lets s_1 run_2 asleep_3 told_4 held_5 s1_6 u_7 s2_8 s3_9 s4_10
  have h_s_1 : Keep vv qq s_1 := by
      unfold s_1
      exact Keep.ite (displayReset_keep h_s0) h_s0
  have h_s1_6 : Keep vv qq s1_6 := by
      unfold s1_6
      exact pwrStep_keep (setCause_keep (ungroup_keep (headPlls_keep (clearMain_keep h_s_1))))
  have h_s2_8 : Keep vv qq s2_8 := by
      unfold s2_8
      exact wr_keep (Keep.upd h_s1_6)
  have h_s3_9 : Keep vv qq s3_9 := by
      unfold s3_9
      exact Keep.ite (faultAssert_keep (Keep.foldl h_s2_8 (fun t11 x12 h13 => setShead_keep h13))) h_s2_8
  have h_s4_10 : Keep vv qq s4_10 := by
      unfold s4_10
      exact Keep.ite (logEntry_keep h_s3_9) h_s3_9
  clear_value s_1 s1_6 s2_8 s3_9 s4_10
  exact h_s4_10

theorem rstCtrl_keep {vv qq s w v} (h_s : Keep vv qq s) :
    Keep vv qq (State.rstCtrl s w v) := by
  delta State.rstCtrl
  exact onWrite_keep h_s (fun t1 h2 => Keep.ite (refuse_keep h2) (by
      extract_lets t1_3
      have h_t1_3 : Keep vv qq t1_3 := by
          unfold t1_3
          exact Keep.ite (mainReset_keep h2) h2
      clear_value t1_3
      exact Keep.ite (displayReset_keep h_t1_3) h_t1_3))

theorem safetyReset_keep {vv qq s cause} (h_s : Keep vv qq s) :
    Keep vv qq (State.safetyReset s cause) := by
  delta State.safetyReset
  extract_lets s0_1 s1_2 u_3 u_4
  have h_s0_1 : Keep vv qq s0_1 := by
      unfold s0_1
      exact setCause_keep (resetPages_keep (flCut_keep h_s))
  have h_s1_2 : Keep vv qq s1_2 := by
      unfold s1_2
      exact Keep.foldl h_s0_1 (fun t5 x6 h7 => Keep.ite (wr_keep h7) h7)
  clear_value s0_1 s1_2
  exact hvSync_keep (ampPins_keep (Keep.upd h_s1_2))

theorem aonReset_keep {vv qq s cause rails} (h_s : Keep vv qq s) :
    Keep vv qq (State.aonReset s cause rails) := by
  delta State.aonReset
  extract_lets s1_1 s2_2 u_3
  have h_s1_1 : Keep vv qq s1_1 := by
      unfold s1_1
      exact safetyReset_keep (displayReset_keep (mainReset_keep h_s))
  have h_s2_2 : Keep vv qq s2_2 := by
      unfold s2_2
      exact Keep.foldl h_s1_1 (fun t4 x5 h6 => resetPages_keep h6)
  clear_value s1_1 s2_2
  exact wr_keep (setCause_keep (setCause_keep (setCause_keep (Keep.upd h_s2_2))))

theorem railFault_keep {vv qq s rail} (h_s : Keep vv qq s) :
    Keep vv qq (State.railFault s rail) := by
  delta State.railFault
  extract_lets s1_1 run_2 s2_3 s3_4
  have h_s1_1 : Keep vv qq s1_1 := by
      unfold s1_1
      exact raise_keep (recErr_keep h_s)
  have h_s2_3 : Keep vv qq s2_3 := by
      unfold s2_3
      exact faultLine_keep h_s1_1
  have h_s3_4 : Keep vv qq s3_4 := by
      unfold s3_4
      exact wr_keep (wr_keep h_s2_3)
  clear_value s1_1 s2_3 s3_4
  exact Keep.ite (displayReset_keep (mainReset_keep h_s3_4)) (mainReset_keep h_s2_3)

theorem resetPin_keep {vv qq s high} (h_s : Keep vv qq s) :
    Keep vv qq (State.resetPin s high) := by
  delta State.resetPin
  extract_lets s1_1 u_2
  have h_s1_1 : Keep vv qq s1_1 := by
      unfold s1_1
      exact aonReset_keep h_s
  clear_value s1_1
  exact Keep.upd h_s1_1

theorem shutDown_keep {vv qq s cause vin rails} (h_s : Keep vv qq s) :
    Keep vv qq (State.shutDown s cause vin rails) := by
  delta State.shutDown
  extract_lets s1_1 s2_2 u_3 u_4
  have h_s1_1 : Keep vv qq s1_1 := by
      unfold s1_1
      exact Keep.ite (faultAssert_keep h_s) h_s
  have h_s2_2 : Keep vv qq s2_2 := by
      unfold s2_2
      exact displayReset_keep (mainReset_keep h_s1_1)
  clear_value s1_1 s2_2
  exact Keep.upd h_s2_2

theorem execAonBrownout_keep {vv qq s} (h_s : Keep vv qq s) :
    KeepN vv qq (execAonBrownout s) := by
  delta execAonBrownout
  exact KeepN.next (wr_keep (aonReset_keep h_s))

theorem execDisplayResetCmd_keep {vv qq w key s} (h_s : Keep vv qq s) :
    KeepN vv qq (execDisplayResetCmd w key s) := by
  delta execDisplayResetCmd
  exact KeepN.next (rstCtrl_keep h_s)

theorem execLockstepMismatch_keep {vv qq s} (h_s : Keep vv qq s) :
    KeepN vv qq (execLockstepMismatch s) := by
  delta execLockstepMismatch
  exact KeepN.next (safetyReset_keep (logEntry_keep h_s))

theorem execMainResetCmd_keep {vv qq w key s} (h_s : Keep vv qq s) :
    KeepN vv qq (execMainResetCmd w key s) := by
  delta execMainResetCmd
  exact KeepN.next (rstCtrl_keep h_s)

theorem execRailStartTimeout_keep {vv qq s} (h_s : Keep vv qq s) :
    KeepN vv qq (execRailStartTimeout s) := by
  delta execRailStartTimeout
  exact KeepN.next (by
      split
      · exact Keep.ite (railFault_keep h_s) h_s
      · exact h_s)

theorem execResetNAssert_keep {vv qq s} (h_s : Keep vv qq s) :
    KeepN vv qq (execResetNAssert s) := by
  delta execResetNAssert
  exact KeepN.next (resetPin_keep h_s)

theorem execResetNRelease_keep {vv qq s} (h_s : Keep vv qq s) :
    KeepN vv qq (execResetNRelease s) := by
  delta execResetNRelease
  exact KeepN.next (Keep.ite h_s (resetPin_keep h_s))

theorem execSafetyFaultLine_keep {vv qq s} (h_s : Keep vv qq s) :
    KeepN vv qq (execSafetyFaultLine s) := by
  delta execSafetyFaultLine
  exact KeepN.next (by
      split
      · exact h_s
      · extract_lets s1_7 s2_8
        have h_s1_7 : Keep vv qq s1_7 := by
            unfold s1_7
            exact Keep.upd h_s
        have h_s2_8 : Keep vv qq s2_8 := by
            unfold s2_8
            exact logEntry_keep (count_keep h_s1_7)
        clear_value s1_7 s2_8
        exact Keep.ite h_s1_7 (Keep.ite (by
            split
            · rename_i a12
              have h13 := KeepR.eq (v := vv) (q := qq) a12 (draw_keep h_s2_8)
              exact safetyReset_keep h13) (react_keep h_s1_7)))

theorem execSafetyWdtExpiry_keep {vv qq s} (h_s : Keep vv qq s) :
    KeepN vv qq (execSafetyWdtExpiry s) := by
  delta execSafetyWdtExpiry
  exact KeepN.next (Keep.ite h_s (safetyReset_keep h_s))

theorem execVinOvervoltage_keep {vv qq s} (h_s : Keep vv qq s) :
    KeepN vv qq (execVinOvervoltage s) := by
  delta execVinOvervoltage
  exact KeepN.next (safetyReset_keep (shutDown_keep h_s))

theorem execVinRecover_keep {vv qq s} (h_s : Keep vv qq s) :
    KeepN vv qq (execVinRecover s) := by
  delta execVinRecover
  exact KeepN.next (Keep.upd h_s)

theorem execVinUndervoltage_keep {vv qq s} (h_s : Keep vv qq s) :
    KeepN vv qq (execVinUndervoltage s) := by
  delta execVinUndervoltage
  exact KeepN.next (shutDown_keep h_s)

theorem execVinPowerOn_keep {vv qq s} (h_s : Keep vv qq s) :
    KeepN vv qq (execVinPowerOn s) := by
  delta execVinPowerOn
  exact KeepN.next ⟨h_s.var, h_s.pend, rfl, rfl, (flCut_keep h_s).flash, h_s.otp⟩

end Sys2Proof.Laws
end

