-- ==== Sys2Proof/Laws/KeepFlash.lean ====
section
/-! SUPPORT. The operations and commands of Machine/Flash.lean keep the variant, the queue and the canonical form of the memories. -/

set_option Elab.async false

namespace Sys2Proof.Laws

open Machine

theorem keyRevoke_keep {vv qq s w v} (h_s : Keep vv qq s) :
    Keep vv qq (State.keyRevoke s w v) := by
  delta State.keyRevoke
  exact onWrite_keep h_s (fun t1 h2 => Keep.ite (refuse_keep h2) (⟨h2.var, h2.pend, h2.dram, h2.basin, h2.flash, mwf_mset (dflt := fun _ => 0) (h2.otp)⟩))

theorem flOp_keep {vv qq s w v} (h_s : Keep vv qq s) :
    Keep vv qq (State.flOp s w v) := by
  delta State.flOp
  exact onWrite_keep h_s (fun t1 h2 => by
      extract_lets op_3 a_4 d_5 u_6
      exact Keep.ite h2 (Keep.ite (refuse_keep h2) (Keep.ite (refuse_keep h2) (Keep.ite (refuse_keep h2) (wr_keep (Keep.upd h2))))))

theorem flBuf_keep {vv qq s d} (h_s : Keep vv qq s) :
    Keep vv qq (State.flBuf s d) := by
  delta State.flBuf
  exact Keep.foldl h_s (fun t1 x2 h3 => wr_keep h3)

theorem freeBytes_keep {vv qq s n} (h_s : Keep vv qq s) :
    KeepR vv qq (State.freeBytes s n) := by
  delta State.freeBytes
  exact KeepR.mk (Keep.upd h_s)

theorem flProgram_keep {vv qq s a d} (h_s : Keep vv qq s) :
    Keep vv qq (State.flProgram s a d) := by
  delta State.flProgram
  exact Keep.foldl h_s (fun t1 x2 h3 => by
      extract_lets old_4 new_5
      exact Keep.ite (⟨h3.var, h3.pend, h3.dram, h3.basin, mwf_mset (dflt := fun _ => (0xFF : Byte)) (h3.flash), h3.otp⟩) (flashOpen_keep h3))

theorem flDone_keep {vv qq s ok} (h_s : Keep vv qq s) :
    Keep vv qq (State.flDone s ok) := by
  delta State.flDone
  exact Keep.ite h_s (by
      extract_lets op_1 a_2 beyond_3 t_4 s1_5 u_6
      have h_t_4 : Keep vv qq t_4 := by
          unfold t_4
          exact recErr_keep (flashOpen_keep h_s)
      have h_s1_5 : Keep vv qq s1_5 := by
          unfold s1_5
          exact Keep.ite (Keep.ite (by
              split
              · rename_i a10
                have h11 := KeepR.eq (v := vv) (q := qq) a10 (freeBytes_keep h_s)
                exact flBuf_keep h11) (Keep.ite (flProgram_keep h_s) (⟨h_s.var, h_s.pend, h_s.dram, h_s.basin, mwf_mdrop (h_s.flash), h_s.otp⟩))) (Keep.ite (by
              split
              · rename_i a15
                have h16 := KeepR.eq (v := vv) (q := qq) a15 (freeBytes_keep h_t_4)
                exact flBuf_keep h16) h_t_4)
      clear_value t_4 s1_5
      exact raise_keep (wr_keep (Keep.upd h_s1_5)))

theorem execFlDone_keep {vv qq ok s} (h_s : Keep vv qq s) :
    KeepN vv qq (execFlDone ok s) := by
  delta execFlDone
  exact KeepN.next (flDone_keep h_s)

theorem execFlErase_keep {vv qq w s} (h_s : Keep vv qq s) :
    KeepN vv qq (execFlErase w s) := by
  delta execFlErase
  exact KeepN.next (flOp_keep h_s)

theorem execFlProgram_keep {vv qq w s} (h_s : Keep vv qq s) :
    KeepN vv qq (execFlProgram w s) := by
  delta execFlProgram
  exact KeepN.next (flOp_keep h_s)

theorem execFlRead_keep {vv qq w s} (h_s : Keep vv qq s) :
    KeepN vv qq (execFlRead w s) := by
  delta execFlRead
  exact KeepN.next (flOp_keep h_s)

theorem execKeyRevoke_keep {vv qq w v s} (h_s : Keep vv qq s) :
    KeepN vv qq (execKeyRevoke w v s) := by
  delta execKeyRevoke
  exact KeepN.next (keyRevoke_keep h_s)

end Sys2Proof.Laws
end

