-- ==== Sys2Proof/Laws/KeepGfx.lean ====
section
/-! SUPPORT. The operations and commands of Machine/Gfx.lean keep the variant, the queue and the canonical form of the memories. -/

set_option Elab.async false

namespace Sys2Proof.Laws

open Machine

theorem gfxAccount_keep {vv qq s} (h_s : Keep vv qq s) :
    Keep vv qq (State.gfxAccount s) := by
  delta State.gfxAccount
  extract_lets credit_1 u_2
  exact Keep.foldl (Keep.upd h_s) (fun t3 x4 h5 => by
      extract_lets all_6 u_7
      exact count_keep (Keep.upd h5))

theorem giveCtx_keep {vv qq s owner c l} (h_s : Keep vv qq s) :
    Keep vv qq (State.giveCtx s owner c l) := by
  delta State.giveCtx
  exact wr_keep (wr_keep (wr_keep h_s))

theorem takeCtx_keep {vv qq s c} (h_s : Keep vv qq s) :
    Keep vv qq (State.takeCtx s c) := by
  delta State.takeCtx
  exact wr_keep (wr_keep (wr_keep h_s))

theorem resizeCtx_keep {vv qq s owner n} (h_s : Keep vv qq s) :
    Keep vv qq (State.resizeCtx s owner n) := by
  delta State.resizeCtx
  extract_lets u_1 s1_2
  have h_s1_2 : Keep vv qq s1_2 := by
      unfold s1_2
      exact Keep.foldl h_s (fun t3 x4 h5 => giveCtx_keep h5)
  clear_value s1_2
  exact Keep.ite (Keep.foldl h_s (fun t6 x7 h8 => takeCtx_keep h8)) (Keep.foldl h_s1_2 (fun t9 x10 h11 => wr_keep h11))

theorem clearRows_keep {vv qq s g samples} (h_s : Keep vv qq s) :
    KeepP vv qq (State.clearRows s g samples) := by
  delta State.clearRows
  extract_lets n_1 m_2 row_3 main_4 m_5 u_6
  have h_row_3 : ∀ y0 y1, Keep vv qq y0 → KeepP vv qq (row_3 y0 y1) := by
      intro t7 x9 h8
      unfold row_3
      extract_lets a_10
      exact KeepP.ite (KeepP.mk h8) (KeepP.ite (KeepP.mk h8) (KeepP.mk (Keep.upd h8)))
  have h_main_4 : KeepP vv qq main_4 := by
      unfold main_4
      exact KeepP.ite (KeepP.mk h_s) (KeepP.foldl (KeepP.mk h_s) (fun t11 x12 h13 => by
          extract_lets q_14
          have h_q_14 : KeepP vv qq q_14 := by
              unfold q_14
              exact h_row_3 _ _ (KeepP.fst h13)
          clear_value q_14
          exact KeepP.mk (KeepP.fst h_q_14)))
  have h_u_6 : Keep vv qq u_6 := by
      unfold u_6
      exact KeepP.fst h_main_4
  clear_value row_3 main_4 u_6
  exact KeepP.ite h_main_4 (KeepP.mk (Keep.upd h_u_6))

theorem writeBack_keep {vv qq s q dirty} (h_s : Keep vv qq s) :
    KeepP vv qq (State.writeBack s q dirty) := by
  delta State.writeBack
  exact KeepP.foldl (KeepP.mk h_s) (fun t1 x2 h3 => by
      split
      · exact KeepP.mk (memRecord_keep (KeepP.fst h3))
      · exact KeepP.mk (count_keep (put_keep (KeepP.fst h3))))

theorem scramble_keep {vv qq s q l} (h_s : Keep vv qq s) :
    Keep vv qq (State.scramble s q l) := by
  delta State.scramble
  exact Keep.foldl h_s (fun t1 x2 h3 => Keep.ite (by
      extract_lets d_4
      exact wrBytes_keep (Keep.upd h3)) h3)

theorem gfxShow_keep {vv qq s} (h_s : Keep vv qq s) :
    Keep vv qq (State.gfxShow s) := by
  delta State.gfxShow
  extract_lets fe_1 comp_2
  exact wrB_keep (wr_keep (wr_keep (wr_keep (wr_keep h_s))))

theorem setGfx_keep {vv qq s e r} (h_s : Keep vv qq s) :
    Keep vv qq (State.setGfx s e r) := by
  delta State.setGfx
  extract_lets t_1 u_2
  have h_t_1 : Keep vv qq t_1 := by
      unfold t_1
      exact gfxAccount_keep h_s
  clear_value t_1
  exact gfxShow_keep (Keep.upd h_t_1)

theorem gfxLeave_keep {vv qq s r} (h_s : Keep vv qq s) :
    Keep vv qq (State.gfxLeave s r) := by
  delta State.gfxLeave
  extract_lets s1_1 u_2
  have h_s1_1 : Keep vv qq s1_1 := by
      unfold s1_1
      exact wr_keep (dropWait_keep h_s)
  clear_value s1_1
  exact Keep.ite (setGfx_keep h_s1_1) (gfxShow_keep (Keep.upd h_s1_1))

theorem gfxEnd_keep {vv qq s r kind code detail info} (h_s : Keep vv qq s) :
    Keep vv qq (State.gfxEnd s r kind code detail info) := by
  delta State.gfxEnd
  exact endJob_keep (gfxLeave_keep h_s)

theorem gfxFault_keep {vv qq s r code cause under addr} (h_s : Keep vv qq s) :
    Keep vv qq (State.gfxFault s r code cause under addr) := by
  delta State.gfxFault
  extract_lets s0_1 s1_2 l_3 both_4 s2_5 s3_6 u_7 s4_8
  have h_s0_1 : Keep vv qq s0_1 := by
      unfold s0_1
      exact KeepP.fst (writeBack_keep h_s)
  have h_s1_2 : Keep vv qq s1_2 := by
      unfold s1_2
      exact scramble_keep h_s0_1
  have h_s2_5 : Keep vv qq s2_5 := by
      unfold s2_5
      exact wr_keep (wr_keep (wr_keep h_s1_2))
  have h_s3_6 : Keep vv qq s3_6 := by
      unfold s3_6
      exact raise_keep (count_keep h_s2_5)
  have h_s4_8 : Keep vv qq s4_8 := by
      unfold s4_8
      exact Keep.upd h_s3_6
  clear_value s0_1 s1_2 s2_5 s3_6 s4_8
  exact gfxEnd_keep h_s4_8

theorem gfxForce_keep {vv qq s k code} (h_s : Keep vv qq s) :
    Keep vv qq (State.gfxForce s k code) := by
  delta State.gfxForce
  extract_lets mine_1 s1_2 s2_3
  have h_s1_2 : Keep vv qq s1_2 := by
      unfold s1_2
      exact Keep.foldl h_s (fun t4 x5 h6 => by
          split
          · exact Keep.ite (gfxFault_keep h6) h6
          · exact h6)
  have h_s2_3 : Keep vv qq s2_3 := by
      unfold s2_3
      exact Keep.foldl h_s1_2 (fun t12 x13 h14 => gfxFault_keep h14)
  clear_value s1_2 s2_3
  exact Keep.foldl h_s2_3 (fun t15 x16 h17 => by
      split
      · exact Keep.ite (endJob_keep (setJob_keep h17)) h17
      · exact h17)

theorem gfxAccess_keep {vv qq s r e} (h_s : Keep vv qq s) :
    Keep vv qq (State.gfxAccess s r e) := by
  delta State.gfxAccess
  exact gfxFault_keep (memRecord_keep h_s)

theorem gfxFlush_keep {vv qq s r k} (h_s : Keep vv qq s) (h_k : ∀ y0 y1, Keep vv qq y0 → Keep vv qq (k y0 y1)) :
    Keep vv qq (State.gfxFlush s r k) := by
  delta State.gfxFlush
  split
  · rename_i a3
    have h4 := KeepP.eq (v := vv) (q := qq) a3 (writeBack_keep h_s)
    exact h_k _ _ h4
  · rename_i a8
    have h9 := KeepP.eq (v := vv) (q := qq) a8 (writeBack_keep h_s)
    exact gfxFault_keep h9

theorem gfxReject_keep {vv qq s r code info} (h_s : Keep vv qq s) :
    Keep vv qq (State.gfxReject s r code info) := by
  delta State.gfxReject
  exact gfxFlush_keep h_s (fun t1 x3 h2 => gfxEnd_keep (scramble_keep h2))

theorem gfxBad_keep {vv qq s r} (h_s : Keep vv qq s) :
    Keep vv qq (State.gfxBad s r) := by
  delta State.gfxBad
  exact gfxReject_keep (count_keep h_s)

theorem gfxBegin_keep {vv qq s e} (h_s : Keep vv qq s) :
    Keep vv qq (State.gfxBegin s e) := by
  delta State.gfxBegin
  split
  · exact h_s
  · extract_lets own_6 s1_7 c_8 r_9
    have h_s1_7 : Keep vv qq s1_7 := by
        unfold s1_7
        exact setJob_keep h_s
    clear_value s1_7
    exact Keep.ite (Keep.ite h_s (setGfx_keep (count_keep (wr_keep (wr_keep h_s1_7))))) (endJob_keep (count_keep h_s1_7))

theorem partialRender_keep {vv qq s r} (h_s : Keep vv qq s) :
    KeepP vv qq (State.partialRender s r) := by
  delta State.partialRender
  extract_lets again_1
  exact KeepP.mk (count_keep (count_keep (count_keep h_s)))

theorem gfxBin_keep {vv qq s r batches} (h_s : Keep vv qq s) :
    KeepP vv qq (State.gfxBin s r batches) := by
  delta State.gfxBin
  exact KeepP.foldl (KeepP.mk h_s) (fun t1 x2 h3 => by
      extract_lets p_4 u_5
      have h_p_4 : KeepP vv qq p_4 := by
          unfold p_4
          exact KeepP.ite (partialRender_keep (KeepP.fst h3)) h3
      clear_value p_4
      exact KeepP.mk (KeepP.fst h_p_4))

theorem gfxResume_keep {vv qq s r} (h_s : Keep vv qq s) :
    Keep vv qq (State.gfxResume s r) := by
  delta State.gfxResume
  extract_lets code_1 s1_2 u_3
  have h_s1_2 : Keep vv qq s1_2 := by
      unfold s1_2
      exact wr_keep (Keep.ite (dropWait_keep h_s) h_s)
  clear_value s1_2
  exact Keep.ite (gfxEnd_keep h_s) (setGfx_keep (Keep.upd h_s1_2))

theorem gfxBoundary_keep {vv qq s e} (h_s : Keep vv qq s) :
    Keep vv qq (State.gfxBoundary s e) := by
  delta State.gfxBoundary
  exact Keep.ite h_s (Keep.ite h_s (by
      split
      · exact gfxResume_keep h_s
      · split
        · exact startJob_keep h_s
        · exact h_s))

theorem passStores_keep {vv qq s r fx} (h_s : Keep vv qq s) :
    KeepP vv qq (State.passStores s r fx) := by
  delta State.passStores
  exact KeepP.ite (KeepP.mk h_s) (KeepP.foldl (KeepP.mk h_s) (fun t1 x2 h3 => by
      extract_lets q_4
      have h_q_4 : KeepP vv qq q_4 := by
          unfold q_4
          exact clearRows_keep (KeepP.fst h3)
      clear_value q_4
      exact KeepP.mk (KeepP.fst h_q_4)))

theorem gfxStores_keep {vv qq s r hint stores k} (h_s : Keep vv qq s) (h_k : ∀ y0 y1, Keep vv qq y0 → Keep vv qq (k y0 y1)) :
    Keep vv qq (State.gfxStores s r hint stores k) := by
  delta State.gfxStores
  extract_lets refusal_1 good_2 r1_3
  split
  · exact gfxAccess_keep h_s
  · exact h_k _ _ h_s

theorem gfxPassEnd_keep {vv qq s r fx k} (h_s : Keep vv qq s) (h_k : ∀ y0 y1, Keep vv qq y0 → Keep vv qq (k y0 y1)) :
    Keep vv qq (State.gfxPassEnd s r fx k) := by
  delta State.gfxPassEnd
  exact Keep.ite (h_k _ _ h_s) (by
      extract_lets p_1
      have h_p_1 : KeepP vv qq p_1 := by
          unfold p_1
          exact passStores_keep (count_keep h_s)
      clear_value p_1
      exact gfxStores_keep (KeepP.fst h_p_1) (fun t2 x4 h3 => gfxFlush_keep h3 (fun t5 x7 h6 => h_k _ _ h6)))

theorem gfxRead_keep {vv qq s r a n} (h_s : Keep vv qq s) :
    Keep vv qq (State.gfxRead s r a n) := by
  delta State.gfxRead
  exact count_keep (fetched_keep h_s)

theorem gfxReads_keep {vv qq s r reads k} (h_s : Keep vv qq s) (h_k : ∀ y0, Keep vv qq y0 → Keep vv qq (k y0)) :
    Keep vv qq (State.gfxReads s r reads k) := by
  delta State.gfxReads
  extract_lets p_1
  have h_p_1 : KeepP vv qq p_1 := by
      unfold p_1
      exact KeepP.foldl (KeepP.mk h_s) (fun t2 x3 h4 => KeepP.ite h4 (by
          split
          · exact KeepP.mk (KeepP.fst h4)
          · exact KeepP.mk (gfxRead_keep (KeepP.fst h4))))
  clear_value p_1
  split
  · exact gfxAccess_keep (KeepP.fst h_p_1)
  · exact h_k _ (KeepP.fst h_p_1)

theorem gfxWork_keep {vv qq s r fx k} (h_s : Keep vv qq s) (h_k : ∀ y0 y1, Keep vv qq y0 → Keep vv qq (k y0 y1)) :
    Keep vv qq (State.gfxWork s r fx k) := by
  delta State.gfxWork
  extract_lets p_1
  have h_p_1 : KeepP vv qq p_1 := by
      unfold p_1
      exact gfxBin_keep h_s
  clear_value p_1
  exact gfxReads_keep (KeepP.fst h_p_1) (fun t2 h3 => gfxStores_keep h3 (fun t4 x6 h5 => h_k _ _ h5))

theorem gfxNext_keep {vv qq s r n} (h_s : Keep vv qq s) :
    Keep vv qq (State.gfxNext s r n) := by
  delta State.gfxNext
  exact Keep.upd h_s

theorem gfxDispatch_keep {vv qq s r fx grid len} (h_s : Keep vv qq s) :
    Keep vv qq (State.gfxDispatch s r fx grid len) := by
  delta State.gfxDispatch
  exact gfxPassEnd_keep h_s (fun t1 x3 h2 => Keep.ite (gfxWork_keep (count_keep h2) (fun t4 x6 h5 => gfxNext_keep h5)) (gfxNext_keep h2))

theorem gfxDraw_keep {vv qq s r fx n len} (h_s : Keep vv qq s) :
    Keep vv qq (State.gfxDraw s r fx n len) := by
  delta State.gfxDraw
  exact Keep.ite (gfxBad_keep h_s) (gfxWork_keep (count_keep h_s) (fun t1 x3 h2 => gfxNext_keep h2))

theorem gfxHold_keep {vv qq s r phase ctxState} (h_s : Keep vv qq s) :
    Keep vv qq (State.gfxHold s r phase ctxState) := by
  delta State.gfxHold
  extract_lets t_1 u_2
  have h_t_1 : Keep vv qq t_1 := by
      unfold t_1
      exact wr_keep (setGfx_keep h_s)
  clear_value t_1
  exact gfxShow_keep (Keep.upd h_t_1)

theorem gfxKill_keep {vv qq s e} (h_s : Keep vv qq s) :
    Keep vv qq (State.gfxKill s e) := by
  delta State.gfxKill
  split
  · exact h_s
  · exact Keep.ite h_s (gfxFault_keep (raise_keep h_s))

theorem gfxLoad_keep {vv qq s r a n k} (h_s : Keep vv qq s) (h_k : ∀ y0, Keep vv qq y0 → Keep vv qq (k y0)) :
    Keep vv qq (State.gfxLoad s r a n k) := by
  delta State.gfxLoad
  split
  · exact gfxAccess_keep h_s
  · exact h_k _ (gfxRead_keep h_s)

theorem gfxPacket_keep {vv qq s e op sub k} (h_s : Keep vv qq s) (h_k : ∀ y0 y1 y2, Keep vv qq y0 → Keep vv qq (k y0 y1 y2)) :
    Keep vv qq (State.gfxPacket s e op sub k) := by
  delta State.gfxPacket
  split
  · exact h_s
  · exact Keep.ite h_s (by
        extract_lets a_6 h_7 len_8 w1_9 n_10
        split
        · exact gfxAccess_keep h_s
        · exact Keep.ite (gfxBad_keep (gfxRead_keep h_s)) (Keep.ite h_s (by
              split
              · exact gfxAccess_keep h_s
              · exact h_k _ _ _ (gfxRead_keep h_s))))

theorem gfxPreempt_keep {vv qq s e} (h_s : Keep vv qq s) :
    Keep vv qq (State.gfxPreempt s e) := by
  delta State.gfxPreempt
  split
  · exact h_s
  · exact Keep.ite h_s (gfxHold_keep h_s)

theorem gfxStamp_keep {vv qq s e sub} (h_s : Keep vv qq s) :
    Keep vv qq (State.gfxStamp s e sub) := by
  delta State.gfxStamp
  exact gfxPacket_keep h_s (fun t1 x3 x4 h2 => by
      extract_lets a_5
      exact Keep.ite (gfxBad_keep h2) (gfxStores_keep h2 (fun t6 x8 h7 => gfxNext_keep h7)))

theorem gfxState_keep {vv qq s e sub} (h_s : Keep vv qq s) :
    Keep vv qq (State.gfxState s e sub) := by
  delta State.gfxState
  exact gfxPacket_keep h_s (fun t1 x3 x4 h2 => gfxNext_keep h2)

theorem execCompositorPreempt_keep {vv qq e us stuck s} (h_s : Keep vv qq s) :
    KeepN vv qq (execCompositorPreempt e us stuck s) := by
  delta execCompositorPreempt
  exact KeepN.next (by
      split
      · exact h_s
      · extract_lets s0_6 late_7 s1_8 s2_9 s3_10
        have h_s0_6 : Keep vv qq s0_6 := by
            unfold s0_6
            exact gfxBegin_keep h_s
        have h_late_7 : ∀ y0 y1, Keep vv qq y0 → Keep vv qq (late_7 y0 y1) := by
            intro t11 x13 h12
            unfold late_7
            exact Keep.ite (gfxKill_keep h12) h12
        have h_s1_8 : Keep vv qq s1_8 := by
            unfold s1_8
            exact count_keep (gfxPreempt_keep (gfxPreempt_keep (h_late_7 _ _ (h_late_7 _ _ h_s0_6))))
        have h_s2_9 : Keep vv qq s2_9 := by
            unfold s2_9
            exact gfxBegin_keep (startJob_keep h_s1_8)
        have h_s3_10 : Keep vv qq s3_10 := by
            unfold s3_10
            exact wr_keep h_s2_9
        clear_value s0_6 late_7 s1_8 s2_9 s3_10
        exact Keep.ite h_s (Keep.ite (eventPage_keep (raise_keep (count_keep h_s3_10))) h_s3_10))

theorem execGfxBarrier_keep {vv qq e s} (h_s : Keep vv qq s) :
    KeepN vv qq (execGfxBarrier e s) := by
  delta execGfxBarrier
  exact KeepN.next (gfxPacket_keep h_s (fun t1 x3 x4 h2 => Keep.ite (gfxBad_keep h2) (gfxFlush_keep h2 (fun t5 x7 h6 => gfxNext_keep h6))))

theorem execGfxBindIndex_keep {vv qq e s} (h_s : Keep vv qq s) :
    KeepN vv qq (execGfxBindIndex e s) := by
  delta execGfxBindIndex
  exact KeepN.next (gfxPacket_keep h_s (fun t1 x3 x4 h2 => Keep.ite (gfxBad_keep h2) (gfxNext_keep h2)))

theorem execGfxBindPipeline_keep {vv qq e s} (h_s : Keep vv qq s) :
    KeepN vv qq (execGfxBindPipeline e s) := by
  delta execGfxBindPipeline
  exact KeepN.next (gfxPacket_keep h_s (fun t1 x3 x4 h2 => by
      extract_lets a_5
      exact Keep.ite (gfxBad_keep h2) (gfxLoad_keep h2 (fun t6 h7 => Keep.ite (gfxBad_keep h7) (Keep.ite (gfxReject_keep (count_keep h7)) (gfxNext_keep h7))))))

theorem execGfxBindPush_keep {vv qq e s} (h_s : Keep vv qq s) :
    KeepN vv qq (execGfxBindPush e s) := by
  delta execGfxBindPush
  exact KeepN.next (gfxPacket_keep h_s (fun t1 x3 x4 h2 => by
      extract_lets off_5 n_6
      exact Keep.ite (gfxBad_keep h2) (gfxNext_keep h2)))

theorem execGfxBindSet_keep {vv qq e s} (h_s : Keep vv qq s) :
    KeepN vv qq (execGfxBindSet e s) := by
  delta execGfxBindSet
  exact KeepN.next (gfxPacket_keep h_s (fun t1 x3 x4 h2 => Keep.ite (gfxBad_keep h2) (gfxNext_keep h2)))

theorem execGfxBindVertex_keep {vv qq e s} (h_s : Keep vv qq s) :
    KeepN vv qq (execGfxBindVertex e s) := by
  delta execGfxBindVertex
  exact KeepN.next (gfxPacket_keep h_s (fun t1 x3 x4 h2 => by
      extract_lets n_5 f_6
      exact Keep.ite (gfxBad_keep h2) (gfxNext_keep h2)))

theorem execGfxCtxFault_keep {vv qq e cause code addr s} (h_s : Keep vv qq s) :
    KeepN vv qq (execGfxCtxFault e cause code addr s) := by
  delta execGfxCtxFault
  exact KeepN.next (by
      split
      · exact h_s
      · exact Keep.ite h_s (by
            extract_lets t_6
            have h_t_6 : Keep vv qq t_6 := by
                unfold t_6
                exact Keep.ite (memRecord_keep h_s) h_s
            clear_value t_6
            exact gfxFault_keep h_t_6))

theorem execGfxDispatchDirect_keep {vv qq e fx s} (h_s : Keep vv qq s) :
    KeepN vv qq (execGfxDispatchDirect e fx s) := by
  delta execGfxDispatchDirect
  exact KeepN.next (gfxPacket_keep h_s (fun t1 x3 x4 h2 => Keep.ite (gfxBad_keep h2) (gfxDispatch_keep h2)))

theorem execGfxDispatchIndirect_keep {vv qq e fx s} (h_s : Keep vv qq s) :
    KeepN vv qq (execGfxDispatchIndirect e fx s) := by
  delta execGfxDispatchIndirect
  exact KeepN.next (gfxPacket_keep h_s (fun t1 x3 x4 h2 => by
      extract_lets a_5
      exact Keep.ite (gfxBad_keep h2) (gfxLoad_keep h2 (fun t6 h7 => by
          extract_lets c_8
          exact Keep.ite (gfxBad_keep h7) (gfxDispatch_keep h7)))))

theorem execGfxDrawDirect_keep {vv qq e fx s} (h_s : Keep vv qq s) :
    KeepN vv qq (execGfxDrawDirect e fx s) := by
  delta execGfxDrawDirect
  exact KeepN.next (gfxPacket_keep h_s (fun t1 x3 x4 h2 => gfxDraw_keep h2))

theorem execGfxDrawIndexed_keep {vv qq e fx s} (h_s : Keep vv qq s) :
    KeepN vv qq (execGfxDrawIndexed e fx s) := by
  delta execGfxDrawIndexed
  exact KeepN.next (gfxPacket_keep h_s (fun t1 x3 x4 h2 => gfxDraw_keep h2))

theorem execGfxDrawIndirect_keep {vv qq e fx s} (h_s : Keep vv qq s) :
    KeepN vv qq (execGfxDrawIndirect e fx s) := by
  delta execGfxDrawIndirect
  exact KeepN.next (gfxPacket_keep h_s (fun t1 x3 x4 h2 => by
      extract_lets a_5 n_6 st_7 size_8
      exact Keep.ite (gfxBad_keep h2) (by
          split
          · exact gfxAccess_keep h2
          · exact gfxDraw_keep (Keep.foldl h2 (fun t14 x15 h16 => gfxRead_keep h16)))))

theorem execGfxJobEnd_keep {vv qq e fx s} (h_s : Keep vv qq s) :
    KeepN vv qq (execGfxJobEnd e fx s) := by
  delta execGfxJobEnd
  exact KeepN.next (by
      split
      · exact h_s
      · exact Keep.ite h_s (gfxPassEnd_keep h_s (fun t6 x8 h7 => gfxFlush_keep h7 (fun t9 x11 h10 => by
            extract_lets d_12
            exact Keep.ite (by
                split
                · rename_i a15
                  have h16 := KeepP.eq (v := vv) (q := qq) a15 (signal_keep h10)
                  exact gfxEnd_keep h16
                · rename_i a21
                  have h22 := KeepP.eq (v := vv) (q := qq) a21 (signal_keep h10)
                  exact gfxEnd_keep h22) (gfxEnd_keep h10)))))

theorem execGfxSignal_keep {vv qq e s} (h_s : Keep vv qq s) :
    KeepN vv qq (execGfxSignal e s) := by
  delta execGfxSignal
  exact KeepN.next (gfxPacket_keep h_s (fun t1 x3 x4 h2 => by
      extract_lets f_5
      exact gfxFlush_keep h2 (fun t6 x8 h7 => by
          split
          · rename_i a11
            have h12 := KeepP.eq (v := vv) (q := qq) a11 (signal_keep h7)
            exact gfxNext_keep h12
          · rename_i a17
            have h18 := KeepP.eq (v := vv) (q := qq) a17 (signal_keep h7)
            exact gfxEnd_keep h18)))

theorem execGfxStateBlendConst_keep {vv qq e s} (h_s : Keep vv qq s) :
    KeepN vv qq (execGfxStateBlendConst e s) := by
  delta execGfxStateBlendConst
  exact KeepN.next (gfxState_keep h_s)

theorem execGfxStateDepthBias_keep {vv qq e s} (h_s : Keep vv qq s) :
    KeepN vv qq (execGfxStateDepthBias e s) := by
  delta execGfxStateDepthBias
  exact KeepN.next (gfxState_keep h_s)

theorem execGfxStateScissor_keep {vv qq e s} (h_s : Keep vv qq s) :
    KeepN vv qq (execGfxStateScissor e s) := by
  delta execGfxStateScissor
  exact KeepN.next (gfxState_keep h_s)

theorem execGfxStateStencilRef_keep {vv qq e s} (h_s : Keep vv qq s) :
    KeepN vv qq (execGfxStateStencilRef e s) := by
  delta execGfxStateStencilRef
  exact KeepN.next (gfxState_keep h_s)

theorem execGfxStateTargets_keep {vv qq e fx s} (h_s : Keep vv qq s) :
    KeepN vv qq (execGfxStateTargets e fx s) := by
  delta execGfxStateTargets
  exact KeepN.next (gfxPacket_keep h_s (fun t1 x3 x4 h2 => by
      extract_lets n_5 ds_6 smp_7 tab_8 cnt_9
      exact gfxPassEnd_keep h2 (fun t10 x12 h11 => Keep.ite (gfxBad_keep h11) (gfxLoad_keep h11 (fun t13 h14 => by
          extract_lets w0_15 h0_16
          exact Keep.ite (gfxNext_keep h14) (gfxBad_keep h14))))))

theorem execGfxStateViewport_keep {vv qq e s} (h_s : Keep vv qq s) :
    KeepN vv qq (execGfxStateViewport e s) := by
  delta execGfxStateViewport
  exact KeepN.next (gfxState_keep h_s)

theorem execGfxSubmission_keep {vv qq e s} (h_s : Keep vv qq s) :
    KeepN vv qq (execGfxSubmission e s) := by
  delta execGfxSubmission
  exact KeepN.next (gfxBegin_keep h_s)

theorem execGfxTimestampBottom_keep {vv qq e s} (h_s : Keep vv qq s) :
    KeepN vv qq (execGfxTimestampBottom e s) := by
  delta execGfxTimestampBottom
  exact KeepN.next (gfxStamp_keep h_s)

theorem execGfxTimestampTop_keep {vv qq e s} (h_s : Keep vv qq s) :
    KeepN vv qq (execGfxTimestampTop e s) := by
  delta execGfxTimestampTop
  exact KeepN.next (gfxStamp_keep h_s)

theorem execGfxWait_keep {vv qq e s} (h_s : Keep vv qq s) :
    KeepN vv qq (execGfxWait e s) := by
  delta execGfxWait
  exact KeepN.next (gfxPacket_keep h_s (fun t1 x3 x4 h2 => Keep.ite (gfxBad_keep h2) (by
      extract_lets u_5
      have h_u_5 : Keep vv qq u_5 := by
          unfold u_5
          exact Keep.ite h2 (addWait_keep h2)
      clear_value u_5
      split
      · exact h_u_5
      · exact Keep.ite (gfxNext_keep (dropWait_keep h_u_5)) (Keep.ite (gfxEnd_keep h_u_5) (Keep.ite h_u_5 (gfxHold_keep h_u_5))))))

theorem execJobLimitExpiry_keep {vv qq e s} (h_s : Keep vv qq s) :
    KeepN vv qq (execJobLimitExpiry e s) := by
  delta execJobLimitExpiry
  exact KeepN.next (by
      split
      · exact h_s
      · exact Keep.ite h_s (gfxFault_keep h_s))

theorem execPreemptKillExpiry_keep {vv qq e us s} (h_s : Keep vv qq s) :
    KeepN vv qq (execPreemptKillExpiry e us s) := by
  delta execPreemptKillExpiry
  exact KeepN.next (Keep.ite h_s (gfxKill_keep h_s))

end Sys2Proof.Laws
end

