-- ==== Sys2Proof/Laws/KeepJobs.lean ====
section
/-! SUPPORT. The operations and commands of Machine/Jobs.lean keep the variant, the queue and the canonical form of the memories. -/

set_option Elab.async false

namespace Sys2Proof.Laws

open Machine

theorem dmaBegin_keep {vv qq s n} (h_s : Keep vv qq s) :
    Keep vv qq (State.dmaBegin s n) := by
  delta State.dmaBegin
  split
  · exact h_s
  · extract_lets k_6 s1_7
    have h_s1_7 : Keep vv qq s1_7 := by
        unfold s1_7
        exact count_keep (wr_keep (wr_keep (wr_keep (setJob_keep h_s))))
    clear_value s1_7
    exact Keep.ite (dmaEnd_keep h_s1_7) h_s1_7

theorem dmaBoundary_keep {vv qq s n} (h_s : Keep vv qq s) :
    Keep vv qq (State.dmaBoundary s n) := by
  delta State.dmaBoundary
  exact Keep.ite h_s (by
      split
      · exact dmaBegin_keep (startJob_keep h_s)
      · exact h_s)

theorem ringTimeout_keep {vv qq s r} (h_s : Keep vv qq s) :
    Keep vv qq (State.ringTimeout s r) := by
  delta State.ringTimeout
  extract_lets c_1
  split
  · exact h_s
  · split
    · exact h_s
    · exact Keep.ite (settle_keep (count_keep (endUnstarted_keep h_s))) h_s

theorem setWait_keep {vv qq s x} (h_s : Keep vv qq s) :
    Keep vv qq (State.setWait s x) := by
  delta State.setWait
  exact Keep.upd h_s

theorem execFenceTimeout_keep {vv qq f s} (h_s : Keep vv qq s) :
    KeepN vv qq (execFenceTimeout f s) := by
  delta execFenceTimeout
  exact KeepN.next (by
      split
      · exact ringTimeout_keep h_s
      · split
        · exact Keep.ite h_s (discardAll_keep (count_keep (setWait_keep h_s)))
        · exact h_s)

theorem execFenceWaitMet_keep {vv qq f s} (h_s : Keep vv qq s) :
    KeepN vv qq (execFenceWaitMet f s) := by
  delta execFenceWaitMet
  exact KeepN.next (by
      split
      · exact Keep.ite (settle_keep h_s) h_s
      · split
        · exact h_s
        · extract_lets t_10
          have h_t_10 : KeepP vv qq t_10 := by
              unfold t_10
              exact testWait_keep h_s
          clear_value t_10
          exact discardAll_keep (setWait_keep (KeepP.fst h_t_10)))

theorem execJobStart_keep {vv qq cls n s} (h_s : Keep vv qq s) :
    KeepN vv qq (execJobStart cls n s) := by
  delta execJobStart
  exact KeepN.next (by
      split
      · exact Keep.ite (gfxBoundary_keep h_s) h_s
      · exact Keep.ite (compBoundary_keep h_s) h_s
      · exact Keep.ite (dmaBoundary_keep h_s) h_s
      · exact h_s)

end Sys2Proof.Laws
end

