-- ==== Sys2Proof/Laws/KeepPot.lean ====
section
/-! SUPPORT. The operations and commands of Machine/Pot.lean keep the variant, the queue and the canonical form of the memories. -/

set_option Elab.async false

namespace Sys2Proof.Laws

open Machine

theorem startEpoch_keep {vv qq s op owner set} (h_s : Keep vv qq s) :
    Keep vv qq (State.startEpoch s op owner set) := by
  delta State.startEpoch
  extract_lets old_1 s1_2 scrub_3 u_4 s2_5
  have h_s1_2 : Keep vv qq s1_2 := by
      unfold s1_2
      exact Keep.foldl h_s (fun t6 x7 h8 => setPotEntry_keep h8)
  have h_s2_5 : Keep vv qq s2_5 := by
      unfold s2_5
      exact Keep.upd h_s1_2
  clear_value s1_2 s2_5
  exact count_keep (wr_keep (wr_keep (wr_keep h_s2_5)))

theorem potCommand_keep {vv qq s w op keep} (h_s : Keep vv qq s) :
    Keep vv qq (State.potCommand s w op keep) := by
  delta State.potCommand
  exact onWrite_keep h_s (fun t1 h2 => by
      split
      · exact refuse_keep h2
      · exact recErr_keep h2
      · extract_lets t1_11 g_12 u_13
        have h_t1_11 : Keep vv qq t1_11 := by
            unfold t1_11
            exact count_keep h2
        clear_value t1_11
        exact Keep.ite (startEpoch_keep (Keep.upd h_t1_11)) (startEpoch_keep h_t1_11))

theorem endEpoch_keep {vv qq s} (h_s : Keep vv qq s) :
    Keep vv qq (State.endEpoch s) := by
  delta State.endEpoch
  extract_lets s1_1 s2_2 u_3
  have h_s1_1 : Keep vv qq s1_1 := by
      unfold s1_1
      exact Keep.foldl h_s (fun t4 x5 h6 => setPotEntry_keep (zeroPage_keep h6))
  have h_s2_2 : Keep vv qq s2_2 := by
      unfold s2_2
      exact count_keep h_s1_1
  clear_value s1_1 s2_2
  exact wr_keep (wr_keep (Keep.upd h_s2_2))

theorem portsDrop_keep {vv qq s} (h_s : Keep vv qq s) :
    Keep vv qq (State.portsDrop s) := by
  delta State.portsDrop
  extract_lets t_1 u_2
  have h_t_1 : Keep vv qq t_1 := by
      unfold t_1
      exact Keep.foldl h_s (fun t3 x4 h5 => Keep.ite h5 (portDrop_keep h5))
  clear_value t_1
  exact Keep.upd h_t_1

theorem startSweep_keep {vv qq s owner own} (h_s : Keep vv qq s) :
    Keep vv qq (State.startSweep s owner own) := by
  delta State.startSweep
  exact startEpoch_keep h_s

theorem execPotCmdDone_keep {vv qq s} (h_s : Keep vv qq s) :
    KeepN vv qq (execPotCmdDone s) := by
  delta execPotCmdDone
  exact KeepN.next (Keep.ite (raise_keep (endEpoch_keep h_s)) h_s)

theorem execPotEpochDrained_keep {vv qq s} (h_s : Keep vv qq s) :
    KeepN vv qq (execPotEpochDrained s) := by
  delta execPotEpochDrained
  exact KeepN.next (Keep.ite (by
      extract_lets t_1 u_2
      have h_t_1 : Keep vv qq t_1 := by
          unfold t_1
          exact portsDrop_keep h_s
      clear_value t_1
      exact Keep.upd h_t_1) h_s)

theorem execPotSet_keep {vv qq w keep s} (h_s : Keep vv qq s) :
    KeepN vv qq (execPotSet w keep s) := by
  delta execPotSet
  exact KeepN.next (potCommand_keep h_s)

theorem execPotSetAttr_keep {vv qq w keep s} (h_s : Keep vv qq s) :
    KeepN vv qq (execPotSetAttr w keep s) := by
  delta execPotSetAttr
  exact KeepN.next (potCommand_keep h_s)

theorem execPotShare_keep {vv qq w keep s} (h_s : Keep vv qq s) :
    KeepN vv qq (execPotShare w keep s) := by
  delta execPotShare
  exact KeepN.next (potCommand_keep h_s)

end Sys2Proof.Laws
end

