-- ==== Sys2Proof/Laws/KeepSafetyLink.lean ====
section
/-! SUPPORT. The operations and commands of Machine/SafetyLink.lean keep the variant, the queue and the canonical form of the memories. -/

set_option Elab.async false

namespace Sys2Proof.Laws

open Machine

theorem slAccept_keep {vv qq s seq} (h_s : Keep vv qq s) :
    Keep vv qq (State.slAccept s seq) := by
  delta State.slAccept
  extract_lets run_1 link_2 u_3 s1_4 s2_5
  have h_s1_4 : Keep vv qq s1_4 := by
      unfold s1_4
      exact Keep.upd h_s
  have h_s2_5 : Keep vv qq s2_5 := by
      unfold s2_5
      exact count_keep (wr_keep h_s1_4)
  clear_value s1_4 s2_5
  exact Keep.ite (wr_keep h_s2_5) h_s2_5

theorem slAnswer_keep {vv qq s type payload} (h_s : Keep vv qq s) :
    Keep vv qq (State.slAnswer s type payload) := by
  delta State.slAnswer
  exact Keep.upd h_s

theorem slLogs_keep {vv qq s first} (h_s : Keep vv qq s) :
    Keep vv qq (State.slLogs s first) := by
  delta State.slLogs
  extract_lets l_1
  exact Keep.foldl h_s (fun t2 x3 h4 => slAnswer_keep h4)

theorem slAct_keep {vv qq s seq type p} (h_s : Keep vv qq s) :
    Keep vv qq (State.slAct s seq type p) := by
  delta State.slAct
  exact Keep.ite (Keep.upd h_s) (Keep.ite (Keep.upd h_s) (Keep.ite (slLogs_keep h_s) (Keep.ite (wake_keep h_s) (slAnswer_keep h_s))))

theorem slError_keep {vv qq s code ctr} (h_s : Keep vv qq s) :
    Keep vv qq (State.slError s code ctr) := by
  delta State.slError
  extract_lets s1_1 u_2
  have h_s1_1 : Keep vv qq s1_1 := by
      unfold s1_1
      exact raise_keep (count_keep (wr_keep h_s))
  clear_value s1_1
  exact faultLine_keep (Keep.upd h_s1_1)

theorem slSend_keep {vv qq s} (h_s : Keep vv qq s) :
    Keep vv qq (State.slSend s) := by
  delta State.slSend
  extract_lets c_1
  split
  · exact wr_keep (Keep.upd h_s)

theorem slTransaction_keep {vv qq s d} (h_s : Keep vv qq s) :
    Keep vv qq (State.slTransaction s d) := by
  delta State.slTransaction
  exact Keep.ite h_s (by
      extract_lets u_1 s0_2 seq_3 s1_4
      have h_s0_2 : Keep vv qq s0_2 := by
          unfold s0_2
          exact Keep.upd h_s
      have h_s1_4 : Keep vv qq s1_4 := by
          unfold s1_4
          exact slSend_keep h_s0_2
      clear_value s0_2 s1_4
      exact Keep.ite (slAnswer_keep (slError_keep h_s0_2)) (Keep.ite (slAnswer_keep (slError_keep h_s1_4)) (Keep.ite (slAnswer_keep (slError_keep h_s1_4)) (slAct_keep (slAccept_keep h_s1_4)))))

theorem execSlClear_keep {vv qq seq s} (h_s : Keep vv qq s) :
    KeepN vv qq (execSlClear seq s) := by
  delta execSlClear
  exact KeepN.next (slTransaction_keep h_s)

theorem execSlLogReq_keep {vv qq seq first s} (h_s : Keep vv qq s) :
    KeepN vv qq (execSlLogReq seq first s) := by
  delta execSlLogReq
  exact KeepN.next (slTransaction_keep h_s)

theorem execSlState_keep {vv qq seq machine needed vis s} (h_s : Keep vv qq s) :
    KeepN vv qq (execSlState seq machine needed vis s) := by
  delta execSlState
  exact KeepN.next (slTransaction_keep h_s)

theorem execSlTimeout_keep {vv qq s} (h_s : Keep vv qq s) :
    KeepN vv qq (execSlTimeout s) := by
  delta execSlTimeout
  exact KeepN.next (Keep.ite h_s (slError_keep (Keep.upd h_s)))

theorem execSlTransaction_keep {vv qq d s} (h_s : Keep vv qq s) :
    KeepN vv qq (execSlTransaction d s) := by
  delta execSlTransaction
  exact KeepN.next (slTransaction_keep h_s)

theorem execSlWake_keep {vv qq seq s} (h_s : Keep vv qq s) :
    KeepN vv qq (execSlWake seq s) := by
  delta execSlWake
  exact KeepN.next (slTransaction_keep h_s)

end Sys2Proof.Laws
end

