-- ==== Sys2Proof/Laws/KeepWorlds.lean ====
section
/-! SUPPORT. The operations and commands of Machine/Worlds.lean keep the variant, the queue and the canonical form of the memories. -/

set_option Elab.async false

namespace Sys2Proof.Laws

open Machine

theorem setFrame_keep {vv qq s h v frame st} (h_s : Keep vv qq s) :
    Keep vv qq (State.setFrame s h v frame st) := by
  delta State.setFrame
  exact put_keep h_s

theorem setHart_keep {vv qq s h c} (h_s : Keep vv qq s) :
    Keep vv qq (State.setHart s h c) := by
  delta State.setHart
  exact Keep.upd h_s

theorem leaveVale_keep {vv qq s v} (h_s : Keep vv qq s) :
    Keep vv qq (State.leaveVale s v) := by
  delta State.leaveVale
  exact wr_keep h_s

theorem valeFault_keep {vv qq s h} (h_s : Keep vv qq s) :
    Keep vv qq (State.valeFault s h) := by
  delta State.valeFault
  extract_lets c_1
  split
  · exact h_s
  · extract_lets ok_7 s1_8
    have h_s1_8 : Keep vv qq s1_8 := by
        unfold s1_8
        exact Keep.ite (setFrame_keep h_s) h_s
    clear_value s1_8
    exact setHart_keep (count_keep (leaveVale_keep h_s1_8))

theorem trapTo_keep {vv qq s h virt interrupt cause stval htval epc} (h_s : Keep vv qq s) :
    Keep vv qq (State.trapTo s h virt interrupt cause stval htval epc) := by
  delta State.trapTo
  exact setHart_keep h_s

theorem poisonFault_keep {vv qq s h virt fetch} (h_s : Keep vv qq s) :
    Keep vv qq (State.poisonFault s h virt fetch) := by
  delta State.poisonFault
  split
  · exact valeFault_keep h_s
  · exact trapTo_keep (Keep.upd h_s)

theorem freeVale_keep {vv qq s v} (h_s : Keep vv qq s) :
    Keep vv qq (State.freeVale s v) := by
  delta State.freeVale
  extract_lets p_1 s1_2 u_3
  have h_s1_2 : Keep vv qq s1_2 := by
      unfold s1_2
      exact wr_keep (wr_keep (wr_keep (pinsReturn_keep h_s)))
  clear_value s1_2
  exact Keep.upd h_s1_2

theorem worldRefuse_keep {vv qq s w code off} (h_s : Keep vv qq s) :
    Keep vv qq (State.worldRefuse s w code off) := by
  delta State.worldRefuse
  exact refuse_keep h_s

theorem valeCmd_keep {vv qq s w op gate allowed k} (h_s : Keep vv qq s) (h_k : ∀ y0 y1, Keep vv qq y0 → Keep vv qq (k y0 y1)) :
    Keep vv qq (State.valeCmd s w op gate allowed k) := by
  delta State.valeCmd
  exact onWrite_keep h_s (fun t1 h2 => by
      extract_lets v_3
      exact Keep.ite (worldRefuse_keep h2) (h_k _ _ h2))

theorem valeRun_keep {vv qq s v op bad} (h_s : Keep vv qq s) :
    Keep vv qq (State.valeRun s v op bad) := by
  delta State.valeRun
  exact wr_keep (Keep.upd h_s)

theorem setDigest_keep {vv qq s v h} (h_s : Keep vv qq s) :
    Keep vv qq (State.setDigest s v h) := by
  delta State.setDigest
  exact Keep.foldl h_s (fun t1 x2 h3 => wr_keep h3)

theorem valeOpen_keep {vv qq s w} (h_s : Keep vv qq s) :
    Keep vv qq (State.valeOpen s w) := by
  delta State.valeOpen
  exact valeCmd_keep h_s (fun t1 x3 h2 => by
      extract_lets p_4 t1_5 u_6 t2_7
      have h_t1_5 : Keep vv qq t1_5 := by
          unfold t1_5
          exact wr_keep (wr_keep (wr_keep h2))
      have h_t2_7 : Keep vv qq t2_7 := by
          unfold t2_7
          exact Keep.upd h_t1_5
      clear_value t1_5 t2_7
      exact Keep.ite (worldRefuse_keep h2) (valeRun_keep (setDigest_keep h_t2_7)))

theorem loadPage_keep {vv qq s v src dst gate} (h_s : Keep vv qq s) :
    Keep vv qq (State.loadPage s v src dst gate) := by
  delta State.loadPage
  extract_lets d_1 msg_2 h_3 s1_4 u_5 s2_6 s3_7
  have h_s1_4 : Keep vv qq s1_4 := by
      unfold s1_4
      exact setDigest_keep (put_keep (fetched_keep h_s))
  have h_s2_6 : Keep vv qq s2_6 := by
      unfold s2_6
      exact Keep.upd h_s1_4
  have h_s3_7 : Keep vv qq s3_7 := by
      unfold s3_7
      exact Keep.ite (setPotEntry_keep h_s2_6) h_s2_6
  clear_value s1_4 s2_6 s3_7
  exact count_keep (wr_keep h_s3_7)

theorem valeLoad_keep {vv qq s w gate} (h_s : Keep vv qq s) :
    Keep vv qq (State.valeLoad s w gate) := by
  delta State.valeLoad
  exact valeCmd_keep h_s (fun t1 x3 h2 => by
      extract_lets n_4 src_5 dst_6 ok_7 bad_8 t1_9
      have h_t1_9 : Keep vv qq t1_9 := by
          unfold t1_9
          exact Keep.foldl h2 (fun t10 x11 h12 => loadPage_keep h12)
      clear_value t1_9
      exact Keep.ite (valeRun_keep (count_keep (wr_keep h_t1_9))) (valeRun_keep (by
          clear_value bad_8
          split
          · exact memRecord_keep h2
          · exact h2)))

theorem valeSeal_keep {vv qq s w} (h_s : Keep vv qq s) :
    Keep vv qq (State.valeSeal s w) := by
  delta State.valeSeal
  exact valeCmd_keep h_s (fun t1 x3 h2 => by
      extract_lets h_4
      exact valeRun_keep (wr_keep (setDigest_keep h2)))

theorem valeClose_keep {vv qq s w} (h_s : Keep vv qq s) :
    Keep vv qq (State.valeClose s w) := by
  delta State.valeClose
  exact valeCmd_keep h_s (fun t1 x3 h2 => Keep.ite (worldRefuse_keep h2) (valeRun_keep h2))

theorem dmaOwner_keep {vv qq s w k v} (h_s : Keep vv qq s) :
    Keep vv qq (State.dmaOwner s w k v) := by
  delta State.dmaOwner
  extract_lets off_1 o_2
  exact onWrite_keep h_s (fun t3 h4 => Keep.ite (worldRefuse_keep h4) (wr_keep h4))

theorem awake_keep {vv qq s h} (h_s : Keep vv qq s) :
    Keep vv qq (State.awake s h) := by
  delta State.awake
  exact setHart_keep h_s

theorem illegal_keep {vv qq s h virt pc} (h_s : Keep vv qq s) :
    Keep vv qq (State.illegal s h virt pc) := by
  delta State.illegal
  split
  · exact valeFault_keep h_s
  · exact trapTo_keep (Keep.upd h_s)

theorem passFault_keep {vv qq s h virt pc code} (h_s : Keep vv qq s) :
    Keep vv qq (State.passFault s h virt pc code) := by
  delta State.passFault
  exact setHart_keep (count_keep h_s)

theorem xlatFault_keep {vv qq s h virt pc guest fetch va} (h_s : Keep vv qq s) :
    Keep vv qq (State.xlatFault s h virt pc guest fetch va) := by
  delta State.xlatFault
  exact trapTo_keep h_s

theorem passEnterGo_keep {vv qq s h r1 r2 ctx v frame frameVa entry st} (h_s : Keep vv qq s) :
    Keep vv qq (State.passEnterGo s h r1 r2 ctx v frame frameVa entry st) := by
  delta State.passEnterGo
  extract_lets s1_1 s2_2 g_3 regs_4 u_5
  have h_s1_1 : Keep vv qq s1_1 := by
      unfold s1_1
      exact count_keep (setFrame_keep h_s)
  have h_s2_2 : Keep vv qq s2_2 := by
      unfold s2_2
      exact wr_keep h_s1_1
  clear_value s1_1 s2_2
  exact setHart_keep h_s2_2

theorem passEnter_keep {vv qq s h m r1 r2 ctx desc frame entry} (h_s : Keep vv qq s) :
    Keep vv qq (State.passEnter s h m r1 r2 ctx desc frame entry) := by
  delta State.passEnter
  extract_lets c_1 va_2 f_3 bad_4 poison_5
  have h_bad_4 : ∀ y0 y1, Keep vv qq y0 → Keep vv qq (bad_4 y0 y1) := by
      intro t6 x8 h7
      unfold bad_4
      exact passFault_keep h7
  have h_poison_5 : ∀ y0 y1 y2, Keep vv qq (poison_5 y0 y1 y2) := by
      intro x9 x10 x11
      unfold poison_5
      exact h_bad_4 _ _ (memRecord_keep h_s)
  clear_value bad_4 poison_5
  exact Keep.ite (h_bad_4 _ _ h_s) (Keep.ite (h_bad_4 _ _ h_s) (Keep.ite (h_bad_4 _ _ h_s) (by
      split
      · exact xlatFault_keep h_s
      · extract_lets pa_16 e_17 v_18 fva_19
        exact Keep.ite (h_bad_4 _ _ h_s) (by
            split
            · exact h_poison_5 _ _ _
            · exact Keep.ite (h_bad_4 _ _ h_s) (Keep.ite (h_bad_4 _ _ h_s) (Keep.ite (h_bad_4 _ _ h_s) (Keep.ite (h_bad_4 _ _ h_s) (by
                  split
                  · exact xlatFault_keep h_s
                  · extract_lets fr_29 st_30
                    exact Keep.ite (h_bad_4 _ _ h_s) (by
                        split
                        · exact h_poison_5 _ _ _
                        · exact Keep.ite (h_bad_4 _ _ h_s) (Keep.ite (passEnterGo_keep h_s) (by
                              split
                              · exact xlatFault_keep h_s
                              · exact Keep.ite (h_bad_4 _ _ h_s) (by
                                    split
                                    · exact h_poison_5 _ _ _
                                    · exact Keep.ite (h_bad_4 _ _ h_s) (passEnterGo_keep h_s)))))))))))))

theorem saveFrame_keep {vv qq s h v frame ctx} (h_s : Keep vv qq s) :
    Keep vv qq (State.saveFrame s h v frame ctx) := by
  delta State.saveFrame
  exact put_keep h_s

theorem suspend_keep {vv qq s h virt interrupt cause addr ctx} (h_s : Keep vv qq s) :
    Keep vv qq (State.suspend s h virt interrupt cause addr ctx) := by
  delta State.suspend
  extract_lets c_1 a_2
  split
  · exact trapTo_keep h_s
  · extract_lets ok_8 s1_9
    have h_s1_9 : Keep vv qq s1_9 := by
        unfold s1_9
        exact Keep.ite (setFrame_keep (saveFrame_keep h_s)) h_s
    clear_value s1_9
    exact setHart_keep (count_keep (leaveVale_keep h_s1_9))

theorem execCustom0Illegal_keep {vv qq h m pc w s} (h_s : Keep vv qq s) :
    KeepN vv qq (execCustom0Illegal h m pc w s) := by
  delta execCustom0Illegal
  exact KeepN.next (Keep.ite (illegal_keep h_s) h_s)

theorem execDmaOwnerWrite_keep {vv qq w k v s} (h_s : Keep vv qq s) :
    KeepN vv qq (execDmaOwnerWrite w k v s) := by
  delta execDmaOwnerWrite
  exact KeepN.next (dmaOwner_keep h_s)

theorem execInstanceTagWrite_keep {vv qq h m pc v s} (h_s : Keep vv qq s) :
    KeepN vv qq (execInstanceTagWrite h m pc v s) := by
  delta execInstanceTagWrite
  exact KeepN.next (Keep.ite (setHart_keep h_s) (illegal_keep h_s))

theorem execPassEnter_keep {vv qq h m r1 r2 ctx desc frame entry s} (h_s : Keep vv qq s) :
    KeepN vv qq (execPassEnter h m r1 r2 ctx desc frame entry s) := by
  delta execPassEnter
  exact KeepN.next (passEnter_keep h_s)

theorem execPassMark_keep {vv qq h s} (h_s : Keep vv qq s) :
    KeepN vv qq (execPassMark h s) := by
  delta execPassMark
  exact KeepN.next (awake_keep h_s)

theorem execPassRet_keep {vv qq h m ctx s} (h_s : Keep vv qq s) :
    KeepN vv qq (execPassRet h m ctx s) := by
  delta execPassRet
  extract_lets c_1
  exact KeepN.next (by
      split
      · exact passFault_keep h_s
      · exact Keep.ite (setHart_keep (count_keep (leaveVale_keep (setFrame_keep h_s)))) (valeFault_keep h_s))

theorem execSuspendingExit_keep {vv qq h m interrupt cause addr ctx s} (h_s : Keep vv qq s) :
    KeepN vv qq (execSuspendingExit h m interrupt cause addr ctx s) := by
  delta execSuspendingExit
  exact KeepN.next (suspend_keep h_s)

theorem execValeClose_keep {vv qq w s} (h_s : Keep vv qq s) :
    KeepN vv qq (execValeClose w s) := by
  delta execValeClose
  exact KeepN.next (valeClose_keep h_s)

theorem execValeCmdDone_keep {vv qq v s} (h_s : Keep vv qq s) :
    KeepN vv qq (execValeCmdDone v s) := by
  delta execValeCmdDone
  extract_lets k_1 op_2 s1_3 u_4 s2_5
  have h_s1_3 : Keep vv qq s1_3 := by
      unfold s1_3
      exact Keep.ite h_s (recErr_keep h_s)
  have h_s2_5 : Keep vv qq s2_5 := by
      unfold s2_5
      exact Keep.upd h_s1_3
  clear_value s1_3 s2_5
  exact KeepN.next (Keep.ite h_s (Keep.ite (Keep.ite (raise_keep (freeVale_keep (endEpoch_keep h_s))) h_s) (raise_keep (wr_keep h_s2_5))))

theorem execValeFaultExit_keep {vv qq h s} (h_s : Keep vv qq s) :
    KeepN vv qq (execValeFaultExit h s) := by
  delta execValeFaultExit
  exact KeepN.next (valeFault_keep h_s)

theorem execValeLoad_keep {vv qq w gate s} (h_s : Keep vv qq s) :
    KeepN vv qq (execValeLoad w gate s) := by
  delta execValeLoad
  exact KeepN.next (valeLoad_keep h_s)

theorem execValeOpen_keep {vv qq w s} (h_s : Keep vv qq s) :
    KeepN vv qq (execValeOpen w s) := by
  delta execValeOpen
  exact KeepN.next (valeOpen_keep h_s)

theorem execValeSeal_keep {vv qq w s} (h_s : Keep vv qq s) :
    KeepN vv qq (execValeSeal w s) := by
  delta execValeSeal
  exact KeepN.next (valeSeal_keep h_s)

theorem execWorldCsrAccess_keep {vv qq h m pc passcause write s} (h_s : Keep vv qq s) :
    KeepN vv qq (execWorldCsrAccess h m pc passcause write s) := by
  delta execWorldCsrAccess
  extract_lets c_1
  exact KeepN.next (Keep.ite (illegal_keep h_s) (Keep.ite (okResp_keep (awake_keep h_s)) (okResp_keep (awake_keep h_s))))

end Sys2Proof.Laws
end

