-- ==== Sys2Proof/Laws/KeepIsolation.lean ====
section
/-! SUPPORT. The operations and commands of Machine/Isolation.lean keep the variant, the queue and the canonical form of the memories. -/

set_option Elab.async false

namespace Sys2Proof.Laws

open Machine

theorem mbRefuse_keep {vv qq s w code off k} (h_s : Keep vv qq s) :
    Keep vv qq (State.mbRefuse s w code off k) := by
  delta State.mbRefuse
  exact refuse_keep h_s

theorem mbReach_keep {vv qq s w off write} (h_s : Keep vv qq s) :
    KeepS vv qq (State.mbReach s w off write) := by
  unfold State.mbReach
  refine KeepS.ite (KeepS.inl (errResp_keep h_s)) ?_
  cases w <;> dsimp only
  · exact KeepS.ite (KeepS.inl (Keep.ite (mbRefuse_keep h_s) (errResp_keep h_s))) KeepS.inr
  · exact KeepS.ite (KeepS.inl (refuse_keep h_s)) KeepS.inr
  · exact KeepS.ite (KeepS.inl (Keep.ite (mbRefuse_keep h_s) (errResp_keep h_s))) KeepS.inr
  · exact KeepS.ite (KeepS.inl (potRefuse_keep h_s)) KeepS.inr
  · exact KeepS.inl (errResp_keep h_s)

theorem mbSize_keep {vv qq s w off write} (h_s : Keep vv qq s) :
    Keep vv qq (State.mbSize s w off write) := by
  delta State.mbSize
  split
  · rename_i a3
    have h4 := KeepS.eq (v := vv) (q := qq) a3 (mbReach_keep h_s)
    exact h4
  · exact mbRefuse_keep h_s

theorem mbRead_keep {vv qq s w off} (h_s : Keep vv qq s) :
    Keep vv qq (State.mbRead s w off) := by
  delta State.mbRead
  split
  · rename_i a3
    have h4 := KeepS.eq (v := vv) (q := qq) a3 (mbReach_keep h_s)
    exact h4
  · extract_lets m_9
    exact Keep.ite (okResp_keep h_s) (Keep.ite (okResp_keep h_s) (Keep.ite (mbRefuse_keep h_s) (okResp_keep h_s)))

theorem mbWrite_keep {vv qq s w off v} (h_s : Keep vv qq s) :
    Keep vv qq (State.mbWrite s w off v) := by
  delta State.mbWrite
  split
  · rename_i a3
    have h4 := KeepS.eq (v := vv) (q := qq) a3 (mbReach_keep h_s)
    exact h4
  · extract_lets slot_9 u_10
    exact Keep.ite (mbRefuse_keep h_s) (Keep.ite (mbRefuse_keep h_s) (okResp_keep (Keep.upd h_s)))

theorem mbReserved_keep {vv qq s w off k v defined} (h_s : Keep vv qq s) :
    Keep vv qq (State.mbReserved s w off k v defined) := by
  delta State.mbReserved
  exact Keep.ite (recErr_keep h_s) h_s

theorem mbStat_keep {vv qq s w v} (h_s : Keep vv qq s) :
    Keep vv qq (State.mbStat s w v) := by
  delta State.mbStat
  split
  · rename_i a3
    have h4 := KeepS.eq (v := vv) (q := qq) a3 (mbReach_keep h_s)
    exact h4
  · exact okResp_keep (mbReserved_keep h_s)

theorem mbMark_keep {vv qq s w off k slots full toMgr} (h_s : Keep vv qq s) :
    Keep vv qq (State.mbMark s w off k slots full toMgr) := by
  delta State.mbMark
  extract_lets bad_1 good_2 m_3 u_4 s1_5 t_6 s2_7
  have h_s1_5 : Keep vv qq s1_5 := by
      unfold s1_5
      exact okResp_keep (Keep.upd h_s)
  have h_t_6 : Keep vv qq t_6 := by
      unfold t_6
      exact Keep.ite (raise_keep h_s1_5) h_s1_5
  have h_s2_7 : Keep vv qq s2_7 := by
      unfold s2_7
      exact Keep.ite h_s1_5 (notify_keep h_t_6)
  clear_value s1_5 t_6 s2_7
  exact Keep.foldl h_s2_7 (fun t8 x9 h10 => mbRefuse_keep h10)

theorem mbSend_keep {vv qq s w v} (h_s : Keep vv qq s) :
    Keep vv qq (State.mbSend s w v) := by
  delta State.mbSend
  split
  · rename_i a3
    have h4 := KeepS.eq (v := vv) (q := qq) a3 (mbReach_keep h_s)
    exact h4
  · exact mbMark_keep (mbReserved_keep h_s)

theorem mbAck_keep {vv qq s w v} (h_s : Keep vv qq s) :
    Keep vv qq (State.mbAck s w v) := by
  delta State.mbAck
  split
  · rename_i a3
    have h4 := KeepS.eq (v := vv) (q := qq) a3 (mbReach_keep h_s)
    exact h4
  · exact mbMark_keep (mbReserved_keep h_s)

theorem mbRearm_keep {vv qq s w v} (h_s : Keep vv qq s) :
    Keep vv qq (State.mbRearm s w v) := by
  delta State.mbRearm
  split
  · rename_i a3
    have h4 := KeepS.eq (v := vv) (q := qq) a3 (mbReach_keep h_s)
    exact h4
  · exact Keep.ite (mbRefuse_keep h_s) (by
        extract_lets t_9
        have h_t_9 : Keep vv qq t_9 := by
            unfold t_9
            exact okResp_keep (mbReserved_keep h_s)
        clear_value t_9
        exact Keep.ite (notify_keep h_t_9) h_t_9)

theorem mbWord_keep {vv qq s w off v} (h_s : Keep vv qq s) :
    Keep vv qq (State.mbWord s w off v) := by
  delta State.mbWord
  exact Keep.ite (mbSize_keep h_s) (Keep.ite (mbWrite_keep h_s) (Keep.ite (mbStat_keep h_s) (Keep.ite (mbSend_keep h_s) (Keep.ite (mbAck_keep h_s) (mbRearm_keep h_s)))))

theorem instCmd_keep {vv qq s w op scrub from_ k} (h_s : Keep vv qq s) (h_k : ∀ y0 y1, Keep vv qq y0 → Keep vv qq (k y0 y1)) :
    Keep vv qq (State.instCmd s w op scrub from_ k) := by
  delta State.instCmd
  exact onWrite_keep h_s (fun t1 h2 => by
      extract_lets i_3
      exact Keep.ite (refuse_keep h2) (h_k _ _ h2))

theorem admitInst_keep {vv qq s k rate} (h_s : Keep vv qq s) :
    Keep vv qq (State.admitInst s k rate) := by
  delta State.admitInst
  extract_lets s1_1 u_2
  have h_s1_1 : Keep vv qq s1_1 := by
      unfold s1_1
      exact wr_keep (bucketFill_keep h_s)
  clear_value s1_1
  exact Keep.ite h_s1_1 (wr_keep (Keep.upd h_s1_1))

theorem instCreate_keep {vv qq s w} (h_s : Keep vv qq s) :
    Keep vv qq (State.instCreate s w) := by
  delta State.instCreate
  exact instCmd_keep h_s (fun t1 x3 h2 => by
      split
      · exact refuse_keep h2
      · extract_lets rate_9 t1_10 t2_11
        have h_t1_10 : Keep vv qq t1_10 := by
            unfold t1_10
            exact admitInst_keep (count_keep (wr_keep (gfxAccount_keep h2)))
        have h_t2_11 : Keep vv qq t2_11 := by
            unfold t2_11
            exact resizeCtx_keep h_t1_10
        clear_value t1_10 t2_11
        exact Keep.ite (refuse_keep h2) (Keep.foldl h_t2_11 (fun t12 x13 h14 => pinChange_keep h14)))

theorem instStart_keep {vv qq s w} (h_s : Keep vv qq s) :
    Keep vv qq (State.instStart s w) := by
  delta State.instStart
  exact instCmd_keep h_s (fun t1 x3 h2 => wr_keep (Keep.upd h2))

theorem stopRings_keep {vv qq s k} (h_s : Keep vv qq s) :
    Keep vv qq (State.stopRings s k) := by
  delta State.stopRings
  exact Keep.foldl h_s (fun t1 x2 h3 => by
      extract_lets c_4
      exact Keep.ite (setRing_keep h3) h3)

theorem dropHalted_keep {vv qq s k} (h_s : Keep vv qq s) :
    Keep vv qq (State.dropHalted s k) := by
  delta State.dropHalted
  exact Keep.foldl h_s (fun t1 x2 h3 => by
      split
      · exact Keep.ite (dmaAbort_keep h3) h3
      · exact h3)

theorem dropCommits_keep {vv qq s k} (h_s : Keep vv qq s) :
    Keep vv qq (State.dropCommits s k) := by
  delta State.dropCommits
  extract_lets mine_1 keys_2 u_3
  exact discardAll_keep (Keep.upd h_s)

theorem quiesce_keep {vv qq s k scrub flr} (h_s : Keep vv qq s) :
    Keep vv qq (State.quiesce s k scrub flr) := by
  delta State.quiesce
  extract_lets s1_1 u_2 u_3 s2_4
  have h_s1_1 : Keep vv qq s1_1 := by
      unfold s1_1
      exact wr_keep (wr_keep (wr_keep h_s))
  have h_s2_4 : Keep vv qq s2_4 := by
      unfold s2_4
      exact Keep.upd h_s1_1
  clear_value s1_1 s2_4
  exact stopRings_keep (dropHalted_keep (dropCommits_keep (rewait_keep (count_keep h_s2_4))))

theorem instQuiesce_keep {vv qq s w scrub} (h_s : Keep vv qq s) :
    Keep vv qq (State.instQuiesce s w scrub) := by
  delta State.instQuiesce
  exact instCmd_keep h_s (fun t1 x3 h2 => quiesce_keep h2)

theorem instReset_keep {vv qq s k} (h_s : Keep vv qq s) :
    Keep vv qq (State.instReset s k) := by
  delta State.instReset
  extract_lets pins_1 lo_2 hi_3 u_4 s1_5 s2_6 s3_7
  have h_s1_5 : Keep vv qq s1_5 := by
      unfold s1_5
      exact Keep.upd h_s
  have h_s2_6 : Keep vv qq s2_6 := by
      unfold s2_6
      exact wr_keep (wr_keep (wr_keep (wr_keep h_s1_5)))
  have h_s3_7 : Keep vv qq s3_7 := by
      unfold s3_7
      exact Keep.foldl h_s2_6 (fun t8 x9 h10 => Keep.ite (wr_keep h10) h10)
  clear_value s1_5 s2_6 s3_7
  exact wr_keep h_s3_7

theorem freeBw_keep {vv qq s k} (h_s : Keep vv qq s) :
    Keep vv qq (State.freeBw s k) := by
  delta State.freeBw
  extract_lets s1_1 b_2 u_3 s2_4
  have h_s1_1 : Keep vv qq s1_1 := by
      unfold s1_1
      exact wr_keep (wr_keep h_s)
  have h_s2_4 : Keep vv qq s2_4 := by
      unfold s2_4
      exact Keep.upd h_s1_1
  clear_value s1_1 s2_4
  exact Keep.ite (wr_keep (wr_keep h_s2_4)) h_s1_1

theorem valesFree_keep {vv qq s i} (h_s : Keep vv qq s) :
    Keep vv qq (State.valesFree s i) := by
  delta State.valesFree
  exact Keep.foldl h_s (fun t1 x2 h3 => Keep.ite (freeVale_keep h3) h3)

theorem instRemove_keep {vv qq s k} (h_s : Keep vv qq s) :
    Keep vv qq (State.instRemove s k) := by
  delta State.instRemove
  extract_lets s1_1 s2_2 s3_3 u_4 s4_5
  have h_s1_1 : Keep vv qq s1_1 := by
      unfold s1_1
      exact pinsReturn_keep (resizeCtx_keep (freeBw_keep (gfxAccount_keep h_s)))
  have h_s2_2 : Keep vv qq s2_2 := by
      unfold s2_2
      exact Keep.foldl h_s1_1 (fun t6 x7 h8 => wr_keep (wr_keep (wr_keep h8)))
  have h_s3_3 : Keep vv qq s3_3 := by
      unfold s3_3
      exact valesFree_keep h_s2_2
  have h_s4_5 : Keep vv qq s4_5 := by
      unfold s4_5
      exact Keep.upd h_s3_3
  clear_value s1_1 s2_2 s3_3 s4_5
  exact count_keep (wr_keep h_s4_5)

theorem viewWrite_keep {vv qq s w v} (h_s : Keep vv qq s) :
    Keep vv qq (State.viewWrite s w v) := by
  delta State.viewWrite
  exact onWrite_keep h_s (fun t1 h2 => Keep.ite (refuse_keep h2) (storeWord_keep h2))

theorem vfMap_keep {vv qq s w v} (h_s : Keep vv qq s) :
    Keep vv qq (State.vfMap s w v) := by
  delta State.vfMap
  exact onWrite_keep h_s (fun t1 h2 => by
      extract_lets f_3 old_4 new_5 valid_6 had_7 elsewhere_8 t1_9 t2_10
      have h_t1_9 : Keep vv qq t1_9 := by
          unfold t1_9
          exact Keep.ite (wr_keep h2) h2
      have h_t2_10 : Keep vv qq t2_10 := by
          unfold t2_10
          exact Keep.ite (wr_keep h_t1_9) h_t1_9
      clear_value t1_9 t2_10
      exact Keep.ite (refuse_keep h2) (Keep.ite (refuse_keep h2) (storeWord_keep h_t2_10)))

theorem mgrRearm_keep {vv qq s w v} (h_s : Keep vv qq s) :
    Keep vv qq (State.mgrRearm s w v) := by
  delta State.mgrRearm
  exact onWrite_keep h_s (fun t1 h2 => Keep.ite (notify_keep h2) h2)

theorem swdtWrite_keep {vv qq s w off v} (h_s : Keep vv qq s) :
    Keep vv qq (State.swdtWrite s w off v) := by
  delta State.swdtWrite
  exact onWrite_keep h_s (fun t1 h2 => Keep.ite (refuse_keep h2) (by
      extract_lets u_3
      have h_u_3 : Keep vv qq u_3 := by
          unfold u_3
          exact storeWord_keep h2
      clear_value u_3
      exact Keep.ite (wr_keep h_u_3) h_u_3))

theorem swdtKick_keep {vv qq s w v} (h_s : Keep vv qq s) :
    Keep vv qq (State.swdtKick s w v) := by
  delta State.swdtKick
  exact onWrite_keep h_s (fun t1 h2 => by
      extract_lets set_3 u_4 due_5
      have h_set_3 : ∀ y0 y1, Keep vv qq y0 → Keep vv qq (set_3 y0 y1) := by
          intro t6 x8 h7
          unfold set_3
          exact Keep.upd h7
      have h_u_4 : Keep vv qq u_4 := by
          unfold u_4
          exact h_set_3 _ _ h2
      clear_value set_3 u_4
      exact Keep.ite (h_set_3 _ _ h2) (Keep.ite (Keep.ite (count_keep (Keep.ite h_u_4 (wr_keep h_u_4))) h_u_4) (count_keep (refuse_keep (h_set_3 _ _ h2)))))

theorem forceMark_keep {vv qq s r} (h_s : Keep vv qq s) :
    Keep vv qq (State.forceMark s r) := by
  delta State.forceMark
  extract_lets key_1 u_2
  exact Keep.upd h_s

theorem dropRecords_keep {vv qq s k} (h_s : Keep vv qq s) :
    Keep vv qq (State.dropRecords s k) := by
  delta State.dropRecords
  extract_lets stuck_1 s1_2 u_3
  have h_s1_2 : Keep vv qq s1_2 := by
      unfold s1_2
      exact Keep.foldl h_s (fun t4 x5 h6 => forceMark_keep h6)
  clear_value s1_2
  exact Keep.upd h_s1_2

theorem feedForce_keep {vv qq s k code f} (h_s : Keep vv qq s) :
    KeepP vv qq (State.feedForce s k code f) := by
  delta State.feedForce
  extract_lets mine_1
  exact KeepP.ite (KeepP.mk h_s) (KeepP.mk (Keep.foldl h_s (fun t2 x3 h4 => endJob_keep h4)))

theorem forceJobs_keep {vv qq s k code} (h_s : Keep vv qq s) :
    Keep vv qq (State.forceJobs s k code) := by
  delta State.forceJobs
  extract_lets s1_1 s2_2 s3_3 s4_4 s5_5 s6_6
  have h_s1_1 : Keep vv qq s1_1 := by
      unfold s1_1
      exact gfxForce_keep h_s
  have h_s2_2 : Keep vv qq s2_2 := by
      unfold s2_2
      exact Keep.foldl h_s1_1 (fun t7 x8 h9 => by
          extract_lets mine_10 t1_11
          have h_t1_11 : Keep vv qq t1_11 := by
              unfold t1_11
              exact setLatched_keep (setPend_keep h9)
          clear_value t1_11
          exact Keep.foldl h_t1_11 (fun t12 x13 h14 => packetEnd_keep h14))
  have h_s3_3 : Keep vv qq s3_3 := by
      unfold s3_3
      exact Keep.foldl h_s2_2 (fun t15 x16 h17 => by
          extract_lets t1_18
          have h_t1_18 : Keep vv qq t1_18 := by
              unfold t1_18
              split
              · exact Keep.ite (endJob_keep (setJob_keep h17)) h17
              · exact h17
          clear_value t1_18
          exact compShow_keep (drainEnds_keep h_t1_18))
  have h_s4_4 : Keep vv qq s4_4 := by
      unfold s4_4
      exact Keep.foldl h_s3_3 (fun t24 x25 h26 => by
          split
          · exact Keep.ite (dmaAbort_keep h26) h26
          · exact h26)
  have h_s5_5 : Keep vv qq s5_5 := by
      unfold s5_5
      exact Keep.foldl h_s4_4 (fun t32 x33 h34 => by
          split
          · exact Keep.ite (capFail_keep h34) h34
          · exact h34)
  have h_s6_6 : Keep vv qq s6_6 := by
      unfold s6_6
      exact Keep.foldl h_s5_5 (fun t40 x41 h42 => by
          split
          · rename_i a46
            have h47 := KeepP.eq (v := vv) (q := qq) a46 (feedForce_keep h42)
            exact setSurf_keep h47)
  clear_value s1_1 s2_2 s3_3 s4_4 s5_5 s6_6
  exact Keep.foldl h_s6_6 (fun t48 x49 h50 => by
      split
      · rename_i a54
        have h55 := KeepP.eq (v := vv) (q := qq) a54 (feedForce_keep h50)
        exact Keep.upd h55)

theorem substLayers_keep {vv qq s k} (h_s : Keep vv qq s) :
    Keep vv qq (State.substLayers s k) := by
  delta State.substLayers
  exact Keep.foldl h_s (fun t1 x2 h3 => Keep.ite (Keep.upd h3) h3)

theorem execFunctionLevelReset_keep {vv qq f s} (h_s : Keep vv qq s) :
    KeepN vv qq (execFunctionLevelReset f s) := by
  delta execFunctionLevelReset
  extract_lets k_1 st_2 u_3 s1_4
  have h_s1_4 : Keep vv qq s1_4 := by
      unfold s1_4
      exact Keep.ite (quiesce_keep h_s) (Keep.ite (Keep.ite (Keep.upd h_s) h_s) (Keep.ite (instReset_keep h_s) h_s))
  clear_value s1_4
  exact KeepN.next (Keep.ite h_s (raise_keep (count_keep (wr_keep h_s1_4))))

theorem execInstCreate_keep {vv qq w s} (h_s : Keep vv qq s) :
    KeepN vv qq (execInstCreate w s) := by
  delta execInstCreate
  exact KeepN.next (instCreate_keep h_s)

theorem execInstQuiesce_keep {vv qq w scrub s} (h_s : Keep vv qq s) :
    KeepN vv qq (execInstQuiesce w scrub s) := by
  delta execInstQuiesce
  exact KeepN.next (instQuiesce_keep h_s)

theorem execInstRemove_keep {vv qq w s} (h_s : Keep vv qq s) :
    KeepN vv qq (execInstRemove w s) := by
  delta execInstRemove
  exact KeepN.next (instCmd_keep h_s (fun t1 x3 h2 => instRemove_keep h2))

theorem execInstReset_keep {vv qq w s} (h_s : Keep vv qq s) :
    KeepN vv qq (execInstReset w s) := by
  delta execInstReset
  exact KeepN.next (instCmd_keep h_s (fun t1 x3 h2 => instReset_keep h2))

theorem execInstStart_keep {vv qq w s} (h_s : Keep vv qq s) :
    KeepN vv qq (execInstStart w s) := by
  delta execInstStart
  exact KeepN.next (instStart_keep h_s)

theorem execMbAck_keep {vv qq w v s} (h_s : Keep vv qq s) :
    KeepN vv qq (execMbAck w v s) := by
  delta execMbAck
  exact KeepN.next (mbAck_keep h_s)

theorem execMbRearm_keep {vv qq w v s} (h_s : Keep vv qq s) :
    KeepN vv qq (execMbRearm w v s) := by
  delta execMbRearm
  exact KeepN.next (mbRearm_keep h_s)

theorem execMbSend_keep {vv qq w v s} (h_s : Keep vv qq s) :
    KeepN vv qq (execMbSend w v s) := by
  delta execMbSend
  exact KeepN.next (mbSend_keep h_s)

theorem execMbxDataWrite_keep {vv qq w word v s} (h_s : Keep vv qq s) :
    KeepN vv qq (execMbxDataWrite w word v s) := by
  delta execMbxDataWrite
  exact KeepN.next (mbWrite_keep h_s)

theorem execMgrRearm_keep {vv qq w v s} (h_s : Keep vv qq s) :
    KeepN vv qq (execMgrRearm w v s) := by
  delta execMgrRearm
  exact KeepN.next (mgrRearm_keep h_s)

theorem execOwnerSweep_keep {vv qq o s} (h_s : Keep vv qq s) :
    KeepN vv qq (execOwnerSweep o s) := by
  delta execOwnerSweep
  extract_lets k_1 u_2
  exact KeepN.next (Keep.ite h_s (Keep.ite (Keep.ite (startSweep_keep (Keep.upd h_s)) h_s) (Keep.ite (startSweep_keep h_s) h_s)))

theorem execQuiesceDone_keep {vv qq k s} (h_s : Keep vv qq s) :
    KeepN vv qq (execQuiesceDone k s) := by
  delta execQuiesceDone
  extract_lets i_1 s1_2 flr_3 u_4 s2_5 s3_6
  have h_s1_2 : Keep vv qq s1_2 := by
      unfold s1_2
      exact valesFree_keep (endEpoch_keep h_s)
  have h_s2_5 : Keep vv qq s2_5 := by
      unfold s2_5
      exact Keep.upd h_s1_2
  have h_s3_6 : Keep vv qq s3_6 := by
      unfold s3_6
      exact raise_keep (wr_keep (wr_keep h_s2_5))
  clear_value s1_2 s2_5 s3_6
  exact KeepN.next (Keep.ite (Keep.ite (instReset_keep h_s3_6) h_s3_6) h_s)

theorem execQuiesceDrainDone_keep {vv qq k s} (h_s : Keep vv qq s) :
    KeepN vv qq (execQuiesceDrainDone k s) := by
  delta execQuiesceDrainDone
  extract_lets st_1 t_2 u_3
  have h_t_2 : Keep vv qq t_2 := by
      unfold t_2
      exact Keep.ite (dropRecords_keep h_s) h_s
  clear_value t_2
  exact KeepN.next (Keep.ite (substLayers_keep (Keep.upd h_t_2)) h_t_2)

theorem execQuiesceLimitExpiry_keep {vv qq k s} (h_s : Keep vv qq s) :
    KeepN vv qq (execQuiesceLimitExpiry k s) := by
  delta execQuiesceLimitExpiry
  extract_lets i_1 s1_2 s2_3 s3_4 s4_5 u_6
  have h_s1_2 : Keep vv qq s1_2 := by
      unfold s1_2
      exact Keep.foldl h_s (fun t7 x8 h9 => forceMark_keep h9)
  have h_s2_3 : Keep vv qq s2_3 := by
      unfold s2_3
      exact dropRecords_keep (forceJobs_keep h_s1_2)
  have h_s3_4 : Keep vv qq s3_4 := by
      unfold s3_4
      exact Keep.ite (recErr_keep h_s2_3) h_s2_3
  have h_s4_5 : Keep vv qq s4_5 := by
      unfold s4_5
      exact count_keep (wr_keep h_s3_4)
  clear_value s1_2 s2_3 s3_4 s4_5
  exact KeepN.next (Keep.ite h_s (Keep.upd h_s4_5))

theorem execSecureWdtExpiry_keep {vv qq s} (h_s : Keep vv qq s) :
    KeepN vv qq (execSecureWdtExpiry s) := by
  delta execSecureWdtExpiry
  exact KeepN.next (Keep.ite (mainReset_keep h_s) h_s)

theorem execSwdtKick_keep {vv qq w v s} (h_s : Keep vv qq s) :
    KeepN vv qq (execSwdtKick w v s) := by
  delta execSwdtKick
  exact KeepN.next (swdtKick_keep h_s)

theorem execSwdtTick_keep {vv qq s} (h_s : Keep vv qq s) :
    KeepN vv qq (execSwdtTick s) := by
  delta execSwdtTick
  exact KeepN.next (Keep.ite h_s (by
      extract_lets n_1 s1_2
      have h_s1_2 : Keep vv qq s1_2 := by
          unfold s1_2
          exact wr_keep h_s
      clear_value s1_2
      exact Keep.ite (raise_keep h_s1_2) h_s1_2))

theorem execVfMapWrite_keep {vv qq w v s} (h_s : Keep vv qq s) :
    KeepN vv qq (execVfMapWrite w v s) := by
  delta execVfMapWrite
  exact KeepN.next (vfMap_keep h_s)

theorem execViewEntryWrite_keep {vv qq w v s} (h_s : Keep vv qq s) :
    KeepN vv qq (execViewEntryWrite w v s) := by
  delta execViewEntryWrite
  exact KeepN.next (viewWrite_keep h_s)

end Sys2Proof.Laws
end

