-- ==== Sys2Proof/Laws/KeepTouchWake.lean ====
section
/-! SUPPORT. The operations and commands of Machine/TouchWake.lean keep the variant, the queue and the canonical form of the memories. -/

set_option Elab.async false

namespace Sys2Proof.Laws

open Machine

theorem wakeScan_keep {vv qq s p bal} (h_s : Keep vv qq s) :
    Keep vv qq (State.wakeScan s p bal) := by
  delta State.wakeScan
  extract_lets was_1 t_2 n_3 raw_4 thr_5 d_6 base_7 touched_8 wgt_9 den_10 cent_11 sum_12 g_13 t0_14
  exact Keep.ite h_s (Keep.ite (setTouch_keep h_s) (by
      split
      · extract_lets s1_19 u_20
        have h_s1_19 : Keep vv qq s1_19 := by
            unfold s1_19
            exact setTouch_keep h_s
        clear_value s1_19
        exact Keep.ite (wake_keep (Keep.upd h_s1_19)) h_s1_19))

theorem execWakeScan_keep {vv qq p bal s} (h_s : Keep vv qq s) :
    KeepN vv qq (execWakeScan p bal s) := by
  delta execWakeScan
  exact KeepN.next (wakeScan_keep h_s)

end Sys2Proof.Laws
end

