-- ==== Sys2Proof/Laws/KeepPower.lean ====
section
/-! SUPPORT. The operations and commands of Machine/Power.lean keep the variant, the queue and the canonical form of the memories. -/

set_option Elab.async false

namespace Sys2Proof.Laws

open Machine

theorem stateReq_keep {vv qq s w v} (h_s : Keep vv qq s) :
    Keep vv qq (State.stateReq s w v) := by
  delta State.stateReq
  exact onWrite_keep h_s (fun t1 h2 => by
      extract_lets req_3 u_4 t1_5
      have h_t1_5 : Keep vv qq t1_5 := by
          unfold t1_5
          exact hvSync_keep (pwrStep_keep (Keep.upd h2))
      clear_value t1_5
      split
      · exact refuse_keep (raise_keep h2)
      · exact Keep.ite (wake_keep h_t1_5) h_t1_5)

theorem clocksStart_keep {vv qq s} (h_s : Keep vv qq s) :
    Keep vv qq (State.clocksStart s) := by
  delta State.clocksStart
  extract_lets mhz_1 s1_2 s2_3 u_4
  have h_s1_2 : Keep vv qq s1_2 := by
      unfold s1_2
      exact Keep.foldl h_s (fun t5 x6 h7 => Keep.ite h7 (wr_keep (wr_keep (wr_keep h7))))
  have h_s2_3 : Keep vv qq s2_3 := by
      unfold s2_3
      exact Keep.foldl h_s1_2 (fun t8 x9 h10 => Keep.ite (wr_keep h10) h10)
  clear_value s1_2 s2_3
  exact Keep.upd h_s2_3

theorem clocksStop_keep {vv qq s} (h_s : Keep vv qq s) :
    Keep vv qq (State.clocksStop s) := by
  delta State.clocksStop
  extract_lets s1_1 s2_2 s3_3 u_4 u_5
  have h_s1_1 : Keep vv qq s1_1 := by
      unfold s1_1
      exact Keep.foldl h_s (fun t6 x7 h8 => Keep.ite (setHead_keep (wr_keep (wr_keep (wr_keep h8)))) h8)
  have h_s2_2 : Keep vv qq s2_2 := by
      unfold s2_2
      exact Keep.foldl h_s1_1 (fun t9 x10 h11 => wr_keep h11)
  have h_s3_3 : Keep vv qq s3_3 := by
      unfold s3_3
      exact Keep.foldl h_s2_2 (fun t12 x13 h14 => wr_keep (wr_keep (wr_keep h14)))
  clear_value s1_1 s2_2 s3_3
  exact ampPins_keep (Keep.upd h_s3_3)

theorem toStep_keep {vv qq s n} (h_s : Keep vv qq s) :
    Keep vv qq (State.toStep s n) := by
  delta State.toStep
  exact wr_keep (Keep.upd h_s)

theorem coldStart_keep {vv qq s} (h_s : Keep vv qq s) :
    Keep vv qq (State.coldStart s) := by
  delta State.coldStart
  extract_lets deep_1 s1_2 s2_3 u_4
  have h_s1_2 : Keep vv qq s1_2 := by
      unfold s1_2
      exact raise_keep (wr_keep (toStep_keep (clearMain_keep h_s)))
  have h_s2_3 : Keep vv qq s2_3 := by
      unfold s2_3
      exact Keep.ite (displayReset_keep h_s1_2) (ungroup_keep h_s1_2)
  clear_value s1_2 s2_3
  exact Keep.upd h_s2_3

theorem entryBlank_keep {vv qq s} (h_s : Keep vv qq s) :
    Keep vv qq (State.entryBlank s) := by
  delta State.entryBlank
  extract_lets m_1 s1_2 u_3
  have h_s1_2 : Keep vv qq s1_2 := by
      unfold s1_2
      exact wr_keep (toStep_keep h_s)
  clear_value s1_2
  exact headSrcNow_keep (Keep.upd h_s1_2)

theorem lowPower_keep {vv qq s t} (h_s : Keep vv qq s) :
    Keep vv qq (State.lowPower s t) := by
  delta State.lowPower
  extract_lets s1_1 s2_2 l_3 s3_4 u_5
  have h_s1_1 : Keep vv qq s1_1 := by
      unfold s1_1
      exact clocksStop_keep (count_keep (pwrStep_keep h_s))
  have h_s2_2 : Keep vv qq s2_2 := by
      unfold s2_2
      exact railsReached_keep (railsTo_keep h_s1_1)
  have h_s3_4 : Keep vv qq s3_4 := by
      unfold s3_4
      exact safetyReset_keep (displayReset_keep (clearMain_keep h_s2_2))
  clear_value s1_1 s2_2 s3_4
  exact Keep.ite (touchWatch_keep (hvSync_keep h_s2_2)) (Keep.ite (wr_keep (hvSync_keep (faultAssert_keep h_s2_2))) (Keep.upd h_s3_4))

theorem putHart_keep {vv qq s h c} (h_s : Keep vv qq s) :
    Keep vv qq (State.putHart s h c) := by
  delta State.putHart
  exact Keep.upd h_s

theorem safeVeto_keep {vv qq s} (h_s : Keep vv qq s) :
    Keep vv qq (State.safeVeto s) := by
  delta State.safeVeto
  exact raise_keep (recErr_keep (hvSync_keep (startDeferred_keep (pwrStep_keep h_s))))

theorem tempSample_keep {vv qq s temps} (h_s : Keep vv qq s) :
    Keep vv qq (State.tempSample s temps) := by
  delta State.tempSample
  split
  · extract_lets old_5 thr_6 s1_7 s2_8 hot_9
    have h_s1_7 : Keep vv qq s1_7 := by
        unfold s1_7
        exact wr_keep (wr_keep h_s)
    have h_s2_8 : Keep vv qq s2_8 := by
        unfold s2_8
        exact Keep.ite (raise_keep (count_keep h_s1_7)) h_s1_7
    have h_hot_9 : ∀ y0, Keep vv qq y0 → Keep vv qq (hot_9 y0) := by
        intro t10 h11
        unfold hot_9
        exact hvSync_keep (Keep.upd h11)
    clear_value s1_7 s2_8 hot_9
    exact Keep.ite (Keep.ite h_s2_8 (h_hot_9 _ (shutDown_keep h_s2_8))) (Keep.ite (h_hot_9 _ (railTo_keep (railTo_keep (mainReset_keep h_s2_8)))) h_s2_8)

theorem wearAll_keep {vv qq s} (h_s : Keep vv qq s) :
    Keep vv qq (State.wearAll s) := by
  delta State.wearAll
  exact Keep.foldl h_s (fun t1 x2 h3 => Keep.ite (setSurf_keep h3) h3)

theorem execDrainLimitExpiry_keep {vv qq s} (h_s : Keep vv qq s) :
    KeepN vv qq (execDrainLimitExpiry s) := by
  delta execDrainLimitExpiry
  exact KeepN.next (Keep.ite h_s (entryBlank_keep (recErr_keep (forceJobs_keep (dropHalted_keep h_s)))))

theorem execEntryCachesWritten_keep {vv qq s} (h_s : Keep vv qq s) :
    KeepN vv qq (execEntryCachesWritten s) := by
  delta execEntryCachesWritten
  exact KeepN.next (Keep.ite (toStep_keep h_s) h_s)

theorem execEntryDrainDone_keep {vv qq s} (h_s : Keep vv qq s) :
    KeepN vv qq (execEntryDrainDone s) := by
  delta execEntryDrainDone
  exact KeepN.next (Keep.ite (entryBlank_keep h_s) h_s)

theorem execEntryHeadsBlanked_keep {vv qq s} (h_s : Keep vv qq s) :
    KeepN vv qq (execEntryHeadsBlanked s) := by
  delta execEntryHeadsBlanked
  exact KeepN.next (Keep.ite (by
      extract_lets s1_1 u_2
      have h_s1_1 : Keep vv qq s1_1 := by
          unfold s1_1
          exact toStep_keep h_s
      clear_value s1_1
      exact Keep.foldl (Keep.upd h_s1_1) (fun t3 x4 h5 => Keep.ite (linkDown_keep h5) h5)) h_s)

theorem execExitMemoryReady_keep {vv qq s} (h_s : Keep vv qq s) :
    KeepN vv qq (execExitMemoryReady s) := by
  delta execExitMemoryReady
  exact KeepN.next (Keep.ite (by
      extract_lets s1_1
      have h_s1_1 : Keep vv qq s1_1 := by
          unfold s1_1
          exact toStep_keep h_s
      clear_value s1_1
      exact Keep.ite (⟨h_s1_1.var, h_s1_1.pend, h_s1_1.dram, rfl, h_s1_1.flash, h_s1_1.otp⟩) h_s1_1) h_s)

theorem execExitOscillatorReady_keep {vv qq s} (h_s : Keep vv qq s) :
    KeepN vv qq (execExitOscillatorReady s) := by
  delta execExitOscillatorReady
  exact KeepN.next (Keep.ite (clocksStart_keep (toStep_keep h_s)) h_s)

theorem execExitRegulatorsReady_keep {vv qq s} (h_s : Keep vv qq s) :
    KeepN vv qq (execExitRegulatorsReady s) := by
  delta execExitRegulatorsReady
  exact KeepN.next (Keep.ite (by
      extract_lets s1_1 u_2
      have h_s1_1 : Keep vv qq s1_1 := by
          unfold s1_1
          exact wr_keep (toStep_keep h_s)
      clear_value s1_1
      exact ampPins_keep (Keep.upd h_s1_1)) h_s)

theorem execExitStepTimeout_keep {vv qq rail s} (h_s : Keep vv qq s) :
    KeepN vv qq (execExitStepTimeout rail s) := by
  delta execExitStepTimeout
  extract_lets k_1 bad_2
  have h_bad_2 : ∀ y0, Keep vv qq y0 → Keep vv qq (bad_2 y0) := by
      intro t3 h4
      unfold bad_2
      exact recErr_keep (wr_keep h4)
  clear_value bad_2
  exact KeepN.next (Keep.ite h_s (Keep.ite (railFault_keep (h_bad_2 _ h_s)) (Keep.ite (Keep.ite (wr_keep (toStep_keep h_s)) (lowPower_keep (h_bad_2 _ h_s))) (Keep.ite (coldStart_keep (h_bad_2 _ h_s)) h_s))))

theorem execFixedRailFault_keep {vv qq n s} (h_s : Keep vv qq s) :
    KeepN vv qq (execFixedRailFault n s) := by
  delta execFixedRailFault
  exact KeepN.next (Keep.ite (railFault_keep h_s) h_s)

theorem execHartWfi_keep {vv qq h s} (h_s : Keep vv qq s) :
    KeepN vv qq (execHartWfi h s) := by
  delta execHartWfi
  exact KeepN.next (putHart_keep h_s)

theorem execJtagHalt_keep {vv qq h halted s} (h_s : Keep vv qq s) :
    KeepN vv qq (execJtagHalt h halted s) := by
  delta execJtagHalt
  exact KeepN.next (putHart_keep h_s)

theorem execPllRelock_keep {vv qq k s} (h_s : Keep vv qq s) :
    KeepN vv qq (execPllRelock k s) := by
  delta execPllRelock
  extract_lets n_1 s1_2
  have h_s1_2 : Keep vv qq s1_2 := by
      unfold s1_2
      exact wr_keep h_s
  clear_value s1_2
  exact KeepN.next (Keep.ite (Keep.ite (wr_keep h_s1_2) h_s1_2) h_s)

theorem execPllUnlock_keep {vv qq k s} (h_s : Keep vv qq s) :
    KeepN vv qq (execPllUnlock k s) := by
  delta execPllUnlock
  extract_lets n_1 s1_2 s2_3 s3_4
  have h_s1_2 : Keep vv qq s1_2 := by
      unfold s1_2
      exact wr_keep h_s
  have h_s2_3 : Keep vv qq s2_3 := by
      unfold s2_3
      exact Keep.ite (wr_keep h_s1_2) h_s1_2
  have h_s3_4 : Keep vv qq s3_4 := by
      unfold s3_4
      exact raise_keep (count_keep (recErr_keep h_s2_3))
  clear_value s1_2 s2_3 s3_4
  exact KeepN.next (Keep.ite h_s (faultLine_keep h_s3_4))

theorem execRailAckTimeout_keep {vv qq n s} (h_s : Keep vv qq s) :
    KeepN vv qq (execRailAckTimeout n s) := by
  delta execRailAckTimeout
  extract_lets k_1 s1_2
  have h_s1_2 : Keep vv qq s1_2 := by
      unfold s1_2
      exact wr_keep h_s
  clear_value s1_2
  exact KeepN.next (Keep.ite h_s (railFault_keep (Keep.ite (recErr_keep (wr_keep h_s1_2)) h_s1_2)))

theorem execRefLost_keep {vv qq s} (h_s : Keep vv qq s) :
    KeepN vv qq (execRefLost s) := by
  delta execRefLost
  exact KeepN.next (Keep.ite h_s (by
      extract_lets u_1 s1_2 s2_3
      have h_s1_2 : Keep vv qq s1_2 := by
          unfold s1_2
          exact Keep.upd h_s
      have h_s2_3 : Keep vv qq s2_3 := by
          unfold s2_3
          exact raise_keep (count_keep (recErr_keep h_s1_2))
      clear_value s1_2 s2_3
      exact faultLine_keep h_s2_3))

theorem execSafetyGrant_keep {vv qq grant s} (h_s : Keep vv qq s) :
    KeepN vv qq (execSafetyGrant grant s) := by
  delta execSafetyGrant
  exact KeepN.next (Keep.ite h_s (Keep.ite (wearAll_keep (touchSleep_keep (toStep_keep h_s))) (safeVeto_keep h_s)))

theorem execSafetyGrantTimeout_keep {vv qq s} (h_s : Keep vv qq s) :
    KeepN vv qq (execSafetyGrantTimeout s) := by
  delta execSafetyGrantTimeout
  exact KeepN.next (Keep.ite (safeVeto_keep h_s) h_s)

theorem execSelfRefreshEntered_keep {vv qq s} (h_s : Keep vv qq s) :
    KeepN vv qq (execSelfRefreshEntered s) := by
  delta execSelfRefreshEntered
  exact KeepN.next (Keep.ite (by
      extract_lets s1_1 u_2
      have h_s1_1 : Keep vv qq s1_1 := by
          unfold s1_1
          exact toStep_keep h_s
      clear_value s1_1
      exact Keep.upd h_s1_1) h_s)

theorem execSleepDeepAfterExpiry_keep {vv qq s} (h_s : Keep vv qq s) :
    KeepN vv qq (execSleepDeepAfterExpiry s) := by
  delta execSleepDeepAfterExpiry
  extract_lets sec_1 s1_2 u_3
  have h_s1_2 : Keep vv qq s1_2 := by
      unfold s1_2
      exact pwrStep_keep h_s
  clear_value s1_2
  exact KeepN.next (Keep.ite (Keep.upd h_s1_2) h_s)

theorem execStateReqDeepSleep_keep {vv qq w s} (h_s : Keep vv qq s) :
    KeepN vv qq (execStateReqDeepSleep w s) := by
  delta execStateReqDeepSleep
  exact KeepN.next (stateReq_keep h_s)

theorem execStateReqOff_keep {vv qq w s} (h_s : Keep vv qq s) :
    KeepN vv qq (execStateReqOff w s) := by
  delta execStateReqOff
  exact KeepN.next (stateReq_keep h_s)

theorem execStateReqSleep_keep {vv qq w s} (h_s : Keep vv qq s) :
    KeepN vv qq (execStateReqSleep w s) := by
  delta execStateReqSleep
  exact KeepN.next (stateReq_keep h_s)

theorem execTargetStateReached_keep {vv qq s} (h_s : Keep vv qq s) :
    KeepN vv qq (execTargetStateReached s) := by
  delta execTargetStateReached
  exact KeepN.next (Keep.ite (by
      extract_lets s1_1
      have h_s1_1 : Keep vv qq s1_1 := by
          unfold s1_1
          exact lowPower_keep h_s
      clear_value s1_1
      exact Keep.ite h_s1_1 (exitBegin_keep h_s1_1)) h_s)

theorem execTempSample_keep {vv qq temps s} (h_s : Keep vv qq s) :
    KeepN vv qq (execTempSample temps s) := by
  delta execTempSample
  exact KeepN.next (tempSample_keep h_s)

theorem execThermalRestart_keep {vv qq s} (h_s : Keep vv qq s) :
    KeepN vv qq (execThermalRestart s) := by
  delta execThermalRestart
  exact KeepN.next (Keep.ite (Keep.upd h_s) h_s)

theorem execXtal32Stop_keep {vv qq s} (h_s : Keep vv qq s) :
    KeepN vv qq (execXtal32Stop s) := by
  delta execXtal32Stop
  exact KeepN.next (Keep.ite (raise_keep (Keep.upd h_s)) h_s)

end Sys2Proof.Laws
end

