-- ==== Sys2Proof/Laws/KeepReads.lean ====
section
/-! SUPPORT. The operations and commands of Machine/Reads.lean keep the variant, the queue and the canonical form of the memories. -/

set_option Elab.async false

namespace Sys2Proof.Laws

open Machine

theorem movingRead_keep {vv qq s w b i off} (h_s : Keep vv qq s) :
    KeepO vv qq (State.movingRead s w b i off) := by
  delta State.movingRead
  split
  · exact KeepO.ite (KeepO.some (lsramRead_keep h_s)) KeepO.none
  · exact KeepO.ite (KeepO.some (logDataRead_keep h_s)) (KeepO.ite (by
        extract_lets t_3
        have h_t_3 : Keep vv qq t_3 := by
            unfold t_3
            exact okResp_keep h_s
        clear_value t_3
        exact KeepO.some (Keep.ite (wr_keep h_t_3) h_t_3)) KeepO.none)
  · exact KeepO.ite (KeepO.some (psetAccess_keep h_s)) KeepO.none
  · exact KeepO.ite (KeepO.some (uartRead_keep h_s)) (KeepO.ite (KeepO.some (uartRead_keep h_s)) KeepO.none)
  · exact KeepO.none

theorem plainRead_keep {vv qq s w b i off} (h_s : Keep vv qq s) :
    Keep vv qq (State.plainRead s w b i off) := by
  delta State.plainRead
  split
  · exact okResp_keep (latchHi_keep h_s)
  · split
    · exact okResp_keep (unlatch_keep h_s)
    · exact okResp_keep h_s
  · exact okResp_keep h_s

theorem readWord_keep {vv qq s w b i off} (h_s : Keep vv qq s) :
    Keep vv qq (State.readWord s w b i off) := by
  delta State.readWord
  split
  · rename_i a3
    have h4 := KeepC.eqBad (v := vv) (q := qq) a3 (reach_keep h_s)
    exact h4
  · rename_i a7
    have h8 := KeepC.eqGood (v := vv) (q := qq) a7 (reach_keep h_s)
    exact Keep.ite (Keep.ite (mbSize_keep h_s) (mbRead_keep h_s)) (Keep.ite (refuse_keep h_s) (Keep.ite (refuse_keep h_s) (Keep.ite (refuse_keep h_s) (KeepO.getD (movingRead_keep h_s) (plainRead_keep h_s)))))

theorem execRegReadLoLatch_keep {vv qq w page off s} (h_s : Keep vv qq s) :
    KeepN vv qq (execRegReadLoLatch w page off s) := by
  delta execRegReadLoLatch
  exact KeepN.next (by
      split
      · exact readWord_keep h_s
      · exact potRefuse_keep h_s)

end Sys2Proof.Laws
end

