-- ==== Sys2Proof/Laws/KeepPages.lean ====
section
/-! SUPPORT. The operations and commands of Machine/Pages.lean keep the variant, the queue and the canonical form of the memories. -/

set_option Elab.async false

namespace Sys2Proof.Laws

open Machine

theorem softWorld_keep {vv qq s} (h_s : Keep vv qq s) :
    Keep vv qq (State.softWorld s) := by
  delta State.softWorld
  exact Keep.upd h_s

theorem softPwr_keep {vv qq s} (h_s : Keep vv qq s) :
    Keep vv qq (State.softPwr s) := by
  delta State.softPwr
  extract_lets t_1 u_2
  have h_t_1 : Keep vv qq t_1 := by
      unfold t_1
      exact startDeferred_keep (touchResume_keep (unblank_keep h_s))
  clear_value t_1
  exact hvSync_keep (Keep.upd h_t_1)

theorem softDram_keep {vv qq s n} (h_s : Keep vv qq s) :
    Keep vv qq (State.softDram s n) := by
  delta State.softDram
  exact Keep.upd h_s

theorem dropJob_keep {vv qq s cls n} (h_s : Keep vv qq s) :
    Keep vv qq (State.dropJob s cls n) := by
  delta State.dropJob
  split
  · exact setRing_keep (setJob_keep h_s)
  · exact h_s

theorem softComp_keep {vv qq s0 n} (h_s0 : Keep vv qq s0) :
    Keep vv qq (State.softComp s0 n) := by
  delta State.softComp
  extract_lets s_1 lo_2 hi_3 c_4
  have h_s_1 : Keep vv qq s_1 := by
      unfold s_1
      exact dropJob_keep h_s0
  clear_value s_1
  exact Keep.upd h_s_1

theorem softLink_keep {vv qq s n} (h_s : Keep vv qq s) :
    Keep vv qq (State.softLink s n) := by
  delta State.softLink
  exact setLink_keep (linkDown_keep h_s)

theorem softSurf_keep {vv qq s p} (h_s : Keep vv qq s) :
    Keep vv qq (State.softSurf s p) := by
  delta State.softSurf
  extract_lets t_1
  have h_t_1 : Keep vv qq t_1 := by
      unfold t_1
      exact wrB_keep (touchQuiet_keep (setSurf_keep h_s))
  clear_value t_1
  exact hvSync_keep (Keep.ite (portOn_keep h_t_1) h_t_1)

theorem softReset_keep {vv qq s b i} (h_s : Keep vv qq s) :
    Keep vv qq (State.softReset s b i) := by
  delta State.softReset
  extract_lets t_1 u_2 u_3 u_4 u_5 u_6 u_7 u_8
  have h_t_1 : Keep vv qq t_1 := by
      unfold t_1
      exact softRegs_keep h_s
  have h_u_7 : Keep vv qq u_7 := by
      unfold u_7
      exact faultAssert_keep (wr_keep h_t_1)
  clear_value t_1 u_7
  split
  · exact Keep.upd h_t_1
  · exact Keep.upd h_t_1
  · exact softWorld_keep h_t_1
  · exact wr_keep (wr_keep (Keep.upd h_t_1))
  · exact Keep.foldl (softRegs_keep (flCut_keep h_s)) (fun t14 x15 h16 => wr_keep h16)
  · exact softPwr_keep h_t_1
  · exact h_t_1
  · exact Keep.upd h_t_1
  · exact softDram_keep h_t_1
  · exact Keep.upd h_t_1
  · exact Keep.upd h_t_1
  · exact dropJob_keep h_t_1
  · exact Keep.upd h_t_1
  · exact softComp_keep h_t_1
  · exact groupAbort_keep h_t_1
  · exact h_t_1
  · exact setHead_keep h_t_1
  · exact softLink_keep h_t_1
  · exact setCap_keep h_t_1
  · exact h_t_1
  · exact softSurf_keep h_t_1
  · exact hvSync_keep (throttleShow_keep (Keep.upd h_t_1))
  · exact Keep.upd h_t_1
  · exact Keep.foldl h_t_1 (fun t36 x37 h38 => wr_keep (wr_keep h38))
  · exact Keep.upd h_t_1
  · exact hvSync_keep (Keep.upd h_u_7)
  · exact h_t_1
  · exact Keep.upd h_t_1

theorem ctrlWrite_keep {vv qq s w b i v} (h_s : Keep vv qq s) :
    Keep vv qq (State.ctrlWrite s w b i v) := by
  delta State.ctrlWrite
  split
  · exact headCtrl_keep h_s
  · exact touchCtrl_keep h_s
  · exact capCtrl_keep h_s
  · exact audioCtrl_keep h_s
  · exact onWrite_keep h_s (fun t10 h11 => by
        extract_lets u_12
        have h_u_12 : Keep vv qq u_12 := by
            unfold u_12
            exact wr_keep h11
        clear_value u_12
        exact Keep.ite (softReset_keep h_u_12) h_u_12)

theorem ownerWrite_keep {vv qq s w b i v} (h_s : Keep vv qq s) :
    Keep vv qq (State.ownerWrite s w b i v) := by
  delta State.ownerWrite
  exact onWrite_keep h_s (fun t1 h2 => Keep.ite h2 (by
      extract_lets u_3 u_4
      have h_u_3 : Keep vv qq u_3 := by
          unfold u_3
          exact wr_keep (wr_keep (wr_keep h2))
      clear_value u_3
      exact Keep.ite (setTouch_keep (wr_keep h_u_3)) (Keep.ite (hvSync_keep (wr_keep (wr_keep h_u_3))) h_u_3)))

theorem evClear_keep {vv qq s w b i v} (h_s : Keep vv qq s) :
    Keep vv qq (State.evClear s w b i v) := by
  delta State.evClear
  exact onWrite_keep h_s (fun t1 h2 => wr_keep h2)

theorem evMaskWrite_keep {vv qq s w b i v} (h_s : Keep vv qq s) :
    Keep vv qq (State.evMaskWrite s w b i v) := by
  delta State.evMaskWrite
  exact onWrite_keep h_s (fun t1 h2 => irqEdge_keep (wr_keep h2))

theorem evForce_keep {vv qq s w b i v} (h_s : Keep vv qq s) :
    Keep vv qq (State.evForce s w b i v) := by
  delta State.evForce
  exact onWrite_keep h_s (fun t1 h2 => irqEdge_keep (wr_keep h2))

theorem applyNow_keep {vv qq s b i} (h_s : Keep vv qq s) :
    Keep vv qq (State.applyNow s b i) := by
  delta State.applyNow
  split
  · exact applyHead_keep h_s
  · exact applyGlint_keep h_s
  · exact compApply_keep (compApply_keep h_s)
  · exact Keep.foldl h_s (fun t5 x6 h7 => safeApply_keep h7)
  · exact Keep.foldl h_s (fun t9 x10 h11 => safeApply_keep h11)
  · exact applySet_keep h_s

theorem commitSet_keep {vv qq s w b i} (h_s : Keep vv qq s) :
    KeepC vv qq (State.commitSet s w b i) := by
  delta State.commitSet
  exact KeepC.ite (KeepC.bad (raise_keep (recErr_keep h_s))) (KeepC.ite (KeepC.bad (refuse_keep (pinSafe_keep h_s))) (by
      split
      · exact KeepC.bad (refuse_keep h_s)
      · exact KeepC.ite (by
            extract_lets t_8
            have h_t_8 : Keep vv qq t_8 := by
                unfold t_8
                exact safeCommit_keep h_s
            clear_value t_8
            exact KeepC.good (Keep.ite (applyNow_keep h_t_8) h_t_8)) (by
            extract_lets t_9
            have h_t_9 : Keep vv qq t_9 := by
                unfold t_9
                exact stagePage_keep h_s
            clear_value t_9
            exact KeepC.good (Keep.ite (applyNow_keep h_t_9) h_t_9))))

theorem commitWrite_keep {vv qq s w b i v} (h_s : Keep vv qq s) :
    Keep vv qq (State.commitWrite s w b i v) := by
  delta State.commitWrite
  exact onWrite_keep h_s (fun t1 h2 => Chk_andThen_keep (KeepC.ite (commitSet_keep h2) (KeepC.good h2)) (fun t3 h4 => Keep.ite (revertSet_keep h4) h4))

theorem errClear_keep {vv qq s w b i v} (h_s : Keep vv qq s) :
    Keep vv qq (State.errClear s w b i v) := by
  delta State.errClear
  exact onWrite_keep h_s (fun t1 h2 => Keep.ite (Keep.foldl h2 (fun t3 x4 h5 => wr_keep h5)) h2)

theorem lockWrite_keep {vv qq s w b i v} (h_s : Keep vv qq s) :
    Keep vv qq (State.lockWrite s w b i v) := by
  delta State.lockWrite
  exact onWrite_keep h_s (fun t1 h2 => Keep.ite h2 (Keep.ite (wr_keep h2) h2))

theorem hdrWrite_keep {vv qq s w b i off v} (h_s : Keep vv qq s) :
    Keep vv qq (State.hdrWrite s w b i off v) := by
  delta State.hdrWrite
  exact Keep.ite (ctrlWrite_keep h_s) (Keep.ite (ownerWrite_keep h_s) (Keep.ite (evClear_keep h_s) (Keep.ite (evMaskWrite_keep h_s) (Keep.ite (evForce_keep h_s) (Keep.ite (commitWrite_keep h_s) (Keep.ite (errClear_keep h_s) (Keep.ite (lockWrite_keep h_s) (onWrite_keep h_s (fun t1 h2 => h2)))))))))

theorem loWrite_keep {vv qq s w b i off v} (h_s : Keep vv qq s) :
    Keep vv qq (State.loWrite s w b i off v) := by
  delta State.loWrite
  split
  · rename_i a3
    have h4 := KeepC.eqBad (v := vv) (q := qq) a3 (reach_keep h_s)
    exact h4
  · rename_i a7
    have h8 := KeepC.eqGood (v := vv) (q := qq) a7 (reach_keep h_s)
    exact okResp_keep (stageLo_keep h8)

theorem hiWrite_keep {vv qq s w b i off v} (h_s : Keep vv qq s) :
    Keep vv qq (State.hiWrite s w b i off v) := by
  delta State.hiWrite
  exact Keep.ite (snapArm_keep h_s) (pairWrite_keep h_s (fun t1 x3 h2 => Keep.ite (refuse_keep h2) (storeWord_keep (storeWord_keep h2))))

theorem instCmdWord_keep {vv qq s w v} (h_s : Keep vv qq s) :
    Keep vv qq (State.instCmdWord s w v) := by
  delta State.instCmdWord
  split
  · exact instCreate_keep h_s
  · exact instStart_keep h_s
  · exact instQuiesce_keep h_s
  · exact instCmd_keep h_s (fun t9 x11 h10 => instReset_keep h10)
  · exact instCmd_keep h_s (fun t14 x16 h15 => instRemove_keep h15)
  · exact refuse_keep h_s

theorem guarded_keep {vv qq s w b i off v code bad} (h_s : Keep vv qq s) :
    Keep vv qq (State.guarded s w b i off v code bad) := by
  delta State.guarded
  exact onWrite_keep h_s (fun t1 h2 => Keep.ite (refuse_keep h2) (storeWord_keep h2))

theorem plainWrite_keep {vv qq s w b i off v} (h_s : Keep vv qq s) :
    Keep vv qq (State.plainWrite s w b i off v) := by
  delta State.plainWrite
  exact onWrite_keep h_s (fun t1 h2 => storeWord_keep h2)

theorem mgrWrite_keep {vv qq s w off v} (h_s : Keep vv qq s) :
    Keep vv qq (State.mgrWrite s w off v) := by
  delta State.mgrWrite
  exact Keep.ite (mbWord_keep h_s) (Keep.ite (onWrite_keep h_s (fun t1 h2 => Keep.ite (refuse_keep h2) (storeWord_keep h2))) (Keep.ite (onWrite_keep h_s (fun t3 h4 => instCmdWord_keep h4)) (Keep.ite (guarded_keep h_s) (Keep.ite (viewWrite_keep h_s) (Keep.ite (vfMap_keep h_s) (Keep.ite (mgrRearm_keep h_s) (plainWrite_keep h_s)))))))

theorem valeCmdWord_keep {vv qq s w v} (h_s : Keep vv qq s) :
    Keep vv qq (State.valeCmdWord s w v) := by
  delta State.valeCmdWord
  split
  · exact valeOpen_keep h_s
  · exact valeLoad_keep h_s
  · exact valeSeal_keep h_s
  · exact valeClose_keep h_s
  · exact worldRefuse_keep h_s

theorem wakeCauseWrite_keep {vv qq s w v} (h_s : Keep vv qq s) :
    Keep vv qq (State.wakeCauseWrite s w v) := by
  delta State.wakeCauseWrite
  exact onWrite_keep h_s (fun t1 h2 => by
      extract_lets u_3
      have h_u_3 : Keep vv qq u_3 := by
          unfold u_3
          exact storeWord_keep h2
      clear_value u_3
      exact Keep.ite (wr_keep h_u_3) h_u_3)

theorem pwrWrite_keep {vv qq s w off v} (h_s : Keep vv qq s) :
    Keep vv qq (State.pwrWrite s w off v) := by
  delta State.pwrWrite
  exact Keep.ite (stateReq_keep h_s) (Keep.ite (wakeCauseWrite_keep h_s) (Keep.ite (railReq_keep h_s) (Keep.ite (railReq_keep h_s) (guarded_keep h_s))))

theorem spareCmd_keep {vv qq s w n v} (h_s : Keep vv qq s) :
    Keep vv qq (State.spareCmd s w n v) := by
  delta State.spareCmd
  exact onWrite_keep h_s (fun t1 h2 => by
      extract_lets t1_3
      have h_t1_3 : Keep vv qq t1_3 := by
          unfold t1_3
          exact Keep.ite (spareStart_keep h2) h2
      clear_value t1_3
      exact Keep.ite (spareCancel_keep h_t1_3) h_t1_3)

theorem dramqWrite_keep {vv qq s w off v} (h_s : Keep vv qq s) :
    Keep vv qq (State.dramqWrite s w off v) := by
  delta State.dramqWrite
  exact Keep.ite (guarded_keep h_s) (Keep.ite (onWrite_keep h_s (fun t1 h2 => portWrite_keep h2)) (Keep.ite (onWrite_keep h_s (fun t3 h4 => effWrite_keep h4)) (plainWrite_keep h_s)))

theorem ctxOpWord_keep {vv qq s w v} (h_s : Keep vv qq s) :
    Keep vv qq (State.ctxOpWord s w v) := by
  delta State.ctxOpWord
  split
  · exact ctxRead_keep h_s
  · exact ctxWrite_keep h_s
  · exact ctxEnable_keep h_s
  · exact ctxDisable_keep h_s
  · exact ctxMigrate_keep h_s
  · exact ctxOp_keep h_s (fun t17 x19 h18 => h18)

theorem mgrAlloc_keep {vv qq s w v} (h_s : Keep vv qq s) :
    Keep vv qq (State.mgrAlloc s w v) := by
  delta State.mgrAlloc
  exact onWrite_keep h_s (fun t1 h2 => by
      extract_lets n_3
      exact Keep.ite (refuse_keep h2) (Keep.ite (refuse_keep h2) (resizeCtx_keep (storeWord_keep (gfxAccount_keep h2)))))

theorem compWrite_keep {vv qq s w n off v} (h_s : Keep vv qq s) :
    Keep vv qq (State.compWrite s w n off v) := by
  delta State.compWrite
  exact Keep.ite (onWrite_keep h_s (fun t1 h2 => Keep.ite (refuse_keep h2) (storeWord_keep h2))) (Keep.ite (coefWrite_keep h_s) (Keep.ite (substWrite_keep h_s) (plainWrite_keep h_s)))

theorem linkWrite_keep {vv qq s w n off v} (h_s : Keep vv qq s) :
    Keep vv qq (State.linkWrite s w n off v) := by
  delta State.linkWrite
  exact Keep.ite (linkCtrl_keep h_s) (Keep.ite (auxWrite_keep h_s) (Keep.ite (dsiWrite_keep h_s) (Keep.ite (blWrite_keep h_s) (Keep.ite (guarded_keep h_s) (plainWrite_keep h_s)))))

theorem capWrite_keep {vv qq s w n off v} (h_s : Keep vv qq s) :
    Keep vv qq (State.capWrite s w n off v) := by
  delta State.capWrite
  exact Keep.ite (trigWrite_keep h_s) (Keep.ite (guarded_keep h_s) (plainWrite_keep h_s))

theorem touchWrite_keep {vv qq s w n off v} (h_s : Keep vv qq s) :
    Keep vv qq (State.touchWrite s w n off v) := by
  delta State.touchWrite
  exact Keep.ite (plainWrite_keep h_s) (Keep.ite (surfCtrl_keep h_s) (Keep.ite (rptCtrl_keep h_s) (Keep.ite (rptCons_keep h_s) (Keep.ite (guarded_keep h_s) (plainWrite_keep h_s)))))

theorem surfWrite_keep {vv qq s w p off v} (h_s : Keep vv qq s) :
    Keep vv qq (State.surfWrite s w p off v) := by
  delta State.surfWrite
  exact Keep.ite (portCtrl_keep h_s) (Keep.ite (hvCtrl_keep h_s) (Keep.ite (streamCfg_keep h_s) (plainWrite_keep h_s)))

theorem audioWrite_keep {vv qq s w off v} (h_s : Keep vv qq s) :
    Keep vv qq (State.audioWrite s w off v) := by
  delta State.audioWrite
  exact Keep.ite (guarded_keep h_s) (Keep.ite (safeloadGo_keep h_s) (Keep.ite (psetAccess_keep h_s) (Keep.ite (strmCfg_keep h_s) (Keep.ite (by
      extract_lets t_1
      split
      · exact portEnable_keep h_s
      · exact portCfg_keep h_s
      · exact portStat_keep h_s
      · exact silCfg_keep h_s
      · exact plainWrite_keep h_s) (plainWrite_keep h_s)))))

theorem encWrite_keep {vv qq s w off v} (h_s : Keep vv qq s) :
    Keep vv qq (State.encWrite s w off v) := by
  delta State.encWrite
  exact Keep.ite (encSet_keep h_s) (pinWrite_keep h_s (fun t1 h2 => storeWord_keep h2))

theorem gpioWrite_keep {vv qq s w off v} (h_s : Keep vv qq s) :
    Keep vv qq (State.gpioWrite s w off v) := by
  delta State.gpioWrite
  exact Keep.ite (plainWrite_keep h_s) (Keep.ite (pinOwnerWrite_keep h_s) (Keep.ite (gpioCfg_keep h_s) (Keep.ite (i2cCtrl_keep h_s) (Keep.ite (uartWrite_keep h_s) (Keep.ite (uartWrite_keep h_s) (pinWrite_keep h_s (fun t1 h2 => storeWord_keep h2)))))))

theorem safeWrite_keep {vv qq s w off v} (h_s : Keep vv qq s) :
    Keep vv qq (State.safeWrite s w off v) := by
  delta State.safeWrite
  exact Keep.ite (faultCtrl_keep h_s) (Keep.ite (headSrcWrite_keep h_s) (Keep.ite (hvPermit_keep h_s) (Keep.ite (swdKick_keep h_s) (Keep.ite (alarmCtrl_keep h_s) (plainWrite_keep h_s)))))

theorem blkWrite_keep {vv qq s w b i off v} (h_s : Keep vv qq s) :
    Keep vv qq (State.blkWrite s w b i off v) := by
  delta State.blkWrite
  split
  · exact mgrWrite_keep h_s
  · exact Keep.ite (onWrite_keep h_s (fun t3 h4 => potCommand_keep h4)) (plainWrite_keep h_s)
  · exact Keep.ite (onWrite_keep h_s (fun t6 h7 => valeCmdWord_keep h7)) (Keep.ite (dmaOwner_keep h_s) (plainWrite_keep h_s))
  · exact Keep.ite (swdtWrite_keep h_s) (Keep.ite (swdtKick_keep h_s) (plainWrite_keep h_s))
  · exact Keep.ite (rstCtrl_keep h_s) (Keep.ite (keyRevoke_keep h_s) (Keep.ite (flOp_keep h_s) (plainWrite_keep h_s)))
  · exact pwrWrite_keep h_s
  · exact Keep.ite (guarded_keep h_s) (plainWrite_keep h_s)
  · exact Keep.ite (masterCfg_keep h_s) (Keep.ite (snapCtrl_keep h_s) (plainWrite_keep h_s))
  · exact Keep.ite (guarded_keep h_s) (Keep.ite (spareCmd_keep h_s) (plainWrite_keep h_s))
  · exact dramqWrite_keep h_s
  · exact Keep.ite (onWrite_keep h_s (fun t16 h17 => ctxOpWord_keep h17)) (plainWrite_keep h_s)
  · exact Keep.ite (dmaCtrl_keep h_s) (plainWrite_keep h_s)
  · exact Keep.ite (mgrAlloc_keep h_s) (Keep.ite (onWrite_keep h_s (fun t20 h21 => storeWord_keep h21)) (plainWrite_keep h_s))
  · exact compWrite_keep h_s
  · exact Keep.ite (granWrite_keep h_s) (Keep.ite (grpArm_keep h_s) (plainWrite_keep h_s))
  · exact plainWrite_keep h_s
  · exact Keep.ite (poseWrite_keep h_s) (plainWrite_keep h_s)
  · exact linkWrite_keep h_s
  · exact capWrite_keep h_s
  · exact touchWrite_keep h_s
  · exact surfWrite_keep h_s
  · exact Keep.ite (boostCtrl_keep h_s) (plainWrite_keep h_s)
  · exact audioWrite_keep h_s
  · exact encWrite_keep h_s
  · exact gpioWrite_keep h_s
  · exact safeWrite_keep h_s
  · exact Keep.ite (lsramWrite_keep h_s) (plainWrite_keep h_s)
  · exact plainWrite_keep h_s

theorem writeWord_keep {vv qq s w b i off v} (h_s : Keep vv qq s) :
    Keep vv qq (State.writeWord s w b i off v) := by
  delta State.writeWord
  exact Keep.ite (hdrWrite_keep h_s) (by
      split
      · exact loWrite_keep h_s
      · exact hiWrite_keep h_s
      · split
        · rename_i a9
          have h10 := KeepC.eqBad (v := vv) (q := qq) a9 (reach_keep h_s)
          exact h10
        · rename_i a13
          have h14 := KeepC.eqGood (v := vv) (q := qq) a13 (reach_keep h_s)
          exact blkWrite_keep h14)

theorem commitApply_keep {vv qq s b i} (h_s : Keep vv qq s) :
    Keep vv qq (State.commitApply s b i) := by
  delta State.commitApply
  split
  · exact Keep.ite (applySet_keep h_s) h_s
  · exact Keep.ite (applyHead_keep h_s) h_s
  · exact Keep.ite (applyGlint_keep h_s) h_s
  · exact Keep.foldl h_s (fun t5 x6 h7 => Keep.ite h7 (safeApply_keep h7))
  · exact Keep.foldl h_s (fun t9 x10 h11 => Keep.ite h11 (safeApply_keep h11))
  · exact h_s

theorem headerCmd_keep {vv qq s w page off k} (h_s : Keep vv qq s) (h_k : ∀ y0 y1, Keep vv qq (k y0 y1)) :
    Keep vv qq (State.headerCmd s w page off k) := by
  delta State.headerCmd
  split
  · exact h_k _ _
  · exact potRefuse_keep h_s

theorem pageWrite_keep {vv qq s w page off v} (h_s : Keep vv qq s) :
    Keep vv qq (State.pageWrite s w page off v) := by
  delta State.pageWrite
  split
  · exact writeWord_keep h_s
  · exact potRefuse_keep h_s

theorem snapCopy_keep {vv qq s at_} (h_s : Keep vv qq s) :
    Keep vv qq (State.snapCopy s at_) := by
  delta State.snapCopy
  extract_lets n_1 page_2 snap_3 u_4 s1_5
  have h_s1_5 : Keep vv qq s1_5 := by
      unfold s1_5
      exact Keep.upd h_s
  clear_value s1_5
  exact count_keep (Keep.foldl h_s1_5 (fun t6 x7 h8 => raise_keep h8))

theorem snapStrobe_keep {vv qq s} (h_s : Keep vv qq s) :
    Keep vv qq (State.snapStrobe s) := by
  delta State.snapStrobe
  extract_lets u_1 tick_2 s1_3 per_4
  have h_s1_3 : Keep vv qq s1_3 := by
      unfold s1_3
      exact Keep.ite (snapCopy_keep h_s) (count_keep (raise_keep h_s))
  clear_value s1_3
  exact Keep.ite h_s (Keep.ite (wr_keep h_s1_3) (wr_keep h_s1_3))

theorem execCommit_keep {vv qq w page s} (h_s : Keep vv qq s) :
    KeepN vv qq (execCommit w page s) := by
  delta execCommit
  exact KeepN.next (headerCmd_keep h_s (fun x1 x2 => commitWrite_keep h_s))

theorem execCommitApply_keep {vv qq page s} (h_s : Keep vv qq s) :
    KeepN vv qq (execCommitApply page s) := by
  delta execCommitApply
  exact KeepN.next (by
      split
      · exact commitApply_keep h_s
      · exact h_s)

theorem execCommitRevert_keep {vv qq w page s} (h_s : Keep vv qq s) :
    KeepN vv qq (execCommitRevert w page s) := by
  delta execCommitRevert
  exact KeepN.next (headerCmd_keep h_s (fun x1 x2 => commitWrite_keep h_s))

theorem execErrCodeClear_keep {vv qq w page s} (h_s : Keep vv qq s) :
    KeepN vv qq (execErrCodeClear w page s) := by
  delta execErrCodeClear
  exact KeepN.next (headerCmd_keep h_s (fun x1 x2 => errClear_keep h_s))

theorem execEvForce_keep {vv qq w page v s} (h_s : Keep vv qq s) :
    KeepN vv qq (execEvForce w page v s) := by
  delta execEvForce
  exact KeepN.next (headerCmd_keep h_s (fun x1 x2 => evForce_keep h_s))

theorem execEvRawClear_keep {vv qq w page v s} (h_s : Keep vv qq s) :
    KeepN vv qq (execEvRawClear w page v s) := by
  delta execEvRawClear
  exact KeepN.next (headerCmd_keep h_s (fun x1 x2 => evClear_keep h_s))

theorem execLockSet_keep {vv qq w page s} (h_s : Keep vv qq s) :
    KeepN vv qq (execLockSet w page s) := by
  delta execLockSet
  exact KeepN.next (headerCmd_keep h_s (fun x1 x2 => lockWrite_keep h_s))

theorem execPgOwnerWrite_keep {vv qq w page v s} (h_s : Keep vv qq s) :
    KeepN vv qq (execPgOwnerWrite w page v s) := by
  delta execPgOwnerWrite
  exact KeepN.next (headerCmd_keep h_s (fun x1 x2 => ownerWrite_keep h_s))

theorem execRegWriteHi_keep {vv qq w page off v s} (h_s : Keep vv qq s) :
    KeepN vv qq (execRegWriteHi w page off v s) := by
  delta execRegWriteHi
  exact KeepN.next (by
      split
      · exact Keep.ite (hiWrite_keep h_s) (writeWord_keep h_s)
      · exact potRefuse_keep h_s)

theorem execRegisterWrite_keep {vv qq w page off v s} (h_s : Keep vv qq s) :
    KeepN vv qq (execRegisterWrite w page off v s) := by
  delta execRegisterWrite
  exact KeepN.next (pageWrite_keep h_s)

theorem execSnapStrobe_keep {vv qq s} (h_s : Keep vv qq s) :
    KeepN vv qq (execSnapStrobe s) := by
  delta execSnapStrobe
  exact KeepN.next (snapStrobe_keep h_s)

theorem execSoftReset_keep {vv qq w page enable s} (h_s : Keep vv qq s) :
    KeepN vv qq (execSoftReset w page enable s) := by
  delta execSoftReset
  exact KeepN.next (headerCmd_keep h_s (fun x1 x2 => ctrlWrite_keep h_s))

end Sys2Proof.Laws
end

