-- ==== Sys2Proof/Laws/KeepBoot.lean ====
section
/-! SUPPORT. The operations and commands of Machine/Boot.lean keep the variant, the queue and the canonical form of the memories. -/

set_option Elab.async false

namespace Sys2Proof.Laws

open Machine

theorem applyRec_keep {vv qq s r} (h_s : Keep vv qq s) :
    Keep vv qq (State.applyRec s r) := by
  delta State.applyRec
  split
  · exact h_s
  · extract_lets u_7 t_8
    have h_u_7 : Keep vv qq u_7 := by
        unfold u_7
        exact readWord_keep h_s
    have h_t_8 : Keep vv qq t_8 := by
        unfold t_8
        exact Keep.ite (writeWord_keep h_s) (writeWord_keep h_u_7)
    clear_value u_7 t_8
    exact Keep.upd h_t_8

theorem applyRecs_keep {vv qq s l pick} (h_s : Keep vv qq s) :
    Keep vv qq (State.applyRecs s l pick) := by
  delta State.applyRecs
  extract_lets u_1 t_2 u_3
  have h_t_2 : Keep vv qq t_2 := by
      unfold t_2
      exact Keep.foldl (Keep.upd h_s) (fun t4 x5 h6 => applyRec_keep h6)
  clear_value t_2
  exact Keep.upd h_t_2

theorem bootRecs_keep {vv qq s pick} (h_s : Keep vv qq s) :
    Keep vv qq (State.bootRecs s pick) := by
  delta State.bootRecs
  exact applyRecs_keep h_s

theorem bootStep2_keep {vv qq s} (h_s : Keep vv qq s) :
    Keep vv qq (State.bootStep2 s) := by
  delta State.bootStep2
  extract_lets u_1 s1_2
  have h_s1_2 : Keep vv qq s1_2 := by
      unfold s1_2
      exact Keep.upd h_s
  clear_value s1_2
  exact Keep.ite (oppNote_keep (applyRecs_keep h_s1_2)) h_s1_2

theorem displayBoot_keep {vv qq s} (h_s : Keep vv qq s) :
    Keep vv qq (State.displayBoot s) := by
  delta State.displayBoot
  extract_lets s1_1 s2_2 u_3
  have h_s1_1 : Keep vv qq s1_1 := by
      unfold s1_1
      exact Keep.ite h_s (wr_keep (wr_keep (wr_keep (wr_keep h_s))))
  have h_s2_2 : Keep vv qq s2_2 := by
      unfold s2_2
      exact bootRecs_keep h_s1_1
  clear_value s1_1 s2_2
  exact Keep.upd h_s2_2

theorem giveBack_keep {vv qq s old} (h_s : Keep vv qq s) :
    Keep vv qq (State.giveBack s old) := by
  delta State.giveBack
  exact Keep.foldl h_s (fun t1 x2 h3 => Keep.foldl h3 (fun t4 x5 h6 => wr_keep h6))

theorem keepDram_keep {vv qq s old} (h_s : Keep vv qq s) (h_old : Keep vv qq old) :
    Keep vv qq (State.keepDram s old) := by
  delta State.keepDram
  exact ⟨h_s.var, h_s.pend, h_old.dram, h_s.basin, h_s.flash, h_s.otp⟩

theorem loadManager_keep {vv qq s c} (h_s : Keep vv qq s) :
    Keep vv qq (State.loadManager s c) := by
  delta State.loadManager
  extract_lets d_1 s1_2 u_3
  have h_s1_2 : Keep vv qq s1_2 := by
      unfold s1_2
      exact wrBytes_keep h_s
  clear_value s1_2
  exact Keep.ite (Keep.upd h_s1_2) (wr_keep h_s1_2)

theorem loadSafety_keep {vv qq s c} (h_s : Keep vv qq s) :
    Keep vv qq (State.loadSafety s c) := by
  delta State.loadSafety
  extract_lets d_1 m_2 u_3
  exact wr_keep (Keep.upd h_s)

theorem selectCopy_keep {vv qq s errA errB} (h_s : Keep vv qq s) :
    Keep vv qq (State.selectCopy s errA errB) := by
  delta State.selectCopy
  extract_lets ra_1 rb_2
  split
  · extract_lets c_8 s1_9 u_10
    have h_s1_9 : Keep vv qq s1_9 := by
        unfold s1_9
        exact Keep.foldl h_s (fun t11 x12 h13 => wr_keep h13)
    clear_value s1_9
    exact Keep.upd h_s1_9

theorem safetyBoot_keep {vv qq s} (h_s : Keep vv qq s) :
    Keep vv qq (State.safetyBoot s) := by
  delta State.safetyBoot
  extract_lets s1_1 u_2 u_3 u_4 s2_5 s3_6
  have h_s1_1 : Keep vv qq s1_1 := by
      unfold s1_1
      exact bootRecs_keep h_s
  have h_s2_5 : Keep vv qq s2_5 := by
      unfold s2_5
      exact Keep.upd h_s1_1
  have h_s3_6 : Keep vv qq s3_6 := by
      unfold s3_6
      split
      · exact loadSafety_keep h_s2_5
      · exact h_s2_5
  clear_value s1_1 s2_5 s3_6
  exact ampPins_keep (linkPins_keep h_s3_6)

theorem mainInit_keep {vv qq s} (h_s : Keep vv qq s) :
    Keep vv qq (State.mainInit s) := by
  delta State.mainInit
  extract_lets s1_1 s2_2
  have h_s1_1 : Keep vv qq s1_1 := by
      unfold s1_1
      exact resizeCtx_keep h_s
  have h_s2_2 : Keep vv qq s2_2 := by
      unfold s2_2
      exact Keep.foldl h_s1_1 (fun t3 x4 h5 => by
          extract_lets r_6 u_7
          exact Keep.ite h5 (wr_keep (wr_keep (Keep.upd h5))))
  clear_value s1_1 s2_2
  exact Keep.foldl h_s2_2 (fun t8 x9 h10 => by
      extract_lets u_11
      have h_u_11 : Keep vv qq u_11 := by
          unfold u_11
          exact wrB_keep h10
      clear_value u_11
      exact Keep.ite (portOn_keep h_u_11) h_u_11)

theorem trainSub_keep {vv qq s n pass delay} (h_s : Keep vv qq s) :
    KeepP vv qq (State.trainSub s n pass delay) := by
  delta State.trainSub
  extract_lets k_1 p_2 s1_3 s2_4 s3_5 spare_6 lost_7 m_8
  have h_s1_3 : Keep vv qq s1_3 := by
      unfold s1_3
      exact wr_keep (Keep.foldl h_s (fun t9 x10 h11 => wr_keep h11))
  have h_s2_4 : Keep vv qq s2_4 := by
      unfold s2_4
      exact wr_keep h_s1_3
  have h_s3_5 : Keep vv qq s3_5 := by
      unfold s3_5
      exact Keep.foldl h_s2_4 (fun t12 x13 h14 => Keep.ite h14 (recErr_keep h14))
  clear_value s1_3 s2_4 s3_5
  clear_value lost_7
  split
  · exact KeepP.mk (wrB_keep (wr_keep h_s3_5))
  · exact KeepP.ite (by
        extract_lets old_18 m1_19
        exact KeepP.mk (wr_keep (wr_keep (wr_keep h_s3_5)))) (KeepP.mk h_s3_5)
  · exact KeepP.mk h_s3_5

theorem train_keep {vv qq s pass delay} (h_s : Keep vv qq s) :
    KeepP vv qq (State.train s pass delay) := by
  delta State.train
  exact KeepP.foldl (KeepP.mk h_s) (fun t1 x2 h3 => by
      split
      · rename_i a7
        have h8 := KeepP.eq (v := vv) (q := qq) a7 (trainSub_keep (KeepP.fst h3))
        exact KeepP.mk h8)

theorem railRun_keep {vv qq s n} (h_s : Keep vv qq s) :
    Keep vv qq (State.railRun s n) := by
  delta State.railRun
  exact Keep.ite h_s (railAck_keep (railTo_keep h_s))

theorem toRun_keep {vv qq s} (h_s : Keep vv qq s) :
    Keep vv qq (State.toRun s) := by
  delta State.toRun
  extract_lets l_1 s1_2 s2_3 u_4 s3_5
  have h_s1_2 : Keep vv qq s1_2 := by
      unfold s1_2
      exact pwrStep_keep h_s
  have h_s2_3 : Keep vv qq s2_3 := by
      unfold s2_3
      exact Keep.ite h_s1_2 (wr_keep (Keep.foldl h_s1_2 (fun t6 x7 h8 => count_keep (wakeNote_keep h8))))
  have h_s3_5 : Keep vv qq s3_5 := by
      unfold s3_5
      exact Keep.upd h_s2_3
  clear_value s1_2 s2_3 s3_5
  exact hvSync_keep (Keep.ite (raise_keep h_s3_5) h_s3_5)

theorem mainBoot_keep {vv qq s errA errB pass delay} (h_s : Keep vv qq s) :
    Keep vv qq (State.mainBoot s errA errB pass delay) := by
  delta State.mainBoot
  extract_lets s0_1 s1_2 s2_3 u_4 s3_5 s4_6 s5_7 both_8 s6_9 s7_10 s8_11
  have h_s0_1 : Keep vv qq s0_1 := by
      unfold s0_1
      exact wr_keep h_s
  have h_s1_2 : Keep vv qq s1_2 := by
      unfold s1_2
      exact Keep.ite h_s0_1 (selectCopy_keep h_s0_1)
  have h_s2_3 : Keep vv qq s2_3 := by
      unfold s2_3
      exact Keep.ite (applyRecs_keep h_s1_2) h_s1_2
  have h_s3_5 : Keep vv qq s3_5 := by
      unfold s3_5
      exact Keep.upd h_s2_3
  have h_s4_6 : Keep vv qq s4_6 := by
      unfold s4_6
      exact Keep.ite (displayReset_keep (safetyReset_keep h_s3_5)) h_s3_5
  have h_s5_7 : Keep vv qq s5_7 := by
      unfold s5_7
      exact Keep.ite h_s4_6 (safetyBoot_keep h_s4_6)
  have h_s6_9 : Keep vv qq s6_9 := by
      unfold s6_9
      exact mainInit_keep h_s5_7
  have h_s7_10 : Keep vv qq s7_10 := by
      unfold s7_10
      exact Keep.ite (displayBoot_keep (bootRecs_keep h_s6_9)) h_s6_9
  have h_s8_11 : Keep vv qq s8_11 := by
      unfold s8_11
      exact bootRecs_keep h_s7_10
  clear_value s0_1 s1_2 s2_3 s3_5 s4_6 s5_7 s6_9 s7_10 s8_11
  split
  · rename_i a15
    have h16 := KeepP.eq (v := vv) (q := qq) a15 (train_keep h_s8_11)
    extract_lets u_17 u_18 s10_19 s11_20 s12_21 s13_22
    have h_s10_19 : Keep vv qq s10_19 := by
        unfold s10_19
        exact ⟨h16.var, h16.pend, rfl, rfl, h16.flash, h16.otp⟩
    have h_s11_20 : Keep vv qq s11_20 := by
        unfold s11_20
        exact headPlls_keep (clocksStart_keep (Keep.foldl h_s10_19 (fun t23 x24 h25 => railRun_keep h25)))
    have h_s12_21 : Keep vv qq s12_21 := by
        unfold s12_21
        exact wr_keep h_s11_20
    have h_s13_22 : Keep vv qq s13_22 := by
        unfold s13_22
        split
        · exact Keep.ite (loadManager_keep h_s12_21) h_s12_21
        · exact h_s12_21
    clear_value s10_19 s11_20 s12_21 s13_22
    exact Keep.ite (wr_keep h_s13_22) (toRun_keep (wr_keep h_s13_22))

theorem railGood_keep {vv qq s} (h_s : Keep vv qq s) :
    Keep vv qq (State.railGood s) := by
  delta State.railGood
  exact Keep.ite h_s (by
      extract_lets n_1 u_2 s1_3 s2_4 u_5 u_6
      have h_s1_3 : Keep vv qq s1_3 := by
          unfold s1_3
          exact Keep.upd h_s
      have h_s2_4 : Keep vv qq s2_4 := by
          unfold s2_4
          exact Keep.ite (bootStep2_keep h_s1_3) (by
              split
              · exact Keep.ite (railRun_keep h_s1_3) h_s1_3
              · exact h_s1_3)
      clear_value s1_3 s2_4
      exact Keep.ite (Keep.upd h_s2_4) h_s2_4)

theorem remake_keep {vv qq s} (h_s : Keep vv qq s) :
    Keep vv qq (State.remake s) := by
  delta State.remake
  extract_lets s2_1 s3_2 s4_3 s5_4 u_5
  have h_s2_1 : Keep vv qq s2_1 := by
      unfold s2_1
      exact keepDram_keep (displayReset_keep (clearMain_keep h_s)) h_s
  have h_s3_2 : Keep vv qq s3_2 := by
      unfold s3_2
      exact bootRecs_keep (bootRecs_keep (mainInit_keep h_s2_1))
  have h_s4_3 : Keep vv qq s4_3 := by
      unfold s4_3
      exact bootRecs_keep h_s3_2
  have h_s5_4 : Keep vv qq s5_4 := by
      unfold s5_4
      exact giveBack_keep h_s4_3
  clear_value s2_1 s3_2 s4_3 s5_4
  exact clocksStart_keep (⟨h_s5_4.var, h_s5_4.pend, h_s.dram, h_s5_4.basin, h_s5_4.flash, h_s5_4.otp⟩)

theorem startHart_keep {vv qq s pc} (h_s : Keep vv qq s) :
    Keep vv qq (State.startHart s pc) := by
  delta State.startHart
  exact Keep.upd h_s

theorem resume_keep {vv qq s} (h_s : Keep vv qq s) :
    Keep vv qq (State.resume s) := by
  delta State.resume
  exact toRun_keep (startDeferred_keep (touchResume_keep (unblank_keep (startHart_keep h_s))))

theorem setReason_keep {vv qq s c r} (h_s : Keep vv qq s) :
    Keep vv qq (State.setReason s c r) := by
  delta State.setReason
  exact Keep.ite (wr_keep (wr_keep h_s)) (wr_keep (wr_keep h_s))

theorem safetyDomainBoot_keep {vv qq s readErr} (h_s : Keep vv qq s) :
    Keep vv qq (State.safetyDomainBoot s readErr) := by
  delta State.safetyDomainBoot
  exact Keep.ite h_s (by
      split
      · exact safetyBoot_keep h_s
      · extract_lets r_6 u_7 s1_8
        have h_s1_8 : Keep vv qq s1_8 := by
            unfold s1_8
            exact Keep.upd h_s
        clear_value s1_8
        exact Keep.ite (safetyBoot_keep h_s) (wr_keep (setReason_keep h_s1_8)))

theorem execDisplayDomainReset_keep {vv qq s} (h_s : Keep vv qq s) :
    KeepN vv qq (execDisplayDomainReset s) := by
  delta execDisplayDomainReset
  exact KeepN.next (Keep.ite (displayBoot_keep h_s) h_s)

theorem execExitLogicReady_keep {vv qq readErr s} (h_s : Keep vv qq s) :
    KeepN vv qq (execExitLogicReady readErr s) := by
  delta execExitLogicReady
  exact KeepN.next (Keep.ite h_s (Keep.ite (resume_keep h_s) (by
      split
      · exact coldStart_keep h_s
      · extract_lets r_6
        exact Keep.ite (resume_keep (remake_keep h_s)) (wr_keep (wr_keep (setReason_keep (coldStart_keep h_s)))))))

theorem execMainBoot_keep {vv qq errA errB pass delay s} (h_s : Keep vv qq s) :
    KeepN vv qq (execMainBoot errA errB pass delay s) := by
  delta execMainBoot
  exact KeepN.next (Keep.ite (mainBoot_keep h_s) h_s)

theorem execManagerRelease_keep {vv qq s} (h_s : Keep vv qq s) :
    KeepN vv qq (execManagerRelease s) := by
  delta execManagerRelease
  exact KeepN.next (by
      split
      · exact Keep.ite (by
            extract_lets s1_4 u_5
            have h_s1_4 : Keep vv qq s1_4 := by
                unfold s1_4
                exact startHart_keep h_s
            clear_value s1_4
            exact toRun_keep (Keep.upd h_s1_4)) h_s
      · exact h_s)

theorem execRailGood_keep {vv qq s} (h_s : Keep vv qq s) :
    KeepN vv qq (execRailGood s) := by
  delta execRailGood
  exact KeepN.next (railGood_keep h_s)

theorem execSafetyDomainBoot_keep {vv qq readErr s} (h_s : Keep vv qq s) :
    KeepN vv qq (execSafetyDomainBoot readErr s) := by
  delta execSafetyDomainBoot
  exact KeepN.next (safetyDomainBoot_keep h_s)

end Sys2Proof.Laws
end

