-- ==== Sys2Proof/Laws/KeepAccess.lean ====
section
/-! SUPPORT. The operations and commands of Machine/Access.lean keep the variant, the queue and the canonical form of the memories. -/

set_option Elab.async false

namespace Sys2Proof.Laws

open Machine

theorem dramAccess_keep {vv qq s q a op} (h_s : Keep vv qq s) :
    Keep vv qq (State.dramAccess s q a op) := by
  delta State.dramAccess
  split
  · exact errResp_keep (memRecord_keep h_s)
  · split
    · exact okResp_keep (fetched_keep h_s)
    · exact okResp_keep (fetched_keep h_s)
    · exact okResp_keep (put_keep h_s)

theorem hartAccess_keep {vv qq s h m a op} (h_s : Keep vv qq s) :
    Keep vv qq (State.hartAccess s h m a op) := by
  delta State.hartAccess
  extract_lets q_1 t_2 fetch_3
  have h_t_2 : Keep vv qq t_2 := by
      unfold t_2
      exact dramAccess_keep h_s
  clear_value t_2
  split
  · exact h_t_2
  · exact Keep.ite (valeFault_keep h_t_2) (Keep.ite (poisonFault_keep h_t_2) h_t_2)

theorem pageAccess_keep {vv qq s w b i off op} (h_s : Keep vv qq s) :
    Keep vv qq (State.pageAccess s w b i off op) := by
  delta State.pageAccess
  split
  · rename_i a3
    have h4 := KeepC.eqBad (v := vv) (q := qq) a3 (reach_keep h_s)
    exact h4
  · rename_i a7
    have h8 := KeepC.eqGood (v := vv) (q := qq) a7 (reach_keep h_s)
    exact Keep.ite (Keep.ite (mbSize_keep h_s) (refuse_keep h_s)) (by
        split
        · exact readWord_keep h_s
        · exact readWord_keep h_s
        · exact writeWord_keep h_s)

theorem bellAccess_keep {vv qq s k off op} (h_s : Keep vv qq s) :
    Keep vv qq (State.bellAccess s k off op) := by
  delta State.bellAccess
  exact Keep.ite (refuse_keep h_s) (by
      split
      · exact okResp_keep h_s
      · exact okResp_keep h_s
      · exact doorbell_keep h_s)

theorem boxAccess_keep {vv qq s k off op} (h_s : Keep vv qq s) :
    Keep vv qq (State.boxAccess s k off op) := by
  delta State.boxAccess
  extract_lets w_1
  split
  · rename_i a4
    have h5 := KeepS.eq (v := vv) (q := qq) a4 (mbReach_keep h_s)
    exact h5
  · exact Keep.ite (mbRefuse_keep h_s) (Keep.ite (mbRefuse_keep h_s) (by
        split
        · exact mbRead_keep h_s
        · exact mbRead_keep h_s
        · exact mbWord_keep h_s))

theorem windowAccess_keep {vv qq s k off op} (h_s : Keep vv qq s) :
    Keep vv qq (State.windowAccess s k off op) := by
  delta State.windowAccess
  exact Keep.ite (bellAccess_keep h_s) (Keep.ite (boxAccess_keep h_s) (Keep.ite (by
      extract_lets slot_1
      split
      · exact pageAccess_keep h_s
      · exact potRefuse_keep h_s) (potRefuse_keep h_s)))

theorem access_keep {vv qq s who a op} (h_s : Keep vv qq s) :
    Keep vv qq (State.access s who a op) := by
  delta State.access
  extract_lets q_1 manager_2 k_3
  exact Keep.ite (by
      split
      · exact hartAccess_keep h_s
      · exact dramAccess_keep h_s) (Keep.ite (basinAccess_keep h_s) (Keep.ite (by
      split
      · exact pageAccess_keep h_s
      · exact potRefuse_keep h_s) (Keep.ite (windowAccess_keep h_s) (potRefuse_keep h_s))))

theorem pcieGo_keep {vv qq s f bar2 off op} (h_s : Keep vv qq s) :
    Keep vv qq (State.pcieGo s f bar2 off op) := by
  delta State.pcieGo
  extract_lets k_1
  exact Keep.ite (pageAccess_keep h_s) (Keep.ite (Keep.ite (dramAccess_keep h_s) (potRefuse_keep h_s)) (windowAccess_keep h_s))

theorem pcie_keep {vv qq s f bar2 off op} (h_s : Keep vv qq s) :
    Keep vv qq (State.pcie s f bar2 off op) := by
  delta State.pcie
  exact Keep.ite (by
      extract_lets u_1
      have h_u_1 : Keep vv qq u_1 := by
          unfold u_1
          exact errResp_keep h_s
      clear_value u_1
      exact Keep.upd h_u_1) (by
      extract_lets t_2
      have h_t_2 : Keep vv qq t_2 := by
          unfold t_2
          exact pcieGo_keep h_s
      clear_value t_2
      exact Keep.upd h_t_2)

theorem execMemoryAccess_keep {vv qq who a op s} (h_s : Keep vv qq s) :
    KeepN vv qq (execMemoryAccess who a op s) := by
  delta execMemoryAccess
  exact KeepN.next (access_keep (by
      split
      · exact awake_keep h_s
      · exact h_s))

theorem execPcieRequest_keep {vv qq f bar2 off op s} (h_s : Keep vv qq s) :
    KeepN vv qq (execPcieRequest f bar2 off op s) := by
  delta execPcieRequest
  exact KeepN.next (pcie_keep h_s)

end Sys2Proof.Laws
end

