-- ==== Sys2Proof/Laws/KeepFrames.lean ====
section
/-! SUPPORT. The operations and commands of Machine/Frames.lean keep the variant, the queue and the canonical form of the memories. -/

set_option Elab.async false

namespace Sys2Proof.Laws

open Machine

theorem blankApply_keep {vv qq s h} (h_s : Keep vv qq s) :
    Keep vv qq (State.blankApply s h) := by
  delta State.blankApply
  extract_lets n_1 wait_2 held_3 s1_4 s2_5 s3_6
  have h_s1_4 : Keep vv qq s1_4 := by
      unfold s1_4
      exact Keep.ite h_s (applyHead_keep h_s)
  have h_s2_5 : Keep vv qq s2_5 := by
      unfold s2_5
      exact Keep.ite h_s1_4 (applyGlint_keep h_s1_4)
  have h_s3_6 : Keep vv qq s3_6 := by
      unfold s3_6
      exact compApply_keep h_s2_5
  clear_value s1_4 s2_5 s3_6
  exact Keep.ite h_s2_5 (Keep.ite h_s3_6 (wr_keep h_s3_6))

theorem blankFlip_keep {vv qq s h} (h_s : Keep vv qq s) :
    KeepP vv qq (State.blankFlip s h) := by
  delta State.blankFlip
  extract_lets n_1 s1_2 s2_3 u_4 u_5 s3_6
  have h_s1_2 : Keep vv qq s1_2 := by
      unfold s1_2
      exact wr_keep (count_keep (wr_keep (wr_keep h_s)))
  have h_s2_3 : Keep vv qq s2_3 := by
      unfold s2_3
      exact wr_keep h_s1_2
  have h_s3_6 : Keep vv qq s3_6 := by
      unfold s3_6
      exact setHead_keep h_s2_3
  clear_value s1_2 s2_3 s3_6
  split
  · rename_i a11
    have h12 := KeepP.eq (v := vv) (q := qq) a11 (compBlank_keep h_s3_6)
    exact KeepP.ite (by
        extract_lets s5_13 s6_14
        have h_s5_13 : Keep vv qq s5_13 := by
            unfold s5_13
            exact wr_keep h12
        have h_s6_14 : Keep vv qq s6_14 := by
            unfold s6_14
            exact count_keep (wr_keep (wr_keep h_s5_13))
        clear_value s5_13 s6_14
        exact KeepP.mk (endLatched_keep h_s6_14)) (KeepP.mk (count_keep h12))

theorem glintFrame_keep {vv qq s h bytes} (h_s : Keep vv qq s) :
    Keep vv qq (State.glintFrame s h bytes) := by
  delta State.glintFrame
  exact Keep.ite h_s (by
      extract_lets n_1 c_2 s1_3 quiet_4 s2_5 u_6
      have h_s1_3 : Keep vv qq s1_3 := by
          unfold s1_3
          exact count_keep (count_keep (count_keep (wr_keep h_s)))
      have h_s2_5 : Keep vv qq s2_5 := by
          unfold s2_5
          exact raise_keep h_s1_3
      clear_value s1_3 s2_5
      exact Keep.ite h_s1_3 (Keep.ite h_s2_5 (eventPage_keep (count_keep (setHead_keep h_s2_5)))))

theorem frameEnd_keep {vv qq s h obs} (h_s : Keep vv qq s) :
    Keep vv qq (State.frameEnd s h obs) := by
  delta State.frameEnd
  exact Keep.ite h_s (by
      extract_lets s1_1 s2_2
      have h_s1_1 : Keep vv qq s1_1 := by
          unfold s1_1
          exact mirrorFrame_keep h_s
      have h_s2_2 : Keep vv qq s2_2 := by
          unfold s2_2
          exact glintFrame_keep h_s1_1
      clear_value s1_1 s2_2
      exact Keep.ite h_s2_2 (count_keep h_s2_2))

theorem headStop_keep {vv qq s h} (h_s : Keep vv qq s) :
    Keep vv qq (State.headStop s h) := by
  delta State.headStop
  extract_lets c_1 s1_2 s2_3 s3_4 s4_5
  have h_s1_2 : Keep vv qq s1_2 := by
      unfold s1_2
      exact wr_keep (wr_keep (wr_keep h_s))
  have h_s2_3 : Keep vv qq s2_3 := by
      unfold s2_3
      exact setHead_keep (pllStop_keep h_s1_2)
  have h_s3_4 : Keep vv qq s3_4 := by
      unfold s3_4
      exact safeApply_keep (safeApply_keep (applyGlint_keep (applyHead_keep h_s2_3)))
  have h_s4_5 : Keep vv qq s4_5 := by
      unfold s4_5
      exact linkOff_keep (composeStop_keep h_s3_4)
  clear_value s1_2 s2_3 s3_4 s4_5
  exact Keep.ite (headSoft_keep h_s4_5) h_s4_5

theorem vblank_keep {vv qq s h obs} (h_s : Keep vv qq s) :
    Keep vv qq (State.vblank s h obs) := by
  delta State.vblank
  exact Keep.ite h_s (Keep.ite (headStop_keep h_s) (by
      extract_lets met_1
      split
      · rename_i a6
        have h7 := KeepP.eq (v := vv) (q := qq) a6 (blankFlip_keep (frameEnd_keep h_s))
        extract_lets s2_8 s3_9 s4_10 s5_11
        have h_s2_8 : Keep vv qq s2_8 := by
            unfold s2_8
            exact blankApply_keep h7
        have h_s3_9 : Keep vv qq s3_9 := by
            unfold s3_9
            exact Keep.ite (startCompose_keep (compLatch_keep h_s2_8)) h_s2_8
        have h_s4_10 : Keep vv qq s4_10 := by
            unfold s4_10
            exact raise_keep h_s3_9
        have h_s5_11 : Keep vv qq s5_11 := by
            unfold s5_11
            exact Keep.ite (raise_keep h_s4_10) h_s4_10
        clear_value s2_8 s3_9 s4_10 s5_11
        exact linkBlank_keep (glSlew_keep h_s5_11)))

theorem execVblankStart_keep {vv qq h obs s} (h_s : Keep vv qq s) :
    KeepN vv qq (execVblankStart h obs s) := by
  delta execVblankStart
  exact KeepN.next (vblank_keep h_s)

end Sys2Proof.Laws
end

