-- ==== Sys2Proof/Laws/KeepTick.lean ====
section
/-! SUPPORT. The operations and commands of Machine/Tick.lean keep the variant, the queue and the canonical form of the memories. -/

set_option Elab.async false

namespace Sys2Proof.Laws

open Machine

theorem idleTick_keep {vv qq s} (h_s : Keep vv qq s) :
    Keep vv qq (State.idleTick s) := by
  delta State.idleTick
  extract_lets t_1
  exact Keep.ite h_s (Keep.ite (Keep.upd h_s) (Keep.ite (Keep.upd h_s) (Keep.upd h_s)))

end Sys2Proof.Laws
end

