-- ==== Sys2Proof/Tests/Wit.lean ====
section
/-! SUPPORT. The small states that witnesses and tests are about. -/

namespace Sys2Proof.Tests

open Machine

/-- A state with fields set: each entry is a field, a value, page, element and bank. -/
def st (l : List (Fld × Nat × Nat × Nat × Nat)) (s : State := {}) : State :=
  l.foldl (fun t e => t.wr e.1 e.2.1 e.2.2.1 e.2.2.2.1 e.2.2.2.2) s

/-- One field on page 0. -/
def f0 (f : Fld) (v : Nat) : Fld × Nat × Nat × Nat × Nat := (f, v, 0, 0, 0)

end Sys2Proof.Tests
end

