-- ==== Sys2Proof/Tests/Slice0.lean ====
section
/-! SUPPORT. Tests: ill-formed commands are refused, small tests of single steps with values taken from the spec, and for every obligation a
theorem with one concrete state and operands that meet the hypotheses of each of its clauses. -/

namespace Sys2Proof.Tests

open Machine

set_option maxRecDepth 20000
set_option Elab.async false
set_option linter.unusedVariables false

/-- What a test asks of the state after one command. -/
def after (c : Instr) (s : State) (f : State → Bool) : Bool :=
  match exec c s with
  | .next t => f t
  | _ => false

/-- What a read of the register at an offset of a page of the manager's view returns. -/
def reads (s : State) (b : Blk) (i off : Nat) : Nat := s.regValue b i off

/-! ### Ill-formed commands are refused -/

theorem test_wf_bus_empty_write : WellFormed (.memoryAccess .safety 0x100 (.write [])) = false := by decide
theorem test_wf_bus_long_read : WellFormed (.pcieRequest 0 true 0 (.read 4097)) = false := by decide
theorem test_wf_basin_empty_read : WellFormed (.basinWindowAccess 0 (.read 0) .clean) = false := by decide
theorem test_wf_main_boot_delay_zero :
    WellFormed (.mainBoot false false (.replicate 8 15) ((Vector.replicate 8 20).set 3 0)) = false := by decide
theorem test_wf_pass_enter_zero_entry :
    WellFormed (.passEnter 0 .u 1 2 ⟨0, [(3, 0)], [], [], []⟩ (.pa 0) (.pa 0) (.pa 0)) = false := by decide
theorem test_wf_pass_ret_falling : WellFormed (.passRet 0 .u ⟨0, [(3, 1), (2, 1)], [], [], []⟩) = false := by decide
theorem test_wf_exit_repeated : WellFormed (.suspendingExit 0 .u true 5 0 ⟨0, [], [(1, 7), (1, 7)], [], []⟩) = false := by decide
theorem test_wf_exit_csr_zero : WellFormed (.suspendingExit 0 .u true 5 0 ⟨0, [], [], [], [(8, 0)]⟩) = false := by decide
theorem test_wf_dram_over_line :
    WellFormed (.dramRequest 0 [⟨0, 0xFE, 0x3F, true, [1, 2], false, false⟩] 0 .clean) = false := by decide
theorem test_wf_dram_read_data : WellFormed (.dramRequest 0 [⟨0, 0xFE, 0, false, [1], false, false⟩] 0 .clean) = false := by decide
theorem test_wf_device_fetch : WellFormed (.pcieRequest 0 true 0 (.fetch 4)) = false := by decide
theorem test_wf_custom0_word : WellFormed (.custom0Illegal 0 .u 0 0x33) = false := by decide
theorem test_wf_mr4_seven : WellFormed (.mr4Poll [1, 2, 3, 4, 5, 6, 7]) = false := by decide
theorem test_wf_aux_more_than_count : WellFormed (.auxDone 0 0 1 [1, 2]) = false := by decide
theorem test_wf_i2c_more_than_count : WellFormed (.i2cDone 0 0 0 [1]) = false := by decide
theorem test_wf_csi_short : WellFormed (.csiLongPacket 0 0 0x2A [1, 2] .clean false false) = true := by decide
theorem test_wf_csi_long : WellFormed (.csiLongPacket 0 0 0x2A (List.replicate 65536 0) .clean false false) = false := by
  show decide ((List.replicate 65536 (0 : Byte)).length < 65536) = false
  rw [List.length_replicate]
  decide
theorem test_wf_surface_header_short : WellFormed (.surfIdReadDone 0 (some ([1, 2], [])) [] []) = false := by decide

/-! ### The worked example of the register chapter: a timing change on head 3 -/

/-- Head 3 shows after a write of TIM_H: a shadow is dirty and the boundary is 1. -/
theorem test_shadow_dirty :
    after (.registerWrite .mgr 0x43 0x104 0xC0) {} (fun t => reads t .head 3 0x024 == 0x101) = true := by decide +kernel

/-- A second COMMIT while one is pending: EV_RAW reads 5 and ERR_CODE 0x80010006. -/
theorem test_commit_busy :
    after (.commit .mgr 0x43) (st [(HDR.pending .head, 1, 3, 0, 0)])
      (fun t => reads t .head 3 0x010 == 0x5 && reads t .head 3 0x028 == 0x80010006 && t.resp.ok) = true := by decide +kernel

/-- Writing 2 to EV_RAW clears commit_done alone. -/
theorem test_ev_raw_clear :
    after (.evRawClear .mgr 0x43 2) (st [(HDR.ev_raw .head, 0x6, 3, 0, 0)]) (fun t => reads t .head 3 0x010 == 0x4) = true := by decide +kernel

/-! ### The register interface -/

/-- PG_ID of LINK5: type 0x25, index 5, layout 1 (R48, R55). -/
theorem test_pg_id : after (.regReadLoLatch .mgr 0x55 0) {} (fun t => t.resp == ⟨true, 0x250501⟩) = true := by decide +kernel
/-- The manager's write to a safety page is refused (R49). -/
theorem test_manager_not_safety :
    after (.registerWrite .mgr 0xF0 0x104 0) {} (fun t => !t.resp.ok && t.rd (HDR.err_code .safe) == 4) = true := by decide +kernel
/-- An unaligned write is REG_SIZE and a reserved offset REG_UNMAPPED (R50). -/
theorem test_reg_size :
    after (.registerWrite .mgr 0x43 0x102 1) {} (fun t => !t.resp.ok && t.rd (HDR.err_code .head) 3 == 1) = true := by decide +kernel
theorem test_reg_unmapped :
    after (.registerWrite .mgr 0x43 0x040 1) {} (fun t => !t.resp.ok && t.rd (HDR.err_code .head) 3 == 2) = true := by decide +kernel
/-- Page index 9 is not listed: POT_UNBACKED in POT, with EV_RAW.denied (R44). -/
theorem test_unbacked_page :
    after (.registerWrite .mgr 9 0 0) {} (fun t => t.on (HDR.err_valid .pot) && bit (t.rd (HDR.ev_raw .pot)) 9 && !t.resp.ok) = true := by
  decide +kernel
/-- POT is not lockable (R63, R452), HEAD is. -/
theorem test_lock_pot : after (.lockSet .mgr 1) {} (fun t => !t.resp.ok && t.rd (HDR.err_code .pot) == 2) = true := by decide +kernel
theorem test_lock_head : after (.lockSet .mgr 0x40) {} (fun t => t.on (HDR.lock .head)) = true := by decide +kernel

/-! ### Values the spec works out -/

/-- ADMIT_CAP is 1,192 at the default efficiency of 205 (R166). -/
theorem test_admit_cap : admitCap 205 = 1192 := by decide +kernel
theorem test_admit_cap_reset : ({} : State).rd DRAMQ.ADMIT_CAP.cap = 1192 := by decide +kernel
/-- The check value of CRC-32C over the digits 1 to 9, whose parameters R73 gives. -/
theorem test_crc32c : crc32c [0x31, 0x32, 0x33, 0x34, 0x35, 0x36, 0x37, 0x38, 0x39] = 0xE3069283 := by decide +kernel

/-! ### Commands of each group -/

/-- The page owner table of a -A96 begins at 0x17_FD00_0000; an engine of the manager is refused there (R109, R111, R113). -/
theorem test_table_write_refused :
    after (.memoryAccess (.engine 0xFE 11 false) 0x17FD000000 (.write [0xAB])) {} (fun t => !t.resp.ok && t.dram == []) = true := by
  decide +kernel
/-- One page below the ring context table the same write meets no check that refuses it. -/
theorem test_plain_page_allowed :
    ({} : State).memFault (reqFor 0xFE portDma false) true 0x17FBFFF000 4 = none := by decide +kernel
/-- RESET_N low takes PWR_GOOD with it (R38). -/
theorem test_reset_n : after .resetNAssert { pins := { resetN := true, pwrGood := true } } (fun t => !t.pins.pwrGood && !t.pins.resetN) = true := by
  decide +kernel
/-- A wrong key in RST_CTRL is BOOT_RST_KEY (R80). -/
theorem test_reset_key :
    after (.mainResetCmd .mgr 0x5252) {} (fun t => t.rd (HDR.err_code .boot) == Code.BOOT_RST_KEY && !t.resp.ok) = true := by decide +kernel
/-- CREATE makes a Free instance Configured (R118). -/
theorem test_inst_create :
    after (.instCreate .mgr) (st [f0 MGR.INST_SEL.inst 7]) (fun t => t.instState 7 == 1 && t.resp.ok) = true := by decide +kernel
/-- Op START of an instance that is Free is INST_STATE (R118). -/
theorem test_inst_start_free :
    after (.instStart .mgr) (st [f0 MGR.INST_SEL.inst 7]) (fun t => t.instState 7 == 0 && !t.resp.ok) = true := by decide +kernel
/-- A head cannot be enabled without its granules (R276). -/
theorem test_head_granules :
    after (.headEnable .mgr 2) {} (fun t => !t.on (HDR.enable .head) 2 && !t.resp.ok) = true := by decide +kernel
/-- ENC_SET is the position from then on (R429). -/
theorem test_enc_set : after (.encSet .mgr 9 0x80000001) {} (fun t => t.rd ENC.ENC_POS.pos 0 9 == 0x80000001) = true := by decide +kernel
/-- One step up from the written value wraps (R427, R429). -/
theorem test_enc_wrap :
    after (.encTransition 9 true false) (st [(ENC.ENC_CFG.enable, 1, 0, 9, 0), (ENC.ENC_POS.pos, 0xFFFFFFFF, 0, 9, 0)])
      (fun t => t.rd ENC.ENC_POS.pos 0 9 == 0) = true := by decide +kernel
/-- A level change of DIN4 enabled by rise_en sets its edge bit (R431). -/
theorem test_din_edge :
    after (.dinChange 4 true) (st [(GPIO.DIN_CFG.rise_en, 1, 0, 4, 0)] { time := { tick := 2000000 }, pwr := { mainUp := true } }) (fun t => t.on GPIO.DIN_CFG.edge 0 4) = true := by decide +kernel

/-! ### The queue -/

/-- The front command runs and leaves the queue; with none, only time goes on. -/
theorem test_step_front :
    (match step { pending := [.encSet .mgr 9 5, .vinRecover] } with
     | .next t => t.rd ENC.ENC_POS.pos 0 9 == 5 && t.pending == [.vinRecover]
     | _ => false) = true := by decide +kernel

/-! ### Witnesses: the hypotheses of each obligation, clause by clause, are met -/

theorem wit_SupplyAndResetPins :
    ((fun (s : State) => s.pins.resetN = false) ({ pins := { resetN := false } })) ∧
    ((fun (s : State) => s.pins.resetN = true) ({ pins := { resetN := true } })) ∧
    ((fun (s : State) (r : Nat) => (railNumber s.pwr.rails = some r) ∧ (r ≠ 2 ∧ r ≠ 4) ∧ (s.pins.resetN = true) ∧ (s.pwr.vin = 0))
     ({ pwr := { rails := 3 } }) 0) :=
  ⟨by decide +kernel,
   by decide +kernel,
   by refine ⟨?_, ?_, ?_, ?_⟩ <;> decide +kernel⟩

theorem wit_ResetsAndIslandFaults :
    ((fun (s : State) (w : Who) => accepts s w .boot 0 0x114 0x52530001 = true) {} .mgr) ∧
    ((fun (s : State) (w : Who) => accepts s w .boot 0 0x114 0x52530002 = true) {} .saf) ∧
    ((fun (s : State) (w : Who) (key : BitVec 16) => (key ≠ 0x5253) ∧ (accepts s w .boot 0 0x114 (key.toNat * 65536 + 1) = true)) {} .mgr 0) ∧
    ((fun (s : State) => (s.on SAFE.ISL_STAT.fw_running = true) ∧ (s.safe.kicked + clamp 1 1000 (s.rd SAFE.SWD_CFG.timeout_ms) * 1000000 ≤
     s.now)) (st [f0 SAFE.ISL_STAT.fw_running 1] { time := { tick := 2000000000 } })) ∧
    ((fun (s : State) => s.on SAFE.ISL_STAT.fw_running = false ∨ s.now < s.safe.kicked + clamp 1 1000 (s.rd SAFE.SWD_CFG.timeout_ms) *
     1000000) {}) ∧
    ((fun (s : State) (g : FaultSig) (l : List FaultSig) => (s.faults = g :: l) ∧ (g.code ≠ Code.SAFE_SRAM_UE) ∧ (s.rd
     SAFE.ISL_STAT.fw_running ≠ 0)) (st [f0 SAFE.ISL_STAT.fw_running 1] { faults := [⟨Code.CLK_REF_LOST, 0, 0, 0, 0⟩] })
     (⟨Code.CLK_REF_LOST, 0, 0, 0, 0⟩) []) :=
  ⟨by decide +kernel,
   by decide +kernel,
   by refine ⟨?_, ?_⟩ <;> decide +kernel,
   by refine ⟨?_, ?_⟩ <;> decide +kernel,
   by decide +kernel,
   by refine ⟨?_, ?_, ?_⟩ <;> decide +kernel⟩

theorem wit_FlashAndBootStages :
    ((fun (s : State) (w : Who) => (accepts s w .boot 0 0x128 1 = true) ∧ (s.pwr.flOp = 0)) {} .mgr) ∧
    ((fun (s : State) (w : Who) => (accepts s w .boot 0 0x128 2 = true) ∧ (s.pwr.flOp = 0) ∧ (s.rd BOOT.FL_ADDR.addr % 256 = 0) ∧
     (s.flActive (s.rd BOOT.FL_ADDR.addr) = false)) {} .mgr) ∧
    ((fun (s : State) (w : Who) => (accepts s w .boot 0 0x128 3 = true) ∧ (s.pwr.flOp = 0) ∧ (s.rd BOOT.FL_ADDR.addr % 65536 = 0) ∧
     (s.flActive (s.rd BOOT.FL_ADDR.addr) = false)) {} .mgr) ∧
    ((fun (s : State) (a : Nat) => (s.pwr.flOp = 3) ∧ (s.pwr.flAddr ≤ a ∧ a < s.pwr.flAddr + 65536)) ({ pwr := { flOp := 3 } }) 5) ∧
    ((fun (s : State) (w : Who) (v : Word) => (accepts s w .boot 0 0x120 v.toNat = true) ∧ (bit v.toNat (s.rd BOOT.BOOT_STAT.key_slot) =
     false)) {} .mgr 2) ∧
    ((fun (s : State) (ea : Bool) (eb : Bool) (pass : Vector (BitVec 4) 8) (delay : Vector (BitVec 6) 8) => s.mayBoot = true) (st [f0
     PWR.STATE.state 1] { pwr := { rails := 11 } }) false false (.replicate 8 15) (.replicate 8 20)) ∧
    ((fun (s : State) (pc : Nat) => (s.pwr.entry = some pc) ∧ (s.pwr.mainUp = true))
     ({ pwr := { entry := some 0x80000000, mainUp := true } }) 0x80000000) ∧
    ((fun (s : State) => (s.pwr.safeUp = false) ∧ (s.pwr.picked = true) ∧ (s.pins.safeHiZ = true) ∧ (s.pins.resetN = true) ∧ (2 ≤
     s.pwr.rails) ∧ (s.inUse = none)) (st [f0 BOOT.BOOT_STAT.factory_only 1] { pwr := { picked := true, rails := 11 } })) ∧
    ((fun (s : State) => (s.pwr.dispUp = false) ∧ (s.pwr.mainUp = true) ∧ (s.pwr.picked = true)) (st [f0 BOOT.BOOT_STAT.factory_only 1]
     { pwr := { picked := true, mainUp := true } })) :=
  ⟨by refine ⟨?_, ?_⟩ <;> decide +kernel,
   by refine ⟨?_, ?_, ?_, ?_⟩ <;> decide +kernel,
   by refine ⟨?_, ?_, ?_, ?_⟩ <;> decide +kernel,
   by refine ⟨?_, ?_⟩ <;> decide +kernel,
   by refine ⟨?_, ?_⟩ <;> decide +kernel,
   by decide +kernel,
   by refine ⟨?_, ?_⟩ <;> decide +kernel,
   by refine ⟨?_, ?_, ?_, ?_, ?_, ?_⟩ <;> decide +kernel,
   by refine ⟨?_, ?_, ?_⟩ <;> decide +kernel⟩

theorem wit_PowerStateRequests :
    ((fun (s : State) (w : Who) => (accepts s w .pwr 0 0x100 2 = true) ∧ (s.reqBad 2 = none) ∧ (s.alarmDue = false)) (st [f0
     PWR.RESUME_VEC.addr_lo 0x1000] {}) .mgr) ∧
    ((fun (s : State) (w : Who) => (accepts s w .pwr 0 0x100 3 = true) ∧ (s.reqBad 3 = none) ∧ (s.alarmDue = false)) (st [f0
     PWR.RESUME_VEC.addr_lo 0x1000] {}) .mgr) ∧
    ((fun (s : State) (w : Who) => (accepts s w .pwr 0 0x100 4 = true) ∧ (s.reqBad 4 = none) ∧ (s.alarmDue = false)) {} .mgr) ∧
    ((fun (s : State) (w : Who) (c : Nat) => (accepts s w .pwr 0 0x100 2 = true) ∧ (s.reqBad 2 = some c)) {} .mgr Code.PWR_BAD_REQ) ∧
    ((fun (s : State) => (s.entryAt 1 = true) ∧ (s.on SAFE.ISL_STAT.fw_running = true) ∧ ((s.safe.slHeard && Config.needsDisplays
     s.safe.machine) = false) ∧ (s.now ≤ s.pwr.stepAt + 10000000)) (st [f0 PWR.STATE.state 5, f0 PWR.STATE.step 1, f0
     SAFE.ISL_STAT.fw_running 1] {})) ∧
    ((fun (s : State) => s.entryAt 1 = true) (st [f0 PWR.STATE.state 5, f0 PWR.STATE.step 1] {})) ∧
    ((fun (s : State) => (s.entryAt 1 = true) ∧ (s.pwr.stepAt + 10000000 ≤ s.now)) (st [f0 PWR.STATE.state 5, f0 PWR.STATE.step 1]
     { time := { tick := 400 } })) :=
  ⟨by refine ⟨?_, ?_, ?_⟩ <;> decide +kernel,
   by refine ⟨?_, ?_, ?_⟩ <;> decide +kernel,
   by refine ⟨?_, ?_, ?_⟩ <;> decide +kernel,
   by refine ⟨?_, ?_⟩ <;> decide +kernel,
   by refine ⟨?_, ?_, ?_, ?_⟩ <;> decide +kernel,
   by decide +kernel,
   by refine ⟨?_, ?_⟩ <;> decide +kernel⟩

theorem wit_PowerStateEntry :
    ((fun (s : State) => (s.entryAt 2 = true) ∧ (s.drained 0 = true)) (st [f0 PWR.STATE.state 5, f0 PWR.STATE.step 2] {})) ∧
    ((fun (s : State) => (s.entryAt 2 = true) ∧ (s.pwr.stepAt + 1000 * max 1 (s.rd PWR.DRAIN_LIMIT.limit_us) ≤ s.now)) (st [f0
     PWR.STATE.state 5, f0 PWR.STATE.step 2] { time := { tick := 400 } })) ∧
    ((fun (s : State) => (s.entryAt 3 = true) ∧ ((List.range 8).all (fun h => !s.running h || s.rd SAFE.HB_STAT.source 0 h == 2) = true))
     (st [f0 PWR.STATE.state 5, f0 PWR.STATE.step 3] {})) ∧
    ((fun (s : State) => (s.entryAt 4 = true) ∧ (s.allWfi = true)) (st [f0 PWR.STATE.state 5, f0 PWR.STATE.step 4]
     { world := { harts := [(0, { wfi := true })] } })) ∧
    ((fun (s : State) => s.entryAt 5 = true) (st [f0 PWR.STATE.state 5, f0 PWR.STATE.step 5] {})) ∧
    ((fun (s : State) => (s.entryAt 6 = true) ∧ (s.pwr.commit = true) ∧ (s.pwr.latched = []) ∧ (2 ≤ s.rd PWR.STATE.target ∧ s.rd
     PWR.STATE.target ≤ 4)) (st [f0 PWR.STATE.state 5, f0 PWR.STATE.step 6, f0 PWR.STATE.target 3] { pwr := { commit := true } })) ∧
    ((fun (s : State) => (s.rd PWR.STATE.state = 2) ∧ (s.rd PWR.SLEEP_DEEP_AFTER.seconds ≠ 0) ∧ (s.pwr.stepAt + 1000000000 * s.rd
     PWR.SLEEP_DEEP_AFTER.seconds ≤ s.now)) (st [f0 PWR.STATE.state 2, f0 PWR.SLEEP_DEEP_AFTER.seconds 9] { time := { tick := 300000 } })) :=
  ⟨by refine ⟨?_, ?_⟩ <;> decide +kernel,
   by refine ⟨?_, ?_⟩ <;> decide +kernel,
   by refine ⟨?_, ?_⟩ <;> decide +kernel,
   by refine ⟨?_, ?_⟩ <;> decide +kernel,
   by decide +kernel,
   by refine ⟨?_, ?_, ?_, ?_⟩ <;> decide +kernel,
   by refine ⟨?_, ?_, ?_⟩ <;> decide +kernel⟩

theorem wit_WakeEvents :
    ((fun (s : State) (n : Fin 5) => (bit (s.rd PWR.WAKE_EN.enable) n.val = true) ∧ (s.rd PWR.STATE.state ≤ 1 ∨ s.rd PWR.STATE.state = 6) ∧
     (s.pins.resetN = true)) {} 4) ∧
    ((fun (s : State) (n : Fin 5) => (bit (s.rd PWR.WAKE_EN.enable) n.val = true) ∧ (s.rd PWR.STATE.state = 5) ∧ (s.pwr.commit = true) ∧
     (s.pins.resetN = true)) (st [f0 PWR.STATE.state 5] { pwr := { commit := true } }) 4) ∧
    ((fun (s : State) (n : Fin 5) => (bit (s.rd PWR.WAKE_EN.enable) n.val = true) ∧ (s.rd PWR.STATE.state = 5) ∧ (s.pwr.commit = false) ∧
     (s.pins.resetN = true)) (st [f0 PWR.STATE.state 5] {}) 4) ∧
    ((fun (s : State) (n : Fin 5) => (bit (s.rd PWR.WAKE_EN.enable) n.val = true) ∧ (2 ≤ s.rd PWR.STATE.state ∧ s.rd PWR.STATE.state ≤ 4) ∧
     (bit (wakesFrom n.val) (s.rd PWR.STATE.state) = true) ∧ (s.pins.resetN = true)) (st [f0 PWR.STATE.state 2] {}) 4) ∧
    ((fun (s : State) (n : Fin 5) => (bit (s.rd PWR.WAKE_EN.enable) n.val = false) ∧ (n ≠ 0 ∨ s.rd PWR.STATE.state ≠ 4)) {} 1) ∧
    ((fun (s : State) => (s.rd PWR.STATE.state = 4) ∧ (s.pins.resetN = true)) (st [f0 PWR.STATE.state 4, f0 PWR.WAKE_EN.enable 0] {})) ∧
    ((fun (s : State) => (bit (s.rd PWR.WAKE_EN.enable) 4 = true) ∧ (s.rd PWR.STATE.state = 2) ∧ (s.pins.resetN = true)) (st [f0
     PWR.STATE.state 2] {})) ∧
    ((fun (s : State) => (s.alarmDue = true) ∧ (s.rd PWR.STATE.state ≤ 1) ∧ (s.pins.resetN = true)) (st [f0 PWR.ALARM.alarm 1]
     { time := { tick := 1 } })) :=
  ⟨by refine ⟨?_, ?_, ?_⟩ <;> decide +kernel,
   by refine ⟨?_, ?_, ?_, ?_⟩ <;> decide +kernel,
   by refine ⟨?_, ?_, ?_, ?_⟩ <;> decide +kernel,
   by refine ⟨?_, ?_, ?_, ?_⟩ <;> decide +kernel,
   by refine ⟨?_, ?_⟩ <;> decide +kernel,
   by refine ⟨?_, ?_⟩ <;> decide +kernel,
   by refine ⟨?_, ?_, ?_⟩ <;> decide +kernel,
   by refine ⟨?_, ?_, ?_⟩ <;> decide +kernel⟩

theorem wit_PowerStateExit :
    ((fun (s : State) => (s.exitAt 1 = true) ∧ (s.railsAcked = true)) (st [f0 PWR.STATE.state 6, f0 PWR.STATE.step 1, f0 PWR.STATE.target 2]
     {})) ∧
    ((fun (s : State) => s.exitAt 2 = true) (st [f0 PWR.STATE.state 6, f0 PWR.STATE.step 2, f0 PWR.STATE.target 2]
     { pwr := { osc := false } })) ∧
    ((fun (s : State) => s.exitAt 3 = true) (st [f0 PWR.STATE.state 6, f0 PWR.STATE.step 3, f0 PWR.STATE.target 3] { basin := [(0, 1)] })) ∧
    ((fun (s : State) (e : Bool) => (s.exitAt 4 = true) ∧ (s.rd PWR.STATE.target ≠ 3)) (st [f0 PWR.STATE.state 6, f0 PWR.STATE.step 4, f0
     PWR.STATE.target 2, f0 PWR.RESUME_VEC.addr_lo 0x1000] {}) true) ∧
    ((fun (s : State) (rail : Fin 5) => (s.exitAt 1 = true) ∧ (s.pwr.stepAt + 10000000 ≤ s.now)) (st [f0 PWR.STATE.state 6, f0
     PWR.STATE.step 1, f0 PWR.STATE.target 2] { time := { tick := 400 } }) 0) ∧
    ((fun (s : State) (rail : Fin 5) => (s.exitAt 2 = true) ∧ (s.rd PWR.EXIT_STAT.osc_attempts < 3) ∧ (s.pwr.stepAt + 10000000 ≤ s.now)) (st
     [f0 PWR.STATE.state 6, f0 PWR.STATE.step 2, f0 PWR.STATE.target 2] { time := { tick := 400 } }) 0) ∧
    ((fun (s : State) (rail : Fin 5) => (s.exitAt 2 = true) ∧ (3 ≤ s.rd PWR.EXIT_STAT.osc_attempts) ∧ (s.pwr.stepAt + 10000000 ≤ s.now)) (st
     [f0 PWR.STATE.state 6, f0 PWR.STATE.step 2, f0 PWR.STATE.target 2, f0 PWR.EXIT_STAT.osc_attempts 3] { time := { tick := 400 } }) 0) ∧
    ((fun (s : State) (rail : Fin 5) => (s.exitAt 3 = true ∨ s.exitAt 4 = true) ∧ (s.pwr.stepAt + (if s.rd PWR.STATE.step = 4 then 1000000
     else 10000000) ≤ s.now)) (st [f0 PWR.STATE.state 6, f0 PWR.STATE.step 4, f0 PWR.STATE.target 2]
     { basin := [(0, 1)], time := { tick := 400 } }) 0) :=
  ⟨by refine ⟨?_, ?_⟩ <;> decide +kernel,
   by decide +kernel,
   by decide +kernel,
   by refine ⟨?_, ?_⟩ <;> decide +kernel,
   by refine ⟨?_, ?_⟩ <;> decide +kernel,
   by refine ⟨?_, ?_, ?_⟩ <;> decide +kernel,
   by refine ⟨?_, ?_, ?_⟩ <;> decide +kernel,
   by refine ⟨?_, ?_⟩ <;> decide +kernel⟩

theorem wit_AvsRails :
    ((fun (s : State) (w : Who) (n : Fin 2) (v : Word) => accepts s w .pwr 0 (0x140 + 4 * n.val) v.toNat = true) {} .mgr 1 4) ∧
    ((fun (s : State) (n : Fin 4) => s.rd PWR.RAIL_STAT.slewing 0 n.val = 1) (st [(PWR.RAIL_STAT.cmd_seq, 5, 0, 1, 0),
     (PWR.RAIL_STAT.slewing, 1, 0, 1, 0), (PWR.RAIL_STAT.freq_held, 1, 0, 1, 0)] {}) 1) ∧
    ((fun (s : State) (n : Fin 4) => (s.rd PWR.RAIL_STAT.slewing 0 n.val = 1) ∧ (mget s.pwr.slewAt n.val 0 + 1000000 ≤ s.now)) (st
     [(PWR.RAIL_STAT.cmd_seq, 5, 0, 2, 0), (PWR.RAIL_STAT.slewing, 1, 0, 2, 0)] { time := { tick := 400 } }) 2) ∧
    ((fun (s : State) (n : Fin 5) => (s.rd PWR.STATE.state ≤ 1) ∧ (s.pins.pwrGood = true)) ({ pins := { pwrGood := true } }) 0) ∧
    ((fun (s : State) => (s.pins.resetN = true) ∧ (s.pwr.vin = 0) ∧ (s.pwr.hot = false) ∧ (s.rd PWR.STATE.state ≠ 4) ∧ (2 ≤ s.pwr.rails ∧
     s.pwr.rails < 11)) ({ pwr := { rails := 10 } })) :=
  ⟨by decide +kernel,
   by decide +kernel,
   by refine ⟨?_, ?_⟩ <;> decide +kernel,
   by refine ⟨?_, ?_⟩ <;> decide +kernel,
   by refine ⟨?_, ?_, ?_, ?_, ?_⟩ <;> decide +kernel⟩

theorem wit_TemperatureAndClocks :
    ((fun (s : State) (temps : Vector (BitVec 11) 16) => (s.variant.shutdown ≤ (hottest temps.toList).1 ∧ (hottest temps.toList).1 <
     s.variant.shutdown + 40) ∧ (s.pwr.hot = false)) {} (.replicate 16 0x1FF)) ∧
    ((fun (s : State) (temps : Vector (BitVec 11) 16) => (s.variant.shutdown + 40 ≤ (hottest temps.toList).1) ∧ (s.pwr.hot = false))
     ({ pwr := { rails := 11 } }) (.replicate 16 0x230)) ∧
    ((fun (s : State) => (s.pwr.hot = true) ∧ (toSigned 11 (s.rd PWR.TEMP_MAX.temp) + 60 ≤ s.variant.shutdown)) ({ pwr := { hot := true } })) ∧
    ((fun (s : State) => (s.pwr.osc = true) ∧ (s.rd PWR.STATE.state ≤ 1)) {}) ∧
    ((fun (s : State) (k : Fin 24) => s.rd CLK.PLL_STAT.lock 0 k.val = 1) (st [(CLK.PLL_STAT.lock, 1, 0, 3, 0)] {}) 3) ∧
    ((fun (s : State) (k : Fin 24) => (s.rd CLK.PLL_STAT.lock 0 k.val = 0) ∧ (s.rd CLK.PLL_STAT.enabled 0 k.val = 1) ∧ (s.pwr.osc = true))
     (st [(CLK.PLL_STAT.enabled, 1, 0, 3, 0)] {}) 3) ∧
    ((fun (s : State) => s.pwr.xtal = true) {}) :=
  ⟨by refine ⟨?_, ?_⟩ <;> decide +kernel,
   by refine ⟨?_, ?_⟩ <;> decide +kernel,
   by refine ⟨?_, ?_⟩ <;> decide +kernel,
   by refine ⟨?_, ?_⟩ <;> decide +kernel,
   by decide +kernel,
   by refine ⟨?_, ?_, ?_⟩ <;> decide +kernel,
   by decide +kernel⟩

theorem wit_PotCommands :
    ((fun (s : State) (w : Who) (keep : Bool) => (accepts s w .pot 0 0x114 (1 + (if keep then 256 else 0)) = true) ∧ (s.potRefusal 1 keep =
     none)) (st [f0 POT.CMD_PFN.pfn 5, f0 POT.CMD_COUNT.count 2, f0 POT.CMD_ENTRY.entry 0x305] {}) .mgr false) ∧
    ((fun (s : State) (w : Who) (keep : Bool) => (accepts s w .pot 0 0x114 (2 + (if keep then 256 else 0)) = true) ∧ (s.potRefusal 2 keep =
     none)) (st [f0 POT.CMD_PFN.pfn 5, f0 POT.CMD_COUNT.count 2, f0 POT.CMD_ENTRY.entry 0x305] {}) .mgr false) ∧
    ((fun (s : State) (w : Who) (keep : Bool) => (accepts s w .pot 0 0x114 (3 + (if keep then 256 else 0)) = true) ∧ (s.potRefusal 3 keep =
     none)) (st [f0 POT.CMD_ENTRY.entry 0x305, f0 POT.SHARE_MASK.mask 0xF1] {}) .mgr false) ∧
    ((fun (s : State) (w : Who) (keep : Bool) (c : Nat) (late : Bool) => (accepts s w .pot 0 0x114 (1 + (if keep then 256 else 0)) = true) ∧
     (s.potRefusal 1 keep = some (c, late))) {} .mgr false Code.POT_RANGE false) ∧
    ((fun (s : State) => (s.pot.op ≠ 0) ∧ (s.pot.step = 4) ∧ (s.inFlight = false)) ({ pot := { op := 1, step := 4 } })) ∧
    ((fun (s : State) => (s.pot.op ≠ 0 ∧ s.pot.op ≤ 3) ∧ (s.pot.step = 6)) ({ pot := { op := 1, step := 6, scrub := [5, 7] } })) :=
  ⟨by refine ⟨?_, ?_⟩ <;> decide +kernel,
   by refine ⟨?_, ?_⟩ <;> decide +kernel,
   by refine ⟨?_, ?_⟩ <;> decide +kernel,
   by refine ⟨?_, ?_⟩ <;> decide +kernel,
   by refine ⟨?_, ?_, ?_⟩ <;> decide +kernel,
   by refine ⟨?_, ?_⟩ <;> decide +kernel⟩

theorem wit_PageOwnership :
    ((fun (s : State) (w : Who) => (accepts s w .pot 0 0x114 1 = true) ∧ (s.potRefusal 1 false = none)) (st [f0 POT.CMD_PFN.pfn 5, f0
     POT.CMD_COUNT.count 2, f0 POT.CMD_ENTRY.entry 0x305] {}) .mgr) ∧
    ((fun (s : State) => (s.pot.op ≠ 0 ∧ s.pot.op ≤ 3) ∧ (s.pot.step = 6) ∧ (∀ p ∈ s.pot.scrub, p * 4096 + 4096 ≤ s.variant.tableBase))
     ({ dram := [(5 * 4096, 3)], pot := { op := 1, step := 6, scrub := [5, 7] } })) :=
  ⟨by refine ⟨?_, ?_⟩ <;> decide +kernel,
   by refine ⟨?_, ?_, ?_⟩ <;> decide +kernel⟩

theorem wit_InstanceLifeAndQuiesce :
    ((fun (s : State) (w : Who) => (accepts s w .mgr 0 0x104 1 = true) ∧ (s.on MGR.INST_STAT.busy (b := s.selInst) = false) ∧ (s.instState
     s.selInst = 0 ∧ s.selInst ≠ 0) ∧ (s.poolRow s.selInst = none) ∧ (s.rd DRAMQ.ADMIT_USED.used + s.rd MGR.ALLOC_BW.rate (b := s.selInst) ≤
     s.rd DRAMQ.ADMIT_CAP.cap)) (st [f0 MGR.INST_SEL.inst 5, (MGR.ALLOC_RINGS.count, 64, 0, 0, 5)] {}) .mgr) ∧
    ((fun (s : State) (w : Who) (r : Nat) => (accepts s w .mgr 0 0x104 1 = true) ∧ (s.on MGR.INST_STAT.busy (b := s.selInst) = false) ∧
     (s.instState s.selInst = 0 ∧ s.selInst ≠ 0) ∧ (s.poolRow s.selInst = some r)) (st [f0 MGR.INST_SEL.inst 5, (MGR.ALLOC_RINGS.count,
     5000, 0, 0, 5)] {}) .mgr 1) ∧
    ((fun (s : State) (w : Who) => (accepts s w .mgr 0 0x104 2 = true) ∧ (s.on MGR.INST_STAT.busy (b := s.selInst) = false) ∧ (s.rd
     MGR.INST_STAT.state (b := s.selInst) = 1)) (st [f0 MGR.INST_SEL.inst 5, (MGR.INST_STAT.state, 1, 0, 0, 5)] {}) .mgr) ∧
    ((fun (s : State) (w : Who) (scrub : Bool) => (accepts s w .mgr 0 0x104 (3 + (if scrub then 256 else 0)) = true) ∧ (s.on
     MGR.INST_STAT.busy (b := s.selInst) = false) ∧ (s.rd MGR.INST_STAT.state (b := s.selInst) = 1 ∨ s.rd MGR.INST_STAT.state (b :=
     s.selInst) = 2)) (st [f0 MGR.INST_SEL.inst 5, (MGR.INST_STAT.state, 2, 0, 0, 5)] {}) .mgr true) ∧
    ((fun (s : State) (w : Who) => (accepts s w .mgr 0 0x104 4 = true) ∧ (s.on MGR.INST_STAT.busy (b := s.selInst) = false) ∧ (s.rd
     MGR.INST_STAT.state (b := s.selInst) = 4)) (st [f0 MGR.INST_SEL.inst 5, (MGR.INST_STAT.state, 4, 0, 0, 5)]
     { rings := { ctx := [(5 * 4096 + 3, { size := 4 })] } }) .mgr) ∧
    ((fun (s : State) (w : Who) => (accepts s w .mgr 0 0x104 5 = true) ∧ (s.on MGR.INST_STAT.busy (b := s.selInst) = false) ∧ (s.rd
     MGR.INST_STAT.state (b := s.selInst) = 1 ∨ s.rd MGR.INST_STAT.state (b := s.selInst) = 4)) (st [f0 MGR.INST_SEL.inst 5,
     (MGR.INST_STAT.state, 4, 0, 0, 5)] {}) .mgr) ∧
    ((fun (s : State) (w : Who) => (accepts s w .mgr 0 0x104 2 = true) ∧ (s.on MGR.INST_STAT.busy (b := s.selInst) = true ∨ s.rd
     MGR.INST_STAT.state (b := s.selInst) ≠ 1)) (st [f0 MGR.INST_SEL.inst 5] {}) .mgr) ∧
    ((fun (s : State) (k : Fin 64) => (mget s.inst.qStep k.val 0 = 2 ∨ mget s.inst.qStep k.val 0 = 3) ∧ (s.drained k.val = true))
     ({ inst := { qStep := [(5, 2)] } }) 5) ∧
    ((fun (s : State) (k : Fin 64) => (mget s.inst.qStep k.val 0 = 2) ∧ (s.drainOver k.val = true))
     ({ inst := { qStep := [(5, 2)] }, time := { tick := 100000000 } }) 5) ∧
    ((fun (s : State) (o : Fin 128) => (s.pot.op = 0) ∧ (o.val < 64) ∧ (mget s.inst.qStep o.val 0 = 4) ∧ (s.substDue o.val = false))
     ({ inst := { qStep := [(5, 4)] } }) 5) ∧
    ((fun (s : State) (o : Fin 128) => (s.pot.op = 0) ∧ (64 ≤ o.val) ∧ (mget s.world.run (o.val - 64) 0 = 4))
     ({ world := { run := [(3, 4)] } }) 67) ∧
    ((fun (s : State) (k : Fin 64) => (mget s.inst.qStep k.val 0 = 5) ∧ (s.pot.op = 4 ∧ s.pot.owner = k.val ∧ s.pot.step = 6))
     ({ inst := { qStep := [(5, 5)] }, pot := { op := 4, owner := 5, step := 6 } }) 5) ∧
    ((fun (s : State) (f : Fin 64) => (s.on MGR.VF_MAP.valid (b := f.val) = true) ∧ (s.rd MGR.VF_MAP.inst (b := f.val) ≠ 0 ∧ s.rd
     MGR.VF_MAP.inst (b := f.val) < 64) ∧ (s.rd MGR.INST_STAT.state (b := s.rd MGR.VF_MAP.inst (b := f.val)) ≠ 0)) (st [(MGR.VF_MAP.valid,
     1, 0, 0, 2), (MGR.VF_MAP.inst, 5, 0, 0, 2), (MGR.INST_STAT.state, 2, 0, 0, 5)] {}) 2) :=
  ⟨by refine ⟨?_, ?_, ?_, ?_, ?_⟩ <;> decide +kernel,
   by refine ⟨?_, ?_, ?_, ?_⟩ <;> decide +kernel,
   by refine ⟨?_, ?_, ?_⟩ <;> decide +kernel,
   by refine ⟨?_, ?_, ?_⟩ <;> decide +kernel,
   by refine ⟨?_, ?_, ?_⟩ <;> decide +kernel,
   by refine ⟨?_, ?_, ?_⟩ <;> decide +kernel,
   by refine ⟨?_, ?_⟩ <;> decide +kernel,
   by refine ⟨?_, ?_⟩ <;> decide +kernel,
   by refine ⟨?_, ?_⟩ <;> decide +kernel,
   by refine ⟨?_, ?_, ?_, ?_⟩ <;> decide +kernel,
   by refine ⟨?_, ?_, ?_⟩ <;> decide +kernel,
   by refine ⟨?_, ?_⟩ <;> decide +kernel,
   by refine ⟨?_, ?_, ?_⟩ <;> decide +kernel⟩

theorem wit_FunctionsViewsAndMailboxes :
    ((fun (s : State) (w : Who) (v : Word) => (accepts s w .mgr 0 0x184 v.toNat = true) ∧ (bit v.toNat 8 = true ∧ v.toNat % 64 ≠ 0) ∧ (s.on
     MGR.VF_MAP.valid (b := s.rd MGR.VF_INDEX.function) = false) ∧ (s.instState (v.toNat % 64) = 0) ∧ ((List.range 64).any (fun g => decide
     (g ≠ s.rd MGR.VF_INDEX.function) && s.on MGR.VF_MAP.valid (b := g) && s.rd MGR.VF_MAP.inst (b := g) == v.toNat % 64) = false)) (st [f0
     MGR.VF_INDEX.function 2] {}) .mgr 0x105) ∧
    ((fun (s : State) (w : Who) (v : Word) => (accepts s w .mgr 0 0x184 v.toNat = true) ∧ (bit v.toNat 8 = true ∧ v.toNat % 64 = 0)) {} .mgr
     0x100) ∧
    ((fun (s : State) (w : Who) (v : Word) => (accepts s w .mgr 0 0x164 v.toNat = true) ∧ (s.rd MGR.VIEW_INDEX.slot (b := s.selInst) < 224)
     ∧ (bit v.toNat 8 = true → grantable (v.toNat % 256) = true)) (st [f0 MGR.INST_SEL.inst 5] {}) .mgr 0x140) ∧
    ((fun (s : State) (w : Who) (v : Word) => (accepts s w .mgr 0 0x164 v.toNat = true) ∧ (224 ≤ s.rd MGR.VIEW_INDEX.slot (b := s.selInst) ∨
     (bit v.toNat 8 = true ∧ grantable (v.toNat % 256) = false))) (st [f0 MGR.INST_SEL.inst 5] {}) .mgr 0x100) ∧
    ((fun (s : State) (w : Who) (word : Fin 64) (v : Word) (k : Nat) (m : Bool) => (s.mbReach w (4 * word.val) true = .inr (k, m)) ∧ (m =
     decide (word.val < 32)) ∧ (bit (mget s.inst.mbFull k 0) (word.val / 16) = false)) (st [f0 MGR.MBX_SEL.inst 5, (MGR.INST_STAT.state, 2,
     0, 0, 5)] {}) .mgr 20 7 5 true) ∧
    ((fun (s : State) (w : Who) (k : Nat) (m : Bool) => (s.mbReach w 0x104 true = .inr (k, m)) ∧ (bit (mget s.inst.mbFull k 0) (if m then 0
     else 2) = false)) (st [(MGR.INST_STAT.state, 2, 0, 0, 5)] {}) (.inst 5 0) 5 false) ∧
    ((fun (s : State) (w : Who) (k : Nat) (m : Bool) => (s.mbReach w 0x108 true = .inr (k, m)) ∧ (bit (mget s.inst.mbFull k 0) (if m then 2
     else 0) = true)) (st [(MGR.INST_STAT.state, 2, 0, 0, 5)] { inst := { mbFull := [(5, 1)] } }) (.inst 5 0) 5 false) ∧
    ((fun (s : State) (w : Who) (v : Word) (k : Nat) => s.mbReach w 0x10C true = .inr (k, false)) (st [(MGR.INST_STAT.state, 2, 0, 0, 5)]
     {}) (.inst 5 0) 1 5) ∧
    ((fun (s : State) (w : Who) (v : Word) => accepts s w .mgr 0 0x19C v.toNat = true) {} .mgr 1) :=
  ⟨by refine ⟨?_, ?_, ?_, ?_, ?_⟩ <;> decide +kernel,
   by refine ⟨?_, ?_⟩ <;> decide +kernel,
   by refine ⟨?_, ?_, ?_⟩ <;> decide +kernel,
   by refine ⟨?_, ?_⟩ <;> decide +kernel,
   by refine ⟨?_, ?_, ?_⟩ <;> decide +kernel,
   by refine ⟨?_, ?_⟩ <;> decide +kernel,
   by refine ⟨?_, ?_⟩ <;> decide +kernel,
   by decide +kernel,
   by decide +kernel⟩

theorem wit_HartsAndSecureWatchdog :
    ((fun (s : State) (h : Fin 16) (pc : BitVec 64) (v : BitVec 64) => (s.hart h.val).vale = none) {} 2 0 64) ∧
    ((fun (s : State) (h : Fin 16) (m : Mode) (pc : BitVec 64) (v : BitVec 64) => ((s.hart h.val).vale = none) ∧ (m ≠ .hs)) {} 2 .vs 0x100 4) ∧
    ((fun (s : State) (h : Fin 16) (m : Mode) (pc : BitVec 64) => m.user = false) {} 2 .vs 0) ∧
    ((fun (s : State) (h : Fin 16) (m : Mode) (pc : BitVec 64) => m.user = false) {} 2 .vs 0) ∧
    ((fun (s : State) (h : Fin 16) (m : Mode) (pc : BitVec 64) (p : Bool) (wr : Bool) => (m.user = true ∨ wr = true) ∧ ((s.hart h.val).vale
     = none)) {} 2 .vu 0x100 false false) ∧
    ((fun (s : State) (h : Fin 16) (m : Mode) (pc : BitVec 64) (w : Word) => ((s.hart h.val).vale = none) ∧ (passWord w.toNat = .illegal))
     {} 2 .vs 0x100 0x200B) ∧
    ((fun (s : State) (w : Who) (v : Word) => (accepts s w .swdt 0 0x10C v.toNat = true) ∧ (v.toNat % 65536 = 0x4B49)) {} .mgr 0x4B49) ∧
    ((fun (s : State) (w : Who) (v : Word) => (accepts s w .swdt 0 0x10C v.toNat = true) ∧ (v.toNat % 65536 = 0x434B) ∧ (s.world.kick =
     true)) ({ world := { kick := true } }) .mgr 0x434B) ∧
    ((fun (s : State) (w : Who) (v : Word) => (accepts s w .swdt 0 0x10C v.toNat = true) ∧ (v.toNat % 65536 ≠ 0x434B ∧ v.toNat % 65536 ≠
     0x4B49)) {} .mgr 0x4343) ∧
    ((fun (s : State) => (s.on SWDT.SWDT_CTRL.enable = true) ∧ (s.swdtPaused = false) ∧ (s.rd PWR.STATE.state ≤ 1) ∧ (0 < s.rd
     SWDT.REMAIN.ms ∧ s.rd SWDT.REMAIN.ms < 65536)) (st [f0 SWDT.SWDT_CTRL.enable 1, f0 SWDT.REMAIN.ms 6, f0 SWDT.WARN.ms 5] {})) ∧
    ((fun (s : State) => (s.on SWDT.SWDT_CTRL.enable = true) ∧ (s.rd SWDT.REMAIN.ms = 0)) (st [f0 SWDT.SWDT_CTRL.enable 1, f0 SWDT.REMAIN.ms
     0] {})) :=
  ⟨by decide +kernel,
   by refine ⟨?_, ?_⟩ <;> decide +kernel,
   by decide +kernel,
   by decide +kernel,
   by refine ⟨?_, ?_⟩ <;> decide +kernel,
   by refine ⟨?_, ?_⟩ <;> decide +kernel,
   by refine ⟨?_, ?_⟩ <;> decide +kernel,
   by refine ⟨?_, ?_, ?_⟩ <;> decide +kernel,
   by refine ⟨?_, ?_⟩ <;> decide +kernel,
   by refine ⟨?_, ?_, ?_, ?_⟩ <;> decide +kernel,
   by refine ⟨?_, ?_⟩ <;> decide +kernel⟩

theorem wit_PassEnterAndExits :
    ((fun (s : State) (h : Fin 16) (m : Mode) (r1 : Fin 32) (r2 : Fin 32) (ctx : HartCtx) (d : Addr) (fp : Addr) (ep : Addr) (pa : Nat) (v :
     Nat) (fr : Nat) => ((s.hart h.val).vale = none ∧ m.virt = true) ∧ (mget ctx.regs.x r1.val 0 % 32 = 0) ∧ (pa = d.toNat / 32 * 32 ∧ pa <
     s.variant.dramTop) ∧ (bit (s.potEntry (pa / 4096)) 12 = true ∧ s.potEntry (pa / 4096) % 256 = 64 + v ∧ v < 64) ∧ (s.descOk pa v = true)
     ∧ (s.rd WORLD.VALE_STAT.parent (b := v) = (s.hart h.val).tag ∧ s.rd WORLD.VALE_STAT.state (b := v) = 2) ∧ (mget ctx.regs.x r2.val 0 <
     s.rdMem (pa + 4) 4) ∧ (fr = fp.toNat / 2048 * 2048 ∧ s.valePage fr v false = true ∧ s.frameOk h.val v fr = true ∧ s.rdMem fr 4 = 0) ∧
     (ep.toNat < s.variant.dramTop ∧ s.potEntry (ep.toNat / 4096) % 256 = 64 + v ∧ s.rdMem ep.toNat 4 = 0x5A00700B) ∧ (s.lineFault false pa
     32 = none ∧ s.lineFault false fr 4 = none ∧ s.lineFault false ep.toNat 4 = none)) (st [(WORLD.VALE_STAT.parent, 5, 0, 0, 3),
     (WORLD.VALE_STAT.state, 2, 0, 0, 3)]
     { dram := [(0x5000, 67), (0x5004, 1), (0x5009, 0x70), (0x5011, 0x60), (0x7000, 0x0B), (0x7001, 0x70), (0x7003, 0x5A), (0x17FD00000A, 0x43), (0x17FD00000B, 0x10), (0x17FD00000C, 0x43), (0x17FD00000E, 0x43)], world := { harts := [(2, { tag := 5 })] } })
     2 .vs 5 6 ({ pc := 0x100, x := [(5, 0x5000)], f := [], v := [], vcsr := [] }) 0x5000 0x6000 0x7000 0x5000 3 0x6000) ∧
    ((fun (s : State) (h : Fin 16) (m : Mode) (r1 : Fin 32) (r2 : Fin 32) (ctx : HartCtx) (x : Xlat) (y : Xlat) (z : Xlat) => (s.hart
     h.val).vale ≠ none) ({ world := { harts := [(2, { vale := some 1 })] } }) 2 .vs 5 6
     ({ pc := 0x100, x := [], f := [], v := [], vcsr := [] }) (.fault true) (.fault true) (.fault true)) ∧
    ((fun (s : State) (h : Fin 16) (m : Mode) (r1 : Fin 32) (r2 : Fin 32) (ctx : HartCtx) (x : Xlat) (y : Xlat) (z : Xlat) => ((s.hart
     h.val).vale = none) ∧ (m.virt = false)) {} 2 .hs 5 6 ({ pc := 0x100, x := [], f := [], v := [], vcsr := [] }) (.fault true) (.fault
     true) (.fault true)) ∧
    ((fun (s : State) (h : Fin 16) (m : Mode) (ctx : HartCtx) (v : Nat) => ((s.hart h.val).vale = some v) ∧ (s.frameOk h.val v (s.hart
     h.val).frame = true))
     ({ dram := [(0x17FD00000C, 0x43)], world := { harts := [(2, { vale := some 3, frame := 0x6000, sp := 7, ra := 9, enterPc := 0x100 })] } })
     2 .vs ({ pc := 0x100, x := [], f := [], v := [], vcsr := [] }) 3) ∧
    ((fun (s : State) (h : Fin 16) (m : Mode) (i : Bool) (cause : BitVec 64) (addr : BitVec 64) (ctx : HartCtx) (v : Nat) => ((s.hart
     h.val).vale = some v) ∧ (s.frameOk h.val v (s.hart h.val).frame = true))
     ({ dram := [(0x17FD00000C, 0x43)], world := { harts := [(2, { vale := some 3, frame := 0x6000, sp := 7, ra := 9, enterPc := 0x100 })] } })
     2 .vs true 9 0 ({ pc := 0x100, x := [], f := [], v := [], vcsr := [] }) 3) ∧
    ((fun (s : State) (h : Fin 16) (v : Nat) => ((s.hart h.val).vale = some v) ∧ (s.frameOk h.val v (s.hart h.val).frame = true))
     ({ dram := [(0x17FD00000C, 0x43)], world := { harts := [(2, { vale := some 3, frame := 0x6000, sp := 7, ra := 9, enterPc := 0x100 })] } })
     2 3) :=
  ⟨by refine ⟨?_, ?_, ?_, ?_, ?_, ?_, ?_, ?_, ?_, ?_⟩ <;> decide +kernel,
   by decide +kernel,
   by refine ⟨?_, ?_⟩ <;> decide +kernel,
   by refine ⟨?_, ?_⟩ <;> decide +kernel,
   by refine ⟨?_, ?_⟩ <;> decide +kernel,
   by refine ⟨?_, ?_⟩ <;> decide +kernel⟩

theorem wit_ValeLife :
    ((fun (s : State) (w : Who) (v : Nat) => (accepts s w .world 0 0x104 1 = true) ∧ (v = s.rd WORLD.VALE_SEL.vale) ∧ (s.on
     WORLD.VALE_STAT.busy (b := v) = false ∧ s.rd WORLD.VALE_STAT.state (b := v) = 0) ∧ (s.rd WORLD.VALE_PARENT.parent ≠ 0 ∧ s.rd
     WORLD.VALE_PARENT.parent < 64) ∧ (s.instState (s.rd WORLD.VALE_PARENT.parent) = 1 ∨ s.instState (s.rd WORLD.VALE_PARENT.parent) = 2))
     (st [f0 WORLD.VALE_SEL.vale 3, f0 WORLD.VALE_PARENT.parent 5, (MGR.INST_STAT.state, 2, 0, 0, 5)] {}) .mgr 3) ∧
    ((fun (s : State) (w : Who) (v : Nat) => (accepts s w .world 0 0x104 2 = true) ∧ (v = s.rd WORLD.VALE_SEL.vale) ∧ (s.on
     WORLD.VALE_STAT.busy (b := v) = false ∧ s.rd WORLD.VALE_STAT.state (b := v) = 1) ∧ (s.rd WORLD.LOAD_COUNT.count = 1) ∧ (s.rd
     WORLD.LOAD_SRC.pfn < s.variant.frames ∧ s.rd WORLD.LOAD_DST.pfn < s.variant.frames) ∧ (s.potEntry (s.rd WORLD.LOAD_SRC.pfn) % 256 =
     0xFE ∧ s.potEntry (s.rd WORLD.LOAD_DST.pfn) % 256 = 64 + v) ∧ (s.loadFault v 1 (s.rd WORLD.LOAD_SRC.pfn) (s.rd WORLD.LOAD_DST.pfn) =
     none)) (st [f0 WORLD.VALE_SEL.vale 3, (WORLD.VALE_STAT.state, 1, 0, 0, 3), f0 WORLD.LOAD_COUNT.count 1, f0 WORLD.LOAD_SRC.pfn 4, f0
     WORLD.LOAD_DST.pfn 6] { dram := [(0x4003, 9), (0x17FD00000C, 0x43)] }) .mgr 3) ∧
    ((fun (s : State) (w : Who) (v : Nat) => (accepts s w .world 0 0x104 3 = true) ∧ (v = s.rd WORLD.VALE_SEL.vale) ∧ (s.on
     WORLD.VALE_STAT.busy (b := v) = false ∧ s.rd WORLD.VALE_STAT.state (b := v) = 1)) (st [f0 WORLD.VALE_SEL.vale 3,
     (WORLD.VALE_STAT.state, 1, 0, 0, 3)] {}) .mgr 3) ∧
    ((fun (s : State) (w : Who) (v : Nat) => (accepts s w .world 0 0x104 4 = true) ∧ (v = s.rd WORLD.VALE_SEL.vale) ∧ (s.on
     WORLD.VALE_STAT.busy (b := v) = false) ∧ (s.rd WORLD.VALE_STAT.state (b := v) = 1 ∨ s.rd WORLD.VALE_STAT.state (b := v) = 2) ∧ (s.rd
     WORLD.VALE_STAT.inside (b := v) = 0)) (st [f0 WORLD.VALE_SEL.vale 3, (WORLD.VALE_STAT.state, 2, 0, 0, 3)] {}) .mgr 3) ∧
    ((fun (s : State) (w : Who) (v : Nat) => (accepts s w .world 0 0x104 4 = true) ∧ (v = s.rd WORLD.VALE_SEL.vale) ∧ (s.on
     WORLD.VALE_STAT.busy (b := v) = false) ∧ (s.rd WORLD.VALE_STAT.state (b := v) = 1 ∨ s.rd WORLD.VALE_STAT.state (b := v) = 2) ∧ (s.rd
     WORLD.VALE_STAT.inside (b := v) ≠ 0)) (st [f0 WORLD.VALE_SEL.vale 3, (WORLD.VALE_STAT.state, 2, 0, 0, 3), (WORLD.VALE_STAT.inside, 1,
     0, 0, 3)] {}) .mgr 3) ∧
    ((fun (s : State) (v : Fin 64) => mget s.world.run v.val 0 ≠ 0 ∧ mget s.world.run v.val 0 ≠ 4) ({ world := { run := [(3, 1)] } }) 3) ∧
    ((fun (s : State) (v : Fin 64) => (mget s.world.run v.val 0 = 4) ∧ (s.pot.op = 4 ∧ s.pot.owner = 64 + v.val ∧ s.pot.step = 6))
     ({ world := { run := [(3, 4)] }, pot := { op := 4, owner := 67, step := 6 } }) 3) ∧
    ((fun (s : State) (w : Who) (k : Fin 8) (v : Word) => (accepts s w .world 0 (0x140 + 4 * k.val) v.toNat = true) ∧ (s.job 2 k.val = none)
     ∧ (v.toNat % 256 < 64 ∨ v.toNat % 256 = 255)) {} .mgr 2 5) :=
  ⟨by refine ⟨?_, ?_, ?_, ?_, ?_⟩ <;> decide +kernel,
   by refine ⟨?_, ?_, ?_, ?_, ?_, ?_, ?_⟩ <;> decide +kernel,
   by refine ⟨?_, ?_, ?_⟩ <;> decide +kernel,
   by refine ⟨?_, ?_, ?_, ?_, ?_⟩ <;> decide +kernel,
   by refine ⟨?_, ?_, ?_, ?_, ?_⟩ <;> decide +kernel,
   by decide +kernel,
   by refine ⟨?_, ?_⟩ <;> decide +kernel,
   by refine ⟨?_, ?_, ?_⟩ <;> decide +kernel⟩

theorem wit_PageOwnerCheck :
    ((fun (s : State) (q : Req) (write : Bool) (p : Nat) => q.dev = false) {} ({ id := 0xFE, hart := true }) true 5) ∧
    ((fun (s : State) (q : Req) (write : Bool) (p : Nat) => q.dev = true) {} ({ id := 0xFC, dev := true }) true 5) :=
  ⟨by decide +kernel,
   by decide +kernel⟩

theorem wit_MemoryAccesses :
    ((fun (s : State) (who : Initiator) (a : Addr) (n : Nat) => (a.toNat < s.variant.dramTop) ∧ (s.memFault (s.reqOf who) false a.toNat n =
     none)) {} (.hart 0 .hs) 0x5000 4) ∧
    ((fun (s : State) (who : Initiator) (a : Addr) (d : List Byte) => (a.toNat < s.variant.dramTop) ∧ (s.memFault (s.reqOf who) true a.toNat
     d.length = none)) {} (.hart 0 .hs) 0x5000 ([1, 2, 3])) ∧
    ((fun (s : State) (who : Initiator) (a : Addr) (op : MemOp) (c : Nat) (x : Nat) => (a.toNat < s.variant.dramTop) ∧ (s.memFault (s.reqOf
     who) (memWrites op) a.toNat (memLen op) = some (c, x)) ∧ ((match who with | .hart h _ => (s.hart h.val).vale.isNone | _ => true) =
     true)) {} (.engine 5 14 true) 0x5000 (.read 4) Code.POT_DENIED 0x5000) ∧
    ((fun (s : State) (f : Fin 64) (off : BitVec 37) (n : Nat) => (s.rd PWR.STATE.state ≤ 1) ∧ (s.on BOOT.BOOT_STAT.recovery = false) ∧
     (s.on MGR.VF_MAP.valid (b := f.val) = true ∧ s.rd MGR.VF_MAP.inst (b := f.val) ≠ 0 ∧ s.instState (s.rd MGR.VF_MAP.inst (b := f.val)) ≠
     0) ∧ (off.toNat < s.variant.dramTop) ∧ (s.memFault { id := s.rd MGR.VF_MAP.inst (b := f.val), port := portPcie } false off.toNat n =
     none)) (st [(MGR.VF_MAP.valid, 1, 0, 0, 2), (MGR.VF_MAP.inst, 5, 0, 0, 2), (MGR.INST_STAT.state, 2, 0, 0, 5)]
     { dram := [(0x17FD00000A, 5)] }) 2 0x5000 4) ∧
    ((fun (s : State) (f : Fin 64) (bar2 : Bool) (off : BitVec 37) (op : MemOp) => 2 ≤ s.rd PWR.STATE.state ∧ s.rd PWR.STATE.state ≤ 4) (st
     [f0 PWR.STATE.state 2] {}) 2 true 0x5000 (.read 4)) ∧
    ((fun (s : State) (h : Fin 16) (m : Mode) (a : Addr) (op : MemOp) (c : Nat) (x : Nat) (v : Nat) => (a.toNat < s.variant.dramTop) ∧
     (s.memFault (s.reqOf (.hart h m)) (memWrites op) a.toNat (memLen op) = some (c, x)) ∧ ((s.hart h.val).vale = some v))
     ({ world := { harts := [(2, { vale := some 3, frame := 0x6000, enterPc := 0x100 })] } }) 2 .vs 0x5000 (.read 4) Code.POT_DENIED 0x5000
     3) ∧
    ((fun (s : State) (h : Fin 16) (m : Mode) (a : Addr) (op : MemOp) (x : Nat) => (a.toNat < s.variant.dramTop) ∧ (s.memFault (s.reqOf
     (.hart h m)) (memWrites op) a.toNat (memLen op) = some (Code.DRAM_POISON, x)) ∧ ((s.hart h.val).vale = none))
     ({ mem := { poison := [(0x140, 1)] } }) 2 .hs 0x5000 (.read 4) 0x5000) :=
  ⟨by refine ⟨?_, ?_⟩ <;> decide +kernel,
   by refine ⟨?_, ?_⟩ <;> decide +kernel,
   by refine ⟨?_, ?_, ?_⟩ <;> decide +kernel,
   by refine ⟨?_, ?_, ?_, ?_, ?_⟩ <;> decide +kernel,
   by decide +kernel,
   by refine ⟨?_, ?_, ?_⟩ <;> decide +kernel,
   by refine ⟨?_, ?_, ?_⟩ <;> decide +kernel⟩

theorem wit_DramRequests :
    ((fun (s : State) (n : Fin 8) (r : DramReq) (f : Ecc) => (s.mem.pool = [] ∧ subchannel r.pa.toNat = n.val ∧ mget s.mem.retrain n.val 0 =
     0) ∧ (r.pa.toNat < s.variant.dramTop ∧ s.on DRAM.SUB_STAT.offline n.val = false) ∧ (r.write = false) ∧ (mget s.mem.poison (r.pa.toNat /
     64) 0 = 0) ∧ (f ≠ .ue)) ({ dram := [(0x5000, 7)] }) 0 (⟨3, 0xFE, 0x5008, false, [], true, true⟩) .ce) ∧
    ((fun (s : State) (n : Fin 8) (r : DramReq) (f : Ecc) => (s.mem.pool = [] ∧ subchannel r.pa.toNat = n.val ∧ mget s.mem.retrain n.val 0 =
     0) ∧ (r.pa.toNat < s.variant.dramTop ∧ s.on DRAM.SUB_STAT.offline n.val = false) ∧ (r.write = true) ∧ (r.pa.toNat % 64 = 0 ∧
     r.data.length = 64)) ({ mem := { poison := [(0x140, 1)] } }) 0 (⟨3, 0xFE, 0x5000, true, .replicate 64 9, true, true⟩) .ce) ∧
    ((fun (s : State) (n : Fin 8) (r : DramReq) (x : Byte) => (s.mem.pool = [] ∧ subchannel r.pa.toNat = n.val ∧ mget s.mem.retrain n.val 0
     = 0) ∧ (r.pa.toNat < s.variant.dramTop ∧ s.on DRAM.SUB_STAT.offline n.val = false) ∧ (r.write = true ∧ r.data = [x]) ∧ (mget
     s.mem.poison (r.pa.toNat / 64) 0 = 0)) {} 0 (⟨3, 0xFE, 0x5008, true, [7], true, true⟩) 7) ∧
    ((fun (s : State) (n : Fin 8) (r : DramReq) (f : Ecc) => (s.mem.pool = [] ∧ subchannel r.pa.toNat = n.val ∧ mget s.mem.retrain n.val 0 =
     0) ∧ (r.pa.toNat < s.variant.dramTop ∧ s.on DRAM.SUB_STAT.offline n.val = false) ∧ (r.write = false) ∧ (mget s.mem.poison (r.pa.toNat /
     64) 0 ≠ 0)) ({ mem := { poison := [(0x140, 1)] } }) 0 (⟨3, 0xFE, 0x5008, false, [], true, true⟩) .ce) ∧
    ((fun (s : State) (n : Fin 8) (r : DramReq) => (s.mem.pool = [] ∧ subchannel r.pa.toNat = n.val ∧ mget s.mem.retrain n.val 0 = 0) ∧
     (r.pa.toNat < s.variant.dramTop ∧ s.on DRAM.SUB_STAT.offline n.val = false) ∧ (r.write = false) ∧ (mget s.mem.poison (r.pa.toNat / 64)
     0 = 0)) {} 0 (⟨3, 0xFE, 0x5008, false, [], true, true⟩)) ∧
    ((fun (s : State) (n : Fin 8) (r : DramReq) (f : Ecc) => (s.mem.pool = [] ∧ subchannel r.pa.toNat = n.val ∧ mget s.mem.retrain n.val 0 =
     0) ∧ (s.on DRAM.SUB_STAT.offline n.val = true)) (st [(DRAM.SUB_STAT.offline, 1, 0, 0, 0)] {}) 0 (⟨3, 0xFE, 0x0008, true, [], true,
     true⟩) .ce) ∧
    ((fun (s : State) (n : Fin 8) (a : DramWait) (b : DramWait) (f : Ecc) => (s.mem.pool = [a, b] ∧ mget s.mem.retrain n.val 0 = 0) ∧
     (subchannel a.req.pa.toNat = n.val ∧ subchannel b.req.pa.toNat = n.val) ∧ (a.req.pa.toNat / 64 ≠ b.req.pa.toNat / 64) ∧ (mget
     s.mem.slots n.val 0 ≠ 31))
     ({ mem := { pool := [⟨⟨3, 5, 0x5008, false, [], false, true⟩, 3, 0, 0⟩, ⟨⟨4, 6, 0x5808, false, [], false, true⟩, 2, 0, 0⟩] } }) 0 (⟨⟨3,
     5, 0x5008, false, [], false, true⟩, 3, 0, 0⟩) (⟨⟨4, 6, 0x5808, false, [], false, true⟩, 2, 0, 0⟩) .clean) ∧
    ((fun (s : State) (n : Fin 8) (a : DramWait) (b : DramWait) (f : Ecc) => (s.mem.pool = [a, b] ∧ mget s.mem.retrain n.val 0 = 0) ∧
     (subchannel a.req.pa.toNat = n.val ∧ subchannel b.req.pa.toNat = n.val) ∧ (a.req.pa.toNat / 64 ≠ b.req.pa.toNat / 64) ∧ (mget
     s.mem.slots n.val 0 = 31))
     ({ mem := { slots := [(0, 31)], pool := [⟨⟨3, 5, 0x5008, false, [], false, true⟩, 3, 0, 0⟩, ⟨⟨4, 6, 0x5808, false, [], false, true⟩, 2, 0, 0⟩] } })
     0 (⟨⟨3, 5, 0x5008, false, [], false, true⟩, 3, 0, 0⟩) (⟨⟨4, 6, 0x5808, false, [], false, true⟩, 2, 0, 0⟩) .clean) ∧
    ((fun (s : State) (n : Fin 8) (l : List DramReq) (k : Nat) (f : Ecc) => mget s.mem.retrain n.val 0 ≠ 0)
     ({ mem := { retrain := [(0, 1)] } }) 0 ([⟨3, 5, 0x5008, false, [], false, true⟩]) 0 .clean) :=
  ⟨by refine ⟨?_, ?_, ?_, ?_, ?_⟩ <;> decide +kernel,
   by refine ⟨?_, ?_, ?_, ?_⟩ <;> decide +kernel,
   by refine ⟨?_, ?_, ?_, ?_⟩ <;> decide +kernel,
   by refine ⟨?_, ?_, ?_, ?_⟩ <;> decide +kernel,
   by refine ⟨?_, ?_, ?_, ?_⟩ <;> decide +kernel,
   by refine ⟨?_, ?_⟩ <;> decide +kernel,
   by refine ⟨?_, ?_, ?_, ?_⟩ <;> decide +kernel,
   by refine ⟨?_, ?_, ?_, ?_⟩ <;> decide +kernel,
   by decide +kernel⟩

theorem wit_DramRefreshAndReplay :
    ((fun (s : State) (n : Fin 8) (c : Fin 64) => (mget s.mem.retrained n.val 0 = 0) ∧ ((s.recentReplays n.val).length = 7))
     ({ mem := { replays := [(3, [0, 0, 0, 0, 0, 0, 0])] } }) 3 7) ∧
    ((fun (s : State) (n : Fin 8) (c : Fin 64) => (mget s.mem.retrained n.val 0 ≠ 0 ∧ s.now + 1 < mget s.mem.retrained n.val 0 + 1000000) ∧
     (mget s.mem.after n.val 0 = 7)) ({ mem := { retrained := [(3, 1)], after := [(3, 7)] } }) 3 7) ∧
    ((fun (s : State) (n : Fin 8) => mget s.mem.retrain n.val 0 ≠ 0) ({ mem := { retrain := [(3, 1)] } }) 3) ∧
    ((fun (s : State) (m : Bool) (l : Nat) => m = true ∨ 20000 < l) {} true 0) ∧
    ((fun (s : State) (l : Nat) => l ≤ 20000) ({ safe := { dramBad := true } }) 20000) :=
  ⟨by refine ⟨?_, ?_⟩ <;> decide +kernel,
   by refine ⟨?_, ?_⟩ <;> decide +kernel,
   by decide +kernel,
   by decide +kernel,
   by decide +kernel⟩

theorem wit_SparingAndAdmission :
    ((fun (s : State) (w : Who) (n : Fin 8) (rank : Fin 4) => (accepts s w .dram n.val 0x114 (0x100 + rank.val) = true) ∧ (s.rd
     DRAM.SPARE_STAT.state n.val ≠ 1 ∧ s.rd DRAM.SPARE_STAT.state n.val ≠ 2) ∧ (s.on DRAM.SUB_STAT.spare_avail n.val = true) ∧
     (s.entryBeforeCommit = false)) (st [(DRAM.SUB_STAT.spare_avail, 1, 3, 0, 0)] {}) .mgr 3 1) ∧
    ((fun (s : State) (w : Who) (n : Fin 8) (rank : Fin 4) (c : Nat) => (accepts s w .dram n.val 0x114 (0x100 + rank.val) = true) ∧
     (s.spareBad n.val = some c)) (st [(DRAM.SPARE_STAT.state, 1, 3, 0, 0)] {}) .mgr 3 1 Code.DRAM_SPARE_BUSY) ∧
    ((fun (s : State) (w : Who) (n : Fin 8) (rank : Fin 4) => (accepts s w .dram n.val 0x114 (0x100 + rank.val) = true) ∧ (s.spareBad n.val
     = none) ∧ (s.entryBeforeCommit = true)) (st [(DRAM.SUB_STAT.spare_avail, 1, 3, 0, 0), f0 PWR.STATE.state 5, f0 PWR.STATE.step 2] {})
     .mgr 3 1) ∧
    ((fun (s : State) (w : Who) (n : Fin 8) => (accepts s w .dram n.val 0x114 0x200 = true) ∧ (s.rd DRAM.SPARE_STAT.state n.val = 1 ∨ s.rd
     DRAM.SPARE_STAT.state n.val = 2)) (st [(DRAM.SPARE_STAT.state, 1, 3, 0, 0)] {}) .mgr 3) ∧
    ((fun (s : State) (n : Fin 8) (bad : List Addr) => s.rd DRAM.SPARE_STAT.state n.val = 1) (st [(DRAM.SPARE_STAT.state, 1, 3, 0, 0)] {}) 3
     [0x5000]) ∧
    ((fun (s : State) (w : Who) (v : Word) (p : Nat) => (accepts s w .dramq 0 0x108 v.toNat = true) ∧ (p = s.rd DRAMQ.PORT_SEL.port) ∧
     (s.portHeld p ≤ s.rd DRAMQ.ADMIT_USED.used) ∧ (s.rd DRAMQ.ADMIT_USED.used + portReserve (s.rd DRAMQ.PORT_CFG.cls (b := p)) (v.toNat %
     65536) - s.portHeld p ≤ s.rd DRAMQ.ADMIT_CAP.cap ∧ s.rd DRAMQ.ADMIT_CAP.cap < 65536)) (st [f0 DRAMQ.PORT_SEL.port 3,
     (DRAMQ.PORT_RATE.rate, 0, 0, 0, 3)] {}) .mgr 5 3) ∧
    ((fun (s : State) (w : Who) (v : Word) (p : Nat) => (accepts s w .dramq 0 0x108 v.toNat = true) ∧ (p = s.rd DRAMQ.PORT_SEL.port) ∧
     (s.portHeld p < portReserve (s.rd DRAMQ.PORT_CFG.cls (b := p)) (v.toNat % 65536)) ∧ (s.rd DRAMQ.ADMIT_CAP.cap < s.rd
     DRAMQ.ADMIT_USED.used + (portReserve (s.rd DRAMQ.PORT_CFG.cls (b := p)) (v.toNat % 65536) - s.portHeld p))) (st [f0 DRAMQ.PORT_SEL.port
     3, (DRAMQ.PORT_CFG.cls, 1, 0, 0, 3), (DRAMQ.PORT_RATE.rate, 0, 0, 0, 3)] {}) .mgr 0xFFFF 3) ∧
    ((fun (s : State) (w : Who) (v : Word) (p : Nat) => (accepts s w .dramq 0 0x104 v.toNat = true) ∧ (p = s.rd DRAMQ.PORT_SEL.port) ∧
     (v.toNat % 4 ≠ 2) ∧ (s.portHeld p ≤ s.rd DRAMQ.ADMIT_USED.used) ∧ (s.rd DRAMQ.ADMIT_USED.used + portReserve (v.toNat % 4) (s.rd
     DRAMQ.PORT_RATE.rate (b := p)) - s.portHeld p ≤ s.rd DRAMQ.ADMIT_CAP.cap ∧ s.rd DRAMQ.ADMIT_CAP.cap < 65536)) (st [f0
     DRAMQ.PORT_SEL.port 3] {}) .mgr 3 3) ∧
    ((fun (s : State) (w : Who) (v : Word) => (accepts s w .dramq 0 0x104 v.toNat = true) ∧ (v.toNat % 4 = 2)) {} .mgr 2) ∧
    ((fun (s : State) (w : Who) (v : Word) => (accepts s w .dramq 0 0x120 v.toNat = true) ∧ (128 ≤ v.toNat % 256 ∧ v.toNat % 256 ≤ 240) ∧
     (s.rd DRAMQ.ADMIT_USED.used ≤ admitCap (v.toNat % 256))) (st [f0 DRAMQ.ADMIT_USED.used 3] {}) .mgr 200) :=
  ⟨by refine ⟨?_, ?_, ?_, ?_⟩ <;> decide +kernel,
   by refine ⟨?_, ?_⟩ <;> decide +kernel,
   by refine ⟨?_, ?_, ?_⟩ <;> decide +kernel,
   by refine ⟨?_, ?_⟩ <;> decide +kernel,
   by decide +kernel,
   by refine ⟨?_, ?_, ?_, ?_⟩ <;> decide +kernel,
   by refine ⟨?_, ?_, ?_, ?_⟩ <;> decide +kernel,
   by refine ⟨?_, ?_, ?_, ?_, ?_⟩ <;> decide +kernel,
   by refine ⟨?_, ?_⟩ <;> decide +kernel,
   by refine ⟨?_, ?_, ?_⟩ <;> decide +kernel⟩

theorem wit_RingContextOperations :
    ((fun (s : State) (w : Who) (r : Nat) => (accepts s w .rsched 0 0x104 1 = true) ∧ (r = s.rd RSCHED.CTX_SEL.ring) ∧ (s.instState
     (ringInst r) ≠ 0 ∧ s.inQuota r = true)) (st [f0 RSCHED.CTX_SEL.ring 7] {}) .mgr 7) ∧
    ((fun (s : State) (w : Who) (r : Nat) => (accepts s w .rsched 0 0x104 2 = true) ∧ (r = s.rd RSCHED.CTX_SEL.ring) ∧ (s.instState
     (ringInst r) ≠ 0 ∧ s.inQuota r = true) ∧ ((s.ring r).st = 0)) (st [f0 RSCHED.CTX_SEL.ring 7] {}) .mgr 7) ∧
    ((fun (s : State) (w : Who) (r : Nat) => (accepts s w .rsched 0 0x104 3 = true) ∧ (r = s.rd RSCHED.CTX_SEL.ring) ∧ (s.instState
     (ringInst r) = 1 ∨ s.instState (ringInst r) = 2) ∧ (s.inQuota r = true ∧ (s.ring r).st = 0) ∧ (s.enableOk r = true) ∧ ((s.ring r).pin =
     true → s.rd RSCHED.PIN_COUNT.pinned < 1024)) (st [f0 RSCHED.CTX_SEL.ring 7]
     { rings := { ctx := [(7, { type := 7, cls := 0, pin := true })] } }) .mgr 7) ∧
    ((fun (s : State) (w : Who) (r : Nat) => (accepts s w .rsched 0 0x104 3 = true) ∧ (r = s.rd RSCHED.CTX_SEL.ring) ∧ (s.instState
     (ringInst r) ≠ 0 ∧ s.inQuota r = true) ∧ ((s.ring r).st ≠ 0)) (st [f0 RSCHED.CTX_SEL.ring 7]
     { rings := { ctx := [(7, { st := 1 })] } }) .mgr 7) ∧
    ((fun (s : State) (w : Who) (r : Nat) => (accepts s w .rsched 0 0x104 4 = true) ∧ (r = s.rd RSCHED.CTX_SEL.ring) ∧ (s.instState
     (ringInst r) ≠ 0 ∧ s.inQuota r = true)) (st [f0 RSCHED.CTX_SEL.ring 7] { rings := { ctx := [(7, { st := 1, enable := true })] } }) .mgr
     7) ∧
    ((fun (s : State) (r : Fin 262144) => ((s.ring r.val).enable = false ∧ (s.ring r.val).inflight = 0) ∧ (s.owesRecord r.val = false))
     ({ rings := { ctx := [(7, { st := 1 })] } }) 7) ∧
    ((fun (s : State) (w : Who) (n : Fin 16) (r : Nat) => (accepts s w .rsched 0 0x104 (5 + n.val * 256) = true) ∧ (r = s.rd
     RSCHED.CTX_SEL.ring) ∧ (s.instState (ringInst r) ≠ 0 ∧ s.inQuota r = true) ∧ ((s.ring r).st ≠ 0 ∧ (s.ring r).migrating = false ∧
     (s.ring r).type ≠ 7) ∧ (classMigrates (s.ring r).cls = true ∧ n.val < classEngines (s.ring r).cls ∧ n.val ≠ (s.ring r).engine) ∧
     ((s.ring r).type = 3 → s.dmaServes n.val (ringInst r) (s.ring r).world = true)) (st [f0 RSCHED.CTX_SEL.ring 7]
     { rings := { ctx := [(7, { st := 1, type := 3, cls := 2 })] } }) .mgr 2 7) ∧
    ((fun (s : State) (r : Fin 262144) => ((s.ring r.val).migrating = true ∧ (s.ring r.val).inflight = 0) ∧ (s.owesRecord r.val = false))
     ({ rings := { ctx := [(7, { st := 1, migrating := true, target := 3 })] } }) 7) :=
  ⟨by refine ⟨?_, ?_, ?_⟩ <;> decide +kernel,
   by refine ⟨?_, ?_, ?_, ?_⟩ <;> decide +kernel,
   by refine ⟨?_, ?_, ?_, ?_, ?_, ?_⟩ <;> decide +kernel,
   by refine ⟨?_, ?_, ?_, ?_⟩ <;> decide +kernel,
   by refine ⟨?_, ?_, ?_⟩ <;> decide +kernel,
   by refine ⟨?_, ?_⟩ <;> decide +kernel,
   by refine ⟨?_, ?_, ?_, ?_, ?_, ?_⟩ <;> decide +kernel,
   by refine ⟨?_, ?_⟩ <;> decide +kernel⟩

theorem wit_Doorbells :
    ((fun (s : State) (k : Fin 64) (r : Fin 4096) (v : BitVec 24) (id : Nat) => (id = k.val * 4096 + r.val ∧ s.instState k.val = 2) ∧
     (s.inQuota id = true ∧ (s.ring id).st ≠ 0 ∧ (s.ring id).type ≠ 7) ∧ ((v.toNat + 2 ^ 24 - (s.ring id).tail) % 2 ^ 24 ≤ (s.ring
     id).entries - (s.ring id).waiting)) ({ rings := { ctx := [(7, { st := 1, type := 3, cls := 2 })] } }) 0 7 2 7) ∧
    ((fun (s : State) (k : Fin 64) (r : Fin 4096) (v : BitVec 24) (id : Nat) => (id = k.val * 4096 + r.val ∧ s.instState k.val = 2) ∧
     (s.inQuota id = true ∧ (s.ring id).st ≠ 0 ∧ (s.ring id).type ≠ 7) ∧ ((s.ring id).entries - (s.ring id).waiting < (v.toNat + 2 ^ 24 -
     (s.ring id).tail) % 2 ^ 24)) ({ rings := { ctx := [(7, { st := 1, type := 3, cls := 2 })] } }) 0 7 200 7) ∧
    ((fun (s : State) (k : Fin 64) (r : Fin 4096) (v : BitVec 24) (id : Nat) => (id = k.val * 4096 + r.val ∧ s.instState k.val = 2) ∧
     (s.inQuota id = true ∧ (s.ring id).st ≠ 0 ∧ (s.ring id).type = 7) ∧ (((s.ring id).tail + 2 ^ 24 - v.toNat) % 2 ^ 24 ≤ (s.ring
     id).waiting)) ({ rings := { ctx := [(7, { st := 1, type := 7, tail := 3 })] } }) 0 7 2 7) ∧
    ((fun (s : State) (k : Fin 64) (slot : Fin 4096) => (s.instState k.val = 2) ∧ (slot.val < s.fenceSlots k.val)) (st [f0
     RSCHED.FENCE_SLOTS.slots 8] {}) 0 7) ∧
    ((fun (s : State) (k : Fin 64) (r : Fin 4096) (id : Nat) (j : Job) => (id = k.val * 4096 + r.val ∧ s.instState k.val = 2) ∧ (s.inQuota
     id = true ∧ (s.ring id).st ≠ 0 ∧ (s.ring id).type = 3 ∧ (s.ring id).overrun = false) ∧ (s.halted (s.ring id).engine = some j ∧ j.ring =
     id))
     ({ rings := { ctx := [(7, { st := 4, type := 3, cls := 2, engine := 1 })], jobs := [(33, some { ring := 7, seq := 0, desc := [], phase := 3 })] } })
     0 7 7 ({ ring := 7, seq := 0, desc := [], phase := 3 })) ∧
    ((fun (s : State) (k : Fin 64) (r : Fin 4096) (id : Nat) (j : Job) => (id = k.val * 4096 + r.val ∧ s.instState k.val = 2) ∧ (s.inQuota
     id = true ∧ (s.ring id).st ≠ 0 ∧ (s.ring id).type = 3 ∧ (s.ring id).overrun = false) ∧ (s.halted (s.ring id).engine = some j ∧ j.ring =
     id))
     ({ rings := { ctx := [(7, { st := 4, type := 3, cls := 2, engine := 1 })], jobs := [(33, some { ring := 7, seq := 0, desc := [], phase := 3 })] } })
     0 7 7 ({ ring := 7, seq := 0, desc := [], phase := 3 })) ∧
    ((fun (s : State) (k : Fin 64) (r : Fin 4096) (v : Word) => (s.instState k.val = 2) ∧ (bits v.toNat 28 4 = 2 ∨ 5 ≤ bits v.toNat 28 4))
     {} 0 7 0x20000000) ∧
    ((fun (s : State) (k : Fin 64) (r : Fin 4096) (v : BitVec 24) => s.instState k.val ≠ 2) {} 5 7 1) :=
  ⟨by refine ⟨?_, ?_, ?_⟩ <;> decide +kernel,
   by refine ⟨?_, ?_, ?_⟩ <;> decide +kernel,
   by refine ⟨?_, ?_, ?_⟩ <;> decide +kernel,
   by refine ⟨?_, ?_⟩ <;> decide +kernel,
   by refine ⟨?_, ?_, ?_⟩ <;> decide +kernel,
   by refine ⟨?_, ?_, ?_⟩ <;> decide +kernel,
   by refine ⟨?_, ?_⟩ <;> decide +kernel,
   by decide +kernel⟩

theorem wit_JobsFencesAndEvents :
    ((fun (s : State) (r : Fin 262144) (c : Ring) => (c = s.ring r.val ∧ s.fetches r.val = true) ∧ (c.waitMet = true ∧ (c.pre.head?.map
     (·.1)).getD 0 = 0) ∧ ((List.range 8).all (fun p => !(s.on SURF.STREAM_CFG.enable p && s.hapRing p == r.val)) = true) ∧ ((List.range
     64).all (fun k => !(s.on AUDIO.STRM_CFG.enable (b := k) && s.rd AUDIO.STRM_CFG.ring (b := k) == r.val)) = true) ∧ (s.memFault (reqFor
     (s.ringRid r.val) (portOf c.cls c.engine) c.hint) false (c.base + ((c.head + c.pre.length) % c.entries) * entrySize c.type) (entrySize
     c.type) = none))
     ({ rings := { ctx := [(7, { st := 2, enable := true, type := 3, cls := 2, tail := 2, waitMet := true, pre := [(0, 0, [])] })] } }) 7
     ({ st := 2, enable := true, type := 3, cls := 2, tail := 2, waitMet := true, pre := [(0, 0, [])] })) ∧
    ((fun (s : State) (n : Fin 16) (r : Nat) => (n.val < 8 ∧ s.job 2 n.val = none) ∧ (s.pickRing 2 n.val = some r) ∧ (dmaBad (((s.ring
     r).pre.head?.map (·.2.2)).getD []) = false))
     ({ rings := { ctx := [(7, { st := 2, enable := true, type := 3, cls := 2, tail := 2, waitMet := true, pre := [(0, 0, [4])] })] } }) 0 7) ∧
    ((fun (s : State) (r : Fin 262144) (f : Nat) (v : Nat) (d : List Byte) (l : List (Nat × Nat × List Byte)) => ((s.ring r.val).st = 3 ∧
     (s.ring r.val).waitReg = true ∧ (s.ring r.val).waitMet = false) ∧ ((s.ring r.val).pre = (0, 0, d) :: l ∧ entryWait (s.ring r.val).type
     d = some (f, v)) ∧ (f % 1024 < s.fenceSlots (f / 1024) ∧ mget s.rings.aband (f / 1024) 0 = 0) ∧ (s.memFault (reqFor (instRid (ringInst
     r.val)) portDevice false) false (s.fenceAddr f) 8 = none ∧ v ≤ s.rdMem (s.fenceAddr f) 8)) (st [f0 RSCHED.FENCE_SLOTS.slots 8]
     { rings := { ctx := [(7, { st := 3, enable := true, type := 3, cls := 2, tail := 2, waitReg := true, pre := [(0, 0, [4, 0, 1])] })] } })
     7 0 0 ([4, 0, 1]) []) ∧
    ((fun (s : State) (r : Fin 262144) (d : List Byte) (l : List (Nat × Nat × List Byte)) => ((s.ring r.val).st = 3 ∧ s.waitedOut (s.ring
     r.val).waitAt (s.ring r.val).waitLimit = true) ∧ ((s.ring r.val).pre = (0, 0, d) :: l ∧ entryWait (s.ring r.val).type d ≠ none))
     ({ rings := { ctx := [(7, { st := 3, enable := true, type := 3, cls := 2, tail := 2, waitLimit := 3, waitReg := true, pre := [(0, 0, [4, 0, 1])] })] }, time := { tick := 400 } })
     7 ([4, 0, 1]) []) ∧
    ((fun (s : State) (n : Fin 16) (r : Nat) => (n.val < 2 ∧ s.gfxCur n.val = none ∧ s.job 0 n.val = none) ∧ (s.compActive = false ∧
     s.compReady 0 = none ∧ s.compReady 1 = none) ∧ (s.gfx.held.find? (s.gfxResumable n.val) = none ∧ s.pickAmong 0 n.val (s.gfxEligible
     n.val) = some r))
     ({ rings := { ctx := [(7, { st := 2, enable := true, type := 0, cls := 0, tail := 2, waitMet := true, pre := [(0, 0, [0, 0, 0, 0])] })] } })
     0 7) ∧
    ((fun (s : State) (n : Fin 16) (r : Nat) => (n.val < 4 ∧ s.job 1 n.val = none ∧ s.compOn n.val = true) ∧ (s.pickAmong 1 n.val
     ((s.readyRings 1 n.val).filter (fun r => decide ((s.pend (s.nextHead n.val r)).length < 32))) = some r)) (st [(HDR.enable .comp, 1, 1,
     0, 0)]
     { rings := { ctx := [(7, { st := 2, enable := true, type := 2, cls := 1, engine := 1, tail := 2, waitMet := true, pre := [(0, 0, [2, 0])] })] } })
     1 7) ∧
    ((fun (s : State) (cls : Fin 5) (n : Fin 16) => 3 ≤ cls.val ∨ (s.job cls.val n.val).isSome = true) {} 3 2) ∧
    ((fun (s : State) (key : Nat) (f : Nat) (v : Nat) (x : Wait) => (s.waitOf key = some x ∧ x.met = false ∧ x.code = 0 ∧ x.fence = f ∧
     x.value = v) ∧ (f % 1024 < s.fenceSlots (f / 1024) ∧ mget s.rings.aband (f / 1024) 0 = 0) ∧ (s.memFault (reqFor x.rid portDevice false)
     false (s.fenceAddr f) 8 = none ∧ v ≤ s.rdMem (s.fenceAddr f) 8)) (st [f0 RSCHED.FENCE_SLOTS.slots 8]
     { rings := { waits := [⟨40, 0xFE, 0, 0, false, 0, 0⟩] } }) 40 0 0 (⟨40, 0xFE, 0, 0, false, 0, 0⟩)) ∧
    ((fun (s : State) (key : Nat) (r : Nat) (x : Wait) => (s.waitOf key = some x ∧ x.met = false ∧ x.code = 0) ∧ (s.waitRing key = some r ∧
     s.waitedOut x.since (s.ring r).waitLimit = true))
     ({ rings := { ctx := [(7, { waitLimit := 3 })], waits := [⟨40, 0xFE, 0, 9, false, 0, 0⟩] }, gfx := { held := [{ job := { ring := 7, seq := 0, desc := [] }, fe := 0, ctx := 40, comp := false, cmd := 0, words := 0 }] }, time := { tick := 400 } })
     40 7 (⟨40, 0xFE, 0, 9, false, 0, 0⟩)) ∧
    ((fun (s : State) (q : Fin 262144) (e : RecDue) (l : List RecDue) (c : Ring) => (c = s.ring q.val ∧ c.takes = true) ∧ (takeDue (fun e =>
     s.queueOf e.ring == q.val) s.rings.recs = some (e, l)) ∧ (s.memFault (reqFor (s.ringRid q.val) (portOf (e.source / 4096) (e.source /
     256 % 16)) c.hint) true (c.base + (c.tail % c.entries) * 32) 32 = none))
     ({ rings := { ctx := [(5, { cq := 7 }), (7, { st := 1, enable := true, type := 7 })], recs := [⟨5, 1, true, false, 3, 9, 0, 0, 0, 0, false⟩, ⟨7, 1, true, false, 3, 9, 0, 0, 0, 0, false⟩] } })
     7 (⟨5, 1, true, false, 3, 9, 0, 0, 0, 0, false⟩) ([⟨7, 1, true, false, 3, 9, 0, 0, 0, 0, false⟩])
     ({ st := 1, enable := true, type := 7 })) ∧
    ((fun (s : State) (q : Fin 262144) => ((s.ring q.val).irqEn = true ∧ 0 < (s.ring q.val).irqDue) ∧ (s.past (s.ring q.val).irqAt (1000 *
     (s.ring q.val).irqTime) = true)) ({ rings := { ctx := [(7, { st := 1, enable := true, type := 7, irqEn := true, irqDue := 2 })] } }) 7) ∧
    ((fun (s : State) (k : Fin 64) (e : EvRec) (l : List EvRec) (q : Nat) (c : Ring) => (takeEv (fun e => e.recipient == k.val) s.events =
     some (e, l)) ∧ (s.evQueue k.val = some q ∧ c = s.ring q ∧ c.takes = true) ∧ (s.memFault (reqFor (s.ringRid q) portDevice c.hint) true
     (c.base + (c.tail % c.entries) * 32) 32 = none)) (st [f0 RSCHED.EVQ.valid 1, f0 RSCHED.EVQ.ring 7]
     { events := [⟨0, 9, 0, 0, 1, 5, false⟩], rings := { ctx := [(7, { st := 1, enable := true, type := 7 })] } }) 0 (⟨0, 9, 0, 0, 1, 5,
     false⟩) [] 7 ({ st := 1, enable := true, type := 7 })) ∧
    ((fun (s : State) (k : Fin 64) (e : EvRec) (l : List EvRec) => (takeEv (fun e => e.recipient == k.val) s.events = some (e, l)) ∧
     (s.evQueue k.val = none)) ({ events := [⟨3, 9, 0, 0, 1, 5, false⟩] }) 3 (⟨3, 9, 0, 0, 1, 5, false⟩) []) :=
  ⟨by refine ⟨?_, ?_, ?_, ?_, ?_⟩ <;> decide +kernel,
   by refine ⟨?_, ?_, ?_⟩ <;> decide +kernel,
   by refine ⟨?_, ?_, ?_, ?_⟩ <;> decide +kernel,
   by refine ⟨?_, ?_⟩ <;> decide +kernel,
   by refine ⟨?_, ?_, ?_⟩ <;> decide +kernel,
   by refine ⟨?_, ?_⟩ <;> decide +kernel,
   by decide +kernel,
   by refine ⟨?_, ?_, ?_⟩ <;> decide +kernel,
   by refine ⟨?_, ?_⟩ <;> decide +kernel,
   by refine ⟨?_, ?_, ?_⟩ <;> decide +kernel,
   by refine ⟨?_, ?_⟩ <;> decide +kernel,
   by refine ⟨?_, ?_, ?_⟩ <;> decide +kernel,
   by refine ⟨?_, ?_⟩ <;> decide +kernel⟩

theorem wit_DmaJobs :
    ((fun (s : State) (n : Fin 8) (j : Job) (a : Nat) (len : Nat) => (s.job 2 n.val = some j ∧ j.phase = 0 ∧ j.elem = 0 ∧ j.done = 0) ∧
     (dmaOp j.desc = 1 ∧ dmaCrc j.desc = 0) ∧ (s.dmaReadList (s.jobReq j) (dmaList j.desc) (dmaCount j.desc - j.list.length) j.list = ([(a,
     len)], false, none) ∧ len ≤ 1048576) ∧ ((s.fetched (s.jobReq j) (dmaList j.desc + 16 * j.list.length) (16 * (1 -
     j.list.length))).memFault (s.jobReq j) false a len = none ∧ (((s.fetched (s.jobReq j) (dmaList j.desc + 16 * j.list.length) (16 * (1 -
     j.list.length))).fetched (s.jobReq j) a len).count .dma n.val 1 len).memFault (s.jobReq j) true (field j.desc 0x10 8) len = none))
     ({ dram := [(0x1001, 0x50), (0x1008, 4), (0x5000, 1), (0x5001, 2)], rings := { jobs := [(33, some { ring := 7, seq := 0, desc := [1, 1, 0, 0, 0, 0, 0, 0, 0, 0x10, 0, 0, 0, 0, 0, 0, 0, 0x60] })] } })
     1 ({ ring := 7, seq := 0, desc := [1, 1, 0, 0, 0, 0, 0, 0, 0, 0x10, 0, 0, 0, 0, 0, 0, 0, 0x60] }) 0x5000 4) ∧
    ((fun (s : State) (n : Fin 8) (j : Job) (a : Nat) (len : Nat) => (s.job 2 n.val = some j ∧ j.phase = 0 ∧ j.elem = 0 ∧ j.done = 0) ∧
     (dmaOp j.desc = 2 ∧ dmaCrc j.desc = 0) ∧ (s.dmaReadList (s.jobReq j) (dmaList j.desc) (dmaCount j.desc - j.list.length) j.list = ([(a,
     len)], false, none) ∧ len ≤ 1048576) ∧ ((s.fetched (s.jobReq j) (dmaList j.desc + 16 * j.list.length) (16 * (1 -
     j.list.length))).memFault (s.jobReq j) false (field j.desc 8 8) len = none ∧ (((s.fetched (s.jobReq j) (dmaList j.desc + 16 *
     j.list.length) (16 * (1 - j.list.length))).fetched (s.jobReq j) (field j.desc 8 8) len).count .dma n.val 1 len).memFault (s.jobReq j)
     true a len = none))
     ({ dram := [(0x1001, 0x50), (0x1008, 4), (0x6000, 1), (0x6001, 2)], rings := { jobs := [(33, some { ring := 7, seq := 0, desc := [2, 1, 0, 0, 0, 0, 0, 0, 0, 0x60, 0, 0, 0, 0, 0, 0, 0, 0x10] })] } })
     1 ({ ring := 7, seq := 0, desc := [2, 1, 0, 0, 0, 0, 0, 0, 0, 0x60, 0, 0, 0, 0, 0, 0, 0, 0x10] }) 0x5000 4) ∧
    ((fun (s : State) (n : Fin 8) (j : Job) (a : Nat) (len : Nat) => (s.job 2 n.val = some j ∧ j.phase = 0 ∧ j.elem = 0 ∧ j.done = 0) ∧
     (dmaOp j.desc = 3 ∧ dmaCrc j.desc = 0) ∧ (s.dmaReadList (s.jobReq j) (dmaList j.desc) (dmaCount j.desc - j.list.length) j.list = ([(a,
     len)], false, none) ∧ len ≤ 1048576) ∧ ((s.fetched (s.jobReq j) (dmaList j.desc + 16 * j.list.length) (16 * (1 -
     j.list.length))).memFault (s.jobReq j) true a len = none))
     ({ dram := [(0x1001, 0x50), (0x1008, 4)], rings := { jobs := [(33, some { ring := 7, seq := 0, desc := [3, 1, 0, 0, 7, 8, 9, 1, 0, 0, 0, 0, 0, 0, 0, 0, 0, 0x10] })] } })
     1 ({ ring := 7, seq := 0, desc := [3, 1, 0, 0, 7, 8, 9, 1, 0, 0, 0, 0, 0, 0, 0, 0, 0, 0x10] }) 0x5000 4) ∧
    ((fun (s : State) (n : Fin 8) (j : Job) => (s.job 2 n.val = some j ∧ j.phase = 0) ∧ (dmaOp j.desc = 4))
     ({ rings := { jobs := [(33, some { ring := 7, seq := 0, desc := [4] })] } }) 1 ({ ring := 7, seq := 0, desc := [4] })) ∧
    ((fun (s : State) (n : Fin 8) (j : Job) => (s.job 2 n.val = some j ∧ j.phase = 1) ∧ (bit (field j.desc 0 4) 17 = false))
     ({ rings := { jobs := [(33, some { ring := 7, seq := 0, desc := [4], phase := 1 })] } }) 1
     ({ ring := 7, seq := 0, desc := [4], phase := 1 })) ∧
    ((fun (s : State) (n : Fin 8) (j : Job) => s.job 2 n.val = some j ∧ j.phase = 2)
     ({ rings := { jobs := [(33, some { ring := 7, seq := 0, desc := [4], phase := 2, failCode := 0x301 })] } }) 1
     ({ ring := 7, seq := 0, desc := [4], phase := 2, failCode := 0x301 })) ∧
    ((fun (s : State) (w : Who) (n : Fin 8) (j : Job) => (accepts s w .dma n.val 0x120 1 = true) ∧ (s.halted n.val = some j) ∧ ((s.ring
     j.ring).overrun = false)) ({ rings := { jobs := [(33, some { ring := 7, seq := 0, desc := [4], phase := 3 })] } }) .mgr 1
     ({ ring := 7, seq := 0, desc := [4], phase := 3 })) ∧
    ((fun (s : State) (w : Who) (n : Fin 8) (j : Job) => (accepts s w .dma n.val 0x120 2 = true) ∧ (s.halted n.val = some j) ∧ ((s.ring
     j.ring).overrun = false)) ({ rings := { jobs := [(33, some { ring := 7, seq := 0, desc := [4], phase := 3 })] } }) .mgr 1
     ({ ring := 7, seq := 0, desc := [4], phase := 3 })) ∧
    ((fun (s : State) (w : Who) (n : Fin 8) => (accepts s w .dma n.val 0x120 2 = true) ∧ (s.halted n.val = none)) {} .mgr 1) ∧
    ((fun (s : State) (n : Fin 8) (j : Job) => (s.halted n.val = some j) ∧ (s.past j.haltAt (ms (max 1 (s.rd DMA.HALT_LIMIT.ms n.val))) =
     true)) ({ rings := { jobs := [(33, some { ring := 7, seq := 0, desc := [4], phase := 3 })] }, time := { tick := 40000000 } }) 1
     ({ ring := 7, seq := 0, desc := [4], phase := 3 })) ∧
    ((fun (s : State) (w : Who) (n : Fin 8) (j : Job) => (accepts s w .dma n.val 0x120 1 = true) ∧ (s.halted n.val = some j) ∧ ((s.ring
     j.ring).overrun = true))
     ({ rings := { ctx := [(7, { st := 4, overrun := true })], jobs := [(33, some { ring := 7, seq := 0, desc := [4], phase := 3 })] } })
     .mgr 1 ({ ring := 7, seq := 0, desc := [4], phase := 3 })) :=
  ⟨by refine ⟨?_, ?_, ?_, ?_⟩ <;> decide +kernel,
   by refine ⟨?_, ?_, ?_, ?_⟩ <;> decide +kernel,
   by refine ⟨?_, ?_, ?_, ?_⟩ <;> decide +kernel,
   by refine ⟨?_, ?_⟩ <;> decide +kernel,
   by refine ⟨?_, ?_⟩ <;> decide +kernel,
   by decide +kernel,
   by refine ⟨?_, ?_, ?_⟩ <;> decide +kernel,
   by refine ⟨?_, ?_, ?_⟩ <;> decide +kernel,
   by refine ⟨?_, ?_⟩ <;> decide +kernel,
   by refine ⟨?_, ?_⟩ <;> decide +kernel,
   by refine ⟨?_, ?_, ?_⟩ <;> decide +kernel⟩

theorem wit_GraphicsStatePackets :
    ((fun (s : State) (e : Fin 2) (r : GfxRun) (w : List Nat) => packetAt s e.val 1 2 r w = true) (st [(GFX.CTX_STAT.owner, 0xFE, 0, 0, 3)]
     { dram := [(0x5000, 1), (0x5001, 2), (0x5002, 7), (0x5004, 9)], gfx := { cur := [(1, some { job := { ring := 7, seq := 0, desc := [] }, fe := 1, ctx := 3, comp := false, cmd := 0x5000, words := 7 })] } })
     1 ({ job := { ring := 7, seq := 0, desc := [] }, fe := 1, ctx := 3, comp := false, cmd := 0x5000, words := 7 }) ([0x70201, 9, 0, 0, 0,
     0, 0])) ∧
    ((fun (s : State) (e : Fin 2) (r : GfxRun) (w : List Nat) => packetAt s e.val 1 3 r w = true) (st [(GFX.CTX_STAT.owner, 0xFE, 0, 0, 3)]
     { dram := [(0x5000, 1), (0x5001, 3), (0x5002, 3), (0x5004, 9)], gfx := { cur := [(1, some { job := { ring := 7, seq := 0, desc := [] }, fe := 1, ctx := 3, comp := false, cmd := 0x5000, words := 7 })] } })
     1 ({ job := { ring := 7, seq := 0, desc := [] }, fe := 1, ctx := 3, comp := false, cmd := 0x5000, words := 7 }) ([0x30301, 9, 0])) ∧
    ((fun (s : State) (e : Fin 2) (r : GfxRun) (w : List Nat) => packetAt s e.val 1 4 r w = true) (st [(GFX.CTX_STAT.owner, 0xFE, 0, 0, 3)]
     { dram := [(0x5000, 1), (0x5001, 4), (0x5002, 5), (0x5004, 9)], gfx := { cur := [(1, some { job := { ring := 7, seq := 0, desc := [] }, fe := 1, ctx := 3, comp := false, cmd := 0x5000, words := 7 })] } })
     1 ({ job := { ring := 7, seq := 0, desc := [] }, fe := 1, ctx := 3, comp := false, cmd := 0x5000, words := 7 }) ([0x50401, 9, 0, 0, 0])) ∧
    ((fun (s : State) (e : Fin 2) (r : GfxRun) (w : List Nat) => packetAt s e.val 1 5 r w = true) (st [(GFX.CTX_STAT.owner, 0xFE, 0, 0, 3)]
     { dram := [(0x5000, 1), (0x5001, 5), (0x5002, 4), (0x5004, 9)], gfx := { cur := [(1, some { job := { ring := 7, seq := 0, desc := [] }, fe := 1, ctx := 3, comp := false, cmd := 0x5000, words := 7 })] } })
     1 ({ job := { ring := 7, seq := 0, desc := [] }, fe := 1, ctx := 3, comp := false, cmd := 0x5000, words := 7 }) ([0x40501, 9, 0, 0])) ∧
    ((fun (s : State) (e : Fin 2) (r : GfxRun) (w : List Nat) => packetAt s e.val 1 6 r w = true) (st [(GFX.CTX_STAT.owner, 0xFE, 0, 0, 3)]
     { dram := [(0x5000, 1), (0x5001, 6), (0x5002, 2), (0x5004, 9)], gfx := { cur := [(1, some { job := { ring := 7, seq := 0, desc := [] }, fe := 1, ctx := 3, comp := false, cmd := 0x5000, words := 7 })] } })
     1 ({ job := { ring := 7, seq := 0, desc := [] }, fe := 1, ctx := 3, comp := false, cmd := 0x5000, words := 7 }) ([0x20601, 9])) ∧
    ((fun (s : State) (e : Fin 2) (r : GfxRun) (w : List Nat) (fx : GfxFx) (n : Nat) (tab : Nat) (cnt : Nat) => (packetAt s e.val 1 1 r w =
     true ∧ quietPass r fx = true) ∧ (n = bits (wordAt w 1) 0 3 ∧ n ≤ 4 ∧ cnt = n + (if bit (wordAt w 1) 8 then 1 else 0)) ∧ (bits (wordAt w
     1) 16 4 = 1 ∨ bits (wordAt w 1) 16 4 = 2 ∨ bits (wordAt w 1) 16 4 = 4) ∧ (tab = pairAt w 2 ∧ tab % 16 = 0 ∧ (afterPacket s r
     w).memFault (s.gfxReq r) false tab (48 * cnt) = none) ∧ ((List.range cnt).all (fun i => s.targetOk (tab + 48 * i) (s.rdMem (tab + 0xC)
     2) (s.rdMem (tab + 0xE) 2) (bits (wordAt w 1) 16 4) (decide (n ≤ i))) = true)) (st [(GFX.CTX_STAT.owner, 0xFE, 0, 0, 3)]
     { dram := [(0x5000, 1), (0x5001, 1), (0x5002, 4), (0x5004, 1), (0x5006, 1), (0x5009, 0x60), (0x6001, 0x70), (0x6009, 1), (0x600C, 8), (0x600E, 4), (0x6010, 3)], gfx := { cur := [(1, some { job := { ring := 7, seq := 0, desc := [] }, fe := 1, ctx := 3, comp := false, cmd := 0x5000, words := 7 })] } })
     1 ({ job := { ring := 7, seq := 0, desc := [] }, fe := 1, ctx := 3, comp := false, cmd := 0x5000, words := 7 }) ([0x40101, 0x10001,
     0x6000, 0]) (⟨true, [(5, [1, 2])], [], [], []⟩) 1 0x6000 1) ∧
    ((fun (s : State) (e : Fin 2) (r : GfxRun) (w : List Nat) (a : Nat) => (packetAt s e.val 2 1 r w = true) ∧ (a = pairAt w 1 ∧ a % 4096 =
     0 ∧ (afterPacket s r w).memFault (s.gfxReq r) false a 16 = none) ∧ (s.rdMem a 4 = 0x4950474E ∧ s.rdMem (a + 4) 1 = 1 ∧ s.rdMem (a + 5)
     1 = 0)) (st [(GFX.CTX_STAT.owner, 0xFE, 0, 0, 3)]
     { dram := [(0x5000, 2), (0x5001, 1), (0x5002, 3), (0x5005, 0x60), (0x6000, 0x4E), (0x6001, 0x47), (0x6002, 0x50), (0x6003, 0x49), (0x6004, 1)], gfx := { cur := [(1, some { job := { ring := 7, seq := 0, desc := [] }, fe := 1, ctx := 3, comp := false, cmd := 0x5000, words := 7 })] } })
     1 ({ job := { ring := 7, seq := 0, desc := [] }, fe := 1, ctx := 3, comp := false, cmd := 0x5000, words := 7 }) ([0x30102, 0x6000, 0])
     0x6000) ∧
    ((fun (s : State) (e : Fin 2) (r : GfxRun) (w : List Nat) => (packetAt s e.val 2 2 r w = true) ∧ (pairAt w 2 % 32 = 0)) (st
     [(GFX.CTX_STAT.owner, 0xFE, 0, 0, 3)]
     { dram := [(0x5000, 2), (0x5001, 2), (0x5002, 4), (0x5004, 3)], gfx := { cur := [(1, some { job := { ring := 7, seq := 0, desc := [] }, fe := 1, ctx := 3, comp := false, cmd := 0x5000, words := 7 })] } })
     1 ({ job := { ring := 7, seq := 0, desc := [] }, fe := 1, ctx := 3, comp := false, cmd := 0x5000, words := 7 }) ([0x40202, 3, 0, 0])) ∧
    ((fun (s : State) (e : Fin 2) (r : GfxRun) (w : List Nat) => (packetAt s e.val 2 2 r w = true) ∧ (pairAt w 2 % 32 ≠ 0)) (st
     [(GFX.CTX_STAT.owner, 0xFE, 0, 0, 3)]
     { dram := [(0x5000, 2), (0x5001, 2), (0x5002, 4), (0x5008, 3)], gfx := { cur := [(1, some { job := { ring := 7, seq := 0, desc := [] }, fe := 1, ctx := 3, comp := false, cmd := 0x5000, words := 7 })] } })
     1 ({ job := { ring := 7, seq := 0, desc := [] }, fe := 1, ctx := 3, comp := false, cmd := 0x5000, words := 7 }) ([0x40202, 0, 3, 0])) ∧
    ((fun (s : State) (e : Fin 2) (r : GfxRun) (w : List Nat) => (packetAt s e.val 2 3 r w = true) ∧ (1 ≤ bits (wordAt w 1) 4 5 ∧ bits
     (wordAt w 1) 4 5 ≤ 16)) (st [(GFX.CTX_STAT.owner, 0xFE, 0, 0, 3)]
     { dram := [(0x5000, 2), (0x5001, 3), (0x5002, 5), (0x5004, 0x12)], gfx := { cur := [(1, some { job := { ring := 7, seq := 0, desc := [] }, fe := 1, ctx := 3, comp := false, cmd := 0x5000, words := 7 })] } })
     1 ({ job := { ring := 7, seq := 0, desc := [] }, fe := 1, ctx := 3, comp := false, cmd := 0x5000, words := 7 }) ([0x50302, 0x12, 0, 0,
     0])) ∧
    ((fun (s : State) (e : Fin 2) (r : GfxRun) (w : List Nat) => (packetAt s e.val 2 4 r w = true) ∧ (pairAt w 2 % (if bit (wordAt w 1) 0
     then 4 else 2) = 0)) (st [(GFX.CTX_STAT.owner, 0xFE, 0, 0, 3)]
     { dram := [(0x5000, 2), (0x5001, 4), (0x5002, 5), (0x5004, 1)], gfx := { cur := [(1, some { job := { ring := 7, seq := 0, desc := [] }, fe := 1, ctx := 3, comp := false, cmd := 0x5000, words := 7 })] } })
     1 ({ job := { ring := 7, seq := 0, desc := [] }, fe := 1, ctx := 3, comp := false, cmd := 0x5000, words := 7 }) ([0x50402, 1, 0, 0, 0])) ∧
    ((fun (s : State) (e : Fin 2) (r : GfxRun) (w : List Nat) => (packetAt s e.val 2 5 r w = true) ∧ (bits (wordAt w 1) 0 8 % 4 = 0 ∧ bits
     (wordAt w 1) 0 8 + 4 * (w.length - 2) ≤ 256)) (st [(GFX.CTX_STAT.owner, 0xFE, 0, 0, 3)]
     { dram := [(0x5000, 2), (0x5001, 5), (0x5002, 3), (0x5004, 8), (0x5008, 9)], gfx := { cur := [(1, some { job := { ring := 7, seq := 0, desc := [] }, fe := 1, ctx := 3, comp := false, cmd := 0x5000, words := 7 })] } })
     1 ({ job := { ring := 7, seq := 0, desc := [] }, fe := 1, ctx := 3, comp := false, cmd := 0x5000, words := 7 }) ([0x30502, 8, 9])) :=
  ⟨by decide +kernel,
   by decide +kernel,
   by decide +kernel,
   by decide +kernel,
   by decide +kernel,
   by refine ⟨?_, ?_, ?_, ?_, ?_⟩ <;> decide +kernel,
   by refine ⟨?_, ?_, ?_⟩ <;> decide +kernel,
   by refine ⟨?_, ?_⟩ <;> decide +kernel,
   by refine ⟨?_, ?_⟩ <;> decide +kernel,
   by refine ⟨?_, ?_⟩ <;> decide +kernel,
   by refine ⟨?_, ?_⟩ <;> decide +kernel,
   by refine ⟨?_, ?_⟩ <;> decide +kernel⟩

theorem wit_GraphicsWorkPackets :
    ((fun (s : State) (e : Fin 2) (r : GfxRun) (w : List Nat) (fx : GfxFx) (a : Addr) (d : List Byte) => (packetAt s e.val 3 1 r w = true) ∧
     (r.pass = true ∧ r.bound = true ∧ fx.match_ = true) ∧ (fx.reads = [] ∧ fx.writes = [(a, d)] ∧ (afterPacket s r w).memFault (s.gfxReq r)
     true a.toNat d.length = none)) (st [(GFX.CTX_STAT.owner, 0xFE, 0, 0, 3)]
     { dram := [(0x5000, 3), (0x5001, 1), (0x5002, 5)], gfx := { cur := [(1, some { job := { ring := 7, seq := 0, desc := [] }, fe := 1, ctx := 3, comp := false, cmd := 0x5000, words := 7, pass := true, bound := true })] } })
     1
     ({ job := { ring := 7, seq := 0, desc := [] }, fe := 1, ctx := 3, comp := false, cmd := 0x5000, words := 7, pass := true, bound := true })
     ([0x50103, 0, 0, 0, 0]) (⟨true, [(5, [1, 2])], [], [(0x6000, [1, 2])], []⟩) 0x6000 ([1, 2])) ∧
    ((fun (s : State) (e : Fin 2) (r : GfxRun) (w : List Nat) (fx : GfxFx) => (packetAt s e.val 3 1 r w = true) ∧ (r.pass = false ∨ r.bound
     = false ∨ fx.match_ = false)) (st [(GFX.CTX_STAT.owner, 0xFE, 0, 0, 3)]
     { dram := [(0x5000, 3), (0x5001, 1), (0x5002, 5)], gfx := { cur := [(1, some { job := { ring := 7, seq := 0, desc := [] }, fe := 1, ctx := 3, comp := false, cmd := 0x5000, words := 7 })] } })
     1 ({ job := { ring := 7, seq := 0, desc := [] }, fe := 1, ctx := 3, comp := false, cmd := 0x5000, words := 7 }) ([0x50103, 0, 0, 0, 0])
     (⟨true, [(5, [1, 2])], [], [(0x6000, [1, 2])], []⟩)) ∧
    ((fun (s : State) (e : Fin 2) (r : GfxRun) (w : List Nat) (fx : GfxFx) (a : Addr) (d : List Byte) => (packetAt s e.val 3 2 r w = true) ∧
     (r.pass = true ∧ r.bound = true ∧ fx.match_ = true) ∧ (fx.reads = [] ∧ fx.writes = [(a, d)] ∧ (afterPacket s r w).memFault (s.gfxReq r)
     true a.toNat d.length = none)) (st [(GFX.CTX_STAT.owner, 0xFE, 0, 0, 3)]
     { dram := [(0x5000, 3), (0x5001, 2), (0x5002, 6)], gfx := { cur := [(1, some { job := { ring := 7, seq := 0, desc := [] }, fe := 1, ctx := 3, comp := false, cmd := 0x5000, words := 7, pass := true, bound := true })] } })
     1
     ({ job := { ring := 7, seq := 0, desc := [] }, fe := 1, ctx := 3, comp := false, cmd := 0x5000, words := 7, pass := true, bound := true })
     ([0x60203, 0, 0, 0, 0, 0]) (⟨true, [(5, [1, 2])], [], [(0x6000, [1, 2])], []⟩) 0x6000 ([1, 2])) ∧
    ((fun (s : State) (e : Fin 2) (r : GfxRun) (w : List Nat) (fx : GfxFx) (n : Nat) (st : Nat) (size : Nat) => (packetAt s e.val 3 3 r w =
     true) ∧ (r.pass = true ∧ r.bound = true ∧ fx.match_ = true ∧ fx.reads = [] ∧ fx.writes = []) ∧ (n = bits (wordAt w 4) 0 16 ∧ st = bits
     (wordAt w 4) 16 16 ∧ size = (if bit (wordAt w 1) 0 then 20 else 16)) ∧ (pairAt w 2 % 4 = 0 ∧ n ≠ 0 ∧ size ≤ st ∧ st % 4 = 0) ∧
     ((List.range n).findSome? (fun i => (afterPacket s r w).memFault (s.gfxReq r) false (pairAt w 2 + st * i) size) = none)) (st
     [(GFX.CTX_STAT.owner, 0xFE, 0, 0, 3)]
     { dram := [(0x5000, 3), (0x5001, 3), (0x5002, 5), (0x5009, 0x60), (0x5010, 2), (0x5012, 16)], gfx := { cur := [(1, some { job := { ring := 7, seq := 0, desc := [] }, fe := 1, ctx := 3, comp := false, cmd := 0x5000, words := 7, pass := true, bound := true })] } })
     1
     ({ job := { ring := 7, seq := 0, desc := [] }, fe := 1, ctx := 3, comp := false, cmd := 0x5000, words := 7, pass := true, bound := true })
     ([0x50303, 0, 0x6000, 0, 0x100002]) (⟨true, [(5, [1, 2])], [], [], []⟩) 2 16 16) ∧
    ((fun (s : State) (e : Fin 2) (r : GfxRun) (w : List Nat) (fx : GfxFx) (a : Addr) (d : List Byte) => (packetAt s e.val 4 1 r w = true) ∧
     ((w.drop 1).any (fun c => c == 0 || decide (65535 < c)) = false) ∧ (quietPass r fx = true ∧ fx.reads = [] ∧ fx.writes = [(a, d)] ∧
     (afterPacket s r w).memFault (s.gfxReq r) true a.toNat d.length = none)) (st [(GFX.CTX_STAT.owner, 0xFE, 0, 0, 3)]
     { dram := [(0x5000, 4), (0x5001, 1), (0x5002, 4), (0x5004, 1), (0x5008, 1), (0x500C, 1)], gfx := { cur := [(1, some { job := { ring := 7, seq := 0, desc := [] }, fe := 1, ctx := 3, comp := false, cmd := 0x5000, words := 7, pass := true, draws := 1 })] } })
     1
     ({ job := { ring := 7, seq := 0, desc := [] }, fe := 1, ctx := 3, comp := false, cmd := 0x5000, words := 7, pass := true, draws := 1 })
     ([0x40104, 1, 1, 1]) (⟨true, [(5, [1, 2])], [], [(0x6000, [1, 2])], []⟩) 0x6000 ([1, 2])) ∧
    ((fun (s : State) (e : Fin 2) (r : GfxRun) (w : List Nat) (fx : GfxFx) (a : Nat) => (packetAt s e.val 4 2 r w = true ∧ quietPass r fx =
     true ∧ fx.reads = [] ∧ fx.writes = []) ∧ (a = pairAt w 1 ∧ a % 4 = 0 ∧ (afterPacket s r w).memFault (s.gfxReq r) false a 12 = none) ∧
     (s.rdMem a 4 ≤ 65535 ∧ s.rdMem (a + 4) 4 ≤ 65535 ∧ s.rdMem (a + 8) 4 ≤ 65535)) (st [(GFX.CTX_STAT.owner, 0xFE, 0, 0, 3)]
     { ctr := [], dram := [(0x5000, 4), (0x5001, 2), (0x5002, 3), (0x5005, 0x60), (0x6000, 1), (0x6004, 1), (0x6008, 1)], gfx := { cur := [(1, some { job := { ring := 7, seq := 0, desc := [] }, fe := 1, ctx := 3, comp := false, cmd := 0x5000, words := 7, pass := true, draws := 1 })] } })
     1
     ({ job := { ring := 7, seq := 0, desc := [] }, fe := 1, ctx := 3, comp := false, cmd := 0x5000, words := 7, pass := true, draws := 1 })
     ([0x30204, 0x6000, 0]) (⟨true, [(5, [1, 2])], [], [], []⟩) 0x6000) ∧
    ((fun (s : State) (e : Fin 2) (r : GfxRun) (w : List Nat) => (packetAt s e.val 5 0 r w = true) ∧ (r.pass = false) ∧ (r.dirty = [])) (st
     [(GFX.CTX_STAT.owner, 0xFE, 0, 0, 3)]
     { dram := [(0x5000, 5), (0x5002, 1)], gfx := { cur := [(1, some { job := { ring := 7, seq := 0, desc := [] }, fe := 1, ctx := 3, comp := false, cmd := 0x5000, words := 7 })] } })
     1 ({ job := { ring := 7, seq := 0, desc := [] }, fe := 1, ctx := 3, comp := false, cmd := 0x5000, words := 7 }) [0x10005]) ∧
    ((fun (s : State) (e : Fin 2) (r : GfxRun) (w : List Nat) (a : Nat) (h : Bool) (d : List Byte) => (packetAt s e.val 5 0 r w = true) ∧
     (r.pass = false) ∧ (r.dirty = [(a, h, d)]) ∧ ((afterPacket s r w).memFault { s.gfxReq r with hint := h } true a d.length = none)) (st
     [(GFX.CTX_STAT.owner, 0xFE, 0, 0, 3)]
     { dram := [(0x5000, 5), (0x5002, 1)], gfx := { cur := [(1, some { job := { ring := 7, seq := 0, desc := [] }, fe := 1, ctx := 3, comp := false, cmd := 0x5000, words := 7, dirty := [(0x6000, true, [1, 2])] })] } })
     1
     ({ job := { ring := 7, seq := 0, desc := [] }, fe := 1, ctx := 3, comp := false, cmd := 0x5000, words := 7, dirty := [(0x6000, true, [1, 2])] })
     [0x10005] 0x6000 true ([1, 2])) :=
  ⟨by refine ⟨?_, ?_, ?_⟩ <;> decide +kernel,
   by refine ⟨?_, ?_⟩ <;> decide +kernel,
   by refine ⟨?_, ?_, ?_⟩ <;> decide +kernel,
   by refine ⟨?_, ?_, ?_, ?_, ?_⟩ <;> decide +kernel,
   by refine ⟨?_, ?_, ?_⟩ <;> decide +kernel,
   by refine ⟨?_, ?_, ?_⟩ <;> decide +kernel,
   by refine ⟨?_, ?_, ?_⟩ <;> decide +kernel,
   by refine ⟨?_, ?_, ?_, ?_⟩ <;> decide +kernel⟩

theorem wit_GraphicsSyncAndJobs :
    ((fun (s : State) (e : Fin 2) (r : GfxRun) (w : List Nat) (f : Nat) => (packetAt s e.val 5 1 r w = true) ∧ (f = bits (wordAt w 1) 0 16 ∧
     f % 1024 < s.fenceSlots (f / 1024)) ∧ ((afterPacket s r w).memFault (s.gfxReq r) true (s.fenceAddr f) 8 = none) ∧ (r.dirty = [])) (st
     [(GFX.CTX_STAT.owner, 0xFE, 0, 0, 3), (RSCHED.FENCE_SLOTS.slots, 8, 0, 0, 0), (RSCHED.FENCE_BASE.addr, 9, 0, 0, 0)]
     { dram := [(0x5000, 5), (0x5001, 1), (0x5002, 4), (0x5004, 2), (0x5008, 7)], gfx := { cur := [(1, some { job := { ring := 7, seq := 0, desc := [] }, fe := 1, ctx := 3, comp := false, cmd := 0x5000, words := 7 })] } })
     1 ({ job := { ring := 7, seq := 0, desc := [] }, fe := 1, ctx := 3, comp := false, cmd := 0x5000, words := 7 }) ([0x40105, 2, 7, 0]) 2) ∧
    ((fun (s : State) (e : Fin 2) (r : GfxRun) (w : List Nat) (f : Nat) => (packetAt s e.val 5 2 r w = true ∧ r.pass = false ∧ s.waitOf
     r.ctx = none ∧ s.waitCount < 4096) ∧ (f = bits (wordAt w 1) 0 16 ∧ f % 1024 < s.fenceSlots (f / 1024) ∧ mget s.rings.aband (f / 1024) 0
     = 0) ∧ ((afterPacket s r w).memFault (reqFor (s.gfxReq r).id portDevice false) false (s.fenceAddr f) 8 = none) ∧ (pairAt w 2 ≤ s.rdMem
     (s.fenceAddr f) 8)) (st [(GFX.CTX_STAT.owner, 0xFE, 0, 0, 3), (RSCHED.FENCE_SLOTS.slots, 8, 0, 0, 0), (RSCHED.FENCE_BASE.addr, 9, 0, 0,
     0)]
     { dram := [(0x5000, 5), (0x5001, 2), (0x5002, 4), (0x5004, 2), (0x5008, 7), (0x9010, 7)], gfx := { cur := [(1, some { job := { ring := 7, seq := 0, desc := [] }, fe := 1, ctx := 3, comp := false, cmd := 0x5000, words := 7 })] } })
     1 ({ job := { ring := 7, seq := 0, desc := [] }, fe := 1, ctx := 3, comp := false, cmd := 0x5000, words := 7 }) ([0x40205, 2, 7, 0]) 2) ∧
    ((fun (s : State) (e : Fin 2) (r : GfxRun) (w : List Nat) (f : Nat) => (packetAt s e.val 5 2 r w = true ∧ r.pass = false ∧ s.waitOf
     r.ctx = none ∧ s.waitCount < 4096) ∧ (f = bits (wordAt w 1) 0 16 ∧ f % 1024 < s.fenceSlots (f / 1024) ∧ mget s.rings.aband (f / 1024) 0
     = 0) ∧ ((afterPacket s r w).memFault (reqFor (s.gfxReq r).id portDevice false) false (s.fenceAddr f) 8 = none) ∧ (s.rdMem (s.fenceAddr
     f) 8 < pairAt w 2) ∧ ((s.gfx.held.filter (fun y => y.fe == e.val && y.phase == 2)).length < 8)) (st [(GFX.CTX_STAT.owner, 0xFE, 0, 0,
     3), (RSCHED.FENCE_SLOTS.slots, 8, 0, 0, 0), (RSCHED.FENCE_BASE.addr, 9, 0, 0, 0)]
     { dram := [(0x5000, 5), (0x5001, 2), (0x5002, 4), (0x5004, 2), (0x5008, 7), (0x9010, 6)], gfx := { cur := [(1, some { job := { ring := 7, seq := 0, desc := [] }, fe := 1, ctx := 3, comp := false, cmd := 0x5000, words := 7 })] } })
     1 ({ job := { ring := 7, seq := 0, desc := [] }, fe := 1, ctx := 3, comp := false, cmd := 0x5000, words := 7 }) ([0x40205, 2, 7, 0]) 2) ∧
    ((fun (s : State) (e : Fin 2) (r : GfxRun) (w : List Nat) (a : Nat) => (packetAt s e.val 6 0 r w = true) ∧ (a = pairAt w 1 ∧ a % 8 = 0 ∧
     a < 2 ^ 40) ∧ ((afterPacket s r w).memFault (s.gfxReq r) true a 8 = none ∧ s.now < 2 ^ 64)) (st [(GFX.CTX_STAT.owner, 0xFE, 0, 0, 3)]
     { time := { tick := 99 }, dram := [(0x5000, 6), (0x5002, 3), (0x5005, 0x60)], gfx := { cur := [(1, some { job := { ring := 7, seq := 0, desc := [] }, fe := 1, ctx := 3, comp := false, cmd := 0x5000, words := 7 })] } })
     1 ({ job := { ring := 7, seq := 0, desc := [] }, fe := 1, ctx := 3, comp := false, cmd := 0x5000, words := 7 }) ([0x30006, 0x6000, 0])
     0x6000) ∧
    ((fun (s : State) (e : Fin 2) (r : GfxRun) (w : List Nat) (a : Nat) => (packetAt s e.val 6 1 r w = true) ∧ (a = pairAt w 1 ∧ a % 8 = 0 ∧
     a < 2 ^ 40) ∧ ((afterPacket s r w).memFault (s.gfxReq r) true a 8 = none ∧ s.now < 2 ^ 64)) (st [(GFX.CTX_STAT.owner, 0xFE, 0, 0, 3)]
     { time := { tick := 99 }, dram := [(0x5000, 6), (0x5001, 1), (0x5002, 3), (0x5005, 0x60)], gfx := { cur := [(1, some { job := { ring := 7, seq := 0, desc := [] }, fe := 1, ctx := 3, comp := false, cmd := 0x5000, words := 7 })] } })
     1 ({ job := { ring := 7, seq := 0, desc := [] }, fe := 1, ctx := 3, comp := false, cmd := 0x5000, words := 7 }) ([0x30106, 0x6000, 0])
     0x6000) ∧
    ((fun (s : State) (e : Fin 2) (r : GfxRun) (fx : GfxFx) => (s.gfxCur e.val = some r ∧ r.fe = e.val ∧ r.phase = 0 ∧ r.words ≤ r.pc) ∧
     (quietPass r fx = true ∧ r.dirty = [] ∧ bit (field r.job.desc 0 4) 9 = false))
     ({ gfx := { cur := [(1, some { job := { ring := 7, seq := 0, desc := [] }, fe := 1, ctx := 3, comp := false, cmd := 0x5000, words := 7, pc := 7 })] } })
     1 ({ job := { ring := 7, seq := 0, desc := [] }, fe := 1, ctx := 3, comp := false, cmd := 0x5000, words := 7, pc := 7 }) (⟨true, [(5,
     [1, 2])], [], [], []⟩)) ∧
    ((fun (s : State) (e : Fin 2) (j : Job) (c : Nat) => (s.job 0 e.val = some j) ∧ (s.submissionOk (instRid (ringInst j.ring)) j.desc
     (s.ownCtx (instRid (ringInst j.ring))).length = true) ∧ ((s.ownCtx (instRid (ringInst j.ring))).getD (bits (field j.desc 0 4) 0 6) 0 =
     c ∧ s.ctxState c = 1 ∧ s.compActive = false)) (st [(GFX.CTX_STAT.owner, 0xFE, 0, 0, 3), (GFX.CTX_STAT.state, 1, 0, 0, 3)]
     { rings := { jobs := [(1, some { ring := 7, seq := 0, desc := [0, 0, 0, 0, 2] })] } }) 1
     ({ ring := 7, seq := 0, desc := [0, 0, 0, 0, 2] }) 3) ∧
    ((fun (s : State) (e : Fin 2) (j : Job) => (s.job 0 e.val = some j) ∧ (s.submissionOk (instRid (ringInst j.ring)) j.desc (s.ownCtx
     (instRid (ringInst j.ring))).length = false)) (st [(GFX.CTX_STAT.owner, 0xFE, 0, 0, 3)]
     { rings := { jobs := [(1, some { ring := 7, seq := 0, desc := [] })] } }) 1 ({ ring := 7, seq := 0, desc := [] })) ∧
    ((fun (s : State) (e : Fin 2) (us : Nat) (r : Nat) (k : BitVec 2) => (s.compReady e.val = some r) ∧ (s.compActive = false ∧ s.job 0
     e.val = none)) (st [(GFX.CTX_STAT.owner, 0xFE, 0, 0, 3), (GFX.CTX_STAT.state, 1, 0, 0, 3), f0 GFX.COMP_CTX.valid 1, f0 GFX.COMP_CTX.ctx
     3]
     { rings := { ctx := [(7, { st := 2, enable := true, type := 1, cls := 0, engine := 1, tail := 2, waitMet := true, pre := [(0, 0, [0, 0, 0, 0, 2])] })] }, gfx := { cur := [(0, some { job := { ring := 7, seq := 0, desc := [] }, fe := 0, ctx := 2, comp := false, cmd := 0x5000, words := 7, pc := 7 })] } })
     1 200 7 0) ∧
    ((fun (s : State) (e : Fin 2) (us : Nat) (r : GfxRun) => (s.gfxCur e.val = some r ∧ r.fe = e.val ∧ r.phase = 0 ∧ r.comp = false) ∧ ([0,
     1].any (fun k => (s.compReady k).isSome) = true) ∧ (s.killUs ≤ us)) (st [(GFX.CTX_STAT.owner, 0xFE, 0, 0, 3), (GFX.CTX_STAT.state, 1,
     0, 0, 3), f0 GFX.COMP_CTX.valid 1, f0 GFX.COMP_CTX.ctx 3]
     { rings := { ctx := [(7, { st := 2, enable := true, type := 1, cls := 0, engine := 1, tail := 2, waitMet := true, pre := [(0, 0, [0, 0, 0, 0, 2])] })] }, gfx := { cur := [(0, some { job := { ring := 7, seq := 0, desc := [] }, fe := 0, ctx := 2, comp := false, cmd := 0x5000, words := 7, pc := 7 })] } })
     0 3000 ({ job := { ring := 7, seq := 0, desc := [] }, fe := 0, ctx := 2, comp := false, cmd := 0x5000, words := 7, pc := 7 })) ∧
    ((fun (s : State) (e : Fin 2) (r : GfxRun) => (s.gfxCur e.val = some r ∧ r.fe = e.val ∧ r.phase = 0) ∧ (max 1 (s.rd GFX.JOB_LIMIT.ms) *
     1000000 < r.ranNs s.now))
     ({ gfx := { cur := [(1, some { job := { ring := 7, seq := 0, desc := [] }, fe := 1, ctx := 3, comp := false, cmd := 0x5000, words := 7, pc := 7 })] }, time := { tick := 400000000 } })
     1 ({ job := { ring := 7, seq := 0, desc := [] }, fe := 1, ctx := 3, comp := false, cmd := 0x5000, words := 7, pc := 7 })) ∧
    ((fun (s : State) (e : Fin 2) (r : GfxRun) (c : Fin 7) (code : BitVec 16) (a : Addr) => (s.gfxCur e.val = some r ∧ r.fe = e.val ∧
     r.phase = 0) ∧ (c ≠ 0))
     ({ gfx := { cur := [(1, some { job := { ring := 7, seq := 0, desc := [] }, fe := 1, ctx := 3, comp := false, cmd := 0x5000, words := 7, pc := 7 })] } })
     1 ({ job := { ring := 7, seq := 0, desc := [] }, fe := 1, ctx := 3, comp := false, cmd := 0x5000, words := 7, pc := 7 }) 3 5 6) :=
  ⟨by refine ⟨?_, ?_, ?_, ?_⟩ <;> decide +kernel,
   by refine ⟨?_, ?_, ?_, ?_⟩ <;> decide +kernel,
   by refine ⟨?_, ?_, ?_, ?_, ?_⟩ <;> decide +kernel,
   by refine ⟨?_, ?_, ?_⟩ <;> decide +kernel,
   by refine ⟨?_, ?_, ?_⟩ <;> decide +kernel,
   by refine ⟨?_, ?_⟩ <;> decide +kernel,
   by refine ⟨?_, ?_, ?_⟩ <;> decide +kernel,
   by refine ⟨?_, ?_⟩ <;> decide +kernel,
   by refine ⟨?_, ?_⟩ <;> decide +kernel,
   by refine ⟨?_, ?_, ?_⟩ <;> decide +kernel,
   by refine ⟨?_, ?_⟩ <;> decide +kernel,
   by refine ⟨?_, ?_⟩ <;> decide +kernel⟩

theorem wit_CommitPacketsAndBanks :
    ((fun (s : State) (n : Fin 4) (j : Job) (h : Nat) (rs : List (List Byte)) => (s.job 1 n.val = some j ∧ headerOk j.desc = true ∧ h = 2 *
     n.val + bits (field j.desc 0 4) 4 1) ∧ (s.memFault (reqFor (s.ringRid j.ring) (portComp n.val)) false (field j.desc 8 8) (64 * bits
     (field j.desc 0 4) 8 5) = none) ∧ (rs = (List.range (bits (field j.desc 0 4) 8 5)).map (fun i => s.rdBytes (field j.desc 8 8 + 64 * i)
     64)) ∧ ((s.setJob 1 n.val none).packetFault (ringInst j.ring) h rs = none ∧ rs.all (fun r => !lWait r) = true) ∧ ((List.range 16).all
     (fun i => (s.waitOf (4096 + 16 * s.comp.nextId + i)).isNone) = true))
     ({ dram := [(0x5000, 2)], rings := { jobs := [(1 * 16 + 1, some { ring := 9, seq := 4, desc := [1, 1, 0, 0, 0, 0, 0, 0, 0, 0x50] ++ List.replicate 54 0 })] } })
     1 ({ ring := 9, seq := 4, desc := [1, 1, 0, 0, 0, 0, 0, 0, 0, 0x50] ++ List.replicate 54 0 }) 2 ([2 :: List.replicate 63 0])) ∧
    ((fun (s : State) (n : Fin 4) (j : Job) => (s.job 1 n.val = some j ∧ headerOk j.desc = false) ∧ (s.comp.ends = [] ∧ (s.openPackets
     n.val).all (fun p => decide (s.comp.nextId ≤ p.id)) = true))
     ({ dram := [(0x5000, 2)], rings := { jobs := [(1 * 16 + 1, some { ring := 9, seq := 4, desc := [2, 1, 0, 0, 0, 0, 0, 0, 0, 0x50] ++ List.replicate 54 0 })] } })
     1 ({ ring := 9, seq := 4, desc := [2, 1, 0, 0, 0, 0, 0, 0, 0, 0x50] ++ List.replicate 54 0 })) ∧
    ((fun (s : State) (n : Fin 4) (j : Job) (rs : List (List Byte)) (c : Nat) (i : Nat) => (s.job 1 n.val = some j ∧ headerOk j.desc = true)
     ∧ (s.memFault (reqFor (s.ringRid j.ring) (portComp n.val)) false (field j.desc 8 8) (64 * bits (field j.desc 0 4) 8 5) = none) ∧ (rs =
     (List.range (bits (field j.desc 0 4) 8 5)).map (fun i => s.rdBytes (field j.desc 8 8 + 64 * i) 64)) ∧ ((s.setJob 1 n.val
     none).packetFault (ringInst j.ring) (2 * n.val + bits (field j.desc 0 4) 4 1) rs = some (c, i)) ∧ (s.comp.ends = [] ∧ (s.openPackets
     n.val).all (fun p => decide (s.comp.nextId ≤ p.id)) = true))
     ({ dram := [(0x5000, 2), (0x5002, 0x10)], rings := { jobs := [(1 * 16 + 1, some { ring := 9, seq := 4, desc := [1, 1, 0, 0, 0, 0, 0, 0, 0, 0x50] ++ List.replicate 54 0 })] } })
     1 ({ ring := 9, seq := 4, desc := [1, 1, 0, 0, 0, 0, 0, 0, 0, 0x50] ++ List.replicate 54 0 }) ([2 :: 0 :: 0x10 :: List.replicate 61 0])
     Code.COMP_BAD_PACKET 0) ∧
    ((fun (s : State) (h : Fin 8) (p : Packet) (r : List Byte) (l : Nat) => (s.on (HDR.enable .head) h.val = false ∧ s.rd
     HEAD.HEAD_STAT.state h.val = 0 ∧ s.compOn (engOf h.val) = true ∧ s.on (HDR.pending .comp) (engOf h.val) = false) ∧ (s.pend h.val = [p]
     ∧ p.recs = [r] ∧ l = lLayer r ∧ lEnable r = true ∧ s.waitOf (4096 + p.id * 16) = none)) (st [(HDR.enable .head, 0, 3, 0, 0),
     (HDR.enable .comp, 1, 1, 0, 0)] { comp := { pend := [(3, [⟨2, 5, 6, List.replicate 64 0, 3, [0x12 :: List.replicate 63 0]⟩])] } }) 3
     (⟨2, 5, 6, List.replicate 64 0, 3, [0x12 :: List.replicate 63 0]⟩) (0x12 :: List.replicate 63 0) 2) ∧
    ((fun (s : State) (h : Fin 8) => s.on (HDR.enable .head) h.val = true ∨ s.rd HEAD.HEAD_STAT.state h.val ≠ 0) (st [(HDR.enable .head, 1,
     3, 0, 0)] {}) 3) ∧
    ((fun (s : State) (w : Who) (n : Fin 4) (v : Word) (k : Nat) => (accepts s w .comp n.val 0x148 v.toNat = true) ∧ (k = s.rd
     COMP.LAYER_SEL.layer n.val ∧ bit v.toNat 31 = true)) (st [(COMP.LAYER_SEL.layer, 17, 1, 0, 0)] {}) .mgr 1 0x80001234 17) ∧
    ((fun (s : State) (w : Who) (n : Fin 4) (v : Word) => (accepts s w .comp n.val 0x134 v.toNat = true) ∧ (bit (s.rd COMP.COEF_USE.banks
     n.val) (s.rd COMP.COEF_SEL.bank n.val) = false)) (st [(COMP.COEF_SEL.bank, 2, 1, 0, 0), (COMP.COEF_SEL.word, 3, 1, 0, 0)] {}) .mgr 1
     0x0120034) ∧
    ((fun (s : State) (w : Who) (n : Fin 4) (v : Word) => (accepts s w .comp n.val 0x134 v.toNat = true) ∧ (bit (s.rd COMP.COEF_USE.banks
     n.val) (s.rd COMP.COEF_SEL.bank n.val) = true)) (st [(COMP.COEF_SEL.bank, 2, 1, 0, 0), (COMP.COEF_USE.banks, 4, 1, 0, 0)] {}) .mgr 1
     0x0120034) ∧
    ((fun (s : State) (h : Fin 8) (o : Nat) (i : Nat) (n : Nat) (j : Nat) (f : Nat) (w : Nat) => ((s.wb h.val).busy = true ∧ n = engOf h.val
     ∧ j = h.val % 2) ∧ (o = s.rd COMP.WB_CTRL.owner n j ∧ i = (if o = 0xFE then 0 else o) ∧ f = i * 1024 + s.rd COMP.WB_FENCE.signal_slot n
     j ∧ w = s.rd COMP.WB_SEQ.w n j + 1) ∧ (i < 64 ∧ s.rd COMP.WB_FENCE.signal_slot n j < s.fenceSlots i ∧ s.memFault (reqFor (instRid i)
     portWb) true (s.fenceAddr f) 8 = none)) (st [(RSCHED.FENCE_SLOTS.slots, 8, 0, 0, 0), (RSCHED.FENCE_BASE.addr, 9, 0, 0, 0),
     (COMP.WB_FENCE.signal_slot, 2, 1, 1, 0), (COMP.WB_SEQ.w, 6, 1, 1, 0)] { comp := { wb := [(3, { busy := true })] } }) 3 0xFE 0 1 1 2 7) ∧
    ((fun (s : State) (h : Fin 8) => (s.wb h.val).busy = false) {} 3) :=
  ⟨by refine ⟨?_, ?_, ?_, ?_, ?_⟩ <;> decide +kernel,
   by refine ⟨?_, ?_⟩ <;> decide +kernel,
   by refine ⟨?_, ?_, ?_, ?_, ?_⟩ <;> decide +kernel,
   by refine ⟨?_, ?_⟩ <;> decide +kernel,
   by decide +kernel,
   by refine ⟨?_, ?_⟩ <;> decide +kernel,
   by refine ⟨?_, ?_⟩ <;> decide +kernel,
   by refine ⟨?_, ?_⟩ <;> decide +kernel,
   by refine ⟨?_, ?_, ?_⟩ <;> decide +kernel,
   by decide +kernel⟩

theorem wit_ComposedFrames :
    ((fun (s : State) (h : Fin 8) => (mget s.comp.busy h.val 0 ≠ 0) ∧ (s.compOn (engOf h.val) = true)) (st [(HDR.enable .comp, 1, 1, 0, 0),
     (HEAD.TIM_H.hact, 2, 3, 0, 0), (HEAD.TIM_V.vact, 2, 3, 0, 0), (COMP.WB_CTRL.enable, 0, 1, 1, 0)] { comp := { busy := [(3, 1)] } }) 3) ∧
    ((fun (s : State) (h : Fin 8) (x : Nat) (y : Nat) => (mget s.comp.busy h.val 0 ≠ 0 ∧ s.on COMP.WB_CTRL.enable (engOf h.val) (h.val % 2)
     = false) ∧ ((List.range 16).all (fun l => !(s.layer h.val l).enabled) = true) ∧ (x < (s.compArea h.val).1 ∧ y < (s.compArea h.val).2) ∧
     (s.compOn (engOf h.val) = true)) (st [(HDR.enable .comp, 1, 1, 0, 0), (HEAD.TIM_H.hact, 2, 3, 0, 0), (HEAD.TIM_V.vact, 2, 3, 0, 0),
     (COMP.WB_CTRL.enable, 0, 1, 1, 0), (COMP.BG.colour, 0x12345678, 1, 1, 0)] { comp := { busy := [(3, 1)] } }) 3 1 1) ∧
    ((fun (s : State) (h : Fin 8) => mget s.comp.busy h.val 0 = 0) {} 3) ∧
    ((fun (s : State) (h : Fin 8) (l : Fin 16) (code : BitVec 16) (addr : Addr) => (mget s.comp.busy h.val 0 ≠ 0 ∧ (s.layer h.val
     l.val).enabled = true ∧ (s.layer h.val l.val).subst = none ∧ mget s.comp.fetchBad (lkey h.val l.val) 0 = 0) ∧ (s.compOn (engOf h.val) =
     true)) (st [(HDR.enable .comp, 1, 1, 0, 0)] { comp := { busy := [(3, 1)], layers := [(3 * 16 + 5, ⟨[], true, none⟩)] } }) 3 5 0x201
     0x5000) ∧
    ((fun (s : State) (h : Fin 8) (l : Fin 16) (code : BitVec 16) (addr : Addr) => (s.layer h.val l.val).enabled = false ∨ (s.layer h.val
     l.val).subst ≠ none) ({ comp := { busy := [(3, 1)] } }) 3 5 0x201 0x5000) ∧
    ((fun (s : State) (n : Nat) (x : Nat) (y : Nat) (l : Layer) (d : Nat × Nat × Nat) => l.enabled = false ∨ inDst l.raw x y = none) {} 1 2
     3 {} ((1, 2, 3))) ∧
    ((fun (s : State) (n : Nat) (x : Nat) (y : Nat) (c : Nat) (l : Layer) (d : Nat × Nat × Nat) (p : Nat × Nat × Nat) (i : Nat × Nat) =>
     l.enabled = true ∧ inDst l.raw x y = some i ∧ l.subst = some c ∧ p = colour30 c) {} 1 2 3 0x12345678 (⟨List.replicate 0x28 0 ++ [8, 0,
     8, 0] ++ List.replicate 20 0, true, some 0x12345678⟩) ((1, 2, 3)) (colour30 0x12345678) ((2, 3))) ∧
    ((fun (s : State) (h : Fin 8) => s.compOn (engOf h.val) = false) (st [(HDR.enable .comp, 0, 1, 0, 0)] { comp := { busy := [(3, 1)] } })
     3) ∧
    ((fun (s : State) (h : Fin 8) (l : Fin 16) (code : BitVec 16) (addr : Addr) => s.compOn (engOf h.val) = false) (st [(HDR.enable .comp,
     0, 1, 0, 0)] { comp := { busy := [(3, 1)] } }) 3 5 0x201 0x5000) :=
  ⟨by refine ⟨?_, ?_⟩ <;> decide +kernel,
   by refine ⟨?_, ?_, ?_, ?_⟩ <;> decide +kernel,
   by decide +kernel,
   by refine ⟨?_, ?_⟩ <;> decide +kernel,
   by decide +kernel,
   by decide +kernel,
   by decide +kernel,
   by decide +kernel,
   by decide +kernel⟩

theorem wit_BasinGranulesAndWords :
    ((fun (s : State) (w : Who) (h : Fin 8) (v : Word) => (accepts s w .basin 0 (0x100 + 4 * h.val) v.toNat = true) ∧ (w ≠ .boot ∨ s.on
     (HDR.enable .head) h.val = false) ∧ (s.granBad h.val (bits v.toNat 0 8) (bits v.toNat 8 9) true = false)) (st [(HDR.enable .head, 0, 3,
     0, 0), (BASIN.GRAN.count, 0, 0, 0, 0), (BASIN.GRAN.count, 0, 0, 1, 0), (BASIN.GRAN.count, 0, 0, 2, 0), (BASIN.GRAN.count, 0, 0, 4, 0),
     (BASIN.GRAN.count, 0, 0, 5, 0), (BASIN.GRAN.count, 0, 0, 6, 0), (BASIN.GRAN.count, 0, 0, 7, 0)] {}) .mgr 3 0x2010) ∧
    ((fun (s : State) (w : Who) (h : Fin 8) (v : Word) => (accepts s w .basin 0 (0x100 + 4 * h.val) v.toNat = true) ∧ (w ≠ .boot ∨ s.on
     (HDR.enable .head) h.val = false) ∧ (s.granBad h.val (bits v.toNat 0 8) (bits v.toNat 8 9) true = true)) {} .mgr 3 0x2110) ∧
    ((fun (s : State) (h : Fin 8) (v : Word) => (accepts s .boot .basin 0 (0x100 + 4 * h.val) v.toNat = true) ∧ (s.on (HDR.enable .head)
     h.val = true ∧ bits v.toNat 8 9 < granNeed (s.head h.val).area)) (st [(HDR.enable .head, 1, 3, 0, 0)]
     { heads := [(3, { area := (640, 480) })] }) 3 0x0210) ∧
    ((fun (s : State) (h : Fin 8) (word : BitVec 25) => (s.inFront h.val word.toNat = true) ∧ (s.bufHeads word.toNat = 2 ^ h.val)) (st
     [(HEAD.HEAD_STAT.state, 2, 3, 0, 0), (HEAD.TIM_H.hact, 640, 3, 0, 0), (HEAD.TIM_V.vact, 480, 3, 0, 0), (BASIN.GRAN.base, 0, 0, 3, 0),
     (BASIN.GRAN.count, 4, 0, 3, 0), (BASIN.GRAN.count, 0, 0, 0, 0), (BASIN.GRAN.count, 0, 0, 1, 0), (BASIN.GRAN.count, 0, 0, 2, 0),
     (BASIN.GRAN.count, 0, 0, 4, 0), (BASIN.GRAN.count, 0, 0, 5, 0), (BASIN.GRAN.count, 0, 0, 6, 0), (BASIN.GRAN.count, 0, 0, 7, 0)] {}) 3 5) ∧
    ((fun (s : State) (h : Fin 8) (word : BitVec 25) => s.inFront h.val word.toNat = true) (st [(HEAD.HEAD_STAT.state, 2, 3, 0, 0),
     (HEAD.TIM_H.hact, 640, 3, 0, 0), (HEAD.TIM_V.vact, 480, 3, 0, 0), (BASIN.GRAN.base, 0, 0, 3, 0)] {}) 3 5) ∧
    ((fun (s : State) (h : Fin 8) (word : BitVec 25) (ue : Bool) => s.inFront h.val word.toNat = false) {} 3 5 true) ∧
    ((fun (s : State) (off : BitVec 28) (d : List Byte) => winSizeOk off.toNat d.length = true) {} 0x104 ([1, 2, 3, 4])) ∧
    ((fun (s : State) (off : BitVec 28) (n : Nat) => winSizeOk off.toNat n = true) ({ basin := [(0x105, 7)] }) 0x104 4) :=
  ⟨by refine ⟨?_, ?_, ?_⟩ <;> decide +kernel,
   by refine ⟨?_, ?_, ?_⟩ <;> decide +kernel,
   by refine ⟨?_, ?_⟩ <;> decide +kernel,
   by refine ⟨?_, ?_⟩ <;> decide +kernel,
   by decide +kernel,
   by decide +kernel,
   by decide +kernel,
   by decide +kernel⟩

theorem wit_HeadEnabling :
    ((fun (s : State) (w : Who) (h : Fin 8) => (accepts s w .head h.val 0x008 1 = true) ∧ (s.on (HDR.enable .head) h.val = false ∧ s.rd
     HEAD.HEAD_STAT.state h.val ≠ 2) ∧ (timingBad (s.hv h.val) h.val = none ∧ s.need h.val ≤ s.rd BASIN.GRAN.count 0 h.val) ∧ (s.glintOn
     h.val = false)) (st [(HDR.enable .head, 0, 3, 0, 0), (HEAD.TIM_H.hact, 640, 3, 0, 0), (HEAD.TIM_H.hfp, 16, 3, 0, 0),
     (HEAD.TIM_HS.hsync, 96, 3, 0, 0), (HEAD.TIM_HS.hbp, 48, 3, 0, 0), (HEAD.TIM_V.vact, 480, 3, 0, 0), (HEAD.TIM_V.vfp, 10, 3, 0, 0),
     (HEAD.TIM_VS.vsync, 2, 3, 0, 0), (HEAD.TIM_VS.vbp, 33, 3, 0, 0), (HEAD.PLL_INT.n, 105, 3, 0, 0), (HEAD.PLL_INT.m, 0, 3, 0, 0),
     (HEAD.PLL_INT.p, 160, 3, 0, 0), (HEAD.PLL_FRAC.f, 0, 3, 0, 0), (BASIN.GRAN.count, 4, 0, 3, 0)] {}) .mgr 3) ∧
    ((fun (s : State) (w : Who) (h : Fin 8) => (accepts s w .head h.val 0x008 1 = true) ∧ (s.on (HDR.enable .head) h.val = false ∧ s.rd
     HEAD.HEAD_STAT.state h.val ≠ 2) ∧ (timingBad (s.hv h.val) h.val ≠ none)) (st [(HDR.enable .head, 0, 3, 0, 0), (HEAD.TIM_H.hact, 641, 3,
     0, 0)] {}) .mgr 3) ∧
    ((fun (s : State) (w : Who) (h : Fin 8) => (accepts s w .head h.val 0x008 1 = true) ∧ (s.on (HDR.enable .head) h.val = false ∧ s.rd
     HEAD.HEAD_STAT.state h.val ≠ 2) ∧ (timingBad (s.hv h.val) h.val = none ∧ s.rd BASIN.GRAN.count 0 h.val < s.need h.val)) (st
     [(HDR.enable .head, 0, 3, 0, 0), (HEAD.TIM_H.hact, 640, 3, 0, 0), (HEAD.TIM_H.hfp, 16, 3, 0, 0), (HEAD.TIM_HS.hsync, 96, 3, 0, 0),
     (HEAD.TIM_HS.hbp, 48, 3, 0, 0), (HEAD.TIM_V.vact, 480, 3, 0, 0), (HEAD.TIM_V.vfp, 10, 3, 0, 0), (HEAD.TIM_VS.vsync, 2, 3, 0, 0),
     (HEAD.TIM_VS.vbp, 33, 3, 0, 0), (HEAD.PLL_INT.n, 105, 3, 0, 0), (HEAD.PLL_INT.m, 0, 3, 0, 0), (HEAD.PLL_INT.p, 160, 3, 0, 0),
     (HEAD.PLL_FRAC.f, 0, 3, 0, 0), (BASIN.GRAN.count, 2, 0, 3, 0)] {}) .mgr 3) ∧
    ((fun (s : State) (h : Fin 8) => s.rd HEAD.HEAD_STAT.state h.val = 1 ∧ s.pwr.osc = true) (st [(HEAD.HEAD_STAT.state, 1, 3, 0, 0)]
     { pwr := { osc := true } }) 3) ∧
    ((fun (s : State) (h : Fin 8) => s.rd HEAD.HEAD_STAT.state h.val ≠ 1) {} 3) ∧
    ((fun (s : State) (h : Fin 8) => s.rd HEAD.HEAD_STAT.state h.val = 1) (st [(HEAD.HEAD_STAT.state, 1, 3, 0, 0)] {}) 3) ∧
    ((fun (s : State) (w : Who) (h : Fin 8) => (accepts s w .head h.val 0x008 0 = true) ∧ (s.rd HEAD.HEAD_STAT.state h.val = 1)) (st
     [(HEAD.HEAD_STAT.state, 1, 3, 0, 0), (HDR.enable .head, 1, 3, 0, 0)] {}) .mgr 3) ∧
    ((fun (s : State) (w : Who) (h : Fin 8) => (accepts s w .head h.val 0x008 0 = true) ∧ (s.rd HEAD.HEAD_STAT.state h.val ≠ 1)) (st
     [(HEAD.HEAD_STAT.state, 2, 3, 0, 0), (HDR.enable .head, 1, 3, 0, 0)] {}) .mgr 3) :=
  ⟨by refine ⟨?_, ?_, ?_, ?_⟩ <;> decide +kernel,
   by refine ⟨?_, ?_, ?_⟩ <;> decide +kernel,
   by refine ⟨?_, ?_, ?_⟩ <;> decide +kernel,
   by decide +kernel,
   by decide +kernel,
   by decide +kernel,
   by refine ⟨?_, ?_⟩ <;> decide +kernel,
   by refine ⟨?_, ?_⟩ <;> decide +kernel⟩

theorem wit_VerticalBlanking :
    ((fun (s : State) (h : Fin 8) (obs : FrameObs) => (s.rd HEAD.HEAD_STAT.state h.val = 2 ∧ s.on (HDR.enable .head) h.val = true) ∧
     (s.headClock h.val = true)) (st [(HEAD.HEAD_STAT.state, 2, 3, 0, 0), (HEAD.HEAD_STAT.pll_lock, 1, 3, 0, 0), (HDR.enable .head, 1, 3, 0,
     0)] {}) 3 (⟨true, true, true, [], 0, false⟩)) ∧
    ((fun (s : State) (h : Fin 8) (obs : FrameObs) => (s.rd HEAD.HEAD_STAT.state h.val = 2 ∧ s.on (HDR.enable .head) h.val = true) ∧
     (s.compOn (engOf h.val) = true ∧ mget s.comp.complete h.val 0 ≠ 0) ∧ (s.headClock h.val = true)) (st [(HEAD.HEAD_STAT.state, 2, 3, 0,
     0), (HEAD.HEAD_STAT.pll_lock, 1, 3, 0, 0), (HDR.enable .head, 1, 3, 0, 0), (HDR.enable .comp, 1, 1, 0, 0)]
     { comp := { complete := [(3, 1)] } }) 3 (⟨true, true, true, [], 0, false⟩)) ∧
    ((fun (s : State) (h : Fin 8) (obs : FrameObs) => (s.rd HEAD.HEAD_STAT.state h.val = 2 ∧ s.on (HDR.enable .head) h.val = true) ∧
     (s.compOn (engOf h.val) = true ∧ mget s.comp.complete h.val 0 = 0 ∧ mget s.comp.busy h.val 0 ≠ 0) ∧ (s.headClock h.val = true)) (st
     [(HEAD.HEAD_STAT.state, 2, 3, 0, 0), (HEAD.HEAD_STAT.pll_lock, 1, 3, 0, 0), (HDR.enable .head, 1, 3, 0, 0), (HDR.enable .comp, 1, 1, 0,
     0)] { comp := { busy := [(3, 1)] } }) 3 (⟨true, true, true, [], 0, false⟩)) ∧
    ((fun (s : State) (h : Fin 8) (obs : FrameObs) => (s.rd HEAD.HEAD_STAT.state h.val = 2 ∧ s.on (HDR.enable .head) h.val = false) ∧
     (s.headClock h.val = true)) (st [(HEAD.HEAD_STAT.state, 2, 3, 0, 0), (HEAD.HEAD_STAT.pll_lock, 1, 3, 0, 0), (HDR.enable .head, 0, 3, 0,
     0), (HEAD.FRAME_CNT.count, 9, 3, 0, 0)] {}) 3 (⟨true, true, true, [], 0, false⟩)) ∧
    ((fun (s : State) (h : Fin 8) (obs : FrameObs) => s.rd HEAD.HEAD_STAT.state h.val ≠ 2 ∨ s.headClock h.val = false) {} 3 (⟨true, true,
     true, [], 0, false⟩)) ∧
    ((fun (s : State) (w : Who) (v : Word) => (accepts s w .basin 0 0x144 v.toNat = true) ∧ (s.on BASIN.GRP_STAT.busy = true ∧ bits v.toNat
     0 8 ≠ 0)) (st [f0 BASIN.GRP_STAT.busy 1] {}) .mgr 0x8) ∧
    ((fun (s : State) (w : Who) (v : Word) (h : Fin 8) => (accepts s w .basin 0 0x144 v.toNat = true) ∧ (s.on BASIN.GRP_STAT.busy = false ∧
     v.toNat = 2 ^ h.val) ∧ (s.on (HDR.pending .head) h.val = false ∧ s.headSetBad h.val = none ∧ s.linkSetBad h.val = false ∧ s.running
     h.val = true)) ((st [(HEAD.HEAD_STAT.state, 2, 3, 0, 0), (HDR.enable .head, 0, 3, 0, 0)] ((((((((((((({} : State).wrSh HEAD.TIM_H.hact
     640 3).wrSh HEAD.TIM_H.hfp 16 3).wrSh HEAD.TIM_HS.hsync 96 3).wrSh HEAD.TIM_HS.hbp 48 3).wrSh HEAD.TIM_V.vact 480 3).wrSh
     HEAD.TIM_V.vfp 10 3).wrSh HEAD.TIM_VS.vsync 2 3).wrSh HEAD.TIM_VS.vbp 33 3).wrSh HEAD.PLL_INT.n 105 3).wrSh HEAD.PLL_INT.m 0 3).wrSh
     HEAD.PLL_INT.p 160 3).wrSh HEAD.PLL_FRAC.f 0 3))) .mgr 8 3) :=
  ⟨by refine ⟨?_, ?_⟩ <;> decide +kernel,
   by refine ⟨?_, ?_, ?_⟩ <;> decide +kernel,
   by refine ⟨?_, ?_, ?_⟩ <;> decide +kernel,
   by refine ⟨?_, ?_⟩ <;> decide +kernel,
   by decide +kernel,
   by refine ⟨?_, ?_⟩ <;> decide +kernel,
   by refine ⟨?_, ?_, ?_⟩ <;> decide +kernel⟩

theorem wit_Genlock :
    ((fun (s : State) (n : Fin 2) (e : Bool) (h : Fin 8) => (s.glSrc h.val = n.val + 1 ∧ s.on HEAD.GL_CFG.edge h.val = e) ∧ (2 ≤ s.rd
     HEAD.GL_STAT.state h.val ∧ s.rd HEAD.GL_STAT.state h.val ≤ 4) ∧ (s.inWindow h.val s.now = true)) (st [(HEAD.GL_CFG.src, 1, 3, 0, 0),
     (HEAD.GL_STAT.state, 3, 3, 0, 0), (HEAD.GL_PERIOD_NS.ns, 1000, 3, 0, 0)]
     { time := { tick := 1 }, heads := [(3, { edge := some 29517 })] }) 0 false 3) ∧
    ((fun (s : State) (n : Fin 2) (e : Bool) (h : Fin 8) => (s.glSrc h.val = n.val + 1 ∧ s.on HEAD.GL_CFG.edge h.val = e) ∧ (2 ≤ s.rd
     HEAD.GL_STAT.state h.val ∧ s.rd HEAD.GL_STAT.state h.val ≤ 4) ∧ (s.inWindow h.val s.now = false)) (st [(HEAD.GL_CFG.src, 1, 3, 0, 0),
     (HEAD.GL_STAT.state, 3, 3, 0, 0), (HEAD.GL_PERIOD_NS.ns, 1000, 3, 0, 0)] { heads := [(3, { edge := some 29517 })] }) 0 false 3) ∧
    ((fun (s : State) (h : Fin 8) (p : Nat) => s.rd HEAD.GL_STAT.state h.val = 3 ∧ s.glSrc h.val ≠ 0 ∧ s.windowOver h.val = true ∧ (s.head
     h.val).pulses = [p]) (st [(HEAD.GL_CFG.src, 1, 3, 0, 0), (HEAD.GL_STAT.state, 3, 3, 0, 0), (HEAD.GL_PERIOD_NS.ns, 1000, 3, 0, 0)]
     { time := { tick := 2 }, heads := [(3, { edge := some 29517, pulses := [30500] })] }) 3 30500) ∧
    ((fun (s : State) (h : Fin 8) => s.rd HEAD.GL_STAT.state h.val = 3 ∧ s.glSrc h.val ≠ 0 ∧ s.windowOver h.val = true ∧ (s.head
     h.val).pulses = []) (st [(HEAD.GL_CFG.src, 1, 3, 0, 0), (HEAD.GL_STAT.state, 3, 3, 0, 0), (HEAD.GL_PERIOD_NS.ns, 1000, 3, 0, 0)]
     { time := { tick := 2 }, heads := [(3, { edge := some 29517 })] }) 3) ∧
    ((fun (s : State) (h : Fin 8) => s.rd HEAD.GL_STAT.state h.val = 4 ∧ s.glSrc h.val ≠ 0 ∧ s.windowOver h.val = true ∧ (s.head
     h.val).pulses = [] ∧ 7 ≤ s.rd HEAD.GL_STAT.missing h.val) (st [(HEAD.GL_CFG.src, 1, 3, 0, 0), (HEAD.GL_STAT.state, 4, 3, 0, 0),
     (HEAD.GL_STAT.missing, 7, 3, 0, 0), (HEAD.GL_PERIOD_NS.ns, 1000, 3, 0, 0)]
     { time := { tick := 2 }, heads := [(3, { edge := some 29517 })] }) 3) ∧
    ((fun (s : State) (h : Fin 8) => s.rd HEAD.GL_STAT.state h.val < 2 ∨ 4 < s.rd HEAD.GL_STAT.state h.val) {} 3) ∧
    ((fun (s : State) (h : Fin 8) => s.windowOver h.val = false) (st [(HEAD.GL_CFG.src, 1, 3, 0, 0), (HEAD.GL_STAT.state, 3, 3, 0, 0),
     (HEAD.GL_PERIOD_NS.ns, 1000, 3, 0, 0)] { time := { tick := 1 }, heads := [(3, { edge := some 29517, pulses := [30500] })] }) 3) :=
  ⟨by refine ⟨?_, ?_, ?_⟩ <;> decide +kernel,
   by refine ⟨?_, ?_, ?_⟩ <;> decide +kernel,
   by decide +kernel,
   by decide +kernel,
   by decide +kernel,
   by decide +kernel,
   by decide +kernel⟩

theorem wit_GlintPoses :
    ((fun (s : State) (w : Who) (g : Fin 2) => accepts s w .glint (glintHead g) 0x164 1 = true)
     ({ heads := [(7, { glint := { check := some [3] } })] }) .mgr 1) ∧
    ((fun (s : State) (g : Fin 2) (p : List Nat) => (s.head (glintHead g)).glint.check = some p ∧ s.poseBad (glintHead g) p = none) (st
     [(HEAD.TIM_H.hact, 64, 7, 0, 0), (HEAD.TIM_V.vact, 4, 7, 0, 0)] { heads := [(7, { glint := { check := some poseId } })] }) 1 poseId) ∧
    ((fun (s : State) (g : Fin 2) (p : List Nat) => (s.head (glintHead g)).glint.check = some p ∧ s.poseBad (glintHead g) p ≠ none) (st
     [(HEAD.TIM_H.hact, 64, 7, 0, 0), (HEAD.TIM_V.vact, 4, 7, 0, 0)] { heads := [(7, { glint := { check := some [1, 2, 3] } })] }) 1 ([1, 2,
     3])) ∧
    ((fun (s : State) (g : Fin 2) => (s.head (glintHead g)).glint.check = none) {} 1) ∧
    ((fun (s : State) (g : Fin 2) (line : BitVec 13) => (s.rd HEAD.HEAD_STAT.state (glintHead g) = 2 ∧ s.headClock (glintHead g) = true ∧
     s.glintOn (glintHead g) = true ∧ line.toNat < s.rd HEAD.TIM_V.vact (glintHead g)) ∧ (line = 0 ∨ s.on GLINT.GLINT_CTRL.per_line
     (glintHead g) = true) ∧ (s.rd GLINT.POSE_STAT.posted_seq (glintHead g) ≠ s.rd GLINT.POSE_STAT.latched_seq (glintHead g)) ∧ ((s.head
     (glintHead g)).glint.postAt ≠ some s.now)) (st [(HEAD.HEAD_STAT.state, 2, 7, 0, 0), (HEAD.HEAD_STAT.pll_lock, 1, 7, 0, 0),
     (HEAD.TIM_V.vact, 4, 7, 0, 0), (GLINT.GLINT_CTRL.enable, 1, 7, 0, 0), (GLINT.GLINT_CTRL.per_line, 1, 7, 0, 0),
     (GLINT.POSE_STAT.posted_seq, 3, 7, 0, 0)] {}) 1 3) ∧
    ((fun (s : State) (g : Fin 2) (line : BitVec 13) => s.rd GLINT.POSE_STAT.posted_seq (glintHead g) = s.rd GLINT.POSE_STAT.latched_seq
     (glintHead g)) {} 1 3) :=
  ⟨by decide +kernel,
   by decide +kernel,
   by decide +kernel,
   by decide +kernel,
   by refine ⟨?_, ?_, ?_, ?_⟩ <;> decide +kernel,
   by decide +kernel⟩

theorem wit_SourceSelection :
    ((fun (s : State) (w : Who) (v : Word) => accepts s w .safe 0 0x10C v.toNat = true) {} .saf 0x0804A1) ∧
    ((fun (s : State) (w : Who) (v : Word) (h : Fin 8) => accepts s w .safe 0 0x10C v.toNat = true) {} .saf 0x0804A1 5) ∧
    ((fun (s : State) (h : Fin 8) => (s.rd HEAD.HEAD_STAT.state h.val = 2) ∧ (s.on SAFE.ISL_STAT.fw_running = false ∨ s.mayHandBack h.val =
     false) ∧ (s.headClock h.val = true)) (st [(HEAD.HEAD_STAT.state, 2, 3, 0, 0), (HEAD.HEAD_STAT.pll_lock, 1, 3, 0, 0),
     (HEAD.HEAD_STAT.vblank, 1, 3, 0, 0)] {}) 3) ∧
    ((fun (s : State) (h : Fin 8) => (s.rd HEAD.HEAD_STAT.state h.val = 2) ∧ (s.on SAFE.ISL_STAT.fw_running = true ∧ s.mayHandBack h.val =
     true) ∧ (s.headClock h.val = true)) (st [(HEAD.HEAD_STAT.state, 2, 3, 0, 0), (HEAD.HEAD_STAT.pll_lock, 1, 3, 0, 0),
     (SAFE.ISL_STAT.fw_running, 1, 0, 0, 0), (SAFE.HB_STAT.source, 1, 0, 3, 0), (SAFE.HB_STAT.good, 200, 0, 3, 0), (SAFE.HB_CFG.max_frames,
     3, 0, 0, 0)] {}) 3) ∧
    ((fun (s : State) (h : Fin 8) => s.rd HEAD.HEAD_STAT.state h.val ≠ 2 ∨ s.headClock h.val = false) {} 3) ∧
    ((fun (s : State) (h : Fin 8) => (s.running h.val = true ∧ s.rd SAFE.HB_STAT.source 0 h.val ≠ s.wantSource h.val) ∧ ((s.shead
     h.val).since + s.treact h.val ≤ s.now + s.periodNs h.val)) (st [(HEAD.HEAD_STAT.state, 2, 3, 0, 0), (SAFE.HB_STAT.source, 0, 0, 3, 0)]
     { time := { tick := 400000 } }) 3) ∧
    ((fun (s : State) (h : Fin 8) => s.running h.val = false) {} 3) ∧
    ((fun (s : State) (h : Fin 8) => ((s.shead h.val).stopped = false ∧ s.rd PWR.STATE.state ≤ 1 ∧ s.rd HEAD.FRAME_CNT.count h.val ≠ 0 ∧
     s.running h.val = true) ∧ (s.rd HEAD.VBL_TIME.time h.val + max 1 (s.rd MIRROR.TIM_TOL.stop_frames) * s.periodNs h.val ≤ s.now)) (st
     [(HEAD.HEAD_STAT.state, 2, 3, 0, 0), (HEAD.FRAME_CNT.count, 5, 3, 0, 0), (PWR.STATE.state, 1, 0, 0, 0)] {}) 3) ∧
    ((fun (s : State) (h : Fin 8) => (s.shead h.val).stopped = true ∨ 1 < s.rd PWR.STATE.state ∨ s.rd HEAD.FRAME_CNT.count h.val = 0) {} 3) :=
  ⟨by decide +kernel,
   by decide +kernel,
   by refine ⟨?_, ?_, ?_⟩ <;> decide +kernel,
   by refine ⟨?_, ?_, ?_⟩ <;> decide +kernel,
   by decide +kernel,
   by refine ⟨?_, ?_⟩ <;> decide +kernel,
   by decide +kernel,
   by refine ⟨?_, ?_⟩ <;> decide +kernel,
   by decide +kernel⟩

theorem wit_FaultOutputsAndIsland :
    ((fun (s : State) (a : Bool) (b : Bool) => (a, b) ≠ (s.pins.faultA, s.pins.faultB) ∧ s.safe.mismatch = none)
     ({ pins := { faultA := true, faultB := false } }) false false) ∧
    ((fun (s : State) (a : Bool) (b : Bool) => (a, b) = (s.pins.faultA, s.pins.faultB)) ({ pins := { faultA := true, faultB := false } })
     true false) ∧
    ((fun (s : State) => s.mayRelease = true) (st [f0 SAFE.ISL_STAT.fw_running 1, f0 SAFE.ISL_STAT.fault 1, f0 SAFE.ISL_STAT.link 0, f0
     SAFE.SL_CFG.clear_needed 0] { time := { tick := 40000 } })) ∧
    ((fun (s : State) => s.mayRelease = false) {}) ∧
    ((fun (s : State) (w : Who) (v : Word) (e : Ecc) => accepts s w .lantern 0 0x104 v.toNat = true) (st [f0 LANTERN.LSRAM_ADDR.addr
     0x3FFFF] {}) .saf 0x12345678 .clean) ∧
    ((fun (s : State) (w : Who) => readable s w .lantern 0 0x104 = true) (st [f0 LANTERN.LSRAM_ADDR.addr 2]
     { safe := { lsram := [(9, 5)] } }) .saf) ∧
    ((fun (s : State) (w : Who) => readable s w .lantern 0 0x104 = true) {} .saf) ∧
    ((fun (s : State) (e : LogEnt) => (readable s .mgr .safe 0 0x15C = true) ∧ (s.safe.unread ≠ 0 ∧ s.safe.word < 3 ∧ (s.safe.log.drop
     (s.safe.log.length - s.safe.unread)).head? = some e)) ({ safe := { unread := 1, log := [⟨9, 0x0305, 0x0700, 3, 1, 4⟩], word := 1 } })
     (⟨9, 0x0305, 0x0700, 3, 1, 4⟩)) ∧
    ((fun (s : State) (e : LogEnt) => (readable s .mgr .safe 0 0x15C = true) ∧ (s.safe.unread ≠ 0 ∧ s.safe.word = 3 ∧ (s.safe.log.drop
     (s.safe.log.length - s.safe.unread)).head? = some e)) ({ safe := { unread := 1, log := [⟨9, 0x0305, 0x0700, 3, 1, 4⟩], word := 3 } })
     (⟨9, 0x0305, 0x0700, 3, 1, 4⟩)) ∧
    ((fun (s : State) (w : Who) (v : Word) => (accepts s w .safe 0 0x128 v.toNat = true) ∧ (v.toNat % 65536 = 0x5AFE)) {} .saf 0x5AFE) ∧
    ((fun (s : State) (w : Who) (v : Word) => (accepts s w .safe 0 0x128 v.toNat = true) ∧ (v.toNat % 65536 ≠ 0x5AFE)) {} .saf 0x1234) :=
  ⟨by decide +kernel,
   by decide +kernel,
   by decide +kernel,
   by decide +kernel,
   by decide +kernel,
   by decide +kernel,
   by decide +kernel,
   by refine ⟨?_, ?_⟩ <;> decide +kernel,
   by refine ⟨?_, ?_⟩ <;> decide +kernel,
   by refine ⟨?_, ?_⟩ <;> decide +kernel,
   by refine ⟨?_, ?_⟩ <;> decide +kernel⟩

theorem wit_SafetyLink :
    ((fun (s : State) (d : List Byte) => s.slServed = true ∧ d.length ≠ 32) (st [f0 SAFE.ISL_STAT.fw_running 1, f0 PWR.STATE.state 0] {})
     ([1, 2])) ∧
    ((fun (s : State) (d : List Byte) => s.slServed = true ∧ d.length = 32 ∧ leVal (d.drop 28) ≠ crc32c (d.take 28)) (st [f0
     SAFE.ISL_STAT.fw_running 1, f0 PWR.STATE.state 0] {}) (List.replicate 31 0 ++ [1])) ∧
    ((fun (s : State) (d : List Byte) => s.slServed = false) {} [1]) ∧
    ((fun (s : State) (q : BitVec 16) (m : Word) (n : Byte) (v : BitVec 48) => (s.slServed = true) ∧ (s.safe.slSeq = none ∨ s.safe.slSeq =
     some ((q.toNat + 65535) % 65536))) (st [f0 SAFE.ISL_STAT.fw_running 1, f0 PWR.STATE.state 0] { safe := { slSeq := some 65535 } }) 0
     0x12345678 9 0x123456789ABC) ∧
    ((fun (s : State) (q : BitVec 16) (m : Word) (n : Byte) (v : BitVec 48) (p : Nat) => (s.slServed = true) ∧ (s.safe.slSeq = some p ∧ (p +
     1) % 65536 ≠ q.toNat)) (st [f0 SAFE.ISL_STAT.fw_running 1, f0 PWR.STATE.state 0] { safe := { slSeq := some 65535 } }) 1 0x12345678 9
     0x123456789ABC 65535) ∧
    ((fun (s : State) (q : BitVec 16) => (s.slServed = true) ∧ (s.safe.slSeq = none ∨ s.safe.slSeq = some ((q.toNat + 65535) % 65536))) (st
     [f0 SAFE.ISL_STAT.fw_running 1, f0 PWR.STATE.state 0] { safe := { slSeq := some 7 } }) 8) ∧
    ((fun (s : State) (q : BitVec 16) (f : BitVec 16) (e : LogEnt) => (s.slServed = true ∧ s.safe.slOut = []) ∧ (s.safe.slSeq = none ∨
     s.safe.slSeq = some ((q.toNat + 65535) % 65536)) ∧ (s.safe.log = [e] ∧ e.seq = f.toNat)) (st [f0 SAFE.ISL_STAT.fw_running 1, f0
     PWR.STATE.state 0] { safe := { slSeq := some 7, log := [⟨9, 0x0305, 0x0700, 3, 1, 4⟩] } }) 8 4 (⟨9, 0x0305, 0x0700, 3, 1, 4⟩)) ∧
    ((fun (s : State) (q : BitVec 16) => (s.slServed = true) ∧ (s.safe.slSeq = none ∨ s.safe.slSeq = some ((q.toNat + 65535) % 65536)) ∧
     (bit (s.rd PWR.WAKE_EN.enable) 4 = false)) (st [f0 SAFE.ISL_STAT.fw_running 1, f0 PWR.STATE.state 0, f0 PWR.WAKE_EN.enable 0] {}) 8) ∧
    ((fun (s : State) => (s.slServed = true ∧ s.safe.slMute = false) ∧ (s.safe.slLast + clamp 5 1000 (s.rd SAFE.SL_CFG.timeout_ms) * 1000000
     ≤ s.now)) (st [f0 SAFE.ISL_STAT.fw_running 1, f0 PWR.STATE.state 0] { time := { tick := 40000000 } })) :=
  ⟨by decide +kernel,
   by decide +kernel,
   by decide +kernel,
   by refine ⟨?_, ?_⟩ <;> decide +kernel,
   by refine ⟨?_, ?_⟩ <;> decide +kernel,
   by refine ⟨?_, ?_⟩ <;> decide +kernel,
   by refine ⟨?_, ?_, ?_⟩ <;> decide +kernel,
   by refine ⟨?_, ?_, ?_⟩ <;> decide +kernel,
   by refine ⟨?_, ?_⟩ <;> decide +kernel⟩

theorem wit_LinkPowerAndTraining :
    ((fun (s : State) (w : Who) (n : Fin 8) (v : Word) => (accepts s w .link n.val 0x100 (setBit v.toNat 0) = true) ∧ (s.linkCan n.val (s.hv
     n.val) = true ∧ s.rd LINK.LINK_STAT.state n.val = 0 ∧ s.on LINK.LINK_CTRL.enable n.val = false)) (st [(LINK.LINK_CFG.type, 4, 3, 0, 0),
     (LINK.LINK_CFG.lanes, 3, 3, 0, 0), (LINK.LINK_CFG.bpc, 0, 3, 0, 0), (HEAD.TIM_H.hact, 640, 3, 0, 0), (HEAD.TIM_H.hfp, 16, 3, 0, 0),
     (HEAD.TIM_HS.hsync, 96, 3, 0, 0), (HEAD.TIM_HS.hbp, 48, 3, 0, 0), (HEAD.PLL_INT.n, 105, 3, 0, 0), (HEAD.PLL_INT.m, 0, 3, 0, 0),
     (HEAD.PLL_INT.p, 160, 3, 0, 0), (HEAD.PLL_FRAC.f, 0, 3, 0, 0), (LINK.LINK_CTRL.enable, 0, 3, 0, 0)] {}) .mgr 3 0) ∧
    ((fun (s : State) (w : Who) (n : Fin 8) (v : Word) => (accepts s w .link n.val 0x100 (setBit v.toNat 0) = true) ∧ (s.linkCan n.val (s.hv
     n.val) = false)) (st [(LINK.LINK_CFG.type, 4, 3, 0, 0), (LINK.LINK_CFG.lanes, 2, 3, 0, 0)] {}) .mgr 3 0) ∧
    ((fun (s : State) (w : Who) (n : Fin 8) (v : Word) => (accepts s w .link n.val 0x100 (clrBit v.toNat 0) = true) ∧ (1 < s.rd
     LINK.LINK_STAT.state n.val ∧ (s.link n.val).off = 0)) (st [(LINK.LINK_STAT.state, 4, 3, 0, 0), (LINK.LINK_CTRL.enable, 1, 3, 0, 0)]
     { links := [(3, { bl := true })] }) .mgr 3 0) ∧
    ((fun (s : State) (w : Who) (n : Fin 8) (v : Word) => (accepts s w .link n.val 0x100 (clrBit v.toNat 0) = true) ∧ (s.rd
     LINK.LINK_STAT.state n.val ≤ 1)) (st [(LINK.LINK_STAT.state, 1, 3, 0, 0), (LINK.LINK_CTRL.enable, 1, 3, 0, 0)] {}) .mgr 3 0) ∧
    ((fun (s : State) (n : Fin 8) => (s.rd LINK.LINK_STAT.state n.val = 1 ∧ (s.link n.val).off = 0 ∧ s.rd HEAD.HEAD_STAT.state n.val = 2 ∧
     bit (s.rd SAFE.HEAD_SRC.dispen_off) n.val = false ∧ s.rd PWR.STATE.state ≤ 1) ∧ (s.past (s.link n.val).fell (ms (s.rd
     LINK.PWR_SEQ2.t_cycle_ms n.val)) = true) ∧ (s.pwr.safeUp = true)) (st [(LINK.LINK_STAT.state, 1, 3, 0, 0), (HEAD.HEAD_STAT.state, 2, 3,
     0, 0), (PWR.STATE.state, 1, 0, 0, 0)] { time := { tick := 2000000000 }, pwr := { safeUp := true } }) 3) ∧
    ((fun (s : State) (n : Fin 8) => s.rd LINK.LINK_STAT.state n.val ≠ 1 ∨ s.rd HEAD.HEAD_STAT.state n.val ≠ 2) {} 3) ∧
    ((fun (s : State) (n : Fin 8) => (s.rd LINK.LINK_STAT.state n.val = 2 ∧ (s.link n.val).off = 0 ∧ (s.linkType n.val = 1 ∨ s.linkType
     n.val = 2) ∧ s.on LINK.LINK_STAT.hpd n.val = true) ∧ (s.past (s.link n.val).since (ms (s.rd LINK.PWR_SEQ0.t_pwr_on_ms n.val)) = true))
     (st [(LINK.LINK_STAT.state, 2, 3, 0, 0), (LINK.LINK_CFG.type, 1, 3, 0, 0), (LINK.LINK_STAT.hpd, 1, 3, 0, 0)]
     { time := { tick := 2000000000 } }) 3) ∧
    ((fun (s : State) (n : Fin 8) => (s.rd LINK.LINK_STAT.state n.val = 2 ∧ (s.link n.val).off = 0 ∧ s.linkType n.val = 4) ∧ (s.past (s.link
     n.val).since (ms (s.rd LINK.PWR_SEQ0.t_pwr_on_ms n.val)) = true)) (st [(LINK.LINK_STAT.state, 2, 3, 0, 0), (LINK.LINK_CFG.type, 4, 3,
     0, 0)] { time := { tick := 2000000000 } }) 3) ∧
    ((fun (s : State) (n : Fin 8) => s.rd LINK.LINK_STAT.state n.val ≠ 2) {} 3) ∧
    ((fun (s : State) (n : Fin 8) (lanes : BitVec 4) (rate : BitVec 4) => (s.rd LINK.LINK_STAT.state n.val = 3 ∧ (s.link n.val).trained =
     false ∧ (s.link n.val).off = 0 ∧ (s.linkType n.val = 1 ∨ s.linkType n.val = 2)) ∧ (s.trainedAt n.val lanes.toNat rate.toNat = true))
     (st [(LINK.LINK_STAT.state, 3, 3, 0, 0), (LINK.LINK_CFG.type, 1, 3, 0, 0), (LINK.LINK_CFG.lanes, 4, 3, 0, 0), (LINK.LINK_CFG.rate, 2,
     3, 0, 0), (LINK.LINK_CFG.bpc, 1, 3, 0, 0), (HEAD.PLL_INT.n, 105, 3, 0, 0), (HEAD.PLL_INT.m, 0, 3, 0, 0), (HEAD.PLL_INT.p, 160, 3, 0,
     0), (HEAD.PLL_FRAC.f, 0, 3, 0, 0)] {}) 3 4 2) ∧
    ((fun (s : State) (n : Fin 8) (lanes : BitVec 4) (rate : BitVec 4) => s.rd LINK.LINK_STAT.state n.val = 3 ∧ (s.link n.val).trained =
     false ∧ (s.link n.val).off = 0 ∧ (s.linkType n.val = 1 ∨ s.linkType n.val = 2)) (st [(LINK.LINK_STAT.state, 3, 3, 0, 0),
     (LINK.LINK_CFG.type, 1, 3, 0, 0)] {}) 3 4 2) ∧
    ((fun (s : State) (n : Fin 8) => (s.rd LINK.LINK_STAT.state n.val = 5 ∧ (s.link n.val).off = 0 ∧ s.on LINK.LINK_CTRL.enable n.val =
     true) ∧ (s.rd LINK.LINK_CTRL.retries n.val ≠ 0 ∧ s.rd LINK.LINK_STAT.retries_left n.val ≠ 0) ∧ (s.past (s.link n.val).since (ms (max 1
     (s.rd LINK.LINK_CTRL.retry_ms n.val))) = true)) (st [(LINK.LINK_STAT.state, 5, 3, 0, 0), (LINK.LINK_CTRL.enable, 1, 3, 0, 0),
     (LINK.LINK_CTRL.retries, 3, 3, 0, 0), (LINK.LINK_STAT.retries_left, 2, 3, 0, 0)] { time := { tick := 2000000000 } }) 3) ∧
    ((fun (s : State) (n : Fin 8) => s.rd LINK.LINK_CTRL.retries n.val ≠ 0 ∧ s.rd LINK.LINK_STAT.retries_left n.val = 0) (st
     [(LINK.LINK_CTRL.retries, 3, 3, 0, 0), (LINK.LINK_STAT.retries_left, 0, 3, 0, 0)] {}) 3) ∧
    ((fun (s : State) (n : Fin 8) => (s.rd LINK.LINK_STAT.state n.val = 2 ∧ (s.link n.val).off = 0 ∧ s.linkType n.val = 2 ∧ s.on
     LINK.LINK_STAT.hpd n.val = false) ∧ (s.past (s.link n.val).since (ms (s.rd LINK.PWR_SEQ2.t_hpd_ms n.val)) = true)) (st
     [(LINK.LINK_STAT.state, 2, 3, 0, 0), (LINK.LINK_CFG.type, 2, 3, 0, 0), (LINK.LINK_STAT.hpd, 0, 3, 0, 0)]
     { time := { tick := 2000000000 } }) 3) ∧
    ((fun (s : State) (n : Fin 8) => ((s.link n.val).off = 1) ∧ (s.past (s.link n.val).offAt (ms (s.rd LINK.PWR_SEQ1.t_bl_off_ms n.val)) =
     true)) ({ links := [(3, { off := 1, video := true })], time := { tick := 2000000000 } }) 3) ∧
    ((fun (s : State) (n : Fin 8) => ((s.link n.val).off = 2) ∧ (s.past (s.link n.val).offAt (ms (s.rd LINK.PWR_SEQ1.t_pwr_off_ms n.val)) =
     true)) ({ links := [(3, { off := 2 })], pins := { dispen := 8 }, time := { tick := 2000000000 } }) 3) ∧
    ((fun (s : State) (n : Fin 8) => (s.rd LINK.LINK_STAT.state n.val = 4 ∧ (s.link n.val).off = 0) ∧ (bit (s.rd SAFE.HEAD_SRC.bl_off) n.val
     = false ∧ s.rd SAFE.HB_STAT.source 0 n.val ≠ 2) ∧ (s.past (s.link n.val).blStart (ms (s.rd LINK.PWR_SEQ0.t_bl_on_ms n.val)) = true ∧
     s.pwr.safeUp = true)) (st [(LINK.LINK_STAT.state, 4, 3, 0, 0), (SAFE.HEAD_SRC.bl_off, 0, 0, 0, 0), (SAFE.HB_STAT.source, 0, 0, 3, 0)]
     { time := { tick := 2000000000 }, pwr := { safeUp := true } }) 3) ∧
    ((fun (s : State) (n : Fin 8) => s.rd LINK.LINK_STAT.state n.val ≠ 4) {} 3) :=
  ⟨by refine ⟨?_, ?_⟩ <;> decide +kernel,
   by refine ⟨?_, ?_⟩ <;> decide +kernel,
   by refine ⟨?_, ?_⟩ <;> decide +kernel,
   by refine ⟨?_, ?_⟩ <;> decide +kernel,
   by refine ⟨?_, ?_, ?_⟩ <;> decide +kernel,
   by decide +kernel,
   by refine ⟨?_, ?_⟩ <;> decide +kernel,
   by refine ⟨?_, ?_⟩ <;> decide +kernel,
   by decide +kernel,
   by refine ⟨?_, ?_⟩ <;> decide +kernel,
   by decide +kernel,
   by refine ⟨?_, ?_, ?_⟩ <;> decide +kernel,
   by decide +kernel,
   by refine ⟨?_, ?_⟩ <;> decide +kernel,
   by refine ⟨?_, ?_⟩ <;> decide +kernel,
   by refine ⟨?_, ?_⟩ <;> decide +kernel,
   by refine ⟨?_, ?_, ?_⟩ <;> decide +kernel,
   by decide +kernel⟩

theorem wit_LinkLossAndCommands :
    ((fun (s : State) (n : Fin 8) (b : Bool) => ((s.linkType n.val = 3 ∨ s.linkType n.val = 4) ∧ s.rd LINK.LINK_STAT.state n.val = 4) ∧
     ((s.link n.val).loadTold = false ∨ b = true)) (st [(LINK.LINK_STAT.state, 4, 3, 0, 0), (LINK.LINK_CFG.type, 4, 3, 0, 0),
     (LINK.LINK_CTRL.auto_retrain, 1, 3, 0, 0)] {}) 3 true) ∧
    ((fun (s : State) (n : Fin 8) (b : Bool) => s.linkType n.val ≤ 2) (st [(LINK.LINK_CFG.type, 1, 3, 0, 0)] {}) 3 true) ∧
    ((fun (s : State) (n : Fin 8) => s.linkType n.val = 1 ∨ s.linkType n.val = 2) (st [(LINK.LINK_CFG.type, 1, 3, 0, 0)] {}) 3) ∧
    ((fun (s : State) (n : Fin 8) => (s.linkType n.val = 1 ∨ s.linkType n.val = 2) ∧ s.rd LINK.LINK_STAT.state n.val = 4 ∧ s.on
     LINK.LINK_CTRL.auto_retrain n.val = true) (st [(LINK.LINK_STAT.state, 4, 3, 0, 0), (LINK.LINK_CFG.type, 1, 3, 0, 0),
     (LINK.LINK_CTRL.auto_retrain, 1, 3, 0, 0)] {}) 3) ∧
    ((fun (s : State) (n : Fin 8) (u : Bool) => s.linkType n.val ≠ 1 ∧ s.linkType n.val ≠ 2) (st [(LINK.LINK_CFG.type, 4, 3, 0, 0)] {}) 3
     true) ∧
    ((fun (s : State) (n : Fin 8) => s.linkType n.val ≠ 1 ∧ s.linkType n.val ≠ 2) (st [(LINK.LINK_CFG.type, 4, 3, 0, 0)] {}) 3) ∧
    ((fun (s : State) (n : Fin 8) => s.linkType n.val = 1 ∧ s.on LINK.LINK_STAT.hpd n.val = true ∧ s.rd LINK.LINK_STAT.state n.val = 4 ∧
     s.on LINK.LINK_CTRL.auto_retrain n.val = true) (st [(LINK.LINK_STAT.state, 4, 3, 0, 0), (LINK.LINK_CFG.type, 1, 3, 0, 0),
     (LINK.LINK_STAT.hpd, 1, 3, 0, 0), (LINK.LINK_CTRL.auto_retrain, 1, 3, 0, 0)] {}) 3) ∧
    ((fun (s : State) (n : Fin 8) => (s.linkType n.val = 1 ∨ s.linkType n.val = 2) ∧ s.on LINK.LINK_STAT.hpd n.val = false) (st
     [(LINK.LINK_STAT.state, 6, 3, 0, 0), (LINK.LINK_CFG.type, 1, 3, 0, 0), (LINK.LINK_STAT.hpd, 0, 3, 0, 0)] {}) 3) ∧
    ((fun (s : State) (w : Who) (n : Fin 8) (v : Word) => (accepts s w .link n.val 0x120 (setBit v.toNat 31) = true) ∧ (s.on
     LINK.AUX_CTRL.go n.val = false) ∧ (bits v.toNat 0 4 ≠ 8 ∨ dpcdGuarded (bits v.toNat 8 20) (bits v.toNat 4 4) = false)) {} .mgr 3
     0x00020019) ∧
    ((fun (s : State) (w : Who) (n : Fin 8) (v : Word) => (accepts s w .link n.val 0x120 (setBit v.toNat 31) = true) ∧ (s.on
     LINK.AUX_CTRL.go n.val = true ∨ (bits v.toNat 0 4 = 8 ∧ dpcdGuarded (bits v.toNat 8 20) (bits v.toNat 4 4) = true))) {} .mgr 3
     0x00010208) ∧
    ((fun (s : State) (n : Fin 8) (r : Fin 4) (c : Fin 17) (d : List Byte) => s.on LINK.AUX_CTRL.go n.val = true ∧ (s.link n.val).aux % 2 =
     0) (st [(LINK.AUX_CTRL.go, 1, 3, 0, 0), (LINK.AUX_CTRL.cmd, 8, 3, 0, 0)] { links := [(3, { aux := 8 })] }) 3 0 2 []) ∧
    ((fun (s : State) (n : Fin 8) (r : Fin 4) (a : Byte) (b : Byte) (c : Byte) (d : Byte) => s.on LINK.AUX_CTRL.go n.val = true ∧ (s.link
     n.val).aux % 2 = 1 ∧ bits (s.link n.val).aux 4 4 = 3) (st [(LINK.AUX_CTRL.go, 1, 3, 0, 0), (LINK.AUX_CTRL.cmd, 9, 3, 0, 0),
     (LINK.AUX_CTRL.len, 3, 3, 0, 0)] { links := [(3, { aux := 0x39 })] }) 3 0 1 2 3 0xF4) ∧
    ((fun (s : State) (w : Who) (n : Fin 8) (v : Word) => (accepts s w .link n.val 0x140 (setBit v.toNat 31) = true) ∧ (s.on
     LINK.DSI_CMD_CTRL.go n.val = false)) {} .mgr 3 0) ∧
    ((fun (s : State) (w : Who) (n : Fin 8) (v : Word) => (accepts s w .link n.val 0x140 (setBit v.toNat 31) = true) ∧ (s.on
     LINK.DSI_CMD_CTRL.go n.val = true)) (st [(LINK.DSI_CMD_CTRL.go, 1, 3, 0, 0)] {}) .mgr 3 0) ∧
    ((fun (s : State) (n : Fin 8) => s.on LINK.DSI_CMD_CTRL.go n.val = true ∧ s.linkType n.val = 3 ∧ s.rd LINK.LINK_STAT.state n.val = 3)
     (st [(LINK.DSI_CMD_CTRL.go, 1, 3, 0, 0), (LINK.LINK_CFG.type, 3, 3, 0, 0), (LINK.LINK_STAT.state, 3, 3, 0, 0)] {}) 3) ∧
    ((fun (s : State) (n : Fin 8) => s.on LINK.DSI_CMD_CTRL.go n.val = false) {} 3) :=
  ⟨by refine ⟨?_, ?_⟩ <;> decide +kernel,
   by decide +kernel,
   by decide +kernel,
   by decide +kernel,
   by decide +kernel,
   by decide +kernel,
   by decide +kernel,
   by decide +kernel,
   by refine ⟨?_, ?_, ?_⟩ <;> decide +kernel,
   by refine ⟨?_, ?_⟩ <;> decide +kernel,
   by decide +kernel,
   by decide +kernel,
   by refine ⟨?_, ?_⟩ <;> decide +kernel,
   by refine ⟨?_, ?_⟩ <;> decide +kernel,
   by decide +kernel,
   by decide +kernel⟩

theorem wit_CameraFrames :
    ((fun (s : State) (n : Fin 16) => s.on (HDR.enable .cap) n.val = true ∧ (s.cap n.val).inFrame = false ∧ (s.job 3 n.val).isNone = true ∧
     (s.readyRings 3 n.val).isEmpty = true) (st [(HDR.enable .cap, 1, 9, 0, 0)] {}) 9) ∧
    ((fun (s : State) (n : Fin 16) (r : Nat) (d : List Byte) (l : List (Nat × Nat × List Byte)) => (s.on (HDR.enable .cap) n.val = true ∧
     (s.cap n.val).inFrame = false ∧ (s.job 3 n.val).isNone = true) ∧ (s.readyRings 3 n.val = [r] ∧ s.holdsPort (ringInst r) n.val = true ∧
     ((s.ring r).tail + 2 ^ 24 - (s.ring r).head) % 2 ^ 24 ≠ 0) ∧ ((s.ring r).pre = (0, 0, d) :: l ∧ s.capDescOk n.val d = true)) (st
     [(HDR.enable .cap, 1, 9, 0, 0)]
     { rings := { ctx := [(7, { enable := true, type := 4, cls := 3, engine := 9, st := 2, waitMet := true, pre := [(0, 0, 1 :: List.replicate 31 0)], head := 3, tail := 5, seq := 11 })] } })
     9 7 (1 :: List.replicate 31 0) []) ∧
    ((fun (s : State) (n : Fin 16) => s.on (HDR.enable .cap) n.val = false) (st [(HDR.enable .cap, 0, 9, 0, 0)] {}) 9) ∧
    ((fun (s : State) (n : Fin 16) (vc : BitVec 4) (dt : BitVec 6) (d : List Byte) (c : Bool) (o : Bool) => s.on (HDR.enable .cap) n.val =
     true) (st [(HDR.enable .cap, 1, 9, 0, 0)] {}) 9 1 0x2A [1] true false) ∧
    ((fun (s : State) (n : Fin 16) (vc : BitVec 4) (dt : BitVec 6) (d : List Byte) (c : Bool) (o : Bool) => s.on (HDR.enable .cap) n.val =
     true ∧ vc.toNat ≠ s.rd CAP.RX_CFG.vc n.val) (st [(HDR.enable .cap, 1, 9, 0, 0)] {}) 9 1 0x2A [1] true false) ∧
    ((fun (s : State) (n : Fin 16) (vc : BitVec 4) (dt : BitVec 6) (d : List Byte) (o : Bool) => s.on (HDR.enable .cap) n.val = true ∧
     vc.toNat = s.rd CAP.RX_CFG.vc n.val ∧ dt.toNat ≠ 0x12 ∧ dt.toNat ≠ s.rd CAP.RX_CFG.dt n.val) (st [(HDR.enable .cap, 1, 9, 0, 0),
     (CAP.RX_CFG.vc, 1, 9, 0, 0), (CAP.RX_CFG.dt, 0x2B, 9, 0, 0)] {}) 9 1 0x2A [1] false) ∧
    ((fun (s : State) (n : Fin 16) (vc : BitVec 4) (dt : BitVec 6) (d : List Byte) (j : Job) (x : Nat) (y : Nat) (w : Nat) (h : Nat) (a :
     Nat) => (s.on (HDR.enable .cap) n.val = true ∧ vc.toNat = s.rd CAP.RX_CFG.vc n.val ∧ dt.toNat = s.rd CAP.RX_CFG.dt n.val ∧ dt.toNat =
     0x2A) ∧ (s.job 3 n.val = some j ∧ (x, y, w, h) = s.crop n.val ∧ a = field j.desc 8 8 + (s.cap n.val).stored * s.capPitch n.val 0) ∧
     ((s.cap n.val).inFrame = true ∧ (s.cap n.val).dropped = false ∧ (s.cap n.val).discard = false ∧ (s.cap n.val).ovf = false ∧ (s.cap
     n.val).fail = none) ∧ (y ≤ (s.cap n.val).lines ∧ (s.cap n.val).lines < y + h ∧ x + w ≤ d.length) ∧ (s.memFault (s.capReq j.ring) true a
     w = none)) (st [(HDR.enable .cap, 1, 9, 0, 0), (CAP.RX_CFG.vc, 1, 9, 0, 0), (CAP.RX_CFG.dt, 0x2A, 9, 0, 0), (CAP.CROP_SIZE.width, 64,
     9, 0, 0), (CAP.CROP_POS.x, 2, 9, 0, 0), (CAP.CROP_POS.y, 0, 9, 0, 0)]
     { caps := [(9, { inFrame := true, stored := 1, lines := 1 })], rings := { jobs := [(3 * 16 + 9, some { ring := 9, seq := 4, desc := [1, 0, 0, 0, 0, 0, 0, 0, 0, 0x50] ++ List.replicate 22 0 })] } })
     9 1 0x2A (List.replicate 70 7) ({ ring := 9, seq := 4, desc := [1, 0, 0, 0, 0, 0, 0, 0, 0, 0x50] ++ List.replicate 22 0 }) 2 0 64 ((st
     [(CAP.CROP_SIZE.width, 64, 9, 0, 0)] {} : State).crop 9 |>.2.2.2) (0x5000 + (st [(CAP.CROP_SIZE.width, 64, 9, 0, 0), (CAP.RX_CFG.dt,
     0x2A, 9, 0, 0)] {} : State).capPitch 9 0)) ∧
    ((fun (s : State) (n : Fin 16) => s.on (HDR.enable .cap) n.val = false ∨ (s.cap n.val).inFrame = false) {} 9) ∧
    ((fun (s : State) (n : Fin 16) (x : Nat) (y : Nat) (w : Nat) (h : Nat) => ((x, y, w, h) = s.crop n.val ∧ (s.cap n.val).inFrame = true ∧
     (s.cap n.val).short = false ∧ h ≤ (s.cap n.val).stored ∧ (s.cap n.val).discard = false) ∧ (s.on (HDR.enable .cap) n.val = true)) (st
     [(HDR.enable .cap, 1, 9, 0, 0), (CAP.CROP_SIZE.height, 64, 9, 0, 0), (CAP.CROP_SIZE.width, 64, 9, 0, 0), (CAP.CROP_POS.x, 2, 9, 0, 0),
     (CAP.CROP_POS.y, 0, 9, 0, 0)] { caps := [(9, { inFrame := true, stored := 64, dropped := true })] }) 9 2 0 64 64) ∧
    ((fun (s : State) (n : Fin 16) (j : Job) => s.job 3 n.val = some j ∧ (s.cap n.val).done = true ∧ bit (field j.desc 0 4) 4 = false) (st
     [(CAP.TAG_SEQ.seq, 4095, 9, 0, 0)]
     { caps := [(9, { done := true })], rings := { jobs := [(3 * 16 + 9, some { ring := 9, seq := 4, desc := [1] ++ List.replicate 31 0 })] } })
     9 ({ ring := 9, seq := 4, desc := [1] ++ List.replicate 31 0 })) ∧
    ((fun (s : State) (n : Fin 16) => (s.job 3 n.val).isNone = true) {} 9) ∧
    ((fun (s : State) (n : Fin 16) (j : Job) (code : BitVec 16) (addr : Addr) (e : Nat × Nat) => s.job 3 n.val = some j ∧ (s.cap n.val).fail
     = some e)
     ({ caps := [(9, { fail := some (3, 0x5000) })], rings := { jobs := [(3 * 16 + 9, some { ring := 9, seq := 4, desc := [1] ++ List.replicate 31 0 })] } })
     9 ({ ring := 9, seq := 4, desc := [1] ++ List.replicate 31 0 }) 3 0x6000 ((3, 0x5000))) ∧
    ((fun (s : State) (n : Fin 16) => (s.on (HDR.enable .cap) n.val = true ∧ (s.cap n.val).lostTold = false) ∧ (s.past (s.cap n.val).lastFs
     (ms (max 1 (s.rd CAP.LOST_MS.ms n.val))) = true)) (st [(HDR.enable .cap, 1, 9, 0, 0)] { time := { tick := 2000000000 } }) 9) ∧
    ((fun (s : State) (w : Who) (n : Fin 16) => (accepts s w .cap n.val 0x12C 1 = true) ∧ (s.rd CAP.TRIG_CFG.mode n.val = 1)) (st
     [(CAP.TRIG_CFG.mode, 1, 9, 0, 0)] {}) .mgr 9) ∧
    ((fun (s : State) (w : Who) (n : Fin 16) => (accepts s w .cap n.val 0x12C 1 = true) ∧ (s.rd CAP.TRIG_CFG.mode n.val ≠ 1)) {} .mgr 9) ∧
    ((fun (s : State) (n : Fin 16) => s.rd CAP.TRIG_CFG.mode n.val = 3 ∧ s.trigDue n.val = true ∧ (s.cap n.val).trigBy < 2) (st
     [(CAP.TRIG_CFG.mode, 3, 9, 0, 0)] {}) 9) ∧
    ((fun (s : State) (n : Fin 16) => s.trigBase n.val = 2 ∧ s.trigDue n.val = true ∧ (s.cap n.val).trigBy ≠ 1) (st [(CAP.TRIG_CFG.mode, 2,
     9, 0, 0), (CAP.TRIG_CFG.head, 1, 9, 0, 0), (HEAD.GL_STAT.state, 3, 1, 0, 0), (HEAD.GL_PERIOD_NS.ns, 16666667, 1, 0, 0)]
     { time := { tick := 40000000 }, heads := [(1, { edge := some 1000 })] }) 9) ∧
    ((fun (s : State) (n : Fin 16) (p : Nat) => (s.rd CAP.TRIG_CFG.mode n.val = 3 ∧ (s.cap n.val).trigAt = some p ∧ (s.cap n.val).trigBy =
     2) ∧ (2 * (s.now - p) < min (s.trigPer n.val 1) (s.trigPer n.val 2))) (st [(CAP.TRIG_CFG.mode, 3, 9, 0, 0), (CAP.TRIG_CFG.head, 1, 9,
     0, 0), (CAP.TRIG_PERIOD.us, 2000, 9, 0, 0), (HEAD.GL_PERIOD_NS.ns, 16666667, 1, 0, 0)]
     { caps := [(9, { trigAt := some 0, trigBy := 2 })] }) 9 0) ∧
    ((fun (s : State) (n : Fin 16) => s.rd CAP.TRIG_CFG.mode n.val < 2) {} 9) :=
  ⟨by decide +kernel,
   by refine ⟨?_, ?_, ?_⟩ <;> decide +kernel,
   by decide +kernel,
   by decide +kernel,
   by decide +kernel,
   by decide +kernel,
   by refine ⟨?_, ?_, ?_, ?_, ?_⟩ <;> decide +kernel,
   by decide +kernel,
   by refine ⟨?_, ?_⟩ <;> decide +kernel,
   by decide +kernel,
   by decide +kernel,
   by decide +kernel,
   by refine ⟨?_, ?_⟩ <;> decide +kernel,
   by refine ⟨?_, ?_⟩ <;> decide +kernel,
   by refine ⟨?_, ?_⟩ <;> decide +kernel,
   by decide +kernel,
   by decide +kernel,
   by refine ⟨?_, ?_⟩ <;> decide +kernel,
   by decide +kernel⟩

theorem wit_TouchScans :
    ((fun (s : State) (p : Fin 8) (l : List (List Nat)) (a : List Nat) (b : List Nat) (c : List Nat) => s.touchOn p.val = true ∧ s.tiles
     p.val = 1) (st [(TOUCH.SURF_CTRL.enable, 1, 6, 0, 0), (HDR.enable .touch, 1, 6, 0, 0), (HDR.enable .touch, 1, 7, 0, 0),
     (TOUCH.TILE_STAT.state, 1, 6, 0, 0), (TOUCH.TILE_STAT.state, 1, 7, 0, 0), (SURF.ID_INFO.trk, 0x0203, 3, 0, 0)] {}) 3 ([[5, 6], [7, 8]])
     [] [] []) ∧
    ((fun (s : State) (p : Fin 8) (l : List (List Nat)) (a : List Nat) (b : List Nat) (c : List Nat) => (s.tiles p.val = 2 ∨ s.tiles p.val =
     3) ∧ (s.touchOn p.val = true)) (st [(TOUCH.SURF_CTRL.enable, 1, 6, 0, 0), (HDR.enable .touch, 1, 6, 0, 0), (HDR.enable .touch, 1, 7, 0,
     0), (TOUCH.TILE_STAT.state, 3, 6, 0, 0)] {}) 3 [] [] [] []) ∧
    ((fun (s : State) (p : Fin 8) (h : Nat) => (s.tiles p.val = 3 ∨ (s.tiles p.val = 2 ∧ (s.surface p.val).cal = 3)) ∧ (s.touchSt
     p.val).scanTime s.now = true ∧ (s.touchSt p.val).busy = false ∧ (s.touchSt p.val).next = some h ∧ h < 8) (st [(TOUCH.TILE_STAT.state,
     3, 6, 0, 0)] { touch := [(3, { next := some 5 })] }) 3 5) ∧
    ((fun (s : State) (p : Fin 8) => (s.touchSt p.val).busy = true ∨ (s.touchSt p.val).scanTime s.now = false)
     ({ touch := [(3, { busy := true })] }) 3) ∧
    ((fun (s : State) (p : Fin 8) (sl : List SlotObs) => (s.touchSt p.val).busy = true) (st [(TOUCH.TILE_STAT.state, 3, 6, 0, 0),
     (SURF.ID_INFO.trk, 0x010102, 3, 0, 0)]
     { touch := [(3, { busy := true, cfg := [50, 3, 20, 300, 200, 10, 40, 20, 4, 1, 0], keyCfg := [30, 4, 2, 2], runs := [0], base := [9, 9, 9], delta := [0, 0, 0], raw := [0, 0, 0], suspect := [false, false, false], noise := List.replicate 8 0, listen := List.replicate 8 [3] })] })
     3 ([⟨0, none, [7]⟩, ⟨0, none, [7]⟩, ⟨0, none, [8]⟩, ⟨0, none, [9]⟩, ⟨0, none, [9]⟩])) ∧
    ((fun (s : State) (p : Fin 8) (sl : List SlotObs) => (s.touchSt p.val).busy = false) {} 3 []) ∧
    ((fun (s : State) (w : Who) (p : Fin 8) (v : Word) => (accepts s w .touch (2 * p.val) 0x200 (setBit v.toNat 1) = true) ∧ (s.tiles p.val
     = 2 ∨ s.tiles p.val = 3)) (st [(TOUCH.TILE_STAT.state, 3, 6, 0, 0)] {}) .mgr 3 1) ∧
    ((fun (s : State) (w : Who) (p : Fin 8) (v : Word) => (accepts s w .touch (2 * p.val) 0x200 (setBit v.toNat 2) = true) ∧ (s.tiles p.val
     = 2 ∨ s.tiles p.val = 3)) (st [(TOUCH.TILE_STAT.state, 3, 6, 0, 0)] {}) .mgr 3 1) ∧
    ((fun (pressed : Bool) (run : Nat) (thr : Nat) (hyst : Nat) (dp : Nat) (dr : Nat) (d : Int) => (pressed = false) ∧ (dp ≤ run + 1)) false
     1 30 4 2 2 35) :=
  ⟨by decide +kernel,
   by refine ⟨?_, ?_⟩ <;> decide +kernel,
   by decide +kernel,
   by decide +kernel,
   by decide +kernel,
   by decide +kernel,
   by refine ⟨?_, ?_⟩ <;> decide +kernel,
   by refine ⟨?_, ?_⟩ <;> decide +kernel,
   by refine ⟨?_, ?_⟩ <;> decide +kernel⟩

theorem wit_TouchReports :
    ((fun (s : State) (p : Fin 8) (d : List Byte) (a : Nat) (prod : Nat) (phase : Nat) => ((s.touchSt p.val).due = some d ∧ s.on
     TOUCH.RPT_CTRL.enable (2 * p.val) = true ∧ s.rptWaiting p.val < s.rptEntries p.val) ∧ (prod = s.rd TOUCH.RPT_PROD.prod (2 * p.val) ∧ a
     = s.rd TOUCH.RPT_BASE.base (2 * p.val) / 4096 * 4096 + prod % s.rptEntries p.val * 128 ∧ phase = (if prod / s.rptEntries p.val % 2 = 0
     then 1 else 0)) ∧ (s.memFault (reqFor (s.rd (HDR.owner .touch) (2 * p.val)) portStream false) true a d.length = none)) (st
     [(TOUCH.RPT_CTRL.enable, 1, 6, 0, 0), (TOUCH.RPT_BASE.base, 0x6000, 6, 0, 0)]
     { touch := [(3, { due := some (List.replicate 128 7) })] }) 3 (List.replicate 128 7) 0x6000 0 1) ∧
    ((fun (s : State) (p : Fin 8) (d : List Byte) => (s.touchSt p.val).due = some d ∧ s.on TOUCH.RPT_CTRL.enable (2 * p.val) = true ∧
     s.rptEntries p.val ≤ s.rptWaiting p.val ∧ (s.touchSt p.val).held = none) (st [(TOUCH.RPT_CTRL.enable, 1, 6, 0, 0),
     (TOUCH.RPT_SIZE.size, 0, 6, 0, 0), (TOUCH.RPT_PROD.prod, 16, 6, 0, 0)] { touch := [(3, { due := some [7] })] }) 3 [7]) ∧
    ((fun (s : State) (p : Fin 8) => s.on TOUCH.RPT_CTRL.enable (2 * p.val) = false) (st [(TOUCH.RPT_CTRL.enable, 0, 6, 0, 0)]
     { touch := [(3, { due := some [7] })] }) 3) ∧
    ((fun (s : State) (w : Who) (p : Fin 8) => accepts s w .touch (2 * p.val) 0x2D0 1 = true) (st [(TOUCH.RPT_PROD.prod, 5, 6, 0, 0)]
     { touch := [(3, { held := some [7] })] }) .mgr 3) ∧
    ((fun (s : State) (w : Who) (p : Fin 8) (v : Word) => (accepts s w .touch (2 * p.val) 0x2E4 v.toNat = true) ∧ (s.rptEntries p.val <
     (s.rd TOUCH.RPT_PROD.prod (2 * p.val) + 2 ^ 24 - v.toNat % 2 ^ 24) % 2 ^ 24)) {} .mgr 3 5) ∧
    ((fun (s : State) (w : Who) (p : Fin 8) (v : Word) => (accepts s w .touch (2 * p.val) 0x2E4 v.toNat = true) ∧ ((s.rd TOUCH.RPT_PROD.prod
     (2 * p.val) + 2 ^ 24 - v.toNat % 2 ^ 24) % 2 ^ 24 ≤ s.rptEntries p.val)) (st [(TOUCH.RPT_PROD.prod, 5, 6, 0, 0)] {}) .mgr 3 4) ∧
    ((fun (s : State) (p : Fin 8) (bal : List Nat) => (s.tiles p.val = 4 ∧ (s.touchSt p.val).wBase.length ≠ s.wakeGroups p.val) ∧ (∀ a,
     (s.touchSt p.val).wAt = some a → s.past a 50000000 = true)) (st [(TOUCH.TILE_STAT.state, 4, 6, 0, 0), (TOUCH.WAKE_CFG.group, 1, 6, 0,
     0)] { surf := [(3, { map := [(1, 0), (1, 1)] })] }) 3 ([100, 200])) ∧
    ((fun (s : State) (p : Fin 8) (bal : List Nat) => s.tiles p.val ≠ 4) {} 3 []) :=
  ⟨by refine ⟨?_, ?_, ?_⟩ <;> decide +kernel,
   by decide +kernel,
   by decide +kernel,
   by decide +kernel,
   by refine ⟨?_, ?_⟩ <;> decide +kernel,
   by refine ⟨?_, ?_⟩ <;> decide +kernel,
   by refine ⟨?_, ?_⟩ <;> decide +kernel,
   by decide +kernel⟩

theorem wit_SurfacePorts :
    ((fun (s : State) (w : Who) (p : Fin 8) => (accepts s w .surf p.val 0x100 1 = true) ∧ (s.rd SURF.SURF_STAT.state p.val = 0))
     ({ pins := { present := 8 }, surf := [(3, { chal := [1] })] }) .mgr 3) ∧
    ((fun (s : State) (w : Who) (p : Fin 8) => (accepts s w .surf p.val 0x100 0 = true) ∧ (s.rd SURF.SURF_STAT.state p.val = 3)) (st
     [(SURF.SURF_STAT.state, 3, 3, 0, 0), (SURF.HV_STAT.on, 1, 3, 0, 0)] {}) .mgr 3) ∧
    ((fun (s : State) (w : Who) (p : Fin 8) => (accepts s w .surf p.val 0x100 0 = true) ∧ (s.rd SURF.SURF_STAT.state p.val ≠ 3)) (st
     [(SURF.SURF_STAT.state, 2, 3, 0, 0)] {}) .mgr 3) ∧
    ((fun (s : State) (p : Fin 8) => s.rd SURF.SURF_STAT.state p.val = 3 ∨ s.rd SURF.SURF_STAT.state p.val = 2) (st [(SURF.SURF_STAT.state,
     3, 3, 0, 0), (SURF.HV_STAT.on, 1, 3, 0, 0)] { pins := { present := 0xFF } }) 3) ∧
    ((fun (s : State) (p : Fin 8) => s.rd SURF.SURF_STAT.state p.val = 1) (st [(SURF.SURF_STAT.state, 1, 3, 0, 0)] {}) 3) ∧
    ((fun (s : State) (p : Fin 8) => s.rd SURF.SURF_STAT.state p.val ≠ 1) (st [(SURF.SURF_STAT.state, 0, 3, 0, 0)] {}) 3) ∧
    ((fun (s : State) (p : Fin 8) (a : List Byte) (b : List Byte) => s.rd SURF.SURF_STAT.state p.val = 2 ∧ (s.surface p.val).chal = []) (st
     [(SURF.SURF_STAT.state, 2, 3, 0, 0)] {}) 3 [] []) ∧
    ((fun (s : State) (p : Fin 8) (hd : List Byte) (rf : List Byte) (a : List Byte) (b : List Byte) => (s.rd SURF.SURF_STAT.state p.val = 2
     ∧ (s.surface p.val).chal = []) ∧ (hd.length = 512 ∧ idHeaderOk hd = true)) (st [(SURF.SURF_STAT.state, 2, 3, 0, 0)] {}) 3 ([0x53, 0x53,
     0x46, 0x49, 1, 0] ++ List.replicate 22 0 ++ [116, 216, 38, 54] ++ List.replicate 480 0) [] [] []) ∧
    ((fun (s : State) (p : Fin 8) (a : List Byte) (b : List Byte) (g : Option (List Byte × List Byte)) => s.rd SURF.SURF_STAT.state p.val ≠
     2) {} 3 [] [] none) ∧
    ((fun (s : State) (p : Fin 8) => s.rd SURF.SURF_STAT.state p.val = 2 ∧ (s.surface p.val).chal ≠ []) (st [(SURF.SURF_STAT.state, 2, 3, 0,
     0)] { surf := [(3, { chal := [1] })] }) 3) ∧
    ((fun (s : State) (p : Fin 8) (r : BitVec 256) (q : BitVec 256) (k : SurfSt) => k = s.surface p.val ∧ s.rd SURF.SURF_STAT.state p.val =
     2 ∧ k.chal ≠ []) (st [(SURF.SURF_STAT.state, 2, 3, 0, 0)] { surf := [(3, { chal := [1] })] }) 3 1 2 ({ chal := [1] })) ∧
    ((fun (s : State) (p : Fin 8) => s.rd SURF.SURF_STAT.state p.val ≠ 2) {} 3) :=
  ⟨by refine ⟨?_, ?_⟩ <;> decide +kernel,
   by refine ⟨?_, ?_⟩ <;> decide +kernel,
   by refine ⟨?_, ?_⟩ <;> decide +kernel,
   by decide +kernel,
   by decide +kernel,
   by decide +kernel,
   by decide +kernel,
   by refine ⟨?_, ?_⟩ <;> decide +kernel,
   by decide +kernel,
   by decide +kernel,
   by decide +kernel,
   by decide +kernel⟩

theorem wit_WearAndHighVoltage :
    ((fun (s : State) (w : Who) (p : Fin 8) (v : Word) => accepts s w .surf p.val 0x118 v.toNat = true) (st [(SURF.SURF_STAT.state, 3, 3, 0,
     0), (SURF.SURF_STAT.auth, 1, 3, 0, 0), (SAFE.HV_PERMIT.ports, 8, 0, 0, 0), (HAPT.BOOST_CTRL.enable, 1, 0, 0, 0), (PWR.STATE.state, 0,
     0, 0, 0)] {}) .mgr 3 1) ∧
    ((fun (s : State) (w : Who) (p : Fin 8) (v : Word) => accepts s w .surf p.val 0x118 (setBit v.toNat 1) = true) (st [(SURF.CH_STAT.oc, 1,
     3, 2, 0)] {}) .mgr 3 1) ∧
    ((fun (s : State) (p : Fin 8) (n : Fin 4) => s.on SURF.HV_STAT.on p.val = true) (st [(SURF.HV_STAT.on, 1, 3, 0, 0)] {}) 3 2) ∧
    ((fun (s : State) (p : Fin 8) (n : Fin 4) => s.on SURF.HV_STAT.on p.val = false) {} 3 2) ∧
    ((fun (s : State) (p : Fin 8) => s.on HAPT.BOOST_STAT.on = true) (st [f0 HAPT.BOOST_STAT.on 1, (SURF.HV_STAT.on, 1, 3, 0, 0)] {}) 3) ∧
    ((fun (s : State) => s.on HAPT.BOOST_STAT.on = false) {}) ∧
    ((fun (s : State) (w : Who) (v : Word) (p : Fin 8) => accepts s w .hapt 0 0x100 (setBit v.toNat 1) = true) (st [f0 HAPT.BOOST_STAT.fault
     1] {}) .mgr 1 3) ∧
    ((fun (s : State) (p : Fin 8) (n : Fin 4) => s.rd SURF.SURF_STAT.state p.val = 3 ∧ s.on SURF.HV_STAT.on p.val = true ∧ mget (s.surface
     p.val).hot n.val 0 ≠ 0 ∧ mget (s.surface p.val).run n.val 0 = 0 ∧ 10 ≤ mget (s.surface p.val).idle n.val 10) (st
     [(SURF.SURF_STAT.state, 3, 3, 0, 0), (SURF.HV_STAT.on, 1, 3, 0, 0), (SURF.CH_WEAR.count, 7, 3, 2, 0)]
     { surf := [(3, { hot := [(2, 1)] })] }) 3 2) ∧
    ((fun (s : State) (p : Fin 8) (n : Fin 4) => s.on SURF.HV_STAT.on p.val = false ∨ mget (s.surface p.val).hot n.val 0 = 0) (st
     [(SURF.SURF_STAT.state, 3, 3, 0, 0), (SURF.CH_WEAR.count, 7, 3, 2, 0)] {}) 3 2) ∧
    ((fun (s : State) (p : Fin 8) => ((s.surface p.val).wearDue = true) ∧ (∀ a, (s.surface p.val).wearAt = some a → s.past a 1000000000 =
     true ∨ (s.surface p.val).leaving = true)) (st [(SURF.SURF_STAT.state, 3, 3, 0, 0)]
     { surf := [(3, { wearDue := true, leaving := true })] }) 3) ∧
    ((fun (s : State) (p : Fin 8) => ((s.surface p.val).wearDue = true ∧ (s.surface p.val).leaving = false) ∧ (∀ a, (s.surface p.val).wearAt
     = some a → s.past a 1000000000 = true ∨ (s.surface p.val).leaving = true)) ({ surf := [(3, { wearDue := true })] }) 3) ∧
    ((fun (s : State) (p : Fin 8) (ok : Bool) => (s.surface p.val).wearDue = false) {} 3 true) :=
  ⟨by decide +kernel,
   by decide +kernel,
   by decide +kernel,
   by decide +kernel,
   by decide +kernel,
   by decide +kernel,
   by decide +kernel,
   by decide +kernel,
   by decide +kernel,
   by refine ⟨?_, ?_⟩ <;> decide +kernel,
   by refine ⟨?_, ?_⟩ <;> decide +kernel,
   by decide +kernel⟩

theorem wit_HapticStreamsAndThrottle :
    ((fun (s : State) (w : Who) (p : Fin 8) (v : Word) => (accepts s w .surf p.val 0x120 (setBit v.toNat 24) = true) ∧ (s.rd (HDR.owner
     .surf) p.val = 0xFE ∧ (s.ring (bits v.toNat 0 12)).enable = true ∧ (s.ring (bits v.toNat 0 12)).type = 6) ∧ ((List.range 4).all (fun n
     => !bit v.toNat (16 + n) || s.holdsHapt 0xFE (hapCh p.val n)) = true)) ({ rings := { ctx := [(5, { enable := true, type := 6 })] } })
     .mgr 3 0x30005) ∧
    ((fun (s : State) (w : Who) (p : Fin 8) (v : Word) => (accepts s w .surf p.val 0x120 (setBit v.toNat 24) = true) ∧ (s.rd (HDR.owner
     .surf) p.val = 0xFE ∧ (s.ring (bits v.toNat 0 12)).enable = false)) {} .mgr 3 0x30005) ∧
    ((fun (s : State) (p : Fin 8) (q : Nat) (v : List Int) (l : List (Nat × List Int)) (f : Feed) => f = (s.surface p.val).feed ∧ f.st = 2 ∧
     f.frames = (q, v) :: l ∧ f.jobs = [] ∧ s.on SURF.STREAM_CFG.enable p.val = false)
     ({ surf := [(3, { feed := { st := 2, frames := [(1, [5]), (1, [6])] } })] }) 3 1 [5] ([(1, [6])])
     ({ st := 2, frames := [(1, [5]), (1, [6])] })) ∧
    ((fun (s : State) (p : Fin 8) (f : Feed) => f = (s.surface p.val).feed ∧ f.st = 3 ∧ f.ramp = 1 ∧ f.frames = [] ∧ f.jobs = [] ∧ s.on
     SURF.STREAM_CFG.enable p.val = false) ({ surf := [(3, { feed := { st := 3, ramp := 1, level := [6] } })] }) 3
     ({ st := 3, ramp := 1, level := [6] })) ∧
    ((fun (s : State) (p : Fin 8) => (s.surface p.val).cal = 1 ∧ s.rd SURF.SURF_STAT.state p.val = 3 ∧ s.rd SURF.SURF_STAT.auth p.val = 1 ∧
     bit (s.rd SAFE.HV_PERMIT.ports) p.val = true) (st [(SURF.SURF_STAT.state, 3, 3, 0, 0), (SURF.SURF_STAT.auth, 1, 3, 0, 0),
     (SAFE.HV_PERMIT.ports, 8, 0, 0, 0)] { surf := [(3, { cal := 1 })] }) 3) ∧
    ((fun (s : State) (p : Fin 8) => (s.surface p.val).cal = 1 ∧ s.rd SURF.SURF_STAT.state p.val = 3 ∧ s.rd SURF.SURF_STAT.auth p.val ≠ 1)
     (st [(SURF.SURF_STAT.state, 3, 3, 0, 0), (SURF.SURF_STAT.auth, 2, 3, 0, 0)] { surf := [(3, { cal := 1 })] }) 3) ∧
    ((fun (s : State) (p : Fin 8) (c : Fin 4) (f : BitVec 16) (q : BitVec 16) (r : BitVec 16) (m : BitVec 16) => ((s.surface p.val).cal = 2
     ∧ (s.surface p.val).calCh = c.val ∧ s.on SURF.HV_STAT.on p.val = true) ∧ (1280 ≤ f.toNat ∧ f.toNat ≤ 6400 ∧ r = f)) (st
     [(SURF.HV_STAT.on, 1, 3, 0, 0)] { surf := [(3, { cal := 2, calCh := 3 })] }) 3 3 3000 9 3000 8) ∧
    ((fun (s : State) (p : Fin 8) => (s.surface p.val).cal ≠ 2) {} 3) ∧
    ((fun (s : State) (mw : BitVec 14) (vout : BitVec 12) (temp : BitVec 11) (c : Nat) => s.throttleNext = some c ∧ c < 32 ∧ min 16000 (s.rd
     HAPT.BUDGET.mw) < mw.toNat) (st [f0 HAPT.BUDGET.mw 100] {}) 2000 1200 160 31) :=
  ⟨by refine ⟨?_, ?_, ?_⟩ <;> decide +kernel,
   by refine ⟨?_, ?_⟩ <;> decide +kernel,
   by decide +kernel,
   by decide +kernel,
   by decide +kernel,
   by decide +kernel,
   by refine ⟨?_, ?_⟩ <;> decide +kernel,
   by decide +kernel,
   by decide +kernel⟩

theorem wit_AudioEngine :
    ((fun (s : State) (inp : List Int) => s.on AUDIO.ENG_STAT.running = true) (st [f0 AUDIO.ENG_STAT.running 1] {}) ([1, 2])) ∧
    ((fun (s : State) (inp : List Int) (n : Fin 32) => (s.on AUDIO.ENG_STAT.running = true ∧ s.rd SAFE.ALARM_CFG.slot ≠ n.val) ∧ (s.on
     AUDIO.PORT_CTRL.enable 0 (n.val / 8) = false ∨ bit (s.pword (112 + n.val)) 4 = false)) (st [f0 AUDIO.ENG_STAT.running 1, f0
     SAFE.ALARM_CFG.slot 9] {}) ([1, 2]) 3) ∧
    ((fun (s : State) (inp : List Int) => s.on AUDIO.ENG_STAT.running = false) (st [f0 AUDIO.ENG_STAT.running 0] {}) ([1, 2])) ∧
    ((fun (s : State) (w : Who) => (accepts s w .audio 0 0x10C 1 = true) ∧ (s.on AUDIO.SAFELOAD.pending = false))
     ({ audio := { staging := [(3, 0x4000), (96, 5)] } }) .mgr) ∧
    ((fun (s : State) (w : Who) => (accepts s w .audio 0 0x10C 1 = true) ∧ (s.on AUDIO.SAFELOAD.pending = true)) (st [f0
     AUDIO.SAFELOAD.pending 1] {}) .mgr) ∧
    ((fun (s : State) (c : Fin 208) => (c.val ∈ s.audio.waits) ∧ (s.past s.audio.loadAt (ms (max 1 (s.rd AUDIO.GAIN_TIMEOUT.ms))) = true))
     ({ audio := { active := [(3, 0x4000)], waits := [6, 7] }, time := { tick := 2000000000 } }) 6) ∧
    ((fun (s : State) (c : Fin 208) => c.val ∉ s.audio.waits) {} 6) ∧
    ((fun (s : State) (w : Who) (v : Word) (k : Nat) => (accepts s w .audio 0 0x118 v.toNat = true) ∧ (k = s.rd AUDIO.PSET_INDEX.index ∧ k <
     144 ∧ s.on AUDIO.PSET_INDEX.active = false)) (st [f0 AUDIO.PSET_INDEX.index 9] {}) .mgr 0x12345678 9) ∧
    ((fun (s : State) (w : Who) (k : Nat) => (readable s w .audio 0 0x118 = true) ∧ (k = s.rd AUDIO.PSET_INDEX.index ∧ k < 144)) (st [f0
     AUDIO.PSET_INDEX.index 9] { audio := { staging := [(9, 5)] } }) .mgr 9) ∧
    ((fun (s : State) (w : Who) (v : Word) (r : Nat) => (accepts s w .audio 0 0x124 (setBit v.toNat 18) = true) ∧ (r = bits v.toNat 0 18 ∧
     (s.ring r).enable = false)) {} .mgr 5 5) ∧
    ((fun (s : State) (w : Who) (v : Word) (r : Nat) (k : Nat) => (accepts s w .audio 0 0x124 (setBit v.toNat 18) = true) ∧ (r = bits
     v.toNat 0 18 ∧ k = s.rd AUDIO.STRM_SEL.stream ∧ (s.ring r).enable = true ∧ (s.ring r).type = 5 ∧ ringInst r = 0)) (st [f0
     AUDIO.STRM_SEL.stream 7] { rings := { ctx := [(5, { enable := true, type := 5 })] } }) .mgr 5 5 7) :=
  ⟨by decide +kernel,
   by refine ⟨?_, ?_⟩ <;> decide +kernel,
   by decide +kernel,
   by refine ⟨?_, ?_⟩ <;> decide +kernel,
   by refine ⟨?_, ?_⟩ <;> decide +kernel,
   by refine ⟨?_, ?_⟩ <;> decide +kernel,
   by decide +kernel,
   by refine ⟨?_, ?_⟩ <;> decide +kernel,
   by refine ⟨?_, ?_⟩ <;> decide +kernel,
   by refine ⟨?_, ?_⟩ <;> decide +kernel,
   by refine ⟨?_, ?_⟩ <;> decide +kernel⟩

theorem wit_AudioPortsAndAlarm :
    ((fun (s : State) (p : Fin 4) => s.portClk p.val = 1 ∧ s.on AUDIO.PORT_CTRL.enable 0 p.val = true ∧ s.on AUDIO.PORT_STAT.clk_lost 0
     p.val = false ∧ s.on AUDIO.PORT_STAT.waiting 0 p.val = false) (st [(AUDIO.PORT_CFG.clk, 1, 0, 2, 0), (AUDIO.PORT_CTRL.enable, 1, 0, 2,
     0)] {}) 2) ∧
    ((fun (s : State) (p : Fin 4) => s.portClk p.val ≠ 1) {} 0) ∧
    ((fun (s : State) (p : Fin 4) => s.portClk p.val = 1 ∧ s.on AUDIO.PORT_CTRL.enable 0 p.val = true) (st [(AUDIO.PORT_CFG.clk, 1, 0, 2,
     0), (AUDIO.PORT_CTRL.enable, 1, 0, 2, 0)] {}) 2) ∧
    ((fun (s : State) (w : Who) (p : Fin 4) => (accepts s w .audio 0 (0x188 + 0x20 * p.val) 1 = true) ∧ (s.on AUDIO.PORT_STAT.clk_lost 0
     p.val = true)) (st [(AUDIO.PORT_STAT.clk_lost, 1, 0, 2, 0)] {}) .mgr 2) ∧
    ((fun (s : State) (p : Fin 4) => s.on AUDIO.PORT_STAT.waiting 0 p.val = true) (st [(AUDIO.PORT_STAT.waiting, 1, 0, 2, 0)] {}) 2) ∧
    ((fun (s : State) (p : Fin 4) => s.on AUDIO.PORT_STAT.waiting 0 p.val = false) {} 2) ∧
    ((fun (s : State) (p : Fin 4) => s.portClk p.val ≠ 0 ∧ s.on AUDIO.PORT_CTRL.enable 0 p.val = true ∧ s.on AUDIO.PORT_STAT.locked 0 p.val
     = true) (st [(AUDIO.PORT_CFG.clk, 2, 0, 2, 0), (AUDIO.PORT_CTRL.enable, 1, 0, 2, 0), (AUDIO.PORT_STAT.locked, 1, 0, 2, 0)] {}) 2) ∧
    ((fun (s : State) (p : Fin 4) (hz : BitVec 20) => s.portClk p.val ≠ 0 ∧ s.on AUDIO.PORT_CTRL.enable 0 p.val = true ∧ s.on
     AUDIO.PORT_STAT.locked 0 p.val = false) (st [(AUDIO.PORT_CFG.clk, 2, 0, 2, 0), (AUDIO.PORT_CTRL.enable, 1, 0, 2, 0)] {}) 2 44100) ∧
    ((fun (s : State) (p : Fin 4) (hz : BitVec 20) => s.portClk p.val = 0) {} 0 44100) ∧
    ((fun (s : State) => s.framerPll = true) (st [f0 (HDR.enable .audio) 1, (CLK.PLL_STAT.lock, 1, 0, 20, 0)] {})) ∧
    ((fun (s : State) => s.framerPll = false) (st [f0 (HDR.enable .audio) 0] { audio := { out := [(3, 9)] } })) ∧
    ((fun (s : State) (p : Fin 4) => (s.rd AUDIO.SIL_CFG.amp_mode 0 p.val = 0 ∧ s.on AUDIO.PORT_CTRL.enable 0 p.val = true) ∧ (p.val ≠ 0 ∨
     s.alarm.hold = false) ∧ (s.past (mget s.audio.loud p.val 0) (s.silHold p.val) = true)) (st [(AUDIO.SIL_CFG.amp_mode, 0, 0, 2, 0),
     (AUDIO.PORT_CTRL.enable, 1, 0, 2, 0)] { audio := { awake := 4 }, pins := { ampEn := 4 }, time := { tick := 2000000000 } }) 2) ∧
    ((fun (s : State) (w : Who) (k : Fin 8) => (accepts s w .safe 0 0x200 (k.val + 256) = true) ∧ (s.on SAFE.ALARM_CTRL.run = false) ∧
     (s.pwr.safeUp = true)) ({ pwr := { safeUp := true } }) .saf 5) ∧
    ((fun (s : State) (w : Who) (k : Fin 8) => (accepts s w .safe 0 0x200 k.val = true) ∧ (s.on SAFE.ALARM_CTRL.run = true)) (st [f0
     SAFE.ALARM_CTRL.run 1] { alarm := { start := some 0 } }) .saf 5) ∧
    ((fun (s : State) (w : Who) (k : Fin 8) (b : Nat) => (accepts s w .safe 0 0x200 (k.val + 256 * s.rd SAFE.ALARM_CTRL.run) = true) ∧ (s.on
     SAFE.ALARM_CTRL.run = true ∧ s.alarm.start = some b ∧ s.alarm.next = none)) (st [f0 SAFE.ALARM_CTRL.run 1]
     { alarm := { start := some 0 } }) .saf 5 0) ∧
    ((fun (s : State) => (s.on SAFE.ALARM_CTRL.run = true ∧ s.alarm.next = none ∧ s.rd SAFE.ALARM_PAT_T.repeat 0 s.alarm.pattern ≠ 0) ∧
     (s.alarmPlayed = true)) (st [f0 SAFE.ALARM_CTRL.run 1, (SAFE.ALARM_PAT_T.repeat, 2, 0, 5, 0)]
     { alarm := { start := some 0, pattern := 5 }, time := { tick := 2000000000 } })) ∧
    ((fun (s : State) => (s.on SAFE.ALARM_CTRL.run = false ∧ s.on AUDIO.PORT_CTRL.enable 0 0 = false) ∧ (s.past s.alarm.stopAt 100000000 =
     true)) (st [f0 SAFE.ALARM_CTRL.run 0, (AUDIO.PORT_CTRL.enable, 0, 0, 0, 0)]
     { alarm := { hold := true }, pins := { ampEn := 1 }, time := { tick := 2000000000 } })) ∧
    ((fun (s : State) => s.on SAFE.ALARM_CTRL.run = true) (st [f0 SAFE.ALARM_CTRL.run 1] {})) ∧
    ((fun (s : State) (inp : List Int) => s.alarmSounds = false ∨ s.on SAFE.ALARM_CFG.tdm_en = false ∨ s.now < s.alarm.tdmFrom) (st [f0
     AUDIO.ENG_STAT.running 1, f0 SAFE.ALARM_CFG.slot 3] { alarm := { tone := 77 }, audio := { out := [(3, 9)] } }) ([1, 2])) :=
  ⟨by decide +kernel,
   by decide +kernel,
   by decide +kernel,
   by refine ⟨?_, ?_⟩ <;> decide +kernel,
   by decide +kernel,
   by decide +kernel,
   by decide +kernel,
   by decide +kernel,
   by decide +kernel,
   by decide +kernel,
   by decide +kernel,
   by refine ⟨?_, ?_, ?_⟩ <;> decide +kernel,
   by refine ⟨?_, ?_, ?_⟩ <;> decide +kernel,
   by refine ⟨?_, ?_⟩ <;> decide +kernel,
   by refine ⟨?_, ?_⟩ <;> decide +kernel,
   by refine ⟨?_, ?_⟩ <;> decide +kernel,
   by refine ⟨?_, ?_⟩ <;> decide +kernel,
   by decide +kernel,
   by decide +kernel⟩

theorem wit_PanelControls :
    ((fun (s : State) (e : Fin 16) (a : Bool) (b : Bool) => (s.encSampled e.val = true ∧ s.on ENC.ENC_CFG.enable 0 e.val = true) ∧ ((grayPos
     (s.on ENC.ENC_STAT.a 0 e.val) (s.on ENC.ENC_STAT.b 0 e.val) + 1) % 4 = grayPos a b)) (st [(ENC.ENC_CFG.enable, 1, 0, 9, 0),
     (PWR.STATE.state, 0, 0, 0, 0)] {}) 9 true false) ∧
    ((fun (s : State) (e : Fin 16) (a : Bool) (b : Bool) => (s.encSampled e.val = true ∧ s.on ENC.ENC_CFG.enable 0 e.val = true) ∧ (a ≠ s.on
     ENC.ENC_STAT.a 0 e.val ∧ b ≠ s.on ENC.ENC_STAT.b 0 e.val)) (st [(ENC.ENC_CFG.enable, 1, 0, 9, 0), (PWR.STATE.state, 0, 0, 0, 0)] {}) 9
     true true) ∧
    ((fun (s : State) (e : Fin 16) (a : Bool) (b : Bool) => s.encSampled e.val = false) (st [(PWR.STATE.state, 4, 0, 0, 0)] {}) 9 true false) ∧
    ((fun (s : State) (e : Fin 16) => s.past (mget s.pwr.encAt e.val 0) (ms 10) = true) (st [(ENC.ENC_STAT.burst, 1, 0, 9, 0)]
     { time := { tick := 2000000 } }) 9) ∧
    ((fun (s : State) (w : Who) (e : Fin 16) (v : Word) => (accepts s w .enc 0 (0x10C + 16 * e.val) v.toNat = true) ∧ (s.pinReach w .enc
     (0x10C + 16 * e.val) = true)) {} .mgr 9 0x80001234) ∧
    ((fun (s : State) (w : Who) (e : Fin 16) (v : Word) => (accepts s w .enc 0 (0x10C + 16 * e.val) v.toNat = true) ∧ (s.pinReach w .enc
     (0x10C + 16 * e.val) = false)) (st [(GPIO.PIN_OWNER.owner, 0x45, 0, 57, 0)] {}) .mgr 9 0x80001234) ∧
    ((fun (s : State) (k : Fin 32) (l : Bool) => (s.on GPIO.DIN_CFG.state 0 k.val = !l) ∧ (s.on (if l then GPIO.DIN_CFG.rise_en else
     GPIO.DIN_CFG.fall_en) 0 k.val = true) ∧ (s.mainSampled = true ∧ s.past (mget s.ctl.dinAt k.val 0) (ms (s.rd GPIO.DIN_CFG.deb_ms 0
     k.val)) = true)) (st [(GPIO.DIN_CFG.rise_en, 1, 0, 9, 0), (GPIO.DIN_CFG.state, 0, 0, 9, 0), f0 PWR.STATE.state 0]
     { time := { tick := 2000000 }, pwr := { mainUp := true } }) 9 true) ∧
    ((fun (s : State) (k : Fin 32) (l : Bool) => s.on GPIO.DIN_CFG.state 0 k.val = l) {} 9 false) ∧
    ((fun (s : State) (i : Fin 48) (l : Bool) => (s.gpioOutside i.val = !l) ∧ (s.gpioFunc i.val = 0 ∧ s.on (if l then GPIO.GPIO_CFG.rise_en
     else GPIO.GPIO_CFG.fall_en) 0 i.val = true) ∧ (s.mainSampled = true)) (st [(GPIO.GPIO_CFG.rise_en, 1, 0, 9, 0), f0 PWR.STATE.state 0,
     (GPIO.GPIO_CFG.pull, 1, 0, 9, 0)] { pwr := { mainUp := true } }) 9 true) ∧
    ((fun (s : State) (i : Fin 48) (l : Bool) => s.gpioOutside i.val = l) (st [(GPIO.GPIO_CFG.pull, 1, 0, 9, 0)] {}) 9 false) ∧
    ((fun (s : State) (w : Who) (i : Fin 48) (v : Word) => (accepts s w .gpio 0 (0x300 + 4 * i.val) v.toNat = true) ∧ (s.pinReach w .gpio
     (0x300 + 4 * i.val) = true ∧ s.pinConflict i.val (v.toNat % 32) = false)) {} .mgr 9 8) ∧
    ((fun (s : State) (w : Who) (i : Fin 48) (v : Word) => (accepts s w .gpio 0 (0x300 + 4 * i.val) v.toNat = true) ∧ (s.pinReach w .gpio
     (0x300 + 4 * i.val) = true ∧ s.pinConflict i.val (v.toNat % 32) = true)) (st [(GPIO.GPIO_CFG.func, 8, 0, 7, 0)] {}) .mgr 9 8) ∧
    ((fun (s : State) (w : Who) (i : Fin 96) (v : Word) => (accepts s w .gpio 0 (0x100 + 4 * i.val) v.toNat = true) ∧ (s.pinOwnerOk i.val
     (v.toNat % 256) = true)) {} .mgr 9 0xFF) ∧
    ((fun (s : State) (w : Who) (i : Fin 96) (v : Word) => (accepts s w .gpio 0 (0x100 + 4 * i.val) v.toNat = true) ∧ (s.pinOwnerOk i.val
     (v.toNat % 256) = false)) {} .mgr 9 5) ∧
    ((fun (s : State) (w : Who) (c : Fin 4) (v : Word) => (accepts s w .gpio 0 (0x500 + 0x20 * c.val) (v.toNat ||| 2 ^ 31) = true) ∧
     (s.pinReach w .gpio (0x500 + 0x20 * c.val) = true)) {} .mgr 2 0) ∧
    ((fun (s : State) (c : Fin 4) (n : Fin 17) (d : List Byte) => bit s.ctl.i2cBusy c.val = true) (st [(GPIO.I2C_CTRL.len, 3, 0, 2, 0)]
     { ctl := { i2cBusy := 4, i2cWord := [(2, 0x300)] } }) 2 2 ([1, 2])) ∧
    ((fun (s : State) (c : Fin 4) (n : Fin 17) (d : List Byte) => bit s.ctl.i2cBusy c.val = true ∧ n.val ≤ bits (mget s.ctl.i2cWord c.val 0)
     8 4) (st [(GPIO.I2C_CTRL.len, 3, 0, 2, 0)] { ctl := { i2cBusy := 4, i2cWord := [(2, 0x300)] } }) 2 2 ([1, 2])) ∧
    ((fun (s : State) (c : Fin 4) (r : Fin 3) (n : Fin 17) (d : List Byte) => bit s.ctl.i2cBusy c.val = false) {} 2 0 2 ([1, 2])) ∧
    ((fun (s : State) (w : Who) (u : Fin 2) (v : Word) => (accepts s w .gpio 0 (0x584 + 0x20 * u.val) v.toNat = true) ∧ (s.pinReach w .gpio
     (0x584 + 0x20 * u.val) = true ∧ (s.uartTx u.val).length < 64)) {} .mgr 1 0x41) ∧
    ((fun (s : State) (u : Fin 2) (d : Byte) => ((mget s.ctl.uRx u.val []).length < 64) ∧ (s.uartRxPin u.val = true)) (st
     [(GPIO.GPIO_CFG.func, 19, 0, 5, 0)] { ctl := { uRx := [(1, [5])] } }) 1 0x41) ∧
    ((fun (s : State) (u : Fin 2) (d : Byte) (f : Bool) (p : Bool) => (64 ≤ (mget s.ctl.uRx u.val []).length) ∧ (s.uartRxPin u.val = true))
     (st [(GPIO.GPIO_CFG.func, 19, 0, 5, 0)] { ctl := { uRx := [(1, List.replicate 64 5)] } }) 1 0x41 false false) ∧
    ((fun (s : State) (w : Who) (u : Fin 2) (d : Nat) (q : List Nat) => (readable s w .gpio 0 (0x588 + 0x20 * u.val) = true ∧ s.pinReach w
     .gpio (0x588 + 0x20 * u.val) = true) ∧ (mget s.ctl.uRx u.val [] = d :: q)) ({ ctl := { uRx := [(1, [5, 6])] } }) .mgr 1 5 [6]) :=
  ⟨by refine ⟨?_, ?_⟩ <;> decide +kernel,
   by refine ⟨?_, ?_⟩ <;> decide +kernel,
   by decide +kernel,
   by decide +kernel,
   by refine ⟨?_, ?_⟩ <;> decide +kernel,
   by refine ⟨?_, ?_⟩ <;> decide +kernel,
   by refine ⟨?_, ?_, ?_⟩ <;> decide +kernel,
   by decide +kernel,
   by refine ⟨?_, ?_, ?_⟩ <;> decide +kernel,
   by decide +kernel,
   by refine ⟨?_, ?_⟩ <;> decide +kernel,
   by refine ⟨?_, ?_⟩ <;> decide +kernel,
   by refine ⟨?_, ?_⟩ <;> decide +kernel,
   by refine ⟨?_, ?_⟩ <;> decide +kernel,
   by refine ⟨?_, ?_⟩ <;> decide +kernel,
   by decide +kernel,
   by decide +kernel,
   by decide +kernel,
   by refine ⟨?_, ?_⟩ <;> decide +kernel,
   by refine ⟨?_, ?_⟩ <;> decide +kernel,
   by refine ⟨?_, ?_⟩ <;> decide +kernel,
   by refine ⟨?_, ?_⟩ <;> decide +kernel⟩

theorem wit_TimeBase :
    ((fun (s : State) (m : BitVec 64) => (s.rd TIME.TIME_STAT.master = 1 ∧ s.on TIME.TIME_STAT.valid = false) ∧ (s.ptmDue = true)) (st [f0
     TIME.TIME_STAT.master 1] { time := { tick := 77 } }) 0x123456789) ∧
    ((fun (s : State) (m : BitVec 64) (e : Int) => (s.rd TIME.TIME_STAT.master = 1 ∧ s.on TIME.TIME_STAT.valid = true ∧ e = (m.toNat : Int)
     - s.now - s.timeOffset s.now) ∧ (e ≤ -1000000) ∧ (s.ptmDue = true)) (st [f0 TIME.TIME_STAT.master 1, f0 TIME.TIME_STAT.valid 1]
     { time := { tick := 100 } }) 0 (-3051757)) ∧
    ((fun (s : State) (m : BitVec 64) (e : Int) => (s.rd TIME.TIME_STAT.master = 1 ∧ s.on TIME.TIME_STAT.valid = true ∧ e = (m.toNat : Int)
     - s.now - s.timeOffset s.now) ∧ (1000000 ≤ e) ∧ (s.ptmDue = true)) (st [f0 TIME.TIME_STAT.master 1, f0 TIME.TIME_STAT.valid 1] {})
     2000000 2000000) ∧
    ((fun (s : State) (m : BitVec 64) (e : Int) => (s.rd TIME.TIME_STAT.master = 1 ∧ s.on TIME.TIME_STAT.valid = true ∧ e = (m.toNat : Int)
     - s.now - s.timeOffset s.now) ∧ (0 < e ∧ e < 1000000) ∧ (s.ptmDue = true)) (st [f0 TIME.TIME_STAT.master 1, f0 TIME.TIME_STAT.valid 1]
     {}) 2000 2000) ∧
    ((fun (s : State) => (s.rd TIME.TIME_STAT.master = 1 ∧ s.time.fails < 2) ∧ (s.ptmDue = true)) (st [f0 TIME.TIME_STAT.master 1] {})) ∧
    ((fun (s : State) => (s.rd TIME.TIME_STAT.master = 1 ∧ 2 ≤ s.time.fails ∧ s.on TIME.TIME_STAT.lost = false) ∧ (s.ptmDue = true)) (st [f0
     TIME.TIME_STAT.master 1] { time := { fails := 2 } })) ∧
    ((fun (s : State) => s.rd TIME.TIME_STAT.master = 1 ∧ s.ptmDue = false) (st [f0 TIME.TIME_STAT.master 1]
     { time := { ptmAt := some 0 } })) ∧
    ((fun (s : State) => (s.rd TIME.TIME_STAT.master ≠ 0 ∧ s.on TIME.TIME_STAT.lost = false) ∧ (s.rd TIME.TIME_STAT.master = 2 → s.past
     (s.time.edge.getD s.time.since) (ms 1500) = true)) (st [f0 TIME.TIME_STAT.master 1] {})) ∧
    ((fun (s : State) => s.on TIME.TIME_STAT.lost = true) (st [f0 TIME.TIME_STAT.lost 1] {})) ∧
    ((fun (s : State) (f : Bool) (p : Nat) => s.rd TIME.TIME_STAT.master = 2 ∧ s.on TIME.MASTER_CFG.pps_fall = f ∧ s.time.edge = some p ∧
     s.now < p + 900000000) (st [f0 TIME.TIME_STAT.master 2] { time := { edge := some 5 } }) false 5) ∧
    ((fun (s : State) (f : Bool) => s.rd TIME.TIME_STAT.master = 2 ∧ s.on TIME.MASTER_CFG.pps_fall = f ∧ s.time.edge = none) (st [f0
     TIME.TIME_STAT.master 2] {}) false) ∧
    ((fun (s : State) => s.rd TIME.SLEW_END.end_ ≤ s.now) {}) ∧
    ((fun (s : State) => s.now < s.rd TIME.SLEW_END.end_) (st [f0 TIME.SLEW_END.end_ 0xFFFFFFFFFFFF] {})) ∧
    ((fun (s : State) (w : Who) (hi : Word) (lo : Nat) => (accepts s w .time 0 0x14C hi.toNat = true ∧ lo = s.loOf w .time 0 (s.wordNow
     .time 0 0x148) ∧ s.wordBad w .time 0 0x148 lo = none) ∧ (s.now + 61036 ≤ hi.toNat * 2 ^ 32 + lo))
     ({ stage := [((Who.mgr).slot .time 0, 6)] }) .mgr 9 5) ∧
    ((fun (s : State) (w : Who) (hi : Word) (lo : Nat) => (accepts s w .time 0 0x14C hi.toNat = true ∧ lo = s.loOf w .time 0 (s.wordNow
     .time 0 0x148) ∧ s.wordBad w .time 0 0x148 lo = none) ∧ (hi.toNat * 2 ^ 32 + lo < s.now + 61036)) {} .mgr 0 0) ∧
    ((fun (s : State) (w : Who) (v : Word) => accepts s w .time 0 0x150 (v.toNat ||| 2) = true) (st [f0 TIME.SNAP_CTRL.armed 1] {}) .mgr 0) ∧
    ((fun (s : State) (b : Blk) (i : Nat) (j : Nat) => (s.on TIME.SNAP_CTRL.armed = true ∧ s.rd TIME.SNAP_AT.at_ ≤ s.time.tick * 1000000000
     / 32768 ∧ s.snapReady = true) ∧ ((b, i) ∈ allPages ∧ j < b.counters i)) (st [f0 TIME.SNAP_CTRL.armed 1, f0 TIME.SNAP_CTRL.period_ms 0,
     f0 SAFE.ISL_STAT.fw_running 1, f0 PWR.STATE.state 1]
     { pwr := { mainUp := true, dispUp := true }, ctr := [(ctrKey (Blk.page .gpio 0) 1, 7)] }) .gpio 0 1) ∧
    ((fun (s : State) => s.on TIME.SNAP_CTRL.armed = false) {}) :=
  ⟨by refine ⟨?_, ?_⟩ <;> decide +kernel,
   by refine ⟨?_, ?_, ?_⟩ <;> decide +kernel,
   by refine ⟨?_, ?_, ?_⟩ <;> decide +kernel,
   by refine ⟨?_, ?_, ?_⟩ <;> decide +kernel,
   by refine ⟨?_, ?_⟩ <;> decide +kernel,
   by refine ⟨?_, ?_⟩ <;> decide +kernel,
   by decide +kernel,
   by refine ⟨?_, ?_⟩ <;> decide +kernel,
   by decide +kernel,
   by decide +kernel,
   by decide +kernel,
   by decide +kernel,
   by decide +kernel,
   by refine ⟨?_, ?_⟩ <;> decide +kernel,
   by refine ⟨?_, ?_⟩ <;> decide +kernel,
   by decide +kernel,
   by refine ⟨?_, ?_⟩ <;> decide +kernel,
   by decide +kernel⟩

theorem wit_StepRunsFrontCommand :
    ((fun (c : Instr) (s : State) (rest : List Instr) => s.pending = c :: rest) .vinRecover ({ pending := [.vinRecover, .aonBrownout] })
     [.aonBrownout]) ∧
    ((fun (s : State) => s.pending = []) {}) :=
  ⟨by decide +kernel,
   by decide +kernel⟩

theorem wit_ResetState : (fun (p : Blk × Nat) => p ∈ allPages) ((.head, 3)) := by
  decide +kernel

theorem wit_StepKeepsMemories :
    ((fun (s : State) => Memory.wf s = true) ({ dram := [(5, 1)], basin := [(9, 2)], pending := [.vinRecover] })) ∧
    ((fun (s : State) (n : Nat) => Memory.wf s = true) ({ dram := [(5, 1)], basin := [(9, 2)], pending := [.vinRecover] }) 3) :=
  ⟨by decide +kernel,
   by decide +kernel⟩

theorem wit_CommandsChangeOnlyTheirParts : (fun (c : Instr) (s : State) (t : State) => exec c s = .next t) (.encSet .mgr 9 5) {} (({} : State).encSet .mgr 9 5) := by
  rfl

theorem wit_UndefinedOffsetsAndSizes :
    ((fun (s : State) (w : Who) (page : Fin 256) (b : Blk) (i : Nat) (off : BitVec 12) (v : Word) => (blkOfPage page.val = some (b, i)) ∧
     (writable s w b i off.toNat = true) ∧ (off.toNat % 4 ≠ 0)) {} .mgr 0x43 .head 3 0x102 1) ∧
    ((fun (s : State) (w : Who) (page : Fin 256) (b : Blk) (i : Nat) (off : BitVec 12) (v : Word) => (blkOfPage page.val = some (b, i)) ∧
     (writable s w b i off.toNat = true) ∧ (off.toNat % 4 ≠ 0)) {} .mgr 0x43 .head 3 0x102 1) ∧
    ((fun (s : State) (w : Who) (page : Fin 256) (b : Blk) (i : Nat) (off : BitVec 12) (v : Word) => (blkOfPage page.val = some (b, i)) ∧
     (writable s w b i off.toNat = true) ∧ (off.toNat % 4 = 0 ∧ offsetDefined b i off.toNat = false)) {} .mgr 0x43 .head 3 0x0FC 1) ∧
    ((fun (s : State) (w : Who) (page : Fin 256) (b : Blk) (i : Nat) (off : BitVec 12) (v : Word) => (blkOfPage page.val = some (b, i)) ∧
     (writable s w b i off.toNat = true) ∧ (off.toNat % 4 = 0 ∧ offsetDefined b i off.toNat = false)) {} .mgr 0x43 .head 3 0x0FC 1) ∧
    ((fun (s : State) (w : Who) (page : Fin 256) (b : Blk) (i : Nat) (off : BitVec 12) => (blkOfPage page.val = some (b, i)) ∧ (readable s w
     b i off.toNat = true) ∧ (off.toNat % 4 ≠ 0 ∨ offsetDefined b i off.toNat = false)) {} .saf 0x43 .head 3 0x038) ∧
    ((fun (s : State) (b : Blk) (i : Nat) (off : Nat) (op : MemOp) (a : Addr) => (blkOfPage ((a.toNat - 0x3000000000) / 0x1000) = some (b,
     i) ∧ a.toNat % 0x1000 = off) ∧ (0x3000000000 ≤ a.toNat ∧ a.toNat < 0x3000100000) ∧ (memLen op ≠ 4 ∨ off % 4 ≠ 0) ∧ (b ≠ .mgr) ∧
     (s.pins.resetN = true)) {} .head 3 0x100 (.read 8) 0x3000043100) ∧
    ((fun (b : Blk) (i : Nat) (off : Nat) => (0x038 ≤ off) ∧ (off < 0x100)) .head 3 0x0FF) :=
  ⟨by refine ⟨?_, ?_, ?_⟩ <;> decide +kernel,
   by refine ⟨?_, ?_, ?_⟩ <;> decide +kernel,
   by refine ⟨?_, ?_, ?_⟩ <;> decide +kernel,
   by refine ⟨?_, ?_, ?_⟩ <;> decide +kernel,
   by refine ⟨?_, ?_, ?_⟩ <;> decide +kernel,
   by refine ⟨?_, ?_, ?_, ?_, ?_⟩ <;> decide +kernel,
   by refine ⟨?_, ?_⟩ <;> decide +kernel⟩

theorem wit_ShadowlessPages :
    ((fun (s : State) (w : Who) (page : Fin 256) (b : Blk) (i : Nat) (off : BitVec 12) => (blkOfPage page.val = some (b, i) ∧ b.shadowed =
     false) ∧ (readable s w b i off.toNat = true) ∧ (off = 0x020 ∨ off = 0x024)) {} .mgr 0x05 .pwr 0 0x024) ∧
    ((fun (b : Blk) (i : Nat) (off : Nat) (p : Part) => (b.shadowed = false) ∧ (p ∈ partsAt b i off)) .pwr 0 0x118 (⟨PWR.ALARM.alarm, 0,
     false⟩)) ∧
    ((fun (s : State) (w : Who) (page : Fin 256) (b : Blk) (i : Nat) => (blkOfPage page.val = some (b, i) ∧ b.shadowed = false) ∧ (writable
     s w b i 0x020 = true)) {} .mgr 0x05 .pwr 0) ∧
    ((fun (s : State) (w : Who) (page : Fin 256) (b : Blk) (i : Nat) => (blkOfPage page.val = some (b, i) ∧ b.shadowed = false) ∧ (writable
     s w b i 0x020 = true)) {} .mgr 0x05 .pwr 0) ∧
    ((fun (s : State) (w : Who) (page : Fin 256) (b : Blk) (i : Nat) (v : Word) => (blkOfPage page.val = some (b, i) ∧ b.shadowed = false) ∧
     (writable s w b i 0x020 = true)) {} .mgr 0x05 .pwr 0 1) ∧
    ((fun (s : State) (b : Blk) (i : Nat) (rid : Nat) (n : Nat) => 0 < n) {} .pwr 0 0xFE 2) :=
  ⟨by refine ⟨?_, ?_, ?_⟩ <;> decide +kernel,
   by exact ⟨rfl, by simp [partsAt, pageRows, List.mem_filterMap]; exact .inr ⟨by simp [blkRows, PWR.rows], by decide⟩⟩,
   by refine ⟨?_, ?_⟩ <;> decide +kernel,
   by refine ⟨?_, ?_⟩ <;> decide +kernel,
   by refine ⟨?_, ?_⟩ <;> decide +kernel,
   by decide +kernel⟩

theorem wit_EncoderSetBetweenSamples :
    ((fun (s : State) (w : Who) (e : Fin 16) (v : Word) (a : Bool) (b : Bool) => (accepts s w .enc 0 (0x10C + 16 * e.val) v.toNat = true ∧
     s.pinReach w .enc (0x10C + 16 * e.val) = true) ∧ (s.encSampled e.val = true ∧ s.on ENC.ENC_CFG.enable 0 e.val = true) ∧ ((grayPos (s.on
     ENC.ENC_STAT.a 0 e.val) (s.on ENC.ENC_STAT.b 0 e.val) + 1) % 4 = grayPos a b)) (st [(ENC.ENC_CFG.enable, 1, 0, 9, 0), (PWR.STATE.state,
     0, 0, 0, 0)] {}) .mgr 9 0xFFFFFFFF true false) ∧
    ((fun (s : State) (w : Who) (e : Fin 16) (v : Word) (a : Bool) (b : Bool) => (accepts s w .enc 0 (0x10C + 16 * e.val) v.toNat = true ∧
     s.pinReach w .enc (0x10C + 16 * e.val) = true) ∧ (s.encSampled e.val = true ∧ s.on ENC.ENC_CFG.enable 0 e.val = true) ∧ ((grayPos a b +
     1) % 4 = grayPos (s.on ENC.ENC_STAT.a 0 e.val) (s.on ENC.ENC_STAT.b 0 e.val))) (st [(ENC.ENC_CFG.enable, 1, 0, 9, 0), (PWR.STATE.state,
     0, 0, 0, 0)] {}) .mgr 9 0 false true) :=
  ⟨by refine ⟨?_, ?_, ?_⟩ <;> decide +kernel,
   by refine ⟨?_, ?_, ?_⟩ <;> decide +kernel⟩

theorem wit_RegisterWritesAndReads :
    ((fun (s : State) (w : Who) (page : Fin 256) (b : Blk) (i : Nat) (off : BitVec 12) (v : Word) => (blkOfPage page.val = some (b, i) ∧ (b
     = .head ∨ b = .mirror)) ∧ (0x100 ≤ off.toNat ∧ pairHalf b i off.toNat = none ∧ accepts s w b i off.toNat v.toNat = true)) {} .mgr 0x43
     .head 3 0x104 0x0C0) ∧
    ((fun (s : State) (w : Who) (page : Fin 256) (b : Blk) (i : Nat) (off : BitVec 12) (v : Word) (c : Nat) => (blkOfPage page.val = some
     (b, i) ∧ (b = .head ∨ b = .mirror)) ∧ (0x100 ≤ off.toNat ∧ pairHalf b i off.toNat = none ∧ off.toNat % 4 = 0 ∧ offsetDefined b i
     off.toNat = true) ∧ (writable s w b i off.toNat = true ∧ s.wordBad w b i off.toNat v.toNat = some c)) (st [(HDR.lock .head, 1, 3, 0,
     0)] {}) .mgr 0x43 .head 3 0x104 0x0C0 Code.REG_LOCKED) ∧
    ((fun (s : State) (w : Who) (page : Fin 256) (b : Blk) (i : Nat) (off : BitVec 12) (v : Word) => (blkOfPage page.val = some (b, i) ∧ (b
     = .head ∨ b = .mirror)) ∧ (0x100 ≤ off.toNat ∧ pairHalf b i off.toNat = none ∧ off.toNat % 4 = 0 ∧ offsetDefined b i off.toNat = true)
     ∧ (writable s w b i off.toNat = true ∧ s.wordBad w b i off.toNat v.toNat = none ∧ v.toNat &&& (2 ^ 32 - 1 - definedBits b i off.toNat)
     ≠ 0)) {} .mgr 0x43 .head 3 0x104 0x800000C0) ∧
    ((fun (s : State) (w : Who) (page : Fin 256) (off : BitVec 12) (v : Word) => blkOfPage page.val = none) {} .mgr 0x09 0x104 7) ∧
    ((fun (s : State) (w : Who) (page : Fin 256) (off : BitVec 12) (v : Word) => blkOfPage page.val = none) {} .mgr 0x09 0x104 7) ∧
    ((fun (s : State) (w : Who) (page : Fin 256) (off : BitVec 12) => blkOfPage page.val = none) {} .mgr 0x09 0x104) ∧
    ((fun (s : State) (lo : Word) (hi : Word) => s.pins.resetN = true) {} 5 7) ∧
    ((fun (s : State) (hi : Word) => (mget s.stage (Who.slot .mgr .pwr 0) 0 = 0) ∧ (s.pins.resetN = true)) {} 0x12345678) ∧
    ((fun (s : State) (n : Nat) => (s.rd PWR.ALARM.alarm < 2 ^ 64) ∧ (s.pins.resetN = true)) {} 5) :=
  ⟨by refine ⟨?_, ?_⟩ <;> decide +kernel,
   by refine ⟨?_, ?_, ?_⟩ <;> decide +kernel,
   by refine ⟨?_, ?_, ?_⟩ <;> decide +kernel,
   by decide +kernel,
   by decide +kernel,
   by decide +kernel,
   by decide +kernel,
   by refine ⟨?_, ?_⟩ <;> decide +kernel,
   by refine ⟨?_, ?_⟩ <;> decide +kernel⟩

theorem wit_EventErrorAndLockRegisters :
    ((fun (s : State) (w : Who) (page : Fin 256) (b : Blk) (i : Nat) (v : Word) => (blkOfPage page.val = some (b, i)) ∧ (accepts s w b i
     0x010 v.toNat = true)) (st [(HDR.ev_raw .head, 0x105, 3, 0, 0)] {}) .mgr 0x43 .head 3 0x5) ∧
    ((fun (s : State) (w : Who) (page : Fin 256) (b : Blk) (i : Nat) (v : Word) => (blkOfPage page.val = some (b, i)) ∧ (accepts s w b i
     0x01C v.toNat = true)) (st [(HDR.ev_raw .head, 0x105, 3, 0, 0)] {}) .mgr 0x43 .head 3 0x2) ∧
    ((fun (s : State) (w : Who) (page : Fin 256) (b : Blk) (i : Nat) => (blkOfPage page.val = some (b, i)) ∧ (accepts s w b i 0x028
     0x80000000 = true)) (st [(HDR.err_valid .head, 1, 3, 0, 0)] {}) .mgr 0x43 .head 3) ∧
    ((fun (s : State) (w : Who) (page : Fin 256) (b : Blk) (i : Nat) => (blkOfPage page.val = some (b, i)) ∧ (accepts s w b i 0x034 1 =
     true)) {} .mgr 0x43 .head 3) ∧
    ((fun (s : State) (w : Who) (page : Fin 256) (b : Blk) (i : Nat) => (blkOfPage page.val = some (b, i) ∧ b.lockable = false) ∧ (writable
     s w b i 0x034 = true ∧ viewReadOnly w 0x034 = false)) {} .mgr 0x06 .clk 0) ∧
    ((fun (s : State) (w : Who) (page : Fin 256) (b : Blk) (i : Nat) (v : Word) => (blkOfPage page.val = some (b, i) ∧ (w = .mgr ∨ w =
     .boot)) ∧ (b.safetyPage = false ∧ accepts s w b i 0x00C v.toNat = true)) (st [(HDR.ev_raw .head, 0x105, 3, 0, 0)] {}) .mgr 0x43 .head 3
     7) ∧
    ((fun (s : State) (w : Who) (page : Fin 256) (b : Blk) (i : Nat) (v : Word) => (blkOfPage page.val = some (b, i)) ∧ (viewReadOnly w
     0x00C = true ∧ writable s w b i 0x00C = true ∧ v.toNat < 256)) (st [(MGR.VIEW_ENTRY.valid, 1, 0, 0, 256 * 5 + 2), (MGR.VIEW_ENTRY.page,
     0x43, 0, 0, 256 * 5 + 2), (MGR.VIEW_ENTRY.write, 1, 0, 0, 256 * 5 + 2), (MGR.INST_STAT.state, 2, 0, 0, 5)] {}) (.inst 5 2) 0x43 .head 3
     7) ∧
    ((fun (s : State) (w : Who) (page : Fin 256) (b : Blk) (i : Nat) => (blkOfPage page.val = some (b, i)) ∧ (viewReadOnly w 0x034 = true ∧
     writable s w b i 0x034 = true)) (st [(MGR.VIEW_ENTRY.valid, 1, 0, 0, 256 * 5 + 2), (MGR.VIEW_ENTRY.page, 0x43, 0, 0, 256 * 5 + 2),
     (MGR.VIEW_ENTRY.write, 1, 0, 0, 256 * 5 + 2), (MGR.INST_STAT.state, 2, 0, 0, 5)] {}) (.inst 5 2) 0x43 .head 3) :=
  ⟨by refine ⟨?_, ?_⟩ <;> decide +kernel,
   by refine ⟨?_, ?_⟩ <;> decide +kernel,
   by refine ⟨?_, ?_⟩ <;> decide +kernel,
   by refine ⟨?_, ?_⟩ <;> decide +kernel,
   by refine ⟨?_, ?_⟩ <;> decide +kernel,
   by refine ⟨?_, ?_⟩ <;> decide +kernel,
   by refine ⟨?_, ?_⟩ <;> decide +kernel,
   by refine ⟨?_, ?_⟩ <;> decide +kernel⟩

theorem wit_CommitAndSoftReset :
    ((fun (s : State) (w : Who) (page : Fin 256) (b : Blk) (i : Nat) => (blkOfPage page.val = some (b, i) ∧ accepts s w b i 0x020 1 = true)
     ∧ ((b = .head ∧ s.running i = true) ∨ b = .gfx) ∧ (s.on (HDR.pending b) i = false ∧ s.commitBad w b i = none ∧ w ≠ .boot)) (st
     [(HDR.dirty .gfx, 1, 0, 0, 0)] {}) .mgr 0x30 .gfx 0) ∧
    ((fun (s : State) (w : Who) (page : Fin 256) (b : Blk) (i : Nat) => (blkOfPage page.val = some (b, i) ∧ accepts s w b i 0x020 1 = true)
     ∧ (s.on (HDR.pending b) i = true)) (st [(HDR.pending .gfx, 1, 0, 0, 0)] {}) .mgr 0x30 .gfx 0) ∧
    ((fun (s : State) (w : Who) (page : Fin 256) (b : Blk) (i : Nat) => (blkOfPage page.val = some (b, i) ∧ (b = .head ∨ b = .glint) ∧
     accepts s w b i 0x020 1 = true) ∧ (s.headOff i = true ∧ s.on (HDR.pending b) i = false ∧ s.on (HDR.enable .head) i = false ∧
     s.commitBad w b i = none)) {} .mgr 0x48 .glint 6) ∧
    ((fun (s : State) (page : Fin 256) => page = 0x30 ∧ s.on (HDR.pending .gfx) = true ∧ s.binsHeld = false) (st [(HDR.pending .gfx, 1, 0,
     0, 0)] {}) 0x30) ∧
    ((fun (s : State) (w : Who) (page : Fin 256) (b : Blk) (i : Nat) => (blkOfPage page.val = some (b, i)) ∧ (accepts s w b i 0x020 4 =
     true)) (st [(HDR.dirty .gfx, 1, 0, 0, 0)] {}) .mgr 0x30 .gfx 0) ∧
    ((fun (s : State) (w : Who) (page : Fin 256) (b : Blk) (en : Bool) (f : Fld) (j : Nat) (k : Nat) => (blkOfPage page.val = some (b, 0) ∧
     (b = .clk ∨ b = .mirror)) ∧ (accepts s w b 0 0x008 (if en then 3 else 2) = true) ∧ (f.blk = b ∧ 0x100 ≤ f.off + f.stride * j ∧ f.off +
     f.stride * j < 0x800 ∧ f.lo < 64)) {} .mgr 0x06 .clk true CLK.PLL_STAT.mhz 2 0) :=
  ⟨by refine ⟨?_, ?_, ?_⟩ <;> decide +kernel,
   by refine ⟨?_, ?_⟩ <;> decide +kernel,
   by refine ⟨?_, ?_⟩ <;> decide +kernel,
   by decide +kernel,
   by refine ⟨?_, ?_⟩ <;> decide +kernel,
   by refine ⟨?_, ?_, ?_⟩ <;> decide +kernel⟩

end Sys2Proof.Tests
end

/-! Pages without shadows (R62): what a read of their COMMIT and SHADOW_STAT returns, and how a write of COMMIT is refused. -/

namespace Sys2Proof.Proofs

open Machine Laws

/-! ### The register tables -/

/-- The table of page 0 of a type lists every field of the type's other pages. -/
theorem pageRows_subset_zero {b : Blk} {i : Nat} {f : Fld} (hf : f ∈ pageRows b i) : f ∈ pageRows b 0 := by
  cases b with
  | touch =>
    refine (List.mem_append.1 hf).elim (List.mem_append_left _) (fun h => List.mem_append_right _ ?_)
    change f ∈ (if i % 2 = 0 then TOUCH.rows else TOUCH.rows.filter (fun g => decide (g.off < 0x200))) at h
    split at h
    next => exact h
    next => exact (List.mem_filter.1 h).1
  | _ => exact hf

/-- A page whose PG_CAP.shadowed is 0 lists no field with a shadow. -/
theorem acc_ne_rws_of_mem_pageRows {b : Blk} (hb : b.shadowed = false) {i : Nat} {f : Fld} (hf : f ∈ pageRows b i) :
    f.acc ≠ .rws := by
  have table : ∀ c : Blk, c.shadowed = false → ∀ g ∈ pageRows c 0, g.acc ≠ .rws := by intro c; cases c <;> decide
  exact table b hb f (pageRows_subset_zero hf)

/-- The first 64-bit value of a page is ERR_ADDR at 0x02C. -/
theorem le_off_of_wide_mem_pageRows {b : Blk} {i : Nat} {f : Fld} (hf : f ∈ pageRows b i) (hw : f.wide = true) : 0x02C ≤ f.off := by
  have table : ∀ c : Blk, ∀ g ∈ pageRows c 0, g.wide = true → 0x02C ≤ g.off := by intro c; cases c <;> decide
  exact table b f (pageRows_subset_zero hf) hw

/-- A part of a register is a row of its page's table that has bits at the offset. -/
theorem row_of_mem_partsAt {b : Blk} {i off : Nat} {p : Part} (hp : p ∈ partsAt b i off) :
    p.fld ∈ pageRows b i ∧ p.fld.at off = some (p.elt, p.hi) := by
  obtain ⟨f, hf, e⟩ := List.mem_filterMap.1 hp
  obtain ⟨q, hq, rfl⟩ := Option.map_eq_some_iff.1 e
  exact ⟨hf, hq⟩

/-- A field has no bits below its first offset. -/
theorem off_le_of_at {f : Fld} {off : Nat} {q : Nat × Bool} (h : f.at off = some q) : f.off ≤ off := by
  refine Nat.le_of_not_lt fun hlt => ?_
  have hnone : f.at off = none := by
    unfold Fld.at
    have h1 : ¬ off = f.off := by omega
    have h2 : ¬ off = f.off + 4 := by omega
    have h3 : ¬ f.off ≤ off := by omega
    have h4 : ¬ f.off + 4 ≤ off := by omega
    simp only [h1, h2, h3, h4, decide_false, Bool.and_false, Bool.false_eq_true, false_and, and_false, if_false, ite_self]
  rw [hnone] at h
  nomatch h

/-- No 64-bit value has a half at COMMIT or SHADOW_STAT. -/
theorem halfAt_eq_none {b : Blk} {i off : Nat} (h : off < 0x02C) : halfAt b i off = none := by
  unfold halfAt
  rw [if_neg (by omega), Option.map_eq_none_iff, List.find?_eq_none]
  intro p hp hw
  obtain ⟨hrow, hat⟩ := row_of_mem_partsAt hp
  have := le_off_of_wide_mem_pageRows hrow hw
  have := off_le_of_at hat
  omega

/-! ### Reads -/

section

variable {s : State} {w : Who} {b : Blk} {i off : Nat}

/-- A sender that reaches a page with a read changes nothing up to there. -/
theorem reach_of_readable (h : readable s w b i off = true) : s.reach w b i off false = .good s := by
  unfold readable at h
  split at h
  next t heq => rw [heq, reach_good heq]
  next => nomatch h

/-- A sender that reaches a page with a write changes nothing up to there. -/
theorem reach_of_writable (h : writable s w b i off = true) : s.reach w b i off true = .good s := by
  unfold writable at h
  split at h
  next t heq => rw [heq, reach_good heq]
  next => nomatch h

/-- The pin checks of ENC and GPIO and the moving reads begin at 0x100: a header register is read plainly. -/
theorem readWord_header (hr : readable s w b i off = true) (hoff : off < 0x038) (hal : off % 4 = 0) :
    s.readWord w b i off = s.plainRead w b i off := by
  have hpin : s.pinReach w b off = true := by
    have no : ∀ n, 0x038 ≤ n → (n ≤ off) = False := fun n hn => eq_false (by omega)
    simp only [State.pinReach, no 0x100 (by decide), no 0x300 (by decide), no 0x400 (by decide), no 0x500 (by decide),
      no 0x580 (by decide), false_and, if_false, ite_self]
  have hmove : s.movingRead w b i off = none := by
    have no : ∀ n, 0x038 ≤ n → (off = n) = False := fun n hn => eq_false (by omega)
    cases b <;> simp only [State.movingRead, no 0x104 (by decide), no 0x118 (by decide), no 0x158 (by decide), no 0x15C (by decide),
      no 0x588 (by decide), no 0x5A8 (by decide), if_false]
  have hdef : offsetDefined b i off = true := if_pos hoff
  unfold State.readWord
  rw [reach_of_readable hr]
  dsimp only
  rw [if_neg (by omega), if_neg (by omega), hdef, hpin, hmove, Bool.not_true, Bool.and_false, if_neg Bool.false_ne_true,
    if_neg Bool.false_ne_true, Option.getD_none]

/-- COMMIT and SHADOW_STAT of a page without shadows read 0 (R62). -/
theorem regValue_of_not_shadowed (hb : b.shadowed = false) (hoff : off = 0x020 ∨ off = 0x024) : s.regValue b i off = 0 := by
  unfold State.regValue
  rw [if_neg (by omega), if_neg (by omega), if_neg (by omega), if_neg (by omega), if_pos (by rw [hb]; exact ⟨hoff, rfl⟩)]

/-- A read of them answers 0 normally. -/
theorem readWord_of_not_shadowed (hb : b.shadowed = false) (hr : readable s w b i off = true) (hoff : off = 0x020 ∨ off = 0x024) :
    s.readWord w b i off = s.okResp 0 := by
  rw [readWord_header hr (by omega) (by omega)]
  unfold State.plainRead
  rw [halfAt_eq_none (by omega), regValue_of_not_shadowed hb hoff]

/-! ### Writes -/

/-- A page without shadows has no COMMIT: the checks of a write answer REG_UNMAPPED (R62). -/
theorem checkWrite_commit_of_not_shadowed {v : Nat} (hb : b.shadowed = false) (hw : writable s w b i 0x020 = true) :
    s.checkWrite w b i 0x020 v = .bad (s.refuse b i Code.REG_UNMAPPED w.rid 0x020) := by
  unfold State.checkWrite
  have hdef : offsetDefined b i 0x020 = true := if_pos (by decide)
  rw [reach_of_writable hw]
  dsimp only
  rw [if_neg (by decide), hdef, if_neg (by decide), if_pos (by rw [hb]; exact ⟨rfl, rfl⟩)]

/-- So a write of COMMIT is that refusal, whatever the word. -/
theorem commitWrite_of_not_shadowed {v : Nat} (hb : b.shadowed = false) (hw : writable s w b i 0x020 = true) :
    s.commitWrite w b i v = s.refuse b i Code.REG_UNMAPPED w.rid 0x020 := by
  unfold State.commitWrite State.onWrite
  rw [checkWrite_commit_of_not_shadowed hb hw]
  rfl

/-! ### The command at a page that R48 lists -/

theorem exec_regReadLoLatch_page {page : Fin 256} {o : BitVec 12} (h : blkOfPage page.val = some (b, i)) :
    exec (.regReadLoLatch w page o) s = .next (s.readWord w b i o.toNat) := by
  change execRegReadLoLatch w page o s = _
  unfold execRegReadLoLatch
  rw [h]

theorem exec_commit_page {page : Fin 256} (h : blkOfPage page.val = some (b, i)) :
    exec (.commit w page) s = .next (s.commitWrite w b i 1) := by
  change execCommit w page s = _
  unfold execCommit State.headerCmd
  rw [h]

theorem exec_commitRevert_page {page : Fin 256} (h : blkOfPage page.val = some (b, i)) :
    exec (.commitRevert w page) s = .next (s.commitWrite w b i 4) := by
  change execCommitRevert w page s = _
  unfold execCommitRevert State.headerCmd
  rw [h]

theorem exec_registerWrite_page {page : Fin 256} {o : BitVec 12} {v : Word} (h : blkOfPage page.val = some (b, i)) :
    exec (.registerWrite w page o v) s = .next (s.writeWord w b i o.toNat v.toNat) := by
  change execRegisterWrite w page o v s = _
  unfold execRegisterWrite State.pageWrite
  rw [h]

/-- A word written at 0x020 is a write of COMMIT. -/
theorem writeWord_commit {v : Nat} : s.writeWord w b i 0x020 v = s.commitWrite w b i v := rfl

/-! ### The events of a refusal -/

/-- A mask with bit 0 set differs in no other bit. -/
theorem bit_setBit_zero {m n : Nat} (hn : 0 < n) : bit (setBit m 0 % 2 ^ 32) n = bit (m % 2 ^ 32) n := by
  unfold bit setBit
  rw [Nat.testBit_mod_two_pow, Nat.testBit_mod_two_pow, Nat.testBit_or, Nat.testBit_two_pow_of_ne (by omega), Bool.or_false]

/-- A write to a field of ERR_CODE or ERR_ADDR leaves EV_RAW as it was. -/
theorem rd_ev_raw_wr_err {f : Fld} {v : Nat} (hs : f.stride = 0) (ho : f.off = 0x028 ∨ f.off = 0x02C) :
    (s.wr f v i).rd (HDR.ev_raw b) i = s.rd (HDR.ev_raw b) i := by
  have apart : place f 0 ≠ place (HDR.ev_raw b) 0 := by
    simp only [place, HDR.ev_raw, hs]
    omega
  exact rd_wr_ne (key_ne apart)

/-- An error record sets bit 0 of EV_RAW of its page and leaves the other events (R59). -/
theorem recErr_ev_raw {code rid addr : Nat} :
    (s.recErr b i code rid addr).rd (HDR.ev_raw b) i = setBit (s.rd (HDR.ev_raw b) i) 0 % 2 ^ 32 := by
  unfold State.recErr
  dsimp only
  rw [raise_ev_raw]
  split
  · rw [rd_ev_raw_wr_err rfl (.inl rfl)]
  · rw [rd_ev_raw_wr_err rfl (.inr rfl), rd_ev_raw_wr_err rfl (.inr rfl), rd_ev_raw_wr_err rfl (.inl rfl),
      rd_ev_raw_wr_err rfl (.inl rfl), rd_ev_raw_wr_err rfl (.inl rfl), rd_ev_raw_wr_err rfl (.inl rfl),
      rd_ev_raw_wr_err rfl (.inl rfl)]

/-- A refusal sets no event of its page but err. -/
theorem refuse_bit_ev_raw {code rid addr n : Nat} (hn : 0 < n) :
    bit ((s.refuse b i code rid addr).rd (HDR.ev_raw b) i) n = bit (s.rd (HDR.ev_raw b) i % 2 ^ 32) n := by
  unfold State.refuse
  rw [rd_errResp, recErr_ev_raw, bit_setBit_zero hn]

end

/-! ### The obligation -/

/-- Settles O56: reads of the two registers are computed as 0, the tables of these pages hold no shadowed field, and every command that writes
COMMIT stops at the same check. -/
theorem shadowlessPages : Obligations.ShadowlessPages := by
  unfold Obligations.ShadowlessPages
  refine ⟨?reads, ?fields, ?commit, ?revert, ?word, ?events⟩
  case reads =>
    rintro s w page b i off ⟨hpage, hb⟩ hr hoff
    have hoff' : off.toNat = 0x020 ∨ off.toNat = 0x024 := hoff.imp (congrArg BitVec.toNat) (congrArg BitVec.toNat)
    exact ⟨s.okResp 0, by rw [exec_regReadLoLatch_page hpage, readWord_of_not_shadowed hb hr hoff'], okResp_resp s 0⟩
  case fields =>
    intro b i off p hb hp
    exact acc_ne_rws_of_mem_pageRows hb (row_of_mem_partsAt hp).1
  case commit =>
    rintro s w page b i ⟨hpage, hb⟩ hw
    rw [exec_commit_page hpage, commitWrite_of_not_shadowed hb hw]
  case revert =>
    rintro s w page b i ⟨hpage, hb⟩ hw
    rw [exec_commitRevert_page hpage, commitWrite_of_not_shadowed hb hw]
  case word =>
    rintro s w page b i v ⟨hpage, hb⟩ hw
    rw [exec_registerWrite_page hpage, show (0x020 : BitVec 12).toNat = 0x020 from rfl, writeWord_commit, commitWrite_of_not_shadowed hb hw]
  case events =>
    intro s b i rid n hn
    exact ⟨refuse_bit_ev_raw hn, refuse_staged .., refuse_shadow .., congrArg _ refuse_resp⟩

end Sys2Proof.Proofs

/-! Encoders between two samples (R427 to R430): what an accepted write of ENC_SET leaves, and how a legal transition counts from it. -/

namespace Sys2Proof.Proofs

open Machine Laws

/-! ### Orders of the filtered levels (R427) -/

/-- Neighbours in the order of states differ in one level. -/
theorem one_level_of_grayPos_succ {a b a' b' : Bool} (h : (grayPos a b + 1) % 4 = grayPos a' b') : (a' != a) = (b' == b) := by
  revert a b a' b'
  decide

/-- No step in the order leads both up and down. -/
theorem grayPos_succ_ne_of_pred {a b a' b' : Bool} (h : (grayPos a' b' + 1) % 4 = grayPos a b) : (grayPos a b + 1) % 4 ≠ grayPos a' b' := by
  revert a b a' b'
  decide

section

variable {s : State} {e : Fin 16} {a b : Bool}

/-! ### A write of ENC_SET (R429) -/

section

variable {w : Who} {v : Nat}

/-- An accepted write of ENC_SET whose sender reaches the encoder's pin is answered normally and sets the position. -/
theorem encSet_of_accepts (h : accepts s w .enc 0 (0x10C + 16 * e.val) v = true) (hr : s.pinReach w .enc (0x10C + 16 * e.val) = true) :
    s.encSet w e v = s.okResp.wr ENC.ENC_POS.pos v 0 e := by
  unfold State.encSet State.pinWrite
  rw [checkWrite_of_accepts h]
  exact if_pos hr

/-- A flag that no part of the write holds stays. -/
theorem on_encSet {f : Fld} {i j k : Nat} (h : encSet_T.any (mayHit f j) = false) : (s.encSet w e v).on f i j k = s.on f i j k := by
  unfold State.on
  rw [rd_apart (encSet_frame Frame.refl Cov.refl) h]

@[simp] theorem encSet_on_enable : (s.encSet w e v).on ENC.ENC_CFG.enable 0 e = s.on ENC.ENC_CFG.enable 0 e :=
  on_encSet (by revert e; decide)

@[simp] theorem encSet_on_invert : (s.encSet w e v).on ENC.ENC_CFG.invert 0 e = s.on ENC.ENC_CFG.invert 0 e :=
  on_encSet (by revert e; decide)

@[simp] theorem encSet_on_keep : (s.encSet w e v).on ENC.ENC_CFG.keep 0 e = s.on ENC.ENC_CFG.keep 0 e :=
  on_encSet (by revert e; decide)

@[simp] theorem encSet_on_a : (s.encSet w e v).on ENC.ENC_STAT.a 0 e = s.on ENC.ENC_STAT.a 0 e :=
  on_encSet (by revert e; decide)

@[simp] theorem encSet_on_b : (s.encSet w e v).on ENC.ENC_STAT.b 0 e = s.on ENC.ENC_STAT.b 0 e :=
  on_encSet (by revert e; decide)

/-- A write of ENC_SET leaves the power state, so the encoder is sampled as before. -/
@[simp] theorem encSet_encSampled : (s.encSet w e v).encSampled e = s.encSampled e := by
  have hstate : (s.encSet w e v).rd PWR.STATE.state = s.rd PWR.STATE.state := rd_apart (encSet_frame Frame.refl Cov.refl) (by decide)
  unfold State.encSampled
  rw [hstate, encSet_on_keep]

end

/-! ### A legal transition (R427, R430) -/

/-- What a legal transition to levels a and b adds to the position: 1 or -1, by the phases and by invert. -/
def encDelta (s : State) (e : Fin 16) (a b : Bool) : Nat :=
  if ((grayPos (s.on ENC.ENC_STAT.a 0 e) (s.on ENC.ENC_STAT.b 0 e) + 1) % 4 == grayPos a b) != s.on ENC.ENC_CFG.invert 0 e then 1
  else 2 ^ 32 - 1

/-- Waking the device, even when its exit begins at once, counts nothing. -/
theorem encWake_pos : (s.encWake e).rd ENC.ENC_POS.pos 0 e = s.rd ENC.ENC_POS.pos 0 e :=
  rd_apart (encWake_frame Frame.refl Cov.refl) (by revert e; decide)

/-- Writing the levels of an encoder leaves its position. -/
theorem levels_pos : ((s.wrB ENC.ENC_STAT.a a 0 e).wrB ENC.ENC_STAT.b b 0 e).rd ENC.ENC_POS.pos 0 e = s.rd ENC.ENC_POS.pos 0 e :=
  (rd_apart (wrB_frame Frame.refl Cov.refl) (by revert e; decide)).trans
    (rd_apart (wrB_frame Frame.refl Cov.refl) (by revert e; decide))

/-- When an enabled encoder changes one level, its position moves by that step. -/
theorem encMove_pos_of_one_level (hen : s.on ENC.ENC_CFG.enable 0 e = true)
    (hone : (a != s.on ENC.ENC_STAT.a 0 e) = (b == s.on ENC.ENC_STAT.b 0 e)) :
    (s.encMove e a b).rd ENC.ENC_POS.pos 0 e = (s.rd ENC.ENC_POS.pos 0 e + encDelta s e a b) % 2 ^ 32 := by
  have changed : ¬ (!s.on ENC.ENC_CFG.enable 0 e || (a == s.on ENC.ENC_STAT.a 0 e && b == s.on ENC.ENC_STAT.b 0 e)) = true := by
    rw [hen, ← hone]
    simp
  have legal : ¬ (a != s.on ENC.ENC_STAT.a 0 e && b != s.on ENC.ENC_STAT.b 0 e) = true := by
    rw [hone]
    simp
  unfold State.encMove
  dsimp only
  rw [if_neg changed, if_neg legal, encWake_pos, rd_wr_same, levels_pos]
  rfl

/-! ### The commands -/

/-- The transition of an encoder that is sampled is that move. -/
theorem exec_encTransition_of_sampled (h : s.encSampled e = true) : exec (.encTransition e a b) s = .next (s.encMove e a b) :=
  congrArg Host.Outcome.next (if_pos h)

/-- An accepted ENC_SET stands, and a legal transition after it counts from the written value, by the step the phases and invert gave before
the write. -/
theorem encTransition_after_encSet {w : Who} {v : Word} (hacc : accepts s w .enc 0 (0x10C + 16 * e.val) v.toNat = true)
    (hreach : s.pinReach w .enc (0x10C + 16 * e.val) = true) (hsam : s.encSampled e = true) (hen : s.on ENC.ENC_CFG.enable 0 e = true)
    (hone : (a != s.on ENC.ENC_STAT.a 0 e) = (b == s.on ENC.ENC_STAT.b 0 e)) :
    ∃ t, exec (.encSet w e v) s = .next t ∧ t.rd ENC.ENC_POS.pos 0 e = v.toNat ∧
      ∃ u, exec (.encTransition e a b) t = .next u ∧ u.rd ENC.ENC_POS.pos 0 e = (v.toNat + encDelta s e a b) % 2 ^ 32 := by
  have hpos : (s.encSet w e v.toNat).rd ENC.ENC_POS.pos 0 e = v.toNat := by
    rw [encSet_of_accepts hacc hreach, rd_wr_same]
    exact Nat.mod_eq_of_lt v.isLt
  have hdelta : encDelta (s.encSet w e v.toNat) e a b = encDelta s e a b := by simp [encDelta]
  refine ⟨s.encSet w e v.toNat, rfl, hpos, (s.encSet w e v.toNat).encMove e a b, exec_encTransition_of_sampled (by simpa using hsam), ?_⟩
  rw [encMove_pos_of_one_level (by simpa using hen) (by simpa using hone), hpos, hdelta]

/-- A transition up the order adds 1, inverted -1. -/
theorem encDelta_of_up (h : (grayPos (s.on ENC.ENC_STAT.a 0 e) (s.on ENC.ENC_STAT.b 0 e) + 1) % 4 = grayPos a b) :
    encDelta s e a b = if s.on ENC.ENC_CFG.invert 0 e then 2 ^ 32 - 1 else 1 := by
  unfold encDelta
  rw [beq_iff_eq.2 h]
  cases s.on ENC.ENC_CFG.invert 0 e <;> rfl

/-- A transition down the order adds -1, inverted 1. -/
theorem encDelta_of_down (h : (grayPos a b + 1) % 4 = grayPos (s.on ENC.ENC_STAT.a 0 e) (s.on ENC.ENC_STAT.b 0 e)) :
    encDelta s e a b = if s.on ENC.ENC_CFG.invert 0 e then 1 else 2 ^ 32 - 1 := by
  unfold encDelta
  rw [beq_eq_false_iff_ne.2 (grayPos_succ_ne_of_pred h)]
  cases s.on ENC.ENC_CFG.invert 0 e <;> rfl

end

/-! ### The obligation -/

/-- Settles O57: the write changes neither phases nor configuration, so the step of the transition is known before it; a wake it begins leaves
the position. -/
theorem encoderSetBetweenSamples : Obligations.EncoderSetBetweenSamples := by
  unfold Obligations.EncoderSetBetweenSamples
  refine ⟨?up, ?down⟩
  case up =>
    rintro s w e v a b ⟨hacc, hreach⟩ ⟨hsam, hen⟩ hup
    rw [← encDelta_of_up hup]
    exact encTransition_after_encSet hacc hreach hsam hen (one_level_of_grayPos_succ hup)
  case down =>
    rintro s w e v a b ⟨hacc, hreach⟩ ⟨hsam, hen⟩ hdown
    rw [← encDelta_of_down hdown]
    refine encTransition_after_encSet hacc hreach hsam hen ?_
    rw [bne_comm, one_level_of_grayPos_succ hdown, Bool.beq_comm]

end Sys2Proof.Proofs

/-! Steps and runs: every command completes, keeps the memories canonical and the queue's rest (R2, log 2), and where the parts listed for a command
fall short. -/

namespace Sys2Proof.Proofs

open Machine Laws

/-! ### The commands -/

/-- Every command keeps the variant, the queue and the canonical form of the memories. -/
theorem exec_keep {v : Variant} {q : List Instr} {s : State} (h : Keep v q s) (c : Instr) : KeepN v q (exec c s) := by
  cases c with
  | registerWrite => exact execRegisterWrite_keep h
  | regReadLoLatch => exact execRegReadLoLatch_keep h
  | regWriteHi => exact execRegWriteHi_keep h
  | commit => exact execCommit_keep h
  | commitApply => exact execCommitApply_keep h
  | commitRevert => exact execCommitRevert_keep h
  | softReset => exact execSoftReset_keep h
  | pgOwnerWrite => exact execPgOwnerWrite_keep h
  | evRawClear => exact execEvRawClear_keep h
  | evForce => exact execEvForce_keep h
  | errCodeClear => exact execErrCodeClear_keep h
  | lockSet => exact execLockSet_keep h
  | memoryAccess => exact execMemoryAccess_keep h
  | basinWindowAccess => exact execBasinWindowAccess_keep h
  | vinPowerOn => exact execVinPowerOn_keep h
  | railGood => exact execRailGood_keep h
  | railStartTimeout => exact execRailStartTimeout_keep h
  | resetNAssert => exact execResetNAssert_keep h
  | resetNRelease => exact execResetNRelease_keep h
  | vinUndervoltage => exact execVinUndervoltage_keep h
  | vinOvervoltage => exact execVinOvervoltage_keep h
  | vinRecover => exact execVinRecover_keep h
  | aonBrownout => exact execAonBrownout_keep h
  | safetyDomainBoot => exact execSafetyDomainBoot_keep h
  | displayDomainReset => exact execDisplayDomainReset_keep h
  | mainBoot => exact execMainBoot_keep h
  | managerRelease => exact execManagerRelease_keep h
  | mainResetCmd => exact execMainResetCmd_keep h
  | displayResetCmd => exact execDisplayResetCmd_keep h
  | flRead => exact execFlRead_keep h
  | flProgram => exact execFlProgram_keep h
  | flErase => exact execFlErase_keep h
  | flDone => exact execFlDone_keep h
  | keyRevoke => exact execKeyRevoke_keep h
  | stateReqSleep => exact execStateReqSleep_keep h
  | stateReqDeepSleep => exact execStateReqDeepSleep_keep h
  | stateReqOff => exact execStateReqOff_keep h
  | safetyGrant => exact execSafetyGrant_keep h
  | safetyGrantTimeout => exact execSafetyGrantTimeout_keep h
  | entryDrainDone => exact execEntryDrainDone_keep h
  | drainLimitExpiry => exact execDrainLimitExpiry_keep h
  | entryHeadsBlanked => exact execEntryHeadsBlanked_keep h
  | entryCachesWritten => exact execEntryCachesWritten_keep h
  | selfRefreshEntered => exact execSelfRefreshEntered_keep h
  | targetStateReached => exact execTargetStateReached_keep h
  | wakeEvent => exact execWakeEvent_keep h
  | wakePin => exact execWakePin_keep h
  | devtimeAlarm => exact execDevtimeAlarm_keep h
  | safetyWakeRequest => exact execSafetyWakeRequest_keep h
  | sleepDeepAfterExpiry => exact execSleepDeepAfterExpiry_keep h
  | exitRegulatorsReady => exact execExitRegulatorsReady_keep h
  | exitOscillatorReady => exact execExitOscillatorReady_keep h
  | exitMemoryReady => exact execExitMemoryReady_keep h
  | exitLogicReady => exact execExitLogicReady_keep h
  | exitStepTimeout => exact execExitStepTimeout_keep h
  | railOppRequest => exact execRailOppRequest_keep h
  | railAck => exact execRailAck_keep h
  | railAckTimeout => exact execRailAckTimeout_keep h
  | fixedRailFault => exact execFixedRailFault_keep h
  | tempSample => exact execTempSample_keep h
  | thermalRestart => exact execThermalRestart_keep h
  | refLost => exact execRefLost_keep h
  | pllUnlock => exact execPllUnlock_keep h
  | pllRelock => exact execPllRelock_keep h
  | xtal32Stop => exact execXtal32Stop_keep h
  | instanceTagWrite => exact execInstanceTagWrite_keep h
  | potSet => exact execPotSet_keep h
  | potSetAttr => exact execPotSetAttr_keep h
  | potShare => exact execPotShare_keep h
  | potEpochDrained => exact execPotEpochDrained_keep h
  | potCmdDone => exact execPotCmdDone_keep h
  | instCreate => exact execInstCreate_keep h
  | instStart => exact execInstStart_keep h
  | instQuiesce => exact execInstQuiesce_keep h
  | quiesceDrainDone => exact execQuiesceDrainDone_keep h
  | quiesceLimitExpiry => exact execQuiesceLimitExpiry_keep h
  | ownerSweep => exact execOwnerSweep_keep h
  | quiesceDone => exact execQuiesceDone_keep h
  | instReset => exact execInstReset_keep h
  | instRemove => exact execInstRemove_keep h
  | functionLevelReset => exact execFunctionLevelReset_keep h
  | vfMapWrite => exact execVfMapWrite_keep h
  | pcieRequest => exact execPcieRequest_keep h
  | viewEntryWrite => exact execViewEntryWrite_keep h
  | mbxDataWrite => exact execMbxDataWrite_keep h
  | mbSend => exact execMbSend_keep h
  | mbAck => exact execMbAck_keep h
  | mbRearm => exact execMbRearm_keep h
  | mgrRearm => exact execMgrRearm_keep h
  | valeOpen => exact execValeOpen_keep h
  | valeLoad => exact execValeLoad_keep h
  | valeSeal => exact execValeSeal_keep h
  | valeClose => exact execValeClose_keep h
  | valeCmdDone => exact execValeCmdDone_keep h
  | passEnter => exact execPassEnter_keep h
  | passRet => exact execPassRet_keep h
  | passMark => exact execPassMark_keep h
  | suspendingExit => exact execSuspendingExit_keep h
  | valeFaultExit => exact execValeFaultExit_keep h
  | dmaOwnerWrite => exact execDmaOwnerWrite_keep h
  | swdtKick => exact execSwdtKick_keep h
  | swdtTick => exact execSwdtTick_keep h
  | secureWdtExpiry => exact execSecureWdtExpiry_keep h
  | dramRequest => exact execDramRequest_keep h
  | dramRefresh => exact execDramRefresh_keep h
  | mr4Poll => exact execMr4Poll_keep h
  | caReplay => exact execCaReplay_keep h
  | caRetrainDone => exact execCaRetrainDone_keep h
  | spareStart => exact execSpareStart_keep h
  | spareCancel => exact execSpareCancel_keep h
  | spareCopyDone => exact execSpareCopyDone_keep h
  | qosWindow => exact execQosWindow_keep h
  | portReservationWrite => exact execPortReservationWrite_keep h
  | admitEffWrite => exact execAdmitEffWrite_keep h
  | livenessTest => exact execLivenessTest_keep h
  | ctxRead => exact execCtxRead_keep h
  | ctxWrite => exact execCtxWrite_keep h
  | ctxEnable => exact execCtxEnable_keep h
  | ctxDisable => exact execCtxDisable_keep h
  | ringDisabled => exact execRingDisabled_keep h
  | ctxMigrate => exact execCtxMigrate_keep h
  | migrateDone => exact execMigrateDone_keep h
  | doorbellProducerUpdate => exact execDoorbellProducerUpdate_keep h
  | doorbellConsumerUpdate => exact execDoorbellConsumerUpdate_keep h
  | doorbellFenceNotify => exact execDoorbellFenceNotify_keep h
  | doorbellResume => exact execDoorbellResume_keep h
  | doorbellAbort => exact execDoorbellAbort_keep h
  | ringDoorbellInvalid => exact execRingDoorbellInvalid_keep h
  | descriptorFetch => exact execDescriptorFetch_keep h
  | jobStart => exact execJobStart_keep h
  | fenceWaitMet => exact execFenceWaitMet_keep h
  | fenceTimeout => exact execFenceTimeout_keep h
  | completionRecordWrite => exact execCompletionRecordWrite_keep h
  | cqIrqTimer => exact execCqIrqTimer_keep h
  | eventRecordDeliver => exact execEventRecordDeliver_keep h
  | dmaGather => exact execDmaGather_keep h
  | dmaScatter => exact execDmaScatter_keep h
  | dmaFill => exact execDmaFill_keep h
  | dmaFence => exact execDmaFence_keep h
  | dmaBusError => exact execDmaBusError_keep h
  | dmaJobDone => exact execDmaJobDone_keep h
  | dmaCtrlResume => exact execDmaCtrlResume_keep h
  | dmaCtrlAbort => exact execDmaCtrlAbort_keep h
  | dmaHaltTimeout => exact execDmaHaltTimeout_keep h
  | safetyFaultLine => exact execSafetyFaultLine_keep h
  | earlyBacklightOff => exact execEarlyBacklightOff_keep h
  | faultReadback => exact execFaultReadback_keep h
  | faultRelease => exact execFaultRelease_keep h
  | gfxSubmission => exact execGfxSubmission_keep h
  | gfxStateTargets => exact execGfxStateTargets_keep h
  | gfxStateViewport => exact execGfxStateViewport_keep h
  | gfxStateScissor => exact execGfxStateScissor_keep h
  | gfxStateBlendConst => exact execGfxStateBlendConst_keep h
  | gfxStateDepthBias => exact execGfxStateDepthBias_keep h
  | gfxStateStencilRef => exact execGfxStateStencilRef_keep h
  | gfxBindPipeline => exact execGfxBindPipeline_keep h
  | gfxBindSet => exact execGfxBindSet_keep h
  | gfxBindVertex => exact execGfxBindVertex_keep h
  | gfxBindIndex => exact execGfxBindIndex_keep h
  | gfxBindPush => exact execGfxBindPush_keep h
  | gfxDrawDirect => exact execGfxDrawDirect_keep h
  | gfxDrawIndexed => exact execGfxDrawIndexed_keep h
  | gfxDrawIndirect => exact execGfxDrawIndirect_keep h
  | gfxDispatchDirect => exact execGfxDispatchDirect_keep h
  | gfxDispatchIndirect => exact execGfxDispatchIndirect_keep h
  | gfxBarrier => exact execGfxBarrier_keep h
  | gfxSignal => exact execGfxSignal_keep h
  | gfxWait => exact execGfxWait_keep h
  | gfxTimestampTop => exact execGfxTimestampTop_keep h
  | gfxTimestampBottom => exact execGfxTimestampBottom_keep h
  | gfxJobEnd => exact execGfxJobEnd_keep h
  | compositorPreempt => exact execCompositorPreempt_keep h
  | preemptKillExpiry => exact execPreemptKillExpiry_keep h
  | jobLimitExpiry => exact execJobLimitExpiry_keep h
  | gfxCtxFault => exact execGfxCtxFault_keep h
  | commitPacket => exact execCommitPacket_keep h
  | composeFrameDone => exact execComposeFrameDone_keep h
  | layerFetchError => exact execLayerFetchError_keep h
  | layerSubstForce => exact execLayerSubstForce_keep h
  | coefDataWrite => exact execCoefDataWrite_keep h
  | wbFrameDone => exact execWbFrameDone_keep h
  | disabledHeadLatch => exact execDisabledHeadLatch_keep h
  | basinGranWrite => exact execBasinGranWrite_keep h
  | basinEccError => exact execBasinEccError_keep h
  | headEnable => exact execHeadEnable_keep h
  | headPllLock => exact execHeadPllLock_keep h
  | headPllRetry => exact execHeadPllRetry_keep h
  | headDisable => exact execHeadDisable_keep h
  | vblankStart => exact execVblankStart_keep h
  | grpArm => exact execGrpArm_keep h
  | genlockPulse => exact execGenlockPulse_keep h
  | genlockWindowClose => exact execGenlockWindowClose_keep h
  | posePost => exact execPosePost_keep h
  | poseCheckDone => exact execPoseCheckDone_keep h
  | poseLatch => exact execPoseLatch_keep h
  | headSrcWrite => exact execHeadSrcWrite_keep h
  | frameStart => exact execFrameStart_keep h
  | mirrorStreamStop => exact execMirrorStreamStop_keep h
  | lsramDataAccess => exact execLsramDataAccess_keep h
  | safeSramUe => exact execSafeSramUe_keep h
  | slTransaction => exact execSlTransaction_keep h
  | slState => exact execSlState_keep h
  | slClear => exact execSlClear_keep h
  | slLogReq => exact execSlLogReq_keep h
  | slWake => exact execSlWake_keep h
  | slTimeout => exact execSlTimeout_keep h
  | swdKick => exact execSwdKick_keep h
  | safetyWdtExpiry => exact execSafetyWdtExpiry_keep h
  | lockstepMismatch => exact execLockstepMismatch_keep h
  | logDataRead => exact execLogDataRead_keep h
  | linkEnable => exact execLinkEnable_keep h
  | linkDisable => exact execLinkDisable_keep h
  | linkPowerUp => exact execLinkPowerUp_keep h
  | linkTrain => exact execLinkTrain_keep h
  | linkTrainEnd => exact execLinkTrainEnd_keep h
  | linkRetry => exact execLinkRetry_keep h
  | linkHpdTimeout => exact execLinkHpdTimeout_keep h
  | linkPoweroffTimer => exact execLinkPoweroffTimer_keep h
  | linkLoadFault => exact execLinkLoadFault_keep h
  | hpdIrq => exact execHpdIrq_keep h
  | hpdUnplug => exact execHpdUnplug_keep h
  | hpdPlug => exact execHpdPlug_keep h
  | auxGo => exact execAuxGo_keep h
  | auxDone => exact execAuxDone_keep h
  | dsiCmdGo => exact execDsiCmdGo_keep h
  | dsiSent => exact execDsiSent_keep h
  | csiFrameStart => exact execCsiFrameStart_keep h
  | csiLongPacket => exact execCsiLongPacket_keep h
  | csiFrameEnd => exact execCsiFrameEnd_keep h
  | capFrameWritten => exact execCapFrameWritten_keep h
  | capWriteError => exact execCapWriteError_keep h
  | capLost => exact execCapLost_keep h
  | trigFire => exact execTrigFire_keep h
  | trigPulseDue => exact execTrigPulseDue_keep h
  | surfaceStart => exact execSurfaceStart_keep h
  | scanStart => exact execScanStart_keep h
  | scanEnd => exact execScanEnd_keep h
  | reportWrite => exact execReportWrite_keep h
  | surfRebase => exact execSurfRebase_keep h
  | surfSelftest => exact execSurfSelftest_keep h
  | rptEnable => exact execRptEnable_keep h
  | rptConsWrite => exact execRptConsWrite_keep h
  | wakeScan => exact execWakeScan_keep h
  | portPowerOn => exact execPortPowerOn_keep h
  | portPowerOff => exact execPortPowerOff_keep h
  | surfDetach => exact execSurfDetach_keep h
  | surfInsert => exact execSurfInsert_keep h
  | surfIdReadDone => exact execSurfIdReadDone_keep h
  | authSignDone => exact execAuthSignDone_keep h
  | wearBlock => exact execWearBlock_keep h
  | wearRecordWrite => exact execWearRecordWrite_keep h
  | hvEnableWrite => exact execHvEnableWrite_keep h
  | hvClearOc => exact execHvClearOc_keep h
  | haptOvercurrent => exact execHaptOvercurrent_keep h
  | haptHvFault => exact execHaptHvFault_keep h
  | boostClear => exact execBoostClear_keep h
  | haptStreamEnable => exact execHaptStreamEnable_keep h
  | haptTick => exact execHaptTick_keep h
  | resonanceCal => exact execResonanceCal_keep h
  | haptCalStepDone => exact execHaptCalStepDone_keep h
  | haptThrottleStep => exact execHaptThrottleStep_keep h
  | audioTick => exact execAudioTick_keep h
  | gainTimeout => exact execGainTimeout_keep h
  | safeloadGo => exact execSafeloadGo_keep h
  | psetDataAccess => exact execPsetDataAccess_keep h
  | audioStreamEnable => exact execAudioStreamEnable_keep h
  | audMclkLost => exact execAudMclkLost_keep h
  | audMclkGlitch => exact execAudMclkGlitch_keep h
  | clkLostClear => exact execClkLostClear_keep h
  | mclkReturn => exact execMclkReturn_keep h
  | asrcRelock => exact execAsrcRelock_keep h
  | asrcLock => exact execAsrcLock_keep h
  | silenceHoldExpiry => exact execSilenceHoldExpiry_keep h
  | alarmRun => exact execAlarmRun_keep h
  | alarmPatternWrite => exact execAlarmPatternWrite_keep h
  | alarmEnd => exact execAlarmEnd_keep h
  | alarmAmpRelease => exact execAlarmAmpRelease_keep h
  | framerClockSwitch => exact execFramerClockSwitch_keep h
  | encTransition => exact execEncTransition_keep h
  | encBurstEnd => exact execEncBurstEnd_keep h
  | encSet => exact execEncSet_keep h
  | dinChange => exact execDinChange_keep h
  | gpioEdge => exact execGpioEdge_keep h
  | gpioCfgWrite => exact execGpioCfgWrite_keep h
  | pinOwnerWrite => exact execPinOwnerWrite_keep h
  | i2cGo => exact execI2cGo_keep h
  | i2cDone => exact execI2cDone_keep h
  | uartTxWrite => exact execUartTxWrite_keep h
  | uartRxByte => exact execUartRxByte_keep h
  | uartRxRead => exact execUartRxRead_keep h
  | ptmDialogue => exact execPtmDialogue_keep h
  | ppsEdge => exact execPpsEdge_keep h
  | timeMasterLost => exact execTimeMasterLost_keep h
  | snapArm => exact execSnapArm_keep h
  | snapCancel => exact execSnapCancel_keep h
  | snapStrobe => exact execSnapStrobe_keep h
  | hartWfi => exact execHartWfi_keep h
  | backlightOnDelayExpiry => exact execBacklightOnDelayExpiry_keep h
  | timeSlewEnd => exact execTimeSlewEnd_keep h
  | jtagHalt => exact execJtagHalt_keep h
  | worldCsrAccess => exact execWorldCsrAccess_keep h
  | custom0Illegal => exact execCustom0Illegal_keep h

/-- Every command completes: no arm answers a fault or a refusal. -/
theorem exec_completes (c : Instr) (s : State) : ∃ t, exec c s = .next t := by
  cases c <;> exact ⟨_, rfl⟩

/-! ### Steps and runs -/

/-- Memories in canonical form are what Keep asks of a state beyond its variant and queue. -/
theorem keep_of_wf {s : State} (h : Memory.wf s = true) : Keep s.variant s.pending s := by
  simp only [Memory.wf, Bool.and_eq_true] at h
  obtain ⟨⟨⟨hdram, hbasin⟩, hflash⟩, hotp⟩ := h
  exact ⟨rfl, rfl, hdram, hbasin, hflash, hotp⟩

theorem wf_of_keep {v : Variant} {q : List Instr} {s : State} (h : Keep v q s) : Memory.wf s = true := by
  obtain ⟨hvar, -, hdram, hbasin, hflash, hotp⟩ := h
  simp only [Memory.wf, hvar, hdram, hbasin, hflash, hotp, Bool.and_self]

theorem step_of_idle {s : State} (h : s.pending = []) : step s = .next s.idleTick := by
  unfold step
  rw [h]

theorem step_of_command {s : State} {c : Instr} {rest : List Instr} (h : s.pending = c :: rest) :
    step s = exec c { s with pending := rest } := by
  unfold step
  rw [h]

/-- Every step completes. -/
theorem step_completes (s : State) : ∃ t, step s = .next t := by
  cases h : s.pending with
  | nil => exact ⟨_, step_of_idle h⟩
  | cons c rest => rw [step_of_command h]; exact exec_completes c _

/-- A step keeps the variant and the canonical form of the memories, and takes the front of the queue. -/
theorem step_keep {v : Variant} {q : List Instr} {s t : State} (h : Keep v q s) (e : step s = .next t) : Keep v q.tail t := by
  cases hq : s.pending with
  | nil =>
    rw [step_of_idle hq] at e
    rw [← h.pend, hq, ← Host.Outcome.next.inj e]
    exact idleTick_keep ⟨h.var, hq, h.dram, h.basin, h.flash, h.otp⟩
  | cons c rest =>
    rw [step_of_command hq] at e
    rw [← h.pend, hq]
    exact exec_keep (s := { s with pending := rest }) ⟨h.var, rfl, h.dram, h.basin, h.flash, h.otp⟩ c t e

theorem runs_succ {n : Nat} {s t : State} (e : step s = .next t) : runs (n + 1) s = runs n t := by
  simp only [runs, e]

/-- A run of any length completes. -/
theorem runs_completes (n : Nat) (s : State) : ∃ t, runs n s = some t := by
  induction n generalizing s with
  | zero => exact ⟨s, rfl⟩
  | succ n ih =>
    obtain ⟨t, e⟩ := step_completes s
    rw [runs_succ e]
    exact ih t

/-- A run keeps the variant and the canonical form of the memories. -/
theorem runs_keep {n : Nat} {v : Variant} {q : List Instr} {s t : State} (h : Keep v q s) (e : runs n s = some t) : ∃ q', Keep v q' t := by
  induction n generalizing q s with
  | zero => exact ⟨q, Option.some.inj e ▸ h⟩
  | succ n ih =>
    obtain ⟨u, eu⟩ := step_completes s
    rw [runs_succ eu] at e
    exact ih (step_keep h eu) e

/-! ### The obligations -/

/-- Settles O53: each operation keeps the four memories canonical, so each command does, and an induction over the steps carries it along runs. -/
theorem stepKeepsMemories : Obligations.StepKeepsMemories := by
  unfold Obligations.StepKeepsMemories
  refine ⟨?steps, ?run, ?safe⟩
  case steps =>
    intro s h
    obtain ⟨t, e⟩ := step_completes s
    have k := step_keep (keep_of_wf h) e
    exact ⟨t, e, wf_of_keep k, k.var, k.pend⟩
  case run =>
    intro s n h
    obtain ⟨t, e⟩ := runs_completes n s
    obtain ⟨q, k⟩ := runs_keep (keep_of_wf h) e
    exact ⟨t, e, wf_of_keep k, k.var⟩
  case safe =>
    intro s n
    obtain ⟨t, e⟩ := runs_completes n s
    rw [e]
    rfl

/-- Settles O51: the queue's front is what step matches on, and an idle tick is an update of the time base. -/
theorem stepRunsFrontCommand : Obligations.StepRunsFrontCommand := by
  unfold Obligations.StepRunsFrontCommand
  refine ⟨fun c s rest h => step_of_command h, exec_completes, fun s h => ⟨step_of_idle h, ?_⟩⟩
  unfold State.idleTick
  dsimp only
  split
  · rfl
  · split
    · rfl
    · split <;> rfl

/-- A field of the reset state reads as its reset value. -/
theorem rd_reset {f : Fld} {i j b : Nat} : State.reset.rd f i j b = f.rst.val State.reset.variant i j b := by
  unfold State.rd
  split <;> rfl

/-- Settles O52: no field, counter or command is listed in the reset state, so each reads as its reset value; the factory bank is canonical. -/
theorem resetState : Obligations.ResetState := by
  unfold Obligations.ResetState
  refine ⟨⟨rfl, by decide, rfl⟩, ?header, fun _ _ _ => rfl, rfl, rfl⟩
  case header =>
    rintro ⟨b, i⟩ -
    simp only [rd_reset]
    refine ⟨rfl, rfl, rfl, rfl, rfl, rfl, rfl, rfl, ?_⟩
    cases b <;> rfl

/-! ### The parts listed for COMPOSE_FRAME_DONE -/

/-- An engine about to complete the frame of head 0 while the writes of the writeback frame before it have not yet ended. -/
def writebackBusy : State :=
  let s : State := { comp := { busy := [(0, 1)], wb := [(0, { busy := true })] } }
  (s.wr (HDR.enable .comp) 1).wr RSCHED.FENCE_SLOTS.slots 1

/-- The completed frame first ends that writeback frame (R270, R271), which numbers it in WB_SEQ. -/
theorem composeDone_writebackBusy : (writebackBusy.composeDone 0).rd COMP.WB_SEQ.w = 1 := by decide +kernel

/-- Refutes O54: the writeback that a completed frame ends writes WB_SEQ, which mayChange does not list for COMPOSE_FRAME_DONE. -/
theorem not_commandsChangeOnlyTheirParts : ¬ Obligations.CommandsChangeOnlyTheirParts := by
  unfold Obligations.CommandsChangeOnlyTheirParts
  intro h
  have same : (writebackBusy.composeDone 0).rd COMP.WB_SEQ.w = writebackBusy.rd COMP.WB_SEQ.w :=
    rd_apart (h (.composeFrameDone 0) writebackBusy _ rfl) (by decide)
  rw [composeDone_writebackBusy] at same
  exact absurd same (by decide)

end Sys2Proof.Proofs

/-! Reading a field after an update, by tests on the fields alone: whichever page, element and bank are read, an update of fields that lie apart
leaves them. -/

namespace Sys2Proof.Proofs

open Machine Laws

section

variable {s t : State} {f g : Fld} {v i j b i' j' b' : Nat} {T : List Piece}

/-! ### Fields that share no cell -/

/-- Whether no elements of two fields share a cell: their lowest bits differ, their strides bring no two offsets together, or their page types
differ. -/
def sep (f g : Fld) : Bool :=
  f.lo % 64 != g.lo % 64 || f.off % ((f.stride.gcd g.stride).gcd 4096) != g.off % ((f.stride.gcd g.stride).gcd 4096) || f.blk != g.blk

theorem key_ne_of_sep (h : sep f g = true) : f.key i j b ≠ g.key i' j' b' := by
  simp only [sep, Bool.or_eq_true, bne_iff_ne, ne_eq] at h
  rcases h with (hlo | hoff) | hblk
  · exact key_ne fun e => hlo (by unfold place at e; omega)
  · refine key_ne fun e => hoff ?_
    have hplace : (f.off + f.stride * j) % 4096 = (g.off + g.stride * j') % 4096 := by unfold place at e; omega
    generalize hn : (f.stride.gcd g.stride).gcd 4096 = n
    have hd : n ∣ f.stride.gcd g.stride := hn ▸ Nat.gcd_dvd_left _ _
    have h4096 : n ∣ 4096 := hn ▸ Nat.gcd_dvd_right _ _
    have elt : ∀ {o st k : Nat}, n ∣ st → (o + st * k) % 4096 % n = o % n := by
      rintro o st k ⟨c, rfl⟩
      rw [Nat.mod_mod_of_dvd _ h4096, Nat.mul_assoc, Nat.add_mul_mod_self_left]
    rw [← elt (Nat.dvd_trans hd (Nat.gcd_dvd_left _ _)) (k := j), hplace, elt (Nat.dvd_trans hd (Nat.gcd_dvd_right _ _))]
  · exact key_ne_blk hblk

theorem rd_wr_sep (h : sep f g = true) : (s.wr f v i j b).rd g i' j' b' = s.rd g i' j' b' := rd_wr_ne (key_ne_of_sep h)

theorem rd_wrB_sep {x : Bool} (h : sep f g = true) : (s.wrB f x i j b).rd g i' j' b' = s.rd g i' j' b' := rd_wr_sep h

theorem on_wr_sep (h : sep f g = true) : (s.wr f v i j b).on g i' j' b' = s.on g i' j' b' := by
  unfold State.on
  rw [rd_wr_sep h]

/-- Elements of one field in the same bank lie apart when their offsets do. -/
theorem rd_wr_elt (h : (f.off + f.stride * j) % 4096 ≠ (f.off + f.stride * j') % 4096) :
    (s.wr f v i j b).rd f i' j' b' = s.rd f i' j' b' :=
  rd_wr_ne (key_ne fun e => h (by unfold place at e; omega))

/-- So do its fields on different pages. -/
theorem rd_wr_page (h : f.blk.page i ≠ g.blk.page i') : (s.wr f v i j b).rd g i' j' b' = s.rd g i' j' b' :=
  rd_wr_ne (cell_ne_page h)

/-! ### Parts that take in no element of a field -/

/-- Whether a part takes in no element of a field, on no page and in no bank. -/
def clear (f : Fld) : Piece → Bool
  | .fld g => sep g f
  | .err k => k != f.blk || (f.stride == 0 && (decide (f.off % 4096 < 0x28) || decide (0x30 ≤ f.off % 4096)))
  | .reg k _ | .blk k => k != f.blk
  | .hdr => f.stride == 0 && decide (0x100 ≤ f.off % 4096)
  | .allRegs => false
  | _ => true

theorem not_hits_of_clear {p : Piece} (h : clear f p = true) : ¬ p.hits f i j b := by
  intro hh
  cases p with
  | fld g =>
    obtain ⟨i', j', b', e⟩ := hh
    exact key_ne_of_sep h e.symm
  | err k =>
    obtain ⟨hb, h1, h2⟩ := hh
    simp only [clear, hb, bne_self_eq_false, Bool.false_or, Bool.and_eq_true, beq_iff_eq, Bool.or_eq_true, decide_eq_true_eq] at h
    obtain ⟨hst, h⟩ := h
    rw [hst, Nat.zero_mul, Nat.add_zero] at h1 h2
    omega
  | reg k off => simp [clear, reg_blk hh] at h
  | blk k =>
    have hb : f.blk = k := hh
    simp [clear, hb] at h
  | hdr =>
    have h1 : (f.off + f.stride * j) % 4096 < 0x100 := hh
    simp only [clear, Bool.and_eq_true, beq_iff_eq, decide_eq_true_eq] at h
    obtain ⟨hst, h⟩ := h
    rw [hst, Nat.zero_mul, Nat.add_zero] at h1
    omega
  | allRegs => simp [clear] at h
  | _ => exact hh

/-- A field that no part of an update takes in reads as before. -/
theorem rd_clear (h : Frame T s t) (e : T.all (clear f) = true) : t.rd f i j b = s.rd f i j b :=
  (h.regs f i j b fun p hp => not_hits_of_clear (List.all_eq_true.1 e p hp)).1

theorem on_clear (h : Frame T s t) (e : T.all (clear f) = true) : t.on f i j b = s.on f i j b := by
  unfold State.on
  rw [rd_clear h e]

theorem all_clear_of_subset {L M : List Piece} (h : M.all (clear f) = true) (hsub : L ⊆ M) : L.all (clear f) = true :=
  List.all_eq_true.2 fun p hp => List.all_eq_true.1 h p (hsub hp)

/-- What stays within some parts stays within more. -/
theorem frame_mono {L M : List Piece} (h : Frame L s t) (hsub : L ⊆ M) : Frame M s t := by
  have out : ∀ {p : Piece}, p ∉ M → p ∉ L := fun hp hl => hp (hsub hl)
  exact ⟨h.variant, h.pending, fun f i j b hn => h.regs f i j b fun p hp => hn p (hsub hp), fun b i j h1 h2 => h.ctr b i j (out h1) (out h2),
    fun n => h.resp (out n), fun n => h.cpl (out n), fun n => h.staged (out n), fun n => h.parts (out n), fun n => h.latch (out n),
    fun n => h.stage (out n), fun n => h.snap (out n), fun n => h.sent (out n), fun n => h.free (out n), fun n => h.dram (out n),
    fun n => h.basin (out n), fun n => h.flash (out n), fun n => h.otp (out n), fun n => h.pins (out n), fun n => h.pot (out n),
    fun n => h.inst (out n), fun n => h.time (out n), fun n => h.events (out n), fun n => h.evSeq (out n), fun n => h.faults (out n),
    fun n => h.mem (out n), fun n => h.rings (out n), fun n => h.world (out n), fun n => h.gfx (out n), fun n => h.comp (out n),
    fun n => h.heads (out n), fun n => h.safe (out n), fun n => h.links (out n), fun n => h.caps (out n), fun n => h.pwr (out n),
    fun n => h.surf (out n), fun n => h.hapt (out n), fun n => h.touch (out n), fun n => h.audio (out n), fun n => h.alarm (out n),
    fun n => h.ctl (out n)⟩

theorem frame_pwr {L : List Piece} {r : State} {x : PwrSt} (h : Frame L r s) (m : .pwr ∈ L) : Frame L r { s with pwr := x } :=
  Frame.upd h (m_pwr := .inl m)

/-! ### Updates of one part beside the registers -/

theorem rd_with_resp {x : Resp} : ({ s with resp := x } : State).rd f i j b = s.rd f i j b := (rfl)
theorem rd_with_cpl {x : Option Completion} : ({ s with cpl := x } : State).rd f i j b = s.rd f i j b := (rfl)
theorem rd_with_parts {x : SMap Nat} : ({ s with parts := x } : State).rd f i j b = s.rd f i j b := (rfl)
theorem rd_with_snap {x : SMap Nat} : ({ s with snap := x } : State).rd f i j b = s.rd f i j b := (rfl)
theorem rd_with_sent {x : List Msg} : ({ s with sent := x } : State).rd f i j b = s.rd f i j b := (rfl)
theorem rd_with_dram {x : List Host.Cell} : ({ s with dram := x } : State).rd f i j b = s.rd f i j b := (rfl)
theorem rd_with_basin {x : List Host.Cell} : ({ s with basin := x } : State).rd f i j b = s.rd f i j b := (rfl)
theorem rd_with_flash {x : List Host.Cell} : ({ s with flash := x } : State).rd f i j b = s.rd f i j b := (rfl)
theorem rd_with_otp {x : List Host.Cell} : ({ s with otp := x } : State).rd f i j b = s.rd f i j b := (rfl)
theorem rd_with_pins {x : Pins} : ({ s with pins := x } : State).rd f i j b = s.rd f i j b := (rfl)
theorem rd_with_pot {x : PotSt} : ({ s with pot := x } : State).rd f i j b = s.rd f i j b := (rfl)
theorem rd_with_inst {x : InstSt} : ({ s with inst := x } : State).rd f i j b = s.rd f i j b := (rfl)
theorem rd_with_time {x : TimeSt} : ({ s with time := x } : State).rd f i j b = s.rd f i j b := (rfl)
theorem rd_with_faults {x : List FaultSig} : ({ s with faults := x } : State).rd f i j b = s.rd f i j b := (rfl)
theorem rd_with_mem {x : DramSt} : ({ s with mem := x } : State).rd f i j b = s.rd f i j b := (rfl)
theorem rd_with_rings {x : RingSt} : ({ s with rings := x } : State).rd f i j b = s.rd f i j b := (rfl)
theorem rd_with_world {x : WorldSt} : ({ s with world := x } : State).rd f i j b = s.rd f i j b := (rfl)
theorem rd_with_gfx {x : GfxSt} : ({ s with gfx := x } : State).rd f i j b = s.rd f i j b := (rfl)
theorem rd_with_comp {x : CompSt} : ({ s with comp := x } : State).rd f i j b = s.rd f i j b := (rfl)
theorem rd_with_heads {x : SMap HeadSt} : ({ s with heads := x } : State).rd f i j b = s.rd f i j b := (rfl)
theorem rd_with_safe {x : SafeSt} : ({ s with safe := x } : State).rd f i j b = s.rd f i j b := (rfl)
theorem rd_with_links {x : SMap LinkSt} : ({ s with links := x } : State).rd f i j b = s.rd f i j b := (rfl)
theorem rd_with_caps {x : SMap CapSt} : ({ s with caps := x } : State).rd f i j b = s.rd f i j b := (rfl)
theorem rd_with_pwr {x : PwrSt} : ({ s with pwr := x } : State).rd f i j b = s.rd f i j b := (rfl)
theorem rd_with_surf {x : SMap SurfSt} : ({ s with surf := x } : State).rd f i j b = s.rd f i j b := (rfl)
theorem rd_with_hapt {x : HaptSt} : ({ s with hapt := x } : State).rd f i j b = s.rd f i j b := (rfl)
theorem rd_with_touch {x : SMap TouchSt} : ({ s with touch := x } : State).rd f i j b = s.rd f i j b := (rfl)
theorem rd_with_audio {x : AudioSt} : ({ s with audio := x } : State).rd f i j b = s.rd f i j b := (rfl)
theorem rd_with_alarm {x : AlarmSt} : ({ s with alarm := x } : State).rd f i j b = s.rd f i j b := (rfl)
theorem rd_with_ctl {x : CtlSt} : ({ s with ctl := x } : State).rd f i j b = s.rd f i j b := (rfl)

/-! ### Resets of pages (R67) -/

/-- The cells of a field lie on its page. -/
theorem key_bounds : pageLo (f.blk.page i) ≤ f.key i j b ∧ f.key i j b < pageLo (f.blk.page i + 1) := by
  have e := cell_page (f.blk.page i) b (f.off + f.stride * j) f.lo
  unfold Fld.key pageLo cell at *
  omega

theorem pageLo_mono {p q : Nat} (h : p ≤ q) : pageLo p ≤ pageLo q := by unfold pageLo cell; omega

/-- A field of a reset page reads its reset value. -/
theorem rd_resetPages_in {lo hi : Nat} (h : lo ≤ f.blk.page i ∧ f.blk.page i < hi) :
    (s.resetPages lo hi).rd f i j b = f.rst.val s.variant i j b := by
  have hk := key_bounds (f := f) (i := i) (j := j) (b := b)
  have hin : pageLo lo ≤ f.key i j b ∧ f.key i j b < pageLo hi :=
    ⟨Nat.le_trans (pageLo_mono h.1) hk.1, Nat.lt_of_lt_of_le hk.2 (pageLo_mono h.2)⟩
  unfold State.rd State.resetPages
  split <;> exact mget_mdrop_in hin

/-- A field of a page outside the range keeps its value. -/
theorem rd_resetPages_out {lo hi : Nat} (h : f.blk.page i < lo ∨ hi ≤ f.blk.page i) : (s.resetPages lo hi).rd f i j b = s.rd f i j b := by
  have hk := key_bounds (f := f) (i := i) (j := j) (b := b)
  have hout : f.key i j b < pageLo lo ∨ pageLo hi ≤ f.key i j b :=
    h.imp (fun h => Nat.lt_of_lt_of_le hk.2 (pageLo_mono h)) (fun h => Nat.le_trans (pageLo_mono h) hk.1)
  unfold State.rd State.resetPages
  split <;> exact mget_mdrop_out hout

/-! ### Folds -/

/-- What each step of a fold over a list leaves, the fold leaves. -/
theorem foldl_same_of_mem {α β γ : Type} (proj : γ → α) {step : γ → β → γ} {l : List β} {a : γ}
    (h : ∀ a, ∀ x ∈ l, proj (step a x) = proj a) : proj (l.foldl step a) = proj a := by
  induction l generalizing a with
  | nil => rfl
  | cons x l ih => exact (ih fun a y hy => h a y (List.mem_cons_of_mem x hy)).trans (h a x List.mem_cons_self)

theorem foldl_same {α β γ : Type} (proj : γ → α) {step : γ → β → γ} {l : List β} {a : γ} (h : ∀ a x, proj (step a x) = proj a) :
    proj (l.foldl step a) = proj a :=
  foldl_same_of_mem proj fun a x _ => h a x

/-! ### Accepted writes -/

/-- An accepted write of a page other than SWDT goes on with its own effect on the state answered normally. -/
theorem onWrite_accepted {w : Who} {k : Blk} {off x : Nat} {e : State → State} (h : accepts s w k i off x = true) (hk : k ≠ .swdt) :
    s.onWrite w k i off x e = e s.okResp := by
  rw [onWrite_of_accepts h, breakKick_ne hk]

end

end Sys2Proof.Proofs

/-! Resets of the domains (R33, R66 to R70): what each leaves in its domain's registers and fields. -/

namespace Sys2Proof.Proofs

open Machine Laws

section

variable {s : State} {c rails : Nat}

/-! ### The display domain -/

/-- A reset of the display domain shows its cause. -/
@[simp] theorem displayReset_display_cause : (s.displayReset c).rd BOOT.RST_CAUSE.display_cause = c % 16 := by
  unfold State.displayReset State.setCause
  dsimp only
  rw [rd_mk rfl]
  exact rd_wr_same

/-- It leaves a field of another domain, but for its cause and for the commit group that is aborted. -/
theorem displayReset_rd {f : Fld} {i j b : Nat} (hpage : f.blk.page i < 0x40 ∨ 0x58 ≤ f.blk.page i)
    (h : (.fld BOOT.RST_CAUSE.display_cause :: groupAbort_T).all (clear f) = true) : (s.displayReset c).rd f i j b = s.rd f i j b := by
  obtain ⟨hcause, habort⟩ := (List.all_cons ▸ (Bool.and_eq_true _ _).mp h : _ ∧ _)
  unfold State.displayReset State.setCause
  dsimp only
  rw [rd_mk rfl, rd_wr_sep hcause, rd_resetPages_out (by omega), rd_resetPages_out (by omega), rd_clear (groupAbort_frame Frame.refl Cov.refl) habort]

@[simp] theorem groupAbort_variant : s.groupAbort.variant = s.variant := (groupAbort_frame Frame.refl Cov.refl).variant

/-- Every link is Off after it. -/
theorem displayReset_linkState (n : Nat) : (s.displayReset c).linkState n = 0 := by
  have hpage : 0x50 ≤ LINK.LINK_STAT.state.blk.page n ∧ LINK.LINK_STAT.state.blk.page n < 0x58 := by
    change 0x50 ≤ 0x50 + 0 + (n - 0) % 8 ∧ 0x50 + 0 + (n - 0) % 8 < 0x58
    omega
  unfold State.linkState State.displayReset State.setCause
  dsimp only
  rw [rd_mk rfl, rd_wr_sep (by decide), rd_resetPages_in hpage]
  rfl

@[simp] theorem displayReset_dispen : (s.displayReset c).pins.dispen = 0 := rfl
@[simp] theorem displayReset_dispUp : (s.displayReset c).pwr.dispUp = false := rfl

/-- It changes PWR's working state only by the display domain being down. -/
theorem displayReset_pwr : (s.displayReset c).pwr = { s.pwr with dispUp := false } := by
  unfold State.displayReset State.setCause
  have h : ∀ f v, ((s.groupAbort.resetPages 0x40 0x48).resetPages 0x50 0x58 |>.wr f v).pwr = s.pwr := fun f v =>
    (wr_pwr _ _ _ _ _ _).trans ((groupAbort_frame (s := s) Frame.refl Cov.refl).pwr (by decide))
  dsimp only
  rw [h]

/-! ### The main domain -/

/-- The domain a reset of the main domain clears: on the way back from Deep sleep the display pages are gone by then (R91). -/
def mainResetFrom (s : State) : State :=
  if s.rd PWR.STATE.state = 6 ∧ s.rd PWR.STATE.target = 3 then s.displayReset (s.rd BOOT.RST_CAUSE.display_cause) else s

/-- What changes once the main domain is cleared until its cause is set: PLLs of heads, commit groups. -/
def mainCause_T : List Piece := headPlls_T ++ ungroup_T ++ setCause_T BOOT.RST_CAUSE.main_cause

/-- What the rest of the reset may change: heads on fallback, the FAULT outputs, the log. -/
def mainLate_T : List Piece := .fld SAFE.HEAD_SRC.fallback :: (faultAssert_T ++ logEntry_T)

/-- A step of the power sequence gives PWR:STATE its state. -/
theorem pwrStep_state {a b n : Nat} : (s.pwrStep a b n).rd PWR.STATE.state = a % 8 := by
  unfold State.pwrStep
  rw [rd_wr_sep (by decide), rd_wr_sep (by decide), rd_wr_same]
  rfl

theorem mainUp_with_osc {x : Bool} : ({ s with pwr := { s.pwr with osc := x } } : State).pwr.mainUp = s.pwr.mainUp := rfl

theorem clearMain_mainUp : s.clearMain.pwr.mainUp = false := rfl

/-- A reset of the main domain goes through a state in Run with the cause set, from which only the safety pages change. -/
theorem mainReset_late : ∃ u, Frame (mainCause_T ++ pwrStep_T) (mainResetFrom s).clearMain u ∧ Frame mainLate_T u (s.mainReset c) ∧
    u.rd PWR.STATE.state = 0 ∧ u.rd BOOT.RST_CAUSE.main_cause = c % 16 ∧ u.pwr.mainUp = false := by
  unfold State.mainReset
  extract_lets t run asleep told held s1 pwr s2 s3 s4
  have late : ∀ U : List Piece, U ⊆ mainLate_T → Cov U mainLate_T := fun _ => Cov.of_subset
  have hcause : Frame mainCause_T t.clearMain (t.clearMain.headPlls.ungroup.setCause BOOT.RST_CAUSE.main_cause c) :=
    setCause_frame (ungroup_frame (headPlls_frame Frame.refl (.of_subset (by decide))) (.of_subset (by decide))) (.of_subset (by decide))
  have h1 : Frame (mainCause_T ++ pwrStep_T) t.clearMain s1 :=
    pwrStep_frame (frame_mono hcause (List.subset_append_left ..)) (.of_subset (List.subset_append_right ..))
  have hup : s1.pwr.mainUp = false := by
    have hpwr : s1.pwr.mainUp = (t.clearMain.headPlls.ungroup.setCause BOOT.RST_CAUSE.main_cause c).pwr.mainUp := by
      simp only [s1, State.pwrStep, wr_pwr]
    rw [hpwr, hcause.pwr (by decide), clearMain_mainUp]
  have hmain : s1.rd BOOT.RST_CAUSE.main_cause = c % 16 := (rd_clear (pwrStep_frame Frame.refl Cov.refl) (by decide)).trans rd_wr_same
  have hstate : s1.rd PWR.STATE.state = 0 := pwrStep_state
  have h2 : Frame mainLate_T { s1 with pwr := { s1.pwr with osc := s1.pwr.osc || asleep } } s2 := wr_frame Frame.refl (late _ (by decide))
  have h3 : Frame mainLate_T { s1 with pwr := { s1.pwr with osc := s1.pwr.osc || asleep } } s3 :=
    Frame.ite (faultAssert_frame (Frame.foldl h2 fun _ _ h => setShead_frame h (late _ (by decide))) (late _ (by decide))) h2
  have h4 : Frame mainLate_T { s1 with pwr := { s1.pwr with osc := s1.pwr.osc || asleep } } s4 :=
    Frame.ite (logEntry_frame h3 (late _ (by decide))) h3
  exact ⟨_, frame_pwr h1 (by decide), h4, rd_with_pwr.trans hstate, rd_with_pwr.trans hmain, mainUp_with_osc.trans hup⟩

/-- PWR:STATE reads Run after a reset of the main domain. -/
@[simp] theorem mainReset_state : (s.mainReset c).rd PWR.STATE.state = 0 := by
  obtain ⟨u, -, hlate, hstate, -⟩ := mainReset_late (s := s) (c := c)
  rw [rd_clear hlate (by decide), hstate]

/-- The cause shows. -/
@[simp] theorem mainReset_main_cause : (s.mainReset c).rd BOOT.RST_CAUSE.main_cause = c % 16 := by
  obtain ⟨u, -, hlate, -, hcause, -⟩ := mainReset_late (s := s) (c := c)
  rw [rd_clear hlate (by decide), hcause]

@[simp] theorem mainReset_mainUp : (s.mainReset c).pwr.mainUp = false := by
  obtain ⟨u, -, hlate, -, -, hup⟩ := mainReset_late (s := s) (c := c)
  rw [hlate.pwr (by decide), hup]

theorem mainReset_frame_cleared : Frame (mainCause_T ++ pwrStep_T ++ mainLate_T) (mainResetFrom s).clearMain (s.mainReset c) := by
  obtain ⟨u, hstep, hlate, -⟩ := mainReset_late (s := s) (c := c)
  exact Frame.trans (frame_mono hstep (List.subset_append_left ..)) (frame_mono hlate (List.subset_append_right ..))

@[simp] theorem mainReset_dram : (s.mainReset c).dram = [] := mainReset_frame_cleared.dram (by decide)
@[simp] theorem mainReset_basin : (s.mainReset c).basin = [] := mainReset_frame_cleared.basin (by decide)
@[simp] theorem mainReset_rings : (s.mainReset c).rings = {} := mainReset_frame_cleared.rings (by decide)

/-- The page ranges of the main domain. -/
def mainPages : List (Nat × Nat) := [(0x00, 0x04), (0x06, 0x07), (0x08, 0x40), (0x48, 0x50), (0x58, 0xA0), (0xA1, 0xF0)]

/-- Clearing the main domain leaves a field of another domain. -/
theorem clearMain_rd {f : Fld} {i j b : Nat} (hpage : ∀ r ∈ mainPages, f.blk.page i < r.1 ∨ r.2 ≤ f.blk.page i)
    (h : pinChange_T.all (clear f) = true) : s.clearMain.rd f i j b = s.rd f i j b := by
  unfold State.clearMain State.ampPins
  dsimp only
  rw [rd_with_pins, rd_mk rfl]
  exact (foldl_same_of_mem (fun t => State.rd t f i j b) fun t r hr => rd_resetPages_out (hpage r hr)).trans
    (foldl_same (fun t => State.rd t f i j b) fun t e => rd_clear (pinChange_frame Frame.refl Cov.refl) h)

/-- Resets of pages leave what is not in registers, and so do changes of a pin's owner but for the controllers. -/
theorem foldl_resetPages_rest {l : List (Nat × Nat)} {t : State} :
    (l.foldl (fun (t : State) (r : Nat × Nat) => t.resetPages r.1 r.2) t).pwr = t.pwr ∧
      (l.foldl (fun (t : State) (r : Nat × Nat) => t.resetPages r.1 r.2) t).pins = t.pins :=
  ⟨foldl_same (fun t : State => t.pwr) fun _ _ => rfl, foldl_same (fun t : State => t.pins) fun _ _ => rfl⟩

theorem foldl_pinChange_rest {l : List Nat} {o : Nat} {t : State} : (l.foldl (fun t e => t.pinChange (48 + e) o) t).pwr = t.pwr ∧
    (l.foldl (fun t e => t.pinChange (48 + e) o) t).pins = t.pins :=
  ⟨foldl_same (fun t : State => t.pwr) fun _ _ => (pinChange_frame Frame.refl Cov.refl).pwr (by decide),
    foldl_same (fun t : State => t.pins) fun _ _ => (pinChange_frame Frame.refl Cov.refl).pins (by decide)⟩

/-- Its effect on PWR's working state. -/
theorem clearMain_pwr : s.clearMain.pwr =
    { s.pwr with mainUp := false, cold := false, entry := none, priv := true, commit := false, blanked := 0, swPause := false, touch := [] } := by
  unfold State.clearMain State.ampPins
  dsimp only
  rw [foldl_resetPages_rest.1, foldl_pinChange_rest.1]

theorem clearMain_pwrGood : s.clearMain.pins.pwrGood = s.pins.pwrGood := by
  unfold State.clearMain State.ampPins
  dsimp only
  rw [foldl_resetPages_rest.2, foldl_pinChange_rest.2]

theorem displayReset_pwrGood : (s.displayReset c).pins.pwrGood = s.pins.pwrGood := by
  unfold State.displayReset State.setCause
  dsimp only
  rw [wr_pins]
  exact congrArg Pins.pwrGood ((groupAbort_frame (s := s) Frame.refl Cov.refl).pins (by decide))

theorem faultAssert_pwrGood : s.faultAssert.pins.pwrGood = s.pins.pwrGood := by
  unfold State.faultAssert
  dsimp only
  split <;> simp only [wr_pins, raise_pins, count_pins]

/-- Counters of a page outside a reset range stay. -/
theorem counter_resetPages_out {k : Blk} {i j lo hi : Nat} (h : k.page i < lo ∨ hi ≤ k.page i) :
    (s.resetPages lo hi).counter k i j = s.counter k i j := by
  unfold State.counter State.resetPages
  refine mget_mdrop_out ?_
  unfold ctrKey
  omega

theorem clearMain_counter {k : Blk} {i j : Nat} (hpage : ∀ r ∈ mainPages, k.page i < r.1 ∨ r.2 ≤ k.page i) (henc : k ≠ .enc) :
    s.clearMain.counter k i j = s.counter k i j := by
  have hpins : ∀ {t : State} {n o : Nat}, (t.pinChange n o).counter k i j = t.counter k i j := fun {_ _ _} =>
    (pinChange_frame Frame.refl Cov.refl).ctr k i j (by simp [pinChange_T, henc]) (by decide)
  unfold State.clearMain State.ampPins State.counter
  dsimp only
  exact (foldl_same_of_mem (fun t : State => mget t.ctr (ctrKey (k.page i) j) 0) fun t r hr => counter_resetPages_out (hpage r hr)).trans
    (foldl_same (fun t : State => mget t.ctr (ctrKey (k.page i) j) 0) fun t e => hpins)

theorem displayReset_counter {k : Blk} {i j : Nat} (hpage : k.page i < 0x40 ∨ 0x58 ≤ k.page i) (hb : k ≠ .basin) :
    (s.displayReset c).counter k i j = s.counter k i j := by
  have habort : s.groupAbort.counter k i j = s.counter k i j :=
    (groupAbort_frame Frame.refl Cov.refl).ctr k i j (by simp [groupAbort_T, hb]) (by decide)
  have hcause : ∀ {u : State} {f : Fld} {v : Nat}, mget (u.wr f v).ctr (ctrKey (k.page i) j) 0 = u.counter k i j := counter_wr
  unfold State.displayReset State.setCause
  rw [State.counter]
  dsimp only
  rw [hcause, counter_resetPages_out (by omega), counter_resetPages_out (by omega), habort]

theorem mainReset_counter {k : Blk} {i j : Nat} (hpage : ∀ r ∈ mainPages ++ [(0x40, 0x58)], k.page i < r.1 ∨ r.2 ≤ k.page i)
    (hk : k ≠ .enc ∧ k ≠ .basin ∧ k ≠ .safe) : (s.mainReset c).counter k i j = s.counter k i j := by
  obtain ⟨henc, hbasin, hsafe⟩ := hk
  have hd := hpage (0x40, 0x58) (by decide)
  have hlate : .ctr k ∉ mainCause_T ++ pwrStep_T ++ mainLate_T := by
    simp [mainCause_T, pwrStep_T, mainLate_T, headPlls_T, ungroup_T, setCause_T, faultAssert_T, logEntry_T, hsafe]
  rw [mainReset_frame_cleared.ctr k i j hlate (by decide), clearMain_counter (fun r hr => hpage r (List.mem_append_left _ hr)) henc]
  unfold mainResetFrom
  split
  · exact displayReset_counter (by omega) hbasin
  · rfl

/-! ### The safety domain -/

/-- What of the safety domain's reset follows its cause: sources of running heads, the amplifier pins and high voltage. -/
def safetyLate_T : List Piece := [.fld SAFE.HB_STAT.source, .safe, .alarm, .faults, .parts, .pins, .pwr] ++ hvSync_T

/-- A reset of the safety domain leaves its outputs without drive and showing fault, the sounder and the fault line silent. -/
theorem safetyReset_late : ∃ u, Frame safetyLate_T ((s.flCut.resetPages 0xF0 0xF3).setCause BOOT.RST_CAUSE.safety_cause c) u ∧
    Frame hvSync_T u (s.safetyReset c) ∧ u.alarm = {} ∧ u.faults = [] ∧ u.pwr = { s.flCut.pwr with safeUp := false } ∧
    (u.pins.safeHiZ = true ∧ u.pins.faultA = false ∧ u.pins.faultB = true ∧ u.pins.pwrGood = s.pins.pwrGood) := by
  unfold State.safetyReset
  extract_lets s0 s1 _ _
  have hsrc : Frame [.fld SAFE.HB_STAT.source] s0 s1 := Frame.foldl Frame.refl fun _ _ h => Frame.ite (wr_frame h Cov.refl) h
  have h1 : Frame safetyLate_T s0 s1 := frame_mono hsrc (by decide)
  refine ⟨_, ampPins_frame (Frame.upd h1 (m_alarm := .inl (by decide)) (m_faults := .inl (by decide)) (m_pins := .inl (by decide))
    (m_pwr := .inl (by decide)) (m_safe := .inl (by decide)) (m_parts := .inl (by decide))) (.of_subset (by decide)),
    hvSync_frame Frame.refl Cov.refl, rfl, rfl, ?_, ?_⟩
  · change { s1.pwr with safeUp := false } = _
    rw [hsrc.pwr (by decide)]
    simp only [s0, State.setCause, wr_pwr]
    rfl
  · have hpins : s1.pins = s.pins := (hsrc.pins (by decide)).trans ((wr_pins ..).trans ((flCut_frame Frame.refl Cov.refl).pins (by decide)))
    refine ⟨rfl, rfl, rfl, ?_⟩
    change s1.pins.pwrGood = _
    rw [hpins]

@[simp] theorem safetyReset_safety_cause : (s.safetyReset c).rd BOOT.RST_CAUSE.safety_cause = c % 16 := by
  obtain ⟨u, hlate, hhv, -⟩ := safetyReset_late (s := s) (c := c)
  rw [rd_clear hhv (by decide), rd_clear hlate (by decide)]
  exact rd_wr_same

/-- It leaves a field of another domain, but for its cause, high voltage and the flash operation it cuts. -/
theorem safetyReset_rd {f : Fld} {i j b : Nat} (hpage : f.blk.page i < 0xF0 ∨ 0xF3 ≤ f.blk.page i)
    (h : (.fld BOOT.RST_CAUSE.safety_cause :: (flCut_T ++ safetyLate_T)).all (clear f) = true) :
    (s.safetyReset c).rd f i j b = s.rd f i j b := by
  obtain ⟨u, hlate, hhv, -⟩ := safetyReset_late (s := s) (c := c)
  simp only [List.all_cons, List.all_append, Bool.and_eq_true] at h
  obtain ⟨hcause, hcut, hrest⟩ := h
  have hhv' : hvSync_T.all (clear f) = true := by
    simp only [safetyLate_T, List.all_append, Bool.and_eq_true] at hrest
    exact hrest.2
  rw [rd_clear hhv hhv', rd_clear hlate hrest]
  unfold State.setCause
  rw [rd_wr_sep hcause, rd_resetPages_out hpage, rd_clear (flCut_frame Frame.refl Cov.refl) hcut]

/-- The SAFE bank drives nothing, FAULT shows fault, and PWR_GOOD stays. -/
theorem safetyReset_pins : (s.safetyReset c).pins.safeHiZ = true ∧ (s.safetyReset c).pins.faultA = false ∧
    (s.safetyReset c).pins.faultB = true ∧ (s.safetyReset c).pins.pwrGood = s.pins.pwrGood := by
  obtain ⟨u, -, hhv, -, -, -, hpins⟩ := safetyReset_late (s := s) (c := c)
  rw [hhv.pins (by decide)]
  exact hpins

@[simp] theorem safetyReset_alarm : (s.safetyReset c).alarm = {} := by
  obtain ⟨u, -, hhv, halarm, -⟩ := safetyReset_late (s := s) (c := c)
  rw [hhv.alarm (by decide), halarm]

@[simp] theorem safetyReset_faults : (s.safetyReset c).faults = [] := by
  obtain ⟨u, -, hhv, -, hfaults, -⟩ := safetyReset_late (s := s) (c := c)
  rw [hhv.faults (by decide), hfaults]

theorem safetyReset_pwr : (s.safetyReset c).pwr = { s.flCut.pwr with safeUp := false } := by
  obtain ⟨u, -, hhv, -, -, hpwr, -⟩ := safetyReset_late (s := s) (c := c)
  rw [hhv.pwr (by decide), hpwr]

/-- Without the safety domain the sounder is silent. -/
theorem sounderPin_of_down (h : s.pwr.safeUp = false) : s.sounderPin = false := by
  unfold State.sounderPin State.alarmPowered
  simp only [h, Bool.false_and]

/-! ### All four domains -/

/-- A reset from an always-on source shows its cause in the main and safety domains, and in the display domain. -/
theorem aonReset_causes : (s.aonReset c rails).rd BOOT.RST_CAUSE.main_cause = c % 16 ∧
    (s.aonReset c rails).rd BOOT.RST_CAUSE.safety_cause = c % 16 ∧ (s.aonReset c rails).rd BOOT.RST_CAUSE.display_cause = c % 16 := by
  unfold State.aonReset State.setCause
  dsimp only
  refine ⟨?_, ?_, ?_⟩
  · rw [rd_wr_sep (by decide), rd_wr_sep (by decide), rd_wr_sep (by decide)]
    exact rd_wr_same
  · rw [rd_wr_sep (by decide), rd_wr_sep (by decide)]
    exact rd_wr_same
  · rw [rd_wr_sep (by decide)]
    exact rd_wr_same

/-- Time starts from 0, and no rail above those named is on. -/
theorem aonReset_rest : (s.aonReset c rails).time = {} ∧ (s.aonReset c rails).pwr.rails = rails ∧
    (s.aonReset c rails).pins.pwrGood = false := by
  unfold State.aonReset State.setCause
  simp only [wr_time, wr_pwr, wr_pins, and_self]

end

end Sys2Proof.Proofs

/-! The supply, RESET_N and the reset commands (R33, R38, R80), and the safety island's own faults (R216, R223, R313). -/

namespace Sys2Proof.Proofs

open Machine Laws

section

variable {s : State}

/-! ### Shutting down and rail faults -/

/-- A shutdown shows its cause in the display domain, with PWR_GOOD and the display enables low and at most the rails named. -/
theorem shutDown_display_cause {c vin rails : Nat} : (s.shutDown c vin rails).rd BOOT.RST_CAUSE.display_cause = c % 16 := by
  unfold State.shutDown
  extract_lets s1 s2
  exact (rd_mk rfl).trans displayReset_display_cause

theorem shutDown_outputs {c vin rails : Nat} : (s.shutDown c vin rails).pwr.vin = vin ∧ (s.shutDown c vin rails).pwr.rails ≤ rails ∧
    (s.shutDown c vin rails).pins.pwrGood = false ∧ (s.shutDown c vin rails).pins.dispen = 0 :=
  ⟨rfl, Nat.min_le_right .., rfl, rfl⟩

/-- A fault of a main rail other than VDD_SOC and VDD_PHY resets the main domain under cause 8. -/
theorem railFault_main {r : Nat} (h : r ≠ 2 ∧ r ≠ 4) : (s.railFault r).rd BOOT.RST_CAUSE.main_cause = 8 ∧
    (s.railFault r).rd PWR.STATE.state = 0 := by
  unfold State.railFault
  dsimp only
  rw [if_neg (by omega)]
  exact ⟨mainReset_main_cause, mainReset_state⟩

/-- A level of RESET_N resets the whole module under cause 2. -/
theorem resetPin_resets {high : Bool} : (s.resetPin high).pins.resetN = high ∧ (s.resetPin high).pins.pwrGood = false ∧
    (s.resetPin high).pwr.rails = min s.pwr.rails 1 ∧ (s.resetPin high).time = {} ∧ (s.resetPin high).rd BOOT.RST_CAUSE.main_cause = 2 ∧
    (s.resetPin high).rd BOOT.RST_CAUSE.safety_cause = 2 ∧ (s.resetPin high).rd BOOT.RST_CAUSE.display_cause = 2 := by
  obtain ⟨htime, hrails, hgood⟩ := aonReset_rest (s := s) (c := 2) (rails := min s.pwr.rails 1)
  obtain ⟨hmain, hsafe, hdisp⟩ := aonReset_causes (s := s) (c := 2) (rails := min s.pwr.rails 1)
  unfold State.resetPin
  dsimp only
  simp only [rd_with_pins]
  exact ⟨trivial, hgood, hrails, htime, hmain, hsafe, hdisp⟩

/-! ### The reset commands -/

theorem exec_mainResetCmd {w : Who} {key : BitVec 16} : exec (.mainResetCmd w key) s = .next (s.rstCtrl w (key.toNat * 65536 + 1)) := rfl

theorem exec_displayResetCmd {w : Who} {key : BitVec 16} : exec (.displayResetCmd w key) s = .next (s.rstCtrl w (key.toNat * 65536 + 2)) := rfl

/-- An accepted write of RST_CTRL with the key resets the domains its bits name. -/
theorem rstCtrl_key {w : Who} {v : Nat} (h : accepts s w .boot 0 0x114 v = true) (hkey : v / 65536 % 65536 = 0x5253) :
    s.rstCtrl w v = if bit v 1 then (if bit v 0 then s.okResp.mainReset 7 else s.okResp).displayReset 0xC
      else if bit v 0 then s.okResp.mainReset 7 else s.okResp := by
  unfold State.rstCtrl
  rw [onWrite_accepted h (by decide), if_neg (not_not_intro hkey)]

/-- With another key it is refused. -/
theorem rstCtrl_other {w : Who} {v : Nat} (h : accepts s w .boot 0 0x114 v = true) (hkey : v / 65536 % 65536 ≠ 0x5253) :
    s.rstCtrl w v = s.okResp.refuse .boot 0 Code.BOOT_RST_KEY w.rid 0x114 := by
  unfold State.rstCtrl
  rw [onWrite_accepted h (by decide), if_pos hkey]

/-! ### Reactions of the safety island -/

/-- An entry of the log takes the next sequence number. -/
theorem logEntry_nextSeq {time code source heads reaction : Nat} :
    (s.logEntry time code source heads reaction).safe.nextSeq = (s.safe.nextSeq + 1) % 65536 := by
  unfold State.logEntry
  dsimp only
  split <;> simp

theorem selectSafe_nextSeq {h st since : Nat} {off : Bool} : (s.selectSafe h st since off).safe.nextSeq = s.safe.nextSeq := by
  unfold State.selectSafe
  dsimp only
  rw [(headSrcNow_frame Frame.refl Cov.refl).safe (by decide), wr_safe]
  unfold State.setShead
  dsimp only
  split <;> split <;> simp

theorem faultAssert_nextSeq : s.faultAssert.safe.nextSeq = s.safe.nextSeq := by
  unfold State.faultAssert
  dsimp only
  split <;> simp

/-- A reaction adds one entry to the log. -/
theorem react_nextSeq {g : FaultSig} : (s.react g).safe.nextSeq = (s.safe.nextSeq + 1) % 65536 := by
  have fold : ∀ {u : State} {l : List Nat} {st : Nat → Nat} {disp : Bool},
      (l.foldl (fun t h => t.selectSafe h (st h) g.time disp) u).safe.nextSeq = u.safe.nextSeq :=
    foldl_same (fun t : State => t.safe.nextSeq) fun _ _ => selectSafe_nextSeq
  unfold State.react
  dsimp only
  rw [logEntry_nextSeq]
  split
  · rw [faultAssert_nextSeq, fold]
    rfl
  · rw [fold]
    rfl

/-- A signal whose fault resets nothing is taken off the line and reacted to. -/
theorem exec_safetyFaultLine_of_running {g : FaultSig} {l : List FaultSig} (hg : s.faults = g :: l) (hcode : g.code ≠ Code.SAFE_SRAM_UE)
    (hrun : s.rd SAFE.ISL_STAT.fw_running ≠ 0) : exec .safetyFaultLine s = .next (({ s with faults := l } : State).react g) := by
  change execSafetyFaultLine s = _
  have hon : ({ s with faults := l } : State).on SAFE.ISL_STAT.fw_running = true := by
    unfold State.on
    rw [rd_with_faults]
    exact bne_iff_ne.2 hrun
  unfold execSafetyFaultLine
  rw [hg]
  dsimp only
  rw [hon, if_neg (by decide), if_neg hcode]

end

/-! ### The obligations -/

/-- Settles O1: each supply event ends in the resets of the domains it concerns, whose causes and outputs are known. -/
theorem supplyAndResetPins : Obligations.SupplyAndResetPins := by
  unfold Obligations.SupplyAndResetPins
  refine ⟨fun s => ⟨_, rfl, rfl, rfl, rfl, rfl, rfl, rfl, rfl, rfl, rfl, rfl, rfl, rfl⟩, ?assert, ?release, ?released, ?brownout, ?undervoltage, ?overvoltage,
    fun s => rfl, ?start⟩
  case assert => exact fun s => ⟨s.resetPin false, rfl, resetPin_resets.1, resetPin_resets.2⟩
  case release =>
    intro s h
    obtain ⟨hpin, -, hrails, htime, hmain, -⟩ := resetPin_resets (s := s) (high := true)
    refine ⟨s.resetPin true, congrArg Host.Outcome.next (if_neg ?_), hpin, hrails, htime, hmain⟩
    rw [h]
    decide
  case released => exact fun s h => congrArg Host.Outcome.next (if_pos h)
  case brownout =>
    intro s
    obtain ⟨hmain, hsafe, hdisp⟩ := aonReset_causes (s := s) (c := 5) (rails := 0)
    refine ⟨_, rfl, rd_wr_same, ?_, ?_, ?_, ?_⟩
    · rw [rd_wr_sep (by decide), hmain]
    · rw [rd_wr_sep (by decide), hsafe]
    · rw [rd_wr_sep (by decide), hdisp]
    · rw [wr_pwr]
      exact aonReset_rest.2.1
  case undervoltage =>
    intro s
    obtain ⟨hvin, hrails, hgood, hdispen⟩ := shutDown_outputs (s := s) (c := 3) (vin := 1) (rails := 2)
    exact ⟨_, rfl, hvin, hrails, hgood, hdispen, shutDown_display_cause⟩
  case overvoltage =>
    intro s
    obtain ⟨-, hfaultA, hfaultB, hgood⟩ := safetyReset_pins (s := s.shutDown 4 2 1) (c := 4)
    exact ⟨_, rfl, safetyReset_safety_cause, hgood, hfaultA, hfaultB⟩
  case start =>
    intro s r hr hne hreset hvin
    refine ⟨s.railFault r, ?_, railFault_main hne⟩
    change execRailStartTimeout s = _
    unfold execRailStartTimeout
    rw [hr]
    exact congrArg Host.Outcome.next (if_pos ⟨hreset, hvin⟩)

/-- Settles O2: an accepted key leads to the reset of its domain, and the safety domain's reset fixes its outputs. -/
theorem resetsAndIslandFaults : Obligations.ResetsAndIslandFaults := by
  unfold Obligations.ResetsAndIslandFaults
  refine ⟨?main, ?display, ?key, ?lockstep, ?expiry, ?early, ?line⟩
  case main =>
    intro s w h
    refine ⟨s.okResp.mainReset 7, exec_mainResetCmd.trans (congrArg Host.Outcome.next ?_), mainReset_main_cause, mainReset_dram, mainReset_rings, mainReset_mainUp⟩
    change s.rstCtrl w 0x52530001 = _
    rw [rstCtrl_key h (by decide), if_neg (by decide), if_pos (by decide)]
  case display =>
    intro s w h
    refine ⟨s.okResp.displayReset 0xC, exec_displayResetCmd.trans (congrArg Host.Outcome.next ?_), displayReset_display_cause, fun n _ => displayReset_linkState n,
      displayReset_dispen, displayReset_dispUp⟩
    change s.rstCtrl w 0x52530002 = _
    rw [rstCtrl_key h (by decide), if_pos (by decide), if_neg (by decide)]
  case key =>
    intro s w key hkey h
    refine exec_mainResetCmd.trans (congrArg Host.Outcome.next (rstCtrl_other h ?_))
    have hne : key.toNat ≠ 0x5253 := fun e => hkey (BitVec.eq_of_toNat_eq e)
    have := key.isLt
    omega
  case lockstep =>
    intro s
    obtain ⟨hz, hfaultA, hfaultB, -⟩ := safetyReset_pins (s := s.logEntry s.now Code.SAFE_LOCKSTEP (Blk.typeCode .safe * 256) 0 0x21) (c := 0xB)
    exact ⟨_, rfl, safetyReset_safety_cause, hz, hfaultA, hfaultB, sounderPin_of_down (by rw [safetyReset_pwr]), safetyReset_faults⟩
  case expiry =>
    intro s hrun hlate
    obtain ⟨hz, hfaultA, hfaultB, -⟩ := safetyReset_pins (s := s) (c := 0xA)
    refine ⟨s.safetyReset 0xA, congrArg Host.Outcome.next (if_neg ?_), safetyReset_safety_cause, hz, hfaultA, hfaultB, safetyReset_alarm, by rw [safetyReset_pwr]⟩
    rw [hrun, Bool.not_true]
    rintro (h | h)
    · exact Bool.false_ne_true h
    · omega
  case early =>
    intro s h
    exact congrArg Host.Outcome.next (if_pos (h.imp_left fun h => by rw [h]; rfl))
  case line =>
    intro s g l hg hcode hrun
    exact ⟨_, exec_safetyFaultLine_of_running hg hcode hrun, (react_frame Frame.refl Cov.refl).faults (by decide), react_nextSeq⟩

end Sys2Proof.Proofs

/-! Events and error records, bit by bit (R57 to R59): what an occurrence sets in EV_RAW and in the record, and that neither is lost. -/

namespace Sys2Proof.Proofs

open Machine Laws

section

variable {s : State} {k : Blk} {i n m code rid addr : Nat}

theorem bit_setBit : bit (setBit m n) n = true := by
  unfold bit setBit
  rw [Nat.testBit_or, Nat.testBit_two_pow_self, Bool.or_true]

/-- A field wide enough shows a bit that was set in it. -/
theorem bit_setBit_mod {w : Nat} (h : n < w) : bit (setBit m n % 2 ^ w) n = true := by
  unfold bit
  rw [Nat.testBit_mod_two_pow, decide_eq_true h, Bool.true_and]
  exact bit_setBit

theorem bit_setBit_of_bit {l : Nat} (h : bit m l = true) : bit (setBit m n) l = true := by
  unfold bit setBit at *
  rw [Nat.testBit_or, h, Bool.true_or]

/-- An event shows in EV_RAW. -/
theorem raise_bit (h : n < 32) : bit ((s.raise k i n).rd (HDR.ev_raw k) i) n = true := by
  rw [raise_ev_raw]
  exact bit_setBit_mod h

/-- A later event leaves it. -/
theorem raise_bit_of_bit {l : Nat} (hl : l < 32) (h : bit (s.rd (HDR.ev_raw k) i) l = true) :
    bit ((s.raise k i n).rd (HDR.ev_raw k) i) l = true := by
  rw [raise_ev_raw]
  unfold bit
  rw [Nat.testBit_mod_two_pow, decide_eq_true hl, Bool.true_and]
  exact bit_setBit_of_bit h

/-- So does an error record. -/
theorem recErr_bit_of_bit {l : Nat} (hl : l < 32) (h : bit (s.rd (HDR.ev_raw k) i) l = true) :
    bit ((s.recErr k i code rid addr).rd (HDR.ev_raw k) i) l = true := by
  rw [recErr_ev_raw]
  unfold bit
  rw [Nat.testBit_mod_two_pow, decide_eq_true hl, Bool.true_and]
  exact bit_setBit_of_bit h

/-- What an event is apart from: EV_RAW of its page type. -/
theorem raise_rd_sep {f : Fld} {i' j b : Nat} (h : sep (HDR.ev_raw k) f = true) : (s.raise k i n).rd f i' j b = s.rd f i' j b :=
  raise_rd (key_ne_of_sep h)

/-- A page with an error record shows it as valid. -/
theorem recErr_err_valid : (s.recErr k i code rid addr).rd (HDR.err_valid k) i ≠ 0 := by
  have apart : ∀ {t : State} {n : Nat}, (t.raise k i n).rd (HDR.err_valid k) i = t.rd (HDR.err_valid k) i :=
    fun {_ _} => raise_rd (key_ne (by simp [place, HDR.ev_raw, HDR.err_valid]))
  have stays : ∀ {t : State} {f : Fld} {v : Nat}, place f 0 ≠ place (HDR.err_valid k) 0 →
      (t.wr f v i).rd (HDR.err_valid k) i = t.rd (HDR.err_valid k) i := fun {_ _ _} h => rd_wr_ne (key_ne h)
  unfold State.recErr
  dsimp only
  rw [apart]
  split
  case isTrue hv =>
    rw [stays (by simp [place, HDR.err_count, HDR.err_valid])]
    exact bne_iff_ne.1 hv
  case isFalse =>
    rw [stays (by simp [place, HDR.err_req_id, HDR.err_valid]), stays (by simp [place, HDR.err_addr, HDR.err_valid]),
      stays (by simp [place, HDR.err_code, HDR.err_valid]), stays (by simp [place, HDR.err_count, HDR.err_valid]),
      stays (by simp [place, HDR.err_requester, HDR.err_valid]), stays (by simp [place, HDR.err_internal, HDR.err_valid]), rd_wr_same]
    exact Nat.one_ne_zero

/-- A refusal leaves a field apart from its record. -/
theorem recErr_rd_clear {f : Fld} {i' j b : Nat} (h : [Piece.err k, .fld (HDR.ev_raw k), .sent].all (clear f) = true) :
    (s.recErr k i code rid addr).rd f i' j b = s.rd f i' j b :=
  rd_clear (recErr_frame Frame.refl Cov.refl) h

/-- An event leaves every register beyond the header. -/
theorem raise_rd_body {f : Fld} {i' j b : Nat} (h : 0x30 ≤ (f.off + f.stride * j) % 4096) : (s.raise k i n).rd f i' j b = s.rd f i' j b :=
  raise_rd_out (by unfold place; omega)

/-- So does a record. -/
theorem recErr_rd_body {f : Fld} {i' j b : Nat} (h : 0x30 ≤ (f.off + f.stride * j) % 4096) :
    (s.recErr k i code rid addr).rd f i' j b = s.rd f i' j b :=
  recErr_rd_out (by unfold place; omega) (.inr (by unfold place; omega))

end

/-! ### Flags -/

theorem on_eq_true_iff {s : State} {f : Fld} {i j b : Nat} : s.on f i j b = true ↔ s.rd f i j b ≠ 0 := bne_iff_ne

theorem on_eq_false_iff {s : State} {f : Fld} {i j b : Nat} : s.on f i j b = false ↔ s.rd f i j b = 0 := by
  unfold State.on
  rw [bne_eq_false_iff_eq]

end Sys2Proof.Proofs

/-! Requests of a power state, the steps of the entry, and wake events (R84 to R91). -/

namespace Sys2Proof.Proofs

open Machine Laws

section

variable {s : State}

/-! ### Steps of PWR:STATE -/

theorem pwrStep_target {a b n : Nat} : (s.pwrStep a b n).rd PWR.STATE.target = b % 8 := by
  unfold State.pwrStep
  rw [rd_wr_sep (by decide), rd_wr_same]
  rfl

theorem pwrStep_step {a b n : Nat} : (s.pwrStep a b n).rd PWR.STATE.step = n % 16 := rd_wr_same

/-- The next step of an entry or exit leaves every other field. -/
theorem toStep_rd {n : Nat} {f : Fld} {i j b : Nat} (h : sep PWR.STATE.step f = true) : (s.toStep n).rd f i j b = s.rd f i j b := by
  unfold State.toStep
  rw [rd_wr_sep h, rd_with_pwr]

theorem toStep_step {n : Nat} : (s.toStep n).rd PWR.STATE.step = n % 16 := by
  unfold State.toStep
  rw [rd_wr_same]
  rfl

theorem entryAt_iff {n : Nat} : s.entryAt n = true ↔ s.rd PWR.STATE.state = 5 ∧ s.rd PWR.STATE.step = n := by
  unfold State.entryAt
  rw [Bool.and_eq_true, beq_iff_eq, beq_iff_eq]

theorem stepFor_eq_true {ns : Nat} (h : s.pwr.stepAt + ns ≤ s.now) : s.stepFor ns = true := decide_eq_true h

/-! ### Requests (R84) -/

/-- DEVTIME is what the time base says. -/
theorem now_congr {t : State} (h : t.time = s.time) : t.now = s.now := by
  unfold State.now
  rw [h]

theorem alarmDue_congr {t : State} (hrd : t.rd PWR.ALARM.alarm = s.rd PWR.ALARM.alarm) (htime : t.time = s.time) :
    t.alarmDue = s.alarmDue := by
  unfold State.alarmDue
  rw [hrd, now_congr htime]

/-- A request that meets every condition, with no alarm past, waits at E1 for the safety island. -/
theorem stateReq_of_ok {w : Who} {v : Nat} (h : accepts s w .pwr 0 0x100 v = true) (hok : s.reqBad (v % 8) = none) (halarm : s.alarmDue = false) :
    s.stateReq w v = (({ s.okResp with pwr := { s.okResp.pwr with commit := false, latched := [] } } : State).pwrStep 5 (v % 8) 1).hvSync := by
  have hbad : s.okResp.reqBad (v % 8) = none := hok
  unfold State.stateReq
  rw [onWrite_accepted h (by decide)]
  dsimp only
  rw [hbad]
  dsimp only
  rw [if_neg]
  rw [alarmDue_congr (s := s) ?_ ?_, halarm]
  · decide
  · rw [rd_clear (hvSync_frame Frame.refl Cov.refl) (by decide), rd_clear (pwrStep_frame Frame.refl Cov.refl) (by decide)]
    rfl
  · rw [(hvSync_frame Frame.refl Cov.refl).time (by decide), (pwrStep_frame Frame.refl Cov.refl).time (by decide)]
    rfl

/-- What E1 then shows. -/
theorem stateReq_step {w : Who} {v : Nat} (h : accepts s w .pwr 0 0x100 v = true) (hok : s.reqBad (v % 8) = none) (halarm : s.alarmDue = false) :
    (s.stateReq w v).rd PWR.STATE.state = 5 ∧ (s.stateReq w v).rd PWR.STATE.target = v % 8 ∧ (s.stateReq w v).rd PWR.STATE.step = 1 ∧
      (s.stateReq w v).pwr.commit = false ∧ (s.stateReq w v).resp.ok = true := by
  rw [stateReq_of_ok h hok halarm, rd_clear (hvSync_frame Frame.refl Cov.refl) (by decide), rd_clear (hvSync_frame Frame.refl Cov.refl) (by decide),
    rd_clear (hvSync_frame Frame.refl Cov.refl) (by decide), (hvSync_frame Frame.refl Cov.refl).pwr (by decide),
    (hvSync_frame Frame.refl Cov.refl).resp (by decide), pwrStep_state, pwrStep_target, pwrStep_step]
  refine ⟨rfl, Nat.mod_mod _ _, rfl, ?_, ?_⟩
  · simp only [State.pwrStep, wr_pwr]
  · simp only [State.pwrStep, wr_resp]
    rfl

theorem stateReq_of_bad {w : Who} {v c : Nat} (h : accepts s w .pwr 0 0x100 v = true) (hbad : s.reqBad (v % 8) = some c) :
    s.stateReq w v = (s.okResp.raise .pwr 0 8).refuse .pwr 0 c w.rid 0x100 := by
  have hbad : s.okResp.reqBad (v % 8) = some c := hbad
  unfold State.stateReq
  rw [onWrite_accepted h (by decide)]
  dsimp only
  rw [hbad]

/-! ### The safety island's answer (R85) -/

/-- A refusal, or no answer, returns the device to Run with the event and the record. -/
theorem safeVeto_run : s.safeVeto.rd PWR.STATE.state = 0 ∧ bit (s.safeVeto.rd (HDR.ev_raw .pwr)) 8 = true ∧
    s.safeVeto.rd (HDR.err_valid .pwr) ≠ 0 := by
  unfold State.safeVeto
  refine ⟨?_, raise_bit (by decide), ?_⟩
  · rw [raise_rd_sep (by decide), recErr_rd_clear (by decide), rd_clear (hvSync_frame Frame.refl Cov.refl) (by decide),
      rd_clear (startDeferred_frame Frame.refl Cov.refl) (by decide), pwrStep_state]
  · rw [raise_rd_sep (by decide)]
    exact recErr_err_valid

/-! ### Steps of the entry (R86) -/

/-- Step E3 begins. -/
theorem entryBlank_step (h : s.rd PWR.STATE.state = 5) : s.entryBlank.rd PWR.STATE.state = 5 ∧ s.entryBlank.rd PWR.STATE.step = 3 := by
  unfold State.entryBlank
  dsimp only
  simp (disch := decide) only [rd_clear (headSrcNow_frame Frame.refl Cov.refl), rd_with_pwr, rd_wr_sep, toStep_rd, toStep_step, h]
  exact ⟨trivial, trivial⟩

theorem entryBlank_err_valid (h : s.rd (HDR.err_valid .pwr) ≠ 0) : s.entryBlank.rd (HDR.err_valid .pwr) ≠ 0 := by
  rwa [rd_clear (entryBlank_frame Frame.refl Cov.refl) (by decide)]

/-- The fold that takes down the links still up touches nothing but links and pins. -/
theorem linksDown_frame {t : State} : Frame linkDown_T t ((List.range 8).foldl (fun t n => if 2 ≤ t.linkState n then t.linkDown n else t) t) :=
  Frame.foldl Frame.refl fun _ _ h => Frame.ite (linkDown_frame h Cov.refl) h

/-! ### Wake events (R87, R89) -/

/-- The noted source shows in WAKE_CAUSE. -/
theorem wakeNote_source {n : Nat} (h : n < 5) : bit ((s.wakeNote n).rd PWR.WAKE_CAUSE.source) n = true := by
  unfold State.wakeNote
  dsimp only
  split
  · rw [rd_wr_sep (by decide), rd_wr_same]
    exact bit_setBit_mod h
  · rw [rd_wr_same]
    exact bit_setBit_mod h

theorem wakeNote_rd {n : Nat} {f : Fld} {i j b : Nat} (h : wakeNote_T.all (clear f) = true) : (s.wakeNote n).rd f i j b = s.rd f i j b :=
  rd_clear (wakeNote_frame Frame.refl Cov.refl) h

/-- An abandoned entry is back in Run, marked as such. -/
theorem entryAbandon_run : s.entryAbandon.rd PWR.STATE.state = 0 ∧ s.entryAbandon.rd PWR.WAKE_CAUSE.aborted = 1 ∧
    bit (s.entryAbandon.rd (HDR.ev_raw .pwr)) 9 = true := by
  unfold State.entryAbandon
  dsimp only
  refine ⟨?_, ?_, raise_bit (by decide)⟩
  · rw [raise_rd_sep (by decide), rd_count, rd_wr_sep (by decide), rd_with_pwr, rd_clear (hvSync_frame Frame.refl Cov.refl) (by decide),
      rd_clear (startDeferred_frame Frame.refl Cov.refl) (by decide), rd_clear (touchResume_frame Frame.refl Cov.refl) (by decide),
      rd_clear (unwait_frame Frame.refl Cov.refl) (by decide), rd_clear (unblank_frame Frame.refl Cov.refl) (by decide), pwrStep_state]
  · rw [raise_rd_sep (by decide), rd_count, rd_wr_same]
    rfl

/-- A voltage command to one of the four rails leaves what lies outside their RAIL_STAT words. -/
theorem railTo_rd {n mv : Nat} (hn : n < 4) {f : Fld} {i j b : Nat}
    (h : (f.off + f.stride * j) % 4096 < 0x150 ∨ 0x160 ≤ (f.off + f.stride * j) % 4096) : (s.railTo n mv).rd f i j b = s.rd f i j b := by
  have hsent : ∀ {u : State} {g : Fld} {v : Nat}, g.off = 0x150 → g.stride = 4 → (u.wr g v 0 n).rd f i j b = u.rd f i j b := by
    intro u g v hoff hst
    refine rd_wr_ne (key_ne fun e => ?_)
    unfold place at e
    rw [hoff, hst] at e
    omega
  unfold State.railTo
  dsimp only
  rw [rd_count, hsent rfl rfl, hsent rfl rfl, hsent rfl rfl, rd_with_pwr]
  split
  · exact rd_count
  · rfl

/-- So do commands to all of them. -/
theorem railsTo_rd {mv : Nat → Nat} {f : Fld} {i j b : Nat}
    (h : (f.off + f.stride * j) % 4096 < 0x150 ∨ 0x160 ≤ (f.off + f.stride * j) % 4096) : (s.railsTo mv).rd f i j b = s.rd f i j b := by
  unfold State.railsTo
  exact foldl_same_of_mem (fun t => State.rd t f i j b) fun a n hn => railTo_rd (List.mem_range.1 hn) h

/-- The exit begins from the state the device is in. -/
theorem exitBegin_state : s.exitBegin.rd PWR.STATE.state = 6 ∧ s.exitBegin.rd PWR.STATE.target = s.rd PWR.STATE.state % 8 ∧
    s.exitBegin.rd PWR.EXIT_STAT.from_state = s.rd PWR.STATE.state % 8 := by
  unfold State.exitBegin
  extract_lets from_ s1
  have h1 : s1.rd PWR.STATE.state = 6 ∧ s1.rd PWR.STATE.target = from_ % 8 ∧ s1.rd PWR.EXIT_STAT.from_state = from_ % 8 := by
    refine ⟨?_, ?_, ?_⟩
    · rw [rd_wr_sep (by decide), rd_wr_sep (by decide), rd_wr_sep (by decide), pwrStep_state]
    · rw [rd_wr_sep (by decide), rd_wr_sep (by decide), rd_wr_sep (by decide), pwrStep_target]
    · rw [rd_wr_sep (by decide), rd_wr_sep (by decide)]
      exact rd_wr_same
  clear_value s1
  split
  case isTrue => exact h1
  case isFalse =>
    rw [railsTo_rd (by decide), railsTo_rd (by decide), railsTo_rd (by decide)]
    split
    · simp (disch := decide) only [rd_wr_sep, rd_with_safe, h1]
      exact ⟨trivial, rfl, rfl⟩
    · exact h1

/-- It leaves WAKE_CAUSE. -/
theorem exitBegin_wake_source : s.exitBegin.rd PWR.WAKE_CAUSE.source = s.rd PWR.WAKE_CAUSE.source := by
  unfold State.exitBegin
  dsimp only
  split
  · simp (disch := decide) only [rd_wr_sep, rd_clear (pwrStep_frame Frame.refl Cov.refl)]
  · rw [railsTo_rd (by decide)]
    split <;> simp (disch := decide) only [rd_wr_sep, rd_with_safe, rd_clear (pwrStep_frame Frame.refl Cov.refl)]

/-- A source the device does not listen to has no effect. -/
theorem wake_of_disabled {n : Nat} (h : bit (s.rd PWR.WAKE_EN.enable) n = false) (hn : n ≠ 0 ∨ s.rd PWR.STATE.state ≠ 4) : s.wake n = s := by
  have hoff : (n == 0 && decide (s.rd PWR.STATE.state = 4)) = false := by
    rw [Bool.and_eq_false_iff, beq_eq_false_iff_ne, decide_eq_false_iff_not]
    exact hn
  unfold State.wake
  dsimp only
  rw [h, hoff, Bool.or_false, Bool.not_false, Bool.or_true, if_pos rfl]

/-- One it listens to acts by the state the device is in. -/
theorem wake_of_enabled {n : Nat} (hreset : s.pins.resetN = true)
    (h : bit (s.rd PWR.WAKE_EN.enable) n = true ∨ n = 0 ∧ s.rd PWR.STATE.state = 4) :
    s.wake n = if s.rd PWR.STATE.state ≤ 1 ∨ s.rd PWR.STATE.state = 6 then s.wakeNote n
      else if s.rd PWR.STATE.state = 5 then
        if s.pwr.commit then { s with pwr := { s.pwr with latched := if s.pwr.latched.contains n then s.pwr.latched else s.pwr.latched ++ [n] } }
        else (s.wakeNote n).entryAbandon
      else if bit (wakesFrom n) (s.rd PWR.STATE.state) then (s.wakeNote n).exitBegin
      else s := by
  have hon : (bit (s.rd PWR.WAKE_EN.enable) n || (n == 0 && decide (s.rd PWR.STATE.state = 4))) = true := by
    rw [Bool.or_eq_true, Bool.and_eq_true, beq_iff_eq, decide_eq_true_eq]
    exact h
  unfold State.wake
  dsimp only
  rw [hreset, hon]
  rfl

/-- In Run a wake event changes WAKE_CAUSE only. -/
theorem wake_run_rd {n : Nat} (hst : s.rd PWR.STATE.state ≤ 1) {f : Fld} {i j b : Nat} (h : wakeNote_T.all (clear f) = true) :
    (s.wake n).rd f i j b = s.rd f i j b := by
  unfold State.wake
  dsimp only
  split
  · rfl
  · rw [if_pos (.inl hst), wakeNote_rd h]

/-- From a low-power state it wakes the device from, a source starts the exit. -/
theorem wake_exit {n : Nat} (hreset : s.pins.resetN = true) (h : bit (s.rd PWR.WAKE_EN.enable) n = true ∨ n = 0 ∧ s.rd PWR.STATE.state = 4)
    (hst : 2 ≤ s.rd PWR.STATE.state ∧ s.rd PWR.STATE.state ≤ 4) (hfrom : bit (wakesFrom n) (s.rd PWR.STATE.state) = true) (hn : n < 5) :
    (s.wake n).rd PWR.STATE.state = 6 ∧ (s.wake n).rd PWR.STATE.target = s.rd PWR.STATE.state ∧
      (s.wake n).rd PWR.EXIT_STAT.from_state = s.rd PWR.STATE.state ∧ bit ((s.wake n).rd PWR.WAKE_CAUSE.source) n = true := by
  have hwake : s.wake n = (s.wakeNote n).exitBegin := by
    rw [wake_of_enabled hreset h, if_neg (by omega), if_neg (by omega), if_pos hfrom]
  obtain ⟨hstate, htarget, hfrom_⟩ := exitBegin_state (s := s.wakeNote n)
  rw [wakeNote_rd (by decide), Nat.mod_eq_of_lt (by omega)] at htarget hfrom_
  rw [hwake]
  refine ⟨hstate, htarget, hfrom_, ?_⟩
  rw [exitBegin_wake_source]
  exact wakeNote_source hn

/-! ### The low-power states (R82, R86, R91) -/

/-- With the clocks stopped the reference does not run and PWR_GOOD is low. -/
theorem clocksStop_rest : s.clocksStop.pwr = { s.pwr with osc := false } ∧ s.clocksStop.pins.pwrGood = false := by
  unfold State.clocksStop State.ampPins
  dsimp only
  refine ⟨?_, rfl⟩
  rw [foldl_same (fun t : State => t.pwr), foldl_same (fun t : State => t.pwr), foldl_same (fun t : State => t.pwr)]
  · intro t h
    split <;> simp only [State.setHead, wr_pwr]
  · exact fun t n => wr_pwr ..
  · exact fun t n => by simp only [wr_pwr]

/-- Voltage commands change PWR's working state by their slews only. -/
theorem railsTo_pwr {mv : Nat → Nat} : ∃ a b, (s.railsTo mv).pwr = { s.pwr with slewMv := a, slewAt := b } := by
  have one : ∀ {t : State} {n v : Nat}, ∃ a b, (t.railTo n v).pwr = { t.pwr with slewMv := a, slewAt := b } := by
    intro t n v
    unfold State.railTo
    dsimp only
    refine ⟨mset t.pwr.slewMv n (t.nowMv n) 0, mset t.pwr.slewAt n t.now 0, ?_⟩
    split <;> simp only [wr_pwr, count_pwr]
  have all : ∀ {l : List Nat} {t : State}, ∃ a b, (l.foldl (fun t n => t.railTo n (mv n)) t).pwr = { t.pwr with slewMv := a, slewAt := b } := by
    intro l
    induction l with
    | nil => exact ⟨_, _, rfl⟩
    | cons n l ih =>
      intro t
      obtain ⟨a, b, h⟩ := one (t := t) (n := n) (v := mv n)
      obtain ⟨c, d, k⟩ := ih (t := t.railTo n (mv n))
      exact ⟨c, d, k.trans (by rw [h])⟩
  exact all

/-- An acknowledged command shows only in its rail's RAIL_STAT word, the PLLs it releases and EV_RAW. -/
theorem railAck_rd {n : Nat} (hn : n < 4) {f : Fld} {i j b : Nat}
    (h : (f.off + f.stride * j) % 4096 < 0x150 ∨ 0x160 ≤ (f.off + f.stride * j) % 4096) (hmhz : sep CLK.PLL_STAT.mhz f = true)
    (hev : sep (HDR.ev_raw .pwr) f = true) : (s.railAck n).rd f i j b = s.rd f i j b := by
  have word : ∀ {u : State} {g : Fld} {v : Nat}, g.off = 0x150 → g.stride = 4 → (u.wr g v 0 n).rd f i j b = u.rd f i j b := by
    intro u g v hoff hst
    refine rd_wr_ne (key_ne fun e => ?_)
    unfold place at e
    rw [hoff, hst] at e
    omega
  have freq : ∀ {u : State} {v : Nat}, (u.railFreq n v).rd f i j b = u.rd f i j b :=
    foldl_same (fun t : State => t.rd f i j b) fun _ _ => rd_wr_sep hmhz
  unfold State.railAck
  split
  · rfl
  · dsimp only
    rw [raise_rd_sep hev]
    split
    · rw [freq, word rfl rfl, word rfl rfl, word rfl rfl]
    · rw [word rfl rfl, word rfl rfl]

theorem railsReached_rd {f : Fld} {i j b : Nat} (h : (f.off + f.stride * j) % 4096 < 0x150 ∨ 0x160 ≤ (f.off + f.stride * j) % 4096)
    (hmhz : sep CLK.PLL_STAT.mhz f = true) (hev : sep (HDR.ev_raw .pwr) f = true) : s.railsReached.rd f i j b = s.rd f i j b :=
  foldl_same_of_mem (fun t : State => t.rd f i j b) fun _ _ hn => railAck_rd (List.mem_range.1 hn) h hmhz hev

/-- What entering a low-power state may change of the pages of PWR and BOOT beside PWR:STATE and RAIL_STAT. -/
def lowPowerApart_T : List Piece :=
  clocksStop_T ++ railsReached_T ++ hvSync_T ++ touchWatch_T ++ faultAssert_T ++ pinChange_T ++ groupAbort_T ++ flCut_T ++ safetyLate_T ++
    [.fld BOOT.RST_CAUSE.display_cause, .fld BOOT.RST_CAUSE.safety_cause, .fld SAFE.ISL_STAT.fw_running]

/-- The state reached shows, the reference stops, PWR_GOOD is low, and what was latched stays. -/
theorem lowPower_rest {t : Nat} : (s.lowPower t).pwr.osc = false ∧ (s.lowPower t).pins.pwrGood = false ∧
    (s.lowPower t).pwr.latched = s.pwr.latched := by
  obtain ⟨hpwr, hgood⟩ := clocksStop_rest (s := (s.pwrStep t 0 0).count .pwr 0 (t - 2))
  have hstep : ((s.pwrStep t 0 0).count .pwr 0 (t - 2)).pwr.latched = s.pwr.latched := by simp only [State.pwrStep, count_pwr, wr_pwr]
  unfold State.lowPower
  extract_lets s1 s2 l s3
  have h1 : s1.pwr.osc = false ∧ s1.pwr.latched = s.pwr.latched := by
    simp only [s1]
    rw [hpwr]
    exact ⟨rfl, hstep⟩
  have hgood1 : s1.pins.pwrGood = false := hgood
  clear_value s1
  have h2 : (s2.pwr.osc = false ∧ s2.pins.pwrGood = false) ∧ s2.pwr.latched = s.pwr.latched := by
    obtain ⟨a, b, hto⟩ := railsTo_pwr (s := s1) (mv := fun n => if t = 2 ∧ n ≠ 0 then 550 else 0)
    simp only [s2]
    rw [(railsReached_frame Frame.refl Cov.refl).pwr (by decide), (railsReached_frame Frame.refl Cov.refl).pins (by decide), hto,
      (railsTo_frame Frame.refl Cov.refl).pins (by decide)]
    dsimp only
    exact ⟨⟨h1.1, hgood1⟩, h1.2⟩
  clear_value s2
  split
  case isTrue =>
    rw [(touchWatch_frame Frame.refl Cov.refl).pwr (by decide), (touchWatch_frame Frame.refl Cov.refl).pins (by decide),
      (hvSync_frame Frame.refl Cov.refl).pwr (by decide), (hvSync_frame Frame.refl Cov.refl).pins (by decide)]
    exact ⟨h2.1.1, h2.1.2, h2.2⟩
  case isFalse =>
    split
    case isTrue =>
      rw [wr_pwr, wr_pins, (hvSync_frame Frame.refl Cov.refl).pwr (by decide), (hvSync_frame Frame.refl Cov.refl).pins (by decide),
        faultAssert_pwrGood, (faultAssert_frame Frame.refl Cov.refl).pwr (by decide)]
      exact ⟨h2.1.1, h2.1.2, h2.2⟩
    case isFalse =>
      have hcut : ∀ {u : State}, u.flCut.pwr.osc = u.pwr.osc := by
        intro u
        unfold State.flCut
        dsimp only
        rw [wr_pwr]
        rfl
      have h3 : s3.pwr.osc = false ∧ s3.pins.pwrGood = false := by
        simp only [s3]
        refine ⟨?_, ?_⟩
        · rw [safetyReset_pwr]
          dsimp only
          rw [hcut, displayReset_pwr, clearMain_pwr]
          exact h2.1.1
        · rw [safetyReset_pins.2.2.2, displayReset_pwrGood, clearMain_pwrGood]
          exact h2.1.2
      clear_value s3
      exact ⟨h3.1, h3.2, h2.2⟩

/-- A field of the always-on pages reads as the step to the state leaves it. -/
theorem lowPower_rd {t : Nat} {f : Fld} {i j b : Nat} (hpage : ∀ r ∈ mainPages ++ [(0x40, 0x58), (0xF0, 0xF3)], f.blk.page i < r.1 ∨ r.2 ≤ f.blk.page i)
    (hword : (f.off + f.stride * j) % 4096 < 0x150 ∨ 0x160 ≤ (f.off + f.stride * j) % 4096) (h : lowPowerApart_T.all (clear f) = true) :
    (s.lowPower t).rd f i j b = (s.pwrStep t 0 0).rd f i j b := by
  have apart : ∀ {L : List Piece}, L ⊆ lowPowerApart_T → L.all (clear f) = true := fun hsub => all_clear_of_subset h hsub
  have one : ∀ {g : Fld}, .fld g ∈ lowPowerApart_T → sep g f = true := fun hg => List.all_eq_true.1 h _ hg
  unfold State.lowPower
  extract_lets s1 s2 l s3
  have h2 : s2.rd f i j b = (s.pwrStep t 0 0).rd f i j b := by
    simp only [s2]
    rw [railsReached_rd hword (one (by decide)) (one (by decide)), railsTo_rd hword]
    simp only [s1]
    rw [rd_clear (clocksStop_frame Frame.refl Cov.refl) (apart (by decide)), rd_count]
  clear_value s2
  split
  case isTrue =>
    rw [rd_clear (touchWatch_frame Frame.refl Cov.refl) (apart (by decide)), rd_clear (hvSync_frame Frame.refl Cov.refl) (apart (by decide)), h2]
  case isFalse =>
    split
    case isTrue =>
      rw [rd_wr_sep (one (by decide)), rd_clear (hvSync_frame Frame.refl Cov.refl) (apart (by decide)),
        rd_clear (faultAssert_frame Frame.refl Cov.refl) (apart (by decide)), h2]
    case isFalse =>
      have hd := hpage (0x40, 0x58) (by decide)
      have h3 : s3.rd f i j b = s2.rd f i j b := by
        simp only [s3]
        rw [safetyReset_rd (hpage (0xF0, 0xF3) (by decide)) (apart (by decide)), displayReset_rd (by omega) (apart (by decide)),
          clearMain_rd (fun r hr => hpage r (List.mem_append_left _ hr)) (apart (by decide))]
      clear_value s3
      exact rd_with_pwr.trans (h3.trans h2)

end

/-! ### The obligations -/

/-- Settles O4: an accepted request goes to E1 or is refused by its first failed condition, and the island's answer decides. -/
theorem powerStateRequests : Obligations.PowerStateRequests := by
  unfold Obligations.PowerStateRequests
  refine ⟨fun s w h hok ha => ⟨_, rfl, stateReq_step h hok ha⟩, fun s w h hok ha => ⟨_, rfl, stateReq_step h hok ha⟩,
    fun s w h hok ha => ⟨_, rfl, stateReq_step h hok ha⟩, fun s w c h hbad => congrArg Host.Outcome.next (stateReq_of_bad h hbad), ?grant, ?refused,
    ?timeout⟩
  case grant =>
    intro s hat hrun hquiet htime
    obtain ⟨hstate, -⟩ := entryAt_iff.1 hat
    have hearly : s.stepFor (ms 10 + 1) = false := decide_eq_false (by unfold ms; omega)
    refine ⟨((s.toStep 2).touchSleep).wearAll, ?_, ?_, ?_⟩
    · change execSafetyGrant true s = _
      unfold execSafetyGrant
      rw [hat, hearly, hrun, hquiet]
      rfl
    · rw [rd_clear (wearAll_frame Frame.refl Cov.refl) (by decide), rd_clear (touchSleep_frame Frame.refl Cov.refl) (by decide),
        toStep_rd (by decide), hstate]
    · rw [rd_clear (wearAll_frame Frame.refl Cov.refl) (by decide), rd_clear (touchSleep_frame Frame.refl Cov.refl) (by decide), toStep_step]
  case refused =>
    intro s hat
    refine ⟨s.safeVeto, ?_, safeVeto_run⟩
    change execSafetyGrant false s = _
    unfold execSafetyGrant
    rw [hat, Bool.not_true, if_neg Bool.false_ne_true, Bool.false_and, Bool.false_and, Bool.false_and, if_neg Bool.false_ne_true]
  case timeout =>
    intro s hat htime
    refine ⟨s.safeVeto, ?_, safeVeto_run⟩
    change execSafetyGrantTimeout s = _
    unfold execSafetyGrantTimeout
    rw [hat, Bool.true_and, if_pos (show s.stepFor (ms 10) = true from stepFor_eq_true htime)]

/-- Settles O5: each step of the entry gives way to the next when its condition holds, and the last reaches the target. -/
theorem powerStateEntry : Obligations.PowerStateEntry := by
  unfold Obligations.PowerStateEntry
  refine ⟨?drained, ?limit, ?blanked, ?waiting, ?refresh, ?reached, ?deeper⟩
  case drained =>
    intro s hat hdr
    refine ⟨s.entryBlank, ?_, entryBlank_step (entryAt_iff.1 hat).1⟩
    change execEntryDrainDone s = _
    unfold execEntryDrainDone
    rw [hat, hdr, Bool.and_self, if_pos rfl]
  case limit =>
    intro s hat htime
    have hstate := (entryAt_iff.1 hat).1
    refine ⟨_, congrArg Host.Outcome.next (if_neg ?_), ?_⟩
    · rw [hat, show s.stepFor _ = true from stepFor_eq_true htime]
      decide
    · obtain ⟨h5, h3⟩ := entryBlank_step
        (s := ((s.dropHalted 0).forceJobs 0 Code.PWR_DRAIN_FORCED).recErr .pwr 0 Code.PWR_DRAIN_FORCED ridBlock 0x114) (by
          simp (disch := decide) only [recErr_rd_clear, rd_clear (forceJobs_frame Frame.refl Cov.refl),
            rd_clear (dropHalted_frame Frame.refl Cov.refl)]
          exact hstate)
      exact ⟨h5, h3, entryBlank_err_valid recErr_err_valid⟩
  case blanked =>
    intro s hat hblank
    refine ⟨_, congrArg Host.Outcome.next (if_pos ?_), ?_, ?_, ?_⟩
    · rw [hat, hblank, Bool.and_self]
    · rw [rd_clear linksDown_frame (by decide), rd_with_pwr, toStep_rd (by decide), (entryAt_iff.1 hat).1]
    · rw [rd_clear linksDown_frame (by decide), rd_with_pwr, toStep_step]
    · rw [linksDown_frame.pwr (by decide)]
  case waiting =>
    intro s hat hwfi
    refine ⟨s.toStep 5, congrArg Host.Outcome.next (if_pos ?_), ?_, toStep_step⟩
    · rw [hat, hwfi, Bool.and_self]
    · rw [toStep_rd (by decide), (entryAt_iff.1 hat).1]
  case refresh =>
    intro s hat
    refine ⟨_, congrArg Host.Outcome.next (if_pos hat), ?_, ?_, rfl⟩
    · rw [rd_with_pwr, toStep_rd (by decide), (entryAt_iff.1 hat).1]
    · rw [rd_with_pwr, toStep_step]
  case reached =>
    intro s hat hcommit hnone htarget
    obtain ⟨hosc, hgood, hlatched⟩ := lowPower_rest (s := s) (t := s.rd PWR.STATE.target)
    refine ⟨s.lowPower (s.rd PWR.STATE.target), ?_, ?_, hosc, hgood⟩
    · change execTargetStateReached s = _
      unfold execTargetStateReached
      dsimp only
      rw [hat, hcommit, Bool.and_self, if_pos rfl, hlatched, hnone]
      rfl
    · rw [lowPower_rd (by decide) (by decide) (by decide), pwrStep_state, Nat.mod_eq_of_lt (by omega)]
  case deeper =>
    intro s hstate hsec htime
    have hlong : s.stepFor (ms (1000 * s.rd PWR.SLEEP_DEEP_AFTER.seconds)) = true := stepFor_eq_true (by unfold ms; omega)
    refine ⟨_, congrArg Host.Outcome.next (if_pos ⟨hstate, hsec, hlong⟩), ?_, ?_, ?_, rfl, rfl⟩
    · rw [rd_with_pwr, pwrStep_state]
    · rw [rd_with_pwr, pwrStep_target]
    · rw [rd_with_pwr, pwrStep_step]

/-- Settles O6: what a wake event does depends on the state it arrives in. -/
theorem wakeEvents : Obligations.WakeEvents := by
  unfold Obligations.WakeEvents
  refine ⟨?run, ?latched, ?abandoned, ?exit, ?off, ?pin, ?island, ?alarm⟩
  case run =>
    intro s n hn hst hreset
    refine ⟨s.wake n.val, rfl, ?_, ?_⟩ <;> rw [wake_of_enabled hreset (.inl hn), if_pos hst]
    · exact wakeNote_source n.isLt
    · exact wakeNote_rd (by decide)
  case latched =>
    intro s n hn hst hcommit hreset
    refine congrArg Host.Outcome.next ((wake_of_enabled hreset (.inl hn)).trans ?_)
    rw [if_neg (by omega), if_pos hst, if_pos hcommit]
  case abandoned =>
    intro s n hn hst hcommit hreset
    obtain ⟨hrun, haborted, hevent⟩ := entryAbandon_run (s := s.wakeNote n.val)
    have hwake : s.wake n.val = (s.wakeNote n.val).entryAbandon := by
      rw [wake_of_enabled hreset (.inl hn), if_neg (by omega), if_pos hst, if_neg (by rw [hcommit]; decide)]
    refine ⟨s.wake n.val, rfl, ?_⟩
    rw [hwake]
    refine ⟨hrun, haborted, hevent, ?_⟩
    rw [rd_clear (entryAbandon_frame Frame.refl Cov.refl) (by decide)]
    exact wakeNote_source n.isLt
  case exit => exact fun s n hn hst hfrom hreset => ⟨_, rfl, wake_exit hreset (.inl hn) hst hfrom n.isLt⟩
  case off =>
    intro s n hn hst
    refine congrArg Host.Outcome.next (wake_of_disabled hn (hst.imp_left fun h e => h (Fin.ext e)))
  case pin =>
    intro s hst hreset
    obtain ⟨hstate, htarget, -, hsource⟩ := wake_exit (n := 0) hreset (.inr ⟨rfl, hst⟩) (by omega) (by rw [hst]; decide) (by decide)
    exact ⟨_, rfl, hstate, htarget.trans hst, hsource⟩
  case island =>
    intro s hn hst hreset
    obtain ⟨hstate, htarget, -, hsource⟩ := wake_exit (n := 4) hreset (.inl hn) (by omega) (by rw [hst]; decide) (by decide)
    exact ⟨_, rfl, hstate, htarget.trans hst, hsource⟩
  case alarm =>
    intro s hdue hst hreset
    refine ⟨(s.raise .pwr 0 14).wake 3, ?_, ?_, ?_⟩
    · change execDevtimeAlarm s = _
      unfold execDevtimeAlarm
      rw [hdue, if_neg (by decide), if_pos hst]
    · rw [wake_run_rd (by rwa [raise_rd_sep (by decide)]) (by decide)]
      exact raise_bit (by decide)
    · rw [wake_run_rd (by rwa [raise_rd_sep (by decide)]) (by decide), raise_rd_sep (by decide)]

end Sys2Proof.Proofs

/-! The exit from a low-power state (R90): its steps, their ready signals and their timeouts. -/

namespace Sys2Proof.Proofs

open Machine Laws

section

variable {s : State} {c : Nat}

/-! ### What a reset of the main domain leaves of the always-on pages -/

/-- What a reset of the main domain may change of them. -/
def mainResetApart_T : List Piece :=
  pinChange_T ++ groupAbort_T ++ mainCause_T ++ pwrStep_T ++ mainLate_T ++ [.fld BOOT.RST_CAUSE.display_cause]

/-- A field of a page of no domain that is reset reads as before. -/
theorem mainReset_rd {f : Fld} {i j b : Nat} (hpage : ∀ r ∈ mainPages ++ [(0x40, 0x58)], f.blk.page i < r.1 ∨ r.2 ≤ f.blk.page i)
    (h : mainResetApart_T.all (clear f) = true) : (s.mainReset c).rd f i j b = s.rd f i j b := by
  have apart : ∀ {L : List Piece}, L ⊆ mainResetApart_T → L.all (clear f) = true := fun hsub => all_clear_of_subset h hsub
  have hd := hpage (0x40, 0x58) (by decide)
  rw [rd_clear mainReset_frame_cleared (apart (by decide)), clearMain_rd (fun r hr => hpage r (List.mem_append_left _ hr)) (apart (by decide))]
  unfold mainResetFrom
  split
  · exact displayReset_rd (by omega) (apart (by decide))
  · rfl

/-- What a rail fault may change of them after its record and event. -/
def railFaultApart_T : List Piece := mainResetApart_T ++ [.fld SAFE.HEAD_SRC.blank, .fld SAFE.HEAD_SRC.dispen_off]

theorem railFault_rd {n : Nat} {f : Fld} {i j b : Nat} (hpage : ∀ r ∈ mainPages ++ [(0x40, 0x58)], f.blk.page i < r.1 ∨ r.2 ≤ f.blk.page i)
    (h : railFaultApart_T.all (clear f) = true) :
    (s.railFault n).rd f i j b = ((s.recErr .pwr 0 Code.PWR_RAIL_ACK ridBlock n).raise .pwr 0 12).rd f i j b := by
  have apart : ∀ {L : List Piece}, L ⊆ railFaultApart_T → L.all (clear f) = true := fun hsub => all_clear_of_subset h hsub
  have one : ∀ {g : Fld}, .fld g ∈ railFaultApart_T → sep g f = true := fun hg => List.all_eq_true.1 h _ hg
  have hd := hpage (0x40, 0x58) (by decide)
  unfold State.railFault
  dsimp only
  split
  · rw [displayReset_rd (by omega) (apart (by decide)), mainReset_rd hpage (apart (by decide)), rd_wr_sep (one (by decide)),
      rd_wr_sep (one (by decide)), rd_clear (faultLine_frame Frame.refl Cov.refl) rfl]
  · rw [mainReset_rd hpage (apart (by decide)), rd_clear (faultLine_frame Frame.refl Cov.refl) rfl]

/-- A rail fault resets the main domain under cause 8; of VDD_SOC and VDD_PHY the display domain too. -/
theorem railFault_causes {n : Nat} : (s.railFault n).rd BOOT.RST_CAUSE.main_cause = 8 ∧ (s.railFault n).rd PWR.STATE.state = 0 ∧
    (n = 2 ∨ n = 4 → (s.railFault n).rd BOOT.RST_CAUSE.display_cause = 8) := by
  unfold State.railFault
  dsimp only
  split
  case isTrue hn =>
    refine ⟨?_, ?_, fun _ => displayReset_display_cause⟩
    · rw [displayReset_rd (by decide) (by decide), mainReset_main_cause]
    · rw [displayReset_rd (by decide) (by decide), mainReset_state]
  case isFalse hn => exact ⟨mainReset_main_cause, mainReset_state, fun h => absurd h hn⟩

/-! ### Steps of the exit -/

theorem exitAt_iff {n : Nat} : s.exitAt n = true ↔ (s.rd PWR.STATE.state = 6 ∧ s.rd PWR.STATE.step = n) ∧ s.rd PWR.STATE.target ≠ 4 := by
  unfold State.exitAt
  rw [Bool.and_eq_true, Bool.and_eq_true, beq_iff_eq, beq_iff_eq, bne_iff_ne]

theorem exitAt_eq_false {n : Nat} (h : s.rd PWR.STATE.step ≠ n) : s.exitAt n = false := by
  rw [Bool.eq_false_iff, ne_eq, exitAt_iff]
  exact fun hat => h hat.1.2

/-- The record of a step that missed its limit. -/
def exitBad (s : State) (k : Nat) : State := (s.wr PWR.EXIT_STAT.failed_step k).recErr .pwr 0 Code.PWR_EXIT_STEP ridBlock k

theorem exitBad_failed {k : Nat} : (exitBad s k).rd PWR.EXIT_STAT.failed_step = k % 16 := by
  unfold exitBad
  rw [recErr_rd_clear (by decide), rd_wr_same]
  rfl

/-- What a missed limit leads to, by the step. -/
theorem exec_exitStepTimeout {rail : Fin 5} (h : s.stepFor (ms (if s.rd PWR.STATE.step = 4 then 1 else 10)) = true) :
    exec (.exitStepTimeout rail) s = .next (if s.exitAt 1 then (exitBad s (s.rd PWR.STATE.step)).railFault (4 + rail.val)
      else if s.exitAt 2 then
        if s.rd PWR.EXIT_STAT.osc_attempts < 3 then (s.toStep 2).wr PWR.EXIT_STAT.osc_attempts (s.rd PWR.EXIT_STAT.osc_attempts + 1)
        else (exitBad s (s.rd PWR.STATE.step)).lowPower 4
      else if s.exitAt 3 || s.exitAt 4 then (exitBad s (s.rd PWR.STATE.step)).coldStart
      else s) := by
  change execExitStepTimeout rail s = _
  unfold execExitStepTimeout
  dsimp only
  rw [h, if_neg (by decide)]
  rfl

/-- The reference and its PLLs start without a change of PWR's fields beside the reference. -/
theorem clocksStart_osc : s.clocksStart.pwr.osc = true := rfl

/-- A cold start runs the main stage again on clean memory. -/
theorem coldStart_clean : s.coldStart.rd PWR.EXIT_STAT.cold_start = 1 ∧ s.coldStart.dram = [] ∧ s.coldStart.basin = [] ∧
    s.coldStart.pwr.cold = true := by
  unfold State.coldStart
  extract_lets deep s1 s2
  have h1 : s1.rd PWR.EXIT_STAT.cold_start = 1 := by
    simp only [s1]
    rw [raise_rd_sep (by decide), rd_wr_same]
    rfl
  have hd1 : s1.dram = [] ∧ s1.basin = [] := by
    simp only [s1, raise_dram, raise_basin, wr_dram, wr_basin]
    exact ⟨rfl, rfl⟩
  clear_value s1
  have h2 : s2.rd PWR.EXIT_STAT.cold_start = 1 ∧ s2.dram = [] ∧ s2.basin = [] := by
    simp only [s2]
    split
    · rw [displayReset_rd (by decide) (by decide), (displayReset_frame Frame.refl Cov.refl).dram (by decide),
        (displayReset_frame Frame.refl Cov.refl).basin (by decide)]
      exact ⟨h1, hd1⟩
    · rw [rd_clear (ungroup_frame Frame.refl Cov.refl) (by decide), (ungroup_frame Frame.refl Cov.refl).dram (by decide),
        (ungroup_frame Frame.refl Cov.refl).basin (by decide)]
      exact ⟨h1, hd1⟩
  clear_value s2
  exact ⟨rd_with_pwr.trans h2.1, h2.2.1, h2.2.2, rfl⟩

/-! ### Reaching Run (R91) -/

/-- The device is in Run. -/
theorem toRun_state : s.toRun.rd PWR.STATE.state = 0 := by
  have noted : ∀ {l : List Nat} {t : State}, (l.foldl (fun (t : State) n => (t.wakeNote n).count .pwr 0 4) t).rd PWR.STATE.state =
      t.rd PWR.STATE.state := fun {_ _} =>
    foldl_same (fun t : State => t.rd PWR.STATE.state) fun _ _ => rd_count.trans (wakeNote_rd (by decide))
  unfold State.toRun
  extract_lets l s1 s2 p s3
  have h1 : s1.rd PWR.STATE.state = 0 := pwrStep_state
  clear_value s1
  have h2 : s2.rd PWR.STATE.state = 0 := by
    simp only [s2]
    split
    · exact h1
    · rw [rd_wr_sep (by decide), noted, h1]
  clear_value s2
  have h3 : s3.rd PWR.STATE.state = 0 := rd_with_pwr.trans h2
  clear_value s3
  rw [rd_clear (hvSync_frame Frame.refl Cov.refl) (by decide)]
  split
  · rw [raise_rd_sep (by decide), h3]
  · exact h3

theorem startHart_pc {pc : Nat} : (mget (s.startHart pc).world.harts 0 {}).regs.pc = pc := by
  unfold State.startHart
  dsimp only
  rw [mget_mset_same]

theorem startHart_dram {pc : Nat} : (s.startHart pc).dram = s.dram := by
  unfold State.startHart
  dsimp only

/-- What resumes after hart 0 has its address, until Run is reached. -/
theorem resume_frame : Frame (unblank_T ++ touchResume_T ++ startDeferred_T ++ toRun_T) (s.startHart s.resumeVec) s.resume :=
  toRun_frame (startDeferred_frame (touchResume_frame (unblank_frame Frame.refl (.of_subset (by decide))) (.of_subset (by decide)))
    (.of_subset (by decide))) (.of_subset (by decide))

/-- The resumed device runs hart 0 at RESUME_VEC, with DRAM as it was. -/
theorem resume_run : s.resume.rd PWR.STATE.state = 0 ∧ (mget s.resume.world.harts 0 {}).regs.pc = s.resumeVec ∧ s.resume.dram = s.dram := by
  refine ⟨toRun_state, ?_, (resume_frame.dram (by decide)).trans startHart_dram⟩
  rw [resume_frame.world (by decide), startHart_pc]

end

/-- Settles O7: each step of the exit ends with its ready signal or its timeout. -/
theorem powerStateExit : Obligations.PowerStateExit := by
  unfold Obligations.PowerStateExit
  refine ⟨?regulators, ?oscillator, ?memory, ?logic, ?rail, ?attempt, ?given, ?cold⟩
  case regulators =>
    intro s hat hacked
    refine ⟨_, congrArg Host.Outcome.next (if_pos ?_), ?_, ?_, rfl⟩
    · rw [hat, hacked, Bool.and_self]
    · rw [rd_clear (ampPins_frame Frame.refl Cov.refl) (by decide), rd_with_pins, rd_wr_sep (by decide), toStep_step]
    · rw [rd_clear (ampPins_frame Frame.refl Cov.refl) (by decide), rd_with_pins, rd_wr_same]
      rfl
  case oscillator =>
    intro s hat
    refine ⟨_, congrArg Host.Outcome.next (if_pos hat), ?_, clocksStart_osc⟩
    rw [rd_clear (clocksStart_frame Frame.refl Cov.refl) (by decide), toStep_step]
  case memory =>
    intro s hat
    have hdram : (s.toStep 4).dram = s.dram ∧ (s.toStep 4).basin = s.basin := by
      unfold State.toStep
      rw [wr_dram, wr_basin]
      exact ⟨rfl, rfl⟩
    refine ⟨_, congrArg Host.Outcome.next (if_pos hat), ?_⟩
    dsimp only
    split
    case isTrue ht =>
      refine ⟨?_, fun _ => rfl, fun h => absurd ht h, hdram.1⟩
      rw [rd_mk rfl, toStep_step]
    case isFalse ht => exact ⟨toStep_step, fun h => absurd h ht, fun _ => hdram.2, hdram.1⟩
  case logic =>
    intro s e hat ht
    refine ⟨s.resume, congrArg Host.Outcome.next ?_, resume_run⟩
    rw [hat, Bool.not_true, if_neg Bool.false_ne_true, if_pos ht]
  case rail =>
    intro s rail hat htime
    obtain ⟨⟨-, hstep⟩, -⟩ := exitAt_iff.1 hat
    refine ⟨_, (exec_exitStepTimeout (stepFor_eq_true ?_)).trans (congrArg Host.Outcome.next (if_pos hat)), railFault_causes.1, ?_,
      railFault_causes.2.1, fun h => railFault_causes.2.2 (.inr ?_)⟩
    · rw [hstep]
      exact htime
    · rw [railFault_rd (by decide) (by decide), raise_rd_sep (by decide), recErr_rd_clear (by decide), exitBad_failed, hstep]
    · rw [h]
      rfl
  case attempt =>
    intro s rail hat hfew htime
    obtain ⟨⟨-, hstep⟩, -⟩ := exitAt_iff.1 hat
    refine ⟨(s.toStep 2).wr PWR.EXIT_STAT.osc_attempts (s.rd PWR.EXIT_STAT.osc_attempts + 1), ?_, ?_, ?_⟩
    · rw [exec_exitStepTimeout (stepFor_eq_true (by rw [hstep]; exact htime)), exitAt_eq_false (by omega), if_neg (by decide), if_pos hat,
        if_pos hfew]
    · rw [rd_wr_same]
      exact Nat.mod_eq_of_lt (by change _ < 16; omega)
    · rw [rd_wr_sep (by decide), toStep_step]
  case given =>
    intro s rail hat hall htime
    obtain ⟨⟨-, hstep⟩, -⟩ := exitAt_iff.1 hat
    refine ⟨(exitBad s (s.rd PWR.STATE.step)).lowPower 4, ?_, ?_, ?_⟩
    · rw [exec_exitStepTimeout (stepFor_eq_true (by rw [hstep]; exact htime)), exitAt_eq_false (by omega), if_neg (by decide), if_pos hat,
        if_neg (by omega)]
    · rw [lowPower_rd (by decide) (by decide) (by decide), pwrStep_state]
    · rw [lowPower_rd (by decide) (by decide) (by decide), rd_clear (pwrStep_frame Frame.refl Cov.refl) (by decide), exitBad_failed, hstep]
  case cold =>
    intro s rail hat htime
    have hlate : s.stepFor (ms (if s.rd PWR.STATE.step = 4 then 1 else 10)) = true := by
      refine stepFor_eq_true (Nat.le_trans (Nat.add_le_add_left (Nat.le_of_eq ?_) _) htime)
      split <;> rfl
    have hstep : s.rd PWR.STATE.step = 3 ∨ s.rd PWR.STATE.step = 4 := hat.imp (fun h => (exitAt_iff.1 h).1.2) fun h => (exitAt_iff.1 h).1.2
    refine ⟨(exitBad s (s.rd PWR.STATE.step)).coldStart, ?_, coldStart_clean⟩
    rw [exec_exitStepTimeout hlate, exitAt_eq_false (n := 1) (by omega), exitAt_eq_false (n := 2) (by omega), if_neg (by decide),
      if_neg (by decide), if_pos (Bool.or_eq_true .. ▸ hat)]

end Sys2Proof.Proofs

/-! Words stored in registers (R51): what a store leaves in each field of its register. -/

namespace Sys2Proof.Proofs

open Machine Laws

section

variable {s : State} {b : Blk} {i off v bank : Nat} {p : Part}

/-! ### The new value of a part -/

/-- A field that lies within 32 bits takes the written word's bits at its place. -/
theorem partNew_low (hhi : p.hi = false) (hlen : p.fld.lo + p.fld.len ≤ 32) : s.partNew p i bank v = (v >>> p.fld.lo) % 2 ^ p.fld.len := by
  have hbits : p.bits = ((2 ^ p.fld.len - 1) <<< p.fld.lo) % 2 ^ 32 := by unfold Part.bits Part.half; simp [hhi]
  have hlow : v &&& p.bits < 2 ^ 32 := by
    refine Nat.lt_of_le_of_lt Nat.and_le_right ?_
    rw [hbits]
    exact Nat.mod_lt _ (by decide)
  unfold State.partNew
  simp only [hhi, Bool.false_eq_true, if_false]
  rw [Nat.shiftLeft_add_eq_or_of_lt hlow]
  refine Nat.eq_of_testBit_eq fun k => ?_
  rw [Nat.testBit_mod_two_pow, Nat.testBit_mod_two_pow]
  by_cases hk : k < p.fld.len
  · have hmask : (2 ^ p.fld.len - 1).testBit k = true := by rw [Nat.testBit_two_pow_sub_one, decide_eq_true hk]
    rw [hbits]
    simp only [Nat.testBit_shiftRight, Nat.testBit_or, Nat.testBit_shiftLeft, Nat.testBit_and, Nat.testBit_mod_two_pow]
    rw [decide_eq_false (show ¬ 32 ≤ p.fld.lo + k by omega), decide_eq_true (show p.fld.lo + k < 32 by omega),
      decide_eq_true (show p.fld.lo ≤ p.fld.lo + k by omega), Nat.add_sub_cancel_left, hmask]
    simp
  · rw [decide_eq_false hk, Bool.false_and, Bool.false_and]

/-! ### What a store does to each part -/

/-- One step of a store: what it does to a part by its access type (R51). -/
def storePart (b : Blk) (i v bank : Nat) (t : State) (p : Part) : State :=
  match p.fld.acc with
  | .rw => t.wr p.fld (t.partNew p i bank v) i p.elt bank
  | .rws => (t.wrSh p.fld (t.partNew p i bank v) i p.elt bank).wr (HDR.dirty b) 1 i
  | .w1c => t.wr p.fld ((t.partNow p i bank &&& (2 ^ 32 - 1 - v) &&& p.bits) >>> p.fld.lo) i p.elt bank
  | .w1s => t.wr p.fld ((t.partNow p i bank ||| (v &&& p.bits)) >>> p.fld.lo) i p.elt bank
  | _ => t

theorem storeWord_eq : s.storeWord b i off v = (partsAt b i off).foldl (storePart b i v (s.bankAt b i off)) s := rfl

/-- A field beside the part and the page's dirty flag reads as before. -/
theorem storePart_rd {t : State} {f : Fld} {i' j b' : Nat} (h : place p.fld p.elt ≠ place f j) (hd : place (HDR.dirty b) 0 ≠ place f j) :
    (storePart b i v bank t p).rd f i' j b' = t.rd f i' j b' := by
  unfold storePart
  split
  · exact rd_wr_ne (key_ne h)
  · exact (rd_wr_ne (key_ne hd)).trans rd_wrSh
  · exact rd_wr_ne (key_ne h)
  · exact rd_wr_ne (key_ne h)
  · rfl

/-- So does its shadow. -/
theorem storePart_rdSh {t : State} {f : Fld} {i' j b' : Nat} (h : place p.fld p.elt ≠ place f j) :
    (storePart b i v bank t p).rdSh f i' j b' = t.rdSh f i' j b' := by
  unfold storePart
  split
  · exact rdSh_wr
  · exact rdSh_wr.trans (rdSh_wrSh_ne (key_ne h))
  · exact rdSh_wr
  · exact rdSh_wr
  · rfl

/-- A register of another type, and the active value of an RWS field, is not changed by its part. -/
theorem storePart_rd_rws {t : State} {f : Fld} {i' j b' : Nat} (hacc : p.fld.acc = .rws) (hd : place (HDR.dirty b) 0 ≠ place f j) :
    (storePart b i v bank t p).rd f i' j b' = t.rd f i' j b' := by
  unfold storePart
  rw [hacc]
  exact (rd_wr_ne (key_ne hd)).trans rd_wrSh

/-- A store leaves what is not in its register, but for dirty. -/
theorem storeWord_rd {f : Fld} {i' j b' : Nat} (h : ∀ q ∈ partsAt b i off, place q.fld q.elt ≠ place f j)
    (hd : place (HDR.dirty b) 0 ≠ place f j) : (s.storeWord b i off v).rd f i' j b' = s.rd f i' j b' := by
  rw [storeWord_eq]
  exact foldl_same_of_mem (fun t : State => t.rd f i' j b') fun t q hq => storePart_rd (h q hq) hd

/-- No two parts of a register share a place. -/
abbrev partsApart (l : List Part) : Prop := l.Pairwise fun p q => place p.fld p.elt ≠ place q.fld q.elt

/-- What the parts before a part leave of what the part reads, and the parts after it of what it stores. -/
theorem foldl_storePart_apart {l : List Part} {t : State} {f : Fld} {j i' b' : Nat} (h : ∀ q ∈ l, place q.fld q.elt ≠ place f j)
    (hd : place (HDR.dirty b) 0 ≠ place f j) :
    (l.foldl (storePart b i v bank) t).rd f i' j b' = t.rd f i' j b' ∧ (l.foldl (storePart b i v bank) t).rdSh f i' j b' = t.rdSh f i' j b' :=
  ⟨foldl_same_of_mem (fun t : State => t.rd f i' j b') fun _ q hq => storePart_rd (h q hq) hd,
    foldl_same_of_mem (fun t : State => t.rdSh f i' j b') fun _ q hq => storePart_rdSh (h q hq)⟩

/-- A part of a list of parts that share no place is stored as if it were alone. -/
theorem storeWord_part {pr : State → Nat} (hp : p ∈ partsAt b i off) (hone : partsApart (partsAt b i off))
    (hpr : pr = (fun t : State => t.rd p.fld i p.elt (s.bankAt b i off)) ∨ pr = (fun t : State => t.rdSh p.fld i p.elt (s.bankAt b i off)))
    (hd : place (HDR.dirty b) 0 ≠ place p.fld p.elt) :
    ∃ t : State, t.rd p.fld i p.elt (s.bankAt b i off) = s.rd p.fld i p.elt (s.bankAt b i off) ∧
      t.rdSh p.fld i p.elt (s.bankAt b i off) = s.rdSh p.fld i p.elt (s.bankAt b i off) ∧
      pr (s.storeWord b i off v) = pr (storePart b i v (s.bankAt b i off) t p) := by
  rw [storeWord_eq]
  generalize s.bankAt b i off = bank at *
  generalize partsAt b i off = l at *
  obtain ⟨l1, l2, rfl⟩ := List.append_of_mem hp
  obtain ⟨-, h2, h12⟩ := List.pairwise_append.1 hone
  have before : ∀ q ∈ l1, place q.fld q.elt ≠ place p.fld p.elt := fun q hq => h12 q hq p List.mem_cons_self
  have after : ∀ q ∈ l2, place q.fld q.elt ≠ place p.fld p.elt := fun q hq e => (List.pairwise_cons.1 h2).1 q hq e.symm
  refine ⟨l1.foldl (storePart b i v bank) s, (foldl_storePart_apart before hd).1, (foldl_storePart_apart before hd).2, ?_⟩
  rw [List.foldl_append, List.foldl_cons]
  rcases hpr with rfl | rfl
  · exact (foldl_storePart_apart after hd).1
  · exact (foldl_storePart_apart after hd).2

/-- An RW field of the register takes its new value. -/
theorem storeWord_rd_rw (hp : p ∈ partsAt b i off) (hone : partsApart (partsAt b i off)) (hacc : p.fld.acc = .rw)
    (hd : place (HDR.dirty b) 0 ≠ place p.fld p.elt) (hhi : p.hi = false) (hlen : p.fld.lo + p.fld.len ≤ 32) :
    (s.storeWord b i off v).rd p.fld i p.elt (s.bankAt b i off) = (v >>> p.fld.lo) % 2 ^ p.fld.len := by
  obtain ⟨t, -, -, h⟩ := storeWord_part (v := v) hp hone (.inl rfl) hd
  refine h.trans ?_
  unfold storePart
  rw [hacc]
  dsimp only
  rw [rd_wr_same, partNew_low hhi hlen, Nat.mod_mod]

/-- The same by the field and its element. -/
theorem storeWord_field {f : Fld} {j : Nat} (hrow : f ∈ pageRows b i) (hat : f.at off = some (j, false)) (hone : partsApart (partsAt b i off))
    (hacc : f.acc = .rw) (hd : place (HDR.dirty b) 0 ≠ place f j) (hlen : f.lo + f.len ≤ 32) :
    (s.storeWord b i off v).rd f i j (s.bankAt b i off) = (v >>> f.lo) % 2 ^ f.len :=
  storeWord_rd_rw (p := ⟨f, j, false⟩) (List.mem_filterMap.2 ⟨f, hrow, by rw [hat]; rfl⟩) hone hacc hd rfl hlen

/-- An RWS field takes it in its shadow, and keeps its active value. -/
theorem storeWord_rdSh_rws (hp : p ∈ partsAt b i off) (hone : partsApart (partsAt b i off)) (hacc : p.fld.acc = .rws)
    (hd : place (HDR.dirty b) 0 ≠ place p.fld p.elt) (hhi : p.hi = false) (hlen : p.fld.lo + p.fld.len ≤ 32) :
    (s.storeWord b i off v).rdSh p.fld i p.elt (s.bankAt b i off) = (v >>> p.fld.lo) % 2 ^ p.fld.len ∧
      (s.storeWord b i off v).rd p.fld i p.elt (s.bankAt b i off) = s.rd p.fld i p.elt (s.bankAt b i off) := by
  obtain ⟨t, -, -, h⟩ := storeWord_part (v := v) hp hone (.inr rfl) hd
  obtain ⟨u, hu, -, k⟩ := storeWord_part (v := v) hp hone (.inl rfl) hd
  refine ⟨h.trans ?_, k.trans ((storePart_rd_rws hacc hd).trans hu)⟩
  unfold storePart
  rw [hacc]
  dsimp only
  rw [rdSh_wr, rdSh_wrSh_same, partNew_low hhi hlen, Nat.mod_mod]

/-- A store of a shadow marks its page. -/
theorem storeWord_dirty (hp : p ∈ partsAt b i off) (hacc : p.fld.acc = .rws)
    (hd : ∀ q ∈ partsAt b i off, place q.fld q.elt ≠ place (HDR.dirty b) 0) : (s.storeWord b i off v).rd (HDR.dirty b) i = 1 := by
  rw [storeWord_eq]
  generalize s.bankAt b i off = bank at *
  generalize partsAt b i off = l at *
  have set : ∀ {t : State}, (storePart b i v bank t p).rd (HDR.dirty b) i = 1 := by
    intro t
    unfold storePart
    rw [hacc]
    exact rd_wr_same
  have keep : ∀ {t : State} {q : Part}, q ∈ l → t.rd (HDR.dirty b) i = 1 → (storePart b i v bank t q).rd (HDR.dirty b) i = 1 := by
    intro t q hq ht
    unfold storePart
    split
    · rwa [rd_wr_ne (key_ne (hd q hq))]
    · exact rd_wr_same
    · rwa [rd_wr_ne (key_ne (hd q hq))]
    · rwa [rd_wr_ne (key_ne (hd q hq))]
    · exact ht
  obtain ⟨l1, l2, rfl⟩ := List.append_of_mem hp
  rw [List.foldl_append, List.foldl_cons]
  have rest : ∀ {m : List Part} {t : State}, (∀ q ∈ m, q ∈ l1 ++ p :: l2) → t.rd (HDR.dirty b) i = 1 →
      (m.foldl (storePart b i v bank) t).rd (HDR.dirty b) i = 1 := by
    intro m
    induction m with
    | nil => exact fun _ ht => ht
    | cons q m ih =>
      exact fun hm ht => ih (fun q hq => hm q (List.mem_cons_of_mem _ hq)) (keep (hm q List.mem_cons_self) ht)
  exact rest (fun q hq => List.mem_append_right _ (List.mem_cons_of_mem _ hq)) set

end

end Sys2Proof.Proofs

/-! Rails and their frequencies: commands, acknowledgements, faults and the start sequence (R39, R95 to R98). -/

namespace Sys2Proof.Proofs

open Machine Laws

section

variable {s : State} {n : Nat}

/-! ### Voltage commands -/

/-- What a voltage command shows in its rail's RAIL_STAT word. -/
theorem railTo_word {mv : Nat} : (s.railTo n mv).rd PWR.RAIL_STAT.target_mv 0 n = mv % 1024 ∧
    (s.railTo n mv).rd PWR.RAIL_STAT.cmd_seq 0 n = (s.rd PWR.RAIL_STAT.cmd_seq 0 n + 1) % 16 ∧
    (s.railTo n mv).rd PWR.RAIL_STAT.slewing 0 n = 1 ∧
    (s.railTo n mv).rd PWR.RAIL_STAT.freq_held 0 n = s.rd PWR.RAIL_STAT.freq_held 0 n := by
  have seq : ∀ {u : State}, u = (if s.on PWR.RAIL_STAT.slewing 0 n then s.count .pwr 0 (9 + n) else s) →
      ∀ f : Fld, u.rd f 0 n = s.rd f 0 n := by
    rintro u rfl f
    split
    · exact rd_count
    · rfl
  unfold State.railTo
  extract_lets from_ s1 p s2
  have h2 : ∀ f : Fld, s2.rd f 0 n = s.rd f 0 n := fun f => rd_with_pwr.trans (seq rfl f)
  clear_value s2
  refine ⟨?_, ?_, ?_, ?_⟩
  · rw [rd_count, rd_wr_sep (by decide), rd_wr_sep (by decide), rd_wr_same]
    rfl
  · rw [rd_count, rd_wr_sep (by decide), rd_wr_same, h2]
    rfl
  · rw [rd_count, rd_wr_same]
    rfl
  · rw [rd_count, rd_wr_sep (by decide), rd_wr_sep (by decide), rd_wr_sep (by decide), h2]

/-- The clocks of a rail run at the frequency set. -/
theorem railMhz_railFreq {mhz : Nat} (hn : n < 2) : (s.railFreq n mhz).railMhz n = mhz % 65536 := by
  have hlate : ∀ {u : State} {k : Nat}, k = 9 ∨ k = 10 ∨ k = 11 →
      (u.wr CLK.PLL_STAT.mhz mhz 0 k).rd CLK.PLL_STAT.mhz 0 8 = u.rd CLK.PLL_STAT.mhz 0 8 := by
    rintro u k (rfl | rfl | rfl) <;> exact rd_wr_elt (by decide)
  obtain rfl | rfl : n = 0 ∨ n = 1 := by omega
  · change ((((s.wr CLK.PLL_STAT.mhz mhz 0 8).wr CLK.PLL_STAT.mhz mhz 0 9).wr CLK.PLL_STAT.mhz mhz 0 10).wr CLK.PLL_STAT.mhz mhz 0 11).rd
      CLK.PLL_STAT.mhz 0 8 = _
    rw [hlate (by decide), hlate (by decide), hlate (by decide), rd_wr_same]
    rfl
  · exact rd_wr_same

theorem railFreq_rd {mhz : Nat} {f : Fld} {i j b : Nat} (h : sep CLK.PLL_STAT.mhz f = true) : (s.railFreq n mhz).rd f i j b = s.rd f i j b :=
  foldl_same (fun t : State => t.rd f i j b) fun _ _ => rd_wr_sep h

/-- The voltage of a rail's operating point depends on RAIL_REQ and the OPP tables alone. -/
theorem oppMv_congr {t : State} (hreq : t.rd PWR.RAIL_REQ.opp 0 n = s.rd PWR.RAIL_REQ.opp 0 n)
    (hcpu : ∀ j < 8, t.rd PWR.OPP_CPU.mv 0 j = s.rd PWR.OPP_CPU.mv 0 j) (hgpu : ∀ j < 8, t.rd PWR.OPP_GPU.mv 0 j = s.rd PWR.OPP_GPU.mv 0 j)
    (hlt : s.rd PWR.RAIL_REQ.opp 0 n < 8) : t.oppMv n = s.oppMv n := by
  unfold State.oppMv
  rw [hreq]
  split
  · exact hcpu _ hlt
  · exact hgpu _ hlt

theorem oppMhz_congr {t : State} (hreq : t.rd PWR.RAIL_REQ.opp 0 n = s.rd PWR.RAIL_REQ.opp 0 n)
    (hcpu : ∀ j < 8, t.rd PWR.OPP_CPU.mhz 0 j = s.rd PWR.OPP_CPU.mhz 0 j) (hgpu : ∀ j < 8, t.rd PWR.OPP_GPU.mhz 0 j = s.rd PWR.OPP_GPU.mhz 0 j)
    (hlt : s.rd PWR.RAIL_REQ.opp 0 n < 8) : t.oppMhz n = s.oppMhz n := by
  unfold State.oppMhz
  rw [hreq]
  split
  · exact hcpu _ hlt
  · exact hgpu _ hlt

/-- A word of RAIL_REQn selects its operating point. -/
theorem storeWord_railReq {v : Nat} (hn : n < 2) : (s.storeWord .pwr 0 (0x140 + 4 * n) v).rd PWR.RAIL_REQ.opp 0 n = v % 8 := by
  obtain rfl | rfl : n = 0 ∨ n = 1 := by omega
  · exact storeWord_field (b := .pwr) (i := 0) (off := 0x140) (f := PWR.RAIL_REQ.opp) (j := 0) (by decide) rfl (by decide) rfl (by decide) (by decide)
  · exact storeWord_field (b := .pwr) (i := 0) (off := 0x144) (f := PWR.RAIL_REQ.opp) (j := 1) (by decide) rfl (by decide) rfl (by decide) (by decide)

/-- It leaves the other fields of PWR. -/
theorem storeWord_railReq_rd {v : Nat} (hn : n < 2) {f : Fld} {i j b : Nat} (h : place f j < 0x140 * 64 ∨ 0x148 * 64 ≤ place f j)
    (hd : place (HDR.dirty .pwr) 0 ≠ place f j) : (s.storeWord .pwr 0 (0x140 + 4 * n) v).rd f i j b = s.rd f i j b := by
  have hall : ∀ q ∈ partsAt .pwr 0 (0x140 + 4 * n), 0x140 * 64 ≤ place q.fld q.elt ∧ place q.fld q.elt < 0x148 * 64 := by
    obtain rfl | rfl : n = 0 ∨ n = 1 := by omega
    · decide
    · decide
  refine storeWord_rd (fun q hq e => ?_) hd
  have := hall q hq
  omega

/-- A write of RAIL_REQn stores its word, and by the frequencies holds the higher one or takes the lower one before the voltage command. -/
theorem railReq_of_accepts {w : Who} {v : Nat} (h : accepts s w .pwr 0 (0x140 + 4 * n) v = true) :
    s.railReq w n v = if (s.okResp.storeWord .pwr 0 (0x140 + 4 * n) v).railMhz n < (s.okResp.storeWord .pwr 0 (0x140 + 4 * n) v).oppMhz n
      then ((s.okResp.storeWord .pwr 0 (0x140 + 4 * n) v).wr PWR.RAIL_STAT.freq_held 1 0 n).railTo n
        ((s.okResp.storeWord .pwr 0 (0x140 + 4 * n) v).oppMv n)
      else (((s.okResp.storeWord .pwr 0 (0x140 + 4 * n) v).wr PWR.RAIL_STAT.freq_held 0 0 n).railFreq n
        ((s.okResp.storeWord .pwr 0 (0x140 + 4 * n) v).oppMhz n)).railTo n ((s.okResp.storeWord .pwr 0 (0x140 + 4 * n) v).oppMv n) := by
  unfold State.railReq
  rw [onWrite_accepted h (by decide)]

/-- A write to the rail's RAIL_STAT word leaves what lies outside the four words. -/
theorem wr_railStat_rd {g f : Fld} {v i j b : Nat} (hn : n < 4) (hoff : g.off = 0x150) (hst : g.stride = 4)
    (h : (f.off + f.stride * j) % 4096 < 0x150 ∨ 0x160 ≤ (f.off + f.stride * j) % 4096) : (s.wr g v 0 n).rd f i j b = s.rd f i j b := by
  refine rd_wr_ne (key_ne fun e => ?_)
  unfold place at e
  rw [hoff, hst] at e
  omega

/-- The command sent after a request, whatever becomes of the frequency: what it shows and what it leaves. -/
theorem railReq_shown {u t : State} {mv : Nat} (hn : n < 2) (hword : u.rd PWR.RAIL_STAT.cmd_seq 0 n = s.rd PWR.RAIL_STAT.cmd_seq 0 n)
    (hreq : u.rd PWR.RAIL_REQ.opp 0 n < 8) (ht : t = u.railTo n (mv)) (hmv : mv = u.oppMv n) :
    t.rd PWR.RAIL_REQ.opp 0 n = u.rd PWR.RAIL_REQ.opp 0 n ∧
      t.rd PWR.RAIL_STAT.cmd_seq 0 n = (s.rd PWR.RAIL_STAT.cmd_seq 0 n + 1) % 16 ∧ t.rd PWR.RAIL_STAT.target_mv 0 n = t.oppMv n % 1024 ∧
      t.rd PWR.RAIL_STAT.slewing 0 n = 1 ∧ t.rd PWR.RAIL_STAT.freq_held 0 n = u.rd PWR.RAIL_STAT.freq_held 0 n ∧
      t.railMhz n = u.railMhz n ∧ t.oppMhz n = u.oppMhz n := by
  subst ht hmv
  obtain ⟨htarget, hseq, hslew, hheld⟩ := railTo_word (s := u) (n := n) (mv := u.oppMv n)
  have hopp : (u.railTo n (u.oppMv n)).rd PWR.RAIL_REQ.opp 0 n = u.rd PWR.RAIL_REQ.opp 0 n := by
    refine railTo_rd (by omega) (.inl ?_)
    change (0x140 + 4 * n) % 4096 < _
    omega
  have table : ∀ {f : Fld} {j : Nat}, 0x180 ≤ f.off → f.off ≤ 0x1A0 → f.stride = 4 → j < 8 →
      (u.railTo n (u.oppMv n)).rd f 0 j = u.rd f 0 j := by
    intro f j h1 h2 h3 hj
    exact railTo_rd (by omega) (.inr (by rw [h3]; omega))
  have hmv := oppMv_congr hopp (fun j hj => table (by decide) (by decide) rfl hj) (fun j hj => table (by decide) (by decide) rfl hj) hreq
  have hmhz := oppMhz_congr hopp (fun j hj => table (by decide) (by decide) rfl hj) (fun j hj => table (by decide) (by decide) rfl hj) hreq
  refine ⟨hopp, by rw [hseq, hword], by rw [htarget, hmv], hslew, hheld, ?_, hmhz⟩
  exact rd_clear (railTo_frame Frame.refl Cov.refl) (by decide)

/-- A request, in terms of the registers it leaves. -/
theorem railReq_registers {w : Who} {v : Nat} (hn : n < 2) (h : accepts s w .pwr 0 (0x140 + 4 * n) v = true) :
    (s.railReq w n v).rd PWR.RAIL_REQ.opp 0 n = v % 8 ∧
      (s.railReq w n v).rd PWR.RAIL_STAT.cmd_seq 0 n = (s.rd PWR.RAIL_STAT.cmd_seq 0 n + 1) % 16 ∧
      (s.railReq w n v).rd PWR.RAIL_STAT.target_mv 0 n = (s.railReq w n v).oppMv n % 1024 ∧
      (s.railReq w n v).rd PWR.RAIL_STAT.slewing 0 n = 1 ∧
      (if s.railMhz n < (s.railReq w n v).oppMhz n then
        (s.railReq w n v).rd PWR.RAIL_STAT.freq_held 0 n = 1 ∧ (s.railReq w n v).railMhz n = s.railMhz n
      else (s.railReq w n v).rd PWR.RAIL_STAT.freq_held 0 n = 0 ∧ (s.railReq w n v).railMhz n = (s.railReq w n v).oppMhz n % 65536) := by
  have hreq : (s.okResp.storeWord .pwr 0 (0x140 + 4 * n) v).rd PWR.RAIL_REQ.opp 0 n = v % 8 := storeWord_railReq hn
  have hseq : (s.okResp.storeWord .pwr 0 (0x140 + 4 * n) v).rd PWR.RAIL_STAT.cmd_seq 0 n = s.rd PWR.RAIL_STAT.cmd_seq 0 n := by
    refine (storeWord_railReq_rd hn (.inr ?_) ?_).trans rd_okResp
    · change 0x148 * 64 ≤ (0x150 + 4 * n) % 4096 * 64 + 20
      omega
    · change 0x24 * 64 + _ ≠ (0x150 + 4 * n) % 4096 * 64 + 20
      omega
  have hmhz : (s.okResp.storeWord .pwr 0 (0x140 + 4 * n) v).railMhz n = s.railMhz n :=
    (rd_clear (storeWord_frame Frame.refl Cov.refl) rfl).trans rd_okResp
  rw [railReq_of_accepts h]
  generalize s.okResp.storeWord .pwr 0 (0x140 + 4 * n) v = u at *
  have wrHeld : ∀ {x : Nat} {f : Fld} {j : Nat}, (f.off + f.stride * j) % 4096 < 0x150 ∨ 0x160 ≤ (f.off + f.stride * j) % 4096 →
      (u.wr PWR.RAIL_STAT.freq_held x 0 n).rd f 0 j = u.rd f 0 j := fun h => wr_railStat_rd (by omega) rfl rfl h
  have hoppW : ∀ {x : Nat}, (u.wr PWR.RAIL_STAT.freq_held x 0 n).rd PWR.RAIL_REQ.opp 0 n = u.rd PWR.RAIL_REQ.opp 0 n := by
    intro x
    refine wrHeld (.inl ?_)
    change (0x140 + 4 * n) % 4096 < _
    omega
  have table : ∀ {x : Nat} {f : Fld} {j : Nat}, 0x180 ≤ f.off → f.off ≤ 0x1A0 → f.stride = 4 → j < 8 →
      (u.wr PWR.RAIL_STAT.freq_held x 0 n).rd f 0 j = u.rd f 0 j := by
    intro x f j h1 h2 h3 hj
    exact wrHeld (.inr (by rw [h3]; omega))
  have hlt : u.rd PWR.RAIL_REQ.opp 0 n < 8 := by rw [hreq]; omega
  split
  case isTrue hlow =>
    have hmv : u.oppMv n = (u.wr PWR.RAIL_STAT.freq_held 1 0 n).oppMv n :=
      (oppMv_congr hoppW (fun j hj => table (by decide) (by decide) rfl hj) (fun j hj => table (by decide) (by decide) rfl hj) hlt).symm
    have hfreq : (u.wr PWR.RAIL_STAT.freq_held 1 0 n).oppMhz n = u.oppMhz n :=
      oppMhz_congr hoppW (fun j hj => table (by decide) (by decide) rfl hj) (fun j hj => table (by decide) (by decide) rfl hj) hlt
    obtain ⟨h1, h2, h3, h4, h5, h6, h7⟩ := railReq_shown (s := s) hn ((rd_wr_sep (by decide)).trans hseq) (by rw [hoppW]; exact hlt) rfl hmv
    refine ⟨by rw [h1, hoppW, hreq], h2, h3, h4, ?_⟩
    rw [h7, hfreq, if_pos (by rw [← hmhz]; exact hlow), h5, h6, rd_wr_same]
    refine ⟨rfl, ?_⟩
    rw [← hmhz]
    exact rd_wr_sep (by decide)
  case isFalse hlow =>
    have hmv : u.oppMv n = ((u.wr PWR.RAIL_STAT.freq_held 0 0 n).railFreq n (u.oppMhz n)).oppMv n := by
      refine (oppMv_congr ?_ (fun j hj => ?_) (fun j hj => ?_) hlt).symm
      · rw [railFreq_rd (by decide), hoppW]
      · rw [railFreq_rd (by decide), table (by decide) (by decide) rfl hj]
      · rw [railFreq_rd (by decide), table (by decide) (by decide) rfl hj]
    have hfreq : ((u.wr PWR.RAIL_STAT.freq_held 0 0 n).railFreq n (u.oppMhz n)).oppMhz n = u.oppMhz n := by
      refine oppMhz_congr ?_ (fun j hj => ?_) (fun j hj => ?_) hlt
      · rw [railFreq_rd (by decide), hoppW]
      · rw [railFreq_rd (by decide), table (by decide) (by decide) rfl hj]
      · rw [railFreq_rd (by decide), table (by decide) (by decide) rfl hj]
    obtain ⟨h1, h2, h3, h4, h5, h6, h7⟩ := railReq_shown (s := s) hn
      ((railFreq_rd (by decide)).trans ((rd_wr_sep (by decide)).trans hseq)) (by rw [railFreq_rd (by decide), hoppW]; exact hlt) rfl hmv
    refine ⟨by rw [h1, railFreq_rd (by decide), hoppW, hreq], h2, h3, h4, ?_⟩
    rw [h7, hfreq, if_neg (by rw [← hmhz]; exact hlow), h5, h6, railFreq_rd (by decide), rd_wr_same, railMhz_railFreq hn]
    exact ⟨rfl, rfl⟩

/-! ### Acknowledgements and faults of rails -/

/-- The acknowledgement of an outstanding command. -/
theorem railAck_shown (hn : n < 4) (h : s.rd PWR.RAIL_STAT.slewing 0 n = 1) :
    (s.railAck n).rd PWR.RAIL_STAT.ack_seq 0 n = s.rd PWR.RAIL_STAT.cmd_seq 0 n % 16 ∧ (s.railAck n).rd PWR.RAIL_STAT.slewing 0 n = 0 ∧
      (s.railAck n).rd PWR.RAIL_STAT.freq_held 0 n = 0 ∧ bit ((s.railAck n).rd (HDR.ev_raw .pwr)) 11 = true := by
  have hout : s.railOut n = true := on_eq_true_iff.2 (by rw [h]; decide)
  have ev : ∀ {u : State} {g : Fld}, g.off = 0x150 → g.stride = 4 → (u.raise .pwr 0 11).rd g 0 n = u.rd g 0 n := fun hoff hst =>
    raise_rd_body (by rw [hoff, hst]; omega)
  unfold State.railAck
  extract_lets s1 s2
  have h1 : s1.rd PWR.RAIL_STAT.ack_seq 0 n = s.rd PWR.RAIL_STAT.cmd_seq 0 n % 16 ∧ s1.rd PWR.RAIL_STAT.slewing 0 n = 0 := by
    refine ⟨?_, ?_⟩
    · exact (rd_wr_sep (by decide)).trans rd_wr_same
    · exact rd_wr_same
  clear_value s1
  have h2 : s2.rd PWR.RAIL_STAT.ack_seq 0 n = s.rd PWR.RAIL_STAT.cmd_seq 0 n % 16 ∧ s2.rd PWR.RAIL_STAT.slewing 0 n = 0 ∧
      s2.rd PWR.RAIL_STAT.freq_held 0 n = 0 := by
    simp only [s2]
    split
    · rw [railFreq_rd (by decide), railFreq_rd (by decide), railFreq_rd (by decide), rd_wr_sep (by decide), rd_wr_sep (by decide), rd_wr_same]
      exact ⟨h1.1, h1.2, rfl⟩
    · next hheld => exact ⟨h1.1, h1.2, on_eq_false_iff.1 (Bool.eq_false_iff.2 hheld)⟩
  clear_value s2
  rw [hout, if_neg (by decide), ev rfl rfl, ev rfl rfl, ev rfl rfl]
  exact ⟨h2.1, h2.2.1, h2.2.2, raise_bit (by decide)⟩

/-- A rail fault shows as an event of PWR. -/
theorem railFault_event : bit ((s.railFault n).rd (HDR.ev_raw .pwr)) 12 = true := by
  rw [railFault_rd (by decide) (by decide)]
  exact raise_bit (by decide)

/-! ### Rails of the start sequence -/

/-- Bringing a rail to its Run voltage leaves the count of rails. -/
theorem railRun_rails : (s.railRun n).pwr.rails = s.pwr.rails := by
  unfold State.railRun
  split
  · rfl
  · rw [(railAck_frame Frame.refl Cov.refl).pwr (by decide)]
    unfold State.railTo
    dsimp only
    split <;> simp only [wr_pwr, count_pwr]

/-- A rail that is good lets the next start; after the last PWR_GOOD is high. -/
theorem railGood_next (hreset : s.pins.resetN = true) (hvin : s.pwr.vin = 0) (hhot : s.pwr.hot = false) (hst : s.rd PWR.STATE.state ≠ 4)
    (hr : 2 ≤ s.pwr.rails ∧ s.pwr.rails < 11) :
    s.railGood.pwr.rails = s.pwr.rails + 1 ∧ (s.pwr.rails = 10 → s.railGood.pins.pwrGood = true) := by
  unfold State.railGood
  extract_lets k p s1 s2
  have hk : k = s.pwr.rails := rfl
  have hs2 : s2.pwr.rails = k + 1 := by
    simp only [s2]
    rw [if_neg (by omega)]
    split
    · split
      · rw [railRun_rails]
      · rfl
    · rfl
  clear_value s2 k
  rw [if_neg]
  · split
    · exact ⟨by rw [← hk]; exact hs2, fun _ => rfl⟩
    · exact ⟨by rw [← hk]; exact hs2, fun h => absurd h (by omega)⟩
  · rintro (⟨h, -⟩ | h | h | h | h)
    · rw [hreset] at h
      exact absurd h (by decide)
    · exact h hvin
    · rw [hhot] at h
      exact absurd h (by decide)
    · exact hst h
    · omega

end

/-! ### The obligations -/

/-- Settles O8: a request, its acknowledgement and the faults of rails, each through what it leaves in RAIL_STAT and the causes. -/
theorem avsRails : Obligations.AvsRails := by
  unfold Obligations.AvsRails
  refine ⟨fun s w n v h => ⟨_, rfl, railReq_registers n.isLt h⟩, fun s n h => ⟨_, rfl, railAck_shown n.isLt h⟩, ?timeout, ?fixed,
    fun s hreset hvin hhot hst hr => ⟨_, rfl, railGood_next hreset hvin hhot hst hr⟩⟩
  case timeout =>
    intro s n hslew htime
    have hn := n.isLt
    have hout : s.railOut n.val = true := on_eq_true_iff.2 (by rw [hslew]; decide)
    have hpast : s.past (mget s.pwr.slewAt n.val 0) (ms 1) = true := decide_eq_true htime
    refine ⟨_, congrArg Host.Outcome.next (if_neg ?_), ?_, railFault_causes.1, railFault_event⟩
    · rw [hout, hpast]
      decide
    · have hbody : 0x30 ≤ (PWR.RAIL_STAT.fault.off + PWR.RAIL_STAT.fault.stride * n.val) % 4096 := by
        change 0x30 ≤ (0x150 + 4 * n.val) % 4096
        omega
      rw [railFault_rd (by decide) (by decide), raise_rd_body hbody, recErr_rd_body hbody]
      split
      · rw [recErr_rd_body hbody, rd_wr_sep (by decide), rd_wr_same]
        rfl
      · rw [rd_wr_same]
        rfl
  case fixed =>
    intro s n hst hgood
    refine ⟨_, congrArg Host.Outcome.next (if_pos ⟨hst, hgood⟩), railFault_causes.1, railFault_event, fun h => railFault_causes.2.2 (.inr ?_)⟩
    rw [h]
    rfl

end Sys2Proof.Proofs

/-! Temperature (R99) and the clocks (R103): samples, the shutdown, lost references and locks. -/

namespace Sys2Proof.Proofs

open Machine Laws

section

variable {s : State}

/-! ### The temperature sample -/

/-- What a sample shows: the highest reading, and the rise through TEMP_WARN. -/
def tempShown (s : State) (temps : List (BitVec 11)) : State :=
  let s1 := (s.wr PWR.TEMP_MAX.temp (ofSigned 11 (hottest temps).1)).wr PWR.TEMP_MAX.sensor (hottest temps).2
  if toSigned 11 (s.rd PWR.TEMP_MAX.temp) < toSigned 11 (s.rd PWR.TEMP_WARN.threshold) ∧
      toSigned 11 (s.rd PWR.TEMP_WARN.threshold) ≤ (hottest temps).1 then (s1.count .pwr 0 13).raise .pwr 0 13 else s1

/-- The domain is held, and its high voltage follows. -/
def heldHot (s : State) : State := ({ s with pwr := { s.pwr with hot := true } }).hvSync

/-- A sample goes on by the shutdown temperatures. -/
theorem tempSample_eq {temps : Vector (BitVec 11) 16} : s.tempSample temps =
    if (tempShown s temps.toList).variant.shutdown + 40 ≤ (hottest temps.toList).1 then
      (if (tempShown s temps.toList).pwr.hot ∧ (tempShown s temps.toList).pwr.rails ≤ 2 then tempShown s temps.toList
        else heldHot ((tempShown s temps.toList).shutDown 9 (tempShown s temps.toList).pwr.vin 2))
    else if (tempShown s temps.toList).variant.shutdown ≤ (hottest temps.toList).1 ∧ !(tempShown s temps.toList).pwr.hot then
      heldHot ((((tempShown s temps.toList).mainReset 9).railTo 0 0).railTo 1 0)
    else tempShown s temps.toList := by
  unfold State.tempSample
  rcases e : hottest temps.toList with ⟨m, k⟩
  dsimp -zeta only
  extract_lets old thr s1 s2 hot
  have hshown : tempShown s temps.toList = s2 := by
    unfold tempShown
    rw [e]
  rw [hshown]
  unfold heldHot
  rfl

theorem tempShown_temp {temps : List (BitVec 11)} : (tempShown s temps).rd PWR.TEMP_MAX.temp = ofSigned 11 (hottest temps).1 ∧
    (tempShown s temps).rd PWR.TEMP_MAX.sensor = (hottest temps).2 % 16 := by
  have hlt : ofSigned 11 (hottest temps).1 % 2 ^ PWR.TEMP_MAX.temp.len = ofSigned 11 (hottest temps).1 := by
    refine Nat.mod_eq_of_lt ?_
    change ofSigned 11 _ < 2048
    unfold ofSigned
    omega
  unfold tempShown
  dsimp only
  split
  · rw [raise_rd_sep (by decide), rd_count, rd_wr_sep (by decide), rd_wr_same, raise_rd_sep (by decide), rd_count, rd_wr_same]
    exact ⟨hlt, rfl⟩
  · rw [rd_wr_sep (by decide), rd_wr_same, rd_wr_same]
    exact ⟨hlt, rfl⟩

theorem tempShown_warn {temps : List (BitVec 11)} (h : toSigned 11 (s.rd PWR.TEMP_MAX.temp) < toSigned 11 (s.rd PWR.TEMP_WARN.threshold) ∧
    toSigned 11 (s.rd PWR.TEMP_WARN.threshold) ≤ (hottest temps).1) :
    bit ((tempShown s temps).rd (HDR.ev_raw .pwr)) 13 = true ∧ (tempShown s temps).counter .pwr 0 13 = (s.counter .pwr 0 13 + 1) % 2 ^ 64 := by
  unfold tempShown
  dsimp only
  rw [if_pos h]
  refine ⟨raise_bit (by decide), ?_⟩
  rw [counter_raise, counter_count_same, counter_wr, counter_wr]

/-- It leaves the variant and PWR's working state. -/
theorem tempShown_rest {temps : List (BitVec 11)} : (tempShown s temps).variant = s.variant ∧ (tempShown s temps).pwr = s.pwr := by
  unfold tempShown
  dsimp only
  split <;> simp only [wr_pwr, raise_pwr, count_pwr, wr_variant, raise_variant, count_variant, and_self]

/-! ### What being held, a shutdown and voltage commands leave -/

theorem heldHot_hot : (heldHot s).pwr.hot = true := by
  unfold heldHot
  rw [(hvSync_frame Frame.refl Cov.refl).pwr (by decide)]

theorem heldHot_rest : (heldHot s).pwr.mainUp = s.pwr.mainUp ∧ (heldHot s).pwr.rails = s.pwr.rails ∧ (heldHot s).pins = s.pins := by
  unfold heldHot
  rw [(hvSync_frame Frame.refl Cov.refl).pwr (by decide), (hvSync_frame Frame.refl Cov.refl).pins (by decide)]
  exact ⟨rfl, rfl, rfl⟩

theorem heldHot_rd {f : Fld} {i j b : Nat} (h : hvSync_T.all (clear f) = true) : (heldHot s).rd f i j b = s.rd f i j b := by
  unfold heldHot
  rw [rd_clear (hvSync_frame Frame.refl Cov.refl) h, rd_with_pwr]

theorem heldHot_counter {k : Blk} {i j : Nat} (hk : k ≠ .hapt) : (heldHot s).counter k i j = s.counter k i j := by
  unfold heldHot
  rw [(hvSync_frame Frame.refl Cov.refl).ctr k i j (by simp [hvSync_T, hk]) (by decide)]
  rfl

/-- What a shutdown may change of pages of no domain that is reset. -/
def shutDownApart_T : List Piece := mainResetApart_T ++ faultAssert_T

theorem shutDown_rd {c vin rails : Nat} {f : Fld} {i j b : Nat}
    (hpage : ∀ r ∈ mainPages ++ [(0x40, 0x58)], f.blk.page i < r.1 ∨ r.2 ≤ f.blk.page i) (h : shutDownApart_T.all (clear f) = true) :
    (s.shutDown c vin rails).rd f i j b = s.rd f i j b := by
  have apart : ∀ {L : List Piece}, L ⊆ shutDownApart_T → L.all (clear f) = true := fun hsub => all_clear_of_subset h hsub
  have hd := hpage (0x40, 0x58) (by decide)
  unfold State.shutDown
  extract_lets s1 s2
  have h1 : s1.rd f i j b = s.rd f i j b := by
    simp only [s1]
    split
    · exact rd_clear (faultAssert_frame Frame.refl Cov.refl) (apart (by decide))
    · rfl
  clear_value s1
  have h2 : s2.rd f i j b = s.rd f i j b := by
    simp only [s2]
    rw [displayReset_rd (by omega) (apart (by decide)), mainReset_rd hpage (apart (by decide)), h1]
  clear_value s2
  exact (rd_mk rfl).trans h2

theorem shutDown_counter {c vin rails : Nat} {k : Blk} {i j : Nat}
    (hpage : ∀ r ∈ mainPages ++ [(0x40, 0x58)], k.page i < r.1 ∨ r.2 ≤ k.page i) (hk : k ≠ .enc ∧ k ≠ .basin ∧ k ≠ .safe) :
    (s.shutDown c vin rails).counter k i j = s.counter k i j := by
  have hd := hpage (0x40, 0x58) (by decide)
  have hassert : s.faultAssert.counter k i j = s.counter k i j :=
    (faultAssert_frame Frame.refl Cov.refl).ctr k i j (by simp [faultAssert_T, hk.2.2]) (by decide)
  have hif : (if s.on SAFE.ISL_STAT.fw_running then s.faultAssert else s).counter k i j = s.counter k i j := by
    split
    · exact hassert
    · rfl
  unfold State.shutDown
  rw [State.counter]
  dsimp only
  exact (displayReset_counter (by omega) hk.2.1).trans ((mainReset_counter hpage hk).trans hif)

/-- A shutdown resets the main domain under its cause. -/
theorem shutDown_main_cause {c vin rails : Nat} : (s.shutDown c vin rails).rd BOOT.RST_CAUSE.main_cause = c % 16 := by
  unfold State.shutDown
  extract_lets s1 s2
  have h2 : s2.rd BOOT.RST_CAUSE.main_cause = c % 16 := by
    simp only [s2]
    rw [displayReset_rd (by decide) (by decide), mainReset_main_cause]
  clear_value s2
  exact (rd_mk rfl).trans h2

/-- A voltage command counts beside the warnings of temperature. -/
theorem railTo_counter {n mv : Nat} (hn : n < 4) : (s.railTo n mv).counter .pwr 0 13 = s.counter .pwr 0 13 := by
  have ne : ∀ {m : Nat}, m < 13 → ctrKey (Blk.pwr.page 0) m ≠ ctrKey (Blk.pwr.page 0) 13 := by
    intro m hm
    unfold ctrKey
    omega
  unfold State.railTo
  dsimp only
  rw [counter_count_ne (ne (by omega)), counter_wr, counter_wr, counter_wr]
  split
  · exact counter_count_ne (ne (by omega))
  · rfl

theorem railTo_mainUp {n mv : Nat} : (s.railTo n mv).pwr.mainUp = s.pwr.mainUp := by
  unfold State.railTo
  dsimp only
  split <;> simp only [wr_pwr, count_pwr]

/-! ### Lost references and locks -/

theorem faultInsert_length {g : FaultSig} : ∀ {l : List FaultSig}, (faultInsert g l).length = l.length + 1
  | [] => rfl
  | x :: l => by
    unfold faultInsert
    split
    · rfl
    · rw [List.length_cons, List.length_cons, faultInsert_length]

/-- The safety fault line takes one signal more. -/
theorem faultLine_length {code i heads : Nat} {k : Blk} : (s.faultLine code k i heads).faults.length = s.faults.length + 1 := faultInsert_length

theorem faultLine_rd {code i heads i' j b : Nat} {k : Blk} {f : Fld} : (s.faultLine code k i heads).rd f i' j b = s.rd f i' j b := rfl

end

/-! ### The obligation -/

/-- Settles O9: what a sample shows outlasts the shutdown it leads to, and each clock event shows where the spec names it. -/
theorem temperatureAndClocks : Obligations.TemperatureAndClocks := by
  unfold Obligations.TemperatureAndClocks
  refine ⟨?sample, ?shutdown, ?off, ?restart, ?ref, ?unlock, ?relock, ?xtal, ?wfi, ?halt⟩
  case sample =>
    intro s temps
    have keeps : ∀ {t : State}, t = s.tempSample temps → t.rd PWR.TEMP_MAX.temp = (tempShown s temps.toList).rd PWR.TEMP_MAX.temp ∧
        t.rd PWR.TEMP_MAX.sensor = (tempShown s temps.toList).rd PWR.TEMP_MAX.sensor ∧
        t.rd (HDR.ev_raw .pwr) = (tempShown s temps.toList).rd (HDR.ev_raw .pwr) ∧
        t.counter .pwr 0 13 = (tempShown s temps.toList).counter .pwr 0 13 := by
      rintro t rfl
      rw [tempSample_eq]
      generalize tempShown s temps.toList = u
      have hpage : ∀ r ∈ mainPages ++ [(0x40, 0x58)], Blk.pwr.page 0 < r.1 ∨ r.2 ≤ Blk.pwr.page 0 := by decide
      split
      · split
        · exact ⟨rfl, rfl, rfl, rfl⟩
        · rw [heldHot_rd (by decide), heldHot_rd (by decide), heldHot_rd (by decide), heldHot_counter (by decide), shutDown_rd hpage (by decide),
            shutDown_rd hpage (by decide), shutDown_rd hpage (by decide), shutDown_counter hpage (by decide)]
          exact ⟨rfl, rfl, rfl, rfl⟩
      · split
        · have hrails : ∀ {f : Fld}, (f.off + f.stride * 0) % 4096 < 0x150 ∨ 0x160 ≤ (f.off + f.stride * 0) % 4096 →
              (((u.mainReset 9).railTo 0 0).railTo 1 0).rd f = (u.mainReset 9).rd f := fun h =>
            (railTo_rd (by decide) h).trans (railTo_rd (by decide) h)
          rw [heldHot_rd (by decide), heldHot_rd (by decide), heldHot_rd (by decide), heldHot_counter (by decide), hrails (by decide),
            hrails (by decide), hrails (by decide), mainReset_rd hpage (by decide), mainReset_rd hpage (by decide), mainReset_rd hpage (by decide),
            railTo_counter (by decide), railTo_counter (by decide), mainReset_counter hpage (by decide)]
          exact ⟨rfl, rfl, rfl, rfl⟩
        · exact ⟨rfl, rfl, rfl, rfl⟩
    obtain ⟨htemp, hsensor, hev, hctr⟩ := keeps rfl
    refine ⟨s.tempSample temps, rfl, htemp.trans tempShown_temp.1, hsensor.trans tempShown_temp.2, fun hrise => ?_⟩
    rw [hev, hctr]
    exact tempShown_warn hrise
  case shutdown =>
    intro s temps hbetween hcool
    obtain ⟨hvariant, hpwr⟩ := tempShown_rest (s := s) (temps := temps.toList)
    have heq : s.tempSample temps = heldHot ((((tempShown s temps.toList).mainReset 9).railTo 0 0).railTo 1 0) := by
      rw [tempSample_eq, if_neg (by rw [hvariant]; omega), if_pos]
      rw [hvariant, hpwr, hcool]
      exact ⟨hbetween.1, rfl⟩
    refine ⟨s.tempSample temps, rfl, ?_⟩
    rw [heq]
    refine ⟨heldHot_hot, ?_, ?_⟩
    · rw [heldHot_rd (by decide), rd_clear (railTo_frame Frame.refl Cov.refl) (by decide), rd_clear (railTo_frame Frame.refl Cov.refl) (by decide),
        mainReset_main_cause]
    · rw [heldHot_rest.1, railTo_mainUp, railTo_mainUp, mainReset_mainUp]
  case off =>
    intro s temps habove hcool
    obtain ⟨hvariant, hpwr⟩ := tempShown_rest (s := s) (temps := temps.toList)
    have heq : s.tempSample temps = heldHot ((tempShown s temps.toList).shutDown 9 (tempShown s temps.toList).pwr.vin 2) := by
      rw [tempSample_eq, if_pos (by rw [hvariant]; exact habove), if_neg]
      rw [hpwr, hcool]
      exact fun h => Bool.false_ne_true h.1
    obtain ⟨-, hrails, hgood, -⟩ := shutDown_outputs (s := tempShown s temps.toList) (c := 9) (vin := (tempShown s temps.toList).pwr.vin) (rails := 2)
    refine ⟨s.tempSample temps, rfl, ?_⟩
    rw [heq]
    refine ⟨heldHot_hot, ?_, ?_, ?_, ?_⟩
    · rw [heldHot_rd (by decide), shutDown_main_cause]
    · rw [heldHot_rd (by decide), shutDown_display_cause]
    · rw [heldHot_rest.2.1]
      exact hrails
    · rw [heldHot_rest.2.2]
      exact hgood
  case restart => exact fun s hhot htemp => congrArg Host.Outcome.next (if_pos ⟨hhot, htemp⟩)
  case ref =>
    intro s hosc hrun
    refine ⟨_, congrArg Host.Outcome.next (if_neg ?_), ?_, ?_, ?_, ?_⟩
    · rw [hosc]
      rintro (h | h)
      · exact absurd h (by decide)
      · omega
    · rw [(faultLine_frame Frame.refl Cov.refl).pwr (by decide), raise_pwr, count_pwr, recErr_pwr]
    · rw [faultLine_rd]
      exact raise_bit (by decide)
    · rw [(faultLine_frame Frame.refl Cov.refl).ctr .clk 0 24 (by decide) (by decide), counter_raise, counter_count_same, counter_recErr]
      rfl
    · rw [faultLine_length, raise_faults, count_faults, recErr_faults]
  case unlock =>
    intro s k hlock
    have hon : s.on CLK.PLL_STAT.lock 0 k.val = true := on_eq_true_iff.2 (by rw [hlock]; decide)
    have hbody : 0x30 ≤ (CLK.PLL_STAT.lock.off + CLK.PLL_STAT.lock.stride * k.val) % 4096 := by
      change 0x30 ≤ (0x140 + 4 * k.val) % 4096
      omega
    refine ⟨_, congrArg Host.Outcome.next (if_neg (by rw [hon]; decide)), ?_, fun hk => ?_, ?_, ?_, ?_⟩
    · rw [faultLine_rd, raise_rd_body hbody, rd_count, recErr_rd_body hbody]
      split
      · rw [rd_wr_sep (by decide), rd_wr_same]
        rfl
      · rw [rd_wr_same]
        rfl
    · rw [faultLine_rd, raise_rd_sep (by decide), rd_count, recErr_rd_clear (by decide), if_pos hk, rd_wr_same]
      rfl
    · rw [faultLine_rd]
      exact raise_bit (by decide)
    · rw [(faultLine_frame Frame.refl Cov.refl).ctr _ _ _ (by decide) (by decide), counter_raise, counter_count_same, counter_recErr]
      split <;> simp only [counter_wr]
    · rw [faultLine_length, raise_faults, count_faults, recErr_faults]
      split <;> simp only [wr_faults]
  case relock =>
    intro s k hlock hen hosc
    have hoff : s.on CLK.PLL_STAT.lock 0 k.val = false := on_eq_false_iff.2 hlock
    have hon : s.on CLK.PLL_STAT.enabled 0 k.val = true := on_eq_true_iff.2 (by rw [hen]; decide)
    refine ⟨_, congrArg Host.Outcome.next (if_pos (by rw [hoff, hon, hosc]; decide)), ?_, fun hk => ?_⟩
    · dsimp only
      split
      · rw [rd_wr_sep (by decide), rd_wr_same]
        rfl
      · rw [rd_wr_same]
        rfl
    · dsimp only
      rw [if_pos hk, rd_wr_same]
      rfl
  case xtal =>
    intro s hx
    refine ⟨_, congrArg Host.Outcome.next (if_pos hx), ?_, raise_bit (by decide)⟩
    rw [raise_pwr]
  case wfi =>
    intro s h
    refine ⟨_, rfl, ?_⟩
    exact mget_mset_same
  case halt =>
    intro s h b
    refine ⟨_, rfl, ?_⟩
    exact mget_mset_same

end Sys2Proof.Proofs

/-! Flash operations, the revocation of keys and the stages of boot (R68, R79 to R81). -/

namespace Sys2Proof.Proofs

open Machine Laws

section

variable {s : State}

/-! ### Flash operations -/

/-- An operation that nothing forbids starts. -/
theorem flOp_started {w : Who} {v : Nat} (h : accepts s w .boot 0 0x128 v = true) (hop : v % 4 ≠ 0) (hidle : s.pwr.flOp = 0)
    (halign : (v % 4 = 2 → s.rd BOOT.FL_ADDR.addr % 256 = 0) ∧ (v % 4 = 3 → s.rd BOOT.FL_ADDR.addr % 65536 = 0))
    (hactive : v % 4 ≠ 1 → s.flActive (s.rd BOOT.FL_ADDR.addr) = false) :
    (s.flOp w v).rd BOOT.FL_OP.busy = 1 ∧ (s.flOp w v).pwr.flOp = v % 4 ∧ (s.flOp w v).pwr.flAddr = s.rd BOOT.FL_ADDR.addr := by
  have h1 : ¬ s.okResp.pwr.flOp ≠ 0 := not_not_intro hidle
  have h2 : ¬ ((v % 4 = 2 ∧ s.okResp.rd BOOT.FL_ADDR.addr % 256 ≠ 0) ∨ (v % 4 = 3 ∧ s.okResp.rd BOOT.FL_ADDR.addr % 65536 ≠ 0)) := by
    rintro (⟨h, k⟩ | ⟨h, k⟩)
    · exact k (halign.1 h)
    · exact k (halign.2 h)
  have h3 : ¬ (v % 4 ≠ 1 ∧ s.okResp.flActive (s.okResp.rd BOOT.FL_ADDR.addr) = true) := fun ⟨h, k⟩ =>
    Bool.false_ne_true ((hactive h).symm.trans k)
  unfold State.flOp
  rw [onWrite_accepted h (by decide)]
  dsimp only
  rw [if_neg hop, if_neg h1, if_neg h2, if_neg h3]
  exact ⟨rd_wr_same, by rw [wr_pwr], by rw [wr_pwr]; rfl⟩

/-- The end of an erase. -/
theorem flDone_erase {a : Nat} (hop : s.pwr.flOp = 3) (ha : s.pwr.flAddr ≤ a ∧ a < s.pwr.flAddr + 65536) :
    (s.flDone true).rd BOOT.FL_OP.busy = 0 ∧ (s.flDone true).pwr.flOp = 0 ∧ (s.flDone true).flashAt a = 0xFF := by
  unfold State.flDone State.flashAt
  rw [hop]
  dsimp only
  rw [if_neg (by decide), if_pos rfl, if_neg (by decide), if_neg (by decide)]
  refine ⟨?_, ?_, ?_⟩
  · rw [raise_rd_sep (by decide), rd_wr_same]
    rfl
  · rw [raise_pwr, wr_pwr]
  · rw [raise_flash, wr_flash]
    exact mget_mdrop_in ha

/-- A word of KEY_REVOKE that does not name the slot in use revokes its slots. -/
theorem keyRevoke_revoked {w : Who} {v : Nat} (h : accepts s w .boot 0 0x120 v = true) (hslot : bit v (s.rd BOOT.BOOT_STAT.key_slot) = false) :
    (s.keyRevoke w v).otpAt 0x3FFC = s.otpAt 0x3FFC ||| BitVec.ofNat 8 (v % 16) ∧ (s.keyRevoke w v).resp.ok = true := by
  have hslot : ¬ bit v (s.okResp.rd BOOT.BOOT_STAT.key_slot) = true := fun k => Bool.false_ne_true (hslot.symm.trans k)
  unfold State.keyRevoke
  rw [onWrite_accepted h (by decide), if_neg hslot]
  exact ⟨mget_mset_same, rfl⟩

/-! ### The main stage -/

theorem railRun_mainUp {n : Nat} : (s.railRun n).pwr.mainUp = s.pwr.mainUp := by
  unfold State.railRun
  split
  · rfl
  · rw [(railAck_frame Frame.refl Cov.refl).pwr (by decide), railTo_mainUp]

theorem clocksStart_mainUp : s.clocksStart.pwr.mainUp = s.pwr.mainUp := by
  unfold State.clocksStart
  dsimp only
  refine (congrArg PwrSt.mainUp (foldl_same (fun t : State => t.pwr) fun t h => ?_)).trans
    (congrArg PwrSt.mainUp (foldl_same (fun t : State => t.pwr) fun t k => ?_))
  · split <;> simp only [wr_pwr]
  · split <;> simp only [wr_pwr]

theorem loadManager_mainUp {c : Nat} : (s.loadManager c).pwr.mainUp = s.pwr.mainUp := by
  have hbytes : ∀ {a : Nat} {d : List Byte}, (s.wrBytes a d).pwr = s.pwr := (wrBytes_frame Frame.refl Cov.refl).pwr (by decide)
  unfold State.loadManager
  dsimp only
  split
  · rw [hbytes]
  · rw [wr_pwr, hbytes]

/-- Reaching Run changes of PWR's working state what an entry had stopped. -/
theorem toRun_pwr : s.toRun.pwr.mainUp = s.pwr.mainUp ∧ s.toRun.pwr.entry = s.pwr.entry := by
  have hstep : (s.pwrStep 0 0 0).pwr.mainUp = s.pwr.mainUp ∧ (s.pwrStep 0 0 0).pwr.entry = s.pwr.entry := by
    simp only [State.pwrStep, wr_pwr, and_self]
  have noted : ∀ {l : List Nat} {t : State}, (l.foldl (fun (t : State) n => (t.wakeNote n).count .pwr 0 4) t).pwr = t.pwr := fun {_ _} =>
    foldl_same (fun t : State => t.pwr) fun t n => by rw [count_pwr, (wakeNote_frame Frame.refl Cov.refl).pwr (by decide)]
  unfold State.toRun
  extract_lets l s1 s2 p s3
  have h2 : s2.pwr = s1.pwr := by
    simp only [s2]
    split
    · rfl
    · rw [wr_pwr, noted]
  have h3 : s3.pwr.mainUp = s.pwr.mainUp ∧ s3.pwr.entry = s.pwr.entry := by
    simp only [s3, p]
    rw [h2]
    exact hstep
  clear_value s3
  rw [(hvSync_frame Frame.refl Cov.refl).pwr (by decide)]
  split
  · rw [raise_pwr]
    exact h3
  · exact h3

/-- At the end of the main stage the main domain is up. -/
theorem mainBoot_mainUp {ea eb : Bool} {pass : Vector (BitVec 4) 8} {delay : Vector (BitVec 6) 8} :
    (s.mainBoot ea eb pass delay).pwr.mainUp = true := by
  unfold State.mainBoot
  extract_lets s0 s1 s2 p s3 s4 s5 both s6 s7 s8
  clear_value s8
  rcases s8.train pass delay with ⟨s9, ok⟩
  dsimp -zeta only
  extract_lets pins9 pwr9 s10 s11 s12 s13
  have h11 : s11.pwr.mainUp = true := by
    simp only [s11]
    rw [(headPlls_frame Frame.refl Cov.refl).pwr (by decide), clocksStart_mainUp]
    exact foldl_same (fun t : State => t.pwr.mainUp) fun t n => railRun_mainUp
  clear_value s11
  have h13 : s13.pwr.mainUp = true := by
    have h12 : s12.pwr.mainUp = true := by
      simp only [s12, wr_pwr]
      exact h11
    clear_value s12
    simp only [s13]
    split
    · split
      · rw [loadManager_mainUp, h12]
      · exact h12
    · exact h12
  clear_value s13
  split
  · rw [wr_pwr, h13]
  · rw [toRun_pwr.1, wr_pwr, h13]

/-! ### The safety stage -/

/-- The level of a display enable or backlight leaves the SAFE bank's drive. -/
theorem showBl_safeHiZ {n : Nat} : (s.showBl n).pins.safeHiZ = s.pins.safeHiZ := by
  unfold State.showBl
  dsimp only
  split <;> rfl

theorem setDispen_safeHiZ {n : Nat} {v : Bool} : (s.setDispen n v).pins.safeHiZ = s.pins.safeHiZ := rfl

theorem linkPins_safeHiZ : s.linkPins.pins.safeHiZ = s.pins.safeHiZ :=
  foldl_same (fun t : State => t.pins.safeHiZ) fun _ _ => showBl_safeHiZ.trans setDispen_safeHiZ

/-- After its stage the SAFE bank drives its outputs again. -/
theorem safetyBoot_safeHiZ : s.safetyBoot.pins.safeHiZ = false := by
  unfold State.safetyBoot
  extract_lets s1 pins1 pwr1 safe1 s2 s3
  have h3 : s3.pins.safeHiZ = false := by
    have h2 : s2.pins.safeHiZ = false := rfl
    clear_value s2
    simp only [s3]
    split
    · unfold State.loadSafety
      rw [wr_pins]
      exact h2
    · exact h2
  clear_value s3
  have hamp : ∀ {t : State}, t.ampPins.pins.safeHiZ = t.pins.safeHiZ := rfl
  rw [hamp, linkPins_safeHiZ, h3]

end

/-! ### The obligation -/

/-- Settles O3: a flash operation by its write and its end, a stage of boot by the domain it leaves up. -/
theorem flashAndBootStages : Obligations.FlashAndBootStages := by
  unfold Obligations.FlashAndBootStages
  refine ⟨?read, ?program, ?erase, fun s a hop ha => ⟨_, rfl, flDone_erase hop ha⟩, fun s w v h hslot => ⟨_, rfl, keyRevoke_revoked h hslot⟩,
    ?boot, ?release, ?safety, ?display⟩
  case read =>
    exact fun s w h hidle => ⟨_, rfl, flOp_started h (by decide) hidle ⟨fun e => absurd e (by decide), fun e => absurd e (by decide)⟩
      fun e => absurd rfl e⟩
  case program =>
    exact fun s w h hidle halign hactive => ⟨_, rfl, flOp_started h (by decide) hidle ⟨fun _ => halign, fun e => absurd e (by decide)⟩
      fun _ => hactive⟩
  case erase =>
    exact fun s w h hidle halign hactive => ⟨_, rfl, flOp_started h (by decide) hidle ⟨fun e => absurd e (by decide), fun _ => halign⟩
      fun _ => hactive⟩
  case boot => exact fun s ea eb pass delay h => ⟨_, congrArg Host.Outcome.next (if_pos h), mainBoot_mainUp⟩
  case release =>
    intro s pc hentry hup
    refine ⟨({ s.startHart pc with pwr := { (s.startHart pc).pwr with entry := none, priv := false } } : State).toRun, ?_, ?_, ?_, toRun_state⟩
    · change execManagerRelease s = _
      unfold execManagerRelease
      rw [hentry]
      exact congrArg Host.Outcome.next (if_pos hup)
    · rw [toRun_pwr.2]
    · rw [(toRun_frame Frame.refl Cov.refl).world (by decide)]
      exact startHart_pc
  case safety =>
    intro s hdown hpicked hhiz hreset hrails huse
    refine ⟨?_, safetyBoot_safeHiZ⟩
    change execSafetyDomainBoot false s = _
    unfold execSafetyDomainBoot State.safetyDomainBoot
    rw [if_neg, huse]
    rintro (h | h | h | h | h)
    · exact Bool.false_ne_true (hdown.symm.trans h)
    · rw [hpicked] at h
      exact absurd h (by decide)
    · rw [hhiz] at h
      exact absurd h (by decide)
    · rw [hreset] at h
      exact absurd h (by decide)
    · omega
  case display =>
    intro s hdown hup hpicked
    refine ⟨congrArg Host.Outcome.next (if_pos (by rw [hdown, hup, hpicked]; rfl)), rfl⟩

end Sys2Proof.Proofs

/-! DRAM byte by byte: what a read finds after a write, of the same bytes and of others (R5). -/

namespace Sys2Proof.Proofs

open Machine Laws

section

variable {s t : State} {a n : Nat} {d : List Byte} {q : Req}

/-! ### Values in little-endian order -/

@[simp] theorem length_leBytes {v : Nat} : (leBytes n v).length = n := by
  induction n generalizing v with
  | zero => rfl
  | succ n ih => exact congrArg (· + 1) ih

/-- The bytes of a value give it back, as far as they reach. -/
theorem leVal_leBytes {v : Nat} : leVal (leBytes n v) = v % 256 ^ n := by
  induction n generalizing v with
  | zero => exact (Nat.mod_one v).symm
  | succ n ih =>
    have hpow : 256 ^ (n + 1) = 2 ^ 8 * 256 ^ n := Nat.pow_succ'
    rw [leBytes, leVal, ih, BitVec.toNat_ofNat, hpow]
    exact Nat.mod_mul.symm

theorem leVal_lt : leVal d < 256 ^ d.length := by
  induction d with
  | nil => exact Nat.one_pos
  | cons v d ih =>
    have := v.isLt
    rw [leVal, List.length_cons, Nat.pow_succ']
    omega

/-! ### Bytes -/

theorem byteAt_congr (hd : t.dram = s.dram) (hv : t.variant = s.variant) : t.byteAt a = s.byteAt a := by
  unfold State.byteAt
  rw [hd, hv]

theorem rdBytes_congr (hd : t.dram = s.dram) (hv : t.variant = s.variant) : t.rdBytes a n = s.rdBytes a n := by
  unfold State.rdBytes State.byteAt
  rw [hd, hv]

theorem rdMem_congr (hd : t.dram = s.dram) (hv : t.variant = s.variant) : t.rdMem a n = s.rdMem a n :=
  congrArg leVal (rdBytes_congr hd hv)

@[simp] theorem byteAt_setByte_same {v : Byte} : (s.setByte a v).byteAt a = v := mget_mset_same

theorem byteAt_setByte_ne {v : Byte} {x : Nat} (h : a ≠ x) : (s.setByte a v).byteAt x = s.byteAt x := mget_mset_ne h

/-- A write of bytes leaves those before and beyond them. -/
theorem byteAt_wrBytes_out {x : Nat} (h : x < a ∨ a + d.length ≤ x) : (s.wrBytes a d).byteAt x = s.byteAt x := by
  induction d generalizing s a with
  | nil => rfl
  | cons v d ih =>
    rw [List.length_cons] at h
    rw [State.wrBytes, ih (by omega), byteAt_setByte_ne (by omega)]

/-- Byte k of those written is found where it was put. -/
theorem byteAt_wrBytes_in {k : Nat} (h : k < d.length) : (s.wrBytes a d).byteAt (a + k) = d[k] := by
  induction d generalizing s a k with
  | nil => exact absurd h (Nat.not_lt_zero _)
  | cons v d ih =>
    rw [State.wrBytes]
    cases k with
    | zero => exact (byteAt_wrBytes_out (.inl (Nat.lt_succ_self a))).trans byteAt_setByte_same
    | succ k =>
      rw [← Nat.add_assoc, Nat.add_right_comm, ih (Nat.lt_of_succ_lt_succ h), List.getElem_cons_succ]

/-- Bytes written are read back. -/
theorem rdBytes_wrBytes_same : (s.wrBytes a d).rdBytes a d.length = d := by
  refine List.ext_getElem (by simp [State.rdBytes]) fun k h1 h2 => ?_
  simp only [State.rdBytes, List.getElem_map, List.getElem_range]
  exact byteAt_wrBytes_in h2

theorem rdBytes_wrBytes_out (h : a + d.length ≤ n ∨ n + m ≤ a) : (s.wrBytes a d).rdBytes n m = s.rdBytes n m := by
  refine List.map_congr_left fun k hk => byteAt_wrBytes_out ?_
  have := List.mem_range.1 hk
  omega

theorem rdMem_wrBytes_out (h : a + d.length ≤ n ∨ n + m ≤ a) : (s.wrBytes a d).rdMem n m = s.rdMem n m :=
  congrArg leVal (rdBytes_wrBytes_out h)

/-- A value written is read back. -/
theorem rdMem_wrMem_same {v : Nat} : (s.wrMem a n v).rdMem a n = v % 256 ^ n := by
  have h : (s.wrBytes a (leBytes n v)).rdBytes a n = leBytes n v := by
    have := rdBytes_wrBytes_same (s := s) (a := a) (d := leBytes n v)
    rwa [length_leBytes] at this
  unfold State.rdMem State.wrMem
  rw [h, leVal_leBytes]

/-! ### Stores of engines -/

theorem store_dram : (s.store a d).dram = (s.wrBytes a d).dram := (clearPoison_frame Frame.refl Cov.refl).dram (by decide)

theorem store_variant : (s.store a d).variant = s.variant :=
  (clearPoison_frame (wrBytes_frame (Frame.refl (L := [.dram, .mem])) (.of_subset (by decide))) (.of_subset (by decide))).variant

theorem wrBytes_variant : (s.wrBytes a d).variant = s.variant := (wrBytes_frame Frame.refl Cov.refl).variant

theorem put_dram : (s.put q a d).dram = (s.wrBytes a d).dram := ((carry_frame Frame.refl Cov.refl).dram (by decide)).trans store_dram

theorem put_variant : (s.put q a d).variant = s.variant := (carry_frame Frame.refl Cov.refl).variant.trans store_variant

theorem rdBytes_put {x m : Nat} : (s.put q a d).rdBytes x m = (s.wrBytes a d).rdBytes x m :=
  rdBytes_congr put_dram (put_variant.trans wrBytes_variant.symm)

theorem rdMem_put {x m : Nat} : (s.put q a d).rdMem x m = (s.wrBytes a d).rdMem x m := congrArg leVal rdBytes_put

/-- A value an engine puts is read back. -/
theorem rdMem_put_same {v : Nat} : (s.put q a (leBytes n v)).rdMem a n = v % 256 ^ n := rdMem_put.trans rdMem_wrMem_same

end

end Sys2Proof.Proofs

/-! The check of the page owner table (R111), and entries to and exits from vales (R137 to R143). -/

namespace Sys2Proof.Proofs

open Machine Laws

/-! ### The page owner table -/

section

variable {s : State} {q : Req} {write : Bool} {p : Nat}

theorem pageCheck_dev (h : q.dev = true) : s.pageCheck q write p = none ↔ bit (s.seenEntry q.port p) 15 = true := by
  unfold State.pageCheck
  rw [if_pos h]
  split
  · next hsys => exact ⟨fun _ => hsys, fun _ => rfl⟩
  · next hsys => exact ⟨nofun, fun k => absurd k hsys⟩

/-- For any other requester the conditions of R111 are met one by one. -/
theorem pageCheck_requester (h : q.dev = false) : s.pageCheck q write p = none ↔
    (bit (s.seenEntry q.port p) 15 = false ∨ (q.id = 0xFE ∧ q.hart = true ∧ write = false)) ∧ q.id ≠ 0xFF ∧
      (q.id = s.seenEntry q.port p % 256 ∨ (write = false ∧ bits (s.seenEntry q.port p) 8 4 ≠ 0 ∧
        s.shareMember q (bits (s.seenEntry q.port p) 8 4) = true)) ∧
      (bit (s.seenEntry q.port p) 13 = false ∨ q.hart = true) ∧ bit (s.seenEntry q.port p) 14 = false := by
  have refused : ∀ {c : Prop} [Decidable c] {n : Nat} {o : Option Nat}, (if c then some n else o) = none ↔ ¬ c ∧ o = none := by
    intro c _ n o
    split
    · next hc => exact ⟨nofun, fun k => absurd hc k.1⟩
    · next hc => exact ⟨fun k => ⟨hc, k⟩, fun k => k.2⟩
  unfold State.pageCheck
  dsimp only
  rw [if_neg (by rw [h]; decide), refused, refused, refused, refused, refused]
  generalize bit (s.seenEntry q.port p) 15 = sys
  generalize bit (s.seenEntry q.port p) 13 = cpu
  generalize bit (s.seenEntry q.port p) 14 = scrub
  generalize s.shareMember q (bits (s.seenEntry q.port p) 8 4) = member
  refine and_congr ?_ (and_congr Iff.rfl (and_congr ?_ (and_congr ?_ ?_)))
  · cases sys <;> cases q.hart <;> cases write <;> simp
  · cases write <;> simp [Decidable.or_iff_not_imp_left]
  · cases cpu <;> simp
  · cases scrub <;> simp

end

/-- Settles O17: the check passes exactly where none of its refusals applies. -/
theorem pageOwnerCheck : Obligations.PageOwnerCheck := by
  unfold Obligations.PageOwnerCheck
  exact ⟨fun s q write p h => pageCheck_requester h, fun s q write p h => pageCheck_dev h⟩

/-! ### Harts -/

section

variable {s : State} {h v frame : Nat} {c : Hart}

/-- A hart that something executes on is as set, and not in WFI. -/
theorem hart_setHart : (s.setHart h c).hart h = { c with wfi := false } := mget_mset_same

theorem hart_congr {t : State} (hw : t.world = s.world) : t.hart h = s.hart h := by
  unfold State.hart
  rw [hw]

/-- A frame's state word is read back. -/
theorem rdMem_setFrame {st : Nat} : (s.setFrame h v frame st).rdMem frame 4 = st % 256 ^ 4 := rdMem_put_same

theorem rdMem_setHart {a n : Nat} : (s.setHart h c).rdMem a n = s.rdMem a n := rfl

theorem rdMem_leaveVale {a n j m : Nat} : ((s.leaveVale v).count .world 0 j m).rdMem a n = s.rdMem a n := by
  refine rdMem_congr ?_ ?_
  · unfold State.leaveVale
    rw [count_dram, wr_dram]
  · unfold State.leaveVale
    rw [count_variant, wr_variant]

/-! ### PASS.ENTER -/

/-- A PASS fault shows its subcode and raises cause 24, in the world the hart is in. -/
theorem passFault_shown {virt : Bool} {pc code : Nat} : ((s.passFault h virt pc code).hart h).vale = (s.hart h).vale ∧
    ((s.passFault h virt pc code).hart h).cause = code ∧
    ((s.passFault h virt pc code).hart h).trap = (s.hart h).trapFrom virt false 24 0 0 pc ∧ (s.passFault h virt pc code).dram = s.dram := by
  unfold State.passFault
  rw [hart_setHart]
  exact ⟨rfl, rfl, rfl, rfl⟩

/-- What a fresh entry leaves. -/
theorem passEnterGo_fresh {r1 r2 frameVa entry : Nat} {ctx : HartRegs} :
    ((s.passEnterGo h r1 r2 ctx v frame frameVa entry 0).hart h).vale = some v ∧
    ((s.passEnterGo h r1 r2 ctx v frame frameVa entry 0).hart h).regs.pc = entry ∧
    ((s.passEnterGo h r1 r2 ctx v frame frameVa entry 0).hart h).frame = frame ∧
    ((s.passEnterGo h r1 r2 ctx v frame frameVa entry 0).hart h).enterPc = ctx.pc ∧
    (s.passEnterGo h r1 r2 ctx v frame frameVa entry 0).rdMem frame 4 = 1 ∧
    (s.passEnterGo h r1 r2 ctx v frame frameVa entry 0).rd WORLD.VALE_STAT.inside (b := v) =
      (s.rd WORLD.VALE_STAT.inside (b := v) + 1) % 32 := by
  have hinside : ((s.setFrame h v frame 1).count .world 0 0).rd WORLD.VALE_STAT.inside (b := v) = s.rd WORLD.VALE_STAT.inside (b := v) :=
    rd_count.trans (rd_clear (put_frame Frame.refl Cov.refl) (by decide))
  have hmem : ((s.setFrame h v frame 1).count .world 0 0).rdMem frame 4 = 1 := (rdMem_congr rfl rfl).trans rdMem_setFrame
  unfold State.passEnterGo
  dsimp only
  rw [if_pos rfl]
  generalize (s.setFrame h v frame 1).count .world 0 0 = u at *
  refine ⟨?_, ?_, ?_, ?_, ?_, ?_⟩
  · rw [hart_setHart]
  · rw [hart_setHart, if_pos rfl]
  · rw [hart_setHart]
  · rw [hart_setHart]
  · rw [rdMem_setHart]
    exact (rdMem_congr (wr_dram ..) (wr_variant ..)).trans hmem
  · refine rd_with_world.trans ?_
    rw [rd_wr_same, hinside]
    rfl

/-- PASS.ENTER with every check of R139 met, on a fresh frame. -/
theorem passEnter_of_checks {m : Mode} {r1 r2 : Nat} {ctx : HartRegs} {d fp ep : Addr} {pa fr : Nat} (hout : (s.hart h).vale = none)
    (hvirt : m.virt = true) (hal : mget ctx.x r1 0 % 32 = 0) (hpa : pa = d.toNat / 32 * 32 ∧ pa < s.variant.dramTop)
    (hgate : bit (s.potEntry (pa / 4096)) 12 = true ∧ s.potEntry (pa / 4096) % 256 = 64 + v ∧ v < 64) (hdesc : s.descOk pa v = true)
    (hvale : s.rd WORLD.VALE_STAT.parent (b := v) = (s.hart h).tag ∧ s.rd WORLD.VALE_STAT.state (b := v) = 2)
    (hindex : mget ctx.x r2 0 < s.rdMem (pa + 4) 4)
    (hframe : fr = fp.toNat / 2048 * 2048 ∧ s.valePage fr v false = true ∧ s.frameOk h v fr = true ∧ s.rdMem fr 4 = 0)
    (hentry : ep.toNat < s.variant.dramTop ∧ s.potEntry (ep.toNat / 4096) % 256 = 64 + v ∧ s.rdMem ep.toNat 4 = 0x5A00700B)
    (hlines : s.lineFault false pa 32 = none ∧ s.lineFault false fr 4 = none ∧ s.lineFault false ep.toNat 4 = none) :
    s.passEnter h m r1 r2 ctx (.pa d) (.pa fp) (.pa ep) =
      s.passEnterGo h r1 r2 ctx v fr (s.rdMem (pa + 16) 8 + mget ctx.x r2 0 * 2048) (s.rdMem (pa + 8) 8) 0 := by
  obtain ⟨rfl, htop⟩ := hpa
  obtain ⟨rfl, hpage, hwrite, hidle⟩ := hframe
  obtain ⟨hbit, hown, hv⟩ := hgate
  obtain ⟨hl1, hl2, hl3⟩ := hlines
  obtain ⟨hetop, heown, heword⟩ := hentry
  have hindex' : s.potEntry (d.toNat / 32 * 32 / 4096) % 256 - 64 = v := by omega
  have howned : valeOwned (s.potEntry (d.toNat / 32 * 32 / 4096)) = true := by
    unfold valeOwned
    rw [hown]
    simp
    omega
  unfold State.passEnter
  dsimp only
  rw [if_neg (not_not_intro hout), if_neg (by rw [hvirt]; decide), if_neg (not_not_intro hal), if_neg, hl1, hindex', hdesc]
  dsimp only
  rw [if_neg (by decide), if_neg (not_not_intro hvale.1), if_neg (not_not_intro hvale.2), if_neg (Nat.not_le.2 hindex), if_neg, hidle,
    if_neg (by decide), hl2]
  dsimp only
  rw [if_neg (by decide), if_neg (by decide), if_neg, hl3]
  dsimp only
  rw [if_neg (not_not_intro heword)]
  · rintro (k | k)
    · omega
    · exact k heown
  · rw [hpage, hwrite]
    decide
  · rw [hbit, howned]
    rintro (k | k | k)
    · omega
    · exact absurd k (by decide)
    · exact absurd k (by decide)

/-! ### Exits -/

/-- PASS.RET in vale v with a frame that can be written (R141). -/
def retFrom (s : State) (h v : Nat) (ctx : HartRegs) : State :=
  (((s.setFrame h v (s.hart h).frame 0).leaveVale v).count .world 0 2).setHart h
    { s.hart h with
      vale := none
      regs := { pc := (s.hart h).enterPc + 4, x := mset (mset (keepArgs ctx) 2 (s.hart h).sp 0) 1 (s.hart h).ra 0, vcsr := ctx.vcsr } }

/-- It goes on after the ENTER with the caller's ra and sp and the frame idle. -/
theorem retFrom_shown {ctx : HartRegs} : ((retFrom s h v ctx).hart h).vale = none ∧
    ((retFrom s h v ctx).hart h).regs.pc = (s.hart h).enterPc + 4 ∧ mget ((retFrom s h v ctx).hart h).regs.x 1 0 = (s.hart h).ra ∧
    mget ((retFrom s h v ctx).hart h).regs.x 2 0 = (s.hart h).sp ∧ (retFrom s h v ctx).rdMem (s.hart h).frame 4 = 0 := by
  unfold retFrom
  rw [hart_setHart]
  refine ⟨rfl, rfl, mget_mset_same, ?_, ?_⟩
  · exact (mget_mset_ne (by decide)).trans mget_mset_same
  · exact rdMem_setHart.trans (rdMem_leaveVale.trans rdMem_setFrame)

/-- The exit of R142 with a frame that can be written. -/
theorem suspend_shown {virt i : Bool} {cause addr : Nat} {ctx : HartRegs} (hin : (s.hart h).vale = some v)
    (hok : s.frameOk h v (s.hart h).frame = true) :
    ((s.suspend h virt i cause addr ctx).hart h).vale = none ∧ ((s.suspend h virt i cause addr ctx).hart h).susp = true ∧
    ((s.suspend h virt i cause addr ctx).hart h).regs.pc = (s.hart h).enterPc ∧
    ((s.suspend h virt i cause addr ctx).hart h).trap.map (fun x => (x.target, x.interrupt, x.cause, x.epc)) =
      some ((s.hart h).target true i cause, i, cause, (s.hart h).enterPc) ∧
    (s.suspend h virt i cause addr ctx).rdMem (s.hart h).frame 4 = 2 := by
  unfold State.suspend
  dsimp only
  rw [hin]
  dsimp only
  rw [hok, if_pos rfl, hart_setHart]
  refine ⟨rfl, rfl, rfl, rfl, ?_⟩
  exact rdMem_setHart.trans (rdMem_leaveVale.trans rdMem_setFrame)

/-- The exit of R143 with a frame that can be written. -/
theorem valeFault_shown (hin : (s.hart h).vale = some v) (hok : s.frameOk h v (s.hart h).frame = true) :
    ((s.valeFault h).hart h).vale = none ∧ ((s.valeFault h).hart h).cause = 10 ∧
    ((s.valeFault h).hart h).trap = (s.hart h).trapFrom true false 24 0 0 (s.hart h).enterPc ∧
    (s.valeFault h).rdMem (s.hart h).frame 4 = 3 := by
  unfold State.valeFault
  dsimp only
  rw [hin]
  dsimp only
  rw [hok, if_pos rfl, hart_setHart]
  refine ⟨rfl, rfl, rfl, ?_⟩
  exact rdMem_setHart.trans (rdMem_leaveVale.trans rdMem_setFrame)

end

/-- Settles O15: the checks of PASS.ENTER lead to the entry, and each exit ends in its own hart and frame word. -/
theorem passEnterAndExits : Obligations.PassEnterAndExits := by
  unfold Obligations.PassEnterAndExits
  refine ⟨?enter, ?nested, ?host, ?ret, ?suspending, ?fault⟩
  case enter =>
    intro s h m r1 r2 ctx d fp ep pa v fr ⟨hout, hvirt⟩ hal hpa hgate hdesc hvale hindex hframe hentry hlines
    refine ⟨_, congrArg Host.Outcome.next
      (passEnter_of_checks hout hvirt hal hpa hgate hdesc hvale hindex hframe hentry hlines), passEnterGo_fresh⟩
  case nested =>
    intro s h m r1 r2 ctx x y z hin
    refine ⟨_, congrArg Host.Outcome.next ?_, passFault_shown⟩
    unfold State.passEnter
    exact if_pos hin
  case host =>
    intro s h m r1 r2 ctx x y z hout hvirt
    obtain ⟨hvale, hcause, htrap, hdram⟩ := passFault_shown (s := s) (h := h.val) (virt := m.virt) (pc := ctx.pc.toNat) (code := 9)
    refine ⟨s.passFault h.val m.virt ctx.pc.toNat 9, congrArg Host.Outcome.next ?_, hvale.trans hout, hcause, htrap, hdram⟩
    unfold State.passEnter
    exact (if_neg (not_not_intro hout)).trans (if_pos (by rw [hvirt]; decide))
  case ret =>
    intro s h m ctx v hin hok
    obtain ⟨hvale, hpc, hra, hsp, hword⟩ := retFrom_shown (s := s) (h := h.val) (v := v) (ctx := ctx.regs)
    refine ⟨retFrom s h.val v ctx.regs, ?_, hvale, hpc, hra, hsp, hword⟩
    change execPassRet h m ctx s = _
    unfold execPassRet
    dsimp only
    rw [hin]
    exact congrArg Host.Outcome.next (if_pos hok)
  case suspending => exact fun s h m i cause addr ctx v hin hok => ⟨_, rfl, suspend_shown hin hok⟩
  case fault => exact fun s h v hin hok => ⟨_, rfl, valeFault_shown hin hok⟩

end Sys2Proof.Proofs

/-! Heads side by side: a fold in which the step of one head counts, and what the acts of one head leave of another. -/

namespace Sys2Proof.Proofs

open Machine Laws

/-! ### A fold in which one step counts -/

/-- In a fold whose other steps keep what a relation says, the step of one member counts alone. -/
theorem foldl_focus {γ : Type} (R : γ → γ → Prop) (refl : ∀ a, R a a) (trans : ∀ {a b c}, R a b → R b c → R a c) {step : γ → Nat → γ} {h : Nat}
    {l : List Nat} {a : γ} (hother : ∀ t, ∀ k ∈ l, k ≠ h → R t (step t k)) (hn : l.Nodup) (hm : h ∈ l) :
    ∃ u, R a u ∧ R (step u h) (l.foldl step a) := by
  obtain ⟨l1, l2, rfl⟩ := List.append_of_mem hm
  have rest : ∀ (m : List Nat) (t : γ), m ⊆ l1 ++ h :: l2 → h ∉ m → R t (m.foldl step t) := by
    intro m
    induction m with
    | nil => exact fun t _ _ => refl t
    | cons k m ih =>
      intro t hs hk
      exact trans (hother t k (hs List.mem_cons_self) fun e => hk (e ▸ List.mem_cons_self))
        (ih _ (fun x hx => hs (List.mem_cons_of_mem k hx)) fun hx => hk (List.mem_cons_of_mem k hx))
  have hapart : h ∉ l1 ∧ h ∉ l2 := by
    obtain ⟨-, h2, hne⟩ := List.nodup_append.1 hn
    exact ⟨fun hx => hne h hx h List.mem_cons_self rfl, (List.nodup_cons.1 h2).1⟩
  refine ⟨l1.foldl step a, rest l1 a (fun x hx => List.mem_append_left _ hx) hapart.1, ?_⟩
  rw [List.foldl_append, List.foldl_cons]
  exact rest l2 _ (fun x hx => List.mem_append_right _ (List.mem_cons_of_mem h hx)) hapart.2

/-! ### What the acts of one head leave of another -/

/-- Head h, its registers and its counters are as they were. -/
structure KeptHead (h : Nat) (s t : State) : Prop where
  head : t.head h = s.head h
  regs : ∀ f : Fld, f.blk = .head → ∀ j b, t.rd f h j b = s.rd f h j b
  ctr : ∀ j, t.counter .head h j = s.counter .head h j
  time : t.time = s.time

section Kept

variable {s t u : State} {h k : Nat}

theorem KeptHead.refl : KeptHead h s s := ⟨rfl, fun _ _ _ _ => rfl, fun _ => rfl, rfl⟩

theorem KeptHead.trans (h1 : KeptHead h s t) (h2 : KeptHead h t u) : KeptHead h s u :=
  ⟨h2.head.trans h1.head, fun f hf j b => (h2.regs f hf j b).trans (h1.regs f hf j b), fun j => (h2.ctr j).trans (h1.ctr j), h2.time.trans h1.time⟩

theorem head_page_ne (hk : k < 8) (hh : h < 8) (hne : k ≠ h) : Blk.head.page k ≠ Blk.head.page h := by
  unfold Blk.page
  simp only [show Blk.head.count = 8 from rfl, show Blk.head.first = 0 from rfl]
  omega

theorem head_congr (e : t.heads = s.heads) : t.head h = s.head h := by
  unfold State.head
  rw [e]

theorem KeptHead.setHead {v : HeadSt} (hne : k ≠ h) (h1 : KeptHead h s t) : KeptHead h s (t.setHead k v) :=
  h1.trans ⟨mget_mset_ne hne, fun _ _ _ _ => rfl, fun _ => rfl, rfl⟩

theorem head_setHead {v : HeadSt} : (s.setHead h v).head h = v := mget_mset_same

variable (hk : k < 8) (hh : h < 8) (hne : k ≠ h)
include hk hh hne

theorem KeptHead.wr {f : Fld} {v j b : Nat} (hf : f.blk = .head) (h1 : KeptHead h s t) : KeptHead h s (t.wr f v k j b) :=
  h1.trans ⟨head_congr (wr_heads ..), fun g hg _ _ => rd_wr_page (by rw [hf, hg]; exact head_page_ne hk hh hne), fun _ => counter_wr, wr_time ..⟩

theorem KeptHead.count {j n : Nat} (h1 : KeptHead h s t) : KeptHead h s (t.count .head k j n) :=
  h1.trans ⟨rfl, fun _ _ _ _ => rd_count, fun i => counter_count_ne (by
    have := head_page_ne hk hh hne
    unfold ctrKey
    omega), rfl⟩

theorem KeptHead.raise {j : Nat} (h1 : KeptHead h s t) : KeptHead h s (t.raise .head k j) :=
  h1.trans ⟨head_congr (raise_heads ..), fun g hg _ _ => raise_rd (cell_ne_page (by rw [hg]; exact head_page_ne hk hh hne)),
    fun _ => counter_raise, raise_time ..⟩

theorem KeptHead.glitch (h1 : KeptHead h s t) : KeptHead h s (t.glitch k) := (h1.count hk hh hne).raise hk hh hne

theorem KeptHead.glMeasure (h1 : KeptHead h s t) : KeptHead h s (t.glMeasure k) := by
  unfold State.glMeasure
  extract_lets c
  split
  · exact h1.setHead hne
  extract_lets
  split
  · exact (h1.setHead hne).glitch hk hh hne
  split
  · exact (((h1.setHead hne).wr hk hh hne rfl).wr hk hh hne rfl).wr hk hh hne rfl
  · exact h1.setHead hne

theorem KeptHead.glPulse (h1 : KeptHead h s t) : KeptHead h s (t.glPulse k) := by
  unfold State.glPulse
  dsimp only
  split
  · exact h1.glMeasure hk hh hne
  split
  · split
    · exact h1.setHead hne
    · exact h1.glitch hk hh hne
  · exact h1

end Kept

end Sys2Proof.Proofs

/-! Registers of pages: words written with reserved bits, the header's registers, COMMIT and soft reset (R52 to R63). -/

namespace Sys2Proof.Proofs

open Machine Laws

/-! ### Words with reserved bits from a sender that may write no field (R52, R450) -/

/-- The safety island may write no field of FMT on a HEAD page: of its word with a reserved bit nothing is performed, and the shadows stay clean. -/
theorem writeWord_headFmt_saf : (({} : State).writeWord .saf .head 0 0x114 2).rd (HDR.dirty .head) = 0 := by decide

/-- Storing that word would mark the page dirty. -/
theorem storeWord_headFmt_dirty {u : State} : (u.storeWord .head 0 0x114 2).rd (HDR.dirty .head) = 1 := rd_wr_same

/-- Refutes O58: a word with reserved bits in a register of which the sender may write no field is recorded and not stored (R450). -/
theorem not_registerWritesAndReads : ¬ Obligations.RegisterWritesAndReads := by
  unfold Obligations.RegisterWritesAndReads
  rintro ⟨-, -, reserved, -⟩
  have stored := reserved {} .saf 0x40 .head 0 0x114 2 (by decide) (by decide) (by decide)
  have same : ({} : State).writeWord .saf .head 0 0x114 2 = (((({} : State).recErr .head 0 Code.REG_RESERVED Who.saf.rid 0x114).okResp).storeWord .head 0
      0x114 2) := Host.Outcome.next.inj stored
  have hdirty := writeWord_headFmt_saf
  rw [same, storeWord_headFmt_dirty] at hdirty
  exact absurd hdirty (by decide)

end Sys2Proof.Proofs

/-! COMMIT, its boundaries, and soft reset (R55, R61). -/

namespace Sys2Proof.Proofs

open Machine Laws

section

variable {s : State} {w : Who} {b : Blk} {i : Nat}

/-! ### Writes of COMMIT -/

/-- COMMIT takes a write on pages with shadows alone. -/
theorem shadowed_of_accepts {v : Nat} (h : accepts s w b i 0x020 v = true) : b.shadowed = true := by
  refine Decidable.byContradiction fun hb => ?_
  rw [Bool.not_eq_true] at hb
  simp [accepts, hb] at h

/-- So the write does its own work at once. -/
theorem commitWrite_of_accepts {v : Nat} (h : accepts s w b i 0x020 v = true) :
    s.commitWrite w b i v = (if bit v 0 then s.okResp.commitSet w b i else .good s.okResp).andThen
      (fun t1 => if bit v 2 then t1.revertSet b i else t1) := by
  have hb := shadowed_of_accepts h
  unfold State.commitWrite
  rw [onWrite_accepted h]
  rintro rfl
  exact absurd hb (by decide)

/-- COMMIT.commit alone. -/
theorem commitWrite_commit (h : accepts s w b i 0x020 1 = true) : s.commitWrite w b i 1 = (s.okResp.commitSet w b i).andThen id := by
  rw [commitWrite_of_accepts h, if_pos (by decide)]
  cases s.okResp.commitSet w b i <;> rfl

/-- Block indices start at the first of their type. -/
theorem first_le_of_blkOfPage {p : Nat} (h : blkOfPage p = some (b, i)) : b.first ≤ i := by
  obtain ⟨c, hc, e⟩ := Option.map_eq_some_iff.1 h
  obtain ⟨rfl, rfl⟩ := Prod.mk.inj e
  have := List.find?_some hc
  simp only [Bool.and_eq_true, decide_eq_true_eq] at this
  omega

/-! ### The staged set -/

/-- A field without a shadow is not among the active values of those with one. -/
theorem wr_act_of_ne {f : Fld} {v i j n : Nat} (h : f.acc ≠ .rws) : (s.wr f v i j n).act = s.act := by
  unfold State.wr
  rw [if_neg h]

theorem rd_with_act {f : Fld} {j n : Nat} {m : SMap Nat} (h : f.acc ≠ .rws) : ({ s with act := m } : State).rd f i j n = s.rd f i j n := by
  unfold State.rd
  rw [if_neg h, if_neg h]

/-- Staging a page's set. -/
theorem stageSet_pending : ((s.stageSet b i).wr (HDR.pending b) 1 i).rd (HDR.pending b) i = 1 ∧
    ((s.stageSet b i).wr (HDR.pending b) 1 i).rd (HDR.dirty b) i = 0 ∧
    ((s.stageSet b i).wr (HDR.pending b) 1 i).rd (HDR.commit_seq b) i = s.rd (HDR.commit_seq b) i ∧
    ((s.stageSet b i).wr (HDR.pending b) 1 i).staged = mreplace s.staged s.shadow (pageLo (b.page i)) (pageLo (b.page i + 1)) ∧
    ((s.stageSet b i).wr (HDR.pending b) 1 i).act = s.act := by
  unfold State.stageSet
  refine ⟨rd_wr_same, ?_, ?_, ?_, ?_⟩
  · rw [rd_wr_sep rfl, rd_wr_same]
    rfl
  · rw [rd_wr_sep rfl, rd_wr_sep rfl, rd_mk rfl]
  · rw [wr_staged, wr_staged]
  · rw [wr_act_of_ne (show Acc.ro ≠ Acc.rws by decide), wr_act_of_ne (show Acc.ro ≠ Acc.rws by decide)]

/-- A set becomes active: the page shows no pending set, one more in commit_seq and commit_done. -/
theorem commitDone_shown : (s.commitDone b i).rd (HDR.pending b) i = 0 ∧
    (s.commitDone b i).rd (HDR.commit_seq b) i = (s.rd (HDR.commit_seq b) i + 1) % 65536 ∧
    bit ((s.commitDone b i).rd (HDR.ev_raw b) i) 1 = true := by
  have stays : ∀ {t : State} {f : Fld}, place f 0 ≠ 0x400 → (t.raise b i 1).rd f i = t.rd f i := fun h => raise_rd_out h
  unfold State.commitDone
  extract_lets s1 s2 s3
  have h1 : s1.rd (HDR.commit_seq b) i = s.rd (HDR.commit_seq b) i := rd_mk rfl
  clear_value s1
  refine ⟨?_, ?_, raise_bit (by decide)⟩
  · rw [stays (by simp [place, HDR.pending])]
    simp only [s3, s2]
    rw [rd_wr_sep rfl, rd_wr_same]
    rfl
  · rw [stays (by simp [place, HDR.commit_seq])]
    simp only [s3, s2]
    rw [rd_wr_same, rd_wr_sep rfl, h1]
    rfl

theorem applySet_shown : (s.applySet b i).rd (HDR.pending b) i = 0 ∧
    (s.applySet b i).rd (HDR.commit_seq b) i = (s.rd (HDR.commit_seq b) i + 1) % 65536 ∧
    bit ((s.applySet b i).rd (HDR.ev_raw b) i) 1 = true := by
  have hpart : (s.applyPart b i fun _ => true).rd (HDR.commit_seq b) i = s.rd (HDR.commit_seq b) i := by
    unfold State.applyPart
    exact rd_with_act (show Acc.ro ≠ Acc.rws by decide)
  unfold State.applySet
  rw [← hpart]
  exact commitDone_shown

/-! ### Refusals and boundaries -/

/-- While a set is pending a COMMIT is refused with COMMIT_BUSY and leaves set and shadows. -/
theorem commitSet_busy (h : s.on (HDR.pending b) i = true) :
    s.commitSet w b i = .bad ((s.recErr b i Code.COMMIT_BUSY w.rid 0x020).raise b i 2) := by
  unfold State.commitSet
  rw [if_pos h]

/-- On a page whose own checks pass, and that is not a safety page, the set is staged; on a head that is off it applies at once. -/
theorem commitSet_staged (hpending : s.on (HDR.pending b) i = false) (hbad : s.commitBad w b i = none)
    (hglint : b = .glint → s.on (HDR.enable .head) i = false) (hb : b = .gfx ∨ b = .head ∨ b = .glint) :
    s.commitSet w b i = .good (if w = .boot ∨ ((b = .head ∨ b = .glint) ∧ s.headOff i) then (s.stagePage w.rid b i).applyNow b i
      else s.stagePage w.rid b i) := by
  have hgl : ¬ (w = .boot ∧ b = .glint ∧ s.on (HDR.enable .head) i = true ∧ s.glintArea i ≠ (s.head i).area) := fun h =>
    Bool.false_ne_true ((hglint h.2.1).symm.trans h.2.2.1)
  unfold State.commitSet
  rw [if_neg (by rw [hpending]; decide), if_neg hgl, hbad]
  dsimp only
  rw [if_neg (by rcases hb with rfl | rfl | rfl <;> decide)]

theorem stagePage_eq (hb : b ≠ .comp) {rid : Nat} : s.stagePage rid b i = (s.stageSet b i).wr (HDR.pending b) 1 i := by
  unfold State.stagePage
  exact if_neg hb

/-- What follows on a head that is off, or off Glint: the set applies at once. -/
theorem applyNow_shown (hb : b = .head ∨ b = .glint ∧ 6 ≤ i) (hpending : s.rd (HDR.pending b) i = 1) :
    (s.applyNow b i).rd (HDR.pending b) i = 0 ∧ (s.applyNow b i).rd (HDR.commit_seq b) i = (s.rd (HDR.commit_seq b) i + 1) % 65536 ∧
    bit ((s.applyNow b i).rd (HDR.ev_raw b) i) 1 = true := by
  have hon : s.on (HDR.pending b) i = true := on_eq_true_iff.2 (by rw [hpending]; decide)
  obtain ⟨h1, h2, h3⟩ := applySet_shown (s := s) (b := b) (i := i)
  rcases hb with rfl | ⟨rfl, hi⟩
  · have late : ∀ {u : State} {f : Fld}, (glChange_T ++ grpLeave_T).all (clear f) = true → ∀ (old : Nat × Nat × Nat × Nat) (c : Bool),
        (State.grpLeave (if c then ((u.glChange i old).count .head i 3).count .head i 4 else (u.glChange i old).count .head i 3) i).rd f i =
          u.rd f i := by
      intro u f hf old c
      rw [rd_clear (grpLeave_frame Frame.refl Cov.refl) (all_clear_of_subset hf (by decide))]
      split
      · rw [rd_count, rd_count, rd_clear (glChange_frame Frame.refl Cov.refl) (all_clear_of_subset hf (by decide))]
      · rw [rd_count, rd_clear (glChange_frame Frame.refl Cov.refl) (all_clear_of_subset hf (by decide))]
    change (s.applyHead i).rd _ i = _ ∧ (s.applyHead i).rd _ i = _ ∧ bit ((s.applyHead i).rd _ i) 1 = true
    unfold State.applyHead
    dsimp only
    rw [hon, if_neg (by decide), late (by decide), late (by decide), late (by decide)]
    exact ⟨h1, h2, h3⟩
  · change (s.applyGlint i).rd _ i = _ ∧ (s.applyGlint i).rd _ i = _ ∧ bit ((s.applyGlint i).rd _ i) 1 = true
    unfold State.applyGlint
    have hneg : ¬ (i < 6 ∨ (!s.on (HDR.pending .glint) i) = true) := by
      rw [hon]
      rintro (h | h)
      · omega
      · exact absurd h (by decide)
    rw [if_neg hneg, rd_wr_sep (by decide), rd_wr_sep (by decide),
      rd_wr_sep (by decide)]
    exact ⟨h1, h2, h3⟩

/-- Events and error records leave the active values of staged registers. -/
theorem raise_act {n : Nat} : (s.raise b i n).act = s.act := by
  have h : (HDR.ev_raw b).acc ≠ .rws := show Acc.w1c ≠ Acc.rws by decide
  exact (irqEdge_act ..).trans (wr_act_of_ne h)

theorem recErr_act {code rid addr : Nat} : (s.recErr b i code rid addr).act = s.act := by
  unfold State.recErr
  dsimp only
  rw [raise_act]
  split
  · exact wr_act_of_ne (show Acc.ro ≠ Acc.rws by decide)
  · simp [wr_act_of_ne, HDR.err_valid, HDR.err_internal, HDR.err_requester, HDR.err_count, HDR.err_code, HDR.err_addr, HDR.err_req_id]

/-- The first error a page records shows its code. -/
theorem recErr_err_code {code rid addr : Nat} (h : s.on (HDR.err_valid b) i = false) :
    (s.recErr b i code rid addr).rd (HDR.err_code b) i = code % 65536 := by
  unfold State.recErr
  dsimp only
  rw [raise_rd_out (by simp [place, HDR.err_code]), if_neg (by rw [h]; decide), rd_wr_sep (by simp [sep, HDR.err_req_id, HDR.err_code]),
    rd_wr_sep (by simp [sep, HDR.err_addr, HDR.err_code]), rd_wr_same]
  rfl

/-! ### Soft reset (R55) -/

/-- A cell of a field lies on its page, at its offset. -/
theorem inPage_key {f : Fld} {j k lo hi : Nat} (h : lo ≤ (f.off + f.stride * j) % 4096 ∧ (f.off + f.stride * j) % 4096 < hi) :
    inPage (f.blk.page i) lo hi (f.key i j k) = true := by
  obtain ⟨h1, h2⟩ := key_bounds (f := f) (i := i) (j := j) (b := k)
  have hoff : f.key i j k / 64 % 4096 = (f.off + f.stride * j) % 4096 := by
    unfold Fld.key cell
    omega
  unfold inPage
  rw [hoff, decide_eq_true h1, decide_eq_true h2, decide_eq_true h.1, decide_eq_true h.2]
  rfl

theorem inPage_key_out {f : Fld} {p j k lo hi : Nat} (h : (f.off + f.stride * j) % 4096 < lo) :
    inPage p lo hi (f.key i j k) = false := by
  have hoff : f.key i j k / 64 % 4096 = (f.off + f.stride * j) % 4096 := by
    unfold Fld.key cell
    omega
  unfold inPage
  rw [hoff, decide_eq_false (Nat.not_le.2 h), Bool.and_false, Bool.false_and]

/-- Forgotten offsets of a page read as at reset. -/
theorem mget_dropOffs_in {m : SMap Nat} {p lo hi k d : Nat} (h : inPage p lo hi k = true) : mget (dropOffs m p lo hi) k d = d := by
  unfold dropOffs
  induction m with
  | nil => rfl
  | cons e m ih =>
    rw [List.filter_cons]
    split
    · next hp =>
      refine (if_neg fun he => ?_).trans ih
      rw [he, h] at hp
      exact absurd hp (by decide)
    · exact ih

theorem mget_dropOffs_out {m : SMap Nat} {p lo hi k d : Nat} (h : inPage p lo hi k = false) : mget (dropOffs m p lo hi) k d = mget m k d :=
  mget_filter fun v => by rw [h]; rfl

/-- The registers of a page from 0x100 to 0x7FF read as at reset after its soft reset. -/
theorem softRegs_rd_in {f : Fld} {j k : Nat} (hf : 0x100 ≤ f.off + f.stride * j ∧ f.off + f.stride * j < 0x800) :
    (s.softRegs f.blk i).rd f i j k = f.rst.val s.variant i j k ∧ (s.softRegs f.blk i).rdSh f i j k = f.rst.val s.variant i j k := by
  have hoff : (f.off + f.stride * j) % 4096 = f.off + f.stride * j := by omega
  have hin := inPage_key (f := f) (i := i) (j := j) (k := k) (lo := 0x100) (hi := 0x800) (by rw [hoff]; exact hf)
  have hv : (s.discardSet f.blk i).variant = s.variant := (discardSet_frame Frame.refl Cov.refl).variant
  have header : ∀ {u : State} {g : Fld} {v : Nat}, g.off = 0x024 → g.stride = 0 → (u.wr g v i).rd f i j k = u.rd f i j k := by
    intro u g v h1 h2
    refine rd_wr_ne (key_ne fun e => ?_)
    unfold place at e
    rw [h1, h2] at e
    omega
  unfold State.softRegs
  dsimp only
  refine ⟨?_, ?_⟩
  · rw [header rfl rfl, header rfl rfl]
    unfold State.rd
    dsimp only
    rw [hv]
    split <;> exact mget_dropOffs_in hin
  · rw [rdSh_wr, rdSh_wr]
    unfold State.rdSh
    dsimp only
    rw [hv]
    exact mget_dropOffs_in hin

/-- The header's registers stay, but for pending. -/
theorem softRegs_rd_header {f : Fld} (hf : f.off < 0x100) (hst : f.stride = 0) (hgroup : sep (HDR.group b) f = true)
    (hdirty : sep (HDR.dirty b) f = true) :
    (s.softRegs b i).rd f i = (s.discardSet b i).rd f i := by
  have hout : inPage (b.page i) 0x100 0x800 (f.key i 0 0) = false := inPage_key_out (by rw [hst]; omega)
  unfold State.softRegs
  dsimp only
  rw [rd_wr_sep hdirty, rd_wr_sep hgroup]
  unfold State.rd
  dsimp only
  split <;> exact mget_dropOffs_out hout

theorem discardSet_rd {f : Fld} (h : sep (HDR.pending b) f = true) : (s.discardSet b i).rd f i = s.rd f i := by
  unfold State.discardSet
  dsimp only
  rw [rd_wr_sep h, rd_mk rfl]

theorem softRegs_ctr : (s.softRegs b i).ctr = s.ctr := by
  unfold State.softRegs State.discardSet
  dsimp only
  rw [wr_ctr, wr_ctr, wr_ctr]

/-- A soft reset of CLK or MIRROR returns its registers and leaves its header. -/
theorem softReset_plain {t : State} (hb : b = .clk ∨ b = .mirror) : ∃ x, t.softReset b i = { t.softRegs b i with safe := x } := by
  rcases hb with rfl | rfl
  · exact ⟨(t.softRegs .clk i).safe, rfl⟩
  · exact ⟨_, rfl⟩

/-- A soft reset by command of a page that has no behaviour of its own in PG_CTRL. -/
theorem exec_softReset_page {page : Fin 256} {en : Bool} (h : blkOfPage page.val = some (b, 0)) (hb : b = .clk ∨ b = .mirror) :
    exec (.softReset w page en) s = .next (s.onWrite w b 0 0x008 (if en then 3 else 2) (fun t =>
      let u := t.wr (HDR.enable b) (if en then 3 else 2)
      if bit (if en then 3 else 2) 1 then u.softReset b 0 else u)) := by
  change execSoftReset w page en s = _
  unfold execSoftReset State.headerCmd
  rw [h]
  rcases hb with rfl | rfl <;> rfl

end

/-! ### The obligation -/

/-- Settles O60: what a COMMIT, a boundary, a revert and a soft reset leave, each from the set it stages, applies or discards. -/
theorem commitAndSoftReset : Obligations.CommitAndSoftReset := by
  unfold Obligations.CommitAndSoftReset
  refine ⟨?staged, ?busy, ?off, ?boundary, ?revert, ?soft⟩
  case staged =>
    intro s w page b i ⟨hpage, hacc⟩ hb ⟨hpending, hbad, hw⟩
    have hgfx : b = .gfx ∨ b = .head ∨ b = .glint := hb.elim (fun h => .inr (.inl h.1)) .inl
    have hrun : ¬ (w = .boot ∨ ((b = .head ∨ b = .glint) ∧ s.okResp.headOff i = true)) := by
      rintro (h | ⟨h, hoff⟩)
      · exact hw h
      · rcases hb with ⟨rfl, hrun⟩ | rfl
        · have h0 : s.rd HEAD.HEAD_STAT.state i = 0 := beq_iff_eq.1 hoff
          have h2 : s.rd HEAD.HEAD_STAT.state i = 2 := beq_iff_eq.1 hrun
          omega
        · rcases h with h | h <;> exact absurd h (by decide)
    have hset : s.okResp.commitSet w b i = .good ((s.okResp.stageSet b i).wr (HDR.pending b) 1 i) := by
      rw [commitSet_staged (s := s.okResp) hpending hbad (by rintro rfl; rcases hb with ⟨h, -⟩ | h <;> exact absurd h (by decide)) hgfx, if_neg hrun,
        stagePage_eq (by rintro rfl; rcases hb with ⟨h, -⟩ | h <;> exact absurd h (by decide))]
    refine ⟨s.commitWrite w b i 1, exec_commit_page hpage, ?_⟩
    rw [commitWrite_commit hacc, hset]
    exact stageSet_pending (s := s.okResp)
  case busy =>
    intro s w page b i ⟨hpage, hacc⟩ hpending
    have hset : s.okResp.commitSet w b i = .bad ((s.okResp.recErr b i Code.COMMIT_BUSY w.rid 0x020).raise b i 2) := commitSet_busy hpending
    refine ⟨s.commitWrite w b i 1, exec_commit_page hpage, ?_⟩
    rw [commitWrite_commit hacc, hset]
    refine ⟨?_, ?_, ?_, ?_, raise_bit (by decide), ?_, fun hvalid => ?_⟩
    · exact congrArg Resp.ok ((raise_resp ..).trans (recErr_resp ..))
    · exact (raise_staged ..).trans (recErr_staged ..)
    · exact (raise_shadow ..).trans (recErr_shadow ..)
    · exact raise_act.trans recErr_act
    · exact raise_bit_of_bit (by decide) (raise_bit (by decide))
    · refine (raise_rd_out (by simp [place, HDR.err_code])).trans (recErr_err_code ?_)
      exact hvalid
  case off =>
    intro s w page b i ⟨hpage, hb, hacc⟩ ⟨hoff, hpending, henable, hbad⟩
    have hne : b ≠ .comp := by rintro rfl; rcases hb with h | h <;> exact absurd h (by decide)
    have hset : s.okResp.commitSet w b i = .good (((s.okResp.stageSet b i).wr (HDR.pending b) 1 i).applyNow b i) := by
      rw [commitSet_staged (s := s.okResp) hpending hbad (fun _ => henable) (.inr hb), if_pos (.inr ⟨hb, hoff⟩), stagePage_eq hne]
    have hpage' : b = .head ∨ b = .glint ∧ 6 ≤ i := hb.imp_right fun h => ⟨h, by subst h; exact first_le_of_blkOfPage hpage⟩
    obtain ⟨hp, -, hseq, -⟩ := stageSet_pending (s := s.okResp) (b := b) (i := i)
    obtain ⟨h1, h2, h3⟩ := applyNow_shown hpage' hp
    refine ⟨s.commitWrite w b i 1, exec_commit_page hpage, ?_⟩
    rw [commitWrite_commit hacc, hset]
    refine ⟨h1, ?_, h3⟩
    refine h2.trans ?_
    rw [hseq]
    rfl
  case boundary =>
    intro s page ⟨hpage, hpending, hbins⟩
    refine ⟨s.applySet .gfx 0, ?_, rfl, applySet_shown⟩
    subst hpage
    refine congrArg Host.Outcome.next (if_pos ?_)
    rw [hpending, hbins]
    rfl
  case revert =>
    intro s w page b i hpage hacc
    refine ⟨s.commitWrite w b i 4, exec_commitRevert_page hpage, ?_⟩
    rw [commitWrite_of_accepts hacc, if_neg (by decide)]
    have hset : ((Chk.good s.okResp).andThen fun t1 => if bit 4 2 = true then t1.revertSet b i else t1) = s.okResp.revertSet b i :=
      if_pos (c := bit 4 2 = true) (t := s.okResp.revertSet b i) (e := s.okResp) (by decide)
    rw [hset]
    unfold State.revertSet
    refine ⟨rd_wr_same, (wr_shadow ..), wr_act_of_ne (show Acc.ro ≠ Acc.rws by decide), wr_staged ..⟩
  case soft =>
    rintro s w page b en f j k ⟨hpage, hb⟩ hacc ⟨rfl, hlo, hhi, -⟩
    generalize hv : (if en then 3 else 2) = v at hacc
    have hswdt : f.blk ≠ .swdt := by rcases hb with h | h <;> rw [h] <;> decide
    have hsoft : bit v 1 = true := by subst hv; cases en <;> decide
    have hen : v % 2 = if en then 1 else 0 := by subst hv; cases en <;> rfl
    obtain ⟨x, hx⟩ := softReset_plain (t := s.okResp.wr (HDR.enable f.blk) v) hb
    have hstep : exec (.softReset w page en) s = .next { (s.okResp.wr (HDR.enable f.blk) v).softRegs f.blk 0 with safe := x } := by
      rw [exec_softReset_page hpage hb, hv, onWrite_accepted hacc hswdt]
      dsimp only
      rw [if_pos hsoft, hx]
    obtain ⟨hrd, hsh⟩ := softRegs_rd_in (s := s.okResp.wr (HDR.enable f.blk) v) (f := f) (i := 0) (j := j) (k := k) ⟨hlo, hhi⟩
    rw [wr_variant] at hrd hsh
    have header : ∀ {g : Fld}, g.off < 0x100 → g.stride = 0 → sep (HDR.group f.blk) g = true → sep (HDR.dirty f.blk) g = true →
        sep (HDR.pending f.blk) g = true → ((s.okResp.wr (HDR.enable f.blk) v).softRegs f.blk 0).rd g = (s.okResp.wr (HDR.enable f.blk) v).rd g :=
      fun h1 h2 h3 h4 h5 => (softRegs_rd_header h1 h2 h3 h4).trans (discardSet_rd h5)
    have henable : ((s.okResp.wr (HDR.enable f.blk) v).softRegs f.blk 0).rd (HDR.enable f.blk) = if en then 1 else 0 := by
      rw [header (by simp [HDR.enable]) rfl (by simp [sep, HDR.group, HDR.enable]) (by simp [sep, HDR.dirty, HDR.enable])
        (by simp [sep, HDR.pending, HDR.enable]), rd_wr_same]
      exact hen
    have hpending : ((s.okResp.wr (HDR.enable f.blk) v).softRegs f.blk 0).rd (HDR.pending f.blk) = 0 := by
      rw [softRegs_rd_header (by simp [HDR.pending]) rfl (by simp [sep, HDR.group, HDR.pending]) (by simp [sep, HDR.dirty, HDR.pending])]
      exact rd_wr_same
    have hseq : ((s.okResp.wr (HDR.enable f.blk) v).softRegs f.blk 0).rd (HDR.commit_seq f.blk) = s.rd (HDR.commit_seq f.blk) := by
      rw [header (by simp [HDR.commit_seq]) rfl (by simp [sep, HDR.group, HDR.commit_seq]) (by simp [sep, HDR.dirty, HDR.commit_seq])
        (by simp [sep, HDR.pending, HDR.commit_seq]), rd_wr_sep (by simp [sep, HDR.enable, HDR.commit_seq]), rd_okResp]
    have hlock : ((s.okResp.wr (HDR.enable f.blk) v).softRegs f.blk 0).rd (HDR.lock f.blk) = s.rd (HDR.lock f.blk) := by
      rw [header (by simp [HDR.lock]) rfl (by simp [sep, HDR.group, HDR.lock]) (by simp [sep, HDR.dirty, HDR.lock])
        (by simp [sep, HDR.pending, HDR.lock]), rd_wr_sep (by simp [sep, HDR.enable, HDR.lock]), rd_okResp]
    have howner : ((s.okResp.wr (HDR.enable f.blk) v).softRegs f.blk 0).rd (HDR.owner f.blk) = s.rd (HDR.owner f.blk) := by
      rw [header (by simp [HDR.owner]) rfl (by simp [sep, HDR.group, HDR.owner]) (by simp [sep, HDR.dirty, HDR.owner])
        (by simp [sep, HDR.pending, HDR.owner]), rd_wr_sep (by simp [sep, HDR.enable, HDR.owner]), rd_okResp]
    have hctr : ((s.okResp.wr (HDR.enable f.blk) v).softRegs f.blk 0).ctr = s.ctr := softRegs_ctr.trans (wr_ctr ..)
    generalize (s.okResp.wr (HDR.enable f.blk) v).softRegs f.blk 0 = z at *
    exact ⟨_, hstep, hrd, hsh, henable, hpending, hseq, hlock, howner, hctr⟩

end Sys2Proof.Proofs

/-! Events, error records, LOCK and the owner of a page (R55 to R59, R63). -/

namespace Sys2Proof.Proofs

open Machine Laws

section

variable {s : State} {w : Who} {b : Blk} {i off v : Nat}

/-! ### The registers of the header -/

/-- The table of page 0 of a type lists every own field of the type's other pages. -/
theorem blkRows_subset_zero {f : Fld} (hf : f ∈ blkRows b i) : f ∈ blkRows b 0 := by
  cases b with
  | touch =>
    change f ∈ (if i % 2 = 0 then TOUCH.rows else TOUCH.rows.filter (fun g => decide (g.off < 0x200))) at hf
    split at hf
    next => exact hf
    next => exact (List.mem_filter.1 hf).1
  | _ => exact hf

/-- A page's own registers begin at 0x100. -/
theorem blkRows_off {f : Fld} (hf : f ∈ blkRows b i) : 0x100 ≤ f.off := by
  have table : ∀ c : Blk, ∀ g ∈ blkRows c 0, 0x100 ≤ g.off := by intro c; cases c <;> decide
  exact table b f (blkRows_subset_zero hf)

/-- So the registers below are those of the header. -/
theorem partsAt_header (h : off < 0x100) : partsAt b i off = (hdrRows b).filterMap fun f => (f.at off).map fun p => ⟨f, p.1, p.2⟩ := by
  unfold partsAt pageRows
  have hnone : ((blkRows b i).filterMap fun f => (f.at off).map fun p => (⟨f, p.1, p.2⟩ : Part)) = [] := by
    refine List.filterMap_eq_nil_iff.2 fun f hf => Option.map_eq_none_iff.2 ?_
    cases hat : f.at off with
    | none => rfl
    | some q => exact absurd (blkRows_off hf) (by have := off_le_of_at hat; omega)
  rw [List.filterMap_append, hnone, List.append_nil]

theorem partsAt_owner : partsAt b i 0x00C = [⟨HDR.owner b, 0, false⟩] := partsAt_header (by decide)

theorem partsAt_lock : partsAt b i 0x034 = [⟨HDR.lock b, 0, false⟩] := partsAt_header (by decide)

theorem definedBits_owner : definedBits b i 0x00C = 0xFF := by
  change (partsAt b i 0x00C).foldl _ 0 = _
  rw [partsAt_owner]
  simp [Part.bits, Part.half, HDR.owner]

theorem definedBits_lock : definedBits b i 0x034 = 1 := by
  change (partsAt b i 0x034).foldl _ 0 = _
  rw [partsAt_lock]
  simp [Part.bits, Part.half, HDR.lock]

/-- A guest writes neither the owner nor LOCK. -/
theorem writesAny_viewReadOnly (h : viewReadOnly w off = true) : writesAny w b i off = false := by
  cases w with
  | inst k slot =>
    have perm : (lockPerm b == Perm.own) = false := by unfold lockPerm; split <;> rfl
    rcases Bool.or_eq_true_iff.1 h with h | h <;> rw [beq_iff_eq] at h <;> subst h <;> unfold writesAny
    · rw [partsAt_owner]
      change (((ownerAcc b != .ro) && (ownerAcc b != .rol) && false) || false) = false
      rw [Bool.and_false, Bool.or_false]
    · rw [partsAt_lock]
      change ((true && (lockPerm b == Perm.own)) || false) = false
      rw [perm]
      rfl
  | _ => exact absurd h Bool.false_ne_true

/-- A write of such a register through a view does nothing, with a normal response (R450). -/
theorem onWrite_viewReadOnly {e : State → State} (h : viewReadOnly w off = true) (hw : writable s w b i off = true) (hoff : off = 0x00C ∨ off = 0x034)
    (hv : v &&& (2 ^ 32 - 1 - definedBits b i off) = 0) : s.onWrite w b i off v e = s.okResp := by
  have hdef : offsetDefined b i off = true := if_pos (by omega)
  have hbad : s.wordBad w b i off v = none := if_pos h
  unfold State.onWrite State.checkWrite State.checkWord
  rw [reach_of_writable hw, hbad, hdef, h, writesAny_viewReadOnly h, if_neg (not_not_intro hv)]
  dsimp only
  rw [if_neg (by omega), if_neg (by decide), if_neg (by omega), if_neg (fun hc => absurd hc.2.2.2 (by decide)), if_neg (by decide)]
  rfl

/-- LOCK of a page that has none is unmapped (R63). -/
theorem onWrite_lock_unmapped {e : State → State} (hb : b.lockable = false) (hw : writable s w b i 0x034 = true) (hv : viewReadOnly w 0x034 = false) :
    s.onWrite w b i 0x034 1 e = s.refuse b i Code.REG_UNMAPPED w.rid 0x034 := by
  have hdef : offsetDefined b i 0x034 = true := if_pos (by decide)
  unfold State.onWrite State.checkWrite
  rw [reach_of_writable hw, hdef, hb, hv]
  rfl

/-! ### The words of accepted writes -/

/-- Numbers below 2 ^ 32 without bits outside a mask. -/
theorem and_eq_self_of_reserved {m : Nat} (hm : m < 2 ^ 32) (hv : v < 2 ^ 32) (h : v &&& (2 ^ 32 - 1 - m) = 0) : v &&& m = v := by
  refine Nat.eq_of_testBit_eq fun k => ?_
  have hk := congrArg (fun x => x.testBit k) h
  rw [Nat.sub_sub, Nat.add_comm 1 m] at hk
  simp only [Nat.testBit_and, Nat.testBit_two_pow_sub_succ hm, Nat.zero_testBit] at hk
  rw [Nat.testBit_and]
  by_cases hlt : k < 32
  · rw [decide_eq_true hlt, Bool.true_and] at hk
    cases hb : v.testBit k
    · rfl
    · rw [hb, Bool.true_and, Bool.not_eq_false'] at hk
      rw [hk]
      rfl
  · rw [Nat.testBit_lt_two_pow (Nat.lt_of_lt_of_le hv (Nat.pow_le_pow_right (by decide) (Nat.le_of_not_lt hlt))), Bool.false_and]

theorem evMask_lt : b.evMask i < 2 ^ 32 := by
  have h : b.events i ≤ 10 := by
    cases b with
    | touch => change (if i % 2 = 0 then 7 else 0) ≤ 10; split <;> decide
    | _ => exact Nat.le_of_ble_eq_true rfl
  have := Nat.pow_le_pow_right (show 0 < 2 by decide) h
  unfold Blk.evMask
  omega

/-- An accepted word of an event register carries defined events alone. -/
theorem and_evMask_of_accepts (h : accepts s w b i off v = true) (hoff : off = 0x010 ∨ off = 0x01C) (hv : v < 2 ^ 32) : v &&& b.evMask i = v := by
  have hd : definedBits b i off = b.evMask i := by rcases hoff with rfl | rfl <;> rfl
  unfold accepts at h
  simp only [Bool.and_eq_true, decide_eq_true_eq, hd] at h
  exact and_eq_self_of_reserved evMask_lt hv h.2

/-- Breaking a kick leaves the registers. -/
theorem breakKick_rd {f : Fld} {i' j k : Nat} : (s.breakKick b off).rd f i' j k = s.rd f i' j k := by
  unfold State.breakKick
  split
  · exact rd_with_world
  · rfl

theorem breakKick_resp : (s.breakKick b off).resp = s.resp := by
  unfold State.breakKick
  split <;> rfl

/-! ### The owner -/

/-- A new owner starts with no event set and none enabled (R56). -/
theorem ownerWrite_shown (h : accepts s w b i 0x00C v = true) (hw : w = .mgr ∨ w = .boot) (hb : b.safetyPage = false) :
    (s.ownerWrite w b i v).rd (HDR.owner b) i = v % 256 ∧ (s.ownerWrite w b i v).rd (HDR.ev_mask b) i = 0 ∧
    (b ≠ .surf → (s.ownerWrite w b i v).rd (HDR.ev_raw b) i = 0) := by
  have hmay : mayWrite w b (HDR.owner b) = true := by rcases hw with rfl | rfl <;> rfl
  have hview : viewReadOnly w 0x00C = false := by rcases hw with rfl | rfl <;> rfl
  unfold State.ownerWrite
  rw [onWrite_of_accepts h]
  generalize s.okResp.breakKick b 0x00C = t
  rw [if_neg (by rw [hmay, hview, hb]; decide)]
  extract_lets u
  have howner : u.rd (HDR.owner b) i = v % 256 := by
    simp only [u]
    rw [rd_wr_sep (by simp [sep, HDR.ev_raw, HDR.owner]), rd_wr_sep (by simp [sep, HDR.ev_mask, HDR.owner]), rd_wr_same]
    rfl
  have hmask : u.rd (HDR.ev_mask b) i = 0 := by
    simp only [u]
    rw [rd_wr_sep (by simp [sep, HDR.ev_raw, HDR.ev_mask]), rd_wr_same]
    rfl
  have hraw : u.rd (HDR.ev_raw b) i = 0 := rd_wr_same
  clear_value u
  split
  · next ht =>
    obtain ⟨rfl, -⟩ := ht
    have stays : ∀ {f : Fld} {x : TouchSt}, sep TOUCH.RPT_CTRL.enable f = true →
        ((u.wr TOUCH.RPT_CTRL.enable 0 i).setTouch (i / 2) x).rd f i = u.rd f i := fun h => rd_with_touch.trans (rd_wr_sep h)
    exact ⟨(stays (by decide)).trans howner, (stays (by decide)).trans hmask, fun _ => (stays (by decide)).trans hraw⟩
  · split
    · next hs =>
      obtain ⟨rfl, -⟩ := hs
      have stays : ∀ {f : Fld}, hvSync_T.all (clear f) = true → sep SURF.STREAM_CFG.enable f = true → sep SURF.HV_CTRL.enable f = true →
          ((u.wr SURF.HV_CTRL.enable 0 i).wr SURF.STREAM_CFG.enable 0 i).hvSync.rd f i = u.rd f i :=
        fun h1 h2 h3 => (rd_clear (hvSync_frame Frame.refl Cov.refl) h1).trans ((rd_wr_sep h2).trans (rd_wr_sep h3))
      exact ⟨(stays (by decide) (by decide) (by decide)).trans howner, (stays (by decide) (by decide) (by decide)).trans hmask,
        fun hne => absurd rfl hne⟩
    · exact ⟨howner, hmask, fun _ => hraw⟩

/-! ### The error record -/

/-- Clearing fields in other places leaves a field. -/
theorem rd_clearAll_out {l : List Fld} {g : Fld} (h : ∀ f ∈ l, place f 0 ≠ place g 0) : (l.foldl (fun u f => u.wr f 0 i) s).rd g i = s.rd g i :=
  foldl_same_of_mem (fun u : State => u.rd g i) fun _ f hf => rd_wr_ne (key_ne (h f hf))

/-- Of fields that lie apart each one cleared reads 0. -/
theorem rd_clearAll_in {l : List Fld} {g : Fld} (h : l.Pairwise fun f g => place g 0 ≠ place f 0) (hg : g ∈ l) :
    (l.foldl (fun u f => u.wr f 0 i) s).rd g i = 0 := by
  induction l generalizing s with
  | nil => exact absurd hg List.not_mem_nil
  | cons f l ih =>
    obtain ⟨hout, hrest⟩ := List.pairwise_cons.1 h
    rcases List.mem_cons.1 hg with rfl | hmem
    · exact (rd_clearAll_out hout).trans (rd_wr_same.trans (Nat.zero_mod _))
    · exact ih hrest hmem

/-- The fields of the error record. -/
def recordFields (b : Blk) : List Fld :=
  [HDR.err_valid b, HDR.err_internal b, HDR.err_requester b, HDR.err_count b, HDR.err_code b, HDR.err_addr b, HDR.err_req_id b]

/-- They lie apart, and apart from EV_RAW. -/
theorem recordFields_apart : (recordFields b).Pairwise (fun f g => place g 0 ≠ place f 0) ∧ ∀ f ∈ recordFields b, place f 0 ≠ place (HDR.ev_raw b) 0 := by
  have hplaces : (recordFields b).map (fun f => place f 0) = (recordFields .pwr).map (fun f => place f 0) := rfl
  constructor
  · have hpair : ((recordFields b).map (fun f => place f 0)).Pairwise (fun p q => q ≠ p) := by
      rw [hplaces]
      decide
    exact List.pairwise_map.1 hpair
  · intro f hf
    have hraw : ∀ p ∈ (recordFields b).map (fun f => place f 0), p ≠ place (HDR.ev_raw .pwr) 0 := by
      rw [hplaces]
      decide
    exact hraw _ (List.mem_map.2 ⟨f, hf, rfl⟩)

/-- A 1 in ERR_CODE.valid clears the whole record (R59). -/
theorem errClear_shown (h : accepts s w b i 0x028 0x80000000 = true) : (s.errClear w b i 0x80000000).rd (HDR.ev_raw b) i = s.rd (HDR.ev_raw b) i ∧
    ∀ f ∈ recordFields b, (s.errClear w b i 0x80000000).rd f i = 0 := by
  unfold State.errClear
  rw [onWrite_of_accepts h, if_pos (by decide)]
  exact ⟨(rd_clearAll_out recordFields_apart.2).trans breakKick_rd, fun f hf => rd_clearAll_in recordFields_apart.1 hf⟩

end

/-! ### The obligation -/

/-- Settles O59: each write is its own effect on the header's fields, which lie apart. -/
theorem eventErrorAndLockRegisters : Obligations.EventErrorAndLockRegisters := by
  unfold Obligations.EventErrorAndLockRegisters
  have page : ∀ {s : State} {w : Who} {p : Fin 256} {b : Blk} {i off : Nat} {k : Blk → Nat → State}, blkOfPage p.val = some (b, i) →
      s.headerCmd w p.val off k = k b i := by
    intro s w p b i off k h
    unfold State.headerCmd
    rw [h]
  refine ⟨?clear, ?force, ?record, ?lock, ?unmapped, ?owner, ?ownerView, ?lockView⟩
  case clear =>
    intro s w p b i v hp hacc
    refine ⟨s.evClear w b i v.toNat, congrArg Host.Outcome.next (page hp), ?_⟩
    unfold State.evClear
    rw [onWrite_of_accepts hacc, and_evMask_of_accepts hacc (.inl rfl) v.isLt, breakKick_rd, rd_okResp]
    refine ⟨rd_wr_same.trans (Nat.mod_eq_of_lt ?_), ?_⟩
    · exact Nat.lt_of_le_of_lt Nat.and_le_right (by change _ < 2 ^ 32; omega)
    · rw [rd_wr_sep (by simp [sep, HDR.ev_raw, HDR.err_valid]), breakKick_rd, rd_okResp]
  case force =>
    intro s w p b i v hp hacc
    refine ⟨s.evForce w b i v.toNat, congrArg Host.Outcome.next (page hp), ?_⟩
    unfold State.evForce
    rw [onWrite_of_accepts hacc, and_evMask_of_accepts hacc (.inr rfl) v.isLt, rd_irqEdge, rd_irqEdge, breakKick_rd, rd_okResp]
    refine ⟨rd_wr_same, ?_⟩
    rw [rd_wr_sep (by simp [sep, HDR.ev_raw, HDR.err_valid]), breakKick_rd, rd_okResp]
  case record =>
    intro s w p b i hp hacc
    obtain ⟨hraw, hrec⟩ := errClear_shown hacc
    exact ⟨s.errClear w b i 0x80000000, congrArg Host.Outcome.next (page hp), hrec _ (by simp [recordFields]), hrec _ (by simp [recordFields]), hrec _ (by simp [recordFields]),
      hrec _ (by simp [recordFields]), hrec _ (by simp [recordFields]), hrec _ (by simp [recordFields]), hrec _ (by simp [recordFields]), hraw⟩
  case lock =>
    intro s w p b i hp hacc
    refine ⟨s.lockWrite w b i 1, congrArg Host.Outcome.next (page hp), ?_⟩
    unfold State.lockWrite
    rw [onWrite_of_accepts hacc, if_pos (show bit 1 0 = true by decide)]
    split
    · exact ⟨breakKick_rd, congrArg Resp.ok breakKick_resp⟩
    · exact ⟨rd_wr_same, congrArg Resp.ok ((wr_resp ..).trans breakKick_resp)⟩
  case unmapped =>
    intro s w p b i ⟨hp, hb⟩ ⟨hw, hview⟩
    exact congrArg Host.Outcome.next ((page hp).trans (onWrite_lock_unmapped hb hw hview))
  case owner =>
    intro s w p b i v ⟨hp, hw⟩ ⟨hb, hacc⟩
    exact ⟨s.ownerWrite w b i v.toNat, congrArg Host.Outcome.next (page hp), ownerWrite_shown hacc hw hb⟩
  case ownerView =>
    intro s w p b i v hp ⟨hview, hw, hv⟩
    refine congrArg Host.Outcome.next ((page hp).trans (onWrite_viewReadOnly hview hw (.inl rfl) ?_))
    rw [definedBits_owner]
    refine Nat.eq_of_testBit_eq fun k => ?_
    rw [Nat.testBit_and, Nat.zero_testBit, Bool.and_eq_false_iff]
    by_cases hk : k < 8
    · exact .inr ((show ∀ n < 8, (2 ^ 32 - 1 - 0xFF).testBit n = false by decide) k hk)
    · left
      have h : 2 ^ 8 ≤ 2 ^ k := Nat.pow_le_pow_right (by decide) (by omega)
      exact Nat.testBit_lt_two_pow (Nat.lt_of_lt_of_le hv h)
  case lockView =>
    intro s w p b i hp ⟨hview, hw⟩
    refine congrArg Host.Outcome.next ((page hp).trans (onWrite_viewReadOnly hview hw (.inr rfl) ?_))
    rw [definedBits_lock]
    decide

end Sys2Proof.Proofs

/-! Commands of the page owner table (R110 to R117): how an epoch starts, drains and ends. -/

namespace Sys2Proof.Proofs

open Machine Laws

section

variable {s : State} {w : Who}

/-! ### The start of an epoch -/

/-- An epoch starts with its command shown as busy, under the next number, and counted. -/
theorem startEpoch_shown {op owner : Nat} {set : List (Nat × Nat × Bool)} :
    (s.startEpoch op owner set).rd POT.CMD_OP.busy = 1 ∧
    (s.startEpoch op owner set).rd POT.CMD_STAT.epoch = (s.rd POT.CMD_STAT.epoch + 1) % 65536 ∧
    (s.startEpoch op owner set).counter .pot 0 67 = (s.counter .pot 0 67 + 1) % 2 ^ 64 ∧
    (s.startEpoch op owner set).counter .pot 0 64 = s.counter .pot 0 64 ∧
    (s.startEpoch op owner set).pot.op = op ∧ (s.startEpoch op owner set).pot.step = 4 ∧
    (s.startEpoch op owner set).pot.scrub = (set.filter fun e => e.2.2).map (·.1) ∧
    (s.startEpoch op owner set).pot.shareMask = s.pot.shareMask := by
  unfold State.startEpoch
  extract_lets old s1 scrub x s2
  have h1 : Frame [.dram] s s1 := by
    simp only [s1]
    exact Frame.foldl Frame.refl fun t e h => setPotEntry_frame h Cov.refl
  have hepoch : s2.rd POT.CMD_STAT.epoch = s.rd POT.CMD_STAT.epoch := rd_with_pot.trans (rd_clear h1 (by decide))
  have hctr : ∀ {n : Nat}, s2.counter .pot 0 n = s.counter .pot 0 n := h1.ctr .pot 0 _ (by decide) (by decide)
  have hmask : s2.pot.shareMask = s.pot.shareMask := by
    change s1.pot.shareMask = _
    rw [h1.pot (by decide)]
  have hop : s2.pot.op = op := rfl
  have hstep : s2.pot.step = 4 := rfl
  have hscrub : s2.pot.scrub = scrub := rfl
  clear_value s2
  refine ⟨?_, ?_, ?_, ?_, ?_, ?_, ?_, ?_⟩
  · rw [rd_count, rd_wr_sep (by decide), rd_wr_sep (by decide), rd_wr_same]
    rfl
  · rw [rd_count, rd_wr_same, hepoch]
    rfl
  · rw [counter_count_same, counter_wr, counter_wr, counter_wr, hctr]
  · rw [counter_count_ne (by decide), counter_wr, counter_wr, counter_wr, hctr]
  · rw [count_pot, wr_pot, wr_pot, wr_pot, hop]
  · rw [count_pot, wr_pot, wr_pot, wr_pot, hstep]
  · rw [count_pot, wr_pot, wr_pot, wr_pot, hscrub]
  · rw [count_pot, wr_pot, wr_pot, wr_pot, hmask]

/-- An epoch over no frame leaves memory. -/
theorem startEpoch_nil_dram {op owner : Nat} : (s.startEpoch op owner []).dram = s.dram := by
  unfold State.startEpoch
  dsimp only [List.foldl_nil]
  rw [count_dram, wr_dram, wr_dram, wr_dram]

/-! ### Commands -/

/-- A command that nothing refuses. -/
theorem potCommand_started {op : Nat} {keep : Bool} (h : accepts s w .pot 0 0x114 (op + (if keep then 256 else 0)) = true)
    (hr : s.potRefusal op keep = none) (hop : op ≠ 3) :
    s.potCommand w op keep = (s.okResp.count .pot 0 64).startEpoch op 0 (s.potRange.map fun p =>
      (p, s.newEntry op p, op == 1 && !keep && s.potEntry p % 256 != s.newEntry op p % 256)) := by
  unfold State.potCommand
  rw [onWrite_accepted h (by decide)]
  have hr' : s.okResp.potRefusal op keep = none := hr
  dsimp only
  rw [hr']
  dsimp only
  rw [if_neg hop]
  rfl

/-- A SHARE that nothing refuses puts its mask in force and starts an epoch over no frame. -/
theorem potShare_started {keep : Bool} (h : accepts s w .pot 0 0x114 (3 + (if keep then 256 else 0)) = true)
    (hr : s.potRefusal 3 keep = none) : ∃ m,
    s.potCommand w 3 keep = ({ s.okResp.count .pot 0 64 with pot := { (s.okResp.count .pot 0 64).pot with
      oldMask := some (bits (s.rd POT.CMD_ENTRY.entry) 8 4, m)
      shareMask := mset s.pot.shareMask (bits (s.rd POT.CMD_ENTRY.entry) 8 4) (s.rd POT.SHARE_MASK.mask) 0 } } : State).startEpoch 3 0 [] := by
  refine ⟨mget s.pot.shareMask (bits (s.rd POT.CMD_ENTRY.entry) 8 4) 0, ?_⟩
  unfold State.potCommand
  rw [onWrite_accepted h (by decide)]
  have hr' : s.okResp.potRefusal 3 keep = none := hr
  dsimp only
  rw [hr']
  rfl

/-- A refused command. -/
theorem potCommand_refused {op c : Nat} {keep late : Bool} (h : accepts s w .pot 0 0x114 (op + (if keep then 256 else 0)) = true)
    (hr : s.potRefusal op keep = some (c, late)) :
    s.potCommand w op keep = if late then s.okResp.recErr .pot 0 c w.rid 0x114 else s.okResp.refuse .pot 0 c w.rid 0x114 := by
  unfold State.potCommand
  rw [onWrite_accepted h (by decide)]
  have hr' : s.okResp.potRefusal op keep = some (c, late) := hr
  dsimp only
  rw [hr']
  cases late <;> rfl

/-! ### The end of an epoch -/

/-- Once scrubbed, the command is no longer busy and its pages are counted. -/
theorem endEpoch_shown : s.endEpoch.rd POT.CMD_OP.busy = 0 ∧ s.endEpoch.rd POT.CMD_STAT.scrub_left = 0 ∧ s.endEpoch.pot.op = 0 ∧
    s.endEpoch.counter .pot 0 65 = (s.counter .pot 0 65 + s.pot.scrub.length) % 2 ^ 64 := by
  unfold State.endEpoch
  extract_lets s1 s2
  have hctr : s1.counter .pot 0 65 = s.counter .pot 0 65 := by
    have h : Frame [.dram, .mem] s s1 := by
      simp only [s1]
      exact Frame.foldl Frame.refl fun t e h => setPotEntry_frame (zeroPage_frame h Cov.refl) (Cov.of_subset (by decide))
    exact h.ctr .pot 0 65 (by decide) (by decide)
  have h2 : s2.counter .pot 0 65 = (s.counter .pot 0 65 + s.pot.scrub.length) % 2 ^ 64 := by
    simp only [s2]
    rw [counter_count_same, hctr]
  clear_value s2
  refine ⟨rd_wr_same, ?_, ?_, ?_⟩
  · rw [rd_wr_sep (by decide), rd_wr_same]
    rfl
  · rw [wr_pot, wr_pot]
  · rw [counter_wr, counter_wr]
    exact h2

end

/-! ### The obligation -/

/-- Settles O10: each command is the start of its epoch, or its refusal; the drain and the end are the epoch's own. -/
theorem potCommands : Obligations.PotCommands := by
  unfold Obligations.PotCommands
  refine ⟨?set, ?setAttr, ?share, ?refused, ?drained, ?done⟩
  case set =>
    intro s w keep hacc hr
    refine ⟨s.potCommand w 1 keep, rfl, ?_⟩
    rw [potCommand_started hacc hr (by decide)]
    obtain ⟨hbusy, hepoch, h67, h64, hop, hstep, -, -⟩ := startEpoch_shown (s := s.okResp.count .pot 0 64) (op := 1) (owner := 0)
      (set := s.potRange.map fun p => (p, s.newEntry 1 p, 1 == 1 && !keep && s.potEntry p % 256 != s.newEntry 1 p % 256))
    exact ⟨hbusy, hepoch, h64.trans counter_count_same, h67.trans (by rw [counter_count_ne (by decide)]; rfl), hop, hstep⟩
  case setAttr =>
    intro s w keep hacc hr
    refine ⟨s.potCommand w 2 keep, rfl, ?_⟩
    rw [potCommand_started hacc hr (by decide)]
    obtain ⟨hbusy, hepoch, -, h64, hop, -, hscrub, -⟩ := startEpoch_shown (s := s.okResp.count .pot 0 64) (op := 2) (owner := 0)
      (set := s.potRange.map fun p => (p, s.newEntry 2 p, 2 == 1 && !keep && s.potEntry p % 256 != s.newEntry 2 p % 256))
    refine ⟨hbusy, hepoch, h64.trans counter_count_same, hop, hscrub.trans ?_⟩
    rw [List.map_eq_nil_iff, List.filter_eq_nil_iff, List.forall_mem_map]
    exact fun p _ => Bool.false_ne_true
  case share =>
    intro s w keep hacc hr
    obtain ⟨m, hstart⟩ := potShare_started hacc hr
    refine ⟨s.potCommand w 3 keep, rfl, ?_⟩
    rw [hstart]
    obtain ⟨hbusy, hepoch, -, -, -, -, hscrub, hmask⟩ := startEpoch_shown (s := { s.okResp.count .pot 0 64 with pot :=
      { (s.okResp.count .pot 0 64).pot with
        oldMask := some (bits (s.rd POT.CMD_ENTRY.entry) 8 4, m)
        shareMask := mset s.pot.shareMask (bits (s.rd POT.CMD_ENTRY.entry) 8 4) (s.rd POT.SHARE_MASK.mask) 0 } }) (op := 3) (owner := 0) (set := [])
    refine ⟨hbusy, hepoch, ?_, startEpoch_nil_dram, hscrub⟩
    rw [hmask]
    exact mget_mset_same ..
  case refused =>
    intro s w keep c late hacc hr
    exact congrArg Host.Outcome.next (potCommand_refused hacc hr)
  case drained =>
    intro s hop hstep hfree
    refine ⟨_, congrArg Host.Outcome.next (if_pos ⟨hop, hstep, by rw [hfree]; rfl⟩), rfl, rfl, rfl, ?_, ?_⟩
    · exact (portsDrop_frame Frame.refl Cov.refl).dram (by decide)
    · exact rd_with_pot.trans (rd_clear (portsDrop_frame Frame.refl Cov.refl) (by decide))
  case done =>
    intro s ⟨hop, hle⟩ hstep
    obtain ⟨hbusy, hleft, hdone, hctr⟩ := endEpoch_shown (s := s)
    refine ⟨s.endEpoch.raise .pot 0 8, congrArg Host.Outcome.next (if_pos ⟨hop, hle, hstep⟩), ?_, ?_, ?_, ?_, raise_bit (by decide)⟩
    · rw [raise_rd_sep (by decide), hbusy]
    · rw [raise_rd_sep (by decide), hleft]
    · rw [raise_pot, hdone]
    · rw [counter_raise, hctr]

end Sys2Proof.Proofs

/-! The life of a guest: its commands, its quiesce and the owner sweep (R118 to R122). -/

namespace Sys2Proof.Proofs

open Machine Laws

section

variable {s : State} {w : Who} {k : Nat}

/-! ### Commands of INST_CMD -/

/-- A command that the state of the selected guest allows. -/
theorem instCmd_taken {op : Nat} {scrub : Bool} {allowed : Nat → Bool} {e : State → Nat → State}
    (h : accepts s w .mgr 0 0x104 (op + (if scrub then 256 else 0)) = true) (hbusy : s.on MGR.INST_STAT.busy (b := s.selInst) = false)
    (hst : allowed (s.rd MGR.INST_STAT.state (b := s.selInst)) = true) : s.instCmd w op scrub allowed e = e s.okResp s.selInst := by
  unfold State.instCmd
  rw [onWrite_accepted h (by decide)]
  refine if_neg ?_
  change ¬ (s.on MGR.INST_STAT.busy (b := s.selInst) || !allowed (s.rd MGR.INST_STAT.state (b := s.selInst))) = true
  rw [hbusy, hst]
  decide

theorem instCmd_refused {op : Nat} {scrub : Bool} {allowed : Nat → Bool} {e : State → Nat → State}
    (h : accepts s w .mgr 0 0x104 (op + (if scrub then 256 else 0)) = true)
    (hst : s.on MGR.INST_STAT.busy (b := s.selInst) = true ∨ allowed (s.rd MGR.INST_STAT.state (b := s.selInst)) = false) :
    s.instCmd w op scrub allowed e = s.okResp.refuse .mgr 0 Code.INST_STATE w.rid 0x104 := by
  unfold State.instCmd
  rw [onWrite_accepted h (by decide)]
  refine if_pos ?_
  change (s.on MGR.INST_STAT.busy (b := s.selInst) || !allowed (s.rd MGR.INST_STAT.state (b := s.selInst))) = true
  rcases hst with h | h <;> rw [h]
  · exact Bool.true_or ..
  · exact Bool.or_true ..

/-! ### CREATE -/

/-- What CREATE does once the pools and the bandwidth allow it. -/
def created (t : State) (k : Nat) : State :=
  let t1 := ((t.gfxAccount.wr MGR.INST_STAT.state 1 (b := k)).count .mgr 0 0).admitInst k (t.rd MGR.ALLOC_BW.rate (b := k))
  let t2 := t1.resizeCtx k (t1.rd MGR.ALLOC_GPU.contexts (b := k))
  (t2.allocPins k).foldl (fun u i => u.pinChange i k) t2

theorem created_shown : (created s k).rd MGR.INST_STAT.state (b := k) = 1 ∧
    (created s k).counter .mgr 0 0 = (s.counter .mgr 0 0 + 1) % 2 ^ 64 := by
  unfold created
  extract_lets t1 t2
  generalize hlast : (t2.allocPins k).foldl (fun u i => u.pinChange i k) t2 = t3
  have h : Frame (admitInst_T ++ resizeCtx_T ++ pinChange_T) ((s.gfxAccount.wr MGR.INST_STAT.state 1 (b := k)).count .mgr 0 0) t3 := by
    rw [← hlast]
    refine Frame.foldl ?_ fun u i hu => pinChange_frame hu (Cov.of_subset (by decide))
    exact resizeCtx_frame (admitInst_frame Frame.refl (Cov.of_subset (by decide))) (Cov.of_subset (by decide))
  clear_value t1 t2
  clear hlast
  refine ⟨?_, ?_⟩
  · rw [rd_clear h (by decide), rd_count, rd_wr_same]
    rfl
  · rw [h.ctr .mgr 0 0 (by decide) (by decide), counter_count_same, counter_wr,
      (gfxAccount_frame Frame.refl Cov.refl).ctr .mgr 0 0 (by decide) (by decide)]

theorem instCreate_taken (h : accepts s w .mgr 0 0x104 1 = true) (hbusy : s.on MGR.INST_STAT.busy (b := s.selInst) = false)
    (hst : s.rd MGR.INST_STAT.state (b := s.selInst) = 0) (hpool : s.poolRow s.selInst = none)
    (hbw : s.rd DRAMQ.ADMIT_USED.used + s.rd MGR.ALLOC_BW.rate (b := s.selInst) ≤ s.rd DRAMQ.ADMIT_CAP.cap) :
    s.instCreate w = created s.okResp s.selInst := by
  unfold State.instCreate
  rw [instCmd_taken (op := 1) (scrub := false) h hbusy (by rw [hst]; rfl)]
  have hpool' : s.okResp.poolRow s.selInst = none := hpool
  rw [hpool']
  exact if_neg (Nat.not_lt.2 hbw)

/-! ### QUIESCE -/

/-- A quiesce begins: Quiescing, busy, at its second step. -/
theorem quiesce_shown {scrub flr : Bool} : (s.quiesce k scrub flr).rd MGR.INST_STAT.state (b := k) = 3 ∧
    (s.quiesce k scrub flr).rd MGR.INST_STAT.busy (b := k) = 1 ∧ mget (s.quiesce k scrub flr).inst.qStep k 0 = 2 := by
  unfold State.quiesce
  extract_lets s1 x y s2
  have h : Frame (dropCommits_T ++ dropHalted_T ++ stopRings_T ++ rewait_T) (s2.count .mgr 0 2)
      (((((s2.count .mgr 0 2).rewait (fun f => f / 1024 == k)).dropCommits k).dropHalted k).stopRings k) :=
    stopRings_frame (dropHalted_frame (dropCommits_frame (rewait_frame Frame.refl (Cov.of_subset (by decide))) (Cov.of_subset (by decide)))
      (Cov.of_subset (by decide))) (Cov.of_subset (by decide))
  have hrd : ∀ {f : Fld}, s2.rd f 0 0 k = s1.rd f 0 0 k := rfl
  refine ⟨?_, ?_, ?_⟩
  · rw [rd_clear h (by decide), rd_count, hrd]
    simp only [s1]
    rw [rd_wr_sep (by decide), rd_wr_sep (by decide), rd_wr_same]
    rfl
  · rw [rd_clear h (by decide), rd_count, hrd]
    simp only [s1]
    rw [rd_wr_sep (by decide), rd_wr_same]
    rfl
  · rw [h.inst (by decide), count_inst]
    exact mget_mset_same ..

/-- Records that are dropped leave a drained guest drained. -/
theorem drained_dropRecords (h : s.drained k = true) : (s.dropRecords k).drained k = true := by
  have hctx : (s.dropRecords k).rings.ctx = s.rings.ctx := by
    unfold State.dropRecords
    dsimp only
    exact foldl_same (fun t : State => t.rings.ctx) fun _ _ => rfl
  have hrecs : ∀ r, (s.dropRecords k).owesRecord r = true → s.owesRecord r = true := by
    intro r hr
    have hfold : ∀ l : List RecDue, (l.foldl (fun (t : State) e => t.forceMark e.ring) s).rings.recs = s.rings.recs := fun l =>
      foldl_same (fun t : State => t.rings.recs) fun _ _ => rfl
    unfold State.dropRecords State.owesRecord at hr
    dsimp only at hr
    rw [hfold] at hr
    obtain ⟨e, he, hre⟩ := List.any_eq_true.1 hr
    exact List.any_eq_true.2 ⟨e, (List.mem_filter.1 he).1, hre⟩
  have hring : ∀ r, (s.dropRecords k).ring r = s.ring r := fun r => by unfold State.ring; rw [hctx]
  unfold State.drained State.ringsOf at *
  rw [hctx]
  refine List.all_eq_true.2 fun r hr => ?_
  have hs := List.all_eq_true.1 h r hr
  rw [Bool.and_eq_true, Bool.not_eq_true'] at hs ⊢
  rw [hring]
  refine ⟨hs.1, ?_⟩
  cases ho : (s.dropRecords k).owesRecord r with
  | false => rfl
  | true => exact absurd (hrecs r ho) (by rw [hs.2]; decide)

/-- Every layer of a guest asks for its substitute. -/
theorem substLayers_asked {h l : Nat} (hh : h < 8) (hl : l < 16) (hown : s.layerOwner h l = k) :
    mget (s.substLayers k).comp.substQ (h * 16 + l) 0 = 1 := by
  have howner : ∀ (t u : State) (h l : Nat), t.regs = u.regs → t.act = u.act → t.variant = u.variant → t.layerOwner h l = u.layerOwner h l := by
    intro t u h l h1 h2 h3
    unfold State.layerOwner State.instState State.rd
    rw [h1, h2, h3]
  have hstep : ∀ n, n ≤ 128 → ∀ t : State, t = (List.range n).foldl (fun (t : State) i =>
      if t.layerOwner (i / 16) (i % 16) = k then { t with comp := { t.comp with substQ := mset t.comp.substQ i 1 0 } } else t) s →
      (∀ h l, t.layerOwner h l = s.layerOwner h l) ∧
        ∀ i < n, s.layerOwner (i / 16) (i % 16) = k → mget t.comp.substQ i 0 = 1 := by
    intro n
    induction n with
    | zero => rintro - t rfl; exact ⟨fun _ _ => rfl, fun i hi => absurd hi (by omega)⟩
    | succ n ih =>
      rintro hn t ht
      rw [List.range_succ, List.foldl_append] at ht
      obtain ⟨hsame, hset⟩ := ih (by omega) _ rfl
      generalize (List.range n).foldl _ s = u at ht hsame hset
      rw [List.foldl_cons, List.foldl_nil] at ht
      subst ht
      split
      · next hu =>
        refine ⟨fun h l => (howner _ u h l rfl rfl rfl).trans (hsame h l), fun i hi hik => ?_⟩
        by_cases he : i = n
        · subst he
          exact mget_mset_same ..
        · exact (mget_mset_ne (Ne.symm he)).trans (hset i (by omega) hik)
      · next hu =>
        refine ⟨hsame, fun i hi hik => ?_⟩
        by_cases he : i = n
        · subst he
          exact absurd ((hsame _ _).trans hik) hu
        · exact hset i (by omega) hik
  obtain ⟨-, hasked⟩ := hstep 128 (by omega) (s.substLayers k) (by delta State.substLayers; rfl)
  refine hasked (h * 16 + l) (by omega) ?_
  rw [show (h * 16 + l) / 16 = h by omega, show (h * 16 + l) % 16 = l by omega]
  exact hown

/-- What the owners of layers rest on. -/
theorem layerOwner_congr {t u : State} {h l : Nat} (hregs : t.regs = u.regs) (hact : t.act = u.act) (hv : t.variant = u.variant) :
    t.layerOwner h l = u.layerOwner h l := by
  unfold State.layerOwner State.instState State.rd
  rw [hregs, hact, hv]

/-- Dropping records leaves the registers. -/
theorem dropRecords_layerOwner {h l : Nat} : (s.dropRecords k).layerOwner h l = s.layerOwner h l := by
  have hfold : ∀ {α : Type} (proj : State → α), (∀ (t : State) (e : RecDue), proj (t.forceMark e.ring) = proj t) →
      ∀ l : List RecDue, proj (l.foldl (fun (t : State) e => t.forceMark e.ring) s) = proj s := fun proj h l => foldl_same proj h
  unfold State.dropRecords
  exact layerOwner_congr (hfold State.regs (fun _ _ => rfl) _) (hfold State.act (fun _ _ => rfl) _) (hfold State.variant (fun _ _ => rfl) _)

/-- A drained guest goes on to the replacement of its layers. -/
theorem quiesceDrainDone_shown {k : Fin 64} (hq : mget s.inst.qStep k.val 0 = 2 ∨ mget s.inst.qStep k.val 0 = 3) (hd : s.drained k.val = true) :
    ∃ t, exec (.quiesceDrainDone k) s = .next t ∧ mget t.inst.qStep k.val 0 = 4 ∧
      (∀ h < 8, ∀ l < 16, s.layerOwner h l = k.val → mget t.comp.substQ (h * 16 + l) 0 = 1) := by
  have goesOn : ∀ t : State, t.drained k.val = true → (∀ h l, t.layerOwner h l = s.layerOwner h l) →
      ∃ u, (if (mget s.inst.qStep k.val 0 = 2 ∨ mget s.inst.qStep k.val 0 = 3) ∧ t.drained k.val = true then
          ({ t with inst := { t.inst with qStep := mset t.inst.qStep k.val 4 0 } } : State).substLayers k.val else t) = u ∧
        mget u.inst.qStep k.val 0 = 4 ∧ (∀ h < 8, ∀ l < 16, s.layerOwner h l = k.val → mget u.comp.substQ (h * 16 + l) 0 = 1) := by
    intro t ht hown
    refine ⟨_, if_pos ⟨hq, ht⟩, ?_, fun h hh l hl hk => substLayers_asked hh hl ?_⟩
    · rw [(substLayers_frame Frame.refl Cov.refl).inst (by decide)]
      exact mget_mset_same
    · exact (layerOwner_congr rfl rfl rfl).trans ((hown h l).trans hk)
  obtain ⟨u, hu, hstep⟩ := goesOn (if mget s.inst.qStep k.val 0 = 3 then s.dropRecords k.val else s)
    (by
      split
      · exact drained_dropRecords hd
      · exact hd)
    (fun h l => by
      split
      · exact dropRecords_layerOwner
      · rfl)
  exact ⟨u, congrArg Host.Outcome.next hu, hstep⟩

/-- The limit of a drain: what is left is aborted, and the guest shows it. -/
theorem quiesceLimit_shown {k : Fin 64} (hq : mget s.inst.qStep k.val 0 = 2) (hover : s.drainOver k.val = true) :
    ∃ t, exec (.quiesceLimitExpiry k) s = .next t ∧ mget t.inst.qStep k.val 0 = 3 ∧ t.rd MGR.INST_STAT.forced (b := k.val) = 1 ∧
      t.counter .mgr 0 3 = (s.counter .mgr 0 3 + 1) % 2 ^ 64 := by
  have hgo : ¬ (mget s.inst.qStep k.val 0 ≠ 2 ∨ (!s.drainOver k.val) = true) := by
    rw [hover, hq]
    decide
  refine ⟨_, congrArg Host.Outcome.next (if_neg hgo), ?_⟩
  extract_lets s1 s2 s3 s4 x
  have h1 : Frame [.inst] s s1 := by
    simp only [s1]
    exact Frame.foldl Frame.refl fun t r h => forceMark_frame h Cov.refl
  have h3 : Frame ([.inst] ++ forceJobs_T ++ dropRecords_T ++ [.err .mgr, .fld (HDR.ev_raw .mgr), .sent]) s s3 := by
    have h2 : Frame ([.inst] ++ forceJobs_T ++ dropRecords_T ++ [.err .mgr, .fld (HDR.ev_raw .mgr), .sent]) s s2 := by
      simp only [s2]
      exact dropRecords_frame (forceJobs_frame (frame_mono h1 (by decide)) (Cov.of_subset (by decide))) (Cov.of_subset (by decide))
    simp only [s3]
    split
    · exact recErr_frame h2 (Cov.of_subset (by decide))
    · exact h2
  have hctr : s4.counter .mgr 0 3 = (s.counter .mgr 0 3 + 1) % 2 ^ 64 := by
    simp only [s4]
    rw [counter_count_same, counter_wr, h3.ctr .mgr 0 3 (by decide) (by decide)]
  have hforced : s4.rd MGR.INST_STAT.forced (b := k.val) = 1 := by
    simp only [s4]
    rw [rd_count, rd_wr_same]
    rfl
  clear_value s4
  exact ⟨mget_mset_same, rd_with_inst.trans hforced, hctr⟩

/-- A reset guest is Created, without ring contexts. -/
theorem instReset_shown : (s.instReset k).rd MGR.INST_STAT.state (b := k) = 1 ∧ ∀ n < 4096, (s.instReset k).ring (k * 4096 + n) = {} := by
  unfold State.instReset
  extract_lets pins lo hi x s1 s2 s3
  refine ⟨rd_wr_same, fun n hn => ?_⟩
  have hrings : s3.rings = s1.rings := by
    refine (foldl_same (fun t : State => t.rings) fun t p => ?_).trans ?_
    · split
      · exact wr_rings ..
      · rfl
    · simp only [s2]
      rw [wr_rings, wr_rings, wr_rings, wr_rings]
  unfold State.ring
  rw [wr_rings, hrings]
  exact mget_mdrop_in ⟨by omega, by omega⟩

/-- The end of a quiesce: its vales are Free, and after a function-level reset the guest is Created again. -/
theorem quiesceDone_shown {k : Fin 64} (hq : mget s.inst.qStep k.val 0 = 5)
    (hsweep : s.pot.op = 4 ∧ s.pot.owner = k.val ∧ s.pot.step = 6) :
    ∃ t, exec (.quiesceDone k) s = .next t ∧ t.rd MGR.INST_STAT.state (b := k.val) = (if mget s.inst.flr k.val 0 = 0 then 4 else 1) ∧
      t.rd MGR.INST_STAT.busy (b := k.val) = 0 ∧ mget t.inst.qStep k.val 0 = 0 ∧ t.pot.op = 0 := by
  refine ⟨_, congrArg Host.Outcome.next (if_pos ⟨hq, hsweep⟩), ?_⟩
  extract_lets s1 flr x s2 s3
  have h1 : Frame (endEpoch_T ++ valesFree_T) s s1 := by
    simp only [s1]
    exact valesFree_frame (endEpoch_frame Frame.refl (Cov.of_subset (by decide))) (Cov.of_subset (by decide))
  have hflr : flr = mget s.inst.flr k.val 0 := congrArg (fun i : InstSt => mget i.flr k.val 0) (h1.inst (by decide))
  have hpot : s1.pot.op = 0 := by
    simp only [s1]
    rw [(valesFree_frame Frame.refl Cov.refl).pot (by decide)]
    exact endEpoch_shown.2.2.1
  clear_value s1
  have hq2 : mget s2.inst.qStep k.val 0 = 0 := mget_mset_same
  have hp2 : s2.pot.op = 0 := hpot
  clear_value s2
  have hstate : s3.rd MGR.INST_STAT.state (b := k.val) = 4 := by
    simp only [s3]
    rw [raise_rd_sep (by decide), rd_wr_sep (by decide), rd_wr_same]
    rfl
  have hbusy : s3.rd MGR.INST_STAT.busy (b := k.val) = 0 := by
    simp only [s3]
    rw [raise_rd_sep (by decide), rd_wr_same]
    rfl
  have hstep : mget s3.inst.qStep k.val 0 = 0 := by
    simp only [s3]
    rw [raise_inst, wr_inst, wr_inst, hq2]
  have hop : s3.pot.op = 0 := by
    simp only [s3]
    rw [raise_pot, wr_pot, wr_pot, hp2]
  clear_value s3 flr
  subst hflr
  split
  · have hr := instReset_frame (s := s3) (k := k.val) Frame.refl Cov.refl
    refine ⟨instReset_shown.1, ?_, ?_, ?_⟩
    · rw [rd_clear hr (by decide), hbusy]
    · rw [hr.inst (by decide), hstep]
    · rw [hr.pot (by decide), hop]
  · next hf => exact ⟨hstate.trans (if_pos (Decidable.of_not_not hf)).symm, hbusy, hstep, hop⟩

/-! ### REMOVE and function-level reset -/

/-- A guest that is removed has no view slot and an empty mailbox. -/
theorem instRemove_shown : (s.instRemove k).rd MGR.INST_STAT.state (b := k) = 0 ∧
    (∀ v < 224, (s.instRemove k).rd MGR.VIEW_ENTRY.valid (b := k * 256 + v) = 0) ∧ mget (s.instRemove k).inst.mbFull k 0 = 0 := by
  unfold State.instRemove
  extract_lets s1 s2 s3 x s4
  refine ⟨?_, fun v hv => ?_, ?_⟩
  · rw [rd_count, rd_wr_same]
    rfl
  · have h3 : s3.rd MGR.VIEW_ENTRY.valid (b := k * 256 + v) = s2.rd MGR.VIEW_ENTRY.valid (b := k * 256 + v) :=
      rd_clear (valesFree_frame Frame.refl Cov.refl) (by decide)
    have h4 : s4.rd MGR.VIEW_ENTRY.valid (b := k * 256 + v) = s3.rd MGR.VIEW_ENTRY.valid (b := k * 256 + v) := rd_with_inst
    clear_value s4 s3
    rw [rd_count, rd_wr_sep (by decide), h4, h3]
    have hzero : ∀ n, ∀ v < n, n ≤ 224 → ((List.range n).foldl (fun (t : State) v =>
        ((t.wr MGR.VIEW_ENTRY.valid 0 (b := k * 256 + v)).wr MGR.VIEW_ENTRY.write 0 (b := k * 256 + v)).wr MGR.VIEW_ENTRY.page 0
          (b := k * 256 + v)) s1).rd MGR.VIEW_ENTRY.valid (b := k * 256 + v) = 0 := by
      intro n
      induction n with
      | zero => intro v hv; omega
      | succ n ih =>
        intro v hv hn
        rw [List.range_succ, List.foldl_append, List.foldl_cons, List.foldl_nil, rd_wr_sep (by decide), rd_wr_sep (by decide)]
        by_cases he : v = n
        · subst he
          exact rd_wr_same
        · rw [rd_wr_ne, ih v (by omega) (by omega)]
          unfold Fld.key cell
          omega
    exact hzero 224 v hv (by omega)
  · clear_value s3
    rw [count_inst, wr_inst]
    exact mget_mset_same (m := s3.inst.mbFull)

/-- A function-level reset is shown and, of a Running guest, begins its quiesce. -/
theorem functionLevelReset_shown {f : Fin 64} (hv : s.on MGR.VF_MAP.valid (b := f.val) = true) (h0 : s.rd MGR.VF_MAP.inst (b := f.val) ≠ 0)
    (hlt : s.rd MGR.VF_MAP.inst (b := f.val) < 64) (hst : s.rd MGR.INST_STAT.state (b := s.rd MGR.VF_MAP.inst (b := f.val)) ≠ 0) :
    ∃ t, exec (.functionLevelReset f) s = .next t ∧ t.rd MGR.FLR_INST.inst = s.rd MGR.VF_MAP.inst (b := f.val) ∧
      bit (t.rd (HDR.ev_raw .mgr)) 9 = true ∧ (s.rd MGR.INST_STAT.state (b := s.rd MGR.VF_MAP.inst (b := f.val)) = 2 →
        t.rd MGR.INST_STAT.state (b := s.rd MGR.VF_MAP.inst (b := f.val)) = 3) := by
  generalize hk : s.rd MGR.VF_MAP.inst (b := f.val) = k at *
  have hgo : ¬ ((!s.on MGR.VF_MAP.valid (b := f.val)) = true ∨ k = 0 ∨ s.rd MGR.INST_STAT.state (b := k) = 0) := by
    rw [hv]
    exact fun h => h.elim (fun h => absurd h (by decide)) (fun h => h.elim h0 hst)
  have hshown : ∀ t : State, (s.rd MGR.INST_STAT.state (b := k) = 2 → t.rd MGR.INST_STAT.state (b := k) = 3) →
      (((t.wr MGR.FLR_INST.inst k).count .mgr 0 4).raise .mgr 0 9).rd MGR.FLR_INST.inst = k ∧
      bit ((((t.wr MGR.FLR_INST.inst k).count .mgr 0 4).raise .mgr 0 9).rd (HDR.ev_raw .mgr)) 9 = true ∧
      (s.rd MGR.INST_STAT.state (b := k) = 2 →
        (((t.wr MGR.FLR_INST.inst k).count .mgr 0 4).raise .mgr 0 9).rd MGR.INST_STAT.state (b := k) = 3) := by
    intro t ht
    refine ⟨?_, raise_bit (by decide), fun h => ?_⟩
    · rw [raise_rd_sep (by decide), rd_count, rd_wr_same]
      exact Nat.mod_eq_of_lt (Nat.lt_of_lt_of_le hlt (by decide))
    · rw [raise_rd_sep (by decide), rd_count, rd_wr_sep (by decide), ht h]
  subst hk
  refine ⟨_, congrArg Host.Outcome.next (if_neg hgo), ?_⟩
  refine hshown _ fun h => ?_
  rw [if_pos h]
  exact quiesce_shown.1

/-! ### The sweep -/

theorem startEpoch_owner {op owner : Nat} {set : List (Nat × Nat × Bool)} : (s.startEpoch op owner set).pot.owner = owner := by
  unfold State.startEpoch
  dsimp only
  rw [count_pot, wr_pot, wr_pot, wr_pot]

theorem startSweep_shown {own : Bool} : (s.startSweep k own).pot.op = 4 ∧ (s.startSweep k own).pot.owner = k ∧
    (s.startSweep k own).rd POT.CMD_OP.busy = 1 := by
  unfold State.startSweep
  obtain ⟨hbusy, -, -, -, hop, -, -, -⟩ := startEpoch_shown (s := s) (op := 4) (owner := k)
    (set := (s.listedFrames.filter (fun p => s.swept k (s.potEntry p))).map (fun p => (p, 0xFE, valeOwned (s.potEntry p) || own)))
  exact ⟨hop, startEpoch_owner, hbusy⟩

end

/-! ### The obligation -/

/-- Settles O12: each command by the operation it runs, each step of the quiesce by what it sets. -/
theorem instanceLifeAndQuiesce : Obligations.InstanceLifeAndQuiesce := by
  unfold Obligations.InstanceLifeAndQuiesce
  refine ⟨?create, ?pool, ?start, ?quiesce, ?reset, ?remove, ?refused, ?drained, ?limit, ?sweep, ?sweepVale, ?done, ?flr⟩
  case create =>
    intro s w hacc hbusy ⟨hst, hsel⟩ hpool hbw
    have h0 : s.rd MGR.INST_STAT.state (b := s.selInst) = 0 := (if_neg hsel).symm.trans hst
    refine ⟨s.instCreate w, rfl, ?_⟩
    rw [instCreate_taken hacc hbusy h0 hpool hbw]
    exact created_shown (s := s.okResp)
  case pool =>
    intro s w r hacc hbusy ⟨hst, hsel⟩ hpool
    have h0 : s.rd MGR.INST_STAT.state (b := s.selInst) = 0 := (if_neg hsel).symm.trans hst
    refine congrArg Host.Outcome.next ((instCmd_taken (op := 1) (scrub := false) hacc hbusy (by rw [h0]; rfl)).trans ?_)
    have hpool' : s.okResp.poolRow s.selInst = some r := hpool
    rw [hpool']
  case start =>
    intro s w hacc hbusy hst
    refine ⟨s.instStart w, rfl, ?_⟩
    unfold State.instStart
    rw [instCmd_taken (op := 2) (scrub := false) hacc hbusy (by rw [hst]; rfl)]
    exact ⟨rd_wr_same, congrArg Resp.ok (wr_resp ..)⟩
  case quiesce =>
    intro s w scrub hacc hbusy hst
    refine ⟨s.instQuiesce w scrub, rfl, ?_⟩
    unfold State.instQuiesce
    rw [instCmd_taken hacc hbusy (by rcases hst with h | h <;> rw [h] <;> rfl)]
    exact quiesce_shown
  case reset =>
    intro s w hacc hbusy hst
    refine ⟨_, congrArg Host.Outcome.next (instCmd_taken (op := 4) (scrub := false) hacc hbusy (by rw [hst]; rfl)), ?_⟩
    exact instReset_shown
  case remove =>
    intro s w hacc hbusy hst
    refine ⟨_, congrArg Host.Outcome.next (instCmd_taken (op := 5) (scrub := false) hacc hbusy (by rcases hst with h | h <;> rw [h] <;> rfl)), ?_⟩
    exact instRemove_shown
  case refused =>
    intro s w hacc hst
    exact congrArg Host.Outcome.next (instCmd_refused (op := 2) (scrub := false) (allowed := (· == 1)) hacc (hst.imp_right fun h => beq_eq_false_iff_ne.2 h))
  case drained =>
    intro s k hq hdrained
    exact quiesceDrainDone_shown hq hdrained
  case limit =>
    intro s k hq hover
    exact quiesceLimit_shown hq hover
  case sweep =>
    intro s o hop ho hq hsub
    refine ⟨({ s with inst := { s.inst with qStep := mset s.inst.qStep o.val 5 0 } }).startSweep o.val (mget s.inst.scrub o.val 0 != 0), ?_, ?_⟩
    · refine congrArg Host.Outcome.next ((if_neg (not_not_intro hop)).trans ((if_pos ho).trans (if_pos ⟨hq, ?_⟩)))
      rw [hsub]
      rfl
    · obtain ⟨h1, h2, h3⟩ := startSweep_shown (s := { s with inst := { s.inst with qStep := mset s.inst.qStep o.val 5 0 } }) (k := o.val)
        (own := mget s.inst.scrub o.val 0 != 0)
      refine ⟨h1, h2, ?_, h3⟩
      rw [(startSweep_frame Frame.refl Cov.refl).inst (by decide)]
      exact mget_mset_same ..
  case sweepVale =>
    intro s o hop ho hrun
    refine ⟨s.startSweep o.val true, ?_, startSweep_shown⟩
    exact congrArg Host.Outcome.next ((if_neg (not_not_intro hop)).trans ((if_neg (by omega)).trans (if_pos hrun)))
  case done =>
    intro s k hq hsweep
    exact quiesceDone_shown hq hsweep
  case flr =>
    intro s f hv ⟨h0, hlt⟩ hst
    exact functionLevelReset_shown hv h0 hlt hst

end Sys2Proof.Proofs

/-! The mailbox rearm of a guest against its reserved bits (R52, R124, R126). -/

namespace Sys2Proof.Proofs

open Machine Laws

/-- Instance 1 runs, and nothing else has happened. -/
def mailboxState : State := ({} : State).wr MGR.INST_STAT.state 2 (b := 1)

/-- Refutes O13: a word with a reserved bit written to MB_REARM leaves the error record that R52 asks for, where the clause allows the rearm
alone. -/
theorem not_functionsViewsAndMailboxes : ¬ Obligations.FunctionsViewsAndMailboxes := by
  unfold Obligations.FunctionsViewsAndMailboxes
  rintro ⟨-, -, -, -, -, -, -, rearm, -⟩
  have hreach : mailboxState.mbReach (.inst 1 0) 0x10C true = .inr (1, false) := by decide
  have hexec := rearm mailboxState (.inst 1 0) 2 1 hreach
  have hrun : exec (.mbRearm (.inst 1 0) 2) mailboxState = .next (mailboxState.mbRearm (.inst 1 0) 2) := rfl
  have hstate := Host.Outcome.next.inj (hrun.symm.trans hexec)
  have hrecord : (mailboxState.mbRearm (.inst 1 0) 2).rd (HDR.err_valid .mgr) = 1 := by decide
  have hnone : ((if bit (2 : Word).toNat 0 && mailboxState.ownerPend 1 then mailboxState.notify 1 0 else mailboxState).okResp).rd
      (HDR.err_valid .mgr) = 0 := by decide
  rw [hstate, hnone] at hrecord
  exact absurd hrecord (by decide)

end Sys2Proof.Proofs

/-! A kick of the secure watchdog after REMAIN has reached 0 (R148, R149). -/

namespace Sys2Proof.Proofs

open Machine Laws

/-- The watchdog runs, its first key word has been written, and REMAIN is 0. -/
def expiredState : State := { ({} : State).wr SWDT.SWDT_CTRL.enable 1 with world := { ({} : WorldSt) with kick := true } }

/-- Refutes O14: once REMAIN has reached 0 the second key word no longer reloads it, and the clause on 434BH asks for the reload there too. -/
theorem not_hartsAndSecureWatchdog : ¬ Obligations.HartsAndSecureWatchdog := by
  unfold Obligations.HartsAndSecureWatchdog
  rintro ⟨-, -, -, -, -, -, -, -, kick, -⟩
  obtain ⟨t, hexec, -, hremain, -⟩ := kick expiredState .mgr 0x434B (by decide) (by decide) (by decide)
  have hrun : exec (.swdtKick .mgr 0x434B) expiredState = .next (expiredState.swdtKick .mgr 0x434B) := rfl
  have hstate := Host.Outcome.next.inj (hrun.symm.trans hexec)
  have hzero : (expiredState.swdtKick .mgr 0x434B).rd SWDT.REMAIN.ms = 0 := by decide
  have htimeout : expiredState.rd SWDT.TIMEOUT.ms % 65536 = 10000 := by decide
  rw [← hstate, hzero, htimeout] at hremain
  exact absurd hremain (by decide)

end Sys2Proof.Proofs

/-! The life of vales and the owner of DMA engines (R132 to R135, R145). -/

namespace Sys2Proof.Proofs

open Machine Laws

section

variable {s : State} {w : Who} {v : Nat}

/-! ### Commands of VALE_CMD -/

/-- A command that the state of the selected vale allows. -/
theorem valeCmd_taken {op : Nat} {gate : Bool} {allowed : Nat → Bool} {e : State → Nat → State}
    (h : accepts s w .world 0 0x104 (op + (if gate then 256 else 0)) = true) (hv : v = s.rd WORLD.VALE_SEL.vale)
    (hbusy : s.on WORLD.VALE_STAT.busy (b := v) = false) (hst : allowed (s.rd WORLD.VALE_STAT.state (b := v)) = true) :
    s.valeCmd w op gate allowed e = e s.okResp v := by
  subst hv
  unfold State.valeCmd
  rw [onWrite_accepted h (by decide)]
  refine if_neg ?_
  change ¬ (s.on WORLD.VALE_STAT.busy (b := s.rd WORLD.VALE_SEL.vale) ||
    !allowed (s.rd WORLD.VALE_STAT.state (b := s.rd WORLD.VALE_SEL.vale))) = true
  rw [hbusy, hst]
  decide

/-- A command that runs is shown as busy, and what it is for is kept. -/
theorem valeRun_shown {op bad : Nat} : (s.valeRun v op bad).rd WORLD.VALE_STAT.busy (b := v) = 1 ∧
    mget (s.valeRun v op bad).world.run v 0 = op := by
  unfold State.valeRun
  refine ⟨rd_wr_same, ?_⟩
  rw [wr_world]
  exact mget_mset_same

theorem valeRun_rd {op bad : Nat} {f : Fld} {i j b : Nat} (h : sep WORLD.VALE_STAT.busy f = true) :
    (s.valeRun v op bad).rd f i j b = s.rd f i j b := by
  unfold State.valeRun
  rw [rd_wr_sep h, rd_with_world]

/-- The measurement lies above the vale's other registers. -/
theorem setDigest_rd {l : List Nat} {f : Fld} {i b : Nat} (hoff : f.off < 0x120) (hst : f.stride = 0) :
    (s.setDigest v l).rd f i 0 b = s.rd f i 0 b := by
  unfold State.setDigest
  refine foldl_same_of_mem (fun t : State => t.rd f i 0 b) fun t j hj => rd_wr_ne (key_ne fun e => ?_)
  have hj := List.mem_range.1 hj
  unfold place at e
  rw [hst] at e
  change (0x120 + 4 * j) % 4096 * 64 + 0 % 64 = _ at e
  omega

/-! ### OPEN and SEAL -/

/-- What OPEN does. -/
def opened (t : State) (v p : Nat) : State :=
  let t1 := ((t.wr WORLD.VALE_STAT.state 1 (b := v)).wr WORLD.VALE_STAT.parent p (b := v)).wr WORLD.LOAD_SEQ.seq 0 (b := v)
  let t2 := { t1 with world := { t1.world with part := mset t1.world.part v [] [] } }
  (t2.setDigest v shaInit).valeRun v 1 0

theorem opened_shown {p : Nat} (hp : p < 64) : (opened s v p).rd WORLD.VALE_STAT.state (b := v) = 1 ∧
    (opened s v p).rd WORLD.VALE_STAT.busy (b := v) = 1 ∧ (opened s v p).rd WORLD.VALE_STAT.parent (b := v) = p ∧
    (opened s v p).rd WORLD.LOAD_SEQ.seq (b := v) = 0 := by
  unfold opened
  extract_lets t1 x t2
  have h2 : ∀ {f : Fld} {b : Nat}, t2.rd f 0 0 b = t1.rd f 0 0 b := rd_with_world
  clear_value t2
  refine ⟨?_, valeRun_shown.1, ?_, ?_⟩
  · rw [valeRun_rd (by decide), setDigest_rd (by decide) rfl, h2]
    simp only [t1]
    rw [rd_wr_sep (by decide), rd_wr_sep (by decide), rd_wr_same]
    rfl
  · rw [valeRun_rd (by decide), setDigest_rd (by decide) rfl, h2]
    simp only [t1]
    rw [rd_wr_sep (by decide), rd_wr_same]
    exact Nat.mod_eq_of_lt hp
  · rw [valeRun_rd (by decide), setDigest_rd (by decide) rfl, h2]
    exact rd_wr_same

theorem valeOpen_taken (h : accepts s w .world 0 0x104 1 = true) (hv : v = s.rd WORLD.VALE_SEL.vale)
    (hbusy : s.on WORLD.VALE_STAT.busy (b := v) = false) (hst : s.rd WORLD.VALE_STAT.state (b := v) = 0)
    (hp : s.rd WORLD.VALE_PARENT.parent ≠ 0)
    (hparent : s.instState (s.rd WORLD.VALE_PARENT.parent) = 1 ∨ s.instState (s.rd WORLD.VALE_PARENT.parent) = 2) :
    s.valeOpen w = opened s.okResp v (s.rd WORLD.VALE_PARENT.parent) := by
  unfold State.valeOpen
  rw [valeCmd_taken (op := 1) (gate := false) h hv hbusy (by rw [hst]; rfl)]
  refine if_neg ?_
  change ¬ (s.rd WORLD.VALE_PARENT.parent = 0 ∨ (s.instState (s.rd WORLD.VALE_PARENT.parent) ≠ 1 ∧
    s.instState (s.rd WORLD.VALE_PARENT.parent) ≠ 2))
  omega

/-! ### LOAD -/

/-- A page that is loaded holds the source's bytes, and counts. -/
theorem loadPage_shown {src dst : Nat} : (∀ k < 4096, (s.loadPage v src dst false).byteAt (dst * 4096 + k) = s.byteAt (src * 4096 + k)) ∧
    (s.loadPage v src dst false).counter .world 0 5 = (s.counter .world 0 5 + 1) % 2 ^ 64 ∧
    (s.loadPage v src dst false).rd POT.CMD_STAT.epoch = s.rd POT.CMD_STAT.epoch := by
  refine ⟨fun k hk => ?_, ?_, rd_clear (loadPage_frame Frame.refl Cov.refl) (by decide)⟩
  · have hlen : (s.rdBytes (src * 4096) 4096).length = 4096 := by simp [State.rdBytes]
    have hput : ((s.fetched loadSrc (src * 4096) 4096).put (loadDst v) (dst * 4096) (s.rdBytes (src * 4096) 4096)).byteAt (dst * 4096 + k) =
        s.byteAt (src * 4096 + k) := by
      rw [byteAt_congr put_dram (put_variant.trans wrBytes_variant.symm), byteAt_wrBytes_in (by omega)]
      simp [State.rdBytes]
    unfold State.loadPage
    extract_lets d msg h s1 x s2 s3
    have hdram : s1.dram = ((s.fetched loadSrc (src * 4096) 4096).put (loadDst v) (dst * 4096) d).dram :=
      (setDigest_frame Frame.refl Cov.refl).dram (by decide)
    have hvariant : s1.variant = ((s.fetched loadSrc (src * 4096) 4096).put (loadDst v) (dst * 4096) d).variant :=
      (setDigest_frame Frame.refl Cov.refl).variant
    clear_value s1
    have h3 : s3.dram = s1.dram ∧ s3.variant = s1.variant := ⟨rfl, rfl⟩
    clear_value s3
    rw [← hput]
    refine byteAt_congr ?_ ?_
    · rw [count_dram, wr_dram, h3.1, hdram]
    · rw [count_variant, wr_variant, h3.2, hvariant]
  · unfold State.loadPage
    extract_lets d msg h s1 x s2 s3
    have h1 : s1.counter .world 0 5 = s.counter .world 0 5 := by
      have hf : Frame (fetched_T ++ put_T ++ setDigest_T) s s1 := setDigest_frame (put_frame (fetched_frame Frame.refl
        (Cov.of_subset (by decide))) (Cov.of_subset (by decide))) (Cov.of_subset (by decide))
      exact hf.ctr .world 0 5 (by decide) (by decide)
    clear_value s1
    have h3 : s3.counter .world 0 5 = s1.counter .world 0 5 := rfl
    clear_value s3
    rw [counter_count_same, counter_wr, h3, h1]

/-- A LOAD of one page that meets every rule. -/
theorem valeLoad_taken (h : accepts s w .world 0 0x104 2 = true) (hv : v = s.rd WORLD.VALE_SEL.vale)
    (hbusy : s.on WORLD.VALE_STAT.busy (b := v) = false) (hst : s.rd WORLD.VALE_STAT.state (b := v) = 1)
    (hone : s.rd WORLD.LOAD_COUNT.count = 1) (hsrc : s.rd WORLD.LOAD_SRC.pfn < s.variant.frames) (hdst : s.rd WORLD.LOAD_DST.pfn < s.variant.frames)
    (hown : s.potEntry (s.rd WORLD.LOAD_SRC.pfn) % 256 = 0xFE ∧ s.potEntry (s.rd WORLD.LOAD_DST.pfn) % 256 = 64 + v)
    (hfault : s.loadFault v 1 (s.rd WORLD.LOAD_SRC.pfn) (s.rd WORLD.LOAD_DST.pfn) = none) : ∃ t1 : State,
    t1 = s.okResp.loadPage v (s.rd WORLD.LOAD_SRC.pfn) (s.rd WORLD.LOAD_DST.pfn) false ∧
    s.valeLoad w false = ((t1.wr POT.CMD_STAT.epoch (t1.rd POT.CMD_STAT.epoch + 1)).count .pot 0 67).valeRun v 2 0 := by
  refine ⟨_, rfl, ?_⟩
  have hok : (decide (0 < 1 ∧ s.rd WORLD.LOAD_SRC.pfn + 1 ≤ s.variant.frames ∧ s.rd WORLD.LOAD_DST.pfn + 1 ≤ s.variant.frames) &&
      (List.range 1).all (fun k => s.okResp.potEntry (s.rd WORLD.LOAD_SRC.pfn + k) % 256 == 0xFE &&
        s.okResp.potEntry (s.rd WORLD.LOAD_DST.pfn + k) % 256 == 64 + v)) = true := by
    rw [decide_eq_true (by omega), Bool.true_and]
    change ((s.potEntry (s.rd WORLD.LOAD_SRC.pfn) % 256 == 0xFE && s.potEntry (s.rd WORLD.LOAD_DST.pfn) % 256 == 64 + v) && true) = true
    rw [hown.1, hown.2, Bool.and_true, beq_self_eq_true, beq_self_eq_true]
    rfl
  have hcount : s.okResp.rd WORLD.LOAD_COUNT.count = 1 := hone
  have hfault' : s.okResp.loadFault v 1 (s.rd WORLD.LOAD_SRC.pfn) (s.rd WORLD.LOAD_DST.pfn) = none := hfault
  unfold State.valeLoad
  rw [valeCmd_taken (op := 2) (gate := false) h hv hbusy (by rw [hst]; rfl)]
  dsimp only
  rw [rd_okResp, rd_okResp, rd_okResp, hone, okResp_variant, hok, if_pos rfl, hfault', if_pos ⟨rfl, rfl⟩]
  simp only [List.range_one, List.foldl_cons, List.foldl_nil, Nat.add_zero]

/-! ### The end of a command -/

/-- A vale that is freed shows it. -/
theorem freeVale_shown : (s.freeVale v).rd WORLD.VALE_STAT.state (b := v) = 0 ∧ (s.freeVale v).rd WORLD.VALE_STAT.busy (b := v) = 0 ∧
    (s.freeVale v).pot = s.pot := by
  refine ⟨?_, ?_, (freeVale_frame Frame.refl Cov.refl).pot (by decide)⟩ <;> unfold State.freeVale <;> dsimp only <;> rw [rd_with_world]
  · rw [rd_wr_sep (by decide), rd_wr_sep (by decide), rd_wr_same]
    rfl
  · exact rd_wr_same

end

/-! ### The obligation -/

/-- Settles O16: each command by what it does to the selected vale, its end by what it clears. -/
theorem valeLife : Obligations.ValeLife := by
  unfold Obligations.ValeLife
  refine ⟨?opens, ?load, ?seals, ?close, ?busy, ?done, ?closed, ?owner⟩
  case opens =>
    intro s w v hacc hv ⟨hbusy, hst⟩ ⟨hp, hlt⟩ hparent
    refine ⟨s.valeOpen w, rfl, ?_⟩
    rw [valeOpen_taken hacc hv hbusy hst hp hparent]
    exact opened_shown hlt
  case load =>
    intro s w v hacc hv ⟨hbusy, hst⟩ hone ⟨hsrc, hdst⟩ hown hfault
    obtain ⟨t1, ht1, hrun⟩ := valeLoad_taken hacc hv hbusy hst hone hsrc hdst hown hfault
    obtain ⟨hbytes, hctr, hepoch⟩ := loadPage_shown (s := s.okResp) (v := v) (src := s.rd WORLD.LOAD_SRC.pfn) (dst := s.rd WORLD.LOAD_DST.pfn)
    rw [← ht1] at hbytes hctr hepoch
    refine ⟨s.valeLoad w false, rfl, ?_⟩
    rw [hrun]
    refine ⟨valeRun_shown.1, ?_, ?_, fun k hk => ?_⟩
    · rw [valeRun_rd (by decide), rd_count, rd_wr_same, hepoch]
      rfl
    · rw [(valeRun_frame Frame.refl Cov.refl).ctr .world 0 5 (by decide) (by decide), counter_count_ne (by decide), counter_wr, hctr]
      rfl
    · refine (byteAt_congr ?_ ?_).trans (hbytes k hk)
      · rw [(valeRun_frame Frame.refl Cov.refl).dram (by decide), count_dram, wr_dram]
      · rw [(valeRun_frame Frame.refl Cov.refl).variant, count_variant, wr_variant]
  case seals =>
    intro s w v hacc hv ⟨hbusy, hst⟩
    refine ⟨s.valeSeal w, rfl, ?_⟩
    unfold State.valeSeal
    rw [valeCmd_taken (op := 3) (gate := false) hacc hv hbusy (by rw [hst]; rfl)]
    refine ⟨?_, valeRun_shown.1⟩
    rw [valeRun_rd (by decide), rd_wr_same]
    rfl
  case close =>
    intro s w v hacc hv hbusy hst hin
    refine ⟨s.valeClose w, rfl, ?_⟩
    unfold State.valeClose
    rw [valeCmd_taken (op := 4) (gate := false) hacc hv hbusy (by rcases hst with h | h <;> rw [h] <;> rfl)]
    rw [rd_okResp, if_neg (not_not_intro hin)]
    exact valeRun_shown
  case busy =>
    intro s w v hacc hv hbusy hst hin
    refine congrArg Host.Outcome.next ?_
    unfold State.valeClose
    rw [valeCmd_taken (op := 4) (gate := false) hacc hv hbusy (by rcases hst with h | h <;> rw [h] <;> rfl)]
    exact if_pos hin
  case done =>
    intro s v ⟨h0, h4⟩
    refine ⟨_, congrArg Host.Outcome.next ((if_neg h0).trans (if_neg h4)), ?_⟩
    extract_lets s1 x s2
    have hrun : mget s2.world.run v.val 0 = 0 := mget_mset_same
    clear_value s2
    refine ⟨?_, ?_, raise_bit (by decide)⟩
    · rw [raise_world, wr_world, hrun]
    · rw [raise_rd_sep (by decide), rd_wr_same]
      rfl
  case closed =>
    intro s v hrun hsweep
    have h0 : ¬ mget s.world.run v.val 0 = 0 := by rw [hrun]; decide
    obtain ⟨hstate, hbusy, hpot⟩ := freeVale_shown (s := s.endEpoch) (v := v.val)
    refine ⟨_, congrArg Host.Outcome.next ((if_neg h0).trans ((if_pos hrun).trans (if_pos hsweep))), ?_, ?_, raise_bit (by decide), ?_⟩
    · rw [raise_rd_sep (by decide), hstate]
    · rw [raise_rd_sep (by decide), hbusy]
    · rw [raise_pot, hpot]
      exact endEpoch_shown.2.2.1
  case owner =>
    intro s w k v hacc hjob hv
    refine ⟨s.dmaOwner w k.val v.toNat, rfl, ?_⟩
    unfold State.dmaOwner
    rw [onWrite_accepted hacc (by decide)]
    have hjob' : s.okResp.job 2 k.val = none := hjob
    dsimp only
    rw [if_neg (by
      rw [hjob']
      rintro (h | h | h)
      · exact h rfl
      · omega
      · omega)]
    refine ⟨?_, congrArg Resp.ok (wr_resp ..)⟩
    rw [rd_wr_same]
    exact Nat.mod_eq_of_lt (Nat.mod_lt _ (by decide))

end Sys2Proof.Proofs

/-! Accesses to DRAM by address, of initiators and of PCI Express functions (R44, R111, R112, R123, R170). -/

namespace Sys2Proof.Proofs

open Machine Laws

section

variable {s : State} {who : Initiator} {q : Req} {a : Nat} {op : MemOp}

/-! ### The sender -/

/-- The state in which a sender's access is made: a hart that makes one is awake. -/
def senderAwake (s : State) (who : Initiator) : State := match who with | .hart h _ => s.awake h.val | _ => s

/-- Waking a hart changes nothing but its wait. -/
theorem senderAwake_eq : ∃ x : WorldSt, senderAwake s who = { s with world := x } := by
  cases who <;> exact ⟨_, rfl⟩

theorem memFault_senderAwake {w : Bool} {n : Nat} : (senderAwake s who).memFault q w a n = s.memFault q w a n := by
  obtain ⟨x, hx⟩ := senderAwake_eq (s := s) (who := who)
  rw [hx]
  rfl

theorem reqOf_senderAwake : (senderAwake s who).reqOf who = s.reqOf who := by
  cases who with
  | hart h m =>
    have hwid : ((s.awake h.val).hart h.val).wid m = (s.hart h.val).wid m := by
      unfold State.awake
      rw [hart_setHart]
      rfl
    change ({ id := ((s.awake h.val).hart h.val).wid m, hart := true, port := portHart h.val } : Req) = _
    rw [hwid]
    rfl
  | _ => rfl

theorem readBytes_senderAwake {n : Nat} : (senderAwake s who).readBytes a n = s.readBytes a n := by
  obtain ⟨x, hx⟩ := senderAwake_eq (s := s) (who := who)
  rw [hx]
  rfl

/-! ### Accesses that pass -/

theorem dramAccess_of_fault {r : Nat × Nat} (h : s.memFault q (memWrites op) a (memLen op) = some r) :
    s.dramAccess q a op = (s.memRecord q r).errResp := by
  unfold State.dramAccess
  rw [h]

theorem dramAccess_read {n : Nat} (h : s.memFault q false a n = none) :
    s.dramAccess q a (.read n) = (s.fetched q a n).okResp (leVal (s.readBytes a n)) := by
  unfold State.dramAccess
  rw [show s.memFault q (memWrites (.read n)) a (memLen (.read n)) = none from h]

theorem dramAccess_write {d : List Byte} (h : s.memFault q true a d.length = none) : s.dramAccess q a (.write d) = (s.put q a d).okResp := by
  unfold State.dramAccess
  rw [show s.memFault q (memWrites (.write d)) a (memLen (.write d)) = none from h]

theorem ofNat_hart {h : Fin 16} : Fin.ofNat 16 h.val = h := Fin.ext (Nat.mod_eq_of_lt h.isLt)

/-- Below the end of DRAM every initiator's access that passes is done. -/
theorem access_granted (ha : a < s.variant.dramTop) (h : s.memFault (s.reqOf who) (memWrites op) a (memLen op) = none) :
    s.access who a op = s.dramAccess (s.reqOf who) a op := by
  unfold State.access
  dsimp only
  rw [if_pos ha]
  cases who with
  | hart c m =>
    dsimp only
    unfold State.hartAccess
    dsimp only
    rw [ofNat_hart, h]
  | _ => rfl

/-- Whether an access fetches an instruction. -/
def isFetch (op : MemOp) : Bool := match op with | .fetch _ => true | _ => false

/-- What a refused access comes to, with its record and its error response: a hart's ends its frame in a vale, and is a fault where the data is
poisoned. -/
def refusedAccess (s : State) (who : Initiator) (op : MemOp) (c : Nat) (t : State) : State :=
  match who with
  | .hart k m => if (s.hart k.val).vale ≠ none then t.valeFault k.val else if c = Code.DRAM_POISON then t.poisonFault k.val m.virt (isFetch op) else t
  | _ => t

theorem access_refused {c x : Nat} (ha : a < s.variant.dramTop) (h : s.memFault (s.reqOf who) (memWrites op) a (memLen op) = some (c, x)) :
    s.access who a op = refusedAccess s who op c ((s.memRecord (s.reqOf who) (c, x)).errResp) := by
  unfold State.access
  dsimp only
  rw [if_pos ha]
  cases who with
  | hart k m =>
    dsimp only
    unfold State.hartAccess
    dsimp only
    rw [ofNat_hart, dramAccess_of_fault h, h]
    cases op <;> rfl
  | _ => exact dramAccess_of_fault h

/-! ### What a refusal leaves -/

theorem memRecord_errResp_dram {r : Nat × Nat} : ((s.memRecord q r).errResp).dram = s.dram := (memRecord_frame Frame.refl Cov.refl).dram (by decide)

theorem memRecord_errResp_hart {r : Nat × Nat} {h : Nat} : ((s.memRecord q r).errResp).hart h = s.hart h :=
  hart_congr ((memRecord_frame (s := s) (q := q) (r := r) Frame.refl Cov.refl).world (by decide))

/-- A refusal of the page owner table is an event of POT. -/
theorem memRecord_denied {c x : Nat} (h1 : c ≠ Code.DRAM_POISON) (h2 : c ≠ Code.DRAM_OFFLINE) (h3 : c ≠ Code.INST_NOT_RUNNING) :
    bit (((s.memRecord q (c, x)).errResp).rd (HDR.ev_raw .pot)) 9 = true := by
  have h : (s.memRecord q (c, x)).errResp.rd (HDR.ev_raw .pot) = (s.memRecord q (c, x)).rd (HDR.ev_raw .pot) := rd_with_resp
  rw [h]
  unfold State.memRecord
  rw [if_neg (fun k => k.elim h1 h2)]
  dsimp only
  rw [if_neg h3]
  exact raise_bit (by decide)

/-- Poisoned data outside a vale: an access fault, and nothing else. -/
theorem poisonFault_shown {h : Nat} {virt fetch : Bool} (hout : (s.hart h).vale = none) : (s.poisonFault h virt fetch).resp = s.resp ∧
    (s.poisonFault h virt fetch).dram = s.dram ∧
    ((s.poisonFault h virt fetch).hart h).trap.map (fun y => y.cause) = some (if fetch then 1 else 5) := by
  unfold State.poisonFault
  rw [hout]
  dsimp only
  unfold State.trapTo
  rw [hart_setHart]
  exact ⟨rfl, rfl, rfl⟩

/-- A vale's frame ends with cause 24, whether or not it can be written. -/
theorem valeFault_exits {h v : Nat} (hin : (s.hart h).vale = some v) : ((s.valeFault h).hart h).vale = none ∧
    ((s.valeFault h).hart h).trap = (s.hart h).trapFrom true false 24 0 0 (s.hart h).enterPc := by
  unfold State.valeFault
  dsimp only
  rw [hin]
  dsimp only
  rw [hart_setHart]
  exact ⟨rfl, rfl⟩

/-- Outside a vale a refusal is an error response that changes no byte, and an event where the page owner table refuses. -/
theorem refusedAccess_outside {u : State} {c x : Nat} (hout : (match who with | .hart h _ => (s.hart h.val).vale.isNone | _ => true) = true)
    (hdram : (senderAwake s who).dram = u.dram) :
    (refusedAccess (senderAwake s who) who op c (((senderAwake s who).memRecord q (c, x)).errResp)).resp = ⟨false, 0⟩ ∧
    (refusedAccess (senderAwake s who) who op c (((senderAwake s who).memRecord q (c, x)).errResp)).dram = u.dram ∧
    (c ≠ Code.DRAM_POISON → c ≠ Code.DRAM_OFFLINE → c ≠ Code.INST_NOT_RUNNING →
      bit ((refusedAccess (senderAwake s who) who op c (((senderAwake s who).memRecord q (c, x)).errResp)).rd (HDR.ev_raw .pot)) 9 = true) := by
  have plain : (((senderAwake s who).memRecord q (c, x)).errResp).resp = ⟨false, 0⟩ ∧
      (((senderAwake s who).memRecord q (c, x)).errResp).dram = u.dram ∧ (c ≠ Code.DRAM_POISON → c ≠ Code.DRAM_OFFLINE →
        c ≠ Code.INST_NOT_RUNNING → bit ((((senderAwake s who).memRecord q (c, x)).errResp).rd (HDR.ev_raw .pot)) 9 = true) :=
    ⟨rfl, memRecord_errResp_dram.trans hdram, memRecord_denied⟩
  cases who with
  | hart k m =>
    have hawake : ((senderAwake s (.hart k m)).hart k.val) = { s.hart k.val with wfi := false } := hart_setHart
    have hnone : (s.hart k.val).vale = none := Option.isNone_iff_eq_none.1 hout
    unfold refusedAccess
    dsimp only
    rw [hawake, if_neg (by rw [hnone]; decide)]
    split
    · next hc =>
      obtain ⟨hresp, hmem, -⟩ := poisonFault_shown (h := k.val) (virt := m.virt) (fetch := isFetch op)
        (s := ((senderAwake s (.hart k m)).memRecord q (c, x)).errResp) (by rw [memRecord_errResp_hart, hawake]; exact hnone)
      exact ⟨hresp.trans plain.1, hmem.trans plain.2.1, fun h => absurd hc h⟩
    · exact plain
  | _ => exact plain

/-! ### PCI Express functions -/

theorem pcie_unmapped {f : Fin 64} {bar2 : Bool} (h : 2 ≤ s.rd PWR.STATE.state ∧ s.rd PWR.STATE.state ≤ 4) :
    s.pcie f bar2 a op = { s.errResp with cpl := if memWrites op then none else some .unsupported } := by
  have hmap : s.pcieMapped f.val bar2 a = false := if_pos h
  unfold State.pcie
  rw [hmap]
  rfl

theorem pcie_bar2_read {f : Fin 64} {n : Nat} (hst : s.rd PWR.STATE.state ≤ 1) (hrec : s.on BOOT.BOOT_STAT.recovery = false)
    (hv : s.on MGR.VF_MAP.valid (b := f.val) = true) (hk : s.rd MGR.VF_MAP.inst (b := f.val) ≠ 0)
    (hi : s.instState (s.rd MGR.VF_MAP.inst (b := f.val)) ≠ 0) (ha : a < s.variant.dramTop)
    (hok : s.memFault { id := s.rd MGR.VF_MAP.inst (b := f.val), port := portPcie } false a n = none) : ∃ q,
    s.pcie f true a (.read n) = { (s.fetched q a n).okResp (leVal (s.readBytes a n)) with cpl := some .successful } := by
  refine ⟨{ id := s.rd MGR.VF_MAP.inst (b := f.val), port := portPcie }, ?_⟩
  have hmap : s.pcieMapped f.val true a = true := by
    unfold State.pcieMapped
    dsimp only
    rw [if_neg (by omega), hrec, if_neg (by rw [Bool.false_and]; decide), hv, Bool.true_and, bne_iff_ne.2 hk, bne_iff_ne.2 hi]
    rfl
  have hgo : s.pcieGo f.val true a (.read n) =
      (s.fetched { id := s.rd MGR.VF_MAP.inst (b := f.val), port := portPcie } a n).okResp (leVal (s.readBytes a n)) := by
    unfold State.pcieGo
    dsimp only
    rw [hrec, if_neg (by rw [Bool.false_and]; decide), if_pos rfl, if_pos ha, dramAccess_read hok]
  unfold State.pcie
  rw [hmap, hgo]
  rfl

end

/-! ### The obligation -/

/-- Settles O18: an access that passes is carried and done, and one that does not leaves its record and its answer. -/
theorem memoryAccesses : Obligations.MemoryAccesses := by
  unfold Obligations.MemoryAccesses
  have senderGranted : ∀ {s : State} {who : Initiator} {a : Addr} {op : MemOp}, a.toNat < s.variant.dramTop →
      s.memFault (s.reqOf who) (memWrites op) a.toNat (memLen op) = none →
      exec (.memoryAccess who a op) s = .next ((senderAwake s who).dramAccess (s.reqOf who) a.toNat op) := by
    intro s who a op ha h
    have hv : (senderAwake s who).variant = s.variant := by obtain ⟨x, hx⟩ := senderAwake_eq (s := s) (who := who); rw [hx]
    refine congrArg Host.Outcome.next ((access_granted (s := senderAwake s who) (by rw [hv]; exact ha) ?_).trans ?_)
    · rw [memFault_senderAwake, reqOf_senderAwake, h]
    · rw [reqOf_senderAwake]
  have same : ∀ {s : State} {who : Initiator}, (senderAwake s who).dram = s.dram ∧ (senderAwake s who).variant = s.variant ∧
      (senderAwake s who).faults = s.faults := by
    intro s who
    obtain ⟨x, hx⟩ := senderAwake_eq (s := s) (who := who)
    rw [hx]
    exact ⟨rfl, rfl, rfl⟩
  have fault : ∀ {s : State} {who : Initiator} {q : Req} {w : Bool} {a n : Nat} {o : Option (Nat × Nat)}, s.memFault q w a n = o →
      (senderAwake s who).memFault q w a n = o := fun h => memFault_senderAwake.trans h
  refine ⟨?read, ?write, ?refused, ?bar2, ?lowPower, ?vale, ?poison⟩
  case read =>
    intro s who a n ha h
    obtain ⟨hdram, -, hfaults⟩ := same (s := s) (who := who)
    refine ⟨_, (senderGranted ha h).trans (congrArg Host.Outcome.next (dramAccess_read (fault h))), ?_, ?_, ?_⟩
    · rw [readBytes_senderAwake]
      rfl
    · exact ((fetched_frame Frame.refl Cov.refl).dram (by decide)).trans hdram
    · exact ((fetched_frame Frame.refl Cov.refl).faults (by decide)).trans hfaults
  case write =>
    intro s who a d ha h
    obtain ⟨hdram, hv, -⟩ := same (s := s) (who := who)
    have hbytes : ∀ x, (((senderAwake s who).put (s.reqOf who) a.toNat d).okResp).byteAt x = ((senderAwake s who).wrBytes a.toNat d).byteAt x :=
      fun x => byteAt_congr (put_dram (s := senderAwake s who)) (put_variant.trans wrBytes_variant.symm)
    refine ⟨_, (senderGranted ha h).trans (congrArg Host.Outcome.next (dramAccess_write (fault h))), fun k hk => ?_, fun x hx => ?_, rfl⟩
    · rw [hbytes, byteAt_wrBytes_in hk, List.getD_eq_getElem?_getD, List.getElem?_eq_getElem hk, Option.getD_some]
    · rw [hbytes, byteAt_wrBytes_out hx]
      exact byteAt_congr hdram hv
  case refused =>
    intro s who a op c x ha h hout
    obtain ⟨hdram, hv, -⟩ := same (s := s) (who := who)
    refine ⟨_, congrArg Host.Outcome.next (access_refused (s := senderAwake s who) (c := c) (x := x) (by rw [hv]; exact ha)
      (by rw [reqOf_senderAwake]; exact fault h)), ?_⟩
    rw [reqOf_senderAwake]
    exact refusedAccess_outside hout hdram
  case bar2 =>
    intro s f off n hst hrec ⟨hv, hk, hi⟩ ha hok
    obtain ⟨q, hq⟩ := pcie_bar2_read hst hrec hv hk hi ha hok
    refine ⟨_, congrArg Host.Outcome.next hq, rfl, rfl, ?_⟩
    exact (fetched_frame Frame.refl Cov.refl).dram (by decide)
  case lowPower => exact fun s f bar2 off op h => ⟨_, congrArg Host.Outcome.next (pcie_unmapped h), rfl, rfl, rfl, rfl⟩
  case vale =>
    intro s h m a op c x v ha hf hin
    have hawake : ((senderAwake s (.hart h m)).hart h.val) = { s.hart h.val with wfi := false } := hart_setHart
    obtain ⟨hdram, hv, -⟩ := same (s := s) (who := .hart h m)
    refine ⟨_, congrArg Host.Outcome.next (access_refused (s := senderAwake s (.hart h m)) (c := c) (x := x) (by rw [hv]; exact ha)
      (by rw [reqOf_senderAwake]; exact fault hf)), ?_⟩
    unfold refusedAccess
    dsimp only
    rw [hawake, if_pos (by rw [hin]; exact Option.some_ne_none v)]
    obtain ⟨hvale, htrap⟩ := valeFault_exits (h := h.val) (v := v)
      (s := ((senderAwake s (.hart h m)).memRecord ((senderAwake s (.hart h m)).reqOf (.hart h m)) (c, x)).errResp)
      (by rw [memRecord_errResp_hart, hawake]; exact hin)
    refine ⟨hvale, htrap.trans ?_⟩
    rw [memRecord_errResp_hart, hawake]
    rfl
  case poison =>
    intro s h m a op x ha hf hout
    have hawake : ((senderAwake s (.hart h m)).hart h.val) = { s.hart h.val with wfi := false } := hart_setHart
    obtain ⟨hdram, hv, -⟩ := same (s := s) (who := .hart h m)
    refine ⟨_, congrArg Host.Outcome.next (access_refused (s := senderAwake s (.hart h m)) (c := Code.DRAM_POISON) (x := x)
      (by rw [hv]; exact ha) (by rw [reqOf_senderAwake]; exact fault hf)), ?_⟩
    unfold refusedAccess
    dsimp only
    rw [hawake, if_neg (by rw [hout]; decide), if_pos rfl]
    obtain ⟨hresp, hmem, htrap⟩ := poisonFault_shown (h := h.val) (virt := m.virt) (fetch := isFetch op)
      (s := ((senderAwake s (.hart h m)).memRecord ((senderAwake s (.hart h m)).reqOf (.hart h m)) (Code.DRAM_POISON, x)).errResp)
      (by rw [memRecord_errResp_hart, hawake]; exact hout)
    refine ⟨hmem.trans (memRecord_errResp_dram.trans hdram), by rw [hresp]; rfl, htrap.trans ?_⟩
    cases op <;> rfl

end Sys2Proof.Proofs

/-! The place of a DRAM fault on the safety fault line (R178, R223). -/

namespace Sys2Proof.Proofs

open Machine Laws

/-- An uncorrectable word of Lantern SRAM has been signalled in this very cycle. -/
def lanternSignalled : State := ({} : State).faultLine Code.SAFE_SRAM_UE .lantern 0 0

/-- What the fault line holds after a liveness test that found a mismatch there. -/
def lanternTested : State := match execLivenessTest true 0 lanternSignalled with
  | .next t => t
  | _ => lanternSignalled

/-- Refutes O20: signals of one cycle stand in block-type order, so the test's signal comes before Lantern's and is not the last on the line. -/
theorem not_dramRefreshAndReplay : ¬ Obligations.DramRefreshAndReplay := by
  unfold Obligations.DramRefreshAndReplay
  rintro ⟨-, -, -, -, -, -, liveness, -⟩
  obtain ⟨t, hexec, -, hlast⟩ := liveness lanternSignalled true 0 (.inl rfl)
  have hrun : exec (.livenessTest true 0) lanternSignalled = .next lanternTested := rfl
  have hfaults : lanternTested.faults.getLast?.map (fun g => (g.code, g.heads)) = some (Code.SAFE_SRAM_UE, 0) := by decide +kernel
  rw [← Host.Outcome.next.inj (hrun.symm.trans hexec), hfaults] at hlast
  exact absurd hlast (by decide)

end Sys2Proof.Proofs

/-! Requests to the DRAM controller: how they are accepted, picked and served (R160, R163 to R165, R170, R172). -/

namespace Sys2Proof.Proofs

open Machine Laws

section

variable {s : State} {n p : Nat}

/-! ### Waiting requests and poisoned lines -/

/-- What a request needs of the controller's state: the requests that wait and the poisoned lines. -/
def lines (s : State) : List DramWait × SMap Nat := (s.mem.pool, s.mem.poison)

theorem lines_of_mem {t : State} (h : t.mem = s.mem) : lines t = lines s := by
  unfold lines
  rw [h]

theorem pool_of_lines {t : State} (h : lines t = lines s) : t.mem.pool = s.mem.pool := congrArg Prod.fst h

theorem poison_of_lines {t : State} (h : lines t = lines s) : t.mem.poison = s.mem.poison := congrArg Prod.snd h

theorem lines_recErr {k : Blk} {i c r a : Nat} : lines (s.recErr k i c r a) = lines s := lines_of_mem (recErr_mem ..)
theorem lines_raise {k : Blk} {i m : Nat} : lines (s.raise k i m) = lines s := lines_of_mem (raise_mem ..)
theorem lines_wr {f : Fld} {v i j b : Nat} : lines (s.wr f v i j b) = lines s := lines_of_mem (wr_mem ..)
theorem lines_count {k : Blk} {i j m : Nat} : lines (s.count k i j m) = lines s := rfl

theorem lines_spareTrigger {l cause rid : Nat} : lines (s.spareTrigger n l cause rid) = lines s := by
  unfold State.spareTrigger
  split
  · rw [lines_raise, lines_recErr]
  · split
    · rw [lines_recErr, lines_wr]
      rfl
    · dsimp only
      rw [lines_raise, lines_wr, lines_wr, lines_wr, lines_wr]
      rfl

theorem lines_spareFail : lines (s.spareFail n) = lines s := lines_of_mem ((spareFail_frame Frame.refl Cov.refl).mem (by decide))

theorem lines_rankBad {cause : Nat} : lines (s.rankBad n p cause) = lines s := by
  unfold State.rankBad
  split
  · exact lines_spareFail
  · split
    · split
      · rfl
      · split
        · exact lines_spareTrigger
        · rfl
    · rfl

theorem lines_rankCorrected : lines (s.rankCorrected n p) = lines s := by
  unfold State.rankCorrected
  extract_lets l x s1 s2
  have h2 : lines s2 = lines s := by
    simp only [s2]
    rw [lines_raise, lines_count, lines_recErr]
    simp only [s1]
    rw [lines_wr]
    rfl
  split
  · rw [lines_rankBad, h2]
  · exact h2

theorem lines_rankUncorrectable {rid pa : Nat} : lines (s.rankUncorrectable n p rid pa) = lines s := by
  unfold State.rankUncorrectable
  dsimp only
  rw [lines_rankBad, lines_raise, lines_count, lines_recErr]

theorem lines_issueCmd {op rank line : Nat} {d : List Byte} : lines (s.issueCmd n op rank line d) = lines s := rfl

/-- A line that goes through a port leaves what waits and what is poisoned. -/
theorem lines_lineGo {port pa : Nat} {hint write : Bool} {d : List Byte} : lines (s.lineGo port hint pa write d) = lines s := by
  have hleave : ∀ {t : State}, lines (t.rowLeave pa port hint) = lines t := rfl
  have hcmds : ∀ {t : State}, lines (t.lineCmds pa write d) = lines t := by
    intro t
    unfold State.lineCmds
    extract_lets m line x s1
    have hx : lines x = lines t := by
      simp only [x]
      split <;> rfl
    have h1 : lines s1 = lines t := by
      simp only [s1]
      split
      · rfl
      · exact hx
    split
    · exact (foldl_same lines fun _ _ => lines_issueCmd).trans h1
    · rw [lines_issueCmd, h1]
  unfold State.lineGo
  dsimp only
  rw [hleave, hcmds, lines_count, lines_count, lines_count]

theorem lines_classify {port rid : Nat} {write crit : Bool} : lines (s.classify port rid write crit).2 = lines s := by
  unfold State.classify
  dsimp only
  split
  · rfl
  · split <;> rfl

/-! ### Counters of a subchannel -/

theorem counter_count_dram_ne {i m j v : Nat} (h : m % 128 ≠ j % 128) : (s.count .dram i m v).counter .dram n j = s.counter .dram n j :=
  counter_count_ne fun e => h (by unfold ctrKey at e; omega)

/-- A rank whose errors call for a copy counts, of all counters, copied lines alone. -/
theorem rankBad_counter {i cause j : Nat} (h : j % 128 ≠ 18) : (s.rankBad i p cause).counter .dram n j = s.counter .dram n j := by
  have htrigger : ∀ {l c r : Nat}, (s.spareTrigger i l c r).counter .dram n j = s.counter .dram n j := fun {_ _ _} =>
    (spareTrigger_frame Frame.refl Cov.refl).ctr .dram n j (by decide) (by decide)
  unfold State.rankBad
  split
  · unfold State.spareFail State.spareDrop
    rw [counter_recErr, counter_wr, counter_wr]
    split
    · exact counter_count_dram_ne (by omega)
    · rfl
  · split
    · split
      · rfl
      · split
        · exact htrigger
        · rfl
    · rfl

/-- A corrected error counts in the counters of corrected errors and copied lines alone. -/
theorem rankCorrected_counter {i j : Nat} (h : j % 128 ≠ 18) (hp : (5 + p) % 128 ≠ j % 128) :
    (s.rankCorrected i p).counter .dram n j = s.counter .dram n j := by
  unfold State.rankCorrected
  extract_lets l x s1 s2
  have h2 : s2.counter .dram n j = s.counter .dram n j := by
    simp only [s2]
    rw [counter_raise, counter_count_dram_ne hp, counter_recErr]
    simp only [s1]
    rw [counter_wr]
    rfl
  split
  · rw [rankBad_counter h, h2]
  · exact h2

theorem rankUncorrectable_counter {rid pa : Nat} (hp : (9 + p) % 128 ≠ 18) :
    (s.rankUncorrectable n p rid pa).counter .dram n (9 + p) = (s.counter .dram n (9 + p) + 1) % 2 ^ 64 := by
  unfold State.rankUncorrectable
  dsimp only
  rw [rankBad_counter hp, counter_raise, counter_count_same, counter_recErr]

/-- A line counts 64 bytes for its port and one access for its subchannel. -/
theorem lineGo_counter {port pa : Nat} {hint write : Bool} {d : List Byte} :
    (s.lineGo port hint pa write d).counter .dram (subchannel pa) (if write then 1 else 0) =
      (s.counter .dram (subchannel pa) (if write then 1 else 0) + 1) % 2 ^ 64 ∧
    (s.lineGo port hint pa write d).counter .dramq 0 port = (s.counter .dramq 0 port + 64) % 2 ^ 64 ∧
    ∀ j, j % 128 ≠ 0 → j % 128 ≠ 1 → j % 128 ≠ 15 → j % 128 ≠ 16 →
      (s.lineGo port hint pa write d).counter .dram n j = s.counter .dram n j := by
  have hafter : ∀ {t : State} {k : Blk} {i j : Nat}, ((t.lineCmds pa write d).rowLeave pa port hint).counter k i j = t.counter k i j :=
    fun {_ k i j} => (rowLeave_frame (lineCmds_frame Frame.refl Cov.refl) Cov.refl).ctr k i j (by simp [lineCmds_T]) (by simp [lineCmds_T])
  have hrow : ∀ {c : Bool} {d : Prop} [Decidable d], (if d then 15 else 16) % 128 ≠ (if c then 1 else 0) % 128 := by
    intro c d _
    split <;> cases c <;> decide
  unfold State.lineGo
  dsimp only
  refine ⟨?_, ?_, fun j h0 h1 h15 h16 => ?_⟩
  · rw [hafter, counter_count_dram_ne hrow, counter_count_same, counter_count_ne (ctrKey_ne (by decide))]
  · rw [hafter, counter_count_ne (ctrKey_ne (by decide)), counter_count_ne (ctrKey_ne (by decide)), counter_count_same]
  · rw [hafter, counter_count_dram_ne (by split <;> omega), counter_count_dram_ne (by split <;> omega), counter_count_ne (ctrKey_ne (by decide))]

/-! ### Serving one request -/

/-- What a read of a line comes to, beside its data: the waiting requests stay, and so do the poisoned lines but for one found uncorrectable. -/
theorem lineRead_clean {pa rid : Nat} (h : mget s.mem.poison (pa / 64) 0 = 0) : s.lineRead n pa rid .clean = (s, true) := by
  unfold State.lineRead
  rw [if_neg (not_not_intro h)]

theorem lineRead_ce {pa rid : Nat} (h : mget s.mem.poison (pa / 64) 0 = 0) :
    s.lineRead n pa rid .ce = (s.rankCorrected n (s.rankOf pa), true) := by
  unfold State.lineRead
  rw [if_neg (not_not_intro h)]

theorem lineRead_ue {pa rid : Nat} (h : mget s.mem.poison (pa / 64) 0 = 0) :
    s.lineRead n pa rid .ue = ((s.rankUncorrectable n (s.rankOf pa) rid pa).poisonLine (pa / 64), false) := by
  unfold State.lineRead
  rw [if_neg (not_not_intro h)]

theorem lineRead_poison {pa rid : Nat} {f : Ecc} (h : mget s.mem.poison (pa / 64) 0 ≠ 0) :
    s.lineRead n pa rid f = ((s.recErr .dram n Code.DRAM_POISON rid pa).count .dram n 14, false) := by
  unfold State.lineRead
  rw [if_pos h]

/-- A read never changes what waits. -/
theorem lineRead_pool {pa rid : Nat} {f : Ecc} : (s.lineRead n pa rid f).1.mem.pool = s.mem.pool := by
  have hpoison : ∀ (t : State) (l : Nat), (t.poisonLine l).mem.pool = t.mem.pool := fun _ _ => rfl
  by_cases h : mget s.mem.poison (pa / 64) 0 = 0
  · cases f with
    | clean => rw [lineRead_clean h]
    | ce => rw [lineRead_ce h]; exact pool_of_lines lines_rankCorrected
    | ue => rw [lineRead_ue h]; exact (hpoison ..).trans (pool_of_lines lines_rankUncorrectable)
  · rw [lineRead_poison h]
    exact pool_of_lines (lines_count.trans lines_recErr)

/-- A physical rank is one of four. -/
theorem rankOf_lt {pa : Nat} : s.rankOf pa < 4 := Nat.mod_lt _ (by decide)

variable {w : DramWait} {f : Ecc}

/-- What a served request leaves waiting. -/
theorem dramIssue_pool : (s.dramIssue w f).mem.pool = s.mem.pool := by
  unfold State.dramIssue
  extract_lets r pa m port s1
  have h1 : s1.mem.pool = s.mem.pool := by
    simp only [s1]
    split <;> rfl
  clear_value s1
  have hgo : ∀ {t : State} {write : Bool} {d : List Byte}, (t.lineGo port r.hint pa write d).mem.pool = t.mem.pool :=
    fun {_ _ _} => pool_of_lines lines_lineGo
  have hread := (lineRead_pool (s := s1.lineGo port r.hint pa false []) (n := m) (pa := pa) (rid := r.rid.toNat) (f := f)).trans (hgo.trans h1)
  split
  · exact h1
  · split
    · split
      all_goals
        next heq =>
          rw [heq] at hread
          exact hread
    · split
      · refine hgo.trans ?_
        have hstore : (s1.store pa r.data).mem.pool = s1.mem.pool := by
          have hw : (s1.wrBytes pa r.data).mem.pool = s1.mem.pool :=
            congrArg DramSt.pool ((wrBytes_frame (Frame.refl (L := [.dram])) Cov.refl).mem (by decide))
          unfold State.store State.clearPoison
          generalize s1.wrBytes pa r.data = u at hw ⊢
          dsimp only
          split <;> exact hw
        exact hstore.trans h1
      · split
        · next heq =>
          rw [heq] at hread
          refine hgo.trans ?_
          exact (congrArg DramSt.pool ((wrBytes_frame (Frame.refl (L := [.dram])) Cov.refl).mem (by decide))).trans hread
        · next heq =>
          rw [heq] at hread
          exact hread

/-- A request that does not wait long enough to be urgent, at a subchannel that is online, is served by its line. -/
theorem dramIssue_line (hurg : s.waitUrgency w ≠ 3) (hon : s.on DRAM.SUB_STAT.offline (subchannel w.req.pa.toNat) = false)
    (htop : w.req.pa.toNat < s.variant.dramTop) : s.dramIssue w f =
      if w.req.write = false then
        match (s.lineGo w.req.port.val w.req.hint w.req.pa.toNat false []).lineRead (subchannel w.req.pa.toNat) w.req.pa.toNat w.req.rid.toNat f with
        | (t, true) => t.okResp (t.rdMem (w.req.pa.toNat / 64 * 64) 64)
        | (t, false) => t.errResp
      else if w.req.pa.toNat % 64 = 0 ∧ w.req.data.length = 64 then
        ((s.store w.req.pa.toNat w.req.data).lineGo w.req.port.val w.req.hint w.req.pa.toNat true w.req.data).okResp
      else
        match (s.lineGo w.req.port.val w.req.hint w.req.pa.toNat false []).lineRead (subchannel w.req.pa.toNat) w.req.pa.toNat w.req.rid.toNat f with
        | (t, true) =>
          ((t.wrBytes w.req.pa.toNat (w.req.data.take (64 - w.req.pa.toNat % 64))).lineGo w.req.port.val w.req.hint w.req.pa.toNat true
            ((t.wrBytes w.req.pa.toNat (w.req.data.take (64 - w.req.pa.toNat % 64))).rdBytes (w.req.pa.toNat / 64 * 64) 64)).okResp
        | (t, false) => t.errResp := by
  unfold State.dramIssue
  dsimp only
  rw [if_neg hurg, hon, if_neg (fun h => h.elim (fun h => absurd h (by decide)) (Nat.not_le.2 htop))]
  cases w.req.write <;> rfl

/-- A line that goes through a port leaves memory as it was. -/
theorem lineGo_dram {port pa : Nat} {hint write : Bool} {d : List Byte} : (s.lineGo port hint pa write d).dram = s.dram ∧
    (s.lineGo port hint pa write d).variant = s.variant :=
  ⟨(lineGo_frame Frame.refl Cov.refl).dram (by decide), (lineGo_frame Frame.refl Cov.refl).variant⟩

theorem lineGo_poison {port pa : Nat} {hint write : Bool} {d : List Byte} : (s.lineGo port hint pa write d).mem.poison = s.mem.poison :=
  poison_of_lines lines_lineGo

section

variable (hurg : s.waitUrgency w ≠ 3) (hon : s.on DRAM.SUB_STAT.offline (subchannel w.req.pa.toNat) = false)
  (htop : w.req.pa.toNat < s.variant.dramTop)

include hurg hon htop

/-- A read that ECC finds clean or corrected answers the line, and counts. -/
theorem dramIssue_read (hw : w.req.write = false) (hp : mget s.mem.poison (w.req.pa.toNat / 64) 0 = 0) (hf : f ≠ .ue) :
    (s.dramIssue w f).resp = ⟨true, s.rdMem (w.req.pa.toNat / 64 * 64) 64⟩ ∧ (s.dramIssue w f).dram = s.dram ∧
    (s.dramIssue w f).counter .dram (subchannel w.req.pa.toNat) 0 = (s.counter .dram (subchannel w.req.pa.toNat) 0 + 1) % 2 ^ 64 ∧
    (s.dramIssue w f).counter .dramq 0 w.req.port.val = (s.counter .dramq 0 w.req.port.val + 64) % 2 ^ 64 := by
  obtain ⟨hn, hq, -⟩ := lineGo_counter (s := s) (n := 0) (port := w.req.port.val) (pa := w.req.pa.toNat) (hint := w.req.hint) (write := false)
    (d := [])
  obtain ⟨hdram, hvariant⟩ := lineGo_dram (s := s) (port := w.req.port.val) (pa := w.req.pa.toNat) (hint := w.req.hint) (write := false) (d := [])
  have hp' := (congrArg (fun m => mget m (w.req.pa.toNat / 64) 0) (lineGo_poison (s := s) (port := w.req.port.val) (pa := w.req.pa.toNat)
    (hint := w.req.hint) (write := false) (d := []))).trans hp
  rw [dramIssue_line hurg hon htop, if_pos hw]
  generalize s.lineGo w.req.port.val w.req.hint w.req.pa.toNat false [] = t at *
  cases f with
  | clean =>
    have hmem : t.rdMem (w.req.pa.toNat / 64 * 64) 64 = s.rdMem (w.req.pa.toNat / 64 * 64) 64 := rdMem_congr hdram hvariant
    rw [lineRead_clean hp']
    dsimp only
    rw [hmem]
    exact ⟨rfl, hdram, hn, hq⟩
  | ce =>
    rw [lineRead_ce hp']
    have hframe := rankCorrected_frame (s := t) (n := subchannel w.req.pa.toNat) (p := t.rankOf w.req.pa.toNat) Frame.refl Cov.refl
    have hd := (hframe.dram (by decide)).trans hdram
    have hlt := rankOf_lt (s := t) (pa := w.req.pa.toNat)
    have hctr := (rankCorrected_counter (s := t) (n := subchannel w.req.pa.toNat) (i := subchannel w.req.pa.toNat)
      (p := t.rankOf w.req.pa.toNat) (j := 0) (by decide) (by omega)).trans hn
    have hport := (hframe.ctr .dramq 0 w.req.port.val (by decide) (by decide)).trans hq
    have hv := hframe.variant.trans hvariant
    clear hframe
    dsimp only
    generalize t.rankCorrected (subchannel w.req.pa.toNat) (t.rankOf w.req.pa.toNat) = v at *
    have hmem : v.rdMem (w.req.pa.toNat / 64 * 64) 64 = s.rdMem (w.req.pa.toNat / 64 * 64) 64 := rdMem_congr hd hv
    rw [hmem]
    exact ⟨rfl, hd, hctr, hport⟩
  | ue => exact absurd rfl hf

/-- A read of a poisoned line answers an error, and counts. -/
theorem dramIssue_readPoison (hw : w.req.write = false) (hp : mget s.mem.poison (w.req.pa.toNat / 64) 0 ≠ 0) :
    (s.dramIssue w f).resp = ⟨false, 0⟩ ∧
    (s.dramIssue w f).counter .dram (subchannel w.req.pa.toNat) 14 = (s.counter .dram (subchannel w.req.pa.toNat) 14 + 1) % 2 ^ 64 := by
  obtain ⟨-, -, hother⟩ := lineGo_counter (s := s) (n := subchannel w.req.pa.toNat) (port := w.req.port.val) (pa := w.req.pa.toNat)
    (hint := w.req.hint) (write := false) (d := [])
  have hp' : mget (s.lineGo w.req.port.val w.req.hint w.req.pa.toNat false []).mem.poison (w.req.pa.toNat / 64) 0 ≠ 0 := by
    rw [lineGo_poison]
    exact hp
  rw [dramIssue_line hurg hon htop, if_pos hw, lineRead_poison hp']
  refine ⟨rfl, ?_⟩
  dsimp only
  refine (counter_count_same ..).trans ?_
  rw [counter_recErr, hother 14 (by decide) (by decide) (by decide) (by decide)]

/-- A line found uncorrectable answers an error, is poisoned from then on, and counts for its physical rank. -/
theorem dramIssue_readBad (hw : w.req.write = false) (hp : mget s.mem.poison (w.req.pa.toNat / 64) 0 = 0) :
    (s.dramIssue w .ue).resp = ⟨false, 0⟩ ∧ mget (s.dramIssue w .ue).mem.poison (w.req.pa.toNat / 64) 0 = 1 ∧
    (s.dramIssue w .ue).counter .dram (subchannel w.req.pa.toNat) (9 + s.rankOf w.req.pa.toNat) =
      (s.counter .dram (subchannel w.req.pa.toNat) (9 + s.rankOf w.req.pa.toNat) + 1) % 2 ^ 64 := by
  have hlt := rankOf_lt (s := s) (pa := w.req.pa.toNat)
  obtain ⟨-, -, hother⟩ := lineGo_counter (s := s) (n := subchannel w.req.pa.toNat) (port := w.req.port.val) (pa := w.req.pa.toNat)
    (hint := w.req.hint) (write := false) (d := [])
  have hctr := hother (9 + s.rankOf w.req.pa.toNat) (by omega) (by omega) (by omega) (by omega)
  have hp' : mget (s.lineGo w.req.port.val w.req.hint w.req.pa.toNat false []).mem.poison (w.req.pa.toNat / 64) 0 = 0 := by
    rw [lineGo_poison]
    exact hp
  have hrank : (s.lineGo w.req.port.val w.req.hint w.req.pa.toNat false []).rankOf w.req.pa.toNat = s.rankOf w.req.pa.toNat := by
    unfold State.rankOf State.physRank State.logicalRank
    rw [rd_clear (lineGo_frame Frame.refl Cov.refl) (by decide), lineGo_dram.2]
  rw [dramIssue_line hurg hon htop, if_pos hw, lineRead_ue hp', hrank]
  generalize s.lineGo w.req.port.val w.req.hint w.req.pa.toNat false [] = t at *
  have hcount := rankUncorrectable_counter (s := t) (n := subchannel w.req.pa.toNat) (p := s.rankOf w.req.pa.toNat) (rid := w.req.rid.toNat)
    (pa := w.req.pa.toNat) (by omega)
  rw [hctr] at hcount
  dsimp only
  generalize t.rankUncorrectable (subchannel w.req.pa.toNat) (s.rankOf w.req.pa.toNat) w.req.rid.toNat w.req.pa.toNat = v at *
  exact ⟨rfl, mget_mset_same, hcount⟩

/-- A full-line write replaces the line and its poison, and counts. -/
theorem dramIssue_writeLine (hw : w.req.write = true) (hline : w.req.pa.toNat % 64 = 0 ∧ w.req.data.length = 64) :
    (s.dramIssue w f).resp.ok = true ∧ (s.dramIssue w f).rdBytes w.req.pa.toNat 64 = w.req.data ∧
    mget (s.dramIssue w f).mem.poison (w.req.pa.toNat / 64) 0 = 0 ∧
    (s.dramIssue w f).counter .dram (subchannel w.req.pa.toNat) 1 = (s.counter .dram (subchannel w.req.pa.toNat) 1 + 1) % 2 ^ 64 := by
  rw [dramIssue_line hurg hon htop, if_neg (by rw [hw]; decide), if_pos hline]
  obtain ⟨hal, hlen⟩ := hline
  obtain ⟨hn, -⟩ := lineGo_counter (s := s.store w.req.pa.toNat w.req.data) (n := 0) (port := w.req.port.val) (pa := w.req.pa.toNat)
    (hint := w.req.hint) (write := true) (d := w.req.data)
  obtain ⟨hdram, hvariant⟩ := lineGo_dram (s := s.store w.req.pa.toNat w.req.data) (port := w.req.port.val) (pa := w.req.pa.toNat)
    (hint := w.req.hint) (write := true) (d := w.req.data)
  have hbytes : (s.store w.req.pa.toNat w.req.data).rdBytes w.req.pa.toNat 64 = w.req.data := by
    have hsame := rdBytes_wrBytes_same (s := s) (a := w.req.pa.toNat) (d := w.req.data)
    rw [hlen] at hsame
    exact (rdBytes_congr store_dram (store_variant.trans wrBytes_variant.symm)).trans hsame
  have hpoison : mget (s.store w.req.pa.toNat w.req.data).mem.poison (w.req.pa.toNat / 64) 0 = 0 := by
    unfold State.store State.clearPoison
    rw [hlen]
    dsimp only
    rw [if_pos (by omega)]
    exact mget_mdrop_in ⟨by omega, by omega⟩
  rw [← lineGo_poison (port := w.req.port.val) (pa := w.req.pa.toNat) (hint := w.req.hint) (write := true) (d := w.req.data)] at hpoison
  have hctr := (store_frame (s := s) (a := w.req.pa.toNat) (d := w.req.data) Frame.refl Cov.refl).ctr .dram (subchannel w.req.pa.toNat) 1
    (by decide) (by decide)
  have hn' := hn.trans (congrArg (fun m => (m + 1) % 2 ^ 64) hctr)
  rw [← rdBytes_congr hdram hvariant] at hbytes
  clear hctr hdram hvariant hn
  generalize (s.store w.req.pa.toNat w.req.data).lineGo w.req.port.val w.req.hint w.req.pa.toNat true w.req.data = v at *
  exact ⟨rfl, hbytes, hpoison, hn'⟩

/-- A write of one byte to a line that ECC finds clean merges it. -/
theorem dramIssue_writeByte {x : Byte} (hw : w.req.write = true) (hx : w.req.data = [x]) (hp : mget s.mem.poison (w.req.pa.toNat / 64) 0 = 0) :
    (s.dramIssue w .clean).resp.ok = true ∧ (s.dramIssue w .clean).byteAt w.req.pa.toNat = x ∧
    ∀ a, a ≠ w.req.pa.toNat → (s.dramIssue w .clean).byteAt a = s.byteAt a := by
  obtain ⟨hdram, hvariant⟩ := lineGo_dram (s := s) (port := w.req.port.val) (pa := w.req.pa.toNat) (hint := w.req.hint) (write := false) (d := [])
  have hp' : mget (s.lineGo w.req.port.val w.req.hint w.req.pa.toNat false []).mem.poison (w.req.pa.toNat / 64) 0 = 0 := by
    rw [lineGo_poison]
    exact hp
  have htake : w.req.data.take (64 - w.req.pa.toNat % 64) = [x] := by
    rw [hx]
    exact List.take_of_length_le (by rw [List.length_singleton]; omega)
  rw [dramIssue_line hurg hon htop, if_neg (by rw [hw]; decide), if_neg (by rw [hx, List.length_singleton]; omega),
    lineRead_clean hp']
  dsimp only
  rw [htake]
  generalize s.lineGo w.req.port.val w.req.hint w.req.pa.toNat false [] = t at *
  have hbyte : ∀ a, (((t.wrBytes w.req.pa.toNat [x]).lineGo w.req.port.val w.req.hint w.req.pa.toNat true
      ((t.wrBytes w.req.pa.toNat [x]).rdBytes (w.req.pa.toNat / 64 * 64) 64)).okResp).byteAt a = (t.wrBytes w.req.pa.toNat [x]).byteAt a :=
    fun a => byteAt_congr (lineGo_dram (hint := w.req.hint)).1 (lineGo_dram (hint := w.req.hint)).2
  refine ⟨rfl, ?_, fun a ha => ?_⟩
  · rw [hbyte]
    exact byteAt_setByte_same
  · rw [hbyte]
    exact (byteAt_setByte_ne (Ne.symm ha)).trans (byteAt_congr hdram hvariant)

end

/-- A request of a subchannel that is offline gets an error response. -/
theorem dramIssue_offline (hon : s.on DRAM.SUB_STAT.offline (subchannel w.req.pa.toNat) = true) :
    (s.dramIssue w f).resp = ⟨false, 0⟩ ∧ (s.dramIssue w f).dram = s.dram := by
  unfold State.dramIssue
  extract_lets r pa m port s1
  have h1 : s1.on DRAM.SUB_STAT.offline m = true := by
    simp only [s1]
    split <;> exact hon
  have hd : s1.dram = s.dram := by
    simp only [s1]
    split <;> rfl
  rw [if_pos (.inl h1)]
  exact ⟨rfl, hd⟩

/-! ### The command slot -/

/-- The one request of a subchannel is picked. -/
theorem pick_single (hpool : s.mem.pool = [w]) (hsub : subchannel w.req.pa.toNat = n) : s.pick n 0 = some (0, w) := by
  have hissue : s.issuable n 0 = [(0, w)] := by
    unfold State.issuable
    rw [hpool]
    have hbit : bit 0 0 = false := rfl
    simp [hsub, hbit, List.range_succ]
  unfold State.pick
  rw [hissue]
  split <;> rfl

/-- Two requests of different lines may both be issued. -/
theorem issuable_pair {a b : DramWait} (hpool : s.mem.pool = [a, b]) (ha : subchannel a.req.pa.toNat = n) (hb : subchannel b.req.pa.toNat = n)
    (hne : a.req.pa.toNat / 64 ≠ b.req.pa.toNat / 64) : s.issuable n 0 = [(0, a), (1, b)] := by
  have hbit : ∀ k, bit 0 k = false := fun k => Nat.zero_testBit k
  unfold State.issuable
  rw [hpool]
  simp [ha, hb, hbit, hne, List.range_succ]

/-- The slot takes the one whose key is lower, and the older of equals. -/
theorem pick_pair {a b : DramWait} (hissue : s.issuable n 0 = [(0, a), (1, b)]) (hslot : mget s.mem.slots n 0 ≠ 31) :
    s.pick n 0 = some (if s.pickKey b < s.pickKey a then (1, b) else (0, a)) := by
  unfold State.pick
  rw [if_neg hslot, hissue]
  change (if s.pickKey b < s.pickKey a then some (1, b) else some (0, a)) = _
  split <;> rfl

/-- In one slot of every 32 it takes the older. -/
theorem pick_oldest {a b : DramWait} (hissue : s.issuable n 0 = [(0, a), (1, b)]) (hslot : mget s.mem.slots n 0 = 31) :
    s.pick n 0 = some (0, a) := by
  unfold State.pick
  rw [if_pos hslot, hissue]
  rfl

/-- A slot that serves what it picked. -/
def slotState (s : State) (n k : Nat) : State :=
  { s with mem := { s.mem with slots := mset s.mem.slots n ((mget s.mem.slots n 0 + 1) % 32) 0, pool := s.mem.pool.eraseIdx k } }

theorem dramSlot_of_pick {k blocked : Nat} (hretrain : mget s.mem.retrain n 0 = 0) (hpick : s.pick n blocked = some (k, w)) :
    s.dramSlot n blocked f = (slotState s n k).dramIssue w f := by
  unfold State.dramSlot
  rw [if_neg (not_not_intro hretrain), hpick]
  rfl

/-- A request that has not waited has no urgency. -/
theorem urgency_zero {target : Nat} : urgency target 0 ≠ 3 := by
  unfold urgency
  by_cases h : target = 0
  · rw [if_pos h]
    decide
  · rw [if_neg h, if_neg (by omega), if_neg (by omega), if_neg (by omega)]
    decide

/-- Accepting a request leaves memory and what the subchannels do. -/
theorem dramAccept_waits {r : DramReq} : (s.dramAccept r).mem.pool.length = s.mem.pool.length + 1 ∧ (s.dramAccept r).dram = s.dram ∧
    (s.dramAccept r).mem.retrain = s.mem.retrain := by
  have hlines := pool_of_lines (lines_classify (s := s) (port := r.port.val) (rid := r.rid.toNat) (write := r.write) (crit := r.critical))
  have hretrain : (s.classify r.port.val r.rid.toNat r.write r.critical).2.mem.retrain = s.mem.retrain := by
    unfold State.classify
    dsimp only
    split
    · rfl
    · split <;> rfl
  refine ⟨?_, (dramAccept_frame Frame.refl Cov.refl).dram (by decide), hretrain⟩
  unfold State.dramAccept
  dsimp only
  rw [hlines, List.length_append, List.length_singleton]

theorem dramAccept_all {l : List DramReq} : (l.foldl State.dramAccept s).mem.pool.length = s.mem.pool.length + l.length ∧
    (l.foldl State.dramAccept s).dram = s.dram ∧ (l.foldl State.dramAccept s).mem.retrain = s.mem.retrain := by
  induction l generalizing s with
  | nil => exact ⟨rfl, rfl, rfl⟩
  | cons r l ih =>
    obtain ⟨hlen, hdram, hretrain⟩ := dramAccept_waits (s := s) (r := r)
    obtain ⟨ilen, idram, iretrain⟩ := ih (s := s.dramAccept r)
    rw [List.foldl_cons, List.length_cons]
    exact ⟨by omega, idram.trans hdram, iretrain.trans hretrain⟩

/-- One request that arrives at an idle subchannel is the one its slot serves. -/
theorem dramRequest_single {n : Fin 8} {r : DramReq} (hpool : s.mem.pool = []) (hsub : subchannel r.pa.toNat = n.val)
    (hretrain : mget s.mem.retrain n.val 0 = 0) : ∃ u w, exec (.dramRequest n [r] 0 f) s = .next (u.dramIssue w f) ∧ w.req = r ∧
      Frame [.mem] s u ∧ u.mem.pool = [] ∧ u.mem.poison = s.mem.poison ∧ u.waitUrgency w ≠ 3 := by
  obtain ⟨c, u, hc⟩ : ∃ c u, s.classify r.port.val r.rid.toNat r.write r.critical = (c, u) := ⟨_, _, rfl⟩
  have hu : u = (s.classify r.port.val r.rid.toNat r.write r.critical).2 := by rw [hc]
  have hframe : Frame [.mem] s u := by
    rw [hu]
    exact classify_frame Frame.refl Cov.refl
  have hlines : lines u = lines s := by
    rw [hu]
    exact lines_classify
  have hslots : u.mem.retrain = s.mem.retrain := by
    rw [hu]
    unfold State.classify
    dsimp only
    split
    · rfl
    · split <;> rfl
  have hpool' : u.mem.pool = [] := (pool_of_lines hlines).trans hpool
  have haccept : s.dramAccept r = { u with mem := { u.mem with pool := [⟨r, c, s.now, s.rd POT.CMD_STAT.epoch⟩] } } := by
    unfold State.dramAccept
    dsimp only
    rw [hc]
    dsimp only
    rw [hpool']
    rfl
  refine ⟨slotState (s.dramAccept r) n.val 0, ⟨r, c, s.now, s.rd POT.CMD_STAT.epoch⟩, ?_, rfl, ?_, ?_, ?_, ?_⟩
  · refine congrArg Host.Outcome.next (dramSlot_of_pick ?_ (pick_single ?_ hsub))
    · change mget (s.dramAccept r).mem.retrain n.val 0 = 0
      rw [haccept]
      change mget u.mem.retrain n.val 0 = 0
      rw [hslots, hretrain]
    · change (s.dramAccept r).mem.pool = _
      rw [haccept]
  · rw [haccept]
    exact Frame.upd (Frame.upd hframe (m_mem := .inl (by decide))) (m_mem := .inl (by decide))
  · rw [haccept]
    rfl
  · have hpoison := poison_of_lines hlines
    rw [haccept]
    exact hpoison
  · have hnow : (slotState (s.dramAccept r) n.val 0).now = s.now := by
      rw [haccept]
      exact now_congr (hframe.time (by decide))
    unfold State.waitUrgency
    rw [hnow, Nat.sub_self]
    exact urgency_zero

end

/-! ### The obligation -/

/-- Settles O19: a request that arrives alone is the one its slot serves, and the slot picks of two by their keys. -/
theorem dramRequests : Obligations.DramRequests := by
  unfold Obligations.DramRequests
  refine ⟨?read, ?writeLine, ?writeByte, ?poisoned, ?bad, ?offline, ?pick, ?oldest, ?retrain⟩
  case read =>
    intro s n r f ⟨hpool, hsub, hret⟩ ⟨htop, hon⟩ hw hp hf
    obtain ⟨u, w, hexec, rfl, hframe, hupool, hupoison, hurg⟩ := dramRequest_single (f := f) hpool hsub hret
    have hon' : u.on DRAM.SUB_STAT.offline (subchannel w.req.pa.toNat) = false := by rw [on_clear hframe (by decide), hsub, hon]
    obtain ⟨hresp, hdram, hn, hq⟩ := dramIssue_read hurg hon' (by rw [hframe.variant]; exact htop) hw (by rw [hupoison, hp]) hf
    rw [hsub] at hn
    refine ⟨_, hexec, ?_, hdram.trans (hframe.dram (by decide)), dramIssue_pool.trans hupool, ?_, ?_⟩
    · rw [hresp, rdMem_congr (hframe.dram (by decide)) hframe.variant]
    · rw [hn, hframe.ctr .dram _ _ (by decide) (by decide)]
    · rw [hq, hframe.ctr .dramq _ _ (by decide) (by decide)]
  case writeLine =>
    intro s n r f ⟨hpool, hsub, hret⟩ ⟨htop, hon⟩ hw hline
    obtain ⟨u, w, hexec, rfl, hframe, hupool, hupoison, hurg⟩ := dramRequest_single (f := f) hpool hsub hret
    have hon' : u.on DRAM.SUB_STAT.offline (subchannel w.req.pa.toNat) = false := by rw [on_clear hframe (by decide), hsub, hon]
    obtain ⟨hresp, hbytes, hpoison, hn⟩ := dramIssue_writeLine (f := f) hurg hon' (by rw [hframe.variant]; exact htop) hw hline
    rw [hsub] at hn
    exact ⟨_, hexec, hresp, hbytes, hpoison, by rw [hn, hframe.ctr .dram _ _ (by decide) (by decide)]⟩
  case writeByte =>
    intro s n r x ⟨hpool, hsub, hret⟩ ⟨htop, hon⟩ ⟨hw, hx⟩ hp
    obtain ⟨u, w, hexec, rfl, hframe, hupool, hupoison, hurg⟩ := dramRequest_single (f := .clean) hpool hsub hret
    have hon' : u.on DRAM.SUB_STAT.offline (subchannel w.req.pa.toNat) = false := by rw [on_clear hframe (by decide), hsub, hon]
    obtain ⟨hresp, hbyte, hother⟩ := dramIssue_writeByte hurg hon' (by rw [hframe.variant]; exact htop) hw hx (by rw [hupoison, hp])
    exact ⟨_, hexec, hresp, hbyte, fun a ha => (hother a ha).trans (byteAt_congr (hframe.dram (by decide)) hframe.variant)⟩
  case poisoned =>
    intro s n r f ⟨hpool, hsub, hret⟩ ⟨htop, hon⟩ hw hp
    obtain ⟨u, w, hexec, rfl, hframe, hupool, hupoison, hurg⟩ := dramRequest_single (f := f) hpool hsub hret
    have hon' : u.on DRAM.SUB_STAT.offline (subchannel w.req.pa.toNat) = false := by rw [on_clear hframe (by decide), hsub, hon]
    obtain ⟨hresp, hn⟩ := dramIssue_readPoison (f := f) hurg hon' (by rw [hframe.variant]; exact htop) hw (by rw [hupoison]; exact hp)
    rw [hsub] at hn
    exact ⟨_, hexec, hresp, by rw [hn, hframe.ctr .dram _ _ (by decide) (by decide)]⟩
  case bad =>
    intro s n r ⟨hpool, hsub, hret⟩ ⟨htop, hon⟩ hw hp
    obtain ⟨u, w, hexec, rfl, hframe, hupool, hupoison, hurg⟩ := dramRequest_single (f := .ue) hpool hsub hret
    have hon' : u.on DRAM.SUB_STAT.offline (subchannel w.req.pa.toNat) = false := by rw [on_clear hframe (by decide), hsub, hon]
    obtain ⟨hresp, hline, hn⟩ := dramIssue_readBad hurg hon' (by rw [hframe.variant]; exact htop) hw (by rw [hupoison, hp])
    have hrank : u.rankOf w.req.pa.toNat = s.rankOf w.req.pa.toNat := by
      unfold State.rankOf State.physRank State.logicalRank
      rw [rd_clear hframe (by decide), hframe.variant]
    rw [hsub, hrank] at hn
    exact ⟨_, hexec, hresp, hline, by rw [hn, hframe.ctr .dram _ _ (by decide) (by decide)]⟩
  case offline =>
    intro s n r f ⟨hpool, hsub, hret⟩ hon
    obtain ⟨u, w, hexec, rfl, hframe, hupool, hupoison, hurg⟩ := dramRequest_single (f := f) hpool hsub hret
    obtain ⟨hresp, hdram⟩ := dramIssue_offline (s := u) (w := w) (f := f) (by rw [on_clear hframe (by decide), hsub, hon])
    exact ⟨_, hexec, hresp, hdram.trans (hframe.dram (by decide))⟩
  case pick =>
    intro s n a b f ⟨hpool, hret⟩ ⟨ha, hb⟩ hne hslot
    have hpick := pick_pair (issuable_pair hpool ha hb hne) hslot
    by_cases hkey : s.pickKey b < s.pickKey a
    · rw [if_pos hkey] at hpick ⊢
      refine ⟨_, congrArg Host.Outcome.next (dramSlot_of_pick hret hpick), dramIssue_pool.trans ?_⟩
      change s.mem.pool.eraseIdx 1 = [a]
      rw [hpool]
      rfl
    · rw [if_neg hkey] at hpick ⊢
      refine ⟨_, congrArg Host.Outcome.next (dramSlot_of_pick hret hpick), dramIssue_pool.trans ?_⟩
      change s.mem.pool.eraseIdx 0 = [b]
      rw [hpool]
      rfl
  case oldest =>
    intro s n a b f ⟨hpool, hret⟩ ⟨ha, hb⟩ hne hslot
    have hpick := pick_oldest (issuable_pair hpool ha hb hne) hslot
    refine ⟨_, congrArg Host.Outcome.next (dramSlot_of_pick hret hpick), dramIssue_pool.trans ?_⟩
    change s.mem.pool.eraseIdx 0 = [b]
    rw [hpool]
    rfl
  case retrain =>
    intro s n l k f hret
    obtain ⟨hlen, hdram, hret'⟩ := dramAccept_all (s := s) (l := l)
    refine ⟨l.foldl State.dramAccept s, congrArg Host.Outcome.next ?_, hlen, hdram⟩
    unfold State.dramSlot
    rw [if_pos (by rw [hret']; exact hret)]

end Sys2Proof.Proofs

/-! Rank sparing, admission of reservations, and the windows that measure them (R166 to R168, R173 to R177). -/

namespace Sys2Proof.Proofs

open Machine Laws

section

variable {s : State} {n l cause rid : Nat}

/-! ### Rank sparing -/

/-- A trigger that nothing turns away, outside an entry, starts the copy of its rank. -/
theorem spareTrigger_starts (hstate : s.rd DRAM.SPARE_STAT.state n ≠ 1 ∧ s.rd DRAM.SPARE_STAT.state n ≠ 2)
    (hspare : s.on DRAM.SUB_STAT.spare_avail n = true) (hentry : s.entryBeforeCommit = false) :
    s.spareBad n = none ∧ (s.spareTrigger n l cause rid).rd DRAM.SPARE_STAT.state n = 1 ∧
      (s.spareTrigger n l cause rid).rd DRAM.SPARE_STAT.rank n = l % 4 ∧ (s.spareTrigger n l cause rid).rd DRAM.SPARE_STAT.cause n = cause % 4 ∧
      (s.spareTrigger n l cause rid).rd DRAM.SPARE_STAT.done_64k n = 0 ∧
      bit ((s.spareTrigger n l cause rid).rd (HDR.ev_raw .dram) n) 16 = true := by
  have hbad : s.spareBad n = none := by
    unfold State.spareBad
    rw [if_neg (not_or.2 hstate), hspare]
    rfl
  unfold State.spareTrigger
  rw [hbad, hentry]
  dsimp only
  rw [if_neg Bool.false_ne_true]
  generalize ({ s with mem := _ } : State) = s1
  refine ⟨rfl, ?_, ?_, ?_, ?_, raise_bit (by decide)⟩
  · rw [raise_rd_sep (by decide), rd_wr_sep (by decide), rd_wr_sep (by decide), rd_wr_sep (by decide), rd_wr_same]
    rfl
  · rw [raise_rd_sep (by decide), rd_wr_sep (by decide), rd_wr_sep (by decide), rd_wr_same]
    rfl
  · rw [raise_rd_sep (by decide), rd_wr_sep (by decide), rd_wr_same]
    rfl
  · rw [raise_rd_sep (by decide), rd_wr_same]
    rfl

/-- One that nothing turns away, during an entry, waits for the way back to Run. -/
theorem spareTrigger_defers (hbad : s.spareBad n = none) (hentry : s.entryBeforeCommit = true) :
    (s.spareTrigger n l cause rid).resp = s.resp ∧
      (s.spareTrigger n l cause rid).rd DRAM.SPARE_STAT.state n = s.rd DRAM.SPARE_STAT.state n ∧
      (s.spareTrigger n l cause rid).rd DRAM.SPARE_STAT.deferred n = 1 ∧
      mget (s.spareTrigger n l cause rid).mem.deferred n 0 = 1 + l + 4 * cause := by
  unfold State.spareTrigger
  rw [hbad, hentry]
  dsimp only
  rw [if_pos rfl]
  refine ⟨?_, ?_, ?_, ?_⟩
  · rw [recErr_resp, wr_resp]
  · rw [recErr_rd_body (by decide), rd_wr_sep (by decide), rd_with_mem]
  · rw [recErr_rd_body (by decide), rd_wr_same]
    rfl
  · rw [recErr_mem, wr_mem]
    exact mget_mset_same (m := s.mem.deferred)

theorem spareStart_refused {w : Who} {c : Nat} (hbad : s.spareBad n = some c) :
    s.spareStart w n l = ((s.recErr .dram n c w.rid 0x114).raise .dram n 15).errResp := by
  unfold State.spareStart State.spareTrigger
  rw [hbad]
  rfl

theorem spareStart_taken {w : Who} (hbad : s.spareBad n = none) : s.spareStart w n l = s.spareTrigger n l 0 w.rid := by
  unfold State.spareStart
  rw [hbad]
  rfl

theorem spareCancel_drops (h : s.rd DRAM.SPARE_STAT.state n = 1 ∨ s.rd DRAM.SPARE_STAT.state n = 2) :
    (s.spareCancel n).rd DRAM.SPARE_STAT.state n = 0 ∧ (s.spareCancel n).resp = s.resp := by
  have hcopy : s.copying n = true := by
    unfold State.copying
    rcases h with h | h <;> rw [h] <;> rfl
  unfold State.spareCancel State.spareDrop
  rw [if_pos hcopy, rd_wr_same, wr_resp]
  exact ⟨rfl, by split <;> rfl⟩

/-! ### The end of a copy -/

/-- A line the copy found uncorrectable, or poisoned before, is poisoned on the spare, counted and recorded. -/
def copyBadLine (n : Nat) (t : State) (line : Nat) : State :=
  (((t.poisonLine line).count .dram n 13).recErr .dram n Code.DRAM_UE ridBlock (line * 64)).raise .dram n 9

theorem copyBadLine_poison {line : Nat} : (copyBadLine n s line).mem.poison = mset s.mem.poison line 1 0 := by
  unfold copyBadLine
  rw [raise_mem, recErr_mem, count_mem]
  rfl

/-- A line poisoned at the start or named by the list is poisoned at the end. -/
theorem copyBadLines_poison {lines : List Nat} {line : Nat} (h : mget s.mem.poison line 0 = 1 ∨ line ∈ lines) :
    mget (lines.foldl (copyBadLine n) s).mem.poison line 0 = 1 := by
  induction lines generalizing s with
  | nil => exact h.resolve_right List.not_mem_nil
  | cons x lines ih =>
    refine ih ?_
    rw [copyBadLine_poison]
    by_cases hx : x = line
    · exact .inl (hx ▸ mget_mset_same)
    · rw [mget_mset_ne hx]
      exact h.imp_right fun hm => (List.mem_cons.1 hm).resolve_left (Ne.symm hx)

theorem copyBadLines_counter {lines : List Nat} : (lines.foldl (copyBadLine n) s).counter .dram n 18 = s.counter .dram n 18 := by
  refine foldl_same (fun t : State => t.counter .dram n 18) fun t line => ?_
  unfold copyBadLine
  rw [counter_raise, counter_recErr, counter_count_dram_ne (by decide)]
  rfl

theorem spareCopyDone_waits {n : Fin 8} {bad : List Addr} (h : s.rd DRAM.SPARE_STAT.state n.val = 1) :
    ∃ t, exec (.spareCopyDone n bad) s = .next t ∧ t.rd DRAM.SPARE_STAT.state n.val = 2 ∧ t.rd DRAM.SPARE_STAT.done_64k n.val = 65535 ∧
      t.counter .dram n.val 18 = (s.counter .dram n.val 18 + rankLines) % 2 ^ 64 ∧
      ∀ a ∈ bad, mget t.mem.poison (a.toNat / 64) 0 = 1 := by
  have hnamed : ∀ a ∈ bad, a.toNat / 64 ∈ s.copyPoison n.val ++
      (bad.map (fun a => a.toNat / 64)).filter (fun l => !(s.copyPoison n.val).contains l) := by
    intro a ha
    by_cases hold : a.toNat / 64 ∈ s.copyPoison n.val
    · exact List.mem_append_left _ hold
    · exact List.mem_append_right _ (List.mem_filter.2 ⟨List.mem_map_of_mem ha, by simpa using hold⟩)
  refine ⟨_, congrArg Host.Outcome.next (if_pos h), ?_⟩
  dsimp only
  generalize s.copyPoison n.val ++ _ = lines at hnamed ⊢
  refine ⟨?_, ?_, ?_, fun a ha => ?_⟩
  · rw [rd_wr_same]
    rfl
  · rw [rd_wr_sep (by decide), rd_wr_same]
    rfl
  · rw [counter_wr, counter_wr, counter_count_same]
    exact congrArg (fun c => (c + rankLines) % 2 ^ 64) copyBadLines_counter
  · rw [wr_mem, wr_mem, count_mem]
    exact copyBadLines_poison (.inr (hnamed a ha))

/-! ### Admission (R167) -/

/-- A class and rate that fit what may be admitted are stored, and what is admitted follows. -/
theorem admitPort_taken {w : Who} {off p cls rate : Nat} {store : State → State} (hheld : s.portHeld p ≤ s.rd DRAMQ.ADMIT_USED.used)
    (hfit : s.rd DRAMQ.ADMIT_USED.used + portReserve cls rate - s.portHeld p ≤ s.rd DRAMQ.ADMIT_CAP.cap)
    (hcap : s.rd DRAMQ.ADMIT_CAP.cap < 65536) :
    (s.admitPort w off p cls rate store).rd DRAMQ.ADMIT_USED.used = s.rd DRAMQ.ADMIT_USED.used + portReserve cls rate - s.portHeld p ∧
      (s.admitPort w off p cls rate store).resp = (store (s.bucketSettle p)).resp ∧
      ∀ {f : Fld} {i j b : Nat}, sep DRAMQ.ADMIT_USED.used f = true → sep DRAMQ.PORT_STAT.admit_seq f = true →
        (s.admitPort w off p cls rate store).rd f i j b = (store (s.bucketSettle p)).rd f i j b := by
  unfold State.admitPort
  extract_lets old new s1 x
  have hnew : ¬(old < new ∧ s.rd DRAMQ.ADMIT_USED.used + (new - old) > s.rd DRAMQ.ADMIT_CAP.cap) := by
    simp only [old, new]
    omega
  rw [if_neg hnew]
  have hused : s1.rd DRAMQ.ADMIT_USED.used = s.rd DRAMQ.ADMIT_USED.used + new - old := by
    simp only [s1]
    rw [rd_wr_same]
    exact Nat.mod_eq_of_lt (Nat.lt_of_le_of_lt hfit hcap)
  have hresp : s1.resp = (store (s.bucketSettle p)).resp := wr_resp ..
  have hrd : ∀ {f : Fld} {i j b : Nat}, sep DRAMQ.ADMIT_USED.used f = true → s1.rd f i j b = (store (s.bucketSettle p)).rd f i j b :=
    fun h => rd_wr_sep h
  simp only [x]
  clear_value s1
  split
  · refine ⟨?_, ?_, fun h1 h2 => ?_⟩
    · rw [rd_wr_sep (by decide), rd_with_mem, hused]
    · rw [wr_resp, ← hresp]
    · rw [rd_wr_sep h2, rd_with_mem, hrd h1]
  · split
    · refine ⟨?_, ?_, fun h1 h2 => ?_⟩
      · rw [rd_wr_sep (by decide), hused]
      · rw [wr_resp, hresp]
      · rw [rd_wr_sep h2, hrd h1]
    · exact ⟨hused, hresp, fun h1 _ => hrd h1⟩

/-- A raised reservation that does not fit is refused. -/
theorem admitPort_refused {w : Who} {off p cls rate : Nat} {store : State → State} (hup : s.portHeld p < portReserve cls rate)
    (hfull : s.rd DRAMQ.ADMIT_CAP.cap < s.rd DRAMQ.ADMIT_USED.used + (portReserve cls rate - s.portHeld p)) :
    s.admitPort w off p cls rate store = (s.refuse .dramq 0 Code.DRAM_ADMIT w.rid off).raise .dramq 0 10 := if_pos ⟨hup, hfull⟩

/-- The word of a port's register reaches the bank that PORT_SEL selects. -/
theorem bankAt_port {off : Nat} (h : 0x104 ≤ off ∧ off ≤ 0x114) : s.bankAt .dramq 0 off = s.rd DRAMQ.PORT_SEL.port := by
  unfold State.bankAt State.bankOf
  rw [if_neg (by decide)]
  exact if_pos h

theorem portWrite_rate {w : Who} {v : Nat} : s.portWrite w 0x108 v =
    s.admitPort w 0x108 (s.rd DRAMQ.PORT_SEL.port) (s.rd DRAMQ.PORT_CFG.cls (b := s.rd DRAMQ.PORT_SEL.port)) (v % 65536)
      (fun t => t.storeWord .dramq 0 0x108 v) := by
  unfold State.portWrite
  rw [if_neg (by decide)]

theorem portWrite_class {w : Who} {v : Nat} (h : v % 4 ≠ 2) : s.portWrite w 0x104 v =
    s.admitPort w 0x104 (s.rd DRAMQ.PORT_SEL.port) (v % 4) (s.rd DRAMQ.PORT_RATE.rate (b := s.rd DRAMQ.PORT_SEL.port))
      (fun t => t.storeWord .dramq 0 0x104 v) := by
  unfold State.portWrite
  rw [if_pos rfl, if_neg h]

theorem portWrite_badClass {w : Who} {v : Nat} (h : v % 4 = 2) : s.portWrite w 0x104 v = s.refuse .dramq 0 Code.DRAMQ_RANGE w.rid 0x104 := by
  unfold State.portWrite
  rw [if_pos rfl, if_pos h]

/-- A store into a register keeps the response. -/
theorem storeWord_resp {b : Blk} {i off v : Nat} : (s.storeWord b i off v).resp = s.resp :=
  (storeWord_frame (L := [.fld (HDR.dirty b), .reg b off]) Frame.refl Cov.refl).resp (by simp)

theorem rate_stored {v : Nat} : (s.storeWord .dramq 0 0x108 v).rd DRAMQ.PORT_RATE.rate (b := s.rd DRAMQ.PORT_SEL.port) = v % 65536 := by
  have h := storeWord_field (s := s) (v := v) (b := .dramq) (i := 0) (off := 0x108) (f := DRAMQ.PORT_RATE.rate) (j := 0) (by decide) rfl
    (by decide) rfl (by decide) (by decide)
  rw [bankAt_port (by decide)] at h
  simpa [DRAMQ.PORT_RATE.rate] using h

theorem class_stored {v : Nat} : (s.storeWord .dramq 0 0x104 v).rd DRAMQ.PORT_CFG.cls (b := s.rd DRAMQ.PORT_SEL.port) = v % 4 := by
  have h := storeWord_field (s := s) (v := v) (b := .dramq) (i := 0) (off := 0x104) (f := DRAMQ.PORT_CFG.cls) (j := 0) (by decide) rfl
    (by decide) rfl (by decide) (by decide)
  rw [bankAt_port (by decide)] at h
  simpa [DRAMQ.PORT_CFG.cls] using h

theorem admitCap_lt {eff : Nat} (h : eff ≤ 240) : admitCap eff < 65536 := by
  unfold admitCap
  omega

theorem effWrite_taken {w : Who} {v : Nat} (hrange : 128 ≤ v % 256 ∧ v % 256 ≤ 240)
    (hused : s.rd DRAMQ.ADMIT_USED.used ≤ admitCap (v % 256)) :
    s.effWrite w v = (s.wr DRAMQ.ADMIT_EFF.eff (v % 256)).wr DRAMQ.ADMIT_CAP.cap (admitCap (v % 256)) := by
  unfold State.effWrite
  rw [if_neg (by omega), if_neg (Nat.not_lt.2 hused)]

/-! ### Windows (R168) -/

theorem breakOne_broken {short r : Nat} : (s.breakOne short r).mem.broken = s.mem.broken ++ [r] := by
  have hevent : ∀ {t : State} {w i c d : Nat} {k : Blk}, (t.event w k i c d).mem = t.mem := fun {_ _ _ _ _ _} =>
    (event_frame Frame.refl Cov.refl).mem (by decide)
  have hmark : ((s.markBroken r true).raise .dramq 0 8).mem = s.mem :=
    (raise_mem ..).trans ((markBroken_frame Frame.refl Cov.refl).mem (by decide))
  unfold State.breakOne
  extract_lets s1 x s2
  have h2 : s2.mem.broken = s.mem.broken ++ [r] := congrArg (fun m : DramSt => m.broken ++ [r]) hmark
  split <;> rw [hevent, h2]

theorem breakAll_broken {short : Nat} {brk : List Nat} :
    (brk.foldl (fun u r => u.breakOne short r) s).mem.broken = s.mem.broken ++ brk := by
  induction brk generalizing s with
  | nil => exact (List.append_nil _).symm
  | cons r brk ih => rw [List.foldl_cons, ih, breakOne_broken, List.append_assoc]; rfl

/-- Where the demand exceeds what the window served, every reservation to break is broken. -/
theorem qosWindow_breaks (hshort : n * 64 * s.rd DRAMQ.ADMIT_EFF.eff / 256 <
      ((s.reservations.filter (fun r => !s.mem.broken.contains r.1)).map s.windowDemand).sum) :
    ∀ r ∈ s.toBreak (n * 64 * s.rd DRAMQ.ADMIT_EFF.eff / 256) (s.reservations.filter (fun r => !s.mem.broken.contains r.1)).length
      (s.reservations.filter (fun r => !s.mem.broken.contains r.1)), r ∈ (s.qosWindow n).mem.broken := by
  intro r hr
  unfold State.qosWindow
  extract_lets cap all live demand short brk x t y u s1 z
  change r ∈ s1.mem.broken
  simp only [s1]
  rw [if_pos hshort]
  have ht : r ∈ t.mem.broken := by
    simp only [t]
    rw [breakAll_broken]
    exact List.mem_append_right _ hr
  clear_value t
  split
  · exact ht
  · rw [count_mem, wr_mem]
    exact ht

end

/-- Settles O21: each write takes the one branch of its effect that its premises leave; the end of a copy and of a window by what their folds
gather. -/
theorem sparingAndAdmission : Obligations.SparingAndAdmission := by
  unfold Obligations.SparingAndAdmission
  refine ⟨?start, ?refused, ?deferred, ?cancel, fun s n bad h => spareCopyDone_waits h, ?rate, ?taken, ?cls, ?badClass, ?eff, ?window⟩
  case start =>
    intro s w n rank hacc hstate hspare hentry
    obtain ⟨hbad, hst, hrank, hcause, hdone, hev⟩ :=
      spareTrigger_starts (s := s.okResp) (l := rank.val) (cause := 0) (rid := w.rid) hstate hspare hentry
    refine ⟨_, congrArg Host.Outcome.next (onWrite_accepted hacc (by decide)), ?_⟩
    rw [spareStart_taken hbad]
    exact ⟨hst, hrank.trans (Nat.mod_eq_of_lt rank.isLt), hcause, hdone, hev⟩
  case refused =>
    intro s w n rank c hacc hbad
    refine congrArg Host.Outcome.next ((onWrite_accepted hacc (by decide)).trans ?_)
    exact spareStart_refused (s := s.okResp) hbad
  case deferred =>
    intro s w n rank hacc hbad hentry
    obtain ⟨hresp, hst, hdef, hkept⟩ := spareTrigger_defers (s := s.okResp) (l := rank.val) (cause := 0) (rid := w.rid) hbad hentry
    refine ⟨_, congrArg Host.Outcome.next (onWrite_accepted hacc (by decide)), ?_⟩
    rw [spareStart_taken (s := s.okResp) hbad]
    exact ⟨by rw [hresp]; rfl, hst, hdef, hkept⟩
  case cancel =>
    intro s w n hacc hstate
    obtain ⟨hst, hresp⟩ := spareCancel_drops (s := s.okResp) hstate
    refine ⟨_, congrArg Host.Outcome.next (onWrite_accepted hacc (by decide)), hst, ?_⟩
    exact congrArg Resp.ok hresp
  case rate =>
    rintro s w v p hacc rfl hheld ⟨hfit, hcap⟩
    obtain ⟨hused, hresp, hrd⟩ := admitPort_taken (s := s.okResp) (w := w) (off := 0x108)
      (store := fun t => t.storeWord .dramq 0 0x108 v.toNat) hheld hfit hcap
    refine ⟨_, congrArg Host.Outcome.next (onWrite_accepted hacc (by decide)), ?_⟩
    rw [if_pos rfl, portWrite_rate]
    refine ⟨(hrd (by decide) (by decide)).trans rate_stored, hused, ?_⟩
    exact congrArg Resp.ok (hresp.trans storeWord_resp)
  case taken =>
    rintro s w v p hacc rfl hup hfull
    refine congrArg Host.Outcome.next ((onWrite_accepted hacc (by decide)).trans ?_)
    rw [if_pos rfl, portWrite_rate]
    exact admitPort_refused (s := s.okResp) hup hfull
  case cls =>
    rintro s w v p hacc rfl hcls hheld ⟨hfit, hcap⟩
    obtain ⟨hused, hresp, hrd⟩ := admitPort_taken (s := s.okResp) (w := w) (off := 0x104)
      (store := fun t => t.storeWord .dramq 0 0x104 v.toNat) hheld hfit hcap
    refine ⟨_, congrArg Host.Outcome.next (onWrite_accepted hacc (by decide)), ?_⟩
    rw [if_neg Bool.false_ne_true, portWrite_class hcls]
    refine ⟨(hrd (by decide) (by decide)).trans class_stored, hused, ?_⟩
    exact congrArg Resp.ok (hresp.trans storeWord_resp)
  case badClass =>
    intro s w v hacc hcls
    refine congrArg Host.Outcome.next ((onWrite_accepted hacc (by decide)).trans ?_)
    exact portWrite_badClass (s := s.okResp) hcls
  case eff =>
    intro s w v hacc hrange hused
    refine ⟨_, congrArg Host.Outcome.next (onWrite_accepted hacc (by decide)), ?_⟩
    rw [effWrite_taken (s := s.okResp) hrange hused]
    refine ⟨?_, ?_, by rw [wr_resp, wr_resp]; rfl⟩
    · rw [rd_wr_sep (by decide), rd_wr_same]
      exact Nat.mod_eq_of_lt (Nat.mod_lt _ (by decide))
    · rw [rd_wr_same]
      exact Nat.mod_eq_of_lt (admitCap_lt hrange.2)
  case window =>
    exact fun s n => ⟨s.qosWindow n, rfl, rfl, rfl, fun hshort => qosWindow_breaks hshort⟩

end Sys2Proof.Proofs

/-! Ring contexts: their words, and what CTX_OP and the ends it leads to do to one (R184 to R187, R208). -/

namespace Sys2Proof.Proofs

open Machine Laws

section

variable {s : State} {r k : Nat} {c : Ring}

/-! ### Reading a context -/

theorem ring_setRing : (s.setRing r c).ring r = c := mget_mset_same (m := s.rings.ctx)

theorem ring_wr {f : Fld} {v i j b : Nat} : (s.wr f v i j b).ring r = s.ring r := by
  unfold State.ring
  rw [wr_rings]

theorem rd_setRing {f : Fld} {i j b : Nat} : (s.setRing r c).rd f i j b = s.rd f i j b := rd_with_rings

theorem owesRecord_setRing : (s.setRing r c).owesRecord k = s.owesRecord k := rfl

/-! ### CTX_OP -/

/-- An operation that the register accepts, on a ring in the quota of a guest that is not Free, runs on that ring. -/
theorem ctxOp_runs {w : Who} {op target : Nat} {e : State → Nat → State} (hacc : accepts s w .rsched 0 0x104 (op + target * 256) = true)
    (hop : 1 ≤ op ∧ op < 6) (hinst : s.instState (ringInst (s.rd RSCHED.CTX_SEL.ring)) ≠ 0 ∧ s.inQuota (s.rd RSCHED.CTX_SEL.ring) = true) :
    s.ctxOp w op target e = e s.okResp (s.rd RSCHED.CTX_SEL.ring) := by
  unfold State.ctxOp
  rw [onWrite_accepted hacc (by decide)]
  have hfree : ¬(s.okResp.instState (ringInst (s.rd RSCHED.CTX_SEL.ring)) = 0 ∨
      (!s.okResp.inQuota (s.rd RSCHED.CTX_SEL.ring)) = true) := by
    rintro (h | h)
    · exact hinst.1 h
    · rw [show s.okResp.inQuota _ = true from hinst.2] at h
      exact Bool.false_ne_true h
  exact (if_neg (by omega)).trans (if_neg hfree)

/-- The data words take the words of the context: each that is written, and each that held its word before. -/
theorem ctxData_read {l : List Nat} {w : Nat → Nat} {u : State} (hk : k < 16) (hlt : ∀ x ∈ l, x < 16)
    (hword : k ∈ l ∨ u.rd RSCHED.CTX_DATA.word 0 k = w k % 2 ^ 32) :
    (l.foldl (fun u x => u.wr RSCHED.CTX_DATA.word (w x) 0 x) u).rd RSCHED.CTX_DATA.word 0 k = w k % 2 ^ 32 := by
  induction l generalizing u with
  | nil => exact hword.resolve_left List.not_mem_nil
  | cons x l ih =>
    refine ih (fun y hy => hlt y (List.mem_cons_of_mem x hy)) ?_
    by_cases hx : x = k
    · exact .inr (hx ▸ rd_wr_same)
    · have hx16 := hlt x List.mem_cons_self
      refine hword.imp (fun h => (List.mem_cons.1 h).resolve_left (Ne.symm hx)) fun h => (rd_wr_elt ?_).trans h
      simp only [RSCHED.CTX_DATA.word]
      omega

theorem ctxData_resp {l : List Nat} {w : Nat → Nat} {u : State} :
    (l.foldl (fun u x => u.wr RSCHED.CTX_DATA.word (w x) 0 x) u).resp = u.resp := foldl_same State.resp fun _ _ => wr_resp ..

/-! ### The end of a disable -/

/-- A ring that has been disabled keeps enable clear and its prefetched entries dropped, and is Disabled where nothing of it is in flight. -/
theorem tryDisable_ring (hoff : (s.ring r).enable = false) :
    ((s.tryDisable r).ring r).enable = false ∧ ((s.ring r).pre = [] → ((s.tryDisable r).ring r).pre = []) ∧
      ((s.ring r).inflight = 0 → s.owesRecord r = false → ((s.tryDisable r).ring r).st = 0) := by
  unfold State.tryDisable
  dsimp only
  split
  · rw [ring_setRing]
    exact ⟨hoff, fun _ => rfl, fun _ _ => rfl⟩
  next hkeep =>
    refine ⟨hoff, id, fun hin how => ?_⟩
    refine Decidable.byContradiction fun hst => ?_
    exact hkeep ⟨hst, hoff, hin, by rw [how]; rfl⟩

/-! ### Migration (R208) -/

theorem migrated_shown : ((s.migrated r).ring r).engine = (s.ring r).target ∧ ((s.migrated r).ring r).migrating = false ∧
    (s.migrated r).counter .rsched 0 11 = (s.counter .rsched 0 11 + 1) % 2 ^ 64 ∧ bit ((s.migrated r).rd (HDR.ev_raw .rsched)) 12 = true ∧
    (s.migrated r).rings.recs.length = s.rings.recs.length + 1 := by
  unfold State.migrated
  dsimp only
  have hrings : ∀ {t : State}, ((t.count .rsched 0 11).raise .rsched 0 12).rings = t.rings := fun {t} =>
    (raise_rings ..).trans (count_rings ..)
  have hring : ∀ {t : State}, ((t.count .rsched 0 11).raise .rsched 0 12).ring r = t.ring r := fun {t} =>
    congrArg (fun x : RingSt => mget x.ctx r {}) hrings
  have hctx : ∀ {t : State} {kd sq cd dt nf : Nat} {fl pt : Bool}, (t.record r kd fl pt sq cd dt nf).ring r = t.ring r := rfl
  refine ⟨?_, ?_, ?_, raise_bit (by decide), ?_⟩
  · rw [hring, hctx, ring_setRing]
  · rw [hring, hctx, ring_setRing]
  · rw [counter_raise, counter_count_same]
    rfl
  · rw [hrings]
    exact List.length_append

/-- Settling to Idle or Active changes a ring's state alone. -/
theorem rest_kept : c.rest.migrating = c.migrating ∧ c.rest.target = c.target ∧ c.rest.engine = c.engine ∧ c.rest.pre = c.pre := by
  unfold Ring.rest
  split <;> exact ⟨rfl, rfl, rfl, rfl⟩

end

/-- Settles O22: each operation runs its branch on the selected ring, whose context the update of the ring table gives back. -/
theorem ringContextOperations : Obligations.RingContextOperations := by
  unfold Obligations.RingContextOperations
  refine ⟨?read, ?write, ?enable, ?busy, ?disable, ?disabled, ?migrate, ?migrated⟩
  case read =>
    rintro s w r hacc rfl hinst
    refine ⟨s.ctxRead w, rfl, ?_⟩
    unfold State.ctxRead
    rw [ctxOp_runs (op := 1) (target := 0) hacc (by decide) hinst]
    exact ⟨fun k hk => ctxData_read (w := (s.okResp.ring _).word) hk (fun x hx => List.mem_range.1 hx) (.inl (List.mem_range.2 hk)),
      congrArg Resp.ok (ctxData_resp (w := (s.okResp.ring _).word))⟩
  case write =>
    rintro s w r hacc rfl hinst hst
    exact ⟨_, congrArg Host.Outcome.next ((ctxOp_runs (op := 2) (target := 0) hacc (by decide) hinst).trans (if_neg (not_not_intro hst))), ring_setRing, rfl⟩
  case enable =>
    rintro s w r hacc rfl hstate ⟨hquota, hst⟩ hok hpin hcount
    have hinst : s.instState (ringInst (s.rd RSCHED.CTX_SEL.ring)) ≠ 0 := by omega
    refine ⟨_, congrArg Host.Outcome.next (ctxOp_runs (op := 3) (target := 0) hacc (by decide) ⟨hinst, hquota⟩), ?_⟩
    have hst' : ¬(s.okResp.ring (s.rd RSCHED.CTX_SEL.ring)).st ≠ 0 := not_not_intro hst
    have hok' : s.okResp.enableOk (s.rd RSCHED.CTX_SEL.ring) = true := hok
    have hpin' : (s.okResp.ring (s.rd RSCHED.CTX_SEL.ring)).pin = true := hpin
    have hfree : ¬((true && decide (1024 ≤ s.okResp.rd RSCHED.PIN_COUNT.pinned)) = true) := by
      rw [Bool.true_and, decide_eq_true_eq]
      exact Nat.not_le.2 hcount
    have hstate' : ¬(s.okResp.instState (ringInst (s.rd RSCHED.CTX_SEL.ring)) = 3 ∨
        s.okResp.instState (ringInst (s.rd RSCHED.CTX_SEL.ring)) = 4) := by
      change ¬(s.instState _ = 3 ∨ s.instState _ = 4)
      omega
    dsimp only
    rw [if_neg hst', hok', hpin', if_neg (by decide), if_neg hfree, if_pos rfl, if_neg hstate', ring_setRing,
      rd_setRing, rd_wr_same]
    refine ⟨rfl, rfl, fun _ => Nat.mod_eq_of_lt ?_⟩
    change s.rd RSCHED.PIN_COUNT.pinned + 1 < 2 ^ 11
    omega
  case busy =>
    rintro s w r hacc rfl hinst hst
    exact congrArg Host.Outcome.next ((ctxOp_runs (op := 3) (target := 0) hacc (by decide) hinst).trans (if_pos hst))
  case disable =>
    rintro s w r hacc rfl hinst
    refine ⟨_, congrArg Host.Outcome.next (ctxOp_runs (op := 4) (target := 0) hacc (by decide) hinst), ?_⟩
    dsimp only
    generalize hu : s.okResp.setRing _ _ = u
    have hring : u.ring (s.rd RSCHED.CTX_SEL.ring) =
        { (s.ring (s.rd RSCHED.CTX_SEL.ring)).unwait with enable := false, pre := [], waitMet := false } := hu ▸ ring_setRing
    obtain ⟨henable, hpre, hdone⟩ := tryDisable_ring (s := u) (r := s.rd RSCHED.CTX_SEL.ring) (by rw [hring])
    refine ⟨henable, hpre (by rw [hring]), fun hin how => hdone (by rw [hring]; exact hin) ?_⟩
    rw [← hu, owesRecord_setRing]
    exact how
  case disabled =>
    rintro s r ⟨hoff, hin⟩ how
    exact ⟨_, rfl, (tryDisable_ring hoff).2.2 hin how⟩
  case migrate =>
    rintro s w n r hacc rfl hinst ⟨hst, hmig, htype⟩ ⟨hclass, hn, hne⟩ hdma hserves
    refine ⟨_, congrArg Host.Outcome.next (ctxOp_runs (op := 5) (target := n.val) hacc (by decide) hinst), ?_⟩
    dsimp only
    generalize hr : s.rd RSCHED.CTX_SEL.ring = r at *
    have hst' : (s.okResp.ring r).st ≠ 0 := hst
    have hserves' : s.okResp.dmaServes n.val (ringInst r) (s.okResp.ring r).world = true := hserves
    have hbad : ¬((!classMigrates (s.okResp.ring r).cls || (s.okResp.ring r).type == 7 ||
        decide (classEngines (s.okResp.ring r).cls ≤ n.val) || (s.okResp.ring r).migrating) = true) := by
      change ¬((!classMigrates (s.ring r).cls || (s.ring r).type == 7 || decide (classEngines (s.ring r).cls ≤ n.val) ||
        (s.ring r).migrating) = true)
      rw [hclass, hmig]
      simp only [Bool.not_true, Bool.false_or, Bool.or_false, Bool.or_eq_true, beq_iff_eq, decide_eq_true_eq]
      omega
    rw [if_neg hst', if_neg hbad, if_neg (by rw [hserves']; simp), if_neg (show n.val ≠ (s.okResp.ring r).engine from hne), ring_setRing]
    obtain ⟨hm, ht, he, hp⟩ := rest_kept (c := { (s.okResp.ring r).unwait with target := n.val, migrating := true, pre := [], waitMet := false })
    exact ⟨hm, ht, he, hp⟩
  case migrated =>
    rintro s r ⟨hmig, hin⟩ how
    refine ⟨_, congrArg Host.Outcome.next (if_pos ?_), migrated_shown⟩
    rw [hmig, hin, how]
    rfl

end Sys2Proof.Proofs

/-! A doorbell on a ring whose tail is no ring index: State holds a ring's indices as unbounded numbers (R189, R190). -/

namespace Sys2Proof.Proofs

open Machine Laws

/-- The manager's ring 0 is Ready with a tail of 2^24, one past the largest index that a doorbell can carry. -/
def tailBeyondRing : State := ({} : State).setRing 0 { st := 2, type := 1, tail := 2 ^ 24 }

/-- That state after a producer update to index 0. -/
def tailBeyondRung : State := match execDoorbellProducerUpdate 0 0 0 tailBeyondRing with
  | .next t => t
  | _ => tailBeyondRing

/-- Refutes O23: the update to index 0 differs from that tail by a multiple of 2^24, so it adds no entries and the ring keeps its tail. -/
theorem not_doorbells : ¬ Obligations.Doorbells := by
  unfold Obligations.Doorbells
  rintro ⟨update, -⟩
  obtain ⟨t, hexec, htail, -⟩ := update tailBeyondRing 0 0 0 0 ⟨rfl, rfl⟩ ⟨rfl, by decide, by decide⟩ (by decide)
  have hrun : exec (.doorbellProducerUpdate 0 0 0) tailBeyondRing = .next tailBeyondRung := rfl
  have hkept : (tailBeyondRung.ring 0).tail = 2 ^ 24 := by decide
  rw [← Host.Outcome.next.inj (hrun.symm.trans hexec), hkept] at htail
  exact absurd htail (by decide)

end Sys2Proof.Proofs

/-! A DMA engine whose last record is still due (R200, R204). -/

namespace Sys2Proof.Proofs

open Machine Laws

/-- A DMA descriptor of operation FENCE without any option. -/
def plainFence : List Byte := [4] ++ List.replicate 63 0

/-- The manager's ring 0 is ready on DMA engine 0, whose last job, of ring 1, has its record due in queue 5, which takes records. -/
def recordDue : State :=
  ((((({} : State).setRing 0 { enable := true, cls := 2, type := 3, st := 2, waitMet := true, pre := [(0, 0, plainFence)] }).setRing 1
    { cq := 5, cls := 2 }).setRing 5 { enable := true, type := 7, st := 1 })).record 1 0 true false 0 0 0 0

/-- That state after the engine has chosen its next job. -/
def recordDueStarted : State := match execJobStart 2 0 recordDue with
  | .next t => t
  | _ => recordDue

/-- Refutes O24: the engine waits for the record of its last job, so it takes no job although it is free and a ring is ready. -/
theorem not_jobsFencesAndEvents : ¬ Obligations.JobsFencesAndEvents := by
  unfold Obligations.JobsFencesAndEvents
  rintro ⟨-, start, -⟩
  obtain ⟨t, hexec, hjob, -⟩ := start recordDue 0 0 ⟨by decide, by decide⟩ (by decide) (by decide)
  have hrun : exec (.jobStart 2 0) recordDue = .next recordDueStarted := rfl
  have hnone : recordDueStarted.job 2 0 = none := by decide
  rw [← Host.Outcome.next.inj (hrun.symm.trans hexec), show ((0 : Fin 16) : Nat) = 0 from rfl, hnone] at hjob
  exact absurd hjob (by simp)

end Sys2Proof.Proofs

/-! The end of a DMA job whose ring is halted (R188, R204, R206). -/

namespace Sys2Proof.Proofs

open Machine Laws

/-- A moved job of the manager's ring 0, which is halted, and whose next entry could not be fetched. -/
def haltedRing : State := (({} : State).setRing 0 { st := 4, inflight := 1, pre := [(1, 0, [])] }).setJob 2 0 (some { ring := 0, seq := 0, desc := [], phase := 1 })

/-- That state after the end of the job. -/
def haltedRingDone : State := match execDmaJobDone 0 haltedRing with
  | .next t => t
  | _ => haltedRing

/-- Refutes O25: the end of the job releases its ring, which ends the entry that could not be fetched, so two records are formed and not one. -/
theorem not_dmaJobs : ¬ Obligations.DmaJobs := by
  unfold Obligations.DmaJobs
  rintro ⟨-, -, -, -, done, -⟩
  obtain ⟨t, hexec, -, -, hrecs⟩ := done haltedRing 0 { ring := 0, seq := 0, desc := [], phase := 1 } ⟨by decide, rfl⟩ (by decide)
  have hrun : exec (.dmaJobDone 0) haltedRing = .next haltedRingDone := rfl
  have htwo : haltedRingDone.rings.recs.length = 2 := by decide
  rw [← Host.Outcome.next.inj (hrun.symm.trans hexec), htwo] at hrecs
  exact absurd hrecs (by decide)

end Sys2Proof.Proofs

/-! A graphics job that stands on a front-end other than the one it names (R233). -/

namespace Sys2Proof.Proofs

open Machine Laws

/-- A job as it stands on front-end 1, while it names front-end 0 as its own. -/
def strayJob : GfxRun := { job := { ring := 0, seq := 0, desc := [] }, fe := 0, ctx := 1, comp := false, cmd := 0, words := 0 }

/-- It runs, and the manager's ring 0 has a compositor job ready on front-end 0. -/
def strayRunning : State :=
  { (((((({} : State).wr GFX.CTX_STAT.owner 0xFE).wr GFX.CTX_STAT.state 1).wr GFX.COMP_CTX.valid 1).wr GFX.COMP_CTX.ctx 0).setRing 0
      { enable := true, type := 1, st := 2, waitMet := true, pre := [(0, 0, [])] }) with
    gfx := { cur := mset [] 1 (some strayJob) none } }

/-- That state after the preemption. -/
def strayPreempted : State := match execCompositorPreempt 0 0 0 strayRunning with
  | .next t => t
  | _ => strayRunning

/-- Refutes O28: the preempted job leaves the front-end that it names, so it still stands on the other one. -/
theorem not_graphicsSyncAndJobs : ¬ Obligations.GraphicsSyncAndJobs := by
  unfold Obligations.GraphicsSyncAndJobs
  rintro ⟨-, -, -, -, -, -, -, -, preempt, -⟩
  obtain ⟨t, hexec, -, -, hcur, -⟩ := preempt strayRunning 0 0 0 0 (by decide) ⟨by decide, by decide⟩
  have hrun : exec (.compositorPreempt 0 0 0) strayRunning = .next strayPreempted := rfl
  have hstays : (strayPreempted.gfxCur 1).isSome = true := by decide
  rw [← Host.Outcome.next.inj (hrun.symm.trans hexec)] at hcur
  rw [show 1 - ((0 : Fin 2) : Nat) = 1 from rfl] at hcur
  rw [hcur] at hstays
  exact absurd hstays (by decide)

end Sys2Proof.Proofs

/-! Statements that take a register, an address or a counter to hold no more than its bits: State holds each as an unbounded number, and a value
beyond the width is kept by what does not write it. -/

namespace Sys2Proof.Proofs

open Machine Laws

/-! ### The selected table of coefficients (R263) -/

/-- The one-bit field COEF_SEL.table holds 2, and COEF_SEL.word 1. -/
def wideTable : State := { ({} : State) with regs := mset (mset [] (COMP.COEF_SEL.table.key 0 0 0) 2 0) (COMP.COEF_SEL.word.key 0 0 0) 1 0 }

/-- Refutes O29: for a table of 2 the last word is 2, as for table 1, and the clause takes it to be 3 - 2. -/
theorem not_commitPacketsAndBanks : ¬ Obligations.CommitPacketsAndBanks := by
  unfold Obligations.CommitPacketsAndBanks
  rintro ⟨-, -, -, -, -, -, coef, -⟩
  obtain ⟨t, hexec, -, hnext⟩ := coef wideTable .mgr 0 0 (by decide) (by decide)
  have hrun : exec (.coefDataWrite .mgr 0 0) wideTable = .next (wideTable.coefWrite .mgr 0 0) := rfl
  have hword : (wideTable.coefWrite .mgr 0 0).rd COMP.COEF_SEL.word = 2 := by decide
  have htable : ¬ wideTable.rd COMP.COEF_SEL.word < 3 - wideTable.rd COMP.COEF_SEL.table := by decide
  rw [← Host.Outcome.next.inj (hrun.symm.trans hexec), show ((0 : Fin 4) : Nat) = 0 from rfl, if_neg htable, hword] at hnext
  exact absurd (congrArg Prod.snd hnext) (by decide)

/-! ### A counter of poses (R304) -/

/-- The counter of superseded poses of head 6 holds 2^64. -/
def widePoses : State := { ({} : State) with ctr := mset [] (ctrKey (Blk.page .glint 6) 3) (2 ^ 64) 0 }

/-- Refutes O35: a post that supersedes no check counts nothing, where the clause asks for the remainder of the counter. -/
theorem not_glintPoses : ¬ Obligations.GlintPoses := by
  unfold Obligations.GlintPoses
  rintro ⟨post, -⟩
  obtain ⟨t, hexec, -, -, hcount⟩ := post widePoses .mgr 0 (by decide)
  have hrun : exec (.posePost .mgr 0) widePoses = .next (widePoses.poseWrite .mgr 6 1) := rfl
  have hkept : (widePoses.poseWrite .mgr 6 1).counter .glint 6 3 = 2 ^ 64 := by decide
  have hbefore : widePoses.counter .glint 6 3 = 2 ^ 64 := by decide
  have hnone : (widePoses.head 6).glint.check.isSome = false := by decide
  rw [← Host.Outcome.next.inj (hrun.symm.trans hexec), show glintHead 0 = 6 from rfl, hkept, hbefore, hnone] at hcount
  exact absurd hcount (by decide)

/-! ### An address in Lantern SRAM (R319, R336) -/

/-- LSRAM_ADDR holds 2^18, one past the last word. -/
def wideAddress : State := { ({} : State) with regs := mset [] (LANTERN.LSRAM_ADDR.addr.key 0 0 0) (2 ^ 18) 0 }

/-- Refutes O37: a word written there is stored past the 1 MiB that reads reach. -/
theorem not_faultOutputsAndIsland : ¬ Obligations.FaultOutputsAndIsland := by
  unfold Obligations.FaultOutputsAndIsland
  rintro ⟨-, -, -, -, store, -⟩
  obtain ⟨t, hexec, hbytes, -⟩ := store wideAddress .saf 1 .clean (by decide)
  have hrun : exec (.lsramDataAccess .saf (some 1) .clean) wideAddress = .next (wideAddress.lsramWrite .saf 1) := rfl
  have haddr : wideAddress.rd LANTERN.LSRAM_ADDR.addr = 2 ^ 18 := by decide
  have hread : (List.range 4).map (fun k => (wideAddress.lsramWrite .saf 1).lsramByte (4 * 2 ^ 18 + k)) = [0, 0, 0, 0] := by decide
  rw [← Host.Outcome.next.inj (hrun.symm.trans hexec), haddr, hread] at hbytes
  exact absurd hbytes (by decide)

/-! ### The retries of a link (R345) -/

/-- An enabled link 0 has failed, and the four-bit field LINK_STAT.retries_left holds 17. -/
def wideRetries : State :=
  { ((({} : State).wr LINK.LINK_STAT.state 5).wr LINK.LINK_CTRL.enable 1).wr LINK.LINK_CTRL.retry_ms 1 with
    regs := mset (((({} : State).wr LINK.LINK_STAT.state 5).wr LINK.LINK_CTRL.enable 1).wr LINK.LINK_CTRL.retry_ms 1).regs
      (LINK.LINK_STAT.retries_left.key 0 0 0) 17 0
    time := { ({} : TimeSt) with tick := 1000 } }

/-- That state after a retry. -/
def wideRetried : State := match execLinkRetry 0 wideRetries with
  | .next t => t
  | _ => wideRetries

/-- Refutes O39: the field takes 16 as 0. -/
theorem not_linkPowerAndTraining : ¬ Obligations.LinkPowerAndTraining := by
  unfold Obligations.LinkPowerAndTraining
  rintro ⟨-, -, -, -, -, -, -, -, -, -, -, retry, -⟩
  obtain ⟨t, hexec, -, hleft⟩ := retry wideRetries 0 (by decide) (by decide) (by decide)
  have hrun : exec (.linkRetry 0) wideRetries = .next wideRetried := rfl
  have hzero : wideRetried.rd LINK.LINK_STAT.retries_left = 0 := by decide
  have hbefore : wideRetries.rd LINK.LINK_STAT.retries_left = 17 := by decide
  rw [← Host.Outcome.next.inj (hrun.symm.trans hexec)] at hleft
  rw [show ((0 : Fin 8) : Nat) = 0 from rfl, hzero, hbefore] at hleft
  exact absurd hleft (by decide)

end Sys2Proof.Proofs

/-! Packets of a graphics job: which one runs, what it reads, and the state and bind packets (R236 to R241). -/

namespace Sys2Proof.Proofs

open Machine Laws

/-! ### Reads of a job -/

section Reads

variable {s : State} {r : GfxRun} {a n : Nat}

/-- The three parts of a packet's header word (R237). -/
theorem bits_header {op sub n : Nat} (hop : op < 256) (hsub : sub < 256) (hn : n < 65536) :
    bits (op + sub * 256 + n * 65536) 0 8 = op ∧ bits (op + sub * 256 + n * 65536) 8 8 = sub ∧ bits (op + sub * 256 + n * 65536) 16 16 = n := by
  refine ⟨?_, ?_, ?_⟩ <;> simp only [bits, Nat.shiftRight_eq_div_pow] <;> omega

theorem rdMem_lt : s.rdMem a n < 256 ^ n := by
  have h := leVal_lt (d := s.rdBytes a n)
  rwa [show (s.rdBytes a n).length = n by simp [State.rdBytes]] at h

theorem gfxReq_gfxRead {q : GfxRun} : (s.gfxRead r a n).gfxReq q = s.gfxReq q := by
  have h : Frame gfxRead_T s (s.gfxRead r a n) := gfxRead_frame Frame.refl Cov.refl
  unfold State.gfxReq
  rw [rd_clear h (by decide)]

theorem rdMem_gfxRead {x m : Nat} : (s.gfxRead r a n).rdMem x m = s.rdMem x m :=
  have h : Frame gfxRead_T s (s.gfxRead r a n) := gfxRead_frame Frame.refl Cov.refl
  rdMem_congr (h.dram (by decide)) h.variant

theorem gfxCur_gfxNext : (s.gfxNext r n).gfxCur r.fe = some { r with pc := r.pc + n } := mget_mset_same

/-- The length of a packet as its words give it: a push of constants has any length from two words on (R237, R239). -/
theorem length_of_packet {op sub n w1 : Nat} (h : if op = 2 ∧ sub = 5 then 2 ≤ n else packetLen op sub w1 = some n) :
    (if op = 2 ∧ sub = 5 then (if 2 ≤ n then n else 2) else (packetLen op sub w1).getD 0) = n := by
  by_cases hpush : op = 2 ∧ sub = 5
  · rw [if_pos hpush] at h ⊢
    exact if_pos h
  · rw [if_neg hpush] at h ⊢
    rw [h, Option.getD_some]

theorem second_word {n : Nat} {f : Nat → Nat} : ((List.range n).map f).getD 1 0 = if 2 ≤ n then f 1 else 0 := by
  rw [List.getD_eq_getElem?_getD, List.getElem?_map]
  by_cases h : 2 ≤ n
  · rw [List.getElem?_range (by omega), if_pos h]
    rfl
  · rw [List.getElem?_eq_none (by simp; omega), if_neg h]
    rfl

/-- The packet that packetAt names runs its own effect, on the state after the words are read. -/
theorem gfxPacket_of_packetAt {e op sub : Nat} {w : List Nat} {k : State → GfxRun → List Nat → State} (h : packetAt s e op sub r w = true)
    (hop : op < 256) (hsub : sub < 256) (hl : packetListed op sub = true) : s.gfxPacket e op sub k = k (afterPacket s r w) r w := by
  simp only [packetAt, Bool.and_eq_true, decide_eq_true_eq, Option.isNone_iff_eq_none] at h
  obtain ⟨⟨⟨⟨⟨⟨hcur, -, -, hlen, hend⟩, hhead⟩, hbody⟩, hword⟩, hn⟩, hw⟩ := h
  have hsize : w.length < 65536 := by have := rdMem_lt (s := s) (a := r.cmd + 4 * r.pc) (n := 4); omega
  obtain ⟨hbop, hbsub, hbn⟩ := bits_header hop hsub hsize
  have hsecond : w.getD 1 0 = if 2 ≤ w.length then s.rdMem (r.cmd + 4 * r.pc + 4) 4 else 0 := (congrArg (·.getD 1 0) hw).trans second_word
  have hlength := length_of_packet (op := op) (sub := sub) (n := w.length) (w1 := w.getD 1 0) (by
    by_cases hpush : op = 2 ∧ sub = 5
    · rw [if_pos hpush] at hn ⊢
      exact of_decide_eq_true hn
    · rw [if_neg hpush] at hn ⊢
      exact eq_of_beq hn)
  rw [hsecond] at hlength
  unfold State.gfxPacket
  rw [hcur]
  dsimp only
  rw [if_neg (by omega), hhead]
  dsimp only
  rw [hword, hbop, hbsub, hbn, hlength, if_neg (by simp [hl]; omega), if_neg (by simp), hbody, ← hw]
  rfl

theorem fe_of_packetAt {e op sub : Nat} {w : List Nat} (h : packetAt s e op sub r w = true) : r.fe = e := by
  simp only [packetAt, Bool.and_eq_true, decide_eq_true_eq] at h
  exact h.1.1.1.1.1.2.1

theorem phase_of_packetAt {e op sub : Nat} {w : List Nat} (h : packetAt s e op sub r w = true) : r.phase = 0 := by
  simp only [packetAt, Bool.and_eq_true, decide_eq_true_eq] at h
  exact h.1.1.1.1.1.2.2.1

end Reads

/-! ### A packet that ends its job (R236)

Counter 9 of the page counts bad packets; nothing that follows the count changes it. -/

section Ends

variable {s : State} {r : GfxRun}

theorem bad_count_ne {m n : Nat} (h : ctrKey (Blk.page .gfx 0) m ≠ ctrKey (Blk.page .gfx 0) 9) :
    (s.count .gfx 0 m n).counter .gfx 0 9 = s.counter .gfx 0 9 := counter_count_ne h

theorem bad_writeBack {q : Req} {dirty : List (Nat × Bool × List Byte)} : (s.writeBack q dirty).1.counter .gfx 0 9 = s.counter .gfx 0 9 := by
  unfold State.writeBack
  refine foldl_same (fun p : State × Option (Nat × Nat) => p.1.counter .gfx 0 9) (fun p d => ?_)
  split
  · exact (memRecord_frame Frame.refl Cov.refl : Frame memRecord_T p.1 _).ctr .gfx 0 9 (by decide) (by decide)
  · exact (bad_count_ne (by decide)).trans ((put_frame Frame.refl Cov.refl : Frame put_T p.1 _).ctr .gfx 0 9 (by decide) (by decide))

theorem bad_gfxAccount : s.gfxAccount.counter .gfx 0 9 = s.counter .gfx 0 9 := by
  unfold State.gfxAccount
  extract_lets credit
  refine (foldl_same_of_mem (fun t : State => t.counter .gfx 0 9) (fun t e he => ?_)).trans (counter_mk (t := s))
  obtain rfl | rfl : e = 0 ∨ e = 1 := by simpa using he
  · exact bad_count_ne (by decide)
  · exact bad_count_ne (by decide)

theorem gfxCur_setGfx {e : Nat} {x : Option GfxRun} : (s.setGfx e x).gfxCur e = x.map (fun y => { y with since := s.now }) := by
  unfold State.setGfx State.gfxCur
  rw [(gfxShow_frame Frame.refl Cov.refl : Frame gfxShow_T _ (State.gfxShow _)).gfx (by decide)]
  exact mget_mset_same

theorem bad_setGfx {e : Nat} {x : Option GfxRun} : (s.setGfx e x).counter .gfx 0 9 = s.counter .gfx 0 9 := by
  unfold State.setGfx
  have hacc := bad_gfxAccount (s := s)
  generalize s.gfxAccount = t at hacc ⊢
  exact ((gfxShow_frame Frame.refl Cov.refl : Frame gfxShow_T _ (State.gfxShow _)).ctr .gfx 0 9 (by decide) (by decide)).trans hacc

/-- The end of a running job frees its front-end. -/
theorem gfxEnd_shown {kind code detail info : Nat} (h : r.phase = 0) : (s.gfxEnd r kind code detail info).gfxCur r.fe = none ∧
    (s.gfxEnd r kind code detail info).counter .gfx 0 9 = s.counter .gfx 0 9 := by
  have hend : Frame endJob_T (s.gfxLeave r) (s.gfxEnd r kind code detail info) := endJob_frame Frame.refl Cov.refl
  have hdrop : Frame dropWait_T s (s.dropWait r.ctx) := dropWait_frame Frame.refl Cov.refl
  have hleave : s.gfxLeave r = ((s.dropWait r.ctx).wr GFX.CTX_STAT.state 1 (b := r.ctx)).setGfx r.fe none := if_pos h
  refine ⟨?_, ?_⟩
  · rw [State.gfxCur, hend.gfx (by decide), hleave]
    exact gfxCur_setGfx
  · rw [hend.ctr .gfx 0 9 (by decide) (by decide), hleave, bad_setGfx, counter_wr, hdrop.ctr .gfx 0 9 (by decide) (by decide)]

theorem gfxFault_shown {code cause under addr : Nat} (h : r.phase = 0) : (s.gfxFault r code cause under addr).gfxCur r.fe = none ∧
    (s.gfxFault r code cause under addr).counter .gfx 0 9 = s.counter .gfx 0 9 := by
  unfold State.gfxFault
  extract_lets s0 s1 l both s2 s3 g s4
  obtain ⟨hcur, hbad⟩ := gfxEnd_shown (s := s4) (kind := 1) (code := code)
    (detail := cause + l * 256 + (if both then under * 65536 else 0)) (info := if both then addr % 2 ^ 40 else 0) h
  have hscr : Frame scramble_T s0 s1 := scramble_frame Frame.refl Cov.refl
  refine ⟨hcur, hbad.trans ?_⟩
  calc s4.counter .gfx 0 9 = s2.counter .gfx 0 9 := counter_raise.trans (bad_count_ne (by decide))
    _ = s1.counter .gfx 0 9 := by simp only [s2, counter_wr]
    _ = s0.counter .gfx 0 9 := hscr.ctr .gfx 0 9 (by decide) (by decide)
    _ = s.counter .gfx 0 9 := bad_writeBack

theorem bad_afterPacket {w : List Nat} : (afterPacket s r w).counter .gfx 0 9 = s.counter .gfx 0 9 :=
  (bad_count_ne (by decide)).trans ((fetched_frame Frame.refl Cov.refl : Frame fetched_T s _).ctr .gfx 0 9 (by decide) (by decide))

/-- A bad packet counts once and ends its job. -/
theorem gfxBad_shown (h : r.phase = 0) :
    (s.gfxBad r).gfxCur r.fe = none ∧ (s.gfxBad r).counter .gfx 0 9 = (s.counter .gfx 0 9 + 1) % 2 ^ 64 := by
  have hcount : (s.count .gfx 0 9).counter .gfx 0 9 = (s.counter .gfx 0 9 + 1) % 2 ^ 64 := counter_count_same
  rw [← hcount]
  unfold State.gfxBad State.gfxReject State.gfxFlush
  generalize s.count .gfx 0 9 = t
  have hback := bad_writeBack (s := t) (q := t.gfxReq r) (dirty := r.dirty)
  split
  next u hu =>
    rw [hu] at hback
    obtain ⟨hcur, hbad⟩ := gfxEnd_shown (s := u.scramble (u.gfxReq { r with dirty := [] }) (if r.pass then (r.targets.map GfxTarget.spans).flatten else []))
      (r := { r with dirty := [] }) (kind := 1) (code := Code.GFX_BAD_PACKET) (detail := u.localCtx r * 256) (info := r.pc % 2 ^ 20) h
    have hscr : ∀ q l, Frame scramble_T u (u.scramble q l) := fun _ _ => scramble_frame Frame.refl Cov.refl
    exact ⟨hcur, hbad.trans (((hscr _ _).ctr .gfx 0 9 (by decide) (by decide)).trans hback)⟩
  next u f hu =>
    rw [hu] at hback
    obtain ⟨hcur, hbad⟩ := gfxFault_shown (s := u) (r := { r with dirty := [] }) (code := Code.GFX_CTX_FAULT)
      (cause := if f.1 = Code.DRAM_POISON then 2 else 1) (under := f.1) (addr := f.2) h
    exact ⟨hcur, hbad.trans hback⟩

end Ends

/-! ### State and bind packets (R238, R239) -/

section Binds

variable {s : State} {r : GfxRun} {w : List Nat} {op sub : Nat} {e : Fin 2}

theorem length_of_packetAt {n : Nat} (h : packetAt s e.val op sub r w = true) (hpush : ¬ (op = 2 ∧ sub = 5))
    (hl : packetLen op sub (w.getD 1 0) = some n) : w.length = n := by
  simp only [packetAt, Bool.and_eq_true, if_neg hpush, hl] at h
  exact (Option.some.inj (eq_of_beq h.1.2)).symm

/-- A job that goes on past n words. -/
theorem next_shown {t : State} {q : GfxRun} {n : Nat} (h : packetAt s e.val op sub r w = true) (hq : q.fe = r.fe) :
    (t.gfxNext q n).gfxCur e.val = some { q with pc := q.pc + n } := by
  rw [← fe_of_packetAt h, ← hq]
  exact gfxCur_gfxNext

theorem gfxState_shown {n : Nat} (h : packetAt s e.val 1 sub r w = true) (hsub : sub < 256) (hl : packetListed 1 sub = true)
    (hn : packetLen 1 sub (w.getD 1 0) = some n) : (s.gfxState e.val sub).gfxCur e.val = some { r.note 1 sub 0 w with pc := r.pc + n } := by
  unfold State.gfxState
  rw [gfxPacket_of_packetAt h (by decide) hsub hl, length_of_packetAt h (by omega) hn]
  exact next_shown h rfl

theorem notes_next {t : State} {f : GfxRun → Nat → GfxRun} {l : List Nat} {n : Nat} (h : packetAt s e.val op sub r w = true)
    (hf : ∀ q i, (f q i).fe = q.fe ∧ (f q i).pc = q.pc) :
    (t.gfxNext (l.foldl f r) n).gfxCur e.val = some { l.foldl f r with pc := r.pc + n } := by
  rw [next_shown h (foldl_same GfxRun.fe fun q i => (hf q i).1), foldl_same GfxRun.pc fun q i => (hf q i).2]

theorem gfxLoad_good {t : State} {q : GfxRun} {a n : Nat} {k : State → State} (h : t.memFault (t.gfxReq q) false a n = none) :
    t.gfxLoad q a n k = k (t.gfxRead q a n) := by
  unfold State.gfxLoad
  rw [h]

theorem targetOk_congr {t : State} (h : ∀ x m, t.rdMem x m = s.rdMem x m) {a x y n : Nat} {d : Bool} : t.targetOk a x y n d = s.targetOk a x y n d := by
  unfold State.targetOk
  simp only [h]

theorem targetAt_congr {t : State} (h : ∀ x m, t.rdMem x m = s.rdMem x m) {a : Nat} : t.targetAt a = s.targetAt a := by
  unfold State.targetAt
  simp only [h]

theorem gfxReq_afterPacket {q : GfxRun} (hfe : q.fe = r.fe) (hctx : q.ctx = r.ctx) : (afterPacket s r w).gfxReq q = s.gfxReq r := by
  rw [afterPacket, gfxReq_gfxRead]
  unfold State.gfxReq
  rw [hfe, hctx]

theorem rdMem_afterPacket {x m : Nat} : (afterPacket s r w).rdMem x m = s.rdMem x m := rdMem_gfxRead

theorem gfxFlush_clean {t : State} {k : State → GfxRun → State} (h : r.dirty = []) : t.gfxFlush r k = k t { r with dirty := [] } := by
  unfold State.gfxFlush State.writeBack
  rw [h]
  rfl

/-- The end of a quiet pass stores nothing: the job goes on where it stands. -/
theorem gfxPassEnd_quiet {t : State} {fx : GfxFx} (h : quietPass r fx = true) : ∃ u q, (u = t ∨ u = t.count .gfx 0 5 r.flushed.length) ∧
    q.fe = r.fe ∧ q.ctx = r.ctx ∧ q.pc = r.pc ∧ ∀ k, t.gfxPassEnd r fx k = k u q := by
  cases hpass : r.pass with
  | false => exact ⟨t, r, .inl rfl, rfl, rfl, rfl, fun k => by unfold State.gfxPassEnd; rw [hpass]; rfl⟩
  | true =>
    simp only [quietPass, hpass, Bool.not_true, Bool.false_or, Bool.and_eq_true, decide_eq_true_eq, List.isEmpty_iff] at h
    obtain ⟨⟨hdraws, hdirty⟩, hends⟩ := h
    refine ⟨t.count .gfx 0 5 r.flushed.length, { r with pass := false, targets := [], draws := 0, bins := 0, binTiles := [], flushed := [], dirty := [] },
      .inr rfl, rfl, rfl, rfl, fun k => ?_⟩
    unfold State.gfxPassEnd State.passStores
    rw [hpass, hends, if_neg (by simp), if_pos hdraws]
    exact gfxFlush_clean (by rw [hdirty]; rfl)

end Binds

/-- Settles O26: each packet runs its own effect on the words that were read. -/
theorem graphicsStatePackets : Obligations.GraphicsStatePackets := by
  unfold Obligations.GraphicsStatePackets
  refine ⟨fun s e r w h => ⟨_, rfl, gfxState_shown h (by decide) rfl rfl⟩, fun s e r w h => ⟨_, rfl, gfxState_shown h (by decide) rfl rfl⟩,
    fun s e r w h => ⟨_, rfl, gfxState_shown h (by decide) rfl rfl⟩, fun s e r w h => ⟨_, rfl, gfxState_shown h (by decide) rfl rfl⟩,
    fun s e r w h => ⟨_, rfl, gfxState_shown h (by decide) rfl rfl⟩, ?_, ?_, ?_, ?_, ?_, ?_, ?_⟩
  · rintro s e r w fx n tab cnt ⟨h, hquiet⟩ ⟨hn, hn4, hcnt⟩ hsmp ⟨htab, halign, hread⟩ hok
    refine ⟨_, congrArg Host.Outcome.next (gfxPacket_of_packetAt h (by decide) (by decide) rfl), ?_⟩
    obtain ⟨u, q, hu, hfe, hctx, hpc, hrun⟩ := gfxPassEnd_quiet (t := afterPacket s r w) hquiet
    have hmem : ∀ x m, u.rdMem x m = s.rdMem x m := fun x m => by
      obtain rfl | rfl := hu
      · exact rdMem_afterPacket
      · exact rdMem_afterPacket
    have hload : u.memFault (u.gfxReq q) false tab (48 * cnt) = none := by
      obtain rfl | rfl := hu
      · rwa [gfxReq_afterPacket hfe hctx]
      · have hreq : ((afterPacket s r w).count .gfx 0 5 r.flushed.length).gfxReq q = s.gfxReq r := gfxReq_afterPacket hfe hctx
        rw [hreq]
        exact hread
    dsimp only
    rw [hrun, ← hn, ← htab, ← hcnt, if_neg (by omega), gfxLoad_good hload]
    have hv : ∀ x m, (u.gfxRead q tab (48 * cnt)).rdMem x m = s.rdMem x m := fun x m => rdMem_gfxRead.trans (hmem x m)
    simp only [hv, targetOk_congr hv, targetAt_congr hv]
    rw [if_pos hok]
    refine (congrArg (Option.map _) (next_shown h ?_)).trans ?_
    · exact hfe
    exact congrArg (fun x => some (_, x + 4, _)) hpc
  · rintro s e r w a h ⟨ha, halign, hread⟩ ⟨hmagic, hver, hrej⟩
    refine ⟨_, congrArg Host.Outcome.next (gfxPacket_of_packetAt h (by decide) (by decide) rfl), ?_⟩
    dsimp only
    rw [← ha, if_neg (by omega), gfxLoad_good (by rwa [gfxReq_afterPacket rfl rfl]),
      if_neg (by simp only [rdMem_gfxRead, rdMem_afterPacket]; omega), if_neg (by simp only [rdMem_gfxRead, rdMem_afterPacket]; omega)]
    exact next_shown h rfl
  · intro s e r w h halign
    refine ⟨_, congrArg Host.Outcome.next (gfxPacket_of_packetAt h (by decide) (by decide) rfl), ?_⟩
    rw [if_neg (by omega)]
    exact next_shown h rfl
  · intro s e r w h halign
    refine ⟨_, congrArg Host.Outcome.next (gfxPacket_of_packetAt h (by decide) (by decide) rfl), ?_⟩
    obtain ⟨hcur, hbad⟩ := gfxBad_shown (s := afterPacket s r w) (phase_of_packetAt h)
    rw [fe_of_packetAt h] at hcur
    rw [if_pos halign]
    exact ⟨hcur, hbad.trans (congrArg (fun x => (x + 1) % 2 ^ 64) bad_afterPacket)⟩
  · rintro s e r w h ⟨hlo, hhi⟩
    refine ⟨_, congrArg Host.Outcome.next (gfxPacket_of_packetAt h (by decide) (by decide) rfl), ?_⟩
    dsimp only
    rw [if_neg (by omega)]
    exact notes_next h fun q i => ⟨rfl, rfl⟩
  · intro s e r w h halign
    refine ⟨_, congrArg Host.Outcome.next (gfxPacket_of_packetAt h (by decide) (by decide) rfl), ?_⟩
    rw [if_neg (by omega)]
    exact next_shown h rfl
  · rintro s e r w h ⟨hfour, htop⟩
    refine ⟨_, congrArg Host.Outcome.next (gfxPacket_of_packetAt h (by decide) (by decide) rfl), ?_⟩
    dsimp only
    rw [if_neg (by omega)]
    exact notes_next h fun q i => ⟨rfl, rfl⟩

/-! ### A dispatch without a grid (R239) -/

/-- It goes on past its words once its grid is read, and counts no dispatch. -/
theorem dispatch_without_grid {s : State} {e : Fin 2} {r : GfxRun} {w : List Nat} {fx : GfxFx} {a : Nat} (h : packetAt s e.val 4 2 r w = true)
    (hpass : r.pass = false) (ha : a = pairAt w 1) (halign : a % 4 = 0) (hread : (afterPacket s r w).memFault (s.gfxReq r) false a 12 = none)
    (hgrid : (List.range 3).map (fun i => s.rdMem (a + 4 * i) 4) = [0, 0, 0]) :
    exec (.gfxDispatchIndirect e fx) s = .next (((afterPacket s r w).gfxRead r a 12).gfxNext r 3) := by
  have hmem : ∀ x m, ((afterPacket s r w).gfxRead r a 12).rdMem x m = s.rdMem x m := fun x m => rdMem_gfxRead.trans rdMem_afterPacket
  refine congrArg Host.Outcome.next ((gfxPacket_of_packetAt h (by decide) (by decide) rfl).trans ?_)
  dsimp only
  rw [← ha, if_neg (by omega), gfxLoad_good (by rwa [gfxReq_afterPacket rfl rfl])]
  simp only [hmem, hgrid]
  unfold State.gfxDispatch State.gfxPassEnd
  rw [hpass]
  rfl

/-- A read counts bytes and no dispatch. -/
theorem dispatches_gfxRead {s : State} {r : GfxRun} {a n : Nat} : (s.gfxRead r a n).counter .gfx 0 2 = s.counter .gfx 0 2 :=
  (counter_count_ne (by decide)).trans ((fetched_frame Frame.refl Cov.refl : Frame fetched_T s _).ctr .gfx 0 2 (by decide) (by decide))

/-- A job of the manager whose next packet dispatches the grid at 2000H. -/
def dispatchJob : GfxRun := { job := { ring := 0, seq := 0, desc := [] }, fe := 0, ctx := 0, comp := false, cmd := 0x1000, words := 3 }

/-- It runs on front-end 0, its grid is empty, and the counter of dispatches, of 64 bits, holds 2^64. -/
def dispatchState : State :=
  { (({} : State).wr GFX.CTX_STAT.owner 0xFE).wrBytes 0x1000 (leBytes 4 0x30204 ++ leBytes 4 0x2000 ++ leBytes 4 0) with
    gfx := { cur := mset [] 0 (some dispatchJob) none }
    ctr := mset [] (ctrKey (Blk.page .gfx 0) 2) (2 ^ 64) 0 }

/-- The effect operand of a packet without work. -/
def noEffect : GfxFx := { match_ := true, reads := [], writes := [], ends := [], batches := [] }

/-- Refutes O27: a dispatch without a grid leaves the counter of dispatches as it is, where the clause asks for its remainder by 2^64. -/
theorem not_graphicsWorkPackets : ¬ Obligations.GraphicsWorkPackets := by
  unfold Obligations.GraphicsWorkPackets
  rintro ⟨-, -, -, -, -, dispatch, -⟩
  have hpacket : packetAt dispatchState ((0 : Fin 2) : Nat) 4 2 dispatchJob [0x30204, 0x2000, 0] = true := by decide
  have hread : (afterPacket dispatchState dispatchJob [0x30204, 0x2000, 0]).memFault (dispatchState.gfxReq dispatchJob) false 0x2000 12 = none := by
    decide
  have hgrid : dispatchState.rdMem 0x2000 4 = 0 := by decide
  have hbefore : dispatchState.counter .gfx 0 2 = 2 ^ 64 := by decide
  obtain ⟨t, hexec, -, hcount⟩ := dispatch dispatchState 0 dispatchJob [0x30204, 0x2000, 0] noEffect 0x2000
    ⟨hpacket, rfl, rfl, rfl⟩ ⟨rfl, rfl, hread⟩ (by decide)
  have hrun := dispatch_without_grid (fx := noEffect) hpacket rfl (a := 0x2000) rfl rfl hread (by decide)
  have hkept : t.counter .gfx 0 2 = dispatchState.counter .gfx 0 2 := by
    rw [← Host.Outcome.next.inj (hrun.symm.trans hexec)]
    exact dispatches_gfxRead.trans dispatches_gfxRead
  rw [hkept, hbefore, if_pos (.inl hgrid)] at hcount
  exact absurd hcount (by decide)

end Sys2Proof.Proofs

/-! A hot plug that ends the wait of a link in Powering, and a trigger whose last pulse followed no listed time base. -/

namespace Sys2Proof.Proofs

open Machine Laws

/-! ### Hot plug of a DisplayPort link (R342, R348) -/

/-- Link 0 is a DisplayPort link in Powering whose HPD is low, and t_pwr_on_ms has passed. -/
def poweringLink : State :=
  { (({} : State).wr LINK.LINK_CFG.type 1).wr LINK.LINK_STAT.state 2 with time := { ({} : TimeSt) with tick := 1000000 } }

/-- That state after HPD has come. -/
def pluggedLink : State := match execHpdPlug 0 poweringLink with
  | .next t => t
  | _ => poweringLink

/-- Refutes O40: the link trains at once, as R342 has it do once t_pwr_on_ms has passed and HPD is present; the clause keeps it in Powering. -/
theorem not_linkLossAndCommands : ¬ Obligations.LinkLossAndCommands := by
  unfold Obligations.LinkLossAndCommands
  rintro ⟨-, -, -, -, -, -, -, plug, -⟩
  obtain ⟨t, hexec, -, -, hstate⟩ := plug poweringLink 0 ⟨.inl (by decide), by decide⟩
  have hrun : exec (.hpdPlug 0) poweringLink = .next pluggedLink := rfl
  have htrains : pluggedLink.rd LINK.LINK_STAT.state 0 = 3 := by decide
  have hbefore : poweringLink.rd LINK.LINK_STAT.state 0 = 2 := by decide
  rw [← Host.Outcome.next.inj (hrun.symm.trans hexec), show ((0 : Fin 8) : Nat) = 0 from rfl, htrains, hbefore] at hstate
  exact absurd hstate (by decide)

/-! ### A genlocked trigger (R364) -/

/-- The trigger of camera port 0 follows the locked genlock of head 0, whose edge at time 0 it has not followed yet; its last pulse, at time 0 too, is
held under time base 3. -/
def otherBase : State :=
  { (((({} : State).wr CAP.TRIG_CFG.mode 2).wr HEAD.GL_STAT.state 3).wr HEAD.GL_PERIOD_NS.ns 1000).setCap 0
      { ({} : CapSt) with trigAt := some 0, trigBy := 3 } with
    heads := mset [] 0 { ({} : HeadSt) with edge := some 0 } {} }

/-- That state after the pulse falls due. -/
def otherOmitted : State := match execTrigPulseDue 0 otherBase with
  | .next t => t
  | _ => otherBase

/-- Refutes O41: a pulse that comes soon after one of another time base than 1 and 2 is omitted as well; the clause has it made and counted. -/
theorem not_cameraFrames : ¬ Obligations.CameraFrames := by
  unfold Obligations.CameraFrames
  rintro ⟨-, -, -, -, -, -, -, -, -, -, -, -, -, -, -, -, pulse, -⟩
  obtain ⟨t, hexec, -, -, hcount⟩ := pulse otherBase 0 ⟨by decide, by decide, by decide⟩
  have hrun : exec (.trigPulseDue 0) otherBase = .next otherOmitted := rfl
  have homits : otherOmitted.counter .cap 0 10 = 0 := by decide
  have hbefore : otherBase.counter .cap 0 10 = 0 := by decide
  rw [← Host.Outcome.next.inj (hrun.symm.trans hexec), show ((0 : Fin 16) : Nat) = 0 from rfl, homits, hbefore] at hcount
  exact absurd hcount (by decide)

end Sys2Proof.Proofs

/-! More statements that take a register to hold no more than its bits: the alarm's run, an encoder's burst and a staged lower half. -/

namespace Sys2Proof.Proofs

open Machine Laws

/-! ### The alarm (R424) -/

/-- The one-bit field ALARM_CTRL.run holds 2^24. -/
def wideRun : State :=
  { ({} : State) with regs := mset [] (SAFE.ALARM_CTRL.run.key 0 0 0) (2 ^ 24) 0, alarm := { ({} : AlarmSt) with start := some 0 } }

/-- That state after pattern 0 is written with run as it is. -/
def wideRunStopped : State := match execAlarmPatternWrite .saf 0 wideRun with
  | .next t => t
  | _ => wideRun

/-- Refutes O48: the word that keeps run has it beyond bit 31, so its bit 8 stops the alarm. -/
theorem not_audioPortsAndAlarm : ¬ Obligations.AudioPortsAndAlarm := by
  unfold Obligations.AudioPortsAndAlarm
  rintro ⟨-, -, -, -, -, -, -, -, -, -, -, -, -, -, pattern, -⟩
  obtain ⟨t, hexec, hrun, -⟩ := pattern wideRun .saf 0 0 (by decide) ⟨by decide, rfl, rfl⟩
  have hstep : exec (.alarmPatternWrite .saf 0) wideRun = .next wideRunStopped := rfl
  have hstopped : wideRunStopped.rd SAFE.ALARM_CTRL.run = 0 := by decide
  rw [← Host.Outcome.next.inj (hstep.symm.trans hexec), hstopped] at hrun
  exact absurd hrun (by decide)

/-! ### An encoder's burst (R428) -/

/-- Encoder 0 is enabled with both levels low, and the one-bit field ENC_STAT.burst holds 2. -/
def wideBurst : State :=
  { (({} : State).wr ENC.ENC_CFG.enable 1) with regs := mset (({} : State).wr ENC.ENC_CFG.enable 1).regs (ENC.ENC_STAT.burst.key 0 0 0) 2 0 }

/-- That state after both levels have risen in one sample. -/
def wideBurstGoesOn : State := match execEncTransition 0 true true wideBurst with
  | .next t => t
  | _ => wideBurst

/-- Refutes O49: a burst that is on goes on as it is. -/
theorem not_panelControls : ¬ Obligations.PanelControls := by
  unfold Obligations.PanelControls
  rintro ⟨-, illegal, -⟩
  obtain ⟨t, hexec, -, -, hburst⟩ := illegal wideBurst 0 true true (by decide) (by decide)
  have hstep : exec (.encTransition 0 true true) wideBurst = .next wideBurstGoesOn := rfl
  have hkept : wideBurstGoesOn.rd ENC.ENC_STAT.burst = 2 := by decide
  rw [← Host.Outcome.next.inj (hstep.symm.trans hexec), show ((0 : Fin 16) : Nat) = 0 from rfl, hkept] at hburst
  exact absurd hburst (by decide)

/-! ### A staged lower half (R53, R443) -/

/-- The manager has staged 2^32 as the lower half of SNAP_AT. -/
def wideStage : State := { ({} : State) with stage := mset [] (Who.mgr.slot .time 0) (2 ^ 32 + 1) 0 }

/-- That state after 0 is written to the upper half. -/
def wideArmed : State := match execSnapArm .mgr 0 wideStage with
  | .next t => t
  | _ => wideStage

/-- Refutes O50: the strobe is armed for the sum of the halves, 2^32, where the clause drops what the lower half has beyond bit 31. -/
theorem not_timeBase : ¬ Obligations.TimeBase := by
  unfold Obligations.TimeBase
  rintro ⟨-, -, -, -, -, -, -, -, -, -, -, -, -, arm, -⟩
  obtain ⟨t, hexec, hat, -⟩ := arm wideStage .mgr 0 (2 ^ 32) ⟨by decide, by decide, by decide⟩ (by decide)
  have hstep : exec (.snapArm .mgr 0) wideStage = .next wideArmed := rfl
  have harmed : wideArmed.rd TIME.SNAP_AT.at_ = 2 ^ 32 := by decide
  rw [← Host.Outcome.next.inj (hstep.symm.trans hexec), harmed] at hat
  exact absurd hat (by decide)

end Sys2Proof.Proofs

/-! Genlock: pulses in and outside the window, and the window's close (R292 to R295). -/

namespace Sys2Proof.Proofs

open Machine Laws

/-! ### Pulses (R292, R293) -/

section Pulses

variable {s t : State} {h n : Nat} {e : Bool}

theorem KeptHead.glSrc (h1 : KeptHead h s t) : t.glSrc h = s.glSrc h := by
  unfold State.glSrc
  rw [h1.regs _ rfl]

theorem KeptHead.now (h1 : KeptHead h s t) : t.now = s.now := by
  unfold State.now
  rw [h1.time]

theorem KeptHead.inWindow (h1 : KeptHead h s t) : t.inWindow h t.now = s.inWindow h s.now := by
  unfold State.inWindow State.glNext
  rw [h1.regs _ rfl, h1.head, h1.now]

/-- What a pulse of the input of a head that has its expected period does to that head. -/
theorem glPulse_measured (hsrc : s.glSrc h ≠ 0) (hst : 2 ≤ s.rd HEAD.GL_STAT.state h ∧ s.rd HEAD.GL_STAT.state h ≤ 4) :
    s.glPulse h = if s.inWindow h s.now then s.setHead h { s.head h with pulses := (s.head h).pulses ++ [s.now] } else s.glitch h := by
  unfold State.glPulse
  dsimp only
  rw [if_neg (by omega), if_pos ⟨hst.1, hst.2, hsrc⟩]

/-- A pulse of an input acts on each head that follows it by itself. -/
theorem genlockPulse_head {i : Fin 2} {k : Fin 8} (hsrc : s.glSrc k.val = i.val + 1) (hedge : s.on HEAD.GL_CFG.edge k.val = e)
    (hst : 2 ≤ s.rd HEAD.GL_STAT.state k.val ∧ s.rd HEAD.GL_STAT.state k.val ≤ 4) : ∃ u t, KeptHead k.val s u ∧
      exec (.genlockPulse i e) s = .next t ∧ KeptHead k.val (if u.inWindow k.val u.now then
        u.setHead k.val { u.head k.val with pulses := (u.head k.val).pulses ++ [u.now] } else u.glitch k.val) t := by
  obtain ⟨u, hu, ht⟩ := foldl_focus (KeptHead k.val) (fun _ => .refl) .trans (h := k.val) (l := List.range 8) (a := s)
    (step := fun t h => if t.glSrc h = i.val + 1 ∧ (t.on HEAD.GL_CFG.edge h = e) then t.glPulse h else t)
    (fun t j hj hne => by
      split
      · exact KeptHead.refl.glPulse (List.mem_range.1 hj) k.isLt hne
      · exact .refl) List.nodup_range (List.mem_range.2 k.isLt)
  have hsrc' : u.glSrc k.val = i.val + 1 := hu.glSrc.trans hsrc
  have hedge' : u.on HEAD.GL_CFG.edge k.val = e := by
    unfold State.on at hedge ⊢
    rw [hu.regs _ rfl, hedge]
  refine ⟨u, _, hu, rfl, ?_⟩
  rw [if_pos ⟨hsrc', hedge'⟩, glPulse_measured (by omega) (by rwa [hu.regs _ rfl])] at ht
  exact ht

end Pulses

/-! ### The window's close (R293, R294) -/

section Close

variable {s : State} {h : Nat}

theorem windowOver_early (hw : s.windowOver h = false) : s.glClose h = s := by
  unfold State.glClose
  simp [hw]

theorem glClose_off (hst : s.rd HEAD.GL_STAT.state h < 2 ∨ 4 < s.rd HEAD.GL_STAT.state h) : s.glClose h = s := by
  unfold State.glClose
  dsimp only
  rw [if_pos]
  simp
  omega

/-- In a window that has ended, for a head with an input that is acquiring, locked or in flywheel, the pulses kept decide. -/
theorem glClose_open (hst : 2 ≤ s.rd HEAD.GL_STAT.state h ∧ s.rd HEAD.GL_STAT.state h ≤ 4) (hsrc : s.glSrc h ≠ 0) (hw : s.windowOver h = true) :
    (!(decide (2 ≤ s.rd HEAD.GL_STAT.state h ∧ s.rd HEAD.GL_STAT.state h ≤ 4)) || s.glSrc h == 0 || !s.windowOver h) = false := by
  simp [hst, hsrc, hw]

/-- A locked head accepts the pulse of its window. -/
theorem glClose_accepts {p : Nat} (hst : s.rd HEAD.GL_STAT.state h = 3) (hsrc : s.glSrc h ≠ 0) (hw : s.windowOver h = true)
    (hp : (s.head h).pulses = [p]) : ∃ ph near, s.glClose h =
      (((((s.setHead h { s.head h with pulses := [], edge := some p, near := near }).count .head h 5).wr HEAD.GL_PHASE.ns ph h).wr
        HEAD.GL_STAT.missing 0 h).glSteer h).wr HEAD.GL_STAT.state 3 h := by
  unfold State.glClose
  dsimp only
  rw [glClose_open (by omega) hsrc hw, hp, hst]
  exact ⟨_, _, rfl⟩

/-- Without a pulse a locked head goes to flywheel. -/
theorem glClose_misses (hst : s.rd HEAD.GL_STAT.state h = 3) (hsrc : s.glSrc h ≠ 0) (hw : s.windowOver h = true) (hp : (s.head h).pulses = []) :
    ∃ m, s.glClose h = ((((s.setHead h { s.head h with edge := some (s.glNext h), near := 0 }).count .head h 7).raise .head h 13).wr
      HEAD.GL_STAT.missing m h).wr HEAD.GL_STAT.state 4 h := by
  unfold State.glClose
  dsimp only
  rw [glClose_open (by omega) hsrc hw, hp, hst]
  exact ⟨_, rfl⟩

/-- In flywheel the eighth missing pulse loses the lock. -/
theorem glClose_loses (hst : s.rd HEAD.GL_STAT.state h = 4) (hsrc : s.glSrc h ≠ 0) (hw : s.windowOver h = true) (hp : (s.head h).pulses = [])
    (hm : 7 ≤ s.rd HEAD.GL_STAT.missing h) : ∃ c m c', c'.edge = none ∧ s.glClose h =
      ((((((((s.setHead h c).count .head h 7).raise .head h 13).wr HEAD.GL_STAT.missing m h).wr HEAD.GL_STAT.state 5 h).setHead h c').count
        .head h 8).raise .head h 11).glEvent h Code.GENLOCK_LOST := by
  unfold State.glClose
  dsimp only
  rw [glClose_open (by omega) hsrc hw, hp, hst]
  dsimp only [nearest, List.foldl]
  rw [if_neg (by decide), if_neg (by decide), if_neg (Nat.not_lt.2 (Nat.succ_le_succ hm)), if_pos rfl]
  exact ⟨_, _, _, rfl, rfl⟩

end Close

/-- Settles O34: a pulse acts on the head that follows its input, and the window's close decides by the pulses kept. -/
theorem genlock : Obligations.Genlock := by
  unfold Obligations.Genlock
  refine ⟨?_, ?_, ?_, ?_, ?_, ?_, ?_⟩
  case refine_1 =>
    rintro s n e h ⟨hsrc, hedge⟩ hst hwin
    obtain ⟨u, t, hu, hexec, ht⟩ := genlockPulse_head hsrc hedge hst
    rw [hu.inWindow, hwin, if_pos rfl] at ht
    refine ⟨t, hexec, ?_⟩
    rw [ht.head, head_setHead, hu.head, hu.now]
  case refine_2 =>
    rintro s n e h ⟨hsrc, hedge⟩ hst hwin
    obtain ⟨u, t, hu, hexec, ht⟩ := genlockPulse_head hsrc hedge hst
    rw [hu.inWindow, hwin, if_neg (by decide)] at ht
    refine ⟨t, hexec, ?_, ?_⟩
    · rw [ht.head, ← hu.head]
      exact congrArg HeadSt.pulses (head_congr (raise_heads ..))
    · rw [ht.ctr, ← hu.ctr]
      exact counter_raise.trans counter_count_same
  case refine_3 =>
    rintro s h p ⟨hst, hsrc, hw, hp⟩
    obtain ⟨ph, near, hclose⟩ := glClose_accepts hst hsrc hw hp
    have hsteer : ∀ {u : State}, Frame glSteer_T u (u.glSteer h.val) := glSteer_frame Frame.refl Cov.refl
    have hhead : ((((((s.setHead h.val { s.head h.val with pulses := [], edge := some p, near := near }).count .head h.val 5).wr HEAD.GL_PHASE.ns ph
        h.val).wr HEAD.GL_STAT.missing 0 h.val).glSteer h.val).wr HEAD.GL_STAT.state 3 h.val).head h.val =
        { s.head h.val with pulses := [], edge := some p, near := near } := by
      rw [head_congr (wr_heads ..), head_congr (hsteer.heads (by decide)), head_congr (wr_heads ..), head_congr (wr_heads ..),
        head_congr (count_heads ..), head_setHead]
    refine ⟨_, congrArg Host.Outcome.next hclose, ?_, ?_, rd_wr_same, ?_, ?_⟩
    · rw [hhead]
    · rw [hhead]
    · rw [rd_wr_sep rfl, rd_clear hsteer (by decide), rd_wr_same]
      rfl
    · rw [counter_wr, hsteer.ctr .head h.val 5 (by decide) (by decide), counter_wr, counter_wr, counter_count_same]
      rfl
  case refine_4 =>
    rintro s h ⟨hst, hsrc, hw, hp⟩
    obtain ⟨m, hclose⟩ := glClose_misses hst hsrc hw hp
    refine ⟨_, congrArg Host.Outcome.next hclose, ?_, rd_wr_same, ?_, ?_⟩
    · rw [head_congr (wr_heads ..), head_congr (wr_heads ..), head_congr (raise_heads ..), head_congr (count_heads ..), head_setHead]
    · rw [counter_wr, counter_wr, counter_raise, counter_count_same]
      rfl
    · rw [rd_wr_sep (by decide), rd_wr_sep (by decide)]
      exact raise_bit (by decide)
  case refine_5 =>
    rintro s h ⟨hst, hsrc, hw, hp, hm⟩
    obtain ⟨c, m, c', hedge, hclose⟩ := glClose_loses hst hsrc hw hp hm
    have htold : ∀ {u : State}, Frame glEvent_T u (u.glEvent h.val Code.GENLOCK_LOST) := glEvent_frame Frame.refl Cov.refl
    refine ⟨_, congrArg Host.Outcome.next hclose, ?_, ?_, ?_, ?_⟩
    · rw [rd_clear htold (by decide), raise_rd_sep (by decide), rd_count]
      exact rd_with_heads.trans rd_wr_same
    · rw [head_congr (htold.heads (by decide)), head_congr (raise_heads ..), head_congr (count_heads ..), head_setHead, hedge]
    · rw [htold.ctr .head h.val 8 (by decide) (by decide), counter_raise, counter_count_same]
      refine congrArg (fun x => (x + 1) % 2 ^ 64) ?_
      refine (counter_wr.trans (counter_wr.trans (counter_raise.trans (counter_count_ne ?_))))
      unfold ctrKey
      omega
    · rw [rd_clear htold (by decide)]
      exact raise_bit (by decide)
  case refine_6 => exact fun s h hst => congrArg Host.Outcome.next (glClose_off hst)
  case refine_7 => exact fun s h hw => congrArg Host.Outcome.next (windowOver_early hw)

end Sys2Proof.Proofs

/-! Touch reports: the ring, the report that is held or dropped, the consumer's index and the first wake scan (R380 to R384). -/

namespace Sys2Proof.Proofs

open Machine Laws

section

variable {s t : State} {p : Nat} {d : List Byte}

theorem touchSt_setTouch {v : TouchSt} : (s.setTouch p v).touchSt p = v := mget_mset_same

theorem touchSt_congr (e : t.touch = s.touch) : t.touchSt p = s.touchSt p := by
  unfold State.touchSt
  rw [e]

theorem length_orFlags {m : Nat} : (orFlags d m).length = d.length := List.length_set

/-! ### Registers of the first tile of a surface -/

theorem pageRows_firstTile : pageRows .touch (2 * p) = pageRows .touch 0 := by
  unfold pageRows blkRows
  simp

/-- A register of the first tile takes a word into its RW field. -/
theorem tileStore_field {f : Fld} {off v : Nat} (hrow : f ∈ pageRows .touch 0) (hat : f.at off = some (0, false))
    (hone : partsApart (partsAt .touch 0 off)) (hacc : f.acc = .rw) (hd : place (HDR.dirty .touch) 0 ≠ place f 0) (hlen : f.lo + f.len ≤ 32) :
    (s.storeWord .touch (2 * p) off v).rd f (2 * p) = (v >>> f.lo) % 2 ^ f.len :=
  storeWord_field (b := .touch) (i := 2 * p) (pageRows_firstTile ▸ hrow) hat
    (by unfold partsAt at hone ⊢; rwa [pageRows_firstTile]) hacc hd hlen

/-! ### The report that is due (R381) -/

/-- A report that may be stored goes into the next entry of the ring. -/
theorem putReport_stored {q : Req} {a prod phase : Nat} (hprod : prod = s.rd TOUCH.RPT_PROD.prod (2 * p))
    (hphase : phase = if prod / s.rptEntries p % 2 = 0 then 1 else 0)
    (ha : a = s.rd TOUCH.RPT_BASE.base (2 * p) / 4096 * 4096 + prod % s.rptEntries p * 128)
    (hq : q = reqFor (s.rd (HDR.owner .touch) (2 * p)) portStream false) (hf : s.memFault q true a d.length = none) :
    ∃ u : State, u = (((s.put q a (orFlags d phase)).wr TOUCH.RPT_PROD.prod (prod + 1) (2 * p)).count .touch (2 * p) 4).raise .touch (2 * p) 8 ∧
      s.putReport p d false = u.setTouch p { u.touchSt p with chg := 0 } := by
  refine ⟨_, rfl, ?_⟩
  unfold State.putReport
  dsimp only
  rw [← hprod, ← hq, ← ha, ← hphase]
  unfold State.tryStore
  rw [length_orFlags, hf]
  rfl

theorem putReport_shown {q : Req} {a prod phase : Nat} (hprod : prod = s.rd TOUCH.RPT_PROD.prod (2 * p))
    (hphase : phase = if prod / s.rptEntries p % 2 = 0 then 1 else 0)
    (ha : a = s.rd TOUCH.RPT_BASE.base (2 * p) / 4096 * 4096 + prod % s.rptEntries p * 128)
    (hq : q = reqFor (s.rd (HDR.owner .touch) (2 * p)) portStream false) (hf : s.memFault q true a d.length = none) :
    (s.putReport p d false).rdBytes a d.length = orFlags d phase ∧ (s.putReport p d false).rd TOUCH.RPT_PROD.prod (2 * p) = (prod + 1) % 2 ^ 24 ∧
      ((s.putReport p d false).touchSt p).due = (s.touchSt p).due ∧
      (s.putReport p d false).counter .touch (2 * p) 4 = (s.counter .touch (2 * p) 4 + 1) % 2 ^ 64 ∧
      bit ((s.putReport p d false).rd (HDR.ev_raw .touch) (2 * p)) 8 = true := by
  obtain ⟨u, hu, hput⟩ := putReport_stored hprod hphase ha hq hf
  have hput_T : Frame put_T s (s.put q a (orFlags d phase)) := put_frame Frame.refl Cov.refl
  have hdram : u.dram = (s.wrBytes a (orFlags d phase)).dram := by
    rw [hu, raise_dram, count_dram, wr_dram, put_dram]
  have hvar : u.variant = (s.wrBytes a (orFlags d phase)).variant := by
    rw [hu, raise_variant, count_variant, wr_variant, put_variant, wrBytes_variant]
  rw [hput]
  refine ⟨?_, ?_, ?_, ?_, ?_⟩
  · rw [← length_orFlags (d := d) (m := phase)]
    exact (rdBytes_congr (t := u.setTouch p _) hdram hvar).trans rdBytes_wrBytes_same
  · refine rd_with_touch.trans ?_
    rw [hu, raise_rd_sep (by decide), rd_count, rd_wr_same]
    rfl
  · have hkept : u.touchSt p = s.touchSt p :=
      touchSt_congr (by rw [hu, raise_touch, count_touch, wr_touch, hput_T.touch (by decide)])
    rw [touchSt_setTouch, hkept]
  · refine (counter_mk (t := u)).trans ?_
    rw [hu, counter_raise, counter_count_same, counter_wr, hput_T.ctr .touch (2 * p) 4 (by decide) (by decide)]
  · refine (congrArg (bit · 8) rd_with_touch).trans ?_
    rw [hu]
    exact raise_bit (by decide)

theorem reportWrite_none (hd : (s.touchSt p).due = none) : s.reportWrite p = s := by
  unfold State.reportWrite
  dsimp only
  rw [hd]

/-- A ring that is off drops the report. -/
theorem reportWrite_off (hd : (s.touchSt p).due = some d) (hon : s.on TOUCH.RPT_CTRL.enable (2 * p) = false) :
    s.reportWrite p = s.setTouch p { s.touchSt p with due := none } := by
  unfold State.reportWrite
  dsimp only
  rw [hd, hon]
  rfl

/-- A full ring that holds no report holds this one. -/
theorem reportWrite_full (hd : (s.touchSt p).due = some d) (hon : s.on TOUCH.RPT_CTRL.enable (2 * p) = true) (hfull : s.rptEntries p ≤ s.rptWaiting p)
    (hheld : (s.touchSt p).held = none) : s.reportWrite p = (s.setTouch p { s.touchSt p with due := none }).setTouch p
      { (s.setTouch p { s.touchSt p with due := none }).touchSt p with held := some d } := by
  unfold State.reportWrite
  dsimp only
  rw [hd, hon, hheld]
  exact if_pos hfull

theorem reportWrite_room (hd : (s.touchSt p).due = some d) (hon : s.on TOUCH.RPT_CTRL.enable (2 * p) = true) (hroom : s.rptWaiting p < s.rptEntries p) :
    s.reportWrite p = (s.setTouch p { s.touchSt p with due := none }).putReport p d false := by
  unfold State.reportWrite
  dsimp only
  rw [hd, hon]
  exact if_neg (Nat.not_le.2 hroom)

/-! ### The consumer's index (R381) -/

/-- An index that leaves more unread than the ring has is refused. -/
theorem rptCons_few {w : Who} {v : Nat} (hacc : accepts s w .touch (2 * p) 0x2E4 v = true)
    (h : s.rptEntries p < (s.rd TOUCH.RPT_PROD.prod (2 * p) + 2 ^ 24 - v % 2 ^ 24) % 2 ^ 24) :
    s.rptCons w p v = s.okResp.refuse .touch (2 * p) Code.REG_PERM w.rid 0x2E4 := by
  unfold State.rptCons
  dsimp only
  rw [onWrite_accepted hacc (by decide)]
  exact if_pos h

theorem rptCons_taken {w : Who} {v : Nat} (hacc : accepts s w .touch (2 * p) 0x2E4 v = true)
    (h : (s.rd TOUCH.RPT_PROD.prod (2 * p) + 2 ^ 24 - v % 2 ^ 24) % 2 ^ 24 ≤ s.rptEntries p) :
    s.rptCons w p v = (s.okResp.storeWord .touch (2 * p) 0x2E4 v).freeHeld p := by
  unfold State.rptCons
  dsimp only
  rw [onWrite_accepted hacc (by decide)]
  exact if_neg (Nat.not_lt.2 h)

theorem freeHeld_rd {f : Fld} {i j b : Nat} (hf : freeHeld_T.all (clear f) = true) : (s.freeHeld p).rd f i j b = s.rd f i j b :=
  rd_clear (freeHeld_frame Frame.refl Cov.refl) hf

/-! ### The first wake scan (R383) -/

theorem wakeScan_first {bal : List Nat} {a : Nat} (hst : s.tiles p = 4) (hlen : (s.touchSt p).wBase.length ≠ s.wakeGroups p)
    (ha : (s.touchSt p).wAt = some a) (hpast : s.past a 50000000 = true) :
    s.wakeScan p bal = s.setTouch p { s.touchSt p with
      wAt := some s.now, wBase := (List.range (s.wakeGroups p)).map (fun g => rawCount 50 (bal.getD g 0)) } := by
  unfold State.wakeScan
  extract_lets was
  rw [if_neg (by simp [was, ha, hst, hpast]), if_pos hlen]

theorem wakeScan_not {bal : List Nat} (hst : s.tiles p ≠ 4) : s.wakeScan p bal = s := by
  unfold State.wakeScan
  exact if_pos (.inl hst)

end

/-- Settles O43: the report goes where the ring's state leaves it; an accepted index of the consumer is stored before the held report is written. -/
theorem touchReports : Obligations.TouchReports := by
  unfold Obligations.TouchReports
  refine ⟨?stored, ?held, ?dropped, ?enabled, ?refused, ?taken, ?first, fun s p bal h => congrArg Host.Outcome.next (wakeScan_not h)⟩
  case stored =>
    rintro s p d a prod phase ⟨hd, hon, hroom⟩ ⟨hprod, ha, hphase⟩ hf
    refine ⟨_, congrArg Host.Outcome.next (reportWrite_room hd hon hroom), ?_⟩
    obtain ⟨h1, h2, h3, h4, h5⟩ := putReport_shown (s := s.setTouch p.val { s.touchSt p.val with due := none }) hprod hphase ha rfl hf
    exact ⟨h1, h2, h3.trans (congrArg TouchSt.due touchSt_setTouch), h4, h5⟩
  case held =>
    rintro s p d ⟨hd, hon, hfull, hheld⟩
    refine ⟨_, congrArg Host.Outcome.next (reportWrite_full hd hon hfull hheld), ?_, ?_, rfl⟩
    · rw [touchSt_setTouch]
    · rw [touchSt_setTouch, touchSt_setTouch]
  case dropped =>
    intro s p hon
    cases hd : (s.touchSt p.val).due with
    | none => exact ⟨s, congrArg Host.Outcome.next (reportWrite_none hd), hd, rfl, rfl⟩
    | some d =>
      refine ⟨_, congrArg Host.Outcome.next (reportWrite_off hd hon), ?_, rfl, rfl⟩
      rw [touchSt_setTouch]
  case enabled =>
    intro s w p hacc
    refine ⟨_, congrArg Host.Outcome.next (onWrite_accepted hacc (by decide)), ?_, ?_, ?_, ?_⟩
    · rw [if_pos (by decide), rd_wr_sep (by decide), rd_wr_sep (by decide)]
      exact tileStore_field (by decide) rfl (by decide) rfl (by decide) (by decide)
    · rw [if_pos (by decide), rd_wr_sep (by decide), rd_wr_same]
      rfl
    · rw [if_pos (by decide), rd_wr_same]
      rfl
    · rw [if_pos (by decide), touchSt_congr (wr_touch ..), touchSt_congr (wr_touch ..), touchSt_setTouch]
  case refused =>
    intro s w p v hacc hfew
    exact congrArg Host.Outcome.next (rptCons_few hacc hfew)
  case taken =>
    intro s w p v hacc hfew
    refine ⟨_, congrArg Host.Outcome.next (rptCons_taken hacc hfew), ?_, ?_⟩
    · rw [freeHeld_rd (by decide)]
      exact tileStore_field (by decide) rfl (by decide) rfl (by decide) (by decide)
    · rw [(freeHeld_frame Frame.refl Cov.refl : Frame freeHeld_T _ _).resp (by decide), storeWord_resp]
      rfl
  case first =>
    rintro s p bal ⟨hst, hlen⟩ a ha hpast
    refine ⟨_, congrArg Host.Outcome.next (wakeScan_first hst hlen ha hpast), ?_, rfl⟩
    rw [touchSt_setTouch]

end Sys2Proof.Proofs

/-! Touch scans: the start of a surface, the configuration of a scan, its end, and what a write of SURF_CTRL asks for (R366 to R379). -/

namespace Sys2Proof.Proofs

open Machine Laws

section

variable {s t : State} {p : Nat}

/-! ### Tiles -/

theorem tilePages_ne : Blk.touch.page (2 * p + 1) ≠ Blk.touch.page (2 * p) := by
  unfold Blk.page
  simp only [show Blk.touch.count = 16 from rfl, show Blk.touch.first = 0 from rfl]
  omega

theorem tiles_setTiles {st : Nat} : (s.setTiles p st).tiles p = st % 8 := by
  unfold State.setTiles State.tiles
  rw [rd_wr_page tilePages_ne, rd_wr_same]
  rfl

theorem touchSt_setTiles {st : Nat} : (s.setTiles p st).touchSt p = s.touchSt p :=
  touchSt_congr ((setTiles_frame Frame.refl Cov.refl : Frame setTiles_T s _).touch (by decide))

theorem touchSt_touchCheck : (s.touchCheck p).touchSt p = s.touchSt p :=
  touchSt_congr ((touchCheck_frame Frame.refl Cov.refl : Frame touchCheck_T s _).touch (by decide))

/-- A surface that is enabled and has started goes on. -/
theorem touchCheck_on (hon : s.touchOn p = true) (hst : s.tiles p ≠ 0) : s.touchCheck p = s := by
  unfold State.touchCheck
  rw [hon]
  exact if_neg fun h : s.tiles p = 0 ∧ _ ∧ _ => hst h.1

/-! ### Findings of a self-test (R376, R377) -/

/-- What the findings of a self-test leave of a surface's touch. -/
def scanView (p : Nat) (t : State) : List (List Nat) × Nat × Bool := ((t.touchSt p).listen, (t.touchSt p).scan, (t.touchSt p).busy)

theorem scanView_congr (e : t.touch = s.touch) : scanView p t = scanView p s := by
  unfold scanView
  rw [touchSt_congr e]

theorem scanView_exclude {c : Nat} {f : Fld} : scanView p (s.exclude p c f) = scanView p s := by
  unfold State.exclude
  refine (scanView_congr (wr_touch ..)).trans ?_
  unfold scanView
  rw [touchSt_setTouch]

theorem scanView_found {b n code val : Nat} : scanView p ((s.raise .touch b n).touchEvent p code val) = scanView p s :=
  scanView_congr (((touchEvent_frame Frame.refl Cov.refl : Frame touchEvent_T _ _).touch (by decide)).trans (raise_touch ..))

theorem scanView_foundBad {c code : Nat} {f : Fld} : scanView p (s.foundBad p c f code) = scanView p s := by
  unfold State.foundBad
  split
  · rfl
  · exact scanView_found.trans scanView_exclude

theorem scanView_foundAdj {a b : Nat} : scanView p (s.foundAdj p a b) = scanView p s := by
  unfold State.foundAdj
  extract_lets f
  split
  · rfl
  · exact scanView_found.trans (scanView_exclude.trans scanView_exclude)

theorem scanView_testA {raw : Nat → Nat} : scanView p (s.testA p raw) = scanView p s := by
  unfold State.testA
  refine foldl_same (scanView p) fun t c => ?_
  have first : ∀ x : Prop, [Decidable x] → scanView p (if x then t.foundBad p c TOUCH.OPEN.channels Code.TOUCH_OPEN else t) = scanView p t := by
    intro x _
    split
    · exact scanView_foundBad
    · rfl
  dsimp only
  split
  · exact scanView_foundBad.trans (first _)
  · exact first _

theorem scanView_testBC {q : Nat} {raw : Nat → Nat} : scanView p (s.testBC p q raw) = scanView p s := by
  unfold State.testBC
  refine foldl_same (scanView p) fun t role => foldl_same (scanView p) fun u k => ?_
  split
  · rfl
  refine foldl_same (scanView p) fun v j => ?_
  dsimp only
  split
  · exact scanView_foundAdj
  · rfl

/-! ### Counters of scans -/

theorem scans_count_ne {i n m : Nat} (h : n % 128 ≠ 3) : (s.count .touch i n m).counter .touch (2 * p) 3 = s.counter .touch (2 * p) 3 :=
  counter_count_ne (by unfold ctrKey; omega)

theorem scans_scanNoise {h l : Nat} {sl : List (Option (List Nat))} :
    (s.scanNoise p h l sl).counter .touch (2 * p) 3 = s.counter .touch (2 * p) 3 := by
  unfold State.scanNoise
  extract_lets t h v lv now n1 noise loud run all best hops s1 s2
  have h1 : s1.counter .touch (2 * p) 3 = s.counter .touch (2 * p) 3 := counter_wr
  have h2 : s2.counter .touch (2 * p) 3 = s.counter .touch (2 * p) 3 := by
    simp only [s2]
    split
    · exact (scans_count_ne (by decide)).trans h1
    · exact h1
  split
  · exact ((touchEvent_frame Frame.refl Cov.refl : Frame touchEvent_T _ _).ctr .touch (2 * p) 3 (by decide) (by decide)).trans (counter_raise.trans h2)
  · exact h2

theorem scans_scanKeys {d : List Int} : (s.scanKeys p d).counter .touch (2 * p) 3 = s.counter .touch (2 * p) 3 := by
  unfold State.scanKeys
  refine foldl_same (fun u : State => u.counter .touch (2 * p) 3) fun u k => ?_
  extract_lets t c was
  split
  extract_lets now' u1 m u2
  have h2 : u2.counter .touch (2 * p) 3 = u.counter .touch (2 * p) 3 := counter_raise.trans counter_wr
  split
  · rfl
  split
  · exact (scans_count_ne (by decide)).trans h2
  · exact h2

theorem scans_scanBase {raws : List (Option Nat)} {d : List Int} :
    (s.scanBase p raws d).counter .touch (2 * p) 3 = s.counter .touch (2 * p) 3 := by
  unfold State.scanBase
  extract_lets t T R held c step l raw s1 s2
  exact counter_wr.trans (scans_count_ne (by decide))

/-- Each conversion of the surface counts on both tiles; none counts as a scan. -/
theorem scans_tiles {l : List Nat} {f : State → Nat → State}
    (hf : ∀ u i, (f u i).counter .touch (2 * p) 3 = u.counter .touch (2 * p) 3) : (l.foldl f s).counter .touch (2 * p) 3 = s.counter .touch (2 * p) 3 :=
  foldl_same (fun u : State => u.counter .touch (2 * p) 3) hf

theorem scans_setTouch {q : Nat} {v : TouchSt} : (s.setTouch q v).counter .touch (2 * p) 3 = s.counter .touch (2 * p) 3 := rfl

theorem scans_peaks {off : Nat} {d : List Int} {l : List Contact} (h : s.peaks p off d = (l, t)) :
    t.counter .touch (2 * p) 3 = s.counter .touch (2 * p) 3 := by
  have hf : FrameR peaks_T s (s.peaks p off d) := peaks_frame Frame.refl Cov.refl
  rw [h] at hf
  exact hf.ctr .touch (2 * p) 3 (by decide) (by decide)

theorem scans_testA {raw : Nat → Nat} : (s.testA p raw).counter .touch (2 * p) 3 = s.counter .touch (2 * p) 3 :=
  (testA_frame Frame.refl Cov.refl : Frame testA_T s _).ctr .touch (2 * p) 3 (by decide) (by decide)

theorem scans_testBC {q : Nat} {raw : Nat → Nat} : (s.testBC p q raw).counter .touch (2 * p) 3 = s.counter .touch (2 * p) 3 :=
  (testBC_frame Frame.refl Cov.refl : Frame testBC_T s _).ctr .touch (2 * p) 3 (by decide) (by decide)

/-! ### Scan ends (R372 to R376) -/

theorem reportDue_isSome {m : Nat} {recs : List (Nat × Contact)} : ((s.reportDue p m recs).touchSt p).due.isSome = true := by
  unfold State.reportDue
  rw [touchSt_setTouch]
  rfl

theorem scanNormal_shown {sl : List SlotObs} : ((s.scanNormal p sl).touchSt p).due.isSome = true ∧
    (s.scanNormal p sl).counter .touch (2 * p) 3 = (s.counter .touch (2 * p) 3 + 1) % 2 ^ 64 := by
  unfold State.scanNormal
  extract_lets t T R K c zero
  split
  extract_lets s1 s2 raws s3 d
  split
  next l s4 hpk =>
  extract_lets tr u s5 s6 n s7
  refine ⟨reportDue_isSome, ?_⟩
  have h1 : s1.counter .touch (2 * p) 3 = s.counter .touch (2 * p) 3 :=
    scans_tiles fun u i => (scans_count_ne (by decide)).trans ((scans_count_ne (by decide)).trans (scans_count_ne (by decide)))
  have h2 : s2.counter .touch (2 * p) 3 = (s.counter .touch (2 * p) 3 + 1) % 2 ^ 64 := by
    simp only [s2, counter_count_same, scans_scanNoise, h1]
  have h3 : s3.counter .touch (2 * p) 3 = s2.counter .touch (2 * p) 3 := by
    simp only [s3]
    split
    · exact (scanZero_frame Frame.refl Cov.refl : Frame scanZero_T s2 _).ctr .touch (2 * p) 3 (by decide) (by decide)
    · rfl
  have h4 : s4.counter .touch (2 * p) 3 = s3.counter .touch (2 * p) 3 :=
    scans_peaks hpk
  have h6 : s6.counter .touch (2 * p) 3 = s4.counter .touch (2 * p) 3 := by
    simp only [s6, s5]
    rw [scans_scanBase, scans_scanKeys, scans_count_ne (by decide), scans_setTouch]
  have h7 : s7.counter .touch (2 * p) 3 = s6.counter .touch (2 * p) 3 := by
    have hset : (s6.setTiles p 3).counter .touch (2 * p) 3 = s6.counter .touch (2 * p) 3 :=
      (setTiles_frame Frame.refl Cov.refl : Frame setTiles_T s6 _).ctr .touch (2 * p) 3 (by decide) (by decide)
    simp only [s7]
    split
    · split
      · exact hset
      · exact ((touchEvent_frame Frame.refl Cov.refl : Frame touchEvent_T _ _).ctr .touch (2 * p) 3 (by decide) (by decide)).trans
          (counter_raise.trans hset)
    · rfl
  exact ((reportDue_frame Frame.refl Cov.refl : Frame reportDue_T s7 _).ctr .touch (2 * p) 3 (by decide) (by decide)).trans
    (h7.trans (h6.trans (h4.trans (h3.trans h2))))

theorem scanTest_shown {sl : List SlotObs} : ((s.scanTest p sl).touchSt p).due.isSome = true ∧
    (s.scanTest p sl).counter .touch (2 * p) 3 = (s.counter .touch (2 * p) 3 + 1) % 2 ^ 64 := by
  unfold State.scanTest
  extract_lets t raw s1 s2 s3
  have h1 : s1.counter .touch (2 * p) 3 = s.counter .touch (2 * p) 3 := scans_tiles fun u i => scans_count_ne (by decide)
  have h2 : s2.counter .touch (2 * p) 3 = s.counter .touch (2 * p) 3 := by
    simp only [s2]
    split
    · exact scans_testA.trans h1
    split
    · exact scans_testBC.trans h1
    · exact scans_testBC.trans h1
  have h3 : s3.counter .touch (2 * p) 3 = (s.counter .touch (2 * p) 3 + 1) % 2 ^ 64 := by
    rw [← h2]
    exact ((reportDue_frame Frame.refl Cov.refl : Frame reportDue_T _ _).ctr .touch (2 * p) 3 (by decide) (by decide)).trans counter_count_same
  refine ⟨?_, h3⟩
  rw [touchSt_setTouch]
  exact reportDue_isSome (s := s2.count .touch (2 * p) 3)

theorem scanEnd_idle {sl : List SlotObs} (h : (s.touchSt p).busy = false) : s.scanEnd p sl = s := by
  unfold State.scanEnd
  dsimp only
  rw [h]
  rfl

theorem scanEnd_shown {sl : List SlotObs} (h : (s.touchSt p).busy = true) : ((s.scanEnd p sl).touchSt p).busy = false ∧
    ((s.scanEnd p sl).touchSt p).scan = ((s.touchSt p).scan + 1) % 2 ^ 32 ∧ ((s.scanEnd p sl).touchSt p).due.isSome = true ∧
    (s.scanEnd p sl).counter .touch (2 * p) 3 = (s.counter .touch (2 * p) 3 + 1) % 2 ^ 64 := by
  unfold State.scanEnd
  extract_lets t s1
  rw [if_neg (by simp [t, h])]
  have h1 : ((s1.touchSt p).due.isSome = true) ∧ s1.counter .touch (2 * p) 3 = (s.counter .touch (2 * p) 3 + 1) % 2 ^ 64 := by
    simp only [s1]
    split
    · exact scanNormal_shown
    · exact scanTest_shown
  rw [touchSt_touchCheck, touchSt_setTouch]
  refine ⟨rfl, rfl, h1.1, ?_⟩
  exact ((touchCheck_frame Frame.refl Cov.refl : Frame touchCheck_T _ _).ctr .touch (2 * p) 3 (by decide) (by decide)).trans h1.2

/-! ### Scan starts (R368, R386) -/

theorem scanStart_not (h : (s.touchSt p).busy = true ∨ (s.touchSt p).scanTime s.now = false) : s.scanStart p = s := by
  unfold State.scanStart
  dsimp only
  rw [if_pos]
  rcases h with h | h <;> simp [h]

/-- The eight frequencies of HOP_F stand below SCAN_STAT. -/
theorem hopPlace_ne {h : Nat} (hh : h < 8) : place TOUCH.SCAN_STAT.hop 0 ≠ place TOUCH.HOP_F.khz h := by
  unfold place TOUCH.SCAN_STAT.hop TOUCH.HOP_F.khz
  dsimp only
  omega

theorem scanStart_hops {h : Nat} (hst : s.tiles p = 3 ∨ (s.tiles p = 2 ∧ (s.surface p).cal = 3)) (htime : (s.touchSt p).scanTime s.now = true)
    (hbusy : (s.touchSt p).busy = false) (hnext : (s.touchSt p).next = some h) (hh : h < 8) :
    ((s.scanStart p).touchSt p).busy = true ∧
      ((s.scanStart p).touchSt p).cfg = s.touchCfg p ++ [clamp 100 500 (s.rd TOUCH.HOP_F.khz (2 * p) h)] ∧
      ((s.scanStart p).touchSt p).keyCfg = s.touchKeyCfg p ∧ ((s.scanStart p).touchSt p).next = none ∧
      (s.scanStart p).rd TOUCH.SCAN_STAT.hop (2 * p) = h ∧
      (s.scanStart p).counter .touch (2 * p) 6 = (s.counter .touch (2 * p) 6 + 1) % 2 ^ 64 := by
  unfold State.scanStart
  dsimp only
  rw [if_neg (by simp [hbusy, htime]; omega), hnext]
  dsimp only
  generalize hu : (((s.wr TOUCH.SCAN_STAT.hop h (2 * p)).wr TOUCH.TILE_STAT.hop h (2 * p)).wr TOUCH.TILE_STAT.hop h (2 * p + 1)).count .touch (2 * p) 6
    = u
  have hhop : u.rd TOUCH.SCAN_STAT.hop (2 * p) = h := by
    rw [← hu, rd_count, rd_wr_sep (by decide), rd_wr_sep (by decide), rd_wr_same]
    exact Nat.mod_eq_of_lt hh
  have hkhz : u.txKhz p = clamp 100 500 (s.rd TOUCH.HOP_F.khz (2 * p) h) := by
    unfold State.txKhz
    rw [hhop, ← hu, rd_count, rd_wr_sep (by decide), rd_wr_sep (by decide), rd_wr_ne (key_ne (hopPlace_ne hh))]
  rw [touchSt_setTouch, hkhz]
  refine ⟨rfl, rfl, rfl, rfl, rd_with_touch.trans hhop, ?_⟩
  refine (counter_mk (t := u)).trans ?_
  rw [← hu, counter_count_same, counter_wr, counter_wr, counter_wr]

/-! ### Starting a surface (R373) -/

theorem surfaceStart_waits {l : List (List Nat)} {a b c : List Nat} (hst : s.tiles p = 2 ∨ s.tiles p = 3) (hon : s.touchOn p = true) :
    s.surfaceStart p l a b c = s := by
  unfold State.surfaceStart
  rw [touchCheck_on hon (by omega)]
  exact if_pos (show s.tiles p ≠ 1 by omega)

theorem surfaceStart_shown {l : List (List Nat)} {a b c : List Nat} (hon : s.touchOn p = true) (hst : s.tiles p = 1) :
    (s.surfaceStart p l a b c).tiles p = 2 ∧ ((s.surfaceStart p l a b c).touchSt p).scan = 0 ∧
      ((s.surfaceStart p l a b c).touchSt p).busy = false ∧
      ((s.surfaceStart p l a b c).touchSt p).listen =
        (List.range 8).map (fun f => (List.range (s.touchR p)).map (fun r => rawCount (s.convUs p) ((l.getD f []).getD r 0))) ∧
      ((s.surfaceStart p l a b c).surface p).cal = max 1 (s.surface p).cal := by
  unfold State.surfaceStart
  rw [touchCheck_on hon (by omega)]
  extract_lets s0 cv raws n s1 s2 s3 s4 u
  rw [if_neg (show ¬ s0.tiles p ≠ 1 from not_not_intro hst)]
  have h2 : s2.touch = s1.touch := foldl_same (fun t : State => t.touch) fun t i => by
    simp only [count_touch, wr_touch]
  have h3 : s3.touch = s2.touch := by simp only [s3, wr_touch]
  have hview : scanView p s4 = scanView p s1 :=
    scanView_testBC.trans (scanView_testBC.trans (scanView_testA.trans (scanView_congr (h3.trans h2))))
  have h1 : s1.touchSt p = _ := touchSt_setTouch
  have hsurf : s4.surf = s.surf := by
    have hA : (s3.testA p (raws a)).surf = s3.surf := (testA_frame Frame.refl Cov.refl : Frame testA_T s3 _).surf (by decide)
    have hB {x : State} {q : Nat} {r : Nat → Nat} : (x.testBC p q r).surf = x.surf :=
      (testBC_frame Frame.refl Cov.refl : Frame testBC_T x _).surf (by decide)
    have h2s : s2.surf = s1.surf := foldl_same (fun t : State => t.surf) fun t i => by
      simp only [count_surf, wr_surf]
    have h3s : s3.surf = s2.surf := by simp only [s3, wr_surf]
    exact hB.trans (hB.trans (hA.trans (h3s.trans h2s)))
  have hu : u.cal = (s.surface p).cal := by
    simp only [u, State.surface, hsurf]
  clear_value s4
  have hset {x : State} : (x.setTiles p 2).surf = x.surf := (setTiles_frame Frame.refl Cov.refl : Frame setTiles_T x _).surf (by decide)
  have htouch : ((s4.setSurf p { u with cal := if u.cal = 0 then 1 else u.cal }).setTiles p 2).touchSt p = s4.touchSt p :=
    touchSt_setTiles.trans (touchSt_congr rfl)
  obtain ⟨hl, hs, hb⟩ : _ ∧ _ ∧ _ := by simpa only [scanView, Prod.mk.injEq] using hview
  rw [htouch, hl, hs, hb, h1]
  refine ⟨tiles_setTiles, rfl, rfl, rfl, ?_⟩
  unfold State.surface at hu ⊢
  rw [hset]
  refine (congrArg SurfSt.cal mget_mset_same).trans ?_
  dsimp only
  rw [hu]
  split <;> omega

/-! ### A write of SURF_CTRL (R372, R376) -/

theorem b2n_bit_zero (v : Nat) : b2n (bit v 0) = v % 2 := by
  unfold b2n bit
  rw [Nat.testBit_zero]
  split <;> simp_all

theorem tileParts (off : Nat) : partsAt .touch (2 * p) off = partsAt .touch 0 off := by
  unfold partsAt
  rw [pageRows_firstTile]

theorem tiles_storeWord {v : Nat} : (s.storeWord .touch (2 * p) 0x200 v).tiles p = s.tiles p :=
  storeWord_rd (by rw [tileParts]; decide) (by decide)

theorem touchSt_storeWord {v : Nat} : (s.storeWord .touch (2 * p) 0x200 v).touchSt p = s.touchSt p :=
  touchSt_congr ((storeWord_frame (L := [.fld (HDR.dirty .touch), .reg .touch 0x200]) Frame.refl Cov.refl).touch (by decide))

theorem surfCtrl_running {w : Who} {v : Nat} (hacc : accepts s w .touch (2 * p) 0x200 v = true) (hst : s.tiles p = 2 ∨ s.tiles p = 3) :
    s.surfCtrl w p v = ((s.okResp.storeWord .touch (2 * p) 0x200 v).setTouch p { s.touchSt p with
      rebase := (s.touchSt p).rebase || bit v 1, tests := if bit v 2 then 3 else (s.touchSt p).tests }).touchCheck p := by
  have hok : (s.okResp.storeWord .touch (2 * p) 0x200 v).tiles p = s.tiles p := tiles_storeWord.trans (rd_okResp ..)
  have ht : (s.okResp.storeWord .touch (2 * p) 0x200 v).touchSt p = s.touchSt p := touchSt_storeWord.trans (touchSt_congr rfl)
  unfold State.surfCtrl
  rw [onWrite_accepted hacc (by decide)]
  dsimp only
  rw [hok, ht, decide_eq_true hst, Bool.and_true, Bool.and_true]

theorem surfCtrl_enable {w : Who} {v : Nat} (hacc : accepts s w .touch (2 * p) 0x200 v = true) (hst : s.tiles p = 2 ∨ s.tiles p = 3) :
    (s.surfCtrl w p v).rd TOUCH.SURF_CTRL.enable (2 * p) = v % 2 := by
  rw [surfCtrl_running hacc hst]
  refine (rd_clear (touchCheck_frame Frame.refl Cov.refl : Frame touchCheck_T _ _) (by decide)).trans ?_
  refine rd_with_touch.trans ?_
  exact tileStore_field (f := TOUCH.SURF_CTRL.enable) (by decide) rfl (by decide) rfl (by decide) (by decide)

theorem surfCtrl_touch {w : Who} {v : Nat} (hacc : accepts s w .touch (2 * p) 0x200 v = true) (hst : s.tiles p = 2 ∨ s.tiles p = 3) :
    (s.surfCtrl w p v).touchSt p = { s.touchSt p with
      rebase := (s.touchSt p).rebase || bit v 1, tests := if bit v 2 then 3 else (s.touchSt p).tests } := by
  rw [surfCtrl_running hacc hst, touchSt_touchCheck, touchSt_setTouch]

theorem surfCtrl_resp {w : Who} {v : Nat} (hacc : accepts s w .touch (2 * p) 0x200 v = true) (hst : s.tiles p = 2 ∨ s.tiles p = 3) :
    (s.surfCtrl w p v).resp.ok = true := by
  rw [surfCtrl_running hacc hst]
  refine (congrArg Resp.ok ((touchCheck_frame Frame.refl Cov.refl : Frame touchCheck_T _ _).resp (by decide))).trans ?_
  refine (congrArg Resp.ok (storeWord_resp (s := s.okResp))).trans ?_
  rfl

/-! ### Keys (R379) -/

theorem keyStep_up {run thr hyst dp dr : Nat} {d : Int} (h : dp ≤ run + 1) : (keyStep false run thr hyst dp dr d).1 = decide ((thr : Int) ≤ d) := by
  unfold keyStep
  by_cases ht : (thr : Int) ≤ d <;> simp [ht, h]

end

/-- Settles O42: the surface's touch after each command, read off the state the command leaves; the findings of a self-test touch neither the
listen counts nor the number of the scan, and the parts of a scan count no scan of their own. -/
theorem touchScans : Obligations.TouchScans := by
  unfold Obligations.TouchScans
  refine ⟨fun s p l a b c ⟨hon, hst⟩ => ⟨_, rfl, surfaceStart_shown hon hst⟩,
    fun s p l a b c hst hon => congrArg Host.Outcome.next (surfaceStart_waits hst hon),
    fun s p h ⟨hst, htime, hbusy, hnext, hh⟩ => ⟨_, rfl, scanStart_hops hst htime hbusy hnext hh⟩,
    fun s p h => congrArg Host.Outcome.next (scanStart_not h),
    fun s p sl h => ⟨_, rfl, scanEnd_shown h⟩, fun s p sl h => congrArg Host.Outcome.next (scanEnd_idle h), ?_, ?_, ?_⟩
  · intro s w p v hacc hst
    refine ⟨_, rfl, ?_, (surfCtrl_enable hacc hst).trans ?_⟩
    · exact (congrArg TouchSt.rebase (surfCtrl_touch hacc hst)).trans (by simp [bit_setBit])
    · have h : setBit v.toNat 1 % 2 = v.toNat % 2 := by
        unfold setBit
        have h := Nat.or_mod_two_pow (a := v.toNat) (b := 2 ^ 1) (n := 1)
        simpa using h
      rw [h]
      exact (b2n_bit_zero _).symm
  · intro s w p v hacc hst
    refine ⟨_, rfl, ?_, surfCtrl_resp hacc hst⟩
    exact (congrArg TouchSt.tests (surfCtrl_touch hacc hst)).trans (by simp [bit_setBit])
  · intro pressed run thr hyst dp dr d hp h
    rw [hp]
    exact keyStep_up h

end Sys2Proof.Proofs

/-! High voltage follows its conditions (R396 to R398), and wear is counted and recorded (R393 to R395). -/

namespace Sys2Proof.Proofs

open Machine Laws

section

variable {s t : State} {p : Nat}

/-! ### What a change of high voltage keeps of a surface -/

/-- A surface but for the levels its channels last drove. -/
def surfKept (t : State) (p : Nat) : SurfSt := { t.surface p with last := [] }

theorem surface_congr (e : t.surf = s.surf) : t.surface p = s.surface p := by
  unfold State.surface
  rw [e]

theorem surface_setSurf {v : SurfSt} : (s.setSurf p v).surface p = v := mget_mset_same

theorem surface_setSurf_ne {q : Nat} {v : SurfSt} (h : q ≠ p) : (s.setSurf q v).surface p = s.surface p := mget_mset_ne h

theorem surfKept_congr (e : t.surf = s.surf) : surfKept t p = surfKept s p := by
  unfold surfKept
  rw [surface_congr e]

theorem surfKept_forgetLast {q : Nat} : surfKept (t.setSurf q { t.surface q with last := [] }) p = surfKept t p := by
  unfold surfKept
  by_cases h : q = p
  · rw [h, surface_setSurf]
  · rw [surface_setSurf_ne h]

theorem cal_of_kept (h : surfKept t p = surfKept s p) : (t.surface p).cal = (s.surface p).cal :=
  show (surfKept t p).cal = (surfKept s p).cal from h ▸ rfl
theorem leaving_of_kept (h : surfKept t p = surfKept s p) : (t.surface p).leaving = (s.surface p).leaving :=
  show (surfKept t p).leaving = (surfKept s p).leaving from h ▸ rfl

/-! ### The conditions of high voltage (R396) -/

/-- The fields that the conditions of R396 read. -/
def whyFields : List Fld :=
  [SURF.SURF_STAT.state, SURF.SURF_STAT.auth, SURF.HV_CTRL.enable, SAFE.HV_PERMIT.ports, SURF.CH_STAT.oc, HAPT.BOOST_CTRL.enable,
   HAPT.BOOST_STAT.fault, PWR.STATE.state]

/-- A step that leaves those fields, what the power state shows of heat and the surface leaves the conditions. -/
theorem hvWhy_frame {L : List Piece} (h : Frame L s t) (hf : whyFields.all (fun f => L.all (clear f)) = true) (hpwr : .pwr ∉ L)
    (hk : surfKept t p = surfKept s p) : t.hvWhy p = s.hvWhy p := by
  have hrd : ∀ f ∈ whyFields, L.all (clear f) = true := List.all_eq_true.mp hf
  unfold State.hvWhy
  rw [cal_of_kept hk, leaving_of_kept hk, h.pwr hpwr, rd_clear h (hrd SURF.SURF_STAT.state (by decide)),
    rd_clear h (hrd SURF.SURF_STAT.auth (by decide)), rd_clear h (hrd SAFE.HV_PERMIT.ports (by decide)),
    rd_clear h (hrd PWR.STATE.state (by decide)), on_clear h (hrd SURF.HV_CTRL.enable (by decide)),
    on_clear h (hrd HAPT.BOOST_CTRL.enable (by decide)), on_clear h (hrd HAPT.BOOST_STAT.fault (by decide))]
  simp only [on_clear h (hrd SURF.CH_STAT.oc (by decide))]

theorem b2n_le (x : Bool) : b2n x ≤ 1 := by cases x <;> decide

theorem hvWhy_lt : s.hvWhy p < 2 ^ 7 := by
  unfold State.hvWhy
  have h1 := b2n_le (s.rd SURF.SURF_STAT.state p != 3 || (s.surface p).leaving)
  have h2 := b2n_le (s.rd SURF.SURF_STAT.auth p != 1)
  have h3 := b2n_le (!s.on SURF.HV_CTRL.enable p && (s.surface p).cal != 2)
  have h4 := b2n_le (!bit (s.rd SAFE.HV_PERMIT.ports) p)
  have h5 := b2n_le ((List.range 4).any (fun n => s.on SURF.CH_STAT.oc p n))
  have h6 := b2n_le (!s.on HAPT.BOOST_CTRL.enable || s.on HAPT.BOOST_STAT.fault)
  have h7 := b2n_le (decide (1 < s.rd PWR.STATE.state) || s.pwr.hot)
  omega

/-- One condition that fails is enough to keep a port off. -/
theorem hvWhy_ne_zero (h : s.rd SURF.SURF_STAT.state p ≠ 3 ∨ (s.surface p).leaving = true ∨
    (∃ n < 4, s.on SURF.CH_STAT.oc p n = true) ∨ s.on HAPT.BOOST_STAT.fault = true) : s.hvWhy p ≠ 0 := by
  unfold State.hvWhy
  rcases h with h | h | ⟨n, hn, h⟩ | h
  · rw [show (s.rd SURF.SURF_STAT.state p != 3) = true by simpa using h, Bool.true_or, show b2n true = 1 from rfl]
    omega
  · rw [h, Bool.or_true, show b2n true = 1 from rfl]
    omega
  · rw [show ((List.range 4).any fun n => s.on SURF.CH_STAT.oc p n) = true from List.any_eq_true.mpr ⟨n, List.mem_range.mpr hn, h⟩,
      show b2n true = 1 from rfl]
    omega
  · rw [h, Bool.or_true, show b2n true = 1 from rfl]
    omega

/-! ### One port of hvSync -/

/-- What hvSync does to one port. -/
def hvPort (t : State) (p : Nat) : State :=
  let why := t.hvWhy p
  let was := t.on SURF.HV_STAT.on p
  let now := why == 0
  let t1 := (t.wr SURF.HV_STAT.why why p).wrB SURF.HV_STAT.on now p
  if was = now then t1
  else
    let t2 := (t1.raise .surf p 14).slewNow p
    if now then t2 else t2.setSurf p { t2.surface p with last := [] }

theorem hvPort_frame : Frame hvSync_T t (hvPort t p) := by
  unfold hvPort
  extract_lets why was now t1 t2
  have h1 : Frame hvSync_T t t1 := wrB_frame (wr_frame Frame.refl (Cov.of_subset (by decide))) (Cov.of_subset (by decide))
  have h2 : Frame hvSync_T t t2 := slewNow_frame (raise_frame h1 (Cov.of_subset (by decide))) (Cov.of_subset (by decide))
  split
  · exact h1
  split
  · exact h2
  · exact setSurf_frame h2 (Cov.of_subset (by decide))

theorem hvPort_why : (hvPort t p).rd SURF.HV_STAT.why p = t.hvWhy p := by
  unfold hvPort
  extract_lets why was now t1 t2
  have h1 : t1.rd SURF.HV_STAT.why p = t.hvWhy p :=
    (rd_wrB_sep (by decide)).trans (rd_wr_same.trans (Nat.mod_eq_of_lt hvWhy_lt))
  have h2 : t2.rd SURF.HV_STAT.why p = t.hvWhy p := (raise_rd_sep (s := t1) (by decide)).trans h1
  split
  · exact h1
  split
  · exact h2
  · exact h2

theorem hvPort_on : (hvPort t p).rd SURF.HV_STAT.on p = b2n (t.hvWhy p == 0) := by
  unfold hvPort
  extract_lets why was now t1 t2
  have h1 : t1.rd SURF.HV_STAT.on p = b2n (t.hvWhy p == 0) :=
    rd_wr_same.trans (Nat.mod_eq_of_lt (Nat.lt_succ_of_le (b2n_le _)))
  have h2 : t2.rd SURF.HV_STAT.on p = b2n (t.hvWhy p == 0) := (raise_rd_sep (s := t1) (by decide)).trans h1
  split
  · exact h1
  split
  · exact h2
  · exact h2

theorem hvPort_surf {q : Nat} : surfKept (hvPort t q) p = surfKept t p := by
  unfold hvPort
  extract_lets why was now t1 t2
  have h1 : t1.surf = t.surf := (wr_surf ..).trans (wr_surf ..)
  have h2 : t2.surf = t.surf := (raise_surf (s := t1) ..).trans h1
  split
  · exact surfKept_congr h1
  split
  · exact surfKept_congr h2
  · exact surfKept_forgetLast.trans (surfKept_congr h2)

theorem surfPage_ne {q : Nat} (hp : p < 8) (hq : q < 8) (h : q ≠ p) : Blk.surf.page q ≠ Blk.surf.page p := by
  unfold Blk.page
  simp only [show Blk.surf.count = 8 from rfl, show Blk.surf.first = 0 from rfl]
  omega

theorem hvPort_other {q : Nat} (hp : p < 8) (hq : q < 8) (h : q ≠ p) {f : Fld} (hf : f = SURF.HV_STAT.why ∨ f = SURF.HV_STAT.on) :
    (hvPort t q).rd f p = t.rd f p := by
  have hne : ∀ {g : Fld} {v : Nat} {u : State}, g.blk = .surf → (u.wr g v q).rd f p = u.rd f p := fun hg =>
    rd_wr_page (by rw [hg, show f.blk = .surf by rcases hf with rfl | rfl <;> rfl]; exact surfPage_ne hp hq h)
  unfold hvPort
  extract_lets why was now t1 t2
  have h1 : t1.rd f p = t.rd f p := (hne rfl).trans (hne rfl)
  have h2 : t2.rd f p = t.rd f p := (raise_rd_sep (s := t1) (by rcases hf with rfl | rfl <;> decide)).trans h1
  split
  · exact h1
  split
  · exact h2
  · exact h2

/-! ### High voltage of every port (R396) -/

/-- What a step keeps of the high voltage of a port that is not its own. -/
structure HvKept (p : Nat) (s t : State) : Prop where
  frame : Frame hvSync_T s t
  why : t.rd SURF.HV_STAT.why p = s.rd SURF.HV_STAT.why p
  on : t.rd SURF.HV_STAT.on p = s.rd SURF.HV_STAT.on p
  surf : surfKept t p = surfKept s p

theorem HvKept.refl (s : State) : HvKept p s s := ⟨Frame.refl, rfl, rfl, rfl⟩

theorem HvKept.trans {a b c : State} (h : HvKept p a b) (h' : HvKept p b c) : HvKept p a c :=
  ⟨Frame.trans h.frame h'.frame, h'.why.trans h.why, h'.on.trans h.on, h'.surf.trans h.surf⟩

theorem hvKept_hvPort {q : Nat} (hp : p < 8) (hq : q < 8) (h : q ≠ p) : HvKept p t (hvPort t q) :=
  ⟨hvPort_frame, hvPort_other hp hq h (.inl rfl), hvPort_other hp hq h (.inr rfl), hvPort_surf⟩

/-- The boost follows the ports. -/
def boostSync (s : State) : State :=
  let any := (List.range 8).any (fun p => s.on SURF.HV_STAT.on p)
  if any && !s.on HAPT.BOOST_STAT.on then (s.wr HAPT.BOOST_STAT.on 1).count .hapt 0 0
  else s.wrB HAPT.BOOST_STAT.on any

theorem hvSync_eq : s.hvSync = boostSync ((List.range 8).foldl hvPort s) := rfl

theorem hvKept_boostSync : HvKept p s (boostSync s) := by
  unfold boostSync
  extract_lets any
  split
  · exact ⟨count_frame (wr_frame Frame.refl (Cov.of_subset (by decide))) (Cov.of_subset (by decide)), (rd_count ..).trans (rd_wr_sep (by decide)),
      (rd_count ..).trans (rd_wr_sep (by decide)), surfKept_congr ((count_surf ..).trans (wr_surf ..))⟩
  · exact ⟨wrB_frame Frame.refl (Cov.of_subset (by decide)), rd_wrB_sep (by decide), rd_wrB_sep (by decide), surfKept_congr (wr_surf ..)⟩

/-- For a port, hvSync is that port's step between steps that leave it. -/
theorem hvSync_focus (hp : p < 8) : ∃ u, HvKept p s u ∧ HvKept p (hvPort u p) s.hvSync := by
  obtain ⟨u, hu, ht⟩ := foldl_focus (HvKept p) HvKept.refl HvKept.trans (step := hvPort) (h := p) (l := List.range 8) (a := s)
    (fun t k hk h => hvKept_hvPort hp (List.mem_range.mp hk) h) List.nodup_range (List.mem_range.mpr hp)
  exact ⟨u, hu, hvSync_eq ▸ ht.trans hvKept_boostSync⟩

theorem hvWhy_kept {q : Nat} (h : HvKept q s t) : t.hvWhy q = s.hvWhy q := hvWhy_frame h.frame (by decide) (by decide) h.surf

theorem hvSync_changes : Frame hvSync_T s s.hvSync := hvSync_frame Frame.refl Cov.refl

theorem surfKept_hvSync (hp : p < 8) : surfKept s.hvSync p = surfKept s p := by
  obtain ⟨u, hu, ht⟩ := hvSync_focus (s := s) hp
  exact ht.surf.trans (hvPort_surf.trans hu.surf)

theorem hvWhy_hvSync (hp : p < 8) : s.hvSync.hvWhy p = s.hvWhy p :=
  hvWhy_frame hvSync_changes (by decide) (by decide) (surfKept_hvSync hp)

theorem why_hvSync (hp : p < 8) : s.hvSync.rd SURF.HV_STAT.why p = s.hvWhy p := by
  obtain ⟨u, hu, ht⟩ := hvSync_focus (s := s) hp
  exact ht.why.trans (hvPort_why.trans (hvWhy_kept hu))

theorem rd_on_hvSync (hp : p < 8) : s.hvSync.rd SURF.HV_STAT.on p = b2n (s.hvWhy p == 0) := by
  obtain ⟨u, hu, ht⟩ := hvSync_focus (s := s) hp
  rw [ht.on, hvPort_on, hvWhy_kept hu]

theorem on_hvSync (hp : p < 8) : s.hvSync.on SURF.HV_STAT.on p = decide (s.hvWhy p = 0) := by
  unfold State.on
  rw [rd_on_hvSync hp]
  by_cases h : s.hvWhy p = 0 <;> simp [h, b2n]

theorem off_hvSync (hp : p < 8) (h : s.hvWhy p ≠ 0) : s.hvSync.rd SURF.HV_STAT.on p = 0 := by
  rw [rd_on_hvSync hp, beq_eq_false_iff_ne.mpr h]
  rfl

theorem surface_hvSync (hp : p < 8) {α : Type} (f : SurfSt → α) (hf : ∀ v : SurfSt, f { v with last := [] } = f v) :
    f (s.hvSync.surface p) = f (s.surface p) := by
  have h := congrArg f (surfKept_hvSync (s := s) hp)
  unfold surfKept at h
  rwa [hf, hf] at h

/-! ### Writes that high voltage follows (R396 to R398) -/

theorem rd_chStat_ne {m n v : Nat} (hm : m < 4) (hn : n < 4) (h : m ≠ n) :
    (s.wr SURF.CH_STAT.oc v p m).rd SURF.CH_STAT.oc p n = s.rd SURF.CH_STAT.oc p n :=
  rd_wr_elt (by unfold SURF.CH_STAT.oc; dsimp only; omega)

theorem clearOc_rd {n : Nat} (hn : n < 4) : ((List.range 4).foldl (fun u n => u.wr SURF.CH_STAT.oc 0 p n) s).rd SURF.CH_STAT.oc p n = 0 := by
  obtain ⟨u, -, h⟩ := foldl_focus (fun a b : State => b.rd SURF.CH_STAT.oc p n = a.rd SURF.CH_STAT.oc p n) (fun _ => rfl) (fun h h' => h'.trans h)
    (step := fun u n => u.wr SURF.CH_STAT.oc 0 p n) (a := s) (fun t k hk hne => rd_chStat_ne (List.mem_range.mp hk) hn hne) List.nodup_range
    (List.mem_range.mpr hn)
  exact h.trans rd_wr_same

theorem surfParts (off : Nat) : partsAt .surf p off = partsAt .surf 0 off := rfl

theorem surfStore_field {f : Fld} {off v : Nat} (hrow : f ∈ pageRows .surf 0) (hat : f.at off = some (0, false))
    (hone : partsApart (partsAt .surf 0 off)) (hacc : f.acc = .rw) (hd : place (HDR.dirty .surf) 0 ≠ place f 0) (hlen : f.lo + f.len ≤ 32) :
    (s.storeWord .surf p off v).rd f p = (v >>> f.lo) % 2 ^ f.len :=
  storeWord_field (b := .surf) (i := p) hrow hat (surfParts off ▸ hone) hacc hd hlen

/-- HV_CTRL as written, with the flags of overcurrent that the write clears, before high voltage follows. -/
def hvWritten (s : State) (p v : Nat) : State :=
  if bit v 1 then (List.range 4).foldl (fun u n => u.wr SURF.CH_STAT.oc 0 p n) (s.storeWord .surf p 0x118 v) else s.storeWord .surf p 0x118 v

theorem hvCtrl_accepted {w : Who} {v : Nat} (h : accepts s w .surf p 0x118 v = true) : s.hvCtrl w p v = (hvWritten s.okResp p v).hvSync :=
  onWrite_accepted h (by decide)

theorem hvWritten_enable {v : Nat} : (hvWritten s p v).rd SURF.HV_CTRL.enable p = v % 2 := by
  have h : (s.storeWord .surf p 0x118 v).rd SURF.HV_CTRL.enable p = v % 2 :=
    surfStore_field (f := SURF.HV_CTRL.enable) (by decide) rfl (by decide) rfl (by decide) (by decide)
  unfold hvWritten
  split
  · exact (foldl_same (fun u : State => u.rd SURF.HV_CTRL.enable p) fun u n => rd_wr_sep (by decide)).trans h
  · exact h

theorem hvWritten_oc {v n : Nat} (hv : bit v 1 = true) (hn : n < 4) : (hvWritten s p v).rd SURF.CH_STAT.oc p n = 0 := by
  unfold hvWritten
  rw [if_pos hv]
  exact clearOc_rd hn

theorem hvSync_shown (hp : p < 8) : s.hvSync.rd SURF.HV_STAT.why p = s.hvSync.hvWhy p ∧
    s.hvSync.on SURF.HV_STAT.on p = decide (s.hvSync.hvWhy p = 0) := by
  rw [hvWhy_hvSync hp]
  exact ⟨why_hvSync hp, on_hvSync hp⟩

theorem hvSync_rd {f : Fld} {i j b : Nat} (h : hvSync_T.all (clear f) = true) : s.hvSync.rd f i j b = s.rd f i j b := rd_clear hvSync_changes h

/-- BOOST_CTRL as written, with the fault that the write clears, before high voltage follows. -/
def boostWritten (s : State) (v : Nat) : State :=
  if bit v 1 then (s.storeWord .hapt 0 0x100 v).wr HAPT.BOOST_STAT.fault 0 else s.storeWord .hapt 0 0x100 v

theorem boostCtrl_accepted {w : Who} {v : Nat} (h : accepts s w .hapt 0 0x100 v = true) : s.boostCtrl w v = (boostWritten s.okResp v).hvSync :=
  onWrite_accepted h (by decide)

theorem boostWritten_enable {v : Nat} : (boostWritten s v).rd HAPT.BOOST_CTRL.enable = v % 2 := by
  have h : (s.storeWord .hapt 0 0x100 v).rd HAPT.BOOST_CTRL.enable = v % 2 :=
    storeWord_field (b := .hapt) (i := 0) (f := HAPT.BOOST_CTRL.enable) (by decide) rfl (by decide) rfl (by decide) (by decide)
  unfold boostWritten
  split
  · exact (rd_wr_sep (by decide)).trans h
  · exact h

theorem boostWritten_fault {v : Nat} (hv : bit v 1 = true) : (boostWritten s v).rd HAPT.BOOST_STAT.fault = 0 := by
  unfold boostWritten
  rw [if_pos hv]
  exact rd_wr_same

/-! ### Faults of the drive (R397, R398) -/

theorem mem_faultInsert {g : FaultSig} : ∀ {l : List FaultSig}, g ∈ faultInsert g l
  | [] => List.mem_singleton.mpr rfl
  | x :: l => by
    unfold faultInsert
    split
    · exact List.mem_cons_self
    · exact List.mem_cons_of_mem x mem_faultInsert

theorem mem_faultLine {code i heads : Nat} {k : Blk} : ⟨code, k.typeCode, i, heads, s.now⟩ ∈ (s.faultLine code k i heads).faults := mem_faultInsert

theorem surfEvent_changes {code val : Nat} : Frame surfEvent_T s (s.surfEvent p code val) := surfEvent_frame Frame.refl Cov.refl

/-- The port with the channel's overcurrent, before high voltage follows. -/
def overcurrent (s : State) (p n : Nat) : State := ((s.wr SURF.CH_STAT.oc 1 p n).count .surf p 6).raise .surf p 15

theorem overcurrent_oc {n : Nat} : (overcurrent s p n).rd SURF.CH_STAT.oc p n = 1 := by
  unfold overcurrent
  rw [raise_rd_sep (by decide), rd_count, rd_wr_same]
  rfl

theorem now_hvSync : s.hvSync.now = s.now := now_congr (hvSync_changes.time (by decide))

/-- The port once high voltage has followed, with the fault line and the owner told. -/
def overcurrentTold (s : State) (p n : Nat) : State :=
  ((overcurrent s p n).hvSync.faultLine Code.HAPT_OVERCURRENT .surf p 0).surfEvent p Code.HAPT_OVERCURRENT (hapCh p n)

theorem haptOvercurrent_driven {q : Fin 8} {n : Fin 4} (h : s.on SURF.HV_STAT.on q.val = true) :
    execHaptOvercurrent q n s = .next (overcurrentTold s q.val n.val) :=
  congrArg Host.Outcome.next (if_neg (by simp [h]))

theorem overcurrentTold_rd {n i j b : Nat} {f : Fld} (h : surfEvent_T.all (clear f) = true) :
    (overcurrentTold s p n).rd f i j b = (overcurrent s p n).hvSync.rd f i j b :=
  (rd_clear surfEvent_changes h).trans faultLine_rd

theorem overcurrentTold_off {n : Nat} (hp : p < 8) (hn : n < 4) : (overcurrentTold s p n).rd SURF.HV_STAT.on p = 0 := by
  have hoc : (overcurrent s p n).on SURF.CH_STAT.oc p n = true := on_eq_true_iff.mpr (by rw [overcurrent_oc]; decide)
  exact (overcurrentTold_rd (by decide)).trans (off_hvSync hp (hvWhy_ne_zero (.inr (.inr (.inl ⟨n, hn, hoc⟩)))))

theorem overcurrentTold_counter {n : Nat} : (overcurrentTold s p n).counter .surf p 6 = (s.counter .surf p 6 + 1) % 2 ^ 64 := by
  have h : (overcurrent s p n).counter .surf p 6 = (s.counter .surf p 6 + 1) % 2 ^ 64 := by
    unfold overcurrent
    rw [counter_raise, counter_count_same, counter_wr]
  refine (surfEvent_changes.ctr .surf p 6 (by decide) (by decide)).trans ?_
  refine (counter_mk (t := (overcurrent s p n).hvSync)).trans ?_
  exact (hvSync_changes.ctr .surf p 6 (by decide) (by decide)).trans h

theorem overcurrentTold_faults {n : Nat} :
    (⟨Code.HAPT_OVERCURRENT, Blk.typeCode .surf, p, 0, s.now⟩ : FaultSig) ∈ (overcurrentTold s p n).faults := by
  have hnow : (overcurrent s p n).hvSync.now = s.now := now_hvSync.trans (now_congr ((raise_time ..).trans (wr_time ..)))
  unfold overcurrentTold
  rw [surfEvent_changes.faults (by decide), ← hnow]
  exact mem_faultLine

/-- The boost with its fault, before high voltage follows. -/
def boostFault (s : State) : State := ((s.wr HAPT.BOOST_STAT.fault 1).count .hapt 0 1).raise .hapt 0 8

/-- The boost once high voltage has followed, with the fault line and the owner told. -/
def boostFaultTold (s : State) : State := ((boostFault s).hvSync.faultLine Code.HAPT_HV_FAULT .hapt 0 0).eventPage .hapt 0 Code.HAPT_HV_FAULT 0 0

theorem haptHvFault_running (h : s.on HAPT.BOOST_STAT.on = true) : execHaptHvFault s = .next (boostFaultTold s) :=
  congrArg Host.Outcome.next (if_neg (by simp [h]))

theorem boostFault_rd : (boostFault s).rd HAPT.BOOST_STAT.fault = 1 := by
  unfold boostFault
  rw [raise_rd_sep (by decide), rd_count, rd_wr_same]
  rfl

theorem eventPage_changes {k : Blk} {code unit val : Nat} : Frame eventPage_T s (s.eventPage k p code unit val) := eventPage_frame Frame.refl Cov.refl

theorem boostFaultTold_rd {i j b : Nat} {f : Fld} (h : eventPage_T.all (clear f) = true) :
    (boostFaultTold s).rd f i j b = (boostFault s).hvSync.rd f i j b :=
  (rd_clear eventPage_changes h).trans faultLine_rd

theorem boostFault_why : (boostFault s).hvWhy p ≠ 0 :=
  hvWhy_ne_zero (.inr (.inr (.inr (on_eq_true_iff.mpr (by rw [boostFault_rd]; decide)))))

theorem boostSync_off (h : ∀ p < 8, s.on SURF.HV_STAT.on p = false) : (boostSync s).rd HAPT.BOOST_STAT.on = 0 := by
  unfold boostSync
  rw [show ((List.range 8).any fun p => s.on SURF.HV_STAT.on p) = false from
    List.any_eq_false.mpr fun p hp => by rw [h p (List.mem_range.mp hp)]; decide]
  exact rd_wr_same

theorem boost_off (h : ∀ p < 8, s.hvWhy p ≠ 0) : s.hvSync.rd HAPT.BOOST_STAT.on = 0 := by
  rw [hvSync_eq]
  refine boostSync_off fun p hp => on_eq_false_iff.mpr ?_
  have hoff := off_hvSync hp (h p hp)
  rw [hvSync_eq] at hoff
  exact hvKept_boostSync.on.symm.trans hoff

theorem boostFaultTold_faults : (⟨Code.HAPT_HV_FAULT, Blk.typeCode .hapt, 0, 0, s.now⟩ : FaultSig) ∈ (boostFaultTold s).faults := by
  have hnow : (boostFault s).hvSync.now = s.now := now_hvSync.trans (now_congr ((raise_time ..).trans (wr_time ..)))
  unfold boostFaultTold
  rw [eventPage_changes.faults (by decide), ← hnow]
  exact mem_faultLine

/-! ### Blocks of wear (R393 to R395) -/

/-- What wear goes by for one channel: its count, the state and high voltage of its port, whether its block was active, and its runs. -/
def wearView (p n : Nat) (t : State) : Nat × Nat × Nat × Nat × Nat × Nat :=
  (t.rd SURF.CH_WEAR.count p n, t.rd SURF.SURF_STAT.state p, t.rd SURF.HV_STAT.on p, mget (t.surface p).hot n 0, mget (t.surface p).run n 0,
    mget (t.surface p).idle n 10)

theorem wearTell_changes {n : Nat} : Frame wearTell_T s (s.wearTell p n) := wearTell_frame Frame.refl Cov.refl

theorem wearView_wearTell {q m n : Nat} : wearView p n (s.wearTell q m) = wearView p n s := by
  unfold wearView
  rw [surface_congr (wearTell_changes.surf (by decide)), rd_clear wearTell_changes (by decide), rd_clear wearTell_changes (by decide),
    rd_clear wearTell_changes (by decide)]

/-- A channel's count lies apart from another's. -/
theorem rd_chWear_ne {q m n v : Nat} (hp : p < 8) (hq : q < 8) (hm : m < 4) (hn : n < 4) (h : q ≠ p ∨ m ≠ n) :
    (s.wr SURF.CH_WEAR.count v q m).rd SURF.CH_WEAR.count p n = s.rd SURF.CH_WEAR.count p n := by
  by_cases hqp : q = p
  · exact rd_wr_elt (by unfold SURF.CH_WEAR.count; dsimp only; omega)
  · exact rd_wr_page (surfPage_ne hp hq hqp)

/-- The block of one channel leaves what wear goes by for another. -/
theorem wearView_wearStep {q m n : Nat} (hp : p < 8) (hq : q < 8) (hm : m < 4) (hn : n < 4) (h : q ≠ p ∨ m ≠ n) :
    wearView p n (s.wearStep q m) = wearView p n s := by
  have hset {v : SurfSt} (hhot : mget v.hot n 0 = mget (s.surface q).hot n 0 ∨ q ≠ p) (hrun : mget v.run n 0 = mget (s.surface q).run n 0 ∨ q ≠ p)
      (hidle : mget v.idle n 10 = mget (s.surface q).idle n 10 ∨ q ≠ p) : wearView p n (s.setSurf q v) = wearView p n s := by
    unfold wearView
    by_cases hqp : q = p
    · subst hqp
      rw [surface_setSurf, hhot.resolve_right (not_not_intro rfl), hrun.resolve_right (not_not_intro rfl), hidle.resolve_right (not_not_intro rfl)]
      rfl
    · rw [surface_setSurf_ne hqp]
      rfl
  have hside {x d d' : Nat} {g : SMap Nat} : mget (mset g m x d) n d' = mget g n d' ∨ q ≠ p := by
    by_cases hqp : q = p
    · exact .inl (mget_mset_ne (h.resolve_left (not_not_intro hqp)))
    · exact .inr hqp
  unfold State.wearStep
  extract_lets k hot run idle add c s1
  split
  · exact hset hside hside hside
  · refine wearView_wearTell.trans ?_
    have h1 : wearView p n s1 = wearView p n s := hset hside hside hside
    rw [← h1]
    unfold wearView
    rw [surface_congr (wr_surf ..), rd_chWear_ne hp hq hm hn h, rd_wr_sep (by decide), rd_wr_sep (by decide)]

theorem wearStep_begins {n : Nat} (hon : s.on SURF.HV_STAT.on p = true) (hhot : mget (s.surface p).hot n 0 ≠ 0)
    (hrun : mget (s.surface p).run n 0 = 0) (hidle : 10 ≤ mget (s.surface p).idle n 10) :
    (s.wearStep p n).rd SURF.CH_WEAR.count p n = min (2 ^ 32 - 1) (s.rd SURF.CH_WEAR.count p n + 1) ∧
      mget ((s.wearStep p n).surface p).run n 0 = 1 ∧ mget ((s.wearStep p n).surface p).hot n 0 = 0 := by
  unfold State.wearStep
  extract_lets k hot run idle add c s1
  have hr : run = 1 := by simp only [run, k, hrun]
  have hadd : add = 1 := by
    simp only [add, hr]
    rw [if_pos ⟨trivial, hidle⟩]
    rfl
  rw [if_neg (by simp [hot, k, hon, hhot]), rd_clear wearTell_changes (by decide), surface_congr (wearTell_changes.surf (by decide)),
    surface_congr (wr_surf ..), rd_wr_same]
  have hs : s1.surface p = _ := surface_setSurf
  rw [hs]
  dsimp only
  rw [mget_mset_same, mget_mset_same, hr]
  refine ⟨?_, rfl, rfl⟩
  simp only [c, hadd, SURF.CH_WEAR.count]
  exact Nat.mod_eq_of_lt (Nat.lt_of_le_of_lt (Nat.min_le_left ..) (by decide))

theorem wearStep_rests {n : Nat} (h : s.on SURF.HV_STAT.on p = false ∨ mget (s.surface p).hot n 0 = 0) :
    (s.wearStep p n).rd SURF.CH_WEAR.count p n = s.rd SURF.CH_WEAR.count p n := by
  unfold State.wearStep
  dsimp only
  rw [if_pos (by rcases h with h | h <;> simp [h])]
  rfl

/-- What a block does to channel c, counted over all ports. -/
def wearChannel (t : State) (c : Nat) : State := if t.rd SURF.SURF_STAT.state (c / 4) = 3 then t.wearStep (c / 4) (c % 4) else t

theorem wearChannel_at {n : Nat} (hn : n < 4) : wearChannel t (4 * p + n) = if t.rd SURF.SURF_STAT.state p = 3 then t.wearStep p n else t := by
  unfold wearChannel
  rw [show (4 * p + n) / 4 = p by omega, show (4 * p + n) % 4 = n by omega]

theorem wearBlock_eq : execWearBlock s = .next ((List.range 32).foldl wearChannel s) := rfl

/-- A block counts for a channel as the channel's own step does. -/
theorem wearBlock_focus {n : Nat} (hp : p < 8) (hn : n < 4) :
    ∃ u, wearView p n u = wearView p n s ∧ wearView p n ((List.range 32).foldl wearChannel s) = wearView p n (wearChannel u (4 * p + n)) := by
  refine foldl_focus (fun a b => wearView p n b = wearView p n a) (fun _ => rfl) (fun h h' => h'.trans h) (fun t c hc hne => ?_) List.nodup_range
    (List.mem_range.mpr (by omega))
  have hc := List.mem_range.mp hc
  unfold wearChannel
  split
  · exact wearView_wearStep hp (by omega) (by omega) hn (by omega)
  · rfl

/-! ### The wear record (R394) -/

theorem portOff_shown (hp : p < 8) : (s.portOff p).rd SURF.SURF_STAT.state p = 0 ∧ (s.portOff p).rd SURF.HV_STAT.on p = 0 := by
  have h : ((s.setSurf p { s.surface p with leaving := false, wearDue := false }).wr SURF.SURF_STAT.state 0 p).rd SURF.SURF_STAT.state p = 0 :=
    rd_wr_same
  unfold State.portOff
  refine ⟨(hvSync_rd (by decide)).trans h, off_hvSync hp (hvWhy_ne_zero (.inl ?_))⟩
  rw [h]
  decide

theorem portOff_surface (hp : p < 8) : ((s.portOff p).surface p).wearDue = false ∧ ((s.portOff p).surface p).slot = (s.surface p).slot := by
  have hset (v : SurfSt) : (((s.setSurf p v).wr SURF.SURF_STAT.state 0 p).surface p) = v := (surface_congr (wr_surf ..)).trans surface_setSurf
  unfold State.portOff
  rw [surface_hvSync hp SurfSt.wearDue fun _ => rfl, surface_hvSync hp SurfSt.slot fun _ => rfl, hset]
  exact ⟨rfl, rfl⟩

theorem portOff_rd {f : Fld} {i j b : Nat} (hf : sep SURF.SURF_STAT.state f = true) (h : hvSync_T.all (clear f) = true) :
    (s.portOff p).rd f i j b = s.rd f i j b := by
  unfold State.portOff
  exact (hvSync_rd h).trans (rd_wr_sep hf)

theorem portOff_counter {i j : Nat} : (s.portOff p).counter .surf i j = s.counter .surf i j :=
  (portOff_frame Frame.refl Cov.refl : Frame portOff_T s _).ctr .surf i j (by decide) (by decide)

/-- A port whose record has been written, before it goes Off where it is leaving. -/
def wearWritten (s : State) (p : Nat) : State :=
  let k := s.surface p
  let seq := (s.rd SURF.WEAR_SEQ.seq p + 1) % 2 ^ 32
  (((s.wr SURF.WEAR_SEQ.seq seq p).wr SURF.SURF_STAT.wear_write_fail 0 p).count .surf p 2).setSurf p
    { k with wearDue := false, wearAt := none, slot := 1 - k.slot, wrote := s.wearRecord p seq }

/-- A port whose record could not be written. -/
def wearFailed (s : State) (p : Nat) : State :=
  let k := s.surface p
  let t := (s.wr SURF.SURF_STAT.wear_write_fail 1 p).count .surf p 3
  if k.wearTold then t.setSurf p { k with wearAt := some s.now }
  else ((t.setSurf p { k with wearTold := true, wearAt := some s.now }).raise .surf p 12).surfEvent p Code.SURF_ID_ERROR 0

/-- The record that is due may be tried once its wait has passed, or when the port is leaving. -/
theorem wearRecord_tried {n : Fin 8} {ok : Bool} {a : Nat} (hdue : (s.surface n.val).wearDue = true) (hat : (s.surface n.val).wearAt = some a)
    (hwhen : s.past a 1000000000 = true ∨ (s.surface n.val).leaving = true) :
    execWearRecordWrite n ok s = .next (if (s.surface n.val).leaving then (if ok then wearWritten s n.val else wearFailed s n.val).portOff n.val
      else if ok then wearWritten s n.val else wearFailed s n.val) := by
  unfold execWearRecordWrite wearWritten wearFailed
  dsimp only
  rw [hdue, hat]
  dsimp only
  rw [if_neg (by rcases hwhen with h | h <;> simp [h])]

theorem wearRecord_written {n : Fin 8} {a : Nat} (hdue : (s.surface n.val).wearDue = true) (hat : (s.surface n.val).wearAt = some a)
    (hwhen : s.past a 1000000000 = true ∨ (s.surface n.val).leaving = true) :
    execWearRecordWrite n true s = .next (if (s.surface n.val).leaving then (wearWritten s n.val).portOff n.val else wearWritten s n.val) := by
  rw [wearRecord_tried hdue hat hwhen, if_pos rfl]

theorem wearRecord_failed {n : Fin 8} {a : Nat} (hdue : (s.surface n.val).wearDue = true) (hat : (s.surface n.val).wearAt = some a)
    (hwhen : s.past a 1000000000 = true ∨ (s.surface n.val).leaving = true) (hl : (s.surface n.val).leaving = false) :
    execWearRecordWrite n false s = .next (wearFailed s n.val) := by
  rw [wearRecord_tried hdue hat hwhen, hl]
  rfl

theorem wearWritten_shown : (wearWritten s p).rd SURF.WEAR_SEQ.seq p = (s.rd SURF.WEAR_SEQ.seq p + 1) % 2 ^ 32 ∧
    ((wearWritten s p).surface p).wearDue = false ∧ ((wearWritten s p).surface p).slot = 1 - (s.surface p).slot ∧
    (wearWritten s p).counter .surf p 2 = (s.counter .surf p 2 + 1) % 2 ^ 64 ∧
    (wearWritten s p).rd SURF.SURF_STAT.state p = s.rd SURF.SURF_STAT.state p := by
  unfold wearWritten
  dsimp only
  rw [surface_setSurf]
  refine ⟨?_, rfl, rfl, ?_, ?_⟩
  · refine (rd_with_surf.trans (rd_count ..)).trans ((rd_wr_sep (by decide)).trans (rd_wr_same.trans ?_))
    exact Nat.mod_mod ..
  · exact (counter_mk (t := State.count _ _ _ _)).trans (counter_count_same.trans (by rw [counter_wr, counter_wr]))
  · exact (rd_with_surf.trans (rd_count ..)).trans ((rd_wr_sep (by decide)).trans (rd_wr_sep (by decide)))

theorem wearFailed_shown : (wearFailed s p).rd SURF.SURF_STAT.wear_write_fail p = 1 ∧
    ((wearFailed s p).surface p).wearDue = (s.surface p).wearDue ∧ (wearFailed s p).counter .surf p 3 = (s.counter .surf p 3 + 1) % 2 ^ 64 := by
  unfold wearFailed
  extract_lets k t
  have hrd : t.rd SURF.SURF_STAT.wear_write_fail p = 1 := (rd_count ..).trans rd_wr_same
  have hctr : t.counter .surf p 3 = (s.counter .surf p 3 + 1) % 2 ^ 64 := counter_count_same.trans (by rw [counter_wr])
  have hset (v : SurfSt) : ((t.setSurf p v).raise .surf p 12).surface p = v := (surface_congr (raise_surf ..)).trans surface_setSurf
  split
  · rw [surface_setSurf]
    exact ⟨rd_with_surf.trans hrd, rfl, (counter_mk (t := t)).trans hctr⟩
  · rw [surface_congr (surfEvent_changes.surf (by decide)), hset]
    exact ⟨(rd_clear surfEvent_changes (by decide)).trans ((raise_rd_sep (by decide)).trans (rd_with_surf.trans hrd)), rfl,
      (surfEvent_changes.ctr .surf p 3 (by decide) (by decide)).trans (counter_raise.trans ((counter_mk (t := t)).trans hctr))⟩

theorem setBit_one_mod_two (v : Nat) : setBit v 1 % 2 = v % 2 := by
  have h := Nat.or_mod_two_pow (a := v) (b := 2 ^ 1) (n := 1)
  simpa [setBit] using h

end

/-- Settles O45: every write that high voltage follows ends with hvSync, which shows each port's conditions as they then stand; the blocks of
wear of the 32 channels leave each other's counts. -/
theorem wearAndHighVoltage : Obligations.WearAndHighVoltage := by
  unfold Obligations.WearAndHighVoltage
  refine ⟨?_, ?_, ?_, ?_, ?_, ?_, ?_, ?_, ?_, ?_, ?_, ?_⟩
  · intro s w p v hacc
    refine ⟨_, congrArg Host.Outcome.next (hvCtrl_accepted hacc), ?_, hvSync_shown p.isLt⟩
    exact (hvSync_rd (by decide)).trans (hvWritten_enable.trans (b2n_bit_zero _).symm)
  · intro s w p v hacc
    refine ⟨_, congrArg Host.Outcome.next (hvCtrl_accepted hacc), List.all_eq_true.mpr fun n hn => ?_, (hvSync_shown p.isLt).2⟩
    have h := (hvSync_rd (s := hvWritten s.okResp p.val (setBit v.toNat 1)) (by decide)).trans
      (hvWritten_oc bit_setBit (List.mem_range.mp hn))
    rw [on_eq_false_iff.mpr h]
    rfl
  · intro s p n hon
    exact ⟨_, haptOvercurrent_driven hon, (overcurrentTold_rd (by decide)).trans ((hvSync_rd (by decide)).trans overcurrent_oc),
      overcurrentTold_off p.isLt n.isLt, overcurrentTold_counter, overcurrentTold_faults⟩
  · intro s p n hoff
    exact congrArg Host.Outcome.next (if_pos (by simp [hoff]))
  · intro s p hon
    exact ⟨_, haptHvFault_running hon, (boostFaultTold_rd (by decide)).trans ((hvSync_rd (by decide)).trans boostFault_rd),
      (boostFaultTold_rd (by decide)).trans (off_hvSync p.isLt boostFault_why),
      (boostFaultTold_rd (by decide)).trans (boost_off fun _ _ => boostFault_why), boostFaultTold_faults⟩
  · intro s hoff
    exact congrArg Host.Outcome.next (if_pos (by simp [hoff]))
  · intro s w v p hacc
    refine ⟨_, congrArg Host.Outcome.next (boostCtrl_accepted hacc), ?_, ?_, (hvSync_shown p.isLt).2⟩
    · exact (hvSync_rd (by decide)).trans (boostWritten_fault bit_setBit)
    · rw [hvSync_rd (by decide), boostWritten_enable, setBit_one_mod_two]
      exact (b2n_bit_zero _).symm
  · intro s p n ⟨hst, hon, hhot, hrun, hidle⟩
    obtain ⟨u, hu, ht⟩ := wearBlock_focus (s := s) p.isLt n.isLt
    simp only [wearView, Prod.mk.injEq] at hu ht
    obtain ⟨ucount, ustate, uon, uhot, urun, uidle⟩ := hu
    obtain ⟨tcount, -, -, thot, trun, -⟩ := ht
    rw [wearChannel_at n.isLt, if_pos (ustate.trans hst)] at tcount thot trun
    obtain ⟨hc, hr, hh⟩ := wearStep_begins (s := u) (p := p.val) (n := n.val)
      (on_eq_true_iff.mpr (by rw [uon]; exact on_eq_true_iff.mp hon)) (by rw [uhot]; exact hhot) (urun.trans hrun) (by rw [uidle]; exact hidle)
    rw [ucount] at hc
    exact ⟨_, wearBlock_eq, tcount.trans hc, trun.trans hr, thot.trans hh⟩
  · intro s p n hrest
    obtain ⟨u, hu, ht⟩ := wearBlock_focus (s := s) p.isLt n.isLt
    simp only [wearView, Prod.mk.injEq] at hu ht
    obtain ⟨ucount, -, uon, uhot, -, -⟩ := hu
    refine ⟨_, wearBlock_eq, ht.1.trans ?_⟩
    rw [wearChannel_at n.isLt, ← ucount]
    split
    · exact wearStep_rests (hrest.imp (fun h => by unfold State.on at h ⊢; rwa [uon]) fun h => uhot.trans h)
    · rfl
  · intro s p hdue a hat hwhen
    obtain ⟨hseq, hnot, hslot, hctr, hst⟩ := wearWritten_shown (s := s) (p := p.val)
    refine ⟨_, wearRecord_written hdue hat hwhen, ?_⟩
    split
    · obtain ⟨poff, -⟩ := portOff_shown (s := wearWritten s p.val) p.isLt
      obtain ⟨pdue, pslot⟩ := portOff_surface (s := wearWritten s p.val) p.isLt
      exact ⟨(portOff_rd (by decide) (by decide)).trans hseq, pdue, pslot.trans hslot, portOff_counter.trans hctr, poff⟩
    · exact ⟨hseq, hnot, hslot, hctr, hst⟩
  · intro s p ⟨hdue, hl⟩ a hat hwhen
    refine ⟨_, wearRecord_failed hdue hat hwhen hl, ?_⟩
    obtain ⟨hfail, hkept, hctr⟩ := wearFailed_shown (s := s) (p := p.val)
    exact ⟨hfail, hkept.trans hdue, hctr⟩
  · intro s p ok hdue
    exact congrArg Host.Outcome.next (if_pos (by simp [hdue]))

end Sys2Proof.Proofs

/-! Ports of surface modules: power, detach and insertion, the identity and the verdict on it (R389 to R392). -/

namespace Sys2Proof.Proofs

open Machine Laws

section

variable {s t : State} {p : Nat}

/-! ### Port power (R389) -/

theorem surfStore_rd {f : Fld} {off v : Nat} (h : ∀ q ∈ partsAt .surf 0 off, place q.fld q.elt ≠ place f 0)
    (hd : place (HDR.dirty .surf) 0 ≠ place f 0) : (s.storeWord .surf p off v).rd f p = s.rd f p :=
  storeWord_rd (by rw [surfParts]; exact h) hd

theorem storeWord_changes {b : Blk} {i off v : Nat} : Frame [.fld (HDR.dirty b), .reg b off] s (s.storeWord b i off v) :=
  storeWord_frame Frame.refl Cov.refl

/-- PORT_CTRL as written by an accepted write. -/
def portWritten (s : State) (p v : Nat) : State := s.okResp.storeWord .surf p 0x100 v

theorem portWritten_state {v : Nat} : (portWritten s p v).rd SURF.SURF_STAT.state p = s.rd SURF.SURF_STAT.state p :=
  (surfStore_rd (by decide) (by decide)).trans (rd_okResp ..)

theorem portWritten_pins {v : Nat} : (portWritten s p v).pins = s.pins := storeWord_changes.pins (by decide)

theorem portCtrl_on {w : Who} (h : accepts s w .surf p 0x100 1 = true) : s.portCtrl w p 1 = (portWritten s p 1).portOn p :=
  onWrite_accepted h (by decide)

/-- An Attached port that is to go Off, before high voltage follows. -/
def portLeaving (s : State) (p : Nat) : State := (s.setSurf p { s.surface p with leaving := true, wearDue := true }).touchQuiet p

theorem portCtrl_off {w : Who} (h : accepts s w .surf p 0x100 0 = true) : s.portCtrl w p 0 =
    if s.rd SURF.SURF_STAT.state p = 3 then (portLeaving (portWritten s p 0) p).hvSync else (portWritten s p 0).portOff p := by
  rw [← portWritten_state (v := 0)]
  unfold State.portCtrl
  rw [onWrite_accepted h (by decide)]
  rfl

theorem surfForget_auth : (s.surfForget p).rd SURF.SURF_STAT.auth p = 0 := by
  unfold State.surfForget
  extract_lets k s1 s2 s3
  have h2 : s2.rd SURF.SURF_STAT.auth p = 0 := by
    simp only [s2, List.foldl_cons, List.foldl_nil]
    rw [rd_wr_sep (by decide), rd_wr_sep (by decide), rd_wr_sep (by decide), rd_wr_sep (by decide), rd_wr_sep (by decide), rd_wr_same]
    rfl
  have h3 : s3.rd SURF.SURF_STAT.auth p = 0 := (foldl_same (fun u : State => u.rd SURF.SURF_STAT.auth p) fun u n => rd_wr_sep (by decide)).trans h2
  refine (foldl_same (fun u : State => u.rd SURF.SURF_STAT.auth p) fun u n => ?_).trans h3
  exact foldl_same_of_mem (fun u : State => u.rd SURF.SURF_STAT.auth p) fun v f hf =>
    rd_wr_sep ((List.all_eq_true (p := fun f => sep f SURF.SURF_STAT.auth)).mp (by decide) f hf)

theorem surfForget_surface : (s.surfForget p).surface p = { feed := (s.surface p).feed } := by
  unfold State.surfForget
  extract_lets k s1 s2 s3
  have h2 : s2.surf = s1.surf := foldl_same (fun u : State => u.surf) fun _ _ => wr_surf ..
  have h3 : s3.surf = s2.surf := foldl_same (fun u : State => u.surf) fun _ _ => wr_surf ..
  refine (surface_congr (s := s1) ?_).trans surface_setSurf
  refine (foldl_same (fun u : State => u.surf) fun u n => ?_).trans (h3.trans h2)
  exact foldl_same (fun u : State => u.surf) fun _ _ => wr_surf ..

theorem portOn_shown (h : s.rd SURF.SURF_STAT.state p = 0) :
    (s.portOn p).rd SURF.SURF_STAT.state p = (if bit s.pins.present p then 2 else 1) ∧ (s.portOn p).rd SURF.SURF_STAT.auth p = 0 ∧
      ((s.portOn p).surface p).chal = [] := by
  unfold State.portOn
  rw [if_neg (not_not_intro h)]
  refine ⟨rd_wr_same.trans ?_, (rd_wr_sep (by decide)).trans surfForget_auth, ?_⟩
  · split <;> rfl
  · rw [surface_congr (wr_surf ..), surfForget_surface]

theorem touchQuiet_changes : Frame touchQuiet_T s (s.touchQuiet p) := touchQuiet_frame Frame.refl Cov.refl

theorem portLeaving_surface : (portLeaving s p).surface p = { s.surface p with leaving := true, wearDue := true } :=
  (surface_congr (touchQuiet_changes.surf (by decide))).trans surface_setSurf

theorem portLeaving_shown (hp : p < 8) :
    (portLeaving s p).hvSync.rd SURF.SURF_STAT.state p = s.rd SURF.SURF_STAT.state p ∧ ((portLeaving s p).hvSync.surface p).leaving = true ∧
      ((portLeaving s p).hvSync.surface p).wearDue = true ∧ (portLeaving s p).hvSync.rd SURF.HV_STAT.on p = 0 ∧
      (portLeaving s p).hvSync.tiles p = 0 := by
  refine ⟨(hvSync_rd (by decide)).trans ((rd_clear touchQuiet_changes (by decide)).trans rd_with_surf), ?_, ?_, off_hvSync hp ?_, ?_⟩
  · rw [surface_hvSync hp SurfSt.leaving fun _ => rfl, portLeaving_surface]
  · rw [surface_hvSync hp SurfSt.wearDue fun _ => rfl, portLeaving_surface]
  · exact hvWhy_ne_zero (.inr (.inl (by rw [portLeaving_surface])))
  · exact (hvSync_rd (by decide)).trans tiles_setTiles

/-! ### Detach and insertion (R30, R389) -/

theorem bit_clrBit {m n : Nat} : bit (clrBit m n) n = false := by
  unfold bit clrBit
  split
  next h =>
    rw [Nat.testBit_eq_decide_div_mod_eq, decide_eq_true_eq] at h
    have hle : 2 ^ n * 1 ≤ m := by
      refine Decidable.byContradiction fun hlt => ?_
      rw [Nat.div_eq_of_lt (by omega)] at h
      omega
    rw [Nat.testBit_eq_decide_div_mod_eq, show m - 2 ^ n = m - 2 ^ n * 1 by omega, Nat.sub_mul_div, decide_eq_false_iff_not]
    omega
  next h => simpa using h

/-- A port whose ID_PRESENT_N has gone high. -/
def pinHigh (s : State) (p : Nat) : State :=
  ({ s with pins := { s.pins with present := clrBit s.pins.present p } } : State).wr SURF.SURF_STAT.present 0 p

/-- A port that is powered when its module goes, before the event. -/
def surfGone (s : State) (p : Nat) : State :=
  let s1 := (s.touchDetach p).wr SURF.SURF_STAT.state 4 p
  (s1.setSurf p { s1.surface p with wearDue := false, leaving := false }).hvSync

theorem pinHigh_state : (pinHigh s p).rd SURF.SURF_STAT.state p = s.rd SURF.SURF_STAT.state p := (rd_wr_sep (by decide)).trans rd_with_pins

theorem surfDetach_attached (h : s.rd SURF.SURF_STAT.state p = 3 ∨ s.rd SURF.SURF_STAT.state p = 2) :
    s.surfDetach p = ((surfGone (pinHigh s p) p).raise .surf p 9).surfEvent p Code.SURF_DETACH 0 := by
  have hst := pinHigh_state (s := s) (p := p)
  unfold State.surfDetach
  exact if_neg fun hne : (pinHigh s p).rd SURF.SURF_STAT.state p ≠ 2 ∧ (pinHigh s p).rd SURF.SURF_STAT.state p ≠ 3 => by omega

theorem touchDetach_changes : Frame touchDetach_T s (s.touchDetach p) := touchDetach_frame Frame.refl Cov.refl

theorem surfGone_shown (hp : p < 8) : (surfGone s p).rd SURF.SURF_STAT.state p = 4 ∧ (surfGone s p).pins = s.pins ∧
    (surfGone s p).rd SURF.SURF_STAT.present p = s.rd SURF.SURF_STAT.present p ∧ (surfGone s p).rd SURF.HV_STAT.on p = 0 := by
  unfold surfGone
  extract_lets s1
  have h1 : s1.rd SURF.SURF_STAT.state p = 4 := rd_wr_same
  refine ⟨(hvSync_rd (by decide)).trans (rd_with_surf.trans h1), ?_, ?_, off_hvSync hp (hvWhy_ne_zero (.inl ?_))⟩
  · exact (hvSync_changes.pins (by decide)).trans ((wr_pins ..).trans (touchDetach_changes.pins (by decide)))
  · exact (hvSync_rd (by decide)).trans (rd_with_surf.trans ((rd_wr_sep (by decide)).trans (rd_clear touchDetach_changes (by decide))))
  · intro e
    exact absurd ((rd_with_surf.trans h1).symm.trans e) (by decide)

/-- What an event of the surface shows, and what it leaves. -/
theorem surfTold_rd {n code val i j b : Nat} {f : Fld} (h : sep (HDR.ev_raw .surf) f = true) (hT : surfEvent_T.all (clear f) = true) :
    ((s.raise .surf p n).surfEvent p code val).rd f i j b = s.rd f i j b :=
  (rd_clear surfEvent_changes hT).trans (raise_rd_sep h)

theorem surfTold_event {n code val : Nat} (hn : n < 32) : bit (((s.raise .surf p n).surfEvent p code val).rd (HDR.ev_raw .surf) p) n = true := by
  rw [rd_clear surfEvent_changes (by decide)]
  exact raise_bit hn

theorem surfTold_pins {n code val : Nat} : ((s.raise .surf p n).surfEvent p code val).pins = s.pins :=
  (surfEvent_changes.pins (by decide)).trans (raise_pins ..)

theorem surfTold_surface {n code val : Nat} : ((s.raise .surf p n).surfEvent p code val).surface p = s.surface p :=
  surface_congr ((surfEvent_changes.surf (by decide)).trans (raise_surf ..))

/-- A port whose ID_PRESENT_N has gone low. -/
def pinLow (s : State) (p : Nat) : State :=
  ({ s with pins := { s.pins with present := setBit s.pins.present p } } : State).wr SURF.SURF_STAT.present 1 p

theorem pinLow_state : (pinLow s p).rd SURF.SURF_STAT.state p = s.rd SURF.SURF_STAT.state p := (rd_wr_sep (by decide)).trans rd_with_pins
theorem pinLow_pins : (pinLow s p).pins.present = setBit s.pins.present p := congrArg Pins.present (wr_pins ..)

theorem insert_empty {q : Fin 8} (h : s.rd SURF.SURF_STAT.state q.val = 1) : execSurfInsert q s =
    .next ((((pinLow s q.val).wr SURF.SURF_STAT.state 5 q.val).raise .surf q.val 10).surfEvent q.val Code.SURF_INSERT 0) := by
  have hst : (pinLow s q.val).rd SURF.SURF_STAT.state q.val = 1 := pinLow_state.trans h
  unfold execSurfInsert
  refine congrArg Host.Outcome.next ((if_neg fun hc : (pinLow s q.val).rd SURF.SURF_STAT.state q.val = 0 ∨ _ => ?_).trans ?_)
  · exact hc.elim (fun h0 => absurd (hst.symm.trans h0) (by decide)) fun h1 => h1.1 hst
  · exact congrArg (fun u : State => (u.raise .surf q.val 10).surfEvent q.val Code.SURF_INSERT 0) (if_pos hst)

theorem insert_other {q : Fin 8} (h : s.rd SURF.SURF_STAT.state q.val ≠ 1) : execSurfInsert q s = .next (pinLow s q.val) ∨
    execSurfInsert q s = .next (((pinLow s q.val).raise .surf q.val 10).surfEvent q.val Code.SURF_INSERT 0) := by
  have hst : (pinLow s q.val).rd SURF.SURF_STAT.state q.val ≠ 1 := fun e => h (pinLow_state.symm.trans e)
  by_cases hc : (pinLow s q.val).rd SURF.SURF_STAT.state q.val = 0 ∨
      ((pinLow s q.val).rd SURF.SURF_STAT.state q.val ≠ 1 ∧ bit s.pins.present q.val = true)
  · exact .inl (congrArg Host.Outcome.next (if_pos hc))
  · refine .inr (congrArg Host.Outcome.next ((if_neg hc).trans ?_))
    exact congrArg (fun u : State => (u.raise .surf q.val 10).surfEvent q.val Code.SURF_INSERT 0) (if_neg hst)

/-! ### Identity (R390, R391) -/

theorem idRead_late {q : Fin 8} {g : Option (List Byte × List Byte)} {a b : List Byte} (h : s.rd SURF.SURF_STAT.state q.val ≠ 2) :
    execSurfIdReadDone q g a b s = .next s :=
  congrArg Host.Outcome.next (if_pos (.inl h))

theorem idRead_none {q : Fin 8} {a b : List Byte} (h : s.rd SURF.SURF_STAT.state q.val = 2) (hc : (s.surface q.val).chal = []) :
    execSurfIdReadDone q none a b s =
      .next (((s.wr SURF.SURF_STAT.state 6 q.val).raise .surf q.val 12).surfEvent q.val Code.SURF_ID_ERROR 0) :=
  congrArg Host.Outcome.next (if_neg fun hn => hn.elim (fun h1 => h1 h) fun h2 => h2 hc)

theorem idRead_good {q : Fin 8} {a b hd rf : List Byte} (h : s.rd SURF.SURF_STAT.state q.val = 2) (hc : (s.surface q.val).chal = [])
    (hlen : hd.length = 512) (hok : idHeaderOk hd = true) :
    execSurfIdReadDone q (some (hd, rf)) a b s = .next (s.idTake q.val hd rf (wearSlot a) (wearSlot b)) :=
  congrArg Host.Outcome.next ((if_neg fun hn => hn.elim (fun h1 => h1 h) fun h2 => h2 hc).trans (if_pos (by simp [hlen, hok])))

theorem length_draws {n : Nat} : (State.draws n s).1.length = n := by
  induction n generalizing s with
  | zero => rfl
  | succ n ih => exact congrArg Nat.succ ih

theorem length_flatMap_leBytes {l : List Nat} {n : Nat} : (l.flatMap (leBytes n)).length = n * l.length := by
  induction l with
  | nil => rfl
  | cons x l ih => rw [List.flatMap_cons, List.length_append, ih, length_leBytes, List.length_cons, Nat.mul_succ, Nat.add_comm]

theorem field_byte_lt {d : List Byte} {off : Nat} : field d off 1 < 256 := by
  have h : leVal ((d.drop off).take 1) < 256 ^ ((d.drop off).take 1).length := leVal_lt
  refine Nat.lt_of_lt_of_le h ?_
  calc 256 ^ ((d.drop off).take 1).length ≤ 256 ^ 1 := Nat.pow_le_pow_right (by decide) (List.length_take_le ..)
    _ = 256 := rfl

/-- What an attaching port shows of the identity: the electrode counts, the challenge and the state. -/
def idView (p : Nat) (t : State) : Nat × List Byte × Nat := (t.rd SURF.ID_INFO.trk p, (t.surface p).chal, t.rd SURF.SURF_STAT.state p)

theorem idView_wr {f : Fld} {v n : Nat} (htrk : place f n ≠ place SURF.ID_INFO.trk 0) (hst : place f n ≠ place SURF.SURF_STAT.state 0) :
    idView p (s.wr f v p n) = idView p s := by
  unfold idView
  rw [rd_wr_ne (key_ne htrk), rd_wr_ne (key_ne hst), surface_congr (wr_surf ..)]

theorem idView_told {n code val : Nat} : idView p ((s.raise .surf p n).surfEvent p code val) = idView p s := by
  unfold idView
  rw [surfTold_rd (by decide) (by decide), surfTold_rd (by decide) (by decide), surfTold_surface]

/-- The serial number stands above the electrode counts. -/
theorem idView_serial {v n : Nat} (h : n < 3) : idView p (s.wr SURF.ID_SERIAL.serial v p n) = idView p s :=
  idView_wr (by unfold place SURF.ID_SERIAL.serial SURF.ID_INFO.trk; dsimp only; omega)
    (by unfold place SURF.ID_SERIAL.serial SURF.SURF_STAT.state; dsimp only; omega)

theorem idView_wear {v n : Nat} : idView p (s.wr SURF.CH_WEAR.count v p n) = idView p s :=
  idView_wr (by unfold place SURF.CH_WEAR.count SURF.ID_INFO.trk; dsimp only; omega)
    (by unfold place SURF.CH_WEAR.count SURF.SURF_STAT.state; dsimp only; omega)

theorem idTake_view {hd rf : List Byte} {a b : Option (Nat × List Nat)} : idView p (s.idTake p hd rf a b) =
    (field hd 6 1 + 256 * field hd 7 1 + 65536 * field hd 8 1, (State.draws 4 s).1.flatMap (leBytes 8), s.rd SURF.SURF_STAT.state p) := by
  have h6 := field_byte_lt (d := hd) (off := 6)
  have h7 := field_byte_lt (d := hd) (off := 7)
  have h8 := field_byte_lt (d := hd) (off := 8)
  have hs0 : (State.draws 4 s).2.rd SURF.SURF_STAT.state p = s.rd SURF.SURF_STAT.state p :=
    rd_clear (draws_frame Frame.refl Cov.refl : FrameR draws_T s _) (by decide)
  unfold State.idTake
  extract_lets T R K refOk resD resOk newB wear cert
  split
  next c s0 hdraw =>
  rw [hdraw] at hs0 ⊢
  extract_lets u s1 s2 s3 s4 s5
  have e2 : idView p s2 = (T + 256 * R + 65536 * K, c.flatMap (leBytes 8), s.rd SURF.SURF_STAT.state p) := by
    refine (idView_wr (f := SURF.WEAR_SEQ.seq) (n := 0) (by decide) (by decide)).trans ?_
    refine (idView_wr (f := SURF.ID_INFO.wake_ok) (n := 0) (by decide) (by decide)).trans ?_
    unfold idView
    have hs1 : (s1.surface p).chal = c.flatMap (leBytes 8) := by simp only [s1, surface_setSurf]
    have hst : s1.rd SURF.SURF_STAT.state p = s.rd SURF.SURF_STAT.state p := hs0
    rw [surface_congr (wr_surf ..), rd_wr_same, rd_wr_sep (by decide), hs1, hst]
    congr 1
    refine Nat.mod_eq_of_lt ?_
    simp only [T, R, K, SURF.ID_INFO.trk]
    omega
  have e3 : idView p s3 = idView p s2 := foldl_same_of_mem (idView p) fun _ n hn => idView_serial (List.mem_range.mp hn)
  have e4 : idView p s4 = idView p s3 := foldl_same_of_mem (idView p) fun _ _ _ => idView_wear
  have e5 : idView p s5 = idView p s4 := by
    simp only [s5]
    split
    · rfl
    · exact idView_told
  refine Eq.trans ?_ (e5.trans (e4.trans (e3.trans e2)))
  split
  · rfl
  · exact idView_told.trans (idView_wr (f := SURF.SURF_STAT.wear_unknown) (n := 0) (by decide) (by decide))

theorem idTake_shown {hd rf : List Byte} {a b : Option (Nat × List Nat)} :
    (s.idTake p hd rf a b).rd SURF.ID_INFO.trk p = field hd 6 1 + 256 * field hd 7 1 + 65536 * field hd 8 1 ∧
      ((s.idTake p hd rf a b).surface p).chal.length = 32 ∧
      (s.idTake p hd rf a b).rd SURF.SURF_STAT.state p = s.rd SURF.SURF_STAT.state p := by
  have h := idTake_view (s := s) (p := p) (hd := hd) (rf := rf) (a := a) (b := b)
  simp only [idView, Prod.mk.injEq] at h
  obtain ⟨htrk, hchal, hst⟩ := h
  refine ⟨htrk, ?_, hst⟩
  rw [hchal, length_flatMap_leBytes, length_draws]

/-! ### The verdict (R392) -/

theorem authDone_late {sig : Option (Nat × Nat)} (h : s.rd SURF.SURF_STAT.state p ≠ 2) : s.authDone p sig = s := by
  unfold State.authDone
  exact if_pos (.inl h)

/-- Whether a response attests the module. -/
def attests (k : SurfSt) (sig : Option (Nat × Nat)) : Bool :=
  k.certOk && (match sig with
    | some (r, t) => ecdsaVerify (beField k.cert 0x10 32) (beField k.cert 0x30 32)
        (digestNat (sha256 (k.chal ++ be32 (digestNat (sha256 k.signed))))) r t
    | none => false)

/-- The port attached under a verdict, with the event of the attach. -/
def attached (s : State) (p : Nat) (ok : Bool) : State :=
  let s1 := (s.wr SURF.SURF_STAT.auth (if ok then 1 else 2) p).wr SURF.SURF_STAT.state 3 p
  let s2 := if ok then s1 else ((s1.count .surf p 1).raise .surf p 11).surfEvent p Code.SURF_AUTH_FAIL 0
  (s2.count .surf p 0).raise .surf p 8

/-- What follows an attach: the wear that is to be told, a calibration that is due, touch and high voltage. -/
def attachFollows (s : State) (p : Nat) : State :=
  let s4 := (List.range 4).foldl (fun t n => t.wearTell p n) s
  let s5 := if s4.on TOUCH.SURF_CTRL.enable (2 * p) then s4 else s4.setSurf p { s4.surface p with cal := 1 }
  (s5.touchCheck p).hvSync

theorem authDone_ends {sig : Option (Nat × Nat)} (h : s.rd SURF.SURF_STAT.state p = 2) (hc : (s.surface p).chal ≠ []) :
    s.authDone p sig = attachFollows (attached s p (attests (s.surface p) sig)) p := by
  unfold State.authDone
  exact if_neg fun hn => hn.elim (fun h1 => h1 h) fun h2 => hc h2

/-- Parts that follow an attach. -/
def attachFollows_T : List Piece := wearTell_T ++ [.surf] ++ touchCheck_T ++ hvSync_T

theorem attachFollows_changes : Frame attachFollows_T s (attachFollows s p) := by
  unfold attachFollows
  extract_lets s4 u s5
  have h4 : Frame attachFollows_T s s4 := Frame.foldl Frame.refl fun u n hu => wearTell_frame hu (Cov.of_subset (by decide))
  have h5 : Frame attachFollows_T s s5 := by
    simp only [s5]
    split
    · exact h4
    · exact setSurf_frame h4 (Cov.of_subset (by decide))
  exact hvSync_frame (touchCheck_frame h5 (Cov.of_subset (by decide))) (Cov.of_subset (by decide))

theorem attached_shown {ok : Bool} : (attached s p ok).rd SURF.SURF_STAT.state p = 3 ∧
    (attached s p ok).rd SURF.SURF_STAT.auth p = (if ok then 1 else 2) ∧
    (attached s p ok).counter .surf p 0 = (s.counter .surf p 0 + 1) % 2 ^ 64 := by
  unfold attached
  extract_lets s1 s2
  have hst1 : s1.rd SURF.SURF_STAT.state p = 3 := rd_wr_same
  have hau1 : s1.rd SURF.SURF_STAT.auth p = (if ok then 1 else 2) := (rd_wr_sep (by decide)).trans (rd_wr_same.trans (by cases ok <;> rfl))
  have hc1 : s1.counter .surf p 0 = s.counter .surf p 0 := counter_wr.trans counter_wr
  have h2 : s2.rd SURF.SURF_STAT.state p = 3 ∧ s2.rd SURF.SURF_STAT.auth p = (if ok then 1 else 2) ∧
      s2.counter .surf p 0 = s.counter .surf p 0 := by
    simp only [s2]
    split
    next hok =>
      rw [if_pos hok] at hau1
      exact ⟨hst1, hau1, hc1⟩
    next hok =>
      rw [if_neg hok] at hau1
      refine ⟨(surfTold_rd (by decide) (by decide)).trans ((rd_count ..).trans hst1),
        (surfTold_rd (by decide) (by decide)).trans ((rd_count ..).trans hau1), ?_⟩
      exact (surfEvent_changes.ctr .surf p 0 (by decide) (by decide)).trans
        (counter_raise.trans ((counter_count_ne (by unfold ctrKey; omega)).trans hc1))
  obtain ⟨hst2, hau2, hc2⟩ := h2
  refine ⟨(raise_rd_sep (by decide)).trans ((rd_count ..).trans hst2), (raise_rd_sep (by decide)).trans ((rd_count ..).trans hau2), ?_⟩
  rw [counter_raise, counter_count_same, hc2]

theorem attached_unproved : (attached s p false).counter .surf p 1 = (s.counter .surf p 1 + 1) % 2 ^ 64 ∧
    bit ((attached s p false).rd (HDR.ev_raw .surf) p) 11 = true := by
  unfold attached
  extract_lets s1 s2
  have hc2 : s2.counter .surf p 1 = (s.counter .surf p 1 + 1) % 2 ^ 64 := by
    refine (surfEvent_changes.ctr .surf p 1 (by decide) (by decide)).trans (counter_raise.trans (counter_count_same.trans ?_))
    rw [counter_wr, counter_wr]
  refine ⟨counter_raise.trans ((counter_count_ne (by unfold ctrKey; omega)).trans hc2), ?_⟩
  refine raise_bit_of_bit (s := s2.count .surf p 0) (by decide) ?_
  rw [rd_count]
  exact surfTold_event (by decide)

/-! ### Events of a port that are set stay set -/

/-- Whether event n of port p has occurred. -/
abbrev told (p n : Nat) (t : State) : Prop := bit (t.rd (HDR.ev_raw .surf) p) n = true

theorem told_raise {q n m : Nat} (hn : n < 32) (hp : p < 8) (hq : q < 8) (h : told p n s) : told p n (s.raise .surf q m) := by
  by_cases hqp : q = p
  · rw [hqp]
    exact raise_bit_of_bit hn h
  · unfold told
    have hk : (HDR.ev_raw .surf).key q 0 0 ≠ (HDR.ev_raw .surf).key p 0 0 := cell_ne_page (surfPage_ne hp hq hqp)
    rwa [raise_rd hk]

theorem told_of_eq {n : Nat} (e : t.rd (HDR.ev_raw .surf) p = s.rd (HDR.ev_raw .surf) p) (h : told p n s) : told p n t := by
  unfold told
  rwa [e]

theorem told_wearTell {n m : Nat} (hn : n < 32) (hp : p < 8) (h : told p n s) : told p n (s.wearTell p m) := by
  have told {f : Fld} {code val : Nat} {u : State} (hf : sep f (HDR.ev_raw .surf) = true) (hu : told p n u) :
      told p n (((u.wr f 1 p m).raise .surf p 13).surfEvent p code val) :=
    told_of_eq (rd_clear surfEvent_changes (by decide)) (told_raise hn hp hp (told_of_eq (rd_wr_sep hf) hu))
  unfold State.wearTell
  extract_lets c s1
  have h1 : Proofs.told p n s1 := by
    simp only [s1]
    split
    · exact told (by decide) h
    · exact h
  split
  · exact told (by decide) h1
  · exact h1

theorem told_hvPort {q n : Nat} (hn : n < 32) (hp : p < 8) (hq : q < 8) (h : told p n s) : told p n (hvPort s q) := by
  unfold hvPort
  extract_lets why was now t1 t2
  have h1 : told p n t1 := told_of_eq ((rd_wrB_sep (by decide)).trans (rd_wr_sep (by decide))) h
  have h2 : told p n t2 := told_raise (s := t1) hn hp hq h1
  split
  · exact h1
  split
  · exact h2
  · exact h2

theorem told_boostSync {n : Nat} (h : told p n s) : told p n (boostSync s) := by
  unfold boostSync
  extract_lets any
  split
  · exact told_of_eq ((rd_count ..).trans (rd_wr_sep (by decide))) h
  · exact told_of_eq (rd_wrB_sep (by decide)) h

theorem told_hvSync {n : Nat} (hn : n < 32) (hp : p < 8) (h : told p n s) : told p n s.hvSync := by
  rw [hvSync_eq]
  exact told_boostSync (List.foldlRecOn (motive := told p n) _ _ h fun u hu q hq => told_hvPort hn hp (List.mem_range.mp hq) hu)

theorem told_attachFollows {n : Nat} (hn : n < 32) (hp : p < 8) (h : told p n s) : told p n (attachFollows s p) := by
  unfold attachFollows
  extract_lets s4 u s5
  have h4 : told p n s4 := List.foldlRecOn (motive := told p n) _ _ h fun v hv m _ => told_wearTell hn hp hv
  have h5 : told p n s5 := by
    simp only [s5]
    split
    · exact h4
    · exact told_of_eq rd_with_surf h4
  exact told_hvSync hn hp (told_of_eq (rd_clear (touchCheck_frame Frame.refl Cov.refl : Frame touchCheck_T s5 _) (by decide)) h5)

/-- What follows an attach shows nothing else of the verdict. -/
theorem attachFollows_shown : (attachFollows s p).rd SURF.SURF_STAT.state p = s.rd SURF.SURF_STAT.state p ∧
    (attachFollows s p).rd SURF.SURF_STAT.auth p = s.rd SURF.SURF_STAT.auth p ∧
    ∀ n, (attachFollows s p).counter .surf p n = s.counter .surf p n :=
  ⟨rd_clear attachFollows_changes (by decide), rd_clear attachFollows_changes (by decide), fun n =>
    attachFollows_changes.ctr .surf p n (by decide) (by decide)⟩

end

/-- Settles O44: each command's branch taken apart once; high voltage follows at its end, and leaves what the port shows of its module. -/
theorem surfacePorts : Obligations.SurfacePorts := by
  unfold Obligations.SurfacePorts
  refine ⟨?_, ?_, ?_, ?_, ?_, ?_, ?_, ?_, fun s p a b g h => idRead_late h, ?_, ?_, fun s p h => congrArg Host.Outcome.next (authDone_late h)⟩
  · intro s w p hacc hst
    refine ⟨_, congrArg Host.Outcome.next (portCtrl_on hacc), ?_⟩
    have h := portOn_shown (s := portWritten s p.val 1) (portWritten_state.trans hst)
    rwa [portWritten_pins] at h
  · intro s w p hacc hst
    refine ⟨_, congrArg Host.Outcome.next ((portCtrl_off hacc).trans (if_pos hst)), ?_⟩
    obtain ⟨h1, h2⟩ := portLeaving_shown (s := portWritten s p.val 0) p.isLt
    exact ⟨h1.trans (portWritten_state.trans hst), h2⟩
  · intro s w p hacc hst
    exact ⟨_, congrArg Host.Outcome.next ((portCtrl_off hacc).trans (if_neg hst)), portOff_shown p.isLt⟩
  · intro s p hst
    obtain ⟨hgone, hpins, hpres, hoff⟩ := surfGone_shown (s := pinHigh s p.val) p.isLt
    refine ⟨_, congrArg Host.Outcome.next (surfDetach_attached hst), (surfTold_rd (by decide) (by decide)).trans hgone, ?_,
      (surfTold_rd (by decide) (by decide)).trans (hpres.trans rd_wr_same), (surfTold_rd (by decide) (by decide)).trans hoff,
      surfTold_event (by decide)⟩
    rw [surfTold_pins, hpins, show (pinHigh s p.val).pins.present = _ from congrArg Pins.present (wr_pins ..)]
    exact bit_clrBit
  · intro s p hst
    refine ⟨_, insert_empty hst, (surfTold_rd (by decide) (by decide)).trans rd_wr_same, ?_, ?_, surfTold_event (by decide)⟩
    · rw [surfTold_pins, wr_pins, pinLow_pins]
      exact bit_setBit
    · exact (surfTold_rd (by decide) (by decide)).trans ((rd_wr_sep (by decide)).trans rd_wr_same)
  · intro s p hst
    have hpin : bit (pinLow s p.val).pins.present p.val = true := pinLow_pins ▸ bit_setBit
    rcases insert_other hst with h | h
    · exact ⟨_, h, pinLow_state, hpin⟩
    · exact ⟨_, h, (surfTold_rd (by decide) (by decide)).trans pinLow_state, by rw [surfTold_pins]; exact hpin⟩
  · intro s p a b ⟨hst, hc⟩
    exact ⟨_, idRead_none (a := a) (b := b) hst hc, (surfTold_rd (by decide) (by decide)).trans rd_wr_same, surfTold_event (by decide)⟩
  · intro s p hd rf a b ⟨hst, hc⟩ ⟨hlen, hok⟩
    obtain ⟨htrk, hchal, hstate⟩ := idTake_shown (s := s) (p := p.val) (hd := hd) (rf := rf) (a := wearSlot a) (b := wearSlot b)
    exact ⟨_, idRead_good (a := a) (b := b) hst hc hlen hok, htrk, hchal, hstate.trans hst⟩
  · intro s p ⟨hst, hc⟩
    have hno : s.authDone p.val none = attachFollows (attached s p.val false) p.val := by
      rw [authDone_ends hst hc, show attests (s.surface p.val) none = false from Bool.and_false _]
    obtain ⟨fst, fau, fctr⟩ := attachFollows_shown (s := attached s p.val false) (p := p.val)
    obtain ⟨ast, aau, -⟩ := attached_shown (s := s) (p := p.val) (ok := false)
    obtain ⟨actr, abit⟩ := attached_unproved (s := s) (p := p.val)
    exact ⟨_, congrArg Host.Outcome.next hno, fst.trans ast, fau.trans aau, (fctr 1).trans actr, told_attachFollows (by decide) p.isLt abit⟩
  · intro s p r q k ⟨hk, hst, hc⟩
    subst hk
    obtain ⟨fst, fau, fctr⟩ := attachFollows_shown (s := attached s p.val (attests (s.surface p.val) (some (r.toNat, q.toNat)))) (p := p.val)
    obtain ⟨ast, aau, actr⟩ := attached_shown (s := s) (p := p.val) (ok := attests (s.surface p.val) (some (r.toNat, q.toNat)))
    exact ⟨_, congrArg Host.Outcome.next (authDone_ends hst hc), fst.trans ast, fau.trans aau, (fctr 0).trans actr⟩

end Sys2Proof.Proofs

/-! Haptic streams, calibration and throttling (R399 to R405). -/

namespace Sys2Proof.Proofs

open Machine Laws

section

variable {s t : State} {p : Nat}

/-! ### A write of STREAM_CFG (R399) -/

theorem bits_setBit_above {v n lo len : Nat} (h : lo + len ≤ n) : bits (setBit v n) lo len = bits v lo len := by
  unfold bits setBit
  refine Nat.eq_of_testBit_eq fun k => ?_
  rw [Nat.testBit_mod_two_pow, Nat.testBit_mod_two_pow, Nat.testBit_shiftRight, Nat.testBit_shiftRight, Nat.testBit_or]
  by_cases hk : k < len
  · rw [Nat.testBit_two_pow_of_ne (by omega), Bool.or_false]
  · simp [hk]

theorem bit_setBit_ne {v n m : Nat} (h : n ≠ m) : bit (setBit v n) m = bit v m := by
  unfold bit setBit
  rw [Nat.testBit_or, Nat.testBit_two_pow_of_ne h, Bool.or_false]

theorem bits_one_setBit {v n : Nat} : bits (setBit v n) n 1 = 1 := by
  unfold bits
  have h : (setBit v n).testBit n = true := bit_setBit
  rw [Nat.testBit_eq_decide_div_mod_eq, decide_eq_true_eq] at h
  rwa [Nat.shiftRight_eq_div_pow]

theorem streamCfg_taken {w : Who} {v : Nat} (hacc : accepts s w .surf p 0x120 v = true) (ho : s.rd (HDR.owner .surf) p = 0xFE)
    (hen : (s.ring (bits v 0 12)).enable = true) (hty : (s.ring (bits v 0 12)).type = 6)
    (hch : ((List.range 4).all fun n => !bit v (16 + n) || s.holdsHapt 0xFE (hapCh p n)) = true) :
    s.streamCfg w p v = s.okResp.storeWord .surf p 0x120 v := by
  have hno : ((List.range 4).any fun n => bit v (16 + n) && !s.okResp.holdsHapt 0xFE (hapCh p n)) = false := by
    refine List.any_eq_false.mpr fun n hn => ?_
    have h := List.all_eq_true.mp hch n hn
    have hok : s.okResp.holdsHapt 0xFE (hapCh p n) = s.holdsHapt 0xFE (hapCh p n) := rfl
    rw [hok]
    cases hb : bit v (16 + n) <;> simp_all
  unfold State.streamCfg
  rw [onWrite_accepted hacc (by decide)]
  dsimp only
  rw [rd_okResp, ho, if_neg (by simp [show s.okResp.ring = s.ring from rfl, hen, hty]), hno, Bool.and_false]
  rfl

theorem streamCfg_noRing {w : Who} {v : Nat} (hacc : accepts s w .surf p 0x120 v = true) (ho : s.rd (HDR.owner .surf) p = 0xFE)
    (hb : bit v 24 = true) (hen : (s.ring (bits v 0 12)).enable = false) :
    s.streamCfg w p v = s.okResp.refuse .surf p Code.RING_BAD_CTX w.rid 0x120 := by
  unfold State.streamCfg
  rw [onWrite_accepted hacc (by decide)]
  dsimp only
  rw [rd_okResp, ho, if_pos (by simp [show s.okResp.ring = s.ring from rfl, hb, hen])]

/-! ### The ticks of the ports (R401) -/

/-- What the tick of another port keeps of a port's stream. -/
structure HaptKept (p : Nat) (s t : State) : Prop where
  enable : t.on SURF.STREAM_CFG.enable p = s.on SURF.STREAM_CFG.enable p
  state : t.rd SURF.STREAM_STAT.state p = s.rd SURF.STREAM_STAT.state p
  surf : t.surface p = s.surface p
  ctr : t.counter .surf p 4 = s.counter .surf p 4

theorem HaptKept.refl (s : State) : HaptKept p s s := ⟨rfl, rfl, rfl, rfl⟩

theorem HaptKept.trans {a b c : State} (h : HaptKept p a b) (h' : HaptKept p b c) : HaptKept p a c :=
  ⟨h'.enable.trans h.enable, h'.state.trans h.state, h'.surf.trans h.surf, h'.ctr.trans h.ctr⟩

/-- An operation that does not act on surface ports. -/
theorem HaptKept.of_frame {L : List Piece} (h : Frame L s t) (hen : L.all (clear SURF.STREAM_CFG.enable) = true)
    (hst : L.all (clear SURF.STREAM_STAT.state) = true) (hs : .surf ∉ L) (hc : .ctr .surf ∉ L) (hca : .allCtr ∉ L) : HaptKept p s t :=
  ⟨on_clear h hen, rd_clear h hst, surface_congr (h.surf hs), h.ctr .surf p 4 hc hca⟩

variable {q : Nat}

theorem haptKept_setSurf {v : SurfSt} (hqp : q ≠ p) : HaptKept p s (s.setSurf q v) := ⟨rfl, rfl, surface_setSurf_ne hqp, rfl⟩

theorem haptKept_wr {f : Fld} {v : Nat} (hp : p < 8) (hq : q < 8) (hqp : q ≠ p) (hf : f.blk = .surf) : HaptKept p s (s.wr f v q) := by
  have hpage : f.blk.page q ≠ Blk.surf.page p := hf ▸ surfPage_ne hp hq hqp
  refine ⟨?_, rd_wr_page hpage, surface_congr (wr_surf ..), counter_wr⟩
  unfold State.on
  rw [rd_wr_page hpage]

theorem haptKept_count {n : Nat} (hp : p < 8) (hq : q < 8) (hqp : q ≠ p) : HaptKept p s (s.count .surf q n) := by
  refine ⟨rfl, rfl, rfl, counter_count_ne ?_⟩
  have hpage := surfPage_ne hp hq hqp
  unfold ctrKey
  omega

theorem haptKept_setHapFeed {f : Feed} (hp : p < 8) (hq : q < 8) (hqp : q ≠ p) : HaptKept p s (s.setHapFeed q f) :=
  (haptKept_setSurf hqp).trans ((haptKept_wr hp hq hqp rfl).trans (haptKept_wr hp hq hqp rfl))

theorem haptKept_hapFresh {f : Feed} (hp : p < 8) (hq : q < 8) (hqp : q ≠ p) : HaptKept p s (s.hapFresh q f) :=
  (haptKept_setSurf hqp).trans (haptKept_setHapFeed hp hq hqp)

theorem haptKept_slewNow : HaptKept p s (s.slewNow q) := ⟨rfl, rfl, rfl, rfl⟩

theorem haptKept_hapDrive {v : List Int} (hp : p < 8) (hq : q < 8) (hqp : q ≠ p) : HaptKept p s (s.hapDrive q v) := by
  unfold State.hapDrive
  extract_lets ch lv k slew hot phase s1
  split
  · exact haptKept_setSurf hqp
  split
  · exact (haptKept_setSurf hqp).trans ((haptKept_count (s := s1) hp hq hqp).trans haptKept_slewNow)
  · exact haptKept_setSurf hqp

theorem haptKept_feedFill {n : Nat} {how : FeedHow} {takes : Bool} {f f' : Feed} (h : State.feedFill n s how takes f = (t, f')) : HaptKept p s t := by
  have hf : FrameP feedFill_T s (State.feedFill n s how takes f) := feedFill_frame Frame.refl Cov.refl
  rw [h] at hf
  exact .of_frame hf (by decide) (by decide) (by decide) (by decide) (by decide)

theorem haptKept_feedEnds {n : Nat} {f f' : Feed} (h : State.feedEnds n s f = (t, f')) : HaptKept p s t := by
  have hf : FrameP feedEnds_T s (State.feedEnds n s f) := feedEnds_frame Frame.refl Cov.refl
  rw [h] at hf
  exact .of_frame hf (by decide) (by decide) (by decide) (by decide) (by decide)

theorem haptKept_hapFill (hp : p < 8) (hq : q < 8) (hqp : q ≠ p) : HaptKept p s (s.hapFill q) := by
  unfold State.hapFill
  extract_lets f on
  split
  · exact .refl s
  split
  next s1 f1 h1 =>
  split
  next s2 f2 h2 =>
  have h : HaptKept p s s2 := (haptKept_feedFill h1).trans (haptKept_feedEnds h2)
  split
  · exact h.trans (haptKept_hapFresh hp hq hqp)
  · exact h.trans (haptKept_setHapFeed hp hq hqp)

theorem haptKept_underrun {r d : Nat} : HaptKept p s (s.event r .surf q Code.HAPT_UNDERRUN d) :=
  .of_frame (event_frame Frame.refl Cov.refl : Frame event_T s _) (by decide) (by decide) (by decide) (by decide) (by decide)

theorem haptKept_raise {n : Nat} : HaptKept p s (s.raise .surf q n) :=
  .of_frame (raise_frame Frame.refl Cov.refl : Frame [.fld (HDR.ev_raw .surf), .sent] s _) (by decide) (by decide) (by decide) (by decide) (by decide)

theorem haptKept_hapTickPort (hp : p < 8) (hq : q < 8) (hqp : q ≠ p) : HaptKept p s (s.hapTickPort q) := by
  have hdrive {u : State} {v : List Int} : HaptKept p u (u.hapDrive q v) := haptKept_hapDrive hp hq hqp
  have hfeed {u : State} {f : Feed} : HaptKept p u (u.setHapFeed q f) := haptKept_setHapFeed hp hq hqp
  have hfresh {u : State} {f : Feed} : HaptKept p u (u.hapFresh q f) := haptKept_hapFresh hp hq hqp
  have hfill : HaptKept p s (s.hapFill q) := haptKept_hapFill hp hq hqp
  unfold State.hapTickPort
  extract_lets u f starved play k t0
  have hplay : HaptKept p u (play ()) := by
    simp only [play]
    split
    · exact (haptKept_count hp hq hqp).trans (haptKept_raise.trans (haptKept_underrun.trans (hfeed.trans hdrive)))
    next v ends g hg =>
      exact (haptKept_count hp hq hqp).trans (hdrive.trans ((haptKept_feedEnds rfl).trans hfeed))
  refine hfill.trans ?_
  split
  · split
    · exact hplay
    · exact hdrive
  split
  · split
    · exact hfeed.trans hdrive
    · exact hplay
  split
  · split
    · split
      · exact hdrive.trans hfeed
      · exact hdrive.trans hfresh
    · exact hdrive.trans hfeed
  · exact hdrive

/-- A tick of the engine plays a port's stream as the port's own tick does. -/
theorem haptTick_focus (hp : p < 8) :
    ∃ u, HaptKept p s u ∧ HaptKept p (u.hapTickPort p) ((List.range 8).foldl (fun t p => t.hapTickPort p) s) :=
  foldl_focus (HaptKept p) HaptKept.refl HaptKept.trans (fun _ _ hk h => haptKept_hapTickPort hp (List.mem_range.mp hk) h) List.nodup_range
    (List.mem_range.mpr hp)

theorem feedEnds_none {n : Nat} {f : Feed} (h : f.jobs = []) : State.feedEnds n s f = (s, f) := by
  cases n with
  | zero => rfl
  | succ n =>
    unfold State.feedEnds
    rw [h]

theorem hapFill_none (hen : s.on SURF.STREAM_CFG.enable p = false) (hj : (s.surface p).feed.jobs = []) : s.hapFill p = s := by
  unfold State.hapFill
  extract_lets f on
  exact if_pos (by simp [f, on, hen, hj])

theorem setHapFeed_shown {f : Feed} : ((s.setHapFeed p f).surface p).feed = f ∧ (s.setHapFeed p f).rd SURF.STREAM_STAT.state p = f.st % 4 ∧
    (s.setHapFeed p f).counter .surf p 4 = s.counter .surf p 4 := by
  unfold State.setHapFeed
  refine ⟨?_, (rd_wr_sep (by decide)).trans rd_wr_same, ?_⟩
  · rw [surface_congr (wr_surf ..), surface_congr (wr_surf ..), surface_setSurf]
  · exact counter_wr.trans (counter_wr.trans rfl)

theorem frames_hapDrive {v : List Int} : (s.hapDrive p v).counter .surf p 4 = s.counter .surf p 4 := by
  unfold State.hapDrive
  extract_lets ch lv k slew hot phase s1
  split
  · rfl
  split
  · exact (counter_count_ne (s := s1) (by unfold ctrKey; omega)).trans rfl
  · rfl

theorem hapTickPort_plays {f : Feed} {v : List Int} {n : Nat} {l : List (Nat × List Int)} (hf : (s.surface p).feed = f) (hst : f.st = 2)
    (hfr : f.frames = (n, v) :: l) (hj : f.jobs = []) (hen : s.on SURF.STREAM_CFG.enable p = false) :
    s.hapTickPort p = ((s.count .surf p 4).hapDrive p v).setHapFeed p { f with frames := l, jobs := [], st := 2, level := v } := by
  have hplay : f.play = some (v, false, { f with frames := l, jobs := [] }) := by
    unfold Feed.play
    rw [hfr, hj]
    rfl
  unfold State.hapTickPort
  rw [hapFill_none hen (hf ▸ hj)]
  dsimp only
  rw [hf, if_neg (by omega), if_pos hst, if_neg (by simp [hfr]), hplay]
  dsimp only
  rw [feedEnds_none rfl]
  rfl

theorem hapTickPort_ramps {f : Feed} (hf : (s.surface p).feed = f) (hst : f.st = 3) (hr : f.ramp = 1) (hfr : f.frames = []) (hj : f.jobs = [])
    (hen : s.on SURF.STREAM_CFG.enable p = false) :
    s.hapTickPort p = (s.hapDrive p (rampLevel 16 0 f.level)).setHapFeed p { f with st := 0, ramp := 0, level := [] } := by
  unfold State.hapTickPort
  rw [hapFill_none hen (hf ▸ hj)]
  dsimp only
  rw [hf, if_neg (by omega), if_neg (by omega), if_pos hst, hr, if_pos rfl, hfr]
  rfl

/-! ### Calibration (R403, R404) -/

theorem calFallback_changes {n : Nat} : Frame calFallback_T s (s.calFallback p n) := calFallback_frame Frame.refl Cov.refl
theorem calEnd_changes : Frame calEnd_T s (s.calEnd p) := calEnd_frame Frame.refl Cov.refl

theorem calEnd_surface (hp : p < 8) {α : Type} (f : SurfSt → α) (hf : ∀ v : SurfSt, f { v with last := [] } = f v) :
    f ((s.calEnd p).surface p) = f { s.surface p with cal := 3 } := by
  unfold State.calEnd
  rw [surface_hvSync hp f hf, surface_setSurf]

/-- A calibration that is due on a permitted, authentic port. -/
theorem resonanceCal_begins {n : Fin 8} (hc : (s.surface n.val).cal = 1) (hst : s.rd SURF.SURF_STAT.state n.val = 3)
    (hau : s.rd SURF.SURF_STAT.auth n.val = 1) (hpm : bit (s.rd SAFE.HV_PERMIT.ports) n.val = true) : execResonanceCal n s =
      .next ((s.setSurf n.val { s.surface n.val with cal := 2, calCh := 0 }).count .surf n.val 7).hvSync := by
  unfold execResonanceCal
  dsimp only
  rw [if_neg (fun h => h.elim (fun h => h hc) fun h => h hst), if_pos ⟨hau, hpm⟩]

/-- Every channel of a port shown as not calibrated, with the frequency it falls back to. -/
def calSkipped (s : State) (p : Nat) : State := (List.range 4).foldl (fun t c => (t.wr SURF.CH_CAL.status 3 p c).calFallback p c) s

theorem resonanceCal_skips {n : Fin 8} (hc : (s.surface n.val).cal = 1) (hst : s.rd SURF.SURF_STAT.state n.val = 3)
    (hau : s.rd SURF.SURF_STAT.auth n.val ≠ 1) : execResonanceCal n s = .next ((calSkipped s n.val).calEnd n.val) := by
  unfold execResonanceCal
  dsimp only
  rw [if_neg (fun h => h.elim (fun h => h hc) fun h => h hst), if_neg fun h => hau h.1]
  rfl

theorem rd_chCal_ne {m n v : Nat} (hm : m < 4) (hn : n < 4) (h : m ≠ n) :
    (s.wr SURF.CH_CAL.status v p m).rd SURF.CH_CAL.status p n = s.rd SURF.CH_CAL.status p n :=
  rd_wr_elt (by unfold SURF.CH_CAL.status; dsimp only; omega)

theorem calSkipped_status {n : Nat} (hn : n < 4) : (calSkipped s p).rd SURF.CH_CAL.status p n = 3 := by
  obtain ⟨u, -, h⟩ := foldl_focus (fun a b : State => b.rd SURF.CH_CAL.status p n = a.rd SURF.CH_CAL.status p n) (fun _ => rfl)
    (fun h h' => h'.trans h) (step := fun t c => (t.wr SURF.CH_CAL.status 3 p c).calFallback p c) (a := s)
    (fun t k hk hne => (rd_clear calFallback_changes (by decide)).trans (rd_chCal_ne (List.mem_range.mp hk) hn hne)) List.nodup_range
    (List.mem_range.mpr hn)
  exact h.trans ((rd_clear calFallback_changes (by decide)).trans rd_wr_same)

/-! ### A channel's sweep (R404) -/

/-- What a sweep gives one channel. -/
def calView (p c : Nat) (t : State) : Nat × Nat × Nat × Nat :=
  (t.rd SURF.CH_RES.f_res p c, t.rd SURF.CH_CAL.status p c, t.rd SURF.CH_CAL.source p c, mget (t.surface p).fUse c 3200)

/-- The end of a channel's sweep: the port goes on to the next channel, or its calibration ends. -/
def calNext (s : State) (p c : Nat) : State :=
  if c = 3 then (s.calEnd p).raise .surf p 17 else s.setSurf p { s.surface p with calCh := c + 1 }

theorem calView_calNext {c : Nat} (hp : p < 8) : calView p c (calNext s p c) = calView p c s ∧
    (((calNext s p c).surface p).cal = 3 ∨ ((calNext s p c).surface p).calCh = c + 1) := by
  unfold calNext calView
  split
  · rw [surface_congr (raise_surf ..), raise_rd_sep (by decide), raise_rd_sep (by decide), raise_rd_sep (by decide),
      rd_clear calEnd_changes (by decide), rd_clear calEnd_changes (by decide), rd_clear calEnd_changes (by decide),
      calEnd_surface hp (fun v => mget v.fUse c 3200) fun _ => rfl, calEnd_surface hp SurfSt.cal fun _ => rfl]
    exact ⟨rfl, .inl rfl⟩
  · rw [surface_setSurf]
    exact ⟨rfl, .inr rfl⟩

theorem rd_slewNow {f : Fld} {i j b : Nat} : (s.slewNow p).rd f i j b = s.rd f i j b := rfl

theorem surface_slewNow {q : Nat} : (s.slewNow q).surface p = s.surface p := rfl
theorem surface_count {k : Blk} {i n m : Nat} : (s.count k i n m).surface p = s.surface p := rfl
theorem surface_wr {f : Fld} {v i j b : Nat} : (s.wr f v i j b).surface p = s.surface p := surface_congr (wr_surf ..)

theorem rd_setSurf {f : Fld} {v : SurfSt} {i j b : Nat} : (s.setSurf p v).rd f i j b = s.rd f i j b := rfl

/-- A channel whose sweep found a peak in range. -/
def calFound (s : State) (p c f q r cap : Nat) (drift : Bool) : State :=
  let s1 := ((((s.wr SURF.CH_RES.f_res f p c).wr SURF.CH_RES.q q p c).wr SURF.CH_RES2.f_ring r p c).wr SURF.CH_RES2.cap_nf cap p c).wrB
    SURF.CH_CAL.drift drift p c
  let u := s1.surface p
  ((((s1.setSurf p { u with fUse := mset u.fUse c (s1.rd SURF.CH_RES.f_res p c) 3200 }).wr SURF.CH_CAL.status 1 p c).wr SURF.CH_CAL.source 0 p
    c).count .surf p 8).slewNow p

theorem calFound_view {c f q r cap : Nat} {drift : Bool} (hf : f < 2 ^ 16) : calView p c (calFound s p c f q r cap drift) = (f, 1, 0, f) := by
  unfold calFound
  extract_lets s1 u
  have h1 : s1.rd SURF.CH_RES.f_res p c = f := by
    refine (rd_wrB_sep (by decide)).trans ((rd_wr_sep (by decide)).trans ((rd_wr_sep (by decide)).trans ((rd_wr_sep (by decide)).trans ?_)))
    exact rd_wr_same.trans (Nat.mod_eq_of_lt hf)
  generalize hv : ({ u with fUse := mset u.fUse c (s1.rd SURF.CH_RES.f_res p c) 3200 } : SurfSt) = v
  have hu : mget v.fUse c 3200 = f := by
    rw [← hv, ← h1]
    exact mget_mset_same (m := u.fUse)
  have hsurf : (((((s1.setSurf p v).wr SURF.CH_CAL.status 1 p c).wr SURF.CH_CAL.source 0 p c).count .surf p 8).slewNow p).surface p = v := by
    rw [surface_slewNow, surface_count, surface_wr, surface_wr, surface_setSurf]
  unfold calView
  rw [hsurf, hu]
  have hf1 : (s1.setSurf p v).rd SURF.CH_RES.f_res p c = f := rd_setSurf.trans h1
  clear_value s1
  rw [rd_slewNow, rd_count, rd_slewNow, rd_count, rd_slewNow, rd_count, rd_wr_sep (by decide), rd_wr_sep (by decide), hf1, rd_wr_sep (by decide),
    rd_wr_same, rd_wr_same]
  rfl

theorem calStep_found {f q r cap : Nat} (hc : (s.surface p).cal = 2) (hon : s.on SURF.HV_STAT.on p = true) (hlo : 1280 ≤ f) (hhi : f ≤ 6400)
    (hr : r = f) : ∃ drift, s.calStep p (some (f, q, r, cap)) = calNext (calFound s p (s.surface p).calCh f q r cap drift) p (s.surface p).calCh := by
  refine ⟨match (s.surface p).res[(s.surface p).calCh]? with | some (g, _, _) => decide (g < 5 * (max f g - min f g)) | none => false, ?_⟩
  have hfound : (decide (1280 ≤ f ∧ f ≤ 6400) && decide (20 * (max f r - min f r) ≤ f)) = true := by
    rw [hr, Nat.max_self, Nat.min_self, Nat.sub_self]
    simp [hlo, hhi]
  unfold State.calStep
  dsimp only
  rw [if_neg (by simp [hc]), hon, if_neg (by decide), hfound, if_pos rfl]
  rfl

/-! ### Throttling (R405) -/

/-- What a check reads of the channels is as before where their throttle steps and priorities are. -/
theorem throttleNext_congr (hthr : ∀ c, t.throttle c = s.throttle c) (hprio : ∀ c, t.hapPrio c = s.hapPrio c) : t.throttleNext = s.throttleNext := by
  unfold State.throttleNext State.throttleOrder
  simp only [hthr, hprio]

/-- A check with the power, the output and the die temperature shown, and the energy counted. -/
def checkShown (s : State) (mw vout temp : Nat) : State :=
  let s0 := ((s.wr HAPT.PWR_NOW.mw mw).wr HAPT.BOOST_STAT.vout vout).wr HAPT.DIE_TEMP.temp temp
  ({ s0 with hapt := { s0.hapt with energy := (s0.hapt.energy + mw) % 1000 } }).count .hapt 0 4 ((s0.hapt.energy + mw) / 1000)

variable {mw vout temp : Nat}

theorem checkShown_rd {f : Fld} {i j b : Nat} (h1 : sep HAPT.PWR_NOW.mw f = true) (h2 : sep HAPT.BOOST_STAT.vout f = true)
    (h3 : sep HAPT.DIE_TEMP.temp f = true) : (checkShown s mw vout temp).rd f i j b = s.rd f i j b := by
  unfold checkShown
  dsimp only
  rw [rd_count, rd_with_hapt, rd_wr_sep h3, rd_wr_sep h2, rd_wr_sep h1]

theorem checkShown_shown (hmw : mw < 2 ^ 14) (hv : vout < 2 ^ 12) (ht : temp < 2 ^ 11) : (checkShown s mw vout temp).rd HAPT.PWR_NOW.mw = mw ∧
    (checkShown s mw vout temp).rd HAPT.BOOST_STAT.vout = vout ∧ (checkShown s mw vout temp).rd HAPT.DIE_TEMP.temp = temp ∧
    (checkShown s mw vout temp).counter .hapt 0 3 = s.counter .hapt 0 3 := by
  unfold checkShown
  dsimp only
  refine ⟨(rd_count ..).trans (rd_with_hapt.trans ?_), (rd_count ..).trans (rd_with_hapt.trans ?_),
    (rd_count ..).trans (rd_with_hapt.trans ?_), ?_⟩
  · rw [rd_wr_sep (by decide), rd_wr_sep (by decide), rd_wr_same]
    exact Nat.mod_eq_of_lt hmw
  · rw [rd_wr_sep (by decide), rd_wr_same]
    exact Nat.mod_eq_of_lt hv
  · rw [rd_wr_same]
    exact Nat.mod_eq_of_lt ht
  · refine (counter_count_ne (by unfold ctrKey; omega)).trans ?_
    rw [counter_mk, counter_wr, counter_wr, counter_wr]

theorem throttleShow_changes : Frame throttleShow_T s s.throttleShow := throttleShow_frame Frame.refl Cov.refl

theorem stepDown_changes {c : Nat} : Frame stepDown_T s (s.stepDown c) := stepDown_frame Frame.refl Cov.refl

theorem stepDown_shown {c : Nat} : (s.stepDown c).throttle c = min 4 (s.throttle c + 1) ∧
    (s.stepDown c).counter .hapt 0 3 = (s.counter .hapt 0 3 + 1) % 2 ^ 64 := by
  unfold State.stepDown
  extract_lets p s1 e2 s2 s3 e4
  have h1 : s1.throttle c = min 4 (s.throttle c + 1) := by
    unfold State.throttle
    refine (rd_slewNow.trans (rd_count ..)).trans (rd_wr_same.trans (Nat.mod_eq_of_lt ?_))
    exact Nat.lt_of_le_of_lt (Nat.min_le_left ..) (by decide)
  have hc1 : s1.counter .hapt 0 3 = (s.counter .hapt 0 3 + 1) % 2 ^ 64 :=
    counter_count_same.trans (by rw [counter_wr])
  have h2 : s2.throttle c = s1.throttle c ∧ s2.counter .hapt 0 3 = s1.counter .hapt 0 3 := by
    simp only [s2]
    split
    · exact ⟨rfl, rfl⟩
    · exact ⟨(raise_rd_sep (by decide)).trans rfl, counter_raise.trans (counter_count_ne (by unfold ctrKey; omega))⟩
  have h3 : s3.throttle c = s2.throttle c ∧ s3.counter .hapt 0 3 = s2.counter .hapt 0 3 :=
    ⟨rd_clear throttleShow_changes (by decide), throttleShow_changes.ctr .hapt 0 3 (by decide) (by decide)⟩
  have hlast : s3.throttle c = min 4 (s.throttle c + 1) ∧ s3.counter .hapt 0 3 = (s.counter .hapt 0 3 + 1) % 2 ^ 64 :=
    ⟨h3.1.trans (h2.1.trans h1), h3.2.trans (h2.2.trans hc1)⟩
  split
  · exact hlast
  · exact ⟨(rd_clear surfEvent_changes (by decide)).trans hlast.1, (surfEvent_changes.ctr .hapt 0 3 (by decide) (by decide)).trans hlast.2⟩

/-- A check that finds the power beyond the budget steps the next channel down, and finds no conditions to step up in. -/
theorem throttleStep_over {c : Nat} (hnext : s.throttleNext = some c) (hover : min 16000 (s.rd HAPT.BUDGET.mw) < mw) :
    ∃ h, s.throttleStep mw vout temp none = { ((checkShown s mw vout temp).stepDown c) with hapt := h } := by
  have hbud : (checkShown s mw vout temp).rd HAPT.BUDGET.mw = s.rd HAPT.BUDGET.mw := checkShown_rd (by decide) (by decide) (by decide)
  have hnext1 : (checkShown s mw vout temp).throttleNext = some c :=
    (throttleNext_congr (fun _ => checkShown_rd (by decide) (by decide) (by decide)) fun _ =>
      checkShown_rd (by decide) (by decide) (by decide)).trans hnext
  refine ⟨(s.throttleStep mw vout temp none).hapt, ?_⟩
  generalize hr : s.throttleStep mw vout temp none = r
  unfold State.throttleStep at hr
  extract_lets s0 e e1 s1 budget die lim riseLim s2 e3 s3 fine g up e4 s4 at hr
  have hs1 : s1 = checkShown s mw vout temp := rfl
  have hs2 : s2 = (checkShown s mw vout temp).stepDown c := by
    simp only [s2]
    rw [hs1, hnext1, if_pos (.inl (by simpa only [budget, hs1, hbud] using hover))]
  have hfine : fine = false := by
    simp only [fine]
    rw [decide_eq_false (by simp only [budget, hs1, hbud]; omega), Bool.false_and, Bool.false_and]
  have hup : up = false := by
    simp only [up, hfine, Bool.false_and]
  rw [hup, if_neg (by decide)] at hr
  rw [← hr, ← hs2]

end

/-- Settles O46: the ticks of the other ports keep a port's stream, the channels of a calibration keep each other's status, and a check beyond
the budget steps down the channel that is next before the check. -/
theorem hapticStreamsAndThrottle : Obligations.HapticStreamsAndThrottle := by
  unfold Obligations.HapticStreamsAndThrottle
  refine ⟨?_, ?_, ?_, ?_, ?_, ?_, ?_, fun s p h => congrArg Host.Outcome.next (if_pos h), ?_⟩
  · intro s w p v hacc ⟨ho, hen, hty⟩ hch
    rw [← bits_setBit_above (n := 24) (by decide)] at hen hty
    refine ⟨_, congrArg Host.Outcome.next (streamCfg_taken hacc ho hen hty ?_), ?_, ?_, ?_⟩
    · refine List.all_eq_true.mpr fun n hn => ?_
      rw [bit_setBit_ne (by have := List.mem_range.mp hn; omega)]
      exact List.all_eq_true.mp hch n hn
    · exact (surfStore_field (f := SURF.STREAM_CFG.enable) (by decide) rfl (by decide) rfl (by decide) (by decide)).trans bits_one_setBit
    · exact (surfStore_field (f := SURF.STREAM_CFG.ring) (by decide) rfl (by decide) rfl (by decide) (by decide)).trans
        (bits_setBit_above (by decide))
    · exact (surfStore_field (f := SURF.STREAM_CFG.chmask) (by decide) rfl (by decide) rfl (by decide) (by decide)).trans
        (bits_setBit_above (by decide))
  · intro s w p v hacc ⟨ho, hen⟩
    rw [← bits_setBit_above (n := 24) (by decide)] at hen
    exact congrArg Host.Outcome.next (streamCfg_noRing hacc ho bit_setBit hen)
  · intro s p n v l f ⟨hf, hst, hfr, hj, hen⟩
    obtain ⟨u, hu, ht⟩ := haptTick_focus (s := s) p.isLt
    have e := hapTickPort_plays (s := u) (by rw [hu.surf]; exact hf.symm) hst hfr hj (hu.enable.trans hen)
    rw [e] at ht
    obtain ⟨hfeed, hstate, hctr⟩ := setHapFeed_shown (s := (u.count .surf p.val 4).hapDrive p.val v) (p := p.val)
      (f := { f with frames := l, jobs := [], st := 2, level := v })
    refine ⟨_, rfl, ?_, ?_, ht.state.trans hstate, ?_⟩
    · rw [ht.surf, hfeed]
    · rw [ht.surf, hfeed]
    · rw [ht.ctr, hctr, frames_hapDrive, counter_count_same, hu.ctr]
  · intro s p f ⟨hf, hst, hr, hfr, hj, hen⟩
    obtain ⟨u, hu, ht⟩ := haptTick_focus (s := s) p.isLt
    have e := hapTickPort_ramps (s := u) (by rw [hu.surf]; exact hf.symm) hst hr hfr hj (hu.enable.trans hen)
    rw [e] at ht
    obtain ⟨hfeed, hstate, -⟩ := setHapFeed_shown (s := u.hapDrive p.val (rampLevel 16 0 f.level)) (p := p.val)
      (f := { f with st := 0, ramp := 0, level := [] })
    refine ⟨_, rfl, ht.state.trans hstate, ?_⟩
    rw [ht.surf, hfeed]
  · intro s p ⟨hc, hst, hau, hpm⟩
    refine ⟨_, resonanceCal_begins hc hst hau hpm, ?_, ?_, ?_⟩
    · rw [surface_hvSync p.isLt SurfSt.cal fun _ => rfl, surface_count, surface_setSurf]
    · rw [surface_hvSync p.isLt SurfSt.calCh fun _ => rfl, surface_count, surface_setSurf]
    · exact (hvSync_changes.ctr .surf p.val 7 (by decide) (by decide)).trans counter_count_same
  · intro s p ⟨hc, hst, hau⟩
    refine ⟨_, resonanceCal_skips hc hst hau, calEnd_surface p.isLt SurfSt.cal fun _ => rfl, List.all_eq_true.mpr fun c hcm => ?_⟩
    rw [rd_clear calEnd_changes (by decide), calSkipped_status (List.mem_range.mp hcm)]
    rfl
  · intro s p c f q r m ⟨hc, hch, hon⟩ ⟨hlo, hhi, hr⟩
    obtain ⟨drift, e⟩ := calStep_found (q := q.toNat) (cap := m.toNat) hc hon hlo hhi (congrArg BitVec.toNat hr)
    rw [hch] at e
    obtain ⟨hview, hnext⟩ := calView_calNext (s := calFound s p.val c.val f.toNat q.toNat r.toNat m.toNat drift) (c := c.val) p.isLt
    rw [calFound_view f.isLt] at hview
    simp only [calView, Prod.mk.injEq] at hview
    obtain ⟨hres, hstatus, hsource, huse⟩ := hview
    exact ⟨_, congrArg Host.Outcome.next e, hres, hstatus, hsource, huse, hnext⟩
  · intro s mw vout temp c ⟨hnext, _, hover⟩
    obtain ⟨h, e⟩ := throttleStep_over (vout := vout.toNat) (temp := temp.toNat) hnext hover
    obtain ⟨hthr, hctr⟩ := stepDown_shown (s := checkShown s mw.toNat vout.toNat temp.toNat) (c := c)
    obtain ⟨hmw, hv, ht, hc3⟩ := checkShown_shown (s := s) mw.isLt vout.isLt temp.isLt
    have hsame : (checkShown s mw.toNat vout.toNat temp.toNat).throttle c = s.throttle c := checkShown_rd (by decide) (by decide) (by decide)
    exact ⟨_, congrArg Host.Outcome.next e, rd_with_hapt.trans (hthr.trans (by rw [hsame])),
      rd_with_hapt.trans ((rd_clear stepDown_changes (by decide)).trans hmw), rd_with_hapt.trans ((rd_clear stepDown_changes (by decide)).trans hv),
      rd_with_hapt.trans ((rd_clear stepDown_changes (by decide)).trans ht), counter_mk.trans (hctr.trans (by rw [hc3]))⟩

end Sys2Proof.Proofs

/-! The audio engine: its tick, the parameter set, safe-loads and stream enables (R410 to R418). -/

namespace Sys2Proof.Proofs

open Machine Laws

section

variable {s t : State}

/-! ### What the parts of a tick keep (R415) -/

/-- The parts of a tick keep the active parameter set and the count of ticks. -/
structure EngKept (s t : State) : Prop where
  frame : Frame audioTick_T s t
  active : t.audio.active = s.audio.active
  ticks : t.counter .audio 0 0 = s.counter .audio 0 0

theorem EngKept.refl (s : State) : EngKept s s := ⟨Frame.refl, rfl, rfl⟩

theorem EngKept.trans {a b c : State} (h : EngKept a b) (h' : EngKept b c) : EngKept a c :=
  ⟨Frame.trans h.frame h'.frame, h'.active.trans h.active, h'.ticks.trans h.ticks⟩

/-- An operation that does not act on the audio engine. -/
theorem EngKept.of_frame {L : List Piece} (h : Frame L s t) (hsub : L ⊆ audioTick_T) (ha : .audio ∉ L) (hc : .ctr .audio ∉ L) (hca : .allCtr ∉ L) :
    EngKept s t :=
  ⟨frame_mono h hsub, congrArg AudioSt.active (h.audio ha), h.ctr .audio 0 0 hc hca⟩

theorem engKept_audio {a : AudioSt} (h : a.active = s.audio.active) : EngKept s { s with audio := a } :=
  ⟨Frame.upd Frame.refl (m_audio := .inl (by decide)), h, rfl⟩

theorem engKept_count {n m : Nat} (h : n % 128 ≠ 0) : EngKept s (s.count .audio 0 n m) :=
  ⟨count_frame Frame.refl (Cov.of_subset (by decide)), rfl, counter_count_ne (by unfold ctrKey; omega)⟩

theorem engKept_draw : EngKept s s.draw.2 :=
  .of_frame (draw_frame Frame.refl Cov.refl : FrameR draw_T s _) (by decide) (by decide) (by decide) (by decide)

theorem engKept_draws {n : Nat} : EngKept s (State.draws n s).2 :=
  .of_frame (draws_frame Frame.refl Cov.refl : FrameR draws_T s _) (by decide) (by decide) (by decide) (by decide)

theorem engKept_takeGain {c : Nat} : EngKept s (s.takeGain c) := engKept_audio rfl

theorem engKept_gainStep {c : Nat} {v : Int} : EngKept s (s.gainStep c v) := by
  unfold State.gainStep
  extract_lets p a s1
  have h1 : EngKept s s1 := engKept_audio rfl
  split
  · exact h1.trans engKept_takeGain
  · exact h1

theorem engKept_setStrm {k : Nat} {f : Feed} : EngKept s (s.setStrm k f) := by
  unfold State.setStrm
  extract_lets a s1
  have h1 : EngKept s s1 := by
    refine EngKept.trans (b := { s with audio := { s.audio with feeds := mset s.audio.feeds k f {} } }) (engKept_audio rfl) ?_
    refine .of_frame (L := [.fld AUDIO.STRM_STAT.state, .fld AUDIO.STRM_STAT.fill_ms]) ?_ (by decide) (by decide) (by decide) (by decide)
    exact wr_frame (wr_frame Frame.refl (Cov.of_subset (by decide))) (Cov.of_subset (by decide))
  split
  · exact List.foldlRecOn (motive := EngKept s) _ _ h1 fun u hu c _ => hu.trans engKept_takeGain
  · exact h1

theorem engKept_filled {n : Nat} {how : FeedHow} {takes : Bool} {f f' : Feed} (h : State.feedFill n s how takes f = (t, f')) : EngKept s t := by
  have hf : FrameP feedFill_T s (State.feedFill n s how takes f) := feedFill_frame Frame.refl Cov.refl
  rw [h] at hf
  exact .of_frame hf (by decide) (by decide) (by decide) (by decide)

theorem engKept_ended {n : Nat} {f f' : Feed} (h : State.feedEnds n s f = (t, f')) : EngKept s t := by
  have hf : FrameP feedEnds_T s (State.feedEnds n s f) := feedEnds_frame Frame.refl Cov.refl
  rw [h] at hf
  exact .of_frame hf (by decide) (by decide) (by decide) (by decide)

theorem engKept_strmFill {k : Nat} : EngKept s (s.strmFill k) := by
  unfold State.strmFill
  extract_lets f on
  split
  · exact .refl s
  split
  next s1 f1 h1 =>
  split
  next s2 f2 h2 =>
  exact (engKept_filled h1).trans ((engKept_ended h2).trans ((engKept_count (n := 14) (by decide)).trans engKept_setStrm))

theorem engKept_underrun {r d : Nat} : EngKept s (((s.count .audio 0 1).raise .audio 0 10).event r .audio 0 Code.AUD_UNDERRUN d) := by
  refine (engKept_count (n := 1) (m := 1) (by decide)).trans ?_
  refine .of_frame (L := [.fld (HDR.ev_raw .audio), .sent] ++ event_T) ?_ (by decide) (by decide) (by decide) (by decide)
  exact event_frame (raise_frame Frame.refl (Cov.of_subset (by decide))) (Cov.of_subset (by decide))

theorem engKept_strmTick {k : Nat} : EngKept s (s.strmTick k).1 := by
  have hfill : EngKept s (s.strmFill k) := engKept_strmFill
  unfold State.strmTick
  extract_lets u f bypass opened ramp starved
  have hopen : ∀ (t : State) v, EngKept t (opened t v).2 := fun t v => by
    simp only [opened]
    split
    · exact .refl t
    · exact engKept_draws
  have hramp : ∀ (t : State) g n, EngKept t (ramp t g n).1 := fun t g n => by
    simp only [ramp]
    split
    · exact (hopen t _).trans engKept_setStrm
    · dsimp only
      exact (hopen t _).trans engKept_setStrm
  refine hfill.trans ?_
  split
  · exact hramp u _ _
  split
  · split
    split
    next g v ends htake =>
      split
      next t g1 hends =>
      have ht : EngKept u t := engKept_ended hends
      split
      · exact ht.trans (hramp t _ _)
      · split
        next v1 t1 ho =>
        have h1 := hopen t v
        rw [ho] at h1
        dsimp only at h1 ⊢
        exact ht.trans (h1.trans engKept_setStrm)
    · split
      · exact hramp u _ _
      · exact engKept_underrun.trans (hramp _ _ _)
  · exact .refl u

/-! ### Sources, buses and output slots (R413, R415, R416) -/

theorem engKept_mixIn {m : MixAcc} {c bus : Nat} {v : Int} : EngKept m.st (mixIn m c bus v).st := engKept_gainStep

theorem engKept_mixSources {inp : List Int} : EngKept s (s.mixSources inp).st := by
  unfold State.mixSources
  extract_lets m1
  have h1 : EngKept s m1.st := by
    refine List.foldlRecOn (motive := fun m : MixAcc => EngKept s m.st) _ _ (EngKept.refl s) fun m hm k _ => ?_
    refine List.foldlRecOn (motive := fun m : MixAcc => EngKept s m.st) _ _ (hm.trans engKept_strmTick) fun x hx ch _ => ?_
    exact hx.trans engKept_mixIn
  refine List.foldlRecOn (motive := fun m : MixAcc => EngKept s m.st) _ _ h1 fun m hm n _ => ?_
  dsimp only
  split
  · exact hm.trans engKept_mixIn
  split
  · exact hm.trans engKept_mixIn
  · exact hm.trans (engKept_draw.trans engKept_gainStep)

theorem engKept_limStep {slot thr : Nat} {look : List Int} : EngKept s (s.limStep slot thr look).2 := by
  unfold State.limStep
  extract_lets peak L bound r
  split
  · exact .refl s
  · exact engKept_draw.trans (engKept_audio rfl)

/-- What putting a slot's value or its limiter's state keeps of another slot. -/
structure SlotKept (n : Nat) (s t : State) : Prop where
  eng : EngKept s t
  out : mget t.audio.out n 0 = mget s.audio.out n 0

variable {n m : Nat}

theorem SlotKept.refl (s : State) : SlotKept n s s := ⟨.refl s, rfl⟩
theorem SlotKept.trans {a b c : State} (h : SlotKept n a b) (h' : SlotKept n b c) : SlotKept n a c := ⟨h.eng.trans h'.eng, h'.out.trans h.out⟩

theorem slotKept_audio {a : AudioSt} (h : a.active = s.audio.active) (ho : a.out = s.audio.out) : SlotKept n s { s with audio := a } :=
  ⟨engKept_audio h, congrArg (fun m => mget m n 0) ho⟩

theorem slotKept_draw : SlotKept n s s.draw.2 := ⟨engKept_draw, rfl⟩

theorem slotKept_clips {cl : Bool} : SlotKept n s (if cl then s.count .audio 0 3 else s) := by
  split
  · exact ⟨engKept_count (n := 3) (by decide), rfl⟩
  · exact .refl s

theorem slotKept_limStep {slot thr : Nat} {look : List Int} : SlotKept n s (s.limStep slot thr look).2 := by
  unfold State.limStep
  extract_lets peak L bound r
  split
  · exact .refl s
  · exact slotKept_draw.trans (slotKept_audio rfl rfl)

theorem slotKept_slotOut {slot : Nat} {v : Int} : SlotKept n s (s.slotOut slot v).1 := by
  unfold State.slotOut
  extract_lets w old thr look x a s0
  split
  · split
    next r s1 hl =>
    have h1 : SlotKept n s s1 := by
      have h := slotKept_limStep (n := n) (s := s) (slot := slot) (thr := thr) (look := look)
      rwa [hl] at h
    split
    extract_lets b s2
    have h2 : SlotKept n s s2 := h1.trans (slotKept_audio rfl rfl)
    exact h2.trans slotKept_clips
  · have h0 : SlotKept n s s0 := slotKept_audio rfl rfl
    split
    exact h0.trans slotKept_clips

/-- What is put into a slot's place. -/
def putSlot (u : State) (n : Nat) (v : Int) : State := { u with audio := { u.audio with out := mset u.audio.out n v 0 } }

theorem slotKept_putSlot {v : Int} (h : m ≠ n) : SlotKept n s (putSlot s m v) := ⟨engKept_audio rfl, mget_mset_ne h⟩

theorem engKept_putSlot {v : Int} : EngKept s (putSlot s m v) := engKept_audio rfl

/-- An output slot is left, or what is left is put in its place. -/
theorem outSlot_puts {bus : SMap Int} : s.outSlot bus m = s ∨ ∃ u v, (∀ n, SlotKept n s u) ∧ s.outSlot bus m = putSlot u m v := by
  unfold State.outSlot
  extract_lets t w put masked
  split
  · exact .inl rfl
  refine .inr ?_
  split
  · exact ⟨s, 0, fun _ => .refl s, rfl⟩
  split
  next u y hu =>
  have h : ∀ n, SlotKept n s u := fun n => by
    have h := slotKept_slotOut (n := n) (s := s) (slot := m) (v := mget bus (bits w 0 4) 0)
    rwa [hu] at h
  extract_lets a u1
  split
  · exact ⟨u, 0, h, rfl⟩
  have h1 : ∀ n, SlotKept n s u1 := fun n => by
    simp only [u1]
    split
    · exact h n
    · exact (h n).trans (slotKept_audio rfl rfl)
  split
  · exact ⟨u1, _, h1, rfl⟩
  · exact ⟨u1.draw.2, _, fun n => (h1 n).trans slotKept_draw, rfl⟩

theorem engKept_outSlot {bus : SMap Int} : EngKept s (s.outSlot bus m) := by
  rcases outSlot_puts (s := s) (m := m) (bus := bus) with h | ⟨u, v, hu, h⟩
  · rw [h]
    exact .refl s
  · rw [h]
    exact (hu 0).eng.trans engKept_putSlot

theorem slotKept_outSlot {bus : SMap Int} (hne : m ≠ n) : SlotKept n s (s.outSlot bus m) := by
  rcases outSlot_puts (s := s) (m := m) (bus := bus) with h | ⟨u, v, hu, h⟩
  · rw [h]
    exact .refl s
  · rw [h]
    exact (hu n).trans (slotKept_putSlot hne)

/-- A slot of a port that is not enabled, or that is not routed, carries 0. -/
theorem outSlot_quiet {bus : SMap Int} (hslot : s.rd SAFE.ALARM_CFG.slot ≠ n)
    (hoff : s.on AUDIO.PORT_CTRL.enable 0 (n / 8) = false ∨ bit (s.pword (112 + n)) 4 = false) : mget (s.outSlot bus n).audio.out n 0 = 0 := by
  unfold State.outSlot
  extract_lets t w put
  rw [if_neg (fun h => hslot h.symm), if_pos (by rcases hoff with h | h <;> simp [t, w, h])]
  exact mget_mset_same

/-! ### The tick (R415, R416) -/

theorem engKept_alarmFrame : EngKept s s.alarmFrame :=
  .of_frame (alarmFrame_frame Frame.refl Cov.refl : Frame alarmFrame_T s _) (by decide) (by decide) (by decide) (by decide)

/-- The state, buses and saturations after the buses have taken their gains. -/
def busStep (m : MixAcc) : State × SMap Int × Nat → Nat → State × SMap Int × Nat := fun (t, bus, n) b =>
  let a := mget m.acc b 0
  let t1 := t.gainStep (192 + b) a
  let (v, sat) := satTo 40 (gainMul a (t1.gainOf (192 + b)))
  (t1, mset bus b v 0, n + if sat then 1 else 0)

/-- What the tick's slots are put from. -/
def tickBuses (s : State) (inp : List Int) : State × SMap Int × Nat :=
  (List.range 16).foldl (busStep (s.mixSources inp)) ((s.mixSources inp).st, [], (s.mixSources inp).sats)

/-- The slots of a tick, put from the buses. -/
def tickSlots (s : State) (inp : List Int) : State :=
  (List.range 32).foldl (fun t n => t.outSlot (tickBuses s inp).2.1 n) (tickBuses s inp).1

/-- What ends a tick: no port is skipped any more, saturations are told, amplifiers follow, and the tick is counted. -/
def tickEnds (s : State) (sats : Nat) : State :=
  let s3 := { s with audio := { s.audio with zero := 0 } }
  let s4 := if sats = 0 then s3 else (s3.count .audio 0 2 sats).raise .audio 0 14
  let s5 := (List.range 4).foldl (fun t p => t.ampSync p) s4
  (s5.count .audio 0 0).safeloadShow

variable {inp : List Int}

theorem audioTick_eq : s.audioTick inp = if !s.alarmFrame.on AUDIO.ENG_STAT.running then s.alarmFrame else
    match tickBuses s.alarmFrame inp with
    | (s1, bus, sats) => tickEnds ((List.range 32).foldl (fun t n => t.outSlot bus n) s1) sats := by
  unfold State.audioTick tickBuses
  extract_lets u m
  have hm : m = u.mixSources inp := rfl
  rw [← hm]
  clear_value m
  unfold busStep
  rfl

theorem audioTick_running (h : s.on AUDIO.ENG_STAT.running = true) :
    s.audioTick inp = tickEnds (tickSlots s.alarmFrame inp) (tickBuses s.alarmFrame inp).2.2 := by
  have hon : s.alarmFrame.on AUDIO.ENG_STAT.running = true := (on_clear engKept_alarmFrame.frame (by decide)).trans h
  rw [audioTick_eq, hon, if_neg (by decide)]
  unfold tickSlots
  generalize tickBuses s.alarmFrame inp = x
  rfl

theorem audioTick_idle (h : s.on AUDIO.ENG_STAT.running = false) : s.audioTick inp = s.alarmFrame := by
  have hon : s.alarmFrame.on AUDIO.ENG_STAT.running = false := (on_clear engKept_alarmFrame.frame (by decide)).trans h
  rw [audioTick_eq, hon, if_pos (by decide)]

theorem engKept_tickBuses : EngKept s (tickBuses s inp).1 := by
  unfold tickBuses
  exact List.foldlRecOn (motive := fun x : State × SMap Int × Nat => EngKept s x.1) _ _ engKept_mixSources fun x hx b _ =>
    hx.trans engKept_gainStep

theorem engKept_tickSlots : EngKept s (tickSlots s inp) := by
  unfold tickSlots
  exact List.foldlRecOn (motive := EngKept s) _ _ engKept_tickBuses fun u hu n _ => hu.trans engKept_outSlot

theorem tickSlots_quiet (hn : n < 32) (hslot : s.rd SAFE.ALARM_CFG.slot ≠ n)
    (hoff : s.on AUDIO.PORT_CTRL.enable 0 (n / 8) = false ∨ bit (s.pword (112 + n)) 4 = false) : mget (tickSlots s inp).audio.out n 0 = 0 := by
  obtain ⟨u, hu, ht⟩ := foldl_focus (SlotKept n) SlotKept.refl SlotKept.trans (step := fun t m => t.outSlot (tickBuses s inp).2.1 m)
    (a := (tickBuses s inp).1) (fun t k _ hne => slotKept_outSlot hne) List.nodup_range (List.mem_range.mpr hn)
  have h : EngKept s u := engKept_tickBuses.trans hu.eng
  unfold tickSlots
  refine ht.out.trans (outSlot_quiet ?_ ?_)
  · rw [rd_clear h.frame (by decide)]
    exact hslot
  · refine hoff.imp (fun he => (on_clear h.frame (by decide)).trans he) fun hb => ?_
    unfold State.pword at hb ⊢
    rwa [h.active]

theorem safeloadShow_changes : Frame safeloadShow_T s s.safeloadShow := safeloadShow_frame Frame.refl Cov.refl

theorem tickEnds_shown {sats : Nat} : (tickEnds s sats).counter .audio 0 0 = (s.counter .audio 0 0 + 1) % 2 ^ 64 ∧
    (tickEnds s sats).audio = { s.audio with zero := 0 } := by
  unfold tickEnds
  extract_lets a s3 s4 s5
  have h4 : s4.counter .audio 0 0 = s.counter .audio 0 0 ∧ s4.audio = { s.audio with zero := 0 } := by
    simp only [s4]
    split
    · exact ⟨rfl, rfl⟩
    · exact ⟨counter_raise.trans (counter_count_ne (s := s3) (by unfold ctrKey; omega)), raise_audio ..⟩
  have h5 : s5.counter .audio 0 0 = s4.counter .audio 0 0 ∧ s5.audio = s4.audio := by
    have hamp {u : State} {p : Nat} : Frame ampSync_T u (u.ampSync p) := ampSync_frame Frame.refl Cov.refl
    exact ⟨foldl_same (fun u : State => u.counter .audio 0 0) fun u p => hamp.ctr .audio 0 0 (by decide) (by decide),
      foldl_same (fun u : State => u.audio) fun u p => hamp.audio (by decide)⟩
  refine ⟨(safeloadShow_changes.ctr .audio 0 0 (by decide) (by decide)).trans ?_, ?_⟩
  · rw [counter_count_same, h5.1, h4.1]
  · rw [safeloadShow_changes.audio (by decide), count_audio, h5.2, h4.2]

/-! ### Safe-loads (R417, R418) -/

theorem gainOf_congr {c : Nat} (h : t.audio = s.audio) : t.gainOf c = s.gainOf c := by
  unfold State.gainOf
  rw [h]

theorem pword_congr {k : Nat} (h : t.audio.active = s.audio.active) : t.pword k = s.pword k := by
  unfold State.pword
  rw [h]

theorem gainOf_takeGain {c : Nat} : (s.takeGain c).gainOf c = wordGain (chanWord c) (s.pword (chanWord c)) := mget_mset_same
theorem gainOf_takeGain_ne {c d : Nat} (h : d ≠ c) : (s.takeGain d).gainOf c = s.gainOf c := mget_mset_ne h

/-- A safe-load that is pending shows whether channels still wait. -/
theorem safeloadShow_pending (h : s.rd AUDIO.SAFELOAD.pending = 1) : s.safeloadShow.on AUDIO.SAFELOAD.pending = !s.audio.waits.isEmpty := by
  unfold State.safeloadShow
  extract_lets s1
  have hp : s1.rd AUDIO.SAFELOAD.pending = 1 := (rd_wr_sep (by decide)).trans h
  have hon : s1.on AUDIO.SAFELOAD.pending = true := on_eq_true_iff.mpr (by rw [hp]; decide)
  have hw : s1.audio.waits = s.audio.waits := congrArg AudioSt.waits (wr_audio ..)
  rw [hon, Bool.true_and, hw]
  split
  next he =>
    rw [he]
    exact on_eq_false_iff.mpr ((raise_rd_sep (by decide)).trans rd_wr_same)
  next he => rw [hon, eq_false_of_ne_true he]; rfl

/-- A set that is swapped, with the channels that take their gains at once. -/
def loadSwapped (s : State) (now : List Nat) : State :=
  now.foldl (fun t c => t.takeGain c) { s with audio := { s.audio with active := s.audio.staging } }

theorem loadSwapped_active {now : List Nat} : (loadSwapped s now).audio.active = s.audio.staging :=
  foldl_same (fun t : State => t.audio.active) fun _ _ => rfl

theorem loadSwapped_gain {now : List Nat} {c : Nat} (h : c ∉ now) : (loadSwapped s now).gainOf c = s.gainOf c := by
  refine (foldl_same_of_mem (fun t : State => t.gainOf c) fun t d hd => gainOf_takeGain_ne fun e => h (e ▸ hd)).trans ?_
  rfl

/-- A safe-load, once the channels that need not wait have their gains. -/
def loadDone (s : State) (later : List Nat) : State :=
  ((({ s with audio := { s.audio with waits := later, loadAt := s.now } }).wr AUDIO.SAFELOAD.pending 1).count .audio 0 12).safeloadShow

theorem loadDone_shown {later : List Nat} : (loadDone s later).audio.active = s.audio.active ∧ (loadDone s later).audio.waits = later ∧
    (∀ c, (loadDone s later).gainOf c = s.gainOf c) ∧ (loadDone s later).counter .audio 0 12 = (s.counter .audio 0 12 + 1) % 2 ^ 64 ∧
    (loadDone s later).on AUDIO.SAFELOAD.pending = !later.isEmpty := by
  have ha : (loadDone s later).audio = { s.audio with waits := later, loadAt := s.now } :=
    (safeloadShow_changes.audio (by decide)).trans ((count_audio ..).trans (wr_audio ..))
  have hpend : ((({ s with audio := { s.audio with waits := later, loadAt := s.now } } : State).wr AUDIO.SAFELOAD.pending 1).count .audio 0 12).rd
      AUDIO.SAFELOAD.pending = 1 := (rd_count ..).trans rd_wr_same
  refine ⟨by rw [ha], by rw [ha], fun c => ?_, ?_, (safeloadShow_pending hpend).trans ?_⟩
  · unfold State.gainOf
    rw [ha]
  · refine (safeloadShow_changes.ctr .audio 0 12 (by decide) (by decide)).trans (counter_count_same.trans ?_)
    rw [counter_wr, counter_mk]
  · rw [count_audio, wr_audio]

/-- The channels whose gain the staged set changes. -/
def changedChans (s : State) : List Nat :=
  let s1 := { s with audio := { s.audio with active := s.audio.staging } }
  (List.range 208).filter (fun c => s1.gainOf c != wordGain (chanWord c) (s1.pword (chanWord c)))

/-- Of them, the channels that take it at once. -/
def nowChans (s : State) : List Nat :=
  let s1 := { s with audio := { s.audio with active := s.audio.staging } }
  if s.on (HDR.enable .audio) then (changedChans s).filter s1.chanIdle else changedChans s

theorem safeload_eq : s.safeload = loadDone (loadSwapped s (nowChans s)) ((changedChans s).filter (fun c => !(nowChans s).contains c)) := rfl

theorem safeload_shown : s.safeload.audio.active = s.audio.staging ∧ s.safeload.counter .audio 0 12 = (s.counter .audio 0 12 + 1) % 2 ^ 64 ∧
    (s.safeload.audio.waits.all fun c => s.safeload.gainOf c != wordGain (chanWord c) (s.safeload.pword (chanWord c))) = true ∧
    s.safeload.on AUDIO.SAFELOAD.pending = !s.safeload.audio.waits.isEmpty := by
  rw [safeload_eq]
  generalize hl : (changedChans s).filter (fun c => !(nowChans s).contains c) = later
  obtain ⟨hact, hwaits, hgain, hctr, hpend⟩ := loadDone_shown (s := loadSwapped s (nowChans s)) (later := later)
  have hstaged := hact.trans (loadSwapped_active (s := s) (now := nowChans s))
  refine ⟨hstaged, hctr.trans ?_, ?_, by rw [hpend, hwaits]⟩
  · have h : (loadSwapped s (nowChans s)).counter .audio 0 12 = s.counter .audio 0 12 :=
      (foldl_same (fun t : State => t.counter .audio 0 12) (step := fun t c => t.takeGain c) fun _ _ => rfl).trans rfl
    rw [h]
  · rw [hwaits, ← hl]
    refine List.all_eq_true.mpr fun c hc => ?_
    obtain ⟨hch, hnow⟩ := List.mem_filter.mp hc
    have hnot : c ∉ nowChans s := by simpa using hnow
    have h := (List.mem_filter.mp hch).2
    rw [hl, hgain, loadSwapped_gain hnot, pword_congr (t := loadDone _ _) (s := { s with audio := { s.audio with active := s.audio.staging } }) hstaged]
    exact h

theorem safeloadGo_free {w : Who} (hacc : accepts s w .audio 0 0x10C 1 = true) (hp : s.on AUDIO.SAFELOAD.pending = false) :
    s.safeloadGo w 1 = s.okResp.safeload := by
  unfold State.safeloadGo
  rw [onWrite_accepted hacc (by decide), if_neg (by decide), show s.okResp.on AUDIO.SAFELOAD.pending = s.on AUDIO.SAFELOAD.pending from rfl, hp]
  rfl

theorem safeloadGo_busy {w : Who} (hacc : accepts s w .audio 0 0x10C 1 = true) (hp : s.on AUDIO.SAFELOAD.pending = true) :
    s.safeloadGo w 1 = s.okResp.refuse .audio 0 Code.AUD_SAFELOAD_BUSY w.rid 0x10C := by
  unfold State.safeloadGo
  rw [onWrite_accepted hacc (by decide), if_neg (by decide), show s.okResp.on AUDIO.SAFELOAD.pending = s.on AUDIO.SAFELOAD.pending from rfl, hp]
  rfl

theorem gainTimeout_shown {c : Nat} : (((s.takeGain c).count .audio 0 13).safeloadShow).gainOf c = wordGain (chanWord c) (s.pword (chanWord c)) ∧
    (((s.takeGain c).count .audio 0 13).safeloadShow).audio.waits = s.audio.waits.filter (fun x => x != c) ∧
    (((s.takeGain c).count .audio 0 13).safeloadShow).counter .audio 0 13 = (s.counter .audio 0 13 + 1) % 2 ^ 64 := by
  have ha : (((s.takeGain c).count .audio 0 13).safeloadShow).audio = (s.takeGain c).audio := safeloadShow_changes.audio (by decide)
  refine ⟨(gainOf_congr ha).trans gainOf_takeGain, by rw [ha]; rfl, ?_⟩
  exact (safeloadShow_changes.ctr .audio 0 13 (by decide) (by decide)).trans counter_count_same

/-! ### Words of the parameter set (R414) -/

theorem rd_psetNext : s.psetNext.rd AUDIO.PSET_INDEX.index = (s.rd AUDIO.PSET_INDEX.index + 1) % 256 := rd_wr_same
theorem audio_psetNext : s.psetNext.audio = s.audio := wr_audio ..

theorem psetAccess_write {w : Who} {v : Nat} (hacc : accepts s w .audio 0 0x118 v = true) (hk : s.rd AUDIO.PSET_INDEX.index < 144)
    (ha : s.on AUDIO.PSET_INDEX.active = false) : s.psetAccess w (some v) = ({ s.okResp with audio := { s.audio with
      staging := mset s.audio.staging (s.rd AUDIO.PSET_INDEX.index) (v % 2 ^ 32) (psetImage (s.rd AUDIO.PSET_INDEX.index)) } }).psetNext := by
  unfold State.psetAccess
  dsimp only
  rw [onWrite_accepted hacc (by decide), if_neg (by omega), show s.okResp.on AUDIO.PSET_INDEX.active = s.on AUDIO.PSET_INDEX.active from rfl, ha]
  rfl

theorem psetAccess_read {w : Who} (hr : readable s w .audio 0 0x118 = true) (hk : s.rd AUDIO.PSET_INDEX.index < 144) :
    s.psetAccess w none = s.psetNext.okResp (if s.on AUDIO.PSET_INDEX.active then s.pword (s.rd AUDIO.PSET_INDEX.index)
      else mget s.audio.staging (s.rd AUDIO.PSET_INDEX.index) (psetImage (s.rd AUDIO.PSET_INDEX.index))) := by
  unfold State.psetAccess
  dsimp only
  rw [reach_of_readable hr]
  dsimp only
  rw [if_neg (by omega)]

/-! ### Stream enables (R411) -/

theorem strmCfg_noRing {w : Who} {v : Nat} (hacc : accepts s w .audio 0 0x124 v = true) (hb : bit v 18 = true)
    (hen : (s.ring (bits v 0 18)).enable = false) : s.strmCfg w v = s.okResp.refuse .audio 0 Code.RING_BAD_CTX w.rid 0x124 := by
  unfold State.strmCfg
  dsimp only
  rw [onWrite_accepted hacc (by decide)]
  exact if_pos (by simp [show s.okResp.ring = s.ring from rfl, hb, hen])

theorem strmCfg_taken {w : Who} {v : Nat} (hacc : accepts s w .audio 0 0x124 v = true)
    (hen : (s.ring (bits v 0 18)).enable = true) (hty : (s.ring (bits v 0 18)).type = 5) (hi : ringInst (bits v 0 18) = 0) :
    s.strmCfg w v = s.okResp.storeWord .audio 0 0x124 v := by
  unfold State.strmCfg
  dsimp only
  rw [onWrite_accepted hacc (by decide), if_neg (by simp [show s.okResp.ring = s.ring from rfl, hen, hty])]
  exact if_neg (by simp [hi])

theorem strmStore_field {f : Fld} {v : Nat} (hrow : f ∈ pageRows .audio 0) (hat : f.at 0x124 = some (0, false))
    (hone : partsApart (partsAt .audio 0 0x124)) (hacc : f.acc = .rw) (hd : place (HDR.dirty .audio) 0 ≠ place f 0) (hlen : f.lo + f.len ≤ 32) :
    (s.okResp.storeWord .audio 0 0x124 v).rd f (b := s.rd AUDIO.STRM_SEL.stream) = (v >>> f.lo) % 2 ^ f.len :=
  storeWord_field (b := .audio) (i := 0) (s := s.okResp) hrow hat hone hacc hd hlen

end

/-- Settles O47: the parts of a tick keep the active set and the count of ticks, an output slot is put last by its own step, and a safe-load leaves
the gains of the channels that wait. -/
theorem audioEngine : Obligations.AudioEngine := by
  unfold Obligations.AudioEngine
  refine ⟨?_, ?_, fun s inp h => congrArg Host.Outcome.next (audioTick_idle h), ?_, fun s w hacc hp => congrArg Host.Outcome.next (safeloadGo_busy hacc hp),
    ?_, ?_, ?_, ?_, ?_, ?_⟩
  · intro s inp hon
    obtain ⟨hctr, haudio⟩ := tickEnds_shown (s := tickSlots s.alarmFrame inp) (sats := (tickBuses s.alarmFrame inp).2.2)
    have hticks : (tickSlots s.alarmFrame inp).counter .audio 0 0 = s.counter .audio 0 0 := engKept_tickSlots.ticks.trans engKept_alarmFrame.ticks
    exact ⟨_, congrArg Host.Outcome.next (audioTick_running hon), hctr.trans (by rw [hticks]), by rw [haudio]⟩
  · intro s inp n ⟨hon, hslot⟩ hoff
    obtain ⟨-, haudio⟩ := tickEnds_shown (s := tickSlots s.alarmFrame inp) (sats := (tickBuses s.alarmFrame inp).2.2)
    have hframe : EngKept s s.alarmFrame := engKept_alarmFrame
    refine ⟨_, congrArg Host.Outcome.next (audioTick_running hon), ?_⟩
    rw [haudio]
    have hslot' : s.alarmFrame.rd SAFE.ALARM_CFG.slot ≠ n.val := by
      rw [rd_clear hframe.frame (by decide)]
      exact hslot
    have hoff' : s.alarmFrame.on AUDIO.PORT_CTRL.enable 0 (n.val / 8) = false ∨ bit (s.alarmFrame.pword (112 + n.val)) 4 = false :=
      hoff.imp (fun h => (on_clear hframe.frame (by decide)).trans h) fun h => by rw [pword_congr hframe.active]; exact h
    dsimp only
    exact tickSlots_quiet (inp := inp) n.isLt hslot' hoff'
  · intro s w hacc hp
    obtain ⟨hact, hctr, hgain, hpend⟩ := safeload_shown (s := s.okResp)
    exact ⟨_, congrArg Host.Outcome.next (safeloadGo_free hacc hp), hact, hctr, hgain, hpend⟩
  · intro s c hc hpast
    exact ⟨_, congrArg Host.Outcome.next (if_pos ⟨by simpa using hc, hpast⟩), gainTimeout_shown⟩
  · intro s c hc
    exact congrArg Host.Outcome.next (if_neg fun h => hc (by simpa using h.1))
  · intro s w v k hacc ⟨hk, hlt, ha⟩
    subst hk
    refine ⟨_, congrArg Host.Outcome.next (psetAccess_write hacc hlt ha), ?_, rd_psetNext, ?_⟩
    · rw [audio_psetNext]
      exact mget_mset_same.trans (Nat.mod_eq_of_lt v.isLt)
    · rw [audio_psetNext]
  · intro s w k hr ⟨hk, hlt⟩
    subst hk
    exact ⟨_, congrArg Host.Outcome.next (psetAccess_read hr hlt), rfl, rfl, rd_psetNext⟩
  · intro s w v r hacc ⟨hr, hen⟩
    subst hr
    rw [← bits_setBit_above (n := 18) (by decide)] at hen
    exact congrArg Host.Outcome.next (strmCfg_noRing hacc bit_setBit hen)
  · intro s w v r k hacc ⟨hr, hk, hen, hty, hi⟩
    subst hr hk
    rw [← bits_setBit_above (n := 18) (by decide)] at hen hty hi
    refine ⟨_, congrArg Host.Outcome.next (strmCfg_taken hacc hen hty hi), ?_, ?_⟩
    · exact (strmStore_field (f := AUDIO.STRM_CFG.enable) (by decide) rfl (by decide) rfl (by decide) (by decide)).trans bits_one_setBit
    · exact (strmStore_field (f := AUDIO.STRM_CFG.ring) (by decide) rfl (by decide) rfl (by decide) (by decide)).trans
        (bits_setBit_above (by decide))

end Sys2Proof.Proofs

/-! Enabling a head, the lock of its PLL, and its disabling (R276, R281, R284, R285). -/

namespace Sys2Proof.Proofs

open Machine Laws

section

variable {s : State} {h : Nat}

/-! ### A staged set that applies -/

/-- A set that becomes active leaves the page's fields without a shadow, but for those that show it. -/
theorem applySet_rd {b : Blk} {i j n : Nat} {f : Fld} (hf : f.acc ≠ .rws) (hc : (commitDone_T b).all (clear f) = true) :
    (s.applySet b h).rd f i j n = s.rd f i j n := by
  unfold State.applySet
  rw [rd_clear (commitDone_frame Frame.refl Cov.refl) hc]
  unfold State.applyPart
  exact rd_with_act hf

/-- What the application of a head's set may change apart from the values that were staged. -/
def applyHead_shows : List Piece := commitDone_T .head ++ glChange_T ++ [.ctr .head] ++ grpLeave_T

/-- A head's set that applies leaves the fields without a shadow, but for those that show it. -/
theorem applyHead_rd {i j n : Nat} {f : Fld} (hf : f.acc ≠ .rws) (hc : applyHead_shows.all (clear f) = true) :
    (s.applyHead h).rd f i j n = s.rd f i j n := by
  have leave : ∀ t : State, (t.grpLeave h).rd f i j n = t.rd f i j n := fun t =>
    rd_clear (grpLeave_frame Frame.refl Cov.refl) (all_clear_of_subset hc (by decide))
  have change : ∀ (t : State) (old : Nat × Nat × Nat × Nat), (t.glChange h old).rd f i j n = t.rd f i j n := fun t old =>
    rd_clear (glChange_frame Frame.refl Cov.refl) (all_clear_of_subset hc (by decide))
  have applied : ∀ old, ((s.applySet .head h).glChange h old).rd f i j n = s.rd f i j n := fun old =>
    (change _ old).trans (applySet_rd hf (all_clear_of_subset hc (by decide)))
  unfold State.applyHead
  split
  · exact leave s
  · dsimp only
    rw [leave]
    split
    · rw [rd_count, rd_count, applied]
    · rw [rd_count, applied]

/-! ### A head stops -/

/-- The page of a head and that of the clocks show that its PLL has stopped. -/
theorem pllStop_enabled : (s.pllStop h).rd CLK.PLL_STAT.enabled 0 h = 0 := by
  unfold State.pllStop
  rw [rd_wr_sep rfl, rd_wr_same]
  rfl

/-- A head that starts stops at once. -/
theorem headDisable_starting {v : Nat} (hst : s.rd HEAD.HEAD_STAT.state h = 1) :
    s.headDisable h v = (((s.wr (HDR.enable .head) v h).wr HEAD.HEAD_STAT.state 0 h).pllStop h).applyHead h := by
  unfold State.headDisable
  exact if_pos ((rd_wr_sep rfl).trans hst)

/-- Any other head shows the write alone. -/
theorem headDisable_other {v : Nat} (hst : s.rd HEAD.HEAD_STAT.state h ≠ 1) : s.headDisable h v = s.wr (HDR.enable .head) v h := by
  unfold State.headDisable
  exact if_neg fun e => hst ((rd_wr_sep rfl).symm.trans e)

theorem headDisable_stops (hst : s.rd HEAD.HEAD_STAT.state h = 1) :
    (s.headDisable h 0).rd (HDR.enable .head) h = 0 ∧ (s.headDisable h 0).rd HEAD.HEAD_STAT.state h = 0 ∧
      (s.headDisable h 0).rd CLK.PLL_STAT.enabled 0 h = 0 := by
  rw [headDisable_starting hst]
  refine ⟨?_, ?_, ?_⟩
  · rw [applyHead_rd (by decide) (by decide), rd_clear (pllStop_frame Frame.refl Cov.refl) (by decide), rd_wr_sep rfl, rd_wr_same]
    rfl
  · rw [applyHead_rd (by decide) (by decide), rd_clear (pllStop_frame Frame.refl Cov.refl) (by decide), rd_wr_same]
    rfl
  · rw [applyHead_rd (by decide) (by decide), pllStop_enabled]

/-! ### A head starts -/

/-- A head that is about to start has its area and is not held on its safe state. -/
def headReady (s : State) (h : Nat) : State :=
  (s.setHead h { s.head h with area := s.compArea h }).setShead h { s.shead h with pinned := false }

theorem not_running (hst : s.rd HEAD.HEAD_STAT.state h ≠ 2) : ¬ s.running h = true := fun e => hst (beq_iff_eq.1 e)

/-- A head that passes every check of its enabling starts. -/
theorem headEnable_passes {w : Who} {v : Nat} (hoff : s.on (HDR.enable .head) h = false ∧ s.rd HEAD.HEAD_STAT.state h ≠ 2)
    (hpass : timingBad (s.hv h) h = none ∧ s.need h ≤ s.rd BASIN.GRAN.count 0 h) (hglint : s.glintOn h = false) :
    s.headEnable w h v = (((((headReady s h).wr (HDR.enable .head) v h).wr HEAD.HEAD_STAT.state 1 h).wr HEAD.HEAD_STAT.pll_lock 0 h).wr
      CLK.PLL_STAT.enabled 1 0 h).postOnEnable h := by
  unfold State.headEnable
  rw [if_neg (by rw [hoff.1]; decide), if_neg (not_running hoff.2), if_neg (fun e => e hpass.1), if_neg (Nat.not_lt.2 hpass.2),
    if_neg (by rw [hglint]; simp)]
  rfl

theorem headEnable_starts {w : Who} (hoff : s.on (HDR.enable .head) h = false ∧ s.rd HEAD.HEAD_STAT.state h ≠ 2)
    (hpass : timingBad (s.hv h) h = none ∧ s.need h ≤ s.rd BASIN.GRAN.count 0 h) (hglint : s.glintOn h = false) :
    (s.headEnable w h 1).rd (HDR.enable .head) h = 1 ∧ (s.headEnable w h 1).rd HEAD.HEAD_STAT.state h = 1 ∧
      (s.headEnable w h 1).rd HEAD.HEAD_STAT.pll_lock h = 0 ∧ (s.headEnable w h 1).rd CLK.PLL_STAT.enabled 0 h = 1 ∧
      ((s.headEnable w h 1).shead h).pinned = false := by
  have hpin : ((headReady s h).shead h).pinned = false := congrArg SafeHead.pinned mget_mset_same
  have hframe : ∀ u : State, Frame postOnEnable_T u (u.postOnEnable h) := fun u => postOnEnable_frame Frame.refl Cov.refl
  rw [headEnable_passes hoff hpass hglint]
  generalize headReady s h = s1 at hpin
  refine ⟨?_, ?_, ?_, ?_, ?_⟩
  · rw [rd_clear (hframe _) (by decide), rd_wr_sep rfl, rd_wr_sep rfl, rd_wr_sep rfl, rd_wr_same]
    rfl
  · rw [rd_clear (hframe _) (by decide), rd_wr_sep rfl, rd_wr_sep rfl, rd_wr_same]
    rfl
  · rw [rd_clear (hframe _) (by decide), rd_wr_sep rfl, rd_wr_same]
    rfl
  · rw [rd_clear (hframe _) (by decide), rd_wr_same]
    rfl
  · unfold State.shead at hpin ⊢
    rw [(hframe _).safe (by decide), wr_safe, wr_safe, wr_safe, wr_safe]
    exact hpin

/-- A timing that breaks R281 is refused. -/
theorem headEnable_timing {w : Who} {v : Nat} (hoff : s.on (HDR.enable .head) h = false ∧ s.rd HEAD.HEAD_STAT.state h ≠ 2)
    (htim : timingBad (s.hv h) h ≠ none) : s.headEnable w h v = s.refuse .head h Code.HEAD_TIMING w.rid 0x008 := by
  unfold State.headEnable
  rw [if_neg (by rw [hoff.1]; decide), if_neg (not_running hoff.2), if_pos htim]

/-- Too few granules are refused. -/
theorem headEnable_granules {w : Who} {v : Nat} (hoff : s.on (HDR.enable .head) h = false ∧ s.rd HEAD.HEAD_STAT.state h ≠ 2)
    (htim : timingBad (s.hv h) h = none) (hgran : s.rd BASIN.GRAN.count 0 h < s.need h) :
    s.headEnable w h v = s.refuse .head h Code.BASIN_GRANULE w.rid 0x008 := by
  unfold State.headEnable
  rw [if_neg (by rw [hoff.1]; decide), if_neg (not_running hoff.2), if_neg (fun e => e htim), if_pos hgran]

/-- PG_CTRL with enable alone. -/
theorem headCtrl_enable {w : Who} (hacc : accepts s w .head h 0x008 1 = true) : s.headCtrl w h 1 = s.okResp.headEnable w h 1 := by
  unfold State.headCtrl
  rw [onWrite_accepted hacc (by decide), if_neg (by decide), if_pos (by decide)]

/-- PG_CTRL with neither bit. -/
theorem headCtrl_disable {w : Who} (hacc : accepts s w .head h 0x008 0 = true) : s.headCtrl w h 0 = s.okResp.headDisable h 0 := by
  unfold State.headCtrl
  rw [onWrite_accepted hacc (by decide), if_neg (by decide), if_neg (by decide)]

end

/-- Settles O32: PG_CTRL starts a head whose checks pass and refuses it otherwise; the PLL's lock makes it run, and a disable stops it. -/
theorem headEnabling : Obligations.HeadEnabling := by
  unfold Obligations.HeadEnabling
  refine ⟨?starts, ?timing, ?granules, ?lock, ?idle, ?retry, ?stops, ?waits⟩
  case starts =>
    intro s w h hacc hoff hpass hglint
    refine ⟨_, congrArg Host.Outcome.next (headCtrl_enable hacc), ?_⟩
    exact headEnable_starts (s := s.okResp) hoff hpass hglint
  case timing =>
    intro s w h hacc hoff htim
    refine congrArg Host.Outcome.next ((headCtrl_enable hacc).trans ?_)
    exact headEnable_timing (s := s.okResp) hoff htim
  case granules =>
    intro s w h hacc hoff ⟨htim, hgran⟩
    refine congrArg Host.Outcome.next ((headCtrl_enable hacc).trans ?_)
    exact headEnable_granules (s := s.okResp) hoff htim hgran
  case lock =>
    intro s h ⟨hst, hosc⟩
    refine ⟨_, congrArg Host.Outcome.next (if_neg (by rw [hst, hosc]; decide)), ?_, ?_, ?_⟩
    · rw [rd_wr_sep rfl, rd_wr_sep rfl, rd_wr_sep rfl, rd_wr_same]
      rfl
    · rw [rd_wr_sep rfl, rd_wr_sep rfl, rd_wr_sep rfl, rd_wr_sep rfl, rd_wr_same]
      rfl
    · rw [rd_wr_sep rfl, rd_wr_sep rfl, rd_wr_same]
      rfl
  case idle =>
    exact fun s h hst => ⟨congrArg Host.Outcome.next (if_pos (.inl hst)), congrArg Host.Outcome.next (if_pos hst)⟩
  case retry =>
    exact fun s h hst => congrArg Host.Outcome.next (if_neg fun e => e hst)
  case stops =>
    intro s w h hacc hst
    refine ⟨_, congrArg Host.Outcome.next (headCtrl_disable hacc), ?_⟩
    exact headDisable_stops (s := s.okResp) hst
  case waits =>
    intro s w h hacc hst
    refine congrArg Host.Outcome.next ((headCtrl_disable hacc).trans ?_)
    exact headDisable_other (s := s.okResp) hst

end Sys2Proof.Proofs

/-! Basin: its bytes, the granules of the heads, and errors of its words (R273 to R278, R447, R448). -/

namespace Sys2Proof.Proofs

open Machine Laws

/-! ### Bytes of Basin -/

section Bytes

variable {s : State} {a n : Nat} {d : List Byte}

/-- A write of bytes leaves those before and beyond them. -/
theorem mget_basinWrite_out {x : Nat} (h : x < a ∨ a + d.length ≤ x) : mget (s.basinWrite a d).basin x 0 = mget s.basin x 0 := by
  induction d generalizing s a with
  | nil => rfl
  | cons v d ih =>
    rw [List.length_cons] at h
    rw [State.basinWrite, ih (by omega)]
    exact mget_mset_ne (by omega)

/-- Byte k of those written is found where it was put. -/
theorem mget_basinWrite_in {k : Nat} (h : k < d.length) : mget (s.basinWrite a d).basin (a + k) 0 = d[k] := by
  induction d generalizing s a k with
  | nil => exact absurd h (Nat.not_lt_zero _)
  | cons v d ih =>
    rw [State.basinWrite]
    cases k with
    | zero => exact (mget_basinWrite_out (.inl (Nat.lt_succ_self a))).trans mget_mset_same
    | succ k =>
      rw [← Nat.add_assoc, Nat.add_right_comm, ih (Nat.lt_of_succ_lt_succ h), List.getElem_cons_succ]

/-- Bytes written are found there. -/
theorem basinWrite_same : (List.range d.length).map (fun k => mget (s.basinWrite a d).basin (a + k) 0) = d := by
  refine List.ext_getElem (by simp) fun k h1 h2 => ?_
  simp only [List.getElem_map, List.getElem_range]
  exact mget_basinWrite_in h2

theorem basinRead_congr {t : State} (h : t.basin = s.basin) : t.basinRead a n = s.basinRead a n := by
  unfold State.basinRead
  rw [h]

end Bytes

section

variable {s : State}

/-! ### Granules (R275, R447) -/

/-- A range that is taken is the head's. -/
theorem granStore {h : Fin 8} {v : Nat} : (s.storeWord .basin 0 (0x100 + 4 * h.val) v).rd BASIN.GRAN.base 0 h.val = bits v 0 8 ∧
    (s.storeWord .basin 0 (0x100 + 4 * h.val) v).rd BASIN.GRAN.count 0 h.val = bits v 8 9 := by
  have hone : partsApart (partsAt .basin 0 (0x100 + 4 * h.val)) := by revert h; decide
  exact ⟨storeWord_field (f := BASIN.GRAN.base) (by decide) (by revert h; decide) hone rfl (by revert h; decide) (by decide),
    storeWord_field (f := BASIN.GRAN.count) (by decide) (by revert h; decide) hone rfl (by revert h; decide) (by decide)⟩

/-- A write of GRAN_h of a sender that no enabled head concerns. -/
theorem granWrite_plain {w : Who} {h v : Nat} (hacc : accepts s w .basin 0 (0x100 + 4 * h) v = true)
    (hw : w ≠ .boot ∨ s.on (HDR.enable .head) h = false) :
    s.granWrite w h v = if s.granBad h (bits v 0 8) (bits v 8 9) true then s.okResp.refuse .basin 0 Code.BASIN_GRANULE w.rid (0x100 + 4 * h)
      else s.okResp.storeWord .basin 0 (0x100 + 4 * h) v := by
  have hno : ¬ (w = .boot ∧ s.okResp.on (HDR.enable .head) h = true) := by
    rintro ⟨hb, hon⟩
    exact hw.elim (fun e => e hb) fun e => Bool.false_ne_true (e.symm.trans hon)
  unfold State.granWrite
  dsimp only
  rw [onWrite_accepted hacc (by decide), if_neg hno]
  rfl

/-- A boot record that leaves an enabled head less than it needs holds that head on its safe state. -/
theorem granWrite_pins {h v : Nat} (hacc : accepts s .boot .basin 0 (0x100 + 4 * h) v = true) (hon : s.on (HDR.enable .head) h = true)
    (hless : bits v 8 9 < granNeed (s.head h).area) :
    s.granWrite .boot h v = (s.okResp.pinSafe h).refuse .basin 0 Code.BASIN_GRANULE (Who.boot.rid) (0x100 + 4 * h) := by
  unfold State.granWrite
  dsimp only
  rw [onWrite_accepted hacc (by decide), if_pos ⟨rfl, hon⟩]
  exact if_pos hless

theorem pinSafe_pinned {h : Nat} : ((s.pinSafe h).shead h).pinned = true := congrArg SafeHead.pinned mget_mset_same

/-! ### Errors of words (R278, R448) -/

/-- A head with a word that reads as 0 from now on. -/
def zeroed (c : HeadSt) (n : Nat) : HeadSt := { c with zero := if c.zero.contains n then c.zero else c.zero ++ [n] }

theorem mem_zeroed {c : HeadSt} {n : Nat} : n ∈ (zeroed c n).zero := by
  unfold zeroed
  dsimp only
  split
  · next h => exact List.contains_iff_mem.1 h
  · exact List.mem_append_right _ List.mem_cons_self

theorem basinEcc_outside {h : Fin 8} {word : BitVec 25} {ue : Bool} (hin : s.inFront h.val word.toNat = false) :
    execBasinEccError h word ue s = .next s :=
  congrArg Host.Outcome.next (if_pos (by rw [hin]; rfl))

theorem basinEcc_ce {h : Fin 8} {word : BitVec 25} (hin : s.inFront h.val word.toNat = true) :
    execBasinEccError h word false s = .next (s.basinCe ridBlock (basinBase + word.toNat * 8)) :=
  congrArg Host.Outcome.next (if_neg (by rw [hin]; decide))

theorem basinEcc_ue {h : Fin 8} {word : BitVec 25} (hin : s.inFront h.val word.toNat = true) :
    execBasinEccError h word true s = .next ((s.setHead h.val (zeroed (s.head h.val) word.toNat)).basinUe ridBlock (word.toNat * 8)) := by
  unfold execBasinEccError
  dsimp only
  rw [hin, if_neg (by decide), if_pos rfl]
  rfl

/-- A correctable error is counted and recorded. -/
theorem basinCe_shown {rid addr : Nat} : (s.basinCe rid addr).counter .basin 0 0 = (s.counter .basin 0 0 + 1) % 2 ^ 64 ∧
    (s.basinCe rid addr).heads = s.heads ∧ (s.basinCe rid addr).faults = s.faults ∧
    bit ((s.basinCe rid addr).rd (HDR.ev_raw .basin)) 9 = true := by
  unfold State.basinCe
  refine ⟨?_, ?_, ?_, raise_bit (by decide)⟩
  · rw [counter_raise, counter_count_same, counter_recErr]
  · rw [raise_heads, count_heads, recErr_heads]
  · rw [raise_faults, count_faults, recErr_faults]

/-- The uncorrectable error of a word in heads' buffers, before the fault line carries it. -/
def ueRecorded (s : State) (rid word : Nat) : State :=
  ((s.recErr .basin 0 Code.BASIN_ECC_UE rid (basinBase + word)).count .basin 0 1).raise .basin 0 10

theorem basinUe_told {rid word hs : Nat} (h : s.bufHeads (word / 8) = hs) (hne : hs ≠ 0) :
    s.basinUe rid word = (ueRecorded s rid word).faultLine Code.BASIN_ECC_UE .basin 0 hs := by
  subst h
  exact if_neg hne

theorem ueRecorded_shown {rid word : Nat} : (ueRecorded s rid word).counter .basin 0 1 = (s.counter .basin 0 1 + 1) % 2 ^ 64 ∧
    (ueRecorded s rid word).heads = s.heads ∧ (ueRecorded s rid word).time = s.time ∧
    bit ((ueRecorded s rid word).rd (HDR.ev_raw .basin)) 10 = true := by
  unfold ueRecorded
  refine ⟨?_, ?_, ?_, raise_bit (by decide)⟩
  · rw [counter_raise, counter_count_same, counter_recErr]
  · rw [raise_heads, count_heads, recErr_heads]
  · rw [raise_time, count_time, recErr_time]

theorem counter_faultLine {code i hs j n : Nat} {k b : Blk} : (s.faultLine code k i hs).counter b j n = s.counter b j n := rfl

/-- An uncorrectable error in heads' buffers is counted, recorded and told. -/
theorem basinUe_shown {rid word hs : Nat} (h : s.bufHeads (word / 8) = hs) (hne : hs ≠ 0) :
    (s.basinUe rid word).counter .basin 0 1 = (s.counter .basin 0 1 + 1) % 2 ^ 64 ∧ (s.basinUe rid word).heads = s.heads ∧
    bit ((s.basinUe rid word).rd (HDR.ev_raw .basin)) 10 = true ∧
    (⟨Code.BASIN_ECC_UE, Blk.typeCode .basin, 0, hs, s.now⟩ : FaultSig) ∈ (s.basinUe rid word).faults := by
  obtain ⟨hctr, hheads, htime, hev⟩ := ueRecorded_shown (s := s) (rid := rid) (word := word)
  rw [basinUe_told h hne, ← now_congr htime]
  generalize ueRecorded s rid word = u at hctr hheads hev
  refine ⟨counter_faultLine.trans hctr, hheads, ?_, mem_faultLine⟩
  rw [faultLine_rd]
  exact hev

theorem counter_setHead {h j n : Nat} {v : HeadSt} {b : Blk} : (s.setHead h v).counter b j n = s.counter b j n := rfl
theorem now_setHead {h : Nat} {v : HeadSt} : (s.setHead h v).now = s.now := rfl
theorem bufHeads_setHead {h n : Nat} {v : HeadSt} : (s.setHead h v).bufHeads n = s.bufHeads n := rfl

/-! ### The window (R45, R278) -/

theorem basinAccess_write {off : Nat} {d : List Byte} (h : winSizeOk off d.length = true) :
    s.basinAccess off (.write d) .clean = (((s.count .basin 0 8).basinWrite off d).healWords off (off + d.length)).okResp := by
  unfold State.basinAccess State.basinWinWrite
  dsimp only
  rw [if_pos h]
  exact ite_self _

theorem basinAccess_read {off n : Nat} (h : winSizeOk off n = true) :
    s.basinAccess off (.read n) .clean = (s.count .basin 0 8).okResp (s.basinRead off n) := by
  unfold State.basinAccess
  dsimp only
  rw [if_pos h]
  rfl

end

/-- Settles O31: a range is stored or refused whole, an error of a scanned word is counted and, uncorrectable, told, and the window moves bytes. -/
theorem basinGranulesAndWords : Obligations.BasinGranulesAndWords := by
  unfold Obligations.BasinGranulesAndWords
  refine ⟨?taken, ?refused, ?pinned, ?uncorrectable, ?corrected, fun s h word ue hin => basinEcc_outside hin, ?write, ?read⟩
  case taken =>
    intro s w h v hacc hw hgood
    refine ⟨_, congrArg Host.Outcome.next ((granWrite_plain hacc hw).trans (if_neg (by rw [hgood]; decide))), granStore.1, granStore.2, ?_⟩
    rw [storeWord_resp]
    rfl
  case refused =>
    exact fun s w h v hacc hw hbad => congrArg Host.Outcome.next ((granWrite_plain hacc hw).trans (if_pos hbad))
  case pinned =>
    exact fun s h v hacc ⟨hon, hless⟩ => ⟨congrArg Host.Outcome.next (granWrite_pins hacc hon hless), pinSafe_pinned⟩
  case uncorrectable =>
    intro s h word hin hbuf
    refine ⟨_, basinEcc_ue hin, ?_⟩
    have hword : word.toNat * 8 / 8 = word.toNat := Nat.mul_div_cancel _ (by decide)
    obtain ⟨hctr, hheads, hev, htold⟩ := basinUe_shown (s := s.setHead h.val (zeroed (s.head h.val) word.toNat)) (rid := ridBlock)
      (word := word.toNat * 8) (by rw [hword, bufHeads_setHead, hbuf]) (Nat.ne_of_gt (Nat.two_pow_pos h.val))
    rw [counter_setHead] at hctr
    rw [now_setHead] at htold
    refine ⟨hctr, ?_, hev, htold⟩
    rw [head_congr hheads, head_setHead]
    exact mem_zeroed
  case corrected =>
    exact fun s h word hin => ⟨_, basinEcc_ce hin, basinCe_shown⟩
  case write =>
    intro s off d hsize
    refine ⟨_, congrArg Host.Outcome.next (basinAccess_write hsize), ?_, rfl, ?_⟩
    · have hheal := (healWords_frame (s := (s.count .basin 0 8).basinWrite off.toNat d) (lo := off.toNat) (hi := off.toNat + d.length)
        Frame.refl Cov.refl).basin (by decide)
      refine (congrArg (fun m => (List.range d.length).map fun k => mget m (off.toNat + k) 0) hheal).trans ?_
      exact basinWrite_same
    · have hheal := (healWords_frame (s := (s.count .basin 0 8).basinWrite off.toNat d) (lo := off.toNat) (hi := off.toNat + d.length)
        Frame.refl Cov.refl).ctr .basin 0 8 (by decide) (by decide)
      have hwrite := (basinWrite_frame (s := s.count .basin 0 8) (a := off.toNat) (d := d) (L := [.basin]) Frame.refl Cov.refl).ctr .basin 0 8
        (by decide) (by decide)
      exact (hheal.trans hwrite).trans counter_count_same
  case read =>
    exact fun s off n hsize => ⟨_, congrArg Host.Outcome.next (basinAccess_read hsize), rfl, rfl, rfl⟩

end Sys2Proof.Proofs

/-! Composed frames: what their end leaves, their pixels in Basin, and layers that cannot be fetched (R261, R266 to R271). -/

namespace Sys2Proof.Proofs

open Machine Laws

/-! ### Colours in Basin -/

theorem bits_ten_lt {v lo : Nat} : bits v lo 10 < 1024 := Nat.mod_lt _ (by decide)

theorem wide10_lt {v : Nat} (h : v < 1024) : wide10 v < 4096 := Nat.or_lt_two_pow (n := 12) (by omega) (by omega)

/-- A colour in the head's format fits the 32 bits of its pixel. -/
theorem basinPixel_colour_lt {b : Bool} {v : Nat} : basinPixel b (colour30 v) < 2 ^ 32 := by
  have hr := wide10_lt (bits_ten_lt (v := v) (lo := 20))
  have hg := wide10_lt (bits_ten_lt (v := v) (lo := 10))
  have hb := wide10_lt (bits_ten_lt (v := v) (lo := 0))
  unfold basinPixel colour30 narrow
  split <;> dsimp only <;> omega

/-! ### Layers over what lies beneath -/

section

variable {s : State} {h : Nat}

theorem overLayer_off {n x y : Nat} {l : Layer} {d : Nat × Nat × Nat} (hl : l.enabled = false) : s.overLayer n l x y d = d := by
  unfold State.overLayer
  rw [hl]
  rfl

theorem overLayer_outside {n x y : Nat} {l : Layer} {d : Nat × Nat × Nat} (hd : inDst l.raw x y = none) : s.overLayer n l x y d = d := by
  unfold State.overLayer
  rw [hd]
  exact ite_self d

theorem overLayer_subst {n x y c : Nat} {l : Layer} {d : Nat × Nat × Nat} {i : Nat × Nat} (hl : l.enabled = true)
    (hd : inDst l.raw x y = some i) (hc : l.subst = some c) : s.overLayer n l x y d = colour30 c := by
  unfold State.overLayer
  rw [hl, hd, hc]
  rfl

/-- With every layer disabled the background shows. -/
theorem composed_background {x y : Nat} (hoff : ∀ l < 16, (s.layer h l).enabled = false) :
    s.composed h x y = basinPixel (s.on HEAD.FMT.bpc10 h) (colour30 (s.rd COMP.BG.colour (engOf h) (h % 2))) := by
  unfold State.composed
  dsimp only
  refine congrArg (basinPixel _) (foldl_same_of_mem id fun d l hl => overLayer_off ?_)
  have hl := hoff l (List.mem_range.1 hl)
  split
  · exact hl
  · exact hl

/-! ### The rows of a frame -/

/-- In pieces of one length, piece x stands at x lengths. -/
theorem getElem_flatMap_even {α β : Type} {f : α → List β} {n : Nat} (hf : ∀ a, (f a).length = n) {l : List α} {x k : Nat} (hx : x < l.length)
    (hk : k < n) (hb : n * x + k < (l.flatMap f).length) : (l.flatMap f)[n * x + k] = (f l[x])[k]'(by rw [hf]; exact hk) := by
  induction l generalizing x with
  | nil => exact absurd hx (Nat.not_lt_zero _)
  | cons a l ih =>
    cases x with
    | zero =>
      simp only [List.flatMap_cons, Nat.mul_zero, Nat.zero_add, List.getElem_cons_zero]
      exact List.getElem_append_left (by rw [hf]; exact hk)
    | succ x =>
      have hpos : n * (x + 1) + k - (f a).length = n * x + k := by rw [hf, Nat.mul_succ]; omega
      have hlen : (f a).length ≤ n * (x + 1) + k := by rw [hf, Nat.mul_succ]; omega
      simp only [List.flatMap_cons, List.getElem_cons_succ] at hb ⊢
      rw [List.getElem_append_right hlen]
      simp only [hpos]
      rw [List.length_append] at hb
      exact ih (Nat.lt_of_succ_lt_succ hx) (by omega)

theorem length_composedRow {w y : Nat} : (s.composedRow h w y).length = 4 * w := by
  unfold State.composedRow
  rw [List.length_flatMap, List.map_congr_left (g := fun _ => 4) fun _ _ => length_leBytes, List.map_const', List.sum_replicate_nat, List.length_range,
    Nat.mul_comm]

theorem composedRow_byte {w x y k : Nat} (hx : x < w) (hk : k < 4) (hb : 4 * x + k < (s.composedRow h w y).length) :
    (s.composedRow h w y)[4 * x + k] = (leBytes 4 (s.composed h x y))[k]'(by rw [length_leBytes]; exact hk) := by
  have hr : x < (List.range w).length := by rw [List.length_range]; exact hx
  refine (getElem_flatMap_even (f := fun x => leBytes 4 (s.composed h x y)) (fun _ => length_leBytes) hr hk hb).trans ?_
  simp only [List.getElem_range]

/-- The rows of a composed frame stored in the back buffer. -/
def frameStored (s : State) (h : Nat) : State :=
  (List.range (s.compArea h).2).foldl (fun t y => t.basinWrite (s.bufBase h (1 - s.rd HEAD.HEAD_STAT.front h) + y * basinPitch (s.compArea h).1)
    (s.composedRow h (s.compArea h).1 y)) s

/-- The bytes from a on, for n bytes, are as they were. -/
def BytesKept (a n : Nat) (t u : State) : Prop := ∀ k < n, mget u.basin (a + k) 0 = mget t.basin (a + k) 0

theorem pitch_wide (w : Nat) : 4 * w ≤ basinPitch w := by
  unfold basinPitch
  omega

/-- Rows do not reach each other. -/
theorem rows_apart {p w x y y' : Nat} (hp : 4 * w ≤ p) (hx : x < w) (hne : y' ≠ y) :
    y * p + 4 * x + 4 ≤ y' * p ∨ y' * p + 4 * w ≤ y * p + 4 * x := by
  rcases Nat.lt_or_gt_of_ne hne with hlt | hlt
  · have := Nat.mul_le_mul_right p (Nat.succ_le_of_lt hlt)
    rw [Nat.succ_mul] at this
    omega
  · have := Nat.mul_le_mul_right p (Nat.succ_le_of_lt hlt)
    rw [Nat.succ_mul] at this
    omega

/-- Pixel (x, y) of a stored frame is the composed one. -/
theorem frameStored_pixel {x y : Nat} (hx : x < (s.compArea h).1) (hy : y < (s.compArea h).2) :
    (frameStored s h).basinRead (s.bufBase h (1 - s.rd HEAD.HEAD_STAT.front h) + y * basinPitch (s.compArea h).1 + 4 * x) 4 =
      s.composed h x y % 2 ^ 32 := by
  unfold frameStored
  generalize s.bufBase h _ = base
  generalize hw : (s.compArea h).1 = w at hx
  have hpitch := pitch_wide w
  generalize basinPitch w = p at hpitch
  have hother : ∀ t : State, ∀ y' ∈ List.range (s.compArea h).2, y' ≠ y →
      BytesKept (base + y * p + 4 * x) 4 t (t.basinWrite (base + y' * p) (s.composedRow h w y')) := by
    intro t y' _ hne k hk
    refine mget_basinWrite_out ?_
    rw [length_composedRow]
    have := rows_apart hpitch hx hne
    omega
  obtain ⟨u, -, hlast⟩ := foldl_focus (BytesKept (base + y * p + 4 * x) 4) (fun _ _ _ => rfl)
    (fun h1 h2 k hk => (h2 k hk).trans (h1 k hk)) (a := s) hother List.nodup_range (List.mem_range.2 hy)
  have hbytes : (List.range 4).map (fun k => mget ((List.range (s.compArea h).2).foldl (fun t y' =>
      t.basinWrite (base + y' * p) (s.composedRow h w y')) s).basin (base + y * p + 4 * x + k) 0) = leBytes 4 (s.composed h x y) := by
    refine List.ext_getElem (by simp) fun k h1 h2 => ?_
    rw [length_leBytes] at h2
    have hk : 4 * x + k < (s.composedRow h w y).length := by rw [length_composedRow]; omega
    simp only [List.getElem_map, List.getElem_range]
    rw [hlast k h2, Nat.add_assoc (base + y * p), mget_basinWrite_in hk, composedRow_byte hx h2]
  unfold State.basinRead
  rw [hbytes, leVal_leBytes, show 256 ^ 4 = 2 ^ 32 by decide]

/-! ### The end of a composition (R266 to R269) -/

/-- A layer of a frame being composed is fetched, or fails to be. -/
def fetchLayer (h : Nat) (t : State) (l : Nat) : State :=
  if (t.layer h l).enabled && (t.layer h l).subst.isNone && mget t.comp.fetchBad (lkey h l) 0 == 0 then
    match t.fetchFault h l (t.layer h l).raw with
    | some e => (t.memRecord (t.compReq h l) e).fetchError h l
    | none => (fetchRows (t.layer h l).raw).foldl (fun (u : State) p => (u.fetched (u.compReq h l) p.1 p.2).count .comp (engOf h) 12 p.2) t
  else t

/-- A head's frame stands in the back buffer. -/
def frameComplete (s : State) (h : Nat) : State :=
  { s with comp := { s.comp with busy := mset s.comp.busy h 0 0, complete := mset s.comp.complete h 1 0 } }

/-- The fetched frame is stored and counted. -/
def frameWritten (s : State) (h : Nat) : State :=
  ((frameStored s h).count .comp (engOf h) (h % 2)).count .basin 0 5 ((s.compArea h).1 * (s.compArea h).2 * 4)

theorem composeDone_busy (hb : mget s.comp.busy h 0 ≠ 0) (hon : s.compOn (engOf h) = true) :
    s.composeDone h = (frameComplete ((frameWritten ((List.range 16).foldl (fetchLayer h) s) h).wbFrame h) h).compShow (engOf h) := by
  unfold State.composeDone
  dsimp only
  rw [if_neg (by rw [hon]; simpa using hb)]
  rfl

theorem composeDone_idle (hb : mget s.comp.busy h 0 = 0 ∨ s.compOn (engOf h) = false) : s.composeDone h = s := by
  unfold State.composeDone
  dsimp only
  rw [if_pos (hb.imp_right fun e => by rw [e]; rfl)]

theorem compShow_changes {n : Nat} : Frame compShow_T s (s.compShow n) := compShow_frame Frame.refl Cov.refl

/-- The end of a composition leaves the engine idle for the head, with the back buffer complete. -/
theorem frameComplete_shown : mget ((frameComplete s h).compShow (engOf h)).comp.busy h 0 = 0 ∧
    mget ((frameComplete s h).compShow (engOf h)).comp.complete h 0 = 1 := by
  rw [compShow_changes.comp (by decide)]
  exact ⟨mget_mset_same, mget_mset_same⟩

theorem frameComplete_basin : ((frameComplete s h).compShow (engOf h)).basin = s.basin := compShow_changes.basin (by decide)

theorem frameComplete_counter {n j : Nat} : ((frameComplete s h).compShow (engOf h)).counter .comp n j = s.counter .comp n j :=
  compShow_changes.ctr .comp n j (by decide) (by decide)

/-! ### The counter of a head's frames -/

theorem counter_fetchLayer {n l : Nat} (hn : n < 7) : (fetchLayer h s l).counter .comp (engOf h) n = s.counter .comp (engOf h) n := by
  unfold fetchLayer
  split
  · split
    · next e _ =>
      unfold State.fetchError
      dsimp only
      rw [(event_frame Frame.refl Cov.refl).ctr .comp _ _ (by decide) (by decide), counter_raise, counter_count_ne (by unfold ctrKey; omega)]
      exact (memRecord_frame Frame.refl Cov.refl).ctr .comp _ _ (by decide) (by decide)
    · refine foldl_same (fun t : State => t.counter .comp (engOf h) n) fun t p => ?_
      rw [counter_count_ne (by unfold ctrKey; omega)]
      exact (fetched_frame Frame.refl Cov.refl).ctr .comp _ _ (by decide) (by decide)
  · rfl

theorem counter_frameWritten : (frameWritten s h).counter .comp (engOf h) (h % 2) = (s.counter .comp (engOf h) (h % 2) + 1) % 2 ^ 64 := by
  have hstore : (frameStored s h).counter .comp (engOf h) (h % 2) = s.counter .comp (engOf h) (h % 2) :=
    foldl_same (fun t : State => t.counter .comp (engOf h) (h % 2)) fun t y =>
      (basinWrite_frame (L := [.basin]) Frame.refl Cov.refl).ctr .comp _ _ (by decide) (by decide)
  unfold frameWritten
  rw [counter_count_ne (by unfold ctrKey; simp [Blk.page]; omega), counter_count_same, hstore]

theorem counter_wbReport {n : Nat} : (s.wbReport h).counter .comp (engOf h) n = s.counter .comp (engOf h) n :=
  (wbReport_frame Frame.refl Cov.refl).ctr .comp _ _ (by decide) (by decide)

theorem counter_setWb {n : Nat} {v : WbSt} : (s.setWb h v).counter .comp (engOf h) n = s.counter .comp (engOf h) n := rfl

theorem counter_wbSkip {n : Nat} (hn : n < 8) : (s.wbSkip h).counter .comp (engOf h) n = s.counter .comp (engOf h) n := by
  have hskip : ∀ w, ((s.setWb h w).count .comp (engOf h) (10 + h % 2)).counter .comp (engOf h) n = s.counter .comp (engOf h) n := fun w =>
    (counter_count_ne (by unfold ctrKey; omega)).trans counter_setWb
  unfold State.wbSkip
  dsimp only
  split
  · exact counter_wbReport.trans (hskip _)
  · exact hskip _

theorem counter_wbRows {n w a pitch f y : Nat} {r : Req} (hn : n < 8) :
    (s.wbRows r h w a pitch f y).1.counter .comp (engOf h) n = s.counter .comp (engOf h) n := by
  induction f generalizing s y with
  | zero => rfl
  | succ f ih =>
    have hstore := (tryStore_frame (s := s) (q := r) (a := a + y * pitch) (d := s.composedRow h w y) Frame.refl Cov.refl).ctr .comp (engOf h) n
      (by decide) (by decide)
    unfold State.wbRows
    split
    · next t e =>
      rw [e] at hstore
      rw [ih, counter_count_ne (by unfold ctrKey; omega)]
      exact hstore
    · next t _ e =>
      rw [e] at hstore
      exact hstore

theorem counter_signal {k n f v : Nat} {q : Req} : (s.signal q f v).1.counter .comp k n = s.counter .comp k n :=
  Unchanged.ctr (signal_frame Frame.refl Cov.refl) .comp k n (by decide) (by decide)

theorem counter_fenceTest {k n f v : Nat} {q : Req} : (s.fenceTest q f v).1.counter .comp k n = s.counter .comp k n :=
  Unchanged.ctr (fenceTest_frame Frame.refl Cov.refl) .comp k n (by decide) (by decide)

theorem counter_wbDone {n : Nat} (hn : n < 8) : (s.wbDone h).counter .comp (engOf h) n = s.counter .comp (engOf h) n := by
  unfold State.wbDone
  dsimp only
  split
  · rfl
  · generalize hu : s.setWb h _ = u
    have hu : u.counter .comp (engOf h) n = s.counter .comp (engOf h) n := by rw [← hu, counter_setWb]
    split
    · next t e =>
      have ht : t.counter .comp (engOf h) n = s.counter .comp (engOf h) n := by
        rw [show t = _ from (congrArg Prod.fst e).symm, counter_signal, hu]
      have hdone : ∀ w, ((t.wr COMP.WB_SEQ.w w (engOf h) (h % 2)).count .comp (engOf h) (8 + h % 2)).counter .comp (engOf h) n =
          s.counter .comp (engOf h) n := fun w => by
        rw [counter_count_ne (by unfold ctrKey; omega), counter_wr, ht]
      rw [counter_setWb]
      split
      · rw [counter_wbReport, hdone]
      · exact hdone _
    · next t _ _ e =>
      rw [counter_wbSkip hn, show t = _ from (congrArg Prod.fst e).symm, counter_signal, hu]

/-- Writeback counts no frame of its head as composed. -/
theorem counter_wbFrame {n : Nat} (hn : n < 8) : (s.wbFrame h).counter .comp (engOf h) n = s.counter .comp (engOf h) n := by
  have hdone := counter_wbDone (s := s) (h := h) hn
  unfold State.wbFrame
  dsimp only
  generalize s.wbDone h = r at hdone
  rw [← hdone]
  split
  · rfl
  · generalize hu : r.setWb h _ = u
    have hu : u.counter .comp (engOf h) n = r.counter .comp (engOf h) n := by rw [← hu, counter_setWb]
    generalize (if r.rd COMP.WB_CTRL.owner (engOf h) (h % 2) = 0xFE then 0 else r.rd COMP.WB_CTRL.owner (engOf h) (h % 2)) = k
    split
    · exact hu
    · split
      · exact (counter_wbSkip hn).trans hu
      · split
        · next t e =>
          have ht : t.counter .comp (engOf h) n = r.counter .comp (engOf h) n := by
            rw [show t = _ from (congrArg Prod.fst e).symm, counter_fenceTest, hu]
          split
          · next v e' =>
            rw [counter_setWb, show v = _ from (congrArg Prod.fst e').symm, counter_wbRows hn, ht]
          · next v e' =>
            rw [counter_wbSkip hn, show v = _ from (congrArg Prod.fst e').symm, counter_wbRows hn, ht]
        · next t _ _ _ e =>
          rw [counter_wbSkip hn, show t = _ from (congrArg Prod.fst e).symm, counter_fenceTest, hu]

/-- A composed frame is counted. -/
theorem counter_composeDone (hb : mget s.comp.busy h 0 ≠ 0) (hon : s.compOn (engOf h) = true) :
    (s.composeDone h).counter .comp (engOf h) (h % 2) = (s.counter .comp (engOf h) (h % 2) + 1) % 2 ^ 64 := by
  have hfetch : ((List.range 16).foldl (fetchLayer h) s).counter .comp (engOf h) (h % 2) = s.counter .comp (engOf h) (h % 2) :=
    foldl_same (fun t : State => t.counter .comp (engOf h) (h % 2)) fun t l => counter_fetchLayer (by omega)
  rw [composeDone_busy hb hon, frameComplete_counter, counter_wbFrame (by omega), counter_frameWritten, hfetch]

/-! ### The pixels of a background -/

theorem fetchLayer_off {l : Nat} (hoff : (s.layer h l).enabled = false) : fetchLayer h s l = s := by
  unfold fetchLayer
  rw [hoff]
  rfl

/-- With every layer disabled nothing is fetched. -/
theorem fetchLayers_off (hoff : ∀ l < 16, (s.layer h l).enabled = false) : (List.range 16).foldl (fetchLayer h) s = s :=
  List.foldlRecOn (motive := fun t => t = s) _ _ rfl fun _ ht l hl => by rw [ht]; exact fetchLayer_off (hoff l (List.mem_range.1 hl))

theorem basin_composeDone (hb : mget s.comp.busy h 0 ≠ 0) (hon : s.compOn (engOf h) = true)
    (hoff : ∀ l < 16, (s.layer h l).enabled = false) : (s.composeDone h).basin = (frameStored s h).basin := by
  have hwb : ∀ t : State, (t.wbFrame h).basin = t.basin := fun t => (wbFrame_frame Frame.refl Cov.refl).basin (by decide)
  rw [composeDone_busy hb hon, frameComplete_basin, hwb, fetchLayers_off hoff]
  rfl

/-- Each pixel of a frame without layers is the background. -/
theorem composeDone_background {x y : Nat} (hb : mget s.comp.busy h 0 ≠ 0) (hon : s.compOn (engOf h) = true)
    (hoff : ∀ l < 16, (s.layer h l).enabled = false) (hx : x < (s.compArea h).1) (hy : y < (s.compArea h).2) :
    (s.composeDone h).basinRead (s.bufBase h (1 - s.rd HEAD.HEAD_STAT.front h) + y * basinPitch (s.compArea h).1 + 4 * x) 4 =
      basinPixel (s.on HEAD.FMT.bpc10 h) (colour30 (s.rd COMP.BG.colour (engOf h) (h % 2))) := by
  rw [basinRead_congr (basin_composeDone hb hon hoff), frameStored_pixel hx hy, composed_background hoff]
  exact Nat.mod_eq_of_lt basinPixel_colour_lt

/-! ### A layer that cannot be fetched (R269) -/

theorem layerFetchError_told {k : Fin 8} {l : Fin 16} {code : BitVec 16} {addr : Addr} (hb : mget s.comp.busy k.val 0 ≠ 0)
    (hl : (s.layer k.val l.val).enabled = true ∧ (s.layer k.val l.val).subst = none ∧ mget s.comp.fetchBad (lkey k.val l.val) 0 = 0)
    (hon : s.compOn (engOf k.val) = true) :
    execLayerFetchError k l code addr s = .next ((s.memRecord (s.compReq k.val l.val) (code.toNat, addr.toNat)).fetchError k.val l.val) :=
  congrArg Host.Outcome.next (if_neg (by simp [hb, hl, hon]))

theorem layerFetchError_left {k : Fin 8} {l : Fin 16} {code : BitVec 16} {addr : Addr}
    (hl : s.compOn (engOf k.val) = false ∨ (s.layer k.val l.val).enabled = false ∨ (s.layer k.val l.val).subst ≠ none) :
    execLayerFetchError k l code addr s = .next s :=
  congrArg Host.Outcome.next (if_pos (by rcases hl with hl | hl | hl <;> simp [hl]))

theorem fetchError_shown {l : Nat} : mget (s.fetchError h l).comp.fetchBad (lkey h l) 0 = 1 ∧
    (s.fetchError h l).counter .comp (engOf h) 7 = (s.counter .comp (engOf h) 7 + 1) % 2 ^ 64 ∧
    bit ((s.fetchError h l).rd (HDR.ev_raw .comp) (engOf h)) 10 = true := by
  unfold State.fetchError
  extract_lets n src s1
  have hcomp : mget s1.comp.fetchBad (lkey h l) 0 = 1 := mget_mset_same
  have hctr : s1.counter .comp n 7 = s.counter .comp n 7 := rfl
  clear_value s1
  refine ⟨?_, ?_, ?_⟩
  · rw [(event_frame Frame.refl Cov.refl).comp (by decide), raise_comp, count_comp]
    exact hcomp
  · rw [(event_frame Frame.refl Cov.refl).ctr .comp _ _ (by decide) (by decide), counter_raise, counter_count_same, hctr]
  · rw [rd_clear (event_frame Frame.refl Cov.refl) (by decide)]
    exact raise_bit (by decide)

end

/-- Settles O30: the frame's rows are stored apart, its end completes and counts it, and a failed fetch is marked, counted and told. -/
theorem composedFrames : Obligations.ComposedFrames := by
  unfold Obligations.ComposedFrames
  refine ⟨?done, ?background, ?idle, ?fetch, ?left, ?beneath, ?substituted, ?off, ?engineOff⟩
  case done =>
    intro s h hb hon
    have hend := composeDone_busy hb hon
    refine ⟨s.composeDone h.val, rfl, ?_, ?_, counter_composeDone hb hon⟩
    · rw [hend]
      exact frameComplete_shown.1
    · rw [hend]
      exact frameComplete_shown.2
  case background =>
    intro s h x y ⟨hb, _⟩ hoff ⟨hx, hy⟩ hon
    refine ⟨s.composeDone h.val, rfl, composeDone_background hb hon (fun l hl => ?_) hx hy⟩
    simpa using List.all_eq_true.1 hoff l (List.mem_range.2 hl)
  case idle =>
    exact fun s h hb => congrArg Host.Outcome.next (composeDone_idle (.inl hb))
  case fetch =>
    intro s h l code addr ⟨hb, hl⟩ hon
    obtain ⟨h1, h2, h3⟩ := fetchError_shown (s := s.memRecord (s.compReq h.val l.val) (code.toNat, addr.toNat)) (h := h.val) (l := l.val)
    refine ⟨_, layerFetchError_told hb hl hon, h1, ?_, h3⟩
    rw [h2, (memRecord_frame Frame.refl Cov.refl).ctr .comp _ _ (by decide) (by decide)]
  case left =>
    exact fun s h l code addr hl => layerFetchError_left (.inr hl)
  case beneath =>
    exact fun s n x y l d hl => hl.elim overLayer_off overLayer_outside
  case substituted =>
    exact fun s n x y c l d p i ⟨hl, hd, hc, hp⟩ => (overLayer_subst hl hd hc).trans hp.symm
  case off =>
    exact fun s h hon => congrArg Host.Outcome.next (composeDone_idle (.inr hon))
  case engineOff =>
    exact fun s h l code addr hon => layerFetchError_left (.inl hon)

end Sys2Proof.Proofs

/-! Vertical blanking of a head, and the arming of commit groups (R285 to R291, R306). -/

namespace Sys2Proof.Proofs

open Machine Laws

section

variable {s : State} {h : Nat}

/-! ### Sets that apply at a blanking -/

/-- What the parts of a blanking's sets all leave, their application leaves. -/
theorem blankApply_same {α : Type} (proj : State → α) (hhead : ∀ t : State, proj (t.applyHead h) = proj t)
    (hglint : ∀ t : State, proj (t.applyGlint h) = proj t) (hcomp : ∀ (t : State) (n j : Nat), proj (t.compApply n j) = proj t)
    (hgroup : ∀ t : State, proj (t.wr (HDR.group .comp) 0 (engOf h)) = proj t) : proj (s.blankApply h) = proj s := by
  unfold State.blankApply
  extract_lets k wait held s1 s2 s3
  have h1 : proj s1 = proj s := by
    unfold s1
    split
    · rfl
    · exact hhead s
  have h2 : proj s2 = proj s := by
    unfold s2
    split
    · exact h1
    · exact (hglint s1).trans h1
  have h3 : proj s3 = proj s := (hcomp s2 _ _).trans h2
  clear_value s1 s2 s3
  split
  · exact h2
  · split
    · exact h3
    · exact (hgroup s3).trans h3

/-- What that application may change apart from the values that were staged. -/
def blankApply_shows : List Piece := applyHead_shows ++ applyGlint_T ++ compApply_T ++ [.fld (HDR.group .comp)]

theorem applyGlint_changes : Frame applyGlint_T s (s.applyGlint h) := applyGlint_frame Frame.refl Cov.refl

theorem compApply_changes {n j : Nat} : Frame compApply_T s (s.compApply n j) := compApply_frame Frame.refl Cov.refl

/-- It leaves the fields without a shadow, but for those that show it. -/
theorem blankApply_rd {i j n : Nat} {f : Fld} (hf : f.acc ≠ .rws) (hc : blankApply_shows.all (clear f) = true) :
    (s.blankApply h).rd f i j n = s.rd f i j n :=
  blankApply_same (fun t => t.rd f i j n) (fun _ => applyHead_rd hf (all_clear_of_subset hc (by decide)))
    (fun _ => rd_clear applyGlint_changes (all_clear_of_subset hc (by decide)))
    (fun _ _ _ => rd_clear compApply_changes (all_clear_of_subset hc (by decide)))
    (fun _ => rd_clear (wr_frame (L := [.fld (HDR.group .comp)]) Frame.refl Cov.refl) (all_clear_of_subset hc (by decide)))

/-- Of an engine: whether it composes for a head, its buffer is complete, and it is late. -/
def engineView (h : Nat) (s : State) : Nat × Nat × Nat := (mget s.comp.busy h 0, mget s.comp.complete h 0, mget s.comp.late h 0)

theorem engineView_congr {t : State} (e : t.comp = s.comp) : engineView h t = engineView h s := by
  unfold engineView
  rw [e]

theorem engineView_parts {a b c : Nat} (e : engineView h s = (a, b, c)) :
    mget s.comp.busy h 0 = a ∧ mget s.comp.complete h 0 = b ∧ mget s.comp.late h 0 = c := by
  unfold engineView at e
  simpa using e

/-- Neither a set of the engine's page that applies nor its end starts or completes a frame. -/
theorem engineView_compApply {n j : Nat} : engineView h (s.compApply n j) = engineView h s := by
  unfold State.compApply
  extract_lets pg left was s1 left' s2 k s3
  have h2 : engineView h s2 = engineView h s := rfl
  have hwr : ∀ t : State, engineView h (t.wr COMP.WB_SEQ.w 0 n j) = engineView h t := fun t => engineView_congr (wr_comp ..)
  have h3 : engineView h s3 = engineView h s := by
    unfold s3
    split
    · exact (hwr _).trans h2
    · exact h2
  clear_value s1 s2 s3
  split
  · rfl
  · split
    · exact (engineView_congr ((commitDone_frame Frame.refl Cov.refl).comp (by decide))).trans h3
    · exact h3

theorem engineView_blankApply : engineView h (s.blankApply h) = engineView h s :=
  blankApply_same _ (fun _ => engineView_congr ((applyHead_frame Frame.refl Cov.refl).comp (by decide)))
    (fun _ => engineView_congr (applyGlint_changes.comp (by decide))) (fun _ _ _ => engineView_compApply) fun _ => engineView_congr (wr_comp ..)

theorem counter_blankApply {n j : Nat} : (s.blankApply h).counter .comp n j = s.counter .comp n j :=
  (blankApply_frame Frame.refl Cov.refl).ctr .comp n j (by decide) (by decide)

/-! ### The rest of a blanking -/

/-- The engine latches and starts the next frame, where it does. -/
def blankLatch (s : State) (h : Nat) (met : List Nat) (latches : Bool) : State :=
  if latches then (s.compLatch h met).startCompose h else s

/-- The events of a blanking are told, and genlock and the link go on. -/
def blankTold (s : State) (h : Nat) (flipped unlocked : Bool) : State :=
  ((if flipped then (s.raise .head h 8).raise .head h 9 else s.raise .head h 8).glSlew h).linkBlank h unlocked

theorem blankLatch_changes {met : List Nat} {latches : Bool} : Frame (compLatch_T ++ startCompose_T) s (blankLatch s h met latches) :=
  Frame.ite (startCompose_frame (compLatch_frame Frame.refl (Cov.of_subset (by decide))) (Cov.of_subset (by decide))) Frame.refl

/-- What telling may change. -/
def blankTold_T : List Piece := [.fld (HDR.ev_raw .head), .sent] ++ glSlew_T ++ linkBlank_T

theorem blankTold_changes {flipped unlocked : Bool} : Frame blankTold_T s (blankTold s h flipped unlocked) :=
  linkBlank_frame (glSlew_frame (Frame.ite (raise_frame (raise_frame Frame.refl (Cov.of_subset (by decide))) (Cov.of_subset (by decide)))
    (raise_frame Frame.refl (Cov.of_subset (by decide)))) (Cov.of_subset (by decide))) (Cov.of_subset (by decide))

/-- The start of vertical blanking is told, and the flip where there was one. -/
theorem blankTold_events {flipped unlocked : Bool} :
    bit ((blankTold s h flipped unlocked).rd (HDR.ev_raw .head) h) 8 = true ∧
      (flipped = true → bit ((blankTold s h flipped unlocked).rd (HDR.ev_raw .head) h) 9 = true) := by
  unfold blankTold
  rw [rd_clear (linkBlank_frame Frame.refl Cov.refl) (by decide), rd_clear (glSlew_frame Frame.refl Cov.refl) (by decide)]
  refine ⟨?_, fun hflip => ?_⟩
  · split
    · exact raise_bit_of_bit (by decide) (raise_bit (by decide))
    · exact raise_bit (by decide)
  · rw [hflip]
    exact raise_bit (by decide)

/-- Once latched, the engine composes the next frame. -/
theorem engineView_blankLatch {met : List Nat} : engineView h (blankLatch s h met true) = (1, 0, 0) := by
  unfold blankLatch State.startCompose
  rw [if_pos rfl, engineView_congr (compShow_changes.comp (by decide))]
  unfold engineView
  dsimp only
  rw [mget_mset_same, mget_mset_same, mget_mset_same]

/-! ### The flip -/

/-- The frame counter and its time. -/
def blankCount (s : State) (h : Nat) : State :=
  let s1 := (((s.wr HEAD.FRAME_CNT.count (s.rd HEAD.FRAME_CNT.count h + 1) h).wr HEAD.VBL_TIME.time s.now h).count .head h 0).wr
    HEAD.HEAD_STAT.vblank 1 h
  let s2 := s1.wr HEAD.HEAD_STAT.line (s1.rd HEAD.TIM_V.vact h) h
  s2.setHead h { s2.head h with zero := [], start := none, glint := { (s2.head h).glint with lines := [] } }

theorem rd_setHead {i j n : Nat} {v : HeadSt} {f : Fld} : (s.setHead h v).rd f i j n = s.rd f i j n := rfl

theorem blankCount_shown : (blankCount s h).rd HEAD.FRAME_CNT.count h = (s.rd HEAD.FRAME_CNT.count h + 1) % 2 ^ 32 ∧
    (blankCount s h).rd HEAD.VBL_TIME.time h = s.now % 2 ^ 64 := by
  unfold blankCount
  refine ⟨?_, ?_⟩
  · rw [rd_setHead, rd_wr_sep rfl, rd_wr_sep rfl, rd_count, rd_wr_sep rfl, rd_wr_same]
    rfl
  · rw [rd_setHead, rd_wr_sep rfl, rd_wr_sep rfl, rd_count, rd_wr_same]
    rfl

/-- What it may change. -/
def blankCount_T : List Piece :=
  [.fld HEAD.FRAME_CNT.count, .fld HEAD.VBL_TIME.time, .ctr .head, .fld HEAD.HEAD_STAT.vblank, .fld HEAD.HEAD_STAT.line, .heads]

theorem blankCount_changes : Frame blankCount_T s (blankCount s h) :=
  setHead_frame (wr_frame (wr_frame (count_frame (wr_frame (wr_frame Frame.refl (Cov.of_subset (by decide))) (Cov.of_subset (by decide)))
    (Cov.of_subset (by decide))) (Cov.of_subset (by decide))) (Cov.of_subset (by decide))) (Cov.of_subset (by decide))

/-- The buffers swap. -/
def bufferSwap (s : State) (h : Nat) : State :=
  let s5 := s.wr HEAD.HEAD_STAT.front (1 - s.rd HEAD.HEAD_STAT.front h) h
  ((s5.wr HEAD.FLIP_CNT.count (s5.rd HEAD.FRAME_CNT.count h) h).wr HEAD.FLIP_TIME.time s5.now h).count .head h 1

/-- The buffers swap, and the packets of the frame now shown end. -/
def blankSwap (s : State) (h : Nat) : State := (bufferSwap s h).endLatched h ((bufferSwap s h).rd HEAD.FRAME_CNT.count h)

theorem blankFlip_eq : s.blankFlip h =
    if ((blankCount s h).compBlank h).2.1 then (blankSwap ((blankCount s h).compBlank h).1 h, true, ((blankCount s h).compBlank h).2.2)
    else (((blankCount s h).compBlank h).1.count .head h 2, false, ((blankCount s h).compBlank h).2.2) := rfl

theorem endLatched_changes {frame : Nat} : Frame endLatched_T s (s.endLatched h frame) := endLatched_frame Frame.refl Cov.refl

theorem blankSwap_shown : (blankSwap s h).rd HEAD.HEAD_STAT.front h = 1 - s.rd HEAD.HEAD_STAT.front h ∧
    (blankSwap s h).rd HEAD.FLIP_CNT.count h = s.rd HEAD.FRAME_CNT.count h % 2 ^ 32 := by
  unfold blankSwap bufferSwap
  refine ⟨?_, ?_⟩
  · rw [rd_clear endLatched_changes (by decide), rd_count, rd_wr_sep rfl, rd_wr_sep rfl, rd_wr_same]
    exact Nat.mod_eq_of_lt (Nat.lt_succ_of_le (Nat.sub_le ..))
  · rw [rd_clear endLatched_changes (by decide), rd_count, rd_wr_sep rfl, rd_wr_same, rd_wr_sep rfl]
    rfl

/-- What the swap of the buffers may change. -/
def bufferSwap_T : List Piece := [.fld HEAD.HEAD_STAT.front, .fld HEAD.FLIP_CNT.count, .fld HEAD.FLIP_TIME.time, .ctr .head]

theorem bufferSwap_changes : Frame bufferSwap_T s (bufferSwap s h) := by
  unfold bufferSwap
  exact count_frame (wr_frame (wr_frame (wr_frame Frame.refl (Cov.of_subset (by decide))) (Cov.of_subset (by decide)))
    (Cov.of_subset (by decide))) (Cov.of_subset (by decide))

theorem blankSwap_changes : Frame (bufferSwap_T ++ endLatched_T) s (blankSwap s h) :=
  (frame_mono bufferSwap_changes (by decide)).trans (frame_mono endLatched_changes (by decide))

theorem compBlank_changes : Frame compBlank_T s (s.compBlank h).1 := compBlank_frame Frame.refl Cov.refl

/-- What follows the frame counter may change. -/
theorem blankFlip_changes : Frame (compBlank_T ++ (bufferSwap_T ++ endLatched_T)) (blankCount s h) (s.blankFlip h).1 := by
  rw [blankFlip_eq]
  split
  · exact (frame_mono compBlank_changes (by decide)).trans (frame_mono blankSwap_changes (by decide))
  · exact count_frame (frame_mono compBlank_changes (by decide)) (Cov.of_subset (by decide))

/-- A complete back buffer is flipped to. -/
theorem compBlank_complete (hon : s.compOn (engOf h) = true) (hc : mget s.comp.complete h 0 ≠ 0) : (s.compBlank h).2 = (true, true) := by
  unfold State.compBlank
  dsimp only
  rw [if_neg (by rw [hon]; decide), if_pos hc]

/-- A frame still composed is late. -/
theorem compBlank_late (hon : s.compOn (engOf h) = true) (hc : mget s.comp.complete h 0 = 0) (hb : mget s.comp.busy h 0 ≠ 0) :
    (s.compBlank h).2 = (false, false) ∧ engineView h (s.compBlank h).1 = (mget s.comp.busy h 0, 0, 1) ∧
    (s.compBlank h).1.counter .comp (engOf h) (2 + h % 2) = (s.counter .comp (engOf h) (2 + h % 2) + 1) % 2 ^ 64 := by
  unfold State.compBlank
  dsimp only
  rw [if_neg (by rw [hon]; decide), if_neg (fun e => e hc), if_neg hb]
  refine ⟨rfl, ?_, ?_⟩
  · rw [engineView_congr (compShow_changes.comp (by decide)), engineView_congr ((eventHead_frame Frame.refl Cov.refl).comp (by decide)),
      engineView_congr (raise_comp ..), engineView_congr (count_comp ..)]
    unfold engineView
    dsimp only
    rw [mget_mset_same, hc]
  · rw [compShow_changes.ctr .comp _ _ (by decide) (by decide), (eventHead_frame Frame.refl Cov.refl).ctr .comp _ _ (by decide) (by decide),
      counter_raise, counter_count_same]
    rfl

/-! ### A blanking -/

/-- A running enabled head whose clock runs goes through the parts above. -/
theorem vblank_runs {obs : FrameObs} (hrun : s.rd HEAD.HEAD_STAT.state h = 2 ∧ s.on (HDR.enable .head) h = true) (hclk : s.headClock h = true) :
    s.vblank h obs = blankTold (blankLatch (((s.frameEnd h obs).blankFlip h).1.blankApply h) h (s.metPackets h)
      ((s.frameEnd h obs).blankFlip h).2.2) h ((s.frameEnd h obs).blankFlip h).2.1 obs.unlocked := by
  have hr : s.running h = true := beq_iff_eq.2 hrun.1
  unfold State.vblank
  rw [if_neg (by rw [hr, hclk]; decide), if_neg (by rw [hrun.2]; decide)]
  rfl

/-- A head that does not run, or whose clock is gated, does nothing. -/
theorem vblank_idle {obs : FrameObs} (hidle : s.rd HEAD.HEAD_STAT.state h ≠ 2 ∨ s.headClock h = false) : s.vblank h obs = s := by
  unfold State.vblank
  rw [if_pos]
  exact hidle.imp (fun e => by simpa using not_running e) fun e => by rw [e]; rfl

/-- A head that has been disabled stops. -/
theorem vblank_stops {obs : FrameObs} (hrun : s.rd HEAD.HEAD_STAT.state h = 2 ∧ s.on (HDR.enable .head) h = false) (hclk : s.headClock h = true) :
    s.vblank h obs = s.headStop h := by
  have hr : s.running h = true := beq_iff_eq.2 hrun.1
  unfold State.vblank
  rw [if_neg (by rw [hr, hclk]; decide), if_pos (by rw [hrun.2]; decide)]

theorem frameEnd_changes {obs : FrameObs} : Frame frameEnd_T s (s.frameEnd h obs) := frameEnd_frame Frame.refl Cov.refl

/-- What a blanking may change after the flip apart from the values that were staged. -/
def afterFlip_shows : List Piece := blankApply_shows ++ compLatch_T ++ startCompose_T ++ blankTold_T

theorem afterFlip_rd {met : List Nat} {latches flipped unlocked : Bool} {i j n : Nat} {f : Fld} (hf : f.acc ≠ .rws)
    (hc : afterFlip_shows.all (clear f) = true) :
    (blankTold (blankLatch (s.blankApply h) h met latches) h flipped unlocked).rd f i j n = s.rd f i j n := by
  rw [rd_clear blankTold_changes (all_clear_of_subset hc (by decide)), rd_clear blankLatch_changes (all_clear_of_subset hc (by decide)),
    blankApply_rd hf (all_clear_of_subset hc (by decide))]

theorem engineView_blankTold {flipped unlocked : Bool} : engineView h (blankTold s h flipped unlocked) = engineView h s :=
  engineView_congr (blankTold_changes.comp (by decide))

/-- The head and its engine where the flip is decided. -/
def blankReached (s : State) (h : Nat) (obs : FrameObs) : State := blankCount (s.frameEnd h obs) h

theorem blankReached_comp {obs : FrameObs} : (blankReached s h obs).comp = s.comp :=
  (blankCount_changes.comp (by decide)).trans (frameEnd_changes.comp (by decide))

theorem blankReached_compOn {obs : FrameObs} (hon : s.compOn (engOf h) = true) : (blankReached s h obs).compOn (engOf h) = true := by
  unfold State.compOn blankReached at *
  rw [on_clear blankCount_changes (by decide), on_clear frameEnd_changes (by decide), hon]

theorem blankReached_rd {obs : FrameObs} {i j n : Nat} {f : Fld} (hc : (blankCount_T ++ frameEnd_T).all (clear f) = true) :
    (blankReached s h obs).rd f i j n = s.rd f i j n := by
  unfold blankReached
  rw [rd_clear blankCount_changes (all_clear_of_subset hc (by decide)), rd_clear frameEnd_changes (all_clear_of_subset hc (by decide))]

theorem blankReached_shown {obs : FrameObs} : (blankReached s h obs).rd HEAD.FRAME_CNT.count h = (s.rd HEAD.FRAME_CNT.count h + 1) % 2 ^ 32 ∧
    (blankReached s h obs).rd HEAD.VBL_TIME.time h = s.now % 2 ^ 64 := by
  unfold blankReached
  rw [blankCount_shown.1, blankCount_shown.2, rd_clear frameEnd_changes (by decide), now_congr (frameEnd_changes.time (by decide))]
  exact ⟨rfl, rfl⟩

/-- With a complete back buffer the head flips and the engine latches. -/
theorem vblank_flips {obs : FrameObs} (hrun : s.rd HEAD.HEAD_STAT.state h = 2 ∧ s.on (HDR.enable .head) h = true) (hclk : s.headClock h = true)
    (hon : s.compOn (engOf h) = true) (hcomplete : mget s.comp.complete h 0 ≠ 0) :
    s.vblank h obs = blankTold (blankLatch ((blankSwap ((blankReached s h obs).compBlank h).1 h).blankApply h) h (s.metPackets h) true) h true
      obs.unlocked := by
  have hflip : (s.frameEnd h obs).blankFlip h = (blankSwap ((blankReached s h obs).compBlank h).1 h, true, true) := by
    rw [blankFlip_eq, show blankCount (s.frameEnd h obs) h = blankReached s h obs from rfl,
      compBlank_complete (blankReached_compOn hon) (by rw [blankReached_comp]; exact hcomplete), if_pos rfl]
  rw [vblank_runs hrun hclk, hflip]

/-- With a frame still composed it does not. -/
theorem vblank_late {obs : FrameObs} (hrun : s.rd HEAD.HEAD_STAT.state h = 2 ∧ s.on (HDR.enable .head) h = true) (hclk : s.headClock h = true)
    (hon : s.compOn (engOf h) = true) (hc : mget s.comp.complete h 0 = 0) (hb : mget s.comp.busy h 0 ≠ 0) :
    s.vblank h obs = blankTold ((((blankReached s h obs).compBlank h).1.count .head h 2).blankApply h) h false obs.unlocked := by
  have hflip : (s.frameEnd h obs).blankFlip h = (((blankReached s h obs).compBlank h).1.count .head h 2, false, false) := by
    rw [blankFlip_eq, show blankCount (s.frameEnd h obs) h = blankReached s h obs from rfl,
      (compBlank_late (blankReached_compOn hon) (by rw [blankReached_comp]; exact hc) (by rw [blankReached_comp]; exact hb)).1,
      if_neg (by decide)]
  rw [vblank_runs hrun hclk, hflip]
  rfl

/-! ### A head that stops (R285, R336, R344) -/

/-- The timing generator of a head and its PLL stop. -/
def generatorStopped (s : State) (h : Nat) : State :=
  ((((s.wr HEAD.HEAD_STAT.state 0 h).wr HEAD.HEAD_STAT.vblank 0 h).wr HEAD.HEAD_STAT.line 0 h).pllStop h).setHead h
    { s.head h with start := none, zero := [], soft := false }

/-- Sets that waited for a head apply. -/
def waitingApplied (s : State) (h : Nat) : State := (((s.applyHead h).applyGlint h).safeApply .lantern h).safeApply .mirror h

/-- Nothing is composed for a head any more, and its link powers off. -/
def outputStopped (s : State) (h : Nat) : State := (s.composeStop h).linkOff h

theorem headStop_eq : s.headStop h = if (s.head h).soft then (outputStopped (waitingApplied (generatorStopped s h) h) h).headSoft h
    else outputStopped (waitingApplied (generatorStopped s h) h) h := rfl

/-- What they may change apart from the values that were staged. -/
def headStop_shows : List Piece :=
  applyHead_shows ++ applyGlint_T ++ safeApply_T .lantern ++ safeApply_T .mirror ++ composeStop_T ++ linkOff_T

theorem stopRest_rd {i j n : Nat} {f : Fld} (hf : f.acc ≠ .rws) (hc : headStop_shows.all (clear f) = true) :
    (outputStopped (waitingApplied s h) h).rd f i j n = s.rd f i j n := by
  unfold outputStopped waitingApplied
  rw [rd_clear (linkOff_frame Frame.refl Cov.refl) (all_clear_of_subset hc (by decide)),
    rd_clear (composeStop_frame Frame.refl Cov.refl) (all_clear_of_subset hc (by decide)),
    rd_clear (safeApply_frame (b := .mirror) Frame.refl Cov.refl) (all_clear_of_subset hc (by decide)),
    rd_clear (safeApply_frame (b := .lantern) Frame.refl Cov.refl) (all_clear_of_subset hc (by decide)),
    rd_clear applyGlint_changes (all_clear_of_subset hc (by decide)), applyHead_rd hf (all_clear_of_subset hc (by decide))]

theorem pllStop_changes : Frame pllStop_T s (s.pllStop h) := pllStop_frame Frame.refl Cov.refl

theorem generatorStopped_shown : (generatorStopped s h).rd HEAD.HEAD_STAT.state h = 0 ∧
    (generatorStopped s h).rd CLK.PLL_STAT.enabled 0 h = 0 ∧
    (generatorStopped s h).rd HEAD.FRAME_CNT.count h = s.rd HEAD.FRAME_CNT.count h := by
  unfold generatorStopped
  refine ⟨?_, ?_, ?_⟩
  · rw [rd_setHead, rd_clear pllStop_changes (by decide), rd_wr_sep rfl, rd_wr_sep rfl, rd_wr_same]
    rfl
  · rw [rd_setHead, pllStop_enabled]
  · rw [rd_setHead, rd_clear pllStop_changes (by decide), rd_wr_sep rfl, rd_wr_sep rfl, rd_wr_sep rfl]

/-- A soft reset returns the registers of the head from 0x100 on. -/
theorem headSoft_rd {f : Fld} {j : Nat} (hb : f.blk = .head) (hf : 0x100 ≤ f.off + f.stride * j ∧ f.off + f.stride * j < 0x800)
    (hs : sep (HDR.soft_reset .head) f = true) : (s.headSoft h).rd f h j = f.rst.val (s.grpLeave h).variant h j 0 := by
  have hin := (softRegs_rd_in (s := s.grpLeave h) (f := f) (i := h) (j := j) (k := 0) hf).1
  rw [hb] at hin
  unfold State.headSoft
  rw [rd_setHead, rd_wr_sep hs, hin]

theorem headStop_shown : (s.headStop h).rd HEAD.HEAD_STAT.state h = 0 ∧ (s.headStop h).rd CLK.PLL_STAT.enabled 0 h = 0 ∧
    (s.headStop h).rd HEAD.FRAME_CNT.count h = (if (s.head h).soft then 0 else s.rd HEAD.FRAME_CNT.count h) := by
  obtain ⟨hst, hpll, hcnt⟩ := generatorStopped_shown (s := s) (h := h)
  rw [headStop_eq]
  split
  · refine ⟨headSoft_rd rfl (by decide) rfl, ?_, headSoft_rd rfl (by decide) rfl⟩
    rw [rd_clear (headSoft_frame Frame.refl Cov.refl) (by decide), stopRest_rd (by decide) (by decide), hpll]
  · refine ⟨?_, ?_, ?_⟩
    · rw [stopRest_rd (by decide) (by decide), hst]
    · rw [stopRest_rd (by decide) (by decide), hpll]
    · rw [stopRest_rd (by decide) (by decide), hcnt]

/-! ### Commit groups (R288, R289) -/

/-- A mask that names a head has a member. -/
theorem members_of_bits {v : Nat} (hv : bits v 0 8 ≠ 0) : (List.range 8).filter (fun k => bit v k) ≠ [] := by
  intro hnone
  refine hv (Nat.eq_of_testBit_eq fun k => ?_)
  unfold bits
  rw [Nat.testBit_mod_two_pow, Nat.shiftRight_zero, Nat.zero_testBit]
  by_cases hk : k < 8
  · have hbit : ¬ bit v k = true := fun e => List.filter_eq_nil_iff.1 hnone k (List.mem_range.2 hk) e
    rw [show v.testBit k = false from Bool.not_eq_true _ ▸ hbit, Bool.and_false]
  · rw [decide_eq_false hk, Bool.false_and]

theorem grpArm_busy {w : Who} {v : Nat} (hacc : accepts s w .basin 0 0x144 v = true) (hbusy : s.on BASIN.GRP_STAT.busy = true)
    (hv : bits v 0 8 ≠ 0) : s.grpArm w v = (s.okResp.refuse .basin 0 Code.GRP_BUSY w.rid 0x144).count .basin 0 4 := by
  unfold State.grpArm
  rw [onWrite_accepted hacc (by decide)]
  exact (if_neg (members_of_bits hv)).trans (if_pos hbusy)

/-- A head's set is staged as a member's. -/
def memberStaged (s : State) (rid h : Nat) : State := (s.stagePage rid .head h).wr (HDR.group .head) 1 h

/-- The group shows its members and is under way. -/
def groupShown (s : State) (v : Nat) : State :=
  ((((s.wr BASIN.GRP_STAT.members (v % 256)).wr BASIN.GRP_STAT.applied 0).wr BASIN.GRP_STAT.busy 1).wr BASIN.GRP_STAT.aborted 0).wr
    BASIN.GRP_STAT.seq (s.rd BASIN.GRP_STAT.seq + 1)

/-- The mask of one head names that head, and neither of the further pages. -/
theorem oneMember : ∀ h : Fin 8, (List.range 8).filter (fun k => bit (2 ^ h.val) k) = [h.val] := by decide

theorem oneHead (h : Fin 8) : 2 ^ h.val % 256 % 256 = 2 ^ h.val := by revert h; decide

theorem beyondMembers : ∀ h : Fin 8, bit (2 ^ h.val) 8 = false ∧ bit (2 ^ h.val) 9 = false := by decide

/-- A group of one head that no check refuses is armed. -/
theorem grpArm_one {w : Who} {h : Fin 8} (hacc : accepts s w .basin 0 0x144 (2 ^ h.val) = true) (hbusy : s.on BASIN.GRP_STAT.busy = false)
    (hpending : s.on (HDR.pending .head) h.val = false) (hset : s.headSetBad h.val = none) (hlink : s.linkSetBad h.val = false) :
    s.grpArm w (2 ^ h.val) = ((((groupShown (memberStaged s.okResp w.rid h.val) (2 ^ h.val)).count .basin 0 2).setCohorts [h.val]).applyIdle
      h.val) := by
  have hmem := oneMember h
  have hcomp : bit (2 ^ h.val) 8 = false := (beyondMembers h).1
  have hglint : bit (2 ^ h.val) 9 = false := (beyondMembers h).2
  have hpages : groupPages [h.val] false false = [(.head, h.val)] := rfl
  have hfree : [(Blk.head, h.val)].find? (fun p => s.okResp.on (HDR.pending p.1) p.2) = none :=
    List.find?_eq_none.2 fun p hp => by rw [List.mem_singleton.1 hp]; exact Bool.eq_false_iff.1 hpending
  have hgood : [h.val].findSome? (fun k => (s.okResp.headSetBad k).map (fun o => (k, o))) = none :=
    List.findSome?_eq_none_iff.2 fun k hk => by rw [List.mem_singleton.1 hk]; exact congrArg (Option.map _) hset
  have hcan : [h.val].find? (fun k => s.okResp.linkSetBad k) = none :=
    List.find?_eq_none.2 fun k hk => by rw [List.mem_singleton.1 hk]; exact Bool.eq_false_iff.1 hlink
  unfold State.grpArm
  rw [onWrite_accepted hacc (by decide)]
  dsimp only
  rw [hmem, hcomp, hglint, hpages, if_neg (List.cons_ne_nil _ _), if_neg (by rw [show s.okResp.on BASIN.GRP_STAT.busy = false from hbusy]; decide),
    hfree, hgood, hcan]
  rfl

theorem memberStaged_shown {rid : Nat} : (memberStaged s rid h).rd (HDR.pending .head) h = 1 ∧ (memberStaged s rid h).rd (HDR.group .head) h = 1 ∧
    (memberStaged s rid h).rd BASIN.GRP_STAT.seq = s.rd BASIN.GRP_STAT.seq := by
  unfold memberStaged
  refine ⟨?_, rd_wr_same, ?_⟩
  · rw [rd_wr_sep rfl, stagePage_eq (by decide), stageSet_pending.1]
  · rw [rd_wr_sep rfl, rd_clear (stagePage_frame Frame.refl Cov.refl) (by decide)]

/-- What a group that is under way shows. -/
theorem groupShown_shown {v : Nat} : (groupShown s v).rd BASIN.GRP_STAT.busy = 1 ∧ (groupShown s v).rd BASIN.GRP_STAT.members = v % 256 % 256 ∧
    (groupShown s v).rd BASIN.GRP_STAT.applied = 0 ∧ (groupShown s v).rd BASIN.GRP_STAT.seq = (s.rd BASIN.GRP_STAT.seq + 1) % 256 := by
  unfold groupShown
  refine ⟨?_, ?_, ?_, rd_wr_same⟩
  · rw [rd_wr_sep rfl, rd_wr_sep rfl, rd_wr_same]
    rfl
  · rw [rd_wr_sep rfl, rd_wr_sep rfl, rd_wr_sep rfl, rd_wr_sep rfl, rd_wr_same]
    rfl
  · rw [rd_wr_sep rfl, rd_wr_sep rfl, rd_wr_sep rfl, rd_wr_same]
    rfl

/-- What it may change. -/
def groupShown_T : List Piece :=
  [.fld BASIN.GRP_STAT.members, .fld BASIN.GRP_STAT.applied, .fld BASIN.GRP_STAT.busy, .fld BASIN.GRP_STAT.aborted, .fld BASIN.GRP_STAT.seq]

theorem groupShown_changes {v : Nat} : Frame groupShown_T s (groupShown s v) :=
  wr_frame (wr_frame (wr_frame (wr_frame (wr_frame Frame.refl (Cov.of_subset (by decide))) (Cov.of_subset (by decide)))
    (Cov.of_subset (by decide))) (Cov.of_subset (by decide))) (Cov.of_subset (by decide))

/-- A member that runs waits for its next blanking. -/
theorem applyIdle_running (hrun : s.rd HEAD.HEAD_STAT.state h ≠ 0) : s.applyIdle h = s := if_pos hrun

/-- The group of one running head, armed. -/
def groupArmed (s : State) (rid h : Nat) : State :=
  ((groupShown (memberStaged s rid h) (2 ^ h)).count .basin 0 2).setCohorts [h]

theorem groupArmed_rd {rid i j n : Nat} {f : Fld} : (groupArmed s rid h).rd f i j n = (groupShown (memberStaged s rid h) (2 ^ h)).rd f i j n := by
  unfold groupArmed State.setCohorts
  rw [List.foldl_cons, List.foldl_nil, rd_setHead, rd_count]

/-- The head's state is not among what arming changes. -/
theorem groupArmed_state {rid : Nat} : (groupArmed s rid h).rd HEAD.HEAD_STAT.state h = s.rd HEAD.HEAD_STAT.state h := by
  rw [groupArmed_rd, rd_clear groupShown_changes (by decide)]
  unfold memberStaged
  rw [rd_wr_sep rfl, rd_clear (stagePage_frame Frame.refl Cov.refl) (by decide)]

end

/-- Settles O33: a blanking counts and stamps its frame before it flips, and what follows keeps that; a head that stops resets what a soft reset
does; a group of one head is staged and shown. -/
theorem verticalBlanking : Obligations.VerticalBlanking := by
  unfold Obligations.VerticalBlanking
  refine ⟨?counts, ?flips, ?late, ?stops, fun s h obs hidle => congrArg Host.Outcome.next (vblank_idle hidle), ?busy, ?armed⟩
  case counts =>
    intro s h obs hrun hclk
    refine ⟨s.vblank h.val obs, rfl, ?_⟩
    rw [vblank_runs hrun hclk]
    obtain ⟨hcnt, htime⟩ := blankReached_shown (s := s) (h := h.val) (obs := obs)
    refine ⟨?_, ?_, blankTold_events.1, ?_⟩
    · rw [afterFlip_rd (by decide) (by decide), rd_clear blankFlip_changes (by decide), ← hcnt]
      rfl
    · rw [afterFlip_rd (by decide) (by decide), rd_clear blankFlip_changes (by decide), ← htime]
      rfl
    · rw [afterFlip_rd (by decide) (by decide), rd_clear blankFlip_changes (by decide), ← hrun.1]
      exact blankReached_rd (by decide)
  case flips =>
    intro s h obs hrun ⟨hon, hcomplete⟩ hclk
    refine ⟨s.vblank h.val obs, rfl, ?_⟩
    rw [vblank_flips hrun hclk hon hcomplete]
    obtain ⟨hfront, hcnt⟩ := blankSwap_shown (s := ((blankReached s h.val obs).compBlank h.val).1) (h := h.val)
    refine ⟨?_, ?_, ?_, ?_, blankTold_events.2 rfl⟩
    · rw [afterFlip_rd (by decide) (by decide), hfront, rd_clear compBlank_changes (by decide), blankReached_rd (by decide)]
    · rw [afterFlip_rd (by decide) (by decide), hcnt, rd_clear compBlank_changes (by decide), blankReached_shown.1, Nat.mod_mod]
    · exact (engineView_parts (engineView_blankTold.trans engineView_blankLatch)).1
    · exact (engineView_parts (engineView_blankTold.trans engineView_blankLatch)).2.1
  case late =>
    intro s h obs hrun ⟨hon, hc, hb⟩ hclk
    refine ⟨s.vblank h.val obs, rfl, ?_⟩
    rw [vblank_late hrun hclk hon hc hb]
    obtain ⟨-, hview, hctr⟩ := compBlank_late (blankReached_compOn (obs := obs) hon) (by rw [blankReached_comp]; exact hc)
      (by rw [blankReached_comp]; exact hb)
    have hreached : (blankReached s h.val obs).counter .comp (engOf h.val) (2 + h.val % 2) = s.counter .comp (engOf h.val) (2 + h.val % 2) :=
      (blankCount_changes.ctr .comp _ _ (by decide) (by decide)).trans (frameEnd_changes.ctr .comp _ _ (by decide) (by decide))
    rw [blankReached_comp] at hview
    rw [hreached] at hctr
    obtain ⟨hbusy, -, hlate⟩ := engineView_parts ((engineView_blankTold (flipped := false) (unlocked := obs.unlocked)).trans
      (engineView_blankApply.trans ((engineView_congr (count_comp _ .head h.val 2 1)).trans hview)))
    refine ⟨?_, ?_, ?_, ?_⟩
    · rw [rd_clear blankTold_changes (by decide), blankApply_rd (by decide) (by decide), rd_count, rd_clear compBlank_changes (by decide),
        blankReached_rd (by decide)]
    · rw [blankTold_changes.ctr .comp _ _ (by decide) (by decide), counter_blankApply,
        (count_frame (L := [.ctr .head]) Frame.refl Cov.refl).ctr .comp _ _ (by decide) (by decide), hctr]
    · exact hlate
    · exact hbusy
  case stops =>
    intro s h obs hrun hclk
    exact ⟨_, congrArg Host.Outcome.next (vblank_stops hrun hclk), headStop_shown⟩
  case busy =>
    exact fun s w v hacc ⟨hbusy, hv⟩ => congrArg Host.Outcome.next (grpArm_busy hacc hbusy hv)
  case armed =>
    intro s w v h hacc ⟨hbusy, hv⟩ ⟨hpending, hset, hlink, hrun⟩
    rw [hv] at hacc
    have hstate : (groupArmed s.okResp w.rid h.val).rd HEAD.HEAD_STAT.state h.val ≠ 0 := by
      rw [groupArmed_state, rd_okResp, show s.rd HEAD.HEAD_STAT.state h.val = 2 from beq_iff_eq.1 hrun]
      decide
    have hgo : s.grpArm w v.toNat = groupArmed s.okResp w.rid h.val := by
      rw [hv, grpArm_one hacc hbusy hpending hset hlink]
      exact applyIdle_running hstate
    obtain ⟨hb, hm, ha, hs⟩ := groupShown_shown (s := memberStaged s.okResp w.rid h.val) (v := 2 ^ h.val)
    obtain ⟨hp, hg, hseq⟩ := memberStaged_shown (s := s.okResp) (h := h.val) (rid := w.rid)
    refine ⟨_, congrArg Host.Outcome.next hgo, ?_, ?_, ?_, ?_, ?_, ?_⟩
    · rw [groupArmed_rd, hb]
    · rw [groupArmed_rd, hm, oneHead]
    · rw [groupArmed_rd, ha]
    · rw [groupArmed_rd, hs, hseq, rd_okResp]
    · rw [groupArmed_rd, rd_clear groupShown_changes (by decide), hp]
    · rw [groupArmed_rd, rd_clear groupShown_changes (by decide), hg]

end Sys2Proof.Proofs

/-! The safety link: its frames, and what a transaction does with one (R331 to R334). -/

namespace Sys2Proof.Proofs

open Machine Laws

/-! ### Checksums -/

theorem crcBit_lt {p c : Nat} (hp : p < 2 ^ 32) (hc : c < 2 ^ 32) : crcBit p c < 2 ^ 32 := by
  have hhalf : c / 2 < 2 ^ 32 := by omega
  unfold crcBit
  split
  · exact Nat.xor_lt_two_pow (by simpa using hhalf) hp
  · simpa using hhalf

theorem crcByte_lt {p c : Nat} {b : Byte} (hp : p < 2 ^ 32) (hc : c < 2 ^ 32) : crcByte p c b < 2 ^ 32 := by
  have hin : c ^^^ b.toNat < 2 ^ 32 := Nat.xor_lt_two_pow hc (by have := b.isLt; omega)
  unfold crcByte
  exact crcBit_lt hp (crcBit_lt hp (crcBit_lt hp (crcBit_lt hp (crcBit_lt hp (crcBit_lt hp (crcBit_lt hp (crcBit_lt hp hin)))))))

/-- A CRC-32C fits its four bytes. -/
theorem crc32c_lt {d : List Byte} : crc32c d < 2 ^ 32 := by
  have hrun : crcRun polyC 0xFFFFFFFF d < 2 ^ 32 :=
    List.foldlRecOn (motive := fun c => c < 2 ^ 32) _ _ (by decide) fun c hc b _ => crcByte_lt (by decide) hc
  exact Nat.xor_lt_two_pow hrun (by decide)

/-! ### Frames (R332) -/

section Frames

variable {seq type : Nat} {p : List Byte}

/-- The payload of a frame, filled to 24 bytes. -/
def padded (p : List Byte) : List Byte := (p ++ List.replicate 24 0).take 24

theorem length_padded : (padded p).length = 24 := by
  unfold padded
  simp

theorem padded_take {n : Nat} (hn : n ≤ 24) (hp : n ≤ p.length) : (padded p).take n = p.take n := by
  unfold padded
  rw [List.take_take, Nat.min_eq_left hn, List.take_append_of_le_length hp]

theorem padded_of_short (hp : p.length ≤ 24) : (padded p).take p.length = p := by rw [padded_take hp (Nat.le_refl _), List.take_length]

/-- What a frame's CRC covers. -/
def slBody (seq type : Nat) (p : List Byte) : List Byte := leBytes 2 seq ++ leBytes 1 type ++ [0] ++ padded p

theorem slFrame_eq : slFrame seq type p = slBody seq type p ++ leBytes 4 (crc32c (slBody seq type p)) := rfl

theorem length_slBody : (slBody seq type p).length = 28 := by
  unfold slBody
  simp only [List.length_append, length_leBytes, length_padded, List.length_cons, List.length_nil]

theorem length_slFrame : (slFrame seq type p).length = 32 := by
  rw [slFrame_eq, List.length_append, length_slBody, length_leBytes]

theorem slFrame_body : (slFrame seq type p).take 28 = slBody seq type p := by
  rw [slFrame_eq]
  exact List.take_left' length_slBody

/-- A frame's CRC is that of its body. -/
theorem slFrame_crc : leVal ((slFrame seq type p).drop 28) = crc32c ((slFrame seq type p).take 28) := by
  rw [slFrame_body, slFrame_eq, List.drop_left' length_slBody, leVal_leBytes]
  exact Nat.mod_eq_of_lt crc32c_lt

theorem slFrame_seq (h : seq < 65536) : leVal ((slFrame seq type p).take 2) = seq := by
  rw [slFrame_eq]
  unfold slBody
  rw [List.append_assoc, List.append_assoc, List.append_assoc, List.take_left' length_leBytes, leVal_leBytes]
  exact Nat.mod_eq_of_lt h

theorem slFrame_type (h : type < 256) : leVal (((slFrame seq type p).drop 2).take 1) = type := by
  rw [slFrame_eq]
  unfold slBody
  rw [List.append_assoc, List.append_assoc, List.append_assoc, List.drop_left' length_leBytes, List.take_left' length_leBytes, leVal_leBytes]
  exact Nat.mod_eq_of_lt h

theorem slFrame_payload : ((slFrame seq type p).drop 4).take 24 = padded p := by
  have hhead : (leBytes 2 seq ++ leBytes 1 type ++ [(0 : Byte)]).length = 4 := by simp
  rw [slFrame_eq]
  unfold slBody
  rw [List.append_assoc, List.drop_left' hhead, List.take_left' length_padded]

end Frames

/-! ### Transactions (R331, R334) -/

section

variable {s : State}

/-- The module has sent its frame while it took the master's. -/
def slTalked (s : State) : State := ({ s with safe := { s.safe with slHeard := true } }).slSend

theorem slTalked_rd {i j n : Nat} {f : Fld} (hc : slSend_T.all (clear f) = true) : (slTalked s).rd f i j n = s.rd f i j n :=
  (rd_clear (slSend_frame Frame.refl Cov.refl) hc).trans rd_with_safe

theorem slTalked_safe : (slTalked s).safe.slSeq = s.safe.slSeq ∧ (slTalked s).safe.slNext = (s.safe.slNext + 1) % 65536 ∧
    (slTalked s).safe.machine = s.safe.machine ∧ (slTalked s).safe.log = s.safe.log ∧ (s.safe.slOut = [] → (slTalked s).safe.slOut = []) := by
  unfold slTalked State.slSend
  dsimp only
  rw [wr_safe]
  exact ⟨rfl, rfl, rfl, rfl, fun h => by rw [h]⟩

theorem slTalked_counter {j : Nat} : (slTalked s).counter .safe 0 j = s.counter .safe 0 j :=
  ((slSend_frame Frame.refl Cov.refl).ctr .safe 0 j (by decide) (by decide)).trans rfl

theorem slTalked_now : (slTalked s).now = s.now := now_congr ((slSend_frame Frame.refl Cov.refl).time (by decide))

theorem slTalked_tx : (slTalked s).rd SAFE.SL_STAT.tx_seq = s.safe.slNext % 65536 := rd_wr_same

/-- An error of the link. -/
theorem slError_shown {code n : Nat} : (s.slError code n).rd SAFE.ISL_STAT.link = 2 ∧
    (s.slError code n).counter .safe 0 n = (s.counter .safe 0 n + 1) % 2 ^ 64 ∧
    (⟨code, Blk.typeCode .safe, 0, s.rd SAFE.SAFE_CFG.link_dep, s.now⟩ : FaultSig) ∈ (s.slError code n).faults ∧
    (s.slError code n).safe = { s.safe with slSeq := none, slRun := 0 } := by
  have hnow : (((s.wr SAFE.ISL_STAT.link 2).count .safe 0 n).raise .safe 0 12).now = s.now :=
    now_congr (by rw [raise_time, count_time, wr_time])
  have hsafe : (((s.wr SAFE.ISL_STAT.link 2).count .safe 0 n).raise .safe 0 12).safe = s.safe := by rw [raise_safe, count_safe, wr_safe]
  have hlink : (((s.wr SAFE.ISL_STAT.link 2).count .safe 0 n).raise .safe 0 12).rd SAFE.ISL_STAT.link = 2 := by
    rw [raise_rd_sep (by decide), rd_count, rd_wr_same]
    rfl
  have hctr : (((s.wr SAFE.ISL_STAT.link 2).count .safe 0 n).raise .safe 0 12).counter .safe 0 n = (s.counter .safe 0 n + 1) % 2 ^ 64 := by
    rw [counter_raise, counter_count_same, counter_wr]
  unfold State.slError
  dsimp only
  generalize ((s.wr SAFE.ISL_STAT.link 2).count .safe 0 n).raise .safe 0 12 = u at *
  refine ⟨hlink, hctr, ?_, ?_⟩
  · rw [← hnow]
    exact mem_faultLine
  · rw [← hsafe]
    rfl

theorem slAnswer_rd {type i j n : Nat} {l : List Byte} {f : Fld} : (s.slAnswer type l).rd f i j n = s.rd f i j n := rfl
theorem slAnswer_counter {type j : Nat} {l : List Byte} : (s.slAnswer type l).counter .safe 0 j = s.counter .safe 0 j := rfl

/-- A frame of the wrong length is an error of the link, and is not answered by the module's own. -/
theorem slTransaction_length {d : List Byte} (hs : s.slServed = true) (hd : d.length ≠ 32) :
    s.slTransaction d = (({ s with safe := { s.safe with slHeard := true } } : State).slError Code.SL_CRC 5).slAnswer 0x83
      (leBytes 1 1 ++ leBytes 2 (leVal (d.take 2))) := by
  unfold State.slTransaction
  dsimp only
  rw [if_neg (by rw [hs]; decide), if_pos hd]

/-- So is one whose CRC is wrong, after the module has sent its frame. -/
theorem slTransaction_crc {d : List Byte} (hs : s.slServed = true) (hd : d.length = 32) (hcrc : leVal (d.drop 28) ≠ crc32c (d.take 28)) :
    s.slTransaction d = ((slTalked s).slError Code.SL_CRC 5).slAnswer 0x83 (leBytes 1 1 ++ leBytes 2 (leVal (d.take 2))) := by
  unfold State.slTransaction
  dsimp only
  rw [if_neg (by rw [hs]; decide), if_neg (fun e => e hd), if_pos hcrc]
  rfl

theorem slTransaction_unserved {d : List Byte} (hs : s.slServed = false) : s.slTransaction d = s := by
  unfold State.slTransaction
  exact if_pos (by rw [hs]; rfl)

/-- A frame out of order is an error of the link. -/
theorem slTransaction_seq {seq type q : Nat} {p : List Byte} (hs : s.slServed = true) (hseq : seq < 65536) (hq : s.safe.slSeq = some q)
    (hne : (q + 1) % 65536 ≠ seq) :
    s.slTransaction (slFrame seq type p) = ((slTalked s).slError Code.SL_SEQ 6).slAnswer 0x83 (leBytes 1 2 ++ leBytes 2 seq) := by
  have hlast : ({ s with safe := { s.safe with slHeard := true } } : State).slSend.safe.slSeq = some q := slTalked_safe.1.trans hq
  unfold State.slTransaction
  dsimp only
  rw [if_neg (by rw [hs]; decide), if_neg (fun e => e length_slFrame), if_neg (fun e => e slFrame_crc), slFrame_seq hseq, hlast,
    if_pos (decide_eq_true hne)]
  rfl

/-- A frame in order is accepted and acts. -/
theorem slTransaction_accepts {seq type : Nat} {p : List Byte} (hs : s.slServed = true) (hseq : seq < 65536) (htype : type < 256)
    (hq : s.safe.slSeq = none ∨ s.safe.slSeq = some ((seq + 65535) % 65536)) :
    s.slTransaction (slFrame seq type p) = ((slTalked s).slAccept seq).slAct seq type (padded p) := by
  have horder : (match (({ s with safe := { s.safe with slHeard := true } } : State).slSend.safe.slSeq : Option Nat) with
      | some q => decide ((q + 1) % 65536 ≠ seq) | none => false) = false := by
    rw [show ({ s with safe := { s.safe with slHeard := true } } : State).slSend.safe.slSeq = s.safe.slSeq from slTalked_safe.1]
    rcases hq with hq | hq <;> rw [hq]
    exact decide_eq_false (by omega)
  unfold State.slTransaction
  dsimp only
  rw [if_neg (by rw [hs]; decide), if_neg (fun e => e length_slFrame), if_neg (fun e => e slFrame_crc), slFrame_seq hseq, slFrame_type htype,
    slFrame_payload, if_neg (by rw [Bool.eq_false_iff] at horder; exact horder)]
  rfl

/-- An accepted frame is counted and its sequence stored. -/
theorem slAccept_shown {seq : Nat} : (s.slAccept seq).rd SAFE.SL_STAT.rx_seq = seq % 65536 ∧ (s.slAccept seq).safe.slSeq = some seq ∧
    (s.slAccept seq).counter .safe 0 4 = (s.counter .safe 0 4 + 1) % 2 ^ 64 ∧ (s.slAccept seq).safe.log = s.safe.log ∧
    (s.slAccept seq).safe.slOut = s.safe.slOut := by
  unfold State.slAccept
  extract_lets run link k s1 s2
  have hrx : s2.rd SAFE.SL_STAT.rx_seq = seq % 65536 := by
    unfold s2
    rw [rd_count, rd_wr_same]
    rfl
  have hctr : s2.counter .safe 0 4 = (s.counter .safe 0 4 + 1) % 2 ^ 64 := by
    unfold s2
    rw [counter_count_same, counter_wr]
    rfl
  have hsafe : s2.safe.slSeq = some seq ∧ s2.safe.log = s.safe.log ∧ s2.safe.slOut = s.safe.slOut := by
    unfold s2
    rw [count_safe, wr_safe]
    exact ⟨rfl, rfl, rfl⟩
  obtain ⟨h1, h2, h3⟩ := hsafe
  clear_value s2
  split
  · rw [wr_safe, rd_wr_sep rfl, counter_wr]
    exact ⟨hrx, h1, hctr, h2, h3⟩
  · exact ⟨hrx, h1, hctr, h2, h3⟩

theorem slAccept_rd {seq i j n : Nat} {f : Fld} (hc : slAccept_T.all (clear f) = true) : (s.slAccept seq).rd f i j n = s.rd f i j n :=
  rd_clear (slAccept_frame Frame.refl Cov.refl) hc

/-! ### What frames ask for (R333) -/

/-- STATE stores the machine word, the heads needed and the visibility asked for. -/
theorem slAct_state {seq m n v : Nat} (hm : m < 2 ^ 32) (hn : n < 256) (hv : v < 2 ^ 48) :
    s.slAct seq 1 (padded (leBytes 4 m ++ leBytes 1 n ++ leBytes 6 v)) =
      { s with safe := { s.safe with machine := m, needed := n, vis := some v } } := by
  have hlen : (leBytes 4 m ++ leBytes 1 n ++ leBytes 6 v).length = 11 := by simp
  have hmachine : leVal ((padded (leBytes 4 m ++ leBytes 1 n ++ leBytes 6 v)).take 4) = m := by
    rw [padded_take (by decide) (by rw [hlen]; decide), List.append_assoc, List.take_left' length_leBytes, leVal_leBytes]
    exact Nat.mod_eq_of_lt hm
  have hneeded : leVal (((padded (leBytes 4 m ++ leBytes 1 n ++ leBytes 6 v)).drop 4).take 1) = n := by
    rw [List.take_drop, padded_take (by decide) (by rw [hlen]; decide), ← List.take_drop, List.append_assoc, List.drop_left' length_leBytes,
      List.take_left' length_leBytes, leVal_leBytes]
    exact Nat.mod_eq_of_lt hn
  have hvis : leVal (((padded (leBytes 4 m ++ leBytes 1 n ++ leBytes 6 v)).drop 5).take 6) = v := by
    rw [List.take_drop, padded_take (n := 5 + 6) (by decide) (Nat.le_of_eq hlen.symm), ← List.take_drop,
      List.drop_left' (by rw [List.length_append, length_leBytes, length_leBytes]), List.take_of_length_le (Nat.le_of_eq length_leBytes), leVal_leBytes]
    exact Nat.mod_eq_of_lt hv
  unfold State.slAct
  rw [if_pos rfl, hmachine, hneeded, hvis]

/-- LOG_REQ queues the one entry that the log holds, if it is the one asked for. -/
theorem slAct_log {seq f : Nat} {e : LogEnt} (hf : f < 65536) (hlog : s.safe.log = [e]) (he : e.seq = f) :
    s.slAct seq 3 (padded (leBytes 2 f)) = s.slAnswer 0x82 (e.bytes ++ leBytes 2 0) := by
  have hfirst : leVal ((padded (leBytes 2 f)).take 2) = f := by
    rw [padded_take (by decide) (Nat.le_of_eq length_leBytes.symm), List.take_of_length_le (Nat.le_of_eq length_leBytes), leVal_leBytes]
    exact Nat.mod_eq_of_lt hf
  have hrange : s.safe.log.filter (fun e => decide ((e.seq + 65536 - f) % 65536 < 32768)) = [e] := by
    rw [hlog, List.filter_cons, if_pos]
    · rfl
    · refine decide_eq_true ?_
      rw [he, Nat.add_sub_cancel_left]
      decide
  unfold State.slAct State.slLogs
  rw [if_neg (by decide), if_neg (by decide), if_pos rfl, hfirst, hrange]
  rfl

/-- The module's state once a frame in order is accepted. -/
def slAccepted (s : State) (seq : Nat) : State := (slTalked s).slAccept seq

theorem slAccepted_shown {seq : Nat} : (slAccepted s seq).rd SAFE.SL_STAT.rx_seq = seq % 65536 ∧ (slAccepted s seq).safe.slSeq = some seq ∧
    (slAccepted s seq).counter .safe 0 4 = (s.counter .safe 0 4 + 1) % 2 ^ 64 ∧ (slAccepted s seq).safe.log = s.safe.log ∧
    (s.safe.slOut = [] → (slAccepted s seq).safe.slOut = []) := by
  obtain ⟨h1, h2, h3, h4, h5⟩ := slAccept_shown (s := slTalked s) (seq := seq)
  obtain ⟨-, -, -, hlog, hout⟩ := slTalked_safe (s := s)
  unfold slAccepted
  rw [h3, h4, h5, slTalked_counter]
  exact ⟨h1, h2, rfl, hlog, hout⟩

theorem slAccepted_rd {seq i j n : Nat} {f : Fld} (hc : (slSend_T ++ slAccept_T).all (clear f) = true) :
    (slAccepted s seq).rd f i j n = s.rd f i j n := by
  unfold slAccepted
  rw [slAccept_rd (all_clear_of_subset hc (by decide)), slTalked_rd (all_clear_of_subset hc (by decide))]

theorem slAccepted_tx {seq : Nat} : (slAccepted s seq).rd SAFE.SL_STAT.tx_seq = s.safe.slNext % 65536 := by
  unfold slAccepted
  rw [slAccept_rd (by decide), slTalked_tx]

/-- Silence is an error of the link, told once. -/
theorem slTimeout_told (hs : s.slServed = true ∧ s.safe.slMute = false)
    (hdue : s.safe.slLast + clamp 5 1000 (s.rd SAFE.SL_CFG.timeout_ms) * 1000000 ≤ s.now) :
    execSlTimeout s = .next (({ s with safe := { s.safe with slMute := true } } : State).slError Code.SL_TIMEOUT 7) :=
  congrArg Host.Outcome.next (if_neg (by simp [hs.1, hs.2, hdue]))

theorem slTimeout_unserved (hs : s.slServed = false) : execSlTimeout s = .next s := congrArg Host.Outcome.next (if_pos (.inl (by rw [hs]; rfl)))

end

/-- Settles O38: a frame's fields are read back from its bytes, a frame in order is accepted before it acts, and each error shows its code. -/
theorem safetyLink : Obligations.SafetyLink := by
  unfold Obligations.SafetyLink
  refine ⟨?length, ?crc, fun s d hs => ⟨congrArg Host.Outcome.next (slTransaction_unserved hs), slTimeout_unserved hs⟩, ?state, ?order, ?clear,
    ?log, ?wake, ?silence⟩
  case length =>
    intro s d ⟨hs, hd⟩
    obtain ⟨hlink, hctr, htold, hsafe⟩ := slError_shown (s := ({ s with safe := { s.safe with slHeard := true } } : State))
      (code := Code.SL_CRC) (n := 5)
    refine ⟨_, congrArg Host.Outcome.next (slTransaction_length hs hd), ?_, ?_, htold, ?_⟩
    · rw [slAnswer_rd, hlink]
    · rw [slAnswer_counter, hctr]
      rfl
    · refine (congrArg SafeSt.slSeq hsafe).trans ?_
      rfl
  case crc =>
    intro s d ⟨hs, hd, hcrc⟩
    obtain ⟨hlink, hctr, -, hsafe⟩ := slError_shown (s := slTalked s) (code := Code.SL_CRC) (n := 5)
    refine ⟨_, congrArg Host.Outcome.next (slTransaction_crc hs hd hcrc), ?_, ?_, ?_⟩
    · rw [slAnswer_rd, hlink]
    · rw [slAnswer_counter, hctr, slTalked_counter]
    · exact (congrArg SafeSt.slNext hsafe).trans slTalked_safe.2.1
  case state =>
    intro s q m n v hs hq
    obtain ⟨hrx, hseq, hctr, -, -⟩ := slAccepted_shown (s := s) (seq := q.toNat)
    refine ⟨_, congrArg Host.Outcome.next ((slTransaction_accepts hs q.isLt (by decide) hq).trans (slAct_state m.isLt n.isLt v.isLt)), rfl, rfl, rfl,
      ?_, hseq, hctr⟩
    rw [rd_with_safe]
    exact hrx.trans (Nat.mod_eq_of_lt q.isLt)
  case order =>
    intro s q m n v p hs ⟨hp, hne⟩
    obtain ⟨hlink, hctr, htold, hsafe⟩ := slError_shown (s := slTalked s) (code := Code.SL_SEQ) (n := 6)
    refine ⟨_, congrArg Host.Outcome.next (slTransaction_seq hs q.isLt hp hne), ?_, ?_, ?_, ?_⟩
    · exact (congrArg SafeSt.machine hsafe).trans slTalked_safe.2.2.1
    · rw [slAnswer_rd, hlink]
    · rw [slAnswer_counter, hctr, slTalked_counter]
    · rw [slTalked_rd (by decide), slTalked_now] at htold
      exact htold
  case clear =>
    intro s q hs hq
    refine ⟨_, congrArg Host.Outcome.next (slTransaction_accepts hs q.isLt (by decide) hq), rfl, ?_, ?_⟩
    · exact slAccepted_shown.1.trans (Nat.mod_eq_of_lt q.isLt)
    · exact slAccepted_tx
  case log =>
    intro s q f e ⟨hs, hout⟩ hq ⟨hlog, he⟩
    obtain ⟨hrx, -, -, hlog', hout'⟩ := slAccepted_shown (s := s) (seq := q.toNat)
    refine ⟨_, congrArg Host.Outcome.next ((slTransaction_accepts hs q.isLt (by decide) hq).trans (slAct_log f.isLt (hlog'.trans hlog) he)), ?_, ?_⟩
    · exact congrArg (· ++ [(0x82, e.bytes ++ leBytes 2 0)]) (hout' hout)
    · rw [slAnswer_rd]
      exact hrx.trans (Nat.mod_eq_of_lt q.isLt)
  case wake =>
    intro s q hs hq hoff
    have hact : (slAccepted s q.toNat).slAct q.toNat 4 (padded []) = slAccepted s q.toNat :=
      wake_of_disabled (by rw [slAccepted_rd (by decide)]; exact hoff) (.inl (by decide))
    refine ⟨_, congrArg Host.Outcome.next ((slTransaction_accepts hs q.isLt (by decide) hq).trans hact), ?_, slAccepted_rd (by decide)⟩
    exact slAccepted_shown.1.trans (Nat.mod_eq_of_lt q.isLt)
  case silence =>
    intro s hs hdue
    obtain ⟨hlink, hctr, htold, hsafe⟩ := slError_shown (s := ({ s with safe := { s.safe with slMute := true } } : State))
      (code := Code.SL_TIMEOUT) (n := 7)
    exact ⟨_, slTimeout_told hs hdue, congrArg SafeSt.slMute hsafe, hlink, hctr, htold⟩

end Sys2Proof.Proofs

/-! Source selection of the heads: overrides, frame starts, hand-back, and a stream that stops (R317, R318, R324, R330). -/

namespace Sys2Proof.Proofs

open Machine Laws

section

variable {s t : State} {h : Nat}

/-! ### What a head is asked to show (R317) -/

theorem wantSource_lt : s.wantSource h < 4 := by
  unfold State.wantSource
  split
  · decide
  · split <;> decide

theorem wantSource_congr (hb : t.rd SAFE.HEAD_SRC.blank = s.rd SAFE.HEAD_SRC.blank)
    (hf : t.rd SAFE.HEAD_SRC.fallback = s.rd SAFE.HEAD_SRC.fallback) : t.wantSource h = s.wantSource h := by
  unfold State.wantSource
  rw [hb, hf]

theorem wantSource_of_clear (hb : bit (s.rd SAFE.HEAD_SRC.blank) h = false) (hf : bit (s.rd SAFE.HEAD_SRC.fallback) h = false) :
    s.wantSource h = 0 := by
  unfold State.wantSource
  rw [hb, hf]
  rfl

theorem shead_congr (e : t.safe = s.safe) : t.shead h = s.shead h := by
  unfold State.shead
  rw [e]

theorem shead_setShead {v : SafeHead} : (s.setShead h v).shead h = v := mget_mset_same

theorem rd_setShead {v : SafeHead} {i j n : Nat} {f : Fld} : (s.setShead h v).rd f i j n = s.rd f i j n := rfl

theorem headSrcNow_changes {old : Nat} : Frame headSrcNow_T s (s.headSrcNow old) := headSrcNow_frame Frame.refl Cov.refl

theorem headSrcWrite_accepted {w : Who} {v : Nat} (hacc : accepts s w .safe 0 0x10C v = true) :
    s.headSrcWrite w v = (s.okResp.storeWord .safe 0 0x10C v).headSrcNow (s.okResp.rd SAFE.HEAD_SRC.dispen_off) := by
  unfold State.headSrcWrite
  rw [onWrite_accepted hacc (by decide)]

/-- A field of HEAD_SRC takes its bits. -/
theorem headSrc_stored {v : Nat} {f : Fld} (hrow : f ∈ pageRows .safe 0) (hat : f.at 0x10C = some (0, false)) (hacc : f.acc = .rw)
    (hd : place (HDR.dirty .safe) 0 ≠ place f 0) (hlen : f.lo + f.len ≤ 32) (hc : headSrcNow_T.all (clear f) = true) {old : Nat} :
    ((s.storeWord .safe 0 0x10C v).headSrcNow old).rd f = bits v f.lo f.len := by
  rw [rd_clear headSrcNow_changes hc]
  exact storeWord_field (b := .safe) (i := 0) hrow hat (by decide) hacc hd hlen

theorem headSrc_resp {v old : Nat} : ((s.storeWord .safe 0 0x10C v).headSrcNow old).resp = s.resp := by
  rw [headSrcNow_changes.resp (by decide), storeWord_resp]

/-- The sources the heads show are those they showed. -/
theorem headSrc_source {v old : Nat} (hh : h < 8) : ((s.storeWord .safe 0 0x10C v).headSrcNow old).rd SAFE.HB_STAT.source 0 h =
    s.rd SAFE.HB_STAT.source 0 h := by
  have hsrc : place SAFE.HB_STAT.source h = (0x130 + 4 * h) % 4096 * 64 + 20 := rfl
  have hparts : (partsAt .safe 0 0x10C).all (fun q => place q.fld q.elt / 64 == 0x10C) = true := by decide
  have hdirty : place (HDR.dirty .safe) 0 / 64 = 0x024 := by decide
  rw [rd_clear headSrcNow_changes (by decide)]
  refine storeWord_rd (fun q hq => ?_) (by omega)
  have hplace := beq_iff_eq.1 (List.all_eq_true.1 hparts q hq)
  omega

/-! ### Frame starts (R317, R328, R330) -/

/-- A head's first active line begins. -/
def frameBegun (s : State) (h : Nat) : State :=
  ((s.wr HEAD.HEAD_STAT.vblank 0 h).wr HEAD.HEAD_STAT.line 0 h).setHead h { s.head h with start := some s.now }

def frameBegun_T : List Piece := [.fld HEAD.HEAD_STAT.vblank, .fld HEAD.HEAD_STAT.line, .heads]

theorem frameBegun_changes : Frame frameBegun_T s (frameBegun s h) :=
  setHead_frame (wr_frame (wr_frame Frame.refl (Cov.of_subset (by decide))) (Cov.of_subset (by decide))) (Cov.of_subset (by decide))

theorem frameBegun_shown : (frameBegun s h).rd HEAD.HEAD_STAT.vblank h = 0 ∧ ((frameBegun s h).head h).start = some s.now := by
  refine ⟨?_, congrArg HeadSt.start head_setHead⟩
  unfold frameBegun
  rw [rd_setHead, rd_wr_sep rfl, rd_wr_same]
  rfl

/-- What follows the selected source: Lantern's and Mirror's parts, the windows, the backlight, and an entry's dark. -/
def frameDrawn (s : State) (h : Nat) : State := (s.safeApply .lantern h).safeApply .mirror h

def frameJudged (s : State) (h : Nat) : State := if s.on SAFE.ISL_STAT.fw_running then (s.winFrame h).linkVis h else s

def frameLit (s : State) (h : Nat) : State := ((s.backlightBack h).showBl h).entryDark h

/-- A frame start of a running head whose clock runs. -/
theorem frameStart_runs (hrun : s.rd HEAD.HEAD_STAT.state h = 2) (hclk : s.headClock h = true) :
    s.frameStart h = frameLit (frameJudged (frameDrawn ((if (frameBegun s h).on SAFE.ISL_STAT.fw_running && (frameBegun s h).mayHandBack h
      then (frameBegun s h).handBack h else frameBegun s h).applySource h) h) h) h := by
  have hr : s.running h = true := beq_iff_eq.2 hrun
  unfold State.frameStart
  rw [if_neg (by rw [hr, hclk]; decide)]
  rfl

theorem frameStart_idle (hidle : s.rd HEAD.HEAD_STAT.state h ≠ 2 ∨ s.headClock h = false) : s.frameStart h = s := by
  unfold State.frameStart
  rw [if_pos]
  exact hidle.imp (fun e => by simpa using not_running e) fun e => by rw [e]; rfl

theorem frameDrawn_changes : Frame (safeApply_T .lantern ++ safeApply_T .mirror) s (frameDrawn s h) :=
  safeApply_frame (safeApply_frame Frame.refl (Cov.of_subset (by decide))) (Cov.of_subset (by decide))

theorem frameJudged_changes : Frame (winFrame_T ++ linkVis_T) s (frameJudged s h) :=
  Frame.ite (linkVis_frame (winFrame_frame Frame.refl (Cov.of_subset (by decide))) (Cov.of_subset (by decide))) Frame.refl

theorem frameLit_changes : Frame (backlightBack_T ++ showBl_T ++ entryDark_T) s (frameLit s h) :=
  entryDark_frame (showBl_frame (backlightBack_frame Frame.refl (Cov.of_subset (by decide))) (Cov.of_subset (by decide)))
    (Cov.of_subset (by decide))

/-- What follows the selected source. -/
def frameShown (s : State) (h : Nat) : State := frameLit (frameJudged (frameDrawn s h) h) h

def frameShown_T : List Piece :=
  safeApply_T .lantern ++ safeApply_T .mirror ++ (winFrame_T ++ linkVis_T) ++ (backlightBack_T ++ showBl_T ++ entryDark_T)

theorem frameShown_changes : Frame frameShown_T s (frameShown s h) :=
  ((frame_mono frameDrawn_changes (by decide)).trans (frame_mono frameJudged_changes (by decide))).trans
    (frame_mono frameLit_changes (by decide))

/-! ### What the island holds of a head through a frame start -/

theorem shead_setWin {k : Nat} {v : WinSt} : (s.setWin k v).shead h = s.shead h := rfl

theorem shead_wrMix {f : Fld} {b : Nat} {pick : Nat → Bool} : (s.wrMix f b pick).shead h = s.shead h :=
  shead_congr ((wrMix_frame Frame.refl Cov.refl).safe (by simp [wrMix_T]))

theorem shead_winReact {k : Nat} : (s.winReact k).shead h = s.shead h := by
  unfold State.winReact
  extract_lets icon s1 s2
  have h1 : s1.shead h = s.shead h := (shead_congr (count_safe ..)).trans shead_wrMix
  have h2 : s2.shead h = s.shead h := by
    unfold s2
    split
    · exact shead_wrMix.trans h1
    · exact h1
  exact shead_setWin.trans h2

theorem shead_winLift {k : Nat} : (s.winLift k).shead h = s.shead h := by
  unfold State.winLift
  extract_lets icon src s1 s2 shared
  have h2 : s2.shead h = s.shead h := shead_wrMix.trans shead_setWin
  clear_value s1 s2
  split
  · exact shead_wrMix.trans h2
  · exact h2

theorem shead_winFrame : (s.winFrame h).shead h = s.shead h := by
  unfold State.winFrame
  refine foldl_same (fun t : State => t.shead h) fun t k => ?_
  dsimp only
  split
  · exact shead_winLift
  · split
    · exact shead_winReact
    · split
      · exact shead_winLift
      · rfl

/-- The backlight's return leaves the fault that holds a head. -/
theorem fault_backlightBack : ((s.backlightBack h).shead h).fault = (s.shead h).fault := by
  unfold State.backlightBack
  split
  · rw [shead_congr ((showBl_frame Frame.refl Cov.refl).safe (by decide)), shead_congr (wr_safe ..), shead_setShead]
  · rfl

theorem fault_frameShown : ((frameShown s h).shead h).fault = (s.shead h).fault := by
  unfold frameShown frameLit
  rw [shead_congr ((entryDark_frame Frame.refl Cov.refl).safe (by decide)), shead_congr ((showBl_frame Frame.refl Cov.refl).safe (by decide)),
    fault_backlightBack]
  unfold frameJudged
  split
  · rw [shead_congr ((linkVis_frame Frame.refl Cov.refl).safe (by decide)), shead_winFrame, shead_congr (frameDrawn_changes.safe (by decide))]
  · rw [shead_congr (frameDrawn_changes.safe (by decide))]

/-! ### The source takes effect -/

theorem applySource_changes : Frame applySource_T s (s.applySource h) := applySource_frame Frame.refl Cov.refl

/-- The end of a change of source. -/
theorem entriesShown_source : ((s.showEntries h).showBl h).rd SAFE.HB_STAT.source 0 h = s.rd SAFE.HB_STAT.source 0 h := by
  rw [rd_clear (showBl_frame Frame.refl Cov.refl) (by decide), rd_clear (showEntries_frame Frame.refl Cov.refl) (by decide)]

/-- The source asked for is the one shown. -/
theorem applySource_source : (s.applySource h).rd SAFE.HB_STAT.source 0 h = s.wantSource h := by
  have hlog : ∀ (u : State) (a b c d e : Nat), (u.logEntry a b c d e).rd SAFE.HB_STAT.source 0 h = u.rd SAFE.HB_STAT.source 0 h :=
    fun u a b c d e => rd_clear (logEntry_frame Frame.refl Cov.refl) (by decide)
  have hevent : ∀ (u : State) (a b : Nat), (u.safeEvent h a b).rd SAFE.HB_STAT.source 0 h = u.rd SAFE.HB_STAT.source 0 h :=
    fun u a b => rd_clear (safeEvent_frame Frame.refl Cov.refl) (by decide)
  unfold State.applySource
  extract_lets was want c code s0 u u1 s1
  have h0 : s0.rd SAFE.HB_STAT.source 0 h = want := (rd_setShead.trans rd_wr_same).trans (Nat.mod_eq_of_lt wantSource_lt)
  clear_value s0
  have hu : u.rd SAFE.HB_STAT.source 0 h = want := by
    unfold u
    split
    · rw [raise_rd_sep (by decide), rd_count, rd_wr_sep (by decide), rd_setShead, h0]
    · split
      · rw [raise_rd_sep (by decide), rd_wr_sep (by decide), rd_setShead, h0]
      · exact h0
  clear_value u
  have hu1 : u1.rd SAFE.HB_STAT.source 0 h = want := by
    unfold u1
    split
    · exact hu
    · exact (hlog ..).trans hu
  clear_value u1
  have h1 : s1.rd SAFE.HB_STAT.source 0 h = want := by
    unfold s1
    split
    · exact h0
    · split
      · exact (hevent ..).trans hu1
      · exact hu1
  exact entriesShown_source.trans h1

/-- A head's status lies apart from the overrides. -/
theorem rd_wr_status {f g : Fld} {v i j : Nat} (hh : h < 8) (hg : g.off = 0x130 ∧ g.stride = 4) (hf : f.off = 0x10C ∧ f.stride = 0) :
    (s.wr g v i h).rd f j = s.rd f j := by
  refine rd_wr_ne (key_ne fun e => ?_)
  unfold place at e
  rw [hg.1, hg.2, hf.1, hf.2] at e
  omega

/-- A source that is shown already keeps what is asked. -/
theorem applySource_want (hh : h < 8) (hsame : s.rd SAFE.HB_STAT.source 0 h = s.wantSource h) :
    (s.applySource h).wantSource h = s.wantSource h := by
  have hrd : ∀ f : Fld, showBl_T.all (clear f) = true → f.off = 0x10C ∧ f.stride = 0 → (s.applySource h).rd f = s.rd f := by
    intro f hc hf
    unfold State.applySource State.showEntries
    dsimp only
    rw [if_pos hsame, rd_clear (showBl_frame Frame.refl Cov.refl) hc, rd_wr_status hh ⟨rfl, rfl⟩ hf, rd_wr_status hh ⟨rfl, rfl⟩ hf, rd_setShead,
      rd_wr_status hh ⟨rfl, rfl⟩ hf]
  exact wantSource_congr (hrd _ (by decide) ⟨rfl, rfl⟩) (hrd _ (by decide) ⟨rfl, rfl⟩)

/-- A source that is shown already counts nothing and keeps the fault that holds the head. -/
theorem applySource_same (hsame : s.rd SAFE.HB_STAT.source 0 h = s.wantSource h) {j : Nat} :
    (s.applySource h).counter .safe 0 j = s.counter .safe 0 j ∧ ((s.applySource h).shead h).fault = (s.shead h).fault := by
  unfold State.applySource
  dsimp only
  rw [if_pos hsame, (showBl_frame Frame.refl Cov.refl).ctr .safe _ _ (by decide) (by decide),
    (showEntries_frame Frame.refl Cov.refl).ctr .safe _ _ (by decide) (by decide),
    shead_congr ((showBl_frame Frame.refl Cov.refl).safe (by decide)), shead_congr ((showEntries_frame Frame.refl Cov.refl).safe (by decide)),
    shead_setShead]
  exact ⟨rfl, rfl⟩

/-! ### Hand-back (R330) -/

theorem bit_clrAt {f : Fld} : bit ((s.clrAt f h).rd f) h = false := by
  unfold State.clrAt
  rw [rd_wr_same]
  unfold bit
  rw [Nat.testBit_mod_two_pow, show (clrBit (s.rd f) h).testBit h = false from bit_clrBit, Bool.and_false]

theorem rd_clrAt {f g : Fld} {i j n : Nat} (hs : sep f g = true) : (s.clrAt f h).rd g i j n = s.rd g i j n := rd_wr_sep hs

/-- The overrides of a head are clear. -/
def overridesClear (s : State) (h : Nat) : State :=
  (((s.clrAt SAFE.HEAD_SRC.fallback h).clrAt SAFE.HEAD_SRC.blank h).clrAt SAFE.HEAD_SRC.dispen_off h).clrAt SAFE.HEAD_SRC.bl_off h

theorem overridesClear_shown : bit ((overridesClear s h).rd SAFE.HEAD_SRC.blank) h = false ∧
    bit ((overridesClear s h).rd SAFE.HEAD_SRC.fallback) h = false := by
  unfold overridesClear
  refine ⟨?_, ?_⟩
  · rw [rd_clrAt rfl, rd_clrAt rfl]
    exact bit_clrAt
  · rw [rd_clrAt rfl, rd_clrAt rfl, rd_clrAt rfl]
    exact bit_clrAt

theorem counter_overridesClear {j : Nat} : (overridesClear s h).counter .safe 0 j = s.counter .safe 0 j := by
  unfold overridesClear State.clrAt
  rw [counter_wr, counter_wr, counter_wr, counter_wr]

/-- The head shows the compositor source, and no fault holds it. -/
def sourceReturned (s : State) (h : Nat) : State :=
  ((s.setShead h { s.shead h with fault := false, early := false }).wr SAFE.HB_STAT.source 0 0 h).wr SAFE.HB_STAT.good 0 0 h

/-- The return is counted, logged and delivered. -/
def returnTold (s : State) (h : Nat) : State :=
  (((s.count .safe 0 1).raise .safe 0 9).logEntry s.now Code.SAFE_EXIT (Blk.typeCode .safe * 256) (2 ^ h) 0).safeEvent h Code.SAFE_EXIT 0

theorem handBack_eq : s.handBack h = returnTold (sourceReturned (overridesClear s h) h) h := rfl

theorem logEntry_changes {a b c d e : Nat} : Frame logEntry_T s (s.logEntry a b c d e) := logEntry_frame Frame.refl Cov.refl

/-- A log entry leaves what the island holds of the heads. -/
theorem shead_logEntry {a b c d e : Nat} : (s.logEntry a b c d e).shead h = s.shead h := by
  unfold State.logEntry
  extract_lets k ent full log aon s1 s2 s3
  have h1 : s1.shead h = s.shead h := rfl
  have h2 : s2.shead h = s.shead h := (shead_congr (by unfold s2; rw [wr_safe, wr_safe])).trans h1
  have h3 : s3.shead h = s.shead h := by
    unfold s3
    split
    · exact (shead_congr (wr_safe ..)).trans h2
    · exact h2
  exact (shead_congr ((raise_safe ..).trans (count_safe ..))).trans h3

theorem returnTold_rd {i j n : Nat} {f : Fld} (hev : sep (HDR.ev_raw .safe) f = true) (hc : (logEntry_T ++ safeEvent_T).all (clear f) = true) :
    (returnTold s h).rd f i j n = s.rd f i j n := by
  unfold returnTold
  rw [rd_clear (safeEvent_frame Frame.refl Cov.refl) (all_clear_of_subset hc (by decide)),
    rd_clear logEntry_changes (all_clear_of_subset hc (by decide)), raise_rd_sep hev, rd_count]

theorem logEntry_counter {a b c d e : Nat} : (s.logEntry a b c d e).counter .safe 0 1 = s.counter .safe 0 1 := by
  unfold State.logEntry
  extract_lets k ent full log aon s1 s2 s3
  have h1 : s1.counter .safe 0 1 = s.counter .safe 0 1 := rfl
  have h2 : s2.counter .safe 0 1 = s.counter .safe 0 1 := by
    unfold s2
    rw [counter_wr, counter_wr]
    exact h1
  have h3 : s3.counter .safe 0 1 = s.counter .safe 0 1 := by
    unfold s3
    split
    · rw [counter_wr, h2]
    · exact h2
  rw [counter_raise, counter_count_ne (by unfold ctrKey; omega), h3]

theorem returnTold_shown : (returnTold s h).counter .safe 0 1 = (s.counter .safe 0 1 + 1) % 2 ^ 64 ∧ (returnTold s h).shead h = s.shead h := by
  unfold returnTold
  rw [(safeEvent_frame Frame.refl Cov.refl).ctr .safe _ _ (by decide) (by decide), logEntry_counter, counter_raise, counter_count_same,
    shead_congr ((safeEvent_frame Frame.refl Cov.refl).safe (by decide)), shead_logEntry, shead_congr (raise_safe ..), shead_congr (count_safe ..)]
  exact ⟨rfl, rfl⟩

/-- After a hand-back the head shows, and is asked for, the compositor source; it is counted, and no fault holds the head. -/
theorem handBack_shown (hh : h < 8) : (s.handBack h).rd SAFE.HB_STAT.source 0 h = 0 ∧ (s.handBack h).wantSource h = 0 ∧
    (s.handBack h).counter .safe 0 1 = (s.counter .safe 0 1 + 1) % 2 ^ 64 ∧ ((s.handBack h).shead h).fault = false := by
  obtain ⟨hb, hf⟩ := overridesClear_shown (s := s) (h := h)
  have hctr := counter_overridesClear (s := s) (h := h) (j := 1)
  rw [handBack_eq]
  generalize overridesClear s h = u at *
  have hsrc : (sourceReturned u h).rd SAFE.HB_STAT.source 0 h = 0 := by
    unfold sourceReturned
    rw [rd_wr_sep rfl, rd_wr_same]
    rfl
  have hrd : ∀ f : Fld, f.off = 0x10C ∧ f.stride = 0 → (sourceReturned u h).rd f = u.rd f := fun f hoff => by
    unfold sourceReturned
    rw [rd_wr_status hh ⟨rfl, rfl⟩ hoff, rd_wr_status hh ⟨rfl, rfl⟩ hoff, rd_setShead]
  have hcount : (sourceReturned u h).counter .safe 0 1 = u.counter .safe 0 1 := by
    unfold sourceReturned
    rw [counter_wr, counter_wr]
    rfl
  have hfault : ((sourceReturned u h).shead h).fault = false := by
    unfold sourceReturned
    rw [shead_congr (wr_safe ..), shead_congr (wr_safe ..), shead_setShead]
  obtain ⟨htold, hheld⟩ := returnTold_shown (s := sourceReturned u h) (h := h)
  refine ⟨?_, ?_, ?_, ?_⟩
  · rw [returnTold_rd (by decide) (by decide), hsrc]
  · refine wantSource_of_clear ?_ ?_
    · rw [returnTold_rd (by decide) (by decide), hrd _ ⟨rfl, rfl⟩, hb]
    · rw [returnTold_rd (by decide) (by decide), hrd _ ⟨rfl, rfl⟩, hf]
  · rw [htold, hcount, hctr]
  · rw [hheld, hfault]

/-- Whether a head may hand back does not turn on the start of its frame. -/
theorem mayHandBack_begun : (frameBegun s h).mayHandBack h = s.mayHandBack h := by
  have hnow : (frameBegun s h).now = s.now := now_congr (frameBegun_changes.time (by decide))
  have hhead : (frameBegun s h).shead h = s.shead h := shead_congr (frameBegun_changes.safe (by decide))
  have hrd : ∀ {f : Fld} {j : Nat}, frameBegun_T.all (clear f) = true → (frameBegun s h).rd f 0 j = s.rd f 0 j := fun hc =>
    rd_clear frameBegun_changes hc
  unfold State.mayHandBack State.recent State.neededFor
  rw [hnow, hhead, hrd (by decide), hrd (by decide), hrd (by decide), hrd (by decide), hrd (by decide)]

theorem handsBack_begun : ((frameBegun s h).on SAFE.ISL_STAT.fw_running && (frameBegun s h).mayHandBack h) =
    (s.on SAFE.ISL_STAT.fw_running && s.mayHandBack h) := by
  rw [mayHandBack_begun, on_clear frameBegun_changes (by decide)]

theorem wantSource_begun : (frameBegun s h).wantSource h = s.wantSource h :=
  wantSource_congr (rd_clear frameBegun_changes (by decide)) (rd_clear frameBegun_changes (by decide))

/-- Without a hand-back the source asked for takes effect. -/
theorem frameStart_selects (hrun : s.rd HEAD.HEAD_STAT.state h = 2) (hclk : s.headClock h = true)
    (hno : s.on SAFE.ISL_STAT.fw_running = false ∨ s.mayHandBack h = false) :
    s.frameStart h = frameShown ((frameBegun s h).applySource h) h := by
  rw [frameStart_runs hrun hclk, handsBack_begun, if_neg (by rcases hno with e | e <;> simp [e])]
  rfl

/-- With one the head returns. -/
theorem frameStart_returns (hrun : s.rd HEAD.HEAD_STAT.state h = 2) (hclk : s.headClock h = true)
    (hback : s.on SAFE.ISL_STAT.fw_running = true ∧ s.mayHandBack h = true) :
    s.frameStart h = frameShown (((frameBegun s h).handBack h).applySource h) h := by
  rw [frameStart_runs hrun hclk, handsBack_begun, if_pos (by simp [hback])]
  rfl

/-! ### The backlight goes off early (R220, R221) -/

/-- The backlight of a head is forced off. -/
def backlightForced (s : State) (h : Nat) : State :=
  (s.setShead h { s.shead h with early := true }).wr SAFE.HEAD_SRC.bl_off (setBit (s.rd SAFE.HEAD_SRC.bl_off) h)

theorem earlyBacklightOff_due {k : Fin 8} (hrun : s.running k.val = true) (hsrc : s.rd SAFE.HB_STAT.source 0 k.val ≠ s.wantSource k.val)
    (hdue : (s.shead k.val).since + s.treact k.val ≤ s.now + s.periodNs k.val) :
    execEarlyBacklightOff k s = .next (((backlightForced s k.val).showBl k.val).logReact (fun e => bit e.heads k.val) 2) :=
  congrArg Host.Outcome.next (if_neg (by simp [hrun, hsrc, hdue]))

theorem earlyBacklightOff_idle {k : Fin 8} (hrun : s.running k.val = false) : execEarlyBacklightOff k s = .next s :=
  congrArg Host.Outcome.next (if_pos (.inl (by rw [hrun]; rfl)))

theorem shead_logReact {p : LogEnt → Bool} {n : Nat} : (s.logReact p n).shead h = s.shead h := rfl

theorem rd_logReact {p : LogEnt → Bool} {n i j b : Nat} {f : Fld} : (s.logReact p n).rd f i j b = s.rd f i j b := rfl

theorem backlightForced_shown (hh : h < 8) :
    bit ((backlightForced s h).rd SAFE.HEAD_SRC.bl_off) h = true ∧ ((backlightForced s h).shead h).early = true ∧
      (backlightForced s h).rd SAFE.HB_STAT.source 0 h = s.rd SAFE.HB_STAT.source 0 h := by
  unfold backlightForced
  refine ⟨?_, ?_, ?_⟩
  · rw [rd_wr_same]
    exact bit_setBit_mod hh
  · rw [shead_congr (wr_safe ..), shead_setShead]
  · rw [rd_wr_sep rfl, rd_setShead]

/-! ### A stream that stops (R318, R324) -/

/-- A head's stream has stopped, before the fault line carries it. -/
def streamStopped (s : State) (h : Nat) : State :=
  (((s.chk MIRROR.CHK_STAT.timing_ok h false).setShead h { s.shead h with stopped := true }).count .mirror 0 3).raise .mirror 0 10

theorem streamStop_told {k : Fin 8} (hst : (s.shead k.val).stopped = false ∧ s.rd PWR.STATE.state ≤ 1 ∧ s.rd HEAD.FRAME_CNT.count k.val ≠ 0 ∧
    s.running k.val = true) (hdue : s.rd HEAD.VBL_TIME.time k.val + max 1 (s.rd MIRROR.TIM_TOL.stop_frames) * s.periodNs k.val ≤ s.now) :
    execMirrorStreamStop k s = .next ((streamStopped s k.val).faultLine Code.MIRROR_TIMING .mirror 0 (2 ^ k.val)) := by
  obtain ⟨hstop, hpwr, hcnt, hrun⟩ := hst
  refine congrArg Host.Outcome.next (if_neg ?_)
  rw [hstop, hrun]
  rintro (h | h | h | h | h)
  · exact absurd h (by decide)
  · omega
  · exact hcnt h
  · omega
  · exact absurd h.1 (by decide)

theorem streamStop_left {k : Fin 8} (h : (s.shead k.val).stopped = true ∨ 1 < s.rd PWR.STATE.state ∨ s.rd HEAD.FRAME_CNT.count k.val = 0) :
    execMirrorStreamStop k s = .next s :=
  congrArg Host.Outcome.next (if_pos (by rcases h with h | h | h <;> simp [h]))

theorem streamStopped_shown : bit ((streamStopped s h).rd MIRROR.CHK_STAT.timing_ok) h = false ∧ ((streamStopped s h).shead h).stopped = true ∧
    (streamStopped s h).counter .mirror 0 3 = (s.counter .mirror 0 3 + 1) % 2 ^ 64 ∧ (streamStopped s h).time = s.time := by
  unfold streamStopped
  refine ⟨?_, ?_, ?_, ?_⟩
  · rw [raise_rd_sep (by decide), rd_count, rd_setShead]
    exact bit_clrAt
  · rw [shead_congr (raise_safe ..), shead_congr (count_safe ..), shead_setShead]
  · rw [counter_raise, counter_count_same]
    exact congrArg (fun c => (c + 1) % 2 ^ 64) (counter_wr ..)
  · rw [raise_time, count_time]
    exact (chk_frame Frame.refl Cov.refl).time (by simp [chk_T])

end

/-- Settles O36: an override waits for the head's frame start, which shows what is asked, or after a hand-back the compositor source. -/
theorem sourceSelection : Obligations.SourceSelection := by
  unfold Obligations.SourceSelection
  refine ⟨?stored, ?kept, ?selects, ?returns, fun s h hidle => congrArg Host.Outcome.next (frameStart_idle hidle), ?early,
    fun s h hrun => earlyBacklightOff_idle hrun, ?stops, fun s h hleft => streamStop_left hleft⟩
  case stored =>
    intro s w v hacc
    refine ⟨_, congrArg Host.Outcome.next (headSrcWrite_accepted hacc), ?_, ?_, ?_, ?_⟩
    · exact headSrc_stored (f := SAFE.HEAD_SRC.fallback) (by decide) rfl rfl (by decide) (by decide) (by decide)
    · exact headSrc_stored (f := SAFE.HEAD_SRC.blank) (by decide) rfl rfl (by decide) (by decide) (by decide)
    · exact headSrc_stored (f := SAFE.HEAD_SRC.dispen_off) (by decide) rfl rfl (by decide) (by decide) (by decide)
    · exact congrArg Resp.ok headSrc_resp
  case kept =>
    intro s w v h hacc
    exact ⟨_, congrArg Host.Outcome.next (headSrcWrite_accepted hacc), (headSrc_source h.isLt).trans (rd_okResp ..)⟩
  case selects =>
    intro s h hrun hno hclk
    refine ⟨_, congrArg Host.Outcome.next (frameStart_selects hrun hclk hno), ?_, ?_, ?_⟩
    · rw [rd_clear frameShown_changes (by decide), applySource_source, wantSource_begun]
    · rw [rd_clear frameShown_changes (by decide), rd_clear applySource_changes (by decide), frameBegun_shown.1]
    · rw [head_congr (frameShown_changes.heads (by decide)), head_congr (applySource_changes.heads (by decide)), frameBegun_shown.2]
  case returns =>
    intro s h hrun hback hclk
    obtain ⟨hsrc, hwant, hctr, hfault⟩ := handBack_shown (s := frameBegun s h.val) h.isLt
    obtain ⟨hsame, hheld⟩ := applySource_same (hsrc.trans hwant.symm) (j := 1)
    refine ⟨_, congrArg Host.Outcome.next (frameStart_returns hrun hclk hback), ?_, ?_, ?_, ?_⟩
    · rw [rd_clear frameShown_changes (by decide), applySource_source, hwant]
    · rw [wantSource_congr (rd_clear frameShown_changes (by decide)) (rd_clear frameShown_changes (by decide)),
        applySource_want h.isLt (hsrc.trans hwant.symm), hwant]
    · rw [frameShown_changes.ctr .safe _ _ (by decide) (by decide), hsame, hctr, frameBegun_changes.ctr .safe _ _ (by decide) (by decide)]
    · rw [fault_frameShown, hheld, hfault]
  case early =>
    intro s h ⟨hrun, hsrc⟩ hdue
    obtain ⟨hoff, hearly, hkept⟩ := backlightForced_shown (s := s) h.isLt
    refine ⟨_, earlyBacklightOff_due hrun hsrc hdue, ?_, ?_, ?_⟩
    · rw [rd_logReact, rd_clear (showBl_frame Frame.refl Cov.refl) (by decide), hoff]
    · rw [shead_logReact, shead_congr ((showBl_frame Frame.refl Cov.refl).safe (by decide)), hearly]
    · rw [rd_logReact, rd_clear (showBl_frame Frame.refl Cov.refl) (by decide), hkept]
  case stops =>
    intro s h hst hdue
    obtain ⟨hbit, hstopped, hctr, htime⟩ := streamStopped_shown (s := s) (h := h.val)
    refine ⟨_, streamStop_told hst hdue, ?_, hstopped, counter_faultLine.trans hctr, ?_⟩
    · rw [faultLine_rd]
      exact hbit
    · rw [← now_congr htime]
      exact mem_faultLine

end Sys2Proof.Proofs
